-- ==== Sys2Proof/Word.lean ====
section
/-! DEFINITION. The word types of the SLX-8640 model and the plain containers its state is made of. -/

namespace Sys2Proof

/-- Registers are 32 bits wide (R8). -/
abbrev Word := BitVec 32

/-- A byte of a frame, a message or a record. -/
abbrev Byte := BitVec 8

/-- A 64-bit quantity: a compact stamp, an action or engine register (R64, R196, R208). -/
abbrev Dword := BitVec 64

/-- A byte string: a frame, a message, or a record of a table in the manual's own layout (R8). -/
abbrev Bytes := List Byte

/-- A sparse table keyed by a number: keys strictly rising (Machine/Map.lean keeps the form). -/
abbrev AMap (α : Type) := List (Nat × α)

end Sys2Proof
end

