-- ==== Sys2Proof/Syntax.lean ====
section
/-! DEFINITION. The commands of the SLX-8640, one constructor per row of spec/opcode_table.json. The table gives
its rows no bits and no fields; the operands are what the manual's description of the command names (a channel, a
packet, a MAC, an address, the bytes that arrive), notes/assumptions/1.md. -/

namespace Sys2Proof

/-- The commands and events of the opcode table. -/
inductive Instr where
  /-- SUPPLY_UP (R574): Every supply reaches its range from OFF and the adapter enters HELD. Every supply reaches its range (R574, R654). -/
  | supplyUp
  /-- SUPPLY_REMOVED (R574): Supply power is removed and the adapter goes to OFF from any mode. Supply power is removed (R574). -/
  | supplyRemoved
  /-- SUPPLY_MONITOR_TRIP (R652): A supply stays more than 5 % out of range for 2 µs or longer while SYS_RST_N is deasserted, causing a supply-monitor reset. Supply `supply` of R650 stays out of range for 2 µs or longer (R652). -/
  | supplyMonitorTrip (supply : Nat)
  /-- SYS_RST_N_ASSERT (R647): A low pulse of at least 1 µs on SYS_RST_N causes a pin reset to HELD. SYS_RST_N is driven low for at least `widthNs` nanoseconds (R647). -/
  | sysRstNAssert (widthNs : Nat)
  /-- SYS_RST_N_DEASSERT (R574): SYS_RST_N is deasserted with supplies and TB_OSC in range; HELD ends and BOOT begins. SYS_RST_N is driven high (R574, R659). -/
  | sysRstNDeassert
  /-- TB_OSC_RANGE_CHANGE (R654): TB_OSC enters or leaves its range, which holds the adapter in HELD or lets it proceed. TB_OSC enters or leaves its range (R654). -/
  | tbOscRangeChange (inRange : Bool)
  /-- WELLHEAD_IMAGE_VERIFY (R583): The boot ROM finishes reading and verifying the Wellhead image of the boot bank, falling back to the other bank on failure. The boot ROM has read and verified the Wellhead image (R583, R584). -/
  | wellheadImageVerify
  /-- CASCADE_MANIFEST_CHECK (R590): Firmware verifies the Cascade image and the manifest and checks that the pair is listed. Firmware has checked the Cascade image, the manifest and the pair (R582, R590). -/
  | cascadeManifestCheck
  /-- HBM_TRAINING_DONE (R582): HBM training completes, with retired pseudo-channels excluded. HBM training is complete; the pseudo-channels `failed` failed it (R582, R603). -/
  | hbmTrainingDone (failed : List Nat)
  /-- BOOT_SELF_TEST_DONE (R582): The built-in self-test of each rail completes, and a failing rail is retired. The built-in self-test of both rails is complete (R582). -/
  | bootSelfTestDone (failA failB : Bool)
  /-- BOOT_COMPLETE (R573): Boot ends: the Heartwood settings are applied, initial state is set, and PROVISION or RESTRICTED is entered. Boot ends (R573, R574, R582, R584). -/
  | bootComplete
  /-- DEVICE_RESET_START (R581): A device reset begins once its answer is acknowledged, or 100 ms after it was posted. A device reset begins (R581). -/
  | deviceResetStart
  /-- QUIESCENT_ENTRY_DONE (R577): Entry to QUIESCENT completes within 5 ms, with the pipelines stopped, HBM in self-refresh and the SerDes powered down. Entry to QUIESCENT completes (R577). -/
  | quiescentEntryDone
  /-- QUIESCENT_EXIT_DONE (R577): The return from QUIESCENT to PROVISION completes within 50 ms. The return from QUIESCENT completes (R577). -/
  | quiescentExitDone
  /-- LOCKSTEP_MISMATCH (R594): The Wellhead comparator finds a mismatch; the active pair stops and restarts from checkpoint, or the spare pair takes over. -/
  | lockstepMismatch
  /-- WATCHDOG_EXPIRE (R594): The firmware watchdog sees no heartbeat for 2 ms and a Wellhead restart follows. -/
  | watchdogExpire
  /-- WELLHEAD_RESUME (R594): Mailbox service resumes after a Wellhead restart; block changes are reported, RUNNING commands resume and WH_RESTARTED is sent. -/
  | wellheadResume
  /-- CHECKPOINT_TIMER (R593): Firmware writes a checkpoint of its state to HBM at least every 10 ms. -/
  | checkpointTimer
  /-- SPARE_SELF_TEST (R592): The spare lockstep pair runs its 24-hour self-test, and is retired if it fails. Whether the pair passes. -/
  | spareSelfTest (pass : Bool)
  /-- HANDOVER_SPARE_LOADED (R597): The spare pair finishes loading and verifying the new Wellhead image, then waits to import. -/
  | handoverSpareLoaded
  /-- HANDOVER_EXPORT (R597): The old firmware stops mailbox service and writes its final state export. -/
  | handoverExport
  /-- HANDOVER_IMPORT_DONE (R597): The new firmware imports the state, its pair becomes active and mailbox service resumes. -/
  | handoverImportDone
  /-- HANDOVER_OLD_PAIR_LOADED (R597): The old pair finishes loading the new image and becomes the spare. -/
  | handoverOldPairLoaded
  /-- CLUSTER_CODE_SWITCH (R598): A cluster stops dispatch, lets active items finish for up to 1 ms, aborts the rest, empties its channels and loads new code on both rails. -/
  | clusterCodeSwitch
  /-- HANDOVER_COMPLETE (R597): The boot word is written with the new banks, HANDOVER ends and FW_HANDOVER_DONE is sent. A handover completes (R597, step 7; R600). -/
  | handoverComplete
  /-- HANDOVER_FAILURE (R599): A handover fails in step 2 or 4, or on a mismatch before step 3, and ends with RESULT 2 with no bank changed. -/
  | handoverFailure
  /-- HBM_PC_AUTO_RETIRE (R603): An HBM pseudo-channel reaches 4 uncorrectable errors in 24 h and is retired. Pseudo-channel `pc` reaches 4 uncorrectable errors in 24 h (R603). -/
  | hbmPcAutoRetire (pc : Nat)
  /-- HBM_PC_RETIRE_DONE (R604): The granules of a pseudo-channel have been moved and the Basin page area shrinks. The granules of the pseudo-channel being retired have been moved (R604). -/
  | hbmPcRetireDone
  /-- PCIE_LANE_ERROR_POLL (R603): Firmware finds a PCIe lane's Lane Error Status set at 16 consecutive 1 ms reads and retires the lane. Endpoint and lane. -/
  | pcieLaneErrorPoll (ep lane : Nat)
  /-- ETH_LANE_FEC_THRESHOLD (R603): An Ethernet or Itwin lane has more than 10,000,000 corrected symbols in each of 3 seconds and is retired. Lane `lane` of port 0 or 1, or of Itwin as port 2, has too many corrected FEC symbols (R603). -/
  | ethLaneFecThreshold (port lane : Nat)
  /-- LANE_LOCK_LOSS (R372): A lane loses lock for more than 500 ms and is retired under R341. Lane `lane` of port 0 or 1, or of Itwin as port 2, has lost lock for more than 500 ms (R372, R603). -/
  | laneLockLoss (port lane : Nat)
  /-- FRAME_RX (R343): A MAC receives a whole frame, checks it and, if good, admits it to Basin. MAC, the frame with its FCS, whether check 1 of R343 fails, whether its reassembly is discarded, the lane of its start, and the non-final fragments it came in. -/
  | frameRx (m : Nat) (frame : Bytes) (pcsErr preemptErr : Bool) (lane frags : Nat)
  /-- TWIN_STREAM_WAIT_END (R258): A Twin packet that waited for its stream to fall below 4,096 unfinished sequences proceeds. Packet `p`. -/
  | twinStreamWaitEnd (p : Nat)
  /-- PASS_START (R41): A packet's pass starts at a calendar entry of its slice or of the open share. Packet `p`, at entry `pos` of its pipeline's calendar. -/
  | passStart (p pos : Nat)
  /-- EXC_RETRY (R217): An exception in a retry list retries at a start slot of its slice. Packet `p` of a retry list, at entry `pos` of its pipeline's calendar. -/
  | excRetry (p pos : Nat)
  /-- PARSE_COMPLETE (R92): Plane finishes walking the parse graph and writes the metadata. Packet `p`. -/
  | parseComplete (p : Nat)
  /-- RASP_SCAN_START (R107): A queued packet gets a free Rasp lane and its scan begins. Packet `p`, the oldest in its pipeline's Rasp queue. -/
  | raspScanStart (p : Nat)
  /-- RASP_SCAN_COMPLETE (R106): A Rasp scan ends and its match results are written. Packet `p`. -/
  | raspScanComplete (p : Nat)
  /-- JIG_CLASSIFY (R130): The Jig lookup completes and the result is applied: slice, class, slice check, miss drop and class policies. Packet `p`. -/
  | jigClassify (p : Nat)
  /-- ACTION_RECORD_FETCH (R199): The action unit takes the pass and reads its record, from the cache or from HBM. Packet `p`. -/
  | actionRecordFetch (p : Nat)
  /-- LDI (R197): Loads the immediate into a register. The next operation of packet `p`'s record. -/
  | ldi (p : Nat)
  /-- LDF (R197): Loads a field, zero-extended, into a register. The next operation of packet `p`'s record. -/
  | ldf (p : Nat)
  /-- STF (R197): Stores a register into a field. The next operation of packet `p`'s record. -/
  | stf (p : Nat)
  /-- MOV (R197): Copies one register to another. The next operation of packet `p`'s record. -/
  | mov (p : Nat)
  /-- ADD (R197): Adds two registers. The next operation of packet `p`'s record. -/
  | add (p : Nat)
  /-- SUB (R197): Subtracts two registers. The next operation of packet `p`'s record. -/
  | sub (p : Nat)
  /-- AND (R197): Bitwise AND of two registers. The next operation of packet `p`'s record. -/
  | and (p : Nat)
  /-- OR (R197): Bitwise OR of two registers. The next operation of packet `p`'s record. -/
  | or (p : Nat)
  /-- XOR (R197): Bitwise XOR of two registers. The next operation of packet `p`'s record. -/
  | xor (p : Nat)
  /-- SHL (R197): Shifts a register left. The next operation of packet `p`'s record. -/
  | shl (p : Nat)
  /-- SHR (R197): Shifts a register right, logically. The next operation of packet `p`'s record. -/
  | shr (p : Nat)
  /-- ADDI (R197): Adds the immediate to a register. The next operation of packet `p`'s record. -/
  | addi (p : Nat)
  /-- CRC (R197): Computes the CRC-32C of the low bytes of a register. The next operation of packet `p`'s record. -/
  | crc (p : Nat)
  /-- BEQ (R197): Branches when two registers are equal. The next operation of packet `p`'s record. -/
  | beq (p : Nat)
  /-- BNE (R197): Branches when two registers differ. The next operation of packet `p`'s record. -/
  | bne (p : Nat)
  /-- BLT (R197): Branches on unsigned less-than. The next operation of packet `p`'s record. -/
  | blt (p : Nat)
  /-- BGE (R197): Branches on unsigned greater-or-equal. The next operation of packet `p`'s record. -/
  | bge (p : Nat)
  /-- BTST (R197): Branches when the named bit of a register is set. The next operation of packet `p`'s record. -/
  | btst (p : Nat)
  /-- JUMP (R197): Continues at operation 0 of another record. The next operation of packet `p`'s record. -/
  | jump (p : Nat)
  /-- END (R198): Ends the record; without a verdict the pass is dropped. The next operation of packet `p`'s record. -/
  | endOp (p : Nat)
  /-- LOOKUP (R166): A Cistern lookup returns an entry, its location and its epoch, with an optional refresh. The next operation of packet `p`'s record. -/
  | lookup (p : Nat)
  /-- ENT_UPDATE (R172): Updates a field of the last-hit entry under the epoch protocol. The next operation of packet `p`'s record. -/
  | entUpdate (p : Nat)
  /-- LEARN (R180): Queues a learn request to Scribe. The next operation of packet `p`'s record. -/
  | learn (p : Nat)
  /-- INSERT (R197): Queues a FLOW insertion to Scribe. The next operation of packet `p`'s record. -/
  | insert (p : Nat)
  /-- DELETE (R197): Queues the deletion of the last-hit entry. The next operation of packet `p`'s record. -/
  | delete (p : Nat)
  /-- TTL_DEC (R197): Decrements TTL or the hop limit and updates the checksum. The next operation of packet `p`'s record. -/
  | ttlDec (p : Nat)
  /-- CSTF (R197): Writes a field with incremental updates of up to two checksums. The next operation of packet `p`'s record. -/
  | cstf (p : Nat)
  /-- VLAN_PUSH (R197): Schedules the insertion of a VLAN tag. The next operation of packet `p`'s record. -/
  | vlanPush (p : Nat)
  /-- VLAN_POP (R675): Schedules the removal of the first tag. The next operation of packet `p`'s record. -/
  | vlanPop (p : Nat)
  /-- ENCAP (R304): Schedules the prepending of a tunnel template. The next operation of packet `p`'s record. -/
  | encap (p : Nat)
  /-- DECAP (R306): Schedules the removal of the bytes before a layer slot. The next operation of packet `p`'s record. -/
  | decap (p : Nat)
  /-- SET_TC (R197): Sets the egress traffic class. The next operation of packet `p`'s record. -/
  | setTc (p : Nat)
  /-- MARK (R197): ORs bits into USER_FLAGS. The next operation of packet `p`'s record. -/
  | mark (p : Nat)
  /-- SET_CLASS (R197): Sets the packet's CLASS. The next operation of packet `p`'s record. -/
  | setClass (p : Nat)
  /-- SET_SA (R309): Attaches a security association to the pass. The next operation of packet `p`'s record. -/
  | setSa (p : Nat)
  /-- COUNT (R197): Increments a counter block. The next operation of packet `p`'s record. -/
  | count (p : Nat)
  /-- MIRROR (R676): Sends a copy of the packet to a DEST, at most 2 per pass. The next operation of packet `p`'s record. -/
  | mirror (p : Nat)
  /-- FWD_PORT (R197): Verdict: send to a MAC; applies length edits and ends the pass. The next operation of packet `p`'s record. -/
  | fwdPort (p : Nat)
  /-- FWD_HOST (R197): Verdict: deliver to a host queue of a slice. The next operation of packet `p`'s record. -/
  | fwdHost (p : Nat)
  /-- FLOOD (R197): Verdict: send to the flood list of a bridge domain, except the ingress source. The next operation of packet `p`'s record. -/
  | flood (p : Nat)
  /-- DROP (R197): Verdict: drop. The next operation of packet `p`'s record. -/
  | drop (p : Nat)
  /-- TO_ENGINE (R216): Verdict: queue an exception work item to a cluster. The next operation of packet `p`'s record. -/
  | toEngine (p : Nat)
  /-- RECIRC (R197): Verdict: start another pass, or ACT_PASS_LIMIT at pass 3. The next operation of packet `p`'s record. -/
  | recirc (p : Nat)
  /-- CRYPTO_TRANSFORM_DONE (R310): An AES-GCM core completes a transform at the end of a pass and updates the SA. Packet copy `p`. -/
  | cryptoTransformDone (p : Nat)
  /-- CRYPTO_CORE_FAIL (R310): A core's self-check fails; the core is retired and its transform restarts on another core. Core 0 to 23. -/
  | cryptoCoreFail (core : Nat)
  /-- CRY_PAIR_EXPIRE (R312): A held SA outcome waits 100 µs and becomes an expiry mark, which itself lasts 10 ms. Twin stream, sequence number and pass of the transform; ordinal 0 for that of SET_SA, 1 for TLS records. -/
  | cryPairExpire (stream : Nat) (seq : Word) (pass ordinal : Nat)
  /-- PAIR_RESULT_EXPIRE (R169): A held Cistern result waits 100 µs and is replaced by an expiry mark. The held result of this Twin lookup. -/
  | pairResultExpire (stream : Nat) (seq : Word) (pass ordinal : Nat)
  /-- PAIR_MARK_EXPIRE (R169): An expiry mark is freed 10 ms after its first copy was served. The expiry mark of this Twin lookup. -/
  | pairMarkExpire (stream : Nat) (seq : Word) (pass ordinal : Nat)
  /-- SCRIBE_REQUEST (R173): Scribe takes the next request from its queue in order of arrival. -/
  | scribeRequest
  /-- SCRIBE_INSERT (R175): Scribe inserts a key through a free way, a relocation chain or the stash. -/
  | scribeInsert
  /-- SCRIBE_LEARN (R180): Scribe applies a learn request with stamp ordering and flap detection. -/
  | scribeLearn
  /-- SCRIBE_DELETE (R173): Scribe deletes an entry. -/
  | scribeDelete
  /-- SCRIBE_UPDATE (R172): Scribe applies a data change addressed by location and epoch. -/
  | scribeUpdate
  /-- STASH_PROMOTE (R177): A stash entry moves into a way freed by a deletion. -/
  | stashPromote
  /-- AGE_WALK_VISIT (R186): The age walker visits a bucket, aging, converting or deleting entries and scrubbing ECC. Bucket 0 to 1,048,575, or 1,048,576 for the stash, which ends a sweep. -/
  | ageWalkVisit (bucket : Nat)
  /-- STAMP_MODE_RESTORE (R187): After two full sweeps without a step, Cistern returns to STAMP mode. -/
  | stampModeRestore
  /-- LOCK_HOLD_EXPIRE (R181): A flap lock ends SCB_LOCK_HOLD seconds after locking. The locked entry at a location. -/
  | lockHoldExpire (stash : Bool) (loc : Nat)
  /-- CST_ECC_INVALIDATE (R192): Scribe invalidates a way with an uncorrectable error within 1 µs and reports CST_ECC_UNCORR. The location of the uncorrectable error. -/
  | cstEccInvalidate (stash : Bool) (loc : Nat)
  /-- SQR_AUDIT_COMPLETE (R191): A Square walk ends; regions are compared and SQR_MISMATCH is sent once. -/
  | sqrAuditComplete
  /-- WORK_ITEM_DELIVER (R218): A work item is copied into the frame of a free allowed thread, which becomes READY. Cluster `q` (rail × 4 + cluster), thread slot `slot`, HANDLE `h`. -/
  | workItemDeliver (q slot h : Nat)
  /-- CH_DEST (R222): Names the channel of the staged message and discards staged words. Thread `slot` of cluster `q` stores `value`. -/
  | chDest (q slot : Nat) (value : Dword)
  /-- CH_WORD (R225): Appends a word to the staged message; a 33rd word faults. Thread `slot` of cluster `q` stores `value`. -/
  | chWord (q slot : Nat) (value : Dword)
  /-- CH_LAST (R227): Appends the last word and commits, waiting while the channel is full. Thread `slot` of cluster `q` stores `value`. -/
  | chLast (q slot : Nat) (value : Dword)
  /-- CH_LAST_NB (R227): Appends the last word and tries once to commit. Thread `slot` of cluster `q` stores `value`. -/
  | chLastNb (q slot : Nat) (value : Dword)
  /-- CH_WAIT_COMMIT (R227): A writer waiting for space commits when a cell frees. Global channel number `chan`. -/
  | chWaitCommit (chan : Nat)
  /-- CH_READ (R228): Copies the oldest message of a channel into local memory and removes it. Thread `slot` of cluster `q` stores `value`. -/
  | chRead (q slot : Nat) (value : Dword)
  /-- WAIT (R236): Blocks the thread on a channel, an item or a timeout. Thread `slot` of cluster `q` stores `value`. -/
  | wait (q slot : Nat) (value : Dword)
  /-- WAIT_WAKE (R236): The condition of a waiting thread comes to hold and the thread becomes READY. Thread `slot` of cluster `q`. -/
  | waitWake (q slot : Nat)
  /-- WAIT_TIMEOUT (R236): The timeout of a WAIT expires. Thread `slot` of cluster `q`. -/
  | waitTimeout (q slot : Nat)
  /-- FORK_ARG (R222): Sets the argument for the next FORK. Thread `slot` of cluster `q` stores `value`. -/
  | forkArg (q slot : Nat) (value : Dword)
  /-- FORK (R234): Starts a child thread, or returns 0xFF when none is free. Thread `slot` of cluster `q` stores `value`. -/
  | fork (q slot : Nat) (value : Dword)
  /-- JOIN (R235): Waits until every child has exited. Thread `slot` of cluster `q` stores `value`. -/
  | join (q slot : Nat) (value : Dword)
  /-- EXIT (R223): Ends the work item, frees the thread and passes its value to the parent. Thread `slot` of cluster `q` stores `value`. -/
  | exit (q slot : Nat) (value : Dword)
  /-- PARK (R222): Moves an item to HELD, writes its frame back and gives up its exit-order place. Thread `slot` of cluster `q` stores `value`. -/
  | park (q slot : Nat) (value : Dword)
  /-- UNPARK (R222): Loads a HELD item of the slice back into a frame. Thread `slot` of cluster `q` stores `value`. -/
  | unpark (q slot : Nat) (value : Dword)
  /-- SUSPEND (R238): The supervisor stops a worker thread at its next issue clock. The supervisor of cluster `q` names thread `slot`. -/
  | suspend (q slot : Nat)
  /-- RESUME (R238): The supervisor returns a suspended thread to READY. The supervisor of cluster `q` names thread `slot`. -/
  | resume (q slot : Nat)
  /-- ABORT (R239): The supervisor frees a thread, requeuing or holding its item. The supervisor of cluster `q` names thread `slot`. -/
  | abort (q slot : Nat) (requeue : Bool)
  /-- SUP_THREAD (R237): Selects the thread that SUP_STATE shows. Thread `slot` of cluster `q` stores `value`. -/
  | supThread (q slot : Nat) (value : Dword)
  /-- SUP_REGS (R237): Copies the inspected thread's registers into local memory. Thread `slot` of cluster `q` stores `value`. -/
  | supRegs (q slot : Nat) (value : Dword)
  /-- SUP_DLD_ACK (R245): Re-arms the deadlock detector. Thread `slot` of cluster `q` stores `value`. -/
  | supDldAck (q slot : Nat) (value : Dword)
  /-- DEVCH_LOOKUP (R230): A lookup message on channel 0x800 is served and answered on the reply channel. -/
  | devchLookup
  /-- DEVCH_SCRIBE_LEARN (R229): A LEARN request arrives on the Scribe channel. -/
  | devchScribeLearn
  /-- DEVCH_SCRIBE_INSERT (R229): An INSERT request arrives on the Scribe channel. -/
  | devchScribeInsert
  /-- DEVCH_SCRIBE_DELETE (R229): A DELETE request arrives on the Scribe channel. -/
  | devchScribeDelete
  /-- DEVCH_SCRIBE_UPDATE (R229): An UPDATE request arrives on the Scribe channel. -/
  | devchScribeUpdate
  /-- PKT_FWD_PORT (R232): An engine verdict sends the packet to a MAC. -/
  | pktFwdPort
  /-- PKT_FWD_HOST (R232): An engine verdict delivers the packet to a host queue. -/
  | pktFwdHost
  /-- PKT_FLOOD (R232): An engine verdict floods the packet. -/
  | pktFlood
  /-- PKT_DROP (R232): An engine verdict drops the packet. -/
  | pktDrop
  /-- PKT_RECIRC (R232): An engine verdict starts the next pass. -/
  | pktRecirc
  /-- INJECT (R232): Engine code creates a new source-18 packet in its slice. -/
  | inject
  /-- CSC_ENGINE_EVENT (R229): A message on channel 0x803 is forwarded to the manager as an event. -/
  | cscEngineEvent
  /-- THREAD_FAULT (R240): A thread faults; it stops in FAULTED and a fault record goes to its supervisor. Thread `slot` of cluster `q` at program counter `pc` faults with class `cls` at address `addr`. -/
  | threadFault (q slot cls pc addr : Nat)
  /-- ENGINE_FAULT (R241): A residue or ECC fault retires an engine, requeues its items and substitutes a spare. Physical engine 0 to 67, its thread, and class 1 RESIDUE or 2 ECC. -/
  | engineFault (engine thread cls : Nat)
  /-- SPARE_MAPPED (R241): A spare engine has been loaded and mapped at the retired position. Physical spare engine. -/
  | spareMapped (spare : Nat)
  /-- SUPERVISOR_RESTART (R243): Firmware restarts a faulted supervisor from its entry. Cluster `q`. -/
  | supervisorRestart (q : Nat)
  /-- DLD_FIRE (R245): The deadlock count reaches 65,536; the snapshot is written and a KIND 2 record is sent. Cluster `q`. -/
  | dldFire (q : Nat)
  /-- CSC_DEADLOCK (R249): The supervisor has not acknowledged a detector firing within 1 ms. Cluster `q`. -/
  | cscDeadlock (q : Nat)
  /-- EXIT_ORDER_HANDOFF (R259): The exit order stage hands on a verdict once every earlier packet of its ring has gone, and computes the digest. Packet copy `p`. -/
  | exitOrderHandoff (p : Nat)
  /-- DOVETAIL_ARRIVE (R263): A copy arrives at a Dovetail point and is released or discarded. The oldest copy on its way to Dovetail island `d` (0 and 1 host islands, 2 and 3 MAC transmit islands) from pipeline `pl`. -/
  | dovetailArrive (d pl : Nat)
  /-- DOVETAIL_STORE_WAIT_END (R265): A copy that waited for a free open record proceeds. The copy of pipeline `pl` that waits at Dovetail island `d`. -/
  | dovetailStoreWaitEnd (d pl : Nat)
  /-- OPEN_RECORD_EXPIRE (R264): An open record expires after 100 µs; the stream is marked LAG and DVT_LAG is sent. The record of a point, stream and sequence in island `d`. -/
  | openRecordExpire (d point stream : Nat) (seq : Word)
  /-- RAIL_SELF_CHECK_FAIL (R269): A self-check of a rail fails and the rail is retired. Rail 0 A or 1 B, check code 1 to 4 and unit 0 to 5. -/
  | railSelfCheckFail (rail code unit : Nat)
  /-- RAIL_REJOIN (R273): A restored rail rejoins at a calendar entry 0. Rail 0 A or 1 B. -/
  | railRejoin (rail : Nat)
  /-- PRP_NODE_FORGET (R282): A PRP node entry unused for NODE_FORGET is deleted. Source address and pair of the entry. -/
  | prpNodeForget (mac : Bytes) (pair : Nat)
  /-- FLIT_RX (R285): An Itwin flit is received and checked; a bad CRC sends a NAK and triggers replay. SEQ, ACK and the NAK flag of the flit's header, whether its CRC is good, and its 244 bytes of messages. -/
  | flitRx (seq ack : BitVec 16) (nak crcGood : Bool) (body : Bytes)
  /-- HEARTBEAT (R287): A partner heartbeat is received. The fields of the partner's heartbeat. -/
  | heartbeat (id : Dword) (rank mode act version : Nat) (digest : Word) (mirroring : Bool) (learned : Nat) (count : Word)
  /-- HEARTBEAT_SEND (R287): The Itwin island sends a heartbeat every PERIOD_US. -/
  | heartbeatSend
  /-- PIPELINE_STALL_DETECT (R287): No pipeline has started for 1 ms while work was queued, so heartbeats and ITW_ACT_OUT stop. -/
  | pipelineStallDetect
  /-- HEARTBEAT_MISS_LIMIT (R288): MISS_LIMIT periods pass without a heartbeat and the partner is lost. -/
  | heartbeatMissLimit
  /-- ALIVE_LOW_TIMEOUT (R288): ITW_ALIVE stays low for 1 µs while released, and the partner is lost. -/
  | aliveLowTimeout
  /-- ACT_IN_CHANGE (R290): ITW_ACT_IN changes; an assertion drops the grant within 20 ns and may count as a collision. The new level of ITW_ACT_IN, whether it was a pulse of less than 100 ns, and the level of ITW_ALIVE. -/
  | actInChange (level short alive : Bool)
  /-- GRANT_TIMER (R290): The 10 µs qualification ends and the grant becomes 1. -/
  | grantTimer
  /-- ACT_REQUEST_TIMER (R292): Firmware requests the actor role at link up or after 100 ms + rank, or after collision back-off. -/
  | actRequestTimer
  /-- ITW_LINK_UP (R296): The Itwin link comes up; a resync runs and the mirrored versions are compared. The partner's current version, digest and mirroring flag over the new link. -/
  | itwLinkUp (version : Nat) (digest : Word) (mirroring : Bool)
  /-- LEARN_REQ (R294): The actor receives a standby learn request and applies it. The message's fields. -/
  | learnReq (key : Bytes) (dest : Word) (stamp : Dword) (src prof : Nat)
  /-- LEARN_APPLY (R294): The standby writes a learned entry as received. The 32 bytes of the message. -/
  | learnApply (body : Bytes)
  /-- LEARN_DELETE (R295): The standby deletes a learned entry. The message's key. -/
  | learnDelete (key : Bytes)
  /-- LEARN_REFRESH (R295): The actor applies a refreshing hit sent by the standby. The message's key. -/
  | learnRefresh (key : Bytes)
  /-- RESYNC_MARK (R296): Begin or end of a resync; at the end the standby deletes entries that were not named. Phase 0 begin or 1 end, and the entry count. -/
  | resyncMark (phase count : Nat)
  /-- ACTOR_RELEASE (R293): The partner releases the actor role and this adapter requests it at once. -/
  | actorRelease
  /-- JIG_PREPARE (R148): The partner receives a mirrored commit's version and table and starts compiling. The message's version number and digest. -/
  | jigPrepare (version : Nat) (digest : Word)
  /-- JIG_DATA (R286): A chunk of the mirrored staging table is received. The next bytes of the staging table: profile records 0 to 15, then rule records 0 to 65,535. -/
  | jigData (data : Bytes)
  /-- JIG_READY (R148): The originator receives the partner's READY or its refusal. The message's return code. -/
  | jigReady (code : Nat)
  /-- JIG_GO (R148): The partner receives GO and switches at its next calendar entry 0. -/
  | jigGo
  /-- JIG_ACK (R149): The originator receives the partner's acknowledgement of the switch. -/
  | jigAck
  /-- MIRROR_READY_TIMEOUT (R148): No READY arrives within 3 s of PREPARE and the mirrored commit ends with no change. -/
  | mirrorReadyTimeout
  /-- MIRROR_GO_TIMEOUT (R149): A partner's COMPILING slot returns to FREE 10 s after READY with no GO. -/
  | mirrorGoTimeout
  /-- JIG_COMPILE_DONE (R144): Firmware finishes compiling and loading a version into the rail stores, with CRC check and reload. `badA`, `badB`: the second CRC-32C mismatch of the rail's store. -/
  | jigCompileDone (badA badB : Bool)
  /-- JIG_VERSION_SWITCH (R144): At the next calendar entry 0 the loaded slot becomes CURRENT and the old one DRAINING. -/
  | jigVersionSwitch
  /-- JIG_SLOT_FREE (R137): A DRAINING slot becomes FREE within 1 µs after its in-flight count reaches 0. Version slot `slot`. -/
  | jigSlotFree (slot : Nat)
  /-- JIG_DRAIN_SLOW (R138): A DRAINING slot stays above 0 longer than JIG_DRAIN_LIMIT and the manager is told. Version slot `slot`. -/
  | jigDrainSlow (slot : Nat)
  /-- PARSE_VALIDATE_DONE (R113): Firmware finishes validating a staging parse graph or pattern bank. Of the pattern bank when `rasp`, else of the parse graph. -/
  | parseValidateDone (rasp : Bool)
  /-- PARSE_BANK_SWITCH (R110): At the next calendar entry 0 the validated bank becomes current on all pipelines. Of the pattern bank when `rasp`, else of the parse graph. -/
  | parseBankSwitch (rasp : Bool)
  /-- STAGE_BANK_COPY (R111): When the old bank has no packets left, it is copied from the current one and STAGE_READY is set. Of the pattern bank when `rasp`, else of the parse graph. -/
  | stageBankCopy (rasp : Bool)
  /-- ACT_RECORD_SWITCH (R194): At the next calendar entry 0 a written action record takes effect and every cache drops it. -/
  | actRecordSwitch
  /-- CALENDAR_RESERVATION_SWITCH (R557): Calendar reservations of a created, modified or destroyed slice take effect at calendar entry 0. -/
  | calendarReservationSwitch
  /-- SA_DELETE_SWITCH (R322): A deleted SA's VALID clears at calendar entry 0, and the answer follows when the transforms drain. -/
  | saDeleteSwitch
  /-- MAC_TX_SELECT (R363): A MAC that can start a frame picks flow control first, then by class, gate, eligibility and the shaper tree. MAC, the bytes sent at the boundary where a preemptable frame in transmission would be cut, and the lane of the next frame's start. -/
  | macTxSelect (m sent lane : Nat)
  /-- MAC_TX_DONE (R390): A frame's last byte leaves, writing its two-step stamp entry and advancing the clean count. MAC 0 to 15. -/
  | macTxDone (m : Nat)
  /-- UNDERRUN (R351): The transmit buffer empties mid-frame; the frame is ended bad and resent store-and-forward. MAC, and the bytes of the frame sent. -/
  | underrun (m sent : Nat)
  /-- TX_LINK_WAIT_EXPIRE (R342): A lossy frame that has waited 10 ms for its link is dropped. MAC 0 to 15. -/
  | txLinkWaitExpire (m : Nat)
  /-- PAUSE_EXPIRE (R354): The pause time of a stopped class runs out. MAC and class. -/
  | pauseExpire (m c : Nat)
  /-- XOFF_LEAVE (R356): Occupancy falls to XON and a release frame is sent. MAC and class. -/
  | xoffLeave (m c : Nat)
  /-- PFC_REFRESH (R356): A class still in XOFF resends its flow-control frame after REFRESH quanta. MAC and class. -/
  | pfcRefresh (m c : Nat)
  /-- PFC_STORM (R358): A class has been stopped for WATCHDOG ms; STORM is set and MAC_PFC_STORM is sent. MAC and class. -/
  | pfcStorm (m c : Nat)
  /-- PFC_STORM_RELEASE (R358): Under ACTION 1, 1 ms passes without a frame naming the class and the storm state ends. MAC and class. -/
  | pfcStormRelease (m c : Nat)
  /-- WEIR_TICK (R70): A Weir tick refills every shaper's token bucket. Port 0 or 1. -/
  | weirTick (p : Nat)
  /-- GATE_CHANGE (R366): At a scheduled instant the gate states of the next entry take effect. MAC 0 to 15. -/
  | gateChange (m : Nat)
  /-- GCL_CHANGE_TIME (R369): At the change time the new operational list starts and SLC_CONFIG_CHANGE is sent. MAC 0 to 15. -/
  | gclChangeTime (m : Nat)
  /-- PREEMPT_VERIFY (R371): Preemption verification succeeds, or fails after 3 attempts. MAC, and whether the partner answered. -/
  | preemptVerify (m : Nat) (ok : Bool)
  /-- LINK_UP (R672): A MAC's training completes and its link comes up, and PORT_LINK_CHANGE is sent. MAC 0 to 15. -/
  | linkUp (m : Nat)
  /-- LINK_FAULT (R372): A local or remote fault takes the link down. MAC, and whether the fault is remote. -/
  | linkFault (m : Nat) (remote : Bool)
  /-- OSC_LOSS (R382): The oscillator gives no edge for 400 ns; the PLL falls back and TIME_OSC_LOST is sent. -/
  | oscLoss
  /-- OSC_RETURN (R382): After 1 s of edges, the PLL returns to the oscillator. -/
  | oscReturn
  /-- TIME_STEP (R384): A step of the time value takes effect at one tick in every island. -/
  | timeStep
  /-- TIME_TXQ_POP (R391): A read removes the oldest stamp-queue entry into the latch. The reading master and the MAC. -/
  | timeTxqPop (master m : Nat)
  /-- PTP_MSG_RX (R395): The PTP engine receives an event or general message on an enabled port. -/
  | ptpMsgRx
  /-- PTP_SYNC_SEND (R396): A MASTER port sends Sync, with Follow_Up when two-step, at its interval. MAC of the port. -/
  | ptpSyncSend (m : Nat)
  /-- PTP_DELAY_REQ_SEND (R397): The SLAVE port sends Delay_Req or Pdelay_Req at randomised intervals. MAC of the port. -/
  | ptpDelayReqSend (m : Nat)
  /-- PTP_ANNOUNCE_SEND (R396): A MASTER port sends Announce from its template. MAC of the port. -/
  | ptpAnnounceSend (m : Nat)
  /-- PTP_ANNOUNCE_TIMEOUT (R396): Firmware evaluates announce receipt timeout and reruns the best master algorithm. MAC of the port. -/
  | ptpAnnounceTimeout (m : Nat)
  /-- PLUMB_SAMPLE (R402): Plumb takes a queued sample through the delay filter and the servo. -/
  | plumbSample
  /-- PLUMB_TIMEOUT (R401): No sample for TIMEOUT_MS puts Plumb in HOLDOVER. -/
  | plumbTimeout
  /-- PLB_HOST_D_HI_WRITE (R400): A write to PLB_HOST_D_HI submits a host sample. The word written. -/
  | plbHostDHiWrite (value : Word)
  /-- TIO_ARM (R407): Writing ARM commits a timed I/O channel's settings. Channel 0 to 9. -/
  | tioArm (c : Nat)
  /-- TIO_OUTPUT_EDGE (R408): A timed output edge is placed at its instant. Channel 0 to 9. -/
  | tioOutputEdge (c : Nat)
  /-- TIO_EDGE_CAPTURE (R409): An input edge is stamped into the capture queue, or dropped. Channel 0 to 8, and whether the edge falls. -/
  | tioEdgeCapture (c : Nat) (falling : Bool)
  /-- TIO_CAP_POP (R409): A read removes the oldest capture into the latch. The reading master and the channel. -/
  | tioCapPop (master c : Nat)
  /-- TIME_NOW_S_LO_READ (R414): Reading TIME_NOW_S_LO latches the whole time value. The reading master. -/
  | timeNowSLoRead (master : Nat)
  /-- PCIE_LINK_TRAIN (R418): An endpoint link trains or changes rate or width, and HIF_LINK_CHANGE is sent. Endpoint, speed as HIF_LINK_STATUS codes it, lanes, and flit mode. -/
  | pcieLinkTrain (ep speed width : Nat) (flit : Bool)
  /-- ENDPOINT_CONTAIN (R448): DL_Down, PERST#, hot reset, link disable or an internal error contains the endpoint. Endpoint, cause as HIF_CONTAIN_STATUS codes it, and how many of its last posted writes the link had not acknowledged. -/
  | endpointContain (ep cause unacked : Nat)
  /-- CONTAIN_RELEASE_RESUME (R450): HIF_CONTAIN_CTRL RELEASE with MODE RESUME resends the held writes and reissues the reads. Endpoint of the PF0 that writes, and the contained endpoint. -/
  | containReleaseResume (writer ep : Nat)
  /-- CONTAIN_RELEASE_RESET (R450): HIF_CONTAIN_CTRL RELEASE with MODE RESET resets every function of the endpoint as by FLR. Endpoint of the PF0 that writes, and the contained endpoint. -/
  | containReleaseReset (writer ep : Nat)
  /-- FLR_INITIATE (R446): A configuration write of Initiate FLR increments the generation and silences the function. Endpoint and function: 0 PF0, 1 to 1,024 VF. -/
  | flrInitiate (ep f : Nat)
  /-- FLR_COMPLETE (R446): An FLR completes: queues are flushed, reset records written, state reset and HIF_FLR_DONE sent. Endpoint and function. -/
  | flrComplete (ep f : Nat)
  /-- VF_ENABLE_CHANGE (R426): Clearing VF Enable or reducing NumVFs starts an FLR of each disappearing VF. Endpoint, VF Enable and NumVFs as written. -/
  | vfEnableChange (ep : Nat) (enable : Bool) (numVfs : Nat)
  /-- BUS_MASTER_ENABLE_WRITE (R440): A Command write changes Bus Master Enable, stopping or resuming the function's requests. Endpoint, function and Bus Master Enable as written. -/
  | busMasterEnableWrite (ep f : Nat) (enable : Bool)
  /-- CONFIG_WRITE (R422): A configuration write that has no row of its own, such as power state, MSI-X control or capability fields. Endpoint, function, field and value: 0 Interrupt Disable, 1 power state (0 D0, 3 D3hot), 2 MSI-X Enable, 3 Function Mask, 4 Completion Timeout Value, 5 LTR Mechanism Enable, 6 ATS Enable, 7 ECRC Check Enable, 8 Max_Payload_Size and 9 Max_Read_Request_Size in bytes, 10 10-Bit and 11 14-Bit Tag Requester Enable, 12 Enable Relaxed Ordering, 13 IDO Request Enable; from 0x100 on, the configuration word at that field less 0x100. -/
  | configWrite (ep f field value : Nat)
  /-- BAR0_ACCESS (R430): A PF0 BAR0 access is translated through the WTT, or refused. Endpoint whose PF0 is addressed, BAR0 offset, bytes of a read; the data of a write. -/
  | bar0Access (ep off len : Nat) (data : Option Bytes)
  /-- PUSH_WRITE (R472): A 64-byte push write delivers two transmit descriptors to a queue pair. Function `f` of endpoint `ep` writes `data` at BAR2 offset `off` in one TLP; `full`: every byte enable is set. -/
  | pushWrite (ep f off : Nat) (data : Bytes) (full : Bool)
  /-- HIF_VF_DB_TX (R456): A transmit doorbell rebuilds and tests the producer index. Function `f` of endpoint `ep` writes the doorbell (PF0: its own block, R497); `full`: every byte enable is set. -/
  | hifVfDbTx (ep f : Nat) (value : Word) (full : Bool)
  /-- HIF_VF_DB_RX (R456): A receive-posting doorbell rebuilds and tests the producer index. As HIF_VF_DB_TX. -/
  | hifVfDbRx (ep f : Nat) (value : Word) (full : Bool)
  /-- HIF_VF_DB_CQ (R484): A completion doorbell updates the consumer index and may re-arm the interrupt. As HIF_VF_DB_TX. -/
  | hifVfDbCq (ep f : Nat) (value : Word) (full : Bool)
  /-- HIF_VF_DB_CHAIN (R331): A chain doorbell resumes or extends an NVMe/TCP chain walk. Function `f` of endpoint `ep` writes the context number; `full`: every byte enable is set. -/
  | hifVfDbChain (ep f : Nat) (context : Word) (full : Bool)
  /-- HIF_VF_ITR (R433): Sets the interrupt hold-off of a VF vector. VF `f` of endpoint `ep` writes the register. -/
  | hifVfItr (ep f : Nat) (value : Word) (full : Bool)
  /-- HIF_LTR_WRITE (R436): A change of HIF_LTR sends an LTR message. Endpoint and the value written. -/
  | hifLtrWrite (ep : Nat) (value : Word)
  /-- TX_DESCRIPTOR_READ (R467): A descriptor read completes and its checks run; a malformed descriptor halts the queue pair. Global queue pair `g` of endpoint `ep`. -/
  | txDescriptorRead (ep g : Nat)
  /-- TX_FRAME_IN_BASIN (R475): A packet's last buffer read completes; it is accepted, C passes it and it enters the pipelines. Global queue pair `g` of endpoint `ep`. -/
  | txFrameInBasin (ep g : Nat)
  /-- TX_COMPLETE (R477): A transmit packet completes and its entry is written in ring order. Global queue pair `g` of endpoint `ep`. -/
  | txComplete (ep g : Nat)
  /-- RX_DELIVER (R480): A frame is written to host postings, with its completion entries, once room exists. Global queue pair `g` of endpoint `ep`; the posting of the frame, counted from 0, whose translation the host refuses. -/
  | rxDeliver (ep g : Nat) (rejected : Option Nat)
  /-- RX_NOPOST_EXPIRE (R481): A lossy frame waits NOPOST_US without postings and is dropped. The frame at place `place` of those that wait for global queue pair `g`. -/
  | rxNopostExpire (ep g place : Nat)
  /-- WRITE_BACK (R483): The write-back location is written within 1 µs of an index change. Global queue pair `g` of endpoint `ep`. -/
  | writeBack (ep g : Nat)
  /-- MSIX_SEND (R432): A due vector sends its message, or sets its PBA bit. Endpoint, function and vector. -/
  | msixSend (ep f v : Nat)
  /-- ITR_HOLDOFF_EXPIRE (R433): A vector's hold-off ends and one coalesced message is sent. Endpoint, function and vector. -/
  | itrHoldoffExpire (ep f v : Nat)
  /-- INTA_CHANGE (R434): The INTA condition changes and Assert_INTx or Deassert_INTx is sent. Endpoint. -/
  | intaChange (ep : Nat)
  /-- CPL_RX (R439): A completion TLP arrives for an outstanding, quarantined or unknown tag. Endpoint, tag, completion status (0 successful, 1 UR, 2 CRS, 4 CA; 7: the translation was refused, R443), and the data. -/
  | cplRx (ep tag status : Nat) (poisoned badEcrc : Bool) (data : Bytes)
  /-- CPL_TIMEOUT (R438): A request times out; its buffer fails and its tag is quarantined. Endpoint and tag. -/
  | cplTimeout (ep tag : Nat)
  /-- TAG_QUARANTINE_EXPIRE (R439): A quarantined tag is released 64 s after its request. Endpoint and tag. -/
  | tagQuarantineExpire (ep tag : Nat)
  /-- ATS_INVALIDATE (R443): An Invalidate Request is completed within 100 µs after the requests using it drain. Endpoint, function, PASID when the request carries one, and the range of untranslated addresses. -/
  | atsInvalidate (ep f : Nat) (pasid : Option Nat) (addr len : Nat)
  /-- TLP_VIOLATION (R452): A malformed, poisoned or unsupported TLP is discarded or answered UR. Endpoint, function, kind: 0 malformed, 1 ECRC mismatch, 2 poisoned memory write, 3 unsupported posted and 4 unsupported non-posted request, 5 read of more than 64 bytes, 6 read of a push window of len bytes, 7 Type 1 vendor-defined or unrecognised message. -/
  | tlpViolation (ep f kind len : Nat)
  /-- QUEUE_FLUSH (R489): A flush ends and its reset record is written. Global queue pair `g` of endpoint `ep`. -/
  | queueFlush (ep g : Nat)
  /-- DRAIN_TIMEOUT (R490): A draining QUEUE_DESTROY reaches 100 ms and flushes. Global queue pair `g` of endpoint `ep`. -/
  | drainTimeout (ep g : Nat)
  /-- CHAIN_BLOCK_READ (R331): A chain block fetch completes and the walker follows LINK. Context `ctx` of endpoint `ep`. -/
  | chainBlockRead (ep ctx : Nat)
  /-- CHAIN_REREAD (R331): 256 ns after reading END, the walker re-reads LINK and stops or continues. Context 0 to 131,071. -/
  | chainReread (ctx : Nat)
  /-- MBX_POST (R506): A host POST takes the outbound message, stamps its generations, or rejects it. The channel. -/
  | mbxPost (ch : Nat)
  /-- MBX_ACK (R507): A host ACK removes the shown message, shows the next one and wakes the sender. The channel. -/
  | mbxAck (ch : Nat)
  /-- MBX_FW_POST (R505): Firmware posts an outbound message on a channel. The channel. -/
  | mbxFwPost (ch : Nat)
  /-- MBX_FW_ACK (R507): Firmware acknowledges the message shown to it. The channel. -/
  | mbxFwAck (ch : Nat)
  /-- MBX_OUTBOUND_BUFFER_WRITE (R510): A host write to its outbound buffer is stored, or dropped with REJECT while FULL. The channel, the offset in its 256-byte buffer and the bytes. -/
  | mbxOutboundBufferWrite (ch off : Nat) (data : Bytes)
  /-- MBX_CROSSING (R519): A crossing lasts more than 1 ms; CROSSING is set and both sides are woken. The channel. -/
  | mbxCrossing (ch : Nat)
  /-- FW_COMMAND_DISPATCH (R544): Firmware starts a shown message, checking generation, journal, opcode, sender, mode and length. The channel. -/
  | fwCommandDispatch (ch : Nat)
  /-- HEARTWOOD_WRITE (R610): A Heartwood word write is applied, or staged for an atomic pair. Master, Heartwood word number and the value written. -/
  | heartwoodWrite (master w : Nat) (value : Word)
  /-- COUNTER_LO_READ (R619): A read of a _LO word latches the upper word for that master. Master and register address. -/
  | counterLoRead (master a : Nat)
  /-- RC_REGISTER_READ (R13): A read of an RC register returns its value and clears it. Master and register address. -/
  | rcRegisterRead (master a : Nat)
  /-- REGISTER_WRITE (R9): A write to a register that has no row of its own, under its field types. Master, register address (internal address, or the model's address of a host page: notes/assumptions/6.md), byte enables and the word written. -/
  | registerWrite (master a be : Nat) (value : Word)
  /-- ERRLOG_WINDOW_CLOSE (R632): A 1 s window of a code closes and a summary entry for its suppressed occurrences is written. Error code whose window closes. -/
  | errlogWindowClose (code : Nat)
  /-- SENSOR_UPDATE (R635): The sensors are updated every 1 ms. The values of the 49 sensors in their units (R635). -/
  | sensorUpdate (values : List Int)
  /-- SNAPSHOT_CAPTURE (R622): Every island captures its catalogued counters at T. -/
  | snapshotCapture
  /-- MCTP_PACKET_RX (R563): An MCTP packet is received and assembled into a message. Source endpoint ID, message tag with its owner bit, first and last packet marks, packet sequence number, bad PEC or parity, and body; the first byte of a message is its type. -/
  | mctpPacketRx (src tag : Nat) (som eom : Bool) (pseq : Nat) (bad : Bool) (body : Bytes)
  /-- MCTP_ASSEMBLY_TIMEOUT (R569): A message left incomplete for 100 ms is discarded. -/
  | mctpAssemblyTimeout
  /-- SET_ENDPOINT_ID (R566): MCTP Set Endpoint ID is accepted and the channel 2,056 generation rises. -/
  | setEndpointId
  /-- GET_ENDPOINT_ID (R563): MCTP Get Endpoint ID is answered. -/
  | getEndpointId
  /-- GET_ENDPOINT_UUID (R563): MCTP Get Endpoint UUID is answered. -/
  | getEndpointUuid
  /-- GET_MCTP_VERSION_SUPPORT (R563): MCTP Get MCTP Version Support is answered. -/
  | getMctpVersionSupport
  /-- GET_MESSAGE_TYPE_SUPPORT (R563): MCTP Get Message Type Support is answered. -/
  | getMessageTypeSupport
  /-- GET_VDM_SUPPORT (R563): MCTP Get Vendor Defined Message Support is answered. -/
  | getVdmSupport
  /-- MCTP_UNSUPPORTED_CONTROL (R563): Another control message is answered ERROR_UNSUPPORTED_CMD. -/
  | mctpUnsupportedControl
  /-- VDM_MESSAGE (R565): A vendor KIND 0 message acts as a POST on channel 2,056. -/
  | vdmMessage
  /-- VDM_ACK (R565): A vendor KIND 1 message acts as an ACK on channel 2,056. -/
  | vdmAck
  /-- REOPEN (R566): The BMC's REOPEN increases the host-side generation of channel 2,056. -/
  | reopen
  /-- SPDM_REQUEST (R602): An SPDM request over DOE or MCTP is answered by the responder. The endpoint whose DOE carries `req`; none for the oldest MCTP message. -/
  | spdmRequest (doe : Option Nat) (req : Bytes)
  /-- SECURED_MESSAGE (R567): A DSP0277 secured message is authenticated, or the session ends. Whether the oldest message authenticates, and the message inside it, type octet first. -/
  | securedMessage (authentic : Bool) (plain : Bytes)
  /-- PLDM_DISCOVERY (R564): A PLDM Type 0 base discovery request is answered. -/
  | pldmDiscovery
  /-- PLDM_SENSOR_READ (R635): A PLDM Type 2 numeric sensor is read. -/
  | pldmSensorRead
  /-- PLDM_UPDATE_COMPONENT (R601): PLDM UpdateComponent writes the bank that is not running. The component image that the update transfers. -/
  | pldmUpdateComponent (data : Bytes)
  /-- PLDM_ACTIVATE_FIRMWARE (R601): PLDM ActivateFirmware runs a handover, or a device reset in recovery. -/
  | pldmActivateFirmware
  /-- BYPASS (R658): TAP instruction BYPASS. TAP instruction BYPASS (R658). -/
  | bypass
  /-- IDCODE (R658): TAP instruction IDCODE returns 0x1864_09CF. -/
  | idcode
  /-- SAMPLE_PRELOAD (R658): TAP instruction SAMPLE/PRELOAD. -/
  | samplePreload
  /-- EXTEST (R659): TAP instruction EXTEST, effective only while SYS_RST_N is asserted. -/
  | extest
  /-- HIGHZ (R659): TAP instruction HIGHZ. -/
  | highz
  /-- CLAMP (R659): TAP instruction CLAMP. -/
  | clamp
  /-- EXTEST_PULSE (R659): TAP instruction EXTEST_PULSE under IEEE 1149.6. -/
  | extestPulse
  /-- EXTEST_TRAIN (R659): TAP instruction EXTEST_TRAIN under IEEE 1149.6. -/
  | extestTrain
  /-- DEVICE_QUERY (R550): Returns identity, mode, role and image state. The command `seq` that firmware has started on channel `ch`. -/
  | deviceQuery (ch seq : Nat)
  /-- EVENT_MASK_SET (R551): Sets the event mask of the channel. The command `seq` that firmware has started on channel `ch`. -/
  | eventMaskSet (ch seq : Nat)
  /-- EVENT_MASK_READ (R551): Returns the mask, the next sequence and dropped events, clearing DROPPED. The command `seq` that firmware has started on channel `ch`. -/
  | eventMaskRead (ch seq : Nat)
  /-- ECHO (R551): Returns the bytes sent. The command `seq` that firmware has started on channel `ch`. -/
  | echo (ch seq : Nat)
  /-- MGR_ROLE_QUERY (R552): Returns the role holder and settings. The command `seq` that firmware has started on channel `ch`. -/
  | mgrRoleQuery (ch seq : Nat)
  /-- MGR_ROLE_CONFIG (R552): Stores HOME_EP and ALT_EN in Heartwood. The command `seq` that firmware has started on channel `ch`. -/
  | mgrRoleConfig (ch seq : Nat)
  /-- MGR_ROLE_TRANSFER (R552): Makes the alternate PF0 the holder. The command `seq` that firmware has started on channel `ch`. -/
  | mgrRoleTransfer (ch seq : Nat)
  /-- MGR_ROLE_RECLAIM (R552): Makes the home PF0 the holder and ends HEADLESS. The command `seq` that firmware has started on channel `ch`. -/
  | mgrRoleReclaim (ch seq : Nat)
  /-- MCTP_CONFIG (R568): Stores the MCTP binding and address, then restarts the endpoint. The command `seq` that firmware has started on channel `ch`. -/
  | mctpConfig (ch seq : Nat)
  /-- HIF_WTT_SET (R429): Writes window translation entries 1 to 255. The command `seq` that firmware has started on channel `ch`. -/
  | hifWttSet (ch seq : Nat)
  /-- HIF_WTT_READ (R453): Returns window translation entries. The command `seq` that firmware has started on channel `ch`. -/
  | hifWttRead (ch seq : Nat)
  /-- HIF_LINK_QUERY (R453): Returns link and containment status. The command `seq` that firmware has started on channel `ch`. -/
  | hifLinkQuery (ch seq : Nat)
  /-- HIF_LANE_RETIRE (R420): Retires a PCIe lane and re-forms the link. The command `seq` that firmware has started on channel `ch`. -/
  | hifLaneRetire (ch seq : Nat)
  /-- HWD_READ (R637): Returns Heartwood words. The command `seq` that firmware has started on channel `ch`. -/
  | hwdRead (ch seq : Nat)
  /-- HWD_WRITE (R617): Writes Heartwood words through the journal. The command `seq` that firmware has started on channel `ch`. -/
  | hwdWrite (ch seq : Nat)
  /-- DEVICE_MODE_SET (R581): Changes the base mode or ISOLATED, or starts a device reset. The command `seq` that firmware has started on channel `ch`. -/
  | deviceModeSet (ch seq : Nat)
  /-- DEVICE_MODE_QUERY (R605): Returns the mode, conditions and reset cause. The command `seq` that firmware has started on channel `ch`. -/
  | deviceModeQuery (ch seq : Nat)
  /-- HBM_PC_RETIRE (R604): Starts the retirement of an HBM pseudo-channel. The command `seq` that firmware has started on channel `ch`. -/
  | hbmPcRetire (ch seq : Nat)
  /-- RETIREMENT_QUERY (R605): Returns every retired unit. The command `seq` that firmware has started on channel `ch`. -/
  | retirementQuery (ch seq : Nat)
  /-- BASIN_AREA_SET (R37): Stores the Basin area for the next entry to PROVISION from BOOT. The command `seq` that firmware has started on channel `ch`. -/
  | basinAreaSet (ch seq : Nat)
  /-- SLICE_CREATE (R556): Creates a slice, checking and reserving every pool. The command `seq` that firmware has started on channel `ch`. -/
  | sliceCreate (ch seq : Nat)
  /-- SLICE_DESTROY (R559): Destroys a slice, flushing its queues and returning its reservations. The command `seq` that firmware has started on channel `ch`. -/
  | sliceDestroy (ch seq : Nat)
  /-- SLICE_QUERY (R561): Returns a slice's settings and use. The command `seq` that firmware has started on channel `ch`. -/
  | sliceQuery (ch seq : Nat)
  /-- SLICE_MODIFY (R558): Changes the chosen groups of a slice's reservations. The command `seq` that firmware has started on channel `ch`. -/
  | sliceModify (ch seq : Nat)
  /-- FUNC_QUERY (R561): Returns a function's state. The command `seq` that firmware has started on channel `ch`. -/
  | funcQuery (ch seq : Nat)
  /-- SLICE_LIST (R561): Returns a bitmap of the slices that exist. The command `seq` that firmware has started on channel `ch`. -/
  | sliceList (ch seq : Nat)
  /-- POOL_QUERY (R562): Returns the free and reserved pools. The command `seq` that firmware has started on channel `ch`. -/
  | poolQuery (ch seq : Nat)
  /-- QUEUE_CREATE (R494): Creates a queue pair. The command `seq` that firmware has started on channel `ch`. -/
  | queueCreate (ch seq : Nat)
  /-- QUEUE_DESTROY (R490): Destroys a queue pair, optionally after draining, and returns its reset record. The command `seq` that firmware has started on channel `ch`. -/
  | queueDestroy (ch seq : Nat)
  /-- QUEUE_QUERY (R493): Returns the ring configuration and indices. The command `seq` that firmware has started on channel `ch`. -/
  | queueQuery (ch seq : Nat)
  /-- QUEUE_MODIFY (R493): Changes the vector, class or wait of a queue pair. The command `seq` that firmware has started on channel `ch`. -/
  | queueModify (ch seq : Nat)
  /-- QUEUE_PF_ITR_SET (R484): Sets a PF0 vector hold-off. The command `seq` that firmware has started on channel `ch`. -/
  | queuePfItrSet (ch seq : Nat)
  /-- RESET_RECORD_READ (R492): Returns and removes the oldest reset records. The command `seq` that firmware has started on channel `ch`. -/
  | resetRecordRead (ch seq : Nat)
  /-- JIG_RULE_WRITE (R154): Writes staging rules. The command `seq` that firmware has started on channel `ch`. -/
  | jigRuleWrite (ch seq : Nat)
  /-- JIG_RULE_READ (R154): Returns rules of the staging table or of a slot. The command `seq` that firmware has started on channel `ch`. -/
  | jigRuleRead (ch seq : Nat)
  /-- JIG_RULE_CLEAR (R154): Clears VALID over a range of staging rules. The command `seq` that firmware has started on channel `ch`. -/
  | jigRuleClear (ch seq : Nat)
  /-- JIG_PROFILE_WRITE (R155): Writes a staging profile. The command `seq` that firmware has started on channel `ch`. -/
  | jigProfileWrite (ch seq : Nat)
  /-- JIG_PROFILE_READ (R155): Returns a profile. The command `seq` that firmware has started on channel `ch`. -/
  | jigProfileRead (ch seq : Nat)
  /-- JIG_STAGE_LOAD (R155): Replaces the staging table from a resident slot. The command `seq` that firmware has started on channel `ch`. -/
  | jigStageLoad (ch seq : Nat)
  /-- JIG_COMMIT (R144): Checks and starts compiling the staging table into a free slot, mirrored when in force. The command `seq` that firmware has started on channel `ch`. -/
  | jigCommit (ch seq : Nat)
  /-- JIG_SLOT_QUERY (R157): Returns the four version slots. The command `seq` that firmware has started on channel `ch`. -/
  | jigSlotQuery (ch seq : Nat)
  /-- JIG_MIRROR_SET (R158): Enables or disables mirroring. The command `seq` that firmware has started on channel `ch`. -/
  | jigMirrorSet (ch seq : Nat)
  /-- JIG_MIRROR_STATUS (R158): Returns the mirroring state. The command `seq` that firmware has started on channel `ch`. -/
  | jigMirrorStatus (ch seq : Nat)
  /-- PARSE_GRAPH_WRITE (R115): Writes records of the staging parse graph. The command `seq` that firmware has started on channel `ch`. -/
  | parseGraphWrite (ch seq : Nat)
  /-- PARSE_GRAPH_READ (R115): Returns parse-graph records. The command `seq` that firmware has started on channel `ch`. -/
  | parseGraphRead (ch seq : Nat)
  /-- PARSE_GRAPH_COMMIT (R113): Validates the staging parse graph and schedules the bank switch. The command `seq` that firmware has started on channel `ch`. -/
  | parseGraphCommit (ch seq : Nat)
  /-- RASP_PATTERN_WRITE (R116): Writes staging pattern entries. The command `seq` that firmware has started on channel `ch`. -/
  | raspPatternWrite (ch seq : Nat)
  /-- RASP_PATTERN_READ (R116): Returns pattern entries. The command `seq` that firmware has started on channel `ch`. -/
  | raspPatternRead (ch seq : Nat)
  /-- RASP_COMMIT (R110): Validates the staging pattern bank and schedules the switch. The command `seq` that firmware has started on channel `ch`. -/
  | raspCommit (ch seq : Nat)
  /-- CST_ENTRY_ADD (R201): Adds or replaces a Cistern entry through Scribe. The command `seq` that firmware has started on channel `ch`. -/
  | cstEntryAdd (ch seq : Nat)
  /-- CST_ENTRY_DELETE (R201): Deletes a Cistern entry. The command `seq` that firmware has started on channel `ch`. -/
  | cstEntryDelete (ch seq : Nat)
  /-- CST_ENTRY_READ (R201): Returns a live entry. The command `seq` that firmware has started on channel `ch`. -/
  | cstEntryRead (ch seq : Nat)
  /-- CST_ENTRY_UNLOCK (R181): Unlocks a flap-locked L2 entry. The command `seq` that firmware has started on channel `ch`. -/
  | cstEntryUnlock (ch seq : Nat)
  /-- CST_FLUSH (R201): Deletes entries by slice and type. The command `seq` that firmware has started on channel `ch`. -/
  | cstFlush (ch seq : Nat)
  /-- CST_FLOOD_SET (R201): Sets the flood list of a bridge domain. The command `seq` that firmware has started on channel `ch`. -/
  | cstFloodSet (ch seq : Nat)
  /-- ACT_RECORD_WRITE (R200): Checks and writes an action record, answered after the switch. The command `seq` that firmware has started on channel `ch`. -/
  | actRecordWrite (ch seq : Nat)
  /-- ACT_RECORD_READ (R201): Returns an action record. The command `seq` that firmware has started on channel `ch`. -/
  | actRecordRead (ch seq : Nat)
  /-- SQR_EXPECT_WRITE (R189): Writes the expected region digests. The command `seq` that firmware has started on channel `ch`. -/
  | sqrExpectWrite (ch seq : Nat)
  /-- SQR_AUDIT_START (R190): Starts a Square audit walk. The command `seq` that firmware has started on channel `ch`. -/
  | sqrAuditStart (ch seq : Nat)
  /-- SQR_RESULT_READ (R201): Returns region digests and counts. The command `seq` that firmware has started on channel `ch`. -/
  | sqrResultRead (ch seq : Nat)
  /-- PORT_MODE_SET (R340): Changes a port's breakout mode and retrains it. The command `seq` that firmware has started on channel `ch`. -/
  | portModeSet (ch seq : Nat)
  /-- PORT_STATUS (R373): Returns a port's mode, lanes and links. The command `seq` that firmware has started on channel `ch`. -/
  | portStatus (ch seq : Nat)
  /-- PORT_LANE_RETIRE (R341): Retires an Ethernet lane and retrains its MAC. The command `seq` that firmware has started on channel `ch`. -/
  | portLaneRetire (ch seq : Nat)
  /-- PFC_CONFIG_SET (R357): Sets XOFF, XON and headroom and reserves Basin. The command `seq` that firmware has started on channel `ch`. -/
  | pfcConfigSet (ch seq : Nat)
  /-- WEIR_SHAPER_SET (R364): Sets a shaper, effective at the next tick. The command `seq` that firmware has started on channel `ch`. -/
  | weirShaperSet (ch seq : Nat)
  /-- WEIR_SHAPER_READ (R373): Returns a shaper's settings and level. The command `seq` that firmware has started on channel `ch`. -/
  | weirShaperRead (ch seq : Nat)
  /-- WEIR_LEAF_MAP_SET (R360): Sets a slice's leaf shapers per class for a port. The command `seq` that firmware has started on channel `ch`. -/
  | weirLeafMapSet (ch seq : Nat)
  /-- SLC_GCL_WRITE (R373): Writes the administrative gate control list. The command `seq` that firmware has started on channel `ch`. -/
  | slcGclWrite (ch seq : Nat)
  /-- SLC_GCL_COMMIT (R369): Schedules the new operational list at a change time. The command `seq` that firmware has started on channel `ch`. -/
  | slcGclCommit (ch seq : Nat)
  /-- SLC_GCL_READ (R373): Returns gate control list entries. The command `seq` that firmware has started on channel `ch`. -/
  | slcGclRead (ch seq : Nat)
  /-- SLC_PREEMPT_SET (R371): Sets preemption on a MAC. The command `seq` that firmware has started on channel `ch`. -/
  | slcPreemptSet (ch seq : Nat)
  /-- TIME_GET (R412): Returns the time value and stamp. The command `seq` that firmware has started on channel `ch`. -/
  | timeGet (ch seq : Nat)
  /-- TIME_SET (R383): Replaces the time value as a step. The command `seq` that firmware has started on channel `ch`. -/
  | timeSet (ch seq : Nat)
  /-- TIME_OFFSET (R670): Adds a signed offset to the time value as a step. The command `seq` that firmware has started on channel `ch`. -/
  | timeOffset (ch seq : Nat)
  /-- TIME_FREQ_SET (R380): Sets ADJ outside SERVO. The command `seq` that firmware has started on channel `ch`. -/
  | timeFreqSet (ch seq : Nat)
  /-- TIME_TRIM_SET (R380): Sets the persistent oscillator trim. The command `seq` that firmware has started on channel `ch`. -/
  | timeTrimSet (ch seq : Nat)
  /-- TIME_LAT_SET (R387): Sets a port, lane or TIO latency constant. The command `seq` that firmware has started on channel `ch`. -/
  | timeLatSet (ch seq : Nat)
  /-- PLB_CONFIG (R400): Sets Plumb's mode, source, gains and limits. The command `seq` that firmware has started on channel `ch`. -/
  | plbConfig (ch seq : Nat)
  /-- PLB_REACQUIRE (R401): Re-enters ACQUIRE and re-arms the acquisition step. The command `seq` that firmware has started on channel `ch`. -/
  | plbReacquire (ch seq : Nat)
  /-- PLB_STATUS (R412): Returns Plumb's state. The command `seq` that firmware has started on channel `ch`. -/
  | plbStatus (ch seq : Nat)
  /-- PLB_TRIM_SAVE (R404): Moves the integrator into the trim at the next sample boundary. The command `seq` that firmware has started on channel `ch`. -/
  | plbTrimSave (ch seq : Nat)
  /-- PTP_INSTANCE_SET (R395): Sets the PTP instance and restarts ports in LISTENING. The command `seq` that firmware has started on channel `ch`. -/
  | ptpInstanceSet (ch seq : Nat)
  /-- PTP_PORT_SET (R412): Configures a PTP port. The command `seq` that firmware has started on channel `ch`. -/
  | ptpPortSet (ch seq : Nat)
  /-- PTP_PORT_STATUS (R412): Returns a PTP port's state. The command `seq` that firmware has started on channel `ch`. -/
  | ptpPortStatus (ch seq : Nat)
  /-- TIO_CONFIG (R407): Configures and arms a timed I/O channel. The command `seq` that firmware has started on channel `ch`. -/
  | tioConfig (ch seq : Nat)
  /-- TIO_CAPTURE_READ (R409): Returns and removes captures. The command `seq` that firmware has started on channel `ch`. -/
  | tioCaptureRead (ch seq : Nat)
  /-- CRY_SA_WRITE (R322): Writes a security association. The command `seq` that firmware has started on channel `ch`. -/
  | crySaWrite (ch seq : Nat)
  /-- CRY_SA_READ (R334): Returns an SA without its keys. The command `seq` that firmware has started on channel `ch`. -/
  | crySaRead (ch seq : Nat)
  /-- CRY_SA_DELETE (R322): Deletes an SA at calendar entry 0. The command `seq` that firmware has started on channel `ch`. -/
  | crySaDelete (ch seq : Nat)
  /-- TNL_TEMPLATE_WRITE (R334): Writes a tunnel template. The command `seq` that firmware has started on channel `ch`. -/
  | tnlTemplateWrite (ch seq : Nat)
  /-- TNL_TEMPLATE_READ (R334): Returns a tunnel template. The command `seq` that firmware has started on channel `ch`. -/
  | tnlTemplateRead (ch seq : Nat)
  /-- TLS_RX_RESYNC (R321): Names the record at which TLS decryption resumes. The command `seq` that firmware has started on channel `ch`. -/
  | tlsRxResync (ch seq : Nat)
  /-- NVT_CONTEXT_SET (R324): Writes an NVMe/TCP context and restarts its chain walk. The command `seq` that firmware has started on channel `ch`. -/
  | nvtContextSet (ch seq : Nat)
  /-- NVT_CONTEXT_READ (R334): Returns an NVMe/TCP context. The command `seq` that firmware has started on channel `ch`. -/
  | nvtContextRead (ch seq : Nat)
  /-- NVT_RESYNC (R328): Names the PDU start at which checking resumes. The command `seq` that firmware has started on channel `ch`. -/
  | nvtResync (ch seq : Nat)
  /-- TWIN_STATUS (R298): Returns rail status and causes. The command `seq` that firmware has started on channel `ch`. -/
  | twinStatus (ch seq : Nat)
  /-- TWIN_RAIL_RETIRE (R272): Retires a rail by command. The command `seq` that firmware has started on channel `ch`. -/
  | twinRailRetire (ch seq : Nat)
  /-- TWIN_RAIL_RESTORE (R273): Self-tests and reloads a retired rail. The command `seq` that firmware has started on channel `ch`. -/
  | twinRailRestore (ch seq : Nat)
  /-- TWIN_SEL_SET (R255): Sets the Twin selection of a MAC. The command `seq` that firmware has started on channel `ch`. -/
  | twinSelSet (ch seq : Nat)
  /-- PRP_PAIR_SET (R279): Configures a PRP pair. The command `seq` that firmware has started on channel `ch`. -/
  | prpPairSet (ch seq : Nat)
  /-- PRP_NODE_READ (R298): Returns PRP node entries. The command `seq` that firmware has started on channel `ch`. -/
  | prpNodeRead (ch seq : Nat)
  /-- ITW_CONFIG (R298): Stores the Itwin settings in Heartwood. The command `seq` that firmware has started on channel `ch`. -/
  | itwConfig (ch seq : Nat)
  /-- ITW_STATUS (R298): Returns Itwin and partner state. The command `seq` that firmware has started on channel `ch`. -/
  | itwStatus (ch seq : Nat)
  /-- ITW_ACTOR_RELEASE (R293): The actor clears ACT_REQ and sends ACTOR_RELEASE. The command `seq` that firmware has started on channel `ch`. -/
  | itwActorRelease (ch seq : Nat)
  /-- ITW_RESYNC (R296): The actor resends every learned entry. The command `seq` that firmware has started on channel `ch`. -/
  | itwResync (ch seq : Nat)
  /-- GAU_SNAPSHOT (R623): Schedules a coherent counter snapshot at T. The command `seq` that firmware has started on channel `ch`. -/
  | gauSnapshot (ch seq : Nat)
  /-- GAU_SNAPSHOT_READ (R637): Returns snapshot values. The command `seq` that firmware has started on channel `ch`. -/
  | gauSnapshotRead (ch seq : Nat)
  /-- GAU_COUNTER_READ (R621): Reads counters through the side port, optionally clearing them. The command `seq` that firmware has started on channel `ch`. -/
  | gauCounterRead (ch seq : Nat)
  /-- GAU_TRACE_CONFIG (R626): Selects trace sources, filter, sampling and mode. The command `seq` that firmware has started on channel `ch`. -/
  | gauTraceConfig (ch seq : Nat)
  /-- GAU_TRACE_START (R627): Starts tracing with numbering from 0. The command `seq` that firmware has started on channel `ch`. -/
  | gauTraceStart (ch seq : Nat)
  /-- GAU_TRACE_STOP (R637): Stops tracing. The command `seq` that firmware has started on channel `ch`. -/
  | gauTraceStop (ch seq : Nat)
  /-- GAU_TRACE_READ (R637): Returns trace records. The command `seq` that firmware has started on channel `ch`. -/
  | gauTraceRead (ch seq : Nat)
  /-- GAU_ERRLOG_READ (R668): Returns error-log entries or summary slots. The command `seq` that firmware has started on channel `ch`. -/
  | gauErrlogRead (ch seq : Nat)
  /-- GAU_ERRLOG_CLEAR (R669): Clears the error log and optionally the summary. The command `seq` that firmware has started on channel `ch`. -/
  | gauErrlogClear (ch seq : Nat)
  /-- GAU_ERRLOG_QUERY (R669): Returns error-log statistics. The command `seq` that firmware has started on channel `ch`. -/
  | gauErrlogQuery (ch seq : Nat)
  /-- GAU_SENSOR_READ (R637): Returns all sensor values. The command `seq` that firmware has started on channel `ch`. -/
  | gauSensorRead (ch seq : Nat)
  /-- GAU_DEV_READ (R636): Reads internal memory or a thread's registers without side effects. The command `seq` that firmware has started on channel `ch`. -/
  | gauDevRead (ch seq : Nat)
  /-- FW_IMAGE_BEGIN (R605): Erases a bank for a new image. The command `seq` that firmware has started on channel `ch`. -/
  | fwImageBegin (ch seq : Nat)
  /-- FW_IMAGE_DATA (R605): Writes image bytes. The command `seq` that firmware has started on channel `ch`. -/
  | fwImageData (ch seq : Nat)
  /-- FW_IMAGE_END (R587): Verifies a written image. The command `seq` that firmware has started on channel `ch`. -/
  | fwImageEnd (ch seq : Nat)
  /-- FW_IMAGE_QUERY (R605): Returns the state of the four banks. The command `seq` that firmware has started on channel `ch`. -/
  | fwImageQuery (ch seq : Nat)
  /-- FW_IMAGE_ERASE (R605): Erases a bank that is not running. The command `seq` that firmware has started on channel `ch`. -/
  | fwImageErase (ch seq : Nat)
  /-- FW_MANIFEST_READ (R605): Returns manifest entries. The command `seq` that firmware has started on channel `ch`. -/
  | fwManifestRead (ch seq : Nat)
  /-- FW_MANIFEST_WRITE (R589): Writes the manifest copy that is not in use. The command `seq` that firmware has started on channel `ch`. -/
  | fwManifestWrite (ch seq : Nat)
  /-- FW_HANDOVER_START (R596): Checks and starts a live handover. The command `seq` that firmware has started on channel `ch`. -/
  | fwHandoverStart (ch seq : Nat)
  /-- FW_HANDOVER_STATUS (R605): Returns handover progress. The command `seq` that firmware has started on channel `ch`. -/
  | fwHandoverStatus (ch seq : Nat)
  /-- FW_HANDOVER_ABORT (R599): Aborts a handover before step 3. The command `seq` that firmware has started on channel `ch`. -/
  | fwHandoverAbort (ch seq : Nat)
  /-- FW_BOOT_SELECT (R605): Writes the boot word. The command `seq` that firmware has started on channel `ch`. -/
  | fwBootSelect (ch seq : Nat)
  /-- FW_RESTRICTED_REASON (R590): Returns why the device is RESTRICTED. The command `seq` that firmware has started on channel `ch`. -/
  | fwRestrictedReason (ch seq : Nat)
  /-- WH_CHECKPOINT (R593): Writes a checkpoint and returns its stamp. The command `seq` that firmware has started on channel `ch`. -/
  | whCheckpoint (ch seq : Nat)
  /-- WH_PAIR_STATUS (R605): Returns the lockstep pair state. The command `seq` that firmware has started on channel `ch`. -/
  | whPairStatus (ch seq : Nat)
  /-- CSC_CLUSTER_QUERY (R248): Returns a cluster's state. The command `seq` that firmware has started on channel `ch`. -/
  | cscClusterQuery (ch seq : Nat)
  /-- CSC_ENGINE_RETIRE (R248): Retires an engine as an engine fault without a rail failure. The command `seq` that firmware has started on channel `ch`. -/
  | cscEngineRetire (ch seq : Nat)
  /-- CSC_PACKET_DISPOSE (R247): Drops HELD or QUEUED items by Jig slot. The command `seq` that firmware has started on channel `ch`. -/
  | cscPacketDispose (ch seq : Nat)
  /-- CSC_WAITGRAPH_READ (R248): Returns the last wait-graph snapshot. The command `seq` that firmware has started on channel `ch`. -/
  | cscWaitgraphRead (ch seq : Nat)
  /-- TIMEBASE_TICK (R379): At each tick of the 1 GHz timebase clock the accumulator adds 2^56 + A_eff to its fraction and carries into nanoseconds and seconds. -/
  | timebaseTick
  /-- ETH_REFCLK_LOSS (R657): ETH_REFCLK stops; every Ethernet and Itwin link goes down, and with TB_OSC also absent the timebase PLL runs on at its last frequency with OSC_LOST set. -/
  | ethRefclkLoss
  /-- ETH_REFCLK_RETURN (R657): ETH_REFCLK returns; the links may retrain and the timebase PLL locks to it if it returns before TB_OSC. -/
  | ethRefclkReturn
  /-- DEVICE_RESET_HELD_EXPIRE (R572): HELD of a device reset lasts 1 ms and then ends, and the adapter enters BOOT. HELD of a device reset has lasted 1 ms (R572). -/
  | deviceResetHeldExpire
  /-- MIRROR_ACK_TIMEOUT (R149): 1 ms after GO without the partner's acknowledgement, the originator answers the mirrored commit OK with MIRROR_STATE UNCONFIRMED. -/
  | mirrorAckTimeout
  /-- ENGINE_MEMORY_SCRUB (R212): The walker of each engine scrubs its local memory every 100 ms, writes back corrected words and counts them in CSC_ECC_CORR. Physical engine, and the errors corrected. -/
  | engineMemoryScrub (engine corrected : Nat)
  /-- DOE_DISCOVERY (R423): A DOE Discovery request, or a DOE object of another protocol, is answered by DOE Discovery on PF0. Endpoint and the index asked for; 0 for an object of another protocol. -/
  | doeDiscovery (ep index : Nat)
  /-- FABRIC_ACCESS (R211): An engine thread's load or store with bit 47 set travels the fabric; an unmapped read raises BUS_ERROR and an unmapped write is discarded and error-logged. Master, internal address, bytes of a read; the data of a write. -/
  | fabricAccess (master a len : Nat) (data : Option Bytes)
  /-- RESTORE_SELF_TEST_FAIL (R273): The built-in self-test of TWIN_RAIL_RESTORE fails; the rail stays retired and the command is answered NOT_PERMITTED with the failing unit. Rail 0 A or 1 B, and the failing unit. -/
  | restoreSelfTestFail (rail unit : Nat)
  /-- ITW_RESYNC_COMPLETE (R296): The actor finishes sending every learned L2 entry, sends RESYNC_MARK end and answers ITW_RESYNC with the count sent. -/
  | itwResyncComplete
  deriving DecidableEq, Repr

end Sys2Proof
end

