-- ==== Sys2Proof/Config.lean ====
section
/-! DEFINITION. What a part or an implementation fixes and the manual leaves open: free values. Every constant here is
opaque, so nothing proved of the model rests on a value of it. -/

namespace Sys2Proof

/-- The 64-bit unique die identifier (R4). -/
opaque Config.dieId : Dword

/-- The temperature grade as DEVICE_QUERY reports it: 0 C, 1 E (R1, R550). -/
opaque Config.grade : Bool

/-- Production part or engineering sample (R550). -/
opaque Config.sample : Bool

/-- The as-shipped value of a Heartwood word whose Reset is "Part": a latency constant characterised at test (R614). -/
opaque Config.partLatency : Nat → Word

/-- SHA-384 of a byte string: 48 bytes (R586, FIPS 180-4; notes/assumptions/10.md). -/
opaque Config.sha384 : Bytes → Bytes

/-- Whether an ECDSA P-384 signature verifies under vendor key `key`, and that key is not revoked (R587). -/
opaque Config.signatureOk : (key : Nat) → (message signature : Bytes) → Bool

/-- AES-256-GCM or AES-128-GCM: key, nonce, additional data and text to ciphertext and 16-byte tag (R308; notes/assumptions/10.md). -/
opaque Config.gcmSeal : (key nonce aad text : Bytes) → Bytes × Bytes

/-- Inverse of `gcmSeal` on ciphertext: the plaintext under key, nonce and additional data, and the expected tag. -/
opaque Config.gcmOpen : (key nonce aad text : Bytes) → Bytes × Bytes

/-- Decision nodes the Jig compiler forms for a rule set (R141, R153). -/
opaque Config.jigNodes : (rules : List (Nat × Bytes)) → Nat

/-- Leaf rule references the Jig compiler forms for a rule set (R141, R153). -/
opaque Config.jigLeafRefs : (rules : List (Nat × Bytes)) → Nat

/-- Whether the Jig compiler omits a rule that can never win (R141). -/
opaque Config.jigOmits : (rules : List (Nat × Bytes)) → (index : Nat) → Bool

/-- Whether an action record fetch, or an SA fetch, misses its cache (R193, R336), by draw. -/
opaque Config.cacheMiss : (draw : Nat) → Bool

/-- Whether the compiled form of a rule set breaks the limit on node levels or on leaf size (R141). -/
opaque Config.jigTooDeep : (rules : List (Nat × Bytes)) → Bool

/-- Code of a cluster in a Cascade body (R588 names what a cluster image holds, and not its layout). -/
opaque Config.imageCode : (body : Bytes) → (cluster : Nat) → Bytes

/-- Initial data of a cluster in a Cascade body (R588). -/
opaque Config.imageData : (body : Bytes) → (cluster : Nat) → Bytes

/-- Channel table of a cluster in a Cascade body (R224, R588): channel, depth, reader slot. -/
opaque Config.imageChannels : (body : Bytes) → (cluster : Nat) → List (Nat × Nat × Nat)

/-- Supervisor entry of a cluster in a Cascade body (R588). -/
opaque Config.imageEntry : (body : Bytes) → (cluster : Nat) → Nat

/-- Contents of an SPDM response (R602). -/
opaque Config.spdmResponse : (request : Bytes) → (draw : Nat) → Bytes

/-- A value the manual leaves open after an operation, by draw. -/
opaque Config.freeNat : (draw : Nat) → Nat

/-- Point number of a Dovetail point, by the model's key of its destination (R261, R266). -/
opaque Config.pointNumber : Nat → Nat

/-- Routing ID of PF0 of an endpoint, which the host assigns by its bus numbers (R424). -/
opaque Config.routingBase : Nat → Nat

/-- Offload flags of a release descriptor, by the META descriptor of the send (R266). -/
opaque Config.offloadFlags : Bytes → Nat

/-- Next-header value that outbound ESP writes for a datagram that is neither IPv4 nor IPv6, by EtherType (R314). -/
opaque Config.espNextHeader : Nat → Nat

/-- Bytes of a TLS send after its last whole record, as they leave (R319 names whole records only). -/
opaque Config.tlsRemainder : Bytes → Bytes

/-- An open choice among listed alternatives, by draw. -/
opaque Config.freePick : (draw alternatives : Nat) → Nat

/-- A sensor's value in its unit before its first update (R635). -/
opaque Config.sensor : (sensor draw : Nat) → Int

/-- The counter catalogue of a Wellhead image body, as counter IDs (R620 names what it lists, and not its layout). -/
opaque Config.counterCatalogue : Bytes → List Nat

/-- The UUID that the MCTP endpoint reports (R564): 16 bytes. -/
opaque Config.mctpUuid : Bytes

/-- Version numbers that the MCTP endpoint reports of a message type (R564), each 4 bytes. -/
opaque Config.mctpVersions : (type : Nat) → Bytes

/-- The version field of the endpoint's vendor-defined messages (R563, DSP0236). -/
opaque Config.vdmVersion : Nat

/-- Version numbers of the PLDM types that the manual does not give (R564), 4 bytes each. -/
opaque Config.pldmVersions : (type : Nat) → Bytes

/-- The commands of a PLDM type, as GetPLDMCommands reports them (R564): 32 bytes. -/
opaque Config.pldmCommands : (type : Nat) → Bytes

/-- Thresholds of a PLDM sensor that the manual does not give (R635): 24 bytes. -/
opaque Config.pldmThresholds : (sensor : Nat) → Bytes

/-- Answer to a PLDM Type 5 request other than UpdateComponent and ActivateFirmware (R601). -/
opaque Config.pldmResponse : (request : Bytes) → (draw : Nat) → Bytes

/-- The AVS set point of the core supply characterised for the part, in millivolts (R655). -/
opaque Config.avsMv : Nat

end Sys2Proof
end

