-- ==== Sys2Proof/Machine/Map.lean ====
section
/-! DEFINITION. Operations over the sparse tables of the state (`AMap`, keys strictly rising) and over the byte memory
(`Host.Cell` list, addresses strictly rising, no byte equal to what an unlisted address reads as). -/

namespace Sys2Proof.Machine

open Sys2Proof

variable {α : Type}

/-- The entry of key `k`. -/
def mapGet : AMap α → Nat → Option α
  | [], _ => none
  | (a, v) :: m, k => if k = a then some v else mapGet m k

def mapGetD (m : AMap α) (k : Nat) (d : α) : α := (mapGet m k).getD d

def mapHas (m : AMap α) (k : Nat) : Bool := (mapGet m k).isSome

/-- Sets key `k`, in order. -/
def mapSet : AMap α → Nat → α → AMap α
  | [], k, v => [(k, v)]
  | (a, w) :: m, k, v => if k < a then (k, v) :: (a, w) :: m else if k = a then (k, v) :: m else (a, w) :: mapSet m k v

def mapErase (m : AMap α) (k : Nat) : AMap α := m.filter (fun p => p.1 != k)

/-- Replaces the entry of `k`, taken as `d` when there is none, by its image. -/
def mapModify (m : AMap α) (k : Nat) (d : α) (f : α → α) : AMap α := mapSet m k (f (mapGetD m k d))

/-- Changes the entry of `k` when there is one. -/
def mapUpdate (m : AMap α) (k : Nat) (f : α → α) : AMap α :=
  match mapGet m k with
  | some v => mapSet m k (f v)
  | none => m

/-- Keys strictly rising: equal tables are equal data. -/
def mapWf : AMap α → Bool
  | [] => true
  | [_] => true
  | (a, _) :: (b, v) :: m => decide (a < b) && mapWf ((b, v) :: m)

/-- What a byte of memory that nothing has written reads as (notes/assumptions/5.md: DESIGN CHOICE). -/
def memDefault : Byte := 0

/-- Reads one byte. -/
def memRead (m : List Host.Cell) (a : Nat) : Byte := mapGetD m a memDefault

/-- Writes one byte; the value of an unlisted address removes the entry. -/
def memWrite (m : List Host.Cell) (a : Nat) (b : Byte) : List Host.Cell :=
  if b = memDefault then mapErase m a else mapSet m a b

/-- The canonical form: addresses strictly rising and no entry equal to an unlisted address's value. -/
def Memory.wf (m : List Host.Cell) : Bool := mapWf m && m.all (fun c => c.2 != memDefault)

def memReadN (m : List Host.Cell) (a : Nat) : Nat → Bytes
  | 0 => []
  | n + 1 => memRead m a :: memReadN m (a + 1) n

def memWriteN (m : List Host.Cell) (a : Nat) : Bytes → List Host.Cell
  | [] => m
  | b :: bs => memWriteN (memWrite m a b) (a + 1) bs

end Sys2Proof.Machine
end

