-- ==== Sys2Proof/Machine/Operands.lean ====
section
/-! DEFINITION. Byte strings, bit fields and byte orders (R8), and the hash, checksum and digest functions of the
arithmetic chapter: CRC-32C (R76), Toeplitz (R78), ones'-complement sums (R71 to R74) and the flow-hash input (R79, R671). -/

namespace Sys2Proof.Machine

open Sys2Proof

/-- Bits [hi:lo] of `x`. -/
def bits (x hi lo : Nat) : Nat := (x / 2 ^ lo) % 2 ^ (hi + 1 - lo)

/-- Bit `i` of `x`. -/
def bitAt (x i : Nat) : Bool := (x / 2 ^ i) % 2 = 1

/-- `x` with bits [hi:lo] replaced by `v`. -/
def putBits (x hi lo v : Nat) : Nat := x - bits x hi lo * 2 ^ lo + (v % 2 ^ (hi + 1 - lo)) * 2 ^ lo

def b2n (b : Bool) : Nat := if b then 1 else 0

/-- `x` divided by `d`, rounded up. -/
def ceilDiv (x d : Nat) : Nat := (x + d - 1) / d

/-- The byte at offset `i`, 0 past the end. -/
def byteAt (b : Bytes) (i : Nat) : Nat := (b.getD i 0).toNat

/-- Little-endian value of a byte string (R8). -/
def leVal : Bytes → Nat
  | [] => 0
  | x :: xs => x.toNat + 256 * leVal xs

/-- Big-endian value of a byte string (network byte order, R8). -/
def beVal (b : Bytes) : Nat := leVal b.reverse

/-- The `n` bytes at offset `off`, zeros past the end. -/
def slice (b : Bytes) (off n : Nat) : Bytes :=
  let t := (b.drop off).take n
  t ++ List.replicate (n - t.length) 0

/-- Little-endian field of `n` bytes at offset `off`. -/
def le (b : Bytes) (off n : Nat) : Nat := leVal (slice b off n)

/-- Network-order field of `n` bytes at offset `off`. -/
def be (b : Bytes) (off n : Nat) : Nat := beVal (slice b off n)

/-- `v` as `n` bytes, least significant first. -/
def toLe : Nat → Nat → Bytes
  | 0, _ => []
  | n + 1, v => BitVec.ofNat 8 v :: toLe n (v / 256)

/-- `v` as `n` bytes in network order. -/
def toBe (n v : Nat) : Bytes := (toLe n v).reverse

def zeros (n : Nat) : Bytes := List.replicate n 0

/-- `b` with `v` written over it from offset `off`; it keeps its length, growing when `v` passes its end. -/
def splice (b : Bytes) (off : Nat) (v : Bytes) : Bytes :=
  slice b 0 off ++ v ++ b.drop (off + v.length)

def putLe (b : Bytes) (off n v : Nat) : Bytes := splice b off (toLe n v)

def putBe (b : Bytes) (off n v : Nat) : Bytes := splice b off (toBe n v)

/-- `b` cut or padded with zeros to `n` bytes. -/
def fit (b : Bytes) (n : Nat) : Bytes := slice b 0 n

/-- `l` cut into blocks of `n` elements, `k` blocks at most. -/
def chunks {α : Type} (n : Nat) : Nat → List α → List (List α)
  | 0, _ => []
  | k + 1, l => if l.isEmpty then [] else l.take n :: chunks n k (l.drop n)

/-- Two's-complement value of the low `w` bits of `x`. -/
def signed (w x : Nat) : Int :=
  let y := x % 2 ^ w
  if 2 ^ (w - 1) ≤ y then (y : Int) - (2 : Int) ^ w else y

/-- The low `w` bits of the two's-complement form of `x`. -/
def unsigned (w : Nat) (x : Int) : Nat := (x % (2 : Int) ^ w).toNat

def crcBits : Nat → Word → Word
  | 0, c => c
  | n + 1, c => crcBits n (if c.getLsbD 0 then (c >>> 1) ^^^ 0x82F63B78#32 else c >>> 1)

/-- CRC-32C register after the bytes of `b` (R76, reflected form). -/
def crcStep (c : Word) (b : Bytes) : Word :=
  b.foldl (fun c x => crcBits 8 (c ^^^ x.setWidth 32)) c

/-- CRC-32C (R76). -/
def crc32c (b : Bytes) : Word := (crcStep 0xFFFFFFFF#32 b) ^^^ 0xFFFFFFFF#32

def ethCrcBits : Nat → Word → Word
  | 0, c => c
  | n + 1, c => ethCrcBits n (if c.getLsbD 0 then (c >>> 1) ^^^ 0xEDB88320#32 else c >>> 1)

/-- The IEEE 802.3 frame check sequence of a frame's bytes, as its 4 bytes on the wire (R339, R347: IEEE 802.3). -/
def ethFcs (b : Bytes) : Bytes :=
  toLe 4 ((b.foldl (fun c x => ethCrcBits 8 (c ^^^ x.setWidth 32)) 0xFFFFFFFF#32) ^^^ 0xFFFFFFFF#32).toNat

/-- The fixed 40-byte flow-hash key, first byte most significant (R78). -/
def flowKey : Nat :=
  0x3A7C91E25D04B86FC21E7A9348F50DB69163E72C0B7D45F8E6D9103772C48A5EAF1863D115E7C04B

/-- Key bits i to i + 31, counted from the most significant bit of the key (R78). -/
def keyWindow (i : Nat) : Word := BitVec.ofNat 32 (flowKey / 2 ^ (288 - i))

def toeplitzByte (i : Nat) (x : Byte) (h : Word) : Word :=
  (List.range 8).foldl (fun h j => if x.getLsbD (7 - j) then h ^^^ keyWindow (i + j) else h) h

/-- Toeplitz hash of an input of at most 36 bytes, from input bit `i` (R78). -/
def toeplitzFrom : Nat → Bytes → Word → Word
  | _, [], h => h
  | i, x :: xs, h => toeplitzFrom (i + 8) xs (toeplitzByte i x h)

def toeplitz (b : Bytes) : Word := toeplitzFrom 0 b 0

/-- One end-around addition of 16-bit words (R71). -/
def onesAdd (a b : Nat) : Nat :=
  let t := a + b
  if t < 65536 then t else t - 65535

def onesSumFrom : Nat → Bytes → Nat
  | acc, [] => acc
  | acc, [x] => onesAdd acc (x.toNat * 256)
  | acc, x :: y :: r => onesSumFrom (onesAdd acc (x.toNat * 256 + y.toNat)) r

/-- Ones'-complement sum (R71). -/
def onesSum (b : Bytes) : Nat := onesSumFrom 0 b

/-- A checksum that the adapter generates (R72). -/
def checksum (b : Bytes) : Nat := 0xFFFF - onesSum b

/-- Equation 3 of RFC 1624 for one changed word: HC' = ~(~HC + ~m + m') (R74). -/
def csumUpdate (hc m m' : Nat) : Nat := 0xFFFF - onesAdd (onesAdd (0xFFFF - hc) (0xFFFF - m)) m'

/-- Every aligned word of the covered data contributes (R74): `old` and `new` are the covered data, of one length. -/
def csumUpdateAll : Nat → Bytes → Bytes → Nat
  | hc, x :: y :: o, x' :: y' :: n =>
    let m := x.toNat * 256 + y.toNat
    let m' := x'.toNat * 256 + y'.toNat
    csumUpdateAll (if m = m' then hc else csumUpdate hc m m') o n
  | hc, [x], [x'] => if x = x' then hc else csumUpdate hc (x.toNat * 256) (x'.toNat * 256)
  | hc, _, _ => hc

/-- Incremental update of a UDP checksum: 0 stays 0, and a result of 0 is written as 0xFFFF (R73). -/
def udpCsumUpdateAll (hc : Nat) (o n : Bytes) : Nat :=
  if hc = 0 then 0 else
    let r := csumUpdateAll hc o n
    if r = 0 then 0xFFFF else r

/-- Offset of the EtherType after up to two 802.1Q or 802.1ad tags (R79). -/
def etherTypeOff (f : Bytes) : Nat :=
  let tag := fun o => be f o 2 = 0x8100 ∨ be f o 2 = 0x88A8
  if tag 12 then (if tag 16 then 20 else 16) else 12

/-- Flow-hash input of the fixed pre-parse (R79, R671). -/
def flowInput (f : Bytes) : Bytes :=
  let e := etherTypeOff f
  let et := be f e 2
  let o := e + 2
  let n := f.length
  let ihl := bits (byteAt f o) 3 0
  if et = 0x0800 ∧ 5 ≤ ihl ∧ o + 4 * ihl ≤ n then
    let addrs := slice f (o + 12) 8
    let frag := be f (o + 6) 2 % 0x4000 ≠ 0
    let proto := byteAt f (o + 9)
    if (proto = 6 ∨ proto = 17) ∧ ¬ frag ∧ o + 4 * ihl + 4 ≤ n then addrs ++ slice f (o + 4 * ihl) 4 else addrs
  else if et = 0x86DD ∧ o + 40 ≤ n then
    let addrs := slice f (o + 8) 32
    let nh := byteAt f (o + 6)
    if (nh = 6 ∨ nh = 17) ∧ o + 44 ≤ n then addrs ++ slice f (o + 40) 4 else addrs
  else slice f 0 12 ++ slice f e 2

/-- The flow hash of a frame (R20, R78, R79). -/
def flowHash (f : Bytes) : Word := toeplitz (flowInput f)

/-! Reserved fields of requests (R545; notes/assumptions/13.md): the byte and the bits of it that are 0 in a request of each opcode. -/

def rsvDevice : List (Nat × List (Nat × Nat)) :=
  [ (0x0111, [(2, 0xFF), (3, 0xFF)]), (0x0120, [(3, 0xFF)]), (0x0121, [(3, 0xFF)]),
    (0x0122, [(1, 0xFF), (2, 0xFF), (3, 0xFF)]), (0x0123, [(2, 0xFF), (3, 0xFF)]),
    (0x0131, [(4, 0xFF), (5, 0xFF), (6, 0xFF), (7, 0xFF)]), (0x0140, [(1, 0xFF)]),
    (0x0142, [(1, 0xFF), (2, 0xFF), (3, 0xFF)]), (0x0144, [(1, 0xFF), (2, 0xFF), (3, 0xFF)]),
    (0x0150, [(1, 0x80), (2, 0xFE), (3, 0xFF)]) ]

def rsvSlice : List (Nat × List (Nat × Nat)) :=
  [ (0x0203, [(3, 0xFF)]), (0x0205, [(3, 0xFF)]), (0x0206, [(2, 0xFF), (3, 0xFF)]) ]

def rsvRing : List (Nat × List (Nat × Nat)) :=
  [ (0x0300, [(3, 0xFC), (6, 0xFF), (7, 0xFF), (18, 0xF0), (19, 0xFF), (20, 0xFF), (21, 0xFF), (22, 0xFF), (23, 0xFF)]),
    (0x0301, [(3, 0xFE), (6, 0xFF), (7, 0xFF)]), (0x0302, [(3, 0xFF), (6, 0xFF), (7, 0xFF)]),
    (0x0303, [(3, 0xFF), (6, 0xFF), (7, 0xFF), (11, 0xF8), (14, 0xFF), (15, 0xFF)]),
    (0x0304, [(1, 0xFF), (6, 0xFF), (7, 0xFF)]) ]

def rsvTable : List (Nat × List (Nat × Nat)) :=
  [ (0x0400, [(2, 0xFF), (3, 0xFF)]), (0x0401, [(2, 0xFF), (3, 0xFF)]), (0x0402, [(2, 0xFF), (3, 0xFF)]),
    (0x0403, [(2, 0xFF), (3, 0xFF)]), (0x0404, [(2, 0xFF), (3, 0xFF)]), (0x0405, [(1, 0xFF), (2, 0xFF), (3, 0xFF)]),
    (0x0420, [(1, 0xFF), (2, 0xFF), (3, 0xFF)]), (0x0440, [(7, 0xFF)]), (0x0441, [(7, 0xFF)]),
    (0x0448, [(5, 0xFF), (6, 0xFF), (7, 0xFF)]), (0x0449, [(5, 0xFF), (6, 0xFF), (7, 0xFF)]) ]

def rsvCistern : List (Nat × List (Nat × Nat)) :=
  [ (0x0500, [(0, 0xFE), (1, 0xFF), (2, 0xFF), (3, 0xFF), (4, 0xFF), (5, 0xFF), (6, 0xFF), (7, 0xFF)]),
    (0x0501, [(1, 0xFF), (2, 0xFF), (3, 0xFF)]), (0x0502, [(1, 0xFF), (2, 0xFF), (3, 0xFF)]),
    (0x0503, [(1, 0xFF), (2, 0xFF), (3, 0xFF)]), (0x0504, [(2, 0xF0), (3, 0xFE)]), (0x0506, [(3, 0xFF)]),
    (0x0518, [(4, 0xFF), (5, 0xFF), (6, 0xFF), (7, 0xFF)]), (0x0519, [(0, 0xE0), (1, 0xFE), (2, 0xFF), (3, 0xFF)]) ]

def rsvPort : List (Nat × List (Nat × Nat)) :=
  [ (0x0600, [(2, 0xFF), (3, 0xFF)]), (0x0601, [(1, 0xFF), (2, 0xFF), (3, 0xFF)]), (0x0602, [(2, 0xFF), (3, 0xFF)]),
    (0x0604, [(2, 0xFF), (3, 0xFF)]), (0x0610, [(21, 0xFE), (22, 0xFF), (23, 0xFF)]), (0x0611, [(2, 0xFF), (3, 0xFF)]),
    (0x0612, [(3, 0xFF)]), (0x0620, [(1, 0xFF), (6, 0xFF), (7, 0xFF)]),
    (0x0621, [(1, 0xFF), (24, 0xFE), (25, 0xFF), (26, 0xFF), (27, 0xFF)]), (0x0622, [(6, 0xFF), (7, 0xFF)]),
    (0x0623, [(2, 0xFC)]) ]

def rsvOffload : List (Nat × List (Nat × Nat)) :=
  [ (0x0710, [(3, 0xFE), (46, 0xFF), (47, 0xFF)]),
    (0x0720, [(4, 0xFE), (5, 0xFF), (6, 0xFF), (7, 0xFF), (22, 0xFF), (23, 0xFF)]),
    (0x0722, [(1, 0xFF), (2, 0xFF), (3, 0xFF)]), (0x0730, [(2, 0xF0), (3, 0xFF), (17, 0xFF), (18, 0xFF), (19, 0xFF)]),
    (0x0731, [(2, 0xFF), (3, 0xFF)]) ]

def rsvEngine : List (Nat × List (Nat × Nat)) :=
  [ (0x0800, [(4, 0xFF), (5, 0xFF), (6, 0xFF), (7, 0xFF)]), (0x0810, [(2, 0xFF), (3, 0xFF)]),
    (0x0811, [(2, 0xFF), (3, 0xFF)]), (0x0830, [(4, 0xFF), (5, 0xFF), (6, 0xFF), (7, 0xFF)]) ]

def rsvTime : List (Nat × List (Nat × Nat)) :=
  [ (0x0901, [(1, 0xFF), (2, 0xFF), (3, 0xFF)]), (0x0902, [(1, 0xFF), (2, 0xFF), (3, 0xFF)]),
    (0x0903, [(6, 0xFF), (7, 0xFF)]), (0x0910, [(3, 0xFC)]), (0x0920, [(1, 0xFF), (7, 0xFF)]) ]

def rsvGauge : List (Nat × List (Nat × Nat)) :=
  [ (0x0A00, [(10, 0xFE), (11, 0xFF)]), (0x0A01, [(10, 0xFF), (11, 0xFF)]), (0x0A02, [(0, 0xFE), (2, 0xFF), (3, 0xFF)]),
    (0x0A10, [(12, 0xFF), (13, 0xFF), (14, 0xFF), (15, 0xFF)]), (0x0A13, [(9, 0xFF), (10, 0xFF), (11, 0xFF)]),
    (0x0A20, [(5, 0xFE), (6, 0xFF), (7, 0xFF)]), (0x0A21, [(0, 0xFE), (1, 0xFF), (2, 0xFF), (3, 0xFF)]),
    (0x0A40, [(1, 0xFF)]) ]

def rsvFirmware : List (Nat × List (Nat × Nat)) :=
  [ (0x0B00, [(2, 0xFF), (3, 0xFF)]), (0x0B02, [(2, 0xFF), (3, 0xFF)]), (0x0B04, [(2, 0xFF), (3, 0xFF)]),
    (0x0B09, [(4, 0xFE), (5, 0xFF), (6, 0xFF), (7, 0xFF)]), (0x0B10, [(2, 0xFE), (3, 0xFF)]),
    (0x0B13, [(2, 0xFF), (3, 0xFF)]), (0x0B40, [(2, 0xFF), (3, 0xFF)]), (0x0B42, [(1, 0xFF), (2, 0xFF), (3, 0xFF)]),
    (0x0B43, [(3, 0xFC), (6, 0xFF), (7, 0xFF)]), (0x0B44, [(2, 0xFF), (3, 0xFF)]) ]

/-- Reserved bits of a request of an opcode. -/
def rsvOf (op : Nat) : List (Nat × Nat) :=
  let t := [ [], rsvDevice, rsvSlice, rsvRing, rsvTable, rsvCistern, rsvPort, rsvOffload, rsvEngine, rsvTime, rsvGauge, rsvFirmware ].getD (op / 256) []
  match t.find? (fun p => p.1 = op) with
  | some p => p.2
  | none => []

/-- The reserved fields of a request are 0. -/
def rsvClean (op : Nat) (req : Bytes) : Bool := (rsvOf op).all (fun p => decide (byteAt req p.1 &&& p.2 = 0))

end Sys2Proof.Machine
end

