-- ==== Sys2Proof/Machine/Flags.lean ====
section
/-! DEFINITION. The comparison, rounding, saturation and residue rules of the arithmetic chapter (R51 to R83). -/

namespace Sys2Proof.Machine

open Sys2Proof

/-- Distance of two wrapping values of width `n` (R62). -/
def distance (n a b : Nat) : Nat := (a + 2 ^ n - b % 2 ^ n) % 2 ^ n

/-- `a` is later than `b` (R62). -/
def later (n a b : Nat) : Bool :=
  let d := distance n a b
  decide (1 ≤ d ∧ d ≤ 2 ^ (n - 1) - 1)

/-- `a` is earlier than `b` (R62): a difference of exactly 2^(n−1) counts as earlier. -/
def earlier (n a b : Nat) : Bool := decide (2 ^ (n - 1) ≤ distance n a b)

def later32 (a b : Word) : Bool := later 32 a.toNat b.toNat

/-- Nearest integer to `num / den`, halves to even (R53); `den` is positive. -/
def roundHalfEven (num : Int) (den : Nat) : Int :=
  let q := num / (den : Int)
  let r := num % (den : Int)
  if 2 * r < den then q else if 2 * r > den then q + 1 else if q % 2 = 0 then q else q + 1

/-- Saturation to the bounds of a format (R56, R57). -/
def clamp (lo hi x : Int) : Int := if x < lo then lo else if hi < x then hi else x

/-- The residue of a 64-bit value (R81). -/
def residue (x : Nat) : Nat := x % 3

/-- The check of an addition with carry out `c` (R82). -/
def residueAddOk (a b r c : Nat) : Bool := (residue r + c) % 3 = (residue a + residue b) % 3

/-- One Weir tick of a bucket before charges (R69, R70): remainder and level after the increment and the limit. -/
def bucketTick (rate depth : Nat) (level : Int) (rem : Nat) : Int × Nat :=
  let q := rate / 2048
  let r := rate % 2048
  let c := if 2048 ≤ rem + r then 1 else 0
  let level := level + (q + c : Nat)
  let top : Int := (depth * 65536 : Nat)
  (if top < level then top else level, if 2048 ≤ rem + r then rem + r - 2048 else rem + r)

/-- The charge of a committed frame (R70): length plus overhead, not below −2^47. -/
def bucketCharge (level : Int) (len overhead : Nat) : Int :=
  let l := level - ((len + overhead) * 65536 : Nat)
  if l < -(2 ^ 47 : Int) then -(2 ^ 47 : Int) else l

end Sys2Proof.Machine
end

