-- ==== Sys2Proof/Machine/RegTable.lean ====
section
/-! DEFINITION. The register tables of the manual as data: for each block its place in the internal address space (R30), and for
each register its offset, its bits by access type (R9) and its Reset value; then the address of each register by name. -/

namespace Sys2Proof.Machine

open Sys2Proof

/-- A register of a table: masks of its bits by access type (R9). Bits in no mask are RSV. -/
structure RegDesc where
  off : Nat
  /-- Copies of the register inside the block: stride and count of each dimension. -/
  dims : List (Nat × Nat) := []
  ro : Nat := 0
  rw : Nat := 0
  w1c : Nat := 0
  w1s : Nat := 0
  rc : Nat := 0
  wo : Nat := 0
  rwp : Nat := 0
  reset : Nat := 0
  /-- The lower word of a 64-bit quantity (R8, R619). -/
  lower : Bool := false
  upper : Bool := false
  /-- Heartwood word whose view the register is, with the stride of each dimension of block and register (R608). -/
  word : Option (Nat × List Nat) := none
  deriving DecidableEq, Repr

/-- A block of registers: base, copies (stride, count), bytes of one copy. -/
structure RegBlock where
  base : Nat
  dims : List (Nat × Nat)
  span : Nat
  regs : List RegDesc
  deriving DecidableEq, Repr

/-- Plane (R118 to R120). -/
def regsOfPln : RegBlock where
  base := 0x1318010000
  dims := []
  span := 0x10000
  regs := [
    { off := 0, ro := 7, w1c := 8, reset := 2 },
    { off := 4, dims := [(4, 2)], ro := 0xFFFFFFFF },
    { off := 0x10, dims := [(4, 2)], ro := 0xFFFFFF },
    { off := 0x20, rwp := 0x7F, reset := 0x3C, word := some (0x38, []) },
    { off := 0x24, rc := 0xFFFFFFFF },
    { off := 0x100, dims := [(0x40, 4)], rc := 0xFFFFFFFF },
    { off := 0x104, dims := [(0x40, 4)], rc := 0xFFFFFFFF },
    { off := 0x108, dims := [(0x40, 4)], rc := 0xFFFFFFFF },
    { off := 0x10C, dims := [(0x40, 4)], rc := 0xFFFFFFFF },
    { off := 0x110, dims := [(0x40, 4)], rc := 0xFFFFFFFF },
    { off := 0x114, dims := [(0x40, 4)], rc := 0xFFFFFFFF },
    { off := 0x118, dims := [(0x40, 4)], rc := 0xFFFFFFFF },
    { off := 0x11C, dims := [(0x40, 4)], rc := 0xFFFFFFFF },
    { off := 0x120, dims := [(0x40, 4)], rc := 0xFFFFFFFF },
    { off := 0x124, dims := [(0x40, 4)], rc := 0xFFFFFFFF } ]

/-- Rasp (R118 to R120). -/
def regsOfRsp : RegBlock where
  base := 0x1318020000
  dims := []
  span := 0x10000
  regs := [
    { off := 0, ro := 7, w1c := 8, reset := 2 },
    { off := 4, dims := [(4, 2)], ro := 0xFFFFFFFF },
    { off := 0x10, dims := [(4, 2)], ro := 0xFFFFFF },
    { off := 0x24, rc := 0xFFFFFFFF },
    { off := 0x100, dims := [(0x40, 4)], rc := 0xFFFFFFFF },
    { off := 0x104, dims := [(0x40, 4)], rc := 0xFFFFFFFF },
    { off := 0x108, dims := [(0x40, 4)], rc := 0xFFFFFFFF },
    { off := 0x110, dims := [(0x40, 4)], ro := 0xFFFFFFFF, lower := true },
    { off := 0x114, dims := [(0x40, 4)], ro := 0xFFFFFFFF, upper := true } ]

/-- Jig (R159, R160). -/
def regsOfJig : RegBlock where
  base := 0x1318030000
  dims := []
  span := 0x10000
  regs := [
    { off := 0, ro := 0xF, w1c := 0x30 },
    { off := 4, ro := 0xFFFF },
    { off := 0x10, dims := [(4, 4)], ro := 0xFFFF0003 },
    { off := 0x20, dims := [(4, 4)], ro := 0xFFFFFF },
    { off := 0x30, dims := [(4, 4)], ro := 0xFFFFFFFF },
    { off := 0x40, rw := 0xFFFF, reset := 0x64 },
    { off := 0x44, rc := 0xFFFFFFFF },
    { off := 0x100, dims := [(0x40, 4)], rc := 0xFFFFFFFF },
    { off := 0x104, dims := [(0x40, 4)], rc := 0xFFFFFFFF },
    { off := 0x108, dims := [(0x40, 4)], rc := 0xFFFFFFFF },
    { off := 0x10C, dims := [(0x40, 4)], rc := 0xFFFFFFFF },
    { off := 0x110, dims := [(0x40, 4)], rc := 0xFFFFFFFF },
    { off := 0x114, dims := [(0x40, 4)], rc := 0xFFFFFFFF },
    { off := 0x118, dims := [(0x40, 4)], rc := 0xFFFFFFFF },
    { off := 0x120, dims := [(0x40, 4)], ro := 0xFFFFFFFF, lower := true },
    { off := 0x124, dims := [(0x40, 4)], ro := 0xFFFFFFFF, upper := true } ]

/-- Action-unit counters (R204). -/
def regsOfAct : RegBlock where
  base := 0x1318040000
  dims := []
  span := 0x10000
  regs := [
    { off := 0x100, dims := [(0x40, 4)], rc := 0xFFFFFFFF },
    { off := 0x104, dims := [(0x40, 4)], rc := 0xFFFFFFFF },
    { off := 0x108, dims := [(0x40, 4)], rc := 0xFFFFFFFF },
    { off := 0x10C, dims := [(0x40, 4)], rc := 0xFFFFFFFF },
    { off := 0x110, dims := [(0x40, 4)], rc := 0xFFFFFFFF },
    { off := 0x114, dims := [(0x40, 4)], rc := 0xFFFFFFFF },
    { off := 0x118, dims := [(0x40, 4)], rc := 0xFFFFFFFF },
    { off := 0x11C, dims := [(0x40, 4)], rc := 0xFFFFFFFF },
    { off := 0x120, dims := [(0x40, 4)], rc := 0xFFFFFFFF },
    { off := 0x124, dims := [(0x40, 4)], rc := 0xFFFFFFFF } ]

/-- Twin block (R300). -/
def regsOfTwn : RegBlock where
  base := 0x1318050000
  dims := []
  span := 0x10000
  regs := [
    { off := 0, ro := 0x1F, w1c := 0x60 },
    { off := 4, dims := [(4, 2)], ro := 0xFFFF, w1c := 0x80000000 },
    { off := 0x100, dims := [(8, 16)], rw := 0xFF },
    { off := 0x104, dims := [(8, 16)], rw := 0xFFF0FFF, reset := 0xFFF0000 },
    { off := 0x200, dims := [(0x10, 8)], rw := 0x3FF, reset := 0x200 },
    { off := 0x204, dims := [(0x10, 8)], rw := 0xFFFFFFFF, reset := 0x3C0190 },
    { off := 0x208, dims := [(0x10, 8)], rc := 0xFFFFFFFF },
    { off := 0x20C, dims := [(0x10, 8)], rc := 0xFFFFFFFF },
    { off := 0x300, rc := 0xFFFFFFFF },
    { off := 0x304, rc := 0xFFFFFFFF },
    { off := 0x308, rc := 0xFFFFFFFF },
    { off := 0x310, rc := 0xFFFFFFFF },
    { off := 0x314, rc := 0xFFFFFFFF } ]

/-- Crypto (R336). -/
def regsOfCry : RegBlock where
  base := 0x1318060000
  dims := []
  span := 0x10000
  regs := [
    { off := 0, ro := 0x1F, w1c := 0x20 },
    { off := 4, rw := 0xFFFF },
    { off := 8, rc := 0xFFFFFFFF },
    { off := 0x100, rc := 0xFFFFFFFF },
    { off := 0x104, rc := 0xFFFFFFFF },
    { off := 0x108, rc := 0xFFFFFFFF },
    { off := 0x10C, rc := 0xFFFFFFFF },
    { off := 0x110, rc := 0xFFFFFFFF },
    { off := 0x114, rc := 0xFFFFFFFF },
    { off := 0x118, rc := 0xFFFFFFFF },
    { off := 0x11C, rc := 0xFFFFFFFF },
    { off := 0x120, rc := 0xFFFFFFFF },
    { off := 0x124, rc := 0xFFFFFFFF },
    { off := 0x128, rc := 0xFFFFFFFF },
    { off := 0x12C, rc := 0xFFFFFFFF },
    { off := 0x130, ro := 0xFFFFFFFF, lower := true },
    { off := 0x134, ro := 0xFFFFFFFF, upper := true } ]

/-- Receive checksum unit (R375). -/
def regsOfCsum : RegBlock where
  base := 0x1318070000
  dims := []
  span := 0x10000
  regs := [
    { off := 0, rw := 0xFFFFFFFF },
    { off := 4, rw := 1 } ]

/-- Engine island (R250). -/
def regsOfCsc : RegBlock where
  base := 0x131C000000
  dims := [(0x4000000, 2)]
  span := 0x10000
  regs := [
    { off := 0, ro := 3, w1c := 0xC },
    { off := 4, rc := 0xFFFFFFFF },
    { off := 0x10, dims := [(4, 3)], ro := 0xFFFFFFFF } ]

/-- Cascade cluster blocks (R251, R252). -/
def regsOfCcl : RegBlock where
  base := 0x131C010000
  dims := [(0x4000000, 2), (0x10000, 4)]
  span := 0x10000
  regs := [
    { off := 0, ro := 0x3FFE, w1c := 1 },
    { off := 4, dims := [(4, 2)], ro := 0xFFFFFFFF },
    { off := 0x10, ro := 0x1FFFF },
    { off := 0x14, ro := 0x1FFFF },
    { off := 0x18, ro := 0x1FFFF },
    { off := 0x100, dims := [(4, 64)], ro := 0x7FFFF },
    { off := 0x200, ro := 0xFFFFFFFF, lower := true },
    { off := 0x204, ro := 0xFFFFFFFF, upper := true },
    { off := 0x208, rc := 0xFFFFFFFF },
    { off := 0x20C, rc := 0xFFFFFFFF },
    { off := 0x210, rc := 0xFFFFFFFF },
    { off := 0x214, rc := 0xFFFFFFFF },
    { off := 0x218, rc := 0xFFFFFFFF },
    { off := 0x21C, rc := 0xFFFFFFFF },
    { off := 0x220, rc := 0xFFFFFFFF },
    { off := 0x224, rc := 0xFFFFFFFF },
    { off := 0x228, rc := 0xFFFFFFFF },
    { off := 0x22C, rc := 0xFFFFFFFF },
    { off := 0x230, rc := 0xFFFFFFFF },
    { off := 0x234, rc := 0xFFFFFFFF } ]

/-- Cistern (R203, R204). -/
def regsOfCst : RegBlock where
  base := 0x1324000000
  dims := []
  span := 0x10000
  regs := [
    { off := 0, ro := 1, w1c := 2 },
    { off := 4, ro := 0x7FFFFF },
    { off := 8, ro := 0x7FF },
    { off := 0x10, rwp := 0x3FFF, reset := 0x3E8, word := some (0x40, []) },
    { off := 0x20, dims := [(4, 8)], rwp := 0xFFFF, reset := 0x12C, word := some (0x41, [1]) },
    { off := 0x40, rc := 0xFFFFFFFF },
    { off := 0x44, ro := 0x7FFFFF, w1c := 0x80000000 },
    { off := 0x100, ro := 0xFFFFFFFF, lower := true },
    { off := 0x104, ro := 0xFFFFFFFF, upper := true },
    { off := 0x108, ro := 0xFFFFFFFF, lower := true },
    { off := 0x10C, ro := 0xFFFFFFFF, upper := true },
    { off := 0x110, rc := 0xFFFFFFFF },
    { off := 0x114, rc := 0xFFFFFFFF },
    { off := 0x118, rc := 0xFFFFFFFF },
    { off := 0x11C, rc := 0xFFFFFFFF },
    { off := 0x120, rc := 0xFFFFFFFF },
    { off := 0x124, rc := 0xFFFFFFFF } ]

/-- Scribe (R203, R204). -/
def regsOfScb : RegBlock where
  base := 0x1324010000
  dims := []
  span := 0x10000
  regs := [
    { off := 0, ro := 0x1FFF },
    { off := 4, rwp := 0xF, reset := 8, word := some (0x49, []) },
    { off := 8, rwp := 0x3FFF, reset := 0x3E8, word := some (0x4A, []) },
    { off := 0xC, rwp := 0xFFF, reset := 0x3C, word := some (0x4B, []) },
    { off := 0x100, rc := 0xFFFFFFFF },
    { off := 0x104, rc := 0xFFFFFFFF },
    { off := 0x108, rc := 0xFFFFFFFF },
    { off := 0x10C, rc := 0xFFFFFFFF },
    { off := 0x110, rc := 0xFFFFFFFF },
    { off := 0x114, rc := 0xFFFFFFFF },
    { off := 0x118, rc := 0xFFFFFFFF },
    { off := 0x11C, rc := 0xFFFFFFFF },
    { off := 0x120, rc := 0xFFFFFFFF },
    { off := 0x124, rc := 0xFFFFFFFF },
    { off := 0x128, rc := 0xFFFFFFFF },
    { off := 0x12C, rc := 0xFFFFFFFF },
    { off := 0x130, rc := 0xFFFFFFFF } ]

/-- Square (R203). -/
def regsOfSqr : RegBlock where
  base := 0x1324020000
  dims := []
  span := 0x10000
  regs := [
    { off := 0, ro := 1, w1c := 2 },
    { off := 4, ro := 0xFFFFFFFF },
    { off := 0x100, dims := [(4, 32)], w1c := 0xFFFFFFFF },
    { off := 0x200, dims := [(4, 32)], ro := 0xFFFFFFFF } ]

/-- Dovetail islands 0, 1, 4 and 5 (R301). -/
def regsOfDvp : RegBlock where
  base := 0x1300080000
  dims := [(0x10000000, 2), (0x4000000, 2)]
  span := 0x10000
  regs := [
    { off := 0, ro := 0x1FFFF, w1c := 0x20000 },
    { off := 0x10, ro := 0xFFFFFFFF, lower := true },
    { off := 0x14, ro := 0xFFFFFFFF, upper := true },
    { off := 0x18, ro := 0xFFFFFFFF, lower := true },
    { off := 0x1C, ro := 0xFFFFFFFF, upper := true },
    { off := 0x20, rc := 0xFFFFFFFF },
    { off := 0x24, rc := 0xFFFFFFFF },
    { off := 0x28, rc := 0xFFFFFFFF },
    { off := 0x2C, rc := 0xFFFFFFFF } ]

/-- Itwin (R302). -/
def regsOfItw : RegBlock where
  base := 0x1334000000
  dims := []
  span := 0x10000
  regs := [
    { off := 0, ro := 0x31F, w1c := 0xE0 },
    { off := 4, rw := 1, rwp := 2, word := some (0x30, []) },
    { off := 8, rwp := 0xFFFF, word := some (0x31, []) },
    { off := 0xC, rwp := 0xFFFFF, reset := 0x30064, word := some (0x32, []) },
    { off := 0x10, ro := 0xFFFFFFFF, lower := true },
    { off := 0x14, ro := 0xFFFFFFFF, upper := true },
    { off := 0x18, ro := 0xFFFF },
    { off := 0x100, rc := 0xFFFFFFFF },
    { off := 0x104, rc := 0xFFFFFFFF },
    { off := 0x108, rc := 0xFFFFFFFF },
    { off := 0x10C, rc := 0xFFFFFFFF },
    { off := 0x110, rc := 0xFFFFFFFF },
    { off := 0x114, rc := 0xFFFFFFFF },
    { off := 0x118, rc := 0xFFFFFFFF },
    { off := 0x11C, rc := 0xFFFFFFFF } ]

/-- NVMe/TCP (R336). -/
def regsOfNvt : RegBlock where
  base := 0x1300090000
  dims := [(0x4000000, 2)]
  span := 0x10000
  regs := [
    { off := 0, ro := 0x1FFFF },
    { off := 0x100, rc := 0xFFFFFFFF },
    { off := 0x104, rc := 0xFFFFFFFF },
    { off := 0x108, rc := 0xFFFFFFFF },
    { off := 0x10C, rc := 0xFFFFFFFF },
    { off := 0x110, rc := 0xFFFFFFFF },
    { off := 0x114, rc := 0xFFFFFFFF },
    { off := 0x120, ro := 0xFFFFFFFF, lower := true },
    { off := 0x124, ro := 0xFFFFFFFF, upper := true } ]

/-- Port blocks (R375). -/
def regsOfPrt : RegBlock where
  base := 0x1308000000
  dims := [(0x4000000, 2)]
  span := 0x10000
  regs := [
    { off := 0, ro := 0xFF03 },
    { off := 4, ro := 0xFFFF },
    { off := 0x100, dims := [(8, 8)], ro := 0xFFFFFFFF, lower := true },
    { off := 0x104, dims := [(8, 8)], ro := 0xFFFFFFFF, upper := true } ]

/-- MAC receive blocks (R376, R378). -/
def regsOfMrx : RegBlock where
  base := 0x1308010000
  dims := [(0x4000000, 2), (0x1000, 8)]
  span := 0x1000
  regs := [
    { off := 0, rw := 0x7FF0F },
    { off := 4, rw := 0x3FFF, reset := 0x5F2 },
    { off := 8, rw := 0xFFFFFF, reset := 0xFAC688 },
    { off := 0x10, dims := [(8, 8)], rw := 0xFFFFFF },
    { off := 0x14, dims := [(8, 8)], rw := 0xFFFFFF },
    { off := 0x50, dims := [(4, 8)], ro := 0xFFFFFF },
    { off := 0x70, rw := 0xFFFFFFFF, reset := 0x7FFFFFFF },
    { off := 0x74, rw := 0x1FFFF, reset := 0x64 },
    { off := 0x80, dims := [(4, 8)], ro := 0xFFFFFF },
    { off := 0xA0, ro := 0x7FFFF, w1c := 0x80000 },
    { off := 0x100, ro := 0xFFFFFFFF, lower := true },
    { off := 0x104, ro := 0xFFFFFFFF, upper := true },
    { off := 0x108, ro := 0xFFFFFFFF, lower := true },
    { off := 0x10C, ro := 0xFFFFFFFF, upper := true },
    { off := 0x110, ro := 0xFFFFFFFF, lower := true },
    { off := 0x114, ro := 0xFFFFFFFF, upper := true },
    { off := 0x118, ro := 0xFFFFFFFF, lower := true },
    { off := 0x11C, ro := 0xFFFFFFFF, upper := true },
    { off := 0x120, ro := 0xFFFFFFFF, lower := true },
    { off := 0x124, ro := 0xFFFFFFFF, upper := true },
    { off := 0x128, ro := 0xFFFFFFFF, lower := true },
    { off := 0x12C, ro := 0xFFFFFFFF, upper := true },
    { off := 0x130, ro := 0xFFFFFFFF, lower := true },
    { off := 0x134, ro := 0xFFFFFFFF, upper := true },
    { off := 0x138, ro := 0xFFFFFFFF, lower := true },
    { off := 0x13C, ro := 0xFFFFFFFF, upper := true },
    { off := 0x140, ro := 0xFFFFFFFF, lower := true },
    { off := 0x144, ro := 0xFFFFFFFF, upper := true },
    { off := 0x148, ro := 0xFFFFFFFF, lower := true },
    { off := 0x14C, ro := 0xFFFFFFFF, upper := true },
    { off := 0x150, ro := 0xFFFFFFFF, lower := true },
    { off := 0x154, ro := 0xFFFFFFFF, upper := true },
    { off := 0x158, ro := 0xFFFFFFFF, lower := true },
    { off := 0x15C, ro := 0xFFFFFFFF, upper := true },
    { off := 0x160, ro := 0xFFFFFFFF, lower := true },
    { off := 0x164, ro := 0xFFFFFFFF, upper := true },
    { off := 0x168, ro := 0xFFFFFFFF, lower := true },
    { off := 0x16C, ro := 0xFFFFFFFF, upper := true },
    { off := 0x170, ro := 0xFFFFFFFF, lower := true },
    { off := 0x174, ro := 0xFFFFFFFF, upper := true },
    { off := 0x178, ro := 0xFFFFFFFF, lower := true },
    { off := 0x17C, ro := 0xFFFFFFFF, upper := true },
    { off := 0x180, ro := 0xFFFFFFFF, lower := true },
    { off := 0x184, ro := 0xFFFFFFFF, upper := true },
    { off := 0x188, ro := 0xFFFFFFFF, lower := true },
    { off := 0x18C, ro := 0xFFFFFFFF, upper := true },
    { off := 0x190, dims := [(8, 7)], ro := 0xFFFFFFFF, lower := true },
    { off := 0x194, dims := [(8, 7)], ro := 0xFFFFFFFF, upper := true },
    { off := 0x1D0, ro := 0xFFFFFFFF, lower := true },
    { off := 0x1D4, ro := 0xFFFFFFFF, upper := true },
    { off := 0x1D8, ro := 0xFFFFFFFF, lower := true },
    { off := 0x1DC, ro := 0xFFFFFFFF, upper := true },
    { off := 0x200, dims := [(8, 8)], ro := 0xFFFFFFFF, lower := true },
    { off := 0x204, dims := [(8, 8)], ro := 0xFFFFFFFF, upper := true } ]

/-- MAC transmit blocks with Sluice (R377, R378) and the stamp queue (R417). -/
def regsOfMtx : RegBlock where
  base := 0x1310010000
  dims := [(0x4000000, 2), (0x1000, 8)]
  span := 0x1000
  regs := [
    { off := 0, rw := 0x7FFF, reset := 2 },
    { off := 4, ro := 0xFFFF, rw := 0xFFFF0000, reset := 0x1000100 },
    { off := 8, ro := 0xFFFFF },
    { off := 0xC, rwp := 0xFFFFFFFF, word := some (0x50, [16, 2]) },
    { off := 0x10, rwp := 0xFFFF, word := some (0x51, [16, 2]) },
    { off := 0x100, ro := 0xFFFFFFFF, lower := true },
    { off := 0x104, ro := 0xFFFFFFFF, upper := true },
    { off := 0x108, ro := 0xFFFFFFFF, lower := true },
    { off := 0x10C, ro := 0xFFFFFFFF, upper := true },
    { off := 0x110, ro := 0xFFFFFFFF, lower := true },
    { off := 0x114, ro := 0xFFFFFFFF, upper := true },
    { off := 0x118, ro := 0xFFFFFFFF, lower := true },
    { off := 0x11C, ro := 0xFFFFFFFF, upper := true },
    { off := 0x120, ro := 0xFFFFFFFF, lower := true },
    { off := 0x124, ro := 0xFFFFFFFF, upper := true },
    { off := 0x128, ro := 0xFFFFFFFF, lower := true },
    { off := 0x12C, ro := 0xFFFFFFFF, upper := true },
    { off := 0x130, ro := 0xFFFFFFFF, lower := true },
    { off := 0x134, ro := 0xFFFFFFFF, upper := true },
    { off := 0x138, ro := 0xFFFFFFFF, lower := true },
    { off := 0x13C, ro := 0xFFFFFFFF, upper := true },
    { off := 0x140, ro := 0xFFFFFFFF, lower := true },
    { off := 0x144, ro := 0xFFFFFFFF, upper := true },
    { off := 0x148, ro := 0xFFFFFFFF, lower := true },
    { off := 0x14C, ro := 0xFFFFFFFF, upper := true },
    { off := 0x150, ro := 0xFFFFFFFF, lower := true },
    { off := 0x154, ro := 0xFFFFFFFF, upper := true },
    { off := 0x158, ro := 0xFFFFFFFF, lower := true },
    { off := 0x15C, ro := 0xFFFFFFFF, upper := true },
    { off := 0x160, ro := 0xFFFFFFFF, lower := true },
    { off := 0x164, ro := 0xFFFFFFFF, upper := true },
    { off := 0x200, dims := [(8, 8)], ro := 0xFFFFFFFF, lower := true },
    { off := 0x204, dims := [(8, 8)], ro := 0xFFFFFFFF, upper := true },
    { off := 0x800, ro := 0xFFF0001, rw := 0xFF00, reset := 0xFF00 },
    { off := 0x804, ro := 0x7FEFFF, w1c := 0x1000 },
    { off := 0x808, ro := 0xFFFFFFFF },
    { off := 0x80C, ro := 0x7FF },
    { off := 0x810, ro := 0xFFFFFFFF, lower := true },
    { off := 0x814, ro := 0xFFFFFFFF, upper := true },
    { off := 0x818, ro := 0x3FFFFFFF },
    { off := 0x900, rc := 0xFFFF01FF },
    { off := 0x904, ro := 0xFFF },
    { off := 0x908, ro := 0xFFFFFFFF, lower := true },
    { off := 0x90C, ro := 0xFFFFFFFF, upper := true },
    { off := 0x910, rc := 0xFFFFFFFF },
    { off := 0x914, rc := 0xFFFFFFFF },
    { off := 0x918, rc := 0xFFFFFFFF } ]

/-- Weir blocks (R375). -/
def regsOfWeir : RegBlock where
  base := 0x1310100000
  dims := [(0x4000000, 2)]
  span := 0x10000
  regs := [
    { off := 0, ro := 0x1FFFF },
    { off := 8, ro := 0xFFFFFFFF, lower := true },
    { off := 0xC, ro := 0xFFFFFFFF, upper := true },
    { off := 0x10, rc := 0xFFFFFFFF } ]

/-- Timebase (R414). -/
def regsOfTim : RegBlock where
  base := 0x1330000000
  dims := []
  span := 0x10000
  regs := [
    { off := 0, ro := 1, w1c := 6 },
    { off := 4, ro := 0xFFFFFFFF },
    { off := 8, rwp := 1, word := some (6, []) },
    { off := 0x10, ro := 0xFFFFFFFF, lower := true },
    { off := 0x14, ro := 0xFFFFFFFF, upper := true },
    { off := 0x18, ro := 0x3FFFFFFF },
    { off := 0x1C, ro := 0xFFFFFFFF },
    { off := 0x20, rw := 0xFFFFFFFF, lower := true },
    { off := 0x24, rw := 0xFFFFFFFF, upper := true },
    { off := 0x28, rwp := 0xFFFFFFFF, lower := true, word := some (0x80, []) },
    { off := 0x2C, rwp := 0xFFFFFFFF, upper := true, word := some (0x81, []) },
    { off := 0x30, ro := 0xFFFFFFFF, lower := true },
    { off := 0x34, ro := 0xFFFFFFFF, upper := true },
    { off := 0x100, dims := [(0x20, 2), (8, 4), (4, 2)], rwp := 0xFFFFFFFF, word := some (0x90, [8, 2, 1]) },
    { off := 0x200, dims := [(0x40, 2), (8, 8), (4, 2)], rwp := 0xFFFFFFFF, word := some (0xA0, [16, 2, 1]) } ]

/-- Plumb (R415). -/
def regsOfPlb : RegBlock where
  base := 0x1330010000
  dims := []
  span := 0x10000
  regs := [
    { off := 0, rwp := 0xFF, reset := 0x20, word := some (0x82, []) },
    { off := 4, ro := 0xF87, w1c := 0x78 },
    { off := 8, rwp := 0xFFFFFFFF, lower := true, word := some (0x83, []) },
    { off := 0xC, rwp := 0xFFFFFFFF, reset := 0x10, upper := true, word := some (0x84, []) },
    { off := 0x10, rwp := 0xFFFFFFFF, lower := true, word := some (0x85, []) },
    { off := 0x14, rwp := 0xFFFFFFFF, reset := 1, upper := true, word := some (0x86, []) },
    { off := 0x18, rwp := 0xFFFFFFFF, lower := true, word := some (0x87, []) },
    { off := 0x1C, rwp := 0xFFFFFFFF, reset := 0x800, upper := true, word := some (0x88, []) },
    { off := 0x20, rwp := 0xFFFFFFFF, lower := true, word := some (0x89, []) },
    { off := 0x24, rwp := 0xFFFFFFFF, reset := 0x1000, upper := true, word := some (0x8A, []) },
    { off := 0x28, rwp := 0xFFFFFFFF, reset := 0x3E8, word := some (0x8B, []) },
    { off := 0x2C, rwp := 0xFFFF, reset := 0x32, word := some (0x8C, []) },
    { off := 0x30, rwp := 0xFFFF, reset := 0x64, word := some (0x8D, []) },
    { off := 0x34, rwp := 0xFFFF, reset := 0x3E8, word := some (0x8E, []) },
    { off := 0x38, rwp := 0xFFFFFFFF, word := some (0x8F, []) },
    { off := 0x40, ro := 0xFFFFFFFF, lower := true },
    { off := 0x44, ro := 0xFFFFFFFF, upper := true },
    { off := 0x48, ro := 0xFFFFFFFF, lower := true },
    { off := 0x4C, ro := 0xFFFFFFFF, upper := true },
    { off := 0x50, ro := 0xFFFFFFFF, lower := true },
    { off := 0x54, ro := 0xFFFFFFFF, upper := true },
    { off := 0x58, ro := 0xFFFFFFFF, lower := true },
    { off := 0x5C, ro := 0xFFFFFFFF, upper := true },
    { off := 0x60, wo := 0xFFFFFFFF, lower := true },
    { off := 0x64, wo := 0xFFFFFFFF, upper := true },
    { off := 0x68, wo := 0xFFFFFFFF, lower := true },
    { off := 0x6C, wo := 0xFFFFFFFF, upper := true },
    { off := 0x100, rc := 0xFFFFFFFF },
    { off := 0x104, rc := 0xFFFFFFFF },
    { off := 0x108, rc := 0xFFFFFFFF },
    { off := 0x10C, rc := 0xFFFFFFFF },
    { off := 0x110, rc := 0xFFFFFFFF },
    { off := 0x114, rc := 0xFFFFFFFF } ]

/-- Timed I/O channels (R416). -/
def regsOfTio : RegBlock where
  base := 0x1330020000
  dims := [(0x40, 10)]
  span := 0x40
  regs := [
    { off := 0, rw := 0x3F, w1c := 0x80, w1s := 0x40 },
    { off := 4, rw := 0xFFFFFFFF, lower := true },
    { off := 8, rw := 0xFFFFFFFF, upper := true },
    { off := 0xC, rw := 0x3FFFFFFF },
    { off := 0x10, rw := 0xFF },
    { off := 0x14, rw := 0xFFFFFFFF },
    { off := 0x18, rw := 0xFFFF },
    { off := 0x1C, rw := 0xFFFFFFFF },
    { off := 0x20, rc := 0x7F },
    { off := 0x24, ro := 0xFFFFFFFF, lower := true },
    { off := 0x28, ro := 0xFFFFFFFF, upper := true },
    { off := 0x2C, rwp := 0xFFFFFFFF, word := some (0xC0, [2]) },
    { off := 0x30, rc := 0xFFFFFFFF },
    { off := 0x34, rwp := 0xFFFFFFFF, word := some (0xC1, [2]) } ]

/-- PTP engine (R417). -/
def regsOfPtp : RegBlock where
  base := 0x1330030000
  dims := []
  span := 0x10000
  regs := [
    { off := 0, ro := 0xFF7F, word := some (0xD8, []) },
    { off := 0x100, dims := [(0x20, 16)], ro := 0xFFFFFF0F },
    { off := 0x104, dims := [(0x20, 16)], rc := 0xFFFFFFFF },
    { off := 0x108, dims := [(0x20, 16)], rc := 0xFFFFFFFF },
    { off := 0x10C, dims := [(0x20, 16)], rc := 0xFFFFFFFF },
    { off := 0x110, dims := [(0x20, 16)], rc := 0xFFFFFFFF },
    { off := 0x114, dims := [(0x20, 16)], rc := 0xFFFFFFFF } ]

/-- Host interface (R455). -/
def regsOfHif : RegBlock where
  base := 0x1300000000
  dims := [(0x4000000, 2)]
  span := 0x20000
  regs := [
    { off := 0, ro := 0x1FFFFFF },
    { off := 4, ro := 0x1F },
    { off := 8, ro := 0x7FFFFFF },
    { off := 0x10, rw := 0x7FF },
    { off := 0x14, ro := 0x7FFFFFFF },
    { off := 0x18, w1c := 0x7F },
    { off := 0x1C, rw := 0x7F },
    { off := 0x20, rw := 0x7FF },
    { off := 0x24, ro := 1 },
    { off := 0x28, rw := 0x9FFF9FFF },
    { off := 0x30, ro := 0x7FFFFFF, w1c := 0x80000000 },
    { off := 0x1000, dims := [(8, 256)], ro := 0xFFFC0007 },
    { off := 0x1004, dims := [(8, 256)], ro := 0xFFFF },
    { off := 0x2000, ro := 0xF, rc := 0xFFFF0000 },
    { off := 0x2004, wo := 3 },
    { off := 0x2100, rc := 0xFFFFFFFF },
    { off := 0x2104, rc := 0xFFFFFFFF },
    { off := 0x2108, rc := 0xFFFFFFFF },
    { off := 0x210C, rc := 0xFFFFFFFF },
    { off := 0x2110, rc := 0xFFFFFFFF },
    { off := 0x2114, rc := 0xFFFFFFFF },
    { off := 0x2118, rc := 0xFFFFFFFF },
    { off := 0x211C, rc := 0xFFFFFFFF },
    { off := 0x2120, rc := 0xFFFFFFFF },
    { off := 0x2124, rc := 0xFFFFFFFF },
    { off := 0x2128, rc := 0xFFFFFFFF } ]

/-- Non-secure mailbox channels of PF0 (R498, R500). -/
def regsOfPfmbx : RegBlock where
  base := 0x1300030000
  dims := [(0x4000000, 2), (0x1000, 2)]
  span := 0x1000
  regs := [
    { off := 0, wo := 1 },
    { off := 4, ro := 1, w1c := 6 },
    { off := 8, ro := 1 },
    { off := 0xC, wo := 1 },
    { off := 0x10, ro := 0xFFFFFFFF },
    { off := 0x14, rw := 0x107FF } ]

/-- PF0 doorbells (R497). -/
def regsOfPfdb : RegBlock where
  base := 0x1300038000
  dims := [(0x4000000, 2)]
  span := 0x1000
  regs := [
    { off := 0, wo := 0xFFFF1FFF },
    { off := 4, wo := 0xFFFF1FFF },
    { off := 8, wo := 0xFFFF3FFF },
    { off := 0xC, wo := 0x1FFFF } ]

/-- Rings (R496). -/
def regsOfRing : RegBlock where
  base := 0x1301000000
  dims := [(0x4000000, 2), (0x40, 8192)]
  span := 0x40
  regs := [
    { off := 0, ro := 0xFFFFFFFF },
    { off := 4, ro := 0xFFFFFFFF },
    { off := 8, ro := 0xFFFFFFFF },
    { off := 0xC, ro := 0xFFFFFFFF },
    { off := 0x10, ro := 0xFFFFFFFF },
    { off := 0x14, ro := 0xFFFFFFFF },
    { off := 0x18, ro := 0xFFFFFFFF },
    { off := 0x1C, ro := 0xFFFFFFFF },
    { off := 0x20, ro := 0xFFFFFFF },
    { off := 0x24, ro := 0x3FF },
    { off := 0x28, ro := 0xFFFFFFFF },
    { off := 0x2C, rc := 0xFFFFFFFF },
    { off := 0x30, rc := 0xFFFFFFFF },
    { off := 0x34, rc := 0xFFFFFFFF } ]

/-- PF0 hold-offs (R497). -/
def regsOfPfitr : RegBlock where
  base := 0x1301080000
  dims := [(0x4000000, 2)]
  span := 0x2000
  regs := [
    { off := 0, dims := [(4, 2048)], ro := 0x7FF } ]

/-- Wellhead (R607). -/
def regsOfWh : RegBlock where
  base := 0x132C000000
  dims := []
  span := 0x10000
  regs := [
    { off := 0, ro := 0xFF1FFF },
    { off := 4, ro := 7, word := some (0x12, []) },
    { off := 8, ro := 0xFFFFFFFF, word := some (0x13, []) },
    { off := 0xC, ro := 0x1F, w1c := 0x60 },
    { off := 0x10, rc := 0xFFFFFFFF },
    { off := 0x14, rc := 0xFFFFFFFF },
    { off := 0x18, ro := 0x3F },
    { off := 0x1C, ro := 0x3F },
    { off := 0x20, ro := 0xFFFFFFFF, lower := true },
    { off := 0x24, ro := 0xFFFFFFFF, upper := true },
    { off := 0x28, ro := 0xFFFFFFFF, lower := true, word := some (0x15, []) },
    { off := 0x2C, ro := 0xFFFFFFFF, upper := true, word := some (0x16, []) } ]

/-- Heartwood controller (R639). -/
def regsOfHwd : RegBlock where
  base := 0x132C100000
  dims := []
  span := 0x10000
  regs := [
    { off := 0, w1c := 3 },
    { off := 4, ro := 0x3FF, w1c := 0x80000000 },
    { off := 8, rc := 0xFFFFFFFF },
    { off := 0xC, rc := 0xFFFFFFFF },
    { off := 0x10, ro := 0xFFFFFFFF, lower := true },
    { off := 0x14, ro := 0xFFFFFFFF, upper := true } ]

/-- Gauge (R639). -/
def regsOfGau : RegBlock where
  base := 0x132C200000
  dims := []
  span := 0x10000
  regs := [
    { off := 0, ro := 3, w1c := 4 },
    { off := 8, ro := 0xFFFFFFFF, lower := true },
    { off := 0xC, ro := 0xFFFFFFFF, upper := true },
    { off := 0x10, rc := 0xFFFFFFFF },
    { off := 0x20, rw := 7, reset := 2 },
    { off := 0x24, ro := 0xFFFFFFFF },
    { off := 0x28, rc := 0xFFFFFFFF },
    { off := 0x2C, rc := 0xFFFFFFFF },
    { off := 0x30, ro := 1 },
    { off := 0x34, ro := 0xFFFF } ]

/-- Mailbox summary (R524). -/
def regsOfMbx : RegBlock where
  base := 0x132C300000
  dims := []
  span := 0x1000
  regs := [
    { off := 0, dims := [(4, 65)], ro := 0xFFFFFFFF },
    { off := 0x200, dims := [(4, 65)], w1c := 0xFFFFFFFF },
    { off := 0x400, rc := 0xFFFFFFFF },
    { off := 0x404, rc := 0xFFFFFFFF },
    { off := 0x408, rc := 0xFFFFFFFF },
    { off := 0x40C, rc := 0xFFFFFFFF },
    { off := 0x410, rc := 0xFFFFFFFF },
    { off := 0x414, rc := 0xFFFFFFFF },
    { off := 0x418, rc := 0xFFFFFFFF },
    { off := 0x41C, rc := 0xFFFFFFFF } ]

/-- Mailbox channel blocks (R523). -/
def regsOfFwmbx : RegBlock where
  base := 0x132C400000
  dims := [(0x400, 2057)]
  span := 0x400
  regs := [
    { off := 0, ro := 0xF },
    { off := 4, wo := 1 },
    { off := 8, wo := 1 },
    { off := 0xC, ro := 1, w1c := 6 },
    { off := 0x10, ro := 0xFFFFFFFF } ]

/-- VF pages (R456 to R459), keyed outside the internal address space (notes/assumptions/6.md). -/
def regsOfVf : RegBlock where
  base := 0x1000000000000
  dims := [(0x8000000, 2), (0x10000, 1025)]
  span := 0x10000
  regs := [
    { off := 0, ro := 0x7FFFFF },
    { off := 4, ro := 0xFFFF },
    { off := 8, ro := 7, w1c := 8 },
    { off := 0xC, ro := 0x1FFFFF, w1c := 0x80000000 },
    { off := 0x10, ro := 0x3FFF },
    { off := 0x14, ro := 0xFFF },
    { off := 0x18, ro := 0xFFFFF },
    { off := 0x1C, ro := 0x1FFFFF },
    { off := 0x20, ro := 0x1FFFF },
    { off := 0x24, ro := 0x1FFFF },
    { off := 0x28, ro := 0x1F },
    { off := 0x2C, ro := 0xF },
    { off := 0x30, ro := 0xFFFFFFFF, lower := true },
    { off := 0x34, ro := 0xFFFFFFFF, upper := true },
    { off := 0x38, ro := 0xFFFF },
    { off := 0x3C, w1c := 0xF },
    { off := 0x40, rw := 0xF },
    { off := 0x44, rw := 0x7FF },
    { off := 0x48, rw := 1 },
    { off := 0x4C, rw := 0xFFFFFFFF },
    { off := 0x1000, wo := 0xFFFF1FFF },
    { off := 0x1004, wo := 0xFFFF1FFF },
    { off := 0x1008, wo := 0xFFFF3FFF },
    { off := 0x100C, wo := 0x1FFFF },
    { off := 0x1010, wo := 0x7FF07FF },
    { off := 0x1014, ro := 0x80001FFF },
    { off := 0x2000, wo := 1 },
    { off := 0x2004, ro := 1, w1c := 6 },
    { off := 0x2008, ro := 1 },
    { off := 0x200C, wo := 1 },
    { off := 0x2010, ro := 0xFFFFFFFF },
    { off := 0x2014, rw := 0x107FF },
    { off := 0x3000, ro := 0xFFFFFFFF, lower := true },
    { off := 0x3004, ro := 0xFFFFFFFF, upper := true },
    { off := 0x3008, ro := 0xFFFFFFFF, lower := true },
    { off := 0x300C, ro := 0xFFFFFFFF, upper := true },
    { off := 0x3010, ro := 0xFFFFFFFF, lower := true },
    { off := 0x3014, ro := 0xFFFFFFFF, upper := true },
    { off := 0x3018, ro := 0xFFFFFFFF, lower := true },
    { off := 0x301C, ro := 0xFFFFFFFF, upper := true },
    { off := 0x3020, rc := 0xFFFFFFFF },
    { off := 0x3024, rc := 0xFFFFFFFF },
    { off := 0x3028, rc := 0xFFFFFFFF },
    { off := 0x302C, rc := 0xFFFFFFFF },
    { off := 0x3030, rc := 0xFFFFFFFF },
    { off := 0x3034, rc := 0xFFFFFFFF },
    { off := 0x3038, rc := 0xFFFFFFFF },
    { off := 0x303C, rc := 0xFFFFFFFF } ]

/-- Secure mailbox channels in BAR4 (R498), keyed outside the internal address space (notes/assumptions/6.md). -/
def regsOfPfsec : RegBlock where
  base := 0x2000000000000
  dims := [(0x10000, 2), (0x1000, 2)]
  span := 0x1000
  regs := [
    { off := 0, wo := 1 },
    { off := 4, ro := 1, w1c := 6 },
    { off := 8, ro := 1 },
    { off := 0xC, wo := 1 },
    { off := 0x10, ro := 0xFFFFFFFF },
    { off := 0x14, rw := 0x107FF } ]

/-- Every block of registers. -/
def regBlocks : List RegBlock := [
  regsOfPln, regsOfRsp, regsOfJig, regsOfAct, regsOfTwn, regsOfCry, regsOfCsum, regsOfCsc, regsOfCcl, regsOfCst, regsOfScb, regsOfSqr, regsOfDvp, regsOfItw, regsOfNvt, regsOfPrt, regsOfMrx, regsOfMtx, regsOfWeir, regsOfTim, regsOfPlb, regsOfTio, regsOfPtp, regsOfHif, regsOfPfmbx, regsOfPfdb, regsOfRing, regsOfPfitr, regsOfWh, regsOfHwd, regsOfGau, regsOfMbx, regsOfFwmbx, regsOfVf, regsOfPfsec ]

/-! Addresses: Plane (R118 to R120). -/

def r_PLN_STATUS : Nat := 0x1318010000
def r_PLN_TAG (i : Nat) : Nat := 0x1318010004 + 4 * i
def r_PLN_INFLIGHT (i : Nat) : Nat := 0x1318010010 + 4 * i
def r_PLN_PAD_LIMIT : Nat := 0x1318010020
def r_PLN_ECC_CORR : Nat := 0x1318010024
def r_PLN_CNT_DEEP_WINDOW (i : Nat) : Nat := 0x1318010100 + 0x40 * i
def r_PLN_CNT_DEEP_DEPTH (i : Nat) : Nat := 0x1318010104 + 0x40 * i
def r_PLN_CNT_LEN_OVER (i : Nat) : Nat := 0x1318010108 + 0x40 * i
def r_PLN_CNT_LEN_SHORT (i : Nat) : Nat := 0x131801010C + 0x40 * i
def r_PLN_CNT_LEN_BAD (i : Nat) : Nat := 0x1318010110 + 0x40 * i
def r_PLN_CNT_HDR_TRUNC (i : Nat) : Nat := 0x1318010114 + 0x40 * i
def r_PLN_CNT_NEXT_UNKNOWN (i : Nat) : Nat := 0x1318010118 + 0x40 * i
def r_PLN_CNT_L3_CSUM_BAD (i : Nat) : Nat := 0x131801011C + 0x40 * i
def r_PLN_CNT_POLICY_DROP (i : Nat) : Nat := 0x1318010120 + 0x40 * i
def r_PLN_CNT_POLICY_ENGINE (i : Nat) : Nat := 0x1318010124 + 0x40 * i

/-! Addresses: Rasp (R118 to R120). -/

def r_RSP_STATUS : Nat := 0x1318020000
def r_RSP_TAG (i : Nat) : Nat := 0x1318020004 + 4 * i
def r_RSP_PENDING (i : Nat) : Nat := 0x1318020010 + 4 * i
def r_RSP_ECC_CORR : Nat := 0x1318020024
def r_RSP_CNT_SCANNED (i : Nat) : Nat := 0x1318020100 + 0x40 * i
def r_RSP_CNT_SKIPPED (i : Nat) : Nat := 0x1318020104 + 0x40 * i
def r_RSP_CNT_MATCHED (i : Nat) : Nat := 0x1318020108 + 0x40 * i
def r_RSP_BYTES (i : Nat) : Nat := 0x1318020110 + 0x40 * i

/-! Addresses: Jig (R159, R160). -/

def r_JIG_STATUS : Nat := 0x1318030000
def r_JIG_CUR_VERSION : Nat := 0x1318030004
def r_JIG_SLOT_STATE (i : Nat) : Nat := 0x1318030010 + 4 * i
def r_JIG_INFLIGHT (i : Nat) : Nat := 0x1318030020 + 4 * i
def r_JIG_TAG (i : Nat) : Nat := 0x1318030030 + 4 * i
def r_JIG_DRAIN_LIMIT : Nat := 0x1318030040
def r_JIG_ECC_CORR : Nat := 0x1318030044
def r_JIG_CNT_HIT (i : Nat) : Nat := 0x1318030100 + 0x40 * i
def r_JIG_CNT_MISS (i : Nat) : Nat := 0x1318030104 + 0x40 * i
def r_JIG_CNT_MISS_DROP (i : Nat) : Nat := 0x1318030108 + 0x40 * i
def r_JIG_CNT_NO_SLICE (i : Nat) : Nat := 0x131803010C + 0x40 * i
def r_JIG_CNT_SLICE_SET (i : Nat) : Nat := 0x1318030110 + 0x40 * i
def r_JIG_CNT_CLASS_SET (i : Nat) : Nat := 0x1318030114 + 0x40 * i
def r_JIG_CNT_OLD_SLOT (i : Nat) : Nat := 0x1318030118 + 0x40 * i
def r_JIG_LOOKUPS (i : Nat) : Nat := 0x1318030120 + 0x40 * i

/-! Addresses: Action-unit counters (R204). -/

def r_CST_ACT_CNT_NO_VERDICT (i : Nat) : Nat := 0x1318040100 + 0x40 * i
def r_CST_ACT_CNT_OP_LIMIT (i : Nat) : Nat := 0x1318040104 + 0x40 * i
def r_CST_ACT_CNT_LOOKUP_LIMIT (i : Nat) : Nat := 0x1318040108 + 0x40 * i
def r_CST_ACT_CNT_PASS_LIMIT (i : Nat) : Nat := 0x131804010C + 0x40 * i
def r_CST_ACT_CNT_TTL (i : Nat) : Nat := 0x1318040110 + 0x40 * i
def r_CST_ACT_CNT_BAD_RECORD (i : Nat) : Nat := 0x1318040114 + 0x40 * i
def r_CST_ACT_CNT_SLICE_CHECK (i : Nat) : Nat := 0x1318040118 + 0x40 * i
def r_CST_ACT_CNT_ABSENT_WRITE (i : Nat) : Nat := 0x131804011C + 0x40 * i
def r_CST_ACT_CNT_CACHE_MISS (i : Nat) : Nat := 0x1318040120 + 0x40 * i
def r_CST_ACT_CNT_MIRROR_DROP (i : Nat) : Nat := 0x1318040124 + 0x40 * i

/-! Addresses: Twin block (R300). -/

def r_DVT_RAIL_STATUS : Nat := 0x1318050000
def r_DVT_RAIL_CAUSE (i : Nat) : Nat := 0x1318050004 + 4 * i
def r_DVT_TWIN_SEL0 (i : Nat) : Nat := 0x1318050100 + 8 * i
def r_DVT_TWIN_SEL1 (i : Nat) : Nat := 0x1318050104 + 8 * i
def r_DVT_PRP_PAIR (i : Nat) : Nat := 0x1318050200 + 0x10 * i
def r_DVT_PRP_FORGET (i : Nat) : Nat := 0x1318050204 + 0x10 * i
def r_PRP_CNT_DUP (i : Nat) : Nat := 0x1318050208 + 0x10 * i
def r_PRP_CNT_WRONG_LAN (i : Nat) : Nat := 0x131805020C + 0x10 * i
def r_PRP_CNT_NOT_PRP : Nat := 0x1318050300
def r_PRP_CNT_OUT_OF_WINDOW : Nat := 0x1318050304
def r_PRP_CNT_TABLE_FULL : Nat := 0x1318050308
def r_DVT_CNT_STREAM_WAIT : Nat := 0x1318050310
def r_DVT_CNT_RAIL_LOST : Nat := 0x1318050314

/-! Addresses: Crypto (R336). -/

def r_CRY_STATUS : Nat := 0x1318060000
def r_CRY_TNL_CTRL : Nat := 0x1318060004
def r_CRY_ECC_CORR : Nat := 0x1318060008
def r_CRY_CNT_ICV_FAIL : Nat := 0x1318060100
def r_CRY_CNT_REPLAY : Nat := 0x1318060104
def r_CRY_CNT_BAD_TRAILER : Nat := 0x1318060108
def r_CRY_CNT_SA_MISMATCH : Nat := 0x131806010C
def r_CRY_CNT_MACSEC_TAG : Nat := 0x1318060110
def r_CRY_CNT_TLS_AUTH_FAIL : Nat := 0x1318060114
def r_CRY_CNT_TLS_BAD_LEN : Nat := 0x1318060118
def r_CRY_CNT_SA_BAD : Nat := 0x131806011C
def r_CRY_CNT_SEQ_EXHAUST : Nat := 0x1318060120
def r_CRY_CNT_TEMPLATE_BAD : Nat := 0x1318060124
def r_CRY_CNT_SA_CACHE_MISS : Nat := 0x1318060128
def r_CRY_CNT_PAIR_LATE : Nat := 0x131806012C
def r_CRY_BYTES : Nat := 0x1318060130

/-! Addresses: Receive checksum unit (R375). -/

def r_MAC_CSUM_TYPES : Nat := 0x1318070000
def r_MAC_CSUM_CTRL : Nat := 0x1318070004

/-! Addresses: Engine island (R250). -/

def r_CSC_ISL_STATUS (rail : Nat) : Nat := 0x131C000000 + 0x4000000 * rail
def r_CSC_ECC_CORR (rail : Nat) : Nat := 0x131C000004 + 0x4000000 * rail
def r_CSC_ENG_STATE (rail i : Nat) : Nat := 0x131C000010 + 0x4000000 * rail + 4 * i

/-! Addresses: Cascade cluster blocks (R251, R252). -/

def r_CSC_CL_STATUS (q : Nat) : Nat := 0x131C010000 + 0x4000000 * (q / 4) + 0x10000 * (q % 4)
def r_CSC_CL_MAP (q i : Nat) : Nat := 0x131C010004 + 0x4000000 * (q / 4) + 0x10000 * (q % 4) + 4 * i
def r_CSC_CL_QUEUED (q : Nat) : Nat := 0x131C010010 + 0x4000000 * (q / 4) + 0x10000 * (q % 4)
def r_CSC_CL_HELD (q : Nat) : Nat := 0x131C010014 + 0x4000000 * (q / 4) + 0x10000 * (q % 4)
def r_CSC_DLD_COUNT (q : Nat) : Nat := 0x131C010018 + 0x4000000 * (q / 4) + 0x10000 * (q % 4)
def r_CSC_THREAD_STATE (q i : Nat) : Nat := 0x131C010100 + 0x4000000 * (q / 4) + 0x10000 * (q % 4) + 4 * i
def r_CSC_CNT_ITEMS (q : Nat) : Nat := 0x131C010200 + 0x4000000 * (q / 4) + 0x10000 * (q % 4)
def r_CSC_CNT_EXC_DROP (q : Nat) : Nat := 0x131C010208 + 0x4000000 * (q / 4) + 0x10000 * (q % 4)
def r_CSC_CNT_RETRY (q : Nat) : Nat := 0x131C01020C + 0x4000000 * (q / 4) + 0x10000 * (q % 4)
def r_CSC_CNT_FAULT (q : Nat) : Nat := 0x131C010210 + 0x4000000 * (q / 4) + 0x10000 * (q % 4)
def r_CSC_CNT_RESTART (q : Nat) : Nat := 0x131C010214 + 0x4000000 * (q / 4) + 0x10000 * (q % 4)
def r_CSC_CNT_DLD (q : Nat) : Nat := 0x131C010218 + 0x4000000 * (q / 4) + 0x10000 * (q % 4)
def r_CSC_CNT_FORK_NONE (q : Nat) : Nat := 0x131C01021C + 0x4000000 * (q / 4) + 0x10000 * (q % 4)
def r_CSC_CNT_CH_FULL (q : Nat) : Nat := 0x131C010220 + 0x4000000 * (q / 4) + 0x10000 * (q % 4)
def r_CSC_CNT_DEVCH_BAD (q : Nat) : Nat := 0x131C010224 + 0x4000000 * (q / 4) + 0x10000 * (q % 4)
def r_CSC_CNT_VERDICT_BAD (q : Nat) : Nat := 0x131C010228 + 0x4000000 * (q / 4) + 0x10000 * (q % 4)
def r_CSC_CNT_EXIT_DROP (q : Nat) : Nat := 0x131C01022C + 0x4000000 * (q / 4) + 0x10000 * (q % 4)
def r_CSC_CNT_DISPOSED (q : Nat) : Nat := 0x131C010230 + 0x4000000 * (q / 4) + 0x10000 * (q % 4)
def r_CSC_CNT_CH_FLUSHED (q : Nat) : Nat := 0x131C010234 + 0x4000000 * (q / 4) + 0x10000 * (q % 4)

/-! Addresses: Cistern (R203, R204). -/

def r_CST_STATUS : Nat := 0x1324000000
def r_CST_ENTRIES : Nat := 0x1324000004
def r_CST_STASH_USED : Nat := 0x1324000008
def r_CST_SWEEP_PERIOD : Nat := 0x1324000010
def r_CST_AGE_PROFILE (i : Nat) : Nat := 0x1324000020 + 4 * i
def r_CST_ECC_CORR : Nat := 0x1324000040
def r_CST_ECC_ADDR : Nat := 0x1324000044
def r_CST_CNT_LOOKUP : Nat := 0x1324000100
def r_CST_CNT_HIT : Nat := 0x1324000108
def r_CST_CNT_AGED : Nat := 0x1324000110
def r_CST_CNT_ECC_UNCORR : Nat := 0x1324000114
def r_CST_CNT_UPDATE_LOST : Nat := 0x1324000118
def r_CST_CNT_HIT_MODE : Nat := 0x132400011C
def r_CST_CNT_PAIR_LATE : Nat := 0x1324000120
def r_CST_CNT_PAIR_EXPIRED : Nat := 0x1324000124

/-! Addresses: Scribe (R203, R204). -/

def r_SCB_STATUS : Nat := 0x1324010000
def r_SCB_FLAP_LIMIT : Nat := 0x1324010004
def r_SCB_FLAP_WINDOW : Nat := 0x1324010008
def r_SCB_LOCK_HOLD : Nat := 0x132401000C
def r_SCB_CNT_INSERT : Nat := 0x1324010100
def r_SCB_CNT_FULL : Nat := 0x1324010104
def r_SCB_CNT_QUOTA : Nat := 0x1324010108
def r_SCB_CNT_EXISTS : Nat := 0x132401010C
def r_SCB_CNT_DELETE : Nat := 0x1324010110
def r_SCB_CNT_RELOCATE : Nat := 0x1324010114
def r_SCB_CNT_STATION_MOVE : Nat := 0x1324010118
def r_SCB_CNT_STALE_LEARN : Nat := 0x132401011C
def r_SCB_CNT_LOCK : Nat := 0x1324010120
def r_SCB_CNT_LOCKED_REFUSED : Nat := 0x1324010124
def r_SCB_CNT_STATIC_CONFLICT : Nat := 0x1324010128
def r_SCB_CNT_QUEUE_DROP : Nat := 0x132401012C
def r_SCB_CNT_TWIN_DISCARD : Nat := 0x1324010130

/-! Addresses: Square (R203). -/

def r_SQR_STATUS : Nat := 0x1324020000
def r_SQR_ROUND : Nat := 0x1324020004
def r_SQR_MISMATCH (i : Nat) : Nat := 0x1324020100 + 4 * i
def r_SQR_DIRTY (i : Nat) : Nat := 0x1324020200 + 4 * i

/-! Addresses: Dovetail islands 0, 1, 4 and 5 (R301). -/

def r_DVT_PT_STATUS (d : Nat) : Nat := 0x1300080000 + 0x10000000 * (d / 2) + 0x4000000 * (d % 2)
def r_DVT_CNT_RELEASED (d : Nat) : Nat := 0x1300080010 + 0x10000000 * (d / 2) + 0x4000000 * (d % 2)
def r_DVT_CNT_DISCARD (d : Nat) : Nat := 0x1300080018 + 0x10000000 * (d / 2) + 0x4000000 * (d % 2)
def r_DVT_CNT_LATE (d : Nat) : Nat := 0x1300080020 + 0x10000000 * (d / 2) + 0x4000000 * (d % 2)
def r_DVT_CNT_LAG (d : Nat) : Nat := 0x1300080024 + 0x10000000 * (d / 2) + 0x4000000 * (d % 2)
def r_DVT_CNT_DIGEST_MISMATCH (d : Nat) : Nat := 0x1300080028 + 0x10000000 * (d / 2) + 0x4000000 * (d % 2)
def r_DVT_CNT_STORE_WAIT (d : Nat) : Nat := 0x130008002C + 0x10000000 * (d / 2) + 0x4000000 * (d % 2)

/-! Addresses: Itwin (R302). -/

def r_ITW_STATUS : Nat := 0x1334000000
def r_ITW_CTRL : Nat := 0x1334000004
def r_ITW_RANK : Nat := 0x1334000008
def r_ITW_HB : Nat := 0x133400000C
def r_ITW_PARTNER_ID : Nat := 0x1334000010
def r_ITW_PARTNER_RANK : Nat := 0x1334000018
def r_ITW_CNT_FLIT_CRC : Nat := 0x1334000100
def r_ITW_CNT_REPLAY : Nat := 0x1334000104
def r_ITW_CNT_MSG_BAD : Nat := 0x1334000108
def r_ITW_CNT_HB_MISSED : Nat := 0x133400010C
def r_ITW_CNT_COLLISION : Nat := 0x1334000110
def r_ITW_CNT_GATED : Nat := 0x1334000114
def r_ITW_CNT_LEARN_TX : Nat := 0x1334000118
def r_ITW_CNT_LEARN_RX : Nat := 0x133400011C

/-! Addresses: NVMe/TCP (R336). -/

def r_NVT_STATUS (ep : Nat) : Nat := 0x1300090000 + 0x4000000 * ep
def r_NVT_CNT_HDGST_BAD (ep : Nat) : Nat := 0x1300090100 + 0x4000000 * ep
def r_NVT_CNT_DDGST_BAD (ep : Nat) : Nat := 0x1300090104 + 0x4000000 * ep
def r_NVT_CNT_PDU_BAD (ep : Nat) : Nat := 0x1300090108 + 0x4000000 * ep
def r_NVT_CNT_RESYNC (ep : Nat) : Nat := 0x130009010C + 0x4000000 * ep
def r_NVT_CNT_PLACE_MISS (ep : Nat) : Nat := 0x1300090110 + 0x4000000 * ep
def r_NVT_CNT_CHAIN_BAD (ep : Nat) : Nat := 0x1300090114 + 0x4000000 * ep
def r_NVT_PLACED_BYTES (ep : Nat) : Nat := 0x1300090120 + 0x4000000 * ep

/-! Addresses: Port blocks (R375). -/

def r_MAC_PORT_MODE (p : Nat) : Nat := 0x1308000000 + 0x4000000 * p
def r_MAC_PORT_STATUS (p : Nat) : Nat := 0x1308000004 + 0x4000000 * p
def r_MAC_LANE_SYM_ERR (p i : Nat) : Nat := 0x1308000100 + 0x4000000 * p + 8 * i

/-! Addresses: MAC receive blocks (R376, R378). -/

def r_MAC_RX_CTRL (m : Nat) : Nat := 0x1308010000 + 0x4000000 * (m / 8) + 0x1000 * (m % 8)
def r_MAC_MAX_FRAME (m : Nat) : Nat := 0x1308010004 + 0x4000000 * (m / 8) + 0x1000 * (m % 8)
def r_MAC_PCP_TO_TC (m : Nat) : Nat := 0x1308010008 + 0x4000000 * (m / 8) + 0x1000 * (m % 8)
def r_MAC_PFC_XOFF (m i : Nat) : Nat := 0x1308010010 + 0x4000000 * (m / 8) + 0x1000 * (m % 8) + 8 * i
def r_MAC_PFC_XON (m i : Nat) : Nat := 0x1308010014 + 0x4000000 * (m / 8) + 0x1000 * (m % 8) + 8 * i
def r_MAC_PFC_HEADROOM (m i : Nat) : Nat := 0x1308010050 + 0x4000000 * (m / 8) + 0x1000 * (m % 8) + 4 * i
def r_MAC_PFC_QUANTA (m : Nat) : Nat := 0x1308010070 + 0x4000000 * (m / 8) + 0x1000 * (m % 8)
def r_MAC_PFC_WATCHDOG (m : Nat) : Nat := 0x1308010074 + 0x4000000 * (m / 8) + 0x1000 * (m % 8)
def r_MAC_LL_OCC (m i : Nat) : Nat := 0x1308010080 + 0x4000000 * (m / 8) + 0x1000 * (m % 8) + 4 * i
def r_MAC_RX_STATUS (m : Nat) : Nat := 0x13080100A0 + 0x4000000 * (m / 8) + 0x1000 * (m % 8)
def r_MAC_RX_OCTETS_OK (m : Nat) : Nat := 0x1308010100 + 0x4000000 * (m / 8) + 0x1000 * (m % 8)
def r_MAC_RX_FRAMES_OK (m : Nat) : Nat := 0x1308010108 + 0x4000000 * (m / 8) + 0x1000 * (m % 8)
def r_MAC_RX_UCAST (m : Nat) : Nat := 0x1308010110 + 0x4000000 * (m / 8) + 0x1000 * (m % 8)
def r_MAC_RX_MCAST (m : Nat) : Nat := 0x1308010118 + 0x4000000 * (m / 8) + 0x1000 * (m % 8)
def r_MAC_RX_BCAST (m : Nat) : Nat := 0x1308010120 + 0x4000000 * (m / 8) + 0x1000 * (m % 8)
def r_MAC_RX_PAUSE (m : Nat) : Nat := 0x1308010128 + 0x4000000 * (m / 8) + 0x1000 * (m % 8)
def r_MAC_RX_PFC (m : Nat) : Nat := 0x1308010130 + 0x4000000 * (m / 8) + 0x1000 * (m % 8)
def r_MAC_RX_CTRL_BAD (m : Nat) : Nat := 0x1308010138 + 0x4000000 * (m / 8) + 0x1000 * (m % 8)
def r_MAC_RX_FCS_ERR (m : Nat) : Nat := 0x1308010140 + 0x4000000 * (m / 8) + 0x1000 * (m % 8)
def r_MAC_RX_RUNT (m : Nat) : Nat := 0x1308010148 + 0x4000000 * (m / 8) + 0x1000 * (m % 8)
def r_MAC_RX_FRAGMENT (m : Nat) : Nat := 0x1308010150 + 0x4000000 * (m / 8) + 0x1000 * (m % 8)
def r_MAC_RX_OVERSIZE (m : Nat) : Nat := 0x1308010158 + 0x4000000 * (m / 8) + 0x1000 * (m % 8)
def r_MAC_RX_JABBER (m : Nat) : Nat := 0x1308010160 + 0x4000000 * (m / 8) + 0x1000 * (m % 8)
def r_MAC_RX_PCS_ERR (m : Nat) : Nat := 0x1308010168 + 0x4000000 * (m / 8) + 0x1000 * (m % 8)
def r_MAC_RX_DROP_NOBUF (m : Nat) : Nat := 0x1308010170 + 0x4000000 * (m / 8) + 0x1000 * (m % 8)
def r_MAC_RX_DROP_HEADROOM (m : Nat) : Nat := 0x1308010178 + 0x4000000 * (m / 8) + 0x1000 * (m % 8)
def r_MAC_RX_PREEMPT_ERR (m : Nat) : Nat := 0x1308010180 + 0x4000000 * (m / 8) + 0x1000 * (m % 8)
def r_MAC_RX_PREEMPT_FRAGS (m : Nat) : Nat := 0x1308010188 + 0x4000000 * (m / 8) + 0x1000 * (m % 8)
def r_MAC_RX_SIZE (m i : Nat) : Nat := 0x1308010190 + 0x4000000 * (m / 8) + 0x1000 * (m % 8) + 8 * i
def r_MAC_FEC_CW_CORR (m : Nat) : Nat := 0x13080101D0 + 0x4000000 * (m / 8) + 0x1000 * (m % 8)
def r_MAC_FEC_CW_UNCORR (m : Nat) : Nat := 0x13080101D8 + 0x4000000 * (m / 8) + 0x1000 * (m % 8)
def r_MAC_RX_PFC_XOFFS (m i : Nat) : Nat := 0x1308010200 + 0x4000000 * (m / 8) + 0x1000 * (m % 8) + 8 * i

/-! Addresses: MAC transmit blocks with Sluice (R377, R378) and the stamp queue (R417). -/

def r_MAC_TX_CTRL (m : Nat) : Nat := 0x1310010000 + 0x4000000 * (m / 8) + 0x1000 * (m % 8)
def r_MAC_CT_THRESH (m : Nat) : Nat := 0x1310010004 + 0x4000000 * (m / 8) + 0x1000 * (m % 8)
def r_MAC_CT_CLEAN (m : Nat) : Nat := 0x1310010008 + 0x4000000 * (m / 8) + 0x1000 * (m % 8)
def r_MAC_ADDR_LO (m : Nat) : Nat := 0x131001000C + 0x4000000 * (m / 8) + 0x1000 * (m % 8)
def r_MAC_ADDR_HI (m : Nat) : Nat := 0x1310010010 + 0x4000000 * (m / 8) + 0x1000 * (m % 8)
def r_MAC_TX_OCTETS (m : Nat) : Nat := 0x1310010100 + 0x4000000 * (m / 8) + 0x1000 * (m % 8)
def r_MAC_TX_FRAMES (m : Nat) : Nat := 0x1310010108 + 0x4000000 * (m / 8) + 0x1000 * (m % 8)
def r_MAC_TX_UCAST (m : Nat) : Nat := 0x1310010110 + 0x4000000 * (m / 8) + 0x1000 * (m % 8)
def r_MAC_TX_MCAST (m : Nat) : Nat := 0x1310010118 + 0x4000000 * (m / 8) + 0x1000 * (m % 8)
def r_MAC_TX_BCAST (m : Nat) : Nat := 0x1310010120 + 0x4000000 * (m / 8) + 0x1000 * (m % 8)
def r_MAC_TX_PAUSE (m : Nat) : Nat := 0x1310010128 + 0x4000000 * (m / 8) + 0x1000 * (m % 8)
def r_MAC_TX_PFC (m : Nat) : Nat := 0x1310010130 + 0x4000000 * (m / 8) + 0x1000 * (m % 8)
def r_MAC_TX_UNDERRUN (m : Nat) : Nat := 0x1310010138 + 0x4000000 * (m / 8) + 0x1000 * (m % 8)
def r_MAC_TX_PREEMPT_FRAGS (m : Nat) : Nat := 0x1310010140 + 0x4000000 * (m / 8) + 0x1000 * (m % 8)
def r_MAC_TX_GATE_DEFER (m : Nat) : Nat := 0x1310010148 + 0x4000000 * (m / 8) + 0x1000 * (m % 8)
def r_MAC_TX_GATE_DROP (m : Nat) : Nat := 0x1310010150 + 0x4000000 * (m / 8) + 0x1000 * (m % 8)
def r_MAC_TX_LINK_DROP (m : Nat) : Nat := 0x1310010158 + 0x4000000 * (m / 8) + 0x1000 * (m % 8)
def r_MAC_TX_PFC_IGNORED (m : Nat) : Nat := 0x1310010160 + 0x4000000 * (m / 8) + 0x1000 * (m % 8)
def r_MAC_TX_CLASS (m i : Nat) : Nat := 0x1310010200 + 0x4000000 * (m / 8) + 0x1000 * (m % 8) + 8 * i
def r_SLC_CTRL (m : Nat) : Nat := 0x1310010800 + 0x4000000 * (m / 8) + 0x1000 * (m % 8)
def r_SLC_STATUS (m : Nat) : Nat := 0x1310010804 + 0x4000000 * (m / 8) + 0x1000 * (m % 8)
def r_SLC_OPER_CYCLE (m : Nat) : Nat := 0x1310010808 + 0x4000000 * (m / 8) + 0x1000 * (m % 8)
def r_SLC_OPER_LEN (m : Nat) : Nat := 0x131001080C + 0x4000000 * (m / 8) + 0x1000 * (m % 8)
def r_SLC_OPER_BASE_S (m : Nat) : Nat := 0x1310010810 + 0x4000000 * (m / 8) + 0x1000 * (m % 8)
def r_SLC_OPER_BASE_NS (m : Nat) : Nat := 0x1310010818 + 0x4000000 * (m / 8) + 0x1000 * (m % 8)
def r_TIME_TXQ_POP (m : Nat) : Nat := 0x1310010900 + 0x4000000 * (m / 8) + 0x1000 * (m % 8)
def r_TIME_TXQ_SLICE (m : Nat) : Nat := 0x1310010904 + 0x4000000 * (m / 8) + 0x1000 * (m % 8)
def r_TIME_TXQ_STAMP (m : Nat) : Nat := 0x1310010908 + 0x4000000 * (m / 8) + 0x1000 * (m % 8)
def r_TIME_TXQ_DROP (m : Nat) : Nat := 0x1310010910 + 0x4000000 * (m / 8) + 0x1000 * (m % 8)
def r_TIME_CNT_TS_IGNORED (m : Nat) : Nat := 0x1310010914 + 0x4000000 * (m / 8) + 0x1000 * (m % 8)
def r_TIME_CNT_ONESTEP_DEMOTED (m : Nat) : Nat := 0x1310010918 + 0x4000000 * (m / 8) + 0x1000 * (m % 8)

/-! Addresses: Weir blocks (R375). -/

def r_WEIR_STATUS (p : Nat) : Nat := 0x1310100000 + 0x4000000 * p
def r_WEIR_TICKS (p : Nat) : Nat := 0x1310100008 + 0x4000000 * p
def r_MAC_TX_NO_MAC (p : Nat) : Nat := 0x1310100010 + 0x4000000 * p

/-! Addresses: Timebase (R414). -/

def r_TIME_STATUS : Nat := 0x1330000000
def r_TIME_STEP_COUNT : Nat := 0x1330000004
def r_TIME_OSC_CFG : Nat := 0x1330000008
def r_TIME_NOW_S : Nat := 0x1330000010
def r_TIME_NOW_NS : Nat := 0x1330000018
def r_TIME_NOW_FRAC : Nat := 0x133000001C
def r_TIME_ADJ : Nat := 0x1330000020
def r_TIME_TRIM : Nat := 0x1330000028
def r_TIME_AEFF : Nat := 0x1330000030
def r_TIME_PORT_LAT (i j k : Nat) : Nat := 0x1330000100 + 0x20 * i + 8 * j + 4 * k
def r_TIME_LANE_LAT (i j k : Nat) : Nat := 0x1330000200 + 0x40 * i + 8 * j + 4 * k

/-! Addresses: Plumb (R415). -/

def r_PLB_CTRL : Nat := 0x1330010000
def r_PLB_STATUS : Nat := 0x1330010004
def r_PLB_KP : Nat := 0x1330010008
def r_PLB_KI : Nat := 0x1330010010
def r_PLB_ICLAMP : Nat := 0x1330010018
def r_PLB_OUT_LIMIT : Nat := 0x1330010020
def r_PLB_JUMP_NS : Nat := 0x1330010028
def r_PLB_DSTEP_NS : Nat := 0x133001002C
def r_PLB_LOCK_NS : Nat := 0x1330010030
def r_PLB_TIMEOUT_MS : Nat := 0x1330010034
def r_PLB_ASYM : Nat := 0x1330010038
def r_PLB_INTEG : Nat := 0x1330010040
def r_PLB_OFFSET : Nat := 0x1330010048
def r_PLB_DELAY : Nat := 0x1330010050
def r_PLB_BIAS : Nat := 0x1330010058
def r_PLB_HOST_TMS : Nat := 0x1330010060
def r_PLB_HOST_D : Nat := 0x1330010068
def r_PLB_CNT_ACCEPTED : Nat := 0x1330010100
def r_PLB_CNT_JUMP : Nat := 0x1330010104
def r_PLB_CNT_WITHHELD : Nat := 0x1330010108
def r_PLB_CNT_GLITCH : Nat := 0x133001010C
def r_PLB_CNT_NEG_DELAY : Nat := 0x1330010110
def r_PLB_CNT_OVERRUN : Nat := 0x1330010114

/-! Addresses: Timed I/O channels (R416). -/

def r_TIO_CFG (n : Nat) : Nat := 0x1330020000 + 0x40 * n
def r_TIO_START_S (n : Nat) : Nat := 0x1330020004 + 0x40 * n
def r_TIO_START_NS (n : Nat) : Nat := 0x133002000C + 0x40 * n
def r_TIO_START_SUB (n : Nat) : Nat := 0x1330020010 + 0x40 * n
def r_TIO_PERIOD_LO (n : Nat) : Nat := 0x1330020014 + 0x40 * n
def r_TIO_PERIOD_HI (n : Nat) : Nat := 0x1330020018 + 0x40 * n
def r_TIO_WIDTH (n : Nat) : Nat := 0x133002001C + 0x40 * n
def r_TIO_CAP_POP (n : Nat) : Nat := 0x1330020020 + 0x40 * n
def r_TIO_CAP_STAMP (n : Nat) : Nat := 0x1330020024 + 0x40 * n
def r_TIO_IN_LAT (n : Nat) : Nat := 0x133002002C + 0x40 * n
def r_TIO_CNT_DROP (n : Nat) : Nat := 0x1330020030 + 0x40 * n
def r_TIO_OUT_LAT (n : Nat) : Nat := 0x1330020034 + 0x40 * n

/-! Addresses: PTP engine (R417). -/

def r_TIME_PTP_CFG : Nat := 0x1330030000
def r_TIME_PTP_PORT (i : Nat) : Nat := 0x1330030100 + 0x20 * i
def r_TIME_PTP_CNT_RX_BAD (i : Nat) : Nat := 0x1330030104 + 0x20 * i
def r_TIME_PTP_CNT_FOREIGN (i : Nat) : Nat := 0x1330030108 + 0x20 * i
def r_TIME_PTP_CNT_FU_MISS (i : Nat) : Nat := 0x133003010C + 0x20 * i
def r_TIME_PTP_CNT_RESP_BAD (i : Nat) : Nat := 0x1330030110 + 0x20 * i
def r_TIME_PTP_CNT_RATE_DROP (i : Nat) : Nat := 0x1330030114 + 0x20 * i

/-! Addresses: Host interface (R455). -/

def r_HIF_ID (ep : Nat) : Nat := 0x1300000000 + 0x4000000 * ep
def r_HIF_STATUS (ep : Nat) : Nat := 0x1300000004 + 0x4000000 * ep
def r_HIF_LINK_STATUS (ep : Nat) : Nat := 0x1300000008 + 0x4000000 * ep
def r_HIF_FUNC_SEL (ep : Nat) : Nat := 0x1300000010 + 0x4000000 * ep
def r_HIF_FUNC_STATE (ep : Nat) : Nat := 0x1300000014 + 0x4000000 * ep
def r_HIF_MGR_EVENT (ep : Nat) : Nat := 0x1300000018 + 0x4000000 * ep
def r_HIF_MGR_EVENT_EN (ep : Nat) : Nat := 0x130000001C + 0x4000000 * ep
def r_HIF_MGR_EVENT_VEC (ep : Nat) : Nat := 0x1300000020 + 0x4000000 * ep
def r_HIF_INTX_STATUS (ep : Nat) : Nat := 0x1300000024 + 0x4000000 * ep
def r_HIF_LTR (ep : Nat) : Nat := 0x1300000028 + 0x4000000 * ep
def r_HIF_WIN_ERR_ADDR (ep : Nat) : Nat := 0x1300000030 + 0x4000000 * ep
def r_WTT_ENTRY_LO (ep i : Nat) : Nat := 0x1300001000 + 0x4000000 * ep + 8 * i
def r_WTT_ENTRY_HI (ep i : Nat) : Nat := 0x1300001004 + 0x4000000 * ep + 8 * i
def r_HIF_CONTAIN_STATUS (ep : Nat) : Nat := 0x1300002000 + 0x4000000 * ep
def r_HIF_CONTAIN_CTRL (ep : Nat) : Nat := 0x1300002004 + 0x4000000 * ep
def r_HIF_CNT_MALFORMED (ep : Nat) : Nat := 0x1300002100 + 0x4000000 * ep
def r_HIF_CNT_ECRC (ep : Nat) : Nat := 0x1300002104 + 0x4000000 * ep
def r_HIF_CNT_POISONED (ep : Nat) : Nat := 0x1300002108 + 0x4000000 * ep
def r_HIF_CNT_UR (ep : Nat) : Nat := 0x130000210C + 0x4000000 * ep
def r_HIF_CNT_CPL_TIMEOUT (ep : Nat) : Nat := 0x1300002110 + 0x4000000 * ep
def r_HIF_CNT_LATE_CPL (ep : Nat) : Nat := 0x1300002114 + 0x4000000 * ep
def r_HIF_CNT_CPL_ERR (ep : Nat) : Nat := 0x1300002118 + 0x4000000 * ep
def r_HIF_CNT_STALE_GEN (ep : Nat) : Nat := 0x130000211C + 0x4000000 * ep
def r_HIF_CNT_WIN_ERR (ep : Nat) : Nat := 0x1300002120 + 0x4000000 * ep
def r_HIF_CNT_PUSH_BAD (ep : Nat) : Nat := 0x1300002124 + 0x4000000 * ep
def r_HIF_CNT_DB_BAD (ep : Nat) : Nat := 0x1300002128 + 0x4000000 * ep

/-! Addresses: Non-secure mailbox channels of PF0 (R498, R500). -/

def r_MBX_PF_OUT_CTRL (ep k : Nat) : Nat := 0x1300030000 + 0x4000000 * ep + 0x1000 * k
def r_MBX_PF_OUT_STATUS (ep k : Nat) : Nat := 0x1300030004 + 0x4000000 * ep + 0x1000 * k
def r_MBX_PF_IN_STATUS (ep k : Nat) : Nat := 0x1300030008 + 0x4000000 * ep + 0x1000 * k
def r_MBX_PF_IN_ACK (ep k : Nat) : Nat := 0x130003000C + 0x4000000 * ep + 0x1000 * k
def r_MBX_PF_GEN (ep k : Nat) : Nat := 0x1300030010 + 0x4000000 * ep + 0x1000 * k
def r_MBX_PF_INT (ep k : Nat) : Nat := 0x1300030014 + 0x4000000 * ep + 0x1000 * k

/-! Addresses: PF0 doorbells (R497). -/

def r_RING_PF_DB_TX (ep : Nat) : Nat := 0x1300038000 + 0x4000000 * ep
def r_RING_PF_DB_RX (ep : Nat) : Nat := 0x1300038004 + 0x4000000 * ep
def r_RING_PF_DB_CQ (ep : Nat) : Nat := 0x1300038008 + 0x4000000 * ep
def r_RING_PF_DB_CHAIN (ep : Nat) : Nat := 0x130003800C + 0x4000000 * ep

/-! Addresses: Rings (R496). -/

def r_RING_CFG (ep g : Nat) : Nat := 0x1301000000 + 0x4000000 * ep + 0x40 * g
def r_RING_TX_PROD (ep g : Nat) : Nat := 0x1301000004 + 0x4000000 * ep + 0x40 * g
def r_RING_TX_CONS (ep g : Nat) : Nat := 0x1301000008 + 0x4000000 * ep + 0x40 * g
def r_RING_TX_CPL (ep g : Nat) : Nat := 0x130100000C + 0x4000000 * ep + 0x40 * g
def r_RING_RX_PROD (ep g : Nat) : Nat := 0x1301000010 + 0x4000000 * ep + 0x40 * g
def r_RING_RX_CONS (ep g : Nat) : Nat := 0x1301000014 + 0x4000000 * ep + 0x40 * g
def r_RING_CQ_PROD (ep g : Nat) : Nat := 0x1301000018 + 0x4000000 * ep + 0x40 * g
def r_RING_CQ_CONS (ep g : Nat) : Nat := 0x130100001C + 0x4000000 * ep + 0x40 * g
def r_RING_VEC (ep g : Nat) : Nat := 0x1301000020 + 0x4000000 * ep + 0x40 * g
def r_RING_ERR (ep g : Nat) : Nat := 0x1301000024 + 0x4000000 * ep + 0x40 * g
def r_RING_ERR_INDEX (ep g : Nat) : Nat := 0x1301000028 + 0x4000000 * ep + 0x40 * g
def r_RING_CNT_RX_NOPOST (ep g : Nat) : Nat := 0x130100002C + 0x4000000 * ep + 0x40 * g
def r_RING_CNT_RX_QDOWN (ep g : Nat) : Nat := 0x1301000030 + 0x4000000 * ep + 0x40 * g
def r_RING_CNT_TX_DMA_ERR (ep g : Nat) : Nat := 0x1301000034 + 0x4000000 * ep + 0x40 * g

/-! Addresses: PF0 hold-offs (R497). -/

def r_RING_PF_ITR (ep i : Nat) : Nat := 0x1301080000 + 0x4000000 * ep + 4 * i

/-! Addresses: Wellhead (R607). -/

def r_WH_MODE : Nat := 0x132C000000
def r_WH_RESET_CAUSE : Nat := 0x132C000004
def r_WH_BOOT_COUNT : Nat := 0x132C000008
def r_WH_PAIR : Nat := 0x132C00000C
def r_WH_CNT_RESTART : Nat := 0x132C000010
def r_WH_CNT_SWITCH : Nat := 0x132C000014
def r_WH_IMAGE : Nat := 0x132C000018
def r_WH_HANDOVER : Nat := 0x132C00001C
def r_WH_CKPT_STAMP : Nat := 0x132C000020
def r_WH_HBM_PC_RETIRED : Nat := 0x132C000028

/-! Addresses: Heartwood controller (R639). -/

def r_HWD_STATUS : Nat := 0x132C100000
def r_HWD_ECC_ADDR : Nat := 0x132C100004
def r_HWD_CNT_ECC_CORR : Nat := 0x132C100008
def r_HWD_CNT_RANGE : Nat := 0x132C10000C
def r_HWD_WRITES : Nat := 0x132C100010

/-! Addresses: Gauge (R639). -/

def r_GAU_TRACE_STATUS : Nat := 0x132C200000
def r_GAU_TRACE_WRITTEN : Nat := 0x132C200008
def r_GAU_TRACE_DROP : Nat := 0x132C200010
def r_GAU_ERRLOG_CTRL : Nat := 0x132C200020
def r_GAU_ERRLOG_NEXT_SEQ : Nat := 0x132C200024
def r_GAU_ERRLOG_LOST : Nat := 0x132C200028
def r_GAU_ERRLOG_SUPPRESSED : Nat := 0x132C20002C
def r_GAU_SNAP_STATUS : Nat := 0x132C200030
def r_GAU_TEMP_MAX : Nat := 0x132C200034

/-! Addresses: Mailbox summary (R524). -/

def r_MBX_FW_IN_PEND (i : Nat) : Nat := 0x132C300000 + 4 * i
def r_MBX_FW_EV_PEND (i : Nat) : Nat := 0x132C300200 + 4 * i
def r_MBX_CNT_REJECT : Nat := 0x132C300400
def r_MBX_CNT_BAD_LEN : Nat := 0x132C300404
def r_MBX_CNT_BUS_ERR : Nat := 0x132C300408
def r_MBX_CNT_STALE_ACK : Nat := 0x132C30040C
def r_MBX_CNT_STALE_CMD : Nat := 0x132C300410
def r_MBX_CNT_SUPERSEDED : Nat := 0x132C300414
def r_MBX_CNT_CROSSING : Nat := 0x132C300418
def r_MBX_CNT_EVENT_DROP : Nat := 0x132C30041C

/-! Addresses: Mailbox channel blocks (R523). -/

def r_MBX_FW_IN_STATUS (ch : Nat) : Nat := 0x132C400000 + 0x400 * ch
def r_MBX_FW_IN_ACK (ch : Nat) : Nat := 0x132C400004 + 0x400 * ch
def r_MBX_FW_OUT_CTRL (ch : Nat) : Nat := 0x132C400008 + 0x400 * ch
def r_MBX_FW_OUT_STATUS (ch : Nat) : Nat := 0x132C40000C + 0x400 * ch
def r_MBX_FW_GEN (ch : Nat) : Nat := 0x132C400010 + 0x400 * ch

/-! Addresses: VF pages (R456 to R459), keyed outside the internal address space (notes/assumptions/6.md). -/

def r_HIF_VF_ID (ep v : Nat) : Nat := 0x1000000000000 + 0x8000000 * ep + 0x10000 * v
def r_HIF_VF_GEN (ep v : Nat) : Nat := 0x1000000000004 + 0x8000000 * ep + 0x10000 * v
def r_HIF_VF_STATUS (ep v : Nat) : Nat := 0x1000000000008 + 0x8000000 * ep + 0x10000 * v
def r_HIF_VF_ERR_CAUSE (ep v : Nat) : Nat := 0x100000000000C + 0x8000000 * ep + 0x10000 * v
def r_HIF_VF_QP_COUNT (ep v : Nat) : Nat := 0x1000000000010 + 0x8000000 * ep + 0x10000 * v
def r_HIF_VF_VEC_COUNT (ep v : Nat) : Nat := 0x1000000000014 + 0x8000000 * ep + 0x10000 * v
def r_HIF_VF_SA_BASE (ep v : Nat) : Nat := 0x1000000000018 + 0x8000000 * ep + 0x10000 * v
def r_HIF_VF_SA_COUNT (ep v : Nat) : Nat := 0x100000000001C + 0x8000000 * ep + 0x10000 * v
def r_HIF_VF_NVT_BASE (ep v : Nat) : Nat := 0x1000000000020 + 0x8000000 * ep + 0x10000 * v
def r_HIF_VF_NVT_COUNT (ep v : Nat) : Nat := 0x1000000000024 + 0x8000000 * ep + 0x10000 * v
def r_HIF_VF_CAPS (ep v : Nat) : Nat := 0x1000000000028 + 0x8000000 * ep + 0x10000 * v
def r_HIF_VF_DEV_MODE (ep v : Nat) : Nat := 0x100000000002C + 0x8000000 * ep + 0x10000 * v
def r_HIF_VF_STAMP (ep v : Nat) : Nat := 0x1000000000030 + 0x8000000 * ep + 0x10000 * v
def r_HIF_VF_LINK (ep v : Nat) : Nat := 0x1000000000038 + 0x8000000 * ep + 0x10000 * v
def r_HIF_VF_EVENT (ep v : Nat) : Nat := 0x100000000003C + 0x8000000 * ep + 0x10000 * v
def r_HIF_VF_EVENT_EN (ep v : Nat) : Nat := 0x1000000000040 + 0x8000000 * ep + 0x10000 * v
def r_HIF_VF_EVENT_VEC (ep v : Nat) : Nat := 0x1000000000044 + 0x8000000 * ep + 0x10000 * v
def r_HIF_VF_CTRL (ep v : Nat) : Nat := 0x1000000000048 + 0x8000000 * ep + 0x10000 * v
def r_HIF_VF_SCRATCH (ep v : Nat) : Nat := 0x100000000004C + 0x8000000 * ep + 0x10000 * v
def r_HIF_VF_DB_TX (ep v : Nat) : Nat := 0x1000000001000 + 0x8000000 * ep + 0x10000 * v
def r_HIF_VF_DB_RX (ep v : Nat) : Nat := 0x1000000001004 + 0x8000000 * ep + 0x10000 * v
def r_HIF_VF_DB_CQ (ep v : Nat) : Nat := 0x1000000001008 + 0x8000000 * ep + 0x10000 * v
def r_HIF_VF_DB_CHAIN (ep v : Nat) : Nat := 0x100000000100C + 0x8000000 * ep + 0x10000 * v
def r_HIF_VF_ITR (ep v : Nat) : Nat := 0x1000000001010 + 0x8000000 * ep + 0x10000 * v
def r_HIF_VF_QERR (ep v : Nat) : Nat := 0x1000000001014 + 0x8000000 * ep + 0x10000 * v
def r_MBX_VF_OUT_CTRL (ep v : Nat) : Nat := 0x1000000002000 + 0x8000000 * ep + 0x10000 * v
def r_MBX_VF_OUT_STATUS (ep v : Nat) : Nat := 0x1000000002004 + 0x8000000 * ep + 0x10000 * v
def r_MBX_VF_IN_STATUS (ep v : Nat) : Nat := 0x1000000002008 + 0x8000000 * ep + 0x10000 * v
def r_MBX_VF_IN_ACK (ep v : Nat) : Nat := 0x100000000200C + 0x8000000 * ep + 0x10000 * v
def r_MBX_VF_GEN (ep v : Nat) : Nat := 0x1000000002010 + 0x8000000 * ep + 0x10000 * v
def r_MBX_VF_INT (ep v : Nat) : Nat := 0x1000000002014 + 0x8000000 * ep + 0x10000 * v
def r_HIF_VF_TX_FRAMES (ep v : Nat) : Nat := 0x1000000003000 + 0x8000000 * ep + 0x10000 * v
def r_HIF_VF_TX_OCTETS (ep v : Nat) : Nat := 0x1000000003008 + 0x8000000 * ep + 0x10000 * v
def r_HIF_VF_RX_FRAMES (ep v : Nat) : Nat := 0x1000000003010 + 0x8000000 * ep + 0x10000 * v
def r_HIF_VF_RX_OCTETS (ep v : Nat) : Nat := 0x1000000003018 + 0x8000000 * ep + 0x10000 * v
def r_HIF_VF_CNT_RX_NOPOST (ep v : Nat) : Nat := 0x1000000003020 + 0x8000000 * ep + 0x10000 * v
def r_HIF_VF_CNT_MALFORMED (ep v : Nat) : Nat := 0x1000000003024 + 0x8000000 * ep + 0x10000 * v
def r_HIF_VF_CNT_CPL_TIMEOUT (ep v : Nat) : Nat := 0x1000000003028 + 0x8000000 * ep + 0x10000 * v
def r_HIF_VF_CNT_LATE_CPL (ep v : Nat) : Nat := 0x100000000302C + 0x8000000 * ep + 0x10000 * v
def r_HIF_VF_CNT_DB_BAD (ep v : Nat) : Nat := 0x1000000003030 + 0x8000000 * ep + 0x10000 * v
def r_HIF_VF_CNT_PUSH_BAD (ep v : Nat) : Nat := 0x1000000003034 + 0x8000000 * ep + 0x10000 * v
def r_HIF_VF_CNT_MBX_REJECT (ep v : Nat) : Nat := 0x1000000003038 + 0x8000000 * ep + 0x10000 * v
def r_HIF_VF_CNT_ATS_INV (ep v : Nat) : Nat := 0x100000000303C + 0x8000000 * ep + 0x10000 * v

/-! Addresses: Secure mailbox channels in BAR4 (R498), keyed outside the internal address space (notes/assumptions/6.md). -/

def r_MBX_PF_S_OUT_CTRL (ep k : Nat) : Nat := 0x2000000000000 + 0x10000 * ep + 0x1000 * k
def r_MBX_PF_S_OUT_STATUS (ep k : Nat) : Nat := 0x2000000000004 + 0x10000 * ep + 0x1000 * k
def r_MBX_PF_S_IN_STATUS (ep k : Nat) : Nat := 0x2000000000008 + 0x10000 * ep + 0x1000 * k
def r_MBX_PF_S_IN_ACK (ep k : Nat) : Nat := 0x200000000000C + 0x10000 * ep + 0x1000 * k
def r_MBX_PF_S_GEN (ep k : Nat) : Nat := 0x2000000000010 + 0x10000 * ep + 0x1000 * k
def r_MBX_PF_S_INT (ep k : Nat) : Nat := 0x2000000000014 + 0x10000 * ep + 0x1000 * k

end Sys2Proof.Machine
end

