-- ==== Sys2Proof/Machine/State.lean ====
section
/-! DEFINITION. The state of the SLX-8640 as plain data: every register, table, queue, counter, mode
and pin the manual gives the adapter, the queue of waiting commands, and the model's own output log and
free-value counter. `State.reset` is the adapter without supply power (mode OFF, R570). -/

namespace Sys2Proof.Machine

open Sys2Proof

/-- The time value of the accumulator (R379): seconds, nanoseconds, 56-bit fraction. -/
structure TimeVal where
  s : BitVec 64 := 0
  ns : BitVec 30 := 0
  frac : BitVec 56 := 0
  deriving DecidableEq, Repr

/-- Base modes and the three states outside them (R570). -/
inductive BaseMode where
  | off | held | boot | restricted | provision | service | quiescent
  deriving DecidableEq, Repr

/-- Holder of the manager role (R525). -/
inductive Holder where
  | home | alternate | none
  deriving DecidableEq, Repr

/-- A layer slot of the metadata (R97, words 8 to 15). -/
structure LayerSlot where
  offset : Nat := 0
  htype : Nat := 0
  len : Nat := 0
  valid : Bool := false
  deriving DecidableEq, Repr

/-- The packet metadata of R97 before packing into 16 words; `Machine/Operands.lean` packs it. -/
structure PktMeta where
  twinSeq : Word := 0
  jigVersion : Nat := 0
  jigSlot : Nat := 0
  pgBank : Nat := 0
  rspBank : Nat := 0
  pass : Nat := 0
  twin : Bool := false
  pipeline : Nat := 0
  source : Nat := 0
  slice : Nat := 0xFFF
  cls : Nat := 0
  hdrCount : Nat := 0
  flowHash : Word := 0
  frameLen : Nat := 0
  effEnd : Nat := 0
  payloadOff : Nat := 0
  parseDeep : Bool := false
  deepWindow : Bool := false
  deepDepth : Bool := false
  lenOver : Bool := false
  lenShort : Bool := false
  lenBad : Bool := false
  hdrTrunc : Bool := false
  nextUnknown : Bool := false
  raspDone : Bool := false
  raspSkip : Bool := false
  l3CsumBad : Bool := false
  l4CsumBad : Bool := false
  userFlags : BitVec 16 := 0
  rspFirst : Nat := 0
  rspCount : Nat := 0
  rspGroups : Word := 0
  slots : List LayerSlot := List.replicate 8 {}
  deriving DecidableEq, Repr

/-- The Jig result of a pass (R129). -/
structure JigResult where
  rule : Nat := 0
  hit : Bool := false
  drop : Bool := false
  action : Nat := 0
  cookie : Word := 0
  version : Nat := 0
  slot : Nat := 0
  deriving DecidableEq, Repr

/-- Where a Cistern entry lies: a way (bucket × 4 + way) or a stash index (R166, R673). -/
structure Loc where
  stash : Bool
  idx : Nat
  deriving DecidableEq, Repr

/-- The last-hit entry of a pass (R674): location, epoch and key of the hit. -/
structure LastHit where
  loc : Loc
  epoch : BitVec 16
  key : Bytes
  deriving DecidableEq, Repr

/-- A pending length-changing edit of a pass, applied in order at its end (R198). -/
inductive Edit where
  /-- Insert a tag of `tpid`, `tci` after the 12 address bytes of the header that began at byte `at_` of the frame as parsed. -/
  | vlanPush (at_ : Nat) (tpid tci : Nat)
  /-- Remove the first tag after the address bytes of that header, when there is one. -/
  | vlanPop (at_ : Nat)
  /-- Prepend the template (R304, R305). -/
  | encap (template : Nat)
  /-- Remove the bytes before the header that began at byte `at_` of the frame as parsed (R306). -/
  | decap (at_ : Nat)
  deriving DecidableEq, Repr

/-- A verdict (R197, R232). `V` operands are kept resolved. -/
inductive Verdict where
  | fwdPort (mac : Nat)
  | fwdHost (slice queue : Nat)
  | flood (bd : Nat)
  | drop
  | toEngine (cluster reason : Nat)
  | recirc
  deriving DecidableEq, Repr

/-- Kinds of work item (R214 KIND). -/
inductive ItemKind where
  | toEngine | parsePolicy | actTtl | actPassLimit | actOpLimit | actLookupLimit | actBadRecord | forkArg
  deriving DecidableEq, Repr

/-- Stage of a packet copy on its way (R45). -/
inductive Stage where
  /-- A Twin packet that waits for its stream (R258). -/
  | streamWait
  /-- Waits for a start slot (R41). -/
  | start
  | plane
  | raspQueue
  | raspScan
  | jig
  /-- Waits for its action record (R199). -/
  | fetch
  /-- Runs its action record. -/
  | action
  /-- Waits for the transform at the end of the pass (R309). -/
  | transform
  /-- In the retry list of its pipeline (R217). -/
  | retry
  /-- A work item of a cluster (R213). -/
  | cascade
  /-- Its verdict waits in the exit order stage (R259). -/
  | exitOrder
  /-- Handed on: its copies are on their way to Dovetail points (R261). -/
  | handed
  deriving DecidableEq, Repr

/-- The transmit request of a host packet: the META descriptor of its packet (R469), as bytes; empty when none. -/
abbrev TxMeta := Bytes

/-- Origin of a host-transmit packet: endpoint, function, key of its queue pair in `Rings.qps`, the ring index of its last
descriptor, and the model's own number of the accepted packet. -/
structure TxOrigin where
  ep : Nat
  func : Nat
  key : Nat
  index : Word
  uid : Nat
  deriving DecidableEq, Repr

/-- The program of a pass in the action unit (R195, R196, R198). -/
structure PassState where
  g : List Dword := []
  recIdx : Nat := 0
  record : Bytes := []
  op : Nat := 0
  opsRun : Nat := 0
  lookups : Nat := 0
  ent : Bytes := []
  lastHit : Option LastHit := none
  edits : List Edit := []
  /-- MIRROR operations served in the pass (R197). -/
  mirrored : Nat := 0
  tc : Option Nat := none
  sa : Option (Nat × Bool) := none
  /-- Byte of the frame at which the IP header that the SA's AUX names stands, while the edits run (R308). -/
  ipAt : Option Nat := none
  fault : Option ItemKind := none
  deriving DecidableEq, Repr

/-- One packet copy in the datapath. A Twin packet has two copies while both rails are in service (R21). -/
structure Pkt where
  hdr : PktMeta := {}
  frame : Bytes := []
  stage : Stage := .start
  stamp : Dword := 0
  inTc : Nat := 0
  lossless : Bool := false
  /-- Basin record of the stored frame (shared by the copies, R37). -/
  fid : Nat := 0
  /-- Twin stream (R257), when Twin. -/
  stream : Nat := 0
  /-- Function generation carried (R444): endpoint × 2048 + function, generation. -/
  gen : Option (Nat × BitVec 16) := none
  origin : Option TxOrigin := none
  tx : TxMeta := []
  started : Bool := false
  parked : Bool := false
  jig : JigResult := {}
  pass : PassState := {}
  verdict : Option Verdict := none
  /-- SA index of the last transform, for the release descriptor (R266). -/
  saUsed : Option Nat := none
  /-- The TLS records of its send have been encrypted (R319). -/
  tlsDone : Bool := false
  /-- Cluster (rail × 4 + cluster) and work-table index, in stage cascade. -/
  item : Option (Nat × Nat) := none
  /-- A frame of the network whose L4 checksum was checked (R346). -/
  l4Checked : Bool := false
  /-- Destinations handed on and not yet handled at their Dovetail points (R261). -/
  legs : Nat := 0
  /-- Copies that MIRROR asked for: DEST word, the packet as it stood and its META descriptor (R197). -/
  mirrors : List (Word × Bytes × TxMeta) := []
  deriving DecidableEq, Repr

/-- Basin storage of one frame (R36, R355): head cell, pages, owner slice (0xFFF: open pages), holders. -/
structure BasinFrame where
  head : Bool
  pages : Nat
  owner : Nat
  /-- Pages taken from the owner's reservation; the rest are open pages. -/
  own : Nat
  refs : Nat
  /-- MAC and class of a lossless admission (R355). -/
  occ : Option (Nat × Nat)
  deriving DecidableEq, Repr

structure Basin where
  headFree : Nat := 131072
  /-- Page area in use, in pages (R37, R604). -/
  area : Nat := 0
  /-- Pages held from each slice's reservation. -/
  held : AMap Nat := []
  /-- Open pages in use. -/
  openUsed : Nat := 0
  frames : AMap BasinFrame := []
  /-- Lossless reservations of MAC × 8 + class, in 256-byte units (R357). -/
  lossless : AMap Nat := []
  deriving DecidableEq, Repr

/-- A pending commit of a parse-graph or pattern bank (R110, R112). -/
structure BankCommit where
  chan : Nat
  seq : Nat
  tag : Word
  validated : Bool
  deriving DecidableEq, Repr

/-- One of the two banks of Plane or Rasp (R84, R103): record tables by index, in the manual's layouts. -/
structure ParseBank where
  nodes : AMap Bytes := []
  trans : AMap Bytes := []
  starts : AMap Bytes := []
  classes : AMap Bytes := []
  tag : Word := 0
  inflight : Nat := 0
  deriving DecidableEq, Repr

structure PatternBank where
  pats : AMap Bytes := []
  tag : Word := 0
  pending : Nat := 0
  deriving DecidableEq, Repr

structure Plane where
  bank0 : ParseBank := {}
  bank1 : ParseBank := {}
  cur : Nat := 0
  stageReady : Bool := true
  commit : Option BankCommit := none
  deriving DecidableEq, Repr

structure Rasp where
  bank0 : PatternBank := {}
  bank1 : PatternBank := {}
  cur : Nat := 0
  stageReady : Bool := true
  commit : Option BankCommit := none
  /-- Rasp lanes busy, per pipeline (R107). -/
  lanes : List Nat := [0, 0, 0, 0]
  /-- Packets waiting for a lane, in order, per pipeline (R107, R108). -/
  queues : List (List Nat) := [[], [], [], []]
  deriving DecidableEq, Repr

/-- States of a Jig version slot (R133). -/
inductive SlotState where
  | free | compiling | current | draining
  deriving DecidableEq, Repr

/-- Rules and profiles of one version or of the staging table (R124, R125): records by index; unlisted rules are all 0,
unlisted profiles are the reset profile of R140. -/
structure RuleSet where
  rules : AMap Bytes := []
  profiles : AMap Bytes := []
  deriving DecidableEq, Repr

structure JigSlot where
  state : SlotState := .free
  version : Nat := 0
  tag : Word := 0
  inflight : Nat := 0
  set : RuleSet := {}
  /-- Tick count when the slot became DRAINING (R157), and whether JIG_DRAIN_SLOW was sent for this drain (R138). -/
  drainSince : Nat := 0
  slowSent : Bool := false
  deriving DecidableEq, Repr

/-- Phase of a commit on this adapter (R144, R148). -/
inductive CommitPhase where
  /-- Compiling and loading (orders 4 and 5). -/
  | compiling
  /-- Loaded here, waiting for the partner's READY (originator). -/
  | waitReady
  /-- Loaded; switches at the next calendar entry 0 (order 6). -/
  | waitSwitch
  /-- Switched; waits for the partner's acknowledgement (originator, R149). -/
  | waitAck
  /-- Partner side: READY sent, waits for GO. -/
  | waitGo
  deriving DecidableEq, Repr

structure JigCommit where
  phase : CommitPhase
  slot : Nat
  version : Nat
  tag : Word
  digest : Word
  chan : Nat
  seq : Nat
  mirrored : Bool
  /-- MIRROR_STATE when the commit is not mirrored (R152). -/
  mirror : Nat
  /-- This side is the partner of a mirrored commit. -/
  partner : Bool
  partnerReady : Bool
  /-- The partner's acknowledgement has arrived (R149). -/
  acked : Bool
  rules : Nat
  nodes : Nat
  leafRefs : Nat
  deriving DecidableEq, Repr

structure Jig where
  slot0 : JigSlot := {}
  slot1 : JigSlot := {}
  slot2 : JigSlot := {}
  slot3 : JigSlot := {}
  staging : RuleSet := {}
  commit : Option JigCommit := none
  mirrorEn : Bool := false
  partnerEn : Bool := false
  diverged : Bool := false
  /-- Staging table being received from the partner (JIG_DATA, R286). -/
  incoming : Bytes := []
  /-- A JIG_PREPARE whose table is still arriving (R148): version, digest and rank announced. -/
  prepare : Option (Nat × Word) := none
  deriving DecidableEq, Repr

/-- Kinds of Scribe request (R173). -/
inductive ScribeReq where
  | insert (key : Bytes) (entry : Bytes) (replace : Bool) (cmd : Option (Nat × Nat))
  | delete (key : Bytes) (loc : Option (Loc × BitVec 16)) (allowStatic : Bool) (cmd : Option (Nat × Nat))
  | update (key : Bytes) (loc : Loc) (epoch : BitVec 16) (off width : Nat) (value : Dword)
  | learn (key : Bytes) (dest : Word) (stamp : Dword) (src ageProf slice : Nat) (fromPartner : Bool)
  | promote (idx : Nat) (to_ : Nat)
  | flush (slice : Option Nat) (types : Nat) (static : Bool) (cmd : Nat × Nat)
  deriving DecidableEq, Repr

/-- A held Twin lookup result, or its expiry mark (R168, R169). -/
inductive PairEntry where
  | held (status : Dword) (entry : Bytes) (hit : Option LastHit)
  | mark
  deriving DecidableEq, Repr

/-- Key of a Twin lookup: twin stream, TWIN_SEQ, PASS, ordinal (R168). -/
structure PairKey where
  stream : Nat
  seq : Word
  pass : Nat
  ordinal : Nat
  deriving DecidableEq, Repr

structure Cistern where
  /-- Valid or written ways by location (R161); an unlisted way is all 0. -/
  ways : AMap Bytes := []
  stash : AMap Bytes := []
  epochs : AMap (BitVec 16) := []
  queue : List ScribeReq := []
  /-- The request that Scribe has taken and not yet applied. -/
  taken : Option ScribeReq := none
  pairing : List (PairKey × PairEntry) := []
  /-- Sweeps completed since the last step of the time value (R187). -/
  sweeps : Nat := 0
  /-- The sweep in progress began after the last step (R187). -/
  sweepWhole : Bool := true
  hitMode : Bool := false
  flood : AMap (List Word) := []
  /-- CST_INSERT_FAIL: failures per slice since the last event (R178). -/
  failures : AMap Nat := []
  /-- Tick at which CST_INSERT_FAIL was last sent for a slice. -/
  failSent : AMap Nat := []
  /-- Flap lock times are held in the entry; the locked entries by location, with lock tick (R181). -/
  locked : AMap Nat := []
  deriving DecidableEq, Repr

/-- A Square audit (R189 to R191). -/
structure Audit where
  scope : Nat
  learned : Bool
  compare : Bool
  chan : Nat
  seq : Nat
  deriving DecidableEq, Repr

structure Square where
  walk : Option Audit := none
  round : Word := 0
  /-- Digest and count per region of the last audit. -/
  digest : AMap (Word × Nat) := []
  dirty : List Nat := []
  mismatch : List Nat := []
  expect : AMap (Word × Nat) := []
  deriving DecidableEq, Repr

/-- A pending action-record write (R194). -/
structure RecWrite where
  chan : Nat
  seq : Nat
  index : Nat
  record : Bytes
  deriving DecidableEq, Repr

structure ActUnit where
  table : AMap Bytes := []
  pendingWrites : List RecWrite := []
  /-- Counter blocks (R197): packets, bytes. -/
  counters : AMap (Dword × Dword) := []
  deriving DecidableEq, Repr

/-- Worker and supervisor thread states (R209). -/
inductive ThreadState where
  | free | ready | waiting | suspended | faulted
  deriving DecidableEq, Repr

/-- Why a thread waits (R236, R246). -/
inductive WaitFor where
  | data (chan : Nat) (item : Bool) (timeout : Nat)
  | space (chan : Nat)
  | join
  | none
  deriving DecidableEq, Repr

structure Thread where
  state : ThreadState := .free
  wait : WaitFor := .none
  slice : Nat := 0xFFF
  reserved : Bool := false
  regs : List Dword := []
  pc : Nat := 0
  dest : Nat := 0
  staged : List Dword := []
  chResult : Nat := 0
  readLen : Nat := 0
  forkArg : Dword := 0
  forkResult : Nat := 0
  children : List Nat := []
  parent : Option Nat := none
  /-- Handles of the items in the thread's two parcel frames (R210, R218). -/
  frame0 : Option Nat := none
  frame1 : Option Nat := none
  faultClass : Nat := 0
  supResult : Nat := 0
  supThread : Nat := 0
  deriving DecidableEq, Repr

/-- States of a work-table entry (R213). -/
inductive ItemState where
  | queued | active | held
  deriving DecidableEq, Repr

structure WorkItem where
  state : ItemState
  pid : Nat
  slice : Nat
  reserved : Bool
  kind : ItemKind
  reason : Nat
  opIndex : Nat
  restarted : Bool
  restarts : Nat
  /-- The parcel in HBM as written when the item was queued, written back by PARK (R214, R222). -/
  parcel : Bytes
  deriving DecidableEq, Repr

structure Channel where
  depth : Nat := 0
  reader : Nat := 0
  msgs : List (List Dword) := []
  /-- Threads waiting for space, as cluster × 64 + slot, in the order in which they began to wait (R227). -/
  writers : List Nat := []
  deriving DecidableEq, Repr

structure Cluster where
  threads : AMap Thread := []
  /-- FREE entries are unlisted. Queue order of QUEUED items per cluster. -/
  work : AMap WorkItem := []
  order : List Nat := []
  channels : AMap Channel := []
  /-- Island-local engine at each position (R205); 0xFF when the position has none. -/
  map : List Nat := []
  supRun : Bool := false
  supSlot : Nat := 7
  dldCount : Nat := 0
  /-- The detector has fired and awaits SUP_DLD_ACK (R245). -/
  dldHeld : Bool := false
  snapshot : Bytes := []
  /-- Supervisor fault records kept staged while the event channel was full (R240). -/
  stagedRecords : List (List Dword) := []
  /-- Deficit of the open round robin: slice and items left this round (R221). -/
  drr : AMap Nat := []
  deriving DecidableEq, Repr

/-- Engine states (R250). -/
inductive EngState where
  | inService | spare | loading | retired
  deriving DecidableEq, Repr

/-- A message committed to a device channel and not yet served (R229): the writer's cluster, slot and slice, the channel, the
words, and, as they stood at the commit, the parcel of the item it names (empty when none) and the HDR of that item's frame. -/
structure DevMsg where
  cluster : Nat
  slot : Nat
  slice : Nat
  chan : Nat
  words : List Dword
  parcel : Bytes
  hdr : Bytes
  deriving DecidableEq, Repr

structure Cascade where
  clusters : AMap Cluster := []
  engines : AMap EngState := []
  /-- Spares being loaded (R241): spare engine, cluster, position, and the retired engine with its fault class. -/
  loading : List (Nat × Nat × Nat × Nat × Nat) := []
  /-- Retry lists of the four pipelines (R217). -/
  retry : List (List Nat) := [[], [], [], []]
  /-- Supervisor entry of each cluster image (R588). -/
  supEntry : AMap Nat := []
  /-- Messages on the device channels, in the order in which they reached them (R226). -/
  devq : List DevMsg := []
  deriving DecidableEq, Repr

/-- States of a rail (R300). -/
inductive RailState where
  | inService | retiring | retired | restoring
  deriving DecidableEq, Repr

/-- An open record of a Dovetail island (R263). -/
structure OpenRec where
  point : Nat
  stream : Nat
  seq : Word
  digest : Word
  rail : Nat
  time : Nat
  deriving DecidableEq, Repr

/-- The state a point holds for a stream (R263): M and the LAG mark. -/
structure StreamState where
  point : Nat
  stream : Nat
  m : Word
  lag : Option Nat
  deriving DecidableEq, Repr

/-- A copy on its way to, or waiting at, a Dovetail point (R261, R265). -/
structure Arrival where
  point : Nat
  /-- MAC and class, or endpoint, slice and local queue pair. -/
  dest : Sum (Nat × Nat) (Nat × Nat × Nat)
  pid : Nat
  pkt : Pkt
  /-- The copy that the verdict FWD_PORT sends (R477). -/
  main : Bool
  rail : Nat
  digest : Word
  deriving DecidableEq, Repr

structure DovIsland where
  recs : List OpenRec := []
  states : List StreamState := []
  arrivals : List Arrival := []
  waiting : List Arrival := []
  /-- Expiries since the last DVT_LAG, and the tick at which that was sent (R264). -/
  lagCount : Nat := 0
  lagSent : Option Nat := none
  deriving DecidableEq, Repr

structure Twin where
  railA : RailState := .inService
  railB : RailState := .inService
  recoveryDone : Bool := true
  streams : AMap Word := []
  /-- Copies unfinished per (stream, sequence) (R258). -/
  unfinished : List (Nat × Word × Nat) := []
  /-- Order rings (R259): pipeline × 2^13 + SOURCE × 2^8 + FLOW_HASH[11:4] ↦ packets in order of first start. -/
  rings : AMap (List Nat) := []
  dov0 : DovIsland := {}
  dov1 : DovIsland := {}
  dov4 : DovIsland := {}
  dov5 : DovIsland := {}
  /-- A running TWIN_RAIL_RESTORE: rail, channel, SEQ (R273). -/
  restore : Option (Nat × Nat × Nat) := none
  deriving DecidableEq, Repr

/-- A PRP node entry (R281). -/
structure PrpNode where
  mac : Bytes
  pair : Nat
  hi : Nat
  hiTime : Nat
  window : BitVec 256
  lastUse : Nat
  deriving DecidableEq, Repr

structure Prp where
  nodes : List PrpNode := []
  txSeq : AMap (BitVec 16) := []
  deriving DecidableEq, Repr

/-- What the partner's last heartbeat carried (R287). -/
structure Partner where
  dieId : Dword := 0
  rank : Nat := 0
  mode : Nat := 0
  actOut : Bool := false
  grant : Bool := false
  jigVersion : Nat := 0
  jigDigest : Word := 0
  mirroring : Bool := false
  learned : Nat := 0
  count : Word := 0
  seen : Bool := false
  lastTick : Nat := 0
  deriving DecidableEq, Repr

structure Itwin where
  linkUp : Bool := false
  /-- Level of ITW_ALIVE as last seen (R288). -/
  alive : Bool := false
  actIn : Bool := false
  actReq : Bool := false
  /-- Levels that the adapter puts on its lines: ITW_ACT_OUT asserted, ITW_ALIVE released (R288, R289). -/
  actOut : Bool := false
  released : Bool := false
  grant : Bool := false
  /-- Collisions in a row (R292). -/
  collisions : Nat := 0
  hbCount : Word := 0
  /-- No pipeline has started a packet for 1 ms while work was queued (R287). -/
  stalled : Bool := false
  lost : Bool := false
  split : Bool := false
  partner : Partner := {}
  /-- The last heartbeat showed an equal rank (R292). -/
  rankConflict : Bool := false
  /-- The partner has released the actor role to this adapter (R293). -/
  offered : Bool := false
  /-- Itwin settings in force (applied at entry to PROVISION from BOOT, R573). -/
  enable : Bool := false
  rank : Nat := 0
  periodUs : Nat := 0
  missLimit : Nat := 0
  txSeq : BitVec 16 := 0
  rxSeq : BitVec 16 := 0
  /-- Replay buffer of flits (R285): SEQ and messages. -/
  replay : List (BitVec 16 × Bytes) := []
  /-- Flit CRC errors of the running millisecond, and its first tick (R297). -/
  crcErrors : Nat := 0
  crcSince : Nat := 0
  /-- Tick at which a discarded learning message was last logged (R297). -/
  badLogged : Option Nat := none
  /-- Itwin lanes retired, as a bit mask (R285). -/
  lanesRetired : Nat := 0
  /-- Keys named since RESYNC_MARK begin (standby, R296). -/
  resync : Option (List Bytes) := none
  /-- A resync being sent (actor), with the ITW_RESYNC to answer: channel and SEQ. -/
  resyncTx : Option (Option (Nat × Nat)) := none
  /-- The comparison of R152 is due once no GO is pending. -/
  compareDue : Bool := false
  deriving DecidableEq, Repr

/-- A held SA outcome of a Twin transform or its expiry mark (R311, R312). -/
inductive SaOutcome where
  /-- The number, and why it failed: a reason of R333, or 0 for a drop that has none. -/
  | held (number : Dword) (fail : Option Nat)
  | mark
  deriving DecidableEq, Repr

structure Crypto where
  sas : AMap Bytes := []
  templates : AMap Bytes := []
  coresRetired : BitVec 24 := 0
  pairing : List (PairKey × SaOutcome) := []
  /-- SAs for which CRY_SA_SOFT, CRY_SA_HARD or TLS_RESYNC_NEEDED was sent. -/
  softSent : List Nat := []
  hardSent : List Nat := []
  tlsSent : List Nat := []
  /-- Companion region of a partly received TLS record: bytes received so far (R308, R320). -/
  tlsPart : AMap Bytes := []
  /-- TLS receive record number of the next record (R321). -/
  tlsRecNo : AMap Dword := []
  /-- Resume points: TCP sequence at which decryption resumes (R321). -/
  tlsResume : AMap (Word × Dword) := []
  /-- CRY_SA_DELETE waiting (R322): channel, SEQ, index, and whether calendar entry 0 has passed. -/
  deletes : List (Nat × Nat × Nat × Bool) := []
  /-- Outbound SAs that have used the last number of their kind's 64 bits (R313). -/
  spent : List Nat := []
  /-- SAs written by a VF driver (R446). -/
  byDriver : List Nat := []
  /-- Packets whose passes ended with an SA attached, in that order (R310). -/
  waiting : List Nat := []
  deriving DecidableEq, Repr

/-- What the chain walker of a context does (R331): stopped; a block to read, its read outstanding; the 256 ns before the re-read of a
LINK; a LINK to read, its read outstanding, each with whether it is the re-read. -/
inductive WalkPhase where
  | stopped
  | wantBlock
  | block
  | wait
  | wantLink (again : Bool)
  | link (again : Bool)
  deriving DecidableEq, Repr

/-- Chain walker of an NVMe/TCP context (R331). -/
structure Walker where
  /-- Address of the block being read or last read. -/
  block : Nat := 0
  phase : WalkPhase := .stopped
  /-- A doorbell arrived while the walker ran. -/
  doorbell : Bool := false
  /-- CID of the buffer that CONT blocks extend. -/
  cid : Option Nat := none
  deriving DecidableEq, Repr

/-- A placement entry: segments (host address, length) of the buffer of one CCCID (R325, R330). -/
abbrev Placement := List (Nat × Nat)

structure Nvt where
  ctxs : AMap Bytes := []
  walkers : AMap Walker := []
  /-- context × 2^12 + CCCID mod PLACE_COUNT ↦ buffer. -/
  places : AMap Placement := []
  /-- NVT_RESYNC: TCP sequence at which checking resumes. -/
  resume : AMap Word := []
  resyncSent : List Nat := []
  /-- Bytes of a PDU begun and not complete, per context. -/
  partialPdu : AMap Bytes := []
  /-- Sends under storage commit ordering, by packet number, in the order in which they were consumed (R329). -/
  order : List Nat := []
  /-- Contexts written by a VF driver (R446). -/
  byDriver : List Nat := []
  deriving DecidableEq, Repr

/-- A frame waiting for its MAC (R360), as Dovetail released it: without FCS and before the work of R347. -/
structure TxFrame where
  bytes : Bytes
  cls : Nat
  leaf : Nat
  lossless : Bool
  slice : Nat
  fid : Nat
  tx : TxMeta := []
  origin : Option TxOrigin := none
  source : Nat := 0
  /-- The copy that the verdict FWD_PORT sends (R477). -/
  main : Bool := false
  /-- TSO segment index still to send, of the send's segments. -/
  segment : Nat := 0
  /-- LanId and first SeqNr of a PRP frame (R283). -/
  prp : Option (Nat × Nat) := none
  /-- Its start was deferred by R367 and counted. -/
  deferred : Bool := false
  /-- Stamp request (R389): 0 none, 1 two-step, 2 one-step; its STAMP_ID, PTP offset and t_req. -/
  stamp : Nat := 0
  stampId : Nat := 0
  ptpOff : Nat := 0
  tReq : Dword := 0
  /-- Under MACsec, ESP or TLS protection (R393). -/
  secured : Bool := false
  /-- Message of the PTP engine: its messageType. -/
  ptp : Option Nat := none
  deriving DecidableEq, Repr

/-- A frame in transmission or preempted: the frame as finished (R347), the bytes already sent, and its transmit stamp. -/
structure TxActive where
  frame : TxFrame
  wire : Bytes
  sent : Nat := 0
  stamp : Dword := 0
  demoted : Bool := false
  resend : Bool := false
  deriving DecidableEq, Repr

/-- A gate control list (R365): entries (GATES, OP, INTERVAL). -/
abbrev Gcl := AMap (Nat × Nat × Nat)

/-- A pending gate-list commit (R369). -/
structure GclCommit where
  chan : Nat
  seq : Nat
  len : Nat
  cycle : Nat
  ext : Nat
  baseS : Nat
  baseNs : Nat
  gateEn : Bool
  changeS : Nat
  changeNs : Nat
  /-- Time in ns at which the commit arrived. -/
  since : Nat
  /-- The administrative list as committed. -/
  list : AMap (Nat × Nat × Nat)
  deriving DecidableEq, Repr

/-- A stamp-queue entry (R390, R391). -/
structure StampEntry where
  demoted : Bool
  onestep : Bool
  id : Nat
  slice : Nat
  stamp : Dword
  deriving DecidableEq, Repr

structure MacState where
  /-- Frames queued, each list in order of release (leaf, class). -/
  queue : List TxFrame := []
  active : Option TxActive := none
  preempted : Option TxActive := none
  /-- Underrun frames to be sent again, store-and-forward, each first of its class (R351). -/
  resends : List TxFrame := []
  /-- Flow-control frames due: class-enable vector and time (PFC), or PAUSE (R356). -/
  fcDue : List (Bool × Nat × Nat) := []
  linkUp : Bool := false
  localFault : Bool := false
  remoteFault : Bool := false
  xoff : List Nat := []
  /-- Classes stopped by the partner with the ticks left when stopped (R354). -/
  stopped : AMap Nat := []
  /-- Classes in a storm; under ACTION 1 flow control is ignored (R358). -/
  storm : List Nat := []
  occ : AMap Nat := []
  admin : Gcl := []
  oper : Gcl := []
  operLen : Nat := 0
  operCycle : Nat := 0
  operBaseS : Nat := 0
  operBaseNs : Nat := 0
  gateEn : Bool := false
  operGates : BitVec 8 := 0xFF
  hold : Bool := false
  entry : Nat := 0
  commit : Option GclCommit := none
  preemptMask : BitVec 8 := 0
  preemptEn : Bool := false
  verifyDis : Bool := false
  addFrag : Nat := 0
  verifyState : Nat := 0
  stamps : List StampEntry := []
  stampLatch : Option StampEntry := none
  /-- Deficits of the round robin per class and shaper (R363): class × 2^17 + shaper, 65536 for the unshaped list. -/
  deficit : AMap Nat := []
  /-- The child served last, per class and parent (class × 2^17 + parent, 65537 above level 3). -/
  turn : AMap Nat := []
  clean : Nat := 0
  ctCurrent : Nat := 256
  deriving DecidableEq, Repr

structure Port where
  mode : Nat := 0
  /-- Lanes retired, as a mask (R341). -/
  retired : Nat := 0
  laneLock : BitVec 8 := 0
  deriving DecidableEq, Repr

/-- A Weir shaper (R359, R361, R69). -/
structure Shaper where
  level : Nat := 3
  parent : Option Nat := none
  rateEn : Bool := false
  rate : Nat := 0
  depth : Nat := 0
  overhead : Nat := 0
  prio : Nat := 0
  quantum : Nat := 1522
  /-- Token level, signed Q32.16 (R52), and remainder. -/
  tokens : Int := 0
  rem : Nat := 0
  deriving DecidableEq, Repr

structure Weir where
  /-- Shapers away from the reset settings of R361. -/
  shapers : AMap Shaper := []
  /-- WEIR_SHAPER_SET waiting for the next tick (R364). -/
  pendingSets : List (Nat × Shaper) := []
  /-- Leaf maps: slice × 16 + port × 8 + class ↦ leaf; unlisted is 0xFFFF. -/
  leaf : AMap Nat := []
  deriving DecidableEq, Repr

/-- A step of the time value that has been asked for (R383): cause 0 TIME_SET, 1 TIME_OFFSET, 2 acquisition; the new value of a
TIME_SET; the signed duration of the others in 1/256 ns; the command to answer. -/
structure StepReq where
  cause : Nat
  value : TimeVal
  offset : Int
  cmd : Option (Nat × Nat)
  deriving DecidableEq, Repr

structure Timebase where
  now : TimeVal := {}
  /-- Ticks of the timebase clock since the end of HELD: not stepped (R632). -/
  ticks : Nat := 0
  adj : BitVec 64 := 0
  onFallback : Bool := false
  oscLost : Bool := false
  stepped : Bool := false
  stepCount : Word := 0
  steps : List StepReq := []
  /-- Latch of TIME_NOW_S_LO (R414). -/
  latch : TimeVal := {}
  deriving DecidableEq, Repr

/-- A capture of a timed I/O channel (R409). -/
structure Capture where
  stamp : Dword
  falling : Bool
  deriving DecidableEq, Repr

structure TioChan where
  /-- Committed settings (R407): the register values taken when ARM was written. -/
  mode : Nat := 0
  pol : Bool := false
  edge : Nat := 0
  armed : Bool := false
  startS : Nat := 0
  startNs : Nat := 0
  startSub : Nat := 0
  period : Nat := 0
  width : Nat := 0
  active : Bool := false
  /-- A ONE_SHOT has fired and its pulse is not over (R410). -/
  live : Bool := false
  captures : List Capture := []
  latch : Option Capture := none
  last : Option Dword := none
  deriving DecidableEq, Repr

/-- Plumb states (R401). -/
inductive PlbState where
  | manual | acquire | locked | holdover | delayHold
  deriving DecidableEq, Repr

structure Plumb where
  state : PlbState := .manual
  prior : PlbState := .manual
  /-- A SERVO state that entered HOLDOVER from LOCKED (R401). -/
  wasLocked : Bool := false
  df : Option Int := none
  bias : Int := 0
  integ : Int := 0
  thetaLast : Int := 0
  run : Nat := 0
  sumD : Int := 0
  kept : List (Int × Int) := []
  armed : Bool := false
  lockRun : Nat := 0
  /-- Queued samples (t_ms, d), at most 4 (R400). -/
  queue : List (Int × Int) := []
  trimSave : Option (Nat × Nat) := none
  /-- Offsets refused since the last PLB_JUMP_REFUSED, and the tick at which that was sent (R413). -/
  refused : Nat := 0
  refusedSent : Option Nat := none
  deriving DecidableEq, Repr

/-- State of a PTP port (R396). -/
inductive PtpPortState where
  | disabled | listening | master | slave | passive
  deriving DecidableEq, Repr

/-- A Sync that waits for its Follow_Up (R397): sequence number, ingress stamp, correction in 1/256 ns, and tick of arrival. -/
structure PtpSync where
  seq : Nat
  t2 : Dword
  corr : Int
  tick : Nat
  deriving DecidableEq, Repr

/-- A Pdelay_Resp that waits for its follow-up: sequence number, t2 of the partner, ingress stamp t4 and corrections, in 1/256 ns. -/
structure PtpPresp where
  seq : Nat
  t2 : Int
  t4 : Dword
  corr : Int
  deriving DecidableEq, Repr

/-- A clock heard on a port (R396): its port identity, Announce messages in a row, tick of the last one, and its message. -/
structure PtpForeign where
  source : Bytes
  count : Nat
  tick : Nat
  msg : Bytes
  deriving DecidableEq, Repr

structure PtpPort where
  state : PtpPortState := .disabled
  parent : Bytes := List.replicate 10 0
  sync : Option PtpSync := none
  /-- Outstanding Delay_Req: sequence number, and its transmit stamp once it has left. -/
  req : Option (Nat × Option Dword) := none
  /-- Outstanding Pdelay_Req, the same. -/
  preq : Option (Nat × Option Dword) := none
  presp : Option PtpPresp := none
  tSm : Option Int := none
  /-- Tick at which t_sm was formed (R397). -/
  tSmTick : Nat := 0
  linkDelay : Option Int := none
  /-- neighborRateRatio less 1, in units of 2^-41. -/
  ratio : Int := 0
  /-- t3 and t4 of the last Pdelay exchange. -/
  lastPd : Option (Int × Dword) := none
  /-- cumulativeScaledRateOffset of the last Follow_Up, in units of 2^-41. -/
  cumRatio : Int := 0
  txSeqSync : BitVec 16 := 0
  txSeqReq : BitVec 16 := 0
  txSeqAnn : BitVec 16 := 0
  /-- Event messages in the running second of the timebase clock, and that second (R399). -/
  events : Nat := 0
  eventSec : Nat := 0
  foreign : List PtpForeign := []
  deriving DecidableEq, Repr

structure Ptp where
  ports : AMap PtpPort := []
  /-- Messages that the timebase island has taken and not yet handled (R395): MAC, the frame and its ingress stamp. -/
  inbox : List (Nat × Bytes × Dword) := []
  deriving DecidableEq, Repr

/-- A posted write held by a contained endpoint or by Bus Master Enable 0 (R440, R448). -/
structure HeldWrite where
  func : Nat
  pasid : Option Nat
  relaxed : Bool
  addr : Nat
  data : Bytes
  deriving DecidableEq, Repr

/-- An outstanding or quarantined read (R438, R439). -/
structure ReadReq where
  tag : Nat
  func : Nat
  gen : BitVec 16
  addr : Nat
  len : Nat
  quarantined : Bool
  /-- Use of the data: global queue pair or context, and purpose: 0 transmit descriptor, 1 posting, 2 buffer, 3 chain block,
  4 the re-read of a LINK; 9 data to be discarded. -/
  queue : Nat
  purpose : Nat
  pasid : Option Nat := none
  /-- The data once its completion has arrived. -/
  data : Option (List (BitVec 8)) := none
  deriving DecidableEq, Repr

/-- A function of an endpoint (R421 to R447). -/
structure Func where
  gen : BitVec 16 := 0
  flrActive : Bool := false
  inError : Bool := false
  errCause : Nat := 0
  errQueue : Nat := 0
  errValid : Bool := false
  resumed : Bool := false
  bme : Bool := false
  intDisable : Bool := false
  msixEnable : Bool := false
  funcMask : Bool := false
  d3hot : Bool := false
  ctoValue : Nat := 0
  ltrEn : Bool := false
  atsEn : Bool := false
  ecrcCheck : Bool := false
  vfEnable : Bool := false
  numVfs : Nat := 0
  maxPayload : Nat := 128
  maxRead : Nat := 512
  /-- Vectors whose Mask bit is 0; the Mask bit of MSI-X resets to 1 (R17: the base specification). -/
  vecUnmasked : List Nat := []
  /-- Vectors whose message is due and not yet handled (R432). -/
  due : List Nat := []
  pba : List Nat := []
  itr : AMap Nat := []
  /-- Vectors in their hold-off; true when an event coalesced (R433). -/
  holdoff : AMap Bool := []
  /-- MSI-X table entries (address, data) by vector. -/
  msix : AMap (Nat × Word) := []
  /-- Other configuration fields the host wrote: register number ↦ value. -/
  config : AMap Word := []
  /-- 10-Bit and 14-Bit Tag Requester Enable, Enable Relaxed Ordering, IDO Request Enable (R435). -/
  tag10 : Bool := false
  tag14 : Bool := false
  relaxed : Bool := true
  ido : Bool := false
  deriving DecidableEq, Repr

structure Endpoint where
  funcs : AMap Func := []
  speed : Nat := 0
  width : Nat := 0
  flit : Bool := false
  dlUp : Bool := false
  slow : Bool := false
  perst : Bool := true
  contained : Bool := false
  cause : Nat := 0
  held : List HeldWrite := []
  reads : List ReadReq := []
  /-- Reads that Bus Master Enable or containment stopped, to be issued again (R440, R450). -/
  reissue : List ReadReq := []
  nextTag : Nat := 0
  intx : Bool := false
  wtt : AMap (Word × Word) := []
  /-- Translation cache (R443): function, PASID or 2^20, and 4 KiB page, oldest first. -/
  transCache : List (Nat × Nat × Nat) := []
  deriving DecidableEq, Repr

/-- States of a queue pair (R462). -/
inductive QState where
  | inactive | active | halted | flushing
  deriving DecidableEq, Repr

/-- A transmit packet taken from a ring (R474 to R477). -/
structure TxPacket where
  uid : Nat
  last : Word
  status : Option Nat
  /-- Destinations not yet left (R477). -/
  left : Nat
  accepted : Bool
  noCpl : Bool
  stamp : Dword
  stampValid : Bool
  demoted : Bool
  stampId : Nat
  stampMac : Nat
  deriving DecidableEq, Repr

/-- A frame waiting in Basin for postings (R480, R481). -/
structure RxFrame where
  bytes : Bytes
  hdr : PktMeta
  cookie : Word
  tc : Nat
  stamp : Dword
  lossless : Bool
  fid : Nat
  gen : BitVec 16
  l4Checked : Bool
  origin : Option TxOrigin
  /-- Inbound TLS SA of the last pass (R320). -/
  sa : Option Nat
  deriving DecidableEq, Repr

/-- A buffer read of the packet being fetched (R468, R435): address and length, whether it has been issued, whether it failed (R438),
and its data once they have arrived. -/
structure BufRead where
  addr : Nat
  len : Nat
  issued : Bool := false
  failed : Bool := false
  data : Option Bytes := none
  deriving DecidableEq, Repr

structure QPair where
  state : QState := .inactive
  func : Nat := 0
  txLog : Nat := 0
  rxLog : Nat := 0
  cqLog : Nat := 0
  tc : Nat := 0
  prefix_ : Bool := false
  vector : Nat := 0
  nopostUs : Nat := 0
  pasid : Option Nat := none
  txBase : Nat := 0
  rxBase : Nat := 0
  cqBase : Nat := 0
  wb : Nat := 0
  txProd : Word := 0
  txCons : Word := 0
  txCpl : Word := 0
  rxProd : Word := 0
  rxCons : Word := 0
  cqProd : Word := 0
  cqCons : Word := 0
  armed : Bool := false
  errCause : Nat := 0
  errRing : Nat := 0
  errIndex : Word := 0
  /-- Descriptors read or pushed and not yet a whole packet, with their indices (R467, R473). -/
  descs : List (Word × Bytes) := []
  packets : List TxPacket := []
  /-- Postings read and unused, by index (R479). -/
  postings : List (Word × Bytes) := []
  rx : List RxFrame := []
  rxDiscard : Nat := 0
  /-- A QUEUE_DESTROY that drains: channel and SEQ (R490). -/
  drain : Option (Nat × Nat) := none
  /-- A flush in progress: cause, old generation, command to answer. -/
  flush : Option (Nat × BitVec 16 × Option (Nat × Nat)) := none
  wbDue : Bool := false
  /-- A halt runs (R487): its cause, ring and index are in the error fields. -/
  halting : Bool := false
  /-- Reads of the buffers of the oldest whole packet. -/
  bufs : List BufRead := []
  /-- That packet is gated under storage commit ordering and has been counted (R329). -/
  gated : Bool := false
  deriving DecidableEq, Repr

structure Rings where
  /-- endpoint × 8192 + global queue pair ↦ queue pair. -/
  qps : AMap QPair := []
  /-- Reset records of each endpoint, oldest first, and LOST (R491, R492): endpoint, function, record. -/
  records : List (Nat × Nat × Bytes) := []
  lost0 : Nat := 0
  lost1 : Nat := 0
  deriving DecidableEq, Repr

/-- A mailbox message (R501). -/
structure Msg where
  opcode : Nat
  seq : Nat
  senderGen : BitVec 16
  receiverGen : BitVec 16
  payload : Bytes
  /-- It arrived inside an SPDM session (R567). -/
  session : Bool := false
  deriving DecidableEq, Repr

/-- A message firmware has queued for a channel (R521): event or response, whether inside a session (R567). -/
structure OutMsg where
  opcode : Nat
  seq : Nat
  payload : Bytes
  event : Bool
  session : Bool := false
  deriving DecidableEq, Repr

/-- A journal entry (R541). -/
structure Journal where
  seq : Nat
  opcode : Nat
  crc : Word
  /-- `none` while RUNNING; the whole response when DONE: code and body. -/
  done : Option (Nat × Bytes)
  deriving DecidableEq, Repr

/-- A command firmware has started and not yet answered (R536). -/
structure Started where
  seq : Nat
  opcode : Nat
  req : Bytes
  /-- Deferred: its effect has begun and another step answers it (R537). -/
  running : Bool
  session : Bool
  deriving DecidableEq, Repr

structure MbxChan where
  hostGen : BitVec 16 := 0
  /-- Messages held for firmware, oldest first (at most two, R505). -/
  toFw : List Msg := []
  /-- Messages held for the host, oldest first. -/
  toHost : List Msg := []
  /-- Host outbound buffer (R506): message bytes. -/
  outBuf : Bytes := []
  /-- Firmware's outbound buffer. -/
  fwBuf : Bytes := []
  reject : Bool := false
  crossHost : Bool := false
  crossFw : Bool := false
  /-- The present crossing episode has been reported (R519). -/
  crossSeen : Bool := false
  acked : Bool := false
  vector : Nat := 0
  intEn : Bool := false
  journal : List Journal := []
  started : List Started := []
  /-- Firmware's queue for the channel (R521). -/
  queue : List OutMsg := []
  mask : Word := 0
  evSeq : BitVec 8 := 0
  dropped : Nat := 0
  deriving DecidableEq, Repr

structure Mailboxes where
  /-- Firmware-side generation of all channels (R504). -/
  fwGen : BitVec 16 := 0
  chans : AMap MbxChan := []
  /-- Mailbox service runs (R504, R594). -/
  serving : Bool := false
  deriving DecidableEq, Repr

/-- A calendar reservation record of START (R555). -/
structure StartRec where
  first : Nat
  stride : Nat
  count : Nat
  deriving DecidableEq, Repr

/-- A slice: the fields of R555 with bases resolved. -/
structure Slice where
  func : Nat
  ep : Nat
  twin : Bool
  railMask : Nat
  openEligible : Bool
  qpBase : Nat
  qpCount : Nat
  vecCount : Nat
  w0Base : Nat
  w0Count : Nat
  w1Base : Nat
  w1Count : Nat
  basinPages : Nat
  cstQuota : Nat
  saBase : Nat
  saCount : Nat
  nvtBase : Nat
  nvtCount : Nat
  cscWeight : Word
  start : List StartRec
  destroying : Bool := false
  /-- Counts of a destruction that runs: RECORDS, CST_DELETED, SA_INVALIDATED, NVT_INVALIDATED, ITEMS_DROPPED (R559). -/
  tally : List Nat := []
  /-- Calendar positions that wait for calendar entry 0, with the commands to answer after it: channel, SEQ, body (R557, R558). -/
  pendingStart : Option (List StartRec × List (Nat × Nat × Bytes)) := none
  deriving DecidableEq, Repr

structure Slices where
  tab : AMap Slice := []
  /-- Calendar position in effect: pipeline × 4096 + position ↦ slice; unlisted is the open share (R41). -/
  calendar : AMap Nat := []
  deriving DecidableEq, Repr

structure Role where
  holder : Holder := .home
  homeEp : Nat := 0
  altEn : Bool := false
  headless : Bool := false
  changes : Word := 0
  since : Dword := 0
  deriving DecidableEq, Repr

/-- One bank of the boot flash (R585, R586, R605). -/
structure ImageBank where
  /-- 0 empty, 1 valid, 2 invalid, 3 writing (FW_IMAGE_QUERY). -/
  state : Nat := 0
  size : Nat := 0
  bytes : AMap Byte := []
  deriving DecidableEq, Repr

structure Flash where
  whA : ImageBank := {}
  whB : ImageBank := {}
  cscA : ImageBank := {}
  cscB : ImageBank := {}
  manifest0 : Bytes := []
  manifest1 : Bytes := []
  /-- Manifest block being written (FW_MANIFEST_WRITE). -/
  manifestBuf : AMap Byte := []
  deriving DecidableEq, Repr

/-- States of the spare pair (WH_PAIR_STATUS). -/
inductive SpareState where
  | ready | loading | selfTest | retired
  deriving DecidableEq, Repr

/-- A handover in progress (R597). -/
structure Handover where
  whBank : Option Nat
  cscBank : Option Nat
  raiseSvn : Bool
  step : Nat
  cluster : Nat
  chan : Nat
  seq : Nat
  since : Nat
  fromRestricted : Bool
  deriving DecidableEq, Repr

structure Firmware where
  whBank : Nat := 0
  cscBank : Nat := 0
  whRunning : Bool := false
  cscRunning : Bool := false
  spare : SpareState := .ready
  /-- Timebase ticks of the restarts of the active pair (R594), newest first. -/
  restartTicks : List Nat := []
  restarts : Word := 0
  switches : Word := 0
  lastCause : Nat := 0
  ckptStamp : Dword := 0
  /-- A Wellhead restart in progress: cause, and its tick (R594). -/
  restarting : Option (Nat × Nat) := none
  handover : Option Handover := none
  /-- Components and banks that a PLDM firmware update has written and not yet activated (R601). -/
  pldm : List (Nat × Nat) := []
  /-- Stamp of the last restart or switch (WH_PAIR_STATUS). -/
  lastStamp : Dword := 0
  deriving DecidableEq, Repr

structure Device where
  base : BaseMode := .off
  isolated : Bool := false
  recovery : Bool := false
  restrictedReason : Nat := 0
  since : Dword := 0
  suppliesUp : Bool := false
  sysRstN : Bool := false
  tbOsc : Bool := true
  ethRefclk : Bool := true
  /-- Boot progress (R582): images checked, HBM trained, self-test done. -/
  whVerified : Bool := false
  cscChecked : Bool := false
  hbmTrained : Bool := false
  selfTested : Bool := false
  /-- BOOT_COMPLETE has passed in recovery: PF0s answer configuration requests normally (R584). -/
  recoveryOpen : Bool := false
  /-- A device reset to begin (R581, R601): its RESET_CAUSE, 3 command or 4 PLDM activation. -/
  resetPending : Option Nat := none
  /-- HELD of a device reset, which lasts 1 ms (R572). -/
  resetHeld : Bool := false
  /-- Entry to QUIESCENT (1), or the return from it (2), still completing (R577). -/
  quiesce : Nat := 0
  coreMv : Nat := 750
  deriving DecidableEq, Repr

structure Heartwood where
  /-- Words away from their as-shipped value (R614 to R616). -/
  words : AMap Word := []
  /-- Staged lower words: master and word (R610). -/
  staged : List (Nat × Nat × Word) := []
  /-- HWD_WRITES (R639). -/
  writes : Dword := 0
  deriving DecidableEq, Repr

/-- Retirement of HBM pseudo-channels (R603, R604). -/
structure Hbm where
  /-- Pseudo-channels whose granules move or wait to move, oldest first, each with the cause of its UNIT_RETIRED (R604). -/
  retiring : List (Nat × Nat) := []
  /-- Remap of a retired pseudo-channel's granules, by row: the first of the rows of 64 granules at the top of the page area that took
  them, and how many (R604; notes/assumptions/62.md). -/
  remap : AMap (Nat × Nat) := []
  /-- Rows of 64 granules already taken from the top of the page area. -/
  taken : Nat := 0
  deriving DecidableEq, Repr

/-- An error-log entry (R629). -/
structure ErrEntry where
  seq : Word
  boot : Nat
  code : Nat
  stamp : Dword
  severity : Nat
  island : Nat
  func : Nat
  gen : BitVec 16
  addr : Nat
  count : Nat
  data : Bytes
  deriving DecidableEq, Repr

/-- An open 1 s window of a code (R632). -/
structure ErrWindow where
  code : Nat
  written : Nat
  suppressed : Nat
  last : Option ErrEntry
  deriving DecidableEq, Repr

/-- A counter snapshot (R622). -/
structure Snapshot where
  id : Nat
  stamp : Dword
  values : List (Word × Dword)
  deriving DecidableEq, Repr

structure SnapReq where
  chan : Nat
  seq : Nat
  at_ : Dword
  islands : Nat
  clear : Bool
  deriving DecidableEq, Repr

structure Gauge where
  errlog : List ErrEntry := []
  nextSeq : Word := 0
  windows : List ErrWindow := []
  traceSources : Dword := 0
  traceSlice : Nat := 0xFFF
  traceShift : Nat := 0
  traceMode : Nat := 0
  /-- TRACE_SIZE in force (R614). -/
  traceSize : Nat := 4
  traceRun : Bool := false
  traceFull : Bool := false
  traceWritten : Dword := 0
  /-- Records in the region by record number (R627). -/
  trace : AMap Bytes := []
  /-- Sources with records dropped since their last kept record (R628). -/
  lostBefore : List Nat := []
  /-- Frames seen per MAC source, for the 1 in 2^SHIFT sampling (R626). -/
  traceMac : AMap Nat := []
  snapReq : Option SnapReq := none
  snaps : List Snapshot := []
  nextSnap : Nat := 0
  sensors : AMap Int := []
  thermal : Nat := 0
  deriving DecidableEq, Repr

/-- The MCTP endpoint (R563 to R569). -/
structure Mctp where
  eid : Nat := 0
  /-- Message under assembly: source, tag and the bytes so far, the type octet first. -/
  assembly : Option (Nat × Nat × Bytes) := none
  nextSeq : Nat := 0
  /-- SPDM sessions in force, and those whose handshake is not finished (session identifiers, R602). -/
  sessions : List Nat := []
  handshakes : List Nat := []
  /-- Binding and SMBus address in force (R568). -/
  binding : Nat := 0
  addr : Nat := 0
  /-- MCTP_CONFIG's answer that restarts the endpoint when acknowledged (R568): channel and SEQ. -/
  restartPending : Option (Nat × Nat) := none
  /-- Assembled messages not yet handled, oldest first: source, the session that carried it (none in the clear), and the bytes, the type
  octet first. -/
  inbox : List (Nat × Option Nat × Bytes) := []
  /-- PLDM terminus identifier (DSP0240). -/
  tid : Nat := 0
  /-- The message on channel 2,056 last posted arrived in a session (R567). -/
  inSession : Bool := false
  badPackets : Nat := 0
  badMessages : Nat := 0
  deriving DecidableEq, Repr

/-- TAP instructions (R658). -/
inductive TapInstr where
  | reset | bypass | idcode | samplePreload | extest | highz | clamp | extestPulse | extestTrain
  deriving DecidableEq, Repr

/-- The read latch of a master in an island (R619): the pair's upper address and the latched value. -/
structure ReadLatch where
  master : Nat
  island : Nat
  addr : Nat
  value : Word
  deriving DecidableEq, Repr

/-- What the adapter put on its pins and links, newest last (the model's own record of its outputs). -/
inductive Output where
  /-- A posted memory write: endpoint, function, PASID, address, data (R435). -/
  | tlpWrite (ep func : Nat) (pasid : Option Nat) (relaxed ido : Bool) (addr : Nat) (data : Bytes)
  /-- A translation request (R443): endpoint, function, PASID, 4 KiB page. -/
  | translate (ep func : Nat) (pasid : Option Nat) (page : Nat)
  /-- A memory read request: endpoint, function, tag, address, length. -/
  | tlpRead (ep func : Nat) (pasid : Option Nat) (tag addr len : Nat)
  /-- An MSI-X message: the address and data of its table entry. -/
  | msix (ep func vec addr : Nat) (data : Word)
  | intx (ep : Nat) (asserted : Bool)
  /-- A completion of a host read: data, or Unsupported Request when none. -/
  | completion (ep func : Nat) (data : Option Bytes)
  | configCompletion (ep func : Nat)
  /-- Request Retry Status (R570, R584). -/
  | configRetry (ep func : Nat)
  | ltr (ep : Nat) (value : Word)
  | invalidateCpl (ep func : Nat)
  /-- A frame on a MAC: bytes with FCS, and whether its FCS is good (R351). -/
  | frame (mac : Nat) (bytes : Bytes) (good : Bool)
  /-- A non-final fragment (R371). -/
  | fragment (mac : Nat) (bytes : Bytes)
  /-- An Itwin message: TYPE and body (R286), a NAK, or a replay from SEQ. -/
  | itwMsg (type : Nat) (body : Bytes)
  | itwNak
  | itwReplay (seq : BitVec 16)
  | itwRetrain
  | mctp (type : Nat) (body : Bytes)
  | actOut (level : Bool)
  | aliveRelease (released : Bool)
  /-- A timed output edge: channel and level (R408). -/
  | tioEdge (chan : Nat) (active : Bool)
  | avsSetPoint (mv : Nat)
  | tapShift (value : Word)
  | doe (ep : Nat) (body : Bytes)
  /-- Response of a fabric read to its master: data, or a bus error (R32). -/
  | fabricRead (master : Nat) (data : Option Bytes)
  /-- Value returned by a register read to its master. -/
  | regRead (master : Nat) (value : Word)
  deriving DecidableEq, Repr

/-- The state of the adapter. -/
structure State where
  /-- Commands that wait, first in, first out. -/
  pending : List Instr
  dev : Device
  hw : Heartwood
  fw : Firmware
  flash : Flash
  role : Role
  slices : Slices
  mbx : Mailboxes
  mctp : Mctp
  ep0 : Endpoint
  ep1 : Endpoint
  rings : Rings
  pkts : AMap Pkt
  nextPid : Nat
  basin : Basin
  plane : Plane
  rasp : Rasp
  jig : Jig
  cst : Cistern
  sqr : Square
  act : ActUnit
  csc : Cascade
  twin : Twin
  prp : Prp
  itw : Itwin
  cry : Crypto
  nvt : Nvt
  port0 : Port
  port1 : Port
  macs : AMap MacState
  weir : Weir
  time : Timebase
  tio : AMap TioChan
  plb : Plumb
  ptp : Ptp
  hbm : Hbm
  gauge : Gauge
  tap : TapInstr
  /-- Island registers, VF page registers and counters away from their Reset value, by address (Machine/Regs.lean). -/
  regs : AMap Word
  latches : List ReadLatch
  /-- Bytes of the internal address space that have no other home (R30): HBM, head SRAM, engine local memories. -/
  mem : List Host.Cell
  /-- Outputs since reset, newest last. -/
  out : List Output
  /-- The model's own counter of free values drawn (Config.lean). -/
  fresh : Nat
  deriving DecidableEq, Repr

/-- Reasons a command stops with a fault. -/
inductive Fault where
  /-- Raised by nobody in this model so far as the manual gives every command an effect; kept for an operation outside
  the recommended conditions of R663, whose behaviour the manual does not specify. Safe: the machine only stops. -/
  | outsideRatings
  deriving DecidableEq, Repr

/-- Reasons a command is refused. -/
inductive Refusal where
  /-- Raised by an arm of `exec` whose meaning is not written yet. Safe: nothing is claimed of such a command. -/
  | notModelled (mnemonic : String)
  deriving DecidableEq, Repr

/-- The adapter with no supply power: mode OFF (R570), Heartwood and flash as shipped and empty, every block at its
reset value. SYS_RST_N is low (its ball has a pull-down, R644). -/
def State.reset : State where
  pending := []
  dev := {}
  hw := {}
  fw := {}
  flash := {}
  role := {}
  slices := {}
  mbx := {}
  mctp := {}
  ep0 := {}
  ep1 := {}
  rings := {}
  pkts := []
  nextPid := 0
  basin := {}
  plane := {}
  rasp := {}
  jig := {}
  cst := {}
  sqr := {}
  act := {}
  csc := {}
  twin := {}
  prp := {}
  itw := {}
  cry := {}
  nvt := {}
  port0 := {}
  port1 := {}
  macs := []
  weir := {}
  time := {}
  tio := []
  plb := {}
  ptp := {}
  hbm := {}
  gauge := {}
  tap := .reset
  regs := []
  latches := []
  mem := []
  out := []
  fresh := 0

end Sys2Proof.Machine
end

