-- ==== Sys2Proof/Machine/Regs.lean ====
section
/-! DEFINITION. Raw registers, counters and Heartwood words: lookup of a register by address, its Reset value, the RC and
wrapping counters (R58 to R60), and the persistent words with their as-shipped values (R608 to R616). -/

namespace Sys2Proof.Machine

open Sys2Proof

/-- Indices of the copies of a block or register at relative offset `rem`, and what is left of the offset. -/
def dimIndex : List (Nat × Nat) → Nat → Option (List Nat × Nat)
  | [], rem => some ([], rem)
  | (stride, count) :: ds, rem =>
    let i := rem / stride
    if i < count then
      match dimIndex ds (rem % stride) with
      | some (is, r) => some (i :: is, r)
      | none => none
    else none

/-- A register found at an address: its description, the indices of its block and its own indices. -/
structure RegHit where
  desc : RegDesc
  block : List Nat
  index : List Nat
  deriving DecidableEq, Repr

def regInBlock (block : List Nat) (off : Nat) : List RegDesc → Option RegHit
  | [] => none
  | r :: rs =>
    if r.off ≤ off then
      match dimIndex r.dims (off - r.off) with
      | some (is, 0) => some { desc := r, block := block, index := is }
      | _ => regInBlock block off rs
    else regInBlock block off rs

def regFindIn (a : Nat) : List RegBlock → Option RegHit
  | [] => none
  | b :: bs =>
    if b.base ≤ a then
      match dimIndex b.dims (a - b.base) with
      | some (is, off) => if off < b.span then regInBlock is off b.regs else regFindIn a bs
      | none => regFindIn a bs
    else regFindIn a bs

/-- The register at an address (R30 and the chapters' tables). -/
def regFind (a : Nat) : Option RegHit := regFindIn a regBlocks

/-- The Reset value of the register at an address. -/
def regReset (a : Nat) : Word :=
  match regFind a with
  | some h => BitVec.ofNat 32 h.desc.reset
  | none => 0

/-- The stored bits of a register: its Reset value until something changes it. -/
def reg (s : State) (a : Nat) : Word :=
  match mapGet s.regs a with
  | some v => v
  | none => regReset a

def setReg (s : State) (a : Nat) (v : Word) : State := { s with regs := mapSet s.regs a v }

/-- Sets sticky bits of a register (R58). -/
def setBits (s : State) (a : Nat) (m : Word) : State := setReg s a (reg s a ||| m)

/-- The value of a counter; a counter's Reset is 0. -/
def counter (s : State) (a : Nat) : Word := mapGetD s.regs a 0

/-- Adds `n` to a 32-bit counter that saturates at 0xFFFF_FFFF (R58, R60). -/
def bumpBy (s : State) (a n : Nat) : State :=
  setReg s a (BitVec.ofNat 32 (min ((counter s a).toNat + n) 0xFFFFFFFF))

/-- Counts one event (R60). -/
def bump (s : State) (a : Nat) : State := bumpBy s a 1

/-- The value of a 64-bit counter whose lower word is at `a` (R8). -/
def counter64 (s : State) (a : Nat) : Nat := (counter s a).toNat + 4294967296 * (counter s (a + 4)).toNat

/-- Adds `n` to a 64-bit wrapping counter (R58, R59). -/
def bump64 (s : State) (a n : Nat) : State :=
  let v := counter64 s a + n
  setReg (setReg s a (BitVec.ofNat 32 v)) (a + 4) (BitVec.ofNat 32 (v / 4294967296))

/-- First-error capture (R61): records `v` and the valid bit 31 only while the valid bit is clear. -/
def capture (s : State) (a : Nat) (v : Nat) : State :=
  if (reg s a).getLsbD 31 then s else setReg s a (BitVec.ofNat 32 (v % 2147483648 + 2147483648))

/-- A field of a register's stored value. -/
def regField (s : State) (a hi lo : Nat) : Nat := bits (reg s a).toNat hi lo

/-- Registers of the RWP views by Heartwood word (R608, R614, R615): as-shipped values of the map. -/
def hwShipped (w : Nat) : Word :=
  if w = 0 then 0x48570001#32
  else if w = 1 ∨ w = 2 then 0x00001F7C#32
  else if w = 4 then 0x00014C00#32
  else if w = 5 then 16#32
  else if w = 7 then 0x00006964#32
  else if w = 8 then 4#32
  else if w = 0x032 then 0x00030064#32
  else if w = 0x038 then 60#32
  else if w = 0x040 then 1000#32
  else if 0x041 ≤ w ∧ w ≤ 0x048 then 300#32
  else if w = 0x049 then 8#32
  else if w = 0x04A then 1000#32
  else if w = 0x04B then 60#32
  else if w = 0x082 then 0x20#32
  else if w = 0x084 then 0x10#32
  else if w = 0x086 then 0x1#32
  else if w = 0x088 then 0x800#32
  else if w = 0x08A then 0x1000#32
  else if w = 0x08B then 1000#32
  else if w = 0x08C then 50#32
  else if w = 0x08D then 100#32
  else if w = 0x08E then 1000#32
  else if 0x090 ≤ w ∧ w ≤ 0x0D3 then Config.partLatency w
  else if w = 0x0DB then 0x00FEF880#32
  else if w = 0x0DC then 0x0000FFFF#32
  else if 0x100 ≤ w ∧ w ≤ 0x13F ∧ w % 4 = 1 then 0x00030000#32
  else if 0x100 ≤ w ∧ w ≤ 0x13F ∧ w % 4 = 2 then 800#32
  else 0#32

/-- Bits of a word that the map gives a meaning; the other bits, and words not listed, are RSV (R614, R615). -/
def hwMask (w : Nat) : Nat :=
  if w = 0 ∨ w = 1 ∨ w = 2 then 0xFFFFFFFF
  else if w = 3 then 0x3
  else if w = 4 then 0x00017F01
  else if w = 5 ∨ w = 8 then 0x1F
  else if w = 6 then 0x1
  else if w = 7 then 0xFFFF
  else if w = 0x010 then 0xF
  else if w = 0x011 ∨ w = 0x012 then 0x7
  else if w = 0x013 ∨ w = 0x014 ∨ w = 0x015 ∨ w = 0x016 ∨ w = 0x017 ∨ w = 0x021 ∨ w = 0x022 ∨ w = 0x023 ∨ w = 0x027 then
    0xFFFFFFFF
  else if w = 0x018 ∨ w = 0x024 ∨ w = 0x028 ∨ w = 0x029 then 0xF
  else if w = 0x020 then 0x3
  else if w = 0x025 then 0xFFFFFF
  else if w = 0x026 then 0xFFFF
  else if w = 0x030 then 0x2
  else if w = 0x031 then 0xFFFF
  else if w = 0x032 then 0xFFFFF
  else if w = 0x038 then 0x7F
  else if w = 0x040 ∨ w = 0x04A then 0x3FFF
  else if 0x041 ≤ w ∧ w ≤ 0x048 then 0xFFFF
  else if w = 0x049 then 0xF
  else if w = 0x04B then 0xFFF
  else if 0x050 ≤ w ∧ w ≤ 0x06F then (if w % 2 = 0 then 0xFFFFFFFF else 0xFFFF)
  else if w = 0x082 then 0xFF
  else if w = 0x08C ∨ w = 0x08D ∨ w = 0x08E then 0xFFFF
  else if 0x080 ≤ w ∧ w ≤ 0x0D3 then 0xFFFFFFFF
  else if w = 0x0D8 then 0xFF7F
  else if w = 0x0D9 ∨ w = 0x0DA ∨ w = 0x0DB then 0xFFFFFFFF
  else if w = 0x0DC then 0xFFFF
  else if 0x0DD ≤ w ∧ w ≤ 0x0E0 then 0xFFFFFFFF
  else if 0x100 ≤ w ∧ w ≤ 0x13F then
    (if w % 4 = 0 then 0xFFFFFF08 else if w % 4 = 1 then 0xFFFFF else if w % 4 = 2 then 0xFFFFFFFF else 0)
  else if 0x180 ≤ w ∧ w ≤ 0x1FF then 0xFFFFFFFF
  else if w = 0x200 then 0x1FFFF
  else if 0x201 ≤ w ∧ w ≤ 0x239 then 0xFFFFFFFF
  else if 0x3C0 ≤ w ∧ w ≤ 0x3FF then 0xFFFFFFFF
  else 0

/-- Whether a word's view accepts a value (R608): the ranges its register's description states. -/
def hwAccepts (w v : Nat) : Bool :=
  if w = 0x005 then decide (1 ≤ v ∧ v ≤ 16)
  else if w = 0x008 then decide (1 ≤ v ∧ v ≤ 16)
  else if w = 0x032 then decide (10 ≤ bits v 15 0 ∧ bits v 15 0 ≤ 10000 ∧ 2 ≤ bits v 19 16)
  else if w = 0x038 then decide (60 ≤ v ∧ v ≤ 124)
  else if w = 0x040 then decide (100 ≤ v ∧ v ≤ 10000)
  else if 0x041 ≤ w ∧ w ≤ 0x048 then decide (v ≤ 36000)
  else if w = 0x049 then decide (v ≠ 0)
  else if w = 0x04A then decide (1 ≤ v ∧ v ≤ 10000)
  else if w = 0x04B then decide (v ≤ 3600)
  else if w = 0x082 then decide (bits v 2 1 ≠ 3 ∧ bits v 6 3 ≤ 8)
  else true

/-- The value a word holds. -/
def hwWord (s : State) (w : Nat) : Word :=
  match mapGet s.hw.words w with
  | some v => v
  | none => hwShipped w

/-- The value a block takes from a word: the as-shipped value when the word is out of its view's range (R612). -/
def hwUse (s : State) (w : Nat) : Nat :=
  if hwAccepts w (hwWord s w).toNat then (hwWord s w).toNat else (hwShipped w).toNat

/-- Counts the use of a word held out of its view's range (R612). -/
def hwCount (s : State) (w : Nat) : State :=
  if hwAccepts w (hwWord s w).toNat then s else bump s r_HWD_CNT_RANGE

/-- Completes the write of a word: it is persistent from here (R11, R609). RSV bits are not stored (R10). -/
def hwSet (s : State) (w : Nat) (v : Word) : State :=
  let v := BitVec.ofNat 32 (v.toNat &&& hwMask w)
  { s with hw := { s.hw with
      words := if v = hwShipped w then mapErase s.hw.words w else mapSet s.hw.words w v
      writes := s.hw.writes + 1 } }

/-- Writes one field of a word. -/
def hwSetField (s : State) (w hi lo v : Nat) : State :=
  hwSet s w (BitVec.ofNat 32 (putBits (hwWord s w).toNat hi lo v))

/-- Writes words in ascending order, as a journalled group ends (R618). -/
def hwSetAll (s : State) (w : Nat) : List Word → State
  | [] => s
  | v :: vs => hwSetAll (hwSet s w v) (w + 1) vs

/-- Writes a group of words through the journal (R617, R618): a command that writes more than one word does so. -/
def hwJournal (s : State) (w : Nat) (ws : List Word) : State :=
  let s := hwSetAll s 0x202 ws
  let s := hwSet s 0x201 (crc32c (ws.flatMap (fun x => toLe 4 x.toNat)))
  let s := hwSet s 0x200 (BitVec.ofNat 32 (w + 1024 * ws.length + 65536))
  hwSet (hwSetAll s w ws) 0x200 0

/-- A field of a word. -/
def hwField (s : State) (w hi lo : Nat) : Nat := bits (hwWord s w).toNat hi lo

/-- A 64-bit value held in words `w` and `w + 1`. -/
def hwPair (s : State) (w : Nat) : Nat := (hwUse s w) + 4294967296 * hwUse s (w + 1)

end Sys2Proof.Machine
end

