-- ==== Sys2Proof/Machine/Ops.lean ====
section
/-! DEFINITION. Shared operations of the machine: outputs, functions and slices, the reported mode, interrupts that fall due,
trace records, events to the host, the error log with its windows and summary, and the answer of a command. -/

namespace Sys2Proof.Machine

open Sys2Proof

/-- A meaning that always completes: the block goes on in the given state. -/
abbrev done (s : State) : Host.Outcome State Fault Refusal := .next s

/-- Puts an output on the pins, links or buses. -/
def emit (s : State) (o : Output) : State := { s with out := s.out ++ [o] }

/-- The number of the next free value; `step` of the counter is `drawn`. -/
def drawn (s : State) : State := { s with fresh := s.fresh + 1 }

/-! Time (R64, R379). -/

/-- The visible 32-bit fraction: the 56-bit fraction truncated (R54). -/
def visibleFrac (t : TimeVal) : Nat := t.frac.toNat / 2 ^ 24

/-- Compact stamp of a time value (R64). -/
def stampOf (t : TimeVal) : Dword :=
  BitVec.ofNat 64 ((t.s.toNat * 1000000000 + t.ns.toNat) * 256 + t.frac.toNat / 2 ^ 48)

/-- The compact stamp of now. -/
def stampNow (s : State) : Dword := stampOf s.time.now

/-! Endpoints, functions, slices and channels (R498, R553). -/

def epGet (s : State) (ep : Nat) : Endpoint := if ep = 0 then s.ep0 else s.ep1

def epSet (s : State) (ep : Nat) (e : Endpoint) : State := if ep = 0 then { s with ep0 := e } else { s with ep1 := e }

def epMod (s : State) (ep : Nat) (f : Endpoint → Endpoint) : State := epSet s ep (f (epGet s ep))

/-- A function of an endpoint: 0 PF0, 1 to 1,024 VF. -/
def fnGet (s : State) (ep f : Nat) : Func := mapGetD (epGet s ep).funcs f {}

def fnSet (s : State) (ep f : Nat) (v : Func) : State := epMod s ep (fun e => { e with funcs := mapSet e.funcs f v })

def fnMod (s : State) (ep f : Nat) (g : Func → Func) : State := fnSet s ep f (g (fnGet s ep f))

/-- The slice number of a function (R553). -/
def sliceOfFunc (ep f : Nat) : Nat := if f = 0 then ep else if ep = 0 then 1 + f else 1025 + f

/-- Endpoint and function of a slice number (R553). -/
def funcOfSlice (n : Nat) : Nat × Nat := if n < 2 then (n, 0) else if n ≤ 1025 then (0, n - 1) else (1, n - 1025)

def sliceGet (s : State) (n : Nat) : Option Slice := mapGet s.slices.tab n

def sliceMod (s : State) (n : Nat) (g : Slice → Slice) : State :=
  { s with slices := { s.slices with tab := mapUpdate s.slices.tab n g } }

/-- The slice bound to a function and not being destroyed (R425, R559). -/
def boundSlice (s : State) (ep f : Nat) : Option Slice :=
  match sliceGet s (sliceOfFunc ep f) with
  | some x => if x.destroying then none else some x
  | none => none

/-- The channel of a VF (R498). -/
def chanOfVf (ep v : Nat) : Nat := if ep = 0 then 7 + v else 1031 + v

/-- Endpoint and function of the host side of a channel; none for channel 2,056 (R498). -/
def funcOfChan (ch : Nat) : Option (Nat × Nat) :=
  if ch < 8 then some (ch / 4, 0)
  else if ch ≤ 1031 then some (0, ch - 7)
  else if ch ≤ 2055 then some (1, ch - 1031)
  else none

/-- Channels 0, 1, 4, 5 and 2,056 are secure (R498). -/
def chanSecure (ch : Nat) : Bool := ch = 0 || ch = 1 || ch = 4 || ch = 5 || ch = 2056

/-- Default event mask of a channel (R548). -/
def defaultMask (ch : Nat) : Word :=
  if ch = 2 ∨ ch = 6 ∨ (8 ≤ ch ∧ ch ≤ 2055) then 0x00000FFE#32 else 0#32

/-- A channel at the end of HELD (R504, R548). -/
def chanReset (ch : Nat) : MbxChan := { mask := defaultMask ch }

def chanGet (s : State) (ch : Nat) : MbxChan := mapGetD s.mbx.chans ch (chanReset ch)

def chanSet (s : State) (ch : Nat) (c : MbxChan) : State :=
  { s with mbx := { s.mbx with chans := mapSet s.mbx.chans ch c } }

def chanMod (s : State) (ch : Nat) (g : MbxChan → MbxChan) : State := chanSet s ch (g (chanGet s ch))

def qpKey (ep g : Nat) : Nat := ep * 8192 + g

def qpGet (s : State) (ep g : Nat) : QPair := mapGetD s.rings.qps (qpKey ep g) {}

def qpSet (s : State) (ep g : Nat) (q : QPair) : State :=
  { s with rings := { s.rings with qps := mapSet s.rings.qps (qpKey ep g) q } }

def qpMod (s : State) (ep g : Nat) (h : QPair → QPair) : State := qpSet s ep g (h (qpGet s ep g))

/-- Global queue pair of a function's local queue pair, when the slice has it. -/
def globalQp (s : State) (ep f q : Nat) : Option Nat :=
  match boundSlice s ep f with
  | some x => if q < x.qpCount then some (x.qpBase + q) else none
  | none => none

def macGet (s : State) (m : Nat) : MacState := mapGetD s.macs m {}

def macSet (s : State) (m : Nat) (x : MacState) : State := { s with macs := mapSet s.macs m x }

def macMod (s : State) (m : Nat) (g : MacState → MacState) : State := macSet s m (g (macGet s m))

def pktGet (s : State) (p : Nat) : Option Pkt := mapGet s.pkts p

def pktSet (s : State) (p : Nat) (k : Pkt) : State := { s with pkts := mapSet s.pkts p k }

def pktMod (s : State) (p : Nat) (g : Pkt → Pkt) : State := { s with pkts := mapUpdate s.pkts p g }

def pktErase (s : State) (p : Nat) : State := { s with pkts := mapErase s.pkts p }

def clusterGet (s : State) (q : Nat) : Cluster := mapGetD s.csc.clusters q {}

def clusterSet (s : State) (q : Nat) (c : Cluster) : State :=
  { s with csc := { s.csc with clusters := mapSet s.csc.clusters q c } }

def clusterMod (s : State) (q : Nat) (g : Cluster → Cluster) : State := clusterSet s q (g (clusterGet s q))

/-- Island-local engine at a position of cluster `q` (rail × 4 + cluster): 8c + p until substituted (R205); 0xFF for none. -/
def clusterEngine (s : State) (q p : Nat) : Nat := ((clusterGet s q).map[p]?).getD (8 * (q % 4) + p)

/-! The reported mode (R570, R571). -/

def baseCode : BaseMode → Nat
  | .off => 0
  | .held => 1
  | .boot => 2
  | .restricted => 3
  | .provision => 4
  | .service => 5
  | .quiescent => 11

/-- A retired unit is not replaced (R571, R603). -/
def degraded (s : State) : Bool :=
  decide ((hwWord s 0x020).toNat ≠ 0 ∨ (hwWord s 0x025).toNat ≠ 0 ∨ (hwWord s 0x015).toNat ≠ 0 ∨ (hwWord s 0x016).toNat ≠ 0 ∨
    (hwWord s 0x026).toNat ≠ 0 ∨ (hwWord s 0x027).toNat ≠ 0 ∨ (hwWord s 0x028).toNat ≠ 0 ∨ hwField s 0x011 2 1 ≠ 0) ||
  s.csc.clusters.any (fun c => c.2.map.any (fun e => e = 0xFF))

def handoverOn (s : State) : Bool := s.fw.handover.isSome

/-- STANDBY: Itwin enabled and the grant 0, in PROVISION or SERVICE (R571). -/
def standby (s : State) : Bool := s.itw.enable && !s.itw.grant && (s.dev.base = .provision || s.dev.base = .service)

/-- CONDITIONS as DEVICE_MODE_QUERY reports them (R605). -/
def conditions (s : State) : Nat :=
  b2n (degraded s) + 2 * b2n (handoverOn s) + 4 * b2n s.role.headless + 8 * b2n s.dev.isolated + 16 * b2n (standby s)

/-- The reported mode (R571). -/
def reportedMode (s : State) : Nat :=
  if s.dev.base = .off ∨ s.dev.base = .held ∨ s.dev.base = .boot then baseCode s.dev.base
  else if handoverOn s then 7
  else if s.dev.base = .quiescent ∨ s.dev.base = .restricted then baseCode s.dev.base
  else if s.role.headless then 8
  else if s.dev.isolated then 9
  else if standby s then 10
  else if degraded s then 6
  else baseCode s.dev.base

/-- The datapath runs in full (R570). -/
def running (s : State) : Bool := s.dev.base = .provision || s.dev.base = .service

/-- The datapath runs, in full or on the fixed basic path (R570, R591). -/
def datapathOn (s : State) : Bool := running s || s.dev.base = .restricted

/-! The manager role (R525). -/

/-- Endpoint of the holder; none when no PF0 holds the role. -/
def holderEp (s : State) : Option Nat :=
  match s.role.holder with
  | .home => some s.role.homeEp
  | .alternate => some (1 - s.role.homeEp)
  | .none => none

def holderCode : Holder → Nat
  | .home => 0
  | .alternate => 1
  | .none => 2

/-! Vectors and event bits (R432 to R434, R459). -/

/-- Vectors of a function: the number its slice names (R431). -/
def vecCount (s : State) (ep f : Nat) : Nat :=
  match sliceGet s (sliceOfFunc ep f) with
  | some x => x.vecCount
  | none => 0

/-- A message of a vector falls due (R432): the function has the vector, and MSI-X is enabled or containment has reset its enable. -/
def dueVec (s : State) (ep f v : Nat) : State :=
  let g := fnGet s ep f
  if (g.msixEnable ∨ (epGet s ep).contained) ∧ v < vecCount s ep f ∧ ¬ v ∈ g.due then fnSet s ep f { g with due := g.due ++ [v] } else s

/-- Sets a cause bit of HIF_MGR_EVENT; an enabled bit that becomes set while no other enabled bit is set sends the vector (R434). -/
def mgrEvent (s : State) (ep bit : Nat) : State :=
  let a := r_HIF_MGR_EVENT ep
  let old := (reg s a).toNat
  let en := (reg s (r_HIF_MGR_EVENT_EN ep)).toNat
  let s' := setBits s a (BitVec.ofNat 32 (2 ^ bit))
  if bitAt en bit ∧ ¬ bitAt old bit ∧ old &&& en = 0 then dueVec s' ep 0 (reg s (r_HIF_MGR_EVENT_VEC ep)).toNat else s'

/-- Sets a cause bit of HIF_VF_EVENT, as R459 states for its vector. -/
def vfEvent (s : State) (ep v bit : Nat) : State :=
  let a := r_HIF_VF_EVENT ep v
  let old := (reg s a).toNat
  let en := (reg s (r_HIF_VF_EVENT_EN ep v)).toNat
  let s' := setBits s a (BitVec.ofNat 32 (2 ^ bit))
  if bitAt en bit ∧ ¬ bitAt old bit ∧ old &&& en = 0 then dueVec s' ep v (reg s (r_HIF_VF_EVENT_VEC ep v)).toNat else s'

/-- VFs of an endpoint that the state knows: enabled by the host or bound to a slice. -/
def vfsOf (s : State) (ep : Nat) : List Nat :=
  let fs := ((epGet s ep).funcs.map (fun p => p.1)).filter (fun f => f ≠ 0)
  let xs := (s.slices.tab.filter (fun p => p.2.ep = ep && p.2.func ≠ 0)).map (fun p => p.2.func)
  fs ++ xs.filter (fun f => !fs.contains f)

def vfEventAll (s : State) (bit : Nat) : State :=
  let s := (vfsOf s 0).foldl (fun s v => vfEvent s 0 v bit) s
  (vfsOf s 1).foldl (fun s v => vfEvent s 1 v bit) s

def mgrEventBoth (s : State) (bit : Nat) : State := mgrEvent (mgrEvent s 0 bit) 1 bit

/-! Trace (R624 to R628). -/

/-- Records the trace region holds (R627). -/
def traceCapacity (s : State) : Nat := s.gauge.traceSize * 8388608

/-- Writes a trace record when the trace runs and the source, slice and sampling filters keep it (R626). `flags` holds TWIN
and RAIL_B; `sample` is the number the sampling of the source takes: the flow hash, or the MAC's frame count. -/
def trace (s : State) (source kind flags slice sample : Nat) (data : Bytes) : State :=
  let g := s.gauge
  if g.traceRun ∧ g.traceSources.getLsbD source ∧ (g.traceSlice = 0xFFF ∨ slice = 0xFFF ∨ slice = g.traceSlice) ∧
      sample % 2 ^ g.traceShift = 0 then
    let n := g.traceWritten.toNat
    let cap := traceCapacity s
    let lost := source ∈ g.lostBefore
    let r := toLe 8 (stampNow s).toNat ++ toLe 1 source ++ toLe 1 kind ++ toLe 1 (flags + 4 * b2n lost) ++ toLe 1 0 ++
      toLe 2 slice ++ toLe 2 0 ++ fit data 16
    let g := { g with trace := mapSet g.trace (n % cap) r, traceWritten := g.traceWritten + 1,
                      lostBefore := g.lostBefore.filter (fun x => x ≠ source) }
    if g.traceMode = 1 ∧ n + 1 = cap then
      setBits { s with gauge := { g with traceRun := false, traceFull := true } } r_GAU_TRACE_STATUS 4#32
    else { s with gauge := g }
  else s

/-! Events (R521, R535, R548). -/

/-- Queues an event for a channel that enables its class; an event dropped under R521 consumes a sequence value (R535). -/
def queueEvent (s : State) (ch code : Nat) (payload : Bytes) : State :=
  let c := chanGet s ch
  if bitAt c.mask.toNat (code / 256 % 16) then
    if 8 ≤ c.queue.length then
      bump (chanSet s ch { c with evSeq := c.evSeq + 1, dropped := min (c.dropped + 1) 0xFFFFFFFF }) r_MBX_CNT_EVENT_DROP
    else
      trace (chanSet s ch { c with evSeq := c.evSeq + 1,
                                   queue := c.queue ++ [{ opcode := code, seq := c.evSeq.toNat, payload := payload, event := true,
                                                          session := ch = 2056 && s.mctp.inSession }] })
        36 2 0 0xFFF 0 (toLe 2 ch ++ toLe 2 code)
  else s

/-- Lowest-numbered channel of a PF0 whose mask enables the event (R548). -/
def eventChan (s : State) (ep code : Nat) : Option Nat :=
  [4 * ep, 4 * ep + 1, 4 * ep + 2, 4 * ep + 3].find? (fun ch => bitAt (chanGet s ch).mask.toNat (code / 256 % 16))

def eventToPf0 (s : State) (ep code : Nat) (payload : Bytes) : State :=
  match eventChan s ep code with
  | some ch => queueEvent s ch code payload
  | none => s

/-- An event sent to the manager: once on the holder's channel, with a copy to channel 2,056 (R548). -/
def eventToManager (s : State) (code : Nat) (payload : Bytes) : State :=
  let s := match holderEp s with
    | some ep => eventToPf0 s ep code payload
    | none => s
  queueEvent s 2056 code payload

/-- An event addressed to a function (R548). -/
def eventToFunc (s : State) (ep f code : Nat) (payload : Bytes) : State :=
  if f = 0 then eventToPf0 s ep code payload else queueEvent s (chanOfVf ep f) code payload

/-! The error log (R629 to R634). -/

/-- Severity of a code (R631); `data` distinguishes the crossings of THERMAL. -/
def errSeverity (code : Nat) (data : Bytes) : Nat :=
  if code = 0x0120 ∨ code = 0x0121 ∨ code = 0x0161 then 1
  else if code = 0x0101 ∨ code = 0x0122 ∨ code = 0x0130 ∨ code = 0x0131 ∨ code = 0x0132 ∨ code = 0x0142 ∨ code = 0x0160 ∨
      code = 0x0162 then 2
  else if code = 0x0140 then 0
  else if code = 0x0150 ∨ code = 0x0151 ∨ code = 0x0152 then 4
  else if code = 0x0180 then (if byteAt data 5 = 1 then 3 else 2)
  else 3

/-- FUNC field of an entry (R629). -/
def errFunc (ep f : Nat) : Nat := f + 2048 * ep

/-- The 64 bytes of an entry (R629). -/
def errBytes (e : ErrEntry) : Bytes :=
  toLe 4 e.seq.toNat ++ toLe 2 e.boot ++ toLe 2 e.code ++ toLe 8 e.stamp.toNat ++ toLe 1 e.severity ++ toLe 1 e.island ++
    toLe 2 e.func ++ toLe 2 e.gen.toNat ++ toLe 2 0 ++ toLe 8 e.addr ++ toLe 4 e.count ++ toLe 4 0 ++ fit e.data 24

/-- Writes a summary slot and advances ERRSUM_NEXT (R633). -/
def errSummary (s : State) (e : ErrEntry) : State :=
  let n := hwField s 0x018 3 0
  let ws := [e.seq, BitVec.ofNat 32 (e.boot + 65536 * e.code), BitVec.ofNat 32 e.stamp.toNat,
    BitVec.ofNat 32 (e.stamp.toNat / 4294967296), BitVec.ofNat 32 (e.severity + 256 * e.island + 65536 * e.func),
    BitVec.ofNat 32 e.addr, BitVec.ofNat 32 (e.addr / 4294967296), BitVec.ofNat 32 e.count]
  hwSet (hwSetAll s (0x180 + 8 * n) ws) 0x018 (BitVec.ofNat 32 ((n + 1) % 16))

/-- The log is full: its oldest entry gives way (R629). -/
def errFull (s : State) : Bool := decide (4096 ≤ s.gauge.errlog.length)

/-- An entry joins the log, under the next SEQ (R629). -/
def errPut (s : State) (e : ErrEntry) : State :=
  { s with gauge := { s.gauge with
      errlog := (if errFull s then s.gauge.errlog.drop 1 else s.gauge.errlog) ++ [e]
      nextSeq := s.gauge.nextSeq + 1 } }

/-- An entry that gave way is counted (R629). -/
def errLost (s : State) (full : Bool) : State := if full then bump s r_GAU_ERRLOG_LOST else s

/-- The summary takes an entry of severity 3 or more (R633). -/
def errSum (s : State) (e : ErrEntry) : State := if 3 ≤ e.severity then errSummary s e else s

/-- The notice of an entry of EVENT_MIN or more (R634). -/
def errNotice (s : State) (e : ErrEntry) : State :=
  if regField s r_GAU_ERRLOG_CTRL 2 0 ≤ e.severity then
    eventToManager (mgrEventBoth s 5) 0x8A20 (toLe 4 e.seq.toNat ++ toLe 1 e.severity ++ toLe 1 e.island ++ toLe 2 e.code)
  else s

/-- Writes an entry: the log, the summary from severity 3, and the notice from EVENT_MIN (R629, R633, R634). -/
def errWrite (s : State) (e : ErrEntry) : State :=
  let e := { e with seq := s.gauge.nextSeq }
  errNotice (errSum (errLost (errPut s e) (errFull s)) e) e

/-- An occurrence of a code (R632): written while fewer than 64 of its window are, and suppressed after that. -/
def errlogGen (s : State) (code island func : Nat) (gen : BitVec 16) (addr : Nat) (data : Bytes) : State :=
  let e : ErrEntry :=
    { seq := 0, boot := hwField s 0x017 15 0, code := code, stamp := stampNow s, severity := errSeverity code data,
      island := island, func := func, gen := gen, addr := addr, count := 1, data := data }
  match s.gauge.windows.find? (fun w => w.code = code) with
  | none =>
    errWrite { s with gauge := { s.gauge with
      windows := s.gauge.windows ++ [{ code := code, written := 1, suppressed := 0, last := none }] } } e
  | some w =>
    let put := fun (w' : ErrWindow) =>
      { s with gauge := { s.gauge with windows := s.gauge.windows.map (fun x => if x.code = code then w' else x) } }
    if w.written < 64 then errWrite (put { w with written := w.written + 1 }) e
    else bump (put { w with suppressed := w.suppressed + 1, last := some e }) r_GAU_ERRLOG_SUPPRESSED

def errlog (s : State) (code island func addr : Nat) (data : Bytes) : State := errlogGen s code island func 0 addr data

/-! Reported mode changes (R606). -/

/-- What a change of the reported mode sets and logs (R459, R455, R605, R631). -/
def modeLogged (s : State) (old new : Nat) : State :=
  trace (errlog (vfEventAll (mgrEventBoth { s with dev := { s.dev with since := stampNow s } } 4) 1) 0x0140 11 0xFFFF 0
    (toLe 1 old ++ toLe 1 new)) 36 3 0 0xFFF 0 (toLe 1 old ++ toLe 1 new)

/-- Tells the manager of a mode, with the conditions and a cause (R606). -/
def modeTold (s : State) (old new cause : Nat) : State :=
  eventToManager s 0x8140 (toLe 1 old ++ toLe 1 new ++ toLe 1 (conditions s) ++ toLe 1 cause)

/-- Reports a change of the reported mode or of the conditions since `before` (R606, R459, R455, R631). -/
def noteMode (before s : State) (cause : Nat) : State :=
  let old := reportedMode before
  let new := reportedMode s
  if old = new ∧ conditions before = conditions s then s
  else modeTold (if old = new then s else modeLogged s old new) old new cause

/-- Reports a retirement (R603, R606, R631). -/
def noteRetired (s : State) (kind cause index shortfall island : Nat) : State :=
  let s := errlog s 0x0141 island 0xFFFF 0 (toLe 1 kind ++ toLe 2 index)
  eventToManager s 0x8142 (toLe 1 kind ++ toLe 1 cause ++ toLe 2 index ++ toLe 4 shortfall)

/-! Answers (R532, R533, R541). -/

/-- CRC of a request as the journal keeps it: CRC-32C of its payload bytes (R541). -/
def requestCrc (req : Bytes) : Word := crc32c req

/-- The messages of a response (R533): parts of 248 bytes with MORE, then the rest with the return code. -/
def responseParts (seq code : Nat) (session : Bool) : Nat → Bytes → List OutMsg
  | 0, body => [{ opcode := code, seq := seq, payload := body, event := false, session := session }]
  | n + 1, body =>
    if body.length ≤ 248 then [{ opcode := code, seq := seq, payload := body, event := false, session := session }]
    else { opcode := 4, seq := seq, payload := body.take 248, event := false, session := session } ::
      responseParts seq code session n (body.drop 248)

/-- Queues a response without a journal entry (R541: STALE_GENERATION and resends make none). -/
def queueResponse (s : State) (ch seq code : Nat) (session : Bool) (body : Bytes) : State :=
  chanMod s ch (fun c => { c with queue := c.queue ++ responseParts seq code session body.length body })

/-- Sets the journal entry of a SEQ, keeping the last 64 (R541). -/
def journalPut (j : List Journal) (e : Journal) : List Journal :=
  if j.any (fun x => x.seq = e.seq) then j.map (fun x => if x.seq = e.seq then e else x)
  else (if 64 ≤ j.length then j.drop 1 else j) ++ [e]

/-- Answers a command: the journal entry becomes DONE, a checkpoint is written, and the response is queued (R541, R593). -/
def finish (s : State) (ch seq opcode : Nat) (req : Bytes) (session : Bool) (code : Nat) (body : Bytes) : State :=
  let s := chanMod s ch (fun c =>
    { c with journal := journalPut c.journal { seq := seq, opcode := opcode, crc := requestCrc req, done := some (code, body) },
             started := c.started.filter (fun x => x.seq ≠ seq) })
  let s := { s with fw := { s.fw with ckptStamp := stampNow s } }
  let s := trace s 36 1 0 0xFFF 0 (toLe 2 ch ++ toLe 2 opcode ++ toLe 1 seq ++ toLe 1 0 ++ toLe 2 code)
  queueResponse s ch seq code session body

/-- The started, not yet running command of a SEQ, when its opcode is `op` (R536). -/
def startedCmd (s : State) (ch seq op : Nat) : Option Started :=
  (chanGet s ch).started.find? (fun x => x.seq = seq && x.opcode = op && !x.running)

/-- Answers the started command of a SEQ, running or not. -/
def answer (s : State) (ch seq code : Nat) (body : Bytes) : State :=
  match (chanGet s ch).started.find? (fun x => x.seq = seq) with
  | some x => finish s ch seq x.opcode x.req x.session code body
  | none => s

/-- A deferred command begins to run: its journal entry is RUNNING (R541). -/
def defer (s : State) (ch seq : Nat) : State :=
  chanMod s ch (fun c =>
    match c.started.find? (fun x => x.seq = seq) with
    | some x =>
      { c with journal := journalPut c.journal { seq := seq, opcode := x.opcode, crc := requestCrc x.req, done := none },
               started := c.started.map (fun y => if y.seq = seq then { y with running := true } else y) }
    | none => c)


/-- Return codes (R545). -/
def rcOk : Nat := 0x0000
def rcBusy : Nat := 0x0001
def rcBusyVersion : Nat := 0x0002
def rcBadParam : Nat := 0x0010
def rcNoResource : Nat := 0x0011
def rcNotPermitted : Nat := 0x0012
def rcBadOpcode : Nat := 0x0013
def rcBadLength : Nat := 0x0014
def rcWrongMode : Nat := 0x0015
def rcStale : Nat := 0x0020
def rcSeqConflict : Nat := 0x0021
def rcSessionRequired : Nat := 0x0022
def rcRestricted : Nat := 0x00F0
def rcInternal : Nat := 0x00FF

/-- Runs the body of a command on its request, whose reserved fields are 0 (notes/assumptions/13.md); a command that was not
started changes nothing (notes/assumptions/4.md). -/
def command (s : State) (ch seq op : Nat) (body : Bytes → State) : Host.Outcome State Fault Refusal :=
  match startedCmd s ch seq op with
  | some x => done (if rsvClean op x.req then body x.req else answer s ch seq rcBadParam [])
  | none => done s

/-- A free choice of the manual among the elements of a list. -/
def pickFrom {α : Type} (s : State) (l : List α) : Option α × State :=
  (l[Config.freePick s.fresh l.length % l.length]?, drawn s)

end Sys2Proof.Machine
end

