-- ==== Sys2Proof/Machine/Catalogue.lean ====
section
/-! DEFINITION. The catalogue of commands (R546): opcodes, request lengths (R531), command sets (R529), who may send what
(R528), and what RESTRICTED and the modes refuse (R547, R580). -/

namespace Sys2Proof.Machine

open Sys2Proof

/-- Length of a request layout (R531). -/
inductive LenRule where
  | fixed (n : Nat)
  /-- `base` bytes and `unit` bytes for each of COUNT, a field of `size` bytes at `off`. -/
  | counted (base off size unit : Nat)
  /-- PARSE_GRAPH_WRITE: the record size is that of KIND (R115). -/
  | parse
  /-- ECHO: 0 to 248 bytes (R551). -/
  | any
  deriving DecidableEq, Repr

def catalogueDevice : List (Nat × LenRule) :=
  [ (0x0100, .fixed 0), (0x0102, .fixed 4), (0x0103, .fixed 0), (0x0104, .any), (0x0110, .fixed 0), (0x0111, .fixed 4),
    (0x0112, .fixed 0), (0x0113, .fixed 0), (0x0150, .fixed 4), (0x0120, .counted 4 2 1 8), (0x0121, .fixed 4),
    (0x0122, .fixed 4), (0x0123, .fixed 4), (0x0130, .fixed 4), (0x0131, .counted 8 2 2 4), (0x0140, .fixed 4),
    (0x0141, .fixed 0), (0x0142, .fixed 4), (0x0143, .fixed 0), (0x0144, .fixed 4), (0x0201, .fixed 80), (0x0202, .fixed 4),
    (0x0203, .fixed 4), (0x0204, .fixed 80), (0x0205, .fixed 4), (0x0206, .fixed 4), (0x0210, .fixed 0), (0x0300, .fixed 56),
    (0x0301, .fixed 8), (0x0302, .fixed 8), (0x0303, .fixed 16), (0x0304, .fixed 8), (0x0308, .fixed 4) ]

def catalogueTables : List (Nat × LenRule) :=
  [ (0x0400, .counted 8 4 3 112), (0x0401, .fixed 8), (0x0402, .fixed 8), (0x0403, .fixed 108), (0x0404, .fixed 4),
    (0x0405, .fixed 4), (0x0410, .fixed 8), (0x0411, .fixed 0), (0x0420, .fixed 4), (0x0421, .fixed 0), (0x0440, .parse),
    (0x0441, .fixed 8), (0x0442, .fixed 4), (0x0448, .counted 8 2 2 72), (0x0449, .fixed 8), (0x044A, .fixed 4),
    (0x0500, .fixed 72), (0x0501, .fixed 44), (0x0502, .fixed 44), (0x0503, .fixed 44), (0x0504, .fixed 4),
    (0x0506, .counted 4 2 1 4), (0x0510, .fixed 248), (0x0511, .fixed 4), (0x0518, .counted 8 2 2 8), (0x0519, .fixed 4),
    (0x051A, .fixed 4) ]

def cataloguePorts : List (Nat × LenRule) :=
  [ (0x0600, .fixed 4), (0x0601, .fixed 4), (0x0602, .fixed 4), (0x0604, .fixed 16), (0x0610, .fixed 24), (0x0611, .fixed 4),
    (0x0612, .fixed 20), (0x0620, .counted 8 4 2 8), (0x0621, .fixed 28), (0x0622, .fixed 8), (0x0623, .fixed 4),
    (0x0700, .fixed 0), (0x0701, .fixed 16), (0x0702, .fixed 8), (0x0703, .fixed 8), (0x0704, .fixed 8), (0x0705, .fixed 8),
    (0x0710, .fixed 52), (0x0711, .fixed 0), (0x0712, .fixed 0), (0x0713, .fixed 0), (0x0720, .fixed 40), (0x0721, .fixed 12),
    (0x0722, .fixed 4), (0x0730, .fixed 32), (0x0731, .fixed 4) ]

def catalogueOffload : List (Nat × LenRule) :=
  [ (0x0800, .fixed 136), (0x0801, .fixed 4), (0x0802, .fixed 4), (0x0810, .fixed 132), (0x0811, .fixed 4), (0x0820, .fixed 16),
    (0x0830, .fixed 72), (0x0831, .fixed 4), (0x0832, .fixed 8), (0x0900, .fixed 0), (0x0901, .fixed 4), (0x0902, .fixed 4),
    (0x0903, .fixed 8), (0x0910, .fixed 8), (0x0911, .fixed 4), (0x0920, .fixed 8), (0x0921, .fixed 0), (0x0922, .fixed 0),
    (0x0923, .fixed 0), (0x0A00, .fixed 12), (0x0A01, .fixed 12), (0x0A02, .counted 4 1 1 4), (0x0A10, .fixed 16),
    (0x0A11, .fixed 0), (0x0A12, .fixed 0), (0x0A13, .fixed 12), (0x0A20, .fixed 8), (0x0A21, .fixed 4), (0x0A22, .fixed 0),
    (0x0A30, .fixed 0), (0x0A40, .fixed 12) ]

def catalogueFirmware : List (Nat × LenRule) :=
  [ (0x0B00, .fixed 8), (0x0B01, .counted 8 2 2 1), (0x0B02, .fixed 4), (0x0B03, .fixed 0), (0x0B04, .fixed 4),
    (0x0B08, .fixed 4), (0x0B09, .counted 8 2 2 1), (0x0B10, .fixed 4), (0x0B11, .fixed 0), (0x0B12, .fixed 0),
    (0x0B13, .fixed 4), (0x0B14, .fixed 0), (0x0B20, .fixed 0), (0x0B21, .fixed 0), (0x0B40, .fixed 4), (0x0B42, .fixed 4),
    (0x0B43, .fixed 8), (0x0B44, .fixed 4) ]

/-- Opcodes of the catalogue with the length of their requests (R546, R531). -/
def catalogue : List (Nat × LenRule) :=
  catalogueDevice ++ catalogueTables ++ cataloguePorts ++ catalogueOffload ++ catalogueFirmware

/-- The length rule of an opcode; none when the catalogue has no such opcode. -/
def lenRule (op : Nat) : Option LenRule := (catalogue.find? (fun x => x.1 = op)).map (fun x => x.2)

/-- Record size of a parse-graph KIND (R115). -/
def parseRecSize (kind : Nat) : Nat := if kind = 0 then 32 else if kind = 1 then 8 else 4

/-- LENGTH agrees with the layout (R531). -/
def lengthOk (r : LenRule) (req : Bytes) : Bool :=
  match r with
  | .fixed n => decide (req.length = n)
  | .counted base off size unit => decide (base ≤ req.length ∧ req.length = base + unit * le req off size)
  | .parse => decide (8 ≤ req.length ∧ req.length = 8 + parseRecSize (le req 0 2) * le req 4 2)
  | .any => decide (req.length ≤ 248)

/-- The read-only set (R529). -/
def readOnlySet : List Nat :=
  [0x0100, 0x0103, 0x0104, 0x0110, 0x0121, 0x0122, 0x0130, 0x0141, 0x0143, 0x0203, 0x0205, 0x0210, 0x0302, 0x0401, 0x0404,
   0x0411, 0x0421, 0x0441, 0x0449, 0x0502, 0x0511, 0x051A, 0x0601, 0x0611, 0x0622, 0x0700, 0x0712, 0x0722, 0x0801, 0x0811,
   0x0831, 0x0900, 0x0911, 0x0921, 0x0A01, 0x0A02, 0x0A13, 0x0A20, 0x0A22, 0x0A30, 0x0A40, 0x0B03, 0x0B08, 0x0B11, 0x0B21,
   0x0B40, 0x0B44]

/-- Opcode `op` lies in a range. -/
def opIn (lo hi op : Nat) : Bool := Nat.ble lo op && Nat.ble op hi

/-- The secure-only set (R529). -/
def secureOnly (op : Nat) : Bool :=
  [0x0111, 0x0112, 0x0113, 0x0131, 0x0150, 0x0A40].contains op || opIn 0x0B00 0x0B21 op

/-- The own-function set (R529): SLICE_QUERY, FUNC_QUERY and class 0x03xx only with FUNC 0xFFFF (R493); the SA and NVMe/TCP
commands are held to the sender's own ranges where they are executed (R334). -/
def ownFunction (op : Nat) (req : Bytes) : Bool :=
  [0x0100, 0x0102, 0x0103, 0x0104, 0x0110, 0x0800, 0x0801, 0x0802, 0x0820, 0x0830, 0x0831, 0x0832].contains op ||
  ([0x0203, 0x0205, 0x0300, 0x0301, 0x0302, 0x0303, 0x0308].contains op && Nat.beq (le req 0 2) 0xFFFF)

/-- The commands of channel 2,056 in a session, outside HEADLESS (R528). -/
def bmcSet (op : Nat) : Bool :=
  readOnlySet.contains op || opIn 0x0A00 0x0AFF op || [0x0111, 0x0150].contains op || opIn 0x0B00 0x0B21 op

/-- The channel is one of the holder's (R525, R527). -/
def chanHolds (s : State) (ch : Nat) : Bool :=
  match funcOfChan ch with
  | some (ep, f) => f = 0 && holderEp s = some ep
  | none => false

/-- The answer of the sender check (R528); none when the sender is admitted. -/
def mayRun (s : State) (ch : Nat) (session : Bool) (op : Nat) (req : Bytes) : Option Nat :=
  match funcOfChan ch with
  | none =>
    if session then
      if s.role.headless then (if op = 0x0113 then some rcNotPermitted else none)
      else if bmcSet op then none else some rcNotPermitted
    else if readOnlySet.contains op && op ≠ 0x0A40 then none else some rcSessionRequired
  | some (ep, f) =>
    if f = 0 ∧ holderEp s = some ep then
      if chanSecure ch then (if op = 0x0113 then some rcNotPermitted else none)
      else if secureOnly op then some rcNotPermitted else none
    else if ownFunction op req then none
    else if f = 0 ∧ ep = s.role.homeEp ∧ chanSecure ch ∧ op = 0x0113 then none
    else some rcNotPermitted

/-- What firmware executes while RESTRICTED (R547); nothing from a VF channel. -/
def restrictedOk (ch op : Nat) (req : Bytes) : Bool :=
  let vf := match funcOfChan ch with
    | some (_, f) => !Nat.beq f 0
    | none => false
  let pf0Queue := opIn 0x0300 0x03FF op && ([0, 0xFFFF].contains (le req 0 2) || Nat.beq op 0x0304)
  !vf && ([0x0100, 0x0102, 0x0103, 0x0104, 0x0130, 0x0131, 0x0141, 0x0150, 0x0203, 0x0205, 0x0210].contains op ||
    opIn 0x0110 0x0113 op || opIn 0x0120 0x012F op || pf0Queue || opIn 0x0A00 0x0AFF op || opIn 0x0B00 0x0B21 op)

/-- Commands that QUIESCENT allows (R580). -/
def quiescentOk (op : Nat) (req : Bytes) : Bool :=
  readOnlySet.contains op || opIn 0x0B00 0x0BFF op || opIn 0x0110 0x0113 op ||
  [0x0102, 0x0103, 0x0130, 0x0131, 0x0144, 0x0150].contains op || (Nat.beq op 0x0140 && [1, 4].contains (byteAt req 0))

/-- Commands that HANDOVER refuses (R580). -/
def handoverBad (op : Nat) : Bool :=
  opIn 0x0B00 0x0B04 op ||
  [0x0B09, 0x0B10, 0x0B13, 0x0B20, 0x0410, 0x0442, 0x044A, 0x0901, 0x0902, 0x0B42, 0x0B43, 0x0142, 0x0600, 0x0140].contains op

/-- The mode allows the command (R580). -/
def modeOk (s : State) (op : Nat) (req : Bytes) : Bool :=
  !(decide (s.dev.base = .quiescent) && !quiescentOk op req) && !(handoverOn s && handoverBad op) &&
  !(s.dev.isolated && Nat.beq op 0x0140 && Nat.beq (byteAt req 0) 11)

/-- The checks of R544 from order 3 to order 8: the answer of the first that fails, none when all pass. -/
def commandCheck (s : State) (ch : Nat) (session : Bool) (op : Nat) (req : Bytes) : Option Nat :=
  match lenRule op with
  | none => some rcBadOpcode
  | some r =>
    if 32 ≤ (chanGet s ch).started.length then some rcBusy
    else match mayRun s ch session op req with
      | some c => some c
      | none =>
        if s.dev.base = .restricted ∧ ¬ restrictedOk ch op req then some rcRestricted
        else if ¬ modeOk s op req then some rcWrongMode
        else if ¬ lengthOk r req then some rcBadLength
        else none

end Sys2Proof.Machine
end

