-- ==== Sys2Proof/Machine/HostOps.lean ====
section
/-! DEFINITION. Shared operations of the host interface and of the mailbox transport: configuration words and AER status,
who may reach a function, mailbox generations, wake events, and messages shown (R505 to R518). -/

namespace Sys2Proof.Machine

open Sys2Proof

/-! Configuration words (R422). -/

def cfgGet (s : State) (ep f a : Nat) : Word := mapGetD (fnGet s ep f).config a 0

def cfgSet (s : State) (ep f a : Nat) (v : Word) : State := fnMod s ep f (fun g => { g with config := mapSet g.config a v })

def cfgSetBit (s : State) (ep f a bit : Nat) : State :=
  cfgSet s ep f a (cfgGet s ep f a ||| BitVec.ofNat 32 (2 ^ bit))

/-- AER uncorrectable status bits (base specification, R17). -/
def aerPoisoned : Nat := 12
def aerTimeout : Nat := 14
def aerUnexpected : Nat := 16
def aerMalformed : Nat := 18
def aerEcrc : Nat := 19
def aerUnsupported : Nat := 20

/-- Logs an uncorrectable error in the function's AER status (R422: AER at 0x100). -/
def aerLog (s : State) (ep f bit : Nat) : State := cfgSetBit s ep f 0x104 bit

/-- Logs an error handled as Advisory Non-Fatal (R452). -/
def aerAdvisory (s : State) (ep f bit : Nat) : State := cfgSetBit (aerLog s ep f bit) ep f 0x110 13

/-- The adapter answers its hosts: it has left BOOT (R570). -/
def hostOpen (s : State) : Bool := !(s.dev.base = .off || s.dev.base = .held || s.dev.base = .boot)

/-- A function that a PCI Express request reaches: PF0, or a VF enabled under SR-IOV (R424, R452). -/
def fnEnabled (s : State) (ep f : Nat) : Bool :=
  decide (f = 0) || (let p := fnGet s ep 0; p.vfEnable && decide (f ≤ p.numVfs))

/-- A BAR write of the host is accepted: the endpoint's link is up, the function is reached, is not in D3hot and no FLR runs
(R446, R451). -/
def barOpen (s : State) (ep f : Nat) : Bool :=
  hostOpen s && (epGet s ep).dlUp && fnEnabled s ep f && !(fnGet s ep f).d3hot && !(fnGet s ep f).flrActive

/-! Mailbox transport. -/

/-- The host's FULL: its pending message is held (R505). -/
def hostFull (c : MbxChan) : Bool := c.toFw.any (fun m => m.senderGen = c.hostGen)

/-- Firmware's FULL: its pending message is held (R505). -/
def fwFull (s : State) (c : MbxChan) : Bool := c.toHost.any (fun m => m.senderGen = s.mbx.fwGen)

/-- A message is shown to the host (R505). -/
def hostShown (c : MbxChan) : Bool := !c.toHost.isEmpty

/-- A channel is crossed (R519). -/
def crossed (c : MbxChan) : Bool := hostFull c && hostShown c

/-- The crossing episode ends when either FULL clears (R519). -/
def noteCrossing (s : State) (ch : Nat) : State :=
  let c := chanGet s ch
  if c.crossSeen && !crossed c then chanSet s ch { c with crossSeen := false } else s

/-- The wake event of a host-side endpoint (R512). -/
def wakeHost (s : State) (ch : Nat) : State :=
  let c := chanGet s ch
  match funcOfChan ch with
  | some (ep, f) => if c.intEn then dueVec s ep f c.vector else s
  | none => s

/-- The bytes of a message on the wire (R501). -/
def msgBytes (m : Msg) : Bytes :=
  toLe 2 m.opcode ++ toLe 1 m.payload.length ++ toLe 1 m.seq ++ toLe 2 m.senderGen.toNat ++ toLe 2 m.receiverGen.toNat ++ m.payload

/-- A message to the BMC: inside the SPDM session, or in the clear (R567). -/
def mctpSend (s : State) (session : Bool) (type : Nat) (body : Bytes) : State :=
  emit s (if session then .mctp 0x06 (BitVec.ofNat 8 type :: body) else .mctp type body)

/-- A message of channel 2,056 travels to the BMC as a vendor message of KIND 0 (R565). -/
def bmcPost (s : State) (m : Msg) : State :=
  mctpSend s (m.session && !s.mctp.sessions.isEmpty) 0x7E ([0x1F, 0x7C, 0, 0] ++ msgBytes m)

/-- The oldest message held for the BMC is shown again (R514, R566). -/
def bmcShow (s : State) : State :=
  match (chanGet s 2056).toHost with
  | m :: _ => bmcPost s m
  | [] => s

/-- A message becomes shown in the host's inbound buffer (R512), or is sent to the BMC (R565). -/
def showToHost (s : State) (ch : Nat) : State :=
  let s := if ch = 2056 then bmcShow s else wakeHost s ch
  match funcOfChan ch with
  | some (ep, f) => if f = 0 then mgrEvent s ep 0 else s
  | none => s

/-- ACKED or CROSSING became set on a channel (R524). -/
def evPend (s : State) (ch : Nat) : State :=
  setBits s (r_MBX_FW_EV_PEND (ch / 32)) (BitVec.ofNat 32 (2 ^ (ch % 32)))

/-- A sender's generation changes (R513): the older message of a direction that holds two is discarded unread. -/
def supersede (ms : List Msg) (gen : BitVec 16) : List Msg :=
  if 2 ≤ ms.length ∧ ms.any (fun m => m.senderGen = gen) then ms.drop 1 else ms

/-- The host-side generation of a channel increases by 1 (R503, R513): the oldest message held for the
host is shown again (R514), and journal, event mask and event sequence follow it (R535, R541, R548). -/
def bumpHostGen (s : State) (ch : Nat) : State :=
  let c := chanGet s ch
  let toFw := supersede c.toFw c.hostGen
  let s := if toFw.length < c.toFw.length then bump s r_MBX_CNT_SUPERSEDED else s
  let s := noteCrossing (chanSet s ch { c with hostGen := c.hostGen + 1, toFw := toFw, journal := [], mask := defaultMask ch, evSeq := 0 }) ch
  if ch = 2056 then bmcShow s else s

/-- The firmware-side generations of all channels increase by 1 together, and what firmware had queued and not posted is lost
(R504, R513, R516). -/
def bumpFwGen (s : State) : State :=
  let g := s.mbx.fwGen
  let n := (s.mbx.chans.filter (fun p => (supersede p.2.toHost g).length < p.2.toHost.length)).length
  let s := bumpBy s r_MBX_CNT_SUPERSEDED n
  { s with mbx := { s.mbx with
      fwGen := g + 1
      chans := s.mbx.chans.map (fun p => (p.1, { p.2 with toHost := supersede p.2.toHost g, queue := [] })) } }

/-- A message of the host is taken: the adapter stamps the generations current now (R502, R505). -/
def takePost (s : State) (ch : Nat) (b : Bytes) (session : Bool) : State :=
  let c := chanGet s ch
  let m : Msg := { opcode := le b 0 2, seq := byteAt b 3, senderGen := c.hostGen, receiverGen := s.mbx.fwGen,
                   payload := slice b 8 (byteAt b 2), session := session }
  chanSet s ch { c with toFw := c.toFw ++ [m] }

/-- REJECT is set and the write counted (R510): the VF's counter, or MBX_CNT_REJECT for a PF0 and channel 2,056. -/
def rejectPost (s : State) (ch : Nat) : State :=
  let s := chanMod s ch (fun c => { c with reject := true })
  match funcOfChan ch with
  | some (ep, f) =>
    let s := if f = 0 then bump s r_MBX_CNT_REJECT else bump s (r_HIF_VF_CNT_MBX_REJECT ep f)
    aerAdvisory s ep f aerUnsupported
  | none => bump s r_MBX_CNT_REJECT

/-- The host-side endpoint may write its channel: an open function whose VF has a slice (R425, R518). -/
def chanOpen (s : State) (ch : Nat) : Bool :=
  match funcOfChan ch with
  | some (ep, f) => barOpen s ep f
  | none => false

/-- A write of a VF without a slice is discarded and counted (R425). -/
def chanUnbound (s : State) (ch : Nat) : Bool :=
  match funcOfChan ch with
  | some (ep, f) => decide (f ≠ 0) && (boundSlice s ep f).isNone
  | none => false

/-- The host POSTs its outbound buffer (R506, R510). -/
def hostPost (s : State) (ch : Nat) (b : Bytes) (session : Bool) : State :=
  let c := chanGet s ch
  if hostFull c then rejectPost s ch
  else if 248 < byteAt b 2 then bump (chanSet s ch { c with reject := true }) r_MBX_CNT_BAD_LEN
  else takePost s ch b session

/-- The MCTP endpoint takes its binding and address from Heartwood and has no endpoint ID (R568). -/
def mctpStart (s : State) : State :=
  { s with mctp := { binding := hwField s 0x004 0 0, addr := hwField s 0x004 14 8, badPackets := s.mctp.badPackets,
                     badMessages := s.mctp.badMessages } }

/-- The answer of MCTP_CONFIG has been delivered: the endpoint restarts (R568). -/
def mctpDelivered (s : State) (ch : Nat) (m : Msg) : State :=
  if s.mctp.restartPending = some (ch, m.seq) ∧ m.opcode < 0x8000 then bumpHostGen (mctpStart s) 2056 else s

/-- The host acknowledges the message shown to it (R507, R515). -/
def hostAck (s : State) (ch : Nat) : State :=
  let c := chanGet s ch
  match c.toHost with
  | [] => s
  | m :: rest =>
    let s := chanSet s ch { c with toHost := rest, acked := c.acked || decide (m.senderGen = s.mbx.fwGen) }
    let s := if m.senderGen = s.mbx.fwGen then evPend s ch else bump s r_MBX_CNT_STALE_ACK
    let s := if rest.isEmpty then s else showToHost s ch
    mctpDelivered (noteCrossing s ch) ch m

/-- Firmware acknowledges the message shown to it (R507, R512, R515). -/
def fwAck (s : State) (ch : Nat) : State :=
  let c := chanGet s ch
  match c.toFw with
  | [] => s
  | m :: rest =>
    let s := chanSet s ch { c with toFw := rest }
    let s := if m.senderGen ≠ c.hostGen then bump s r_MBX_CNT_STALE_ACK
             else if ch = 2056 then mctpSend s (m.session && !s.mctp.sessions.isEmpty) 0x7E [0x1F, 0x7C, 1, 0]
             else wakeHost s ch
    noteCrossing s ch

/-- A message of firmware is posted on a channel (R502, R505); on channel 2,056 it travels as a vendor message (R565). -/
def fwPostMsg (s : State) (ch : Nat) (opcode seq : Nat) (payload : Bytes) (session : Bool) : State :=
  let c := chanGet s ch
  let m : Msg := { opcode := opcode, seq := seq, senderGen := s.mbx.fwGen, receiverGen := c.hostGen, payload := payload,
                   session := session }
  let s := chanSet s ch { c with toHost := c.toHost ++ [m] }
  if c.toHost.isEmpty then showToHost s ch else s

end Sys2Proof.Machine
end

