-- ==== Sys2Proof/Machine/Mailbox.lean ====
section
/-! DEFINITION. Mailboxes (R498 to R524) and the start of a command by firmware (R534 to R544). -/

namespace Sys2Proof.Machine

open Sys2Proof

/-- A mailbox write of a VF without a slice is discarded and counted with the other writes to its page (R425). -/
def unboundWrite (s : State) (ch : Nat) : State :=
  match funcOfChan ch with
  | some (ep, f) => bump (bump s (r_HIF_CNT_DB_BAD ep)) (r_HIF_VF_CNT_DB_BAD ep f)
  | none => s

/-- MBX_POST (R506, R510): the host's outbound buffer is taken as it stands. -/
def execMbxPost (ch : Nat) (s : State) : Host.Outcome State Fault Refusal :=
  if chanOpen s ch then
    if chanUnbound s ch then done (unboundWrite s ch)
    else done (hostPost s ch (fit (chanGet s ch).outBuf 256) false)
  else done s

/-- MBX_ACK (R507, R515): the message shown to the host is removed. -/
def execMbxAck (ch : Nat) (s : State) : Host.Outcome State Fault Refusal :=
  if !chanOpen s ch then done s
  else if chanUnbound s ch then done (unboundWrite s ch)
  else done (hostAck s ch)

/-- MBX_FW_POST (R505, R521): firmware posts the oldest message it has queued, while its FULL is 0. -/
def execMbxFwPost (ch : Nat) (s : State) : Host.Outcome State Fault Refusal :=
  let c := chanGet s ch
  match c.queue with
  | [] => done s
  | m :: rest =>
    if s.mbx.serving && !fwFull s c then
      done (fwPostMsg (chanSet s ch { c with queue := rest }) ch m.opcode m.seq m.payload m.session)
    else done s

/-- MBX_FW_ACK (R507, R515): the message shown to firmware is removed. -/
def execMbxFwAck (ch : Nat) (s : State) : Host.Outcome State Fault Refusal :=
  done (fwAck s ch)

/-- MBX_OUTBOUND_BUFFER_WRITE (R510): stored while FULL is 0, else dropped with REJECT. -/
def execMbxOutboundBufferWrite (ch off : Nat) (data : Bytes) (s : State) : Host.Outcome State Fault Refusal :=
  if chanOpen s ch ∧ off + data.length ≤ 256 then
    if chanUnbound s ch then done (unboundWrite s ch)
    else if hostFull (chanGet s ch) then done (rejectPost s ch)
    else done (chanMod s ch (fun c => { c with outBuf := splice (fit c.outBuf 256) off data }))
  else done s

/-- MBX_CROSSING (R519): both sides are told once of an unbroken episode. -/
def execMbxCrossing (ch : Nat) (s : State) : Host.Outcome State Fault Refusal :=
  let c := chanGet s ch
  if crossed c && !c.crossSeen then
    let s := chanSet s ch { c with crossSeen := true, crossHost := true, crossFw := true }
    let s := bump (wakeHost (evPend s ch) ch) r_MBX_CNT_CROSSING
    let func := match funcOfChan ch with
      | some (ep, f) => errFunc ep f
      | none => 0xFFFF
    done (errlog s 0x0130 11 func 0 (toLe 2 ch))
  else done s

/-- Acknowledges the shown message and answers it without executing it. -/
def refuseShown (s : State) (ch : Nat) (m : Msg) (session : Bool) (code : Nat) : State :=
  finish (fwAck s ch) ch m.seq m.opcode m.payload session code []

/-- Firmware acknowledges the shown message and starts the command (R536). -/
def startShown (s : State) (ch : Nat) (m : Msg) (session : Bool) : State :=
  chanMod (fwAck s ch) ch (fun c =>
    { c with started := c.started ++ [{ seq := m.seq, opcode := m.opcode, req := m.payload, running := false, session := session }] })

/-- A command counts as in a session (R567). -/
def msgSession (s : State) (ch : Nat) (m : Msg) : Bool :=
  decide (ch = 2056) && (m.session || decide (hwField s 0x004 16 16 = 0))

/-- FW_COMMAND_DISPATCH (R544): the checks of a shown message in order; firmware stops reading a channel that has 8 messages
queued (R521), and starts the commands of a channel one at a time (R536). -/
def execFwCommandDispatch (ch : Nat) (s : State) : Host.Outcome State Fault Refusal :=
  let c := chanGet s ch
  match c.toFw with
  | [] => done s
  | m :: _ =>
    let session := msgSession s ch m
    if !s.mbx.serving || decide (8 ≤ c.queue.length) || c.started.any (fun x => !x.running) then done s
    else if m.senderGen ≠ c.hostGen then done (bump (fwAck s ch) r_MBX_CNT_STALE_CMD)
    else if m.receiverGen ≠ s.mbx.fwGen then done (queueResponse (fwAck s ch) ch m.seq rcStale session [])
    else match c.journal.find? (fun x => x.seq = m.seq) with
      | some x =>
        if x.opcode = m.opcode ∧ x.crc = requestCrc m.payload then
          match x.done with
          | some (code, body) => done (queueResponse (fwAck s ch) ch m.seq code session body)
          | none => done (fwAck s ch)
        else done (queueResponse (fwAck s ch) ch m.seq rcSeqConflict session [])
      | none =>
        match commandCheck s ch session m.opcode m.payload with
        | some code => done (refuseShown s ch m session code)
        | none => done (startShown s ch m session)

end Sys2Proof.Machine
end

