-- ==== Sys2Proof/Machine/ItwOps.lean ====
section
/-! DEFINITION. Shared operations of the Itwin pair: the lines and the grant of the ACT interlock (R287 to R291), messages and
their flits (R285, R286), and the loss of the link. -/

namespace Sys2Proof.Machine

open Sys2Proof

/-- Heartbeats are being sent (R287): Itwin enabled, base mode PROVISION or SERVICE, and the pipelines start packets. -/
def itwSending (s : State) : Bool := s.itw.enable && running s && !s.itw.stalled

/-- ITW_ACT_OUT (R289). -/
def actOutLevel (s : State) : Bool := itwSending s && s.itw.actReq

/-- The actor gate (R289, R291): open while Itwin is disabled or the grant is 1. -/
def actorGate (s : State) : Bool := !s.itw.enable || s.itw.grant

/-- A record of source 37, KIND 3 (R625). -/
def traceAct (s : State) : State :=
  trace s 37 3 0 0xFFF 0
    (toLe 1 (b2n s.itw.actOut) ++ toLe 1 (b2n s.itw.actIn) ++ toLe 1 (b2n s.itw.alive) ++ toLe 1 (b2n s.itw.grant))

/-- The grant takes a value (R290): the reported mode follows it and firmware sends ITW_ACTOR_CHANGE (R293, R579). -/
def setGrant (s : State) (g : Bool) : State :=
  if s.itw.grant = g then s
  else
    let s' := { s with itw := { s.itw with grant := g, collisions := if g then 0 else s.itw.collisions,
                                           split := s.itw.split && !g, offered := s.itw.offered && !g } }
    eventToManager (noteMode s (traceAct s') 4) 0x8921 (toLe 1 (b2n g) ++ zeros 3)

/-- The lines follow what they depend on (R287 to R290): ITW_ALIVE is released while heartbeats are sent, and the grant falls with
ITW_ACT_OUT. -/
def itwLines (s : State) : State :=
  let rel := itwSending s
  let out := actOutLevel s
  let s := if s.itw.released = rel then s
    else emit { s with itw := { s.itw with released := rel, alive := s.itw.alive && rel } } (.aliveRelease rel)
  let s := if s.itw.actOut = out then s
    else emit (traceAct { s with itw := { s.itw with actOut := out } }) (.actOut out)
  if out then s else setGrant s false

/-- Firmware writes ACT_REQ (R289). -/
def setActReq (s : State) (b : Bool) : State := itwLines { s with itw := { s.itw with actReq := b } }

/-- A pipeline has started a packet: heartbeats resume (R287). -/
def unstall (s : State) : State :=
  if s.itw.stalled then itwLines { s with itw := { s.itw with stalled := false } } else s

/-! Messages (R285, R286). -/

/-- LEN of a message of `n` body bytes, in 8-byte words including the header (R286). -/
def itwLen (n : Nat) : Nat := ceilDiv (n + 4) 8

/-- A message as it lies in a flit (R286). -/
def itwBytes (type : Nat) (body : Bytes) : Bytes :=
  let n := itwLen body.length
  toLe 1 type ++ toLe 1 n ++ zeros 2 ++ fit body (8 * n - 4)

/-- Sends messages of one type, each in a flit of its own (notes/assumptions/46.md); the replay buffer keeps the last 256 flits. With
the link down nothing is sent. -/
def itwSendAll (s : State) (type : Nat) (bodies : List Bytes) : State :=
  if s.itw.linkUp then
    bodies.foldl (fun s b =>
      let w := s.itw
      let r := w.replay ++ [(w.txSeq, itwBytes type b)]
      let s := { s with itw := { w with txSeq := w.txSeq + 1, replay := r.drop (r.length - 256) } }
      trace (emit s (.itwMsg type b)) 37 1 0 0xFFF 0 (toLe 1 type ++ toLe 1 (itwLen b.length))) s
  else s

def itwSend (s : State) (type : Nat) (body : Bytes) : State := itwSendAll s type [body]

/-- This adapter has the lower rank of the pair; equal ranks are decided by the die identifiers (R292). -/
def lowerRank (s : State) : Bool :=
  s.itw.partner.seen && (decide (s.itw.rank < s.itw.partner.rank) ||
    (decide (s.itw.rank = s.itw.partner.rank) && decide (Config.dieId.toNat < s.itw.partner.dieId.toNat)))

/-- An error log entry ITW_LINK (R297, R631). -/
def itwLog (s : State) (cause : Nat) : State := errlog s 0x0162 13 0xFFFF 0 (toLe 1 cause)

/-- A message is discarded and counted (R297). -/
def itwBad (s : State) : State := bump s r_ITW_CNT_MSG_BAD

end Sys2Proof.Machine
end

