-- ==== Sys2Proof/Machine/PacketOps.lean ====
section
/-! DEFINITION. Shared operations on packets: Basin storage (R36 to R40, R355, R357), the transmit packet a frame came from (R477),
distribution to the pipelines (R20 to R22, R80, R253 to R258), the counts a copy holds, and the loss of a copy. -/

namespace Sys2Proof.Machine

open Sys2Proof

/-- A new number for a packet, a stored frame or an accepted send. -/
def newId (s : State) : Nat × State := (s.nextPid, { s with nextPid := s.nextPid + 1 })

/-! Basin (R36). -/

/-- Head cell and pages of a frame of `len` bytes (R36). -/
def basinShape (s : State) (len : Nat) : Bool × Nat :=
  if 0 < s.basin.headFree then (true, ceilDiv (len - 256) 4096) else (false, ceilDiv len 4096)

/-- Storage units of R355. -/
def basinUnits (head : Bool) (pages : Nat) : Nat := b2n head + 16 * pages

/-- Pages reserved by slices (R38). -/
def pagesReserved (s : State) : Nat := (s.slices.tab.map (fun p => p.2.basinPages)).sum

/-- Pages reserved by lossless classes (R357). -/
def pagesLossless (s : State) : Nat := (s.basin.lossless.map (fun p => ceilDiv p.2 16)).sum

/-- Pages of slices: their reservations, and what they still hold above a lowered one (R558). -/
def pagesKept (s : State) : Nat := (s.slices.tab.map (fun p => max p.2.basinPages (mapGetD s.basin.held p.1 0))).sum

/-- Open pages not in use. -/
def openFree (s : State) : Nat := s.basin.area - pagesKept s - pagesLossless s - s.basin.openUsed

/-- Free pages of a slice's reservation (R40). -/
def ownFree (s : State) (n : Nat) : Nat :=
  match sliceGet s n with
  | some x => x.basinPages - mapGetD s.basin.held n 0
  | none => 0

/-- Stores a frame with `refs` holders: pages from the owner's reservation, then open pages; a lossless frame lies in its class's
reservation (R36, R49, R357). None when the pages are exhausted. -/
def basinStore (s : State) (len owner refs : Nat) (occ : Option (Nat × Nat)) : Option (Nat × State) :=
  let (head, pages) := basinShape s len
  let own := if occ.isSome then 0 else min pages (ownFree s owner)
  let open_ := if occ.isSome then 0 else pages - own
  if open_ ≤ openFree s then
    let (fid, s) := newId s
    let b := s.basin
    let s := { s with basin := { b with
      headFree := b.headFree - b2n head
      held := if own = 0 then b.held else mapModify b.held owner 0 (· + own)
      openUsed := b.openUsed + open_
      frames := mapSet b.frames fid { head := head, pages := pages, owner := owner, own := own, refs := refs, occ := occ } } }
    let s := match occ with
      | some (m, c) => macMod s m (fun x => { x with occ := mapModify x.occ c 0 (· + basinUnits head pages) })
      | none => s
    some (fid, s)
  else none

/-- Adds holders of a stored frame. -/
def basinHold (s : State) (fid n : Nat) : State :=
  { s with basin := { s.basin with frames := mapUpdate s.basin.frames fid (fun f => { f with refs := f.refs + n }) } }

/-- A stored frame leaves Basin: its head cell and pages are free again. -/
def basinFree (s : State) (fid : Nat) (f : BasinFrame) : State :=
  let b := s.basin
  let s := { s with basin := { b with
    headFree := b.headFree + b2n f.head
    held := if f.own = 0 then b.held else mapModify b.held f.owner 0 (· - f.own)
    openUsed := b.openUsed - (if f.occ.isSome then 0 else f.pages - f.own)
    frames := mapErase b.frames fid } }
  match f.occ with
  | some (m, c) => macMod s m (fun x => { x with occ := mapModify x.occ c 0 (· - basinUnits f.head f.pages) })
  | none => s

/-- One holder of a stored frame leaves; the last one frees it. -/
def basinRelease (s : State) (fid : Nat) : State :=
  match mapGet s.basin.frames fid with
  | none => s
  | some f =>
    if f.refs ≤ 1 then basinFree s fid f
    else { s with basin := { s.basin with frames := mapSet s.basin.frames fid { f with refs := f.refs - 1 } } }

/-! The transmit packet of a host frame (R477). -/

/-- Changes the accepted packet that a frame came from, while its queue pair still holds it. -/
def txMod (s : State) (o : TxOrigin) (f : TxPacket → TxPacket) : State :=
  { s with rings := { s.rings with qps := mapUpdate s.rings.qps o.key (fun q =>
      { q with packets := q.packets.map (fun x => if x.uid = o.uid then f x else x) }) } }

/-- More holders of a frame and of its transmit packet. -/
def hold (s : State) (fid n : Nat) (o : Option TxOrigin) : State :=
  let s := basinHold s fid n
  match o with
  | some o => txMod s o (fun x => { x with left := x.left + n })
  | none => s

/-- A holder leaves. A status other than `none` is a drop, and the first one stands (R478). -/
def letGo (s : State) (fid : Nat) (o : Option TxOrigin) (status : Option Nat) : State :=
  let s := basinRelease s fid
  match o with
  | some o => txMod s o (fun x => { x with left := x.left - 1, status := if x.status.isSome then x.status else status })
  | none => s

/-! Rails and pipelines. -/

def railState (s : State) (r : Nat) : RailState := if r = 0 then s.twin.railA else s.twin.railB

def railSet (s : State) (r : Nat) (x : RailState) : State :=
  { s with twin := if r = 0 then { s.twin with railA := x } else { s.twin with railB := x } }

/-- A rail in service (R300). -/
def railUp (s : State) (r : Nat) : Bool := decide (railState s r = .inService)

def bothRails (s : State) : Bool := railUp s 0 && railUp s 1

/-- Rail of a pipeline: A0, A1, B0, B1 are 0 to 3 (R97). -/
def railOf (pl : Nat) : Nat := pl / 2

/-- Pipeline of a Split-class packet (R80): one rail when the mask or a retirement leaves one; a mask that names only a retired
rail runs on the surviving one (R271). -/
def splitPipeline (s : State) (mask : Nat) (hash : Word) : Nat :=
  let a := railUp s 0 && bitAt mask 0
  let b := railUp s 1 && bitAt mask 1
  if a && b then hash.toNat % 4
  else if a then hash.toNat % 2
  else if b then 2 + hash.toNat % 2
  else if railUp s 0 then hash.toNat % 2
  else 2 + hash.toNat % 2

/-- Rail mask of a slice; both rails while no slice is known. -/
def railMaskOf (s : State) (n : Nat) : Nat :=
  match sliceGet s n with
  | some x => x.railMask
  | none => 3

/-- Priority and VLAN ID of a frame received on a MAC from its outermost tag (R79, R255); an untagged frame has VLAN 0 and the
port's priority. -/
def outerTag (f : Bytes) (untagged : Nat) : Nat × Nat :=
  if be f 12 2 = 0x8100 ∨ be f 12 2 = 0x88A8 then (be f 14 2 / 8192, be f 14 2 % 4096) else (untagged, 0)

/-- Twin selection of a network frame (R255). -/
def twinSelected (s : State) (m prio vid : Nat) : Bool :=
  let lo := regField s (r_DVT_TWIN_SEL1 m) 11 0
  let hi := regField s (r_DVT_TWIN_SEL1 m) 27 16
  bitAt (regField s (r_DVT_TWIN_SEL0 m) 7 0) prio && decide (lo ≤ vid ∧ vid ≤ hi)

/-- Twin stream (R257). -/
def twinStream (source : Nat) (hash : Word) : Nat := source * 512 + (hash.toNat % 2) * 256 + bits hash.toNat 11 4

/-- Unfinished sequences of a stream (R258). -/
def unfinished (s : State) (st : Nat) : Nat := (s.twin.unfinished.filter (fun x => x.1 = st)).length

/-- Order ring of a packet (R259): pipeline, SOURCE and FLOW_HASH[11:4]. -/
def ringKey (pl source : Nat) (hash : Word) : Nat := pl * 8192 + source * 256 + bits hash.toNat 11 4

def ringOf (k : Pkt) : Nat := ringKey k.hdr.pipeline k.hdr.source k.hdr.flowHash

/-- A Twin packet gets its sequence number and a copy for each rail in service (R21, R22, R257). -/
def twinCopies (s : State) (k : Pkt) : State :=
  let st := twinStream k.hdr.source k.hdr.flowHash
  let seq := mapGetD s.twin.streams st 0
  let n := b2n (railUp s 0) + b2n (railUp s 1)
  let s := { s with twin := { s.twin with streams := mapSet s.twin.streams st (seq + 1),
                                          unfinished := s.twin.unfinished ++ [(st, seq, n)] } }
  let s := if n = 2 then hold s k.fid 1 k.origin else s
  let copy := fun (s : State) (r : Nat) =>
    if railUp s r then
      let (p, s) := newId s
      pktSet s p { k with stage := .start, stream := st,
                          hdr := { k.hdr with twin := true, twinSeq := seq, pipeline := 2 * r + k.hdr.flowHash.toNat % 2 } }
    else s
  copy (copy s 0) 1

/-- Distribution of a stored packet (R20 to R22): the packet brings its frame, source, slice and class of service; its frame has
one holder. A Twin packet whose stream has 4,096 unfinished sequences waits (R258). -/
def distribute (s : State) (twin : Bool) (k : Pkt) : State :=
  let h := flowHash k.frame
  let k := { k with hdr := { k.hdr with flowHash := h, frameLen := k.frame.length, effEnd := k.frame.length } }
  if twin then
    if unfinished s (twinStream k.hdr.source h) < 4096 then twinCopies s k
    else
      let (p, s) := newId s
      pktSet (bump s r_DVT_CNT_STREAM_WAIT) p { k with stage := .streamWait, hdr := { k.hdr with twin := true } }
  else
    let (p, s) := newId s
    pktSet s p { k with stage := .start,
                        hdr := { k.hdr with twin := false, pipeline := splitPipeline s (railMaskOf s k.hdr.slice) h } }

/-! What a copy holds, and its end. -/

def jigSlotGet (s : State) (n : Nat) : JigSlot :=
  if n = 0 then s.jig.slot0 else if n = 1 then s.jig.slot1 else if n = 2 then s.jig.slot2 else s.jig.slot3

def jigSlotSet (s : State) (n : Nat) (x : JigSlot) : State :=
  { s with jig := if n = 0 then { s.jig with slot0 := x } else if n = 1 then { s.jig with slot1 := x }
                  else if n = 2 then { s.jig with slot2 := x } else { s.jig with slot3 := x } }

def jigSlotMod (s : State) (n : Nat) (f : JigSlot → JigSlot) : State := jigSlotSet s n (f (jigSlotGet s n))

def parseBankMod (s : State) (b : Nat) (f : ParseBank → ParseBank) : State :=
  { s with plane := if b = 0 then { s.plane with bank0 := f s.plane.bank0 } else { s.plane with bank1 := f s.plane.bank1 } }

def parseBankGet (s : State) (b : Nat) : ParseBank := if b = 0 then s.plane.bank0 else s.plane.bank1

def patternBankMod (s : State) (b : Nat) (f : PatternBank → PatternBank) : State :=
  { s with rasp := if b = 0 then { s.rasp with bank0 := f s.rasp.bank0 } else { s.rasp with bank1 := f s.rasp.bank1 } }

def patternBankGet (s : State) (b : Nat) : PatternBank := if b = 0 then s.rasp.bank0 else s.rasp.bank1

/-- Takes a packet out of its order ring. -/
def ringLeave (s : State) (p : Nat) (k : Pkt) : State :=
  let key := ringOf k
  { s with twin := { s.twin with rings :=
      (let l := (mapGetD s.twin.rings key []).filter (fun x => x ≠ p)
       if l.isEmpty then mapErase s.twin.rings key else mapSet s.twin.rings key l) } }

/-- One copy of a sequence is finished (R258). -/
def finishCopy (s : State) (st : Nat) (seq : Word) : State :=
  { s with twin := { s.twin with unfinished :=
      (s.twin.unfinished.map (fun x => if x.1 = st ∧ x.2.1 = seq then (x.1, x.2.1, x.2.2 - 1) else x)).filter (fun x => x.2.2 ≠ 0) } }

/-- A copy leaves Rasp: its lane or its queue entry and the pattern bank's count (R107, R111). -/
def raspLeave (s : State) (p : Nat) (k : Pkt) : State :=
  let pl := k.hdr.pipeline
  let out := fun (s : State) => patternBankMod s k.hdr.rspBank (fun b => { b with pending := b.pending - 1 })
  if k.stage = .raspQueue then
    out { s with rasp := { s.rasp with queues := s.rasp.queues.modify pl (fun q => q.filter (fun x => x ≠ p)) } }
  else if k.stage = .raspScan then out { s with rasp := { s.rasp with lanes := s.rasp.lanes.modify pl (· - 1) } }
  else s

/-- A copy is released, discarded or dropped: it holds its Jig slot, parse bank, sequence and place no longer (R111, R136, R258,
R259). -/
def endCopy (s : State) (p : Nat) (k : Pkt) : State :=
  let s := if k.started then
      parseBankMod (jigSlotMod s k.hdr.jigSlot (fun x => { x with inflight := x.inflight - 1 })) k.hdr.pgBank
        (fun b => { b with inflight := b.inflight - 1 })
    else s
  let s := if k.hdr.twin ∧ k.stage ≠ .streamWait then finishCopy s k.stream k.hdr.twinSeq else s
  let s := ringLeave (raspLeave s p k) p k
  let s := { s with csc := { s.csc with retry := s.csc.retry.map (fun l => l.filter (fun x => x ≠ p)) } }
  pktErase s p

/-- A copy is dropped with a transmit status (R478). -/
def dropPkt (s : State) (p : Nat) (status : Nat) : State :=
  match pktGet s p with
  | some k => endCopy (letGo s k.fid k.origin (some status)) p k
  | none => s

/-- A pass drops its packet (R478: DROPPED): the copies its MIRROR operations asked for still pass the exit order stage (R197). -/
def passDrop (s : State) (p : Nat) : State :=
  match pktGet s p with
  | some k =>
    if k.mirrors.isEmpty then dropPkt s p 1
    else pktSet (raspLeave s p k) p { k with stage := .exitOrder, verdict := some .drop }
  | none => s

/-- FLAGS of a trace record of a copy (R624). -/
def traceFlags (k : Pkt) : Nat := b2n k.hdr.twin + 2 * railOf k.hdr.pipeline

/-! Metadata as words (R97). -/

def slotWord (l : LayerSlot) : Nat := l.offset + 1024 * l.htype + 262144 * l.len + 134217728 * b2n l.valid

/-- Word 5 of the metadata. -/
def metaWord5 (h : PktMeta) : Nat :=
  h.payloadOff + 2 ^ 10 * b2n h.parseDeep + 2 ^ 11 * b2n h.deepWindow + 2 ^ 12 * b2n h.deepDepth + 2 ^ 13 * b2n h.lenOver +
  2 ^ 14 * b2n h.lenShort + 2 ^ 15 * b2n h.lenBad + 2 ^ 16 * b2n h.hdrTrunc + 2 ^ 17 * b2n h.nextUnknown + 2 ^ 18 * b2n h.raspDone +
  2 ^ 19 * b2n h.raspSkip + 2 ^ 20 * b2n h.l3CsumBad + 2 ^ 21 * b2n h.l4CsumBad

/-- Words 0 to 15 of the metadata. -/
def metaWords (h : PktMeta) : List Nat :=
  [ h.twinSeq.toNat,
    h.jigVersion + 2 ^ 16 * h.jigSlot + 2 ^ 18 * h.pgBank + 2 ^ 19 * h.rspBank + 2 ^ 20 * h.pass + 2 ^ 22 * b2n h.twin +
      2 ^ 23 * h.pipeline,
    h.source + 2 ^ 5 * h.slice + 2 ^ 17 * h.cls + 2 ^ 21 * h.hdrCount,
    h.flowHash.toNat,
    h.frameLen + 2 ^ 16 * h.effEnd,
    metaWord5 h,
    h.userFlags.toNat + 2 ^ 16 * h.rspFirst + 2 ^ 29 * h.rspCount,
    h.rspGroups.toNat ] ++ h.slots.map slotWord

/-- The 64 metadata bytes. -/
def metaBytes (h : PktMeta) : Bytes := (metaWords h).flatMap (toLe 4)

/-- The 512-bit metadata vector of R123. -/
def metaVector (h : PktMeta) : Nat := leVal (metaBytes h)

def slotOfWord (w : Nat) : LayerSlot :=
  { offset := bits w 9 0, htype := bits w 17 10, len := bits w 26 18, valid := bitAt w 27 }

/-- Metadata from its 64 bytes. -/
def metaOfBytes (b : Bytes) : PktMeta :=
  let w := fun i => le b (4 * i) 4
  { twinSeq := BitVec.ofNat 32 (w 0)
    jigVersion := bits (w 1) 15 0, jigSlot := bits (w 1) 17 16, pgBank := bits (w 1) 18 18, rspBank := bits (w 1) 19 19,
    pass := bits (w 1) 21 20, twin := bitAt (w 1) 22, pipeline := bits (w 1) 24 23,
    source := bits (w 2) 4 0, slice := bits (w 2) 16 5, cls := bits (w 2) 20 17, hdrCount := bits (w 2) 25 21,
    flowHash := BitVec.ofNat 32 (w 3), frameLen := bits (w 4) 15 0, effEnd := bits (w 4) 31 16,
    payloadOff := bits (w 5) 9 0, parseDeep := bitAt (w 5) 10, deepWindow := bitAt (w 5) 11, deepDepth := bitAt (w 5) 12,
    lenOver := bitAt (w 5) 13, lenShort := bitAt (w 5) 14, lenBad := bitAt (w 5) 15, hdrTrunc := bitAt (w 5) 16,
    nextUnknown := bitAt (w 5) 17, raspDone := bitAt (w 5) 18, raspSkip := bitAt (w 5) 19, l3CsumBad := bitAt (w 5) 20,
    l4CsumBad := bitAt (w 5) 21, userFlags := BitVec.ofNat 16 (w 6), rspFirst := bits (w 6) 28 16, rspCount := bits (w 6) 31 29,
    rspGroups := BitVec.ofNat 32 (w 7), slots := (List.range 8).map (fun i => slotOfWord (w (8 + i))) }

/-- Field of `w` bits at bit offset `off` of a byte string, the most significant bit of byte 0 first (R91). -/
def bitField (b : Bytes) (off w : Nat) : Nat :=
  let first := off / 8
  let n := (off % 8 + w + 7) / 8
  (be b first n / 2 ^ (8 * n - off % 8 - w)) % 2 ^ w

/-- `b` with the field of `w` bits at bit offset `off` replaced by `v`. -/
def putBitField (b : Bytes) (off w v : Nat) : Bytes :=
  let first := off / 8
  let n := (off % 8 + w + 7) / 8
  let sh := 8 * n - off % 8 - w
  if w = 0 then b else putBe b first n (putBits (be b first n) (sh + w - 1) sh v)

end Sys2Proof.Machine
end

