-- ==== Sys2Proof/Machine/Plane.lean ====
section
/-! DEFINITION. Plane and Rasp: the parse graph walk (R84 to R97), parse classes (R98), the start of a pass (R41 to R44, R109, R135),
payload scans (R103 to R108), and the commits of parse-graph and pattern banks (R110 to R113). -/

namespace Sys2Proof.Machine

open Sys2Proof

/-! Node fields (R89); `nd` is the 32-byte node. -/

def ndWord (nd : Bytes) (w : Nat) : Nat := le nd (4 * w) 4
def ndHtype (nd : Bytes) : Nat := bits (ndWord nd 0) 7 0
def ndValid (nd : Bytes) : Bool := bitAt (ndWord nd 0) 8
def ndTerminal (nd : Bytes) : Bool := bitAt (ndWord nd 0) 9
def ndLenField (nd : Bytes) : Bool := bitAt (ndWord nd 0) 10
def ndBound (nd : Bytes) : Bool := bitAt (ndWord nd 0) 11
def ndCsum (nd : Bytes) : Bool := bitAt (ndWord nd 0) 12
def ndSlot (nd : Bytes) : Nat := bits (ndWord nd 0) 19 16
def ndFixed (nd : Bytes) : Nat := bits (ndWord nd 0) 28 20

/-- A node as reset: HTYPE 0, VALID 0, LAYER_SLOT 15 (R89). -/
def resetNode : Bytes := toLe 4 0xF0000 ++ zeros 28

def nodeGet (b : ParseBank) (n : Nat) : Bytes := mapGetD b.nodes n resetNode
def transGet (b : ParseBank) (i : Nat) : Bytes := mapGetD b.trans i (zeros 8)
def startGet (b : ParseBank) (i : Nat) : Nat := le (mapGetD b.starts i (zeros 4)) 0 4
def classGet (b : ParseBank) (i : Nat) : Nat := le (mapGetD b.classes i (zeros 4)) 0 4

/-- The first matching transition of a node, or its default (R90); `hdr` is the header's bytes. -/
def nextNode (b : ParseBank) (nd hdr : Bytes) : Option Nat :=
  let key := if bits (ndWord nd 3) 14 10 = 0 then none else some (bitField hdr (bits (ndWord nd 3) 9 0) (bits (ndWord nd 3) 14 10))
  let base := bits (ndWord nd 4) 11 0
  let hit := match key with
    | none => none
    | some k => (List.range (bits (ndWord nd 4) 18 12)).findSome? (fun i =>
        let t := transGet b (base + i)
        let mask := le t 2 2
        if bitAt (le t 4 4) 8 && decide (k &&& mask = le t 0 2 &&& mask) then some (le t 4 1) else none)
  match hit with
  | some n => some n
  | none => if bitAt (ndWord nd 4) 27 then some (bits (ndWord nd 4) 26 19) else none

/-- State of the walk of R92. -/
structure Walk where
  h : PktMeta
  pos : Nat
  e : Nat
  lowered : Bool
  n : Nat
  count : Nat
  deriving DecidableEq, Repr

/-- record(n, p, l) of R92. -/
def record (f nd : Bytes) (p l : Nat) (w : Walk) : Walk :=
  let h := w.h
  let h := if ndSlot nd ≤ 7 then
      { h with slots := h.slots.set (ndSlot nd) { offset := p, htype := ndHtype nd, len := l, valid := true } } else h
  let h := { h with userFlags := h.userFlags ||| BitVec.ofNat 16 (ndWord nd 5) }
  let h := if ndCsum nd && decide (onesSum (slice f p l) ≠ 0xFFFF) then { h with l3CsumBad := true } else h
  { w with h := h, count := w.count + 1 }

/-- The loop of R92; the depth limit ends every walk. -/
def walk (b : ParseBank) (f : Bytes) (padLimit : Nat) : Nat → Walk → Walk
  | 0, w => { w with h := { w.h with deepDepth := true, parseDeep := true } }
  | fuel + 1, w =>
    let nd := nodeGet b w.n
    let pos := w.pos
    let fixed := ndFixed nd
    if !ndValid nd then { w with h := { w.h with nextUnknown := true } }
    else if w.e < pos + fixed then { w with h := { w.h with hdrTrunc := true } }
    else if 512 < pos + fixed then { w with h := { w.h with deepWindow := true, parseDeep := true } }
    else
      let hdr := slice f pos fixed
      let w1 := ndWord nd 1
      let len := if ndLenField nd then
          bitField hdr (bits w1 9 0) (bits w1 14 10) * 2 ^ bits w1 18 15 + bits w1 27 19 else fixed
      if len < fixed then
        let w := record f nd pos fixed { w with h := { w.h with lenBad := true } }
        { w with pos := pos + fixed }
      else
        let stop := pos + len
        if w.e < stop then { w with h := { w.h with hdrTrunc := true } }
        else if 512 < stop then { w with h := { w.h with deepWindow := true, parseDeep := true } }
        else
          let w := record f nd pos len w
          let w2 := ndWord nd 2
          let d := (if bitAt w2 15 then stop else pos) + bitField hdr (bits w2 9 0) (bits w2 14 10) * 2 ^ bits w2 19 16
          if ndBound nd && decide (d < stop) then { w with h := { w.h with lenBad := true }, pos := stop }
          else
            let w := if !ndBound nd || decide (d = w.e) then w
              else if w.e < d then { w with h := { w.h with lenOver := true } }
              else if !w.lowered && decide (f.length ≤ padLimit) then { w with e := d, lowered := true }
              else { w with h := { w.h with lenShort := true }, e := d, lowered := true }
            let w := { w with pos := stop }
            if ndTerminal nd then w
            else match nextNode b nd hdr with
              | some n => walk b f padLimit fuel { w with n := n }
              | none => { w with h := { w.h with nextUnknown := true } }

/-- Plane's rewriting of the metadata on a pass (R92, R97): it keeps the Rasp and L4 bits. -/
def parse (b : ParseBank) (padLimit : Nat) (f : Bytes) (h : PktMeta) : PktMeta :=
  let start := startGet b h.source
  let h := { h with
    cls := if h.pass = 0 then bits start 11 8 else h.cls
    frameLen := f.length, parseDeep := false, deepWindow := false, deepDepth := false, lenOver := false, lenShort := false,
    lenBad := false, hdrTrunc := false, nextUnknown := false, l3CsumBad := false, userFlags := 0, slots := List.replicate 8 {} }
  let w := walk b f padLimit 24 { h := h, pos := 0, e := f.length, lowered := false, n := bits start 7 0, count := 0 }
  { w.h with payloadOff := w.pos, effEnd := w.e, hdrCount := w.count }

/-! The start of a pass. -/

/-- A pass may start: the pipelines run and the packet's rail is in service (R570, R577, R271). -/
def canStart (s : State) (k : Pkt) : Bool := datapathOn s && railUp s (railOf k.hdr.pipeline)

/-- Slice that holds a calendar position (R41); none: the open share. -/
def calendarSlice (s : State) (pl pos : Nat) : Option Nat := mapGet s.slices.calendar (pl * 4096 + pos % 4096)

/-- A slice holds entries of a pipeline's calendar. -/
def hasReserved (s : State) (pl n : Nat) : Bool := s.slices.calendar.any (fun x => x.1 / 4096 = pl && x.2 = n)

/-- Packets of a slice that wait for a start in a pipeline. -/
def readyCount (s : State) (pl n : Nat) : Nat :=
  (s.pkts.filter (fun x => x.2.stage = .start && x.2.hdr.pipeline = pl && x.2.hdr.slice = n)).length

/-- The entry serves the packet's slice, or is open and the slice may use the open share (R43, R44, R132, R256). -/
def entryServes (s : State) (k : Pkt) (pos : Nat) : Bool :=
  let pl := k.hdr.pipeline
  let n := k.hdr.slice
  match calendarSlice s pl pos with
  | some x => x = n
  | none =>
    let twinOpen := !(k.hdr.twin && bothRails s && decide (k.hdr.pass = 0)) ||
      (calendarSlice s (if pl < 2 then pl + 2 else pl - 2) pos).isNone
    let eligible := match sliceGet s n with
      | some x => !hasReserved s pl n || (k.hdr.twin && !x.twin) || (x.openEligible && decide (1 < readyCount s pl n))
      | none => true
    twinOpen && eligible

/-- Order among waiting packets: a recirculated pass of the slice first (R43), and the packets of one flow in their order of entry
(R46). -/
def startsNext (s : State) (p : Nat) (k : Pkt) : Bool :=
  k.hdr.pass ≠ 0 ||
  !s.pkts.any (fun x =>
    x.1 ≠ p && x.2.stage = .start && x.2.hdr.pipeline = k.hdr.pipeline &&
    ((x.2.hdr.pass ≠ 0 && x.2.hdr.slice = k.hdr.slice) ||
     (x.2.hdr.pass = 0 && x.1 < p && ringOf x.2 = ringOf k)))

/-- The slice is not held up by a full retry list (R217). -/
def retryClear (s : State) (k : Pkt) : Bool :=
  let l := (s.csc.retry[k.hdr.pipeline]?).getD []
  decide (l.length < 4096) || !l.any (fun p => match pktGet s p with
    | some x => x.hdr.slice = k.hdr.slice
    | none => false)

/-- RASP_EN of the class that the start table names for the packet (R104). -/
def raspEnabled (s : State) (k : Pkt) : Bool :=
  let b := parseBankGet s (if k.started then k.hdr.pgBank else s.plane.cur)
  bitAt (classGet b (bits (startGet b k.hdr.source) 11 8)) 0

/-- A pipeline has a free Twin entry in its Rasp queue (R108, R109). -/
def twinEntryFree (s : State) (pl : Nat) : Bool :=
  decide ((s.pkts.filter (fun x => x.2.hdr.twin && x.2.hdr.pipeline = pl && x.2.hdr.pass = 0 &&
    (x.2.stage = .plane || x.2.stage = .raspQueue) && raspEnabled s x.2)).length < 16)

/-- First start (R85, R135, R136, R259): banks and Jig version are stamped and the packet takes its place in its order ring. -/
def firstStart (s : State) (p : Nat) (k : Pkt) : State :=
  let cur := if s.jig.slot0.state = .current then 0 else if s.jig.slot1.state = .current then 1
    else if s.jig.slot2.state = .current then 2 else 3
  let k := { k with started := true, stage := .plane,
                    hdr := { k.hdr with jigSlot := cur, jigVersion := (jigSlotGet s cur).version, pgBank := s.plane.cur,
                                        rspBank := s.rasp.cur } }
  let s := jigSlotMod s cur (fun x => { x with inflight := x.inflight + 1 })
  let s := parseBankMod s s.plane.cur (fun b => { b with inflight := b.inflight + 1 })
  let s := { s with twin := { s.twin with rings := mapModify s.twin.rings (ringOf k) [] (fun l => l ++ [p]) } }
  pktSet s p k

def startPass (s : State) (p : Nat) (k : Pkt) : State :=
  if k.started then pktSet s p { k with stage := .plane, pass := {}, jig := {} } else firstStart s p k

/-- The other copy of a Twin packet's pass that waits for its start. -/
def mateWaiting (s : State) (p : Nat) (k : Pkt) : Option (Nat × Pkt) :=
  s.pkts.find? (fun x => x.1 ≠ p && x.2.hdr.twin && x.2.stage = .start && x.2.stream = k.stream && x.2.hdr.twinSeq = k.hdr.twinSeq &&
    x.2.hdr.pass = 0 && k.hdr.pass = 0)

/-- In RESTRICTED the pipelines run the fixed path (R591): no class, no parse, no lookup. -/
def fixedPath (s : State) (p : Nat) (k : Pkt) : State :=
  let s := { s with twin := { s.twin with rings := mapModify s.twin.rings (ringOf k) [] (fun l => l ++ [p]) } }
  let v := if k.hdr.source ≤ 15 then
      (match holderEp s with
       | some ep => Verdict.fwdHost ep k.hdr.source
       | none => Verdict.drop)
    else match k.origin with
      | some o => Verdict.fwdPort (o.key % 8192)
      | none => Verdict.drop
  pktSet s p { k with stage := .exitOrder, verdict := some v }

/-- PASS_START (R41 to R44, R109, R256): the packet starts at an entry of its slice or of the open share; both copies of a Twin
packet make their first start in one clock. -/
def execPassStart (p pos : Nat) (s : State) : Host.Outcome State Fault Refusal :=
  match pktGet s p with
  | none => done s
  | some k =>
    if k.stage = .start ∧ canStart s k ∧ entryServes s k pos ∧ startsNext s p k ∧ retryClear s k then
      if s.dev.base = .restricted then done (fixedPath s p k)
      else match mateWaiting s p k with
        | some (p', k') =>
          if !raspEnabled s k || (twinEntryFree s k.hdr.pipeline && twinEntryFree s k'.hdr.pipeline) then
            done (unstall (startPass (startPass s p k) p' k'))
          else done s
        | none =>
          if k.hdr.twin && k.hdr.pass = 0 && raspEnabled s k && !twinEntryFree s k.hdr.pipeline then done s
          else done (unstall (startPass s p k))
    else done s

/-- TWIN_STREAM_WAIT_END (R258): the oldest waiting packet of a stream proceeds when fewer than 4,096 sequences are unfinished. -/
def execTwinStreamWaitEnd (p : Nat) (s : State) : Host.Outcome State Fault Refusal :=
  match pktGet s p with
  | none => done s
  | some k =>
    let st := twinStream k.hdr.source k.hdr.flowHash
    if k.stage = .streamWait ∧ unfinished s st < 4096 ∧
        ¬ s.pkts.any (fun x => x.1 < p && x.2.stage = .streamWait && twinStream x.2.hdr.source x.2.hdr.flowHash = st) then
      done (twinCopies (pktErase s p) k)
    else done s

/-! The end of the parse. -/

/-- Condition counters of a pass (R100, R120). -/
def countParse (s : State) (h : PktMeta) : State :=
  let pl := h.pipeline
  let c := fun (s : State) (b : Bool) (a : Nat) => if b then bump s a else s
  let s := c s h.deepWindow (r_PLN_CNT_DEEP_WINDOW pl)
  let s := c s h.deepDepth (r_PLN_CNT_DEEP_DEPTH pl)
  let s := c s h.lenOver (r_PLN_CNT_LEN_OVER pl)
  let s := c s h.lenShort (r_PLN_CNT_LEN_SHORT pl)
  let s := c s h.lenBad (r_PLN_CNT_LEN_BAD pl)
  let s := c s h.hdrTrunc (r_PLN_CNT_HDR_TRUNC pl)
  let s := c s h.nextUnknown (r_PLN_CNT_NEXT_UNKNOWN pl)
  c s h.l3CsumBad (r_PLN_CNT_L3_CSUM_BAD pl)

/-- Split packets in the shared entries of a pipeline's Rasp queue (R108). -/
def splitQueued (s : State) (pl : Nat) : Nat :=
  (((s.rasp.queues[pl]?).getD []).filter (fun p => match pktGet s p with
    | some x => !x.hdr.twin
    | none => false)).length

/-- The receive checksum unit on pass 0 of a network frame (R346). Answers whether the frame was checked, and whether it is bad. -/
def l4Check (s : State) (k : Pkt) (h : PktMeta) : Bool × Bool :=
  let types := (reg s r_MAC_CSUM_TYPES).toNat
  let tV4 := bits types 7 0
  let tV6 := bits types 15 8
  let tTcp := bits types 23 16
  let tUdp := bits types 31 24
  let best := fun (ok : LayerSlot → Bool) =>
    h.slots.foldl (fun (a : Option LayerSlot) x => if x.valid && ok x then
      (match a with
       | some y => if y.offset < x.offset then some x else a
       | none => some x) else a) none
  if regField s r_MAC_CSUM_CTRL 0 0 = 0 ∨ k.hdr.source > 15 ∨ h.pass ≠ 0 then (false, false)
  else match best (fun x => x.htype = tTcp || x.htype = tUdp) with
    | none => (false, false)
    | some l4 => match best (fun x => decide (x.offset < l4.offset) && (x.htype = tV4 || x.htype = tV6)) with
      | none => (false, false)
      | some l3 =>
        let f := k.frame
        let v4 : Bool := l3.htype = tV4
        let udp : Bool := l4.htype = tUdp
        let frag := v4 && decide (be f (l3.offset + 6) 2 % 0x4000 ≠ 0)
        let len := h.effEnd - l4.offset
        let proto := if udp then 17 else 6
        let pseudo := if v4 then slice f (l3.offset + 12) 8 ++ toBe 2 proto ++ toBe 2 len
          else slice f (l3.offset + 8) 32 ++ toBe 4 len ++ toBe 4 proto
        let zeroUdp := udp && decide (be f (l4.offset + 6) 2 = 0)
        let tunnelOk := bitAt (reg s r_CRY_TNL_CTRL).toNat h.cls
        if frag then (false, false)
        else if zeroUdp && (v4 || tunnelOk) then (false, false)
        else if zeroUdp then (true, true)
        else (true, decide (onesSum (pseudo ++ slice f l4.offset len) ≠ 0xFFFF))

/-- PARSE_COMPLETE (R92 to R100, R104, R108, R346): the metadata is written and the pass goes to Rasp's queue or to Jig. -/
def execParseComplete (p : Nat) (s : State) : Host.Outcome State Fault Refusal :=
  match pktGet s p with
  | none => done s
  | some k =>
    if k.stage = .plane then
      let h := parse (parseBankGet s k.hdr.pgBank) (hwUse s 0x038) k.frame k.hdr
      let (checked, bad) := l4Check s k h
      let h := if checked then { h with l4CsumBad := bad } else h
      let k := { k with hdr := h, l4Checked := k.l4Checked || checked }
      let s := countParse (hwCount s 0x038) h
      if h.pass = 0 ∧ raspEnabled s k then
        if !h.twin && decide (48 ≤ splitQueued s h.pipeline) then
          done (bump (pktSet s p { k with stage := .jig, hdr := { h with raspSkip := true, raspDone := true } })
            (r_RSP_CNT_SKIPPED h.pipeline))
        else
          let s := patternBankMod s h.rspBank (fun b => { b with pending := b.pending + 1 })
          done (pktSet { s with rasp := { s.rasp with queues := s.rasp.queues.modify h.pipeline (fun q => q ++ [p]) } } p
            { k with stage := .raspQueue })
      else done (pktSet s p { k with stage := .jig })
    else done s

/-! Rasp. -/

/-- Bytes compare equal, with NOCASE when asked (R105). -/
def sameByte (nocase : Bool) (a b : Byte) : Bool :=
  a = b || (nocase && a ^^^ b = 0x20#8 && (let u := a.toNat &&& 0xDF; decide (65 ≤ u ∧ u ≤ 90)))

def matchAt (pat : Bytes) (nocase : Bool) (text : Bytes) : Bool :=
  match pat, text with
  | [], _ => true
  | _, [] => false
  | x :: xs, y :: ys => sameByte nocase x y && matchAt xs nocase ys

/-- Matches of one pattern in a scan range: their offsets (R105). -/
def patMatches (e text : Bytes) : List Nat :=
  let w0 := le e 0 4
  let w1 := le e 4 4
  let len := bits w0 6 0
  let pat := slice e 8 len
  if bitAt w0 13 then
    (List.range (text.length + 1)).filter (fun o =>
      decide (bits w1 11 0 ≤ o ∧ o ≤ bits w1 23 12 ∧ o + len ≤ text.length) && matchAt pat (bitAt w0 7) (text.drop o))
  else []

/-- Scan range of a packet (R104). -/
def scanRange (k : Pkt) : Bytes :=
  slice k.frame k.hdr.payloadOff (min 4096 (k.hdr.effEnd - k.hdr.payloadOff))

/-- Results of a scan (R106): count, groups, first. -/
def scan (b : PatternBank) (text : Bytes) : Nat × Word × Nat :=
  let ms := b.pats.flatMap (fun x => (patMatches x.2 text).map (fun o => (o, x.1, bits (le x.2 0 4) 12 8)))
  let first := ms.foldl (fun (a : Option (Nat × Nat)) m =>
    match a with
    | some (o, i) => if m.1 < o ∨ (m.1 = o ∧ m.2.1 < i) then some (m.1, m.2.1) else a
    | none => some (m.1, m.2.1)) none
  (min 7 ms.length, ms.foldl (fun g m => g ||| BitVec.ofNat 32 (2 ^ m.2.2)) 0,
   match first with
   | some (_, i) => i
   | none => 0)

/-- RASP_SCAN_START (R107): the oldest queued packet of a pipeline takes a free lane of its four. -/
def execRaspScanStart (p : Nat) (s : State) : Host.Outcome State Fault Refusal :=
  match pktGet s p with
  | none => done s
  | some k =>
    let pl := k.hdr.pipeline
    if k.stage = .raspQueue ∧ ((s.rasp.queues[pl]?).getD []).head? = some p ∧ (s.rasp.lanes[pl]?).getD 0 < 4 then
      done (pktSet { s with rasp := { s.rasp with queues := s.rasp.queues.modify pl (fun q => q.drop 1),
                                                  lanes := s.rasp.lanes.modify pl (· + 1) } } p { k with stage := .raspScan })
    else done s

/-- RASP_SCAN_COMPLETE (R104 to R106): the results are written, the lane is free and the pass goes to Jig. -/
def execRaspScanComplete (p : Nat) (s : State) : Host.Outcome State Fault Refusal :=
  match pktGet s p with
  | none => done s
  | some k =>
    if k.stage = .raspScan then
      let pl := k.hdr.pipeline
      let text := scanRange k
      let (n, groups, first) := scan (patternBankGet s k.hdr.rspBank) text
      let s := { s with rasp := { s.rasp with lanes := s.rasp.lanes.modify pl (· - 1) } }
      let s := patternBankMod s k.hdr.rspBank (fun b => { b with pending := b.pending - 1 })
      let s := bump64 (bump s (r_RSP_CNT_SCANNED pl)) (r_RSP_BYTES pl) text.length
      let s := if n = 0 then s else bump s (r_RSP_CNT_MATCHED pl)
      done (pktSet s p { k with stage := .jig, hdr := { k.hdr with raspDone := true, rspCount := n, rspGroups := groups,
                                                                   rspFirst := first } })
    else done s

/-! Bank commits. -/

/-- A field of the node ends within its first FIXED_LEN bytes (R91). -/
def fieldFits (nd : Bytes) (off w : Nat) : Bool := decide (off + w ≤ 8 * ndFixed nd)

/-- A node breaks R113. -/
def nodeFault (b : ParseBank) (nd : Bytes) : Bool :=
  let w1 := ndWord nd 1
  let w2 := ndWord nd 2
  let w3 := ndWord nd 3
  let w4 := ndWord nd 4
  let badW := fun (w : Nat) => decide (w = 0 ∨ 16 < w)
  ndFixed nd = 0 ||
  (ndLenField nd && badW (bits w1 14 10)) || (ndBound nd && badW (bits w2 14 10)) || decide (16 < bits w3 14 10) ||
  (ndLenField nd && !fieldFits nd (bits w1 9 0) (bits w1 14 10)) || (ndBound nd && !fieldFits nd (bits w2 9 0) (bits w2 14 10)) ||
  !fieldFits nd (bits w3 9 0) (bits w3 14 10) ||
  decide (4096 < bits w4 11 0 + bits w4 18 12) ||
  decide (8 ≤ ndSlot nd ∧ ndSlot nd ≤ 14) ||
  (bitAt w4 27 && !ndValid (nodeGet b (bits w4 26 19)))

/-- Transition entries in the range of a valid node (R113). -/
def transUsed (b : ParseBank) (i : Nat) : Bool :=
  (List.range 256).any (fun n =>
    let nd := nodeGet b n
    let w4 := ndWord nd 4
    ndValid nd && decide (bits w4 11 0 ≤ i ∧ i < bits w4 11 0 + bits w4 18 12))

def transFault (b : ParseBank) (i : Nat) : Bool :=
  let t := transGet b i
  bitAt (le t 4 4) 8 && transUsed b i && !ndValid (nodeGet b (le t 4 1))

/-- A class entry holds 3 in a policy field (R98, R113). -/
def classFault (c : Nat) : Bool :=
  bits c 2 1 = 3 || bits c 4 3 = 3 || bits c 6 5 = 3 || bits c 8 7 = 3 || bits c 10 9 = 3 || bits c 12 11 = 3

/-- The first faulty record of a staging parse graph: KIND and index (R113). -/
def graphFault (b : ParseBank) : Option (Nat × Nat) :=
  match (List.range 256).find? (fun n => ndValid (nodeGet b n) && nodeFault b (nodeGet b n)) with
  | some n => some (0, n)
  | none => match (b.trans.map (fun x => x.1)).find? (transFault b) with
    | some i => some (1, i)
    | none => match (List.range 19).find? (fun i => !ndValid (nodeGet b (bits (startGet b i) 7 0))) with
      | some i => some (2, i)
      | none => match (List.range 16).find? (fun i => classFault (classGet b i)) with
        | some i => some (3, i)
        | none => none

/-- The first faulty entry of a staging pattern bank (R113). -/
def patternFault (b : PatternBank) : Option Nat :=
  (b.pats.find? (fun x =>
    let w0 := le x.2 0 4
    let w1 := le x.2 4 4
    bitAt w0 13 && (bits w0 6 0 = 0 || decide (64 < bits w0 6 0) || decide (bits w1 23 12 < bits w1 11 0)))).map (fun x => x.1)

/-- Response of the bank commits (R117). -/
def bankResponse (bank kind index : Nat) (tag : Word) : Bytes := toLe 1 bank ++ toLe 1 kind ++ toLe 2 index ++ toLe 4 tag.toNat

/-- PARSE_VALIDATE_DONE (R110, R113): a fault refuses the commit and changes nothing else. -/
def execParseValidateDone (rasp : Bool) (s : State) : Host.Outcome State Fault Refusal :=
  if rasp then
    match s.rasp.commit with
    | some c =>
      if c.validated then done s
      else match patternFault (patternBankGet s (1 - s.rasp.cur)) with
        | some i =>
          done (answer { s with rasp := { s.rasp with commit := none } } c.chan c.seq rcBadParam
            (bankResponse s.rasp.cur 0 i (patternBankGet s s.rasp.cur).tag))
        | none => done { s with rasp := { s.rasp with commit := some { c with validated := true } } }
    | none => done s
  else
    match s.plane.commit with
    | some c =>
      if c.validated then done s
      else match graphFault (parseBankGet s (1 - s.plane.cur)) with
        | some (kind, i) =>
          done (answer { s with plane := { s.plane with commit := none } } c.chan c.seq rcBadParam
            (bankResponse s.plane.cur kind i (parseBankGet s s.plane.cur).tag))
        | none => done { s with plane := { s.plane with commit := some { c with validated := true } } }
    | none => done s

/-- PARSE_BANK_SWITCH (R110): the validated staging bank becomes current, and firmware answers. -/
def execParseBankSwitch (rasp : Bool) (s : State) : Host.Outcome State Fault Refusal :=
  if rasp then
    match s.rasp.commit with
    | some c =>
      if c.validated then
        let n := 1 - s.rasp.cur
        let s := patternBankMod { s with rasp := { s.rasp with cur := n, stageReady := false, commit := none } } n
          (fun b => { b with tag := c.tag })
        done (answer s c.chan c.seq rcOk (bankResponse n 0 0 c.tag))
      else done s
    | none => done s
  else
    match s.plane.commit with
    | some c =>
      if c.validated then
        let n := 1 - s.plane.cur
        let s := parseBankMod { s with plane := { s.plane with cur := n, stageReady := false, commit := none } } n
          (fun b => { b with tag := c.tag })
        done (answer s c.chan c.seq rcOk (bankResponse n 0 0 c.tag))
      else done s
    | none => done s

/-- STAGE_BANK_COPY (R111): an old bank without packets takes the current bank's contents and may be written. -/
def execStageBankCopy (rasp : Bool) (s : State) : Host.Outcome State Fault Refusal :=
  if rasp then
    let old := 1 - s.rasp.cur
    if !s.rasp.stageReady && (patternBankGet s old).pending = 0 then
      done (patternBankMod { s with rasp := { s.rasp with stageReady := true } } old
        (fun b => { b with pats := (patternBankGet s s.rasp.cur).pats }))
    else done s
  else
    let old := 1 - s.plane.cur
    if !s.plane.stageReady && (parseBankGet s old).inflight = 0 then
      let c := parseBankGet s s.plane.cur
      done (parseBankMod { s with plane := { s.plane with stageReady := true } } old
        (fun b => { b with nodes := c.nodes, trans := c.trans, starts := c.starts, classes := c.classes }))
    else done s

/-! Commands (R114 to R117). -/

/-- Number of records of a parse-graph KIND, and the largest COUNT of a command (R115). -/
def parseTable (kind : Nat) : Nat × Nat :=
  if kind = 0 then (256, 7) else if kind = 1 then (4096, 30) else if kind = 2 then (19, 19) else if kind = 3 then (16, 16) else (0, 0)

/-- The request's KIND, FIRST, COUNT and BANK are in range (R115). -/
def parseRange (req : Bytes) (write : Bool) : Bool :=
  let (n, mx) := parseTable (le req 0 2)
  let first := le req 2 2
  let count := le req 4 2
  decide (1 ≤ count ∧ count ≤ mx ∧ first + count ≤ n) && (if write then byteAt req 6 = 0 else decide (byteAt req 6 ≤ 1))

/-- A staging bank accepts writes and commits (R112). -/
def planeReady (s : State) : Bool := s.plane.stageReady && s.plane.commit.isNone
def raspReady (s : State) : Bool := s.rasp.stageReady && s.rasp.commit.isNone

/-- Keeps a table sparse: a record equal to the table's unlisted record is not listed. -/
def putRec (m : AMap Bytes) (i : Nat) (d r : Bytes) : AMap Bytes := if r = d then mapErase m i else mapSet m i r

def parsePut (kind : Nat) (b : ParseBank) (i : Nat) (r : Bytes) : ParseBank :=
  if kind = 0 then { b with nodes := putRec b.nodes i resetNode r }
  else if kind = 1 then { b with trans := putRec b.trans i (zeros 8) r }
  else if kind = 2 then { b with starts := putRec b.starts i (zeros 4) r }
  else { b with classes := putRec b.classes i (zeros 4) r }

def parseRec (kind : Nat) (b : ParseBank) (i : Nat) : Bytes :=
  if kind = 0 then nodeGet b i else if kind = 1 then transGet b i
  else if kind = 2 then toLe 4 (startGet b i) else toLe 4 (classGet b i)

/-- PARSE_GRAPH_WRITE (R112, R115). -/
def execParseGraphWrite (ch seq : Nat) (s : State) : Host.Outcome State Fault Refusal :=
  command s ch seq 0x0440 (fun req =>
    let kind := le req 0 2
    let size := parseRecSize kind
    if !parseRange req true then answer s ch seq rcBadParam []
    else if !planeReady s then answer s ch seq rcBusy []
    else
      let s := parseBankMod s (1 - s.plane.cur) (fun b =>
        (List.range (le req 4 2)).foldl (fun b i => parsePut kind b (le req 2 2 + i) (slice req (8 + size * i) size)) b)
      answer s ch seq rcOk [])

/-- PARSE_GRAPH_READ (R115). -/
def execParseGraphRead (ch seq : Nat) (s : State) : Host.Outcome State Fault Refusal :=
  command s ch seq 0x0441 (fun req =>
    if !parseRange req false then answer s ch seq rcBadParam []
    else
      let b := parseBankGet s (byteAt req 6)
      answer s ch seq rcOk (req ++ (List.range (le req 4 2)).flatMap (fun i => parseRec (le req 0 2) b (le req 2 2 + i))))

/-- PARSE_GRAPH_COMMIT (R110, R112, R117): firmware validates, then the bank switches; answered by those steps. -/
def execParseGraphCommit (ch seq : Nat) (s : State) : Host.Outcome State Fault Refusal :=
  command s ch seq 0x0442 (fun req =>
    if !planeReady s then answer s ch seq rcBusy (bankResponse s.plane.cur 0 0 (parseBankGet s s.plane.cur).tag)
    else defer { s with plane := { s.plane with
      commit := some { chan := ch, seq := seq, tag := BitVec.ofNat 32 (le req 0 4), validated := false } } } ch seq)

/-- FIRST, COUNT and BANK of the pattern commands (R116). -/
def patternRange (req : Bytes) (write : Bool) : Bool :=
  let first := le req 0 2
  let count := le req 2 2
  decide (1 ≤ count ∧ count ≤ 3 ∧ first + count ≤ 8192) && (if write then byteAt req 4 = 0 else decide (byteAt req 4 ≤ 1))

/-- RASP_PATTERN_WRITE (R112, R116). -/
def execRaspPatternWrite (ch seq : Nat) (s : State) : Host.Outcome State Fault Refusal :=
  command s ch seq 0x0448 (fun req =>
    if !patternRange req true then answer s ch seq rcBadParam []
    else if !raspReady s then answer s ch seq rcBusy []
    else
      let s := patternBankMod s (1 - s.rasp.cur) (fun b =>
        (List.range (le req 2 2)).foldl (fun b i =>
          { b with pats := putRec b.pats (le req 0 2 + i) (zeros 72) (slice req (8 + 72 * i) 72) }) b)
      answer s ch seq rcOk [])

/-- RASP_PATTERN_READ (R116). -/
def execRaspPatternRead (ch seq : Nat) (s : State) : Host.Outcome State Fault Refusal :=
  command s ch seq 0x0449 (fun req =>
    if !patternRange req false then answer s ch seq rcBadParam []
    else
      let b := patternBankGet s (byteAt req 4)
      answer s ch seq rcOk (req ++ (List.range (le req 2 2)).flatMap (fun i => mapGetD b.pats (le req 0 2 + i) (zeros 72))))

/-- RASP_COMMIT (R110, R112, R117). -/
def execRaspCommit (ch seq : Nat) (s : State) : Host.Outcome State Fault Refusal :=
  command s ch seq 0x044A (fun req =>
    if !raspReady s then answer s ch seq rcBusy (bankResponse s.rasp.cur 0 0 (patternBankGet s s.rasp.cur).tag)
    else defer { s with rasp := { s.rasp with
      commit := some { chan := ch, seq := seq, tag := BitVec.ofNat 32 (le req 0 4), validated := false } } } ch seq)

end Sys2Proof.Machine
end

