-- ==== Sys2Proof/Machine/RailOps.lean ====
section
/-! DEFINITION. Shared operations of the engine complex and of the rails: threads, work items and parcels (R213 to R221), the retirement
of an engine (R241 to R243) and of a rail (R268, R271, R272). -/

namespace Sys2Proof.Machine

open Sys2Proof

/-! Threads and slots (R205 to R209). -/

/-- Thread `t` (slot 0 to 63) of cluster `q` (rail × 4 + cluster). -/
def thGet (s : State) (q t : Nat) : Thread := mapGetD (clusterGet s q).threads t {}

def thSet (s : State) (q t : Nat) (x : Thread) : State :=
  clusterMod s q (fun c => { c with threads := mapSet c.threads t x })

def thMod (s : State) (q t : Nat) (f : Thread → Thread) : State := thSet s q t (f (thGet s q t))

/-- Physical engine of a slot (R30, R205); none when its position has no engine or it is being loaded. -/
def engineOf (s : State) (q t : Nat) : Option Nat :=
  let e := clusterEngine s q (t / 8)
  if e = 0xFF then none else some (34 * (q / 4) + e)

/-- Slot of the supervisor: 7, or thread 7 of the lowest position with an engine (R207, R243). -/
def supervisorSlot (s : State) (q : Nat) : Nat := (clusterGet s q).supSlot

/-- Worker slots that have an engine. -/
def workerSlots (s : State) (q : Nat) : List Nat :=
  (List.range 64).filter (fun t => t ≠ supervisorSlot s q && (engineOf s q t).isSome)

/-- Threads a slice reserves in a cluster (R219, R220): CLUSTERS names it, on every rail of the rail mask. -/
def resThreads (x : Slice) (q : Nat) : Nat :=
  if bitAt (bits x.cscWeight.toNat 17 14) (q % 4) && bitAt x.railMask (q / 4) then bits x.cscWeight.toNat 13 8 else 0

def resThreadsOf (s : State) (q n : Nat) : Nat :=
  match sliceGet s n with
  | some x => resThreads x q
  | none => 0

/-- Threads reserved in a cluster (R220). -/
def resTotal (s : State) (q : Nat) : Nat := (s.slices.tab.map (fun p => resThreads p.2 q)).sum

/-- The slice may use the open share of a cluster (R221). -/
def openShare (s : State) (q n : Nat) : Bool :=
  match sliceGet s n with
  | some x => resThreads x q = 0 || x.openEligible
  | none => true

/-! Work items (R213). -/

/-- An index of the work table that holds no item, from `start` on; the entry taken is the adapter's choice. -/
def freeHandle (w : AMap WorkItem) (start : Nat) : Nat → Nat
  | 0 => start % 65536
  | n + 1 => if mapHas w (start % 65536) then freeHandle w (start + 1) n else start % 65536

/-- Whether a slice finds a free work-table entry: reserved (true), or of the open share (R217, R220, R221). -/
def freeEntry (s : State) (q n : Nat) : Option Bool :=
  let w := (clusterGet s q).work
  let mine := (w.filter (fun x => x.2.slice = n && x.2.reserved)).length
  let open_ := (w.filter (fun x => !x.2.reserved)).length
  if mine < 1024 * resThreadsOf s q n then some true
  else if openShare s q n && decide (open_ < 65536 - 1024 * resTotal s q) then some false
  else none

def kindCode : ItemKind → Nat
  | .toEngine => 0
  | .parsePolicy => 1
  | .actTtl => 2
  | .actPassLimit => 3
  | .actOpLimit => 4
  | .actLookupLimit => 5
  | .actBadRecord => 6
  | .forkArg => 7

/-- The 16 bytes of a Jig result (R129). -/
def jigBytes (j : JigResult) : Bytes :=
  toLe 4 (j.rule + 65536 * b2n j.hit + 131072 * b2n j.drop) ++ toLe 4 j.action ++ toLe 4 j.cookie.toNat ++
    toLe 4 (j.version + 65536 * j.slot)

/-- The copy whose shared-state side effects take effect (R174): that on rail A while it is in service; every Split copy. -/
def ownsSideEffects (s : State) (k : Pkt) : Bool := !k.hdr.twin || railOf k.hdr.pipeline = (if railUp s 0 then 0 else 1)

/-- The parcel of an item (R214). FRAME_ADDR and PAGE_LIST are addresses the adapter chooses. -/
def parcelBytes (s : State) (k : Pkt) (kind : ItemKind) (reason opIndex handle : Nat) : Bytes :=
  let (head, pages) := match mapGet s.basin.frames k.fid with
    | some f => (f.head, f.pages)
    | none => (true, 0)
  metaBytes k.hdr ++ jigBytes k.jig ++ toLe 1 (kindCode kind) ++ toLe 1 reason ++ toLe 1 opIndex ++
    toLe 1 (2 * b2n (ownsSideEffects s k) + 4 * b2n (!head)) ++ toLe 4 k.pass.recIdx ++ toLe 8 k.stamp.toNat ++ toLe 2 handle ++
    toLe 2 (min 512 k.frame.length) ++ toLe 4 (Config.freeNat s.fresh) ++
    toLe 8 (if pages = 0 then 0 else Config.freeNat (s.fresh + 1)) ++ zeros 16 ++
    ((List.range 16).flatMap (fun i => toLe 8 ((k.pass.g[i]?).getD 0).toNat)) ++ fit (k.frame.take 512) 512 ++ zeros 256

/-- Queues a work item of a pass when its slice finds an entry (R213, R217). -/
def queueItem (s : State) (p : Nat) (k : Pkt) (q : Nat) (kind : ItemKind) (reason opIndex : Nat) : Option State :=
  match freeEntry s q k.hdr.slice with
  | none => none
  | some reserved =>
    let c := clusterGet s q
    let h := freeHandle c.work (Config.freeNat (s.fresh + 2)) (c.work.length + 1)
    let it : WorkItem := { state := .queued, pid := p, slice := k.hdr.slice, reserved := reserved, kind := kind, reason := reason,
                           opIndex := opIndex, restarted := false, restarts := 0,
                           parcel := parcelBytes s k kind reason opIndex h }
    let s := clusterSet s q { c with work := mapSet c.work h it, order := c.order ++ [h] }
    some (pktSet { s with fresh := s.fresh + 3 } p { k with stage := .cascade, item := some (q, h) })

/-- Cluster of an exception (R216): the one a TO_ENGINE names, else FLOW_HASH[3:2], on the rail of the pass. -/
def exceptionCluster (k : Pkt) : Nat := 4 * railOf k.hdr.pipeline + bits k.hdr.flowHash.toNat 3 2

/-- An exception (R214 to R217): a work item; with no entry, a lossy network packet is dropped and any other waits in the retry list. -/
def exception (s : State) (p : Nat) (k : Pkt) (q : Nat) (kind : ItemKind) (reason opIndex : Nat) : State :=
  match queueItem s p k q kind reason opIndex with
  | some s => s
  | none =>
    let host : Bool := k.hdr.source = 16 || k.hdr.source = 17
    if k.lossless || host then
      let s := bump s (r_CSC_CNT_RETRY q)
      pktSet { s with csc := { s.csc with retry := s.csc.retry.modify k.hdr.pipeline (fun l => l ++ [p]) } } p
        { k with stage := .retry, item := some (q, reason), pass := { k.pass with fault := some kind, op := opIndex } }
    else passDrop (bump (pktSet s p k) (r_CSC_CNT_EXC_DROP q)) p

/-- A work item ends: its entry is FREE (R213). -/
def itemFree (s : State) (q h : Nat) : State :=
  clusterMod s q (fun c => { c with work := mapErase c.work h, order := c.order.filter (fun x => x ≠ h) })

/-- An item goes back to the head of its queue, with RESTARTED set in its parcel (R239, R241). -/
def itemRequeue (s : State) (q h : Nat) : State :=
  clusterMod s q (fun c =>
    { c with order := h :: c.order.filter (fun x => x ≠ h),
             work := mapUpdate c.work h (fun it =>
               { it with state := .queued, restarted := true,
                         parcel := splice it.parcel 0x053 [BitVec.ofNat 8 (byteAt it.parcel 0x053 ||| 1)] }) })

/-- A message for the supervisor: it enters the event channel, or stays staged while that is full (R224, R240). -/
def supervisorEvent (s : State) (q : Nat) (words : List Dword) : State :=
  clusterMod s q (fun c =>
    let e := mapGetD c.channels 255 { depth := 64, reader := 7 }
    if e.msgs.length < 64 then { c with channels := mapSet c.channels 255 { e with msgs := e.msgs ++ [words] } }
    else { c with stagedRecords := c.stagedRecords ++ [words] })

/-- A fault record (R240): class, slot, HANDLE, program counter, address and stamp. -/
def faultRecord (s : State) (q cls slot handle pc addr : Nat) : State :=
  let s := bump s (r_CSC_CNT_FAULT q)
  let s := trace s (4 + q) 3 (2 * (q / 4)) 0xFFF 0 (toLe 1 cls ++ toLe 1 slot ++ zeros 2 ++ toLe 8 pc)
  supervisorEvent s q [BitVec.ofNat 64 (1 + 256 * cls + 65536 * slot + 2 ^ 32 * handle), BitVec.ofNat 64 pc, BitVec.ofNat 64 addr,
    stampNow s]

/-- Handles in a thread's frames. -/
def thFrames (x : Thread) : List Nat := x.frame0.toList ++ x.frame1.toList

/-- Handles of ACTIVE items in a thread's frames. -/
def activeItems (s : State) (q t : Nat) : List Nat :=
  (thFrames (thGet s q t)).filter (fun h => match mapGet (clusterGet s q).work h with
    | some it => it.state = .active
    | none => false)

/-- An exit value reaches the parent's local word and the child leaves its list (R235). -/
def childExits (s : State) (q t : Nat) (value : Nat) : State :=
  match (thGet s q t).parent with
  | none => s
  | some pr =>
    let s := match engineOf s q pr with
      | some e => { s with mem := memWriteN s.mem (0x1200000000 + e * 0x40000 + 0x20000 + 8 * t) (toLe 8 value) }
      | none => s
    thMod s q pr (fun x => { x with children := x.children.filter (fun c => c ≠ t) })

/-- A thread waits for space in no channel any more. -/
def dropWriter (s : State) (q t : Nat) : State :=
  { s with csc := { s.csc with clusters := s.csc.clusters.map (fun c =>
      (c.1, { c.2 with channels := c.2.channels.map (fun e =>
        (e.1, { e.2 with writers := e.2.writers.filter (fun w => w ≠ 64 * q + t) })) })) } }

/-- Threads of a cluster reserved to a slice now. -/
def resHeld (s : State) (q n : Nat) : Nat := ((clusterGet s q).threads.filter (fun t => t.2.reserved && t.2.slice = n)).length

/-- The reservation of a slot that becomes FREE: its own while its slice still needs it, else that of a slice that lacks a thread (R220,
R558: threads given up finish their items first). -/
def slotClaim (s : State) (q : Nat) (x : Thread) : Bool × Nat :=
  if x.reserved ∧ resHeld s q x.slice ≤ resThreadsOf s q x.slice then (true, x.slice)
  else match s.slices.tab.find? (fun p => resHeld s q p.1 < resThreads p.2 q) with
    | some p => (true, p.1)
    | none => (false, 0xFFF)

/-- Reserves FREE open threads of a cluster to a slice as far as it needs them; which ones is the adapter's choice. -/
def reserveFree (q n : Nat) : Nat → State → State
  | 0, s => s
  | k + 1, s =>
    if resThreadsOf s q n ≤ resHeld s q n then s
    else
      let (t, s) := pickFrom s ((workerSlots s q).filter (fun t => (thGet s q t).state = .free && !(thGet s q t).reserved))
      match t with
      | some t => reserveFree q n k (thMod s q t (fun y => { y with reserved := true, slice := n }))
      | none => s

/-- Gives up FREE reserved threads of a cluster that a slice needs no longer. -/
def unreserveFree (s : State) (q n : Nat) : State :=
  (workerSlots s q).foldl (fun s t =>
    let x := thGet s q t
    if x.state = .free ∧ x.reserved ∧ x.slice = n ∧ resThreadsOf s q n < resHeld s q n then
      thSet s q t { x with reserved := false, slice := 0xFFF } else s) s

/-- A thread becomes FREE: its staged words, frames and wait are gone (R223, R239), and its children have no parent. The reservation of its
slot (as `slotClaim` has it) and the contents of its registers stay. -/
def thFree (s : State) (q t : Nat) : State :=
  let x := thGet s q t
  let s := x.children.foldl (fun s c => thMod s q c (fun y => { y with parent := none })) s
  let (res, n) := slotClaim s q x
  dropWriter (thSet s q t { reserved := res, slice := n, regs := x.regs }) q t

/-! Engine retirement (R241 to R243). -/

/-- An ACTIVE item of a stopped thread goes back to its queue, or is held after a second restart (R241, R242). -/
def restartItem (s : State) (q h : Nat) : State :=
  match mapGet (clusterGet s q).work h with
  | none => s
  | some it =>
    if it.restarts = 0 then
      bump (itemRequeue (clusterMod s q (fun c => { c with work := mapSet c.work h { it with restarts := 1 } })) q h)
        (r_CSC_CNT_RESTART q)
    else
      let s := clusterMod s q (fun c => { c with work := mapSet c.work h { it with state := .held, restarts := it.restarts + 1 } })
      let s := errlog s 0x0152 (7 + q / 4) 0xFFFF 0 (toLe 1 (q / 4) ++ toLe 1 (q % 4) ++ toLe 2 h)
      faultRecord s q 0 0 h 0 0

/-- A thread of a failed engine stops: its items restart and it is gone. -/
def stopThread (s : State) (q : Nat) (s0 : Nat) : State :=
  let hs := activeItems s q s0
  thFree (childExits (hs.foldl (fun s h => restartItem s q h) s) q s0 0xFFFFFFFFFFFFFFFF) q s0

/-- A reserved slot of a lost engine moves to an open thread of the cluster (R241); which one is the adapter's choice. -/
def moveReserved (s : State) (q t : Nat) : State :=
  let x := thGet s q t
  if x.reserved then
    let (to_, s) := pickFrom s ((workerSlots s q).filter (fun u => !(thGet s q u).reserved))
    let s := thSet s q t {}
    match to_ with
    | some u => thMod s q u (fun y => { y with reserved := true, slice := x.slice })
    | none => s
  else s

def engState (s : State) (e : Nat) : EngState :=
  mapGetD s.csc.engines e (if e % 34 < 32 then .inService else .spare)

def engSet (s : State) (e : Nat) (x : EngState) : State := { s with csc := { s.csc with engines := mapSet s.csc.engines e x } }

/-- Cluster and position of a physical engine in service. -/
def enginePlace (s : State) (e : Nat) : Option (Nat × Nat) :=
  let rail := e / 34
  (List.range 32).findSome? (fun i =>
    let q := 4 * rail + i / 8
    if clusterEngine s q (i % 8) = e % 34 then some (q, i % 8) else none)

/-- The lowest spare of a rail's island that is SPARE. -/
def spareOf (s : State) (rail : Nat) : Option Nat :=
  [34 * rail + 32, 34 * rail + 33].find? (fun e => engState s e = .spare)

/-- The whole map of a cluster, position by position. -/
def clusterMap (s : State) (q : Nat) : List Nat := (List.range 8).map (fun p => clusterEngine s q p)

/-- The supervisor runs on thread 7 of the lowest position with an engine (R243). -/
def placeSupervisor (s : State) (q : Nat) : State :=
  match (List.range 8).find? (fun p => clusterEngine s q p ≠ 0xFF) with
  | some p => clusterMod s q (fun c => { c with supSlot := 8 * p + 7 })
  | none => clusterMod s q (fun c => { c with supRun := false })

/-- Retires engine `e` with fault class `cls` (R241, R248, R249): its threads stop, its items restart, its reserved slots move, and a
spare begins to load. `cause` is that of UNIT_RETIRED. -/
def retireEngine (s : State) (e cls cause : Nat) : State :=
  match enginePlace s e with
  | none => s
  | some (q, pos) =>
    let before := s
    let s := (List.range 8).foldl (fun s t => stopThread s q (8 * pos + t)) s
    let s := engSet s e .retired
    let s := clusterMod s q (fun c => { c with map := (clusterMap s q).set pos 0xFF })
    let s := (List.range 8).foldl (fun s t => moveReserved s q (8 * pos + t)) s
    let s := if supervisorSlot s q / 8 = pos then placeSupervisor s q else s
    let s := hwSetField s (0x022 + e / 32) (e % 32) (e % 32) 1
    let spare := spareOf s (e / 34)
    let s := match spare with
      | some x => { engSet s x .loading with csc := { (engSet s x .loading).csc with
          loading := s.csc.loading ++ [(x, q, pos, e, cls)] } }
      | none => eventToManager (eventToManager s 0x8B40 (toLe 1 e ++ toLe 1 0xFF ++ toLe 1 cls ++ toLe 1 0)) 0x8B41
          (toLe 1 (e / 34) ++ zeros 3)
    noteMode before (noteRetired s 1 cause e 0 (7 + e / 34)) 1

/-! Rail retirement (R268, R271, R272). -/

def dovGet (s : State) (d : Nat) : DovIsland :=
  if d = 0 then s.twin.dov0 else if d = 1 then s.twin.dov1 else if d = 2 then s.twin.dov4 else s.twin.dov5

def dovSet (s : State) (d : Nat) (x : DovIsland) : State :=
  { s with twin := if d = 0 then { s.twin with dov0 := x } else if d = 1 then { s.twin with dov1 := x }
                   else if d = 2 then { s.twin with dov4 := x } else { s.twin with dov5 := x } }

/-- A state without a record and without a LAG mark is freed (R263). -/
def dovTidy (d : DovIsland) : DovIsland :=
  { d with states := d.states.filter (fun st => st.lag.isSome || d.recs.any (fun r => r.point = st.point && r.stream = st.stream)) }

/-- Records that await the retired rail, and LAG marks that name it, are freed (R268). -/
def dovRetire (rail : Nat) (d : DovIsland) : DovIsland :=
  dovTidy { d with recs := d.recs.filter (fun r => r.rail = rail)
                   states := d.states.map (fun st => if st.lag = some rail then { st with lag := none } else st) }

/-- A packet of a retired rail: a copy on its way to Dovetail goes on, a Twin copy is discarded, a Split packet that has not started moves
to the surviving rail, and a started one is lost (R271). Answers the state and the packets lost. -/
def railLose (rail : Nat) (a : State × Nat) (x : Nat × Pkt) : State × Nat :=
  let (s, n) := a
  let (p, k) := x
  if railOf k.hdr.pipeline ≠ rail ∨ k.stage = .handed ∨ k.stage = .streamWait then a
  else if k.hdr.twin then (endCopy (letGo s k.fid k.origin none) p k, n)
  else if !k.started then
    (pktSet s p { k with hdr := { k.hdr with pipeline := splitPipeline s (railMaskOf s k.hdr.slice) k.hdr.flowHash } }, n)
  else (dropPkt s p 3, n + 1)

/-- The clusters of a retired rail hold nothing more (R271). -/
def clearClusters (s : State) (rail : Nat) : State :=
  let clear := fun (c : Cluster) =>
    { c with threads := c.threads.filterMap (fun t => if t.2.reserved then some (t.1, { reserved := true, slice := t.2.slice }) else none)
             work := [], order := [], stagedRecords := [], drr := [], supRun := false,
             channels := c.channels.map (fun e => (e.1, { e.2 with msgs := [], writers := [] })) }
  let s := { s with csc := { s.csc with devq := s.csc.devq.filter (fun m => m.cluster / 4 ≠ rail) } }
  (List.range 4).foldl (fun s i => clusterMod s (4 * rail + i) clear) s

/-- Retires a rail (R271): `code`, `unit` and `island` as DVT_RAIL_CAUSE names them; `cause` is that of UNIT_RETIRED. -/
def retireRail (s : State) (rail code island cause : Nat) : State :=
  let before := s
  let s := railSet s rail .retired
  let (s, lost) := s.pkts.foldl (railLose rail) (s, 0)
  let s := clearClusters s rail
  let s := (List.range 4).foldl (fun s d => dovSet s d (dovRetire rail (dovGet s d))) s
  let s := { s with cst := { s.cst with pairing := s.cst.pairing.filter (fun x => x.2 = .mark) },
                    cry := { s.cry with pairing := s.cry.pairing.filter (fun x => x.2 = .mark) } }
  let s := bumpBy s r_DVT_CNT_RAIL_LOST lost
  let s := hwSetField s 0x020 rail rail 1
  let s := hwSetField s 0x021 (16 * rail + 15) (16 * rail) (hwField s 0x021 (16 * rail + 15) (16 * rail) + 1)
  let s := eventToManager s 0x8900 (toLe 1 rail ++ toLe 1 code ++ toLe 1 island ++ toLe 1 0 ++ toLe 4 lost)
  noteMode before (noteRetired s 0 cause rail 0 6) 1

/-- A self-check of a rail fails (R269): the sticky bit and the captured cause; codes 1 to 4 retire the rail unless it is the last in
service (notes/assumptions/21.md). -/
def selfCheckFail (s : State) (rail code island unit : Nat) : State :=
  let s := setBits s r_DVT_RAIL_STATUS (BitVec.ofNat 32 (2 ^ (5 + rail)))
  let s := if s.twin.recoveryDone then s
    else errlog s 0x0151 island 0xFFFF 0 (toLe 1 (regField s (r_DVT_RAIL_CAUSE (1 - rail)) 7 0) ++ toLe 1 code)
  let s := capture s (r_DVT_RAIL_CAUSE rail) (code + 256 * island + 4096 * unit)
  let word := code + 256 * island + 4096 * unit
  let s := if code = 3 then errlog s 0x0102 island 0xFFFF 0 (toLe 4 word)
    else if code = 4 then errlog s 0x0103 island 0xFFFF 0 (toLe 1 unit ++ toLe 1 0xFF)
    else if code = 1 then errlog s 0x0104 island 0xFFFF 0 (toLe 1 0)
    else s
  if 1 ≤ code ∧ code ≤ 4 ∧ railUp s rail ∧ railUp s (1 - rail) then retireRail s rail code island 1 else s

end Sys2Proof.Machine
end

