-- ==== Sys2Proof/Machine/Jig.lean ====
section
/-! DEFINITION. Jig: keys, rules and results (R121 to R132), version slots and commits (R133 to R146), mirrored commits (R147 to R152)
and the Jig commands (R153 to R158). -/

namespace Sys2Proof.Machine

open Sys2Proof

/-! Records. -/

/-- The profile of version 0 (R134, R140): every extractor SRC 15, MISS_DROP 1, MISS_SLICE 0xFFF. -/
def resetProfile : Bytes := (List.replicate 24 ()).flatMap (fun _ => toLe 4 15) ++ toLe 4 0x100000 ++ toLe 4 0xFFF

def profileGet (r : RuleSet) (i : Nat) : Bytes := mapGetD r.profiles i resetProfile
def ruleGet (r : RuleSet) (i : Nat) : Bytes := mapGetD r.rules i (zeros 112)

/-- A sparse table without the records equal to its unlisted record. -/
def putRecord (m : AMap Bytes) (i : Nat) (d r : Bytes) : AMap Bytes := if r = d then mapErase m i else mapSet m i r

def ruleValid (r : Bytes) : Bool := bitAt (le r 0 4) 16

/-- Rules of a set whose VALID is 1. -/
def validRules (r : RuleSet) : List (Nat × Bytes) := r.rules.filter (fun x => ruleValid x.2)

/-- Profile records 0 to 15 then rule records 0 to 65,535 (R156). -/
def tableBytes (r : RuleSet) : Bytes := (List.range 16).flatMap (profileGet r) ++ (List.range 65536).flatMap (ruleGet r)

def tableDigest (r : RuleSet) : Word := crc32c (tableBytes r)

/-- A rule set from its 16 profile and 65,536 rule records. -/
def tableOf (b : Bytes) : RuleSet :=
  { profiles := (List.range 16).foldl (fun m i => putRecord m i resetProfile (slice b (104 * i) 104)) [],
    rules := ((chunks 112 65536 (b.drop 1664)).zipIdx).foldl (fun m x => putRecord m x.2 (zeros 112) (fit x.1 112)) [] }

/-- Bytes of a whole staging table. -/
def tableSize : Nat := 16 * 104 + 65536 * 112

/-! Keys and the lookup (R122 to R127). -/

/-- One key word (R123). -/
def keyWord (k : Pkt) (e : Nat) : Nat :=
  let src := bits e 3 0
  let off := bits e 15 4
  let width := bits e 20 16
  if src ≤ 7 then
    let l := (k.hdr.slots[src]?).getD {}
    if l.valid ∧ off + width ≤ 8 * l.len then bitField k.frame (8 * l.offset + off) width
    else if bitAt e 21 then 0xFFFF else 0
  else if src = 8 then (metaVector k.hdr / 2 ^ off) % 2 ^ width
  else if src = 9 then ((List.range 8).map (fun i => 2 ^ i * b2n (((k.hdr.slots[i]?).getD {}).valid))).sum
  else 0

/-- The keys K0 to K15 and Q0 to Q7 of a profile (R122). -/
def keyWords (k : Pkt) (prof : Bytes) : List Nat := (List.range 24).map (fun i => keyWord k (le prof (4 * i) 4))

/-- A rule matches a pass (R126). -/
def ruleMatches (r : Bytes) (prof : Nat) (keys : List Nat) : Bool :=
  let w := le r 0 4
  bitAt w 16 && bits w 20 17 = prof &&
  (List.range 16).all (fun i =>
    let mask := le r (48 + 2 * i) 2
    ((keys[i]?).getD 0 ^^^ le r (16 + 2 * i) 2) &&& mask = 0) &&
  (List.range 8).all (fun i =>
    !bitAt w (21 + i) || (let q := (keys[16 + i]?).getD 0; decide (le r (80 + 4 * i) 2 ≤ q ∧ q ≤ le r (82 + 4 * i) 2)))

/-- The winning rule: the highest PRIORITY, then the lowest index (R127). -/
def ruleWinner (set : RuleSet) (prof : Nat) (keys : List Nat) : Option (Nat × Bytes) :=
  set.rules.foldl (fun a x =>
    if ruleMatches x.2 prof keys then
      match a with
      | some b => if le b.2 0 2 < le x.2 0 2 then some x else a
      | none => some x
    else a) none

/-! The result and its effects (R129 to R132). -/

/-- A PASS record of the trace (R625). -/
def tracePass (s : State) (k : Pkt) (opc : Nat) : State :=
  let w := metaWords k.hdr
  trace s k.hdr.pipeline 1 (traceFlags k) k.hdr.slice k.hdr.flowHash.toNat
    (toLe 4 (w.getD 0 0) ++ toLe 4 (w.getD 1 0) ++ toLe 4 (w.getD 5 0) ++ toLe 2 k.jig.rule ++ toLe 1 opc ++ toLe 1 k.hdr.pass)

/-- What a class policy decides (R99): 1 drop, 2 engine, 0 forward; drop takes precedence over engine. -/
def classPolicy (c : Nat) (h : PktMeta) : Nat :=
  let ps := [ (h.parseDeep, bits c 2 1), (h.lenOver, bits c 4 3), (h.lenShort, bits c 6 5), (h.lenBad, bits c 8 7),
              (h.hdrTrunc, bits c 10 9), (h.raspSkip, bits c 12 11) ]
  if ps.any (fun x => x.1 && x.2 = 1) then 1 else if ps.any (fun x => x.1 && x.2 = 2) then 2 else 0

/-- The slice check of R130; in PROVISION it also drops a pass of a VF slice (R575). -/
def sliceOk (s : State) (n : Nat) : Bool :=
  match sliceGet s n with
  | some x => !x.destroying && (decide (n < 2) || !(decide (s.dev.base = .provision)))
  | none => false

/-- The result of the lookup (R129). -/
def classify (s : State) (k : Pkt) : JigResult :=
  let slot := jigSlotGet s k.hdr.jigSlot
  let prof := profileGet slot.set k.hdr.cls
  match ruleWinner slot.set k.hdr.cls (keyWords k prof) with
  | some (i, r) => { rule := i, hit := true, drop := false, action := bits (le r 4 4) 19 0, cookie := BitVec.ofNat 32 (le r 12 4),
                     version := k.hdr.jigVersion, slot := k.hdr.jigSlot }
  | none => { rule := 0, hit := false, drop := bitAt (le prof 96 4) 20, action := bits (le prof 96 4) 19 0, cookie := 0,
              version := k.hdr.jigVersion, slot := k.hdr.jigSlot }

/-- Slice that the result assigns (R131): on pass 0, while SLICE is 0xFFF. -/
def assignedSlice (s : State) (k : Pkt) (j : JigResult) : Option Nat :=
  let set := (jigSlotGet s k.hdr.jigSlot).set
  if k.hdr.pass = 0 ∧ k.hdr.slice = 0xFFF then
    if j.hit then
      let w := le (ruleGet set j.rule) 8 4
      if bitAt w 12 then some (bits w 11 0) else none
    else
      let m := bits (le (profileGet set k.hdr.cls) 100 4) 11 0
      if m = 0xFFF then none else some m
  else none

/-- Counters of a lookup (R160). -/
def countLookup (s : State) (k : Pkt) (j : JigResult) : State :=
  let pl := k.hdr.pipeline
  let s := bump64 s (r_JIG_LOOKUPS pl) 1
  let s := if j.hit then bump s (r_JIG_CNT_HIT pl) else bump s (r_JIG_CNT_MISS pl)
  if (jigSlotGet s k.hdr.jigSlot).state = .draining then bump s (r_JIG_CNT_OLD_SLOT pl) else s

/-- Generation that a copy carries once its slice is known (R444). -/
def genOfSlice (s : State) (n : Nat) : Option (Nat × BitVec 16) :=
  match sliceGet s n with
  | some x => some (x.ep * 2048 + x.func, (fnGet s x.ep x.func).gen)
  | none => none

/-- JIG_CLASSIFY (R121 to R132, R99): the lookup and the six steps of R130. -/
def execJigClassify (p : Nat) (s : State) : Host.Outcome State Fault Refusal :=
  match pktGet s p with
  | none => done s
  | some k =>
    if k.stage = .jig then
      let pl := k.hdr.pipeline
      let j := classify s k
      let set := (jigSlotGet s k.hdr.jigSlot).set
      let s := countLookup s k j
      let sl := assignedSlice s k j
      let s := if sl.isSome then bump s (r_JIG_CNT_SLICE_SET pl) else s
      let rw := le (ruleGet set j.rule) 8 4
      let clsSet := j.hit && bitAt rw 17
      let s := if clsSet then bump s (r_JIG_CNT_CLASS_SET pl) else s
      let h := { k.hdr with slice := sl.getD k.hdr.slice, cls := if clsSet then bits rw 16 13 else k.hdr.cls }
      let k := { k with hdr := h, jig := j, gen := if sl.isSome then genOfSlice s h.slice else k.gen }
      if !sliceOk s h.slice then done (passDrop (bump (tracePass s k 0) (r_JIG_CNT_NO_SLICE pl)) p)
      else if j.drop then done (passDrop (bump (tracePass s k 0) (r_JIG_CNT_MISS_DROP pl)) p)
      else match classPolicy (classGet (parseBankGet s h.pgBank) h.cls) h with
        | 1 => done (passDrop (bump (tracePass s k 0) (r_PLN_CNT_POLICY_DROP pl)) p)
        | 2 =>
          let k := { k with pass := { k.pass with recIdx := j.action } }
          done (exception (bump (tracePass s k 0) (r_PLN_CNT_POLICY_ENGINE pl)) p k (exceptionCluster k) .parsePolicy 0 0)
        | _ => done (pktSet s p { k with stage := .fetch })
    else done s

/-! Version slots and commits. -/

/-- The CURRENT slot (R133). -/
def currentSlot (s : State) : Nat := ((List.range 4).find? (fun n => (jigSlotGet s n).state = .current)).getD 0

/-- The lowest FREE slot (R144). -/
def freeSlot (s : State) : Option Nat := (List.range 4).find? (fun n => (jigSlotGet s n).state = .free)

def slotCode : SlotState → Nat
  | .free => 0
  | .compiling => 1
  | .current => 2
  | .draining => 3

/-- An extractor breaks R128. -/
def extractorFault (e : Nat) : Bool :=
  let src := bits e 3 0
  let width := bits e 20 16
  decide (10 ≤ src ∧ src ≤ 14) || (decide (src ≤ 8) && decide (width < 1 ∨ 16 < width)) ||
  (src = 8 && decide (512 < bits e 15 4 + width)) || bits e 31 22 ≠ 0

def profileFault (p : Bytes) : Bool :=
  (List.range 24).any (fun i => extractorFault (le p (4 * i) 4)) || bits (le p 96 4) 31 21 ≠ 0 || bits (le p 100 4) 31 12 ≠ 0

def ruleFault (r : Bytes) : Bool :=
  (List.range 16).any (fun i =>
    let v := le r (16 + 2 * i) 2
    v &&& le r (48 + 2 * i) 2 ≠ v) ||
  (List.range 8).any (fun i => bitAt (le r 0 4) (21 + i) && decide (le r (82 + 4 * i) 2 < le r (80 + 4 * i) 2)) ||
  bits (le r 0 4) 31 29 ≠ 0 || bits (le r 4 4) 31 20 ≠ 0 || bits (le r 8 4) 31 18 ≠ 0

/-- The first faulty record of a staging table (R128): FAULT_KIND and FAULT_INDEX. -/
def tableFault (set : RuleSet) : Option (Nat × Nat) :=
  match (List.range 16).find? (fun i => profileFault (profileGet set i)) with
  | some i => some (2, i)
  | none => ((validRules set).find? (fun x => ruleFault x.2)).map (fun x => (1, x.1))

/-- Rules compiled after omissions (R141). -/
def compiledRules (set : RuleSet) : List (Nat × Bytes) :=
  (validRules set).filter (fun x => !Config.jigOmits (validRules set) x.1)

/-- The limit of R141 that a set breaks, as its FAULT_KIND; 0 for none. -/
def limitFault (rules : List (Nat × Bytes)) : Nat :=
  if 131072 < Config.jigNodes rules then 3
  else if 262144 < Config.jigLeafRefs rules then 4
  else if Config.jigTooDeep rules then 5 else 0

/-- The commit response (R156). -/
def commitResponse (s : State) (mirror : Nat) (digest : Word) (kind side index rules nodes refs : Nat) : Bytes :=
  let n := currentSlot s
  let c := jigSlotGet s n
  toLe 1 n ++ toLe 1 mirror ++ toLe 2 c.version ++ toLe 4 c.tag.toNat ++ toLe 4 digest.toNat ++ toLe 1 kind ++ toLe 1 side ++
    toLe 2 index ++ toLe 4 rules ++ toLe 4 nodes ++ toLe 4 refs ++ (List.range 4).flatMap (fun i => toLe 1 (slotCode (jigSlotGet s i).state))

/-- Mirroring is in force (R147). -/
def mirrorInForce (s : State) : Bool := s.jig.mirrorEn && s.jig.partnerEn && s.itw.linkUp

/-- MIRROR_STATE of a commit that is not mirrored (R152). -/
def unmirroredState (s : State) (localOnly : Bool) : Nat := if localOnly || !s.jig.mirrorEn then 0 else if mirrorInForce s then 0 else 3

/-- A COMPILING slot returns to FREE. -/
def slotRelease (s : State) (n : Nat) : State := jigSlotSet s n {}

/-- Takes the lowest free slot for a version and starts to compile (R144). -/
def beginCompile (s : State) (n : Nat) (set : RuleSet) (c : JigCommit) : State :=
  jigSlotSet { s with jig := { s.jig with commit := some c } } n
    { state := .compiling, version := c.version, tag := c.tag, inflight := 0, set := set }

/-- The staging table as bodies of JIG_DATA messages of LEN 30. -/
def tableMessages (set : RuleSet) : List Bytes :=
  chunks 236 31110 (tableBytes set)

/-- JIG_COMMIT (R144, R148, R152): orders 1 to 3 are checked here, order 4 begins; answered when the commit ends. -/
def execJigCommit (ch seq : Nat) (s : State) : Host.Outcome State Fault Refusal :=
  command s ch seq 0x0410 (fun req =>
    let tag := BitVec.ofNat 32 (le req 0 4)
    let localOnly := bitAt (le req 4 4) 0
    let set := s.jig.staging
    let digest := tableDigest set
    let mirrored := mirrorInForce s && !localOnly
    let st := unmirroredState s localOnly
    let refuse := fun (code kind index : Nat) => answer s ch seq code (commitResponse s st digest kind 0 index 0 0 0)
    if 1 < le req 4 4 then refuse rcBadParam 0 0
    else if s.jig.commit.isSome then refuse rcBusy 0 0
    else match freeSlot s with
      | none => refuse rcBusyVersion 0 0
      | some n => match tableFault set with
        | some (kind, i) => refuse rcBadParam kind i
        | none =>
          let version := ((jigSlotGet s (currentSlot s)).version + 1) % 65536
          let s := beginCompile s n set
            { phase := .compiling, slot := n, version := version, tag := tag, digest := digest, chan := ch, seq := seq,
              mirrored := mirrored, mirror := st, partner := false, partnerReady := false, acked := false, rules := 0, nodes := 0,
              leafRefs := 0 }
          let s := if mirrored then itwSendAll (itwSend s 0x10 (toLe 2 version ++ toLe 4 digest.toNat)) 0x11 (tableMessages set)
            else s
          defer s ch seq)

/-- Ends the pending commit on this adapter with no change (R144, R148); the originator answers `code`. -/
def commitFails (s : State) (c : JigCommit) (code kind side index : Nat) : State :=
  let s := slotRelease { s with jig := { s.jig with commit := none } } c.slot
  if c.partner then itwSend s 0x12 (toLe 2 code)
  else answer s c.chan c.seq code
    (commitResponse s (if c.mirrored then 2 else c.mirror) (tableDigest s.jig.staging) kind side index 0 0 0)

/-- JIG_COMPILE_DONE (R141, R144): `badA`, `badB` say whether a rail's store failed its second load check. -/
def execJigCompileDone (badA badB : Bool) (s : State) : Host.Outcome State Fault Refusal :=
  match s.jig.commit with
  | none => done s
  | some c =>
    if c.phase = .compiling then
      let rules := compiledRules (jigSlotGet s c.slot).set
      let fault := limitFault rules
      let badA := badA && railUp s 0
      let badB := badB && railUp s 1
      if fault ≠ 0 then done (commitFails s c rcNoResource fault 0 0)
      else if (badA && badB) || ((badA || badB) && !bothRails s) then
        let s := errlog s 0x0171 11 0xFFFF 0 (toLe 2 c.chan ++ toLe 2 0x0410 ++ toLe 1 c.seq ++ toLe 1 (b2n badB))
        done (commitFails s c rcInternal 0 0 0)
      else
        let s := if badA then selfCheckFail s 0 2 6 5 else if badB then selfCheckFail s 1 2 6 5 else s
        let c := { c with rules := rules.length, nodes := Config.jigNodes rules, leafRefs := Config.jigLeafRefs rules }
        let set := fun (s : State) (ph : CommitPhase) => { s with jig := { s.jig with commit := some { c with phase := ph } } }
        if c.partner then done (set (itwSend s 0x12 (toLe 2 rcOk)) .waitGo)
        else if c.mirrored then
          if c.partnerReady then done (set (itwSend s 0x13 []) .waitSwitch) else done (set s .waitReady)
        else done (set s .waitSwitch)
    else done s

/-- The loaded slot becomes CURRENT and the previous one DRAINING (R144 order 6). -/
def versionSwitch (s : State) (c : JigCommit) : State :=
  let old := currentSlot s
  let s := jigSlotMod s old (fun x => { x with state := .draining, drainSince := s.time.ticks, slowSent := false })
  jigSlotMod s c.slot (fun x => { x with state := .current })

/-- Answer of a commit that has switched (R156). -/
def commitOk (s : State) (c : JigCommit) (mirror : Nat) : State :=
  answer { s with jig := { s.jig with commit := none } } c.chan c.seq rcOk
    (commitResponse s mirror c.digest 0 0 0 c.rules c.nodes c.leafRefs)

/-- JIG_VERSION_SWITCH (R144 order 6, R148, R149): calendar entry 0 after loading, or after GO. -/
def execJigVersionSwitch (s : State) : Host.Outcome State Fault Refusal :=
  match s.jig.commit with
  | none => done s
  | some c =>
    if c.phase = .waitSwitch then
      let set := (jigSlotGet s c.slot).set
      let s := versionSwitch s c
      if c.partner then
        done (itwSend { s with jig := { s.jig with commit := none, staging := set } } 0x14 [])
      else if c.mirrored then
        if c.acked then done (commitOk s c 1)
        else done { s with jig := { s.jig with commit := some { c with phase := .waitAck } } }
      else done (commitOk s c c.mirror)
    else done s

/-- JIG_SLOT_FREE (R137). -/
def execJigSlotFree (slot : Nat) (s : State) : Host.Outcome State Fault Refusal :=
  let x := jigSlotGet s slot
  if slot < 4 ∧ x.state = .draining ∧ x.inflight = 0 then done (jigSlotSet s slot {}) else done s

/-- Milliseconds since a slot became DRAINING (R157). -/
def drainMs (s : State) (x : JigSlot) : Nat :=
  if x.state = .draining then min ((s.time.ticks - x.drainSince) / 1000000) 0xFFFFFFFF else 0

/-- JIG_DRAIN_SLOW (R138): once per slot per drain. -/
def execJigDrainSlow (slot : Nat) (s : State) : Host.Outcome State Fault Refusal :=
  let x := jigSlotGet s slot
  if slot < 4 ∧ x.state = .draining ∧ 0 < x.inflight ∧ ¬ x.slowSent then
    done (eventToManager (jigSlotSet s slot { x with slowSent := true }) 0x8400
      (toLe 1 slot ++ toLe 1 0 ++ toLe 2 x.version ++ toLe 4 x.inflight ++ toLe 4 (drainMs s x)))
  else done s

/-! Mirrored commits (R148 to R151). -/

/-- The partner's answer to a PREPARE that fails order 1 or 2 (R148). -/
def prepareCheck (s : State) : Nat :=
  if s.jig.commit.isSome || s.jig.prepare.isSome then rcBusy else if (freeSlot s).isNone then rcBusyVersion else rcOk

def takePrepare (s : State) (version : Nat) (digest : Word) : State :=
  if prepareCheck s = rcOk then { s with jig := { s.jig with prepare := some (version, digest), incoming := [] } }
  else itwSend s 0x12 (toLe 2 (prepareCheck s))

/-- A PREPARE from the partner (R148, R151): of two that cross, the lower rank's proceeds. -/
def onPrepare (s : State) (version : Nat) (digest : Word) : State :=
  match s.jig.commit with
  | some c =>
    if c.mirrored ∧ ¬ c.partner ∧ ¬ c.partnerReady then
      if lowerRank s then s
      else takePrepare (commitFails s c rcBusy 0 0 0) version digest
    else takePrepare s version digest
  | none => takePrepare s version digest

/-- The received table is whole: the partner applies orders 3 and 4 (R148). -/
def tableReceived (s : State) (version : Nat) (digest : Word) : State :=
  let set := tableOf s.jig.incoming
  let clear := { s with jig := { s.jig with prepare := none, incoming := [] } }
  if tableDigest set ≠ digest then itwSend (bump clear r_ITW_CNT_MSG_BAD) 0x12 (toLe 2 rcBadParam)
  else if (tableFault set).isSome then itwSend clear 0x12 (toLe 2 rcBadParam)
  else match freeSlot s with
    | none => itwSend clear 0x12 (toLe 2 rcBusyVersion)
    | some n =>
      beginCompile (drawn clear) n set
        { phase := .compiling, slot := n, version := version, tag := BitVec.ofNat 32 (Config.freeNat s.fresh), digest := digest,
          chan := 0, seq := 0, mirrored := true, mirror := 0, partner := true, partnerReady := false, acked := false, rules := 0, nodes := 0,
          leafRefs := 0 }

def onJigData (s : State) (data : Bytes) : State :=
  match s.jig.prepare with
  | none => s
  | some (version, digest) =>
    let s := { s with jig := { s.jig with incoming := s.jig.incoming ++ data } }
    if tableSize ≤ s.jig.incoming.length then tableReceived s version digest else s

/-- READY, or the partner's refusal (R148). -/
def onJigReady (s : State) (code : Nat) : State :=
  match s.jig.commit with
  | none => s
  | some c =>
    if c.mirrored ∧ ¬ c.partner ∧ (c.phase = .compiling ∨ c.phase = .waitReady) then
      if code ≠ rcOk then commitFails s c code 0 1 0
      else if c.phase = .waitReady then
        { itwSend s 0x13 [] with jig := { s.jig with commit := some { c with partnerReady := true, phase := .waitSwitch } } }
      else { s with jig := { s.jig with commit := some { c with partnerReady := true } } }
    else s

/-- GO at the partner (R148, R149). -/
def onJigGo (s : State) : State :=
  match s.jig.commit with
  | none => s
  | some c => if c.partner ∧ c.phase = .waitGo then { s with jig := { s.jig with commit := some { c with phase := .waitSwitch } } } else s

/-- The partner's acknowledgement at the originator (R149). -/
def onJigAck (s : State) : State :=
  match s.jig.commit with
  | none => s
  | some c =>
    if c.mirrored ∧ ¬ c.partner then
      if c.phase = .waitAck then commitOk s c 1
      else if c.phase = .waitSwitch then { s with jig := { s.jig with commit := some { c with acked := true } } }
      else s
    else s

/-- JIG_PREPARE (R148, R151). -/
def execJigPrepare (version : Nat) (digest : Word) (s : State) : Host.Outcome State Fault Refusal := done (onPrepare s version digest)

/-- JIG_DATA (R286). -/
def execJigData (data : Bytes) (s : State) : Host.Outcome State Fault Refusal := done (onJigData s data)

/-- JIG_READY (R148). -/
def execJigReady (code : Nat) (s : State) : Host.Outcome State Fault Refusal := done (onJigReady s code)

/-- JIG_GO (R148, R149). -/
def execJigGo (s : State) : Host.Outcome State Fault Refusal := done (onJigGo s)

/-- JIG_ACK (R149). -/
def execJigAck (s : State) : Host.Outcome State Fault Refusal := done (onJigAck s)

/-- The code of a commit that gets no READY: the manual names none. -/
def noReadyCode (s : State) : Nat := if Config.freePick s.fresh 2 = 0 then rcBusy else rcInternal

/-- No READY has come, or the link was lost before GO: the commit ends with no change (R148). -/
def mirrorNoReady (s : State) : State :=
  match s.jig.commit with
  | none => s
  | some c =>
    if c.mirrored ∧ ¬ c.partner ∧ (c.phase = .compiling ∨ c.phase = .waitReady) ∧ ¬ c.partnerReady then
      commitFails (drawn s) c (noReadyCode s) 0 1 0
    else s

/-- MIRROR_READY_TIMEOUT (R148). -/
def execMirrorReadyTimeout (s : State) : Host.Outcome State Fault Refusal := done (mirrorNoReady s)

/-- MIRROR_GO_TIMEOUT (R149): 10 s after READY without GO the partner's slot is FREE. -/
def execMirrorGoTimeout (s : State) : Host.Outcome State Fault Refusal :=
  match s.jig.commit with
  | none => done s
  | some c =>
    if c.partner ∧ c.phase = .waitGo then done (slotRelease { s with jig := { s.jig with commit := none } } c.slot) else done s

/-- MIRROR_ACK_TIMEOUT (R149): 1 ms after GO the originator answers OK, UNCONFIRMED. -/
def execMirrorAckTimeout (s : State) : Host.Outcome State Fault Refusal :=
  match s.jig.commit with
  | none => done s
  | some c => if c.phase = .waitAck then done (commitOk s c 2) else done s

/-! Commands (R153 to R158). -/

/-- Header of the rule commands (R154): FIRST, COUNT and SOURCE are in range. -/
def ruleRange (req : Bytes) (mx : Nat) : Bool :=
  let first := le req 0 2
  let count := le req 4 3
  decide (1 ≤ count ∧ count ≤ mx ∧ first + count ≤ 65536)

/-- The set a SOURCE names (R154); none for a FREE or COMPILING slot and for a number past 4. -/
def ruleSource (s : State) (n : Nat) : Option RuleSet :=
  if n = 4 then some s.jig.staging
  else if n < 4 ∧ ((jigSlotGet s n).state = .current ∨ (jigSlotGet s n).state = .draining) then some (jigSlotGet s n).set
  else none

def stagingSet (s : State) (r : RuleSet) : State := { s with jig := { s.jig with staging := r } }

/-- JIG_RULE_WRITE (R140, R154). -/
def execJigRuleWrite (ch seq : Nat) (s : State) : Host.Outcome State Fault Refusal :=
  command s ch seq 0x0400 (fun req =>
    if !ruleRange req 2 || byteAt req 7 ≠ 4 then answer s ch seq rcBadParam []
    else
      let rules := (List.range (le req 4 3)).foldl (fun m i =>
        putRecord m (le req 0 2 + i) (zeros 112) (slice req (8 + 112 * i) 112)) s.jig.staging.rules
      answer (stagingSet s { s.jig.staging with rules := rules }) ch seq rcOk [])

/-- JIG_RULE_READ (R154). -/
def execJigRuleRead (ch seq : Nat) (s : State) : Host.Outcome State Fault Refusal :=
  command s ch seq 0x0401 (fun req =>
    match ruleSource s (byteAt req 7) with
    | none => answer s ch seq rcBadParam []
    | some set =>
      if !ruleRange req 2 then answer s ch seq rcBadParam []
      else answer s ch seq rcOk (req ++ (List.range (le req 4 3)).flatMap (fun i => ruleGet set (le req 0 2 + i))))

/-- JIG_RULE_CLEAR (R154): VALID of a range becomes 0. -/
def execJigRuleClear (ch seq : Nat) (s : State) : Host.Outcome State Fault Refusal :=
  command s ch seq 0x0402 (fun req =>
    if !ruleRange req 65536 || byteAt req 7 ≠ 4 then answer s ch seq rcBadParam []
    else
      let first := le req 0 2
      let count := le req 4 3
      let rules := s.jig.staging.rules.foldl (fun m x =>
        if first ≤ x.1 ∧ x.1 < first + count then putRecord m x.1 (zeros 112) (putLe x.2 0 4 (putBits (le x.2 0 4) 16 16 0)) else m)
        s.jig.staging.rules
      answer (stagingSet s { s.jig.staging with rules := rules }) ch seq rcOk [])

/-- JIG_PROFILE_WRITE (R155). -/
def execJigProfileWrite (ch seq : Nat) (s : State) : Host.Outcome State Fault Refusal :=
  command s ch seq 0x0403 (fun req =>
    let i := byteAt req 0
    if 15 < i ∨ byteAt req 1 ≠ 4 then answer s ch seq rcBadParam []
    else
      let set := s.jig.staging
      answer (stagingSet s { set with profiles := putRecord set.profiles i resetProfile (slice req 4 104) }) ch seq rcOk [])

/-- JIG_PROFILE_READ (R155). -/
def execJigProfileRead (ch seq : Nat) (s : State) : Host.Outcome State Fault Refusal :=
  command s ch seq 0x0404 (fun req =>
    let i := byteAt req 0
    match ruleSource s (byteAt req 1) with
    | none => answer s ch seq rcBadParam []
    | some set => if 15 < i then answer s ch seq rcBadParam [] else answer s ch seq rcOk (req ++ profileGet set i))

/-- JIG_STAGE_LOAD (R155): the staging table becomes a resident slot's. -/
def execJigStageLoad (ch seq : Nat) (s : State) : Host.Outcome State Fault Refusal :=
  command s ch seq 0x0405 (fun req =>
    if byteAt req 0 = 4 then answer s ch seq rcBadParam []
    else match ruleSource s (byteAt req 0) with
      | none => answer s ch seq rcBadParam []
      | some set => answer (stagingSet s set) ch seq rcOk [])

/-- JIG_SLOT_QUERY (R157). -/
def execJigSlotQuery (ch seq : Nat) (s : State) : Host.Outcome State Fault Refusal :=
  command s ch seq 0x0411 (fun _ =>
    answer s ch seq rcOk ((List.range 4).flatMap (fun n =>
      let x := jigSlotGet s n
      toLe 1 (slotCode x.state) ++ toLe 1 0 ++ toLe 2 x.version ++ toLe 4 x.inflight ++ toLe 4 x.tag.toNat ++ toLe 4 (drainMs s x))))

/-- The four bytes of the mirror commands (R158). -/
def mirrorStatus (s : State) : Bytes :=
  toLe 1 (b2n s.jig.mirrorEn) ++ toLe 1 (b2n s.jig.partnerEn) ++ toLe 1 (b2n s.itw.linkUp) ++
    toLe 1 (regField s r_JIG_STATUS 5 5)

/-- JIG_MIRROR_SET (R158). -/
def execJigMirrorSet (ch seq : Nat) (s : State) : Host.Outcome State Fault Refusal :=
  command s ch seq 0x0420 (fun req =>
    if 1 < byteAt req 0 then answer s ch seq rcBadParam []
    else
      let s := { s with jig := { s.jig with mirrorEn := byteAt req 0 = 1 } }
      answer s ch seq rcOk (mirrorStatus s))

/-- JIG_MIRROR_STATUS (R158). -/
def execJigMirrorStatus (ch seq : Nat) (s : State) : Host.Outcome State Fault Refusal :=
  command s ch seq 0x0421 (fun _ => answer s ch seq rcOk (mirrorStatus s))

end Sys2Proof.Machine
end

