-- ==== Sys2Proof/Machine/Cistern.lean ====
section
/-! DEFINITION. Cistern, Scribe and Square: placement and lookup (R161 to R169, R673), updates (R172), insertion and relocation (R170,
R175 to R179), learning (R180 to R183), aging (R184 to R188), audits (R189 to R191), ECC (R192) and their commands (R201). -/

namespace Sys2Proof.Machine

open Sys2Proof

/-! Entries (R162 to R165). -/

/-- Key length of a TYPE (R162). -/
def keyLen (t : Nat) : Nat := if t = 0 then 40 else if t = 1 then 8 else if t = 2 then 20 else 18

def entWord (e : Bytes) : Nat := le e 0 4
def entType (e : Bytes) : Nat := bits (entWord e) 1 0
def entValid (e : Bytes) : Bool := bitAt (entWord e) 2
def entStatic (e : Bytes) : Bool := bitAt (entWord e) 3
def entLocked (e : Bytes) : Bool := bitAt (entWord e) 4
def entHit (e : Bytes) : Bool := bitAt (entWord e) 5
def entAm (e : Bytes) : Bool := bitAt (entWord e) 6
def entProf (e : Bytes) : Nat := bits (entWord e) 9 7
def entSlice (e : Bytes) : Nat := bits (entWord e) 21 10
def entTag (e : Bytes) : Nat := bits (entWord e) 29 22

def putWordBits (e : Bytes) (hi lo v : Nat) : Bytes := putLe e 0 4 (putBits (entWord e) hi lo v)

/-- The key of an entry: its TYPE as one byte, then its key bytes (R162). -/
def entKey (e : Bytes) : Bytes := toLe 1 (entType e) ++ slice e 16 (keyLen (entType e))

/-- A learned L2 entry: L2 and not static (R189). -/
def entLearned (e : Bytes) : Bool := entValid e && entType e = 1 && !entStatic e

def h1 (key : Bytes) : Word := crc32c key
def h2 (key : Bytes) : Word := crc32c ([0x6C, 0x1B, 0xD0, 0x4E] ++ key)

/-- The candidate buckets of a key (R77). -/
def buckets (key : Bytes) : Nat × Nat :=
  let b1 := (h1 key).toNat % 1048576
  let b2 := (h2 key).toNat % 1048576
  (b1, if b2 = b1 then b1 ^^^ 1 else b2)

def wayGet (s : State) (l : Loc) : Bytes :=
  if l.stash then mapGetD s.cst.stash l.idx (zeros 64) else mapGetD s.cst.ways l.idx (zeros 64)

/-- Writes a way or a stash place; an all-zero one is unlisted. -/
def waySet (s : State) (l : Loc) (e : Bytes) : State :=
  if l.stash then { s with cst := { s.cst with stash := putRecord s.cst.stash l.idx (zeros 64) e } }
  else { s with cst := { s.cst with ways := putRecord s.cst.ways l.idx (zeros 64) e } }

def epochGet (s : State) (b : Nat) : BitVec 16 := mapGetD s.cst.epochs b 0

/-- The way holds the key (R166). -/
def wayHolds (s : State) (key : Bytes) (l : Loc) : Bool :=
  let e := wayGet s l
  entValid e && decide (entTag e = (h1 key).toNat / 16777216) && entKey e = key

/-- The eight ways of a key's two buckets, in order. -/
def candidateWays (key : Bytes) : List Loc :=
  let (b1, b2) := buckets key
  (List.range 4).map (fun w => ⟨false, b1 * 4 + w⟩) ++ (List.range 4).map (fun w => ⟨false, b2 * 4 + w⟩)

/-- The location of a key: its ways first, then the stash (R166). -/
def findKey (s : State) (key : Bytes) : Option Loc :=
  match (candidateWays key).find? (wayHolds s key) with
  | some l => some l
  | none => ((s.cst.stash.map (fun x => (⟨true, x.1⟩ : Loc))).find? (wayHolds s key))

/-- Epoch of a location's bucket; a stash place has none (R170). -/
def locEpoch (s : State) (l : Loc) : BitVec 16 := if l.stash then 0 else epochGet s (l.idx / 4)

/-- LOCATION of R673. -/
def locWord (l : Loc) : Nat := l.idx + 4194304 * b2n l.stash

/-- Valid entries. -/
def allEntries (s : State) : List (Loc × Bytes) :=
  (s.cst.ways.map (fun x => ((⟨false, x.1⟩ : Loc), x.2)) ++ s.cst.stash.map (fun x => ((⟨true, x.1⟩ : Loc), x.2))).filter
    (fun x => entValid x.2)

/-- Region of an entry for Square (R189). -/
def regionOf (e : Bytes) : Nat := bits (h1 (entKey e)).toNat 19 10

/-- An insertion, deletion or data change during a walk marks its region DIRTY (R190). -/
def markDirty (s : State) (e : Bytes) : State :=
  if s.sqr.walk.isSome ∧ ¬ regionOf e ∈ s.sqr.dirty then { s with sqr := { s.sqr with dirty := s.sqr.dirty ++ [regionOf e] } } else s

/-! Aging state (R184 to R187). -/

/-- AGE_STAMP now: bits [55:24] of the compact stamp (R184). -/
def ageNow (s : State) : Nat := bits (stampNow s).toNat 55 24

/-- A refreshing hit (R184, R186). -/
def refreshed (s : State) (e : Bytes) : Bytes :=
  if s.cst.hitMode then putWordBits e 5 5 1 else putLe (putWordBits e 6 5 1) 4 4 (ageNow s)

/-- The aging state of a new entry (R184). -/
def freshAging (s : State) (e : Bytes) : Bytes :=
  if s.cst.hitMode then putLe (putWordBits e 6 5 3) 4 4 0 else putLe (putWordBits e 6 5 1) 4 4 (ageNow s)

/-- Timeout of a profile in seconds (R184). -/
def ageTimeout (s : State) (n : Nat) : Nat := hwUse s (0x041 + n)

/-- Sweep period in milliseconds (R188). -/
def sweepMs (s : State) : Nat := hwUse s 0x040

/-! Relocation (R170) and insertion (R175). -/

/-- Adds `n` to a bucket's epoch. -/
def epochAdd (s : State) (l : Loc) (n : Nat) : State :=
  if l.stash then s
  else { s with cst := { s.cst with epochs :=
    (let v := epochGet s (l.idx / 4) + BitVec.ofNat 16 n
     if v = 0 then mapErase s.cst.epochs (l.idx / 4) else mapSet s.cst.epochs (l.idx / 4) v) } }

def scribeTrace (s : State) (kind : Nat) (l : Loc) (e : Bytes) (outcome : Nat) : State :=
  trace s 12 kind 0 (entSlice e) 0
    (toLe 4 (locWord l) ++ toLe 1 (entType e) ++ toLe 1 outcome ++ zeros 2 ++ toLe 4 (h1 (entKey e)).toNat)

/-- Moves an entry (R170): at the end the destination holds it, the source is free, and both epochs have advanced by 2. -/
def relocate (s : State) (src dst : Loc) : State :=
  let e := wayGet s src
  let s := epochAdd (epochAdd s src 2) dst 2
  let s := waySet (waySet s dst e) src (zeros 64)
  let s := { s with cst := { s.cst with
    locked := (match mapGet s.cst.locked (locWord src) with
      | some t => mapSet (mapErase s.cst.locked (locWord src)) (locWord dst) t
      | none => s.cst.locked) } }
  scribeTrace (bump s r_SCB_CNT_RELOCATE) 3 dst e 0

/-- The lowest free way of a bucket. -/
def freeWay (s : State) (b : Nat) : Option Loc :=
  ((List.range 4).map (fun w => (⟨false, b * 4 + w⟩ : Loc))).find? (fun l => !entValid (wayGet s l))

/-- The other candidate bucket of the entry at a location. -/
def otherBucket (s : State) (l : Loc) : Nat :=
  let (b1, b2) := buckets (entKey (wayGet s l))
  if l.idx / 4 = b1 then b2 else b1

/-- The four ways of a bucket, each after a chain of moves. -/
def chainsFrom (b : Nat) (chain : List Loc) : List (List Loc) :=
  (List.range 4).map (fun w => chain ++ [⟨false, b * 4 + w⟩])

/-- Breadth-first search for a chain of at most 4 relocations that ends in a free way, one bucket read for each step (R175). -/
def findChain (s : State) : Nat → List (List Loc) → Option (List Loc × Loc)
  | 0, _ => none
  | _ + 1, [] => none
  | n + 1, c :: cs =>
    match c.getLast? with
    | none => findChain s n cs
    | some l =>
      let b := otherBucket s l
      match freeWay s b with
      | some f => some (c, f)
      | none => findChain s n (if c.length < 4 then cs ++ chainsFrom b c else cs)

/-- Carries a chain out from its free end backwards (R175); answers the way it frees. -/
def carryChain (s : State) : List Loc → Loc → State × Loc
  | [], f => (s, f)
  | l :: ls, f =>
    let (s, f') := carryChain s ls f
    (relocate s l f', l)

/-- Where a new key goes (R175): a free way, a chain's freed way, a stash place; none when the stash is full. -/
def makeRoom (s : State) (key : Bytes) : Option (State × Loc) :=
  let (b1, b2) := buckets key
  match freeWay s b1 with
  | some l => some (s, l)
  | none => match freeWay s b2 with
    | some l => some (s, l)
    | none => match findChain s 253 (chainsFrom b1 [] ++ chainsFrom b2 []) with
      | some (c, f) => some (carryChain s c f)
      | none => ((List.range 1024).find? (fun i => !entValid (wayGet s ⟨true, i⟩))).map (fun i => (s, ⟨true, i⟩))

/-- Entries a slice owns (R179). -/
def entriesOf (s : State) (n : Nat) : Nat := ((allEntries s).filter (fun x => entSlice x.2 = n)).length

/-- The slice's quota admits one more entry (R179): 0xFFF has none, an absent slice has a quota of 0. -/
def quotaOk (s : State) (n : Nat) : Bool :=
  n = 0xFFF || (match sliceGet s n with
    | some x => !x.destroying && decide (entriesOf s n < x.cstQuota)
    | none => false)

/-- A failed insertion is reported at most once per second per slice (R178, R202): `reason` 0 full, 1 quota. -/
def insertFailed (s : State) (n reason : Nat) : State :=
  let k := mapGetD s.cst.failures n 0 + 1
  let due := match mapGet s.cst.failSent n with
    | some t => decide (t + 1000000000 ≤ s.time.ticks)
    | none => true
  if due then
    eventToManager { s with cst := { s.cst with failures := mapErase s.cst.failures n, failSent := mapSet s.cst.failSent n s.time.ticks } }
      0x8501 (toLe 2 n ++ toLe 1 reason ++ toLe 4 k)
  else { s with cst := { s.cst with failures := mapSet s.cst.failures n k } }

/-- Inserts a new key (R175 to R179). Answers its place, or the reason of failure: 0 full, 1 quota. -/
def insertNew (s : State) (e : Bytes) : State × (Loc ⊕ Nat) :=
  let key := entKey e
  let n := entSlice e
  if !quotaOk s n then (scribeTrace (insertFailed (bump s r_SCB_CNT_QUOTA) n 1) 1 ⟨false, 0⟩ e 2, .inr 1)
  else match makeRoom s key with
    | none => (scribeTrace (insertFailed (bump s r_SCB_CNT_FULL) n 0) 1 ⟨false, 0⟩ e 1, .inr 0)
    | some (s, l) =>
      let e := putWordBits (putWordBits e 29 22 ((h1 key).toNat / 16777216)) 2 2 1
      (scribeTrace (markDirty (bump (waySet s l e) r_SCB_CNT_INSERT) e) 1 l e 0, .inl l)

/-- Data and header of an entry replaced by a command or INSERT with REPLACE. -/
def replaceAt (s : State) (l : Loc) (e : Bytes) : State :=
  markDirty (waySet s l (putWordBits (putWordBits e 29 22 ((h1 (entKey e)).toNat / 16777216)) 2 2 1)) e

/-! Itwin learning messages (R286, R294). -/

/-- The standby of a pair: Itwin enabled, link up, no grant (R294). -/
def isStandby (s : State) : Bool := s.itw.enable && s.itw.linkUp && !s.itw.grant

/-- The actor of a pair that exchanges learning messages. -/
def isActor (s : State) : Bool := s.itw.enable && s.itw.linkUp && s.itw.grant

/-- Body of LEARN_APPLY for a learned L2 entry. -/
def learnApplyBody (e : Bytes) : Bytes :=
  slice e 16 8 ++ slice e 12 4 ++ slice e 32 8 ++ slice e 24 8 ++ toLe 1 (bits (le e 40 4) 4 0) ++ toLe 1 (bits (le e 40 4) 9 5) ++
    toLe 1 (b2n (entLocked e)) ++ toLe 1 (entProf e)

def sendLearn (s : State) (type : Nat) (body : Bytes) : State := bump (itwSend s type body) r_ITW_CNT_LEARN_TX

/-- The actor sends a learned entry's new state to the standby. -/
def tellApply (s : State) (l : Loc) : State :=
  if isActor s && entLearned (wayGet s l) then sendLearn s 0x03 (learnApplyBody (wayGet s l)) else s

/-! Deletion (R173, R177). -/

/-- The lowest stash entry that may live in the bucket of a freed way is moved there as Scribe's next request (R177). -/
def promoteInto (s : State) (l : Loc) : State :=
  if l.stash then s
  else match s.cst.stash.find? (fun x => entValid x.2 &&
      (let (b1, b2) := buckets (entKey x.2); decide (l.idx / 4 = b1 ∨ l.idx / 4 = b2))) with
    | some x => { s with cst := { s.cst with queue := .promote x.1 l.idx :: s.cst.queue } }
    | none => s

/-- Removes the entry at a location. -/
def deleteAt (s : State) (l : Loc) : State :=
  let e := wayGet s l
  let s := bump (markDirty (waySet s l (zeros 64)) e) r_SCB_CNT_DELETE
  let s := { s with cst := { s.cst with locked := mapErase s.cst.locked (locWord l) } }
  let s := if isActor s && entLearned e then sendLearn s 0x04 (slice e 16 8) else s
  promoteInto (scribeTrace s 2 l e 0) l

/-! Updates (R172). -/

/-- Where an update addressed by location and epoch applies (R172): the epoch still agrees, or the key is looked up again. -/
def resolveLoc (s : State) (key : Bytes) (l : Loc) (epoch : BitVec 16) : Option Loc :=
  if locEpoch s l = epoch && wayHolds s key l then some l else findKey s key

/-- Field [off + width − 1 : off] of the 512-bit entry takes a value (R196, SPACE 10 numbering). -/
def putEntryField (e : Bytes) (off width v : Nat) : Bytes :=
  if width = 0 then e else toLe 64 (putBits (leVal (fit e 64)) (off + width - 1) off v)

/-- The fields that ENT_UPDATE may write (R197): ACTION, USER0 and USER1, NEXT_MAC, STATE. -/
def updateAllowed (off width : Nat) : Bool :=
  let hi := off + width
  (decide (64 ≤ off ∧ hi ≤ 84)) || (decide (448 ≤ off ∧ hi ≤ 512)) || (decide (272 ≤ off ∧ hi ≤ 320)) || (decide (336 ≤ off ∧ hi ≤ 338))

/-- The entry's TYPE holds the field (R164). -/
def typeHolds (t off : Nat) : Bool :=
  if off < 128 then true else if 448 ≤ off then t = 0 else t = 3

/-- Applies an in-place change of the entry of `key` (R172). -/
def updateEntry (s : State) (key : Bytes) (l : Loc) (epoch : BitVec 16) (off width v : Nat) : State :=
  match resolveLoc s key l epoch with
  | none => bump s r_CST_CNT_UPDATE_LOST
  | some l =>
    let e := wayGet s l
    if entStatic e then bump s r_SCB_CNT_STATIC_CONFLICT
    else markDirty (waySet s l (putEntryField e off width v)) e

/-! Lookups (R166 to R169). -/

/-- Status word of LOOKUP (R197). -/
def lookupStatus (s : State) (r : Option Loc) : Dword :=
  match r with
  | some l => BitVec.ofNat 64 (1 + 4 * b2n l.stash + 8 * l.idx + 2 ^ 48 * (locEpoch s l).toNat)
  | none => 0

/-- A lookup served from the table: status, entry, the hit, and the refresh. -/
def lookupTable (s : State) (key : Bytes) (refresh : Bool) : State × Dword × Bytes × Option LastHit :=
  let s := bump64 s r_CST_CNT_LOOKUP 1
  match findKey s key with
  | none => (s, lookupStatus s none, zeros 64, none)
  | some l =>
    let e := wayGet s l
    let st := lookupStatus s (some l)
    let hit : LastHit := { loc := l, epoch := locEpoch s l, key := key }
    let s := bump64 s r_CST_CNT_HIT 1
    let e' := if refresh then refreshed s e else e
    (if refresh then waySet s l e' else s, st, e', some hit)

def pairFind (s : State) (k : PairKey) : Option PairEntry := (s.cst.pairing.find? (fun x => x.1 = k)).map (fun x => x.2)

def pairErase (s : State) (k : PairKey) : State :=
  { s with cst := { s.cst with pairing := s.cst.pairing.filter (fun x => x.1 ≠ k) } }

/-- Outcome of a paired lookup. -/
inductive Looked where
  /-- Status, entry and hit. -/
  | got (status : Dword) (entry : Bytes) (hit : Option LastHit)
  /-- The late second copy at an expiry mark (R169). -/
  | late
  /-- No free place in the pairing store: the lookup waits (R168). -/
  | waits
  deriving DecidableEq, Repr

/-- A lookup of a pass (R168, R169): a Twin copy shares the result of the other. -/
def lookup (s : State) (pair : Option PairKey) (key : Bytes) (refresh : Bool) : State × Looked :=
  match pair with
  | none => (let (s, st, e, h) := lookupTable s key refresh; (s, .got st e h))
  | some pk =>
    match pairFind s pk with
    | some (.held st e h) => (pairErase s pk, .got st e h)
    | some .mark => (bump (pairErase s pk) r_CST_CNT_PAIR_LATE, .late)
    | none =>
      if bothRails s then
        if 32768 ≤ s.cst.pairing.length then (s, .waits)
        else
          let (s, st, e, h) := lookupTable s key refresh
          ({ s with cst := { s.cst with pairing := s.cst.pairing ++ [(pk, .held st e h)] } }, .got st e h)
      else (let (s, st, e, h) := lookupTable s key refresh; (s, .got st e h))

/-- PAIR_RESULT_EXPIRE (R169). -/
def execPairResultExpire (stream : Nat) (seq : Word) (pass ordinal : Nat) (s : State) : Host.Outcome State Fault Refusal :=
  let pk : PairKey := { stream := stream, seq := seq, pass := pass, ordinal := ordinal }
  match pairFind s pk with
  | some (.held _ _ _) =>
    done (bump { s with cst := { s.cst with pairing := s.cst.pairing.map (fun x => if x.1 = pk then (x.1, .mark) else x) } }
      r_CST_CNT_PAIR_EXPIRED)
  | _ => done s

/-- PAIR_MARK_EXPIRE (R169). -/
def execPairMarkExpire (stream : Nat) (seq : Word) (pass ordinal : Nat) (s : State) : Host.Outcome State Fault Refusal :=
  let pk : PairKey := { stream := stream, seq := seq, pass := pass, ordinal := ordinal }
  match pairFind s pk with
  | some .mark => done (pairErase s pk)
  | _ => done s

/-! Scribe (R173 to R183). -/

/-- A request of the datapath or of a learning message: dropped and counted when the queue is full (R173). -/
def scribePush (s : State) (r : ScribeReq) : State :=
  if 4096 ≤ s.cst.queue.length then bump s r_SCB_CNT_QUEUE_DROP
  else { s with cst := { s.cst with queue := s.cst.queue ++ [r] } }

/-- SCRIBE_REQUEST (R173): the oldest request is taken, one at a time. -/
def execScribeRequest (s : State) : Host.Outcome State Fault Refusal :=
  match s.cst.taken, s.cst.queue with
  | none, r :: rest => done { s with cst := { s.cst with taken := some r, queue := rest } }
  | _, _ => done s

def scribeDone (s : State) : State := { s with cst := { s.cst with taken := none } }

/-- Answer of CST_ENTRY_ADD (R201). -/
def addAnswer (s : State) (cmd : Option (Nat × Nat)) (code : Nat) (loc result : Nat) : State :=
  match cmd with
  | some (ch, seq) => answer s ch seq code (if code = rcOk then toLe 4 loc ++ toLe 1 result ++ zeros 3 else [])
  | none => s

/-- An insertion request (R175, R179, R197, R201). -/
def applyInsert (s : State) (key entry : Bytes) (replace : Bool) (cmd : Option (Nat × Nat)) : State :=
  let e := freshAging s entry
  match findKey s key with
  | some l =>
    if !replace then addAnswer (bump s r_SCB_CNT_EXISTS) cmd rcOk (locWord l) 2
    else if entStatic (wayGet s l) && cmd.isNone then bump s r_SCB_CNT_STATIC_CONFLICT
    else addAnswer (replaceAt s l e) cmd rcOk (locWord l) 1
  | none =>
    match insertNew s e with
    | (s, .inl l) => addAnswer s cmd rcOk (locWord l) 0
    | (s, .inr _) => addAnswer s cmd rcNoResource 0 0

/-- SCRIBE_INSERT (R175). -/
def execScribeInsert (s : State) : Host.Outcome State Fault Refusal :=
  match s.cst.taken with
  | some (.insert key entry replace cmd) => done (applyInsert (scribeDone s) key entry replace cmd)
  | _ => done s

/-- A learned L2 entry (R164, R180, R184). -/
def learnedEntry (s : State) (key : Bytes) (dest : Word) (ts : Dword) (src prof slice_ : Nat) : Bytes :=
  freshAging s (toLe 4 (1 + 4 + 128 * (prof % 8) + 1024 * slice_) ++ zeros 8 ++ toLe 4 dest.toNat ++ slice key 1 8 ++
    toLe 8 ts.toNat ++ toLe 8 ts.toNat ++ toLe 4 (src % 32) ++ zeros 20)

/-- An L2 entry's learning fields (R164). -/
def putMoves (e : Bytes) (moves : Nat) : Bytes := putLe e 40 4 (putBits (le e 40 4) 9 5 moves)
def putLearn (e : Bytes) (dest : Word) (ts : Dword) (src : Nat) : Bytes :=
  putLe (putLe (putLe e 12 4 dest.toNat) 32 8 ts.toNat) 40 4 (putBits (le e 40 4) 4 0 src)

/-- learn() of R180. -/
def applyLearn (s : State) (key : Bytes) (dest : Word) (ts : Dword) (src prof slice_ : Nat) : State :=
  match findKey s key with
  | none =>
    match insertNew s (learnedEntry s key dest ts src prof slice_) with
    | (s, .inl l) => tellApply (scribeTrace s 4 l (wayGet s l) 0) l
    | (s, .inr _) => s
  | some l =>
    let e := wayGet s l
    let cur := BitVec.ofNat 32 (le e 12 4)
    let lts := le e 32 8
    let lsrc := bits (le e 40 4) 4 0
    let put := fun (s : State) (e : Bytes) => tellApply (scribeTrace (waySet s l e) 4 l e 0) l
    if entStatic e then (if dest = cur then s else bump s r_SCB_CNT_STATIC_CONFLICT)
    else if !(later 64 ts.toNat lts || (ts.toNat = lts && decide (src < lsrc))) then
      (if ts.toNat = lts ∧ src = lsrc then s else scribeTrace (bump s r_SCB_CNT_STALE_LEARN) 4 l e 3)
    else if dest = cur then put s (refreshed s (putLearn e dest ts src))
    else if entLocked e then scribeTrace (bump s r_SCB_CNT_LOCKED_REFUSED) 4 l e 4
    else
      let window := hwUse s 0x04A * 256000000
      let e := if window ≤ distance 64 ts.toNat (le e 24 8) then putMoves (putLe e 24 8 ts.toNat) 0 else e
      let moves := bits (le e 40 4) 9 5 + 1
      let e := putMoves e moves
      if hwUse s 0x049 < moves then
        let e := putWordBits e 4 4 1
        let s := bump (put { s with cst := { s.cst with locked := mapSet s.cst.locked (locWord l) s.time.ticks } } e) r_SCB_CNT_LOCK
        eventToManager s 0x8500 (slice e 16 8 ++ toLe 4 cur.toNat ++ toLe 4 dest.toNat ++ toLe 1 moves ++ zeros 3 ++ toLe 8 ts.toNat)
      else
        let s := markDirty (bump s r_SCB_CNT_STATION_MOVE) e
        put s (refreshed s (putLearn e dest ts src))

/-- SCRIBE_LEARN (R180, R183, R294): a standby sends its own requests to the actor. -/
def execScribeLearn (s : State) : Host.Outcome State Fault Refusal :=
  match s.cst.taken with
  | some (.learn key dest ts src prof slice_ fromPartner) =>
    let s := scribeDone s
    if isStandby s && !fromPartner then
      done (sendLearn s 0x02 (slice key 1 8 ++ toLe 4 dest.toNat ++ toLe 8 ts.toNat ++ toLe 1 src ++ toLe 1 prof))
    else done (applyLearn (hwCount (hwCount s 0x049) 0x04A) key dest ts src prof slice_)
  | _ => done s

/-- Entries that a flush deletes (R182, R201). -/
def flushSet (s : State) (slice_ : Option Nat) (types : Nat) (static : Bool) : List Loc :=
  ((allEntries s).filter (fun x => (match slice_ with
    | some n => entSlice x.2 = n
    | none => true) && bitAt types (entType x.2) && (static || !entStatic x.2))).map (fun x => x.1)

/-- SCRIBE_DELETE (R173, R177, R182): a deletion by the datapath, engine code or a command, or a flush. -/
def execScribeDelete (s : State) : Host.Outcome State Fault Refusal :=
  match s.cst.taken with
  | some (.delete key loc allowStatic cmd) =>
    let s := scribeDone s
    let at_ := match loc with
      | some (l, epoch) => resolveLoc s key l epoch
      | none => findKey s key
    let found := fun (s : State) (b : Bool) => match cmd with
      | some (ch, seq) => answer s ch seq rcOk (toLe 1 (b2n b) ++ zeros 3)
      | none => s
    (match at_ with
     | none => done (found s false)
     | some l =>
       if entStatic (wayGet s l) && !allowStatic then done (bump s r_SCB_CNT_STATIC_CONFLICT)
       else done (found (deleteAt s l) true))
  | some (.flush slice_ types static cmd) =>
    let s := scribeDone s
    let ls := flushSet s slice_ types static
    done (answer (ls.foldl deleteAt s) cmd.1 cmd.2 rcOk (toLe 4 ls.length))
  | _ => done s

/-- SCRIBE_UPDATE (R172, R182, R229). -/
def execScribeUpdate (s : State) : Host.Outcome State Fault Refusal :=
  match s.cst.taken with
  | some (.update key loc epoch off width value) =>
    done (updateEntry (scribeDone s) key loc epoch off width value.toNat)
  | _ => done s

/-- STASH_PROMOTE (R177): the stash entry moves into the freed way, when both still stand so. -/
def execStashPromote (s : State) : Host.Outcome State Fault Refusal :=
  let go := fun (s : State) (idx to_ : Nat) =>
    if entValid (wayGet s ⟨true, idx⟩) ∧ ¬ entValid (wayGet s ⟨false, to_⟩) ∧
        (let (b1, b2) := buckets (entKey (wayGet s ⟨true, idx⟩)); to_ / 4 = b1 ∨ to_ / 4 = b2) then
      relocate s ⟨true, idx⟩ ⟨false, to_⟩
    else s
  match s.cst.taken, s.cst.queue with
  | some (.promote idx to_), _ => done (go (scribeDone s) idx to_)
  | none, .promote idx to_ :: rest => done (go { s with cst := { s.cst with queue := rest } } idx to_)
  | _, _ => done s

/-! Aging (R184 to R188, R295). -/

/-- Age limit of a profile in stamp units, rounded half-even (R184). -/
def ageUnits (timeout : Nat) : Nat := (roundHalfEven (timeout * 1000000000 : Nat) 65536).toNat

/-- Sweep period in stamp units, rounded half-even (R187). -/
def periodUnits (s : State) : Nat := (roundHalfEven (sweepMs s * 1000000 : Nat) 65536).toNat

/-- The walker's deletion; a standby deletes no learned L2 entry (R295). -/
def ageDelete (s : State) (l : Loc) : State :=
  if isStandby s && entLearned (wayGet s l) then s else bump (deleteAt s l) r_CST_CNT_AGED

/-- A visit of one non-static entry (R184, R186, R187). -/
def ageVisit (s : State) (l : Loc) : State :=
  let e := wayGet s l
  let timeout := ageTimeout s (entProf e)
  if s.cst.hitMode then
    if !entAm e then waySet s l (putLe (putWordBits e 6 5 2) 4 4 0)
    else if entHit e then waySet s l (putLe (putWordBits e 5 5 0) 4 4 0)
    else
      let idle := min (le e 4 4 + 1) 0xFFFFFFFF
      let s := waySet s l (putLe e 4 4 idle)
      if timeout ≠ 0 ∧ ceilDiv (timeout * 1000) (sweepMs s) ≤ idle then ageDelete s l else s
  else if entAm e then
    let now := ageNow s
    let stamp := if entHit e then now else distance 32 now ((le e 4 4 * periodUnits s) % 4294967296)
    waySet s l (putLe (putWordBits e 6 5 0) 4 4 stamp)
  else if timeout ≠ 0 ∧ ageUnits timeout ≤ distance 32 (ageNow s) (le e 4 4) then ageDelete s l
  else s

/-- An entry was hit since the walker's last visit, one period ago. -/
def hitSinceVisit (s : State) (e : Bytes) : Bool :=
  if s.cst.hitMode || entAm e then entHit e else decide (distance 32 (ageNow s) (le e 4 4) < periodUnits s)

/-- A standby reports a hit learned entry (R295). -/
def refreshReport (s : State) (l : Loc) : State :=
  let e := wayGet s l
  if isStandby s && entLearned e && hitSinceVisit s e then sendLearn s 0x05 (slice e 16 8) else s

def ageAt (s : State) (l : Loc) : State :=
  let e := wayGet s l
  if entValid e && !entStatic e then ageVisit (refreshReport s l) l else s

/-- AGE_WALK_VISIT (R186 to R188): one bucket, or the stash, which ends a sweep. -/
def execAgeWalkVisit (bucket : Nat) (s : State) : Host.Outcome State Fault Refusal :=
  let s := hwCount s 0x040
  if bucket < 1048576 then
    let s := if bucket = 0 then { s with cst := { s.cst with sweepWhole := true } } else s
    done ((List.range 4).foldl (fun s w => ageAt s ⟨false, bucket * 4 + w⟩) s)
  else if bucket = 1048576 then
    let s := (s.cst.stash.map (fun x => x.1)).foldl (fun s i => ageAt s ⟨true, i⟩) s
    done { s with cst := { s.cst with sweeps := if s.cst.sweepWhole then s.cst.sweeps + 1 else s.cst.sweeps } }
  else done s

/-- STAMP_MODE_RESTORE (R187): after two full sweeps without a step. -/
def execStampModeRestore (s : State) : Host.Outcome State Fault Refusal :=
  if s.cst.hitMode ∧ 2 ≤ s.cst.sweeps then done { s with cst := { s.cst with hitMode := false } } else done s

/-- Cistern's response to a step of the time value (R185). -/
def cisternStep (s : State) : State :=
  let s := if s.cst.hitMode then s else bump s r_CST_CNT_HIT_MODE
  { s with cst := { s.cst with hitMode := true, sweeps := 0, sweepWhole := false } }

/-- Unlocks an entry (R181). -/
def unlockAt (s : State) (l : Loc) : State :=
  let s := waySet s l (putMoves (putWordBits (wayGet s l) 4 4 0) 0)
  tellApply { s with cst := { s.cst with locked := mapErase s.cst.locked (locWord l) } } l

/-- LOCK_HOLD_EXPIRE (R181): SCB_LOCK_HOLD seconds after locking; 0 holds until unlocked. -/
def execLockHoldExpire (stash : Bool) (loc : Nat) (s : State) : Host.Outcome State Fault Refusal :=
  let l : Loc := ⟨stash, loc⟩
  if hwUse s 0x04B ≠ 0 ∧ entLocked (wayGet s l) ∧ entValid (wayGet s l) then done (unlockAt s l) else done s

/-- CST_ECC_INVALIDATE (R192): the way is invalid, the error captured, logged and reported. -/
def execCstEccInvalidate (stash : Bool) (loc : Nat) (s : State) : Host.Outcome State Fault Refusal :=
  if loc < (if stash then 1024 else 4194304) then
    let l : Loc := ⟨stash, loc⟩
    let e := wayGet s l
    let s := if entValid e then markDirty (waySet s l (zeros 64)) e else s
    let s := { s with cst := { s.cst with locked := mapErase s.cst.locked (locWord l) } }
    let s := capture (setBits (bump s r_CST_CNT_ECC_UNCORR) r_CST_STATUS 2#32) r_CST_ECC_ADDR (locWord l)
    let addr := if stash then 0x1324800000 + 64 * loc else 0x1000000000 + 64 * loc
    let s := errlog s 0x0104 9 0xFFFF addr (toLe 1 0)
    done (eventToManager (promoteInto s l) 0x8502 (toLe 4 (locWord l) ++ toLe 1 (b2n stash)))
  else done s

/-! Square (R189 to R191). -/

/-- The canonical image of an entry (R189). -/
def canonical (e : Bytes) : Bytes :=
  let e := putLe (putWordBits e 6 4 0) 4 4 0
  if entType e = 1 then splice e 24 (zeros 20) else e

/-- The entry is in the audit's scope (R189). -/
def inScope (scope : Nat) (learned : Bool) (e : Bytes) : Bool := bitAt scope (entType e) && (learned || !entLearned e)

/-- Digest and count of a region (R189). -/
def regionDigest (s : State) (a : Audit) (r : Nat) : Word × Nat :=
  let es := (allEntries s).filter (fun x => inScope a.scope a.learned x.2 && regionOf x.2 = r)
  (es.foldl (fun w x => w + crc32c (canonical x.2)) 0, es.length)

/-- Sets the bits of regions in a register array. -/
def setRegions (s : State) (base : Nat → Nat) (rs : List Nat) : State :=
  rs.foldl (fun s r => setBits s (base (r / 32)) (BitVec.ofNat 32 (2 ^ (r % 32)))) s

/-- A DIRTY region's digest and count depend on where the walk stood (R190). -/
def auditRegion (s : State) (a : Audit) (m : AMap (Word × Nat)) (r : Nat) : AMap (Word × Nat) :=
  let v := if r ∈ s.sqr.dirty then
      (BitVec.ofNat 32 (Config.freeNat (s.fresh + 2 * r)), Config.freeNat (s.fresh + 2 * r + 1) % 8388608)
    else regionDigest s a r
  if v = (0, 0) then mapErase m r else mapSet m r v

/-- SQR_AUDIT_COMPLETE (R191). -/
def execSqrAuditComplete (s : State) : Host.Outcome State Fault Refusal :=
  match s.sqr.walk with
  | none => done s
  | some a =>
    let digest := (List.range 1024).foldl (auditRegion s a) []
    let bad := if a.compare then
        (List.range 1024).filter (fun r => !s.sqr.dirty.contains r && mapGetD digest r (0, 0) ≠ mapGetD s.sqr.expect r (0, 0))
      else []
    let round := s.sqr.round + 1
    let dirty := s.sqr.dirty
    let s := { s with fresh := s.fresh + 2048, sqr := { s.sqr with walk := none, round := round, digest := digest, mismatch := bad } }
    let s := setRegions s r_SQR_MISMATCH bad
    let s := if bad.isEmpty then s
      else eventToManager (setBits s r_SQR_STATUS 2#32) 0x8510 (toLe 4 round.toNat ++ toLe 2 bad.length)
    done (answer s a.chan a.seq rcOk (toLe 4 round.toNat ++ toLe 2 bad.length ++ toLe 2 dirty.length))

/-! Commands (R201, R673). -/

/-- A TYPE and KEY field: the bytes past the type's key length are 0 (R673). -/
def keyField (req : Bytes) : Option Bytes :=
  let t := byteAt req 0
  if 3 < t then none
  else if (slice req (4 + keyLen t) (40 - keyLen t)).all (fun b => b = 0) then some (toLe 1 t ++ slice req 4 (keyLen t)) else none

/-- CST_ENTRY_ADD (R173, R182, R201, R673): answered once Scribe has applied it. -/
def execCstEntryAdd (ch seq : Nat) (s : State) : Host.Outcome State Fault Refusal :=
  command s ch seq 0x0500 (fun req =>
    let e := putWordBits (slice req 8 64) 6 4 0
    if !entValid e then answer s ch seq rcBadParam []
    else if 4096 ≤ s.cst.queue.length then answer s ch seq rcBusy []
    else
      defer { s with cst := { s.cst with
        queue := s.cst.queue ++ [.insert (entKey e) e (bitAt (le req 0 4) 0) (some (ch, seq))] } } ch seq)

/-- CST_ENTRY_DELETE (R173, R201, R673). -/
def execCstEntryDelete (ch seq : Nat) (s : State) : Host.Outcome State Fault Refusal :=
  command s ch seq 0x0501 (fun req =>
    match keyField req with
    | none => answer s ch seq rcBadParam []
    | some key =>
      if 4096 ≤ s.cst.queue.length then answer s ch seq rcBusy []
      else defer { s with cst := { s.cst with queue := s.cst.queue ++ [.delete key none true (some (ch, seq))] } } ch seq)

/-- CST_ENTRY_READ (R201). -/
def execCstEntryRead (ch seq : Nat) (s : State) : Host.Outcome State Fault Refusal :=
  command s ch seq 0x0502 (fun req =>
    match keyField req with
    | none => answer s ch seq rcBadParam []
    | some key =>
      match findKey s key with
      | some l => answer s ch seq rcOk (toLe 1 1 ++ zeros 3 ++ toLe 4 (locWord l) ++ fit (wayGet s l) 64)
      | none => answer s ch seq rcOk (zeros 72))

/-- CST_ENTRY_UNLOCK (R181, R201). -/
def execCstEntryUnlock (ch seq : Nat) (s : State) : Host.Outcome State Fault Refusal :=
  command s ch seq 0x0503 (fun req =>
    match keyField req with
    | none => answer s ch seq rcBadParam []
    | some key =>
      if byteAt req 0 ≠ 1 then answer s ch seq rcBadParam []
      else match findKey s key with
        | some l => answer (if entLocked (wayGet s l) then unlockAt s l else s) ch seq rcOk (toLe 1 1 ++ zeros 3)
        | none => answer s ch seq rcOk (zeros 4))

/-- CST_FLUSH (R173, R182, R201): its deletions pass through Scribe's queue. -/
def execCstFlush (ch seq : Nat) (s : State) : Host.Outcome State Fault Refusal :=
  command s ch seq 0x0504 (fun req =>
    let n := le req 0 2
    if n ≠ 0xFFFF ∧ n ≠ 0xFFF ∧ 2049 < n then answer s ch seq rcBadParam []
    else
      defer { s with cst := { s.cst with
        queue := s.cst.queue ++ [.flush (if n = 0xFFFF then none else some n) (byteAt req 2) (bitAt (byteAt req 3) 0) (ch, seq)] } } ch seq)

/-- CST_FLOOD_SET (R201). -/
def execCstFloodSet (ch seq : Nat) (s : State) : Host.Outcome State Fault Refusal :=
  command s ch seq 0x0506 (fun req =>
    let n := byteAt req 2
    if 32 < n then answer s ch seq rcBadParam []
    else
      let l := (List.range n).map (fun i => BitVec.ofNat 32 (le req (4 + 4 * i) 4))
      let bd := le req 0 2
      answer { s with cst := { s.cst with flood := if l.isEmpty then mapErase s.cst.flood bd else mapSet s.cst.flood bd l } }
        ch seq rcOk [])

/-- SQR_EXPECT_WRITE (R191, R201). -/
def execSqrExpectWrite (ch seq : Nat) (s : State) : Host.Outcome State Fault Refusal :=
  command s ch seq 0x0518 (fun req =>
    let first := le req 0 2
    let n := le req 2 2
    if n < 1 ∨ 30 < n ∨ 1024 < first + n then answer s ch seq rcBadParam []
    else
      let expect := (List.range n).foldl (fun m i =>
        let v := (BitVec.ofNat 32 (le req (8 + 8 * i) 4), le req (12 + 8 * i) 4)
        if v = ((0, 0) : Word × Nat) then mapErase m (first + i) else mapSet m (first + i) v) s.sqr.expect
      answer { s with sqr := { s.sqr with expect := expect } } ch seq rcOk [])

/-- SQR_AUDIT_START (R190, R201): answered when the walk ends. -/
def execSqrAuditStart (ch seq : Nat) (s : State) : Host.Outcome State Fault Refusal :=
  command s ch seq 0x0519 (fun req =>
    if s.sqr.walk.isSome then answer s ch seq rcBusy []
    else
      let a : Audit := { scope := bits (byteAt req 0) 3 0, learned := bitAt (byteAt req 0) 4, compare := bitAt (byteAt req 1) 0,
                         chan := ch, seq := seq }
      defer { s with sqr := { s.sqr with walk := some a, dirty := [], mismatch := [] } } ch seq)

/-- SQR_RESULT_READ (R201). -/
def execSqrResultRead (ch seq : Nat) (s : State) : Host.Outcome State Fault Refusal :=
  command s ch seq 0x051A (fun req =>
    let first := le req 0 2
    let n := le req 2 2
    if n < 1 ∨ 30 < n ∨ 1024 < first + n then answer s ch seq rcBadParam []
    else
      answer s ch seq rcOk (req ++ (List.range n).flatMap (fun i =>
        let (d, c) := mapGetD s.sqr.digest (first + i) (0, 0)
        toLe 4 d.toNat ++ toLe 4 (c + 2 ^ 29 * b2n (s.sqr.dirty.contains (first + i)) +
          2 ^ 30 * b2n (s.sqr.mismatch.contains (first + i))))))

end Sys2Proof.Machine
end

