-- ==== Sys2Proof/Machine/Action.lean ====
section
/-! DEFINITION. The action unit: records and operations (R193 to R200, R674, R675), length-changing edits (R198, R304 to R306, R470),
verdicts and the end of a pass, and the record commands (R201). -/

namespace Sys2Proof.Machine

open Sys2Proof

/-! Operation fields (R195); `o` is the 16-byte operation. -/

def opOpc (o : Bytes) : Nat := bits (le o 0 4) 7 0
def opA (o : Bytes) : Nat := bits (le o 0 4) 11 8
def opB (o : Bytes) : Nat := bits (le o 0 4) 15 12
def opC (o : Bytes) : Nat := bits (le o 0 4) 19 16
def opSpace (o : Bytes) : Nat := bits (le o 4 4) 3 0
def opOff (o : Bytes) : Nat := bits (le o 4 4) 15 4
def opWidth (o : Bytes) : Nat := bits (le o 4 4) 22 16
def opImm (o : Bytes) : Nat := le o 8 8

/-- Operation `i` of a record. -/
def recOp (r : Bytes) (i : Nat) : Bytes := slice r (16 + 16 * i) 16

def recNops (r : Bytes) : Nat := bits (le r 0 4) 3 0
def recValid (r : Bytes) : Bool := bitAt (le r 0 4) 4

/-- A register of the pass. -/
def gReg (k : Pkt) (n : Nat) : Dword := (k.pass.g[n]?).getD 0

def setG (k : Pkt) (n : Nat) (v : Dword) : Pkt := { k with pass := { k.pass with g := k.pass.g.set n v } }

/-- V (R196): register A, or the immediate's low word. -/
def opV (k : Pkt) (o : Bytes) : Nat := if bitAt (opImm o) 63 then (gReg k (opA o)).toNat else bits (opImm o) 31 0

/-! Fields (R196). -/

/-- Byte at which a writable space begins, when the field is present. -/
def fieldBase (k : Pkt) (space off width : Nat) : Option Nat :=
  if space ≤ 7 then
    let l := (k.hdr.slots[space]?).getD {}
    if l.valid ∧ off + width ≤ 8 * l.len then some l.offset else none
  else if space = 11 then if off + width ≤ 8 * min 512 k.frame.length then some 0 else none
  else none

/-- Value of a field; an absent one is 0. -/
def fieldGet (k : Pkt) (space off width : Nat) : Nat :=
  if space = 8 then (metaVector k.hdr / 2 ^ off) % 2 ^ width
  else if space = 9 then (leVal (jigBytes k.jig) / 2 ^ off) % 2 ^ width
  else if space = 10 then (leVal (fit k.pass.ent 64) / 2 ^ off) % 2 ^ width
  else match fieldBase k space off width with
    | some b => bitField k.frame (8 * b + off) width
    | none => 0

/-- The frame with a field written; none when the field is absent. -/
def fieldPut (k : Pkt) (space off width v : Nat) : Option Pkt :=
  (fieldBase k space off width).map (fun b => { k with frame := putBitField k.frame (8 * b + off) width v })

/-- Counts an operation that acts on nothing (R204). -/
def absentWrite (s : State) (k : Pkt) : State := bump s (r_CST_ACT_CNT_ABSENT_WRITE k.hdr.pipeline)

/-- Slot `n` of the pass, when its VALID is 1 and its LEN covers `len` bytes (R675). -/
def slotFor (k : Pkt) (n len : Nat) : Option LayerSlot :=
  match k.hdr.slots[n]? with
  | some l => if l.valid ∧ len ≤ l.len then some l else none
  | none => none

/-! The end of an operation. -/

/-- A pass ends by dropping its packet; its last OPC is traced (R625). -/
def actDrop (s : State) (p : Nat) (k : Pkt) (opc : Nat) : State := passDrop (tracePass (pktSet s p k) k opc) p

/-- A pass ends in an exception raised before a verdict: its pending edits are discarded (R215). -/
def actException (s : State) (p : Nat) (k : Pkt) (kind : ItemKind) (counterAddr : Nat) : State :=
  let k := { k with pass := { k.pass with edits := [] } }
  exception (bump (tracePass s k 0) counterAddr) p k (exceptionCluster k) kind 0 k.pass.op

/-- Continues at operation `n` of the record, or drops the pass that has passed the last one without a verdict (R198). -/
def actGoto (s : State) (p : Nat) (k : Pkt) (n : Nat) : State :=
  if n < recNops k.pass.record then pktSet s p { k with pass := { k.pass with op := n } }
  else actDrop (bump s (r_CST_ACT_CNT_NO_VERDICT k.hdr.pipeline)) p k 0

/-- Continues at the next operation. -/
def actNext (s : State) (p : Nat) (k : Pkt) : State := actGoto s p k (k.pass.op + 1)

/-- Enters record `idx` (R193, R194, R198): the header's checks, a drop or an exception, or operation 0. -/
def enterRecord (s : State) (p : Nat) (k : Pkt) (idx : Nat) : State :=
  let pl := k.hdr.pipeline
  let r := mapGetD s.act.table idx (zeros 240)
  let s := if Config.cacheMiss s.fresh then bump (drawn s) (r_CST_ACT_CNT_CACHE_MISS pl) else drawn s
  let k := { k with pass := { k.pass with recIdx := idx } }
  if !recValid r then actException s p k .actBadRecord (r_CST_ACT_CNT_BAD_RECORD pl)
  else if bitAt (le r 4 4) 12 ∧ bits (le r 4 4) 11 0 ≠ k.hdr.slice then
    actDrop (bump s (r_CST_ACT_CNT_SLICE_CHECK pl)) p k 0
  else pktSet s p { k with stage := .action, pass := { k.pass with record := r, op := 0 } }

/-- ACTION_RECORD_FETCH (R193 to R196): the pass enters its action unit; G0 is the COOKIE. -/
def execActionRecordFetch (p : Nat) (s : State) : Host.Outcome State Fault Refusal :=
  match pktGet s p with
  | none => done s
  | some k =>
    if k.stage = .fetch then
      done (enterRecord s p { k with pass := { g := k.jig.cookie.setWidth 64 :: List.replicate 15 0 } } k.jig.action)
    else done s

/-- Runs operation `opc` of a pass when it is the pass's next one; the sixty-fifth raises ACT_OP_LIMIT (R198). -/
def runOp (s : State) (p opc : Nat) (f : State → Pkt → Bytes → State) : Host.Outcome State Fault Refusal :=
  match pktGet s p with
  | none => done s
  | some k =>
    let o := recOp k.pass.record k.pass.op
    if k.stage = .action ∧ opOpc o = opc then
      if 64 ≤ k.pass.opsRun then done (actException s p k .actOpLimit (r_CST_ACT_CNT_OP_LIMIT k.hdr.pipeline))
      else done (f s { k with pass := { k.pass with opsRun := k.pass.opsRun + 1 } } o)
    else done s

/-- An operation that sets register A. -/
def runAlu (s : State) (p opc : Nat) (f : Pkt → Bytes → Dword) : Host.Outcome State Fault Refusal :=
  runOp s p opc (fun s k o => actNext s p (setG k (opA o) (f k o)))

/-- A branch on a condition of the registers. -/
def runBranch (s : State) (p opc : Nat) (c : Pkt → Bytes → Bool) : Host.Outcome State Fault Refusal :=
  runOp s p opc (fun s k o => if c k o then actGoto s p k (bits (opImm o) 3 0) else actNext s p k)

/-! Registers and fields. -/

/-- LDI (R197): A := IMM. -/
def execLdi (p : Nat) (s : State) : Host.Outcome State Fault Refusal :=
  runAlu s p 0x01 (fun _ o => BitVec.ofNat 64 (opImm o))

/-- LDF (R196, R197): A := field, zero-extended. -/
def execLdf (p : Nat) (s : State) : Host.Outcome State Fault Refusal :=
  runAlu s p 0x02 (fun k o => BitVec.ofNat 64 (fieldGet k (opSpace o) (opOff o) (opWidth o)))

/-- STF (R196, R197): field := A[WIDTH−1:0]. -/
def execStf (p : Nat) (s : State) : Host.Outcome State Fault Refusal :=
  runOp s p 0x03 (fun s k o =>
    match fieldPut k (opSpace o) (opOff o) (opWidth o) (gReg k (opA o)).toNat with
    | some k => actNext s p k
    | none => actNext (absentWrite s k) p k)

/-- MOV (R197): A := B. -/
def execMov (p : Nat) (s : State) : Host.Outcome State Fault Refusal := runAlu s p 0x04 (fun k o => gReg k (opB o))

/-- ADD (R197): A := B + C. -/
def execAdd (p : Nat) (s : State) : Host.Outcome State Fault Refusal :=
  runAlu s p 0x08 (fun k o => gReg k (opB o) + gReg k (opC o))

/-- SUB (R197): A := B − C. -/
def execSub (p : Nat) (s : State) : Host.Outcome State Fault Refusal :=
  runAlu s p 0x09 (fun k o => gReg k (opB o) - gReg k (opC o))

/-- AND (R197): A := B AND C. -/
def execAnd (p : Nat) (s : State) : Host.Outcome State Fault Refusal :=
  runAlu s p 0x0A (fun k o => gReg k (opB o) &&& gReg k (opC o))

/-- OR (R197): A := B OR C. -/
def execOr (p : Nat) (s : State) : Host.Outcome State Fault Refusal :=
  runAlu s p 0x0B (fun k o => gReg k (opB o) ||| gReg k (opC o))

/-- XOR (R197): A := B XOR C. -/
def execXor (p : Nat) (s : State) : Host.Outcome State Fault Refusal :=
  runAlu s p 0x0C (fun k o => gReg k (opB o) ^^^ gReg k (opC o))

/-- SHL (R197): A := B shifted left by IMM[5:0]. -/
def execShl (p : Nat) (s : State) : Host.Outcome State Fault Refusal :=
  runAlu s p 0x0D (fun k o => gReg k (opB o) <<< bits (opImm o) 5 0)

/-- SHR (R197): A := B shifted right, logically, by IMM[5:0]. -/
def execShr (p : Nat) (s : State) : Host.Outcome State Fault Refusal :=
  runAlu s p 0x0E (fun k o => gReg k (opB o) >>> bits (opImm o) 5 0)

/-- ADDI (R197): A := B + IMM. -/
def execAddi (p : Nat) (s : State) : Host.Outcome State Fault Refusal :=
  runAlu s p 0x0F (fun k o => gReg k (opB o) + BitVec.ofNat 64 (opImm o))

/-- CRC (R197): A := CRC-32C of the low IMM[3:0] bytes of B, least significant byte first. -/
def execCrc (p : Nat) (s : State) : Host.Outcome State Fault Refusal :=
  runAlu s p 0x10 (fun k o => (crc32c ((toLe 8 (gReg k (opB o)).toNat).take (bits (opImm o) 3 0))).setWidth 64)

/-! Flow. -/

/-- BEQ (R197). -/
def execBeq (p : Nat) (s : State) : Host.Outcome State Fault Refusal :=
  runBranch s p 0x18 (fun k o => gReg k (opA o) = gReg k (opB o))

/-- BNE (R197). -/
def execBne (p : Nat) (s : State) : Host.Outcome State Fault Refusal :=
  runBranch s p 0x19 (fun k o => gReg k (opA o) ≠ gReg k (opB o))

/-- BLT (R197): unsigned. -/
def execBlt (p : Nat) (s : State) : Host.Outcome State Fault Refusal :=
  runBranch s p 0x1A (fun k o => (gReg k (opA o)).toNat < (gReg k (opB o)).toNat)

/-- BGE (R197): unsigned. -/
def execBge (p : Nat) (s : State) : Host.Outcome State Fault Refusal :=
  runBranch s p 0x1B (fun k o => (gReg k (opB o)).toNat ≤ (gReg k (opA o)).toNat)

/-- BTST (R197): bit IMM[13:8] of A. -/
def execBtst (p : Nat) (s : State) : Host.Outcome State Fault Refusal :=
  runBranch s p 0x1C (fun k o => bitAt (gReg k (opA o)).toNat (bits (opImm o) 13 8))

/-- JUMP (R197): operation 0 of record IMM[19:0]. -/
def execJump (p : Nat) (s : State) : Host.Outcome State Fault Refusal :=
  runOp s p 0x1D (fun s k o => enterRecord s p k (bits (opImm o) 19 0))

/-- END (R197, R198): the record ends with no verdict. -/
def execEndOp (p : Nat) (s : State) : Host.Outcome State Fault Refusal :=
  runOp s p 0x1E (fun s k _ => actDrop (bump s (r_CST_ACT_CNT_NO_VERDICT k.hdr.pipeline)) p k 0x1E)

/-! Cistern. -/

/-- Key of a type from G[B] onward, most significant byte first. -/
def regKey (k : Pkt) (type b : Nat) : Bytes :=
  toLe 1 type ++ ((List.range 5).flatMap (fun i => toBe 8 (gReg k (b + i)).toNat)).take (keyLen type)

/-- LOOKUP (R168, R169, R197, R198, R674). -/
def execLookup (p : Nat) (s : State) : Host.Outcome State Fault Refusal :=
  runOp s p 0x20 (fun s k o =>
    if 8 ≤ k.pass.lookups then
      actException s p { k with pass := { k.pass with opsRun := k.pass.opsRun - 1 } } .actLookupLimit
        (r_CST_ACT_CNT_LOOKUP_LIMIT k.hdr.pipeline)
    else
      let pair : Option PairKey := if k.hdr.twin then
          some { stream := k.stream, seq := k.hdr.twinSeq, pass := k.hdr.pass, ordinal := k.pass.lookups }
        else none
      let r := lookup s pair (regKey k (bits (opImm o) 1 0) (opB o)) (bitAt (opImm o) 2)
      match r.2 with
      | .got st e h =>
        let k := setG k (opA o) st
        actNext r.1 p { k with pass := { k.pass with lookups := k.pass.lookups + 1, ent := e, lastHit := h } }
      | .late => actDrop r.1 p (setG k (opA o) 2) 0x20
      | .waits => s)

/-- A shared-state side effect takes effect from the owning copy only (R174). -/
def sideEffect (s : State) (k : Pkt) (f : State → State) : State :=
  if ownsSideEffects s k then f s else bump s r_SCB_CNT_TWIN_DISCARD

/-- ENT_UPDATE (R172, R197, R674): a field of the last-hit entry := A. -/
def execEntUpdate (p : Nat) (s : State) : Host.Outcome State Fault Refusal :=
  runOp s p 0x21 (fun s k o =>
    match k.pass.lastHit with
    | none => actNext s p k
    | some h =>
      if !typeHolds (byteAt h.key 0) (opOff o) then actNext (absentWrite s k) p k
      else actNext (sideEffect s k (fun s => updateEntry s h.key h.loc h.epoch (opOff o) (opWidth o) (gReg k (opA o)).toNat)) p k)

/-- LEARN (R180, R197). -/
def execLearn (p : Nat) (s : State) : Host.Outcome State Fault Refusal :=
  runOp s p 0x22 (fun s k o =>
    actNext (sideEffect s k (fun s => scribePush s
      (.learn (regKey k 1 (opB o)) ((gReg k (opA o)).setWidth 32) k.stamp k.hdr.source (bits (opImm o) 2 0) k.hdr.slice false))) p k)

/-- FLOW entry of an INSERT (R163, R164, R197): `a` is G[C] and `u` G[C+1]. -/
def flowEntry (k : Pkt) (o : Bytes) (a u : Nat) : Bytes :=
  toLe 4 (4 + 128 * bits (opImm o) 2 0 + 1024 * k.hdr.slice) ++ zeros 4 ++ toLe 4 (bits a 19 0) ++
    toLe 4 (bits a 41 20 + 4194304 * bits a 42 42) ++ slice (regKey k 0 (opB o)) 1 40 ++ toLe 8 u

/-- INSERT (R175, R179, R197). With C 15 there is no G[C+1]: the manual states no value of USER0 and USER1. -/
def execInsert (p : Nat) (s : State) : Host.Outcome State Fault Refusal :=
  runOp s p 0x23 (fun s k o =>
    let u := if opC o = 15 then Config.freeNat s.fresh else (gReg k (opC o + 1)).toNat
    let s := if opC o = 15 then drawn s else s
    actNext (sideEffect s k (fun s => scribePush s
      (.insert (regKey k 0 (opB o)) (flowEntry k o (gReg k (opC o)).toNat u) (bitAt (opImm o) 3) none))) p k)

/-- DELETE (R173, R197, R674). -/
def execDelete (p : Nat) (s : State) : Host.Outcome State Fault Refusal :=
  runOp s p 0x24 (fun s k _ =>
    match k.pass.lastHit with
    | none => actNext s p k
    | some h => actNext (sideEffect s k (fun s => scribePush s (.delete h.key (some (h.loc, h.epoch)) false none))) p k)

/-! Header operations. -/

/-- TTL_DEC (R74, R197, R675). -/
def execTtlDec (p : Nat) (s : State) : Host.Outcome State Fault Refusal :=
  runOp s p 0x28 (fun s k o =>
    let v6 := bitAt (opImm o) 3
    match slotFor k (bits (opImm o) 2 0) (if v6 then 8 else 12) with
    | none => actNext (absentWrite s k) p k
    | some l =>
      let at_ := l.offset + (if v6 then 7 else 8)
      let ttl := byteAt k.frame at_
      if ttl ≤ 1 then actException s p k .actTtl (r_CST_ACT_CNT_TTL k.hdr.pipeline)
      else
        let f := putBe k.frame at_ 1 (ttl - 1)
        let f := if v6 then f
          else putBe f (l.offset + 10) 2 (csumUpdate (be k.frame (l.offset + 10) 2) (be k.frame (l.offset + 8) 2) (be f (l.offset + 8) 2))
        actNext s p { k with frame := f })

/-- Updates one checksum for a change of the frame from `old` to `k.frame` in bytes [lo, hi) (R73, R74); words are aligned with the
checksum's header. -/
def fixCsum (s : State) (k : Pkt) (old : Bytes) (lo hi slot byte : Nat) (udp : Bool) : State × Pkt :=
  if slot = 15 then (s, k)
  else match slotFor k slot (byte + 2) with
    | none => (absentWrite s k, k)
    | some l =>
      let a := lo - (if lo % 2 = l.offset % 2 then 0 else 1)
      let n := hi - a + (if (hi - a) % 2 = 0 then 0 else 1)
      let hc := be old (l.offset + byte) 2
      let r := if udp then udpCsumUpdateAll hc (slice old a n) (slice k.frame a n)
        else csumUpdateAll hc (slice old a n) (slice k.frame a n)
      (s, { k with frame := putBe k.frame (l.offset + byte) 2 r })

/-- CSTF (R73, R74, R197, R675): a field with up to two checksums. -/
def execCstf (p : Nat) (s : State) : Host.Outcome State Fault Refusal :=
  runOp s p 0x29 (fun s k o =>
    let imm := opImm o
    match fieldBase k (opSpace o) (opOff o) (opWidth o), fieldPut k (opSpace o) (opOff o) (opWidth o) (gReg k (opA o)).toNat with
    | some b, some k' =>
      let lo := b + opOff o / 8
      let hi := b + (opOff o + opWidth o + 7) / 8
      let (s, k1) := fixCsum s k' k.frame lo hi (bits imm 3 0) (bits imm 12 4) false
      let (s, k2) := fixCsum s { k1 with frame := k'.frame } k.frame lo hi (bits imm 19 16) (bits imm 28 20) (bitAt imm 29)
      let c1 := (slotFor k (bits imm 3 0) (bits imm 12 4 + 2)).map (fun l => l.offset + bits imm 12 4)
      let f := match c1 with
        | some a => if bits imm 3 0 = 15 then k2.frame else splice k2.frame a (slice k1.frame a 2)
        | none => k2.frame
      actNext s p { k2 with frame := f }
    | _, _ => actNext (absentWrite s k) p k)

/-- An operation that queues an edit of the slot `n`, whose LEN covers `len` bytes (R198, R675). -/
def runEdit (s : State) (p : Nat) (k : Pkt) (n len : Nat) (e : Nat → Edit) : State :=
  match slotFor k n len with
  | some l => actNext s p { k with pass := { k.pass with edits := k.pass.edits ++ [e l.offset] } }
  | none => actNext (absentWrite s k) p k

/-- VLAN_PUSH (R197, R675). -/
def execVlanPush (p : Nat) (s : State) : Host.Outcome State Fault Refusal :=
  runOp s p 0x2A (fun s k o =>
    runEdit s p k (bits (opImm o) 18 16) 12 (fun a => .vlanPush a (bits (opImm o) 15 0) (bits (gReg k (opA o)).toNat 15 0)))

/-- VLAN_POP (R197, R675). -/
def execVlanPop (p : Nat) (s : State) : Host.Outcome State Fault Refusal :=
  runOp s p 0x2B (fun s k o => runEdit s p k (bits (opImm o) 18 16) 14 (fun a => .vlanPop a))

/-- ENCAP (R197, R304). -/
def execEncap (p : Nat) (s : State) : Host.Outcome State Fault Refusal :=
  runOp s p 0x2C (fun s k o =>
    actNext s p { k with pass := { k.pass with edits := k.pass.edits ++ [.encap (bits (opV k o) 15 0)] } })

/-- DECAP (R197, R306, R675). -/
def execDecap (p : Nat) (s : State) : Host.Outcome State Fault Refusal :=
  runOp s p 0x2D (fun s k o => runEdit s p k (bits (opImm o) 2 0) 0 (fun a => .decap a))

/-! Settings of the pass. -/

/-- SET_TC (R197, R345). -/
def execSetTc (p : Nat) (s : State) : Host.Outcome State Fault Refusal :=
  runOp s p 0x30 (fun s k o => actNext s p { k with pass := { k.pass with tc := some (bits (opV k o) 2 0) } })

/-- MARK (R197). -/
def execMark (p : Nat) (s : State) : Host.Outcome State Fault Refusal :=
  runOp s p 0x31 (fun s k o =>
    actNext s p { k with hdr := { k.hdr with userFlags := k.hdr.userFlags ||| BitVec.ofNat 16 (opImm o) } })

/-- SET_CLASS (R197). -/
def execSetClass (p : Nat) (s : State) : Host.Outcome State Fault Refusal :=
  runOp s p 0x32 (fun s k o => actNext s p { k with hdr := { k.hdr with cls := bits (opImm o) 3 0 } })

/-- SET_SA (R197, R309). -/
def execSetSa (p : Nat) (s : State) : Host.Outcome State Fault Refusal :=
  runOp s p 0x33 (fun s k o =>
    actNext s p { k with pass := { k.pass with sa := some (bits (opV k o) 19 0, bitAt (opV k o) 20) } })

/-- COUNT (R59, R174, R197). -/
def execCount (p : Nat) (s : State) : Host.Outcome State Fault Refusal :=
  runOp s p 0x34 (fun s k o =>
    actNext (sideEffect s k (fun s =>
      let m := mapModify s.act.counters (bits (opV k o) 21 0) (0, 0) (fun c => (c.1 + 1, c.2 + BitVec.ofNat 64 k.hdr.frameLen))
      { s with act := { s.act with counters := m } })) p k)

/-- MIRROR (R197, R676): at most 2 per pass. -/
def execMirror (p : Nat) (s : State) : Host.Outcome State Fault Refusal :=
  runOp s p 0x35 (fun s k o =>
    if k.pass.mirrored < 2 then
      actNext s p { k with pass := { k.pass with mirrored := k.pass.mirrored + 1 },
                           mirrors := k.mirrors ++ [(BitVec.ofNat 32 (opV k o), k.frame, k.tx)] }
    else actNext (bump s (r_CST_ACT_CNT_MIRROR_DROP k.hdr.pipeline)) p k)

/-! Length-changing edits at the end of a pass (R198). -/

/-- A change of length of the frame: bytes put in before a position, or a range taken out. -/
inductive Cut where
  | put (at_ : Nat) (b : Bytes)
  | take (at_ n : Nat)
  deriving DecidableEq, Repr

def cutFrame (f : Bytes) : Cut → Bytes
  | .put a b => f.take a ++ b ++ f.drop a
  | .take a n => f.take a ++ f.drop (a + n)

/-- Where a position stands after the change; none when its byte is removed. -/
def cutPos (q : Nat) : Cut → Option Nat
  | .put a b => some (if a ≤ q then q + b.length else q)
  | .take a n => if q < a then some q else if q < a + n then none else some (q - n)

/-- An edit after the change; none when the header it names is gone. -/
def cutEdit (c : Cut) : Edit → Option Edit
  | .vlanPush a t v => (cutPos a c).map (fun a => .vlanPush a t v)
  | .vlanPop a => (cutPos a c).map (fun a => .vlanPop a)
  | .encap t => some (.encap t)
  | .decap a => (cutPos a c).map (fun a => .decap a)

/-- Offsets of a META descriptor that its flags use (R469): byte and lowest bit of each. -/
def metaOffsets (m : Bytes) : List (Nat × Nat) :=
  let w0 := le m 0 4
  let l4 := bitAt w0 3 || bitAt w0 5 || decide (bits w0 9 8 ≠ 0)
  (if bitAt w0 2 || l4 then [(4, 0)] else []) ++ (if l4 then [(4, 10)] else []) ++ (if bitAt w0 5 then [(4, 20)] else []) ++
    (if bits w0 7 6 = 2 then [(8, 16)] else []) ++
    (if bitAt (le m 24 4) 20 then [(24, 0)] ++ (if bits (le m 24 4) 19 10 = 0 then [] else [(24, 10)]) else [])

/-- Moves the offsets of a META descriptor (R470); none when an edit removes the bytes that one names. -/
def cutMeta (m : Bytes) (c : Cut) : Option Bytes :=
  if m.isEmpty then some m
  else (metaOffsets m).foldl (fun (a : Option Bytes) x =>
    match a with
    | none => none
    | some m' => (cutPos (bits (le m x.1 4) (x.2 + 9) x.2) c).map (fun q => putLe m' x.1 4 (putBits (le m' x.1 4) (x.2 + 9) x.2 q)))
    (some m)

/-- Template fields (R304). -/
def tplHlen (t : Bytes) : Nat := byteAt t 0
def tplValid (t : Bytes) : Bool := bitAt (byteAt t 4) 3

/-- The template may be used by a pass of slice `n` (R305). -/
def tplUsable (t : Bytes) (n : Nat) : Bool :=
  tplValid t && (decide (bits (le t 8 2) 11 0 = 0xFFF) || decide (bits (le t 8 2) 11 0 = n))

/-- Checksum bytes at `a` of the frame: computed in full over `pseudo` and the bytes from `from_` on (R72). -/
def putFullCsum (f pseudo : Bytes) (from_ a : Nat) (udp : Bool) : Bytes :=
  let f := putBe f a 2 0
  let c := checksum (pseudo ++ f.drop from_)
  putBe f a 2 (if udp && decide (c = 0) then 0xFFFF else c)

/-- Outer IP fields of R305: lengths and, for IPv4, the header checksum. -/
def outerIp (f : Bytes) (v6 : Bool) (l3 total : Nat) : Bytes :=
  if v6 then putBe f (l3 + 4) 2 (total - 40)
  else
    let f := putBe (putBe f (l3 + 2) 2 total) (l3 + 10) 2 0
    putBe f (l3 + 10) 2 (checksum (slice f l3 (4 * bits (byteAt f l3) 3 0)))

/-- Pseudo-header of an outer UDP datagram. -/
def outerPseudo (f : Bytes) (v6 : Bool) (l3 len : Nat) : Bytes :=
  if v6 then slice f (l3 + 8) 32 ++ toBe 4 len ++ toBe 4 17 else slice f (l3 + 12) 8 ++ toBe 2 17 ++ toBe 2 len

/-- The frame with a template prepended and its fields written (R304, R305). -/
def encapFrame (t : Bytes) (hash : Word) (inner : Bytes) : Bytes :=
  let n := tplHlen t
  let l3 := byteAt t 2
  let l4 := byteAt t 3
  let flags := byteAt t 4
  let v6 := bitAt flags 0
  let f := slice t 16 n ++ inner
  let i := inner.length
  let f := outerIp f v6 l3 (n - l3 + i)
  if byteAt t 1 ≤ 1 then
    let len := n - l4 + i
    let f := putBe f (l4 + 4) 2 len
    let f := if bitAt flags 2 then putBe f l4 2 (49152 + hash.toNat % 16384) else f
    if bitAt flags 1 then putFullCsum f (outerPseudo f v6 l3 len) l4 (l4 + 6) true else putBe f (l4 + 6) 2 0
  else if bitAt (byteAt f l4) 7 then putFullCsum f [] l4 (l4 + 4) false
  else f

/-- Outcome of the edits of a pass. -/
inductive Edited where
  | ok (k : Pkt)
  /-- The template is not usable (R305). -/
  | templateBad
  /-- An edit removes bytes that a descriptor's offset names (R470). -/
  | offsetGone
  deriving DecidableEq, Repr

/-- The change that an edit makes of the frame as it stands; none when it changes nothing. -/
def editCut (s : State) (k : Pkt) : Edit → Option Cut
  | .vlanPush a t v => some (.put (a + 12) (toBe 2 t ++ toBe 2 v))
  | .vlanPop a => if be k.frame (a + 12) 2 = 0x8100 ∨ be k.frame (a + 12) 2 = 0x88A8 then some (.take (a + 12) 4) else none
  | .encap t => some (.put 0 (slice (mapGetD s.cry.templates t (zeros 128)) 16 (tplHlen (mapGetD s.cry.templates t (zeros 128)))))
  | .decap a => some (.take 0 a)

/-- The frame after an edit's change; ENCAP writes the template's fields too. -/
def editFrame (s : State) (k : Pkt) (e : Edit) (c : Cut) : Bytes :=
  match e with
  | .encap t => encapFrame (mapGetD s.cry.templates t (zeros 128)) k.hdr.flowHash k.frame
  | _ => cutFrame k.frame c

def editUsable (s : State) (k : Pkt) : Edit → Bool
  | .encap t => tplUsable (mapGetD s.cry.templates t (zeros 128)) k.hdr.slice
  | _ => true

/-- Applies the edits in order; positions follow the changes before them (R198). Counts a VLAN_POP that finds no tag (R675). -/
def applyEdits : Nat → State → Pkt → List Edit → State × Edited
  | 0, s, k, _ => (s, .ok k)
  | _ + 1, s, k, [] => (s, .ok k)
  | n + 1, s, k, e :: es =>
    if !editUsable s k e then (s, .templateBad)
    else match editCut s k e with
      | none => applyEdits n (absentWrite s k) k es
      | some c =>
        match cutMeta k.tx c with
        | none => (s, .offsetGone)
        | some m =>
          applyEdits n s { k with frame := editFrame s k e c, tx := m, pass := { k.pass with ipAt := k.pass.ipAt.bind (fun a => cutPos a c) } }
            (es.filterMap (cutEdit c))

/-! Security associations of a pass (R308, R309). -/

def saGet (s : State) (i : Nat) : Bytes := mapGetD s.cry.sas i (zeros 128)
def saKind (a : Bytes) : Nat := byteAt a 0
def saFlag (a : Bytes) (i : Nat) : Bool := bitAt (byteAt a 1) i
def saSlice (a : Bytes) : Nat := bits (le a 60 2) 11 0
def saAux (a : Bytes) : Nat := byteAt a 63

/-- The SA may serve a pass of slice `n` in direction `dir` (R309). TLS transmit takes its SA from the descriptor (R319), so an outbound
TLS SA serves no pass. -/
def saUsable (a : Bytes) (dir : Bool) (n : Nat) : Bool :=
  saFlag a 0 && saFlag a 1 == dir && decide (saSlice a = n) && !(decide (saKind a = 3) && !dir)

/-- The records of the packet's send are due for encryption (R319): its forwarding verdict is about to take effect. -/
def tlsDue (k : Pkt) (v : Verdict) : Bool :=
  !k.tx.isEmpty && decide (bits (le k.tx 0 4) 9 8 = 1) && !k.tlsDone && (match v with
    | .fwdPort _ => true
    | .fwdHost _ _ => true
    | .flood _ => true
    | _ => false)

/-! Verdicts (R197, R232). -/

/-- The next pass starts in its pipeline (R43, R135). -/
def recirculate (s : State) (p : Nat) (k : Pkt) : State :=
  pktSet s p { k with stage := .start, hdr := { k.hdr with pass := k.hdr.pass + 1 }, pass := {}, jig := {}, verdict := none, item := none }

/-- A verdict takes effect: every forwarding verdict passes the exit order stage (R259), or is handed on at once for a packet whose place
was given up (R260). -/
def takeVerdict (s : State) (p : Nat) (k : Pkt) (v : Verdict) : State :=
  match v with
  | .drop => passDrop (pktSet s p k) p
  | .toEngine c reason =>
    exception s p { k with verdict := none } (4 * railOf k.hdr.pipeline + c) .toEngine reason k.pass.op
  | .recirc => recirculate s p k
  | _ =>
    if tlsDue k v then pktSet s p { k with stage := .transform, verdict := some v, item := none, pass := { k.pass with sa := none } }
    else pktSet s p { k with stage := .exitOrder, verdict := some v, item := none }

/-- The end of a pass with an SA attached (R309): dropped, or it waits for its transform in the order in which passes end (R310). -/
def saAttach (s : State) (p : Nat) (k : Pkt) (v : Verdict) (i : Nat) (dir : Bool) : State :=
  if saUsable (saGet s i) dir k.hdr.slice then
    pktSet { s with cry := { s.cry with waiting := s.cry.waiting ++ [p] } } p { k with stage := .transform, verdict := some v }
  else passDrop (bump (pktSet s p k) r_CRY_CNT_SA_BAD) p

/-- The end of a pass with a verdict (R198, R309): edits, then the transform of an attached SA, then the verdict. -/
def endPass (s : State) (p : Nat) (k : Pkt) (opc : Nat) (v : Verdict) : State :=
  let s := tracePass s k opc
  if v = .drop then passDrop (pktSet s p k) p
  else
    let at_ := k.pass.sa.bind (fun x => (slotFor k (saAux (saGet s x.1) % 8) 0).map (fun l => l.offset))
    let k := { k with pass := { k.pass with ipAt := at_ } }
    match applyEdits (k.pass.edits.length + 1) s k k.pass.edits with
    | (s, .templateBad) => passDrop (bump (pktSet s p k) r_CRY_CNT_TEMPLATE_BAD) p
    | (s, .offsetGone) => passDrop (pktSet s p k) p
    | (s, .ok k) =>
      let k := { k with hdr := { k.hdr with frameLen := k.frame.length }, pass := { k.pass with edits := [] } }
      match k.pass.sa with
      | some (i, dir) => saAttach s p k v i dir
      | none => takeVerdict s p k v

/-- FWD_PORT (R197). -/
def execFwdPort (p : Nat) (s : State) : Host.Outcome State Fault Refusal :=
  runOp s p 0x38 (fun s k o => endPass s p k 0x38 (.fwdPort (bits (opV k o) 3 0)))

/-- Slice and queue of a FWD_HOST operand; none for a queue beyond the slice's count (R197). -/
def hostTarget (s : State) (k : Pkt) (v : Nat) : Option (Nat × Nat) :=
  let n := if bits v 24 13 = 0xFFF then k.hdr.slice else bits v 24 13
  match sliceGet s n with
  | some x => if bits v 12 0 < x.qpCount then some (n, bits v 12 0) else none
  | none => none

/-- FWD_HOST (R197). -/
def execFwdHost (p : Nat) (s : State) : Host.Outcome State Fault Refusal :=
  runOp s p 0x39 (fun s k o =>
    match hostTarget s k (opV k o) with
    | some (n, q) => endPass s p k 0x39 (.fwdHost n q)
    | none => actDrop s p k 0x39)

/-- FLOOD (R197). -/
def execFlood (p : Nat) (s : State) : Host.Outcome State Fault Refusal :=
  runOp s p 0x3A (fun s k o => endPass s p k 0x3A (.flood (bits (opV k o) 15 0)))

/-- DROP (R197). -/
def execDrop (p : Nat) (s : State) : Host.Outcome State Fault Refusal :=
  runOp s p 0x3B (fun s k _ => endPass s p k 0x3B .drop)

/-- TO_ENGINE (R197, R215, R216). -/
def execToEngine (p : Nat) (s : State) : Host.Outcome State Fault Refusal :=
  runOp s p 0x3C (fun s k o => endPass s p k 0x3C (.toEngine (bits (opV k o) 1 0) (bits (opV k o) 15 8)))

/-- RECIRC (R43, R197): at PASS 3 the exception ACT_PASS_LIMIT instead. -/
def execRecirc (p : Nat) (s : State) : Host.Outcome State Fault Refusal :=
  runOp s p 0x3D (fun s k _ =>
    if 3 ≤ k.hdr.pass then actException s p k .actPassLimit (r_CST_ACT_CNT_PASS_LIMIT k.hdr.pipeline)
    else endPass s p k 0x3D .recirc)

/-! Records (R194, R200, R201). -/

/-- Listed opcodes (R197). -/
def opListed (c : Nat) : Bool :=
  [0x01, 0x02, 0x03, 0x04, 0x08, 0x09, 0x0A, 0x0B, 0x0C, 0x0D, 0x0E, 0x0F, 0x10, 0x18, 0x19, 0x1A, 0x1B, 0x1C, 0x1D, 0x1E, 0x20, 0x21,
   0x22, 0x23, 0x24, 0x28, 0x29, 0x2A, 0x2B, 0x2C, 0x2D, 0x30, 0x31, 0x32, 0x33, 0x34, 0x35, 0x38, 0x39, 0x3A, 0x3B, 0x3C, 0x3D].contains c

/-- Size of a space in bits (R196). -/
def spaceBits (n : Nat) : Nat := if n ≤ 7 then 4088 else if n = 8 ∨ n = 10 then 512 else if n = 9 then 128 else if n = 11 then 4096 else 0

/-- Registers a key of a LOOKUP takes. -/
def keyRegs (t : Nat) : Nat := if t = 0 then 5 else if t = 1 then 1 else 3

/-- Operation `i` of a record with `nops` operations breaks R200. -/
def opFault (o : Bytes) (i nops : Nat) : Bool :=
  let c := opOpc o
  let t := bits (opImm o) 3 0
  let field := [0x02, 0x03, 0x21, 0x29].contains c
  !opListed c ||
  ([0x18, 0x19, 0x1A, 0x1B, 0x1C].contains c && (decide (t ≤ i) || decide (nops ≤ t))) ||
  (c = 0x20 && decide (16 < opB o + keyRegs (bits (opImm o) 1 0))) || (c = 0x23 && decide (16 < opB o + 5)) ||
  ((c = 0x03 || c = 0x29) && [8, 9, 10].contains (opSpace o)) ||
  (c = 0x21 && !(opSpace o = 10 && updateAllowed (opOff o) (opWidth o))) ||
  (c = 0x10 && (decide (t = 0) || decide (8 < t))) ||
  (field && (decide (spaceBits (opSpace o) < opOff o + opWidth o) || decide (opWidth o = 0) || decide (64 < opWidth o))) ||
  bits (le o 0 4) 31 20 ≠ 0 || bits (le o 4 4) 31 23 ≠ 0

/-- The fault of a record (R200): the index of the faulty operation, or 0xFF for the header. -/
def recordFault (r : Bytes) : Option Nat :=
  if bits (le r 0 4) 31 5 ≠ 0 ∨ bits (le r 4 4) 31 13 ≠ 0 ∨ le r 8 8 ≠ 0 then some 0xFF
  else if !recValid r then none
  else if recNops r = 0 ∨ 14 < recNops r then some 0xFF
  else (List.range (recNops r)).find? (fun i => opFault (recOp r i) i (recNops r))

/-- ACT_RECORD_WRITE (R194, R200, R201): answered at the switch. -/
def execActRecordWrite (ch seq : Nat) (s : State) : Host.Outcome State Fault Refusal :=
  command s ch seq 0x0510 (fun req =>
    let r := slice req 8 240
    match (if 0xFFFFF < le req 0 4 ∨ le req 4 4 ≠ 0 then some 0xFF else recordFault r) with
    | some i => answer s ch seq rcBadParam (toLe 1 i)
    | none =>
      defer { s with act := { s.act with
        pendingWrites := s.act.pendingWrites ++ [{ chan := ch, seq := seq, index := bits (le req 0 4) 19 0, record := r }] } } ch seq)

/-- ACT_RECORD_SWITCH (R194): at calendar entry 0 the pending writes take effect on all pipelines, and firmware answers. -/
def execActRecordSwitch (s : State) : Host.Outcome State Fault Refusal :=
  let ws := s.act.pendingWrites
  let table := ws.foldl (fun m w => putRec m w.index (zeros 240) w.record) s.act.table
  done (ws.foldl (fun s w => answer s w.chan w.seq rcOk (toLe 1 0)) { s with act := { s.act with table := table, pendingWrites := [] } })

/-- ACT_RECORD_READ (R201). -/
def execActRecordRead (ch seq : Nat) (s : State) : Host.Outcome State Fault Refusal :=
  command s ch seq 0x0511 (fun req =>
    let i := le req 0 4
    if 0x100000 ≤ i then answer s ch seq rcBadParam []
    else answer s ch seq rcOk (toLe 4 i ++ zeros 4 ++ fit (mapGetD s.act.table i (zeros 240)) 240))

end Sys2Proof.Machine
end

