-- ==== Sys2Proof/Machine/Images.lean ====
section
/-! DEFINITION. Boot flash, Terar images and the manifest (R583, R585 to R590), and the loading of cluster images (R588). -/

namespace Sys2Proof.Machine

open Sys2Proof

/-! Banks (R585, R605): KIND 0 Wellhead, 1 Cascade; BANK 0 A, 1 B. -/

def bankGet (s : State) (kind bank : Nat) : ImageBank :=
  if kind = 0 then (if bank = 0 then s.flash.whA else s.flash.whB) else if bank = 0 then s.flash.cscA else s.flash.cscB

def bankSet (s : State) (kind bank : Nat) (b : ImageBank) : State :=
  { s with flash := if kind = 0 then (if bank = 0 then { s.flash with whA := b } else { s.flash with whB := b })
                    else if bank = 0 then { s.flash with cscA := b } else { s.flash with cscB := b } }

/-- Bytes of a bank; erased flash reads 0xFF (notes/assumptions/63.md). -/
def bankBytes (b : ImageBank) (off n : Nat) : Bytes := (List.range n).map (fun i => mapGetD b.bytes (off + i) 0xFF)

/-- A header field of an image (R586). -/
def imgField (b : ImageBank) (off n : Nat) : Nat := leVal (bankBytes b off n)

def imgVersion (b : ImageBank) : Nat := imgField b 8 4
def imgLevel (b : ImageBank) : Nat := imgField b 12 2
def imgStateLevel (b : ImageBank) : Nat := imgField b 14 2
def imgStateMin (b : ImageBank) : Nat := imgField b 16 2
def imgSvn (b : ImageBank) : Nat := imgField b 18 2
def imgBody (b : ImageBank) : Bytes := bankBytes b 512 (imgField b 20 4)

/-- Size of a bank. -/
def bankSize (kind : Nat) : Nat := if kind = 0 then 8388608 else 12582912

/-- An image is valid but for its security version (R587). -/
def imgSound (kind : Nat) (b : ImageBank) : Bool :=
  decide (imgField b 0 4 = 0x54455241 ∧ imgField b 4 2 = 1 ∧ imgField b 6 1 = kind ∧ imgField b 7 1 ≤ 3 ∧ imgField b 20 4 + 512 ≤ bankSize kind) &&
    (bankBytes b 24 8 ++ bankBytes b 80 48 ++ bankBytes b 224 288).all (fun x => x = 0) &&
    decide (Config.sha384 (imgBody b) = bankBytes b 32 48) &&
    Config.signatureOk (imgField b 7 1) (Config.sha384 (bankBytes b 0 128)) (bankBytes b 128 96)

/-- The minimum SVN of a kind (R587, R614). -/
def minSvn (s : State) (kind : Nat) : Nat := if kind = 0 then hwField s 0x014 15 0 else hwField s 0x014 31 16

/-- An image is valid (R587). -/
def imgValid (s : State) (kind bank : Nat) : Bool :=
  let b := bankGet s kind bank
  decide (b.state ≠ 0 ∧ b.state ≠ 3) && imgSound kind b && decide (minSvn s kind ≤ imgSvn b)

/-- An image fails only on its SVN (R590). -/
def imgRolledBack (s : State) (kind bank : Nat) : Bool :=
  let b := bankGet s kind bank
  decide (b.state ≠ 0 ∧ b.state ≠ 3) && imgSound kind b && decide (imgSvn b < minSvn s kind)

/-- The bank holds the image that runs. -/
def imgRunning (s : State) (kind bank : Nat) : Bool :=
  if kind = 0 then s.fw.whRunning && decide (s.fw.whBank = bank) else s.fw.cscRunning && decide (s.fw.cscBank = bank)

/-- LEVEL to STATE_MIN as FW_IMAGE_END reports them (R605): 12 bytes. -/
def imgInfo (b : ImageBank) : Bytes :=
  toLe 2 (imgLevel b) ++ toLe 4 (imgVersion b) ++ toLe 2 (imgSvn b) ++ toLe 2 (imgStateLevel b) ++ toLe 2 (imgStateMin b)

/-! The manifest (R589, R590). -/

def manifestVersion (m : Bytes) : Nat := le m 4 4
def manifestCount (m : Bytes) : Nat := le m 8 2
def manifestEntries (m : Bytes) : Bytes := slice m 256 (4 * manifestCount m)

/-- A manifest copy is valid (R589). -/
def manifestValid (m : Bytes) : Bool :=
  decide (m.length = 4096 ∧ le m 0 4 = 0x54454D46 ∧ 1 ≤ manifestCount m ∧ manifestCount m ≤ 960) &&
    (slice m 11 5 ++ slice m 160 96).all (fun x => x = 0) && decide (Config.sha384 (manifestEntries m) = slice m 16 48) &&
    Config.signatureOk (byteAt m 10) (Config.sha384 (slice m 0 64)) (slice m 64 96)

/-- Which copy is in use (R590): the valid one with the higher VERSION. -/
def manifestIndex (s : State) : Option Nat :=
  let v0 := manifestValid s.flash.manifest0
  let v1 := manifestValid s.flash.manifest1
  if v0 && v1 then (if manifestVersion s.flash.manifest0 < manifestVersion s.flash.manifest1 then some 1 else some 0)
  else if v0 then some 0 else if v1 then some 1 else none

def manifestUse (s : State) : Option Bytes :=
  (manifestIndex s).map (fun i => if i = 0 then s.flash.manifest0 else s.flash.manifest1)

/-- A pair of LEVELs is an entry of the manifest in use (R590). -/
def pairListed (s : State) (wh csc : Nat) : Bool :=
  match manifestUse s with
  | some m => (List.range (manifestCount m)).any (fun i => decide (le m (256 + 4 * i) 2 = wh ∧ le m (258 + 4 * i) 2 = csc))
  | none => false

/-- The images of two banks form a listed pair. -/
def banksListed (s : State) (wh csc : Nat) : Bool := pairListed s (imgLevel (bankGet s 0 wh)) (imgLevel (bankGet s 1 csc))

/-! Cluster images (R588). -/

/-- Cascade bank whose image cluster `c` runs: the new one once a handover has switched the cluster (R598). -/
def clusterBank (s : State) (c : Nat) : Nat :=
  match s.fw.handover with
  | some h => match h.cscBank with
    | some b => if c < h.cluster then b else s.fw.cscBank
    | none => s.fw.cscBank
  | none => s.fw.cscBank

/-- Writes a cluster's code and initial data into the engine at a position (R210, R588). -/
def loadEngine (s : State) (q pos : Nat) : State :=
  let body := imgBody (bankGet s 1 (clusterBank s (q % 4)))
  let e := clusterEngine s q pos
  if e = 0xFF then s
  else
    let a := 0x1200000000 + (e + 34 * (q / 4)) * 0x40000
    let m := memWriteN s.mem a ((Config.imageCode body (q % 4)).take 131072)
    { s with mem := memWriteN m (a + 0x20000) ((Config.imageData body (q % 4)).take 112640) }

/-- A cluster's channels as its image's table gives them: depths of at most 512 that sum to at most 2,048 with channel 255 (R224). -/
def imageChans (body : Bytes) (c : Nat) : AMap Channel :=
  let put := fun (a : AMap Channel × Nat) (e : Nat × Nat × Nat) =>
    if e.1 < 255 ∧ e.2.1 ≤ 512 ∧ a.2 + e.2.1 ≤ 1984 then (mapSet a.1 e.1 { depth := e.2.1, reader := e.2.2 % 64 }, a.2 + e.2.1) else a
  mapSet ((Config.imageChannels body c).foldl put ([], 0)).1 255 { depth := 64, reader := 7 }

/-- Loads the image of a cluster into its engines, its channels and its entry (R582, R588, R598). -/
def loadCluster (s : State) (q : Nat) : State :=
  let body := imgBody (bankGet s 1 (clusterBank s (q % 4)))
  let s := (List.range 8).foldl (fun s p => loadEngine s q p) s
  let s := { s with csc := { s.csc with supEntry := mapSet s.csc.supEntry (q % 4) (Config.imageEntry body (q % 4)) } }
  clusterMod s q (fun c => { c with channels := imageChans body (q % 4) })

end Sys2Proof.Machine
end

