-- ==== Sys2Proof/Machine/Cascade.lean ====
section
/-! DEFINITION. Cascade: delivery of work items (R218 to R221), the service window (R222, R223), channels (R224 to R228), device channels
and verdicts (R229 to R233), fork, join and waits (R234 to R236), supervision and faults (R237 to R243), deadlock detection (R244 to
R246) and the Cascade commands (R247 to R249). The instruction set of engine code is not in the manual: a store of a thread to its window
is a command of its own, with the value stored as its operand (notes/assumptions/31.md). -/

namespace Sys2Proof.Machine

open Sys2Proof

/-! Threads and frames. -/

/-- The thread executes: a worker that is READY, or the running supervisor while it is not stopped (R209, R243). -/
def threadRuns (s : State) (q t : Nat) : Bool :=
  let x := thGet s q t
  (engineOf s q t).isSome &&
  (if t = supervisorSlot s q then (clusterGet s q).supRun && (x.state = .free || x.state = .ready)
   else decide (t < 64) && x.state = .ready)

/-- Internal address of an engine's local address (R210). -/
def localAddr (e a : Nat) : Nat := 0x1200000000 + e * 0x40000 + a

/-- Local address of frame `i` of a thread (R210). -/
def frameLocal (t i : Nat) : Nat := 0x3C000 + 0x400 * (2 * (t % 8) + i)

/-- Writes bytes into the local memory of a thread's engine. -/
def localWrite (s : State) (q t a : Nat) (b : Bytes) : State :=
  match engineOf s q t with
  | some e => { s with mem := memWriteN s.mem (localAddr e a) b }
  | none => s

/-- The 1 KiB of frame `i` of a thread. -/
def frameBytes (s : State) (q t i : Nat) : Bytes :=
  match engineOf s q t with
  | some e => memReadN s.mem (localAddr e (frameLocal t i)) 1024
  | none => zeros 1024

def setFrame (x : Thread) (i : Nat) (h : Option Nat) : Thread := if i = 0 then { x with frame0 := h } else { x with frame1 := h }

/-- The frame of a thread that holds an item. -/
def frameOf (x : Thread) (h : Nat) : Option Nat :=
  if x.frame0 = some h then some 0 else if x.frame1 = some h then some 1 else none

/-- A frame of a thread that holds none. -/
def freeFrame (x : Thread) : Option Nat := if x.frame0.isNone then some 0 else if x.frame1.isNone then some 1 else none

/-- Slot and frame of the cluster that hold an item. -/
def itemFrame (s : State) (q h : Nat) : Option (Nat × Nat) :=
  (clusterGet s q).threads.findSome? (fun x => (frameOf x.2 h).map (fun i => (x.1, i)))

def setReg64 (x : Thread) (n : Nat) (v : Dword) : Thread :=
  { x with regs := ((if x.regs.isEmpty then List.replicate 32 0 else x.regs).set n v) }

def itemOf (s : State) (q h : Nat) : Option WorkItem := mapGet (clusterGet s q).work h

/-- The item is ACTIVE and of the slice. -/
def activeItem (s : State) (q h slice_ : Nat) : Option WorkItem :=
  match itemOf s q h with
  | some it => if it.state = .active ∧ it.slice = slice_ then some it else none
  | none => none

/-- Cluster and trace record of an item's packet (R625). -/
def traceItem (s : State) (q kind p slice_ : Nat) (data : Bytes) : State :=
  let (twin, h) := match pktGet s p with
    | some k => (b2n k.hdr.twin, k.hdr.flowHash.toNat)
    | none => (0, 0)
  trace s (4 + q) kind (twin + 2 * (q / 4)) slice_ h data

/-- An item ends with a verdict: its entry is FREE and no frame holds it (R213, R232). -/
def itemEnd (s : State) (q h verdict : Nat) : State :=
  let s := match itemOf s q h with
    | some it => traceItem s q 2 it.pid it.slice (toLe 2 h ++ toLe 1 verdict)
    | none => s
  clusterMod (itemFree s q h) q (fun c => { c with threads := c.threads.map (fun x =>
    match frameOf x.2 h with
    | some i => (x.1, setFrame x.2 i none)
    | none => x) })

/-- A fault of a thread (R240): it stops in FAULTED, its parent counts it as exited, and its supervisor gets the record. -/
def threadFault (s : State) (q t cls pc addr : Nat) : State :=
  let h := (activeItems s q t).headD 0xFFFF
  let s := childExits (thMod s q t (fun x => { x with state := .faulted, faultClass := cls, pc := pc })) q t 0xFFFFFFFFFFFFFFFF
  let s := if t = supervisorSlot s q then clusterMod s q (fun c => { c with supRun := false }) else s
  faultRecord s q cls t h pc addr

/-- A fault that a store to the window raises; the program counter of engine code is not held by the model. -/
def windowFault (s : State) (q t cls addr : Nat) : State := threadFault (drawn s) q t cls (Config.freeNat s.fresh % 131072) addr

/-- A store of thread `t` of cluster `q` to its window takes effect while the thread executes. -/
def window (s : State) (q t : Nat) (f : Thread → State) : Host.Outcome State Fault Refusal :=
  if threadRuns s q t then done (f (thGet s q t)) else done s

/-- A store to a supervisor register: only the supervisor has it; for another thread it is fault SERVICE (R222, R237). -/
def supWindow (s : State) (q t : Nat) (f : Thread → State) : Host.Outcome State Fault Refusal :=
  window s q t (fun x => if t = supervisorSlot s q then f x else windowFault s q t 7 0)

/-! Delivery of items (R218, R221). -/

/-- Weight of a slice in the open share (R219). -/
def cscWeightOf (s : State) (n : Nat) : Nat :=
  match sliceGet s n with
  | some x => max 1 (bits x.cscWeight.toNat 7 0)
  | none => 1

/-- Free worker slots of a cluster. -/
def freeWorkers (s : State) (q : Nat) : List Nat := (workerSlots s q).filter (fun t => (thGet s q t).state = .free)

/-- The slice may use open threads of a cluster now (R221). -/
def openTurn (s : State) (q n : Nat) : Bool :=
  openShare s q n &&
  (decide (resThreadsOf s q n = 0) || !(freeWorkers s q).any (fun t => (thGet s q t).reserved && (thGet s q t).slice = n))

/-- Slices that take part in the round robin of the open threads: they have items queued in open entries (R221). -/
def openQueued (s : State) (q : Nat) : List Nat :=
  ((clusterGet s q).order.filterMap (fun h => match itemOf s q h with
    | some it => if it.reserved then none else some it.slice
    | none => none)).eraseDups.filter (openTurn s q)

/-- Items that a slice may still take in the round. -/
def drrLeft (s : State) (q n : Nat) : Nat := mapGetD (clusterGet s q).drr n (cscWeightOf s n)

/-- The round after one item of slice `n` is taken; none when it is another slice's turn (R221). -/
def drrTake (s : State) (q n : Nat) : Option (AMap Nat) :=
  let c := clusterGet s q
  let qs := openQueued s q
  if !qs.contains n then none
  else if 0 < drrLeft s q n then some (mapSet c.drr n (drrLeft s q n - 1))
  else if qs.all (fun m => drrLeft s q m = 0) then some [(n, cscWeightOf s n - 1)]
  else none

/-- The oldest queued item of the slice. -/
def oldestOf (s : State) (q n : Nat) : Option Nat :=
  (clusterGet s q).order.find? (fun h => match itemOf s q h with
    | some it => it.slice = n
    | none => false)

/-- Delivers a queued item to a thread (R218): the parcel is copied into its frame, G1 holds the frame's address and G2 the HANDLE. A
supervisor that waits for an item is woken (R236). -/
def deliver (s : State) (q t h : Nat) (it : WorkItem) : State :=
  let s := clusterMod s q (fun c => { c with order := c.order.filter (fun x => x ≠ h), work := mapSet c.work h { it with state := .active } })
  let s := localWrite s q t (frameLocal t 0) (fit it.parcel 1024)
  let s := thMod s q t (fun x =>
    { setReg64 (setReg64 x 1 (BitVec.ofNat 64 (frameLocal t 0))) 2 (BitVec.ofNat 64 h) with
      state := .ready, wait := .none, slice := it.slice, frame0 := some h, frame1 := none, staged := [], chResult := 0, children := [],
      parent := none, faultClass := 0 })
  let s := bump64 s (r_CSC_CNT_ITEMS q) 1
  let s := thMod s q (supervisorSlot s q) (fun x => match x.wait with
    | .data _ true _ => if x.state = .waiting then { x with state := .ready, wait := .none } else x
    | _ => x)
  traceItem s q 1 it.pid it.slice (toLe 2 h ++ toLe 1 t ++ toLe 1 (kindCode it.kind))

/-- WORK_ITEM_DELIVER (R218, R221): item `h` goes to the free worker thread `slot` of cluster `q`. -/
def execWorkItemDeliver (q slot h : Nat) (s : State) : Host.Outcome State Fault Refusal :=
  match itemOf s q h with
  | none => done s
  | some it =>
    let x := thGet s q slot
    if it.state = .queued ∧ slot ∈ freeWorkers s q ∧ oldestOf s q it.slice = some h then
      if x.reserved then (if x.slice = it.slice then done (deliver s q slot h it) else done s)
      else match drrTake s q it.slice with
        | some drr => done (deliver (clusterMod s q (fun c => { c with drr := drr })) q slot h it)
        | none => done s
    else done s

/-- EXC_RETRY (R217): an exception in a retry list tries again at entry `pos`. -/
def execExcRetry (p pos : Nat) (s : State) : Host.Outcome State Fault Refusal :=
  match pktGet s p with
  | none => done s
  | some k =>
    match k.item, k.pass.fault with
    | some (q, reason), some kind =>
      if k.stage = .retry ∧ canStart s k ∧ entryServes s k pos then
        match queueItem s p { k with pass := { k.pass with fault := none } } q kind reason k.pass.op with
        | some s => done { s with csc := { s.csc with retry := s.csc.retry.map (fun l => l.filter (fun x => x ≠ p)) } }
        | none => done s
      else done s
    | _, _ => done s

/-! Channels (R224 to R228). -/

/-- A channel of a cluster; channel 255 is the supervisor's event channel. -/
def chanInfo (s : State) (q ch : Nat) : Channel :=
  let x := mapGetD (clusterGet s q).channels ch (if ch = 255 then { depth := 64 } else {})
  if ch = 255 then { x with reader := supervisorSlot s q } else x

def chanPut (s : State) (q ch : Nat) (x : Channel) : State := clusterMod s q (fun c => { c with channels := mapSet c.channels ch x })

/-- Word `i` of a message. -/
def mw (ws : List Dword) (i : Nat) : Nat := ((ws[i]?).getD 0).toNat

/-- HANDLE that a device-channel message names (R229). -/
def msgHandle (dest : Nat) (ws : List Dword) : Nat :=
  if dest = 0x800 then bits (mw ws 1) 15 0 else if dest = 0x801 then bits (mw ws 0) 47 32 else bits (mw ws 0) 15 0

/-- The layout of a device-channel message is right (R229; notes/assumptions/32.md). -/
def devOk (dest : Nat) (ws : List Dword) : Bool :=
  let n := ws.length
  let w0 := mw ws 0
  if dest = 0x800 then
    bits w0 31 23 = 0 && decide (128 ≤ bits w0 22 15) && decide (2 + keyRegs (bits w0 1 0) ≤ n ∧ n ≤ 7)
  else if dest = 0x801 then
    decide (bits w0 3 0 ≤ 3) && bits w0 31 8 = 0 && decide (4 ≤ n ∧ n ≤ 9) &&
    (if bits w0 3 0 = 3 then decide (5 ≤ n) && decide (1 ≤ bits (mw ws 2) 15 9 ∧ bits (mw ws 2) 15 9 ≤ 64) &&
       decide (bits (mw ws 2) 8 0 + bits (mw ws 2) 15 9 ≤ 512)
     else if bits w0 3 0 = 1 then n = 8 else decide (n ≤ 8))
  else if dest = 0x802 then
    decide (bits w0 19 16 ≤ 5) && decide (bits (mw ws 1) 9 0 ≤ 512) && decide (n ≤ 3) && (decide (2 ≤ n) || !bitAt (mw ws 1) 10) &&
    (!(bits w0 19 16 = 5) || n = 3)
  else true

/-- Commits a message to a channel (R222, R224, R227): result 0, 1 or 2. -/
def commit (s : State) (q t dest : Nat) (ws : List Dword) : State × Nat :=
  if dest < 0x800 then
    let x := chanInfo s (dest / 256) (dest % 256)
    if x.depth = 0 then (s, 2)
    else if x.msgs.length < x.depth ∧ x.writers.isEmpty then (chanPut s (dest / 256) (dest % 256) { x with msgs := x.msgs ++ [ws] }, 0)
    else (bump s (r_CSC_CNT_CH_FULL (dest / 256)), 1)
  else if dest ≤ 0x803 then
    if devOk dest ws then
      let n := (thGet s q t).slice
      let h := msgHandle dest ws
      let parcel := match activeItem s q h n with
        | some it => it.parcel
        | none => []
      let hdr := match activeItem s q h n, itemFrame s q h with
        | some _, some (u, i) => slice (frameBytes s q u i) 0x100 512
        | _, _ => []
      let m : DevMsg := { cluster := q, slot := t, slice := n, chan := dest, words := ws, parcel := parcel, hdr := hdr }
      ({ s with csc := { s.csc with devq := s.csc.devq ++ [m] } }, 0)
    else (bump s (r_CSC_CNT_DEVCH_BAD q), 0)
  else (s, 2)

/-- CH_DEST (R222): names the channel and discards the staged words. -/
def execChDest (q slot : Nat) (value : Dword) (s : State) : Host.Outcome State Fault Refusal :=
  window s q slot (fun _ => thMod s q slot (fun x => { x with dest := bits value.toNat 11 0, staged := [] }))

/-- CH_WORD (R222, R225): a 33rd staged word is fault CHANNEL. -/
def execChWord (q slot : Nat) (value : Dword) (s : State) : Host.Outcome State Fault Refusal :=
  window s q slot (fun x =>
    if 32 ≤ x.staged.length then windowFault s q slot 6 0
    else thMod s q slot (fun x => { x with staged := x.staged ++ [value] }))

/-- CH_LAST (R222, R225, R227): commits, and waits for space while the channel is full. -/
def execChLast (q slot : Nat) (value : Dword) (s : State) : Host.Outcome State Fault Refusal :=
  window s q slot (fun x =>
    if 32 ≤ x.staged.length then windowFault s q slot 6 0
    else
      let ws := x.staged ++ [value]
      let (s, r) := commit s q slot x.dest ws
      if r = 1 then
        let c := chanInfo s (x.dest / 256) (x.dest % 256)
        let s := chanPut s (x.dest / 256) (x.dest % 256) { c with writers := c.writers ++ [64 * q + slot] }
        thMod s q slot (fun x => { x with staged := ws, state := .waiting, wait := .space x.dest })
      else thMod s q slot (fun x => { x with staged := [], chResult := r }))

/-- CH_LAST_NB (R222, R225, R227): tries once. -/
def execChLastNb (q slot : Nat) (value : Dword) (s : State) : Host.Outcome State Fault Refusal :=
  window s q slot (fun x =>
    if 32 ≤ x.staged.length then windowFault s q slot 6 0
    else
      let ws := x.staged ++ [value]
      let (s, r) := commit s q slot x.dest ws
      thMod s q slot (fun x => { x with staged := if r = 1 then ws else [], chResult := r }))

/-- CH_WAIT_COMMIT (R227, R240): a cell of channel `chan` (global number) is free, and the writer that has waited longest commits;
fault records that the full event channel kept staged go first. -/
def execChWaitCommit (chan : Nat) (s : State) : Host.Outcome State Fault Refusal :=
  let q := chan / 256
  let x := chanInfo s q (chan % 256)
  if chan < 0x800 ∧ x.msgs.length < x.depth then
    match (if chan % 256 = 255 then (clusterGet s q).stagedRecords else []), x.writers with
    | r :: rs, _ => done (clusterMod (chanPut s q 255 { x with msgs := x.msgs ++ [r] }) q (fun c => { c with stagedRecords := rs }))
    | [], w :: ws =>
      let y := thGet s (w / 64) (w % 64)
      let s := chanPut s q (chan % 256) { x with msgs := x.msgs ++ [y.staged], writers := ws }
      done (thMod s (w / 64) (w % 64) (fun y => { y with staged := [], chResult := 0, state := .ready, wait := .none }))
    | [], [] => done s
  else done s

/-- The thread is the reader of a global channel (R228). -/
def isReader (s : State) (q t chan : Nat) : Bool :=
  let x := chanInfo s q (chan % 256)
  chan / 256 = q && decide (chan < 0x800) && decide (0 < x.depth) && x.reader = t

/-- CH_READ (R222, R228): the oldest message is copied to local memory and removed. -/
def execChRead (q slot : Nat) (value : Dword) (s : State) : Host.Outcome State Fault Refusal :=
  window s q slot (fun _ =>
    let chan := bits value.toNat 11 0
    let a := 8 * bits value.toNat 31 16
    if !isReader s q slot chan then windowFault s q slot 6 0
    else
      let x := chanInfo s q (chan % 256)
      match x.msgs with
      | [] => thMod s q slot (fun y => { y with readLen := 0 })
      | m :: rest =>
        if a < 0x20000 ∨ 0x40000 < a + 8 * m.length then windowFault s q slot 4 a
        else
          let s := localWrite s q slot a (m.flatMap (fun w => toLe 8 w.toNat))
          thMod (chanPut s q (chan % 256) { x with msgs := rest }) q slot (fun y => { y with readLen := m.length }))

/-! Waits (R236). -/

/-- A channel holds a message. -/
def chanHas (s : State) (chan : Nat) : Bool :=
  decide (chan < 0x800) && !(chanInfo s (chan / 256) (chan % 256)).msgs.isEmpty

/-- WAIT (R236). -/
def execWait (q slot : Nat) (value : Dword) (s : State) : Host.Outcome State Fault Refusal :=
  window s q slot (fun _ =>
    let v := value.toNat
    let chan := bits v 11 0
    let item := bitAt v 12 && decide (slot = supervisorSlot s q)
    let timeout := bits v 63 32
    if chan = 0xFFF ∧ ¬ item ∧ timeout = 0 then windowFault s q slot 7 0
    else if chanHas s chan then s
    else thMod s q slot (fun x => { x with state := .waiting, wait := .data chan item timeout }))

/-- WAIT_WAKE (R235, R236): a channel named by WAIT holds a message, or the last child of a JOIN has exited. -/
def execWaitWake (q slot : Nat) (s : State) : Host.Outcome State Fault Refusal :=
  let x := thGet s q slot
  let holds : Bool := match x.wait with
    | .data chan _ _ => chanHas s chan
    | .join => x.children.isEmpty
    | _ => false
  if x.state = .waiting ∧ holds then done (thSet s q slot { x with state := .ready, wait := .none }) else done s

/-- WAIT_TIMEOUT (R236). -/
def execWaitTimeout (q slot : Nat) (s : State) : Host.Outcome State Fault Refusal :=
  let x := thGet s q slot
  let armed : Bool := match x.wait with
    | .data _ _ n => decide (n ≠ 0)
    | _ => false
  if x.state = .waiting ∧ armed then done (thSet s q slot { x with state := .ready, wait := .none }) else done s

/-! Fork and join (R234, R235). -/

/-- FORK_ARG (R222). -/
def execForkArg (q slot : Nat) (value : Dword) (s : State) : Host.Outcome State Fault Refusal :=
  window s q slot (fun _ => thMod s q slot (fun x => { x with forkArg := value }))

/-- Free threads that a slice may take for a child (R234). -/
def forkThreads (s : State) (q n : Nat) : List Nat :=
  (freeWorkers s q).filter (fun t => let y := thGet s q t; if y.reserved then y.slice = n else openShare s q n)

/-- FORK (R234, R235, R598): which free thread is taken is the adapter's choice. -/
def execFork (q slot : Nat) (value : Dword) (s : State) : Host.Outcome State Fault Refusal :=
  window s q slot (fun x =>
    if 8 ≤ x.children.length then windowFault s q slot 7 0
    else
      let (t, s) := pickFrom s (forkThreads s q x.slice)
      match t with
      | none => thMod (bump s (r_CSC_CNT_FORK_NONE q)) q slot (fun x => { x with forkResult := 0xFF })
      | some c =>
        let s := thMod s q c (fun y =>
          { setReg64 y 1 x.forkArg with
            state := .ready, wait := .none, slice := x.slice, pc := bits value.toNat 16 0, frame0 := none, frame1 := none, staged := [],
            chResult := 0, children := [], parent := some slot, faultClass := 0 })
        thMod s q slot (fun x => { x with forkResult := c, children := x.children ++ [c] }))

/-- JOIN (R235). -/
def execJoin (q slot : Nat) (_value : Dword) (s : State) : Host.Outcome State Fault Refusal :=
  window s q slot (fun x => if x.children.isEmpty then s else thMod s q slot (fun x => { x with state := .waiting, wait := .join }))

/-! The end of an item (R222, R223, R232). -/

/-- A verdict for the item is on its way to device channel 0x802. -/
def verdictSent (s : State) (q h : Nat) : Bool :=
  s.csc.devq.any (fun m => m.chan = 0x802 && m.cluster = q && bits (mw m.words 0) 15 0 = h && decide (bits (mw m.words 0) 19 16 < 5))

/-- EXIT with the item ACTIVE and no verdict sent drops its packet (R223). -/
def exitItem (q : Nat) (s : State) (h : Nat) : State :=
  if verdictSent s q h then s
  else match itemOf s q h with
    | none => s
    | some it => passDrop (bump (itemEnd s q h 3) (r_CSC_CNT_EXIT_DROP q)) it.pid

/-- EXIT (R222, R223, R235): the thread is FREE and its value goes to its parent. -/
def execExit (q slot : Nat) (value : Dword) (s : State) : Host.Outcome State Fault Refusal :=
  window s q slot (fun _ =>
    let s' := (activeItems s q slot).foldl (exitItem q) s
    if slot = supervisorSlot s q then clusterMod s' q (fun c => { c with supRun := false })
    else thFree (childExits s' q slot value.toNat) q slot)

/-- PARK (R222, R247, R260): the item is HELD with its frame written back, and its packet gives up its place. -/
def execPark (q slot : Nat) (value : Dword) (s : State) : Host.Outcome State Fault Refusal :=
  window s q slot (fun x =>
    let h := bits value.toNat 15 0
    match frameOf x h, activeItem s q h x.slice with
    | some i, some it =>
      let parcel := frameBytes s q slot i
      let s := clusterMod s q (fun c => { c with work := mapSet c.work h { it with state := .held, parcel := parcel } })
      let s := thMod s q slot (fun x => setFrame x i none)
      match pktGet s it.pid with
      | some k => ringLeave (pktSet s it.pid { k with parked := true }) it.pid k
      | none => s
    | _, _ => windowFault s q slot 7 0)

/-- UNPARK (R222): a HELD item of the slice is loaded into the thread's free frame. -/
def execUnpark (q slot : Nat) (value : Dword) (s : State) : Host.Outcome State Fault Refusal :=
  window s q slot (fun x =>
    let h := bits value.toNat 15 0
    match freeFrame x, itemOf s q h with
    | some i, some it =>
      if it.state = .held ∧ it.slice = x.slice then
        let s := clusterMod s q (fun c => { c with work := mapSet c.work h { it with state := .active } })
        thMod (localWrite s q slot (frameLocal slot i) (fit it.parcel 1024)) q slot (fun x => setFrame x i (some h))
      else windowFault s q slot 7 0
    | _, _ => windowFault s q slot 7 0)

/-! Supervision (R237 to R239). -/

/-- An operation of SUP_OP on a thread: SUP_RESULT 2 for the supervisor's slot, 1 for a slot in no fitting state, else 0 (R237). -/
def supOp (s : State) (q slot : Nat) (fits : Thread → Bool) (f : State → State) : Host.Outcome State Fault Refusal :=
  let sup := supervisorSlot s q
  let result := fun (s : State) (r : Nat) => thMod s q sup (fun x => { x with supResult := r })
  window s q sup (fun _ =>
    if slot = sup then result s 2
    else if fits (thGet s q slot) then result (f s) 0 else result s 1)

/-- SUSPEND (R238): a writer stops waiting and keeps its message staged. -/
def execSuspend (q slot : Nat) (s : State) : Host.Outcome State Fault Refusal :=
  supOp s q slot (fun x => x.state = .ready || x.state = .waiting) (fun s =>
    thMod (dropWriter s q slot) q slot (fun x => { x with state := .suspended }))

/-- RESUME (R238): READY, but a writer that was waiting waits again. -/
def execResume (q slot : Nat) (s : State) : Host.Outcome State Fault Refusal :=
  supOp s q slot (fun x => x.state = .suspended) (fun s =>
    match (thGet s q slot).wait with
    | .space chan =>
      let c := chanInfo s (chan / 256) (chan % 256)
      let s := chanPut s (chan / 256) (chan % 256) { c with writers := c.writers ++ [64 * q + slot] }
      thMod s q slot (fun x => { x with state := .waiting })
    | _ => thMod s q slot (fun x => { x with state := .ready, wait := .none }))

/-- An item of an aborted thread returns to the head of its queue, or is HELD (R239). -/
def abortItem (q : Nat) (requeue : Bool) (s : State) (h : Nat) : State :=
  if requeue then itemRequeue s q h
  else clusterMod s q (fun c => { c with work := mapUpdate c.work h (fun it => { it with state := .held }) })

/-- Frees a thread and its children (R235, R239). -/
def abortThread (q : Nat) (requeue : Bool) : Nat → State → Nat → State
  | 0, s, _ => s
  | n + 1, s, t =>
    let s := (thGet s q t).children.foldl (abortThread q requeue n) s
    thFree (childExits ((activeItems s q t).foldl (abortItem q requeue) s) q t 0xFFFFFFFFFFFFFFFF) q t

/-- ABORT (R239). -/
def execAbort (q slot : Nat) (requeue : Bool) (s : State) : Host.Outcome State Fault Refusal :=
  supOp s q slot (fun x => x.state ≠ .free) (fun s => abortThread q requeue 64 s slot)

/-- SUP_THREAD (R237): the slot that SUP_STATE shows. -/
def execSupThread (q slot : Nat) (value : Dword) (s : State) : Host.Outcome State Fault Refusal :=
  supWindow s q slot (fun _ => thMod s q slot (fun x => { x with supThread := bits value.toNat 5 0 }))

/-- SUP_REGS (R237): the inspected thread's 32 registers go to a local address. -/
def execSupRegs (q slot : Nat) (value : Dword) (s : State) : Host.Outcome State Fault Refusal :=
  supWindow s q slot (fun x =>
    let a := 8 * value.toNat
    if a < 0x20000 ∨ 0x40000 < a + 256 then windowFault s q slot 4 a
    else
      let regs := (thGet s q x.supThread).regs
      localWrite s q slot a ((List.range 32).flatMap (fun i => toLe 8 ((regs[i]?).getD 0).toNat)))

/-- SUP_DLD_ACK (R237, R245): the detector is armed again. -/
def execSupDldAck (q slot : Nat) (_value : Dword) (s : State) : Host.Outcome State Fault Refusal :=
  supWindow s q slot (fun _ => clusterMod s q (fun c => { c with dldHeld := false, dldCount := 0 }))

/-! Device channels (R229 to R232). -/

/-- Serves the oldest message of a device channel when `want` holds of its words; `f` answers none while it must wait. -/
def serveDev (s : State) (chan : Nat) (want : List Dword → Bool) (f : State → DevMsg → Option State) :
    Host.Outcome State Fault Refusal :=
  match s.csc.devq.find? (fun m => m.chan = chan) with
  | none => done s
  | some m =>
    if want m.words then
      match f { s with csc := { s.csc with devq := s.csc.devq.erase m } } m with
      | some s => done s
      | none => done s
    else done s

/-- Key bytes of a message from word `i` on (R229): packed from byte 0 of the word, as R162 orders them. -/
def msgKey (ws : List Dword) (i type : Nat) : Bytes :=
  toLe 1 type ++ slice ((ws.drop i).flatMap (fun w => toLe 8 w.toNat)) 0 (keyLen type)

/-- Metadata of the item a message names; none when it names no item. -/
def msgMeta (m : DevMsg) : Option PktMeta := if m.parcel.isEmpty then none else some (metaOfBytes (slice m.parcel 0 64))

/-- Pairing key of a lookup of engine code (R168, R230). -/
def msgPair (m : DevMsg) : Option PairKey :=
  match msgMeta m with
  | some h => if h.twin then some { stream := twinStream h.source h.flowHash, seq := h.twinSeq, pass := h.pass,
                                    ordinal := bits (mw m.words 0) 22 15 } else none
  | none => none

/-- DEVCH_LOOKUP (R166 to R169, R230): the response goes to the REPLY channel; while that is full the message waits. -/
def execDevchLookup (s : State) : Host.Outcome State Fault Refusal :=
  serveDev s 0x800 (fun _ => true) (fun s m =>
    let w0 := mw m.words 0
    let reply := bits w0 14 3
    let x := chanInfo s (reply / 256) (reply % 256)
    if reply < 0x800 ∧ 0 < x.depth ∧ ¬ (x.msgs.length < x.depth ∧ x.writers.isEmpty) then none
    else
      let send := fun (s : State) (st : Dword) (e : Bytes) =>
        if reply < 0x800 ∧ 0 < x.depth then
          chanPut s (reply / 256) (reply % 256) { x with msgs := x.msgs ++
            [st :: BitVec.ofNat 64 (2 ^ 32 * bits w0 63 32) :: (List.range 8).map (fun i => BitVec.ofNat 64 (le e (8 * i) 8))] }
        else s
      let r := lookup s (msgPair m) (msgKey m.words 2 (bits w0 1 0)) (bitAt w0 2)
      match r.2 with
      | .got st e _ => some (send r.1 st e)
      | .late => some (send r.1 2 (zeros 64))
      | .waits => none)

/-- A Scribe request of engine code takes effect from the copy whose parcel has TWIN_OWNER, or as sent without a handle (R231). -/
def devScribe (s : State) (m : DevMsg) (r : ScribeReq) : State :=
  if m.parcel.isEmpty || bitAt (byteAt m.parcel 0x053) 1 then scribePush s r else bump s r_SCB_CNT_TWIN_DISCARD

/-- DEVCH_SCRIBE_LEARN (R180, R229): without a packet the manual states no LEARN_SRC. -/
def execDevchScribeLearn (s : State) : Host.Outcome State Fault Refusal :=
  serveDev s 0x801 (fun ws => bits (mw ws 0) 3 0 = 0) (fun s m =>
    let (ts, src, n) := match msgMeta m with
      | some h => (BitVec.ofNat 64 (le m.parcel 0x058 8), h.source, h.slice)
      | none => (stampNow s, Config.freeNat s.fresh % 32, m.slice)
    some (devScribe (drawn s) m
      (.learn (msgKey m.words 3 1) (BitVec.ofNat 32 (mw m.words 1)) ts src (bits (mw m.words 0) 7 5) n false)))

/-- DEVCH_SCRIBE_INSERT (R197, R229). -/
def execDevchScribeInsert (s : State) : Host.Outcome State Fault Refusal :=
  serveDev s 0x801 (fun ws => bits (mw ws 0) 3 0 = 1) (fun s m =>
    let key := msgKey m.words 3 0
    let a := mw m.words 1
    let e := toLe 4 (4 + 128 * bits (mw m.words 0) 7 5 + 1024 * m.slice) ++ zeros 4 ++ toLe 4 (bits a 19 0) ++
      toLe 4 (bits a 41 20 + 4194304 * bits a 42 42) ++ slice key 1 40 ++ toLe 8 (mw m.words 2)
    some (devScribe s m (.insert key e (bitAt (mw m.words 0) 4) none)))

/-- Location and epoch of word 1, laid out as LOOKUP's status (R197, R229; notes/assumptions/33.md). -/
def msgLoc (ws : List Dword) : Loc × BitVec 16 :=
  (⟨bitAt (mw ws 1) 2, bits (mw ws 1) 24 3⟩, BitVec.ofNat 16 (bits (mw ws 1) 63 48))

/-- The key of a DELETE or UPDATE message: its type is the one, of those whose keys take that many words, of an entry that stands at
the location, or that is found (notes/assumptions/33.md). -/
def msgEntryKey (s : State) (ws : List Dword) (i : Nat) : Bytes :=
  let n := ws.length - i
  let types := if 5 ≤ n then [0] else if 3 ≤ n then [2, 3] else [1]
  match types.find? (fun t => wayHolds s (msgKey ws i t) (msgLoc ws).1) with
  | some t => msgKey ws i t
  | none => match types.find? (fun t => (findKey s (msgKey ws i t)).isSome) with
    | some t => msgKey ws i t
    | none => msgKey ws i (types.headD 0)

/-- DEVCH_SCRIBE_DELETE (R172, R182, R229). -/
def execDevchScribeDelete (s : State) : Host.Outcome State Fault Refusal :=
  serveDev s 0x801 (fun ws => bits (mw ws 0) 3 0 = 2) (fun s m =>
    some (devScribe s m (.delete (msgEntryKey s m.words 3) (some (msgLoc m.words)) false none)))

/-- DEVCH_SCRIBE_UPDATE (R172, R229). -/
def execDevchScribeUpdate (s : State) : Host.Outcome State Fault Refusal :=
  serveDev s 0x801 (fun ws => bits (mw ws 0) 3 0 = 3) (fun s m =>
    let l := msgLoc m.words
    some (devScribe s m (.update (msgEntryKey s m.words 4) l.1 l.2 (bits (mw m.words 2) 8 0) (bits (mw m.words 2) 15 9)
      (BitVec.ofNat 64 (mw m.words 3)))))

/-- Serves a packet message of VERDICT `v`; one whose HANDLE is not ACTIVE in the cluster and slice is discarded (R232). -/
def servePkt (s : State) (v : Nat) (f : State → DevMsg → Nat → WorkItem → Option State) : Host.Outcome State Fault Refusal :=
  serveDev s 0x802 (fun ws => bits (mw ws 0) 19 16 = v) (fun s m =>
    let h := bits (mw m.words 0) 15 0
    match activeItem s m.cluster h m.slice with
    | some it => f s m h it
    | none => some (bump s (r_CSC_CNT_VERDICT_BAD m.cluster)))

/-- The item of a verdict message ends; the first bytes of the frame are replaced when HDR_WRITE is 1 (R232). -/
def verdictItem (s : State) (m : DevMsg) (h : Nat) (it : WorkItem) (v : Nat) (f : State → Nat → Pkt → State) : Option State :=
  let s := itemEnd s m.cluster h v
  match pktGet s it.pid with
  | none => some s
  | some k =>
    let n := bits (mw m.words 1) 9 0
    let frame := if bitAt (mw m.words 1) 10 then fit m.hdr n ++ k.frame.drop n else k.frame
    some (f s it.pid { k with frame := frame, hdr := { k.hdr with frameLen := frame.length } })

/-- V of a packet message. -/
def msgV (m : DevMsg) : Nat := bits (mw m.words 0) 63 32

/-- PKT_FWD_PORT (R197, R232). -/
def execPktFwdPort (s : State) : Host.Outcome State Fault Refusal :=
  servePkt s 0 (fun s m h it => verdictItem s m h it 0 (fun s p k => takeVerdict s p k (.fwdPort (bits (msgV m) 3 0))))

/-- PKT_FWD_HOST (R197, R232). -/
def execPktFwdHost (s : State) : Host.Outcome State Fault Refusal :=
  servePkt s 1 (fun s m h it => verdictItem s m h it 1 (fun s p k =>
    match hostTarget s k (msgV m) with
    | some (n, q) => takeVerdict s p k (.fwdHost n q)
    | none => passDrop (pktSet s p k) p))

/-- PKT_FLOOD (R197, R232). -/
def execPktFlood (s : State) : Host.Outcome State Fault Refusal :=
  servePkt s 2 (fun s m h it => verdictItem s m h it 2 (fun s p k => takeVerdict s p k (.flood (bits (msgV m) 15 0))))

/-- PKT_DROP (R232). -/
def execPktDrop (s : State) : Host.Outcome State Fault Refusal :=
  servePkt s 3 (fun s m h it => verdictItem s m h it 3 (fun s p k => takeVerdict s p k .drop))

/-- PKT_RECIRC (R43, R135, R232): at PASS 3 the packet is dropped and counted. -/
def execPktRecirc (s : State) : Host.Outcome State Fault Refusal :=
  servePkt s 4 (fun s m h it => verdictItem s m h it 4 (fun s p k =>
    if 3 ≤ k.hdr.pass then passDrop (pktSet (bump s (r_CSC_CNT_VERDICT_BAD m.cluster)) p k) p else takeVerdict s p k .recirc))

/-- INJECT (R229, R232, R254): a new Split packet of source 18 in the slice; it waits while Basin has no page. The manual states no
egress class for it without SET_TC. -/
def execInject (s : State) : Host.Outcome State Fault Refusal :=
  servePkt s 5 (fun s m _ _ =>
    let frame := memReadN s.mem (bits (mw m.words 2) 47 0) (bits (mw m.words 1) 31 16)
    match basinStore s frame.length m.slice 1 none with
    | none => none
    | some (fid, s) =>
      let k : Pkt := { frame := frame, stamp := stampNow s, inTc := Config.freeNat s.fresh % 8, fid := fid, gen := genOfSlice s m.slice }
      some (distribute (drawn s) false { k with hdr := { source := 18, slice := m.slice } }))

/-- CSC_ENGINE_EVENT (R229, R249): at most 248 bytes. -/
def execCscEngineEvent (s : State) : Host.Outcome State Fault Refusal :=
  serveDev s 0x803 (fun _ => true) (fun s m =>
    some (eventToManager s 0x8B43 ((m.words.flatMap (fun w => toLe 8 w.toNat)).take 248)))

/-! Faults (R240 to R243). -/

/-- THREAD_FAULT (R240): classes 3 to 7 stop the thread only. -/
def execThreadFault (q slot cls pc addr : Nat) (s : State) : Host.Outcome State Fault Refusal :=
  if 3 ≤ cls ∧ cls ≤ 7 then window s q slot (fun _ => threadFault s q slot cls pc addr) else done s

/-- ENGINE_FAULT (R208, R241, R242, R269): class 1 residue or 2 ECC in thread `thread` of physical engine `engine`. -/
def execEngineFault (engine thread cls : Nat) (s : State) : Host.Outcome State Fault Refusal :=
  match enginePlace s engine with
  | none => done s
  | some (q, pos) =>
    if (cls = 1 ∨ cls = 2) ∧ thread < 8 ∧ engine < 68 then
      let t := 8 * pos + thread
      let h := (activeItems s q t).headD 0xFFFF
      let s := setBits s (r_CSC_ISL_STATUS (engine / 34)) (if cls = 1 then 8 else 4)
      let s := if cls = 1 then errlog s 0x0103 (7 + engine / 34) 0xFFFF 0 (toLe 1 4 ++ toLe 1 engine)
        else errlog s 0x0104 (7 + engine / 34) 0xFFFF (localAddr engine 0) (toLe 1 0)
      let s := faultRecord s q cls t h (thGet s q t).pc 0
      done (selfCheckFail (retireEngine s engine cls 1) (engine / 34) 5 (7 + engine / 34) 4)
    else done s

/-- SPARE_MAPPED (R241, R243, R249): a loaded spare is mapped at the retired position, with FREE threads. -/
def execSpareMapped (spare : Nat) (s : State) : Host.Outcome State Fault Refusal :=
  match s.csc.loading.find? (fun x => x.1 = spare) with
  | none => done s
  | some (x, q, pos, e, cls) =>
    let before := s
    let s := engSet s x .inService
    let s := { s with csc := { s.csc with loading := s.csc.loading.filter (fun y => y.1 ≠ spare) } }
    let s := clusterMod s q (fun c => { c with map := (clusterMap s q).set pos (spare % 34) })
    let s := loadEngine s q pos
    let s := if pos = 0 then clusterMod s q (fun c => { c with supSlot := 7 }) else s
    let s := eventToManager s 0x8B40 (toLe 1 e ++ toLe 1 x ++ toLe 1 cls ++ toLe 1 0)
    done (noteMode before s 1)

/-- SUPERVISOR_RESTART (R243): a supervisor that does not run starts from its entry. -/
def execSupervisorRestart (q : Nat) (s : State) : Host.Outcome State Fault Refusal :=
  let t := supervisorSlot s q
  if q < 8 ∧ ¬ (clusterGet s q).supRun ∧ (engineOf s q t).isSome ∧ s.fw.cscRunning then
    let s := clusterMod s q (fun c => { c with supRun := true })
    done (thMod s q t (fun x => { regs := x.regs, state := .ready, pc := mapGetD s.csc.supEntry (q % 4) 0 }))
  else done s

/-- ENGINE_MEMORY_SCRUB (R212): `corrected` single-bit errors of an engine's local memory. -/
def execEngineMemoryScrub (engine corrected : Nat) (s : State) : Host.Outcome State Fault Refusal :=
  if engine < 68 then done (bumpBy s (r_CSC_ECC_CORR (engine / 34)) corrected) else done s

/-! Deadlock detection (R244 to R246). -/

/-- KIND of a wait (R246). -/
def waitKind (x : Thread) : Nat :=
  if x.state = .suspended then 3
  else match x.wait with
    | .data _ _ _ => 0
    | .space _ => 1
    | .join => 2
    | .none => 0

/-- A snapshot record of a thread (R246). -/
def waitRecord (s : State) (q t : Nat) : Bytes :=
  let x := thGet s q t
  let kind := waitKind x
  let chan := if x.state = .suspended then 0xFFF else match x.wait with
    | .data c _ _ => c
    | .space c => c
    | _ => 0xFFF
  let c := chanInfo s (chan / 256) (chan % 256)
  let isChan := decide (kind < 2 ∧ chan < 0x800)
  let holder := if kind = 1 ∧ isChan then c.reader else if kind = 2 then x.children.foldl min 0x3F else 0x3F
  toLe 8 (t + 64 * kind + 512 * chan + 2 ^ 21 * holder + 2 ^ 27 * b2n (isChan && decide (chan / 256 ≠ q)) +
    2 ^ 28 * (if isChan then c.msgs.length else 0))

/-- Worker threads of the snapshot: WAITING or SUSPENDED. -/
def stuckThreads (s : State) (q : Nat) : List Nat :=
  (workerSlots s q).filter (fun t => let x := thGet s q t; x.state = .waiting || x.state = .suspended)

def snapshotBytes (s : State) (q : Nat) : Bytes :=
  let ts := stuckThreads s q
  toLe 8 (stampNow s).toNat ++ toLe 2 ts.length ++ toLe 1 (q % 4 + 4 * (q / 4)) ++ zeros 5 ++ ts.flatMap (waitRecord s q)

/-- The standing conditions of the detector (R244): no worker READY, and one WAITING without a timeout. -/
def deadlocked (s : State) (q : Nat) : Bool :=
  !(workerSlots s q).any (fun t => (thGet s q t).state = .ready) &&
  (workerSlots s q).any (fun t => let x := thGet s q t; x.state = .waiting && (match x.wait with
    | .data _ _ n => n = 0
    | _ => true))

/-- DLD_FIRE (R245): the count has reached 65,536. The manual gives a KIND 2 record no further words. -/
def execDldFire (q : Nat) (s : State) : Host.Outcome State Fault Refusal :=
  let c := clusterGet s q
  if q < 8 ∧ ¬ c.dldHeld ∧ deadlocked s q then
    let snap := snapshotBytes s q
    let s := localWrite s q (supervisorSlot s q) 0x3B800 snap
    let s := clusterMod s q (fun c => { c with snapshot := snap, dldHeld := true, dldCount := 65536 })
    let s := bump (setBits s (r_CSC_CL_STATUS q) 1) (r_CSC_CNT_DLD q)
    let f := s.fresh
    let s := supervisorEvent { s with fresh := f + 3 } q [2, BitVec.ofNat 64 (Config.freeNat f), BitVec.ofNat 64 (Config.freeNat (f + 1)),
      BitVec.ofNat 64 (Config.freeNat (f + 2))]
    done (trace s (4 + q) 4 (2 * (q / 4)) 0xFFF 0 (toLe 2 (le snap 8 2)))
  else done s

/-- CSC_DEADLOCK (R249): the supervisor has not acknowledged within 1 ms. -/
def execCscDeadlock (q : Nat) (s : State) : Host.Outcome State Fault Refusal :=
  let c := clusterGet s q
  if c.dldHeld then done (eventToManager s 0x8B42 (toLe 1 (q / 4) ++ toLe 1 (q % 4) ++ toLe 2 (le c.snapshot 8 2))) else done s

/-! Commands (R248). -/

/-- Items of a cluster in a state. -/
def itemsIn (s : State) (q : Nat) (st : ItemState) : Nat := ((clusterGet s q).work.filter (fun x => x.2.state = st)).length

/-- Worker threads of a cluster in a state. -/
def threadsIn (s : State) (q : Nat) (st : ThreadState) : Nat := ((workerSlots s q).filter (fun t => (thGet s q t).state = st)).length

/-- Spares of a rail's island that are SPARE. -/
def sparesOf (s : State) (rail : Nat) : Nat := ([34 * rail + 32, 34 * rail + 33].filter (fun e => engState s e = .spare)).length

/-- CSC_CLUSTER_QUERY (R248). -/
def execCscClusterQuery (ch seq : Nat) (s : State) : Host.Outcome State Fault Refusal :=
  command s ch seq 0x0B40 (fun req =>
    let rail := byteAt req 0
    let c := byteAt req 1
    let q := 4 * rail + c
    if 1 < rail ∨ 3 < c then answer s ch seq rcBadParam []
    else answer s ch seq rcOk ((clusterMap s q).flatMap (toLe 1) ++ toLe 1 (threadsIn s q .free) ++ toLe 1 (resTotal s q) ++
      toLe 1 (sparesOf s rail) ++ zeros 1 ++ toLe 4 (itemsIn s q .queued) ++ toLe 4 (itemsIn s q .held) ++
      toLe 1 (threadsIn s q .faulted) ++ toLe 1 (threadsIn s q .suspended) ++ zeros 2))

/-- CSC_ENGINE_RETIRE (R248): as an engine fault without the rail's self-check failure. -/
def execCscEngineRetire (ch seq : Nat) (s : State) : Host.Outcome State Fault Refusal :=
  command s ch seq 0x0B42 (fun req =>
    let e := byteAt req 0
    if 67 < e ∨ (enginePlace s e).isNone then answer s ch seq rcBadParam []
    else
      let spare := (spareOf s (e / 34)).getD 0xFF
      answer (retireEngine s e 0 0) ch seq rcOk (toLe 1 spare))

/-- Items that CSC_PACKET_DISPOSE selects in a cluster: handle and packet (R248). -/
def disposed (s : State) (req : Bytes) (q : Nat) : List (Nat × Nat) :=
  let states := byteAt req 3
  let n := le req 4 2
  if bitAt (byteAt req 0) (q / 4) && bitAt (byteAt req 1) (q % 4) then
    ((clusterGet s q).work.filter (fun x =>
      ((x.2.state = .held && bitAt states 0) || (x.2.state = .queued && bitAt states 1)) &&
      (n = 0xFFFF || x.2.slice = n) && (match pktGet s x.2.pid with
        | some k => k.hdr.jigSlot = byteAt req 2
        | none => false))).map (fun x => (x.1, x.2.pid))
  else []

/-- CSC_PACKET_DISPOSE (R247, R248): each item is dropped as by a DROP verdict. -/
def execCscPacketDispose (ch seq : Nat) (s : State) : Host.Outcome State Fault Refusal :=
  command s ch seq 0x0B43 (fun req =>
    if 3 < byteAt req 2 then answer s ch seq rcBadParam []
    else
      let (s, n) := (List.range 8).foldl (fun (a : State × Nat) q =>
        let xs := disposed a.1 req q
        (xs.foldl (fun s x => passDrop (bump (itemEnd s q x.1 3) (r_CSC_CNT_DISPOSED q)) x.2) a.1, a.2 + xs.length)) (s, 0)
      answer s ch seq rcOk (toLe 4 n))

/-- CSC_WAITGRAPH_READ (R246, R248). -/
def execCscWaitgraphRead (ch seq : Nat) (s : State) : Host.Outcome State Fault Refusal :=
  command s ch seq 0x0B44 (fun req =>
    let rail := byteAt req 0
    let c := byteAt req 1
    if 1 < rail ∨ 3 < c then answer s ch seq rcBadParam []
    else
      let snap := (clusterGet s (4 * rail + c)).snapshot
      answer s ch seq rcOk (if snap.isEmpty then zeros 16 else snap))

end Sys2Proof.Machine
end

