-- ==== Sys2Proof/Machine/Crypto.lean ====
section
/-! DEFINITION. The crypto pool: security associations and their commands (R308 to R313, R322, R334), ESP (R314 to R317), MACsec (R318),
TLS records (R319 to R321), the pairing of Twin transforms (R311, R312) and the tunnel templates (R304, R334). -/

namespace Sys2Proof.Machine

open Sys2Proof

/-! Fields of an SA (R308); `a` is the 128-byte record. -/

def saWindow (a : Bytes) : Nat := le a 2 2
def saSpi (a : Bytes) : Nat := le a 4 4
def saSeq (a : Bytes) : Nat := le a 8 8
def saKey (a : Bytes) : Bytes := if saFlag a 2 then slice a 16 32 else slice a 16 16
def saReplay (a : Bytes) : Nat := le a 64 32
def saSoft (a : Bytes) : Nat := le a 96 8
def saData (a : Bytes) : Nat := le a 104 8

def saSet (s : State) (i : Nat) (a : Bytes) : State := { s with cry := { s.cry with sas := mapSet s.cry.sas i a } }

/-- Adds to PACKETS and OCTETS (R59, R308). -/
def saCount (a : Bytes) (packets octets : Nat) : Bytes := putLe (putLe a 112 8 (le a 112 8 + packets)) 120 8 (le a 120 8 + octets)

/-- Owner of an SA as endpoint and function. -/
def saOwner (a : Bytes) : Nat × Nat := funcOfSlice (saSlice a)

/-! Outcomes of a transform. -/

/-- What a transform makes of a packet: the packet with its frame and class, or a failure: a reason of R333. -/
inductive Made where
  | ok (k : Pkt)
  | fail (reason : Nat)
  /-- The template of a tunnel SA is not usable (R305). -/
  | templateBad
  deriving DecidableEq, Repr

/-- Counter of a failure reason (R333). -/
def failCounter (r : Nat) : Nat :=
  if r = 0xF0 then r_CRY_CNT_ICV_FAIL
  else if r = 0xF1 then r_CRY_CNT_REPLAY
  else if r = 0xF2 then r_CRY_CNT_BAD_TRAILER
  else if r = 0xF3 then r_CRY_CNT_SA_MISMATCH
  else if r = 0xF4 then r_CRY_CNT_MACSEC_TAG
  else r_CRY_CNT_SEQ_EXHAUST

/-- The packet with a new frame. -/
def withFrame (k : Pkt) (f : Bytes) : Pkt := { k with frame := f, hdr := { k.hdr with frameLen := f.length } }

/-- CLASS after a good inbound transform (R316). -/
def withRxClass (a : Bytes) (k : Pkt) : Pkt :=
  if bitAt (byteAt a 62) 4 then { k with hdr := { k.hdr with cls := bits (byteAt a 62) 3 0 } } else k

/-! Numbers and replay (R317, R318). -/

/-- Sequence number of an inbound ESP packet (R317): `t` is T, `w` the window, `lo32` the received low 32 bits. -/
def espNumber (esn : Bool) (t w lo32 : Nat) : Nat :=
  if !esn then lo32
  else
    let m := 4294967296
    let tl := t % m
    let th := t / m
    let lo := (tl + 1 + m - w % m) % m
    let h := if w ≤ tl + 1 then (if lo ≤ lo32 then th else (th + 1) % m) else (if lo ≤ lo32 then (th + m - 1) % m else th)
    h * m + lo32

/-- Packet number of an inbound MACsec frame: the high half of the lowest acceptable number, one more after a wrap of the low half
(R318: IEEE 802.1AE for XPN). -/
def xpnNumber (t w lo32 : Nat) : Nat :=
  let lowest := max 1 (t + 1 - w)
  let l := lowest % 4294967296
  let h := lowest / 4294967296
  (if 2147483648 ≤ l ∧ lo32 < 2147483648 then h + 1 else h) * 4294967296 + lo32

/-- The replay check (R317). -/
def replayOk (a : Bytes) (n : Nat) : Bool :=
  let t := saSeq a
  !saFlag a 7 || decide (t < n) || (decide (t - n < saWindow a) && !bitAt (saReplay a) (t - n))

/-- T and the bitmap after a good packet of number `n` (R317). -/
def replayTake (a : Bytes) (n : Nat) : Bytes :=
  let t := saSeq a
  if t < n then putLe (putLe a 8 8 n) 64 32 (if n - t < 256 then saReplay a * 2 ^ (n - t) + 1 else 1)
  else if t - n < 256 ∧ ¬ bitAt (saReplay a) (t - n) then putLe a 64 32 (saReplay a + 2 ^ (t - n))
  else a

/-! IP headers. -/

/-- Header length of the IP header at `o`; an IPv6 header counts alone. -/
def ipLen (f : Bytes) (o : Nat) : Nat := if byteAt f o / 16 = 6 then 40 else 4 * bits (byteAt f o) 3 0

/-- End of the datagram at `o`, at most the frame's end. -/
def ipEnd (f : Bytes) (o : Nat) : Nat :=
  min f.length (o + (if byteAt f o / 16 = 6 then 40 + be f (o + 4) 2 else be f (o + 2) 2))

/-- The frame with the IP header at `o` carrying protocol `proto` and `n` bytes after the header. -/
def ipRewrite (f : Bytes) (o proto : Nat) : Bytes :=
  if byteAt f o / 16 = 6 then putBe (putBe f (o + 6) 1 proto) (o + 4) 2 (f.length - o - 40)
  else
    let f := putBe (putBe (putBe f (o + 9) 1 proto) (o + 2) 2 (f.length - o)) (o + 10) 2 0
    putBe f (o + 10) 2 (checksum (slice f o (ipLen f o)))

/-- Protocol or next-header value of the IP header at `o`. -/
def ipProto (f : Bytes) (o : Nat) : Nat := if byteAt f o / 16 = 6 then byteAt f (o + 6) else byteAt f (o + 9)

/-! ESP (R314 to R316). -/

/-- AES-GCM of a text: the ciphertext is as long as the text, the tag has 16 bytes (R308; notes/assumptions/10.md). -/
def gcmSealed (key nonce aad text : Bytes) : Bytes × Bytes :=
  let c := Config.gcmSeal key nonce aad text
  (fit c.1 text.length, fit c.2 16)

/-- The plaintext of a ciphertext, as long as it, and the tag expected of it. -/
def gcmOpened (key nonce aad text : Bytes) : Bytes × Bytes :=
  let c := Config.gcmOpen key nonce aad text
  (fit c.1 text.length, fit c.2 16)

/-- Additional data of ESP (R314). -/
def espAad (a : Bytes) (n : Nat) : Bytes := toBe 4 (saSpi a) ++ (if saFlag a 3 then toBe 8 n else toBe 4 n)

/-- Pad bytes, pad length and next header (R314). -/
def espTrailer (len nh : Nat) : Bytes :=
  let p := (4 - (len + 2) % 4) % 4
  (List.range p).map (fun i => BitVec.ofNat 8 (i + 1)) ++ [BitVec.ofNat 8 p, BitVec.ofNat 8 nh]

/-- ESP header, ciphertext and ICV of a payload under number `n`. -/
def espSeal (a : Bytes) (n : Nat) (payload : Bytes) (nh : Nat) : Bytes :=
  let iv := toBe 8 n
  let c := gcmSealed (saKey a) (slice a 48 4 ++ iv) (espAad a n) (payload ++ espTrailer payload.length nh)
  toBe 4 (saSpi a) ++ toBe 4 n ++ iv ++ c.1 ++ c.2

/-- Outbound tunnel mode (R315): the template's header before the encrypted inner datagram. -/
def espOutTunnel (s : State) (a : Bytes) (n : Nat) (k : Pkt) : Made :=
  let t := mapGetD s.cry.templates (saData a % 65536) (zeros 128)
  if !tplUsable t k.hdr.slice then .templateBad
  else
    let e := etherTypeOff k.frame
    let et := be k.frame e 2
    let inner := (k.frame.take (if et = 0x0800 ∨ et = 0x86DD then ipEnd k.frame (e + 2) else k.frame.length)).drop (e + 2)
    let nh := if et = 0x0800 then 4 else if et = 0x86DD then 41 else Config.espNextHeader et
    .ok (withFrame k (ipRewrite (slice t 16 (tplHlen t) ++ espSeal a n inner nh) (byteAt t 2) 50))

/-- Outbound transport mode (R315): ESP after the IP header that AUX names. -/
def espOutTransport (a : Bytes) (n : Nat) (k : Pkt) : Made :=
  match k.pass.ipAt with
  | none => .fail 0xF3
  | some o =>
    let b := o + ipLen k.frame o
    let f := k.frame.take b ++ espSeal a n ((k.frame.take (ipEnd k.frame o)).drop b) (ipProto k.frame o)
    .ok (withFrame k (ipRewrite f o 50))

/-- The number that an inbound ESP packet carries; none when it is not the SA's. -/
def espRead (a : Bytes) (f : Bytes) (o : Nat) : Option Nat :=
  let b := o + ipLen f o
  if ipProto f o = 50 ∧ be f b 4 = saSpi a ∧ b + 32 ≤ ipEnd f o then
    some (espNumber (saFlag a 3) (saSeq a) (saWindow a) (be f (b + 4) 4))
  else none

/-- Payload and next header after decryption and the checks of ICV and trailer (R316), or the reason. -/
def espOpen (a : Bytes) (n : Nat) (f : Bytes) (o : Nat) : Except Nat (Bytes × Nat) :=
  let b := o + ipLen f o
  let e := ipEnd f o
  let c := (f.take (e - 16)).drop (b + 16)
  let r := gcmOpened (saKey a) (slice a 48 4 ++ slice f (b + 8) 8) (espAad a n) c
  if r.2 ≠ slice f (e - 16) 16 then .error 0xF0
  else
    let p := r.1
    let pad := byteAt p (p.length - 2)
    let nh := byteAt p (p.length - 1)
    let body := p.length - 2 - pad
    if p.length < 2 + pad ∨ ¬ (List.range pad).all (fun i => byteAt p (body + i) = i + 1) then .error 0xF2
    else .ok (p.take body, nh)

/-- Inbound ESP (R316) of number `n`. -/
def espIn (a : Bytes) (n : Nat) (k : Pkt) (o : Nat) : Made :=
  match espOpen a n k.frame o with
  | .error r => .fail r
  | .ok (p, nh) =>
    if saKind a = 0 then
      if nh ≠ 4 ∧ nh ≠ 41 then .fail 0xF2
      else .ok (withRxClass a (withFrame k (k.frame.take (o - 2) ++ toBe 2 (if nh = 4 then 0x0800 else 0x86DD) ++ p)))
    else .ok (withRxClass a (withFrame k (ipRewrite (k.frame.take (o + ipLen k.frame o) ++ p) o nh)))

/-! MACsec (R318). -/

/-- IV of a packet number: SSCI and PN, exclusive-ored with SALT. -/
def macsecIv (a : Bytes) (n : Nat) : Bytes := List.zipWith (· ^^^ ·) (toBe 4 (saSpi a) ++ toBe 8 n) (slice a 48 12)

/-- Outbound (R318): the SecTAG after the source address and the ICV at the end. -/
def macsecOut (a : Bytes) (n : Nat) (k : Pkt) : Made :=
  let data := k.frame.drop 12
  let sl := if data.length < 48 then data.length else 0
  let sci := saFlag a 5
  let tag := toBe 2 0x88E5 ++ toBe 1 (12 + 32 * b2n sci + saAux a % 4) ++ toBe 1 sl ++ toBe 4 n ++
    (if sci then toBe 8 (saData a) else [])
  let head := slice k.frame 0 12 ++ tag
  let c := gcmSealed (saKey a) (macsecIv a n) head data
  .ok (withFrame k (head ++ c.1 ++ c.2))

/-- Bytes of the SecTAG, and of the data it protects; none when the SecTAG is invalid (R333). -/
def macsecShape (f : Bytes) : Option (Nat × Nat) :=
  let tci := byteAt f 14
  let sl := byteAt f 15
  let n := if bitAt tci 5 then 16 else 8
  let rest := f.length - 12 - n
  let len := if sl = 0 then rest - 16 else sl
  if be f 12 2 ≠ 0x88E5 ∨ bitAt tci 7 ∨ bitAt tci 3 ≠ bitAt tci 2 ∨ 48 ≤ sl ∨ rest < 16 + len ∨ (sl = 0 ∧ len < 48) then none
  else some (n, len)

/-- The packet number that an inbound frame carries, or the reason of a bad SecTAG. -/
def macsecRead (a : Bytes) (f : Bytes) : Except Nat Nat :=
  match macsecShape f with
  | none => .error 0xF4
  | some _ =>
    let tci := byteAt f 14
    if (bitAt tci 5 ∧ be f 20 8 ≠ saData a) ∨ tci % 4 ≠ saAux a % 4 then .error 0xF3
    else .ok (xpnNumber (saSeq a) (saWindow a) (be f 16 4))

/-- Inbound (R318): with E and C both 0 the data are authenticated only. -/
def macsecIn (a : Bytes) (n : Nat) (k : Pkt) : Made :=
  match macsecShape k.frame with
  | none => .fail 0xF4
  | some (t, len) =>
    let f := k.frame
    let head := f.take (12 + t)
    let data := slice f (12 + t) len
    let enc := bitAt (byteAt f 14) 3
    let r := if enc then gcmOpened (saKey a) (macsecIv a n) head data else gcmOpened (saKey a) (macsecIv a n) (head ++ data) []
    if r.2 ≠ slice f (12 + t + len) 16 then .fail 0xF0
    else .ok (withRxClass a (withFrame k (f.take 12 ++ (if enc then r.1 else data))))

/-! A transform (R309 to R316). -/

/-- Byte at which the IP header of an ESP packet stands: the outer one in tunnel mode, AUX's in transport mode. -/
def espAt (a : Bytes) (k : Pkt) : Option Nat := if saKind a = 0 then some (etherTypeOff k.frame + 2) else k.pass.ipAt

/-- The number an inbound packet carries, or the reason of its refusal. -/
def numberOf (a : Bytes) (k : Pkt) : Except Nat Nat :=
  if saKind a = 2 then macsecRead a k.frame
  else match (espAt a k).bind (espRead a k.frame) with
    | some n => .ok n
    | none => .error 0xF3

/-- The bytes of a transform under number `n`. -/
def transformWith (s : State) (a : Bytes) (n : Nat) (k : Pkt) : Made :=
  if saFlag a 1 then
    if saKind a = 2 then macsecIn a n k
    else match espAt a k with
      | some o => espIn a n k o
      | none => .fail 0xF3
  else if saKind a = 2 then macsecOut a n k
  else if saKind a = 0 then espOutTunnel s a n k
  else espOutTransport a n k

/-- The outbound number is beyond its kind's limit (R313). -/
def spentSa (s : State) (i : Nat) (a : Bytes) : Bool :=
  s.cry.spent.contains i || (decide (saKind a ≤ 1) && !saFlag a 3 && decide (4294967295 < saSeq a))

def noteCryBytes (s : State) (n : Nat) : State := bump64 s r_CRY_BYTES n

/-- CRY_SA_HARD once (R313, R335). -/
def saHard (s : State) (i : Nat) (a : Bytes) : State :=
  if s.cry.hardSent.contains i then s
  else
    let (ep, f) := saOwner a
    eventToFunc { s with cry := { s.cry with hardSent := s.cry.hardSent ++ [i] } } ep f 0x8801 (toLe 4 i ++ zeros 4)

/-- The outbound number is used (R313): SEQ rises and CRY_SA_SOFT is sent once. -/
def saAdvance (s : State) (i : Nat) (a : Bytes) (len : Nat) : State :=
  let n := saSeq a + 1
  let s := saSet s i (saCount (putLe a 8 8 n) 1 len)
  let s := if 2 ^ 64 ≤ n then { s with cry := { s.cry with spent := s.cry.spent ++ [i] } } else s
  if n = saSoft a ∧ ¬ s.cry.softSent.contains i then
    let (ep, f) := saOwner a
    eventToFunc { s with cry := { s.cry with softSent := s.cry.softSent ++ [i] } } ep f 0x8800 (toLe 4 i ++ toLe 8 n)
  else s

/-- The first copy of a transform (R310, R313, R316): the new state, the number, and the outcome. -/
def firstTransform (s : State) (i : Nat) (a : Bytes) (k : Pkt) : State × Nat × Made :=
  let len := k.frame.length
  if saFlag a 1 then
    match numberOf a k with
    | .error r => (bump s (failCounter r), 0, .fail r)
    | .ok n =>
      if !replayOk a n then (bump s (failCounter 0xF1), n, .fail 0xF1)
      else match transformWith s a n k with
        | .ok k' => (noteCryBytes (saSet s i (saCount (replayTake a n) 1 len)) len, n, .ok k')
        | .fail r => (bump s (failCounter r), n, .fail r)
        | .templateBad => (s, n, .templateBad)
  else if spentSa s i a then (saHard (bump s r_CRY_CNT_SEQ_EXHAUST) i a, 0, .fail 0)
  else
    let n := saSeq a
    match transformWith s a n k with
    | .ok k' => (noteCryBytes (saAdvance s i a len) len, n, .ok k')
    | .fail r => (bump s r_CRY_CNT_SA_BAD, n, .fail r)
    | .templateBad => (bump s r_CRY_CNT_TEMPLATE_BAD, n, .templateBad)

/-! Pairing of Twin transforms (R311, R312). -/

def cryPair (s : State) (k : PairKey) : Option SaOutcome := (s.cry.pairing.find? (fun x => x.1 = k)).map (fun x => x.2)

def cryPairErase (s : State) (k : PairKey) : State :=
  { s with cry := { s.cry with pairing := s.cry.pairing.filter (fun x => x.1 ≠ k) } }

def cryPairKey (k : Pkt) (ordinal : Nat) : PairKey :=
  { stream := k.stream, seq := k.hdr.twinSeq, pass := k.hdr.pass, ordinal := ordinal }

/-- An outcome is held for the second copy while both rails are in service. -/
def cryPairHold (s : State) (k : Pkt) (ordinal : Nat) (o : SaOutcome) : State :=
  if k.hdr.twin ∧ bothRails s then { s with cry := { s.cry with pairing := s.cry.pairing ++ [(cryPairKey k ordinal, o)] } } else s

def madeFail : Made → Option Nat
  | .ok _ => none
  | .fail r => some r
  | .templateBad => some 0

/-- The outcome of a transform reaches its packet (R316, R333). -/
def applyMade (s : State) (p : Nat) (k : Pkt) (a : Bytes) (i : Nat) (v : Verdict) (m : Made) : State :=
  match m with
  | .ok k' => takeVerdict s p { k' with saUsed := some i, pass := { k'.pass with sa := none } } v
  | .fail r =>
    if r ≠ 0 ∧ saFlag a 1 ∧ saFlag a 6 then
      exception s p { k with verdict := none, pass := { k.pass with sa := none } } (4 * railOf k.hdr.pipeline) .toEngine r k.pass.op
    else passDrop (pktSet s p k) p
  | .templateBad => passDrop (pktSet s p k) p

/-- Deletions whose transforms have all completed are answered (R322). -/
def answerDeletes (s : State) : State :=
  let busy := fun (i : Nat) => s.cry.waiting.any (fun p => match pktGet s p with
    | some k => decide (k.stage = .transform) && decide (k.pass.sa.map (fun x => x.1) = some i)
    | none => false)
  let ready := s.cry.deletes.filter (fun d => d.2.2.2 && !busy d.2.2.1)
  ready.foldl (fun s d => answer s d.1 d.2.1 rcOk [])
    { s with cry := { s.cry with deletes := s.cry.deletes.filter (fun d => !(d.2.2.2 && !busy d.2.2.1)) } }

/-- An earlier pass waits for the same SA (R310). -/
def saOrdered (s : State) (p i : Nat) : Bool :=
  !(s.cry.waiting.takeWhile (fun q => q ≠ p)).any (fun q => match pktGet s q with
    | some k => decide (k.stage = .transform) && decide (k.pass.sa.map (fun x => x.1) = some i)
    | none => false)

/-- The transform of SET_SA for a copy (R309 to R313). -/
def saTransform (s : State) (p : Nat) (k : Pkt) (i : Nat) (v : Verdict) : State :=
  let a := saGet s i
  let s := if Config.cacheMiss s.fresh then bump (drawn s) r_CRY_CNT_SA_CACHE_MISS else drawn s
  let s := { s with cry := { s.cry with waiting := s.cry.waiting.filter (fun q => q ≠ p) } }
  let pk := cryPairKey k 0
  match (if k.hdr.twin then cryPair s pk else none) with
  | some (.held n none) => applyMade (cryPairErase s pk) p k a i v (transformWith s a n.toNat k)
  | some (.held _ (some r)) => applyMade (cryPairErase s pk) p k a i v (.fail r)
  | some .mark => passDrop (bump (pktSet (cryPairErase s pk) p k) r_CRY_CNT_PAIR_LATE) p
  | none =>
    let (s, n, m) := firstTransform s i a k
    applyMade (cryPairHold s k 0 (.held (BitVec.ofNat 64 n) (madeFail m))) p k a i v m

/-! TLS transmit (R319). -/

/-- Offset of the payload of a send: after HDR_LEN of a TSO send, else after the TCP header at L4_OFF. -/
def sendPayload (m f : Bytes) : Nat :=
  if bitAt (le m 0 4) 5 then bits (le m 4 4) 29 20
  else bits (le m 4 4) 19 10 + 4 * (byteAt f (bits (le m 4 4) 19 10 + 12) / 16)

/-- Nonce of a record (R319). -/
def tlsNonce (a : Bytes) (n : Nat) : Bytes := List.zipWith (· ^^^ ·) (zeros 4 ++ toBe 8 n) (slice a 48 12)

/-- Encrypts whole records from the first byte on, numbered from `n`; fuel bounds their number. -/
def tlsSeal (a : Bytes) : Nat → Nat → Bytes → Bytes
  | 0, _, b => b
  | fuel + 1, n, b =>
    let len := be b 3 2
    if b.isEmpty then []
    else if b.length < 5 ∨ len < 16 ∨ b.length < 5 + len then fit (Config.tlsRemainder b) b.length
    else
      let c := gcmSealed (saKey a) (tlsNonce a n) (b.take 5) (slice b 5 (len - 16))
      b.take 5 ++ c.1 ++ c.2 ++ tlsSeal a fuel (n + 1) (b.drop (5 + len))

/-- TLS encryption of a copy (R319): its SA is an outbound TLS SA of the slice. Twin copies share its effect on the SA (R311). -/
def tlsTransform (s : State) (p : Nat) (k : Pkt) (v : Verdict) : State :=
  let i := bits (le k.tx 12 4) 19 0
  let a := saGet s i
  let pk := cryPairKey k 1
  if !(saFlag a 0 && !saFlag a 1 && decide (saKind a = 3) && decide (saSlice a = k.hdr.slice)) then
    passDrop (bump (pktSet s p k) r_CRY_CNT_SA_BAD) p
  else match (if k.hdr.twin then cryPair s pk else none) with
    | some .mark => passDrop (bump (pktSet (cryPairErase s pk) p k) r_CRY_CNT_PAIR_LATE) p
    | h =>
      let o := sendPayload k.tx k.frame
      let body := k.frame.drop o
      let k := { k with frame := k.frame.take o ++ tlsSeal a (body.length + 1) (le k.tx 16 8) body, saUsed := some i, tlsDone := true }
      let s := if h.isSome then cryPairErase s pk
        else cryPairHold (noteCryBytes (saSet s i (saCount a 1 k.frame.length)) k.frame.length) k 1 (.held 0 none)
      if k.pass.sa.isSome then pktSet s p k else takeVerdict s p k v

/-- CRYPTO_TRANSFORM_DONE (R309 to R319): the records of a send first, then the transform of SET_SA. A core in service is needed, and a
Twin copy needs a place of the pairing store. -/
def execCryptoTransformDone (p : Nat) (s : State) : Host.Outcome State Fault Refusal :=
  match pktGet s p with
  | none => done s
  | some k =>
    let full := k.hdr.twin && decide (16384 ≤ s.cry.pairing.length)
    if k.stage ≠ .transform ∨ s.cry.coresRetired = 0xFFFFFF#24 then done s
    else match k.verdict with
      | none => done s
      | some v =>
        if tlsDue k v then
          if full && (cryPair s (cryPairKey k 1)).isNone then done s else done (tlsTransform s p k v)
        else match k.pass.sa with
          | none => done (takeVerdict s p k v)
          | some (i, _) =>
            if (full && (cryPair s (cryPairKey k 0)).isNone) || !saOrdered s p i then done s
            else done (answerDeletes (saTransform s p k i v))

/-- CRYPTO_CORE_FAIL (R310, R603): the core is retired; its transform restarts on another core from unchanged data. -/
def execCryptoCoreFail (core : Nat) (s : State) : Host.Outcome State Fault Refusal :=
  if core < 24 ∧ ¬ s.cry.coresRetired.getLsbD core then
    let t := { s with cry := { s.cry with coresRetired := s.cry.coresRetired ||| BitVec.ofNat 24 (2 ^ core) } }
    done (noteMode s (noteRetired (hwSetField t 0x025 core core 1) 2 2 core 0 6) 1)
  else done s

/-- CRY_PAIR_EXPIRE (R312): a held outcome becomes an expiry mark; a mark goes. -/
def execCryPairExpire (stream : Nat) (seq : Word) (pass ordinal : Nat) (s : State) : Host.Outcome State Fault Refusal :=
  let pk : PairKey := { stream := stream, seq := seq, pass := pass, ordinal := ordinal }
  match cryPair s pk with
  | some (.held _ _) =>
    done { s with cry := { s.cry with pairing := s.cry.pairing.map (fun x => if x.1 = pk then (x.1, .mark) else x) } }
  | some .mark => done (cryPairErase s pk)
  | none => done s

/-- SA_DELETE_SWITCH (R322): at calendar entry 0 VALID clears; firmware answers once the transforms that read the SA have completed. -/
def execSaDeleteSwitch (s : State) : Host.Outcome State Fault Refusal :=
  let clear := fun (s : State) (d : Nat × Nat × Nat × Bool) =>
    let a := saGet s d.2.2.1
    if d.2.2.2 then s else saSet s d.2.2.1 (putLe a 1 1 (byteAt a 1 - byteAt a 1 % 2))
  let s := s.cry.deletes.foldl clear s
  done (answerDeletes { s with cry := { s.cry with deletes := s.cry.deletes.map (fun d => (d.1, d.2.1, d.2.2.1, true)) } })

/-! TLS receive (R320, R321). -/

/-- The TCP segment of a frame: L4 offset, payload offset, payload end. -/
def tcpShape (f : Bytes) : Option (Nat × Nat × Nat) :=
  let e := etherTypeOff f
  let o := e + 2
  let et := be f e 2
  if (et = 0x0800 ∨ et = 0x86DD) ∧ ipProto f o = 6 then
    let l4 := o + ipLen f o
    let pay := l4 + 4 * (byteAt f (l4 + 12) / 16)
    if pay ≤ ipEnd f o then some (l4, pay, ipEnd f o) else none
  else none

/-- State of a TLS receive SA while a segment runs through it: the record's bytes so far, the next record's number and TCP sequence, the
plaintext of the segment, whether a tag was bad, and whether a length was. -/
structure TlsRun where
  part : Bytes
  recNo : Nat
  tcp : Nat
  out : Bytes := []
  badTag : Nat := 0
  good : Option Nat := none
  records : Nat := 0
  badLen : Bool := false
  deriving DecidableEq, Repr

/-- Plaintext of bytes [x, y) of a record that has been received up to `y`: its header and tag stay as they are. -/
def tlsPlain (a : Bytes) (recNo : Nat) (r : Bytes) (x : Nat) : Bytes :=
  let n := be r 3 2
  if r.length < 6 then r.drop x
  else
    let ct := (r.take (5 + (n - 16))).drop 5
    let pt := gcmOpened (saKey a) (tlsNonce a recNo) (r.take 5) ct
    (r.take 5 ++ pt.1 ++ r.drop (5 + ct.length)).drop x

/-- The tag of a whole record is good. -/
def tlsTagOk (a : Bytes) (recNo : Nat) (r : Bytes) : Bool :=
  let n := be r 3 2
  decide (16 ≤ n) && decide ((gcmOpened (saKey a) (tlsNonce a recNo) (r.take 5) ((r.take (n - 11)).drop 5)).2 = slice r (n - 11) 16)

/-- Runs the payload of a segment through the records (R320); fuel bounds the records. -/
def tlsRun (a : Bytes) : Nat → TlsRun → Bytes → TlsRun
  | 0, t, _ => t
  | fuel + 1, t, b =>
    if b.isEmpty then t
    else
      let r := t.part ++ b
      let n := be r 3 2
      if r.length < 5 then { t with part := r, out := t.out ++ b }
      else if 16640 < n then { t with badLen := true }
      else if r.length < 5 + n then { t with part := r, out := t.out ++ tlsPlain a t.recNo r t.part.length }
      else
        let whole := r.take (5 + n)
        let ok := tlsTagOk a t.recNo whole
        tlsRun a fuel
          { t with part := [], recNo := t.recNo + 1, tcp := (t.tcp + 5 + n) % 4294967296, records := t.records + 1,
                   out := t.out ++ tlsPlain a t.recNo whole t.part.length, badTag := t.badTag + (if ok then 0 else 1),
                   good := if ok then some t.recNo else t.good }
          (r.drop (5 + n))

/-- The SA enters RESYNC (R321): TLS_RESYNC_NEEDED once. -/
def tlsResync (s : State) (i : Nat) (a : Bytes) (seq : Nat) : State :=
  let s := saSet s i (putLe a 108 4 1)
  let s := { s with cry := { s.cry with tlsPart := mapErase s.cry.tlsPart i } }
  if s.cry.tlsSent.contains i then s
  else
    let (ep, f) := saOwner a
    eventToFunc { s with cry := { s.cry with tlsSent := s.cry.tlsSent ++ [i] } } ep f 0x8820 (toLe 4 i ++ toLe 4 seq)

/-- A segment for a TLS receive SA (R320, R321): the frame delivered, TLS_DECRYPTED and TLS_AUTH_FAIL. -/
def tlsReceive (s : State) (i : Nat) (f : Bytes) : State × Bytes × Bool × Bool :=
  let a := saGet s i
  match tcpShape f with
  | none => (s, f, false, false)
  | some (l4, pay, e) =>
    let seq := be f (l4 + 4) 4
    let body := (f.take e).drop pay
    if !(saFlag a 0 && saFlag a 1 && decide (saKind a = 3)) || body.isEmpty then (s, f, false, false)
    else
      let resumes := (mapGet s.cry.tlsResume i).bind (fun r => if r.1.toNat = seq then some r.2.toNat else none)
      let run : Option TlsRun :=
        if le a 108 4 = 0 then
          let part := mapGetD s.cry.tlsPart i []
          if (le a 104 4 + part.length) % 4294967296 = seq then
            some { part := part, recNo := (mapGetD s.cry.tlsRecNo i 0).toNat, tcp := le a 104 4 }
          else none
        else resumes.map (fun n => { part := [], recNo := n, tcp := seq })
      match run with
      | none => if le a 108 4 = 0 then (tlsResync s i a seq, f, false, false) else (s, f, false, false)
      | some t =>
        let t := tlsRun a (body.length + 1) t body
        if t.badLen then (tlsResync (bump s r_CRY_CNT_TLS_BAD_LEN) i a seq, f, false, false)
        else
          let a := putLe (putLe (saCount a t.records body.length) 104 4 t.tcp) 108 4 0
          let a := match t.good with
            | some n => putLe a 8 8 n
            | none => a
          let s := noteCryBytes (bumpBy (saSet s i a) r_CRY_CNT_TLS_AUTH_FAIL t.badTag) body.length
          let s := { s with cry := { s.cry with tlsPart := mapSet s.cry.tlsPart i t.part,
                                                tlsRecNo := mapSet s.cry.tlsRecNo i (BitVec.ofNat 64 t.recNo),
                                                tlsResume := mapErase s.cry.tlsResume i } }
          (s, f.take pay ++ t.out ++ f.drop e, true, decide (t.badTag ≠ 0))

/-! Commands (R334). -/

/-- Slice of the sender of a command; none for the manager, who acts for any slice. -/
def senderSlice (s : State) (ch : Nat) : Option Nat :=
  if chanHolds s ch then none
  else match funcOfChan ch with
    | some (ep, f) => some (sliceOfFunc ep f)
    | none => none

/-- The index lies in the SA range of a slice. -/
def saOwned (s : State) (n i : Nat) : Bool :=
  match sliceGet s n with
  | some x => decide (x.saBase ≤ i ∧ i < x.saBase + x.saCount)
  | none => false

/-- The sender may act on SA `i` of slice `n`. -/
def saMay (s : State) (ch n : Nat) : Bool :=
  match senderSlice s ch with
  | some m => decide (m = n)
  | none => true

/-- Ranges of the fields of an SA (R308). -/
def saOk (a : Bytes) : Bool :=
  decide (saKind a ≤ 3) && (!(saFlag a 1 && decide (saKind a ≤ 2)) || decide (1 ≤ saWindow a ∧ saWindow a ≤ 256)) &&
    (decide (saKind a ≠ 3) || decide (le a 108 4 ≤ 1))

/-- The SA as the table keeps it: RO and RSV fields are not taken from the request. -/
def saClean (a : Bytes) : Bytes :=
  let a := putLe (putLe (putLe a 60 2 (saSlice a)) 62 1 (byteAt a 62 % 32)) 63 1 (if saKind a = 1 then byteAt a 63 % 8 else if saKind a = 2 then byteAt a 63 % 4 else 0)
  splice (splice (fit a 128) 64 (zeros 32)) 112 (zeros 16)

/-- A pass that has ended waits for SA `i`. -/
def saBusy (s : State) (i : Nat) : Bool :=
  s.cry.waiting.any (fun p => match pktGet s p with
    | some k => decide (k.stage = .transform) && decide (k.pass.sa.map (fun x => x.1) = some i)
    | none => false)

/-- CRY_SA_WRITE (R322, R334): it completes once the passes that have ended have their transforms. -/
def execCrySaWrite (ch seq : Nat) (s : State) : Host.Outcome State Fault Refusal :=
  command s ch seq 0x0800 (fun req =>
    let i := bits (le req 0 4) 19 0
    let a := slice req 8 128
    if !saMay s ch (saSlice a) then answer s ch seq rcNotPermitted []
    else if !saOwned s (saSlice a) i then answer s ch seq rcNoResource []
    else if !saOk a then answer s ch seq rcBadParam []
    else if saBusy s i then s
    else
      let s := saSet s i (saClean a)
      let c := s.cry
      answer { s with cry := { c with
        softSent := c.softSent.filter (fun x => x ≠ i), hardSent := c.hardSent.filter (fun x => x ≠ i),
        tlsSent := c.tlsSent.filter (fun x => x ≠ i), spent := c.spent.filter (fun x => x ≠ i),
        byDriver := (c.byDriver.filter (fun x => x ≠ i)) ++ (if 8 ≤ ch ∧ ch < 2056 then [i] else []),
        tlsPart := mapErase c.tlsPart i, tlsRecNo := mapSet c.tlsRecNo i (BitVec.ofNat 64 (saSeq a)),
        tlsResume := mapErase c.tlsResume i } } ch seq rcOk [])

/-- CRY_SA_READ (R308, R334): KEY and SALT read as 0. -/
def execCrySaRead (ch seq : Nat) (s : State) : Host.Outcome State Fault Refusal :=
  command s ch seq 0x0801 (fun req =>
    let i := bits (le req 0 4) 19 0
    let own := match senderSlice s ch with
      | some n => saOwned s n i
      | none => true
    if !own ∧ ch ≠ 2056 then answer s ch seq rcNotPermitted []
    else answer s ch seq rcOk (toLe 4 i ++ zeros 4 ++ splice (saGet s i) 16 (zeros 44)))

/-- CRY_SA_DELETE (R322): answered after the switch. -/
def execCrySaDelete (ch seq : Nat) (s : State) : Host.Outcome State Fault Refusal :=
  command s ch seq 0x0802 (fun req =>
    let i := bits (le req 0 4) 19 0
    let own := match senderSlice s ch with
      | some n => saOwned s n i
      | none => true
    if !own then answer s ch seq rcNotPermitted []
    else defer { s with cry := { s.cry with deletes := s.cry.deletes ++ [(ch, seq, i, false)] } } ch seq)

/-- TLS_RX_RESYNC (R321, R334). -/
def execTlsRxResync (ch seq : Nat) (s : State) : Host.Outcome State Fault Refusal :=
  command s ch seq 0x0820 (fun req =>
    let i := bits (le req 0 4) 19 0
    let a := saGet s i
    let own := match senderSlice s ch with
      | some n => saOwned s n i
      | none => true
    if !own then answer s ch seq rcNotPermitted []
    else if !(saFlag a 0 && saFlag a 1 && decide (saKind a = 3)) then answer s ch seq rcBadParam []
    else answer { s with cry := { s.cry with
      tlsResume := mapSet s.cry.tlsResume i (BitVec.ofNat 32 (le req 4 4), BitVec.ofNat 64 (le req 8 8)),
      tlsSent := s.cry.tlsSent.filter (fun x => x ≠ i) } } ch seq rcOk [])

/-- TNL_TEMPLATE_WRITE (R304, R334). -/
def execTnlTemplateWrite (ch seq : Nat) (s : State) : Host.Outcome State Fault Refusal :=
  command s ch seq 0x0810 (fun req =>
    let i := le req 0 2
    let t := slice req 4 128
    let n := byteAt t 0
    if n = 0 ∨ 112 < n ∨ n < byteAt t 2 ∨ n < byteAt t 3 ∨ 3 < byteAt t 1 then answer s ch seq rcBadParam []
    else
      let t := splice (splice (putLe (putLe t 4 1 (byteAt t 4 % 16)) 8 2 (bits (le t 8 2) 11 0)) 5 (zeros 3)) 10 (zeros 6)
      answer { s with cry := { s.cry with templates := mapSet s.cry.templates i t } } ch seq rcOk [])

/-- TNL_TEMPLATE_READ (R334). -/
def execTnlTemplateRead (ch seq : Nat) (s : State) : Host.Outcome State Fault Refusal :=
  command s ch seq 0x0811 (fun req =>
    answer s ch seq rcOk (fit req 4 ++ mapGetD s.cry.templates (le req 0 2) (zeros 128)))

end Sys2Proof.Machine
end

