-- ==== Sys2Proof/Machine/RingOps.lean ====
section
/-! DEFINITION. Shared operations of the host rings: DMA requests and translations (R435 to R444), completion entries and
write-backs (R482 to R484), halts (R486 to R488), reset records (R491, R492), and frames bound for a host ring (R480, R481). -/

namespace Sys2Proof.Machine

open Sys2Proof

/-! DMA (R435, R440, R443, R444). -/

/-- A function's requests leave the adapter: Bus Master Enable, no containment, no D3hot, no FLR (R440, R446, R448, R451). -/
def canIssue (s : State) (ep f : Nat) : Bool :=
  let g := fnGet s ep f
  hostOpen s && g.bme && !(epGet s ep).contained && !g.d3hot && !g.flrActive

/-- Length of the first piece of a request (R435): at most `mx` bytes, within a 4 KiB page. -/
def pieceLen (mx addr len : Nat) : Nat := min len (min mx (4096 - addr % 4096))

/-- A write in pieces of at most `mx` bytes within 4 KiB pages; fuel is its length. -/
def splitWrite : Nat → Nat → Nat → Bytes → List (Nat × Bytes)
  | 0, _, _, _ => []
  | n + 1, mx, a, d =>
    if d.isEmpty then [] else
      let k := pieceLen mx a d.length
      (a, d.take k) :: splitWrite n mx (a + k) (d.drop k)

/-- A read in pieces, as addresses and lengths. -/
def splitRead : Nat → Nat → Nat → Nat → List (Nat × Nat)
  | 0, _, _, _ => []
  | n + 1, mx, a, len =>
    if len = 0 then [] else
      let k := pieceLen mx a len
      (a, k) :: splitRead n mx (a + k) (len - k)

/-- With ATS Enable 1, the translation of an address is requested once and kept (R443). -/
def translate (s : State) (ep f : Nat) (pasid : Option Nat) (addr : Nat) : State :=
  let key := (f, pasid.getD 1048576, addr / 4096)
  let c := (epGet s ep).transCache
  if (fnGet s ep f).atsEn && !c.contains key then
    emit (epMod s ep (fun e => { e with transCache := (if 16384 ≤ c.length then c.drop 1 else c) ++ [key] }))
      (.translate ep f pasid (addr / 4096))
  else s

/-- One piece of a posted write: sent, or held while the function may not send (R440, R448). -/
def writePiece (s : State) (ep f : Nat) (pasid : Option Nat) (relaxed : Bool) (p : Nat × Bytes) : State :=
  let g := fnGet s ep f
  let s := translate s ep f pasid p.1
  if canIssue s ep f then emit s (.tlpWrite ep f pasid (relaxed && g.relaxed) (relaxed && g.ido) p.1 p.2)
  else epMod s ep (fun e => { e with held := e.held ++ [{ func := f, pasid := pasid, relaxed := relaxed, addr := p.1, data := p.2 }] })

/-- A posted write of a function (R435); during its FLR nothing is written (R446). `relaxed` marks receive data. -/
def dmaWrite (s : State) (ep f : Nat) (pasid : Option Nat) (relaxed : Bool) (addr : Nat) (data : Bytes) : State :=
  let g := fnGet s ep f
  if g.flrActive then s
  else (splitWrite data.length g.maxPayload addr data).foldl (fun s p => writePiece s ep f pasid relaxed p) s

/-- A request of an earlier generation is discarded and counted (R444). -/
def staleGen (s : State) (ep : Nat) : State := bump s (r_HIF_CNT_STALE_GEN ep)

/-- Tags an endpoint's function may have outstanding (R435). -/
def tagLimit (s : State) (ep f : Nat) : Nat :=
  let g := fnGet s ep f
  if g.tag14 then 8192 else if g.tag10 then 768 else 256

def quarantined (s : State) (ep : Nat) : Nat := ((epGet s ep).reads.filter (fun r => r.quarantined)).length

/-- A free tag, the first from the endpoint's next one (R435, R439). -/
def freeTag (s : State) (ep f : Nat) : Option Nat :=
  let e := epGet s ep
  let n := tagLimit s ep f
  if n ≤ (e.reads.filter (fun r => !r.quarantined)).length ∨ 4096 ≤ quarantined s ep then none
  else (List.range n).findSome? (fun i =>
    let t := (e.nextTag + i) % n
    if e.reads.any (fun r => r.tag = t) then none else some t)

/-- Issues a read; none when no tag is free or the function may not send. -/
def issueRead (s : State) (ep f : Nat) (pasid : Option Nat) (addr len queue purpose : Nat) : Option (Nat × State) :=
  if !canIssue s ep f then none
  else match freeTag s ep f with
    | none => none
    | some t =>
      let s := translate s ep f pasid addr
      let r : ReadReq := { tag := t, func := f, gen := (fnGet s ep f).gen, addr := addr, len := len, quarantined := false,
                           queue := queue, purpose := purpose, pasid := pasid }
      some (t, emit (epMod s ep (fun e => { e with reads := e.reads ++ [r], nextTag := t + 1 })) (.tlpRead ep f pasid t addr len))

/-! Queue pairs. -/

/-- Local number of a queue pair (R460). -/
def localQp (s : State) (ep g : Nat) : Nat :=
  let f := (qpGet s ep g).func
  match sliceGet s (sliceOfFunc ep f) with
  | some x => g - x.qpBase
  | none => g

/-- A counter of a function: the VF's, or for PF0 the endpoint's (R466, R452). -/
def fnCount (s : State) (ep f : Nat) (vf : Nat → Nat → Nat) (pf : Option (Nat → Nat)) : State :=
  if f ≠ 0 then bump s (vf ep f)
  else match pf with
    | some r => bump s (r ep)
    | none => s

/-- Takes counts on an endpoint's counter and, for a VF, the VF's own (R438, R439, R472). -/
def countBoth (s : State) (ep f : Nat) (pf : Nat → Nat) (vf : Nat → Nat → Nat) : State :=
  let s := bump s (pf ep)
  if f = 0 then s else bump s (vf ep f)

def ringSize (log : Nat) : Nat := if log = 0 then 0 else 2 ^ log

/-- Entries between consumer and producer (R465). -/
def ringFill (p c : Word) : Nat := (p - c).toNat

def cqSpace (q : QPair) : Nat := ringSize q.cqLog - ringFill q.cqProd q.cqCons

/-- State code shown in registers and write-backs (R462). -/
def qStateCode : QState → Nat
  | .inactive => 0
  | .active => 1
  | .halted => 2
  | .flushing => 3

/-- The queue pair takes work: it is ACTIVE, and neither a halt nor a drain runs (R462, R487, R490). -/
def qActive (q : QPair) : Bool := decide (q.state = .active) && !q.halting && q.drain.isNone

/-- A draining queue pair reads FLUSHING (notes/assumptions/49.md). -/
def qCode (q : QPair) : Nat := if q.drain.isSome then 3 else qStateCode q.state

/-- The write-back location is written (R483). -/
def writeBack (s : State) (ep g : Nat) : State :=
  let q := qpGet s ep g
  let s := qpSet s ep g { q with wbDue := false }
  dmaWrite s ep q.func q.pasid false q.wb
    (toLe 4 q.cqProd.toNat ++ toLe 4 q.txCons.toNat ++ toLe 4 q.rxCons.toNat ++ toLe 2 (fnGet s ep q.func).gen.toNat ++
      toLe 1 (qCode q) ++ toLe 1 0)

/-- Sends the vector of an armed completion ring after the write-back, which disarms it (R484). -/
def ringInterrupt (s : State) (ep g : Nat) : State :=
  let q := qpGet s ep g
  if q.armed then
    let s := writeBack (qpSet s ep g { q with armed := false }) ep g
    dueVec s ep q.func q.vector
  else s

/-- Writes one completion entry (R482, R484). -/
def writeEntry (s : State) (ep g : Nat) (e : Bytes) : State :=
  let q := qpGet s ep g
  let i := q.cqProd.toNat % ringSize q.cqLog
  let s := dmaWrite s ep q.func q.pasid false (q.cqBase + 16 * i) e
  ringInterrupt (qpMod s ep g (fun q => { q with cqProd := q.cqProd + 1, wbDue := true })) ep g

/-! Reset records (R491, R492). -/

def lostOf (s : State) (ep : Nat) : Nat := if ep = 0 then s.rings.lost0 else s.rings.lost1

/-- Keeps a record; a full store of 16,384 loses its oldest, counted. -/
def keepRecord (s : State) (ep f : Nat) (b : Bytes) : State :=
  let r := s.rings
  let mine := (r.records.filter (fun x => x.1 = ep)).length
  if 16384 ≤ mine then
    let recs := r.records.eraseP (fun x => x.1 = ep)
    { s with rings := { r with records := recs ++ [(ep, f, b)], lost0 := if ep = 0 then r.lost0 + 1 else r.lost0,
                               lost1 := if ep = 0 then r.lost1 else r.lost1 + 1 } }
  else { s with rings := { r with records := r.records ++ [(ep, f, b)] } }

/-- The 48 bytes of a reset record (R491). -/
def resetRecord (s : State) (ep g cause : Nat) (drained : Bool) (old new : BitVec 16) : Bytes :=
  let q := qpGet s ep g
  toLe 2 (localQp s ep g) ++ toLe 1 cause ++ toLe 1 (b2n drained) ++ toLe 2 old.toNat ++ toLe 2 new.toNat ++ toLe 4 q.txCpl.toNat ++
    toLe 4 q.txCons.toNat ++ toLe 4 q.txProd.toNat ++ toLe 4 q.rxCons.toNat ++ toLe 4 q.rxProd.toNat ++ toLe 4 q.cqProd.toNat ++
    toLe 4 q.rxDiscard ++ zeros 4 ++ toLe 8 (stampNow s).toNat

/-! Halts (R486 to R488). -/

/-- The first cause of a function (R486, R61). -/
def captureCause (s : State) (ep f cause queue : Nat) : State :=
  let s := fnMod s ep f (fun x => if x.errValid then x else { x with errValid := true, errCause := cause, errQueue := queue })
  if f = 0 then s else capture s (r_HIF_VF_ERR_CAUSE ep f) (cause + 256 * queue)

/-- A function enters error (R459, R488). -/
def functionError (s : State) (ep f : Nat) : State :=
  if (fnGet s ep f).inError then s
  else
    let s := mgrEvent (fnMod s ep f (fun x => { x with inError := true })) ep 3
    if f = 0 then s else vfEvent s ep f 2

/-- A frame of a host ring is dropped with its holder's release. -/
def dropRx (s : State) (r : RxFrame) : State := letGo s r.fid r.origin (some 1)

/-- The last steps of a halt (R487): the halt entry and write-back, HALTED, the record and the reports. -/
def haltFinish (s : State) (ep g : Nat) : State :=
  let q := qpGet s ep g
  if q.halting ∧ q.packets = [] then
    let n := localQp s ep g
    let s := qpMod s ep g (fun q => { q with halting := false })
    let s := if q.errRing = 2 ∨ cqSpace q = 0 then s
      else writeEntry s ep g (toLe 4 (3 + 256 * q.errCause + 65536 * q.errRing) ++ toLe 4 q.errIndex.toNat ++ zeros 8)
    let s := bumpBy s (r_RING_CNT_RX_QDOWN ep g) q.rx.length
    let s := qpMod (q.rx.foldl dropRx s) ep g (fun q => { q with state := .halted, rxDiscard := q.rxDiscard + q.rx.length, rx := [] })
    let s := writeBack s ep g
    let gen := (fnGet s ep q.func).gen
    let s := keepRecord s ep q.func (resetRecord s ep g 5 true gen gen)
    let s := if q.func = 0 then s else vfEvent s ep q.func 3
    let s := errlogGen s 0x0142 ep (errFunc ep q.func) gen 0 (toLe 2 n ++ toLe 1 q.errCause)
    let s := trace s (34 + ep) 4 0 (sliceOfFunc ep q.func) 0 (toLe 2 q.func ++ toLe 2 n ++ toLe 1 q.errCause)
    eventToManager s 0x8300 (toLe 1 ep ++ toLe 1 q.errCause ++ toLe 2 q.func ++ toLe 2 n ++ toLe 1 q.errRing ++ toLe 1 0)
  else s

/-- A queue error or a malformed descriptor halts a queue pair (R486, R487); class M puts the function in error. -/
def halt (s : State) (ep g cause ring : Nat) (index : Word) : State :=
  let q := qpGet s ep g
  if q.state ≠ .active ∨ q.halting then s
  else
    let s := qpSet s ep g
      { q with halting := true, errCause := cause, errRing := ring, errIndex := index, descs := [], bufs := [], postings := [] }
    let s := epMod s ep (fun e =>
      { e with reads := e.reads.map (fun r => if r.queue = g ∧ r.purpose ≤ 2 ∧ ¬ r.quarantined then { r with purpose := 9 } else r),
               reissue := e.reissue.filter (fun r => !(r.queue = g && decide (r.purpose ≤ 2))) })
    let s := captureCause s ep q.func cause (localQp s ep g)
    let s := if 0x10 ≤ cause then
        let s := if q.func = 0 then s else bump s (r_HIF_VF_CNT_MALFORMED ep q.func)
        functionError s ep q.func
      else s
    haltFinish s ep g

/-! Frames bound for a host ring (R262, R480, R481). -/

/-- A released frame reaches the ring of a slice's queue: it waits in Basin for postings, or it is dropped. A frame of an earlier
generation is discarded (R444), as is one for a queue the slice does not have. -/
def hostEnqueue (s : State) (slice_ queue : Nat) (r : RxFrame) : State :=
  let (ep, f) := funcOfSlice slice_
  match globalQp s ep f queue with
  | none => dropRx s r
  | some g =>
    let q := qpGet s ep g
    if r.gen ≠ (fnGet s ep f).gen then staleGen (dropRx s r) ep
    else if !qActive q || decide (q.rxLog = 0) then bump (dropRx s r) (r_RING_CNT_RX_QDOWN ep g)
    else qpSet s ep g { q with rx := q.rx ++ [r] }

end Sys2Proof.Machine
end

