-- ==== Sys2Proof/Machine/Egress.lean ====
section
/-! DEFINITION. Operations of the transmit side: MACs and their lanes (R337, R338, R341), the finishing of a frame (R347, R348, R392),
Weir's shapers (R359 to R363), Sluice's gates (R365 to R370), and the entry of a released frame into its MAC's lists (R360, R471). -/

namespace Sys2Proof.Machine

open Sys2Proof

/-! MACs and lanes. -/

def portGet (s : State) (p : Nat) : Port := if p = 0 then s.port0 else s.port1

def portMod (s : State) (p : Nat) (f : Port → Port) : State :=
  if p = 0 then { s with port0 := f s.port0 } else { s with port1 := f s.port1 }

/-- Lanes of a MAC in a port mode (R337). -/
def modeLanes (mode : Nat) : Nat := if mode = 0 then 8 else if mode = 1 then 4 else if mode = 2 then 2 else 1

/-- The port's mode uses the MAC number (R338). -/
def macUsed (s : State) (m : Nat) : Bool := decide (m < 16) && decide (m % 8 % modeLanes (portGet s (m / 8)).mode = 0)

/-- The largest aligned group of a MAC's own lanes without a retired lane (R341), lowest first: its first lane and size. -/
def macGroup (s : State) (m : Nat) : Option (Nat × Nat) :=
  let pt := portGet s (m / 8)
  let n := modeLanes pt.mode
  [8, 4, 2, 1].findSome? (fun size =>
    if size ≤ n then
      (List.range (n / size)).findSome? (fun i =>
        let a := m % 8 + size * i
        if (List.range size).all (fun j => !bitAt pt.retired (a + j)) then some (a, size) else none)
    else none)

/-- Rate of a MAC in units of 100 Gb/s; 0 when it has no group. -/
def macRate (s : State) (m : Nat) : Nat :=
  match macGroup s m with
  | some (_, n) => n
  | none => 0

/-- RATE code (R373). -/
def rateCode (n : Nat) : Nat := if n = 8 then 4 else if n = 4 then 3 else if n = 2 then 2 else if n = 1 then 1 else 0

/-- Station address of a MAC (R377). -/
def macAddr (s : State) (m : Nat) : Bytes :=
  toBe 2 (hwField s (0x051 + 2 * m) 15 0) ++ toBe 4 (hwWord s (0x050 + 2 * m)).toNat

def maxFrame (s : State) (m : Nat) : Nat := regField s (r_MAC_MAX_FRAME m) 13 0

/-- A record of a MAC's frame, kept as 1 in 2^SHIFT of its frames (R625, R626). -/
def traceFrame (s : State) (m kind slice_ len cls : Nat) : State :=
  let n := mapGetD s.gauge.traceMac m 0
  let s := trace s (17 + m) kind 0 slice_ n (toLe 2 len ++ toLe 1 cls ++ zeros 1)
  { s with gauge := { s.gauge with traceMac := mapSet s.gauge.traceMac m (n + 1) } }

/-- The link of a MAC changes (R372, R374, R459): `fault` is 0 none, 1 local, 2 remote. -/
def linkChange (s : State) (m : Nat) (up : Bool) (fault : Nat) : State :=
  let was := (macGet s m).linkUp
  let s := macMod s m (fun x =>
    { x with linkUp := up, localFault := decide (fault = 1), remoteFault := decide (fault = 2),
             verifyState := if up && x.preemptEn && !x.verifyDis then 1 else 0 })
  let s := if was = up then s else vfEventAll s 0
  eventToManager s 0x8600 (toLe 1 m ++ toLe 1 (b2n up) ++ toLe 1 fault ++ toLe 1 (if up then rateCode (macRate s m) else 0))

/-! PTP messages in frames (R394). -/

/-- Offset of the PTP header of a frame; none for other frames. -/
def ptpOffset (f : Bytes) : Option Nat :=
  let e := etherTypeOff f
  let o := e + 2
  let et := be f e 2
  let port := fun (l4 : Nat) => decide (be f (l4 + 2) 2 = 319) || decide (be f (l4 + 2) 2 = 320)
  if et = 0x88F7 then some o
  else if et = 0x0800 then
    let l4 := o + 4 * bits (byteAt f o) 3 0
    if byteAt f (o + 9) = 17 ∧ be f (o + 6) 2 % 0x2000 = 0 ∧ port l4 then some (l4 + 8) else none
  else if et = 0x86DD then if byteAt f (o + 6) = 17 ∧ port (o + 40) then some (o + 48) else none
  else none

def ptpMode (s : State) : Nat := hwField s 0x0D8 1 0

/-- The actor gate stops a frame (R291, R398): Announce, Sync or Follow_Up of the engine, or of a host in HOST mode. -/
def ptpGated (s : State) (f : TxFrame) : Bool :=
  let master := fun (t : Nat) => t = 0 || t = 8 || t = 11
  !actorGate s && (match f.ptp with
    | some t => master t
    | none => decide (ptpMode s = 1) && f.origin.isSome && (match ptpOffset f.bytes with
      | some o => master (byteAt f.bytes o % 16)
      | none => false))

/-! Finishing a frame (R347). -/

/-- Fields of a META descriptor (R469); an empty one has every flag 0. -/
def mBit (m : Bytes) (i : Nat) : Bool := bitAt (le m 0 4) i
def mL3 (m : Bytes) : Nat := bits (le m 4 4) 9 0
def mL4 (m : Bytes) : Nat := bits (le m 4 4) 19 10
def mHdrLen (m : Bytes) : Nat := bits (le m 4 4) 29 20
def mMss (m : Bytes) : Nat := bits (le m 8 4) 15 0
def mPtpOff (m : Bytes) : Nat := bits (le m 8 4) 25 16
def mTunnel (m : Bytes) : Bool := bitAt (le m 24 4) 20
def mOuterL3 (m : Bytes) : Nat := bits (le m 24 4) 9 0
def mOuterL4 (m : Bytes) : Nat := bits (le m 24 4) 19 10

def isTso (f : TxFrame) : Bool := mBit f.tx 5

/-- Segments of a frame: one unless it is a TSO send (R348). A send without payload is one segment. -/
def segCount (f : TxFrame) : Nat :=
  if isTso f then max 1 (ceilDiv (f.bytes.length - mHdrLen f.tx) (mMss f.tx)) else 1

/-- Header checksum of the IPv4 header at `o`, computed in full (R72). -/
def putIpCsum (b : Bytes) (o : Nat) : Bytes :=
  let b := putBe b (o + 10) 2 0
  putBe b (o + 10) 2 (checksum (slice b o (4 * bits (byteAt b o) 3 0)))

/-- The IP header at `o` is IPv6. -/
def ipV6 (b : Bytes) (o : Nat) : Bool := byteAt b o / 16 = 6

/-- Pseudo-header of the transport at `l4` of the IP header at `l3`, the datagram ending at the frame end. -/
def pseudo (b : Bytes) (l3 l4 proto : Nat) : Bytes :=
  let n := b.length - l4
  if ipV6 b l3 then slice b (l3 + 8) 32 ++ toBe 4 n ++ toBe 4 proto else slice b (l3 + 12) 8 ++ toBe 2 proto ++ toBe 2 n

/-- Transport checksum computed in full (R72, R73). -/
def putL4Csum (b : Bytes) (l3 l4 : Nat) (udp : Bool) : Bytes :=
  let at_ := l4 + (if udp then 6 else 16)
  let b := putBe b at_ 2 0
  let c := checksum (pseudo b l3 l4 (if udp then 17 else 6) ++ b.drop l4)
  putBe b at_ 2 (if udp && decide (c = 0) then 0xFFFF else c)

/-- IP header fields of segment `i` (R75, R348), before its checksum. -/
def segIp (b : Bytes) (o i : Nat) : Bytes :=
  if ipV6 b o then putBe b (o + 4) 2 (b.length - o - 40)
  else putBe (putBe b (o + 2) 2 (b.length - o)) (o + 4) 2 ((be b (o + 4) 2 + i) % 65536)

/-- Payload of segment `i`. -/
def segPayload (f : TxFrame) (i : Nat) : Bytes := ((f.bytes.drop (mHdrLen f.tx)).drop (i * mMss f.tx)).take (mMss f.tx)

/-- Segment `i` with its lengths and identifications, before checksums. -/
def segPlain (f : TxFrame) (i : Nat) : Bytes :=
  let b := slice f.bytes 0 (mHdrLen f.tx) ++ segPayload f i
  let b := segIp b (mL3 f.tx) i
  if mTunnel f.tx then
    let b := segIp b (mOuterL3 f.tx) i
    if mOuterL4 f.tx = 0 then b else putBe b (mOuterL4 f.tx + 4) 2 (b.length - mOuterL4 f.tx)
  else b

/-- IPv4 header checksum of a segment: in full for segment 0, updated from it for a later one (R75). -/
def segIpCsum (f : TxFrame) (i o : Nat) (b : Bytes) : Bytes :=
  if ipV6 b o then b
  else
    let n := 4 * bits (byteAt b o) 3 0
    let b0 := putIpCsum (segPlain f 0) o
    let h0 := putBe (slice b0 o n) 10 2 0
    let h := putBe (slice b o n) 10 2 0
    putBe b (o + 10) 2 (if i = 0 then be b0 (o + 10) 2 else csumUpdateAll (be b0 (o + 10) 2) h0 h)

/-- Segment `i` of a TSO send (R75, R348). -/
def segBytes (f : TxFrame) (i : Nat) : Bytes :=
  let l4 := mL4 f.tx
  let b := segPlain f i
  let b := putBe b (l4 + 4) 4 ((be b (l4 + 4) 4 + i * mMss f.tx) % 4294967296)
  let fl := byteAt b (l4 + 13)
  let fl := if i + 1 = segCount f then fl else fl - b2n (bitAt fl 0) - 8 * b2n (bitAt fl 3)
  let fl := if i = 0 then fl else fl - 128 * b2n (bitAt fl 7)
  let b := putBe b (l4 + 13) 1 fl
  let b := segIpCsum f i (mL3 f.tx) b
  let b := putL4Csum b (mL3 f.tx) l4 false
  if mTunnel f.tx then
    let b := segIpCsum f i (mOuterL3 f.tx) b
    if mOuterL4 f.tx ≠ 0 ∧ be f.bytes (mOuterL4 f.tx + 6) 2 ≠ 0 then putL4Csum b (mOuterL3 f.tx) (mOuterL4 f.tx) true else b
  else b

/-- The frame with the checksums its descriptor asks for (R347); of a TSO send, its present segment. -/
def csumBytes (f : TxFrame) : Bytes :=
  if isTso f then segBytes f f.segment
  else
    let b := if mBit f.tx 2 then putIpCsum f.bytes (mL3 f.tx) else f.bytes
    if mBit f.tx 3 then putL4Csum b (mL3 f.tx) (mL4 f.tx) (mBit f.tx 4) else b

/-- EGRESS_UNTAG (R347). -/
def untag (s : State) (m : Nat) (b : Bytes) : Bytes :=
  let c := (reg s (r_MAC_TX_CTRL m)).toNat
  if bitAt c 2 ∧ be b 12 2 = 0x8100 ∧ be b 14 2 % 4096 = bits c 14 3 then b.take 12 ++ b.drop 16 else b

/-- PAD_EN (R347). -/
def pad60 (s : State) (m : Nat) (b : Bytes) : Bytes :=
  if bitAt (reg s (r_MAC_TX_CTRL m)).toNat 1 ∧ b.length < 60 then fit b 60 else b

/-- The redundancy control trailer of a PRP frame (R280, R283). -/
def putRct (f : TxFrame) (b : Bytes) : Bytes :=
  match f.prp with
  | some (lan, seq) =>
    b ++ toBe 2 (seq + f.segment) ++ toBe 2 (lan * 4096 + (b.length + 6 - (etherTypeOff b + 2)) % 4096) ++ toBe 2 0x88FB
  | none => b

/-- The frame as it leaves, without FCS; `edit` is the one-step insertion, made before a tag is removed. -/
def finishWith (s : State) (m : Nat) (f : TxFrame) (edit : Bytes → Bytes) : Bytes :=
  putRct f (pad60 s m (untag s m (edit (csumBytes f))))

/-- Length of the frame on the wire, FCS included. -/
def wireLen (s : State) (m : Nat) (f : TxFrame) : Nat := (finishWith s m f id).length + 4

/-! Stamps (R386, R392). -/

/-- Transmit or receive latency of a MAC's frame on a lane: `r` is 0 RX, 1 TX; in 1/256 ns. -/
def portLat (s : State) (m lane r : Nat) : Int :=
  let p := m / 8
  signed 32 (hwUse s (0x090 + 8 * p + 2 * (portGet s p).mode + r)) + signed 32 (hwUse s (0x0A0 + 16 * p + 2 * lane + r))

/-- The time value in units of 1/256 ns. -/
def fineNow (s : State) : Nat := (s.time.now.s.toNat * 1000000000 + s.time.now.ns.toNat) * 256 + s.time.now.frac.toNat / 2 ^ 48

/-- Transmit stamp of a frame whose start is on lane `lane`, not yet wrapped. -/
def txInstant (s : State) (m lane : Nat) : Nat := ((fineNow s : Int) + portLat s m lane 1).toNat

/-- Receive stamp (R386). -/
def rxStamp (s : State) (m lane : Nat) : Dword := BitVec.ofInt 64 ((fineNow s : Int) - portLat s m lane 0)

/-- correctionField plus `x`, at most its greatest value (R392). -/
def addCorrection (b : Bytes) (o : Nat) (x : Int) : Bytes :=
  putBe b (o + 8) 8 (unsigned 64 (min (signed 64 (be b (o + 8) 8) + x) (2 ^ 63 - 1)))

/-- One-step insertion into the PTP header at `o` (R392), with the update of a UDP checksum (R73, R74). -/
def oneStep (o : Nat) (t : Nat) (tReq : Dword) (b : Bytes) : Bytes :=
  let type := byteAt b o % 16
  let n :=
    if type = 0 then
      let c := addCorrection b o ((t % 256 : Nat) * 256)
      putBe (putBe c (o + 34) 6 (t / 256 / 1000000000 % 2 ^ 48)) (o + 40) 4 (t / 256 % 1000000000)
    else if type = 3 then
      putBe (addCorrection b o ((BitVec.ofNat 64 t - tReq).toInt * 256)) (o + 34) 10 0
    else b
  let et := be b (etherTypeOff b) 2
  if et = 0x0800 ∨ et = 0x86DD then
    putBe n (o - 2) 2 (udpCsumUpdateAll (be b (o - 2) 2) (slice b o 44) (slice n o 44))
  else n

/-- A one-step request is served by insertion (R392, R393). -/
def oneStepServed (f : TxFrame) : Bool :=
  let type := byteAt f.bytes f.ptpOff % 16
  f.stamp = 2 && !f.secured && (type = 0 || type = 3)

/-! Weir (R359 to R363). -/

def shaperGet (s : State) (i : Nat) : Shaper := mapGetD s.weir.shapers i {}

def shaperSet (s : State) (i : Nat) (x : Shaper) : State :=
  { s with weir := { s.weir with shapers := if x = {} then mapErase s.weir.shapers i else mapSet s.weir.shapers i x } }

/-- Number that stands for the list of unshaped frames in the tree (R360). -/
def unshaped : Nat := 65536

/-- Path of a leaf upward (R360). -/
def weirPathFrom (s : State) : Nat → Nat → List Nat
  | 0, _ => []
  | n + 1, i => i :: (match (shaperGet s i).parent with
    | some p => weirPathFrom s n p
    | none => [])

def weirPath (s : State) (leaf : Nat) : List Nat := if leaf = 0xFFFF then [unshaped] else weirPathFrom s 4 leaf

/-- Eligibility (R362). -/
def eligible (s : State) (path : List Nat) : Bool :=
  path.all (fun i => i = unshaped || (let x := shaperGet s i; !x.rateEn || decide (0 ≤ x.tokens)))

/-- The charge of a selected frame on its path (R70, R362). -/
def chargePath (s : State) (path : List Nat) (len : Nat) : State :=
  path.foldl (fun s i =>
    let x := shaperGet s i
    if i ≠ unshaped ∧ x.rateEn then shaperSet s i { x with tokens := bucketCharge x.tokens len x.overhead } else s) s

def nodePrio (s : State) (i : Nat) : Nat := if i = unshaped then 0 else (shaperGet s i).prio
def nodeQuantum (s : State) (i : Nat) : Nat := if i = unshaped then 1522 else (shaperGet s i).quantum

/-- A candidate of the descent: what is left of its path from level 3 down, its frame and its length. -/
structure Cand where
  path : List Nat
  frame : TxFrame
  len : Nat
  deriving DecidableEq, Repr

/-- Deficits and turns of a MAC (R363). -/
structure Drr where
  deficit : AMap Nat
  turn : AMap Nat
  deriving DecidableEq, Repr

def insertNat (x : Nat) : List Nat → List Nat
  | [] => [x]
  | y :: l => if x < y then x :: y :: l else if x = y then y :: l else y :: insertNat x l

/-- Deficit round robin over children (number, cost, quantum), each visit adding the quantum (R363); fuel bounds the visits. -/
def drrVisit : Nat → List (Nat × Nat × Nat) → Nat → AMap Nat → Option (Nat × AMap Nat)
  | 0, l, _, d => (l.head?).map (fun x => (x.1, d))
  | _ + 1, [], _, _ => none
  | n + 1, (ch, cost, q) :: rest, c, d =>
    let key := c * 131072 + ch
    let v := mapGetD d key 0 + q
    if cost ≤ v then some (ch, mapSet d key (v - cost)) else drrVisit n (rest ++ [(ch, cost, q)]) c (mapSet d key v)

/-- The child served next: the one served last while its deficit covers its frame, else the next in order of number. -/
def drrPick (c parent : Nat) (d : Drr) (l : List (Nat × Nat × Nat)) : Option (Nat × Drr) :=
  let turnKey := c * 131072 + parent
  let last := mapGet d.turn turnKey
  let go := fun (order : List (Nat × Nat × Nat)) =>
    (drrVisit (300 * order.length) order c d.deficit).map (fun r =>
      (r.1, ({ deficit := r.2, turn := mapSet d.turn turnKey r.1 } : Drr)))
  match last with
  | none => go l
  | some x =>
    match l.find? (fun e => e.1 = x && decide (e.2.1 ≤ mapGetD d.deficit (c * 131072 + x) 0)) with
    | some e => some (x, { d with deficit := mapSet d.deficit (c * 131072 + x) (mapGetD d.deficit (c * 131072 + x) 0 - e.2.1) })
    | none => go (l.filter (fun e => decide (x < e.1)) ++ l.filter (fun e => decide (e.1 ≤ x)))

/-- The descent of R363 below `parent`: the highest PRIO, then deficit round robin by frame length plus 20. -/
def descend (s : State) (c : Nat) : Nat → Nat → Drr → List Cand → Option (Cand × Drr)
  | 0, _, d, cs => (cs.head?).map (fun x => (x, d))
  | n + 1, parent, d, cs =>
    let children := cs.foldl (fun l x => match x.path with
      | i :: _ => insertNat i l
      | [] => l) []
    if children.isEmpty then (cs.head?).map (fun x => (x, d))
    else
      let top := (children.map (nodePrio s)).foldl max 0
      let subs := (children.filter (fun i => nodePrio s i = top)).filterMap (fun i =>
        (descend s c n i d ((cs.filter (fun x => x.path.head? = some i)).map (fun x => { x with path := x.path.tail }))).map
          (fun r => (i, r.1)))
      match drrPick c parent d (subs.map (fun x => (x.1, x.2.len + 20, nodeQuantum s x.1))) with
      | none => none
      | some (i, d) =>
        descend s c n i d ((cs.filter (fun x => x.path.head? = some i)).map (fun x => { x with path := x.path.tail }))

/-! Sluice (R365 to R370). -/

/-- Time in ns. -/
def absNs (s : State) : Nat := s.time.now.s.toNat * 1000000000 + s.time.now.ns.toNat

def gclEntry (l : Gcl) (i : Nat) : Nat × Nat × Nat := mapGetD l i (0, 0, 0)

/-- Effective runs of a cycle (R366): entry and length, the last one held to the cycle end and the list cut there. -/
def gclRuns (l : Gcl) (len cycle : Nat) : Nat → Nat → Nat → List (Nat × Nat)
  | 0, _, _ => []
  | n + 1, i, acc =>
    if cycle ≤ acc then []
    else if i + 1 = len then [(i, cycle - acc)]
    else
      let k := min (gclEntry l i).2.2 (cycle - acc)
      (i, k) :: gclRuns l len cycle n (i + 1) (acc + k)

/-- Entry at offset `off` of a cycle, and the offset at which it ends. -/
def runAt : List (Nat × Nat) → Nat → Nat → Nat × Nat
  | [], acc, _ => (0, acc)
  | [(i, k)], acc, _ => (i, acc + k)
  | (i, k) :: l, acc, off => if off < acc + k then (i, acc + k) else runAt l (acc + k) off

/-- A list in operation: entries, length, cycle and base. -/
structure Sched where
  list : Gcl
  len : Nat
  cycle : Nat
  base : Nat
  deriving DecidableEq, Repr

/-- Entry in force at `t`, the instant at which it ends, and the start of its cycle. -/
def schedAt (x : Sched) (t : Nat) : Nat × Nat × Int :=
  let off := (((t : Int) - x.base) % x.cycle).toNat
  let (i, e) := runAt (gclRuns x.list x.len x.cycle x.len 0 0) 0 off
  (i, t + (e - off), (t : Int) - off)

def operSched (x : MacState) : Sched :=
  { list := x.oper, len := x.operLen, cycle := x.operCycle, base := x.operBaseS * 1000000000 + x.operBaseNs }

def changeAt (c : GclCommit) : Nat := c.changeS * 1000000000 + c.changeNs

def newSched (c : GclCommit) : Sched := { list := c.list, len := c.len, cycle := c.cycle, base := changeAt c }

/-- Gate states while no list runs (R365). -/
def adminGates (s : State) (m : Nat) : Nat := regField s (r_SLC_CTRL m) 15 8

/-- Entry in force at `t` of the running list, and the instant at which it ends: a pending change cuts it, and a cycle that would start
less than EXT before the change is not started (R369). -/
def operAt (x : MacState) (t : Nat) : Nat × Nat :=
  let (i, e, start) := schedAt (operSched x) t
  match x.commit with
  | none => (i, e)
  | some c =>
    let ch := changeAt c
    if (ch : Int) < start + c.ext ∧ (c.since : Int) < start then
      ((runAt (gclRuns x.oper x.operLen x.operCycle x.operLen 0 0) 0 (x.operCycle - 1)).1, ch)
    else (i, min e ch)

/-- The gate of class `c` at `t`, and the instant up to which that state is known to hold (none: no end). -/
def gateAt (s : State) (m c t : Nat) : Bool × Option Nat :=
  let x := macGet s m
  let listGate := fun (l : Gcl) (i : Nat) => bitAt (gclEntry l i).1 c
  let always := fun (l : Gcl) (len cycle : Nat) => (gclRuns l len cycle len 0 0).all (fun r => listGate l r.1)
  let old : Bool × Option Nat :=
    if x.gateEn then
      if always x.oper x.operLen x.operCycle then (true, x.commit.map changeAt)
      else (listGate x.oper (operAt x t).1, some (operAt x t).2)
    else (bitAt (adminGates s m) c, x.commit.map changeAt)
  match x.commit with
  | none => old
  | some k =>
    if changeAt k ≤ t then
      if k.gateEn then
        if always k.list k.len k.cycle then (true, none)
        else
          let (i, e, _) := schedAt (newSched k) t
          (listGate k.list i, some e)
      else (bitAt (adminGates s m) c, none)
    else old

/-- The next instant, from `t` on, at which the gate of class `c` is closed; none when it never closes. -/
def nextClose (s : State) (m c : Nat) : Nat → Nat → Option Nat
  | 0, t => some t
  | n + 1, t =>
    match gateAt s m c t with
    | (false, _) => some t
    | (true, none) => none
    | (true, some e) => nextClose s m c n e

def closeFuel (s : State) (m : Nat) : Nat :=
  let x := macGet s m
  2 * (x.operLen + (match x.commit with
    | some c => c.len
    | none => 0)) + 8

/-- A transmission of `len` bytes that begins now ends at or before `close` (R367), at 2^-56 ns. -/
def fitsBefore (s : State) (m len close : Nat) : Bool :=
  let r := 100 * macRate s m
  decide ((absNs s * 2 ^ 56 + s.time.now.frac.toNat) * r + (len + 20) * 8 * 2 ^ 56 ≤ close * 2 ^ 56 * r)

/-- Whether the longest open run of the gate of class `c` is too short for a frame of `len` bytes (R368); a gate that never closes admits
every frame (notes/assumptions/50.md). -/
def neverFits (s : State) (m c len : Nat) : Bool :=
  let x := macGet s m
  let runs := gclRuns x.oper x.operLen x.operCycle x.operLen 0 0
  let best := (runs ++ runs).foldl (fun (a : Nat × Nat) r =>
    let run := if bitAt (gclEntry x.oper r.1).1 c then a.1 + r.2 else 0
    (run, max a.2 run)) (0, 0)
  let r := 100 * macRate s m
  x.gateEn && !(runs.all (fun r => bitAt (gclEntry x.oper r.1).1 c)) && decide (best.2 * r < (len + 20) * 8)

/-- OPER_GATES (R365, R377). -/
def operGates (s : State) (m : Nat) : Nat :=
  let x := macGet s m
  if x.gateEn then x.operGates.toNat else adminGates s m

/-- Preemption is active on a MAC (R371). -/
def preemptActive (x : MacState) : Bool := x.preemptEn && (x.verifyDis || decide (x.verifyState = 2))

/-- Class `c` is preemptable (R371). -/
def preemptable (x : MacState) (c : Nat) : Bool := x.preemptEn && x.preemptMask.getLsbD c

/-- Least bytes of a non-final fragment (R371). -/
def minFragment (x : MacState) : Nat := 64 * (1 + x.addFrag) - 4

/-- Answers of a class's gate to a frame (R367, R371). -/
inductive GateAnswer where
  | admits | late | closed
  deriving DecidableEq, Repr

def gateAnswer (s : State) (m c len : Nat) : GateAnswer :=
  let x := macGet s m
  if s.dev.base = .restricted then .admits
  else if !bitAt (operGates s m) c || (preemptable x c && x.hold) then .closed
  else
    let need := if preemptable x c && preemptActive x then min len (minFragment x) else len
    match nextClose s m c (closeFuel s m) (absNs s) with
    | none => .admits
    | some t => if fitsBefore s m need t then .admits else .late

/-- The gates take the states of an entry (R365, R366). -/
def takeEntry (s : State) (m i : Nat) : State :=
  let x := macGet s m
  let (g, op, _) := gclEntry x.oper i
  let s := macSet s m { x with entry := i, operGates := BitVec.ofNat 8 g,
                               hold := if op = 1 then true else if op = 2 then false else x.hold }
  trace s (17 + m) 6 0 0xFFF 0 (toLe 1 g ++ zeros 1 ++ toLe 2 i)

/-- Sluice after a step of the time value (R370). -/
def sluiceStep (s : State) : State :=
  (List.range 16).foldl (fun s m =>
    let x := macGet s m
    if macUsed s m && x.gateEn then
      let i := (operAt x (absNs s)).1
      let s := setBits (takeEntry s m i) (r_SLC_STATUS m) (BitVec.ofNat 32 4096)
      eventToManager s 0x8621 (toLe 1 m ++ toLe 2 i ++ zeros 1)
    else s) s

/-! Lists of a MAC (R360). -/

/-- Head frames of the lists of class `c`. -/
def heads (q : List TxFrame) (c : Nat) : List TxFrame :=
  q.foldl (fun l f => if f.cls = c && !l.any (fun g => g.leaf = f.leaf) then l ++ [f] else l) []

/-- Changes, or with none removes, the head frame of a list. -/
def headMod (q : List TxFrame) (c leaf : Nat) (g : TxFrame → Option TxFrame) : List TxFrame :=
  match q with
  | [] => []
  | f :: l => if f.cls = c ∧ f.leaf = leaf then (g f).toList ++ l else f :: headMod l c leaf g

/-- The head of a list is gone from it: the next segment of a TSO send takes its place (R349). -/
def headAdvance (q : List TxFrame) (f : TxFrame) : List TxFrame :=
  headMod q f.cls f.leaf (fun f => if f.segment + 1 < segCount f then some { f with segment := f.segment + 1, deferred := false } else none)

/-- The first status of the packet that a frame came from (R478). -/
def markStatus (s : State) (o : Option TxOrigin) (status : Nat) : State :=
  match o with
  | some o => txMod s o (fun x => { x with status := if x.status.isSome then x.status else some status })
  | none => s

/-- The head of a list is dropped (R368, R398). -/
def headDrop (s : State) (m : Nat) (f : TxFrame) : State :=
  let s := macMod s m (fun x => { x with queue := headAdvance x.queue f })
  if f.segment + 1 < segCount f then markStatus s f.origin 1 else letGo s f.fid f.origin (some 1)

/-- Drops heads that the actor gate stops or that can never be started; fuel bounds their number. -/
def purgeHeads (m : Nat) : Nat → State → State
  | 0, s => s
  | n + 1, s =>
    let hs := (List.range 8).flatMap (heads (macGet s m).queue)
    match hs.find? (ptpGated s) with
    | some f => purgeHeads m n (bump (headDrop s m f) r_ITW_CNT_GATED)
    | none =>
      match hs.find? (fun f => s.dev.base ≠ .restricted && !(preemptable (macGet s m) f.cls && preemptActive (macGet s m)) &&
          neverFits s m f.cls (wireLen s m f)) with
      | some f => purgeHeads m n (bump64 (headDrop s m f) (r_MAC_TX_GATE_DROP m) 1)
      | none => s

/-- The accepted packet `u` has destinations left. -/
def liveUid (s : State) (u : Nat) : Bool := s.rings.qps.any (fun q => q.2.packets.any (fun x => x.uid = u && decide (0 < x.left)))

/-- Storage commit ordering (R329): a send under it leaves after the sends consumed before it. -/
def commitFree (s : State) (f : TxFrame) : Bool :=
  match f.origin with
  | some o => !s.nvt.order.contains o.uid || !(s.nvt.order.takeWhile (fun u => u ≠ o.uid)).any (liveUid s)
  | none => true

/-! Release into a MAC (R338, R360, R471). -/

/-- PRP pair of a MAC: its number, the MAC of LAN A and that of LAN B (R279). -/
def prpPair (s : State) (m : Nat) : Option (Nat × Nat × Nat) :=
  (List.range 8).findSome? (fun i =>
    let w := (reg s (r_DVT_PRP_PAIR i)).toNat
    let a := bits w 3 0
    let b := bits w 7 4
    if bitAt w 8 ∧ (m = a ∨ m = b) then some (i, a, b) else none)

/-- A TSO send breaks a limit found at the MAC (R348, R471). -/
def tsoBad (s : State) (m : Nat) (f : TxFrame) : Bool :=
  let fl := byteAt f.bytes (mL4 f.tx + 13)
  decide (maxFrame s m < mHdrLen f.tx + mMss f.tx + 4) || bitAt fl 1 || bitAt fl 2 || bitAt fl 5

/-- One MAC takes a released frame, or drops it. -/
def macTake (s : State) (m : Nat) (f : TxFrame) : State :=
  if !macUsed s m then letGo (bump s (r_MAC_TX_NO_MAC (m / 8 % 2))) f.fid f.origin (some 1)
  else if isTso f then
    if tsoBad s m f then
      let s := letGo s f.fid f.origin (some 5)
      match f.origin with
      | some o => halt s o.ep (o.key % 8192) 0x18 0 o.index
      | none => s
    else
      let s := if f.stamp = 0 then s else bump s (r_TIME_CNT_TS_IGNORED m)
      macMod s m (fun x => { x with queue := x.queue ++ [{ f with stamp := 0 }] })
  else if maxFrame s m < f.bytes.length + 4 then letGo s f.fid f.origin (some 1)
  else macMod s m (fun x => { x with queue := x.queue ++ [f] })

/-- A frame released to a MAC (R262, R283): to either MAC of an enabled PRP pair it is sent on both, but for PTP messages. The frame holds
its storage once. -/
def macRelease (s : State) (m : Nat) (f : TxFrame) : State :=
  match (if (ptpOffset f.bytes).isSome then none else prpPair s m) with
  | none => macTake s m f
  | some (i, a, b) =>
    let seq := (mapGetD s.prp.txSeq i 0).toNat
    let s := { s with prp := { s.prp with txSeq := mapSet s.prp.txSeq i (BitVec.ofNat 16 (seq + segCount f)) } }
    let s := hold s f.fid 1 f.origin
    let s := macTake s a { f with prp := some (0xA, seq), main := f.main && decide (a = m) }
    macTake s b { f with prp := some (0xB, seq), main := f.main && decide (b = m) }

end Sys2Proof.Machine
end

