-- ==== Sys2Proof/Machine/Nvt.lean ====
section
/-! DEFINITION. NVMe/TCP: contexts and their commands (R324, R328, R334), receive digests and placement (R325, R326), transmit digests
(R327), storage commit ordering (R329) and the chain walkers (R330 to R332). -/

namespace Sys2Proof.Machine

open Sys2Proof

/-! Fields of a context (R324); `c` is the 64-byte record. -/

def ctxGet (s : State) (i : Nat) : Bytes := mapGetD s.nvt.ctxs i (zeros 64)
def ctxSet (s : State) (i : Nat) (c : Bytes) : State := { s with nvt := { s.nvt with ctxs := mapSet s.nvt.ctxs i c } }
def ctxFlag (c : Bytes) (i : Nat) : Bool := bitAt (byteAt c 0) i
def ctxQueue (c : Bytes) : Nat := le c 2 2
def ctxSlice (c : Bytes) : Nat := bits (le c 4 2) 11 0
def ctxPlaces (c : Bytes) : Nat := le c 6 2
def ctxNext (c : Bytes) : Nat := le c 8 4
def ctxState (c : Bytes) : Nat := byteAt c 12
def ctxChain (c : Bytes) : Nat := le c 24 8

/-- Owner of a context as endpoint and function. -/
def ctxOwner (c : Bytes) : Nat × Nat := funcOfSlice (ctxSlice c)

/-- Key of a placement entry (R325). -/
def placeKey (i : Nat) (c : Bytes) (cid : Nat) : Nat := i * 4096 + cid % max 1 (ctxPlaces c)

/-! PDUs (R325, R333; the NVMe/TCP transport specification). -/

/-- Header length that a PDU type has; none for a type that is not listed. -/
def pduHlen (t : Nat) : Option Nat :=
  if t = 0 ∨ t = 1 then some 128
  else if t = 4 then some 72
  else if t = 2 ∨ t = 3 ∨ t = 5 ∨ t = 6 ∨ t = 7 ∨ t = 9 then some 24
  else none

/-- Bytes of header digest, and of data digest, that a PDU carries under a context. -/
def pduHd (c r : Bytes) : Nat := if ctxFlag c 1 && bitAt (byteAt r 1) 0 then 4 else 0
def pduDd (c r : Bytes) : Nat := if ctxFlag c 2 && bitAt (byteAt r 1) 1 && decide (0 < byteAt r 3) then 4 else 0
def pduLen (r : Bytes) : Nat := le r 4 4
def pduData (r : Bytes) : Nat := byteAt r 3

/-- The common header is well formed (R328, R333). -/
def pduOk (c r : Bytes) : Bool :=
  match pduHlen (byteAt r 0) with
  | none => false
  | some h =>
    decide (byteAt r 2 = h) && decide (h + pduHd c r + pduDd c r ≤ pduLen r) &&
      (decide (pduData r = 0) || decide (h + pduHd c r ≤ pduData r ∧ pduData r + pduDd c r ≤ pduLen r))

/-- CRC-32C as the 4 bytes of a digest (R76). -/
def digest4 (b : Bytes) : Bytes := toLe 4 (crc32c b).toNat

/-- Digests of whole PDUs filled (R327); bytes after the last whole PDU stay. Fuel bounds the PDUs. -/
def pduFill (c : Bytes) : Nat → Bytes → Bytes
  | 0, b => b
  | n + 1, b =>
    if b.length < 8 ∨ pduLen b < 8 ∨ b.length < pduLen b then b
    else
      let p := b.take (pduLen b)
      let p := if pduHd c p = 4 then splice p (byteAt p 2) (digest4 (p.take (byteAt p 2))) else p
      let p := if pduDd c p = 4 then splice p (p.length - 4) (digest4 ((p.take (p.length - 4)).drop (pduData p))) else p
      p ++ pduFill c n (b.drop (pduLen b))

/-- A send's frame with its digests (R327): the descriptor names a context of the slice with TX_DIGEST 1. -/
def nvtFill (s : State) (m : TxMeta) (f : Bytes) : Bytes :=
  if m.isEmpty || decide (bits (le m 0 4) 9 8 ≠ 2) then f
  else
    let c := ctxGet s (bits (le m 12 4) 16 0)
    if ctxFlag c 0 && ctxFlag c 4 then
      let o := sendPayload m f
      f.take o ++ pduFill c (f.length + 1) (f.drop o)
    else f

/-- A send under storage commit ordering (R329). -/
def commitOrdered (s : State) (m : TxMeta) : Bool :=
  !m.isEmpty && decide (bits (le m 0 4) 9 8 = 2) && (let c := ctxGet s (bits (le m 12 4) 16 0); ctxFlag c 0 && ctxFlag c 5)

/-! Placement (R325, R326). -/

/-- Writes `d` at offset `off` of a buffer given by its segments. -/
def placeBytes (s : State) (ep f : Nat) (pasid : Option Nat) : Placement → Nat → Bytes → State
  | [], _, _ => s
  | (a, n) :: rest, off, d =>
    if d.isEmpty then s
    else if n ≤ off then placeBytes s ep f pasid rest (off - n) d
    else placeBytes (dmaWrite s ep f pasid true (a + off) (d.take (n - off))) ep f pasid rest 0 (d.drop (n - off))

def placementLen (p : Placement) : Nat := (p.map (fun x => x.2)).sum

/-- Frees the buffer of a command (R326). -/
def placeFree (s : State) (i : Nat) (c : Bytes) (cid : Nat) : State :=
  { s with nvt := { s.nvt with places := mapErase s.nvt.places (placeKey i c cid) } }

/-- A context enters RESYNC (R328): counted, and reported once. -/
def nvtResync (s : State) (ep i : Nat) (seq cause : Nat) : State :=
  let c := ctxGet s i
  let s := bump (ctxSet s i (putLe c 12 1 2)) (r_NVT_CNT_RESYNC ep)
  let s := { s with nvt := { s.nvt with partialPdu := mapErase s.nvt.partialPdu i } }
  if s.nvt.resyncSent.contains i then s
  else
    let (e, f) := ctxOwner c
    eventToFunc { s with nvt := { s.nvt with resyncSent := s.nvt.resyncSent ++ [i] } } e f 0x8830
      (toLe 4 i ++ toLe 4 seq ++ toLe 1 cause ++ zeros 3)

/-- A walk through a segment: the PDU's bytes so far, and what the completion entry will say; `stop` is the cause of a RESYNC. -/
structure NvtRun where
  st : State
  part : Bytes
  hdBad : Bool := false
  ddBad : Bool := false
  placed : Bool := false
  stop : Option Nat := none

/-- Header work of a PDU whose header (and its digest) becomes complete: `x` is what had arrived before, `r` what has now. -/
def nvtHeader (ep i : Nat) (c : Bytes) (t : NvtRun) (x : Nat) (r : Bytes) : NvtRun :=
  let h := byteAt r 2 + pduHd c r
  if h ≤ x ∨ r.length < h then t
  else if pduHd c r = 4 ∧ digest4 (r.take (byteAt r 2)) ≠ slice r (byteAt r 2) 4 then
    { t with st := bump t.st (r_NVT_CNT_HDGST_BAD ep), hdBad := true, stop := some 1 }
  else if byteAt r 0 = 7 ∧ ctxFlag c 3 then
    match mapGet t.st.nvt.places (placeKey i c (le r 8 2)) with
    | some p => if placementLen p < le r 12 4 + le r 16 4 then { t with st := bump t.st (r_NVT_CNT_PLACE_MISS ep) } else t
    | none => { t with st := bump t.st (r_NVT_CNT_PLACE_MISS ep) }
  else t

/-- Places the bytes of a C2HData PDU that have arrived since `x` (R325). -/
def nvtPlace (ep fn i : Nat) (pasid : Option Nat) (c : Bytes) (t : NvtRun) (x : Nat) (r : Bytes) : NvtRun :=
  if byteAt r 0 ≠ 7 ∨ ¬ ctxFlag c 3 ∨ t.stop.isSome ∨ r.length < 24 then t
  else match mapGet t.st.nvt.places (placeKey i c (le r 8 2)) with
    | none => t
    | some p =>
      let lo := max x (pduData r)
      let hi := min r.length (pduData r + le r 16 4)
      if placementLen p < le r 12 4 + le r 16 4 ∨ hi ≤ lo then t
      else
        let s := placeBytes t.st ep fn pasid p (le r 12 4 + (lo - pduData r)) ((r.take hi).drop lo)
        { t with st := bump64 s (r_NVT_PLACED_BYTES ep) (hi - lo), placed := true }

/-- The end of a whole PDU: its data digest, and the placement entry it frees (R325, R326). -/
def nvtEnd (ep i : Nat) (c : Bytes) (t : NvtRun) (r : Bytes) : NvtRun :=
  let t := if pduDd c r = 4 ∧ digest4 ((r.take (r.length - 4)).drop (pduData r)) ≠ slice r (r.length - 4) 4 then
      { t with st := bump t.st (r_NVT_CNT_DDGST_BAD ep), ddBad := true }
    else t
  if byteAt r 0 = 5 then { t with st := placeFree t.st i c (le r 20 2) }
  else if byteAt r 0 = 7 ∧ bitAt (byteAt r 1) 2 ∧ bitAt (byteAt r 1) 3 then { t with st := placeFree t.st i c (le r 8 2) }
  else t

/-- Walks the payload `b` of a segment (R325); fuel bounds the PDUs. -/
def nvtWalk (ep fn i : Nat) (pasid : Option Nat) (c : Bytes) : Nat → NvtRun → Bytes → NvtRun
  | 0, t, _ => t
  | fuel + 1, t, b =>
    if b.isEmpty ∨ t.stop.isSome then t
    else
      let x := t.part.length
      let all := t.part ++ b
      if all.length < 8 then { t with part := all }
      else if !pduOk c all then { t with st := bump t.st (r_NVT_CNT_PDU_BAD ep), stop := some 2 }
      else
        let r := all.take (pduLen all)
        let t := nvtPlace ep fn i pasid c (nvtHeader ep i c t x r) x r
        if t.stop.isSome then t
        else if all.length < pduLen all then { t with part := all }
        else nvtWalk ep fn i pasid c fuel { nvtEnd ep i c t r with part := [] } (all.drop (pduLen all))

/-- The context that a delivered segment matches (R325): slice, queue and 4-tuple. -/
def nvtMatch (s : State) (slice_ queue : Nat) (f : Bytes) : Option Nat :=
  match tcpShape f with
  | none => none
  | some (l4, _, _) =>
    let o := etherTypeOff f + 2
    let v6 := decide (byteAt f o / 16 = 6)
    let src := if v6 then slice f (o + 8) 16 else slice f (o + 12) 4
    let dst := if v6 then slice f (o + 24) 16 else slice f (o + 16) 4
    (s.nvt.ctxs.find? (fun x =>
      let c := x.2
      ctxFlag c 0 && decide (ctxSlice c = slice_ ∧ ctxQueue c = queue ∧ byteAt c 13 = b2n v6 ∧ le c 14 2 = be f (l4 + 2) 2 ∧
        le c 16 2 = be f l4 2) &&
        decide (dst = slice c (if v6 then 32 else 44) dst.length) && decide (src = slice c (if v6 then 48 else 60) src.length))).map (fun x => x.1)

/-- NVMe/TCP processing of a delivered segment (R325 to R328): HDGST_BAD, DDGST_BAD and NVT_PLACED of its completion entry. -/
def nvtReceive (s : State) (slice_ queue : Nat) (pasid : Option Nat) (f : Bytes) : State × Bool × Bool × Bool :=
  match nvtMatch s slice_ queue f, tcpShape f with
  | some i, some (l4, pay, e) =>
    let (ep, fn) := funcOfSlice slice_
    let seq := be f (l4 + 4) 4
    let body := (f.take e).drop pay
    let c := ctxGet s i
    if body.isEmpty then (s, false, false, false)
    else if ctxState c = 1 ∧ ctxNext c ≠ seq then (nvtResync s ep i seq 0, false, false, false)
    else
      let resumed := decide (ctxState c = 2) && decide ((mapGet s.nvt.resume i).map BitVec.toNat = some seq)
      if ctxState c = 1 ∨ resumed then
        let part := if resumed then [] else mapGetD s.nvt.partialPdu i []
        let c := putLe (putLe c 8 4 (seq + body.length)) 12 1 1
        let s := ctxSet s i c
        let s := if resumed then { s with nvt := { s.nvt with resume := mapErase s.nvt.resume i } } else s
        let t := nvtWalk ep fn i pasid c (body.length + 1) { st := s, part := part } body
        let s := { t.st with nvt := { t.st.nvt with partialPdu := mapSet t.st.nvt.partialPdu i t.part } }
        match t.stop with
        | some cause => (nvtResync s ep i seq cause, t.hdBad, t.ddBad, t.placed)
        | none => (s, t.hdBad, t.ddBad, t.placed)
      else (s, false, false, false)
  | _, _ => (s, false, false, false)

/-! Chain walkers (R330 to R332). -/

def walkGet (s : State) (i : Nat) : Walker := mapGetD s.nvt.walkers i {}
def walkSet (s : State) (i : Nat) (w : Walker) : State := { s with nvt := { s.nvt with walkers := mapSet s.nvt.walkers i w } }

/-- PASID of the context's queue pair. -/
def ctxPasid (s : State) (c : Bytes) : Option Nat :=
  let (ep, f) := ctxOwner c
  match globalQp s ep f (ctxQueue c) with
  | some g => (qpGet s ep g).pasid
  | none => none

/-- A walker issues the read it wants, once it can: a block, or a LINK. -/
def walkIssue (s : State) (i : Nat) : State :=
  let c := ctxGet s i
  let w := walkGet s i
  let (ep, f) := ctxOwner c
  match w.phase with
  | .wantBlock =>
    match issueRead s ep f (ctxPasid s c) w.block 64 i 3 with
    | some (_, s) => walkSet s i { w with phase := .block }
    | none => s
  | .wantLink again =>
    match issueRead s ep f (ctxPasid s c) (w.block + 56) 8 i 4 with
    | some (_, s) => walkSet s i { w with phase := .link again }
    | none => s
  | _ => s

/-- The walkers of an endpoint issue what waited. -/
def walkPump (s : State) (ep : Nat) : State :=
  s.nvt.walkers.foldl (fun s w => if w.1 / 65536 = ep then walkIssue s w.1 else s) s

/-- A malformed block or a failed fetch (R332, R333). The error log's code of it is not stated (notes/assumptions/58.md). -/
def chainError (s : State) (i : Nat) : State :=
  let c := ctxGet s i
  let w := walkGet s i
  let (ep, f) := ctxOwner c
  let s := bump (walkSet (ctxSet s i (putLe c 12 1 3)) i { w with phase := .stopped, doorbell := false }) (r_NVT_CNT_CHAIN_BAD ep)
  let s := errlogGen (drawn s) (Config.freeNat s.fresh % 65536) ep (errFunc ep f) (fnGet s ep f).gen 0 (toLe 4 i)
  eventToFunc s ep f 0x8831 (toLe 4 i ++ toLe 8 w.block)

/-- A reserved field of a block is not 0, or NSEG is out of range (R330, R332). -/
def blockBad (b : Bytes) (cid : Option Nat) : Bool :=
  decide (byteAt b 2 = 0 ∨ 3 < byteAt b 2 ∨ byteAt b 3 / 2 ≠ 0 ∨ le b 4 4 ≠ 0 ∨ le b 20 4 ≠ 0 ∨ le b 36 4 ≠ 0 ∨ le b 52 4 ≠ 0) ||
    decide (bits (le b 56 8) 5 1 ≠ 0) || (bitAt (byteAt b 3) 0 && cid.isNone)

/-- Segments of a block (R330). -/
def blockSegs (b : Bytes) : Placement := (List.range (byteAt b 2)).map (fun j => (le b (8 + 16 * j) 8, le b (16 + 16 * j) 4))

/-- A LINK has been read: the next block, the re-read 256 ns later, or the end of the walk (R331). -/
def followLink (s : State) (i link : Nat) (again : Bool) : State :=
  let w := walkGet s i
  if !bitAt link 0 then walkIssue (walkSet s i { w with block := link / 64 * 64, phase := .wantBlock }) i
  else if !again then walkSet s i { w with phase := .wait }
  else if w.doorbell then walkSet s i { w with phase := .wait, doorbell := false }
  else walkSet s i { w with phase := .stopped }

/-- A block takes effect (R330): the buffer of its CID, or more of the buffer before it. -/
def takeBlock (s : State) (i : Nat) (b : Bytes) : State :=
  let c := ctxGet s i
  let w := walkGet s i
  let cont := bitAt (byteAt b 3) 0
  let cid := if cont then w.cid.getD 0 else le b 0 2
  let key := placeKey i c cid
  let old := if cont then mapGetD s.nvt.places key [] else []
  let s := { s with nvt := { s.nvt with places := mapSet s.nvt.places key (old ++ blockSegs b) } }
  walkSet s i { w with cid := some cid }

/-- CHAIN_BLOCK_READ (R330 to R332): the data of the walker's read have arrived, and it follows LINK. -/
def execChainBlockRead (ep ctx : Nat) (s : State) : Host.Outcome State Fault Refusal :=
  let w := walkGet s ctx
  match (epGet s ep).reads.find? (fun r => r.queue = ctx && (r.purpose = 3 || r.purpose = 4) && !r.quarantined && r.data.isSome) with
  | none => done s
  | some r =>
    let s := epMod s ep (fun e => { e with reads := e.reads.filter (fun x => x.tag ≠ r.tag) })
    let d := r.data.getD []
    match w.phase with
    | .block =>
      if blockBad d w.cid then done (chainError s ctx) else done (followLink (takeBlock s ctx d) ctx (le d 56 8) false)
    | .link again => if bits (le d 0 8) 5 1 ≠ 0 then done (chainError s ctx) else done (followLink s ctx (le d 0 8) again)
    | _ => done s

/-- CHAIN_REREAD (R331): 256 ns after END the walker reads the LINK again. -/
def execChainReread (ctx : Nat) (s : State) : Host.Outcome State Fault Refusal :=
  let w := walkGet s ctx
  if w.phase = .wait then done (walkIssue (walkSet s ctx { w with phase := .wantLink true }) ctx) else done s

/-- A doorbell that is discarded (R425, R452, R466). -/
def dbBad (s : State) (ep f : Nat) : State := countBoth s ep f r_HIF_CNT_DB_BAD r_HIF_VF_CNT_DB_BAD

/-- HIF_VF_DB_CHAIN (R331, R459): a stopped walker resumes from the last block's LINK; a running one re-reads once more. -/
def execHifVfDbChain (ep f : Nat) (context : Word) (full : Bool) (s : State) : Host.Outcome State Fault Refusal :=
  let i := bits context.toNat 16 0
  let c := ctxGet s i
  let w := walkGet s i
  if !barOpen s ep f then done s
  else match boundSlice s ep f with
    | none => done (dbBad s ep f)
    | some x =>
      if !full then done (bump s (r_HIF_CNT_DB_BAD ep))
      else if i < x.nvtBase ∨ x.nvtBase + x.nvtCount ≤ i ∨ ¬ ctxFlag c 0 ∨ ctxState c = 3 then done (dbBad s ep f)
      else if w.phase = .stopped then done (walkIssue (walkSet s i { w with phase := .wantLink false }) i)
      else done (walkSet s i { w with doorbell := true })

/-! Commands (R334). -/

/-- The index lies in the context range of a slice. -/
def nvtOwned (s : State) (n i : Nat) : Bool :=
  match sliceGet s n with
  | some x => decide (x.nvtBase ≤ i ∧ i < x.nvtBase + x.nvtCount)
  | none => false

/-- The sender may act on context `i`. -/
def nvtMay (s : State) (ch i : Nat) : Bool :=
  match senderSlice s ch with
  | some n => nvtOwned s n i
  | none => true

/-- PLACE_COUNT is a power of two from 16 to 4,096 (R324). -/
def placeCountOk (n : Nat) : Bool := [16, 32, 64, 128, 256, 512, 1024, 2048, 4096].contains n

/-- Ranges of the fields of a context (R324). -/
def ctxOk (s : State) (c : Bytes) : Bool :=
  let q := match sliceGet s (ctxSlice c) with
    | some x => decide (ctxQueue c < x.qpCount)
    | none => false
  !ctxFlag c 0 || (decide (byteAt c 1 ≤ 31) && decide (byteAt c 13 ≤ 1) && placeCountOk (ctxPlaces c) && decide (ctxChain c % 64 = 0) && q)

/-- NVT_CONTEXT_SET (R324, R332, R334): the context waits for NVT_RESYNC to name a PDU start, and its walker reads CHAIN. -/
def execNvtContextSet (ch seq : Nat) (s : State) : Host.Outcome State Fault Refusal :=
  command s ch seq 0x0830 (fun req =>
    let i := bits (le req 0 4) 16 0
    let c := slice req 8 64
    if !saMay s ch (ctxSlice c) then answer s ch seq rcNotPermitted []
    else if !nvtOwned s (ctxSlice c) i then answer s ch seq rcNoResource []
    else if !ctxOk s c then answer s ch seq rcBadParam []
    else
      let c := splice (putLe (putLe (putLe (putLe c 0 1 (byteAt c 0 % 64)) 4 2 (ctxSlice c)) 8 4 0) 12 1 (if ctxFlag c 0 then 2 else 0)) 18 (zeros 6)
      let n := s.nvt
      let s := { s with nvt := { n with
        ctxs := mapSet n.ctxs i c, places := n.places.filter (fun p => p.1 / 4096 ≠ i), resume := mapErase n.resume i,
        resyncSent := n.resyncSent.filter (fun x => x ≠ i), partialPdu := mapErase n.partialPdu i,
        byDriver := (n.byDriver.filter (fun x => x ≠ i)) ++ (if 8 ≤ ch ∧ ch < 2056 then [i] else []),
        walkers := mapSet n.walkers i { block := ctxChain c, phase := if ctxFlag c 0 && ctxFlag c 3 then .wantBlock else .stopped } } }
      let (ep, _) := ctxOwner c
      let s := epMod s ep (fun e => { e with reads := e.reads.map (fun r =>
        if r.queue = i ∧ (r.purpose = 3 ∨ r.purpose = 4) then { r with purpose := 9 } else r) })
      answer (walkIssue s i) ch seq rcOk [])

/-- NVT_CONTEXT_READ (R334). -/
def execNvtContextRead (ch seq : Nat) (s : State) : Host.Outcome State Fault Refusal :=
  command s ch seq 0x0831 (fun req =>
    let i := bits (le req 0 4) 16 0
    if !nvtMay s ch i then answer s ch seq rcNotPermitted [] else answer s ch seq rcOk (toLe 4 i ++ zeros 4 ++ ctxGet s i))

/-- NVT_RESYNC (R328, R334). -/
def execNvtResync (ch seq : Nat) (s : State) : Host.Outcome State Fault Refusal :=
  command s ch seq 0x0832 (fun req =>
    let i := bits (le req 0 4) 16 0
    if !nvtMay s ch i then answer s ch seq rcNotPermitted []
    else if !ctxFlag (ctxGet s i) 0 then answer s ch seq rcBadParam []
    else answer { s with nvt := { s.nvt with resume := mapSet s.nvt.resume i (BitVec.ofNat 32 (le req 4 4)),
                                             resyncSent := s.nvt.resyncSent.filter (fun x => x ≠ i) } } ch seq rcOk [])

end Sys2Proof.Machine
end

