-- ==== Sys2Proof/Machine/Dovetail.lean ====
section
/-! DEFINITION. The exit order stage (R259 to R261), the Dovetail points (R262 to R268), the rails' self-checks and restoration (R269 to
R273), and the Twin and PRP commands (R298). -/

namespace Sys2Proof.Machine

open Sys2Proof

/-! Destinations of a verdict (R197, R261, R676). -/

/-- A copy to be handed on: its destination, its bytes, its META descriptor, and whether the verdict FWD_PORT sends it. -/
structure Leg where
  dest : Sum (Nat × Nat) (Nat × Nat × Nat)
  bytes : Bytes
  tx : TxMeta
  main : Bool
  deriving DecidableEq, Repr

/-- Egress traffic class (R345). -/
def egressClass (k : Pkt) : Nat := k.pass.tc.getD k.inTc

/-- The destination that a DEST word names (R164, R676); none for a slice that takes no copy. -/
def destOf (s : State) (k : Pkt) (w : Nat) : Option (Sum (Nat × Nat) (Nat × Nat × Nat)) :=
  if bitAt w 4 then
    let n := bits w 16 5
    match sliceGet s n with
    | some x => if x.qpCount = 0 then none else some (.inr ((funcOfSlice n).1, n, k.hdr.flowHash.toNat % x.qpCount))
    | none => none
  else some (.inl (bits w 3 0, egressClass k))

/-- A member of a flood list is the ingress source of the packet (R197). -/
def isIngress (k : Pkt) (w : Nat) : Bool :=
  if k.hdr.source ≤ 15 then !bitAt w 4 && decide (bits w 3 0 = k.hdr.source)
  else if k.hdr.source ≤ 17 then bitAt w 4 && decide (bits w 16 5 = k.hdr.slice)
  else false

/-- Members of a flood list that take a copy of the packet. -/
def floodMembers (s : State) (k : Pkt) (bd : Nat) : List Nat :=
  ((mapGetD s.cst.flood bd []).map BitVec.toNat).filter (fun w => !isIngress k w)

/-- DEST words a verdict and its mirrors deliver to, with the bytes of each copy. -/
def destWords (s : State) (k : Pkt) (v : Verdict) : List (Nat × Bytes × TxMeta) :=
  (match v with
   | .flood bd => (floodMembers s k bd).map (fun w => (w, k.frame, k.tx))
   | _ => []) ++ k.mirrors.map (fun m => (m.1.toNat, m.2.1, m.2.2))

/-- The copies of a verdict. -/
def legsOf (s : State) (k : Pkt) (v : Verdict) : List Leg :=
  (match v with
   | .fwdPort m => [{ dest := .inl (m, egressClass k), bytes := k.frame, tx := k.tx, main := true }]
   | .fwdHost n q => [{ dest := .inr ((funcOfSlice n).1, n, q), bytes := k.frame, tx := k.tx, main := false }]
   | _ => []) ++
  (destWords s k v).filterMap (fun w => (destOf s k w.1).map (fun d => { dest := d, bytes := w.2.1, tx := w.2.2, main := false }))

/-- Copies that no slice takes (R676). -/
def lostLegs (s : State) (k : Pkt) (v : Verdict) : Nat := ((destWords s k v).filter (fun w => (destOf s k w.1).isNone)).length

/-- Dovetail island of a destination: 0 and 1 host islands E0 and E1, 2 and 3 MAC transmit islands M2 and M3 (R262). -/
def destIsland : Sum (Nat × Nat) (Nat × Nat × Nat) → Nat
  | .inl (m, _) => 2 + m / 8
  | .inr (ep, _, _) => ep

/-- Key of a Dovetail point: MAC and class, or endpoint and global queue pair (R262). -/
def destPoint (s : State) : Sum (Nat × Nat) (Nat × Nat × Nat) → Nat
  | .inl (m, c) => 8 * m + c
  | .inr (ep, n, q) => 65536 + 8192 * ep + (match sliceGet s n with
    | some x => x.qpBase
    | none => 0) + q

/-- Digest of a copy (R266). -/
def copyDigest (k : Pkt) (point : Nat) (l : Leg) : Word :=
  crc32c (toLe 4 (Config.pointNumber point) ++ toLe 2 l.bytes.length ++ toLe 1 (egressClass k) ++ toLe 1 (Config.offloadFlags l.tx) ++
    toLe 4 (k.saUsed.getD 0xFFFFFFFF) ++ zeros 4 ++ l.bytes.take 128)

/-- A copy is put on its channel (R261). -/
def sendLeg (p : Nat) (k : Pkt) (s : State) (l : Leg) : State :=
  let x := destPoint s l.dest
  let a : Arrival := { point := x, dest := l.dest, pid := p, pkt := { k with frame := l.bytes, tx := l.tx }, main := l.main,
                       rail := railOf k.hdr.pipeline, digest := copyDigest k x l }
  let d := destIsland l.dest
  dovSet s d { dovGet s d with arrivals := (dovGet s d).arrivals ++ [a] }

/-- The stage may hand the packet on (R259, R260): it is first in its order ring, or gave its place up. -/
def mayHandOn (s : State) (p : Nat) (k : Pkt) : Bool :=
  k.parked || decide ((mapGetD s.twin.rings (ringOf k) []).head? = some p)

/-- A packet is handed on to its Dovetail points, or dropped when it has none (R259, R261, R676). -/
def handOn (s : State) (p : Nat) (k : Pkt) (v : Verdict) : State :=
  let legs := legsOf s k v
  let lost := lostLegs s k v
  let s := bumpBy s (r_CST_ACT_CNT_MIRROR_DROP k.hdr.pipeline) lost
  let s := if lost = 0 then s else markStatus s k.origin 1
  match legs with
  | [] => dropPkt s p 1
  | _ :: rest =>
    let s := hold s k.fid rest.length k.origin
    let s := if v = .drop then markStatus s k.origin 1 else s
    let s := pktSet (ringLeave s p k) p { k with stage := .handed, legs := legs.length }
    legs.foldl (sendLeg p k) s

/-- EXIT_ORDER_HANDOFF (R259 to R261). -/
def execExitOrderHandoff (p : Nat) (s : State) : Host.Outcome State Fault Refusal :=
  match pktGet s p with
  | none => done s
  | some k =>
    match k.verdict with
    | none => done s
    | some v => if k.stage = .exitOrder ∧ mayHandOn s p k then done (handOn s p k v) else done s

/-! Release and discard (R262). -/

/-- A copy has been handled at one of its points: after the last, the packet ends. -/
def legDone (s : State) (p : Nat) : State :=
  match pktGet s p with
  | some k => if k.legs ≤ 1 then endCopy s p k else pktSet s p { k with legs := k.legs - 1 }
  | none => s

/-- The frame that a released copy becomes at a MAC (R347, R360, R389). In RESTRICTED it leaves as it is (R591). -/
def txFrameOf (s : State) (m c : Nat) (k : Pkt) (main : Bool) : TxFrame :=
  if s.dev.base = .restricted then
    { bytes := k.frame, cls := c, leaf := 0xFFFF, lossless := false, slice := k.hdr.slice, fid := k.fid, origin := k.origin,
      source := k.hdr.source, main := main }
  else
    let w := le k.tx 0 4
    { bytes := nvtFill s k.tx k.frame, cls := c, leaf := mapGetD s.weir.leaf (k.hdr.slice * 16 + m / 8 * 8 + c) 0xFFFF,
      lossless := k.lossless, slice := k.hdr.slice, fid := k.fid, tx := k.tx, origin := k.origin, source := k.hdr.source,
      main := main, stamp := bits w 7 6, stampId := bits w 31 16, ptpOff := bits (le k.tx 8 4) 25 16,
      tReq := BitVec.ofNat 64 (Config.freeNat s.fresh), secured := k.saUsed.isSome }

/-- Generation that a frame bound for a function carries (R444): that of its acceptance for the same function, else the present one. -/
def frameGen (s : State) (ep f : Nat) (k : Pkt) : BitVec 16 :=
  match k.gen with
  | some (x, g) => if x = ep * 2048 + f then g else (fnGet s ep f).gen
  | none => (fnGet s ep f).gen

/-- A copy is released at its point (R262). -/
def releaseCopy (s : State) (a : Arrival) : State :=
  let k := a.pkt
  let s := match a.dest with
    | .inl (m, c) => macRelease (drawn s) m (txFrameOf s m c k a.main)
    | .inr (ep, n, q) =>
      hostEnqueue s n q
        { bytes := nvtFill s k.tx k.frame, hdr := k.hdr, cookie := k.jig.cookie, tc := egressClass k, stamp := k.stamp,
          lossless := k.lossless, fid := k.fid, gen := frameGen s ep (funcOfSlice n).2 k, l4Checked := k.l4Checked, origin := k.origin,
          sa := k.saUsed }
  legDone s a.pid

/-- A copy is discarded at its point. -/
def discardCopy (s : State) (a : Arrival) : State := legDone (letGo s a.pkt.fid a.pkt.origin none) a.pid

/-! The Dovetail algorithm (R263 to R268). -/

/-- What a point does with a Twin copy. -/
inductive DovAct where
  | release
  /-- Second copy of an open record; the released digest when it differs. -/
  | second (mismatch : Option Word)
  | late
  /-- A new record is needed and the store is full (R265). -/
  | full
  deriving DecidableEq, Repr

def dovState (d : DovIsland) (x st : Nat) : Option StreamState := d.states.find? (fun y => y.point = x && y.stream = st)

/-- The island with the state of a stream replaced or added. -/
def dovPut (d : DovIsland) (y : StreamState) : DovIsland :=
  if (dovState d y.point y.stream).isSome then
    { d with states := d.states.map (fun z => if z.point = y.point ∧ z.stream = y.stream then y else z) }
  else { d with states := d.states ++ [y] }

/-- A release with the other rail in service opens a record and moves M (R263). -/
def dovOpen (d : DovIsland) (x st : Nat) (seq : Word) (r : Nat) (g : Word) (now : Nat) (lag : Option Nat) : DovIsland × DovAct :=
  if 65536 ≤ d.recs.length then (d, .full)
  else
    let d := dovPut d { point := x, stream := st, m := seq, lag := lag }
    ({ d with recs := d.recs ++ [{ point := x, stream := st, seq := seq, digest := g, rail := r, time := now }] }, .release)

/-- An arrival while the other rail is retired (R263, R268). -/
def dovAlone (d : DovIsland) (x st : Nat) (seq : Word) (r : Nat) : DovIsland × DovAct :=
  match dovState d x st with
  | none => (d, .release)
  | some y =>
    if y.lag = some r then
      if later32 seq y.m then (dovTidy (dovPut d { y with m := seq, lag := none }), .release)
      else (dovTidy (dovPut d { y with lag := if seq = y.m then none else y.lag }), .late)
    else (dovTidy (dovPut d { y with m := if later32 seq y.m then seq else y.m }), .release)

/-- The arrival of a Twin copy at a point (R263). -/
def dovArrive (d : DovIsland) (alone : Bool) (x st : Nat) (seq : Word) (r : Nat) (g : Word) (now : Nat) : DovIsland × DovAct :=
  let same := fun (y : OpenRec) => y.point = x && y.stream = st && y.seq = seq
  match d.recs.find? same with
  | some y => (dovTidy { d with recs := d.recs.filter (fun z => !same z) }, .second (if y.digest = g then none else some y.digest))
  | none =>
    if alone then dovAlone d x st seq r
    else match dovState d x st with
      | none => dovOpen d x st seq r g now none
      | some y =>
        let lag := if y.lag = some r ∧ (seq = y.m ∨ later32 seq y.m) then none else y.lag
        if later32 seq y.m then dovOpen d x st seq r g now lag else (dovTidy (dovPut d { y with lag := lag }), .late)

/-- Number of a Dovetail island in the adapter (R262). -/
def dovIsle (d : Nat) : Nat := if d ≤ 1 then d else d + 2

/-- A trace record of a Dovetail island (R625). -/
def traceDov (s : State) (d kind : Nat) (a : Arrival) : State :=
  trace s (13 + d) kind (1 + 2 * a.rail) a.pkt.hdr.slice a.pkt.hdr.flowHash.toNat
    (toLe 2 a.pkt.stream ++ zeros 2 ++ toLe 4 a.pkt.hdr.twinSeq.toNat ++ toLe 4 (Config.pointNumber a.point))

/-- DVT_DIGEST_MISMATCH (R267). -/
def noteMismatch (s : State) (d : Nat) (a : Arrival) (released : Word) : State :=
  let s := traceDov (bump s (r_DVT_CNT_DIGEST_MISMATCH d)) d 4 a
  let dg := toLe 4 released.toNat ++ toLe 4 a.digest.toNat
  let s := errlog s 0x0150 (dovIsle d) 0xFFFF 0
    (toLe 4 (Config.pointNumber a.point) ++ toLe 2 a.pkt.stream ++ toLe 4 a.pkt.hdr.twinSeq.toNat ++ dg)
  eventToManager s 0x8902 (toLe 1 (dovIsle d) ++ zeros 1 ++ toLe 2 a.pkt.stream ++ toLe 4 a.pkt.hdr.twinSeq.toNat ++ dg)

/-- A Twin copy at its point: none while it must wait for a record. -/
def arriveTwin (s : State) (d : Nat) (a : Arrival) : Option State :=
  let (isle, act) := dovArrive (dovGet s d) (!railUp s (1 - a.rail)) a.point a.pkt.stream a.pkt.hdr.twinSeq a.rail a.digest s.time.ticks
  match act with
  | .release => some (releaseCopy (traceDov (bump64 (dovSet s d isle) (r_DVT_CNT_RELEASED d) 1) d 1 a) a)
  | .second m =>
    let s := traceDov (bump64 (dovSet s d isle) (r_DVT_CNT_DISCARD d) 1) d 2 a
    let s := match m with
      | some g => noteMismatch s d a g
      | none => s
    some (discardCopy s a)
  | .late => some (discardCopy (traceDov (bump (dovSet s d isle) (r_DVT_CNT_LATE d)) d 2 a) a)
  | .full => none

/-- A copy reaches its point (R262, R265). -/
def arrive (s : State) (d : Nat) (a : Arrival) : State :=
  if !a.pkt.hdr.twin then releaseCopy s a
  else match arriveTwin s d a with
    | some s => s
    | none =>
      let s := bump (setBits s (r_DVT_PT_STATUS d) (BitVec.ofNat 32 (2 ^ 17))) (r_DVT_CNT_STORE_WAIT d)
      dovSet s d { dovGet s d with waiting := (dovGet s d).waiting ++ [a] }

/-- DOVETAIL_ARRIVE (R262, R263, R265): the channel of a pipeline backs up behind a copy that waits. -/
def execDovetailArrive (d pl : Nat) (s : State) : Host.Outcome State Fault Refusal :=
  let x := dovGet s d
  if 3 < d ∨ x.waiting.any (fun a => a.pkt.hdr.pipeline = pl) then done s
  else match x.arrivals.find? (fun a => a.pkt.hdr.pipeline = pl) with
    | none => done s
    | some a => done (arrive (dovSet s d { x with arrivals := x.arrivals.eraseP (fun b => b.pkt.hdr.pipeline = pl) }) d a)

/-- DOVETAIL_STORE_WAIT_END (R265): a record is free. -/
def execDovetailStoreWaitEnd (d pl : Nat) (s : State) : Host.Outcome State Fault Refusal :=
  let x := dovGet s d
  match x.waiting.find? (fun a => a.pkt.hdr.pipeline = pl) with
  | none => done s
  | some a =>
    match arriveTwin (dovSet s d { x with waiting := x.waiting.eraseP (fun b => b.pkt.hdr.pipeline = pl) }) d a with
    | some s => done s
    | none => done s

/-- OPEN_RECORD_EXPIRE (R264): the record is freed and its stream marked LAG for the rail that has not delivered. -/
def execOpenRecordExpire (d point stream : Nat) (seq : Word) (s : State) : Host.Outcome State Fault Refusal :=
  let x := dovGet s d
  let same := fun (y : OpenRec) => y.point = point && y.stream = stream && y.seq = seq
  match x.recs.find? same with
  | none => done s
  | some y =>
    let lag := 1 - y.rail
    let x := { x with recs := x.recs.filter (fun z => !same z),
                      states := x.states.map (fun z => if z.point = point ∧ z.stream = stream then { z with lag := some lag } else z),
                      lagCount := x.lagCount + 1 }
    let s := bump (dovSet s d x) (r_DVT_CNT_LAG d)
    let s := trace s (13 + d) 3 (1 + 2 * lag) 0xFFF 0
      (toLe 2 stream ++ zeros 2 ++ toLe 4 seq.toNat ++ toLe 4 (Config.pointNumber point))
    let due := match x.lagSent with
      | some t => decide (t + 1000000 ≤ s.time.ticks)
      | none => true
    if due then
      done (eventToManager (dovSet s d { x with lagCount := 0, lagSent := some s.time.ticks }) 0x8903
        (toLe 1 (dovIsle d) ++ toLe 1 lag ++ toLe 2 stream ++ toLe 4 x.lagCount))
    else done s

/-! Rails (R269 to R273). -/

/-- RAIL_SELF_CHECK_FAIL (R269, R271). -/
def execRailSelfCheckFail (rail code unit : Nat) (s : State) : Host.Outcome State Fault Refusal :=
  if 1 < rail ∨ code = 0 ∨ 4 < code ∨ 5 < unit ∨ railState s rail = .retired then done s
  else done (selfCheckFail s rail code (if unit = 4 then 7 + rail else 6) unit)

/-- TWIN_STATUS (R298). -/
def execTwinStatus (ch seq : Nat) (s : State) : Host.Outcome State Fault Refusal :=
  command s ch seq 0x0900 (fun _ =>
    let code := fun (x : RailState) => match x with
      | .inService => 0
      | .retiring => 1
      | .retired => 2
      | .restoring => 3
    let w := code s.twin.railA + 4 * code s.twin.railB + 16 * b2n s.twin.recoveryDone + 32 * regField s r_DVT_RAIL_STATUS 6 5
    answer s ch seq rcOk (toLe 4 w ++ toLe 4 (reg s (r_DVT_RAIL_CAUSE 0)).toNat ++ toLe 4 (reg s (r_DVT_RAIL_CAUSE 1)).toNat ++
      toLe 2 (hwField s 0x021 15 0) ++ toLe 2 (hwField s 0x021 31 16) ++ zeros 4))

/-- TWIN_RAIL_RETIRE (R271, R272, R298). -/
def execTwinRailRetire (ch seq : Nat) (s : State) : Host.Outcome State Fault Refusal :=
  command s ch seq 0x0901 (fun req =>
    let r := byteAt req 0
    if 1 < r ∨ ¬ railUp s r ∨ ¬ railUp s (1 - r) then answer s ch seq rcBadParam []
    else answer (retireRail s r 0 0 0) ch seq rcOk [])

/-- TWIN_RAIL_RESTORE (R273, R298): the self-test begins. -/
def execTwinRailRestore (ch seq : Nat) (s : State) : Host.Outcome State Fault Refusal :=
  command s ch seq 0x0902 (fun req =>
    let r := byteAt req 0
    if 1 < r ∨ railState s r ≠ .retired then answer s ch seq rcBadParam []
    else
      let s := railSet s r .restoring
      defer { s with twin := { s.twin with recoveryDone := false, restore := some (r, ch, seq) } } ch seq)

/-- The clusters of a rail start from their images (R250, R273): the supervisors run again. -/
def startClusters (s : State) (rail : Nat) : State :=
  (List.range 4).foldl (fun s i =>
    let q := 4 * rail + i
    let s := placeSupervisor (clusterMod (loadCluster s q) q (fun c => { c with supRun := true })) q
    if (clusterGet s q).supRun then
      thMod s q (supervisorSlot s q) (fun x => { regs := x.regs, state := .ready, pc := mapGetD s.csc.supEntry (q % 4) 0 })
    else s) (clearClusters s rail)

/-- RAIL_REJOIN (R273): the rail rejoins at calendar entry 0. -/
def execRailRejoin (rail : Nat) (s : State) : Host.Outcome State Fault Refusal :=
  match s.twin.restore with
  | none => done s
  | some (r, ch, seq) =>
    if r ≠ rail then done s
    else
      let t := hwSetField (railSet s r .inService) 0x020 r r 0
      let t := startClusters { t with twin := { t.twin with recoveryDone := true, restore := none } } r
      let t := eventToManager t 0x8901 (toLe 1 r ++ zeros 3)
      done (answer (noteMode s t 0) ch seq rcOk (zeros 4))

/-- RESTORE_SELF_TEST_FAIL (R273): the rail stays retired. -/
def execRestoreSelfTestFail (rail unit : Nat) (s : State) : Host.Outcome State Fault Refusal :=
  match s.twin.restore with
  | none => done s
  | some (r, ch, seq) =>
    if r ≠ rail then done s
    else
      let s := railSet s r .retired
      done (answer { s with twin := { s.twin with recoveryDone := true, restore := none } } ch seq rcNotPermitted (toLe 4 unit))

/-- TWIN_SEL_SET (R255, R298). -/
def execTwinSelSet (ch seq : Nat) (s : State) : Host.Outcome State Fault Refusal :=
  command s ch seq 0x0903 (fun req =>
    let m := byteAt req 0
    if 15 < m ∨ 4095 < le req 2 2 ∨ 4095 < le req 4 2 then answer s ch seq rcBadParam []
    else
      let s := setReg s (r_DVT_TWIN_SEL0 m) (BitVec.ofNat 32 (byteAt req 1))
      answer (setReg s (r_DVT_TWIN_SEL1 m) (BitVec.ofNat 32 (le req 2 2 + 65536 * le req 4 2))) ch seq rcOk [])

/-! PRP (R279, R281, R298). -/

/-- A MAC belongs to an enabled pair other than `i`. -/
def prpTaken (s : State) (i m : Nat) : Bool :=
  (List.range 8).any (fun j => j ≠ i && (let w := (reg s (r_DVT_PRP_PAIR j)).toNat; bitAt w 8 && (bits w 3 0 = m || bits w 7 4 = m)))

/-- PRP_PAIR_SET (R279, R298); a time of 0 leaves the time as it is (R300). -/
def execPrpPairSet (ch seq : Nat) (s : State) : Host.Outcome State Fault Refusal :=
  command s ch seq 0x0910 (fun req =>
    let i := byteAt req 0
    let a := byteAt req 1
    let b := byteAt req 2
    let fl := byteAt req 3
    let ok := decide (a < 8) && decide (8 ≤ b ∧ b < 16) && macUsed s a && macUsed s b && decide (macRate s a = macRate s b) &&
      !prpTaken s i a && !prpTaken s i b
    if 7 < i ∨ (bitAt fl 0 ∧ ¬ ok) ∨ 15 < a ∨ 15 < b then answer s ch seq rcBadParam []
    else
      let old := (reg s (r_DVT_PRP_FORGET i)).toNat
      let e := if le req 4 2 = 0 then bits old 15 0 else le req 4 2
      let n := if le req 6 2 = 0 then bits old 31 16 else le req 6 2
      let s := setReg s (r_DVT_PRP_PAIR i) (BitVec.ofNat 32 (a + 16 * b + 256 * (fl % 4)))
      answer (setReg s (r_DVT_PRP_FORGET i) (BitVec.ofNat 32 (e + 65536 * n))) ch seq rcOk [])

/-- PRP_NODE_READ (R298): entries beyond the last read as zeros. -/
def execPrpNodeRead (ch seq : Nat) (s : State) : Host.Outcome State Fault Refusal :=
  command s ch seq 0x0911 (fun req =>
    let first := le req 0 2
    let n := le req 2 2
    if n = 0 ∨ 15 < n then answer s ch seq rcBadParam []
    else
      let entry := fun (i : Nat) => match s.prp.nodes[first + i]? with
        | some e => fit e.mac 6 ++ toLe 1 e.pair ++ zeros 1 ++ toLe 2 e.hi ++ zeros 2 ++ toLe 4 ((s.time.ticks - e.lastUse) / 1000000)
        | none => zeros 16
      answer s ch seq rcOk (fit req 4 ++ (List.range n).flatMap entry))

end Sys2Proof.Machine
end

