-- ==== Sys2Proof/Machine/Rings.lean ====
section
/-! DEFINITION. The host rings at work: doorbells and pushes (R456, R465, R466, R472, R473), transmit descriptors and their checks (R467
to R471, R486), acceptance and completion (R474 to R478), postings and delivery (R479 to R482), completions of DMA reads (R437 to R443),
flushes (R489 to R491), and the queue commands (R493, R494). -/

namespace Sys2Proof.Machine

open Sys2Proof

/-! Descriptor checks (R467 to R471, R486). -/

def dType (d : Bytes) : Nat := bits (le d 0 4) 1 0
def dEop (d : Bytes) : Bool := dType d = 0 && bitAt (le d 0 4) 2
def dNbuf (d : Bytes) : Nat := bits (le d 0 4) 5 4
def dLen (d : Bytes) (i : Nat) : Nat := if i = 0 then bits (le d 4 4) 19 0 else bits (le d 24 4) 19 0
def dAddr (d : Bytes) (i : Nat) : Nat := le d (8 + 8 * i) 8

/-- Buffers that a DATA descriptor names. -/
def dBufs (d : Bytes) : List (Nat × Nat) := if dType d = 0 then (List.range (dNbuf d)).map (fun i => (dAddr d i, dLen d i)) else []

/-- Cause of a descriptor by itself (R486); 0 for none. The lowest code stands. -/
def descFault (d : Bytes) : Nat :=
  let w0 := le d 0 4
  if 2 ≤ dType d then 0x10
  else if dType d = 1 then
    if bits w0 7 6 = 3 ∨ bits w0 9 8 = 3 then 0x10
    else if bits w0 15 10 ≠ 0 ∨ bits (le d 4 4) 31 30 ≠ 0 ∨ bits (le d 8 4) 31 26 ≠ 0 ∨ bits (le d 12 4) 31 20 ≠ 0 ∨
        bits (le d 24 4) 31 21 ≠ 0 ∨ le d 28 4 ≠ 0 ∨ (bits w0 9 8 ≠ 1 ∧ le d 16 8 ≠ 0) then 0x11
    else 0
  else if bits w0 31 6 ≠ 0 ∨ bits (le d 4 4) 31 20 ≠ 0 ∨ bits (le d 24 4) 31 20 ≠ 0 ∨ le d 28 4 ≠ 0 ∨
      (dNbuf d = 1 ∧ (dAddr d 1 ≠ 0 ∨ dLen d 1 ≠ 0)) then 0x11
  else if dNbuf d ≠ 1 ∧ dNbuf d ≠ 2 then 0x12
  else if dLen d 0 = 0 ∨ (dNbuf d = 2 ∧ dLen d 1 = 0) then 0x12
  else 0

/-- Whether the descriptors of a packet, so far, break its sequence (R467, R486). -/
def seqFault (ds : List Bytes) : Bool :=
  (ds.drop 1).any (fun d => dType d = 1) || decide (16 < (ds.flatMap dBufs).length)

/-- META descriptor of a packet; empty when it has none. -/
def packetMeta (ds : List Bytes) : TxMeta :=
  match ds with
  | d :: _ => if dType d = 1 then d else []
  | [] => []

def packetLen (ds : List Bytes) : Nat := ((ds.flatMap dBufs).map (fun b => b.2)).sum

/-- An offset lies past the packet, or the offsets contradict each other (R486). -/
def offsetFault (m : TxMeta) (len : Nat) : Bool :=
  let w0 := le m 0 4
  let tso := bitAt w0 5
  let useL4 := bitAt w0 3 || tso || decide (bits w0 9 8 ≠ 0)
  let useL3 := bitAt w0 2 || bitAt w0 3 || tso
  let l3 := bits (le m 4 4) 9 0
  let l4 := bits (le m 4 4) 19 10
  let outer := bitAt (le m 24 4) 20
  (useL3 && (decide (511 < l3) || decide (len ≤ l3))) || (useL4 && (decide (511 < l4) || decide (len ≤ l4))) ||
    (useL3 && useL4 && decide (l4 ≤ l3)) || (tso && decide (len < bits (le m 4 4) 29 20)) ||
    (decide (bits w0 7 6 = 2) && decide (len < bits (le m 8 4) 25 16 + 34)) ||
    (outer && (decide (len ≤ bits (le m 24 4) 9 0) || decide (len ≤ bits (le m 24 4) 19 10)))

/-- A TSO limit that does not depend on frame bytes or on the MAC (R348, R471). -/
def tsoFault (m : TxMeta) (len : Nat) : Bool :=
  let hdr := bits (le m 4 4) 29 20
  let mss := bits (le m 8 4) 15 0
  bitAt (le m 0 4) 5 && (!bitAt (le m 0 4) 3 || decide (262144 < len - hdr) || decide (mss < 256) || decide (512 < hdr) ||
    decide (16000 < hdr + mss + 4))

/-- INDEX names no SA or context that the send may use (R486). -/
def offloadFault (s : State) (m : TxMeta) (n : Nat) : Bool :=
  let o := bits (le m 0 4) 9 8
  let i := bits (le m 12 4) 19 0
  (decide (o = 1) && (!saOwned s n i || decide (saKind (saGet s i) ≠ 3) || saFlag (saGet s i) 1)) || (decide (o = 2) && !nvtOwned s n i)

/-- Cause of a whole packet (R471, R486); 0 for none. -/
def packetFault (s : State) (n : Nat) (ds : List Bytes) : Nat :=
  let m := packetMeta ds
  let len := packetLen ds
  let tso := !m.isEmpty && bitAt (le m 0 4) 5
  if seqFault ds then 0x12
  else if !tso && (decide (len < 14) || decide (16380 < len)) then 0x13
  else if m.isEmpty then 0
  else if offsetFault m len then 0x14
  else if tsoFault m len then 0x15
  else if offloadFault s m n then 0x16
  else 0

/-! Fetching (R467, R474, R475). -/

/-- The descriptors from an index on, up to and including the first EOP, and whether it was reached. -/
def gatherFrom (descs : List (Word × Bytes)) : Nat → Word → List (Word × Bytes) × Bool
  | 0, _ => ([], false)
  | n + 1, i =>
    match descs.find? (fun d => d.1 = i) with
    | none => ([], false)
    | some d =>
      if dEop d.2 then ([d], true)
      else
        let (l, e) := gatherFrom descs n (i + 1)
        (d :: l, e)

/-- The packet at the consumer index: its descriptors so far, and whether its EOP is among them. -/
def txHead (q : QPair) : List (Word × Bytes) × Bool := gatherFrom q.descs (ringFill q.txProd q.txCons) q.txCons

def qSlice (q : QPair) (ep : Nat) : Nat := sliceOfFunc ep q.func

/-- Issues the buffer reads that a tag allows. -/
def issueBufs (s : State) (ep g : Nat) : List BufRead → State × List BufRead
  | [] => (s, [])
  | b :: l =>
    let q := qpGet s ep g
    if b.issued then
      let (s, l) := issueBufs s ep g l
      (s, b :: l)
    else match issueRead s ep q.func q.pasid b.addr b.len g 2 with
      | some (_, s) =>
        let (s, l) := issueBufs s ep g l
        (s, { b with issued := true } :: l)
      | none => (s, b :: l)

/-- A read of a queue pair and purpose is outstanding, or waits to be issued again. -/
def readPending (s : State) (ep g purpose : Nat) : Bool :=
  (epGet s ep).reads.any (fun r => r.queue = g && r.purpose = purpose) || (epGet s ep).reissue.any (fun r => r.queue = g && r.purpose = purpose)

/-- The host islands read the transmit rings of a function (R570, R575): every one's in SERVICE, else PF0's alone. -/
def txRead (s : State) (f : Nat) : Bool := decide (s.dev.base = .service) || (datapathOn s && decide (f = 0))

/-- Postings are read while the datapath runs; in RESTRICTED those of PF0 alone (R570). -/
def rxRead (s : State) (f : Nat) : Bool := running s || (datapathOn s && decide (f = 0))

/-- The next descriptor read of a ring, one at a time (R485). -/
def readDesc (s : State) (ep g : Nat) : State :=
  let q := qpGet s ep g
  let i := q.txCons + BitVec.ofNat 32 (txHead q).1.length
  if i = q.txProd ∨ readPending s ep g 0 ∨ ¬ txRead s q.func then s
  else match issueRead s ep q.func q.pasid (q.txBase + 32 * (i.toNat % ringSize q.txLog)) 32 g 0 with
    | some (_, s) => s
    | none => s

/-- The ring goes on: the whole packet at its head has its buffers read, else its next descriptor is read. -/
def txPump (s : State) (ep g : Nat) : State :=
  let q := qpGet s ep g
  if !qActive q || decide (q.txLog = 0) then s
  else
    let put := fun (r : State × List BufRead) => qpMod r.1 ep g (fun q => { q with bufs := r.2 })
    if !q.bufs.isEmpty then put (issueBufs s ep g q.bufs)
    else
      let (ds, whole) := txHead q
      if !whole then readDesc s ep g
      else
        let f := packetFault s (qSlice q ep) (ds.map (fun d => d.2))
        if f ≠ 0 then halt s ep g f 0 q.txCons
        else
          let mx := (fnGet s ep q.func).maxRead
          let bufs := ((ds.map (fun d => d.2)).flatMap dBufs).flatMap (fun b =>
            (splitRead b.2 mx b.1 b.2).map (fun p => ({ addr := p.1, len := p.2 } : BufRead)))
          put (issueBufs s ep g bufs)

/-- Postings are read as they are rung, one read at a time (R479, R485). -/
def rxPump (s : State) (ep g : Nat) : State :=
  let q := qpGet s ep g
  let i := q.rxCons + BitVec.ofNat 32 q.postings.length
  if !qActive q || decide (q.rxLog = 0) || decide (i = q.rxProd) || readPending s ep g 1 || !rxRead s q.func then s
  else match issueRead s ep q.func q.pasid (q.rxBase + 32 * (i.toNat % ringSize q.rxLog)) 32 g 1 with
    | some (_, s) => s
    | none => s

/-- Both rings of a queue pair go on. -/
def pump (s : State) (ep g : Nat) : State := rxPump (txPump s ep g) ep g

/-- The reads that were stopped are issued again, as far as tags and their functions allow (R440, R450). -/
def reissueReads (s : State) (ep : Nat) : State :=
  (epGet s ep).reissue.foldl (fun (s : State) (r : ReadReq) =>
    match issueRead s ep r.func r.pasid r.addr r.len r.queue r.purpose with
    | some (_, s) => epMod s ep (fun e => { e with reissue := e.reissue.erase r })
    | none => s) s

/-- Everything of an endpoint that waited for a tag or for leave to send goes on. -/
def pumpAll (s : State) (ep : Nat) : State :=
  let s := reissueReads s ep
  walkPump (s.rings.qps.foldl (fun s x => if x.1 / 8192 = ep then pump s ep (x.1 % 8192) else s) s) ep

/-! Doorbells and pushes. -/

/-- Index rebuilt from its low 16 bits (R456). -/
def rebuild (last : Word) (low : Nat) : Word := last + BitVec.ofNat 32 ((low + 65536 - last.toNat % 65536) % 65536)

/-- Global queue pair that a doorbell or push of a function names, when it may (R425, R452). -/
def namedQp (s : State) (ep f q : Nat) : Option Nat := globalQp s ep f q

def traceDoorbell (s : State) (ep f q ring : Nat) (i : Word) : State :=
  trace s (34 + ep) 1 0 (sliceOfFunc ep f) 0 (toLe 2 f ++ toLe 2 q ++ toLe 1 ring ++ zeros 3 ++ toLe 4 i.toNat)

/-- Runs a doorbell on the queue pair it names, or discards and counts it (R425, R452, R466). -/
def doorbell (s : State) (ep f : Nat) (value : Word) (full : Bool) (present : QPair → Bool) (act : State → Nat → QPair → Nat → State) :
    Host.Outcome State Fault Refusal :=
  let v := value.toNat
  if !barOpen s ep f then done s
  else if (boundSlice s ep f).isNone then done (dbBad s ep f)
  else if !full then done (bump s (r_HIF_CNT_DB_BAD ep))
  else match globalQp s ep f (bits v 12 0) with
    | none => done (dbBad s ep f)
    | some g =>
      let q := qpGet s ep g
      if qActive q && present q then done (act s g q v) else done (dbBad s ep f)

/-- HIF_VF_DB_TX (R456, R465, R466). -/
def execHifVfDbTx (ep f : Nat) (value : Word) (full : Bool) (s : State) : Host.Outcome State Fault Refusal :=
  doorbell s ep f value full (fun q => q.txLog ≠ 0) (fun s g q v =>
    let p := rebuild q.txProd (bits v 31 16)
    let s := traceDoorbell (qpSet s ep g { q with txProd := p }) ep f (bits v 12 0) 0 p
    if ringSize q.txLog < ringFill p q.txCons then halt s ep g 1 0 p else txPump s ep g)

/-- HIF_VF_DB_RX (R456, R465, R466). -/
def execHifVfDbRx (ep f : Nat) (value : Word) (full : Bool) (s : State) : Host.Outcome State Fault Refusal :=
  doorbell s ep f value full (fun q => q.rxLog ≠ 0) (fun s g q v =>
    let p := rebuild q.rxProd (bits v 31 16)
    let s := traceDoorbell (qpSet s ep g { q with rxProd := p }) ep f (bits v 12 0) 1 p
    if ringSize q.rxLog < ringFill p q.rxCons then halt s ep g 2 1 p else rxPump s ep g)

/-- HIF_VF_DB_CQ (R456, R465, R484). -/
def execHifVfDbCq (ep f : Nat) (value : Word) (full : Bool) (s : State) : Host.Outcome State Fault Refusal :=
  doorbell s ep f value full (fun _ => true) (fun s g q v =>
    let c := rebuild q.cqCons (bits v 31 16)
    let s := traceDoorbell (qpSet s ep g { q with cqCons := c }) ep f (bits v 12 0) 2 c
    if ringSize q.cqLog < ringFill q.cqProd c then halt s ep g 3 2 c
    else if bitAt v 13 then
      let s := qpMod s ep g (fun q => { q with armed := true })
      if c = q.cqProd then s else ringInterrupt s ep g
    else s)

/-- HIF_VF_ITR (R433, R459): the hold-off of a VF vector. -/
def execHifVfItr (ep f : Nat) (value : Word) (full : Bool) (s : State) : Host.Outcome State Fault Refusal :=
  let v := value.toNat
  if !barOpen s ep f ∨ f = 0 then done s
  else if (boundSlice s ep f).isNone then done (dbBad s ep f)
  else if !full then done (bump s (r_HIF_CNT_DB_BAD ep))
  else if bits v 10 0 < vecCount s ep f then done (fnMod s ep f (fun x => { x with itr := mapSet x.itr (bits v 10 0) (bits v 26 16) }))
  else done s

/-- A push write that is discarded (R425, R452, R472). -/
def pushBad (s : State) (ep f : Nat) : State := countBoth s ep f r_HIF_CNT_PUSH_BAD r_HIF_VF_CNT_PUSH_BAD

/-- Descriptors of a push slot (R472). -/
def pushDescs (data : Bytes) : List Bytes := if (data.drop 32).all (fun b => b = 0) then [data.take 32] else [data.take 32, data.drop 32]

/-- Packets that pushed descriptors form. -/
def pushPackets : List Bytes → List Bytes → List (List Bytes)
  | [], [] => []
  | [], acc => [acc]
  | d :: l, acc => if dEop d then (acc ++ [d]) :: pushPackets l [] else pushPackets l (acc ++ [d])

/-- First pushed descriptor that breaks R472 or the descriptor rules. -/
def pushFault (s : State) (n : Nat) (ds : List Bytes) : Option Nat :=
  match (List.range ds.length).find? (fun i => descFault (ds.getD i []) ≠ 0) with
  | some i => some i
  | none =>
    if !(match ds.getLast? with
      | some d => dEop d
      | none => false) then some (ds.length - 1)
    else if (pushPackets ds []).any (fun p => packetFault s n p ≠ 0) then some 0
    else none

/-- PUSH_WRITE (R472, R473). -/
def execPushWrite (ep f off : Nat) (data : Bytes) (full : Bool) (s : State) : Host.Outcome State Fault Refusal :=
  if !barOpen s ep f then done s
  else if (boundSlice s ep f).isNone ∨ off % 64 ≠ 0 ∨ data.length ≠ 64 ∨ ¬ full then done (pushBad s ep f)
  else match globalQp s ep f (off / 64) with
    | none => done (pushBad s ep f)
    | some g =>
      let q := qpGet s ep g
      if !qActive q ∨ q.txLog = 0 then done (pushBad s ep f)
      else
        let ds := pushDescs data
        match pushFault s (sliceOfFunc ep f) ds with
        | some i => done (halt s ep g 0x17 0 (q.txProd + BitVec.ofNat 32 i))
        | none =>
          let p := q.txProd + BitVec.ofNat 32 ds.length
          let new := (List.range ds.length).map (fun i => (q.txProd + BitVec.ofNat 32 i, ds.getD i []))
          let s := qpSet s ep g { q with txProd := p, descs := q.descs ++ new }
          if ringSize q.txLog < ringFill p q.txCons then done (halt s ep g 1 0 p) else done (txPump s ep g)

/-! Transmit (R474 to R478). -/

/-- TX_DESCRIPTOR_READ (R467, R485, R486): the descriptor read at the ring's head has arrived. -/
def execTxDescriptorRead (ep g : Nat) (s : State) : Host.Outcome State Fault Refusal :=
  match (epGet s ep).reads.find? (fun r => r.queue = g && r.purpose = 0 && !r.quarantined && r.data.isSome) with
  | none => done s
  | some r =>
    let s := epMod s ep (fun e => { e with reads := e.reads.filter (fun x => x.tag ≠ r.tag) })
    let q := qpGet s ep g
    let i := q.txCons + BitVec.ofNat 32 (txHead q).1.length
    let d := r.data.getD []
    if !qActive q then done s
    else if descFault d ≠ 0 then done (halt s ep g (descFault d) 0 i)
    else if seqFault (((txHead q).1.map (fun x => x.2)) ++ [d]) then done (halt s ep g 0x12 0 i)
    else done (txPump (qpSet s ep g { q with descs := q.descs ++ [(i, d)] }) ep g)

/-- Accepted packets of a queue pair that no pipeline has started (R474). -/
def notStarted (s : State) (q : QPair) : Nat :=
  (q.packets.filter (fun x => s.pkts.any (fun k => !k.2.started && decide (k.2.origin.map (fun o => o.uid) = some x.uid)))).length

/-- The consumer index passes the packet at the head. -/
def passHead (q : QPair) : QPair :=
  let n := (txHead q).1.length
  let c := q.txCons + BitVec.ofNat 32 n
  { q with txCons := c, descs := q.descs.filter (fun d => decide ((d.1 - q.txCons).toNat ≥ n)), bufs := [], gated := false, wbDue := true }

/-- A packet whose buffer read failed is reported in ring order (R475). -/
def failPacket (s : State) (ep g : Nat) (last : Word) : State :=
  let (u, s) := newId s
  let s := bump s (r_RING_CNT_TX_DMA_ERR ep g)
  qpMod s ep g (fun q =>
    { passHead q with packets := q.packets ++ [{ uid := u, last := last, status := some 2, left := 0, accepted := false, noCpl := false,
                                                 stamp := 0, stampValid := false, demoted := false, stampId := 0, stampMac := 0 }] })

/-- A gate of acceptance is closed: storage commit ordering (R329), or a stream full of unfinished sequences (R258); counted once. -/
def countGate (s : State) (ep g addr : Nat) : State :=
  if (qpGet s ep g).gated then s else bump (qpMod s ep g (fun q => { q with gated := true })) addr

/-- The packet at the head is accepted with its frame in Basin (R274, R475, R476). -/
def acceptPacket (s : State) (ep g fid : Nat) (ds : List (Word × Bytes)) (frame : Bytes) : State :=
  let q := qpGet s ep g
  let n := qSlice q ep
  let m := packetMeta (ds.map (fun d => d.2))
  let lastD := (ds.getLast?.map (fun d => d.2)).getD []
  let last := q.txCons + BitVec.ofNat 32 (ds.length - 1)
  let stampReq := decide (bits (le m 0 4) 7 6 ≠ 0) && !m.isEmpty && decide (s.dev.base ≠ .restricted)
  let (u, s) := newId s
  let pk : TxPacket :=
    { uid := u, last := last, status := none, left := 1, accepted := true, noCpl := bitAt (le lastD 0 4) 3 && !stampReq, stamp := 0,
      stampValid := false, demoted := false, stampId := if stampReq then bits (le m 0 4) 31 16 else 0, stampMac := 0 }
  let s := qpMod s ep g (fun q => { passHead q with packets := q.packets ++ [pk] })
  let s := if q.func = 0 then s
    else bump64 (bump64 s (r_HIF_VF_TX_FRAMES ep q.func) 1) (r_HIF_VF_TX_OCTETS ep q.func) frame.length
  let s := if commitOrdered s m then { s with nvt := { s.nvt with order := s.nvt.order ++ [u] } } else s
  let twin := (match sliceGet s n with
    | some x => x.twin
    | none => false) && decide (s.dev.base ≠ .restricted)
  distribute s twin
    { hdr := { source := 16 + ep, slice := n }, frame := frame, stamp := stampNow s, inTc := q.tc, fid := fid,
      gen := some (ep * 2048 + q.func, (fnGet s ep q.func).gen), origin := some { ep := ep, func := q.func, key := qpKey ep g, index := last, uid := u },
      tx := m }

/-- TX_FRAME_IN_BASIN (R258, R274, R329, R474, R475): the last buffer read of the packet at the head has completed. -/
def execTxFrameInBasin (ep g : Nat) (s : State) : Host.Outcome State Fault Refusal :=
  let q := qpGet s ep g
  let (ds, whole) := txHead q
  if !qActive q || !whole || q.bufs.isEmpty || !q.bufs.all (fun b => b.failed || b.data.isSome) then done s
  else if q.bufs.any (fun b => b.failed) then done (txPump (failPacket s ep g (q.txCons + BitVec.ofNat 32 (ds.length - 1))) ep g)
  else
    let frame := q.bufs.flatMap (fun b => b.data.getD [])
    let n := qSlice q ep
    let twin := match sliceGet s n with
      | some x => x.twin
      | none => false
    if commitOrdered s (packetMeta (ds.map (fun d => d.2))) && !actorGate s then done (countGate s ep g r_ITW_CNT_GATED)
    else if 32 ≤ notStarted s q then done s
    else if twin && decide (4096 ≤ unfinished s (twinStream (16 + ep) (flowHash frame))) then done (countGate s ep g r_DVT_CNT_STREAM_WAIT)
    else match basinStore s frame.length n 1 none with
      | none => done s
      | some (fid, s) => done (txPump (acceptPacket s ep g fid ds frame) ep g)

/-- Ends reads of a queue pair: their data are discarded when they arrive. -/
def dropReads (s : State) (ep g : Nat) : State :=
  epMod s ep (fun e =>
    let kept := e.reads.filter (fun r => !(r.queue = g && decide (r.purpose ≤ 2) && !r.quarantined && r.data.isSome))
    { e with reads := kept.map (fun r => if r.queue = g ∧ r.purpose ≤ 2 ∧ ¬ r.quarantined then { r with purpose := 9 } else r)
             reissue := e.reissue.filter (fun r => !(r.queue = g && decide (r.purpose ≤ 2))) })

/-- A flush begins (R489): the queue pair takes nothing more. The first cause and its command stand. -/
def flushStart (s : State) (ep g cause : Nat) (cmd : Option (Nat × Nat)) : State :=
  let q := qpGet s ep g
  match q.state with
  | .inactive => s
  | .flushing => s
  | _ =>
    let gen := (fnGet s ep q.func).gen
    let (cause, cmd) := match q.drain with
      | some c => (3, some c)
      | none => (cause, cmd)
    dropReads (qpSet s ep g { q with state := .flushing, drain := none, halting := false, flush := some (cause, gen, cmd), descs := [],
                                     bufs := [], postings := [], armed := false }) ep g

/-- A drain with nothing left to complete goes on to its flush (R490). -/
def drainCheck (s : State) (ep g : Nat) : State :=
  let q := qpGet s ep g
  if q.drain.isSome ∧ q.packets = [] then flushStart s ep g 3 none else s

/-- TX_COMPLETE (R477, R478, R482): the oldest packet has left or was dropped; its entry is written in ring order. -/
def execTxComplete (ep g : Nat) (s : State) : Host.Outcome State Fault Refusal :=
  let q := qpGet s ep g
  match q.packets with
  | [] => done s
  | x :: rest =>
    let status := x.status.getD 0
    let silent := x.noCpl && decide (status = 0)
    if x.left ≠ 0 ∨ (epGet s ep).contained ∨ q.state = .flushing ∨ q.state = .inactive ∨ (¬ silent ∧ cqSpace q = 0) then done s
    else
      let s := qpSet s ep g { q with packets := rest, txCpl := x.last + 1 }
      let s := { s with nvt := { s.nvt with order := s.nvt.order.filter (fun u => u ≠ x.uid) } }
      let s := if silent then s
        else writeEntry s ep g (toLe 4 (4 * b2n x.stampValid + 8 * b2n x.demoted + 16 * status + 65536 * x.stampId) ++ toLe 4 x.last.toNat ++
          toLe 8 (if x.stampValid then x.stamp.toNat else 0))
      done (drainCheck (haltFinish s ep g) ep g)

/-! Receive (R479 to R482). -/

/-- A posting breaks R479: the cause, 0 for none. -/
def postingFault (d : Bytes) : Nat :=
  if le d 10 2 ≠ 0 ∨ ¬ (d.drop 12).all (fun b => b = 0) then 0x11 else if le d 8 2 < 256 then 0x13 else 0

/-- The 32-byte prefix (R480). -/
def rxPrefix (r : RxFrame) : Bytes :=
  let h := r.hdr
  toLe 4 h.flowHash.toNat ++ toLe 4 r.cookie.toNat ++ toLe 4 h.rspGroups.toNat ++ toLe 4 h.twinSeq.toNat ++ toLe 2 h.userFlags.toNat ++
    toLe 2 h.payloadOff ++ toLe 2 h.effEnd ++ toLe 1 h.source ++ toLe 1 h.cls ++ toLe 1 r.tc ++ zeros 7

/-- Postings that `n` bytes fill, in order; none while there are not enough. -/
def fillPostings : List (Word × Bytes) → Nat → Option (List (Word × Bytes))
  | [], n => if n = 0 then some [] else none
  | p :: l, n => if n = 0 then some [] else (fillPostings l (n - le p.2 8 2)).map (fun r => p :: r)

/-- Flags [15:8] of the last entry of a frame (R482). -/
structure RxFlags where
  dec : Bool
  auth : Bool
  hd : Bool
  dd : Bool
  placed : Bool
  deriving DecidableEq, Repr

def rxFlagBits (s : State) (r : RxFrame) (f : RxFlags) : Nat :=
  256 * b2n (r.l4Checked && decide (s.dev.base ≠ .restricted)) + 512 * b2n r.hdr.l4CsumBad + 1024 * b2n r.hdr.l3CsumBad +
    2048 * b2n f.dec + 4096 * b2n f.auth + 8192 * b2n f.hd + 16384 * b2n f.dd + 32768 * b2n f.placed

/-- One posting is used: its data and then its entry (R480, R482, R485). -/
def usePosting (s : State) (ep g : Nat) (p : Word × Bytes) (d : Bytes) (last : Bool) (status flags : Nat) (stamp : Dword) : State :=
  let q := qpGet s ep g
  let s := dmaWrite s ep q.func q.pasid true (le p.2 0 8) d
  let s := qpMod s ep g (fun q => { q with rxCons := p.1 + 1, postings := q.postings.drop 1, wbDue := true })
  writeEntry s ep g (toLe 4 (1 + 4 * b2n last + 16 * status + (if last then flags else 0) + 65536 * d.length) ++ toLe 4 p.1.toNat ++
    toLe 8 stamp.toNat)

/-- Writes a frame over its postings; the posting numbered `refused` has its translation refused and ends the frame (R481). -/
def usePostings (ep g : Nat) (flags : Nat) (stamp : Dword) : List (Word × Bytes) → Bytes → Option Nat → State → State
  | [], _, _, s => s
  | p :: l, d, refused, s =>
    match refused with
    | some 0 => usePosting s ep g p [] true 2 0 stamp
    | _ =>
      let n := le p.2 8 2
      usePostings ep g flags stamp l (d.drop n) (refused.map (· - 1)) (usePosting s ep g p (d.take n) l.isEmpty 0 flags stamp)

/-- The offloads of a delivered segment (R320, R325). -/
def rxOffload (s : State) (n queue : Nat) (q : QPair) (r : RxFrame) : State × Bytes × RxFlags :=
  let (s, b, dec, auth) := match r.sa with
    | some i => if saKind (saGet s i) = 3 then tlsReceive s i r.bytes else (s, r.bytes, false, false)
    | none => (s, r.bytes, false, false)
  let (s, hd, dd, placed) := nvtReceive s n queue q.pasid b
  (s, b, { dec := dec, auth := auth, hd := hd, dd := dd, placed := placed })

/-- Delivers the frame at the head of a queue pair over its postings. -/
def deliverRx (s : State) (ep g : Nat) (r : RxFrame) (ps : List (Word × Bytes)) (refused : Option Nat) : State :=
  let q := qpGet s ep g
  let s := qpSet s ep g { q with rx := q.rx.drop 1 }
  let (s, b, fl) := rxOffload s (qSlice q ep) (localQp s ep g) q r
  let data := (if q.prefix_ then rxPrefix r else []) ++ b
  let bad : Bool := match refused with
    | some i => decide (i < ps.length)
    | none => false
  let s := usePostings ep g (rxFlagBits s r fl) r.stamp ps data refused s
  let s := if bad ∨ q.func = 0 then s
    else bump64 (bump64 s (r_HIF_VF_RX_FRAMES ep q.func) 1) (r_HIF_VF_RX_OCTETS ep q.func) b.length
  rxPump (letGo s r.fid r.origin (if bad then some 1 else none)) ep g

/-- RX_DELIVER (R325, R444, R480, R481): the oldest frame, once its postings and completion space are there. -/
def execRxDeliver (ep g : Nat) (refused : Option Nat) (s : State) : Host.Outcome State Fault Refusal :=
  let q := qpGet s ep g
  match q.rx with
  | [] => done s
  | r :: rest =>
    if !qActive q then done s
    else if r.gen ≠ (fnGet s ep q.func).gen then done (staleGen (dropRx (qpSet s ep g { q with rx := rest }) r) ep)
    else match fillPostings q.postings ((if q.prefix_ then 32 else 0) + r.bytes.length) with
      | none => done s
      | some ps => if canIssue s ep q.func ∧ ps.length ≤ cqSpace q then done (deliverRx s ep g r ps refused) else done s

/-- RX_NOPOST_EXPIRE (R481): a lossy frame that has waited NOPOST_US is dropped. -/
def execRxNopostExpire (ep g i : Nat) (s : State) : Host.Outcome State Fault Refusal :=
  let q := qpGet s ep g
  match q.rx[i]? with
  | none => done s
  | some r =>
    if r.lossless then done s
    else
      let s := bump (dropRx (qpSet s ep g { q with rx := q.rx.eraseIdx i }) r) (r_RING_CNT_RX_NOPOST ep g)
      done (if q.func = 0 then s else bump s (r_HIF_VF_CNT_RX_NOPOST ep q.func))

/-- WRITE_BACK (R483). -/
def execWriteBack (ep g : Nat) (s : State) : Host.Outcome State Fault Refusal :=
  let q := qpGet s ep g
  if q.wbDue ∧ q.state ≠ .inactive ∧ canIssue s ep q.func then done (writeBack s ep g) else done s

/-! Completions of reads (R437 to R441, R452). -/

/-- Routing ID of a function (R424). -/
def routingId (ep f : Nat) : Nat := (Config.routingBase ep + f) % 65536

def dropTag (s : State) (ep tag : Nat) : State := epMod s ep (fun e => { e with reads := e.reads.filter (fun r => r.tag ≠ tag) })

/-- A buffer of the packet being fetched takes a result. -/
def bufTake (bs : List BufRead) (addr len : Nat) (f : BufRead → BufRead) : List BufRead :=
  match bs with
  | [] => []
  | b :: l => if b.addr = addr ∧ b.len = len ∧ b.issued ∧ ¬ b.failed ∧ b.data.isNone then f b :: l else b :: bufTake l addr len f

/-- A read fails (R438): its descriptor, posting, buffer or chain block fails. -/
def failRead (s : State) (ep : Nat) (r : ReadReq) : State :=
  let s := trace s (34 + ep) 2 0 (sliceOfFunc ep r.func) 0 (toLe 2 r.func ++ toLe 2 r.tag ++ toLe 8 r.addr)
  let q := qpGet s ep r.queue
  if r.purpose = 0 then halt s ep r.queue 8 0 (q.txCons + BitVec.ofNat 32 (txHead q).1.length)
  else if r.purpose = 1 then halt s ep r.queue 8 1 (q.rxCons + BitVec.ofNat 32 q.postings.length)
  else if r.purpose = 2 then qpSet s ep r.queue { q with bufs := bufTake q.bufs r.addr r.len (fun b => { b with failed := true }) }
  else if r.purpose = 3 ∨ r.purpose = 4 then chainError s r.queue
  else s

/-- The data of a read reach their place; a descriptor's and a chain block's wait for the row that takes them. -/
def takeData (s : State) (ep : Nat) (r : ReadReq) (d : Bytes) : State :=
  let q := qpGet s ep r.queue
  if r.purpose = 1 then
    let s := dropTag s ep r.tag
    let i := q.rxCons + BitVec.ofNat 32 q.postings.length
    if postingFault d ≠ 0 then halt s ep r.queue (postingFault d) 1 i
    else rxPump (qpSet s ep r.queue { q with postings := q.postings ++ [(i, d)] }) ep r.queue
  else if r.purpose = 2 then
    qpSet (dropTag s ep r.tag) ep r.queue { q with bufs := bufTake q.bufs r.addr r.len (fun b => { b with data := some (fit d r.len) }) }
  else if r.purpose = 9 then dropTag s ep r.tag
  else epMod s ep (fun e => { e with reads := e.reads.map (fun x => if x.tag = r.tag then { x with data := some (fit d r.len) } else x) })

/-- A completion for a quarantined tag (R439). -/
def lateCompletion (s : State) (ep : Nat) (r : ReadReq) : State :=
  let s := countBoth (dropTag s ep r.tag) ep r.func r_HIF_CNT_LATE_CPL r_HIF_VF_CNT_LATE_CPL
  errlogGen s 0x0120 ep (errFunc ep r.func) r.gen r.addr (toLe 2 r.tag ++ toLe 2 (routingId ep r.func))

/-- A completion that answers an outstanding read (R438, R440, R452). -/
def takeCompletion (s : State) (ep : Nat) (r : ReadReq) (status : Nat) (poisoned badEcrc : Bool) (d : Bytes) : State :=
  let ecrc := badEcrc && (fnGet s ep r.func).ecrcCheck
  let s := if ecrc then bump (aerLog s ep r.func aerEcrc) (r_HIF_CNT_ECRC ep) else s
  let s := if !ecrc && poisoned then bump (aerLog s ep r.func aerPoisoned) (r_HIF_CNT_POISONED ep) else s
  let s := if !ecrc && decide (1 ≤ status ∧ status < 7) then bump s (r_HIF_CNT_CPL_ERR ep) else s
  if ecrc || poisoned || decide (status ≠ 0) then failRead (dropTag s ep r.tag) ep r
  else takeData s ep r d

/-- CPL_RX (R438 to R440, R443, R452). -/
def execCplRx (ep tag status : Nat) (poisoned badEcrc : Bool) (data : Bytes) (s : State) : Host.Outcome State Fault Refusal :=
  match (epGet s ep).reads.find? (fun r => r.tag = tag && (r.data.isNone || r.quarantined)) with
  | none => done (aerAdvisory s ep 0 aerUnexpected)
  | some r =>
    if r.quarantined then done (pumpAll (lateCompletion s ep r) ep)
    else done (pumpAll (takeCompletion s ep r status poisoned badEcrc data) ep)

/-- CPL_TIMEOUT (R438, R439): the read fails and its tag is quarantined. -/
def execCplTimeout (ep tag : Nat) (s : State) : Host.Outcome State Fault Refusal :=
  match (epGet s ep).reads.find? (fun r => r.tag = tag && !r.quarantined && r.data.isNone) with
  | none => done s
  | some r =>
    let s := epMod s ep (fun e => { e with reads := e.reads.map (fun x =>
      if x.tag = tag then { x with quarantined := true, purpose := 9 } else x) })
    let s := countBoth (aerLog s ep r.func aerTimeout) ep r.func r_HIF_CNT_CPL_TIMEOUT r_HIF_VF_CNT_CPL_TIMEOUT
    let s := errlogGen s 0x0121 ep (errFunc ep r.func) r.gen r.addr (toLe 2 tag ++ toLe 2 (routingId ep r.func))
    done (pumpAll (failRead s ep r) ep)

/-- TAG_QUARANTINE_EXPIRE (R439): 64 s after the request. -/
def execTagQuarantineExpire (ep tag : Nat) (s : State) : Host.Outcome State Fault Refusal :=
  done (pumpAll (epMod s ep (fun e => { e with reads := e.reads.filter (fun r => !(r.tag = tag && r.quarantined)) })) ep)

/-! Flushes (R489 to R491). -/

def fromQp (key : Nat) (o : Option TxOrigin) : Bool :=
  match o with
  | some o => decide (o.key = key)
  | none => false

/-- The accepted packets of a queue pair leave the adapter: pipelines, Dovetail points, MAC lists and host rings. -/
def discardSent (s : State) (key : Nat) : State :=
  let s := { s with macs := s.macs.map (fun m =>
    (m.1, { m.2 with queue := m.2.queue.filter (fun f => !fromQp key f.origin), resends := m.2.resends.filter (fun f => !fromQp key f.origin) })) }
  let keep := fun (d : DovIsland) => { d with arrivals := d.arrivals.filter (fun a => !fromQp key a.pkt.origin),
                                              waiting := d.waiting.filter (fun a => !fromQp key a.pkt.origin) }
  let s := (List.range 4).foldl (fun s d => dovSet s d (keep (dovGet s d))) s
  let s := { s with rings := { s.rings with qps := s.rings.qps.map (fun (q : Nat × QPair) => (q.1, { q.2 with rx := q.2.rx.filter (fun r => !fromQp key r.origin) })) } }
  s.pkts.foldl (fun (s : State) (x : Nat × Pkt) => if fromQp key x.2.origin then
    (let s := match x.2.item with
      | some (c, h) => if x.2.stage = .cascade then itemFree s c h else s
      | none => s
     endCopy s x.1 x.2) else s) s

/-- Basin storage of a queue pair's packets is released whole. -/
def freeSent (s t : State) (key : Nat) : State :=
  let fids := (s.pkts.filter (fun x => fromQp key x.2.origin)).map (fun x => x.2.fid) ++
    s.macs.flatMap (fun m => (m.2.queue.filter (fun f => fromQp key f.origin)).map (fun f => f.fid)) ++
    s.macs.flatMap (fun m => (m.2.resends.filter (fun f => fromQp key f.origin)).map (fun f => f.fid)) ++
    s.rings.qps.flatMap (fun q => (q.2.rx.filter (fun r => fromQp key r.origin)).map (fun r => r.fid))
  fids.foldl (fun t fid => match mapGet t.basin.frames fid with
    | some f => basinFree t fid f
    | none => t) t

/-- A frame of the queue pair is in transmission. -/
def onWire (s : State) (key : Nat) : Bool :=
  s.macs.any (fun m => (match m.2.active with
    | some a => fromQp key a.frame.origin
    | none => false) || (match m.2.preempted with
    | some a => fromQp key a.frame.origin
    | none => false))

/-- The end of a flush (R489 to R491): everything held is discarded, the record is written and the queue pair is INACTIVE. -/
def flushEnd (s : State) (ep g cause : Nat) (old : BitVec 16) (cmd : Option (Nat × Nat)) : State :=
  let q := qpGet s ep g
  let key := qpKey ep g
  let s := qpSet s ep g { q with rxDiscard := q.rxDiscard + q.rx.length }
  let rec_ := resetRecord s ep g cause (decide (q.packets = [] ∧ q.rx = [])) old (fnGet s ep q.func).gen
  let s := q.rx.foldl dropRx s
  let s := freeSent s (discardSent s key) key
  let s := { s with nvt := { s.nvt with order := s.nvt.order.filter (fun u => !q.packets.any (fun x => x.uid = u)) } }
  let s := keepRecord (qpSet s ep g {}) ep q.func rec_
  match cmd with
  | some (ch, seq) => answer s ch seq rcOk rec_
  | none => s

/-- QUEUE_FLUSH (R489): a flush ends, once no frame of the queue pair is in transmission. -/
def execQueueFlush (ep g : Nat) (s : State) : Host.Outcome State Fault Refusal :=
  let q := qpGet s ep g
  match q.state, q.flush with
  | .flushing, some (cause, old, cmd) => if onWire s (qpKey ep g) then done s else done (flushEnd s ep g cause old cmd)
  | _, _ => done s

/-- DRAIN_TIMEOUT (R490): 100 ms have passed; the flush begins. -/
def execDrainTimeout (ep g : Nat) (s : State) : Host.Outcome State Fault Refusal :=
  if (qpGet s ep g).drain.isSome then done (flushStart s ep g 3 none) else done s

/-! Commands (R493, R494). -/

/-- Function that FUNC and ENDPOINT name (R493), or the code of the refusal. -/
def targetFunc (s : State) (ch func ep : Nat) : Except Nat (Nat × Nat) :=
  if func = 0xFFFF then
    match funcOfChan ch with
    | some x => .ok x
    | none => .error rcBadParam
  else if !chanHolds s ch && !(ch = 2056 && s.role.headless) then .error rcNotPermitted
  else if 1024 < func ∨ 1 < ep then .error rcBadParam
  else .ok (ep, func)

/-- Runs a queue command on the function and global queue pair its header names. -/
def withQueue (s : State) (ch seq : Nat) (req : Bytes) (f : Nat → Nat → Nat → State) : State :=
  match targetFunc s ch (le req 0 2) (byteAt req 2) with
  | .error c => answer s ch seq c []
  | .ok (ep, fn) =>
    match globalQp s ep fn (le req 4 2) with
    | some g => f ep fn g
    | none => answer s ch seq rcBadParam []

def logOk (n : Nat) : Bool := decide (6 ≤ n ∧ n ≤ 16)

/-- A ring's base is aligned to its size or to 4 KiB (R461). -/
def baseOk (base log entry : Nat) : Bool := decide (log = 0) || decide (base % min 4096 (entry * 2 ^ log) = 0)

/-- The attributes of a QUEUE_CREATE are in range (R461, R463, R493). -/
def createOk (s : State) (ep fn : Nat) (req : Bytes) : Bool :=
  let tx := byteAt req 8
  let rx := byteAt req 9
  let cq := byteAt req 10
  (decide (tx = 0) || logOk tx) && (decide (rx = 0) || logOk rx) && logOk cq && decide (byteAt req 11 ≤ 7) &&
    decide (le req 12 2 < vecCount s ep fn) && decide (le req 16 4 < 1048576) && baseOk (le req 24 8) tx 32 && baseOk (le req 32 8) rx 32 &&
    baseOk (le req 40 8) cq 16 && decide (le req 48 8 % 16 = 0)

/-- QUEUE_CREATE (R461 to R463, R488, R493, R494). -/
def execQueueCreate (ch seq : Nat) (s : State) : Host.Outcome State Fault Refusal :=
  command s ch seq 0x0300 (fun req => withQueue s ch seq req (fun ep fn g =>
    if (fnGet s ep fn).inError ∧ 8 ≤ ch then answer s ch seq rcNotPermitted []
    else if (qpGet s ep g).state ≠ .inactive ∨ ¬ createOk s ep fn req then answer s ch seq rcBadParam []
    else
      answer (qpSet s ep g
        { state := .active, func := fn, txLog := byteAt req 8, rxLog := byteAt req 9, cqLog := byteAt req 10, tc := byteAt req 11,
          prefix_ := bitAt (byteAt req 3) 1, vector := le req 12 2, nopostUs := le req 14 2,
          pasid := if bitAt (byteAt req 3) 0 then some (le req 16 4) else none, txBase := le req 24 8, rxBase := le req 32 8,
          cqBase := le req 40 8, wb := le req 48 8 }) ch seq rcOk []))

/-- QUEUE_DESTROY (R489, R490, R493). -/
def execQueueDestroy (ch seq : Nat) (s : State) : Host.Outcome State Fault Refusal :=
  command s ch seq 0x0301 (fun req => withQueue s ch seq req (fun ep _ g =>
    let q := qpGet s ep g
    if q.state = .inactive then answer s ch seq rcBadParam []
    else if q.state = .flushing ∨ q.drain.isSome then answer s ch seq rcBusy []
    else if bitAt (byteAt req 3) 0 ∧ q.state = .active ∧ ¬ q.halting then
      drainCheck (defer (dropReads (qpSet s ep g { q with drain := some (ch, seq), descs := [], bufs := [], postings := [] }) ep g) ch seq) ep g
    else flushStart (defer s ch seq) ep g 3 (some (ch, seq))))

def ringCfg (q : QPair) : Nat :=
  qCode q + 4 * q.func + 8192 * q.txLog + 262144 * q.rxLog + 8388608 * q.cqLog + 268435456 * q.tc + 2147483648 * b2n q.prefix_

def ringVec (q : QPair) : Nat := q.vector + 2048 * b2n q.armed + 4096 * q.nopostUs

/-- QUEUE_QUERY (R493, R496). -/
def execQueueQuery (ch seq : Nat) (s : State) : Host.Outcome State Fault Refusal :=
  command s ch seq 0x0302 (fun req => withQueue s ch seq req (fun ep _ g =>
    let q := qpGet s ep g
    answer s ch seq rcOk (toLe 4 (ringCfg q) ++ toLe 4 q.txProd.toNat ++ toLe 4 q.txCons.toNat ++ toLe 4 q.txCpl.toNat ++
      toLe 4 q.rxProd.toNat ++ toLe 4 q.rxCons.toNat ++ toLe 4 q.cqProd.toNat ++ toLe 4 q.cqCons.toNat ++ toLe 4 (ringVec q) ++
      toLe 4 (q.errCause + 256 * q.errRing) ++ toLe 4 q.errIndex.toNat)))

/-- QUEUE_MODIFY (R493). -/
def execQueueModify (ch seq : Nat) (s : State) : Host.Outcome State Fault Refusal :=
  command s ch seq 0x0303 (fun req => withQueue s ch seq req (fun ep fn g =>
    let q := qpGet s ep g
    let set_ := byteAt req 11
    if q.state = .inactive ∨ (bitAt set_ 0 ∧ vecCount s ep fn ≤ le req 8 2) ∨ (bitAt set_ 1 ∧ 7 < byteAt req 10) then
      answer s ch seq rcBadParam []
    else
      answer (qpSet s ep g { q with vector := if bitAt set_ 0 then le req 8 2 else q.vector, tc := if bitAt set_ 1 then byteAt req 10 else q.tc,
                                    nopostUs := if bitAt set_ 2 then le req 12 2 else q.nopostUs }) ch seq rcOk []))

/-- QUEUE_PF_ITR_SET (R433, R484, R493). -/
def execQueuePfItrSet (ch seq : Nat) (s : State) : Host.Outcome State Fault Refusal :=
  command s ch seq 0x0304 (fun req =>
    let ep := byteAt req 0
    let v := le req 2 2
    let n := le req 4 2
    if 1 < ep ∨ 2048 ≤ v ∨ 2047 < n then answer s ch seq rcBadParam []
    else answer (fnMod (setReg s (r_RING_PF_ITR ep v) (BitVec.ofNat 32 n)) ep 0 (fun x => { x with itr := mapSet x.itr v n })) ch seq rcOk [])

/-- Takes the first `n` records of a function out of the store, oldest first. -/
def takeRecords (ep f : Nat) : Nat → List (Nat × Nat × Bytes) → List Bytes × List (Nat × Nat × Bytes)
  | _, [] => ([], [])
  | 0, l => ([], l)
  | n + 1, r :: l =>
    if r.1 = ep ∧ r.2.1 = f then
      let (a, b) := takeRecords ep f n l
      (r.2.2 :: a, b)
    else
      let (a, b) := takeRecords ep f (n + 1) l
      (a, r :: b)

/-- RESET_RECORD_READ (R492, R493): what is read is removed. -/
def execResetRecordRead (ch seq : Nat) (s : State) : Host.Outcome State Fault Refusal :=
  command s ch seq 0x0308 (fun req =>
    match targetFunc s ch (le req 0 2) (byteAt req 2) with
    | .error c => answer s ch seq c []
    | .ok (ep, f) =>
      let n := byteAt req 3
      if n = 0 ∨ 5 < n then answer s ch seq rcBadParam []
      else
        let (got, rest) := takeRecords ep f n s.rings.records
        let left := (rest.filter (fun r => r.1 = ep && r.2.1 = f)).length
        answer { s with rings := { s.rings with records := rest } } ch seq rcOk
          (toLe 1 got.length ++ zeros 1 ++ toLe 2 (min 65535 (lostOf s ep)) ++ toLe 4 left ++ got.flatten))

end Sys2Proof.Machine
end

