-- ==== Sys2Proof/Machine/Pcie.lean ====
section
/-! DEFINITION. The PCI Express endpoints: links (R418 to R420), configuration (R421 to R426, R440 to R442, R451), interrupts (R431 to
R434), translations (R443), function level reset (R444 to R447), containment and its release (R448 to R450), violations (R452), and the
commands of the class (R453, R454). -/

namespace Sys2Proof.Machine

open Sys2Proof

/-! Links and lanes (R418 to R420). -/

/-- HIF_LINK_STATUS (R455). -/
def linkStatus (s : State) (ep : Nat) : Nat :=
  let e := epGet s ep
  e.speed + 8 * e.width + 256 * b2n e.flit + 512 * b2n e.dlUp + 1024 * b2n e.slow + 2048 * hwField s 0x027 (16 * ep + 15) (16 * ep)

/-- HIF_CONTAIN_STATUS (R455): the counts are kept in the register, the rest shows the endpoint. -/
def containStatus (s : State) (ep : Nat) : Nat :=
  let e := epGet s ep
  putBits (reg s (r_HIF_CONTAIN_STATUS ep)).toNat 15 0 (b2n e.contained + 2 * e.cause)

/-- HIF_LINK_CHANGE (R419, R454). -/
def noteLink (s : State) (ep : Nat) : State :=
  let e := epGet s ep
  eventToManager (mgrEventBoth s 6) 0x8120
    (toLe 1 ep ++ toLe 1 e.speed ++ toLe 1 e.width ++ toLe 1 (b2n e.flit + 2 * b2n e.dlUp + 4 * b2n e.slow))

/-- Lanes of the largest aligned group that holds no retired lane (R420). -/
def laneGroup (mask : Nat) : Nat :=
  ([16, 8, 4, 2, 1].find? (fun n =>
    (List.range (16 / n)).any (fun k => (List.range n).all (fun j => !bitAt mask (k * n + j))))).getD 0

def lanesRetired (s : State) (ep : Nat) : Nat := hwField s 0x027 (16 * ep + 15) (16 * ep)

/-- The link has a speed and width, and slow says that it is below 8 GT/s or below x8 (R419). -/
def linkSet (s : State) (ep speed width : Nat) (flit up : Bool) : State :=
  epMod s ep (fun e => { e with speed := speed, width := width, flit := flit, dlUp := up, slow := up && (decide (speed < 3) || decide (width < 8)) })

/-- PCIE_LINK_TRAIN (R418, R419, R454). -/
def execPcieLinkTrain (ep speed width : Nat) (flit : Bool) (s : State) : Host.Outcome State Fault Refusal :=
  if s.dev.base = .off ∨ s.dev.base = .held ∨ 1 < ep ∨ speed = 0 ∨ 6 < speed ∨ ¬ width ∈ [1, 2, 4, 8, 16] then done s
  else
    let s := epMod (linkSet s ep speed (min width (laneGroup (lanesRetired s ep))) (flit || decide (speed = 6)) true) ep
      (fun e => { e with perst := false })
    done (noteLink s ep)

/-- A PCIe lane is retired (R420, R603): the link re-forms on what is left, and stays up. -/
def retirePcieLane (s : State) (ep lane cause : Nat) : State :=
  let before := s
  let s := hwSetField s 0x027 (16 * ep + lane) (16 * ep + lane) 1
  let e := epGet s ep
  let s := if e.dlUp then noteLink (linkSet s ep e.speed (min e.width (laneGroup (lanesRetired s ep))) e.flit true) ep else s
  noteMode before (noteRetired s 5 cause (16 * ep + lane) 0 ep) 1

/-- The lane may be retired: it is in service and not the last one (R603). -/
def pcieLaneFree (s : State) (ep lane : Nat) : Bool :=
  decide (ep < 2 ∧ lane < 16) && !bitAt (lanesRetired s ep) lane &&
    (List.range 16).any (fun j => decide (j ≠ lane) && !bitAt (lanesRetired s ep) j)

/-- PCIE_LANE_ERROR_POLL (R603): 16 reads in a row found the lane's error status set. -/
def execPcieLaneErrorPoll (ep lane : Nat) (s : State) : Host.Outcome State Fault Refusal :=
  if pcieLaneFree s ep lane ∧ (hostOpen s) then done (retirePcieLane s ep lane 1) else done s

/-! Held writes and stopped reads (R440, R448, R450, R451). -/

/-- Held writes leave in their order, as far as their functions may send. -/
def sendHeld (s : State) (ep : Nat) : State :=
  let ws := (epGet s ep).held
  let s := epMod s ep (fun e => { e with held := e.held.filter (fun w => !canIssue s ep w.func) })
  ws.foldl (fun (s : State) (w : HeldWrite) =>
    if canIssue s ep w.func then emit s (.tlpWrite ep w.func w.pasid (w.relaxed && (fnGet s ep w.func).relaxed)
      (w.relaxed && (fnGet s ep w.func).ido) w.addr w.data) else s) s

/-- The outstanding reads of the functions that `p` names are stopped: their data will be discarded, and they are to be issued again. -/
def stopReads (s : State) (ep : Nat) (p : Nat → Bool) : State :=
  epMod s ep (fun e =>
    let hit := fun (r : ReadReq) => p r.func && !r.quarantined && r.data.isNone && decide (r.purpose ≠ 9)
    { e with reads := e.reads.map (fun r => if hit r then { r with purpose := 9 } else r)
             reissue := e.reissue ++ e.reads.filter hit })

/-- What waited for leave to send goes on (R440, R450). -/
def resumeSending (s : State) (ep : Nat) : State := pumpAll (sendHeld s ep) ep

/-! Configuration (R422 to R426, R440 to R442, R451). -/

/-- A configuration request reaches a function: its link is up, and the function exists; PF0s alone in boot recovery (R570, R584). -/
def cfgOpen (s : State) (ep f : Nat) : Bool :=
  decide (ep < 2) && (epGet s ep).dlUp &&
    ((hostOpen s && fnEnabled s ep f) || (s.dev.base = .boot && s.dev.recoveryOpen && decide (f = 0)))

/-- Runs a configuration write, answers it with Request Retry Status in BOOT, or leaves it unanswered where nothing is reached. -/
def cfgWrite (s : State) (ep f : Nat) (body : State → State) : Host.Outcome State Fault Refusal :=
  if cfgOpen s ep f then done (emit (body s) (.configCompletion ep f))
  else if s.dev.base = .boot ∧ ep < 2 ∧ (epGet s ep).dlUp then done (emit s (.configRetry ep f))
  else done s

/-- Configuration space at the values of a reset: what lies outside it stays, as do the sticky AER registers (R17: the base
specification). -/
def resetConfig (g : Func) : Func :=
  { gen := g.gen, flrActive := g.flrActive, inError := g.inError, errCause := g.errCause, errQueue := g.errQueue, errValid := g.errValid,
    resumed := g.resumed, vecUnmasked := g.vecUnmasked, due := g.due, pba := g.pba, itr := g.itr, holdoff := g.holdoff, msix := g.msix,
    config := g.config.filter (fun x => decide (0x100 ≤ x.1 ∧ x.1 ≤ 0x118)) }

/-- BUS_MASTER_ENABLE_WRITE (R440, R442). -/
def execBusMasterEnableWrite (ep f : Nat) (enable : Bool) (s : State) : Host.Outcome State Fault Refusal :=
  cfgWrite s ep f (fun s =>
    let s := fnMod s ep f (fun g => { g with bme := enable })
    if enable then resumeSending s ep else stopReads s ep (fun x => decide (x = f)))

/-- The configuration words of R422 that a host may write and that have no field of their own: the BARs and the AER registers. -/
def cfgStored (a : Nat) : Bool := decide (0x10 ≤ a ∧ a ≤ 0x24 ∧ a % 4 = 0) || [0x108, 0x10C, 0x114, 0x118].contains a

/-- A configuration word written: AER status bits clear where 1 is written. -/
def cfgWord (g : Func) (a value : Nat) : Func :=
  if a = 0x104 ∨ a = 0x110 then { g with config := mapSet g.config a (mapGetD g.config a 0 &&& ~~~(BitVec.ofNat 32 value)) }
  else if cfgStored a then { g with config := mapSet g.config a (BitVec.ofNat 32 value) }
  else g

/-- The effect of a configuration field on its function; a size that is not supported is not taken. -/
def cfgField (g : Func) (field value : Nat) : Func :=
  let b := decide (value % 2 = 1)
  if field = 0 then { g with intDisable := b }
  else if field = 1 then { g with d3hot := decide (value % 4 = 3) }
  else if field = 2 then { g with msixEnable := b }
  else if field = 3 then { g with funcMask := b }
  else if field = 4 then { g with ctoValue := value % 16 }
  else if field = 5 then { g with ltrEn := b }
  else if field = 6 then { g with atsEn := b }
  else if field = 7 then { g with ecrcCheck := b }
  else if field = 8 then (if [128, 256, 512].contains value then { g with maxPayload := value } else g)
  else if field = 9 then (if [128, 256, 512, 1024, 2048, 4096].contains value then { g with maxRead := value } else g)
  else if field = 10 then { g with tag10 := b }
  else if field = 11 then { g with tag14 := b }
  else if field = 12 then { g with relaxed := b }
  else if field = 13 then { g with ido := b }
  else if 0x100 ≤ field then cfgWord g (field - 0x100) value
  else g

/-- CONFIG_WRITE (R422, R437, R451). A function that enters D3hot stops as without Bus Master Enable, and one that leaves it goes on. -/
def execConfigWrite (ep f field value : Nat) (s : State) : Host.Outcome State Fault Refusal :=
  cfgWrite s ep f (fun s =>
    let s := fnMod s ep f (fun g => cfgField g field value)
    if (fnGet s ep f).d3hot then stopReads s ep (fun x => decide (x = f)) else resumeSending s ep)

/-! Function level reset (R444 to R447). -/

/-- The queue pairs of a function. -/
def queuesOf (s : State) (ep f : Nat) : List Nat :=
  (s.rings.qps.filter (fun q => decide (q.1 / 8192 = ep ∧ q.2.func = f ∧ q.2.state ≠ .inactive))).map (fun q => q.1 % 8192)

/-- Requests that a function has made and not sent: held writes and due vectors. -/
def unsent (s : State) (ep f : Nat) : Nat :=
  ((epGet s ep).held.filter (fun w => w.func = f)).length + (fnGet s ep f).due.length

/-- The generation of a function increases: what it had not sent is discarded and counted, its outstanding reads are quarantined, and its
queue pairs flush (R444, R446, R489). -/
def nextGeneration (s : State) (ep f cause : Nat) : State :=
  let s := (queuesOf s ep f).foldl (fun s g => flushStart s ep g cause none) s
  let s := bumpBy s (r_HIF_CNT_STALE_GEN ep) (unsent s ep f)
  let s := epMod s ep (fun e =>
    let mine := fun (r : ReadReq) => decide (r.func = f) && !r.quarantined
    { e with held := e.held.filter (fun w => w.func ≠ f)
             reissue := e.reissue.filter (fun r => r.func ≠ f)
             reads := (e.reads.filter (fun r => !(mine r && r.data.isSome))).map (fun r =>
               if mine r then { r with quarantined := true, purpose := 9 } else r) })
  fnMod s ep f (fun g => { g with gen := g.gen + 1, due := [], pba := [] })

/-- An FLR of one function begins (R446, steps 1 and 2). One written while it runs is ignored (R445). -/
def flrStart (s : State) (ep f cause : Nat) : State :=
  if (fnGet s ep f).flrActive then s
  else
    let s := nextGeneration s ep f cause
    let s := fnMod s ep f (fun g => { resetConfig g with maxPayload := g.maxPayload, flrActive := true })
    trace s (34 + ep) 3 0 (sliceOfFunc ep f) 0 (toLe 2 f ++ toLe 2 (fnGet s ep f).gen.toNat)

/-- INTA is deasserted, when it was asserted (R434). -/
def dropInta (s : State) (ep : Nat) : State :=
  if (epGet s ep).intx then emit (epMod s ep (fun e => { e with intx := false })) (.intx ep false) else s

/-- The VFs that are enabled (R424, R426). -/
def enabledVfs (s : State) (ep : Nat) : List Nat :=
  let p := fnGet s ep 0
  if p.vfEnable then (List.range p.numVfs).map (fun i => i + 1) else []

/-- An FLR of a function; that of PF0 clears VF Enable and includes its VFs (R426, R447). -/
def flrFunction (s : State) (ep f cause : Nat) : State :=
  if f ≠ 0 then flrStart s ep f cause
  else if (fnGet s ep 0).flrActive then s
  else
    let vfs := enabledVfs s ep
    let s := flrStart (dropInta s ep) ep 0 cause
    vfs.foldl (fun s v => flrStart s ep v (if cause = 0 then 1 else cause)) s

/-- FLR_INITIATE (R445, R446). -/
def execFlrInitiate (ep f : Nat) (s : State) : Host.Outcome State Fault Refusal :=
  cfgWrite s ep f (fun s => flrFunction s ep f 0)

/-- VF_ENABLE_CHANGE (R424, R426): each VF that disappears takes an FLR. -/
def execVfEnableChange (ep : Nat) (enable : Bool) (numVfs : Nat) (s : State) : Host.Outcome State Fault Refusal :=
  if 1024 < numVfs then done s
  else cfgWrite s ep 0 (fun s =>
    let old := enabledVfs s ep
    let s := fnMod s ep 0 (fun g => { g with vfEnable := enable, numVfs := numVfs })
    let new := enabledVfs s ep
    (old.filter (fun v => !new.contains v)).foldl (fun s v => flrStart s ep v 0) s)

/-- The SAs and contexts that the function's VF driver wrote are invalidated (R446). -/
def invalidateOwn (s : State) (ep f : Nat) : State :=
  match sliceGet s (sliceOfFunc ep f) with
  | none => s
  | some x =>
    let sas := s.cry.byDriver.filter (fun i => decide (x.saBase ≤ i ∧ i < x.saBase + x.saCount))
    let ctxs := s.nvt.byDriver.filter (fun i => decide (x.nvtBase ≤ i ∧ i < x.nvtBase + x.nvtCount))
    { s with
      cry := { s.cry with sas := s.cry.sas.filter (fun p => !sas.contains p.1), byDriver := s.cry.byDriver.filter (fun i => !sas.contains i) }
      nvt := { s.nvt with ctxs := s.nvt.ctxs.filter (fun p => !ctxs.contains p.1), walkers := s.nvt.walkers.filter (fun p => !ctxs.contains p.1),
                          places := s.nvt.places.filter (fun p => !ctxs.contains (p.1 / 4096)),
                          partialPdu := s.nvt.partialPdu.filter (fun p => !ctxs.contains p.1),
                          resume := s.nvt.resume.filter (fun p => !ctxs.contains p.1),
                          byDriver := s.nvt.byDriver.filter (fun i => !ctxs.contains i) } }

/-- First address of a VF page in the register file (notes/assumptions/6.md). -/
def vfPage (ep v : Nat) : Nat := 281474976710656 + ep * 134217728 + v * 65536

/-- Registers of `n` bytes from `a` take their Reset values. -/
def regsReset (s : State) (a n : Nat) : State :=
  let out := fun (k : Nat) => !decide (a ≤ k ∧ k < a + n)
  { s with regs := s.regs.filter (fun p => out p.1), latches := s.latches.filter (fun l => out l.addr) }

/-- Channels of a function. -/
def chansOf (ep f : Nat) : List Nat := if f = 0 then [4 * ep, 4 * ep + 1, 4 * ep + 2, 4 * ep + 3] else [chanOfVf ep f]

/-- The mailbox endpoint of a function resets (R503, R512 to R514): the held messages stay and are shown again. -/
def chanFlr (s : State) (ch : Nat) : State :=
  let s := bumpHostGen s ch
  let s := chanMod s ch (fun c => { c with outBuf := [], reject := false, crossHost := false, vector := 0, intEn := false })
  if hostShown (chanGet s ch) then showToHost s ch else s

/-- Step 3 of an FLR for what belongs to PF0: its interrupt registers, the hold-offs of its vectors and its window registers' vector. -/
def pfRegsReset (s : State) (ep : Nat) : State :=
  regsReset (regsReset s (r_HIF_MGR_EVENT_EN ep) 8) (r_RING_PF_ITR ep 0) 8192

/-- An FLR ends (R446, steps 3 to 5). -/
def flrEnd (s : State) (ep f : Nat) : State :=
  let s := invalidateOwn s ep f
  let s := if f = 0 then pfRegsReset s ep else regsReset s (vfPage ep f) 65536
  let s := fnMod s ep f (fun g =>
    { g with flrActive := false, inError := false, errCause := 0, errQueue := 0, errValid := false, resumed := false, vecUnmasked := [],
             due := [], pba := [], itr := [], holdoff := [], msix := [] })
  let s := (chansOf ep f).foldl chanFlr s
  eventToManager (mgrEventBoth s 2) 0x8123 (toLe 1 ep ++ zeros 1 ++ toLe 2 f ++ toLe 2 (fnGet s ep f).gen.toNat ++ zeros 2)

/-- FLR_COMPLETE (R446, R447, R454): no queue pair of the function flushes any more, nor, for PF0, does an FLR of a VF run. -/
def execFlrComplete (ep f : Nat) (s : State) : Host.Outcome State Fault Refusal :=
  if ep < 2 ∧ (fnGet s ep f).flrActive ∧ queuesOf s ep f = [] ∧
      (f ≠ 0 ∨ ¬ (epGet s ep).funcs.any (fun p => decide (p.1 ≠ 0) && p.2.flrActive)) then done (flrEnd s ep f) else done s

/-! The manager role (R525 to R527). -/

/-- The role has another holder: MGR_ROLE_CHANGE goes to both PF0s (R549). -/
def setHolder (s : State) (h : Holder) (cause : Nat) : State :=
  if s.role.holder = h then s
  else
    let s := { s with role := { s.role with holder := h, changes := s.role.changes + 1, since := stampNow s } }
    let b := toLe 1 (holderCode h) ++ toLe 1 s.role.homeEp ++ toLe 1 cause ++ zeros 1
    eventToPf0 (eventToPf0 s 0 0x8110 b) 1 0x8110 b

/-- The endpoint of the holder is contained (R526, R578). -/
def roleMove (s : State) (ep : Nat) : State :=
  let home := s.role.homeEp
  let enter := fun (s : State) => { s with role := { s.role with headless := true } }
  match s.role.holder with
  | .home =>
    if ep ≠ home then s
    else noteMode s (setHolder (enter s) (if s.role.altEn ∧ ¬ (epGet s (1 - home)).contained then .alternate else .none) 2) 2
  | .alternate =>
    if ep = home then s
    else if s.role.headless then setHolder s .none 4
    else if (epGet s home).contained then noteMode s (setHolder (enter s) .none 2) 2
    else setHolder s .home 4
  | .none => s

/-! Containment (R448 to R450). -/

/-- Adds 1 to a saturating byte of HIF_CONTAIN_STATUS. -/
def containCount (s : State) (ep lo : Nat) : State :=
  let a := r_HIF_CONTAIN_STATUS ep
  let v := (reg s a).toNat
  setReg s a (BitVec.ofNat 32 (putBits v (lo + 7) lo (min 255 (bits v (lo + 7) lo + 1))))

/-- The last `n` posted writes of an endpoint, oldest first. -/
def lastWrites (ep : Nat) : Nat → List Output → List HeldWrite
  | 0, _ => []
  | _, [] => []
  | n + 1, o :: l =>
    match o with
    | .tlpWrite e f pasid relaxed _ addr data =>
      if e = ep then lastWrites ep n l ++ [{ func := f, pasid := pasid, relaxed := relaxed, addr := addr, data := data }]
      else lastWrites ep (n + 1) l
    | _ => lastWrites ep (n + 1) l

/-- The endpoint is contained (R448): nothing leaves it, its unacknowledged writes are held, and its reads are stopped. A reset of the link
resets configuration space. -/
def containBegin (s : State) (ep cause unacked : Nat) : State :=
  let s := dropInta s ep
  let s := epMod s ep (fun e => { e with contained := true, cause := cause, held := lastWrites ep unacked s.out.reverse ++ e.held })
  let waiting := ((epGet s ep).reads.filter (fun r => !r.quarantined && r.data.isNone)).length
  let s := stopReads s ep (fun _ => true)
  let s := if cause = 5 then s
    else epMod s ep (fun e => { e with transCache := [], funcs := e.funcs.map (fun p => (p.1, resetConfig p.2)) })
  let s := roleMove s ep
  let s := errlog s 0x0122 ep 0xFFFF 0 (toLe 1 ep ++ toLe 1 cause)
  eventToManager (mgrEventBoth s 1) 0x8121
    (toLe 1 ep ++ toLe 1 cause ++ zeros 2 ++ toLe 4 (epGet s ep).held.length ++ toLe 4 waiting)

/-- ENDPOINT_CONTAIN (R448, R449, R526). -/
def execEndpointContain (ep cause unacked : Nat) (s : State) : Host.Outcome State Fault Refusal :=
  if s.dev.base = .off ∨ s.dev.base = .held ∨ 1 < ep ∨ cause = 0 ∨ 5 < cause then done s
  else
    let s := if cause = 2 then epMod s ep (fun e => { e with perst := true }) else s
    let s := if cause ≠ 5 ∧ (epGet s ep).dlUp then noteLink (linkSet s ep 0 0 false false) ep else s
    let s := containCount s ep 16
    done (if (epGet s ep).contained then s else containBegin s ep cause unacked)

/-- The writer may release the endpoint (R450, R578). -/
def mayRelease (s : State) (writer ep : Nat) : Bool :=
  match holderEp s with
  | some h => decide (h = writer)
  | none => decide (writer = ep ∧ writer = s.role.homeEp)

/-- What RESUME does (R450, R459). -/
def releaseResume (s : State) (ep : Nat) : State :=
  let s := (vfsOf s ep).foldl (fun s v => fnMod s ep v (fun g => { g with resumed := true })) s
  resumeSending s ep

/-- What RESET does (R450): every function of the endpoint is reset as by an FLR. -/
def releaseReset (s : State) (ep : Nat) : State :=
  (vfsOf s ep).foldl (fun s v => flrStart s ep v 4) (flrFunction s ep 0 4)

/-- A release of containment in one of its modes; refused and counted while the link is down (R450). -/
def containRelease (s : State) (writer ep mode : Nat) : State :=
  if 1 < ep ∨ ¬ (epGet s ep).contained ∨ ¬ mayRelease s writer ep then s
  else if ¬ (epGet s ep).dlUp then containCount s ep 24
  else
    let s := epMod s ep (fun e => { e with contained := false })
    let s := if mode = 0 then releaseResume s ep else releaseReset s ep
    eventToManager (mgrEventBoth s 1) 0x8122 (toLe 1 ep ++ toLe 1 mode ++ zeros 2)

/-- CONTAIN_RELEASE_RESUME (R450). -/
def execContainReleaseResume (writer ep : Nat) (s : State) : Host.Outcome State Fault Refusal := done (containRelease s writer ep 0)

/-- CONTAIN_RELEASE_RESET (R450). -/
def execContainReleaseReset (writer ep : Nat) (s : State) : Host.Outcome State Fault Refusal := done (containRelease s writer ep 1)

/-! Interrupts (R431 to R434). -/

/-- A vector's message may leave (R432, R440, R446, R451). -/
def msixOpen (s : State) (ep f v : Nat) : Bool :=
  let g := fnGet s ep f
  canIssue s ep f && g.msixEnable && !g.funcMask && g.vecUnmasked.contains v

/-- Sends the message of a vector, which starts its hold-off (R432, R433). -/
def msixNow (s : State) (ep f v : Nat) : State :=
  let g := fnGet s ep f
  let e := mapGetD g.msix v (0, 0)
  let held := decide (mapGetD g.itr v 0 ≠ 0)
  emit (fnSet s ep f { g with due := g.due.filter (fun x => x ≠ v), pba := g.pba.filter (fun x => x ≠ v),
                              holdoff := if held then mapSet g.holdoff v false else g.holdoff }) (.msix ep f v e.1 e.2)

/-- A due vector that may not send sets its PBA bit (R432). -/
def msixPend (s : State) (ep f v : Nat) : State :=
  fnMod s ep f (fun g => { g with due := g.due.filter (fun x => x ≠ v), pba := if g.pba.contains v then g.pba else g.pba ++ [v] })

/-- MSIX_SEND (R432, R433): a due vector, or one whose PBA bit is set. -/
def execMsixSend (ep f v : Nat) (s : State) : Host.Outcome State Fault Refusal :=
  let g := fnGet s ep f
  if !(g.due.contains v || g.pba.contains v) then done s
  else if !msixOpen s ep f v then done (msixPend s ep f v)
  else if mapHas g.holdoff v then
    done (fnSet s ep f { g with due := g.due.filter (fun x => x ≠ v), pba := g.pba.filter (fun x => x ≠ v), holdoff := mapSet g.holdoff v true })
  else done (msixNow s ep f v)

/-- ITR_HOLDOFF_EXPIRE (R433): one message stands for the events that coalesced. -/
def execItrHoldoffExpire (ep f v : Nat) (s : State) : Host.Outcome State Fault Refusal :=
  match mapGet (fnGet s ep f).holdoff v with
  | none => done s
  | some again =>
    let s := fnMod s ep f (fun g => { g with holdoff := mapErase g.holdoff v })
    if !again then done s else if msixOpen s ep f v then done (msixNow s ep f v) else done (msixPend s ep f v)

/-- The condition of INTA (R434). -/
def intaWanted (s : State) (ep : Nat) : Bool :=
  let g := fnGet s ep 0
  decide ((reg s (r_HIF_MGR_EVENT ep)).toNat &&& (reg s (r_HIF_MGR_EVENT_EN ep)).toNat ≠ 0) && !g.intDisable && !g.msixEnable &&
    !(epGet s ep).contained

/-- INTA_CHANGE (R434). -/
def execIntaChange (ep : Nat) (s : State) : Host.Outcome State Fault Refusal :=
  let w := intaWanted s ep
  if ep < 2 ∧ hostOpen s ∧ (epGet s ep).intx ≠ w then done (emit (epMod s ep (fun e => { e with intx := w })) (.intx ep w)) else done s

/-! Translations, LTR, violations and DOE (R423, R436, R443, R452). -/

/-- ATS_INVALIDATE (R443): the translations go at once; the completion waits for the requests that used them. -/
def execAtsInvalidate (ep f : Nat) (pasid : Option Nat) (addr len : Nat) (s : State) : Host.Outcome State Fault Refusal :=
  if ¬ cfgOpen s ep f then done s
  else
    let inside := fun (a n : Nat) => decide (a < addr + len ∧ addr < a + n)
    let s := epMod s ep (fun e => { e with transCache := e.transCache.filter (fun t =>
      !(decide (t.1 = f ∧ t.2.1 = pasid.getD 1048576) && inside (t.2.2 * 4096) 4096)) })
    if (epGet s ep).reads.any (fun r => decide (r.func = f ∧ r.pasid = pasid) && r.data.isNone && inside r.addr r.len) then done s
    else
      let s := if f = 0 then s else bump s (r_HIF_VF_CNT_ATS_INV ep f)
      done (emit s (.invalidateCpl ep f))

/-- The LTR values change (R436). -/
def ltrWrite (s : State) (ep : Nat) (value : Word) : State :=
  let v := value &&& 0x9FFF9FFF#32
  if reg s (r_HIF_LTR ep) = v then s
  else
    let s := setReg s (r_HIF_LTR ep) v
    if (fnGet s ep 0).ltrEn ∧ (epGet s ep).dlUp ∧ ¬ (epGet s ep).contained then emit s (.ltr ep v) else s

/-- HIF_LTR_WRITE (R436). -/
def execHifLtrWrite (ep : Nat) (value : Word) (s : State) : Host.Outcome State Fault Refusal :=
  if ep < 2 then done (ltrWrite s ep value) else done s

/-- TLP_VIOLATION (R452). -/
def execTlpViolation (ep f kind len : Nat) (s : State) : Host.Outcome State Fault Refusal :=
  if 1 < ep ∨ ¬ hostOpen s ∨ ¬ (epGet s ep).dlUp then done s
  else if kind = 0 then done (bump (aerLog s ep f aerMalformed) (r_HIF_CNT_MALFORMED ep))
  else if kind = 1 then
    if (fnGet s ep f).ecrcCheck then done (bump (aerLog s ep f aerEcrc) (r_HIF_CNT_ECRC ep)) else done s
  else if kind = 2 then done (bump (aerAdvisory s ep f aerPoisoned) (r_HIF_CNT_POISONED ep))
  else if kind = 3 then done (bump (aerLog s ep f aerUnsupported) (r_HIF_CNT_UR ep))
  else if kind = 4 ∨ kind = 5 then done (emit (bump (aerLog s ep f aerUnsupported) (r_HIF_CNT_UR ep)) (.completion ep f none))
  else if kind = 6 then done (emit s (.completion ep f (some (zeros len))))
  else done s

/-- DOE_DISCOVERY (R423, R452): Discovery is index 0 and SPDM index 1 (base specification). -/
def execDoeDiscovery (ep index : Nat) (s : State) : Host.Outcome State Fault Refusal :=
  if cfgOpen s ep 0 then
    let dw := if index = 0 then 0x01000001 else if index = 1 then 0x00010001 else 0x0000FFFF
    done (emit s (.doe ep (toLe 4 1 ++ toLe 4 3 ++ toLe 4 dw)))
  else done s

/-! Commands (R453). -/

/-- Entry of the window translation table (R428). -/
def wttGet (s : State) (ep i : Nat) : Word × Word :=
  if i = 0 then (BitVec.ofNat 32 (0x4000000 * ep + 7), 0x13#32) else mapGetD (epGet s ep).wtt i (0, 0)

/-- HIF_WTT_SET (R429, R453). -/
def execHifWttSet (ch seq : Nat) (s : State) : Host.Outcome State Fault Refusal :=
  command s ch seq 0x0120 (fun req =>
    let ep := byteAt req 0
    let first := byteAt req 1
    let n := byteAt req 2
    let ent := fun i => (le req (4 + 8 * i) 4, le req (8 + 8 * i) 4)
    if 1 < ep ∨ first = 0 ∨ n = 0 ∨ 30 < n ∨ 256 < first + n ∨ byteAt req 3 ≠ 0 ∨
        (List.range n).any (fun i => decide (bits (ent i).1 17 3 ≠ 0 ∨ bits (ent i).2 31 16 ≠ 0)) then answer s ch seq rcBadParam []
    else
      let put := fun (w : AMap (Word × Word)) (i : Nat) => mapSet w (first + i) (BitVec.ofNat 32 (ent i).1, BitVec.ofNat 32 (ent i).2)
      answer (epMod s ep (fun e => { e with wtt := (List.range n).foldl put e.wtt })) ch seq rcOk [])

/-- HIF_WTT_READ (R453). -/
def execHifWttRead (ch seq : Nat) (s : State) : Host.Outcome State Fault Refusal :=
  command s ch seq 0x0121 (fun req =>
    let ep := byteAt req 0
    let first := byteAt req 1
    let n := byteAt req 2
    if 1 < ep ∨ n = 0 ∨ 30 < n ∨ 256 < first + n then answer s ch seq rcBadParam []
    else answer s ch seq rcOk (req ++ (List.range n).flatMap (fun i =>
      toLe 4 (wttGet s ep (first + i)).1.toNat ++ toLe 4 (wttGet s ep (first + i)).2.toNat)))

/-- HIF_LINK_QUERY (R453): the counters are reported and not cleared. -/
def execHifLinkQuery (ch seq : Nat) (s : State) : Host.Outcome State Fault Refusal :=
  command s ch seq 0x0122 (fun req =>
    let ep := byteAt req 0
    if 1 < ep then answer s ch seq rcBadParam []
    else answer s ch seq rcOk (toLe 4 (linkStatus s ep) ++ toLe 4 (containStatus s ep) ++
      toLe 4 (counter s (r_HIF_CNT_CPL_TIMEOUT ep)).toNat ++ toLe 4 (counter s (r_HIF_CNT_LATE_CPL ep)).toNat))

/-- HIF_LANE_RETIRE (R420, R453, R603). -/
def execHifLaneRetire (ch seq : Nat) (s : State) : Host.Outcome State Fault Refusal :=
  command s ch seq 0x0123 (fun req =>
    let ep := byteAt req 0
    let lane := byteAt req 1
    if !pcieLaneFree s ep lane then answer s ch seq rcBadParam []
    else
      let s := retirePcieLane s ep lane 0
      let e := epGet s ep
      answer s ch seq rcOk (toLe 1 (if e.dlUp then e.width else laneGroup (lanesRetired s ep)) ++ zeros 3))

end Sys2Proof.Machine
end

