-- ==== Sys2Proof/Machine/Slices.lean ====
section
/-! DEFINITION. Slices and functions (R38 to R44, R553 to R562): the request of 80 bytes and its checks, the pools, creation,
modification, destruction, the calendar switch and the queries. -/

namespace Sys2Proof.Machine

open Sys2Proof

/-! Calendars (R41, R555). -/

/-- A START record names a position. -/
def StartRec.covers (r : StartRec) (pos : Nat) : Bool :=
  decide (r.first ≤ pos ∧ (pos - r.first) % r.stride = 0 ∧ (pos - r.first) / r.stride < r.count)

/-- START records of a slice once every change that waits has taken effect. -/
def startOf (x : Slice) : List StartRec :=
  match x.pendingStart with
  | some p => p.1
  | none => x.start

/-- START records name a position of a pipeline. -/
def startCovers (l : List StartRec) (pl pos : Nat) : Bool :=
  match l[pl]? with
  | some r => r.covers pos
  | none => false

/-- The calendars as the slices' records have them: pipeline × 4096 + position ↦ slice. -/
def calendarOf (tab : AMap Slice) : AMap Nat :=
  (List.range 16384).filterMap (fun k => (tab.find? (fun x => startCovers x.2.start (k / 4096) (k % 4096))).map (fun x => (k, x.1)))

/-- CALENDAR_RESERVATION_SWITCH (R557 to R559): the positions take effect on all four pipelines, and the commands are answered. -/
def execCalendarReservationSwitch (s : State) : Host.Outcome State Fault Refusal :=
  let cmds := s.slices.tab.flatMap (fun x => match x.2.pendingStart with
    | some p => p.2
    | none => [])
  let tab := s.slices.tab.map (fun x => (x.1, { x.2 with start := startOf x.2, pendingStart := none }))
  let s := { s with slices := { s.slices with tab := tab, calendar := calendarOf tab } }
  done (cmds.foldl (fun s c => answer s c.1 c.2.1 rcOk c.2.2) s)

/-! The request (R555). -/

def recOf (req : Bytes) (pl : Nat) : StartRec :=
  { first := le req (52 + 6 * pl) 2, stride := le req (54 + 6 * pl) 2, count := le req (56 + 6 * pl) 2 }

/-- A record as SLICE_QUERY reports it: of COUNT 0, only that. -/
def normRec (r : StartRec) : StartRec := if r.count = 0 then { first := 0, stride := 1, count := 0 } else r

/-- The slice that a request describes, bases as given. -/
def sliceOfReq (req : Bytes) : Slice :=
  { func := le req 0 2, ep := byteAt req 2, twin := decide (byteAt req 3 = 1), railMask := byteAt req 4, openEligible := bitAt (byteAt req 5) 0,
    qpBase := le req 8 2, qpCount := le req 10 2, vecCount := le req 12 2, w0Base := le req 16 2, w0Count := le req 18 2,
    w1Base := le req 20 2, w1Count := le req 22 2, basinPages := le req 24 4, cstQuota := le req 28 4, saBase := le req 32 4,
    saCount := le req 36 4, nvtBase := le req 40 4, nvtCount := le req 44 4, cscWeight := BitVec.ofNat 32 (le req 48 4),
    start := (List.range 4).map (fun i => normRec (recOf req i)) }

def recBytes (r : StartRec) : Bytes := toLe 2 r.first ++ toLe 2 r.stride ++ toLe 2 r.count

/-- The 80 bytes of R555 with a slice's values and SET 0. -/
def sliceBytes (x : Slice) : Bytes :=
  toLe 2 x.func ++ toLe 1 x.ep ++ toLe 1 (b2n x.twin) ++ toLe 1 x.railMask ++ toLe 1 (b2n x.openEligible) ++ zeros 2 ++ toLe 2 x.qpBase ++
    toLe 2 x.qpCount ++ toLe 2 x.vecCount ++ zeros 2 ++ toLe 2 x.w0Base ++ toLe 2 x.w0Count ++ toLe 2 x.w1Base ++ toLe 2 x.w1Count ++
    toLe 4 x.basinPages ++ toLe 4 x.cstQuota ++ toLe 4 x.saBase ++ toLe 4 x.saCount ++ toLe 4 x.nvtBase ++ toLe 4 x.nvtCount ++
    toLe 4 x.cscWeight.toNat ++ ((startOf x).map (fun r => recBytes (normRec r))).flatten ++ zeros 4

/-- A base field is in range: taken as given, or the lowest free run, or of no effect with a count of 0 (R555, R556). -/
def baseFits (base count auto lo hi : Nat) : Bool :=
  decide (count = 0) || decide (base = auto) || decide (lo ≤ base ∧ base + count ≤ hi)

/-- Faults of a record of START, by offset: a field out of range, and then, at the record's own offset, a position past the
calendar, a pipeline of a rail outside the mask, or a Twin record that differs from that of rail A (R555). -/
def recFaults (req : Bytes) (mask : Nat) (twin : Bool) (pl : Nat) : List (Nat × Bool) :=
  let r := recOf req pl
  let o := 52 + 6 * pl
  let first := decide (r.count ≠ 0 ∧ 4095 < r.first)
  let stride := decide (r.count ≠ 0 ∧ (r.stride = 0 ∨ 4096 < r.stride))
  let count := decide (3072 < r.count)
  [ (o, first), (o + 2, stride), (o + 4, count),
    (o, !first && !stride && !count && decide (r.count ≠ 0) &&
          (decide (4095 < r.first + (r.count - 1) * r.stride) || !bitAt mask (pl / 2)) ||
        (twin && decide (2 ≤ pl ∧ normRec (recOf req (pl - 2)) ≠ normRec r))) ]

/-- Offsets of faulty fields of a request, in order (R555, R556). -/
def reqFaults (req : Bytes) (create : Bool) : List Nat :=
  let x := sliceOfReq req
  let w := x.cscWeight.toNat
  let nv := 65536 * x.ep
  let twin := x.twin
  ([ (0, decide (1024 < x.func) || (create && decide (x.func = 0))), (2, decide (1 < x.ep)), (3, decide (1 < byteAt req 3)),
     (4, decide (x.railMask = 0 ∨ 3 < x.railMask) || (twin && decide (x.railMask ≠ 3))), (5, decide (1 < byteAt req 5)),
     (6, decide (le req 6 2 ≠ 0)), (8, !baseFits x.qpBase x.qpCount 0xFFFF 0 8192), (10, decide (8192 < x.qpCount)),
     (12, decide (x.vecCount = 0 ∨ 2048 < x.vecCount)), (14, decide (le req 14 2 ≠ 0)), (16, !baseFits x.w0Base x.w0Count 0xFFFF 0 32768),
     (18, decide (32768 < x.w0Count) || decide (x.w0Count + x.w1Count = 0)), (20, !baseFits x.w1Base x.w1Count 0xFFFF 32768 65536),
     (22, decide (32768 < x.w1Count)), (24, decide (4194304 < x.basinPages)), (28, decide (4194304 < x.cstQuota)),
     (32, !baseFits x.saBase x.saCount 0xFFFFFFFF 0 1048576), (36, decide (1048576 < x.saCount)),
     (40, !baseFits x.nvtBase x.nvtCount 0xFFFFFFFF nv (nv + 65536)), (44, decide (65536 < x.nvtCount)),
     (48, decide (bits w 7 0 = 0 ∨ 48 < bits w 13 8 ∨ bits w 31 18 ≠ 0) || (decide (bits w 13 8 = 0) != decide (bits w 17 14 = 0))) ] ++
   (List.range 4).flatMap (recFaults req x.railMask twin) ++
    [ (76, if create then decide (le req 76 4 ≠ 0) else decide (511 < le req 76 4)) ]).filter (fun (p : Nat × Bool) => p.2)
    |>.map (fun (p : Nat × Bool) => p.1)

/-! Pools (R556). -/

/-- Other slices than `n`. -/
def others (s : State) (n : Nat) : List Slice := (s.slices.tab.filter (fun p => p.1 ≠ n)).map (fun p => p.2)

def rangeFree (used : List (Nat × Nat)) (base count : Nat) : Bool :=
  used.all (fun u => decide (base + count ≤ u.1 ∨ u.1 + u.2 ≤ base))

/-- Lowest base at which a whole run is free: the start of the pool, or the end of a range in use. -/
def lowestRun (used : List (Nat × Nat)) (lo hi count : Nat) : Option Nat :=
  ((lo :: used.map (fun u => u.1 + u.2)).filter (fun b => decide (lo ≤ b ∧ b + count ≤ hi) && rangeFree used b count)).min?

/-- Assigns a range of a pool; none when it is not free. -/
def assign (used : List (Nat × Nat)) (lo hi auto base count : Nat) : Option Nat :=
  if count = 0 then some 0 else if base = auto then lowestRun used lo hi count else if rangeFree used base count then some base else none

def qpUsed (l : List Slice) (ep : Nat) : List (Nat × Nat) := (l.filter (fun x => x.ep = ep && x.qpCount ≠ 0)).map (fun x => (x.qpBase, x.qpCount))
def w0Used (l : List Slice) : List (Nat × Nat) := (l.filter (fun x => x.w0Count ≠ 0)).map (fun x => (x.w0Base, x.w0Count))
def w1Used (l : List Slice) : List (Nat × Nat) := (l.filter (fun x => x.w1Count ≠ 0)).map (fun x => (x.w1Base, x.w1Count))
def saUsed_ (l : List Slice) : List (Nat × Nat) := (l.filter (fun x => x.saCount ≠ 0)).map (fun x => (x.saBase, x.saCount))
def nvtUsed (l : List Slice) : List (Nat × Nat) := (l.filter (fun x => x.nvtCount ≠ 0)).map (fun x => (x.nvtBase, x.nvtCount))

/-- Reserved positions of a pipeline, of the slices and of the records given. -/
def reservedAt (l : List Slice) (recs : List StartRec) (pl pos : Nat) : Bool :=
  startCovers recs pl pos || l.any (fun x => startCovers (startOf x) pl pos)

def reservedCount (l : List Slice) (recs : List StartRec) (pl : Nat) : Nat :=
  ((List.range 4096).filter (fun pos => reservedAt l recs pl pos)).length

/-- At least 512 positions are open on both pipelines of a pair (R256). -/
def commonOpen (l : List Slice) (recs : List StartRec) (a b : Nat) : Bool :=
  decide (512 ≤ ((List.range 4096).filter (fun pos => !reservedAt l recs a pos && !reservedAt l recs b pos)).length)

/-- The first pool that cannot hold a slice beside the others (0 for none), and the slice with its bases resolved. -/
def poolCheck (s : State) (n : Nat) (x : Slice) : Nat × Slice :=
  let l := others s n
  let qp := assign (qpUsed l x.ep) 0 8192 0xFFFF x.qpBase x.qpCount
  let w0 := assign (w0Used l) 0 32768 0xFFFF x.w0Base x.w0Count
  let w1 := assign (w1Used l) 32768 65536 0xFFFF x.w1Base x.w1Count
  let sa := assign (saUsed_ l) 0 1048576 0xFFFFFFFF x.saBase x.saCount
  let nv := assign (nvtUsed l) (65536 * x.ep) (65536 * x.ep + 65536) 0xFFFFFFFF x.nvtBase x.nvtCount
  let threads := (List.range 8).all (fun q => decide ((l.map (fun y => resThreads y q)).sum + resThreads x q ≤ 48))
  let pools : List Bool :=
    [ qp.isSome, decide ((l.map (fun y => y.vecCount)).sum + x.vecCount ≤ 18432),
      decide ((l.map (fun y => y.basinPages)).sum + x.basinPages + pagesLossless s ≤ s.basin.area), w0.isSome, w1.isSome,
      decide ((l.map (fun y => y.cstQuota)).sum + x.cstQuota ≤ 4194304), sa.isSome, nv.isSome, threads, threads,
      (List.range 4).all (fun pl => (List.range 4096).all (fun pos => !(startCovers x.start pl pos && reservedAt l [] pl pos))),
      (List.range 4).all (fun pl => decide (reservedCount l x.start pl ≤ 3072)),
      commonOpen l x.start 0 2 && commonOpen l x.start 1 3 ]
  (match pools.findIdx? (fun b => !b) with
    | some i => i + 1
    | none => 0,
   { x with qpBase := qp.getD 0, w0Base := w0.getD 0, w1Base := w1.getD 0, saBase := sa.getD 0, nvtBase := nv.getD 0 })

/-- The response of SLICE_CREATE and SLICE_MODIFY (R557); a refusal names no bases. -/
def sliceResp (n : Nat) (x : Option Slice) (pool off : Nat) : Bytes :=
  let b := fun (f : Slice → Nat) => match x with
    | some x => f x
    | none => 0
  toLe 2 n ++ toLe 2 (b (·.qpBase)) ++ toLe 2 (b (·.w0Base)) ++ toLe 2 (b (·.w1Base)) ++ toLe 4 (b (·.saBase)) ++ toLe 4 (b (·.nvtBase)) ++
    toLe 1 pool ++ toLe 1 off ++ zeros 2

/-! Creation and modification (R557, R558). -/

/-- Shapers of ranges take the reset settings (R361). -/
def shapersReset (s : State) (inside : Nat → Bool) : State :=
  { s with weir := { s.weir with shapers := s.weir.shapers.filter (fun p => !inside p.1)
                                 pendingSets := s.weir.pendingSets.filter (fun p => !inside p.1) } }

/-- A slice holds a shaper. -/
def holdsShaper (x : Slice) (i : Nat) : Bool :=
  decide (x.w0Base ≤ i ∧ i < x.w0Base + x.w0Count) || decide (x.w1Base ≤ i ∧ i < x.w1Base + x.w1Count)

/-- Leaf map entries of a slice are cleared (R359, R361). -/
def leafClear (s : State) (n : Nat) : State :=
  { s with weir := { s.weir with leaf := s.weir.leaf.filter (fun p => p.1 / 16 ≠ n) } }

/-- The threads reserved to a slice follow its weight word in every cluster (R220). -/
def threadsFollow (s : State) (n : Nat) : State :=
  (List.range 8).foldl (fun s q => reserveFree q n 48 (unreserveFree s q n)) s

def sliceSet (s : State) (n : Nat) (x : Slice) : State := { s with slices := { s.slices with tab := mapSet s.slices.tab n x } }

/-- A slice is created with its bases resolved: shapers and leaf map as at reset, threads reserved (R361, R557). -/
def sliceMake (s : State) (n : Nat) (x : Slice) : State :=
  threadsFollow (sliceSet (leafClear (shapersReset s (holdsShaper x)) n) n x) n

/-- SLICE_CREATE (R39, R42, R256, R556, R557): answered after the next calendar entry 0. -/
def execSliceCreate (ch seq : Nat) (s : State) : Host.Outcome State Fault Refusal :=
  command s ch seq 0x0201 (fun req =>
    let x := sliceOfReq req
    let n := sliceOfFunc x.ep x.func
    let named := decide (1 ≤ x.func ∧ x.func ≤ 1024 ∧ x.ep ≤ 1)
    let old := if named then sliceGet s n else none
    match old with
    | some y => if y.destroying then answer s ch seq rcBusy [] else answer s ch seq rcBadParam (sliceResp n none 0 0)
    | none =>
      match (reqFaults req true).head? with
      | some o => answer s ch seq rcBadParam (sliceResp (if named then n else 0) none 0 o)
      | none =>
        let (pool, y) := poolCheck s n x
        if pool ≠ 0 then answer s ch seq rcNoResource (sliceResp n none pool 0)
        else
          let none_ : List StartRec := (List.range 4).map (fun _ => { first := 0, stride := 1, count := 0 })
          defer (sliceMake s n { y with start := none_, pendingStart := some (y.start, [(ch, seq, sliceResp n (some y) 0 0)]) }) ch seq)

/-- Offsets of the fields that SET does not change and that differ from a slice's values (R558). -/
def keptFaults (req : Bytes) (cur : Slice) : List Nat :=
  let x := sliceOfReq req
  let set_ := le req 76 4
  let rec_ := fun i => decide (x.start[i]? ≠ (startOf cur)[i]?)
  ([ (3, 99, x.twin != cur.twin), (4, 99, x.railMask ≠ cur.railMask), (5, 0, x.openEligible != cur.openEligible), (8, 5, x.qpBase ≠ cur.qpBase),
     (10, 5, x.qpCount ≠ cur.qpCount), (12, 5, x.vecCount ≠ cur.vecCount), (16, 6, x.w0Base ≠ cur.w0Base), (18, 6, x.w0Count ≠ cur.w0Count),
     (20, 6, x.w1Base ≠ cur.w1Base), (22, 6, x.w1Count ≠ cur.w1Count), (24, 1, x.basinPages ≠ cur.basinPages),
     (28, 2, x.cstQuota ≠ cur.cstQuota), (32, 7, x.saBase ≠ cur.saBase), (36, 7, x.saCount ≠ cur.saCount), (40, 8, x.nvtBase ≠ cur.nvtBase),
     (44, 8, x.nvtCount ≠ cur.nvtCount), (48, 3, x.cscWeight ≠ cur.cscWeight), (52, 4, rec_ 0), (58, 4, rec_ 1), (64, 4, rec_ 2),
     (70, 4, rec_ 3) ].filter (fun (p : Nat × Nat × Bool) => p.2.2 && !(decide (p.2.1 < 9) && bitAt set_ p.2.1))).map (fun p => p.1)

/-- Queue pairs of a function that exist. -/
def anyQueue (s : State) (ep f : Nat) : Bool := !(queuesOf s ep f).isEmpty

def saValidIn (s : State) (x : Slice) : List Nat :=
  (s.cry.sas.filter (fun p => decide (x.saBase ≤ p.1 ∧ p.1 < x.saBase + x.saCount) && saFlag p.2 0)).map (fun p => p.1)

def ctxValidIn (s : State) (x : Slice) : List Nat :=
  (s.nvt.ctxs.filter (fun p => decide (x.nvtBase ≤ p.1 ∧ p.1 < x.nvtBase + x.nvtCount) && ctxFlag p.2 0)).map (fun p => p.1)

/-- A group of SET whose condition does not hold (R558). -/
def setBusy (s : State) (n set_ : Nat) (cur : Slice) : Bool :=
  (bitAt set_ 5 && (anyQueue s cur.ep cur.func || (fnGet s cur.ep cur.func).msixEnable)) ||
  (bitAt set_ 6 && s.weir.leaf.any (fun p => decide (p.1 / 16 = n) && holdsShaper cur p.2)) ||
  (bitAt set_ 7 && !(saValidIn s cur).isEmpty) || (bitAt set_ 8 && !(ctxValidIn s cur).isEmpty)

/-- SLICE_MODIFY (R558): in full or not at all; with group 4, answered after the next calendar entry 0. -/
def execSliceModify (ch seq : Nat) (s : State) : Host.Outcome State Fault Refusal :=
  command s ch seq 0x0204 (fun req =>
    let x := sliceOfReq req
    let n := sliceOfFunc x.ep x.func
    let named := decide (x.func ≤ 1024 ∧ x.ep ≤ 1)
    let set_ := le req 76 4
    match (if named then sliceGet s n else none) with
    | none => answer s ch seq rcBadParam (sliceResp (if named then n else 0) none 0 ((reqFaults req false).head?.getD 0))
    | some cur =>
      if cur.destroying then answer s ch seq rcBusy []
      else match (reqFaults req false ++ keptFaults req cur).min? with
        | some o => answer s ch seq rcBadParam (sliceResp n none 0 o)
        | none =>
          if setBusy s n set_ cur then answer s ch seq rcBusy []
          else
            let (pool, y) := poolCheck s n x
            if pool ≠ 0 then answer s ch seq rcNoResource (sliceResp n none pool 0)
            else
              let body := sliceResp n (some y) 0 0
              let old := match cur.pendingStart with
                | some p => p.2
                | none => []
              let pend := if bitAt set_ 4 then some (y.start, old ++ [(ch, seq, body)]) else cur.pendingStart
              let s := shapersReset s (fun i => holdsShaper cur i != holdsShaper y i)
              let s := threadsFollow (sliceSet s n { y with start := cur.start, pendingStart := pend }) n
              if bitAt set_ 4 then defer s ch seq else answer s ch seq rcOk body)

/-! Destruction (R559, R560). -/

/-- Frames queued on MACs for a slice, or on its shapers, are dropped. -/
def dropQueued (s : State) (n : Nat) (x : Slice) : State :=
  let mine := fun (f : TxFrame) => decide (f.slice = n) || (decide (f.leaf ≠ 0xFFFF) && holdsShaper x f.leaf)
  let lost := s.macs.flatMap (fun m => m.2.queue.filter mine ++ m.2.resends.filter mine)
  let s := { s with macs := s.macs.map (fun m =>
    (m.1, { m.2 with queue := m.2.queue.filter (fun f => !mine f), resends := m.2.resends.filter (fun f => !mine f) })) }
  lost.foldl (fun s f => letGo s f.fid f.origin (some 1)) s

/-- The slice's QUEUED and HELD work items are dropped as by CSC_PACKET_DISPOSE (R248); their number. -/
def dropItems (s : State) (n : Nat) : State × Nat :=
  (List.range 8).foldl (fun (a : State × Nat) q =>
    let xs := (clusterGet a.1 q).work.filter (fun x => x.2.slice = n && x.2.state ≠ .active)
    (xs.foldl (fun s x => passDrop (bump (itemEnd s q x.1 3) (r_CSC_CNT_DISPOSED q)) x.2.pid) a.1, a.2 + xs.length)) (s, 0)

/-- The channel's messages and its driver's commands are discarded (R518, R560). -/
def chanClear (s : State) (ch : Nat) : State :=
  noteCrossing (chanMod (bumpHostGen s ch) ch (fun c => { c with toFw := [], toHost := [], started := [], queue := [] })) ch

/-- Steps 1 to 3 of a destruction (R559). -/
def destroyBegin (s : State) (n : Nat) (x : Slice) : State :=
  let recs := (queuesOf s x.ep x.func).length
  let s := nextGeneration (sliceMod s n (fun x => { x with destroying := true })) x.ep x.func 2
  let s := chanClear s (chanOfVf x.ep x.func)
  let gone := flushSet s (some n) 15 true
  let s := gone.foldl deleteAt s
  let sas := saValidIn s x
  let ctxs := ctxValidIn s x
  let s := { s with cry := { s.cry with sas := s.cry.sas.filter (fun p => !sas.contains p.1) }
                    nvt := { s.nvt with ctxs := s.nvt.ctxs.filter (fun p => !ctxs.contains p.1)
                                        walkers := s.nvt.walkers.filter (fun p => !ctxs.contains p.1)
                                        places := s.nvt.places.filter (fun p => !ctxs.contains (p.1 / 4096)) } }
  let (s, items) := dropItems (dropQueued (leafClear s n) n x) n
  sliceMod s n (fun x => { x with tally := [recs, gone.length, sas.length, ctxs.length, items] })

/-- The slice holds nothing any more (R559, step 4). -/
def destroyReady (s : State) (n : Nat) (x : Slice) : Bool :=
  let mine := fun (f : TxFrame) => decide (f.slice = n)
  !anyQueue s x.ep x.func && !s.basin.frames.any (fun f => f.2.owner = n) &&
    !s.csc.clusters.any (fun c => c.2.work.any (fun w => w.2.slice = n)) &&
    !s.macs.any (fun m => m.2.queue.any mine || m.2.resends.any mine || (match m.2.active with
      | some a => mine a.frame
      | none => false) || (match m.2.preempted with
      | some a => mine a.frame
      | none => false))

/-- Steps 4 and 5 (R559): the reservations return to their pools, and the answer is posted. -/
def destroyEnd (s : State) (ch seq n : Nat) (x : Slice) : State :=
  let t := fun i => x.tally.getD i 0
  let s := shapersReset s (holdsShaper x)
  let s := { s with slices := { s.slices with tab := mapErase s.slices.tab n }, basin := { s.basin with held := mapErase s.basin.held n } }
  answer (threadsFollow s n) ch seq rcOk (toLe 2 (t 0) ++ zeros 2 ++ toLe 4 (t 1) ++ toLe 4 (t 2) ++ toLe 4 (t 3) ++ toLe 4 (t 4))

/-- A QUEUE_DESTROY of the function is in progress (R560). -/
def queueDestroying (s : State) (ep f : Nat) : Bool :=
  s.rings.qps.any (fun q => decide (q.1 / 8192 = ep ∧ q.2.func = f) && (q.2.drain.isSome || (match q.2.flush with
    | some (_, _, cmd) => cmd.isSome
    | none => false)))

/-- SLICE_DESTROY (R559, R560): the first run of the row begins the destruction, once no FLR or QUEUE_DESTROY of the function runs; a later
run of it, once the slice holds nothing, ends it (notes/assumptions/61.md). -/
def execSliceDestroy (ch seq : Nat) (s : State) : Host.Outcome State Fault Refusal :=
  match (chanGet s ch).started.find? (fun c => c.seq = seq && c.opcode = 0x0202) with
  | none => done s
  | some c =>
    let f := le c.req 0 2
    let ep := byteAt c.req 2
    let n := sliceOfFunc ep f
    match (if f ≤ 1024 ∧ ep ≤ 1 then sliceGet s n else none) with
    | none => done (answer s ch seq rcBadParam [])
    | some x =>
      if c.running then (if x.destroying && destroyReady s n x then done (destroyEnd s ch seq n x) else done s)
      else if byteAt c.req 3 ≠ 0 then done (answer s ch seq rcBadParam [])
      else if f = 0 then done (answer s ch seq rcNotPermitted [])
      else if x.destroying then done (answer s ch seq rcBusy [])
      else if (fnGet s ep f).flrActive || queueDestroying s ep f then done s
      else
        let s := destroyBegin (defer s ch seq) n x
        match sliceGet s n with
        | some x => if destroyReady s n x then done (destroyEnd s ch seq n x) else done s
        | none => done s

/-! Queries (R561, R562). -/

/-- SLICE_QUERY (R561). -/
def execSliceQuery (ch seq : Nat) (s : State) : Host.Outcome State Fault Refusal :=
  command s ch seq 0x0203 (fun req =>
    match targetFunc s ch (le req 0 2) (byteAt req 2) with
    | .error c => answer s ch seq c []
    | .ok (ep, f) =>
      let n := sliceOfFunc ep f
      match sliceGet s n with
      | none =>
        let r := recBytes { first := 0, stride := 1, count := 0 }
        answer s ch seq rcOk (toLe 2 f ++ toLe 1 ep ++ zeros 49 ++ r ++ r ++ r ++ r ++ zeros 28)
      | some x =>
        let act := (s.rings.qps.filter (fun q => decide (q.1 / 8192 = ep ∧ q.2.func = f ∧ q.2.state = .active))).length
        let pages := ((s.basin.frames.filter (fun b => b.2.owner = n)).map (fun b => b.2.pages)).sum
        answer s ch seq rcOk (sliceBytes x ++ toLe 2 act ++ zeros 2 ++ toLe 4 pages ++
          toLe 4 ((allEntries s).filter (fun e => entSlice e.2 = n)).length ++ toLe 4 (saValidIn s x).length ++
          toLe 4 (ctxValidIn s x).length ++ toLe 1 (if x.destroying then 2 else 1) ++ zeros 3))

/-- DRV_UP of a function (R455, R459). -/
def drvUp (s : State) (ep f : Nat) : Bool := decide (f ≠ 0) && bitAt (reg s (r_HIF_VF_CTRL ep f)).toNat 0

/-- FUNC_QUERY (R561). -/
def execFuncQuery (ch seq : Nat) (s : State) : Host.Outcome State Fault Refusal :=
  command s ch seq 0x0205 (fun req =>
    match targetFunc s ch (le req 0 2) (byteAt req 2) with
    | .error c => answer s ch seq c []
    | .ok (ep, f) =>
      let g := fnGet s ep f
      let n := if (sliceGet s (sliceOfFunc ep f)).isSome then sliceOfFunc ep f else 0xFFF
      let st := b2n (fnEnabled s ep f) + 2 * b2n g.flrActive + 4 * b2n g.inError + 8 * b2n (drvUp s ep f) +
        16 * b2n (epGet s ep).contained + 32 * b2n g.bme
      let c := chanGet s ((chansOf ep f).headD 0)
      let recs := (s.rings.records.filter (fun r => r.1 = ep && r.2.1 = f)).length
      answer s ch seq rcOk (toLe 2 n ++ toLe 2 g.gen.toNat ++ toLe 1 st ++ toLe 1 g.errCause ++ toLe 2 c.hostGen.toNat ++
        toLe 2 s.mbx.fwGen.toNat ++ toLe 2 (min 65535 recs) ++ zeros 4))

/-- SLICE_LIST (R561). -/
def execSliceList (ch seq : Nat) (s : State) : Host.Outcome State Fault Refusal :=
  command s ch seq 0x0206 (fun req =>
    let base := le req 0 2
    if base ≠ 0 ∧ base ≠ 1024 ∧ base ≠ 2048 then answer s ch seq rcBadParam []
    else
      let map := (List.range 128).flatMap (fun i =>
        toLe 1 ((List.range 8).map (fun j => if (sliceGet s (base + 8 * i + j)).isSome then 2 ^ j else 0)).sum)
      answer s ch seq rcOk (toLe 2 base ++ zeros 2 ++ map))

def total (l : List (Nat × Nat)) : Nat := (l.map (fun u => u.2)).sum

/-- Longest run of a pool that no range uses. -/
def longestRun (used : List (Nat × Nat)) (lo hi : Nat) : Nat :=
  (lo :: used.map (fun u => u.1 + u.2)).foldl (fun best b =>
    if used.any (fun u => decide (u.1 ≤ b ∧ b < u.1 + u.2)) then best
    else max best ((((used.map (fun u => u.1)).filter (fun a => decide (b ≤ a))).min?.getD hi) - b)) 0

/-- POOL_QUERY (R562). -/
def execPoolQuery (ch seq : Nat) (s : State) : Host.Outcome State Fault Refusal :=
  command s ch seq 0x0210 (fun _ =>
    let l := s.slices.tab.map (fun p => p.2)
    let q0 := qpUsed l 0
    let q1 := qpUsed l 1
    let nv := fun ep => ((l.filter (fun x => x.ep = ep)).map (fun x => x.nvtCount)).sum
    answer s ch seq rcOk (toLe 2 (8192 - total q0) ++ toLe 2 (longestRun q0 0 8192) ++ toLe 2 (8192 - total q1) ++ toLe 2 (longestRun q1 0 8192) ++
      toLe 2 (18432 - (l.map (fun x => x.vecCount)).sum) ++ toLe 2 l.length ++ toLe 4 s.basin.area ++
      toLe 4 (pagesReserved s + pagesLossless s) ++ toLe 4 (openFree s) ++ toLe 4 ((l.map (fun x => x.cstQuota)).sum) ++
      toLe 4 (total (saUsed_ l)) ++ toLe 4 (65536 - nv 0) ++ toLe 4 (65536 - nv 1) ++ toLe 2 (32768 - total (w0Used l)) ++
      toLe 2 (32768 - total (w1Used l)) ++ (List.range 4).flatMap (fun pl => toLe 2 (reservedCount l [] pl)) ++
      (List.range 8).flatMap (fun q => toLe 1 (resTotal s q)) ++ zeros 4))

end Sys2Proof.Machine
end

