-- ==== Sys2Proof/Machine/Firmware.lean ====
section
/-! DEFINITION. Firmware of the Wellhead processor: image and manifest commands (R583 to R590, R605), the lockstep pairs, checkpoints and
restarts (R592 to R595), and live handover (R596 to R600). -/

namespace Sys2Proof.Machine

open Sys2Proof

/-! Images (R605). -/

/-- The bank takes part in a handover that runs. -/
def handoverBank (s : State) (kind bank : Nat) : Bool :=
  match s.fw.handover with
  | some h => decide ((if kind = 0 then h.whBank else h.cscBank) = some bank)
  | none => false

/-- A host image write and a PLDM update of one kind exclude each other (R601). -/
def pldmBusy (s : State) (kind : Nat) : Bool := s.fw.pldm.any (fun x => x.1 = kind + 1)

/-- Erases a bank and opens it for SIZE bytes. -/
def bankOpen (s : State) (kind bank size : Nat) : State := bankSet s kind bank { state := 3, size := size, bytes := [] }

/-- The image of a bank is whole: it is valid or not (R587). -/
def bankClose (s : State) (kind bank : Nat) : State :=
  let s := bankSet s kind bank { bankGet s kind bank with state := 2 }
  if imgValid s kind bank then bankSet s kind bank { bankGet s kind bank with state := 1 } else s

/-- Runs an image command on the bank it names, when that is neither running nor part of a handover. -/
def withBank (s : State) (ch seq : Nat) (req : Bytes) (f : Nat → Nat → State) : State :=
  let kind := byteAt req 0
  let bank := byteAt req 1
  if 1 < kind ∨ 1 < bank then answer s ch seq rcBadParam []
  else if imgRunning s kind bank ∨ handoverBank s kind bank then answer s ch seq rcNotPermitted []
  else f kind bank

/-- FW_IMAGE_BEGIN (R601, R605). -/
def execFwImageBegin (ch seq : Nat) (s : State) : Host.Outcome State Fault Refusal :=
  command s ch seq 0x0B00 (fun req => withBank s ch seq req (fun kind bank =>
    let size := le req 4 4
    if size < 512 ∨ bankSize kind < size then answer s ch seq rcBadParam []
    else if pldmBusy s kind then answer s ch seq rcBusy []
    else answer (bankOpen s kind bank size) ch seq rcOk []))

/-- FW_IMAGE_DATA (R605). -/
def execFwImageData (ch seq : Nat) (s : State) : Host.Outcome State Fault Refusal :=
  command s ch seq 0x0B01 (fun req => withBank s ch seq req (fun kind bank =>
    let n := le req 2 2
    let off := le req 4 4
    let b := bankGet s kind bank
    if b.state ≠ 3 ∨ n < 4 ∨ 236 < n ∨ n % 4 ≠ 0 ∨ b.size < off + n ∨ (List.range n).any (fun i => mapHas b.bytes (off + i)) then
      answer s ch seq rcBadParam []
    else
      let bytes := (List.range n).foldl (fun m i => mapSet m (off + i) ((req.drop 8).getD i 0)) b.bytes
      answer (bankSet s kind bank { b with bytes := bytes }) ch seq rcOk []))

/-- FW_IMAGE_END (R587, R605). -/
def execFwImageEnd (ch seq : Nat) (s : State) : Host.Outcome State Fault Refusal :=
  command s ch seq 0x0B02 (fun req => withBank s ch seq req (fun kind bank =>
    if (bankGet s kind bank).state ≠ 3 then answer s ch seq rcBadParam []
    else
      let s := bankClose s kind bank
      let b := bankGet s kind bank
      answer s ch seq rcOk (toLe 1 (b2n (decide (b.state = 1))) ++ zeros 1 ++ imgInfo b ++ zeros 2)))

/-- FW_IMAGE_QUERY (R605). -/
def execFwImageQuery (ch seq : Nat) (s : State) : Host.Outcome State Fault Refusal :=
  command s ch seq 0x0B03 (fun _ =>
    answer s ch seq rcOk ([(0, 0), (0, 1), (1, 0), (1, 1)].flatMap (fun (k : Nat × Nat) =>
      let b := bankGet s k.1 k.2
      let st := if b.state = 0 ∨ b.state = 3 then b.state else if imgValid s k.1 k.2 then 1 else 2
      toLe 1 st ++ toLe 1 (b2n (imgRunning s k.1 k.2)) ++ (if b.state = 0 ∨ b.state = 3 then zeros 12 else imgInfo b) ++ zeros 2)))

/-- FW_IMAGE_ERASE (R605). -/
def execFwImageErase (ch seq : Nat) (s : State) : Host.Outcome State Fault Refusal :=
  command s ch seq 0x0B04 (fun req => withBank s ch seq req (fun kind bank => answer (bankSet s kind bank {}) ch seq rcOk []))

/-- FW_MANIFEST_READ (R605). -/
def execFwManifestRead (ch seq : Nat) (s : State) : Host.Outcome State Fault Refusal :=
  command s ch seq 0x0B08 (fun req =>
    let first := le req 0 2
    let n := le req 2 2
    match manifestUse s with
    | none => answer s ch seq rcBadParam []
    | some m =>
      if n = 0 ∨ 60 < n ∨ manifestCount m < first + n then answer s ch seq rcBadParam []
      else answer s ch seq rcOk (toLe 4 (manifestVersion m) ++ toLe 2 (manifestCount m) ++ zeros 2 ++ slice m (256 + 4 * first) (4 * n)))

/-- Version of the manifest in use, 0 for none. -/
def manifestNow (s : State) : Nat := (manifestUse s).elim 0 manifestVersion

/-- A new manifest block is written over the copy not in use; none when it is invalid or not newer (R605). -/
def manifestPut (s : State) (m : Bytes) : Option State :=
  if manifestValid m ∧ ((manifestUse s).isNone ∨ manifestNow s < manifestVersion m) then
    some { s with flash := if manifestIndex s = some 0 then { s.flash with manifest1 := m } else { s.flash with manifest0 := m } }
  else none

/-- FW_MANIFEST_WRITE (R605). -/
def execFwManifestWrite (ch seq : Nat) (s : State) : Host.Outcome State Fault Refusal :=
  command s ch seq 0x0B09 (fun req =>
    let off := le req 0 2
    let n := le req 2 2
    if n = 0 ∨ 240 < n ∨ 4096 < off + n then answer s ch seq rcBadParam []
    else
      let buf := (List.range n).foldl (fun m i => mapSet m (off + i) ((req.drop 8).getD i 0)) s.flash.manifestBuf
      if bitAt (byteAt req 4) 0 then
        let s := { s with flash := { s.flash with manifestBuf := [] } }
        match manifestPut s ((List.range 4096).map (fun i => mapGetD buf i 0xFF)) with
        | some s => answer s ch seq rcOk (toLe 4 (manifestNow s))
        | none => answer s ch seq rcBadParam []
      else answer { s with flash := { s.flash with manifestBuf := buf } } ch seq rcOk [])

/-- FW_BOOT_SELECT (R583, R605). -/
def execFwBootSelect (ch seq : Nat) (s : State) : Host.Outcome State Fault Refusal :=
  command s ch seq 0x0B13 (fun req =>
    let w := byteAt req 0
    let c := byteAt req 1
    if 1 < w ∨ 1 < c then answer s ch seq rcBadParam []
    else if ¬ imgValid s 0 w ∨ ¬ imgValid s 1 c ∨ ¬ banksListed s w c then answer s ch seq rcNotPermitted []
    else answer (hwSetField s 0x010 1 0 (w + 2 * c)) ch seq rcOk [])

/-- LEVEL of the image in a bank, 0 when it is not valid. -/
def levelOf (s : State) (kind bank : Nat) : Nat := if imgValid s kind bank then imgLevel (bankGet s kind bank) else 0

/-- FW_RESTRICTED_REASON (R590, R605). -/
def execFwRestrictedReason (ch seq : Nat) (s : State) : Host.Outcome State Fault Refusal :=
  command s ch seq 0x0B14 (fun _ =>
    answer s ch seq rcOk (toLe 1 (if s.dev.base = .restricted then s.dev.restrictedReason else 0) ++ zeros 1 ++
      toLe 2 (levelOf s 0 s.fw.whBank) ++ toLe 2 (levelOf s 1 s.fw.cscBank) ++ zeros 2 ++ toLe 4 (manifestNow s)))

/-! Lockstep pairs and checkpoints (R592 to R595). -/

def activePair (s : State) : Nat := hwField s 0x011 0 0

def spareCode : SpareState → Nat
  | .ready => 0
  | .loading => 1
  | .selfTest => 2
  | .retired => 3

/-- Restarts of the active pair in the last 24 h (R594). -/
def restartsDay (s : State) : List Nat := s.fw.restartTicks.filter (fun t => s.time.ticks < t + 86400000000000)

/-- A checkpoint is written (R593). -/
def checkpoint (s : State) : State := { s with fw := { s.fw with ckptStamp := stampNow s } }

/-- Mailbox service stops, and the firmware-side generations increase (R504). -/
def serviceStop (s : State) : State := bumpFwGen { s with mbx := { s.mbx with serving := false } }

/-- Version of the image that runs, 0 for none. -/
def runningVersion (s : State) (kind : Nat) : Nat :=
  let bank := if kind = 0 then s.fw.whBank else s.fw.cscBank
  if imgRunning s kind bank then imgVersion (bankGet s kind bank) else 0

def versions (s : State) : Bytes := toLe 4 (runningVersion s 0) ++ toLe 4 (runningVersion s 1)

/-- A handover ends with a result (R597, R599): the start command is answered and FW_HANDOVER_DONE is sent. -/
def handoverEnd (s : State) (h : Handover) (result : Nat) : State :=
  let before := s
  let s := { s with fw := { s.fw with handover := none } }
  let s := eventToManager s 0x8B10 (toLe 1 result ++ zeros 3 ++ versions s)
  let s := noteMode before s 6
  answer s h.chan h.seq rcOk (toLe 1 result ++ toLe 1 h.step ++ zeros 2 ++ versions s)

/-- A handover fails (R599): no bank changes; the spare pair loads the running image again, and after step 3 the old pair serves again. -/
def handoverFail (s : State) (h : Handover) : State :=
  let s := if h.whBank.isSome then { s with fw := { s.fw with spare := .loading } } else s
  handoverEnd { s with mbx := { s.mbx with serving := true } } h 2

/-- The active pair stops and restarts, or the spare pair takes over (R594, R595). -/
def pairStop (s : State) (cause : Nat) : State :=
  let s := serviceStop (setBits s r_WH_PAIR (BitVec.ofNat 32 (32 * 2 ^ cause)))
  let recent := restartsDay s
  let f := s.fw
  let s := { s with fw := { f with lastCause := cause, lastStamp := stampNow s, restarting := some (cause, s.time.ticks) } }
  if recent.length < 3 ∨ f.spare ≠ .ready then
    bump { s with fw := { s.fw with restarts := f.restarts + 1, restartTicks := s.time.ticks :: recent } } r_WH_CNT_RESTART
  else
    let s := hwSetField s 0x011 0 0 (1 - activePair s)
    bump { s with fw := { s.fw with switches := f.switches + 1, restartTicks := [], spare := .selfTest } } r_WH_CNT_SWITCH

/-- A mismatch or a watchdog expiry (R594, R599). -/
def wellheadFail (s : State) (cause : Nat) : State :=
  if ¬ s.fw.whRunning ∨ s.fw.restarting.isSome then s
  else match s.fw.handover with
    | some h =>
      if h.step < 3 then pairStop (handoverFail s h) cause
      else if h.step = 4 then handoverFail s h
      else pairStop s cause
    | none => pairStop s cause

/-- LOCKSTEP_MISMATCH (R594). -/
def execLockstepMismatch (s : State) : Host.Outcome State Fault Refusal := done (wellheadFail s 0)

/-- WATCHDOG_EXPIRE (R594). -/
def execWatchdogExpire (s : State) : Host.Outcome State Fault Refusal := done (wellheadFail s 1)

/-- WELLHEAD_RESUME (R594). -/
def execWellheadResume (s : State) : Host.Outcome State Fault Refusal :=
  match s.fw.restarting with
  | none => done s
  | some (cause, t) =>
    let pause := (s.time.ticks - t) / 1000
    let s := { s with fw := { s.fw with restarting := none }, mbx := { s.mbx with serving := true } }
    let s := errlog s 0x0170 11 0xFFFF 0 (toLe 1 cause ++ toLe 1 (activePair s) ++ toLe 4 pause)
    done (eventToManager s 0x8B20 (toLe 1 cause ++ toLe 1 (activePair s) ++ zeros 2 ++ toLe 4 pause))

/-- CHECKPOINT_TIMER (R593). -/
def execCheckpointTimer (s : State) : Host.Outcome State Fault Refusal :=
  if s.fw.whRunning ∧ s.fw.restarting.isNone then done (checkpoint s) else done s

/-- SPARE_SELF_TEST (R592, R595): of the pair that is not active, idle or after a switch. -/
def execSpareSelfTest (pass : Bool) (s : State) : Host.Outcome State Fault Refusal :=
  if ¬ s.fw.whRunning ∨ (s.fw.spare ≠ .ready ∧ s.fw.spare ≠ .selfTest) then done s
  else if pass then done { s with fw := { s.fw with spare := .ready } }
  else
    let p := 1 - activePair s
    let before := s
    let s := hwSetField { s with fw := { s.fw with spare := .retired } } 0x011 (1 + p) (1 + p) 1
    done (noteMode before (noteRetired s 7 2 p 0 11) 1)

/-- WH_CHECKPOINT (R593, R605). -/
def execWhCheckpoint (ch seq : Nat) (s : State) : Host.Outcome State Fault Refusal :=
  command s ch seq 0x0B20 (fun _ => answer (checkpoint s) ch seq rcOk (toLe 8 (stampNow s).toNat))

/-- WH_PAIR_STATUS (R605). -/
def execWhPairStatus (ch seq : Nat) (s : State) : Host.Outcome State Fault Refusal :=
  command s ch seq 0x0B21 (fun _ =>
    let f := s.fw
    answer s ch seq rcOk (toLe 1 (activePair s) ++ toLe 1 (spareCode f.spare) ++ toLe 1 (min 255 (restartsDay s).length) ++ toLe 1 f.lastCause ++
      toLe 4 f.restarts.toNat ++ toLe 4 f.switches.toNat ++ toLe 8 f.lastStamp.toNat))

/-! Live handover (R596 to R600). -/

/-- A deferred commit or a rail's restoration runs, or recovery is not done (R596, order 1). -/
def commitRuns (s : State) : Bool :=
  s.plane.commit.isSome || s.rasp.commit.isSome || s.jig.commit.isSome || s.twin.restore.isSome || !s.twin.recoveryDone

/-- The bank that an argument names: 0xFF for none; otherwise it must hold a valid image that does not run (R596, order 2). -/
def namedBank (s : State) (kind arg : Nat) : Except Nat (Option Nat) :=
  if arg = 0xFF then .ok none
  else if 1 < arg ∨ imgRunning s kind arg ∨ ¬ imgValid s kind arg then .error rcBadParam
  else .ok (some arg)

/-- STATE_MIN of a new image is no higher than STATE_LEVEL of the running one (R596, order 4). -/
def stateFits (s : State) (kind : Nat) (new : Option Nat) : Bool :=
  let old := if kind = 0 then s.fw.whBank else s.fw.cscBank
  match new with
  | some b => !imgRunning s kind old || decide (imgStateMin (bankGet s kind b) ≤ imgStateLevel (bankGet s kind old))
  | none => true

/-- The checks of R596; the answer of the first that fails. -/
def handoverCheck (s : State) (w c : Option Nat) : Option Nat :=
  let fw := w.getD s.fw.whBank
  let fc := c.getD s.fw.cscBank
  let both := w.isSome && c.isSome && s.fw.cscRunning
  if w.isNone ∧ c.isNone then some rcBadParam
  else if ¬ imgValid s 1 fc ∨ ¬ banksListed s fw fc ∨ (both ∧ ¬ banksListed s fw s.fw.cscBank) then some rcNotPermitted
  else if ¬ stateFits s 0 w ∨ ¬ stateFits s 1 c then some rcNotPermitted
  else if w.isSome ∧ s.fw.spare ≠ .ready then some rcNoResource
  else none

/-- An accepted handover begins (R597, step 1). -/
def handoverBegin (s : State) (w c : Option Nat) (raise : Bool) (ch seq : Nat) : State :=
  let before := s
  let h : Handover := { whBank := w, cscBank := c, raiseSvn := raise, step := if w.isSome then 2 else 6, cluster := 0, chan := ch, seq := seq,
                        since := s.time.ticks, fromRestricted := decide (s.dev.base = .restricted) }
  noteMode before { s with fw := { s.fw with handover := some h, spare := if w.isSome then .loading else s.fw.spare } } 6

/-- FW_HANDOVER_START (R596, R597). -/
def execFwHandoverStart (ch seq : Nat) (s : State) : Host.Outcome State Fault Refusal :=
  command s ch seq 0x0B10 (fun req =>
    if s.fw.handover.isSome || commitRuns s then answer s ch seq rcBusy []
    else match namedBank s 0 (byteAt req 0), namedBank s 1 (byteAt req 1) with
      | .ok w, .ok c =>
        match handoverCheck s w c with
        | some code => answer s ch seq code []
        | none => handoverBegin (defer s ch seq) w c (bitAt (byteAt req 2) 0) ch seq
      | _, _ => answer s ch seq rcBadParam [])

/-- FW_HANDOVER_STATUS (R605). -/
def execFwHandoverStatus (ch seq : Nat) (s : State) : Host.Outcome State Fault Refusal :=
  command s ch seq 0x0B11 (fun _ =>
    match s.fw.handover with
    | some h => answer s ch seq rcOk (toLe 1 1 ++ toLe 1 h.step ++ toLe 1 h.cluster ++ zeros 1 ++ toLe 4 ((s.time.ticks - h.since) / 1000))
    | none => answer s ch seq rcOk (zeros 8))

/-- FW_HANDOVER_ABORT (R599). -/
def execFwHandoverAbort (ch seq : Nat) (s : State) : Host.Outcome State Fault Refusal :=
  command s ch seq 0x0B12 (fun _ =>
    match s.fw.handover with
    | some h =>
      if h.step < 3 then answer (handoverEnd { s with fw := { s.fw with spare := .loading } } h 1) ch seq rcOk []
      else answer s ch seq rcNotPermitted []
    | none => answer s ch seq rcNotPermitted [])

def handoverSet (s : State) (h : Handover) : State := { s with fw := { s.fw with handover := some h } }

/-- HANDOVER_SPARE_LOADED (R597, step 2). -/
def execHandoverSpareLoaded (s : State) : Host.Outcome State Fault Refusal :=
  match s.fw.handover with
  | some h => if h.step = 2 then done (handoverSet s { h with step := 3 }) else done s
  | none => done s

/-- HANDOVER_EXPORT (R597, step 3). -/
def execHandoverExport (s : State) : Host.Outcome State Fault Refusal :=
  match s.fw.handover with
  | some h => if h.step = 3 ∧ s.fw.restarting.isNone then done (checkpoint (serviceStop (handoverSet s { h with step := 4 }))) else done s
  | none => done s

/-- HANDOVER_IMPORT_DONE (R597, step 4): the new pair is active, and the old one loads the new image. -/
def execHandoverImportDone (s : State) : Host.Outcome State Fault Refusal :=
  match s.fw.handover with
  | some h =>
    if h.step = 4 then
      let s := hwSetField s 0x011 0 0 (1 - activePair s)
      let s := { s with fw := { s.fw with whBank := h.whBank.getD s.fw.whBank, spare := .loading, restartTicks := [] },
                        mbx := { s.mbx with serving := true } }
      done (handoverSet s { h with step := if h.cscBank.isSome then 6 else 7 })
    else done s
  | none => done s

/-- HANDOVER_OLD_PAIR_LOADED (R597, step 5; R599): the pair that loads an image is the spare. -/
def execHandoverOldPairLoaded (s : State) : Host.Outcome State Fault Refusal :=
  let early : Bool := match s.fw.handover with
    | some h => h.whBank.isSome && decide (h.step ≤ 4)
    | none => false
  if s.fw.spare = .loading ∧ ¬ early then done { s with fw := { s.fw with spare := .ready } } else done s

/-- HANDOVER_FAILURE (R599): in step 2 or step 4. -/
def execHandoverFailure (s : State) : Host.Outcome State Fault Refusal :=
  match s.fw.handover with
  | some h => if h.step = 2 ∨ h.step = 4 then done (handoverFail s h) else done s
  | none => done s

/-- A cluster of one rail runs new code (R598): its busy threads are aborted with REQUEUE, its channels are emptied and counted, its image is
loaded, and its supervisor starts. -/
def clusterRenew (s : State) (q : Nat) : State :=
  let busy := ((clusterGet s q).threads.filter (fun t => t.2.state ≠ .free)).map (fun t => t.1)
  let s := busy.foldl (fun s t => if (thGet s q t).state = .free then s else abortThread q true 64 s t) s
  let s := bumpBy s (r_CSC_CNT_CH_FLUSHED q) ((clusterGet s q).channels.map (fun c => c.2.msgs.length)).sum
  let s := placeSupervisor (clusterMod (loadCluster s q) q (fun c => { c with supRun := railUp s (q / 4) })) q
  if (clusterGet s q).supRun then
    thMod s q (supervisorSlot s q) (fun x => { regs := x.regs, state := .ready, pc := mapGetD s.csc.supEntry (q % 4) 0 })
  else s

/-- CLUSTER_CODE_SWITCH (R597, step 6; R598). -/
def execClusterCodeSwitch (s : State) : Host.Outcome State Fault Refusal :=
  match s.fw.handover with
  | some h =>
    if h.step = 6 ∧ h.cluster < 4 then
      let s := handoverSet s { h with cluster := h.cluster + 1 }
      let s := clusterRenew (clusterRenew s h.cluster) (4 + h.cluster)
      if h.cluster = 3 then
        done (handoverSet { s with fw := { s.fw with cscBank := h.cscBank.getD s.fw.cscBank, cscRunning := true } } { h with cluster := 3, step := 7 })
      else done s
    else done s
  | none => done s

end Sys2Proof.Machine
end

