-- ==== Sys2Proof/Machine/Itwin.lean ====
section
/-! DEFINITION. The Itwin pair: flits and messages (R285, R286, R297), heartbeats (R287, R288), the ACT interlock (R289 to R293),
learning across the pair (R294 to R296) and the Itwin commands (R298). -/

namespace Sys2Proof.Machine

open Sys2Proof

/-! The actor role. -/

/-- Firmware requests the actor role (R292): ITW_ACT_IN is deasserted, heartbeats are being sent and requests have not stopped after
16 collisions in a row. -/
def requestRole (s : State) : State :=
  if itwSending s && !s.itw.actIn && !s.itw.grant && decide (s.itw.collisions < 16) then
    setActReq { s with itw := { s.itw with offered := false } } true
  else s

/-- ITW_RANK_CONFLICT (R292, R297, R299). -/
def rankConflict (s : State) : State :=
  eventToManager (itwLog (setBits s r_ITW_STATUS 0x40#32) 4) 0x8923 (toLe 2 s.itw.collisions ++ zeros 2)

/-- The link goes down: messages in flight are lost and a mirrored commit without READY ends (R148, R288, R297). -/
def itwLinkDown (s : State) : State :=
  if s.itw.linkUp then
    mirrorNoReady { s with
      itw := { s.itw with linkUp := false, replay := [], resync := none, compareDue := false },
      jig := { s.jig with prepare := none, incoming := [] } }
  else s

/-- The partner is lost (R288, R293): the link is down, ITW_PARTNER_LOST is sent, and a STANDBY adapter requests the role or reports
SPLIT. -/
def partnerLost (s : State) (cause : Nat) : State :=
  if s.itw.lost || !itwSending s then s
  else
    let s := itwLinkDown (setBits { s with itw := { s.itw with lost := true, partner := { s.itw.partner with seen := false } } }
      r_ITW_STATUS 0x20#32)
    let s := eventToManager s 0x8920 (toLe 1 cause ++ zeros 3)
    if s.itw.grant then s
    else if s.itw.actIn then eventToManager { s with itw := { s.itw with split := true } } 0x8922 []
    else requestRole s

/-- ALIVE_LOW_TIMEOUT (R288). -/
def execAliveLowTimeout (s : State) : Host.Outcome State Fault Refusal :=
  if itwSending s then done (partnerLost { s with itw := { s.itw with alive := false } } 0) else done s

/-- HEARTBEAT_MISS_LIMIT (R288). -/
def execHeartbeatMissLimit (s : State) : Host.Outcome State Fault Refusal :=
  if itwSending s && !s.itw.lost then done (partnerLost (bumpBy s r_ITW_CNT_HB_MISSED s.itw.missLimit) 1) else done s

/-- ACT_IN_CHANGE (R290, R292, R297): `short` is a pulse of less than 100 ns, which counts as a glitch only; `alive` is the level of
ITW_ALIVE. -/
def execActInChange (level short alive : Bool) (s : State) : Host.Outcome State Fault Refusal :=
  let own := s.itw.actOut && !s.itw.grant
  let s := { s with itw := { s.itw with actIn := level, alive := alive } }
  if level || short then
    let s := traceAct s
    let s := if s.itw.enable && !alive then itwLog s 3 else s
    let s := setGrant { s with itw := { s.itw with actIn := level && !short } } false
    if own && !short then
      let s := setBits (bump { s with itw := { s.itw with collisions := s.itw.collisions + 1 } } r_ITW_CNT_COLLISION) r_ITW_STATUS 0x80#32
      let s := setActReq s false
      done (if s.itw.collisions = 16 then rankConflict s else s)
    else done s
  else done (traceAct { s with itw := { s.itw with split := false } })

/-- GRANT_TIMER (R290): ITW_ACT_OUT asserted and ITW_ACT_IN deasserted for 10 µs. -/
def execGrantTimer (s : State) : Host.Outcome State Fault Refusal :=
  if s.itw.enable && s.itw.actOut && !s.itw.actIn then done (setGrant s true) else done s

/-- ACT_REQUEST_TIMER (R292, R293): at link up the lower rank requests; without a link, after a collision or a release either does. -/
def execActRequestTimer (s : State) : Host.Outcome State Fault Refusal :=
  if !s.itw.linkUp || lowerRank s || decide (0 < s.itw.collisions) || s.itw.offered then done (requestRole s) else done s

/-- PIPELINE_STALL_DETECT (R287): work waits and no pipeline has started a packet for 1 ms. -/
def execPipelineStallDetect (s : State) : Host.Outcome State Fault Refusal :=
  if s.pkts.any (fun x => x.2.stage = .start) then done (itwLines { s with itw := { s.itw with stalled := true } }) else done s

/-! Heartbeats (R287). -/

/-- Learned L2 entries. -/
def learnedCount (s : State) : Nat := ((allEntries s).filter (fun x => entLearned x.2)).length

/-- Version number and digest of the CURRENT slot. -/
def currentVersion (s : State) : Nat := (jigSlotGet s (currentSlot s)).version
def currentDigest (s : State) : Word := tableDigest (jigSlotGet s (currentSlot s)).set

/-- Body of a HEARTBEAT (R287), its fields in the order the rule lists them. -/
def heartbeatBody (s : State) : Bytes :=
  toLe 8 Config.dieId.toNat ++ toLe 2 s.itw.rank ++ toLe 1 (reportedMode s) ++ toLe 1 (b2n s.itw.actOut + 2 * b2n s.itw.grant) ++
    toLe 2 (currentVersion s) ++ toLe 4 (currentDigest s).toNat ++ toLe 1 (b2n s.jig.mirrorEn) ++ toLe 4 (learnedCount s) ++
    toLe 8 (stampNow s).toNat ++ toLe 4 s.itw.hbCount.toNat

/-- HEARTBEAT_SEND (R287). -/
def execHeartbeatSend (s : State) : Host.Outcome State Fault Refusal :=
  if itwSending s then
    let s' := itwSend s 0x01 (heartbeatBody s)
    done { s' with itw := { s'.itw with hbCount := s'.itw.hbCount + 1 } }
  else done s

/-- A mirrored commit whose GO may not have been delivered. -/
def goPending (s : State) : Bool :=
  match s.jig.commit with
  | some c => c.mirrored && (decide (c.phase = .waitSwitch) || decide (c.phase = .waitAck) || decide (c.phase = .waitGo))
  | none => false

/-- The comparison at link up (R152): differing versions or digests set MIRROR_DIVERGED and are reported. -/
def compareVersions (s : State) : State :=
  if goPending s then { s with itw := { s.itw with compareDue := true } }
  else
    let s := { s with itw := { s.itw with compareDue := false } }
    let p := s.itw.partner
    if mirrorInForce s && (decide (p.jigVersion ≠ currentVersion s) || decide (p.jigDigest ≠ currentDigest s)) then
      eventToManager (setBits s r_JIG_STATUS 0x20#32) 0x8401
        (toLe 2 (currentVersion s) ++ toLe 2 p.jigVersion ++ toLe 4 (currentDigest s).toNat ++ toLe 4 p.jigDigest.toNat)
    else s

/-- What a heartbeat carries (R287). -/
def partnerOf (s : State) (id : Dword) (rank mode act version : Nat) (digest : Word) (mirroring : Bool) (learned : Nat) (count : Word) :
    Partner :=
  { dieId := id, rank := rank, mode := mode, actOut := bitAt act 0, grant := bitAt act 1, jigVersion := version, jigDigest := digest,
    mirroring := mirroring, learned := learned, count := count, seen := true, lastTick := s.time.ticks }

/-- A valid heartbeat of the partner (R287, R288, R292, R297). -/
def onHeartbeat (s : State) (p : Partner) : State :=
  if !(s.itw.linkUp && s.itw.enable) then s
  else
    let old := s.itw.partner
    let equal := decide (p.rank = s.itw.rank)
    let again := s.itw.rankConflict
    let s := { s with itw := { s.itw with partner := p, lost := false, alive := s.itw.released, rankConflict := equal },
                      jig := { s.jig with partnerEn := p.mirroring } }
    if old.seen ∧ old.dieId ≠ p.dieId then itwLinkDown (emit (itwLog s 1) .itwRetrain)
    else
      let s := if p.grant && !s.itw.actIn then itwLog s 2 else s
      let s := if equal && !again then rankConflict s else s
      if s.itw.compareDue then compareVersions s else s

/-- HEARTBEAT (R287). -/
def execHeartbeat (id : Dword) (rank mode act version : Nat) (digest : Word) (mirroring : Bool) (learned : Nat) (count : Word) (s : State) :
    Host.Outcome State Fault Refusal :=
  done (onHeartbeat s (partnerOf s id rank mode act version digest mirroring learned count))

/-! Learning across the pair (R294 to R296). -/

/-- A learning message was applied. -/
def learnRx (s : State) : State := bump s r_ITW_CNT_LEARN_RX

/-- A learning message that the holder of the grant discards: logged once per second (R297). -/
def learnBad (s : State) (msg : Bytes) : State :=
  let s := itwBad s
  let due := match s.itw.badLogged with
    | some t => decide (1000000000 ≤ s.time.ticks - t)
    | none => true
  if due then errlog { s with itw := { s.itw with badLogged := some s.time.ticks } } 0x0161 13 0xFFFF 0 (fit msg 8) else s

/-- The key of an L2 entry from the 8 bytes of a message. -/
def l2Key (k : Bytes) : Bytes := [1] ++ fit k 8

/-- LEARN_REQ at the actor (R294): a learn request of the partner. Its SLICE is not in the message (notes/assumptions/47.md). -/
def onLearnReq (s : State) (b : Bytes) : State :=
  if isActor s then
    scribePush (learnRx (drawn s)) (.learn (l2Key b) (BitVec.ofNat 32 (le b 8 4)) (BitVec.ofNat 64 (le b 12 8)) (byteAt b 20 % 32)
      (byteAt b 21 % 8) (Config.freeNat s.fresh % 4096) true)
  else itwBad s

/-- The entry that a LEARN_APPLY states, over the entry `e` of its key. -/
def applyFields (e b : Bytes) : Bytes :=
  let e := putLe (putLe (putLe e 12 4 (le b 8 4)) 32 8 (le b 12 8)) 24 8 (le b 20 8)
  let e := putLe e 40 4 (putBits (putBits (le e 40 4) 4 0 (byteAt b 28)) 9 5 (byteAt b 29))
  putWordBits (putWordBits e 4 4 (byteAt b 30)) 9 7 (byteAt b 31)

/-- LEARN_APPLY at the standby (R294): the entry is written as it stands. -/
def applyStated (s : State) (b : Bytes) : State :=
  let key := l2Key b
  let lock := fun (s : State) (l : Loc) =>
    { s with cst := { s.cst with
        locked := if byteAt b 30 % 2 = 1 then mapSet s.cst.locked (locWord l) s.time.ticks else mapErase s.cst.locked (locWord l) } }
  match findKey s key with
  | some l =>
    if entStatic (wayGet s l) then bump s r_SCB_CNT_STATIC_CONFLICT
    else lock (markDirty (waySet s l (refreshed s (applyFields (wayGet s l) b))) (wayGet s l)) l
  | none =>
    let e := learnedEntry s key 0 0 0 0 (Config.freeNat s.fresh % 4096)
    match insertNew (drawn s) (applyFields e b) with
    | (s, .inl l) => lock s l
    | (s, .inr _) => s

def onLearnApply (s : State) (b : Bytes) : State :=
  if s.itw.grant then learnBad s (itwBytes 0x03 b)
  else
    let s := learnRx (applyStated s b)
    { s with itw := { s.itw with resync := s.itw.resync.map (fun l => l ++ [l2Key b]) } }

/-- LEARN_DELETE at the standby (R294, R295). -/
def onLearnDelete (s : State) (b : Bytes) : State :=
  if s.itw.grant then learnBad s (itwBytes 0x04 b)
  else match findKey s (l2Key b) with
    | some l => if entLearned (wayGet s l) then learnRx (deleteAt s l) else learnRx s
    | none => learnRx s

/-- LEARN_REFRESH at the actor (R295): a refreshing hit. -/
def onLearnRefresh (s : State) (b : Bytes) : State :=
  if isActor s then
    match findKey s (l2Key b) with
    | some l => learnRx (waySet s l (refreshed s (wayGet s l)))
    | none => learnRx s
  else itwBad s

/-- The end of a resync (R296): learned L2 entries that it did not name are deleted. -/
def resyncEnd (s : State) (named : List Bytes) : State :=
  let gone := (allEntries s).filter (fun x => entLearned x.2 && !named.contains (entKey x.2))
  (gone.map (fun x => x.1)).foldl deleteAt s

/-- RESYNC_MARK at the standby (R296). -/
def onResyncMark (s : State) (phase : Nat) (msg : Bytes) : State :=
  if s.itw.grant then learnBad s msg
  else if phase = 0 then { s with itw := { s.itw with resync := some [] } }
  else match s.itw.resync with
    | some named => resyncEnd { s with itw := { s.itw with resync := none } } named
    | none => s

/-- ACTOR_RELEASE (R293): this adapter requests the role at once. -/
def onActorRelease (s : State) : State := requestRole { s with itw := { s.itw with offered := true } }

/-- An Itwin message reaches this adapter only over the link. -/
def overLink (s : State) (f : State → State) : Host.Outcome State Fault Refusal :=
  done (if s.itw.linkUp && s.itw.enable then f s else s)

/-- Body of a LEARN_REQ (R286). -/
def learnReqBody (key : Bytes) (dest : Word) (stamp : Dword) (src prof : Nat) : Bytes :=
  fit key 8 ++ toLe 4 dest.toNat ++ toLe 8 stamp.toNat ++ toLe 1 src ++ toLe 1 prof

/-- LEARN_REQ (R294). -/
def execLearnReq (key : Bytes) (dest : Word) (stamp : Dword) (src prof : Nat) (s : State) : Host.Outcome State Fault Refusal :=
  overLink s (fun s => onLearnReq s (learnReqBody key dest stamp src prof))

/-- LEARN_APPLY (R294): the body of the message. -/
def execLearnApply (body : Bytes) (s : State) : Host.Outcome State Fault Refusal := overLink s (fun s => onLearnApply s (fit body 32))

/-- LEARN_DELETE (R295). -/
def execLearnDelete (key : Bytes) (s : State) : Host.Outcome State Fault Refusal := overLink s (fun s => onLearnDelete s (fit key 8))

/-- LEARN_REFRESH (R295). -/
def execLearnRefresh (key : Bytes) (s : State) : Host.Outcome State Fault Refusal := overLink s (fun s => onLearnRefresh s (fit key 8))

/-- RESYNC_MARK (R296). -/
def execResyncMark (phase count : Nat) (s : State) : Host.Outcome State Fault Refusal :=
  overLink s (fun s => onResyncMark s phase (itwBytes 0x06 (toLe 1 phase ++ toLe 4 count)))

/-- ACTOR_RELEASE (R293). -/
def execActorRelease (s : State) : Host.Outcome State Fault Refusal := overLink s onActorRelease

/-- The actor begins a resync (R296). -/
def resyncBegin (s : State) (cmd : Option (Nat × Nat)) : State :=
  let s := itwSend s 0x06 (toLe 1 0 ++ toLe 4 (learnedCount s))
  { s with itw := { s.itw with resyncTx := some cmd } }

/-- ITW_LINK_UP (R152, R296): the partner's version, digest and mirroring flag are those it states over the new link. -/
def execItwLinkUp (version : Nat) (digest : Word) (mirroring : Bool) (s : State) : Host.Outcome State Fault Refusal :=
  if s.itw.enable ∧ ¬ s.itw.linkUp then
    let s := { s with
      itw := { s.itw with linkUp := true, lost := false, split := false, txSeq := 0, rxSeq := 0, replay := [], resync := none,
                          partner := { s.itw.partner with jigVersion := version, jigDigest := digest, mirroring := mirroring } },
      jig := { s.jig with partnerEn := mirroring } }
    let s := match s.jig.commit with
      | some c => if c.mirrored ∧ ¬ c.partner ∧ (c.phase = .waitSwitch ∨ c.phase = .waitAck) ∧ ¬ c.acked then itwSend s 0x13 [] else s
      | none => s
    let s := if isActor s then resyncBegin s (s.itw.resyncTx.getD none) else s
    done (compareVersions s)
  else done s

/-- ITW_RESYNC_COMPLETE (R296): every learned L2 entry, then the end mark; ITW_RESYNC is answered with the count. -/
def execItwResyncComplete (s : State) : Host.Outcome State Fault Refusal :=
  match s.itw.resyncTx with
  | none => done s
  | some cmd =>
    if isActor s then
      let es := ((allEntries s).filter (fun x => entLearned x.2)).map (fun x => learnApplyBody x.2)
      let s := bumpBy (itwSendAll s 0x03 es) r_ITW_CNT_LEARN_TX es.length
      let s := itwSend s 0x06 (toLe 1 1 ++ toLe 4 es.length)
      let s := { s with itw := { s.itw with resyncTx := none } }
      done (match cmd with
        | some (ch, seq) => answer s ch seq rcOk (toLe 4 es.length)
        | none => s)
    else done s

/-! Flits (R285, R297). -/

/-- The LEN a message TYPE takes (R286); JIG_DATA may be shorter. -/
def itwLenOk (type len : Nat) : Bool :=
  match type with
  | 0x01 => decide (len = 5)
  | 0x02 => decide (len = 4)
  | 0x03 => decide (len = 5)
  | 0x04 => decide (len = 2)
  | 0x05 => decide (len = 2)
  | 0x06 => decide (len = 2)
  | 0x07 => decide (len = 1)
  | 0x10 => decide (len = 2)
  | 0x11 => decide (1 ≤ len ∧ len ≤ 30)
  | 0x12 => decide (len = 1)
  | 0x13 => decide (len = 1)
  | 0x14 => decide (len = 1)
  | _ => false

/-- One message of a flit: `b` is its body. -/
def onItwMessage (s : State) (type : Nat) (b : Bytes) : State :=
  match type with
  | 0x01 => onHeartbeat s (partnerOf s (BitVec.ofNat 64 (le b 0 8)) (le b 8 2) (byteAt b 10) (byteAt b 11) (le b 12 2)
      (BitVec.ofNat 32 (le b 14 4)) (decide (byteAt b 18 = 1)) (le b 19 4) (BitVec.ofNat 32 (le b 31 4)))
  | 0x02 => onLearnReq s b
  | 0x03 => onLearnApply s b
  | 0x04 => onLearnDelete s b
  | 0x05 => onLearnRefresh s b
  | 0x06 => onResyncMark s (byteAt b 0) (itwBytes 0x06 b)
  | 0x07 => onActorRelease s
  | 0x10 => onPrepare s (le b 0 2) (BitVec.ofNat 32 (le b 2 4))
  | 0x11 => onJigData s b
  | 0x12 => onJigReady s (le b 0 2)
  | 0x13 => onJigGo s
  | 0x14 => onJigAck s
  | _ => s

/-- The messages of a flit in order (R286, R297); a header of zeros is padding, and a LEN outside 1 to 30 leaves nothing to read after it. -/
def onItwMessages : Nat → State → Bytes → State
  | 0, s, _ => s
  | n + 1, s, b =>
    let type := byteAt b 0
    let len := byteAt b 1
    if b.length < 4 ∨ (type = 0 ∧ len = 0) then s
    else
      let bad := fun (s : State) => errlog (itwBad s) 0x0161 13 0xFFFF 0 (fit b 8)
      if len = 0 ∨ 30 < len ∨ b.length < 8 * len then bad s
      else
        let s := trace s 37 2 0 0xFFF 0 (toLe 1 type ++ toLe 1 len)
        let s := if itwLenOk type len then onItwMessage s type (slice b 4 (8 * len - 4)) else bad s
        if s.itw.linkUp then onItwMessages n s (b.drop (8 * len)) else s

/-- A flit with a bad CRC (R285, R297): a NAK, and an entry when 16 fall in 1 ms. -/
def flitBad (s : State) : State :=
  let s := emit (bump s r_ITW_CNT_FLIT_CRC) .itwNak
  let fresh := s.itw.crcErrors = 0 || decide (1000000 < s.time.ticks - s.itw.crcSince)
  let n := if fresh then 1 else s.itw.crcErrors + 1
  let s := { s with itw := { s.itw with crcErrors := n, crcSince := if fresh then s.time.ticks else s.itw.crcSince } }
  if n = 16 then errlog s 0x0160 13 0xFFFF 0 (toLe 4 n) else s

/-- A NAK asks for the flits after `ack` (R285); one that the buffer no longer holds resets the link (R297). -/
def flitNak (s : State) (ack : BitVec 16) : State :=
  let next := ack + 1
  if next = s.itw.txSeq then s
  else match s.itw.replay.findIdx? (fun x => x.1 = next) with
    | some i => emit (bumpBy s r_ITW_CNT_REPLAY (s.itw.replay.length - i)) (.itwReplay next)
    | none => itwLinkDown (emit (itwLog s 0) .itwRetrain)

/-- FLIT_RX (R285, R286, R297): a flit with its SEQ, ACK and NAK flag, whether its CRC is good, and its 244 bytes of messages. -/
def execFlitRx (seq ack : BitVec 16) (nak crcGood : Bool) (body : Bytes) (s : State) : Host.Outcome State Fault Refusal :=
  if !(s.itw.linkUp && s.itw.enable) then done s
  else if !crcGood then done (flitBad s)
  else
    let s := if nak then flitNak s ack else s
    if !s.itw.linkUp then done s
    else if seq = s.itw.rxSeq then
      done (onItwMessages 61 { s with itw := { s.itw with rxSeq := seq + 1 } } (fit body 244))
    else if later 16 seq.toNat s.itw.rxSeq.toNat then done (emit s .itwNak)
    else done s

/-! Commands (R298). -/

/-- ITW_CONFIG (R298): held in Heartwood until the next entry to PROVISION from BOOT. -/
def execItwConfig (ch seq : Nat) (s : State) : Host.Outcome State Fault Refusal :=
  command s ch seq 0x0920 (fun req =>
    let period := le req 4 2
    let miss := byteAt req 6
    if 1 < byteAt req 0 ∨ period < 10 ∨ 10000 < period ∨ miss < 2 ∨ 15 < miss then answer s ch seq rcBadParam []
    else
      answer (hwJournal s 0x030 [BitVec.ofNat 32 (2 * byteAt req 0), BitVec.ofNat 32 (le req 2 2),
        BitVec.ofNat 32 (period + 65536 * miss)]) ch seq rcOk [])

/-- PAIR_STATE (R292, R293, R302). -/
def pairState (s : State) : Nat :=
  if !s.itw.enable then 0 else if s.itw.grant then 1 else if s.itw.split then 3 else if standby s then 2 else 0

/-- The register ITW_STATUS (R302): the lines, the sticky bits of the register, and PAIR_STATE. -/
def itwStatusWord (s : State) : Nat :=
  let w := s.itw
  b2n w.linkUp + 2 * b2n (w.released && w.alive) + 4 * b2n w.actIn + 8 * b2n w.actOut + 16 * b2n w.grant +
    (reg s r_ITW_STATUS).toNat % 256 / 32 * 32 + 256 * pairState s

/-- ITW_STATUS (R298). -/
def execItwStatus (ch seq : Nat) (s : State) : Host.Outcome State Fault Refusal :=
  command s ch seq 0x0921 (fun _ =>
    let p := s.itw.partner
    let us := if p.seen then min ((s.time.ticks - p.lastTick) / 1000) 0xFFFFFFFF else Config.freeNat s.fresh
    answer (drawn s) ch seq rcOk (toLe 4 (itwStatusWord s) ++ toLe 8 p.dieId.toNat ++ toLe 2 p.rank ++ toLe 1 p.mode ++ toLe 1 0 ++
      toLe 2 p.jigVersion ++ toLe 4 p.jigDigest.toNat ++ toLe 4 p.learned ++ toLe 4 us))

/-- ITW_ACTOR_RELEASE (R293, R298). -/
def execItwActorRelease (ch seq : Nat) (s : State) : Host.Outcome State Fault Refusal :=
  command s ch seq 0x0922 (fun _ =>
    if s.itw.grant then answer (itwSend (setActReq s false) 0x07 []) ch seq rcOk []
    else answer s ch seq rcNotPermitted [])

/-- ITW_RESYNC (R296, R298): answered when the last entry is sent. -/
def execItwResync (ch seq : Nat) (s : State) : Host.Outcome State Fault Refusal :=
  command s ch seq 0x0923 (fun _ =>
    if !isActor s then answer s ch seq rcNotPermitted []
    else match s.itw.resyncTx with
      | some (some _) => answer s ch seq rcBusy []
      | _ => defer (resyncBegin s (some (ch, seq))) ch seq)

end Sys2Proof.Machine
end

