-- ==== Sys2Proof/Machine/Timebase.lean ====
section
/-! DEFINITION. The timebase: its accumulator (R379 to R382), steps (R383 to R385, R670), the stamp queues (R391), timed I/O (R405 to
R411), and their commands (R412). -/

namespace Sys2Proof.Machine

open Sys2Proof

/-! The accumulator. -/

/-- TRIM as it counts (R380, R382). -/
def trimNow (s : State) : Int := if s.time.onFallback then 0 else signed 64 (hwPair s 0x080)

/-- A_eff (R380). -/
def aEff (s : State) : Int := clamp (-(2 ^ 47)) (2 ^ 47 - 1) (trimNow s + s.time.adj.toInt)

/-- One tick of the 1 GHz clock (R379). -/
def tickTime (t : TimeVal) (a : Int) : TimeVal :=
  let sum := t.frac.toNat + ((2 : Int) ^ 56 + a).toNat
  let ns := t.ns.toNat + sum / 2 ^ 56
  { s := if 1000000000 ≤ ns then t.s + 1 else t.s
    ns := BitVec.ofNat 30 (if 1000000000 ≤ ns then ns - 1000000000 else ns)
    frac := BitVec.ofNat 56 sum }

/-- The timebase runs: HELD has ended (R381). -/
def clockOn (s : State) : Bool := !(s.dev.base = .off || s.dev.base = .held)

/-- TIMEBASE_TICK (R379). -/
def execTimebaseTick (s : State) : Host.Outcome State Fault Refusal :=
  if clockOn s then
    done { s with time := { s.time with now := tickTime s.time.now (aEff s), ticks := s.time.ticks + 1 } }
  else done s

/-- OSC_LOSS (R382, R657): the PLL takes the Ethernet reference, or runs on without one. -/
def execOscLoss (s : State) : Host.Outcome State Fault Refusal :=
  if clockOn s && !s.time.onFallback then
    let fb := s.dev.ethRefclk
    done (eventToManager { s with time := { s.time with oscLost := true, onFallback := fb }, dev := { s.dev with tbOsc := false } } 0x8701
      (toLe 1 (b2n fb) ++ zeros 3))
  else done s

/-- OSC_RETURN (R382): the PLL returns to the oscillator. -/
def execOscReturn (s : State) : Host.Outcome State Fault Refusal :=
  if clockOn s then done { s with time := { s.time with onFallback := false }, dev := { s.dev with tbOsc := true } } else done s

/-- ETH_REFCLK_LOSS (R657): every Ethernet and Itwin link goes down. -/
def ethLinksDown (s : State) : State :=
  (List.range 16).foldl (fun s m => if (macGet s m).linkUp then linkChange s m false 1 else s) s

/-! Timed I/O (R407 to R411). -/

def tioGet (s : State) (c : Nat) : TioChan := mapGetD s.tio c {}

def tioSet (s : State) (c : Nat) (x : TioChan) : State := { s with tio := mapSet s.tio c x }

/-- START in units of 1/256 ns. -/
def tioStart (x : TioChan) : Nat := (x.startS * 1000000000 + x.startNs) * 256 + x.startSub

/-- The level of an output by its interval at time `t` (R405, R407). -/
def tioLevel (x : TioChan) (t : Nat) : Bool :=
  let a := tioStart x
  if x.mode = 2 then decide (a ≤ t) && (decide (x.width = 0) || decide (t < a + x.width * 256))
  else if x.mode = 3 then decide (a ≤ t) && decide ((t - a) % x.period < x.width * 256)
  else false

/-- The pin takes a level. -/
def tioDrive (s : State) (c : Nat) (level : Bool) : State :=
  let x := tioGet s c
  if x.active = level then s else emit (tioSet s c { x with active := level }) (.tioEdge c level)

/-- A ONE_SHOT fires: ARM is 0 from here (R410). -/
def tioFire (s : State) (c : Nat) : State :=
  let x := tioGet s c
  let s := tioSet s c { x with armed := false, live := true }
  tioDrive s c (tioLevel x (fineNow s))

/-- An armed ONE_SHOT whose START has passed fires at once, late (R410). -/
def tioLate (s : State) (c : Nat) : State :=
  eventToManager (setBits (tioFire s c) (r_TIO_CFG c) 128#32) 0x8730 (toLe 1 c ++ zeros 3)

/-- An output follows a step of the time value (R410). -/
def tioStep (s : State) (c : Nat) : State :=
  let x := tioGet s c
  if x.mode = 2 ∧ x.armed then (if tioStart x ≤ fineNow s then tioLate s c else s)
  else if x.mode = 3 ∨ (x.mode = 2 ∧ x.live) then tioDrive s c (tioLevel x (fineNow s))
  else s

/-- Modes a channel takes (R407). -/
def tioModeOk (c mode : Nat) : Bool :=
  if c = 9 then mode = 0 || mode = 3 else if c = 8 then decide (mode ≤ 1) else decide (mode ≤ 3)

/-- The settings of a channel keep R407 and R408. -/
def tioOk (c mode edge period width : Nat) : Bool :=
  tioModeOk c mode && !(mode = 1 && edge = 0) && !(mode = 2 && width = 1) &&
    !(mode = 3 && (decide (period < 2048) || decide (2 ^ 48 ≤ period) || decide (width < 2) || decide (period ≤ width * 256)))

/-- The written settings of a channel take effect (R407). -/
def tioCommit (s : State) (c : Nat) : State :=
  let cfg := (reg s (r_TIO_CFG c)).toNat
  let x := tioGet s c
  let y := { x with mode := bits cfg 2 0, pol := bitAt cfg 3, edge := bits cfg 5 4, armed := true, live := false,
                    startS := counter64 s (r_TIO_START_S c), startNs := (reg s (r_TIO_START_NS c)).toNat,
                    startSub := (reg s (r_TIO_START_SUB c)).toNat,
                    period := (reg s (r_TIO_PERIOD_LO c)).toNat + 4294967296 * (reg s (r_TIO_PERIOD_HI c)).toNat,
                    width := (reg s (r_TIO_WIDTH c)).toNat }
  let s := tioSet s c y
  if y.mode = 2 then
    let s := tioDrive s c false
    if tioStart y ≤ fineNow s then tioLate s c else s
  else tioDrive s c (tioLevel y (fineNow s))

/-- TIO_ARM (R407): settings that break R407 or R408 are not taken (notes/assumptions/51.md). -/
def execTioArm (c : Nat) (s : State) : Host.Outcome State Fault Refusal :=
  let cfg := (reg s (r_TIO_CFG c)).toNat
  let period := (reg s (r_TIO_PERIOD_LO c)).toNat + 4294967296 * (reg s (r_TIO_PERIOD_HI c)).toNat
  if clockOn s ∧ c ≤ 9 ∧ tioModeOk c (bits cfg 2 0) ∧
      (bits cfg 2 0 = 1 ∨ tioOk c (bits cfg 2 0) (bits cfg 5 4) period (reg s (r_TIO_WIDTH c)).toNat) then
    done (tioCommit s c)
  else done s

/-- TIO_OUTPUT_EDGE (R406, R408): the pin takes the level of its interval now; an armed ONE_SHOT fires at its START. -/
def execTioOutputEdge (c : Nat) (s : State) : Host.Outcome State Fault Refusal :=
  let x := tioGet s c
  if clockOn s ∧ x.mode = 2 then
    if x.armed then done (if tioStart x ≤ fineNow s then tioFire s c else s)
    else if x.live then
      let l := tioLevel x (fineNow s)
      let s := tioDrive s c l
      done (if x.active && !l then tioSet s c { tioGet s c with live := false } else s)
    else done s
  else if clockOn s ∧ x.mode = 3 then done (tioDrive s c (tioLevel x (fineNow s)))
  else done s

/-! Plumb's sample queue (R400). -/

def plbSource (s : State) : Nat := hwField s 0x082 2 1

/-- A sample of a source arrives: ignored in MANUAL and from other sources; a fifth is dropped. -/
def plbOffer (s : State) (source : Nat) (tms d : Int) : State :=
  if s.plb.state = .manual ∨ plbSource s ≠ source then s
  else if 4 ≤ s.plb.queue.length then bump s r_PLB_CNT_OVERRUN
  else { s with plb := { s.plb with queue := s.plb.queue ++ [(tms, d)] } }

/-- t_ms of a PPS capture (R400): the signed distance from the nearest whole second. -/
def ppsOffset (t : Nat) : Int :=
  let r := t % 256000000000
  if r < 128000000000 then (r : Int) else (r : Int) - 256000000000

/-- TIO_EDGE_CAPTURE (R409): the edge is stamped into the capture queue, or dropped and counted; a capture of channel 8 is a PPS
sample. -/
def execTioEdgeCapture (c : Nat) (falling : Bool) (s : State) : Host.Outcome State Fault Refusal :=
  let x := tioGet s c
  if clockOn s ∧ c ≤ 8 ∧ x.mode = 1 ∧ bitAt x.edge (b2n falling) then
    let t := ((fineNow s : Int) - signed 32 (hwUse s (0x0C0 + 2 * c))) / 8 * 8
    let st := BitVec.ofInt 64 t
    let near : Bool := match x.last with
      | some l => decide ((st - l).toNat < 1024)
      | none => false
    if 16 ≤ x.captures.length ∨ near then done (bump s (r_TIO_CNT_DROP c))
    else
      let s := tioSet s c { x with captures := x.captures ++ [{ stamp := st, falling := falling }], last := some st }
      done (if c = 8 then plbOffer s 1 (ppsOffset t.toNat) 0 else s)
  else done s

/-- What TIO_CAP_POP shows (R416): the oldest capture and how many are left. -/
def capWord (x : TioChan) : Nat :=
  match x.captures with
  | [] => 0
  | e :: l => 1 + 2 * b2n e.falling + 4 * l.length

/-- A read of TIO_CAP_POP moves the oldest capture into the latch (R409). -/
def capPop (s : State) (c : Nat) : State :=
  let x := tioGet s c
  tioSet s c { x with captures := x.captures.drop 1, latch := x.captures.head? }

/-- TIO_CAP_POP (R409, R416). -/
def execTioCapPop (master c : Nat) (s : State) : Host.Outcome State Fault Refusal :=
  if 9 < c then done s else done (emit (capPop s c) (.regRead master (BitVec.ofNat 32 (capWord (tioGet s c)))))

/-- What TIME_TXQ_POP shows (R417). -/
def stampWord (x : MacState) : Nat :=
  match x.stamps with
  | [] => 0
  | e :: l => 1 + 2 * b2n e.demoted + 4 * b2n e.onestep + 8 * l.length + 65536 * e.id

/-- A read of TIME_TXQ_POP moves the oldest stamp into the latch (R391). -/
def stampPop (s : State) (m : Nat) : State :=
  let x := macGet s m
  macSet s m { x with stamps := x.stamps.drop 1, stampLatch := x.stamps.head? }

/-- TIME_TXQ_POP (R391, R417). -/
def execTimeTxqPop (master m : Nat) (s : State) : Host.Outcome State Fault Refusal :=
  if 15 < m then done s else done (emit (stampPop s m) (.regRead master (BitVec.ofNat 32 (stampWord (macGet s m)))))

/-! Steps (R383 to R385, R670). -/

/-- A time value in units of 2^-56 ns. -/
def timeTotal (t : TimeVal) : Nat := (t.s.toNat * 1000000000 + t.ns.toNat) * 2 ^ 56 + t.frac.toNat

def timeOfTotal (x : Nat) : TimeVal :=
  { s := BitVec.ofNat 64 (x / 2 ^ 56 / 1000000000), ns := BitVec.ofNat 30 (x / 2 ^ 56 % 1000000000), frac := BitVec.ofNat 56 x }

/-- The greatest time value (R670). -/
def timeTop : Nat := 2 ^ 64 * 1000000000 * 2 ^ 56 - 1

/-- The new value of a step; none when it leaves the range and nothing changes (R670). -/
def stepTarget (s : State) (r : StepReq) : Option TimeVal :=
  if r.cause = 0 then some r.value
  else
    let x : Int := (timeTotal s.time.now : Int) + r.offset * (2 : Int) ^ 48
    if 0 ≤ x ∧ x ≤ timeTop then some (timeOfTotal x.toNat)
    else if r.cause = 2 then some (timeOfTotal (if x < 0 then 0 else timeTop))
    else none

/-- The time value takes a new value in every island at once (R384). -/
def stepTime (s : State) (cause : Nat) (t : TimeVal) : State :=
  let off : Int := ((timeTotal t : Int) - timeTotal s.time.now) / (2 : Int) ^ 48
  let s := { s with time := { s.time with now := t, stepped := true, stepCount := s.time.stepCount + 1 } }
  let s := sluiceStep (cisternStep s)
  let s := (List.range 10).foldl tioStep s
  let s := trace s 33 1 0 0xFFF 0 (toLe 8 (unsigned 64 off))
  eventToManager s 0x8700 (toLe 1 cause ++ zeros 3 ++ toLe 8 (unsigned 64 off) ++ toLe 4 s.time.stepCount.toNat)

/-- TIME_STEP (R384): the oldest step asked for takes effect, and its command is answered. -/
def execTimeStep (s : State) : Host.Outcome State Fault Refusal :=
  match s.time.steps with
  | [] => done s
  | r :: rest =>
    let s := { s with time := { s.time with steps := rest } }
    match stepTarget s r with
    | some t =>
      let s := stepTime s r.cause t
      done (match r.cmd with
        | some (ch, seq) => answer s ch seq rcOk (toLe 4 s.time.stepCount.toNat)
        | none => s)
    | none =>
      done (match r.cmd with
        | some (ch, seq) => answer s ch seq rcBadParam []
        | none => s)

def askStep (s : State) (r : StepReq) : State := { s with time := { s.time with steps := s.time.steps ++ [r] } }

/-! Commands (R412). -/

def plbCode : PlbState → Nat
  | .manual => 0
  | .acquire => 1
  | .locked => 2
  | .holdover => 3
  | .delayHold => 4

/-- TIME_GET (R412). -/
def execTimeGet (ch seq : Nat) (s : State) : Host.Outcome State Fault Refusal :=
  command s ch seq 0x0700 (fun _ =>
    let t := s.time.now
    answer s ch seq rcOk (toLe 8 t.s.toNat ++ toLe 4 t.ns.toNat ++ toLe 4 (visibleFrac t) ++ toLe 8 (stampOf t).toNat ++
      toLe 4 s.time.stepCount.toNat ++ toLe 1 (plbCode s.plb.state) ++ zeros 3))

/-- TIME_SET (R383, R385): asks for the step, which TIME_STEP makes and answers. -/
def execTimeSet (ch seq : Nat) (s : State) : Host.Outcome State Fault Refusal :=
  command s ch seq 0x0701 (fun req =>
    if s.plb.state ≠ .manual then answer s ch seq rcNotPermitted []
    else if 999999999 < le req 8 4 then answer s ch seq rcBadParam []
    else askStep (defer s ch seq)
      { cause := 0, offset := 0, cmd := some (ch, seq),
        value := { s := BitVec.ofNat 64 (le req 0 8), ns := BitVec.ofNat 30 (le req 8 4), frac := BitVec.ofNat 56 (le req 12 4 * 2 ^ 24) } })

/-- TIME_OFFSET (R383, R385, R670): its range is judged when the step takes effect. -/
def execTimeOffset (ch seq : Nat) (s : State) : Host.Outcome State Fault Refusal :=
  command s ch seq 0x0702 (fun req =>
    if s.plb.state ≠ .manual then answer s ch seq rcNotPermitted []
    else askStep (defer s ch seq) { cause := 1, value := {}, offset := signed 64 (le req 0 8), cmd := some (ch, seq) })

/-- An adjustment or a trim in range (R380, R412). -/
def rateOk (x : Int) : Bool := decide (-(2 ^ 47) ≤ x ∧ x ≤ 2 ^ 47 - 1)

/-- ADJ takes a value; a lower word of TIME_ADJ that waited for its upper word is gone (R380). -/
def setAdj (s : State) (x : Int) : State :=
  { s with time := { s.time with adj := BitVec.ofInt 64 x }, regs := mapErase s.regs r_TIME_ADJ }

/-- TIME_FREQ_SET (R380, R385). -/
def execTimeFreqSet (ch seq : Nat) (s : State) : Host.Outcome State Fault Refusal :=
  command s ch seq 0x0703 (fun req =>
    let x := signed 64 (le req 0 8)
    if s.plb.state ≠ .manual then answer s ch seq rcNotPermitted []
    else if rateOk x then answer (setAdj s x) ch seq rcOk []
    else answer s ch seq rcBadParam [])

/-- A 64-bit value in two Heartwood words, journalled (R617). -/
def hwSetPair (s : State) (w v : Nat) : State := hwJournal s w [BitVec.ofNat 32 v, BitVec.ofNat 32 (v / 4294967296)]

/-- TIME_TRIM_SET (R380). -/
def execTimeTrimSet (ch seq : Nat) (s : State) : Host.Outcome State Fault Refusal :=
  command s ch seq 0x0704 (fun req =>
    if rateOk (signed 64 (le req 0 8)) then answer (hwSetPair s 0x080 (le req 0 8)) ch seq rcOk []
    else answer s ch seq rcBadParam [])

/-- Heartwood word of a latency constant (R387, R412, R615). -/
def latWord (kind unit index dir : Nat) : Option Nat :=
  if kind = 0 then (if unit ≤ 1 ∧ index ≤ 3 ∧ dir ≤ 1 then some (0x090 + 8 * unit + 2 * index + dir) else none)
  else if kind = 1 then (if unit ≤ 1 ∧ index ≤ 7 ∧ dir ≤ 1 then some (0x0A0 + 16 * unit + 2 * index + dir) else none)
  else if kind = 2 then (if unit ≤ 9 then some (0x0C0 + 2 * unit) else none)
  else if kind = 3 then (if unit ≤ 9 then some (0x0C1 + 2 * unit) else none)
  else none

/-- TIME_LAT_SET (R387). -/
def execTimeLatSet (ch seq : Nat) (s : State) : Host.Outcome State Fault Refusal :=
  command s ch seq 0x0705 (fun req =>
    match latWord (byteAt req 0) (byteAt req 1) (byteAt req 2) (byteAt req 3) with
    | some w => answer (hwSet s w (BitVec.ofNat 32 (le req 4 4))) ch seq rcOk []
    | none => answer s ch seq rcBadParam [])

/-- TIO_CONFIG (R407, R408, R412). -/
def execTioConfig (ch seq : Nat) (s : State) : Host.Outcome State Fault Refusal :=
  command s ch seq 0x0730 (fun req =>
    let c := byteAt req 0
    let mode := byteAt req 1
    let fl := byteAt req 2
    if 9 < c ∨ !tioOk c mode (bits fl 2 1) (le req 20 8) (le req 28 4) then answer s ch seq rcBadParam []
    else
      let w := fun (s : State) (a v : Nat) => setReg s a (BitVec.ofNat 32 v)
      let late := bits (reg s (r_TIO_CFG c)).toNat 7 7
      let s := w s (r_TIO_CFG c) (mode + 8 * bits fl 0 0 + 16 * bits fl 2 1 + 128 * late)
      let s := w (w s (r_TIO_START_S c) (le req 4 4)) (r_TIO_START_S c + 4) (le req 8 4)
      let s := w (w s (r_TIO_START_NS c) (le req 12 4 % 2 ^ 30)) (r_TIO_START_SUB c) (byteAt req 16)
      let s := w (w s (r_TIO_PERIOD_LO c) (le req 20 4)) (r_TIO_PERIOD_HI c) (le req 24 2)
      let s := w s (r_TIO_WIDTH c) (le req 28 4)
      answer (if bitAt fl 3 then tioCommit s c else s) ch seq rcOk [])

/-- TIO_CAPTURE_READ (R409, R412): returns and removes captures. -/
def execTioCaptureRead (ch seq : Nat) (s : State) : Host.Outcome State Fault Refusal :=
  command s ch seq 0x0731 (fun req =>
    let c := byteAt req 0
    let n := byteAt req 1
    if 9 < c ∨ n = 0 ∨ 15 < n then answer s ch seq rcBadParam []
    else
      let x := tioGet s c
      let l := x.captures.take n
      answer (tioSet s c { x with captures := x.captures.drop n }) ch seq rcOk
        (toLe 1 l.length ++ zeros 3 ++ l.flatMap (fun e => toLe 8 e.stamp.toNat ++ toLe 1 (b2n e.falling) ++ zeros 7)))

end Sys2Proof.Machine
end

