-- ==== Sys2Proof/Machine/Plumb.lean ====
section
/-! DEFINITION. Plumb, the clock servo (R400 to R404) and its commands (R412). Quantities are in units of 1/256 ns; the integrator
is in units of 2^-16 of R66's. -/

namespace Sys2Proof.Machine

open Sys2Proof

/-! Settings (R415). -/

def plbShift (s : State) : Nat := bits (hwUse s 0x082) 6 3
def plbStepMode (s : State) : Nat := bits (hwUse s 0x082) 7 7
def plbKp (s : State) : Int := signed 64 (hwPair s 0x083)
def plbKi (s : State) : Int := signed 64 (hwPair s 0x085)
def plbIclamp (s : State) : Int := signed 64 (hwPair s 0x087)
def plbLimit (s : State) : Int := signed 64 (hwPair s 0x089)
def plbJump (s : State) : Int := (hwUse s 0x08B * 256 : Nat)
def plbDstep (s : State) : Int := (hwUse s 0x08C * 256 : Nat)
def plbLock (s : State) : Int := (hwUse s 0x08D * 256 : Nat)
def plbAsym (s : State) : Int := signed 32 (hwUse s 0x08F)

def absInt (x : Int) : Int := if x < 0 then -x else x

def plbMod (s : State) (f : Plumb → Plumb) : State := { s with plb := f s.plb }

/-- The state changes, and firmware reports it (R401, R413). -/
def plbTo (s : State) (x : PlbState) : State :=
  if s.plb.state = x then s
  else eventToManager (plbMod s (fun p => { p with state := x })) 0x8710
    (toLe 1 (plbCode s.plb.state) ++ toLe 1 (plbCode x) ++ zeros 2)

/-- The acquisition step is asked for and disarmed (R403); firmware has no command to answer. -/
def acquisitionStep (s : State) (theta : Int) : State :=
  let s := setBits (plbMod s (fun p => { p with armed := false })) r_PLB_STATUS 64#32
  askStep s { cause := 2, value := {}, offset := -theta, cmd := none }

/-- An offset beyond JUMP is refused (R403), reported at most once in a second (R413). -/
def refuseJump (s : State) (theta : Int) : State :=
  let s := bump (setBits s r_PLB_STATUS 8#32) r_PLB_CNT_JUMP
  let s := plbMod s (fun p => { p with refused := p.refused + 1, lockRun := 0 })
  let due := match s.plb.refusedSent with
    | some t => decide (t + 1000000000 ≤ s.time.ticks)
    | none => true
  if due then
    let n := s.plb.refused
    eventToManager (plbMod s (fun p => { p with refused := 0, refusedSent := some s.time.ticks })) 0x8711
      (toLe 8 (unsigned 64 theta) ++ toLe 4 n)
  else s

/-- The states that follow an accepted offset (R401). -/
def plbAccepted (s : State) (theta : Int) : State :=
  let run := if absInt theta ≤ plbLock s then s.plb.lockRun + 1 else 0
  let s := plbMod s (fun p => { p with lockRun := run })
  if s.plb.state = .acquire ∧ 16 ≤ run then plbTo s .locked
  else if s.plb.state = .holdover then plbTo s (if s.plb.wasLocked then .locked else .acquire)
  else s

/-- The servo on an offset θ (R403). -/
def servo (s : State) (theta : Int) : State :=
  if s.plb.state = .acquire ∧ s.plb.armed ∧ plbJump s < absInt theta then acquisitionStep s theta
  else if plbJump s < absInt theta then refuseJump s theta
  else
    let e := -theta
    let lim := plbIclamp s * 65536
    let i1 := clamp (-lim) lim (s.plb.integ + plbKi s * e)
    let u := plbKp s * e + i1
    let a := roundHalfEven u 65536
    let sat := decide (plbLimit s < absInt a)
    let a' := if sat then a.sign * plbLimit s else a
    let i' := if sat ∧ (plbKi s * e).sign = u.sign then s.plb.integ else i1
    let s := if sat then setBits s r_PLB_STATUS 32#32 else s
    let s := { s with time := { s.time with adj := BitVec.ofInt 64 a' }, plb := { s.plb with integ := i', thetaLast := theta } }
    let s := bump s r_PLB_CNT_ACCEPTED
    let s := trace s 33 3 0 0xFFF 0 (toLe 8 (unsigned 64 theta) ++ toLe 8 (unsigned 64 a'))
    plbAccepted s theta

/-- The delay is confirmed (R402). -/
def plbConfirm (s : State) (tms : Int) : State :=
  let old := s.plb.df.getD 0
  let df := roundHalfEven s.plb.sumD 16
  let sum := (s.plb.kept.map (fun x => x.1 - df - plbAsym s - s.plb.bias)).foldl (· + ·) 0
  let b := if plbStepMode s = 0 then s.plb.bias + roundHalfEven sum 16 - s.plb.thetaLast else s.plb.bias
  let s := plbTo (plbMod s (fun p => { p with df := some df, bias := b })) s.plb.prior
  let s := eventToManager (setBits s r_PLB_STATUS 16#32) 0x8712
    (toLe 8 (unsigned 64 old) ++ toLe 8 (unsigned 64 df) ++ toLe 8 (unsigned 64 b))
  servo s (tms - df - plbAsym s - b)

/-- A sample with a known filtered delay, outside DELAY_HOLD (R402). -/
def plbFiltered (s : State) (tms d df : Int) : State :=
  if plbDstep s < absInt (d - df) then
    let s := plbMod s (fun p => { p with prior := p.state, run := 1, sumD := d, kept := [(tms, d)] })
    bump (plbTo s .delayHold) r_PLB_CNT_WITHHELD
  else
    let df := df + roundHalfEven (d - df) (2 ^ plbShift s)
    servo (plbMod s (fun p => { p with df := some df })) (tms - df - plbAsym s - s.plb.bias)

/-- A sample in DELAY_HOLD (R402). -/
def plbCandidate (s : State) (tms d df : Int) : State :=
  let p := s.plb
  if absInt (d - roundHalfEven p.sumD p.run) ≤ plbDstep s then
    let s := bump (plbMod s (fun p => { p with run := p.run + 1, sumD := p.sumD + d, kept := p.kept ++ [(tms, d)] })) r_PLB_CNT_WITHHELD
    if s.plb.run = 16 then plbConfirm s tms else s
  else if absInt (d - df) ≤ plbDstep s then plbFiltered (bump (plbTo s p.prior) r_PLB_CNT_GLITCH) tms d df
  else bump (plbMod s (fun p => { p with run := 1, sumD := d, kept := [(tms, d)] })) r_PLB_CNT_WITHHELD

/-- One sample (R402). -/
def plbSample (s : State) (tms d : Int) : State :=
  let s := trace s 33 2 0 0xFFF 0 (toLe 8 (unsigned 64 tms) ++ toLe 8 (unsigned 64 d))
  if d < 0 then bump s r_PLB_CNT_NEG_DELAY
  else if plbSource s = 1 then servo s (tms - s.plb.bias)
  else
    let df := s.plb.df.getD d
    let s := plbMod s (fun p => { p with df := some df })
    if s.plb.state = .delayHold then plbCandidate s tms d df else plbFiltered s tms d df

/-- PLB_TRIM_SAVE takes place at a sample boundary (R404). -/
def trimSave (s : State) : State :=
  match s.plb.trimSave with
  | none => s
  | some (ch, seq) =>
    let t := roundHalfEven s.plb.integ 65536
    let trim := clamp (-(2 ^ 47)) (2 ^ 47 - 1) (signed 64 (hwPair s 0x080) + t)
    let s := hwSetPair s 0x080 (unsigned 64 trim)
    let s := plbMod s (fun p => { p with trimSave := none, integ := p.integ - t * 65536 })
    let s := { s with time := { s.time with adj := s.time.adj - BitVec.ofInt 64 t } }
    answer s ch seq rcOk (toLe 8 (unsigned 64 trim))

/-- PLUMB_SAMPLE (R402): the oldest queued sample. -/
def execPlumbSample (s : State) : Host.Outcome State Fault Refusal :=
  match s.plb.queue with
  | [] => done s
  | (tms, d) :: rest =>
    if s.plb.state = .manual then done (plbMod s (fun p => { p with queue := rest }))
    else done (plbSample (trimSave (plbMod s (fun p => { p with queue := rest }))) tms d)

/-- PLUMB_TIMEOUT (R401): HOLDOVER, ADJ from the integrator within its limit; a candidate run is discarded. -/
def execPlumbTimeout (s : State) : Host.Outcome State Fault Refusal :=
  if s.plb.state = .manual ∨ s.plb.state = .holdover then done s
  else
    let locked := decide (s.plb.state = .locked) || (decide (s.plb.state = .delayHold) && decide (s.plb.prior = .locked)) ||
      (decide (s.plb.state = .delayHold) && decide (s.plb.prior = .holdover) && s.plb.wasLocked)
    let a := clamp (-plbLimit s) (plbLimit s) (roundHalfEven s.plb.integ 65536)
    let s := plbMod s (fun p => { p with wasLocked := locked, run := 0, sumD := 0, kept := [], lockRun := 0 })
    done (plbTo { s with time := { s.time with adj := BitVec.ofInt 64 a } } .holdover)

/-- The host's sample as its registers hold it, D_HI being written (R400). -/
def hostSample (s : State) (hi : Word) : State :=
  let s := setReg s (r_PLB_HOST_D + 4) hi
  plbOffer s 2 (signed 64 (counter64 s r_PLB_HOST_TMS)) (signed 64 (counter64 s r_PLB_HOST_D))

/-- PLB_HOST_D_HI_WRITE (R400, R415). -/
def execPlbHostDHiWrite (value : Word) (s : State) : Host.Outcome State Fault Refusal := done (hostSample s value)

/-- Entry to ACQUIRE (R401). -/
def enterAcquire (s : State) : State :=
  let s := { s with regs := mapErase s.regs r_TIME_ADJ }
  plbTo (plbMod s (fun p => { p with df := none, bias := 0, armed := true, run := 0, sumD := 0, kept := [], lockRun := 0 })) .acquire

/-- Plumb follows MODE of PLB_CTRL (R400, R401): a save of the trim that waits is refused when SERVO ends. -/
def plbApplyMode (s : State) : State :=
  let servoOn := bitAt (hwUse s 0x082) 0
  if servoOn ∧ s.plb.state = .manual then enterAcquire s
  else if ¬ servoOn ∧ s.plb.state ≠ .manual then
    let s := match s.plb.trimSave with
      | some (ch, seq) => answer s ch seq rcNotPermitted []
      | none => s
    plbTo (plbMod s (fun p => { p with trimSave := none, queue := [] })) .manual
  else s

/-- A PLB_CONFIG request breaks R412. -/
def plbConfigBad (req : Bytes) : Bool :=
  let lim := fun (o : Nat) => let x := signed 64 (le req o 8); decide (x < 1 ∨ 2 ^ 47 - 1 < x)
  decide (1 < byteAt req 0) || decide (2 < byteAt req 1) || decide (8 < byteAt req 2) ||
  decide (signed 64 (le req 4 8) < 0) || decide (signed 64 (le req 12 8) < 0) || lim 20 || lim 28 ||
  decide (le req 36 4 = 0) || decide (le req 40 2 = 0) || decide (le req 42 2 = 0) || decide (le req 44 2 = 0)

/-- PLB_CONFIG (R400, R412). -/
def execPlbConfig (ch seq : Nat) (s : State) : Host.Outcome State Fault Refusal :=
  command s ch seq 0x0710 (fun req =>
    if plbConfigBad req then answer s ch seq rcBadParam []
    else
      let w0 := byteAt req 0 + 2 * byteAt req 1 + 8 * byteAt req 2 + 128 * bits (byteAt req 3) 0 0
      let words := (List.range 8).map (fun i => BitVec.ofNat 32 (le req (4 + 4 * i) 4))
      let rest := [le req 36 4, le req 40 2, le req 42 2, le req 44 2, le req 48 4].map (BitVec.ofNat 32)
      answer (plbApplyMode (hwJournal s 0x082 (BitVec.ofNat 32 w0 :: words ++ rest))) ch seq rcOk [])

/-- PLB_REACQUIRE (R401). -/
def execPlbReacquire (ch seq : Nat) (s : State) : Host.Outcome State Fault Refusal :=
  command s ch seq 0x0711 (fun _ =>
    if s.plb.state = .manual then answer s ch seq rcNotPermitted [] else answer (enterAcquire s) ch seq rcOk [])

/-- PLB_STATUS (R412). -/
def execPlbStatus (ch seq : Nat) (s : State) : Host.Outcome State Fault Refusal :=
  command s ch seq 0x0712 (fun _ =>
    answer s ch seq rcOk (toLe 1 (plbCode s.plb.state) ++ toLe 1 s.plb.run ++ zeros 2 ++ toLe 8 s.time.adj.toNat ++
      toLe 8 (unsigned 64 s.plb.integ) ++ toLe 8 (unsigned 64 s.plb.thetaLast) ++ toLe 8 (unsigned 64 (s.plb.df.getD 0)) ++
      toLe 8 (unsigned 64 s.plb.bias) ++ toLe 4 (counter s r_PLB_CNT_ACCEPTED).toNat ++ toLe 4 (counter s r_PLB_CNT_JUMP).toNat))

/-- PLB_TRIM_SAVE (R404): answered at the next sample boundary; BUSY while one waits. -/
def execPlbTrimSave (ch seq : Nat) (s : State) : Host.Outcome State Fault Refusal :=
  command s ch seq 0x0713 (fun _ =>
    if s.plb.state = .manual then answer s ch seq rcNotPermitted []
    else if s.plb.trimSave.isSome then answer s ch seq rcBusy []
    else plbMod (defer s ch seq) (fun p => { p with trimSave := some (ch, seq) }))

end Sys2Proof.Machine
end

