-- ==== Sys2Proof/Machine/Ptp.lean ====
section
/-! DEFINITION. The PTP engine (R394 to R399) and its commands (R412). Message formats, the data set comparison and the state decision are
those of IEEE 1588-2019 and IEEE 802.1AS-2020, which R17 names (notes/assumptions/53.md). Times are in units of 1/256 ns. -/

namespace Sys2Proof.Machine

open Sys2Proof

/-! Settings (R412, R615, R417). -/

def ptpProfile (s : State) : Nat := hwField s 0x0D8 3 2
def ptpTransport (s : State) : Nat := hwField s 0x0D8 5 4
def ptpTwoStep (s : State) : Bool := hwField s 0x0D8 6 6 = 1 || ptpProfile s = 2
def ptpDomain (s : State) : Nat := hwField s 0x0D8 15 8
def ptpEnabled (s : State) (m : Nat) : Bool := hwField s (0x100 + 4 * m) 3 3 = 1
def logSync (s : State) (m : Nat) : Nat := hwField s (0x100 + 4 * m) 15 8
def logDreq (s : State) (m : Nat) : Nat := hwField s (0x100 + 4 * m) 23 16
def logAnnounce (s : State) (m : Nat) : Nat := hwField s (0x100 + 4 * m) 31 24

/-- 2^log seconds in ticks of the timebase clock; `log` is signed in 8 bits. -/
def intervalTicks (log : Nat) : Nat :=
  let x := signed 8 log
  if x < 0 then 1000000000 / 2 ^ x.natAbs else 1000000000 * 2 ^ x.natAbs

def wordsBytes (s : State) (w n : Nat) : Bytes := (List.range n).flatMap (fun i => toLe 4 (hwWord s (w + i)).toNat)

def clockId (s : State) : Bytes := wordsBytes s 0x0D9 2

/-- Port identity of a MAC: the clock identity and the port number, the MAC number plus 1. -/
def portId (s : State) (m : Nat) : Bytes := clockId s ++ toBe 2 (m + 1)

def ptpGet (s : State) (m : Nat) : PtpPort := mapGetD s.ptp.ports m {}

def ptpSet (s : State) (m : Nat) (x : PtpPort) : State := { s with ptp := { s.ptp with ports := mapSet s.ptp.ports m x } }

def ptpMod (s : State) (m : Nat) (f : PtpPort → PtpPort) : State := ptpSet s m (f (ptpGet s m))

/-! Messages of IEEE 1588-2019. -/

def msgType (b : Bytes) : Nat := byteAt b 0 % 16
def msgSeq (b : Bytes) : Nat := be b 30 2
def msgSource (b : Bytes) : Bytes := slice b 20 10
def msgTwoStep (b : Bytes) : Bool := bitAt (byteAt b 6) 1

/-- Least messageLength of a type; 0 for types the engine does not take. -/
def msgMin (t : Nat) : Nat :=
  if t = 0 ∨ t = 1 ∨ t = 8 then 44 else if t = 2 ∨ t = 3 ∨ t = 9 ∨ t = 10 then 54 else if t = 11 then 64 else 0

/-- correctionField in 1/256 ns, rounded half-even (R397). -/
def msgCorrection (b : Bytes) : Int := roundHalfEven (signed 64 (be b 8 8)) 256

/-- A timestamp of 6 bytes of seconds and 4 of nanoseconds at `o`. -/
def msgTime (b : Bytes) (o : Nat) : Int := ((be b o 6 * 1000000000 + be b (o + 6) 4) * 256 : Nat)

def putTime (t : Nat) : Bytes := toBe 6 (t / 256 / 1000000000 % 2 ^ 48) ++ toBe 4 (t / 256 % 1000000000)

/-- The time nearest to now whose compact stamp is `x`. -/
def expandStamp (s : State) (x : Dword) : Int := (fineNow s : Int) - (BitVec.ofNat 64 (fineNow s) - x).toInt

/-- controlField of a type. -/
def msgControl (t : Nat) : Nat := if t = 0 then 0 else if t = 1 then 1 else if t = 8 then 2 else if t = 9 then 3 else 5

/-- A message: the 34-byte header of a port, then `body`. `corr` is in units of 2^-16 ns. -/
def ptpMsg (s : State) (m t flags : Nat) (corr : Int) (seq log : Nat) (body : Bytes) : Bytes :=
  toBe 1 ((if ptpProfile s = 2 then 16 else 0) + t) ++ toBe 1 0x12 ++ toBe 2 (34 + body.length) ++ toBe 1 (ptpDomain s) ++ zeros 1 ++
    toBe 2 flags ++ toBe 8 (unsigned 64 corr) ++ zeros 4 ++ portId s m ++ toBe 2 seq ++ toBe 1 (msgControl t) ++ toBe 1 log ++ body

/-- Peer-delay messages have a destination of their own. -/
def peerMsg (t : Nat) : Bool := t = 2 || t = 3 || t = 10

/-- Destination MAC address of a message. -/
def ptpDest (s : State) (t : Nat) : Bytes :=
  let tr := ptpTransport s
  if tr = 1 then toBe 6 (if peerMsg t then 0x01005E00006B else 0x01005E000181)
  else if tr = 2 then toBe 6 (if peerMsg t then 0x33330000006B else 0x333300000181)
  else if peerMsg t || ptpProfile s = 2 then toBe 6 0x0180C200000E else toBe 6 0x011B19000000

/-- A message in a frame of the instance's transport (R394), with checksums. -/
def ptpFrame (s : State) (m t : Nat) (b : Bytes) : Bytes :=
  let vlan := (hwWord s (0x101 + 4 * m)).toNat
  let l2 := ptpDest s t ++ macAddr s m ++ (if bitAt vlan 15 then toBe 2 0x8100 ++ toBe 2 (vlan % 4096) else [])
  let port := if t ≤ 3 then 319 else 320
  let udp := toBe 2 port ++ toBe 2 port ++ toBe 2 (8 + b.length) ++ zeros 2 ++ b
  let src := wordsBytes s 0x0DD 4
  let l3 := l2.length + 2
  if ptpTransport s = 1 then
    let ip := toBe 2 0x4500 ++ toBe 2 (20 + udp.length) ++ zeros 4 ++ toBe 2 0x0111 ++ zeros 2 ++ src.take 4 ++
      toBe 4 (if peerMsg t then 0xE000006B else 0xE0000181)
    putL4Csum (putIpCsum (l2 ++ toBe 2 0x0800 ++ ip ++ udp) l3) l3 (l3 + 20) true
  else if ptpTransport s = 2 then
    let dst := if peerMsg t then toBe 2 0xFF02 ++ zeros 13 ++ toBe 1 0x6B else toBe 2 0xFF0E ++ zeros 12 ++ toBe 2 0x0181
    let ip := toBe 4 0x60000000 ++ toBe 2 udp.length ++ toBe 2 0x1101 ++ src ++ dst
    putL4Csum (l2 ++ toBe 2 0x86DD ++ ip ++ udp) l3 (l3 + 40) true
  else l2 ++ toBe 2 0x88F7 ++ b

/-- A message goes to its MAC's lists (R396), with a stamp request (R389). The class is not given (notes/assumptions/53.md). -/
def ptpSend (s : State) (m t stamp : Nat) (tReq : Dword) (b : Bytes) : State :=
  let f := ptpFrame s m t b
  let cls := Config.freeNat s.fresh % 8
  let (fid, s) := newId (drawn s)
  macTake s m { bytes := f, cls := cls, leaf := 0xFFFF, lossless := false, slice := 0xFFF, fid := fid, ptp := some t,
                stamp := stamp, stampId := msgSeq b, ptpOff := (ptpOffset f).getD 0, tReq := tReq }

/-! States and the best master clock algorithm (R396). -/

def ptpCode : PtpPortState → Nat
  | .disabled => 0
  | .listening => 1
  | .master => 2
  | .slave => 3
  | .passive => 4

/-- A port takes a state and a parent; firmware reports a change (R396, R413). What was measured against another parent is dropped. -/
def ptpTo (s : State) (m : Nat) (st : PtpPortState) (parent : Bytes) : State :=
  let x := ptpGet s m
  if x.state = st ∧ x.parent = parent then s
  else
    let s := ptpSet s m { x with state := st, parent := parent, sync := none, req := none, tSm := none }
    eventToManager s 0x8720 (toLe 1 m ++ toLe 1 (ptpCode st) ++ zeros 2 ++ parent)

/-- Rank of a data set, the lower the better: priority1, class, accuracy, variance, priority2, identity, steps, sender. -/
def dataRank (quality : Bytes) (steps : Nat) (sender : Bytes) : Nat := beVal (quality ++ toBe 2 steps ++ sender)

/-- The instance's own data set. -/
def ownQuality (s : State) : Bytes :=
  let p := (hwWord s 0x0DB).toNat
  toBe 1 (bits p 7 0) ++ toBe 1 (bits p 23 16) ++ toBe 1 (bits p 31 24) ++ toBe 2 (hwWord s 0x0DC).toNat ++ toBe 1 (bits p 15 8) ++
    clockId s

def ownRank (s : State) : Nat := dataRank (ownQuality s) 0 (clockId s ++ zeros 2)

def foreignRank (f : PtpForeign) : Nat := dataRank (slice f.msg 47 14) (be f.msg 61 2) f.source

/-- A clock heard often enough to be used: twice within four intervals under IEEE 1588, once under IEEE 802.1AS. -/
def qualified (s : State) (f : PtpForeign) : Bool := ptpProfile s = 2 || decide (2 ≤ f.count)

def bestOf (s : State) (l : List PtpForeign) : Option PtpForeign :=
  l.foldl (fun a f => if !qualified s f then a else match a with
    | some g => if foreignRank f < foreignRank g then some f else a
    | none => some f) none

/-- The best clock heard and its port. -/
def bestPort (s : State) : Option (Nat × PtpForeign) :=
  (List.range 16).foldl (fun a m =>
    if (ptpGet s m).state = .disabled then a
    else match bestOf s (ptpGet s m).foreign, a with
      | some f, some (_, g) => if foreignRank f < foreignRank g then some (m, f) else a
      | some f, none => some (m, f)
      | none, _ => a) none

/-- State decision of a port (IEEE 1588-2019). -/
def ptpDecide (s : State) (m : Nat) (timedOut : Bool) : PtpPortState × Bytes :=
  let x := ptpGet s m
  let er := bestOf s x.foreign
  let own := ownRank s
  let cls := bits (hwWord s 0x0DB).toNat 23 16
  let mst := if cls = 255 then PtpPortState.listening else .master
  if x.state = .disabled then (.disabled, zeros 10)
  else if er.isNone ∧ x.state = .listening ∧ ¬ timedOut then (.listening, zeros 10)
  else if 1 ≤ cls ∧ cls ≤ 127 then
    match er with
    | some f => if foreignRank f < own then (.passive, zeros 10) else (.master, zeros 10)
    | none => (.master, zeros 10)
  else match bestPort s with
    | none => (mst, zeros 10)
    | some (p, f) =>
      if own < foreignRank f then (mst, zeros 10)
      else if p = m then (.slave, f.source)
      else match er with
        | some g => if slice g.msg 53 8 = slice f.msg 53 8 then (.passive, zeros 10) else (mst, zeros 10)
        | none => (mst, zeros 10)

/-- Firmware runs the algorithm over every port. -/
def bmca (s : State) (timedOut : Option Nat) : State :=
  let ds := (List.range 16).map (fun m => (m, ptpDecide s m (timedOut = some m)))
  ds.foldl (fun s d => ptpTo s d.1 d.2.1 d.2.2) s

/-- IEEE 802.1AS asCapable: the link delay is known and within its threshold. -/
def asCapable (s : State) (m : Nat) : Bool :=
  ptpProfile s ≠ 2 || (match (ptpGet s m).linkDelay with
    | some d => decide (d ≤ ((hwWord s (0x102 + 4 * m)).toNat * 256 : Nat))
    | none => false)

/-- The engine runs a port (R395). -/
def ptpOn (s : State) (m : Nat) : Bool :=
  ptpMode s = 2 && running s && ptpEnabled s m && decide ((ptpGet s m).state ≠ .disabled)

/-! Transmission (R396, R397). -/

/-- PTP_SYNC_SEND (R396, R398): Sync of a MASTER port; its Follow_Up is sent when the stamp of a two-step Sync is known. -/
def execPtpSyncSend (m : Nat) (s : State) : Host.Outcome State Fault Refusal :=
  let x := ptpGet s m
  if ptpOn s m ∧ m < 16 ∧ x.state = .master ∧ asCapable s m then
    if !actorGate s then done (bump s r_ITW_CNT_GATED)
    else
      let two := ptpTwoStep s
      let b := ptpMsg s m 0 (if two then 0x0200 else 0) 0 x.txSeqSync.toNat (logSync s m) (zeros 10)
      done (ptpSend (ptpSet s m { x with txSeqSync := x.txSeqSync + 1 }) m 0 (if two then 1 else 2) 0 b)
  else done s

/-- The Follow_Up information TLV of IEEE 802.1AS-2020. -/
def followTlv (s : State) (m : Nat) : Bytes :=
  let up := (List.range 16).find? (fun p => (ptpGet s p).state = .slave && p ≠ m)
  let r : Int := match up with
    | some p => (ptpGet s p).cumRatio + (ptpGet s p).ratio
    | none => 0
  toBe 2 3 ++ toBe 2 28 ++ toBe 3 0x0080C2 ++ toBe 3 1 ++ toBe 4 (unsigned 32 r) ++ zeros 18

/-- A message of the engine has left (R396, R397): `stamp` is its transmit stamp. -/
def ptpSent (s : State) (m : Nat) (f : TxFrame) (stamp : Dword) : State :=
  let b := f.bytes.drop f.ptpOff
  let t := (expandStamp s stamp).toNat
  let x := ptpGet s m
  match f.ptp with
  | some 0 =>
    if msgTwoStep b then
      let tlv := if ptpProfile s = 2 then followTlv s m else []
      ptpSend s m 8 0 0 (ptpMsg s m 8 0 ((t % 256 : Nat) * 256) (msgSeq b) (logSync s m) (putTime t ++ tlv))
    else s
  | some 1 => if x.req = some (msgSeq b, none) then ptpSet s m { x with req := some (msgSeq b, some stamp) } else s
  | some 2 => if x.preq = some (msgSeq b, none) then ptpSet s m { x with preq := some (msgSeq b, some stamp) } else s
  | some 3 =>
    if msgTwoStep b then
      ptpSend s m 10 0 0 (ptpMsg s m 10 0 ((t % 256 : Nat) * 256) (msgSeq b) 0x7F (putTime t ++ slice b 44 10))
    else s
  | _ => s

/-- PTP_DELAY_REQ_SEND (R397): Delay_Req of the SLAVE port, or Pdelay_Req of a port under peer-to-peer. -/
def execPtpDelayReqSend (m : Nat) (s : State) : Host.Outcome State Fault Refusal :=
  let x := ptpGet s m
  if ptpOn s m ∧ m < 16 then
    let seq := x.txSeqReq.toNat
    let x := { x with txSeqReq := x.txSeqReq + 1 }
    if ptpProfile s = 0 then
      if x.state = .slave then
        done (ptpSend (ptpSet s m { x with req := some (seq, none) }) m 1 1 0 (ptpMsg s m 1 0 0 seq 0x7F (zeros 10)))
      else done s
    else
      done (ptpSend (ptpSet s m { x with preq := some (seq, none), presp := none }) m 2 1 0 (ptpMsg s m 2 0 0 seq (logDreq s m) (zeros 20)))
  else done s

/-- Body of an Announce from firmware's template: the parent's data set one step on, or the instance's own (R396). -/
def announceBody (s : State) : Nat × Bytes :=
  let up := (List.range 16).findSome? (fun p =>
    let x := ptpGet s p
    if x.state = .slave then x.foreign.find? (fun f => f.source = x.parent) else none)
  match up with
  | some f => (be f.msg 6 2, zeros 10 ++ slice f.msg 44 17 ++ toBe 2 (be f.msg 61 2 + 1) ++ slice f.msg 63 1)
  | none => (0, zeros 13 ++ ownQuality s ++ zeros 2 ++ toBe 1 0xA0)

/-- PTP_ANNOUNCE_SEND (R396, R398). -/
def execPtpAnnounceSend (m : Nat) (s : State) : Host.Outcome State Fault Refusal :=
  let x := ptpGet s m
  if ptpOn s m ∧ m < 16 ∧ x.state = .master ∧ asCapable s m then
    if !actorGate s then done (bump s r_ITW_CNT_GATED)
    else
      let (flags, body) := announceBody s
      done (ptpSend (ptpSet s m { x with txSeqAnn := x.txSeqAnn + 1 }) m 11 0 0
        (ptpMsg s m 11 flags 0 x.txSeqAnn.toNat (logAnnounce s m) body))
  else done s

/-- PTP_ANNOUNCE_TIMEOUT (R396): the clocks heard on the port are forgotten and the algorithm runs again. -/
def execPtpAnnounceTimeout (m : Nat) (s : State) : Host.Outcome State Fault Refusal :=
  if ptpOn s m && s.mbx.serving then done (bmca (ptpMod s m (fun x => { x with foreign := [] })) (some m)) else done s

/-! Reception (R395, R397, R399). -/

/-- The engine takes a frame received on a MAC (R395): the instance's transport and domain, a type it handles, on an enabled port. -/
def ptpTakes (s : State) (m : Nat) (f : Bytes) : Bool :=
  ptpMode s = 2 && running s && ptpEnabled s m && (match ptpOffset f with
    | none => false
    | some o =>
      let et := be f (etherTypeOff f) 2
      let tr := if et = 0x88F7 then 0 else if et = 0x0800 then 1 else 2
      tr = ptpTransport s && decide (etherTypeOff f ≤ 16) && byteAt f (o + 4) = ptpDomain s && decide (msgMin (msgType (f.drop o)) ≠ 0))

/-- One sample of the SLAVE port (R397). -/
def ptpSample (s : State) (m : Nat) (t2 : Dword) (t1 corr : Int) : State :=
  let x := ptpGet s m
  let tms := expandStamp s t2 - t1 - corr
  if ptpProfile s = 0 then
    match x.tSm with
    | some tsm =>
      if s.time.ticks ≤ x.tSmTick + 4 * intervalTicks (logDreq s m) then plbOffer s 0 tms (roundHalfEven (tms + tsm) 2) else s
    | none => s
  else match x.linkDelay with
    | some d =>
      let tms := if ptpProfile s = 2 then tms - roundHalfEven (d * (x.cumRatio + x.ratio)) (2 ^ 41) else tms
      plbOffer s 0 tms d
    | none => s

/-- Sync (R397, R399). -/
def rxSync (s : State) (m : Nat) (b : Bytes) (stamp : Dword) : State :=
  let x := ptpGet s m
  if x.state ≠ .slave then s
  else if msgSource b ≠ x.parent then bump s (r_TIME_PTP_CNT_FOREIGN m)
  else
    let s := if x.sync.isSome then bump s (r_TIME_PTP_CNT_FU_MISS m) else s
    if msgTwoStep b then
      ptpMod s m (fun x => { x with sync := some { seq := msgSeq b, t2 := stamp, corr := msgCorrection b, tick := s.time.ticks } })
    else ptpSample (ptpMod s m (fun x => { x with sync := none })) m stamp (msgTime b 34) (msgCorrection b)

/-- Follow_Up (R397, R399). -/
def rxFollowUp (s : State) (m : Nat) (b : Bytes) : State :=
  let x := ptpGet s m
  if x.state ≠ .slave then s
  else if msgSource b ≠ x.parent then bump s (r_TIME_PTP_CNT_FOREIGN m)
  else match x.sync with
    | some y =>
      if y.seq = msgSeq b ∧ s.time.ticks ≤ y.tick + 1000000000 then
        let cum := if ptpProfile s = 2 then signed 32 (be b 54 4) else 0
        ptpSample (ptpSet s m { x with sync := none, cumRatio := cum }) m y.t2 (msgTime b 34) (y.corr + msgCorrection b)
      else bump s (r_TIME_PTP_CNT_FU_MISS m)
    | none => bump s (r_TIME_PTP_CNT_FU_MISS m)

/-- Delay_Req at a MASTER port (R396): Delay_Resp. -/
def rxDelayReq (s : State) (m : Nat) (b : Bytes) (stamp : Dword) : State :=
  if (ptpGet s m).state = .master ∧ ptpProfile s = 0 then
    let t := (expandStamp s stamp).toNat
    ptpSend s m 9 0 0 (ptpMsg s m 9 0 (signed 64 (be b 8 8) - (t % 256 : Nat) * 256) (msgSeq b) (logDreq s m) (putTime t ++ msgSource b))
  else s

/-- Delay_Resp (R397, R399). -/
def rxDelayResp (s : State) (m : Nat) (b : Bytes) : State :=
  let x := ptpGet s m
  let bad := bump s (r_TIME_PTP_CNT_RESP_BAD m)
  match x.req with
  | some (seq, some t3) =>
    if seq = msgSeq b ∧ slice b 44 10 = portId s m ∧ msgSource b = x.parent then
      ptpSet s m { x with req := none, tSm := some (msgTime b 34 - expandStamp s t3 - msgCorrection b), tSmTick := s.time.ticks }
    else bad
  | _ => bad

/-- Pdelay_Req under peer-to-peer (R396): Pdelay_Resp, its follow-up once its stamp is known. -/
def rxPdelayReq (s : State) (m : Nat) (b : Bytes) (stamp : Dword) : State :=
  if ptpProfile s = 0 then s
  else
    let t := (expandStamp s stamp).toNat
    if ptpTwoStep s then
      ptpSend s m 3 1 stamp (ptpMsg s m 3 0x0200 (-((t % 256 : Nat) * 256 : Int)) (msgSeq b) 0x7F (putTime t ++ msgSource b))
    else ptpSend s m 3 2 stamp (ptpMsg s m 3 0 (signed 64 (be b 8 8)) (msgSeq b) 0x7F (zeros 10 ++ msgSource b))

/-- A peer delay is known (R397): from t1, t2, t3, t4 and the corrections; t3 is 0 with t2 for a one-step answer. -/
def pdelayDone (s : State) (m : Nat) (t1 t4 t2 t3 corr : Int) (t4s : Dword) : State :=
  let x := ptpGet s m
  let ratio := if ptpProfile s ≠ 2 then 0 else match x.lastPd with
    | some (o3, o4) =>
      let d4 := t4 - expandStamp s o4
      if 0 < d4 then roundHalfEven ((t3 - o3 - d4) * 2 ^ 41) d4.toNat else x.ratio
    | none => x.ratio
  let rt := t4 - t1 + roundHalfEven ((t4 - t1) * ratio) (2 ^ 41)
  ptpSet s m { x with preq := none, presp := none, ratio := ratio, lastPd := some (t3, t4s),
                      linkDelay := some (roundHalfEven (rt - (t3 - t2) - corr) 2) }

/-- Pdelay_Resp (R397, R399). -/
def rxPdelayResp (s : State) (m : Nat) (b : Bytes) (stamp : Dword) : State :=
  let x := ptpGet s m
  let bad := bump s (r_TIME_PTP_CNT_RESP_BAD m)
  match x.preq with
  | some (seq, some t1) =>
    if seq = msgSeq b ∧ slice b 44 10 = portId s m then
      if msgTwoStep b then
        ptpSet s m { x with presp := some { seq := seq, t2 := msgTime b 34, t4 := stamp, corr := msgCorrection b } }
      else pdelayDone s m (expandStamp s t1) (expandStamp s stamp) 0 0 (msgCorrection b) stamp
    else bad
  | _ => bad

/-- Pdelay_Resp_Follow_Up (R397, R399). -/
def rxPdelayFollowUp (s : State) (m : Nat) (b : Bytes) : State :=
  let x := ptpGet s m
  let bad := bump s (r_TIME_PTP_CNT_RESP_BAD m)
  match x.presp, x.preq with
  | some y, some (_, some t1) =>
    if y.seq = msgSeq b ∧ slice b 44 10 = portId s m then
      pdelayDone s m (expandStamp s t1) (expandStamp s y.t4) y.t2 (msgTime b 34) (y.corr + msgCorrection b) y.t4
    else bad
  | _, _ => bad

/-- Announce (R396, R399): firmware keeps the clock's message and runs the algorithm. -/
def rxAnnounce (s : State) (m : Nat) (b : Bytes) : State :=
  if 255 ≤ be b 61 2 then bump s (r_TIME_PTP_CNT_RX_BAD m)
  else if slice b 20 8 = clockId s ∨ slice b 53 8 = clockId s then s
  else
    let x := ptpGet s m
    let src := msgSource b
    let n := match x.foreign.find? (fun f => f.source = src) with
      | some f => if s.time.ticks ≤ f.tick + 4 * intervalTicks (byteAt b 33) then f.count + 1 else 1
      | none => 1
    let e : PtpForeign := { source := src, count := n, tick := s.time.ticks, msg := b }
    bmca (ptpSet s m { x with foreign := x.foreign.filter (fun f => f.source ≠ src) ++ [e] }) none

/-- Handles a valid message. -/
def rxPtp (s : State) (m : Nat) (b : Bytes) (stamp : Dword) : State :=
  let t := msgType b
  if t = 0 then (if asCapable s m then rxSync s m b stamp else s)
  else if t = 1 then rxDelayReq s m b stamp
  else if t = 2 then rxPdelayReq s m b stamp
  else if t = 3 then rxPdelayResp s m b stamp
  else if t = 8 then (if asCapable s m then rxFollowUp s m b else s)
  else if t = 9 then rxDelayResp s m b
  else if t = 10 then rxPdelayFollowUp s m b
  else if asCapable s m then rxAnnounce s m b else s

/-- The message limits of R399: version, length and correction. -/
def ptpBad (b : Bytes) : Bool :=
  let c := signed 64 (be b 8 8)
  byteAt b 1 % 16 ≠ 2 || decide (be b 2 2 < msgMin (msgType b)) || decide (b.length < be b 2 2) || decide (65536000000000 ≤ absInt c)

/-- PTP_MSG_RX (R395, R399): the oldest message the timebase island has taken. -/
def execPtpMsgRx (s : State) : Host.Outcome State Fault Refusal :=
  match s.ptp.inbox with
  | [] => done s
  | (m, f, stamp) :: rest =>
    let s := { s with ptp := { s.ptp with inbox := rest } }
    let b := f.drop ((ptpOffset f).getD 0)
    let x := ptpGet s m
    let sec := s.time.ticks / 1000000000
    let n := if x.eventSec = sec then x.events else 0
    if ptpBad b then done (bump s (r_TIME_PTP_CNT_RX_BAD m))
    else if msgType b ≤ 3 then
      if 1024 ≤ n then done (bump s (r_TIME_PTP_CNT_RATE_DROP m))
      else done (rxPtp (ptpSet s m { x with events := n + 1, eventSec := sec }) m b stamp)
    else done (rxPtp s m b stamp)

/-! Commands (R412). -/

/-- Every enabled port restarts in LISTENING. -/
def ptpRestart (s : State) : State :=
  (List.range 16).foldl (fun s m =>
    if ptpEnabled s m then
      let s := ptpTo s m .listening (zeros 10)
      ptpSet s m { state := .listening }
    else s) s

/-- PTP_INSTANCE_SET (R395, R412). -/
def execPtpInstanceSet (ch seq : Nat) (s : State) : Host.Outcome State Fault Refusal :=
  command s ch seq 0x0720 (fun req =>
    let mode := byteAt req 0
    let prof := byteAt req 1
    let tr := byteAt req 2
    if 2 < mode ∨ 2 < prof ∨ 2 < tr ∨ (prof = 2 ∧ (tr ≠ 0 ∨ byteAt req 3 ≠ 0)) then answer s ch seq rcBadParam []
    else
      let w := mode + 4 * prof + 16 * tr + 64 * bits (le req 4 4) 0 0 + 256 * byteAt req 3
      let prio := byteAt req 16 + 256 * byteAt req 17 + 65536 * byteAt req 18 + 16777216 * byteAt req 19
      let s := hwJournal s 0x0D8 ([w, le req 8 4, le req 12 4, prio, le req 20 2, le req 24 4, le req 28 4, le req 32 4, le req 36 4].map
        (BitVec.ofNat 32))
      answer (ptpRestart s) ch seq rcOk [])

/-- PTP_PORT_SET (R394, R412). -/
def execPtpPortSet (ch seq : Nat) (s : State) : Host.Outcome State Fault Refusal :=
  command s ch seq 0x0721 (fun req =>
    let m := byteAt req 0
    let ok := fun (o : Nat) (lo : Int) => let x := signed 8 (byteAt req o); decide (lo ≤ x ∧ x ≤ 4)
    if 15 < m ∨ 1 < byteAt req 1 ∨ !ok 2 (-7) ∨ !ok 3 (-7) ∨ !ok 4 (-3) ∨ byteAt req 5 < 2 ∨ 10 < byteAt req 5 then
      answer s ch seq rcBadParam []
    else
      let en := byteAt req 1
      let s := hwJournal s (0x100 + 4 * m)
        ([8 * en + 256 * byteAt req 2 + 65536 * byteAt req 3 + 16777216 * byteAt req 4, le req 6 2 + 65536 * byteAt req 5,
          le req 8 4].map (BitVec.ofNat 32))
      let s := if en = 0 then ptpTo s m .disabled (zeros 10)
        else if (ptpGet s m).state = .disabled then ptpTo s m .listening (zeros 10) else s
      answer s ch seq rcOk [])

/-- PTP_PORT_STATUS (R412). -/
def execPtpPortStatus (ch seq : Nat) (s : State) : Host.Outcome State Fault Refusal :=
  command s ch seq 0x0722 (fun req =>
    let m := byteAt req 0
    if 15 < m then answer s ch seq rcBadParam []
    else
      let x := ptpGet s m
      answer s ch seq rcOk (toLe 1 (ptpCode x.state) ++ zeros 1 ++ fit x.parent 10 ++ toLe 8 (unsigned 64 (x.linkDelay.getD 0)) ++
        toLe 4 (unsigned 32 (roundHalfEven (x.ratio * 1000000000) (2 ^ 41)))))

end Sys2Proof.Machine
end

