-- ==== Sys2Proof/Machine/Ports.lean ====
section
/-! DEFINITION. The Ethernet MACs: reception (R343 to R345, R353 to R358), PRP duplicate discard (R280 to R282), selection and
transmission (R347 to R352, R363, R371, R390), gates and links. -/

namespace Sys2Proof.Machine

open Sys2Proof

/-! Flow control (R353 to R358). -/

def fcMode (s : State) (m : Nat) : Nat := regField s (r_MAC_RX_CTRL m) 1 1
def fcTxEn (s : State) (m : Nat) : Bool := bitAt (reg s (r_MAC_RX_CTRL m)).toNat 3 && s.dev.base ≠ .restricted

/-- Class of a priority (R344). -/
def prioClass (s : State) (m p : Nat) : Nat := bits (reg s (r_MAC_PCP_TO_TC m)).toNat (3 * p + 2) (3 * p)

/-- Priorities that map to a class, as a vector (R356). -/
def classPrios (s : State) (m c : Nat) : Nat :=
  (List.range 8).foldl (fun v p => if prioClass s m p = c then v + 2 ^ p else v) 0

/-- A flow-control frame falls due (R356): PFC or PAUSE, vector and time. -/
def fcAsk (s : State) (m : Nat) (pfc : Bool) (vec time : Nat) : State :=
  macMod s m (fun x => { x with fcDue := x.fcDue ++ [(pfc, vec, time)] })

/-- A lossless class enters XOFF when its occupancy exceeds XOFF (R356). -/
def xoffCheck (s : State) (m c : Nat) : State :=
  let x := macGet s m
  if fcTxEn s m ∧ ¬ c ∈ x.xoff ∧ regField s (r_MAC_PFC_XOFF m c) 23 0 < mapGetD x.occ c 0 then
    let s := macSet s m { x with xoff := x.xoff ++ [c] }
    let q := regField s (r_MAC_PFC_QUANTA m) 15 0
    if fcMode s m = 1 then fcAsk s m true (classPrios s m c) q else fcAsk s m false 0 q
  else s

/-- XOFF_LEAVE (R356). -/
def execXoffLeave (m c : Nat) (s : State) : Host.Outcome State Fault Refusal :=
  let x := macGet s m
  if c ∈ x.xoff ∧ mapGetD x.occ c 0 ≤ regField s (r_MAC_PFC_XON m c) 23 0 then
    let s := macSet s m { x with xoff := x.xoff.filter (fun y => y ≠ c) }
    done (if !fcTxEn s m then s
      else if fcMode s m = 1 then fcAsk s m true (classPrios s m c) 0
      else if (macGet s m).xoff = [] then fcAsk s m false 0 0 else s)
  else done s

/-- PFC_REFRESH (R356). -/
def execPfcRefresh (m c : Nat) (s : State) : Host.Outcome State Fault Refusal :=
  if c ∈ (macGet s m).xoff ∧ fcTxEn s m then
    let q := regField s (r_MAC_PFC_QUANTA m) 15 0
    done (if fcMode s m = 1 then fcAsk s m true (classPrios s m c) q else fcAsk s m false 0 q)
  else done s

/-- Bytes of a flow-control frame without FCS (R353, R356). -/
def fcBytes (s : State) (m : Nat) (pfc : Bool) (vec time : Nat) : Bytes :=
  fit (toBe 6 0x0180C2000001 ++ macAddr s m ++ toBe 2 0x8808 ++
    (if pfc then toBe 2 0x0101 ++ toBe 2 vec ++ (List.range 8).flatMap (fun p => toBe 2 (if bitAt vec p then time else 0))
     else toBe 2 0x0001 ++ toBe 2 time)) 60

/-- A received pause time for a class (R354, R358): it replaces what was left; 0 releases the class and ends its storm. -/
def stopClass (s : State) (m c time : Nat) : State :=
  macMod s m (fun x =>
    if time = 0 then { x with stopped := mapErase x.stopped c, storm := x.storm.filter (fun y => y ≠ c) }
    else { x with stopped := mapSet x.stopped c time })

/-- PAUSE_EXPIRE (R354): the class is stopped no longer; a storm that is obeyed ends with it. -/
def execPauseExpire (m c : Nat) (s : State) : Host.Outcome State Fault Refusal :=
  let act := regField s (r_MAC_PFC_WATCHDOG m) 16 16
  if mapHas (macGet s m).stopped c then
    done (macMod s m (fun x => { x with stopped := mapErase x.stopped c,
                                        storm := if act = 1 then x.storm else x.storm.filter (fun y => y ≠ c) }))
  else done s

/-- PFC_STORM (R358). -/
def execPfcStorm (m c : Nat) (s : State) : Host.Outcome State Fault Refusal :=
  let x := macGet s m
  if mapHas x.stopped c ∧ ¬ c ∈ x.storm ∧ regField s (r_MAC_PFC_WATCHDOG m) 15 0 ≠ 0 then
    let s := setBits (macSet s m { x with storm := x.storm ++ [c] }) (r_MAC_RX_STATUS m) (BitVec.ofNat 32 (2 ^ 19))
    done (eventToManager s 0x8604 (toLe 1 m ++ toLe 1 c ++ toLe 1 (regField s (r_MAC_PFC_WATCHDOG m) 16 16) ++ zeros 1))
  else done s

/-- PFC_STORM_RELEASE (R358): under ACTION 1, 1 ms without a frame that names the class. -/
def execPfcStormRelease (m c : Nat) (s : State) : Host.Outcome State Fault Refusal :=
  if c ∈ (macGet s m).storm ∧ regField s (r_MAC_PFC_WATCHDOG m) 16 16 = 1 then
    done (macMod s m (fun x => { x with storm := x.storm.filter (fun y => y ≠ c) }))
  else done s

/-- A MAC control frame of 64 bytes or more with a good FCS (R353). -/
def macControl (s : State) (m : Nat) (f : Bytes) : State :=
  let op := be f 14 2
  let pfc := decide (op = 0x0101)
  let valid := (slice f 0 6 = toBe 6 0x0180C2000001 || slice f 0 6 = macAddr s m) && f.length = 60 && (op = 1 || op = 0x0101)
  if !valid || decide (b2n pfc ≠ fcMode s m) then bump64 s (r_MAC_RX_CTRL_BAD m) 1
  else
    let obey := bitAt (reg s (r_MAC_RX_CTRL m)).toNat 2 && s.dev.base ≠ .restricted
    if pfc then
      let vec := be f 16 2
      let named := (List.range 8).filter (fun p => bitAt vec p)
      let time := fun (p : Nat) => be f (18 + 2 * p) 2
      let s := bump64 s (r_MAC_RX_PFC m) 1
      let s := named.foldl (fun s p => if time p = 0 then s else bump64 s (r_MAC_RX_PFC_XOFFS m p) 1) s
      let s := trace s (17 + m) 4 0 0xFFF 0 (toLe 1 vec ++ zeros 1 ++ toLe 2 ((named.map time).foldl max 0))
      if obey then named.foldl (fun s p => stopClass s m (prioClass s m p) (time p)) s else s
    else
      let s := bump64 s (r_MAC_RX_PAUSE m) 1
      if obey then (List.range 8).foldl (fun s c => stopClass s m c (be f 16 2)) s else s

/-! PRP duplicate discard (R280 to R282, R284). -/

/-- The redundancy control trailer of a frame without FCS: SeqNr, LanId and whether LSDUsize fits. -/
def rctOf (f : Bytes) : Option (Nat × Nat × Bool) :=
  let n := f.length
  if n < 20 ∨ be f (n - 2) 2 ≠ 0x88FB then none
  else some (be f (n - 6) 2, be f (n - 4) 2 / 4096, decide (be f (n - 4) 2 % 4096 = n - (etherTypeOff f + 2)))

/-- The discard decision for SeqNr `q` at a known node (R281): the entry after it, and whether the frame is a duplicate or lies outside
the window. -/
def prpDecide (now forget : Nat) (e : PrpNode) (q : Nat) : PrpNode × Bool × Bool :=
  let w := if e.hiTime + forget ≤ now then 0#256 else e.window
  let d := (q + 65536 - e.hi) % 65536
  let back := (e.hi + 65536 - q) % 65536
  let e := { e with window := w, lastUse := now }
  if 1 ≤ d ∧ d ≤ 32767 then ({ e with hi := q, hiTime := now, window := (w <<< d) ||| 1#256 }, false, false)
  else if back ≤ 255 then
    if w.getLsbD back then (e, true, false) else ({ e with window := w ||| (1#256 <<< back) }, false, false)
  else (e, false, true)

/-- Receive side of PRP (R280, R281): the frame to accept, or none for a duplicate. -/
def prpReceive (s : State) (m : Nat) (f : Bytes) : State × Option Bytes :=
  match (if (ptpOffset f).isSome then none else prpPair s m), rctOf f with
  | some (i, a, _), some (q, lan, true) =>
    let s := if lan = (if m = a then 0xA else 0xB) then s else bump s (r_PRP_CNT_WRONG_LAN i)
    let src := slice f 6 6
    let now := s.time.ticks
    let kept := if bitAt (reg s (r_DVT_PRP_PAIR i)).toNat 9 then f.take (f.length - 6) else f
    match s.prp.nodes.find? (fun n => n.mac = src && n.pair = i) with
    | some e =>
      let (e, dup, out) := prpDecide now (regField s (r_DVT_PRP_FORGET i) 15 0 * 1000000) e q
      let s := { s with prp := { s.prp with nodes := s.prp.nodes.map (fun n => if n.mac = src ∧ n.pair = i then e else n) } }
      let s := if out then bump s r_PRP_CNT_OUT_OF_WINDOW else s
      if dup then (bump s (r_PRP_CNT_DUP i), none) else (s, some kept)
    | none =>
      if 16384 ≤ s.prp.nodes.length then (bump s r_PRP_CNT_TABLE_FULL, some kept)
      else
        let e : PrpNode := { mac := src, pair := i, hi := q, hiTime := now, window := 1, lastUse := now }
        ({ s with prp := { s.prp with nodes := s.prp.nodes ++ [e] } }, some kept)
  | some _, some (_, _, false) => (bump s r_PRP_CNT_NOT_PRP, some f)
  | _, _ => (s, some f)

/-- PRP_NODE_FORGET (R282): an entry unused for NODE_FORGET is deleted. -/
def execPrpNodeForget (mac : Bytes) (pair : Nat) (s : State) : Host.Outcome State Fault Refusal :=
  done { s with prp := { s.prp with nodes := s.prp.nodes.filter (fun n => !(n.mac = mac && n.pair = pair)) } }

/-! Reception (R343, R344, R357, R378). -/

/-- Size bin of a frame (R378). -/
def sizeBin (n : Nat) : Nat :=
  if n ≤ 64 then 0 else if n ≤ 127 then 1 else if n ≤ 255 then 2 else if n ≤ 511 then 3 else if n ≤ 1023 then 4
  else if n ≤ 1518 then 5 else 6

/-- Counters of a frame by its destination: unicast, multicast or broadcast. -/
def castCounter (f : Bytes) (u mc bc : Nat) : Nat :=
  if slice f 0 6 = toBe 6 0xFFFFFFFFFFFF then bc else if bitAt (byteAt f 0) 0 then mc else u

/-- Counters of an OK frame (R378); `n` counts the FCS. -/
def countRx (s : State) (m : Nat) (f : Bytes) (n : Nat) : State :=
  let s := bump64 (bump64 s (r_MAC_RX_OCTETS_OK m) n) (r_MAC_RX_FRAMES_OK m) 1
  let s := bump64 s (castCounter f (r_MAC_RX_UCAST m) (r_MAC_RX_MCAST m) (r_MAC_RX_BCAST m)) 1
  bump64 s (r_MAC_RX_SIZE m (sizeBin n)) 1

/-- Ingress class of a frame (R344): priority, VLAN ID and class. -/
def ingressClass (s : State) (m : Nat) (f : Bytes) : Nat × Nat × Nat :=
  let (prio, vid) := outerTag f (regField s (r_MAC_RX_CTRL m) 18 16)
  (prio, vid, prioClass s m prio)

/-- Class `c` of a MAC is lossless (R376); in RESTRICTED none is (R591). -/
def losslessClass (s : State) (m c : Nat) : Bool := bitAt (reg s (r_MAC_RX_CTRL m)).toNat (8 + c) && s.dev.base ≠ .restricted

/-- Units a class may hold (R357). -/
def losslessLimit (s : State) (m c : Nat) : Nat :=
  regField s (r_MAC_PFC_XOFF m c) 23 0 + regField s (r_MAC_PFC_HEADROOM m c) 23 0

/-- Admission to Basin and distribution (R20, R36, R357). -/
def admitFrame (s : State) (m : Nat) (f : Bytes) (stamp : Dword) : State :=
  let (prio, vid, c) := ingressClass s m f
  let ll := losslessClass s m c
  let (head, pages) := basinShape s f.length
  if ll ∧ losslessLimit s m c < mapGetD (macGet s m).occ c 0 + basinUnits head pages then bump64 s (r_MAC_RX_DROP_HEADROOM m) 1
  else match basinStore s f.length 0xFFF 1 (if ll then some (m, c) else none) with
    | none => bump64 s (r_MAC_RX_DROP_NOBUF m) 1
    | some (fid, s) =>
      let s := if ll then xoffCheck s m c else s
      let twin := twinSelected s m prio vid && s.dev.base ≠ .restricted
      distribute s twin { hdr := { source := m }, frame := f, stamp := stamp, inTc := c, lossless := ll, fid := fid }

/-- A frame that passed checks 1 to 4 and is not MAC control. -/
def acceptFrame (s : State) (m : Nat) (f : Bytes) (lane : Nat) : State :=
  let s := countRx s m f (f.length + 4)
  let s := traceFrame s m 1 0xFFF (f.length + 4) (ingressClass s m f).2.2
  let stamp := rxStamp s m lane
  if !bitAt (reg s (r_MAC_RX_CTRL m)).toNat 0 then s
  else if ptpTakes s m f then { s with ptp := { s.ptp with inbox := s.ptp.inbox ++ [(m, f, stamp)] } }
  else match prpReceive s m f with
    | (s, some f) => admitFrame s m f stamp
    | (s, none) => s

/-- FRAME_RX (R343): the checks in order. -/
def execFrameRx (m : Nat) (frame : Bytes) (pcsErr preemptErr : Bool) (lane frags : Nat) (s : State) :
    Host.Outcome State Fault Refusal :=
  if !((macGet s m).linkUp && macUsed s m && datapathOn s) then done s
  else
    let s := if frags = 0 then s else bump64 s (r_MAC_RX_PREEMPT_FRAGS m) frags
    let n := frame.length
    let f := frame.take (n - 4)
    let good := decide (frame.drop (n - 4) = ethFcs f)
    if preemptErr then done (bump64 s (r_MAC_RX_PREEMPT_ERR m) 1)
    else if pcsErr then done (bump64 s (r_MAC_RX_PCS_ERR m) 1)
    else if n < 64 then done (bump64 s (if good then r_MAC_RX_RUNT m else r_MAC_RX_FRAGMENT m) 1)
    else if maxFrame s m < n then done (bump64 s (if good then r_MAC_RX_OVERSIZE m else r_MAC_RX_JABBER m) 1)
    else if !good then done (bump64 s (r_MAC_RX_FCS_ERR m) 1)
    else if be f 12 2 = 0x8808 then done (macControl s m f)
    else done (acceptFrame s m f lane)

/-! Selection (R363, R371). -/

/-- What a MAC starts next. -/
inductive Pick where
  | resume (a : TxActive)
  | resend (f : TxFrame)
  | head (f : TxFrame) (d : Drr)
  deriving DecidableEq, Repr

/-- Received flow control stops the class (R354), but for a storm under ACTION 1 (R358). -/
def classStopped (s : State) (m c : Nat) : Bool :=
  let x := macGet s m
  mapHas x.stopped c && s.dev.base ≠ .restricted && !(x.storm.contains c && regField s (r_MAC_PFC_WATCHDOG m) 16 16 = 1)

/-- The gate lets a frame of `len` bytes of class `c` start. -/
def startable (s : State) (m c len : Nat) : Bool := gateAnswer s m c len = .admits

/-- A candidate of class `c` (R363): the preempted frame, then a resend, then the descent of Weir. While a frame is preempted no other
preemptable frame starts (R371). -/
def pickClass (s : State) (m c : Nat) : Option Pick :=
  let x := macGet s m
  if classStopped s m c then none
  else
    let barred := x.preempted.isSome && preemptable x c
    match x.preempted.filter (fun a => a.frame.cls = c && startable s m c (a.wire.length - a.sent)) with
    | some a => some (.resume a)
    | none =>
      if barred then none
      else match x.resends.find? (fun f => f.cls = c) with
        | some f => if startable s m c (wireLen s m f) then some (.resend f) else none
        | none =>
          let cs := (heads x.queue c).filterMap (fun f =>
            let len := wireLen s m f
            let path := weirPath s f.leaf
            if startable s m c len && eligible s path && commitFree s f then some ({ path := path.reverse, frame := f, len := len } : Cand) else none)
          (descend s c 5 65537 { deficit := x.deficit, turn := x.turn } cs).map (fun r => .head r.1.frame r.2)

/-- The frame that R363 selects. -/
def pickMac (s : State) (m : Nat) : Option (Nat × Pick) :=
  [7, 6, 5, 4, 3, 2, 1, 0].findSome? (fun c => (pickClass s m c).map (fun p => (c, p)))

/-- Starts held back by R367 are counted once for each frame. -/
def countDefers (s : State) (m : Nat) : State :=
  let late := (List.range 8).flatMap (fun c => if classStopped s m c then [] else
    (heads (macGet s m).queue c).filter (fun f => !f.deferred && eligible s (weirPath s f.leaf) &&
      gateAnswer s m c (wireLen s m f) = .late))
  late.foldl (fun s f =>
    bump64 (macMod s m (fun x => { x with queue := headMod x.queue f.cls f.leaf (fun f => some { f with deferred := true }) }))
      (r_MAC_TX_GATE_DEFER m) 1) s

/-- A frame starts (R350, R386, R392): it is finished with its transmit stamp. -/
def startFrame (s : State) (m lane : Nat) (f : TxFrame) (resend : Bool) : State :=
  let t := txInstant s m lane
  let b := finishWith s m f (if oneStepServed f then oneStep f.ptpOff t f.tReq else id)
  let demoted := f.stamp = 2 && f.secured
  let s := if demoted then bump s (r_TIME_CNT_ONESTEP_DEMOTED m) else s
  let s := if (macGet s m).storm.contains f.cls && regField s (r_MAC_PFC_WATCHDOG m) 16 16 = 1 then
      bump64 s (r_MAC_TX_PFC_IGNORED m) 1 else s
  macMod s m (fun x => { x with active := some { frame := f, wire := b ++ ethFcs b, stamp := BitVec.ofNat 64 t, demoted := demoted,
                                                 resend := resend } })

/-- Starts what was picked. -/
def startPick (s : State) (m lane : Nat) : Pick → State
  | .resume a => macMod s m (fun x => { x with active := some a, preempted := none })
  | .resend f => startFrame (macMod s m (fun x => { x with resends := x.resends.erase f })) m lane f true
  | .head f d =>
    let len := wireLen s m f
    let s := chargePath s (weirPath s f.leaf) len
    startFrame (macMod s m (fun x => { x with queue := headAdvance x.queue f, deficit := d.deficit, turn := d.turn })) m lane f false

/-- The flow-control frame due goes first (R356, R363). -/
def sendFc (s : State) (m : Nat) (d : Bool × Nat × Nat) : State :=
  let (pfc, vec, time) := d
  let s := macMod s m (fun x => { x with fcDue := x.fcDue.drop 1 })
  let b := fcBytes s m pfc vec time
  let s := bump64 s (if pfc then r_MAC_TX_PFC m else r_MAC_TX_PAUSE m) 1
  let s := if pfc then trace s (17 + m) 3 0 0xFFF 0 (toLe 1 vec ++ zeros 1 ++ toLe 2 time) else s
  emit s (.frame m (b ++ ethFcs b) true)

/-- The MAC with nothing in transmission selects (R363). -/
def selectFrame (s : State) (m lane : Nat) : State :=
  match (macGet s m).fcDue with
  | d :: _ => sendFc s m d
  | [] =>
    match pickMac s m with
    | some (_, p) => startPick s m lane p
    | none => s

/-- The frame in transmission is cut at `sent` bytes (R371): both parts keep their least sizes, and an express frame is selected, HOLD is
in force, or the frame's gate closes before its end. -/
def cutDue (s : State) (m sent : Nat) (a : TxActive) : Bool :=
  let x := macGet s m
  let c := a.frame.cls
  let s' := macSet s m { x with active := none, preempted := some a }
  let express := match pickMac s' m with
    | some (d, _) => !preemptable x d
    | none => false
  let closes := match nextClose s m c (closeFuel s m) (absNs s) with
    | some t => !fitsBefore s m (a.wire.length - sent) t
    | none => false
  preemptActive x && preemptable x c && decide (minFragment x ≤ sent - a.sent) && decide (sent + 64 ≤ a.wire.length) &&
    (express || x.hold || closes)

/-- A non-final fragment is sent (R371). -/
def cutFrameTx (s : State) (m sent : Nat) (a : TxActive) : State :=
  let s := macMod s m (fun x => { x with active := none, preempted := some { a with sent := sent } })
  emit (bump64 s (r_MAC_TX_PREEMPT_FRAGS m) 1) (.fragment m ((a.wire.take sent).drop a.sent))

/-- The MAC sends: its link is up and TX_EN is 1 (R342). -/
def macSends (s : State) (m : Nat) : Bool :=
  macUsed s m && (macGet s m).linkUp && bitAt (reg s (r_MAC_TX_CTRL m)).toNat 0

/-- MAC_TX_SELECT (R363, R371). -/
def execMacTxSelect (m sent lane : Nat) (s : State) : Host.Outcome State Fault Refusal :=
  if !macSends s m then done s
  else match (macGet s m).active with
    | some a => if cutDue s m sent a then done (selectFrame (cutFrameTx s m sent a) m lane) else done s
    | none =>
      let s := purgeHeads m (((macGet s m).queue.map segCount).sum) s
      done (selectFrame (countDefers s m) m lane)

/-! The end of a transmission (R348 to R352, R378, R390). -/

/-- A stamp entry is queued, or lost when 64 wait (R390). -/
def putStamp (s : State) (m : Nat) (e : StampEntry) : State :=
  let x := macGet s m
  if 64 ≤ x.stamps.length then bump s (r_TIME_TXQ_DROP m) else macSet s m { x with stamps := x.stamps ++ [e] }

/-- The stamp reaches the transmit packet (R390, R477): that of the MAC the verdict names, or of the lowest MAC. -/
def stampPacket (s : State) (m : Nat) (a : TxActive) : State :=
  match a.frame.origin with
  | none => s
  | some o =>
    let rank := if a.frame.main then 0 else m + 1
    txMod s o (fun x => if x.stampValid && decide (x.stampMac ≤ rank) then x
      else { x with stamp := a.stamp, stampValid := true, demoted := a.demoted, stampMac := rank })

/-- Stamps of a frame that has left. -/
def stampDone (s : State) (m : Nat) (a : TxActive) : State :=
  let f := a.frame
  if f.stamp = 0 then s
  else
    let s := if f.stamp = 2 ∧ oneStepServed f then s
      else putStamp s m { demoted := a.demoted, onestep := decide (f.stamp = 2), id := f.stampId, slice := f.slice, stamp := a.stamp }
    stampPacket (ptpSent s m f a.stamp) m a

/-- Clean count and decay (R352). -/
def cleanFrame (s : State) (m : Nat) : State :=
  let base := regField s (r_MAC_CT_THRESH m) 31 16
  macMod s m (fun x =>
    if x.clean + 1 = 1048576 then { x with clean := 0, ctCurrent := max (x.ctCurrent - 512) base } else { x with clean := x.clean + 1 })

/-- Counters of a data frame sent intact (R378). -/
def countTx (s : State) (m : Nat) (b : Bytes) (c : Nat) : State :=
  let s := bump64 (bump64 s (r_MAC_TX_OCTETS m) b.length) (r_MAC_TX_FRAMES m) 1
  let s := bump64 s (castCounter b (r_MAC_TX_UCAST m) (r_MAC_TX_MCAST m) (r_MAC_TX_BCAST m)) 1
  bump64 s (r_MAC_TX_CLASS m c) 1

/-- MAC_TX_DONE (R390): the last byte of the frame in transmission has left. -/
def execMacTxDone (m : Nat) (s : State) : Host.Outcome State Fault Refusal :=
  match (macGet s m).active with
  | none => done s
  | some a =>
    let f := a.frame
    let s := emit (macMod s m (fun x => { x with active := none })) (.frame m (a.wire.drop a.sent) true)
    let s := countTx s m a.wire f.cls
    let s := traceFrame s m 2 f.slice a.wire.length f.cls
    let s := stampDone s m a
    let s := if a.resend then s else cleanFrame s m
    done (if f.segment + 1 < segCount f then s else letGo s f.fid f.origin none)

/-- UNDERRUN (R351): only a frame that was started before it was whole can underrun. -/
def execUnderrun (m sent : Nat) (s : State) : Host.Outcome State Fault Refusal :=
  let x := macGet s m
  match x.active with
  | none => done s
  | some a =>
    if !a.resend ∧ x.ctCurrent < a.wire.length ∧ a.sent ≤ sent ∧ sent < a.wire.length then
      let cur := if x.ctCurrent < maxFrame s m then x.ctCurrent + 512 else x.ctCurrent
      let bad := (ethFcs (a.wire.take sent)).map (fun b => ~~~b)
      let s := macSet s m { x with active := none, resends := x.resends ++ [a.frame], ctCurrent := cur, clean := 0 }
      let s := bump64 s (r_MAC_TX_UNDERRUN m) 1
      let s := trace s (17 + m) 5 0 a.frame.slice 0 (toLe 2 cur)
      done (emit s (.frame m ((a.wire.take sent).drop a.sent ++ bad) false))
    else done s

/-- TX_LINK_WAIT_EXPIRE (R342): the oldest lossy frame that waits for its MAC is dropped. -/
def execTxLinkWaitExpire (m : Nat) (s : State) : Host.Outcome State Fault Refusal :=
  let x := macGet s m
  if macSends s m then done s
  else match x.queue.find? (fun f => !f.lossless) with
    | none => done s
    | some f =>
      let s := macSet s m { x with queue := x.queue.eraseP (fun f => !f.lossless) }
      done (letGo (bump64 s (r_MAC_TX_LINK_DROP m) (segCount f - f.segment)) f.fid f.origin (some 1))

/-! Weir and Sluice in time. -/

/-- New settings of a shaper take effect (R364). -/
def shaperApply (s : State) (i : Nat) (n : Shaper) : State :=
  let o := shaperGet s i
  let top : Int := (n.depth * 65536 : Nat)
  if n.rateEn ∧ ¬ o.rateEn then shaperSet s i { n with tokens := top, rem := 0 }
  else shaperSet s i { n with tokens := min o.tokens top, rem := o.rem }

/-- WEIR_TICK (R68 to R70, R364). -/
def execWeirTick (p : Nat) (s : State) : Host.Outcome State Fault Refusal :=
  if 1 < p ∨ ¬ clockOn s then done s
  else
    let mine := fun (i : Nat) => decide (i / 32768 = p)
    let s := bump64 s (r_WEIR_TICKS p) 1
    let s := (s.weir.pendingSets.filter (fun x => mine x.1)).foldl (fun s x => shaperApply s x.1 x.2) s
    let w := s.weir
    done { s with weir := { w with
      pendingSets := w.pendingSets.filter (fun x => !mine x.1)
      shapers := w.shapers.map (fun x =>
        if mine x.1 then
          let (level, rem) := bucketTick x.2.rate x.2.depth x.2.tokens x.2.rem
          (x.1, { x.2 with tokens := level, rem := rem })
        else x) } }

/-- GATE_CHANGE (R366): the gate states of the entry in force now. -/
def execGateChange (m : Nat) (s : State) : Host.Outcome State Fault Refusal :=
  let x := macGet s m
  if x.gateEn then
    let i := (operAt x (absNs s)).1
    done (if i = x.entry ∧ x.operGates.toNat = (gclEntry x.oper i).1 then s else takeEntry s m i)
  else done s

/-- GCL_CHANGE_TIME (R369): the new list starts its first cycle. -/
def execGclChangeTime (m : Nat) (s : State) : Host.Outcome State Fault Refusal :=
  let x := macGet s m
  match x.commit with
  | none => done s
  | some c =>
    if absNs s < changeAt c then done s
    else
      let x := { x with oper := c.list, operLen := c.len, operCycle := c.cycle, operBaseS := c.baseS, operBaseNs := c.baseNs,
                        gateEn := c.gateEn, commit := none }
      let s := macSet s m x
      let s := if c.gateEn then takeEntry s m (schedAt (operSched x) (absNs s)).1
        else macSet s m { x with entry := 0, hold := false, operGates := BitVec.ofNat 8 (adminGates s m) }
      done (eventToManager s 0x8620 (toLe 1 m ++ zeros 3 ++ toLe 8 c.changeS ++ toLe 4 c.changeNs))

/-- PREEMPT_VERIFY (R371): verification succeeds, or fails after 3 attempts. -/
def execPreemptVerify (m : Nat) (ok : Bool) (s : State) : Host.Outcome State Fault Refusal :=
  let x := macGet s m
  if x.verifyState = 1 then done (macSet s m { x with verifyState := if ok then 2 else 3 }) else done s

/-! Links (R341, R672). -/

/-- LINK_UP (R672): training has completed on the MAC's group of lanes. -/
def execLinkUp (m : Nat) (s : State) : Host.Outcome State Fault Refusal :=
  if datapathOn s ∧ ¬ s.dev.isolated ∧ s.dev.ethRefclk ∧ macUsed s m ∧ ¬ (macGet s m).linkUp then
    match macGroup s m with
    | some (a, n) =>
      let lanes := (List.range n).foldl (fun v i => v + 2 ^ (a + i)) 0
      done (linkChange (portMod s (m / 8) (fun p => { p with laneLock := p.laneLock ||| BitVec.ofNat 8 lanes })) m true 0)
    | none => done s
  else done s

/-- LINK_FAULT (R372): a local or remote fault takes the link down. -/
def execLinkFault (m : Nat) (remote : Bool) (s : State) : Host.Outcome State Fault Refusal :=
  if (macGet s m).linkUp then done (linkChange s m false (if remote then 2 else 1)) else done s

/-- ETH_REFCLK_LOSS (R657): every Ethernet and Itwin link goes down and OSC_LOST is set while TB_OSC is absent too. -/
def ethRefLost (s : State) : State :=
  let s := ethLinksDown { s with dev := { s.dev with ethRefclk := false } }
  if s.time.onFallback || !s.dev.tbOsc then { s with time := { s.time with oscLost := true, onFallback := false } } else s

end Sys2Proof.Machine
end

