-- ==== Sys2Proof/Machine/PortCmd.lean ====
section
/-! DEFINITION. The commands of class 0x06xx (R373): ports and lanes (R340, R341), priority flow control (R357), Weir (R359, R360,
R364) and Sluice (R365, R369, R371). -/

namespace Sys2Proof.Machine

open Sys2Proof

/-- MACs of a port. -/
def portMacs (p : Nat) : List Nat := (List.range 8).map (fun k => 8 * p + k)

/-- A MAC has a frame queued or in transmission. -/
def macBusy (x : MacState) : Bool :=
  !x.queue.isEmpty || x.active.isSome || x.preempted.isSome || !x.resends.isEmpty

/-- Control and status registers of a MAC's receive, transmit and Sluice blocks, which PORT_MODE_SET resets (R340). -/
def macCtlReg (p a : Nat) : Bool :=
  let rx := 0x1308010000 + 0x4000000 * p
  let tx := 0x1310010000 + 0x4000000 * p
  (decide (rx ≤ a ∧ a < rx + 0x8000) && decide ((a - rx) % 0x1000 < 0x100)) ||
  (decide (tx ≤ a ∧ a < tx + 0x8000) && (decide ((a - tx) % 0x1000 < 0x100) || decide (0x800 ≤ (a - tx) % 0x1000 ∧ (a - tx) % 0x1000 < 0x900)))

/-- A MAC takes its reset state; what Basin holds for it, its administrative list and its stamps stay. -/
def macReset (s : State) (m : Nat) : State :=
  let s := if (macGet s m).linkUp then linkChange s m false 0 else s
  let x := macGet s m
  macSet s m { occ := x.occ, admin := x.admin, stamps := x.stamps, stampLatch := x.stampLatch }

/-- A port takes a mode: its MACs start anew and retrain (R340). -/
def portReset (s : State) (p mode : Nat) : State :=
  let s := (portMacs p).foldl macReset s
  let s := portMod s p (fun x => { x with mode := mode, laneLock := 0 })
  { s with regs := s.regs.filter (fun r => !macCtlReg p r.1)
           basin := { s.basin with lossless := s.basin.lossless.filter (fun r => r.1 / 64 ≠ p) } }

/-- PORT_MODE_SET (R340). -/
def execPortModeSet (ch seq : Nat) (s : State) : Host.Outcome State Fault Refusal :=
  command s ch seq 0x0600 (fun req =>
    let p := byteAt req 0
    let mode := byteAt req 1
    if 1 < p ∨ 3 < mode then answer s ch seq rcBadParam []
    else if (portMacs p).any (fun m => bitAt (reg s (r_MAC_RX_CTRL m)).toNat 0 || macBusy (macGet s m)) then answer s ch seq rcBusy []
    else answer (portReset (hwSetField s 0x029 (2 * p + 1) (2 * p) mode) p mode) ch seq rcOk [])

/-- PORT_STATUS (R373). -/
def execPortStatus (ch seq : Nat) (s : State) : Host.Outcome State Fault Refusal :=
  command s ch seq 0x0601 (fun req =>
    let p := byteAt req 0
    if 1 < p then answer s ch seq rcBadParam []
    else
      let up := (List.range 8).foldl (fun v k => v + b2n (macGet s (8 * p + k)).linkUp * 2 ^ k) 0
      let rate := (portMacs p).flatMap (fun m => toLe 1 (if macUsed s m then rateCode (macRate s m) else 0))
      answer s ch seq rcOk (toLe 1 (portGet s p).mode ++ toLe 1 (portGet s p).retired ++ toLe 1 up ++ zeros 1 ++ rate))

/-- An Ethernet lane is retired (R341, R603): the MAC that used it retrains on what is left. `cause` is that of UNIT_RETIRED. -/
def retireEthLane (s : State) (p lane cause : Nat) : State :=
  let before := s
  let n := modeLanes (portGet s p).mode
  let m := 8 * p + lane / n * n
  let used := match macGroup s m with
    | some (a, k) => decide (a ≤ lane ∧ lane < a + k)
    | none => false
  let s := hwSetField s 0x026 (8 * p + lane) (8 * p + lane) 1
  let drop := if used then (2 ^ n - 1) * 2 ^ (lane / n * n) else 2 ^ lane
  let s := portMod s p (fun x => { x with retired := x.retired ||| 2 ^ lane, laneLock := x.laneLock &&& ~~~(BitVec.ofNat 8 drop) })
  let s := if used && (macGet s m).linkUp then linkChange s m false 0 else s
  let s := eventToManager s 0x8601 (toLe 1 p ++ toLe 1 lane ++ toLe 1 m ++ toLe 1 (rateCode (macRate s m)))
  noteMode before (noteRetired s 4 cause (8 * p + lane) 0 p) 1

/-- PORT_LANE_RETIRE (R341). -/
def execPortLaneRetire (ch seq : Nat) (s : State) : Host.Outcome State Fault Refusal :=
  command s ch seq 0x0602 (fun req =>
    let p := byteAt req 0
    let lane := byteAt req 1
    if 1 < p ∨ 7 < lane ∨ bitAt (portGet s p).retired lane then answer s ch seq rcBadParam []
    else answer (retireEthLane s p lane 0) ch seq rcOk [])

/-- PFC_CONFIG_SET (R357). -/
def execPfcConfigSet (ch seq : Nat) (s : State) : Host.Outcome State Fault Refusal :=
  command s ch seq 0x0604 (fun req =>
    let m := byteAt req 0
    let c := byteAt req 1
    let xoff := le req 4 4
    let xon := le req 8 4
    let room := le req 12 4
    if 15 < m ∨ 7 < c ∨ xoff < xon ∨ 2 ^ 24 ≤ xoff ∨ 2 ^ 24 ≤ room then answer s ch seq rcBadParam []
    else
      let key := m * 8 + c
      let free := openFree s + ceilDiv (mapGetD s.basin.lossless key 0) 16
      if free < ceilDiv (xoff + room) 16 then answer s ch seq rcNoResource []
      else
        let s := setReg (setReg s (r_MAC_PFC_XOFF m c) (BitVec.ofNat 32 xoff)) (r_MAC_PFC_XON m c) (BitVec.ofNat 32 xon)
        let s := setReg s (r_MAC_PFC_HEADROOM m c) (BitVec.ofNat 32 room)
        let l := if xoff + room = 0 then mapErase s.basin.lossless key else mapSet s.basin.lossless key (xoff + room)
        answer { s with basin := { s.basin with lossless := l } } ch seq rcOk [])

/-! Weir. -/

/-- The slice that holds a shaper (R359). -/
def shaperHeld (s : State) (i : Nat) : Bool :=
  s.slices.tab.any (fun p => (decide (p.2.w0Base ≤ i ∧ i < p.2.w0Base + p.2.w0Count)) || decide (p.2.w1Base ≤ i ∧ i < p.2.w1Base + p.2.w1Count))

/-- A shaper's settings once those that wait for a tick are in force (R364). -/
def shaperNext (s : State) (i : Nat) : Shaper :=
  s.weir.pendingSets.foldl (fun x p => if p.1 = i then p.2 else x) (shaperGet s i)

/-- Settings of a WEIR_SHAPER_SET request (R373). -/
def shaperOfReq (req : Bytes) : Shaper :=
  { level := byteAt req 2, prio := byteAt req 3, parent := if le req 4 2 = 0xFFFF then none else some (le req 4 2),
    quantum := le req 6 2, rate := le req 8 8, depth := le req 16 4, overhead := byteAt req 20, rateEn := bitAt (byteAt req 21) 0 }

/-- The settings keep R359: levels and parents, also those of the shapers below and of the leaf maps. -/
def shaperOk (s : State) (i : Nat) (x : Shaper) : Bool :=
  let below := (s.weir.shapers.map (fun p => p.1) ++ s.weir.pendingSets.map (fun p => p.1)).filter
    (fun j => (shaperNext s j).parent = some i)
  let parentOk := match x.parent with
    | none => decide (x.level = 3)
    | some p => decide (x.level < 3) && decide ((shaperNext s p).level = x.level + 1) && decide (p / 32768 = i / 32768)
  shaperHeld s i && decide (x.level ≤ 3) && parentOk && decide (x.prio ≤ 7) && decide (64 ≤ x.quantum) && decide (x.rate < 2 ^ 40) &&
    decide (x.depth < 2 ^ 24) && decide (x.overhead ≤ 63) && below.all (fun j => (shaperNext s j).level + 1 = x.level) &&
    (decide (x.level = 0) || !s.weir.leaf.any (fun l => l.2 = i))

/-- WEIR_SHAPER_SET (R359, R364): in force at the next tick of the island. -/
def execWeirShaperSet (ch seq : Nat) (s : State) : Host.Outcome State Fault Refusal :=
  command s ch seq 0x0610 (fun req =>
    let i := le req 0 2
    let x := shaperOfReq req
    if shaperOk s i x then
      answer { s with weir := { s.weir with pendingSets := s.weir.pendingSets ++ [(i, x)] } } ch seq rcOk []
    else answer s ch seq rcBadParam [])

/-- The 24 bytes of a shaper's settings (R373). -/
def shaperBytes (i : Nat) (x : Shaper) : Bytes :=
  toLe 2 i ++ toLe 1 x.level ++ toLe 1 x.prio ++ toLe 2 (x.parent.getD 0xFFFF) ++ toLe 2 x.quantum ++ toLe 8 x.rate ++ toLe 4 x.depth ++
    toLe 1 x.overhead ++ toLe 1 (b2n x.rateEn) ++ zeros 2

/-- WEIR_SHAPER_READ (R373). -/
def execWeirShaperRead (ch seq : Nat) (s : State) : Host.Outcome State Fault Refusal :=
  command s ch seq 0x0611 (fun req =>
    let i := le req 0 2
    let x := shaperGet s i
    answer s ch seq rcOk (fit req 4 ++ shaperBytes i x ++ toLe 8 (unsigned 64 x.tokens) ++ toLe 2 x.rem ++ zeros 6))

/-- WEIR_LEAF_MAP_SET (R360). -/
def execWeirLeafMapSet (ch seq : Nat) (s : State) : Host.Outcome State Fault Refusal :=
  command s ch seq 0x0612 (fun req =>
    let n := le req 0 2
    let p := byteAt req 2
    let leaf := fun (c : Nat) => le req (4 + 2 * c) 2
    let ok := fun (c : Nat) => decide (leaf c = 0xFFFF) || (decide ((shaperNext s (leaf c)).level = 0) && decide (leaf c / 32768 = p))
    if 1 < p ∨ (sliceGet s n).isNone ∨ ¬ (List.range 8).all ok then answer s ch seq rcBadParam []
    else
      let l := (List.range 8).foldl (fun m c =>
        let key := n * 16 + p * 8 + c
        if leaf c = 0xFFFF then mapErase m key else mapSet m key (leaf c)) s.weir.leaf
      answer { s with weir := { s.weir with leaf := l } } ch seq rcOk [])

/-! Sluice. -/

/-- The 8 bytes of a gate-list entry (R365). -/
def gclBytes (e : Nat × Nat × Nat) : Bytes := toLe 4 (e.1 + 256 * e.2.1) ++ toLe 4 e.2.2

def gclOfBytes (b : Bytes) : Nat × Nat × Nat := (bits (le b 0 4) 7 0, bits (le b 0 4) 9 8, le b 4 4)

/-- SLC_GCL_WRITE (R365, R373). -/
def execSlcGclWrite (ch seq : Nat) (s : State) : Host.Outcome State Fault Refusal :=
  command s ch seq 0x0620 (fun req =>
    let m := byteAt req 0
    let first := le req 2 2
    let n := le req 4 2
    let es := (List.range n).map (fun i => gclOfBytes (slice req (8 + 8 * i) 8))
    if 15 < m ∨ n = 0 ∨ 30 < n ∨ 1024 < first + n ∨ es.any (fun e => e.2.1 = 3) then answer s ch seq rcBadParam []
    else
      answer (macMod s m (fun x => { x with admin := (List.range n).foldl (fun l i => mapSet l (first + i) ((es[i]?).getD (0, 0, 0))) x.admin }))
        ch seq rcOk [])

/-- Change time of a commit in ns (R369): BASE, or the first BASE + N × CYCLE at least 10 µs after now. -/
def gclChange (s : State) (base cycle : Nat) : Nat :=
  let limit := absNs s + 10000 + (if s.time.now.frac = 0 then 0 else 1)
  if limit ≤ base then base else base + ceilDiv (limit - base) cycle * cycle

/-- SLC_GCL_COMMIT (R369): answered with the change time. -/
def execSlcGclCommit (ch seq : Nat) (s : State) : Host.Outcome State Fault Refusal :=
  command s ch seq 0x0621 (fun req =>
    let m := byteAt req 0
    let len := le req 2 2
    let cycle := le req 4 4
    let baseS := le req 12 8
    let baseNs := le req 20 4
    let x := macGet s m
    let es := (List.range len).map (gclEntry x.admin)
    if 15 < m ∨ len = 0 ∨ 1024 < len ∨ cycle = 0 ∨ 999999999 < baseNs then answer s ch seq rcBadParam []
    else if es.any (fun e => e.2.2 = 0 || (e.2.1 ≠ 0 && !x.preemptEn)) then answer s ch seq rcBadParam []
    else if x.commit.isSome then answer s ch seq rcBusy []
    else
      let t := gclChange s (baseS * 1000000000 + baseNs) cycle
      let c : GclCommit := { chan := ch, seq := seq, len := len, cycle := cycle, ext := le req 8 4, baseS := baseS, baseNs := baseNs,
                             gateEn := bitAt (le req 24 4) 0, changeS := t / 1000000000, changeNs := t % 1000000000,
                             since := absNs s, list := x.admin }
      answer (macSet s m { x with commit := some c }) ch seq rcOk (toLe 8 c.changeS ++ toLe 4 c.changeNs))

/-- SLC_GCL_READ (R373). -/
def execSlcGclRead (ch seq : Nat) (s : State) : Host.Outcome State Fault Refusal :=
  command s ch seq 0x0622 (fun req =>
    let m := byteAt req 0
    let which := byteAt req 1
    let first := le req 2 2
    let n := le req 4 2
    if 15 < m ∨ 1 < which ∨ 1024 < first + n then answer s ch seq rcBadParam []
    else
      let l := if which = 0 then (macGet s m).admin else (macGet s m).oper
      answer s ch seq rcOk (fit req 8 ++ (List.range n).flatMap (fun i => gclBytes (gclEntry l (first + i)))))

/-- SLC_PREEMPT_SET (R371): verification runs unless it is disabled. -/
def execSlcPreemptSet (ch seq : Nat) (s : State) : Host.Outcome State Fault Refusal :=
  command s ch seq 0x0623 (fun req =>
    let m := byteAt req 0
    let fl := byteAt req 2
    if 15 < m ∨ 3 < byteAt req 3 then answer s ch seq rcBadParam []
    else
      let en := bitAt fl 0
      let dis := bitAt fl 1
      answer (macMod s m (fun x => { x with preemptMask := BitVec.ofNat 8 (byteAt req 1), preemptEn := en, verifyDis := dis,
                                            addFrag := byteAt req 3, verifyState := if en && !dis && x.linkUp then 1 else 0 }))
        ch seq rcOk [])

end Sys2Proof.Machine
end

