-- ==== Sys2Proof/Machine/Modes.lean ====
section
/-! DEFINITION. Supplies, resets, boot and the base mode (R570 to R584), the end of a handover (R597, R600), retirements of HBM
pseudo-channels and lanes (R603, R604), and the mode commands (R605). -/

namespace Sys2Proof.Machine

open Sys2Proof

/-! Resets (R572, R573). -/

/-- Outputs that fall when the adapter is reset: its Itwin lines and its timed outputs. -/
def dropLines (s : State) : State :=
  let s := if s.itw.released then emit s (.aliveRelease false) else s
  let s := if s.itw.actOut then emit s (.actOut false) else s
  s.tio.foldl (fun (s : State) (x : Nat × TioChan) => if x.2.active then emit s (.tioEdge x.1 false) else s) s

/-- Everything but what persists: Heartwood and the boot flash, the levels of the input pins, the TAP, and the model's own queue, output log
and counter. -/
def resetVolatile (s : State) (base : BaseMode) : State :=
  let s := dropLines s
  { State.reset with
    pending := s.pending
    dev := { base := base, suppliesUp := s.dev.suppliesUp, sysRstN := s.dev.sysRstN, tbOsc := s.dev.tbOsc, ethRefclk := s.dev.ethRefclk,
             coreMv := s.dev.coreMv }
    hw := { words := s.hw.words }
    flash := s.flash
    ep0 := { perst := s.ep0.perst }
    ep1 := { perst := s.ep1.perst }
    itw := { actIn := s.itw.actIn }
    tap := s.tap
    out := s.out
    fresh := s.fresh }

/-- A bank that was being written when a reset came is not whole. -/
def flashSettle (s : State) : State :=
  let fix := fun (b : ImageBank) => if b.state = 3 then { b with state := 2 } else b
  { s with flash := { s.flash with whA := fix s.flash.whA, whB := fix s.flash.whB, cscA := fix s.flash.cscA, cscB := fix s.flash.cscB,
                                   manifestBuf := [] } }

/-- A reset that leads to HELD (R572, R574): the cause is kept in Heartwood (R573). -/
def resetTo (s : State) (cause : Nat) : State := hwSet (flashSettle (resetVolatile s .held)) 0x012 (BitVec.ofNat 32 cause)

/-! Boot (R582, R618). -/

/-- Bytes of the journalled words as their CRC covers them. -/
def journalBytes (s : State) (n : Nat) : Bytes := (List.range n).flatMap (fun i => toLe 4 (hwWord s (0x202 + i)).toNat)

/-- The boot ROM applies a valid journalled group again, and clears the journal (R618). -/
def journalReplay (s : State) : State :=
  if hwField s 0x200 16 16 = 0 then s
  else
    let n := hwField s 0x200 15 10
    let s := if crc32c (journalBytes s n) = hwWord s 0x201 then
        setBits (hwSetAll s (hwField s 0x200 9 0) ((List.range n).map (fun i => hwWord s (0x202 + i)))) r_HWD_STATUS 1#32
      else s
    hwSet s 0x200 0#32

/-- The timed outputs at the end of HELD (R411). -/
def tioBoot (s : State) : State :=
  let s := setReg (setReg s (r_TIO_CFG 8) 0x11#32) (r_TIO_CFG 9) 3#32
  let s := setReg (setReg s (r_TIO_PERIOD_LO 9) 0x9ACA0000#32) (r_TIO_PERIOD_HI 9) 0x3B#32
  let s := setReg s (r_TIO_WIDTH 9) 10000000#32
  tioSet (tioSet s 8 { mode := 1, edge := 1 }) 9 { mode := 3, armed := true, period := 0x3B9ACA0000, width := 10000000 }

/-- The TAP leaves a board-test instruction for Test-Logic-Reset (R659). -/
def tapRelease : TapInstr → TapInstr
  | .extest => .reset
  | .highz => .reset
  | .clamp => .reset
  | .extestPulse => .reset
  | .extestTrain => .reset
  | t => t

/-- HELD ends (R582, steps 1 to 3): the time value starts at 0, and the boot ROM runs. -/
def beginBoot (s : State) : State :=
  let s := { s with
    dev := { s.dev with base := .boot, since := 0 }
    time := {} }
  let s := journalReplay (hwSet s 0x017 (hwWord s 0x017 + 1))
  let s := mctpStart (tioBoot s)
  emit { s with dev := { s.dev with coreMv := Config.avsMv } } (.avsSetPoint Config.avsMv)

/-- HELD ends when SYS_RST_N is high, every supply and TB_OSC are in range, and a device reset's 1 ms is over (R572, R574, R654). -/
def tryBoot (s : State) : State :=
  if s.dev.base = .held ∧ s.dev.sysRstN ∧ s.dev.suppliesUp ∧ s.dev.tbOsc ∧ ¬ s.dev.resetHeld then beginBoot s else s

/-- SUPPLY_UP (R574, R654). -/
def execSupplyUp (s : State) : Host.Outcome State Fault Refusal :=
  let t := { s with dev := { s.dev with suppliesUp := true } }
  done (tryBoot (if s.dev.base = .off then resetTo t 0 else t))

/-- SUPPLY_REMOVED (R574): every mode. -/
def execSupplyRemoved (s : State) : Host.Outcome State Fault Refusal :=
  let s := flashSettle (resetVolatile s .off)
  done { s with dev := { s.dev with suppliesUp := false, coreMv := 750 }, tap := .reset }

/-- SUPPLY_MONITOR_TRIP (R572, R652). -/
def execSupplyMonitorTrip (supply : Nat) (s : State) : Host.Outcome State Fault Refusal :=
  if s.dev.base = .off ∨ 11 < supply then done s
  else
    let s := { s with dev := { s.dev with suppliesUp := false } }
    done (if s.dev.sysRstN then resetTo s 2 else s)

/-- SYS_RST_N_ASSERT (R572, R647): 1 µs or longer resets, 200 ns or shorter is ignored, and between them the manual forbids the pulse and
leaves its effect open. -/
def execSysRstNAssert (widthNs : Nat) (s : State) : Host.Outcome State Fault Refusal :=
  let act := fun (s : State) =>
    let s := { s with dev := { s.dev with sysRstN := false } }
    if s.dev.base = .off then s else resetTo s 1
  if widthNs ≤ 200 then done s
  else if 1000 ≤ widthNs then done (act s)
  else done (if Config.freePick s.fresh 2 % 2 = 1 then act (drawn s) else drawn s)

/-- SYS_RST_N_DEASSERT (R574, R582, R659). -/
def execSysRstNDeassert (s : State) : Host.Outcome State Fault Refusal :=
  done (tryBoot { s with dev := { s.dev with sysRstN := true }, tap := tapRelease s.tap })

/-- TB_OSC_RANGE_CHANGE (R654). -/
def execTbOscRangeChange (inRange : Bool) (s : State) : Host.Outcome State Fault Refusal :=
  done (tryBoot { s with dev := { s.dev with tbOsc := inRange } })

/-- DEVICE_RESET_START (R574, R581, R601): in any mode but OFF. -/
def execDeviceResetStart (s : State) : Host.Outcome State Fault Refusal :=
  match s.dev.resetPending with
  | none => done s
  | some cause =>
    if s.dev.base = .off then done s
    else
      let s := resetTo s cause
      done { s with dev := { s.dev with resetHeld := true } }

/-- DEVICE_RESET_HELD_EXPIRE (R572). -/
def execDeviceResetHeldExpire (s : State) : Host.Outcome State Fault Refusal :=
  done (tryBoot { s with dev := { s.dev with resetHeld := false } })

/-! Images at boot (R583, R584, R590). -/

/-- The bank of a kind that boot takes: the one the boot word names, or the other one. -/
def bootBank (s : State) (kind : Nat) : Option Nat :=
  let b := hwField s 0x010 kind kind
  if imgValid s kind b then some b else if imgValid s kind (1 - b) then some (1 - b) else none

/-- FELL_BACK of a kind (R583). -/
def noteFallback (s : State) (kind bank : Nat) : State :=
  let fell := if bank = hwField s 0x010 kind kind then 0 else 1
  if hwField s 0x010 (2 + kind) (2 + kind) = fell then s else hwSetField s 0x010 (2 + kind) (2 + kind) fell

/-- State of the spare pair when firmware starts (R592, R595). -/
def spareAtBoot (s : State) : SpareState := if hwField s 0x011 (2 - activePair s) (2 - activePair s) = 1 then .retired else .loading

/-- WELLHEAD_IMAGE_VERIFY (R582, steps 4 and 5; R583, R584). -/
def execWellheadImageVerify (s : State) : Host.Outcome State Fault Refusal :=
  if s.dev.base ≠ .boot ∨ s.dev.whVerified ∨ s.dev.recovery then done s
  else match bootBank s 0 with
    | none => done { s with dev := { s.dev with recovery := true } }
    | some b =>
      let s := noteFallback s 0 b
      done { s with dev := { s.dev with whVerified := true }, fw := { s.fw with whBank := b, whRunning := true, spare := spareAtBoot s } }

/-- Why boot ends in RESTRICTED with the Cascade bank loaded; 0 when it does not (R590). -/
def pairReason (s : State) : Nat :=
  match bootBank s 1 with
  | none => if imgRolledBack s 1 0 ∧ imgRolledBack s 1 1 then 4 else 2
  | some c => if (manifestUse s).isNone then 3 else if banksListed s s.fw.whBank c then 0 else 1

/-- CASCADE_MANIFEST_CHECK (R582, step 6; R590). -/
def execCascadeManifestCheck (s : State) : Host.Outcome State Fault Refusal :=
  if s.dev.base ≠ .boot ∨ ¬ s.dev.whVerified ∨ s.dev.cscChecked then done s
  else
    let r := pairReason s
    let bank := bootBank s 1
    let s := match bank with
      | some b => noteFallback s 1 b
      | none => s
    done { s with dev := { s.dev with cscChecked := true, restrictedReason := r }, fw := { s.fw with cscBank := bank.getD s.fw.cscBank } }

/-! HBM pseudo-channels (R603, R604). -/

/-- Pseudo-channels that Heartwood holds as retired, as a mask. -/
def hbmRetired (s : State) : Nat := (hwWord s 0x015).toNat + 4294967296 * (hwWord s 0x016).toNat

def hbmCount (mask : Nat) : Nat := ((List.range 64).filter (fun k => bitAt mask k)).length

/-- Page area in GiB before retirements. -/
def gibNow (s : State) : Nat := (s.basin.area + 196608 * hbmCount (hbmRetired s)) / 262144

/-- Granules of a pseudo-channel outside the page area once `taken` rows of its top are in use. -/
def granulesOutside (gib taken : Nat) : Nat := 196608 - (gib * 4096 - taken)

/-- Rows of 64 granules that take `n` granules when `k` pseudo-channels besides the one retired are gone. -/
def rowsFor (n k : Nat) : Nat := ceilDiv n (63 - k)

/-- Rows taken from a page area of `gib` GiB by the retirement of `n` pseudo-channels. -/
def rowsTaken (gib : Nat) : Nat → Nat
  | 0 => 0
  | n + 1 => rowsTaken gib n + rowsFor (granulesOutside gib (rowsTaken gib n)) n

/-- Heartwood holds a pseudo-channel as retired. -/
def hbmMark (s : State) (pc : Nat) : State := hwSetField s (0x015 + pc / 32) (pc % 32) (pc % 32) 1

/-- The retirement of a pseudo-channel begins (R604). -/
def hbmBegin (s : State) (pc cause : Nat) : State :=
  let gone := hbmCount (hbmRetired s) + s.hbm.retiring.length
  let rows := rowsFor (granulesOutside (gibNow s) s.hbm.taken) gone
  { s with hbm := { s.hbm with retiring := s.hbm.retiring ++ [(pc, cause)], taken := s.hbm.taken + rows,
                               remap := mapSet s.hbm.remap pc (s.hbm.taken, rows) } }

/-- The pseudo-channel is retired or is being retired. -/
def hbmGone (s : State) (pc : Nat) : Bool := bitAt (hbmRetired s) pc || s.hbm.retiring.any (fun x => x.1 = pc)

/-- Retired pseudo-channels, those being retired included. -/
def hbmGoneCount (s : State) : Nat := hbmCount (hbmRetired s) + s.hbm.retiring.length

/-- HBM_PC_RETIRE (R604, R605). -/
def execHbmPcRetire (ch seq : Nat) (s : State) : Host.Outcome State Fault Refusal :=
  command s ch seq 0x0142 (fun req =>
    let pc := byteAt req 0
    if 63 < pc ∨ hbmGone s pc then answer s ch seq rcBadParam []
    else if 8 ≤ hbmGoneCount s ∨ s.basin.area < pagesReserved s + pagesLossless s + 196608 * (s.hbm.retiring.length + 1) then
      answer s ch seq rcNoResource []
    else answer (hbmBegin s pc 0) ch seq rcOk (toLe 4 (granulesOutside (gibNow s) s.hbm.taken)))

/-- HBM_PC_AUTO_RETIRE (R603): at most 8 pseudo-channels (R604). -/
def execHbmPcAutoRetire (pc : Nat) (s : State) : Host.Outcome State Fault Refusal :=
  if 63 < pc ∨ hbmGone s pc ∨ 8 ≤ hbmGoneCount s ∨ ¬ datapathOn s then done s else done (hbmBegin s pc 1)

/-- HBM_PC_RETIRE_DONE (R604): the page area loses what it gave and its own granules there. -/
def execHbmPcRetireDone (s : State) : Host.Outcome State Fault Refusal :=
  match s.hbm.retiring with
  | [] => done s
  | (pc, cause) :: rest =>
    let before := s
    let s := hbmMark { s with hbm := { s.hbm with retiring := rest }, basin := { s.basin with area := s.basin.area - 196608 } } pc
    let short := pagesReserved s + pagesLossless s - s.basin.area
    done (noteMode before (noteRetired s 3 cause pc short 11) 1)

/-- HBM_TRAINING_DONE (R582, step 7; R603): a pseudo-channel that fails training is retired. -/
def execHbmTrainingDone (failed : List Nat) (s : State) : Host.Outcome State Fault Refusal :=
  if s.dev.base ≠ .boot ∨ ¬ s.dev.whVerified ∨ s.dev.hbmTrained then done s
  else
    let s := failed.foldl (fun s pc =>
      if 63 < pc ∨ hbmGone s pc ∨ 8 ≤ hbmGoneCount s then s else noteRetired (hbmMark s pc) 3 2 pc 0 11) s
    done { s with dev := { s.dev with hbmTrained := true } }

/-- The rails as Heartwood holds them (R272). -/
def railsApply (s : State) : State :=
  let st := fun (r : Nat) => if hwField s 0x020 r r = 1 then RailState.retired else RailState.inService
  railSet (railSet s 0 (st 0)) 1 (st 1)

/-- BOOT_SELF_TEST_DONE (R582, step 8): a rail that fails is retired, unless it is the last one (notes/assumptions/21.md). -/
def execBootSelfTestDone (failA failB : Bool) (s : State) : Host.Outcome State Fault Refusal :=
  if s.dev.base ≠ .boot ∨ ¬ s.dev.hbmTrained ∨ s.dev.selfTested then done s
  else
    let s := railsApply s
    let retire := fun (s : State) (r : Nat) (fail : Bool) => if fail ∧ railUp s r ∧ railUp s (1 - r) then retireRail s r 0 0 2 else s
    let s := retire (retire s 0 failA) 1 failB
    done { s with dev := { s.dev with selfTested := true } }

/-! Entry to PROVISION from BOOT (R573). -/

/-- Slice 0 or 1 (R554). -/
def pf0Slice (ep : Nat) : Slice :=
  { func := 0, ep := ep, twin := false, railMask := 3, openEligible := true, qpBase := 0, qpCount := 16, vecCount := 17, w0Base := ep, w0Count := 1,
    w1Base := 32768 + ep, w1Count := 1, basinPages := 0, cstQuota := 0, saBase := 0, saCount := 0, nvtBase := 0, nvtCount := 0, cscWeight := 1#32,
    start := (List.range 4).map (fun _ => { first := 0, stride := 1, count := 0 }) }

/-- The role passes to HOME as Heartwood names it (R525). -/
def roleInit (s : State) : State :=
  let s := { s with role := { s.role with homeEp := hwField s 0x003 0 0, altEn := decide (hwField s 0x003 1 1 = 1) } }
  setHolder s .home 3

/-- Ports take their modes and their retired lanes (R337, R341). -/
def portsApply (s : State) : State :=
  (List.range 2).foldl (fun s p =>
    let mode := hwField s 0x029 (2 * p + 1) (2 * p)
    let s := if (portGet s p).mode = mode then s else portReset s p mode
    portMod s p (fun x => { x with retired := hwField s 0x026 (8 * p + 7) (8 * p) })) s

/-- Physical engine `e` is retired in Heartwood. -/
def engineGone (s : State) (e : Nat) : Bool := decide (hwField s (0x022 + e / 32) (e % 32) (e % 32) = 1)

/-- Engines of a rail (R241, R250): the retired ones, and the spares that stand at their positions. -/
def enginesApplyRail (s : State) (rail : Nat) : State :=
  let base := 34 * rail
  let spares := [32, 33].filter (fun e => !engineGone s (base + e))
  let gone := (List.range 34).filter (fun e => engineGone s (base + e))
  let lost := (List.range 32).filter (fun e => engineGone s (base + e))
  let s := gone.foldl (fun s e => engSet s (base + e) .retired) s
  let s := (List.range (min lost.length spares.length)).foldl (fun s i => engSet s (base + (spares[i]?).getD 0) .inService) s
  (List.range 4).foldl (fun s c =>
    clusterMod s (4 * rail + c) (fun x => { x with map := (List.range 8).map (fun p =>
      let e := 8 * c + p
      if lost.contains e then (spares[(lost.takeWhile (fun y => y ≠ e)).length]?).getD 0xFF else e) })) s

/-- Retirements of Heartwood take effect (R573, R603). -/
def retirementsApply (s : State) : State :=
  let s := enginesApplyRail (enginesApplyRail (railsApply s) 0) 1
  { s with
    cry := { s.cry with coresRetired := BitVec.ofNat 24 (hwWord s 0x025).toNat }
    itw := { s.itw with lanesRetired := (hwWord s 0x028).toNat } }

/-- Basin takes its page area (R37, R604). -/
def basinApply (s : State) : State :=
  let gib := hwUse s 0x005
  let n := hbmCount (hbmRetired s)
  let s := hwCount s 0x005
  { s with basin := { s.basin with area := gib * 262144 - 196608 * n }, hbm := { s.hbm with taken := rowsTaken gib n } }

/-- Itwin takes its settings (R573, R615). -/
def itwApply (s : State) : State :=
  let hb := hwUse s 0x032
  let s := hwCount s 0x032
  { s with itw := { s.itw with enable := decide (hwField s 0x030 1 1 = 1), rank := (hwWord s 0x031).toNat, periodUs := bits hb 15 0,
                               missLimit := bits hb 19 16 } }

/-- The initial state and the Heartwood settings (R573). -/
def provisionInit (s : State) : State :=
  let s := sliceMake (sliceMake s 0 (pf0Slice 0)) 1 (pf0Slice 1)
  let s := { s with jig := { slot0 := { state := .current } }, twin := { s.twin with streams := [] } }
  let s := itwApply (basinApply (retirementsApply (portsApply (roleInit s))))
  let s := { s with gauge := { s.gauge with traceSize := hwUse s 0x008 } }
  ptpRestart (plbApplyMode (hwCount (hwCount s 0x008) 0x082))

/-- The clusters of both rails in service start (R582, step 9). -/
def startCascade (s : State) : State :=
  let s := { s with fw := { s.fw with cscRunning := true } }
  let s := if railUp s 0 then startClusters s 0 else s
  if railUp s 1 then startClusters s 1 else s

/-- BOOT_COMPLETE (R573, R574, R582, R584). -/
def execBootComplete (s : State) : Host.Outcome State Fault Refusal :=
  if s.dev.base ≠ .boot then done s
  else if s.dev.recovery then done { s with dev := { s.dev with recoveryOpen := true } }
  else if ¬ (s.dev.whVerified ∧ s.dev.cscChecked ∧ s.dev.hbmTrained ∧ s.dev.selfTested) then done s
  else
    let before := s
    let s := hwSet (provisionInit s) 0x013 (hwWord s 0x013 + 1)
    let s := if s.dev.restrictedReason = 0 then startCascade s else s
    let s := { s with
      dev := { s.dev with base := if s.dev.restrictedReason = 0 then .provision else .restricted }
      fw := { s.fw with spare := if s.fw.spare = .loading then .ready else s.fw.spare }
      mbx := { s.mbx with serving := true } }
    done (itwLines (noteMode before s 5))

/-! The end of a handover (R597, R600). -/

/-- Every SPDM session ends (R566, R602). -/
def sessionsEnd (s : State) : State :=
  let n := s.mctp.sessions.length
  let s := { s with mctp := { s.mctp with sessions := [], handshakes := [], inSession := false } }
  (List.range n).foldl (fun s _ => bumpHostGen s 2056) s

/-- The minimum SVNs rise to those of the new images (R597). -/
def raiseSvns (s : State) (h : Handover) : State :=
  let w := match h.whBank with
    | some b => max (hwField s 0x014 15 0) (imgSvn (bankGet s 0 b))
    | none => hwField s 0x014 15 0
  let c := match h.cscBank with
    | some b => max (hwField s 0x014 31 16) (imgSvn (bankGet s 1 b))
    | none => hwField s 0x014 31 16
  hwSet s 0x014 (BitVec.ofNat 32 (w + 65536 * c))

/-- HANDOVER_COMPLETE (R597, step 7; R600, R602). -/
def execHandoverComplete (s : State) : Host.Outcome State Fault Refusal :=
  match s.fw.handover with
  | some h =>
    if h.step = 7 then
      let s := hwSetField s 0x010 1 0 (s.fw.whBank + 2 * s.fw.cscBank)
      let s := if h.raiseSvn then raiseSvns s h else s
      let s := sessionsEnd s
      let s := if h.fromRestricted && decide (s.dev.base = .restricted) then
          let s := startCascade (provisionInit s)
          { s with dev := { s.dev with base := .provision, restrictedReason := 0 } }
        else s
      done (itwLines (handoverEnd s h 0))
    else done s
  | none => done s

/-! Lanes (R341, R372, R603). -/

/-- An Itwin lane is retired, unless it is the last one (R285, R603). -/
def retireItwLane (s : State) (lane : Nat) : State :=
  let mask := s.itw.lanesRetired
  if 3 < lane ∨ bitAt mask lane ∨ (List.range 4).all (fun l => decide (l = lane) || bitAt mask l) then s
  else
    let before := s
    let s := hwSetField { s with itw := { s.itw with lanesRetired := mask + 2 ^ lane } } 0x028 lane lane 1
    noteMode before (noteRetired s 6 1 lane 0 13) 1

/-- Firmware retires a lane of a port or of Itwin (R603). -/
def laneFail (s : State) (port lane : Nat) : State :=
  if ¬ datapathOn s then s
  else if port = 2 then retireItwLane s lane
  else if 2 < port ∨ 7 < lane ∨ bitAt (portGet s port).retired lane then s
  else retireEthLane s port lane 1

/-- ETH_LANE_FEC_THRESHOLD (R603). -/
def execEthLaneFecThreshold (port lane : Nat) (s : State) : Host.Outcome State Fault Refusal := done (laneFail s port lane)

/-- LANE_LOCK_LOSS (R372, R603). -/
def execLaneLockLoss (port lane : Nat) (s : State) : Host.Outcome State Fault Refusal := done (laneFail s port lane)

/-! Mode commands (R574, R577, R581, R605). -/

/-- A queue pair of a PF0 is ACTIVE (R577). -/
def pf0Active (s : State) : Bool := s.rings.qps.any (fun q => decide (q.2.func = 0 ∧ q.2.state = .active))

/-- The answer of DEVICE_MODE_SET when it is not carried out; none when it is. -/
def modeSetCheck (s : State) (ch target confirm : Nat) : Option Nat :=
  let b := s.dev.base
  let ok := fun (x : Bool) => if !x then some rcBadParam else if s.dev.quiesce ≠ 0 then some rcBusy else none
  if target = 1 then (if chanSecure ch ∨ confirm = 0x5A5A then none else some rcBadParam)
  else if target = 4 then ok (decide (b = .service ∨ b = .quiescent) || (s.dev.isolated && decide (b = .provision)))
  else if target = 5 then ok (decide (b = .provision) || (s.dev.isolated && decide (b = .service)))
  else if target = 9 then ok (running s)
  else if target = 11 then (if b = .provision ∧ pf0Active s then some rcBusy else ok (decide (b = .provision)))
  else some rcBadParam

/-- The base mode becomes PROVISION or SERVICE by command; ISOLATED ends (R571, R574). -/
def modeEnter (s : State) (base : BaseMode) : State :=
  let t := noteMode s { s with dev := { s.dev with base := base, isolated := false } } 0
  if base = .service then pumpAll (pumpAll (itwLines t) 0) 1 else itwLines t

/-- ISOLATED begins (R571, R576). -/
def isolate (s : State) : State :=
  let t := { s with dev := { s.dev with isolated := true } }
  let t := (List.range 16).foldl (fun t m => if (macGet t m).linkUp then linkChange t m false 0 else t) t
  noteMode s t 0

/-- What DEVICE_MODE_SET does. -/
def modeSet (s : State) (target : Nat) : State :=
  if target = 1 then { s with dev := { s.dev with resetPending := some 3 } }
  else if target = 4 then
    (if s.dev.base = .quiescent then { s with dev := { s.dev with quiesce := 2 } } else modeEnter s .provision)
  else if target = 5 then modeEnter s .service
  else if target = 9 then isolate s
  else { s with dev := { s.dev with quiesce := 1 } }

/-- DEVICE_MODE_SET (R571, R574, R577, R581). -/
def execDeviceModeSet (ch seq : Nat) (s : State) : Host.Outcome State Fault Refusal :=
  command s ch seq 0x0140 (fun req =>
    let target := byteAt req 0
    match modeSetCheck s ch target (le req 2 2) with
    | some code => answer s ch seq code []
    | none => answer (modeSet s target) ch seq rcOk [])

/-- QUIESCENT_ENTRY_DONE (R577): the Ethernet and Itwin links go down. -/
def execQuiescentEntryDone (s : State) : Host.Outcome State Fault Refusal :=
  if s.dev.quiesce = 1 ∧ s.dev.base = .provision then
    let t := { s with dev := { s.dev with quiesce := 0, base := .quiescent } }
    let t := (List.range 16).foldl (fun t m => if (macGet t m).linkUp then linkChange t m false 0 else t) t
    done (noteMode s (itwLinkDown (itwLines t)) 0)
  else done s

/-- QUIESCENT_EXIT_DONE (R577). -/
def execQuiescentExitDone (s : State) : Host.Outcome State Fault Refusal :=
  if s.dev.quiesce = 2 ∧ s.dev.base = .quiescent then
    done (itwLines (noteMode s { s with dev := { s.dev with quiesce := 0, base := .provision } } 0))
  else done s

/-- DEVICE_MODE_QUERY (R605). -/
def execDeviceModeQuery (ch seq : Nat) (s : State) : Host.Outcome State Fault Refusal :=
  command s ch seq 0x0141 (fun _ =>
    answer s ch seq rcOk (toLe 1 (reportedMode s) ++ toLe 1 (baseCode s.dev.base) ++ toLe 1 (conditions s) ++ toLe 1 (hwWord s 0x012).toNat ++
      toLe 1 (if s.dev.base = .restricted then s.dev.restrictedReason else 0) ++ zeros 3 ++ toLe 8 s.dev.since.toNat ++
      toLe 4 (hwWord s 0x013).toNat))

/-- RETIREMENT_QUERY (R605). -/
def execRetirementQuery (ch seq : Nat) (s : State) : Host.Outcome State Fault Refusal :=
  command s ch seq 0x0143 (fun _ =>
    let w := fun (a : Nat) => (hwWord s a).toNat
    answer s ch seq rcOk (toLe 1 (w 0x020) ++ toLe 1 (hwField s 0x011 2 1) ++ toLe 1 (w 0x028) ++ zeros 1 ++
      toLe 4 (w 0x022) ++ toLe 4 (w 0x023) ++ toLe 4 (w 0x024) ++ toLe 4 (w 0x025) ++ toLe 4 (w 0x015) ++ toLe 4 (w 0x016) ++
      toLe 2 (w 0x026) ++ toLe 2 (w 0x027) ++ toLe 2 (w 0x027 / 65536)))

/-- BASIN_AREA_SET (R37, R605). -/
def execBasinAreaSet (ch seq : Nat) (s : State) : Host.Outcome State Fault Refusal :=
  command s ch seq 0x0144 (fun req =>
    let gib := byteAt req 0
    if gib = 0 ∨ 16 < gib then answer s ch seq rcBadParam []
    else if gib * 262144 - 196608 * hbmGoneCount s < pagesReserved s + pagesLossless s then answer s ch seq rcNoResource []
    else answer (hwSet s 0x005 (BitVec.ofNat 32 gib)) ch seq rcOk [])

end Sys2Proof.Machine
end

