-- ==== Sys2Proof/Machine/Manage.lean ====
section
/-! DEFINITION. The commands of class 0x01xx of the command interface: identity, event masks, echo, the manager role and the MCTP
settings (R548 to R552, R568). -/

namespace Sys2Proof.Machine

open Sys2Proof

/-- Code of a rail's state (R300). -/
def railCode : RailState → Nat
  | .inService => 0
  | .retiring => 1
  | .retired => 2
  | .restoring => 3

/-- Crypto cores in service (R336). -/
def coresUp (s : State) : Nat := ((List.range 24).filter (fun i => !s.cry.coresRetired.getLsbD i)).length

/-- Physical engines in a state. -/
def enginesIn (s : State) (x : EngState) : Nat := ((List.range 68).filter (fun e => decide (engState s e = x))).length

/-- The DEVICE_QUERY response (R550). -/
def deviceInfo (s : State) (ch : Nat) : Bytes :=
  let level := fun (kind bank : Nat) => if imgRunning s kind bank then imgLevel (bankGet s kind bank) else 0
  toLe 2 0x8640 ++ toLe 1 0xB1 ++ toLe 1 (b2n Config.grade) ++ toLe 1 (b2n Config.sample) ++ toLe 1 (reportedMode s) ++
    toLe 1 (holderCode s.role.holder + 4 * s.role.homeEp + 8 * b2n s.role.altEn + 16 * b2n (chanHolds s ch)) ++ zeros 1 ++
    toLe 8 Config.dieId.toNat ++ toLe 2 (level 0 s.fw.whBank) ++ toLe 2 (level 1 s.fw.cscBank) ++ versions s ++
    toLe 1 (s.fw.whBank + 2 * s.fw.cscBank) ++ toLe 1 (railCode s.twin.railA + 4 * railCode s.twin.railB) ++ toLe 1 (enginesIn s .inService) ++
    toLe 1 (enginesIn s .spare) ++ toLe 1 (coresUp s) ++ toLe 1 (gibNow s) ++ zeros 6 ++ toLe 8 (hbmRetired s)

/-- DEVICE_QUERY (R550). -/
def execDeviceQuery (ch seq : Nat) (s : State) : Host.Outcome State Fault Refusal :=
  command s ch seq 0x0100 (fun _ => answer s ch seq rcOk (deviceInfo s ch))

/-- EVENT_MASK_SET (R551). -/
def execEventMaskSet (ch seq : Nat) (s : State) : Host.Outcome State Fault Refusal :=
  command s ch seq 0x0102 (fun req =>
    let m := le req 0 4
    if m &&& 0xFFFFF001 ≠ 0 then answer s ch seq rcBadParam []
    else answer (chanMod s ch (fun c => { c with mask := BitVec.ofNat 32 m })) ch seq rcOk [])

/-- EVENT_MASK_READ (R551): DROPPED is cleared by the read. -/
def execEventMaskRead (ch seq : Nat) (s : State) : Host.Outcome State Fault Refusal :=
  command s ch seq 0x0103 (fun _ =>
    let c := chanGet s ch
    answer (chanMod s ch (fun c => { c with dropped := 0 })) ch seq rcOk
      (toLe 4 c.mask.toNat ++ toLe 1 c.evSeq.toNat ++ zeros 3 ++ toLe 4 c.dropped))

/-- ECHO (R551). -/
def execEcho (ch seq : Nat) (s : State) : Host.Outcome State Fault Refusal :=
  command s ch seq 0x0104 (fun req => answer s ch seq rcOk req)

/-- MGR_ROLE_QUERY (R552). -/
def execMgrRoleQuery (ch seq : Nat) (s : State) : Host.Outcome State Fault Refusal :=
  command s ch seq 0x0110 (fun _ =>
    let r := s.role
    answer s ch seq rcOk (toLe 1 (holderCode r.holder) ++ toLe 1 r.homeEp ++ toLe 1 (b2n r.altEn) ++ toLe 1 (b2n r.headless) ++
      toLe 4 r.changes.toNat ++ toLe 8 r.since.toNat))

/-- MGR_ROLE_CONFIG (R552): it takes effect at the next entry to PROVISION from BOOT. -/
def execMgrRoleConfig (ch seq : Nat) (s : State) : Host.Outcome State Fault Refusal :=
  command s ch seq 0x0111 (fun req =>
    let ep := byteAt req 0
    let alt := byteAt req 1
    if 1 < ep ∨ 1 < alt then answer s ch seq rcBadParam []
    else answer (hwSet s 0x003 (BitVec.ofNat 32 (ep + 2 * alt))) ch seq rcOk [])

/-- MGR_ROLE_TRANSFER (R552). -/
def execMgrRoleTransfer (ch seq : Nat) (s : State) : Host.Outcome State Fault Refusal :=
  command s ch seq 0x0112 (fun _ =>
    if s.role.holder = .home ∧ s.role.altEn ∧ ¬ (epGet s (1 - s.role.homeEp)).contained then
      answer (setHolder s .alternate 0) ch seq rcOk []
    else answer s ch seq rcNotPermitted [])

/-- MGR_ROLE_RECLAIM (R552, R571, R578). -/
def execMgrRoleReclaim (ch seq : Nat) (s : State) : Host.Outcome State Fault Refusal :=
  command s ch seq 0x0113 (fun _ =>
    let home := s.role.homeEp
    if chanSecure ch ∧ funcOfChan ch = some (home, 0) ∧ s.role.holder ≠ .home ∧ ¬ (epGet s home).contained then
      let t := setHolder s .home 1
      answer (noteMode s { t with role := { t.role with headless := false } } 3) ch seq rcOk []
    else answer s ch seq rcNotPermitted [])

/-- MCTP_CONFIG (R568): the endpoint restarts once the answer has been delivered. -/
def execMctpConfig (ch seq : Nat) (s : State) : Host.Outcome State Fault Refusal :=
  command s ch seq 0x0150 (fun req =>
    let b := byteAt req 0
    if 1 < b then answer s ch seq rcBadParam []
    else
      let s := hwSet s 0x004 (BitVec.ofNat 32 (b + 256 * (byteAt req 1 % 128) + 65536 * (byteAt req 2 % 2)))
      answer { s with mctp := { s.mctp with restartPending := some (ch, seq) } } ch seq rcOk [])

end Sys2Proof.Machine
end

