-- ==== Sys2Proof/Machine/Views.lean ====
section
/-! DEFINITION. What each register shows of the state that the model keeps in structured form: the whole word of every register that
the tables of the manual give and that is not merely stored (R95 to R639), by island and block. -/

namespace Sys2Proof.Machine

open Sys2Proof

/-- A word whose bit i is `f i`, for i below `n`. -/
def bitsOf (n : Nat) (f : Nat → Bool) : Nat := (List.range n).foldl (fun a i => a + b2n (f i) * 2 ^ i) 0

/-- Word 0 or 1 of a 64-bit value. -/
def half (v i : Nat) : Nat := v / 4294967296 ^ i % 4294967296

/-- The stored bits of a register under a mask: its sticky and writable fields. -/
def kept (s : State) (a m : Nat) : Nat := (reg s a).toNat &&& m

/-! Mailboxes (R459, R500, R523, R524). -/

/-- Registers of the host side of a channel, by offset in its block. -/
def viewMbxHost (s : State) (ch o : Nat) : Option Nat :=
  let c := chanGet s ch
  if o = 4 then some (b2n (hostFull c) + 2 * b2n c.reject + 4 * b2n c.crossHost)
  else if o = 8 then some (b2n (hostShown c))
  else if o = 0x10 then some (c.hostGen.toNat + 65536 * s.mbx.fwGen.toNat)
  else if o = 0x14 then some (c.vector + 65536 * b2n c.intEn)
  else none

/-- Registers of firmware's side of a channel (R523). -/
def viewMbxFw (s : State) (ch o : Nat) : Option Nat :=
  let c := chanGet s ch
  if o = 0 then
    some (match c.toFw with
      | [] => 0
      | m :: l => 1 + 2 * b2n (!l.isEmpty) + 4 * b2n (decide (m.senderGen ≠ c.hostGen)) + 8 * b2n (decide (m.receiverGen ≠ s.mbx.fwGen)))
  else if o = 0xC then some (b2n (fwFull s c) + 2 * b2n c.acked + 4 * b2n c.crossFw)
  else if o = 0x10 then some (s.mbx.fwGen.toNat + 65536 * c.hostGen.toNat)
  else none

/-- The 256 bytes of the oldest message of a direction; zeros when none is shown. -/
def shownBytes (ms : List Msg) : Bytes :=
  match ms with
  | [] => zeros 256
  | m :: _ => fit (msgBytes m) 256

/-- A word of the buffers of a channel's host side, at block offsets 0x100 and 0x200 (R457, R500). -/
def viewBufHost (s : State) (ch o : Nat) : Option Nat :=
  if 0x100 ≤ o ∧ o < 0x200 then some (le (fit (chanGet s ch).outBuf 256) (o - 0x100) 4)
  else if 0x200 ≤ o ∧ o < 0x300 then some (le (shownBytes (chanGet s ch).toHost) (o - 0x200) 4)
  else none

/-- A word of the buffers of a channel's firmware side. -/
def viewBufFw (s : State) (ch o : Nat) : Option Nat :=
  if 0x100 ≤ o ∧ o < 0x200 then some (le (fit (chanGet s ch).fwBuf 256) (o - 0x100) 4)
  else if 0x200 ≤ o ∧ o < 0x300 then some (le (shownBytes (chanGet s ch).toFw) (o - 0x200) 4)
  else none

/-! Host islands (R455, R459, R496). -/

/-- The bound slice of a function, 0xFFF when none. -/
def sliceShown (s : State) (ep f : Nat) : Nat := if (boundSlice s ep f).isSome then sliceOfFunc ep f else 0xFFF

/-- Halted queue pairs of a function, by local number. -/
def haltedQueues (s : State) (ep f : Nat) : List Nat :=
  (s.rings.qps.filter (fun q => decide (q.1 / 8192 = ep ∧ q.2.func = f ∧ q.2.state = .halted))).map (fun q => localQp s ep (q.1 % 8192))

/-- The host island's own registers (R455). -/
def viewHif (s : State) (ep o : Nat) : Option Nat :=
  let e := epGet s ep
  if o = 0 then some (0x8640 + 0xB1 * 65536 + 16777216 * ep)
  else if o = 4 then some (reportedMode s + 16 * b2n (decide (holderEp s = some ep)))
  else if o = 8 then some (linkStatus s ep)
  else if o = 0x14 then
    let f := regField s (r_HIF_FUNC_SEL ep) 10 0
    let g := fnGet s ep f
    some (g.gen.toNat + 65536 * b2n g.flrActive + 131072 * b2n g.inError + 262144 * regField s (r_HIF_VF_CTRL ep f) 0 0 +
      524288 * sliceShown s ep f)
  else if o = 0x24 then some (b2n e.intx)
  else if 0x1000 ≤ o ∧ o < 0x1800 then
    let w := wttGet s ep ((o - 0x1000) / 8)
    some (if o % 8 = 0 then w.1.toNat else w.2.toNat)
  else if o = 0x2000 then some (containStatus s ep)
  else none

/-- A ring's registers (R496). -/
def viewRing (s : State) (ep g o : Nat) : Option Nat :=
  let q := qpGet s ep g
  if o = 0 then
    some (qCode q + 4 * q.func + 8192 * q.txLog + 262144 * q.rxLog + 8388608 * q.cqLog + 268435456 * q.tc + 2147483648 * b2n q.prefix_)
  else if o = 4 then some q.txProd.toNat
  else if o = 8 then some q.txCons.toNat
  else if o = 0xC then some q.txCpl.toNat
  else if o = 0x10 then some q.rxProd.toNat
  else if o = 0x14 then some q.rxCons.toNat
  else if o = 0x18 then some q.cqProd.toNat
  else if o = 0x1C then some q.cqCons.toNat
  else if o = 0x20 then some (q.vector + 2048 * b2n q.armed + 4096 * q.nopostUs)
  else if o = 0x24 then some (q.errCause + 256 * q.errRing)
  else if o = 0x28 then some q.errIndex.toNat
  else none

/-- A VF page (R459). -/
def viewVf (s : State) (ep v o : Nat) : Option Nat :=
  let g := fnGet s ep v
  let b := boundSlice s ep v
  let get := fun (f : Slice → Nat) => match b with
    | some x => f x
    | none => 0
  if o = 0 then some (sliceShown s ep v + 4096 * (v - 1) + 4194304 * ep)
  else if o = 4 then some g.gen.toNat
  else if o = 8 then
    some (b2n (b.isSome && !g.flrActive) + 2 * b2n g.inError + 4 * b2n (!(haltedQueues s ep v).isEmpty) + 8 * b2n g.resumed)
  else if o = 0x10 then some (get (fun x => x.qpCount))
  else if o = 0x14 then some (get (fun x => x.vecCount))
  else if o = 0x18 then some (get (fun x => x.saBase))
  else if o = 0x1C then some (get (fun x => x.saCount))
  else if o = 0x20 then some (get (fun x => x.nvtBase))
  else if o = 0x24 then some (get (fun x => x.nvtCount))
  else if o = 0x28 then
    some (get (fun x => b2n (decide (0 < x.saCount)) + 2 * b2n (decide (0 < x.nvtCount)) + 4 * b2n x.twin + 8 * x.railMask))
  else if o = 0x2C then some (reportedMode s)
  else if o = 0x30 then some (half (stampNow s).toNat 0)
  else if o = 0x34 then some (half (stampNow s).toNat 1)
  else if o = 0x38 then some (bitsOf 16 (fun m => (macGet s m).linkUp))
  else if o = 0x1014 then
    some (match haltedQueues s ep v with
      | [] => 0
      | q :: l => l.foldl min q + 2147483648)
  else if 0x2000 ≤ o ∧ o < 0x2100 then viewMbxHost s (chanOfVf ep v) (o - 0x2000)
  else if 0x2100 ≤ o ∧ o < 0x2300 then viewBufHost s (chanOfVf ep v) (o - 0x2000)
  else none

/-- The MSI-X table of a function, and its pending bits at 0x8000 (R427, R431). -/
def viewMsix (s : State) (ep f o : Nat) : Option Nat :=
  let g := fnGet s ep f
  if o < 0x8000 then
    let v := o / 16
    let e := mapGetD g.msix v (0, 0)
    if vecCount s ep f ≤ v then some 0
    else if o % 16 = 0 then some (half e.1 0)
    else if o % 16 = 4 then some (half e.1 1)
    else if o % 16 = 8 then some e.2.toNat
    else some (b2n (!(g.vecUnmasked.contains v)))
  else if o < 0x8100 then some (bitsOf 32 (fun i => g.pba.contains (8 * (o - 0x8000) + i)))
  else none

/-! Pipeline island (R118, R159, R300, R336). -/

/-- Plane's and Rasp's registers. -/
def viewParse (cur : Nat) (ready pending : Bool) (tag0 tag1 : Word) (n0 n1 : Nat) (stored o : Nat) : Option Nat :=
  if o = 0 then some (cur + 2 * b2n ready + 4 * b2n pending + stored)
  else if o = 4 then some tag0.toNat
  else if o = 8 then some tag1.toNat
  else if o = 0x10 then some n0
  else if o = 0x14 then some n1
  else none

def viewJig (s : State) (o : Nat) : Option Nat :=
  if o = 0 then
    some (currentSlot s + 4 * b2n s.jig.commit.isSome + 8 * b2n (mirrorInForce s) + kept s r_JIG_STATUS 0x30)
  else if o = 4 then some (jigSlotGet s (currentSlot s)).version
  else if 0x10 ≤ o ∧ o < 0x20 then
    let x := jigSlotGet s ((o - 0x10) / 4)
    some (slotCode x.state + 65536 * (if x.state = .free then 0 else x.version))
  else if 0x20 ≤ o ∧ o < 0x30 then some (jigSlotGet s ((o - 0x20) / 4)).inflight
  else if 0x30 ≤ o ∧ o < 0x40 then some (jigSlotGet s ((o - 0x30) / 4)).tag.toNat
  else none

/-- The pipeline island: Plane, Rasp, Jig, the Twin block and crypto. -/
def viewPipe (s : State) (block o : Nat) : Option Nat :=
  if block = 1 then
    viewParse s.plane.cur s.plane.stageReady s.plane.commit.isSome s.plane.bank0.tag s.plane.bank1.tag s.plane.bank0.inflight
      s.plane.bank1.inflight (kept s r_PLN_STATUS 8) o
  else if block = 2 then
    viewParse s.rasp.cur s.rasp.stageReady s.rasp.commit.isSome s.rasp.bank0.tag s.rasp.bank1.tag s.rasp.bank0.pending
      s.rasp.bank1.pending (kept s r_RSP_STATUS 8) o
  else if block = 3 then viewJig s o
  else if block = 5 then
    if o = 0 then
      some (railCode s.twin.railA + 4 * railCode s.twin.railB + 16 * b2n s.twin.recoveryDone + kept s r_DVT_RAIL_STATUS 0x60)
    else none
  else if block = 6 then (if o = 0 then some (coresUp s + kept s r_CRY_STATUS 0x20) else none)
  else none

/-! Engine islands (R250, R251). -/

def engCode : EngState → Nat
  | .inService => 0
  | .spare => 1
  | .loading => 2
  | .retired => 3

def threadCode : ThreadState → Nat
  | .free => 0
  | .ready => 1
  | .waiting => 2
  | .suspended => 3
  | .faulted => 4

/-- CSC_THREAD_STATE of a slot (R251). -/
def threadWord (s : State) (q t : Nat) : Nat :=
  let x := thGet s q t
  let sup : Bool := decide (t = supervisorSlot s q)
  (if sup then b2n (clusterGet s q).supRun else threadCode x.state) + 8 * waitKind x + 64 * x.slice + 262144 * b2n x.reserved

def viewIsland (s : State) (rail o : Nat) : Option Nat :=
  if o = 0 then some (sparesOf s rail + kept s (r_CSC_ISL_STATUS rail) 0xC)
  else if o = 0x10 ∨ o = 0x14 ∨ o = 0x18 then
    let k := (o - 0x10) / 4
    some (((List.range 16).map (fun i => if 16 * k + i < 34 then engCode (engState s (34 * rail + 16 * k + i)) * 4 ^ i else 0)).sum)
  else none

def viewCluster (s : State) (q o : Nat) : Option Nat :=
  let c := clusterGet s q
  if o = 0 then
    some (kept s (r_CSC_CL_STATUS q) 1 + 2 * b2n c.supRun + 4 * threadsIn s q .free + 256 * resTotal s q)
  else if o = 4 ∨ o = 8 then
    some (((List.range 4).map (fun i => clusterEngine s q (4 * (o / 8) + i) % 64 * 256 ^ i)).sum)
  else if o = 0x10 then some (itemsIn s q .queued)
  else if o = 0x14 then some (itemsIn s q .held)
  else if o = 0x18 then some c.dldCount
  else if 0x100 ≤ o ∧ o < 0x200 then some (threadWord s q ((o - 0x100) / 4))
  else none

/-! Cistern island (R171, R177, R203). -/

/-- Valid entries: ways and stash. -/
def cstValid (s : State) : Nat := ((s.cst.ways ++ s.cst.stash).filter (fun p => bitAt (byteAt p.2 0) 2)).length

def viewCst (s : State) (o : Nat) : Option Nat :=
  if o < 0x10000 then
    if o = 0 then some (b2n s.cst.hitMode + kept s r_CST_STATUS 2)
    else if o = 4 then some (cstValid s)
    else if o = 8 then some s.cst.stash.length
    else none
  else if o = 0x10000 then some s.cst.queue.length
  else if o = 0x20000 then some (b2n s.sqr.walk.isSome + kept s r_SQR_STATUS 2)
  else if o = 0x20004 then some s.sqr.round.toNat
  else if 0x20200 ≤ o ∧ o < 0x20280 then some (bitsOf 32 (fun j => s.sqr.dirty.contains (8 * (o - 0x20200) + j)))
  else if 0x800000 ≤ o ∧ o < 0x810000 then some (le (mapGetD s.cst.stash ((o - 0x800000) / 64) (zeros 64)) (o % 64) 4)
  else if 0x1000000 ≤ o ∧ o < 0x1200000 then
    let b := (o - 0x1000000) / 2
    some ((mapGetD s.cst.epochs b 0).toNat + 65536 * (mapGetD s.cst.epochs (b + 1) 0).toNat)
  else none

/-! Dovetail points, NVMe/TCP and the Ethernet islands (R301, R336, R375 to R377). -/

/-- Dovetail point block of an island: 0 and 1 the host islands, 2 and 3 the transmit islands. -/
def viewDvp (s : State) (d o : Nat) : Option Nat :=
  if o = 0 then some ((dovGet s d).recs.length + kept s (r_DVT_PT_STATUS d) 0x20000) else none

/-- Valid contexts of an endpoint's slices. -/
def nvtValid (s : State) (ep : Nat) : Nat :=
  (s.nvt.ctxs.filter (fun c => s.slices.tab.any (fun x =>
    decide (x.2.ep = ep ∧ x.2.nvtBase ≤ c.1 ∧ c.1 < x.2.nvtBase + x.2.nvtCount)))).length

def viewMrx (s : State) (m o : Nat) : Option Nat :=
  let x := macGet s m
  if 0x80 ≤ o ∧ o < 0xA0 then some (mapGetD x.occ ((o - 0x80) / 4) 0)
  else if o = 0xA0 then
    some (b2n x.linkUp + 2 * b2n x.localFault + 4 * b2n x.remoteFault + 8 * bitsOf 8 (fun c => x.xoff.contains c) +
      2048 * bitsOf 8 (fun c => mapHas x.stopped c) + kept s (r_MAC_RX_STATUS m) 0x80000)
  else none

def viewMtx (s : State) (m o : Nat) : Option Nat :=
  let x := macGet s m
  if o = 4 then some (x.ctCurrent + kept s (r_MAC_CT_THRESH m) 0xFFFF0000)
  else if o = 8 then some x.clean
  else if o = 0x800 then
    some (b2n x.gateEn + kept s (r_SLC_CTRL m) 0xFF00 + 65536 * x.preemptMask.toNat + 16777216 * b2n x.preemptEn + 33554432 * b2n x.verifyDis +
      67108864 * x.addFrag)
  else if o = 0x804 then
    some (operGates s m + 256 * b2n x.hold + 512 * b2n x.commit.isSome + 1024 * x.verifyState + kept s (r_SLC_STATUS m) 0x1000 + 8192 * x.entry)
  else if o = 0x808 then some x.operCycle
  else if o = 0x80C then some x.operLen
  else if o = 0x810 then some (half x.operBaseS 0)
  else if o = 0x814 then some (half x.operBaseS 1)
  else if o = 0x818 then some x.operBaseNs
  else if o = 0x900 then
    some (stampWord x)
  else match x.stampLatch with
    | some e => if o = 0x904 then some e.slice else if o = 0x908 then some (half e.stamp.toNat 0) else
        if o = 0x90C then some (half e.stamp.toNat 1) else none
    | none => if o = 0x904 ∨ o = 0x908 ∨ o = 0x90C then some 0 else none

/-- Receive island of port `p`: the port block and its MACs. -/
def viewRxIsland (s : State) (p o : Nat) : Option Nat :=
  if o = 0 then some ((portGet s p).mode + 256 * (portGet s p).retired)
  else if o = 4 then some ((portGet s p).laneLock.toNat + 256 * bitsOf 8 (fun k => (macGet s (8 * p + k)).linkUp))
  else if 0x10000 ≤ o ∧ o < 0x18000 then viewMrx s (8 * p + (o - 0x10000) / 0x1000) (o % 0x1000)
  else none

/-- Transmit island of port `p`: its MACs, its Dovetail points and Weir. -/
def viewTxIsland (s : State) (p o : Nat) : Option Nat :=
  if 0x10000 ≤ o ∧ o < 0x18000 then viewMtx s (8 * p + (o - 0x10000) / 0x1000) (o % 0x1000)
  else if 0x80000 ≤ o ∧ o < 0x90000 then viewDvp s (2 + p) (o - 0x80000)
  else if o = 0x100000 then some ((s.weir.shapers.filter (fun x => decide (x.1 / 32768 = p) && x.2.rateEn)).length)
  else none

/-! Timebase island (R414 to R417). -/

def viewTime (s : State) (o : Nat) : Option Nat :=
  let t := s.time
  if o = 0 then some (b2n t.onFallback + 2 * b2n t.oscLost + 4 * b2n t.stepped)
  else if o = 4 then some t.stepCount.toNat
  else if o = 0x10 then some (half t.now.s.toNat 0)
  else if o = 0x14 then some (half t.latch.s.toNat 1)
  else if o = 0x18 then some t.latch.ns.toNat
  else if o = 0x1C then some (visibleFrac t.latch)
  else if o = 0x20 then some (match mapGet s.regs r_TIME_ADJ with
    | some v => v.toNat
    | none => half t.adj.toNat 0)
  else if o = 0x24 then some (half t.adj.toNat 1)
  else if o = 0x30 then some (half (unsigned 64 (aEff s)) 0)
  else if o = 0x34 then some (half (unsigned 64 (aEff s)) 1)
  else none

def viewPlb (s : State) (o : Nat) : Option Nat :=
  let p := s.plb
  if o = 4 then some (plbCode p.state + kept s r_PLB_STATUS 0x78 + 128 * p.run)
  else if 0x40 ≤ o ∧ o < 0x60 then
    let v := if o < 0x48 then p.integ else if o < 0x50 then p.thetaLast else if o < 0x58 then p.df.getD 0 else p.bias
    some (half (unsigned 64 v) (o % 8 / 4))
  else none

def viewTio (s : State) (n o : Nat) : Option Nat :=
  let x := tioGet s n
  if o = 0 then some (kept s (r_TIO_CFG n) 0xBF + 64 * b2n x.armed)
  else if o = 0x20 then
    some (capWord x)
  else if o = 0x24 ∨ o = 0x28 then
    some (match x.latch with
      | some e => half e.stamp.toNat ((o - 0x24) / 4)
      | none => 0)
  else none

def viewTimeIsland (s : State) (o : Nat) : Option Nat :=
  if o < 0x10000 then viewTime s o
  else if o < 0x20000 then viewPlb s (o - 0x10000)
  else if o < 0x20280 then viewTio s ((o - 0x20000) / 0x40) (o % 0x40)
  else if 0x30100 ≤ o ∧ o < 0x30300 ∧ o % 0x20 = 0 then
    let m := (o - 0x30100) / 0x20
    some (ptpCode (mapGetD s.ptp.ports m {}).state + ((hwWord s (0x100 + 4 * m)).toNat &&& 0xFFFFFF08))
  else none

/-! Wellhead island (R523, R524, R607, R639). -/

def viewWh (s : State) (o : Nat) : Option Nat :=
  if o = 0 then some (reportedMode s + 16 * baseCode s.dev.base + 256 * conditions s + 65536 * s.dev.restrictedReason)
  else if o = 0xC then
    some (hwField s 0x011 0 0 + 2 * spareCode s.fw.spare + 8 * hwField s 0x011 2 1 + kept s r_WH_PAIR 0x60)
  else if o = 0x18 then some (s.fw.whBank + 2 * s.fw.cscBank + 4 * hwField s 0x010 3 0)
  else if o = 0x1C then
    some (match s.fw.handover with
      | some h => 1 + 2 * h.step + 16 * h.cluster
      | none => 0)
  else if o = 0x20 then some (half s.fw.ckptStamp.toNat 0)
  else if o = 0x24 then some (half s.fw.ckptStamp.toNat 1)
  else none

/-- The value of a sensor: its last update, or a free value before the first; an unlisted sensor of R653 reads 0 (R635). -/
def sensorNow (s : State) (k : Nat) : Int :=
  if (28 ≤ k ∧ k ≤ 31) ∨ (44 ≤ k ∧ k ≤ 47) then 0
  else match mapGet s.gauge.sensors k with
    | some v => v
    | none => Config.sensor k 0

/-- The highest of the junction temperatures: the sensor and its value (R639). -/
def hottest (s : State) : Nat × Int :=
  (List.range 16).foldl (fun (a : Nat × Int) k => if a.2 < sensorNow s k then (k, sensorNow s k) else a) (0, sensorNow s 0)

def viewGau (s : State) (o : Nat) : Option Nat :=
  let g := s.gauge
  if o = 0 then some (b2n g.traceRun + 2 * g.traceMode + kept s r_GAU_TRACE_STATUS 4)
  else if o = 8 then some (half g.traceWritten.toNat 0)
  else if o = 0xC then some (half g.traceWritten.toNat 1)
  else if o = 0x24 then some g.nextSeq.toNat
  else if o = 0x30 then some (b2n g.snapReq.isSome)
  else if o = 0x34 then some (if g.sensors.isEmpty then 0 else unsigned 16 (hottest s).2)
  else none

def viewWellhead (s : State) (o : Nat) : Option Nat :=
  if o < 0x10000 then viewWh s o
  else if o = 0x100010 then some (half s.hw.writes.toNat 0)
  else if o = 0x100014 then some (half s.hw.writes.toNat 1)
  else if 0x200000 ≤ o ∧ o < 0x210000 then viewGau s (o - 0x200000)
  else if 0x300000 ≤ o ∧ o < 0x300104 then
    some (bitsOf 32 (fun j => !(chanGet s (8 * (o - 0x300000) + j)).toFw.isEmpty))
  else if 0x400000 ≤ o ∧ o < 0x400000 + 0x400 * 2057 then
    let ch := (o - 0x400000) / 0x400
    if o % 0x400 < 0x100 then viewMbxFw s ch (o % 0x400) else viewBufFw s ch (o % 0x400)
  else none

/-! All blocks. -/

def viewItw (s : State) (o : Nat) : Option Nat :=
  if o = 0 then some (itwStatusWord s)
  else if o = 4 then some (b2n s.itw.actReq + ((hwWord s 0x030).toNat &&& 2))
  else if o = 0x10 then some (half s.itw.partner.dieId.toNat 0)
  else if o = 0x14 then some (half s.itw.partner.dieId.toNat 1)
  else if o = 0x18 then some s.itw.partner.rank
  else none

def viewHostIsland (s : State) (ep o : Nat) : Option Nat :=
  if o < 0x20000 then viewHif s ep o
  else if o < 0x30000 then viewMsix s ep 0 (o - 0x20000)
  else if 0x30000 ≤ o ∧ o < 0x32000 then
    let ch := 4 * ep + 2 + (o - 0x30000) / 0x1000
    if o % 0x1000 < 0x100 then viewMbxHost s ch (o % 0x1000) else viewBufHost s ch (o % 0x1000)
  else if 0x80000 ≤ o ∧ o < 0x90000 then viewDvp s ep (o - 0x80000)
  else if o = 0x90000 then some (nvtValid s ep)
  else if 0x1000000 ≤ o ∧ o < 0x1080000 then viewRing s ep ((o - 0x1000000) / 0x40) (o % 0x40)
  else none

/-- The word that structured state gives the register at an address, sticky bits included; none where the register is only stored. -/
def view (s : State) (a : Nat) : Option Nat :=
  if a < 0x1300000000 then none
  else if a < 0x1338000000 then
    let n := (a - 0x1300000000) / 0x4000000
    let o := (a - 0x1300000000) % 0x4000000
    if n ≤ 1 then viewHostIsland s n o
    else if n ≤ 3 then viewRxIsland s (n - 2) o
    else if n ≤ 5 then viewTxIsland s (n - 4) o
    else if n = 6 then viewPipe s (o / 0x10000) (o % 0x10000)
    else if n ≤ 8 then
      if o < 0x10000 then viewIsland s (n - 7) o
      else if o < 0x50000 then viewCluster s (4 * (n - 7) + (o / 0x10000 - 1)) (o % 0x10000)
      else none
    else if n = 9 then viewCst s o
    else if n = 11 then viewWellhead s o
    else if n = 12 then viewTimeIsland s o
    else if n = 13 then viewItw s o
    else none
  else if a < 0x1000000000000 then none
  else if a < 0x2000000000000 then
    viewVf s ((a - 0x1000000000000) / 0x8000000) (a % 0x8000000 / 0x10000) (a % 0x10000)
  else if a < 0x4000000000000 then
    let ep := (a - 0x2000000000000) / 0x10000
    let ch := 4 * ep + a % 0x10000 / 0x1000
    if a % 0x1000 < 0x100 then viewMbxHost s ch (a % 0x1000) else viewBufHost s ch (a % 0x1000)
  else viewMsix s ((a - 0x4000000000000) / 0x8000000) (a % 0x8000000 / 0x10000) (a % 0x10000)

/-- Heartwood word of a register that is a view (R608). -/
def viewWord (h : RegHit) : Option Nat :=
  match h.desc.word with
  | some (w, strides) => some (w + ((strides.zip (h.block ++ h.index)).map (fun x => x.1 * x.2)).sum)
  | none => none

/-- The value a register holds now, WO bits reading 0 (R9); 0 where no register stands (R10, R458). -/
def regNow (s : State) (a : Nat) : Word :=
  match view s a with
  | some v => BitVec.ofNat 32 v
  | none =>
    match regFind a with
    | some h =>
      match viewWord h with
      | some w => BitVec.ofNat 32 ((hwWord s w).toNat &&& (h.desc.rwp ||| h.desc.ro))
      | none => BitVec.ofNat 32 ((reg s a).toNat &&& (4294967295 - h.desc.wo % 4294967296))
    | none => 0

end Sys2Proof.Machine
end

