-- ==== Sys2Proof/Machine/Access.lean ====
section
/-! DEFINITION. Accesses to registers, to Heartwood and to the internal address space: the effects of reads and writes by access type
(R9 to R13), atomic Heartwood pairs (R608 to R612), read latches (R619), the memory map (R30 to R32), and BAR0 windows (R428 to R430).

A master is a number (R667): 2,048 × endpoint + function for a host function; 4,096 + 64 × (4 × rail + cluster) + slot for an engine
thread; 4,608 firmware; 4,609 the Gauge side port; 4,610 + endpoint a DMA unit; 4,612 + pipeline an action unit. -/

namespace Sys2Proof.Machine

open Sys2Proof

def masterFw : Nat := 4608

/-- Island of a master, as a FABRIC_UNMAPPED entry names it (R631). -/
def masterIsland (m : Nat) : Nat :=
  if m < 4096 then m / 2048 else if m < 4608 then 7 + (m - 4096) / 256 else if m < 4610 then 11 else if m < 4612 then m - 4610 else 6

/-- The state that a meaning goes on to. -/
def outState (s : State) (o : Host.Outcome State Fault Refusal) : State :=
  match o with
  | .next t => t
  | _ => s

/-- The bits of the bytes that a 4-bit byte enable names. -/
def enableMask (be : Nat) : Nat := (List.range 4).foldl (fun a i => a + b2n (bitAt be i) * (255 * 256 ^ i)) 0

/-- `v` written over `old` in the enabled bytes. -/
def mergeWord (old v be : Nat) : Nat := (old &&& (4294967295 - enableMask be)) ||| (v &&& enableMask be)

/-! Heartwood (R608 to R612). -/

/-- Lower words of the atomic pairs (R610). -/
def pairLower (w : Nat) : Bool := [0x015, 0x080, 0x083, 0x085, 0x087, 0x089, 0x0D9].contains w

/-- A word takes a value; Plumb follows its mode. Word 0 is read-only (R614). -/
def hwPut (s : State) (w v : Nat) : State :=
  if w = 0 then s
  else
    let t := hwSet s w (BitVec.ofNat 32 v)
    if w = 0x082 then plbApplyMode t else t

/-- A master writes a word (R610): a lower word of a pair waits for its upper word. -/
def hwWrite (s : State) (master w v : Nat) : State :=
  let mine := fun (x : Nat × Nat × Word) (u : Nat) => decide (x.1 = master ∧ x.2.1 = u)
  let clear := fun (s : State) (u : Nat) => { s with hw := { s.hw with staged := s.hw.staged.filter (fun x => !mine x u) } }
  if 1023 < w then s
  else if pairLower w then
    let s := clear s w
    { s with hw := { s.hw with staged := s.hw.staged ++ [(master, w, BitVec.ofNat 32 v)] } }
  else if 0 < w ∧ pairLower (w - 1) then
    match s.hw.staged.find? (fun x => mine x (w - 1)) with
    | some x => hwPut (hwPut (clear s (w - 1)) (w - 1) x.2.2.toNat) w v
    | none => hwPut s w v
  else hwPut s w v

/-- A write at a view's address (R608): a value that the view ignores changes nothing. -/
def viewWrite (s : State) (master w mask v : Nat) : State :=
  let x := ((hwWord s w).toNat &&& (4294967295 - mask)) ||| (v &&& mask)
  if mask ≠ 0 ∧ hwAccepts w x then hwWrite s master w x else s

/-- HEARTWOOD_WRITE (R609 to R612). -/
def execHeartwoodWrite (master w : Nat) (value : Word) (s : State) : Host.Outcome State Fault Refusal :=
  if s.dev.base = .off ∨ s.dev.base = .held then done s else done (hwWrite s master w value.toNat)

/-! Writes with an effect of their own. -/

/-- A write into a channel's host outbound buffer, as one access (R506, R510). -/
def bufWrite (s : State) (ch off : Nat) (data : Bytes) : State :=
  if hostFull (chanGet s ch) then rejectPost s ch
  else chanMod s ch (fun c => { c with outBuf := splice (fit c.outBuf 256) off data })

/-- Writes to the registers of a channel's host side (R459, R500, R507, R510). `v` is the word with its disabled bytes 0, `be` the bytes. -/
def mbxHostWrite (s : State) (ch o be v : Nat) : State :=
  if o = 0 then (if bitAt v 0 then hostPost s ch (fit (chanGet s ch).outBuf 256) false else s)
  else if o = 4 then chanMod s ch (fun c => { c with reject := c.reject && !bitAt v 1, crossHost := c.crossHost && !bitAt v 2 })
  else if o = 0xC then (if bitAt v 0 then hostAck s ch else s)
  else if o = 0x14 then
    chanMod s ch (fun c =>
      let w := mergeWord (c.vector + 65536 * b2n c.intEn) v be
      { c with vector := bits w 10 0, intEn := bitAt w 16 })
  else if 0x100 ≤ o ∧ o < 0x200 then bufWrite s ch (o - 0x100) (toLe 4 (mergeWord (le (fit (chanGet s ch).outBuf 256) (o - 0x100) 4) v be))
  else s

/-- An access that the fabric answers with a bus error; the host never sees one (R430). -/
def busError (s : State) (master : Nat) : State := if master < 4096 then s else emit s (.fabricRead master none)

/-- Writes to the registers and buffers of firmware's side of a channel (R511, R523). -/
def mbxFwWrite (s : State) (master ch o be v : Nat) : State :=
  let c := chanGet s ch
  let full := bump (busError s master) r_MBX_CNT_BUS_ERR
  if o = 4 then (if bitAt v 0 then fwAck s ch else s)
  else if o = 8 then
    if fwFull s c then full
    else if !bitAt v 0 then s
    else
      let b := fit c.fwBuf 256
      if 248 < byteAt b 2 then bump s r_MBX_CNT_BAD_LEN
      else fwPostMsg s ch (le b 0 2) (byteAt b 3) (slice b 8 (byteAt b 2)) false
  else if o = 0xC then chanSet s ch { c with acked := c.acked && !bitAt v 1, crossFw := c.crossFw && !bitAt v 2 }
  else if 0x100 ≤ o ∧ o < 0x200 then
    if fwFull s c then full
    else
      let b := fit c.fwBuf 256
      chanSet s ch { c with fwBuf := splice b (o - 0x100) (toLe 4 (mergeWord (le b (o - 0x100) 4) v be)) }
  else s

/-- An MSI-X table entry of a function (R431). -/
def msixWrite (s : State) (ep f o be v : Nat) : State :=
  let n := o / 16
  if 0x8000 ≤ o ∨ vecCount s ep f ≤ n then s
  else fnMod s ep f (fun g =>
    let e := mapGetD g.msix n (0, 0)
    if o % 16 = 0 then { g with msix := mapSet g.msix n (e.1 / 4294967296 * 4294967296 + mergeWord (half e.1 0) v be, e.2) }
    else if o % 16 = 4 then { g with msix := mapSet g.msix n (half e.1 0 + 4294967296 * mergeWord (half e.1 1) v be, e.2) }
    else if o % 16 = 8 then { g with msix := mapSet g.msix n (e.1, BitVec.ofNat 32 (mergeWord e.2.toNat v be)) }
    else if !bitAt be 0 then g
    else
      let l := g.vecUnmasked.filter (fun x => x ≠ n)
      { g with vecUnmasked := if bitAt v 0 then l else l ++ [n] })

/-- A doorbell of a function, by its offset in the page's doorbell group (R459, R497). -/
def doorbellWrite (s : State) (ep f o : Nat) (v : Word) (full : Bool) : State :=
  outState s (if o = 0 then execHifVfDbTx ep f v full s
    else if o = 4 then execHifVfDbRx ep f v full s
    else if o = 8 then execHifVfDbCq ep f v full s
    else if o = 0xC then execHifVfDbChain ep f v full s
    else if o = 0x10 then execHifVfItr ep f v full s
    else done s)

/-- A mailbox write of a VF that has no slice is discarded and counted (R425). -/
def mbxPageWrite (s : State) (ch o be v : Nat) : State := if chanUnbound s ch then unboundWrite s ch else mbxHostWrite s ch o be v

/-- Endpoint whose PF0 a master writes as, for a release of containment; 2 for a master that is no PF0 (R450). -/
def releaseWriter (master : Nat) : Nat := if master = 0 then 0 else if master = 2048 then 1 else 2

/-- Writes to a host island that have an effect of their own. -/
def hostIslandWrite (s : State) (master ep o be v : Nat) : Option State :=
  if o = 0x28 then some (ltrWrite s ep (BitVec.ofNat 32 (mergeWord (reg s (r_HIF_LTR ep)).toNat v be)))
  else if o = 0x2004 then some (if bitAt v 0 then containRelease s (releaseWriter master) ep (bits v 1 1) else s)
  else if 0x20000 ≤ o ∧ o < 0x30000 then some (msixWrite s ep 0 (o - 0x20000) be v)
  else if 0x30000 ≤ o ∧ o < 0x32000 then some (mbxHostWrite s (4 * ep + 2 + (o - 0x30000) / 0x1000) (o % 0x1000) be v)
  else if 0x38000 ≤ o ∧ o < 0x38010 then some (doorbellWrite s ep 0 (o - 0x38000) (BitVec.ofNat 32 v) (decide (be = 15)))
  else none

/-- Writes to a VF page that have an effect of their own. -/
def vfPageWrite (s : State) (ep f o be v : Nat) : Option State :=
  if o = 8 then some (if bitAt v 3 then fnMod s ep f (fun g => { g with resumed := false }) else s)
  else if 0x1000 ≤ o ∧ o < 0x1014 then some (doorbellWrite s ep f (o - 0x1000) (BitVec.ofNat 32 v) (decide (be = 15)))
  else if 0x2000 ≤ o ∧ o < 0x2300 then some (mbxPageWrite s (chanOfVf ep f) (o - 0x2000) be v)
  else none

/-- Writes to the stash and to the epochs (R161, R171). -/
def cisternWrite (s : State) (o be v : Nat) : Option State :=
  if 0x800000 ≤ o ∧ o < 0x810000 then
    let i := (o - 0x800000) / 64
    let e := mapGetD s.cst.stash i (zeros 64)
    let e := splice e (o % 64) (toLe 4 (mergeWord (le e (o % 64) 4) v be))
    some { s with cst := { s.cst with stash := if e = zeros 64 then mapErase s.cst.stash i else mapSet s.cst.stash i e } }
  else if 0x1000000 ≤ o ∧ o < 0x1200000 then
    let b := (o - 0x1000000) / 2
    let w := mergeWord ((mapGetD s.cst.epochs b 0).toNat + 65536 * (mapGetD s.cst.epochs (b + 1) 0).toNat) v be
    some { s with cst := { s.cst with epochs := mapSet (mapSet s.cst.epochs b (BitVec.ofNat 16 w)) (b + 1) (BitVec.ofNat 16 (w / 65536)) } }
  else none

/-- Writes to the timebase island that have an effect of their own (R380, R400, R407, R414). -/
def timeWrite (s : State) (o be v : Nat) : Option State :=
  if o = 0 then some { s with time := { s.time with oscLost := s.time.oscLost && !bitAt v 1, stepped := s.time.stepped && !bitAt v 2 } }
  else if o = 0x20 then
    some (if s.plb.state = .manual then setReg s r_TIME_ADJ (BitVec.ofNat 32 (mergeWord (regNow s r_TIME_ADJ).toNat v be)) else s)
  else if o = 0x24 then
    some (if s.plb.state = .manual then
      setAdj s (signed 64 ((regNow s r_TIME_ADJ).toNat + 4294967296 * mergeWord (half s.time.adj.toNat 1) v be)) else s)
  else if o = 0x1006C then some (hostSample s (BitVec.ofNat 32 (mergeWord (reg s (r_PLB_HOST_D + 4)).toNat v be)))
  else none

/-- Stores the written bits of a register by type (R9): RW and WO bits take the value, RW1C bits clear where it is 1. -/
def regStore (s : State) (a : Nat) (d : RegDesc) (be v : Nat) : State :=
  let old := (reg s a).toNat
  let m := enableMask be
  let wr := m &&& (d.rw ||| d.wo)
  let clr := v &&& m &&& d.w1c
  let new := ((old &&& (4294967295 - wr)) ||| (v &&& wr)) &&& (4294967295 - clr)
  if new = old then s else setReg s a (BitVec.ofNat 32 new)

/-- Writes that a register refuses or that act besides their storage. -/
def regAfter (s : State) (a be v : Nat) (d : RegDesc) : State :=
  let t := regStore s a d be v
  let n := (reg t a).toNat
  let in_ := fun (x : Nat) => decide (64 ≤ x ∧ x ≤ 16000)
  let mac := if a < 0x1310000000 then 8 * ((a - 0x1308000000) / 0x4000000) + a % 0x4000000 / 0x1000 % 16 else
    8 * ((a - 0x1310000000) / 0x4000000) + a % 0x4000000 / 0x1000 % 16
  if a = r_JIG_DRAIN_LIMIT then (if n = 0 then s else t)
  else if 0x1308010000 ≤ a ∧ a < 0x1310000000 ∧ a = r_MAC_MAX_FRAME mac then (if in_ n then t else s)
  else if 0x1310010000 ≤ a ∧ a < 0x1318000000 ∧ a = r_MAC_CT_THRESH mac then (if in_ (n / 65536) then t else s)
  else if 0x1318050200 ≤ a ∧ a < 0x1318050280 ∧ a % 16 = 4 then
    let old := (reg s a).toNat
    setReg s a (BitVec.ofNat 32 ((if n % 65536 = 0 then old % 65536 else n % 65536) +
      65536 * (if n / 65536 = 0 then old / 65536 else n / 65536)))
  else if 0x1330020000 ≤ a ∧ a < 0x1330020280 ∧ a % 0x40 = 0 then
    (if bitAt v 6 then outState t (execTioArm ((a - 0x1330020000) / 0x40) t) else t)
  else if a = r_GAU_TRACE_STATUS then (if bitAt v 2 then { t with gauge := { t.gauge with traceFull := false } } else t)
  else if 0x1000000000000 ≤ a ∧ a < 0x2000000000000 ∧ a % 0x10000 = 0xC ∧ bitAt v 31 then
    fnMod t ((a - 0x1000000000000) / 0x8000000) (a % 0x8000000 / 0x10000) (fun g => { g with errValid := false })
  else if a = r_ITW_CTRL then (if bitAt be 0 then setActReq s (bitAt v 0) else s)
  else t

/-- The write of an effect of its own, by block; none for a register that is only stored. -/
def regHook (s : State) (master a be v : Nat) : Option State :=
  if 0x1300000000 ≤ a ∧ a < 0x1338000000 then
    let n := (a - 0x1300000000) / 0x4000000
    let o := (a - 0x1300000000) % 0x4000000
    if n ≤ 1 then hostIslandWrite s master n o be v
    else if n = 9 then cisternWrite s o be v
    else if n = 11 ∧ 0x400000 ≤ o ∧ o < 0x400000 + 0x400 * 2057 then
      some (mbxFwWrite s master ((o - 0x400000) / 0x400) (o % 0x400) be v)
    else if n = 12 then timeWrite s o be v
    else none
  else if 0x1000000000000 ≤ a ∧ a < 0x2000000000000 then
    vfPageWrite s ((a - 0x1000000000000) / 0x8000000) (a % 0x8000000 / 0x10000) (a % 0x10000) be v
  else if 0x2000000000000 ≤ a ∧ a < 0x4000000000000 then
    some (mbxHostWrite s (4 * ((a - 0x2000000000000) / 0x10000) + a % 0x10000 / 0x1000) (a % 0x1000) be v)
  else if 0x4000000000000 ≤ a then
    some (msixWrite s ((a - 0x4000000000000) / 0x8000000) (a % 0x8000000 / 0x10000) (a % 0x10000) be v)
  else none

/-- A host wrote a WO register, doorbell or RW1C register without all four byte enables (R452). -/
def partialRefused (master be : Nat) (a : Nat) : Bool :=
  decide (master < 4096 ∧ be ≠ 15) && (match regFind a with
    | some h => decide (h.desc.wo ≠ 0 ∨ h.desc.w1c ≠ 0)
    | none => false)

/-- A write to a register by a master (R9, R10, R31): `be` names the bytes it carries. -/
def regWrite (s : State) (master a be : Nat) (value : Word) : State :=
  let v := value.toNat &&& enableMask be
  if partialRefused master be a then bump s (r_HIF_CNT_DB_BAD (master / 2048))
  else match regHook s master a be v with
    | some t => t
    | none =>
      match regFind a with
      | none => s
      | some h =>
        let s := match viewWord h with
          | some w => viewWrite s master w (h.desc.rwp &&& enableMask be) v
          | none => s
        if h.desc.rw ||| h.desc.wo ||| h.desc.w1c ||| h.desc.w1s = 0 then s else regAfter s a be v h.desc

/-! Reads (R9, R13, R58, R60, R619). -/

/-- Island whose latches serve a register. -/
def latchIsland (a : Nat) : Nat :=
  if a < 0x1000000000000 then (a - 0x1300000000) / 0x4000000 else (a - 0x1000000000000) / 0x8000000 % 2

def latchHit (master island : Nat) (l : ReadLatch) : Bool := decide (l.master = master ∧ l.island = island)

/-- What a read changes beside the latches: RC bits clear, a pop register pops, TIME_NOW_S_LO latches the time value. -/
def readEffect (s : State) (a : Nat) (h : RegHit) : State :=
  if 0x1330020000 ≤ a ∧ a < 0x1330020280 ∧ a % 0x40 = 0x20 then capPop s ((a - 0x1330020000) / 0x40)
  else if 0x1310010000 ≤ a ∧ a < 0x1318000000 ∧ a % 0x1000 = 0x900 then
    stampPop s (8 * ((a - 0x1310000000) / 0x4000000) + a % 0x4000000 / 0x1000 % 16)
  else if a = r_TIME_NOW_S then { s with time := { s.time with latch := s.time.now } }
  else if (reg s a).toNat &&& h.desc.rc = 0 then s
  else setReg s a (BitVec.ofNat 32 ((reg s a).toNat &&& (4294967295 - h.desc.rc)))

/-- A master reads a register: its value, and the state after. -/
def regRead (s : State) (master a : Nat) : Word × State :=
  let i := latchIsland a
  match s.latches.find? (fun l => latchHit master i l && decide (l.addr = a)) with
  | some l => (l.value, { s with latches := s.latches.filter (fun l => !latchHit master i l) })
  | none =>
    match regFind a with
    | none => (regNow s a, s)
    | some h =>
      let t := readEffect s a h
      (regNow s a,
        if h.desc.lower then
          { t with latches := t.latches.filter (fun l => !latchHit master i l) ++
                                [{ master := master, island := i, addr := a + 4, value := regNow t (a + 4) }] }
        else t)

/-- A read with its answer to the master. -/
def regReadOut (s : State) (master a : Nat) : State := emit (regRead s master a).2 (.regRead master (regRead s master a).1)

/-! What a host function reaches of its own pages (R427, R446, R451, R452). -/

/-- The function whose BAR an address outside the internal space lies in: VF pages, secure windows, MSI-X tables. -/
def pageFunc (a : Nat) : Nat × Nat :=
  if a < 0x2000000000000 then ((a - 0x1000000000000) / 0x8000000, a % 0x8000000 / 0x10000)
  else if a < 0x4000000000000 then ((a - 0x2000000000000) / 0x10000, 0)
  else ((a - 0x4000000000000) / 0x8000000, a % 0x8000000 / 0x10000)

/-- How a host request to a function is answered. -/
inductive HostGate where
  | open_ | flr | unsupported | silent
  deriving DecidableEq, Repr

def hostGate (s : State) (ep f : Nat) : HostGate :=
  if 1 < ep ∨ ¬ hostOpen s ∨ ¬ (epGet s ep).dlUp then .silent
  else if ¬ fnEnabled s ep f ∨ (fnGet s ep f).d3hot then .unsupported
  else if (fnGet s ep f).flrActive then .flr
  else .open_

/-- An Unsupported Request, logged and counted (R452). -/
def unsupported (s : State) (ep f : Nat) : State := bump (aerLog s ep f aerUnsupported) (r_HIF_CNT_UR ep)

/-- The gate of a master on a register: none but host pages have one. -/
def regGate (s : State) (master a : Nat) : HostGate :=
  if a < 0x1000000000000 then (if s.dev.base = .off ∨ s.dev.base = .held then .silent else .open_)
  else
    let p := pageFunc a
    if master ≠ 2048 * p.1 + p.2 then .silent else hostGate s p.1 p.2

/-- A gated read of a register. -/
def gatedRead (s : State) (master a : Nat) : State :=
  match regGate s master a with
  | .open_ => regReadOut s master a
  | .flr => emit s (.regRead master 0xFFFFFFFF#32)
  | .unsupported => emit (unsupported s (master / 2048) (master % 2048)) (.completion (master / 2048) (master % 2048) none)
  | .silent => s

/-- REGISTER_WRITE (R9 to R12, R31, R61, R608). -/
def execRegisterWrite (master a be : Nat) (value : Word) (s : State) : Host.Outcome State Fault Refusal :=
  match regGate s master a with
  | .open_ => done (regWrite s master (a / 4 * 4) (be % 16) value)
  | .unsupported => done (unsupported s (master / 2048) (master % 2048))
  | .flr => done s
  | .silent => done s

/-- RC_REGISTER_READ (R13, R58, R60). -/
def execRcRegisterRead (master a : Nat) (s : State) : Host.Outcome State Fault Refusal := done (gatedRead s master (a / 4 * 4))

/-- COUNTER_LO_READ (R619). -/
def execCounterLoRead (master a : Nat) (s : State) : Host.Outcome State Fault Refusal := done (gatedRead s master (a / 4 * 4))

/-- TIME_NOW_S_LO_READ (R414, R619): the whole time value is latched. -/
def execTimeNowSLoRead (master : Nat) (s : State) : Host.Outcome State Fault Refusal := done (gatedRead s master r_TIME_NOW_S)

/-! The internal address space (R30 to R32). -/

/-- A mapped internal address (R30). -/
def mapped (a : Nat) : Bool :=
  decide (a < 0xC00000000) || (decide (0x1000000000 ≤ a) && decide (a < 0x1010000000)) ||
  (decide (0x1100000000 ≤ a) && decide (a < 0x1102000000)) || (decide (0x1200000000 ≤ a) && decide (a < 0x1201100000)) ||
  (decide (0x1300000000 ≤ a) && decide (a < 0x1338000000)) || (decide (0x1400000000 ≤ a) && decide (a < 0x1400001000))

/-- First address of the trace region, at the top of HBM (R627). -/
def traceBase (s : State) : Nat := 0xC00000000 - s.gauge.traceSize * 0x10000000

/-- Trace record and offset that hold an address. -/
def traceAt (s : State) (a : Nat) : Option (Nat × Nat) :=
  if traceBase s ≤ a ∧ a < 0xC00000000 then some ((a - traceBase s) / 32, (a - traceBase s) % 32) else none

/-- A word of HBM, of the Basin head SRAM or of an engine's local memory. -/
def memWord (s : State) (a : Nat) : Nat :=
  match traceAt s a with
  | some (n, o) => le (mapGetD s.gauge.trace n (zeros 32)) o 4
  | none => leVal (memReadN s.mem a 4)

def memPut (s : State) (a be v : Nat) : State :=
  match traceAt s a with
  | some (n, o) =>
    let r := mapGetD s.gauge.trace n (zeros 32)
    { s with gauge := { s.gauge with trace := mapSet s.gauge.trace n (splice r o (toLe 4 (mergeWord (le r o 4) v be))) } }
  | none => { s with mem := memWriteN s.mem a (toLe 4 (mergeWord (memWord s a) v be)) }

/-- A word of Cistern SRAM (R161). -/
def wayWord (s : State) (a : Nat) : Nat := le (mapGetD s.cst.ways ((a - 0x1000000000) / 64) (zeros 64)) (a % 64) 4

def wayPut (s : State) (a be v : Nat) : State :=
  let i := (a - 0x1000000000) / 64
  let e := mapGetD s.cst.ways i (zeros 64)
  let e := splice e (a % 64) (toLe 4 (mergeWord (le e (a % 64) 4) v be))
  { s with cst := { s.cst with ways := if e = zeros 64 then mapErase s.cst.ways i else mapSet s.cst.ways i e } }

/-- The word at a mapped address, a multiple of 4, as it stands: no read effect. -/
def peekWord (s : State) (a : Nat) : Nat :=
  if 0x1400000000 ≤ a then (hwWord s ((a - 0x1400000000) / 4)).toNat
  else if 0x1300000000 ≤ a then (regNow s a).toNat
  else if 0x1000000000 ≤ a ∧ a < 0x1010000000 then wayWord s a
  else memWord s a

/-- A master reads the word at a mapped address. -/
def busRead (s : State) (master a : Nat) : Nat × State :=
  if 0x1300000000 ≤ a ∧ a < 0x1338000000 then ((regRead s master a).1.toNat, (regRead s master a).2) else (peekWord s a, s)

/-- A master writes bytes of the word at a mapped address. -/
def busWrite (s : State) (master a be v : Nat) : State :=
  if 0x1400000000 ≤ a then
    let w := (a - 0x1400000000) / 4
    hwWrite s master w (mergeWord (hwWord s w).toNat v be)
  else if 0x1300000000 ≤ a then regWrite s master a be (BitVec.ofNat 32 v)
  else if 0x1000000000 ≤ a ∧ a < 0x1010000000 then wayPut s a be v
  else memPut s a be v

/-- Words that an access of `len` bytes at `a` touches. -/
def wordsOf (a len : Nat) : Nat := (a + len - 1) / 4 + 1 - a / 4

def busReadN (s : State) (master a : Nat) : Nat → Bytes × State
  | 0 => ([], s)
  | n + 1 =>
    let x := busRead s master a
    let r := busReadN x.2 master (a + 4) n
    (toLe 4 x.1 ++ r.1, r.2)

/-- Byte enables of the word at `w` for an access of bytes `a` to `a + len - 1`. -/
def enablesAt (w a len : Nat) : Nat := (List.range 4).foldl (fun e i => e + b2n (decide (a ≤ w + i ∧ w + i < a + len)) * 2 ^ i) 0

def busWriteN (s : State) (master a len w : Nat) : Nat → Bytes → State
  | 0, _ => s
  | n + 1, b => busWriteN (busWrite s master w (enablesAt w a len) (le b 0 4)) master a len (w + 4) n (b.drop 4)

/-- Every address of an access is mapped. -/
def mappedAll (a len : Nat) : Bool := mapped a && mapped (a + len - 1)

/-- A mapped read of `len` bytes. -/
def accessRead (s : State) (master a len : Nat) : Bytes × State :=
  let r := busReadN s master (a / 4 * 4) (wordsOf a len)
  (slice r.1 (a % 4) len, r.2)

/-- A mapped write. -/
def accessWrite (s : State) (master a : Nat) (data : Bytes) : State :=
  busWriteN s master a data.length (a / 4 * 4) (wordsOf a data.length) (zeros (a % 4) ++ data)

/-- A master may act: the thread runs, or the island of another master does. -/
def masterRuns (s : State) (master : Nat) : Bool :=
  !(s.dev.base = .off || s.dev.base = .held) &&
    (decide (master < 4096 ∨ 4608 ≤ master) || threadRuns s ((master - 4096) / 64) ((master - 4096) % 64))

/-- FABRIC_ACCESS (R31, R32, R211): a read with no data, a write with them. -/
def execFabricAccess (master a len : Nat) (data : Option Bytes) (s : State) : Host.Outcome State Fault Refusal :=
  let n := match data with
    | some b => b.length
    | none => len
  if n = 0 ∨ ¬ masterRuns s master then done s
  else match data with
    | none =>
      if mappedAll a n then
        let r := accessRead s master a n
        done (emit r.2 (.fabricRead master (some r.1)))
      else
        let s := emit s (.fabricRead master none)
        done (if 4096 ≤ master ∧ master < 4608 then windowFault s ((master - 4096) / 64) ((master - 4096) % 64) 3 a else s)
    | some b =>
      if mappedAll a n then done (accessWrite s master a b)
      else done (errlog s 0x0101 (masterIsland master) 0xFFFF a (toLe 1 (masterIsland master)))

/-! BAR0 windows (R428 to R430, R452). -/

/-- An access that no window grants, or that reaches no mapped address (R430). -/
def windowError (s : State) (ep off : Nat) (write : Bool) : State :=
  capture (bump s (r_HIF_CNT_WIN_ERR ep)) (r_HIF_WIN_ERR_ADDR ep) (off + 67108864 * b2n write)

/-- Channel and buffer offset of an address in the outbound buffer of a non-secure PF0 channel (R498, R500). -/
def hostBuffer (a : Nat) : Option (Nat × Nat) :=
  let o := a % 0x4000000
  if 0x1300000000 ≤ a ∧ a < 0x1308000000 ∧ 0x30000 ≤ o ∧ o < 0x32000 ∧ 0x100 ≤ o % 0x1000 ∧ o % 0x1000 < 0x200 then
    some (4 * ((a - 0x1300000000) / 0x4000000) + 2 + (o - 0x30000) / 0x1000, o % 0x1000 - 0x100)
  else none

/-- BAR0_ACCESS (R428 to R430, R452): PF0 of an endpoint reads `len` bytes at a BAR0 offset, or writes data there. -/
def execBar0Access (ep off len : Nat) (data : Option Bytes) (s : State) : Host.Outcome State Fault Refusal :=
  let n := match data with
    | some b => b.length
    | none => len
  let w := wttGet s ep (off / 0x40000)
  let a := w.1.toNat / 262144 * 262144 + 4294967296 * w.2.toNat + off % 0x40000
  if n = 0 ∨ 0x4000000 < off + n then done s
  else match hostGate s ep 0, data with
    | .silent, _ => done s
    | .unsupported, none => done (emit (unsupported s ep 0) (.completion ep 0 none))
    | .unsupported, some _ => done (unsupported s ep 0)
    | .flr, none => done (emit s (.completion ep 0 (some (List.replicate n 0xFF))))
    | .flr, some _ => done s
    | .open_, none =>
      if 64 < n then done (emit (unsupported s ep 0) (.completion ep 0 none))
      else if bitAt w.1.toNat 0 && bitAt w.1.toNat 1 && mappedAll a n then
        let r := accessRead s (2048 * ep) a n
        done (emit r.2 (.completion ep 0 (some r.1)))
      else done (emit (windowError s ep off false) (.completion ep 0 (some (List.replicate n 0xFF))))
    | .open_, some b =>
      if bitAt w.1.toNat 0 && bitAt w.1.toNat 2 && mappedAll a n then
        match hostBuffer a with
        | some (ch, o) => done (if o + n ≤ 256 then bufWrite s ch o b else s)
        | none => done (accessWrite s (2048 * ep) a b)
      else done (windowError s ep off true)

end Sys2Proof.Machine
end

