-- ==== Sys2Proof/Machine/Gauge.lean ====
section
/-! DEFINITION. Heartwood commands (R617, R618, R637) and Gauge: counters and snapshots (R620 to R623), trace commands (R626, R627), the
error log (R629 to R633, R668, R669), sensors and thermal reports (R634, R635), and development reads (R636). -/

namespace Sys2Proof.Machine

open Sys2Proof

/-! Heartwood by command. -/

/-- HWD_READ (R637). -/
def execHwdRead (ch seq : Nat) (s : State) : Host.Outcome State Fault Refusal :=
  command s ch seq 0x0130 (fun req =>
    let first := le req 0 2
    let n := le req 2 2
    if n = 0 ∨ 60 < n ∨ 1024 < first + n then answer s ch seq rcBadParam []
    else answer s ch seq rcOk (slice req 0 4 ++ (List.range n).flatMap (fun i => toLe 4 (hwWord s (first + i)).toNat)))

/-- A word that HWD_WRITE refuses (R617). -/
def hwGuarded (w : Nat) : Bool :=
  decide (w = 0 ∨ w = 5) || (decide (0x010 ≤ w) && decide (w ≤ 0x02F)) || (decide (0x180 ≤ w) && decide (w ≤ 0x23F))

/-- The value would be ignored by the word's view, or is not zero in a word that the map does not list (R614, R617). -/
def hwIgnored (w v : Nat) : Bool := !hwAccepts w v || (decide (hwMask w = 0) && decide (v ≠ 0))

/-- HWD_WRITE (R617, R637). -/
def execHwdWrite (ch seq : Nat) (s : State) : Host.Outcome State Fault Refusal :=
  command s ch seq 0x0131 (fun req =>
    let first := le req 0 2
    let n := le req 2 2
    let val := fun (i : Nat) => le req (8 + 4 * i) 4
    if n = 0 ∨ 56 < n ∨ 1024 < first + n then answer s ch seq rcBadParam []
    else if (List.range n).any (fun i => hwGuarded (first + i)) then answer s ch seq rcNotPermitted []
    else if (List.range n).any (fun i => hwIgnored (first + i) (val i)) then answer s ch seq rcBadParam []
    else
      let s := hwJournal s first ((List.range n).map (fun i => BitVec.ofNat 32 (val i)))
      answer (if first ≤ 0x082 ∧ 0x082 < first + n then plbApplyMode s else s) ch seq rcOk [])

/-! Counters (R620, R621). -/

/-- Address of the counter that an ID names; none when it names no counter (R620). -/
def counterAddr (id : Nat) : Option Nat :=
  let a := 0x1300000000 + id / 268435456 * 0x4000000 + id % 67108864 / 4 * 4
  if 13 < id / 268435456 ∨ bits id 27 26 ≠ 0 then none
  else match regFind a with
    | some h =>
      if bitAt id 1 then (if h.desc.lower ∧ h.desc.ro = 0xFFFFFFFF ∧ ¬ bitAt id 0 then some a else none)
      else if bitAt id 0 ∧ h.desc.rc = 0xFFFFFFFF then some a else none
    | none => none

/-- A counter's value, 64-bit when WIDE. -/
def counterNow (s : State) (id a : Nat) : Nat := (regNow s a).toNat + (if bitAt id 1 then 4294967296 * (regNow s (a + 4)).toNat else 0)

/-- Clears the RC counter that an ID names (R13, R58). -/
def counterClear (s : State) (id a : Nat) : State := if bitAt id 0 then setReg s a 0 else s

/-- GAU_COUNTER_READ (R621). -/
def execGauCounterRead (ch seq : Nat) (s : State) : Host.Outcome State Fault Refusal :=
  command s ch seq 0x0A02 (fun req =>
    let clear := bitAt (byteAt req 0) 0
    let n := byteAt req 1
    let ids := (List.range n).map (fun i => le req (4 + 4 * i) 4)
    if clear && !chanHolds s ch then answer s ch seq rcNotPermitted []
    else if n = 0 ∨ 30 < n ∨ ids.any (fun id => (counterAddr id).isNone) then answer s ch seq rcBadParam []
    else
      let step := fun (x : Bytes × State) (id : Nat) =>
        let a := (counterAddr id).getD 0
        (x.1 ++ toLe 8 (counterNow x.2 id a), if clear then counterClear x.2 id a else x.2)
      let r := ids.foldl step ([], s)
      answer r.2 ch seq rcOk r.1)

/-! Snapshots (R622, R623). -/

/-- GAU_SNAPSHOT (R623): answered at the capture. -/
def execGauSnapshot (ch seq : Nat) (s : State) : Host.Outcome State Fault Refusal :=
  command s ch seq 0x0A00 (fun req =>
    let now := (stampNow s).toNat
    let t := if le req 0 8 = 0 then now + 5120000 else le req 0 8
    let d := distance 64 t now
    if s.gauge.snapReq.isSome then answer s ch seq rcBusy []
    else if d < 2560000 ∨ 256000000000 < d then answer s ch seq rcBadParam []
    else
      let s := defer s ch seq
      let r : SnapReq := { chan := ch, seq := seq, at_ := BitVec.ofNat 64 t, islands := le req 8 2, clear := bitAt (byteAt req 10) 0 }
      { s with gauge := { s.gauge with snapReq := some r } })

/-- The catalogue of the running Wellhead image, cut to the selected islands (R620, R622). -/
def catalogueOf (s : State) (islands : Nat) : List Nat :=
  ((Config.counterCatalogue (imgBody (bankGet s 0 s.fw.whBank))).take 16384).filter (fun id =>
    (counterAddr id).isSome && (decide (islands = 0) || bitAt islands (id / 268435456)))

/-- SNAPSHOT_CAPTURE (R29, R622, R623): at T or after, every selected counter is captured, and the command is answered. -/
def execSnapshotCapture (s : State) : Host.Outcome State Fault Refusal :=
  match s.gauge.snapReq with
  | none => done s
  | some r =>
    if earlier 64 (stampNow s).toNat r.at_.toNat then done s
    else
      let ids := catalogueOf s r.islands
      let vals := ids.map (fun id => (BitVec.ofNat 32 id, BitVec.ofNat 64 (counterNow s id ((counterAddr id).getD 0))))
      let snap : Snapshot := { id := s.gauge.nextSnap, stamp := stampNow s, values := vals }
      let kept := s.gauge.snaps.drop (s.gauge.snaps.length - 3)
      let s := { s with gauge := { s.gauge with snapReq := none, snaps := kept ++ [snap], nextSnap := (s.gauge.nextSnap + 1) % 4294967296 } }
      let s := if r.clear then ids.foldl (fun s id => counterClear s id ((counterAddr id).getD 0)) s else s
      done (answer s r.chan r.seq rcOk (toLe 4 snap.id ++ toLe 8 snap.stamp.toNat ++ toLe 4 vals.length))

/-- GAU_SNAPSHOT_READ (R622, R637). -/
def execGauSnapshotRead (ch seq : Nat) (s : State) : Host.Outcome State Fault Refusal :=
  command s ch seq 0x0A01 (fun req =>
    let first := le req 4 4
    let n := le req 8 2
    match s.gauge.snaps.find? (fun x => x.id = le req 0 4) with
    | none => answer s ch seq rcBadParam []
    | some x =>
      if n = 0 ∨ 15 < n ∨ x.values.length < first + n then answer s ch seq rcBadParam []
      else answer s ch seq rcOk (slice req 0 4 ++ toLe 4 x.values.length ++
        ((x.values.drop first).take n).flatMap (fun v => toLe 4 v.1.toNat ++ zeros 4 ++ toLe 8 v.2.toNat)))

/-! Trace commands (R626 to R628). -/

/-- GAU_TRACE_CONFIG (R626). -/
def execGauTraceConfig (ch seq : Nat) (s : State) : Host.Outcome State Fault Refusal :=
  command s ch seq 0x0A10 (fun req =>
    let slice_ := le req 8 2
    if s.gauge.traceRun then answer s ch seq rcBusy []
    else if (2049 < slice_ ∧ slice_ ≠ 0xFFFF) ∨ 16 < byteAt req 10 ∨ 1 < byteAt req 11 ∨ 2 ^ 38 ≤ le req 0 8 then
      answer s ch seq rcBadParam []
    else
      answer { s with gauge := { s.gauge with
        traceSources := BitVec.ofNat 64 (le req 0 8), traceSlice := if slice_ = 0xFFFF then 0xFFF else slice_,
        traceShift := byteAt req 10, traceMode := byteAt req 11 } } ch seq rcOk [])

/-- GAU_TRACE_START (R627): record numbering restarts at 0. -/
def execGauTraceStart (ch seq : Nat) (s : State) : Host.Outcome State Fault Refusal :=
  command s ch seq 0x0A11 (fun _ =>
    answer { s with gauge := { s.gauge with traceRun := true, traceWritten := 0, lostBefore := [], traceMac := [] } } ch seq rcOk
      (toLe 8 (stampNow s).toNat))

/-- GAU_TRACE_STOP (R637). -/
def execGauTraceStop (ch seq : Nat) (s : State) : Host.Outcome State Fault Refusal :=
  command s ch seq 0x0A12 (fun _ =>
    answer { s with gauge := { s.gauge with traceRun := false } } ch seq rcOk
      (toLe 8 s.gauge.traceWritten.toNat ++ toLe 4 (counter s r_GAU_TRACE_DROP).toNat ++ zeros 4))

/-- GAU_TRACE_READ (R627, R637): records from FIRST, or from OLDEST when FIRST is gone, as many as are held. -/
def execGauTraceRead (ch seq : Nat) (s : State) : Host.Outcome State Fault Refusal :=
  command s ch seq 0x0A13 (fun req =>
    let n := byteAt req 8
    let top := s.gauge.traceWritten.toNat
    let cap := traceCapacity s
    let oldest := top - cap
    let first := max (le req 0 8) oldest
    let k := min n (top - first)
    if n = 0 ∨ 7 < n then answer s ch seq rcBadParam []
    else answer s ch seq rcOk (toLe 8 first ++ toLe 8 oldest ++ toLe 1 k ++ zeros 3 ++
      (List.range k).flatMap (fun i => mapGetD s.gauge.trace ((first + i) % cap) (zeros 32))))

/-! The error log. -/

/-- ERRLOG_WINDOW_CLOSE (R632): one entry stands for the occurrences that the window suppressed. -/
def execErrlogWindowClose (code : Nat) (s : State) : Host.Outcome State Fault Refusal :=
  match s.gauge.windows.find? (fun w => w.code = code) with
  | none => done s
  | some w =>
    let s := { s with gauge := { s.gauge with windows := s.gauge.windows.filter (fun x => x.code ≠ code) } }
    done (match w.last with
      | some e => errWrite s { e with count := w.suppressed }
      | none => s)

/-- GAU_ERRLOG_READ (R637, R668). -/
def execGauErrlogRead (ch seq : Nat) (s : State) : Host.Outcome State Fault Refusal :=
  command s ch seq 0x0A20 (fun req =>
    let q := le req 0 4
    let n := byteAt req 4
    let summary := bitAt (byteAt req 5) 0
    let log := s.gauge.errlog
    if n = 0 ∨ (if summary then 6 else 3) < n then answer s ch seq rcBadParam []
    else if summary then
      answer s ch seq rcOk (toLe 4 (hwField s 0x018 3 0) ++ toLe 1 n ++ zeros 3 ++
        (List.range n).flatMap (fun i => (List.range 8).flatMap (fun j => toLe 4 (hwWord s (0x180 + 8 * ((q + i) % 16) + j)).toNat)))
    else
      let es := (if q = 0xFFFFFFFF then log else log.filter (fun e => !earlier 32 e.seq.toNat q)).take n
      answer s ch seq rcOk (toLe 4 s.gauge.nextSeq.toNat ++ toLe 1 es.length ++ zeros 3 ++ es.flatMap errBytes))

/-- GAU_ERRLOG_CLEAR (R637, R669). -/
def execGauErrlogClear (ch seq : Nat) (s : State) : Host.Outcome State Fault Refusal :=
  command s ch seq 0x0A21 (fun req =>
    let n := s.gauge.errlog.length
    let s := { s with gauge := { s.gauge with errlog := [] } }
    let s := if bitAt (byteAt req 0) 0 then
        [0x180, 0x1A0, 0x1C0, 0x1E0].foldl (fun s w => hwJournal s w (List.replicate 32 0)) s
      else s
    answer s ch seq rcOk (toLe 4 n))

/-- GAU_ERRLOG_QUERY (R669). -/
def execGauErrlogQuery (ch seq : Nat) (s : State) : Host.Outcome State Fault Refusal :=
  command s ch seq 0x0A22 (fun _ =>
    let log := s.gauge.errlog
    let oldest := match log with
      | [] => s.gauge.nextSeq
      | e :: _ => e.seq
    answer s ch seq rcOk (toLe 4 oldest.toNat ++ toLe 4 s.gauge.nextSeq.toNat ++ toLe 2 log.length ++ zeros 2 ++
      toLe 4 (counter s r_GAU_ERRLOG_LOST).toNat ++ toLe 4 (counter s r_GAU_ERRLOG_SUPPRESSED).toNat ++
      (List.range 5).flatMap (fun v => toLe 4 (log.filter (fun e => e.severity = v)).length)))

/-! Sensors (R634, R635). -/

/-- Reports a thermal crossing (R631, R634, R638): 0 above TEMP_WARN, 1 above TEMP_CRIT, 2 back below TEMP_WARN, 3 back below TEMP_CRIT. -/
def thermalCross (s : State) (crossing : Nat) : State :=
  let h := hottest s
  let old := s.gauge.thermal
  let new := if crossing = 0 then putBits old 0 0 1 else if crossing = 1 then putBits old 1 1 1
    else if crossing = 2 then putBits old 0 0 0 else putBits old 1 1 0
  let s := { s with gauge := { s.gauge with thermal := new } }
  let s := errlog s 0x0180 11 0xFFFF 0 (toLe 1 h.1 ++ toLe 4 (unsigned 32 h.2) ++ toLe 1 crossing)
  eventToManager s 0x8A30 (toLe 1 h.1 ++ toLe 1 (if bitAt new 1 then 2 else if bitAt new 0 then 1 else 0) ++ zeros 2 ++
    toLe 4 (unsigned 32 h.2))

/-- The crossings that the sensors show now, each threshold in turn. -/
def thermalCheck (s : State) : State :=
  let t := (hottest s).2
  let warn : Int := (256 * hwField s 0x007 7 0 : Nat)
  let crit : Int := (256 * hwField s 0x007 15 8 : Nat)
  let s := if ¬ bitAt s.gauge.thermal 0 ∧ warn < t then thermalCross s 0 else s
  let s := if ¬ bitAt s.gauge.thermal 1 ∧ crit < t then thermalCross s 1 else s
  let s := if bitAt s.gauge.thermal 1 ∧ t ≤ crit - 512 then thermalCross s 3 else s
  if bitAt s.gauge.thermal 0 ∧ t ≤ warn - 512 then thermalCross s 2 else s

/-- SENSOR_UPDATE (R634, R635): the 49 values as measured. -/
def execSensorUpdate (values : List Int) (s : State) : Host.Outcome State Fault Refusal :=
  if s.dev.base = .off ∨ s.dev.base = .held ∨ values.length ≠ 49 then done s
  else done (thermalCheck { s with gauge := { s.gauge with sensors := (List.range 49).map (fun k => (k, signed 32 (unsigned 32 (values.getD k 0)))) } })

/-- GAU_SENSOR_READ (R637). -/
def execGauSensorRead (ch seq : Nat) (s : State) : Host.Outcome State Fault Refusal :=
  command s ch seq 0x0A30 (fun _ =>
    answer s ch seq rcOk (toLe 1 49 ++ zeros 3 ++
      (List.range 49).flatMap (fun k => toLe 1 k ++ zeros 3 ++ toLe 4 (unsigned 32 (sensorNow s k)))))

/-! Development access (R636). -/

/-- Bytes at mapped addresses, read without effect. -/
def peekBytes (s : State) (a len : Nat) : Bytes :=
  slice ((List.range (wordsOf a len)).flatMap (fun i => toLe 4 (peekWord s (a / 4 * 4 + 4 * i)))) (a % 4) len

/-- GAU_DEV_READ (R636). -/
def execGauDevRead (ch seq : Nat) (s : State) : Host.Outcome State Fault Refusal :=
  command s ch seq 0x0A40 (fun req =>
    let n := le req 2 2
    let a := le req 4 8
    let off := a / 4294967296
    let reply := fun (b : Bytes) => answer s ch seq rcOk (slice req 4 8 ++ b)
    if n < 4 ∨ 240 < n ∨ n % 4 ≠ 0 then answer s ch seq rcBadParam []
    else if byteAt req 0 = 0 then (if mappedAll a n then reply (peekBytes s a n) else answer s ch seq rcBadParam [])
    else if byteAt req 0 = 1 ∧ off + n ≤ 256 then
      let x := thGet s (4 * (a % 2) + bits a 2 1) (bits a 8 3)
      reply (slice ((List.range 32).flatMap (fun i => toLe 8 ((x.regs[i]?).getD 0).toNat)) off n)
    else answer s ch seq rcBadParam [])

end Sys2Proof.Machine
end

