-- ==== Sys2Proof/Machine/Mctp.lean ====
section
/-! DEFINITION. The MCTP endpoint: packets and assembly, control messages, vendor messages of channel 2,056, SPDM and secured
messages, PLDM (R563 to R569, R601, R602). Message formats are those of DSP0236, DSP0240, DSP0248, DSP0267, DSP0274 and DSP0277
(notes/assumptions/64.md). -/

namespace Sys2Proof.Machine

open Sys2Proof

/-- The endpoint answers: firmware runs, or BOOT recovery serves PLDM firmware update (R584). -/
def mctpOn (s : State) : Bool := hostOpen s || (s.dev.base = .boot && s.dev.recoveryOpen)

def badPacket (s : State) : State := { s with mctp := { s.mctp with badPackets := s.mctp.badPackets + 1 } }

/-- The message under assembly is discarded and counted (R569). -/
def badMessage (s : State) : State := { s with mctp := { s.mctp with assembly := none, badMessages := s.mctp.badMessages + 1 } }

/-- The endpoint carries a message (R564): a control or PLDM request, or one of the other types outside recovery. -/
def carried (s : State) (b : Bytes) : Bool :=
  let t := byteAt b 0
  if t = 0 then decide (3 ≤ b.length) && bitAt (byteAt b 1) 7
  else if t = 1 then decide (4 ≤ b.length) && bitAt (byteAt b 1) 7 && (hostOpen s || decide (byteAt b 2 % 64 ≠ 2))
  else hostOpen s && decide (t = 5 ∨ t = 6 ∨ t = 0x7E)

/-- A whole message joins the inbox; a type that the endpoint does not carry is dropped (R564). -/
def mctpTake (s : State) (src : Nat) (via : Option Nat) (b : Bytes) : State :=
  if carried s b then { s with mctp := { s.mctp with inbox := s.mctp.inbox ++ [(src, via, b)] } } else s

/-- MCTP_PACKET_RX (R563, R569): one packet, of at most the 64 bytes of the baseline transmission unit. -/
def execMctpPacketRx (src tag : Nat) (som eom : Bool) (pseq : Nat) (bad : Bool) (body : Bytes) (s : State) : Host.Outcome State Fault Refusal :=
  if ¬ mctpOn s then done s
  else if bad ∨ 64 < body.length ∨ body = [] then done (badPacket s)
  else
    let s := if som && s.mctp.assembly.isSome then badMessage s else s
    let got : Option Bytes := if som then some [] else
      match s.mctp.assembly with
      | some (a, t, b) => if a = src ∧ t = tag ∧ s.mctp.nextSeq = pseq % 4 then some b else none
      | none => none
    match got with
    | none => done (badMessage s)
    | some b =>
      if eom then done (mctpTake { s with mctp := { s.mctp with assembly := none } } src none (b ++ body))
      else done { s with mctp := { s.mctp with assembly := some (src, tag, b ++ body), nextSeq := (pseq + 1) % 4 } }

/-- MCTP_ASSEMBLY_TIMEOUT (R569). -/
def execMctpAssemblyTimeout (s : State) : Host.Outcome State Fault Refusal :=
  if s.mctp.assembly.isSome then done (badMessage s) else done s

/-- Runs a handler on the oldest message, when that is of the kind it handles; it leaves the inbox. -/
def takeMsg (s : State) (kind : Bytes → Bool) (f : State → Option Nat → Bytes → State) : Host.Outcome State Fault Refusal :=
  match s.mctp.inbox with
  | [] => done s
  | (_, via, b) :: rest => if kind b then done (f { s with mctp := { s.mctp with inbox := rest } } via b) else done s

/-! Control messages (R563, DSP0236). -/

/-- Answer to a control request: completion code and data. -/
def ctlReply (s : State) (via : Option Nat) (b : Bytes) (code : Nat) (data : Bytes) : State :=
  mctpSend s via.isSome 0 (toLe 1 (byteAt b 1 % 32) ++ toLe 1 (byteAt b 2) ++ toLe 1 code ++ data)

/-- A control row: command `cmd` with `n` bytes of data, otherwise ERROR_INVALID_LENGTH. -/
def ctlRow (s : State) (cmd n : Nat) (f : State → Option Nat → Bytes → State) : Host.Outcome State Fault Refusal :=
  takeMsg s (fun b => byteAt b 0 = 0 && byteAt b 2 = cmd)
    (fun s via b => if b.length = 3 + n then f s via b else ctlReply s via b 0x03 [])

/-- SET_ENDPOINT_ID (R503, R566): an accepted Set Endpoint ID. -/
def execSetEndpointId (s : State) : Host.Outcome State Fault Refusal :=
  ctlRow s 1 2 (fun s via b =>
    let op := byteAt b 3 % 4
    let e := byteAt b 4
    if 1 < op ∨ e = 0 ∨ e = 0xFF then ctlReply s via b 0x02 []
    else
      let s := { s with mctp := { s.mctp with eid := e } }
      bumpHostGen (ctlReply s via b 0 (zeros 1 ++ toLe 1 e ++ zeros 1)) 2056)

/-- GET_ENDPOINT_ID: a simple endpoint, neither bus owner nor bridge, with a dynamic ID. -/
def execGetEndpointId (s : State) : Host.Outcome State Fault Refusal :=
  ctlRow s 2 0 (fun s via b => ctlReply s via b 0 (toLe 1 s.mctp.eid ++ zeros 2))

/-- GET_ENDPOINT_UUID. -/
def execGetEndpointUuid (s : State) : Host.Outcome State Fault Refusal :=
  ctlRow s 3 0 (fun s via b => ctlReply s via b 0 (fit Config.mctpUuid 16))

/-- GET_MCTP_VERSION_SUPPORT: version 1.3 for the base and for control messages (R563). -/
def execGetMctpVersionSupport (s : State) : Host.Outcome State Fault Refusal :=
  ctlRow s 4 1 (fun s via b =>
    let t := byteAt b 3
    if t = 0 ∨ t = 0xFF then ctlReply s via b 0 [1, 0xF1, 0xF3, 0xFF, 0]
    else if t = 1 ∨ t = 5 ∨ t = 6 ∨ t = 0x7E then ctlReply s via b 0 (1 :: fit (Config.mctpVersions t) 4)
    else ctlReply s via b 0x80 [])

/-- GET_MESSAGE_TYPE_SUPPORT (R564): the types besides control. -/
def execGetMessageTypeSupport (s : State) : Host.Outcome State Fault Refusal :=
  ctlRow s 5 0 (fun s via b => ctlReply s via b 0 [4, 1, 5, 6, 0x7E])

/-- GET_VDM_SUPPORT (R564): one PCI vendor ID, 0x1F7C. -/
def execGetVdmSupport (s : State) : Host.Outcome State Fault Refusal :=
  ctlRow s 6 1 (fun s via b =>
    if byteAt b 3 = 0 then ctlReply s via b 0 ([0xFF, 0, 0x1F, 0x7C] ++ toBe 2 Config.vdmVersion) else ctlReply s via b 0x02 [])

/-- MCTP_UNSUPPORTED_CONTROL (R563). -/
def execMctpUnsupportedControl (s : State) : Host.Outcome State Fault Refusal :=
  takeMsg s (fun b => byteAt b 0 = 0 && (byteAt b 2 = 0 || 6 < byteAt b 2)) (fun s via b => ctlReply s via b 0x05 [])

/-! Vendor messages: channel 2,056 (R565, R566, R569). -/

/-- A vendor message is well formed: vendor ID, a kind that the BMC sends, and LENGTH within its body (R569). -/
def vdmGood (b : Bytes) : Bool :=
  decide (5 ≤ b.length ∧ be b 1 2 = 0x1F7C) &&
    (decide (byteAt b 3 = 1 ∨ byteAt b 3 = 3) || decide (byteAt b 3 = 0 ∧ 13 ≤ b.length ∧ 13 + byteAt b 7 ≤ b.length))

def vdmKind (k : Nat) (b : Bytes) : Bool := decide (byteAt b 0 = 0x7E ∧ byteAt b 3 = k) && vdmGood b

/-- VDM_MESSAGE (R565, R569): KIND 0 is a POST, and REJECT answers one that is not taken; a malformed message is discarded and logged. -/
def execVdmMessage (s : State) : Host.Outcome State Fault Refusal :=
  takeMsg s (fun b => byteAt b 0 = 0x7E && (!vdmGood b || byteAt b 3 = 0)) (fun s via b =>
    if ¬ vdmGood b then errlog s 0x0131 11 0xFFFF 0 (fit (b.drop 1) 8)
    else
      let c := chanGet s 2056
      let s := hostPost s 2056 (b.drop 5) via.isSome
      if hostFull c ∨ 248 < byteAt b 7 then mctpSend s via.isSome 0x7E [0x1F, 0x7C, 2, 0]
      else { s with mctp := { s.mctp with inSession := via.isSome } })

/-- VDM_ACK (R565): KIND 1 acknowledges the message last shown. -/
def execVdmAck (s : State) : Host.Outcome State Fault Refusal := takeMsg s (vdmKind 1) (fun s _ _ => hostAck s 2056)

/-- REOPEN (R503, R566): KIND 3. -/
def execReopen (s : State) : Host.Outcome State Fault Refusal := takeMsg s (vdmKind 3) (fun s _ _ => bumpHostGen s 2056)

/-! SPDM and secured messages (R566, R567, R569, R602). -/

/-- An SPDM session ends: the generation of channel 2,056 increases (R566). One that was still in its handshake only ends. -/
def sessionEnd (s : State) (sid : Nat) : State :=
  let m := s.mctp
  let left := m.sessions.filter (fun x => x ≠ sid)
  let t := { s with mctp := { m with sessions := left, handshakes := m.handshakes.filter (fun x => x ≠ sid),
                                     inSession := m.inSession && !left.isEmpty } }
  if sid ∈ m.sessions then bumpHostGen t 2056 else t

/-- What an SPDM response that is not an error does to the sessions: KEY_EXCHANGE begins a handshake, FINISH inside it establishes the
session, END_SESSION ends it. -/
def spdmSessions (s : State) (via : Option Nat) (req resp : Bytes) : State :=
  let code := byteAt resp 1
  if byteAt req 1 = 0xE4 ∧ code = 0x64 ∧ via = none then
    let sid := le req 4 2 + 65536 * le resp 4 2
    { s with mctp := { s.mctp with handshakes := sid :: s.mctp.handshakes } }
  else match via with
    | some sid =>
      if byteAt req 1 = 0xE5 ∧ code = 0x65 ∧ sid ∈ s.mctp.handshakes then
        { s with mctp := { s.mctp with sessions := sid :: s.mctp.sessions, handshakes := s.mctp.handshakes.filter (fun x => x ≠ sid) } }
      else if byteAt req 1 = 0xEC ∧ code = 0x6C then sessionEnd s sid
      else s
    | none => s

/-- SPDM_REQUEST (R423, R602): `req` over the DOE of endpoint `doe`, or the oldest MCTP message. What the responder answers is a free value. -/
def execSpdmRequest (doe : Option Nat) (req : Bytes) (s : State) : Host.Outcome State Fault Refusal :=
  match doe with
  | some ep =>
    if cfgOpen s ep 0 && hostOpen s then done (emit (drawn s) (.doe ep (Config.spdmResponse req s.fresh))) else done s
  | none =>
    takeMsg s (fun b => byteAt b 0 = 5) (fun s via b =>
      let resp := Config.spdmResponse (b.drop 1) s.fresh
      spdmSessions (mctpSend (drawn s) via.isSome 5 resp) via (b.drop 1) resp)

/-- SECURED_MESSAGE (R567, R569): an authentic message of a session that exists gives up the message inside it; any other is discarded,
logged, and its session ends. -/
def execSecuredMessage (authentic : Bool) (plain : Bytes) (s : State) : Host.Outcome State Fault Refusal :=
  takeMsg s (fun b => byteAt b 0 = 6) (fun s _ b =>
    let sid := le b 1 4
    if authentic ∧ (sid ∈ s.mctp.sessions ∨ (sid ∈ s.mctp.handshakes ∧ byteAt plain 0 = 5)) then
      if carried s plain ∧ byteAt plain 0 ≠ 6 then { s with mctp := { s.mctp with inbox := (0, some sid, plain) :: s.mctp.inbox } } else s
    else errlog (sessionEnd s sid) 0x0132 11 0xFFFF 0 (toLe 4 sid))

/-! PLDM (R564, R601, R635). -/

/-- PLDM type of a message. -/
def pldmType (b : Bytes) : Nat := byteAt b 2 % 64

/-- Answer to a PLDM request: completion code and data. -/
def pldmReply (s : State) (via : Option Nat) (b : Bytes) (code : Nat) (data : Bytes) : State :=
  mctpSend s via.isSome 1 (toLe 1 (byteAt b 1 % 32) ++ toLe 1 (byteAt b 2) ++ toLe 1 (byteAt b 3) ++ toLe 1 code ++ data)

/-- The PLDM version number of a type: Type 5 is version 1.1 (R601). -/
def pldmVersion (t : Nat) : Bytes := if t = 5 then [0xF1, 0xF1, 0xF0, 0x00] else fit (Config.pldmVersions t) 4

/-- A PLDM Type 0 request (DSP0240): SetTID, GetTID, GetPLDMVersion, GetPLDMTypes, GetPLDMCommands. -/
def pldmBase (s : State) (via : Option Nat) (b : Bytes) : State :=
  let cmd := byteAt b 3
  let known := fun (t : Nat) => decide (t = 0 ∨ t = 2 ∨ t = 5)
  if cmd = 1 then
    let t := byteAt b 4
    if b.length ≠ 5 then pldmReply s via b 0x03 []
    else if t = 0 ∨ t = 0xFF then pldmReply s via b 0x02 []
    else pldmReply { s with mctp := { s.mctp with tid := t } } via b 0 []
  else if cmd = 2 then pldmReply s via b 0 (toLe 1 s.mctp.tid)
  else if cmd = 3 then
    if b.length ≠ 10 then pldmReply s via b 0x03 []
    else if ¬ known (byteAt b 9) then pldmReply s via b 0x83 []
    else
      let v := pldmVersion (byteAt b 9)
      pldmReply s via b 0 (zeros 4 ++ [5] ++ v ++ ethFcs v)
  else if cmd = 4 then pldmReply s via b 0 (toLe 8 0x25)
  else if cmd = 5 then
    if b.length ≠ 9 then pldmReply s via b 0x03 []
    else if ¬ known (byteAt b 4) then pldmReply s via b 0x83 []
    else pldmReply s via b 0 (fit (Config.pldmCommands (byteAt b 4)) 32)
  else pldmReply s via b 0x05 []

/-- PLDM_DISCOVERY (R564): Type 0, and the refusal of a type that the endpoint does not carry. -/
def execPldmDiscovery (s : State) : Host.Outcome State Fault Refusal :=
  takeMsg s (fun b => byteAt b 0 = 1 && !(pldmType b = 2 || pldmType b = 5))
    (fun s via b => if pldmType b = 0 then pldmBase s via b else pldmReply s via b 0x20 [])

/-- Where a reading stands against TEMP_WARN and TEMP_CRIT (R635, DSP0248): normal, upper warning or upper critical. -/
def pldmPresent (s : State) (k : Nat) : Nat :=
  let v := sensorNow s k
  if 16 ≤ k then 1
  else if (256 * hwField s 0x007 15 8 : Nat) < v then 9
  else if (256 * hwField s 0x007 7 0 : Nat) < v then 8
  else 1

/-- PLDM_SENSOR_READ (R635, DSP0248): GetSensorReading, and GetSensorThresholds with TEMP_WARN and TEMP_CRIT on the temperature
sensors; other thresholds are free values. -/
def execPldmSensorRead (s : State) : Host.Outcome State Fault Refusal :=
  takeMsg s (fun b => byteAt b 0 = 1 && pldmType b = 2) (fun s via b =>
    let id := le b 4 2
    let k := id - 1
    if byteAt b 3 = 0x11 then
      if b.length ≠ 7 then pldmReply s via b 0x03 []
      else if id = 0 ∨ 49 < id then pldmReply s via b 0x80 []
      else
        let p := pldmPresent s k
        pldmReply (drawn s) via b 0 ([5, 0, 0] ++ toLe 1 p ++ toLe 1 (Config.freeNat s.fresh) ++ toLe 1 p ++ toLe 4 (unsigned 32 (sensorNow s k)))
    else if byteAt b 3 = 0x12 then
      if b.length ≠ 6 then pldmReply s via b 0x03 []
      else if id = 0 ∨ 49 < id then pldmReply s via b 0x80 []
      else
        let upper := if k < 16 then toLe 4 (256 * hwField s 0x007 7 0) ++ toLe 4 (256 * hwField s 0x007 15 8)
          else fit (Config.pldmThresholds k) 8
        pldmReply s via b 0 ([5] ++ upper ++ slice (Config.pldmThresholds k) 8 16)
    else pldmReply s via b 0x05 [])

/-- The bank of a kind that is not running; while none runs, the one that the boot word names (notes/assumptions/65.md). -/
def otherBank (s : State) (kind : Nat) : Nat :=
  let b := if kind = 0 then s.fw.whBank else s.fw.cscBank
  if imgRunning s kind b then 1 - b else hwField s 0x010 kind kind

/-- A host image write of the kind runs, or a handover uses the bank (R601, R605). -/
def hostWrites (s : State) (kind : Nat) : Bool :=
  decide ((bankGet s kind 0).state = 3 ∨ (bankGet s kind 1).state = 3) || handoverBank s kind (otherBank s kind)

/-- The image that a PLDM update transfers is written and verified as the image commands write it. -/
def pldmWrite (s : State) (kind : Nat) (data : Bytes) : State :=
  let bank := otherBank s kind
  let s := bankOpen s kind bank data.length
  let s := bankSet s kind bank { bankGet s kind bank with bytes := data.zipIdx.foldl (fun (m : AMap Byte) x => mapSet m x.2 x.1) [] }
  let s := bankClose s kind bank
  { s with fw := { s.fw with pldm := s.fw.pldm.filter (fun x => x.1 ≠ kind + 1) ++ [(kind + 1, bank)] } }

/-- The answer of UpdateComponent: the component will be updated, or why not (DSP0267). -/
def updateReply (s : State) (via : Option Nat) (b : Bytes) (why : Nat) : State :=
  pldmReply (drawn s) via b 0 (toLe 1 (b2n (decide (why ≠ 0))) ++ toLe 1 why ++ slice b 15 4 ++ toLe 2 (Config.freeNat s.fresh))

/-- UpdateComponent of a component with the image that the transfer brings (R601): 1 Wellhead, 2 Cascade, 3 manifest. -/
def updateComponent (s : State) (via : Option Nat) (b data : Bytes) : State :=
  let comp := le b 6 2
  if b.length < 23 then pldmReply s via b 0x03 []
  else if comp = 3 then
    let t := { s with fw := { s.fw with pldm := s.fw.pldm.filter (fun x => x.1 ≠ 3) ++ [(3, 0)] } }
    updateReply ((manifestPut t (fit data 4096)).getD s) via b 0
  else if comp = 1 ∨ comp = 2 then
    if hostWrites s (comp - 1) then pldmReply s via b 0x8E []
    else if data.length < 512 ∨ bankSize (comp - 1) < data.length then updateReply s via b 6
    else updateReply (pldmWrite s (comp - 1) data) via b 0
  else updateReply s via b 6

/-- PLDM_UPDATE_COMPONENT (R601): UpdateComponent, CancelUpdate, and the other Type 5 requests around them, whose answers the manual
leaves to DSP0267. -/
def execPldmUpdateComponent (data : Bytes) (s : State) : Host.Outcome State Fault Refusal :=
  takeMsg s (fun b => byteAt b 0 = 1 && pldmType b = 5 && byteAt b 3 ≠ 0x1A) (fun s via b =>
    if byteAt b 3 = 0x14 then updateComponent s via b data
    else
      let s := if byteAt b 3 = 0x1D then { s with fw := { s.fw with pldm := [] } } else s
      mctpSend (drawn s) via.isSome 1 (Config.pldmResponse (b.drop 1) s.fresh))

/-- The bank that a PLDM update has written of a kind; none when it has written none. -/
def pldmBank (s : State) (kind : Nat) : Option Nat := (s.fw.pldm.find? (fun x => x.1 = kind + 1)).map (fun x => x.2)

/-- The answer of ActivateFirmware: the time it needs is a free value. -/
def activateReply (s : State) (via : Option Nat) (b : Bytes) : State :=
  pldmReply (drawn { s with fw := { s.fw with pldm := [] } }) via b 0 (toLe 2 (Config.freeNat s.fresh))

/-- ActivateFirmware (R601): a device reset in recovery; otherwise a handover of the updated components, when it is asked for. -/
def activateFirmware (s : State) (via : Option Nat) (b : Bytes) : State :=
  let w := pldmBank s 0
  let c := pldmBank s 1
  let bad := fun (kind : Nat) (x : Option Nat) => match x with
    | some bank => !imgValid s kind bank
    | none => false
  if b.length ≠ 5 then pldmReply s via b 0x03 []
  else if s.fw.pldm = [] then pldmReply s via b 0x80 []
  else if bad 0 w || bad 1 c then pldmReply s via b 0x85 []
  else if s.dev.base = .boot then
    let t := activateReply s via b
    { t with dev := { t.dev with resetPending := some 4 } }
  else if byteAt b 4 = 0 ∨ (w.isNone ∧ c.isNone) then activateReply s via b
  else if s.fw.handover.isSome ∨ commitRuns s then pldmReply s via b 0x86 []
  else if (handoverCheck s w c).isSome then pldmReply s via b 0x8C []
  else handoverBegin (activateReply s via b) w c false 2056 256

/-- PLDM_ACTIVATE_FIRMWARE (R601). -/
def execPldmActivateFirmware (s : State) : Host.Outcome State Fault Refusal :=
  takeMsg s (fun b => byteAt b 0 = 1 && pldmType b = 5 && byteAt b 3 = 0x1A) activateFirmware

end Sys2Proof.Machine
end

