-- ==== Sys2Proof/Machine/Tap.lean ====
section
/-! DEFINITION. Boundary scan (R658, R659) and the Ethernet reference clock (R657). -/

namespace Sys2Proof.Machine

open Sys2Proof

/-- An instruction that works at any time. -/
def tapLoad (s : State) (t : TapInstr) : State := { s with tap := t }

/-- A board-test instruction takes effect only while SYS_RST_N is asserted; otherwise it acts as BYPASS (R659). -/
def tapBoard (s : State) (t : TapInstr) : State := tapLoad s (if s.dev.sysRstN then .bypass else t)

/-- BYPASS (R658). -/
def execBypass (s : State) : Host.Outcome State Fault Refusal := done (tapLoad s .bypass)

/-- IDCODE (R658): the identification register is shifted out. -/
def execIdcode (s : State) : Host.Outcome State Fault Refusal := done (emit (tapLoad s .idcode) (.tapShift 0x186409CF#32))

/-- SAMPLE/PRELOAD (R658). -/
def execSamplePreload (s : State) : Host.Outcome State Fault Refusal := done (tapLoad s .samplePreload)

/-- EXTEST (R659). -/
def execExtest (s : State) : Host.Outcome State Fault Refusal := done (tapBoard s .extest)

/-- HIGHZ (R659). -/
def execHighz (s : State) : Host.Outcome State Fault Refusal := done (tapBoard s .highz)

/-- CLAMP (R659). -/
def execClamp (s : State) : Host.Outcome State Fault Refusal := done (tapBoard s .clamp)

/-- EXTEST_PULSE (R659). -/
def execExtestPulse (s : State) : Host.Outcome State Fault Refusal := done (tapBoard s .extestPulse)

/-- EXTEST_TRAIN (R659). -/
def execExtestTrain (s : State) : Host.Outcome State Fault Refusal := done (tapBoard s .extestTrain)

/-- ETH_REFCLK_LOSS (R657): every Ethernet and Itwin link goes down. -/
def execEthRefclkLoss (s : State) : Host.Outcome State Fault Refusal := done (itwLinkDown (ethRefLost s))

/-- ETH_REFCLK_RETURN (R657, R382): the links may train again, and the PLL locks to it while the oscillator is absent. -/
def execEthRefclkReturn (s : State) : Host.Outcome State Fault Refusal :=
  let s := { s with dev := { s.dev with ethRefclk := true } }
  if clockOn s && !s.dev.tbOsc then done { s with time := { s.time with onFallback := true } } else done s

end Sys2Proof.Machine
end

