-- ==== Sys2Proof/Machine/Dispatch.lean ====
section
/-! DEFINITION. The dispatch of a command to its meaning: one arm per constructor. -/

namespace Sys2Proof.Machine

open Sys2Proof

def exec (i : Instr) (s : State) : Host.Outcome State Fault Refusal :=
  match i with
  | .supplyUp => Sys2Proof.Machine.execSupplyUp s
  | .supplyRemoved => Sys2Proof.Machine.execSupplyRemoved s
  | .supplyMonitorTrip supply => Sys2Proof.Machine.execSupplyMonitorTrip supply s
  | .sysRstNAssert widthNs => Sys2Proof.Machine.execSysRstNAssert widthNs s
  | .sysRstNDeassert => Sys2Proof.Machine.execSysRstNDeassert s
  | .tbOscRangeChange inRange => Sys2Proof.Machine.execTbOscRangeChange inRange s
  | .wellheadImageVerify => Sys2Proof.Machine.execWellheadImageVerify s
  | .cascadeManifestCheck => Sys2Proof.Machine.execCascadeManifestCheck s
  | .hbmTrainingDone failed => Sys2Proof.Machine.execHbmTrainingDone failed s
  | .bootSelfTestDone failA failB => Sys2Proof.Machine.execBootSelfTestDone failA failB s
  | .bootComplete => Sys2Proof.Machine.execBootComplete s
  | .deviceResetStart => Sys2Proof.Machine.execDeviceResetStart s
  | .quiescentEntryDone => Sys2Proof.Machine.execQuiescentEntryDone s
  | .quiescentExitDone => Sys2Proof.Machine.execQuiescentExitDone s
  | .lockstepMismatch => Sys2Proof.Machine.execLockstepMismatch s
  | .watchdogExpire => Sys2Proof.Machine.execWatchdogExpire s
  | .wellheadResume => Sys2Proof.Machine.execWellheadResume s
  | .checkpointTimer => Sys2Proof.Machine.execCheckpointTimer s
  | .spareSelfTest pass => Sys2Proof.Machine.execSpareSelfTest pass s
  | .handoverSpareLoaded => Sys2Proof.Machine.execHandoverSpareLoaded s
  | .handoverExport => Sys2Proof.Machine.execHandoverExport s
  | .handoverImportDone => Sys2Proof.Machine.execHandoverImportDone s
  | .handoverOldPairLoaded => Sys2Proof.Machine.execHandoverOldPairLoaded s
  | .clusterCodeSwitch => Sys2Proof.Machine.execClusterCodeSwitch s
  | .handoverComplete => Sys2Proof.Machine.execHandoverComplete s
  | .handoverFailure => Sys2Proof.Machine.execHandoverFailure s
  | .hbmPcAutoRetire pc => Sys2Proof.Machine.execHbmPcAutoRetire pc s
  | .hbmPcRetireDone => Sys2Proof.Machine.execHbmPcRetireDone s
  | .pcieLaneErrorPoll ep lane => Sys2Proof.Machine.execPcieLaneErrorPoll ep lane s
  | .ethLaneFecThreshold port lane => Sys2Proof.Machine.execEthLaneFecThreshold port lane s
  | .laneLockLoss port lane => Sys2Proof.Machine.execLaneLockLoss port lane s
  | .frameRx m frame pcsErr preemptErr lane frags => Sys2Proof.Machine.execFrameRx m frame pcsErr preemptErr lane frags s
  | .twinStreamWaitEnd p => Sys2Proof.Machine.execTwinStreamWaitEnd p s
  | .passStart p pos => Sys2Proof.Machine.execPassStart p pos s
  | .excRetry p pos => Sys2Proof.Machine.execExcRetry p pos s
  | .parseComplete p => Sys2Proof.Machine.execParseComplete p s
  | .raspScanStart p => Sys2Proof.Machine.execRaspScanStart p s
  | .raspScanComplete p => Sys2Proof.Machine.execRaspScanComplete p s
  | .jigClassify p => Sys2Proof.Machine.execJigClassify p s
  | .actionRecordFetch p => Sys2Proof.Machine.execActionRecordFetch p s
  | .ldi p => Sys2Proof.Machine.execLdi p s
  | .ldf p => Sys2Proof.Machine.execLdf p s
  | .stf p => Sys2Proof.Machine.execStf p s
  | .mov p => Sys2Proof.Machine.execMov p s
  | .add p => Sys2Proof.Machine.execAdd p s
  | .sub p => Sys2Proof.Machine.execSub p s
  | .and p => Sys2Proof.Machine.execAnd p s
  | .or p => Sys2Proof.Machine.execOr p s
  | .xor p => Sys2Proof.Machine.execXor p s
  | .shl p => Sys2Proof.Machine.execShl p s
  | .shr p => Sys2Proof.Machine.execShr p s
  | .addi p => Sys2Proof.Machine.execAddi p s
  | .crc p => Sys2Proof.Machine.execCrc p s
  | .beq p => Sys2Proof.Machine.execBeq p s
  | .bne p => Sys2Proof.Machine.execBne p s
  | .blt p => Sys2Proof.Machine.execBlt p s
  | .bge p => Sys2Proof.Machine.execBge p s
  | .btst p => Sys2Proof.Machine.execBtst p s
  | .jump p => Sys2Proof.Machine.execJump p s
  | .endOp p => Sys2Proof.Machine.execEndOp p s
  | .lookup p => Sys2Proof.Machine.execLookup p s
  | .entUpdate p => Sys2Proof.Machine.execEntUpdate p s
  | .learn p => Sys2Proof.Machine.execLearn p s
  | .insert p => Sys2Proof.Machine.execInsert p s
  | .delete p => Sys2Proof.Machine.execDelete p s
  | .ttlDec p => Sys2Proof.Machine.execTtlDec p s
  | .cstf p => Sys2Proof.Machine.execCstf p s
  | .vlanPush p => Sys2Proof.Machine.execVlanPush p s
  | .vlanPop p => Sys2Proof.Machine.execVlanPop p s
  | .encap p => Sys2Proof.Machine.execEncap p s
  | .decap p => Sys2Proof.Machine.execDecap p s
  | .setTc p => Sys2Proof.Machine.execSetTc p s
  | .mark p => Sys2Proof.Machine.execMark p s
  | .setClass p => Sys2Proof.Machine.execSetClass p s
  | .setSa p => Sys2Proof.Machine.execSetSa p s
  | .count p => Sys2Proof.Machine.execCount p s
  | .mirror p => Sys2Proof.Machine.execMirror p s
  | .fwdPort p => Sys2Proof.Machine.execFwdPort p s
  | .fwdHost p => Sys2Proof.Machine.execFwdHost p s
  | .flood p => Sys2Proof.Machine.execFlood p s
  | .drop p => Sys2Proof.Machine.execDrop p s
  | .toEngine p => Sys2Proof.Machine.execToEngine p s
  | .recirc p => Sys2Proof.Machine.execRecirc p s
  | .cryptoTransformDone p => Sys2Proof.Machine.execCryptoTransformDone p s
  | .cryptoCoreFail core => Sys2Proof.Machine.execCryptoCoreFail core s
  | .cryPairExpire stream seq pass ordinal => Sys2Proof.Machine.execCryPairExpire stream seq pass ordinal s
  | .pairResultExpire stream seq pass ordinal => Sys2Proof.Machine.execPairResultExpire stream seq pass ordinal s
  | .pairMarkExpire stream seq pass ordinal => Sys2Proof.Machine.execPairMarkExpire stream seq pass ordinal s
  | .scribeRequest => Sys2Proof.Machine.execScribeRequest s
  | .scribeInsert => Sys2Proof.Machine.execScribeInsert s
  | .scribeLearn => Sys2Proof.Machine.execScribeLearn s
  | .scribeDelete => Sys2Proof.Machine.execScribeDelete s
  | .scribeUpdate => Sys2Proof.Machine.execScribeUpdate s
  | .stashPromote => Sys2Proof.Machine.execStashPromote s
  | .ageWalkVisit bucket => Sys2Proof.Machine.execAgeWalkVisit bucket s
  | .stampModeRestore => Sys2Proof.Machine.execStampModeRestore s
  | .lockHoldExpire stash loc => Sys2Proof.Machine.execLockHoldExpire stash loc s
  | .cstEccInvalidate stash loc => Sys2Proof.Machine.execCstEccInvalidate stash loc s
  | .sqrAuditComplete => Sys2Proof.Machine.execSqrAuditComplete s
  | .workItemDeliver q slot h => Sys2Proof.Machine.execWorkItemDeliver q slot h s
  | .chDest q slot value => Sys2Proof.Machine.execChDest q slot value s
  | .chWord q slot value => Sys2Proof.Machine.execChWord q slot value s
  | .chLast q slot value => Sys2Proof.Machine.execChLast q slot value s
  | .chLastNb q slot value => Sys2Proof.Machine.execChLastNb q slot value s
  | .chWaitCommit chan => Sys2Proof.Machine.execChWaitCommit chan s
  | .chRead q slot value => Sys2Proof.Machine.execChRead q slot value s
  | .wait q slot value => Sys2Proof.Machine.execWait q slot value s
  | .waitWake q slot => Sys2Proof.Machine.execWaitWake q slot s
  | .waitTimeout q slot => Sys2Proof.Machine.execWaitTimeout q slot s
  | .forkArg q slot value => Sys2Proof.Machine.execForkArg q slot value s
  | .fork q slot value => Sys2Proof.Machine.execFork q slot value s
  | .join q slot value => Sys2Proof.Machine.execJoin q slot value s
  | .exit q slot value => Sys2Proof.Machine.execExit q slot value s
  | .park q slot value => Sys2Proof.Machine.execPark q slot value s
  | .unpark q slot value => Sys2Proof.Machine.execUnpark q slot value s
  | .suspend q slot => Sys2Proof.Machine.execSuspend q slot s
  | .resume q slot => Sys2Proof.Machine.execResume q slot s
  | .abort q slot requeue => Sys2Proof.Machine.execAbort q slot requeue s
  | .supThread q slot value => Sys2Proof.Machine.execSupThread q slot value s
  | .supRegs q slot value => Sys2Proof.Machine.execSupRegs q slot value s
  | .supDldAck q slot value => Sys2Proof.Machine.execSupDldAck q slot value s
  | .devchLookup => Sys2Proof.Machine.execDevchLookup s
  | .devchScribeLearn => Sys2Proof.Machine.execDevchScribeLearn s
  | .devchScribeInsert => Sys2Proof.Machine.execDevchScribeInsert s
  | .devchScribeDelete => Sys2Proof.Machine.execDevchScribeDelete s
  | .devchScribeUpdate => Sys2Proof.Machine.execDevchScribeUpdate s
  | .pktFwdPort => Sys2Proof.Machine.execPktFwdPort s
  | .pktFwdHost => Sys2Proof.Machine.execPktFwdHost s
  | .pktFlood => Sys2Proof.Machine.execPktFlood s
  | .pktDrop => Sys2Proof.Machine.execPktDrop s
  | .pktRecirc => Sys2Proof.Machine.execPktRecirc s
  | .inject => Sys2Proof.Machine.execInject s
  | .cscEngineEvent => Sys2Proof.Machine.execCscEngineEvent s
  | .threadFault q slot cls pc addr => Sys2Proof.Machine.execThreadFault q slot cls pc addr s
  | .engineFault engine thread cls => Sys2Proof.Machine.execEngineFault engine thread cls s
  | .spareMapped spare => Sys2Proof.Machine.execSpareMapped spare s
  | .supervisorRestart q => Sys2Proof.Machine.execSupervisorRestart q s
  | .dldFire q => Sys2Proof.Machine.execDldFire q s
  | .cscDeadlock q => Sys2Proof.Machine.execCscDeadlock q s
  | .exitOrderHandoff p => Sys2Proof.Machine.execExitOrderHandoff p s
  | .dovetailArrive d pl => Sys2Proof.Machine.execDovetailArrive d pl s
  | .dovetailStoreWaitEnd d pl => Sys2Proof.Machine.execDovetailStoreWaitEnd d pl s
  | .openRecordExpire d point stream seq => Sys2Proof.Machine.execOpenRecordExpire d point stream seq s
  | .railSelfCheckFail rail code unit => Sys2Proof.Machine.execRailSelfCheckFail rail code unit s
  | .railRejoin rail => Sys2Proof.Machine.execRailRejoin rail s
  | .prpNodeForget mac pair => Sys2Proof.Machine.execPrpNodeForget mac pair s
  | .flitRx seq ack nak crcGood body => Sys2Proof.Machine.execFlitRx seq ack nak crcGood body s
  | .heartbeat id rank mode act version digest mirroring learned count => Sys2Proof.Machine.execHeartbeat id rank mode act version digest mirroring learned count s
  | .heartbeatSend => Sys2Proof.Machine.execHeartbeatSend s
  | .pipelineStallDetect => Sys2Proof.Machine.execPipelineStallDetect s
  | .heartbeatMissLimit => Sys2Proof.Machine.execHeartbeatMissLimit s
  | .aliveLowTimeout => Sys2Proof.Machine.execAliveLowTimeout s
  | .actInChange level short alive => Sys2Proof.Machine.execActInChange level short alive s
  | .grantTimer => Sys2Proof.Machine.execGrantTimer s
  | .actRequestTimer => Sys2Proof.Machine.execActRequestTimer s
  | .itwLinkUp version digest mirroring => Sys2Proof.Machine.execItwLinkUp version digest mirroring s
  | .learnReq key dest stamp src prof => Sys2Proof.Machine.execLearnReq key dest stamp src prof s
  | .learnApply body => Sys2Proof.Machine.execLearnApply body s
  | .learnDelete key => Sys2Proof.Machine.execLearnDelete key s
  | .learnRefresh key => Sys2Proof.Machine.execLearnRefresh key s
  | .resyncMark phase count => Sys2Proof.Machine.execResyncMark phase count s
  | .actorRelease => Sys2Proof.Machine.execActorRelease s
  | .jigPrepare version digest => Sys2Proof.Machine.execJigPrepare version digest s
  | .jigData data => Sys2Proof.Machine.execJigData data s
  | .jigReady code => Sys2Proof.Machine.execJigReady code s
  | .jigGo => Sys2Proof.Machine.execJigGo s
  | .jigAck => Sys2Proof.Machine.execJigAck s
  | .mirrorReadyTimeout => Sys2Proof.Machine.execMirrorReadyTimeout s
  | .mirrorGoTimeout => Sys2Proof.Machine.execMirrorGoTimeout s
  | .jigCompileDone badA badB => Sys2Proof.Machine.execJigCompileDone badA badB s
  | .jigVersionSwitch => Sys2Proof.Machine.execJigVersionSwitch s
  | .jigSlotFree slot => Sys2Proof.Machine.execJigSlotFree slot s
  | .jigDrainSlow slot => Sys2Proof.Machine.execJigDrainSlow slot s
  | .parseValidateDone rasp => Sys2Proof.Machine.execParseValidateDone rasp s
  | .parseBankSwitch rasp => Sys2Proof.Machine.execParseBankSwitch rasp s
  | .stageBankCopy rasp => Sys2Proof.Machine.execStageBankCopy rasp s
  | .actRecordSwitch => Sys2Proof.Machine.execActRecordSwitch s
  | .calendarReservationSwitch => Sys2Proof.Machine.execCalendarReservationSwitch s
  | .saDeleteSwitch => Sys2Proof.Machine.execSaDeleteSwitch s
  | .macTxSelect m sent lane => Sys2Proof.Machine.execMacTxSelect m sent lane s
  | .macTxDone m => Sys2Proof.Machine.execMacTxDone m s
  | .underrun m sent => Sys2Proof.Machine.execUnderrun m sent s
  | .txLinkWaitExpire m => Sys2Proof.Machine.execTxLinkWaitExpire m s
  | .pauseExpire m c => Sys2Proof.Machine.execPauseExpire m c s
  | .xoffLeave m c => Sys2Proof.Machine.execXoffLeave m c s
  | .pfcRefresh m c => Sys2Proof.Machine.execPfcRefresh m c s
  | .pfcStorm m c => Sys2Proof.Machine.execPfcStorm m c s
  | .pfcStormRelease m c => Sys2Proof.Machine.execPfcStormRelease m c s
  | .weirTick p => Sys2Proof.Machine.execWeirTick p s
  | .gateChange m => Sys2Proof.Machine.execGateChange m s
  | .gclChangeTime m => Sys2Proof.Machine.execGclChangeTime m s
  | .preemptVerify m ok => Sys2Proof.Machine.execPreemptVerify m ok s
  | .linkUp m => Sys2Proof.Machine.execLinkUp m s
  | .linkFault m remote => Sys2Proof.Machine.execLinkFault m remote s
  | .oscLoss => Sys2Proof.Machine.execOscLoss s
  | .oscReturn => Sys2Proof.Machine.execOscReturn s
  | .timeStep => Sys2Proof.Machine.execTimeStep s
  | .timeTxqPop master m => Sys2Proof.Machine.execTimeTxqPop master m s
  | .ptpMsgRx => Sys2Proof.Machine.execPtpMsgRx s
  | .ptpSyncSend m => Sys2Proof.Machine.execPtpSyncSend m s
  | .ptpDelayReqSend m => Sys2Proof.Machine.execPtpDelayReqSend m s
  | .ptpAnnounceSend m => Sys2Proof.Machine.execPtpAnnounceSend m s
  | .ptpAnnounceTimeout m => Sys2Proof.Machine.execPtpAnnounceTimeout m s
  | .plumbSample => Sys2Proof.Machine.execPlumbSample s
  | .plumbTimeout => Sys2Proof.Machine.execPlumbTimeout s
  | .plbHostDHiWrite value => Sys2Proof.Machine.execPlbHostDHiWrite value s
  | .tioArm c => Sys2Proof.Machine.execTioArm c s
  | .tioOutputEdge c => Sys2Proof.Machine.execTioOutputEdge c s
  | .tioEdgeCapture c falling => Sys2Proof.Machine.execTioEdgeCapture c falling s
  | .tioCapPop master c => Sys2Proof.Machine.execTioCapPop master c s
  | .timeNowSLoRead master => Sys2Proof.Machine.execTimeNowSLoRead master s
  | .pcieLinkTrain ep speed width flit => Sys2Proof.Machine.execPcieLinkTrain ep speed width flit s
  | .endpointContain ep cause unacked => Sys2Proof.Machine.execEndpointContain ep cause unacked s
  | .containReleaseResume writer ep => Sys2Proof.Machine.execContainReleaseResume writer ep s
  | .containReleaseReset writer ep => Sys2Proof.Machine.execContainReleaseReset writer ep s
  | .flrInitiate ep f => Sys2Proof.Machine.execFlrInitiate ep f s
  | .flrComplete ep f => Sys2Proof.Machine.execFlrComplete ep f s
  | .vfEnableChange ep enable numVfs => Sys2Proof.Machine.execVfEnableChange ep enable numVfs s
  | .busMasterEnableWrite ep f enable => Sys2Proof.Machine.execBusMasterEnableWrite ep f enable s
  | .configWrite ep f field value => Sys2Proof.Machine.execConfigWrite ep f field value s
  | .bar0Access ep off len data => Sys2Proof.Machine.execBar0Access ep off len data s
  | .pushWrite ep f off data full => Sys2Proof.Machine.execPushWrite ep f off data full s
  | .hifVfDbTx ep f value full => Sys2Proof.Machine.execHifVfDbTx ep f value full s
  | .hifVfDbRx ep f value full => Sys2Proof.Machine.execHifVfDbRx ep f value full s
  | .hifVfDbCq ep f value full => Sys2Proof.Machine.execHifVfDbCq ep f value full s
  | .hifVfDbChain ep f context full => Sys2Proof.Machine.execHifVfDbChain ep f context full s
  | .hifVfItr ep f value full => Sys2Proof.Machine.execHifVfItr ep f value full s
  | .hifLtrWrite ep value => Sys2Proof.Machine.execHifLtrWrite ep value s
  | .txDescriptorRead ep g => Sys2Proof.Machine.execTxDescriptorRead ep g s
  | .txFrameInBasin ep g => Sys2Proof.Machine.execTxFrameInBasin ep g s
  | .txComplete ep g => Sys2Proof.Machine.execTxComplete ep g s
  | .rxDeliver ep g rejected => Sys2Proof.Machine.execRxDeliver ep g rejected s
  | .rxNopostExpire ep g place => Sys2Proof.Machine.execRxNopostExpire ep g place s
  | .writeBack ep g => Sys2Proof.Machine.execWriteBack ep g s
  | .msixSend ep f v => Sys2Proof.Machine.execMsixSend ep f v s
  | .itrHoldoffExpire ep f v => Sys2Proof.Machine.execItrHoldoffExpire ep f v s
  | .intaChange ep => Sys2Proof.Machine.execIntaChange ep s
  | .cplRx ep tag status poisoned badEcrc data => Sys2Proof.Machine.execCplRx ep tag status poisoned badEcrc data s
  | .cplTimeout ep tag => Sys2Proof.Machine.execCplTimeout ep tag s
  | .tagQuarantineExpire ep tag => Sys2Proof.Machine.execTagQuarantineExpire ep tag s
  | .atsInvalidate ep f pasid addr len => Sys2Proof.Machine.execAtsInvalidate ep f pasid addr len s
  | .tlpViolation ep f kind len => Sys2Proof.Machine.execTlpViolation ep f kind len s
  | .queueFlush ep g => Sys2Proof.Machine.execQueueFlush ep g s
  | .drainTimeout ep g => Sys2Proof.Machine.execDrainTimeout ep g s
  | .chainBlockRead ep ctx => Sys2Proof.Machine.execChainBlockRead ep ctx s
  | .chainReread ctx => Sys2Proof.Machine.execChainReread ctx s
  | .mbxPost ch => Sys2Proof.Machine.execMbxPost ch s
  | .mbxAck ch => Sys2Proof.Machine.execMbxAck ch s
  | .mbxFwPost ch => Sys2Proof.Machine.execMbxFwPost ch s
  | .mbxFwAck ch => Sys2Proof.Machine.execMbxFwAck ch s
  | .mbxOutboundBufferWrite ch off data => Sys2Proof.Machine.execMbxOutboundBufferWrite ch off data s
  | .mbxCrossing ch => Sys2Proof.Machine.execMbxCrossing ch s
  | .fwCommandDispatch ch => Sys2Proof.Machine.execFwCommandDispatch ch s
  | .heartwoodWrite master w value => Sys2Proof.Machine.execHeartwoodWrite master w value s
  | .counterLoRead master a => Sys2Proof.Machine.execCounterLoRead master a s
  | .rcRegisterRead master a => Sys2Proof.Machine.execRcRegisterRead master a s
  | .registerWrite master a be value => Sys2Proof.Machine.execRegisterWrite master a be value s
  | .errlogWindowClose code => Sys2Proof.Machine.execErrlogWindowClose code s
  | .sensorUpdate values => Sys2Proof.Machine.execSensorUpdate values s
  | .snapshotCapture => Sys2Proof.Machine.execSnapshotCapture s
  | .mctpPacketRx src tag som eom pseq bad body => Sys2Proof.Machine.execMctpPacketRx src tag som eom pseq bad body s
  | .mctpAssemblyTimeout => Sys2Proof.Machine.execMctpAssemblyTimeout s
  | .setEndpointId => Sys2Proof.Machine.execSetEndpointId s
  | .getEndpointId => Sys2Proof.Machine.execGetEndpointId s
  | .getEndpointUuid => Sys2Proof.Machine.execGetEndpointUuid s
  | .getMctpVersionSupport => Sys2Proof.Machine.execGetMctpVersionSupport s
  | .getMessageTypeSupport => Sys2Proof.Machine.execGetMessageTypeSupport s
  | .getVdmSupport => Sys2Proof.Machine.execGetVdmSupport s
  | .mctpUnsupportedControl => Sys2Proof.Machine.execMctpUnsupportedControl s
  | .vdmMessage => Sys2Proof.Machine.execVdmMessage s
  | .vdmAck => Sys2Proof.Machine.execVdmAck s
  | .reopen => Sys2Proof.Machine.execReopen s
  | .spdmRequest doe req => Sys2Proof.Machine.execSpdmRequest doe req s
  | .securedMessage authentic plain => Sys2Proof.Machine.execSecuredMessage authentic plain s
  | .pldmDiscovery => Sys2Proof.Machine.execPldmDiscovery s
  | .pldmSensorRead => Sys2Proof.Machine.execPldmSensorRead s
  | .pldmUpdateComponent data => Sys2Proof.Machine.execPldmUpdateComponent data s
  | .pldmActivateFirmware => Sys2Proof.Machine.execPldmActivateFirmware s
  | .bypass => Sys2Proof.Machine.execBypass s
  | .idcode => Sys2Proof.Machine.execIdcode s
  | .samplePreload => Sys2Proof.Machine.execSamplePreload s
  | .extest => Sys2Proof.Machine.execExtest s
  | .highz => Sys2Proof.Machine.execHighz s
  | .clamp => Sys2Proof.Machine.execClamp s
  | .extestPulse => Sys2Proof.Machine.execExtestPulse s
  | .extestTrain => Sys2Proof.Machine.execExtestTrain s
  | .deviceQuery ch seq => Sys2Proof.Machine.execDeviceQuery ch seq s
  | .eventMaskSet ch seq => Sys2Proof.Machine.execEventMaskSet ch seq s
  | .eventMaskRead ch seq => Sys2Proof.Machine.execEventMaskRead ch seq s
  | .echo ch seq => Sys2Proof.Machine.execEcho ch seq s
  | .mgrRoleQuery ch seq => Sys2Proof.Machine.execMgrRoleQuery ch seq s
  | .mgrRoleConfig ch seq => Sys2Proof.Machine.execMgrRoleConfig ch seq s
  | .mgrRoleTransfer ch seq => Sys2Proof.Machine.execMgrRoleTransfer ch seq s
  | .mgrRoleReclaim ch seq => Sys2Proof.Machine.execMgrRoleReclaim ch seq s
  | .mctpConfig ch seq => Sys2Proof.Machine.execMctpConfig ch seq s
  | .hifWttSet ch seq => Sys2Proof.Machine.execHifWttSet ch seq s
  | .hifWttRead ch seq => Sys2Proof.Machine.execHifWttRead ch seq s
  | .hifLinkQuery ch seq => Sys2Proof.Machine.execHifLinkQuery ch seq s
  | .hifLaneRetire ch seq => Sys2Proof.Machine.execHifLaneRetire ch seq s
  | .hwdRead ch seq => Sys2Proof.Machine.execHwdRead ch seq s
  | .hwdWrite ch seq => Sys2Proof.Machine.execHwdWrite ch seq s
  | .deviceModeSet ch seq => Sys2Proof.Machine.execDeviceModeSet ch seq s
  | .deviceModeQuery ch seq => Sys2Proof.Machine.execDeviceModeQuery ch seq s
  | .hbmPcRetire ch seq => Sys2Proof.Machine.execHbmPcRetire ch seq s
  | .retirementQuery ch seq => Sys2Proof.Machine.execRetirementQuery ch seq s
  | .basinAreaSet ch seq => Sys2Proof.Machine.execBasinAreaSet ch seq s
  | .sliceCreate ch seq => Sys2Proof.Machine.execSliceCreate ch seq s
  | .sliceDestroy ch seq => Sys2Proof.Machine.execSliceDestroy ch seq s
  | .sliceQuery ch seq => Sys2Proof.Machine.execSliceQuery ch seq s
  | .sliceModify ch seq => Sys2Proof.Machine.execSliceModify ch seq s
  | .funcQuery ch seq => Sys2Proof.Machine.execFuncQuery ch seq s
  | .sliceList ch seq => Sys2Proof.Machine.execSliceList ch seq s
  | .poolQuery ch seq => Sys2Proof.Machine.execPoolQuery ch seq s
  | .queueCreate ch seq => Sys2Proof.Machine.execQueueCreate ch seq s
  | .queueDestroy ch seq => Sys2Proof.Machine.execQueueDestroy ch seq s
  | .queueQuery ch seq => Sys2Proof.Machine.execQueueQuery ch seq s
  | .queueModify ch seq => Sys2Proof.Machine.execQueueModify ch seq s
  | .queuePfItrSet ch seq => Sys2Proof.Machine.execQueuePfItrSet ch seq s
  | .resetRecordRead ch seq => Sys2Proof.Machine.execResetRecordRead ch seq s
  | .jigRuleWrite ch seq => Sys2Proof.Machine.execJigRuleWrite ch seq s
  | .jigRuleRead ch seq => Sys2Proof.Machine.execJigRuleRead ch seq s
  | .jigRuleClear ch seq => Sys2Proof.Machine.execJigRuleClear ch seq s
  | .jigProfileWrite ch seq => Sys2Proof.Machine.execJigProfileWrite ch seq s
  | .jigProfileRead ch seq => Sys2Proof.Machine.execJigProfileRead ch seq s
  | .jigStageLoad ch seq => Sys2Proof.Machine.execJigStageLoad ch seq s
  | .jigCommit ch seq => Sys2Proof.Machine.execJigCommit ch seq s
  | .jigSlotQuery ch seq => Sys2Proof.Machine.execJigSlotQuery ch seq s
  | .jigMirrorSet ch seq => Sys2Proof.Machine.execJigMirrorSet ch seq s
  | .jigMirrorStatus ch seq => Sys2Proof.Machine.execJigMirrorStatus ch seq s
  | .parseGraphWrite ch seq => Sys2Proof.Machine.execParseGraphWrite ch seq s
  | .parseGraphRead ch seq => Sys2Proof.Machine.execParseGraphRead ch seq s
  | .parseGraphCommit ch seq => Sys2Proof.Machine.execParseGraphCommit ch seq s
  | .raspPatternWrite ch seq => Sys2Proof.Machine.execRaspPatternWrite ch seq s
  | .raspPatternRead ch seq => Sys2Proof.Machine.execRaspPatternRead ch seq s
  | .raspCommit ch seq => Sys2Proof.Machine.execRaspCommit ch seq s
  | .cstEntryAdd ch seq => Sys2Proof.Machine.execCstEntryAdd ch seq s
  | .cstEntryDelete ch seq => Sys2Proof.Machine.execCstEntryDelete ch seq s
  | .cstEntryRead ch seq => Sys2Proof.Machine.execCstEntryRead ch seq s
  | .cstEntryUnlock ch seq => Sys2Proof.Machine.execCstEntryUnlock ch seq s
  | .cstFlush ch seq => Sys2Proof.Machine.execCstFlush ch seq s
  | .cstFloodSet ch seq => Sys2Proof.Machine.execCstFloodSet ch seq s
  | .actRecordWrite ch seq => Sys2Proof.Machine.execActRecordWrite ch seq s
  | .actRecordRead ch seq => Sys2Proof.Machine.execActRecordRead ch seq s
  | .sqrExpectWrite ch seq => Sys2Proof.Machine.execSqrExpectWrite ch seq s
  | .sqrAuditStart ch seq => Sys2Proof.Machine.execSqrAuditStart ch seq s
  | .sqrResultRead ch seq => Sys2Proof.Machine.execSqrResultRead ch seq s
  | .portModeSet ch seq => Sys2Proof.Machine.execPortModeSet ch seq s
  | .portStatus ch seq => Sys2Proof.Machine.execPortStatus ch seq s
  | .portLaneRetire ch seq => Sys2Proof.Machine.execPortLaneRetire ch seq s
  | .pfcConfigSet ch seq => Sys2Proof.Machine.execPfcConfigSet ch seq s
  | .weirShaperSet ch seq => Sys2Proof.Machine.execWeirShaperSet ch seq s
  | .weirShaperRead ch seq => Sys2Proof.Machine.execWeirShaperRead ch seq s
  | .weirLeafMapSet ch seq => Sys2Proof.Machine.execWeirLeafMapSet ch seq s
  | .slcGclWrite ch seq => Sys2Proof.Machine.execSlcGclWrite ch seq s
  | .slcGclCommit ch seq => Sys2Proof.Machine.execSlcGclCommit ch seq s
  | .slcGclRead ch seq => Sys2Proof.Machine.execSlcGclRead ch seq s
  | .slcPreemptSet ch seq => Sys2Proof.Machine.execSlcPreemptSet ch seq s
  | .timeGet ch seq => Sys2Proof.Machine.execTimeGet ch seq s
  | .timeSet ch seq => Sys2Proof.Machine.execTimeSet ch seq s
  | .timeOffset ch seq => Sys2Proof.Machine.execTimeOffset ch seq s
  | .timeFreqSet ch seq => Sys2Proof.Machine.execTimeFreqSet ch seq s
  | .timeTrimSet ch seq => Sys2Proof.Machine.execTimeTrimSet ch seq s
  | .timeLatSet ch seq => Sys2Proof.Machine.execTimeLatSet ch seq s
  | .plbConfig ch seq => Sys2Proof.Machine.execPlbConfig ch seq s
  | .plbReacquire ch seq => Sys2Proof.Machine.execPlbReacquire ch seq s
  | .plbStatus ch seq => Sys2Proof.Machine.execPlbStatus ch seq s
  | .plbTrimSave ch seq => Sys2Proof.Machine.execPlbTrimSave ch seq s
  | .ptpInstanceSet ch seq => Sys2Proof.Machine.execPtpInstanceSet ch seq s
  | .ptpPortSet ch seq => Sys2Proof.Machine.execPtpPortSet ch seq s
  | .ptpPortStatus ch seq => Sys2Proof.Machine.execPtpPortStatus ch seq s
  | .tioConfig ch seq => Sys2Proof.Machine.execTioConfig ch seq s
  | .tioCaptureRead ch seq => Sys2Proof.Machine.execTioCaptureRead ch seq s
  | .crySaWrite ch seq => Sys2Proof.Machine.execCrySaWrite ch seq s
  | .crySaRead ch seq => Sys2Proof.Machine.execCrySaRead ch seq s
  | .crySaDelete ch seq => Sys2Proof.Machine.execCrySaDelete ch seq s
  | .tnlTemplateWrite ch seq => Sys2Proof.Machine.execTnlTemplateWrite ch seq s
  | .tnlTemplateRead ch seq => Sys2Proof.Machine.execTnlTemplateRead ch seq s
  | .tlsRxResync ch seq => Sys2Proof.Machine.execTlsRxResync ch seq s
  | .nvtContextSet ch seq => Sys2Proof.Machine.execNvtContextSet ch seq s
  | .nvtContextRead ch seq => Sys2Proof.Machine.execNvtContextRead ch seq s
  | .nvtResync ch seq => Sys2Proof.Machine.execNvtResync ch seq s
  | .twinStatus ch seq => Sys2Proof.Machine.execTwinStatus ch seq s
  | .twinRailRetire ch seq => Sys2Proof.Machine.execTwinRailRetire ch seq s
  | .twinRailRestore ch seq => Sys2Proof.Machine.execTwinRailRestore ch seq s
  | .twinSelSet ch seq => Sys2Proof.Machine.execTwinSelSet ch seq s
  | .prpPairSet ch seq => Sys2Proof.Machine.execPrpPairSet ch seq s
  | .prpNodeRead ch seq => Sys2Proof.Machine.execPrpNodeRead ch seq s
  | .itwConfig ch seq => Sys2Proof.Machine.execItwConfig ch seq s
  | .itwStatus ch seq => Sys2Proof.Machine.execItwStatus ch seq s
  | .itwActorRelease ch seq => Sys2Proof.Machine.execItwActorRelease ch seq s
  | .itwResync ch seq => Sys2Proof.Machine.execItwResync ch seq s
  | .gauSnapshot ch seq => Sys2Proof.Machine.execGauSnapshot ch seq s
  | .gauSnapshotRead ch seq => Sys2Proof.Machine.execGauSnapshotRead ch seq s
  | .gauCounterRead ch seq => Sys2Proof.Machine.execGauCounterRead ch seq s
  | .gauTraceConfig ch seq => Sys2Proof.Machine.execGauTraceConfig ch seq s
  | .gauTraceStart ch seq => Sys2Proof.Machine.execGauTraceStart ch seq s
  | .gauTraceStop ch seq => Sys2Proof.Machine.execGauTraceStop ch seq s
  | .gauTraceRead ch seq => Sys2Proof.Machine.execGauTraceRead ch seq s
  | .gauErrlogRead ch seq => Sys2Proof.Machine.execGauErrlogRead ch seq s
  | .gauErrlogClear ch seq => Sys2Proof.Machine.execGauErrlogClear ch seq s
  | .gauErrlogQuery ch seq => Sys2Proof.Machine.execGauErrlogQuery ch seq s
  | .gauSensorRead ch seq => Sys2Proof.Machine.execGauSensorRead ch seq s
  | .gauDevRead ch seq => Sys2Proof.Machine.execGauDevRead ch seq s
  | .fwImageBegin ch seq => Sys2Proof.Machine.execFwImageBegin ch seq s
  | .fwImageData ch seq => Sys2Proof.Machine.execFwImageData ch seq s
  | .fwImageEnd ch seq => Sys2Proof.Machine.execFwImageEnd ch seq s
  | .fwImageQuery ch seq => Sys2Proof.Machine.execFwImageQuery ch seq s
  | .fwImageErase ch seq => Sys2Proof.Machine.execFwImageErase ch seq s
  | .fwManifestRead ch seq => Sys2Proof.Machine.execFwManifestRead ch seq s
  | .fwManifestWrite ch seq => Sys2Proof.Machine.execFwManifestWrite ch seq s
  | .fwHandoverStart ch seq => Sys2Proof.Machine.execFwHandoverStart ch seq s
  | .fwHandoverStatus ch seq => Sys2Proof.Machine.execFwHandoverStatus ch seq s
  | .fwHandoverAbort ch seq => Sys2Proof.Machine.execFwHandoverAbort ch seq s
  | .fwBootSelect ch seq => Sys2Proof.Machine.execFwBootSelect ch seq s
  | .fwRestrictedReason ch seq => Sys2Proof.Machine.execFwRestrictedReason ch seq s
  | .whCheckpoint ch seq => Sys2Proof.Machine.execWhCheckpoint ch seq s
  | .whPairStatus ch seq => Sys2Proof.Machine.execWhPairStatus ch seq s
  | .cscClusterQuery ch seq => Sys2Proof.Machine.execCscClusterQuery ch seq s
  | .cscEngineRetire ch seq => Sys2Proof.Machine.execCscEngineRetire ch seq s
  | .cscPacketDispose ch seq => Sys2Proof.Machine.execCscPacketDispose ch seq s
  | .cscWaitgraphRead ch seq => Sys2Proof.Machine.execCscWaitgraphRead ch seq s
  | .timebaseTick => Sys2Proof.Machine.execTimebaseTick s
  | .ethRefclkLoss => Sys2Proof.Machine.execEthRefclkLoss s
  | .ethRefclkReturn => Sys2Proof.Machine.execEthRefclkReturn s
  | .deviceResetHeldExpire => Sys2Proof.Machine.execDeviceResetHeldExpire s
  | .mirrorAckTimeout => Sys2Proof.Machine.execMirrorAckTimeout s
  | .engineMemoryScrub engine corrected => Sys2Proof.Machine.execEngineMemoryScrub engine corrected s
  | .doeDiscovery ep index => Sys2Proof.Machine.execDoeDiscovery ep index s
  | .fabricAccess master a len data => Sys2Proof.Machine.execFabricAccess master a len data s
  | .restoreSelfTestFail rail unit => Sys2Proof.Machine.execRestoreSelfTestFail rail unit s
  | .itwResyncComplete => Sys2Proof.Machine.execItwResyncComplete s

end Sys2Proof.Machine
end

