-- ==== Sys2Proof/WellFormed.lean ====
section
/-! DEFINITION. Which operands a command may carry: the ranges that the manual gives its channels, endpoints, MACs, clusters and the
rest. The meanings are total and do not ask for them; a sender keeps them. -/

namespace Sys2Proof

/-- An endpoint: 0 E0, 1 E1 (R418). -/
def okEp (e : Nat) : Bool := decide (e ≤ 1)

/-- A function of an endpoint: 0 PF0, 1 to 1,024 VF (R424). -/
def okFunc (f : Nat) : Bool := decide (f ≤ 1024)

/-- A VF of an endpoint (R424). -/
def okVf (f : Nat) : Bool := decide (1 ≤ f ∧ f ≤ 1024)

/-- A mailbox channel (R498). -/
def okChan (c : Nat) : Bool := decide (c ≤ 2056)

/-- A SEQ of a message (R501). -/
def okSeq (q : Nat) : Bool := decide (q ≤ 255)

/-- A MAC (R337). -/
def okMac (m : Nat) : Bool := decide (m ≤ 15)

/-- A traffic class (R344). -/
def okClass (c : Nat) : Bool := decide (c ≤ 7)

/-- A lane of an Ethernet port (R337). -/
def okLane (l : Nat) : Bool := decide (l ≤ 7)

/-- An Ethernet port (R337). -/
def okPort (p : Nat) : Bool := decide (p ≤ 1)

/-- A timed I/O channel (R407). -/
def okTio (c : Nat) : Bool := decide (c ≤ 9)

/-- A cluster: rail × 4 + cluster (R205). -/
def okCluster (q : Nat) : Bool := decide (q ≤ 7)

/-- A thread slot of a cluster (R207). -/
def okSlot (n : Nat) : Bool := decide (n ≤ 63)

/-- A queue pair of an endpoint (R5). -/
def okQueue (g : Nat) : Bool := decide (g ≤ 8191)

/-- A master: function f of endpoint e as 2,048e + f, thread n of cluster q as 4,096 + 64q + n, firmware as 4,608 (R667). -/
def okMaster (m : Nat) : Bool := decide (m ≤ 1024 ∨ (2048 ≤ m ∧ m ≤ 3072) ∨ (4096 ≤ m ∧ m ≤ 4608))

/-- A vector of a function (R431). -/
def okVec (v : Nat) : Bool := decide (v ≤ 2047)

/-- A Heartwood word (R608). -/
def okHwWord (w : Nat) : Bool := decide (w ≤ 1023)

/-- A rail: 0 A, 1 B (R254). -/
def okRail (r : Nat) : Bool := decide (r ≤ 1)

/-- A lane of an endpoint (R418). -/
def okPcieLane (l : Nat) : Bool := decide (l ≤ 15)

/-- An entry of a start calendar (R41). -/
def okPos (n : Nat) : Bool := decide (n ≤ 4095)

/-- A physical engine (R30). -/
def okEngine (e : Nat) : Bool := decide (e ≤ 67)

/-- A crypto core (R310). -/
def okCore (c : Nat) : Bool := decide (c ≤ 23)

/-- A supply of R650. -/
def okSupply (n : Nat) : Bool := decide (n ≤ 11)

/-- An HBM pseudo-channel (R603). -/
def okHbmPc (n : Nat) : Bool := decide (n ≤ 63)

/-- A Cistern bucket, or the stash (R161, R186). -/
def okBucket (b : Nat) : Bool := decide (b ≤ 1048576)

/-- A Jig version slot (R133). -/
def okJigSlot (n : Nat) : Bool := decide (n ≤ 3)

/-- A Dovetail island: 0 and 1 host, 2 and 3 MAC transmit (R261). -/
def okDovIsland (d : Nat) : Bool := decide (d ≤ 3)

/-- A pipeline: A0, A1, B0, B1 (R18). -/
def okPipeline (p : Nat) : Bool := decide (p ≤ 3)

/-- A cause of containment as HIF_CONTAIN_STATUS codes it (R455). -/
def okCause (c : Nat) : Bool := decide (1 ≤ c ∧ c ≤ 5)

/-- An offset in BAR0 (R426). -/
def okBarOffset (o : Nat) : Bool := decide (o < 0x4000000)

/-- The byte enables of a register write (R12). -/
def okEnables (b : Nat) : Bool := decide (b ≤ 15)

/-- A link speed as HIF_LINK_STATUS codes it (R455). -/
def okSpeed (x : Nat) : Bool := decide (1 ≤ x ∧ x ≤ 6)

/-- Lanes of a link (R418). -/
def okWidth (x : Nat) : Bool := decide (x = 1 ∨ x = 2 ∨ x = 4 ∨ x = 8 ∨ x = 16)

/-- A self-check code of a rail (R269). -/
def okSelfCheck (c : Nat) : Bool := decide (1 ≤ c ∧ c ≤ 4)

/-- A unit that a self-check names (R300). -/
def okUnit (u : Nat) : Bool := decide (u ≤ 5)

/-- A Twin stream (R257). -/
def okStream (n : Nat) : Bool := decide (n ≤ 9727)

/-- An NVMe/TCP context (R555). -/
def okContext (n : Nat) : Bool := decide (n ≤ 131071)

/-- A spare engine as shipped (R30). -/
def okSpare (e : Nat) : Bool := decide (e = 32 ∨ e = 33 ∨ e = 66 ∨ e = 67)

/-- A PRP pair (R279). -/
def okPrpPair (p : Nat) : Bool := decide (p ≤ 7)

/-- A command whose operands are in range. -/
def Instr.wf : Instr → Bool
  | .supplyUp => true
  | .supplyRemoved => true
  | .supplyMonitorTrip supply => okSupply supply
  | .sysRstNAssert _ => true
  | .sysRstNDeassert => true
  | .tbOscRangeChange _ => true
  | .wellheadImageVerify => true
  | .cascadeManifestCheck => true
  | .hbmTrainingDone _ => true
  | .bootSelfTestDone _ _ => true
  | .bootComplete => true
  | .deviceResetStart => true
  | .quiescentEntryDone => true
  | .quiescentExitDone => true
  | .lockstepMismatch => true
  | .watchdogExpire => true
  | .wellheadResume => true
  | .checkpointTimer => true
  | .spareSelfTest _ => true
  | .handoverSpareLoaded => true
  | .handoverExport => true
  | .handoverImportDone => true
  | .handoverOldPairLoaded => true
  | .clusterCodeSwitch => true
  | .handoverComplete => true
  | .handoverFailure => true
  | .hbmPcAutoRetire pc => okHbmPc pc
  | .hbmPcRetireDone => true
  | .pcieLaneErrorPoll ep lane => okEp ep && okPcieLane lane
  | .ethLaneFecThreshold port lane => okPort port && okLane lane
  | .laneLockLoss port lane => okPort port && okLane lane
  | .frameRx m _ _ _ lane _ => okMac m && okLane lane
  | .twinStreamWaitEnd _ => true
  | .passStart _ pos => okPos pos
  | .excRetry _ pos => okPos pos
  | .parseComplete _ => true
  | .raspScanStart _ => true
  | .raspScanComplete _ => true
  | .jigClassify _ => true
  | .actionRecordFetch _ => true
  | .ldi _ => true
  | .ldf _ => true
  | .stf _ => true
  | .mov _ => true
  | .add _ => true
  | .sub _ => true
  | .and _ => true
  | .or _ => true
  | .xor _ => true
  | .shl _ => true
  | .shr _ => true
  | .addi _ => true
  | .crc _ => true
  | .beq _ => true
  | .bne _ => true
  | .blt _ => true
  | .bge _ => true
  | .btst _ => true
  | .jump _ => true
  | .endOp _ => true
  | .lookup _ => true
  | .entUpdate _ => true
  | .learn _ => true
  | .insert _ => true
  | .delete _ => true
  | .ttlDec _ => true
  | .cstf _ => true
  | .vlanPush _ => true
  | .vlanPop _ => true
  | .encap _ => true
  | .decap _ => true
  | .setTc _ => true
  | .mark _ => true
  | .setClass _ => true
  | .setSa _ => true
  | .count _ => true
  | .mirror _ => true
  | .fwdPort _ => true
  | .fwdHost _ => true
  | .flood _ => true
  | .drop _ => true
  | .toEngine _ => true
  | .recirc _ => true
  | .cryptoTransformDone _ => true
  | .cryptoCoreFail core => okCore core
  | .cryPairExpire stream _ _ _ => okStream stream
  | .pairResultExpire stream _ _ _ => okStream stream
  | .pairMarkExpire stream _ _ _ => okStream stream
  | .scribeRequest => true
  | .scribeInsert => true
  | .scribeLearn => true
  | .scribeDelete => true
  | .scribeUpdate => true
  | .stashPromote => true
  | .ageWalkVisit bucket => okBucket bucket
  | .stampModeRestore => true
  | .lockHoldExpire _ _ => true
  | .cstEccInvalidate _ _ => true
  | .sqrAuditComplete => true
  | .workItemDeliver q slot _ => okCluster q && okSlot slot
  | .chDest q slot _ => okCluster q && okSlot slot
  | .chWord q slot _ => okCluster q && okSlot slot
  | .chLast q slot _ => okCluster q && okSlot slot
  | .chLastNb q slot _ => okCluster q && okSlot slot
  | .chWaitCommit _ => true
  | .chRead q slot _ => okCluster q && okSlot slot
  | .wait q slot _ => okCluster q && okSlot slot
  | .waitWake q slot => okCluster q && okSlot slot
  | .waitTimeout q slot => okCluster q && okSlot slot
  | .forkArg q slot _ => okCluster q && okSlot slot
  | .fork q slot _ => okCluster q && okSlot slot
  | .join q slot _ => okCluster q && okSlot slot
  | .exit q slot _ => okCluster q && okSlot slot
  | .park q slot _ => okCluster q && okSlot slot
  | .unpark q slot _ => okCluster q && okSlot slot
  | .suspend q slot => okCluster q && okSlot slot
  | .resume q slot => okCluster q && okSlot slot
  | .abort q slot _ => okCluster q && okSlot slot
  | .supThread q slot _ => okCluster q && okSlot slot
  | .supRegs q slot _ => okCluster q && okSlot slot
  | .supDldAck q slot _ => okCluster q && okSlot slot
  | .devchLookup => true
  | .devchScribeLearn => true
  | .devchScribeInsert => true
  | .devchScribeDelete => true
  | .devchScribeUpdate => true
  | .pktFwdPort => true
  | .pktFwdHost => true
  | .pktFlood => true
  | .pktDrop => true
  | .pktRecirc => true
  | .inject => true
  | .cscEngineEvent => true
  | .threadFault q slot _ _ _ => okCluster q && okSlot slot
  | .engineFault engine _ _ => okEngine engine
  | .spareMapped spare => okSpare spare
  | .supervisorRestart q => okCluster q
  | .dldFire q => okCluster q
  | .cscDeadlock q => okCluster q
  | .exitOrderHandoff _ => true
  | .dovetailArrive d pl => okDovIsland d && okPipeline pl
  | .dovetailStoreWaitEnd d pl => okDovIsland d && okPipeline pl
  | .openRecordExpire d _ stream _ => okDovIsland d && okStream stream
  | .railSelfCheckFail rail code unit => okRail rail && okSelfCheck code && okUnit unit
  | .railRejoin rail => okRail rail
  | .prpNodeForget _ pair => okPrpPair pair
  | .flitRx _ _ _ _ _ => true
  | .heartbeat _ _ _ _ _ _ _ _ _ => true
  | .heartbeatSend => true
  | .pipelineStallDetect => true
  | .heartbeatMissLimit => true
  | .aliveLowTimeout => true
  | .actInChange _ _ _ => true
  | .grantTimer => true
  | .actRequestTimer => true
  | .itwLinkUp _ _ _ => true
  | .learnReq _ _ _ _ _ => true
  | .learnApply _ => true
  | .learnDelete _ => true
  | .learnRefresh _ => true
  | .resyncMark _ _ => true
  | .actorRelease => true
  | .jigPrepare _ _ => true
  | .jigData _ => true
  | .jigReady _ => true
  | .jigGo => true
  | .jigAck => true
  | .mirrorReadyTimeout => true
  | .mirrorGoTimeout => true
  | .jigCompileDone _ _ => true
  | .jigVersionSwitch => true
  | .jigSlotFree slot => okJigSlot slot
  | .jigDrainSlow slot => okJigSlot slot
  | .parseValidateDone _ => true
  | .parseBankSwitch _ => true
  | .stageBankCopy _ => true
  | .actRecordSwitch => true
  | .calendarReservationSwitch => true
  | .saDeleteSwitch => true
  | .macTxSelect m _ lane => okMac m && okLane lane
  | .macTxDone m => okMac m
  | .underrun m _ => okMac m
  | .txLinkWaitExpire m => okMac m
  | .pauseExpire m c => okMac m && okClass c
  | .xoffLeave m c => okMac m && okClass c
  | .pfcRefresh m c => okMac m && okClass c
  | .pfcStorm m c => okMac m && okClass c
  | .pfcStormRelease m c => okMac m && okClass c
  | .weirTick p => okPort p
  | .gateChange m => okMac m
  | .gclChangeTime m => okMac m
  | .preemptVerify m _ => okMac m
  | .linkUp m => okMac m
  | .linkFault m _ => okMac m
  | .oscLoss => true
  | .oscReturn => true
  | .timeStep => true
  | .timeTxqPop master m => okMaster master && okMac m
  | .ptpMsgRx => true
  | .ptpSyncSend m => okMac m
  | .ptpDelayReqSend m => okMac m
  | .ptpAnnounceSend m => okMac m
  | .ptpAnnounceTimeout m => okMac m
  | .plumbSample => true
  | .plumbTimeout => true
  | .plbHostDHiWrite _ => true
  | .tioArm c => okTio c
  | .tioOutputEdge c => okTio c
  | .tioEdgeCapture c _ => okTio c
  | .tioCapPop master c => okMaster master && okTio c
  | .timeNowSLoRead master => okMaster master
  | .pcieLinkTrain ep speed width _ => okEp ep && okSpeed speed && okWidth width
  | .endpointContain ep cause _ => okEp ep && okCause cause
  | .containReleaseResume writer ep => okEp writer && okEp ep
  | .containReleaseReset writer ep => okEp writer && okEp ep
  | .flrInitiate ep f => okEp ep && okFunc f
  | .flrComplete ep f => okEp ep && okFunc f
  | .vfEnableChange ep _ _ => okEp ep
  | .busMasterEnableWrite ep f _ => okEp ep && okFunc f
  | .configWrite ep f _ _ => okEp ep && okFunc f
  | .bar0Access ep off _ _ => okEp ep && okBarOffset off
  | .pushWrite ep f _ _ _ => okEp ep && okFunc f
  | .hifVfDbTx ep f _ _ => okEp ep && okFunc f
  | .hifVfDbRx ep f _ _ => okEp ep && okFunc f
  | .hifVfDbCq ep f _ _ => okEp ep && okFunc f
  | .hifVfDbChain ep f _ _ => okEp ep && okFunc f
  | .hifVfItr ep f _ _ => okEp ep && okVf f
  | .hifLtrWrite ep _ => okEp ep
  | .txDescriptorRead ep g => okEp ep && okQueue g
  | .txFrameInBasin ep g => okEp ep && okQueue g
  | .txComplete ep g => okEp ep && okQueue g
  | .rxDeliver ep g _ => okEp ep && okQueue g
  | .rxNopostExpire ep g _ => okEp ep && okQueue g
  | .writeBack ep g => okEp ep && okQueue g
  | .msixSend ep f v => okEp ep && okFunc f && okVec v
  | .itrHoldoffExpire ep f v => okEp ep && okFunc f && okVec v
  | .intaChange ep => okEp ep
  | .cplRx ep _ _ _ _ _ => okEp ep
  | .cplTimeout ep _ => okEp ep
  | .tagQuarantineExpire ep _ => okEp ep
  | .atsInvalidate ep f _ _ _ => okEp ep && okFunc f
  | .tlpViolation ep f _ _ => okEp ep && okFunc f
  | .queueFlush ep g => okEp ep && okQueue g
  | .drainTimeout ep g => okEp ep && okQueue g
  | .chainBlockRead ep ctx => okEp ep && okContext ctx
  | .chainReread ctx => okContext ctx
  | .mbxPost ch => okChan ch
  | .mbxAck ch => okChan ch
  | .mbxFwPost ch => okChan ch
  | .mbxFwAck ch => okChan ch
  | .mbxOutboundBufferWrite ch _ _ => okChan ch
  | .mbxCrossing ch => okChan ch
  | .fwCommandDispatch ch => okChan ch
  | .heartwoodWrite master w _ => okMaster master && okHwWord w
  | .counterLoRead master _ => okMaster master
  | .rcRegisterRead master _ => okMaster master
  | .registerWrite master _ be _ => okMaster master && okEnables be
  | .errlogWindowClose _ => true
  | .sensorUpdate _ => true
  | .snapshotCapture => true
  | .mctpPacketRx _ _ _ _ _ _ _ => true
  | .mctpAssemblyTimeout => true
  | .setEndpointId => true
  | .getEndpointId => true
  | .getEndpointUuid => true
  | .getMctpVersionSupport => true
  | .getMessageTypeSupport => true
  | .getVdmSupport => true
  | .mctpUnsupportedControl => true
  | .vdmMessage => true
  | .vdmAck => true
  | .reopen => true
  | .spdmRequest _ _ => true
  | .securedMessage _ _ => true
  | .pldmDiscovery => true
  | .pldmSensorRead => true
  | .pldmUpdateComponent _ => true
  | .pldmActivateFirmware => true
  | .bypass => true
  | .idcode => true
  | .samplePreload => true
  | .extest => true
  | .highz => true
  | .clamp => true
  | .extestPulse => true
  | .extestTrain => true
  | .deviceQuery ch seq => okChan ch && okSeq seq
  | .eventMaskSet ch seq => okChan ch && okSeq seq
  | .eventMaskRead ch seq => okChan ch && okSeq seq
  | .echo ch seq => okChan ch && okSeq seq
  | .mgrRoleQuery ch seq => okChan ch && okSeq seq
  | .mgrRoleConfig ch seq => okChan ch && okSeq seq
  | .mgrRoleTransfer ch seq => okChan ch && okSeq seq
  | .mgrRoleReclaim ch seq => okChan ch && okSeq seq
  | .mctpConfig ch seq => okChan ch && okSeq seq
  | .hifWttSet ch seq => okChan ch && okSeq seq
  | .hifWttRead ch seq => okChan ch && okSeq seq
  | .hifLinkQuery ch seq => okChan ch && okSeq seq
  | .hifLaneRetire ch seq => okChan ch && okSeq seq
  | .hwdRead ch seq => okChan ch && okSeq seq
  | .hwdWrite ch seq => okChan ch && okSeq seq
  | .deviceModeSet ch seq => okChan ch && okSeq seq
  | .deviceModeQuery ch seq => okChan ch && okSeq seq
  | .hbmPcRetire ch seq => okChan ch && okSeq seq
  | .retirementQuery ch seq => okChan ch && okSeq seq
  | .basinAreaSet ch seq => okChan ch && okSeq seq
  | .sliceCreate ch seq => okChan ch && okSeq seq
  | .sliceDestroy ch seq => okChan ch && okSeq seq
  | .sliceQuery ch seq => okChan ch && okSeq seq
  | .sliceModify ch seq => okChan ch && okSeq seq
  | .funcQuery ch seq => okChan ch && okSeq seq
  | .sliceList ch seq => okChan ch && okSeq seq
  | .poolQuery ch seq => okChan ch && okSeq seq
  | .queueCreate ch seq => okChan ch && okSeq seq
  | .queueDestroy ch seq => okChan ch && okSeq seq
  | .queueQuery ch seq => okChan ch && okSeq seq
  | .queueModify ch seq => okChan ch && okSeq seq
  | .queuePfItrSet ch seq => okChan ch && okSeq seq
  | .resetRecordRead ch seq => okChan ch && okSeq seq
  | .jigRuleWrite ch seq => okChan ch && okSeq seq
  | .jigRuleRead ch seq => okChan ch && okSeq seq
  | .jigRuleClear ch seq => okChan ch && okSeq seq
  | .jigProfileWrite ch seq => okChan ch && okSeq seq
  | .jigProfileRead ch seq => okChan ch && okSeq seq
  | .jigStageLoad ch seq => okChan ch && okSeq seq
  | .jigCommit ch seq => okChan ch && okSeq seq
  | .jigSlotQuery ch seq => okChan ch && okSeq seq
  | .jigMirrorSet ch seq => okChan ch && okSeq seq
  | .jigMirrorStatus ch seq => okChan ch && okSeq seq
  | .parseGraphWrite ch seq => okChan ch && okSeq seq
  | .parseGraphRead ch seq => okChan ch && okSeq seq
  | .parseGraphCommit ch seq => okChan ch && okSeq seq
  | .raspPatternWrite ch seq => okChan ch && okSeq seq
  | .raspPatternRead ch seq => okChan ch && okSeq seq
  | .raspCommit ch seq => okChan ch && okSeq seq
  | .cstEntryAdd ch seq => okChan ch && okSeq seq
  | .cstEntryDelete ch seq => okChan ch && okSeq seq
  | .cstEntryRead ch seq => okChan ch && okSeq seq
  | .cstEntryUnlock ch seq => okChan ch && okSeq seq
  | .cstFlush ch seq => okChan ch && okSeq seq
  | .cstFloodSet ch seq => okChan ch && okSeq seq
  | .actRecordWrite ch seq => okChan ch && okSeq seq
  | .actRecordRead ch seq => okChan ch && okSeq seq
  | .sqrExpectWrite ch seq => okChan ch && okSeq seq
  | .sqrAuditStart ch seq => okChan ch && okSeq seq
  | .sqrResultRead ch seq => okChan ch && okSeq seq
  | .portModeSet ch seq => okChan ch && okSeq seq
  | .portStatus ch seq => okChan ch && okSeq seq
  | .portLaneRetire ch seq => okChan ch && okSeq seq
  | .pfcConfigSet ch seq => okChan ch && okSeq seq
  | .weirShaperSet ch seq => okChan ch && okSeq seq
  | .weirShaperRead ch seq => okChan ch && okSeq seq
  | .weirLeafMapSet ch seq => okChan ch && okSeq seq
  | .slcGclWrite ch seq => okChan ch && okSeq seq
  | .slcGclCommit ch seq => okChan ch && okSeq seq
  | .slcGclRead ch seq => okChan ch && okSeq seq
  | .slcPreemptSet ch seq => okChan ch && okSeq seq
  | .timeGet ch seq => okChan ch && okSeq seq
  | .timeSet ch seq => okChan ch && okSeq seq
  | .timeOffset ch seq => okChan ch && okSeq seq
  | .timeFreqSet ch seq => okChan ch && okSeq seq
  | .timeTrimSet ch seq => okChan ch && okSeq seq
  | .timeLatSet ch seq => okChan ch && okSeq seq
  | .plbConfig ch seq => okChan ch && okSeq seq
  | .plbReacquire ch seq => okChan ch && okSeq seq
  | .plbStatus ch seq => okChan ch && okSeq seq
  | .plbTrimSave ch seq => okChan ch && okSeq seq
  | .ptpInstanceSet ch seq => okChan ch && okSeq seq
  | .ptpPortSet ch seq => okChan ch && okSeq seq
  | .ptpPortStatus ch seq => okChan ch && okSeq seq
  | .tioConfig ch seq => okChan ch && okSeq seq
  | .tioCaptureRead ch seq => okChan ch && okSeq seq
  | .crySaWrite ch seq => okChan ch && okSeq seq
  | .crySaRead ch seq => okChan ch && okSeq seq
  | .crySaDelete ch seq => okChan ch && okSeq seq
  | .tnlTemplateWrite ch seq => okChan ch && okSeq seq
  | .tnlTemplateRead ch seq => okChan ch && okSeq seq
  | .tlsRxResync ch seq => okChan ch && okSeq seq
  | .nvtContextSet ch seq => okChan ch && okSeq seq
  | .nvtContextRead ch seq => okChan ch && okSeq seq
  | .nvtResync ch seq => okChan ch && okSeq seq
  | .twinStatus ch seq => okChan ch && okSeq seq
  | .twinRailRetire ch seq => okChan ch && okSeq seq
  | .twinRailRestore ch seq => okChan ch && okSeq seq
  | .twinSelSet ch seq => okChan ch && okSeq seq
  | .prpPairSet ch seq => okChan ch && okSeq seq
  | .prpNodeRead ch seq => okChan ch && okSeq seq
  | .itwConfig ch seq => okChan ch && okSeq seq
  | .itwStatus ch seq => okChan ch && okSeq seq
  | .itwActorRelease ch seq => okChan ch && okSeq seq
  | .itwResync ch seq => okChan ch && okSeq seq
  | .gauSnapshot ch seq => okChan ch && okSeq seq
  | .gauSnapshotRead ch seq => okChan ch && okSeq seq
  | .gauCounterRead ch seq => okChan ch && okSeq seq
  | .gauTraceConfig ch seq => okChan ch && okSeq seq
  | .gauTraceStart ch seq => okChan ch && okSeq seq
  | .gauTraceStop ch seq => okChan ch && okSeq seq
  | .gauTraceRead ch seq => okChan ch && okSeq seq
  | .gauErrlogRead ch seq => okChan ch && okSeq seq
  | .gauErrlogClear ch seq => okChan ch && okSeq seq
  | .gauErrlogQuery ch seq => okChan ch && okSeq seq
  | .gauSensorRead ch seq => okChan ch && okSeq seq
  | .gauDevRead ch seq => okChan ch && okSeq seq
  | .fwImageBegin ch seq => okChan ch && okSeq seq
  | .fwImageData ch seq => okChan ch && okSeq seq
  | .fwImageEnd ch seq => okChan ch && okSeq seq
  | .fwImageQuery ch seq => okChan ch && okSeq seq
  | .fwImageErase ch seq => okChan ch && okSeq seq
  | .fwManifestRead ch seq => okChan ch && okSeq seq
  | .fwManifestWrite ch seq => okChan ch && okSeq seq
  | .fwHandoverStart ch seq => okChan ch && okSeq seq
  | .fwHandoverStatus ch seq => okChan ch && okSeq seq
  | .fwHandoverAbort ch seq => okChan ch && okSeq seq
  | .fwBootSelect ch seq => okChan ch && okSeq seq
  | .fwRestrictedReason ch seq => okChan ch && okSeq seq
  | .whCheckpoint ch seq => okChan ch && okSeq seq
  | .whPairStatus ch seq => okChan ch && okSeq seq
  | .cscClusterQuery ch seq => okChan ch && okSeq seq
  | .cscEngineRetire ch seq => okChan ch && okSeq seq
  | .cscPacketDispose ch seq => okChan ch && okSeq seq
  | .cscWaitgraphRead ch seq => okChan ch && okSeq seq
  | .timebaseTick => true
  | .ethRefclkLoss => true
  | .ethRefclkReturn => true
  | .deviceResetHeldExpire => true
  | .mirrorAckTimeout => true
  | .engineMemoryScrub engine _ => okEngine engine
  | .doeDiscovery ep _ => okEp ep
  | .fabricAccess master _ _ _ => okMaster master
  | .restoreSelfTestFail rail unit => okRail rail && okUnit unit
  | .itwResyncComplete => true

end Sys2Proof
end

