-- ==== Sys2Proof/Safety.lean ====
section
/-! DEFINITION. The terms in which statements speak of a command: the parts of the state and what a command leaves alone, a started
command and its answer, completion, and what every step keeps. -/

namespace Sys2Proof.Machine

open Sys2Proof

/-- The parts of the state of the block, one for each field of `State`. -/
inductive Part where
  | pending | dev | hw | fw | flash | role | slices | mbx | mctp | ep0 | ep1 | rings | pkts | nextPid | basin | plane
  | rasp | jig | cst | sqr | act | csc | twin | prp | itw | cry | nvt | port0 | port1 | macs | weir | time | tio | plb
  | ptp | hbm | gauge | tap | regs | latches | mem | out | fresh
  deriving DecidableEq, Repr

/-- A part is the same in two states. -/
def Part.same : Part → State → State → Prop
  | .pending, s, t => t.pending = s.pending
  | .dev, s, t => t.dev = s.dev
  | .hw, s, t => t.hw = s.hw
  | .fw, s, t => t.fw = s.fw
  | .flash, s, t => t.flash = s.flash
  | .role, s, t => t.role = s.role
  | .slices, s, t => t.slices = s.slices
  | .mbx, s, t => t.mbx = s.mbx
  | .mctp, s, t => t.mctp = s.mctp
  | .ep0, s, t => t.ep0 = s.ep0
  | .ep1, s, t => t.ep1 = s.ep1
  | .rings, s, t => t.rings = s.rings
  | .pkts, s, t => t.pkts = s.pkts
  | .nextPid, s, t => t.nextPid = s.nextPid
  | .basin, s, t => t.basin = s.basin
  | .plane, s, t => t.plane = s.plane
  | .rasp, s, t => t.rasp = s.rasp
  | .jig, s, t => t.jig = s.jig
  | .cst, s, t => t.cst = s.cst
  | .sqr, s, t => t.sqr = s.sqr
  | .act, s, t => t.act = s.act
  | .csc, s, t => t.csc = s.csc
  | .twin, s, t => t.twin = s.twin
  | .prp, s, t => t.prp = s.prp
  | .itw, s, t => t.itw = s.itw
  | .cry, s, t => t.cry = s.cry
  | .nvt, s, t => t.nvt = s.nvt
  | .port0, s, t => t.port0 = s.port0
  | .port1, s, t => t.port1 = s.port1
  | .macs, s, t => t.macs = s.macs
  | .weir, s, t => t.weir = s.weir
  | .time, s, t => t.time = s.time
  | .tio, s, t => t.tio = s.tio
  | .plb, s, t => t.plb = s.plb
  | .ptp, s, t => t.ptp = s.ptp
  | .hbm, s, t => t.hbm = s.hbm
  | .gauge, s, t => t.gauge = s.gauge
  | .tap, s, t => t.tap = s.tap
  | .regs, s, t => t.regs = s.regs
  | .latches, s, t => t.latches = s.latches
  | .mem, s, t => t.mem = s.mem
  | .out, s, t => t.out = s.out
  | .fresh, s, t => t.fresh = s.fresh

/-- Every part but the listed ones is as it was: registers, memory, queues and outputs included. -/
def ChangesOnly (ps : List Part) (s t : State) : Prop := ∀ p : Part, p ∈ ps ∨ p.same s t

/-- A command completes: it answers a next state, and `Q` holds of it. -/
def Completes (c : Instr) (s : State) (Q : State → Prop) : Prop := ∃ t, exec c s = .next t ∧ Q t

/-- The command of a SEQ on a channel has been started with opcode `op` and request `req`, does not run yet, and its reserved fields
are 0 (R536, R544). -/
def Begun (s : State) (ch seq op : Nat) (req : Bytes) : Prop :=
  ∃ x, startedCmd s ch seq op = some x ∧ x.req = req ∧ rsvClean op req = true

/-- The answer of a SEQ is queued last on its channel with a code and a body, its journal entry is DONE with them, and the command is
started no more (R532, R533, R541). -/
def Answered (t : State) (ch seq code : Nat) (body : Bytes) : Prop :=
  (∃ q session, (chanGet t ch).queue = q ++ responseParts seq code session body.length body) ∧
    (∃ j ∈ (chanGet t ch).journal, j.seq = seq ∧ j.done = some (code, body)) ∧ ∀ x ∈ (chanGet t ch).started, x.seq ≠ seq

/-- The command of a SEQ runs: it was started, and its answer comes later (R541). -/
def RunsOn (t : State) (ch seq op : Nat) : Prop :=
  (∃ x ∈ (chanGet t ch).started, x.seq = seq ∧ x.opcode = op ∧ x.running = true) ∧
    ∃ j ∈ (chanGet t ch).journal, j.seq = seq ∧ j.done = none

/-- A command that has been started under a SEQ and not answered. -/
def Unanswered (s : State) (ch seq : Nat) : Prop := ∃ x ∈ (chanGet s ch).started, x.seq = seq

/-- A command of opcode `op` begun with a request that `P` admits completes, and its answer is OK with the body `body`, while `Q`
holds of the states before and after. -/
def AnswersOk (c : Nat → Nat → Instr) (op : Nat) (P : State → Nat → Bytes → Prop) (body : State → Nat → Bytes → Bytes)
    (Q : State → State → Nat → Bytes → Prop) : Prop :=
  ∀ s ch seq req, Begun s ch seq op req → P s ch req →
    Completes (c ch seq) s (fun t => Answered t ch seq rcOk (body s ch req) ∧ Q s t ch req)

/-- Parts that every answered command may change: its own channel, the checkpoint's stamp and the trace. -/
abbrev answerParts : List Part := [.mbx, .fw, .gauge, .regs]

/-- Besides the parts `ps`, a command of channel `ch` changes its own channel, the checkpoint's stamp and the trace: every other channel,
every register but the trace's FULL flag, and all memory stay as they were. -/
def AnswerFrame (ps : List Part) (s t : State) (ch : Nat) : Prop :=
  ChangesOnly (answerParts ++ ps) s t ∧ (∀ k, k ≠ ch → chanGet t k = chanGet s k) ∧
    ∀ a, a ≠ r_GAU_TRACE_STATUS → reg t a = reg s a

/-- A command of opcode `op` begun with a request that `P` admits completes, and runs on with its answer to come, while `Q` holds of the
states before and after. -/
def RunsLater (c : Nat → Nat → Instr) (op : Nat) (P : State → Nat → Bytes → Prop)
    (Q : State → State → Nat → Nat → Bytes → Prop) : Prop :=
  ∀ s ch seq req, Begun s ch seq op req → P s ch req → Completes (c ch seq) s (fun t => RunsOn t ch seq op ∧ Q s t ch seq req)

/-- The outputs of a step: what it put on pins, links and buses, in order. -/
def Emits (s t : State) (os : List Output) : Prop := t.out = s.out ++ os

/-- A message to the BMC on the wire: in the clear, or inside a session (R567). -/
def mctpWire (session : Bool) (type : Nat) (body : Bytes) : Output := if session then .mctp 6 (BitVec.ofNat 8 type :: body) else .mctp type body

/-- Bytes were stored from an address on, and every other byte of memory is as it was. -/
def Stored (s t : State) (a : Nat) (bs : Bytes) : Prop :=
  memReadN t.mem a bs.length = bs ∧ ∀ c, (c < a ∨ a + bs.length ≤ c) → memRead t.mem c = memRead s.mem c

/-- A 32-bit counter has counted `n` and stays at its top (R58, R60). -/
def Counted (s t : State) (a n : Nat) : Prop := counter t a = BitVec.ofNat 32 (min ((counter s a).toNat + n) 0xFFFFFFFF)

/-- Parts that a power-on, pin, supply-monitor or device reset returns to their reset value: everything but Heartwood, the boot flash, the
levels of the input pins, the TAP, and the model's own queue, output log and counter (R572, R573). -/
def volatileParts : List Part :=
  [.fw, .role, .slices, .mbx, .mctp, .rings, .pkts, .nextPid, .basin, .plane, .rasp, .jig, .cst, .sqr, .act, .csc, .twin, .prp, .cry,
   .nvt, .port0, .port1, .macs, .weir, .time, .tio, .plb, .ptp, .hbm, .gauge, .regs, .latches, .mem]

/-- A reset has discarded all work and all volatile configuration, and HELD has begun with a cause (R573, R574). -/
def HeldWith (s t : State) (cause : Nat) : Prop :=
  (∀ p ∈ volatileParts, p.same State.reset t) ∧ t.dev.base = .held ∧ hwWord t 0x012 = BitVec.ofNat 32 cause ∧
    (∀ w, w ≠ 0x012 → hwWord t w = hwWord s w) ∧ t.pending = s.pending

/-! The action unit. -/

/-- Operation `o` of opcode `opc` is the next of packet `p`'s pass, and the pass has run fewer than 64 (R195, R198). -/
def OpDue (s : State) (p opc : Nat) (k : Pkt) (o : Bytes) : Prop :=
  pktGet s p = some k ∧ k.stage = .action ∧ o = recOp k.pass.record k.pass.op ∧ opOpc o = opc ∧ k.pass.opsRun < 64

/-- An operation follows in the record. -/
def HasNext (k : Pkt) : Prop := k.pass.op + 1 < recNops k.pass.record

/-- A pass whose operation has run and which goes on with the next one. -/
def opNext (k : Pkt) : Pkt := { k with pass := { k.pass with op := k.pass.op + 1, opsRun := k.pass.opsRun + 1 } }

/-- Packet `p` has become `k`; every other packet, and everything but the packets and the parts `ps`, is as it was. -/
def PktBecomes (ps : List Part) (s t : State) (p : Nat) (k : Pkt) : Prop :=
  pktGet t p = some k ∧ (∀ q, q ≠ p → pktGet t q = pktGet s q) ∧ ChangesOnly (.pkts :: ps) s t

/-! What a command may change. -/

/-- Every part but the queue of commands. -/
def allParts : List Part :=
  [.dev, .hw, .fw, .flash, .role, .slices, .mbx, .mctp, .ep0, .ep1, .rings, .pkts, .nextPid, .basin, .plane, .rasp, .jig, .cst, .sqr,
   .act, .csc, .twin, .prp, .itw, .cry, .nvt, .port0, .port1, .macs, .weir, .time, .tio, .plb, .ptp, .hbm, .gauge, .tap, .regs,
   .latches, .mem, .out, .fresh]

/-- The parts of the state that a command may change; every other one is as it was, the queue of commands always. -/
def mayChange : Instr → List Part
  | .supplyUp .. | .supplyRemoved .. | .supplyMonitorTrip .. | .sysRstNAssert .. | .deviceResetStart .. => allParts
  | .sysRstNDeassert .. => [.dev, .hw, .mctp, .time, .tio, .tap, .regs, .out]
  | .tbOscRangeChange .. | .deviceResetHeldExpire .. => [.dev, .hw, .mctp, .time, .tio, .regs, .out]
  | .wellheadImageVerify .. | .cascadeManifestCheck .. => [.dev, .hw, .fw]
  | .hbmTrainingDone .. | .pcieLaneErrorPoll .. => [.dev, .hw, .mbx, .ep0, .ep1, .gauge, .regs]
  | .bootSelfTestDone .. | .railSelfCheckFail ..
    => [.dev, .hw, .mbx, .ep0, .ep1, .rings, .pkts, .basin, .plane, .rasp, .jig, .cst, .csc, .twin, .cry, .macs, .gauge, .regs]
  | .bootComplete ..
    => [.dev, .hw, .fw, .role, .slices, .mbx, .ep0, .ep1, .basin, .jig, .csc, .twin, .itw, .cry, .port0, .port1, .macs, .weir, .plb, .ptp,
      .hbm, .gauge, .regs, .mem, .out, .fresh]
  | .quiescentEntryDone .. => [.dev, .hw, .fw, .mbx, .ep0, .ep1, .jig, .itw, .macs, .gauge, .regs, .out, .fresh]
  | .quiescentExitDone .. | .pipelineStallDetect .. | .actInChange .. | .actRequestTimer .. | .actorRelease ..
    => [.dev, .hw, .mbx, .ep0, .ep1, .itw, .gauge, .regs, .out]
  | .lockstepMismatch .. | .watchdogExpire .. | .spareSelfTest .. | .handoverFailure .. | .hifLaneRetire .. | .fwHandoverStart ..
  | .fwHandoverAbort .. => [.dev, .hw, .fw, .mbx, .ep0, .ep1, .gauge, .regs]
  | .wellheadResume .. => [.hw, .fw, .mbx, .ep0, .ep1, .gauge, .regs]
  | .checkpointTimer .. | .handoverSpareLoaded .. | .handoverOldPairLoaded .. => [.fw]
  | .handoverExport .. => [.fw, .mbx, .regs]
  | .handoverImportDone .. => [.hw, .fw, .mbx]
  | .clusterCodeSwitch .. => [.fw, .csc, .regs, .mem]
  | .handoverComplete ..
    => [.dev, .hw, .fw, .role, .slices, .mbx, .mctp, .ep0, .ep1, .basin, .jig, .csc, .twin, .itw, .cry, .port0, .port1, .macs, .weir,
      .plb, .ptp, .hbm, .gauge, .regs, .mem, .out, .fresh]
  | .hbmPcAutoRetire .. => [.hbm]
  | .hbmPcRetireDone .. => [.dev, .hw, .mbx, .ep0, .ep1, .basin, .hbm, .gauge, .regs]
  | .ethLaneFecThreshold .. | .laneLockLoss .. => [.dev, .hw, .mbx, .ep0, .ep1, .itw, .port0, .port1, .macs, .gauge, .regs]
  | .frameRx .. => [.rings, .pkts, .nextPid, .basin, .twin, .prp, .macs, .ptp, .gauge, .regs]
  | .twinStreamWaitEnd .. => [.rings, .pkts, .nextPid, .basin, .twin]
  | .passStart .. => [.dev, .hw, .mbx, .ep0, .ep1, .pkts, .plane, .jig, .twin, .itw, .gauge, .regs, .out]
  | .excRetry .. => [.pkts, .csc, .fresh]
  | .parseComplete .. | .raspScanComplete .. => [.pkts, .rasp, .regs]
  | .raspScanStart .. => [.pkts, .rasp]
  | .jigClassify .. | .actionRecordFetch .. | .ldi .. | .ldf .. | .stf .. | .mov .. | .add .. | .sub .. | .and .. | .or .. | .xor ..
  | .shl .. | .shr .. | .addi .. | .crc .. | .beq .. | .bne .. | .blt .. | .bge .. | .btst .. | .jump .. | .endOp .. | .ttlDec ..
  | .cstf .. | .vlanPush .. | .vlanPop .. | .encap .. | .decap .. | .setTc .. | .mark .. | .setClass .. | .setSa .. | .mirror ..
  | .pktFwdPort .. | .pktFwdHost .. | .pktFlood .. | .pktDrop .. | .pktRecirc ..
    => [.rings, .pkts, .basin, .plane, .rasp, .jig, .csc, .twin, .macs, .gauge, .regs, .fresh]
  | .lookup .. | .learn .. | .insert .. | .delete ..
    => [.rings, .pkts, .basin, .plane, .rasp, .jig, .cst, .csc, .twin, .macs, .gauge, .regs, .fresh]
  | .entUpdate .. => [.rings, .pkts, .basin, .plane, .rasp, .jig, .cst, .sqr, .csc, .twin, .macs, .gauge, .regs, .fresh]
  | .count .. => [.rings, .pkts, .basin, .plane, .rasp, .jig, .act, .csc, .twin, .macs, .gauge, .regs, .fresh]
  | .fwdPort .. | .fwdHost .. | .flood .. | .drop .. | .toEngine .. | .recirc ..
    => [.rings, .pkts, .basin, .plane, .rasp, .jig, .csc, .twin, .cry, .macs, .gauge, .regs, .fresh]
  | .cryptoTransformDone .. => [.fw, .mbx, .rings, .pkts, .basin, .plane, .rasp, .jig, .csc, .twin, .cry, .macs, .gauge, .regs, .fresh]
  | .cryptoCoreFail .. => [.dev, .hw, .mbx, .ep0, .ep1, .cry, .gauge, .regs]
  | .cryPairExpire .. => [.cry]
  | .pairResultExpire .. | .learnRefresh .. => [.cst, .regs]
  | .pairMarkExpire .. | .scribeRequest .. | .stampModeRestore .. => [.cst]
  | .scribeInsert .. => [.fw, .mbx, .cst, .sqr, .gauge, .regs]
  | .scribeLearn .. => [.mbx, .cst, .sqr, .itw, .gauge, .regs, .out]
  | .scribeDelete .. => [.fw, .mbx, .cst, .sqr, .itw, .gauge, .regs, .out]
  | .scribeUpdate .. => [.cst, .sqr, .regs]
  | .stashPromote .. => [.cst, .gauge, .regs]
  | .ageWalkVisit .. => [.cst, .sqr, .itw, .gauge, .regs, .out]
  | .lockHoldExpire .. => [.cst, .itw, .gauge, .regs, .out]
  | .cstEccInvalidate .. => [.hw, .mbx, .ep0, .ep1, .cst, .sqr, .gauge, .regs]
  | .sqrAuditComplete .. => [.fw, .mbx, .sqr, .gauge, .regs, .fresh]
  | .workItemDeliver .. | .threadFault .. => [.csc, .gauge, .regs, .mem]
  | .chDest .. | .chWaitCommit .. | .waitWake .. | .waitTimeout .. | .forkArg .. | .join .. | .suspend .. | .resume ..
  | .supervisorRestart .. => [.csc]
  | .chWord .. | .chLast .. | .chLastNb .. | .chRead .. | .wait .. | .fork .. | .unpark .. | .supThread .. | .supRegs ..
  | .supDldAck .. | .dldFire .. => [.csc, .gauge, .regs, .mem, .fresh]
  | .exit .. => [.rings, .pkts, .basin, .plane, .rasp, .jig, .csc, .twin, .macs, .gauge, .regs, .mem]
  | .park .. => [.pkts, .csc, .twin, .gauge, .regs, .mem, .fresh]
  | .abort .. => [.csc, .mem]
  | .devchLookup .. | .devchScribeInsert .. | .devchScribeDelete .. | .devchScribeUpdate .. => [.cst, .csc, .regs]
  | .devchScribeLearn .. => [.cst, .csc, .regs, .fresh]
  | .inject .. => [.rings, .pkts, .nextPid, .basin, .csc, .twin, .macs, .regs, .fresh]
  | .cscEngineEvent .. => [.mbx, .csc, .gauge, .regs]
  | .engineFault ..
    => [.dev, .hw, .mbx, .ep0, .ep1, .rings, .pkts, .basin, .plane, .rasp, .jig, .cst, .csc, .twin, .cry, .macs, .gauge, .regs, .mem,
      .fresh]
  | .spareMapped .. => [.dev, .hw, .mbx, .ep0, .ep1, .csc, .gauge, .regs, .mem]
  | .cscDeadlock .. => [.mbx, .gauge, .regs]
  | .exitOrderHandoff .. => [.rings, .pkts, .basin, .plane, .rasp, .jig, .csc, .twin, .macs, .regs]
  | .dovetailArrive .. | .dovetailStoreWaitEnd ..
    => [.hw, .mbx, .ep0, .ep1, .rings, .pkts, .basin, .plane, .rasp, .jig, .csc, .twin, .prp, .macs, .gauge, .regs, .out, .fresh]
  | .openRecordExpire .. => [.mbx, .twin, .gauge, .regs]
  | .railRejoin .. => [.dev, .hw, .fw, .mbx, .ep0, .ep1, .csc, .twin, .gauge, .regs, .mem]
  | .prpNodeForget .. => [.prp]
  | .flitRx .. => [.dev, .hw, .fw, .mbx, .ep0, .ep1, .jig, .cst, .sqr, .itw, .gauge, .regs, .out, .fresh]
  | .heartbeat .. => [.hw, .fw, .mbx, .ep0, .ep1, .jig, .itw, .gauge, .regs, .out, .fresh]
  | .heartbeatSend .. => [.itw, .gauge, .regs, .out]
  | .heartbeatMissLimit .. | .aliveLowTimeout .. => [.dev, .hw, .fw, .mbx, .ep0, .ep1, .jig, .itw, .gauge, .regs, .out, .fresh]
  | .grantTimer .. => [.dev, .hw, .mbx, .ep0, .ep1, .itw, .gauge, .regs]
  | .itwLinkUp .. => [.mbx, .jig, .itw, .gauge, .regs, .out]
  | .learnReq .. => [.cst, .regs, .fresh]
  | .learnApply .. => [.hw, .mbx, .ep0, .ep1, .cst, .sqr, .itw, .gauge, .regs, .fresh]
  | .learnDelete .. | .resyncMark .. => [.hw, .mbx, .ep0, .ep1, .cst, .sqr, .itw, .gauge, .regs, .out]
  | .jigPrepare .. | .jigReady .. | .jigVersionSwitch .. | .jigCommit .. => [.fw, .mbx, .jig, .itw, .gauge, .regs, .out]
  | .jigData .. => [.jig, .itw, .gauge, .regs, .out, .fresh]
  | .jigGo .. | .mirrorGoTimeout .. | .jigSlotFree .. => [.jig]
  | .jigAck .. | .jigRuleWrite .. | .jigRuleClear .. | .jigProfileWrite .. | .jigStageLoad .. | .jigMirrorSet .. | .mirrorAckTimeout ..
    => [.fw, .mbx, .jig, .gauge, .regs]
  | .mirrorReadyTimeout .. => [.fw, .mbx, .jig, .itw, .gauge, .regs, .out, .fresh]
  | .jigCompileDone ..
    => [.dev, .hw, .fw, .mbx, .ep0, .ep1, .rings, .pkts, .basin, .plane, .rasp, .jig, .cst, .csc, .twin, .itw, .cry, .macs, .gauge, .regs,
      .out]
  | .jigDrainSlow .. => [.mbx, .jig, .gauge, .regs]
  | .parseValidateDone .. | .parseBankSwitch .. => [.fw, .mbx, .plane, .rasp, .gauge, .regs]
  | .stageBankCopy .. => [.plane, .rasp]
  | .actRecordSwitch .. | .actRecordWrite .. => [.fw, .mbx, .act, .gauge, .regs]
  | .calendarReservationSwitch .. => [.fw, .slices, .mbx, .gauge, .regs]
  | .saDeleteSwitch .. | .crySaWrite .. | .crySaDelete .. | .tnlTemplateWrite .. | .tlsRxResync .. => [.fw, .mbx, .cry, .gauge, .regs]
  | .macTxSelect .. => [.rings, .basin, .macs, .weir, .gauge, .regs, .out]
  | .macTxDone .. | .ptpSyncSend .. | .ptpDelayReqSend .. | .ptpAnnounceSend ..
    => [.hw, .mbx, .ep0, .ep1, .rings, .nextPid, .basin, .macs, .ptp, .gauge, .regs, .out, .fresh]
  | .underrun .. => [.macs, .gauge, .regs, .out]
  | .txLinkWaitExpire .. | .rxNopostExpire .. => [.rings, .basin, .macs, .regs]
  | .pauseExpire .. | .xoffLeave .. | .pfcRefresh .. | .pfcStormRelease .. | .preemptVerify .. => [.macs]
  | .pfcStorm .. | .gclChangeTime .. => [.mbx, .macs, .gauge, .regs]
  | .weirTick .. => [.weir, .regs]
  | .gateChange .. => [.macs, .gauge, .regs]
  | .linkUp .. => [.mbx, .ep0, .ep1, .port0, .port1, .macs, .gauge, .regs]
  | .linkFault .. => [.mbx, .ep0, .ep1, .macs, .gauge, .regs]
  | .oscLoss .. => [.dev, .mbx, .time, .gauge, .regs]
  | .oscReturn .. | .ethRefclkReturn .. => [.dev, .time]
  | .timeStep .. => [.fw, .mbx, .cst, .macs, .time, .tio, .gauge, .regs, .out]
  | .timeTxqPop .. => [.macs, .out]
  | .ptpMsgRx .. => [.hw, .mbx, .ep0, .ep1, .rings, .nextPid, .basin, .macs, .plb, .ptp, .gauge, .regs, .out, .fresh]
  | .ptpAnnounceTimeout .. => [.mbx, .ptp, .gauge, .regs]
  | .plumbSample .. => [.hw, .fw, .mbx, .time, .plb, .gauge, .regs]
  | .plumbTimeout .. => [.mbx, .time, .plb, .gauge, .regs]
  | .plbHostDHiWrite .. => [.plb, .regs]
  | .tioArm .. => [.mbx, .tio, .gauge, .regs, .out]
  | .tioOutputEdge .. | .tioCapPop .. => [.tio, .out]
  | .tioEdgeCapture .. => [.tio, .plb, .regs]
  | .timeNowSLoRead .. | .counterLoRead .. | .rcRegisterRead .. => [.ep0, .ep1, .macs, .time, .tio, .regs, .latches, .out]
  | .pcieLinkTrain .. => [.mbx, .ep0, .ep1, .gauge, .regs]
  | .endpointContain .. => [.dev, .hw, .role, .mbx, .ep0, .ep1, .gauge, .regs, .out]
  | .containReleaseResume .. | .containReleaseReset .. | .busMasterEnableWrite .. | .configWrite .. | .txComplete ..
  | .tagQuarantineExpire .. => [.hw, .mbx, .ep0, .ep1, .rings, .basin, .nvt, .macs, .gauge, .regs, .out]
  | .flrInitiate .. | .vfEnableChange .. => [.ep0, .ep1, .rings, .gauge, .regs, .out]
  | .flrComplete .. => [.mbx, .ep0, .ep1, .cry, .nvt, .gauge, .regs, .latches, .out]
  | .bar0Access ..
    => [.dev, .hw, .fw, .mbx, .mctp, .ep0, .ep1, .rings, .basin, .cst, .itw, .nvt, .macs, .time, .tio, .plb, .gauge, .regs, .latches,
      .mem, .out]
  | .pushWrite .. | .hifVfDbTx .. | .hifVfDbRx .. | .hifVfDbCq .. | .txDescriptorRead ..
    => [.hw, .mbx, .ep0, .ep1, .rings, .basin, .macs, .gauge, .regs, .out]
  | .hifVfDbChain .. => [.ep0, .ep1, .nvt, .regs, .out]
  | .hifVfItr .. => [.ep0, .ep1, .regs]
  | .hifLtrWrite .. => [.regs, .out]
  | .txFrameInBasin .. => [.hw, .mbx, .ep0, .ep1, .rings, .pkts, .nextPid, .basin, .twin, .nvt, .macs, .gauge, .regs, .out]
  | .rxDeliver .. => [.mbx, .ep0, .ep1, .rings, .basin, .cry, .nvt, .macs, .gauge, .regs, .out]
  | .writeBack .. => [.ep0, .ep1, .rings, .out]
  | .msixSend .. | .itrHoldoffExpire .. | .intaChange .. => [.ep0, .ep1, .out]
  | .cplRx .. | .cplTimeout .. => [.hw, .mbx, .ep0, .ep1, .rings, .basin, .nvt, .macs, .gauge, .regs, .out, .fresh]
  | .atsInvalidate .. | .tlpViolation .. => [.ep0, .ep1, .regs, .out]
  | .queueFlush .. => [.fw, .mbx, .rings, .pkts, .basin, .plane, .rasp, .jig, .csc, .twin, .nvt, .macs, .gauge, .regs]
  | .drainTimeout .. => [.ep0, .ep1, .rings]
  | .chainBlockRead .. => [.hw, .mbx, .ep0, .ep1, .nvt, .gauge, .regs, .out, .fresh]
  | .chainReread .. => [.ep0, .ep1, .nvt, .out]
  | .mbxPost .. | .mbxOutboundBufferWrite .. => [.mbx, .ep0, .ep1, .regs]
  | .mbxAck .. | .vdmAck .. => [.mbx, .mctp, .ep0, .ep1, .regs, .out]
  | .mbxFwPost .. | .mbxFwAck .. => [.mbx, .ep0, .ep1, .regs, .out]
  | .mbxCrossing .. | .errlogWindowClose .. | .sensorUpdate .. => [.hw, .mbx, .ep0, .ep1, .gauge, .regs]
  | .fwCommandDispatch .. => [.fw, .mbx, .ep0, .ep1, .gauge, .regs, .out]
  | .heartwoodWrite .. | .hwdWrite .. | .plbConfig .. => [.hw, .fw, .mbx, .plb, .gauge, .regs]
  | .registerWrite ..
    => [.dev, .hw, .fw, .mbx, .mctp, .ep0, .ep1, .rings, .basin, .cst, .itw, .nvt, .macs, .time, .tio, .plb, .gauge, .regs, .out]
  | .snapshotCapture .. | .deviceQuery .. | .eventMaskSet .. | .eventMaskRead .. | .echo .. | .mgrRoleQuery .. | .hifWttRead ..
  | .hifLinkQuery .. | .hwdRead .. | .deviceModeQuery .. | .retirementQuery .. | .sliceQuery .. | .funcQuery .. | .sliceList ..
  | .poolQuery .. | .queueQuery .. | .jigRuleRead .. | .jigProfileRead .. | .jigSlotQuery .. | .jigMirrorStatus .. | .parseGraphRead ..
  | .raspPatternRead .. | .cstEntryRead .. | .actRecordRead .. | .sqrResultRead .. | .portStatus .. | .weirShaperRead ..
  | .slcGclRead .. | .timeGet .. | .plbStatus .. | .ptpPortStatus .. | .crySaRead .. | .tnlTemplateRead .. | .nvtContextRead ..
  | .twinStatus .. | .twinSelSet .. | .prpPairSet .. | .prpNodeRead .. | .gauSnapshot .. | .gauSnapshotRead .. | .gauCounterRead ..
  | .gauTraceConfig .. | .gauTraceStart .. | .gauTraceStop .. | .gauTraceRead .. | .gauErrlogRead .. | .gauErrlogQuery ..
  | .gauSensorRead .. | .gauDevRead .. | .fwImageQuery .. | .fwManifestRead .. | .fwHandoverStatus .. | .fwRestrictedReason ..
  | .whCheckpoint .. | .whPairStatus .. | .cscClusterQuery .. | .cscWaitgraphRead .. => [.fw, .mbx, .gauge, .regs]
  | .mctpPacketRx .. | .mctpAssemblyTimeout .. => [.mctp]
  | .setEndpointId .. | .reopen .. => [.mbx, .mctp, .regs, .out]
  | .getEndpointId .. | .getEndpointUuid .. | .getMctpVersionSupport .. | .getMessageTypeSupport .. | .getVdmSupport ..
  | .mctpUnsupportedControl .. | .pldmDiscovery .. => [.mctp, .out]
  | .vdmMessage .. | .securedMessage .. => [.hw, .mbx, .mctp, .ep0, .ep1, .gauge, .regs, .out]
  | .spdmRequest .. => [.mbx, .mctp, .regs, .out, .fresh]
  | .pldmSensorRead .. => [.mctp, .out, .fresh]
  | .pldmUpdateComponent .. => [.fw, .flash, .mctp, .out, .fresh]
  | .pldmActivateFirmware .. => [.dev, .hw, .fw, .mbx, .mctp, .ep0, .ep1, .gauge, .regs, .out, .fresh]
  | .bypass .. | .samplePreload .. | .extest .. | .highz .. | .clamp .. | .extestPulse .. | .extestTrain .. => [.tap]
  | .idcode .. => [.tap, .out]
  | .mgrRoleConfig .. | .basinAreaSet .. | .timeTrimSet .. | .timeLatSet .. | .itwConfig .. | .gauErrlogClear .. | .fwBootSelect ..
    => [.hw, .fw, .mbx, .gauge, .regs]
  | .mgrRoleTransfer .. => [.fw, .role, .mbx, .gauge, .regs]
  | .mgrRoleReclaim .. => [.dev, .hw, .fw, .role, .mbx, .ep0, .ep1, .gauge, .regs]
  | .mctpConfig .. => [.hw, .fw, .mbx, .mctp, .gauge, .regs]
  | .hifWttSet .. | .queuePfItrSet .. => [.fw, .mbx, .ep0, .ep1, .gauge, .regs]
  | .deviceModeSet .. => [.dev, .hw, .fw, .mbx, .ep0, .ep1, .rings, .basin, .itw, .nvt, .macs, .gauge, .regs, .out]
  | .hbmPcRetire .. => [.fw, .mbx, .hbm, .gauge, .regs]
  | .sliceCreate .. | .sliceModify .. => [.fw, .slices, .mbx, .csc, .weir, .gauge, .regs, .fresh]
  | .sliceDestroy ..
    => [.fw, .slices, .mbx, .ep0, .ep1, .rings, .pkts, .basin, .plane, .rasp, .jig, .cst, .sqr, .csc, .twin, .itw, .cry, .nvt, .macs,
      .weir, .gauge, .regs, .out, .fresh]
  | .queueCreate .. | .queueModify .. | .resetRecordRead .. => [.fw, .mbx, .rings, .gauge, .regs]
  | .queueDestroy .. => [.fw, .mbx, .ep0, .ep1, .rings, .gauge, .regs]
  | .parseGraphWrite .. | .parseGraphCommit .. => [.fw, .mbx, .plane, .gauge, .regs]
  | .raspPatternWrite .. | .raspCommit .. => [.fw, .mbx, .rasp, .gauge, .regs]
  | .cstEntryAdd .. | .cstEntryDelete .. | .cstFlush .. | .cstFloodSet .. => [.fw, .mbx, .cst, .gauge, .regs]
  | .cstEntryUnlock .. => [.fw, .mbx, .cst, .itw, .gauge, .regs, .out]
  | .sqrExpectWrite .. | .sqrAuditStart .. => [.fw, .mbx, .sqr, .gauge, .regs]
  | .portModeSet .. => [.hw, .fw, .mbx, .ep0, .ep1, .basin, .port0, .port1, .macs, .gauge, .regs]
  | .portLaneRetire .. => [.dev, .hw, .fw, .mbx, .ep0, .ep1, .port0, .port1, .macs, .gauge, .regs]
  | .pfcConfigSet .. => [.fw, .mbx, .basin, .gauge, .regs]
  | .weirShaperSet .. | .weirLeafMapSet .. => [.fw, .mbx, .weir, .gauge, .regs]
  | .slcGclWrite .. | .slcGclCommit .. | .slcPreemptSet .. => [.fw, .mbx, .macs, .gauge, .regs]
  | .timeSet .. | .timeOffset .. | .timeFreqSet .. => [.fw, .mbx, .time, .gauge, .regs]
  | .plbReacquire .. | .plbTrimSave .. => [.fw, .mbx, .plb, .gauge, .regs]
  | .ptpInstanceSet .. | .ptpPortSet .. => [.hw, .fw, .mbx, .ptp, .gauge, .regs]
  | .tioConfig .. => [.fw, .mbx, .tio, .gauge, .regs, .out]
  | .tioCaptureRead .. => [.fw, .mbx, .tio, .gauge, .regs]
  | .nvtContextSet .. => [.fw, .mbx, .ep0, .ep1, .nvt, .gauge, .regs, .out]
  | .nvtResync .. => [.fw, .mbx, .nvt, .gauge, .regs]
  | .twinRailRetire ..
    => [.dev, .hw, .fw, .mbx, .ep0, .ep1, .rings, .pkts, .basin, .plane, .rasp, .jig, .cst, .csc, .twin, .cry, .macs, .gauge, .regs]
  | .twinRailRestore .. | .restoreSelfTestFail .. => [.fw, .mbx, .twin, .gauge, .regs]
  | .itwStatus .. => [.fw, .mbx, .gauge, .regs, .fresh]
  | .itwActorRelease .. => [.dev, .hw, .fw, .mbx, .ep0, .ep1, .itw, .gauge, .regs, .out]
  | .itwResync .. | .itwResyncComplete .. => [.fw, .mbx, .itw, .gauge, .regs, .out]
  | .fwImageBegin .. | .fwImageData .. | .fwImageEnd .. | .fwImageErase .. | .fwManifestWrite .. => [.fw, .flash, .mbx, .gauge, .regs]
  | .cscEngineRetire .. => [.dev, .hw, .fw, .mbx, .ep0, .ep1, .csc, .gauge, .regs, .mem, .fresh]
  | .cscPacketDispose .. => [.fw, .mbx, .rings, .pkts, .basin, .plane, .rasp, .jig, .csc, .twin, .macs, .gauge, .regs]
  | .timebaseTick .. => [.time]
  | .ethRefclkLoss .. => [.dev, .fw, .mbx, .ep0, .ep1, .jig, .itw, .macs, .time, .gauge, .regs, .out, .fresh]
  | .engineMemoryScrub .. => [.regs]
  | .doeDiscovery .. => [.out]
  | .fabricAccess ..
    => [.dev, .hw, .fw, .mbx, .mctp, .ep0, .ep1, .rings, .basin, .cst, .csc, .itw, .nvt, .macs, .time, .tio, .plb, .gauge, .regs,
      .latches, .mem, .out, .fresh]

/-- The events of R574's table, by the commands that bring them: the base modes that a command may lead from and to. -/
def baseMove (c : Instr) (a b : BaseMode) : Bool :=
  match c with
  | .supplyUp => a = .off && (b = .held || b = .boot)
  | .supplyRemoved => b = .off
  | .sysRstNAssert _ => a ≠ .off && b = .held
  | .supplyMonitorTrip _ => a ≠ .off && b = .held
  | .deviceResetStart => a ≠ .off && b = .held
  | .sysRstNDeassert => a = .held && b = .boot
  | .tbOscRangeChange _ => a = .held && b = .boot
  | .deviceResetHeldExpire => a = .held && b = .boot
  | .bootComplete => a = .boot && (b = .provision || b = .restricted)
  | .deviceModeSet _ _ => (a = .provision && b = .service) || (a = .service && b = .provision)
  | .quiescentEntryDone => a = .provision && b = .quiescent
  | .quiescentExitDone => a = .quiescent && b = .provision
  | .handoverComplete => a = .restricted && b = .provision
  | _ => false

/-! What every step keeps. -/

/-- A direction of a channel holds at most two messages; at most one bears the sender's current generation, and of two the later one
does (R505). -/
def dirOk (gen : BitVec 16) (ms : List Msg) : Bool :=
  decide (ms.length ≤ 2 ∧ (ms.filter (fun m => m.senderGen = gen)).length ≤ 1) &&
    (decide (ms.length < 2) || ms.getLast?.any (fun m => m.senderGen = gen))

/-- Both directions of every channel keep R505. -/
def MailboxesOk (s : State) : Prop :=
  ∀ p ∈ s.mbx.chans, dirOk p.2.hostGen p.2.toFw = true ∧ dirOk s.mbx.fwGen p.2.toHost = true

/-- The memory is in its canonical form, the error log holds at most 4,096 entries (R629), and a journal at most 64 (R541). -/
def StoresOk (s : State) : Prop :=
  Memory.wf s.mem = true ∧ s.gauge.errlog.length ≤ 4096 ∧ ∀ p ∈ s.mbx.chans, p.2.journal.length ≤ 64

end Sys2Proof.Machine
end

