-- ==== Sys2Proof/Certificates/Slice0/Obligations.lean ====
section
/-! DEFINITION. The statements for the provers. Each `Obligations.<Name>` is one statement; OBLIGATIONS.json lists them. The words
they are written in (`Completes`, `AnswersOk`, `ChangesOnly`, `mayChange` and so on) are defined in Safety.lean. Every row of the opcode table
completes in at least one clause of a family's statement, under hypotheses on the state and the operands alone. Sys2Proof/Tests/Slice0.lean has
for each statement with hypotheses a theorem `witness_<Name>` whose parts meet the hypotheses of its clauses. -/

open Sys2Proof Sys2Proof.Machine

/-- A step takes the command at the front of the queue and runs it with the queue's rest. On an empty queue the block idles; that clause
is the model's choice (notes/assumptions/2.md). Readings and choices of the model that it rests on: notes/assumptions/2.md. -/
def Obligations.AStepRunsTheFrontCommand : Prop :=
  (∀ s c rest, s.pending = c :: rest → step s = exec c { s with pending := rest }) ∧ ∀ s, s.pending = [] → step s = .next s

/-- The state at reset (R9, R38, R504, R572 to R574, R609): OFF, registers at their Reset values and counters at 0, Heartwood as
shipped, no slice, message, packet, frame or entry anywhere, and the invariants of the mailboxes and stores hold. Readings and choices
of the model that it rests on: notes/assumptions/5.md and notes/assumptions/7.md. -/
def Obligations.ResetIsOffAndEmpty : Prop :=
  State.reset.dev.base = .off ∧ State.reset.pending = [] ∧ (∀ a, reg State.reset a = regReset a) ∧ (∀ a, counter State.reset a = 0) ∧
    (∀ w, hwWord State.reset w = hwShipped w) ∧ (∀ n, sliceGet State.reset n = none) ∧
    (∀ ch, (chanGet State.reset ch).toFw = [] ∧ (chanGet State.reset ch).toHost = [] ∧ (chanGet State.reset ch).journal = [] ∧
      (chanGet State.reset ch).mask = defaultMask ch) ∧
    (∀ p, pktGet State.reset p = none) ∧ State.reset.basin.frames = [] ∧ allEntries State.reset = [] ∧ State.reset.gauge.errlog = [] ∧
    (∀ a, memRead State.reset.mem a = memDefault) ∧ MailboxesOk State.reset ∧ StoresOk State.reset

/-- Every command completes: whatever the state and the operands, it answers a next state, and no step ends in a fault or a refusal.
Readings and choices of the model that it rests on: notes/assumptions/4.md. -/
def Obligations.EveryCommandCompletes : Prop :=
  (∀ c s, ∃ t, exec c s = .next t) ∧ ∀ s, ∃ t, step s = .next t

/-- The frame of every command: whatever the state and the operands, each part of the state that `mayChange` does not list for a command
is as it was before, all memory, registers, tables and queues of commands included, and a step removes the front command alone. Readings
and choices of the model that it rests on: notes/assumptions/3.md. -/
def Obligations.EveryCommandKeepsWhatItMayNotChange : Prop :=
  (∀ c s t, exec c s = .next t → ∀ p : Part, p ∈ mayChange c ∨ p.same s t) ∧
    (∀ c s t, exec c s = .next t → t.pending = s.pending) ∧ ∀ s t, step s = .next t → t.pending = s.pending.tail

/-- Every step keeps the mailboxes in order (R505): each direction of a channel holds at most two messages, at most one of them bears
the sender's current generation, and of two the later one does. -/
def Obligations.EveryStepKeepsTheMailboxesInOrder : Prop :=
  ∀ s t, MailboxesOk s → step s = .next t → MailboxesOk t

/-- Every step keeps the stores within their bounds (R541, R629): the memory in its canonical form, at most 4,096 entries in the error
log and at most 64 in a journal. Readings and choices of the model that it rests on: notes/assumptions/5.md. -/
def Obligations.EveryStepKeepsTheStoresInBounds : Prop :=
  ∀ s t, StoresOk s → step s = .next t → StoresOk t

/-- The base mode changes only on the events of R574's table, each from the modes and to the modes that the table gives it. Readings and
choices of the model that it rests on: notes/assumptions/18.md. -/
def Obligations.TheBaseModeChangesOnlyOnItsEvents : Prop :=
  (∀ c s t, exec c s = .next t → t.dev.base ≠ s.dev.base → baseMove c s.dev.base t.dev.base = true) ∧
    ∀ s t, step s = .next t → t.dev.base ≠ s.dev.base → ∃ c, s.pending.head? = some c ∧ baseMove c s.dev.base t.dev.base = true

/-- A low pulse on SYS_RST_N of 1 µs or longer resets the adapter, and one of 200 ns or shorter changes nothing (R647). -/
def Obligations.ResetPulsesActByTheirWidth : Prop :=
  (∀ s w, s.dev.base ≠ .off → 1000 ≤ w → Completes (.sysRstNAssert w) s (fun t => HeldWith s t 1 ∧ t.dev.sysRstN = false)) ∧
    ∀ s w, w ≤ 200 → exec (.sysRstNAssert w) s = .next s

/-- Wrapping values are compared by their difference (R62), a compact stamp is the time in units of 1/256 ns (R64), and a key has two
different candidate buckets from its two hashes (R77). -/
def Obligations.ComparisonsStampsAndBucketsFollowTheirRules : Prop :=
  (∀ n a b d, 1 ≤ n → a < 2 ^ n → b < 2 ^ n → d = distance n a b →
    (d : Int) = ((a : Int) - b) % (2 : Int) ^ n ∧ (d = 0 ↔ a = b) ∧ (later n a b = true ↔ 1 ≤ d ∧ d ≤ 2 ^ (n - 1) - 1) ∧
    (earlier n a b = true ↔ 2 ^ (n - 1) ≤ d ∧ d ≤ 2 ^ n - 1)) ∧
  (∀ v : TimeVal, (stampOf v).toNat = ((v.s.toNat * 10 ^ 9 + v.ns.toNat) * 256 + bits (visibleFrac v) 31 24) % 2 ^ 64) ∧
  (∀ key, (h1 key = crc32c key ∧ h2 key = crc32c ([0x6C, 0x1B, 0xD0, 0x4E] ++ key)) ∧ (buckets key).1 = bits (h1 key).toNat 19 0 ∧
    (buckets key).2 = (if bits (h2 key).toNat 19 0 = bits (h1 key).toNat 19 0 then bits (h1 key).toNat 19 0 ^^^ 1
      else bits (h2 key).toNat 19 0) ∧
    (buckets key).1 < 1048576 ∧ (buckets key).2 < 1048576 ∧ (buckets key).1 ≠ (buckets key).2)

/-- A shaper of B b/s gains floor(B ÷ 2,048) or one more in each tick by its remainder, and in the 16,777,216 ticks of a second exactly
B ÷ 8 bytes, while its depth does not limit it (R69). -/
def Obligations.WeirTicksGainExactlyTheRate : Prop :=
  (∀ rate depth rem, ∀ level : Int, rem < 2048 → level + (rate / 2048 + 1 : Nat) ≤ (depth * 65536 : Nat) →
    bucketTick rate depth level rem = (if 2048 ≤ rem + rate % 2048 then (level + (rate / 2048 + 1 : Nat), rem + rate % 2048 - 2048)
      else (level + (rate / 2048 : Nat), rem + rate % 2048))) ∧
  ∀ rate depth rem, ∀ level : Int, rem < 2048 → level + (rate * 8192 : Nat) ≤ (depth * 65536 : Nat) →
    Nat.iterate (fun x : Int × Nat => bucketTick rate depth x.1 x.2) 16777216 (level, rem) = (level + (rate * 8192 : Nat), rem)

/-- When several Jig rules match, the one with the highest PRIORITY wins, and among equal ones the one with the lowest index (R127);
without a match none does. The rules of a set lie in the order of their indices. -/
def Obligations.TheHighestPriorityRuleWins : Prop :=
  (∀ set prof keys, (∀ x ∈ set.rules, ruleMatches x.2 prof keys = false) ↔ ruleWinner set prof keys = none) ∧
  ∀ set prof keys i r, mapWf set.rules = true → ruleWinner set prof keys = some (i, r) →
    (i, r) ∈ set.rules ∧ ruleMatches r prof keys = true ∧
    ∀ j q, (j, q) ∈ set.rules → ruleMatches q prof keys = true → le q 0 2 < le r 0 2 ∨ (le q 0 2 = le r 0 2 ∧ i ≤ j)

/-- Rounding is to the nearest representable value, and a value exactly half-way goes to the even one (R53). -/
def Obligations.RoundingIsToNearestWithHalvesToEven : Prop :=
  ∀ (num : Int) (den : Nat) (q : Int), 0 < den → q = roundHalfEven num den →
    -(den : Int) ≤ 2 * (q * den - num) ∧ 2 * (q * den - num) ≤ den ∧
    ((2 * (q * den - num) = den ∨ 2 * (q * den - num) = -(den : Int)) → q % 2 = 0)

/-- Registers (R9 to R13, R61, R619): a write stores by access type, a read gives the present value and clears RC bits, the lower word
of a 64-bit quantity latches the upper one for its master, and TIME_NOW latches the whole time value. Heartwood writes (R608 to R611): a
word takes the bits that its map names, and the words of an atomic pair take effect together. Readings and choices of the model that it
rests on: notes/assumptions/16.md, notes/assumptions/17.md and notes/assumptions/70.md. -/
def Obligations.RegistersAndHeartwoodWordsAreReadAndWritten : Prop :=
  ((∀ s master a v h, a % 4 = 0 → a < 0x1000000000000 → s.dev.base ≠ .off → s.dev.base ≠ .held → regFind a = some h → viewWord h = none →
    h.desc.rw ||| h.desc.wo ||| h.desc.w1c ||| h.desc.w1s ≠ 0 → regHook s master a 15 v.toNat = none →
    exec (.registerWrite master a 15 v) s = .next (regAfter s a 15 v.toNat h.desc)) ∧
  (∀ s a d be v, (reg (regStore s a d be v) a).toNat = (((reg s a).toNat &&& (0xFFFFFFFF - (enableMask be &&& (d.rw ||| d.wo)))) |||
    (v &&& (enableMask be &&& (d.rw ||| d.wo)))) &&& (0xFFFFFFFF - (v &&& enableMask be &&& d.w1c))) ∧
  (∀ s master a be v, a < 0x1000000000000 → s.dev.base = .off ∨ s.dev.base = .held → exec (.registerWrite master a be v) s = .next s) ∧
  (∀ c ∈ [Instr.rcRegisterRead, Instr.counterLoRead], ∀ s master a h, a % 4 = 0 → a < 0x1000000000000 → s.dev.base ≠ .off →
    s.dev.base ≠ .held → regFind a = some h → h.desc.rc ≤ 0xFFFFFFFF →
    (s.latches = [] → Completes (c master a) s (fun t => Emits s t [.regRead master (regNow s a)])) ∧
    (s.latches = [] → h.desc.lower = false → a ≠ r_TIME_NOW_S → (a < 0x1310010000 ∨ 0x1318000000 ≤ a) → (a < 0x1330020000 ∨ 0x1330020280 ≤ a) →
      Completes (c master a) s (fun t => (reg t a).toNat &&& h.desc.rc = 0 ∧ ChangesOnly [.regs, .out] s t)) ∧
    (s.latches = [] → h.desc.lower = true → h.desc.rc = 0 → a ≠ r_TIME_NOW_S → (a < 0x1310010000 ∨ 0x1318000000 ≤ a) →
      (a < 0x1330020000 ∨ 0x1330020280 ≤ a) → Completes (c master a) s (fun t =>
        t.latches = [⟨master, latchIsland a, a + 4, regNow s (a + 4)⟩] ∧ ChangesOnly [.latches, .out] s t)) ∧
    (∀ l, s.latches = [l] → l.master = master → l.island = latchIsland a → l.addr = a → Completes (c master a) s (fun t =>
      Emits s t [.regRead master l.value] ∧ t.latches = [] ∧ ChangesOnly [.latches, .out] s t))) ∧
  (∀ s master, s.dev.base ≠ .off → s.dev.base ≠ .held → s.latches = [] → Completes (.timeNowSLoRead master) s (fun t =>
    Emits s t [.regRead master (regNow s r_TIME_NOW_S)] ∧ t.time = { s.time with latch := s.time.now } ∧
    ChangesOnly [.time, .latches, .out] s t))) ∧
  ((∀ s master w v, s.dev.base ≠ .off → s.dev.base ≠ .held → 1 ≤ w → w ≤ 1023 → w ≠ 0x082 → pairLower w = false → pairLower (w - 1) = false →
    Completes (.heartwoodWrite master w v) s (fun t => hwWord t w = BitVec.ofNat 32 (v.toNat &&& hwMask w) ∧
      (∀ x, x ≠ w → hwWord t x = hwWord s x) ∧ t.hw.writes = s.hw.writes + 1 ∧ ChangesOnly [.hw] s t)) ∧
  (∀ s master w v, s.dev.base ≠ .off → s.dev.base ≠ .held → pairLower w = true → Completes (.heartwoodWrite master w v) s (fun t =>
    (master, w, v) ∈ t.hw.staged ∧ t.hw.words = s.hw.words ∧ t.hw.writes = s.hw.writes ∧ ChangesOnly [.hw] s t)) ∧
  (∀ s master w v u, s.dev.base ≠ .off → s.dev.base ≠ .held → pairLower w = true → s.hw.staged = [(master, w, u)] →
    Completes (.heartwoodWrite master (w + 1) v) s (fun t => hwWord t w = BitVec.ofNat 32 (u.toNat &&& hwMask w) ∧
      hwWord t (w + 1) = BitVec.ofNat 32 (v.toNat &&& hwMask (w + 1)) ∧ t.hw.staged = [] ∧ ChangesOnly [.hw] s t)) ∧
  (∀ s master w v, s.dev.base = .off ∨ s.dev.base = .held ∨ 1023 < w → exec (.heartwoodWrite master w v) s = .next s))

/-- The internal address space and the BAR0 windows (R30 to R32, R428 to R430): bytes of HBM are stored and read where an access names
them, an access that reaches nothing is answered with an error, and a window that does not grant one reads as ones. Readings and choices
of the model that it rests on: notes/assumptions/5.md, notes/assumptions/70.md and notes/assumptions/71.md. -/
def Obligations.MappedAccessesReachTheirBytes : Prop :=
  (∀ s master a b, masterRuns s master = true → b ≠ [] → a + b.length ≤ traceBase s → Completes (.fabricAccess master a 0 (some b)) s (fun t =>
    Stored s t a b ∧ ChangesOnly [.mem] s t)) ∧
  (∀ s master a n, masterRuns s master = true → 0 < n → a + n ≤ traceBase s → exec (.fabricAccess master a n none) s =
    .next (emit s (.fabricRead master (some (memReadN s.mem a n))))) ∧
  (∀ s master a n, masterRuns s master = true → 0 < n → mappedAll a n = false → master < 4096 ∨ 4608 ≤ master →
    exec (.fabricAccess master a n none) s = .next (emit s (.fabricRead master none))) ∧
  (∀ s master a b, masterRuns s master = true → b ≠ [] → mappedAll a b.length = false → exec (.fabricAccess master a 0 (some b)) s =
    .next (errlog s 0x0101 (masterIsland master) 0xFFFF a (toLe 1 (masterIsland master)))) ∧
  (∀ s master a n d, masterRuns s master = false → exec (.fabricAccess master a n d) s = .next s) ∧
  (∀ s ep off w a, hostGate s ep 0 = .open_ → w = wttGet s ep (off / 0x40000) →
    a = w.1.toNat / 262144 * 262144 + 4294967296 * w.2.toNat + off % 0x40000 →
    (∀ n, 0 < n → n ≤ 64 → off + n ≤ 0x4000000 → a + n ≤ traceBase s → bitAt w.1.toNat 0 = true → bitAt w.1.toNat 1 = true →
      exec (.bar0Access ep off n none) s = .next (emit s (.completion ep 0 (some (memReadN s.mem a n))))) ∧
    (∀ n, 0 < n → n ≤ 64 → off + n ≤ 0x4000000 → ep < 2 → (bitAt w.1.toNat 0 && bitAt w.1.toNat 1) = false → Completes (.bar0Access ep off n none) s
      (fun t => Emits s t [.completion ep 0 (some (List.replicate n 0xFF))] ∧ Counted s t (r_HIF_CNT_WIN_ERR ep) 1 ∧
        ChangesOnly [.regs, .out] s t)) ∧
    (∀ b, b ≠ [] → off + b.length ≤ 0x4000000 → a + b.length ≤ traceBase s → bitAt w.1.toNat 0 = true → bitAt w.1.toNat 2 = true →
      Completes (.bar0Access ep off 0 (some b)) s (fun t => Stored s t a b ∧ ChangesOnly [.mem] s t)) ∧
    (∀ b, b ≠ [] → off + b.length ≤ 0x4000000 → ep < 2 → (bitAt w.1.toNat 0 && bitAt w.1.toNat 2) = false →
      Completes (.bar0Access ep off 0 (some b)) s (fun t => Counted s t (r_HIF_CNT_WIN_ERR ep) 1 ∧ ChangesOnly [.regs] s t)))

/-- Resets (R572 to R574, R652): the loss of a supply, a trip and a device reset discard every part but Heartwood, the flash and the
pins' levels; HELD begins with the cause, and OFF when the supply is removed. A pulse of SYS_RST_N between 200 ns and 1 µs does one or
the other (R647). HELD ends in BOOT when SYS_RST_N is high, the supplies and TB_OSC are in range and a device reset's 1 ms is over
(R572, R574, R582): the time value starts at 0. While one of them is missing HELD goes on. Readings and choices of the model that it
rests on: notes/assumptions/4.md and notes/assumptions/69.md. -/
def Obligations.ResetsDiscardEverythingAndHeldEndsInBoot : Prop :=
  ((∀ s, Completes .supplyRemoved s (fun t => (∀ p ∈ volatileParts, p.same State.reset t) ∧ t.dev.base = .off ∧
    t.dev.suppliesUp = false ∧ t.hw.words = s.hw.words ∧ t.pending = s.pending)) ∧
  (∀ s n, s.dev.base ≠ .off → n ≤ 11 → s.dev.sysRstN = true →
    Completes (.supplyMonitorTrip n) s (fun t => HeldWith s t 2 ∧ t.dev.suppliesUp = false)) ∧
  (∀ s w, s.dev.base ≠ .off → 200 < w → w < 1000 →
    Completes (.sysRstNAssert w) s (fun t => t = { s with fresh := s.fresh + 1 } ∨ HeldWith s t 1)) ∧
  (∀ s cause, s.dev.base ≠ .off → s.dev.resetPending = some cause → cause ≤ 7 →
    Completes .deviceResetStart s (fun t => HeldWith s t cause ∧ t.dev.resetHeld = true)) ∧
  (∀ s, s.dev.base = .off → s.dev.sysRstN = false → Completes .supplyUp s (fun t => HeldWith s t 0 ∧ t.dev.suppliesUp = true))) ∧
  ((∀ s, s.dev.base = .held → s.dev.suppliesUp = true → s.dev.tbOsc = true → s.dev.resetHeld = false →
    Completes .sysRstNDeassert s (fun t => t.dev.base = .boot ∧ t.dev.sysRstN = true ∧ t.time = {} ∧ t.dev.whVerified = s.dev.whVerified)) ∧
  (∀ s, s.dev.base = .held → s.dev.suppliesUp = false →
    Completes .sysRstNDeassert s (fun t => t.dev.base = .held ∧ t.dev.sysRstN = true ∧ ChangesOnly [.dev, .tap] s t)) ∧
  (∀ s, s.dev.base = .held → s.dev.suppliesUp = true → s.dev.sysRstN = true → s.dev.resetHeld = false →
    Completes (.tbOscRangeChange true) s (fun t => t.dev.base = .boot ∧ t.dev.tbOsc = true ∧ t.time = {})) ∧
  (∀ s, exec (.tbOscRangeChange false) s = .next { s with dev := { s.dev with tbOsc := false } }) ∧
  (∀ s, s.dev.base = .held → s.dev.suppliesUp = true → s.dev.sysRstN = true → s.dev.tbOsc = true →
    Completes .deviceResetHeldExpire s (fun t => t.dev.base = .boot ∧ t.dev.resetHeld = false ∧ t.time = {})) ∧
  (∀ s, s.dev.base = .off → s.dev.sysRstN = true → s.dev.tbOsc = true →
    Completes .supplyUp s (fun t => t.dev.base = .boot ∧ t.dev.suppliesUp = true ∧ t.time = {})))

/-- The steps of boot (R582 to R584, R590) and the end of boot in PROVISION or RESTRICTED: the image of the boot bank or of the other
one is taken, the pair is checked, HBM is trained, the self-test ends, and the base mode follows; recovery opens when no Wellhead image
is valid. Readings and choices of the model that it rests on: notes/assumptions/63.md and notes/assumptions/69.md. -/
def Obligations.BootEndsInProvisionOrRestricted : Prop :=
  (∀ s, s.dev.base = .boot → s.dev.whVerified = false → s.dev.recovery = false → Completes .wellheadImageVerify s (fun t =>
    (∀ b, bootBank s 0 = some b → t.dev.whVerified = true ∧ t.fw.whBank = b ∧ t.fw.whRunning = true) ∧
    (bootBank s 0 = none → t = { s with dev := { s.dev with recovery := true } }) ∧ ChangesOnly [.dev, .fw, .hw] s t)) ∧
  (∀ s, s.dev.base = .boot → s.dev.whVerified = true → s.dev.cscChecked = false →
    Completes .cascadeManifestCheck s (fun t => t.dev.cscChecked = true ∧ t.dev.restrictedReason = pairReason s ∧
      (∀ b, bootBank s 1 = some b → t.fw.cscBank = b) ∧ ChangesOnly [.dev, .fw, .hw] s t)) ∧
  (∀ s failed, s.dev.base = .boot → s.dev.whVerified = true → s.dev.hbmTrained = false →
    Completes (.hbmTrainingDone failed) s (fun t => t.dev.hbmTrained = true ∧ t.dev.base = .boot ∧
      (failed = [] → t = { s with dev := { s.dev with hbmTrained := true } }) ∧ ChangesOnly [.dev, .hw, .mbx, .gauge, .regs, .ep0, .ep1] s t)) ∧
  (∀ s failA failB, s.dev.base = .boot → s.dev.hbmTrained = true → s.dev.selfTested = false →
    Completes (.bootSelfTestDone failA failB) s (fun t => t.dev.selfTested = true ∧ t.dev.base = .boot)) ∧
  (∀ s, s.dev.base = .boot → s.dev.recovery = true →
    exec .bootComplete s = .next { s with dev := { s.dev with recoveryOpen := true } }) ∧
  (∀ s, s.dev.base = .boot → s.dev.recovery = false → s.dev.whVerified = true → s.dev.cscChecked = true → s.dev.hbmTrained = true →
    s.dev.selfTested = true → Completes .bootComplete s (fun t =>
      t.dev.base = (if s.dev.restrictedReason = 0 then .provision else .restricted) ∧ t.mbx.serving = true)) ∧
  (∀ s h, s.fw.handover = some h → h.step = 7 → Completes .handoverComplete s (fun t => t.fw.handover = none ∧
    t.dev.base = (if h.fromRestricted = true ∧ s.dev.base = .restricted then .provision else s.dev.base) ∧ t.dev.quiesce = s.dev.quiesce))

/-- Mode commands and what completes them (R571, R574, R577, R581, R605). Retirements (R603, R604, R341): a pseudo-channel begins to
move and ends retired in Heartwood, and a lane that loses lock or corrects too many symbols is retired. Readings and choices of the
model that it rests on: notes/assumptions/18.md, notes/assumptions/62.md and notes/assumptions/69.md. -/
def Obligations.ModeCommandsAndRetirementsTakeEffect : Prop :=
  (AnswersOk .deviceModeSet 0x0140 (fun _ ch req => byteAt req 0 = 1 ∧ (chanSecure ch = true ∨ le req 2 2 = 0x5A5A)) (fun _ _ _ => [])
    (fun s t ch _ => t.dev = { s.dev with resetPending := some 3 } ∧ AnswerFrame [.dev] s t ch) ∧
  AnswersOk .deviceModeSet 0x0140 (fun s _ req => byteAt req 0 = 4 ∧ s.dev.base = .service ∧ s.dev.quiesce = 0) (fun _ _ _ => [])
    (fun _ t _ _ => t.dev.base = .provision ∧ t.dev.isolated = false) ∧
  AnswersOk .deviceModeSet 0x0140 (fun s _ req => byteAt req 0 = 4 ∧ s.dev.base = .quiescent ∧ s.dev.quiesce = 0) (fun _ _ _ => [])
    (fun s t ch _ => t.dev = { s.dev with quiesce := 2 } ∧ AnswerFrame [.dev] s t ch) ∧
  AnswersOk .deviceModeSet 0x0140 (fun s _ req => byteAt req 0 = 9 ∧ running s = true ∧ s.dev.quiesce = 0) (fun _ _ _ => [])
    (fun s t _ _ => t.dev.base = s.dev.base ∧ t.dev.isolated = true) ∧
  AnswersOk .deviceModeSet 0x0140 (fun s _ req => byteAt req 0 = 11 ∧ s.dev.base = .provision ∧ pf0Active s = false ∧ s.dev.quiesce = 0)
    (fun _ _ _ => []) (fun s t ch _ => t.dev = { s.dev with quiesce := 1 } ∧ AnswerFrame [.dev] s t ch) ∧
  (∀ s, s.dev.quiesce = 1 → s.dev.base = .provision → Completes .quiescentEntryDone s (fun t => t.dev.base = .quiescent ∧ t.dev.quiesce = 0 ∧
    t.itw.linkUp = false ∧ ∀ m < 16, (macGet t m).linkUp = false)) ∧
  (∀ s, s.dev.quiesce = 2 → s.dev.base = .quiescent →
    Completes .quiescentExitDone s (fun t => t.dev.base = .provision ∧ t.dev.quiesce = 0)) ∧
  AnswersOk .deviceModeQuery 0x0141 (fun _ _ _ => True)
    (fun s _ _ => toLe 1 (reportedMode s) ++ toLe 1 (baseCode s.dev.base) ++ toLe 1 (conditions s) ++ toLe 1 (hwWord s 0x012).toNat ++
      toLe 1 (if s.dev.base = .restricted then s.dev.restrictedReason else 0) ++ zeros 3 ++ toLe 8 s.dev.since.toNat ++
      toLe 4 (hwWord s 0x013).toNat) (fun s t ch _ => AnswerFrame [] s t ch) ∧
  AnswersOk .basinAreaSet 0x0144 (fun s _ req => 1 ≤ byteAt req 0 ∧ byteAt req 0 ≤ 16 ∧
      pagesReserved s + pagesLossless s ≤ byteAt req 0 * 262144 - 196608 * hbmGoneCount s) (fun _ _ _ => [])
    (fun s t ch req => hwWord t 0x005 = BitVec.ofNat 32 (byteAt req 0) ∧ t.basin = s.basin ∧ AnswerFrame [.hw] s t ch)) ∧
  (AnswersOk .hbmPcRetire 0x0142 (fun s _ req => byteAt req 0 ≤ 63 ∧ hbmGone s (byteAt req 0) = false ∧ hbmGoneCount s < 8 ∧
      pagesReserved s + pagesLossless s + 196608 * (s.hbm.retiring.length + 1) ≤ s.basin.area)
    (fun s _ _ => toLe 4 (granulesOutside (gibNow s) s.hbm.taken))
    (fun s t ch req => t.hbm.retiring = s.hbm.retiring ++ [(byteAt req 0, 0)] ∧ AnswerFrame [.hbm] s t ch) ∧
  (∀ s pc, pc ≤ 63 → hbmGone s pc = false → hbmGoneCount s < 8 → datapathOn s = true →
    Completes (.hbmPcAutoRetire pc) s (fun t => t.hbm.retiring = s.hbm.retiring ++ [(pc, 1)] ∧ ChangesOnly [.hbm] s t)) ∧
  (∀ s pc cause rest, s.hbm.retiring = (pc, cause) :: rest → pc ≤ 63 → Completes .hbmPcRetireDone s (fun t => t.hbm.retiring = rest ∧
    bitAt (hbmRetired t) pc = true ∧ t.basin.area = s.basin.area - 196608 ∧
    ChangesOnly [.hbm, .basin, .hw, .dev, .mbx, .gauge, .regs, .ep0, .ep1] s t)) ∧
  AnswersOk .retirementQuery 0x0143 (fun _ _ _ => True)
    (fun s _ _ => toLe 1 (hwWord s 0x020).toNat ++ toLe 1 (hwField s 0x011 2 1) ++ toLe 1 (hwWord s 0x028).toNat ++ zeros 1 ++
      toLe 4 (hwWord s 0x022).toNat ++ toLe 4 (hwWord s 0x023).toNat ++ toLe 4 (hwWord s 0x024).toNat ++ toLe 4 (hwWord s 0x025).toNat ++
      toLe 4 (hwWord s 0x015).toNat ++ toLe 4 (hwWord s 0x016).toNat ++ toLe 2 (hwWord s 0x026).toNat ++ toLe 2 (hwWord s 0x027).toNat ++
      toLe 2 ((hwWord s 0x027).toNat / 65536)) (fun s t ch _ => AnswerFrame [] s t ch) ∧
  (∀ c ∈ [Instr.ethLaneFecThreshold, Instr.laneLockLoss], ∀ s p lane, datapathOn s = true → p ≤ 1 → lane ≤ 7 →
    bitAt (portGet s p).retired lane = false → Completes (c p lane) s (fun t =>
      (portGet t p).retired = (portGet s p).retired ||| 2 ^ lane ∧ (portGet t (1 - p)).retired = (portGet s (1 - p)).retired ∧
      hwField t 0x026 (8 * p + lane) (8 * p + lane) = 1)) ∧
  (∀ c ∈ [Instr.ethLaneFecThreshold, Instr.laneLockLoss], ∀ s lane, datapathOn s = true → lane ≤ 3 →
    bitAt s.itw.lanesRetired lane = false → (∃ l ≤ 3, l ≠ lane ∧ bitAt s.itw.lanesRetired l = false) → Completes (c 2 lane) s (fun t =>
      t.itw.lanesRetired = s.itw.lanesRetired + 2 ^ lane ∧ hwField t 0x028 lane lane = 1)))

/-- Image and manifest commands (R583, R587, R590, R605): a bank that neither runs nor takes part in a handover is opened, written,
closed and erased; the manifest and the boot word follow the checks of validity. The lockstep pairs (R592 to R595): a mismatch or a
watchdog expiry stops service and raises the firmware-side generations, with a restart or a switch to the spare; service resumes;
checkpoints and the spare's self-test take effect. Readings and choices of the model that it rests on: notes/assumptions/10.md and
notes/assumptions/63.md. -/
def Obligations.ImagesAndLockstepPairsFollowTheirCommands : Prop :=
  (AnswersOk .fwImageBegin 0x0B00
    (fun s _ req => byteAt req 0 ≤ 1 ∧ byteAt req 1 ≤ 1 ∧ imgRunning s (byteAt req 0) (byteAt req 1) = false ∧
      handoverBank s (byteAt req 0) (byteAt req 1) = false ∧ 512 ≤ le req 4 4 ∧ le req 4 4 ≤ bankSize (byteAt req 0) ∧
      pldmBusy s (byteAt req 0) = false) (fun _ _ _ => [])
    (fun s t ch req => bankGet t (byteAt req 0) (byteAt req 1) = { state := 3, size := le req 4 4, bytes := [] } ∧
      AnswerFrame [.flash] s t ch) ∧
  AnswersOk .fwImageData 0x0B01
    (fun s _ req => byteAt req 0 ≤ 1 ∧ byteAt req 1 ≤ 1 ∧ imgRunning s (byteAt req 0) (byteAt req 1) = false ∧
      handoverBank s (byteAt req 0) (byteAt req 1) = false ∧ (bankGet s (byteAt req 0) (byteAt req 1)).state = 3 ∧ 4 ≤ le req 2 2 ∧
      le req 2 2 ≤ 236 ∧ le req 2 2 % 4 = 0 ∧ le req 4 4 + le req 2 2 ≤ (bankGet s (byteAt req 0) (byteAt req 1)).size ∧
      ∀ i < le req 2 2, mapHas (bankGet s (byteAt req 0) (byteAt req 1)).bytes (le req 4 4 + i) = false) (fun _ _ _ => [])
    (fun s t ch req => (∀ i < le req 2 2, mapGet (bankGet t (byteAt req 0) (byteAt req 1)).bytes (le req 4 4 + i) = some ((req.drop 8).getD i 0)) ∧
      (∀ a, (a < le req 4 4 ∨ le req 4 4 + le req 2 2 ≤ a) →
        mapGet (bankGet t (byteAt req 0) (byteAt req 1)).bytes a = mapGet (bankGet s (byteAt req 0) (byteAt req 1)).bytes a) ∧
      AnswerFrame [.flash] s t ch) ∧
  AnswersOk .fwImageEnd 0x0B02
    (fun s _ req => byteAt req 0 ≤ 1 ∧ byteAt req 1 ≤ 1 ∧ imgRunning s (byteAt req 0) (byteAt req 1) = false ∧
      handoverBank s (byteAt req 0) (byteAt req 1) = false ∧ (bankGet s (byteAt req 0) (byteAt req 1)).state = 3)
    (fun s _ req => toLe 1 (b2n (imgValid (bankClose s (byteAt req 0) (byteAt req 1)) (byteAt req 0) (byteAt req 1))) ++ zeros 1 ++
      imgInfo (bankGet s (byteAt req 0) (byteAt req 1)) ++ zeros 2)
    (fun s t ch req => (bankGet t (byteAt req 0) (byteAt req 1)).bytes = (bankGet s (byteAt req 0) (byteAt req 1)).bytes ∧
      AnswerFrame [.flash] s t ch) ∧
  AnswersOk .fwImageQuery 0x0B03 (fun _ _ _ => True)
    (fun s _ _ => [(0, 0), (0, 1), (1, 0), (1, 1)].flatMap (fun k =>
      toLe 1 (if (bankGet s k.1 k.2).state = 0 ∨ (bankGet s k.1 k.2).state = 3 then (bankGet s k.1 k.2).state
        else if imgValid s k.1 k.2 then 1 else 2) ++ toLe 1 (b2n (imgRunning s k.1 k.2)) ++
      (if (bankGet s k.1 k.2).state = 0 ∨ (bankGet s k.1 k.2).state = 3 then zeros 12 else imgInfo (bankGet s k.1 k.2)) ++ zeros 2))
    (fun s t ch _ => AnswerFrame [] s t ch) ∧
  AnswersOk .fwImageErase 0x0B04
    (fun s _ req => byteAt req 0 ≤ 1 ∧ byteAt req 1 ≤ 1 ∧ imgRunning s (byteAt req 0) (byteAt req 1) = false ∧
      handoverBank s (byteAt req 0) (byteAt req 1) = false) (fun _ _ _ => [])
    (fun s t ch req => bankGet t (byteAt req 0) (byteAt req 1) = {} ∧ AnswerFrame [.flash] s t ch) ∧
  (∀ s ch seq req, Begun s ch seq 0x0B08 req → 1 ≤ le req 2 2 → le req 2 2 ≤ 60 → Completes (.fwManifestRead ch seq) s (fun t =>
    (∀ m, manifestUse s = some m → le req 0 2 + le req 2 2 ≤ manifestCount m → Answered t ch seq rcOk
      (toLe 4 (manifestVersion m) ++ toLe 2 (manifestCount m) ++ zeros 2 ++ slice m (256 + 4 * le req 0 2) (4 * le req 2 2))) ∧
    (manifestUse s = none → Answered t ch seq rcBadParam []) ∧ AnswerFrame [] s t ch)) ∧
  AnswersOk .fwManifestWrite 0x0B09
    (fun _ _ req => 1 ≤ le req 2 2 ∧ le req 2 2 ≤ 240 ∧ le req 0 2 + le req 2 2 ≤ 4096 ∧ bitAt (byteAt req 4) 0 = false) (fun _ _ _ => [])
    (fun s t ch req => (∀ i < le req 2 2, mapGet t.flash.manifestBuf (le req 0 2 + i) = some ((req.drop 8).getD i 0)) ∧
      t.flash.manifest0 = s.flash.manifest0 ∧ t.flash.manifest1 = s.flash.manifest1 ∧ AnswerFrame [.flash] s t ch) ∧
  (∀ s ch seq req, Begun s ch seq 0x0B13 req → byteAt req 0 ≤ 1 → byteAt req 1 ≤ 1 → Completes (.fwBootSelect ch seq) s (fun t =>
    (imgValid s 0 (byteAt req 0) = true → imgValid s 1 (byteAt req 1) = true → banksListed s (byteAt req 0) (byteAt req 1) = true →
      Answered t ch seq rcOk [] ∧ hwField t 0x010 1 0 = byteAt req 0 + 2 * byteAt req 1) ∧
    (imgValid s 0 (byteAt req 0) = false ∨ imgValid s 1 (byteAt req 1) = false ∨ banksListed s (byteAt req 0) (byteAt req 1) = false →
      Answered t ch seq rcNotPermitted [] ∧ hwWord t 0x010 = hwWord s 0x010) ∧ AnswerFrame [.hw] s t ch)) ∧
  AnswersOk .fwRestrictedReason 0x0B14 (fun _ _ _ => True)
    (fun s _ _ => toLe 1 (if s.dev.base = .restricted then s.dev.restrictedReason else 0) ++ zeros 1 ++ toLe 2 (levelOf s 0 s.fw.whBank) ++
      toLe 2 (levelOf s 1 s.fw.cscBank) ++ zeros 2 ++ toLe 4 (manifestNow s)) (fun s t ch _ => AnswerFrame [] s t ch)) ∧
  ((∀ c k, (c, k) ∈ [(Instr.lockstepMismatch, 0), (Instr.watchdogExpire, 1)] → ∀ s, s.fw.whRunning = true → s.fw.restarting = none →
    s.fw.handover = none → Completes c s (fun t => t.fw.restarting = some (k, s.time.ticks) ∧ t.fw.lastCause = k ∧ t.mbx.serving = false ∧
      t.mbx.fwGen = s.mbx.fwGen + 1 ∧
      ((restartsDay s).length < 3 → t.fw.restarts = s.fw.restarts + 1 ∧ t.fw.switches = s.fw.switches ∧ t.hw = s.hw) ∧
      (3 ≤ (restartsDay s).length → s.fw.spare = .ready → t.fw.switches = s.fw.switches + 1 ∧ t.fw.restarts = s.fw.restarts ∧
        hwField t 0x011 0 0 = 1 - hwField s 0x011 0 0 ∧ t.fw.spare = .selfTest) ∧ ChangesOnly [.fw, .mbx, .regs, .hw] s t)) ∧
  (∀ s k, s.fw.restarting = some k → Completes .wellheadResume s (fun t => t.fw.restarting = none ∧ t.mbx.serving = true ∧
    t.mbx.fwGen = s.mbx.fwGen ∧ ChangesOnly [.fw, .mbx, .gauge, .regs, .hw, .ep0, .ep1] s t)) ∧
  (∀ s, s.fw.whRunning = true → s.fw.restarting = none →
    exec .checkpointTimer s = .next { s with fw := { s.fw with ckptStamp := stampNow s } }) ∧
  (∀ s, s.fw.whRunning = true → (s.fw.spare = .ready ∨ s.fw.spare = .selfTest) →
    exec (.spareSelfTest true) s = .next { s with fw := { s.fw with spare := .ready } } ∧
    Completes (.spareSelfTest false) s (fun t => t.fw.spare = .retired ∧
      hwField t 0x011 (1 + (1 - activePair s)) (1 + (1 - activePair s)) = 1 ∧
      ChangesOnly [.fw, .hw, .dev, .mbx, .gauge, .regs, .ep0, .ep1] s t)) ∧
  AnswersOk .whCheckpoint 0x0B20 (fun _ _ _ => True) (fun s _ _ => toLe 8 (stampNow s).toNat)
    (fun s t ch _ => t.fw.ckptStamp = stampNow s ∧ AnswerFrame [] s t ch) ∧
  AnswersOk .whPairStatus 0x0B21 (fun _ _ _ => True)
    (fun s _ _ => toLe 1 (activePair s) ++ toLe 1 (spareCode s.fw.spare) ++ toLe 1 (min 255 (restartsDay s).length) ++
      toLe 1 s.fw.lastCause ++ toLe 4 s.fw.restarts.toNat ++ toLe 4 s.fw.switches.toNat ++ toLe 8 s.fw.lastStamp.toNat)
    (fun s t ch _ => AnswerFrame [] s t ch))

/-- A live handover (R596 to R600): it begins once the checks of R596 pass, moves from step to step, and ends by completion, abort or
failure with the start command's answer. Readings and choices of the model that it rests on: notes/assumptions/63.md. -/
def Obligations.HandoverMovesStepByStep : Prop :=
  (∀ s ch seq req, Begun s ch seq 0x0B10 req → s.fw.handover = none → commitRuns s = false → Completes (.fwHandoverStart ch seq) s (fun t =>
    (∀ w c, namedBank s 0 (byteAt req 0) = .ok w → namedBank s 1 (byteAt req 1) = .ok c →
      (handoverCheck s w c = none → RunsOn t ch seq 0x0B10 ∧ t.fw.handover = some
        { whBank := w, cscBank := c, raiseSvn := bitAt (byteAt req 2) 0, step := if w.isSome then 2 else 6, cluster := 0, chan := ch, seq := seq,
          since := s.time.ticks, fromRestricted := decide (s.dev.base = .restricted) }) ∧
      (∀ code, handoverCheck s w c = some code → Answered t ch seq code [] ∧ AnswerFrame [] s t ch)) ∧
    (∀ code, namedBank s 0 (byteAt req 0) = .error code → Answered t ch seq rcBadParam [] ∧ AnswerFrame [] s t ch))) ∧
  AnswersOk .fwHandoverStatus 0x0B11 (fun _ _ _ => True)
    (fun s _ _ => match s.fw.handover with
      | some h => toLe 1 1 ++ toLe 1 h.step ++ toLe 1 h.cluster ++ zeros 1 ++ toLe 4 ((s.time.ticks - h.since) / 1000)
      | none => zeros 8) (fun s t ch _ => AnswerFrame [] s t ch) ∧
  (∀ s ch seq req h, Begun s ch seq 0x0B12 req → s.fw.handover = some h → h.step < 3 → (h.chan, h.seq) ≠ (ch, seq) →
    Completes (.fwHandoverAbort ch seq) s (fun t => Answered t ch seq rcOk [] ∧ t.fw.handover = none ∧ t.fw.spare = .loading ∧
      t.fw.whBank = s.fw.whBank ∧ t.dev.base = s.dev.base)) ∧
  (∀ s h, s.fw.handover = some h → h.step = 2 →
    exec .handoverSpareLoaded s = .next { s with fw := { s.fw with handover := some { h with step := 3 } } }) ∧
  (∀ s h, s.fw.handover = some h → h.step = 3 → s.fw.restarting = none → Completes .handoverExport s (fun t =>
    t.fw.handover = some { h with step := 4 } ∧ t.fw.ckptStamp = stampNow s ∧ t.mbx.serving = false ∧ t.mbx.fwGen = s.mbx.fwGen + 1 ∧
      ChangesOnly [.fw, .mbx, .regs] s t)) ∧
  (∀ s h, s.fw.handover = some h → h.step = 4 → Completes .handoverImportDone s (fun t =>
    t.fw.handover = some { h with step := if h.cscBank.isSome then 6 else 7 } ∧ t.fw.whBank = h.whBank.getD s.fw.whBank ∧
      t.fw.spare = .loading ∧ t.mbx.serving = true ∧ hwField t 0x011 0 0 = 1 - hwField s 0x011 0 0 ∧ ChangesOnly [.fw, .mbx, .hw] s t)) ∧
  (∀ s, s.fw.spare = .loading → s.fw.handover = none →
    exec .handoverOldPairLoaded s = .next { s with fw := { s.fw with spare := .ready } }) ∧
  (∀ s h, s.fw.handover = some h → (h.step = 2 ∨ h.step = 4) → Completes .handoverFailure s (fun t => t.fw.handover = none ∧
    t.mbx.serving = true ∧ t.fw.whBank = s.fw.whBank ∧ t.fw.cscBank = s.fw.cscBank ∧
    (Unanswered s h.chan h.seq → Answered t h.chan h.seq rcOk (toLe 1 2 ++ toLe 1 h.step ++ zeros 2 ++ versions s)))) ∧
  (∀ s h, s.fw.handover = some h → h.step = 6 → h.cluster < 4 → Completes .clusterCodeSwitch s (fun t =>
    t.fw.handover = some (if h.cluster = 3 then { h with step := 7 } else { h with cluster := h.cluster + 1 }) ∧
      (h.cluster = 3 → t.fw.cscBank = h.cscBank.getD s.fw.cscBank) ∧ (h.cluster ≠ 3 → t.fw.cscBank = s.fw.cscBank)))

/-- Firmware takes the shown message (R521, R536, R541, R544): stale ones are counted or answered, a SEQ in the journal is not run
again, a message that fails a check is refused, and any other is started. Identity, masks, echo and the manager role: each command,
begun with a request in range, is answered OK with the body that R550 to R552 and R568 lay out, and has its effect. Readings and choices
of the model that it rests on: notes/assumptions/11.md, notes/assumptions/13.md and notes/assumptions/17.md. -/
def Obligations.FirmwareRunsCommandsAndTheManagerIsNamed : Prop :=
  ((∀ s ch m rest, (chanGet s ch).toFw = m :: rest → s.mbx.serving = true → (chanGet s ch).queue.length < 8 →
    (chanGet s ch).started.any (fun x => !x.running) = false →
    (m.senderGen ≠ (chanGet s ch).hostGen → Completes (.fwCommandDispatch ch) s (fun t => (chanGet t ch).toFw = rest ∧
      (chanGet t ch).started = (chanGet s ch).started ∧ (chanGet t ch).queue = (chanGet s ch).queue ∧
      Counted s t r_MBX_CNT_STALE_CMD 1)) ∧
    (m.senderGen = (chanGet s ch).hostGen → m.receiverGen ≠ s.mbx.fwGen → Completes (.fwCommandDispatch ch) s (fun t =>
      (chanGet t ch).toFw = rest ∧ (chanGet t ch).started = (chanGet s ch).started ∧ (chanGet t ch).journal = (chanGet s ch).journal ∧
      (chanGet t ch).queue = (chanGet s ch).queue ++ responseParts m.seq rcStale (msgSession s ch m) 0 [])) ∧
    (m.senderGen = (chanGet s ch).hostGen → m.receiverGen = s.mbx.fwGen →
      (∀ j, (chanGet s ch).journal.find? (fun x => x.seq = m.seq) = some j → Completes (.fwCommandDispatch ch) s (fun t =>
        (chanGet t ch).toFw = rest ∧ (chanGet t ch).started = (chanGet s ch).started ∧ (chanGet t ch).journal = (chanGet s ch).journal ∧
        (∀ code body, j.opcode = m.opcode → j.crc = requestCrc m.payload → j.done = some (code, body) → (chanGet t ch).queue =
          (chanGet s ch).queue ++ responseParts m.seq code (msgSession s ch m) body.length body) ∧
        ((j.opcode ≠ m.opcode ∨ j.crc ≠ requestCrc m.payload) → (chanGet t ch).queue =
          (chanGet s ch).queue ++ responseParts m.seq rcSeqConflict (msgSession s ch m) 0 []))) ∧
      ((chanGet s ch).journal.find? (fun x => x.seq = m.seq) = none →
        (∀ code, commandCheck s ch (msgSession s ch m) m.opcode m.payload = some code → Completes (.fwCommandDispatch ch) s (fun t =>
          (chanGet t ch).toFw = rest ∧ (∃ j ∈ (chanGet t ch).journal, j.seq = m.seq ∧ j.done = some (code, [])) ∧
          (chanGet t ch).queue = (chanGet s ch).queue ++ responseParts m.seq code (msgSession s ch m) 0 [])) ∧
        (commandCheck s ch (msgSession s ch m) m.opcode m.payload = none → Completes (.fwCommandDispatch ch) s (fun t =>
          (chanGet t ch).toFw = rest ∧ (chanGet t ch).queue = (chanGet s ch).queue ∧
          (chanGet t ch).started = (chanGet s ch).started ++ [⟨m.seq, m.opcode, m.payload, false, msgSession s ch m⟩]))))) ∧
  (∀ s ch, (chanGet s ch).toFw = [] ∨ s.mbx.serving = false ∨ 8 ≤ (chanGet s ch).queue.length ∨
    (chanGet s ch).started.any (fun x => !x.running) = true → exec (.fwCommandDispatch ch) s = .next s)) ∧
  (AnswersOk .deviceQuery 0x0100 (fun _ _ _ => True) (fun s ch _ => deviceInfo s ch) (fun s t ch _ => AnswerFrame [] s t ch) ∧
  AnswersOk .eventMaskSet 0x0102 (fun _ _ req => le req 0 4 &&& 0xFFFFF001 = 0) (fun _ _ _ => [])
    (fun s t ch req => (chanGet t ch).mask = BitVec.ofNat 32 (le req 0 4) ∧ AnswerFrame [] s t ch) ∧
  AnswersOk .eventMaskRead 0x0103 (fun _ _ _ => True)
    (fun s ch _ => toLe 4 (chanGet s ch).mask.toNat ++ toLe 1 (chanGet s ch).evSeq.toNat ++ zeros 3 ++ toLe 4 (chanGet s ch).dropped)
    (fun s t ch _ => (chanGet t ch).dropped = 0 ∧ (chanGet t ch).mask = (chanGet s ch).mask ∧ AnswerFrame [] s t ch) ∧
  AnswersOk .echo 0x0104 (fun _ _ _ => True) (fun _ _ req => req) (fun s t ch _ => AnswerFrame [] s t ch) ∧
  AnswersOk .mgrRoleQuery 0x0110 (fun _ _ _ => True)
    (fun s _ _ => toLe 1 (holderCode s.role.holder) ++ toLe 1 s.role.homeEp ++ toLe 1 (b2n s.role.altEn) ++ toLe 1 (b2n s.role.headless) ++
      toLe 4 s.role.changes.toNat ++ toLe 8 s.role.since.toNat)
    (fun s t ch _ => AnswerFrame [] s t ch) ∧
  AnswersOk .mgrRoleConfig 0x0111 (fun _ _ req => byteAt req 0 ≤ 1 ∧ byteAt req 1 ≤ 1) (fun _ _ _ => [])
    (fun s t ch req => hwWord t 0x003 = BitVec.ofNat 32 (byteAt req 0 + 2 * byteAt req 1) ∧ t.role = s.role ∧ AnswerFrame [.hw] s t ch) ∧
  AnswersOk .mgrRoleTransfer 0x0112
    (fun s _ _ => s.role.holder = .home ∧ s.role.altEn = true ∧ (epGet s (1 - s.role.homeEp)).contained = false) (fun _ _ _ => [])
    (fun s t _ _ => t.role.holder = .alternate ∧ t.role.homeEp = s.role.homeEp ∧ t.role.headless = s.role.headless) ∧
  AnswersOk .mgrRoleReclaim 0x0113
    (fun s ch _ => chanSecure ch = true ∧ funcOfChan ch = some (s.role.homeEp, 0) ∧ s.role.holder ≠ .home ∧
      (epGet s s.role.homeEp).contained = false) (fun _ _ _ => [])
    (fun s t _ _ => t.role.holder = .home ∧ t.role.homeEp = s.role.homeEp ∧ t.role.headless = false) ∧
  AnswersOk .mctpConfig 0x0150 (fun _ _ req => byteAt req 0 ≤ 1) (fun _ _ _ => [])
    (fun s t ch req => hwWord t 0x004 = BitVec.ofNat 32 (byteAt req 0 + 256 * (byteAt req 1 % 128) + 65536 * (byteAt req 2 % 2)) ∧
      AnswerFrame [.hw, .mctp] s t ch))

/-- The mailboxes carry messages both ways (R502 to R507, R510, R512, R515, R519): a post is taken while FULL is 0 and refused
otherwise, the oldest message is acknowledged first, firmware posts what it has queued, and a crossing is told to both sides once.
Readings and choices of the model that it rests on: notes/assumptions/4.md. -/
def Obligations.MailboxesCarryMessagesInOrder : Prop :=
  (∀ s ch b, chanOpen s ch = true → chanUnbound s ch = false → b = fit (chanGet s ch).outBuf 256 →
    (hostFull (chanGet s ch) = false → byteAt b 2 ≤ 248 → Completes (.mbxPost ch) s (fun t =>
      (chanGet t ch).toFw = (chanGet s ch).toFw ++ [⟨le b 0 2, byteAt b 3, (chanGet s ch).hostGen, s.mbx.fwGen, slice b 8 (byteAt b 2), false⟩] ∧
      (∀ k, k ≠ ch → chanGet t k = chanGet s k) ∧ ChangesOnly [.mbx] s t)) ∧
    (hostFull (chanGet s ch) = false → 248 < byteAt b 2 → Completes (.mbxPost ch) s (fun t => (chanGet t ch).reject = true ∧
      (chanGet t ch).toFw = (chanGet s ch).toFw ∧ Counted s t r_MBX_CNT_BAD_LEN 1)) ∧
    (hostFull (chanGet s ch) = true → Completes (.mbxPost ch) s (fun t => (chanGet t ch).reject = true ∧
      (chanGet t ch).toFw = (chanGet s ch).toFw))) ∧
  (∀ s ch off data, chanOpen s ch = true → chanUnbound s ch = false → off + data.length ≤ 256 →
    (hostFull (chanGet s ch) = false → Completes (.mbxOutboundBufferWrite ch off data) s (fun t =>
      (chanGet t ch).outBuf = splice (fit (chanGet s ch).outBuf 256) off data ∧ (∀ k, k ≠ ch → chanGet t k = chanGet s k) ∧
      ChangesOnly [.mbx] s t)) ∧
    (hostFull (chanGet s ch) = true → Completes (.mbxOutboundBufferWrite ch off data) s (fun t => (chanGet t ch).reject = true ∧
      (chanGet t ch).outBuf = (chanGet s ch).outBuf))) ∧
  (∀ s ch m rest, chanOpen s ch = true → chanUnbound s ch = false → (chanGet s ch).toHost = m :: rest → s.mctp.restartPending = none →
    Completes (.mbxAck ch) s (fun t => (chanGet t ch).toHost = rest ∧ (m.senderGen = s.mbx.fwGen → (chanGet t ch).acked = true) ∧
      (m.senderGen ≠ s.mbx.fwGen → Counted s t r_MBX_CNT_STALE_ACK 1) ∧ ∀ k, k ≠ ch → chanGet t k = chanGet s k)) ∧
  (∀ s ch m rest, s.mbx.serving = true → (chanGet s ch).queue = m :: rest → fwFull s (chanGet s ch) = false → Completes (.mbxFwPost ch) s (fun t =>
    (chanGet t ch).toHost = (chanGet s ch).toHost ++ [⟨m.opcode, m.seq, s.mbx.fwGen, (chanGet s ch).hostGen, m.payload, m.session⟩] ∧
    (chanGet t ch).queue = rest ∧ ∀ k, k ≠ ch → chanGet t k = chanGet s k)) ∧
  (∀ s ch m rest, (chanGet s ch).toFw = m :: rest → Completes (.mbxFwAck ch) s (fun t => (chanGet t ch).toFw = rest ∧
    (m.senderGen ≠ (chanGet s ch).hostGen → Counted s t r_MBX_CNT_STALE_ACK 1) ∧ ∀ k, k ≠ ch → chanGet t k = chanGet s k)) ∧
  (∀ s ch, ch ≤ 2056 → crossed (chanGet s ch) = true → (chanGet s ch).crossSeen = false → Completes (.mbxCrossing ch) s (fun t =>
    (chanGet t ch).crossSeen = true ∧ (chanGet t ch).crossHost = true ∧ (chanGet t ch).crossFw = true ∧
    Counted s t r_MBX_CNT_CROSSING 1)) ∧
  (∀ s ch, (crossed (chanGet s ch) && !(chanGet s ch).crossSeen) = false → exec (.mbxCrossing ch) s = .next s)

/-- Packets, sessions and messages of the BMC (R503, R563 to R567, R569): packets assemble a message, what breaks one is counted, vendor
messages post, acknowledge and reopen channel 2,056, and a secured message gives up what it holds or ends its session. Readings and
choices of the model that it rests on: notes/assumptions/10.md and notes/assumptions/64.md. -/
def Obligations.MctpMessagesAssembleAndReachTheirUse : Prop :=
  (∀ s src tag som eom n bad body, mctpOn s = true →
    ((bad = true ∨ 64 < body.length ∨ body = []) → exec (.mctpPacketRx src tag som eom n bad body) s =
      .next { s with mctp := { s.mctp with badPackets := s.mctp.badPackets + 1 } }) ∧
    (bad = false → body.length ≤ 64 → body ≠ [] →
      (som = true → eom = true → s.mctp.assembly = none → carried s body = true → exec (.mctpPacketRx src tag som eom n bad body) s =
        .next { s with mctp := { s.mctp with inbox := s.mctp.inbox ++ [(src, none, body)] } }) ∧
      (som = true → eom = false → s.mctp.assembly = none → exec (.mctpPacketRx src tag som eom n bad body) s =
        .next { s with mctp := { s.mctp with assembly := some (src, tag, body), nextSeq := (n + 1) % 4 } }) ∧
      (∀ b, som = false → s.mctp.assembly = some (src, tag, b) → s.mctp.nextSeq = n % 4 →
        (eom = true → carried s (b ++ body) = true → exec (.mctpPacketRx src tag som eom n bad body) s =
          .next { s with mctp := { s.mctp with assembly := none, inbox := s.mctp.inbox ++ [(src, none, b ++ body)] } }) ∧
        (eom = false → exec (.mctpPacketRx src tag som eom n bad body) s =
          .next { s with mctp := { s.mctp with assembly := some (src, tag, b ++ body), nextSeq := (n + 1) % 4 } })) ∧
      (som = false → (∀ b, s.mctp.assembly ≠ some (src, tag, b) ∨ s.mctp.nextSeq ≠ n % 4) → exec (.mctpPacketRx src tag som eom n bad body) s =
        .next { s with mctp := { s.mctp with assembly := none, badMessages := s.mctp.badMessages + 1 } }))) ∧
  (∀ s, s.mctp.assembly.isSome = true → exec .mctpAssemblyTimeout s =
    .next { s with mctp := { s.mctp with assembly := none, badMessages := s.mctp.badMessages + 1 } }) ∧
  (∀ s src via b rest, s.mctp.inbox = (src, via, b) :: rest → byteAt b 0 = 0x7E →
    (vdmGood b = false → Completes .vdmMessage s (fun t => t.mctp = { s.mctp with inbox := rest } ∧
      (chanGet t 2056).toFw = (chanGet s 2056).toFw ∧ ∃ w ∈ t.gauge.windows, w.code = 0x0131)) ∧
    (vdmGood b = true → byteAt b 3 = 0 → hostFull (chanGet s 2056) = false → byteAt b 7 ≤ 248 → Completes .vdmMessage s (fun t =>
      t.mctp.inbox = rest ∧ t.out = s.out ∧ ∃ m, (chanGet t 2056).toFw = (chanGet s 2056).toFw ++ [m] ∧ m.opcode = le b 5 2 ∧
        m.seq = byteAt b 8 ∧ m.payload = slice (b.drop 5) 8 (byteAt b 7) ∧ m.senderGen = (chanGet s 2056).hostGen ∧
        m.receiverGen = s.mbx.fwGen)) ∧
    (vdmGood b = true → byteAt b 3 = 0 → hostFull (chanGet s 2056) = true → Completes .vdmMessage s (fun t =>
      (chanGet t 2056).toFw = (chanGet s 2056).toFw ∧ Emits s t [mctpWire via.isSome 0x7E [0x1F, 0x7C, 2, 0]])) ∧
    (∀ m l, vdmGood b = true → byteAt b 3 = 1 → (chanGet s 2056).toHost = m :: l → Completes .vdmAck s (fun t =>
      (chanGet t 2056).toHost = l ∧ (m.senderGen = s.mbx.fwGen → (chanGet t 2056).acked = true))) ∧
    (vdmGood b = true → byteAt b 3 = 3 → Completes .reopen s (fun t => (chanGet t 2056).hostGen = (chanGet s 2056).hostGen + 1 ∧
      (chanGet t 2056).journal = [] ∧ (chanGet t 2056).toHost = (chanGet s 2056).toHost ∧ t.mctp.inbox = rest))) ∧
  (∀ s src via b rest plain, s.mctp.inbox = (src, via, b) :: rest → byteAt b 0 = 6 →
    (le b 1 4 ∈ s.mctp.sessions → carried s plain = true → byteAt plain 0 ≠ 6 → Completes (.securedMessage true plain) s (fun t =>
      t.mctp = { s.mctp with inbox := (0, some (le b 1 4), plain) :: rest } ∧ ChangesOnly [.mctp] s t)) ∧
    (le b 1 4 ∈ s.mctp.sessions → Completes (.securedMessage false plain) s (fun t =>
      t.mctp.sessions = s.mctp.sessions.filter (fun x => x ≠ le b 1 4) ∧ t.mctp.inbox = rest ∧
      (chanGet t 2056).hostGen = (chanGet s 2056).hostGen + 1))) ∧
  (∀ s ep req, cfgOpen s ep 0 = true → hostOpen s = true → Completes (.spdmRequest (some ep) req) s (fun t =>
    Emits s t [.doe ep (Config.spdmResponse req s.fresh)] ∧ ChangesOnly [.out, .fresh] s t)) ∧
  (∀ s src via b rest, s.mctp.inbox = (src, via, b) :: rest → byteAt b 0 = 5 → Completes (.spdmRequest none []) s (fun t =>
    t.mctp.inbox = rest ∧ ∃ os, Emits s t (mctpWire via.isSome 5 (Config.spdmResponse (b.drop 1) s.fresh) :: os)))

/-- MCTP control requests (R563, R564, R566): each is answered with its data, one of a wrong length with completion code 3 and an
unknown one with 5; an accepted Set Endpoint ID takes the ID and advances channel 2,056's generation. PLDM requests (R564, R601, R635):
the terminus identifier, an unsupported type, a sensor's reading and thresholds, an update of a component into the bank that does not
run, and its activation. Readings and choices of the model that it rests on: notes/assumptions/64.md and notes/assumptions/65.md. -/
def Obligations.MctpControlAndPldmRequestsAreAnswered : Prop :=
  (∀ s src via b rest, s.mctp.inbox = (src, via, b) :: rest → byteAt b 0 = 0 → ∀ reply : Nat → Bytes → Output,
    (∀ code data, reply code data = mctpWire via.isSome 0 (toLe 1 (byteAt b 1 % 32) ++ toLe 1 (byteAt b 2) ++ toLe 1 code ++ data)) →
    (byteAt b 2 = 1 → b.length = 5 → byteAt b 3 % 4 ≤ 1 → byteAt b 4 ≠ 0 → byteAt b 4 ≠ 0xFF → Completes .setEndpointId s (fun t =>
      t.mctp.eid = byteAt b 4 ∧ (chanGet t 2056).hostGen = (chanGet s 2056).hostGen + 1 ∧
      ∃ os, Emits s t (reply 0 [0#8, BitVec.ofNat 8 (byteAt b 4), 0#8] :: os))) ∧
    (byteAt b 2 = 1 → b.length = 5 → (1 < byteAt b 3 % 4 ∨ byteAt b 4 = 0 ∨ byteAt b 4 = 0xFF) → Completes .setEndpointId s (fun t =>
      t.mctp = { s.mctp with inbox := rest } ∧ Emits s t [reply 2 []] ∧ ChangesOnly [.mctp, .out] s t)) ∧
    (byteAt b 2 = 2 → b.length = 3 → Completes .getEndpointId s (fun t => t.mctp = { s.mctp with inbox := rest } ∧
      Emits s t [reply 0 (toLe 1 s.mctp.eid ++ zeros 2)] ∧ ChangesOnly [.mctp, .out] s t)) ∧
    (byteAt b 2 = 3 → b.length = 3 → Completes .getEndpointUuid s (fun t => t.mctp = { s.mctp with inbox := rest } ∧
      Emits s t [reply 0 (fit Config.mctpUuid 16)] ∧ ChangesOnly [.mctp, .out] s t)) ∧
    (byteAt b 2 = 4 → b.length = 4 → (byteAt b 3 = 0 ∨ byteAt b 3 = 0xFF) → Completes .getMctpVersionSupport s (fun t =>
      t.mctp = { s.mctp with inbox := rest } ∧ Emits s t [reply 0 [1, 0xF1, 0xF3, 0xFF, 0]] ∧ ChangesOnly [.mctp, .out] s t)) ∧
    (byteAt b 2 = 5 → b.length = 3 → Completes .getMessageTypeSupport s (fun t => t.mctp = { s.mctp with inbox := rest } ∧
      Emits s t [reply 0 [4, 1, 5, 6, 0x7E]] ∧ ChangesOnly [.mctp, .out] s t)) ∧
    (byteAt b 2 = 6 → b.length = 4 → byteAt b 3 = 0 → Completes .getVdmSupport s (fun t => t.mctp = { s.mctp with inbox := rest } ∧
      Emits s t [reply 0 ([0xFF, 0, 0x1F, 0x7C] ++ toBe 2 Config.vdmVersion)] ∧ ChangesOnly [.mctp, .out] s t)) ∧
    ((byteAt b 2 = 0 ∨ 6 < byteAt b 2) → Completes .mctpUnsupportedControl s (fun t => t.mctp = { s.mctp with inbox := rest } ∧
      Emits s t [reply 5 []] ∧ ChangesOnly [.mctp, .out] s t)) ∧
    (b.length ≠ 3 → ∀ c, (byteAt b 2 = 2 ∧ c = Instr.getEndpointId ∨ byteAt b 2 = 3 ∧ c = Instr.getEndpointUuid ∨
        byteAt b 2 = 5 ∧ c = Instr.getMessageTypeSupport) → Completes c s (fun t => t.mctp = { s.mctp with inbox := rest } ∧
      Emits s t [reply 3 []] ∧ ChangesOnly [.mctp, .out] s t))) ∧
  (∀ s src via b rest, s.mctp.inbox = (src, via, b) :: rest → byteAt b 0 = 1 → ∀ reply : Nat → Bytes → Output,
    (∀ code data, reply code data = mctpWire via.isSome 1
      (toLe 1 (byteAt b 1 % 32) ++ toLe 1 (byteAt b 2) ++ toLe 1 (byteAt b 3) ++ toLe 1 code ++ data)) →
    (pldmType b = 0 → byteAt b 3 = 1 → b.length = 5 → byteAt b 4 ≠ 0 → byteAt b 4 ≠ 0xFF → Completes .pldmDiscovery s (fun t =>
      t.mctp = { s.mctp with inbox := rest, tid := byteAt b 4 } ∧ Emits s t [reply 0 []] ∧ ChangesOnly [.mctp, .out] s t)) ∧
    (pldmType b = 0 → byteAt b 3 = 2 → Completes .pldmDiscovery s (fun t => t.mctp = { s.mctp with inbox := rest } ∧
      Emits s t [reply 0 (toLe 1 s.mctp.tid)] ∧ ChangesOnly [.mctp, .out] s t)) ∧
    (pldmType b ≠ 0 → pldmType b ≠ 2 → pldmType b ≠ 5 → Completes .pldmDiscovery s (fun t => t.mctp = { s.mctp with inbox := rest } ∧
      Emits s t [reply 0x20 []] ∧ ChangesOnly [.mctp, .out] s t)) ∧
    (pldmType b = 2 → byteAt b 3 = 0x11 → b.length = 7 → 1 ≤ le b 4 2 → le b 4 2 ≤ 49 → Completes .pldmSensorRead s (fun t =>
      ∃ x : Byte, Emits s t [reply 0 ([5, 0, 0] ++ toLe 1 (pldmPresent s (le b 4 2 - 1)) ++ [x] ++ toLe 1 (pldmPresent s (le b 4 2 - 1)) ++
        toLe 4 (unsigned 32 (sensorNow s (le b 4 2 - 1))))] ∧ ChangesOnly [.mctp, .out, .fresh] s t)) ∧
    (pldmType b = 2 → byteAt b 3 = 0x12 → b.length = 6 → 1 ≤ le b 4 2 → le b 4 2 ≤ 16 → Completes .pldmSensorRead s (fun t =>
      ∃ r : Bytes, Emits s t [reply 0 ([5] ++ toLe 4 (256 * hwField s 0x007 7 0) ++ toLe 4 (256 * hwField s 0x007 15 8) ++ r)] ∧
        ChangesOnly [.mctp, .out] s t)) ∧
    (∀ kind data, pldmType b = 5 → byteAt b 3 = 0x14 → 23 ≤ b.length → kind ≤ 1 → le b 6 2 = kind + 1 →
      (hostWrites s kind = true → Completes (.pldmUpdateComponent data) s (fun t => Emits s t [reply 0x8E []] ∧ ChangesOnly [.mctp, .out] s t)) ∧
      (hostWrites s kind = false → 512 ≤ data.length → data.length ≤ bankSize kind → Completes (.pldmUpdateComponent data) s (fun t =>
        (kind + 1, otherBank s kind) ∈ t.fw.pldm ∧ (bankGet t kind (otherBank s kind)).size = data.length ∧
        (∀ i < data.length, mapGet (bankGet t kind (otherBank s kind)).bytes i = data[i]?) ∧
        ∃ r : Bytes, Emits s t [reply 0 (zeros 2 ++ slice b 15 4 ++ r)]))) ∧
    (pldmType b = 5 → byteAt b 3 = 0x1A → b.length = 5 →
      (s.fw.pldm = [] → Completes .pldmActivateFirmware s (fun t => Emits s t [reply 0x80 []] ∧ ChangesOnly [.mctp, .out] s t)) ∧
      (s.fw.pldm ≠ [] → (∀ kind bank, kind ≤ 1 → pldmBank s kind = some bank → imgValid s kind bank = true) → s.dev.base = .boot →
        Completes .pldmActivateFirmware s (fun t => t.fw.pldm = [] ∧ t.dev.resetPending = some 4 ∧
          ∃ r : Bytes, Emits s t [reply 0 r]))))

/-- Slices are created, modified and destroyed (R39, R556 to R560): a creation holds its ranges and waits for the calendar, a
modification without group 4 takes effect at once, a destruction ends when the slice holds nothing, and the calendar's entry 0 makes
reservations the calendar. The queries of slices, functions and pools (R561, R562) answer what the adapter holds and change nothing.
Readings and choices of the model that it rests on: notes/assumptions/11.md and notes/assumptions/61.md. -/
def Obligations.SlicesComeAndGoAndAreQueried : Prop :=
  (RunsLater .sliceCreate 0x0201 (fun s _ req => 1 ≤ le req 0 2 ∧ le req 0 2 ≤ 1024 ∧ byteAt req 2 ≤ 1 ∧
      sliceGet s (sliceOfFunc (byteAt req 2) (le req 0 2)) = none ∧ reqFaults req true = [] ∧
      (poolCheck s (sliceOfFunc (byteAt req 2) (le req 0 2)) (sliceOfReq req)).1 = 0)
    (fun s t ch seq req => ∀ n y, n = sliceOfFunc (byteAt req 2) (le req 0 2) → y = (poolCheck s n (sliceOfReq req)).2 →
      (∃ x, sliceGet t n = some x ∧ x.pendingStart = some (y.start, [(ch, seq, sliceResp n (some y) 0 0)]) ∧ x.qpBase = y.qpBase ∧
        x.qpCount = y.qpCount ∧ x.basinPages = y.basinPages ∧ x.destroying = y.destroying) ∧
      (∀ m, m ≠ n → sliceGet t m = sliceGet s m) ∧ ChangesOnly [.mbx, .slices, .weir, .csc, .fresh] s t) ∧
  (∀ s ch seq req n, Begun s ch seq 0x0201 req → 1 ≤ le req 0 2 → le req 0 2 ≤ 1024 → byteAt req 2 ≤ 1 →
    n = sliceOfFunc (byteAt req 2) (le req 0 2) → sliceGet s n = none → reqFaults req true = [] → (poolCheck s n (sliceOfReq req)).1 ≠ 0 →
    Completes (.sliceCreate ch seq) s (fun t =>
      Answered t ch seq rcNoResource (sliceResp n none (poolCheck s n (sliceOfReq req)).1 0) ∧ AnswerFrame [] s t ch)) ∧
  AnswersOk .sliceModify 0x0204 (fun s _ req => le req 0 2 ≤ 1024 ∧ byteAt req 2 ≤ 1 ∧ reqFaults req false = [] ∧
      (poolCheck s (sliceOfFunc (byteAt req 2) (le req 0 2)) (sliceOfReq req)).1 = 0 ∧ bitAt (le req 76 4) 4 = false ∧
      ∃ cur, sliceGet s (sliceOfFunc (byteAt req 2) (le req 0 2)) = some cur ∧ cur.destroying = false ∧ keptFaults req cur = [] ∧
        setBusy s (sliceOfFunc (byteAt req 2) (le req 0 2)) (le req 76 4) cur = false)
    (fun s _ req => sliceResp (sliceOfFunc (byteAt req 2) (le req 0 2))
      (some (poolCheck s (sliceOfFunc (byteAt req 2) (le req 0 2)) (sliceOfReq req)).2) 0 0)
    (fun s t _ req => ∀ n cur y, n = sliceOfFunc (byteAt req 2) (le req 0 2) → sliceGet s n = some cur → y = (poolCheck s n (sliceOfReq req)).2 →
      sliceGet t n = some { y with start := cur.start, pendingStart := cur.pendingStart } ∧ ∀ m, m ≠ n → sliceGet t m = sliceGet s m) ∧
  (∀ s ch seq c n x, (chanGet s ch).started.find? (fun c => c.seq = seq && c.opcode = 0x0202) = some c → 1 ≤ le c.req 0 2 →
    le c.req 0 2 ≤ 1024 → byteAt c.req 2 ≤ 1 → byteAt c.req 3 = 0 → n = sliceOfFunc (byteAt c.req 2) (le c.req 0 2) → sliceGet s n = some x →
    ch ≠ chanOfVf (byteAt c.req 2) (le c.req 0 2) →
    (c.running = false → x.destroying = false → (fnGet s (byteAt c.req 2) (le c.req 0 2)).flrActive = false →
      queueDestroying s (byteAt c.req 2) (le c.req 0 2) = false → Completes (.sliceDestroy ch seq) s (fun t =>
        (sliceGet t n = none ∧ ∃ body, Answered t ch seq rcOk body) ∨
        ((sliceGet t n).map (fun y => y.destroying) = some true ∧ RunsOn t ch seq 0x0202))) ∧
    (c.running = true → x.destroying = true → destroyReady s n x = true → Completes (.sliceDestroy ch seq) s (fun t => sliceGet t n = none ∧
      Answered t ch seq rcOk (toLe 2 (x.tally.getD 0 0) ++ zeros 2 ++ toLe 4 (x.tally.getD 1 0) ++ toLe 4 (x.tally.getD 2 0) ++
        toLe 4 (x.tally.getD 3 0) ++ toLe 4 (x.tally.getD 4 0))))) ∧
  (∀ s, Completes .calendarReservationSwitch s (fun t => (∀ n x, sliceGet s n = some x →
      sliceGet t n = some { x with start := startOf x, pendingStart := none }) ∧ t.slices.calendar = calendarOf t.slices.tab ∧
    ∀ n x ch seq body, s.slices.tab = [(n, x)] → x.pendingStart = some (x.start, [(ch, seq, body)]) → Unanswered s ch seq →
      Answered t ch seq rcOk body))) ∧
  ((∀ ep f, AnswersOk .sliceQuery 0x0203 (fun s ch req => targetFunc s ch (le req 0 2) (byteAt req 2) = .ok (ep, f) ∧
      sliceGet s (sliceOfFunc ep f) = none) (fun _ _ _ => toLe 2 f ++ toLe 1 ep ++ zeros 49 ++
        recBytes ⟨0, 1, 0⟩ ++ recBytes ⟨0, 1, 0⟩ ++ recBytes ⟨0, 1, 0⟩ ++ recBytes ⟨0, 1, 0⟩ ++ zeros 28) (fun s t ch _ => AnswerFrame [] s t ch)) ∧
  (∀ ep f x, AnswersOk .sliceQuery 0x0203 (fun s ch req => targetFunc s ch (le req 0 2) (byteAt req 2) = .ok (ep, f) ∧
      sliceGet s (sliceOfFunc ep f) = some x)
    (fun s _ _ => sliceBytes x ++
      toLe 2 (s.rings.qps.filter (fun q => decide (q.1 / 8192 = ep ∧ q.2.func = f ∧ q.2.state = .active))).length ++ zeros 2 ++
      toLe 4 ((s.basin.frames.filter (fun b => b.2.owner = sliceOfFunc ep f)).map (fun b => b.2.pages)).sum ++
      toLe 4 ((allEntries s).filter (fun e => entSlice e.2 = sliceOfFunc ep f)).length ++ toLe 4 (saValidIn s x).length ++
      toLe 4 (ctxValidIn s x).length ++ toLe 1 (if x.destroying then 2 else 1) ++ zeros 3) (fun s t ch _ => AnswerFrame [] s t ch)) ∧
  (∀ ep f, AnswersOk .funcQuery 0x0205 (fun s ch req => targetFunc s ch (le req 0 2) (byteAt req 2) = .ok (ep, f))
    (fun s _ _ => toLe 2 (if (sliceGet s (sliceOfFunc ep f)).isSome then sliceOfFunc ep f else 0xFFF) ++ toLe 2 (fnGet s ep f).gen.toNat ++
      toLe 1 (b2n (fnEnabled s ep f) + 2 * b2n (fnGet s ep f).flrActive + 4 * b2n (fnGet s ep f).inError + 8 * b2n (drvUp s ep f) +
        16 * b2n (epGet s ep).contained + 32 * b2n (fnGet s ep f).bme) ++
      toLe 1 (fnGet s ep f).errCause ++ toLe 2 (chanGet s ((chansOf ep f).headD 0)).hostGen.toNat ++ toLe 2 s.mbx.fwGen.toNat ++
      toLe 2 (min 65535 (s.rings.records.filter (fun r => r.1 = ep && r.2.1 = f)).length) ++ zeros 4)
    (fun s t ch _ => AnswerFrame [] s t ch)) ∧
  AnswersOk .sliceList 0x0206 (fun _ _ req => le req 0 2 = 0 ∨ le req 0 2 = 1024 ∨ le req 0 2 = 2048)
    (fun s _ req => toLe 2 (le req 0 2) ++ zeros 2 ++ (List.range 128).flatMap (fun i =>
      toLe 1 ((List.range 8).map (fun j => if (sliceGet s (le req 0 2 + 8 * i + j)).isSome then 2 ^ j else 0)).sum))
    (fun s t ch _ => AnswerFrame [] s t ch) ∧
  (∀ ch seq s req, Begun s ch seq 0x0210 req → Completes (.poolQuery ch seq) s (fun t => AnswerFrame [] s t ch ∧ ∃ body,
    Answered t ch seq rcOk body ∧ body.length = 64 ∧
    le body 0 2 = 8192 - total (qpUsed (s.slices.tab.map (fun p => p.2)) 0) ∧ le body 4 2 = 8192 - total (qpUsed (s.slices.tab.map (fun p => p.2)) 1))))

/-- PCI Express links, lanes and windows (R418 to R420, R428, R429, R453, R603): a link trains to the width that its lanes in service
allow, a lane is retired for good, and the window translation table is written and read. Configuration space, function level reset and
SR-IOV (R422 to R426, R440 to R447, R451): a write that reaches its function takes effect and is completed; an FLR raises the
generation, and its end resets the function's mailbox endpoints. Readings and choices of the model that it rests on:
notes/assumptions/68.md. -/
def Obligations.LinksWindowsAndFunctionsFollowTheHost : Prop :=
  ((∀ s ep speed width flit, s.dev.base ≠ .off → s.dev.base ≠ .held → ep ≤ 1 → 1 ≤ speed → speed ≤ 6 → width ∈ [1, 2, 4, 8, 16] →
    Completes (.pcieLinkTrain ep speed width flit) s (fun t => (epGet t ep).speed = speed ∧ (epGet t ep).dlUp = true ∧
      (epGet t ep).width = min width (laneGroup (lanesRetired s ep)) ∧ (epGet t ep).perst = false ∧
      (epGet t (1 - ep)).speed = (epGet s (1 - ep)).speed ∧ ChangesOnly [.ep0, .ep1, .regs, .mbx, .gauge] s t)) ∧
  (∀ s ep lane, hostOpen s = true → pcieLaneFree s ep lane = true → Completes (.pcieLaneErrorPoll ep lane) s (fun t =>
    lanesRetired t ep = lanesRetired s ep ||| 2 ^ lane ∧ (epGet t ep).dlUp = (epGet s ep).dlUp ∧
    ((epGet s ep).dlUp = true → (epGet t ep).width = min (epGet s ep).width (laneGroup (lanesRetired s ep ||| 2 ^ lane))) ∧
    ChangesOnly [.ep0, .ep1, .regs, .mbx, .gauge, .hw, .dev] s t)) ∧
  AnswersOk .hifLaneRetire 0x0123 (fun s _ req => pcieLaneFree s (byteAt req 0) (byteAt req 1) = true)
    (fun s _ req => toLe 1 (if (epGet s (byteAt req 0)).dlUp
      then min (epGet s (byteAt req 0)).width (laneGroup (lanesRetired s (byteAt req 0) ||| 2 ^ byteAt req 1))
      else laneGroup (lanesRetired s (byteAt req 0) ||| 2 ^ byteAt req 1)) ++ zeros 3)
    (fun s t _ req => lanesRetired t (byteAt req 0) = lanesRetired s (byteAt req 0) ||| 2 ^ byteAt req 1 ∧
      (epGet t (byteAt req 0)).dlUp = (epGet s (byteAt req 0)).dlUp) ∧
  AnswersOk .hifLinkQuery 0x0122 (fun _ _ req => byteAt req 0 ≤ 1)
    (fun s _ req => toLe 4 (linkStatus s (byteAt req 0)) ++ toLe 4 (containStatus s (byteAt req 0)) ++
      toLe 4 (counter s (r_HIF_CNT_CPL_TIMEOUT (byteAt req 0))).toNat ++ toLe 4 (counter s (r_HIF_CNT_LATE_CPL (byteAt req 0))).toNat)
    (fun s t ch _ => AnswerFrame [] s t ch) ∧
  AnswersOk .hifWttSet 0x0120
    (fun _ _ req => byteAt req 0 ≤ 1 ∧ 1 ≤ byteAt req 1 ∧ 1 ≤ byteAt req 2 ∧ byteAt req 2 ≤ 30 ∧ byteAt req 1 + byteAt req 2 ≤ 256 ∧
      byteAt req 3 = 0 ∧ ∀ i < byteAt req 2, bits (le req (4 + 8 * i) 4) 17 3 = 0 ∧ bits (le req (8 + 8 * i) 4) 31 16 = 0) (fun _ _ _ => [])
    (fun s t ch req => (∀ i < byteAt req 2, wttGet t (byteAt req 0) (byteAt req 1 + i) =
      (BitVec.ofNat 32 (le req (4 + 8 * i) 4), BitVec.ofNat 32 (le req (8 + 8 * i) 4))) ∧ AnswerFrame [.ep0, .ep1] s t ch) ∧
  AnswersOk .hifWttRead 0x0121
    (fun _ _ req => byteAt req 0 ≤ 1 ∧ 1 ≤ byteAt req 2 ∧ byteAt req 2 ≤ 30 ∧ byteAt req 1 + byteAt req 2 ≤ 256)
    (fun s _ req => req ++ (List.range (byteAt req 2)).flatMap (fun i =>
      toLe 4 (wttGet s (byteAt req 0) (byteAt req 1 + i)).1.toNat ++ toLe 4 (wttGet s (byteAt req 0) (byteAt req 1 + i)).2.toNat))
    (fun s t ch _ => AnswerFrame [] s t ch)) ∧
  ((∀ s ep f, cfgOpen s ep f = true → Completes (.busMasterEnableWrite ep f false) s (fun t => (fnGet t ep f).bme = false ∧
    (∀ r ∈ (epGet t ep).reads, r.func = f → r.quarantined = true ∨ r.data.isSome = true ∨ r.purpose = 9) ∧
    Emits s t [.configCompletion ep f] ∧ ChangesOnly [.ep0, .ep1, .out] s t)) ∧
  (∀ s ep f, cfgOpen s ep f = true → Completes (.busMasterEnableWrite ep f true) s (fun t => (fnGet t ep f).bme = true ∧
    ∃ os, Emits s t (os ++ [.configCompletion ep f]))) ∧
  (∀ s ep f field value, cfgOpen s ep f = true → Completes (.configWrite ep f field value) s (fun t =>
    (fnGet t ep f).d3hot = (cfgField (fnGet s ep f) field value).d3hot ∧
    (fnGet t ep f).maxPayload = (cfgField (fnGet s ep f) field value).maxPayload ∧
    (fnGet t ep f).msixEnable = (cfgField (fnGet s ep f) field value).msixEnable ∧
    ((cfgField (fnGet s ep f) field value).d3hot = true → fnGet t ep f = cfgField (fnGet s ep f) field value ∧
      ChangesOnly [.ep0, .ep1, .out] s t) ∧ ∃ os, Emits s t (os ++ [.configCompletion ep f]))) ∧
  (∀ s ep f, cfgOpen s ep f = true → (fnGet s ep f).flrActive = false → Completes (.flrInitiate ep f) s (fun t =>
    (fnGet t ep f).flrActive = true ∧ (fnGet t ep f).gen = (fnGet s ep f).gen + 1 ∧ (fnGet t ep f).bme = false)) ∧
  (∀ s ep enable n, n ≤ 1024 → cfgOpen s ep 0 = true → Completes (.vfEnableChange ep enable n) s (fun t =>
    (fnGet t ep 0).vfEnable = enable ∧ (fnGet t ep 0).numVfs = n ∧
    ∀ v ∈ enabledVfs s ep, v ∉ enabledVfs t ep → (fnGet t ep v).flrActive = true)) ∧
  (∀ s ep f, ep < 2 → (fnGet s ep f).flrActive = true → queuesOf s ep f = [] → (f ≠ 0 ∨ ∀ p ∈ (epGet s ep).funcs, p.1 ≠ 0 →
    p.2.flrActive = false) → Completes (.flrComplete ep f) s (fun t => (fnGet t ep f).flrActive = false ∧
      (fnGet t ep f).gen = (fnGet s ep f).gen ∧ ∀ ch ∈ chansOf ep f, (chanGet t ch).hostGen = (chanGet s ch).hostGen + 1)) ∧
  (∀ s ep f pasid addr len, cfgOpen s ep f = true → (∀ r ∈ (epGet s ep).reads, r.func = f → r.pasid = pasid → r.data.isNone = true →
    r.addr + r.len ≤ addr ∨ addr + len ≤ r.addr) → Completes (.atsInvalidate ep f pasid addr len) s (fun t =>
      Emits s t [.invalidateCpl ep f] ∧ (∀ p ∈ (epGet t ep).transCache, p.1 = f → p.2.1 = pasid.getD 1048576 →
        addr + len ≤ p.2.2 * 4096 ∨ p.2.2 * 4096 + 4096 ≤ addr) ∧ ChangesOnly [.ep0, .ep1, .regs, .out] s t)) ∧
  (∀ s ep i, cfgOpen s ep 0 = true → Completes (.doeDiscovery ep i) s (fun t => ChangesOnly [.out] s t ∧ Emits s t
    [.doe ep (toLe 4 1 ++ toLe 4 3 ++ toLe 4 (if i = 0 then 0x01000001 else if i = 1 then 0x00010001 else 0x0000FFFF))])))

/-- Containment, interrupts, LTR and violations (R432 to R436, R448 to R452). Readings and choices of the model that it rests on:
notes/assumptions/68.md. -/
def Obligations.ContainmentInterruptsAndViolations : Prop :=
  (∀ s ep cause n, s.dev.base ≠ .off → s.dev.base ≠ .held → ep ≤ 1 → 1 ≤ cause → cause ≤ 5 → (epGet s ep).contained = false →
    Completes (.endpointContain ep cause n) s (fun t => (epGet t ep).contained = true ∧ (epGet t ep).cause = cause ∧
      (cause ≠ 5 → (epGet t ep).dlUp = false) ∧ (epGet t (1 - ep)).contained = (epGet s (1 - ep)).contained)) ∧
  (∀ s w ep, ep ≤ 1 → (epGet s ep).contained = true → mayRelease s w ep = true → (epGet s ep).dlUp = true →
    Completes (.containReleaseResume w ep) s (fun t => (epGet t ep).contained = false ∧
      ∀ v ∈ vfsOf s ep, (fnGet t ep v).resumed = true)) ∧
  (∀ s w ep, ep ≤ 1 → (epGet s ep).contained = true → mayRelease s w ep = true → (epGet s ep).dlUp = true →
    Completes (.containReleaseReset w ep) s (fun t => (epGet t ep).contained = false ∧ (fnGet t ep 0).flrActive = true ∧
      ∀ v ∈ vfsOf s ep, (fnGet t ep v).flrActive = true)) ∧
  (∀ s ep f v, (v ∈ (fnGet s ep f).due ∨ v ∈ (fnGet s ep f).pba) → msixOpen s ep f v = true → mapGet (fnGet s ep f).holdoff v = none →
    Completes (.msixSend ep f v) s (fun t => Emits s t [.msix ep f v (mapGetD (fnGet s ep f).msix v (0, 0)).1
      (mapGetD (fnGet s ep f).msix v (0, 0)).2] ∧ v ∉ (fnGet t ep f).due ∧ v ∉ (fnGet t ep f).pba ∧ ChangesOnly [.ep0, .ep1, .out] s t)) ∧
  (∀ s ep f v, (v ∈ (fnGet s ep f).due ∨ v ∈ (fnGet s ep f).pba) → msixOpen s ep f v = false → Completes (.msixSend ep f v) s (fun t =>
    v ∉ (fnGet t ep f).due ∧ v ∈ (fnGet t ep f).pba ∧ ChangesOnly [.ep0, .ep1] s t)) ∧
  (∀ s ep f v, mapGet (fnGet s ep f).holdoff v = some true → msixOpen s ep f v = true → Completes (.itrHoldoffExpire ep f v) s (fun t =>
    Emits s t [.msix ep f v (mapGetD (fnGet s ep f).msix v (0, 0)).1 (mapGetD (fnGet s ep f).msix v (0, 0)).2] ∧
      ChangesOnly [.ep0, .ep1, .out] s t)) ∧
  (∀ s ep, ep < 2 → hostOpen s = true → (epGet s ep).intx ≠ intaWanted s ep → Completes (.intaChange ep) s (fun t =>
    (epGet t ep).intx = intaWanted s ep ∧ Emits s t [.intx ep (intaWanted s ep)] ∧ ChangesOnly [.ep0, .ep1, .out] s t)) ∧
  (∀ s ep v, ep < 2 → Completes (.hifLtrWrite ep v) s (fun t => reg t (r_HIF_LTR ep) = v &&& 0x9FFF9FFF#32 ∧
    (∀ a, a ≠ r_HIF_LTR ep → reg t a = reg s a) ∧ ChangesOnly [.regs, .out] s t)) ∧
  (∀ s ep f n kind a, ep ≤ 1 → hostOpen s = true → (epGet s ep).dlUp = true → (kind = 1 → (fnGet s ep f).ecrcCheck = true) →
    (kind, a) ∈ [(0, r_HIF_CNT_MALFORMED ep), (1, r_HIF_CNT_ECRC ep), (2, r_HIF_CNT_POISONED ep), (3, r_HIF_CNT_UR ep),
      (4, r_HIF_CNT_UR ep), (5, r_HIF_CNT_UR ep)] → Completes (.tlpViolation ep f kind n) s (fun t =>
        counter t a = BitVec.ofNat 32 (min ((counter s a).toNat + 1) 0xFFFFFFFF) ∧ (∀ b, b ≠ a → counter t b = counter s b) ∧
        ChangesOnly [.ep0, .ep1, .regs, .out] s t)) ∧
  (∀ s ep f n, ep ≤ 1 → hostOpen s = true → (epGet s ep).dlUp = true →
    exec (.tlpViolation ep f 6 n) s = .next (emit s (.completion ep f (some (zeros n)))))

/-- Doorbells and pushes move the indices of a queue pair's rings (R433, R456, R465, R466, R472, R473, R484, R486): a rebuilt index
takes its place, one that overfills its ring halts the queue pair, and one that names nothing is discarded and counted. Readings and
choices of the model that it rests on: notes/assumptions/15.md and notes/assumptions/67.md. -/
def Obligations.DoorbellsAndPushesMoveTheRings : Prop :=
  (∀ s ep f v g, barOpen s ep f = true → globalQp s ep f (bits v.toNat 12 0) = some g → qActive (qpGet s ep g) = true →
    (∀ p : Word, (qpGet s ep g).txLog ≠ 0 → p = rebuild (qpGet s ep g).txProd (bits v.toNat 31 16) → Completes (.hifVfDbTx ep f v true) s (fun t =>
      (qpGet t ep g).txCons = (qpGet s ep g).txCons ∧
      (ringFill p (qpGet s ep g).txCons ≤ ringSize (qpGet s ep g).txLog → (qpGet t ep g).txProd = p) ∧
      (ringSize (qpGet s ep g).txLog < ringFill p (qpGet s ep g).txCons →
        (qpGet t ep g).errCause = 1 ∧ (qpGet t ep g).errIndex = p ∧ qActive (qpGet t ep g) = false))) ∧
    (∀ p : Word, (qpGet s ep g).rxLog ≠ 0 → p = rebuild (qpGet s ep g).rxProd (bits v.toNat 31 16) → Completes (.hifVfDbRx ep f v true) s (fun t =>
      (ringFill p (qpGet s ep g).rxCons ≤ ringSize (qpGet s ep g).rxLog → (qpGet t ep g).rxProd = p ∧ qActive (qpGet t ep g) = true) ∧
      (ringSize (qpGet s ep g).rxLog < ringFill p (qpGet s ep g).rxCons →
        (qpGet t ep g).errCause = 2 ∧ (qpGet t ep g).errIndex = p ∧ qActive (qpGet t ep g) = false))) ∧
    (∀ c : Word, c = rebuild (qpGet s ep g).cqCons (bits v.toNat 31 16) → Completes (.hifVfDbCq ep f v true) s (fun t =>
      (ringFill (qpGet s ep g).cqProd c ≤ ringSize (qpGet s ep g).cqLog → (qpGet t ep g).cqCons = c ∧ qActive (qpGet t ep g) = true ∧
        (qpGet t ep g).armed = (if bitAt v.toNat 13 = true then decide (c = (qpGet s ep g).cqProd) else (qpGet s ep g).armed)) ∧
      (ringSize (qpGet s ep g).cqLog < ringFill (qpGet s ep g).cqProd c →
        (qpGet t ep g).errCause = 3 ∧ (qpGet t ep g).errIndex = c ∧ qActive (qpGet t ep g) = false)))) ∧
  (∀ s ep f q g data, barOpen s ep f = true → globalQp s ep f q = some g → qActive (qpGet s ep g) = true → (qpGet s ep g).txLog ≠ 0 →
    data.length = 64 → Completes (.pushWrite ep f (64 * q) data true) s (fun t =>
      (∀ p : Word, pushFault s (sliceOfFunc ep f) (pushDescs data) = none → p = (qpGet s ep g).txProd + BitVec.ofNat 32 (pushDescs data).length →
        ringFill p (qpGet s ep g).txCons ≤ ringSize (qpGet s ep g).txLog → (qpGet t ep g).txProd = p) ∧
      (∀ i, pushFault s (sliceOfFunc ep f) (pushDescs data) = some i → (qpGet t ep g).errCause = 0x17 ∧
        (qpGet t ep g).errIndex = (qpGet s ep g).txProd + BitVec.ofNat 32 i ∧ qActive (qpGet t ep g) = false))) ∧
  (∀ s ep f v, ep ≤ 1 → 1 ≤ f → f ≤ 1024 → barOpen s ep f = true → (boundSlice s ep f).isSome = true →
    (bits v.toNat 10 0 < vecCount s ep f → Completes (.hifVfItr ep f v true) s (fun t =>
      mapGet (fnGet t ep f).itr (bits v.toNat 10 0) = some (bits v.toNat 26 16) ∧ ChangesOnly [.ep0, .ep1] s t)) ∧
    (globalQp s ep f (bits v.toNat 12 0) = none → ∀ c ∈ [Instr.hifVfDbTx ep f v true, Instr.hifVfDbRx ep f v true, Instr.hifVfDbCq ep f v true],
      Completes c s (fun t => Counted s t (r_HIF_CNT_DB_BAD ep) 1 ∧ Counted s t (r_HIF_VF_CNT_DB_BAD ep f) 1 ∧ ChangesOnly [.regs] s t)))

/-- The transmit ring at work (R438, R467, R474, R475, R477, R482, R483, R486, R489, R490): a descriptor that arrives is taken or halts
the queue pair, a packet whose buffers have arrived passes the consumer index, the oldest packet completes in ring order with an entry,
a flush ends INACTIVE with a record, a drain runs out, and indices are written back. Readings and choices of the model that it rests on:
notes/assumptions/49.md and notes/assumptions/67.md. -/
def Obligations.TransmitRingsFetchCompleteAndFlush : Prop :=
  (∀ s ep g r d, (epGet s ep).reads.find? (fun r => r.queue = g && r.purpose = 0 && !r.quarantined && r.data.isSome) = some r →
    qActive (qpGet s ep g) = true → r.data = some d → Completes (.txDescriptorRead ep g) s (fun t =>
      (descFault d ≠ 0 → (qpGet t ep g).errCause = descFault d ∧ qActive (qpGet t ep g) = false ∧
        (qpGet t ep g).errIndex = (qpGet s ep g).txCons + BitVec.ofNat 32 (txHead (qpGet s ep g)).1.length) ∧
      (descFault d = 0 → dType d = 0 → (qpGet s ep g).descs = [] → (qpGet s ep g).bufs = [] → (qpGet s ep g).txLog ≠ 0 →
        (qpGet s ep g).txProd ≠ (qpGet s ep g).txCons → (dEop d = true → packetFault s (qSlice (qpGet s ep g) ep) [d] = 0) →
        (qpGet t ep g).descs = [((qpGet s ep g).txCons, d)] ∧ (dEop d = true → (qpGet t ep g).bufs.map (fun b => (b.addr, b.len)) =
          (dBufs d).flatMap (fun b => splitRead b.2 (fnGet s ep (qpGet s ep g).func).maxRead b.1 b.2))))) ∧
  (∀ s ep g ds fid u, qActive (qpGet s ep g) = true → txHead (qpGet s ep g) = (ds, true) → (qpGet s ep g).bufs ≠ [] →
    (∀ b ∈ (qpGet s ep g).bufs, b.failed = false ∧ b.data.isSome = true) →
    commitOrdered s (packetMeta (ds.map (fun d => d.2))) = false → notStarted s (qpGet s ep g) < 32 →
    (∀ x, sliceGet s (qSlice (qpGet s ep g) ep) = some x → x.twin = false) →
    basinStore s ((qpGet s ep g).bufs.flatMap (fun b => b.data.getD [])).length (qSlice (qpGet s ep g) ep) 1 none = some (fid, u) →
    Completes (.txFrameInBasin ep g) s (fun t => (qpGet t ep g).txCons = (qpGet s ep g).txCons + BitVec.ofNat 32 ds.length ∧
      (∃ x, (qpGet t ep g).packets = (qpGet s ep g).packets ++ [x] ∧ x.left = 1 ∧ x.status = none ∧
        x.last = (qpGet s ep g).txCons + BitVec.ofNat 32 (ds.length - 1)) ∧
      ∃ p k, pktGet t p = some k ∧ k.frame = (qpGet s ep g).bufs.flatMap (fun b => b.data.getD []) ∧ k.stage = .start ∧
        k.hdr.source = 16 + ep)) ∧
  (∀ s ep g ds, qActive (qpGet s ep g) = true → txHead (qpGet s ep g) = (ds, true) → (qpGet s ep g).bufs.any (fun b => b.failed) = true →
    (qpGet s ep g).bufs.all (fun b => b.failed || b.data.isSome) = true → Completes (.txFrameInBasin ep g) s (fun t =>
      (qpGet t ep g).txCons = (qpGet s ep g).txCons + BitVec.ofNat 32 ds.length ∧
      ∃ x, (qpGet t ep g).packets = (qpGet s ep g).packets ++ [x] ∧ x.status = some 2)) ∧
  (∀ s ep g x rest n, (qpGet s ep g).packets = x :: rest → x.left = 0 → (epGet s ep).contained = false → qActive (qpGet s ep g) = true →
    n = x.status.getD 0 →
    (x.noCpl = true → n = 0 → Completes (.txComplete ep g) s (fun t => (qpGet t ep g).packets = rest ∧ (qpGet t ep g).txCpl = x.last + 1 ∧
      (qpGet t ep g).cqProd = (qpGet s ep g).cqProd ∧ t.out = s.out)) ∧
    ((x.noCpl = false ∨ n ≠ 0) → 0 < cqSpace (qpGet s ep g) → Completes (.txComplete ep g) s (fun t => (qpGet t ep g).packets = rest ∧
      (qpGet t ep g).txCpl = x.last + 1 ∧ (qpGet t ep g).cqProd = (qpGet s ep g).cqProd + 1 ∧
      ∀ a, canIssue s ep (qpGet s ep g).func = true → (fnGet s ep (qpGet s ep g).func).atsEn = false → (qpGet s ep g).armed = false →
        16 ≤ (fnGet s ep (qpGet s ep g).func).maxPayload →
        a = (qpGet s ep g).cqBase + 16 * ((qpGet s ep g).cqProd.toNat % ringSize (qpGet s ep g).cqLog) → a % 4096 ≤ 4080 →
        Emits s t [.tlpWrite ep (qpGet s ep g).func (qpGet s ep g).pasid false false a
          (toLe 4 (4 * b2n x.stampValid + 8 * b2n x.demoted + 16 * n + 65536 * x.stampId) ++ toLe 4 x.last.toNat ++
            toLe 8 (if x.stampValid = true then x.stamp.toNat else 0))]))) ∧
  (∀ s ep g cause old cmd, (qpGet s ep g).state = .flushing → (qpGet s ep g).flush = some (cause, old, cmd) → onWire s (qpKey ep g) = false →
    Completes (.queueFlush ep g) s (fun t => qpGet t ep g = {} ∧ ∃ r, t.rings.records.getLast? = some (ep, (qpGet s ep g).func, r) ∧
      ∀ ch seq, cmd = some (ch, seq) → Unanswered s ch seq → Answered t ch seq rcOk r)) ∧
  (∀ s ep g c, (qpGet s ep g).state = .active → (qpGet s ep g).drain = some c → Completes (.drainTimeout ep g) s (fun t =>
    (qpGet t ep g).state = .flushing ∧ (qpGet t ep g).flush = some (3, (fnGet s ep (qpGet s ep g).func).gen, some c))) ∧
  (∀ s ep g q, q = qpGet s ep g → q.wbDue = true → q.state ≠ .inactive → canIssue s ep q.func = true → (fnGet s ep q.func).atsEn = false →
    16 ≤ (fnGet s ep q.func).maxPayload → q.wb % 16 = 0 → Completes (.writeBack ep g) s (fun t => (qpGet t ep g).wbDue = false ∧
      Emits s t [.tlpWrite ep q.func q.pasid false false q.wb (toLe 4 q.cqProd.toNat ++ toLe 4 q.txCons.toNat ++ toLe 4 q.rxCons.toNat ++
        toLe 2 (fnGet s ep q.func).gen.toNat ++ toLe 1 (qCode q) ++ toLe 1 0)] ∧ ChangesOnly [.rings, .out] s t))

/-- Reception and completions of reads (R437 to R439, R444, R480 to R482, R486): the oldest frame fills its postings, one of an earlier
generation or without a posting for too long is dropped, a completion's data reach their buffer or fail it, and a tag whose completion
does not come is quarantined. Readings and choices of the model that it rests on: notes/assumptions/67.md. -/
def Obligations.ReceiveRingsDeliverAndReadsComplete : Prop :=
  (∀ s ep g r rest, qActive (qpGet s ep g) = true → (qpGet s ep g).rx = r :: rest →
    (∀ ps, r.gen = (fnGet s ep (qpGet s ep g).func).gen →
      fillPostings (qpGet s ep g).postings ((if (qpGet s ep g).prefix_ = true then 32 else 0) + r.bytes.length) = some ps →
      canIssue s ep (qpGet s ep g).func = true → ps.length ≤ cqSpace (qpGet s ep g) → Completes (.rxDeliver ep g none) s (fun t =>
        (qpGet t ep g).rx = rest ∧ (qpGet t ep g).cqProd = (qpGet s ep g).cqProd + BitVec.ofNat 32 ps.length ∧
        (qpGet t ep g).postings = (qpGet s ep g).postings.drop ps.length ∧
        ∀ p, ps.getLast? = some p → (qpGet t ep g).rxCons = p.1 + 1)) ∧
    (r.gen ≠ (fnGet s ep (qpGet s ep g).func).gen → Completes (.rxDeliver ep g none) s (fun t => (qpGet t ep g).rx = rest ∧
      Counted s t (r_HIF_CNT_STALE_GEN ep) 1 ∧ t.out = s.out))) ∧
  (∀ s ep g i r, ep ≤ 1 → g < 8192 → (qpGet s ep g).func ≤ 1024 → (qpGet s ep g).rx[i]? = some r → r.lossless = false →
    Completes (.rxNopostExpire ep g i) s (fun t => (qpGet t ep g).rx = (qpGet s ep g).rx.eraseIdx i ∧
      Counted s t (r_RING_CNT_RX_NOPOST ep g) 1 ∧ t.out = s.out)) ∧
  (∀ s ep tag status data r, (epGet s ep).reads.find? (fun r => r.tag = tag && (r.data.isNone || r.quarantined)) = some r →
    (r.quarantined = true → Completes (.cplRx ep tag status false false data) s (fun t =>
      ∀ x ∈ (epGet t ep).reads, x.tag = tag → x.quarantined = false)) ∧
    (∀ b ∈ (qpGet s ep r.queue).bufs, r.quarantined = false → r.purpose = 2 → b.addr = r.addr → b.len = r.len → b.issued = true →
      b.failed = false → b.data = none → Completes (.cplRx ep tag status false false data) s (fun t =>
        (status = 0 → ∃ c ∈ (qpGet t ep r.queue).bufs, c.addr = r.addr ∧ c.len = r.len ∧ c.data = some (fit data r.len)) ∧
        (status ≠ 0 → ∃ c ∈ (qpGet t ep r.queue).bufs, c.addr = r.addr ∧ c.len = r.len ∧ c.failed = true)))) ∧
  (∀ s ep tag r, (epGet s ep).reads.find? (fun r => r.tag = tag && !r.quarantined && r.data.isNone) = some r →
    Completes (.cplTimeout ep tag) s (fun t => (∃ x ∈ (epGet t ep).reads, x.tag = tag ∧ x.quarantined = true) ∧
      (cfgGet t ep r.func 0x104).getLsbD 14 = true)) ∧
  (∀ s ep tag, Completes (.tagQuarantineExpire ep tag) s (fun t => ∀ x ∈ (epGet t ep).reads, x.tag = tag → x.quarantined = false))

/-- The queue commands (R433, R461 to R463, R489 to R494, R496): a queue pair is created ACTIVE with the attributes of the request,
destroyed by a flush or after a drain, queried and modified, a PF0 vector's hold-off is set, and reset records are read and removed.
Readings and choices of the model that it rests on: notes/assumptions/11.md, notes/assumptions/49.md and notes/assumptions/67.md. -/
def Obligations.QueueCommandsTakeEffect : Prop :=
  (∀ ep f g, AnswersOk .queueCreate 0x0300 (fun s ch req => targetFunc s ch (le req 0 2) (byteAt req 2) = .ok (ep, f) ∧
      globalQp s ep f (le req 4 2) = some g ∧ ((fnGet s ep f).inError = false ∨ ch < 8) ∧ (qpGet s ep g).state = .inactive ∧
      createOk s ep f req = true) (fun _ _ _ => [])
    (fun s t ch req => qpGet t ep g = { state := .active, func := f, txLog := byteAt req 8, rxLog := byteAt req 9, cqLog := byteAt req 10,
                                        tc := byteAt req 11, prefix_ := bitAt (byteAt req 3) 1, vector := le req 12 2, nopostUs := le req 14 2,
                                        pasid := (if bitAt (byteAt req 3) 0 = true then some (le req 16 4) else none), txBase := le req 24 8,
                                        rxBase := le req 32 8, cqBase := le req 40 8, wb := le req 48 8 } ∧
      (∀ e k, qpKey e k ≠ qpKey ep g → qpGet t e k = qpGet s e k) ∧ AnswerFrame [.rings] s t ch)) ∧
  (∀ ep f g s ch seq req, Begun s ch seq 0x0300 req → targetFunc s ch (le req 0 2) (byteAt req 2) = .ok (ep, f) →
    globalQp s ep f (le req 4 2) = some g → Completes (.queueCreate ch seq) s (fun t =>
      ((fnGet s ep f).inError = true → 8 ≤ ch → Answered t ch seq rcNotPermitted [] ∧ AnswerFrame [] s t ch) ∧
      ((fnGet s ep f).inError = false → (qpGet s ep g).state ≠ .inactive → Answered t ch seq rcBadParam [] ∧ AnswerFrame [] s t ch))) ∧
  (∀ ep f g, RunsLater .queueDestroy 0x0301 (fun s ch req => targetFunc s ch (le req 0 2) (byteAt req 2) = .ok (ep, f) ∧
      globalQp s ep f (le req 4 2) = some g ∧ ((qpGet s ep g).state = .active ∨ (qpGet s ep g).state = .halted) ∧ (qpGet s ep g).drain = none)
    (fun s t ch seq req =>
      (bitAt (byteAt req 3) 0 = true → qActive (qpGet s ep g) = true → (qpGet s ep g).packets ≠ [] → (qpGet t ep g).drain = some (ch, seq) ∧
        (qpGet t ep g).state = .active) ∧
      ((bitAt (byteAt req 3) 0 = false ∨ qActive (qpGet s ep g) = false ∨ (qpGet s ep g).packets = []) → (qpGet t ep g).state = .flushing ∧
        (qpGet t ep g).flush = some (3, (fnGet s ep (qpGet s ep g).func).gen, some (ch, seq))) ∧
      ChangesOnly [.mbx, .rings, .ep0, .ep1] s t)) ∧
  (∀ ep f g, AnswersOk .queueQuery 0x0302 (fun s ch req => targetFunc s ch (le req 0 2) (byteAt req 2) = .ok (ep, f) ∧
      globalQp s ep f (le req 4 2) = some g)
    (fun s _ _ => toLe 4 (ringCfg (qpGet s ep g)) ++ toLe 4 (qpGet s ep g).txProd.toNat ++ toLe 4 (qpGet s ep g).txCons.toNat ++
      toLe 4 (qpGet s ep g).txCpl.toNat ++ toLe 4 (qpGet s ep g).rxProd.toNat ++ toLe 4 (qpGet s ep g).rxCons.toNat ++
      toLe 4 (qpGet s ep g).cqProd.toNat ++ toLe 4 (qpGet s ep g).cqCons.toNat ++ toLe 4 (ringVec (qpGet s ep g)) ++
      toLe 4 ((qpGet s ep g).errCause + 256 * (qpGet s ep g).errRing) ++ toLe 4 (qpGet s ep g).errIndex.toNat)
    (fun s t ch _ => AnswerFrame [] s t ch)) ∧
  (∀ ep f g, AnswersOk .queueModify 0x0303 (fun s ch req => targetFunc s ch (le req 0 2) (byteAt req 2) = .ok (ep, f) ∧
      globalQp s ep f (le req 4 2) = some g ∧ (qpGet s ep g).state ≠ .inactive ∧
      (bitAt (byteAt req 11) 0 = true → le req 8 2 < vecCount s ep f) ∧ (bitAt (byteAt req 11) 1 = true → byteAt req 10 ≤ 7))
    (fun _ _ _ => [])
    (fun s t ch req => (qpGet t ep g).vector = (if bitAt (byteAt req 11) 0 = true then le req 8 2 else (qpGet s ep g).vector) ∧
      (qpGet t ep g).tc = (if bitAt (byteAt req 11) 1 = true then byteAt req 10 else (qpGet s ep g).tc) ∧
      (qpGet t ep g).nopostUs = (if bitAt (byteAt req 11) 2 = true then le req 12 2 else (qpGet s ep g).nopostUs) ∧
      (qpGet t ep g).txProd = (qpGet s ep g).txProd ∧ AnswerFrame [.rings] s t ch)) ∧
  AnswersOk .queuePfItrSet 0x0304 (fun _ _ req => byteAt req 0 ≤ 1 ∧ le req 2 2 < 2048 ∧ le req 4 2 ≤ 2047) (fun _ _ _ => [])
    (fun s t _ req => (reg t (r_RING_PF_ITR (byteAt req 0) (le req 2 2))).toNat = le req 4 2 ∧
      mapGet (fnGet t (byteAt req 0) 0).itr (le req 2 2) = some (le req 4 2) ∧ ChangesOnly (answerParts ++ [.ep0, .ep1]) s t) ∧
  (∀ ep f mine, AnswersOk .resetRecordRead 0x0308 (fun s ch req => targetFunc s ch (le req 0 2) (byteAt req 2) = .ok (ep, f) ∧
      1 ≤ byteAt req 3 ∧ byteAt req 3 ≤ 5 ∧ mine = (s.rings.records.filter (fun r => r.1 = ep && r.2.1 = f)).map (fun r => r.2.2))
    (fun s _ req => toLe 1 (min (byteAt req 3) mine.length) ++ zeros 1 ++ toLe 2 (min 65535 (lostOf s ep)) ++
      toLe 4 (mine.length - byteAt req 3) ++ (mine.take (byteAt req 3)).flatten)
    (fun s t ch req => (t.rings.records.filter (fun r => r.1 = ep && r.2.1 = f)).map (fun r => r.2.2) = mine.drop (byteAt req 3) ∧
      t.rings.records.filter (fun r => !(r.1 = ep && r.2.1 = f)) = s.rings.records.filter (fun r => !(r.1 = ep && r.2.1 = f)) ∧
      t.rings.qps = s.rings.qps ∧ AnswerFrame [.rings] s t ch))

/-- Reception (R343, R344, R378): a frame that a check refuses adds 1 to that check's counter and changes nothing else, in the order of
the checks; an admitted frame is counted, stored, stamped and set on its way as a packet. The PRP node table forgets a node (R282).
Readings and choices of the model that it rests on: notes/assumptions/54.md. -/
def Obligations.ReceptionChecksCountsAndStores : Prop :=
  (∀ s m frame pcsErr preemptErr lane, (macGet s m).linkUp = true → macUsed s m = true → datapathOn s = true →
    (preemptErr = true → exec (.frameRx m frame pcsErr preemptErr lane 0) s = .next (bump64 s (r_MAC_RX_PREEMPT_ERR m) 1)) ∧
    (preemptErr = false → pcsErr = true → exec (.frameRx m frame pcsErr preemptErr lane 0) s = .next (bump64 s (r_MAC_RX_PCS_ERR m) 1)) ∧
    (preemptErr = false → pcsErr = false → frame.length < 64 → exec (.frameRx m frame pcsErr preemptErr lane 0) s = .next (bump64 s
      (if frame.drop (frame.length - 4) = ethFcs (frame.take (frame.length - 4)) then r_MAC_RX_RUNT m else r_MAC_RX_FRAGMENT m) 1)) ∧
    (preemptErr = false → pcsErr = false → 64 ≤ frame.length → maxFrame s m < frame.length →
      exec (.frameRx m frame pcsErr preemptErr lane 0) s = .next (bump64 s
        (if frame.drop (frame.length - 4) = ethFcs (frame.take (frame.length - 4)) then r_MAC_RX_OVERSIZE m else r_MAC_RX_JABBER m) 1)) ∧
    (preemptErr = false → pcsErr = false → 64 ≤ frame.length → frame.length ≤ maxFrame s m →
      frame.drop (frame.length - 4) ≠ ethFcs (frame.take (frame.length - 4)) →
      exec (.frameRx m frame pcsErr preemptErr lane 0) s = .next (bump64 s (r_MAC_RX_FCS_ERR m) 1))) ∧
  (∀ s m f lane, (macGet s m).linkUp = true → macUsed s m = true → datapathOn s = true → 60 ≤ f.length → f.length + 4 ≤ maxFrame s m →
    be f 12 2 ≠ 0x8808 → bitAt (reg s (r_MAC_RX_CTRL m)).toNat 0 = true → ptpTakes s m f = false → prpPair s m = none →
    losslessClass s m (ingressClass s m f).2.2 = false → twinSelected s m (ingressClass s m f).1 (ingressClass s m f).2.1 = false →
    (basinShape s f.length).2 - min (basinShape s f.length).2 (ownFree s 0xFFF) ≤ openFree s →
    Completes (.frameRx m (f ++ ethFcs f) false false lane 0) s (fun t =>
      counter64 t (r_MAC_RX_FRAMES_OK m) = (counter64 s (r_MAC_RX_FRAMES_OK m) + 1) % 2 ^ 64 ∧
      ∃ p k, pktGet t p = some k ∧ k.frame = f ∧ k.stage = .start ∧ k.hdr.source = m ∧ k.stamp = rxStamp s m lane)) ∧
  (∀ s mac pair, exec (.prpNodeForget mac pair) s =
    .next { s with prp := { s.prp with nodes := s.prp.nodes.filter (fun n => !(n.mac = mac && n.pair = pair)) } })

/-- Transmission (R342, R350, R351, R363, R371, R390): a MAC starts what R363 picks, the end of a frame frees it and sends the rest, an
underrun ends with a bad FCS and a resend, and a lossy frame that waited for its link too long is dropped. Readings and choices of the
model that it rests on: notes/assumptions/50.md. -/
def Obligations.TransmissionStartsEndsAndDrops : Prop :=
  (∀ s m lane sent d rest, macSends s m = true → (macGet s m).active = none → (macGet s m).queue = [] → (macGet s m).fcDue = d :: rest →
    Completes (.macTxSelect m sent lane) s (fun t => (macGet t m).fcDue = rest ∧ (macGet t m).active = none ∧
      Emits s t [.frame m (fcBytes s m d.1 d.2.1 d.2.2 ++ ethFcs (fcBytes s m d.1 d.2.1 d.2.2)) true])) ∧
  (∀ s m lane sent c p, macSends s m = true → (macGet s m).active = none → (macGet s m).queue = [] → (macGet s m).fcDue = [] →
    pickMac s m = some (c, p) → Completes (.macTxSelect m sent lane) s (fun t => (macGet t m).active.isSome = true ∧
      (∀ a, p = .resume a → (macGet t m).active = some a ∧ (macGet t m).preempted = none) ∧
      (∀ f, p = .resend f → (macGet t m).active.map (fun a => a.frame) = some f ∧ (macGet t m).resends = (macGet s m).resends.erase f) ∧
      t.out = s.out)) ∧
  (∀ s m a, (macGet s m).active = some a → Completes (.macTxDone m) s (fun t => (macGet t m).active = none ∧
    ∃ os, Emits s t (.frame m (a.wire.drop a.sent) true :: os))) ∧
  (∀ s m sent a, (macGet s m).active = some a → a.resend = false → (macGet s m).ctCurrent < a.wire.length → a.sent ≤ sent →
    sent < a.wire.length → Completes (.underrun m sent) s (fun t => (macGet t m).active = none ∧
      (macGet t m).resends = (macGet s m).resends ++ [a.frame] ∧ (macGet t m).clean = 0 ∧
      Emits s t [.frame m ((a.wire.take sent).drop a.sent ++ (ethFcs (a.wire.take sent)).map (fun b => ~~~b)) false] ∧
      ChangesOnly [.macs, .regs, .gauge, .out] s t)) ∧
  (∀ s m f, macSends s m = false → (macGet s m).queue.find? (fun f => !f.lossless) = some f → Completes (.txLinkWaitExpire m) s (fun t =>
    (macGet t m).queue = (macGet s m).queue.eraseP (fun f => !f.lossless)))

/-- Flow control of a MAC (R353 to R358): a class leaves XOFF, its request is refreshed, a pause expires, and a storm is found and ends.
Shapers, gates and links in time (R341, R364 to R372, R672). Readings and choices of the model that it rests on: notes/assumptions/4.md,
notes/assumptions/50.md and notes/assumptions/54.md. -/
def Obligations.FlowControlShapersGatesAndLinksAct : Prop :=
  ((∀ s m c, c ∈ (macGet s m).xoff → mapGetD (macGet s m).occ c 0 ≤ regField s (r_MAC_PFC_XON m c) 23 0 →
    Completes (.xoffLeave m c) s (fun t => (macGet t m).xoff = (macGet s m).xoff.filter (fun y => y ≠ c) ∧
      (fcTxEn s m = true → fcMode s m = 1 → (macGet t m).fcDue = (macGet s m).fcDue ++ [(true, classPrios s m c, 0)]) ∧
      (fcTxEn s m = true → fcMode s m = 0 → (macGet s m).xoff.filter (fun y => y ≠ c) = [] →
        (macGet t m).fcDue = (macGet s m).fcDue ++ [(false, 0, 0)]) ∧ ChangesOnly [.macs] s t)) ∧
  (∀ s m c, c ∈ (macGet s m).xoff → fcTxEn s m = true → Completes (.pfcRefresh m c) s (fun t =>
    (macGet t m).fcDue = (macGet s m).fcDue ++ [if fcMode s m = 1 then (true, classPrios s m c, regField s (r_MAC_PFC_QUANTA m) 15 0)
      else (false, 0, regField s (r_MAC_PFC_QUANTA m) 15 0)] ∧ ChangesOnly [.macs] s t)) ∧
  (∀ s m c, mapHas (macGet s m).stopped c = true → Completes (.pauseExpire m c) s (fun t =>
    mapGet (macGet t m).stopped c = none ∧ (regField s (r_MAC_PFC_WATCHDOG m) 16 16 = 1 → (macGet t m).storm = (macGet s m).storm) ∧
    (regField s (r_MAC_PFC_WATCHDOG m) 16 16 ≠ 1 → c ∉ (macGet t m).storm) ∧ ChangesOnly [.macs] s t)) ∧
  (∀ s m c, mapHas (macGet s m).stopped c = true → c ∉ (macGet s m).storm → regField s (r_MAC_PFC_WATCHDOG m) 15 0 ≠ 0 →
    Completes (.pfcStorm m c) s (fun t => (macGet t m).storm = (macGet s m).storm ++ [c] ∧ ChangesOnly [.macs, .regs, .mbx, .gauge] s t)) ∧
  (∀ s m c, c ∈ (macGet s m).storm → regField s (r_MAC_PFC_WATCHDOG m) 16 16 = 1 → Completes (.pfcStormRelease m c) s (fun t =>
    (macGet t m).storm = (macGet s m).storm.filter (fun y => y ≠ c) ∧ ChangesOnly [.macs] s t))) ∧
  ((∀ s p, p ≤ 1 → clockOn s = true → Completes (.weirTick p) s (fun t =>
    counter64 t (r_WEIR_TICKS p) = (counter64 s (r_WEIR_TICKS p) + 1) % 2 ^ 64 ∧ (∀ x ∈ t.weir.pendingSets, x.1 / 32768 ≠ p) ∧
    (∀ i x, i / 32768 = p → (∀ y ∈ s.weir.pendingSets, y.1 ≠ i) → mapGet s.weir.shapers i = some x → mapGet t.weir.shapers i = some
      { x with tokens := (bucketTick x.rate x.depth x.tokens x.rem).1, rem := (bucketTick x.rate x.depth x.tokens x.rem).2 }) ∧
    (∀ i, i / 32768 ≠ p → mapGet t.weir.shapers i = mapGet s.weir.shapers i) ∧ ChangesOnly [.weir, .regs] s t)) ∧
  (∀ s m, (macGet s m).gateEn = true → Completes (.gateChange m) s (fun t => (macGet t m).entry = (operAt (macGet s m) (absNs s)).1 ∧
    (macGet t m).operGates = BitVec.ofNat 8 (gclEntry (macGet s m).oper (operAt (macGet s m) (absNs s)).1).1 ∧
    ChangesOnly [.macs, .gauge, .regs] s t)) ∧
  (∀ s m c, (macGet s m).commit = some c → changeAt c ≤ absNs s → Completes (.gclChangeTime m) s (fun t =>
    (macGet t m).oper = c.list ∧ (macGet t m).operLen = c.len ∧ (macGet t m).operCycle = c.cycle ∧ (macGet t m).gateEn = c.gateEn ∧
    (macGet t m).commit = none ∧ ChangesOnly [.macs, .gauge, .regs, .mbx] s t)) ∧
  (∀ s m ok, (macGet s m).verifyState = 1 → Completes (.preemptVerify m ok) s (fun t =>
    (macGet t m).verifyState = (if ok then 2 else 3) ∧ ChangesOnly [.macs] s t)) ∧
  (∀ s m a n, datapathOn s = true → s.dev.isolated = false → s.dev.ethRefclk = true → macUsed s m = true → (macGet s m).linkUp = false →
    macGroup s m = some (a, n) → Completes (.linkUp m) s (fun t => (macGet t m).linkUp = true ∧ (macGet t m).localFault = false ∧
      (macGet t m).remoteFault = false ∧ (∀ i < n, (portGet t (m / 8)).laneLock.getLsbD (a + i) = true))) ∧
  (∀ s m remote, (macGet s m).linkUp = true → Completes (.linkFault m remote) s (fun t => (macGet t m).linkUp = false ∧
    (macGet t m).localFault = !remote ∧ (macGet t m).remoteFault = remote)))

/-- The commands of ports, lanes and priority flow control (R340, R341, R357, R373, R603): a port takes a mode and its MACs start anew,
a lane is retired, and a class takes its thresholds when Basin has room. The commands of Weir and Sluice (R359, R360, R364, R365, R369,
R371, R373): a shaper's settings wait for the next tick, leaves and gate-list entries are set and read, a commit takes its change time,
and preemption is set. Readings and choices of the model that it rests on: notes/assumptions/50.md and notes/assumptions/54.md. -/
def Obligations.PortShaperAndGateCommandsTakeEffect : Prop :=
  (AnswersOk .portModeSet 0x0600 (fun s _ req => byteAt req 0 ≤ 1 ∧ byteAt req 1 ≤ 3 ∧ ∀ m ∈ portMacs (byteAt req 0),
      bitAt (reg s (r_MAC_RX_CTRL m)).toNat 0 = false ∧ macBusy (macGet s m) = false) (fun _ _ _ => [])
    (fun s t _ req => (portGet t (byteAt req 0)).mode = byteAt req 1 ∧ (portGet t (byteAt req 0)).laneLock = 0 ∧
      (portGet t (byteAt req 0)).retired = (portGet s (byteAt req 0)).retired ∧
      hwField t 0x029 (2 * byteAt req 0 + 1) (2 * byteAt req 0) = byteAt req 1 ∧
      (∀ m ∈ portMacs (byteAt req 0), (macGet t m).linkUp = false ∧ (macGet t m).gateEn = false ∧ (macGet t m).xoff = [] ∧
        reg t (r_MAC_RX_CTRL m) = regReset (r_MAC_RX_CTRL m)) ∧
      ∀ m, m < 16 → m ∉ portMacs (byteAt req 0) → macGet t m = macGet s m) ∧
  (∀ s ch seq req m, Begun s ch seq 0x0600 req → byteAt req 0 ≤ 1 → byteAt req 1 ≤ 3 → m ∈ portMacs (byteAt req 0) →
    bitAt (reg s (r_MAC_RX_CTRL m)).toNat 0 = true → Completes (.portModeSet ch seq) s (fun t =>
      Answered t ch seq rcBusy [] ∧ AnswerFrame [] s t ch)) ∧
  AnswersOk .portStatus 0x0601 (fun _ _ req => byteAt req 0 ≤ 1)
    (fun s _ req => toLe 1 (portGet s (byteAt req 0)).mode ++ toLe 1 (portGet s (byteAt req 0)).retired ++
      toLe 1 (((List.range 8).map (fun k => b2n (macGet s (8 * byteAt req 0 + k)).linkUp * 2 ^ k)).sum) ++ zeros 1 ++
      (portMacs (byteAt req 0)).flatMap (fun m => toLe 1 (if macUsed s m = true then rateCode (macRate s m) else 0)))
    (fun s t ch _ => AnswerFrame [] s t ch) ∧
  AnswersOk .portLaneRetire 0x0602 (fun s _ req => byteAt req 0 ≤ 1 ∧ byteAt req 1 ≤ 7 ∧
      bitAt (portGet s (byteAt req 0)).retired (byteAt req 1) = false) (fun _ _ _ => [])
    (fun s t _ req => bitAt (portGet t (byteAt req 0)).retired (byteAt req 1) = true ∧
      hwField t 0x026 (8 * byteAt req 0 + byteAt req 1) (8 * byteAt req 0 + byteAt req 1) = 1 ∧
      (portGet t (byteAt req 0)).mode = (portGet s (byteAt req 0)).mode) ∧
  (∀ m c, AnswersOk .pfcConfigSet 0x0604 (fun s _ req => m = byteAt req 0 ∧ c = byteAt req 1 ∧ m ≤ 15 ∧ c ≤ 7 ∧ le req 8 4 ≤ le req 4 4 ∧
      le req 4 4 < 2 ^ 24 ∧ le req 12 4 < 2 ^ 24 ∧
      ceilDiv (le req 4 4 + le req 12 4) 16 ≤ openFree s + ceilDiv (mapGetD s.basin.lossless (m * 8 + c) 0) 16) (fun _ _ _ => [])
    (fun s t _ req => (reg t (r_MAC_PFC_XOFF m c)).toNat = le req 4 4 ∧ (reg t (r_MAC_PFC_XON m c)).toNat = le req 8 4 ∧
      (reg t (r_MAC_PFC_HEADROOM m c)).toNat = le req 12 4 ∧ mapGetD t.basin.lossless (m * 8 + c) 0 = le req 4 4 + le req 12 4 ∧
      (∀ k, k ≠ m * 8 + c → mapGet t.basin.lossless k = mapGet s.basin.lossless k) ∧ ChangesOnly (answerParts ++ [.basin]) s t)) ∧
  (∀ s ch seq req, Begun s ch seq 0x0604 req → byteAt req 0 ≤ 15 → byteAt req 1 ≤ 7 → le req 8 4 ≤ le req 4 4 → le req 4 4 < 2 ^ 24 →
    le req 12 4 < 2 ^ 24 → openFree s + ceilDiv (mapGetD s.basin.lossless (byteAt req 0 * 8 + byteAt req 1) 0) 16 <
      ceilDiv (le req 4 4 + le req 12 4) 16 → Completes (.pfcConfigSet ch seq) s (fun t =>
      Answered t ch seq rcNoResource [] ∧ AnswerFrame [] s t ch))) ∧
  (AnswersOk .weirShaperSet 0x0610 (fun s _ req => shaperOk s (le req 0 2) (shaperOfReq req) = true) (fun _ _ _ => [])
    (fun s t ch req => t.weir = { s.weir with pendingSets := s.weir.pendingSets ++ [(le req 0 2, shaperOfReq req)] } ∧
      AnswerFrame [.weir] s t ch) ∧
  (∀ s ch seq req, Begun s ch seq 0x0610 req → shaperOk s (le req 0 2) (shaperOfReq req) = false → Completes (.weirShaperSet ch seq) s (fun t =>
    Answered t ch seq rcBadParam [] ∧ AnswerFrame [] s t ch)) ∧
  AnswersOk .weirShaperRead 0x0611 (fun _ _ _ => True)
    (fun s _ req => fit req 4 ++ shaperBytes (le req 0 2) (shaperGet s (le req 0 2)) ++
      toLe 8 (unsigned 64 (shaperGet s (le req 0 2)).tokens) ++ toLe 2 (shaperGet s (le req 0 2)).rem ++ zeros 6)
    (fun s t ch _ => AnswerFrame [] s t ch) ∧
  AnswersOk .weirLeafMapSet 0x0612 (fun s _ req => byteAt req 2 ≤ 1 ∧ (sliceGet s (le req 0 2)).isSome = true ∧ ∀ c < 8,
      le req (4 + 2 * c) 2 = 0xFFFF ∨ (shaperNext s (le req (4 + 2 * c) 2)).level = 0 ∧ le req (4 + 2 * c) 2 / 32768 = byteAt req 2)
    (fun _ _ _ => [])
    (fun s t ch req => (∀ c < 8, mapGet t.weir.leaf (le req 0 2 * 16 + byteAt req 2 * 8 + c) =
        (if le req (4 + 2 * c) 2 = 0xFFFF then none else some (le req (4 + 2 * c) 2))) ∧
      (∀ k, (k < le req 0 2 * 16 + byteAt req 2 * 8 ∨ le req 0 2 * 16 + byteAt req 2 * 8 + 8 ≤ k) →
        mapGet t.weir.leaf k = mapGet s.weir.leaf k) ∧ AnswerFrame [.weir] s t ch) ∧
  AnswersOk .slcGclWrite 0x0620 (fun _ _ req => byteAt req 0 ≤ 15 ∧ 1 ≤ le req 4 2 ∧ le req 4 2 ≤ 30 ∧ le req 2 2 + le req 4 2 ≤ 1024 ∧
      ∀ i < le req 4 2, (gclOfBytes (slice req (8 + 8 * i) 8)).2.1 ≠ 3) (fun _ _ _ => [])
    (fun s t ch req => (∀ i < le req 4 2, mapGet (macGet t (byteAt req 0)).admin (le req 2 2 + i) =
        some (gclOfBytes (slice req (8 + 8 * i) 8))) ∧
      (∀ k, (k < le req 2 2 ∨ le req 2 2 + le req 4 2 ≤ k) →
        mapGet (macGet t (byteAt req 0)).admin k = mapGet (macGet s (byteAt req 0)).admin k) ∧
      (∀ m, m ≠ byteAt req 0 → macGet t m = macGet s m) ∧ AnswerFrame [.macs] s t ch) ∧
  (∀ m w, AnswersOk .slcGclCommit 0x0621 (fun s _ req => m = byteAt req 0 ∧ m ≤ 15 ∧ 1 ≤ le req 2 2 ∧ le req 2 2 ≤ 1024 ∧ le req 4 4 ≠ 0 ∧
      le req 20 4 ≤ 999999999 ∧ (macGet s m).commit = none ∧ w = gclChange s (le req 12 8 * 1000000000 + le req 20 4) (le req 4 4) ∧
      ∀ i < le req 2 2, (gclEntry (macGet s m).admin i).2.2 ≠ 0 ∧ ((gclEntry (macGet s m).admin i).2.1 = 0 ∨ (macGet s m).preemptEn = true))
    (fun _ _ _ => toLe 8 (w / 1000000000) ++ toLe 4 (w % 1000000000))
    (fun s t ch req => (∃ c, (macGet t m).commit = some c ∧ c.len = le req 2 2 ∧ c.cycle = le req 4 4 ∧ c.list = (macGet s m).admin ∧
        c.changeS = w / 1000000000 ∧ c.changeNs = w % 1000000000 ∧ c.gateEn = bitAt (le req 24 4) 0) ∧
      (macGet t m).oper = (macGet s m).oper ∧ (∀ k, k ≠ m → macGet t k = macGet s k) ∧ AnswerFrame [.macs] s t ch)) ∧
  AnswersOk .slcGclRead 0x0622 (fun _ _ req => byteAt req 0 ≤ 15 ∧ byteAt req 1 ≤ 1 ∧ le req 2 2 + le req 4 2 ≤ 1024)
    (fun s _ req => fit req 8 ++ (List.range (le req 4 2)).flatMap (fun i => gclBytes (gclEntry
      (if byteAt req 1 = 0 then (macGet s (byteAt req 0)).admin else (macGet s (byteAt req 0)).oper) (le req 2 2 + i))))
    (fun s t ch _ => AnswerFrame [] s t ch) ∧
  AnswersOk .slcPreemptSet 0x0623 (fun _ _ req => byteAt req 0 ≤ 15 ∧ byteAt req 3 ≤ 3) (fun _ _ _ => [])
    (fun s t ch req => (macGet t (byteAt req 0)).preemptMask.toNat = byteAt req 1 ∧
      (macGet t (byteAt req 0)).preemptEn = bitAt (byteAt req 2) 0 ∧ (macGet t (byteAt req 0)).addFrag = byteAt req 3 ∧
      ((macGet t (byteAt req 0)).verifyState = 1 ↔ bitAt (byteAt req 2) 0 = true ∧ bitAt (byteAt req 2) 1 = false ∧
        (macGet s (byteAt req 0)).linkUp = true) ∧
      (∀ m, m ≠ byteAt req 0 → macGet t m = macGet s m) ∧ AnswerFrame [.macs] s t ch))

/-- The start of a pass and the end of a stream's wait (R41 to R44, R85, R135, R256, R258, R259, R591). The parse and the payload scan
of a packet (R92 to R100, R104 to R108). Readings and choices of the model that it rests on: notes/assumptions/24.md. -/
def Obligations.PassesStartParseAndScan : Prop :=
  ((∀ s p pos k, pktGet s p = some k → k.stage = .start → canStart s k = true → entryServes s k pos = true → startsNext s p k = true →
    retryClear s k = true → s.dev.base ≠ .restricted → mateWaiting s p k = none → k.hdr.twin = false → k.started = false →
    Completes (.passStart p pos) s (fun t => (∃ k', pktGet t p = some k' ∧ k'.stage = .plane ∧ k'.started = true ∧ k'.frame = k.frame ∧
      k'.hdr.pgBank = s.plane.cur ∧ k'.hdr.rspBank = s.rasp.cur) ∧
      mapGetD t.twin.rings (ringOf k) [] = mapGetD s.twin.rings (ringOf k) [] ++ [p] ∧
      (∀ q, q ≠ p → pktGet t q = pktGet s q))) ∧
  (∀ s p pos k, pktGet s p = some k → k.stage = .start → canStart s k = true → entryServes s k pos = true → startsNext s p k = true →
    retryClear s k = true → s.dev.base ≠ .restricted → mateWaiting s p k = none → k.hdr.twin = false → k.started = true →
    Completes (.passStart p pos) s (fun t => pktGet t p = some { k with stage := .plane, pass := {}, jig := {} } ∧
      ∀ q, q ≠ p → pktGet t q = pktGet s q)) ∧
  (∀ s p pos k p' k', pktGet s p = some k → k.stage = .start → canStart s k = true → entryServes s k pos = true → startsNext s p k = true →
    retryClear s k = true → s.dev.base ≠ .restricted → mateWaiting s p k = some (p', k') → raspEnabled s k = false →
    Completes (.passStart p pos) s (fun t => (pktGet t p).map (fun x => x.stage) = some .plane ∧
      (pktGet t p').map (fun x => x.stage) = some .plane)) ∧
  (∀ s p pos k, pktGet s p = some k → k.stage = .start → canStart s k = true → entryServes s k pos = true → startsNext s p k = true →
    retryClear s k = true → s.dev.base = .restricted → k.hdr.source ≤ 15 → Completes (.passStart p pos) s (fun t =>
      pktGet t p = some { k with stage := .exitOrder, verdict := some (match holderEp s with
        | some ep => .fwdHost ep k.hdr.source
        | none => .drop) } ∧ ChangesOnly [.twin, .pkts] s t)) ∧
  (∀ s p k, pktGet s p = some k → k.stage = .streamWait → unfinished s (twinStream k.hdr.source k.hdr.flowHash) < 4096 →
    (∀ x ∈ s.pkts, x.1 < p → x.2.stage = .streamWait →
      twinStream x.2.hdr.source x.2.hdr.flowHash ≠ twinStream k.hdr.source k.hdr.flowHash) →
    Completes (.twinStreamWaitEnd p) s (fun t => t.twin.unfinished = s.twin.unfinished ++
      [(twinStream k.hdr.source k.hdr.flowHash, mapGetD s.twin.streams (twinStream k.hdr.source k.hdr.flowHash) 0,
        b2n (railUp s 0) + b2n (railUp s 1))] ∧
      mapGet t.twin.streams (twinStream k.hdr.source k.hdr.flowHash) =
        some (mapGetD s.twin.streams (twinStream k.hdr.source k.hdr.flowHash) 0 + 1)))) ∧
  ((∀ s p k, pktGet s p = some k → k.stage = .plane → k.hdr.pass ≠ 0 → Completes (.parseComplete p) s (fun t =>
    pktGet t p = some { k with stage := .jig, hdr := parse (parseBankGet s k.hdr.pgBank) (hwUse s 0x038) k.frame k.hdr } ∧
    (∀ q, q ≠ p → pktGet t q = pktGet s q) ∧ ChangesOnly [.pkts, .regs] s t)) ∧
  (∀ s p k, pktGet s p = some k → k.stage = .plane → k.hdr.pass = 0 → raspEnabled s k = false → Completes (.parseComplete p) s (fun t =>
    (pktGet t p).map (fun x => x.stage) = some .jig ∧ ChangesOnly [.pkts, .regs] s t)) ∧
  (∀ s p k, pktGet s p = some k → k.stage = .plane → k.hdr.pass = 0 → raspEnabled s k = true →
    (k.hdr.twin = true ∨ splitQueued s k.hdr.pipeline < 48) → Completes (.parseComplete p) s (fun t =>
      (pktGet t p).map (fun x => x.stage) = some .raspQueue ∧
      t.rasp.queues[k.hdr.pipeline]? = (s.rasp.queues[k.hdr.pipeline]?).map (fun q => q ++ [p]) ∧ ChangesOnly [.pkts, .regs, .rasp] s t)) ∧
  (∀ s p k, pktGet s p = some k → k.stage = .raspQueue → ((s.rasp.queues[k.hdr.pipeline]?).getD []).head? = some p →
    (s.rasp.lanes[k.hdr.pipeline]?).getD 0 < 4 → Completes (.raspScanStart p) s (fun t =>
      pktGet t p = some { k with stage := .raspScan } ∧
      t.rasp.queues[k.hdr.pipeline]? = (s.rasp.queues[k.hdr.pipeline]?).map (fun q => q.drop 1) ∧
      t.rasp.lanes[k.hdr.pipeline]? = (s.rasp.lanes[k.hdr.pipeline]?).map (· + 1) ∧ ChangesOnly [.pkts, .rasp] s t)) ∧
  (∀ s p k, pktGet s p = some k → k.stage = .raspScan → Completes (.raspScanComplete p) s (fun t =>
    pktGet t p = some { k with stage := .jig, hdr := { k.hdr with
      raspDone := true
      rspCount := (scan (patternBankGet s k.hdr.rspBank) (scanRange k)).1
      rspGroups := (scan (patternBankGet s k.hdr.rspBank) (scanRange k)).2.1
      rspFirst := (scan (patternBankGet s k.hdr.rspBank) (scanRange k)).2.2 } } ∧
    counter t (r_RSP_CNT_SCANNED k.hdr.pipeline) =
      BitVec.ofNat 32 (min ((counter s (r_RSP_CNT_SCANNED k.hdr.pipeline)).toNat + 1) 0xFFFFFFFF) ∧
    t.rasp.lanes[k.hdr.pipeline]? = (s.rasp.lanes[k.hdr.pipeline]?).map (· - 1) ∧ ChangesOnly [.pkts, .rasp, .regs] s t)))

/-- The parse-graph and pattern banks (R110 to R117): the staging bank is written and read, a commit is validated, a fault refuses it,
the validated bank becomes current, and the old bank takes a copy. Readings and choices of the model that it rests on:
notes/assumptions/4.md. -/
def Obligations.BanksAreStagedValidatedAndSwitched : Prop :=
  AnswersOk .parseGraphWrite 0x0440 (fun s _ req => parseRange req true = true ∧ planeReady s = true) (fun _ _ _ => [])
    (fun s t ch req => (∀ i < le req 4 2, parseRec (le req 0 2) (parseBankGet t (1 - s.plane.cur)) (le req 2 2 + i) =
        slice req (8 + parseRecSize (le req 0 2) * i) (parseRecSize (le req 0 2))) ∧ t.plane.cur = s.plane.cur ∧ AnswerFrame [.plane] s t ch) ∧
  AnswersOk .parseGraphRead 0x0441 (fun _ _ req => parseRange req false = true)
    (fun s _ req => req ++ (List.range (le req 4 2)).flatMap (fun i => parseRec (le req 0 2) (parseBankGet s (byteAt req 6)) (le req 2 2 + i)))
    (fun s t ch _ => AnswerFrame [] s t ch) ∧
  RunsLater .parseGraphCommit 0x0442 (fun s _ _ => planeReady s = true)
    (fun s t ch seq req => t.plane = { s.plane with commit := some ⟨ch, seq, BitVec.ofNat 32 (le req 0 4), false⟩ } ∧
      ChangesOnly [.mbx, .plane] s t) ∧
  AnswersOk .raspPatternWrite 0x0448 (fun s _ req => patternRange req true = true ∧ raspReady s = true) (fun _ _ _ => [])
    (fun s t ch req => (∀ i < le req 2 2, mapGetD (patternBankGet t (1 - s.rasp.cur)).pats (le req 0 2 + i) (zeros 72) =
        slice req (8 + 72 * i) 72) ∧ t.rasp.cur = s.rasp.cur ∧ AnswerFrame [.rasp] s t ch) ∧
  AnswersOk .raspPatternRead 0x0449 (fun _ _ req => patternRange req false = true)
    (fun s _ req => req ++ (List.range (le req 2 2)).flatMap (fun i => mapGetD (patternBankGet s (byteAt req 4)).pats (le req 0 2 + i) (zeros 72)))
    (fun s t ch _ => AnswerFrame [] s t ch) ∧
  RunsLater .raspCommit 0x044A (fun s _ _ => raspReady s = true)
    (fun s t ch seq req => t.rasp = { s.rasp with commit := some ⟨ch, seq, BitVec.ofNat 32 (le req 0 4), false⟩ } ∧
      ChangesOnly [.mbx, .rasp] s t) ∧
  (∀ s c, s.plane.commit = some c → c.validated = false → Completes (.parseValidateDone false) s (fun t =>
    (graphFault (parseBankGet s (1 - s.plane.cur)) = none → t = { s with plane := { s.plane with commit := some { c with validated := true } } }) ∧
    (∀ k i, graphFault (parseBankGet s (1 - s.plane.cur)) = some (k, i) → t.plane = { s.plane with commit := none } ∧
      (Unanswered s c.chan c.seq → Answered t c.chan c.seq rcBadParam
        (toLe 1 s.plane.cur ++ toLe 1 k ++ toLe 2 i ++ toLe 4 (parseBankGet s s.plane.cur).tag.toNat))))) ∧
  (∀ s c, s.rasp.commit = some c → c.validated = false → Completes (.parseValidateDone true) s (fun t =>
    (patternFault (patternBankGet s (1 - s.rasp.cur)) = none → t = { s with rasp := { s.rasp with commit := some { c with validated := true } } }) ∧
    (∀ i, patternFault (patternBankGet s (1 - s.rasp.cur)) = some i → t.rasp = { s.rasp with commit := none } ∧
      (Unanswered s c.chan c.seq → Answered t c.chan c.seq rcBadParam
        (toLe 1 s.rasp.cur ++ toLe 1 0 ++ toLe 2 i ++ toLe 4 (patternBankGet s s.rasp.cur).tag.toNat))))) ∧
  (∀ s c, s.plane.commit = some c → c.validated = true → Completes (.parseBankSwitch false) s (fun t => t.plane.cur = 1 - s.plane.cur ∧
    t.plane.commit = none ∧ t.plane.stageReady = false ∧ (parseBankGet t (1 - s.plane.cur)).tag = c.tag ∧
    (parseBankGet t (1 - s.plane.cur)).nodes = (parseBankGet s (1 - s.plane.cur)).nodes ∧
    (Unanswered s c.chan c.seq → Answered t c.chan c.seq rcOk (toLe 1 (1 - s.plane.cur) ++ toLe 1 0 ++ toLe 2 0 ++ toLe 4 c.tag.toNat)))) ∧
  (∀ s c, s.rasp.commit = some c → c.validated = true → Completes (.parseBankSwitch true) s (fun t => t.rasp.cur = 1 - s.rasp.cur ∧
    t.rasp.commit = none ∧ t.rasp.stageReady = false ∧ (patternBankGet t (1 - s.rasp.cur)).tag = c.tag ∧
    (Unanswered s c.chan c.seq → Answered t c.chan c.seq rcOk (toLe 1 (1 - s.rasp.cur) ++ toLe 1 0 ++ toLe 2 0 ++ toLe 4 c.tag.toNat)))) ∧
  (∀ s, s.plane.stageReady = false → (parseBankGet s (1 - s.plane.cur)).inflight = 0 → Completes (.stageBankCopy false) s (fun t =>
    t.plane.stageReady = true ∧ t.plane.cur = s.plane.cur ∧
    (parseBankGet t (1 - s.plane.cur)).nodes = (parseBankGet s s.plane.cur).nodes ∧
    (parseBankGet t (1 - s.plane.cur)).trans = (parseBankGet s s.plane.cur).trans ∧ ChangesOnly [.plane] s t)) ∧
  (∀ s, s.rasp.stageReady = false → (patternBankGet s (1 - s.rasp.cur)).pending = 0 → Completes (.stageBankCopy true) s (fun t =>
    t.rasp.stageReady = true ∧ t.rasp.cur = s.rasp.cur ∧
    (patternBankGet t (1 - s.rasp.cur)).pats = (patternBankGet s s.rasp.cur).pats ∧ ChangesOnly [.rasp] s t))

/-- The lookup of Jig (R121 to R132): the result is written and the pass goes on to its action, a miss with MISS_DROP drops the packet,
and so does a pass without an open slice. The Jig commands (R153 to R158). Readings and choices of the model that it rests on:
notes/assumptions/26.md and notes/assumptions/27.md. -/
def Obligations.JigClassifiesAndItsTablesAreSet : Prop :=
  ((∀ s p k sl c, pktGet s p = some k → k.stage = .jig → sl = (assignedSlice s k (classify s k)).getD k.hdr.slice →
    c = (if (classify s k).hit && bitAt (le (ruleGet (jigSlotGet s k.hdr.jigSlot).set (classify s k).rule) 8 4) 17
      then bits (le (ruleGet (jigSlotGet s k.hdr.jigSlot).set (classify s k).rule) 8 4) 16 13 else k.hdr.cls) → sliceOk s sl = true →
    (classify s k).drop = false → classPolicy (classGet (parseBankGet s k.hdr.pgBank) c) { k.hdr with slice := sl, cls := c } = 0 →
    Completes (.jigClassify p) s (fun t => (∃ k', pktGet t p = some k' ∧ k'.stage = .fetch ∧ k'.jig = classify s k ∧ k'.hdr.slice = sl ∧
      k'.hdr.cls = c ∧ k'.frame = k.frame) ∧ (∀ q, q ≠ p → pktGet t q = pktGet s q) ∧ ChangesOnly [.pkts, .regs] s t)) ∧
  (∀ s p k, pktGet s p = some k → k.stage = .jig → sliceOk s ((assignedSlice s k (classify s k)).getD k.hdr.slice) = true →
    (classify s k).drop = true → k.mirrors = [] → k.hdr.pipeline < 4 → Completes (.jigClassify p) s (fun t => pktGet t p = none ∧
      Counted s t (r_JIG_CNT_MISS_DROP k.hdr.pipeline) 1)) ∧
  (∀ s p k, pktGet s p = some k → k.stage = .jig → sliceOk s ((assignedSlice s k (classify s k)).getD k.hdr.slice) = false →
    k.mirrors = [] → k.hdr.pipeline < 4 → Completes (.jigClassify p) s (fun t => pktGet t p = none ∧ Counted s t (r_JIG_CNT_NO_SLICE k.hdr.pipeline) 1))) ∧
  (AnswersOk .jigRuleWrite 0x0400 (fun _ _ req => ruleRange req 2 = true ∧ byteAt req 7 = 4) (fun _ _ _ => [])
    (fun s t ch req => (∀ i < le req 4 3, ruleGet t.jig.staging (le req 0 2 + i) = slice req (8 + 112 * i) 112) ∧
      (∀ i, (i < le req 0 2 ∨ le req 0 2 + le req 4 3 ≤ i) → ruleGet t.jig.staging i = ruleGet s.jig.staging i) ∧ AnswerFrame [.jig] s t ch) ∧
  (∀ s ch seq req set, Begun s ch seq 0x0401 req → ruleSource s (byteAt req 7) = some set → ruleRange req 2 = true →
    Completes (.jigRuleRead ch seq) s (fun t => Answered t ch seq rcOk
      (req ++ (List.range (le req 4 3)).flatMap (fun i => ruleGet set (le req 0 2 + i))) ∧ AnswerFrame [] s t ch)) ∧
  AnswersOk .jigRuleClear 0x0402 (fun _ _ req => ruleRange req 65536 = true ∧ byteAt req 7 = 4) (fun _ _ _ => [])
    (fun s t ch req => (∀ i, le req 0 2 ≤ i → i < le req 0 2 + le req 4 3 → ruleValid (ruleGet t.jig.staging i) = false) ∧
      (∀ i, (i < le req 0 2 ∨ le req 0 2 + le req 4 3 ≤ i) → ruleGet t.jig.staging i = ruleGet s.jig.staging i) ∧ AnswerFrame [.jig] s t ch) ∧
  AnswersOk .jigProfileWrite 0x0403 (fun _ _ req => byteAt req 0 ≤ 15 ∧ byteAt req 1 = 4) (fun _ _ _ => [])
    (fun s t ch req => profileGet t.jig.staging (byteAt req 0) = slice req 4 104 ∧
      (∀ i, i ≠ byteAt req 0 → profileGet t.jig.staging i = profileGet s.jig.staging i) ∧ AnswerFrame [.jig] s t ch) ∧
  (∀ s ch seq req set, Begun s ch seq 0x0404 req → ruleSource s (byteAt req 1) = some set → byteAt req 0 ≤ 15 →
    Completes (.jigProfileRead ch seq) s (fun t => Answered t ch seq rcOk (req ++ profileGet set (byteAt req 0)) ∧ AnswerFrame [] s t ch)) ∧
  (∀ s ch seq req set, Begun s ch seq 0x0405 req → byteAt req 0 ≠ 4 → ruleSource s (byteAt req 0) = some set →
    Completes (.jigStageLoad ch seq) s (fun t => Answered t ch seq rcOk [] ∧ t.jig = { s.jig with staging := set } ∧
      AnswerFrame [.jig] s t ch)) ∧
  AnswersOk .jigSlotQuery 0x0411 (fun _ _ _ => True)
    (fun s _ _ => (List.range 4).flatMap (fun n => toLe 1 (slotCode (jigSlotGet s n).state) ++ toLe 1 0 ++ toLe 2 (jigSlotGet s n).version ++
      toLe 4 (jigSlotGet s n).inflight ++ toLe 4 (jigSlotGet s n).tag.toNat ++ toLe 4 (drainMs s (jigSlotGet s n))))
    (fun s t ch _ => AnswerFrame [] s t ch) ∧
  AnswersOk .jigMirrorSet 0x0420 (fun _ _ req => byteAt req 0 ≤ 1)
    (fun s _ req => toLe 1 (byteAt req 0) ++ toLe 1 (b2n s.jig.partnerEn) ++ toLe 1 (b2n s.itw.linkUp) ++ toLe 1 (regField s r_JIG_STATUS 5 5))
    (fun s t ch req => t.jig = { s.jig with mirrorEn := decide (byteAt req 0 = 1) } ∧ AnswerFrame [.jig] s t ch) ∧
  AnswersOk .jigMirrorStatus 0x0421 (fun _ _ _ => True)
    (fun s _ _ => toLe 1 (b2n s.jig.mirrorEn) ++ toLe 1 (b2n s.jig.partnerEn) ++ toLe 1 (b2n s.itw.linkUp) ++
      toLe 1 (regField s r_JIG_STATUS 5 5)) (fun s t ch _ => AnswerFrame [] s t ch))

/-- A commit of a rule set (R137, R138, R141, R144): it takes a free slot and compiles, a limit refuses it, the version switches, the
old slot drains and becomes free. Mirrored commits (R147 to R152): the partner prepares and gathers the table, READY, GO and ACK move
the commit, and the timeouts end it. Readings and choices of the model that it rests on: notes/assumptions/26.md,
notes/assumptions/27.md and notes/assumptions/29.md. -/
def Obligations.JigCommitsSwitchAloneAndMirrored : Prop :=
  (RunsLater .jigCommit 0x0410 (fun s _ req => le req 4 4 ≤ 1 ∧ s.jig.commit = none ∧ (freeSlot s).isSome = true ∧
      tableFault s.jig.staging = none)
    (fun s t ch seq req => ∃ n c, freeSlot s = some n ∧ t.jig.commit = some c ∧ c.phase = .compiling ∧ c.slot = n ∧ c.chan = ch ∧ c.seq = seq ∧
      c.tag = BitVec.ofNat 32 (le req 0 4) ∧ c.version = ((jigSlotGet s (currentSlot s)).version + 1) % 65536 ∧
      c.mirrored = (mirrorInForce s && !bitAt (le req 4 4) 0) ∧ (jigSlotGet t n).state = .compiling ∧ (jigSlotGet t n).set = s.jig.staging) ∧
  (∀ s c, s.jig.commit = some c → c.phase = .compiling → Completes (.jigCompileDone false false) s (fun t =>
    (limitFault (compiledRules (jigSlotGet s c.slot).set) ≠ 0 → t.jig.commit = none ∧ (jigSlotGet t c.slot).state = .free) ∧
    (limitFault (compiledRules (jigSlotGet s c.slot).set) = 0 → ∃ c', t.jig.commit = some c' ∧ c'.slot = c.slot ∧
      c'.rules = (compiledRules (jigSlotGet s c.slot).set).length ∧
      c'.phase = (if c.partner then .waitGo else if c.mirrored && !c.partnerReady then .waitReady else .waitSwitch)))) ∧
  (∀ s c, s.jig.commit = some c → c.phase = .waitSwitch → c.slot < 4 → currentSlot s ≠ c.slot → Completes .jigVersionSwitch s (fun t =>
    (jigSlotGet t c.slot).state = .current ∧ (jigSlotGet t (currentSlot s)).state = .draining ∧
    (c.partner = true → t.jig.commit = none ∧ t.jig.staging = (jigSlotGet s c.slot).set) ∧
    (c.partner = false → c.mirrored = true → c.acked = false → t.jig.commit = some { c with phase := .waitAck }) ∧
    (c.partner = false → c.mirrored = false → t.jig.commit = none ∧ (Unanswered s c.chan c.seq →
      Answered t c.chan c.seq rcOk (commitResponse t c.mirror c.digest 0 0 0 c.rules c.nodes c.leafRefs))))) ∧
  (∀ s n, n < 4 → (jigSlotGet s n).state = .draining → (jigSlotGet s n).inflight = 0 → Completes (.jigSlotFree n) s (fun t =>
    jigSlotGet t n = {} ∧ (∀ m < 4, m ≠ n → jigSlotGet t m = jigSlotGet s m) ∧ ChangesOnly [.jig] s t)) ∧
  (∀ s n, n < 4 → (jigSlotGet s n).state = .draining → 0 < (jigSlotGet s n).inflight → (jigSlotGet s n).slowSent = false →
    exec (.jigDrainSlow n) s = .next (eventToManager (jigSlotSet s n { jigSlotGet s n with slowSent := true }) 0x8400
      (toLe 1 n ++ toLe 1 0 ++ toLe 2 (jigSlotGet s n).version ++ toLe 4 (jigSlotGet s n).inflight ++ toLe 4 (drainMs s (jigSlotGet s n)))))) ∧
  ((∀ s v d, s.jig.commit = none → s.jig.prepare = none → (freeSlot s).isSome = true → exec (.jigPrepare v d) s =
    .next { s with jig := { s.jig with prepare := some (v, d), incoming := [] } }) ∧
  (∀ s v d, s.jig.commit = none → s.jig.prepare = none → freeSlot s = none →
    exec (.jigPrepare v d) s = .next (itwSend s 0x12 (toLe 2 rcBusyVersion))) ∧
  (∀ s data x, s.jig.prepare = some x → s.jig.incoming.length + data.length < tableSize → exec (.jigData data) s =
    .next { s with jig := { s.jig with incoming := s.jig.incoming ++ data } }) ∧
  (∀ s c, s.jig.commit = some c → c.mirrored = true → c.partner = false →
    (c.phase = .compiling → exec (.jigReady 0) s = .next { s with jig := { s.jig with commit := some { c with partnerReady := true } } }) ∧
    (c.phase = .waitReady → Completes (.jigReady 0) s (fun t =>
      t.jig = { s.jig with commit := some { c with partnerReady := true, phase := .waitSwitch } })) ∧
    (c.phase = .compiling ∨ c.phase = .waitReady → ∀ code, code ≠ 0 → Completes (.jigReady code) s (fun t => t.jig.commit = none ∧
      (jigSlotGet t c.slot).state = .free ∧ t.jig.staging = s.jig.staging ∧
      (Unanswered s c.chan c.seq → Answered t c.chan c.seq code (commitResponse t 2 (tableDigest s.jig.staging) 0 1 0 0 0 0)))) ∧
    (c.phase = .waitAck → Completes .jigAck s (fun t => t.jig = { s.jig with commit := none } ∧ (Unanswered s c.chan c.seq →
      Answered t c.chan c.seq rcOk (commitResponse t 1 c.digest 0 0 0 c.rules c.nodes c.leafRefs)))) ∧
    (c.phase = .waitSwitch → exec .jigAck s = .next { s with jig := { s.jig with commit := some { c with acked := true } } }) ∧
    ((c.phase = .compiling ∨ c.phase = .waitReady) → c.partnerReady = false → Completes .mirrorReadyTimeout s (fun t =>
      t.jig.commit = none ∧ (jigSlotGet t c.slot).state = .free ∧ t.fresh = s.fresh + 1))) ∧
  (∀ s c, s.jig.commit = some c → c.partner = true → c.phase = .waitGo →
    exec .jigGo s = .next { s with jig := { s.jig with commit := some { c with phase := .waitSwitch } } } ∧
    exec .mirrorGoTimeout s = .next (jigSlotSet { s with jig := { s.jig with commit := none } } c.slot {})) ∧
  (∀ s c, s.jig.commit = some c → c.phase = .waitAck → Completes .mirrorAckTimeout s (fun t => t.jig = { s.jig with commit := none } ∧
    (Unanswered s c.chan c.seq → Answered t c.chan c.seq rcOk (commitResponse t 2 c.digest 0 0 0 c.rules c.nodes c.leafRefs)))))

/-- The operations that set a register (R196, R197): A takes the value that the table gives, and the next operation follows. Readings
and choices of the model that it rests on: notes/assumptions/4.md. -/
def Obligations.RegisterOperationsSetA : Prop :=
  ∀ x ∈ ([
      (.ldi, 0x01, fun _ o => BitVec.ofNat 64 (opImm o)),
      (.ldf, 0x02, fun k o => BitVec.ofNat 64 (fieldGet k (opSpace o) (opOff o) (opWidth o))),
      (.mov, 0x04, fun k o => gReg k (opB o)),
      (.add, 0x08, fun k o => gReg k (opB o) + gReg k (opC o)),
      (.sub, 0x09, fun k o => gReg k (opB o) - gReg k (opC o)),
      (.and, 0x0A, fun k o => gReg k (opB o) &&& gReg k (opC o)),
      (.or, 0x0B, fun k o => gReg k (opB o) ||| gReg k (opC o)),
      (.xor, 0x0C, fun k o => gReg k (opB o) ^^^ gReg k (opC o)),
      (.shl, 0x0D, fun k o => gReg k (opB o) <<< bits (opImm o) 5 0),
      (.shr, 0x0E, fun k o => gReg k (opB o) >>> bits (opImm o) 5 0),
      (.addi, 0x0F, fun k o => gReg k (opB o) + BitVec.ofNat 64 (opImm o)),
      (.crc, 0x10, fun k o => (crc32c ((toLe 8 (gReg k (opB o)).toNat).take (bits (opImm o) 3 0))).setWidth 64)] :
      List ((Nat → Instr) × Nat × (Pkt → Bytes → Dword))), ∀ s p k o, OpDue s p x.2.1 k o →
    (HasNext k → Completes (x.1 p) s (fun t => PktBecomes [] s t p (opNext (setG k (opA o) (x.2.2 k o))))) ∧
    (¬ HasNext k → k.mirrors = [] → k.hdr.pipeline < 4 → Completes (x.1 p) s (fun t => pktGet t p = none ∧
      Counted s t (r_CST_ACT_CNT_NO_VERDICT k.hdr.pipeline) 1))

/-- A pass enters its action unit at operation 0 of its record with the COOKIE in G0 (R193 to R196); a record that is not valid raises
an exception, one of another slice drops the pass, and the sixty-fifth operation of a pass raises ACT_OP_LIMIT (R198). Branches, JUMP
and END (R194, R197, R198): a branch whose condition holds goes to its target operation, one whose condition fails to the next; JUMP
enters operation 0 of its record and keeps the registers; END without a verdict drops the pass. Readings and choices of the model that
it rests on: notes/assumptions/38.md. -/
def Obligations.PassesEnterAndMoveThroughRecords : Prop :=
  ((∀ s p k r, pktGet s p = some k → k.stage = .fetch → r = mapGetD s.act.table k.jig.action (zeros 240) →
    (recValid r = true → (bitAt (le r 4 4) 12 = true → bits (le r 4 4) 11 0 = k.hdr.slice) → Completes (.actionRecordFetch p) s (fun t =>
      PktBecomes [.fresh, .regs] s t p { k with
        stage := .action
        pass := { g := k.jig.cookie.setWidth 64 :: List.replicate 15 0, recIdx := k.jig.action, record := r, op := 0 } })) ∧
    (recValid r = false → k.hdr.pipeline < 4 → (freeEntry s (exceptionCluster k) k.hdr.slice).isSome = true →
      Completes (.actionRecordFetch p) s (fun t => (∃ k' h, pktGet t p = some k' ∧ k'.stage = .cascade ∧
        k'.item = some (exceptionCluster k, h)) ∧ Counted s t (r_CST_ACT_CNT_BAD_RECORD k.hdr.pipeline) 1)) ∧
    (recValid r = true → bitAt (le r 4 4) 12 = true → bits (le r 4 4) 11 0 ≠ k.hdr.slice → k.mirrors = [] → k.hdr.pipeline < 4 →
      Completes (.actionRecordFetch p) s (fun t => pktGet t p = none ∧ Counted s t (r_CST_ACT_CNT_SLICE_CHECK k.hdr.pipeline) 1))) ∧
  (∀ x ∈ ([(.ldi, 0x01), (.stf, 0x03), (.beq, 0x18), (.jump, 0x1D), (.endOp, 0x1E), (.lookup, 0x20), (.ttlDec, 0x28), (.setTc, 0x30),
      (.fwdPort, 0x38), (.drop, 0x3B)] : List ((Nat → Instr) × Nat)), ∀ s p k, pktGet s p = some k → k.stage = .action →
    opOpc (recOp k.pass.record k.pass.op) = x.2 → 64 ≤ k.pass.opsRun → k.hdr.pipeline < 4 →
    (freeEntry s (exceptionCluster k) k.hdr.slice).isSome = true → Completes (x.1 p) s (fun t => (∃ k' h, pktGet t p = some k' ∧
      k'.stage = .cascade ∧ k'.item = some (exceptionCluster k, h)) ∧ Counted s t (r_CST_ACT_CNT_OP_LIMIT k.hdr.pipeline) 1))) ∧
  ((∀ x ∈ ([
      (.beq, 0x18, fun k o => decide (gReg k (opA o) = gReg k (opB o))),
      (.bne, 0x19, fun k o => decide (gReg k (opA o) ≠ gReg k (opB o))),
      (.blt, 0x1A, fun k o => decide ((gReg k (opA o)).toNat < (gReg k (opB o)).toNat)),
      (.bge, 0x1B, fun k o => decide ((gReg k (opB o)).toNat ≤ (gReg k (opA o)).toNat)),
      (.btst, 0x1C, fun k o => bitAt (gReg k (opA o)).toNat (bits (opImm o) 13 8))] :
      List ((Nat → Instr) × Nat × (Pkt → Bytes → Bool))), ∀ s p k o, OpDue s p x.2.1 k o →
    (x.2.2 k o = true → bits (opImm o) 3 0 < recNops k.pass.record → Completes (x.1 p) s (fun t => PktBecomes [] s t p
      { k with pass := { k.pass with op := bits (opImm o) 3 0, opsRun := k.pass.opsRun + 1 } })) ∧
    (x.2.2 k o = false → HasNext k → Completes (x.1 p) s (fun t => PktBecomes [] s t p (opNext k)))) ∧
  (∀ s p k o r, OpDue s p 0x1D k o → r = mapGetD s.act.table (bits (opImm o) 19 0) (zeros 240) → recValid r = true →
    (bitAt (le r 4 4) 12 = true → bits (le r 4 4) 11 0 = k.hdr.slice) → Completes (.jump p) s (fun t =>
      PktBecomes [.fresh, .regs] s t p { k with pass := { k.pass with
        recIdx := bits (opImm o) 19 0
        record := r
        op := 0
        opsRun := k.pass.opsRun + 1 } })) ∧
  (∀ s p k o, OpDue s p 0x1E k o → k.mirrors = [] → k.hdr.pipeline < 4 → Completes (.endOp p) s (fun t => pktGet t p = none ∧
    Counted s t (r_CST_ACT_CNT_NO_VERDICT k.hdr.pipeline) 1)))

/-- The operations that write the frame (R73, R74, R196, R197, R675): a field takes the low bits of A, its checksums follow, and the TTL
or hop limit counts down; an absent field writes nothing and counts, and a TTL that has run out raises an exception. Edits wait for the
end of the pass in their order (R198, R304, R306, R675), and the settings of a pass are kept (R197, R309, R345): a traffic class, marks,
a class, an SA, at most two mirror copies, and a counter that the owning copy counts (R59, R174). Readings and choices of the model that
it rests on: notes/assumptions/35.md, notes/assumptions/36.md and notes/assumptions/37.md. -/
def Obligations.FieldWritesEditsAndSettingsOfAPass : Prop :=
  ((∀ s p k o, OpDue s p 0x03 k o → HasNext k →
    (∀ k', fieldPut k (opSpace o) (opOff o) (opWidth o) (gReg k (opA o)).toNat = some k' → Completes (.stf p) s (fun t =>
      PktBecomes [] s t p (opNext k'))) ∧
    (fieldPut k (opSpace o) (opOff o) (opWidth o) (gReg k (opA o)).toNat = none → k.hdr.pipeline < 4 → Completes (.stf p) s (fun t =>
      PktBecomes [.regs] s t p (opNext k) ∧ Counted s t (r_CST_ACT_CNT_ABSENT_WRITE k.hdr.pipeline) 1))) ∧
  (∀ s p k o b k', OpDue s p 0x29 k o → HasNext k → fieldBase k (opSpace o) (opOff o) (opWidth o) = some b →
    fieldPut k (opSpace o) (opOff o) (opWidth o) (gReg k (opA o)).toNat = some k' →
    (bits (opImm o) 3 0 = 15 → bits (opImm o) 19 16 = 15 → Completes (.cstf p) s (fun t => PktBecomes [] s t p (opNext k'))) ∧
    (∀ l lo hi a n f, bits (opImm o) 3 0 ≠ 15 → bits (opImm o) 19 16 = 15 →
      slotFor k (bits (opImm o) 3 0) (bits (opImm o) 12 4 + 2) = some l → lo = b + opOff o / 8 → hi = b + (opOff o + opWidth o + 7) / 8 →
      a = lo - (if lo % 2 = l.offset % 2 then 0 else 1) → n = hi - a + (if (hi - a) % 2 = 0 then 0 else 1) →
      f = putBe k'.frame (l.offset + bits (opImm o) 12 4) 2
        (csumUpdateAll (be k.frame (l.offset + bits (opImm o) 12 4) 2) (slice k.frame a n) (slice k'.frame a n)) →
      Completes (.cstf p) s (fun t => PktBecomes [] s t p (opNext { k' with frame := f }))) ∧
    (∀ l lo hi a n f, bits (opImm o) 3 0 = 15 → bits (opImm o) 19 16 ≠ 15 →
      slotFor k (bits (opImm o) 19 16) (bits (opImm o) 28 20 + 2) = some l → lo = b + opOff o / 8 → hi = b + (opOff o + opWidth o + 7) / 8 →
      a = lo - (if lo % 2 = l.offset % 2 then 0 else 1) → n = hi - a + (if (hi - a) % 2 = 0 then 0 else 1) →
      f = putBe k'.frame (l.offset + bits (opImm o) 28 20) 2 (if bitAt (opImm o) 29
        then udpCsumUpdateAll (be k.frame (l.offset + bits (opImm o) 28 20) 2) (slice k.frame a n) (slice k'.frame a n)
        else csumUpdateAll (be k.frame (l.offset + bits (opImm o) 28 20) 2) (slice k.frame a n) (slice k'.frame a n)) →
      Completes (.cstf p) s (fun t => PktBecomes [] s t p (opNext { k' with frame := f })))) ∧
  (∀ s p k o l, OpDue s p 0x28 k o → HasNext k → bitAt (opImm o) 3 = true → slotFor k (bits (opImm o) 2 0) 8 = some l →
    1 < byteAt k.frame (l.offset + 7) → Completes (.ttlDec p) s (fun t => PktBecomes [] s t p
      (opNext { k with frame := putBe k.frame (l.offset + 7) 1 (byteAt k.frame (l.offset + 7) - 1) }))) ∧
  (∀ s p k o l f g, OpDue s p 0x28 k o → HasNext k → bitAt (opImm o) 3 = false → slotFor k (bits (opImm o) 2 0) 12 = some l →
    1 < byteAt k.frame (l.offset + 8) → f = putBe k.frame (l.offset + 8) 1 (byteAt k.frame (l.offset + 8) - 1) →
    g = putBe f (l.offset + 10) 2 (csumUpdate (be k.frame (l.offset + 10) 2) (be k.frame (l.offset + 8) 2) (be f (l.offset + 8) 2)) →
    Completes (.ttlDec p) s (fun t => PktBecomes [] s t p (opNext { k with frame := g }))) ∧
  (∀ s p k o l, OpDue s p 0x28 k o → k.hdr.pipeline < 4 → (freeEntry s (exceptionCluster k) k.hdr.slice).isSome = true →
    slotFor k (bits (opImm o) 2 0) (if bitAt (opImm o) 3 then 8 else 12) = some l →
    byteAt k.frame (l.offset + (if bitAt (opImm o) 3 then 7 else 8)) ≤ 1 → Completes (.ttlDec p) s (fun t =>
      (∃ k' h, pktGet t p = some k' ∧ k'.stage = .cascade ∧ k'.frame = k.frame ∧ k'.item = some (exceptionCluster k, h)) ∧
      Counted s t (r_CST_ACT_CNT_TTL k.hdr.pipeline) 1))) ∧
  ((∀ x ∈ ([
      (.vlanPush, 0x2A, fun o => bits (opImm o) 18 16, 12, fun k o a => .vlanPush a (bits (opImm o) 15 0) (bits (gReg k (opA o)).toNat 15 0)),
      (.vlanPop, 0x2B, fun o => bits (opImm o) 18 16, 14, fun _ _ a => .vlanPop a),
      (.decap, 0x2D, fun o => bits (opImm o) 2 0, 0, fun _ _ a => .decap a)] :
      List ((Nat → Instr) × Nat × (Bytes → Nat) × Nat × (Pkt → Bytes → Nat → Edit))), ∀ s p k o, OpDue s p x.2.1 k o → HasNext k →
    (∀ l, slotFor k (x.2.2.1 o) x.2.2.2.1 = some l → Completes (x.1 p) s (fun t => PktBecomes [] s t p
      (opNext { k with pass := { k.pass with edits := k.pass.edits ++ [x.2.2.2.2 k o l.offset] } }))) ∧
    (slotFor k (x.2.2.1 o) x.2.2.2.1 = none → k.hdr.pipeline < 4 → Completes (x.1 p) s (fun t => PktBecomes [.regs] s t p (opNext k) ∧
      Counted s t (r_CST_ACT_CNT_ABSENT_WRITE k.hdr.pipeline) 1))) ∧
  (∀ x ∈ ([
      (.encap, 0x2C, fun k o => { k with pass := { k.pass with edits := k.pass.edits ++ [.encap (bits (opV k o) 15 0)] } }),
      (.setTc, 0x30, fun k o => { k with pass := { k.pass with tc := some (bits (opV k o) 2 0) } }),
      (.mark, 0x31, fun k o => { k with hdr := { k.hdr with userFlags := k.hdr.userFlags ||| BitVec.ofNat 16 (opImm o) } }),
      (.setClass, 0x32, fun k o => { k with hdr := { k.hdr with cls := bits (opImm o) 3 0 } }),
      (.setSa, 0x33, fun k o => { k with pass := { k.pass with sa := some (bits (opV k o) 19 0, bitAt (opV k o) 20) } })] :
      List ((Nat → Instr) × Nat × (Pkt → Bytes → Pkt))), ∀ s p k o, OpDue s p x.2.1 k o → HasNext k → Completes (x.1 p) s (fun t =>
    PktBecomes [] s t p (opNext (x.2.2 k o)))) ∧
  (∀ s p k o, OpDue s p 0x34 k o → HasNext k →
    (ownsSideEffects s k = true → Completes (.count p) s (fun t => PktBecomes [.act] s t p (opNext k) ∧ t.act.table = s.act.table ∧
      mapGetD t.act.counters (bits (opV k o) 21 0) (0, 0) = ((mapGetD s.act.counters (bits (opV k o) 21 0) (0, 0)).1 + 1,
        (mapGetD s.act.counters (bits (opV k o) 21 0) (0, 0)).2 + BitVec.ofNat 64 k.hdr.frameLen) ∧
      ∀ i, i ≠ bits (opV k o) 21 0 → mapGet t.act.counters i = mapGet s.act.counters i)) ∧
    (ownsSideEffects s k = false → Completes (.count p) s (fun t => PktBecomes [.regs] s t p (opNext k) ∧
      Counted s t r_SCB_CNT_TWIN_DISCARD 1))) ∧
  (∀ s p k o, OpDue s p 0x35 k o → HasNext k →
    (k.pass.mirrored < 2 → Completes (.mirror p) s (fun t => PktBecomes [] s t p (opNext { k with
      pass := { k.pass with mirrored := k.pass.mirrored + 1 }
      mirrors := k.mirrors ++ [(BitVec.ofNat 32 (opV k o), k.frame, k.tx)] }))) ∧
    (2 ≤ k.pass.mirrored → k.hdr.pipeline < 4 → Completes (.mirror p) s (fun t => PktBecomes [.regs] s t p (opNext k) ∧
      Counted s t (r_CST_ACT_CNT_MIRROR_DROP k.hdr.pipeline) 1))))

/-- The operations on Cistern (R168, R169, R172 to R174, R179, R180, R197, R198, R674): a lookup sets its status and entry, the ninth
raises an exception, and the owning copy updates the entry that was hit or asks Scribe to learn, insert or delete. Readings and choices
of the model that it rests on: notes/assumptions/28.md. -/
def Obligations.TableOperationsLookUpAndAskScribe : Prop :=
  (∀ s p k o pair, OpDue s p 0x20 k o → HasNext k → k.pass.lookups < 8 → pair = (if k.hdr.twin then some (PairKey.mk k.stream k.hdr.twinSeq
      k.hdr.pass k.pass.lookups) else none) →
    (∀ st e h, (lookup s pair (regKey k (bits (opImm o) 1 0) (opB o)) (bitAt (opImm o) 2)).2 = .got st e h → Completes (.lookup p) s (fun t =>
      PktBecomes [.cst, .regs] s t p (opNext { k with pass := { k.pass with
        g := k.pass.g.set (opA o) st
        lookups := k.pass.lookups + 1
        ent := e
        lastHit := h } }))) ∧
    ((lookup s pair (regKey k (bits (opImm o) 1 0) (opB o)) (bitAt (opImm o) 2)).2 = .waits → exec (.lookup p) s = .next s)) ∧
  (∀ s p k o, OpDue s p 0x20 k o → 8 ≤ k.pass.lookups → k.hdr.pipeline < 4 →
    (freeEntry s (exceptionCluster k) k.hdr.slice).isSome = true → Completes (.lookup p) s (fun t => (∃ k' h, pktGet t p = some k' ∧
      k'.stage = .cascade ∧ k'.item = some (exceptionCluster k, h)) ∧ Counted s t (r_CST_ACT_CNT_LOOKUP_LIMIT k.hdr.pipeline) 1)) ∧
  (∀ s p k o h l, OpDue s p 0x21 k o → HasNext k → k.pass.lastHit = some h → typeHolds (byteAt h.key 0) (opOff o) = true →
    ownsSideEffects s k = true → resolveLoc s h.key h.loc h.epoch = some l → entStatic (wayGet s l) = false →
    Completes (.entUpdate p) s (fun t => PktBecomes [.cst, .sqr] s t p (opNext k) ∧
      wayGet t l = putEntryField (wayGet s l) (opOff o) (opWidth o) (gReg k (opA o)).toNat ∧ ∀ m, m ≠ l → wayGet t m = wayGet s m)) ∧
  (∀ s p k o, OpDue s p 0x21 k o → HasNext k → k.pass.lastHit = none → Completes (.entUpdate p) s (fun t =>
    PktBecomes [] s t p (opNext k))) ∧
  (∀ x ∈ ([
      (.learn, 0x22, fun k o => .learn (regKey k 1 (opB o)) ((gReg k (opA o)).setWidth 32) k.stamp k.hdr.source (bits (opImm o) 2 0)
        k.hdr.slice false),
      (.insert, 0x23, fun k o => .insert (regKey k 0 (opB o)) (flowEntry k o (gReg k (opC o)).toNat (gReg k (opC o + 1)).toNat)
        (bitAt (opImm o) 3) none)] : List ((Nat → Instr) × Nat × (Pkt → Bytes → ScribeReq))), ∀ s p k o, OpDue s p x.2.1 k o → HasNext k →
    (x.2.1 = 0x23 → opC o ≠ 15) →
    (ownsSideEffects s k = true → s.cst.queue.length < 4096 → Completes (x.1 p) s (fun t => PktBecomes [.cst] s t p (opNext k) ∧
      t.cst = { s.cst with queue := s.cst.queue ++ [x.2.2 k o] })) ∧
    (ownsSideEffects s k = false → Completes (x.1 p) s (fun t => PktBecomes [.regs] s t p (opNext k) ∧
      Counted s t r_SCB_CNT_TWIN_DISCARD 1))) ∧
  (∀ s p k o h, OpDue s p 0x24 k o → HasNext k → k.pass.lastHit = some h → ownsSideEffects s k = true → s.cst.queue.length < 4096 →
    Completes (.delete p) s (fun t => PktBecomes [.cst] s t p (opNext k) ∧
      t.cst = { s.cst with queue := s.cst.queue ++ [.delete h.key (some (h.loc, h.epoch)) false none] })) ∧
  (∀ s p k o, OpDue s p 0x24 k o → HasNext k → k.pass.lastHit = none → Completes (.delete p) s (fun t => PktBecomes [] s t p (opNext k)))

/-- Verdicts (R43, R197, R198, R215, R216, R259): a pass without edits and SA ends with its verdict in the exit order stage, as a work
item of the cluster it names, in its next pass, or dropped; a recirculation at pass 3 raises an exception. Action records (R194, R200,
R201): a write is checked and waits for its switch, a faulty one answers BAD_PARAM with the faulty operation, the switch makes pending
writes the table, and a read answers the record. Readings and choices of the model that it rests on: notes/assumptions/30.md,
notes/assumptions/38.md and notes/assumptions/45.md. -/
def Obligations.VerdictsEndThePassAndRecordsAreSwitched : Prop :=
  ((∀ x ∈ ([(.fwdPort, 0x38, fun v => .fwdPort (bits v 3 0)), (.flood, 0x3A, fun v => .flood (bits v 15 0))] :
      List ((Nat → Instr) × Nat × (Nat → Verdict))), ∀ s p k o, OpDue s p x.2.1 k o → k.pass.edits = [] → k.pass.sa = none → k.tx = [] →
    Completes (x.1 p) s (fun t => (∃ k', pktGet t p = some k' ∧ k'.stage = .exitOrder ∧ k'.verdict = some (x.2.2 (opV k o)) ∧
      k'.frame = k.frame ∧ k'.hdr = { k.hdr with frameLen := k.frame.length }) ∧ (∀ q, q ≠ p → pktGet t q = pktGet s q) ∧
      ChangesOnly [.pkts, .gauge, .regs] s t)) ∧
  (∀ s p k o n q, OpDue s p 0x39 k o → hostTarget s k (opV k o) = some (n, q) → k.pass.edits = [] → k.pass.sa = none → k.tx = [] →
    Completes (.fwdHost p) s (fun t => (∃ k', pktGet t p = some k' ∧ k'.stage = .exitOrder ∧ k'.verdict = some (.fwdHost n q) ∧
      k'.frame = k.frame) ∧ ChangesOnly [.pkts, .gauge, .regs] s t)) ∧
  (∀ s p k o, OpDue s p 0x39 k o → hostTarget s k (opV k o) = none → k.mirrors = [] → Completes (.fwdHost p) s (fun t =>
    pktGet t p = none)) ∧
  (∀ s p k o, OpDue s p 0x3B k o → k.mirrors = [] → Completes (.drop p) s (fun t => pktGet t p = none ∧
    ∀ q, q ≠ p → pktGet t q = pktGet s q)) ∧
  (∀ s p k o q, OpDue s p 0x3C k o → k.pass.edits = [] → k.pass.sa = none → q = 4 * railOf k.hdr.pipeline + bits (opV k o) 1 0 →
    (freeEntry s q k.hdr.slice).isSome = true → Completes (.toEngine p) s (fun t => ∃ k' h it, pktGet t p = some k' ∧ k'.stage = .cascade ∧
      k'.item = some (q, h) ∧ itemOf t q h = some it ∧ it.state = .queued ∧ it.kind = .toEngine ∧ it.reason = bits (opV k o) 15 8 ∧
      it.pid = p ∧ (clusterGet t q).order = (clusterGet s q).order ++ [h])) ∧
  (∀ s p k o, OpDue s p 0x3D k o → k.pass.edits = [] → k.pass.sa = none → k.hdr.pass < 3 → Completes (.recirc p) s (fun t =>
    (∃ k', pktGet t p = some k' ∧ k'.stage = .start ∧ k'.hdr.pass = k.hdr.pass + 1 ∧ k'.verdict = none ∧ k'.frame = k.frame) ∧
    ChangesOnly [.pkts, .gauge, .regs] s t)) ∧
  (∀ s p k o, OpDue s p 0x3D k o → 3 ≤ k.hdr.pass → k.hdr.pipeline < 4 → (freeEntry s (exceptionCluster k) k.hdr.slice).isSome = true →
    Completes (.recirc p) s (fun t => (∃ k' h, pktGet t p = some k' ∧ k'.stage = .cascade ∧ k'.item = some (exceptionCluster k, h)) ∧
      Counted s t (r_CST_ACT_CNT_PASS_LIMIT k.hdr.pipeline) 1))) ∧
  (RunsLater .actRecordWrite 0x0510 (fun _ _ req => le req 0 4 ≤ 0xFFFFF ∧ le req 4 4 = 0 ∧ recordFault (slice req 8 240) = none)
    (fun s t ch seq req => t.act = { s.act with pendingWrites := s.act.pendingWrites ++
      [⟨ch, seq, bits (le req 0 4) 19 0, slice req 8 240⟩] } ∧ ChangesOnly [.mbx, .act] s t) ∧
  (∀ s ch seq req i, Begun s ch seq 0x0510 req → le req 0 4 ≤ 0xFFFFF → le req 4 4 = 0 → recordFault (slice req 8 240) = some i →
    Completes (.actRecordWrite ch seq) s (fun t => Answered t ch seq rcBadParam (toLe 1 i) ∧ AnswerFrame [] s t ch)) ∧
  (∀ s w, s.act.pendingWrites = [w] → Completes .actRecordSwitch s (fun t => t.act.pendingWrites = [] ∧
    mapGetD t.act.table w.index (zeros 240) = w.record ∧ (∀ i, i ≠ w.index → mapGet t.act.table i = mapGet s.act.table i) ∧
    (Unanswered s w.chan w.seq → Answered t w.chan w.seq rcOk (toLe 1 0)))) ∧
  AnswersOk .actRecordRead 0x0511 (fun _ _ req => le req 0 4 < 0x100000)
    (fun s _ req => toLe 4 (le req 0 4) ++ zeros 4 ++ fit (mapGetD s.act.table (le req 0 4) (zeros 240)) 240)
    (fun s t ch _ => AnswerFrame [] s t ch))

/-- Scribe applies one request at a time (R170, R172, R173, R175, R177 to R182, R229): it takes the oldest, inserts a new key in a free
way of its first bucket, leaves or replaces a key that is present, learns, refreshes, moves and locks a station, deletes, flushes,
updates in place, and promotes a stash entry into a freed way. Readings and choices of the model that it rests on:
notes/assumptions/46.md. -/
def Obligations.ScribeAppliesRequestsToEntries : Prop :=
  (∀ s r rest, s.cst.taken = none → s.cst.queue = r :: rest → exec .scribeRequest s =
    .next { s with cst := { s.cst with taken := some r, queue := rest } }) ∧
  (∀ s key entry rep cmd e, s.cst.taken = some (.insert key entry rep cmd) → e = freshAging s entry →
    (∀ l, findKey s key = none → quotaOk s (entSlice e) = true → freeWay s (buckets (entKey e)).1 = some l →
      Completes .scribeInsert s (fun t =>
        wayGet t l = putWordBits (putWordBits e 29 22 ((h1 (entKey e)).toNat / 16777216)) 2 2 1 ∧
        (∀ m, m ≠ l → wayGet t m = wayGet s m) ∧ Counted s t r_SCB_CNT_INSERT 1 ∧
        (∀ ch seq, cmd = some (ch, seq) → Unanswered s ch seq → Answered t ch seq rcOk (toLe 4 (locWord l) ++ toLe 1 0 ++ zeros 3)))) ∧
    (findKey s key = none → quotaOk s (entSlice e) = false → Completes .scribeInsert s (fun t => (∀ m, wayGet t m = wayGet s m) ∧
      Counted s t r_SCB_CNT_QUOTA 1 ∧ ∀ ch seq, cmd = some (ch, seq) → Unanswered s ch seq → Answered t ch seq rcNoResource [])) ∧
    (∀ l, findKey s key = some l → rep = false → Completes .scribeInsert s (fun t => (∀ m, wayGet t m = wayGet s m) ∧
      Counted s t r_SCB_CNT_EXISTS 1 ∧
      ∀ ch seq, cmd = some (ch, seq) → Unanswered s ch seq → Answered t ch seq rcOk (toLe 4 (locWord l) ++ toLe 1 2 ++ zeros 3))) ∧
    (∀ l, findKey s key = some l → rep = true → (entStatic (wayGet s l) = false ∨ cmd.isSome = true) → Completes .scribeInsert s (fun t =>
      wayGet t l = putWordBits (putWordBits e 29 22 ((h1 (entKey e)).toNat / 16777216)) 2 2 1 ∧
      (∀ m, m ≠ l → wayGet t m = wayGet s m) ∧
      ∀ ch seq, cmd = some (ch, seq) → Unanswered s ch seq → Answered t ch seq rcOk (toLe 4 (locWord l) ++ toLe 1 1 ++ zeros 3)))) ∧
  (∀ s key dest ts src prof n fp l e, s.cst.taken = some (.learn key dest ts src prof n fp) → (isStandby s = false ∨ fp = true) →
    findKey s key = some l → e = wayGet s l → entStatic e = false →
    ((later 64 ts.toNat (le e 32 8) = true ∨ ts.toNat = le e 32 8 ∧ src < bits (le e 40 4) 4 0) →
      (le e 12 4 = dest.toNat → Completes .scribeLearn s (fun t => wayGet t l = refreshed s (putLearn e dest ts src) ∧
        ∀ m, m ≠ l → wayGet t m = wayGet s m)) ∧
      (BitVec.ofNat 32 (le e 12 4) ≠ dest → entLocked e = true → Completes .scribeLearn s (fun t =>
        (∀ m, wayGet t m = wayGet s m) ∧ Counted s t r_SCB_CNT_LOCKED_REFUSED 1)) ∧
      (BitVec.ofNat 32 (le e 12 4) ≠ dest → entLocked e = false → distance 64 ts.toNat (le e 24 8) < hwUse s 0x04A * 256000000 →
        bits (le e 40 4) 9 5 + 1 ≤ hwUse s 0x049 → Completes .scribeLearn s (fun t =>
          wayGet t l = refreshed s (putLearn (putMoves e (bits (le e 40 4) 9 5 + 1)) dest ts src) ∧
          (∀ m, m ≠ l → wayGet t m = wayGet s m) ∧ Counted s t r_SCB_CNT_STATION_MOVE 1)) ∧
      (BitVec.ofNat 32 (le e 12 4) ≠ dest → entLocked e = false → distance 64 ts.toNat (le e 24 8) < hwUse s 0x04A * 256000000 →
        hwUse s 0x049 < bits (le e 40 4) 9 5 + 1 → Completes .scribeLearn s (fun t =>
          wayGet t l = putWordBits (putMoves e (bits (le e 40 4) 9 5 + 1)) 4 4 1 ∧ (∀ m, m ≠ l → wayGet t m = wayGet s m) ∧
          Counted s t r_SCB_CNT_LOCK 1))) ∧
    (later 64 ts.toNat (le e 32 8) = false → ts.toNat ≠ le e 32 8 → Completes .scribeLearn s (fun t =>
      (∀ m, wayGet t m = wayGet s m) ∧ Counted s t r_SCB_CNT_STALE_LEARN 1))) ∧
  (∀ s key dest ts src prof n, s.cst.taken = some (.learn key dest ts src prof n false) → isStandby s = true →
    Completes .scribeLearn s (fun t => t.cst = { s.cst with taken := none } ∧ Counted s t r_ITW_CNT_LEARN_TX 1)) ∧
  (∀ s key st cmd, s.cst.taken = some (.delete key none st cmd) →
    (findKey s key = none → Completes .scribeDelete s (fun t => t.cst = { s.cst with taken := none } ∧
      ∀ ch seq, cmd = some (ch, seq) → Unanswered s ch seq → Answered t ch seq rcOk (zeros 4))) ∧
    (∀ l, findKey s key = some l → (entStatic (wayGet s l) = false ∨ st = true) → Completes .scribeDelete s (fun t =>
      wayGet t l = zeros 64 ∧ (∀ m, m ≠ l → wayGet t m = wayGet s m) ∧ Counted s t r_SCB_CNT_DELETE 1 ∧
      ∀ ch seq, cmd = some (ch, seq) → Unanswered s ch seq → Answered t ch seq rcOk ([1#8, 0#8, 0#8, 0#8]))) ∧
    (∀ l, findKey s key = some l → entStatic (wayGet s l) = true → st = false → Completes .scribeDelete s (fun t =>
      t.cst = { s.cst with taken := none } ∧ Counted s t r_SCB_CNT_STATIC_CONFLICT 1))) ∧
  (∀ s n types static ch seq, s.cst.taken = some (.flush n types static (ch, seq)) → Completes .scribeDelete s (fun t =>
    (∀ l ∈ flushSet s n types static, wayGet t l = zeros 64) ∧ (∀ l, l ∉ flushSet s n types static → wayGet t l = wayGet s l) ∧
    (Unanswered s ch seq → Answered t ch seq rcOk (toLe 4 (flushSet s n types static).length)))) ∧
  (∀ s key l epoch off w v, s.cst.taken = some (.update key l epoch off w v) →
    (∀ m, resolveLoc s key l epoch = some m → entStatic (wayGet s m) = false → Completes .scribeUpdate s (fun t =>
      wayGet t m = putEntryField (wayGet s m) off w v.toNat ∧ ∀ k, k ≠ m → wayGet t k = wayGet s k)) ∧
    (resolveLoc s key l epoch = none → Completes .scribeUpdate s (fun t => t.cst = { s.cst with taken := none } ∧
      Counted s t r_CST_CNT_UPDATE_LOST 1))) ∧
  (∀ s i w rest, s.cst.taken = none → s.cst.queue = .promote i w :: rest → entValid (wayGet s ⟨true, i⟩) = true →
    entValid (wayGet s ⟨false, w⟩) = false →
    (w / 4 = (buckets (entKey (wayGet s ⟨true, i⟩))).1 ∨ w / 4 = (buckets (entKey (wayGet s ⟨true, i⟩))).2) →
    Completes .stashPromote s (fun t => wayGet t ⟨false, w⟩ = wayGet s ⟨true, i⟩ ∧ wayGet t ⟨true, i⟩ = zeros 64 ∧
      (∀ m, m ≠ ⟨false, w⟩ → m ≠ ⟨true, i⟩ → wayGet t m = wayGet s m) ∧ epochGet t (w / 4) = epochGet s (w / 4) + 2 ∧
      t.cst.queue = rest ∧ Counted s t r_SCB_CNT_RELOCATE 1))

/-- What falls due in Cistern (R169, R181, R184, R186, R187, R192): a held result becomes a mark and the mark goes, the walker ages each
entry of a bucket, STAMP mode returns, a lock ends, and a way with an uncorrectable error is invalid. The Cistern commands (R173, R181,
R201, R673): an addition, a deletion and a flush join Scribe's queue and are answered later, a read and an unlock look the key up, and a
flood set takes its list. Readings and choices of the model that it rests on: notes/assumptions/4.md and notes/assumptions/19.md. -/
def Obligations.CisternCommandsAgingLocksAndErrors : Prop :=
  ((∀ s st seq pass ord a b c, pairFind s ⟨st, seq, pass, ord⟩ = some (.held a b c) → Completes (.pairResultExpire st seq pass ord) s (fun t =>
    pairFind t ⟨st, seq, pass, ord⟩ = some .mark ∧ Counted s t r_CST_CNT_PAIR_EXPIRED 1 ∧ ChangesOnly [.cst, .regs] s t)) ∧
  (∀ s st seq pass ord, pairFind s ⟨st, seq, pass, ord⟩ = some .mark → Completes (.pairMarkExpire st seq pass ord) s (fun t =>
    pairFind t ⟨st, seq, pass, ord⟩ = none ∧ ChangesOnly [.cst] s t)) ∧
  (∀ s b w l e to_, b < 1048576 → w < 4 → l = ⟨false, b * 4 + w⟩ → e = wayGet s l → to_ = ageTimeout s (entProf e) →
    Completes (.ageWalkVisit b) s (fun t => (∀ m : Loc, (m.stash = true ∨ m.idx / 4 ≠ b) → wayGet t m = wayGet s m) ∧
      ((entValid e = false ∨ entStatic e = true) → wayGet t l = e) ∧
      (entValid e = true → entStatic e = false → isStandby s = false →
        (s.cst.hitMode = true →
          (entAm e = false → wayGet t l = putLe (putWordBits e 6 5 2) 4 4 0) ∧
          (entAm e = true → entHit e = true → wayGet t l = putLe (putWordBits e 5 5 0) 4 4 0) ∧
          (entAm e = true → entHit e = false →
            (to_ = 0 ∨ min (le e 4 4 + 1) 0xFFFFFFFF < ceilDiv (to_ * 1000) (sweepMs s) →
              wayGet t l = putLe e 4 4 (min (le e 4 4 + 1) 0xFFFFFFFF)) ∧
            (to_ ≠ 0 → ceilDiv (to_ * 1000) (sweepMs s) ≤ min (le e 4 4 + 1) 0xFFFFFFFF → wayGet t l = zeros 64))) ∧
        (s.cst.hitMode = false →
          (entAm e = true → wayGet t l = putLe (putWordBits e 6 5 0) 4 4
            (if entHit e = true then ageNow s else distance 32 (ageNow s) ((le e 4 4 * periodUnits s) % 4294967296))) ∧
          (entAm e = false → (to_ = 0 ∨ distance 32 (ageNow s) (le e 4 4) < ageUnits to_) → wayGet t l = e) ∧
          (entAm e = false → to_ ≠ 0 → ageUnits to_ ≤ distance 32 (ageNow s) (le e 4 4) → wayGet t l = zeros 64))))) ∧
  (∀ s, s.cst.sweepWhole = true → Completes (.ageWalkVisit 1048576) s (fun t => t.cst.sweeps = s.cst.sweeps + 1 ∧
    ∀ m : Loc, m.stash = false → wayGet t m = wayGet s m)) ∧
  (∀ s, s.cst.hitMode = true → 2 ≤ s.cst.sweeps → exec .stampModeRestore s = .next { s with cst := { s.cst with hitMode := false } }) ∧
  (∀ s st i, hwUse s 0x04B ≠ 0 → entLocked (wayGet s ⟨st, i⟩) = true → entValid (wayGet s ⟨st, i⟩) = true →
    Completes (.lockHoldExpire st i) s (fun t => wayGet t ⟨st, i⟩ = putMoves (putWordBits (wayGet s ⟨st, i⟩) 4 4 0) 0 ∧
      ∀ m, m ≠ ⟨st, i⟩ → wayGet t m = wayGet s m)) ∧
  (∀ s st i, i < (if st = true then 1024 else 4194304) → entValid (wayGet s ⟨st, i⟩) = true →
    Completes (.cstEccInvalidate st i) s (fun t => wayGet t ⟨st, i⟩ = zeros 64 ∧ (∀ m, m ≠ ⟨st, i⟩ → wayGet t m = wayGet s m) ∧
      regField t r_CST_STATUS 1 1 = 1 ∧ Counted s t r_CST_CNT_ECC_UNCORR 1 ∧
      ((reg s r_CST_ECC_ADDR).getLsbD 31 = false → regField t r_CST_ECC_ADDR 30 0 = locWord ⟨st, i⟩)))) ∧
  (RunsLater .cstEntryAdd 0x0500 (fun s _ req => entValid (putWordBits (slice req 8 64) 6 4 0) = true ∧ s.cst.queue.length < 4096)
    (fun s t ch seq req => ∀ e, e = putWordBits (slice req 8 64) 6 4 0 →
      t.cst = { s.cst with queue := s.cst.queue ++ [.insert (entKey e) e (bitAt (le req 0 4) 0) (some (ch, seq))] } ∧
      ChangesOnly [.mbx, .cst] s t) ∧
  RunsLater .cstEntryDelete 0x0501 (fun s _ req => (keyField req).isSome = true ∧ s.cst.queue.length < 4096)
    (fun s t ch seq req => ∀ key, keyField req = some key →
      t.cst = { s.cst with queue := s.cst.queue ++ [.delete key none true (some (ch, seq))] } ∧ ChangesOnly [.mbx, .cst] s t) ∧
  (∀ s ch seq req, 4096 ≤ s.cst.queue.length →
    (Begun s ch seq 0x0500 req → entValid (putWordBits (slice req 8 64) 6 4 0) = true → Completes (.cstEntryAdd ch seq) s (fun t =>
      Answered t ch seq rcBusy [] ∧ AnswerFrame [] s t ch)) ∧
    (Begun s ch seq 0x0501 req → (keyField req).isSome = true → Completes (.cstEntryDelete ch seq) s (fun t =>
      Answered t ch seq rcBusy [] ∧ AnswerFrame [] s t ch))) ∧
  (∀ key l, AnswersOk .cstEntryRead 0x0502 (fun s _ req => keyField req = some key ∧ findKey s key = some l)
    (fun s _ _ => [1#8, 0#8, 0#8, 0#8] ++ toLe 4 (locWord l) ++ fit (wayGet s l) 64) (fun s t ch _ => AnswerFrame [] s t ch)) ∧
  (∀ key, AnswersOk .cstEntryRead 0x0502 (fun s _ req => keyField req = some key ∧ findKey s key = none)
    (fun _ _ _ => zeros 72) (fun s t ch _ => AnswerFrame [] s t ch)) ∧
  (∀ key l, AnswersOk .cstEntryUnlock 0x0503 (fun s _ req => keyField req = some key ∧ byteAt req 0 = 1 ∧ findKey s key = some l ∧
      entLocked (wayGet s l) = true) (fun _ _ _ => [1#8, 0#8, 0#8, 0#8])
    (fun s t _ _ => wayGet t l = putMoves (putWordBits (wayGet s l) 4 4 0) 0 ∧ ∀ m, m ≠ l → wayGet t m = wayGet s m)) ∧
  RunsLater .cstFlush 0x0504 (fun _ _ req => le req 0 2 = 0xFFFF ∨ le req 0 2 = 0xFFF ∨ le req 0 2 ≤ 2049)
    (fun s t ch seq req => t.cst = { s.cst with queue := s.cst.queue ++
        [.flush (if le req 0 2 = 0xFFFF then none else some (le req 0 2)) (byteAt req 2) (bitAt (byteAt req 3) 0) (ch, seq)] } ∧
      ChangesOnly [.mbx, .cst] s t) ∧
  AnswersOk .cstFloodSet 0x0506 (fun _ _ req => byteAt req 2 ≤ 32) (fun _ _ _ => [])
    (fun s t ch req => mapGetD t.cst.flood (le req 0 2) [] =
        (List.range (byteAt req 2)).map (fun i => BitVec.ofNat 32 (le req (4 + 4 * i) 4)) ∧
      (∀ j, j ≠ le req 0 2 → mapGet t.cst.flood j = mapGet s.cst.flood j) ∧ AnswerFrame [.cst] s t ch))

/-- Square's audits (R189 to R191, R201): expected values are written, an audit begins and runs on, its end digests every region that is
not DIRTY, compares it with the expected value and answers, and its results are read. Readings and choices of the model that it rests
on: notes/assumptions/10.md. -/
def Obligations.AuditsDigestAndCompareRegions : Prop :=
  AnswersOk .sqrExpectWrite 0x0518 (fun _ _ req => 1 ≤ le req 2 2 ∧ le req 2 2 ≤ 30 ∧ le req 0 2 + le req 2 2 ≤ 1024) (fun _ _ _ => [])
    (fun s t ch req => (∀ i < le req 2 2, mapGetD t.sqr.expect (le req 0 2 + i) (0, 0) =
        (BitVec.ofNat 32 (le req (8 + 8 * i) 4), le req (12 + 8 * i) 4)) ∧
      (∀ j, (j < le req 0 2 ∨ le req 0 2 + le req 2 2 ≤ j) → mapGetD t.sqr.expect j (0, 0) = mapGetD s.sqr.expect j (0, 0)) ∧
      AnswerFrame [.sqr] s t ch) ∧
  RunsLater .sqrAuditStart 0x0519 (fun s _ _ => s.sqr.walk = none)
    (fun s t ch seq req => t.sqr.walk = some ⟨bits (byteAt req 0) 3 0, bitAt (byteAt req 0) 4, bitAt (byteAt req 1) 0, ch, seq⟩ ∧
      t.sqr.dirty = [] ∧ t.sqr.mismatch = [] ∧ ChangesOnly [.mbx, .sqr] s t) ∧
  (∀ s ch seq req, Begun s ch seq 0x0519 req → s.sqr.walk.isSome = true → Completes (.sqrAuditStart ch seq) s (fun t =>
    Answered t ch seq rcBusy [] ∧ AnswerFrame [] s t ch)) ∧
  (∀ s a, s.sqr.walk = some a → Completes .sqrAuditComplete s (fun t => t.sqr.walk = none ∧ t.sqr.round = s.sqr.round + 1 ∧ t.cst = s.cst ∧
    (∀ r < 1024, r ∉ s.sqr.dirty → mapGetD t.sqr.digest r (0, 0) = regionDigest s a r ∧
      (r ∈ t.sqr.mismatch ↔ a.compare = true ∧ regionDigest s a r ≠ mapGetD s.sqr.expect r (0, 0))) ∧
    (Unanswered s a.chan a.seq → Answered t a.chan a.seq rcOk
      (toLe 4 t.sqr.round.toNat ++ toLe 2 t.sqr.mismatch.length ++ toLe 2 s.sqr.dirty.length)))) ∧
  AnswersOk .sqrResultRead 0x051A (fun _ _ req => 1 ≤ le req 2 2 ∧ le req 2 2 ≤ 30 ∧ le req 0 2 + le req 2 2 ≤ 1024)
    (fun s _ req => req ++ (List.range (le req 2 2)).flatMap (fun i =>
      toLe 4 (mapGetD s.sqr.digest (le req 0 2 + i) (0, 0)).1.toNat ++
      toLe 4 ((mapGetD s.sqr.digest (le req 0 2 + i) (0, 0)).2 + 2 ^ 29 * b2n (s.sqr.dirty.contains (le req 0 2 + i)) +
        2 ^ 30 * b2n (s.sqr.mismatch.contains (le req 0 2 + i)))))
    (fun s t ch _ => AnswerFrame [] s t ch)

/-- Channels, waits, forks and joins of a thread that executes (R222 to R228, R234 to R236): each store to the window takes effect. Work
items (R217, R218, R221, R222, R235): delivered to a free thread with its parcel in the frame, retried, ended, held and loaded again.
Readings and choices of the model that it rests on: notes/assumptions/31.md, notes/assumptions/39.md and notes/assumptions/40.md. -/
def Obligations.ThreadsWaitForkAndEndTheirItems : Prop :=
  ((∀ s q t v, threadRuns s q t = true → Completes (.chDest q t v) s (fun u =>
    thGet u q t = { thGet s q t with dest := bits v.toNat 11 0, staged := [] } ∧ ChangesOnly [.csc] s u)) ∧
  (∀ s q t v, threadRuns s q t = true → (thGet s q t).staged.length < 32 → Completes (.chWord q t v) s (fun u =>
    thGet u q t = { thGet s q t with staged := (thGet s q t).staged ++ [v] } ∧ ChangesOnly [.csc] s u)) ∧
  (∀ c ∈ [Instr.chLast, Instr.chLastNb], ∀ s q t v d, threadRuns s q t = true → (thGet s q t).staged.length < 32 → (thGet s q t).dest = d →
    d < 0x800 → (chanInfo s (d / 256) (d % 256)).msgs.length < (chanInfo s (d / 256) (d % 256)).depth →
    (chanInfo s (d / 256) (d % 256)).writers = [] → Completes (c q t v) s (fun u =>
      (chanInfo u (d / 256) (d % 256)).msgs = (chanInfo s (d / 256) (d % 256)).msgs ++ [(thGet s q t).staged ++ [v]] ∧
      thGet u q t = { thGet s q t with staged := [], chResult := 0 } ∧ ChangesOnly [.csc] s u)) ∧
  (∀ s q t v d, threadRuns s q t = true → (thGet s q t).staged.length < 32 → (thGet s q t).dest = d → d < 0x800 →
    0 < (chanInfo s (d / 256) (d % 256)).depth → (chanInfo s (d / 256) (d % 256)).depth ≤ (chanInfo s (d / 256) (d % 256)).msgs.length →
    Completes (.chLast q t v) s (fun u => thGet u q t = { thGet s q t with
        staged := (thGet s q t).staged ++ [v]
        state := .waiting
        wait := .space d } ∧
      (chanInfo u (d / 256) (d % 256)).writers = (chanInfo s (d / 256) (d % 256)).writers ++ [64 * q + t] ∧ ChangesOnly [.csc, .regs] s u)) ∧
  (∀ s ch w ws, ch < 0x800 → (chanInfo s (ch / 256) (ch % 256)).msgs.length < (chanInfo s (ch / 256) (ch % 256)).depth →
    (chanInfo s (ch / 256) (ch % 256)).writers = w :: ws → (ch % 256 = 255 → (clusterGet s (ch / 256)).stagedRecords = []) →
    Completes (.chWaitCommit ch) s (fun u => (chanInfo u (ch / 256) (ch % 256)).msgs =
        (chanInfo s (ch / 256) (ch % 256)).msgs ++ [(thGet s (w / 64) (w % 64)).staged] ∧
      (chanInfo u (ch / 256) (ch % 256)).writers = ws ∧ (thGet u (w / 64) (w % 64)).state = .ready ∧
      (thGet u (w / 64) (w % 64)).staged = [] ∧ ChangesOnly [.csc] s u)) ∧
  (∀ s q t v m rest e, threadRuns s q t = true → engineOf s q t = some e → isReader s q t (bits v.toNat 11 0) = true →
    (chanInfo s q (bits v.toNat 11 0 % 256)).msgs = m :: rest → 0x20000 ≤ 8 * bits v.toNat 31 16 →
    8 * bits v.toNat 31 16 + 8 * m.length ≤ 0x40000 → Completes (.chRead q t v) s (fun u =>
      (chanInfo u q (bits v.toNat 11 0 % 256)).msgs = rest ∧ (thGet u q t).readLen = m.length ∧
      Stored s u (localAddr e (8 * bits v.toNat 31 16)) (m.flatMap (fun w => toLe 8 w.toNat)) ∧ ChangesOnly [.csc, .mem] s u)) ∧
  (∀ s q t v, threadRuns s q t = true → (bits v.toNat 11 0 ≠ 0xFFF ∨ bits v.toNat 63 32 ≠ 0) →
    (chanHas s (bits v.toNat 11 0) = true → exec (.wait q t v) s = .next s) ∧
    (chanHas s (bits v.toNat 11 0) = false → Completes (.wait q t v) s (fun u => (thGet u q t).state = .waiting ∧
      (thGet u q t).wait = .data (bits v.toNat 11 0) (bitAt v.toNat 12 && decide (t = supervisorSlot s q)) (bits v.toNat 63 32) ∧
      ChangesOnly [.csc] s u))) ∧
  (∀ s q t ch item n, (thGet s q t).state = .waiting → (thGet s q t).wait = .data ch item n →
    (chanHas s ch = true → Completes (.waitWake q t) s (fun u => thGet u q t = { thGet s q t with state := .ready, wait := .none } ∧
      ChangesOnly [.csc] s u)) ∧
    (n ≠ 0 → Completes (.waitTimeout q t) s (fun u => thGet u q t = { thGet s q t with state := .ready, wait := .none } ∧
      ChangesOnly [.csc] s u))) ∧
  (∀ s q t v, threadRuns s q t = true → Completes (.forkArg q t v) s (fun u => thGet u q t = { thGet s q t with forkArg := v } ∧
    ChangesOnly [.csc] s u)) ∧
  (∀ s q t v, threadRuns s q t = true → (thGet s q t).children.length < 8 →
    (forkThreads s q (thGet s q t).slice ≠ [] → Completes (.fork q t v) s (fun u => ∃ c ∈ forkThreads s q (thGet s q t).slice,
      (thGet u q t).forkResult = c ∧ (thGet u q t).children = (thGet s q t).children ++ [c] ∧ (thGet u q c).state = .ready ∧
      (thGet u q c).parent = some t ∧ (thGet u q c).pc = bits v.toNat 16 0 ∧ ChangesOnly [.csc, .fresh] s u)) ∧
    (forkThreads s q (thGet s q t).slice = [] → Completes (.fork q t v) s (fun u => (thGet u q t).forkResult = 0xFF ∧
      Counted s u (r_CSC_CNT_FORK_NONE q) 1 ∧ ChangesOnly [.csc, .fresh, .regs] s u))) ∧
  (∀ s q t v, threadRuns s q t = true → ((thGet s q t).children = [] → exec (.join q t v) s = .next s) ∧
    ((thGet s q t).children ≠ [] → Completes (.join q t v) s (fun u => (thGet u q t).state = .waiting ∧ (thGet u q t).wait = .join ∧
      ChangesOnly [.csc] s u)))) ∧
  ((∀ s q t h it e, itemOf s q h = some it → it.state = .queued → t ∈ freeWorkers s q → oldestOf s q it.slice = some h →
    engineOf s q t = some e → ((thGet s q t).reserved = true → (thGet s q t).slice = it.slice) →
    ((thGet s q t).reserved = false → (drrTake s q it.slice).isSome = true) → Completes (.workItemDeliver q t h) s (fun u =>
      itemOf u q h = some { it with state := .active } ∧ h ∉ (clusterGet u q).order ∧ (thGet u q t).state = .ready ∧
      (thGet u q t).frame0 = some h ∧ (thGet u q t).slice = it.slice ∧ Stored s u (localAddr e (frameLocal t 0)) (fit it.parcel 1024) ∧
      ChangesOnly [.csc, .mem, .regs, .gauge] s u)) ∧
  (∀ s p pos k q reason kind, pktGet s p = some k → k.item = some (q, reason) → k.pass.fault = some kind → k.stage = .retry →
    canStart s k = true → entryServes s k pos = true → (freeEntry s q k.hdr.slice).isSome = true → Completes (.excRetry p pos) s (fun u =>
      (∃ k' h, pktGet u p = some k' ∧ k'.stage = .cascade ∧ k'.item = some (q, h) ∧ (clusterGet u q).order = (clusterGet s q).order ++ [h]) ∧
      (∀ l ∈ u.csc.retry, p ∉ l) ∧ ChangesOnly [.csc, .pkts, .fresh] s u)) ∧
  (∀ s q t v, threadRuns s q t = true → t ≠ supervisorSlot s q → activeItems s q t = [] → Completes (.exit q t v) s (fun u =>
    (thGet u q t).state = .free ∧ (thGet u q t).frame0 = none ∧ (thGet u q t).staged = [] ∧
    ((thGet s q t).parent = none → u.mem = s.mem) ∧
    (∀ r e, (thGet s q t).parent = some r → engineOf s q r = some e → Stored s u (localAddr e (0x20000 + 8 * t)) (toLe 8 v.toNat)) ∧
    ChangesOnly [.csc, .mem] s u)) ∧
  (∀ s q t v i it, threadRuns s q t = true → frameOf (thGet s q t) (bits v.toNat 15 0) = some i →
    activeItem s q (bits v.toNat 15 0) (thGet s q t).slice = some it → Completes (.park q t v) s (fun u =>
      itemOf u q (bits v.toNat 15 0) = some { it with state := .held, parcel := frameBytes s q t i } ∧
      thGet u q t = setFrame (thGet s q t) i none ∧ (∀ k, pktGet s it.pid = some k → pktGet u it.pid = some { k with parked := true }) ∧
      ChangesOnly [.csc, .pkts, .twin] s u)) ∧
  (∀ s q t v i it e, threadRuns s q t = true → engineOf s q t = some e → freeFrame (thGet s q t) = some i →
    itemOf s q (bits v.toNat 15 0) = some it → it.state = .held → it.slice = (thGet s q t).slice → Completes (.unpark q t v) s (fun u =>
      itemOf u q (bits v.toNat 15 0) = some { it with state := .active } ∧ thGet u q t = setFrame (thGet s q t) i (some (bits v.toNat 15 0)) ∧
      Stored s u (localAddr e (frameLocal t i)) (fit it.parcel 1024) ∧ ChangesOnly [.csc, .mem] s u)))

/-- Supervision, faults and the deadlock detector (R237 to R246, R249). The device channels (R229 to R232): the oldest message of a
channel is served: a lookup answers its REPLY channel, a Scribe request is queued, a verdict ends its item and takes effect on the
packet, INJECT makes a packet, and an event goes to the manager. The Cascade commands (R246 to R248). Readings and choices of the model
that it rests on: notes/assumptions/32.md, notes/assumptions/33.md, notes/assumptions/34.md, notes/assumptions/41.md,
notes/assumptions/42.md, notes/assumptions/43.md and notes/assumptions/44.md. -/
def Obligations.SupervisionServicesAndCommandsOfEngines : Prop :=
  ((∀ s q t, threadRuns s q (supervisorSlot s q) = true → t ≠ supervisorSlot s q →
    ((thGet s q t).state = .ready ∨ (thGet s q t).state = .waiting) → Completes (.suspend q t) s (fun u =>
      thGet u q t = { thGet s q t with state := .suspended } ∧ (thGet u q (supervisorSlot s q)).supResult = 0 ∧ ChangesOnly [.csc] s u)) ∧
  (∀ c ∈ [Instr.suspend, Instr.resume, fun q t => Instr.abort q t true], ∀ s q, threadRuns s q (supervisorSlot s q) = true →
    Completes (c q (supervisorSlot s q)) s (fun u => (thGet u q (supervisorSlot s q)).supResult = 2 ∧ ChangesOnly [.csc] s u)) ∧
  (∀ s q t, threadRuns s q (supervisorSlot s q) = true → t ≠ supervisorSlot s q → (thGet s q t).state = .suspended →
    Completes (.resume q t) s (fun u => (thGet u q (supervisorSlot s q)).supResult = 0 ∧
      (∀ ch, (thGet s q t).wait = .space ch → (thGet u q t).state = .waiting ∧
        64 * q + t ∈ (chanInfo u (ch / 256) (ch % 256)).writers) ∧
      ((∀ ch, (thGet s q t).wait ≠ .space ch) → thGet u q t = { thGet s q t with state := .ready, wait := .none }) ∧
      ChangesOnly [.csc] s u)) ∧
  (∀ s q t requeue, threadRuns s q (supervisorSlot s q) = true → t ≠ supervisorSlot s q → (thGet s q t).state ≠ .free →
    Completes (.abort q t requeue) s (fun u => (thGet u q t).state = .free ∧ (thGet u q (supervisorSlot s q)).supResult = 0)) ∧
  (∀ s q v, threadRuns s q (supervisorSlot s q) = true → Completes (.supThread q (supervisorSlot s q) v) s (fun u =>
    (thGet u q (supervisorSlot s q)).supThread = bits v.toNat 5 0 ∧ ChangesOnly [.csc] s u)) ∧
  (∀ s q v e, threadRuns s q (supervisorSlot s q) = true → engineOf s q (supervisorSlot s q) = some e → 0x20000 ≤ 8 * v.toNat →
    8 * v.toNat + 256 ≤ 0x40000 → Completes (.supRegs q (supervisorSlot s q) v) s (fun u => Stored s u (localAddr e (8 * v.toNat))
      ((List.range 32).flatMap (fun i => toLe 8 ((((thGet s q (thGet s q (supervisorSlot s q)).supThread).regs)[i]?).getD 0).toNat)) ∧
      ChangesOnly [.mem] s u)) ∧
  (∀ s q v, threadRuns s q (supervisorSlot s q) = true → Completes (.supDldAck q (supervisorSlot s q) v) s (fun u =>
    (clusterGet u q).dldHeld = false ∧ (clusterGet u q).dldCount = 0 ∧ ChangesOnly [.csc] s u)) ∧
  (∀ s q t cls pc addr, 3 ≤ cls → cls ≤ 7 → q < 8 → threadRuns s q t = true → Completes (.threadFault q t cls pc addr) s (fun u =>
    (thGet u q t).state = .faulted ∧ (thGet u q t).faultClass = cls ∧ (thGet u q t).pc = pc ∧
    (t = supervisorSlot s q → (clusterGet u q).supRun = false) ∧ Counted s u (r_CSC_CNT_FAULT q) 1 ∧
    ChangesOnly [.csc, .mem, .regs, .gauge] s u)) ∧
  (∀ s e t cls q pos, enginePlace s e = some (q, pos) → (cls = 1 ∨ cls = 2) → t < 8 → e < 68 → Completes (.engineFault e t cls) s (fun u =>
    engState u e = .retired ∧ hwField u (0x022 + e / 32) (e % 32) (e % 32) = 1)) ∧
  (∀ s x q pos e cls, s.csc.loading.find? (fun y => y.1 = x) = some (x, q, pos, e, cls) → pos < 8 → Completes (.spareMapped x) s (fun u =>
    engState u x = .inService ∧ clusterEngine u q pos = x % 34 ∧ ∀ y ∈ u.csc.loading, y.1 ≠ x)) ∧
  (∀ s q, q < 8 → (clusterGet s q).supRun = false → (engineOf s q (supervisorSlot s q)).isSome = true → s.fw.cscRunning = true →
    Completes (.supervisorRestart q) s (fun u => (clusterGet u q).supRun = true ∧ (thGet u q (supervisorSlot s q)).state = .ready ∧
      (thGet u q (supervisorSlot s q)).pc = mapGetD s.csc.supEntry (q % 4) 0 ∧ ChangesOnly [.csc] s u)) ∧
  (∀ s e n, e < 68 → Completes (.engineMemoryScrub e n) s (fun u => Counted s u (r_CSC_ECC_CORR (e / 34)) n ∧ ChangesOnly [.regs] s u)) ∧
  (∀ s q, q < 8 → (clusterGet s q).dldHeld = false → deadlocked s q = true → Completes (.dldFire q) s (fun u =>
    (clusterGet u q).dldHeld = true ∧ (clusterGet u q).dldCount = 65536 ∧ (clusterGet u q).snapshot = snapshotBytes s q ∧
    Counted s u (r_CSC_CNT_DLD q) 1 ∧ ChangesOnly [.csc, .mem, .regs, .gauge, .fresh] s u)) ∧
  (∀ s q, (clusterGet s q).dldHeld = true → exec (.cscDeadlock q) s =
    .next (eventToManager s 0x8B42 (toLe 1 (q / 4) ++ toLe 1 (q % 4) ++ toLe 2 (le (clusterGet s q).snapshot 8 2))))) ∧
  ((∀ s m st e hit, s.csc.devq.find? (fun m => m.chan = 0x800) = some m → bits (mw m.words 0) 14 3 < 0x800 →
    (chanInfo s (bits (mw m.words 0) 14 3 / 256) (bits (mw m.words 0) 14 3 % 256)).msgs.length <
      (chanInfo s (bits (mw m.words 0) 14 3 / 256) (bits (mw m.words 0) 14 3 % 256)).depth →
    (chanInfo s (bits (mw m.words 0) 14 3 / 256) (bits (mw m.words 0) 14 3 % 256)).writers = [] →
    (lookup { s with csc := { s.csc with devq := s.csc.devq.erase m } } (msgPair m) (msgKey m.words 2 (bits (mw m.words 0) 1 0))
      (bitAt (mw m.words 0) 2)).2 = .got st e hit → Completes .devchLookup s (fun u => u.csc.devq = s.csc.devq.erase m ∧
        (chanInfo u (bits (mw m.words 0) 14 3 / 256) (bits (mw m.words 0) 14 3 % 256)).msgs =
          (chanInfo s (bits (mw m.words 0) 14 3 / 256) (bits (mw m.words 0) 14 3 % 256)).msgs ++
            [st :: BitVec.ofNat 64 (2 ^ 32 * bits (mw m.words 0) 63 32) :: (List.range 8).map (fun i => BitVec.ofNat 64 (le e (8 * i) 8))])) ∧
  (∀ c n, (c, n) ∈ [(Instr.devchScribeLearn, 0), (.devchScribeInsert, 1), (.devchScribeDelete, 2), (.devchScribeUpdate, 3)] → ∀ s m,
    s.csc.devq.find? (fun m => m.chan = 0x801) = some m → bits (mw m.words 0) 3 0 = n →
    (m.parcel = [] ∨ bitAt (byteAt m.parcel 0x053) 1 = true) → s.cst.queue.length < 4096 → Completes c s (fun u =>
      u.csc.devq = s.csc.devq.erase m ∧ (∃ r, u.cst.queue = s.cst.queue ++ [r]) ∧ ChangesOnly [.csc, .cst, .fresh] s u)) ∧
  (∀ s m it k, s.csc.devq.find? (fun m => m.chan = 0x802) = some m →
    activeItem s m.cluster (bits (mw m.words 0) 15 0) m.slice = some it → pktGet s it.pid = some k →
    (∀ c v, (c, v) ∈ [(Instr.pktFwdPort, Verdict.fwdPort (bits (msgV m) 3 0)), (.pktFlood, .flood (bits (msgV m) 15 0))] →
      bits (mw m.words 0) 19 16 = (if c = .pktFwdPort then 0 else 2) → Completes c s (fun u =>
        itemOf u m.cluster (bits (mw m.words 0) 15 0) = none ∧ u.csc.devq = s.csc.devq.erase m ∧
        (∃ k', pktGet u it.pid = some k' ∧ k'.verdict = some v ∧ k'.item = none ∧
          k'.frame = (if bitAt (mw m.words 1) 10 then fit m.hdr (bits (mw m.words 1) 9 0) ++ k.frame.drop (bits (mw m.words 1) 9 0)
            else k.frame)) ∧ ∀ q, q ≠ it.pid → pktGet u q = pktGet s q)) ∧
    (∀ n q, bits (mw m.words 0) 19 16 = 1 → hostTarget s k (msgV m) = some (n, q) → Completes .pktFwdHost s (fun u =>
      itemOf u m.cluster (bits (mw m.words 0) 15 0) = none ∧ (pktGet u it.pid).bind (fun x => x.verdict) = some (.fwdHost n q))) ∧
    (bits (mw m.words 0) 19 16 = 3 → k.mirrors = [] → Completes .pktDrop s (fun u =>
      itemOf u m.cluster (bits (mw m.words 0) 15 0) = none ∧ pktGet u it.pid = none)) ∧
    (bits (mw m.words 0) 19 16 = 4 → k.hdr.pass < 3 → Completes .pktRecirc s (fun u =>
      itemOf u m.cluster (bits (mw m.words 0) 15 0) = none ∧ ∃ k', pktGet u it.pid = some k' ∧ k'.stage = .start ∧
        k'.hdr.pass = k.hdr.pass + 1 ∧ k'.verdict = none)) ∧
    (∀ f, bits (mw m.words 0) 19 16 = 5 → f = memReadN s.mem (bits (mw m.words 2) 47 0) (bits (mw m.words 1) 31 16) →
      (basinShape s f.length).2 - min (basinShape s f.length).2 (ownFree s m.slice) ≤ openFree s → Completes .inject s (fun u =>
        ∃ p k', pktGet u p = some k' ∧ k'.frame = f ∧ k'.stage = .start ∧ k'.hdr.source = 18 ∧ k'.hdr.slice = m.slice))) ∧
  (∀ s m, s.csc.devq.find? (fun m => m.chan = 0x803) = some m → exec .cscEngineEvent s =
    .next (eventToManager { s with csc := { s.csc with devq := s.csc.devq.erase m } } 0x8B43
      ((m.words.flatMap (fun w => toLe 8 w.toNat)).take 248)))) ∧
  (AnswersOk .cscClusterQuery 0x0B40 (fun _ _ req => byteAt req 0 ≤ 1 ∧ byteAt req 1 ≤ 3)
    (fun s _ req => (clusterMap s (4 * byteAt req 0 + byteAt req 1)).flatMap (toLe 1) ++
      toLe 1 (threadsIn s (4 * byteAt req 0 + byteAt req 1) .free) ++ toLe 1 (resTotal s (4 * byteAt req 0 + byteAt req 1)) ++
      toLe 1 (sparesOf s (byteAt req 0)) ++ zeros 1 ++ toLe 4 (itemsIn s (4 * byteAt req 0 + byteAt req 1) .queued) ++
      toLe 4 (itemsIn s (4 * byteAt req 0 + byteAt req 1) .held) ++ toLe 1 (threadsIn s (4 * byteAt req 0 + byteAt req 1) .faulted) ++
      toLe 1 (threadsIn s (4 * byteAt req 0 + byteAt req 1) .suspended) ++ zeros 2) (fun s t ch _ => AnswerFrame [] s t ch) ∧
  AnswersOk .cscEngineRetire 0x0B42 (fun s _ req => byteAt req 0 ≤ 67 ∧ (enginePlace s (byteAt req 0)).isSome = true)
    (fun s _ req => toLe 1 ((spareOf s (byteAt req 0 / 34)).getD 0xFF))
    (fun _ t _ req => engState t (byteAt req 0) = .retired ∧
      hwField t (0x022 + byteAt req 0 / 32) (byteAt req 0 % 32) (byteAt req 0 % 32) = 1) ∧
  AnswersOk .cscPacketDispose 0x0B43 (fun s _ req => byteAt req 2 ≤ 3 ∧ ∀ q < 8, disposed s req q = []) (fun _ _ _ => toLe 4 0)
    (fun s t ch _ => AnswerFrame [] s t ch) ∧
  (∀ s ch seq req q h p, Begun s ch seq 0x0B43 req → byteAt req 2 ≤ 3 → q < 8 → disposed s req q = [(h, p)] →
    (∀ r < 8, r ≠ q → disposed s req r = []) → Completes (.cscPacketDispose ch seq) s (fun t => Answered t ch seq rcOk (toLe 4 1) ∧
      itemOf t q h = none ∧ Counted s t (r_CSC_CNT_DISPOSED q) 1)) ∧
  AnswersOk .cscWaitgraphRead 0x0B44 (fun _ _ req => byteAt req 0 ≤ 1 ∧ byteAt req 1 ≤ 3)
    (fun s _ req => if (clusterGet s (4 * byteAt req 0 + byteAt req 1)).snapshot.isEmpty then zeros 16
      else (clusterGet s (4 * byteAt req 0 + byteAt req 1)).snapshot) (fun s t ch _ => AnswerFrame [] s t ch))

/-- The exit order stage hands a packet on (R259 to R261, R676): a copy goes to the Dovetail point of each destination, the packet
leaves its order ring, and a packet without a destination is dropped. The Dovetail algorithm (R262 to R265, R268): the first copy of a
sequence is released and opens a record, the second closes it and is discarded, a copy that is not later than the last released one is
late, a Split copy is released, and an expiry frees its record and marks LAG. Readings and choices of the model that it rests on:
notes/assumptions/4.md. -/
def Obligations.DovetailReleasesOneCopyOfEach : Prop :=
  ((∀ s p k m, pktGet s p = some k → k.stage = .exitOrder → k.verdict = some (.fwdPort m) → k.mirrors = [] → mayHandOn s p k = true →
    Completes (.exitOrderHandoff p) s (fun t => pktGet t p = some { k with stage := .handed, legs := 1 } ∧
      (∀ q, q ≠ p → pktGet t q = pktGet s q) ∧ p ∉ mapGetD t.twin.rings (ringOf k) [] ∧
      ∃ a, (dovGet t (2 + m / 8)).arrivals = (dovGet s (2 + m / 8)).arrivals ++ [a] ∧ a.point = 8 * m + egressClass k ∧ a.pid = p ∧
        a.dest = .inl (m, egressClass k) ∧ a.pkt.frame = k.frame ∧ a.rail = railOf k.hdr.pipeline ∧ a.main = true)) ∧
  (∀ s p k n q, pktGet s p = some k → k.stage = .exitOrder → k.verdict = some (.fwdHost n q) → k.mirrors = [] → mayHandOn s p k = true →
    Completes (.exitOrderHandoff p) s (fun t => pktGet t p = some { k with stage := .handed, legs := 1 } ∧
      ∃ a, (dovGet t (funcOfSlice n).1).arrivals = (dovGet s (funcOfSlice n).1).arrivals ++ [a] ∧ a.pid = p ∧
        a.dest = .inr ((funcOfSlice n).1, n, q) ∧ a.pkt.frame = k.frame ∧ a.main = false)) ∧
  (∀ s p k bd, pktGet s p = some k → k.stage = .exitOrder → k.verdict = some (.flood bd) → k.mirrors = [] → mayHandOn s p k = true →
    floodMembers s k bd = [] → Completes (.exitOrderHandoff p) s (fun t => pktGet t p = none)) ∧
  (∀ s p k v, pktGet s p = some k → k.verdict = some v → mayHandOn s p k = false → exec (.exitOrderHandoff p) s = .next s)) ∧
  ((∀ d x st seq r g now, d.recs.find? (fun y => y.point = x && y.stream = st && y.seq = seq) = none → d.recs.length < 65536 →
    (∀ y, dovState d x st = some y → later32 seq y.m = true) → (dovArrive d false x st seq r g now).2 = .release ∧
      (dovArrive d false x st seq r g now).1.recs = d.recs ++ [⟨x, st, seq, g, r, now⟩] ∧
      (dovState (dovArrive d false x st seq r g now).1 x st).map (fun y => y.m) = some seq) ∧
  (∀ d alone x st seq r g now y, d.recs.find? (fun y => y.point = x && y.stream = st && y.seq = seq) = some y →
    (dovArrive d alone x st seq r g now).2 = .second (if y.digest = g then none else some y.digest) ∧
    ∀ z ∈ (dovArrive d alone x st seq r g now).1.recs, z ∈ d.recs ∧ ¬ (z.point = x ∧ z.stream = st ∧ z.seq = seq)) ∧
  (∀ d x st seq r g now y, d.recs.find? (fun y => y.point = x && y.stream = st && y.seq = seq) = none → dovState d x st = some y →
    later32 seq y.m = false → (dovArrive d false x st seq r g now).2 = .late ∧ (dovArrive d false x st seq r g now).1.recs = d.recs) ∧
  (∀ s d pl a, d ≤ 3 → (∀ b ∈ (dovGet s d).waiting, b.pkt.hdr.pipeline ≠ pl) →
    (dovGet s d).arrivals.find? (fun a => a.pkt.hdr.pipeline = pl) = some a →
    (a.pkt.hdr.twin = false → exec (.dovetailArrive d pl) s = .next (releaseCopy (dovSet s d { dovGet s d with
      arrivals := (dovGet s d).arrivals.eraseP (fun b => b.pkt.hdr.pipeline = pl) }) a)) ∧
    (a.pkt.hdr.twin = true → ∀ u, arriveTwin (dovSet s d { dovGet s d with
      arrivals := (dovGet s d).arrivals.eraseP (fun b => b.pkt.hdr.pipeline = pl) }) d a = some u →
        exec (.dovetailArrive d pl) s = .next u)) ∧
  (∀ s d pl a u, (dovGet s d).waiting.find? (fun a => a.pkt.hdr.pipeline = pl) = some a → arriveTwin (dovSet s d { dovGet s d with
    waiting := (dovGet s d).waiting.eraseP (fun b => b.pkt.hdr.pipeline = pl) }) d a = some u →
      exec (.dovetailStoreWaitEnd d pl) s = .next u) ∧
  (∀ s d x st seq y, d < 4 → (dovGet s d).recs.find? (fun y => y.point = x && y.stream = st && y.seq = seq) = some y →
    Completes (.openRecordExpire d x st seq) s (fun t =>
      (dovGet t d).recs = (dovGet s d).recs.filter (fun z => !(z.point = x && z.stream = st && z.seq = seq)) ∧
      (dovGet t d).states = (dovGet s d).states.map (fun z => if z.point = x ∧ z.stream = st then { z with lag := some (1 - y.rail) } else z) ∧
      Counted s t (r_DVT_CNT_LAG d) 1)))

/-- Rails (R269 to R273, R298): a failed self-check or a command retires one of two rails in service and Heartwood remembers it, a
retired rail is tested again, rejoins or stays retired, and the command that asked is answered. Twin selection and PRP (R255, R279,
R281, R282, R298): the settings of a MAC and of a pair are written, the node table is read, and an unused entry is forgotten. Readings
and choices of the model that it rests on: notes/assumptions/21.md, notes/assumptions/23.md and notes/assumptions/72.md. -/
def Obligations.RailsRetireRejoinAndAreSelected : Prop :=
  ((∀ s r code u, r ≤ 1 → 1 ≤ code → code ≤ 4 → u ≤ 5 → railUp s 0 = true → railUp s 1 = true → Completes (.railSelfCheckFail r code u) s (fun t =>
    railState t r = .retired ∧ railState t (1 - r) = .inService ∧ hwField t 0x020 r r = 1)) ∧
  (∀ s r code u, r ≤ 1 → 1 ≤ code → code ≤ 4 → u ≤ 5 → railUp s r = true → railUp s (1 - r) = false →
    Completes (.railSelfCheckFail r code u) s (fun t => t.twin = s.twin ∧ t.pkts = s.pkts)) ∧
  AnswersOk .twinRailRetire 0x0901 (fun s _ req => byteAt req 0 ≤ 1 ∧ railUp s 0 = true ∧ railUp s 1 = true) (fun _ _ _ => [])
    (fun _ t _ req => railState t (byteAt req 0) = .retired ∧ hwField t 0x020 (byteAt req 0) (byteAt req 0) = 1) ∧
  RunsLater .twinRailRestore 0x0902 (fun s _ req => byteAt req 0 ≤ 1 ∧ railState s (byteAt req 0) = .retired)
    (fun s t ch seq req => railState t (byteAt req 0) = .restoring ∧ t.twin.restore = some (byteAt req 0, ch, seq) ∧
      t.twin.recoveryDone = false ∧ ChangesOnly [.mbx, .twin] s t) ∧
  (∀ s r ch seq, s.twin.restore = some (r, ch, seq) → r ≤ 1 → Completes (.railRejoin r) s (fun t => railState t r = .inService ∧
    t.twin.restore = none ∧ t.twin.recoveryDone = true ∧ hwField t 0x020 r r = 0 ∧ (Unanswered s ch seq → Answered t ch seq rcOk (zeros 4)))) ∧
  (∀ s r ch seq unit, s.twin.restore = some (r, ch, seq) → r ≤ 1 → Completes (.restoreSelfTestFail r unit) s (fun t =>
    railState t r = .retired ∧ t.twin.restore = none ∧ (Unanswered s ch seq → Answered t ch seq rcNotPermitted (toLe 4 unit)) ∧
    ChangesOnly [.mbx, .fw, .gauge, .regs, .twin] s t)) ∧
  AnswersOk .twinStatus 0x0900 (fun _ _ _ => True)
    (fun s _ _ => toLe 4 ((match s.twin.railA with | .inService => 0 | .retiring => 1 | .retired => 2 | .restoring => 3) +
        4 * (match s.twin.railB with | .inService => 0 | .retiring => 1 | .retired => 2 | .restoring => 3) +
        16 * b2n s.twin.recoveryDone + 32 * regField s r_DVT_RAIL_STATUS 6 5) ++
      toLe 4 (reg s (r_DVT_RAIL_CAUSE 0)).toNat ++ toLe 4 (reg s (r_DVT_RAIL_CAUSE 1)).toNat ++
      toLe 2 (hwField s 0x021 15 0) ++ toLe 2 (hwField s 0x021 31 16) ++ zeros 4) (fun s t ch _ => AnswerFrame [] s t ch)) ∧
  (AnswersOk .twinSelSet 0x0903 (fun _ _ req => byteAt req 0 ≤ 15 ∧ le req 2 2 ≤ 4095 ∧ le req 4 2 ≤ 4095) (fun _ _ _ => [])
    (fun s t _ req => reg t (r_DVT_TWIN_SEL0 (byteAt req 0)) = BitVec.ofNat 32 (byteAt req 1) ∧
      reg t (r_DVT_TWIN_SEL1 (byteAt req 0)) = BitVec.ofNat 32 (le req 2 2 + 65536 * le req 4 2) ∧
      (∀ a, a ≠ r_DVT_TWIN_SEL0 (byteAt req 0) → a ≠ r_DVT_TWIN_SEL1 (byteAt req 0) → a ≠ r_GAU_TRACE_STATUS → reg t a = reg s a) ∧
      ChangesOnly answerParts s t) ∧
  AnswersOk .prpPairSet 0x0910 (fun s _ req => byteAt req 0 ≤ 7 ∧ byteAt req 1 ≤ 15 ∧ byteAt req 2 ≤ 15 ∧ (bitAt (byteAt req 3) 0 = true →
      byteAt req 1 < 8 ∧ 8 ≤ byteAt req 2 ∧ macUsed s (byteAt req 1) = true ∧ macUsed s (byteAt req 2) = true ∧
      macRate s (byteAt req 1) = macRate s (byteAt req 2) ∧ prpTaken s (byteAt req 0) (byteAt req 1) = false ∧
      prpTaken s (byteAt req 0) (byteAt req 2) = false)) (fun _ _ _ => [])
    (fun s t _ req => reg t (r_DVT_PRP_PAIR (byteAt req 0)) =
        BitVec.ofNat 32 (byteAt req 1 + 16 * byteAt req 2 + 256 * (byteAt req 3 % 4)) ∧
      (∀ a, a ≠ r_DVT_PRP_PAIR (byteAt req 0) → a ≠ r_DVT_PRP_FORGET (byteAt req 0) → a ≠ r_GAU_TRACE_STATUS → reg t a = reg s a) ∧
      ChangesOnly answerParts s t) ∧
  AnswersOk .prpNodeRead 0x0911 (fun _ _ req => 1 ≤ le req 2 2 ∧ le req 2 2 ≤ 15)
    (fun s _ req => fit req 4 ++ (List.range (le req 2 2)).flatMap (fun i => match s.prp.nodes[le req 0 2 + i]? with
      | some e => fit e.mac 6 ++ toLe 1 e.pair ++ zeros 1 ++ toLe 2 e.hi ++ zeros 2 ++ toLe 4 ((s.time.ticks - e.lastUse) / 1000000)
      | none => zeros 16)) (fun s t ch _ => AnswerFrame [] s t ch) ∧
  (∀ s mac pair, Completes (.prpNodeForget mac pair) s (fun t => (∀ n, n ∈ t.prp.nodes ↔ n ∈ s.prp.nodes ∧ ¬ (n.mac = mac ∧ n.pair = pair)) ∧
    t.prp.txSeq = s.prp.txSeq ∧ ChangesOnly [.prp] s t)))

/-- Flits and heartbeats of the Itwin pair (R285 to R288, R296, R297): a flit in order gives its messages, one with a bad CRC a NAK;
heartbeats are sent and taken, and their absence loses the partner; a new link starts its sequence at 0. The ACT interlock (R289 to
R293): the grant comes 10 µs after ITW_ACT_OUT without ITW_ACT_IN, ITW_ACT_IN takes it away, two requests collide, and the role is
requested by the lower rank, after an offer, or without a link. Readings and choices of the model that it rests on:
notes/assumptions/46.md and notes/assumptions/48.md. -/
def Obligations.ThePairLinksAndHoldsOneActor : Prop :=
  ((∀ s seq ack body, s.itw.linkUp = true → s.itw.enable = true → seq = s.itw.rxSeq → exec (.flitRx seq ack false true body) s =
    .next (onItwMessages 61 { s with itw := { s.itw with rxSeq := seq + 1 } } (fit body 244))) ∧
  (∀ s b, (∀ i < 4, byteAt b i = 0) → onItwMessages 61 s b = s) ∧
  (∀ s seq ack nak body, s.itw.linkUp = true → s.itw.enable = true → Completes (.flitRx seq ack nak false body) s (fun t =>
    Emits s t [.itwNak] ∧ Counted s t r_ITW_CNT_FLIT_CRC 1 ∧ t.itw.rxSeq = s.itw.rxSeq)) ∧
  (∀ s id rank mode act version digest mirroring learned count p, s.itw.linkUp = true → s.itw.enable = true →
    p = partnerOf s id rank mode act version digest mirroring learned count → s.itw.compareDue = false →
    (s.itw.partner.seen = true → s.itw.partner.dieId = id) → (bitAt act 1 = true → s.itw.actIn = true) → rank ≠ s.itw.rank →
    exec (.heartbeat id rank mode act version digest mirroring learned count) s = .next { s with
      itw := { s.itw with partner := p, lost := false, alive := s.itw.released, rankConflict := false }
      jig := { s.jig with partnerEn := mirroring } }) ∧
  (∀ s, itwSending s = true → s.itw.linkUp = true → Completes .heartbeatSend s (fun t => Emits s t [.itwMsg 0x01 (heartbeatBody s)] ∧
    t.itw.hbCount = s.itw.hbCount + 1 ∧ t.itw.txSeq = s.itw.txSeq + 1)) ∧
  (∀ s, s.pkts.any (fun x => x.2.stage = .start) = true → Completes .pipelineStallDetect s (fun t => t.itw.stalled = true ∧
    t.itw.released = false ∧ t.itw.actOut = false ∧ t.itw.grant = false)) ∧
  (∀ s, itwSending s = true → s.itw.lost = false → Completes .heartbeatMissLimit s (fun t => t.itw.lost = true ∧ t.itw.linkUp = false ∧
    t.itw.partner.seen = false ∧ Counted s t r_ITW_CNT_HB_MISSED s.itw.missLimit)) ∧
  (∀ s, itwSending s = true → s.itw.lost = false → Completes .aliveLowTimeout s (fun t => t.itw.lost = true ∧ t.itw.linkUp = false ∧
    t.itw.alive = false)) ∧
  (∀ s version digest mirroring, s.itw.enable = true → s.itw.linkUp = false → Completes (.itwLinkUp version digest mirroring) s (fun t =>
    t.itw.linkUp = true ∧ t.itw.rxSeq = 0 ∧ t.itw.lost = false ∧ t.itw.split = false ∧ t.jig.partnerEn = mirroring ∧
    t.itw.partner.jigVersion = version ∧ t.itw.partner.jigDigest = digest))) ∧
  ((∀ s, s.itw.enable = true → s.itw.actOut = true → s.itw.actIn = false → Completes .grantTimer s (fun t => t.itw.grant = true ∧
    t.itw.actOut = true)) ∧
  (∀ s, (s.itw.enable && s.itw.actOut && !s.itw.actIn) = false → exec .grantTimer s = .next s) ∧
  (∀ s short alive, Completes (.actInChange true short alive) s (fun t => t.itw.grant = false ∧ t.itw.actIn = !short ∧
    (s.itw.actOut = true → s.itw.grant = false → short = false → t.itw.actReq = false ∧ t.itw.collisions = s.itw.collisions + 1 ∧
      Counted s t r_ITW_CNT_COLLISION 1))) ∧
  (∀ s alive, Completes (.actInChange false false alive) s (fun t => t.itw.actIn = false ∧ t.itw.split = false ∧ t.itw.grant = s.itw.grant)) ∧
  (∀ s, s.itw.linkUp = false ∨ lowerRank s = true ∨ 0 < s.itw.collisions ∨ s.itw.offered = true → itwSending s = true → s.itw.actIn = false →
    s.itw.grant = false → s.itw.collisions < 16 → Completes .actRequestTimer s (fun t => t.itw.actReq = true ∧ t.itw.actOut = true ∧
      t.itw.offered = false)) ∧
  (∀ s, s.itw.linkUp = true → s.itw.enable = true → itwSending s = true → s.itw.actIn = false → s.itw.grant = false →
    s.itw.collisions < 16 → Completes .actorRelease s (fun t => t.itw.actReq = true ∧ t.itw.actOut = true)) ∧
  AnswersOk .itwActorRelease 0x0922 (fun s _ _ => s.itw.grant = true) (fun _ _ _ => [])
    (fun _ t _ _ => t.itw.actReq = false ∧ t.itw.actOut = false ∧ t.itw.grant = false))

/-- Learning across the pair (R294 to R296): the actor takes requests and refreshing hits, the standby writes and deletes what the actor
states, the holder of the grant discards both, and a resync names every learned entry that stays. ITW_CONFIG and ITW_STATUS (R298,
R302): the settings are kept in Heartwood, and the state of the pair is read. Readings and choices of the model that it rests on:
notes/assumptions/46.md and notes/assumptions/47.md. -/
def Obligations.LearningCrossesThePairAndItsSettings : Prop :=
  ((∀ s key dest stamp src prof, isActor s = true → s.cst.queue.length < 4096 → Completes (.learnReq key dest stamp src prof) s (fun t =>
    (∃ n, t.cst = { s.cst with queue := s.cst.queue ++ [.learn ([1] ++ fit key 8) dest stamp (src % 32) (prof % 8) n true] }) ∧
    Counted s t r_ITW_CNT_LEARN_RX 1 ∧ ChangesOnly [.cst, .regs, .fresh] s t)) ∧
  (∀ s body l, s.itw.linkUp = true → s.itw.enable = true → s.itw.grant = false → findKey s (l2Key (fit body 32)) = some l →
    entStatic (wayGet s l) = false → Completes (.learnApply body) s (fun t =>
      wayGet t l = refreshed s (applyFields (wayGet s l) (fit body 32)) ∧ Counted s t r_ITW_CNT_LEARN_RX 1 ∧
      (∀ m, m ≠ l → wayGet t m = wayGet s m) ∧ ChangesOnly [.cst, .sqr, .regs, .itw] s t)) ∧
  (∀ s body, s.itw.linkUp = true → s.itw.enable = true → s.itw.grant = true → Completes (.learnApply body) s (fun t => t.cst = s.cst ∧
    Counted s t r_ITW_CNT_MSG_BAD 1)) ∧
  (∀ s key l, s.itw.linkUp = true → s.itw.enable = true → s.itw.grant = false → findKey s (l2Key (fit key 8)) = some l →
    entLearned (wayGet s l) = true → Completes (.learnDelete key) s (fun t => wayGet t l = zeros 64 ∧
      (∀ m, m ≠ l → wayGet t m = wayGet s m) ∧ Counted s t r_ITW_CNT_LEARN_RX 1 ∧ Counted s t r_SCB_CNT_DELETE 1)) ∧
  (∀ s key l, isActor s = true → findKey s (l2Key (fit key 8)) = some l → Completes (.learnRefresh key) s (fun t =>
    wayGet t l = refreshed s (wayGet s l) ∧ (∀ m, m ≠ l → wayGet t m = wayGet s m) ∧ Counted s t r_ITW_CNT_LEARN_RX 1 ∧
    ChangesOnly [.cst, .regs] s t)) ∧
  (∀ s count, s.itw.linkUp = true → s.itw.enable = true → s.itw.grant = false → exec (.resyncMark 0 count) s =
    .next { s with itw := { s.itw with resync := some [] } }) ∧
  (∀ s count named, s.itw.linkUp = true → s.itw.enable = true → s.itw.grant = false → s.itw.resync = some named →
    Completes (.resyncMark 1 count) s (fun t => t.itw.resync = none ∧
      ∀ x ∈ allEntries t, entLearned x.2 = true → entKey x.2 ∈ named)) ∧
  RunsLater .itwResync 0x0923 (fun s _ _ => isActor s = true ∧ s.itw.resyncTx = none)
    (fun s t ch seq _ => t.itw.resyncTx = some (some (ch, seq)) ∧ Emits s t [.itwMsg 0x06 (toLe 1 0 ++ toLe 4 (learnedCount s))]) ∧
  (∀ s cmd, s.itw.resyncTx = some cmd → isActor s = true → Completes .itwResyncComplete s (fun t => t.itw.resyncTx = none ∧
    ∀ ch seq, cmd = some (ch, seq) → Unanswered s ch seq → Answered t ch seq rcOk (toLe 4 (learnedCount s))))) ∧
  (AnswersOk .itwConfig 0x0920 (fun _ _ req => byteAt req 0 ≤ 1 ∧ 10 ≤ le req 4 2 ∧ le req 4 2 ≤ 10000 ∧ 2 ≤ byteAt req 6 ∧ byteAt req 6 ≤ 15)
    (fun _ _ _ => []) (fun s t ch req => hwWord t 0x030 = BitVec.ofNat 32 (2 * byteAt req 0) ∧ hwWord t 0x031 = BitVec.ofNat 32 (le req 2 2) ∧
      hwWord t 0x032 = BitVec.ofNat 32 (le req 4 2 + 65536 * byteAt req 6) ∧ t.itw = s.itw ∧ AnswerFrame [.hw] s t ch) ∧
  AnswersOk .itwStatus 0x0921 (fun _ _ _ => True)
    (fun s _ _ => toLe 4 (itwStatusWord s) ++ toLe 8 s.itw.partner.dieId.toNat ++ toLe 2 s.itw.partner.rank ++ toLe 1 s.itw.partner.mode ++
      toLe 1 0 ++ toLe 2 s.itw.partner.jigVersion ++ toLe 4 s.itw.partner.jigDigest.toNat ++ toLe 4 s.itw.partner.learned ++
      toLe 4 (if s.itw.partner.seen then min ((s.time.ticks - s.itw.partner.lastTick) / 1000) 0xFFFFFFFF else Config.freeNat s.fresh))
    (fun s t ch _ => AnswerFrame [.fresh] s t ch))

/-- Transforms and their pairing (R309 to R313, R322, R603): a transform advances its SA and gives the pass its new frame, an inbound
number takes its place in the replay window, a held outcome expires to a mark and the mark goes, a core in service is retired, and a
deletion clears VALID at its switch. The commands of the crypto pool and the tunnel templates (R304, R308, R321, R322, R334): an SA or a
template is written and read, its key and salt reading as 0, a deletion waits for its switch, and a resume point is set; a VF's driver
acts on its own slice only. Readings and choices of the model that it rests on: notes/assumptions/10.md, notes/assumptions/55.md,
notes/assumptions/56.md and notes/assumptions/57.md. -/
def Obligations.TransformsAndTheirTablesFollowTheirSa : Prop :=
  ((∀ s p k i dir m k', pktGet s p = some k → k.stage = .transform → s.cry.coresRetired ≠ 0xFFFFFF#24 → k.verdict = some (.fwdPort m) →
    k.tx = [] → k.pass.sa = some (i, dir) → k.hdr.twin = false → saOrdered s p i = true → s.cry.deletes = [] →
    saFlag (saGet s i) 1 = false → spentSa s i (saGet s i) = false → transformWith s (saGet s i) (saSeq (saGet s i)) k = .ok k' →
    k'.tx = [] → Completes (.cryptoTransformDone p) s (fun t => (∃ x, pktGet t p = some x ∧ x.stage = .exitOrder ∧ x.frame = k'.frame ∧
      x.verdict = some (.fwdPort m) ∧ x.saUsed = some i) ∧
      saGet t i = saCount (putLe (saGet s i) 8 8 (saSeq (saGet s i) + 1)) 1 k.frame.length ∧ p ∉ t.cry.waiting)) ∧
  (∀ s p k i dir m n k', pktGet s p = some k → k.stage = .transform → s.cry.coresRetired ≠ 0xFFFFFF#24 → k.verdict = some (.fwdPort m) →
    k.tx = [] → k.pass.sa = some (i, dir) → k.hdr.twin = false → saOrdered s p i = true → s.cry.deletes = [] →
    saFlag (saGet s i) 1 = true → numberOf (saGet s i) k = .ok n →
    (replayOk (saGet s i) n = true → transformWith s (saGet s i) n k = .ok k' → k'.tx = [] → Completes (.cryptoTransformDone p) s (fun t =>
      (∃ x, pktGet t p = some x ∧ x.stage = .exitOrder ∧ x.frame = k'.frame ∧ x.saUsed = some i) ∧
      saGet t i = saCount (replayTake (saGet s i) n) 1 k.frame.length)) ∧
    (replayOk (saGet s i) n = false → saFlag (saGet s i) 6 = false → k.mirrors = [] → Completes (.cryptoTransformDone p) s (fun t =>
      pktGet t p = none ∧ saGet t i = saGet s i ∧ Counted s t r_CRY_CNT_REPLAY 1))) ∧
  (∀ s core, core < 24 → s.cry.coresRetired.getLsbD core = false → Completes (.cryptoCoreFail core) s (fun t =>
    t.cry = { s.cry with coresRetired := s.cry.coresRetired ||| BitVec.ofNat 24 (2 ^ core) } ∧ hwField t 0x025 core core = 1)) ∧
  (∀ s st seq pass ord n r, cryPair s ⟨st, seq, pass, ord⟩ = some (.held n r) → Completes (.cryPairExpire st seq pass ord) s (fun t =>
    cryPair t ⟨st, seq, pass, ord⟩ = some .mark ∧ ChangesOnly [.cry] s t)) ∧
  (∀ s st seq pass ord, cryPair s ⟨st, seq, pass, ord⟩ = some .mark → Completes (.cryPairExpire st seq pass ord) s (fun t =>
    cryPair t ⟨st, seq, pass, ord⟩ = none ∧ ChangesOnly [.cry] s t)) ∧
  (∀ s ch seq i, s.cry.deletes = [(ch, seq, i, false)] → s.cry.waiting = [] → Completes .saDeleteSwitch s (fun t => t.cry.deletes = [] ∧
    saFlag (saGet t i) 0 = false ∧ (∀ j, j ≠ i → saGet t j = saGet s j) ∧ (Unanswered s ch seq → Answered t ch seq rcOk [])))) ∧
  (AnswersOk .crySaWrite 0x0800 (fun s ch req => saMay s ch (saSlice (slice req 8 128)) = true ∧
      saOwned s (saSlice (slice req 8 128)) (bits (le req 0 4) 19 0) = true ∧ saOk (slice req 8 128) = true ∧
      saBusy s (bits (le req 0 4) 19 0) = false) (fun _ _ _ => [])
    (fun s t ch req => saGet t (bits (le req 0 4) 19 0) = saClean (slice req 8 128) ∧
      (∀ j, j ≠ bits (le req 0 4) 19 0 → saGet t j = saGet s j) ∧ bits (le req 0 4) 19 0 ∉ t.cry.softSent ∧
      bits (le req 0 4) 19 0 ∉ t.cry.hardSent ∧ bits (le req 0 4) 19 0 ∉ t.cry.spent ∧ AnswerFrame [.cry] s t ch) ∧
  (∀ s ch seq req, Begun s ch seq 0x0800 req → saMay s ch (saSlice (slice req 8 128)) = false → Completes (.crySaWrite ch seq) s (fun t =>
    Answered t ch seq rcNotPermitted [] ∧ AnswerFrame [] s t ch)) ∧
  AnswersOk .crySaRead 0x0801 (fun s ch _ => ch = 2056 ∨ chanHolds s ch = true)
    (fun s _ req => toLe 4 (bits (le req 0 4) 19 0) ++ zeros 4 ++ splice (saGet s (bits (le req 0 4) 19 0)) 16 (zeros 44))
    (fun s t ch _ => AnswerFrame [] s t ch) ∧
  RunsLater .crySaDelete 0x0802 (fun s ch _ => chanHolds s ch = true)
    (fun s t ch seq req => t.cry = { s.cry with deletes := s.cry.deletes ++ [(ch, seq, bits (le req 0 4) 19 0, false)] } ∧
      ChangesOnly [.mbx, .cry] s t) ∧
  AnswersOk .tlsRxResync 0x0820 (fun s ch req => chanHolds s ch = true ∧ saFlag (saGet s (bits (le req 0 4) 19 0)) 0 = true ∧
      saFlag (saGet s (bits (le req 0 4) 19 0)) 1 = true ∧ saKind (saGet s (bits (le req 0 4) 19 0)) = 3) (fun _ _ _ => [])
    (fun s t ch req => mapGet t.cry.tlsResume (bits (le req 0 4) 19 0) = some (BitVec.ofNat 32 (le req 4 4), BitVec.ofNat 64 (le req 8 8)) ∧
      t.cry.sas = s.cry.sas ∧ AnswerFrame [.cry] s t ch) ∧
  AnswersOk .tnlTemplateWrite 0x0810 (fun _ _ req => 1 ≤ byteAt req 4 ∧ byteAt req 4 ≤ 112 ∧ byteAt req 6 ≤ byteAt req 4 ∧
      byteAt req 7 ≤ byteAt req 4 ∧ byteAt req 5 ≤ 3) (fun _ _ _ => [])
    (fun s t ch req => slice (mapGetD t.cry.templates (le req 0 2) (zeros 128)) 16 112 = slice req 20 112 ∧
      tplHlen (mapGetD t.cry.templates (le req 0 2) (zeros 128)) = byteAt req 4 ∧
      (∀ j, j ≠ le req 0 2 → mapGet t.cry.templates j = mapGet s.cry.templates j) ∧ t.cry.sas = s.cry.sas ∧ AnswerFrame [.cry] s t ch) ∧
  AnswersOk .tnlTemplateRead 0x0811 (fun _ _ _ => True) (fun s _ req => fit req 4 ++ mapGetD s.cry.templates (le req 0 2) (zeros 128))
    (fun s t ch _ => AnswerFrame [] s t ch))

/-- The chain walkers (R330 to R332): a good block gives the buffer of its CID and the walker follows LINK, END is read again once, a
malformed block stops the walker, and a doorbell resumes it or asks for one more read. The commands of NVMe/TCP (R324, R328, R332,
R334): a context is set and waits for NVT_RESYNC, it is read, and a PDU start is named. Readings and choices of the model that it rests
on: notes/assumptions/58.md, notes/assumptions/59.md and notes/assumptions/60.md. -/
def Obligations.ChainWalkersAndContextsOfNvt : Prop :=
  ((∀ s ep i r d, (epGet s ep).reads.find? (fun r => r.queue = i && (r.purpose = 3 || r.purpose = 4) && !r.quarantined && r.data.isSome) = some r →
    r.data = some d → (walkGet s i).phase = .block →
    (blockBad d (walkGet s i).cid = false → bitAt (byteAt d 3) 0 = false → bitAt (le d 56 8) 0 = true →
      Completes (.chainBlockRead ep i) s (fun t => mapGet t.nvt.places (placeKey i (ctxGet s i) (le d 0 2)) = some (blockSegs d) ∧
        walkGet t i = { walkGet s i with phase := .wait, cid := some (le d 0 2) } ∧ t.nvt.ctxs = s.nvt.ctxs)) ∧
    (blockBad d (walkGet s i).cid = false → bitAt (byteAt d 3) 0 = false → bitAt (le d 56 8) 0 = false →
      Completes (.chainBlockRead ep i) s (fun t => mapGet t.nvt.places (placeKey i (ctxGet s i) (le d 0 2)) = some (blockSegs d) ∧
        (walkGet t i).block = le d 56 8 / 64 * 64 ∧ ((walkGet t i).phase = .wantBlock ∨ (walkGet t i).phase = .block))) ∧
    (blockBad d (walkGet s i).cid = true → (ctxOwner (ctxGet s i)).1 < 2 → Completes (.chainBlockRead ep i) s (fun t =>
      (walkGet t i).phase = .stopped ∧ ctxState (ctxGet t i) = 3 ∧ t.nvt.places = s.nvt.places ∧
      Counted s t (r_NVT_CNT_CHAIN_BAD (ctxOwner (ctxGet s i)).1) 1))) ∧
  (∀ s ep i r d, (epGet s ep).reads.find? (fun r => r.queue = i && (r.purpose = 3 || r.purpose = 4) && !r.quarantined && r.data.isSome) = some r →
    r.data = some d → bits (le d 0 8) 5 1 = 0 → bitAt (le d 0 8) 0 = true →
    ((walkGet s i).phase = .link false → Completes (.chainBlockRead ep i) s (fun t => walkGet t i = { walkGet s i with phase := .wait })) ∧
    ((walkGet s i).phase = .link true → (walkGet s i).doorbell = false → Completes (.chainBlockRead ep i) s (fun t =>
      walkGet t i = { walkGet s i with phase := .stopped })) ∧
    ((walkGet s i).phase = .link true → (walkGet s i).doorbell = true → Completes (.chainBlockRead ep i) s (fun t =>
      walkGet t i = { walkGet s i with phase := .wait, doorbell := false }))) ∧
  (∀ s i, (walkGet s i).phase = .wait → Completes (.chainReread i) s (fun t =>
    walkGet t i = { walkGet s i with phase := .wantLink true } ∨ walkGet t i = { walkGet s i with phase := .link true })) ∧
  (∀ s i, (walkGet s i).phase ≠ .wait → exec (.chainReread i) s = .next s) ∧
  (∀ s ep f v i x, barOpen s ep f = true → boundSlice s ep f = some x → i = bits v.toNat 16 0 → x.nvtBase ≤ i → i < x.nvtBase + x.nvtCount →
    ctxFlag (ctxGet s i) 0 = true → ctxState (ctxGet s i) ≠ 3 →
    ((walkGet s i).phase = .stopped → Completes (.hifVfDbChain ep f v true) s (fun t =>
      walkGet t i = { walkGet s i with phase := .wantLink false } ∨ walkGet t i = { walkGet s i with phase := .link false })) ∧
    ((walkGet s i).phase ≠ .stopped → Completes (.hifVfDbChain ep f v true) s (fun t =>
      walkGet t i = { walkGet s i with doorbell := true } ∧ ChangesOnly [.nvt] s t))) ∧
  (∀ s ep f v full, barOpen s ep f = true → boundSlice s ep f = none → ep < 2 → f ≤ 1024 → Completes (.hifVfDbChain ep f v full) s (fun t =>
    Counted s t (r_HIF_CNT_DB_BAD ep) 1 ∧ ChangesOnly [.regs] s t))) ∧
  (AnswersOk .nvtContextSet 0x0830 (fun s ch req => saMay s ch (ctxSlice (slice req 8 64)) = true ∧
      nvtOwned s (ctxSlice (slice req 8 64)) (bits (le req 0 4) 16 0) = true ∧ ctxOk s (slice req 8 64) = true) (fun _ _ _ => [])
    (fun s t _ req => ctxState (ctxGet t (bits (le req 0 4) 16 0)) = (if ctxFlag (slice req 8 64) 0 then 2 else 0) ∧
      ctxSlice (ctxGet t (bits (le req 0 4) 16 0)) = ctxSlice (slice req 8 64) ∧ ctxNext (ctxGet t (bits (le req 0 4) 16 0)) = 0 ∧
      (∀ j, j ≠ bits (le req 0 4) 16 0 → ctxGet t j = ctxGet s j) ∧ mapGet t.nvt.resume (bits (le req 0 4) 16 0) = none ∧
      (walkGet t (bits (le req 0 4) 16 0)).block = ctxChain (slice req 8 64)) ∧
  AnswersOk .nvtContextRead 0x0831 (fun s ch req => nvtMay s ch (bits (le req 0 4) 16 0) = true)
    (fun s _ req => toLe 4 (bits (le req 0 4) 16 0) ++ zeros 4 ++ ctxGet s (bits (le req 0 4) 16 0)) (fun s t ch _ => AnswerFrame [] s t ch) ∧
  AnswersOk .nvtResync 0x0832 (fun s ch req => nvtMay s ch (bits (le req 0 4) 16 0) = true ∧
      ctxFlag (ctxGet s (bits (le req 0 4) 16 0)) 0 = true) (fun _ _ _ => [])
    (fun s t ch req => mapGet t.nvt.resume (bits (le req 0 4) 16 0) = some (BitVec.ofNat 32 (le req 4 4)) ∧ t.nvt.ctxs = s.nvt.ctxs ∧
      bits (le req 0 4) 16 0 ∉ t.nvt.resyncSent ∧ AnswerFrame [.nvt] s t ch))

/-- The clock, its oscillator and its steps: a tick adds 2^56 + A_eff to the accumulator (R379), the loss and the return of TB_OSC
switch the reference (R382), and the oldest step asked for takes effect and is answered (R384). The commands of the timebase (R380,
R383, R385, R387, R412): the time is read, steps are asked for, and the rate, the trim and the latency constants take the values of the
request. Readings and choices of the model that it rests on: notes/assumptions/51.md. -/
def Obligations.TheTimeValueAndItsCommands : Prop :=
  ((∀ s, clockOn s = true → exec .timebaseTick s =
    .next { s with time := { s.time with now := tickTime s.time.now (aEff s), ticks := s.time.ticks + 1 } }) ∧
  (∀ s, clockOn s = true → s.time.onFallback = false → Completes .oscLoss s (fun t => t.time.oscLost = true ∧
    t.time.onFallback = s.dev.ethRefclk ∧ t.dev.tbOsc = false ∧ t.time.now = s.time.now ∧
    ChangesOnly [.time, .dev, .mbx, .gauge, .regs] s t)) ∧
  (∀ s, clockOn s = true → exec .oscReturn s =
    .next { s with time := { s.time with onFallback := false }, dev := { s.dev with tbOsc := true } }) ∧
  (∀ s r rest v, s.time.steps = r :: rest → stepTarget { s with time := { s.time with steps := rest } } r = some v →
    Completes .timeStep s (fun t => t.time.now = v ∧ t.time.stepped = true ∧ t.time.stepCount = s.time.stepCount + 1 ∧
      t.time.steps = rest ∧ ∀ ch seq, r.cmd = some (ch, seq) → Unanswered s ch seq →
        Answered t ch seq rcOk (toLe 4 (s.time.stepCount + 1).toNat)))) ∧
  (AnswersOk .timeGet 0x0700 (fun _ _ _ => True)
    (fun s _ _ => toLe 8 s.time.now.s.toNat ++ toLe 4 s.time.now.ns.toNat ++ toLe 4 (visibleFrac s.time.now) ++
      toLe 8 (stampOf s.time.now).toNat ++ toLe 4 s.time.stepCount.toNat ++ toLe 1 (plbCode s.plb.state) ++ zeros 3)
    (fun s t ch _ => AnswerFrame [] s t ch) ∧
  RunsLater .timeSet 0x0701 (fun s _ req => s.plb.state = .manual ∧ le req 8 4 ≤ 999999999)
    (fun s t ch seq req => ChangesOnly [.mbx, .time] s t ∧ t.time = { s.time with steps := s.time.steps ++
      [StepReq.mk 0 ⟨BitVec.ofNat 64 (le req 0 8), BitVec.ofNat 30 (le req 8 4), BitVec.ofNat 56 (le req 12 4 * 2 ^ 24)⟩ 0 (some (ch, seq))] }) ∧
  RunsLater .timeOffset 0x0702 (fun s _ _ => s.plb.state = .manual)
    (fun s t ch seq req => ChangesOnly [.mbx, .time] s t ∧ t.time = { s.time with steps := s.time.steps ++
      [StepReq.mk 1 {} (signed 64 (le req 0 8)) (some (ch, seq))] }) ∧
  AnswersOk .timeFreqSet 0x0703 (fun s _ req => s.plb.state = .manual ∧ rateOk (signed 64 (le req 0 8)) = true) (fun _ _ _ => [])
    (fun s t _ req => t.time = { s.time with adj := BitVec.ofInt 64 (signed 64 (le req 0 8)) }) ∧
  AnswersOk .timeTrimSet 0x0704 (fun _ _ req => rateOk (signed 64 (le req 0 8)) = true) (fun _ _ _ => [])
    (fun s t ch req => hwWord t 0x080 = BitVec.ofNat 32 (le req 0 8) ∧ hwWord t 0x081 = BitVec.ofNat 32 (le req 0 8 / 4294967296) ∧
      AnswerFrame [.hw] s t ch) ∧
  AnswersOk .timeLatSet 0x0705
    (fun _ _ req => (latWord (byteAt req 0) (byteAt req 1) (byteAt req 2) (byteAt req 3)).isSome = true) (fun _ _ _ => [])
    (fun s t ch req => (∀ w, latWord (byteAt req 0) (byteAt req 1) (byteAt req 2) (byteAt req 3) = some w →
        hwWord t w = BitVec.ofNat 32 (le req 4 4) ∧ ∀ x, x ≠ w → hwWord t x = hwWord s x) ∧ AnswerFrame [.hw] s t ch))

/-- Timed I/O (R406 to R409, R412): arming takes the written settings, a running output drives the level of its interval, an edge is
stamped into the queue, and captures are popped, read and removed. Boundary scan and the Ethernet reference clock (R657 to R659): IDCODE
shifts the identification out, BYPASS and SAMPLE/PRELOAD load at any time, a board-test instruction takes effect while SYS_RST_N is low
and acts as BYPASS otherwise, and the reference clock returns. Readings and choices of the model that it rests on:
notes/assumptions/51.md and notes/assumptions/66.md. -/
def Obligations.TimedIoAndBoundaryScan : Prop :=
  ((∀ s c, clockOn s = true → c ≤ 9 → tioModeOk c (bits (reg s (r_TIO_CFG c)).toNat 2 0) = true →
    (bits (reg s (r_TIO_CFG c)).toNat 2 0 = 1 ∨ tioOk c (bits (reg s (r_TIO_CFG c)).toNat 2 0) (bits (reg s (r_TIO_CFG c)).toNat 5 4)
      ((reg s (r_TIO_PERIOD_LO c)).toNat + 4294967296 * (reg s (r_TIO_PERIOD_HI c)).toNat) (reg s (r_TIO_WIDTH c)).toNat = true) →
    Completes (.tioArm c) s (fun t => (tioGet t c).mode = bits (reg s (r_TIO_CFG c)).toNat 2 0 ∧
      (tioGet t c).edge = bits (reg s (r_TIO_CFG c)).toNat 5 4 ∧ (tioGet t c).width = (reg s (r_TIO_WIDTH c)).toNat ∧
      (tioGet t c).startNs = (reg s (r_TIO_START_NS c)).toNat)) ∧
  (∀ s c, clockOn s = true → (tioGet s c).mode = 3 → Completes (.tioOutputEdge c) s (fun t =>
    (tioGet t c).active = tioLevel (tioGet s c) (fineNow s) ∧ ChangesOnly [.tio, .out] s t)) ∧
  (∀ s c, clockOn s = true → (tioGet s c).mode = 2 → (tioGet s c).armed = true → tioStart (tioGet s c) ≤ fineNow s →
    Completes (.tioOutputEdge c) s (fun t => (tioGet t c).active = tioLevel (tioGet s c) (fineNow s) ∧ (tioGet t c).armed = false ∧
      (tioGet t c).live = true ∧ ChangesOnly [.tio, .out] s t)) ∧
  (∀ s c falling, clockOn s = true → c ≤ 8 → (tioGet s c).mode = 1 → bitAt (tioGet s c).edge (b2n falling) = true →
    (tioGet s c).captures.length < 16 → (tioGet s c).last = none → Completes (.tioEdgeCapture c falling) s (fun t =>
      (tioGet t c).captures = (tioGet s c).captures ++ [⟨BitVec.ofInt 64 (((fineNow s : Int) - signed 32 (hwUse s (0x0C0 + 2 * c))) / 8 * 8), falling⟩])) ∧
  (∀ s master c, c ≤ 9 → Completes (.tioCapPop master c) s (fun t =>
    Emits s t [.regRead master (BitVec.ofNat 32 (capWord (tioGet s c)))] ∧ (tioGet t c).captures = (tioGet s c).captures.drop 1 ∧
      (tioGet t c).latch = (tioGet s c).captures.head? ∧ ChangesOnly [.tio, .out] s t)) ∧
  (∀ s master m, m ≤ 15 → Completes (.timeTxqPop master m) s (fun t =>
    Emits s t [.regRead master (BitVec.ofNat 32 (stampWord (macGet s m)))] ∧ (macGet t m).stamps = (macGet s m).stamps.drop 1 ∧
      (macGet t m).stampLatch = (macGet s m).stamps.head? ∧ ChangesOnly [.macs, .out] s t)) ∧
  AnswersOk .tioConfig 0x0730
    (fun _ _ req => byteAt req 0 ≤ 9 ∧ tioOk (byteAt req 0) (byteAt req 1) (bits (byteAt req 2) 2 1) (le req 20 8) (le req 28 4) = true ∧
      bitAt (byteAt req 2) 3 = false) (fun _ _ _ => [])
    (fun s t _ req => reg t (r_TIO_WIDTH (byteAt req 0)) = BitVec.ofNat 32 (le req 28 4) ∧
      reg t (r_TIO_START_NS (byteAt req 0)) = BitVec.ofNat 32 (le req 12 4 % 2 ^ 30) ∧
      reg t (r_TIO_PERIOD_LO (byteAt req 0)) = BitVec.ofNat 32 (le req 20 4) ∧ t.tio = s.tio) ∧
  AnswersOk .tioCaptureRead 0x0731 (fun _ _ req => byteAt req 0 ≤ 9 ∧ 1 ≤ byteAt req 1 ∧ byteAt req 1 ≤ 15)
    (fun s _ req => toLe 1 ((tioGet s (byteAt req 0)).captures.take (byteAt req 1)).length ++ zeros 3 ++
      ((tioGet s (byteAt req 0)).captures.take (byteAt req 1)).flatMap (fun e => toLe 8 e.stamp.toNat ++ toLe 1 (b2n e.falling) ++ zeros 7))
    (fun s t ch req => (tioGet t (byteAt req 0)).captures = (tioGet s (byteAt req 0)).captures.drop (byteAt req 1) ∧
      AnswerFrame [.tio] s t ch)) ∧
  ((∀ s, exec .bypass s = .next { s with tap := .bypass }) ∧
  (∀ s, exec .idcode s = .next (emit { s with tap := .idcode } (.tapShift 0x186409CF#32))) ∧
  (∀ s, exec .samplePreload s = .next { s with tap := .samplePreload }) ∧
  (∀ c v s, (c, v) ∈ [(Instr.extest, TapInstr.extest), (.highz, .highz), (.clamp, .clamp), (.extestPulse, .extestPulse),
      (.extestTrain, .extestTrain)] → exec c s = .next { s with tap := if s.dev.sysRstN then .bypass else v }) ∧
  (∀ s, Completes .ethRefclkLoss s (fun t => t.dev.ethRefclk = false ∧ t.itw.linkUp = false ∧
    ∀ m < 16, (macGet t m).linkUp = false)) ∧
  (∀ s, Completes .ethRefclkReturn s (fun t => t.dev.ethRefclk = true ∧
    (clockOn s = true → s.dev.tbOsc = false → t.time.onFallback = true) ∧ ChangesOnly [.dev, .time] s t)))

/-- The PTP engine sends (R395 to R398): a MASTER port its Sync and Announce while the actor gate is open, a SLAVE port its Delay_Req, a
port under peer-to-peer its Pdelay_Req; a closed gate counts, and a timeout forgets the clocks heard on the port. The PTP engine
receives (R395, R397, R399): the oldest message first, a bad one and the 1,025th event message of a second are dropped and counted, and
a matching Delay_Resp gives the delay toward the master. Readings and choices of the model that it rests on: notes/assumptions/53.md. -/
def Obligations.ThePtpEngineSendsAndTakesMessages : Prop :=
  ((∀ s m x, m < 16 → ptpOn s m = true → x = ptpGet s m → x.state = .master → asCapable s m = true →
    (actorGate s = true →
      exec (.ptpSyncSend m) s = .next (ptpSend (ptpSet s m { x with txSeqSync := x.txSeqSync + 1 }) m 0 (if ptpTwoStep s then 1 else 2) 0
        (ptpMsg s m 0 (if ptpTwoStep s then 0x0200 else 0) 0 x.txSeqSync.toNat (logSync s m) (zeros 10))) ∧
      exec (.ptpAnnounceSend m) s = .next (ptpSend (ptpSet s m { x with txSeqAnn := x.txSeqAnn + 1 }) m 11 0 0
        (ptpMsg s m 11 (announceBody s).1 0 x.txSeqAnn.toNat (logAnnounce s m) (announceBody s).2))) ∧
    (actorGate s = false → Completes (.ptpSyncSend m) s (fun t => Counted s t r_ITW_CNT_GATED 1 ∧ ChangesOnly [.regs] s t) ∧
      Completes (.ptpAnnounceSend m) s (fun t => Counted s t r_ITW_CNT_GATED 1 ∧ ChangesOnly [.regs] s t))) ∧
  (∀ s m x, m < 16 → ptpOn s m = true → x = ptpGet s m →
    (ptpProfile s = 0 → x.state = .slave → exec (.ptpDelayReqSend m) s =
      .next (ptpSend (ptpSet s m { x with txSeqReq := x.txSeqReq + 1, req := some (x.txSeqReq.toNat, none) }) m 1 1 0
        (ptpMsg s m 1 0 0 x.txSeqReq.toNat 0x7F (zeros 10)))) ∧
    (ptpProfile s ≠ 0 → exec (.ptpDelayReqSend m) s =
      .next (ptpSend (ptpSet s m { x with txSeqReq := x.txSeqReq + 1, preq := some (x.txSeqReq.toNat, none), presp := none }) m 2 1 0
        (ptpMsg s m 2 0 0 x.txSeqReq.toNat (logDreq s m) (zeros 20))))) ∧
  (∀ s m, ptpOn s m = true → s.mbx.serving = true → Completes (.ptpAnnounceTimeout m) s (fun t => (ptpGet t m).foreign = [])) ∧
  (∀ s m, ptpOn s m = false → exec (.ptpSyncSend m) s = .next s ∧ exec (.ptpAnnounceSend m) s = .next s ∧
    exec (.ptpDelayReqSend m) s = .next s ∧ exec (.ptpAnnounceTimeout m) s = .next s)) ∧
  ((∀ s m f stamp rest b, s.ptp.inbox = (m, f, stamp) :: rest → b = f.drop ((ptpOffset f).getD 0) → m < 16 →
    (ptpBad b = true → Completes .ptpMsgRx s (fun t => t.ptp.inbox = rest ∧ t.ptp.ports = s.ptp.ports ∧
      Counted s t (r_TIME_PTP_CNT_RX_BAD m) 1 ∧ ChangesOnly [.ptp, .regs] s t)) ∧
    (ptpBad b = false → msgType b ≤ 3 → (ptpGet s m).eventSec = s.time.ticks / 1000000000 → 1024 ≤ (ptpGet s m).events →
      Completes .ptpMsgRx s (fun t => t.ptp.inbox = rest ∧ t.ptp.ports = s.ptp.ports ∧ Counted s t (r_TIME_PTP_CNT_RATE_DROP m) 1 ∧
        ChangesOnly [.ptp, .regs] s t)) ∧
    (ptpBad b = false → msgType b = 9 → ∀ seq t3, (ptpGet s m).req = some (seq, some t3) → seq = msgSeq b → slice b 44 10 = portId s m →
      msgSource b = (ptpGet s m).parent → Completes .ptpMsgRx s (fun t => ptpGet t m = { ptpGet s m with
        req := none
        tSm := some (msgTime b 34 - expandStamp s t3 - msgCorrection b)
        tSmTick := s.time.ticks } ∧ t.ptp.inbox = rest ∧ ChangesOnly [.ptp] s t)) ∧
    (ptpBad b = false → msgType b = 9 → (ptpGet s m).req = none → Completes .ptpMsgRx s (fun t => t.ptp.ports = s.ptp.ports ∧
      t.ptp.inbox = rest ∧ Counted s t (r_TIME_PTP_CNT_RESP_BAD m) 1))) ∧
  (∀ s, s.ptp.inbox = [] → exec .ptpMsgRx s = .next s))

/-- The PTP commands (R394, R395, R412): the settings are kept in Heartwood, the enabled ports listen, and the state of a port is read.
Plumb (R400 to R404, R412): the servo steers ADJ from an offset, an offset beyond JUMP is refused, a missing sample is HOLDOVER, and the
commands set, restart, read and save it. Readings and choices of the model that it rests on: notes/assumptions/52.md and
notes/assumptions/53.md. -/
def Obligations.PtpPortsAndThePlumbServoAreSet : Prop :=
  (AnswersOk .ptpInstanceSet 0x0720 (fun _ _ req => byteAt req 0 ≤ 2 ∧ byteAt req 1 ≤ 2 ∧ byteAt req 2 ≤ 2 ∧
      (byteAt req 1 = 2 → byteAt req 2 = 0 ∧ byteAt req 3 = 0)) (fun _ _ _ => [])
    (fun _ t _ req => hwWord t 0x0D8 = BitVec.ofNat 32 (byteAt req 0 + 4 * byteAt req 1 + 16 * byteAt req 2 + 64 * bits (le req 4 4) 0 0 +
        256 * byteAt req 3) ∧ hwWord t 0x0D9 = BitVec.ofNat 32 (le req 8 4) ∧ hwWord t 0x0DA = BitVec.ofNat 32 (le req 12 4) ∧
      ∀ m < 16, ptpEnabled t m = true → (ptpGet t m).state = .listening ∧ (ptpGet t m).parent = zeros 10) ∧
  AnswersOk .ptpPortSet 0x0721 (fun _ _ req => byteAt req 0 ≤ 15 ∧ byteAt req 1 ≤ 1 ∧ -7 ≤ signed 8 (byteAt req 2) ∧ signed 8 (byteAt req 2) ≤ 4 ∧
      -7 ≤ signed 8 (byteAt req 3) ∧ signed 8 (byteAt req 3) ≤ 4 ∧ -3 ≤ signed 8 (byteAt req 4) ∧ signed 8 (byteAt req 4) ≤ 4 ∧
      2 ≤ byteAt req 5 ∧ byteAt req 5 ≤ 10) (fun _ _ _ => [])
    (fun _ t _ req => hwWord t (0x100 + 4 * byteAt req 0) = BitVec.ofNat 32 (8 * byteAt req 1 + 256 * byteAt req 2 + 65536 * byteAt req 3 +
        16777216 * byteAt req 4) ∧ ((ptpGet t (byteAt req 0)).state = .disabled ↔ byteAt req 1 = 0)) ∧
  AnswersOk .ptpPortStatus 0x0722 (fun _ _ req => byteAt req 0 ≤ 15)
    (fun s _ req => toLe 1 (ptpCode (ptpGet s (byteAt req 0)).state) ++ zeros 1 ++ fit (ptpGet s (byteAt req 0)).parent 10 ++
      toLe 8 (unsigned 64 ((ptpGet s (byteAt req 0)).linkDelay.getD 0)) ++
      toLe 4 (unsigned 32 (roundHalfEven ((ptpGet s (byteAt req 0)).ratio * 1000000000) (2 ^ 41)))) (fun s t ch _ => AnswerFrame [] s t ch)) ∧
  ((∀ s theta i1 u a, absInt theta ≤ plbJump s →
    i1 = clamp (-(plbIclamp s * 65536)) (plbIclamp s * 65536) (s.plb.integ + plbKi s * -theta) → u = plbKp s * -theta + i1 →
    a = roundHalfEven u 65536 → absInt a ≤ plbLimit s → (servo s theta).time.adj = BitVec.ofInt 64 a ∧ (servo s theta).plb.integ = i1 ∧
      (servo s theta).plb.thetaLast = theta ∧ Counted s (servo s theta) r_PLB_CNT_ACCEPTED 1) ∧
  (∀ s theta, plbJump s < absInt theta → s.plb.armed = false → (servo s theta).time = s.time ∧ (servo s theta).plb.integ = s.plb.integ ∧
    Counted s (servo s theta) r_PLB_CNT_JUMP 1) ∧
  (∀ s tms d rest, s.plb.queue = (tms, d) :: rest → (s.plb.state = .manual → exec .plumbSample s =
      .next { s with plb := { s.plb with queue := rest } }) ∧
    (s.plb.state ≠ .manual → exec .plumbSample s = .next (plbSample (trimSave { s with plb := { s.plb with queue := rest } }) tms d))) ∧
  (∀ s, s.plb.state ≠ .manual → s.plb.state ≠ .holdover → Completes .plumbTimeout s (fun t => t.plb.state = .holdover ∧
    t.time.adj = BitVec.ofInt 64 (clamp (-plbLimit s) (plbLimit s) (roundHalfEven s.plb.integ 65536)) ∧ t.plb.run = 0 ∧ t.plb.kept = [])) ∧
  (∀ s, s.plb.state = .manual ∨ s.plb.state = .holdover → exec .plumbTimeout s = .next s) ∧
  (∀ s v u, u = setReg s (r_PLB_HOST_D + 4) v → Completes (.plbHostDHiWrite v) s (fun t => reg t (r_PLB_HOST_D + 4) = v ∧
    (s.plb.state ≠ .manual → plbSource s = 2 → s.plb.queue.length < 4 → t.plb = { s.plb with
      queue := s.plb.queue ++ [(signed 64 (counter64 u r_PLB_HOST_TMS), signed 64 (counter64 u r_PLB_HOST_D))] }) ∧
    (s.plb.state = .manual ∨ plbSource s ≠ 2 → t.plb = s.plb) ∧ ChangesOnly [.regs, .plb] s t)) ∧
  AnswersOk .plbConfig 0x0710 (fun s _ req => plbConfigBad req = false ∧ s.plb.trimSave = none) (fun _ _ _ => [])
    (fun s t _ req => hwWord t 0x082 = BitVec.ofNat 32 (byteAt req 0 + 2 * byteAt req 1 + 8 * byteAt req 2 + 128 * bits (byteAt req 3) 0 0) ∧
      (byteAt req 0 = 0 → t.plb.state = .manual) ∧ (byteAt req 0 = 1 → s.plb.state = .manual → t.plb.state = .acquire ∧ t.plb.armed = true)) ∧
  AnswersOk .plbReacquire 0x0711 (fun s _ _ => s.plb.state ≠ .manual) (fun _ _ _ => [])
    (fun _ t _ _ => t.plb.state = .acquire ∧ t.plb.df = none ∧ t.plb.bias = 0 ∧ t.plb.armed = true) ∧
  AnswersOk .plbStatus 0x0712 (fun _ _ _ => True)
    (fun s _ _ => toLe 1 (plbCode s.plb.state) ++ toLe 1 s.plb.run ++ zeros 2 ++ toLe 8 s.time.adj.toNat ++
      toLe 8 (unsigned 64 s.plb.integ) ++ toLe 8 (unsigned 64 s.plb.thetaLast) ++ toLe 8 (unsigned 64 (s.plb.df.getD 0)) ++
      toLe 8 (unsigned 64 s.plb.bias) ++ toLe 4 (counter s r_PLB_CNT_ACCEPTED).toNat ++ toLe 4 (counter s r_PLB_CNT_JUMP).toNat)
    (fun s t ch _ => AnswerFrame [] s t ch) ∧
  RunsLater .plbTrimSave 0x0713 (fun s _ _ => s.plb.state ≠ .manual ∧ s.plb.trimSave = none)
    (fun s t ch seq _ => t.plb = { s.plb with trimSave := some (ch, seq) } ∧ ChangesOnly [.mbx, .plb] s t))

/-- Counters, snapshots and the trace (R13, R58, R620 to R623, R626, R627, R637): a counter is read and an RC one cleared by the holder,
a snapshot is requested, captured at its time and read back, and the trace is configured, started, stopped and read. Readings and
choices of the model that it rests on: notes/assumptions/4.md. -/
def Obligations.CountersSnapshotsAndTrace : Prop :=
  AnswersOk .gauCounterRead 0x0A02 (fun _ _ req => bitAt (byteAt req 0) 0 = false ∧ 1 ≤ byteAt req 1 ∧ byteAt req 1 ≤ 30 ∧
      ∀ i < byteAt req 1, (counterAddr (le req (4 + 4 * i) 4)).isSome = true)
    (fun s _ req => (List.range (byteAt req 1)).flatMap (fun i =>
      toLe 8 (counterNow s (le req (4 + 4 * i) 4) ((counterAddr (le req (4 + 4 * i) 4)).getD 0))))
    (fun s t ch _ => AnswerFrame [] s t ch) ∧
  (∀ a, AnswersOk .gauCounterRead 0x0A02 (fun s ch req => bitAt (byteAt req 0) 0 = true ∧ chanHolds s ch = true ∧ byteAt req 1 = 1 ∧
      counterAddr (le req 4 4) = some a ∧ bitAt (le req 4 4) 0 = true)
    (fun s _ req => toLe 8 (counterNow s (le req 4 4) a)) (fun s t _ _ => counter t a = 0 ∧ ChangesOnly answerParts s t)) ∧
  (∀ s ch seq req, Begun s ch seq 0x0A02 req → bitAt (byteAt req 0) 0 = true → chanHolds s ch = false →
    Completes (.gauCounterRead ch seq) s (fun t => Answered t ch seq rcNotPermitted [] ∧ AnswerFrame [] s t ch)) ∧
  (∀ tm, RunsLater .gauSnapshot 0x0A00 (fun s _ req => s.gauge.snapReq = none ∧
      tm = (if le req 0 8 = 0 then (stampNow s).toNat + 5120000 else le req 0 8) ∧ 2560000 ≤ distance 64 tm (stampNow s).toNat ∧
      distance 64 tm (stampNow s).toNat ≤ 256000000000)
    (fun s t ch seq req => t.gauge = { s.gauge with snapReq := some ⟨ch, seq, BitVec.ofNat 64 tm, le req 8 2, bitAt (byteAt req 10) 0⟩ } ∧
      ChangesOnly [.mbx, .gauge] s t)) ∧
  (∀ s r, s.gauge.snapReq = some r →
    (earlier 64 (stampNow s).toNat r.at_.toNat = true → exec .snapshotCapture s = .next s) ∧
    (earlier 64 (stampNow s).toNat r.at_.toNat = false → Completes .snapshotCapture s (fun t => t.gauge.snapReq = none ∧
      (∃ x, t.gauge.snaps = s.gauge.snaps.drop (s.gauge.snaps.length - 3) ++ [x] ∧ x.id = s.gauge.nextSnap ∧ x.stamp = stampNow s ∧
        x.values = (catalogueOf s r.islands).map (fun id =>
          (BitVec.ofNat 32 id, BitVec.ofNat 64 (counterNow s id ((counterAddr id).getD 0))))) ∧
      (r.clear = true → ∀ id ∈ catalogueOf s r.islands, bitAt id 0 = true → counter t ((counterAddr id).getD 0) = 0) ∧
      (Unanswered s r.chan r.seq → Answered t r.chan r.seq rcOk
        (toLe 4 s.gauge.nextSnap ++ toLe 8 (stampNow s).toNat ++ toLe 4 (catalogueOf s r.islands).length))))) ∧
  (∀ x, AnswersOk .gauSnapshotRead 0x0A01 (fun s _ req => s.gauge.snaps.find? (fun x => x.id = le req 0 4) = some x ∧ 1 ≤ le req 8 2 ∧
      le req 8 2 ≤ 15 ∧ le req 4 4 + le req 8 2 ≤ x.values.length)
    (fun _ _ req => slice req 0 4 ++ toLe 4 x.values.length ++
      ((x.values.drop (le req 4 4)).take (le req 8 2)).flatMap (fun v => toLe 4 v.1.toNat ++ zeros 4 ++ toLe 8 v.2.toNat))
    (fun s t ch _ => AnswerFrame [] s t ch)) ∧
  AnswersOk .gauTraceConfig 0x0A10 (fun s _ req => s.gauge.traceRun = false ∧ (le req 8 2 ≤ 2049 ∨ le req 8 2 = 0xFFFF) ∧ byteAt req 10 ≤ 16 ∧
      byteAt req 11 ≤ 1 ∧ le req 0 8 < 2 ^ 38) (fun _ _ _ => [])
    (fun s t ch req => t.gauge = { s.gauge with traceSources := BitVec.ofNat 64 (le req 0 8), traceShift := byteAt req 10, traceMode := byteAt req 11,
                                                traceSlice := (if le req 8 2 = 0xFFFF then 0xFFF else le req 8 2) } ∧ AnswerFrame [] s t ch) ∧
  (∀ s ch seq req, Begun s ch seq 0x0A10 req → s.gauge.traceRun = true → Completes (.gauTraceConfig ch seq) s (fun t =>
    Answered t ch seq rcBusy [] ∧ AnswerFrame [] s t ch)) ∧
  AnswersOk .gauTraceStart 0x0A11 (fun _ _ _ => True) (fun s _ _ => toLe 8 (stampNow s).toNat)
    (fun s t ch _ => t.gauge.traceRun = true ∧ t.gauge.traceWritten.toNat ≤ 1 ∧ AnswerFrame [] s t ch) ∧
  AnswersOk .gauTraceStop 0x0A12 (fun _ _ _ => True)
    (fun s _ _ => toLe 8 s.gauge.traceWritten.toNat ++ toLe 4 (counter s r_GAU_TRACE_DROP).toNat ++ zeros 4)
    (fun s t ch _ => t.gauge = { s.gauge with traceRun := false } ∧ AnswerFrame [] s t ch) ∧
  AnswersOk .gauTraceRead 0x0A13 (fun _ _ req => 1 ≤ byteAt req 8 ∧ byteAt req 8 ≤ 7)
    (fun s _ req =>
      let oldest := s.gauge.traceWritten.toNat - traceCapacity s;
      let first := max (le req 0 8) oldest;
      let k := min (byteAt req 8) (s.gauge.traceWritten.toNat - first);
      toLe 8 first ++ toLe 8 oldest ++ toLe 1 k ++ zeros 3 ++
        (List.range k).flatMap (fun i => mapGetD s.gauge.trace ((first + i) % traceCapacity s) (zeros 32)))
    (fun s t ch _ => AnswerFrame [] s t ch)

/-- The error log, sensors, Heartwood words and development reads (R614, R617, R618, R629, R632 to R637, R668, R669): one entry stands
for what a window suppressed, sensors take their values and the thermal level follows them, and the commands read, clear and write what
they name. Readings and choices of the model that it rests on: notes/assumptions/19.md. -/
def Obligations.ErrorLogSensorsAndWordsAreReadAndWritten : Prop :=
  (∀ s code w, s.gauge.windows.find? (fun w => w.code = code) = some w →
    (w.last = none → exec (.errlogWindowClose code) s =
      .next { s with gauge := { s.gauge with windows := s.gauge.windows.filter (fun x => x.code ≠ code) } }) ∧
    (∀ e, w.last = some e → Completes (.errlogWindowClose code) s (fun t =>
      t.gauge.windows = s.gauge.windows.filter (fun x => x.code ≠ code) ∧
      t.gauge.errlog.getLast? = some { e with count := w.suppressed, seq := s.gauge.nextSeq } ∧ t.gauge.nextSeq = s.gauge.nextSeq + 1))) ∧
  (∀ s values u, s.dev.base ≠ .off → s.dev.base ≠ .held → values.length = 49 → u = { s with gauge := { s.gauge with
      sensors := (List.range 49).map (fun k => (k, signed 32 (unsigned 32 (values.getD k 0)))) } } →
    Completes (.sensorUpdate values) s (fun t => t.gauge.sensors = u.gauge.sensors ∧
      ((256 * hwField s 0x007 7 0 : Nat) < (hottest u).2 → bitAt t.gauge.thermal 0 = true) ∧
      ((256 * hwField s 0x007 15 8 : Nat) < (hottest u).2 → bitAt t.gauge.thermal 1 = true) ∧
      ((hottest u).2 ≤ (256 * hwField s 0x007 7 0 : Nat) - 512 → bitAt t.gauge.thermal 0 = false) ∧
      ((hottest u).2 ≤ (256 * hwField s 0x007 15 8 : Nat) - 512 → bitAt t.gauge.thermal 1 = false))) ∧
  AnswersOk .gauErrlogRead 0x0A20 (fun _ _ req => bitAt (byteAt req 5) 0 = false ∧ 1 ≤ byteAt req 4 ∧ byteAt req 4 ≤ 3)
    (fun s _ req =>
      let es := (if le req 0 4 = 0xFFFFFFFF then s.gauge.errlog
        else s.gauge.errlog.filter (fun e => !earlier 32 e.seq.toNat (le req 0 4))).take (byteAt req 4);
      toLe 4 s.gauge.nextSeq.toNat ++ toLe 1 es.length ++ zeros 3 ++ es.flatMap errBytes) (fun s t ch _ => AnswerFrame [] s t ch) ∧
  AnswersOk .gauErrlogRead 0x0A20 (fun _ _ req => bitAt (byteAt req 5) 0 = true ∧ 1 ≤ byteAt req 4 ∧ byteAt req 4 ≤ 6)
    (fun s _ req => toLe 4 (hwField s 0x018 3 0) ++ toLe 1 (byteAt req 4) ++ zeros 3 ++ (List.range (byteAt req 4)).flatMap (fun i =>
      (List.range 8).flatMap (fun j => toLe 4 (hwWord s (0x180 + 8 * ((le req 0 4 + i) % 16) + j)).toNat)))
    (fun s t ch _ => AnswerFrame [] s t ch) ∧
  AnswersOk .gauErrlogClear 0x0A21 (fun _ _ _ => True) (fun s _ _ => toLe 4 s.gauge.errlog.length)
    (fun s t ch req => t.gauge.errlog = [] ∧ t.gauge.nextSeq = s.gauge.nextSeq ∧
      (bitAt (byteAt req 0) 0 = true → ∀ w, 0x180 ≤ w → w ≤ 0x1FF → hwWord t w = 0) ∧
      (bitAt (byteAt req 0) 0 = false → t.hw = s.hw) ∧ AnswerFrame [.hw] s t ch) ∧
  AnswersOk .gauErrlogQuery 0x0A22 (fun _ _ _ => True)
    (fun s _ _ => toLe 4 ((s.gauge.errlog.head?.map (fun e => e.seq)).getD s.gauge.nextSeq).toNat ++ toLe 4 s.gauge.nextSeq.toNat ++
      toLe 2 s.gauge.errlog.length ++ zeros 2 ++ toLe 4 (counter s r_GAU_ERRLOG_LOST).toNat ++
      toLe 4 (counter s r_GAU_ERRLOG_SUPPRESSED).toNat ++
      (List.range 5).flatMap (fun v => toLe 4 (s.gauge.errlog.filter (fun e => e.severity = v)).length)) (fun s t ch _ => AnswerFrame [] s t ch) ∧
  AnswersOk .gauSensorRead 0x0A30 (fun _ _ _ => True) (fun s _ _ => toLe 1 49 ++ zeros 3 ++
      (List.range 49).flatMap (fun k => toLe 1 k ++ zeros 3 ++ toLe 4 (unsigned 32 (sensorNow s k)))) (fun s t ch _ => AnswerFrame [] s t ch) ∧
  AnswersOk .gauDevRead 0x0A40 (fun _ _ req => byteAt req 0 = 0 ∧ 4 ≤ le req 2 2 ∧ le req 2 2 ≤ 240 ∧ le req 2 2 % 4 = 0 ∧
      mappedAll (le req 4 8) (le req 2 2) = true) (fun s _ req => slice req 4 8 ++ peekBytes s (le req 4 8) (le req 2 2))
    (fun s t ch _ => AnswerFrame [] s t ch) ∧
  AnswersOk .hwdRead 0x0130 (fun _ _ req => 1 ≤ le req 2 2 ∧ le req 2 2 ≤ 60 ∧ le req 0 2 + le req 2 2 ≤ 1024)
    (fun s _ req => slice req 0 4 ++ (List.range (le req 2 2)).flatMap (fun i => toLe 4 (hwWord s (le req 0 2 + i)).toNat))
    (fun s t ch _ => AnswerFrame [] s t ch) ∧
  AnswersOk .hwdWrite 0x0131 (fun _ _ req => 1 ≤ le req 2 2 ∧ le req 2 2 ≤ 56 ∧ le req 0 2 + le req 2 2 ≤ 1024 ∧
      (0x082 < le req 0 2 ∨ le req 0 2 + le req 2 2 ≤ 0x082) ∧
      ∀ i < le req 2 2, hwGuarded (le req 0 2 + i) = false ∧ hwIgnored (le req 0 2 + i) (le req (8 + 4 * i) 4) = false) (fun _ _ _ => [])
    (fun s t ch req => (∀ i < le req 2 2, hwWord t (le req 0 2 + i) = BitVec.ofNat 32 (le req (8 + 4 * i) 4 &&& hwMask (le req 0 2 + i))) ∧
      (∀ w, (w < le req 0 2 ∨ le req 0 2 + le req 2 2 ≤ w) → (w < 0x200 ∨ 0x240 ≤ w) → hwWord t w = hwWord s w) ∧
      AnswerFrame [.hw] s t ch) ∧
  (∀ s ch seq req, Begun s ch seq 0x0131 req → 1 ≤ le req 2 2 → le req 2 2 ≤ 56 → le req 0 2 + le req 2 2 ≤ 1024 → hwGuarded (le req 0 2) = true →
    Completes (.hwdWrite ch seq) s (fun t => Answered t ch seq rcNotPermitted [] ∧ AnswerFrame [] s t ch))
end

