-- ==== Sys2Proof/Laws/Map.lean ====
section
/-! SUPPORT. Laws of the sparse tables and of the byte memory: read after write, and that every memory operation keeps the canonical
form. -/

namespace Sys2Proof.Machine

open Sys2Proof

variable {α : Type}

@[simp] theorem mapGet_nil (k : Nat) : mapGet ([] : AMap α) k = none := rfl

/-- A key that was just set reads as what was set. -/
@[simp] theorem mapGet_mapSet_self (m : AMap α) (k : Nat) (v : α) : mapGet (mapSet m k v) k = some v := by
  induction m with
  | nil => simp [mapSet, mapGet]
  | cons p m ih =>
    obtain ⟨a, w⟩ := p
    unfold mapSet
    split
    · simp [mapGet]
    · split
      · simp [mapGet]
      · rename_i h1 h2
        simp [mapGet, h2, ih]

/-- Setting a key leaves every other key alone. -/
theorem mapGet_mapSet_ne (m : AMap α) {j k : Nat} (v : α) (h : j ≠ k) : mapGet (mapSet m k v) j = mapGet m j := by
  induction m with
  | nil => simp [mapSet, mapGet, h]
  | cons p m ih =>
    obtain ⟨a, w⟩ := p
    unfold mapSet
    split
    · simp [mapGet, h]
    · split
      · rename_i h1 h2
        subst h2
        simp [mapGet, h]
      · simp [mapGet, ih]

@[simp] theorem mapGetD_mapSet_self (m : AMap α) (k : Nat) (v d : α) : mapGetD (mapSet m k v) k d = v := by simp [mapGetD]

theorem mapGetD_mapSet_ne (m : AMap α) {j k : Nat} (v d : α) (h : j ≠ k) : mapGetD (mapSet m k v) j d = mapGetD m j d := by
  simp [mapGetD, mapGet_mapSet_ne m v h]

@[simp] theorem mapGet_mapErase_self (m : AMap α) (k : Nat) : mapGet (mapErase m k) k = none := by
  induction m with
  | nil => rfl
  | cons p m ih =>
    obtain ⟨a, w⟩ := p
    unfold mapErase at *
    by_cases h : a = k
    · simp [h, ih]
    · have : k ≠ a := fun e => h e.symm
      simp [h, mapGet, this, ih]

theorem mapGet_mapErase_ne (m : AMap α) {j k : Nat} (h : j ≠ k) : mapGet (mapErase m k) j = mapGet m j := by
  induction m with
  | nil => rfl
  | cons p m ih =>
    obtain ⟨a, w⟩ := p
    unfold mapErase at *
    by_cases e : a = k
    · subst e
      simp [mapGet, h, ih]
    · by_cases e' : j = a
      · simp [e, mapGet, e']
      · simp [e, mapGet, e', ih]

/-- The keys of a table rise strictly exactly when they are pairwise in order. -/
theorem mapWf_iff (m : AMap α) : mapWf m = true ↔ (m.map (fun p => p.1)).Pairwise (· < ·) := by
  induction m with
  | nil => simp [mapWf]
  | cons p m ih =>
    obtain ⟨a, w⟩ := p
    cases m with
    | nil => simp [mapWf]
    | cons q m =>
      obtain ⟨b, v⟩ := q
      simp only [mapWf, Bool.and_eq_true, decide_eq_true_eq, ih, List.map_cons, List.pairwise_cons, List.mem_cons]
      constructor
      · rintro ⟨h, h1, h2⟩
        refine ⟨?_, h1, h2⟩
        rintro x (rfl | hx)
        · exact h
        · exact Nat.lt_trans h (h1 x hx)
      · rintro ⟨h, h1, h2⟩
        exact ⟨h b (Or.inl rfl), h1, h2⟩

/-- An entry of a table after a key is set is the new one or an old one. -/
theorem mem_mapSet (m : AMap α) (k : Nat) (v : α) {p : Nat × α} (h : p ∈ mapSet m k v) : p = (k, v) ∨ p ∈ m := by
  induction m with
  | nil => simpa [mapSet] using h
  | cons q m ih =>
    obtain ⟨a, w⟩ := q
    unfold mapSet at h
    split at h
    · simpa using h
    · split at h
      · rcases List.mem_cons.1 h with h | h
        · exact Or.inl h
        · exact Or.inr (List.mem_cons_of_mem _ h)
      · rcases List.mem_cons.1 h with h | h
        · exact Or.inr (h ▸ List.mem_cons_self)
        · rcases ih h with h | h
          · exact Or.inl h
          · exact Or.inr (List.mem_cons_of_mem _ h)

/-- Setting a key keeps the keys strictly rising. -/
theorem mapWf_mapSet (m : AMap α) (k : Nat) (v : α) (h : mapWf m = true) : mapWf (mapSet m k v) = true := by
  rw [mapWf_iff] at *
  induction m with
  | nil => simp [mapSet]
  | cons p m ih =>
    obtain ⟨a, w⟩ := p
    simp only [List.map_cons, List.pairwise_cons, List.mem_map, forall_exists_index, and_imp, forall_apply_eq_imp_iff₂] at h
    unfold mapSet
    split
    · rename_i hk
      simp only [List.map_cons, List.pairwise_cons, List.mem_cons, List.mem_map]
      refine ⟨?_, ?_, h.2⟩
      · rintro x (rfl | ⟨y, hy, rfl⟩)
        · exact hk
        · exact Nat.lt_trans hk (h.1 y hy)
      · rintro x ⟨y, hy, rfl⟩
        exact h.1 y hy
    · split
      · rename_i h1 h2
        subst h2
        simp only [List.map_cons, List.pairwise_cons, List.mem_map]
        refine ⟨?_, h.2⟩
        rintro x ⟨y, hy, rfl⟩
        exact h.1 y hy
      · rename_i h1 h2
        simp only [List.map_cons, List.pairwise_cons, List.mem_map]
        refine ⟨?_, ih h.2⟩
        rintro x ⟨y, hy, rfl⟩
        rcases mem_mapSet m k v hy with rfl | hy
        · show a < k
          omega
        · exact h.1 y hy

/-- Erasing a key keeps the keys strictly rising. -/
theorem mapWf_mapErase (m : AMap α) (k : Nat) (h : mapWf m = true) : mapWf (mapErase m k) = true := by
  rw [mapWf_iff] at *
  exact List.Pairwise.sublist (List.Sublist.map _ List.filter_sublist) h

/-! The byte memory. -/

@[simp] theorem memRead_memWrite_self (m : List Host.Cell) (a : Nat) (b : Byte) : memRead (memWrite m a b) a = b := by
  unfold memRead memWrite
  split
  · simp [mapGetD, *]
  · simp

theorem memRead_memWrite_ne (m : List Host.Cell) {a c : Nat} (b : Byte) (h : c ≠ a) :
    memRead (memWrite m a b) c = memRead m c := by
  unfold memRead memWrite
  split
  · simp [mapGetD, mapGet_mapErase_ne m h]
  · exact mapGetD_mapSet_ne m b _ h

/-- A byte outside the written range reads as before. -/
theorem memRead_memWriteN_outside (bs : Bytes) (m : List Host.Cell) (a c : Nat) (h : c < a ∨ a + bs.length ≤ c) :
    memRead (memWriteN m a bs) c = memRead m c := by
  induction bs generalizing m a with
  | nil => rfl
  | cons b bs ih =>
    simp only [List.length_cons] at h
    rw [memWriteN, ih _ _ (by omega), memRead_memWrite_ne _ _ (by omega)]

/-- Writing a byte keeps the canonical form. -/
theorem Memory.wf_memWrite (m : List Host.Cell) (a : Nat) (b : Byte) (h : Memory.wf m = true) :
    Memory.wf (memWrite m a b) = true := by
  simp only [Memory.wf, Bool.and_eq_true, List.all_eq_true] at *
  unfold memWrite
  split
  · refine ⟨mapWf_mapErase m a h.1, fun x hx => h.2 x ?_⟩
    exact List.mem_of_mem_filter hx
  · rename_i hb
    refine ⟨mapWf_mapSet m a b h.1, fun x hx => ?_⟩
    rcases mem_mapSet m a b hx with rfl | hx
    · simpa using hb
    · exact h.2 x hx

/-- Writing bytes keeps the canonical form. -/
theorem Memory.wf_memWriteN (bs : Bytes) (m : List Host.Cell) (a : Nat) (h : Memory.wf m = true) :
    Memory.wf (memWriteN m a bs) = true := by
  induction bs generalizing m a with
  | nil => exact h
  | cons b bs ih => exact ih _ _ (Memory.wf_memWrite m a b h)

end Sys2Proof.Machine
end

