-- ==== Sys2Proof/Laws/State.lean ====
section
/-! SUPPORT. What each update of the state leaves alone, field by field, and what it sets. Every lemma is true by computation. -/

namespace Sys2Proof.Machine

open Sys2Proof

/-! `setReg` changes `regs` only. -/

@[simp] theorem setReg_pending (s : State) (a : Nat) (v : Word) : (setReg s a v).pending = s.pending := rfl
@[simp] theorem setReg_dev (s : State) (a : Nat) (v : Word) : (setReg s a v).dev = s.dev := rfl
@[simp] theorem setReg_hw (s : State) (a : Nat) (v : Word) : (setReg s a v).hw = s.hw := rfl
@[simp] theorem setReg_fw (s : State) (a : Nat) (v : Word) : (setReg s a v).fw = s.fw := rfl
@[simp] theorem setReg_flash (s : State) (a : Nat) (v : Word) : (setReg s a v).flash = s.flash := rfl
@[simp] theorem setReg_role (s : State) (a : Nat) (v : Word) : (setReg s a v).role = s.role := rfl
@[simp] theorem setReg_slices (s : State) (a : Nat) (v : Word) : (setReg s a v).slices = s.slices := rfl
@[simp] theorem setReg_mbx (s : State) (a : Nat) (v : Word) : (setReg s a v).mbx = s.mbx := rfl
@[simp] theorem setReg_mctp (s : State) (a : Nat) (v : Word) : (setReg s a v).mctp = s.mctp := rfl
@[simp] theorem setReg_ep0 (s : State) (a : Nat) (v : Word) : (setReg s a v).ep0 = s.ep0 := rfl
@[simp] theorem setReg_ep1 (s : State) (a : Nat) (v : Word) : (setReg s a v).ep1 = s.ep1 := rfl
@[simp] theorem setReg_rings (s : State) (a : Nat) (v : Word) : (setReg s a v).rings = s.rings := rfl
@[simp] theorem setReg_pkts (s : State) (a : Nat) (v : Word) : (setReg s a v).pkts = s.pkts := rfl
@[simp] theorem setReg_nextPid (s : State) (a : Nat) (v : Word) : (setReg s a v).nextPid = s.nextPid := rfl
@[simp] theorem setReg_basin (s : State) (a : Nat) (v : Word) : (setReg s a v).basin = s.basin := rfl
@[simp] theorem setReg_plane (s : State) (a : Nat) (v : Word) : (setReg s a v).plane = s.plane := rfl
@[simp] theorem setReg_rasp (s : State) (a : Nat) (v : Word) : (setReg s a v).rasp = s.rasp := rfl
@[simp] theorem setReg_jig (s : State) (a : Nat) (v : Word) : (setReg s a v).jig = s.jig := rfl
@[simp] theorem setReg_cst (s : State) (a : Nat) (v : Word) : (setReg s a v).cst = s.cst := rfl
@[simp] theorem setReg_sqr (s : State) (a : Nat) (v : Word) : (setReg s a v).sqr = s.sqr := rfl
@[simp] theorem setReg_act (s : State) (a : Nat) (v : Word) : (setReg s a v).act = s.act := rfl
@[simp] theorem setReg_csc (s : State) (a : Nat) (v : Word) : (setReg s a v).csc = s.csc := rfl
@[simp] theorem setReg_twin (s : State) (a : Nat) (v : Word) : (setReg s a v).twin = s.twin := rfl
@[simp] theorem setReg_prp (s : State) (a : Nat) (v : Word) : (setReg s a v).prp = s.prp := rfl
@[simp] theorem setReg_itw (s : State) (a : Nat) (v : Word) : (setReg s a v).itw = s.itw := rfl
@[simp] theorem setReg_cry (s : State) (a : Nat) (v : Word) : (setReg s a v).cry = s.cry := rfl
@[simp] theorem setReg_nvt (s : State) (a : Nat) (v : Word) : (setReg s a v).nvt = s.nvt := rfl
@[simp] theorem setReg_port0 (s : State) (a : Nat) (v : Word) : (setReg s a v).port0 = s.port0 := rfl
@[simp] theorem setReg_port1 (s : State) (a : Nat) (v : Word) : (setReg s a v).port1 = s.port1 := rfl
@[simp] theorem setReg_macs (s : State) (a : Nat) (v : Word) : (setReg s a v).macs = s.macs := rfl
@[simp] theorem setReg_weir (s : State) (a : Nat) (v : Word) : (setReg s a v).weir = s.weir := rfl
@[simp] theorem setReg_time (s : State) (a : Nat) (v : Word) : (setReg s a v).time = s.time := rfl
@[simp] theorem setReg_tio (s : State) (a : Nat) (v : Word) : (setReg s a v).tio = s.tio := rfl
@[simp] theorem setReg_plb (s : State) (a : Nat) (v : Word) : (setReg s a v).plb = s.plb := rfl
@[simp] theorem setReg_ptp (s : State) (a : Nat) (v : Word) : (setReg s a v).ptp = s.ptp := rfl
@[simp] theorem setReg_hbm (s : State) (a : Nat) (v : Word) : (setReg s a v).hbm = s.hbm := rfl
@[simp] theorem setReg_gauge (s : State) (a : Nat) (v : Word) : (setReg s a v).gauge = s.gauge := rfl
@[simp] theorem setReg_tap (s : State) (a : Nat) (v : Word) : (setReg s a v).tap = s.tap := rfl
@[simp] theorem setReg_latches (s : State) (a : Nat) (v : Word) : (setReg s a v).latches = s.latches := rfl
@[simp] theorem setReg_mem (s : State) (a : Nat) (v : Word) : (setReg s a v).mem = s.mem := rfl
@[simp] theorem setReg_out (s : State) (a : Nat) (v : Word) : (setReg s a v).out = s.out := rfl
@[simp] theorem setReg_fresh (s : State) (a : Nat) (v : Word) : (setReg s a v).fresh = s.fresh := rfl

/-! `emit` changes `out` only. -/

@[simp] theorem emit_pending (s : State) (o : Output) : (emit s o).pending = s.pending := rfl
@[simp] theorem emit_dev (s : State) (o : Output) : (emit s o).dev = s.dev := rfl
@[simp] theorem emit_hw (s : State) (o : Output) : (emit s o).hw = s.hw := rfl
@[simp] theorem emit_fw (s : State) (o : Output) : (emit s o).fw = s.fw := rfl
@[simp] theorem emit_flash (s : State) (o : Output) : (emit s o).flash = s.flash := rfl
@[simp] theorem emit_role (s : State) (o : Output) : (emit s o).role = s.role := rfl
@[simp] theorem emit_slices (s : State) (o : Output) : (emit s o).slices = s.slices := rfl
@[simp] theorem emit_mbx (s : State) (o : Output) : (emit s o).mbx = s.mbx := rfl
@[simp] theorem emit_mctp (s : State) (o : Output) : (emit s o).mctp = s.mctp := rfl
@[simp] theorem emit_ep0 (s : State) (o : Output) : (emit s o).ep0 = s.ep0 := rfl
@[simp] theorem emit_ep1 (s : State) (o : Output) : (emit s o).ep1 = s.ep1 := rfl
@[simp] theorem emit_rings (s : State) (o : Output) : (emit s o).rings = s.rings := rfl
@[simp] theorem emit_pkts (s : State) (o : Output) : (emit s o).pkts = s.pkts := rfl
@[simp] theorem emit_nextPid (s : State) (o : Output) : (emit s o).nextPid = s.nextPid := rfl
@[simp] theorem emit_basin (s : State) (o : Output) : (emit s o).basin = s.basin := rfl
@[simp] theorem emit_plane (s : State) (o : Output) : (emit s o).plane = s.plane := rfl
@[simp] theorem emit_rasp (s : State) (o : Output) : (emit s o).rasp = s.rasp := rfl
@[simp] theorem emit_jig (s : State) (o : Output) : (emit s o).jig = s.jig := rfl
@[simp] theorem emit_cst (s : State) (o : Output) : (emit s o).cst = s.cst := rfl
@[simp] theorem emit_sqr (s : State) (o : Output) : (emit s o).sqr = s.sqr := rfl
@[simp] theorem emit_act (s : State) (o : Output) : (emit s o).act = s.act := rfl
@[simp] theorem emit_csc (s : State) (o : Output) : (emit s o).csc = s.csc := rfl
@[simp] theorem emit_twin (s : State) (o : Output) : (emit s o).twin = s.twin := rfl
@[simp] theorem emit_prp (s : State) (o : Output) : (emit s o).prp = s.prp := rfl
@[simp] theorem emit_itw (s : State) (o : Output) : (emit s o).itw = s.itw := rfl
@[simp] theorem emit_cry (s : State) (o : Output) : (emit s o).cry = s.cry := rfl
@[simp] theorem emit_nvt (s : State) (o : Output) : (emit s o).nvt = s.nvt := rfl
@[simp] theorem emit_port0 (s : State) (o : Output) : (emit s o).port0 = s.port0 := rfl
@[simp] theorem emit_port1 (s : State) (o : Output) : (emit s o).port1 = s.port1 := rfl
@[simp] theorem emit_macs (s : State) (o : Output) : (emit s o).macs = s.macs := rfl
@[simp] theorem emit_weir (s : State) (o : Output) : (emit s o).weir = s.weir := rfl
@[simp] theorem emit_time (s : State) (o : Output) : (emit s o).time = s.time := rfl
@[simp] theorem emit_tio (s : State) (o : Output) : (emit s o).tio = s.tio := rfl
@[simp] theorem emit_plb (s : State) (o : Output) : (emit s o).plb = s.plb := rfl
@[simp] theorem emit_ptp (s : State) (o : Output) : (emit s o).ptp = s.ptp := rfl
@[simp] theorem emit_hbm (s : State) (o : Output) : (emit s o).hbm = s.hbm := rfl
@[simp] theorem emit_gauge (s : State) (o : Output) : (emit s o).gauge = s.gauge := rfl
@[simp] theorem emit_tap (s : State) (o : Output) : (emit s o).tap = s.tap := rfl
@[simp] theorem emit_regs (s : State) (o : Output) : (emit s o).regs = s.regs := rfl
@[simp] theorem emit_latches (s : State) (o : Output) : (emit s o).latches = s.latches := rfl
@[simp] theorem emit_mem (s : State) (o : Output) : (emit s o).mem = s.mem := rfl
@[simp] theorem emit_fresh (s : State) (o : Output) : (emit s o).fresh = s.fresh := rfl

/-! `drawn` changes `fresh` only. -/

@[simp] theorem drawn_pending (s : State) : (drawn s).pending = s.pending := rfl
@[simp] theorem drawn_dev (s : State) : (drawn s).dev = s.dev := rfl
@[simp] theorem drawn_hw (s : State) : (drawn s).hw = s.hw := rfl
@[simp] theorem drawn_fw (s : State) : (drawn s).fw = s.fw := rfl
@[simp] theorem drawn_flash (s : State) : (drawn s).flash = s.flash := rfl
@[simp] theorem drawn_role (s : State) : (drawn s).role = s.role := rfl
@[simp] theorem drawn_slices (s : State) : (drawn s).slices = s.slices := rfl
@[simp] theorem drawn_mbx (s : State) : (drawn s).mbx = s.mbx := rfl
@[simp] theorem drawn_mctp (s : State) : (drawn s).mctp = s.mctp := rfl
@[simp] theorem drawn_ep0 (s : State) : (drawn s).ep0 = s.ep0 := rfl
@[simp] theorem drawn_ep1 (s : State) : (drawn s).ep1 = s.ep1 := rfl
@[simp] theorem drawn_rings (s : State) : (drawn s).rings = s.rings := rfl
@[simp] theorem drawn_pkts (s : State) : (drawn s).pkts = s.pkts := rfl
@[simp] theorem drawn_nextPid (s : State) : (drawn s).nextPid = s.nextPid := rfl
@[simp] theorem drawn_basin (s : State) : (drawn s).basin = s.basin := rfl
@[simp] theorem drawn_plane (s : State) : (drawn s).plane = s.plane := rfl
@[simp] theorem drawn_rasp (s : State) : (drawn s).rasp = s.rasp := rfl
@[simp] theorem drawn_jig (s : State) : (drawn s).jig = s.jig := rfl
@[simp] theorem drawn_cst (s : State) : (drawn s).cst = s.cst := rfl
@[simp] theorem drawn_sqr (s : State) : (drawn s).sqr = s.sqr := rfl
@[simp] theorem drawn_act (s : State) : (drawn s).act = s.act := rfl
@[simp] theorem drawn_csc (s : State) : (drawn s).csc = s.csc := rfl
@[simp] theorem drawn_twin (s : State) : (drawn s).twin = s.twin := rfl
@[simp] theorem drawn_prp (s : State) : (drawn s).prp = s.prp := rfl
@[simp] theorem drawn_itw (s : State) : (drawn s).itw = s.itw := rfl
@[simp] theorem drawn_cry (s : State) : (drawn s).cry = s.cry := rfl
@[simp] theorem drawn_nvt (s : State) : (drawn s).nvt = s.nvt := rfl
@[simp] theorem drawn_port0 (s : State) : (drawn s).port0 = s.port0 := rfl
@[simp] theorem drawn_port1 (s : State) : (drawn s).port1 = s.port1 := rfl
@[simp] theorem drawn_macs (s : State) : (drawn s).macs = s.macs := rfl
@[simp] theorem drawn_weir (s : State) : (drawn s).weir = s.weir := rfl
@[simp] theorem drawn_time (s : State) : (drawn s).time = s.time := rfl
@[simp] theorem drawn_tio (s : State) : (drawn s).tio = s.tio := rfl
@[simp] theorem drawn_plb (s : State) : (drawn s).plb = s.plb := rfl
@[simp] theorem drawn_ptp (s : State) : (drawn s).ptp = s.ptp := rfl
@[simp] theorem drawn_hbm (s : State) : (drawn s).hbm = s.hbm := rfl
@[simp] theorem drawn_gauge (s : State) : (drawn s).gauge = s.gauge := rfl
@[simp] theorem drawn_tap (s : State) : (drawn s).tap = s.tap := rfl
@[simp] theorem drawn_regs (s : State) : (drawn s).regs = s.regs := rfl
@[simp] theorem drawn_latches (s : State) : (drawn s).latches = s.latches := rfl
@[simp] theorem drawn_mem (s : State) : (drawn s).mem = s.mem := rfl
@[simp] theorem drawn_out (s : State) : (drawn s).out = s.out := rfl

/-! `chanSet` changes `mbx` only. -/

@[simp] theorem chanSet_pending (s : State) (ch : Nat) (c : MbxChan) : (chanSet s ch c).pending = s.pending := rfl
@[simp] theorem chanSet_dev (s : State) (ch : Nat) (c : MbxChan) : (chanSet s ch c).dev = s.dev := rfl
@[simp] theorem chanSet_hw (s : State) (ch : Nat) (c : MbxChan) : (chanSet s ch c).hw = s.hw := rfl
@[simp] theorem chanSet_fw (s : State) (ch : Nat) (c : MbxChan) : (chanSet s ch c).fw = s.fw := rfl
@[simp] theorem chanSet_flash (s : State) (ch : Nat) (c : MbxChan) : (chanSet s ch c).flash = s.flash := rfl
@[simp] theorem chanSet_role (s : State) (ch : Nat) (c : MbxChan) : (chanSet s ch c).role = s.role := rfl
@[simp] theorem chanSet_slices (s : State) (ch : Nat) (c : MbxChan) : (chanSet s ch c).slices = s.slices := rfl
@[simp] theorem chanSet_mctp (s : State) (ch : Nat) (c : MbxChan) : (chanSet s ch c).mctp = s.mctp := rfl
@[simp] theorem chanSet_ep0 (s : State) (ch : Nat) (c : MbxChan) : (chanSet s ch c).ep0 = s.ep0 := rfl
@[simp] theorem chanSet_ep1 (s : State) (ch : Nat) (c : MbxChan) : (chanSet s ch c).ep1 = s.ep1 := rfl
@[simp] theorem chanSet_rings (s : State) (ch : Nat) (c : MbxChan) : (chanSet s ch c).rings = s.rings := rfl
@[simp] theorem chanSet_pkts (s : State) (ch : Nat) (c : MbxChan) : (chanSet s ch c).pkts = s.pkts := rfl
@[simp] theorem chanSet_nextPid (s : State) (ch : Nat) (c : MbxChan) : (chanSet s ch c).nextPid = s.nextPid := rfl
@[simp] theorem chanSet_basin (s : State) (ch : Nat) (c : MbxChan) : (chanSet s ch c).basin = s.basin := rfl
@[simp] theorem chanSet_plane (s : State) (ch : Nat) (c : MbxChan) : (chanSet s ch c).plane = s.plane := rfl
@[simp] theorem chanSet_rasp (s : State) (ch : Nat) (c : MbxChan) : (chanSet s ch c).rasp = s.rasp := rfl
@[simp] theorem chanSet_jig (s : State) (ch : Nat) (c : MbxChan) : (chanSet s ch c).jig = s.jig := rfl
@[simp] theorem chanSet_cst (s : State) (ch : Nat) (c : MbxChan) : (chanSet s ch c).cst = s.cst := rfl
@[simp] theorem chanSet_sqr (s : State) (ch : Nat) (c : MbxChan) : (chanSet s ch c).sqr = s.sqr := rfl
@[simp] theorem chanSet_act (s : State) (ch : Nat) (c : MbxChan) : (chanSet s ch c).act = s.act := rfl
@[simp] theorem chanSet_csc (s : State) (ch : Nat) (c : MbxChan) : (chanSet s ch c).csc = s.csc := rfl
@[simp] theorem chanSet_twin (s : State) (ch : Nat) (c : MbxChan) : (chanSet s ch c).twin = s.twin := rfl
@[simp] theorem chanSet_prp (s : State) (ch : Nat) (c : MbxChan) : (chanSet s ch c).prp = s.prp := rfl
@[simp] theorem chanSet_itw (s : State) (ch : Nat) (c : MbxChan) : (chanSet s ch c).itw = s.itw := rfl
@[simp] theorem chanSet_cry (s : State) (ch : Nat) (c : MbxChan) : (chanSet s ch c).cry = s.cry := rfl
@[simp] theorem chanSet_nvt (s : State) (ch : Nat) (c : MbxChan) : (chanSet s ch c).nvt = s.nvt := rfl
@[simp] theorem chanSet_port0 (s : State) (ch : Nat) (c : MbxChan) : (chanSet s ch c).port0 = s.port0 := rfl
@[simp] theorem chanSet_port1 (s : State) (ch : Nat) (c : MbxChan) : (chanSet s ch c).port1 = s.port1 := rfl
@[simp] theorem chanSet_macs (s : State) (ch : Nat) (c : MbxChan) : (chanSet s ch c).macs = s.macs := rfl
@[simp] theorem chanSet_weir (s : State) (ch : Nat) (c : MbxChan) : (chanSet s ch c).weir = s.weir := rfl
@[simp] theorem chanSet_time (s : State) (ch : Nat) (c : MbxChan) : (chanSet s ch c).time = s.time := rfl
@[simp] theorem chanSet_tio (s : State) (ch : Nat) (c : MbxChan) : (chanSet s ch c).tio = s.tio := rfl
@[simp] theorem chanSet_plb (s : State) (ch : Nat) (c : MbxChan) : (chanSet s ch c).plb = s.plb := rfl
@[simp] theorem chanSet_ptp (s : State) (ch : Nat) (c : MbxChan) : (chanSet s ch c).ptp = s.ptp := rfl
@[simp] theorem chanSet_hbm (s : State) (ch : Nat) (c : MbxChan) : (chanSet s ch c).hbm = s.hbm := rfl
@[simp] theorem chanSet_gauge (s : State) (ch : Nat) (c : MbxChan) : (chanSet s ch c).gauge = s.gauge := rfl
@[simp] theorem chanSet_tap (s : State) (ch : Nat) (c : MbxChan) : (chanSet s ch c).tap = s.tap := rfl
@[simp] theorem chanSet_regs (s : State) (ch : Nat) (c : MbxChan) : (chanSet s ch c).regs = s.regs := rfl
@[simp] theorem chanSet_latches (s : State) (ch : Nat) (c : MbxChan) : (chanSet s ch c).latches = s.latches := rfl
@[simp] theorem chanSet_mem (s : State) (ch : Nat) (c : MbxChan) : (chanSet s ch c).mem = s.mem := rfl
@[simp] theorem chanSet_out (s : State) (ch : Nat) (c : MbxChan) : (chanSet s ch c).out = s.out := rfl
@[simp] theorem chanSet_fresh (s : State) (ch : Nat) (c : MbxChan) : (chanSet s ch c).fresh = s.fresh := rfl

/-! `sliceMod` changes `slices` only. -/

@[simp] theorem sliceMod_pending (s : State) (n : Nat) (g : Slice → Slice) : (sliceMod s n g).pending = s.pending := rfl
@[simp] theorem sliceMod_dev (s : State) (n : Nat) (g : Slice → Slice) : (sliceMod s n g).dev = s.dev := rfl
@[simp] theorem sliceMod_hw (s : State) (n : Nat) (g : Slice → Slice) : (sliceMod s n g).hw = s.hw := rfl
@[simp] theorem sliceMod_fw (s : State) (n : Nat) (g : Slice → Slice) : (sliceMod s n g).fw = s.fw := rfl
@[simp] theorem sliceMod_flash (s : State) (n : Nat) (g : Slice → Slice) : (sliceMod s n g).flash = s.flash := rfl
@[simp] theorem sliceMod_role (s : State) (n : Nat) (g : Slice → Slice) : (sliceMod s n g).role = s.role := rfl
@[simp] theorem sliceMod_mbx (s : State) (n : Nat) (g : Slice → Slice) : (sliceMod s n g).mbx = s.mbx := rfl
@[simp] theorem sliceMod_mctp (s : State) (n : Nat) (g : Slice → Slice) : (sliceMod s n g).mctp = s.mctp := rfl
@[simp] theorem sliceMod_ep0 (s : State) (n : Nat) (g : Slice → Slice) : (sliceMod s n g).ep0 = s.ep0 := rfl
@[simp] theorem sliceMod_ep1 (s : State) (n : Nat) (g : Slice → Slice) : (sliceMod s n g).ep1 = s.ep1 := rfl
@[simp] theorem sliceMod_rings (s : State) (n : Nat) (g : Slice → Slice) : (sliceMod s n g).rings = s.rings := rfl
@[simp] theorem sliceMod_pkts (s : State) (n : Nat) (g : Slice → Slice) : (sliceMod s n g).pkts = s.pkts := rfl
@[simp] theorem sliceMod_nextPid (s : State) (n : Nat) (g : Slice → Slice) : (sliceMod s n g).nextPid = s.nextPid := rfl
@[simp] theorem sliceMod_basin (s : State) (n : Nat) (g : Slice → Slice) : (sliceMod s n g).basin = s.basin := rfl
@[simp] theorem sliceMod_plane (s : State) (n : Nat) (g : Slice → Slice) : (sliceMod s n g).plane = s.plane := rfl
@[simp] theorem sliceMod_rasp (s : State) (n : Nat) (g : Slice → Slice) : (sliceMod s n g).rasp = s.rasp := rfl
@[simp] theorem sliceMod_jig (s : State) (n : Nat) (g : Slice → Slice) : (sliceMod s n g).jig = s.jig := rfl
@[simp] theorem sliceMod_cst (s : State) (n : Nat) (g : Slice → Slice) : (sliceMod s n g).cst = s.cst := rfl
@[simp] theorem sliceMod_sqr (s : State) (n : Nat) (g : Slice → Slice) : (sliceMod s n g).sqr = s.sqr := rfl
@[simp] theorem sliceMod_act (s : State) (n : Nat) (g : Slice → Slice) : (sliceMod s n g).act = s.act := rfl
@[simp] theorem sliceMod_csc (s : State) (n : Nat) (g : Slice → Slice) : (sliceMod s n g).csc = s.csc := rfl
@[simp] theorem sliceMod_twin (s : State) (n : Nat) (g : Slice → Slice) : (sliceMod s n g).twin = s.twin := rfl
@[simp] theorem sliceMod_prp (s : State) (n : Nat) (g : Slice → Slice) : (sliceMod s n g).prp = s.prp := rfl
@[simp] theorem sliceMod_itw (s : State) (n : Nat) (g : Slice → Slice) : (sliceMod s n g).itw = s.itw := rfl
@[simp] theorem sliceMod_cry (s : State) (n : Nat) (g : Slice → Slice) : (sliceMod s n g).cry = s.cry := rfl
@[simp] theorem sliceMod_nvt (s : State) (n : Nat) (g : Slice → Slice) : (sliceMod s n g).nvt = s.nvt := rfl
@[simp] theorem sliceMod_port0 (s : State) (n : Nat) (g : Slice → Slice) : (sliceMod s n g).port0 = s.port0 := rfl
@[simp] theorem sliceMod_port1 (s : State) (n : Nat) (g : Slice → Slice) : (sliceMod s n g).port1 = s.port1 := rfl
@[simp] theorem sliceMod_macs (s : State) (n : Nat) (g : Slice → Slice) : (sliceMod s n g).macs = s.macs := rfl
@[simp] theorem sliceMod_weir (s : State) (n : Nat) (g : Slice → Slice) : (sliceMod s n g).weir = s.weir := rfl
@[simp] theorem sliceMod_time (s : State) (n : Nat) (g : Slice → Slice) : (sliceMod s n g).time = s.time := rfl
@[simp] theorem sliceMod_tio (s : State) (n : Nat) (g : Slice → Slice) : (sliceMod s n g).tio = s.tio := rfl
@[simp] theorem sliceMod_plb (s : State) (n : Nat) (g : Slice → Slice) : (sliceMod s n g).plb = s.plb := rfl
@[simp] theorem sliceMod_ptp (s : State) (n : Nat) (g : Slice → Slice) : (sliceMod s n g).ptp = s.ptp := rfl
@[simp] theorem sliceMod_hbm (s : State) (n : Nat) (g : Slice → Slice) : (sliceMod s n g).hbm = s.hbm := rfl
@[simp] theorem sliceMod_gauge (s : State) (n : Nat) (g : Slice → Slice) : (sliceMod s n g).gauge = s.gauge := rfl
@[simp] theorem sliceMod_tap (s : State) (n : Nat) (g : Slice → Slice) : (sliceMod s n g).tap = s.tap := rfl
@[simp] theorem sliceMod_regs (s : State) (n : Nat) (g : Slice → Slice) : (sliceMod s n g).regs = s.regs := rfl
@[simp] theorem sliceMod_latches (s : State) (n : Nat) (g : Slice → Slice) : (sliceMod s n g).latches = s.latches := rfl
@[simp] theorem sliceMod_mem (s : State) (n : Nat) (g : Slice → Slice) : (sliceMod s n g).mem = s.mem := rfl
@[simp] theorem sliceMod_out (s : State) (n : Nat) (g : Slice → Slice) : (sliceMod s n g).out = s.out := rfl
@[simp] theorem sliceMod_fresh (s : State) (n : Nat) (g : Slice → Slice) : (sliceMod s n g).fresh = s.fresh := rfl

/-! `qpSet` changes `rings` only. -/

@[simp] theorem qpSet_pending (s : State) (ep n : Nat) (q : QPair) : (qpSet s ep n q).pending = s.pending := rfl
@[simp] theorem qpSet_dev (s : State) (ep n : Nat) (q : QPair) : (qpSet s ep n q).dev = s.dev := rfl
@[simp] theorem qpSet_hw (s : State) (ep n : Nat) (q : QPair) : (qpSet s ep n q).hw = s.hw := rfl
@[simp] theorem qpSet_fw (s : State) (ep n : Nat) (q : QPair) : (qpSet s ep n q).fw = s.fw := rfl
@[simp] theorem qpSet_flash (s : State) (ep n : Nat) (q : QPair) : (qpSet s ep n q).flash = s.flash := rfl
@[simp] theorem qpSet_role (s : State) (ep n : Nat) (q : QPair) : (qpSet s ep n q).role = s.role := rfl
@[simp] theorem qpSet_slices (s : State) (ep n : Nat) (q : QPair) : (qpSet s ep n q).slices = s.slices := rfl
@[simp] theorem qpSet_mbx (s : State) (ep n : Nat) (q : QPair) : (qpSet s ep n q).mbx = s.mbx := rfl
@[simp] theorem qpSet_mctp (s : State) (ep n : Nat) (q : QPair) : (qpSet s ep n q).mctp = s.mctp := rfl
@[simp] theorem qpSet_ep0 (s : State) (ep n : Nat) (q : QPair) : (qpSet s ep n q).ep0 = s.ep0 := rfl
@[simp] theorem qpSet_ep1 (s : State) (ep n : Nat) (q : QPair) : (qpSet s ep n q).ep1 = s.ep1 := rfl
@[simp] theorem qpSet_pkts (s : State) (ep n : Nat) (q : QPair) : (qpSet s ep n q).pkts = s.pkts := rfl
@[simp] theorem qpSet_nextPid (s : State) (ep n : Nat) (q : QPair) : (qpSet s ep n q).nextPid = s.nextPid := rfl
@[simp] theorem qpSet_basin (s : State) (ep n : Nat) (q : QPair) : (qpSet s ep n q).basin = s.basin := rfl
@[simp] theorem qpSet_plane (s : State) (ep n : Nat) (q : QPair) : (qpSet s ep n q).plane = s.plane := rfl
@[simp] theorem qpSet_rasp (s : State) (ep n : Nat) (q : QPair) : (qpSet s ep n q).rasp = s.rasp := rfl
@[simp] theorem qpSet_jig (s : State) (ep n : Nat) (q : QPair) : (qpSet s ep n q).jig = s.jig := rfl
@[simp] theorem qpSet_cst (s : State) (ep n : Nat) (q : QPair) : (qpSet s ep n q).cst = s.cst := rfl
@[simp] theorem qpSet_sqr (s : State) (ep n : Nat) (q : QPair) : (qpSet s ep n q).sqr = s.sqr := rfl
@[simp] theorem qpSet_act (s : State) (ep n : Nat) (q : QPair) : (qpSet s ep n q).act = s.act := rfl
@[simp] theorem qpSet_csc (s : State) (ep n : Nat) (q : QPair) : (qpSet s ep n q).csc = s.csc := rfl
@[simp] theorem qpSet_twin (s : State) (ep n : Nat) (q : QPair) : (qpSet s ep n q).twin = s.twin := rfl
@[simp] theorem qpSet_prp (s : State) (ep n : Nat) (q : QPair) : (qpSet s ep n q).prp = s.prp := rfl
@[simp] theorem qpSet_itw (s : State) (ep n : Nat) (q : QPair) : (qpSet s ep n q).itw = s.itw := rfl
@[simp] theorem qpSet_cry (s : State) (ep n : Nat) (q : QPair) : (qpSet s ep n q).cry = s.cry := rfl
@[simp] theorem qpSet_nvt (s : State) (ep n : Nat) (q : QPair) : (qpSet s ep n q).nvt = s.nvt := rfl
@[simp] theorem qpSet_port0 (s : State) (ep n : Nat) (q : QPair) : (qpSet s ep n q).port0 = s.port0 := rfl
@[simp] theorem qpSet_port1 (s : State) (ep n : Nat) (q : QPair) : (qpSet s ep n q).port1 = s.port1 := rfl
@[simp] theorem qpSet_macs (s : State) (ep n : Nat) (q : QPair) : (qpSet s ep n q).macs = s.macs := rfl
@[simp] theorem qpSet_weir (s : State) (ep n : Nat) (q : QPair) : (qpSet s ep n q).weir = s.weir := rfl
@[simp] theorem qpSet_time (s : State) (ep n : Nat) (q : QPair) : (qpSet s ep n q).time = s.time := rfl
@[simp] theorem qpSet_tio (s : State) (ep n : Nat) (q : QPair) : (qpSet s ep n q).tio = s.tio := rfl
@[simp] theorem qpSet_plb (s : State) (ep n : Nat) (q : QPair) : (qpSet s ep n q).plb = s.plb := rfl
@[simp] theorem qpSet_ptp (s : State) (ep n : Nat) (q : QPair) : (qpSet s ep n q).ptp = s.ptp := rfl
@[simp] theorem qpSet_hbm (s : State) (ep n : Nat) (q : QPair) : (qpSet s ep n q).hbm = s.hbm := rfl
@[simp] theorem qpSet_gauge (s : State) (ep n : Nat) (q : QPair) : (qpSet s ep n q).gauge = s.gauge := rfl
@[simp] theorem qpSet_tap (s : State) (ep n : Nat) (q : QPair) : (qpSet s ep n q).tap = s.tap := rfl
@[simp] theorem qpSet_regs (s : State) (ep n : Nat) (q : QPair) : (qpSet s ep n q).regs = s.regs := rfl
@[simp] theorem qpSet_latches (s : State) (ep n : Nat) (q : QPair) : (qpSet s ep n q).latches = s.latches := rfl
@[simp] theorem qpSet_mem (s : State) (ep n : Nat) (q : QPair) : (qpSet s ep n q).mem = s.mem := rfl
@[simp] theorem qpSet_out (s : State) (ep n : Nat) (q : QPair) : (qpSet s ep n q).out = s.out := rfl
@[simp] theorem qpSet_fresh (s : State) (ep n : Nat) (q : QPair) : (qpSet s ep n q).fresh = s.fresh := rfl

/-! `macSet` changes `macs` only. -/

@[simp] theorem macSet_pending (s : State) (m : Nat) (x : MacState) : (macSet s m x).pending = s.pending := rfl
@[simp] theorem macSet_dev (s : State) (m : Nat) (x : MacState) : (macSet s m x).dev = s.dev := rfl
@[simp] theorem macSet_hw (s : State) (m : Nat) (x : MacState) : (macSet s m x).hw = s.hw := rfl
@[simp] theorem macSet_fw (s : State) (m : Nat) (x : MacState) : (macSet s m x).fw = s.fw := rfl
@[simp] theorem macSet_flash (s : State) (m : Nat) (x : MacState) : (macSet s m x).flash = s.flash := rfl
@[simp] theorem macSet_role (s : State) (m : Nat) (x : MacState) : (macSet s m x).role = s.role := rfl
@[simp] theorem macSet_slices (s : State) (m : Nat) (x : MacState) : (macSet s m x).slices = s.slices := rfl
@[simp] theorem macSet_mbx (s : State) (m : Nat) (x : MacState) : (macSet s m x).mbx = s.mbx := rfl
@[simp] theorem macSet_mctp (s : State) (m : Nat) (x : MacState) : (macSet s m x).mctp = s.mctp := rfl
@[simp] theorem macSet_ep0 (s : State) (m : Nat) (x : MacState) : (macSet s m x).ep0 = s.ep0 := rfl
@[simp] theorem macSet_ep1 (s : State) (m : Nat) (x : MacState) : (macSet s m x).ep1 = s.ep1 := rfl
@[simp] theorem macSet_rings (s : State) (m : Nat) (x : MacState) : (macSet s m x).rings = s.rings := rfl
@[simp] theorem macSet_pkts (s : State) (m : Nat) (x : MacState) : (macSet s m x).pkts = s.pkts := rfl
@[simp] theorem macSet_nextPid (s : State) (m : Nat) (x : MacState) : (macSet s m x).nextPid = s.nextPid := rfl
@[simp] theorem macSet_basin (s : State) (m : Nat) (x : MacState) : (macSet s m x).basin = s.basin := rfl
@[simp] theorem macSet_plane (s : State) (m : Nat) (x : MacState) : (macSet s m x).plane = s.plane := rfl
@[simp] theorem macSet_rasp (s : State) (m : Nat) (x : MacState) : (macSet s m x).rasp = s.rasp := rfl
@[simp] theorem macSet_jig (s : State) (m : Nat) (x : MacState) : (macSet s m x).jig = s.jig := rfl
@[simp] theorem macSet_cst (s : State) (m : Nat) (x : MacState) : (macSet s m x).cst = s.cst := rfl
@[simp] theorem macSet_sqr (s : State) (m : Nat) (x : MacState) : (macSet s m x).sqr = s.sqr := rfl
@[simp] theorem macSet_act (s : State) (m : Nat) (x : MacState) : (macSet s m x).act = s.act := rfl
@[simp] theorem macSet_csc (s : State) (m : Nat) (x : MacState) : (macSet s m x).csc = s.csc := rfl
@[simp] theorem macSet_twin (s : State) (m : Nat) (x : MacState) : (macSet s m x).twin = s.twin := rfl
@[simp] theorem macSet_prp (s : State) (m : Nat) (x : MacState) : (macSet s m x).prp = s.prp := rfl
@[simp] theorem macSet_itw (s : State) (m : Nat) (x : MacState) : (macSet s m x).itw = s.itw := rfl
@[simp] theorem macSet_cry (s : State) (m : Nat) (x : MacState) : (macSet s m x).cry = s.cry := rfl
@[simp] theorem macSet_nvt (s : State) (m : Nat) (x : MacState) : (macSet s m x).nvt = s.nvt := rfl
@[simp] theorem macSet_port0 (s : State) (m : Nat) (x : MacState) : (macSet s m x).port0 = s.port0 := rfl
@[simp] theorem macSet_port1 (s : State) (m : Nat) (x : MacState) : (macSet s m x).port1 = s.port1 := rfl
@[simp] theorem macSet_weir (s : State) (m : Nat) (x : MacState) : (macSet s m x).weir = s.weir := rfl
@[simp] theorem macSet_time (s : State) (m : Nat) (x : MacState) : (macSet s m x).time = s.time := rfl
@[simp] theorem macSet_tio (s : State) (m : Nat) (x : MacState) : (macSet s m x).tio = s.tio := rfl
@[simp] theorem macSet_plb (s : State) (m : Nat) (x : MacState) : (macSet s m x).plb = s.plb := rfl
@[simp] theorem macSet_ptp (s : State) (m : Nat) (x : MacState) : (macSet s m x).ptp = s.ptp := rfl
@[simp] theorem macSet_hbm (s : State) (m : Nat) (x : MacState) : (macSet s m x).hbm = s.hbm := rfl
@[simp] theorem macSet_gauge (s : State) (m : Nat) (x : MacState) : (macSet s m x).gauge = s.gauge := rfl
@[simp] theorem macSet_tap (s : State) (m : Nat) (x : MacState) : (macSet s m x).tap = s.tap := rfl
@[simp] theorem macSet_regs (s : State) (m : Nat) (x : MacState) : (macSet s m x).regs = s.regs := rfl
@[simp] theorem macSet_latches (s : State) (m : Nat) (x : MacState) : (macSet s m x).latches = s.latches := rfl
@[simp] theorem macSet_mem (s : State) (m : Nat) (x : MacState) : (macSet s m x).mem = s.mem := rfl
@[simp] theorem macSet_out (s : State) (m : Nat) (x : MacState) : (macSet s m x).out = s.out := rfl
@[simp] theorem macSet_fresh (s : State) (m : Nat) (x : MacState) : (macSet s m x).fresh = s.fresh := rfl

/-! `pktSet` changes `pkts` only. -/

@[simp] theorem pktSet_pending (s : State) (p : Nat) (k : Pkt) : (pktSet s p k).pending = s.pending := rfl
@[simp] theorem pktSet_dev (s : State) (p : Nat) (k : Pkt) : (pktSet s p k).dev = s.dev := rfl
@[simp] theorem pktSet_hw (s : State) (p : Nat) (k : Pkt) : (pktSet s p k).hw = s.hw := rfl
@[simp] theorem pktSet_fw (s : State) (p : Nat) (k : Pkt) : (pktSet s p k).fw = s.fw := rfl
@[simp] theorem pktSet_flash (s : State) (p : Nat) (k : Pkt) : (pktSet s p k).flash = s.flash := rfl
@[simp] theorem pktSet_role (s : State) (p : Nat) (k : Pkt) : (pktSet s p k).role = s.role := rfl
@[simp] theorem pktSet_slices (s : State) (p : Nat) (k : Pkt) : (pktSet s p k).slices = s.slices := rfl
@[simp] theorem pktSet_mbx (s : State) (p : Nat) (k : Pkt) : (pktSet s p k).mbx = s.mbx := rfl
@[simp] theorem pktSet_mctp (s : State) (p : Nat) (k : Pkt) : (pktSet s p k).mctp = s.mctp := rfl
@[simp] theorem pktSet_ep0 (s : State) (p : Nat) (k : Pkt) : (pktSet s p k).ep0 = s.ep0 := rfl
@[simp] theorem pktSet_ep1 (s : State) (p : Nat) (k : Pkt) : (pktSet s p k).ep1 = s.ep1 := rfl
@[simp] theorem pktSet_rings (s : State) (p : Nat) (k : Pkt) : (pktSet s p k).rings = s.rings := rfl
@[simp] theorem pktSet_nextPid (s : State) (p : Nat) (k : Pkt) : (pktSet s p k).nextPid = s.nextPid := rfl
@[simp] theorem pktSet_basin (s : State) (p : Nat) (k : Pkt) : (pktSet s p k).basin = s.basin := rfl
@[simp] theorem pktSet_plane (s : State) (p : Nat) (k : Pkt) : (pktSet s p k).plane = s.plane := rfl
@[simp] theorem pktSet_rasp (s : State) (p : Nat) (k : Pkt) : (pktSet s p k).rasp = s.rasp := rfl
@[simp] theorem pktSet_jig (s : State) (p : Nat) (k : Pkt) : (pktSet s p k).jig = s.jig := rfl
@[simp] theorem pktSet_cst (s : State) (p : Nat) (k : Pkt) : (pktSet s p k).cst = s.cst := rfl
@[simp] theorem pktSet_sqr (s : State) (p : Nat) (k : Pkt) : (pktSet s p k).sqr = s.sqr := rfl
@[simp] theorem pktSet_act (s : State) (p : Nat) (k : Pkt) : (pktSet s p k).act = s.act := rfl
@[simp] theorem pktSet_csc (s : State) (p : Nat) (k : Pkt) : (pktSet s p k).csc = s.csc := rfl
@[simp] theorem pktSet_twin (s : State) (p : Nat) (k : Pkt) : (pktSet s p k).twin = s.twin := rfl
@[simp] theorem pktSet_prp (s : State) (p : Nat) (k : Pkt) : (pktSet s p k).prp = s.prp := rfl
@[simp] theorem pktSet_itw (s : State) (p : Nat) (k : Pkt) : (pktSet s p k).itw = s.itw := rfl
@[simp] theorem pktSet_cry (s : State) (p : Nat) (k : Pkt) : (pktSet s p k).cry = s.cry := rfl
@[simp] theorem pktSet_nvt (s : State) (p : Nat) (k : Pkt) : (pktSet s p k).nvt = s.nvt := rfl
@[simp] theorem pktSet_port0 (s : State) (p : Nat) (k : Pkt) : (pktSet s p k).port0 = s.port0 := rfl
@[simp] theorem pktSet_port1 (s : State) (p : Nat) (k : Pkt) : (pktSet s p k).port1 = s.port1 := rfl
@[simp] theorem pktSet_macs (s : State) (p : Nat) (k : Pkt) : (pktSet s p k).macs = s.macs := rfl
@[simp] theorem pktSet_weir (s : State) (p : Nat) (k : Pkt) : (pktSet s p k).weir = s.weir := rfl
@[simp] theorem pktSet_time (s : State) (p : Nat) (k : Pkt) : (pktSet s p k).time = s.time := rfl
@[simp] theorem pktSet_tio (s : State) (p : Nat) (k : Pkt) : (pktSet s p k).tio = s.tio := rfl
@[simp] theorem pktSet_plb (s : State) (p : Nat) (k : Pkt) : (pktSet s p k).plb = s.plb := rfl
@[simp] theorem pktSet_ptp (s : State) (p : Nat) (k : Pkt) : (pktSet s p k).ptp = s.ptp := rfl
@[simp] theorem pktSet_hbm (s : State) (p : Nat) (k : Pkt) : (pktSet s p k).hbm = s.hbm := rfl
@[simp] theorem pktSet_gauge (s : State) (p : Nat) (k : Pkt) : (pktSet s p k).gauge = s.gauge := rfl
@[simp] theorem pktSet_tap (s : State) (p : Nat) (k : Pkt) : (pktSet s p k).tap = s.tap := rfl
@[simp] theorem pktSet_regs (s : State) (p : Nat) (k : Pkt) : (pktSet s p k).regs = s.regs := rfl
@[simp] theorem pktSet_latches (s : State) (p : Nat) (k : Pkt) : (pktSet s p k).latches = s.latches := rfl
@[simp] theorem pktSet_mem (s : State) (p : Nat) (k : Pkt) : (pktSet s p k).mem = s.mem := rfl
@[simp] theorem pktSet_out (s : State) (p : Nat) (k : Pkt) : (pktSet s p k).out = s.out := rfl
@[simp] theorem pktSet_fresh (s : State) (p : Nat) (k : Pkt) : (pktSet s p k).fresh = s.fresh := rfl

/-! `pktMod` changes `pkts` only. -/

@[simp] theorem pktMod_pending (s : State) (p : Nat) (g : Pkt → Pkt) : (pktMod s p g).pending = s.pending := rfl
@[simp] theorem pktMod_dev (s : State) (p : Nat) (g : Pkt → Pkt) : (pktMod s p g).dev = s.dev := rfl
@[simp] theorem pktMod_hw (s : State) (p : Nat) (g : Pkt → Pkt) : (pktMod s p g).hw = s.hw := rfl
@[simp] theorem pktMod_fw (s : State) (p : Nat) (g : Pkt → Pkt) : (pktMod s p g).fw = s.fw := rfl
@[simp] theorem pktMod_flash (s : State) (p : Nat) (g : Pkt → Pkt) : (pktMod s p g).flash = s.flash := rfl
@[simp] theorem pktMod_role (s : State) (p : Nat) (g : Pkt → Pkt) : (pktMod s p g).role = s.role := rfl
@[simp] theorem pktMod_slices (s : State) (p : Nat) (g : Pkt → Pkt) : (pktMod s p g).slices = s.slices := rfl
@[simp] theorem pktMod_mbx (s : State) (p : Nat) (g : Pkt → Pkt) : (pktMod s p g).mbx = s.mbx := rfl
@[simp] theorem pktMod_mctp (s : State) (p : Nat) (g : Pkt → Pkt) : (pktMod s p g).mctp = s.mctp := rfl
@[simp] theorem pktMod_ep0 (s : State) (p : Nat) (g : Pkt → Pkt) : (pktMod s p g).ep0 = s.ep0 := rfl
@[simp] theorem pktMod_ep1 (s : State) (p : Nat) (g : Pkt → Pkt) : (pktMod s p g).ep1 = s.ep1 := rfl
@[simp] theorem pktMod_rings (s : State) (p : Nat) (g : Pkt → Pkt) : (pktMod s p g).rings = s.rings := rfl
@[simp] theorem pktMod_nextPid (s : State) (p : Nat) (g : Pkt → Pkt) : (pktMod s p g).nextPid = s.nextPid := rfl
@[simp] theorem pktMod_basin (s : State) (p : Nat) (g : Pkt → Pkt) : (pktMod s p g).basin = s.basin := rfl
@[simp] theorem pktMod_plane (s : State) (p : Nat) (g : Pkt → Pkt) : (pktMod s p g).plane = s.plane := rfl
@[simp] theorem pktMod_rasp (s : State) (p : Nat) (g : Pkt → Pkt) : (pktMod s p g).rasp = s.rasp := rfl
@[simp] theorem pktMod_jig (s : State) (p : Nat) (g : Pkt → Pkt) : (pktMod s p g).jig = s.jig := rfl
@[simp] theorem pktMod_cst (s : State) (p : Nat) (g : Pkt → Pkt) : (pktMod s p g).cst = s.cst := rfl
@[simp] theorem pktMod_sqr (s : State) (p : Nat) (g : Pkt → Pkt) : (pktMod s p g).sqr = s.sqr := rfl
@[simp] theorem pktMod_act (s : State) (p : Nat) (g : Pkt → Pkt) : (pktMod s p g).act = s.act := rfl
@[simp] theorem pktMod_csc (s : State) (p : Nat) (g : Pkt → Pkt) : (pktMod s p g).csc = s.csc := rfl
@[simp] theorem pktMod_twin (s : State) (p : Nat) (g : Pkt → Pkt) : (pktMod s p g).twin = s.twin := rfl
@[simp] theorem pktMod_prp (s : State) (p : Nat) (g : Pkt → Pkt) : (pktMod s p g).prp = s.prp := rfl
@[simp] theorem pktMod_itw (s : State) (p : Nat) (g : Pkt → Pkt) : (pktMod s p g).itw = s.itw := rfl
@[simp] theorem pktMod_cry (s : State) (p : Nat) (g : Pkt → Pkt) : (pktMod s p g).cry = s.cry := rfl
@[simp] theorem pktMod_nvt (s : State) (p : Nat) (g : Pkt → Pkt) : (pktMod s p g).nvt = s.nvt := rfl
@[simp] theorem pktMod_port0 (s : State) (p : Nat) (g : Pkt → Pkt) : (pktMod s p g).port0 = s.port0 := rfl
@[simp] theorem pktMod_port1 (s : State) (p : Nat) (g : Pkt → Pkt) : (pktMod s p g).port1 = s.port1 := rfl
@[simp] theorem pktMod_macs (s : State) (p : Nat) (g : Pkt → Pkt) : (pktMod s p g).macs = s.macs := rfl
@[simp] theorem pktMod_weir (s : State) (p : Nat) (g : Pkt → Pkt) : (pktMod s p g).weir = s.weir := rfl
@[simp] theorem pktMod_time (s : State) (p : Nat) (g : Pkt → Pkt) : (pktMod s p g).time = s.time := rfl
@[simp] theorem pktMod_tio (s : State) (p : Nat) (g : Pkt → Pkt) : (pktMod s p g).tio = s.tio := rfl
@[simp] theorem pktMod_plb (s : State) (p : Nat) (g : Pkt → Pkt) : (pktMod s p g).plb = s.plb := rfl
@[simp] theorem pktMod_ptp (s : State) (p : Nat) (g : Pkt → Pkt) : (pktMod s p g).ptp = s.ptp := rfl
@[simp] theorem pktMod_hbm (s : State) (p : Nat) (g : Pkt → Pkt) : (pktMod s p g).hbm = s.hbm := rfl
@[simp] theorem pktMod_gauge (s : State) (p : Nat) (g : Pkt → Pkt) : (pktMod s p g).gauge = s.gauge := rfl
@[simp] theorem pktMod_tap (s : State) (p : Nat) (g : Pkt → Pkt) : (pktMod s p g).tap = s.tap := rfl
@[simp] theorem pktMod_regs (s : State) (p : Nat) (g : Pkt → Pkt) : (pktMod s p g).regs = s.regs := rfl
@[simp] theorem pktMod_latches (s : State) (p : Nat) (g : Pkt → Pkt) : (pktMod s p g).latches = s.latches := rfl
@[simp] theorem pktMod_mem (s : State) (p : Nat) (g : Pkt → Pkt) : (pktMod s p g).mem = s.mem := rfl
@[simp] theorem pktMod_out (s : State) (p : Nat) (g : Pkt → Pkt) : (pktMod s p g).out = s.out := rfl
@[simp] theorem pktMod_fresh (s : State) (p : Nat) (g : Pkt → Pkt) : (pktMod s p g).fresh = s.fresh := rfl

/-! `pktErase` changes `pkts` only. -/

@[simp] theorem pktErase_pending (s : State) (p : Nat) : (pktErase s p).pending = s.pending := rfl
@[simp] theorem pktErase_dev (s : State) (p : Nat) : (pktErase s p).dev = s.dev := rfl
@[simp] theorem pktErase_hw (s : State) (p : Nat) : (pktErase s p).hw = s.hw := rfl
@[simp] theorem pktErase_fw (s : State) (p : Nat) : (pktErase s p).fw = s.fw := rfl
@[simp] theorem pktErase_flash (s : State) (p : Nat) : (pktErase s p).flash = s.flash := rfl
@[simp] theorem pktErase_role (s : State) (p : Nat) : (pktErase s p).role = s.role := rfl
@[simp] theorem pktErase_slices (s : State) (p : Nat) : (pktErase s p).slices = s.slices := rfl
@[simp] theorem pktErase_mbx (s : State) (p : Nat) : (pktErase s p).mbx = s.mbx := rfl
@[simp] theorem pktErase_mctp (s : State) (p : Nat) : (pktErase s p).mctp = s.mctp := rfl
@[simp] theorem pktErase_ep0 (s : State) (p : Nat) : (pktErase s p).ep0 = s.ep0 := rfl
@[simp] theorem pktErase_ep1 (s : State) (p : Nat) : (pktErase s p).ep1 = s.ep1 := rfl
@[simp] theorem pktErase_rings (s : State) (p : Nat) : (pktErase s p).rings = s.rings := rfl
@[simp] theorem pktErase_nextPid (s : State) (p : Nat) : (pktErase s p).nextPid = s.nextPid := rfl
@[simp] theorem pktErase_basin (s : State) (p : Nat) : (pktErase s p).basin = s.basin := rfl
@[simp] theorem pktErase_plane (s : State) (p : Nat) : (pktErase s p).plane = s.plane := rfl
@[simp] theorem pktErase_rasp (s : State) (p : Nat) : (pktErase s p).rasp = s.rasp := rfl
@[simp] theorem pktErase_jig (s : State) (p : Nat) : (pktErase s p).jig = s.jig := rfl
@[simp] theorem pktErase_cst (s : State) (p : Nat) : (pktErase s p).cst = s.cst := rfl
@[simp] theorem pktErase_sqr (s : State) (p : Nat) : (pktErase s p).sqr = s.sqr := rfl
@[simp] theorem pktErase_act (s : State) (p : Nat) : (pktErase s p).act = s.act := rfl
@[simp] theorem pktErase_csc (s : State) (p : Nat) : (pktErase s p).csc = s.csc := rfl
@[simp] theorem pktErase_twin (s : State) (p : Nat) : (pktErase s p).twin = s.twin := rfl
@[simp] theorem pktErase_prp (s : State) (p : Nat) : (pktErase s p).prp = s.prp := rfl
@[simp] theorem pktErase_itw (s : State) (p : Nat) : (pktErase s p).itw = s.itw := rfl
@[simp] theorem pktErase_cry (s : State) (p : Nat) : (pktErase s p).cry = s.cry := rfl
@[simp] theorem pktErase_nvt (s : State) (p : Nat) : (pktErase s p).nvt = s.nvt := rfl
@[simp] theorem pktErase_port0 (s : State) (p : Nat) : (pktErase s p).port0 = s.port0 := rfl
@[simp] theorem pktErase_port1 (s : State) (p : Nat) : (pktErase s p).port1 = s.port1 := rfl
@[simp] theorem pktErase_macs (s : State) (p : Nat) : (pktErase s p).macs = s.macs := rfl
@[simp] theorem pktErase_weir (s : State) (p : Nat) : (pktErase s p).weir = s.weir := rfl
@[simp] theorem pktErase_time (s : State) (p : Nat) : (pktErase s p).time = s.time := rfl
@[simp] theorem pktErase_tio (s : State) (p : Nat) : (pktErase s p).tio = s.tio := rfl
@[simp] theorem pktErase_plb (s : State) (p : Nat) : (pktErase s p).plb = s.plb := rfl
@[simp] theorem pktErase_ptp (s : State) (p : Nat) : (pktErase s p).ptp = s.ptp := rfl
@[simp] theorem pktErase_hbm (s : State) (p : Nat) : (pktErase s p).hbm = s.hbm := rfl
@[simp] theorem pktErase_gauge (s : State) (p : Nat) : (pktErase s p).gauge = s.gauge := rfl
@[simp] theorem pktErase_tap (s : State) (p : Nat) : (pktErase s p).tap = s.tap := rfl
@[simp] theorem pktErase_regs (s : State) (p : Nat) : (pktErase s p).regs = s.regs := rfl
@[simp] theorem pktErase_latches (s : State) (p : Nat) : (pktErase s p).latches = s.latches := rfl
@[simp] theorem pktErase_mem (s : State) (p : Nat) : (pktErase s p).mem = s.mem := rfl
@[simp] theorem pktErase_out (s : State) (p : Nat) : (pktErase s p).out = s.out := rfl
@[simp] theorem pktErase_fresh (s : State) (p : Nat) : (pktErase s p).fresh = s.fresh := rfl

/-! `clusterSet` changes `csc` only. -/

@[simp] theorem clusterSet_pending (s : State) (q : Nat) (c : Cluster) : (clusterSet s q c).pending = s.pending := rfl
@[simp] theorem clusterSet_dev (s : State) (q : Nat) (c : Cluster) : (clusterSet s q c).dev = s.dev := rfl
@[simp] theorem clusterSet_hw (s : State) (q : Nat) (c : Cluster) : (clusterSet s q c).hw = s.hw := rfl
@[simp] theorem clusterSet_fw (s : State) (q : Nat) (c : Cluster) : (clusterSet s q c).fw = s.fw := rfl
@[simp] theorem clusterSet_flash (s : State) (q : Nat) (c : Cluster) : (clusterSet s q c).flash = s.flash := rfl
@[simp] theorem clusterSet_role (s : State) (q : Nat) (c : Cluster) : (clusterSet s q c).role = s.role := rfl
@[simp] theorem clusterSet_slices (s : State) (q : Nat) (c : Cluster) : (clusterSet s q c).slices = s.slices := rfl
@[simp] theorem clusterSet_mbx (s : State) (q : Nat) (c : Cluster) : (clusterSet s q c).mbx = s.mbx := rfl
@[simp] theorem clusterSet_mctp (s : State) (q : Nat) (c : Cluster) : (clusterSet s q c).mctp = s.mctp := rfl
@[simp] theorem clusterSet_ep0 (s : State) (q : Nat) (c : Cluster) : (clusterSet s q c).ep0 = s.ep0 := rfl
@[simp] theorem clusterSet_ep1 (s : State) (q : Nat) (c : Cluster) : (clusterSet s q c).ep1 = s.ep1 := rfl
@[simp] theorem clusterSet_rings (s : State) (q : Nat) (c : Cluster) : (clusterSet s q c).rings = s.rings := rfl
@[simp] theorem clusterSet_pkts (s : State) (q : Nat) (c : Cluster) : (clusterSet s q c).pkts = s.pkts := rfl
@[simp] theorem clusterSet_nextPid (s : State) (q : Nat) (c : Cluster) : (clusterSet s q c).nextPid = s.nextPid := rfl
@[simp] theorem clusterSet_basin (s : State) (q : Nat) (c : Cluster) : (clusterSet s q c).basin = s.basin := rfl
@[simp] theorem clusterSet_plane (s : State) (q : Nat) (c : Cluster) : (clusterSet s q c).plane = s.plane := rfl
@[simp] theorem clusterSet_rasp (s : State) (q : Nat) (c : Cluster) : (clusterSet s q c).rasp = s.rasp := rfl
@[simp] theorem clusterSet_jig (s : State) (q : Nat) (c : Cluster) : (clusterSet s q c).jig = s.jig := rfl
@[simp] theorem clusterSet_cst (s : State) (q : Nat) (c : Cluster) : (clusterSet s q c).cst = s.cst := rfl
@[simp] theorem clusterSet_sqr (s : State) (q : Nat) (c : Cluster) : (clusterSet s q c).sqr = s.sqr := rfl
@[simp] theorem clusterSet_act (s : State) (q : Nat) (c : Cluster) : (clusterSet s q c).act = s.act := rfl
@[simp] theorem clusterSet_twin (s : State) (q : Nat) (c : Cluster) : (clusterSet s q c).twin = s.twin := rfl
@[simp] theorem clusterSet_prp (s : State) (q : Nat) (c : Cluster) : (clusterSet s q c).prp = s.prp := rfl
@[simp] theorem clusterSet_itw (s : State) (q : Nat) (c : Cluster) : (clusterSet s q c).itw = s.itw := rfl
@[simp] theorem clusterSet_cry (s : State) (q : Nat) (c : Cluster) : (clusterSet s q c).cry = s.cry := rfl
@[simp] theorem clusterSet_nvt (s : State) (q : Nat) (c : Cluster) : (clusterSet s q c).nvt = s.nvt := rfl
@[simp] theorem clusterSet_port0 (s : State) (q : Nat) (c : Cluster) : (clusterSet s q c).port0 = s.port0 := rfl
@[simp] theorem clusterSet_port1 (s : State) (q : Nat) (c : Cluster) : (clusterSet s q c).port1 = s.port1 := rfl
@[simp] theorem clusterSet_macs (s : State) (q : Nat) (c : Cluster) : (clusterSet s q c).macs = s.macs := rfl
@[simp] theorem clusterSet_weir (s : State) (q : Nat) (c : Cluster) : (clusterSet s q c).weir = s.weir := rfl
@[simp] theorem clusterSet_time (s : State) (q : Nat) (c : Cluster) : (clusterSet s q c).time = s.time := rfl
@[simp] theorem clusterSet_tio (s : State) (q : Nat) (c : Cluster) : (clusterSet s q c).tio = s.tio := rfl
@[simp] theorem clusterSet_plb (s : State) (q : Nat) (c : Cluster) : (clusterSet s q c).plb = s.plb := rfl
@[simp] theorem clusterSet_ptp (s : State) (q : Nat) (c : Cluster) : (clusterSet s q c).ptp = s.ptp := rfl
@[simp] theorem clusterSet_hbm (s : State) (q : Nat) (c : Cluster) : (clusterSet s q c).hbm = s.hbm := rfl
@[simp] theorem clusterSet_gauge (s : State) (q : Nat) (c : Cluster) : (clusterSet s q c).gauge = s.gauge := rfl
@[simp] theorem clusterSet_tap (s : State) (q : Nat) (c : Cluster) : (clusterSet s q c).tap = s.tap := rfl
@[simp] theorem clusterSet_regs (s : State) (q : Nat) (c : Cluster) : (clusterSet s q c).regs = s.regs := rfl
@[simp] theorem clusterSet_latches (s : State) (q : Nat) (c : Cluster) : (clusterSet s q c).latches = s.latches := rfl
@[simp] theorem clusterSet_mem (s : State) (q : Nat) (c : Cluster) : (clusterSet s q c).mem = s.mem := rfl
@[simp] theorem clusterSet_out (s : State) (q : Nat) (c : Cluster) : (clusterSet s q c).out = s.out := rfl
@[simp] theorem clusterSet_fresh (s : State) (q : Nat) (c : Cluster) : (clusterSet s q c).fresh = s.fresh := rfl

/-! `hwSet` changes `hw` only. -/

@[simp] theorem hwSet_pending (s : State) (w : Nat) (v : Word) : (hwSet s w v).pending = s.pending := rfl
@[simp] theorem hwSet_dev (s : State) (w : Nat) (v : Word) : (hwSet s w v).dev = s.dev := rfl
@[simp] theorem hwSet_fw (s : State) (w : Nat) (v : Word) : (hwSet s w v).fw = s.fw := rfl
@[simp] theorem hwSet_flash (s : State) (w : Nat) (v : Word) : (hwSet s w v).flash = s.flash := rfl
@[simp] theorem hwSet_role (s : State) (w : Nat) (v : Word) : (hwSet s w v).role = s.role := rfl
@[simp] theorem hwSet_slices (s : State) (w : Nat) (v : Word) : (hwSet s w v).slices = s.slices := rfl
@[simp] theorem hwSet_mbx (s : State) (w : Nat) (v : Word) : (hwSet s w v).mbx = s.mbx := rfl
@[simp] theorem hwSet_mctp (s : State) (w : Nat) (v : Word) : (hwSet s w v).mctp = s.mctp := rfl
@[simp] theorem hwSet_ep0 (s : State) (w : Nat) (v : Word) : (hwSet s w v).ep0 = s.ep0 := rfl
@[simp] theorem hwSet_ep1 (s : State) (w : Nat) (v : Word) : (hwSet s w v).ep1 = s.ep1 := rfl
@[simp] theorem hwSet_rings (s : State) (w : Nat) (v : Word) : (hwSet s w v).rings = s.rings := rfl
@[simp] theorem hwSet_pkts (s : State) (w : Nat) (v : Word) : (hwSet s w v).pkts = s.pkts := rfl
@[simp] theorem hwSet_nextPid (s : State) (w : Nat) (v : Word) : (hwSet s w v).nextPid = s.nextPid := rfl
@[simp] theorem hwSet_basin (s : State) (w : Nat) (v : Word) : (hwSet s w v).basin = s.basin := rfl
@[simp] theorem hwSet_plane (s : State) (w : Nat) (v : Word) : (hwSet s w v).plane = s.plane := rfl
@[simp] theorem hwSet_rasp (s : State) (w : Nat) (v : Word) : (hwSet s w v).rasp = s.rasp := rfl
@[simp] theorem hwSet_jig (s : State) (w : Nat) (v : Word) : (hwSet s w v).jig = s.jig := rfl
@[simp] theorem hwSet_cst (s : State) (w : Nat) (v : Word) : (hwSet s w v).cst = s.cst := rfl
@[simp] theorem hwSet_sqr (s : State) (w : Nat) (v : Word) : (hwSet s w v).sqr = s.sqr := rfl
@[simp] theorem hwSet_act (s : State) (w : Nat) (v : Word) : (hwSet s w v).act = s.act := rfl
@[simp] theorem hwSet_csc (s : State) (w : Nat) (v : Word) : (hwSet s w v).csc = s.csc := rfl
@[simp] theorem hwSet_twin (s : State) (w : Nat) (v : Word) : (hwSet s w v).twin = s.twin := rfl
@[simp] theorem hwSet_prp (s : State) (w : Nat) (v : Word) : (hwSet s w v).prp = s.prp := rfl
@[simp] theorem hwSet_itw (s : State) (w : Nat) (v : Word) : (hwSet s w v).itw = s.itw := rfl
@[simp] theorem hwSet_cry (s : State) (w : Nat) (v : Word) : (hwSet s w v).cry = s.cry := rfl
@[simp] theorem hwSet_nvt (s : State) (w : Nat) (v : Word) : (hwSet s w v).nvt = s.nvt := rfl
@[simp] theorem hwSet_port0 (s : State) (w : Nat) (v : Word) : (hwSet s w v).port0 = s.port0 := rfl
@[simp] theorem hwSet_port1 (s : State) (w : Nat) (v : Word) : (hwSet s w v).port1 = s.port1 := rfl
@[simp] theorem hwSet_macs (s : State) (w : Nat) (v : Word) : (hwSet s w v).macs = s.macs := rfl
@[simp] theorem hwSet_weir (s : State) (w : Nat) (v : Word) : (hwSet s w v).weir = s.weir := rfl
@[simp] theorem hwSet_time (s : State) (w : Nat) (v : Word) : (hwSet s w v).time = s.time := rfl
@[simp] theorem hwSet_tio (s : State) (w : Nat) (v : Word) : (hwSet s w v).tio = s.tio := rfl
@[simp] theorem hwSet_plb (s : State) (w : Nat) (v : Word) : (hwSet s w v).plb = s.plb := rfl
@[simp] theorem hwSet_ptp (s : State) (w : Nat) (v : Word) : (hwSet s w v).ptp = s.ptp := rfl
@[simp] theorem hwSet_hbm (s : State) (w : Nat) (v : Word) : (hwSet s w v).hbm = s.hbm := rfl
@[simp] theorem hwSet_gauge (s : State) (w : Nat) (v : Word) : (hwSet s w v).gauge = s.gauge := rfl
@[simp] theorem hwSet_tap (s : State) (w : Nat) (v : Word) : (hwSet s w v).tap = s.tap := rfl
@[simp] theorem hwSet_regs (s : State) (w : Nat) (v : Word) : (hwSet s w v).regs = s.regs := rfl
@[simp] theorem hwSet_latches (s : State) (w : Nat) (v : Word) : (hwSet s w v).latches = s.latches := rfl
@[simp] theorem hwSet_mem (s : State) (w : Nat) (v : Word) : (hwSet s w v).mem = s.mem := rfl
@[simp] theorem hwSet_out (s : State) (w : Nat) (v : Word) : (hwSet s w v).out = s.out := rfl
@[simp] theorem hwSet_fresh (s : State) (w : Nat) (v : Word) : (hwSet s w v).fresh = s.fresh := rfl

/-! `epSet` changes one endpoint only. -/

@[simp] theorem epSet_pending (s : State) (ep : Nat) (e : Endpoint) : (epSet s ep e).pending = s.pending := by unfold epSet; split <;> rfl
@[simp] theorem epSet_dev (s : State) (ep : Nat) (e : Endpoint) : (epSet s ep e).dev = s.dev := by unfold epSet; split <;> rfl
@[simp] theorem epSet_hw (s : State) (ep : Nat) (e : Endpoint) : (epSet s ep e).hw = s.hw := by unfold epSet; split <;> rfl
@[simp] theorem epSet_fw (s : State) (ep : Nat) (e : Endpoint) : (epSet s ep e).fw = s.fw := by unfold epSet; split <;> rfl
@[simp] theorem epSet_flash (s : State) (ep : Nat) (e : Endpoint) : (epSet s ep e).flash = s.flash := by unfold epSet; split <;> rfl
@[simp] theorem epSet_role (s : State) (ep : Nat) (e : Endpoint) : (epSet s ep e).role = s.role := by unfold epSet; split <;> rfl
@[simp] theorem epSet_slices (s : State) (ep : Nat) (e : Endpoint) : (epSet s ep e).slices = s.slices := by unfold epSet; split <;> rfl
@[simp] theorem epSet_mbx (s : State) (ep : Nat) (e : Endpoint) : (epSet s ep e).mbx = s.mbx := by unfold epSet; split <;> rfl
@[simp] theorem epSet_mctp (s : State) (ep : Nat) (e : Endpoint) : (epSet s ep e).mctp = s.mctp := by unfold epSet; split <;> rfl
@[simp] theorem epSet_rings (s : State) (ep : Nat) (e : Endpoint) : (epSet s ep e).rings = s.rings := by unfold epSet; split <;> rfl
@[simp] theorem epSet_pkts (s : State) (ep : Nat) (e : Endpoint) : (epSet s ep e).pkts = s.pkts := by unfold epSet; split <;> rfl
@[simp] theorem epSet_nextPid (s : State) (ep : Nat) (e : Endpoint) : (epSet s ep e).nextPid = s.nextPid := by unfold epSet; split <;> rfl
@[simp] theorem epSet_basin (s : State) (ep : Nat) (e : Endpoint) : (epSet s ep e).basin = s.basin := by unfold epSet; split <;> rfl
@[simp] theorem epSet_plane (s : State) (ep : Nat) (e : Endpoint) : (epSet s ep e).plane = s.plane := by unfold epSet; split <;> rfl
@[simp] theorem epSet_rasp (s : State) (ep : Nat) (e : Endpoint) : (epSet s ep e).rasp = s.rasp := by unfold epSet; split <;> rfl
@[simp] theorem epSet_jig (s : State) (ep : Nat) (e : Endpoint) : (epSet s ep e).jig = s.jig := by unfold epSet; split <;> rfl
@[simp] theorem epSet_cst (s : State) (ep : Nat) (e : Endpoint) : (epSet s ep e).cst = s.cst := by unfold epSet; split <;> rfl
@[simp] theorem epSet_sqr (s : State) (ep : Nat) (e : Endpoint) : (epSet s ep e).sqr = s.sqr := by unfold epSet; split <;> rfl
@[simp] theorem epSet_act (s : State) (ep : Nat) (e : Endpoint) : (epSet s ep e).act = s.act := by unfold epSet; split <;> rfl
@[simp] theorem epSet_csc (s : State) (ep : Nat) (e : Endpoint) : (epSet s ep e).csc = s.csc := by unfold epSet; split <;> rfl
@[simp] theorem epSet_twin (s : State) (ep : Nat) (e : Endpoint) : (epSet s ep e).twin = s.twin := by unfold epSet; split <;> rfl
@[simp] theorem epSet_prp (s : State) (ep : Nat) (e : Endpoint) : (epSet s ep e).prp = s.prp := by unfold epSet; split <;> rfl
@[simp] theorem epSet_itw (s : State) (ep : Nat) (e : Endpoint) : (epSet s ep e).itw = s.itw := by unfold epSet; split <;> rfl
@[simp] theorem epSet_cry (s : State) (ep : Nat) (e : Endpoint) : (epSet s ep e).cry = s.cry := by unfold epSet; split <;> rfl
@[simp] theorem epSet_nvt (s : State) (ep : Nat) (e : Endpoint) : (epSet s ep e).nvt = s.nvt := by unfold epSet; split <;> rfl
@[simp] theorem epSet_port0 (s : State) (ep : Nat) (e : Endpoint) : (epSet s ep e).port0 = s.port0 := by unfold epSet; split <;> rfl
@[simp] theorem epSet_port1 (s : State) (ep : Nat) (e : Endpoint) : (epSet s ep e).port1 = s.port1 := by unfold epSet; split <;> rfl
@[simp] theorem epSet_macs (s : State) (ep : Nat) (e : Endpoint) : (epSet s ep e).macs = s.macs := by unfold epSet; split <;> rfl
@[simp] theorem epSet_weir (s : State) (ep : Nat) (e : Endpoint) : (epSet s ep e).weir = s.weir := by unfold epSet; split <;> rfl
@[simp] theorem epSet_time (s : State) (ep : Nat) (e : Endpoint) : (epSet s ep e).time = s.time := by unfold epSet; split <;> rfl
@[simp] theorem epSet_tio (s : State) (ep : Nat) (e : Endpoint) : (epSet s ep e).tio = s.tio := by unfold epSet; split <;> rfl
@[simp] theorem epSet_plb (s : State) (ep : Nat) (e : Endpoint) : (epSet s ep e).plb = s.plb := by unfold epSet; split <;> rfl
@[simp] theorem epSet_ptp (s : State) (ep : Nat) (e : Endpoint) : (epSet s ep e).ptp = s.ptp := by unfold epSet; split <;> rfl
@[simp] theorem epSet_hbm (s : State) (ep : Nat) (e : Endpoint) : (epSet s ep e).hbm = s.hbm := by unfold epSet; split <;> rfl
@[simp] theorem epSet_gauge (s : State) (ep : Nat) (e : Endpoint) : (epSet s ep e).gauge = s.gauge := by unfold epSet; split <;> rfl
@[simp] theorem epSet_tap (s : State) (ep : Nat) (e : Endpoint) : (epSet s ep e).tap = s.tap := by unfold epSet; split <;> rfl
@[simp] theorem epSet_regs (s : State) (ep : Nat) (e : Endpoint) : (epSet s ep e).regs = s.regs := by unfold epSet; split <;> rfl
@[simp] theorem epSet_latches (s : State) (ep : Nat) (e : Endpoint) : (epSet s ep e).latches = s.latches := by unfold epSet; split <;> rfl
@[simp] theorem epSet_mem (s : State) (ep : Nat) (e : Endpoint) : (epSet s ep e).mem = s.mem := by unfold epSet; split <;> rfl
@[simp] theorem epSet_out (s : State) (ep : Nat) (e : Endpoint) : (epSet s ep e).out = s.out := by unfold epSet; split <;> rfl
@[simp] theorem epSet_fresh (s : State) (ep : Nat) (e : Endpoint) : (epSet s ep e).fresh = s.fresh := by unfold epSet; split <;> rfl

@[simp] theorem epGet_epSet_self (s : State) (ep : Nat) (e : Endpoint) : epGet (epSet s ep e) ep = e := by
  unfold epGet epSet; split <;> simp_all

@[simp] theorem emit_out (s : State) (o : Output) : (emit s o).out = s.out ++ [o] := rfl

@[simp] theorem setReg_regs (s : State) (a : Nat) (v : Word) : (setReg s a v).regs = mapSet s.regs a v := rfl

@[simp] theorem drawn_fresh (s : State) : (drawn s).fresh = s.fresh + 1 := rfl

end Sys2Proof.Machine
end

