-- ==== Sys2Proof/Laws/Ops.lean ====
section
/-! SUPPORT. What each shared operation can do: the parts of the state that it may change, that it leaves the started commands alone, and
that an answer answers. -/

namespace Sys2Proof.Machine

open Sys2Proof

/-! The relation. -/

theorem ChangesOnly.refl (ps : List Part) (s : State) : ChangesOnly ps s s := fun p => Or.inr (by cases p <;> rfl)

theorem ChangesOnly.trans {ps qs : List Part} {s t u : State} (h : ChangesOnly ps s t) (k : ChangesOnly qs t u) :
    ChangesOnly (ps ++ qs) s u := by
  intro p
  rcases h p with h | h
  · exact Or.inl (List.mem_append_left _ h)
  · rcases k p with k | k
    · exact Or.inl (List.mem_append_right _ k)
    · exact Or.inr (by cases p <;> simp_all [Part.same])

theorem ChangesOnly.mono {ps qs : List Part} {s t : State} (h : ChangesOnly ps s t) (k : ps ⊆ qs) : ChangesOnly qs s t :=
  fun p => (h p).imp (fun m => k m) id

/-- A chain of two changes within one list of parts. -/
theorem ChangesOnly.step {ps : List Part} {s t u : State} (h : ChangesOnly ps s t) (k : ChangesOnly ps t u) :
    ChangesOnly ps s u :=
  (h.trans k).mono (by simp)

/-- A fold of changes within one list of parts. -/
theorem ChangesOnly.foldl {α : Type} {ps : List Part} (f : State → α → State) (h : ∀ s a, ChangesOnly ps s (f s a)) (l : List α)
    (s : State) : ChangesOnly ps s (l.foldl f s) := by
  induction l generalizing s with
  | nil => exact ChangesOnly.refl ps s
  | cons a l ih => exact (h s a).step (ih _)

/-! Registers and counters. -/

theorem setReg_changes (s : State) (a : Nat) (v : Word) : ChangesOnly [.regs] s (setReg s a v) := by
  intro p; cases p <;> simp [Part.same]

theorem setBits_changes (s : State) (a : Nat) (m : Word) : ChangesOnly [.regs] s (setBits s a m) := setReg_changes s a _

theorem bumpBy_changes (s : State) (a n : Nat) : ChangesOnly [.regs] s (bumpBy s a n) := setReg_changes s a _

theorem bump_changes (s : State) (a : Nat) : ChangesOnly [.regs] s (bump s a) := bumpBy_changes s a 1

theorem bump64_changes (s : State) (a n : Nat) : ChangesOnly [.regs] s (bump64 s a n) :=
  (setReg_changes s a _).step (setReg_changes _ (a + 4) _)

theorem capture_changes (s : State) (a v : Nat) : ChangesOnly [.regs] s (capture s a v) := by
  unfold capture; split
  · exact ChangesOnly.refl _ s
  · exact setReg_changes s a _

theorem emit_changes (s : State) (o : Output) : ChangesOnly [.out] s (emit s o) := by
  intro p; cases p <;> simp [Part.same]

theorem drawn_changes (s : State) : ChangesOnly [.fresh] s (drawn s) := by
  intro p; cases p <;> simp [Part.same]

/-! Heartwood. -/

theorem hwSet_changes (s : State) (w : Nat) (v : Word) : ChangesOnly [.hw] s (hwSet s w v) := by
  intro p; cases p <;> simp [Part.same]

theorem hwSetField_changes (s : State) (w hi lo v : Nat) : ChangesOnly [.hw] s (hwSetField s w hi lo v) := hwSet_changes s w _

theorem hwSetAll_changes (vs : List Word) (s : State) (w : Nat) : ChangesOnly [.hw] s (hwSetAll s w vs) := by
  induction vs generalizing s w with
  | nil => exact ChangesOnly.refl _ s
  | cons v vs ih => exact (hwSet_changes s w v).step (ih _ _)

theorem hwJournal_changes (s : State) (w : Nat) (ws : List Word) : ChangesOnly [.hw] s (hwJournal s w ws) :=
  ((((hwSetAll_changes ws s 0x202).step (hwSet_changes _ _ _)).step (hwSet_changes _ _ _)).step (hwSetAll_changes ws _ w)).step
    (hwSet_changes _ _ _)

/-! Functions, vectors and event bits. -/

theorem epSet_changes (s : State) (ep : Nat) (e : Endpoint) : ChangesOnly [.ep0, .ep1] s (epSet s ep e) := by
  intro p; cases p <;> simp [Part.same]

theorem fnSet_changes (s : State) (ep f : Nat) (v : Func) : ChangesOnly [.ep0, .ep1] s (fnSet s ep f v) := epSet_changes s ep _

theorem dueVec_changes (s : State) (ep f v : Nat) : ChangesOnly [.ep0, .ep1] s (dueVec s ep f v) := by
  unfold dueVec; simp only; split
  · exact fnSet_changes s ep f _
  · exact ChangesOnly.refl _ s

/-- Parts that a cause bit and its vector may change. -/
abbrev eventBitParts : List Part := [.ep0, .ep1, .regs]

theorem mgrEvent_changes (s : State) (ep bit : Nat) : ChangesOnly eventBitParts s (mgrEvent s ep bit) := by
  unfold mgrEvent; simp only; split
  · exact ((setBits_changes s _ _).mono (by simp)).step ((dueVec_changes _ _ _ _).mono (by simp))
  · exact (setBits_changes s _ _).mono (by simp)

theorem vfEvent_changes (s : State) (ep v bit : Nat) : ChangesOnly eventBitParts s (vfEvent s ep v bit) := by
  unfold vfEvent; simp only; split
  · exact ((setBits_changes s _ _).mono (by simp)).step ((dueVec_changes _ _ _ _).mono (by simp))
  · exact (setBits_changes s _ _).mono (by simp)

theorem vfEventAll_changes (s : State) (bit : Nat) : ChangesOnly eventBitParts s (vfEventAll s bit) :=
  (ChangesOnly.foldl _ (fun s v => vfEvent_changes s 0 v bit) _ s).step (ChangesOnly.foldl _ (fun s v => vfEvent_changes s 1 v bit) _ _)

theorem mgrEventBoth_changes (s : State) (bit : Nat) : ChangesOnly eventBitParts s (mgrEventBoth s bit) :=
  (mgrEvent_changes s 0 bit).step (mgrEvent_changes _ 1 bit)

/-! Trace and events. -/

theorem trace_changes (s : State) (source kind flags slice sample : Nat) (data : Bytes) :
    ChangesOnly [.gauge, .regs] s (trace s source kind flags slice sample data) := by
  unfold trace; simp only; split
  · split
    · intro p; cases p <;> simp [Part.same, setBits]
    · intro p; cases p <;> simp [Part.same]
  · exact ChangesOnly.refl _ s

theorem chanSet_changes (s : State) (ch : Nat) (c : MbxChan) : ChangesOnly [.mbx] s (chanSet s ch c) := by
  intro p; cases p <;> simp [Part.same]

theorem chanMod_changes (s : State) (ch : Nat) (g : MbxChan → MbxChan) : ChangesOnly [.mbx] s (chanMod s ch g) := chanSet_changes s ch _

/-- Parts that an event message may change. -/
abbrev eventParts : List Part := [.mbx, .gauge, .regs]

theorem queueEvent_changes (s : State) (ch code : Nat) (payload : Bytes) :
    ChangesOnly eventParts s (queueEvent s ch code payload) := by
  unfold queueEvent; simp only; split
  · split
    · exact ((chanSet_changes s ch _).mono (by simp)).step ((bump_changes _ _).mono (by simp))
    · exact ((chanSet_changes s ch _).mono (by simp)).step ((trace_changes _ _ _ _ _ _ _).mono (by simp))
  · exact ChangesOnly.refl _ s

theorem eventToPf0_changes (s : State) (ep code : Nat) (payload : Bytes) :
    ChangesOnly eventParts s (eventToPf0 s ep code payload) := by
  unfold eventToPf0; split
  · exact queueEvent_changes s _ code payload
  · exact ChangesOnly.refl _ s

theorem eventToManager_changes (s : State) (code : Nat) (payload : Bytes) :
    ChangesOnly eventParts s (eventToManager s code payload) := by
  unfold eventToManager; simp only
  refine ChangesOnly.step ?_ (queueEvent_changes _ 2056 code payload)
  split
  · exact eventToPf0_changes s _ code payload
  · exact ChangesOnly.refl _ s

theorem eventToFunc_changes (s : State) (ep f code : Nat) (payload : Bytes) :
    ChangesOnly eventParts s (eventToFunc s ep f code payload) := by
  unfold eventToFunc; split
  · exact eventToPf0_changes s ep code payload
  · exact queueEvent_changes s _ code payload

/-! The error log. -/

/-- Parts that an error-log entry may change. -/
abbrev errParts : List Part := [.mbx, .gauge, .regs, .hw, .ep0, .ep1]

theorem errSummary_changes (s : State) (e : ErrEntry) : ChangesOnly [.hw] s (errSummary s e) :=
  (hwSetAll_changes _ s _).step (hwSet_changes _ _ _)

theorem gauge_changes (s : State) (g : Gauge) : ChangesOnly [.gauge] s { s with gauge := g } := by
  intro p; cases p <;> simp [Part.same]

theorem errPut_changes (s : State) (e : ErrEntry) : ChangesOnly [.gauge] s (errPut s e) := gauge_changes s _

theorem errLost_changes (s : State) (full : Bool) : ChangesOnly [.regs] s (errLost s full) := by
  unfold errLost; split
  · exact bump_changes s _
  · exact ChangesOnly.refl _ s

theorem errSum_changes (s : State) (e : ErrEntry) : ChangesOnly [.hw] s (errSum s e) := by
  unfold errSum; split
  · exact errSummary_changes s e
  · exact ChangesOnly.refl _ s

theorem errNotice_changes (s : State) (e : ErrEntry) : ChangesOnly [.mbx, .gauge, .regs, .ep0, .ep1] s (errNotice s e) := by
  unfold errNotice; split
  · exact ((mgrEventBoth_changes s 5).mono (by simp)).step ((eventToManager_changes _ _ _).mono (by simp))
  · exact ChangesOnly.refl _ s

theorem errWrite_changes (s : State) (e : ErrEntry) : ChangesOnly errParts s (errWrite s e) :=
  ((((errPut_changes s _).mono (by simp)).step ((errLost_changes _ _).mono (by simp))).step
    ((errSum_changes _ _).mono (by simp))).step ((errNotice_changes _ _).mono (by simp))

theorem errlogGen_changes (s : State) (code island func : Nat) (gen : BitVec 16) (addr : Nat) (data : Bytes) :
    ChangesOnly errParts s (errlogGen s code island func gen addr data) := by
  unfold errlogGen; simp only; split
  · exact ((gauge_changes s _).mono (by simp)).step (errWrite_changes _ _)
  · split
    · exact ((gauge_changes s _).mono (by simp)).step (errWrite_changes _ _)
    · exact ((gauge_changes s _).mono (by simp)).step ((bump_changes _ _).mono (by simp))

theorem errlog_changes (s : State) (code island func addr : Nat) (data : Bytes) :
    ChangesOnly errParts s (errlog s code island func addr data) := errlogGen_changes s code island func 0 addr data

/-- Parts that a change of the reported mode may change. -/
abbrev modeParts : List Part := [.dev, .mbx, .gauge, .regs, .hw, .ep0, .ep1]

theorem dev_changes (s : State) (d : Device) : ChangesOnly [.dev] s { s with dev := d } := by
  intro p; cases p <;> simp [Part.same]

theorem modeLogged_changes (s : State) (old new : Nat) : ChangesOnly modeParts s (modeLogged s old new) :=
  (((((dev_changes s _).mono (by simp)).step ((mgrEventBoth_changes _ _).mono (by simp))).step
    ((vfEventAll_changes _ _).mono (by simp))).step ((errlog_changes _ _ _ _ _ _).mono (by simp))).step
    ((trace_changes _ _ _ _ _ _ _).mono (by simp))

theorem modeTold_changes (s : State) (old new cause : Nat) : ChangesOnly eventParts s (modeTold s old new cause) :=
  eventToManager_changes s _ _

theorem noteMode_changes (before s : State) (cause : Nat) : ChangesOnly modeParts s (noteMode before s cause) := by
  unfold noteMode; dsimp only
  split
  · exact ChangesOnly.refl _ s
  · split
    · exact (modeTold_changes s _ _ _).mono (by simp)
    · exact (modeLogged_changes s _ _).step ((modeTold_changes _ _ _ _).mono (by simp))

theorem noteRetired_changes (s : State) (kind cause index shortfall island : Nat) :
    ChangesOnly errParts s (noteRetired s kind cause index shortfall island) :=
  (errlog_changes s _ _ _ _ _).step ((eventToManager_changes _ _ _).mono (by simp))

/-! Answers. -/

theorem fw_changes (s : State) (w : Firmware) : ChangesOnly [.fw] s { s with fw := w } := by
  intro p; cases p <;> simp [Part.same]

theorem finish_changes (s : State) (ch seq opcode : Nat) (req : Bytes) (session : Bool) (code : Nat) (body : Bytes) :
    ChangesOnly answerParts s (finish s ch seq opcode req session code body) := by
  unfold finish; simp only
  refine ChangesOnly.step ?_ ((chanMod_changes _ ch _).mono (by simp))
  refine ChangesOnly.step ?_ ((trace_changes _ _ _ _ _ _ _).mono (by simp))
  exact ((chanMod_changes s ch _).mono (by simp)).step ((fw_changes _ _).mono (by simp))

theorem answer_changes (s : State) (ch seq code : Nat) (body : Bytes) :
    ChangesOnly answerParts s (answer s ch seq code body) := by
  unfold answer; split
  · exact finish_changes s ch seq _ _ _ code body
  · exact ChangesOnly.refl _ s

theorem defer_changes (s : State) (ch seq : Nat) : ChangesOnly [.mbx] s (defer s ch seq) := chanMod_changes s ch _

/-! Channels. -/

/-- A state whose mailboxes are those of another shows the same channels. -/
theorem chanGet_congr {s t : State} (h : t.mbx = s.mbx) (ch : Nat) : chanGet t ch = chanGet s ch := by
  unfold chanGet; rw [h]

theorem ChangesOnly.mbx {ps : List Part} {s t : State} (h : ChangesOnly ps s t) (k : Part.mbx ∉ ps) (ch : Nat) :
    chanGet t ch = chanGet s ch :=
  chanGet_congr ((h .mbx).resolve_left k) ch

@[simp] theorem chanGet_chanSet_self (s : State) (ch : Nat) (c : MbxChan) : chanGet (chanSet s ch c) ch = c := by
  simp [chanGet, chanSet]

theorem chanGet_chanSet_ne (s : State) {ch k : Nat} (c : MbxChan) (h : k ≠ ch) : chanGet (chanSet s ch c) k = chanGet s k := by
  simp [chanGet, chanSet, mapGetD_mapSet_ne _ _ _ h]

@[simp] theorem chanGet_chanMod_self (s : State) (ch : Nat) (g : MbxChan → MbxChan) :
    chanGet (chanMod s ch g) ch = g (chanGet s ch) := by simp [chanMod]

@[simp] theorem chanGet_trace (s : State) (source kind flags slice sample : Nat) (data : Bytes) (ch : Nat) :
    chanGet (trace s source kind flags slice sample data) ch = chanGet s ch := (trace_changes s _ _ _ _ _ _).mbx (by decide) ch

@[simp] theorem chanGet_bump (s : State) (a ch : Nat) : chanGet (bump s a) ch = chanGet s ch := (bump_changes s a).mbx (by decide) ch

/-- Sending an event leaves the started commands and the journal of every channel alone. -/
theorem queueEvent_started (s : State) (c code : Nat) (payload : Bytes) (ch : Nat) :
    (chanGet (queueEvent s c code payload) ch).started = (chanGet s ch).started := by
  unfold queueEvent; simp only; split
  · split <;> simp only [chanGet_bump, chanGet_trace]
    all_goals
      by_cases h : ch = c
      · subst h; simp
      · rw [chanGet_chanSet_ne _ _ h]
  · rfl

theorem eventToPf0_started (s : State) (ep code : Nat) (payload : Bytes) (ch : Nat) :
    (chanGet (eventToPf0 s ep code payload) ch).started = (chanGet s ch).started := by
  unfold eventToPf0; split
  · exact queueEvent_started s _ code payload ch
  · rfl

@[simp] theorem eventToManager_started (s : State) (code : Nat) (payload : Bytes) (ch : Nat) :
    (chanGet (eventToManager s code payload) ch).started = (chanGet s ch).started := by
  unfold eventToManager; simp only; rw [queueEvent_started]; split
  · exact eventToPf0_started s _ code payload ch
  · rfl

@[simp] theorem mgrEventBoth_chan (s : State) (bit ch : Nat) : chanGet (mgrEventBoth s bit) ch = chanGet s ch :=
  (mgrEventBoth_changes s bit).mbx (by decide) ch

@[simp] theorem vfEventAll_chan (s : State) (bit ch : Nat) : chanGet (vfEventAll s bit) ch = chanGet s ch :=
  (vfEventAll_changes s bit).mbx (by decide) ch

@[simp] theorem hwSet_chan (s : State) (w : Nat) (v : Word) (ch : Nat) : chanGet (hwSet s w v) ch = chanGet s ch := rfl

@[simp] theorem errSummary_chan (s : State) (e : ErrEntry) (ch : Nat) : chanGet (errSummary s e) ch = chanGet s ch :=
  (errSummary_changes s e).mbx (by decide) ch

theorem errNotice_started (s : State) (e : ErrEntry) (ch : Nat) :
    (chanGet (errNotice s e) ch).started = (chanGet s ch).started := by
  unfold errNotice; split
  · rw [eventToManager_started, mgrEventBoth_chan]
  · rfl

theorem errWrite_started (s : State) (e : ErrEntry) (ch : Nat) :
    (chanGet (errWrite s e) ch).started = (chanGet s ch).started := by
  unfold errWrite; simp only
  rw [errNotice_started, (errSum_changes _ _).mbx (by decide), (errLost_changes _ _).mbx (by decide),
    (errPut_changes _ _).mbx (by decide)]

@[simp] theorem errlogGen_started (s : State) (code island func : Nat) (gen : BitVec 16) (addr : Nat) (data : Bytes) (ch : Nat) :
    (chanGet (errlogGen s code island func gen addr data) ch).started = (chanGet s ch).started := by
  unfold errlogGen; simp only; split
  · rw [errWrite_started]; rfl
  · split
    · rw [errWrite_started]; rfl
    · rw [chanGet_bump]; rfl

@[simp] theorem errlog_started (s : State) (code island func addr : Nat) (data : Bytes) (ch : Nat) :
    (chanGet (errlog s code island func addr data) ch).started = (chanGet s ch).started := errlogGen_started s _ _ _ _ _ _ ch

theorem modeLogged_started (s : State) (old new ch : Nat) :
    (chanGet (modeLogged s old new) ch).started = (chanGet s ch).started := by
  unfold modeLogged
  rw [chanGet_trace, errlog_started, vfEventAll_chan, mgrEventBoth_chan, (dev_changes s _).mbx (by decide)]

theorem modeTold_started (s : State) (old new cause ch : Nat) :
    (chanGet (modeTold s old new cause) ch).started = (chanGet s ch).started := eventToManager_started s _ _ ch

@[simp] theorem noteMode_started (before s : State) (cause ch : Nat) :
    (chanGet (noteMode before s cause) ch).started = (chanGet s ch).started := by
  unfold noteMode; dsimp only
  split
  · rfl
  · rw [modeTold_started]; split
    · rfl
    · exact modeLogged_started s _ _ ch

@[simp] theorem noteRetired_started (s : State) (kind cause index shortfall island ch : Nat) :
    (chanGet (noteRetired s kind cause index shortfall island) ch).started = (chanGet s ch).started := by
  unfold noteRetired; simp

/-! An answer answers. -/

/-- What `journalPut` holds. -/
theorem mem_journalPut (j : List Journal) (e : Journal) : e ∈ journalPut j e := by
  unfold journalPut; split
  · rename_i h
    obtain ⟨x, hx, hs⟩ := List.any_eq_true.1 h
    exact List.mem_map.2 ⟨x, hx, by simp at hs; simp [hs]⟩
  · simp

theorem length_journalPut (j : List Journal) (e : Journal) (h : j.length ≤ 64) : (journalPut j e).length ≤ 64 := by
  unfold journalPut; split
  · simpa using h
  · split <;> simp <;> omega

theorem Unanswered.congr {s t : State} {ch seq : Nat} (h : Unanswered s ch seq) (k : (chanGet t ch).started = (chanGet s ch).started) :
    Unanswered t ch seq := by
  unfold Unanswered; rw [k]; exact h

theorem Begun.unanswered {s : State} {ch seq op : Nat} {req : Bytes} (h : Begun s ch seq op req) : Unanswered s ch seq := by
  obtain ⟨x, hx, -, -⟩ := h
  have hp := List.find?_some hx
  simp only [Bool.and_eq_true, decide_eq_true_eq] at hp
  exact ⟨x, List.mem_of_find?_eq_some hx, hp.1.1⟩

/-- Everything an answer says: it is queued, journalled, and the command is started no more. -/
theorem answer_answered {s : State} {ch seq : Nat} (code : Nat) (body : Bytes) (h : Unanswered s ch seq) :
    Answered (answer s ch seq code body) ch seq code body := by
  obtain ⟨x, hx, hs⟩ := h
  unfold answer
  cases hf : (chanGet s ch).started.find? (fun x => x.seq = seq) with
  | none => exact absurd hs (by simpa using List.find?_eq_none.1 hf x hx)
  | some y =>
    simp only [finish, queueResponse]
    have hc : ∀ (t : State) (w : Firmware), chanGet { t with fw := w } ch = chanGet t ch := fun _ _ => rfl
    refine ⟨?_, ?_, ?_⟩
    · simp only [chanGet_chanMod_self, chanGet_trace, hc]
      exact ⟨_, y.session, rfl⟩
    · simp only [chanGet_chanMod_self, chanGet_trace, hc]
      exact ⟨_, mem_journalPut _ _, rfl, rfl⟩
    · simp only [chanGet_chanMod_self, chanGet_trace, hc]
      intro z hz
      simpa using (List.mem_filter.1 hz).2

/-- A deferred command runs. -/
theorem defer_runs {s : State} {ch seq op : Nat} {req : Bytes} (h : Begun s ch seq op req) : RunsOn (defer s ch seq) ch seq op := by
  obtain ⟨x, hx, -, -⟩ := h
  have hp := List.find?_some hx
  have hm := List.mem_of_find?_eq_some hx
  simp only [Bool.and_eq_true, decide_eq_true_eq] at hp
  unfold defer RunsOn
  cases hf : (chanGet s ch).started.find? (fun x => x.seq = seq) with
  | none => exact absurd hp.1.1 (by simpa using List.find?_eq_none.1 hf x hm)
  | some y =>
    simp only [chanGet_chanMod_self, hf]
    exact ⟨⟨_, List.mem_map.2 ⟨x, hm, rfl⟩, by simp [hp.1.1], by simp [hp.1.1, hp.1.2], by simp [hp.1.1]⟩,
      ⟨_, mem_journalPut _ _, rfl, rfl⟩⟩

/-- A command runs on through changes of parts other than the mailboxes. -/
theorem RunsOn.congr {s t : State} {ch seq op : Nat} (h : RunsOn s ch seq op) (k : t.mbx = s.mbx) : RunsOn t ch seq op := by
  unfold RunsOn; rw [chanGet_congr k ch]; exact h

/-- A begun command runs its body on its request. -/
theorem command_begun {s : State} {ch seq op : Nat} {req : Bytes} (body : Bytes → State) (h : Begun s ch seq op req) :
    command s ch seq op body = .next (body req) := by
  obtain ⟨x, hx, rfl, hr⟩ := h
  simp [command, hx, hr, done]

/-- A command row leaves all but the parts of its body's change alone. -/
theorem command_changes {ps : List Part} {s t : State} {ch seq op : Nat} {body : Bytes → State}
    (h : ∀ req, ChangesOnly ps s (body req)) (k : answerParts ⊆ ps) (e : command s ch seq op body = .next t) : ChangesOnly ps s t := by
  unfold command at e
  split at e
  · split at e
    · cases e; exact h _
    · cases e; exact (answer_changes s ch seq _ _).mono k
  · cases e; exact ChangesOnly.refl ps s

end Sys2Proof.Machine
end

