-- ==== Sys2Proof/Laws/Frames.lean ====
section
/-! SUPPORT. The parts of the state that each shared operation leaves alone, as equations: each follows from the operation's one lemma in
Laws/Ops.lean. -/

namespace Sys2Proof.Machine

open Sys2Proof

@[simp] theorem bump_pending (s : State) (a : Nat) : (bump s a).pending = s.pending :=
  (bump_changes s a .pending).resolve_left (by decide)
@[simp] theorem bump_dev (s : State) (a : Nat) : (bump s a).dev = s.dev :=
  (bump_changes s a .dev).resolve_left (by decide)
@[simp] theorem bump_hw (s : State) (a : Nat) : (bump s a).hw = s.hw :=
  (bump_changes s a .hw).resolve_left (by decide)
@[simp] theorem bump_fw (s : State) (a : Nat) : (bump s a).fw = s.fw :=
  (bump_changes s a .fw).resolve_left (by decide)
@[simp] theorem bump_flash (s : State) (a : Nat) : (bump s a).flash = s.flash :=
  (bump_changes s a .flash).resolve_left (by decide)
@[simp] theorem bump_role (s : State) (a : Nat) : (bump s a).role = s.role :=
  (bump_changes s a .role).resolve_left (by decide)
@[simp] theorem bump_slices (s : State) (a : Nat) : (bump s a).slices = s.slices :=
  (bump_changes s a .slices).resolve_left (by decide)
@[simp] theorem bump_mbx (s : State) (a : Nat) : (bump s a).mbx = s.mbx :=
  (bump_changes s a .mbx).resolve_left (by decide)
@[simp] theorem bump_mctp (s : State) (a : Nat) : (bump s a).mctp = s.mctp :=
  (bump_changes s a .mctp).resolve_left (by decide)
@[simp] theorem bump_ep0 (s : State) (a : Nat) : (bump s a).ep0 = s.ep0 :=
  (bump_changes s a .ep0).resolve_left (by decide)
@[simp] theorem bump_ep1 (s : State) (a : Nat) : (bump s a).ep1 = s.ep1 :=
  (bump_changes s a .ep1).resolve_left (by decide)
@[simp] theorem bump_rings (s : State) (a : Nat) : (bump s a).rings = s.rings :=
  (bump_changes s a .rings).resolve_left (by decide)
@[simp] theorem bump_pkts (s : State) (a : Nat) : (bump s a).pkts = s.pkts :=
  (bump_changes s a .pkts).resolve_left (by decide)
@[simp] theorem bump_nextPid (s : State) (a : Nat) : (bump s a).nextPid = s.nextPid :=
  (bump_changes s a .nextPid).resolve_left (by decide)
@[simp] theorem bump_basin (s : State) (a : Nat) : (bump s a).basin = s.basin :=
  (bump_changes s a .basin).resolve_left (by decide)
@[simp] theorem bump_plane (s : State) (a : Nat) : (bump s a).plane = s.plane :=
  (bump_changes s a .plane).resolve_left (by decide)
@[simp] theorem bump_rasp (s : State) (a : Nat) : (bump s a).rasp = s.rasp :=
  (bump_changes s a .rasp).resolve_left (by decide)
@[simp] theorem bump_jig (s : State) (a : Nat) : (bump s a).jig = s.jig :=
  (bump_changes s a .jig).resolve_left (by decide)
@[simp] theorem bump_cst (s : State) (a : Nat) : (bump s a).cst = s.cst :=
  (bump_changes s a .cst).resolve_left (by decide)
@[simp] theorem bump_sqr (s : State) (a : Nat) : (bump s a).sqr = s.sqr :=
  (bump_changes s a .sqr).resolve_left (by decide)
@[simp] theorem bump_act (s : State) (a : Nat) : (bump s a).act = s.act :=
  (bump_changes s a .act).resolve_left (by decide)
@[simp] theorem bump_csc (s : State) (a : Nat) : (bump s a).csc = s.csc :=
  (bump_changes s a .csc).resolve_left (by decide)
@[simp] theorem bump_twin (s : State) (a : Nat) : (bump s a).twin = s.twin :=
  (bump_changes s a .twin).resolve_left (by decide)
@[simp] theorem bump_prp (s : State) (a : Nat) : (bump s a).prp = s.prp :=
  (bump_changes s a .prp).resolve_left (by decide)
@[simp] theorem bump_itw (s : State) (a : Nat) : (bump s a).itw = s.itw :=
  (bump_changes s a .itw).resolve_left (by decide)
@[simp] theorem bump_cry (s : State) (a : Nat) : (bump s a).cry = s.cry :=
  (bump_changes s a .cry).resolve_left (by decide)
@[simp] theorem bump_nvt (s : State) (a : Nat) : (bump s a).nvt = s.nvt :=
  (bump_changes s a .nvt).resolve_left (by decide)
@[simp] theorem bump_port0 (s : State) (a : Nat) : (bump s a).port0 = s.port0 :=
  (bump_changes s a .port0).resolve_left (by decide)
@[simp] theorem bump_port1 (s : State) (a : Nat) : (bump s a).port1 = s.port1 :=
  (bump_changes s a .port1).resolve_left (by decide)
@[simp] theorem bump_macs (s : State) (a : Nat) : (bump s a).macs = s.macs :=
  (bump_changes s a .macs).resolve_left (by decide)
@[simp] theorem bump_weir (s : State) (a : Nat) : (bump s a).weir = s.weir :=
  (bump_changes s a .weir).resolve_left (by decide)
@[simp] theorem bump_time (s : State) (a : Nat) : (bump s a).time = s.time :=
  (bump_changes s a .time).resolve_left (by decide)
@[simp] theorem bump_tio (s : State) (a : Nat) : (bump s a).tio = s.tio :=
  (bump_changes s a .tio).resolve_left (by decide)
@[simp] theorem bump_plb (s : State) (a : Nat) : (bump s a).plb = s.plb :=
  (bump_changes s a .plb).resolve_left (by decide)
@[simp] theorem bump_ptp (s : State) (a : Nat) : (bump s a).ptp = s.ptp :=
  (bump_changes s a .ptp).resolve_left (by decide)
@[simp] theorem bump_hbm (s : State) (a : Nat) : (bump s a).hbm = s.hbm :=
  (bump_changes s a .hbm).resolve_left (by decide)
@[simp] theorem bump_gauge (s : State) (a : Nat) : (bump s a).gauge = s.gauge :=
  (bump_changes s a .gauge).resolve_left (by decide)
@[simp] theorem bump_tap (s : State) (a : Nat) : (bump s a).tap = s.tap :=
  (bump_changes s a .tap).resolve_left (by decide)
@[simp] theorem bump_latches (s : State) (a : Nat) : (bump s a).latches = s.latches :=
  (bump_changes s a .latches).resolve_left (by decide)
@[simp] theorem bump_mem (s : State) (a : Nat) : (bump s a).mem = s.mem :=
  (bump_changes s a .mem).resolve_left (by decide)
@[simp] theorem bump_out (s : State) (a : Nat) : (bump s a).out = s.out :=
  (bump_changes s a .out).resolve_left (by decide)
@[simp] theorem bump_fresh (s : State) (a : Nat) : (bump s a).fresh = s.fresh :=
  (bump_changes s a .fresh).resolve_left (by decide)

@[simp] theorem bumpBy_pending (s : State) (a n : Nat) : (bumpBy s a n).pending = s.pending :=
  (bumpBy_changes s a n .pending).resolve_left (by decide)
@[simp] theorem bumpBy_dev (s : State) (a n : Nat) : (bumpBy s a n).dev = s.dev :=
  (bumpBy_changes s a n .dev).resolve_left (by decide)
@[simp] theorem bumpBy_hw (s : State) (a n : Nat) : (bumpBy s a n).hw = s.hw :=
  (bumpBy_changes s a n .hw).resolve_left (by decide)
@[simp] theorem bumpBy_fw (s : State) (a n : Nat) : (bumpBy s a n).fw = s.fw :=
  (bumpBy_changes s a n .fw).resolve_left (by decide)
@[simp] theorem bumpBy_flash (s : State) (a n : Nat) : (bumpBy s a n).flash = s.flash :=
  (bumpBy_changes s a n .flash).resolve_left (by decide)
@[simp] theorem bumpBy_role (s : State) (a n : Nat) : (bumpBy s a n).role = s.role :=
  (bumpBy_changes s a n .role).resolve_left (by decide)
@[simp] theorem bumpBy_slices (s : State) (a n : Nat) : (bumpBy s a n).slices = s.slices :=
  (bumpBy_changes s a n .slices).resolve_left (by decide)
@[simp] theorem bumpBy_mbx (s : State) (a n : Nat) : (bumpBy s a n).mbx = s.mbx :=
  (bumpBy_changes s a n .mbx).resolve_left (by decide)
@[simp] theorem bumpBy_mctp (s : State) (a n : Nat) : (bumpBy s a n).mctp = s.mctp :=
  (bumpBy_changes s a n .mctp).resolve_left (by decide)
@[simp] theorem bumpBy_ep0 (s : State) (a n : Nat) : (bumpBy s a n).ep0 = s.ep0 :=
  (bumpBy_changes s a n .ep0).resolve_left (by decide)
@[simp] theorem bumpBy_ep1 (s : State) (a n : Nat) : (bumpBy s a n).ep1 = s.ep1 :=
  (bumpBy_changes s a n .ep1).resolve_left (by decide)
@[simp] theorem bumpBy_rings (s : State) (a n : Nat) : (bumpBy s a n).rings = s.rings :=
  (bumpBy_changes s a n .rings).resolve_left (by decide)
@[simp] theorem bumpBy_pkts (s : State) (a n : Nat) : (bumpBy s a n).pkts = s.pkts :=
  (bumpBy_changes s a n .pkts).resolve_left (by decide)
@[simp] theorem bumpBy_nextPid (s : State) (a n : Nat) : (bumpBy s a n).nextPid = s.nextPid :=
  (bumpBy_changes s a n .nextPid).resolve_left (by decide)
@[simp] theorem bumpBy_basin (s : State) (a n : Nat) : (bumpBy s a n).basin = s.basin :=
  (bumpBy_changes s a n .basin).resolve_left (by decide)
@[simp] theorem bumpBy_plane (s : State) (a n : Nat) : (bumpBy s a n).plane = s.plane :=
  (bumpBy_changes s a n .plane).resolve_left (by decide)
@[simp] theorem bumpBy_rasp (s : State) (a n : Nat) : (bumpBy s a n).rasp = s.rasp :=
  (bumpBy_changes s a n .rasp).resolve_left (by decide)
@[simp] theorem bumpBy_jig (s : State) (a n : Nat) : (bumpBy s a n).jig = s.jig :=
  (bumpBy_changes s a n .jig).resolve_left (by decide)
@[simp] theorem bumpBy_cst (s : State) (a n : Nat) : (bumpBy s a n).cst = s.cst :=
  (bumpBy_changes s a n .cst).resolve_left (by decide)
@[simp] theorem bumpBy_sqr (s : State) (a n : Nat) : (bumpBy s a n).sqr = s.sqr :=
  (bumpBy_changes s a n .sqr).resolve_left (by decide)
@[simp] theorem bumpBy_act (s : State) (a n : Nat) : (bumpBy s a n).act = s.act :=
  (bumpBy_changes s a n .act).resolve_left (by decide)
@[simp] theorem bumpBy_csc (s : State) (a n : Nat) : (bumpBy s a n).csc = s.csc :=
  (bumpBy_changes s a n .csc).resolve_left (by decide)
@[simp] theorem bumpBy_twin (s : State) (a n : Nat) : (bumpBy s a n).twin = s.twin :=
  (bumpBy_changes s a n .twin).resolve_left (by decide)
@[simp] theorem bumpBy_prp (s : State) (a n : Nat) : (bumpBy s a n).prp = s.prp :=
  (bumpBy_changes s a n .prp).resolve_left (by decide)
@[simp] theorem bumpBy_itw (s : State) (a n : Nat) : (bumpBy s a n).itw = s.itw :=
  (bumpBy_changes s a n .itw).resolve_left (by decide)
@[simp] theorem bumpBy_cry (s : State) (a n : Nat) : (bumpBy s a n).cry = s.cry :=
  (bumpBy_changes s a n .cry).resolve_left (by decide)
@[simp] theorem bumpBy_nvt (s : State) (a n : Nat) : (bumpBy s a n).nvt = s.nvt :=
  (bumpBy_changes s a n .nvt).resolve_left (by decide)
@[simp] theorem bumpBy_port0 (s : State) (a n : Nat) : (bumpBy s a n).port0 = s.port0 :=
  (bumpBy_changes s a n .port0).resolve_left (by decide)
@[simp] theorem bumpBy_port1 (s : State) (a n : Nat) : (bumpBy s a n).port1 = s.port1 :=
  (bumpBy_changes s a n .port1).resolve_left (by decide)
@[simp] theorem bumpBy_macs (s : State) (a n : Nat) : (bumpBy s a n).macs = s.macs :=
  (bumpBy_changes s a n .macs).resolve_left (by decide)
@[simp] theorem bumpBy_weir (s : State) (a n : Nat) : (bumpBy s a n).weir = s.weir :=
  (bumpBy_changes s a n .weir).resolve_left (by decide)
@[simp] theorem bumpBy_time (s : State) (a n : Nat) : (bumpBy s a n).time = s.time :=
  (bumpBy_changes s a n .time).resolve_left (by decide)
@[simp] theorem bumpBy_tio (s : State) (a n : Nat) : (bumpBy s a n).tio = s.tio :=
  (bumpBy_changes s a n .tio).resolve_left (by decide)
@[simp] theorem bumpBy_plb (s : State) (a n : Nat) : (bumpBy s a n).plb = s.plb :=
  (bumpBy_changes s a n .plb).resolve_left (by decide)
@[simp] theorem bumpBy_ptp (s : State) (a n : Nat) : (bumpBy s a n).ptp = s.ptp :=
  (bumpBy_changes s a n .ptp).resolve_left (by decide)
@[simp] theorem bumpBy_hbm (s : State) (a n : Nat) : (bumpBy s a n).hbm = s.hbm :=
  (bumpBy_changes s a n .hbm).resolve_left (by decide)
@[simp] theorem bumpBy_gauge (s : State) (a n : Nat) : (bumpBy s a n).gauge = s.gauge :=
  (bumpBy_changes s a n .gauge).resolve_left (by decide)
@[simp] theorem bumpBy_tap (s : State) (a n : Nat) : (bumpBy s a n).tap = s.tap :=
  (bumpBy_changes s a n .tap).resolve_left (by decide)
@[simp] theorem bumpBy_latches (s : State) (a n : Nat) : (bumpBy s a n).latches = s.latches :=
  (bumpBy_changes s a n .latches).resolve_left (by decide)
@[simp] theorem bumpBy_mem (s : State) (a n : Nat) : (bumpBy s a n).mem = s.mem :=
  (bumpBy_changes s a n .mem).resolve_left (by decide)
@[simp] theorem bumpBy_out (s : State) (a n : Nat) : (bumpBy s a n).out = s.out :=
  (bumpBy_changes s a n .out).resolve_left (by decide)
@[simp] theorem bumpBy_fresh (s : State) (a n : Nat) : (bumpBy s a n).fresh = s.fresh :=
  (bumpBy_changes s a n .fresh).resolve_left (by decide)

@[simp] theorem bump64_pending (s : State) (a n : Nat) : (bump64 s a n).pending = s.pending :=
  (bump64_changes s a n .pending).resolve_left (by decide)
@[simp] theorem bump64_dev (s : State) (a n : Nat) : (bump64 s a n).dev = s.dev :=
  (bump64_changes s a n .dev).resolve_left (by decide)
@[simp] theorem bump64_hw (s : State) (a n : Nat) : (bump64 s a n).hw = s.hw :=
  (bump64_changes s a n .hw).resolve_left (by decide)
@[simp] theorem bump64_fw (s : State) (a n : Nat) : (bump64 s a n).fw = s.fw :=
  (bump64_changes s a n .fw).resolve_left (by decide)
@[simp] theorem bump64_flash (s : State) (a n : Nat) : (bump64 s a n).flash = s.flash :=
  (bump64_changes s a n .flash).resolve_left (by decide)
@[simp] theorem bump64_role (s : State) (a n : Nat) : (bump64 s a n).role = s.role :=
  (bump64_changes s a n .role).resolve_left (by decide)
@[simp] theorem bump64_slices (s : State) (a n : Nat) : (bump64 s a n).slices = s.slices :=
  (bump64_changes s a n .slices).resolve_left (by decide)
@[simp] theorem bump64_mbx (s : State) (a n : Nat) : (bump64 s a n).mbx = s.mbx :=
  (bump64_changes s a n .mbx).resolve_left (by decide)
@[simp] theorem bump64_mctp (s : State) (a n : Nat) : (bump64 s a n).mctp = s.mctp :=
  (bump64_changes s a n .mctp).resolve_left (by decide)
@[simp] theorem bump64_ep0 (s : State) (a n : Nat) : (bump64 s a n).ep0 = s.ep0 :=
  (bump64_changes s a n .ep0).resolve_left (by decide)
@[simp] theorem bump64_ep1 (s : State) (a n : Nat) : (bump64 s a n).ep1 = s.ep1 :=
  (bump64_changes s a n .ep1).resolve_left (by decide)
@[simp] theorem bump64_rings (s : State) (a n : Nat) : (bump64 s a n).rings = s.rings :=
  (bump64_changes s a n .rings).resolve_left (by decide)
@[simp] theorem bump64_pkts (s : State) (a n : Nat) : (bump64 s a n).pkts = s.pkts :=
  (bump64_changes s a n .pkts).resolve_left (by decide)
@[simp] theorem bump64_nextPid (s : State) (a n : Nat) : (bump64 s a n).nextPid = s.nextPid :=
  (bump64_changes s a n .nextPid).resolve_left (by decide)
@[simp] theorem bump64_basin (s : State) (a n : Nat) : (bump64 s a n).basin = s.basin :=
  (bump64_changes s a n .basin).resolve_left (by decide)
@[simp] theorem bump64_plane (s : State) (a n : Nat) : (bump64 s a n).plane = s.plane :=
  (bump64_changes s a n .plane).resolve_left (by decide)
@[simp] theorem bump64_rasp (s : State) (a n : Nat) : (bump64 s a n).rasp = s.rasp :=
  (bump64_changes s a n .rasp).resolve_left (by decide)
@[simp] theorem bump64_jig (s : State) (a n : Nat) : (bump64 s a n).jig = s.jig :=
  (bump64_changes s a n .jig).resolve_left (by decide)
@[simp] theorem bump64_cst (s : State) (a n : Nat) : (bump64 s a n).cst = s.cst :=
  (bump64_changes s a n .cst).resolve_left (by decide)
@[simp] theorem bump64_sqr (s : State) (a n : Nat) : (bump64 s a n).sqr = s.sqr :=
  (bump64_changes s a n .sqr).resolve_left (by decide)
@[simp] theorem bump64_act (s : State) (a n : Nat) : (bump64 s a n).act = s.act :=
  (bump64_changes s a n .act).resolve_left (by decide)
@[simp] theorem bump64_csc (s : State) (a n : Nat) : (bump64 s a n).csc = s.csc :=
  (bump64_changes s a n .csc).resolve_left (by decide)
@[simp] theorem bump64_twin (s : State) (a n : Nat) : (bump64 s a n).twin = s.twin :=
  (bump64_changes s a n .twin).resolve_left (by decide)
@[simp] theorem bump64_prp (s : State) (a n : Nat) : (bump64 s a n).prp = s.prp :=
  (bump64_changes s a n .prp).resolve_left (by decide)
@[simp] theorem bump64_itw (s : State) (a n : Nat) : (bump64 s a n).itw = s.itw :=
  (bump64_changes s a n .itw).resolve_left (by decide)
@[simp] theorem bump64_cry (s : State) (a n : Nat) : (bump64 s a n).cry = s.cry :=
  (bump64_changes s a n .cry).resolve_left (by decide)
@[simp] theorem bump64_nvt (s : State) (a n : Nat) : (bump64 s a n).nvt = s.nvt :=
  (bump64_changes s a n .nvt).resolve_left (by decide)
@[simp] theorem bump64_port0 (s : State) (a n : Nat) : (bump64 s a n).port0 = s.port0 :=
  (bump64_changes s a n .port0).resolve_left (by decide)
@[simp] theorem bump64_port1 (s : State) (a n : Nat) : (bump64 s a n).port1 = s.port1 :=
  (bump64_changes s a n .port1).resolve_left (by decide)
@[simp] theorem bump64_macs (s : State) (a n : Nat) : (bump64 s a n).macs = s.macs :=
  (bump64_changes s a n .macs).resolve_left (by decide)
@[simp] theorem bump64_weir (s : State) (a n : Nat) : (bump64 s a n).weir = s.weir :=
  (bump64_changes s a n .weir).resolve_left (by decide)
@[simp] theorem bump64_time (s : State) (a n : Nat) : (bump64 s a n).time = s.time :=
  (bump64_changes s a n .time).resolve_left (by decide)
@[simp] theorem bump64_tio (s : State) (a n : Nat) : (bump64 s a n).tio = s.tio :=
  (bump64_changes s a n .tio).resolve_left (by decide)
@[simp] theorem bump64_plb (s : State) (a n : Nat) : (bump64 s a n).plb = s.plb :=
  (bump64_changes s a n .plb).resolve_left (by decide)
@[simp] theorem bump64_ptp (s : State) (a n : Nat) : (bump64 s a n).ptp = s.ptp :=
  (bump64_changes s a n .ptp).resolve_left (by decide)
@[simp] theorem bump64_hbm (s : State) (a n : Nat) : (bump64 s a n).hbm = s.hbm :=
  (bump64_changes s a n .hbm).resolve_left (by decide)
@[simp] theorem bump64_gauge (s : State) (a n : Nat) : (bump64 s a n).gauge = s.gauge :=
  (bump64_changes s a n .gauge).resolve_left (by decide)
@[simp] theorem bump64_tap (s : State) (a n : Nat) : (bump64 s a n).tap = s.tap :=
  (bump64_changes s a n .tap).resolve_left (by decide)
@[simp] theorem bump64_latches (s : State) (a n : Nat) : (bump64 s a n).latches = s.latches :=
  (bump64_changes s a n .latches).resolve_left (by decide)
@[simp] theorem bump64_mem (s : State) (a n : Nat) : (bump64 s a n).mem = s.mem :=
  (bump64_changes s a n .mem).resolve_left (by decide)
@[simp] theorem bump64_out (s : State) (a n : Nat) : (bump64 s a n).out = s.out :=
  (bump64_changes s a n .out).resolve_left (by decide)
@[simp] theorem bump64_fresh (s : State) (a n : Nat) : (bump64 s a n).fresh = s.fresh :=
  (bump64_changes s a n .fresh).resolve_left (by decide)

@[simp] theorem setBits_pending (s : State) (a : Nat) (m : Word) : (setBits s a m).pending = s.pending :=
  (setBits_changes s a m .pending).resolve_left (by decide)
@[simp] theorem setBits_dev (s : State) (a : Nat) (m : Word) : (setBits s a m).dev = s.dev :=
  (setBits_changes s a m .dev).resolve_left (by decide)
@[simp] theorem setBits_hw (s : State) (a : Nat) (m : Word) : (setBits s a m).hw = s.hw :=
  (setBits_changes s a m .hw).resolve_left (by decide)
@[simp] theorem setBits_fw (s : State) (a : Nat) (m : Word) : (setBits s a m).fw = s.fw :=
  (setBits_changes s a m .fw).resolve_left (by decide)
@[simp] theorem setBits_flash (s : State) (a : Nat) (m : Word) : (setBits s a m).flash = s.flash :=
  (setBits_changes s a m .flash).resolve_left (by decide)
@[simp] theorem setBits_role (s : State) (a : Nat) (m : Word) : (setBits s a m).role = s.role :=
  (setBits_changes s a m .role).resolve_left (by decide)
@[simp] theorem setBits_slices (s : State) (a : Nat) (m : Word) : (setBits s a m).slices = s.slices :=
  (setBits_changes s a m .slices).resolve_left (by decide)
@[simp] theorem setBits_mbx (s : State) (a : Nat) (m : Word) : (setBits s a m).mbx = s.mbx :=
  (setBits_changes s a m .mbx).resolve_left (by decide)
@[simp] theorem setBits_mctp (s : State) (a : Nat) (m : Word) : (setBits s a m).mctp = s.mctp :=
  (setBits_changes s a m .mctp).resolve_left (by decide)
@[simp] theorem setBits_ep0 (s : State) (a : Nat) (m : Word) : (setBits s a m).ep0 = s.ep0 :=
  (setBits_changes s a m .ep0).resolve_left (by decide)
@[simp] theorem setBits_ep1 (s : State) (a : Nat) (m : Word) : (setBits s a m).ep1 = s.ep1 :=
  (setBits_changes s a m .ep1).resolve_left (by decide)
@[simp] theorem setBits_rings (s : State) (a : Nat) (m : Word) : (setBits s a m).rings = s.rings :=
  (setBits_changes s a m .rings).resolve_left (by decide)
@[simp] theorem setBits_pkts (s : State) (a : Nat) (m : Word) : (setBits s a m).pkts = s.pkts :=
  (setBits_changes s a m .pkts).resolve_left (by decide)
@[simp] theorem setBits_nextPid (s : State) (a : Nat) (m : Word) : (setBits s a m).nextPid = s.nextPid :=
  (setBits_changes s a m .nextPid).resolve_left (by decide)
@[simp] theorem setBits_basin (s : State) (a : Nat) (m : Word) : (setBits s a m).basin = s.basin :=
  (setBits_changes s a m .basin).resolve_left (by decide)
@[simp] theorem setBits_plane (s : State) (a : Nat) (m : Word) : (setBits s a m).plane = s.plane :=
  (setBits_changes s a m .plane).resolve_left (by decide)
@[simp] theorem setBits_rasp (s : State) (a : Nat) (m : Word) : (setBits s a m).rasp = s.rasp :=
  (setBits_changes s a m .rasp).resolve_left (by decide)
@[simp] theorem setBits_jig (s : State) (a : Nat) (m : Word) : (setBits s a m).jig = s.jig :=
  (setBits_changes s a m .jig).resolve_left (by decide)
@[simp] theorem setBits_cst (s : State) (a : Nat) (m : Word) : (setBits s a m).cst = s.cst :=
  (setBits_changes s a m .cst).resolve_left (by decide)
@[simp] theorem setBits_sqr (s : State) (a : Nat) (m : Word) : (setBits s a m).sqr = s.sqr :=
  (setBits_changes s a m .sqr).resolve_left (by decide)
@[simp] theorem setBits_act (s : State) (a : Nat) (m : Word) : (setBits s a m).act = s.act :=
  (setBits_changes s a m .act).resolve_left (by decide)
@[simp] theorem setBits_csc (s : State) (a : Nat) (m : Word) : (setBits s a m).csc = s.csc :=
  (setBits_changes s a m .csc).resolve_left (by decide)
@[simp] theorem setBits_twin (s : State) (a : Nat) (m : Word) : (setBits s a m).twin = s.twin :=
  (setBits_changes s a m .twin).resolve_left (by decide)
@[simp] theorem setBits_prp (s : State) (a : Nat) (m : Word) : (setBits s a m).prp = s.prp :=
  (setBits_changes s a m .prp).resolve_left (by decide)
@[simp] theorem setBits_itw (s : State) (a : Nat) (m : Word) : (setBits s a m).itw = s.itw :=
  (setBits_changes s a m .itw).resolve_left (by decide)
@[simp] theorem setBits_cry (s : State) (a : Nat) (m : Word) : (setBits s a m).cry = s.cry :=
  (setBits_changes s a m .cry).resolve_left (by decide)
@[simp] theorem setBits_nvt (s : State) (a : Nat) (m : Word) : (setBits s a m).nvt = s.nvt :=
  (setBits_changes s a m .nvt).resolve_left (by decide)
@[simp] theorem setBits_port0 (s : State) (a : Nat) (m : Word) : (setBits s a m).port0 = s.port0 :=
  (setBits_changes s a m .port0).resolve_left (by decide)
@[simp] theorem setBits_port1 (s : State) (a : Nat) (m : Word) : (setBits s a m).port1 = s.port1 :=
  (setBits_changes s a m .port1).resolve_left (by decide)
@[simp] theorem setBits_macs (s : State) (a : Nat) (m : Word) : (setBits s a m).macs = s.macs :=
  (setBits_changes s a m .macs).resolve_left (by decide)
@[simp] theorem setBits_weir (s : State) (a : Nat) (m : Word) : (setBits s a m).weir = s.weir :=
  (setBits_changes s a m .weir).resolve_left (by decide)
@[simp] theorem setBits_time (s : State) (a : Nat) (m : Word) : (setBits s a m).time = s.time :=
  (setBits_changes s a m .time).resolve_left (by decide)
@[simp] theorem setBits_tio (s : State) (a : Nat) (m : Word) : (setBits s a m).tio = s.tio :=
  (setBits_changes s a m .tio).resolve_left (by decide)
@[simp] theorem setBits_plb (s : State) (a : Nat) (m : Word) : (setBits s a m).plb = s.plb :=
  (setBits_changes s a m .plb).resolve_left (by decide)
@[simp] theorem setBits_ptp (s : State) (a : Nat) (m : Word) : (setBits s a m).ptp = s.ptp :=
  (setBits_changes s a m .ptp).resolve_left (by decide)
@[simp] theorem setBits_hbm (s : State) (a : Nat) (m : Word) : (setBits s a m).hbm = s.hbm :=
  (setBits_changes s a m .hbm).resolve_left (by decide)
@[simp] theorem setBits_gauge (s : State) (a : Nat) (m : Word) : (setBits s a m).gauge = s.gauge :=
  (setBits_changes s a m .gauge).resolve_left (by decide)
@[simp] theorem setBits_tap (s : State) (a : Nat) (m : Word) : (setBits s a m).tap = s.tap :=
  (setBits_changes s a m .tap).resolve_left (by decide)
@[simp] theorem setBits_latches (s : State) (a : Nat) (m : Word) : (setBits s a m).latches = s.latches :=
  (setBits_changes s a m .latches).resolve_left (by decide)
@[simp] theorem setBits_mem (s : State) (a : Nat) (m : Word) : (setBits s a m).mem = s.mem :=
  (setBits_changes s a m .mem).resolve_left (by decide)
@[simp] theorem setBits_out (s : State) (a : Nat) (m : Word) : (setBits s a m).out = s.out :=
  (setBits_changes s a m .out).resolve_left (by decide)
@[simp] theorem setBits_fresh (s : State) (a : Nat) (m : Word) : (setBits s a m).fresh = s.fresh :=
  (setBits_changes s a m .fresh).resolve_left (by decide)

@[simp] theorem capture_pending (s : State) (a v : Nat) : (capture s a v).pending = s.pending :=
  (capture_changes s a v .pending).resolve_left (by decide)
@[simp] theorem capture_dev (s : State) (a v : Nat) : (capture s a v).dev = s.dev :=
  (capture_changes s a v .dev).resolve_left (by decide)
@[simp] theorem capture_hw (s : State) (a v : Nat) : (capture s a v).hw = s.hw :=
  (capture_changes s a v .hw).resolve_left (by decide)
@[simp] theorem capture_fw (s : State) (a v : Nat) : (capture s a v).fw = s.fw :=
  (capture_changes s a v .fw).resolve_left (by decide)
@[simp] theorem capture_flash (s : State) (a v : Nat) : (capture s a v).flash = s.flash :=
  (capture_changes s a v .flash).resolve_left (by decide)
@[simp] theorem capture_role (s : State) (a v : Nat) : (capture s a v).role = s.role :=
  (capture_changes s a v .role).resolve_left (by decide)
@[simp] theorem capture_slices (s : State) (a v : Nat) : (capture s a v).slices = s.slices :=
  (capture_changes s a v .slices).resolve_left (by decide)
@[simp] theorem capture_mbx (s : State) (a v : Nat) : (capture s a v).mbx = s.mbx :=
  (capture_changes s a v .mbx).resolve_left (by decide)
@[simp] theorem capture_mctp (s : State) (a v : Nat) : (capture s a v).mctp = s.mctp :=
  (capture_changes s a v .mctp).resolve_left (by decide)
@[simp] theorem capture_ep0 (s : State) (a v : Nat) : (capture s a v).ep0 = s.ep0 :=
  (capture_changes s a v .ep0).resolve_left (by decide)
@[simp] theorem capture_ep1 (s : State) (a v : Nat) : (capture s a v).ep1 = s.ep1 :=
  (capture_changes s a v .ep1).resolve_left (by decide)
@[simp] theorem capture_rings (s : State) (a v : Nat) : (capture s a v).rings = s.rings :=
  (capture_changes s a v .rings).resolve_left (by decide)
@[simp] theorem capture_pkts (s : State) (a v : Nat) : (capture s a v).pkts = s.pkts :=
  (capture_changes s a v .pkts).resolve_left (by decide)
@[simp] theorem capture_nextPid (s : State) (a v : Nat) : (capture s a v).nextPid = s.nextPid :=
  (capture_changes s a v .nextPid).resolve_left (by decide)
@[simp] theorem capture_basin (s : State) (a v : Nat) : (capture s a v).basin = s.basin :=
  (capture_changes s a v .basin).resolve_left (by decide)
@[simp] theorem capture_plane (s : State) (a v : Nat) : (capture s a v).plane = s.plane :=
  (capture_changes s a v .plane).resolve_left (by decide)
@[simp] theorem capture_rasp (s : State) (a v : Nat) : (capture s a v).rasp = s.rasp :=
  (capture_changes s a v .rasp).resolve_left (by decide)
@[simp] theorem capture_jig (s : State) (a v : Nat) : (capture s a v).jig = s.jig :=
  (capture_changes s a v .jig).resolve_left (by decide)
@[simp] theorem capture_cst (s : State) (a v : Nat) : (capture s a v).cst = s.cst :=
  (capture_changes s a v .cst).resolve_left (by decide)
@[simp] theorem capture_sqr (s : State) (a v : Nat) : (capture s a v).sqr = s.sqr :=
  (capture_changes s a v .sqr).resolve_left (by decide)
@[simp] theorem capture_act (s : State) (a v : Nat) : (capture s a v).act = s.act :=
  (capture_changes s a v .act).resolve_left (by decide)
@[simp] theorem capture_csc (s : State) (a v : Nat) : (capture s a v).csc = s.csc :=
  (capture_changes s a v .csc).resolve_left (by decide)
@[simp] theorem capture_twin (s : State) (a v : Nat) : (capture s a v).twin = s.twin :=
  (capture_changes s a v .twin).resolve_left (by decide)
@[simp] theorem capture_prp (s : State) (a v : Nat) : (capture s a v).prp = s.prp :=
  (capture_changes s a v .prp).resolve_left (by decide)
@[simp] theorem capture_itw (s : State) (a v : Nat) : (capture s a v).itw = s.itw :=
  (capture_changes s a v .itw).resolve_left (by decide)
@[simp] theorem capture_cry (s : State) (a v : Nat) : (capture s a v).cry = s.cry :=
  (capture_changes s a v .cry).resolve_left (by decide)
@[simp] theorem capture_nvt (s : State) (a v : Nat) : (capture s a v).nvt = s.nvt :=
  (capture_changes s a v .nvt).resolve_left (by decide)
@[simp] theorem capture_port0 (s : State) (a v : Nat) : (capture s a v).port0 = s.port0 :=
  (capture_changes s a v .port0).resolve_left (by decide)
@[simp] theorem capture_port1 (s : State) (a v : Nat) : (capture s a v).port1 = s.port1 :=
  (capture_changes s a v .port1).resolve_left (by decide)
@[simp] theorem capture_macs (s : State) (a v : Nat) : (capture s a v).macs = s.macs :=
  (capture_changes s a v .macs).resolve_left (by decide)
@[simp] theorem capture_weir (s : State) (a v : Nat) : (capture s a v).weir = s.weir :=
  (capture_changes s a v .weir).resolve_left (by decide)
@[simp] theorem capture_time (s : State) (a v : Nat) : (capture s a v).time = s.time :=
  (capture_changes s a v .time).resolve_left (by decide)
@[simp] theorem capture_tio (s : State) (a v : Nat) : (capture s a v).tio = s.tio :=
  (capture_changes s a v .tio).resolve_left (by decide)
@[simp] theorem capture_plb (s : State) (a v : Nat) : (capture s a v).plb = s.plb :=
  (capture_changes s a v .plb).resolve_left (by decide)
@[simp] theorem capture_ptp (s : State) (a v : Nat) : (capture s a v).ptp = s.ptp :=
  (capture_changes s a v .ptp).resolve_left (by decide)
@[simp] theorem capture_hbm (s : State) (a v : Nat) : (capture s a v).hbm = s.hbm :=
  (capture_changes s a v .hbm).resolve_left (by decide)
@[simp] theorem capture_gauge (s : State) (a v : Nat) : (capture s a v).gauge = s.gauge :=
  (capture_changes s a v .gauge).resolve_left (by decide)
@[simp] theorem capture_tap (s : State) (a v : Nat) : (capture s a v).tap = s.tap :=
  (capture_changes s a v .tap).resolve_left (by decide)
@[simp] theorem capture_latches (s : State) (a v : Nat) : (capture s a v).latches = s.latches :=
  (capture_changes s a v .latches).resolve_left (by decide)
@[simp] theorem capture_mem (s : State) (a v : Nat) : (capture s a v).mem = s.mem :=
  (capture_changes s a v .mem).resolve_left (by decide)
@[simp] theorem capture_out (s : State) (a v : Nat) : (capture s a v).out = s.out :=
  (capture_changes s a v .out).resolve_left (by decide)
@[simp] theorem capture_fresh (s : State) (a v : Nat) : (capture s a v).fresh = s.fresh :=
  (capture_changes s a v .fresh).resolve_left (by decide)

@[simp] theorem trace_pending (s : State) (source kind flags slice sample : Nat) (data : Bytes) : (trace s source kind flags slice sample data).pending = s.pending :=
  (trace_changes s source kind flags slice sample data .pending).resolve_left (by decide)
@[simp] theorem trace_dev (s : State) (source kind flags slice sample : Nat) (data : Bytes) : (trace s source kind flags slice sample data).dev = s.dev :=
  (trace_changes s source kind flags slice sample data .dev).resolve_left (by decide)
@[simp] theorem trace_hw (s : State) (source kind flags slice sample : Nat) (data : Bytes) : (trace s source kind flags slice sample data).hw = s.hw :=
  (trace_changes s source kind flags slice sample data .hw).resolve_left (by decide)
@[simp] theorem trace_fw (s : State) (source kind flags slice sample : Nat) (data : Bytes) : (trace s source kind flags slice sample data).fw = s.fw :=
  (trace_changes s source kind flags slice sample data .fw).resolve_left (by decide)
@[simp] theorem trace_flash (s : State) (source kind flags slice sample : Nat) (data : Bytes) : (trace s source kind flags slice sample data).flash = s.flash :=
  (trace_changes s source kind flags slice sample data .flash).resolve_left (by decide)
@[simp] theorem trace_role (s : State) (source kind flags slice sample : Nat) (data : Bytes) : (trace s source kind flags slice sample data).role = s.role :=
  (trace_changes s source kind flags slice sample data .role).resolve_left (by decide)
@[simp] theorem trace_slices (s : State) (source kind flags slice sample : Nat) (data : Bytes) : (trace s source kind flags slice sample data).slices = s.slices :=
  (trace_changes s source kind flags slice sample data .slices).resolve_left (by decide)
@[simp] theorem trace_mbx (s : State) (source kind flags slice sample : Nat) (data : Bytes) : (trace s source kind flags slice sample data).mbx = s.mbx :=
  (trace_changes s source kind flags slice sample data .mbx).resolve_left (by decide)
@[simp] theorem trace_mctp (s : State) (source kind flags slice sample : Nat) (data : Bytes) : (trace s source kind flags slice sample data).mctp = s.mctp :=
  (trace_changes s source kind flags slice sample data .mctp).resolve_left (by decide)
@[simp] theorem trace_ep0 (s : State) (source kind flags slice sample : Nat) (data : Bytes) : (trace s source kind flags slice sample data).ep0 = s.ep0 :=
  (trace_changes s source kind flags slice sample data .ep0).resolve_left (by decide)
@[simp] theorem trace_ep1 (s : State) (source kind flags slice sample : Nat) (data : Bytes) : (trace s source kind flags slice sample data).ep1 = s.ep1 :=
  (trace_changes s source kind flags slice sample data .ep1).resolve_left (by decide)
@[simp] theorem trace_rings (s : State) (source kind flags slice sample : Nat) (data : Bytes) : (trace s source kind flags slice sample data).rings = s.rings :=
  (trace_changes s source kind flags slice sample data .rings).resolve_left (by decide)
@[simp] theorem trace_pkts (s : State) (source kind flags slice sample : Nat) (data : Bytes) : (trace s source kind flags slice sample data).pkts = s.pkts :=
  (trace_changes s source kind flags slice sample data .pkts).resolve_left (by decide)
@[simp] theorem trace_nextPid (s : State) (source kind flags slice sample : Nat) (data : Bytes) : (trace s source kind flags slice sample data).nextPid = s.nextPid :=
  (trace_changes s source kind flags slice sample data .nextPid).resolve_left (by decide)
@[simp] theorem trace_basin (s : State) (source kind flags slice sample : Nat) (data : Bytes) : (trace s source kind flags slice sample data).basin = s.basin :=
  (trace_changes s source kind flags slice sample data .basin).resolve_left (by decide)
@[simp] theorem trace_plane (s : State) (source kind flags slice sample : Nat) (data : Bytes) : (trace s source kind flags slice sample data).plane = s.plane :=
  (trace_changes s source kind flags slice sample data .plane).resolve_left (by decide)
@[simp] theorem trace_rasp (s : State) (source kind flags slice sample : Nat) (data : Bytes) : (trace s source kind flags slice sample data).rasp = s.rasp :=
  (trace_changes s source kind flags slice sample data .rasp).resolve_left (by decide)
@[simp] theorem trace_jig (s : State) (source kind flags slice sample : Nat) (data : Bytes) : (trace s source kind flags slice sample data).jig = s.jig :=
  (trace_changes s source kind flags slice sample data .jig).resolve_left (by decide)
@[simp] theorem trace_cst (s : State) (source kind flags slice sample : Nat) (data : Bytes) : (trace s source kind flags slice sample data).cst = s.cst :=
  (trace_changes s source kind flags slice sample data .cst).resolve_left (by decide)
@[simp] theorem trace_sqr (s : State) (source kind flags slice sample : Nat) (data : Bytes) : (trace s source kind flags slice sample data).sqr = s.sqr :=
  (trace_changes s source kind flags slice sample data .sqr).resolve_left (by decide)
@[simp] theorem trace_act (s : State) (source kind flags slice sample : Nat) (data : Bytes) : (trace s source kind flags slice sample data).act = s.act :=
  (trace_changes s source kind flags slice sample data .act).resolve_left (by decide)
@[simp] theorem trace_csc (s : State) (source kind flags slice sample : Nat) (data : Bytes) : (trace s source kind flags slice sample data).csc = s.csc :=
  (trace_changes s source kind flags slice sample data .csc).resolve_left (by decide)
@[simp] theorem trace_twin (s : State) (source kind flags slice sample : Nat) (data : Bytes) : (trace s source kind flags slice sample data).twin = s.twin :=
  (trace_changes s source kind flags slice sample data .twin).resolve_left (by decide)
@[simp] theorem trace_prp (s : State) (source kind flags slice sample : Nat) (data : Bytes) : (trace s source kind flags slice sample data).prp = s.prp :=
  (trace_changes s source kind flags slice sample data .prp).resolve_left (by decide)
@[simp] theorem trace_itw (s : State) (source kind flags slice sample : Nat) (data : Bytes) : (trace s source kind flags slice sample data).itw = s.itw :=
  (trace_changes s source kind flags slice sample data .itw).resolve_left (by decide)
@[simp] theorem trace_cry (s : State) (source kind flags slice sample : Nat) (data : Bytes) : (trace s source kind flags slice sample data).cry = s.cry :=
  (trace_changes s source kind flags slice sample data .cry).resolve_left (by decide)
@[simp] theorem trace_nvt (s : State) (source kind flags slice sample : Nat) (data : Bytes) : (trace s source kind flags slice sample data).nvt = s.nvt :=
  (trace_changes s source kind flags slice sample data .nvt).resolve_left (by decide)
@[simp] theorem trace_port0 (s : State) (source kind flags slice sample : Nat) (data : Bytes) : (trace s source kind flags slice sample data).port0 = s.port0 :=
  (trace_changes s source kind flags slice sample data .port0).resolve_left (by decide)
@[simp] theorem trace_port1 (s : State) (source kind flags slice sample : Nat) (data : Bytes) : (trace s source kind flags slice sample data).port1 = s.port1 :=
  (trace_changes s source kind flags slice sample data .port1).resolve_left (by decide)
@[simp] theorem trace_macs (s : State) (source kind flags slice sample : Nat) (data : Bytes) : (trace s source kind flags slice sample data).macs = s.macs :=
  (trace_changes s source kind flags slice sample data .macs).resolve_left (by decide)
@[simp] theorem trace_weir (s : State) (source kind flags slice sample : Nat) (data : Bytes) : (trace s source kind flags slice sample data).weir = s.weir :=
  (trace_changes s source kind flags slice sample data .weir).resolve_left (by decide)
@[simp] theorem trace_time (s : State) (source kind flags slice sample : Nat) (data : Bytes) : (trace s source kind flags slice sample data).time = s.time :=
  (trace_changes s source kind flags slice sample data .time).resolve_left (by decide)
@[simp] theorem trace_tio (s : State) (source kind flags slice sample : Nat) (data : Bytes) : (trace s source kind flags slice sample data).tio = s.tio :=
  (trace_changes s source kind flags slice sample data .tio).resolve_left (by decide)
@[simp] theorem trace_plb (s : State) (source kind flags slice sample : Nat) (data : Bytes) : (trace s source kind flags slice sample data).plb = s.plb :=
  (trace_changes s source kind flags slice sample data .plb).resolve_left (by decide)
@[simp] theorem trace_ptp (s : State) (source kind flags slice sample : Nat) (data : Bytes) : (trace s source kind flags slice sample data).ptp = s.ptp :=
  (trace_changes s source kind flags slice sample data .ptp).resolve_left (by decide)
@[simp] theorem trace_hbm (s : State) (source kind flags slice sample : Nat) (data : Bytes) : (trace s source kind flags slice sample data).hbm = s.hbm :=
  (trace_changes s source kind flags slice sample data .hbm).resolve_left (by decide)
@[simp] theorem trace_tap (s : State) (source kind flags slice sample : Nat) (data : Bytes) : (trace s source kind flags slice sample data).tap = s.tap :=
  (trace_changes s source kind flags slice sample data .tap).resolve_left (by decide)
@[simp] theorem trace_latches (s : State) (source kind flags slice sample : Nat) (data : Bytes) : (trace s source kind flags slice sample data).latches = s.latches :=
  (trace_changes s source kind flags slice sample data .latches).resolve_left (by decide)
@[simp] theorem trace_mem (s : State) (source kind flags slice sample : Nat) (data : Bytes) : (trace s source kind flags slice sample data).mem = s.mem :=
  (trace_changes s source kind flags slice sample data .mem).resolve_left (by decide)
@[simp] theorem trace_out (s : State) (source kind flags slice sample : Nat) (data : Bytes) : (trace s source kind flags slice sample data).out = s.out :=
  (trace_changes s source kind flags slice sample data .out).resolve_left (by decide)
@[simp] theorem trace_fresh (s : State) (source kind flags slice sample : Nat) (data : Bytes) : (trace s source kind flags slice sample data).fresh = s.fresh :=
  (trace_changes s source kind flags slice sample data .fresh).resolve_left (by decide)

@[simp] theorem mgrEvent_pending (s : State) (ep bit : Nat) : (mgrEvent s ep bit).pending = s.pending :=
  (mgrEvent_changes s ep bit .pending).resolve_left (by decide)
@[simp] theorem mgrEvent_dev (s : State) (ep bit : Nat) : (mgrEvent s ep bit).dev = s.dev :=
  (mgrEvent_changes s ep bit .dev).resolve_left (by decide)
@[simp] theorem mgrEvent_hw (s : State) (ep bit : Nat) : (mgrEvent s ep bit).hw = s.hw :=
  (mgrEvent_changes s ep bit .hw).resolve_left (by decide)
@[simp] theorem mgrEvent_fw (s : State) (ep bit : Nat) : (mgrEvent s ep bit).fw = s.fw :=
  (mgrEvent_changes s ep bit .fw).resolve_left (by decide)
@[simp] theorem mgrEvent_flash (s : State) (ep bit : Nat) : (mgrEvent s ep bit).flash = s.flash :=
  (mgrEvent_changes s ep bit .flash).resolve_left (by decide)
@[simp] theorem mgrEvent_role (s : State) (ep bit : Nat) : (mgrEvent s ep bit).role = s.role :=
  (mgrEvent_changes s ep bit .role).resolve_left (by decide)
@[simp] theorem mgrEvent_slices (s : State) (ep bit : Nat) : (mgrEvent s ep bit).slices = s.slices :=
  (mgrEvent_changes s ep bit .slices).resolve_left (by decide)
@[simp] theorem mgrEvent_mbx (s : State) (ep bit : Nat) : (mgrEvent s ep bit).mbx = s.mbx :=
  (mgrEvent_changes s ep bit .mbx).resolve_left (by decide)
@[simp] theorem mgrEvent_mctp (s : State) (ep bit : Nat) : (mgrEvent s ep bit).mctp = s.mctp :=
  (mgrEvent_changes s ep bit .mctp).resolve_left (by decide)
@[simp] theorem mgrEvent_rings (s : State) (ep bit : Nat) : (mgrEvent s ep bit).rings = s.rings :=
  (mgrEvent_changes s ep bit .rings).resolve_left (by decide)
@[simp] theorem mgrEvent_pkts (s : State) (ep bit : Nat) : (mgrEvent s ep bit).pkts = s.pkts :=
  (mgrEvent_changes s ep bit .pkts).resolve_left (by decide)
@[simp] theorem mgrEvent_nextPid (s : State) (ep bit : Nat) : (mgrEvent s ep bit).nextPid = s.nextPid :=
  (mgrEvent_changes s ep bit .nextPid).resolve_left (by decide)
@[simp] theorem mgrEvent_basin (s : State) (ep bit : Nat) : (mgrEvent s ep bit).basin = s.basin :=
  (mgrEvent_changes s ep bit .basin).resolve_left (by decide)
@[simp] theorem mgrEvent_plane (s : State) (ep bit : Nat) : (mgrEvent s ep bit).plane = s.plane :=
  (mgrEvent_changes s ep bit .plane).resolve_left (by decide)
@[simp] theorem mgrEvent_rasp (s : State) (ep bit : Nat) : (mgrEvent s ep bit).rasp = s.rasp :=
  (mgrEvent_changes s ep bit .rasp).resolve_left (by decide)
@[simp] theorem mgrEvent_jig (s : State) (ep bit : Nat) : (mgrEvent s ep bit).jig = s.jig :=
  (mgrEvent_changes s ep bit .jig).resolve_left (by decide)
@[simp] theorem mgrEvent_cst (s : State) (ep bit : Nat) : (mgrEvent s ep bit).cst = s.cst :=
  (mgrEvent_changes s ep bit .cst).resolve_left (by decide)
@[simp] theorem mgrEvent_sqr (s : State) (ep bit : Nat) : (mgrEvent s ep bit).sqr = s.sqr :=
  (mgrEvent_changes s ep bit .sqr).resolve_left (by decide)
@[simp] theorem mgrEvent_act (s : State) (ep bit : Nat) : (mgrEvent s ep bit).act = s.act :=
  (mgrEvent_changes s ep bit .act).resolve_left (by decide)
@[simp] theorem mgrEvent_csc (s : State) (ep bit : Nat) : (mgrEvent s ep bit).csc = s.csc :=
  (mgrEvent_changes s ep bit .csc).resolve_left (by decide)
@[simp] theorem mgrEvent_twin (s : State) (ep bit : Nat) : (mgrEvent s ep bit).twin = s.twin :=
  (mgrEvent_changes s ep bit .twin).resolve_left (by decide)
@[simp] theorem mgrEvent_prp (s : State) (ep bit : Nat) : (mgrEvent s ep bit).prp = s.prp :=
  (mgrEvent_changes s ep bit .prp).resolve_left (by decide)
@[simp] theorem mgrEvent_itw (s : State) (ep bit : Nat) : (mgrEvent s ep bit).itw = s.itw :=
  (mgrEvent_changes s ep bit .itw).resolve_left (by decide)
@[simp] theorem mgrEvent_cry (s : State) (ep bit : Nat) : (mgrEvent s ep bit).cry = s.cry :=
  (mgrEvent_changes s ep bit .cry).resolve_left (by decide)
@[simp] theorem mgrEvent_nvt (s : State) (ep bit : Nat) : (mgrEvent s ep bit).nvt = s.nvt :=
  (mgrEvent_changes s ep bit .nvt).resolve_left (by decide)
@[simp] theorem mgrEvent_port0 (s : State) (ep bit : Nat) : (mgrEvent s ep bit).port0 = s.port0 :=
  (mgrEvent_changes s ep bit .port0).resolve_left (by decide)
@[simp] theorem mgrEvent_port1 (s : State) (ep bit : Nat) : (mgrEvent s ep bit).port1 = s.port1 :=
  (mgrEvent_changes s ep bit .port1).resolve_left (by decide)
@[simp] theorem mgrEvent_macs (s : State) (ep bit : Nat) : (mgrEvent s ep bit).macs = s.macs :=
  (mgrEvent_changes s ep bit .macs).resolve_left (by decide)
@[simp] theorem mgrEvent_weir (s : State) (ep bit : Nat) : (mgrEvent s ep bit).weir = s.weir :=
  (mgrEvent_changes s ep bit .weir).resolve_left (by decide)
@[simp] theorem mgrEvent_time (s : State) (ep bit : Nat) : (mgrEvent s ep bit).time = s.time :=
  (mgrEvent_changes s ep bit .time).resolve_left (by decide)
@[simp] theorem mgrEvent_tio (s : State) (ep bit : Nat) : (mgrEvent s ep bit).tio = s.tio :=
  (mgrEvent_changes s ep bit .tio).resolve_left (by decide)
@[simp] theorem mgrEvent_plb (s : State) (ep bit : Nat) : (mgrEvent s ep bit).plb = s.plb :=
  (mgrEvent_changes s ep bit .plb).resolve_left (by decide)
@[simp] theorem mgrEvent_ptp (s : State) (ep bit : Nat) : (mgrEvent s ep bit).ptp = s.ptp :=
  (mgrEvent_changes s ep bit .ptp).resolve_left (by decide)
@[simp] theorem mgrEvent_hbm (s : State) (ep bit : Nat) : (mgrEvent s ep bit).hbm = s.hbm :=
  (mgrEvent_changes s ep bit .hbm).resolve_left (by decide)
@[simp] theorem mgrEvent_gauge (s : State) (ep bit : Nat) : (mgrEvent s ep bit).gauge = s.gauge :=
  (mgrEvent_changes s ep bit .gauge).resolve_left (by decide)
@[simp] theorem mgrEvent_tap (s : State) (ep bit : Nat) : (mgrEvent s ep bit).tap = s.tap :=
  (mgrEvent_changes s ep bit .tap).resolve_left (by decide)
@[simp] theorem mgrEvent_latches (s : State) (ep bit : Nat) : (mgrEvent s ep bit).latches = s.latches :=
  (mgrEvent_changes s ep bit .latches).resolve_left (by decide)
@[simp] theorem mgrEvent_mem (s : State) (ep bit : Nat) : (mgrEvent s ep bit).mem = s.mem :=
  (mgrEvent_changes s ep bit .mem).resolve_left (by decide)
@[simp] theorem mgrEvent_out (s : State) (ep bit : Nat) : (mgrEvent s ep bit).out = s.out :=
  (mgrEvent_changes s ep bit .out).resolve_left (by decide)
@[simp] theorem mgrEvent_fresh (s : State) (ep bit : Nat) : (mgrEvent s ep bit).fresh = s.fresh :=
  (mgrEvent_changes s ep bit .fresh).resolve_left (by decide)

@[simp] theorem mgrEventBoth_pending (s : State) (bit : Nat) : (mgrEventBoth s bit).pending = s.pending :=
  (mgrEventBoth_changes s bit .pending).resolve_left (by decide)
@[simp] theorem mgrEventBoth_dev (s : State) (bit : Nat) : (mgrEventBoth s bit).dev = s.dev :=
  (mgrEventBoth_changes s bit .dev).resolve_left (by decide)
@[simp] theorem mgrEventBoth_hw (s : State) (bit : Nat) : (mgrEventBoth s bit).hw = s.hw :=
  (mgrEventBoth_changes s bit .hw).resolve_left (by decide)
@[simp] theorem mgrEventBoth_fw (s : State) (bit : Nat) : (mgrEventBoth s bit).fw = s.fw :=
  (mgrEventBoth_changes s bit .fw).resolve_left (by decide)
@[simp] theorem mgrEventBoth_flash (s : State) (bit : Nat) : (mgrEventBoth s bit).flash = s.flash :=
  (mgrEventBoth_changes s bit .flash).resolve_left (by decide)
@[simp] theorem mgrEventBoth_role (s : State) (bit : Nat) : (mgrEventBoth s bit).role = s.role :=
  (mgrEventBoth_changes s bit .role).resolve_left (by decide)
@[simp] theorem mgrEventBoth_slices (s : State) (bit : Nat) : (mgrEventBoth s bit).slices = s.slices :=
  (mgrEventBoth_changes s bit .slices).resolve_left (by decide)
@[simp] theorem mgrEventBoth_mbx (s : State) (bit : Nat) : (mgrEventBoth s bit).mbx = s.mbx :=
  (mgrEventBoth_changes s bit .mbx).resolve_left (by decide)
@[simp] theorem mgrEventBoth_mctp (s : State) (bit : Nat) : (mgrEventBoth s bit).mctp = s.mctp :=
  (mgrEventBoth_changes s bit .mctp).resolve_left (by decide)
@[simp] theorem mgrEventBoth_rings (s : State) (bit : Nat) : (mgrEventBoth s bit).rings = s.rings :=
  (mgrEventBoth_changes s bit .rings).resolve_left (by decide)
@[simp] theorem mgrEventBoth_pkts (s : State) (bit : Nat) : (mgrEventBoth s bit).pkts = s.pkts :=
  (mgrEventBoth_changes s bit .pkts).resolve_left (by decide)
@[simp] theorem mgrEventBoth_nextPid (s : State) (bit : Nat) : (mgrEventBoth s bit).nextPid = s.nextPid :=
  (mgrEventBoth_changes s bit .nextPid).resolve_left (by decide)
@[simp] theorem mgrEventBoth_basin (s : State) (bit : Nat) : (mgrEventBoth s bit).basin = s.basin :=
  (mgrEventBoth_changes s bit .basin).resolve_left (by decide)
@[simp] theorem mgrEventBoth_plane (s : State) (bit : Nat) : (mgrEventBoth s bit).plane = s.plane :=
  (mgrEventBoth_changes s bit .plane).resolve_left (by decide)
@[simp] theorem mgrEventBoth_rasp (s : State) (bit : Nat) : (mgrEventBoth s bit).rasp = s.rasp :=
  (mgrEventBoth_changes s bit .rasp).resolve_left (by decide)
@[simp] theorem mgrEventBoth_jig (s : State) (bit : Nat) : (mgrEventBoth s bit).jig = s.jig :=
  (mgrEventBoth_changes s bit .jig).resolve_left (by decide)
@[simp] theorem mgrEventBoth_cst (s : State) (bit : Nat) : (mgrEventBoth s bit).cst = s.cst :=
  (mgrEventBoth_changes s bit .cst).resolve_left (by decide)
@[simp] theorem mgrEventBoth_sqr (s : State) (bit : Nat) : (mgrEventBoth s bit).sqr = s.sqr :=
  (mgrEventBoth_changes s bit .sqr).resolve_left (by decide)
@[simp] theorem mgrEventBoth_act (s : State) (bit : Nat) : (mgrEventBoth s bit).act = s.act :=
  (mgrEventBoth_changes s bit .act).resolve_left (by decide)
@[simp] theorem mgrEventBoth_csc (s : State) (bit : Nat) : (mgrEventBoth s bit).csc = s.csc :=
  (mgrEventBoth_changes s bit .csc).resolve_left (by decide)
@[simp] theorem mgrEventBoth_twin (s : State) (bit : Nat) : (mgrEventBoth s bit).twin = s.twin :=
  (mgrEventBoth_changes s bit .twin).resolve_left (by decide)
@[simp] theorem mgrEventBoth_prp (s : State) (bit : Nat) : (mgrEventBoth s bit).prp = s.prp :=
  (mgrEventBoth_changes s bit .prp).resolve_left (by decide)
@[simp] theorem mgrEventBoth_itw (s : State) (bit : Nat) : (mgrEventBoth s bit).itw = s.itw :=
  (mgrEventBoth_changes s bit .itw).resolve_left (by decide)
@[simp] theorem mgrEventBoth_cry (s : State) (bit : Nat) : (mgrEventBoth s bit).cry = s.cry :=
  (mgrEventBoth_changes s bit .cry).resolve_left (by decide)
@[simp] theorem mgrEventBoth_nvt (s : State) (bit : Nat) : (mgrEventBoth s bit).nvt = s.nvt :=
  (mgrEventBoth_changes s bit .nvt).resolve_left (by decide)
@[simp] theorem mgrEventBoth_port0 (s : State) (bit : Nat) : (mgrEventBoth s bit).port0 = s.port0 :=
  (mgrEventBoth_changes s bit .port0).resolve_left (by decide)
@[simp] theorem mgrEventBoth_port1 (s : State) (bit : Nat) : (mgrEventBoth s bit).port1 = s.port1 :=
  (mgrEventBoth_changes s bit .port1).resolve_left (by decide)
@[simp] theorem mgrEventBoth_macs (s : State) (bit : Nat) : (mgrEventBoth s bit).macs = s.macs :=
  (mgrEventBoth_changes s bit .macs).resolve_left (by decide)
@[simp] theorem mgrEventBoth_weir (s : State) (bit : Nat) : (mgrEventBoth s bit).weir = s.weir :=
  (mgrEventBoth_changes s bit .weir).resolve_left (by decide)
@[simp] theorem mgrEventBoth_time (s : State) (bit : Nat) : (mgrEventBoth s bit).time = s.time :=
  (mgrEventBoth_changes s bit .time).resolve_left (by decide)
@[simp] theorem mgrEventBoth_tio (s : State) (bit : Nat) : (mgrEventBoth s bit).tio = s.tio :=
  (mgrEventBoth_changes s bit .tio).resolve_left (by decide)
@[simp] theorem mgrEventBoth_plb (s : State) (bit : Nat) : (mgrEventBoth s bit).plb = s.plb :=
  (mgrEventBoth_changes s bit .plb).resolve_left (by decide)
@[simp] theorem mgrEventBoth_ptp (s : State) (bit : Nat) : (mgrEventBoth s bit).ptp = s.ptp :=
  (mgrEventBoth_changes s bit .ptp).resolve_left (by decide)
@[simp] theorem mgrEventBoth_hbm (s : State) (bit : Nat) : (mgrEventBoth s bit).hbm = s.hbm :=
  (mgrEventBoth_changes s bit .hbm).resolve_left (by decide)
@[simp] theorem mgrEventBoth_gauge (s : State) (bit : Nat) : (mgrEventBoth s bit).gauge = s.gauge :=
  (mgrEventBoth_changes s bit .gauge).resolve_left (by decide)
@[simp] theorem mgrEventBoth_tap (s : State) (bit : Nat) : (mgrEventBoth s bit).tap = s.tap :=
  (mgrEventBoth_changes s bit .tap).resolve_left (by decide)
@[simp] theorem mgrEventBoth_latches (s : State) (bit : Nat) : (mgrEventBoth s bit).latches = s.latches :=
  (mgrEventBoth_changes s bit .latches).resolve_left (by decide)
@[simp] theorem mgrEventBoth_mem (s : State) (bit : Nat) : (mgrEventBoth s bit).mem = s.mem :=
  (mgrEventBoth_changes s bit .mem).resolve_left (by decide)
@[simp] theorem mgrEventBoth_out (s : State) (bit : Nat) : (mgrEventBoth s bit).out = s.out :=
  (mgrEventBoth_changes s bit .out).resolve_left (by decide)
@[simp] theorem mgrEventBoth_fresh (s : State) (bit : Nat) : (mgrEventBoth s bit).fresh = s.fresh :=
  (mgrEventBoth_changes s bit .fresh).resolve_left (by decide)

@[simp] theorem vfEventAll_pending (s : State) (bit : Nat) : (vfEventAll s bit).pending = s.pending :=
  (vfEventAll_changes s bit .pending).resolve_left (by decide)
@[simp] theorem vfEventAll_dev (s : State) (bit : Nat) : (vfEventAll s bit).dev = s.dev :=
  (vfEventAll_changes s bit .dev).resolve_left (by decide)
@[simp] theorem vfEventAll_hw (s : State) (bit : Nat) : (vfEventAll s bit).hw = s.hw :=
  (vfEventAll_changes s bit .hw).resolve_left (by decide)
@[simp] theorem vfEventAll_fw (s : State) (bit : Nat) : (vfEventAll s bit).fw = s.fw :=
  (vfEventAll_changes s bit .fw).resolve_left (by decide)
@[simp] theorem vfEventAll_flash (s : State) (bit : Nat) : (vfEventAll s bit).flash = s.flash :=
  (vfEventAll_changes s bit .flash).resolve_left (by decide)
@[simp] theorem vfEventAll_role (s : State) (bit : Nat) : (vfEventAll s bit).role = s.role :=
  (vfEventAll_changes s bit .role).resolve_left (by decide)
@[simp] theorem vfEventAll_slices (s : State) (bit : Nat) : (vfEventAll s bit).slices = s.slices :=
  (vfEventAll_changes s bit .slices).resolve_left (by decide)
@[simp] theorem vfEventAll_mbx (s : State) (bit : Nat) : (vfEventAll s bit).mbx = s.mbx :=
  (vfEventAll_changes s bit .mbx).resolve_left (by decide)
@[simp] theorem vfEventAll_mctp (s : State) (bit : Nat) : (vfEventAll s bit).mctp = s.mctp :=
  (vfEventAll_changes s bit .mctp).resolve_left (by decide)
@[simp] theorem vfEventAll_rings (s : State) (bit : Nat) : (vfEventAll s bit).rings = s.rings :=
  (vfEventAll_changes s bit .rings).resolve_left (by decide)
@[simp] theorem vfEventAll_pkts (s : State) (bit : Nat) : (vfEventAll s bit).pkts = s.pkts :=
  (vfEventAll_changes s bit .pkts).resolve_left (by decide)
@[simp] theorem vfEventAll_nextPid (s : State) (bit : Nat) : (vfEventAll s bit).nextPid = s.nextPid :=
  (vfEventAll_changes s bit .nextPid).resolve_left (by decide)
@[simp] theorem vfEventAll_basin (s : State) (bit : Nat) : (vfEventAll s bit).basin = s.basin :=
  (vfEventAll_changes s bit .basin).resolve_left (by decide)
@[simp] theorem vfEventAll_plane (s : State) (bit : Nat) : (vfEventAll s bit).plane = s.plane :=
  (vfEventAll_changes s bit .plane).resolve_left (by decide)
@[simp] theorem vfEventAll_rasp (s : State) (bit : Nat) : (vfEventAll s bit).rasp = s.rasp :=
  (vfEventAll_changes s bit .rasp).resolve_left (by decide)
@[simp] theorem vfEventAll_jig (s : State) (bit : Nat) : (vfEventAll s bit).jig = s.jig :=
  (vfEventAll_changes s bit .jig).resolve_left (by decide)
@[simp] theorem vfEventAll_cst (s : State) (bit : Nat) : (vfEventAll s bit).cst = s.cst :=
  (vfEventAll_changes s bit .cst).resolve_left (by decide)
@[simp] theorem vfEventAll_sqr (s : State) (bit : Nat) : (vfEventAll s bit).sqr = s.sqr :=
  (vfEventAll_changes s bit .sqr).resolve_left (by decide)
@[simp] theorem vfEventAll_act (s : State) (bit : Nat) : (vfEventAll s bit).act = s.act :=
  (vfEventAll_changes s bit .act).resolve_left (by decide)
@[simp] theorem vfEventAll_csc (s : State) (bit : Nat) : (vfEventAll s bit).csc = s.csc :=
  (vfEventAll_changes s bit .csc).resolve_left (by decide)
@[simp] theorem vfEventAll_twin (s : State) (bit : Nat) : (vfEventAll s bit).twin = s.twin :=
  (vfEventAll_changes s bit .twin).resolve_left (by decide)
@[simp] theorem vfEventAll_prp (s : State) (bit : Nat) : (vfEventAll s bit).prp = s.prp :=
  (vfEventAll_changes s bit .prp).resolve_left (by decide)
@[simp] theorem vfEventAll_itw (s : State) (bit : Nat) : (vfEventAll s bit).itw = s.itw :=
  (vfEventAll_changes s bit .itw).resolve_left (by decide)
@[simp] theorem vfEventAll_cry (s : State) (bit : Nat) : (vfEventAll s bit).cry = s.cry :=
  (vfEventAll_changes s bit .cry).resolve_left (by decide)
@[simp] theorem vfEventAll_nvt (s : State) (bit : Nat) : (vfEventAll s bit).nvt = s.nvt :=
  (vfEventAll_changes s bit .nvt).resolve_left (by decide)
@[simp] theorem vfEventAll_port0 (s : State) (bit : Nat) : (vfEventAll s bit).port0 = s.port0 :=
  (vfEventAll_changes s bit .port0).resolve_left (by decide)
@[simp] theorem vfEventAll_port1 (s : State) (bit : Nat) : (vfEventAll s bit).port1 = s.port1 :=
  (vfEventAll_changes s bit .port1).resolve_left (by decide)
@[simp] theorem vfEventAll_macs (s : State) (bit : Nat) : (vfEventAll s bit).macs = s.macs :=
  (vfEventAll_changes s bit .macs).resolve_left (by decide)
@[simp] theorem vfEventAll_weir (s : State) (bit : Nat) : (vfEventAll s bit).weir = s.weir :=
  (vfEventAll_changes s bit .weir).resolve_left (by decide)
@[simp] theorem vfEventAll_time (s : State) (bit : Nat) : (vfEventAll s bit).time = s.time :=
  (vfEventAll_changes s bit .time).resolve_left (by decide)
@[simp] theorem vfEventAll_tio (s : State) (bit : Nat) : (vfEventAll s bit).tio = s.tio :=
  (vfEventAll_changes s bit .tio).resolve_left (by decide)
@[simp] theorem vfEventAll_plb (s : State) (bit : Nat) : (vfEventAll s bit).plb = s.plb :=
  (vfEventAll_changes s bit .plb).resolve_left (by decide)
@[simp] theorem vfEventAll_ptp (s : State) (bit : Nat) : (vfEventAll s bit).ptp = s.ptp :=
  (vfEventAll_changes s bit .ptp).resolve_left (by decide)
@[simp] theorem vfEventAll_hbm (s : State) (bit : Nat) : (vfEventAll s bit).hbm = s.hbm :=
  (vfEventAll_changes s bit .hbm).resolve_left (by decide)
@[simp] theorem vfEventAll_gauge (s : State) (bit : Nat) : (vfEventAll s bit).gauge = s.gauge :=
  (vfEventAll_changes s bit .gauge).resolve_left (by decide)
@[simp] theorem vfEventAll_tap (s : State) (bit : Nat) : (vfEventAll s bit).tap = s.tap :=
  (vfEventAll_changes s bit .tap).resolve_left (by decide)
@[simp] theorem vfEventAll_latches (s : State) (bit : Nat) : (vfEventAll s bit).latches = s.latches :=
  (vfEventAll_changes s bit .latches).resolve_left (by decide)
@[simp] theorem vfEventAll_mem (s : State) (bit : Nat) : (vfEventAll s bit).mem = s.mem :=
  (vfEventAll_changes s bit .mem).resolve_left (by decide)
@[simp] theorem vfEventAll_out (s : State) (bit : Nat) : (vfEventAll s bit).out = s.out :=
  (vfEventAll_changes s bit .out).resolve_left (by decide)
@[simp] theorem vfEventAll_fresh (s : State) (bit : Nat) : (vfEventAll s bit).fresh = s.fresh :=
  (vfEventAll_changes s bit .fresh).resolve_left (by decide)

@[simp] theorem queueEvent_pending (s : State) (ch code : Nat) (payload : Bytes) : (queueEvent s ch code payload).pending = s.pending :=
  (queueEvent_changes s ch code payload .pending).resolve_left (by decide)
@[simp] theorem queueEvent_dev (s : State) (ch code : Nat) (payload : Bytes) : (queueEvent s ch code payload).dev = s.dev :=
  (queueEvent_changes s ch code payload .dev).resolve_left (by decide)
@[simp] theorem queueEvent_hw (s : State) (ch code : Nat) (payload : Bytes) : (queueEvent s ch code payload).hw = s.hw :=
  (queueEvent_changes s ch code payload .hw).resolve_left (by decide)
@[simp] theorem queueEvent_fw (s : State) (ch code : Nat) (payload : Bytes) : (queueEvent s ch code payload).fw = s.fw :=
  (queueEvent_changes s ch code payload .fw).resolve_left (by decide)
@[simp] theorem queueEvent_flash (s : State) (ch code : Nat) (payload : Bytes) : (queueEvent s ch code payload).flash = s.flash :=
  (queueEvent_changes s ch code payload .flash).resolve_left (by decide)
@[simp] theorem queueEvent_role (s : State) (ch code : Nat) (payload : Bytes) : (queueEvent s ch code payload).role = s.role :=
  (queueEvent_changes s ch code payload .role).resolve_left (by decide)
@[simp] theorem queueEvent_slices (s : State) (ch code : Nat) (payload : Bytes) : (queueEvent s ch code payload).slices = s.slices :=
  (queueEvent_changes s ch code payload .slices).resolve_left (by decide)
@[simp] theorem queueEvent_mctp (s : State) (ch code : Nat) (payload : Bytes) : (queueEvent s ch code payload).mctp = s.mctp :=
  (queueEvent_changes s ch code payload .mctp).resolve_left (by decide)
@[simp] theorem queueEvent_ep0 (s : State) (ch code : Nat) (payload : Bytes) : (queueEvent s ch code payload).ep0 = s.ep0 :=
  (queueEvent_changes s ch code payload .ep0).resolve_left (by decide)
@[simp] theorem queueEvent_ep1 (s : State) (ch code : Nat) (payload : Bytes) : (queueEvent s ch code payload).ep1 = s.ep1 :=
  (queueEvent_changes s ch code payload .ep1).resolve_left (by decide)
@[simp] theorem queueEvent_rings (s : State) (ch code : Nat) (payload : Bytes) : (queueEvent s ch code payload).rings = s.rings :=
  (queueEvent_changes s ch code payload .rings).resolve_left (by decide)
@[simp] theorem queueEvent_pkts (s : State) (ch code : Nat) (payload : Bytes) : (queueEvent s ch code payload).pkts = s.pkts :=
  (queueEvent_changes s ch code payload .pkts).resolve_left (by decide)
@[simp] theorem queueEvent_nextPid (s : State) (ch code : Nat) (payload : Bytes) : (queueEvent s ch code payload).nextPid = s.nextPid :=
  (queueEvent_changes s ch code payload .nextPid).resolve_left (by decide)
@[simp] theorem queueEvent_basin (s : State) (ch code : Nat) (payload : Bytes) : (queueEvent s ch code payload).basin = s.basin :=
  (queueEvent_changes s ch code payload .basin).resolve_left (by decide)
@[simp] theorem queueEvent_plane (s : State) (ch code : Nat) (payload : Bytes) : (queueEvent s ch code payload).plane = s.plane :=
  (queueEvent_changes s ch code payload .plane).resolve_left (by decide)
@[simp] theorem queueEvent_rasp (s : State) (ch code : Nat) (payload : Bytes) : (queueEvent s ch code payload).rasp = s.rasp :=
  (queueEvent_changes s ch code payload .rasp).resolve_left (by decide)
@[simp] theorem queueEvent_jig (s : State) (ch code : Nat) (payload : Bytes) : (queueEvent s ch code payload).jig = s.jig :=
  (queueEvent_changes s ch code payload .jig).resolve_left (by decide)
@[simp] theorem queueEvent_cst (s : State) (ch code : Nat) (payload : Bytes) : (queueEvent s ch code payload).cst = s.cst :=
  (queueEvent_changes s ch code payload .cst).resolve_left (by decide)
@[simp] theorem queueEvent_sqr (s : State) (ch code : Nat) (payload : Bytes) : (queueEvent s ch code payload).sqr = s.sqr :=
  (queueEvent_changes s ch code payload .sqr).resolve_left (by decide)
@[simp] theorem queueEvent_act (s : State) (ch code : Nat) (payload : Bytes) : (queueEvent s ch code payload).act = s.act :=
  (queueEvent_changes s ch code payload .act).resolve_left (by decide)
@[simp] theorem queueEvent_csc (s : State) (ch code : Nat) (payload : Bytes) : (queueEvent s ch code payload).csc = s.csc :=
  (queueEvent_changes s ch code payload .csc).resolve_left (by decide)
@[simp] theorem queueEvent_twin (s : State) (ch code : Nat) (payload : Bytes) : (queueEvent s ch code payload).twin = s.twin :=
  (queueEvent_changes s ch code payload .twin).resolve_left (by decide)
@[simp] theorem queueEvent_prp (s : State) (ch code : Nat) (payload : Bytes) : (queueEvent s ch code payload).prp = s.prp :=
  (queueEvent_changes s ch code payload .prp).resolve_left (by decide)
@[simp] theorem queueEvent_itw (s : State) (ch code : Nat) (payload : Bytes) : (queueEvent s ch code payload).itw = s.itw :=
  (queueEvent_changes s ch code payload .itw).resolve_left (by decide)
@[simp] theorem queueEvent_cry (s : State) (ch code : Nat) (payload : Bytes) : (queueEvent s ch code payload).cry = s.cry :=
  (queueEvent_changes s ch code payload .cry).resolve_left (by decide)
@[simp] theorem queueEvent_nvt (s : State) (ch code : Nat) (payload : Bytes) : (queueEvent s ch code payload).nvt = s.nvt :=
  (queueEvent_changes s ch code payload .nvt).resolve_left (by decide)
@[simp] theorem queueEvent_port0 (s : State) (ch code : Nat) (payload : Bytes) : (queueEvent s ch code payload).port0 = s.port0 :=
  (queueEvent_changes s ch code payload .port0).resolve_left (by decide)
@[simp] theorem queueEvent_port1 (s : State) (ch code : Nat) (payload : Bytes) : (queueEvent s ch code payload).port1 = s.port1 :=
  (queueEvent_changes s ch code payload .port1).resolve_left (by decide)
@[simp] theorem queueEvent_macs (s : State) (ch code : Nat) (payload : Bytes) : (queueEvent s ch code payload).macs = s.macs :=
  (queueEvent_changes s ch code payload .macs).resolve_left (by decide)
@[simp] theorem queueEvent_weir (s : State) (ch code : Nat) (payload : Bytes) : (queueEvent s ch code payload).weir = s.weir :=
  (queueEvent_changes s ch code payload .weir).resolve_left (by decide)
@[simp] theorem queueEvent_time (s : State) (ch code : Nat) (payload : Bytes) : (queueEvent s ch code payload).time = s.time :=
  (queueEvent_changes s ch code payload .time).resolve_left (by decide)
@[simp] theorem queueEvent_tio (s : State) (ch code : Nat) (payload : Bytes) : (queueEvent s ch code payload).tio = s.tio :=
  (queueEvent_changes s ch code payload .tio).resolve_left (by decide)
@[simp] theorem queueEvent_plb (s : State) (ch code : Nat) (payload : Bytes) : (queueEvent s ch code payload).plb = s.plb :=
  (queueEvent_changes s ch code payload .plb).resolve_left (by decide)
@[simp] theorem queueEvent_ptp (s : State) (ch code : Nat) (payload : Bytes) : (queueEvent s ch code payload).ptp = s.ptp :=
  (queueEvent_changes s ch code payload .ptp).resolve_left (by decide)
@[simp] theorem queueEvent_hbm (s : State) (ch code : Nat) (payload : Bytes) : (queueEvent s ch code payload).hbm = s.hbm :=
  (queueEvent_changes s ch code payload .hbm).resolve_left (by decide)
@[simp] theorem queueEvent_tap (s : State) (ch code : Nat) (payload : Bytes) : (queueEvent s ch code payload).tap = s.tap :=
  (queueEvent_changes s ch code payload .tap).resolve_left (by decide)
@[simp] theorem queueEvent_latches (s : State) (ch code : Nat) (payload : Bytes) : (queueEvent s ch code payload).latches = s.latches :=
  (queueEvent_changes s ch code payload .latches).resolve_left (by decide)
@[simp] theorem queueEvent_mem (s : State) (ch code : Nat) (payload : Bytes) : (queueEvent s ch code payload).mem = s.mem :=
  (queueEvent_changes s ch code payload .mem).resolve_left (by decide)
@[simp] theorem queueEvent_out (s : State) (ch code : Nat) (payload : Bytes) : (queueEvent s ch code payload).out = s.out :=
  (queueEvent_changes s ch code payload .out).resolve_left (by decide)
@[simp] theorem queueEvent_fresh (s : State) (ch code : Nat) (payload : Bytes) : (queueEvent s ch code payload).fresh = s.fresh :=
  (queueEvent_changes s ch code payload .fresh).resolve_left (by decide)

@[simp] theorem eventToPf0_pending (s : State) (ep code : Nat) (payload : Bytes) : (eventToPf0 s ep code payload).pending = s.pending :=
  (eventToPf0_changes s ep code payload .pending).resolve_left (by decide)
@[simp] theorem eventToPf0_dev (s : State) (ep code : Nat) (payload : Bytes) : (eventToPf0 s ep code payload).dev = s.dev :=
  (eventToPf0_changes s ep code payload .dev).resolve_left (by decide)
@[simp] theorem eventToPf0_hw (s : State) (ep code : Nat) (payload : Bytes) : (eventToPf0 s ep code payload).hw = s.hw :=
  (eventToPf0_changes s ep code payload .hw).resolve_left (by decide)
@[simp] theorem eventToPf0_fw (s : State) (ep code : Nat) (payload : Bytes) : (eventToPf0 s ep code payload).fw = s.fw :=
  (eventToPf0_changes s ep code payload .fw).resolve_left (by decide)
@[simp] theorem eventToPf0_flash (s : State) (ep code : Nat) (payload : Bytes) : (eventToPf0 s ep code payload).flash = s.flash :=
  (eventToPf0_changes s ep code payload .flash).resolve_left (by decide)
@[simp] theorem eventToPf0_role (s : State) (ep code : Nat) (payload : Bytes) : (eventToPf0 s ep code payload).role = s.role :=
  (eventToPf0_changes s ep code payload .role).resolve_left (by decide)
@[simp] theorem eventToPf0_slices (s : State) (ep code : Nat) (payload : Bytes) : (eventToPf0 s ep code payload).slices = s.slices :=
  (eventToPf0_changes s ep code payload .slices).resolve_left (by decide)
@[simp] theorem eventToPf0_mctp (s : State) (ep code : Nat) (payload : Bytes) : (eventToPf0 s ep code payload).mctp = s.mctp :=
  (eventToPf0_changes s ep code payload .mctp).resolve_left (by decide)
@[simp] theorem eventToPf0_ep0 (s : State) (ep code : Nat) (payload : Bytes) : (eventToPf0 s ep code payload).ep0 = s.ep0 :=
  (eventToPf0_changes s ep code payload .ep0).resolve_left (by decide)
@[simp] theorem eventToPf0_ep1 (s : State) (ep code : Nat) (payload : Bytes) : (eventToPf0 s ep code payload).ep1 = s.ep1 :=
  (eventToPf0_changes s ep code payload .ep1).resolve_left (by decide)
@[simp] theorem eventToPf0_rings (s : State) (ep code : Nat) (payload : Bytes) : (eventToPf0 s ep code payload).rings = s.rings :=
  (eventToPf0_changes s ep code payload .rings).resolve_left (by decide)
@[simp] theorem eventToPf0_pkts (s : State) (ep code : Nat) (payload : Bytes) : (eventToPf0 s ep code payload).pkts = s.pkts :=
  (eventToPf0_changes s ep code payload .pkts).resolve_left (by decide)
@[simp] theorem eventToPf0_nextPid (s : State) (ep code : Nat) (payload : Bytes) : (eventToPf0 s ep code payload).nextPid = s.nextPid :=
  (eventToPf0_changes s ep code payload .nextPid).resolve_left (by decide)
@[simp] theorem eventToPf0_basin (s : State) (ep code : Nat) (payload : Bytes) : (eventToPf0 s ep code payload).basin = s.basin :=
  (eventToPf0_changes s ep code payload .basin).resolve_left (by decide)
@[simp] theorem eventToPf0_plane (s : State) (ep code : Nat) (payload : Bytes) : (eventToPf0 s ep code payload).plane = s.plane :=
  (eventToPf0_changes s ep code payload .plane).resolve_left (by decide)
@[simp] theorem eventToPf0_rasp (s : State) (ep code : Nat) (payload : Bytes) : (eventToPf0 s ep code payload).rasp = s.rasp :=
  (eventToPf0_changes s ep code payload .rasp).resolve_left (by decide)
@[simp] theorem eventToPf0_jig (s : State) (ep code : Nat) (payload : Bytes) : (eventToPf0 s ep code payload).jig = s.jig :=
  (eventToPf0_changes s ep code payload .jig).resolve_left (by decide)
@[simp] theorem eventToPf0_cst (s : State) (ep code : Nat) (payload : Bytes) : (eventToPf0 s ep code payload).cst = s.cst :=
  (eventToPf0_changes s ep code payload .cst).resolve_left (by decide)
@[simp] theorem eventToPf0_sqr (s : State) (ep code : Nat) (payload : Bytes) : (eventToPf0 s ep code payload).sqr = s.sqr :=
  (eventToPf0_changes s ep code payload .sqr).resolve_left (by decide)
@[simp] theorem eventToPf0_act (s : State) (ep code : Nat) (payload : Bytes) : (eventToPf0 s ep code payload).act = s.act :=
  (eventToPf0_changes s ep code payload .act).resolve_left (by decide)
@[simp] theorem eventToPf0_csc (s : State) (ep code : Nat) (payload : Bytes) : (eventToPf0 s ep code payload).csc = s.csc :=
  (eventToPf0_changes s ep code payload .csc).resolve_left (by decide)
@[simp] theorem eventToPf0_twin (s : State) (ep code : Nat) (payload : Bytes) : (eventToPf0 s ep code payload).twin = s.twin :=
  (eventToPf0_changes s ep code payload .twin).resolve_left (by decide)
@[simp] theorem eventToPf0_prp (s : State) (ep code : Nat) (payload : Bytes) : (eventToPf0 s ep code payload).prp = s.prp :=
  (eventToPf0_changes s ep code payload .prp).resolve_left (by decide)
@[simp] theorem eventToPf0_itw (s : State) (ep code : Nat) (payload : Bytes) : (eventToPf0 s ep code payload).itw = s.itw :=
  (eventToPf0_changes s ep code payload .itw).resolve_left (by decide)
@[simp] theorem eventToPf0_cry (s : State) (ep code : Nat) (payload : Bytes) : (eventToPf0 s ep code payload).cry = s.cry :=
  (eventToPf0_changes s ep code payload .cry).resolve_left (by decide)
@[simp] theorem eventToPf0_nvt (s : State) (ep code : Nat) (payload : Bytes) : (eventToPf0 s ep code payload).nvt = s.nvt :=
  (eventToPf0_changes s ep code payload .nvt).resolve_left (by decide)
@[simp] theorem eventToPf0_port0 (s : State) (ep code : Nat) (payload : Bytes) : (eventToPf0 s ep code payload).port0 = s.port0 :=
  (eventToPf0_changes s ep code payload .port0).resolve_left (by decide)
@[simp] theorem eventToPf0_port1 (s : State) (ep code : Nat) (payload : Bytes) : (eventToPf0 s ep code payload).port1 = s.port1 :=
  (eventToPf0_changes s ep code payload .port1).resolve_left (by decide)
@[simp] theorem eventToPf0_macs (s : State) (ep code : Nat) (payload : Bytes) : (eventToPf0 s ep code payload).macs = s.macs :=
  (eventToPf0_changes s ep code payload .macs).resolve_left (by decide)
@[simp] theorem eventToPf0_weir (s : State) (ep code : Nat) (payload : Bytes) : (eventToPf0 s ep code payload).weir = s.weir :=
  (eventToPf0_changes s ep code payload .weir).resolve_left (by decide)
@[simp] theorem eventToPf0_time (s : State) (ep code : Nat) (payload : Bytes) : (eventToPf0 s ep code payload).time = s.time :=
  (eventToPf0_changes s ep code payload .time).resolve_left (by decide)
@[simp] theorem eventToPf0_tio (s : State) (ep code : Nat) (payload : Bytes) : (eventToPf0 s ep code payload).tio = s.tio :=
  (eventToPf0_changes s ep code payload .tio).resolve_left (by decide)
@[simp] theorem eventToPf0_plb (s : State) (ep code : Nat) (payload : Bytes) : (eventToPf0 s ep code payload).plb = s.plb :=
  (eventToPf0_changes s ep code payload .plb).resolve_left (by decide)
@[simp] theorem eventToPf0_ptp (s : State) (ep code : Nat) (payload : Bytes) : (eventToPf0 s ep code payload).ptp = s.ptp :=
  (eventToPf0_changes s ep code payload .ptp).resolve_left (by decide)
@[simp] theorem eventToPf0_hbm (s : State) (ep code : Nat) (payload : Bytes) : (eventToPf0 s ep code payload).hbm = s.hbm :=
  (eventToPf0_changes s ep code payload .hbm).resolve_left (by decide)
@[simp] theorem eventToPf0_tap (s : State) (ep code : Nat) (payload : Bytes) : (eventToPf0 s ep code payload).tap = s.tap :=
  (eventToPf0_changes s ep code payload .tap).resolve_left (by decide)
@[simp] theorem eventToPf0_latches (s : State) (ep code : Nat) (payload : Bytes) : (eventToPf0 s ep code payload).latches = s.latches :=
  (eventToPf0_changes s ep code payload .latches).resolve_left (by decide)
@[simp] theorem eventToPf0_mem (s : State) (ep code : Nat) (payload : Bytes) : (eventToPf0 s ep code payload).mem = s.mem :=
  (eventToPf0_changes s ep code payload .mem).resolve_left (by decide)
@[simp] theorem eventToPf0_out (s : State) (ep code : Nat) (payload : Bytes) : (eventToPf0 s ep code payload).out = s.out :=
  (eventToPf0_changes s ep code payload .out).resolve_left (by decide)
@[simp] theorem eventToPf0_fresh (s : State) (ep code : Nat) (payload : Bytes) : (eventToPf0 s ep code payload).fresh = s.fresh :=
  (eventToPf0_changes s ep code payload .fresh).resolve_left (by decide)

@[simp] theorem eventToManager_pending (s : State) (code : Nat) (payload : Bytes) : (eventToManager s code payload).pending = s.pending :=
  (eventToManager_changes s code payload .pending).resolve_left (by decide)
@[simp] theorem eventToManager_dev (s : State) (code : Nat) (payload : Bytes) : (eventToManager s code payload).dev = s.dev :=
  (eventToManager_changes s code payload .dev).resolve_left (by decide)
@[simp] theorem eventToManager_hw (s : State) (code : Nat) (payload : Bytes) : (eventToManager s code payload).hw = s.hw :=
  (eventToManager_changes s code payload .hw).resolve_left (by decide)
@[simp] theorem eventToManager_fw (s : State) (code : Nat) (payload : Bytes) : (eventToManager s code payload).fw = s.fw :=
  (eventToManager_changes s code payload .fw).resolve_left (by decide)
@[simp] theorem eventToManager_flash (s : State) (code : Nat) (payload : Bytes) : (eventToManager s code payload).flash = s.flash :=
  (eventToManager_changes s code payload .flash).resolve_left (by decide)
@[simp] theorem eventToManager_role (s : State) (code : Nat) (payload : Bytes) : (eventToManager s code payload).role = s.role :=
  (eventToManager_changes s code payload .role).resolve_left (by decide)
@[simp] theorem eventToManager_slices (s : State) (code : Nat) (payload : Bytes) : (eventToManager s code payload).slices = s.slices :=
  (eventToManager_changes s code payload .slices).resolve_left (by decide)
@[simp] theorem eventToManager_mctp (s : State) (code : Nat) (payload : Bytes) : (eventToManager s code payload).mctp = s.mctp :=
  (eventToManager_changes s code payload .mctp).resolve_left (by decide)
@[simp] theorem eventToManager_ep0 (s : State) (code : Nat) (payload : Bytes) : (eventToManager s code payload).ep0 = s.ep0 :=
  (eventToManager_changes s code payload .ep0).resolve_left (by decide)
@[simp] theorem eventToManager_ep1 (s : State) (code : Nat) (payload : Bytes) : (eventToManager s code payload).ep1 = s.ep1 :=
  (eventToManager_changes s code payload .ep1).resolve_left (by decide)
@[simp] theorem eventToManager_rings (s : State) (code : Nat) (payload : Bytes) : (eventToManager s code payload).rings = s.rings :=
  (eventToManager_changes s code payload .rings).resolve_left (by decide)
@[simp] theorem eventToManager_pkts (s : State) (code : Nat) (payload : Bytes) : (eventToManager s code payload).pkts = s.pkts :=
  (eventToManager_changes s code payload .pkts).resolve_left (by decide)
@[simp] theorem eventToManager_nextPid (s : State) (code : Nat) (payload : Bytes) : (eventToManager s code payload).nextPid = s.nextPid :=
  (eventToManager_changes s code payload .nextPid).resolve_left (by decide)
@[simp] theorem eventToManager_basin (s : State) (code : Nat) (payload : Bytes) : (eventToManager s code payload).basin = s.basin :=
  (eventToManager_changes s code payload .basin).resolve_left (by decide)
@[simp] theorem eventToManager_plane (s : State) (code : Nat) (payload : Bytes) : (eventToManager s code payload).plane = s.plane :=
  (eventToManager_changes s code payload .plane).resolve_left (by decide)
@[simp] theorem eventToManager_rasp (s : State) (code : Nat) (payload : Bytes) : (eventToManager s code payload).rasp = s.rasp :=
  (eventToManager_changes s code payload .rasp).resolve_left (by decide)
@[simp] theorem eventToManager_jig (s : State) (code : Nat) (payload : Bytes) : (eventToManager s code payload).jig = s.jig :=
  (eventToManager_changes s code payload .jig).resolve_left (by decide)
@[simp] theorem eventToManager_cst (s : State) (code : Nat) (payload : Bytes) : (eventToManager s code payload).cst = s.cst :=
  (eventToManager_changes s code payload .cst).resolve_left (by decide)
@[simp] theorem eventToManager_sqr (s : State) (code : Nat) (payload : Bytes) : (eventToManager s code payload).sqr = s.sqr :=
  (eventToManager_changes s code payload .sqr).resolve_left (by decide)
@[simp] theorem eventToManager_act (s : State) (code : Nat) (payload : Bytes) : (eventToManager s code payload).act = s.act :=
  (eventToManager_changes s code payload .act).resolve_left (by decide)
@[simp] theorem eventToManager_csc (s : State) (code : Nat) (payload : Bytes) : (eventToManager s code payload).csc = s.csc :=
  (eventToManager_changes s code payload .csc).resolve_left (by decide)
@[simp] theorem eventToManager_twin (s : State) (code : Nat) (payload : Bytes) : (eventToManager s code payload).twin = s.twin :=
  (eventToManager_changes s code payload .twin).resolve_left (by decide)
@[simp] theorem eventToManager_prp (s : State) (code : Nat) (payload : Bytes) : (eventToManager s code payload).prp = s.prp :=
  (eventToManager_changes s code payload .prp).resolve_left (by decide)
@[simp] theorem eventToManager_itw (s : State) (code : Nat) (payload : Bytes) : (eventToManager s code payload).itw = s.itw :=
  (eventToManager_changes s code payload .itw).resolve_left (by decide)
@[simp] theorem eventToManager_cry (s : State) (code : Nat) (payload : Bytes) : (eventToManager s code payload).cry = s.cry :=
  (eventToManager_changes s code payload .cry).resolve_left (by decide)
@[simp] theorem eventToManager_nvt (s : State) (code : Nat) (payload : Bytes) : (eventToManager s code payload).nvt = s.nvt :=
  (eventToManager_changes s code payload .nvt).resolve_left (by decide)
@[simp] theorem eventToManager_port0 (s : State) (code : Nat) (payload : Bytes) : (eventToManager s code payload).port0 = s.port0 :=
  (eventToManager_changes s code payload .port0).resolve_left (by decide)
@[simp] theorem eventToManager_port1 (s : State) (code : Nat) (payload : Bytes) : (eventToManager s code payload).port1 = s.port1 :=
  (eventToManager_changes s code payload .port1).resolve_left (by decide)
@[simp] theorem eventToManager_macs (s : State) (code : Nat) (payload : Bytes) : (eventToManager s code payload).macs = s.macs :=
  (eventToManager_changes s code payload .macs).resolve_left (by decide)
@[simp] theorem eventToManager_weir (s : State) (code : Nat) (payload : Bytes) : (eventToManager s code payload).weir = s.weir :=
  (eventToManager_changes s code payload .weir).resolve_left (by decide)
@[simp] theorem eventToManager_time (s : State) (code : Nat) (payload : Bytes) : (eventToManager s code payload).time = s.time :=
  (eventToManager_changes s code payload .time).resolve_left (by decide)
@[simp] theorem eventToManager_tio (s : State) (code : Nat) (payload : Bytes) : (eventToManager s code payload).tio = s.tio :=
  (eventToManager_changes s code payload .tio).resolve_left (by decide)
@[simp] theorem eventToManager_plb (s : State) (code : Nat) (payload : Bytes) : (eventToManager s code payload).plb = s.plb :=
  (eventToManager_changes s code payload .plb).resolve_left (by decide)
@[simp] theorem eventToManager_ptp (s : State) (code : Nat) (payload : Bytes) : (eventToManager s code payload).ptp = s.ptp :=
  (eventToManager_changes s code payload .ptp).resolve_left (by decide)
@[simp] theorem eventToManager_hbm (s : State) (code : Nat) (payload : Bytes) : (eventToManager s code payload).hbm = s.hbm :=
  (eventToManager_changes s code payload .hbm).resolve_left (by decide)
@[simp] theorem eventToManager_tap (s : State) (code : Nat) (payload : Bytes) : (eventToManager s code payload).tap = s.tap :=
  (eventToManager_changes s code payload .tap).resolve_left (by decide)
@[simp] theorem eventToManager_latches (s : State) (code : Nat) (payload : Bytes) : (eventToManager s code payload).latches = s.latches :=
  (eventToManager_changes s code payload .latches).resolve_left (by decide)
@[simp] theorem eventToManager_mem (s : State) (code : Nat) (payload : Bytes) : (eventToManager s code payload).mem = s.mem :=
  (eventToManager_changes s code payload .mem).resolve_left (by decide)
@[simp] theorem eventToManager_out (s : State) (code : Nat) (payload : Bytes) : (eventToManager s code payload).out = s.out :=
  (eventToManager_changes s code payload .out).resolve_left (by decide)
@[simp] theorem eventToManager_fresh (s : State) (code : Nat) (payload : Bytes) : (eventToManager s code payload).fresh = s.fresh :=
  (eventToManager_changes s code payload .fresh).resolve_left (by decide)

@[simp] theorem errlog_pending (s : State) (code island func addr : Nat) (data : Bytes) : (errlog s code island func addr data).pending = s.pending :=
  (errlog_changes s code island func addr data .pending).resolve_left (by decide)
@[simp] theorem errlog_dev (s : State) (code island func addr : Nat) (data : Bytes) : (errlog s code island func addr data).dev = s.dev :=
  (errlog_changes s code island func addr data .dev).resolve_left (by decide)
@[simp] theorem errlog_fw (s : State) (code island func addr : Nat) (data : Bytes) : (errlog s code island func addr data).fw = s.fw :=
  (errlog_changes s code island func addr data .fw).resolve_left (by decide)
@[simp] theorem errlog_flash (s : State) (code island func addr : Nat) (data : Bytes) : (errlog s code island func addr data).flash = s.flash :=
  (errlog_changes s code island func addr data .flash).resolve_left (by decide)
@[simp] theorem errlog_role (s : State) (code island func addr : Nat) (data : Bytes) : (errlog s code island func addr data).role = s.role :=
  (errlog_changes s code island func addr data .role).resolve_left (by decide)
@[simp] theorem errlog_slices (s : State) (code island func addr : Nat) (data : Bytes) : (errlog s code island func addr data).slices = s.slices :=
  (errlog_changes s code island func addr data .slices).resolve_left (by decide)
@[simp] theorem errlog_mctp (s : State) (code island func addr : Nat) (data : Bytes) : (errlog s code island func addr data).mctp = s.mctp :=
  (errlog_changes s code island func addr data .mctp).resolve_left (by decide)
@[simp] theorem errlog_rings (s : State) (code island func addr : Nat) (data : Bytes) : (errlog s code island func addr data).rings = s.rings :=
  (errlog_changes s code island func addr data .rings).resolve_left (by decide)
@[simp] theorem errlog_pkts (s : State) (code island func addr : Nat) (data : Bytes) : (errlog s code island func addr data).pkts = s.pkts :=
  (errlog_changes s code island func addr data .pkts).resolve_left (by decide)
@[simp] theorem errlog_nextPid (s : State) (code island func addr : Nat) (data : Bytes) : (errlog s code island func addr data).nextPid = s.nextPid :=
  (errlog_changes s code island func addr data .nextPid).resolve_left (by decide)
@[simp] theorem errlog_basin (s : State) (code island func addr : Nat) (data : Bytes) : (errlog s code island func addr data).basin = s.basin :=
  (errlog_changes s code island func addr data .basin).resolve_left (by decide)
@[simp] theorem errlog_plane (s : State) (code island func addr : Nat) (data : Bytes) : (errlog s code island func addr data).plane = s.plane :=
  (errlog_changes s code island func addr data .plane).resolve_left (by decide)
@[simp] theorem errlog_rasp (s : State) (code island func addr : Nat) (data : Bytes) : (errlog s code island func addr data).rasp = s.rasp :=
  (errlog_changes s code island func addr data .rasp).resolve_left (by decide)
@[simp] theorem errlog_jig (s : State) (code island func addr : Nat) (data : Bytes) : (errlog s code island func addr data).jig = s.jig :=
  (errlog_changes s code island func addr data .jig).resolve_left (by decide)
@[simp] theorem errlog_cst (s : State) (code island func addr : Nat) (data : Bytes) : (errlog s code island func addr data).cst = s.cst :=
  (errlog_changes s code island func addr data .cst).resolve_left (by decide)
@[simp] theorem errlog_sqr (s : State) (code island func addr : Nat) (data : Bytes) : (errlog s code island func addr data).sqr = s.sqr :=
  (errlog_changes s code island func addr data .sqr).resolve_left (by decide)
@[simp] theorem errlog_act (s : State) (code island func addr : Nat) (data : Bytes) : (errlog s code island func addr data).act = s.act :=
  (errlog_changes s code island func addr data .act).resolve_left (by decide)
@[simp] theorem errlog_csc (s : State) (code island func addr : Nat) (data : Bytes) : (errlog s code island func addr data).csc = s.csc :=
  (errlog_changes s code island func addr data .csc).resolve_left (by decide)
@[simp] theorem errlog_twin (s : State) (code island func addr : Nat) (data : Bytes) : (errlog s code island func addr data).twin = s.twin :=
  (errlog_changes s code island func addr data .twin).resolve_left (by decide)
@[simp] theorem errlog_prp (s : State) (code island func addr : Nat) (data : Bytes) : (errlog s code island func addr data).prp = s.prp :=
  (errlog_changes s code island func addr data .prp).resolve_left (by decide)
@[simp] theorem errlog_itw (s : State) (code island func addr : Nat) (data : Bytes) : (errlog s code island func addr data).itw = s.itw :=
  (errlog_changes s code island func addr data .itw).resolve_left (by decide)
@[simp] theorem errlog_cry (s : State) (code island func addr : Nat) (data : Bytes) : (errlog s code island func addr data).cry = s.cry :=
  (errlog_changes s code island func addr data .cry).resolve_left (by decide)
@[simp] theorem errlog_nvt (s : State) (code island func addr : Nat) (data : Bytes) : (errlog s code island func addr data).nvt = s.nvt :=
  (errlog_changes s code island func addr data .nvt).resolve_left (by decide)
@[simp] theorem errlog_port0 (s : State) (code island func addr : Nat) (data : Bytes) : (errlog s code island func addr data).port0 = s.port0 :=
  (errlog_changes s code island func addr data .port0).resolve_left (by decide)
@[simp] theorem errlog_port1 (s : State) (code island func addr : Nat) (data : Bytes) : (errlog s code island func addr data).port1 = s.port1 :=
  (errlog_changes s code island func addr data .port1).resolve_left (by decide)
@[simp] theorem errlog_macs (s : State) (code island func addr : Nat) (data : Bytes) : (errlog s code island func addr data).macs = s.macs :=
  (errlog_changes s code island func addr data .macs).resolve_left (by decide)
@[simp] theorem errlog_weir (s : State) (code island func addr : Nat) (data : Bytes) : (errlog s code island func addr data).weir = s.weir :=
  (errlog_changes s code island func addr data .weir).resolve_left (by decide)
@[simp] theorem errlog_time (s : State) (code island func addr : Nat) (data : Bytes) : (errlog s code island func addr data).time = s.time :=
  (errlog_changes s code island func addr data .time).resolve_left (by decide)
@[simp] theorem errlog_tio (s : State) (code island func addr : Nat) (data : Bytes) : (errlog s code island func addr data).tio = s.tio :=
  (errlog_changes s code island func addr data .tio).resolve_left (by decide)
@[simp] theorem errlog_plb (s : State) (code island func addr : Nat) (data : Bytes) : (errlog s code island func addr data).plb = s.plb :=
  (errlog_changes s code island func addr data .plb).resolve_left (by decide)
@[simp] theorem errlog_ptp (s : State) (code island func addr : Nat) (data : Bytes) : (errlog s code island func addr data).ptp = s.ptp :=
  (errlog_changes s code island func addr data .ptp).resolve_left (by decide)
@[simp] theorem errlog_hbm (s : State) (code island func addr : Nat) (data : Bytes) : (errlog s code island func addr data).hbm = s.hbm :=
  (errlog_changes s code island func addr data .hbm).resolve_left (by decide)
@[simp] theorem errlog_tap (s : State) (code island func addr : Nat) (data : Bytes) : (errlog s code island func addr data).tap = s.tap :=
  (errlog_changes s code island func addr data .tap).resolve_left (by decide)
@[simp] theorem errlog_latches (s : State) (code island func addr : Nat) (data : Bytes) : (errlog s code island func addr data).latches = s.latches :=
  (errlog_changes s code island func addr data .latches).resolve_left (by decide)
@[simp] theorem errlog_mem (s : State) (code island func addr : Nat) (data : Bytes) : (errlog s code island func addr data).mem = s.mem :=
  (errlog_changes s code island func addr data .mem).resolve_left (by decide)
@[simp] theorem errlog_out (s : State) (code island func addr : Nat) (data : Bytes) : (errlog s code island func addr data).out = s.out :=
  (errlog_changes s code island func addr data .out).resolve_left (by decide)
@[simp] theorem errlog_fresh (s : State) (code island func addr : Nat) (data : Bytes) : (errlog s code island func addr data).fresh = s.fresh :=
  (errlog_changes s code island func addr data .fresh).resolve_left (by decide)

@[simp] theorem noteMode_pending (before s : State) (cause : Nat) : (noteMode before s cause).pending = s.pending :=
  (noteMode_changes before s cause .pending).resolve_left (by decide)
@[simp] theorem noteMode_fw (before s : State) (cause : Nat) : (noteMode before s cause).fw = s.fw :=
  (noteMode_changes before s cause .fw).resolve_left (by decide)
@[simp] theorem noteMode_flash (before s : State) (cause : Nat) : (noteMode before s cause).flash = s.flash :=
  (noteMode_changes before s cause .flash).resolve_left (by decide)
@[simp] theorem noteMode_role (before s : State) (cause : Nat) : (noteMode before s cause).role = s.role :=
  (noteMode_changes before s cause .role).resolve_left (by decide)
@[simp] theorem noteMode_slices (before s : State) (cause : Nat) : (noteMode before s cause).slices = s.slices :=
  (noteMode_changes before s cause .slices).resolve_left (by decide)
@[simp] theorem noteMode_mctp (before s : State) (cause : Nat) : (noteMode before s cause).mctp = s.mctp :=
  (noteMode_changes before s cause .mctp).resolve_left (by decide)
@[simp] theorem noteMode_rings (before s : State) (cause : Nat) : (noteMode before s cause).rings = s.rings :=
  (noteMode_changes before s cause .rings).resolve_left (by decide)
@[simp] theorem noteMode_pkts (before s : State) (cause : Nat) : (noteMode before s cause).pkts = s.pkts :=
  (noteMode_changes before s cause .pkts).resolve_left (by decide)
@[simp] theorem noteMode_nextPid (before s : State) (cause : Nat) : (noteMode before s cause).nextPid = s.nextPid :=
  (noteMode_changes before s cause .nextPid).resolve_left (by decide)
@[simp] theorem noteMode_basin (before s : State) (cause : Nat) : (noteMode before s cause).basin = s.basin :=
  (noteMode_changes before s cause .basin).resolve_left (by decide)
@[simp] theorem noteMode_plane (before s : State) (cause : Nat) : (noteMode before s cause).plane = s.plane :=
  (noteMode_changes before s cause .plane).resolve_left (by decide)
@[simp] theorem noteMode_rasp (before s : State) (cause : Nat) : (noteMode before s cause).rasp = s.rasp :=
  (noteMode_changes before s cause .rasp).resolve_left (by decide)
@[simp] theorem noteMode_jig (before s : State) (cause : Nat) : (noteMode before s cause).jig = s.jig :=
  (noteMode_changes before s cause .jig).resolve_left (by decide)
@[simp] theorem noteMode_cst (before s : State) (cause : Nat) : (noteMode before s cause).cst = s.cst :=
  (noteMode_changes before s cause .cst).resolve_left (by decide)
@[simp] theorem noteMode_sqr (before s : State) (cause : Nat) : (noteMode before s cause).sqr = s.sqr :=
  (noteMode_changes before s cause .sqr).resolve_left (by decide)
@[simp] theorem noteMode_act (before s : State) (cause : Nat) : (noteMode before s cause).act = s.act :=
  (noteMode_changes before s cause .act).resolve_left (by decide)
@[simp] theorem noteMode_csc (before s : State) (cause : Nat) : (noteMode before s cause).csc = s.csc :=
  (noteMode_changes before s cause .csc).resolve_left (by decide)
@[simp] theorem noteMode_twin (before s : State) (cause : Nat) : (noteMode before s cause).twin = s.twin :=
  (noteMode_changes before s cause .twin).resolve_left (by decide)
@[simp] theorem noteMode_prp (before s : State) (cause : Nat) : (noteMode before s cause).prp = s.prp :=
  (noteMode_changes before s cause .prp).resolve_left (by decide)
@[simp] theorem noteMode_itw (before s : State) (cause : Nat) : (noteMode before s cause).itw = s.itw :=
  (noteMode_changes before s cause .itw).resolve_left (by decide)
@[simp] theorem noteMode_cry (before s : State) (cause : Nat) : (noteMode before s cause).cry = s.cry :=
  (noteMode_changes before s cause .cry).resolve_left (by decide)
@[simp] theorem noteMode_nvt (before s : State) (cause : Nat) : (noteMode before s cause).nvt = s.nvt :=
  (noteMode_changes before s cause .nvt).resolve_left (by decide)
@[simp] theorem noteMode_port0 (before s : State) (cause : Nat) : (noteMode before s cause).port0 = s.port0 :=
  (noteMode_changes before s cause .port0).resolve_left (by decide)
@[simp] theorem noteMode_port1 (before s : State) (cause : Nat) : (noteMode before s cause).port1 = s.port1 :=
  (noteMode_changes before s cause .port1).resolve_left (by decide)
@[simp] theorem noteMode_macs (before s : State) (cause : Nat) : (noteMode before s cause).macs = s.macs :=
  (noteMode_changes before s cause .macs).resolve_left (by decide)
@[simp] theorem noteMode_weir (before s : State) (cause : Nat) : (noteMode before s cause).weir = s.weir :=
  (noteMode_changes before s cause .weir).resolve_left (by decide)
@[simp] theorem noteMode_time (before s : State) (cause : Nat) : (noteMode before s cause).time = s.time :=
  (noteMode_changes before s cause .time).resolve_left (by decide)
@[simp] theorem noteMode_tio (before s : State) (cause : Nat) : (noteMode before s cause).tio = s.tio :=
  (noteMode_changes before s cause .tio).resolve_left (by decide)
@[simp] theorem noteMode_plb (before s : State) (cause : Nat) : (noteMode before s cause).plb = s.plb :=
  (noteMode_changes before s cause .plb).resolve_left (by decide)
@[simp] theorem noteMode_ptp (before s : State) (cause : Nat) : (noteMode before s cause).ptp = s.ptp :=
  (noteMode_changes before s cause .ptp).resolve_left (by decide)
@[simp] theorem noteMode_hbm (before s : State) (cause : Nat) : (noteMode before s cause).hbm = s.hbm :=
  (noteMode_changes before s cause .hbm).resolve_left (by decide)
@[simp] theorem noteMode_tap (before s : State) (cause : Nat) : (noteMode before s cause).tap = s.tap :=
  (noteMode_changes before s cause .tap).resolve_left (by decide)
@[simp] theorem noteMode_latches (before s : State) (cause : Nat) : (noteMode before s cause).latches = s.latches :=
  (noteMode_changes before s cause .latches).resolve_left (by decide)
@[simp] theorem noteMode_mem (before s : State) (cause : Nat) : (noteMode before s cause).mem = s.mem :=
  (noteMode_changes before s cause .mem).resolve_left (by decide)
@[simp] theorem noteMode_out (before s : State) (cause : Nat) : (noteMode before s cause).out = s.out :=
  (noteMode_changes before s cause .out).resolve_left (by decide)
@[simp] theorem noteMode_fresh (before s : State) (cause : Nat) : (noteMode before s cause).fresh = s.fresh :=
  (noteMode_changes before s cause .fresh).resolve_left (by decide)

@[simp] theorem noteRetired_pending (s : State) (kind cause index shortfall island : Nat) : (noteRetired s kind cause index shortfall island).pending = s.pending :=
  (noteRetired_changes s kind cause index shortfall island .pending).resolve_left (by decide)
@[simp] theorem noteRetired_dev (s : State) (kind cause index shortfall island : Nat) : (noteRetired s kind cause index shortfall island).dev = s.dev :=
  (noteRetired_changes s kind cause index shortfall island .dev).resolve_left (by decide)
@[simp] theorem noteRetired_fw (s : State) (kind cause index shortfall island : Nat) : (noteRetired s kind cause index shortfall island).fw = s.fw :=
  (noteRetired_changes s kind cause index shortfall island .fw).resolve_left (by decide)
@[simp] theorem noteRetired_flash (s : State) (kind cause index shortfall island : Nat) : (noteRetired s kind cause index shortfall island).flash = s.flash :=
  (noteRetired_changes s kind cause index shortfall island .flash).resolve_left (by decide)
@[simp] theorem noteRetired_role (s : State) (kind cause index shortfall island : Nat) : (noteRetired s kind cause index shortfall island).role = s.role :=
  (noteRetired_changes s kind cause index shortfall island .role).resolve_left (by decide)
@[simp] theorem noteRetired_slices (s : State) (kind cause index shortfall island : Nat) : (noteRetired s kind cause index shortfall island).slices = s.slices :=
  (noteRetired_changes s kind cause index shortfall island .slices).resolve_left (by decide)
@[simp] theorem noteRetired_mctp (s : State) (kind cause index shortfall island : Nat) : (noteRetired s kind cause index shortfall island).mctp = s.mctp :=
  (noteRetired_changes s kind cause index shortfall island .mctp).resolve_left (by decide)
@[simp] theorem noteRetired_rings (s : State) (kind cause index shortfall island : Nat) : (noteRetired s kind cause index shortfall island).rings = s.rings :=
  (noteRetired_changes s kind cause index shortfall island .rings).resolve_left (by decide)
@[simp] theorem noteRetired_pkts (s : State) (kind cause index shortfall island : Nat) : (noteRetired s kind cause index shortfall island).pkts = s.pkts :=
  (noteRetired_changes s kind cause index shortfall island .pkts).resolve_left (by decide)
@[simp] theorem noteRetired_nextPid (s : State) (kind cause index shortfall island : Nat) : (noteRetired s kind cause index shortfall island).nextPid = s.nextPid :=
  (noteRetired_changes s kind cause index shortfall island .nextPid).resolve_left (by decide)
@[simp] theorem noteRetired_basin (s : State) (kind cause index shortfall island : Nat) : (noteRetired s kind cause index shortfall island).basin = s.basin :=
  (noteRetired_changes s kind cause index shortfall island .basin).resolve_left (by decide)
@[simp] theorem noteRetired_plane (s : State) (kind cause index shortfall island : Nat) : (noteRetired s kind cause index shortfall island).plane = s.plane :=
  (noteRetired_changes s kind cause index shortfall island .plane).resolve_left (by decide)
@[simp] theorem noteRetired_rasp (s : State) (kind cause index shortfall island : Nat) : (noteRetired s kind cause index shortfall island).rasp = s.rasp :=
  (noteRetired_changes s kind cause index shortfall island .rasp).resolve_left (by decide)
@[simp] theorem noteRetired_jig (s : State) (kind cause index shortfall island : Nat) : (noteRetired s kind cause index shortfall island).jig = s.jig :=
  (noteRetired_changes s kind cause index shortfall island .jig).resolve_left (by decide)
@[simp] theorem noteRetired_cst (s : State) (kind cause index shortfall island : Nat) : (noteRetired s kind cause index shortfall island).cst = s.cst :=
  (noteRetired_changes s kind cause index shortfall island .cst).resolve_left (by decide)
@[simp] theorem noteRetired_sqr (s : State) (kind cause index shortfall island : Nat) : (noteRetired s kind cause index shortfall island).sqr = s.sqr :=
  (noteRetired_changes s kind cause index shortfall island .sqr).resolve_left (by decide)
@[simp] theorem noteRetired_act (s : State) (kind cause index shortfall island : Nat) : (noteRetired s kind cause index shortfall island).act = s.act :=
  (noteRetired_changes s kind cause index shortfall island .act).resolve_left (by decide)
@[simp] theorem noteRetired_csc (s : State) (kind cause index shortfall island : Nat) : (noteRetired s kind cause index shortfall island).csc = s.csc :=
  (noteRetired_changes s kind cause index shortfall island .csc).resolve_left (by decide)
@[simp] theorem noteRetired_twin (s : State) (kind cause index shortfall island : Nat) : (noteRetired s kind cause index shortfall island).twin = s.twin :=
  (noteRetired_changes s kind cause index shortfall island .twin).resolve_left (by decide)
@[simp] theorem noteRetired_prp (s : State) (kind cause index shortfall island : Nat) : (noteRetired s kind cause index shortfall island).prp = s.prp :=
  (noteRetired_changes s kind cause index shortfall island .prp).resolve_left (by decide)
@[simp] theorem noteRetired_itw (s : State) (kind cause index shortfall island : Nat) : (noteRetired s kind cause index shortfall island).itw = s.itw :=
  (noteRetired_changes s kind cause index shortfall island .itw).resolve_left (by decide)
@[simp] theorem noteRetired_cry (s : State) (kind cause index shortfall island : Nat) : (noteRetired s kind cause index shortfall island).cry = s.cry :=
  (noteRetired_changes s kind cause index shortfall island .cry).resolve_left (by decide)
@[simp] theorem noteRetired_nvt (s : State) (kind cause index shortfall island : Nat) : (noteRetired s kind cause index shortfall island).nvt = s.nvt :=
  (noteRetired_changes s kind cause index shortfall island .nvt).resolve_left (by decide)
@[simp] theorem noteRetired_port0 (s : State) (kind cause index shortfall island : Nat) : (noteRetired s kind cause index shortfall island).port0 = s.port0 :=
  (noteRetired_changes s kind cause index shortfall island .port0).resolve_left (by decide)
@[simp] theorem noteRetired_port1 (s : State) (kind cause index shortfall island : Nat) : (noteRetired s kind cause index shortfall island).port1 = s.port1 :=
  (noteRetired_changes s kind cause index shortfall island .port1).resolve_left (by decide)
@[simp] theorem noteRetired_macs (s : State) (kind cause index shortfall island : Nat) : (noteRetired s kind cause index shortfall island).macs = s.macs :=
  (noteRetired_changes s kind cause index shortfall island .macs).resolve_left (by decide)
@[simp] theorem noteRetired_weir (s : State) (kind cause index shortfall island : Nat) : (noteRetired s kind cause index shortfall island).weir = s.weir :=
  (noteRetired_changes s kind cause index shortfall island .weir).resolve_left (by decide)
@[simp] theorem noteRetired_time (s : State) (kind cause index shortfall island : Nat) : (noteRetired s kind cause index shortfall island).time = s.time :=
  (noteRetired_changes s kind cause index shortfall island .time).resolve_left (by decide)
@[simp] theorem noteRetired_tio (s : State) (kind cause index shortfall island : Nat) : (noteRetired s kind cause index shortfall island).tio = s.tio :=
  (noteRetired_changes s kind cause index shortfall island .tio).resolve_left (by decide)
@[simp] theorem noteRetired_plb (s : State) (kind cause index shortfall island : Nat) : (noteRetired s kind cause index shortfall island).plb = s.plb :=
  (noteRetired_changes s kind cause index shortfall island .plb).resolve_left (by decide)
@[simp] theorem noteRetired_ptp (s : State) (kind cause index shortfall island : Nat) : (noteRetired s kind cause index shortfall island).ptp = s.ptp :=
  (noteRetired_changes s kind cause index shortfall island .ptp).resolve_left (by decide)
@[simp] theorem noteRetired_hbm (s : State) (kind cause index shortfall island : Nat) : (noteRetired s kind cause index shortfall island).hbm = s.hbm :=
  (noteRetired_changes s kind cause index shortfall island .hbm).resolve_left (by decide)
@[simp] theorem noteRetired_tap (s : State) (kind cause index shortfall island : Nat) : (noteRetired s kind cause index shortfall island).tap = s.tap :=
  (noteRetired_changes s kind cause index shortfall island .tap).resolve_left (by decide)
@[simp] theorem noteRetired_latches (s : State) (kind cause index shortfall island : Nat) : (noteRetired s kind cause index shortfall island).latches = s.latches :=
  (noteRetired_changes s kind cause index shortfall island .latches).resolve_left (by decide)
@[simp] theorem noteRetired_mem (s : State) (kind cause index shortfall island : Nat) : (noteRetired s kind cause index shortfall island).mem = s.mem :=
  (noteRetired_changes s kind cause index shortfall island .mem).resolve_left (by decide)
@[simp] theorem noteRetired_out (s : State) (kind cause index shortfall island : Nat) : (noteRetired s kind cause index shortfall island).out = s.out :=
  (noteRetired_changes s kind cause index shortfall island .out).resolve_left (by decide)
@[simp] theorem noteRetired_fresh (s : State) (kind cause index shortfall island : Nat) : (noteRetired s kind cause index shortfall island).fresh = s.fresh :=
  (noteRetired_changes s kind cause index shortfall island .fresh).resolve_left (by decide)

@[simp] theorem chanMod_pending (s : State) (ch : Nat) (g : MbxChan → MbxChan) : (chanMod s ch g).pending = s.pending :=
  (chanMod_changes s ch g .pending).resolve_left (by decide)
@[simp] theorem chanMod_dev (s : State) (ch : Nat) (g : MbxChan → MbxChan) : (chanMod s ch g).dev = s.dev :=
  (chanMod_changes s ch g .dev).resolve_left (by decide)
@[simp] theorem chanMod_hw (s : State) (ch : Nat) (g : MbxChan → MbxChan) : (chanMod s ch g).hw = s.hw :=
  (chanMod_changes s ch g .hw).resolve_left (by decide)
@[simp] theorem chanMod_fw (s : State) (ch : Nat) (g : MbxChan → MbxChan) : (chanMod s ch g).fw = s.fw :=
  (chanMod_changes s ch g .fw).resolve_left (by decide)
@[simp] theorem chanMod_flash (s : State) (ch : Nat) (g : MbxChan → MbxChan) : (chanMod s ch g).flash = s.flash :=
  (chanMod_changes s ch g .flash).resolve_left (by decide)
@[simp] theorem chanMod_role (s : State) (ch : Nat) (g : MbxChan → MbxChan) : (chanMod s ch g).role = s.role :=
  (chanMod_changes s ch g .role).resolve_left (by decide)
@[simp] theorem chanMod_slices (s : State) (ch : Nat) (g : MbxChan → MbxChan) : (chanMod s ch g).slices = s.slices :=
  (chanMod_changes s ch g .slices).resolve_left (by decide)
@[simp] theorem chanMod_mctp (s : State) (ch : Nat) (g : MbxChan → MbxChan) : (chanMod s ch g).mctp = s.mctp :=
  (chanMod_changes s ch g .mctp).resolve_left (by decide)
@[simp] theorem chanMod_ep0 (s : State) (ch : Nat) (g : MbxChan → MbxChan) : (chanMod s ch g).ep0 = s.ep0 :=
  (chanMod_changes s ch g .ep0).resolve_left (by decide)
@[simp] theorem chanMod_ep1 (s : State) (ch : Nat) (g : MbxChan → MbxChan) : (chanMod s ch g).ep1 = s.ep1 :=
  (chanMod_changes s ch g .ep1).resolve_left (by decide)
@[simp] theorem chanMod_rings (s : State) (ch : Nat) (g : MbxChan → MbxChan) : (chanMod s ch g).rings = s.rings :=
  (chanMod_changes s ch g .rings).resolve_left (by decide)
@[simp] theorem chanMod_pkts (s : State) (ch : Nat) (g : MbxChan → MbxChan) : (chanMod s ch g).pkts = s.pkts :=
  (chanMod_changes s ch g .pkts).resolve_left (by decide)
@[simp] theorem chanMod_nextPid (s : State) (ch : Nat) (g : MbxChan → MbxChan) : (chanMod s ch g).nextPid = s.nextPid :=
  (chanMod_changes s ch g .nextPid).resolve_left (by decide)
@[simp] theorem chanMod_basin (s : State) (ch : Nat) (g : MbxChan → MbxChan) : (chanMod s ch g).basin = s.basin :=
  (chanMod_changes s ch g .basin).resolve_left (by decide)
@[simp] theorem chanMod_plane (s : State) (ch : Nat) (g : MbxChan → MbxChan) : (chanMod s ch g).plane = s.plane :=
  (chanMod_changes s ch g .plane).resolve_left (by decide)
@[simp] theorem chanMod_rasp (s : State) (ch : Nat) (g : MbxChan → MbxChan) : (chanMod s ch g).rasp = s.rasp :=
  (chanMod_changes s ch g .rasp).resolve_left (by decide)
@[simp] theorem chanMod_jig (s : State) (ch : Nat) (g : MbxChan → MbxChan) : (chanMod s ch g).jig = s.jig :=
  (chanMod_changes s ch g .jig).resolve_left (by decide)
@[simp] theorem chanMod_cst (s : State) (ch : Nat) (g : MbxChan → MbxChan) : (chanMod s ch g).cst = s.cst :=
  (chanMod_changes s ch g .cst).resolve_left (by decide)
@[simp] theorem chanMod_sqr (s : State) (ch : Nat) (g : MbxChan → MbxChan) : (chanMod s ch g).sqr = s.sqr :=
  (chanMod_changes s ch g .sqr).resolve_left (by decide)
@[simp] theorem chanMod_act (s : State) (ch : Nat) (g : MbxChan → MbxChan) : (chanMod s ch g).act = s.act :=
  (chanMod_changes s ch g .act).resolve_left (by decide)
@[simp] theorem chanMod_csc (s : State) (ch : Nat) (g : MbxChan → MbxChan) : (chanMod s ch g).csc = s.csc :=
  (chanMod_changes s ch g .csc).resolve_left (by decide)
@[simp] theorem chanMod_twin (s : State) (ch : Nat) (g : MbxChan → MbxChan) : (chanMod s ch g).twin = s.twin :=
  (chanMod_changes s ch g .twin).resolve_left (by decide)
@[simp] theorem chanMod_prp (s : State) (ch : Nat) (g : MbxChan → MbxChan) : (chanMod s ch g).prp = s.prp :=
  (chanMod_changes s ch g .prp).resolve_left (by decide)
@[simp] theorem chanMod_itw (s : State) (ch : Nat) (g : MbxChan → MbxChan) : (chanMod s ch g).itw = s.itw :=
  (chanMod_changes s ch g .itw).resolve_left (by decide)
@[simp] theorem chanMod_cry (s : State) (ch : Nat) (g : MbxChan → MbxChan) : (chanMod s ch g).cry = s.cry :=
  (chanMod_changes s ch g .cry).resolve_left (by decide)
@[simp] theorem chanMod_nvt (s : State) (ch : Nat) (g : MbxChan → MbxChan) : (chanMod s ch g).nvt = s.nvt :=
  (chanMod_changes s ch g .nvt).resolve_left (by decide)
@[simp] theorem chanMod_port0 (s : State) (ch : Nat) (g : MbxChan → MbxChan) : (chanMod s ch g).port0 = s.port0 :=
  (chanMod_changes s ch g .port0).resolve_left (by decide)
@[simp] theorem chanMod_port1 (s : State) (ch : Nat) (g : MbxChan → MbxChan) : (chanMod s ch g).port1 = s.port1 :=
  (chanMod_changes s ch g .port1).resolve_left (by decide)
@[simp] theorem chanMod_macs (s : State) (ch : Nat) (g : MbxChan → MbxChan) : (chanMod s ch g).macs = s.macs :=
  (chanMod_changes s ch g .macs).resolve_left (by decide)
@[simp] theorem chanMod_weir (s : State) (ch : Nat) (g : MbxChan → MbxChan) : (chanMod s ch g).weir = s.weir :=
  (chanMod_changes s ch g .weir).resolve_left (by decide)
@[simp] theorem chanMod_time (s : State) (ch : Nat) (g : MbxChan → MbxChan) : (chanMod s ch g).time = s.time :=
  (chanMod_changes s ch g .time).resolve_left (by decide)
@[simp] theorem chanMod_tio (s : State) (ch : Nat) (g : MbxChan → MbxChan) : (chanMod s ch g).tio = s.tio :=
  (chanMod_changes s ch g .tio).resolve_left (by decide)
@[simp] theorem chanMod_plb (s : State) (ch : Nat) (g : MbxChan → MbxChan) : (chanMod s ch g).plb = s.plb :=
  (chanMod_changes s ch g .plb).resolve_left (by decide)
@[simp] theorem chanMod_ptp (s : State) (ch : Nat) (g : MbxChan → MbxChan) : (chanMod s ch g).ptp = s.ptp :=
  (chanMod_changes s ch g .ptp).resolve_left (by decide)
@[simp] theorem chanMod_hbm (s : State) (ch : Nat) (g : MbxChan → MbxChan) : (chanMod s ch g).hbm = s.hbm :=
  (chanMod_changes s ch g .hbm).resolve_left (by decide)
@[simp] theorem chanMod_gauge (s : State) (ch : Nat) (g : MbxChan → MbxChan) : (chanMod s ch g).gauge = s.gauge :=
  (chanMod_changes s ch g .gauge).resolve_left (by decide)
@[simp] theorem chanMod_tap (s : State) (ch : Nat) (g : MbxChan → MbxChan) : (chanMod s ch g).tap = s.tap :=
  (chanMod_changes s ch g .tap).resolve_left (by decide)
@[simp] theorem chanMod_regs (s : State) (ch : Nat) (g : MbxChan → MbxChan) : (chanMod s ch g).regs = s.regs :=
  (chanMod_changes s ch g .regs).resolve_left (by decide)
@[simp] theorem chanMod_latches (s : State) (ch : Nat) (g : MbxChan → MbxChan) : (chanMod s ch g).latches = s.latches :=
  (chanMod_changes s ch g .latches).resolve_left (by decide)
@[simp] theorem chanMod_mem (s : State) (ch : Nat) (g : MbxChan → MbxChan) : (chanMod s ch g).mem = s.mem :=
  (chanMod_changes s ch g .mem).resolve_left (by decide)
@[simp] theorem chanMod_out (s : State) (ch : Nat) (g : MbxChan → MbxChan) : (chanMod s ch g).out = s.out :=
  (chanMod_changes s ch g .out).resolve_left (by decide)
@[simp] theorem chanMod_fresh (s : State) (ch : Nat) (g : MbxChan → MbxChan) : (chanMod s ch g).fresh = s.fresh :=
  (chanMod_changes s ch g .fresh).resolve_left (by decide)

@[simp] theorem defer_pending (s : State) (ch seq : Nat) : (defer s ch seq).pending = s.pending :=
  (defer_changes s ch seq .pending).resolve_left (by decide)
@[simp] theorem defer_dev (s : State) (ch seq : Nat) : (defer s ch seq).dev = s.dev :=
  (defer_changes s ch seq .dev).resolve_left (by decide)
@[simp] theorem defer_hw (s : State) (ch seq : Nat) : (defer s ch seq).hw = s.hw :=
  (defer_changes s ch seq .hw).resolve_left (by decide)
@[simp] theorem defer_fw (s : State) (ch seq : Nat) : (defer s ch seq).fw = s.fw :=
  (defer_changes s ch seq .fw).resolve_left (by decide)
@[simp] theorem defer_flash (s : State) (ch seq : Nat) : (defer s ch seq).flash = s.flash :=
  (defer_changes s ch seq .flash).resolve_left (by decide)
@[simp] theorem defer_role (s : State) (ch seq : Nat) : (defer s ch seq).role = s.role :=
  (defer_changes s ch seq .role).resolve_left (by decide)
@[simp] theorem defer_slices (s : State) (ch seq : Nat) : (defer s ch seq).slices = s.slices :=
  (defer_changes s ch seq .slices).resolve_left (by decide)
@[simp] theorem defer_mctp (s : State) (ch seq : Nat) : (defer s ch seq).mctp = s.mctp :=
  (defer_changes s ch seq .mctp).resolve_left (by decide)
@[simp] theorem defer_ep0 (s : State) (ch seq : Nat) : (defer s ch seq).ep0 = s.ep0 :=
  (defer_changes s ch seq .ep0).resolve_left (by decide)
@[simp] theorem defer_ep1 (s : State) (ch seq : Nat) : (defer s ch seq).ep1 = s.ep1 :=
  (defer_changes s ch seq .ep1).resolve_left (by decide)
@[simp] theorem defer_rings (s : State) (ch seq : Nat) : (defer s ch seq).rings = s.rings :=
  (defer_changes s ch seq .rings).resolve_left (by decide)
@[simp] theorem defer_pkts (s : State) (ch seq : Nat) : (defer s ch seq).pkts = s.pkts :=
  (defer_changes s ch seq .pkts).resolve_left (by decide)
@[simp] theorem defer_nextPid (s : State) (ch seq : Nat) : (defer s ch seq).nextPid = s.nextPid :=
  (defer_changes s ch seq .nextPid).resolve_left (by decide)
@[simp] theorem defer_basin (s : State) (ch seq : Nat) : (defer s ch seq).basin = s.basin :=
  (defer_changes s ch seq .basin).resolve_left (by decide)
@[simp] theorem defer_plane (s : State) (ch seq : Nat) : (defer s ch seq).plane = s.plane :=
  (defer_changes s ch seq .plane).resolve_left (by decide)
@[simp] theorem defer_rasp (s : State) (ch seq : Nat) : (defer s ch seq).rasp = s.rasp :=
  (defer_changes s ch seq .rasp).resolve_left (by decide)
@[simp] theorem defer_jig (s : State) (ch seq : Nat) : (defer s ch seq).jig = s.jig :=
  (defer_changes s ch seq .jig).resolve_left (by decide)
@[simp] theorem defer_cst (s : State) (ch seq : Nat) : (defer s ch seq).cst = s.cst :=
  (defer_changes s ch seq .cst).resolve_left (by decide)
@[simp] theorem defer_sqr (s : State) (ch seq : Nat) : (defer s ch seq).sqr = s.sqr :=
  (defer_changes s ch seq .sqr).resolve_left (by decide)
@[simp] theorem defer_act (s : State) (ch seq : Nat) : (defer s ch seq).act = s.act :=
  (defer_changes s ch seq .act).resolve_left (by decide)
@[simp] theorem defer_csc (s : State) (ch seq : Nat) : (defer s ch seq).csc = s.csc :=
  (defer_changes s ch seq .csc).resolve_left (by decide)
@[simp] theorem defer_twin (s : State) (ch seq : Nat) : (defer s ch seq).twin = s.twin :=
  (defer_changes s ch seq .twin).resolve_left (by decide)
@[simp] theorem defer_prp (s : State) (ch seq : Nat) : (defer s ch seq).prp = s.prp :=
  (defer_changes s ch seq .prp).resolve_left (by decide)
@[simp] theorem defer_itw (s : State) (ch seq : Nat) : (defer s ch seq).itw = s.itw :=
  (defer_changes s ch seq .itw).resolve_left (by decide)
@[simp] theorem defer_cry (s : State) (ch seq : Nat) : (defer s ch seq).cry = s.cry :=
  (defer_changes s ch seq .cry).resolve_left (by decide)
@[simp] theorem defer_nvt (s : State) (ch seq : Nat) : (defer s ch seq).nvt = s.nvt :=
  (defer_changes s ch seq .nvt).resolve_left (by decide)
@[simp] theorem defer_port0 (s : State) (ch seq : Nat) : (defer s ch seq).port0 = s.port0 :=
  (defer_changes s ch seq .port0).resolve_left (by decide)
@[simp] theorem defer_port1 (s : State) (ch seq : Nat) : (defer s ch seq).port1 = s.port1 :=
  (defer_changes s ch seq .port1).resolve_left (by decide)
@[simp] theorem defer_macs (s : State) (ch seq : Nat) : (defer s ch seq).macs = s.macs :=
  (defer_changes s ch seq .macs).resolve_left (by decide)
@[simp] theorem defer_weir (s : State) (ch seq : Nat) : (defer s ch seq).weir = s.weir :=
  (defer_changes s ch seq .weir).resolve_left (by decide)
@[simp] theorem defer_time (s : State) (ch seq : Nat) : (defer s ch seq).time = s.time :=
  (defer_changes s ch seq .time).resolve_left (by decide)
@[simp] theorem defer_tio (s : State) (ch seq : Nat) : (defer s ch seq).tio = s.tio :=
  (defer_changes s ch seq .tio).resolve_left (by decide)
@[simp] theorem defer_plb (s : State) (ch seq : Nat) : (defer s ch seq).plb = s.plb :=
  (defer_changes s ch seq .plb).resolve_left (by decide)
@[simp] theorem defer_ptp (s : State) (ch seq : Nat) : (defer s ch seq).ptp = s.ptp :=
  (defer_changes s ch seq .ptp).resolve_left (by decide)
@[simp] theorem defer_hbm (s : State) (ch seq : Nat) : (defer s ch seq).hbm = s.hbm :=
  (defer_changes s ch seq .hbm).resolve_left (by decide)
@[simp] theorem defer_gauge (s : State) (ch seq : Nat) : (defer s ch seq).gauge = s.gauge :=
  (defer_changes s ch seq .gauge).resolve_left (by decide)
@[simp] theorem defer_tap (s : State) (ch seq : Nat) : (defer s ch seq).tap = s.tap :=
  (defer_changes s ch seq .tap).resolve_left (by decide)
@[simp] theorem defer_regs (s : State) (ch seq : Nat) : (defer s ch seq).regs = s.regs :=
  (defer_changes s ch seq .regs).resolve_left (by decide)
@[simp] theorem defer_latches (s : State) (ch seq : Nat) : (defer s ch seq).latches = s.latches :=
  (defer_changes s ch seq .latches).resolve_left (by decide)
@[simp] theorem defer_mem (s : State) (ch seq : Nat) : (defer s ch seq).mem = s.mem :=
  (defer_changes s ch seq .mem).resolve_left (by decide)
@[simp] theorem defer_out (s : State) (ch seq : Nat) : (defer s ch seq).out = s.out :=
  (defer_changes s ch seq .out).resolve_left (by decide)
@[simp] theorem defer_fresh (s : State) (ch seq : Nat) : (defer s ch seq).fresh = s.fresh :=
  (defer_changes s ch seq .fresh).resolve_left (by decide)

@[simp] theorem answer_pending (s : State) (ch seq code : Nat) (body : Bytes) : (answer s ch seq code body).pending = s.pending :=
  (answer_changes s ch seq code body .pending).resolve_left (by decide)
@[simp] theorem answer_dev (s : State) (ch seq code : Nat) (body : Bytes) : (answer s ch seq code body).dev = s.dev :=
  (answer_changes s ch seq code body .dev).resolve_left (by decide)
@[simp] theorem answer_hw (s : State) (ch seq code : Nat) (body : Bytes) : (answer s ch seq code body).hw = s.hw :=
  (answer_changes s ch seq code body .hw).resolve_left (by decide)
@[simp] theorem answer_flash (s : State) (ch seq code : Nat) (body : Bytes) : (answer s ch seq code body).flash = s.flash :=
  (answer_changes s ch seq code body .flash).resolve_left (by decide)
@[simp] theorem answer_role (s : State) (ch seq code : Nat) (body : Bytes) : (answer s ch seq code body).role = s.role :=
  (answer_changes s ch seq code body .role).resolve_left (by decide)
@[simp] theorem answer_slices (s : State) (ch seq code : Nat) (body : Bytes) : (answer s ch seq code body).slices = s.slices :=
  (answer_changes s ch seq code body .slices).resolve_left (by decide)
@[simp] theorem answer_mctp (s : State) (ch seq code : Nat) (body : Bytes) : (answer s ch seq code body).mctp = s.mctp :=
  (answer_changes s ch seq code body .mctp).resolve_left (by decide)
@[simp] theorem answer_ep0 (s : State) (ch seq code : Nat) (body : Bytes) : (answer s ch seq code body).ep0 = s.ep0 :=
  (answer_changes s ch seq code body .ep0).resolve_left (by decide)
@[simp] theorem answer_ep1 (s : State) (ch seq code : Nat) (body : Bytes) : (answer s ch seq code body).ep1 = s.ep1 :=
  (answer_changes s ch seq code body .ep1).resolve_left (by decide)
@[simp] theorem answer_rings (s : State) (ch seq code : Nat) (body : Bytes) : (answer s ch seq code body).rings = s.rings :=
  (answer_changes s ch seq code body .rings).resolve_left (by decide)
@[simp] theorem answer_pkts (s : State) (ch seq code : Nat) (body : Bytes) : (answer s ch seq code body).pkts = s.pkts :=
  (answer_changes s ch seq code body .pkts).resolve_left (by decide)
@[simp] theorem answer_nextPid (s : State) (ch seq code : Nat) (body : Bytes) : (answer s ch seq code body).nextPid = s.nextPid :=
  (answer_changes s ch seq code body .nextPid).resolve_left (by decide)
@[simp] theorem answer_basin (s : State) (ch seq code : Nat) (body : Bytes) : (answer s ch seq code body).basin = s.basin :=
  (answer_changes s ch seq code body .basin).resolve_left (by decide)
@[simp] theorem answer_plane (s : State) (ch seq code : Nat) (body : Bytes) : (answer s ch seq code body).plane = s.plane :=
  (answer_changes s ch seq code body .plane).resolve_left (by decide)
@[simp] theorem answer_rasp (s : State) (ch seq code : Nat) (body : Bytes) : (answer s ch seq code body).rasp = s.rasp :=
  (answer_changes s ch seq code body .rasp).resolve_left (by decide)
@[simp] theorem answer_jig (s : State) (ch seq code : Nat) (body : Bytes) : (answer s ch seq code body).jig = s.jig :=
  (answer_changes s ch seq code body .jig).resolve_left (by decide)
@[simp] theorem answer_cst (s : State) (ch seq code : Nat) (body : Bytes) : (answer s ch seq code body).cst = s.cst :=
  (answer_changes s ch seq code body .cst).resolve_left (by decide)
@[simp] theorem answer_sqr (s : State) (ch seq code : Nat) (body : Bytes) : (answer s ch seq code body).sqr = s.sqr :=
  (answer_changes s ch seq code body .sqr).resolve_left (by decide)
@[simp] theorem answer_act (s : State) (ch seq code : Nat) (body : Bytes) : (answer s ch seq code body).act = s.act :=
  (answer_changes s ch seq code body .act).resolve_left (by decide)
@[simp] theorem answer_csc (s : State) (ch seq code : Nat) (body : Bytes) : (answer s ch seq code body).csc = s.csc :=
  (answer_changes s ch seq code body .csc).resolve_left (by decide)
@[simp] theorem answer_twin (s : State) (ch seq code : Nat) (body : Bytes) : (answer s ch seq code body).twin = s.twin :=
  (answer_changes s ch seq code body .twin).resolve_left (by decide)
@[simp] theorem answer_prp (s : State) (ch seq code : Nat) (body : Bytes) : (answer s ch seq code body).prp = s.prp :=
  (answer_changes s ch seq code body .prp).resolve_left (by decide)
@[simp] theorem answer_itw (s : State) (ch seq code : Nat) (body : Bytes) : (answer s ch seq code body).itw = s.itw :=
  (answer_changes s ch seq code body .itw).resolve_left (by decide)
@[simp] theorem answer_cry (s : State) (ch seq code : Nat) (body : Bytes) : (answer s ch seq code body).cry = s.cry :=
  (answer_changes s ch seq code body .cry).resolve_left (by decide)
@[simp] theorem answer_nvt (s : State) (ch seq code : Nat) (body : Bytes) : (answer s ch seq code body).nvt = s.nvt :=
  (answer_changes s ch seq code body .nvt).resolve_left (by decide)
@[simp] theorem answer_port0 (s : State) (ch seq code : Nat) (body : Bytes) : (answer s ch seq code body).port0 = s.port0 :=
  (answer_changes s ch seq code body .port0).resolve_left (by decide)
@[simp] theorem answer_port1 (s : State) (ch seq code : Nat) (body : Bytes) : (answer s ch seq code body).port1 = s.port1 :=
  (answer_changes s ch seq code body .port1).resolve_left (by decide)
@[simp] theorem answer_macs (s : State) (ch seq code : Nat) (body : Bytes) : (answer s ch seq code body).macs = s.macs :=
  (answer_changes s ch seq code body .macs).resolve_left (by decide)
@[simp] theorem answer_weir (s : State) (ch seq code : Nat) (body : Bytes) : (answer s ch seq code body).weir = s.weir :=
  (answer_changes s ch seq code body .weir).resolve_left (by decide)
@[simp] theorem answer_time (s : State) (ch seq code : Nat) (body : Bytes) : (answer s ch seq code body).time = s.time :=
  (answer_changes s ch seq code body .time).resolve_left (by decide)
@[simp] theorem answer_tio (s : State) (ch seq code : Nat) (body : Bytes) : (answer s ch seq code body).tio = s.tio :=
  (answer_changes s ch seq code body .tio).resolve_left (by decide)
@[simp] theorem answer_plb (s : State) (ch seq code : Nat) (body : Bytes) : (answer s ch seq code body).plb = s.plb :=
  (answer_changes s ch seq code body .plb).resolve_left (by decide)
@[simp] theorem answer_ptp (s : State) (ch seq code : Nat) (body : Bytes) : (answer s ch seq code body).ptp = s.ptp :=
  (answer_changes s ch seq code body .ptp).resolve_left (by decide)
@[simp] theorem answer_hbm (s : State) (ch seq code : Nat) (body : Bytes) : (answer s ch seq code body).hbm = s.hbm :=
  (answer_changes s ch seq code body .hbm).resolve_left (by decide)
@[simp] theorem answer_tap (s : State) (ch seq code : Nat) (body : Bytes) : (answer s ch seq code body).tap = s.tap :=
  (answer_changes s ch seq code body .tap).resolve_left (by decide)
@[simp] theorem answer_latches (s : State) (ch seq code : Nat) (body : Bytes) : (answer s ch seq code body).latches = s.latches :=
  (answer_changes s ch seq code body .latches).resolve_left (by decide)
@[simp] theorem answer_mem (s : State) (ch seq code : Nat) (body : Bytes) : (answer s ch seq code body).mem = s.mem :=
  (answer_changes s ch seq code body .mem).resolve_left (by decide)
@[simp] theorem answer_out (s : State) (ch seq code : Nat) (body : Bytes) : (answer s ch seq code body).out = s.out :=
  (answer_changes s ch seq code body .out).resolve_left (by decide)
@[simp] theorem answer_fresh (s : State) (ch seq code : Nat) (body : Bytes) : (answer s ch seq code body).fresh = s.fresh :=
  (answer_changes s ch seq code body .fresh).resolve_left (by decide)

end Sys2Proof.Machine
end

