-- ==== Sys2Proof/Laws/Regs.lean ====
section
/-! SUPPORT. Registers, counters and Heartwood words: read after write, and which registers the shared operations write. -/

namespace Sys2Proof.Machine

open Sys2Proof

@[simp] theorem reg_setReg_self (s : State) (a : Nat) (v : Word) : reg (setReg s a v) a = v := by simp [reg]

theorem reg_setReg_ne (s : State) {a b : Nat} (v : Word) (h : b ≠ a) : reg (setReg s a v) b = reg s b := by
  simp [reg, mapGet_mapSet_ne _ _ h]

theorem reg_congr {s t : State} (h : t.regs = s.regs) (a : Nat) : reg t a = reg s a := by simp [reg, h]

theorem counter_congr {s t : State} (h : t.regs = s.regs) (a : Nat) : counter t a = counter s a := by simp [counter, h]

/-- A counter that counts is one higher, and stays at its top (R58, R60). -/
@[simp] theorem counter_bump_self (s : State) (a : Nat) :
    counter (bump s a) a = BitVec.ofNat 32 (min ((counter s a).toNat + 1) 0xFFFFFFFF) := by
  simp [counter, bump, bumpBy]

theorem counter_bump_ne (s : State) {a b : Nat} (h : b ≠ a) : counter (bump s a) b = counter s b := by
  simp [counter, bump, bumpBy, mapGetD_mapSet_ne _ _ _ h]

theorem reg_bump_ne (s : State) {a b : Nat} (h : b ≠ a) : reg (bump s a) b = reg s b := reg_setReg_ne s _ h

theorem hwWord_congr {s t : State} (h : t.hw = s.hw) (w : Nat) : hwWord t w = hwWord s w := by simp [hwWord, h]

/-- A Heartwood word reads as written, without its reserved bits (R10, R609). -/
theorem hwWord_hwSet_self (s : State) (w : Nat) (v : Word) : hwWord (hwSet s w v) w = BitVec.ofNat 32 (v.toNat &&& hwMask w) := by
  unfold hwWord hwSet
  simp only
  split_ifs with h
  · simp only [mapGet_mapErase_self]; exact h.symm
  · simp only [mapGet_mapSet_self]

theorem hwWord_hwSet_ne (s : State) {w x : Nat} (v : Word) (h : x ≠ w) : hwWord (hwSet s w v) x = hwWord s x := by
  unfold hwWord hwSet
  simp only
  split_ifs
  · rw [mapGet_mapErase_ne _ h]
  · rw [mapGet_mapSet_ne _ _ h]

/-- Words below a group that is written stay as they are. -/
theorem hwWord_hwSetAll_lt (ws : List Word) (s : State) {w x : Nat} (h : x < w) : hwWord (hwSetAll s w ws) x = hwWord s x := by
  induction ws generalizing s w with
  | nil => rfl
  | cons v vs ih => rw [hwSetAll, ih _ (by omega), hwWord_hwSet_ne _ _ (by omega)]

/-- Every word of a group reads as written, without its reserved bits. -/
theorem hwWord_hwSetAll (ws : List Word) (s : State) (w i : Nat) (h : i < ws.length) :
    hwWord (hwSetAll s w ws) (w + i) = BitVec.ofNat 32 (ws[i].toNat &&& hwMask (w + i)) := by
  induction ws generalizing s w i with
  | nil => simp at h
  | cons v vs ih =>
    rw [hwSetAll]
    cases i with
    | zero => exact (hwWord_hwSetAll_lt vs _ (by omega)).trans (hwWord_hwSet_self s w v)
    | succ i =>
      have := ih (hwSet s w v) (w + 1) i (by simpa using h)
      rw [show w + (i + 1) = w + 1 + i by omega, this]; rfl

/-- The same of a group written through the journal (R617), away from the journal's own header. -/
theorem hwWord_hwJournal (s : State) (w i : Nat) (ws : List Word) (h : i < ws.length) (k : w + i ≠ 0x200) :
    hwWord (hwJournal s w ws) (w + i) = BitVec.ofNat 32 (ws[i].toNat &&& hwMask (w + i)) := by
  unfold hwJournal; dsimp only
  rw [hwWord_hwSet_ne _ _ k, hwWord_hwSetAll _ _ _ _ h]

/-- The trace writes one register, its FULL flag (R627). -/
theorem reg_trace (s : State) (source kind flags slice sample : Nat) (data : Bytes) {a : Nat} (h : a ≠ r_GAU_TRACE_STATUS) :
    reg (trace s source kind flags slice sample data) a = reg s a := by
  unfold trace; simp only; split
  · split
    · rw [setBits, reg_setReg_ne _ _ h]; rfl
    · rfl
  · rfl

/-- An answer writes one register, the trace's FULL flag, and no other channel. -/
theorem reg_answer (s : State) (ch seq code : Nat) (body : Bytes) {a : Nat} (h : a ≠ r_GAU_TRACE_STATUS) :
    reg (answer s ch seq code body) a = reg s a := by
  unfold answer; split
  · unfold finish queueResponse; dsimp only
    rw [reg_congr ((chanMod_changes _ ch _ .regs).resolve_left (by decide)), reg_trace _ _ _ _ _ _ _ h,
      reg_congr ((fw_changes _ _ .regs).resolve_left (by decide)), reg_congr ((chanMod_changes s ch _ .regs).resolve_left (by decide))]
  · rfl

theorem chanGet_chanMod_ne (s : State) {ch k : Nat} (g : MbxChan → MbxChan) (h : k ≠ ch) : chanGet (chanMod s ch g) k = chanGet s k :=
  chanGet_chanSet_ne s _ h

theorem chanGet_answer_ne (s : State) {ch k : Nat} (seq code : Nat) (body : Bytes) (h : k ≠ ch) :
    chanGet (answer s ch seq code body) k = chanGet s k := by
  unfold answer; split
  · unfold finish queueResponse; dsimp only
    rw [chanGet_chanMod_ne _ _ h, chanGet_trace, (fw_changes _ _).mbx (by decide), chanGet_chanMod_ne _ _ h]
  · rfl

/-- Of its own channel an answer changes the journal, the started commands and the queue. -/
theorem chanGet_answer_self (u : State) (ch seq code : Nat) (body : Bytes) :
    ∃ j st q, chanGet (answer u ch seq code body) ch = { chanGet u ch with journal := j, started := st, queue := q } := by
  unfold answer; split
  · unfold finish queueResponse; dsimp only
    rw [chanGet_chanMod_self, chanGet_trace, (fw_changes _ _).mbx (by decide), chanGet_chanMod_self]
    exact ⟨_, _, _, rfl⟩
  · exact ⟨_, _, _, rfl⟩

@[simp] theorem mask_answer (u : State) (ch seq code : Nat) (body : Bytes) :
    (chanGet (answer u ch seq code body) ch).mask = (chanGet u ch).mask := by
  obtain ⟨_, _, _, h⟩ := chanGet_answer_self u ch seq code body
  rw [h]

@[simp] theorem dropped_answer (u : State) (ch seq code : Nat) (body : Bytes) :
    (chanGet (answer u ch seq code body) ch).dropped = (chanGet u ch).dropped := by
  obtain ⟨_, _, _, h⟩ := chanGet_answer_self u ch seq code body
  rw [h]

@[simp] theorem hwWord_answer (u : State) (ch seq code : Nat) (body : Bytes) (w : Nat) :
    hwWord (answer u ch seq code body) w = hwWord u w := hwWord_congr (answer_hw u ch seq code body) w

/-- What an answer leaves alone. -/
theorem answer_frame (s : State) (ch seq code : Nat) (body : Bytes) : AnswerFrame [] s (answer s ch seq code body) ch :=
  ⟨answer_changes s ch seq code body, fun _ h => chanGet_answer_ne s seq code body h, fun _ h => reg_answer s ch seq code body h⟩

/-- A command row answers OK when, on a request in range, it ends in that answer from a state in which the command is still started. -/
theorem answersOk_of_exec {c : Nat → Nat → Instr} {op : Nat} {P : State → Nat → Bytes → Prop} {body : State → Nat → Bytes → Bytes}
    {Q : State → State → Nat → Bytes → Prop}
    (ends : ∀ s ch seq req, Begun s ch seq op req → P s ch req →
      ∃ u, exec (c ch seq) s = .next (answer u ch seq rcOk (body s ch req)) ∧ (chanGet u ch).started = (chanGet s ch).started ∧
        Q s (answer u ch seq rcOk (body s ch req)) ch req) : AnswersOk c op P body Q := by
  intro s ch seq req hb hp
  obtain ⟨u, hf, hu, hq⟩ := ends s ch seq req hb hp
  exact ⟨_, hf, answer_answered rcOk _ (hb.unanswered.congr hu), hq⟩

/-- The frame of a change of the parts `ps` that is then answered. -/
theorem answer_frame_of {ps : List Part} {s u : State} (ch seq code : Nat) (body : Bytes) (h : ChangesOnly ps s u)
    (hc : ∀ k, k ≠ ch → chanGet u k = chanGet s k) (hr : ∀ a, a ≠ r_GAU_TRACE_STATUS → reg u a = reg s a) :
    AnswerFrame ps s (answer u ch seq code body) ch := by
  refine ⟨((h.trans (answer_changes u ch seq code body)).mono ?_), ?_, ?_⟩
  · intro p hp; simp only [List.mem_append] at *; tauto
  · intro k hk; rw [chanGet_answer_ne u seq code body hk, hc k hk]
  · intro a ha; rw [reg_answer u ch seq code body ha, hr a ha]

/-- The frame of a change of parts other than the mailboxes and the registers that is then answered. -/
theorem answer_frame_quiet {ps : List Part} {s u : State} (ch seq code : Nat) (body : Bytes) (h : ChangesOnly ps s u)
    (hm : Part.mbx ∉ ps) (hr : Part.regs ∉ ps) : AnswerFrame ps s (answer u ch seq code body) ch :=
  answer_frame_of ch seq code body h (fun k _ => h.mbx hm k) (fun a _ => reg_congr ((h .regs).resolve_left hr) a)

/-- The frame of a change of the command's own channel that is then answered. -/
theorem answer_frame_chan (s : State) (ch seq code : Nat) (g : MbxChan → MbxChan) (body : Bytes) :
    AnswerFrame [] s (answer (chanMod s ch g) ch seq code body) ch := by
  have h := answer_frame_of (ps := [.mbx]) ch seq code body (chanMod_changes s ch g) (fun k hk => chanGet_chanMod_ne s g hk)
    (fun a _ => reg_congr ((chanMod_changes s ch g .regs).resolve_left (by decide)) a)
  exact ⟨h.1.mono (by simp), h.2⟩

/-- An answer leaves every part but four alone. -/
theorem answer_keeps (u : State) (ch seq code : Nat) (body : Bytes) {p : Part} (h : p ∉ answerParts) :
    p.same u (answer u ch seq code body) := (answer_changes u ch seq code body p).resolve_left h

end Sys2Proof.Machine
end

