-- ==== Sys2Proof/Tests/Slice0.lean ====
section
/-! SUPPORT. The author's tests: ill-formed commands that `Instr.wf` refuses, worked cases and tables of the manual (the expected values are
the manual's), and for each statement of Certificates/Slice0/Obligations.lean that has hypotheses a theorem `witness_<Name>`: one part for each
of its clauses, which shows a state and operands that meet the clause's hypotheses. -/

namespace Sys2Proof.Tests

open Sys2Proof Sys2Proof.Machine

set_option Elab.async false
set_option maxRecDepth 20000
set_option linter.unusedSimpArgs false
set_option linter.unusedVariables false

/-! Each check of `Instr.wf`: the highest operand it takes, and one that it refuses. -/

theorem test_wf_okEp : (Instr.vfEnableChange 1 false 0).wf = true ∧ (Instr.vfEnableChange 2 false 0).wf = false := by decide
theorem test_wf_okFunc : (Instr.flrInitiate 1 1024).wf = true ∧ (Instr.flrInitiate 1 1025).wf = false := by decide
theorem test_wf_okVf : (Instr.hifVfItr 1 1024 0 false).wf = true ∧ (Instr.hifVfItr 1 0 0 false).wf = false := by decide
theorem test_wf_okChan : (Instr.mbxPost 2056).wf = true ∧ (Instr.mbxPost 2057).wf = false := by decide
theorem test_wf_okSeq : (Instr.deviceQuery 2056 255).wf = true ∧ (Instr.deviceQuery 2056 256).wf = false := by decide
theorem test_wf_okMac : (Instr.macTxDone 15).wf = true ∧ (Instr.macTxDone 16).wf = false := by decide
theorem test_wf_okClass : (Instr.pauseExpire 15 7).wf = true ∧ (Instr.pauseExpire 15 8).wf = false := by decide
theorem test_wf_okLane : (Instr.ethLaneFecThreshold 1 7).wf = true ∧ (Instr.ethLaneFecThreshold 1 8).wf = false := by decide
theorem test_wf_okPort : (Instr.weirTick 1).wf = true ∧ (Instr.weirTick 2).wf = false := by decide
theorem test_wf_okTio : (Instr.tioArm 9).wf = true ∧ (Instr.tioArm 10).wf = false := by decide
theorem test_wf_okCluster : (Instr.supervisorRestart 7).wf = true ∧ (Instr.supervisorRestart 8).wf = false := by decide
theorem test_wf_okSlot : (Instr.workItemDeliver 7 63 0).wf = true ∧ (Instr.workItemDeliver 7 64 0).wf = false := by decide
theorem test_wf_okQueue : (Instr.txDescriptorRead 1 8191).wf = true ∧ (Instr.txDescriptorRead 1 8192).wf = false := by decide
theorem test_wf_okMaster : (Instr.timeNowSLoRead 4608).wf = true ∧ (Instr.timeNowSLoRead 1025).wf = false := by decide
theorem test_wf_okVec : (Instr.msixSend 1 1024 2047).wf = true ∧ (Instr.msixSend 1 1024 2048).wf = false := by decide
theorem test_wf_okHwWord : (Instr.heartwoodWrite 4608 1023 0).wf = true ∧ (Instr.heartwoodWrite 4608 1024 0).wf = false := by decide
theorem test_wf_okRail : (Instr.railRejoin 1).wf = true ∧ (Instr.railRejoin 2).wf = false := by decide
theorem test_wf_okPcieLane : (Instr.pcieLaneErrorPoll 1 15).wf = true ∧ (Instr.pcieLaneErrorPoll 1 16).wf = false := by decide
theorem test_wf_okPos : (Instr.passStart 0 4095).wf = true ∧ (Instr.passStart 0 4096).wf = false := by decide
theorem test_wf_okEngine : (Instr.engineFault 67 0 0).wf = true ∧ (Instr.engineFault 68 0 0).wf = false := by decide
theorem test_wf_okCore : (Instr.cryptoCoreFail 23).wf = true ∧ (Instr.cryptoCoreFail 24).wf = false := by decide
theorem test_wf_okSupply : (Instr.supplyMonitorTrip 11).wf = true ∧ (Instr.supplyMonitorTrip 12).wf = false := by decide
theorem test_wf_okHbmPc : (Instr.hbmPcAutoRetire 63).wf = true ∧ (Instr.hbmPcAutoRetire 64).wf = false := by decide
theorem test_wf_okBucket : (Instr.ageWalkVisit 1048576).wf = true ∧ (Instr.ageWalkVisit 1048577).wf = false := by decide
theorem test_wf_okJigSlot : (Instr.jigSlotFree 3).wf = true ∧ (Instr.jigSlotFree 4).wf = false := by decide
theorem test_wf_okDovIsland : (Instr.dovetailArrive 3 3).wf = true ∧ (Instr.dovetailArrive 4 3).wf = false := by decide
theorem test_wf_okPipeline : (Instr.dovetailArrive 3 3).wf = true ∧ (Instr.dovetailArrive 3 4).wf = false := by decide
theorem test_wf_okCause : (Instr.endpointContain 1 5 0).wf = true ∧ (Instr.endpointContain 1 0 0).wf = false := by decide
theorem test_wf_okBarOffset : (Instr.bar0Access 1 67108863 0 none).wf = true ∧ (Instr.bar0Access 1 67108864 0 none).wf = false := by decide
theorem test_wf_okEnables : (Instr.registerWrite 4608 0 15 0).wf = true ∧ (Instr.registerWrite 4608 0 16 0).wf = false := by decide
theorem test_wf_okSpeed : (Instr.pcieLinkTrain 1 6 16 false).wf = true ∧ (Instr.pcieLinkTrain 1 0 16 false).wf = false := by decide
theorem test_wf_okWidth : (Instr.pcieLinkTrain 1 6 16 false).wf = true ∧ (Instr.pcieLinkTrain 1 6 3 false).wf = false := by decide
theorem test_wf_okSelfCheck : (Instr.railSelfCheckFail 1 4 5).wf = true ∧ (Instr.railSelfCheckFail 1 0 5).wf = false := by decide
theorem test_wf_okUnit : (Instr.restoreSelfTestFail 1 5).wf = true ∧ (Instr.restoreSelfTestFail 1 6).wf = false := by decide
theorem test_wf_okStream : (Instr.cryPairExpire 9727 0 0 0).wf = true ∧ (Instr.cryPairExpire 9728 0 0 0).wf = false := by decide
theorem test_wf_okContext : (Instr.chainReread 131071).wf = true ∧ (Instr.chainReread 131072).wf = false := by decide
theorem test_wf_okSpare : (Instr.spareMapped 67).wf = true ∧ (Instr.spareMapped 34).wf = false := by decide
theorem test_wf_okPrpPair : (Instr.prpNodeForget [] 7).wf = true ∧ (Instr.prpNodeForget [] 8).wf = false := by decide

/-! Worked cases and tables of the manual. -/

/-- The check value of CRC-32C over "123456789" (R76). -/
theorem test_crc32c_check : crc32c [0x31, 0x32, 0x33, 0x34, 0x35, 0x36, 0x37, 0x38, 0x39] = 0xE3069283 := by decide +kernel

/-- The three test inputs of the flow hash (R78). -/
theorem test_toeplitz_inputs : toeplitz (0x80 :: zeros 11) = 0x3A7C91E2 ∧ toeplitz (0x01 :: zeros 11) = 0x3E48F12E ∧
    toeplitz (0x81 :: zeros 11) = 0x043460CC := by decide +kernel

/-- The table of round-half-even (R53). -/
theorem test_rounding_table : roundHalfEven 5 2 = 2 ∧ roundHalfEven 7 2 = 4 ∧ roundHalfEven (-5) 2 = -2 ∧ roundHalfEven 2500001 1000000 = 3 ∧
    roundHalfEven (-7) 2 = -4 := by decide

/-- A ring index and a twin sequence that have wrapped (R62). -/
theorem test_wrapped_values : distance 32 0x00000003 0xFFFFFFF0 = 19 ∧ later 32 0x00000002 0xFFFFFFFE = true ∧ earlier 8 128 0 = true := by decide

/-- Ticks 1, 2 and 21 of the token bucket (R70). -/
theorem test_bucket_ticks : bucketTick 10000000000 3000 95813632 0 = (100696444, 1024) ∧ bucketTick 10000000000 3000 100696444 1024 = (105579257, 0) ∧
    bucketTick 10000000000 3000 193469882 0 = (196608000, 1024) := by decide

/-- The checksum of a header whose TTL is decremented (R74). -/
theorem test_checksum_update : csumUpdate 0xB861 0x4011 0x3F11 = 0xB961 := by decide

/-- The rebuilt index of a doorbell (R456), and the ring that it fills or breaks (R465). -/
theorem test_doorbell_rebuild : rebuild 0x0001FFF0 0x0018 = 0x00020018 ∧ rebuild 0x00003F10 0x4010 = 0x00004010 ∧
    ringFill 0x00004010 0x00003F10 = ringSize 8 ∧ ringSize 8 < ringFill (rebuild 0x00004010 0x4011) 0x00003F10 := by decide

/-- Extended sequence numbers of ESP on both sides of the window's wrap (R317). -/
theorem test_esn_reconstruction : espNumber true 0x100000010 256 0xFFFFFFF8 = 0x00000000FFFFFFF8 ∧
    espNumber true 0x100000010 256 0x00000020 = 0x100000020 := by decide

/-- The end of the timebase's worked case: 10^9 ticks of 2^56 + ADJ put together as one sum (R379, R382). -/
theorem test_timebase_stamp : stampOf ⟨101, 12499, BitVec.ofNat 56 (2 ^ 56 - 99200000)⟩ = 25856003199999 ∧
    visibleFrac ⟨101, 12499, BitVec.ofNat 56 (2 ^ 56 - 99200000)⟩ = 0xFFFFFFFA := by decide

/-- The servo's worked case: ADJ and the integrator after an offset of 9,599 units (R403). -/
theorem test_servo_case :
    let s : State := { State.reset with
      hw := { words := [(0x083, 0x00008000), (0x084, 0x00000010), (0x085, 0), (0x086, 1)] }
      plb := { state := .locked, integ := 1441151880758 * 65536 } }
    (servo s 9599).time.adj = 1430457514870#64 ∧ (servo s 9599).plb.integ = 1440522800694 * 65536 := by decide +kernel

/-- A rule of the worked case of R127 in profile 3: PRIORITY, K0's value and mask, and Q0's range when it is tested. -/
def rule (prio value mask : Nat) (range : Option (Nat × Nat)) : Bytes :=
  toLe 4 (prio + 65536 + 3 * 131072 + 2097152 * b2n range.isSome) ++ zeros 12 ++ toLe 2 value ++ zeros 30 ++ toLe 2 mask ++ zeros 30 ++
    toLe 2 ((range.map (·.1)).getD 0) ++ toLe 2 ((range.map (·.2)).getD 0) ++ zeros 44

/-- Its rules 10, 11 and 40. -/
def rules : RuleSet :=
  { rules := [(10, rule 200 0x0006 0x00FF (some (8000, 8099))), (11, rule 200 0 0 (some (8080, 8080))), (40, rule 100 0x0011 0x00FF none)] }

/-- The key of a packet: its IP protocol in K0 and its destination port in Q0. -/
def ruleKey (proto port : Nat) : List Nat := proto :: List.replicate 15 0 ++ [port]

/-- TCP to 8,080 hits rule 10, TCP to 8,100 none, UDP to 8,080 rule 11 (R127). -/
theorem test_rule_winner : (ruleWinner rules 3 (ruleKey 6 8080)).map (·.1) = some 10 ∧ ruleWinner rules 3 (ruleKey 6 8100) = none ∧
    (ruleWinner rules 3 (ruleKey 17 8080)).map (·.1) = some 11 := by decide +kernel

/-! Helpers of the witnesses. -/

/-- The adapter in a base mode, with power, both firmware images running and the mailboxes served. -/
def inMode (b : BaseMode) : State :=
  { State.reset with
    dev := { base := b, suppliesUp := true, sysRstN := true, whVerified := true, cscChecked := true, hbmTrained := true, selfTested := true }
    fw := { whRunning := true, cscRunning := true }, mbx := { serving := true }, basin := { area := 4194304 } }

/-- The adapter in SERVICE. -/
def up : State := inMode .service

/-- `s` with one command started on a channel. -/
def begun (s : State) (ch op : Nat) (req : Bytes) : State :=
  chanMod s ch (fun c => { c with started := [{ seq := 1, opcode := op, req := req, running := false, session := false }] })

theorem begun_begun (s : State) (ch op : Nat) (req : Bytes) (h : rsvClean op req = true) : Begun (begun s ch op req) ch 1 op req := by
  refine ⟨{ seq := 1, opcode := op, req := req, running := false, session := false }, ?_, rfl, h⟩
  simp [begun, startedCmd, chanMod, chanGet, chanSet]

/-- Some state and request begin a command of opcode `op` and meet `P`. -/
def Witnessed (op : Nat) (P : State → Nat → Bytes → Prop) : Prop := ∃ s ch seq req, Begun s ch seq op req ∧ P s ch req

theorem witnessed {op : Nat} {P : State → Nat → Bytes → Prop} (s : State) (ch : Nat) (req : Bytes) (h : rsvClean op req = true)
    (hp : P (begun s ch op req) ch req) : Witnessed op P := ⟨begun s ch op req, ch, 1, req, begun_begun s ch op req h, hp⟩

/-- A request of 32 bytes, zero but for the given little-endian fields: offset, width, value. -/
def rq (fs : List (Nat × Nat × Nat)) : Bytes := fs.foldl (fun r f => splice r f.1 (toLe f.2.1 f.2.2)) (zeros 32)

/-- `s` with slice 1, that of PF0 of endpoint 1, with eight queue pairs from 0. -/
def sliceUp (s : State) : State :=
  { s with slices := { s.slices with tab := [(1, { func := 0, ep := 1, twin := false, railMask := 3, openEligible := true, qpBase := 0, qpCount := 8, vecCount := 8, w0Base := 0, w0Count := 0, w1Base := 0, w1Count := 0, basinPages := 0, cstQuota := 1024, saBase := 0, saCount := 8, nvtBase := 0, nvtCount := 8, cscWeight := 1, start := [] })] } }

/-- The Cistern entry of a key with FLAGS in its first word (R162, R163). -/
def entryFor (key : Bytes) (flags : Nat) : Bytes :=
  toLe 4 (byteAt key 0 + 4 + flags + 4194304 * ((h1 key).toNat / 16777216)) ++ zeros 12 ++ fit (key.drop 1) 40 ++ zeros 8

/-! The witnesses of the general statements. -/

theorem witness_AStepRunsTheFrontCommand : (∃ (s : State) (c : Instr) (rest : List Instr), s.pending = c :: rest) ∧ ∃ s : State, s.pending = [] :=
  ⟨⟨{ State.reset with pending := [.supplyUp] }, .supplyUp, [], rfl⟩, State.reset, rfl⟩

theorem witness_EveryCommandKeepsWhatItMayNotChange : (∃ (c : Instr) (s t : State), exec c s = .next t ∧ t.dev.base ≠ s.dev.base) ∧
    ∃ (s t : State), step s = .next t ∧ s.pending ≠ [] :=
  ⟨⟨.supplyUp, State.reset, _, rfl, by decide +kernel⟩, { State.reset with pending := [.supplyUp] }, _, rfl, by decide +kernel⟩

theorem witness_EveryStepKeepsTheMailboxesInOrder : ∃ (s t : State), MailboxesOk s ∧ step s = .next t ∧ s.mbx.chans ≠ [] ∧ s.pending ≠ [] :=
  ⟨{ chanSet up 0 { toHost := [⟨0x8000, 1, 0, 0, [], false⟩] } with pending := [.mbxPost 0] }, _, by unfold MailboxesOk; decide +kernel, rfl,
    by decide +kernel, by decide +kernel⟩

theorem witness_EveryStepKeepsTheStoresInBounds : ∃ (s t : State), StoresOk s ∧ step s = .next t ∧ s.pending ≠ [] :=
  ⟨{ up with pending := [.fabricAccess 4608 0 0 (some [1, 2])] }, _, by unfold StoresOk; decide +kernel, rfl, by decide +kernel⟩

theorem witness_TheBaseModeChangesOnlyOnItsEvents : (∃ (c : Instr) (s t : State), exec c s = .next t ∧ t.dev.base ≠ s.dev.base) ∧
    ∃ (s t : State), step s = .next t ∧ t.dev.base ≠ s.dev.base :=
  ⟨⟨.sysRstNAssert 1000, up, _, rfl, by decide +kernel⟩, { up with pending := [.sysRstNAssert 1000] }, _, rfl, by decide +kernel⟩

theorem witness_ResetPulsesActByTheirWidth : (∃ (s : State) (w : Nat), s.dev.base ≠ .off ∧ 1000 ≤ w) ∧ ∃ w : Nat, w ≤ 200 :=
  ⟨⟨up, 1000, by decide +kernel, by decide⟩, 200, by decide⟩

theorem witness_ComparisonsStampsAndBucketsFollowTheirRules : ∃ n a b d : Nat, 1 ≤ n ∧ a < 2 ^ n ∧ b < 2 ^ n ∧ d = distance n a b :=
  ⟨8, 128, 0, 128, by decide, by decide, by decide, by decide⟩

theorem witness_WeirTicksGainExactlyTheRate : (∃ (rate depth rem : Nat) (level : Int), rem < 2048 ∧
      level + (rate / 2048 + 1 : Nat) ≤ (depth * 65536 : Nat)) ∧
    ∃ (rate depth rem : Nat) (level : Int), rem < 2048 ∧ level + (rate * 8192 : Nat) ≤ (depth * 65536 : Nat) :=
  ⟨⟨10000000000, 3000, 2047, 95813632, by decide, by decide⟩, 80, 10, 2047, 0, by decide, by decide⟩

theorem witness_TheHighestPriorityRuleWins : (∃ (set : RuleSet) (prof : Nat) (keys : List Nat), ∀ x ∈ set.rules, ruleMatches x.2 prof keys = false) ∧
    ∃ (set : RuleSet) (prof : Nat) (keys : List Nat) (i : Nat) (r : Bytes), mapWf set.rules = true ∧ ruleWinner set prof keys = some (i, r) ∧
      ∃ (j : Nat) (q : Bytes), (j, q) ∈ set.rules ∧ j ≠ i ∧ ruleMatches q prof keys = true :=
  ⟨⟨rules, 3, ruleKey 6 8100, by decide +kernel⟩, rules, 3, ruleKey 6 8080, 10, rule 200 0x0006 0x00FF (some (8000, 8099)), by decide +kernel,
    by decide +kernel, 11, rule 200 0 0 (some (8080, 8080)), by decide +kernel⟩

theorem witness_RoundingIsToNearestWithHalvesToEven : ∃ (num : Int) (den : Nat) (q : Int), 0 < den ∧ q = roundHalfEven num den ∧
    (2 * (q * den - num) = den ∨ 2 * (q * den - num) = -(den : Int)) :=
  ⟨5, 2, 2, by decide, by decide, by decide⟩

/-! Witnesses: access. -/

namespace Access

def desk : Nat := r_MAC_PFC_WATCHDOG 0

def cnt : Nat := r_MAC_RX_FRAMES_OK 0

/-- SERVICE with endpoint 0's link up and window 1 of its BAR0 on address 0 with the given rights. -/
def windowUp (rights : Word) : State := { up with ep0 := { dlUp := true, perst := false, wtt := [(1, (rights, 0))] } }

theorem witness_RegistersAndHeartwoodWordsAreReadAndWritten :
    (∃ (s : State) (master : _) (a : _) (v : Word) (h : _), a % 4 = 0 ∧ a < 0x1000000000000 ∧ s.dev.base ≠ .off ∧ s.dev.base ≠ .held ∧
      regFind a = some h ∧ viewWord h = none ∧ h.desc.rw ||| h.desc.wo ||| h.desc.w1c ||| h.desc.w1s ≠ 0 ∧
      regHook s master a 15 v.toNat = none) ∧
    (∃ (s : State) (a : _), a < 0x1000000000000 ∧ (s.dev.base = .off ∨ s.dev.base = .held)) ∧
    (∃ (c : _) (s : State) (a : _) (h : _), c ∈ [Instr.rcRegisterRead, Instr.counterLoRead] ∧ a % 4 = 0 ∧ a < 0x1000000000000 ∧
      s.dev.base ≠ .off ∧ s.dev.base ≠ .held ∧ regFind a = some h ∧ h.desc.rc ≤ 0xFFFFFFFF ∧ s.latches = []) ∧
    (∃ (c : _) (s : State) (a : _) (h : _), c ∈ [Instr.rcRegisterRead, Instr.counterLoRead] ∧ a % 4 = 0 ∧ a < 0x1000000000000 ∧
      s.dev.base ≠ .off ∧ s.dev.base ≠ .held ∧ regFind a = some h ∧ h.desc.rc ≤ 0xFFFFFFFF ∧ s.latches = [] ∧ h.desc.lower = false ∧
      a ≠ r_TIME_NOW_S ∧ (a < 0x1310010000 ∨ 0x1318000000 ≤ a) ∧ (a < 0x1330020000 ∨ 0x1330020280 ≤ a)) ∧
    (∃ (c : _) (s : State) (a : _) (h : _), c ∈ [Instr.rcRegisterRead, Instr.counterLoRead] ∧ a % 4 = 0 ∧ a < 0x1000000000000 ∧
      s.dev.base ≠ .off ∧ s.dev.base ≠ .held ∧ regFind a = some h ∧ h.desc.rc ≤ 0xFFFFFFFF ∧ s.latches = [] ∧ h.desc.lower = true ∧
      h.desc.rc = 0 ∧ a ≠ r_TIME_NOW_S ∧ (a < 0x1310010000 ∨ 0x1318000000 ≤ a) ∧ (a < 0x1330020000 ∨ 0x1330020280 ≤ a)) ∧
    (∃ (c : _) (s : State) (master : _) (a : _) (h : _) (l : ReadLatch), c ∈ [Instr.rcRegisterRead, Instr.counterLoRead] ∧ a % 4 = 0 ∧
      a < 0x1000000000000 ∧ s.dev.base ≠ .off ∧ s.dev.base ≠ .held ∧ regFind a = some h ∧ h.desc.rc ≤ 0xFFFFFFFF ∧ s.latches = [l] ∧
      l.master = master ∧ l.island = latchIsland a ∧ l.addr = a) ∧
    (∃ (s : State), s.dev.base ≠ .off ∧ s.dev.base ≠ .held ∧ s.latches = []) ∧
    (∃ (s : State) (a be : Nat), reg (regStore s a ((regFind desk).get (by decide +kernel)).desc be 5) a ≠ reg s a) ∧
    (∃ (s : State) (w : _), s.dev.base ≠ .off ∧ s.dev.base ≠ .held ∧ 1 ≤ w ∧ w ≤ 1023 ∧ w ≠ 0x082 ∧ pairLower w = false ∧
      pairLower (w - 1) = false) ∧
    (∃ (s : State) (w : _), s.dev.base ≠ .off ∧ s.dev.base ≠ .held ∧ pairLower w = true) ∧
    (∃ (s : State) (master : _) (w : _) (u : Word), s.dev.base ≠ .off ∧ s.dev.base ≠ .held ∧ pairLower w = true ∧
      s.hw.staged = [(master, w, u)]) ∧
    (∃ (s : State) (w : _), (s.dev.base = .off ∨ s.dev.base = .held ∨ 1023 < w)) :=
  ⟨⟨up, 4608, desk, (100 : Word), (regFind desk).get (by decide +kernel), by decide +kernel⟩,
    ⟨State.reset, desk, by decide +kernel⟩,
    ⟨Instr.rcRegisterRead, up, desk, (regFind desk).get (by decide +kernel), ⟨List.mem_cons_self, by decide +kernel⟩⟩,
    ⟨Instr.rcRegisterRead, up, desk, (regFind desk).get (by decide +kernel), ⟨List.mem_cons_self, by decide +kernel⟩⟩,
    ⟨Instr.counterLoRead, up, cnt, (regFind cnt).get (by decide +kernel), ⟨by simp, by decide +kernel⟩⟩,
    ⟨Instr.counterLoRead, { up with latches := [⟨4608, latchIsland (cnt + 4), cnt + 4, 9⟩] }, 4608, cnt + 4,
      (regFind (cnt + 4)).get (by decide +kernel), (⟨4608, latchIsland (cnt + 4), cnt + 4, 9⟩ : ReadLatch), ⟨by simp, by decide +kernel⟩⟩,
    ⟨up, by decide +kernel⟩,
    ⟨up, desk, 15, by decide +kernel⟩,
    ⟨up, 1023, by decide +kernel⟩,
    ⟨up, 0x0D9, by decide +kernel⟩,
    ⟨{ up with hw := { staged := [(4608, 0x0D9, 6)] } }, 4608, 0x0D9, (6 : Word), by decide +kernel⟩,
    ⟨up, 1024, by decide +kernel⟩⟩

theorem witness_MappedAccessesReachTheirBytes :
    (∃ (s : State) (master : _) (a : _) (b : Bytes), masterRuns s master = true ∧ b ≠ [] ∧ a + b.length ≤ traceBase s) ∧
    (∃ (s : State) (master : _) (a : _) (n : _), masterRuns s master = true ∧ 0 < n ∧ a + n ≤ traceBase s) ∧
    (∃ (s : State) (master : _) (a : _) (n : _), masterRuns s master = true ∧ 0 < n ∧ mappedAll a n = false ∧
      (master < 4096 ∨ 4608 ≤ master)) ∧
    (∃ (s : State) (master : _) (a : _) (b : Bytes), masterRuns s master = true ∧ b ≠ [] ∧ mappedAll a b.length = false) ∧
    (∃ (s : State) (master : _), masterRuns s master = false) ∧
    (∃ (s : State) (ep : _) (off : _) (w : _) (a : _) (n : _), hostGate s ep 0 = .open_ ∧ w = wttGet s ep (off / 0x40000) ∧
      a = w.1.toNat / 262144 * 262144 + 4294967296 * w.2.toNat + off % 0x40000 ∧ 0 < n ∧ n ≤ 64 ∧ off + n ≤ 0x4000000 ∧
      a + n ≤ traceBase s ∧ bitAt w.1.toNat 0 = true ∧ bitAt w.1.toNat 1 = true) ∧
    (∃ (s : State) (ep : _) (off : _) (w : _) (a : _) (n : _), hostGate s ep 0 = .open_ ∧ w = wttGet s ep (off / 0x40000) ∧
      a = w.1.toNat / 262144 * 262144 + 4294967296 * w.2.toNat + off % 0x40000 ∧ 0 < n ∧ n ≤ 64 ∧ off + n ≤ 0x4000000 ∧ ep < 2 ∧
      (bitAt w.1.toNat 0 && bitAt w.1.toNat 1) = false) ∧
    (∃ (s : State) (ep : _) (off : _) (w : _) (a : _) (b : Bytes), hostGate s ep 0 = .open_ ∧ w = wttGet s ep (off / 0x40000) ∧
      a = w.1.toNat / 262144 * 262144 + 4294967296 * w.2.toNat + off % 0x40000 ∧ b ≠ [] ∧ off + b.length ≤ 0x4000000 ∧
      a + b.length ≤ traceBase s ∧ bitAt w.1.toNat 0 = true ∧ bitAt w.1.toNat 2 = true) ∧
    (∃ (s : State) (ep : _) (off : _) (w : _) (a : _) (b : Bytes), hostGate s ep 0 = .open_ ∧ w = wttGet s ep (off / 0x40000) ∧
      a = w.1.toNat / 262144 * 262144 + 4294967296 * w.2.toNat + off % 0x40000 ∧ b ≠ [] ∧ off + b.length ≤ 0x4000000 ∧ ep < 2 ∧
      (bitAt w.1.toNat 0 && bitAt w.1.toNat 2) = false) :=
  ⟨⟨up, 4608, traceBase up - 2, ([1, 2] : Bytes), by decide +kernel⟩,
    ⟨up, 4608, 0, 8, by decide +kernel⟩,
    ⟨up, 4608, 0x2000000000000, 8, by decide +kernel⟩,
    ⟨up, 4608, 0x2000000000000, ([1, 2] : Bytes), by decide +kernel⟩,
    ⟨State.reset, 4608, by decide +kernel⟩,
    ⟨windowUp 7, 0, 0x40000, (7, 0), 0, 64, by decide +kernel⟩,
    ⟨windowUp 1, 0, 0x40000, (1, 0), 0, 64, by decide +kernel⟩,
    ⟨windowUp 7, 0, 0x7FFFE, (7, 0), 0x3FFFE, ([1, 2] : Bytes), by decide +kernel⟩,
    ⟨windowUp 1, 0, 0x40000, (1, 0), 0, ([1, 2] : Bytes), by decide +kernel⟩⟩

end Access

/-! Witnesses: modes. -/

namespace Modes

def ho : Handover := { whBank := some 1, cscBank := none, raiseSvn := false, step := 7, cluster := 0, chan := 0, seq := 1, since := 0, fromRestricted := false }

theorem witness_ResetsDiscardEverythingAndHeldEndsInBoot :
    (∃ (s : State) (n : _), s.dev.base ≠ .off ∧ n ≤ 11 ∧ s.dev.sysRstN = true) ∧
    (∃ (s : State) (w : _), s.dev.base ≠ .off ∧ 200 < w ∧ w < 1000) ∧
    (∃ (s : State) (cause : _), s.dev.base ≠ .off ∧ s.dev.resetPending = some cause ∧ cause ≤ 7) ∧
    (∃ (s : State), s.dev.base = .off ∧ s.dev.sysRstN = false) ∧
    (∃ (s : State), s.dev.base = .held ∧ s.dev.suppliesUp = true ∧ s.dev.tbOsc = true ∧ s.dev.resetHeld = false) ∧
    (∃ (s : State), s.dev.base = .held ∧ s.dev.suppliesUp = false) ∧
    (∃ (s : State), s.dev.base = .held ∧ s.dev.suppliesUp = true ∧ s.dev.sysRstN = true ∧ s.dev.resetHeld = false) ∧
    (∃ (s : State), s.dev.base = .held ∧ s.dev.suppliesUp = true ∧ s.dev.sysRstN = true ∧ s.dev.tbOsc = true) ∧
    (∃ (s : State), s.dev.base = .off ∧ s.dev.sysRstN = true ∧ s.dev.tbOsc = true) :=
  ⟨⟨up, 11, by decide +kernel⟩,
    ⟨up, 999, by decide +kernel⟩,
    ⟨{ up with dev := { up.dev with resetPending := some 4 } }, 4, by decide +kernel⟩,
    ⟨State.reset, by decide +kernel⟩,
    ⟨inMode .held, by decide +kernel⟩,
    ⟨{ inMode .held with dev := { base := .held, suppliesUp := false } }, by decide +kernel⟩,
    ⟨inMode .held, by decide +kernel⟩,
    ⟨{ inMode .held with dev := { base := .held, suppliesUp := true, sysRstN := true, resetHeld := true } }, by decide +kernel⟩,
    ⟨{ State.reset with dev := { sysRstN := true } }, by decide +kernel⟩⟩

theorem witness_BootEndsInProvisionOrRestricted :
    (∃ (s : State), s.dev.base = .boot ∧ s.dev.whVerified = false ∧ s.dev.recovery = false) ∧
    (∃ (s : State), s.dev.base = .boot ∧ s.dev.whVerified = true ∧ s.dev.cscChecked = false) ∧
    (∃ (s : State), s.dev.base = .boot ∧ s.dev.whVerified = true ∧ s.dev.hbmTrained = false) ∧
    (∃ (s : State), s.dev.base = .boot ∧ s.dev.hbmTrained = true ∧ s.dev.selfTested = false) ∧
    (∃ (s : State), s.dev.base = .boot ∧ s.dev.recovery = true) ∧
    (∃ (s : State), s.dev.base = .boot ∧ s.dev.recovery = false ∧ s.dev.whVerified = true ∧ s.dev.cscChecked = true ∧
      s.dev.hbmTrained = true ∧ s.dev.selfTested = true) ∧
    (∃ (s : State) (h : _), s.fw.handover = some h ∧ h.step = 7) :=
  ⟨⟨{ State.reset with dev := { base := .boot } }, by decide +kernel⟩,
    ⟨{ State.reset with dev := { base := .boot, whVerified := true } }, by decide +kernel⟩,
    ⟨{ State.reset with dev := { base := .boot, whVerified := true } }, by decide +kernel⟩,
    ⟨{ State.reset with dev := { base := .boot, whVerified := true, hbmTrained := true } }, by decide +kernel⟩,
    ⟨{ State.reset with dev := { base := .boot, recovery := true } }, by decide +kernel⟩,
    ⟨inMode .boot, by decide +kernel⟩,
    ⟨{ up with fw := { up.fw with handover := some ho } }, ho, by decide +kernel⟩⟩

theorem witness_ModeCommandsAndRetirementsTakeEffect :
    Witnessed 0x0140 (fun _ ch req => byteAt req 0 = 1 ∧ (chanSecure ch = true ∨ le req 2 2 = 0x5A5A)) ∧
    Witnessed 0x0140 (fun s _ req => byteAt req 0 = 4 ∧ s.dev.base = .service ∧ s.dev.quiesce = 0) ∧
    Witnessed 0x0140 (fun s _ req => byteAt req 0 = 4 ∧ s.dev.base = .quiescent ∧ s.dev.quiesce = 0) ∧
    Witnessed 0x0140 (fun s _ req => byteAt req 0 = 9 ∧ running s = true ∧ s.dev.quiesce = 0) ∧
    Witnessed 0x0140 (fun s _ req => byteAt req 0 = 11 ∧ s.dev.base = .provision ∧ pf0Active s = false ∧ s.dev.quiesce = 0) ∧
    (∃ (s : State), s.dev.quiesce = 1 ∧ s.dev.base = .provision) ∧
    (∃ (s : State), s.dev.quiesce = 2 ∧ s.dev.base = .quiescent) ∧
    Witnessed 0x0141 (fun _ _ _ => True) ∧
    Witnessed 0x0144 (fun s _ req => 1 ≤ byteAt req 0 ∧ byteAt req 0 ≤ 16 ∧
      pagesReserved s + pagesLossless s ≤ byteAt req 0 * 262144 - 196608 * hbmGoneCount s) ∧
    Witnessed 0x0142 (fun s _ req => byteAt req 0 ≤ 63 ∧ hbmGone s (byteAt req 0) = false ∧ hbmGoneCount s < 8 ∧
      pagesReserved s + pagesLossless s + 196608 * (s.hbm.retiring.length + 1) ≤ s.basin.area) ∧
    (∃ (s : State) (pc : _), pc ≤ 63 ∧ hbmGone s pc = false ∧ hbmGoneCount s < 8 ∧ datapathOn s = true) ∧
    (∃ (s : State) (pc : _) (cause : _) (rest : List (Nat × Nat)), s.hbm.retiring = (pc, cause) :: rest ∧ pc ≤ 63) ∧
    Witnessed 0x0143 (fun _ _ _ => True) ∧
    (∃ (c : _) (s : State) (p : _) (lane : _), c ∈ [Instr.ethLaneFecThreshold, Instr.laneLockLoss] ∧ datapathOn s = true ∧ p ≤ 1 ∧
      lane ≤ 7 ∧ bitAt (portGet s p).retired lane = false) ∧
    (∃ (c : _) (s : State) (lane : _), c ∈ [Instr.ethLaneFecThreshold, Instr.laneLockLoss] ∧ datapathOn s = true ∧ lane ≤ 3 ∧
      bitAt s.itw.lanesRetired lane = false ∧ (∃ l ≤ 3, l ≠ lane ∧ bitAt s.itw.lanesRetired l = false)) :=
  ⟨witnessed (up) 0 (rq [(0, 1, 1), (2, 2, 0x5A5A)]) (by decide +kernel) (by decide +kernel),
    witnessed (up) 0 (rq [(0, 1, 4)]) (by decide +kernel) (by decide +kernel),
    witnessed (inMode .quiescent) 0 (rq [(0, 1, 4)]) (by decide +kernel) (by decide +kernel),
    witnessed (up) 0 (rq [(0, 1, 9)]) (by decide +kernel) (by decide +kernel),
    witnessed (inMode .provision) 0 (rq [(0, 1, 11)]) (by decide +kernel) (by decide +kernel),
    ⟨{ inMode .provision with dev := { (inMode .provision).dev with quiesce := 1 } }, by decide +kernel⟩,
    ⟨{ inMode .quiescent with dev := { (inMode .quiescent).dev with quiesce := 2 } }, by decide +kernel⟩,
    witnessed (up) 0 (rq []) (by decide +kernel) (by decide +kernel),
    witnessed (up) 0 (rq [(0, 1, 16)]) (by decide +kernel) (by decide +kernel),
    witnessed (up) 0 (rq [(0, 1, 63)]) (by decide +kernel) (by decide +kernel),
    ⟨up, 63, by decide +kernel⟩,
    ⟨{ up with hbm := { retiring := [(63, 1)] } }, 63, 1, ([] : List (Nat × Nat)), by decide +kernel⟩,
    witnessed (up) 0 (rq []) (by decide +kernel) (by decide +kernel),
    ⟨Instr.laneLockLoss, up, 1, 7, ⟨by simp, by decide +kernel⟩⟩,
    ⟨Instr.ethLaneFecThreshold, up, 3, ⟨by simp, by decide +kernel⟩⟩⟩

end Modes

/-! Witnesses: firmware. -/

namespace Firmware

def hand (step : Nat) : State := { up with fw := { up.fw with handover := some { whBank := some 1, cscBank := some 1, raiseSvn := false, step := step, cluster := 0, chan := 3, seq := 9, since := 0, fromRestricted := false } } }

def h0 (step : Nat) : Handover := { whBank := some 1, cscBank := some 1, raiseSvn := false, step := step, cluster := 0, chan := 3, seq := 9, since := 0, fromRestricted := false }

theorem witness_ImagesAndLockstepPairsFollowTheirCommands :
    Witnessed 0x0B00 (fun s _ req => byteAt req 0 ≤ 1 ∧ byteAt req 1 ≤ 1 ∧ imgRunning s (byteAt req 0) (byteAt req 1) = false ∧
      handoverBank s (byteAt req 0) (byteAt req 1) = false ∧ 512 ≤ le req 4 4 ∧ le req 4 4 ≤ bankSize (byteAt req 0) ∧
      pldmBusy s (byteAt req 0) = false) ∧
    Witnessed 0x0B01 (fun s _ req => byteAt req 0 ≤ 1 ∧ byteAt req 1 ≤ 1 ∧ imgRunning s (byteAt req 0) (byteAt req 1) = false ∧
      handoverBank s (byteAt req 0) (byteAt req 1) = false ∧ (bankGet s (byteAt req 0) (byteAt req 1)).state = 3 ∧ 4 ≤ le req 2 2 ∧
      le req 2 2 ≤ 236 ∧ le req 2 2 % 4 = 0 ∧ le req 4 4 + le req 2 2 ≤ (bankGet s (byteAt req 0) (byteAt req 1)).size ∧ ∀ i < le req 2 2,
      mapHas (bankGet s (byteAt req 0) (byteAt req 1)).bytes (le req 4 4 + i) = false) ∧
    Witnessed 0x0B02 (fun s _ req => byteAt req 0 ≤ 1 ∧ byteAt req 1 ≤ 1 ∧ imgRunning s (byteAt req 0) (byteAt req 1) = false ∧
      handoverBank s (byteAt req 0) (byteAt req 1) = false ∧ (bankGet s (byteAt req 0) (byteAt req 1)).state = 3) ∧
    Witnessed 0x0B03 (fun _ _ _ => True) ∧
    Witnessed 0x0B04 (fun s _ req => byteAt req 0 ≤ 1 ∧ byteAt req 1 ≤ 1 ∧ imgRunning s (byteAt req 0) (byteAt req 1) = false ∧
      handoverBank s (byteAt req 0) (byteAt req 1) = false) ∧
    (∃ (s : State) (ch : _) (seq : _) (req : _), Begun s ch seq 0x0B08 req ∧ 1 ≤ le req 2 2 ∧ le req 2 2 ≤ 60) ∧
    Witnessed 0x0B09 (fun _ _ req => 1 ≤ le req 2 2 ∧ le req 2 2 ≤ 240 ∧ le req 0 2 + le req 2 2 ≤ 4096 ∧ bitAt (byteAt req 4) 0 = false) ∧
    (∃ (s : State) (ch : _) (seq : _) (req : _), Begun s ch seq 0x0B13 req ∧ byteAt req 0 ≤ 1 ∧ byteAt req 1 ≤ 1) ∧
    Witnessed 0x0B14 (fun _ _ _ => True) ∧
    (∃ (c : _) (k : _) (s : State), (c, k) ∈ [(Instr.lockstepMismatch, 0), (Instr.watchdogExpire, 1)] ∧ s.fw.whRunning = true ∧
      s.fw.restarting = none ∧ s.fw.handover = none) ∧
    (∃ (s : State) (k : _), s.fw.restarting = some k) ∧
    (∃ (s : State), s.fw.whRunning = true ∧ s.fw.restarting = none) ∧
    (∃ (s : State), s.fw.whRunning = true ∧ (s.fw.spare = .ready ∨ s.fw.spare = .selfTest)) ∧
    (∃ (s : State), s.fw.whRunning = true ∧ (s.fw.spare = .ready ∨ s.fw.spare = .selfTest)) ∧
    Witnessed 0x0B20 (fun _ _ _ => True) ∧
    Witnessed 0x0B21 (fun _ _ _ => True) :=
  ⟨witnessed (up) 0 (rq [(0, 1, 1), (1, 1, 1), (4, 4, 512)]) (by decide +kernel) (by decide +kernel),
    witnessed (bankOpen up 1 1 512) 0 (rq [(0, 1, 1), (1, 1, 1), (2, 2, 4), (4, 4, 508), (8, 4, 0xDDCCBBAA)]) (by decide +kernel) (by decide +kernel),
    witnessed (bankOpen up 0 1 512) 0 (rq [(0, 1, 0), (1, 1, 1)]) (by decide +kernel) (by decide +kernel),
    witnessed (up) 0 (rq []) (by decide +kernel) (by decide +kernel),
    witnessed (up) 0 (rq [(0, 1, 0), (1, 1, 1)]) (by decide +kernel) (by decide +kernel),
    ⟨begun up 0 0x0B08 (rq [(2, 2, 60)]), 0, 1, rq [(2, 2, 60)], ⟨begun_begun _ _ _ _ (by decide +kernel), by decide +kernel⟩⟩,
    witnessed (up) 0 (rq [(0, 2, 3856), (2, 2, 240)]) (by decide +kernel) (by decide +kernel),
    ⟨begun up 0 0x0B13 (rq [(0, 1, 1), (1, 1, 1)]), 0, 1, rq [(0, 1, 1), (1, 1, 1)], ⟨begun_begun _ _ _ _ (by decide +kernel),
      by decide +kernel⟩⟩,
    witnessed (up) 0 (rq []) (by decide +kernel) (by decide +kernel),
    ⟨Instr.watchdogExpire, 1, up, ⟨by simp, by decide +kernel⟩⟩,
    ⟨{ up with fw := { up.fw with restarting := some (1, 0) } }, (1, 0), by decide +kernel⟩,
    ⟨up, by decide +kernel⟩,
    ⟨{ up with fw := { up.fw with spare := .selfTest } }, by decide +kernel⟩,
    ⟨up, by decide +kernel⟩,
    witnessed (up) 0 (rq []) (by decide +kernel) (by decide +kernel),
    witnessed (up) 0 (rq []) (by decide +kernel) (by decide +kernel)⟩

theorem witness_HandoverMovesStepByStep :
    (∃ (s : State) (ch : _) (seq : _) (req : _), Begun s ch seq 0x0B10 req ∧ s.fw.handover = none ∧ commitRuns s = false) ∧
    Witnessed 0x0B11 (fun _ _ _ => True) ∧
    (∃ (s : State) (ch : _) (seq : _) (req : _) (h : _), Begun s ch seq 0x0B12 req ∧ s.fw.handover = some h ∧ h.step < 3 ∧ (h.chan,
      h.seq) ≠ (ch, seq)) ∧
    (∃ (s : State) (h : _), s.fw.handover = some h ∧ h.step = 2) ∧
    (∃ (s : State) (h : _), s.fw.handover = some h ∧ h.step = 3 ∧ s.fw.restarting = none) ∧
    (∃ (s : State) (h : _), s.fw.handover = some h ∧ h.step = 4) ∧
    (∃ (s : State), s.fw.spare = .loading ∧ s.fw.handover = none) ∧
    (∃ (s : State) (h : _), s.fw.handover = some h ∧ (h.step = 2 ∨ h.step = 4)) ∧
    (∃ (s : State) (h : _), s.fw.handover = some h ∧ h.step = 6 ∧ h.cluster < 4) :=
  ⟨⟨begun up 0 0x0B10 (rq [(0, 1, 1), (1, 1, 0xFF)]), 0, 1, rq [(0, 1, 1), (1, 1, 0xFF)], ⟨begun_begun _ _ _ _ (by decide +kernel),
    by decide +kernel⟩⟩,
    witnessed (up) 0 (rq []) (by decide +kernel) (by decide +kernel),
    ⟨begun (hand 2) 0 0x0B12 (rq []), 0, 1, rq [], h0 2, ⟨begun_begun _ _ _ _ (by decide +kernel), by decide +kernel⟩⟩,
    ⟨hand 2, h0 2, by decide +kernel⟩,
    ⟨hand 3, h0 3, by decide +kernel⟩,
    ⟨hand 4, h0 4, by decide +kernel⟩,
    ⟨{ up with fw := { up.fw with spare := .loading } }, by decide +kernel⟩,
    ⟨hand 4, h0 4, by decide +kernel⟩,
    ⟨{ hand 6 with fw := { (hand 6).fw with handover := some { h0 6 with cluster := 3 } } }, { h0 6 with cluster := 3 }, by decide +kernel⟩⟩

end Firmware

/-! Witnesses: mailbox. -/

namespace Mailbox

/-- SERVICE with endpoint 0's link up and channel 0 as given. -/
def mbUp (c : MbxChan) : State := chanSet { up with ep0 := { dlUp := true, perst := false } } 0 c

def msgOf (op n : Nat) (sg rg : BitVec 16) : Msg := ⟨op, n, sg, rg, [], false⟩

def post (len : Nat) : Bytes := [4, 1, BitVec.ofNat 8 len, 7]

def dup : MbxChan := { toFw := [msgOf 0x0104 7 0 0], journal := [⟨7, 0x0104, 0, some (0, [])⟩] }

theorem witness_FirmwareRunsCommandsAndTheManagerIsNamed :
    (∃ (s : State) (ch : _) (m : _) (rest : List Msg), (chanGet s ch).toFw = m :: rest ∧ s.mbx.serving = true ∧
      (chanGet s ch).queue.length < 8 ∧ (chanGet s ch).started.any (fun x => !x.running) = false ∧ m.senderGen ≠ (chanGet s ch).hostGen) ∧
    (∃ (s : State) (ch : _) (m : _) (rest : List Msg), (chanGet s ch).toFw = m :: rest ∧ s.mbx.serving = true ∧
      (chanGet s ch).queue.length < 8 ∧ (chanGet s ch).started.any (fun x => !x.running) = false ∧ m.senderGen = (chanGet s ch).hostGen ∧
      m.receiverGen ≠ s.mbx.fwGen) ∧
    (∃ (s : State) (ch : _) (m : _) (rest : List Msg) (j : Journal), (chanGet s ch).toFw = m :: rest ∧ s.mbx.serving = true ∧
      (chanGet s ch).queue.length < 8 ∧ (chanGet s ch).started.any (fun x => !x.running) = false ∧ m.senderGen = (chanGet s ch).hostGen ∧
      m.receiverGen = s.mbx.fwGen ∧ (chanGet s ch).journal.find? (fun x => x.seq = m.seq) = some j) ∧
    (∃ (s : State) (ch : _) (m : _) (rest : List Msg) (code : _), (chanGet s ch).toFw = m :: rest ∧ s.mbx.serving = true ∧
      (chanGet s ch).queue.length < 8 ∧ (chanGet s ch).started.any (fun x => !x.running) = false ∧ m.senderGen = (chanGet s ch).hostGen ∧
      m.receiverGen = s.mbx.fwGen ∧ (chanGet s ch).journal.find? (fun x => x.seq = m.seq) = none ∧
      commandCheck s ch (msgSession s ch m) m.opcode m.payload = some code) ∧
    (∃ (s : State) (ch : _) (m : _) (rest : List Msg), (chanGet s ch).toFw = m :: rest ∧ s.mbx.serving = true ∧
      (chanGet s ch).queue.length < 8 ∧ (chanGet s ch).started.any (fun x => !x.running) = false ∧ m.senderGen = (chanGet s ch).hostGen ∧
      m.receiverGen = s.mbx.fwGen ∧ (chanGet s ch).journal.find? (fun x => x.seq = m.seq) = none ∧
      commandCheck s ch (msgSession s ch m) m.opcode m.payload = none) ∧
    (∃ (s : State) (ch : _),
      (chanGet s ch).toFw = [] ∨ s.mbx.serving = false ∨ 8 ≤ (chanGet s ch).queue.length ∨ (chanGet s ch).started.any (fun x => !x.running) = true) ∧
    Witnessed 0x0100 (fun _ _ _ => True) ∧
    Witnessed 0x0102 (fun _ _ req => le req 0 4 &&& 0xFFFFF001 = 0) ∧
    Witnessed 0x0103 (fun _ _ _ => True) ∧
    Witnessed 0x0104 (fun _ _ _ => True) ∧
    Witnessed 0x0110 (fun _ _ _ => True) ∧
    Witnessed 0x0111 (fun _ _ req => byteAt req 0 ≤ 1 ∧ byteAt req 1 ≤ 1) ∧
    Witnessed 0x0112 (fun s _ _ => s.role.holder = .home ∧ s.role.altEn = true ∧ (epGet s (1 - s.role.homeEp)).contained = false) ∧
    Witnessed 0x0113 (fun s ch _ => chanSecure ch = true ∧ funcOfChan ch = some (s.role.homeEp, 0) ∧ s.role.holder ≠ .home ∧
      (epGet s s.role.homeEp).contained = false) ∧
    Witnessed 0x0150 (fun _ _ req => byteAt req 0 ≤ 1) :=
  ⟨⟨mbUp { toFw := [msgOf 0x0104 7 1 0] }, 0, msgOf 0x0104 7 1 0, ([] : List Msg), by decide +kernel⟩,
    ⟨mbUp { toFw := [msgOf 0x0104 7 0 1] }, 0, msgOf 0x0104 7 0 1, ([] : List Msg), by decide +kernel⟩,
    ⟨mbUp dup, 0, msgOf 0x0104 7 0 0, ([] : List Msg), (⟨7, 0x0104, 0, some (0, [])⟩ : Journal), by decide +kernel⟩,
    ⟨mbUp { toFw := [msgOf 0x0FFF 7 0 0] }, 0, msgOf 0x0FFF 7 0 0, ([] : List Msg), rcBadOpcode, by decide +kernel⟩,
    ⟨mbUp { toFw := [msgOf 0x0104 7 0 0] }, 0, msgOf 0x0104 7 0 0, ([] : List Msg), by decide +kernel⟩,
    ⟨mbUp {}, 0, by decide +kernel⟩,
    witnessed (up) 0 (rq []) (by decide +kernel) (by decide +kernel),
    witnessed (up) 0 (rq [(0, 4, 0xFFE)]) (by decide +kernel) (by decide +kernel),
    witnessed (up) 0 (rq []) (by decide +kernel) (by decide +kernel),
    witnessed (up) 0 (rq [(0, 4, 77)]) (by decide +kernel) (by decide +kernel),
    witnessed (up) 0 (rq []) (by decide +kernel) (by decide +kernel),
    witnessed (up) 0 (rq [(0, 1, 1), (1, 1, 1)]) (by decide +kernel) (by decide +kernel),
    witnessed ({ up with role := { altEn := true } }) 0 (rq []) (by decide +kernel) (by decide +kernel),
    witnessed ({ up with role := { holder := .alternate } }) 1 (rq []) (by decide +kernel) (by decide +kernel),
    witnessed (up) 0 (rq [(0, 1, 1)]) (by decide +kernel) (by decide +kernel)⟩

theorem witness_MailboxesCarryMessagesInOrder :
    (∃ (s : State) (ch : _) (b : _), chanOpen s ch = true ∧ chanUnbound s ch = false ∧ b = fit (chanGet s ch).outBuf 256 ∧
      hostFull (chanGet s ch) = false ∧ byteAt b 2 ≤ 248) ∧
    (∃ (s : State) (ch : _) (b : _), chanOpen s ch = true ∧ chanUnbound s ch = false ∧ b = fit (chanGet s ch).outBuf 256 ∧
      hostFull (chanGet s ch) = false ∧ 248 < byteAt b 2) ∧
    (∃ (s : State) (ch : _) (b : _), chanOpen s ch = true ∧ chanUnbound s ch = false ∧ b = fit (chanGet s ch).outBuf 256 ∧
      hostFull (chanGet s ch) = true) ∧
    (∃ (s : State) (ch : _) (off : _) (data : Bytes), chanOpen s ch = true ∧ chanUnbound s ch = false ∧ off + data.length ≤ 256 ∧
      hostFull (chanGet s ch) = false) ∧
    (∃ (s : State) (ch : _) (off : _) (data : Bytes), chanOpen s ch = true ∧ chanUnbound s ch = false ∧ off + data.length ≤ 256 ∧
      hostFull (chanGet s ch) = true) ∧
    (∃ (s : State) (ch : _) (m : _) (rest : List Msg), chanOpen s ch = true ∧ chanUnbound s ch = false ∧ (chanGet s ch).toHost = m :: rest ∧
      s.mctp.restartPending = none) ∧
    (∃ (s : State) (ch : _) (m : OutMsg) (rest : List OutMsg), s.mbx.serving = true ∧ (chanGet s ch).queue = m :: rest ∧
      fwFull s (chanGet s ch) = false) ∧
    (∃ (s : State) (ch : _) (m : _) (rest : List Msg), (chanGet s ch).toFw = m :: rest) ∧
    (∃ (s : State) (ch : _), ch ≤ 2056 ∧ crossed (chanGet s ch) = true ∧ (chanGet s ch).crossSeen = false) ∧
    (∃ (s : State) (ch : _), (crossed (chanGet s ch) && !(chanGet s ch).crossSeen) = false) :=
  ⟨⟨mbUp { outBuf := post 248 }, 0, fit (post 248) 256, by decide +kernel⟩,
    ⟨mbUp { outBuf := post 249 }, 0, fit (post 249) 256, by decide +kernel⟩,
    ⟨mbUp { outBuf := post 248, toFw := [msgOf 0x0104 7 0 0] }, 0, fit (post 248) 256, by decide +kernel⟩,
    ⟨mbUp {}, 0, 252, (zeros 4 : Bytes), by decide +kernel⟩,
    ⟨mbUp { toFw := [msgOf 0x0104 7 0 0] }, 0, 252, (zeros 4 : Bytes), by decide +kernel⟩,
    ⟨mbUp { toHost := [msgOf 0x8000 7 0 0] }, 0, msgOf 0x8000 7 0 0, ([] : List Msg), by decide +kernel⟩,
    ⟨mbUp { queue := [⟨0x8000, 0, [], true, false⟩] }, 0, (⟨0x8000, 0, [], true, false⟩ : OutMsg), ([] : List OutMsg), by decide +kernel⟩,
    ⟨mbUp { toFw := [msgOf 0x0104 7 1 0] }, 0, msgOf 0x0104 7 1 0, ([] : List Msg), by decide +kernel⟩,
    ⟨chanSet up 2056 { toFw := [msgOf 0x0104 7 0 0], toHost := [msgOf 0x8000 7 0 0] }, 2056, by decide +kernel⟩,
    ⟨mbUp {}, 0, by decide +kernel⟩⟩

end Mailbox

/-! Witnesses: mctp. -/

namespace Mctp

def boxUp (b : Bytes) : State := { up with mctp := { inbox := [(9, none, b)], sessions := [1] } }

def ctl (cmd : Nat) (d : Bytes) : Bytes := [0, 0x80, BitVec.ofNat 8 cmd] ++ d

def pld (type cmd : Nat) (d : Bytes) : Bytes := [1, 0x80, BitVec.ofNat 8 type, BitVec.ofNat 8 cmd] ++ d

def vdm (kind len : Nat) : Bytes := [0x7E, 0x1F, 0x7C, BitVec.ofNat 8 kind, 0, 4, 1, BitVec.ofNat 8 len, 7, 0, 0, 0, 0] ++ zeros len

def noVia : Option Nat := none

def noMore : List (Nat × Option Nat × Bytes) := []

def ctlReply (b : Bytes) (code : Nat) (data : Bytes) : Output := mctpWire noVia.isSome 0 (toLe 1 (byteAt b 1 % 32) ++ toLe 1 (byteAt b 2) ++ toLe 1 code ++ data)

def pldReply (b : Bytes) (code : Nat) (data : Bytes) : Output := mctpWire noVia.isSome 1 (toLe 1 (byteAt b 1 % 32) ++ toLe 1 (byteAt b 2) ++ toLe 1 (byteAt b 3) ++ toLe 1 code ++ data)

theorem witness_MctpMessagesAssembleAndReachTheirUse :
    (∃ (s : State) (bad : _) (body : Bytes), mctpOn s = true ∧ (bad = true ∨ 64 < body.length ∨ body = [])) ∧
    (∃ (s : State) (som : _) (eom : _) (bad : _) (body : _), mctpOn s = true ∧ bad = false ∧ body.length ≤ 64 ∧ body ≠ [] ∧ som = true ∧
      eom = true ∧ s.mctp.assembly = none ∧ carried s body = true) ∧
    (∃ (s : State) (som : _) (eom : _) (bad : _) (body : Bytes), mctpOn s = true ∧ bad = false ∧ body.length ≤ 64 ∧ body ≠ [] ∧ som = true ∧
      eom = false ∧ s.mctp.assembly = none) ∧
    (∃ (s : State) (src : _) (tag : _) (som : _) (eom : _) (n : _) (bad : _) (body : Bytes) (b : Bytes), mctpOn s = true ∧ bad = false ∧
      body.length ≤ 64 ∧ body ≠ [] ∧ som = false ∧ s.mctp.assembly = some (src, tag, b) ∧ s.mctp.nextSeq = n % 4 ∧ eom = true ∧
      carried s (b ++ body) = true) ∧
    (∃ (s : State) (src : _) (tag : _) (som : _) (eom : _) (n : _) (bad : _) (body : Bytes) (b : Bytes), mctpOn s = true ∧ bad = false ∧
      body.length ≤ 64 ∧ body ≠ [] ∧ som = false ∧ s.mctp.assembly = some (src, tag, b) ∧ s.mctp.nextSeq = n % 4 ∧ eom = false) ∧
    (∃ (s : State) (src : _) (tag : _) (som : _) (n : _) (bad : _) (body : Bytes), mctpOn s = true ∧ bad = false ∧ body.length ≤ 64 ∧
      body ≠ [] ∧ som = false ∧ (∀ b, s.mctp.assembly ≠ some (src, tag, b) ∨ s.mctp.nextSeq ≠ n % 4)) ∧
    (∃ (s : State), s.mctp.assembly.isSome = true) ∧
    (∃ (s : State) (src : _) (via : _) (b : Bytes) (rest : _), s.mctp.inbox = (src, via, b) :: rest ∧ byteAt b 0 = 0x7E ∧
      vdmGood b = false) ∧
    (∃ (s : State) (src : _) (via : _) (b : _) (rest : _), s.mctp.inbox = (src, via, b) :: rest ∧ byteAt b 0 = 0x7E ∧ vdmGood b = true ∧
      byteAt b 3 = 0 ∧ hostFull (chanGet s 2056) = false ∧ byteAt b 7 ≤ 248) ∧
    (∃ (s : State) (src : _) (via : _) (b : _) (rest : _), s.mctp.inbox = (src, via, b) :: rest ∧ byteAt b 0 = 0x7E ∧ vdmGood b = true ∧
      byteAt b 3 = 0 ∧ hostFull (chanGet s 2056) = true) ∧
    (∃ (s : State) (src : _) (via : _) (b : _) (rest : _) (m : Msg) (l : List Msg), s.mctp.inbox = (src, via, b) :: rest ∧
      byteAt b 0 = 0x7E ∧ vdmGood b = true ∧ byteAt b 3 = 1 ∧ (chanGet s 2056).toHost = m :: l) ∧
    (∃ (s : State) (src : _) (via : _) (b : _) (rest : _), s.mctp.inbox = (src, via, b) :: rest ∧ byteAt b 0 = 0x7E ∧ vdmGood b = true ∧
      byteAt b 3 = 3) ∧
    (∃ (s : State) (src : _) (via : _) (b : Bytes) (rest : _) (plain : _), s.mctp.inbox = (src, via, b) :: rest ∧ byteAt b 0 = 6 ∧
      le b 1 4 ∈ s.mctp.sessions ∧ carried s plain = true ∧ byteAt plain 0 ≠ 6) ∧
    (∃ (s : State) (src : _) (via : _) (b : Bytes) (rest : _), s.mctp.inbox = (src, via, b) :: rest ∧ byteAt b 0 = 6 ∧
      le b 1 4 ∈ s.mctp.sessions) ∧
    (∃ (s : State) (ep : _), cfgOpen s ep 0 = true ∧ hostOpen s = true) ∧
    (∃ (s : State) (src : _) (via : _) (b : Bytes) (rest : _), s.mctp.inbox = (src, via, b) :: rest ∧ byteAt b 0 = 5) :=
  ⟨⟨up, true, (zeros 65 : Bytes), by decide +kernel⟩,
    ⟨up, true, true, false, ctl 2 [], by decide +kernel⟩,
    ⟨up, true, false, false, (zeros 64 : Bytes), by decide +kernel⟩,
    ⟨{ up with mctp := { assembly := some (9, 1, [0, 0x80]), nextSeq := 3 } }, 9, 1, false, true, 7, false, ([2] : Bytes),
      ([0, 0x80] : Bytes), by decide +kernel⟩,
    ⟨{ up with mctp := { assembly := some (9, 1, [0, 0x80]), nextSeq := 3 } }, 9, 1, false, false, 7, false, ([2] : Bytes),
      ([0, 0x80] : Bytes), by decide +kernel⟩,
    ⟨up, 9, 1, false, 7, false, ([2] : Bytes), ⟨by decide +kernel, rfl, by decide +kernel, by decide +kernel, rfl,
      fun _ => Or.inl (by simp [up, inMode, State.reset])⟩⟩,
    ⟨{ up with mctp := { assembly := some (9, 1, [0, 0x80]) } }, by decide +kernel⟩,
    ⟨boxUp [0x7E, 1], 9, noVia, ([0x7E, 1] : Bytes), noMore, by decide +kernel⟩,
    ⟨boxUp (vdm 0 248), 9, noVia, vdm 0 248, noMore, by decide +kernel⟩,
    ⟨chanSet (boxUp (vdm 0 4)) 2056 { toFw := [⟨0x0104, 7, 0, 0, [], false⟩] }, 9, noVia, vdm 0 4, noMore, by decide +kernel⟩,
    ⟨chanSet (boxUp (vdm 1 0)) 2056 { toHost := [⟨0x8000, 7, 0, 0, [], false⟩] }, 9, noVia, vdm 1 0, noMore, (⟨0x8000, 7, 0, 0, [],
      false⟩ : Msg), ([] : List Msg), by decide +kernel⟩,
    ⟨boxUp (vdm 3 0), 9, noVia, vdm 3 0, noMore, by decide +kernel⟩,
    ⟨boxUp [6, 1, 0, 0, 0], 9, noVia, ([6, 1, 0, 0, 0] : Bytes), noMore, ctl 2 [], by decide +kernel⟩,
    ⟨boxUp [6, 1, 0, 0, 0], 9, noVia, ([6, 1, 0, 0, 0] : Bytes), noMore, by decide +kernel⟩,
    ⟨{ up with ep1 := { dlUp := true } }, 1, by decide +kernel⟩,
    ⟨boxUp [5, 0x10], 9, noVia, ([5, 0x10] : Bytes), noMore, by decide +kernel⟩⟩

theorem witness_MctpControlAndPldmRequestsAreAnswered :
    (∃ (s : State) (src : _) (via : _) (b : _) (rest : _) (reply : Nat → Bytes → Output), s.mctp.inbox = (src, via, b) :: rest ∧
      byteAt b 0 = 0 ∧ (∀ code data,
      reply code data = mctpWire via.isSome 0 (toLe 1 (byteAt b 1 % 32) ++ toLe 1 (byteAt b 2) ++ toLe 1 code ++ data)) ∧ byteAt b 2 = 1 ∧
      b.length = 5 ∧ byteAt b 3 % 4 ≤ 1 ∧ byteAt b 4 ≠ 0 ∧ byteAt b 4 ≠ 0xFF) ∧
    (∃ (s : State) (src : _) (via : _) (b : _) (rest : _) (reply : Nat → Bytes → Output), s.mctp.inbox = (src, via, b) :: rest ∧
      byteAt b 0 = 0 ∧ (∀ code data,
      reply code data = mctpWire via.isSome 0 (toLe 1 (byteAt b 1 % 32) ++ toLe 1 (byteAt b 2) ++ toLe 1 code ++ data)) ∧ byteAt b 2 = 1 ∧
      b.length = 5 ∧ (1 < byteAt b 3 % 4 ∨ byteAt b 4 = 0 ∨ byteAt b 4 = 0xFF)) ∧
    (∃ (s : State) (src : _) (via : _) (b : _) (rest : _) (reply : Nat → Bytes → Output), s.mctp.inbox = (src, via, b) :: rest ∧
      byteAt b 0 = 0 ∧ (∀ code data,
      reply code data = mctpWire via.isSome 0 (toLe 1 (byteAt b 1 % 32) ++ toLe 1 (byteAt b 2) ++ toLe 1 code ++ data)) ∧ byteAt b 2 = 2 ∧
      b.length = 3) ∧
    (∃ (s : State) (src : _) (via : _) (b : _) (rest : _) (reply : Nat → Bytes → Output), s.mctp.inbox = (src, via, b) :: rest ∧
      byteAt b 0 = 0 ∧ (∀ code data,
      reply code data = mctpWire via.isSome 0 (toLe 1 (byteAt b 1 % 32) ++ toLe 1 (byteAt b 2) ++ toLe 1 code ++ data)) ∧ byteAt b 2 = 3 ∧
      b.length = 3) ∧
    (∃ (s : State) (src : _) (via : _) (b : _) (rest : _) (reply : Nat → Bytes → Output), s.mctp.inbox = (src, via, b) :: rest ∧
      byteAt b 0 = 0 ∧ (∀ code data,
      reply code data = mctpWire via.isSome 0 (toLe 1 (byteAt b 1 % 32) ++ toLe 1 (byteAt b 2) ++ toLe 1 code ++ data)) ∧ byteAt b 2 = 4 ∧
      b.length = 4 ∧ (byteAt b 3 = 0 ∨ byteAt b 3 = 0xFF)) ∧
    (∃ (s : State) (src : _) (via : _) (b : _) (rest : _) (reply : Nat → Bytes → Output), s.mctp.inbox = (src, via, b) :: rest ∧
      byteAt b 0 = 0 ∧ (∀ code data,
      reply code data = mctpWire via.isSome 0 (toLe 1 (byteAt b 1 % 32) ++ toLe 1 (byteAt b 2) ++ toLe 1 code ++ data)) ∧ byteAt b 2 = 5 ∧
      b.length = 3) ∧
    (∃ (s : State) (src : _) (via : _) (b : _) (rest : _) (reply : Nat → Bytes → Output), s.mctp.inbox = (src, via, b) :: rest ∧
      byteAt b 0 = 0 ∧ (∀ code data,
      reply code data = mctpWire via.isSome 0 (toLe 1 (byteAt b 1 % 32) ++ toLe 1 (byteAt b 2) ++ toLe 1 code ++ data)) ∧ byteAt b 2 = 6 ∧
      b.length = 4 ∧ byteAt b 3 = 0) ∧
    (∃ (s : State) (src : _) (via : _) (b : _) (rest : _) (reply : Nat → Bytes → Output), s.mctp.inbox = (src, via, b) :: rest ∧
      byteAt b 0 = 0 ∧ (∀ code data,
      reply code data = mctpWire via.isSome 0 (toLe 1 (byteAt b 1 % 32) ++ toLe 1 (byteAt b 2) ++ toLe 1 code ++ data)) ∧
      (byteAt b 2 = 0 ∨ 6 < byteAt b 2)) ∧
    (∃ (s : State) (src : _) (via : _) (b : _) (rest : _) (reply : Nat → Bytes → Output) (c : _), s.mctp.inbox = (src, via, b) :: rest ∧
      byteAt b 0 = 0 ∧ (∀ code data,
      reply code data = mctpWire via.isSome 0 (toLe 1 (byteAt b 1 % 32) ++ toLe 1 (byteAt b 2) ++ toLe 1 code ++ data)) ∧ b.length ≠ 3 ∧
      (byteAt b 2 = 2 ∧ c = Instr.getEndpointId ∨ byteAt b 2 = 3 ∧ c = Instr.getEndpointUuid ∨ byteAt b 2 = 5 ∧
      c = Instr.getMessageTypeSupport)) ∧
    (∃ (s : State) (src : _) (via : _) (b : _) (rest : _) (reply : Nat → Bytes → Output), s.mctp.inbox = (src, via, b) :: rest ∧
      byteAt b 0 = 1 ∧ (∀ code data,
      reply code data = mctpWire via.isSome 1 (toLe 1 (byteAt b 1 % 32) ++ toLe 1 (byteAt b 2) ++ toLe 1 (byteAt b 3) ++ toLe 1 code ++ data)) ∧ pldmType b = 0 ∧ byteAt b 3 = 1 ∧ b.length = 5 ∧ byteAt b 4 ≠ 0 ∧ byteAt b 4 ≠ 0xFF) ∧
    (∃ (s : State) (src : _) (via : _) (b : _) (rest : _) (reply : Nat → Bytes → Output), s.mctp.inbox = (src, via, b) :: rest ∧
      byteAt b 0 = 1 ∧ (∀ code data,
      reply code data = mctpWire via.isSome 1 (toLe 1 (byteAt b 1 % 32) ++ toLe 1 (byteAt b 2) ++ toLe 1 (byteAt b 3) ++ toLe 1 code ++ data)) ∧ pldmType b = 0 ∧ byteAt b 3 = 2) ∧
    (∃ (s : State) (src : _) (via : _) (b : _) (rest : _) (reply : Nat → Bytes → Output), s.mctp.inbox = (src, via, b) :: rest ∧
      byteAt b 0 = 1 ∧ (∀ code data,
      reply code data = mctpWire via.isSome 1 (toLe 1 (byteAt b 1 % 32) ++ toLe 1 (byteAt b 2) ++ toLe 1 (byteAt b 3) ++ toLe 1 code ++ data)) ∧ pldmType b ≠ 0 ∧ pldmType b ≠ 2 ∧ pldmType b ≠ 5) ∧
    (∃ (s : State) (src : _) (via : _) (b : _) (rest : _) (reply : Nat → Bytes → Output), s.mctp.inbox = (src, via, b) :: rest ∧
      byteAt b 0 = 1 ∧ (∀ code data,
      reply code data = mctpWire via.isSome 1 (toLe 1 (byteAt b 1 % 32) ++ toLe 1 (byteAt b 2) ++ toLe 1 (byteAt b 3) ++ toLe 1 code ++ data)) ∧ pldmType b = 2 ∧ byteAt b 3 = 0x11 ∧ b.length = 7 ∧ 1 ≤ le b 4 2 ∧ le b 4 2 ≤ 49) ∧
    (∃ (s : State) (src : _) (via : _) (b : _) (rest : _) (reply : Nat → Bytes → Output), s.mctp.inbox = (src, via, b) :: rest ∧
      byteAt b 0 = 1 ∧ (∀ code data,
      reply code data = mctpWire via.isSome 1 (toLe 1 (byteAt b 1 % 32) ++ toLe 1 (byteAt b 2) ++ toLe 1 (byteAt b 3) ++ toLe 1 code ++ data)) ∧ pldmType b = 2 ∧ byteAt b 3 = 0x12 ∧ b.length = 6 ∧ 1 ≤ le b 4 2 ∧ le b 4 2 ≤ 16) ∧
    (∃ (s : State) (src : _) (via : _) (b : _) (rest : _) (reply : Nat → Bytes → Output) (kind : _) (data : Bytes), s.mctp.inbox = (src,
      via, b) :: rest ∧ byteAt b 0 = 1 ∧ (∀ code data,
      reply code data = mctpWire via.isSome 1 (toLe 1 (byteAt b 1 % 32) ++ toLe 1 (byteAt b 2) ++ toLe 1 (byteAt b 3) ++ toLe 1 code ++ data)) ∧ pldmType b = 5 ∧ byteAt b 3 = 0x14 ∧ 23 ≤ b.length ∧ kind ≤ 1 ∧ le b 6 2 = kind + 1 ∧ hostWrites s kind = true) ∧
    (∃ (s : State) (src : _) (via : _) (b : _) (rest : _) (reply : Nat → Bytes → Output) (kind : _) (data : Bytes), s.mctp.inbox = (src,
      via, b) :: rest ∧ byteAt b 0 = 1 ∧ (∀ code data,
      reply code data = mctpWire via.isSome 1 (toLe 1 (byteAt b 1 % 32) ++ toLe 1 (byteAt b 2) ++ toLe 1 (byteAt b 3) ++ toLe 1 code ++ data)) ∧ pldmType b = 5 ∧ byteAt b 3 = 0x14 ∧ 23 ≤ b.length ∧ kind ≤ 1 ∧ le b 6 2 = kind + 1 ∧ hostWrites s kind = false ∧ 512 ≤ data.length ∧ data.length ≤ bankSize kind) ∧
    (∃ (s : State) (src : _) (via : _) (b : _) (rest : _) (reply : Nat → Bytes → Output), s.mctp.inbox = (src, via, b) :: rest ∧
      byteAt b 0 = 1 ∧ (∀ code data,
      reply code data = mctpWire via.isSome 1 (toLe 1 (byteAt b 1 % 32) ++ toLe 1 (byteAt b 2) ++ toLe 1 (byteAt b 3) ++ toLe 1 code ++ data)) ∧ pldmType b = 5 ∧ byteAt b 3 = 0x1A ∧ b.length = 5 ∧ s.fw.pldm = []) ∧
    (∃ (s : State) (src : _) (via : _) (b : _) (rest : _) (reply : Nat → Bytes → Output), s.mctp.inbox = (src, via, b) :: rest ∧
      byteAt b 0 = 1 ∧ (∀ code data,
      reply code data = mctpWire via.isSome 1 (toLe 1 (byteAt b 1 % 32) ++ toLe 1 (byteAt b 2) ++ toLe 1 (byteAt b 3) ++ toLe 1 code ++ data)) ∧ pldmType b = 5 ∧ byteAt b 3 = 0x1A ∧ b.length = 5 ∧ s.fw.pldm ≠ [] ∧ (∀ kind bank, kind ≤ 1 → pldmBank s kind = some bank → imgValid s kind bank = true) ∧ s.dev.base = .boot) :=
  ⟨⟨boxUp (ctl 1 [1, 0xFE]), 9, noVia, ctl 1 [1, 0xFE], noMore, ctlReply (ctl 1 [1, 0xFE]), ⟨by decide +kernel, by decide +kernel,
    fun _ _ => rfl, by decide +kernel⟩⟩,
    ⟨boxUp (ctl 1 [2, 5]), 9, noVia, ctl 1 [2, 5], noMore, ctlReply (ctl 1 [2, 5]), ⟨by decide +kernel, by decide +kernel, fun _ _ => rfl,
      by decide +kernel⟩⟩,
    ⟨boxUp (ctl 2 []), 9, noVia, ctl 2 [], noMore, ctlReply (ctl 2 []), ⟨by decide +kernel, by decide +kernel, fun _ _ => rfl,
      by decide +kernel⟩⟩,
    ⟨boxUp (ctl 3 []), 9, noVia, ctl 3 [], noMore, ctlReply (ctl 3 []), ⟨by decide +kernel, by decide +kernel, fun _ _ => rfl,
      by decide +kernel⟩⟩,
    ⟨boxUp (ctl 4 [0xFF]), 9, noVia, ctl 4 [0xFF], noMore, ctlReply (ctl 4 [0xFF]), ⟨by decide +kernel, by decide +kernel, fun _ _ => rfl,
      by decide +kernel⟩⟩,
    ⟨boxUp (ctl 5 []), 9, noVia, ctl 5 [], noMore, ctlReply (ctl 5 []), ⟨by decide +kernel, by decide +kernel, fun _ _ => rfl,
      by decide +kernel⟩⟩,
    ⟨boxUp (ctl 6 [0]), 9, noVia, ctl 6 [0], noMore, ctlReply (ctl 6 [0]), ⟨by decide +kernel, by decide +kernel, fun _ _ => rfl,
      by decide +kernel⟩⟩,
    ⟨boxUp (ctl 7 []), 9, noVia, ctl 7 [], noMore, ctlReply (ctl 7 []), ⟨by decide +kernel, by decide +kernel, fun _ _ => rfl,
      by decide +kernel⟩⟩,
    ⟨boxUp (ctl 5 [1]), 9, noVia, ctl 5 [1], noMore, ctlReply (ctl 5 [1]), Instr.getMessageTypeSupport, ⟨by decide +kernel,
      by decide +kernel, fun _ _ => rfl, by decide +kernel, Or.inr (Or.inr ⟨by decide +kernel, rfl⟩)⟩⟩,
    ⟨boxUp (pld 0 1 [0xFE]), 9, noVia, pld 0 1 [0xFE], noMore, pldReply (pld 0 1 [0xFE]), ⟨by decide +kernel, by decide +kernel,
      fun _ _ => rfl, by decide +kernel⟩⟩,
    ⟨boxUp (pld 0 2 []), 9, noVia, pld 0 2 [], noMore, pldReply (pld 0 2 []), ⟨by decide +kernel, by decide +kernel, fun _ _ => rfl,
      by decide +kernel⟩⟩,
    ⟨boxUp (pld 4 1 []), 9, noVia, pld 4 1 [], noMore, pldReply (pld 4 1 []), ⟨by decide +kernel, by decide +kernel, fun _ _ => rfl,
      by decide +kernel⟩⟩,
    ⟨boxUp (pld 2 0x11 [49, 0, 0]), 9, noVia, pld 2 0x11 [49, 0, 0], noMore, pldReply (pld 2 0x11 [49, 0, 0]), ⟨by decide +kernel,
      by decide +kernel, fun _ _ => rfl, by decide +kernel⟩⟩,
    ⟨boxUp (pld 2 0x12 [16, 0]), 9, noVia, pld 2 0x12 [16, 0], noMore, pldReply (pld 2 0x12 [16, 0]), ⟨by decide +kernel, by decide +kernel,
      fun _ _ => rfl, by decide +kernel⟩⟩,
    ⟨bankOpen (boxUp (pld 5 0x14 (toLe 19 0x20000))) 1 1 512, 9, noVia, pld 5 0x14 (toLe 19 0x20000), noMore,
      pldReply (pld 5 0x14 (toLe 19 0x20000)), 1, ([] : Bytes), ⟨by decide +kernel, by decide +kernel, fun _ _ => rfl, by decide +kernel⟩⟩,
    ⟨boxUp (pld 5 0x14 (toLe 19 0x20000)), 9, noVia, pld 5 0x14 (toLe 19 0x20000), noMore, pldReply (pld 5 0x14 (toLe 19 0x20000)), 1,
      (zeros 512 : Bytes), ⟨by decide +kernel, by decide +kernel, fun _ _ => rfl, by decide +kernel⟩⟩,
    ⟨boxUp (pld 5 0x1A [0]), 9, noVia, pld 5 0x1A [0], noMore, pldReply (pld 5 0x1A [0]), ⟨by decide +kernel, by decide +kernel,
      fun _ _ => rfl, by decide +kernel⟩⟩,
    ⟨{ boxUp (pld 5 0x1A [0]) with dev := { base := .boot, recovery := true, recoveryOpen := true }, fw := { pldm := [(3, 0)] } }, 9, noVia,
      pld 5 0x1A [0], noMore, pldReply (pld 5 0x1A [0]), ⟨by decide +kernel, by decide +kernel, fun _ _ => rfl, by decide +kernel,
      by decide +kernel, by decide +kernel, by decide +kernel,
      fun k _ hk hb => by match k, hk with | 0, _ => exact absurd hb (by simp [pldmBank]) | 1, _ => exact absurd hb (by simp [pldmBank]), by decide +kernel⟩⟩⟩

end Mctp

/-! Witnesses: slices. -/

namespace Slices

/-- A request of SLICE_CREATE or SLICE_MODIFY: VF 1,024 of endpoint 1, one vector, one shaper, thread weight 1 and a SET word. -/
def sreq (qps sets : Nat) : Bytes := fit (rq [(0, 2, 1024), (2, 1, 1), (4, 1, 3), (8, 2, 65535), (10, 2, qps), (12, 2, 1), (16, 2, 65535), (18, 2, 1)]) 48 ++ toLe 4 1 ++ zeros 24 ++ toLe 4 sets

/-- The slice that such a request makes. -/
def made : Slice := { sliceOfReq (sreq 8 0) with qpBase := 0, w0Base := 0 }

def holds (x : Slice) : State := { up with slices := { tab := [(2049, x)] } }

def dreq : Bytes := rq [(0, 2, 1024), (2, 1, 1)]

def startedD (running : Bool) : Started := { seq := 1, opcode := 0x0202, req := dreq, running := running, session := false }

def destroys (x : Slice) (running : Bool) : State := chanMod (holds x) 0 (fun c => { c with started := [startedD running] })

theorem witness_SlicesComeAndGoAndAreQueried :
    Witnessed 0x0201 (fun s _ req => 1 ≤ le req 0 2 ∧ le req 0 2 ≤ 1024 ∧ byteAt req 2 ≤ 1 ∧
      sliceGet s (sliceOfFunc (byteAt req 2) (le req 0 2)) = none ∧ reqFaults req true = [] ∧
      (poolCheck s (sliceOfFunc (byteAt req 2) (le req 0 2)) (sliceOfReq req)).1 = 0) ∧
    (∃ (s : State) (ch : _) (seq : _) (req : _) (n : _), Begun s ch seq 0x0201 req ∧ 1 ≤ le req 0 2 ∧ le req 0 2 ≤ 1024 ∧ byteAt req 2 ≤ 1 ∧
      n = sliceOfFunc (byteAt req 2) (le req 0 2) ∧ sliceGet s n = none ∧ reqFaults req true = [] ∧
      (poolCheck s n (sliceOfReq req)).1 ≠ 0) ∧
    Witnessed 0x0204 (fun s _ req => le req 0 2 ≤ 1024 ∧ byteAt req 2 ≤ 1 ∧ reqFaults req false = [] ∧
      (poolCheck s (sliceOfFunc (byteAt req 2) (le req 0 2)) (sliceOfReq req)).1 = 0 ∧ bitAt (le req 76 4) 4 = false ∧ ∃ cur,
      sliceGet s (sliceOfFunc (byteAt req 2) (le req 0 2)) = some cur ∧ cur.destroying = false ∧ keptFaults req cur = [] ∧
      setBusy s (sliceOfFunc (byteAt req 2) (le req 0 2)) (le req 76 4) cur = false) ∧
    (∃ (s : State) (ch : _) (seq : _) (c : _) (n : _) (x : _),
      (chanGet s ch).started.find? (fun c => c.seq = seq && c.opcode = 0x0202) = some c ∧ 1 ≤ le c.req 0 2 ∧ le c.req 0 2 ≤ 1024 ∧
      byteAt c.req 2 ≤ 1 ∧ byteAt c.req 3 = 0 ∧ n = sliceOfFunc (byteAt c.req 2) (le c.req 0 2) ∧ sliceGet s n = some x ∧
      ch ≠ chanOfVf (byteAt c.req 2) (le c.req 0 2) ∧ c.running = false ∧ x.destroying = false ∧
      (fnGet s (byteAt c.req 2) (le c.req 0 2)).flrActive = false ∧ queueDestroying s (byteAt c.req 2) (le c.req 0 2) = false) ∧
    (∃ (s : State) (ch : _) (seq : _) (c : _) (n : _) (x : Slice),
      (chanGet s ch).started.find? (fun c => c.seq = seq && c.opcode = 0x0202) = some c ∧ 1 ≤ le c.req 0 2 ∧ le c.req 0 2 ≤ 1024 ∧
      byteAt c.req 2 ≤ 1 ∧ byteAt c.req 3 = 0 ∧ n = sliceOfFunc (byteAt c.req 2) (le c.req 0 2) ∧ sliceGet s n = some x ∧
      ch ≠ chanOfVf (byteAt c.req 2) (le c.req 0 2) ∧ c.running = true ∧ x.destroying = true ∧ destroyReady s n x = true) ∧
    (∃ (ep : _) (f : _), Witnessed 0x0203 (fun s ch req => targetFunc s ch (le req 0 2) (byteAt req 2) = .ok (ep, f) ∧
      sliceGet s (sliceOfFunc ep f) = none)) ∧
    (∃ (ep : _) (f : _) (x : _), Witnessed 0x0203 (fun s ch req => targetFunc s ch (le req 0 2) (byteAt req 2) = .ok (ep, f) ∧
      sliceGet s (sliceOfFunc ep f) = some x)) ∧
    (∃ (ep : _) (f : _), Witnessed 0x0205 (fun s ch req => targetFunc s ch (le req 0 2) (byteAt req 2) = .ok (ep, f))) ∧
    Witnessed 0x0206 (fun _ _ req => le req 0 2 = 0 ∨ le req 0 2 = 1024 ∨ le req 0 2 = 2048) ∧
    (∃ (ch : _) (seq : _) (s : State) (req : _), Begun s ch seq 0x0210 req) :=
  ⟨witnessed (up) 0 (sreq 8 0) (by decide +kernel) (by decide +kernel),
    ⟨begun { up with basin := { area := 0 } } 0 0x0201 (fit (sreq 8 0) 24 ++ toLe 4 1 ++ zeros 20 ++ toLe 4 1 ++ zeros 28), 0, 1,
      fit (sreq 8 0) 24 ++ toLe 4 1 ++ zeros 20 ++ toLe 4 1 ++ zeros 28, 2049, ⟨begun_begun _ _ _ _ (by decide +kernel),
      by decide +kernel⟩⟩,
    witnessed (holds made) 0 (sreq 16 96) (by decide +kernel) (⟨by decide +kernel, by decide +kernel, by decide +kernel, by decide +kernel,
      by decide +kernel, made, by decide +kernel⟩),
    ⟨destroys made false, 0, 1, startedD false, 2049, made, by decide +kernel⟩,
    ⟨destroys { made with destroying := true } true, 0, 1, startedD true, 2049, ({ made with destroying := true } : Slice),
      by decide +kernel⟩,
    ⟨1, 1024, witnessed (up) 0 (rq [(0, 2, 1024), (2, 1, 1)]) (by decide +kernel) (by decide +kernel)⟩,
    ⟨1, 1024, made, witnessed (holds made) 0 (rq [(0, 2, 1024), (2, 1, 1)]) (by decide +kernel) (by decide +kernel)⟩,
    ⟨1, 1024, witnessed (up) 0 (rq [(0, 2, 1024), (2, 1, 1)]) (by decide +kernel) (by decide +kernel)⟩,
    witnessed (up) 0 (rq [(0, 2, 2048)]) (by decide +kernel) (by decide +kernel),
    ⟨0, 1, begun up 0 0x0210 (rq []), rq [], begun_begun _ _ _ _ (by decide +kernel)⟩⟩

end Slices

/-! Witnesses: pcie. -/

namespace Pcie

/-- SERVICE with both endpoints' links up. -/
def host : State := { up with ep0 := { dlUp := true, perst := false, speed := 5, width := 16 }, ep1 := { dlUp := true, perst := false, speed := 5, width := 16 } }

def fn0 (g : Func) : State := fnSet host 1 0 g

theorem witness_LinksWindowsAndFunctionsFollowTheHost :
    (∃ (s : State) (ep : _) (speed : _) (width : _), s.dev.base ≠ .off ∧ s.dev.base ≠ .held ∧ ep ≤ 1 ∧ 1 ≤ speed ∧ speed ≤ 6 ∧
      width ∈ [1, 2, 4, 8, 16]) ∧
    (∃ (s : State) (ep : _) (lane : _), hostOpen s = true ∧ pcieLaneFree s ep lane = true) ∧
    Witnessed 0x0123 (fun s _ req => pcieLaneFree s (byteAt req 0) (byteAt req 1) = true) ∧
    Witnessed 0x0122 (fun _ _ req => byteAt req 0 ≤ 1) ∧
    Witnessed 0x0120 (fun _ _ req => byteAt req 0 ≤ 1 ∧ 1 ≤ byteAt req 1 ∧ 1 ≤ byteAt req 2 ∧ byteAt req 2 ≤ 30 ∧
      byteAt req 1 + byteAt req 2 ≤ 256 ∧ byteAt req 3 = 0 ∧ ∀ i < byteAt req 2, bits (le req (4 + 8 * i) 4) 17 3 = 0 ∧
      bits (le req (8 + 8 * i) 4) 31 16 = 0) ∧
    Witnessed 0x0121 (fun _ _ req => byteAt req 0 ≤ 1 ∧ 1 ≤ byteAt req 2 ∧ byteAt req 2 ≤ 30 ∧ byteAt req 1 + byteAt req 2 ≤ 256) ∧
    (∃ (s : State) (ep : _) (f : _), cfgOpen s ep f = true) ∧
    (∃ (s : State) (ep : _) (f : _), cfgOpen s ep f = true) ∧
    (∃ (s : State) (ep : _) (f : _), cfgOpen s ep f = true) ∧
    (∃ (s : State) (ep : _) (f : _), cfgOpen s ep f = true ∧ (fnGet s ep f).flrActive = false) ∧
    (∃ (s : State) (ep : _) (n : _), n ≤ 1024 ∧ cfgOpen s ep 0 = true) ∧
    (∃ (s : State) (ep : _) (f : _), ep < 2 ∧ (fnGet s ep f).flrActive = true ∧ queuesOf s ep f = [] ∧ (f ≠ 0 ∨ ∀ p ∈ (epGet s ep).funcs,
      p.1 ≠ 0 → p.2.flrActive = false)) ∧
    (∃ (s : State) (ep : _) (f : _) (pasid : Option Nat) (addr : _) (len : _), cfgOpen s ep f = true ∧ (∀ r ∈ (epGet s ep).reads,
      r.func = f → r.pasid = pasid → r.data.isNone = true → r.addr + r.len ≤ addr ∨ addr + len ≤ r.addr)) ∧
    (∃ (s : State) (ep : _), cfgOpen s ep 0 = true) :=
  ⟨⟨up, 1, 6, 16, by decide +kernel⟩,
    ⟨host, 1, 15, by decide +kernel⟩,
    witnessed (up) 0 (rq [(0, 1, 1), (1, 1, 15)]) (by decide +kernel) (by decide +kernel),
    witnessed (up) 0 (rq [(0, 1, 1)]) (by decide +kernel) (by decide +kernel),
    witnessed (up) 0 (rq [(0, 1, 1), (1, 1, 254), (2, 1, 2), (4, 4, 0xABC40007), (12, 4, 0x12340002)]) (by decide +kernel) (by decide +kernel),
    witnessed (up) 0 (rq [(0, 1, 1), (1, 1, 226), (2, 1, 30)]) (by decide +kernel) (by decide +kernel),
    ⟨host, 1, 0, by decide +kernel⟩,
    ⟨host, 1, 0, by decide +kernel⟩,
    ⟨host, 1, 0, by decide +kernel⟩,
    ⟨host, 1, 0, by decide +kernel⟩,
    ⟨host, 1, 1024, by decide +kernel⟩,
    ⟨fn0 { flrActive := true }, 1, 0, by decide +kernel⟩,
    ⟨host, 1, 0, (some 3 : Option Nat), 4096, 4096, by decide +kernel⟩,
    ⟨host, 1, by decide +kernel⟩⟩

theorem witness_ContainmentInterruptsAndViolations :
    (∃ (s : State) (ep : _) (cause : _), s.dev.base ≠ .off ∧ s.dev.base ≠ .held ∧ ep ≤ 1 ∧ 1 ≤ cause ∧ cause ≤ 5 ∧
      (epGet s ep).contained = false) ∧
    (∃ (s : State) (w : _) (ep : _), ep ≤ 1 ∧ (epGet s ep).contained = true ∧ mayRelease s w ep = true ∧ (epGet s ep).dlUp = true) ∧
    (∃ (s : State) (w : _) (ep : _), ep ≤ 1 ∧ (epGet s ep).contained = true ∧ mayRelease s w ep = true ∧ (epGet s ep).dlUp = true) ∧
    (∃ (s : State) (ep : _) (f : _) (v : _), (v ∈ (fnGet s ep f).due ∨ v ∈ (fnGet s ep f).pba) ∧ msixOpen s ep f v = true ∧
      mapGet (fnGet s ep f).holdoff v = none) ∧
    (∃ (s : State) (ep : _) (f : _) (v : _), (v ∈ (fnGet s ep f).due ∨ v ∈ (fnGet s ep f).pba) ∧ msixOpen s ep f v = false) ∧
    (∃ (s : State) (ep : _) (f : _) (v : _), mapGet (fnGet s ep f).holdoff v = some true ∧ msixOpen s ep f v = true) ∧
    (∃ (s : State) (ep : _), ep < 2 ∧ hostOpen s = true ∧ (epGet s ep).intx ≠ intaWanted s ep) ∧
    (∃ (ep : _), ep < 2) ∧
    (∃ (s : State) (ep : _) (f : _) (kind : _) (a : _), ep ≤ 1 ∧ hostOpen s = true ∧ (epGet s ep).dlUp = true ∧
      (kind = 1 → (fnGet s ep f).ecrcCheck = true) ∧ (kind,
      a) ∈ [(0, r_HIF_CNT_MALFORMED ep), (1, r_HIF_CNT_ECRC ep), (2, r_HIF_CNT_POISONED ep), (3, r_HIF_CNT_UR ep), (4, r_HIF_CNT_UR ep), (5, r_HIF_CNT_UR ep)]) ∧
    (∃ (s : State) (ep : _), ep ≤ 1 ∧ hostOpen s = true ∧ (epGet s ep).dlUp = true) :=
  ⟨⟨host, 1, 5, by decide +kernel⟩,
    ⟨{ host with ep1 := { host.ep1 with contained := true, cause := 2 } }, 0, 1, by decide +kernel⟩,
    ⟨{ host with ep0 := { host.ep0 with contained := true, cause := 2 } }, 0, 0, by decide +kernel⟩,
    ⟨fn0 { due := [2047], msixEnable := true, vecUnmasked := [2047], bme := true }, 1, 0, 2047, by decide +kernel⟩,
    ⟨fn0 { due := [2047] }, 1, 0, 2047, by decide +kernel⟩,
    ⟨fn0 { holdoff := [(5, true)], msixEnable := true, vecUnmasked := [5], bme := true }, 1, 0, 5, by decide +kernel⟩,
    ⟨{ host with ep1 := { host.ep1 with intx := true } }, 1, by decide +kernel⟩,
    ⟨1, by decide +kernel⟩,
    ⟨host, 1, 0, 5, r_HIF_CNT_UR 1, by decide +kernel⟩,
    ⟨host, 1, by decide +kernel⟩⟩

end Pcie

/-! Witnesses: rings. -/

namespace Rings

/-- The slice of VF 1 of endpoint 0, with eight queue pairs from 0. -/
def vfSlice : Slice := { func := 1, ep := 0, twin := false, railMask := 3, openEligible := true, qpBase := 0, qpCount := 8, vecCount := 8, w0Base := 0, w0Count := 0, w1Base := 0, w1Count := 0, basinPages := 0, cstQuota := 0, saBase := 0, saCount := 0, nvtBase := 0, nvtCount := 0, cscWeight := 1, start := [] }

/-- SERVICE with VF 1 of endpoint 0 bound, enabled and a bus master, and outstanding reads. -/
def vfUp (reads : List ReadReq) : State := { up with slices := { tab := [(2, vfSlice)] }, ep0 := { dlUp := true, perst := false, reads := reads, funcs := [(0, { vfEnable := true, numVfs := 1 }), (1, { bme := true })] } }

/-- Queue pair 7 of it as given. -/
def qpUp (q : QPair) : State := qpSet (vfUp []) 0 7 q

def ring (q : QPair) : QPair := { q with state := .active, func := 1, txLog := 6, rxLog := 6, cqLog := 6 }

def data1 : Bytes := toLe 4 20 ++ toLe 4 60 ++ zeros 24

def buf1 : BufRead := { addr := 0, len := 60, issued := true, data := some (zeros 60) }

def whole (b : BufRead) : QPair := ring { txProd := 1, descs := [(0, data1)], bufs := [b] }

def sent (noCpl : Bool) : TxPacket := ⟨1, 0, none, 0, true, noCpl, 0, false, false, 0, 0⟩

def read1 (purpose : Nat) (quarantined : Bool) (data : Option Bytes) : ReadReq := { tag := 3, func := 1, gen := 0, addr := 0, len := 60, quarantined := quarantined, queue := 7, purpose := purpose, data := data }

def posting1 : Word × Bytes := (0, zeros 8 ++ toLe 2 2048 ++ zeros 22)

def frame1 (gen : BitVec 16) : RxFrame := { bytes := zeros 60, hdr := {}, cookie := 0, tc := 0, stamp := 0, lossless := false, fid := 0, gen := gen, l4Checked := false, origin := none, sa := none }

def named : Bytes := rq [(0, 2, 1), (4, 2, 7)]

theorem witness_DoorbellsAndPushesMoveTheRings :
    (∃ (s : State) (ep : _) (f : _) (v : Word) (g : _) (p : Word), barOpen s ep f = true ∧ globalQp s ep f (bits v.toNat 12 0) = some g ∧
      qActive (qpGet s ep g) = true ∧ (qpGet s ep g).txLog ≠ 0 ∧ p = rebuild (qpGet s ep g).txProd (bits v.toNat 31 16)) ∧
    (∃ (s : State) (ep : _) (f : _) (v : Word) (g : _) (p : Word), barOpen s ep f = true ∧ globalQp s ep f (bits v.toNat 12 0) = some g ∧
      qActive (qpGet s ep g) = true ∧ (qpGet s ep g).rxLog ≠ 0 ∧ p = rebuild (qpGet s ep g).rxProd (bits v.toNat 31 16)) ∧
    (∃ (s : State) (ep : _) (f : _) (v : Word) (g : _) (c : Word), barOpen s ep f = true ∧ globalQp s ep f (bits v.toNat 12 0) = some g ∧
      qActive (qpGet s ep g) = true ∧ c = rebuild (qpGet s ep g).cqCons (bits v.toNat 31 16)) ∧
    (∃ (s : State) (ep : _) (f : _) (q : _) (g : _) (data : Bytes), barOpen s ep f = true ∧ globalQp s ep f q = some g ∧
      qActive (qpGet s ep g) = true ∧ (qpGet s ep g).txLog ≠ 0 ∧ data.length = 64) ∧
    (∃ (s : State) (ep : _) (f : _) (v : Word), ep ≤ 1 ∧ 1 ≤ f ∧ f ≤ 1024 ∧ barOpen s ep f = true ∧ (boundSlice s ep f).isSome = true ∧
      bits v.toNat 10 0 < vecCount s ep f) ∧
    (∃ (s : State) (ep : _) (f : _) (v : Word) (c : _), ep ≤ 1 ∧ 1 ≤ f ∧ f ≤ 1024 ∧ barOpen s ep f = true ∧
      (boundSlice s ep f).isSome = true ∧ globalQp s ep f (bits v.toNat 12 0) = none ∧
      c ∈ [Instr.hifVfDbTx ep f v true, Instr.hifVfDbRx ep f v true, Instr.hifVfDbCq ep f v true]) :=
  ⟨⟨qpUp (ring {}), 0, 1, (0x30007 : Word), 7, 3, by decide +kernel⟩,
    ⟨qpUp (ring {}), 0, 1, (0x30007 : Word), 7, 3, by decide +kernel⟩,
    ⟨qpUp (ring {}), 0, 1, (0x2007 : Word), 7, 0, by decide +kernel⟩,
    ⟨qpUp (ring {}), 0, 1, 7, 7, (zeros 64 : Bytes), by decide +kernel⟩,
    ⟨vfUp [], 0, 1, (0x7FF0007 : Word), by decide +kernel⟩,
    ⟨vfUp [], 0, 1, (8 : Word), Instr.hifVfDbTx 0 1 8 true, by decide +kernel⟩⟩

theorem witness_TransmitRingsFetchCompleteAndFlush :
    (∃ (s : State) (ep : _) (g : _) (r : _) (d : _),
      (epGet s ep).reads.find? (fun r => r.queue = g && r.purpose = 0 && !r.quarantined && r.data.isSome) = some r ∧
      qActive (qpGet s ep g) = true ∧ r.data = some d) ∧
    (∃ (s : State) (ep : _) (g : _) (ds : List (Word × Bytes)) (fid : _) (u : _), qActive (qpGet s ep g) = true ∧
      txHead (qpGet s ep g) = (ds, true) ∧ (qpGet s ep g).bufs ≠ [] ∧ (∀ b ∈ (qpGet s ep g).bufs, b.failed = false ∧ b.data.isSome = true) ∧
      commitOrdered s (packetMeta (ds.map (fun d => d.2))) = false ∧ notStarted s (qpGet s ep g) < 32 ∧ (∀ x,
      sliceGet s (qSlice (qpGet s ep g) ep) = some x → x.twin = false) ∧
      basinStore s ((qpGet s ep g).bufs.flatMap (fun b => b.data.getD [])).length (qSlice (qpGet s ep g) ep) 1 none = some (fid, u)) ∧
    (∃ (s : State) (ep : _) (g : _) (ds : List (Word × Bytes)), qActive (qpGet s ep g) = true ∧ txHead (qpGet s ep g) = (ds, true) ∧
      (qpGet s ep g).bufs.any (fun b => b.failed) = true ∧ (qpGet s ep g).bufs.all (fun b => b.failed || b.data.isSome) = true) ∧
    (∃ (s : State) (ep : _) (g : _) (x : _) (rest : List TxPacket) (n : _), (qpGet s ep g).packets = x :: rest ∧ x.left = 0 ∧
      (epGet s ep).contained = false ∧ qActive (qpGet s ep g) = true ∧ n = x.status.getD 0 ∧ x.noCpl = true ∧ n = 0) ∧
    (∃ (s : State) (ep : _) (g : _) (x : _) (rest : List TxPacket) (n : _), (qpGet s ep g).packets = x :: rest ∧ x.left = 0 ∧
      (epGet s ep).contained = false ∧ qActive (qpGet s ep g) = true ∧ n = x.status.getD 0 ∧ (x.noCpl = false ∨ n ≠ 0) ∧
      0 < cqSpace (qpGet s ep g)) ∧
    (∃ (s : State) (ep : _) (g : _) (cause : _) (old : BitVec 16) (cmd : Option (Nat × Nat)), (qpGet s ep g).state = .flushing ∧
      (qpGet s ep g).flush = some (cause, old, cmd) ∧ onWire s (qpKey ep g) = false) ∧
    (∃ (s : State) (ep : _) (g : _) (c : _), (qpGet s ep g).state = .active ∧ (qpGet s ep g).drain = some c) ∧
    (∃ (s : State) (ep : _) (g : _) (q : _), q = qpGet s ep g ∧ q.wbDue = true ∧ q.state ≠ .inactive ∧ canIssue s ep q.func = true ∧
      (fnGet s ep q.func).atsEn = false ∧ 16 ≤ (fnGet s ep q.func).maxPayload ∧ q.wb % 16 = 0) :=
  ⟨⟨qpSet (vfUp [read1 0 false (some data1)]) 0 7 (ring { txProd := 1 }), 0, 7, read1 0 false (some data1), data1, by decide +kernel⟩,
    ⟨qpUp (whole buf1), 0, 7, ([(0, data1)] : List (Word × Bytes)), ((basinStore (qpUp (whole buf1)) 60 2 1 none).getD (0, up)).1,
      ((basinStore (qpUp (whole buf1)) 60 2 1 none).getD (0, up)).2, by decide +kernel⟩,
    ⟨qpUp (whole { buf1 with failed := true }), 0, 7, ([(0, data1)] : List (Word × Bytes)), by decide +kernel⟩,
    ⟨qpUp (ring { packets := [sent true] }), 0, 7, sent true, ([] : List TxPacket), 0, by decide +kernel⟩,
    ⟨qpUp (ring { packets := [sent false] }), 0, 7, sent false, ([] : List TxPacket), 0, by decide +kernel⟩,
    ⟨qpUp { state := .flushing, func := 1, flush := some (3, 0, none) }, 0, 7, 3, (0 : BitVec 16), (none : Option (Nat × Nat)),
      by decide +kernel⟩,
    ⟨qpUp (ring { drain := some (0, 1) }), 0, 7, (0, 1), by decide +kernel⟩,
    ⟨qpUp (ring { wbDue := true, wb := 4096 }), 0, 7, ring { wbDue := true, wb := 4096 }, by decide +kernel⟩⟩

theorem witness_ReceiveRingsDeliverAndReadsComplete :
    (∃ (s : State) (ep : _) (g : _) (r : _) (rest : List RxFrame) (ps : _), qActive (qpGet s ep g) = true ∧ (qpGet s ep g).rx = r :: rest ∧
      r.gen = (fnGet s ep (qpGet s ep g).func).gen ∧
      fillPostings (qpGet s ep g).postings ((if (qpGet s ep g).prefix_ = true then 32 else 0) + r.bytes.length) = some ps ∧
      canIssue s ep (qpGet s ep g).func = true ∧ ps.length ≤ cqSpace (qpGet s ep g)) ∧
    (∃ (s : State) (ep : _) (g : _) (r : _) (rest : List RxFrame), qActive (qpGet s ep g) = true ∧ (qpGet s ep g).rx = r :: rest ∧
      r.gen ≠ (fnGet s ep (qpGet s ep g).func).gen) ∧
    (∃ (s : State) (ep : Nat) (g : Nat) (i : Nat) (r : RxFrame), ep ≤ 1 ∧ g < 8192 ∧ (qpGet s ep g).func ≤ 1024 ∧
      (qpGet s ep g).rx[i]? = some r ∧ r.lossless = false) ∧
    (∃ (s : State) (ep : _) (tag : _) (r : _),
      (epGet s ep).reads.find? (fun r => r.tag = tag && (r.data.isNone || r.quarantined)) = some r ∧ r.quarantined = true) ∧
    (∃ (s : State) (ep : _) (tag : _) (r : _) (b : _),
      (epGet s ep).reads.find? (fun r => r.tag = tag && (r.data.isNone || r.quarantined)) = some r ∧ b ∈ (qpGet s ep r.queue).bufs ∧
      r.quarantined = false ∧ r.purpose = 2 ∧ b.addr = r.addr ∧ b.len = r.len ∧ b.issued = true ∧ b.failed = false ∧ b.data = none) ∧
    (∃ (s : State) (ep : _) (tag : _) (r : _),
      (epGet s ep).reads.find? (fun r => r.tag = tag && !r.quarantined && r.data.isNone) = some r) :=
  ⟨⟨qpUp (ring { rx := [frame1 0], postings := [posting1] }), 0, 7, frame1 0, ([] : List RxFrame), [posting1], by decide +kernel⟩,
    ⟨qpUp (ring { rx := [frame1 9] }), 0, 7, frame1 9, ([] : List RxFrame), by decide +kernel⟩,
    ⟨qpUp (ring { rx := [frame1 0] }), (0 : Nat), (7 : Nat), (0 : Nat), (frame1 0 : RxFrame), by decide +kernel⟩,
    ⟨vfUp [read1 2 true none], 0, 3, read1 2 true none, by decide +kernel⟩,
    ⟨qpSet (vfUp [read1 2 false none]) 0 7 (whole { buf1 with data := none }), 0, 3, read1 2 false none, { buf1 with data := none },
      by decide +kernel⟩,
    ⟨vfUp [read1 2 false none], 0, 3, read1 2 false none, by decide +kernel⟩⟩

theorem witness_QueueCommandsTakeEffect :
    (∃ (ep : _) (f : _) (g : _), Witnessed 0x0300 (fun s ch req => targetFunc s ch (le req 0 2) (byteAt req 2) = .ok (ep, f) ∧
      globalQp s ep f (le req 4 2) = some g ∧ ((fnGet s ep f).inError = false ∨ ch < 8) ∧ (qpGet s ep g).state = .inactive ∧
      createOk s ep f req = true)) ∧
    (∃ (ep : _) (f : _) (g : _) (s : State) (ch : _) (seq : _) (req : _), Begun s ch seq 0x0300 req ∧
      targetFunc s ch (le req 0 2) (byteAt req 2) = .ok (ep, f) ∧ globalQp s ep f (le req 4 2) = some g) ∧
    (∃ (ep : _) (f : _) (g : _), Witnessed 0x0301 (fun s ch req => targetFunc s ch (le req 0 2) (byteAt req 2) = .ok (ep, f) ∧
      globalQp s ep f (le req 4 2) = some g ∧ ((qpGet s ep g).state = .active ∨ (qpGet s ep g).state = .halted) ∧
      (qpGet s ep g).drain = none)) ∧
    (∃ (ep : _) (f : _) (g : _), Witnessed 0x0302 (fun s ch req => targetFunc s ch (le req 0 2) (byteAt req 2) = .ok (ep, f) ∧
      globalQp s ep f (le req 4 2) = some g)) ∧
    (∃ (ep : _) (f : _) (g : _), Witnessed 0x0303 (fun s ch req => targetFunc s ch (le req 0 2) (byteAt req 2) = .ok (ep, f) ∧
      globalQp s ep f (le req 4 2) = some g ∧ (qpGet s ep g).state ≠ .inactive ∧
      (bitAt (byteAt req 11) 0 = true → le req 8 2 < vecCount s ep f) ∧ (bitAt (byteAt req 11) 1 = true → byteAt req 10 ≤ 7))) ∧
    Witnessed 0x0304 (fun _ _ req => byteAt req 0 ≤ 1 ∧ le req 2 2 < 2048 ∧ le req 4 2 ≤ 2047) ∧
    (∃ (ep : _) (f : _) (mine : _), Witnessed 0x0308 (fun s ch req => targetFunc s ch (le req 0 2) (byteAt req 2) = .ok (ep, f) ∧
      1 ≤ byteAt req 3 ∧ byteAt req 3 ≤ 5 ∧ mine = (s.rings.records.filter (fun r => r.1 = ep && r.2.1 = f)).map (fun r => r.2.2))) :=
  ⟨⟨0, 1, 7, witnessed (vfUp []) 0 (rq [(0, 2, 1), (4, 2, 7), (8, 1, 6), (9, 1, 16), (10, 1, 6), (11, 1, 7), (12, 2, 7)]) (by decide +kernel) (by decide +kernel)⟩,
    ⟨0, 1, 7, begun (vfUp []) 0 0x0300 named, 0, 1, named, ⟨begun_begun _ _ _ _ (by decide +kernel), by decide +kernel⟩⟩,
    ⟨0, 1, 7, witnessed (qpUp (ring {})) 0 (named) (by decide +kernel) (by decide +kernel)⟩,
    ⟨0, 1, 7, witnessed (qpUp (ring {})) 0 (named) (by decide +kernel) (by decide +kernel)⟩,
    ⟨0, 1, 7, witnessed (qpUp (ring {})) 0 (rq [(0, 2, 1), (4, 2, 7), (8, 2, 7), (10, 1, 7), (11, 1, 7)]) (by decide +kernel) (by decide +kernel)⟩,
    witnessed (up) 0 (rq [(0, 1, 1), (2, 2, 2047), (4, 2, 2047)]) (by decide +kernel) (by decide +kernel),
    ⟨0, 1, [zeros 24], witnessed ({ vfUp [] with rings := { records := [(0, 1, zeros 24)] } }) 0 (rq [(0, 2, 1), (3, 1, 5)]) (by decide +kernel) (by decide +kernel)⟩⟩

end Rings

/-! Witnesses: ports. -/

namespace Ports

/-- SERVICE with MAC 0's link up and its state, and registers of it. -/
def macUp (x : MacState) (rs : List (Nat × Word)) : State := rs.foldl (fun s r => setReg s r.1 r.2) (macSet up 0 { x with linkUp := true })

def rxFrame : Bytes := zeros 60

def rxUp : State := macUp {} []

def txf : TxFrame := { bytes := zeros 60, cls := 7, leaf := 0, lossless := false, slice := 0, fid := 0 }

def lossy : TxFrame := { bytes := zeros 60, cls := 0, leaf := 0, lossless := false, slice := 0, fid := 0 }

def sending : TxActive := { frame := lossy, wire := zeros 2000 }

theorem witness_ReceptionChecksCountsAndStores :
    (∃ (s : State) (m : _) (preemptErr : _), (macGet s m).linkUp = true ∧ macUsed s m = true ∧ datapathOn s = true ∧ preemptErr = true) ∧
    (∃ (s : State) (m : _) (pcsErr : _) (preemptErr : _), (macGet s m).linkUp = true ∧ macUsed s m = true ∧ datapathOn s = true ∧
      preemptErr = false ∧ pcsErr = true) ∧
    (∃ (s : State) (m : _) (frame : Bytes) (pcsErr : _) (preemptErr : _), (macGet s m).linkUp = true ∧ macUsed s m = true ∧
      datapathOn s = true ∧ preemptErr = false ∧ pcsErr = false ∧ frame.length < 64) ∧
    (∃ (s : State) (m : _) (frame : Bytes) (pcsErr : _) (preemptErr : _), (macGet s m).linkUp = true ∧ macUsed s m = true ∧
      datapathOn s = true ∧ preemptErr = false ∧ pcsErr = false ∧ 64 ≤ frame.length ∧ maxFrame s m < frame.length) ∧
    (∃ (s : State) (m : _) (frame : Bytes) (pcsErr : _) (preemptErr : _), (macGet s m).linkUp = true ∧ macUsed s m = true ∧
      datapathOn s = true ∧ preemptErr = false ∧ pcsErr = false ∧ 64 ≤ frame.length ∧ frame.length ≤ maxFrame s m ∧
      frame.drop (frame.length - 4) ≠ ethFcs (frame.take (frame.length - 4))) ∧
    (∃ (s : State) (m : _) (f : _), (macGet s m).linkUp = true ∧ macUsed s m = true ∧ datapathOn s = true ∧ 60 ≤ f.length ∧
      f.length + 4 ≤ maxFrame s m ∧ be f 12 2 ≠ 0x8808 ∧ bitAt (reg s (r_MAC_RX_CTRL m)).toNat 0 = true ∧ ptpTakes s m f = false ∧
      prpPair s m = none ∧ losslessClass s m (ingressClass s m f).2.2 = false ∧
      twinSelected s m (ingressClass s m f).1 (ingressClass s m f).2.1 = false ∧
      (basinShape s f.length).2 - min (basinShape s f.length).2 (ownFree s 0xFFF) ≤ openFree s) :=
  ⟨⟨rxUp, 0, true, by decide +kernel⟩,
    ⟨rxUp, 0, true, false, by decide +kernel⟩,
    ⟨rxUp, 0, (zeros 63 : Bytes), false, false, by decide +kernel⟩,
    ⟨rxUp, 0, (zeros 1523 : Bytes), false, false, by decide +kernel⟩,
    ⟨rxUp, 0, (zeros 64 : Bytes), false, false, by decide +kernel⟩,
    ⟨macUp {} [(r_MAC_RX_CTRL 0, 1)], 0, rxFrame, by decide +kernel⟩⟩

theorem witness_TransmissionStartsEndsAndDrops :
    (∃ (s : State) (m : _) (d : _) (rest : List (Bool × Nat × Nat)), macSends s m = true ∧ (macGet s m).active = none ∧
      (macGet s m).queue = [] ∧ (macGet s m).fcDue = d :: rest) ∧
    (∃ (s : State) (m : _) (c : _) (p : _), macSends s m = true ∧ (macGet s m).active = none ∧ (macGet s m).queue = [] ∧
      (macGet s m).fcDue = [] ∧ pickMac s m = some (c, p)) ∧
    (∃ (s : State) (m : _) (a : _), (macGet s m).active = some a) ∧
    (∃ (s : State) (m : _) (sent : _) (a : _), (macGet s m).active = some a ∧ a.resend = false ∧ (macGet s m).ctCurrent < a.wire.length ∧
      a.sent ≤ sent ∧ sent < a.wire.length) ∧
    (∃ (s : State) (m : _) (f : _), macSends s m = false ∧ (macGet s m).queue.find? (fun f => !f.lossless) = some f) :=
  ⟨⟨macUp { fcDue := [(true, 128, 9)] } [(r_MAC_TX_CTRL 0, 1)], 0, (true, 128, 9), ([] : List (Bool × Nat × Nat)), by decide +kernel⟩,
    ⟨macUp { preempted := some sending } [(r_MAC_TX_CTRL 0, 1)], 0, 0, Pick.resume sending, by decide +kernel⟩,
    ⟨macUp { active := some sending } [], 0, sending, by decide +kernel⟩,
    ⟨macUp { active := some sending } [], 0, 1999, sending, by decide +kernel⟩,
    ⟨macSet up 0 { queue := [lossy] }, 0, lossy, by decide +kernel⟩⟩

theorem witness_FlowControlShapersGatesAndLinksAct :
    (∃ (s : State) (m : _) (c : _), c ∈ (macGet s m).xoff ∧ mapGetD (macGet s m).occ c 0 ≤ regField s (r_MAC_PFC_XON m c) 23 0) ∧
    (∃ (s : State) (m : _) (c : _), c ∈ (macGet s m).xoff ∧ fcTxEn s m = true) ∧
    (∃ (s : State) (m : _) (c : _), mapHas (macGet s m).stopped c = true) ∧
    (∃ (s : State) (m : _) (c : _), mapHas (macGet s m).stopped c = true ∧ c ∉ (macGet s m).storm ∧
      regField s (r_MAC_PFC_WATCHDOG m) 15 0 ≠ 0) ∧
    (∃ (s : State) (m : _) (c : _), c ∈ (macGet s m).storm ∧ regField s (r_MAC_PFC_WATCHDOG m) 16 16 = 1) ∧
    (∃ (s : State) (p : _), p ≤ 1 ∧ clockOn s = true) ∧
    (∃ (s : State) (m : _), (macGet s m).gateEn = true) ∧
    (∃ (s : State) (m : _) (c : GclCommit), (macGet s m).commit = some c ∧ changeAt c ≤ absNs s) ∧
    (∃ (s : State) (m : _), (macGet s m).verifyState = 1) ∧
    (∃ (s : State) (m : _) (a : _) (n : _), datapathOn s = true ∧ s.dev.isolated = false ∧ s.dev.ethRefclk = true ∧ macUsed s m = true ∧
      (macGet s m).linkUp = false ∧ macGroup s m = some (a, n)) ∧
    (∃ (s : State) (m : _), (macGet s m).linkUp = true) :=
  ⟨⟨macUp { xoff := [7], occ := [(7, 0)] } [], 0, 7, by decide +kernel⟩,
    ⟨macUp { xoff := [7] } [(r_MAC_RX_CTRL 0, 10)], 0, 7, by decide +kernel⟩,
    ⟨macUp { stopped := [(7, 3)], storm := [7] } [], 0, 7, by decide +kernel⟩,
    ⟨macUp { stopped := [(7, 3)] } [(r_MAC_PFC_WATCHDOG 0, 100)], 0, 7, by decide +kernel⟩,
    ⟨macUp { stopped := [(7, 3)], storm := [7] } [(r_MAC_PFC_WATCHDOG 0, 65636)], 0, 7, by decide +kernel⟩,
    ⟨up, 1, by decide +kernel⟩,
    ⟨macUp { gateEn := true } [], 0, by decide +kernel⟩,
    ⟨macUp { commit := some ⟨0, 1, 1, 1000, 0, 0, 0, true, 0, 0, 0, []⟩ } [], 0, (⟨0, 1, 1, 1000, 0, 0, 0, true, 0, 0, 0, []⟩ : GclCommit),
      by decide +kernel⟩,
    ⟨macUp { verifyState := 1 } [], 0, by decide +kernel⟩,
    ⟨{ up with dev := { up.dev with ethRefclk := true } }, 0, 0, 8, by decide +kernel⟩,
    ⟨macUp {} [], 0, by decide +kernel⟩⟩

end Ports

/-! Witnesses: portcmd. -/

namespace Portcmd



theorem witness_PortShaperAndGateCommandsTakeEffect :
    Witnessed 0x0600 (fun s _ req => byteAt req 0 ≤ 1 ∧ byteAt req 1 ≤ 3 ∧ ∀ m ∈ portMacs (byteAt req 0),
      bitAt (reg s (r_MAC_RX_CTRL m)).toNat 0 = false ∧ macBusy (macGet s m) = false) ∧
    (∃ (s : State) (ch : _) (seq : _) (req : _) (m : _), Begun s ch seq 0x0600 req ∧ byteAt req 0 ≤ 1 ∧ byteAt req 1 ≤ 3 ∧
      m ∈ portMacs (byteAt req 0) ∧ bitAt (reg s (r_MAC_RX_CTRL m)).toNat 0 = true) ∧
    Witnessed 0x0601 (fun _ _ req => byteAt req 0 ≤ 1) ∧
    Witnessed 0x0602 (fun s _ req => byteAt req 0 ≤ 1 ∧ byteAt req 1 ≤ 7 ∧
      bitAt (portGet s (byteAt req 0)).retired (byteAt req 1) = false) ∧
    (∃ (m : _) (c : _), Witnessed 0x0604 (fun s _ req => m = byteAt req 0 ∧ c = byteAt req 1 ∧ m ≤ 15 ∧ c ≤ 7 ∧ le req 8 4 ≤ le req 4 4 ∧
      le req 4 4 < 2 ^ 24 ∧ le req 12 4 < 2 ^ 24 ∧
      ceilDiv (le req 4 4 + le req 12 4) 16 ≤ openFree s + ceilDiv (mapGetD s.basin.lossless (m * 8 + c) 0) 16)) ∧
    (∃ (s : State) (ch : _) (seq : _) (req : _), Begun s ch seq 0x0604 req ∧ byteAt req 0 ≤ 15 ∧ byteAt req 1 ≤ 7 ∧
      le req 8 4 ≤ le req 4 4 ∧ le req 4 4 < 2 ^ 24 ∧ le req 12 4 < 2 ^ 24 ∧
      openFree s + ceilDiv (mapGetD s.basin.lossless (byteAt req 0 * 8 + byteAt req 1) 0) 16 < ceilDiv (le req 4 4 + le req 12 4) 16) ∧
    Witnessed 0x0610 (fun s _ req => shaperOk s (le req 0 2) (shaperOfReq req) = true) ∧
    (∃ (s : State) (ch : _) (seq : _) (req : _), Begun s ch seq 0x0610 req ∧ shaperOk s (le req 0 2) (shaperOfReq req) = false) ∧
    Witnessed 0x0611 (fun _ _ _ => True) ∧
    Witnessed 0x0612 (fun s _ req => byteAt req 2 ≤ 1 ∧ (sliceGet s (le req 0 2)).isSome = true ∧ ∀ c < 8,
      le req (4 + 2 * c) 2 = 0xFFFF ∨ (shaperNext s (le req (4 + 2 * c) 2)).level = 0 ∧ le req (4 + 2 * c) 2 / 32768 = byteAt req 2) ∧
    Witnessed 0x0620 (fun _ _ req => byteAt req 0 ≤ 15 ∧ 1 ≤ le req 4 2 ∧ le req 4 2 ≤ 30 ∧ le req 2 2 + le req 4 2 ≤ 1024 ∧
      ∀ i < le req 4 2, (gclOfBytes (slice req (8 + 8 * i) 8)).2.1 ≠ 3) ∧
    (∃ (m : _) (w : _), Witnessed 0x0621 (fun s _ req => m = byteAt req 0 ∧ m ≤ 15 ∧ 1 ≤ le req 2 2 ∧ le req 2 2 ≤ 1024 ∧ le req 4 4 ≠ 0 ∧
      le req 20 4 ≤ 999999999 ∧ (macGet s m).commit = none ∧ w = gclChange s (le req 12 8 * 1000000000 + le req 20 4) (le req 4 4) ∧
      ∀ i < le req 2 2, (gclEntry (macGet s m).admin i).2.2 ≠ 0 ∧
      ((gclEntry (macGet s m).admin i).2.1 = 0 ∨ (macGet s m).preemptEn = true))) ∧
    Witnessed 0x0622 (fun _ _ req => byteAt req 0 ≤ 15 ∧ byteAt req 1 ≤ 1 ∧ le req 2 2 + le req 4 2 ≤ 1024) ∧
    Witnessed 0x0623 (fun _ _ req => byteAt req 0 ≤ 15 ∧ byteAt req 3 ≤ 3) :=
  ⟨witnessed (up) 0 (rq [(0, 1, 1), (1, 1, 3)]) (by decide +kernel) (by decide +kernel),
    ⟨begun (setReg up (r_MAC_RX_CTRL 8) 1) 0 0x0600 (rq [(0, 1, 1), (1, 1, 3)]), 0, 1, rq [(0, 1, 1), (1, 1, 3)], 8,
      ⟨begun_begun _ _ _ _ (by decide +kernel), by decide +kernel⟩⟩,
    witnessed (up) 0 (rq [(0, 1, 1)]) (by decide +kernel) (by decide +kernel),
    witnessed (up) 0 (rq [(0, 1, 1), (1, 1, 7)]) (by decide +kernel) (by decide +kernel),
    ⟨15, 7, witnessed (up) 0 (rq [(0, 1, 15), (1, 1, 7), (4, 4, 160), (8, 4, 160), (12, 4, 32)]) (by decide +kernel) (by decide +kernel)⟩,
    ⟨begun { up with basin := { area := 0 } } 0 0x0604 (rq [(0, 1, 15), (1, 1, 7), (4, 4, 160), (8, 4, 160), (12, 4, 32)]), 0, 1,
      rq [(0, 1, 15), (1, 1, 7), (4, 4, 160), (8, 4, 160), (12, 4, 32)], ⟨begun_begun _ _ _ _ (by decide +kernel), by decide +kernel⟩⟩,
    witnessed ({ sliceUp up with slices := { (sliceUp up).slices with tab := (sliceUp up).slices.tab.map (fun p => (p.1, { p.2 with w0Base := 32700, w0Count := 1 })) } }) 0 (rq [(0, 2, 32700), (2, 1, 3), (4, 2, 65535), (6, 2, 64), (8, 8, 1000), (16, 4, 100), (20, 1, 63), (21, 1, 1)]) (by decide +kernel) (by decide +kernel),
    ⟨begun up 0 0x0610 (rq []), 0, 1, rq [], ⟨begun_begun _ _ _ _ (by decide +kernel), by decide +kernel⟩⟩,
    witnessed (up) 0 (rq []) (by decide +kernel) (by decide +kernel),
    witnessed (sliceUp up) 0 (rq [(0, 2, 1), (4, 2, 65535), (6, 2, 65535), (8, 2, 65535), (10, 2, 65535), (12, 2, 65535), (14, 2, 65535), (16, 2, 65535), (18, 2, 65535)]) (by decide +kernel) (by decide +kernel),
    witnessed (up) 0 (rq [(0, 1, 15), (2, 2, 1023), (4, 2, 1), (8, 4, 513), (12, 4, 100)]) (by decide +kernel) (by decide +kernel),
    ⟨15, 5000011000, witnessed (macMod up 15 (fun x => { x with admin := [(0, (1, 0, 100))] })) 0 (rq [(0, 1, 15), (2, 2, 1), (4, 4, 1000), (12, 8, 5), (20, 4, 11000)]) (by decide +kernel) (by decide +kernel)⟩,
    witnessed (up) 0 (rq [(0, 1, 15), (1, 1, 1), (2, 2, 1023), (4, 2, 1)]) (by decide +kernel) (by decide +kernel),
    witnessed (up) 0 (rq [(0, 1, 15), (1, 1, 128), (2, 1, 1), (3, 1, 3)]) (by decide +kernel) (by decide +kernel)⟩

end Portcmd

/-! Witnesses: plane. -/

namespace Plane

/-- SERVICE with one packet, number 5. -/
def pk (k : Pkt) : State := pktSet up 5 k

/-- The class record 0 of a parse bank with RASP_EN. -/
def raspCls (s : State) : State := { s with plane := { s.plane with bank0 := { s.plane.bank0 with classes := [(0, [1, 0, 0, 0])] } } }

def twk (pl : Nat) : Pkt := { hdr := { twin := true, pipeline := pl }, stream := 3 }

theorem witness_PassesStartParseAndScan :
    (∃ (s : State) (p : _) (pos : _) (k : Pkt), pktGet s p = some k ∧ k.stage = .start ∧ canStart s k = true ∧ entryServes s k pos = true ∧
      startsNext s p k = true ∧ retryClear s k = true ∧ s.dev.base ≠ .restricted ∧ mateWaiting s p k = none ∧ k.hdr.twin = false ∧
      k.started = false) ∧
    (∃ (s : State) (p : _) (pos : _) (k : Pkt), pktGet s p = some k ∧ k.stage = .start ∧ canStart s k = true ∧ entryServes s k pos = true ∧
      startsNext s p k = true ∧ retryClear s k = true ∧ s.dev.base ≠ .restricted ∧ mateWaiting s p k = none ∧ k.hdr.twin = false ∧
      k.started = true) ∧
    (∃ (s : State) (p : _) (pos : _) (k : _) (p' : _) (k' : _), pktGet s p = some k ∧ k.stage = .start ∧ canStart s k = true ∧
      entryServes s k pos = true ∧ startsNext s p k = true ∧ retryClear s k = true ∧ s.dev.base ≠ .restricted ∧
      mateWaiting s p k = some (p', k') ∧ raspEnabled s k = false) ∧
    (∃ (s : State) (p : _) (pos : _) (k : Pkt), pktGet s p = some k ∧ k.stage = .start ∧ canStart s k = true ∧ entryServes s k pos = true ∧
      startsNext s p k = true ∧ retryClear s k = true ∧ s.dev.base = .restricted ∧ k.hdr.source ≤ 15) ∧
    (∃ (s : State) (p : _) (k : Pkt), pktGet s p = some k ∧ k.stage = .streamWait ∧
      unfinished s (twinStream k.hdr.source k.hdr.flowHash) < 4096 ∧ (∀ x ∈ s.pkts,
      x.1 < p → x.2.stage = .streamWait → twinStream x.2.hdr.source x.2.hdr.flowHash ≠ twinStream k.hdr.source k.hdr.flowHash)) ∧
    (∃ (s : State) (p : _) (k : Pkt), pktGet s p = some k ∧ k.stage = .plane ∧ k.hdr.pass ≠ 0) ∧
    (∃ (s : State) (p : _) (k : Pkt), pktGet s p = some k ∧ k.stage = .plane ∧ k.hdr.pass = 0 ∧ raspEnabled s k = false) ∧
    (∃ (s : State) (p : _) (k : Pkt), pktGet s p = some k ∧ k.stage = .plane ∧ k.hdr.pass = 0 ∧ raspEnabled s k = true ∧
      (k.hdr.twin = true ∨ splitQueued s k.hdr.pipeline < 48)) ∧
    (∃ (s : State) (p : _) (k : Pkt), pktGet s p = some k ∧ k.stage = .raspQueue ∧
      ((s.rasp.queues[k.hdr.pipeline]?).getD []).head? = some p ∧ (s.rasp.lanes[k.hdr.pipeline]?).getD 0 < 4) ∧
    (∃ (s : State) (p : _) (k : Pkt), pktGet s p = some k ∧ k.stage = .raspScan) :=
  ⟨⟨pk {}, 5, 0, ({} : Pkt), by decide +kernel⟩,
    ⟨pk { started := true, hdr := { pass := 1 } }, 5, 0, ({ started := true, hdr := { pass := 1 } } : Pkt), by decide +kernel⟩,
    ⟨pktSet (pk (twk 0)) 6 (twk 2), 5, 0, twk 0, 6, twk 2, by decide +kernel⟩,
    ⟨pktSet (inMode .restricted) 5 {}, 5, 0, ({} : Pkt), by decide +kernel⟩,
    ⟨pk { stage := .streamWait }, 5, ({ stage := .streamWait } : Pkt), by decide +kernel⟩,
    ⟨pk { stage := .plane, hdr := { pass := 1 } }, 5, ({ stage := .plane, hdr := { pass := 1 } } : Pkt), by decide +kernel⟩,
    ⟨pk { stage := .plane }, 5, ({ stage := .plane } : Pkt), by decide +kernel⟩,
    ⟨raspCls (pk { stage := .plane }), 5, ({ stage := .plane } : Pkt), by decide +kernel⟩,
    ⟨{ pk { stage := .raspQueue } with rasp := { queues := [[5], [], [], []], lanes := [3, 0, 0, 0] } }, 5, ({ stage := .raspQueue } : Pkt),
      by decide +kernel⟩,
    ⟨{ pk { stage := .raspScan } with rasp := { lanes := [4, 0, 0, 0] } }, 5, ({ stage := .raspScan } : Pkt), by decide +kernel⟩⟩

theorem witness_BanksAreStagedValidatedAndSwitched :
    Witnessed 0x0440 (fun s _ req => parseRange req true = true ∧ planeReady s = true) ∧
    Witnessed 0x0441 (fun _ _ req => parseRange req false = true) ∧
    Witnessed 0x0442 (fun s _ _ => planeReady s = true) ∧
    Witnessed 0x0448 (fun s _ req => patternRange req true = true ∧ raspReady s = true) ∧
    Witnessed 0x0449 (fun _ _ req => patternRange req false = true) ∧
    Witnessed 0x044A (fun s _ _ => raspReady s = true) ∧
    (∃ (s : State) (c : BankCommit), s.plane.commit = some c ∧ c.validated = false) ∧
    (∃ (s : State) (c : BankCommit), s.rasp.commit = some c ∧ c.validated = false) ∧
    (∃ (s : State) (c : BankCommit), s.plane.commit = some c ∧ c.validated = true) ∧
    (∃ (s : State) (c : BankCommit), s.rasp.commit = some c ∧ c.validated = true) ∧
    (∃ (s : State), s.plane.stageReady = false ∧ (parseBankGet s (1 - s.plane.cur)).inflight = 0) ∧
    (∃ (s : State), s.rasp.stageReady = false ∧ (patternBankGet s (1 - s.rasp.cur)).pending = 0) :=
  ⟨witnessed (up) 0 (rq [(0, 2, 1), (2, 2, 4095), (4, 2, 1)]) (by decide +kernel) (by decide +kernel),
    witnessed (up) 0 (rq [(2, 2, 255), (4, 2, 1), (6, 1, 1)]) (by decide +kernel) (by decide +kernel),
    witnessed (up) 0 (rq [(0, 4, 7)]) (by decide +kernel) (by decide +kernel),
    witnessed (up) 0 (rq [(0, 2, 8191), (2, 2, 1)]) (by decide +kernel) (by decide +kernel),
    witnessed (up) 0 (rq [(0, 2, 8189), (2, 2, 3), (4, 1, 1)]) (by decide +kernel) (by decide +kernel),
    witnessed (up) 0 (rq [(0, 4, 7)]) (by decide +kernel) (by decide +kernel),
    ⟨{ up with plane := { commit := some ⟨0, 1, 7, false⟩ } }, (⟨0, 1, 7, false⟩ : BankCommit), by decide +kernel⟩,
    ⟨{ up with rasp := { commit := some ⟨0, 1, 7, false⟩ } }, (⟨0, 1, 7, false⟩ : BankCommit), by decide +kernel⟩,
    ⟨{ up with plane := { commit := some ⟨0, 1, 7, true⟩ } }, (⟨0, 1, 7, true⟩ : BankCommit), by decide +kernel⟩,
    ⟨{ up with rasp := { commit := some ⟨0, 1, 7, true⟩ } }, (⟨0, 1, 7, true⟩ : BankCommit), by decide +kernel⟩,
    ⟨{ up with plane := { stageReady := false } }, by decide +kernel⟩,
    ⟨{ up with rasp := { stageReady := false } }, by decide +kernel⟩⟩

end Plane

/-! Witnesses: jig. -/

namespace Jig

def jigPkt : Pkt := { stage := .jig, hdr := { pipeline := 3, slice := 1 }, frame := zeros 60 }

def jigUp (drop : Nat) : State := { sliceUp (pktSet up 5 jigPkt) with jig := { slot0 := { state := .current, set := { profiles := [(0, splice resetProfile 96 (toLe 4 (drop * 0x100000)))] } } } }

def com (p : CommitPhase) (m part : Bool) : JigCommit := ⟨p, 3, 7, 0, 0, 0, 1, m, 0, part, false, false, 0, 0, 0⟩

def comUp (p : CommitPhase) (m part : Bool) : State := { up with jig := { slot0 := { state := .current }, slot3 := { state := .compiling }, commit := some (com p m part), mirrorEn := true } }

def busySlots : State := { up with jig := { slot0 := { state := .current }, slot1 := { state := .draining }, slot2 := { state := .draining, inflight := 2 }, slot3 := { state := .draining, inflight := 1 } } }

def comUp0 : State := comUp .waitReady true false

theorem witness_JigClassifiesAndItsTablesAreSet :
    (∃ (s : State) (p : _) (k : _) (sl : _) (c : _), pktGet s p = some k ∧ k.stage = .jig ∧
      sl = (assignedSlice s k (classify s k)).getD k.hdr.slice ∧
      c = (if (classify s k).hit && bitAt (le (ruleGet (jigSlotGet s k.hdr.jigSlot).set (classify s k).rule) 8 4) 17 then bits (le (ruleGet (jigSlotGet s k.hdr.jigSlot).set (classify s k).rule) 8 4) 16 13 else k.hdr.cls) ∧ sliceOk s sl = true ∧ (classify s k).drop = false ∧ classPolicy (classGet (parseBankGet s k.hdr.pgBank) c) { k.hdr with slice := sl, cls := c } = 0) ∧
    (∃ (s : State) (p : _) (k : _), pktGet s p = some k ∧ k.stage = .jig ∧
      sliceOk s ((assignedSlice s k (classify s k)).getD k.hdr.slice) = true ∧ (classify s k).drop = true ∧ k.mirrors = [] ∧
      k.hdr.pipeline < 4) ∧
    (∃ (s : State) (p : _) (k : _), pktGet s p = some k ∧ k.stage = .jig ∧
      sliceOk s ((assignedSlice s k (classify s k)).getD k.hdr.slice) = false ∧ k.mirrors = [] ∧ k.hdr.pipeline < 4) ∧
    Witnessed 0x0400 (fun _ _ req => ruleRange req 2 = true ∧ byteAt req 7 = 4) ∧
    (∃ (s : State) (ch : _) (seq : _) (req : _) (set : RuleSet), Begun s ch seq 0x0401 req ∧ ruleSource s (byteAt req 7) = some set ∧
      ruleRange req 2 = true) ∧
    Witnessed 0x0402 (fun _ _ req => ruleRange req 65536 = true ∧ byteAt req 7 = 4) ∧
    Witnessed 0x0403 (fun _ _ req => byteAt req 0 ≤ 15 ∧ byteAt req 1 = 4) ∧
    (∃ (s : State) (ch : _) (seq : _) (req : _) (set : RuleSet), Begun s ch seq 0x0404 req ∧ ruleSource s (byteAt req 1) = some set ∧
      byteAt req 0 ≤ 15) ∧
    (∃ (s : State) (ch : _) (seq : _) (req : _) (set : RuleSet), Begun s ch seq 0x0405 req ∧ byteAt req 0 ≠ 4 ∧
      ruleSource s (byteAt req 0) = some set) ∧
    Witnessed 0x0411 (fun _ _ _ => True) ∧
    Witnessed 0x0420 (fun _ _ req => byteAt req 0 ≤ 1) ∧
    Witnessed 0x0421 (fun _ _ _ => True) :=
  ⟨⟨jigUp 0, 5, jigPkt, 1, 0, by decide +kernel⟩,
    ⟨jigUp 1, 5, jigPkt, by decide +kernel⟩,
    ⟨{ jigUp 0 with slices := {} }, 5, jigPkt, by decide +kernel⟩,
    witnessed (up) 0 (rq [(0, 4, 0xFFFF), (4, 1, 1), (7, 1, 4)]) (by decide +kernel) (by decide +kernel),
    ⟨begun up 0 0x0401 (rq [(0, 4, 0xFFFE), (4, 1, 2), (7, 1, 4)]), 0, 1, rq [(0, 4, 0xFFFE), (4, 1, 2), (7, 1, 4)], ({} : RuleSet),
      ⟨begun_begun _ _ _ _ (by decide +kernel), by decide +kernel⟩⟩,
    witnessed (up) 0 (rq [(0, 4, 0), (4, 1, 2), (7, 1, 4)]) (by decide +kernel) (by decide +kernel),
    witnessed (up) 0 (rq [(0, 1, 15), (1, 1, 4)]) (by decide +kernel) (by decide +kernel),
    ⟨begun up 0 0x0404 (rq [(0, 1, 15), (1, 1, 4)]), 0, 1, rq [(0, 1, 15), (1, 1, 4)], ({} : RuleSet),
      ⟨begun_begun _ _ _ _ (by decide +kernel), by decide +kernel⟩⟩,
    ⟨begun comUp0 0 0x0405 (rq [(0, 1, 0)]), 0, 1, rq [(0, 1, 0)], ({} : RuleSet), ⟨begun_begun _ _ _ _ (by decide +kernel),
      by decide +kernel⟩⟩,
    witnessed (up) 0 (rq []) (by decide +kernel) (by decide +kernel),
    witnessed (up) 0 (rq [(0, 1, 1)]) (by decide +kernel) (by decide +kernel),
    witnessed (up) 0 (rq []) (by decide +kernel) (by decide +kernel)⟩

theorem witness_JigCommitsSwitchAloneAndMirrored :
    Witnessed 0x0410 (fun s _ req => le req 4 4 ≤ 1 ∧ s.jig.commit = none ∧ (freeSlot s).isSome = true ∧ tableFault s.jig.staging = none) ∧
    (∃ (s : State) (c : _), s.jig.commit = some c ∧ c.phase = .compiling) ∧
    (∃ (s : State) (c : _), s.jig.commit = some c ∧ c.phase = .waitSwitch ∧ c.slot < 4 ∧ currentSlot s ≠ c.slot) ∧
    (∃ (s : State) (n : _), n < 4 ∧ (jigSlotGet s n).state = .draining ∧ (jigSlotGet s n).inflight = 0) ∧
    (∃ (s : State) (n : _), n < 4 ∧ (jigSlotGet s n).state = .draining ∧ 0 < (jigSlotGet s n).inflight ∧
      (jigSlotGet s n).slowSent = false) ∧
    (∃ (s : State), s.jig.commit = none ∧ s.jig.prepare = none ∧ (freeSlot s).isSome = true) ∧
    (∃ (s : State), s.jig.commit = none ∧ s.jig.prepare = none ∧ freeSlot s = none) ∧
    (∃ (s : State) (data : Bytes) (x : Nat × Word), s.jig.prepare = some x ∧ s.jig.incoming.length + data.length < tableSize) ∧
    (∃ (s : State) (c : _), s.jig.commit = some c ∧ c.mirrored = true ∧ c.partner = false ∧ c.phase = .compiling) ∧
    (∃ (s : State) (c : _), s.jig.commit = some c ∧ c.mirrored = true ∧ c.partner = false ∧ c.phase = .waitReady) ∧
    (∃ (s : State) (c : _) (code : _), s.jig.commit = some c ∧ c.mirrored = true ∧ c.partner = false ∧
      (c.phase = .compiling ∨ c.phase = .waitReady) ∧ code ≠ 0) ∧
    (∃ (s : State) (c : _), s.jig.commit = some c ∧ c.mirrored = true ∧ c.partner = false ∧ c.phase = .waitAck) ∧
    (∃ (s : State) (c : _), s.jig.commit = some c ∧ c.mirrored = true ∧ c.partner = false ∧ c.phase = .waitSwitch) ∧
    (∃ (s : State) (c : _), s.jig.commit = some c ∧ c.mirrored = true ∧ c.partner = false ∧ (c.phase = .compiling ∨ c.phase = .waitReady) ∧
      c.partnerReady = false) ∧
    (∃ (s : State) (c : _), s.jig.commit = some c ∧ c.partner = true ∧ c.phase = .waitGo) ∧
    (∃ (s : State) (c : _), s.jig.commit = some c ∧ c.partner = true ∧ c.phase = .waitGo) ∧
    (∃ (s : State) (c : _), s.jig.commit = some c ∧ c.phase = .waitAck) :=
  ⟨witnessed (up) 0 (rq [(4, 4, 1)]) (by decide +kernel) (by decide +kernel),
    ⟨comUp .compiling false false, com .compiling false false, by decide +kernel⟩,
    ⟨comUp .waitSwitch false false, com .waitSwitch false false, by decide +kernel⟩,
    ⟨busySlots, 1, by decide +kernel⟩,
    ⟨busySlots, 3, by decide +kernel⟩,
    ⟨up, by decide +kernel⟩,
    ⟨busySlots, by decide +kernel⟩,
    ⟨{ up with jig := { prepare := some (7, 9) } }, (zeros 240 : Bytes), ((7, 9) : Nat × Word), by decide +kernel⟩,
    ⟨comUp .compiling true false, com .compiling true false, by decide +kernel⟩,
    ⟨comUp .waitReady true false, com .waitReady true false, by decide +kernel⟩,
    ⟨comUp .waitReady true false, com .waitReady true false, 3, by decide +kernel⟩,
    ⟨comUp .waitAck true false, com .waitAck true false, by decide +kernel⟩,
    ⟨comUp .waitSwitch true false, com .waitSwitch true false, by decide +kernel⟩,
    ⟨comUp .waitReady true false, com .waitReady true false, by decide +kernel⟩,
    ⟨comUp .waitGo true true, com .waitGo true true, by decide +kernel⟩,
    ⟨comUp .waitGo true true, com .waitGo true true, by decide +kernel⟩,
    ⟨comUp .waitAck true false, com .waitAck true false, by decide +kernel⟩⟩

end Jig

/-! Witnesses: action. -/

namespace Action

/-- An action operation (R195). -/
def opW (opc a b c space off width imm : Nat) : Bytes := toLe 4 (opc + 256 * a + 4096 * b + 65536 * c) ++ toLe 4 (space + 16 * off + 65536 * width) ++ toLe 8 imm

/-- A valid record of `n` operations, the first of them `o` (R194). -/
def recW (n : Nat) (o : Bytes) : Bytes := toLe 4 (n + 16) ++ zeros 12 ++ o ++ zeros (224 - o.length)

/-- A packet of pipeline 3 whose next operation is `o`, the first of `n`; slot 0 is a header of 20 bytes at byte 14. -/
def opPkt (n : Nat) (o : Bytes) : Pkt :=
  { stage := .action, hdr := { pipeline := 3, slots := { offset := 14, htype := 1, len := 20, valid := true } :: List.replicate 7 {} }, frame := List.replicate 64 9, pass := { g := (List.range 16).map (BitVec.ofNat 64), record := recW n o } }

/-- SERVICE with that packet. -/
def opUp (k : Pkt) : State := pktSet up 5 k

def stfOp : Bytes := opW 0x03 7 0 0 0 64 8 0

def cstf (imm : Nat) : Bytes := opW 0x29 7 0 0 0 64 8 imm

def written (o : Bytes) : Pkt := (fieldPut (opPkt 2 o) 0 64 8 7).getD {}

def l0 : LayerSlot := { offset := 14, htype := 1, len := 20, valid := true }

def fetchPkt (n : Nat) : Pkt := { opPkt 1 [] with stage := .fetch, jig := { action := n } }

def fetchUp (k : Pkt) : State := { opUp k with act := { table := [(3, recW 1 (opW 0x1E 0 0 0 0 0 0 0)), (4, splice (recW 1 (opW 0x1E 0 0 0 0 0 0 0)) 4 (toLe 4 (4096 + 5)))] } }

def hitPkt (o : Bytes) : Pkt := { opPkt 2 o with pass := { (opPkt 2 o).pass with lastHit := some { loc := { stash := false, idx := 0 }, epoch := 0, key := zeros 41 } } }

def twinPkt (k : Pkt) : Pkt := { k with hdr := { k.hdr with twin := true } }

def ways0 (s : State) : State := { s with cst := { ways := [(4 * (buckets (zeros 41)).1, entryFor (zeros 41) 0)], hitMode := true } }

theorem witness_RegisterOperationsSetA :
    (∃ (x : _) (s : State) (p : _) (k : _) (o : _),
      (x ∈ ([ (.ldi, 0x01, fun _ o => BitVec.ofNat 64 (opImm o)), (.ldf, 0x02, fun k o => BitVec.ofNat 64 (fieldGet k (opSpace o) (opOff o) (opWidth o))), (.mov, 0x04, fun k o => gReg k (opB o)), (.add, 0x08, fun k o => gReg k (opB o) + gReg k (opC o)), (.sub, 0x09, fun k o => gReg k (opB o) - gReg k (opC o)), (.and, 0x0A, fun k o => gReg k (opB o) &&& gReg k (opC o)), (.or, 0x0B, fun k o => gReg k (opB o) ||| gReg k (opC o)), (.xor, 0x0C, fun k o => gReg k (opB o) ^^^ gReg k (opC o)), (.shl, 0x0D, fun k o => gReg k (opB o) <<< bits (opImm o) 5 0), (.shr, 0x0E, fun k o => gReg k (opB o) >>> bits (opImm o) 5 0), (.addi, 0x0F, fun k o => gReg k (opB o) + BitVec.ofNat 64 (opImm o)), (.crc, 0x10, fun k o => (crc32c ((toLe 8 (gReg k (opB o)).toNat).take (bits (opImm o) 3 0))).setWidth 64)] : List ((Nat → Instr) × Nat × (Pkt → Bytes → Dword)))) ∧ OpDue s p x.2.1 k o ∧ HasNext k) ∧
    (∃ (x : _) (s : State) (p : _) (k : _) (o : _),
      (x ∈ ([ (.ldi, 0x01, fun _ o => BitVec.ofNat 64 (opImm o)), (.ldf, 0x02, fun k o => BitVec.ofNat 64 (fieldGet k (opSpace o) (opOff o) (opWidth o))), (.mov, 0x04, fun k o => gReg k (opB o)), (.add, 0x08, fun k o => gReg k (opB o) + gReg k (opC o)), (.sub, 0x09, fun k o => gReg k (opB o) - gReg k (opC o)), (.and, 0x0A, fun k o => gReg k (opB o) &&& gReg k (opC o)), (.or, 0x0B, fun k o => gReg k (opB o) ||| gReg k (opC o)), (.xor, 0x0C, fun k o => gReg k (opB o) ^^^ gReg k (opC o)), (.shl, 0x0D, fun k o => gReg k (opB o) <<< bits (opImm o) 5 0), (.shr, 0x0E, fun k o => gReg k (opB o) >>> bits (opImm o) 5 0), (.addi, 0x0F, fun k o => gReg k (opB o) + BitVec.ofNat 64 (opImm o)), (.crc, 0x10, fun k o => (crc32c ((toLe 8 (gReg k (opB o)).toNat).take (bits (opImm o) 3 0))).setWidth 64)] : List ((Nat → Instr) × Nat × (Pkt → Bytes → Dword)))) ∧ OpDue s p x.2.1 k o ∧ ¬ HasNext k ∧ k.mirrors = [] ∧ k.hdr.pipeline < 4) :=
  ⟨⟨_, opUp (opPkt 2 (opW 0x01 7 1 2 0 64 8 13)), 5, opPkt 2 (opW 0x01 7 1 2 0 64 8 13), opW 0x01 7 1 2 0 64 8 13, ⟨List.mem_cons_self,
    by simp only [OpDue, HasNext]; decide +kernel⟩⟩,
    ⟨_, opUp (opPkt 1 (opW 0x01 7 1 2 0 64 8 13)), 5, opPkt 1 (opW 0x01 7 1 2 0 64 8 13), opW 0x01 7 1 2 0 64 8 13, ⟨List.mem_cons_self,
      by simp only [OpDue, HasNext]; decide +kernel⟩⟩⟩

theorem witness_PassesEnterAndMoveThroughRecords :
    (∃ (s : State) (p : _) (k : _) (r : _), pktGet s p = some k ∧ k.stage = .fetch ∧ r = mapGetD s.act.table k.jig.action (zeros 240) ∧
      recValid r = true ∧ (bitAt (le r 4 4) 12 = true → bits (le r 4 4) 11 0 = k.hdr.slice)) ∧
    (∃ (s : State) (p : _) (k : _) (r : _), pktGet s p = some k ∧ k.stage = .fetch ∧ r = mapGetD s.act.table k.jig.action (zeros 240) ∧
      recValid r = false ∧ k.hdr.pipeline < 4 ∧ (freeEntry s (exceptionCluster k) k.hdr.slice).isSome = true) ∧
    (∃ (s : State) (p : _) (k : _) (r : _), pktGet s p = some k ∧ k.stage = .fetch ∧ r = mapGetD s.act.table k.jig.action (zeros 240) ∧
      recValid r = true ∧ bitAt (le r 4 4) 12 = true ∧ bits (le r 4 4) 11 0 ≠ k.hdr.slice ∧ k.mirrors = [] ∧ k.hdr.pipeline < 4) ∧
    (∃ (x : _) (s : State) (p : _) (k : _),
      (x ∈ ([(.ldi, 0x01), (.stf, 0x03), (.beq, 0x18), (.jump, 0x1D), (.endOp, 0x1E), (.lookup, 0x20), (.ttlDec, 0x28), (.setTc, 0x30), (.fwdPort, 0x38), (.drop, 0x3B)] : List ((Nat → Instr) × Nat))) ∧ pktGet s p = some k ∧ k.stage = .action ∧ opOpc (recOp k.pass.record k.pass.op) = x.2 ∧ 64 ≤ k.pass.opsRun ∧ k.hdr.pipeline < 4 ∧ (freeEntry s (exceptionCluster k) k.hdr.slice).isSome = true) ∧
    (∃ (x : _) (s : State) (p : _) (k : _) (o : _),
      (x ∈ ([ (.beq, 0x18, fun k o => decide (gReg k (opA o) = gReg k (opB o))), (.bne, 0x19, fun k o => decide (gReg k (opA o) ≠ gReg k (opB o))), (.blt, 0x1A, fun k o => decide ((gReg k (opA o)).toNat < (gReg k (opB o)).toNat)), (.bge, 0x1B, fun k o => decide ((gReg k (opB o)).toNat ≤ (gReg k (opA o)).toNat)), (.btst, 0x1C, fun k o => bitAt (gReg k (opA o)).toNat (bits (opImm o) 13 8))] : List ((Nat → Instr) × Nat × (Pkt → Bytes → Bool)))) ∧ OpDue s p x.2.1 k o ∧ x.2.2 k o = true ∧ bits (opImm o) 3 0 < recNops k.pass.record) ∧
    (∃ (x : _) (s : State) (p : _) (k : _) (o : _),
      (x ∈ ([ (.beq, 0x18, fun k o => decide (gReg k (opA o) = gReg k (opB o))), (.bne, 0x19, fun k o => decide (gReg k (opA o) ≠ gReg k (opB o))), (.blt, 0x1A, fun k o => decide ((gReg k (opA o)).toNat < (gReg k (opB o)).toNat)), (.bge, 0x1B, fun k o => decide ((gReg k (opB o)).toNat ≤ (gReg k (opA o)).toNat)), (.btst, 0x1C, fun k o => bitAt (gReg k (opA o)).toNat (bits (opImm o) 13 8))] : List ((Nat → Instr) × Nat × (Pkt → Bytes → Bool)))) ∧ OpDue s p x.2.1 k o ∧ x.2.2 k o = false ∧ HasNext k) ∧
    (∃ (s : State) (p : _) (k : _) (o : _) (r : _), OpDue s p 0x1D k o ∧ r = mapGetD s.act.table (bits (opImm o) 19 0) (zeros 240) ∧
      recValid r = true ∧ (bitAt (le r 4 4) 12 = true → bits (le r 4 4) 11 0 = k.hdr.slice)) ∧
    (∃ (s : State) (p : _) (k : _) (o : _), OpDue s p 0x1E k o ∧ k.mirrors = [] ∧ k.hdr.pipeline < 4) :=
  ⟨⟨fetchUp (fetchPkt 3), 5, fetchPkt 3, mapGetD (fetchUp (fetchPkt 3)).act.table 3 [], by decide +kernel⟩,
    ⟨fetchUp (fetchPkt 5), 5, fetchPkt 5, zeros 240, by decide +kernel⟩,
    ⟨fetchUp (fetchPkt 4), 5, fetchPkt 4, mapGetD (fetchUp (fetchPkt 4)).act.table 4 [], by decide +kernel⟩,
    ⟨_, opUp { opPkt 2 (opW 0x01 0 0 0 0 0 0 0) with pass := { (opPkt 2 (opW 0x01 0 0 0 0 0 0 0)).pass with opsRun := 64 } }, 5,
      { opPkt 2 (opW 0x01 0 0 0 0 0 0 0) with pass := { (opPkt 2 (opW 0x01 0 0 0 0 0 0 0)).pass with opsRun := 64 } }, ⟨List.mem_cons_self,
      by simp only [OpDue, HasNext]; decide +kernel⟩⟩,
    ⟨_, opUp (opPkt 4 (opW 0x18 2 2 0 0 0 0 259)), 5, opPkt 4 (opW 0x18 2 2 0 0 0 0 259), opW 0x18 2 2 0 0 0 0 259, ⟨List.mem_cons_self,
      by simp only [OpDue, HasNext]; decide +kernel⟩⟩,
    ⟨_, opUp (opPkt 4 (opW 0x18 3 2 0 0 0 0 515)), 5, opPkt 4 (opW 0x18 3 2 0 0 0 0 515), opW 0x18 3 2 0 0 0 0 515, ⟨List.mem_cons_self,
      by simp only [OpDue, HasNext]; decide +kernel⟩⟩,
    ⟨{ opUp (opPkt 2 (opW 0x1D 0 0 0 0 0 0 3)) with act := { table := [(3, recW 1 [])] } }, 5, opPkt 2 (opW 0x1D 0 0 0 0 0 0 3),
      opW 0x1D 0 0 0 0 0 0 3, recW 1 [], by simp only [OpDue, HasNext]; decide +kernel⟩,
    ⟨opUp (opPkt 2 (opW 0x1E 0 0 0 0 0 0 0)), 5, opPkt 2 (opW 0x1E 0 0 0 0 0 0 0), opW 0x1E 0 0 0 0 0 0 0,
      by simp only [OpDue, HasNext]; decide +kernel⟩⟩

theorem witness_FieldWritesEditsAndSettingsOfAPass :
    (∃ (s : State) (p : _) (k : _) (o : _) (k' : _), OpDue s p 0x03 k o ∧ HasNext k ∧
      fieldPut k (opSpace o) (opOff o) (opWidth o) (gReg k (opA o)).toNat = some k') ∧
    (∃ (s : State) (p : _) (k : _) (o : _), OpDue s p 0x03 k o ∧ HasNext k ∧
      fieldPut k (opSpace o) (opOff o) (opWidth o) (gReg k (opA o)).toNat = none ∧ k.hdr.pipeline < 4) ∧
    (∃ (s : State) (p : _) (k : _) (o : _) (b : _) (k' : _), OpDue s p 0x29 k o ∧ HasNext k ∧
      fieldBase k (opSpace o) (opOff o) (opWidth o) = some b ∧
      fieldPut k (opSpace o) (opOff o) (opWidth o) (gReg k (opA o)).toNat = some k' ∧ bits (opImm o) 3 0 = 15 ∧ bits (opImm o) 19 16 = 15) ∧
    (∃ (s : State) (p : _) (k : _) (o : _) (b : _) (k' : _) (l : _) (lo : _) (hi : _) (a : _) (n : _) (f : _), OpDue s p 0x29 k o ∧
      HasNext k ∧ fieldBase k (opSpace o) (opOff o) (opWidth o) = some b ∧
      fieldPut k (opSpace o) (opOff o) (opWidth o) (gReg k (opA o)).toNat = some k' ∧ bits (opImm o) 3 0 ≠ 15 ∧ bits (opImm o) 19 16 = 15 ∧
      slotFor k (bits (opImm o) 3 0) (bits (opImm o) 12 4 + 2) = some l ∧ lo = b + opOff o / 8 ∧ hi = b + (opOff o + opWidth o + 7) / 8 ∧
      a = lo - (if lo % 2 = l.offset % 2 then 0 else 1) ∧ n = hi - a + (if (hi - a) % 2 = 0 then 0 else 1) ∧
      f = putBe k'.frame (l.offset + bits (opImm o) 12 4) 2 (csumUpdateAll (be k.frame (l.offset + bits (opImm o) 12 4) 2) (slice k.frame a n) (slice k'.frame a n))) ∧
    (∃ (s : State) (p : _) (k : _) (o : _) (b : _) (k' : _) (l : _) (lo : _) (hi : _) (a : _) (n : _) (f : _), OpDue s p 0x29 k o ∧
      HasNext k ∧ fieldBase k (opSpace o) (opOff o) (opWidth o) = some b ∧
      fieldPut k (opSpace o) (opOff o) (opWidth o) (gReg k (opA o)).toNat = some k' ∧ bits (opImm o) 3 0 = 15 ∧ bits (opImm o) 19 16 ≠ 15 ∧
      slotFor k (bits (opImm o) 19 16) (bits (opImm o) 28 20 + 2) = some l ∧ lo = b + opOff o / 8 ∧ hi = b + (opOff o + opWidth o + 7) / 8 ∧
      a = lo - (if lo % 2 = l.offset % 2 then 0 else 1) ∧ n = hi - a + (if (hi - a) % 2 = 0 then 0 else 1) ∧
      f = putBe k'.frame (l.offset + bits (opImm o) 28 20) 2 (if bitAt (opImm o) 29 then udpCsumUpdateAll (be k.frame (l.offset + bits (opImm o) 28 20) 2) (slice k.frame a n) (slice k'.frame a n) else csumUpdateAll (be k.frame (l.offset + bits (opImm o) 28 20) 2) (slice k.frame a n) (slice k'.frame a n))) ∧
    (∃ (s : State) (p : _) (k : _) (o : _) (l : _), OpDue s p 0x28 k o ∧ HasNext k ∧ bitAt (opImm o) 3 = true ∧
      slotFor k (bits (opImm o) 2 0) 8 = some l ∧ 1 < byteAt k.frame (l.offset + 7)) ∧
    (∃ (s : State) (p : _) (k : _) (o : _) (l : _) (f : _) (g : _), OpDue s p 0x28 k o ∧ HasNext k ∧ bitAt (opImm o) 3 = false ∧
      slotFor k (bits (opImm o) 2 0) 12 = some l ∧ 1 < byteAt k.frame (l.offset + 8) ∧
      f = putBe k.frame (l.offset + 8) 1 (byteAt k.frame (l.offset + 8) - 1) ∧
      g = putBe f (l.offset + 10) 2 (csumUpdate (be k.frame (l.offset + 10) 2) (be k.frame (l.offset + 8) 2) (be f (l.offset + 8) 2))) ∧
    (∃ (s : State) (p : _) (k : _) (o : _) (l : _), OpDue s p 0x28 k o ∧ k.hdr.pipeline < 4 ∧
      (freeEntry s (exceptionCluster k) k.hdr.slice).isSome = true ∧
      slotFor k (bits (opImm o) 2 0) (if bitAt (opImm o) 3 then 8 else 12) = some l ∧
      byteAt k.frame (l.offset + (if bitAt (opImm o) 3 then 7 else 8)) ≤ 1) ∧
    (∃ (x : _) (s : State) (p : _) (k : _) (o : _) (l : _),
      (x ∈ ([ (.vlanPush, 0x2A, fun o => bits (opImm o) 18 16, 12, fun k o a => .vlanPush a (bits (opImm o) 15 0) (bits (gReg k (opA o)).toNat 15 0)), (.vlanPop, 0x2B, fun o => bits (opImm o) 18 16, 14, fun _ _ a => .vlanPop a), (.decap, 0x2D, fun o => bits (opImm o) 2 0, 0, fun _ _ a => .decap a)] : List ((Nat → Instr) × Nat × (Bytes → Nat) × Nat × (Pkt → Bytes → Nat → Edit)))) ∧ OpDue s p x.2.1 k o ∧ HasNext k ∧ slotFor k (x.2.2.1 o) x.2.2.2.1 = some l) ∧
    (∃ (x : _) (s : State) (p : _) (k : _) (o : _),
      (x ∈ ([ (.vlanPush, 0x2A, fun o => bits (opImm o) 18 16, 12, fun k o a => .vlanPush a (bits (opImm o) 15 0) (bits (gReg k (opA o)).toNat 15 0)), (.vlanPop, 0x2B, fun o => bits (opImm o) 18 16, 14, fun _ _ a => .vlanPop a), (.decap, 0x2D, fun o => bits (opImm o) 2 0, 0, fun _ _ a => .decap a)] : List ((Nat → Instr) × Nat × (Bytes → Nat) × Nat × (Pkt → Bytes → Nat → Edit)))) ∧ OpDue s p x.2.1 k o ∧ HasNext k ∧ slotFor k (x.2.2.1 o) x.2.2.2.1 = none ∧ k.hdr.pipeline < 4) ∧
    (∃ (x : _) (s : State) (p : _) (k : _) (o : _),
      (x ∈ ([ (.encap, 0x2C, fun k o => { k with pass := { k.pass with edits := k.pass.edits ++ [.encap (bits (opV k o) 15 0)] } }), (.setTc, 0x30, fun k o => { k with pass := { k.pass with tc := some (bits (opV k o) 2 0) } }), (.mark, 0x31, fun k o => { k with hdr := { k.hdr with userFlags := k.hdr.userFlags ||| BitVec.ofNat 16 (opImm o) } }), (.setClass, 0x32, fun k o => { k with hdr := { k.hdr with cls := bits (opImm o) 3 0 } }), (.setSa, 0x33, fun k o => { k with pass := { k.pass with sa := some (bits (opV k o) 19 0, bitAt (opV k o) 20) } })] : List ((Nat → Instr) × Nat × (Pkt → Bytes → Pkt)))) ∧ OpDue s p x.2.1 k o ∧ HasNext k) ∧
    (∃ (s : State) (p : _) (k : _) (o : _), OpDue s p 0x34 k o ∧ HasNext k ∧ ownsSideEffects s k = true) ∧
    (∃ (s : State) (p : _) (k : _) (o : _), OpDue s p 0x34 k o ∧ HasNext k ∧ ownsSideEffects s k = false) ∧
    (∃ (s : State) (p : _) (k : _) (o : _), OpDue s p 0x35 k o ∧ HasNext k ∧ k.pass.mirrored < 2) ∧
    (∃ (s : State) (p : _) (k : _) (o : _), OpDue s p 0x35 k o ∧ HasNext k ∧ 2 ≤ k.pass.mirrored ∧ k.hdr.pipeline < 4) :=
  ⟨⟨opUp (opPkt 2 stfOp), 5, opPkt 2 stfOp, stfOp, written stfOp, by simp only [OpDue, HasNext]; decide +kernel⟩,
    ⟨opUp (opPkt 2 (opW 0x03 7 0 0 1 64 8 0)), 5, opPkt 2 (opW 0x03 7 0 0 1 64 8 0), opW 0x03 7 0 0 1 64 8 0,
      by simp only [OpDue, HasNext]; decide +kernel⟩,
    ⟨opUp (opPkt 2 (cstf 0xF000F)), 5, opPkt 2 (cstf 0xF000F), cstf 0xF000F, 14, written (cstf 0xF000F),
      by simp only [OpDue, HasNext]; decide +kernel⟩,
    ⟨opUp (opPkt 2 (cstf 0xF00A0)), 5, opPkt 2 (cstf 0xF00A0), cstf 0xF00A0, 14, written (cstf 0xF00A0), l0, 22, 23, 22, 2,
      putBe (written (cstf 0xF00A0)).frame 24 2 (csumUpdateAll (be (opPkt 2 (cstf 0xF00A0)).frame 24 2) (slice (opPkt 2 (cstf 0xF00A0)).frame 22 2) (slice (written (cstf 0xF00A0)).frame 22 2)), by simp only [OpDue, HasNext]; decide +kernel⟩,
    ⟨opUp (opPkt 2 (cstf 0x20A0000F)), 5, opPkt 2 (cstf 0x20A0000F), cstf 0x20A0000F, 14, written (cstf 0x20A0000F), l0, 22, 23, 22, 2,
      putBe (written (cstf 0x20A0000F)).frame 24 2 (udpCsumUpdateAll (be (opPkt 2 (cstf 0x20A0000F)).frame 24 2) (slice (opPkt 2 (cstf 0x20A0000F)).frame 22 2) (slice (written (cstf 0x20A0000F)).frame 22 2)), by simp only [OpDue, HasNext]; decide +kernel⟩,
    ⟨opUp (opPkt 2 (opW 0x28 0 0 0 0 0 0 8)), 5, opPkt 2 (opW 0x28 0 0 0 0 0 0 8), opW 0x28 0 0 0 0 0 0 8, l0,
      by simp only [OpDue, HasNext]; decide +kernel⟩,
    ⟨opUp (opPkt 2 (opW 0x28 0 0 0 0 0 0 0)), 5, opPkt 2 (opW 0x28 0 0 0 0 0 0 0), opW 0x28 0 0 0 0 0 0 0, l0,
      putBe (List.replicate 64 9) 22 1 8, putBe (putBe (List.replicate 64 9) 22 1 8) 24 2 (csumUpdate 0x0909 0x0909 0x0809),
      by simp only [OpDue, HasNext]; decide +kernel⟩,
    ⟨opUp { opPkt 2 (opW 0x28 0 0 0 0 0 0 0) with frame := List.replicate 64 1 }, 5,
      { opPkt 2 (opW 0x28 0 0 0 0 0 0 0) with frame := List.replicate 64 1 }, opW 0x28 0 0 0 0 0 0 0, l0,
      by simp only [OpDue, HasNext]; decide +kernel⟩,
    ⟨_, opUp (opPkt 2 (opW 0x2A 2 0 0 0 0 0 0x8100)), 5, opPkt 2 (opW 0x2A 2 0 0 0 0 0 0x8100), opW 0x2A 2 0 0 0 0 0 0x8100, l0,
      ⟨List.mem_cons_self, by simp only [OpDue, HasNext]; decide +kernel⟩⟩,
    ⟨_, opUp (opPkt 2 (opW 0x2A 2 0 0 0 0 0 0x78101)), 5, opPkt 2 (opW 0x2A 2 0 0 0 0 0 0x78101), opW 0x2A 2 0 0 0 0 0 0x78101,
      ⟨List.mem_cons_self, by simp only [OpDue, HasNext]; decide +kernel⟩⟩,
    ⟨_, opUp (opPkt 2 (opW 0x2C 2 0 0 0 0 0 0x8000000000000000)), 5, opPkt 2 (opW 0x2C 2 0 0 0 0 0 0x8000000000000000),
      opW 0x2C 2 0 0 0 0 0 0x8000000000000000, ⟨List.mem_cons_self, by simp only [OpDue, HasNext]; decide +kernel⟩⟩,
    ⟨opUp (opPkt 2 (opW 0x34 2 0 0 0 0 0 0x3FFFFF)), 5, opPkt 2 (opW 0x34 2 0 0 0 0 0 0x3FFFFF), opW 0x34 2 0 0 0 0 0 0x3FFFFF,
      by simp only [OpDue, HasNext]; decide +kernel⟩,
    ⟨opUp (twinPkt (opPkt 2 (opW 0x34 2 0 0 0 0 0 0))), 5, twinPkt (opPkt 2 (opW 0x34 2 0 0 0 0 0 0)), opW 0x34 2 0 0 0 0 0 0,
      by simp only [OpDue, HasNext]; decide +kernel⟩,
    ⟨opUp (opPkt 2 (opW 0x35 2 0 0 0 0 0 3)), 5, opPkt 2 (opW 0x35 2 0 0 0 0 0 3), opW 0x35 2 0 0 0 0 0 3,
      by simp only [OpDue, HasNext]; decide +kernel⟩,
    ⟨opUp { opPkt 2 (opW 0x35 2 0 0 0 0 0 3) with pass := { (opPkt 2 (opW 0x35 2 0 0 0 0 0 3)).pass with mirrored := 2 } }, 5,
      { opPkt 2 (opW 0x35 2 0 0 0 0 0 3) with pass := { (opPkt 2 (opW 0x35 2 0 0 0 0 0 3)).pass with mirrored := 2 } },
      opW 0x35 2 0 0 0 0 0 3, by simp only [OpDue, HasNext]; decide +kernel⟩⟩

theorem witness_TableOperationsLookUpAndAskScribe :
    (∃ (s : State) (p : _) (k : _) (o : _) (pair : Option PairKey) (st : Dword) (e : _) (h : Option LastHit), OpDue s p 0x20 k o ∧
      HasNext k ∧ k.pass.lookups < 8 ∧
      pair = (if k.hdr.twin then some (PairKey.mk k.stream k.hdr.twinSeq k.hdr.pass k.pass.lookups) else none) ∧
      (lookup s pair (regKey k (bits (opImm o) 1 0) (opB o)) (bitAt (opImm o) 2)).2 = .got st e h) ∧
    (∃ (s : State) (p : _) (k : _) (o : _) (pair : Option PairKey), OpDue s p 0x20 k o ∧ HasNext k ∧ k.pass.lookups < 8 ∧
      pair = (if k.hdr.twin then some (PairKey.mk k.stream k.hdr.twinSeq k.hdr.pass k.pass.lookups) else none) ∧
      (lookup s pair (regKey k (bits (opImm o) 1 0) (opB o)) (bitAt (opImm o) 2)).2 = .waits) ∧
    (∃ (s : State) (p : _) (k : _) (o : _), OpDue s p 0x20 k o ∧ 8 ≤ k.pass.lookups ∧ k.hdr.pipeline < 4 ∧
      (freeEntry s (exceptionCluster k) k.hdr.slice).isSome = true) ∧
    (∃ (s : State) (p : _) (k : _) (o : _) (h : LastHit) (l : Loc), OpDue s p 0x21 k o ∧ HasNext k ∧ k.pass.lastHit = some h ∧
      typeHolds (byteAt h.key 0) (opOff o) = true ∧ ownsSideEffects s k = true ∧ resolveLoc s h.key h.loc h.epoch = some l ∧
      entStatic (wayGet s l) = false) ∧
    (∃ (s : State) (p : _) (k : _) (o : _), OpDue s p 0x21 k o ∧ HasNext k ∧ k.pass.lastHit = none) ∧
    (∃ (x : _) (s : State) (p : _) (k : _) (o : _),
      (x ∈ ([ (.learn, 0x22, fun k o => .learn (regKey k 1 (opB o)) ((gReg k (opA o)).setWidth 32) k.stamp k.hdr.source (bits (opImm o) 2 0) k.hdr.slice false), (.insert, 0x23, fun k o => .insert (regKey k 0 (opB o)) (flowEntry k o (gReg k (opC o)).toNat (gReg k (opC o + 1)).toNat) (bitAt (opImm o) 3) none)] : List ((Nat → Instr) × Nat × (Pkt → Bytes → ScribeReq)))) ∧ OpDue s p x.2.1 k o ∧ HasNext k ∧ (x.2.1 = 0x23 → opC o ≠ 15) ∧ ownsSideEffects s k = true ∧ s.cst.queue.length < 4096) ∧
    (∃ (x : _) (s : State) (p : _) (k : _) (o : _),
      (x ∈ ([ (.learn, 0x22, fun k o => .learn (regKey k 1 (opB o)) ((gReg k (opA o)).setWidth 32) k.stamp k.hdr.source (bits (opImm o) 2 0) k.hdr.slice false), (.insert, 0x23, fun k o => .insert (regKey k 0 (opB o)) (flowEntry k o (gReg k (opC o)).toNat (gReg k (opC o + 1)).toNat) (bitAt (opImm o) 3) none)] : List ((Nat → Instr) × Nat × (Pkt → Bytes → ScribeReq)))) ∧ OpDue s p x.2.1 k o ∧ HasNext k ∧ (x.2.1 = 0x23 → opC o ≠ 15) ∧ ownsSideEffects s k = false) ∧
    (∃ (s : State) (p : _) (k : _) (o : _) (h : LastHit), OpDue s p 0x24 k o ∧ HasNext k ∧ k.pass.lastHit = some h ∧
      ownsSideEffects s k = true ∧ s.cst.queue.length < 4096) ∧
    (∃ (s : State) (p : _) (k : _) (o : _), OpDue s p 0x24 k o ∧ HasNext k ∧ k.pass.lastHit = none) :=
  ⟨⟨opUp (opPkt 2 (opW 0x20 2 0 0 0 0 0 0)), 5, opPkt 2 (opW 0x20 2 0 0 0 0 0 0), opW 0x20 2 0 0 0 0 0 0, (none : Option PairKey),
    (0 : Dword), zeros 64, (none : Option LastHit), by simp only [OpDue, HasNext]; decide +kernel⟩,
    ⟨{ opUp (twinPkt (opPkt 2 (opW 0x20 2 0 0 0 0 0 0))) with cst := { pairing := List.replicate 32768 (⟨9, 0, 0, 0⟩, .mark) } }, 5,
      twinPkt (opPkt 2 (opW 0x20 2 0 0 0 0 0 0)), opW 0x20 2 0 0 0 0 0 0, (some ⟨0, 0, 0, 0⟩ : Option PairKey),
      by simp only [OpDue, HasNext]; decide +kernel⟩,
    ⟨opUp { opPkt 2 (opW 0x20 2 0 0 0 0 0 0) with pass := { (opPkt 2 (opW 0x20 2 0 0 0 0 0 0)).pass with lookups := 8 } }, 5,
      { opPkt 2 (opW 0x20 2 0 0 0 0 0 0) with pass := { (opPkt 2 (opW 0x20 2 0 0 0 0 0 0)).pass with lookups := 8 } },
      opW 0x20 2 0 0 0 0 0 0, by simp only [OpDue, HasNext]; decide +kernel⟩,
    ⟨ways0 (opUp (hitPkt (opW 0x21 7 0 0 0 448 8 0))), 5, hitPkt (opW 0x21 7 0 0 0 448 8 0), opW 0x21 7 0 0 0 448 8 0,
      ({ loc := { stash := false, idx := 0 }, epoch := 0, key := zeros 41 } : LastHit), (⟨false, 4 * (buckets (zeros 41)).1⟩ : Loc),
      by simp only [OpDue, HasNext]; decide +kernel⟩,
    ⟨opUp (opPkt 2 (opW 0x21 7 0 0 0 448 8 0)), 5, opPkt 2 (opW 0x21 7 0 0 0 448 8 0), opW 0x21 7 0 0 0 448 8 0,
      by simp only [OpDue, HasNext]; decide +kernel⟩,
    ⟨_, opUp (opPkt 2 (opW 0x22 7 0 3 0 0 0 9)), 5, opPkt 2 (opW 0x22 7 0 3 0 0 0 9), opW 0x22 7 0 3 0 0 0 9, ⟨List.mem_cons_self,
      by simp only [OpDue, HasNext]; decide +kernel⟩⟩,
    ⟨_, opUp (twinPkt (opPkt 2 (opW 0x22 7 0 3 0 0 0 9))), 5, twinPkt (opPkt 2 (opW 0x22 7 0 3 0 0 0 9)), opW 0x22 7 0 3 0 0 0 9,
      ⟨List.mem_cons_self, by simp only [OpDue, HasNext]; decide +kernel⟩⟩,
    ⟨opUp (hitPkt (opW 0x24 0 0 0 0 0 0 0)), 5, hitPkt (opW 0x24 0 0 0 0 0 0 0), opW 0x24 0 0 0 0 0 0 0,
      ({ loc := { stash := false, idx := 0 }, epoch := 0, key := zeros 41 } : LastHit), by simp only [OpDue, HasNext]; decide +kernel⟩,
    ⟨opUp (opPkt 2 (opW 0x24 7 0 0 0 0 0 0)), 5, opPkt 2 (opW 0x24 7 0 0 0 0 0 0), opW 0x24 7 0 0 0 0 0 0,
      by simp only [OpDue, HasNext]; decide +kernel⟩⟩

theorem witness_VerdictsEndThePassAndRecordsAreSwitched :
    (∃ (x : _) (s : State) (p : _) (k : _) (o : _),
      (x ∈ ([(.fwdPort, 0x38, fun v => .fwdPort (bits v 3 0)), (.flood, 0x3A, fun v => .flood (bits v 15 0))] : List ((Nat → Instr) × Nat × (Nat → Verdict)))) ∧ OpDue s p x.2.1 k o ∧ k.pass.edits = [] ∧ k.pass.sa = none ∧ k.tx = []) ∧
    (∃ (s : State) (p : _) (k : _) (o : _) (n : _) (q : _), OpDue s p 0x39 k o ∧ hostTarget s k (opV k o) = some (n, q) ∧
      k.pass.edits = [] ∧ k.pass.sa = none ∧ k.tx = []) ∧
    (∃ (s : State) (p : _) (k : _) (o : _), OpDue s p 0x39 k o ∧ hostTarget s k (opV k o) = none ∧ k.mirrors = []) ∧
    (∃ (s : State) (p : _) (k : _) (o : _), OpDue s p 0x3B k o ∧ k.mirrors = []) ∧
    (∃ (s : State) (p : _) (k : _) (o : _) (q : _), OpDue s p 0x3C k o ∧ k.pass.edits = [] ∧ k.pass.sa = none ∧
      q = 4 * railOf k.hdr.pipeline + bits (opV k o) 1 0 ∧ (freeEntry s q k.hdr.slice).isSome = true) ∧
    (∃ (s : State) (p : _) (k : _) (o : _), OpDue s p 0x3D k o ∧ k.pass.edits = [] ∧ k.pass.sa = none ∧ k.hdr.pass < 3) ∧
    (∃ (s : State) (p : _) (k : _) (o : _), OpDue s p 0x3D k o ∧ 3 ≤ k.hdr.pass ∧ k.hdr.pipeline < 4 ∧
      (freeEntry s (exceptionCluster k) k.hdr.slice).isSome = true) ∧
    Witnessed 0x0510 (fun _ _ req => le req 0 4 ≤ 0xFFFFF ∧ le req 4 4 = 0 ∧ recordFault (slice req 8 240) = none) ∧
    (∃ (s : State) (ch : _) (seq : _) (req : _) (i : _), Begun s ch seq 0x0510 req ∧ le req 0 4 ≤ 0xFFFFF ∧ le req 4 4 = 0 ∧
      recordFault (slice req 8 240) = some i) ∧
    (∃ (s : State) (w : RecWrite), s.act.pendingWrites = [w]) ∧
    Witnessed 0x0511 (fun _ _ req => le req 0 4 < 0x100000) :=
  ⟨⟨_, opUp (opPkt 1 (opW 0x38 0 0 0 0 0 0 15)), 5, opPkt 1 (opW 0x38 0 0 0 0 0 0 15), opW 0x38 0 0 0 0 0 0 15, ⟨List.mem_cons_self,
    by simp only [OpDue, HasNext]; decide +kernel⟩⟩,
    ⟨sliceUp (opUp (opPkt 1 (opW 0x39 0 0 0 0 0 0 0x2007))), 5, opPkt 1 (opW 0x39 0 0 0 0 0 0 0x2007), opW 0x39 0 0 0 0 0 0 0x2007, 1, 7,
      by simp only [OpDue, HasNext]; decide +kernel⟩,
    ⟨opUp (opPkt 1 (opW 0x39 0 0 0 0 0 0 0x2007)), 5, opPkt 1 (opW 0x39 0 0 0 0 0 0 0x2007), opW 0x39 0 0 0 0 0 0 0x2007,
      by simp only [OpDue, HasNext]; decide +kernel⟩,
    ⟨opUp (opPkt 1 (opW 0x3B 0 0 0 0 0 0 0)), 5, opPkt 1 (opW 0x3B 0 0 0 0 0 0 0), opW 0x3B 0 0 0 0 0 0 0,
      by simp only [OpDue, HasNext]; decide +kernel⟩,
    ⟨opUp (opPkt 1 (opW 0x3C 0 0 0 0 0 0 0xFF03)), 5, opPkt 1 (opW 0x3C 0 0 0 0 0 0 0xFF03), opW 0x3C 0 0 0 0 0 0 0xFF03, 7,
      by simp only [OpDue, HasNext]; decide +kernel⟩,
    ⟨opUp { opPkt 1 (opW 0x3D 0 0 0 0 0 0 0) with hdr := { pipeline := 3, pass := 2 } }, 5,
      { opPkt 1 (opW 0x3D 0 0 0 0 0 0 0) with hdr := { pipeline := 3, pass := 2 } }, opW 0x3D 0 0 0 0 0 0 0,
      by simp only [OpDue, HasNext]; decide +kernel⟩,
    ⟨opUp { opPkt 1 (opW 0x3D 0 0 0 0 0 0 0) with hdr := { pipeline := 3, pass := 3 } }, 5,
      { opPkt 1 (opW 0x3D 0 0 0 0 0 0 0) with hdr := { pipeline := 3, pass := 3 } }, opW 0x3D 0 0 0 0 0 0 0,
      by simp only [OpDue, HasNext]; decide +kernel⟩,
    witnessed (up) 0 (toLe 8 0xFFFFF ++ recW 1 (opW 0x1E 0 0 0 0 0 0 0)) (by decide +kernel) (by decide +kernel),
    ⟨begun up 0 0x0510 (zeros 8 ++ recW 15 (opW 0x1E 0 0 0 0 0 0 0)), 0, 1, zeros 8 ++ recW 15 (opW 0x1E 0 0 0 0 0 0 0), 0xFF,
      ⟨begun_begun _ _ _ _ (by decide +kernel), by decide +kernel⟩⟩,
    ⟨{ up with act := { pendingWrites := [⟨0, 1, 5, recW 1 []⟩] } }, (⟨0, 1, 5, recW 1 []⟩ : RecWrite), by decide +kernel⟩,
    witnessed (up) 0 (rq [(0, 4, 0xFFFFF)]) (by decide +kernel) (by decide +kernel)⟩

end Action

/-! Witnesses: cistern. -/

namespace Cistern

def fkey : Bytes := zeros 41

def lkey : Bytes := 1 :: zeros 8

def cstUp (c : Cistern) : State := sliceUp { up with cst := c }

def loc0 (key : Bytes) : Loc := { stash := false, idx := 4 * (buckets key).1 }

/-- Entry `e` of a key in the first way of its first bucket, and a request that Scribe has taken. -/
def held (key e : Bytes) (r : ScribeReq) : State := cstUp { ways := [((loc0 key).idx, e)], taken := some r }

def fe : Bytes := entryFor fkey 1024

def le1 (flags : Nat) : Bytes := entryFor lkey (1024 + flags)

def lreq (dest : Word) (ts : Dword) : ScribeReq := .learn lkey dest ts 3 0 1 false

def twoKey : PairKey := { stream := 1, seq := 2, pass := 3, ordinal := 7 }

theorem witness_ScribeAppliesRequestsToEntries :
    (∃ (s : State) (r : _) (rest : List ScribeReq), s.cst.taken = none ∧ s.cst.queue = r :: rest) ∧
    (∃ (s : State) (key : _) (entry : _) (rep : _) (cmd : Option (Nat × Nat)) (e : _) (l : _),
      s.cst.taken = some (.insert key entry rep cmd) ∧ e = freshAging s entry ∧ findKey s key = none ∧ quotaOk s (entSlice e) = true ∧
      freeWay s (buckets (entKey e)).1 = some l) ∧
    (∃ (s : State) (key : _) (entry : _) (rep : _) (cmd : Option (Nat × Nat)) (e : _), s.cst.taken = some (.insert key entry rep cmd) ∧
      e = freshAging s entry ∧ findKey s key = none ∧ quotaOk s (entSlice e) = false) ∧
    (∃ (s : State) (key : _) (entry : _) (rep : _) (cmd : Option (Nat × Nat)) (e : _) (l : _),
      s.cst.taken = some (.insert key entry rep cmd) ∧ e = freshAging s entry ∧ findKey s key = some l ∧ rep = false) ∧
    (∃ (s : State) (key : _) (entry : _) (rep : _) (cmd : Option (Nat × Nat)) (e : _) (l : _),
      s.cst.taken = some (.insert key entry rep cmd) ∧ e = freshAging s entry ∧ findKey s key = some l ∧ rep = true ∧
      (entStatic (wayGet s l) = false ∨ cmd.isSome = true)) ∧
    (∃ (s : State) (key : _) (dest : Word) (ts : Dword) (src : _) (prof : _) (n : _) (fp : _) (l : _) (e : _),
      s.cst.taken = some (.learn key dest ts src prof n fp) ∧ (isStandby s = false ∨ fp = true) ∧ findKey s key = some l ∧ e = wayGet s l ∧
      entStatic e = false ∧ (later 64 ts.toNat (le e 32 8) = true ∨ ts.toNat = le e 32 8 ∧ src < bits (le e 40 4) 4 0) ∧
      le e 12 4 = dest.toNat) ∧
    (∃ (s : State) (key : _) (dest : Word) (ts : Dword) (src : _) (prof : _) (n : _) (fp : _) (l : _) (e : _),
      s.cst.taken = some (.learn key dest ts src prof n fp) ∧ (isStandby s = false ∨ fp = true) ∧ findKey s key = some l ∧ e = wayGet s l ∧
      entStatic e = false ∧ (later 64 ts.toNat (le e 32 8) = true ∨ ts.toNat = le e 32 8 ∧ src < bits (le e 40 4) 4 0) ∧
      BitVec.ofNat 32 (le e 12 4) ≠ dest ∧ entLocked e = true) ∧
    (∃ (s : State) (key : _) (dest : Word) (ts : Dword) (src : _) (prof : _) (n : _) (fp : _) (l : _) (e : _),
      s.cst.taken = some (.learn key dest ts src prof n fp) ∧ (isStandby s = false ∨ fp = true) ∧ findKey s key = some l ∧ e = wayGet s l ∧
      entStatic e = false ∧ (later 64 ts.toNat (le e 32 8) = true ∨ ts.toNat = le e 32 8 ∧ src < bits (le e 40 4) 4 0) ∧
      BitVec.ofNat 32 (le e 12 4) ≠ dest ∧ entLocked e = false ∧ distance 64 ts.toNat (le e 24 8) < hwUse s 0x04A * 256000000 ∧
      bits (le e 40 4) 9 5 + 1 ≤ hwUse s 0x049) ∧
    (∃ (s : State) (key : _) (dest : Word) (ts : Dword) (src : _) (prof : _) (n : _) (fp : _) (l : _) (e : _),
      s.cst.taken = some (.learn key dest ts src prof n fp) ∧ (isStandby s = false ∨ fp = true) ∧ findKey s key = some l ∧ e = wayGet s l ∧
      entStatic e = false ∧ (later 64 ts.toNat (le e 32 8) = true ∨ ts.toNat = le e 32 8 ∧ src < bits (le e 40 4) 4 0) ∧
      BitVec.ofNat 32 (le e 12 4) ≠ dest ∧ entLocked e = false ∧ distance 64 ts.toNat (le e 24 8) < hwUse s 0x04A * 256000000 ∧
      hwUse s 0x049 < bits (le e 40 4) 9 5 + 1) ∧
    (∃ (s : State) (key : _) (dest : Word) (ts : Dword) (src : _) (prof : _) (n : _) (fp : _) (l : _) (e : _),
      s.cst.taken = some (.learn key dest ts src prof n fp) ∧ (isStandby s = false ∨ fp = true) ∧ findKey s key = some l ∧ e = wayGet s l ∧
      entStatic e = false ∧ later 64 ts.toNat (le e 32 8) = false ∧ ts.toNat ≠ le e 32 8) ∧
    (∃ (s : State) (key : _) (dest : Word) (ts : Dword) (src : _) (prof : _) (n : _),
      s.cst.taken = some (.learn key dest ts src prof n false) ∧ isStandby s = true) ∧
    (∃ (s : State) (key : _) (st : _) (cmd : Option (Nat × Nat)), s.cst.taken = some (.delete key none st cmd) ∧ findKey s key = none) ∧
    (∃ (s : State) (key : _) (st : _) (cmd : Option (Nat × Nat)) (l : _), s.cst.taken = some (.delete key none st cmd) ∧
      findKey s key = some l ∧ (entStatic (wayGet s l) = false ∨ st = true)) ∧
    (∃ (s : State) (key : _) (st : _) (cmd : Option (Nat × Nat)) (l : _), s.cst.taken = some (.delete key none st cmd) ∧
      findKey s key = some l ∧ entStatic (wayGet s l) = true ∧ st = false) ∧
    (∃ (s : State) (n : Option Nat) (types : _) (static : _) (ch : _) (seq : _), s.cst.taken = some (.flush n types static (ch, seq))) ∧
    (∃ (s : State) (key : _) (l : _) (epoch : BitVec 16) (off : _) (w : _) (v : Dword) (m : _),
      s.cst.taken = some (.update key l epoch off w v) ∧ resolveLoc s key l epoch = some m ∧ entStatic (wayGet s m) = false) ∧
    (∃ (s : State) (key : _) (l : _) (epoch : BitVec 16) (off : _) (w : _) (v : Dword), s.cst.taken = some (.update key l epoch off w v) ∧
      resolveLoc s key l epoch = none) ∧
    (∃ (s : State) (i : _) (w : _) (rest : List ScribeReq), s.cst.taken = none ∧ s.cst.queue = .promote i w :: rest ∧
      entValid (wayGet s ⟨true, i⟩) = true ∧ entValid (wayGet s ⟨false, w⟩) = false ∧ (w / 4 = (buckets (entKey (wayGet s ⟨true,
      i⟩))).1 ∨ w / 4 = (buckets (entKey (wayGet s ⟨true, i⟩))).2)) :=
  ⟨⟨cstUp { queue := [.insert fkey fe false none] }, ScribeReq.insert fkey fe false none, ([] : List ScribeReq), by decide +kernel⟩,
    ⟨cstUp { taken := some (.insert fkey fe false none) }, fkey, fe, false, (none : Option (Nat × Nat)), freshAging (cstUp {}) fe,
      loc0 fkey, by decide +kernel⟩,
    ⟨cstUp { taken := some (.insert fkey (entryFor fkey 2048) false none) }, fkey, entryFor fkey 2048, false, (none : Option (Nat × Nat)),
      freshAging (cstUp {}) (entryFor fkey 2048), by decide +kernel⟩,
    ⟨held fkey fe (.insert fkey fe false none), fkey, fe, false, (none : Option (Nat × Nat)), freshAging (cstUp {}) fe, loc0 fkey,
      by decide +kernel⟩,
    ⟨held fkey fe (.insert fkey fe true none), fkey, fe, true, (none : Option (Nat × Nat)), freshAging (cstUp {}) fe, loc0 fkey,
      by decide +kernel⟩,
    ⟨held lkey (le1 0) (lreq 0 1), lkey, (0 : Word), (1 : Dword), 3, 0, 1, false, loc0 lkey, le1 0, by decide +kernel⟩,
    ⟨held lkey (le1 16) (lreq 5 1), lkey, (5 : Word), (1 : Dword), 3, 0, 1, false, loc0 lkey, le1 16, by decide +kernel⟩,
    ⟨held lkey (le1 0) (lreq 5 1), lkey, (5 : Word), (1 : Dword), 3, 0, 1, false, loc0 lkey, le1 0, by decide +kernel⟩,
    ⟨held lkey (splice (le1 0) 40 [0xE0, 3]) (lreq 5 1), lkey, (5 : Word), (1 : Dword), 3, 0, 1, false, loc0 lkey,
      splice (le1 0) 40 [0xE0, 3], by decide +kernel⟩,
    ⟨held lkey (splice (le1 0) 32 [2]) (lreq 5 1), lkey, (5 : Word), (1 : Dword), 3, 0, 1, false, loc0 lkey, splice (le1 0) 32 [2],
      by decide +kernel⟩,
    ⟨{ cstUp { taken := some (lreq 5 1) } with itw := { enable := true, linkUp := true } }, lkey, (5 : Word), (1 : Dword), 3, 0, 1,
      by decide +kernel⟩,
    ⟨cstUp { taken := some (.delete fkey none true none) }, fkey, true, (none : Option (Nat × Nat)), by decide +kernel⟩,
    ⟨held fkey fe (.delete fkey none false none), fkey, false, (none : Option (Nat × Nat)), loc0 fkey, by decide +kernel⟩,
    ⟨held fkey (entryFor fkey 1032) (.delete fkey none false none), fkey, false, (none : Option (Nat × Nat)), loc0 fkey, by decide +kernel⟩,
    ⟨held fkey fe (.flush none 15 false (0, 1)), (none : Option Nat), 15, false, 0, 1, by decide +kernel⟩,
    ⟨held fkey fe (.update fkey (loc0 fkey) 0 448 8 7), fkey, loc0 fkey, (0 : BitVec 16), 448, 8, (7 : Dword), loc0 fkey,
      by decide +kernel⟩,
    ⟨cstUp { taken := some (.update fkey (loc0 fkey) 0 448 8 7) }, fkey, loc0 fkey, (0 : BitVec 16), 448, 8, (7 : Dword),
      by decide +kernel⟩,
    ⟨cstUp { stash := [(1023, fe)], queue := [.promote 1023 (loc0 fkey).idx] }, 1023, (loc0 fkey).idx, ([] : List ScribeReq),
      by decide +kernel⟩⟩

theorem witness_CisternCommandsAgingLocksAndErrors :
    (∃ (s : State) (st : _) (seq : Word) (pass : _) (ord : _) (a : Dword) (b : Bytes) (c : Option LastHit), pairFind s ⟨st, seq, pass,
      ord⟩ = some (.held a b c)) ∧
    (∃ (s : State) (st : _) (seq : Word) (pass : _) (ord : _), pairFind s ⟨st, seq, pass, ord⟩ = some .mark) ∧
    (∃ (s : State) (b : _) (w : _) (l : Loc) (e : _) (to_ : _), b < 1048576 ∧ w < 4 ∧ l = ⟨false, b * 4 + w⟩ ∧ e = wayGet s l ∧
      to_ = ageTimeout s (entProf e)) ∧
    (∃ (s : State), s.cst.sweepWhole = true) ∧
    (∃ (s : State), s.cst.hitMode = true ∧ 2 ≤ s.cst.sweeps) ∧
    (∃ (s : State) (st : _) (i : _), hwUse s 0x04B ≠ 0 ∧ entLocked (wayGet s ⟨st, i⟩) = true ∧ entValid (wayGet s ⟨st, i⟩) = true) ∧
    (∃ (s : State) (st : _) (i : _), i < (if st = true then 1024 else 4194304) ∧ entValid (wayGet s ⟨st, i⟩) = true) ∧
    Witnessed 0x0500 (fun s _ req => entValid (putWordBits (slice req 8 64) 6 4 0) = true ∧ s.cst.queue.length < 4096) ∧
    Witnessed 0x0501 (fun s _ req => (keyField req).isSome = true ∧ s.cst.queue.length < 4096) ∧
    (∃ (s : State) (ch : _) (seq : _) (req : _), 4096 ≤ s.cst.queue.length ∧ Begun s ch seq 0x0500 req ∧
      entValid (putWordBits (slice req 8 64) 6 4 0) = true) ∧
    (∃ (s : State) (ch : _) (seq : _) (req : _), 4096 ≤ s.cst.queue.length ∧ Begun s ch seq 0x0501 req ∧ (keyField req).isSome = true) ∧
    (∃ (key : _) (l : _), Witnessed 0x0502 (fun s _ req => keyField req = some key ∧ findKey s key = some l)) ∧
    (∃ (key : _), Witnessed 0x0502 (fun s _ req => keyField req = some key ∧ findKey s key = none)) ∧
    (∃ (key : _) (l : _), Witnessed 0x0503 (fun s _ req => keyField req = some key ∧ byteAt req 0 = 1 ∧ findKey s key = some l ∧
      entLocked (wayGet s l) = true)) ∧
    Witnessed 0x0504 (fun _ _ req => le req 0 2 = 0xFFFF ∨ le req 0 2 = 0xFFF ∨ le req 0 2 ≤ 2049) ∧
    Witnessed 0x0506 (fun _ _ req => byteAt req 2 ≤ 32) :=
  ⟨⟨cstUp { pairing := [(twoKey, .held 0 [] none)] }, 1, (2 : Word), 3, 7, (0 : Dword), ([] : Bytes), (none : Option LastHit),
    by decide +kernel⟩,
    ⟨cstUp { pairing := [(twoKey, .mark)] }, 1, (2 : Word), 3, 7, by decide +kernel⟩,
    ⟨cstUp { ways := [(4194303, entryFor fkey 1024)] }, 1048575, 3, (⟨false, 4194303⟩ : Loc), entryFor fkey 1024, ageTimeout up 0,
      by decide +kernel⟩,
    ⟨up, by decide +kernel⟩,
    ⟨cstUp { hitMode := true, sweeps := 2 }, by decide +kernel⟩,
    ⟨{ held fkey (entryFor fkey 1040) (.delete fkey none true none) with hw := { words := [(0x04B, 10)] } }, false, (loc0 fkey).idx,
      by decide +kernel⟩,
    ⟨cstUp { stash := [(1023, fe)] }, true, 1023, by decide +kernel⟩,
    witnessed (up) 0 (zeros 8 ++ fe) (by decide +kernel) (by decide +kernel),
    witnessed (up) 0 (rq []) (by decide +kernel) (by decide +kernel),
    ⟨begun (cstUp { queue := List.replicate 4096 (.promote 0 0) }) 0 0x0500 (zeros 8 ++ fe), 0, 1, zeros 8 ++ fe, ⟨by decide +kernel,
      begun_begun _ _ _ _ (by decide +kernel), by decide +kernel⟩⟩,
    ⟨begun (cstUp { queue := List.replicate 4096 (.promote 0 0) }) 0 0x0501 (rq []), 0, 1, rq [], ⟨by decide +kernel,
      begun_begun _ _ _ _ (by decide +kernel), by decide +kernel⟩⟩,
    ⟨fkey, loc0 fkey, witnessed (held fkey fe (.promote 0 0)) 0 (rq []) (by decide +kernel) (by decide +kernel)⟩,
    ⟨fkey, witnessed (up) 0 (rq []) (by decide +kernel) (by decide +kernel)⟩,
    ⟨lkey, loc0 lkey, witnessed (held lkey (le1 16) (.promote 0 0)) 0 (rq [(0, 1, 1)]) (by decide +kernel) (by decide +kernel)⟩,
    witnessed (up) 0 (rq [(0, 2, 2049)]) (by decide +kernel) (by decide +kernel),
    witnessed (up) 0 (rq [(0, 2, 65535), (2, 1, 32)]) (by decide +kernel) (by decide +kernel)⟩

theorem witness_AuditsDigestAndCompareRegions :
    Witnessed 0x0518 (fun _ _ req => 1 ≤ le req 2 2 ∧ le req 2 2 ≤ 30 ∧ le req 0 2 + le req 2 2 ≤ 1024) ∧
    Witnessed 0x0519 (fun s _ _ => s.sqr.walk = none) ∧
    (∃ (s : State) (ch : _) (seq : _) (req : _), Begun s ch seq 0x0519 req ∧ s.sqr.walk.isSome = true) ∧
    (∃ (s : State) (a : Audit), s.sqr.walk = some a) ∧
    Witnessed 0x051A (fun _ _ req => 1 ≤ le req 2 2 ∧ le req 2 2 ≤ 30 ∧ le req 0 2 + le req 2 2 ≤ 1024) :=
  ⟨witnessed (up) 0 (rq [(0, 2, 994), (2, 2, 30)]) (by decide +kernel) (by decide +kernel),
    witnessed (up) 0 (rq [(0, 1, 1)]) (by decide +kernel) (by decide +kernel),
    ⟨begun { up with sqr := { walk := some ⟨0, false, true, 0, 1⟩ } } 0 0x0519 (rq []), 0, 1, rq [],
      ⟨begun_begun _ _ _ _ (by decide +kernel), by decide +kernel⟩⟩,
    ⟨{ up with sqr := { walk := some ⟨0, false, true, 0, 1⟩ } }, (⟨0, false, true, 0, 1⟩ : Audit), by decide +kernel⟩,
    witnessed (up) 0 (rq [(0, 2, 1023), (2, 2, 1)]) (by decide +kernel) (by decide +kernel)⟩

end Cistern

/-! Witnesses: cascade. -/

namespace Cascade

/-- SERVICE with thread 63 of cluster 7 as given and its supervisor running. -/
def thUp (x : Thread) (c : Cluster) : State := sliceUp (clusterSet up 7 { c with threads := [(63, x)], supRun := true })

def run (x : Thread) : Thread := { x with state := .ready, slice := 1 }

def chan (c : Channel) : Cluster := { channels := [(3, c)] }

def item (st : ItemState) : WorkItem := ⟨st, 5, 1, false, .toEngine, 0, 0, false, 0, zeros 1024⟩

def dev (ch : Nat) (ws : List Dword) : DevMsg := ⟨7, 63, 1, ch, ws, [], []⟩

def devUp (m : DevMsg) (pass : Nat) : State :=
  let s := thUp (run { frame0 := some 9 }) { channels := [(3, { depth := 4 })], work := [(9, item .active)] }
  pktSet { s with csc := { s.csc with devq := [m] } } 5 { hdr := { pipeline := 3, pass := pass }, frame := zeros 60, item := some (7, 9), stage := .cascade }

def pv (n v : Nat) : DevMsg := dev 0x802 [BitVec.ofNat 64 (9 + n * 65536 + v * 4294967296), 0, 0]

theorem witness_ThreadsWaitForkAndEndTheirItems :
    (∃ (s : State) (q : _) (t : _), threadRuns s q t = true) ∧
    (∃ (s : State) (q : _) (t : _), threadRuns s q t = true ∧ (thGet s q t).staged.length < 32) ∧
    (∃ (c : _) (s : State) (q : _) (t : _) (d : _), c ∈ [Instr.chLast, Instr.chLastNb] ∧ threadRuns s q t = true ∧
      (thGet s q t).staged.length < 32 ∧ (thGet s q t).dest = d ∧ d < 0x800 ∧
      (chanInfo s (d / 256) (d % 256)).msgs.length < (chanInfo s (d / 256) (d % 256)).depth ∧
      (chanInfo s (d / 256) (d % 256)).writers = []) ∧
    (∃ (s : State) (q : _) (t : _) (d : _), threadRuns s q t = true ∧ (thGet s q t).staged.length < 32 ∧ (thGet s q t).dest = d ∧
      d < 0x800 ∧ 0 < (chanInfo s (d / 256) (d % 256)).depth ∧
      (chanInfo s (d / 256) (d % 256)).depth ≤ (chanInfo s (d / 256) (d % 256)).msgs.length) ∧
    (∃ (s : State) (ch : _) (w : _) (ws : List Nat), ch < 0x800 ∧
      (chanInfo s (ch / 256) (ch % 256)).msgs.length < (chanInfo s (ch / 256) (ch % 256)).depth ∧
      (chanInfo s (ch / 256) (ch % 256)).writers = w :: ws ∧ (ch % 256 = 255 → (clusterGet s (ch / 256)).stagedRecords = [])) ∧
    (∃ (s : State) (q : _) (t : _) (v : Dword) (m : List Dword) (rest : List (List Dword)) (e : _), threadRuns s q t = true ∧
      engineOf s q t = some e ∧ isReader s q t (bits v.toNat 11 0) = true ∧ (chanInfo s q (bits v.toNat 11 0 % 256)).msgs = m :: rest ∧
      0x20000 ≤ 8 * bits v.toNat 31 16 ∧ 8 * bits v.toNat 31 16 + 8 * m.length ≤ 0x40000) ∧
    (∃ (s : State) (q : _) (t : _) (v : Dword), threadRuns s q t = true ∧ (bits v.toNat 11 0 ≠ 0xFFF ∨ bits v.toNat 63 32 ≠ 0) ∧
      chanHas s (bits v.toNat 11 0) = true) ∧
    (∃ (s : State) (q : _) (t : _) (v : Dword), threadRuns s q t = true ∧ (bits v.toNat 11 0 ≠ 0xFFF ∨ bits v.toNat 63 32 ≠ 0) ∧
      chanHas s (bits v.toNat 11 0) = false) ∧
    (∃ (s : State) (q : _) (t : _) (ch : _) (item : _) (n : _), (thGet s q t).state = .waiting ∧ (thGet s q t).wait = .data ch item n ∧
      chanHas s ch = true) ∧
    (∃ (s : State) (q : _) (t : _) (ch : _) (item : _) (n : _), (thGet s q t).state = .waiting ∧ (thGet s q t).wait = .data ch item n ∧
      n ≠ 0) ∧
    (∃ (s : State) (q : _) (t : _), threadRuns s q t = true) ∧
    (∃ (s : State) (q : _) (t : _), threadRuns s q t = true ∧ (thGet s q t).children.length < 8 ∧
      forkThreads s q (thGet s q t).slice ≠ []) ∧
    (∃ (s : State) (q : _) (t : _), threadRuns s q t = true ∧ (thGet s q t).children.length < 8 ∧
      forkThreads s q (thGet s q t).slice = []) ∧
    (∃ (s : State) (q : _) (t : _), threadRuns s q t = true ∧ (thGet s q t).children = []) ∧
    (∃ (s : State) (q : _) (t : _), threadRuns s q t = true ∧ (thGet s q t).children ≠ []) ∧
    (∃ (s : State) (q : _) (t : _) (h : _) (it : _) (e : _), itemOf s q h = some it ∧ it.state = .queued ∧ t ∈ freeWorkers s q ∧
      oldestOf s q it.slice = some h ∧ engineOf s q t = some e ∧ ((thGet s q t).reserved = true → (thGet s q t).slice = it.slice) ∧
      ((thGet s q t).reserved = false → (drrTake s q it.slice).isSome = true)) ∧
    (∃ (s : State) (p : _) (pos : _) (k : Pkt) (q : _) (reason : _) (kind : _), pktGet s p = some k ∧ k.item = some (q, reason) ∧
      k.pass.fault = some kind ∧ k.stage = .retry ∧ canStart s k = true ∧ entryServes s k pos = true ∧
      (freeEntry s q k.hdr.slice).isSome = true) ∧
    (∃ (s : State) (q : _) (t : _), threadRuns s q t = true ∧ t ≠ supervisorSlot s q ∧ activeItems s q t = []) ∧
    (∃ (s : State) (q : _) (t : _) (v : Dword) (i : _) (it : _), threadRuns s q t = true ∧
      frameOf (thGet s q t) (bits v.toNat 15 0) = some i ∧ activeItem s q (bits v.toNat 15 0) (thGet s q t).slice = some it) ∧
    (∃ (s : State) (q : _) (t : _) (v : Dword) (i : _) (it : _) (e : _), threadRuns s q t = true ∧ engineOf s q t = some e ∧
      freeFrame (thGet s q t) = some i ∧ itemOf s q (bits v.toNat 15 0) = some it ∧ it.state = .held ∧ it.slice = (thGet s q t).slice) :=
  ⟨⟨thUp (run {}) {}, 7, 63, by decide +kernel⟩,
    ⟨thUp (run { staged := List.replicate 31 0 }) {}, 7, 63, by decide +kernel⟩,
    ⟨Instr.chLast, thUp (run { dest := 0x703, staged := [1] }) (chan { depth := 1 }), 7, 63, 0x703, ⟨List.mem_cons_self,
      by decide +kernel⟩⟩,
    ⟨thUp (run { dest := 0x703 }) (chan { depth := 1, msgs := [[1]] }), 7, 63, 0x703, by decide +kernel⟩,
    ⟨thUp { state := .waiting, wait := .space 0x703, staged := [4] } (chan { depth := 2, msgs := [[1]], writers := [511] }), 0x703, 511,
      ([] : List Nat), by decide +kernel⟩,
    ⟨thUp (run {}) (chan { depth := 2, msgs := [[1, 2]], reader := 63 }), 7, 63, (0x40000703 : Dword), ([1, 2] : List Dword),
      ([] : List (List Dword)), 65, by decide +kernel⟩,
    ⟨thUp (run {}) (chan { depth := 2, msgs := [[1]] }), 7, 63, (0x703 : Dword), by decide +kernel⟩,
    ⟨thUp (run {}) (chan { depth := 2 }), 7, 63, (0x100000703 : Dword), by decide +kernel⟩,
    ⟨thUp { state := .waiting, wait := .data 0x703 false 0 } (chan { depth := 2, msgs := [[1]] }), 7, 63, 0x703, false, 0,
      by decide +kernel⟩,
    ⟨thUp { state := .waiting, wait := .data 0x703 false 1 } (chan { depth := 2 }), 7, 63, 0x703, false, 1, by decide +kernel⟩,
    ⟨thUp (run {}) {}, 7, 63, by decide +kernel⟩,
    ⟨thUp (run { children := List.replicate 7 0 }) {}, 7, 63, by decide +kernel⟩,
    ⟨{ up with csc := { clusters := [(7, { threads := (List.range 64).map (fun i => (i, run {})), supRun := true })] } }, 7, 63,
      by decide +kernel⟩,
    ⟨thUp (run {}) {}, 7, 63, by decide +kernel⟩,
    ⟨thUp (run { children := [4] }) {}, 7, 63, by decide +kernel⟩,
    ⟨thUp {} { work := [(9, item .queued)], order := [9] }, 7, 63, 9, item .queued, 65, by decide +kernel⟩,
    ⟨{ pktSet up 5 { stage := .retry, hdr := { pipeline := 3 }, item := some (7, 0), pass := { fault := some .actTtl } } with csc := { retry := [[], [], [], [5]] } }, 5, 4095, ({ stage := .retry, hdr := { pipeline := 3 }, item := some (7, 0), pass := { fault := some .actTtl } } : Pkt), 7, 0, ItemKind.actTtl, by decide +kernel⟩,
    ⟨thUp (run {}) {}, 7, 63, by decide +kernel⟩,
    ⟨pktSet (thUp (run { frame1 := some 9 }) { work := [(9, item .active)] }) 5 {}, 7, 63, (9 : Dword), 1, item .active, by decide +kernel⟩,
    ⟨thUp (run { frame0 := some 8 }) { work := [(9, item .held)] }, 7, 63, (9 : Dword), 1, item .held, 65, by decide +kernel⟩⟩

theorem witness_SupervisionServicesAndCommandsOfEngines :
    (∃ (s : State) (q : _) (t : _), threadRuns s q (supervisorSlot s q) = true ∧ t ≠ supervisorSlot s q ∧
      ((thGet s q t).state = .ready ∨ (thGet s q t).state = .waiting)) ∧
    (∃ (c : _) (s : State) (q : _), c ∈ [Instr.suspend, Instr.resume, fun q t => Instr.abort q t true] ∧
      threadRuns s q (supervisorSlot s q) = true) ∧
    (∃ (s : State) (q : _) (t : _), threadRuns s q (supervisorSlot s q) = true ∧ t ≠ supervisorSlot s q ∧
      (thGet s q t).state = .suspended) ∧
    (∃ (s : State) (q : _) (t : _), threadRuns s q (supervisorSlot s q) = true ∧ t ≠ supervisorSlot s q ∧ (thGet s q t).state ≠ .free) ∧
    (∃ (s : State) (q : _), threadRuns s q (supervisorSlot s q) = true) ∧
    (∃ (s : State) (q : _) (v : Dword) (e : _), threadRuns s q (supervisorSlot s q) = true ∧ engineOf s q (supervisorSlot s q) = some e ∧
      0x20000 ≤ 8 * v.toNat ∧ 8 * v.toNat + 256 ≤ 0x40000) ∧
    (∃ (s : State) (q : _), threadRuns s q (supervisorSlot s q) = true) ∧
    (∃ (s : State) (q : _) (t : _) (cls : _), 3 ≤ cls ∧ cls ≤ 7 ∧ q < 8 ∧ threadRuns s q t = true) ∧
    (∃ (s : State) (e : _) (t : _) (cls : _) (q : _) (pos : _), enginePlace s e = some (q, pos) ∧ (cls = 1 ∨ cls = 2) ∧ t < 8 ∧ e < 68) ∧
    (∃ (s : State) (x : _) (q : _) (pos : _) (e : _) (cls : _), s.csc.loading.find? (fun y => y.1 = x) = some (x, q, pos, e, cls) ∧
      pos < 8) ∧
    (∃ (s : State) (q : _), q < 8 ∧ (clusterGet s q).supRun = false ∧ (engineOf s q (supervisorSlot s q)).isSome = true ∧
      s.fw.cscRunning = true) ∧
    (∃ (e : _), e < 68) ∧
    (∃ (s : State) (q : _), q < 8 ∧ (clusterGet s q).dldHeld = false ∧ deadlocked s q = true) ∧
    (∃ (s : State) (q : _), (clusterGet s q).dldHeld = true) ∧
    (∃ (s : State) (m : _) (st : Dword) (e : Bytes) (hit : Option LastHit), s.csc.devq.find? (fun m => m.chan = 0x800) = some m ∧
      bits (mw m.words 0) 14 3 < 0x800 ∧
      (chanInfo s (bits (mw m.words 0) 14 3 / 256) (bits (mw m.words 0) 14 3 % 256)).msgs.length < (chanInfo s (bits (mw m.words 0) 14 3 / 256) (bits (mw m.words 0) 14 3 % 256)).depth ∧ (chanInfo s (bits (mw m.words 0) 14 3 / 256) (bits (mw m.words 0) 14 3 % 256)).writers = [] ∧ (lookup { s with csc := { s.csc with devq := s.csc.devq.erase m } } (msgPair m) (msgKey m.words 2 (bits (mw m.words 0) 1 0)) (bitAt (mw m.words 0) 2)).2 = .got st e hit) ∧
    (∃ (c : _) (n : _) (s : State) (m : _), (c,
      n) ∈ [(Instr.devchScribeLearn, 0), (.devchScribeInsert, 1), (.devchScribeDelete, 2), (.devchScribeUpdate, 3)] ∧
      s.csc.devq.find? (fun m => m.chan = 0x801) = some m ∧ bits (mw m.words 0) 3 0 = n ∧
      (m.parcel = [] ∨ bitAt (byteAt m.parcel 0x053) 1 = true) ∧ s.cst.queue.length < 4096) ∧
    (∃ (s : State) (m : _) (it : _) (k : Pkt) (c : _) (v : _), s.csc.devq.find? (fun m => m.chan = 0x802) = some m ∧
      activeItem s m.cluster (bits (mw m.words 0) 15 0) m.slice = some it ∧ pktGet s it.pid = some k ∧ (c,
      v) ∈ [(Instr.pktFwdPort, Verdict.fwdPort (bits (msgV m) 3 0)), (.pktFlood, .flood (bits (msgV m) 15 0))] ∧
      bits (mw m.words 0) 19 16 = (if c = .pktFwdPort then 0 else 2)) ∧
    (∃ (s : State) (m : _) (it : _) (k : Pkt) (n : _) (q : _), s.csc.devq.find? (fun m => m.chan = 0x802) = some m ∧
      activeItem s m.cluster (bits (mw m.words 0) 15 0) m.slice = some it ∧ pktGet s it.pid = some k ∧ bits (mw m.words 0) 19 16 = 1 ∧
      hostTarget s k (msgV m) = some (n, q)) ∧
    (∃ (s : State) (m : _) (it : _) (k : Pkt), s.csc.devq.find? (fun m => m.chan = 0x802) = some m ∧
      activeItem s m.cluster (bits (mw m.words 0) 15 0) m.slice = some it ∧ pktGet s it.pid = some k ∧ bits (mw m.words 0) 19 16 = 3 ∧
      k.mirrors = []) ∧
    (∃ (s : State) (m : _) (it : _) (k : Pkt), s.csc.devq.find? (fun m => m.chan = 0x802) = some m ∧
      activeItem s m.cluster (bits (mw m.words 0) 15 0) m.slice = some it ∧ pktGet s it.pid = some k ∧ bits (mw m.words 0) 19 16 = 4 ∧
      k.hdr.pass < 3) ∧
    (∃ (s : State) (m : _) (it : _) (k : Pkt) (f : _), s.csc.devq.find? (fun m => m.chan = 0x802) = some m ∧
      activeItem s m.cluster (bits (mw m.words 0) 15 0) m.slice = some it ∧ pktGet s it.pid = some k ∧ bits (mw m.words 0) 19 16 = 5 ∧
      f = memReadN s.mem (bits (mw m.words 2) 47 0) (bits (mw m.words 1) 31 16) ∧
      (basinShape s f.length).2 - min (basinShape s f.length).2 (ownFree s m.slice) ≤ openFree s) ∧
    (∃ (s : State) (m : _), s.csc.devq.find? (fun m => m.chan = 0x803) = some m) ∧
    Witnessed 0x0B40 (fun _ _ req => byteAt req 0 ≤ 1 ∧ byteAt req 1 ≤ 3) ∧
    Witnessed 0x0B42 (fun s _ req => byteAt req 0 ≤ 67 ∧ (enginePlace s (byteAt req 0)).isSome = true) ∧
    Witnessed 0x0B43 (fun s _ req => byteAt req 2 ≤ 3 ∧ ∀ q < 8, disposed s req q = []) ∧
    (∃ (s : State) (ch : _) (seq : _) (req : _) (q : _) (h : _) (p : _), Begun s ch seq 0x0B43 req ∧ byteAt req 2 ≤ 3 ∧ q < 8 ∧
      disposed s req q = [(h, p)] ∧ (∀ r < 8, r ≠ q → disposed s req r = [])) ∧
    Witnessed 0x0B44 (fun _ _ req => byteAt req 0 ≤ 1 ∧ byteAt req 1 ≤ 3) :=
  ⟨⟨thUp (run {}) {}, 7, 63, by decide +kernel⟩,
    ⟨Instr.suspend, thUp (run {}) {}, 7, ⟨List.mem_cons_self, by decide +kernel⟩⟩,
    ⟨thUp { state := .suspended, wait := .space 0x703 } (chan { depth := 2 }), 7, 63, by decide +kernel⟩,
    ⟨thUp (run {}) {}, 7, 63, by decide +kernel⟩,
    ⟨thUp (run {}) {}, 7, by decide +kernel⟩,
    ⟨thUp (run {}) {}, 7, (0x7FE0 : Dword), 58, by decide +kernel⟩,
    ⟨thUp (run {}) {}, 7, by decide +kernel⟩,
    ⟨thUp (run {}) {}, 7, 63, 7, by decide +kernel⟩,
    ⟨up, 65, 7, 2, 7, 7, by decide +kernel⟩,
    ⟨{ up with csc := { loading := [(66, 7, 7, 65, 1)] } }, 66, 7, 7, 65, 1, by decide +kernel⟩,
    ⟨up, 7, by decide +kernel⟩,
    ⟨67, by decide +kernel⟩,
    ⟨thUp { state := .waiting, wait := .join } {}, 7, by decide +kernel⟩,
    ⟨clusterSet up 7 { dldHeld := true, snapshot := zeros 16 }, 7, by decide +kernel⟩,
    ⟨devUp (dev 0x800 [BitVec.ofNat 64 (0x703 * 8), 0, 0, 0, 0, 0, 0]) 0, dev 0x800 [BitVec.ofNat 64 (0x703 * 8), 0, 0, 0, 0, 0, 0],
      (0 : Dword), (zeros 64 : Bytes), (none : Option LastHit), by decide +kernel⟩,
    ⟨Instr.devchScribeLearn, 0, devUp (dev 0x801 [0, 0, 0, 0]) 0, dev 0x801 [0, 0, 0, 0], ⟨List.mem_cons_self, by decide +kernel⟩⟩,
    ⟨devUp (pv 0 15) 0, pv 0 15, item .active,
      ({ hdr := { pipeline := 3 }, frame := zeros 60, item := some (7, 9), stage := .cascade } : Pkt), Instr.pktFwdPort, Verdict.fwdPort 15,
      ⟨by decide +kernel, by decide +kernel, by decide +kernel, List.mem_cons_self, by decide +kernel⟩⟩,
    ⟨devUp (pv 1 0x2007) 0, pv 1 0x2007, item .active,
      ({ hdr := { pipeline := 3 }, frame := zeros 60, item := some (7, 9), stage := .cascade } : Pkt), 1, 7, by decide +kernel⟩,
    ⟨devUp (pv 3 0) 0, pv 3 0, item .active,
      ({ hdr := { pipeline := 3 }, frame := zeros 60, item := some (7, 9), stage := .cascade } : Pkt), by decide +kernel⟩,
    ⟨devUp (pv 4 0) 2, pv 4 0, item .active,
      ({ hdr := { pipeline := 3, pass := 2 }, frame := zeros 60, item := some (7, 9), stage := .cascade } : Pkt), by decide +kernel⟩,
    ⟨devUp (dev 0x802 [327689, 0x3C0000, 0]) 0, dev 0x802 [327689, 0x3C0000, 0], item .active,
      ({ hdr := { pipeline := 3 }, frame := zeros 60, item := some (7, 9), stage := .cascade } : Pkt), zeros 60, by decide +kernel⟩,
    ⟨devUp (dev 0x803 [1, 2]) 0, dev 0x803 [1, 2], by decide +kernel⟩,
    witnessed (up) 0 (rq [(0, 1, 1), (1, 1, 3)]) (by decide +kernel) (by decide +kernel),
    witnessed (up) 0 (rq [(0, 1, 65)]) (by decide +kernel) (by decide +kernel),
    witnessed (up) 0 (rq [(2, 1, 3)]) (by decide +kernel) (by decide +kernel),
    ⟨begun (pktSet (clusterSet up 7 { work := [(9, item .held)] }) 5 { hdr := { jigSlot := 3 } }) 0 0x0B43 (rq [(0, 1, 2), (1, 1, 8), (2, 1, 3), (3, 1, 1), (4, 2, 1)]), 0, 1, rq [(0, 1, 2), (1, 1, 8), (2, 1, 3), (3, 1, 1), (4, 2, 1)], 7, 9, 5, ⟨begun_begun _ _ _ _ (by decide +kernel), by decide +kernel⟩⟩,
    witnessed (up) 0 (rq [(0, 1, 1), (1, 1, 3)]) (by decide +kernel) (by decide +kernel)⟩

end Cascade

/-! Witnesses: dovetail. -/

namespace Dovetail

def outPkt (v : Verdict) : Pkt := { stage := .exitOrder, hdr := { source := 3 }, frame := zeros 60, verdict := some v }

def outUp (v : Verdict) : State := sliceUp { pktSet up 5 (outPkt v) with twin := { rings := [(ringOf (outPkt v), [5])] } }

def arr (twin : Bool) : Arrival := { point := 2, dest := .inl (2, 0), pid := 5, pkt := { hdr := { twin := twin, pipeline := 1, twinSeq := 9 }, frame := zeros 60 }, main := true, rail := 0, digest := 7 }

def dovUp (x : DovIsland) : State := { up with twin := { dov1 := x } }

def rest (r : Nat) : State := { up with twin := { railB := .retired, restore := some (r, 0, 1) } }

theorem witness_DovetailReleasesOneCopyOfEach :
    (∃ (s : State) (p : _) (k : _) (m : _), pktGet s p = some k ∧ k.stage = .exitOrder ∧ k.verdict = some (.fwdPort m) ∧ k.mirrors = [] ∧
      mayHandOn s p k = true) ∧
    (∃ (s : State) (p : _) (k : _) (n : _) (q : _), pktGet s p = some k ∧ k.stage = .exitOrder ∧ k.verdict = some (.fwdHost n q) ∧
      k.mirrors = [] ∧ mayHandOn s p k = true) ∧
    (∃ (s : State) (p : _) (k : _) (bd : _), pktGet s p = some k ∧ k.stage = .exitOrder ∧ k.verdict = some (.flood bd) ∧ k.mirrors = [] ∧
      mayHandOn s p k = true ∧ floodMembers s k bd = []) ∧
    (∃ (s : State) (p : _) (k : _) (v : _), pktGet s p = some k ∧ k.verdict = some v ∧ mayHandOn s p k = false) ∧
    (∃ (s : State) (d : _) (pl : _) (a : _), d ≤ 3 ∧ (∀ b ∈ (dovGet s d).waiting, b.pkt.hdr.pipeline ≠ pl) ∧
      (dovGet s d).arrivals.find? (fun a => a.pkt.hdr.pipeline = pl) = some a ∧ a.pkt.hdr.twin = false) ∧
    (∃ (s : State) (d : _) (pl : _) (a : _) (u : _), d ≤ 3 ∧ (∀ b ∈ (dovGet s d).waiting, b.pkt.hdr.pipeline ≠ pl) ∧
      (dovGet s d).arrivals.find? (fun a => a.pkt.hdr.pipeline = pl) = some a ∧ a.pkt.hdr.twin = true ∧
      arriveTwin (dovSet s d { dovGet s d with arrivals := (dovGet s d).arrivals.eraseP (fun b => b.pkt.hdr.pipeline = pl) }) d a = some u) ∧
    (∃ (s : State) (d : _) (pl : _) (a : _) (u : _), (dovGet s d).waiting.find? (fun a => a.pkt.hdr.pipeline = pl) = some a ∧
      arriveTwin (dovSet s d { dovGet s d with waiting := (dovGet s d).waiting.eraseP (fun b => b.pkt.hdr.pipeline = pl) }) d a = some u) ∧
    (∃ (s : State) (d : _) (x : _) (st : _) (seq : Word) (y : OpenRec), d < 4 ∧
      (dovGet s d).recs.find? (fun y => y.point = x && y.stream = st && y.seq = seq) = some y) ∧
    (∃ (d : DovIsland) (x st : Nat) (seq : Word), d.recs.find? (fun y => y.point = x && y.stream = st && y.seq = seq) = none ∧
      d.recs.length < 65536 ∧ ∀ y ∈ dovState d x st, later32 seq y.m = true) ∧
    (∃ (d : DovIsland) (x st : Nat) (seq : Word) (y : OpenRec),
      d.recs.find? (fun y => y.point = x && y.stream = st && y.seq = seq) = some y) ∧
    (∃ (d : DovIsland) (x st : Nat) (seq : Word) (y : StreamState),
      d.recs.find? (fun y => y.point = x && y.stream = st && y.seq = seq) = none ∧ dovState d x st = some y ∧ later32 seq y.m = false) :=
  ⟨⟨outUp (.fwdPort 15), 5, outPkt (.fwdPort 15), 15, by decide +kernel⟩,
    ⟨outUp (.fwdHost 1 7), 5, outPkt (.fwdHost 1 7), 1, 7, by decide +kernel⟩,
    ⟨outUp (.flood 9), 5, outPkt (.flood 9), 9, by decide +kernel⟩,
    ⟨pktSet up 5 { outPkt (.fwdPort 2) with stage := .action }, 5, { outPkt (.fwdPort 2) with stage := .action }, Verdict.fwdPort 2,
      by decide +kernel⟩,
    ⟨dovUp { arrivals := [arr false] }, 1, 1, arr false, by decide +kernel⟩,
    ⟨dovUp { arrivals := [arr true] }, 1, 1, arr true, (arriveTwin (dovUp {}) 1 (arr true)).getD up, by decide +kernel⟩,
    ⟨dovUp { waiting := [arr true] }, 1, 1, arr true, (arriveTwin (dovUp {}) 1 (arr true)).getD up, by decide +kernel⟩,
    ⟨dovUp { recs := [⟨2, 3, 9, 7, 0, 0⟩] }, 1, 2, 3, (9 : Word), (⟨2, 3, 9, 7, 0, 0⟩ : OpenRec), by decide +kernel⟩,
    ⟨{ states := [⟨2, 3, 8, none⟩] }, 2, 3, 9, by decide +kernel⟩,
    ⟨{ recs := [⟨2, 3, 9, 7, 0, 0⟩] }, 2, 3, 9, ⟨2, 3, 9, 7, 0, 0⟩, by decide +kernel⟩,
    ⟨{ states := [⟨2, 3, 9, none⟩] }, 2, 3, 9, ⟨2, 3, 9, none⟩, by decide +kernel⟩⟩

theorem witness_RailsRetireRejoinAndAreSelected :
    (∃ (s : State) (r : _) (code : _) (u : _), r ≤ 1 ∧ 1 ≤ code ∧ code ≤ 4 ∧ u ≤ 5 ∧ railUp s 0 = true ∧ railUp s 1 = true) ∧
    (∃ (s : State) (r : _) (code : _) (u : _), r ≤ 1 ∧ 1 ≤ code ∧ code ≤ 4 ∧ u ≤ 5 ∧ railUp s r = true ∧ railUp s (1 - r) = false) ∧
    Witnessed 0x0901 (fun s _ req => byteAt req 0 ≤ 1 ∧ railUp s 0 = true ∧ railUp s 1 = true) ∧
    Witnessed 0x0902 (fun s _ req => byteAt req 0 ≤ 1 ∧ railState s (byteAt req 0) = .retired) ∧
    (∃ (s : State) (r : _) (ch : _) (seq : _), s.twin.restore = some (r, ch, seq) ∧ r ≤ 1) ∧
    (∃ (s : State) (r : _) (ch : _) (seq : _), s.twin.restore = some (r, ch, seq) ∧ r ≤ 1) ∧
    Witnessed 0x0900 (fun _ _ _ => True) ∧
    Witnessed 0x0903 (fun _ _ req => byteAt req 0 ≤ 15 ∧ le req 2 2 ≤ 4095 ∧ le req 4 2 ≤ 4095) ∧
    Witnessed 0x0910 (fun s _ req => byteAt req 0 ≤ 7 ∧ byteAt req 1 ≤ 15 ∧ byteAt req 2 ≤ 15 ∧
      (bitAt (byteAt req 3) 0 = true → byteAt req 1 < 8 ∧ 8 ≤ byteAt req 2 ∧ macUsed s (byteAt req 1) = true ∧
      macUsed s (byteAt req 2) = true ∧ macRate s (byteAt req 1) = macRate s (byteAt req 2) ∧
      prpTaken s (byteAt req 0) (byteAt req 1) = false ∧ prpTaken s (byteAt req 0) (byteAt req 2) = false)) ∧
    Witnessed 0x0911 (fun _ _ req => 1 ≤ le req 2 2 ∧ le req 2 2 ≤ 15) :=
  ⟨⟨up, 1, 4, 5, by decide +kernel⟩,
    ⟨rest 1, 0, 1, 5, by decide +kernel⟩,
    witnessed (up) 0 (rq [(0, 1, 1)]) (by decide +kernel) (by decide +kernel),
    witnessed ({ up with twin := { railB := .retired } }) 0 (rq [(0, 1, 1)]) (by decide +kernel) (by decide +kernel),
    ⟨rest 1, 1, 0, 1, by decide +kernel⟩,
    ⟨rest 1, 1, 0, 1, by decide +kernel⟩,
    witnessed (up) 0 (rq []) (by decide +kernel) (by decide +kernel),
    witnessed (up) 0 (rq [(0, 1, 15), (2, 2, 4095), (4, 2, 4095)]) (by decide +kernel) (by decide +kernel),
    witnessed (portMod (portMod up 0 (fun x => { x with mode := 1 })) 1 (fun x => { x with mode := 1 })) 0 (rq [(0, 1, 7), (1, 1, 0), (2, 1, 8), (3, 1, 1)]) (by decide +kernel) (by decide +kernel),
    witnessed (up) 0 (rq [(2, 2, 15)]) (by decide +kernel) (by decide +kernel)⟩

end Dovetail

/-! Witnesses: itwin. -/

namespace Itwin

/-- SERVICE with the Itwin link up, as actor or standby. -/
def twinUp (x : Itwin) : State := sliceUp { up with itw := { x with enable := true } }

def linked : State := twinUp { linkUp := true, rank := 1 }

def actor : State := twinUp { linkUp := true, grant := true, actOut := true, actReq := true }

def mac8 : Bytes := zeros 8

def lkey : Bytes := 1 :: zeros 8

def knows (s : State) : State := { s with cst := { ways := [(4 * (buckets lkey).1, entryFor lkey 1024)] } }

def lloc : Loc := { stash := false, idx := 4 * (buckets lkey).1 }

theorem witness_ThePairLinksAndHoldsOneActor :
    (∃ (s : State) (seq : BitVec 16), s.itw.linkUp = true ∧ s.itw.enable = true ∧ seq = s.itw.rxSeq) ∧
    (∃ (s : State), s.itw.linkUp = true ∧ s.itw.enable = true) ∧
    (∃ (s : State) (id : Dword) (rank : _) (mode : _) (act : _) (version : _) (digest : Word) (mirroring : _) (learned : _) (count : Word) (p : _), s.itw.linkUp = true ∧ s.itw.enable = true ∧ p = partnerOf s id rank mode act version digest mirroring learned count ∧ s.itw.compareDue = false ∧ (s.itw.partner.seen = true → s.itw.partner.dieId = id) ∧ (bitAt act 1 = true → s.itw.actIn = true) ∧ rank ≠ s.itw.rank) ∧
    (∃ (s : State), itwSending s = true ∧ s.itw.linkUp = true) ∧
    (∃ (s : State), s.pkts.any (fun x => x.2.stage = .start) = true) ∧
    (∃ (s : State), itwSending s = true ∧ s.itw.lost = false) ∧
    (∃ (s : State), itwSending s = true ∧ s.itw.lost = false) ∧
    (∃ (s : State), s.itw.enable = true ∧ s.itw.linkUp = false) ∧
    (∃ (b : Bytes), ∀ i < 4, byteAt b i = 0) ∧
    (∃ (s : State), s.itw.enable = true ∧ s.itw.actOut = true ∧ s.itw.actIn = false) ∧
    (∃ (s : State), (s.itw.enable && s.itw.actOut && !s.itw.actIn) = false) ∧
    (∃ (s : State), (s.itw.linkUp = false ∨ lowerRank s = true ∨ 0 < s.itw.collisions ∨ s.itw.offered = true) ∧ itwSending s = true ∧
      s.itw.actIn = false ∧ s.itw.grant = false ∧ s.itw.collisions < 16) ∧
    (∃ (s : State), s.itw.linkUp = true ∧ s.itw.enable = true ∧ itwSending s = true ∧ s.itw.actIn = false ∧ s.itw.grant = false ∧
      s.itw.collisions < 16) ∧
    Witnessed 0x0922 (fun s _ _ => s.itw.grant = true) :=
  ⟨⟨twinUp { linkUp := true, rxSeq := 0xFFFF }, (0xFFFF : BitVec 16), by decide +kernel⟩,
    ⟨linked, by decide +kernel⟩,
    ⟨linked, (7 : Dword), 2, 1, 0, 5, (9 : Word), true, 4, (8 : Word), partnerOf linked 7 2 1 0 5 9 true 4 8, by decide +kernel⟩,
    ⟨linked, by decide +kernel⟩,
    ⟨pktSet up 5 {}, by decide +kernel⟩,
    ⟨linked, by decide +kernel⟩,
    ⟨linked, by decide +kernel⟩,
    ⟨twinUp {}, by decide +kernel⟩,
    ⟨zeros 4, by decide⟩,
    ⟨twinUp { actOut := true }, by decide +kernel⟩,
    ⟨twinUp { actOut := true, actIn := true }, by decide +kernel⟩,
    ⟨twinUp { collisions := 15 }, by decide +kernel⟩,
    ⟨twinUp { linkUp := true, collisions := 15 }, by decide +kernel⟩,
    witnessed (actor) 0 (rq []) (by decide +kernel) (by decide +kernel)⟩

theorem witness_LearningCrossesThePairAndItsSettings :
    (∃ (s : State), isActor s = true ∧ s.cst.queue.length < 4096) ∧
    (∃ (s : State) (body : _) (l : _), s.itw.linkUp = true ∧ s.itw.enable = true ∧ s.itw.grant = false ∧
      findKey s (l2Key (fit body 32)) = some l ∧ entStatic (wayGet s l) = false) ∧
    (∃ (s : State), s.itw.linkUp = true ∧ s.itw.enable = true ∧ s.itw.grant = true) ∧
    (∃ (s : State) (key : _) (l : _), s.itw.linkUp = true ∧ s.itw.enable = true ∧ s.itw.grant = false ∧
      findKey s (l2Key (fit key 8)) = some l ∧ entLearned (wayGet s l) = true) ∧
    (∃ (s : State) (key : _) (l : _), isActor s = true ∧ findKey s (l2Key (fit key 8)) = some l) ∧
    (∃ (s : State), s.itw.linkUp = true ∧ s.itw.enable = true ∧ s.itw.grant = false) ∧
    (∃ (s : State) (named : _), s.itw.linkUp = true ∧ s.itw.enable = true ∧ s.itw.grant = false ∧ s.itw.resync = some named) ∧
    Witnessed 0x0923 (fun s _ _ => isActor s = true ∧ s.itw.resyncTx = none) ∧
    (∃ (s : State) (cmd : Option (Nat × Nat)), s.itw.resyncTx = some cmd ∧ isActor s = true) ∧
    Witnessed 0x0920 (fun _ _ req => byteAt req 0 ≤ 1 ∧ 10 ≤ le req 4 2 ∧ le req 4 2 ≤ 10000 ∧ 2 ≤ byteAt req 6 ∧ byteAt req 6 ≤ 15) ∧
    Witnessed 0x0921 (fun _ _ _ => True) :=
  ⟨⟨actor, by decide +kernel⟩,
    ⟨knows linked, mac8 ++ zeros 24, lloc, by decide +kernel⟩,
    ⟨actor, by decide +kernel⟩,
    ⟨knows linked, mac8, lloc, by decide +kernel⟩,
    ⟨knows actor, mac8, lloc, by decide +kernel⟩,
    ⟨linked, by decide +kernel⟩,
    ⟨twinUp { linkUp := true, resync := some [lkey] }, [lkey], by decide +kernel⟩,
    witnessed (actor) 0 (rq []) (by decide +kernel) (by decide +kernel),
    ⟨twinUp { linkUp := true, grant := true, resyncTx := some (some (0, 1)) }, (some (0, 1) : Option (Nat × Nat)), by decide +kernel⟩,
    witnessed (up) 0 (rq [(0, 1, 1), (4, 2, 10000), (6, 1, 15)]) (by decide +kernel) (by decide +kernel),
    witnessed (up) 0 (rq []) (by decide +kernel) (by decide +kernel)⟩

end Itwin

/-! Witnesses: crypto. -/

namespace Crypto

/-- A packet whose pass ended with SA 7, at its transform; `a` is the SA. -/
def cryPkt (dir : Bool) (f : Bytes) : Pkt := { stage := .transform, frame := f, verdict := some (.fwdPort 2), pass := { sa := some (7, dir) } }

def cryUp (k : Pkt) (a : Bytes) : State := { pktSet up 5 k with cry := { sas := [(7, a)], waiting := [5] } }

def secOut : Bytes := splice (splice (zeros 128) 0 [2, 1]) 8 [9]

def secIn (t : Nat) : Bytes := splice (splice (zeros 128) 0 [2, 0x83]) 8 [BitVec.ofNat 8 t]

def madeOf (m : Made) : Pkt := match m with | .ok k => k | _ => {}

/-- A MACsec frame that is authenticated only: 4 bytes of data under packet number 5 (R318). -/
def secFrame (tag : Bytes) : Bytes := zeros 12 ++ [0x88, 0xE5, 0, 4, 0, 0, 0, 5, 1, 2, 3, 4] ++ tag

def secA : Bytes := secIn 1

/-- The ICV that AES-GCM expects of that frame under packet number 5: whatever the opaque constant gives. -/
def goodTag : Bytes := (gcmOpened (saKey secA) (macsecIv secA 5) ((secFrame []).take 20 ++ [1, 2, 3, 4]) []).2

theorem goodTag_length : goodTag.length = 16 := by simp [goodTag, gcmOpened, fit, slice]

theorem macsecIn_accepts (tag : Bytes) (h : tag.length = 16) (ht : goodTag = tag) :
    macsecIn secA 5 (cryPkt true (secFrame tag)) = .ok (withRxClass secA (withFrame (cryPkt true (secFrame tag)) (zeros 12 ++ [1, 2, 3, 4]))) := by
  match tag, h with
  | [a0, a1, a2, a3, a4, a5, a6, a7, a8, a9, a10, a11, a12, a13, a14, a15], _ =>
    generalize ht' : [a0, a1, a2, a3, a4, a5, a6, a7, a8, a9, a10, a11, a12, a13, a14, a15] = tag at *
    have e14 : byteAt (cryPkt true (secFrame tag)).frame 14 = 0 := by subst ht'; rfl
    have e15 : byteAt (cryPkt true (secFrame tag)).frame 15 = 4 := by subst ht'; rfl
    have e12 : be (cryPkt true (secFrame tag)).frame 12 2 = 0x88E5 := by subst ht'; rfl
    have el : (cryPkt true (secFrame tag)).frame.length = 40 := by subst ht'; rfl
    have h1 : macsecShape (cryPkt true (secFrame tag)).frame = some (8, 4) := by
      simp only [macsecShape, e14, e15, e12, el]; decide
    have h2 : bitAt (byteAt (cryPkt true (secFrame tag)).frame 14) 3 = false := by rw [e14]; decide
    have h3 : slice (cryPkt true (secFrame tag)).frame (12 + 8 + 4) 16 = tag := by subst ht'; rfl
    have h4 : (cryPkt true (secFrame tag)).frame.take (12 + 8) = (secFrame []).take 20 := by subst ht'; rfl
    have h5 : slice (cryPkt true (secFrame tag)).frame (12 + 8) 4 = [1, 2, 3, 4] := by subst ht'; rfl
    have h6 : (cryPkt true (secFrame tag)).frame.take 12 = zeros 12 := by subst ht'; rfl
    unfold macsecIn
    simp only [h1, h2, h3, h4, h5, h6, Bool.false_eq_true, if_false]
    rw [show (gcmOpened (saKey secA) (macsecIv secA 5) ((secFrame []).take 20 ++ [1, 2, 3, 4]) []).2 = tag from ht]
    simp

theorem numberOf_good (tag : Bytes) (h : tag.length = 16) : numberOf secA (cryPkt true (secFrame tag)) = .ok 5 := by
  match tag, h with
  | [a0, a1, a2, a3, a4, a5, a6, a7, a8, a9, a10, a11, a12, a13, a14, a15], _ =>
    generalize ht' : [a0, a1, a2, a3, a4, a5, a6, a7, a8, a9, a10, a11, a12, a13, a14, a15] = tag at *
    have e14 : byteAt (cryPkt true (secFrame tag)).frame 14 = 0 := by subst ht'; rfl
    have e15 : byteAt (cryPkt true (secFrame tag)).frame 15 = 4 := by subst ht'; rfl
    have e12 : be (cryPkt true (secFrame tag)).frame 12 2 = 0x88E5 := by subst ht'; rfl
    have e16 : be (cryPkt true (secFrame tag)).frame 16 4 = 5 := by subst ht'; rfl
    have el : (cryPkt true (secFrame tag)).frame.length = 40 := by subst ht'; rfl
    have h1 : macsecShape (cryPkt true (secFrame tag)).frame = some (8, 4) := by
      simp only [macsecShape, e14, e15, e12, el]; decide
    simp only [numberOf, macsecRead, h1, e14, e16]
    generalize be (cryPkt true (secFrame tag)).frame 20 8 = w
    rfl

theorem witness_TransformsAndTheirTablesFollowTheirSa :
    (∃ (s : State) (p : _) (k : _) (i : _) (dir : _) (m : _) (k' : _), pktGet s p = some k ∧ k.stage = .transform ∧
      s.cry.coresRetired ≠ 0xFFFFFF#24 ∧ k.verdict = some (.fwdPort m) ∧ k.tx = [] ∧ k.pass.sa = some (i, dir) ∧ k.hdr.twin = false ∧
      saOrdered s p i = true ∧ s.cry.deletes = [] ∧ saFlag (saGet s i) 1 = false ∧ spentSa s i (saGet s i) = false ∧
      transformWith s (saGet s i) (saSeq (saGet s i)) k = .ok k' ∧ k'.tx = []) ∧
    (∃ (s : State) (p : _) (k : _) (i : _) (dir : _) (m : _) (n : _) (k' : _), pktGet s p = some k ∧ k.stage = .transform ∧
      s.cry.coresRetired ≠ 0xFFFFFF#24 ∧ k.verdict = some (.fwdPort m) ∧ k.tx = [] ∧ k.pass.sa = some (i, dir) ∧ k.hdr.twin = false ∧
      saOrdered s p i = true ∧ s.cry.deletes = [] ∧ saFlag (saGet s i) 1 = true ∧ numberOf (saGet s i) k = .ok n ∧
      replayOk (saGet s i) n = true ∧ transformWith s (saGet s i) n k = .ok k' ∧ k'.tx = []) ∧
    (∃ (s : State) (p : _) (k : _) (i : _) (dir : _) (m : _) (n : _), pktGet s p = some k ∧ k.stage = .transform ∧
      s.cry.coresRetired ≠ 0xFFFFFF#24 ∧ k.verdict = some (.fwdPort m) ∧ k.tx = [] ∧ k.pass.sa = some (i, dir) ∧ k.hdr.twin = false ∧
      saOrdered s p i = true ∧ s.cry.deletes = [] ∧ saFlag (saGet s i) 1 = true ∧ numberOf (saGet s i) k = .ok n ∧
      replayOk (saGet s i) n = false ∧ saFlag (saGet s i) 6 = false ∧ k.mirrors = []) ∧
    (∃ (s : State) (core : _), core < 24 ∧ s.cry.coresRetired.getLsbD core = false) ∧
    (∃ (s : State) (st : _) (seq : Word) (pass : _) (ord : _) (n : Dword) (r : Option Nat), cryPair s ⟨st, seq, pass,
      ord⟩ = some (.held n r)) ∧
    (∃ (s : State) (st : _) (seq : Word) (pass : _) (ord : _), cryPair s ⟨st, seq, pass, ord⟩ = some .mark) ∧
    (∃ (s : State) (ch : _) (seq : _) (i : _), s.cry.deletes = [(ch, seq, i, false)] ∧ s.cry.waiting = []) ∧
    Witnessed 0x0800 (fun s ch req => saMay s ch (saSlice (slice req 8 128)) = true ∧
      saOwned s (saSlice (slice req 8 128)) (bits (le req 0 4) 19 0) = true ∧ saOk (slice req 8 128) = true ∧
      saBusy s (bits (le req 0 4) 19 0) = false) ∧
    (∃ (s : State) (ch : _) (seq : _) (req : _), Begun s ch seq 0x0800 req ∧ saMay s ch (saSlice (slice req 8 128)) = false) ∧
    Witnessed 0x0801 (fun s ch _ => ch = 2056 ∨ chanHolds s ch = true) ∧
    Witnessed 0x0802 (fun s ch _ => chanHolds s ch = true) ∧
    Witnessed 0x0820 (fun s ch req => chanHolds s ch = true ∧ saFlag (saGet s (bits (le req 0 4) 19 0)) 0 = true ∧
      saFlag (saGet s (bits (le req 0 4) 19 0)) 1 = true ∧ saKind (saGet s (bits (le req 0 4) 19 0)) = 3) ∧
    Witnessed 0x0810 (fun _ _ req => 1 ≤ byteAt req 4 ∧ byteAt req 4 ≤ 112 ∧ byteAt req 6 ≤ byteAt req 4 ∧ byteAt req 7 ≤ byteAt req 4 ∧
      byteAt req 5 ≤ 3) ∧
    Witnessed 0x0811 (fun _ _ _ => True) :=
  ⟨⟨cryUp (cryPkt false (zeros 60)) secOut, 5, cryPkt false (zeros 60), 7, false, 2, madeOf (macsecOut secOut 9 (cryPkt false (zeros 60))),
    ⟨by decide +kernel, by decide +kernel, by decide +kernel, by decide +kernel, rfl, rfl, rfl, by decide +kernel, rfl, by decide +kernel,
    by decide +kernel, rfl, rfl⟩⟩,
    ⟨cryUp (cryPkt true (secFrame goodTag)) secA, 5, cryPkt true (secFrame goodTag), 7, true, 2, 5,
      withRxClass secA (withFrame (cryPkt true (secFrame goodTag)) (zeros 12 ++ [1, 2, 3, 4])), ⟨rfl, rfl, by decide +kernel, rfl, rfl, rfl,
      rfl, rfl, rfl, rfl, numberOf_good _ goodTag_length, rfl, macsecIn_accepts _ goodTag_length rfl, rfl⟩⟩,
    ⟨cryUp (cryPkt true (secFrame (zeros 16))) (secIn 200), 5, cryPkt true (secFrame (zeros 16)), 7, true, 2, 5, by decide +kernel⟩,
    ⟨up, 23, by decide +kernel⟩,
    ⟨{ up with cry := { pairing := [(⟨1, 2, 3, 1⟩, .held 4 none)] } }, 1, (2 : Word), 3, 1, (4 : Dword), (none : Option Nat),
      by decide +kernel⟩,
    ⟨{ up with cry := { pairing := [(⟨1, 2, 3, 1⟩, .mark)] } }, 1, (2 : Word), 3, 1, by decide +kernel⟩,
    ⟨begun { up with cry := { deletes := [(0, 1, 0xFFFFF, false)], sas := [(0xFFFFF, secOut)] } } 0 0x0802 [], 0, 1, 0xFFFFF,
      by decide +kernel⟩,
    witnessed (sliceUp up) 0 (toLe 8 7 ++ splice (zeros 128) 60 [1]) (by decide +kernel) (by decide +kernel),
    ⟨begun (sliceUp up) 1033 0x0800 (zeros 136), 1033, 1, zeros 136, ⟨begun_begun _ _ _ _ (by decide +kernel), by decide +kernel⟩⟩,
    witnessed (up) 2056 (rq [(0, 4, 0xFFFFF)]) (by decide +kernel) (by decide +kernel),
    witnessed (up) 0 (rq [(0, 4, 0xFFFFF)]) (by decide +kernel) (by decide +kernel),
    witnessed ({ up with cry := { sas := [(7, splice (zeros 128) 0 [3, 3])] } }) 0 (rq [(0, 4, 7), (4, 4, 100)]) (by decide +kernel) (by decide +kernel),
    witnessed (up) 0 (rq [(0, 2, 65535), (4, 1, 112), (5, 1, 3), (6, 1, 112)]) (by decide +kernel) (by decide +kernel),
    witnessed (up) 0 (rq []) (by decide +kernel) (by decide +kernel)⟩

end Crypto

/-! Witnesses: nvt. -/

namespace Nvt

/-- SERVICE with endpoint 0's link up, context 7 valid and its walker in a phase, and a chain read of it completed. -/
def rd (p : Nat) (d : Bytes) : ReadReq := { tag := 3, func := 0, gen := 0, addr := 64, len := 64, quarantined := false, queue := 7, purpose := p, data := some d }

def ctxV : Bytes := splice (splice (zeros 64) 0 [1]) 4 [0]

def nvUp (p : Nat) (d : Bytes) (w : Walker) : State := { sliceUp up with ep0 := { dlUp := true, perst := false, reads := [rd p d] }, nvt := { ctxs := [(7, ctxV)], walkers := [(7, w)] } }

def blk (link : Nat) : Bytes := [5, 0, 1, 0, 0, 0, 0, 0] ++ zeros 48 ++ toLe 8 link

def pfSlice : Slice := { func := 0, ep := 0, twin := false, railMask := 3, openEligible := true, qpBase := 0, qpCount := 8, vecCount := 8, w0Base := 0, w0Count := 0, w1Base := 0, w1Count := 0, basinPages := 0, cstQuota := 0, saBase := 0, saCount := 0, nvtBase := 0, nvtCount := 8, cscWeight := 1, start := [] }

def dbUp (p : WalkPhase) : State := { nvUp 3 [] { phase := p } with slices := { tab := [(0, pfSlice)] } }

theorem witness_ChainWalkersAndContextsOfNvt :
    (∃ (s : State) (ep : _) (i : _) (r : _) (d : _),
      (epGet s ep).reads.find? (fun r => r.queue = i && (r.purpose = 3 || r.purpose = 4) && !r.quarantined && r.data.isSome) = some r ∧
      r.data = some d ∧ (walkGet s i).phase = .block ∧ blockBad d (walkGet s i).cid = false ∧ bitAt (byteAt d 3) 0 = false ∧
      bitAt (le d 56 8) 0 = true) ∧
    (∃ (s : State) (ep : _) (i : _) (r : _) (d : _),
      (epGet s ep).reads.find? (fun r => r.queue = i && (r.purpose = 3 || r.purpose = 4) && !r.quarantined && r.data.isSome) = some r ∧
      r.data = some d ∧ (walkGet s i).phase = .block ∧ blockBad d (walkGet s i).cid = false ∧ bitAt (byteAt d 3) 0 = false ∧
      bitAt (le d 56 8) 0 = false) ∧
    (∃ (s : State) (ep : _) (i : _) (r : _) (d : Bytes),
      (epGet s ep).reads.find? (fun r => r.queue = i && (r.purpose = 3 || r.purpose = 4) && !r.quarantined && r.data.isSome) = some r ∧
      r.data = some d ∧ (walkGet s i).phase = .block ∧ blockBad d (walkGet s i).cid = true ∧ (ctxOwner (ctxGet s i)).1 < 2) ∧
    (∃ (s : State) (ep : _) (i : _) (r : _) (d : Bytes),
      (epGet s ep).reads.find? (fun r => r.queue = i && (r.purpose = 3 || r.purpose = 4) && !r.quarantined && r.data.isSome) = some r ∧
      r.data = some d ∧ bits (le d 0 8) 5 1 = 0 ∧ bitAt (le d 0 8) 0 = true ∧ (walkGet s i).phase = .link false) ∧
    (∃ (s : State) (ep : _) (i : _) (r : _) (d : Bytes),
      (epGet s ep).reads.find? (fun r => r.queue = i && (r.purpose = 3 || r.purpose = 4) && !r.quarantined && r.data.isSome) = some r ∧
      r.data = some d ∧ bits (le d 0 8) 5 1 = 0 ∧ bitAt (le d 0 8) 0 = true ∧ (walkGet s i).phase = .link true ∧
      (walkGet s i).doorbell = false) ∧
    (∃ (s : State) (ep : _) (i : _) (r : _) (d : Bytes),
      (epGet s ep).reads.find? (fun r => r.queue = i && (r.purpose = 3 || r.purpose = 4) && !r.quarantined && r.data.isSome) = some r ∧
      r.data = some d ∧ bits (le d 0 8) 5 1 = 0 ∧ bitAt (le d 0 8) 0 = true ∧ (walkGet s i).phase = .link true ∧
      (walkGet s i).doorbell = true) ∧
    (∃ (s : State) (i : _), (walkGet s i).phase = .wait) ∧
    (∃ (s : State) (i : _), (walkGet s i).phase ≠ .wait) ∧
    (∃ (s : State) (ep : _) (f : _) (v : Word) (i : _) (x : _), barOpen s ep f = true ∧ boundSlice s ep f = some x ∧ i = bits v.toNat 16 0 ∧
      x.nvtBase ≤ i ∧ i < x.nvtBase + x.nvtCount ∧ ctxFlag (ctxGet s i) 0 = true ∧ ctxState (ctxGet s i) ≠ 3 ∧
      (walkGet s i).phase = .stopped) ∧
    (∃ (s : State) (ep : _) (f : _) (v : Word) (i : _) (x : _), barOpen s ep f = true ∧ boundSlice s ep f = some x ∧ i = bits v.toNat 16 0 ∧
      x.nvtBase ≤ i ∧ i < x.nvtBase + x.nvtCount ∧ ctxFlag (ctxGet s i) 0 = true ∧ ctxState (ctxGet s i) ≠ 3 ∧
      (walkGet s i).phase ≠ .stopped) ∧
    (∃ (s : State) (ep : _) (f : _), barOpen s ep f = true ∧ boundSlice s ep f = none ∧ ep < 2 ∧ f ≤ 1024) ∧
    Witnessed 0x0830 (fun s ch req => saMay s ch (ctxSlice (slice req 8 64)) = true ∧
      nvtOwned s (ctxSlice (slice req 8 64)) (bits (le req 0 4) 16 0) = true ∧ ctxOk s (slice req 8 64) = true) ∧
    Witnessed 0x0831 (fun s ch req => nvtMay s ch (bits (le req 0 4) 16 0) = true) ∧
    Witnessed 0x0832 (fun s ch req => nvtMay s ch (bits (le req 0 4) 16 0) = true ∧ ctxFlag (ctxGet s (bits (le req 0 4) 16 0)) 0 = true) :=
  ⟨⟨nvUp 3 (blk 129) { phase := .block }, 0, 7, rd 3 (blk 129), blk 129, by decide +kernel⟩,
    ⟨nvUp 3 (blk 128) { phase := .block }, 0, 7, rd 3 (blk 128), blk 128, by decide +kernel⟩,
    ⟨nvUp 3 (zeros 64) { phase := .block }, 0, 7, rd 3 (zeros 64), (zeros 64 : Bytes), by decide +kernel⟩,
    ⟨nvUp 4 (toLe 8 129) { phase := .link false }, 0, 7, rd 4 (toLe 8 129), (toLe 8 129 : Bytes), by decide +kernel⟩,
    ⟨nvUp 4 (toLe 8 129) { phase := .link true }, 0, 7, rd 4 (toLe 8 129), (toLe 8 129 : Bytes), by decide +kernel⟩,
    ⟨nvUp 4 (toLe 8 129) { phase := .link true, doorbell := true }, 0, 7, rd 4 (toLe 8 129), (toLe 8 129 : Bytes), by decide +kernel⟩,
    ⟨nvUp 4 [] { phase := .wait }, 7, by decide +kernel⟩,
    ⟨up, 7, by decide +kernel⟩,
    ⟨dbUp .stopped, 0, 0, (7 : Word), 7, pfSlice, by decide +kernel⟩,
    ⟨dbUp .block, 0, 0, (7 : Word), 7, pfSlice, by decide +kernel⟩,
    ⟨{ nvUp 3 [] {} with slices := {} }, 0, 0, by decide +kernel⟩,
    witnessed (dbUp .stopped) 0 (toLe 8 7 ++ splice (splice (zeros 64) 0 [1, 31, 7]) 6 (toLe 2 4096)) (by decide +kernel) (by decide +kernel),
    witnessed (up) 0 (rq [(0, 4, 7)]) (by decide +kernel) (by decide +kernel),
    witnessed (dbUp .stopped) 0 (rq [(0, 4, 7), (4, 4, 99)]) (by decide +kernel) (by decide +kernel)⟩

end Nvt

/-! Witnesses: time. -/

namespace Time

def tio (c : Nat) (x : TioChan) : State := tioSet up c x

theorem witness_TheTimeValueAndItsCommands :
    (∃ (s : State), clockOn s = true) ∧
    (∃ (s : State), clockOn s = true ∧ s.time.onFallback = false) ∧
    (∃ (s : State), clockOn s = true) ∧
    (∃ (s : State) (r : _) (rest : List StepReq) (v : TimeVal), s.time.steps = r :: rest ∧
      stepTarget { s with time := { s.time with steps := rest } } r = some v) ∧
    Witnessed 0x0700 (fun _ _ _ => True) ∧
    Witnessed 0x0701 (fun s _ req => s.plb.state = .manual ∧ le req 8 4 ≤ 999999999) ∧
    Witnessed 0x0702 (fun s _ _ => s.plb.state = .manual) ∧
    Witnessed 0x0703 (fun s _ req => s.plb.state = .manual ∧ rateOk (signed 64 (le req 0 8)) = true) ∧
    Witnessed 0x0704 (fun _ _ req => rateOk (signed 64 (le req 0 8)) = true) ∧
    Witnessed 0x0705 (fun _ _ req => (latWord (byteAt req 0) (byteAt req 1) (byteAt req 2) (byteAt req 3)).isSome = true) :=
  ⟨⟨up, by decide +kernel⟩,
    ⟨{ up with time := { onFallback := false } }, by decide +kernel⟩,
    ⟨{ up with dev := { up.dev with tbOsc := false }, time := { onFallback := true } }, by decide +kernel⟩,
    ⟨{ up with time := { steps := [StepReq.mk 1 {} 512 (some (0, 1))] } }, StepReq.mk 1 {} 512 (some (0, 1)), ([] : List StepReq), (⟨0, 2,
      0⟩ : TimeVal), by decide +kernel⟩,
    witnessed (up) 0 (rq []) (by decide +kernel) (by decide +kernel),
    witnessed (up) 0 (rq [(0, 8, 7), (8, 4, 999999999)]) (by decide +kernel) (by decide +kernel),
    witnessed (up) 0 (rq [(0, 8, 256)]) (by decide +kernel) (by decide +kernel),
    witnessed (up) 0 (rq [(0, 8, 5)]) (by decide +kernel) (by decide +kernel),
    witnessed (up) 0 (rq [(0, 8, 5)]) (by decide +kernel) (by decide +kernel),
    witnessed (up) 0 (rq []) (by decide +kernel) (by decide +kernel)⟩

theorem witness_TimedIoAndBoundaryScan :
    (∃ (s : State) (c : _), clockOn s = true ∧ c ≤ 9 ∧ tioModeOk c (bits (reg s (r_TIO_CFG c)).toNat 2 0) = true ∧
      (bits (reg s (r_TIO_CFG c)).toNat 2 0 = 1 ∨ tioOk c (bits (reg s (r_TIO_CFG c)).toNat 2 0) (bits (reg s (r_TIO_CFG c)).toNat 5 4) ((reg s (r_TIO_PERIOD_LO c)).toNat + 4294967296 * (reg s (r_TIO_PERIOD_HI c)).toNat) (reg s (r_TIO_WIDTH c)).toNat = true)) ∧
    (∃ (s : State) (c : _), clockOn s = true ∧ (tioGet s c).mode = 3) ∧
    (∃ (s : State) (c : _), clockOn s = true ∧ (tioGet s c).mode = 2 ∧ (tioGet s c).armed = true ∧ tioStart (tioGet s c) ≤ fineNow s) ∧
    (∃ (s : State) (c : _) (falling : _), clockOn s = true ∧ c ≤ 8 ∧ (tioGet s c).mode = 1 ∧ bitAt (tioGet s c).edge (b2n falling) = true ∧
      (tioGet s c).captures.length < 16 ∧ (tioGet s c).last = none) ∧
    (∃ (c : _), c ≤ 9) ∧
    (∃ (m : _), m ≤ 15) ∧
    Witnessed 0x0730 (fun _ _ req => byteAt req 0 ≤ 9 ∧
      tioOk (byteAt req 0) (byteAt req 1) (bits (byteAt req 2) 2 1) (le req 20 8) (le req 28 4) = true ∧ bitAt (byteAt req 2) 3 = false) ∧
    Witnessed 0x0731 (fun _ _ req => byteAt req 0 ≤ 9 ∧ 1 ≤ byteAt req 1 ∧ byteAt req 1 ≤ 15) ∧
    (∃ (c : _) (v : _), (c,
      v) ∈ [(Instr.extest, TapInstr.extest), (.highz, .highz), (.clamp, .clamp), (.extestPulse, .extestPulse), (.extestTrain, .extestTrain)]) :=
  ⟨⟨setReg up (r_TIO_CFG 8) 1, 8, by decide +kernel⟩,
    ⟨tio 9 { mode := 3, period := 256, width := 1 }, 9, by decide +kernel⟩,
    ⟨tio 9 { mode := 2, armed := true, width := 8 }, 9, by decide +kernel⟩,
    ⟨{ tio 8 { mode := 1, edge := 2 } with hw := { words := [(0xD0, 0)] } }, 8, true, by decide +kernel⟩,
    ⟨9, by decide +kernel⟩,
    ⟨15, by decide +kernel⟩,
    witnessed (up) 0 (rq [(0, 1, 8), (1, 1, 1), (2, 1, 2)]) (by decide +kernel) (by decide +kernel),
    witnessed (up) 0 (rq [(0, 1, 9), (1, 1, 15)]) (by decide +kernel) (by decide +kernel),
    ⟨Instr.extestTrain, TapInstr.extestTrain, by decide +kernel⟩⟩

end Time

/-! Witnesses: ptp. -/

namespace Ptp

/-- SERVICE with the PTP engine in ENGINE mode and port 15 in a state. -/
def engine (x : PtpPort) : State := { up with hw := { words := [(0x0D8, 2), (0x13C, 8)] }, ptp := { ports := [(15, x)] } }

def gated (x : PtpPort) : State := { engine x with itw := { enable := true } }

def heard (x : PtpPort) (f : Bytes) : State := { engine x with ptp := { ports := [(15, x)], inbox := [(15, f, 0)] } }

def respMsg : Bytes := [9, 2, 0, 54] ++ zeros 48 ++ [0, 16]

def syncMsg : Bytes := [0, 2, 0, 44] ++ zeros 40

def master : PtpPort := { state := .master }

def plbUp (p : Plumb) : State := { up with plb := p }

theorem witness_ThePtpEngineSendsAndTakesMessages :
    (∃ (s : State) (m : _) (x : _), m < 16 ∧ ptpOn s m = true ∧ x = ptpGet s m ∧ x.state = .master ∧ asCapable s m = true ∧
      actorGate s = true) ∧
    (∃ (s : State) (m : _) (x : _), m < 16 ∧ ptpOn s m = true ∧ x = ptpGet s m ∧ x.state = .master ∧ asCapable s m = true ∧
      actorGate s = true) ∧
    (∃ (s : State) (m : _) (x : _), m < 16 ∧ ptpOn s m = true ∧ x = ptpGet s m ∧ x.state = .master ∧ asCapable s m = true ∧
      actorGate s = false) ∧
    (∃ (s : State) (m : _) (x : _), m < 16 ∧ ptpOn s m = true ∧ x = ptpGet s m ∧ x.state = .master ∧ asCapable s m = true ∧
      actorGate s = false) ∧
    (∃ (s : State) (m : _) (x : PtpPort), m < 16 ∧ ptpOn s m = true ∧ x = ptpGet s m ∧ ptpProfile s = 0 ∧ x.state = .slave) ∧
    (∃ (s : State) (m : _) (x : PtpPort), m < 16 ∧ ptpOn s m = true ∧ x = ptpGet s m ∧ ptpProfile s ≠ 0) ∧
    (∃ (s : State) (m : _), ptpOn s m = true ∧ s.mbx.serving = true) ∧
    (∃ (s : State) (m : _), ptpOn s m = false) ∧
    (∃ (s : State) (m : _), ptpOn s m = false) ∧
    (∃ (s : State) (m : _), ptpOn s m = false) ∧
    (∃ (s : State) (m : _), ptpOn s m = false) ∧
    (∃ (s : State) (m : _) (f : _) (stamp : Dword) (rest : List (Nat × Bytes × Dword)) (b : _), s.ptp.inbox = (m, f, stamp) :: rest ∧
      b = f.drop ((ptpOffset f).getD 0) ∧ m < 16 ∧ ptpBad b = true) ∧
    (∃ (s : State) (m : _) (f : _) (stamp : Dword) (rest : List (Nat × Bytes × Dword)) (b : _), s.ptp.inbox = (m, f, stamp) :: rest ∧
      b = f.drop ((ptpOffset f).getD 0) ∧ m < 16 ∧ ptpBad b = false ∧ msgType b ≤ 3 ∧ (ptpGet s m).eventSec = s.time.ticks / 1000000000 ∧
      1024 ≤ (ptpGet s m).events) ∧
    (∃ (s : State) (m : _) (f : _) (stamp : Dword) (rest : List (Nat × Bytes × Dword)) (b : _) (seq : _) (t3 : _), s.ptp.inbox = (m, f,
      stamp) :: rest ∧ b = f.drop ((ptpOffset f).getD 0) ∧ m < 16 ∧ ptpBad b = false ∧ msgType b = 9 ∧ (ptpGet s m).req = some (seq,
      some t3) ∧ seq = msgSeq b ∧ slice b 44 10 = portId s m ∧ msgSource b = (ptpGet s m).parent) ∧
    (∃ (s : State) (m : _) (f : _) (stamp : Dword) (rest : List (Nat × Bytes × Dword)) (b : _), s.ptp.inbox = (m, f, stamp) :: rest ∧
      b = f.drop ((ptpOffset f).getD 0) ∧ m < 16 ∧ ptpBad b = false ∧ msgType b = 9 ∧ (ptpGet s m).req = none) ∧
    (∃ (s : State), s.ptp.inbox = []) :=
  ⟨⟨engine master, 15, master, by decide +kernel⟩,
    ⟨engine master, 15, master, by decide +kernel⟩,
    ⟨gated master, 15, master, by decide +kernel⟩,
    ⟨gated master, 15, master, by decide +kernel⟩,
    ⟨engine { state := .slave }, 15, ({ state := .slave } : PtpPort), by decide +kernel⟩,
    ⟨{ engine { state := .slave } with hw := { words := [(0x0D8, 6), (0x13C, 8)] } }, 15, ({ state := .slave } : PtpPort),
      by decide +kernel⟩,
    ⟨engine { state := .slave }, 15, by decide +kernel⟩,
    ⟨up, 15, by decide +kernel⟩,
    ⟨up, 15, by decide +kernel⟩,
    ⟨up, 15, by decide +kernel⟩,
    ⟨up, 15, by decide +kernel⟩,
    ⟨heard master (zeros 64), 15, zeros 64, (0 : Dword), ([] : List (Nat × Bytes × Dword)), zeros 64, by decide +kernel⟩,
    ⟨heard { events := 1024 } syncMsg, 15, syncMsg, (0 : Dword), ([] : List (Nat × Bytes × Dword)), syncMsg, by decide +kernel⟩,
    ⟨heard { req := some (0, some 0) } respMsg, 15, respMsg, (0 : Dword), ([] : List (Nat × Bytes × Dword)), respMsg, 0, 0,
      by decide +kernel⟩,
    ⟨heard {} respMsg, 15, respMsg, (0 : Dword), ([] : List (Nat × Bytes × Dword)), respMsg, by decide +kernel⟩,
    ⟨up, by decide +kernel⟩⟩

theorem witness_PtpPortsAndThePlumbServoAreSet :
    Witnessed 0x0720 (fun _ _ req => byteAt req 0 ≤ 2 ∧ byteAt req 1 ≤ 2 ∧ byteAt req 2 ≤ 2 ∧ (byteAt req 1 = 2 → byteAt req 2 = 0 ∧
      byteAt req 3 = 0)) ∧
    Witnessed 0x0721 (fun _ _ req => byteAt req 0 ≤ 15 ∧ byteAt req 1 ≤ 1 ∧ -7 ≤ signed 8 (byteAt req 2) ∧ signed 8 (byteAt req 2) ≤ 4 ∧
      -7 ≤ signed 8 (byteAt req 3) ∧ signed 8 (byteAt req 3) ≤ 4 ∧ -3 ≤ signed 8 (byteAt req 4) ∧ signed 8 (byteAt req 4) ≤ 4 ∧
      2 ≤ byteAt req 5 ∧ byteAt req 5 ≤ 10) ∧
    Witnessed 0x0722 (fun _ _ req => byteAt req 0 ≤ 15) ∧
    (∃ (s : State) (tms : _) (d : _) (rest : List (Int × Int)), s.plb.queue = (tms, d) :: rest ∧ s.plb.state = .manual) ∧
    (∃ (s : State) (tms : _) (d : _) (rest : List (Int × Int)), s.plb.queue = (tms, d) :: rest ∧ s.plb.state ≠ .manual) ∧
    (∃ (s : State), s.plb.state ≠ .manual ∧ s.plb.state ≠ .holdover) ∧
    (∃ (s : State), (s.plb.state = .manual ∨ s.plb.state = .holdover)) ∧
    (∃ (s : State) (v : _) (u : _), u = setReg s (r_PLB_HOST_D + 4) v) ∧
    Witnessed 0x0710 (fun s _ req => plbConfigBad req = false ∧ s.plb.trimSave = none) ∧
    Witnessed 0x0711 (fun s _ _ => s.plb.state ≠ .manual) ∧
    Witnessed 0x0712 (fun _ _ _ => True) ∧
    Witnessed 0x0713 (fun s _ _ => s.plb.state ≠ .manual ∧ s.plb.trimSave = none) ∧
    (∃ (s : State) (theta : Int) (i1 : Int) (u : Int) (a : Int), absInt theta ≤ plbJump s ∧
      i1 = clamp (-(plbIclamp s * 65536)) (plbIclamp s * 65536) (s.plb.integ + plbKi s * -theta) ∧ u = plbKp s * -theta + i1 ∧
      a = roundHalfEven u 65536 ∧ absInt a ≤ plbLimit s) ∧
    (∃ (s : State) (theta : Int), plbJump s < absInt theta ∧ s.plb.armed = false) :=
  ⟨witnessed (up) 0 (rq [(0, 1, 2), (1, 1, 2)]) (by decide +kernel) (by decide +kernel),
    witnessed (up) 0 (rq [(0, 1, 15), (1, 1, 1), (2, 1, 249), (3, 1, 4), (4, 1, 253), (5, 1, 10)]) (by decide +kernel) (by decide +kernel),
    witnessed (up) 0 (rq [(0, 1, 15)]) (by decide +kernel) (by decide +kernel),
    ⟨plbUp { queue := [(1, 2)] }, 1, 2, ([] : List (Int × Int)), by decide +kernel⟩,
    ⟨plbUp { queue := [(1, 2)], state := .acquire }, 1, 2, ([] : List (Int × Int)), by decide +kernel⟩,
    ⟨plbUp { state := .locked }, by decide +kernel⟩,
    ⟨up, by decide +kernel⟩,
    ⟨up, 5, setReg up (r_PLB_HOST_D + 4) 5, by decide +kernel⟩,
    witnessed (up) 0 (zeros 20 ++ toLe 8 1 ++ toLe 8 1 ++ toLe 4 1 ++ toLe 2 1 ++ toLe 2 1 ++ toLe 2 1 ++ zeros 2) (by decide +kernel) (by decide +kernel),
    witnessed (plbUp { state := .locked }) 0 (rq []) (by decide +kernel) (by decide +kernel),
    witnessed (up) 0 (rq []) (by decide +kernel) (by decide +kernel),
    witnessed (plbUp { state := .locked }) 0 (rq []) (by decide +kernel) (by decide +kernel),
    ⟨up, 0, 0, 0, 0, by decide +kernel⟩,
    ⟨up, plbJump up + 1, by decide +kernel⟩⟩

end Ptp

/-! Witnesses: gauge. -/

namespace Gauge

def ent : ErrEntry := { seq := 4, boot := 1, code := 0x0101, stamp := 0, severity := 1, island := 2, func := 0, gen := 0, addr := 0, count := 3, data := [] }

/-- The ID of the counter at an address (R620). -/
def cid (a : Nat) : Nat := (a - 0x1300000000) / 0x4000000 * 268435456 + (a - 0x1300000000) % 0x4000000 + 1

def vals : List Int := (List.range 49).map (fun i => (i : Int))

theorem witness_CountersSnapshotsAndTrace :
    Witnessed 0x0A02 (fun _ _ req => bitAt (byteAt req 0) 0 = false ∧ 1 ≤ byteAt req 1 ∧ byteAt req 1 ≤ 30 ∧ ∀ i < byteAt req 1,
      (counterAddr (le req (4 + 4 * i) 4)).isSome = true) ∧
    (∃ (a : _), Witnessed 0x0A02 (fun s ch req => bitAt (byteAt req 0) 0 = true ∧ chanHolds s ch = true ∧ byteAt req 1 = 1 ∧
      counterAddr (le req 4 4) = some a ∧ bitAt (le req 4 4) 0 = true)) ∧
    (∃ (s : State) (ch : _) (seq : _) (req : _), Begun s ch seq 0x0A02 req ∧ bitAt (byteAt req 0) 0 = true ∧ chanHolds s ch = false) ∧
    (∃ (tm : _), Witnessed 0x0A00 (fun s _ req => s.gauge.snapReq = none ∧
      tm = (if le req 0 8 = 0 then (stampNow s).toNat + 5120000 else le req 0 8) ∧ 2560000 ≤ distance 64 tm (stampNow s).toNat ∧
      distance 64 tm (stampNow s).toNat ≤ 256000000000)) ∧
    (∃ (s : State) (r : SnapReq), s.gauge.snapReq = some r ∧ earlier 64 (stampNow s).toNat r.at_.toNat = true) ∧
    (∃ (s : State) (r : SnapReq), s.gauge.snapReq = some r ∧ earlier 64 (stampNow s).toNat r.at_.toNat = false) ∧
    (∃ (x : _), Witnessed 0x0A01 (fun s _ req => s.gauge.snaps.find? (fun x => x.id = le req 0 4) = some x ∧ 1 ≤ le req 8 2 ∧
      le req 8 2 ≤ 15 ∧ le req 4 4 + le req 8 2 ≤ x.values.length)) ∧
    Witnessed 0x0A10 (fun s _ req => s.gauge.traceRun = false ∧ (le req 8 2 ≤ 2049 ∨ le req 8 2 = 0xFFFF) ∧ byteAt req 10 ≤ 16 ∧
      byteAt req 11 ≤ 1 ∧ le req 0 8 < 2 ^ 38) ∧
    (∃ (s : State) (ch : _) (seq : _) (req : _), Begun s ch seq 0x0A10 req ∧ s.gauge.traceRun = true) ∧
    Witnessed 0x0A11 (fun _ _ _ => True) ∧
    Witnessed 0x0A12 (fun _ _ _ => True) ∧
    Witnessed 0x0A13 (fun _ _ req => 1 ≤ byteAt req 8 ∧ byteAt req 8 ≤ 7) :=
  ⟨witnessed (up) 0 (rq [(1, 1, 2), (4, 4, cid r_CRY_CNT_REPLAY), (8, 4, cid (r_CST_ACT_CNT_TTL 3))]) (by decide +kernel) (by decide +kernel),
    ⟨r_CRY_CNT_REPLAY, witnessed (up) 0 (rq [(0, 1, 1), (1, 1, 1), (4, 4, cid r_CRY_CNT_REPLAY)]) (by decide +kernel) (by decide +kernel)⟩,
    ⟨begun up 5 0x0A02 (rq [(0, 1, 1)]), 5, 1, rq [(0, 1, 1)], ⟨begun_begun _ _ _ _ (by decide +kernel), by decide +kernel⟩⟩,
    ⟨5120000, witnessed (up) 0 (rq []) (by decide +kernel) (by decide +kernel)⟩,
    ⟨{ up with gauge := { snapReq := some ⟨0, 1, 1, 0, false⟩ } }, (⟨0, 1, 1, 0, false⟩ : SnapReq), by decide +kernel⟩,
    ⟨{ up with gauge := { snapReq := some ⟨0, 1, 0, 0, false⟩ } }, (⟨0, 1, 0, 0, false⟩ : SnapReq), by decide +kernel⟩,
    ⟨(⟨4, 0, [(1, 2)]⟩ : Snapshot),
      witnessed ({ up with gauge := { snaps := [⟨4, 0, [(1, 2)]⟩] } }) 0 (rq [(0, 4, 4), (8, 2, 1)]) (by decide +kernel) (by decide +kernel)⟩,
    witnessed (up) 0 (rq [(0, 8, 2 ^ 38 - 1), (8, 2, 0xFFFF), (10, 1, 16), (11, 1, 1)]) (by decide +kernel) (by decide +kernel),
    ⟨begun { up with gauge := { traceRun := true } } 0 0x0A10 (rq []), 0, 1, rq [], ⟨begun_begun _ _ _ _ (by decide +kernel),
      by decide +kernel⟩⟩,
    witnessed (up) 0 (rq []) (by decide +kernel) (by decide +kernel),
    witnessed ({ up with gauge := { traceRun := true } }) 0 (rq []) (by decide +kernel) (by decide +kernel),
    witnessed (up) 0 (rq [(8, 1, 7)]) (by decide +kernel) (by decide +kernel)⟩

theorem witness_ErrorLogSensorsAndWordsAreReadAndWritten :
    (∃ (s : State) (code : _) (w : ErrWindow), s.gauge.windows.find? (fun w => w.code = code) = some w ∧ w.last = none) ∧
    (∃ (s : State) (code : _) (w : ErrWindow) (e : _), s.gauge.windows.find? (fun w => w.code = code) = some w ∧ w.last = some e) ∧
    (∃ (s : State) (values : List Int) (u : _), s.dev.base ≠ .off ∧ s.dev.base ≠ .held ∧ values.length = 49 ∧
      u = { s with gauge := { s.gauge with sensors := (List.range 49).map (fun k => (k, signed 32 (unsigned 32 (values.getD k 0)))) } }) ∧
    Witnessed 0x0A20 (fun _ _ req => bitAt (byteAt req 5) 0 = false ∧ 1 ≤ byteAt req 4 ∧ byteAt req 4 ≤ 3) ∧
    Witnessed 0x0A20 (fun _ _ req => bitAt (byteAt req 5) 0 = true ∧ 1 ≤ byteAt req 4 ∧ byteAt req 4 ≤ 6) ∧
    Witnessed 0x0A21 (fun _ _ _ => True) ∧
    Witnessed 0x0A22 (fun _ _ _ => True) ∧
    Witnessed 0x0A30 (fun _ _ _ => True) ∧
    Witnessed 0x0A40 (fun _ _ req => byteAt req 0 = 0 ∧ 4 ≤ le req 2 2 ∧ le req 2 2 ≤ 240 ∧ le req 2 2 % 4 = 0 ∧
      mappedAll (le req 4 8) (le req 2 2) = true) ∧
    Witnessed 0x0130 (fun _ _ req => 1 ≤ le req 2 2 ∧ le req 2 2 ≤ 60 ∧ le req 0 2 + le req 2 2 ≤ 1024) ∧
    Witnessed 0x0131 (fun _ _ req => 1 ≤ le req 2 2 ∧ le req 2 2 ≤ 56 ∧ le req 0 2 + le req 2 2 ≤ 1024 ∧
      (0x082 < le req 0 2 ∨ le req 0 2 + le req 2 2 ≤ 0x082) ∧ ∀ i < le req 2 2, hwGuarded (le req 0 2 + i) = false ∧
      hwIgnored (le req 0 2 + i) (le req (8 + 4 * i) 4) = false) ∧
    (∃ (s : State) (ch : _) (seq : _) (req : _), Begun s ch seq 0x0131 req ∧ 1 ≤ le req 2 2 ∧ le req 2 2 ≤ 56 ∧
      le req 0 2 + le req 2 2 ≤ 1024 ∧ hwGuarded (le req 0 2) = true) :=
  ⟨⟨{ up with gauge := { windows := [⟨5, 64, 0, none⟩] } }, 5, (⟨5, 64, 0, none⟩ : ErrWindow), by decide +kernel⟩,
    ⟨{ up with gauge := { windows := [⟨0x0101, 64, 3, some ent⟩] } }, 0x0101, (⟨0x0101, 64, 3, some ent⟩ : ErrWindow), ent,
      by decide +kernel⟩,
    ⟨up, (vals : List Int),
      { up with gauge := { up.gauge with sensors := (List.range 49).map (fun k => (k, signed 32 (unsigned 32 (vals.getD k 0)))) } },
      by decide +kernel⟩,
    witnessed ({ up with gauge := { errlog := [ent], nextSeq := 5 } }) 0 (rq [(0, 4, 4), (4, 1, 3)]) (by decide +kernel) (by decide +kernel),
    witnessed ({ up with gauge := { errlog := [ent], nextSeq := 5 } }) 0 (rq [(0, 4, 4), (4, 1, 6), (5, 1, 1)]) (by decide +kernel) (by decide +kernel),
    witnessed (up) 0 (rq []) (by decide +kernel) (by decide +kernel),
    witnessed (up) 0 (rq []) (by decide +kernel) (by decide +kernel),
    witnessed (up) 0 (rq []) (by decide +kernel) (by decide +kernel),
    witnessed (up) 0 (rq [(2, 2, 240), (4, 8, 0)]) (by decide +kernel) (by decide +kernel),
    witnessed (up) 0 (rq [(0, 2, 964), (2, 2, 60)]) (by decide +kernel) (by decide +kernel),
    witnessed (up) 0 (rq [(0, 2, 0x041), (2, 2, 2), (8, 4, 60), (12, 4, 60)]) (by decide +kernel) (by decide +kernel),
    ⟨begun up 0 0x0131 (rq [(0, 2, 0x02F), (2, 2, 1)]), 0, 1, rq [(0, 2, 0x02F), (2, 2, 1)], ⟨begun_begun _ _ _ _ (by decide +kernel),
      by decide +kernel⟩⟩⟩

end Gauge

end Sys2Proof.Tests
end

section
/-! PROOFS. The arithmetic chapter (R51 to R83): wrapping comparison (R62), compact stamps (R64), candidate buckets (R77) and the
token buckets of the Weir shapers (R69). -/

namespace Sys2Proof.Machine

open Sys2Proof

/-! Wrapping values (R62). -/

theorem distance_lt (n a b : Nat) : distance n a b < 2 ^ n := Nat.mod_lt _ (Nat.two_pow_pos n)

/-- On values of width `n` the distance is the difference, with one turn of the counter added when it is negative. -/
theorem distance_eq_ite {n a b : Nat} (ha : a < 2 ^ n) (hb : b < 2 ^ n) :
    distance n a b = if b ≤ a then a - b else a + 2 ^ n - b := by
  rw [distance, Nat.mod_eq_of_lt hb]
  split
  next hle => rw [show a + 2 ^ n - b = a - b + 2 ^ n by omega, Nat.add_mod_right, Nat.mod_eq_of_lt (by omega)]
  next hlt => exact Nat.mod_eq_of_lt (by omega)

theorem cast_distance {n a b : Nat} (hb : b < 2 ^ n) : (distance n a b : Int) = ((a : Int) - b) % (2 : Int) ^ n := by
  have hdiff : ((a + 2 ^ n - b : Nat) : Int) = (a : Int) - b + 2 ^ n := by
    rw [Nat.cast_sub (by omega)]; push_cast; ring
  rw [distance, Nat.mod_eq_of_lt hb, Int.natCast_mod, hdiff, Nat.cast_pow, Nat.cast_ofNat, Int.add_emod_right]

theorem distance_eq_zero_iff {n a b : Nat} (ha : a < 2 ^ n) (hb : b < 2 ^ n) : distance n a b = 0 ↔ a = b := by
  rw [distance_eq_ite ha hb]
  split <;> omega

theorem later_iff (n a b : Nat) : later n a b = true ↔ 1 ≤ distance n a b ∧ distance n a b ≤ 2 ^ (n - 1) - 1 :=
  decide_eq_true_iff

theorem earlier_iff (n a b : Nat) : earlier n a b = true ↔ 2 ^ (n - 1) ≤ distance n a b ∧ distance n a b ≤ 2 ^ n - 1 := by
  have hlt := distance_lt n a b
  rw [earlier, decide_eq_true_iff]
  omega

/-! Compact stamps (R64). -/

/-- The top byte of the 56-bit fraction is bits 31 to 24 of the visible one. -/
theorem bits_visibleFrac_top (v : TimeVal) : bits (visibleFrac v) 31 24 = v.frac.toNat / 2 ^ 48 := by
  have hfrac : v.frac.toNat < 2 ^ 56 := v.frac.isLt
  rw [bits, visibleFrac, Nat.div_div_eq_div_mul, ← pow_add]
  exact Nat.mod_eq_of_lt (Nat.div_lt_of_lt_mul hfrac)

theorem stampOf_toNat (v : TimeVal) :
    (stampOf v).toNat = ((v.s.toNat * 10 ^ 9 + v.ns.toNat) * 256 + bits (visibleFrac v) 31 24) % 2 ^ 64 := by
  rw [bits_visibleFrac_top, stampOf, BitVec.toNat_ofNat]
  norm_num only

/-! Candidate buckets (R77). -/

theorem bits_lt (x hi lo : Nat) : bits x hi lo < 2 ^ (hi + 1 - lo) := Nat.mod_lt _ (Nat.two_pow_pos _)

theorem bits_low (x hi : Nat) : bits x hi 0 = x % 2 ^ (hi + 1) := by simp [bits]

theorem buckets_fst (key : Bytes) : (buckets key).1 = bits (h1 key).toNat 19 0 := (bits_low _ 19).symm

theorem buckets_snd (key : Bytes) : (buckets key).2 =
    if bits (h2 key).toNat 19 0 = bits (h1 key).toNat 19 0 then bits (h1 key).toNat 19 0 ^^^ 1 else bits (h2 key).toNat 19 0 := by
  simp only [bits_low]
  rfl

theorem buckets_fst_lt (key : Bytes) : (buckets key).1 < 1048576 := by
  rw [buckets_fst]
  exact bits_lt _ 19 0

theorem buckets_snd_lt (key : Bytes) : (buckets key).2 < 1048576 := by
  rw [buckets_snd]
  split
  · exact Nat.xor_lt_two_pow (n := 20) (bits_lt _ 19 0) (by decide)
  · exact bits_lt _ 19 0

theorem buckets_ne (key : Bytes) : (buckets key).1 ≠ (buckets key).2 := by
  rw [buckets_fst, buckets_snd]
  split
  · exact fun hself => one_ne_zero (xor_left_eq_self_iff.mp hself.symm)
  next hne => exact Ne.symm hne

/-- Settles O9, from the lemmas about `distance`, `stampOf` and `buckets`; a distance is below `2 ^ n`, so `earlier` needs no upper bound. -/
theorem comparisonsStampsAndBucketsFollowTheirRules : Obligations.ComparisonsStampsAndBucketsFollowTheirRules := by
  refine ⟨?wrapping, stampOf_toNat, ?candidates⟩
  case wrapping =>
    rintro n a b d - ha hb rfl
    exact ⟨cast_distance hb, distance_eq_zero_iff ha hb, later_iff n a b, earlier_iff n a b⟩
  case candidates =>
    intro key
    exact ⟨⟨rfl, rfl⟩, buckets_fst key, buckets_snd key, buckets_fst_lt key, buckets_snd_lt key, buckets_ne key⟩

/-! Token buckets (R69). -/

/-- One tick below the depth: remainder and rate together give their multiples of 2,048 to the level and keep the rest. -/
theorem bucketTick_eq_div_mod {rate depth rem : Nat} {level : Int} (hrem : rem < 2048)
    (hroom : level + ((rem + rate) / 2048 : Nat) ≤ (depth * 65536 : Nat)) :
    bucketTick rate depth level rem = (level + ((rem + rate) / 2048 : Nat), (rem + rate) % 2048) := by
  have hgain : rate / 2048 + (if 2048 ≤ rem + rate % 2048 then 1 else 0) = (rem + rate) / 2048 := by split <;> omega
  have hrest : (if 2048 ≤ rem + rate % 2048 then rem + rate % 2048 - 2048 else rem + rate % 2048) = (rem + rate) % 2048 := by
    split <;> omega
  simp only [bucketTick, hgain, hrest, if_neg (not_lt.mpr hroom)]

/-- R69's two cases of a tick, by whether the remainder reaches 2,048. -/
theorem bucketTick_eq_ite {rate depth rem : Nat} {level : Int} (hrem : rem < 2048)
    (hroom : level + (rate / 2048 + 1 : Nat) ≤ (depth * 65536 : Nat)) :
    bucketTick rate depth level rem =
      if 2048 ≤ rem + rate % 2048 then (level + (rate / 2048 + 1 : Nat), rem + rate % 2048 - 2048)
      else (level + (rate / 2048 : Nat), rem + rate % 2048) := by
  rw [bucketTick_eq_div_mod hrem (by omega)]
  split <;> rw [Prod.mk.injEq] <;> omega

/-- `k` ticks below the depth act as one tick of `k` times the rate: the remainder loses nothing between ticks. -/
theorem bucketTick_iterate {rate depth rem : Nat} {level : Int} (hrem : rem < 2048) (k : Nat)
    (hroom : level + ((rem + k * rate) / 2048 : Nat) ≤ (depth * 65536 : Nat)) :
    (fun x : Int × Nat => bucketTick rate depth x.1 x.2)^[k] (level, rem) =
      (level + ((rem + k * rate) / 2048 : Nat), (rem + k * rate) % 2048) := by
  induction k with
  | zero => simp [Nat.div_eq_of_lt hrem, Nat.mod_eq_of_lt hrem]
  | succ k ih =>
    rw [Nat.succ_mul, ← Nat.add_assoc] at hroom ⊢
    rw [Function.iterate_succ_apply', ih (by omega), bucketTick_eq_div_mod (Nat.mod_lt _ (by decide)) (by omega), Prod.mk.injEq]
    omega

/-- Settles O10, by induction on the ticks: those of a second add `2 ^ 24 * rate` to the remainder, a multiple of 2,048. -/
theorem weirTicksGainExactlyTheRate : Obligations.WeirTicksGainExactlyTheRate := by
  refine ⟨fun rate depth rem level hrem hroom => bucketTick_eq_ite hrem hroom, fun rate depth rem level hrem hroom => ?_⟩
  have hgain : (rem + 16777216 * rate) / 2048 = rate * 8192 := by omega
  have hrest : (rem + 16777216 * rate) % 2048 = rem := by omega
  have hticks := bucketTick_iterate (depth := depth) (level := level) hrem 16777216 (by rwa [hgain])
  rwa [hgain, hrest] at hticks

end Sys2Proof.Machine
end

section
/-! PROOFS. The Jig classifier (R121 to R160): the winner among the matching rules (R127). -/

namespace Sys2Proof.Machine

open Sys2Proof

/-- The rules of a set that match a pass, in the order of the set. -/
def matchingRules (set : RuleSet) (prof : Nat) (keys : List Nat) : List (Nat × Bytes) :=
  set.rules.filter (fun x => ruleMatches x.2 prof keys)

theorem mem_matchingRules {set : RuleSet} {prof : Nat} {keys : List Nat} {x : Nat × Bytes} :
    x ∈ matchingRules set prof keys ↔ x ∈ set.rules ∧ ruleMatches x.2 prof keys = true := List.mem_filter

theorem matchingRules_eq_nil_iff {set : RuleSet} {prof : Nat} {keys : List Nat} :
    matchingRules set prof keys = [] ↔ ∀ x ∈ set.rules, ruleMatches x.2 prof keys = false := by
  simp only [matchingRules, List.filter_eq_nil_iff, Bool.not_eq_true]

/-- The winner is the first of the matching rules whose PRIORITY is the greatest: `List.argmax` keeps the earlier of two equals. -/
theorem ruleWinner_eq_argmax (set : RuleSet) (prof : Nat) (keys : List Nat) :
    ruleWinner set prof keys = (matchingRules set prof keys).argmax (fun x => le x.2 0 2) := by
  rw [ruleWinner, matchingRules, List.argmax, List.foldl_filter]
  congr 1
  funext a x
  cases a <;> rfl

/-- In a list whose keys rise, the entry that comes first has the lower key. -/
theorem key_le_of_idxOf_le {α : Type} [DecidableEq α] {key : α → Nat} {m : List α} (hm : m.Pairwise (fun x y => key x < key y))
    {x y : α} (hx : x ∈ m) (hy : y ∈ m) (hxy : m.idxOf x ≤ m.idxOf y) : key x ≤ key y := by
  have hkeys := List.pairwise_iff_getElem.mp hm _ _ (List.idxOf_lt_length_iff.mpr hx) (List.idxOf_lt_length_iff.mpr hy)
  simp only [List.getElem_idxOf] at hkeys
  rcases hxy.lt_or_eq with hlt | heq
  · exact (hkeys hlt).le
  · rw [(List.idxOf_inj hx).mp heq]

theorem matchingRules_pairwise {set : RuleSet} (prof : Nat) (keys : List Nat) (hset : mapWf set.rules = true) :
    (matchingRules set prof keys).Pairwise (fun x y => x.1 < y.1) :=
  (List.pairwise_map.mp ((mapWf_iff set.rules).mp hset)).filter _

/-- Settles O11: the winner is the `argmax` of the PRIORITY over the matching rules; where two are equal it comes first in the set, which
lies in the order of the indices. -/
theorem theHighestPriorityRuleWins : Obligations.TheHighestPriorityRuleWins := by
  refine ⟨fun set prof keys => ?none, fun set prof keys i r hset hwin => ?some⟩
  case none => rw [ruleWinner_eq_argmax, List.argmax_eq_none, matchingRules_eq_nil_iff]
  case some =>
    rw [ruleWinner_eq_argmax] at hwin
    obtain ⟨hmem, hmax, hfirst⟩ := List.argmax_eq_some_iff.mp hwin
    obtain ⟨hrule, hmatch⟩ := mem_matchingRules.mp hmem
    refine ⟨hrule, hmatch, fun j q hq hqmatch => ?_⟩
    have hqmem : (j, q) ∈ matchingRules set prof keys := mem_matchingRules.mpr ⟨hq, hqmatch⟩
    rcases (hmax _ hqmem).lt_or_eq with hlt | heq
    · exact .inl hlt
    · exact .inr ⟨heq, key_le_of_idxOf_le (key := Prod.fst) (matchingRules_pairwise prof keys hset) hmem hqmem (hfirst _ hqmem heq.ge)⟩

end Sys2Proof.Machine
end

section
/-! PROOFS. The electrical package (R640 to R665): what a reset that leads to HELD discards and keeps (R572, R573), and the pulses on
SYS_RST_N (R647). -/

namespace Sys2Proof.Machine

open Sys2Proof

/-! A reset that leads to HELD. -/

theorem dropLines_changes (s : State) : ChangesOnly [.out] s (dropLines s) := by
  have hite : ∀ (u : State) (b : Bool) (o : Output), ChangesOnly [.out] u (if b then emit u o else u) := by
    intro u b o
    split
    · exact emit_changes u o
    · exact ChangesOnly.refl _ u
  exact ((hite s _ _).step (hite _ _ _)).step (ChangesOnly.foldl _ (fun u (x : Nat × TioChan) => hite u x.2.active _) _ _)

@[simp] theorem dropLines_pending (s : State) : (dropLines s).pending = s.pending :=
  (dropLines_changes s .pending).resolve_left (by decide)
@[simp] theorem dropLines_dev (s : State) : (dropLines s).dev = s.dev := (dropLines_changes s .dev).resolve_left (by decide)
@[simp] theorem dropLines_hw (s : State) : (dropLines s).hw = s.hw := (dropLines_changes s .hw).resolve_left (by decide)

/-- The parts in which an adapter after a reset may differ from one that never had power. -/
def resetParts : List Part := [.pending, .dev, .hw, .flash, .ep0, .ep1, .itw, .tap, .out, .fresh]

theorem not_mem_resetParts {p : Part} (hp : p ∈ volatileParts) : p ∉ resetParts := by
  revert p
  decide

theorem resetVolatile_changes (s : State) (base : BaseMode) : ChangesOnly resetParts State.reset (resetVolatile s base) := by
  intro p; cases p <;> simp [resetParts, Part.same, resetVolatile]

@[simp] theorem resetVolatile_pending (s : State) (base : BaseMode) : (resetVolatile s base).pending = s.pending := dropLines_pending s

theorem hwWord_resetVolatile (s : State) (base : BaseMode) (w : Nat) : hwWord (resetVolatile s base) w = hwWord s w := by
  simp [hwWord, resetVolatile]

theorem flashSettle_changes (s : State) : ChangesOnly [.flash] s (flashSettle s) := by
  intro p; cases p <;> simp [Part.same, flashSettle]

theorem resetTo_changes (s : State) (cause : Nat) : ChangesOnly resetParts State.reset (resetTo s cause) :=
  ((resetVolatile_changes s .held).step ((flashSettle_changes _).mono (by decide))).step ((hwSet_changes _ _ _).mono (by decide))

@[simp] theorem resetTo_dev (s : State) (cause : Nat) : (resetTo s cause).dev =
    { base := .held, suppliesUp := s.dev.suppliesUp, sysRstN := s.dev.sysRstN, tbOsc := s.dev.tbOsc, ethRefclk := s.dev.ethRefclk,
      coreMv := s.dev.coreMv } := by
  simp [resetTo, flashSettle, resetVolatile]

theorem hwWord_resetTo_cause (s : State) {cause : Nat} (hcause : cause < 8) :
    hwWord (resetTo s cause) 0x012 = BitVec.ofNat 32 cause := by
  rw [resetTo, hwWord_hwSet_self]
  revert cause
  decide

theorem hwWord_resetTo_ne (s : State) (cause : Nat) {w : Nat} (hw : w ≠ 0x012) : hwWord (resetTo s cause) w = hwWord s w :=
  (hwWord_hwSet_ne _ _ hw).trans (hwWord_resetVolatile s .held w)

/-- RESET_CAUSE is bits [2:0] of its Heartwood word (R614), so a cause below 8 is kept whole. -/
theorem resetTo_heldWith (s : State) {cause : Nat} (hcause : cause < 8) : HeldWith s (resetTo s cause) cause :=
  ⟨fun p hp => (resetTo_changes s cause p).resolve_left (not_mem_resetParts hp), by rw [resetTo_dev],
    hwWord_resetTo_cause s hcause, fun _ hw => hwWord_resetTo_ne s cause hw, resetVolatile_pending s .held⟩

/-! Pulses on SYS_RST_N (R647). -/

theorem exec_sysRstNAssert_of_ignored (s : State) {w : Nat} (hw : w ≤ 200) : exec (.sysRstNAssert w) s = .next s := if_pos hw

theorem exec_sysRstNAssert_of_reset {s : State} {w : Nat} (hbase : s.dev.base ≠ .off) (hw : 1000 ≤ w) :
    exec (.sysRstNAssert w) s = .next (resetTo { s with dev := { s.dev with sysRstN := false } } 1) := by
  show execSysRstNAssert w s = _
  have hlong : ¬ w ≤ 200 := by omega
  simp [execSysRstNAssert, hlong, hw, hbase]

/-- Settles O8: from 1 µs on the pulse is the reset to HELD with cause 1 of the state whose pin is low, which differs from the state
before the pulse in nothing that `HeldWith` compares; up to 200 ns it is no step. -/
theorem resetPulsesActByTheirWidth : Obligations.ResetPulsesActByTheirWidth := by
  refine ⟨fun s w hbase hw => ?reset, fun s w hw => exec_sysRstNAssert_of_ignored s hw⟩
  case reset =>
    have hheld := resetTo_heldWith { s with dev := { s.dev with sysRstN := false } } (cause := 1) (by decide)
    exact ⟨_, exec_sysRstNAssert_of_reset hbase hw, hheld, by rw [resetTo_dev]⟩

end Sys2Proof.Machine
end

section
/-! PROOFS. The relation `Keeps`: a change within a list of parts that keeps the invariants of the mailboxes (R505) and of the stores
(R541, R629). -/

namespace Sys2Proof.Machine

open Sys2Proof

set_option Elab.async false

/-- `t` with the parts outside `ps` taken from `s`. -/
def State.patch (ps : List Part) (s t : State) : State :=
  { pending := bif ps.contains .pending then t.pending else s.pending
    dev := bif ps.contains .dev then t.dev else s.dev
    hw := bif ps.contains .hw then t.hw else s.hw
    fw := bif ps.contains .fw then t.fw else s.fw
    flash := bif ps.contains .flash then t.flash else s.flash
    role := bif ps.contains .role then t.role else s.role
    slices := bif ps.contains .slices then t.slices else s.slices
    mbx := bif ps.contains .mbx then t.mbx else s.mbx
    mctp := bif ps.contains .mctp then t.mctp else s.mctp
    ep0 := bif ps.contains .ep0 then t.ep0 else s.ep0
    ep1 := bif ps.contains .ep1 then t.ep1 else s.ep1
    rings := bif ps.contains .rings then t.rings else s.rings
    pkts := bif ps.contains .pkts then t.pkts else s.pkts
    nextPid := bif ps.contains .nextPid then t.nextPid else s.nextPid
    basin := bif ps.contains .basin then t.basin else s.basin
    plane := bif ps.contains .plane then t.plane else s.plane
    rasp := bif ps.contains .rasp then t.rasp else s.rasp
    jig := bif ps.contains .jig then t.jig else s.jig
    cst := bif ps.contains .cst then t.cst else s.cst
    sqr := bif ps.contains .sqr then t.sqr else s.sqr
    act := bif ps.contains .act then t.act else s.act
    csc := bif ps.contains .csc then t.csc else s.csc
    twin := bif ps.contains .twin then t.twin else s.twin
    prp := bif ps.contains .prp then t.prp else s.prp
    itw := bif ps.contains .itw then t.itw else s.itw
    cry := bif ps.contains .cry then t.cry else s.cry
    nvt := bif ps.contains .nvt then t.nvt else s.nvt
    port0 := bif ps.contains .port0 then t.port0 else s.port0
    port1 := bif ps.contains .port1 then t.port1 else s.port1
    macs := bif ps.contains .macs then t.macs else s.macs
    weir := bif ps.contains .weir then t.weir else s.weir
    time := bif ps.contains .time then t.time else s.time
    tio := bif ps.contains .tio then t.tio else s.tio
    plb := bif ps.contains .plb then t.plb else s.plb
    ptp := bif ps.contains .ptp then t.ptp else s.ptp
    hbm := bif ps.contains .hbm then t.hbm else s.hbm
    gauge := bif ps.contains .gauge then t.gauge else s.gauge
    tap := bif ps.contains .tap then t.tap else s.tap
    regs := bif ps.contains .regs then t.regs else s.regs
    latches := bif ps.contains .latches then t.latches else s.latches
    mem := bif ps.contains .mem then t.mem else s.mem
    out := bif ps.contains .out then t.out else s.out
    fresh := bif ps.contains .fresh then t.fresh else s.fresh }

theorem ChangesOnly.of_patch {ps : List Part} {s t : State} (h : t = s.patch ps t) : ChangesOnly ps s t := by
  intro p
  by_cases hp : p ∈ ps
  · exact .inl hp
  · right; rw [h]; cases p <;> simp [Part.same, State.patch, hp]


/-! A change within a list of parts that keeps the two invariants. -/

/-- `t` differs from `s` in the parts `ps` at the most, and keeps the invariants of mailboxes and stores that `s` has. -/
structure Keeps (ps : List Part) (s t : State) : Prop where
  frame : ChangesOnly ps s t
  boxes : MailboxesOk s → MailboxesOk t
  stores : StoresOk s → StoresOk t

theorem MailboxesOk.congr {s t : State} (h : t.mbx.fwGen = s.mbx.fwGen) (k : t.mbx.chans = s.mbx.chans) (hs : MailboxesOk s) :
    MailboxesOk t := by
  unfold MailboxesOk; rw [h, k]; exact hs

theorem StoresOk.congr {s t : State} (hm : t.mem = s.mem) (he : t.gauge.errlog = s.gauge.errlog) (hc : t.mbx.chans = s.mbx.chans)
    (hs : StoresOk s) : StoresOk t := by
  unfold StoresOk; rw [hm, he, hc]; exact hs

theorem Keeps.refl {ps : List Part} {s : State} : Keeps ps s s := ⟨ChangesOnly.refl ps s, id, id⟩

/-- A change within fewer parts that follows one within `ps`; the later change comes first, as in the term it is about. -/
theorem Keeps.last {ps qs : List Part} {s t u : State} (k : Keeps qs t u) (h : Keeps ps s t) (sub : qs ⊆ ps := by decide) :
    Keeps ps s u :=
  ⟨h.frame.step (k.frame.mono sub), k.boxes ∘ h.boxes, k.stores ∘ h.stores⟩

theorem Keeps.mono {ps qs : List Part} {s t : State} (h : Keeps qs s t) (sub : qs ⊆ ps := by decide) : Keeps ps s t :=
  h.last .refl sub

/-- A record update that leaves the channels, the memory and the error log alone. -/
theorem Keeps.put {ps : List Part} {s t u : State} (frame : u = t.patch ps u) (fwGen : u.mbx.fwGen = t.mbx.fwGen) (chans : u.mbx.chans = t.mbx.chans) (mem : u.mem = t.mem)
    (errlog : u.gauge.errlog = t.gauge.errlog) (h : Keeps ps s t) : Keeps ps s u :=
  .last ⟨.of_patch frame, .congr fwGen chans, .congr mem errlog chans⟩ h (List.Subset.refl ps)

/-- The same of a change of parts that hold none of these. -/
theorem Keeps.of_changes {ps : List Part} {s t : State} (h : ChangesOnly ps s t)
    (quiet : Part.mbx ∉ ps ∧ Part.mem ∉ ps ∧ Part.gauge ∉ ps := by decide) : Keeps ps s t := by
  obtain ⟨hmbx, hmem, hgauge⟩ := quiet
  have mbx : t.mbx = s.mbx := (h .mbx).resolve_left hmbx
  have mem : t.mem = s.mem := (h .mem).resolve_left hmem
  have gauge : t.gauge = s.gauge := (h .gauge).resolve_left hgauge
  exact ⟨h, .congr (by rw [mbx]) (by rw [mbx]), .congr mem (by rw [gauge]) (by rw [mbx])⟩

/-- A part outside the list is as it was. -/
theorem Keeps.same {ps : List Part} {s t : State} (h : Keeps ps s t) (p : Part) (hp : p ∉ ps := by decide) : p.same s t :=
  (h.frame p).resolve_left hp

theorem Keeps.ite {ps : List Part} {s t u : State} {c : Prop} [Decidable c] (h : Keeps ps s t) (k : Keeps ps s u) :
    Keeps ps s (if c then t else u) := by
  split
  · exact h
  · exact k

theorem Keeps.foldl {α : Type} {ps : List Part} {s t : State} {f : State → α → State} {l : List α} (h : Keeps ps s t)
    (step : ∀ u a, Keeps ps u (f u a)) : Keeps ps s (l.foldl f t) := by
  induction l generalizing t with
  | nil => exact h
  | cons a l ih => exact ih (.last (step t a) h (List.Subset.refl ps))

theorem Keeps.foldl_snd {α β : Type} {ps : List Part} {s : State} {f : β × State → α → β × State}
    (step : ∀ a x, Keeps ps s a.2 → Keeps ps s (f a x).2) {l : List α} {a : β × State} (h : Keeps ps s a.2) :
    Keeps ps s (l.foldl f a).2 := by
  induction l generalizing a with
  | nil => exact h
  | cons x l ih => exact ih (step a x h)

theorem Keeps.of_eq {β : Type} {ps : List Part} {s t : State} {x : State × β} {y : β} (e : x = (t, y)) (h : Keeps ps s x.1) :
    Keeps ps s t := by
  rw [e] at h; exact h

theorem Keeps.of_eq_snd {β : Type} {ps : List Part} {s t : State} {x : β × State} {y : β} (e : x = (y, t)) (h : Keeps ps s x.2) :
    Keeps ps s t := by
  rw [e] at h; exact h

/-- Fewer parts than a list that lies within another. -/
theorem subset_of {ps qs rs : List Part} (sub : rs ⊆ ps) (h : qs ⊆ rs := by decide) : qs ⊆ ps := List.Subset.trans h sub

/-- What comes of an operation that may have no result. -/
def OptKeeps (ps : List Part) (s : State) (o : Option State) : Prop := ∀ t, o = some t → Keeps ps s t

theorem OptKeeps.none {ps : List Part} {s : State} : OptKeeps ps s none := by
  intro t h; cases h

theorem OptKeeps.some {ps : List Part} {s t : State} (h : Keeps ps s t) : OptKeeps ps s (some t) := by
  intro u hu; cases hu; exact h

theorem OptKeeps.mono {ps qs : List Part} {s : State} {o : Option State} (h : OptKeeps qs s o) (sub : qs ⊆ ps := by decide) :
    OptKeeps ps s o :=
  fun t ht => (h t ht).mono sub

theorem OptKeeps.ite {ps : List Part} {s : State} {o o' : Option State} {c : Prop} [Decidable c] (h : OptKeeps ps s o)
    (k : OptKeeps ps s o') : OptKeeps ps s (if c then o else o') := by
  split
  · exact h
  · exact k

theorem OptKeeps.getD {ps : List Part} {s : State} {o : Option State} (h : OptKeeps ps s o) : Keeps ps s (o.getD s) := by
  cases o with
  | none => exact .refl
  | some t => exact h t rfl

/-- A command completes with a change that keeps what `Keeps` says. -/
def Runs (ps : List Part) (s : State) (o : Host.Outcome State Fault Refusal) : Prop := ∃ t, o = .next t ∧ Keeps ps s t

theorem Runs.next {ps : List Part} {s t : State} (h : Keeps ps s t) : Runs ps s (.next t) := ⟨t, rfl, h⟩

theorem Runs.ite {ps : List Part} {s : State} {o o' : Host.Outcome State Fault Refusal} {c : Prop} [Decidable c] (h : Runs ps s o)
    (k : Runs ps s o') : Runs ps s (if c then o else o') := by
  split
  · exact h
  · exact k

theorem Runs.mono {ps qs : List Part} {s : State} {o : Host.Outcome State Fault Refusal} (h : Runs qs s o) (sub : qs ⊆ ps := by decide) :
    Runs ps s o := by
  obtain ⟨t, ho, ht⟩ := h
  exact ⟨t, ho, ht.mono sub⟩

/-! Registers, Heartwood words, functions, slices, queue pairs, MACs, packets and clusters. -/

theorem setReg_keeps (s : State) (a : Nat) (v : Word) : Keeps [.regs] s (setReg s a v) := .of_changes (setReg_changes s a v)
theorem emit_keeps (s : State) (o : Output) : Keeps [.out] s (emit s o) := .of_changes (emit_changes s o)
theorem drawn_keeps (s : State) : Keeps [.fresh] s (drawn s) := .of_changes (drawn_changes s)
theorem hwSet_keeps (s : State) (w : Nat) (v : Word) : Keeps [.hw] s (hwSet s w v) := .of_changes (hwSet_changes s w v)
theorem hwSetAll_keeps (s : State) (w : Nat) (vs : List Word) : Keeps [.hw] s (hwSetAll s w vs) := .of_changes (hwSetAll_changes vs s w)
theorem epSet_keeps (s : State) (ep : Nat) (e : Endpoint) : Keeps [.ep0, .ep1] s (epSet s ep e) := .of_changes (epSet_changes s ep e)

/-! Channels. -/

/-- Direction lists, generation and journal of a channel stay within R505 and R541. -/
def ChanKept (fwGen : BitVec 16) (c d : MbxChan) : Prop :=
  (dirOk c.hostGen c.toFw = true ∧ dirOk fwGen c.toHost = true → dirOk d.hostGen d.toFw = true ∧ dirOk fwGen d.toHost = true) ∧
    (c.journal.length ≤ 64 → d.journal.length ≤ 64)

/-- A channel whose messages, generation and journal are as they were. -/
theorem ChanKept.same {fwGen : BitVec 16} {c d : MbxChan} (toFw : d.toFw = c.toFw) (toHost : d.toHost = c.toHost)
    (hostGen : d.hostGen = c.hostGen) (journal : d.journal = c.journal) : ChanKept fwGen c d := by
  unfold ChanKept; rw [toFw, toHost, hostGen, journal]; exact ⟨id, id⟩

theorem mem_of_mapGet {α : Type} {m : AMap α} {k : Nat} {v : α} (h : mapGet m k = some v) : (k, v) ∈ m := by
  induction m with
  | nil => simp at h
  | cons p m ih =>
    obtain ⟨a, w⟩ := p
    unfold mapGet at h
    split at h
    next hk => cases h; simp [hk]
    next => exact List.mem_cons_of_mem _ (ih h)

/-- What holds of every entry and of the default holds of every channel read. -/
theorem chanGet_of_forall {P : MbxChan → Prop} {s : State} (ch : Nat) (h : ∀ p ∈ s.mbx.chans, P p.2) (d : P (chanReset ch)) :
    P (chanGet s ch) := by
  unfold chanGet mapGetD
  cases hget : mapGet s.mbx.chans ch with
  | none => exact d
  | some c => exact h _ (mem_of_mapGet hget)

theorem MailboxesOk.chan {s : State} (h : MailboxesOk s) (ch : Nat) :
    dirOk (chanGet s ch).hostGen (chanGet s ch).toFw = true ∧ dirOk s.mbx.fwGen (chanGet s ch).toHost = true :=
  chanGet_of_forall (P := fun c => dirOk c.hostGen c.toFw = true ∧ dirOk s.mbx.fwGen c.toHost = true) ch h ⟨rfl, rfl⟩

theorem chanSet_keeps {s : State} {ch : Nat} {c : MbxChan} (h : ChanKept s.mbx.fwGen (chanGet s ch) c) : Keeps [.mbx] s (chanSet s ch c) where
  frame := chanSet_changes s ch c
  boxes ok := by
    intro p hp
    rcases mem_mapSet _ _ _ hp with rfl | hp
    · exact h.1 (ok.chan ch)
    · exact ok p hp
  stores ok := by
    refine ⟨ok.1, ok.2.1, fun p hp => ?_⟩
    rcases mem_mapSet _ _ _ hp with rfl | hp
    · exact h.2 (chanGet_of_forall (P := fun c => c.journal.length ≤ 64) ch ok.2.2 (by simp [chanReset]))
    · exact ok.2.2 p hp

theorem chanMod_keeps {s : State} {ch : Nat} {g : MbxChan → MbxChan} (h : ∀ c, ChanKept s.mbx.fwGen c (g c)) : Keeps [.mbx] s (chanMod s ch g) :=
  chanSet_keeps (h _)

theorem journalPut_kept {fwGen : BitVec 16} {c d : MbxChan} {e : Journal} (toFw : d.toFw = c.toFw) (toHost : d.toHost = c.toHost)
    (hostGen : d.hostGen = c.hostGen) (journal : d.journal = journalPut c.journal e) : ChanKept fwGen c d := by
  unfold ChanKept; rw [toFw, toHost, hostGen, journal]; exact ⟨id, length_journalPut c.journal e⟩

/-! A direction of a channel (R505). -/

theorem dirOk_iff (gen : BitVec 16) (ms : List Msg) : dirOk gen ms = true ↔
    (ms.length ≤ 2 ∧ (ms.filter (fun m => m.senderGen = gen)).length ≤ 1) ∧
      (ms.length < 2 ∨ ms.getLast?.any (fun m => m.senderGen = gen) = true) := by
  simp [dirOk]

/-- One message is in order whatever its generation. -/
theorem dirOk_of_length_le_one {gen : BitVec 16} {ms : List Msg} (h : ms.length ≤ 1) : dirOk gen ms = true := by
  rw [dirOk_iff]
  exact ⟨⟨by omega, (List.length_filter_le _ _).trans h⟩, .inl (by omega)⟩

theorem dirOk_tail {gen : BitVec 16} {m : Msg} {ms : List Msg} (h : dirOk gen (m :: ms) = true) : dirOk gen ms = true := by
  rw [dirOk_iff] at h
  exact dirOk_of_length_le_one (by have := h.1.1; simp at this; omega)

/-- Once the older of two messages is superseded, any generation may be the current one. -/
theorem dirOk_supersede {gen new : BitVec 16} {ms : List Msg} (h : dirOk gen ms = true) : dirOk new (supersede ms gen) = true := by
  obtain ⟨⟨len, -⟩, last⟩ := (dirOk_iff gen ms).mp h
  apply dirOk_of_length_le_one
  unfold supersede
  split
  next => simp; omega
  next hn =>
    rcases last with hl | hl
    · omega
    · by_contra hlen
      obtain ⟨m, hm, hg⟩ := (Option.any_eq_true _ _).mp hl
      exact hn ⟨by omega, List.any_eq_true.mpr ⟨m, List.mem_of_getLast? hm, hg⟩⟩

/-- A direction without a message of the current generation has room for one. -/
theorem dirOk_post {gen : BitVec 16} {ms : List Msg} {m : Msg} (h : dirOk gen ms = true) (room : ms.any (fun m => m.senderGen = gen) = false)
    (current : m.senderGen = gen) : dirOk gen (ms ++ [m]) = true := by
  obtain ⟨⟨len, -⟩, last⟩ := (dirOk_iff gen ms).mp h
  have none : ms.filter (fun m => m.senderGen = gen) = [] := by
    rw [List.filter_eq_nil_iff]; exact List.any_eq_false.mp room
  have short : ms.length < 2 := by
    rcases last with hl | hl
    · exact hl
    · obtain ⟨x, hx, hg⟩ := (Option.any_eq_true _ _).mp hl
      exact absurd hg (List.any_eq_false.mp room x (List.mem_of_getLast? hx))
  rw [dirOk_iff]
  exact ⟨⟨by simp; omega, by simp [List.filter_append, none, current]⟩, .inr (by simp [current])⟩

/-- A channel whose directions stay in order and whose journal does not grow. -/
theorem ChanKept.of_dirs {fwGen : BitVec 16} {c d : MbxChan} (toFw : dirOk c.hostGen c.toFw = true → dirOk d.hostGen d.toFw = true)
    (toHost : dirOk fwGen c.toHost = true → dirOk fwGen d.toHost = true) (journal : d.journal.length ≤ c.journal.length) : ChanKept fwGen c d :=
  ⟨fun h => ⟨toFw h.1, toHost h.2⟩, journal.trans⟩

/-- A channel read before other parts changed, written back. -/
theorem chanSet_keeps_of {s u : State} {ch : Nat} {c : MbxChan} (same : u.mbx = s.mbx) (h : ChanKept s.mbx.fwGen (chanGet s ch) c) :
    Keeps [.mbx] u (chanSet u ch c) := by
  apply chanSet_keeps
  rw [same, chanGet_congr same]
  exact h

/-- The oldest message of a direction is taken out. -/
theorem toHost_tail_kept {fwGen : BitVec 16} {c d : MbxChan} {m : Msg} {rest : List Msg} (oldest : c.toHost = m :: rest)
    (toFw : d.toFw = c.toFw) (toHost : d.toHost = rest) (hostGen : d.hostGen = c.hostGen) (journal : d.journal = c.journal) :
    ChanKept fwGen c d :=
  .of_dirs (by rw [toFw, hostGen]; exact id) (by rw [toHost, oldest]; exact dirOk_tail) (by rw [journal])

theorem toFw_tail_kept {fwGen : BitVec 16} {c d : MbxChan} {m : Msg} {rest : List Msg} (oldest : c.toFw = m :: rest)
    (toFw : d.toFw = rest) (toHost : d.toHost = c.toHost) (hostGen : d.hostGen = c.hostGen) (journal : d.journal = c.journal) :
    ChanKept fwGen c d :=
  .of_dirs (by rw [toFw, hostGen, oldest]; exact dirOk_tail) (by rw [toHost]; exact id) (by rw [journal])

/-! Bytes of memory. -/

theorem memWriteN_keeps (s : State) (a : Nat) (b : Bytes) : Keeps [.mem] s { s with mem := memWriteN s.mem a b } where
  frame := .of_patch rfl
  boxes := id
  stores ok := ⟨Memory.wf_memWriteN b s.mem a ok.1, ok.2⟩

end Sys2Proof.Machine
end

section
/-! PROOFS. The parts that each function of the model changes, in the order of the model's files; each lemma says so once, for the
functions and commands that call it. -/

namespace Sys2Proof.Machine

open Sys2Proof

set_option Elab.async false

/-! Regs: registers and Heartwood. -/

theorem setBits_keeps (s : State) (a : Nat) (m : Word) : Keeps [.regs] s (setBits s a m) := by
  unfold setBits
  exact .mono (setReg_keeps _ _ _)

theorem bumpBy_keeps (s : State) (a n : Nat) : Keeps [.regs] s (bumpBy s a n) := by
  unfold bumpBy
  exact .mono (setReg_keeps _ _ _)

theorem bump_keeps (s : State) (a : Nat) : Keeps [.regs] s (bump s a) := by
  unfold bump
  exact .mono (bumpBy_keeps _ _ _)

theorem bump64_keeps (s : State) (a n : Nat) : Keeps [.regs] s (bump64 s a n) := by
  unfold bump64
  exact .last (setReg_keeps _ _ _) (.mono (setReg_keeps _ _ _))

theorem capture_keeps (s : State) (a : Nat) (v : Nat) : Keeps [.regs] s (capture s a v) := by
  unfold capture
  exact .ite .refl (.mono (setReg_keeps _ _ _))

theorem hwCount_keeps (s : State) (w : Nat) : Keeps [.regs] s (hwCount s w) := by
  unfold hwCount
  exact .ite .refl (.mono (bump_keeps _ _))

theorem hwSetField_keeps (s : State) (w hi lo v : Nat) : Keeps [.hw] s (hwSetField s w hi lo v) := by
  unfold hwSetField
  exact .mono (hwSet_keeps _ _ _)

theorem hwJournal_keeps (s : State) (w : Nat) (ws : List Word) : Keeps [.hw] s (hwJournal s w ws) := by
  unfold hwJournal
  refine .last (hwSet_keeps _ _ _) ?_
  refine .last (hwSetAll_keeps _ _ _) ?_
  exact .last (hwSet_keeps _ _ _) (.last (hwSet_keeps _ _ _) (.mono (hwSetAll_keeps _ _ _)))

/-! Ops: the operations shared by all islands. -/

theorem epMod_keeps (s : State) (ep : Nat) (f : Endpoint → Endpoint) : Keeps [.ep0, .ep1] s (epMod s ep f) := by
  unfold epMod
  exact .mono (epSet_keeps _ _ _)

theorem fnSet_keeps (s : State) (ep f : Nat) (v : Func) : Keeps [.ep0, .ep1] s (fnSet s ep f v) := by
  unfold fnSet
  exact .mono (epMod_keeps _ _ _)

theorem fnMod_keeps (s : State) (ep f : Nat) (g : Func → Func) : Keeps [.ep0, .ep1] s (fnMod s ep f g) := by
  unfold fnMod
  exact .mono (fnSet_keeps _ _ _ _)

theorem sliceMod_keeps (s : State) (n : Nat) (g : Slice → Slice) : Keeps [.slices] s (sliceMod s n g) := by
  unfold sliceMod
  exact .put rfl rfl rfl rfl rfl .refl

theorem qpSet_keeps (s : State) (ep g : Nat) (q : QPair) : Keeps [.rings] s (qpSet s ep g q) := by
  unfold qpSet
  exact .put rfl rfl rfl rfl rfl .refl

theorem qpMod_keeps (s : State) (ep g : Nat) (h : QPair → QPair) : Keeps [.rings] s (qpMod s ep g h) := by
  unfold qpMod
  exact .mono (qpSet_keeps _ _ _ _)

theorem macSet_keeps (s : State) (m : Nat) (x : MacState) : Keeps [.macs] s (macSet s m x) := by
  unfold macSet
  exact .put rfl rfl rfl rfl rfl .refl

theorem macMod_keeps (s : State) (m : Nat) (g : MacState → MacState) : Keeps [.macs] s (macMod s m g) := by
  unfold macMod
  exact .mono (macSet_keeps _ _ _)

theorem pktSet_keeps (s : State) (p : Nat) (k : Pkt) : Keeps [.pkts] s (pktSet s p k) := by
  unfold pktSet
  exact .put rfl rfl rfl rfl rfl .refl

theorem pktErase_keeps (s : State) (p : Nat) : Keeps [.pkts] s (pktErase s p) := by
  unfold pktErase
  exact .put rfl rfl rfl rfl rfl .refl

theorem clusterSet_keeps (s : State) (q : Nat) (c : Cluster) : Keeps [.csc] s (clusterSet s q c) := by
  unfold clusterSet
  exact .put rfl rfl rfl rfl rfl .refl

theorem clusterMod_keeps (s : State) (q : Nat) (g : Cluster → Cluster) : Keeps [.csc] s (clusterMod s q g) := by
  unfold clusterMod
  exact .mono (clusterSet_keeps _ _ _)

theorem dueVec_keeps (s : State) (ep f v : Nat) : Keeps [.ep0, .ep1] s (dueVec s ep f v) := by
  unfold dueVec
  exact .ite (.mono (fnSet_keeps _ _ _ _)) .refl

theorem mgrEvent_keeps (s : State) (ep bit : Nat) : Keeps [.ep0, .ep1, .regs] s (mgrEvent s ep bit) := by
  unfold mgrEvent
  exact .ite (.last (dueVec_keeps _ _ _ _) (.mono (setBits_keeps _ _ _))) (.mono (setBits_keeps _ _ _))

theorem vfEvent_keeps (s : State) (ep v bit : Nat) : Keeps [.ep0, .ep1, .regs] s (vfEvent s ep v bit) := by
  unfold vfEvent
  exact .ite (.last (dueVec_keeps _ _ _ _) (.mono (setBits_keeps _ _ _))) (.mono (setBits_keeps _ _ _))

theorem vfEventAll_keeps (s : State) (bit : Nat) : Keeps [.ep0, .ep1, .regs] s (vfEventAll s bit) := by
  unfold vfEventAll
  refine .foldl ?_ (fun _ _ => ?_)
  · exact .foldl .refl (fun _ _ => .mono (vfEvent_keeps _ _ _ _))
  · exact .mono (vfEvent_keeps _ _ _ _)

theorem mgrEventBoth_keeps (s : State) (bit : Nat) : Keeps [.ep0, .ep1, .regs] s (mgrEventBoth s bit) := by
  unfold mgrEventBoth
  exact .last (mgrEvent_keeps _ _ _) (.mono (mgrEvent_keeps _ _ _))

theorem trace_keeps (s : State) (source kind flags slice sample : Nat) (data : Bytes) :
    Keeps [.gauge, .regs] s (trace s source kind flags slice sample data) := by
  unfold trace
  dsimp only
  split
  · split
    · exact .last (setBits_keeps _ _ _) (.put rfl rfl rfl rfl rfl .refl)
    · exact .put rfl rfl rfl rfl rfl .refl
  · exact .refl

theorem queueEvent_keeps (s : State) (ch code : Nat) (payload : Bytes) :
    Keeps [.mbx, .gauge, .regs] s (queueEvent s ch code payload) := by
  unfold queueEvent
  refine .ite ?_ ?_
  · refine .ite ?_ ?_
    · exact .last (bump_keeps _ _) (.mono (chanSet_keeps (.same rfl rfl rfl rfl)))
    · exact .last (trace_keeps _ _ _ _ _ _ _) (.mono (chanSet_keeps (.same rfl rfl rfl rfl)))
  · exact .refl

theorem eventToPf0_keeps (s : State) (ep code : Nat) (payload : Bytes) :
    Keeps [.mbx, .gauge, .regs] s (eventToPf0 s ep code payload) := by
  unfold eventToPf0
  split
  · exact .mono (queueEvent_keeps _ _ _ _)
  · exact .refl

theorem eventToManager_keeps (s : State) (code : Nat) (payload : Bytes) :
    Keeps [.mbx, .gauge, .regs] s (eventToManager s code payload) := by
  unfold eventToManager
  refine .last (queueEvent_keeps _ _ _ _) ?_
  split
  · exact .mono (eventToPf0_keeps _ _ _ _)
  · exact .refl

theorem eventToFunc_keeps (s : State) (ep f code : Nat) (payload : Bytes) :
    Keeps [.mbx, .gauge, .regs] s (eventToFunc s ep f code payload) := by
  unfold eventToFunc
  exact .ite (.mono (eventToPf0_keeps _ _ _ _)) (.mono (queueEvent_keeps _ _ _ _))

theorem errSummary_keeps (s : State) (e : ErrEntry) : Keeps [.hw] s (errSummary s e) := by
  unfold errSummary
  exact .last (hwSet_keeps _ _ _) (.mono (hwSetAll_keeps _ _ _))

/-- A full log gives up its oldest entry, so it holds 4,096 entries at the most (R629). -/
theorem errPut_keeps (s : State) (e : ErrEntry) : Keeps [.gauge] s (errPut s e) where
  frame := errPut_changes s e
  boxes := id
  stores := by
    rintro ⟨mem, log, journals⟩
    refine ⟨mem, ?_, journals⟩
    unfold errPut errFull
    dsimp only
    split <;> simp_all <;> omega

theorem errLost_keeps (s : State) (full : Bool) : Keeps [.regs] s (errLost s full) := by
  unfold errLost
  exact .ite (.mono (bump_keeps _ _)) .refl

theorem errSum_keeps (s : State) (e : ErrEntry) : Keeps [.hw] s (errSum s e) := by
  unfold errSum
  exact .ite (.mono (errSummary_keeps _ _)) .refl

theorem errNotice_keeps (s : State) (e : ErrEntry) : Keeps [.mbx, .ep0, .ep1, .gauge, .regs] s (errNotice s e) := by
  unfold errNotice
  exact .ite (.last (eventToManager_keeps _ _ _) (.mono (mgrEventBoth_keeps _ _))) .refl

theorem errWrite_keeps (s : State) (e : ErrEntry) : Keeps [.hw, .mbx, .ep0, .ep1, .gauge, .regs] s (errWrite s e) := by
  unfold errWrite
  refine .last (errNotice_keeps _ _) ?_
  exact .last (errSum_keeps _ _) (.last (errLost_keeps _ _) (.mono (errPut_keeps _ _)))

theorem errlogGen_keeps (s : State) (code island func : Nat) (gen : BitVec 16) (addr : Nat) (data : Bytes) :
    Keeps [.hw, .mbx, .ep0, .ep1, .gauge, .regs] s (errlogGen s code island func gen addr data) := by
  unfold errlogGen
  dsimp only
  split
  · exact .last (errWrite_keeps _ _) (.put rfl rfl rfl rfl rfl .refl)
  · refine .ite ?_ ?_
    · exact .last (errWrite_keeps _ _) (.put rfl rfl rfl rfl rfl .refl)
    · exact .last (bump_keeps _ _) (.put rfl rfl rfl rfl rfl .refl)

theorem errlog_keeps (s : State) (code island func addr : Nat) (data : Bytes) :
    Keeps [.hw, .mbx, .ep0, .ep1, .gauge, .regs] s (errlog s code island func addr data) := by
  unfold errlog
  exact .mono (errlogGen_keeps _ _ _ _ _ _ _)

theorem modeLogged_keeps (s : State) (old new : Nat) : Keeps [.dev, .hw, .mbx, .ep0, .ep1, .gauge, .regs] s (modeLogged s old new) := by
  have since : ∀ n, Keeps [.dev] s { s with dev := { s.dev with since := n } } := fun _ => .put rfl rfl rfl rfl rfl .refl
  unfold modeLogged
  refine .last (trace_keeps _ _ _ _ _ _ _) (.last (errlog_keeps _ _ _ _ _ _) ?_)
  exact .last (vfEventAll_keeps _ _) (.last (mgrEventBoth_keeps _ _) (.mono (since _)))

theorem modeTold_keeps (s : State) (old new cause : Nat) : Keeps [.mbx, .gauge, .regs] s (modeTold s old new cause) := by
  unfold modeTold
  exact .mono (eventToManager_keeps _ _ _)

theorem noteMode_keeps (before s : State) (cause : Nat) :
    Keeps [.dev, .hw, .mbx, .ep0, .ep1, .gauge, .regs] s (noteMode before s cause) := by
  unfold noteMode
  exact .ite .refl (.last (modeTold_keeps _ _ _ _) (.ite .refl (.mono (modeLogged_keeps _ _ _))))

theorem noteRetired_keeps (s : State) (kind cause index shortfall island : Nat) :
    Keeps [.hw, .mbx, .ep0, .ep1, .gauge, .regs] s (noteRetired s kind cause index shortfall island) := by
  unfold noteRetired
  exact .last (eventToManager_keeps _ _ _) (.mono (errlog_keeps _ _ _ _ _ _))

theorem queueResponse_keeps (s : State) (ch seq code : Nat) (session : Bool) (body : Bytes) :
    Keeps [.mbx] s (queueResponse s ch seq code session body) := by
  unfold queueResponse
  exact .mono (chanMod_keeps (fun _ => .same rfl rfl rfl rfl))

theorem finish_keeps (s : State) (ch seq opcode : Nat) (req : Bytes) (session : Bool) (code : Nat) (body : Bytes) :
    Keeps [.fw, .mbx, .gauge, .regs] s (finish s ch seq opcode req session code body) := by
  unfold finish
  exact .last (queueResponse_keeps _ _ _ _ _ _) (.last (trace_keeps _ _ _ _ _ _ _) (.put rfl rfl rfl rfl rfl (.mono (chanMod_keeps (fun _ => journalPut_kept rfl rfl rfl rfl)))))

theorem answer_kept (s : State) (ch seq code : Nat) (body : Bytes) : Keeps answerParts s (answer s ch seq code body) := by
  unfold answer
  split
  · exact .mono (finish_keeps _ _ _ _ _ _ _ _)
  · exact .refl

theorem defer_keeps (s : State) (ch seq : Nat) : Keeps [.mbx] s (defer s ch seq) := by
  refine chanMod_keeps (fun c => ?_)
  split
  · exact journalPut_kept rfl rfl rfl rfl
  · exact .same rfl rfl rfl rfl

theorem command_runs {ps : List Part} {s : State} {ch seq op : Nat} {body : Bytes → State} (h : ∀ req, Keeps ps s (body req))
    (sub : answerParts ⊆ ps := by decide) : Runs ps s (command s ch seq op body) := by
  unfold command
  split
  · exact .next (.ite (h _) ((answer_kept _ _ _ _ _).mono sub))
  · exact .next .refl

theorem pickFrom_keeps {α : Type} (s : State) (l : List α) : Keeps [.fresh] s (pickFrom s l).2 := by
  unfold pickFrom
  exact .mono (drawn_keeps _)

/-! HostOps: the host side. -/

theorem cfgSet_keeps (s : State) (ep f a : Nat) (v : Word) : Keeps [.ep0, .ep1] s (cfgSet s ep f a v) := by
  unfold cfgSet
  exact .mono (fnMod_keeps _ _ _ _)

theorem cfgSetBit_keeps (s : State) (ep f a bit : Nat) : Keeps [.ep0, .ep1] s (cfgSetBit s ep f a bit) := by
  unfold cfgSetBit
  exact .mono (cfgSet_keeps _ _ _ _ _)

theorem aerLog_keeps (s : State) (ep f bit : Nat) : Keeps [.ep0, .ep1] s (aerLog s ep f bit) := by
  unfold aerLog
  exact .mono (cfgSetBit_keeps _ _ _ _ _)

theorem aerAdvisory_keeps (s : State) (ep f bit : Nat) : Keeps [.ep0, .ep1] s (aerAdvisory s ep f bit) := by
  unfold aerAdvisory
  exact .last (cfgSetBit_keeps _ _ _ _ _) (.mono (aerLog_keeps _ _ _ _))

theorem noteCrossing_keeps (s : State) (ch : Nat) : Keeps [.mbx] s (noteCrossing s ch) := by
  unfold noteCrossing
  exact .ite (.mono (chanSet_keeps (.same rfl rfl rfl rfl))) .refl

theorem wakeHost_keeps (s : State) (ch : Nat) : Keeps [.ep0, .ep1] s (wakeHost s ch) := by
  unfold wakeHost
  dsimp only
  split
  · exact .ite (.mono (dueVec_keeps _ _ _ _)) .refl
  · exact .refl

theorem mctpSend_keeps (s : State) (session : Bool) (type : Nat) (body : Bytes) : Keeps [.out] s (mctpSend s session type body) := by
  unfold mctpSend
  exact .mono (emit_keeps _ _)

theorem bmcPost_keeps (s : State) (m : Msg) : Keeps [.out] s (bmcPost s m) := by
  unfold bmcPost
  exact .mono (mctpSend_keeps _ _ _ _)

theorem bmcShow_keeps (s : State) : Keeps [.out] s (bmcShow s) := by
  unfold bmcShow
  split
  · exact .mono (bmcPost_keeps _ _)
  · exact .refl

theorem showToHost_keeps (s : State) (ch : Nat) : Keeps [.ep0, .ep1, .regs, .out] s (showToHost s ch) := by
  unfold showToHost
  dsimp only
  split
  · refine .ite ?_ ?_
    · exact .last (mgrEvent_keeps _ _ _) (.ite (.mono (bmcShow_keeps _)) (.mono (wakeHost_keeps _ _)))
    · exact .ite (.mono (bmcShow_keeps _)) (.mono (wakeHost_keeps _ _))
  · exact .ite (.mono (bmcShow_keeps _)) (.mono (wakeHost_keeps _ _))

theorem evPend_keeps (s : State) (ch : Nat) : Keeps [.regs] s (evPend s ch) := by
  unfold evPend
  exact .mono (setBits_keeps _ _ _)

theorem bumpHostGen_keeps (s : State) (ch : Nat) : Keeps [.mbx, .regs, .out] s (bumpHostGen s ch) := by
  have raised : ChanKept s.mbx.fwGen (chanGet s ch) { chanGet s ch with
      hostGen := (chanGet s ch).hostGen + 1, toFw := supersede (chanGet s ch).toFw (chanGet s ch).hostGen, journal := [],
      mask := defaultMask ch, evSeq := 0 } := .of_dirs dirOk_supersede id (Nat.zero_le _)
  unfold bumpHostGen
  dsimp only
  have counted : Keeps [.mbx, .regs, .out] s (if (supersede (chanGet s ch).toFw (chanGet s ch).hostGen).length < (chanGet s ch).toFw.length
      then bump s r_MBX_CNT_SUPERSEDED else s) := .ite (.mono (bump_keeps _ _)) .refl
  have shown : Keeps [.mbx, .regs, .out] s (noteCrossing (chanSet _ ch _) ch) :=
    .last (noteCrossing_keeps _ _) (.last (chanSet_keeps_of (by split <;> rfl) raised) counted)
  exact .ite (.last (bmcShow_keeps _) shown) shown

theorem bumpFwGen_keeps (s : State) : Keeps [.mbx, .regs] s (bumpFwGen s) where
  frame := .of_patch rfl
  boxes ok := by
    intro p hp
    obtain ⟨q, hq, rfl⟩ := List.mem_map.mp hp
    exact ⟨(ok q hq).1, dirOk_supersede (ok q hq).2⟩
  stores ok := ⟨ok.1, ok.2.1, by
    intro p hp
    obtain ⟨q, hq, rfl⟩ := List.mem_map.mp hp
    exact ok.2.2 q hq⟩

theorem takePost_keeps {s : State} {ch : Nat} (b : Bytes) (session : Bool) (room : hostFull (chanGet s ch) = false) :
    Keeps [.mbx] s (takePost s ch b session) :=
  chanSet_keeps (.of_dirs (fun ok => dirOk_post ok room rfl) id (Nat.le_refl _))

theorem rejectPost_keeps (s : State) (ch : Nat) : Keeps [.mbx, .ep0, .ep1, .regs] s (rejectPost s ch) := by
  unfold rejectPost
  dsimp only
  split
  · refine .last (aerAdvisory_keeps _ _ _ _) ?_
    refine .ite ?_ ?_
    · exact .last (bump_keeps _ _) (.mono (chanMod_keeps (fun _ => .same rfl rfl rfl rfl)))
    · exact .last (bump_keeps _ _) (.mono (chanMod_keeps (fun _ => .same rfl rfl rfl rfl)))
  · exact .last (bump_keeps _ _) (.mono (chanMod_keeps (fun _ => .same rfl rfl rfl rfl)))

theorem hostPost_keeps (s : State) (ch : Nat) (b : Bytes) (session : Bool) : Keeps [.mbx, .ep0, .ep1, .regs] s (hostPost s ch b session) := by
  unfold hostPost
  dsimp only
  split
  · exact .mono (rejectPost_keeps _ _)
  next room =>
    refine .ite (.last (bump_keeps _ _) (.mono (chanSet_keeps (.same rfl rfl rfl rfl)))) ?_
    exact .mono (takePost_keeps _ _ (Bool.not_eq_true _ ▸ room))

theorem mctpStart_keeps (s : State) : Keeps [.mctp] s (mctpStart s) := by
  unfold mctpStart
  exact .put rfl rfl rfl rfl rfl .refl

theorem mctpDelivered_keeps (s : State) (ch : Nat) (m : Msg) : Keeps [.mbx, .mctp, .regs, .out] s (mctpDelivered s ch m) := by
  unfold mctpDelivered
  exact .ite (.last (bumpHostGen_keeps _ _) (.mono (mctpStart_keeps _))) .refl

theorem hostAck_keeps (s : State) (ch : Nat) : Keeps [.mbx, .mctp, .ep0, .ep1, .regs, .out] s (hostAck s ch) := by
  unfold hostAck
  dsimp only
  split
  · exact .refl
  next m rest oldest =>
    have taken : Keeps [.mbx, .mctp, .ep0, .ep1, .regs, .out] s (chanSet s ch { chanGet s ch with
        toHost := rest, acked := (chanGet s ch).acked || decide (m.senderGen = s.mbx.fwGen) }) :=
      .mono (chanSet_keeps (toHost_tail_kept oldest rfl rfl rfl rfl))
    refine .last (mctpDelivered_keeps _ _ _) (.last (noteCrossing_keeps _ _) ?_)
    have told : Keeps [.mbx, .mctp, .ep0, .ep1, .regs, .out] s (if m.senderGen = s.mbx.fwGen then evPend _ ch else bump _ r_MBX_CNT_STALE_ACK) := .ite (.last (evPend_keeps _ _) taken) (.last (bump_keeps _ _) taken)
    exact .ite told (.last (showToHost_keeps _ _) told)

theorem fwAck_keeps (s : State) (ch : Nat) : Keeps [.mbx, .ep0, .ep1, .regs, .out] s (fwAck s ch) := by
  unfold fwAck
  dsimp only
  split
  · exact .refl
  next m rest oldest =>
    have taken : Keeps [.mbx, .ep0, .ep1, .regs, .out] s (chanSet s ch { chanGet s ch with toFw := rest }) :=
      .mono (chanSet_keeps (toFw_tail_kept oldest rfl rfl rfl rfl))
    refine .last (noteCrossing_keeps _ _) ?_
    exact .ite (.last (bump_keeps _ _) taken) (.ite (.last (mctpSend_keeps _ _ _ _) taken) (.last (wakeHost_keeps _ _) taken))

theorem fwPostMsg_keeps {s : State} {ch : Nat} (opcode seq : Nat) (payload : Bytes) (session : Bool)
    (room : fwFull s (chanGet s ch) = false) : Keeps [.mbx, .ep0, .ep1, .regs, .out] s (fwPostMsg s ch opcode seq payload session) := by
  have posted : ∀ m : Msg, m.senderGen = s.mbx.fwGen →
      Keeps [.mbx, .ep0, .ep1, .regs, .out] s (chanSet s ch { chanGet s ch with toHost := (chanGet s ch).toHost ++ [m] }) := fun m current =>
    .mono (chanSet_keeps (.of_dirs id (fun ok => dirOk_post ok room current) (Nat.le_refl _)))
  exact .ite (.last (showToHost_keeps _ _) (posted _ rfl)) (posted _ rfl)

/-! Mailbox: the mailboxes. -/

theorem unboundWrite_keeps (s : State) (ch : Nat) : Keeps [.regs] s (unboundWrite s ch) := by
  unfold unboundWrite
  split
  · exact .last (bump_keeps _ _) (.mono (bump_keeps _ _))
  · exact .refl

theorem execMbxPost_runs (ch : Nat) (s : State) : Runs [.mbx, .ep0, .ep1, .regs] s (execMbxPost ch s) := by
  unfold execMbxPost
  refine .ite ?_ ?_
  · exact .ite (.next (.mono (unboundWrite_keeps _ _))) (.next (.mono (hostPost_keeps _ _ _ _)))
  · exact .next .refl

theorem execMbxAck_runs (ch : Nat) (s : State) : Runs [.mbx, .mctp, .ep0, .ep1, .regs, .out] s (execMbxAck ch s) := by
  unfold execMbxAck
  refine .ite ?_ ?_
  · exact .next .refl
  · exact .ite (.next (.mono (unboundWrite_keeps _ _))) (.next (.mono (hostAck_keeps _ _)))

theorem execMbxFwPost_runs (ch : Nat) (s : State) : Runs [.mbx, .ep0, .ep1, .regs, .out] s (execMbxFwPost ch s) := by
  unfold execMbxFwPost
  dsimp only
  split
  · exact .next .refl
  next m rest _ =>
    split
    next hserve =>
      have room : fwFull s (chanGet s ch) = false := by simp at hserve; exact hserve.2
      refine .next (.last (fwPostMsg_keeps _ _ _ _ ?_) (.mono (chanSet_keeps (.same rfl rfl rfl rfl))))
      rw [chanGet_chanSet_self]
      exact room
    · exact .next .refl

theorem execMbxFwAck_runs (ch : Nat) (s : State) : Runs [.mbx, .ep0, .ep1, .regs, .out] s (execMbxFwAck ch s) := by
  unfold execMbxFwAck
  exact .next (.mono (fwAck_keeps _ _))

theorem execMbxOutboundBufferWrite_runs (ch off : Nat) (data : Bytes) (s : State) :
    Runs [.mbx, .ep0, .ep1, .regs] s (execMbxOutboundBufferWrite ch off data s) := by
  unfold execMbxOutboundBufferWrite
  refine .ite ?_ ?_
  · refine .ite ?_ ?_
    · exact .next (.mono (unboundWrite_keeps _ _))
    · refine .ite ?_ ?_
      · exact .next (.mono (rejectPost_keeps _ _))
      · exact .next (.mono (chanMod_keeps (fun _ => .same rfl rfl rfl rfl)))
  · exact .next .refl

theorem execMbxCrossing_runs (ch : Nat) (s : State) : Runs [.hw, .mbx, .ep0, .ep1, .gauge, .regs] s (execMbxCrossing ch s) := by
  unfold execMbxCrossing
  refine .ite ?_ ?_
  · refine .next ?_
    refine .last (errlog_keeps _ _ _ _ _ _) ?_
    refine .last (bump_keeps _ _) ?_
    refine .last (wakeHost_keeps _ _) ?_
    exact .last (evPend_keeps _ _) (.mono (chanSet_keeps (.same rfl rfl rfl rfl)))
  · exact .next .refl

theorem refuseShown_keeps (s : State) (ch : Nat) (m : Msg) (session : Bool) (code : Nat) :
    Keeps [.fw, .mbx, .ep0, .ep1, .gauge, .regs, .out] s (refuseShown s ch m session code) := by
  unfold refuseShown
  exact .last (finish_keeps _ _ _ _ _ _ _ _) (.mono (fwAck_keeps _ _))

theorem startShown_keeps (s : State) (ch : Nat) (m : Msg) (session : Bool) :
    Keeps [.mbx, .ep0, .ep1, .regs, .out] s (startShown s ch m session) := by
  unfold startShown
  exact .last (chanMod_keeps (fun _ => .same rfl rfl rfl rfl)) (.mono (fwAck_keeps _ _))

theorem execFwCommandDispatch_runs (ch : Nat) (s : State) :
    Runs [.fw, .mbx, .ep0, .ep1, .gauge, .regs, .out] s (execFwCommandDispatch ch s) := by
  unfold execFwCommandDispatch
  dsimp only
  split
  · exact .next .refl
  · refine .ite ?_ ?_
    · exact .next .refl
    · refine .ite ?_ ?_
      · exact .next (.last (bump_keeps _ _) (.mono (fwAck_keeps _ _)))
      · refine .ite ?_ ?_
        · exact .next (.last (queueResponse_keeps _ _ _ _ _ _) (.mono (fwAck_keeps _ _)))
        · split
          · refine .ite ?_ ?_
            · split
              · exact .next (.last (queueResponse_keeps _ _ _ _ _ _) (.mono (fwAck_keeps _ _)))
              · exact .next (.mono (fwAck_keeps _ _))
            · exact .next (.last (queueResponse_keeps _ _ _ _ _ _) (.mono (fwAck_keeps _ _)))
          · split
            · exact .next (.mono (refuseShown_keeps _ _ _ _ _))
            · exact .next (.mono (startShown_keeps _ _ _ _))

/-! ItwOps: the Itwin lines. -/

theorem traceAct_keeps (s : State) : Keeps [.gauge, .regs] s (traceAct s) := by
  unfold traceAct
  exact .mono (trace_keeps _ _ _ _ _ _ _)

theorem setGrant_keeps (s : State) (g : Bool) : Keeps [.dev, .hw, .mbx, .ep0, .ep1, .itw, .gauge, .regs] s (setGrant s g) := by
  unfold setGrant
  refine .ite ?_ ?_
  · exact .refl
  · refine .last (eventToManager_keeps _ _ _) ?_
    exact .last (noteMode_keeps _ _ _) (.last (traceAct_keeps _) (.put rfl rfl rfl rfl rfl .refl))

theorem itwLines_keeps (s : State) : Keeps [.dev, .hw, .mbx, .ep0, .ep1, .itw, .gauge, .regs, .out] s (itwLines s) := by
  unfold itwLines
  refine .ite ?_ ?_
  · refine .ite ?_ ?_
    · exact .ite .refl (.last (emit_keeps _ _) (.put rfl rfl rfl rfl rfl .refl))
    · refine .last (emit_keeps _ _) ?_
      refine .last (traceAct_keeps _) ?_
      exact .put rfl rfl rfl rfl rfl (.ite .refl (.last (emit_keeps _ _) (.put rfl rfl rfl rfl rfl .refl)))
  · refine .last (setGrant_keeps _ _) ?_
    refine .ite ?_ ?_
    · exact .ite .refl (.last (emit_keeps _ _) (.put rfl rfl rfl rfl rfl .refl))
    · refine .last (emit_keeps _ _) ?_
      refine .last (traceAct_keeps _) ?_
      exact .put rfl rfl rfl rfl rfl (.ite .refl (.last (emit_keeps _ _) (.put rfl rfl rfl rfl rfl .refl)))

theorem setActReq_keeps (s : State) (b : Bool) : Keeps [.dev, .hw, .mbx, .ep0, .ep1, .itw, .gauge, .regs, .out] s (setActReq s b) := by
  unfold setActReq
  exact .last (itwLines_keeps _) (.put rfl rfl rfl rfl rfl .refl)

theorem unstall_keeps (s : State) : Keeps [.dev, .hw, .mbx, .ep0, .ep1, .itw, .gauge, .regs, .out] s (unstall s) := by
  unfold unstall
  exact .ite (.last (itwLines_keeps _) (.put rfl rfl rfl rfl rfl .refl)) .refl

theorem itwSendAll_keeps (s : State) (type : Nat) (bodies : List Bytes) :
    Keeps [.itw, .gauge, .regs, .out] s (itwSendAll s type bodies) := by
  unfold itwSendAll
  refine .ite ?_ ?_
  · refine .foldl ?_ (fun _ _ => ?_)
    · exact .refl
    · exact .last (trace_keeps _ _ _ _ _ _ _) (.last (emit_keeps _ _) (.put rfl rfl rfl rfl rfl .refl))
  · exact .refl

theorem itwSend_keeps (s : State) (type : Nat) (body : Bytes) : Keeps [.itw, .gauge, .regs, .out] s (itwSend s type body) := by
  unfold itwSend
  exact .mono (itwSendAll_keeps _ _ _)

theorem itwLog_keeps (s : State) (cause : Nat) : Keeps [.hw, .mbx, .ep0, .ep1, .gauge, .regs] s (itwLog s cause) := by
  unfold itwLog
  exact .mono (errlog_keeps _ _ _ _ _ _)

theorem itwBad_keeps (s : State) : Keeps [.regs] s (itwBad s) := by
  unfold itwBad
  exact .mono (bump_keeps _ _)

/-! PacketOps: packets and Basin. -/

theorem newId_keeps (s : State) : Keeps [.nextPid] s (newId s).2 := by
  unfold newId
  exact .put rfl rfl rfl rfl rfl .refl

theorem basinStore_keeps {s t : State} {len owner refs fid : Nat} {occ : Option (Nat × Nat)}
    (h : basinStore s len owner refs occ = some (fid, t)) : Keeps [.nextPid, .basin, .macs] s t := by
  simp only [basinStore, newId, Option.ite_none_right_eq_some, Option.some.injEq, Prod.mk.injEq] at h
  obtain ⟨-, -, rfl⟩ := h
  cases occ with
  | none => exact .put rfl rfl rfl rfl rfl .refl
  | some p => exact .last (macMod_keeps _ _ _) (.put rfl rfl rfl rfl rfl .refl)

theorem basinHold_keeps (s : State) (fid n : Nat) : Keeps [.basin] s (basinHold s fid n) := by
  unfold basinHold
  exact .put rfl rfl rfl rfl rfl .refl

theorem basinFree_keeps (s : State) (fid : Nat) (f : BasinFrame) : Keeps [.basin, .macs] s (basinFree s fid f) := by
  unfold basinFree
  dsimp only
  split
  · exact .last (macMod_keeps _ _ _) (.put rfl rfl rfl rfl rfl .refl)
  · exact .put rfl rfl rfl rfl rfl .refl

theorem basinRelease_keeps (s : State) (fid : Nat) : Keeps [.basin, .macs] s (basinRelease s fid) := by
  unfold basinRelease
  split
  · exact .refl
  · exact .ite (.mono (basinFree_keeps _ _ _)) (.put rfl rfl rfl rfl rfl .refl)

theorem txMod_keeps (s : State) (o : TxOrigin) (f : TxPacket → TxPacket) : Keeps [.rings] s (txMod s o f) := by
  unfold txMod
  exact .put rfl rfl rfl rfl rfl .refl

theorem hold_keeps (s : State) (fid n : Nat) (o : Option TxOrigin) : Keeps [.rings, .basin] s (hold s fid n o) := by
  unfold hold
  dsimp only
  split
  · exact .last (txMod_keeps _ _ _) (.mono (basinHold_keeps _ _ _))
  · exact .mono (basinHold_keeps _ _ _)

theorem letGo_keeps (s : State) (fid : Nat) (o : Option TxOrigin) (status : Option Nat) :
    Keeps [.rings, .basin, .macs] s (letGo s fid o status) := by
  unfold letGo
  dsimp only
  split
  · exact .last (txMod_keeps _ _ _) (.mono (basinRelease_keeps _ _))
  · exact .mono (basinRelease_keeps _ _)

theorem railSet_keeps (s : State) (r : Nat) (x : RailState) : Keeps [.twin] s (railSet s r x) := by
  unfold railSet
  exact .put rfl rfl rfl rfl rfl .refl

theorem twinCopies_keeps (s : State) (k : Pkt) : Keeps [.rings, .pkts, .nextPid, .basin, .twin] s (twinCopies s k) := by
  unfold twinCopies
  refine .ite ?_ ?_
  · refine .last (pktSet_keeps _ _ _) ?_
    refine .last (newId_keeps _) ?_
    refine .ite ?_ ?_
    · refine .last (pktSet_keeps _ _ _) ?_
      refine .last (newId_keeps _) ?_
      exact .ite (.last (hold_keeps _ _ _ _) (.put rfl rfl rfl rfl rfl .refl)) (.put rfl rfl rfl rfl rfl .refl)
    · exact .ite (.last (hold_keeps _ _ _ _) (.put rfl rfl rfl rfl rfl .refl)) (.put rfl rfl rfl rfl rfl .refl)
  · refine .ite ?_ ?_
    · refine .last (pktSet_keeps _ _ _) ?_
      refine .last (newId_keeps _) ?_
      exact .ite (.last (hold_keeps _ _ _ _) (.put rfl rfl rfl rfl rfl .refl)) (.put rfl rfl rfl rfl rfl .refl)
    · exact .ite (.last (hold_keeps _ _ _ _) (.put rfl rfl rfl rfl rfl .refl)) (.put rfl rfl rfl rfl rfl .refl)

theorem distribute_keeps (s : State) (twin : Bool) (k : Pkt) :
    Keeps [.rings, .pkts, .nextPid, .basin, .twin, .regs] s (distribute s twin k) := by
  unfold distribute
  refine .ite ?_ ?_
  · refine .ite ?_ ?_
    · exact .mono (twinCopies_keeps _ _)
    · exact .last (pktSet_keeps _ _ _) (.last (bump_keeps _ _) (.mono (newId_keeps _)))
  · exact .last (pktSet_keeps _ _ _) (.mono (newId_keeps _))

theorem jigSlotSet_keeps (s : State) (n : Nat) (x : JigSlot) : Keeps [.jig] s (jigSlotSet s n x) := by
  unfold jigSlotSet
  exact .put rfl rfl rfl rfl rfl .refl

theorem jigSlotMod_keeps (s : State) (n : Nat) (f : JigSlot → JigSlot) : Keeps [.jig] s (jigSlotMod s n f) := by
  unfold jigSlotMod
  exact .mono (jigSlotSet_keeps _ _ _)

theorem parseBankMod_keeps (s : State) (b : Nat) (f : ParseBank → ParseBank) : Keeps [.plane] s (parseBankMod s b f) := by
  unfold parseBankMod
  exact .put rfl rfl rfl rfl rfl .refl

theorem patternBankMod_keeps (s : State) (b : Nat) (f : PatternBank → PatternBank) : Keeps [.rasp] s (patternBankMod s b f) := by
  unfold patternBankMod
  exact .put rfl rfl rfl rfl rfl .refl

theorem ringLeave_keeps (s : State) (p : Nat) (k : Pkt) : Keeps [.twin] s (ringLeave s p k) := by
  unfold ringLeave
  exact .put rfl rfl rfl rfl rfl .refl

theorem finishCopy_keeps (s : State) (st : Nat) (seq : Word) : Keeps [.twin] s (finishCopy s st seq) := by
  unfold finishCopy
  exact .put rfl rfl rfl rfl rfl .refl

theorem raspLeave_keeps (s : State) (p : Nat) (k : Pkt) : Keeps [.rasp] s (raspLeave s p k) := by
  unfold raspLeave
  refine .ite ?_ ?_
  · exact .last (patternBankMod_keeps _ _ _) (.put rfl rfl rfl rfl rfl .refl)
  · exact .ite (.last (patternBankMod_keeps _ _ _) (.put rfl rfl rfl rfl rfl .refl)) .refl

theorem endCopy_keeps (s : State) (p : Nat) (k : Pkt) : Keeps [.pkts, .plane, .rasp, .jig, .csc, .twin] s (endCopy s p k) := by
  unfold endCopy
  refine .last (pktErase_keeps _ _) ?_
  refine .put rfl rfl rfl rfl rfl ?_
  refine .last (ringLeave_keeps _ _ _) ?_
  refine .last (raspLeave_keeps _ _ _) ?_
  refine .ite ?_ ?_
  · refine .last (finishCopy_keeps _ _ _) ?_
    exact .ite (.last (parseBankMod_keeps _ _ _) (.mono (jigSlotMod_keeps _ _ _))) .refl
  · exact .ite (.last (parseBankMod_keeps _ _ _) (.mono (jigSlotMod_keeps _ _ _))) .refl

theorem dropPkt_keeps (s : State) (p : Nat) (status : Nat) :
    Keeps [.rings, .pkts, .basin, .plane, .rasp, .jig, .csc, .twin, .macs] s (dropPkt s p status) := by
  unfold dropPkt
  split
  · exact .last (endCopy_keeps _ _ _) (.mono (letGo_keeps _ _ _ _))
  · exact .refl

theorem passDrop_keeps (s : State) (p : Nat) :
    Keeps [.rings, .pkts, .basin, .plane, .rasp, .jig, .csc, .twin, .macs] s (passDrop s p) := by
  unfold passDrop
  split
  · exact .ite (.mono (dropPkt_keeps _ _ _)) (.last (pktSet_keeps _ _ _) (.mono (raspLeave_keeps _ _ _)))
  · exact .refl

/-! Plane: the parser plane. -/

theorem firstStart_keeps (s : State) (p : Nat) (k : Pkt) : Keeps [.pkts, .plane, .jig, .twin] s (firstStart s p k) := by
  unfold firstStart
  refine .last (pktSet_keeps _ _ _) ?_
  exact .put rfl rfl rfl rfl rfl (.last (parseBankMod_keeps _ _ _) (.mono (jigSlotMod_keeps _ _ _)))

theorem startPass_keeps (s : State) (p : Nat) (k : Pkt) : Keeps [.pkts, .plane, .jig, .twin] s (startPass s p k) := by
  unfold startPass
  exact .ite (.mono (pktSet_keeps _ _ _)) (.mono (firstStart_keeps _ _ _))

theorem fixedPath_keeps (s : State) (p : Nat) (k : Pkt) : Keeps [.pkts, .twin] s (fixedPath s p k) := by
  unfold fixedPath
  exact .last (pktSet_keeps _ _ _) (.put rfl rfl rfl rfl rfl .refl)

theorem execPassStart_runs (p pos : Nat) (s : State) :
    Runs [.dev, .hw, .mbx, .ep0, .ep1, .pkts, .plane, .jig, .twin, .itw, .gauge, .regs, .out] s (execPassStart p pos s) := by
  unfold execPassStart
  split
  · exact .next .refl
  · refine .ite ?_ ?_
    · refine .ite ?_ ?_
      · exact .next (.mono (fixedPath_keeps _ _ _))
      · split
        · refine .ite ?_ ?_
          · exact .next (.last (unstall_keeps _) (.last (startPass_keeps _ _ _) (.mono (startPass_keeps _ _ _))))
          · exact .next .refl
        · exact .ite (.next .refl) (.next (.last (unstall_keeps _) (.mono (startPass_keeps _ _ _))))
    · exact .next .refl

theorem execTwinStreamWaitEnd_runs (p : Nat) (s : State) :
    Runs [.rings, .pkts, .nextPid, .basin, .twin] s (execTwinStreamWaitEnd p s) := by
  unfold execTwinStreamWaitEnd
  split
  · exact .next .refl
  · exact .ite (.next (.last (twinCopies_keeps _ _) (.mono (pktErase_keeps _ _)))) (.next .refl)

theorem countParse_keeps (s : State) (h : PktMeta) : Keeps [.regs] s (countParse s h) := by
  have counted : ∀ {u : State} (b : Bool) (a : Nat), Keeps [.regs] s u → Keeps [.regs] s (if b = true then bump u a else u) :=
    fun _ _ kept => .ite (.last (bump_keeps _ _) kept) kept
  exact counted _ _ (counted _ _ (counted _ _ (counted _ _ (counted _ _ (counted _ _ (counted _ _ (counted _ _ .refl)))))))

theorem execParseComplete_runs (p : Nat) (s : State) : Runs [.pkts, .rasp, .regs] s (execParseComplete p s) := by
  unfold execParseComplete
  split
  · exact .next .refl
  · refine .ite ?_ ?_
    · refine .ite ?_ ?_
      · refine .ite ?_ ?_
        · refine .next ?_
          refine .last (bump_keeps _ _) ?_
          exact .last (pktSet_keeps _ _ _) (.last (countParse_keeps _ _) (.mono (hwCount_keeps _ _)))
        · refine .next ?_
          refine .last (pktSet_keeps _ _ _) ?_
          refine .put rfl rfl rfl rfl rfl ?_
          exact .last (patternBankMod_keeps _ _ _) (.last (countParse_keeps _ _) (.mono (hwCount_keeps _ _)))
      · exact .next (.last (pktSet_keeps _ _ _) (.last (countParse_keeps _ _) (.mono (hwCount_keeps _ _))))
    · exact .next .refl

theorem execRaspScanStart_runs (p : Nat) (s : State) : Runs [.pkts, .rasp] s (execRaspScanStart p s) := by
  unfold execRaspScanStart
  split
  · exact .next .refl
  · exact .ite (.next (.last (pktSet_keeps _ _ _) (.put rfl rfl rfl rfl rfl .refl))) (.next .refl)

theorem execRaspScanComplete_runs (p : Nat) (s : State) : Runs [.pkts, .rasp, .regs] s (execRaspScanComplete p s) := by
  unfold execRaspScanComplete
  split
  · exact .next .refl
  · refine .ite ?_ ?_
    · refine .next ?_
      refine .last (pktSet_keeps _ _ _) ?_
      refine .ite ?_ ?_
      · refine .last (bump64_keeps _ _ _) ?_
        exact .last (bump_keeps _ _) (.last (patternBankMod_keeps _ _ _) (.put rfl rfl rfl rfl rfl .refl))
      · refine .last (bump_keeps _ _) ?_
        refine .last (bump64_keeps _ _ _) ?_
        exact .last (bump_keeps _ _) (.last (patternBankMod_keeps _ _ _) (.put rfl rfl rfl rfl rfl .refl))
    · exact .next .refl

theorem execParseValidateDone_runs (rasp : Bool) (s : State) :
    Runs [.fw, .mbx, .plane, .rasp, .gauge, .regs] s (execParseValidateDone rasp s) := by
  unfold execParseValidateDone
  refine .ite ?_ ?_
  · split
    · refine .ite ?_ ?_
      · exact .next .refl
      · split
        · exact .next (.last (answer_kept _ _ _ _ _) (.put rfl rfl rfl rfl rfl .refl))
        · exact .next (.put rfl rfl rfl rfl rfl .refl)
    · exact .next .refl
  · split
    · refine .ite ?_ ?_
      · exact .next .refl
      · split
        · exact .next (.last (answer_kept _ _ _ _ _) (.put rfl rfl rfl rfl rfl .refl))
        · exact .next (.put rfl rfl rfl rfl rfl .refl)
    · exact .next .refl

theorem execParseBankSwitch_runs (rasp : Bool) (s : State) :
    Runs [.fw, .mbx, .plane, .rasp, .gauge, .regs] s (execParseBankSwitch rasp s) := by
  unfold execParseBankSwitch
  refine .ite ?_ ?_
  · split
    · refine .ite ?_ ?_
      · refine .next ?_
        exact .last (answer_kept _ _ _ _ _) (.last (patternBankMod_keeps _ _ _) (.put rfl rfl rfl rfl rfl .refl))
      · exact .next .refl
    · exact .next .refl
  · split
    · refine .ite ?_ ?_
      · refine .next ?_
        exact .last (answer_kept _ _ _ _ _) (.last (parseBankMod_keeps _ _ _) (.put rfl rfl rfl rfl rfl .refl))
      · exact .next .refl
    · exact .next .refl

theorem execStageBankCopy_runs (rasp : Bool) (s : State) : Runs [.plane, .rasp] s (execStageBankCopy rasp s) := by
  unfold execStageBankCopy
  refine .ite ?_ ?_
  · exact .ite (.next (.last (patternBankMod_keeps _ _ _) (.put rfl rfl rfl rfl rfl .refl))) (.next .refl)
  · exact .ite (.next (.last (parseBankMod_keeps _ _ _) (.put rfl rfl rfl rfl rfl .refl))) (.next .refl)

theorem execParseGraphWrite_runs (ch seq : Nat) (s : State) :
    Runs [.fw, .mbx, .plane, .gauge, .regs] s (execParseGraphWrite ch seq s) := by
  unfold execParseGraphWrite
  refine command_runs (fun _ => ?_)
  refine .ite ?_ ?_
  · exact .mono (answer_kept _ _ _ _ _)
  · refine .ite ?_ ?_
    · exact .mono (answer_kept _ _ _ _ _)
    · exact .last (answer_kept _ _ _ _ _) (.mono (parseBankMod_keeps _ _ _))

theorem execParseGraphRead_runs (ch seq : Nat) (s : State) : Runs [.fw, .mbx, .gauge, .regs] s (execParseGraphRead ch seq s) := by
  unfold execParseGraphRead
  exact command_runs (fun _ => .ite (.mono (answer_kept _ _ _ _ _)) (.mono (answer_kept _ _ _ _ _)))

theorem execParseGraphCommit_runs (ch seq : Nat) (s : State) :
    Runs [.fw, .mbx, .plane, .gauge, .regs] s (execParseGraphCommit ch seq s) := by
  unfold execParseGraphCommit
  refine command_runs (fun _ => ?_)
  exact .ite (.mono (answer_kept _ _ _ _ _)) (.last (defer_keeps _ _ _) (.put rfl rfl rfl rfl rfl .refl))

theorem execRaspPatternWrite_runs (ch seq : Nat) (s : State) :
    Runs [.fw, .mbx, .rasp, .gauge, .regs] s (execRaspPatternWrite ch seq s) := by
  unfold execRaspPatternWrite
  refine command_runs (fun _ => ?_)
  refine .ite ?_ ?_
  · exact .mono (answer_kept _ _ _ _ _)
  · refine .ite ?_ ?_
    · exact .mono (answer_kept _ _ _ _ _)
    · exact .last (answer_kept _ _ _ _ _) (.mono (patternBankMod_keeps _ _ _))

theorem execRaspPatternRead_runs (ch seq : Nat) (s : State) : Runs [.fw, .mbx, .gauge, .regs] s (execRaspPatternRead ch seq s) := by
  unfold execRaspPatternRead
  exact command_runs (fun _ => .ite (.mono (answer_kept _ _ _ _ _)) (.mono (answer_kept _ _ _ _ _)))

theorem execRaspCommit_runs (ch seq : Nat) (s : State) : Runs [.fw, .mbx, .rasp, .gauge, .regs] s (execRaspCommit ch seq s) := by
  unfold execRaspCommit
  refine command_runs (fun _ => ?_)
  exact .ite (.mono (answer_kept _ _ _ _ _)) (.last (defer_keeps _ _ _) (.put rfl rfl rfl rfl rfl .refl))

/-! RailOps: rails and passes. -/

theorem thSet_keeps (s : State) (q t : Nat) (x : Thread) : Keeps [.csc] s (thSet s q t x) := by
  unfold thSet
  exact .mono (clusterMod_keeps _ _ _)

theorem thMod_keeps (s : State) (q t : Nat) (f : Thread → Thread) : Keeps [.csc] s (thMod s q t f) := by
  unfold thMod
  exact .mono (thSet_keeps _ _ _ _)

theorem queueItem_opt (s : State) (p : Nat) (k : Pkt) (q : Nat) (kind : ItemKind) (reason opIndex : Nat) :
    OptKeeps [.pkts, .csc, .fresh] s (queueItem s p k q kind reason opIndex) := by
  unfold queueItem
  split
  · exact .none
  · exact .some (.last (pktSet_keeps _ _ _) (.put rfl rfl rfl rfl rfl (.mono (clusterSet_keeps _ _ _))))

theorem exception_keeps (s : State) (p : Nat) (k : Pkt) (q : Nat) (kind : ItemKind) (reason opIndex : Nat) :
    Keeps [.rings, .pkts, .basin, .plane, .rasp, .jig, .csc, .twin, .macs, .regs, .fresh] s (exception s p k q kind reason opIndex) := by
  unfold exception
  split
  · exact .mono (queueItem_opt _ _ _ _ _ _ _ _ ‹_›)
  · refine .ite ?_ ?_
    · exact .last (pktSet_keeps _ _ _) (.put rfl rfl rfl rfl rfl (.mono (bump_keeps _ _)))
    · exact .last (passDrop_keeps _ _) (.last (bump_keeps _ _) (.mono (pktSet_keeps _ _ _)))

theorem itemFree_keeps (s : State) (q h : Nat) : Keeps [.csc] s (itemFree s q h) := by
  unfold itemFree
  exact .mono (clusterMod_keeps _ _ _)

theorem itemRequeue_keeps (s : State) (q h : Nat) : Keeps [.csc] s (itemRequeue s q h) := by
  unfold itemRequeue
  exact .mono (clusterMod_keeps _ _ _)

theorem supervisorEvent_keeps (s : State) (q : Nat) (words : List Dword) : Keeps [.csc] s (supervisorEvent s q words) := by
  unfold supervisorEvent
  exact .mono (clusterMod_keeps _ _ _)

theorem faultRecord_keeps (s : State) (q cls slot handle pc addr : Nat) :
    Keeps [.csc, .gauge, .regs] s (faultRecord s q cls slot handle pc addr) := by
  unfold faultRecord
  exact .last (supervisorEvent_keeps _ _ _) (.last (trace_keeps _ _ _ _ _ _ _) (.mono (bump_keeps _ _)))

theorem childExits_keeps (s : State) (q t value : Nat) : Keeps [.csc, .mem] s (childExits s q t value) := by
  unfold childExits
  split
  · exact .refl
  · refine .last (thMod_keeps _ _ _ _) ?_
    split
    · exact .mono (memWriteN_keeps _ _ _)
    · exact .refl

theorem dropWriter_keeps (s : State) (q t : Nat) : Keeps [.csc] s (dropWriter s q t) := by
  unfold dropWriter
  exact .put rfl rfl rfl rfl rfl .refl

theorem reserveFree_keeps (q n k : Nat) (s : State) : Keeps [.csc, .fresh] s (reserveFree q n k s) := by
  induction k generalizing s with
  | zero => exact .refl
  | succ k ih =>
    unfold reserveFree pickFrom
    dsimp only
    split
    · exact .refl
    · split
      · exact .last (ih _) (.last (thMod_keeps _ _ _ _) (.mono (drawn_keeps _)))
      · exact .mono (drawn_keeps _)

theorem unreserveFree_keeps (s : State) (q n : Nat) : Keeps [.csc] s (unreserveFree s q n) := by
  unfold unreserveFree
  exact .foldl .refl (fun _ _ => .ite (.mono (thSet_keeps _ _ _ _)) .refl)

theorem thFree_keeps (s : State) (q t : Nat) : Keeps [.csc] s (thFree s q t) := by
  unfold thFree
  refine .last (dropWriter_keeps _ _ _) ?_
  exact .last (thSet_keeps _ _ _ _) (.foldl .refl (fun _ _ => .mono (thMod_keeps _ _ _ _)))

theorem restartItem_keeps (s : State) (q h : Nat) : Keeps [.hw, .mbx, .ep0, .ep1, .csc, .gauge, .regs] s (restartItem s q h) := by
  unfold restartItem
  split
  · exact .refl
  · refine .ite ?_ ?_
    · exact .last (bump_keeps _ _) (.last (itemRequeue_keeps _ _ _) (.mono (clusterMod_keeps _ _ _)))
    · refine .last (faultRecord_keeps _ _ _ _ _ _ _) ?_
      exact .last (errlog_keeps _ _ _ _ _ _) (.mono (clusterMod_keeps _ _ _))

theorem stopThread_keeps (s : State) (q : Nat) (s0 : Nat) :
    Keeps [.hw, .mbx, .ep0, .ep1, .csc, .gauge, .regs, .mem] s (stopThread s q s0) := by
  unfold stopThread
  refine .last (thFree_keeps _ _ _) ?_
  exact .last (childExits_keeps _ _ _ _) (.foldl .refl (fun _ _ => .mono (restartItem_keeps _ _ _)))

theorem moveReserved_keeps (s : State) (q t : Nat) : Keeps [.csc, .fresh] s (moveReserved s q t) := by
  unfold moveReserved
  refine .ite ?_ .refl
  split
  next to_ u picked =>
    have freed : Keeps [.csc, .fresh] s (thSet u q t {}) :=
      .last (thSet_keeps _ _ _ _) (.of_eq_snd picked (.mono (pickFrom_keeps _ _)))
    dsimp only
    split
    · exact .last (thMod_keeps _ _ _ _) freed
    · exact freed

theorem engSet_keeps (s : State) (e : Nat) (x : EngState) : Keeps [.csc] s (engSet s e x) := by
  unfold engSet
  exact .put rfl rfl rfl rfl rfl .refl

theorem placeSupervisor_keeps (s : State) (q : Nat) : Keeps [.csc] s (placeSupervisor s q) := by
  unfold placeSupervisor
  split
  · exact .mono (clusterMod_keeps _ _ _)
  · exact .mono (clusterMod_keeps _ _ _)

theorem retireEngine_keeps (s : State) (e cls cause : Nat) :
    Keeps [.dev, .hw, .mbx, .ep0, .ep1, .csc, .gauge, .regs, .mem, .fresh] s (retireEngine s e cls cause) := by
  unfold retireEngine
  split
  · exact .refl
  · extract_lets before a b c d f g spare h
    have emptied : Keeps [.dev, .hw, .mbx, .ep0, .ep1, .csc, .gauge, .regs, .mem, .fresh] s d :=
      .foldl (.last (clusterMod_keeps _ _ _) (.last (engSet_keeps _ _ _) (.foldl .refl (fun _ _ => .mono (stopThread_keeps _ _ _)))))
        (fun _ _ => .mono (moveReserved_keeps _ _ _))
    have marked : Keeps [.dev, .hw, .mbx, .ep0, .ep1, .csc, .gauge, .regs, .mem, .fresh] s g :=
      .last (hwSetField_keeps _ _ _ _ _) (.ite (.last (placeSupervisor_keeps _ _) emptied) emptied)
    refine .last (noteMode_keeps _ _ _) (.last (noteRetired_keeps _ _ _ _ _ _) ?_)
    clear_value spare
    unfold h
    split
    · exact .put rfl rfl rfl rfl rfl (.last (engSet_keeps _ _ _) marked)
    · exact .last (eventToManager_keeps _ _ _) (.last (eventToManager_keeps _ _ _) marked)

theorem dovSet_keeps (s : State) (d : Nat) (x : DovIsland) : Keeps [.twin] s (dovSet s d x) := by
  unfold dovSet
  exact .put rfl rfl rfl rfl rfl .refl

theorem railLose_keeps {ps : List Part} {s : State} {rail : Nat} {a : State × Nat} {x : Nat × Pkt} (h : Keeps ps s a.1)
    (sub : [.rings, .pkts, .basin, .plane, .rasp, .jig, .csc, .twin, .macs] ⊆ ps := by decide) : Keeps ps s (railLose rail a x).1 := by
  unfold railLose
  dsimp only
  split_ifs
  · exact h
  · exact .last (.last (endCopy_keeps _ _ _) (.mono (letGo_keeps _ _ _ _))) h sub
  · exact .last (.mono (pktSet_keeps _ _ _)) h sub
  · exact .last (dropPkt_keeps _ _ _) h sub

theorem clearClusters_keeps (s : State) (rail : Nat) : Keeps [.csc] s (clearClusters s rail) := by
  unfold clearClusters
  exact .foldl (.put rfl rfl rfl rfl rfl .refl) (fun _ _ => .mono (clusterMod_keeps _ _ _))

/-- A fold over a state and a count that changes the state step by step. -/
theorem Keeps.foldl_fst {α β : Type} {ps : List Part} {s : State} {f : State × β → α → State × β}
    (step : ∀ a x, Keeps ps s a.1 → Keeps ps s (f a x).1) {l : List α} {a : State × β} (h : Keeps ps s a.1) :
    Keeps ps s (l.foldl f a).1 := by
  induction l generalizing a with
  | nil => exact h
  | cons x l ih => exact ih (step a x h)

theorem retireRail_keeps (s : State) (rail code island cause : Nat) :
    Keeps [.dev, .hw, .mbx, .ep0, .ep1, .rings, .pkts, .basin, .plane, .rasp, .jig, .cst, .csc, .twin, .cry, .macs, .gauge, .regs] s
      (retireRail s rail code island cause) := by
  unfold retireRail
  have lost : Keeps [.rings, .pkts, .basin, .plane, .rasp, .jig, .csc, .twin, .macs] s
      ((railSet s rail .retired).pkts.foldl (railLose rail) (railSet s rail .retired, 0)).1 :=
    .foldl_fst (fun _ _ h => railLose_keeps h) (.mono (railSet_keeps _ _ _))
  exact .last (noteMode_keeps _ _ _) (.last (noteRetired_keeps _ _ _ _ _ _) (.last (eventToManager_keeps _ _ _) (.last (hwSetField_keeps _ _ _ _ _) (.last (hwSetField_keeps _ _ _ _ _) (.last (bumpBy_keeps _ _ _) (.put rfl rfl rfl rfl rfl (.foldl (.last (clearClusters_keeps _ _) (.mono lost))
    (fun _ _ => .mono (dovSet_keeps _ _ _)))))))))

theorem selfCheckFail_keeps (s : State) (rail code island unit : Nat) :
    Keeps [.dev, .hw, .mbx, .ep0, .ep1, .rings, .pkts, .basin, .plane, .rasp, .jig, .cst, .csc, .twin, .cry, .macs, .gauge, .regs] s
      (selfCheckFail s rail code island unit) := by
  unfold selfCheckFail
  extract_lets a b c word d
  have first : Keeps [.hw, .mbx, .ep0, .ep1, .gauge, .regs] s b := .ite (.mono (setBits_keeps _ _ _)) (.last (errlog_keeps _ _ _ _ _ _) (.mono (setBits_keeps _ _ _)))
  have noted : Keeps [.hw, .mbx, .ep0, .ep1, .gauge, .regs] s c := .last (capture_keeps _ _ _) first
  have logged : Keeps [.hw, .mbx, .ep0, .ep1, .gauge, .regs] s d :=
    .ite (.last (errlog_keeps _ _ _ _ _ _) noted) (.ite (.last (errlog_keeps _ _ _ _ _ _) noted) (.ite (.last (errlog_keeps _ _ _ _ _ _) noted) noted))
  exact .ite (.last (retireRail_keeps _ _ _ _ _) (.mono logged)) (.mono logged)

/-! Jig: Jig. -/

theorem tracePass_keeps (s : State) (k : Pkt) (opc : Nat) : Keeps [.gauge, .regs] s (tracePass s k opc) := by
  unfold tracePass
  exact .mono (trace_keeps _ _ _ _ _ _ _)

theorem countLookup_keeps (s : State) (k : Pkt) (j : JigResult) : Keeps [.regs] s (countLookup s k j) := by
  unfold countLookup
  refine .ite ?_ ?_
  · refine .last (bump_keeps _ _) ?_
    refine .ite ?_ ?_
    · exact .last (bump_keeps _ _) (.mono (bump64_keeps _ _ _))
    · exact .last (bump_keeps _ _) (.mono (bump64_keeps _ _ _))
  · refine .ite ?_ ?_
    · exact .last (bump_keeps _ _) (.mono (bump64_keeps _ _ _))
    · exact .last (bump_keeps _ _) (.mono (bump64_keeps _ _ _))

theorem execJigClassify_runs (p : Nat) (s : State) :
    Runs [.rings, .pkts, .basin, .plane, .rasp, .jig, .csc, .twin, .macs, .gauge, .regs, .fresh] s (execJigClassify p s) := by
  unfold execJigClassify
  split
  · exact .next .refl
  · next k _ =>
    extract_lets pl j set a sl b rule clsSet c hdr h k'
    have looked : Keeps [.regs] s a := countLookup_keeps _ _ _
    have sliced : Keeps [.regs] s b := .ite (.last (bump_keeps _ _) looked) looked
    have classed : Keeps [.regs] s c := .ite (.last (bump_keeps _ _) sliced) sliced
    have traced : ∀ k r, Keeps [.gauge, .regs] s (bump (tracePass c k 0) r) :=
      fun _ _ => .last (bump_keeps _ _) (.last (tracePass_keeps _ _ _) (.mono classed))
    have dropped : ∀ r, Runs [.rings, .pkts, .basin, .plane, .rasp, .jig, .csc, .twin, .macs, .gauge, .regs, .fresh] s
        (done (passDrop (bump (tracePass c k' 0) r) p)) := fun _ => .next (.last (passDrop_keeps _ _) (.mono (traced _ _)))
    refine .ite (.ite (dropped _) (.ite (dropped _) ?_)) (.next .refl)
    split
    · exact dropped _
    · exact .next (.last (exception_keeps _ _ _ _ _ _ _) (.mono (traced _ _)))
    · exact .next (.last (pktSet_keeps _ _ _) (.mono classed))

theorem slotRelease_keeps (s : State) (n : Nat) : Keeps [.jig] s (slotRelease s n) := by
  unfold slotRelease
  exact .mono (jigSlotSet_keeps _ _ _)

theorem beginCompile_keeps (s : State) (n : Nat) (set : RuleSet) (c : JigCommit) : Keeps [.jig] s (beginCompile s n set c) := by
  unfold beginCompile
  exact .last (jigSlotSet_keeps _ _ _) (.put rfl rfl rfl rfl rfl .refl)

theorem execJigCommit_runs (ch seq : Nat) (s : State) :
    Runs [.fw, .mbx, .jig, .itw, .gauge, .regs, .out] s (execJigCommit ch seq s) := by
  unfold execJigCommit
  refine command_runs (fun _ => ?_)
  refine .ite ?_ ?_
  · exact .mono (answer_kept _ _ _ _ _)
  · refine .ite ?_ ?_
    · exact .mono (answer_kept _ _ _ _ _)
    · split
      · exact .mono (answer_kept _ _ _ _ _)
      · split
        · exact .mono (answer_kept _ _ _ _ _)
        · refine .last (defer_keeps _ _ _) ?_
          refine .ite ?_ ?_
          · exact .last (itwSendAll_keeps _ _ _) (.last (itwSend_keeps _ _ _) (.mono (beginCompile_keeps _ _ _ _)))
          · exact .mono (beginCompile_keeps _ _ _ _)

theorem commitFails_keeps (s : State) (c : JigCommit) (code kind side index : Nat) :
    Keeps [.fw, .mbx, .jig, .itw, .gauge, .regs, .out] s (commitFails s c code kind side index) := by
  unfold commitFails
  refine .ite ?_ ?_
  · exact .last (itwSend_keeps _ _ _) (.last (slotRelease_keeps _ _) (.put rfl rfl rfl rfl rfl .refl))
  · exact .last (answer_kept _ _ _ _ _) (.last (slotRelease_keeps _ _) (.put rfl rfl rfl rfl rfl .refl))

theorem execJigCompileDone_runs (badA badB : Bool) (s : State) :
    Runs [.dev, .hw, .fw, .mbx, .ep0, .ep1, .rings, .pkts, .basin, .plane, .rasp, .jig, .cst, .csc, .twin, .itw, .cry, .macs, .gauge,
      .regs, .out] s
      (execJigCompileDone badA badB s) := by
  unfold execJigCompileDone
  split
  · exact .next .refl
  · extract_lets rules fault badA' badB' a b c' set
    have checked : Keeps [.dev, .hw, .mbx, .ep0, .ep1, .rings, .pkts, .basin, .plane, .rasp, .jig, .cst, .csc, .twin, .cry, .macs, .gauge, .regs] s b :=
      .ite (selfCheckFail_keeps _ _ _ _ _) (.ite (selfCheckFail_keeps _ _ _ _ _) .refl)
    have told : ∀ kind body ph, Runs [.dev, .hw, .fw, .mbx, .ep0, .ep1, .rings, .pkts, .basin, .plane, .rasp, .jig, .cst, .csc, .twin, .itw, .cry, .macs,
        .gauge, .regs, .out] s (done (set (itwSend b kind body) ph)) :=
      fun _ _ _ => .next (.put rfl rfl rfl rfl rfl (.last (itwSend_keeps _ _ _) (.mono checked)))
    have waits : ∀ ph, Runs [.dev, .hw, .fw, .mbx, .ep0, .ep1, .rings, .pkts, .basin, .plane, .rasp, .jig, .cst, .csc, .twin, .itw, .cry, .macs, .gauge,
        .regs, .out] s (done (set b ph)) := fun _ => .next (.put rfl rfl rfl rfl rfl (.mono checked))
    refine .ite (.ite ?_ (.ite ?_ (.ite (told _ _ _) (.ite (.ite (told _ _ _) (waits _)) (waits _))))) (.next .refl)
    · exact .next (.mono (commitFails_keeps _ _ _ _ _ _))
    · exact .next (.last (commitFails_keeps _ _ _ _ _ _) (.mono (errlog_keeps _ _ _ _ _ _)))

theorem versionSwitch_keeps (s : State) (c : JigCommit) : Keeps [.jig] s (versionSwitch s c) := by
  unfold versionSwitch
  exact .last (jigSlotMod_keeps _ _ _) (.mono (jigSlotMod_keeps _ _ _))

theorem commitOk_keeps (s : State) (c : JigCommit) (mirror : Nat) : Keeps [.fw, .mbx, .jig, .gauge, .regs] s (commitOk s c mirror) := by
  unfold commitOk
  exact .last (answer_kept _ _ _ _ _) (.put rfl rfl rfl rfl rfl .refl)

theorem execJigVersionSwitch_runs (s : State) : Runs [.fw, .mbx, .jig, .itw, .gauge, .regs, .out] s (execJigVersionSwitch s) := by
  unfold execJigVersionSwitch
  split
  · exact .next .refl
  · refine .ite ?_ ?_
    · refine .ite ?_ ?_
      · exact .next (.last (itwSend_keeps _ _ _) (.put rfl rfl rfl rfl rfl (.mono (versionSwitch_keeps _ _))))
      · refine .ite ?_ ?_
        · refine .ite ?_ ?_
          · exact .next (.last (commitOk_keeps _ _ _) (.mono (versionSwitch_keeps _ _)))
          · exact .next (.put rfl rfl rfl rfl rfl (.mono (versionSwitch_keeps _ _)))
        · exact .next (.last (commitOk_keeps _ _ _) (.mono (versionSwitch_keeps _ _)))
    · exact .next .refl

theorem execJigSlotFree_runs (slot : Nat) (s : State) : Runs [.jig] s (execJigSlotFree slot s) := by
  unfold execJigSlotFree
  exact .ite (.next (.mono (jigSlotSet_keeps _ _ _))) (.next .refl)

theorem execJigDrainSlow_runs (slot : Nat) (s : State) : Runs [.mbx, .jig, .gauge, .regs] s (execJigDrainSlow slot s) := by
  unfold execJigDrainSlow
  exact .ite (.next (.last (eventToManager_keeps _ _ _) (.mono (jigSlotSet_keeps _ _ _)))) (.next .refl)

theorem takePrepare_keeps (s : State) (version : Nat) (digest : Word) :
    Keeps [.jig, .itw, .gauge, .regs, .out] s (takePrepare s version digest) := by
  unfold takePrepare
  exact .ite (.put rfl rfl rfl rfl rfl .refl) (.mono (itwSend_keeps _ _ _))

theorem onPrepare_keeps (s : State) (version : Nat) (digest : Word) :
    Keeps [.fw, .mbx, .jig, .itw, .gauge, .regs, .out] s (onPrepare s version digest) := by
  unfold onPrepare
  split
  · refine .ite ?_ ?_
    · exact .ite .refl (.last (takePrepare_keeps _ _ _) (.mono (commitFails_keeps _ _ _ _ _ _)))
    · exact .mono (takePrepare_keeps _ _ _)
  · exact .mono (takePrepare_keeps _ _ _)

theorem tableReceived_keeps (s : State) (version : Nat) (digest : Word) :
    Keeps [.jig, .itw, .gauge, .regs, .out, .fresh] s (tableReceived s version digest) := by
  unfold tableReceived
  refine .ite ?_ ?_
  · exact .last (itwSend_keeps _ _ _) (.last (bump_keeps _ _) (.put rfl rfl rfl rfl rfl .refl))
  · refine .ite ?_ ?_
    · exact .last (itwSend_keeps _ _ _) (.put rfl rfl rfl rfl rfl .refl)
    · split
      · exact .last (itwSend_keeps _ _ _) (.put rfl rfl rfl rfl rfl .refl)
      · exact .last (beginCompile_keeps _ _ _ _) (.last (drawn_keeps _) (.put rfl rfl rfl rfl rfl .refl))

theorem onJigData_keeps (s : State) (data : Bytes) : Keeps [.jig, .itw, .gauge, .regs, .out, .fresh] s (onJigData s data) := by
  unfold onJigData
  split
  · exact .refl
  · refine .ite ?_ ?_
    · exact .last (tableReceived_keeps _ _ _) (.put rfl rfl rfl rfl rfl .refl)
    · exact .put rfl rfl rfl rfl rfl .refl

theorem onJigReady_keeps (s : State) (code : Nat) : Keeps [.fw, .mbx, .jig, .itw, .gauge, .regs, .out] s (onJigReady s code) := by
  unfold onJigReady
  split
  · exact .refl
  · refine .ite ?_ ?_
    · refine .ite ?_ ?_
      · exact .mono (commitFails_keeps _ _ _ _ _ _)
      · exact .ite (.put rfl rfl rfl rfl rfl (.mono (itwSend_keeps _ _ _))) (.put rfl rfl rfl rfl rfl .refl)
    · exact .refl

theorem onJigGo_keeps (s : State) : Keeps [.jig] s (onJigGo s) := by
  unfold onJigGo
  split
  · exact .refl
  · exact .ite (.put rfl rfl rfl rfl rfl .refl) .refl

theorem onJigAck_keeps (s : State) : Keeps [.fw, .mbx, .jig, .gauge, .regs] s (onJigAck s) := by
  unfold onJigAck
  split
  · exact .refl
  · exact .ite (.ite (.mono (commitOk_keeps _ _ _)) (.ite (.put rfl rfl rfl rfl rfl .refl) .refl)) .refl

theorem execJigPrepare_runs (version : Nat) (digest : Word) (s : State) :
    Runs [.fw, .mbx, .jig, .itw, .gauge, .regs, .out] s (execJigPrepare version digest s) := by
  unfold execJigPrepare
  exact .next (.mono (onPrepare_keeps _ _ _))

theorem execJigData_runs (data : Bytes) (s : State) : Runs [.jig, .itw, .gauge, .regs, .out, .fresh] s (execJigData data s) := by
  unfold execJigData
  exact .next (.mono (onJigData_keeps _ _))

theorem execJigReady_runs (code : Nat) (s : State) : Runs [.fw, .mbx, .jig, .itw, .gauge, .regs, .out] s (execJigReady code s) := by
  unfold execJigReady
  exact .next (.mono (onJigReady_keeps _ _))

theorem execJigGo_runs (s : State) : Runs [.jig] s (execJigGo s) := by
  unfold execJigGo
  exact .next (.mono (onJigGo_keeps _))

theorem execJigAck_runs (s : State) : Runs [.fw, .mbx, .jig, .gauge, .regs] s (execJigAck s) := by
  unfold execJigAck
  exact .next (.mono (onJigAck_keeps _))

theorem mirrorNoReady_keeps (s : State) : Keeps [.fw, .mbx, .jig, .itw, .gauge, .regs, .out, .fresh] s (mirrorNoReady s) := by
  unfold mirrorNoReady
  split
  · exact .refl
  · exact .ite (.last (commitFails_keeps _ _ _ _ _ _) (.mono (drawn_keeps _))) .refl

theorem execMirrorReadyTimeout_runs (s : State) :
    Runs [.fw, .mbx, .jig, .itw, .gauge, .regs, .out, .fresh] s (execMirrorReadyTimeout s) := by
  unfold execMirrorReadyTimeout
  exact .next (.mono (mirrorNoReady_keeps _))

theorem execMirrorGoTimeout_runs (s : State) : Runs [.jig] s (execMirrorGoTimeout s) := by
  unfold execMirrorGoTimeout
  split
  · exact .next .refl
  · exact .ite (.next (.last (slotRelease_keeps _ _) (.put rfl rfl rfl rfl rfl .refl))) (.next .refl)

theorem execMirrorAckTimeout_runs (s : State) : Runs [.fw, .mbx, .jig, .gauge, .regs] s (execMirrorAckTimeout s) := by
  unfold execMirrorAckTimeout
  split
  · exact .next .refl
  · exact .ite (.next (.mono (commitOk_keeps _ _ _))) (.next .refl)

theorem stagingSet_keeps (s : State) (r : RuleSet) : Keeps [.jig] s (stagingSet s r) := by
  unfold stagingSet
  exact .put rfl rfl rfl rfl rfl .refl

theorem execJigRuleWrite_runs (ch seq : Nat) (s : State) : Runs [.fw, .mbx, .jig, .gauge, .regs] s (execJigRuleWrite ch seq s) := by
  unfold execJigRuleWrite
  refine command_runs (fun _ => ?_)
  exact .ite (.mono (answer_kept _ _ _ _ _)) (.last (answer_kept _ _ _ _ _) (.mono (stagingSet_keeps _ _)))

theorem execJigRuleRead_runs (ch seq : Nat) (s : State) : Runs [.fw, .mbx, .gauge, .regs] s (execJigRuleRead ch seq s) := by
  unfold execJigRuleRead
  refine command_runs (fun _ => ?_)
  split
  · exact .mono (answer_kept _ _ _ _ _)
  · exact .ite (.mono (answer_kept _ _ _ _ _)) (.mono (answer_kept _ _ _ _ _))

theorem execJigRuleClear_runs (ch seq : Nat) (s : State) : Runs [.fw, .mbx, .jig, .gauge, .regs] s (execJigRuleClear ch seq s) := by
  unfold execJigRuleClear
  refine command_runs (fun _ => ?_)
  exact .ite (.mono (answer_kept _ _ _ _ _)) (.last (answer_kept _ _ _ _ _) (.mono (stagingSet_keeps _ _)))

theorem execJigProfileWrite_runs (ch seq : Nat) (s : State) :
    Runs [.fw, .mbx, .jig, .gauge, .regs] s (execJigProfileWrite ch seq s) := by
  unfold execJigProfileWrite
  refine command_runs (fun _ => ?_)
  exact .ite (.mono (answer_kept _ _ _ _ _)) (.last (answer_kept _ _ _ _ _) (.mono (stagingSet_keeps _ _)))

theorem execJigProfileRead_runs (ch seq : Nat) (s : State) : Runs [.fw, .mbx, .gauge, .regs] s (execJigProfileRead ch seq s) := by
  unfold execJigProfileRead
  refine command_runs (fun _ => ?_)
  dsimp only
  split
  · exact .mono (answer_kept _ _ _ _ _)
  · exact .ite (.mono (answer_kept _ _ _ _ _)) (.mono (answer_kept _ _ _ _ _))

theorem execJigStageLoad_runs (ch seq : Nat) (s : State) : Runs [.fw, .mbx, .jig, .gauge, .regs] s (execJigStageLoad ch seq s) := by
  unfold execJigStageLoad
  refine command_runs (fun _ => ?_)
  refine .ite ?_ ?_
  · exact .mono (answer_kept _ _ _ _ _)
  · split
    · exact .mono (answer_kept _ _ _ _ _)
    · exact .last (answer_kept _ _ _ _ _) (.mono (stagingSet_keeps _ _))

theorem execJigSlotQuery_runs (ch seq : Nat) (s : State) : Runs [.fw, .mbx, .gauge, .regs] s (execJigSlotQuery ch seq s) := by
  unfold execJigSlotQuery
  exact command_runs (fun _ => .mono (answer_kept _ _ _ _ _))

theorem execJigMirrorSet_runs (ch seq : Nat) (s : State) : Runs [.fw, .mbx, .jig, .gauge, .regs] s (execJigMirrorSet ch seq s) := by
  unfold execJigMirrorSet
  refine command_runs (fun _ => ?_)
  refine .ite ?_ ?_
  · exact .mono (answer_kept _ _ _ _ _)
  · exact .last (answer_kept _ _ _ _ _) (.put rfl rfl rfl rfl rfl .refl)

theorem execJigMirrorStatus_runs (ch seq : Nat) (s : State) : Runs [.fw, .mbx, .gauge, .regs] s (execJigMirrorStatus ch seq s) := by
  unfold execJigMirrorStatus
  exact command_runs (fun _ => .mono (answer_kept _ _ _ _ _))

/-! Cistern: Cistern and Scribe. -/

theorem waySet_keeps (s : State) (l : Loc) (e : Bytes) : Keeps [.cst] s (waySet s l e) := by
  unfold waySet
  exact .ite (.put rfl rfl rfl rfl rfl .refl) (.put rfl rfl rfl rfl rfl .refl)

theorem markDirty_keeps (s : State) (e : Bytes) : Keeps [.sqr] s (markDirty s e) := by
  unfold markDirty
  exact .ite (.put rfl rfl rfl rfl rfl .refl) .refl

theorem epochAdd_keeps (s : State) (l : Loc) (n : Nat) : Keeps [.cst] s (epochAdd s l n) := by
  unfold epochAdd
  exact .ite .refl (.put rfl rfl rfl rfl rfl .refl)

theorem scribeTrace_keeps (s : State) (kind : Nat) (l : Loc) (e : Bytes) (outcome : Nat) :
    Keeps [.gauge, .regs] s (scribeTrace s kind l e outcome) := by
  unfold scribeTrace
  exact .mono (trace_keeps _ _ _ _ _ _ _)

theorem relocate_keeps (s : State) (src dst : Loc) : Keeps [.cst, .gauge, .regs] s (relocate s src dst) := by
  unfold relocate
  refine .last (scribeTrace_keeps _ _ _ _ _) ?_
  refine .last (bump_keeps _ _) ?_
  refine .put rfl rfl rfl rfl rfl ?_
  refine .last (waySet_keeps _ _ _) ?_
  exact .last (waySet_keeps _ _ _) (.last (epochAdd_keeps _ _ _) (.mono (epochAdd_keeps _ _ _)))

theorem carryChain_keeps (s : State) (ls : List Loc) (f : Loc) : Keeps [.cst, .gauge, .regs] s (carryChain s ls f).1 := by
  induction ls with
  | nil => exact .refl
  | cons l ls ih => exact .last (relocate_keeps _ _ _) ih

theorem makeRoom_keeps {s t : State} {key : Bytes} {l : Loc} (h : makeRoom s key = some (t, l)) : Keeps [.cst, .gauge, .regs] s t := by
  unfold makeRoom at h
  dsimp only at h
  split at h
  · cases h; exact .refl
  · split at h
    · cases h; exact .refl
    · split at h
      · rw [Option.some.injEq] at h
        exact .of_eq h (carryChain_keeps _ _ _)
      · obtain ⟨_, -, hx⟩ := Option.map_eq_some_iff.mp h
        cases hx; exact .refl

theorem insertFailed_keeps (s : State) (n reason : Nat) : Keeps [.mbx, .cst, .gauge, .regs] s (insertFailed s n reason) := by
  unfold insertFailed
  refine .ite ?_ ?_
  · exact .last (eventToManager_keeps _ _ _) (.put rfl rfl rfl rfl rfl .refl)
  · exact .put rfl rfl rfl rfl rfl .refl

theorem insertNew_keeps (s : State) (e : Bytes) : Keeps [.mbx, .cst, .sqr, .gauge, .regs] s (insertNew s e).1 := by
  unfold insertNew
  dsimp only
  split
  · exact .last (scribeTrace_keeps _ _ _ _ _) (.last (insertFailed_keeps _ _ _) (.mono (bump_keeps _ _)))
  · split
    · exact .last (scribeTrace_keeps _ _ _ _ _) (.last (insertFailed_keeps _ _ _) (.mono (bump_keeps _ _)))
    · refine .last (scribeTrace_keeps _ _ _ _ _) ?_
      refine .last (markDirty_keeps _ _) ?_
      exact .last (bump_keeps _ _) (.last (waySet_keeps _ _ _) (.mono (makeRoom_keeps ‹_›)))

theorem replaceAt_keeps (s : State) (l : Loc) (e : Bytes) : Keeps [.cst, .sqr] s (replaceAt s l e) := by
  unfold replaceAt
  exact .last (markDirty_keeps _ _) (.mono (waySet_keeps _ _ _))

theorem sendLearn_keeps (s : State) (type : Nat) (body : Bytes) : Keeps [.itw, .gauge, .regs, .out] s (sendLearn s type body) := by
  unfold sendLearn
  exact .last (bump_keeps _ _) (.mono (itwSend_keeps _ _ _))

theorem tellApply_keeps (s : State) (l : Loc) : Keeps [.itw, .gauge, .regs, .out] s (tellApply s l) := by
  unfold tellApply
  exact .ite (.mono (sendLearn_keeps _ _ _)) .refl

theorem promoteInto_keeps (s : State) (l : Loc) : Keeps [.cst] s (promoteInto s l) := by
  unfold promoteInto
  refine .ite ?_ ?_
  · exact .refl
  · split
    · exact .put rfl rfl rfl rfl rfl .refl
    · exact .refl

theorem deleteAt_keeps (s : State) (l : Loc) : Keeps [.cst, .sqr, .itw, .gauge, .regs, .out] s (deleteAt s l) := by
  unfold deleteAt
  refine .last (promoteInto_keeps _ _) ?_
  refine .last (scribeTrace_keeps _ _ _ _ _) ?_
  refine .ite ?_ ?_
  · refine .last (sendLearn_keeps _ _ _) ?_
    refine .put rfl rfl rfl rfl rfl ?_
    exact .last (bump_keeps _ _) (.last (markDirty_keeps _ _) (.mono (waySet_keeps _ _ _)))
  · refine .put rfl rfl rfl rfl rfl ?_
    exact .last (bump_keeps _ _) (.last (markDirty_keeps _ _) (.mono (waySet_keeps _ _ _)))

theorem updateEntry_keeps (s : State) (key : Bytes) (l : Loc) (epoch : BitVec 16) (off width v : Nat) :
    Keeps [.cst, .sqr, .regs] s (updateEntry s key l epoch off width v) := by
  unfold updateEntry
  split
  · exact .mono (bump_keeps _ _)
  · exact .ite (.mono (bump_keeps _ _)) (.last (markDirty_keeps _ _) (.mono (waySet_keeps _ _ _)))

theorem lookupTable_keeps (s : State) (key : Bytes) (refresh : Bool) : Keeps [.cst, .regs] s (lookupTable s key refresh).1 := by
  unfold lookupTable
  dsimp only
  split
  · exact .mono (bump64_keeps _ _ _)
  · refine .ite ?_ ?_
    · exact .last (waySet_keeps _ _ _) (.last (bump64_keeps _ _ _) (.mono (bump64_keeps _ _ _)))
    · exact .last (bump64_keeps _ _ _) (.mono (bump64_keeps _ _ _))

theorem pairErase_keeps (s : State) (k : PairKey) : Keeps [.cst] s (pairErase s k) := by
  unfold pairErase
  exact .put rfl rfl rfl rfl rfl .refl

theorem lookup_keeps (s : State) (pair : Option PairKey) (key : Bytes) (refresh : Bool) :
    Keeps [.cst, .regs] s (lookup s pair key refresh).1 := by
  unfold lookup
  split
  · split
    · exact .mono (.of_eq ‹_› (lookupTable_keeps _ _ _))
  · split
    · exact .mono (pairErase_keeps _ _)
    · exact .last (bump_keeps _ _) (.mono (pairErase_keeps _ _))
    · split
      · split
        · exact .refl
        · split
          · exact .put rfl rfl rfl rfl rfl (.mono (.of_eq ‹_› (lookupTable_keeps _ _ _)))
      · split
        · exact .mono (.of_eq ‹_› (lookupTable_keeps _ _ _))

theorem execPairResultExpire_runs (stream : Nat) (seq : Word) (pass ordinal : Nat) (s : State) :
    Runs [.cst, .regs] s (execPairResultExpire stream seq pass ordinal s) := by
  unfold execPairResultExpire
  dsimp only
  split
  · exact .next (.last (bump_keeps _ _) (.put rfl rfl rfl rfl rfl .refl))
  · exact .next .refl

theorem execPairMarkExpire_runs (stream : Nat) (seq : Word) (pass ordinal : Nat) (s : State) :
    Runs [.cst] s (execPairMarkExpire stream seq pass ordinal s) := by
  unfold execPairMarkExpire
  dsimp only
  split
  · exact .next (.mono (pairErase_keeps _ _))
  · exact .next .refl

theorem scribePush_keeps (s : State) (r : ScribeReq) : Keeps [.cst, .regs] s (scribePush s r) := by
  unfold scribePush
  exact .ite (.mono (bump_keeps _ _)) (.put rfl rfl rfl rfl rfl .refl)

theorem execScribeRequest_runs (s : State) : Runs [.cst] s (execScribeRequest s) := by
  unfold execScribeRequest
  split
  · exact .next (.put rfl rfl rfl rfl rfl .refl)
  · exact .next .refl

theorem scribeDone_keeps (s : State) : Keeps [.cst] s (scribeDone s) := by
  unfold scribeDone
  exact .put rfl rfl rfl rfl rfl .refl

theorem addAnswer_keeps (s : State) (cmd : Option (Nat × Nat)) (code : Nat) (loc result : Nat) :
    Keeps [.fw, .mbx, .gauge, .regs] s (addAnswer s cmd code loc result) := by
  unfold addAnswer
  split
  · exact .mono (answer_kept _ _ _ _ _)
  · exact .refl

theorem applyInsert_keeps (s : State) (key entry : Bytes) (replace : Bool) (cmd : Option (Nat × Nat)) :
    Keeps [.fw, .mbx, .cst, .sqr, .gauge, .regs] s (applyInsert s key entry replace cmd) := by
  unfold applyInsert
  dsimp only
  split
  · refine .ite ?_ ?_
    · exact .last (addAnswer_keeps _ _ _ _ _) (.mono (bump_keeps _ _))
    · exact .ite (.mono (bump_keeps _ _)) (.last (addAnswer_keeps _ _ _ _ _) (.mono (replaceAt_keeps _ _ _)))
  · split
    · exact .last (addAnswer_keeps _ _ _ _ _) (.mono (.of_eq ‹_› (insertNew_keeps _ _)))
    · exact .last (addAnswer_keeps _ _ _ _ _) (.mono (.of_eq ‹_› (insertNew_keeps _ _)))

theorem execScribeInsert_runs (s : State) : Runs [.fw, .mbx, .cst, .sqr, .gauge, .regs] s (execScribeInsert s) := by
  unfold execScribeInsert
  split
  · exact .next (.last (applyInsert_keeps _ _ _ _ _) (.mono (scribeDone_keeps _)))
  · exact .next .refl

theorem applyLearn_keeps (s : State) (key : Bytes) (dest : Word) (ts : Dword) (src prof slice_ : Nat) :
    Keeps [.mbx, .cst, .sqr, .itw, .gauge, .regs, .out] s (applyLearn s key dest ts src prof slice_) := by
  unfold applyLearn
  split
  · split
    · refine .last (tellApply_keeps _ _) ?_
      exact .last (scribeTrace_keeps _ _ _ _ _) (.mono (.of_eq ‹_› (insertNew_keeps _ _)))
    · exact .mono (.of_eq ‹_› (insertNew_keeps _ _))
  · refine .ite ?_ ?_
    · exact .ite .refl (.mono (bump_keeps _ _))
    · refine .ite ?_ ?_
      · exact .ite .refl (.last (scribeTrace_keeps _ _ _ _ _) (.mono (bump_keeps _ _)))
      · refine .ite ?_ ?_
        · exact .last (tellApply_keeps _ _) (.last (scribeTrace_keeps _ _ _ _ _) (.mono (waySet_keeps _ _ _)))
        · refine .ite ?_ ?_
          · exact .last (scribeTrace_keeps _ _ _ _ _) (.mono (bump_keeps _ _))
          · refine .ite ?_ ?_
            · refine .last (eventToManager_keeps _ _ _) ?_
              refine .last (bump_keeps _ _) ?_
              refine .last (tellApply_keeps _ _) ?_
              exact .last (scribeTrace_keeps _ _ _ _ _) (.last (waySet_keeps _ _ _) (.put rfl rfl rfl rfl rfl .refl))
            · refine .last (tellApply_keeps _ _) ?_
              refine .last (scribeTrace_keeps _ _ _ _ _) ?_
              exact .last (waySet_keeps _ _ _) (.last (markDirty_keeps _ _) (.mono (bump_keeps _ _)))

theorem execScribeLearn_runs (s : State) : Runs [.mbx, .cst, .sqr, .itw, .gauge, .regs, .out] s (execScribeLearn s) := by
  unfold execScribeLearn
  split
  · refine .ite ?_ ?_
    · exact .next (.last (sendLearn_keeps _ _ _) (.mono (scribeDone_keeps _)))
    · refine .next ?_
      refine .last (applyLearn_keeps _ _ _ _ _ _ _) ?_
      exact .last (hwCount_keeps _ _) (.last (hwCount_keeps _ _) (.mono (scribeDone_keeps _)))
  · exact .next .refl

theorem execScribeDelete_runs (s : State) : Runs [.fw, .mbx, .cst, .sqr, .itw, .gauge, .regs, .out] s (execScribeDelete s) := by
  have found : ∀ {u : State} (cmd : Option (Nat × Nat)) (b : Bytes), Keeps [.fw, .mbx, .cst, .sqr, .itw, .gauge, .regs, .out] s u →
      Keeps [.fw, .mbx, .cst, .sqr, .itw, .gauge, .regs, .out] s (match cmd with
        | some (ch, seq) => answer u ch seq rcOk b
        | none => u) := by
    intro u cmd b hu
    cases cmd with
    | none => exact hu
    | some p => exact .last (answer_kept _ _ _ _ _) hu
  have done := scribeDone_keeps s
  unfold execScribeDelete
  split
  · dsimp only
    split
    · exact .next (found _ _ (.mono done))
    · refine .ite (.next (.last (bump_keeps _ _) (.mono done))) (.next (found _ _ ?_))
      exact .last (deleteAt_keeps _ _) (.mono done)
  · refine .next (.last (answer_kept _ _ _ _ _) ?_)
    exact .foldl (.mono done) (fun _ _ => .mono (deleteAt_keeps _ _))
  · exact .next .refl

theorem execScribeUpdate_runs (s : State) : Runs [.cst, .sqr, .regs] s (execScribeUpdate s) := by
  unfold execScribeUpdate
  split
  · exact .next (.last (updateEntry_keeps _ _ _ _ _ _ _) (.mono (scribeDone_keeps _)))
  · exact .next .refl

theorem execStashPromote_runs (s : State) : Runs [.cst, .gauge, .regs] s (execStashPromote s) := by
  unfold execStashPromote
  dsimp only
  split
  · refine .next ?_
    exact .ite (.last (relocate_keeps _ _ _) (.mono (scribeDone_keeps _))) (.mono (scribeDone_keeps _))
  · refine .next ?_
    refine .ite ?_ ?_
    · exact .last (relocate_keeps _ _ _) (.put rfl rfl rfl rfl rfl .refl)
    · exact .put rfl rfl rfl rfl rfl .refl
  · exact .next .refl

theorem ageDelete_keeps (s : State) (l : Loc) : Keeps [.cst, .sqr, .itw, .gauge, .regs, .out] s (ageDelete s l) := by
  unfold ageDelete
  exact .ite .refl (.last (bump_keeps _ _) (.mono (deleteAt_keeps _ _)))

theorem ageVisit_keeps (s : State) (l : Loc) : Keeps [.cst, .sqr, .itw, .gauge, .regs, .out] s (ageVisit s l) := by
  unfold ageVisit
  refine .ite ?_ ?_
  · refine .ite ?_ ?_
    · exact .mono (waySet_keeps _ _ _)
    · refine .ite ?_ ?_
      · exact .mono (waySet_keeps _ _ _)
      · exact .ite (.last (ageDelete_keeps _ _) (.mono (waySet_keeps _ _ _))) (.mono (waySet_keeps _ _ _))
  · exact .ite (.mono (waySet_keeps _ _ _)) (.ite (.mono (ageDelete_keeps _ _)) .refl)

theorem refreshReport_keeps (s : State) (l : Loc) : Keeps [.itw, .gauge, .regs, .out] s (refreshReport s l) := by
  unfold refreshReport
  exact .ite (.mono (sendLearn_keeps _ _ _)) .refl

theorem ageAt_keeps (s : State) (l : Loc) : Keeps [.cst, .sqr, .itw, .gauge, .regs, .out] s (ageAt s l) := by
  unfold ageAt
  exact .ite (.last (ageVisit_keeps _ _) (.mono (refreshReport_keeps _ _))) .refl

theorem execAgeWalkVisit_runs (bucket : Nat) (s : State) :
    Runs [.cst, .sqr, .itw, .gauge, .regs, .out] s (execAgeWalkVisit bucket s) := by
  unfold execAgeWalkVisit
  refine .ite ?_ ?_
  · refine .next ?_
    refine .foldl ?_ (fun _ _ => ?_)
    · exact .ite (.put rfl rfl rfl rfl rfl (.mono (hwCount_keeps _ _))) (.mono (hwCount_keeps _ _))
    · exact .mono (ageAt_keeps _ _)
  · refine .ite ?_ ?_
    · refine .next ?_
      exact .put rfl rfl rfl rfl rfl (.foldl (.mono (hwCount_keeps _ _)) (fun _ _ => .mono (ageAt_keeps _ _)))
    · exact .next (.mono (hwCount_keeps _ _))

theorem execStampModeRestore_runs (s : State) : Runs [.cst] s (execStampModeRestore s) := by
  unfold execStampModeRestore
  exact .ite (.next (.put rfl rfl rfl rfl rfl .refl)) (.next .refl)

theorem cisternStep_keeps (s : State) : Keeps [.cst, .regs] s (cisternStep s) := by
  unfold cisternStep
  exact .put rfl rfl rfl rfl rfl (.ite .refl (.mono (bump_keeps _ _)))

theorem unlockAt_keeps (s : State) (l : Loc) : Keeps [.cst, .itw, .gauge, .regs, .out] s (unlockAt s l) := by
  unfold unlockAt
  exact .last (tellApply_keeps _ _) (.put rfl rfl rfl rfl rfl (.mono (waySet_keeps _ _ _)))

theorem execLockHoldExpire_runs (stash : Bool) (loc : Nat) (s : State) :
    Runs [.cst, .itw, .gauge, .regs, .out] s (execLockHoldExpire stash loc s) := by
  unfold execLockHoldExpire
  exact .ite (.next (.mono (unlockAt_keeps _ _))) (.next .refl)

theorem execCstEccInvalidate_runs (stash : Bool) (loc : Nat) (s : State) :
    Runs [.hw, .mbx, .ep0, .ep1, .cst, .sqr, .gauge, .regs] s (execCstEccInvalidate stash loc s) := by
  unfold execCstEccInvalidate
  refine .ite ?_ ?_
  · refine .next ?_
    refine .last (eventToManager_keeps _ _ _) ?_
    refine .last (promoteInto_keeps _ _) ?_
    refine .last (errlog_keeps _ _ _ _ _ _) ?_
    refine .last (capture_keeps _ _ _) ?_
    refine .last (setBits_keeps _ _ _) ?_
    refine .last (bump_keeps _ _) ?_
    exact .put rfl rfl rfl rfl rfl (.ite (.last (markDirty_keeps _ _) (.mono (waySet_keeps _ _ _))) .refl)
  · exact .next .refl

theorem setRegions_keeps (s : State) (base : Nat → Nat) (rs : List Nat) : Keeps [.regs] s (setRegions s base rs) := by
  unfold setRegions
  exact .foldl .refl (fun _ _ => .mono (setBits_keeps _ _ _))

theorem execSqrAuditComplete_runs (s : State) : Runs [.fw, .mbx, .sqr, .gauge, .regs, .fresh] s (execSqrAuditComplete s) := by
  unfold execSqrAuditComplete
  split
  · exact .next .refl
  · refine .next ?_
    refine .last (answer_kept _ _ _ _ _) ?_
    refine .ite ?_ ?_
    · exact .last (setRegions_keeps _ _ _) (.put rfl rfl rfl rfl rfl .refl)
    · refine .last (eventToManager_keeps _ _ _) ?_
      exact .last (setBits_keeps _ _ _) (.last (setRegions_keeps _ _ _) (.put rfl rfl rfl rfl rfl .refl))

theorem execCstEntryAdd_runs (ch seq : Nat) (s : State) : Runs [.fw, .mbx, .cst, .gauge, .regs] s (execCstEntryAdd ch seq s) := by
  unfold execCstEntryAdd
  refine command_runs (fun _ => ?_)
  refine .ite ?_ ?_
  · exact .mono (answer_kept _ _ _ _ _)
  · exact .ite (.mono (answer_kept _ _ _ _ _)) (.last (defer_keeps _ _ _) (.put rfl rfl rfl rfl rfl .refl))

theorem execCstEntryDelete_runs (ch seq : Nat) (s : State) : Runs [.fw, .mbx, .cst, .gauge, .regs] s (execCstEntryDelete ch seq s) := by
  unfold execCstEntryDelete
  refine command_runs (fun _ => ?_)
  split
  · exact .mono (answer_kept _ _ _ _ _)
  · exact .ite (.mono (answer_kept _ _ _ _ _)) (.last (defer_keeps _ _ _) (.put rfl rfl rfl rfl rfl .refl))

theorem execCstEntryRead_runs (ch seq : Nat) (s : State) : Runs [.fw, .mbx, .gauge, .regs] s (execCstEntryRead ch seq s) := by
  unfold execCstEntryRead
  refine command_runs (fun _ => ?_)
  split
  · exact .mono (answer_kept _ _ _ _ _)
  · split
    · exact .mono (answer_kept _ _ _ _ _)
    · exact .mono (answer_kept _ _ _ _ _)

theorem execCstEntryUnlock_runs (ch seq : Nat) (s : State) :
    Runs [.fw, .mbx, .cst, .itw, .gauge, .regs, .out] s (execCstEntryUnlock ch seq s) := by
  unfold execCstEntryUnlock
  refine command_runs (fun _ => ?_)
  split
  · exact .mono (answer_kept _ _ _ _ _)
  · refine .ite ?_ ?_
    · exact .mono (answer_kept _ _ _ _ _)
    · split
      · exact .last (answer_kept _ _ _ _ _) (.ite (.mono (unlockAt_keeps _ _)) .refl)
      · exact .mono (answer_kept _ _ _ _ _)

theorem execCstFlush_runs (ch seq : Nat) (s : State) : Runs [.fw, .mbx, .cst, .gauge, .regs] s (execCstFlush ch seq s) := by
  unfold execCstFlush
  refine command_runs (fun _ => ?_)
  exact .ite (.mono (answer_kept _ _ _ _ _)) (.last (defer_keeps _ _ _) (.put rfl rfl rfl rfl rfl .refl))

theorem execCstFloodSet_runs (ch seq : Nat) (s : State) : Runs [.fw, .mbx, .cst, .gauge, .regs] s (execCstFloodSet ch seq s) := by
  unfold execCstFloodSet
  refine command_runs (fun _ => ?_)
  refine .ite ?_ ?_
  · exact .mono (answer_kept _ _ _ _ _)
  · exact .last (answer_kept _ _ _ _ _) (.put rfl rfl rfl rfl rfl .refl)

theorem execSqrExpectWrite_runs (ch seq : Nat) (s : State) : Runs [.fw, .mbx, .sqr, .gauge, .regs] s (execSqrExpectWrite ch seq s) := by
  unfold execSqrExpectWrite
  refine command_runs (fun _ => ?_)
  refine .ite ?_ ?_
  · exact .mono (answer_kept _ _ _ _ _)
  · exact .last (answer_kept _ _ _ _ _) (.put rfl rfl rfl rfl rfl .refl)

theorem execSqrAuditStart_runs (ch seq : Nat) (s : State) : Runs [.fw, .mbx, .sqr, .gauge, .regs] s (execSqrAuditStart ch seq s) := by
  unfold execSqrAuditStart
  refine command_runs (fun _ => ?_)
  exact .ite (.mono (answer_kept _ _ _ _ _)) (.last (defer_keeps _ _ _) (.put rfl rfl rfl rfl rfl .refl))

theorem execSqrResultRead_runs (ch seq : Nat) (s : State) : Runs [.fw, .mbx, .gauge, .regs] s (execSqrResultRead ch seq s) := by
  unfold execSqrResultRead
  exact command_runs (fun _ => .ite (.mono (answer_kept _ _ _ _ _)) (.mono (answer_kept _ _ _ _ _)))

/-! Action: the action unit. -/

theorem absentWrite_keeps (s : State) (k : Pkt) : Keeps [.regs] s (absentWrite s k) := by
  unfold absentWrite
  exact .mono (bump_keeps _ _)

theorem actDrop_keeps (s : State) (p : Nat) (k : Pkt) (opc : Nat) :
    Keeps [.rings, .pkts, .basin, .plane, .rasp, .jig, .csc, .twin, .macs, .gauge, .regs] s (actDrop s p k opc) := by
  unfold actDrop
  exact .last (passDrop_keeps _ _) (.last (tracePass_keeps _ _ _) (.mono (pktSet_keeps _ _ _)))

theorem actException_keeps (s : State) (p : Nat) (k : Pkt) (kind : ItemKind) (counterAddr : Nat) :
    Keeps [.rings, .pkts, .basin, .plane, .rasp, .jig, .csc, .twin, .macs, .gauge, .regs, .fresh] s
      (actException s p k kind counterAddr) := by
  unfold actException
  exact .last (exception_keeps _ _ _ _ _ _ _) (.last (bump_keeps _ _) (.mono (tracePass_keeps _ _ _)))

theorem actGoto_keeps (s : State) (p : Nat) (k : Pkt) (n : Nat) :
    Keeps [.rings, .pkts, .basin, .plane, .rasp, .jig, .csc, .twin, .macs, .gauge, .regs] s (actGoto s p k n) := by
  unfold actGoto
  exact .ite (.mono (pktSet_keeps _ _ _)) (.last (actDrop_keeps _ _ _ _) (.mono (bump_keeps _ _)))

theorem actNext_keeps (s : State) (p : Nat) (k : Pkt) :
    Keeps [.rings, .pkts, .basin, .plane, .rasp, .jig, .csc, .twin, .macs, .gauge, .regs] s (actNext s p k) := by
  unfold actNext
  exact .mono (actGoto_keeps _ _ _ _)

theorem enterRecord_keeps (s : State) (p : Nat) (k : Pkt) (idx : Nat) :
    Keeps [.rings, .pkts, .basin, .plane, .rasp, .jig, .csc, .twin, .macs, .gauge, .regs, .fresh] s (enterRecord s p k idx) := by
  unfold enterRecord
  refine .ite ?_ ?_
  · refine .last (actException_keeps _ _ _ _ _) ?_
    exact .ite (.last (bump_keeps _ _) (.mono (drawn_keeps _))) (.mono (drawn_keeps _))
  · refine .ite ?_ ?_
    · refine .last (actDrop_keeps _ _ _ _) ?_
      refine .last (bump_keeps _ _) ?_
      exact .ite (.last (bump_keeps _ _) (.mono (drawn_keeps _))) (.mono (drawn_keeps _))
    · refine .last (pktSet_keeps _ _ _) ?_
      exact .ite (.last (bump_keeps _ _) (.mono (drawn_keeps _))) (.mono (drawn_keeps _))

theorem execActionRecordFetch_runs (p : Nat) (s : State) :
    Runs [.rings, .pkts, .basin, .plane, .rasp, .jig, .csc, .twin, .macs, .gauge, .regs, .fresh] s (execActionRecordFetch p s) := by
  unfold execActionRecordFetch
  split
  · exact .next .refl
  · exact .ite (.next (.mono (enterRecord_keeps _ _ _ _))) (.next .refl)

theorem runOp_runs {ps : List Part} {s : State} {p opc : Nat} {f : State → Pkt → Bytes → State} (h : ∀ u k o, Keeps ps u (f u k o))
    (sub : [.rings, .pkts, .basin, .plane, .rasp, .jig, .csc, .twin, .macs, .gauge, .regs, .fresh] ⊆ ps := by decide) :
    Runs ps s (runOp s p opc f) := by
  unfold runOp
  dsimp only
  split
  · exact .next .refl
  · exact .ite (.ite (.next ((actException_keeps _ _ _ _ _).mono sub)) (.next (h _ _ _))) (.next .refl)

theorem runAlu_runs (s : State) (p opc : Nat) (f : Pkt → Bytes → Dword) :
    Runs [.rings, .pkts, .basin, .plane, .rasp, .jig, .csc, .twin, .macs, .gauge, .regs, .fresh] s (runAlu s p opc f) := by
  unfold runAlu
  exact runOp_runs (fun _ _ _ => .mono (actNext_keeps _ _ _))

theorem runBranch_runs (s : State) (p opc : Nat) (c : Pkt → Bytes → Bool) :
    Runs [.rings, .pkts, .basin, .plane, .rasp, .jig, .csc, .twin, .macs, .gauge, .regs, .fresh] s (runBranch s p opc c) := by
  unfold runBranch
  exact runOp_runs (fun _ _ _ => .ite (.mono (actGoto_keeps _ _ _ _)) (.mono (actNext_keeps _ _ _)))

theorem execLdi_runs (p : Nat) (s : State) :
    Runs [.rings, .pkts, .basin, .plane, .rasp, .jig, .csc, .twin, .macs, .gauge, .regs, .fresh] s (execLdi p s) := by
  unfold execLdi
  exact .mono (runAlu_runs _ _ _ _)

theorem execLdf_runs (p : Nat) (s : State) :
    Runs [.rings, .pkts, .basin, .plane, .rasp, .jig, .csc, .twin, .macs, .gauge, .regs, .fresh] s (execLdf p s) := by
  unfold execLdf
  exact .mono (runAlu_runs _ _ _ _)

theorem execStf_runs (p : Nat) (s : State) :
    Runs [.rings, .pkts, .basin, .plane, .rasp, .jig, .csc, .twin, .macs, .gauge, .regs, .fresh] s (execStf p s) := by
  unfold execStf
  refine runOp_runs (fun _ _ _ => ?_)
  split
  · exact .mono (actNext_keeps _ _ _)
  · exact .last (actNext_keeps _ _ _) (.mono (absentWrite_keeps _ _))

theorem execMov_runs (p : Nat) (s : State) :
    Runs [.rings, .pkts, .basin, .plane, .rasp, .jig, .csc, .twin, .macs, .gauge, .regs, .fresh] s (execMov p s) := by
  unfold execMov
  exact .mono (runAlu_runs _ _ _ _)

theorem execAdd_runs (p : Nat) (s : State) :
    Runs [.rings, .pkts, .basin, .plane, .rasp, .jig, .csc, .twin, .macs, .gauge, .regs, .fresh] s (execAdd p s) := by
  unfold execAdd
  exact .mono (runAlu_runs _ _ _ _)

theorem execSub_runs (p : Nat) (s : State) :
    Runs [.rings, .pkts, .basin, .plane, .rasp, .jig, .csc, .twin, .macs, .gauge, .regs, .fresh] s (execSub p s) := by
  unfold execSub
  exact .mono (runAlu_runs _ _ _ _)

theorem execAnd_runs (p : Nat) (s : State) :
    Runs [.rings, .pkts, .basin, .plane, .rasp, .jig, .csc, .twin, .macs, .gauge, .regs, .fresh] s (execAnd p s) := by
  unfold execAnd
  exact .mono (runAlu_runs _ _ _ _)

theorem execOr_runs (p : Nat) (s : State) :
    Runs [.rings, .pkts, .basin, .plane, .rasp, .jig, .csc, .twin, .macs, .gauge, .regs, .fresh] s (execOr p s) := by
  unfold execOr
  exact .mono (runAlu_runs _ _ _ _)

theorem execXor_runs (p : Nat) (s : State) :
    Runs [.rings, .pkts, .basin, .plane, .rasp, .jig, .csc, .twin, .macs, .gauge, .regs, .fresh] s (execXor p s) := by
  unfold execXor
  exact .mono (runAlu_runs _ _ _ _)

theorem execShl_runs (p : Nat) (s : State) :
    Runs [.rings, .pkts, .basin, .plane, .rasp, .jig, .csc, .twin, .macs, .gauge, .regs, .fresh] s (execShl p s) := by
  unfold execShl
  exact .mono (runAlu_runs _ _ _ _)

theorem execShr_runs (p : Nat) (s : State) :
    Runs [.rings, .pkts, .basin, .plane, .rasp, .jig, .csc, .twin, .macs, .gauge, .regs, .fresh] s (execShr p s) := by
  unfold execShr
  exact .mono (runAlu_runs _ _ _ _)

theorem execAddi_runs (p : Nat) (s : State) :
    Runs [.rings, .pkts, .basin, .plane, .rasp, .jig, .csc, .twin, .macs, .gauge, .regs, .fresh] s (execAddi p s) := by
  unfold execAddi
  exact .mono (runAlu_runs _ _ _ _)

theorem execCrc_runs (p : Nat) (s : State) :
    Runs [.rings, .pkts, .basin, .plane, .rasp, .jig, .csc, .twin, .macs, .gauge, .regs, .fresh] s (execCrc p s) := by
  unfold execCrc
  exact .mono (runAlu_runs _ _ _ _)

theorem execBeq_runs (p : Nat) (s : State) :
    Runs [.rings, .pkts, .basin, .plane, .rasp, .jig, .csc, .twin, .macs, .gauge, .regs, .fresh] s (execBeq p s) := by
  unfold execBeq
  exact .mono (runBranch_runs _ _ _ _)

theorem execBne_runs (p : Nat) (s : State) :
    Runs [.rings, .pkts, .basin, .plane, .rasp, .jig, .csc, .twin, .macs, .gauge, .regs, .fresh] s (execBne p s) := by
  unfold execBne
  exact .mono (runBranch_runs _ _ _ _)

theorem execBlt_runs (p : Nat) (s : State) :
    Runs [.rings, .pkts, .basin, .plane, .rasp, .jig, .csc, .twin, .macs, .gauge, .regs, .fresh] s (execBlt p s) := by
  unfold execBlt
  exact .mono (runBranch_runs _ _ _ _)

theorem execBge_runs (p : Nat) (s : State) :
    Runs [.rings, .pkts, .basin, .plane, .rasp, .jig, .csc, .twin, .macs, .gauge, .regs, .fresh] s (execBge p s) := by
  unfold execBge
  exact .mono (runBranch_runs _ _ _ _)

theorem execBtst_runs (p : Nat) (s : State) :
    Runs [.rings, .pkts, .basin, .plane, .rasp, .jig, .csc, .twin, .macs, .gauge, .regs, .fresh] s (execBtst p s) := by
  unfold execBtst
  exact .mono (runBranch_runs _ _ _ _)

theorem execJump_runs (p : Nat) (s : State) :
    Runs [.rings, .pkts, .basin, .plane, .rasp, .jig, .csc, .twin, .macs, .gauge, .regs, .fresh] s (execJump p s) := by
  unfold execJump
  exact runOp_runs (fun _ _ _ => .mono (enterRecord_keeps _ _ _ _))

theorem execEndOp_runs (p : Nat) (s : State) :
    Runs [.rings, .pkts, .basin, .plane, .rasp, .jig, .csc, .twin, .macs, .gauge, .regs, .fresh] s (execEndOp p s) := by
  unfold execEndOp
  exact runOp_runs (fun _ _ _ => .last (actDrop_keeps _ _ _ _) (.mono (bump_keeps _ _)))

theorem execLookup_runs (p : Nat) (s : State) :
    Runs [.rings, .pkts, .basin, .plane, .rasp, .jig, .cst, .csc, .twin, .macs, .gauge, .regs, .fresh] s (execLookup p s) := by
  unfold execLookup
  refine runOp_runs (fun _ _ _ => ?_)
  refine .ite ?_ ?_
  · exact .mono (actException_keeps _ _ _ _ _)
  · dsimp only
    split
    · exact .last (actNext_keeps _ _ _) (.mono (lookup_keeps _ _ _ _))
    · exact .last (actDrop_keeps _ _ _ _) (.mono (lookup_keeps _ _ _ _))
    · exact .refl

theorem sideEffect_keeps {ps : List Part} {s : State} {k : Pkt} {f : State → State} (h : ∀ u, Keeps ps u (f u))
    (sub : [.regs] ⊆ ps := by decide) : Keeps ps s (sideEffect s k f) :=
  .ite (h s) ((bump_keeps _ _).mono sub)

theorem execEntUpdate_runs (p : Nat) (s : State) :
    Runs [.rings, .pkts, .basin, .plane, .rasp, .jig, .cst, .sqr, .csc, .twin, .macs, .gauge, .regs, .fresh] s (execEntUpdate p s) := by
  unfold execEntUpdate
  refine runOp_runs (fun _ _ _ => ?_)
  split
  · exact .mono (actNext_keeps _ _ _)
  · refine .ite ?_ ?_
    · exact .last (actNext_keeps _ _ _) (.mono (absentWrite_keeps _ _))
    · exact .last (actNext_keeps _ _ _) (sideEffect_keeps (fun _ => .mono (updateEntry_keeps _ _ _ _ _ _ _)))

theorem execLearn_runs (p : Nat) (s : State) :
    Runs [.rings, .pkts, .basin, .plane, .rasp, .jig, .cst, .csc, .twin, .macs, .gauge, .regs, .fresh] s (execLearn p s) := by
  unfold execLearn
  refine runOp_runs (fun _ _ _ => ?_)
  exact .last (actNext_keeps _ _ _) (sideEffect_keeps (fun _ => .mono (scribePush_keeps _ _)))

theorem execInsert_runs (p : Nat) (s : State) :
    Runs [.rings, .pkts, .basin, .plane, .rasp, .jig, .cst, .csc, .twin, .macs, .gauge, .regs, .fresh] s (execInsert p s) := by
  unfold execInsert
  refine runOp_runs (fun _ _ _ => ?_)
  refine .last (actNext_keeps _ _ _) ?_
  refine .last (sideEffect_keeps (fun _ => ?_)) (.ite (.mono (drawn_keeps _)) .refl) (List.Subset.refl _)
  exact .mono (scribePush_keeps _ _)

theorem execDelete_runs (p : Nat) (s : State) :
    Runs [.rings, .pkts, .basin, .plane, .rasp, .jig, .cst, .csc, .twin, .macs, .gauge, .regs, .fresh] s (execDelete p s) := by
  unfold execDelete
  refine runOp_runs (fun _ _ _ => ?_)
  split
  · exact .mono (actNext_keeps _ _ _)
  · exact .last (actNext_keeps _ _ _) (sideEffect_keeps (fun _ => .mono (scribePush_keeps _ _)))

theorem execTtlDec_runs (p : Nat) (s : State) :
    Runs [.rings, .pkts, .basin, .plane, .rasp, .jig, .csc, .twin, .macs, .gauge, .regs, .fresh] s (execTtlDec p s) := by
  unfold execTtlDec
  refine runOp_runs (fun _ _ _ => ?_)
  dsimp only
  split
  · exact .last (actNext_keeps _ _ _) (.mono (absentWrite_keeps _ _))
  · exact .ite (.mono (actException_keeps _ _ _ _ _)) (.mono (actNext_keeps _ _ _))

theorem fixCsum_keeps (s : State) (k : Pkt) (old : Bytes) (lo hi slot byte : Nat) (udp : Bool) :
    Keeps [.regs] s (fixCsum s k old lo hi slot byte udp).1 := by
  unfold fixCsum
  split
  · exact .refl
  · split
    · exact .mono (absentWrite_keeps _ _)
    · exact .refl

theorem execCstf_runs (p : Nat) (s : State) :
    Runs [.rings, .pkts, .basin, .plane, .rasp, .jig, .csc, .twin, .macs, .gauge, .regs, .fresh] s (execCstf p s) := by
  unfold execCstf
  refine runOp_runs (fun _ _ _ => ?_)
  dsimp only
  split
  · refine .last (actNext_keeps _ _ _) ?_
    exact .last (fixCsum_keeps _ _ _ _ _ _ _ _) (.mono (fixCsum_keeps _ _ _ _ _ _ _ _))
  · exact .last (actNext_keeps _ _ _) (.mono (absentWrite_keeps _ _))

theorem runEdit_keeps (s : State) (p : Nat) (k : Pkt) (n len : Nat) (e : Nat → Edit) :
    Keeps [.rings, .pkts, .basin, .plane, .rasp, .jig, .csc, .twin, .macs, .gauge, .regs] s (runEdit s p k n len e) := by
  unfold runEdit
  split
  · exact .mono (actNext_keeps _ _ _)
  · exact .last (actNext_keeps _ _ _) (.mono (absentWrite_keeps _ _))

theorem execVlanPush_runs (p : Nat) (s : State) :
    Runs [.rings, .pkts, .basin, .plane, .rasp, .jig, .csc, .twin, .macs, .gauge, .regs, .fresh] s (execVlanPush p s) := by
  unfold execVlanPush
  exact runOp_runs (fun _ _ _ => .mono (runEdit_keeps _ _ _ _ _ _))

theorem execVlanPop_runs (p : Nat) (s : State) :
    Runs [.rings, .pkts, .basin, .plane, .rasp, .jig, .csc, .twin, .macs, .gauge, .regs, .fresh] s (execVlanPop p s) := by
  unfold execVlanPop
  exact runOp_runs (fun _ _ _ => .mono (runEdit_keeps _ _ _ _ _ _))

theorem execEncap_runs (p : Nat) (s : State) :
    Runs [.rings, .pkts, .basin, .plane, .rasp, .jig, .csc, .twin, .macs, .gauge, .regs, .fresh] s (execEncap p s) := by
  unfold execEncap
  exact runOp_runs (fun _ _ _ => .mono (actNext_keeps _ _ _))

theorem execDecap_runs (p : Nat) (s : State) :
    Runs [.rings, .pkts, .basin, .plane, .rasp, .jig, .csc, .twin, .macs, .gauge, .regs, .fresh] s (execDecap p s) := by
  unfold execDecap
  exact runOp_runs (fun _ _ _ => .mono (runEdit_keeps _ _ _ _ _ _))

theorem execSetTc_runs (p : Nat) (s : State) :
    Runs [.rings, .pkts, .basin, .plane, .rasp, .jig, .csc, .twin, .macs, .gauge, .regs, .fresh] s (execSetTc p s) := by
  unfold execSetTc
  exact runOp_runs (fun _ _ _ => .mono (actNext_keeps _ _ _))

theorem execMark_runs (p : Nat) (s : State) :
    Runs [.rings, .pkts, .basin, .plane, .rasp, .jig, .csc, .twin, .macs, .gauge, .regs, .fresh] s (execMark p s) := by
  unfold execMark
  exact runOp_runs (fun _ _ _ => .mono (actNext_keeps _ _ _))

theorem execSetClass_runs (p : Nat) (s : State) :
    Runs [.rings, .pkts, .basin, .plane, .rasp, .jig, .csc, .twin, .macs, .gauge, .regs, .fresh] s (execSetClass p s) := by
  unfold execSetClass
  exact runOp_runs (fun _ _ _ => .mono (actNext_keeps _ _ _))

theorem execSetSa_runs (p : Nat) (s : State) :
    Runs [.rings, .pkts, .basin, .plane, .rasp, .jig, .csc, .twin, .macs, .gauge, .regs, .fresh] s (execSetSa p s) := by
  unfold execSetSa
  exact runOp_runs (fun _ _ _ => .mono (actNext_keeps _ _ _))

theorem execCount_runs (p : Nat) (s : State) :
    Runs [.rings, .pkts, .basin, .plane, .rasp, .jig, .act, .csc, .twin, .macs, .gauge, .regs, .fresh] s (execCount p s) := by
  unfold execCount
  refine runOp_runs (fun _ _ _ => ?_)
  exact .last (actNext_keeps _ _ _) (sideEffect_keeps (fun _ => .put rfl rfl rfl rfl rfl .refl))

theorem execMirror_runs (p : Nat) (s : State) :
    Runs [.rings, .pkts, .basin, .plane, .rasp, .jig, .csc, .twin, .macs, .gauge, .regs, .fresh] s (execMirror p s) := by
  unfold execMirror
  refine runOp_runs (fun _ _ _ => ?_)
  exact .ite (.mono (actNext_keeps _ _ _)) (.last (actNext_keeps _ _ _) (.mono (bump_keeps _ _)))

theorem applyEdits_keeps (n : Nat) (s : State) (k : Pkt) (es : List Edit) : Keeps [.regs] s (applyEdits n s k es).1 := by
  induction n generalizing s k es with
  | zero => exact .refl
  | succ n ih =>
    cases es with
    | nil => exact .refl
    | cons e es =>
      unfold applyEdits
      split
      · exact .refl
      · split
        · exact .last (ih _ _ _) (absentWrite_keeps _ _)
        · split
          · exact .refl
          · exact ih _ _ _

theorem recirculate_keeps (s : State) (p : Nat) (k : Pkt) : Keeps [.pkts] s (recirculate s p k) := by
  unfold recirculate
  exact .mono (pktSet_keeps _ _ _)

theorem takeVerdict_keeps (s : State) (p : Nat) (k : Pkt) (v : Verdict) :
    Keeps [.rings, .pkts, .basin, .plane, .rasp, .jig, .csc, .twin, .macs, .regs, .fresh] s (takeVerdict s p k v) := by
  unfold takeVerdict
  split
  · exact .last (passDrop_keeps _ _) (.mono (pktSet_keeps _ _ _))
  · exact .mono (exception_keeps _ _ _ _ _ _ _)
  · exact .mono (recirculate_keeps _ _ _)
  · exact .ite (.mono (pktSet_keeps _ _ _)) (.mono (pktSet_keeps _ _ _))

theorem saAttach_keeps (s : State) (p : Nat) (k : Pkt) (v : Verdict) (i : Nat) (dir : Bool) :
    Keeps [.rings, .pkts, .basin, .plane, .rasp, .jig, .csc, .twin, .cry, .macs, .regs] s (saAttach s p k v i dir) := by
  unfold saAttach
  refine .ite ?_ ?_
  · exact .last (pktSet_keeps _ _ _) (.put rfl rfl rfl rfl rfl .refl)
  · exact .last (passDrop_keeps _ _) (.last (bump_keeps _ _) (.mono (pktSet_keeps _ _ _)))

theorem endPass_keeps (s : State) (p : Nat) (k : Pkt) (opc : Nat) (v : Verdict) :
    Keeps [.rings, .pkts, .basin, .plane, .rasp, .jig, .csc, .twin, .cry, .macs, .gauge, .regs, .fresh] s (endPass s p k opc v) := by
  unfold endPass
  refine .ite ?_ ?_
  · exact .last (passDrop_keeps _ _) (.last (pktSet_keeps _ _ _) (.mono (tracePass_keeps _ _ _)))
  · dsimp only
    split
    · refine .last (passDrop_keeps _ _) ?_
      refine .last (bump_keeps _ _) ?_
      refine .last (pktSet_keeps _ _ _) ?_
      exact .last (.of_eq ‹_› (applyEdits_keeps _ _ _ _)) (.mono (tracePass_keeps _ _ _))
    · refine .last (passDrop_keeps _ _) ?_
      refine .last (pktSet_keeps _ _ _) ?_
      exact .last (.of_eq ‹_› (applyEdits_keeps _ _ _ _)) (.mono (tracePass_keeps _ _ _))
    · split
      · refine .last (saAttach_keeps _ _ _ _ _ _) ?_
        exact .last (.of_eq ‹_› (applyEdits_keeps _ _ _ _)) (.mono (tracePass_keeps _ _ _))
      · refine .last (takeVerdict_keeps _ _ _ _) ?_
        exact .last (.of_eq ‹_› (applyEdits_keeps _ _ _ _)) (.mono (tracePass_keeps _ _ _))

theorem execFwdPort_runs (p : Nat) (s : State) :
    Runs [.rings, .pkts, .basin, .plane, .rasp, .jig, .csc, .twin, .cry, .macs, .gauge, .regs, .fresh] s (execFwdPort p s) := by
  unfold execFwdPort
  exact runOp_runs (fun _ _ _ => .mono (endPass_keeps _ _ _ _ _))

theorem execFwdHost_runs (p : Nat) (s : State) :
    Runs [.rings, .pkts, .basin, .plane, .rasp, .jig, .csc, .twin, .cry, .macs, .gauge, .regs, .fresh] s (execFwdHost p s) := by
  unfold execFwdHost
  refine runOp_runs (fun _ _ _ => ?_)
  split
  · exact .mono (endPass_keeps _ _ _ _ _)
  · exact .mono (actDrop_keeps _ _ _ _)

theorem execFlood_runs (p : Nat) (s : State) :
    Runs [.rings, .pkts, .basin, .plane, .rasp, .jig, .csc, .twin, .cry, .macs, .gauge, .regs, .fresh] s (execFlood p s) := by
  unfold execFlood
  exact runOp_runs (fun _ _ _ => .mono (endPass_keeps _ _ _ _ _))

theorem execDrop_runs (p : Nat) (s : State) :
    Runs [.rings, .pkts, .basin, .plane, .rasp, .jig, .csc, .twin, .cry, .macs, .gauge, .regs, .fresh] s (execDrop p s) := by
  unfold execDrop
  exact runOp_runs (fun _ _ _ => .mono (endPass_keeps _ _ _ _ _))

theorem execToEngine_runs (p : Nat) (s : State) :
    Runs [.rings, .pkts, .basin, .plane, .rasp, .jig, .csc, .twin, .cry, .macs, .gauge, .regs, .fresh] s (execToEngine p s) := by
  unfold execToEngine
  exact runOp_runs (fun _ _ _ => .mono (endPass_keeps _ _ _ _ _))

theorem execRecirc_runs (p : Nat) (s : State) :
    Runs [.rings, .pkts, .basin, .plane, .rasp, .jig, .csc, .twin, .cry, .macs, .gauge, .regs, .fresh] s (execRecirc p s) := by
  unfold execRecirc
  refine runOp_runs (fun _ _ _ => ?_)
  exact .ite (.mono (actException_keeps _ _ _ _ _)) (.mono (endPass_keeps _ _ _ _ _))

theorem execActRecordWrite_runs (ch seq : Nat) (s : State) : Runs [.fw, .mbx, .act, .gauge, .regs] s (execActRecordWrite ch seq s) := by
  unfold execActRecordWrite
  refine command_runs (fun _ => ?_)
  dsimp only
  split
  · exact .mono (answer_kept _ _ _ _ _)
  · exact .last (defer_keeps _ _ _) (.put rfl rfl rfl rfl rfl .refl)

theorem execActRecordSwitch_runs (s : State) : Runs [.fw, .mbx, .act, .gauge, .regs] s (execActRecordSwitch s) := by
  unfold execActRecordSwitch
  exact .next (.foldl (.put rfl rfl rfl rfl rfl .refl) (fun _ _ => .mono (answer_kept _ _ _ _ _)))

theorem execActRecordRead_runs (ch seq : Nat) (s : State) : Runs [.fw, .mbx, .gauge, .regs] s (execActRecordRead ch seq s) := by
  unfold execActRecordRead
  exact command_runs (fun _ => .ite (.mono (answer_kept _ _ _ _ _)) (.mono (answer_kept _ _ _ _ _)))

/-! Images: images and clusters. -/

theorem bankSet_keeps (s : State) (kind bank : Nat) (b : ImageBank) : Keeps [.flash] s (bankSet s kind bank b) := by
  unfold bankSet
  exact .put rfl rfl rfl rfl rfl .refl

theorem loadEngine_keeps (s : State) (q pos : Nat) : Keeps [.mem] s (loadEngine s q pos) := by
  unfold loadEngine
  dsimp only
  split
  · exact .refl
  · exact .last (memWriteN_keeps _ _ _) (memWriteN_keeps s _ _)

theorem loadCluster_keeps (s : State) (q : Nat) : Keeps [.csc, .mem] s (loadCluster s q) := by
  have loaded : Keeps [.csc, .mem] s ((List.range 8).foldl (fun s p => loadEngine s q p) s) :=
    .foldl .refl (fun _ _ => .mono (loadEngine_keeps _ _ _))
  unfold loadCluster
  generalize (List.range 8).foldl (fun s p => loadEngine s q p) s = u at loaded
  exact .last (clusterMod_keeps _ _ _) (.put rfl rfl rfl rfl rfl loaded)

/-! Cascade: the Cascade engines. -/

theorem localWrite_keeps (s : State) (q t a : Nat) (b : Bytes) : Keeps [.mem] s (localWrite s q t a b) := by
  unfold localWrite
  split
  · exact memWriteN_keeps _ _ _
  · exact .refl

theorem traceItem_keeps (s : State) (q kind p slice_ : Nat) (data : Bytes) :
    Keeps [.gauge, .regs] s (traceItem s q kind p slice_ data) := by
  unfold traceItem
  exact .mono (trace_keeps _ _ _ _ _ _ _)

theorem itemEnd_keeps (s : State) (q h verdict : Nat) : Keeps [.csc, .gauge, .regs] s (itemEnd s q h verdict) := by
  unfold itemEnd
  refine .last (clusterMod_keeps _ _ _) ?_
  refine .last (itemFree_keeps _ _ _) ?_
  split
  · exact .mono (traceItem_keeps _ _ _ _ _ _)
  · exact .refl

theorem threadFault_keeps (s : State) (q t cls pc addr : Nat) : Keeps [.csc, .gauge, .regs, .mem] s (threadFault s q t cls pc addr) := by
  unfold threadFault
  refine .last (faultRecord_keeps _ _ _ _ _ _ _) ?_
  refine .ite ?_ ?_
  · exact .last (clusterMod_keeps _ _ _) (.last (childExits_keeps _ _ _ _) (.mono (thMod_keeps _ _ _ _)))
  · exact .last (childExits_keeps _ _ _ _) (.mono (thMod_keeps _ _ _ _))

theorem windowFault_keeps (s : State) (q t cls addr : Nat) :
    Keeps [.csc, .gauge, .regs, .mem, .fresh] s (windowFault s q t cls addr) := by
  unfold windowFault
  exact .last (threadFault_keeps _ _ _ _ _ _) (.mono (drawn_keeps _))

theorem window_runs {ps : List Part} {s : State} {q t : Nat} {f : Thread → State} (h : ∀ x, Keeps ps s (f x)) :
    Runs ps s (window s q t f) :=
  .ite (.next (h _)) (.next .refl)

theorem supWindow_runs {ps : List Part} {s : State} {q t : Nat} {f : Thread → State} (h : ∀ x, Keeps ps s (f x))
    (sub : [.csc, .gauge, .regs, .mem, .fresh] ⊆ ps := by decide) : Runs ps s (supWindow s q t f) :=
  window_runs (fun _ => .ite (h _) ((windowFault_keeps _ _ _ _ _).mono (subset_of sub)))

theorem deliver_keeps (s : State) (q t h : Nat) (it : WorkItem) : Keeps [.csc, .gauge, .regs, .mem] s (deliver s q t h it) := by
  unfold deliver
  refine .last (traceItem_keeps _ _ _ _ _ _) ?_
  refine .last (thMod_keeps _ _ _ _) ?_
  refine .last (bump64_keeps _ _ _) ?_
  exact .last (thMod_keeps _ _ _ _) (.last (localWrite_keeps _ _ _ _ _) (.mono (clusterMod_keeps _ _ _)))

theorem execWorkItemDeliver_runs (q slot h : Nat) (s : State) : Runs [.csc, .gauge, .regs, .mem] s (execWorkItemDeliver q slot h s) := by
  unfold execWorkItemDeliver
  split
  · exact .next .refl
  · refine .ite ?_ ?_
    · refine .ite ?_ ?_
      · exact .ite (.next (.mono (deliver_keeps _ _ _ _ _))) (.next .refl)
      · split
        · exact .next (.last (deliver_keeps _ _ _ _ _) (.mono (clusterMod_keeps _ _ _)))
        · exact .next .refl
    · exact .next .refl

theorem execExcRetry_runs (p pos : Nat) (s : State) : Runs [.pkts, .csc, .fresh] s (execExcRetry p pos s) := by
  unfold execExcRetry
  split
  · exact .next .refl
  · split
    · refine .ite ?_ ?_
      · split
        · exact .next (.put rfl rfl rfl rfl rfl (.mono (queueItem_opt _ _ _ _ _ _ _ _ ‹_›)))
        · exact .next .refl
      · exact .next .refl
    · exact .next .refl

theorem chanPut_keeps (s : State) (q ch : Nat) (x : Channel) : Keeps [.csc] s (chanPut s q ch x) := by
  unfold chanPut
  exact .mono (clusterMod_keeps _ _ _)

theorem commit_keeps (s : State) (q t dest : Nat) (ws : List Dword) : Keeps [.csc, .regs] s (commit s q t dest ws).1 := by
  have queued : ∀ m, Keeps [.csc, .regs] s { s with csc := { s.csc with devq := s.csc.devq ++ [m] } } := fun _ =>
    .put rfl rfl rfl rfl rfl .refl
  unfold commit
  split_ifs
  · dsimp only
    split_ifs
    · exact .refl
    · exact .mono (chanPut_keeps _ _ _ _)
    · exact .mono (bump_keeps _ _)
  · exact queued _
  · exact .mono (bump_keeps _ _)
  · exact .refl

theorem execChDest_runs (q slot : Nat) (value : Dword) (s : State) : Runs [.csc] s (execChDest q slot value s) := by
  unfold execChDest
  exact window_runs (fun _ => .mono (thMod_keeps _ _ _ _))

theorem execChWord_runs (q slot : Nat) (value : Dword) (s : State) :
    Runs [.csc, .gauge, .regs, .mem, .fresh] s (execChWord q slot value s) := by
  unfold execChWord
  exact window_runs (fun _ => .ite (.mono (windowFault_keeps _ _ _ _ _)) (.mono (thMod_keeps _ _ _ _)))

theorem execChLast_runs (q slot : Nat) (value : Dword) (s : State) :
    Runs [.csc, .gauge, .regs, .mem, .fresh] s (execChLast q slot value s) := by
  unfold execChLast
  refine window_runs (fun _ => ?_)
  refine .ite ?_ ?_
  · exact .mono (windowFault_keeps _ _ _ _ _)
  · refine .ite ?_ ?_
    · exact .last (thMod_keeps _ _ _ _) (.last (chanPut_keeps _ _ _ _) (.mono (commit_keeps _ _ _ _ _)))
    · exact .last (thMod_keeps _ _ _ _) (.mono (commit_keeps _ _ _ _ _))

theorem execChLastNb_runs (q slot : Nat) (value : Dword) (s : State) :
    Runs [.csc, .gauge, .regs, .mem, .fresh] s (execChLastNb q slot value s) := by
  unfold execChLastNb
  refine window_runs (fun _ => ?_)
  refine .ite ?_ ?_
  · exact .mono (windowFault_keeps _ _ _ _ _)
  · exact .last (thMod_keeps _ _ _ _) (.mono (commit_keeps _ _ _ _ _))

theorem execChWaitCommit_runs (chan : Nat) (s : State) : Runs [.csc] s (execChWaitCommit chan s) := by
  unfold execChWaitCommit
  refine .ite ?_ ?_
  · split
    · exact .next (.last (clusterMod_keeps _ _ _) (.mono (chanPut_keeps _ _ _ _)))
    · exact .next (.last (thMod_keeps _ _ _ _) (.mono (chanPut_keeps _ _ _ _)))
    · exact .next .refl
  · exact .next .refl

theorem execChRead_runs (q slot : Nat) (value : Dword) (s : State) :
    Runs [.csc, .gauge, .regs, .mem, .fresh] s (execChRead q slot value s) := by
  unfold execChRead
  refine window_runs (fun _ => ?_)
  refine .ite ?_ ?_
  · exact .mono (windowFault_keeps _ _ _ _ _)
  · dsimp only
    split
    · exact .mono (thMod_keeps _ _ _ _)
    · refine .ite ?_ ?_
      · exact .mono (windowFault_keeps _ _ _ _ _)
      · exact .last (thMod_keeps _ _ _ _) (.last (chanPut_keeps _ _ _ _) (.mono (localWrite_keeps _ _ _ _ _)))

theorem execWait_runs (q slot : Nat) (value : Dword) (s : State) :
    Runs [.csc, .gauge, .regs, .mem, .fresh] s (execWait q slot value s) := by
  unfold execWait
  refine window_runs (fun _ => ?_)
  exact .ite (.mono (windowFault_keeps _ _ _ _ _)) (.ite .refl (.mono (thMod_keeps _ _ _ _)))

theorem execWaitWake_runs (q slot : Nat) (s : State) : Runs [.csc] s (execWaitWake q slot s) := by
  unfold execWaitWake
  exact .ite (.next (.mono (thSet_keeps _ _ _ _))) (.next .refl)

theorem execWaitTimeout_runs (q slot : Nat) (s : State) : Runs [.csc] s (execWaitTimeout q slot s) := by
  unfold execWaitTimeout
  exact .ite (.next (.mono (thSet_keeps _ _ _ _))) (.next .refl)

theorem execForkArg_runs (q slot : Nat) (value : Dword) (s : State) : Runs [.csc] s (execForkArg q slot value s) := by
  unfold execForkArg
  exact window_runs (fun _ => .mono (thMod_keeps _ _ _ _))

theorem execFork_runs (q slot : Nat) (value : Dword) (s : State) :
    Runs [.csc, .gauge, .regs, .mem, .fresh] s (execFork q slot value s) := by
  unfold execFork
  refine window_runs (fun x => .ite (.mono (windowFault_keeps _ _ _ _ _)) ?_)
  have picked := pickFrom_keeps s (forkThreads s q x.slice)
  dsimp only
  split
  · exact .last (thMod_keeps _ _ _ _) (.last (bump_keeps _ _) (.mono picked))
  · exact .last (thMod_keeps _ _ _ _) (.last (thMod_keeps _ _ _ _) (.mono picked))

theorem execJoin_runs (q slot : Nat) (_value : Dword) (s : State) : Runs [.csc] s (execJoin q slot _value s) := by
  unfold execJoin
  exact window_runs (fun _ => .ite .refl (.mono (thMod_keeps _ _ _ _)))

theorem exitItem_keeps (q : Nat) (s : State) (h : Nat) :
    Keeps [.rings, .pkts, .basin, .plane, .rasp, .jig, .csc, .twin, .macs, .gauge, .regs] s (exitItem q s h) := by
  unfold exitItem
  refine .ite ?_ ?_
  · exact .refl
  · split
    · exact .refl
    · exact .last (passDrop_keeps _ _) (.last (bump_keeps _ _) (.mono (itemEnd_keeps _ _ _ _)))

theorem execExit_runs (q slot : Nat) (value : Dword) (s : State) :
    Runs [.rings, .pkts, .basin, .plane, .rasp, .jig, .csc, .twin, .macs, .gauge, .regs, .mem] s (execExit q slot value s) := by
  unfold execExit
  refine window_runs (fun _ => ?_)
  refine .ite ?_ ?_
  · exact .last (clusterMod_keeps _ _ _) (.foldl .refl (fun _ _ => .mono (exitItem_keeps _ _ _)))
  · refine .last (thFree_keeps _ _ _) ?_
    exact .last (childExits_keeps _ _ _ _) (.foldl .refl (fun _ _ => .mono (exitItem_keeps _ _ _)))

theorem execPark_runs (q slot : Nat) (value : Dword) (s : State) :
    Runs [.pkts, .csc, .twin, .gauge, .regs, .mem, .fresh] s (execPark q slot value s) := by
  unfold execPark
  refine window_runs (fun _ => ?_)
  dsimp only
  split
  · split
    · refine .last (ringLeave_keeps _ _ _) ?_
      exact .last (pktSet_keeps _ _ _) (.last (thMod_keeps _ _ _ _) (.mono (clusterMod_keeps _ _ _)))
    · exact .last (thMod_keeps _ _ _ _) (.mono (clusterMod_keeps _ _ _))
  · exact .mono (windowFault_keeps _ _ _ _ _)

theorem execUnpark_runs (q slot : Nat) (value : Dword) (s : State) :
    Runs [.csc, .gauge, .regs, .mem, .fresh] s (execUnpark q slot value s) := by
  unfold execUnpark
  refine window_runs (fun _ => ?_)
  dsimp only
  split
  · refine .ite ?_ ?_
    · exact .last (thMod_keeps _ _ _ _) (.last (localWrite_keeps _ _ _ _ _) (.mono (clusterMod_keeps _ _ _)))
    · exact .mono (windowFault_keeps _ _ _ _ _)
  · exact .mono (windowFault_keeps _ _ _ _ _)

theorem supOp_runs {ps : List Part} {s : State} {q slot : Nat} {fits : Thread → Bool} {f : State → State} (h : ∀ u, Keeps ps u (f u))
    (sub : [.csc] ⊆ ps := by decide) : Runs ps s (supOp s q slot fits f) :=
  window_runs (fun _ => .ite ((thMod_keeps _ _ _ _).mono sub)
    (.ite (.last (thMod_keeps _ _ _ _) (h s) sub) ((thMod_keeps _ _ _ _).mono sub)))

theorem execSuspend_runs (q slot : Nat) (s : State) : Runs [.csc] s (execSuspend q slot s) := by
  unfold execSuspend
  exact supOp_runs (fun _ => .last (thMod_keeps _ _ _ _) (.mono (dropWriter_keeps _ _ _)))

theorem execResume_runs (q slot : Nat) (s : State) : Runs [.csc] s (execResume q slot s) := by
  unfold execResume
  refine supOp_runs (fun _ => ?_)
  split
  · exact .last (thMod_keeps _ _ _ _) (.mono (chanPut_keeps _ _ _ _))
  · exact .mono (thMod_keeps _ _ _ _)

theorem abortItem_keeps (q : Nat) (requeue : Bool) (s : State) (h : Nat) : Keeps [.csc] s (abortItem q requeue s h) := by
  unfold abortItem
  exact .ite (.mono (itemRequeue_keeps _ _ _)) (.mono (clusterMod_keeps _ _ _))

theorem abortThread_keeps (q : Nat) (requeue : Bool) (n : Nat) (s : State) (t : Nat) :
    Keeps [.csc, .mem] s (abortThread q requeue n s t) := by
  induction n generalizing s t with
  | zero => exact .refl
  | succ n ih =>
    exact .last (thFree_keeps _ _ _) (.last (childExits_keeps _ _ _ _) (.foldl (.foldl .refl (fun u c => ih u c)) (fun _ _ => .mono (abortItem_keeps _ _ _ _))))

theorem execAbort_runs (q slot : Nat) (requeue : Bool) (s : State) : Runs [.csc, .mem] s (execAbort q slot requeue s) := by
  unfold execAbort
  exact supOp_runs (fun _ => .mono (abortThread_keeps _ _ _ _ _))

theorem execSupThread_runs (q slot : Nat) (value : Dword) (s : State) :
    Runs [.csc, .gauge, .regs, .mem, .fresh] s (execSupThread q slot value s) := by
  unfold execSupThread
  exact supWindow_runs (fun _ => .mono (thMod_keeps _ _ _ _))

theorem execSupRegs_runs (q slot : Nat) (value : Dword) (s : State) :
    Runs [.csc, .gauge, .regs, .mem, .fresh] s (execSupRegs q slot value s) := by
  unfold execSupRegs
  refine supWindow_runs (fun _ => ?_)
  exact .ite (.mono (windowFault_keeps _ _ _ _ _)) (.mono (localWrite_keeps _ _ _ _ _))

theorem execSupDldAck_runs (q slot : Nat) (_value : Dword) (s : State) :
    Runs [.csc, .gauge, .regs, .mem, .fresh] s (execSupDldAck q slot _value s) := by
  unfold execSupDldAck
  exact supWindow_runs (fun _ => .mono (clusterMod_keeps _ _ _))

theorem serveDev_runs {ps : List Part} {s : State} {chan : Nat} {want : List Dword → Bool} {f : State → DevMsg → Option State}
    (h : ∀ u m, OptKeeps ps u (f u m)) (sub : [.csc] ⊆ ps := by decide) : Runs ps s (serveDev s chan want f) := by
  unfold serveDev
  split
  · exact .next .refl
  next m _ =>
    have taken : Keeps ps s { s with csc := { s.csc with devq := s.csc.devq.erase m } } :=
      Keeps.mono (qs := [.csc]) (.put rfl rfl rfl rfl rfl .refl) sub
    split
    · split
      · exact .next (.last (h _ _ _ ‹_›) taken (List.Subset.refl _))
      · exact .next .refl
    · exact .next .refl

theorem execDevchLookup_runs (s : State) : Runs [.cst, .csc, .regs] s (execDevchLookup s) := by
  unfold execDevchLookup
  refine serveDev_runs (fun _ _ => ?_)
  refine .ite ?_ ?_
  · exact .none
  · dsimp only
    split
    · refine .some ?_
      exact .ite (.last (chanPut_keeps _ _ _ _) (.mono (lookup_keeps _ _ _ _))) (.mono (lookup_keeps _ _ _ _))
    · refine .some ?_
      exact .ite (.last (chanPut_keeps _ _ _ _) (.mono (lookup_keeps _ _ _ _))) (.mono (lookup_keeps _ _ _ _))
    · exact .none

theorem devScribe_keeps (s : State) (m : DevMsg) (r : ScribeReq) : Keeps [.cst, .regs] s (devScribe s m r) := by
  unfold devScribe
  exact .ite (.mono (scribePush_keeps _ _)) (.mono (bump_keeps _ _))

theorem execDevchScribeLearn_runs (s : State) : Runs [.cst, .csc, .regs, .fresh] s (execDevchScribeLearn s) := by
  unfold execDevchScribeLearn
  exact serveDev_runs (fun _ _ => .some (.last (devScribe_keeps _ _ _) (.mono (drawn_keeps _))))

theorem execDevchScribeInsert_runs (s : State) : Runs [.cst, .csc, .regs] s (execDevchScribeInsert s) := by
  unfold execDevchScribeInsert
  exact serveDev_runs (fun _ _ => .some (.mono (devScribe_keeps _ _ _)))

theorem execDevchScribeDelete_runs (s : State) : Runs [.cst, .csc, .regs] s (execDevchScribeDelete s) := by
  unfold execDevchScribeDelete
  exact serveDev_runs (fun _ _ => .some (.mono (devScribe_keeps _ _ _)))

theorem execDevchScribeUpdate_runs (s : State) : Runs [.cst, .csc, .regs] s (execDevchScribeUpdate s) := by
  unfold execDevchScribeUpdate
  exact serveDev_runs (fun _ _ => .some (.mono (devScribe_keeps _ _ _)))

theorem servePkt_runs {ps : List Part} {s : State} {v : Nat} {f : State → DevMsg → Nat → WorkItem → Option State}
    (h : ∀ u m n it, OptKeeps ps u (f u m n it)) (sub : [.csc, .regs] ⊆ ps := by decide) : Runs ps s (servePkt s v f) := by
  refine serveDev_runs (fun u m => ?_) (subset_of sub)
  dsimp only
  split
  · exact h _ _ _ _
  · exact .some ((bump_keeps _ _).mono (subset_of sub))

theorem verdictItem_opt {ps : List Part} {s : State} {m : DevMsg} {n : Nat} {it : WorkItem} {v : Nat} {f : State → Nat → Pkt → State}
    (h : ∀ u p k, Keeps ps u (f u p k)) (sub : [.csc, .gauge, .regs] ⊆ ps := by decide) :
    OptKeeps ps s (verdictItem s m n it v f) := by
  have ended := (itemEnd_keeps s m.cluster n v).mono sub
  unfold verdictItem
  dsimp only
  split
  · exact .some ended
  · exact .some (.last (h _ _ _) ended (List.Subset.refl _))

theorem execPktFwdPort_runs (s : State) :
    Runs [.rings, .pkts, .basin, .plane, .rasp, .jig, .csc, .twin, .macs, .gauge, .regs, .fresh] s (execPktFwdPort s) := by
  unfold execPktFwdPort
  exact servePkt_runs (fun _ _ _ _ => verdictItem_opt (fun _ _ _ => .mono (takeVerdict_keeps _ _ _ _)))

theorem execPktFwdHost_runs (s : State) :
    Runs [.rings, .pkts, .basin, .plane, .rasp, .jig, .csc, .twin, .macs, .gauge, .regs, .fresh] s (execPktFwdHost s) := by
  unfold execPktFwdHost
  refine servePkt_runs (fun _ _ _ _ => ?_)
  refine verdictItem_opt (fun _ _ _ => ?_)
  split
  · exact .mono (takeVerdict_keeps _ _ _ _)
  · exact .last (passDrop_keeps _ _) (.mono (pktSet_keeps _ _ _))

theorem execPktFlood_runs (s : State) :
    Runs [.rings, .pkts, .basin, .plane, .rasp, .jig, .csc, .twin, .macs, .gauge, .regs, .fresh] s (execPktFlood s) := by
  unfold execPktFlood
  exact servePkt_runs (fun _ _ _ _ => verdictItem_opt (fun _ _ _ => .mono (takeVerdict_keeps _ _ _ _)))

theorem execPktDrop_runs (s : State) :
    Runs [.rings, .pkts, .basin, .plane, .rasp, .jig, .csc, .twin, .macs, .gauge, .regs, .fresh] s (execPktDrop s) := by
  unfold execPktDrop
  exact servePkt_runs (fun _ _ _ _ => verdictItem_opt (fun _ _ _ => .mono (takeVerdict_keeps _ _ _ _)))

theorem execPktRecirc_runs (s : State) :
    Runs [.rings, .pkts, .basin, .plane, .rasp, .jig, .csc, .twin, .macs, .gauge, .regs, .fresh] s (execPktRecirc s) := by
  unfold execPktRecirc
  refine servePkt_runs (fun _ _ _ _ => ?_)
  refine verdictItem_opt (fun _ _ _ => ?_)
  refine .ite ?_ ?_
  · exact .last (passDrop_keeps _ _) (.last (pktSet_keeps _ _ _) (.mono (bump_keeps _ _)))
  · exact .mono (takeVerdict_keeps _ _ _ _)

theorem execInject_runs (s : State) : Runs [.rings, .pkts, .nextPid, .basin, .csc, .twin, .macs, .regs, .fresh] s (execInject s) := by
  unfold execInject
  refine servePkt_runs (fun _ _ _ _ => ?_)
  dsimp only
  split
  · exact .none
  · exact .some (.last (distribute_keeps _ _ _) (.last (drawn_keeps _) (.mono (basinStore_keeps ‹_›))))

theorem execCscEngineEvent_runs (s : State) : Runs [.mbx, .csc, .gauge, .regs] s (execCscEngineEvent s) := by
  unfold execCscEngineEvent
  exact serveDev_runs (fun _ _ => .some (.mono (eventToManager_keeps _ _ _)))

theorem execThreadFault_runs (q slot cls pc addr : Nat) (s : State) :
    Runs [.csc, .gauge, .regs, .mem] s (execThreadFault q slot cls pc addr s) := by
  unfold execThreadFault
  exact .ite (window_runs (fun _ => .mono (threadFault_keeps _ _ _ _ _ _))) (.next .refl)

theorem execEngineFault_runs (engine thread cls : Nat) (s : State) :
    Runs [.dev, .hw, .mbx, .ep0, .ep1, .rings, .pkts, .basin, .plane, .rasp, .jig, .cst, .csc, .twin, .cry, .macs, .gauge, .regs, .mem,
      .fresh] s
      (execEngineFault engine thread cls s) := by
  unfold execEngineFault
  split
  · exact .next .refl
  · refine .ite ?_ ?_
    · refine .next ?_
      refine .last (selfCheckFail_keeps _ _ _ _ _) ?_
      refine .last (retireEngine_keeps _ _ _ _) ?_
      refine .last (faultRecord_keeps _ _ _ _ _ _ _) ?_
      refine .ite ?_ ?_
      · exact .last (errlog_keeps _ _ _ _ _ _) (.mono (setBits_keeps _ _ _))
      · exact .last (errlog_keeps _ _ _ _ _ _) (.mono (setBits_keeps _ _ _))
    · exact .next .refl

theorem execSpareMapped_runs (spare : Nat) (s : State) :
    Runs [.dev, .hw, .mbx, .ep0, .ep1, .csc, .gauge, .regs, .mem] s (execSpareMapped spare s) := by
  unfold execSpareMapped
  split
  · exact .next .refl
  · refine .next ?_
    refine .last (noteMode_keeps _ _ _) ?_
    refine .last (eventToManager_keeps _ _ _) ?_
    refine .ite ?_ ?_
    · refine .last (clusterMod_keeps _ _ _) ?_
      refine .last (loadEngine_keeps _ _ _) ?_
      exact .last (clusterMod_keeps _ _ _) (.put rfl rfl rfl rfl rfl (.mono (engSet_keeps _ _ _)))
    · refine .last (loadEngine_keeps _ _ _) ?_
      exact .last (clusterMod_keeps _ _ _) (.put rfl rfl rfl rfl rfl (.mono (engSet_keeps _ _ _)))

theorem execSupervisorRestart_runs (q : Nat) (s : State) : Runs [.csc] s (execSupervisorRestart q s) := by
  unfold execSupervisorRestart
  exact .ite (.next (.last (thMod_keeps _ _ _ _) (.mono (clusterMod_keeps _ _ _)))) (.next .refl)

theorem execEngineMemoryScrub_runs (engine corrected : Nat) (s : State) : Runs [.regs] s (execEngineMemoryScrub engine corrected s) := by
  unfold execEngineMemoryScrub
  exact .ite (.next (.mono (bumpBy_keeps _ _ _))) (.next .refl)

theorem execDldFire_runs (q : Nat) (s : State) : Runs [.csc, .gauge, .regs, .mem, .fresh] s (execDldFire q s) := by
  unfold execDldFire
  refine .ite ?_ ?_
  · refine .next ?_
    refine .last (trace_keeps _ _ _ _ _ _ _) ?_
    refine .last (supervisorEvent_keeps _ _ _) ?_
    refine .put rfl rfl rfl rfl rfl ?_
    refine .last (bump_keeps _ _) ?_
    exact .last (setBits_keeps _ _ _) (.last (clusterMod_keeps _ _ _) (.mono (localWrite_keeps _ _ _ _ _)))
  · exact .next .refl

theorem execCscDeadlock_runs (q : Nat) (s : State) : Runs [.mbx, .gauge, .regs] s (execCscDeadlock q s) := by
  unfold execCscDeadlock
  exact .ite (.next (.mono (eventToManager_keeps _ _ _))) (.next .refl)

theorem execCscClusterQuery_runs (ch seq : Nat) (s : State) : Runs [.fw, .mbx, .gauge, .regs] s (execCscClusterQuery ch seq s) := by
  unfold execCscClusterQuery
  exact command_runs (fun _ => .ite (.mono (answer_kept _ _ _ _ _)) (.mono (answer_kept _ _ _ _ _)))

theorem execCscEngineRetire_runs (ch seq : Nat) (s : State) :
    Runs [.dev, .hw, .fw, .mbx, .ep0, .ep1, .csc, .gauge, .regs, .mem, .fresh] s (execCscEngineRetire ch seq s) := by
  unfold execCscEngineRetire
  refine command_runs (fun _ => ?_)
  refine .ite ?_ ?_
  · exact .mono (answer_kept _ _ _ _ _)
  · exact .last (answer_kept _ _ _ _ _) (.mono (retireEngine_keeps _ _ _ _))

theorem execCscPacketDispose_runs (ch seq : Nat) (s : State) :
    Runs [.fw, .mbx, .rings, .pkts, .basin, .plane, .rasp, .jig, .csc, .twin, .macs, .gauge, .regs] s (execCscPacketDispose ch seq s) := by
  unfold execCscPacketDispose
  refine command_runs (fun req => .ite (.mono (answer_kept _ _ _ _ _)) ?_)
  split
  next u n disposed =>
    refine .last (answer_kept _ _ _ _ _) (.of_eq disposed (.foldl_fst (fun a q h => ?_) .refl))
    exact .foldl h (fun _ _ => .last (passDrop_keeps _ _) (.last (bump_keeps _ _) (.mono (itemEnd_keeps _ _ _ _))))

theorem execCscWaitgraphRead_runs (ch seq : Nat) (s : State) : Runs [.fw, .mbx, .gauge, .regs] s (execCscWaitgraphRead ch seq s) := by
  unfold execCscWaitgraphRead
  exact command_runs (fun _ => .ite (.mono (answer_kept _ _ _ _ _)) (.mono (answer_kept _ _ _ _ _)))

/-! Crypto: the crypto pool. -/

theorem saSet_keeps (s : State) (i : Nat) (a : Bytes) : Keeps [.cry] s (saSet s i a) := by
  unfold saSet
  exact .put rfl rfl rfl rfl rfl .refl

theorem noteCryBytes_keeps (s : State) (n : Nat) : Keeps [.regs] s (noteCryBytes s n) := by
  unfold noteCryBytes
  exact .mono (bump64_keeps _ _ _)

theorem saHard_keeps (s : State) (i : Nat) (a : Bytes) : Keeps [.mbx, .cry, .gauge, .regs] s (saHard s i a) := by
  unfold saHard
  exact .ite .refl (.last (eventToFunc_keeps _ _ _ _ _) (.put rfl rfl rfl rfl rfl .refl))

theorem saAdvance_keeps (s : State) (i : Nat) (a : Bytes) (len : Nat) : Keeps [.mbx, .cry, .gauge, .regs] s (saAdvance s i a len) := by
  unfold saAdvance
  refine .ite ?_ ?_
  · refine .last (eventToFunc_keeps _ _ _ _ _) ?_
    refine .put rfl rfl rfl rfl rfl ?_
    exact .ite (.put rfl rfl rfl rfl rfl (.mono (saSet_keeps _ _ _))) (.mono (saSet_keeps _ _ _))
  · exact .ite (.put rfl rfl rfl rfl rfl (.mono (saSet_keeps _ _ _))) (.mono (saSet_keeps _ _ _))

theorem firstTransform_keeps (s : State) (i : Nat) (a : Bytes) (k : Pkt) :
    Keeps [.mbx, .cry, .gauge, .regs] s (firstTransform s i a k).1 := by
  unfold firstTransform
  dsimp only
  split
  · split
    · exact .mono (bump_keeps _ _)
    · split
      · exact .mono (bump_keeps _ _)
      · split
        · exact .last (noteCryBytes_keeps _ _) (.mono (saSet_keeps _ _ _))
        · exact .mono (bump_keeps _ _)
        · exact .refl
  · split
    · exact .last (saHard_keeps _ _ _) (.mono (bump_keeps _ _))
    · split
      · exact .last (noteCryBytes_keeps _ _) (.mono (saAdvance_keeps _ _ _ _))
      · exact .mono (bump_keeps _ _)
      · exact .mono (bump_keeps _ _)

theorem cryPairErase_keeps (s : State) (k : PairKey) : Keeps [.cry] s (cryPairErase s k) := by
  unfold cryPairErase
  exact .put rfl rfl rfl rfl rfl .refl

theorem cryPairHold_keeps (s : State) (k : Pkt) (ordinal : Nat) (o : SaOutcome) : Keeps [.cry] s (cryPairHold s k ordinal o) := by
  unfold cryPairHold
  exact .ite (.put rfl rfl rfl rfl rfl .refl) .refl

theorem applyMade_keeps (s : State) (p : Nat) (k : Pkt) (a : Bytes) (i : Nat) (v : Verdict) (m : Made) :
    Keeps [.rings, .pkts, .basin, .plane, .rasp, .jig, .csc, .twin, .macs, .regs, .fresh] s (applyMade s p k a i v m) := by
  unfold applyMade
  split
  · exact .mono (takeVerdict_keeps _ _ _ _)
  · refine .ite ?_ ?_
    · exact .mono (exception_keeps _ _ _ _ _ _ _)
    · exact .last (passDrop_keeps _ _) (.mono (pktSet_keeps _ _ _))
  · exact .last (passDrop_keeps _ _) (.mono (pktSet_keeps _ _ _))

theorem answerDeletes_keeps (s : State) : Keeps [.fw, .mbx, .cry, .gauge, .regs] s (answerDeletes s) := by
  unfold answerDeletes
  exact .foldl (.put rfl rfl rfl rfl rfl .refl) (fun _ _ => .mono (answer_kept _ _ _ _ _))

theorem saTransform_keeps (s : State) (p : Nat) (k : Pkt) (i : Nat) (v : Verdict) :
    Keeps [.mbx, .rings, .pkts, .basin, .plane, .rasp, .jig, .csc, .twin, .cry, .macs, .gauge, .regs, .fresh] s
      (saTransform s p k i v) := by
  unfold saTransform
  dsimp only
  split
  · refine .last (applyMade_keeps _ _ _ _ _ _ _) ?_
    refine .last (cryPairErase_keeps _ _) ?_
    refine .put rfl rfl rfl rfl rfl ?_
    exact .ite (.last (bump_keeps _ _) (.mono (drawn_keeps _))) (.mono (drawn_keeps _))
  · refine .last (applyMade_keeps _ _ _ _ _ _ _) ?_
    refine .last (cryPairErase_keeps _ _) ?_
    refine .put rfl rfl rfl rfl rfl ?_
    exact .ite (.last (bump_keeps _ _) (.mono (drawn_keeps _))) (.mono (drawn_keeps _))
  · refine .last (passDrop_keeps _ _) ?_
    refine .last (bump_keeps _ _) ?_
    refine .last (pktSet_keeps _ _ _) ?_
    refine .last (cryPairErase_keeps _ _) ?_
    refine .put rfl rfl rfl rfl rfl ?_
    exact .ite (.last (bump_keeps _ _) (.mono (drawn_keeps _))) (.mono (drawn_keeps _))
  · refine .last (applyMade_keeps _ _ _ _ _ _ _) ?_
    refine .last (cryPairHold_keeps _ _ _ _) ?_
    refine .last (firstTransform_keeps _ _ _ _) ?_
    refine .put rfl rfl rfl rfl rfl ?_
    exact .ite (.last (bump_keeps _ _) (.mono (drawn_keeps _))) (.mono (drawn_keeps _))

theorem tlsTransform_keeps (s : State) (p : Nat) (k : Pkt) (v : Verdict) :
    Keeps [.rings, .pkts, .basin, .plane, .rasp, .jig, .csc, .twin, .cry, .macs, .regs, .fresh] s (tlsTransform s p k v) := by
  unfold tlsTransform
  refine .ite ?_ ?_
  · exact .last (passDrop_keeps _ _) (.last (bump_keeps _ _) (.mono (pktSet_keeps _ _ _)))
  · split
    · refine .last (passDrop_keeps _ _) ?_
      exact .last (bump_keeps _ _) (.last (pktSet_keeps _ _ _) (.mono (cryPairErase_keeps _ _)))
    · refine .ite ?_ ?_
      · refine .last (pktSet_keeps _ _ _) ?_
        refine .ite ?_ ?_
        · exact .mono (cryPairErase_keeps _ _)
        · exact .last (cryPairHold_keeps _ _ _ _) (.last (noteCryBytes_keeps _ _) (.mono (saSet_keeps _ _ _)))
      · refine .last (takeVerdict_keeps _ _ _ _) ?_
        refine .ite ?_ ?_
        · exact .mono (cryPairErase_keeps _ _)
        · exact .last (cryPairHold_keeps _ _ _ _) (.last (noteCryBytes_keeps _ _) (.mono (saSet_keeps _ _ _)))

theorem execCryptoTransformDone_runs (p : Nat) (s : State) :
    Runs [.fw, .mbx, .rings, .pkts, .basin, .plane, .rasp, .jig, .csc, .twin, .cry, .macs, .gauge, .regs, .fresh] s
      (execCryptoTransformDone p s) := by
  unfold execCryptoTransformDone
  split
  · exact .next .refl
  · refine .ite ?_ ?_
    · exact .next .refl
    · split
      · exact .next .refl
      · refine .ite ?_ ?_
        · exact .ite (.next .refl) (.next (.mono (tlsTransform_keeps _ _ _ _)))
        · split
          · exact .next (.mono (takeVerdict_keeps _ _ _ _))
          · exact .ite (.next .refl) (.next (.last (answerDeletes_keeps _) (.mono (saTransform_keeps _ _ _ _ _))))

theorem execCryptoCoreFail_runs (core : Nat) (s : State) :
    Runs [.dev, .hw, .mbx, .ep0, .ep1, .cry, .gauge, .regs] s (execCryptoCoreFail core s) := by
  unfold execCryptoCoreFail
  refine .ite ?_ ?_
  · refine .next ?_
    refine .last (noteMode_keeps _ _ _) ?_
    refine .last (noteRetired_keeps _ _ _ _ _ _) ?_
    exact .last (hwSetField_keeps _ _ _ _ _) (.put rfl rfl rfl rfl rfl .refl)
  · exact .next .refl

theorem execCryPairExpire_runs (stream : Nat) (seq : Word) (pass ordinal : Nat) (s : State) :
    Runs [.cry] s (execCryPairExpire stream seq pass ordinal s) := by
  unfold execCryPairExpire
  dsimp only
  split
  · exact .next (.put rfl rfl rfl rfl rfl .refl)
  · exact .next (.mono (cryPairErase_keeps _ _))
  · exact .next .refl

theorem execSaDeleteSwitch_runs (s : State) : Runs [.fw, .mbx, .cry, .gauge, .regs] s (execSaDeleteSwitch s) := by
  unfold execSaDeleteSwitch
  refine .next ?_
  refine .last (answerDeletes_keeps _) ?_
  exact .put rfl rfl rfl rfl rfl (.foldl .refl (fun _ _ => .ite .refl (.mono (saSet_keeps _ _ _))))

theorem tlsResync_keeps (s : State) (i : Nat) (a : Bytes) (seq : Nat) : Keeps [.mbx, .cry, .gauge, .regs] s (tlsResync s i a seq) := by
  unfold tlsResync
  refine .ite ?_ ?_
  · exact .put rfl rfl rfl rfl rfl (.mono (saSet_keeps _ _ _))
  · refine .last (eventToFunc_keeps _ _ _ _ _) ?_
    exact .put rfl rfl rfl rfl rfl (.put rfl rfl rfl rfl rfl (.mono (saSet_keeps _ _ _)))

theorem tlsReceive_keeps (s : State) (i : Nat) (f : Bytes) : Keeps [.mbx, .cry, .gauge, .regs] s (tlsReceive s i f).1 := by
  unfold tlsReceive
  dsimp only
  split
  · exact .refl
  · split
    · exact .refl
    · split
      · split
        · exact .mono (tlsResync_keeps _ _ _ _)
        · exact .refl
      · split
        · exact .last (tlsResync_keeps _ _ _ _) (.mono (bump_keeps _ _))
        · refine .put rfl rfl rfl rfl rfl ?_
          exact .last (noteCryBytes_keeps _ _) (.last (bumpBy_keeps _ _ _) (.mono (saSet_keeps _ _ _)))

theorem execCrySaWrite_runs (ch seq : Nat) (s : State) : Runs [.fw, .mbx, .cry, .gauge, .regs] s (execCrySaWrite ch seq s) := by
  unfold execCrySaWrite
  refine command_runs (fun _ => ?_)
  refine .ite ?_ ?_
  · exact .mono (answer_kept _ _ _ _ _)
  · refine .ite ?_ ?_
    · exact .mono (answer_kept _ _ _ _ _)
    · refine .ite ?_ ?_
      · exact .mono (answer_kept _ _ _ _ _)
      · exact .ite .refl (.last (answer_kept _ _ _ _ _) (.put rfl rfl rfl rfl rfl (.mono (saSet_keeps _ _ _))))

theorem execCrySaRead_runs (ch seq : Nat) (s : State) : Runs [.fw, .mbx, .gauge, .regs] s (execCrySaRead ch seq s) := by
  unfold execCrySaRead
  exact command_runs (fun _ => .ite (.mono (answer_kept _ _ _ _ _)) (.mono (answer_kept _ _ _ _ _)))

theorem execCrySaDelete_runs (ch seq : Nat) (s : State) : Runs [.fw, .mbx, .cry, .gauge, .regs] s (execCrySaDelete ch seq s) := by
  unfold execCrySaDelete
  refine command_runs (fun _ => ?_)
  exact .ite (.mono (answer_kept _ _ _ _ _)) (.last (defer_keeps _ _ _) (.put rfl rfl rfl rfl rfl .refl))

theorem execTlsRxResync_runs (ch seq : Nat) (s : State) : Runs [.fw, .mbx, .cry, .gauge, .regs] s (execTlsRxResync ch seq s) := by
  unfold execTlsRxResync
  refine command_runs (fun _ => ?_)
  refine .ite ?_ ?_
  · exact .mono (answer_kept _ _ _ _ _)
  · refine .ite ?_ ?_
    · exact .mono (answer_kept _ _ _ _ _)
    · exact .last (answer_kept _ _ _ _ _) (.put rfl rfl rfl rfl rfl .refl)

theorem execTnlTemplateWrite_runs (ch seq : Nat) (s : State) :
    Runs [.fw, .mbx, .cry, .gauge, .regs] s (execTnlTemplateWrite ch seq s) := by
  unfold execTnlTemplateWrite
  refine command_runs (fun _ => ?_)
  refine .ite ?_ ?_
  · exact .mono (answer_kept _ _ _ _ _)
  · exact .last (answer_kept _ _ _ _ _) (.put rfl rfl rfl rfl rfl .refl)

theorem execTnlTemplateRead_runs (ch seq : Nat) (s : State) : Runs [.fw, .mbx, .gauge, .regs] s (execTnlTemplateRead ch seq s) := by
  unfold execTnlTemplateRead
  exact command_runs (fun _ => .mono (answer_kept _ _ _ _ _))

/-! RingOps: the rings shared with delivery. -/

theorem translate_keeps (s : State) (ep f : Nat) (pasid : Option Nat) (addr : Nat) :
    Keeps [.ep0, .ep1, .out] s (translate s ep f pasid addr) := by
  unfold translate
  exact .ite (.last (emit_keeps _ _) (.mono (epMod_keeps _ _ _))) .refl

theorem writePiece_keeps (s : State) (ep f : Nat) (pasid : Option Nat) (relaxed : Bool) (p : Nat × Bytes) :
    Keeps [.ep0, .ep1, .out] s (writePiece s ep f pasid relaxed p) := by
  unfold writePiece
  refine .ite ?_ ?_
  · exact .last (emit_keeps _ _) (.mono (translate_keeps _ _ _ _ _))
  · exact .last (epMod_keeps _ _ _) (.mono (translate_keeps _ _ _ _ _))

theorem dmaWrite_keeps (s : State) (ep f : Nat) (pasid : Option Nat) (relaxed : Bool) (addr : Nat) (data : Bytes) :
    Keeps [.ep0, .ep1, .out] s (dmaWrite s ep f pasid relaxed addr data) := by
  unfold dmaWrite
  exact .ite .refl (.foldl .refl (fun _ _ => .mono (writePiece_keeps _ _ _ _ _ _)))

theorem staleGen_keeps (s : State) (ep : Nat) : Keeps [.regs] s (staleGen s ep) := by
  unfold staleGen
  exact .mono (bump_keeps _ _)

theorem issueRead_keeps {s t : State} {ep f : Nat} {pasid : Option Nat} {addr len queue purpose n : Nat}
    (h : issueRead s ep f pasid addr len queue purpose = some (n, t)) : Keeps [.ep0, .ep1, .out] s t := by
  unfold issueRead at h
  split at h
  · cases h
  · split at h
    · cases h
    · cases h
      exact .last (emit_keeps _ _) (.last (epMod_keeps _ _ _) (translate_keeps _ _ _ _ _))

theorem countBoth_keeps (s : State) (ep f : Nat) (pf : Nat → Nat) (vf : Nat → Nat → Nat) : Keeps [.regs] s (countBoth s ep f pf vf) := by
  unfold countBoth
  exact .ite (.mono (bump_keeps _ _)) (.last (bump_keeps _ _) (.mono (bump_keeps _ _)))

theorem writeBack_keeps (s : State) (ep g : Nat) : Keeps [.ep0, .ep1, .rings, .out] s (writeBack s ep g) := by
  unfold writeBack
  exact .last (dmaWrite_keeps _ _ _ _ _ _ _) (.mono (qpSet_keeps _ _ _ _))

theorem ringInterrupt_keeps (s : State) (ep g : Nat) : Keeps [.ep0, .ep1, .rings, .out] s (ringInterrupt s ep g) := by
  unfold ringInterrupt
  refine .ite ?_ ?_
  · exact .last (dueVec_keeps _ _ _ _) (.last (writeBack_keeps _ _ _) (.mono (qpSet_keeps _ _ _ _)))
  · exact .refl

theorem writeEntry_keeps (s : State) (ep g : Nat) (e : Bytes) : Keeps [.ep0, .ep1, .rings, .out] s (writeEntry s ep g e) := by
  unfold writeEntry
  refine .last (ringInterrupt_keeps _ _ _) ?_
  exact .last (qpMod_keeps _ _ _ _) (.mono (dmaWrite_keeps _ _ _ _ _ _ _))

theorem keepRecord_keeps (s : State) (ep f : Nat) (b : Bytes) : Keeps [.rings] s (keepRecord s ep f b) := by
  unfold keepRecord
  exact .ite (.put rfl rfl rfl rfl rfl .refl) (.put rfl rfl rfl rfl rfl .refl)

theorem captureCause_keeps (s : State) (ep f cause queue : Nat) : Keeps [.ep0, .ep1, .regs] s (captureCause s ep f cause queue) := by
  unfold captureCause
  exact .ite (.mono (fnMod_keeps _ _ _ _)) (.last (capture_keeps _ _ _) (.mono (fnMod_keeps _ _ _ _)))

theorem functionError_keeps (s : State) (ep f : Nat) : Keeps [.ep0, .ep1, .regs] s (functionError s ep f) := by
  unfold functionError
  refine .ite ?_ ?_
  · exact .refl
  · refine .ite ?_ ?_
    · exact .last (mgrEvent_keeps _ _ _) (.mono (fnMod_keeps _ _ _ _))
    · exact .last (vfEvent_keeps _ _ _ _) (.last (mgrEvent_keeps _ _ _) (.mono (fnMod_keeps _ _ _ _)))

theorem dropRx_keeps (s : State) (r : RxFrame) : Keeps [.rings, .basin, .macs] s (dropRx s r) := by
  unfold dropRx
  exact .mono (letGo_keeps _ _ _ _)

theorem haltFinish_keeps (s : State) (ep g : Nat) :
    Keeps [.hw, .mbx, .ep0, .ep1, .rings, .basin, .macs, .gauge, .regs, .out] s (haltFinish s ep g) := by
  unfold haltFinish
  refine .ite ?_ ?_
  · refine .last (eventToManager_keeps _ _ _) ?_
    refine .last (trace_keeps _ _ _ _ _ _ _) ?_
    refine .last (errlogGen_keeps _ _ _ _ _ _ _) ?_
    refine .ite ?_ ?_
    · refine .last (keepRecord_keeps _ _ _ _) ?_
      refine .last (writeBack_keeps _ _ _) ?_
      refine .last (qpMod_keeps _ _ _ _) ?_
      refine .foldl ?_ (fun _ _ => ?_)
      · refine .last (bumpBy_keeps _ _ _) ?_
        exact .ite (.mono (qpMod_keeps _ _ _ _)) (.last (writeEntry_keeps _ _ _ _) (.mono (qpMod_keeps _ _ _ _)))
      · exact .mono (dropRx_keeps _ _)
    · refine .last (vfEvent_keeps _ _ _ _) ?_
      refine .last (keepRecord_keeps _ _ _ _) ?_
      refine .last (writeBack_keeps _ _ _) ?_
      refine .last (qpMod_keeps _ _ _ _) ?_
      refine .foldl ?_ (fun _ _ => ?_)
      · refine .last (bumpBy_keeps _ _ _) ?_
        exact .ite (.mono (qpMod_keeps _ _ _ _)) (.last (writeEntry_keeps _ _ _ _) (.mono (qpMod_keeps _ _ _ _)))
      · exact .mono (dropRx_keeps _ _)
  · exact .refl

theorem halt_keeps (s : State) (ep g cause ring : Nat) (index : Word) :
    Keeps [.hw, .mbx, .ep0, .ep1, .rings, .basin, .macs, .gauge, .regs, .out] s (halt s ep g cause ring index) := by
  unfold halt
  refine .ite ?_ ?_
  · exact .refl
  · refine .last (haltFinish_keeps _ _ _) ?_
    refine .ite ?_ ?_
    · refine .last (functionError_keeps _ _ _) ?_
      refine .ite ?_ ?_
      · exact .last (captureCause_keeps _ _ _ _ _) (.last (epMod_keeps _ _ _) (.mono (qpSet_keeps _ _ _ _)))
      · refine .last (bump_keeps _ _) ?_
        exact .last (captureCause_keeps _ _ _ _ _) (.last (epMod_keeps _ _ _) (.mono (qpSet_keeps _ _ _ _)))
    · exact .last (captureCause_keeps _ _ _ _ _) (.last (epMod_keeps _ _ _) (.mono (qpSet_keeps _ _ _ _)))

theorem hostEnqueue_keeps (s : State) (slice_ queue : Nat) (r : RxFrame) :
    Keeps [.rings, .basin, .macs, .regs] s (hostEnqueue s slice_ queue r) := by
  unfold hostEnqueue
  dsimp only
  split
  · exact .mono (dropRx_keeps _ _)
  · refine .ite (.last (staleGen_keeps _ _) (.mono (dropRx_keeps _ _))) ?_
    exact .ite (.last (bump_keeps _ _) (.mono (dropRx_keeps _ _))) (.mono (qpSet_keeps _ _ _ _))

/-! Egress: egress. -/

theorem portMod_keeps (s : State) (p : Nat) (f : Port → Port) : Keeps [.port0, .port1] s (portMod s p f) := by
  unfold portMod
  exact .ite (.put rfl rfl rfl rfl rfl .refl) (.put rfl rfl rfl rfl rfl .refl)

theorem traceFrame_keeps (s : State) (m kind slice_ len cls : Nat) : Keeps [.gauge, .regs] s (traceFrame s m kind slice_ len cls) := by
  unfold traceFrame
  exact .put rfl rfl rfl rfl rfl (.mono (trace_keeps _ _ _ _ _ _ _))

theorem linkChange_keeps (s : State) (m : Nat) (up : Bool) (fault : Nat) :
    Keeps [.mbx, .ep0, .ep1, .macs, .gauge, .regs] s (linkChange s m up fault) := by
  unfold linkChange
  refine .last (eventToManager_keeps _ _ _) ?_
  exact .ite (.mono (macMod_keeps _ _ _)) (.last (vfEventAll_keeps _ _) (.mono (macMod_keeps _ _ _)))

theorem shaperSet_keeps (s : State) (i : Nat) (x : Shaper) : Keeps [.weir] s (shaperSet s i x) := by
  unfold shaperSet
  exact .put rfl rfl rfl rfl rfl .refl

theorem chargePath_keeps (s : State) (path : List Nat) (len : Nat) : Keeps [.weir] s (chargePath s path len) := by
  unfold chargePath
  exact .foldl .refl (fun _ _ => .ite (.mono (shaperSet_keeps _ _ _)) .refl)

theorem takeEntry_keeps (s : State) (m i : Nat) : Keeps [.macs, .gauge, .regs] s (takeEntry s m i) := by
  unfold takeEntry
  exact .last (trace_keeps _ _ _ _ _ _ _) (.mono (macSet_keeps _ _ _))

theorem sluiceStep_keeps (s : State) : Keeps [.mbx, .macs, .gauge, .regs] s (sluiceStep s) := by
  unfold sluiceStep
  refine .foldl ?_ (fun _ _ => ?_)
  · exact .refl
  · refine .ite ?_ ?_
    · exact .last (eventToManager_keeps _ _ _) (.last (setBits_keeps _ _ _) (.mono (takeEntry_keeps _ _ _)))
    · exact .refl

theorem markStatus_keeps (s : State) (o : Option TxOrigin) (status : Nat) : Keeps [.rings] s (markStatus s o status) := by
  unfold markStatus
  split
  · exact .mono (txMod_keeps _ _ _)
  · exact .refl

theorem headDrop_keeps (s : State) (m : Nat) (f : TxFrame) : Keeps [.rings, .basin, .macs] s (headDrop s m f) := by
  unfold headDrop
  refine .ite ?_ ?_
  · exact .last (markStatus_keeps _ _ _) (.mono (macMod_keeps _ _ _))
  · exact .last (letGo_keeps _ _ _ _) (.mono (macMod_keeps _ _ _))

theorem purgeHeads_keeps (m n : Nat) (s : State) : Keeps [.rings, .basin, .macs, .regs] s (purgeHeads m n s) := by
  induction n generalizing s with
  | zero => exact .refl
  | succ n ih =>
    unfold purgeHeads
    dsimp only
    split
    · exact .last (ih _) (.last (bump_keeps _ _) (.mono (headDrop_keeps _ _ _)))
    · split
      · exact .last (ih _) (.last (bump64_keeps _ _ _) (.mono (headDrop_keeps _ _ _)))
      · exact .refl

theorem macTake_keeps (s : State) (m : Nat) (f : TxFrame) :
    Keeps [.hw, .mbx, .ep0, .ep1, .rings, .basin, .macs, .gauge, .regs, .out] s (macTake s m f) := by
  unfold macTake
  refine .ite ?_ ?_
  · exact .last (letGo_keeps _ _ _ _) (.mono (bump_keeps _ _))
  · refine .ite ?_ ?_
    · refine .ite ?_ ?_
      · dsimp only
        split
        · exact .last (halt_keeps _ _ _ _ _ _) (.mono (letGo_keeps _ _ _ _))
        · exact .mono (letGo_keeps _ _ _ _)
      · exact .last (macMod_keeps _ _ _) (.ite .refl (.mono (bump_keeps _ _)))
    · exact .ite (.mono (letGo_keeps _ _ _ _)) (.mono (macMod_keeps _ _ _))

theorem macRelease_keeps (s : State) (m : Nat) (f : TxFrame) :
    Keeps [.hw, .mbx, .ep0, .ep1, .rings, .basin, .prp, .macs, .gauge, .regs, .out] s (macRelease s m f) := by
  unfold macRelease
  split
  · exact .mono (macTake_keeps _ _ _)
  · refine .last (macTake_keeps _ _ _) ?_
    exact .last (macTake_keeps _ _ _) (.last (hold_keeps _ _ _ _) (.put rfl rfl rfl rfl rfl .refl))

/-! Nvt: NVMe/TCP. -/

theorem ctxSet_keeps (s : State) (i : Nat) (c : Bytes) : Keeps [.nvt] s (ctxSet s i c) := by
  unfold ctxSet
  exact .put rfl rfl rfl rfl rfl .refl

theorem placeBytes_keeps (s : State) (ep f : Nat) (pasid : Option Nat) (p : Placement) (off : Nat) (d : Bytes) :
    Keeps [.ep0, .ep1, .out] s (placeBytes s ep f pasid p off d) := by
  induction p generalizing s off d with
  | nil => exact .refl
  | cons x rest ih =>
    obtain ⟨a, n⟩ := x
    unfold placeBytes
    split_ifs
    · exact .refl
    · exact ih _ _ _
    · exact .last (ih _ _ _) (dmaWrite_keeps _ _ _ _ _ _ _)

theorem placeFree_keeps (s : State) (i : Nat) (c : Bytes) (cid : Nat) : Keeps [.nvt] s (placeFree s i c cid) := by
  unfold placeFree
  exact .put rfl rfl rfl rfl rfl .refl

theorem nvtResync_keeps (s : State) (ep i : Nat) (seq cause : Nat) :
    Keeps [.mbx, .nvt, .gauge, .regs] s (nvtResync s ep i seq cause) := by
  unfold nvtResync
  refine .ite ?_ ?_
  · exact .put rfl rfl rfl rfl rfl (.last (bump_keeps _ _) (.mono (ctxSet_keeps _ _ _)))
  · refine .last (eventToFunc_keeps _ _ _ _ _) ?_
    refine .put rfl rfl rfl rfl rfl ?_
    exact .put rfl rfl rfl rfl rfl (.last (bump_keeps _ _) (.mono (ctxSet_keeps _ _ _)))

theorem nvtHeader_keeps {ps : List Part} {s : State} {ep i : Nat} {c : Bytes} {t : NvtRun} {x : Nat} {r : Bytes} (h : Keeps ps s t.st)
    (sub : [.regs] ⊆ ps := by decide) : Keeps ps s (nvtHeader ep i c t x r).st := by
  have counted : ∀ a, Keeps ps s (bump t.st a) := fun a => .last (bump_keeps _ a) h sub
  unfold nvtHeader
  dsimp only
  split_ifs
  · exact h
  · exact counted _
  · split
    · split
      · exact counted _
      · exact h
    · exact counted _
  · exact h

theorem nvtPlace_keeps {ps : List Part} {s : State} {ep fn i : Nat} {pasid : Option Nat} {c : Bytes} {t : NvtRun} {x : Nat} {r : Bytes}
    (h : Keeps ps s t.st) (sub : [.ep0, .ep1, .out, .regs] ⊆ ps := by decide) : Keeps ps s (nvtPlace ep fn i pasid c t x r).st := by
  unfold nvtPlace
  split
  · exact h
  · split
    · exact h
    · dsimp only
      split
      · exact h
      · exact .last (bump64_keeps _ _ _) (.last (placeBytes_keeps _ _ _ _ _ _ _) h (subset_of sub)) (subset_of sub)

theorem nvtEnd_keeps {ps : List Part} {s : State} {ep i : Nat} {c : Bytes} {t : NvtRun} {r : Bytes} (h : Keeps ps s t.st)
    (sub : [.regs, .nvt] ⊆ ps := by decide) : Keeps ps s (nvtEnd ep i c t r).st := by
  have freed : ∀ {u : State} (cid : Nat), Keeps ps s u → Keeps ps s (placeFree u i c cid) := fun cid k =>
    .last (placeFree_keeps _ _ _ cid) k (subset_of sub)
  have counted : Keeps ps s (bump t.st (r_NVT_CNT_DDGST_BAD ep)) := .last (bump_keeps _ _) h (subset_of sub)
  unfold nvtEnd
  extract_lets u
  have checked : Keeps ps s u.st := by
    unfold u
    split_ifs
    · exact counted
    · exact h
  split_ifs
  · exact freed _ checked
  · exact freed _ checked
  · exact checked

theorem nvtWalk_keeps {ps : List Part} {s : State} {ep fn i : Nat} {pasid : Option Nat} {c : Bytes} {n : Nat} {t : NvtRun} {b : Bytes}
    (h : Keeps ps s t.st) (sub : [.ep0, .ep1, .out, .regs, .nvt] ⊆ ps := by decide) : Keeps ps s (nvtWalk ep fn i pasid c n t b).st := by
  induction n generalizing t b with
  | zero => exact h
  | succ n ih =>
    have placed : ∀ r, Keeps ps s (nvtPlace ep fn i pasid c (nvtHeader ep i c t t.part.length r) t.part.length r).st := fun r =>
      nvtPlace_keeps (nvtHeader_keeps h (subset_of sub)) (subset_of sub)
    unfold nvtWalk
    dsimp only
    split_ifs
    · exact h
    · exact h
    · exact .last (bump_keeps _ _) h (subset_of sub)
    · exact placed _
    · exact placed _
    · exact ih (nvtEnd_keeps (placed _) (subset_of sub))

theorem nvtReceive_keeps (s : State) (slice_ queue : Nat) (pasid : Option Nat) (f : Bytes) :
    Keeps [.mbx, .ep0, .ep1, .nvt, .gauge, .regs, .out] s (nvtReceive s slice_ queue pasid f).1 := by
  have resync : ∀ {u : State} (ep i seq cause : Nat), Keeps [.mbx, .ep0, .ep1, .nvt, .gauge, .regs, .out] s u →
      Keeps [.mbx, .ep0, .ep1, .nvt, .gauge, .regs, .out] s (nvtResync u ep i seq cause) := fun _ _ _ _ h =>
    .last (nvtResync_keeps _ _ _ _ _) h
  unfold nvtReceive
  split
  · extract_lets seq body c resumed part d u _ v
    split
    extract_lets t _ _ w
    have begun : Keeps [.mbx, .ep0, .ep1, .nvt, .gauge, .regs, .out] s v :=
      .ite (.put rfl rfl rfl rfl rfl (.mono (ctxSet_keeps _ _ _))) (.mono (ctxSet_keeps _ _ _))
    have walked : Keeps [.mbx, .ep0, .ep1, .nvt, .gauge, .regs, .out] s t.st := nvtWalk_keeps begun
    clear_value t
    have ended : Keeps [.mbx, .ep0, .ep1, .nvt, .gauge, .regs, .out] s w := .put rfl rfl rfl rfl rfl walked
    split_ifs
    · exact .refl
    · exact resync _ _ _ _ .refl
    · split
      · exact resync _ _ _ _ ended
      · exact ended
    · exact .refl
  · exact .refl

theorem walkSet_keeps (s : State) (i : Nat) (w : Walker) : Keeps [.nvt] s (walkSet s i w) := by
  unfold walkSet
  exact .put rfl rfl rfl rfl rfl .refl

theorem walkIssue_keeps (s : State) (i : Nat) : Keeps [.ep0, .ep1, .nvt, .out] s (walkIssue s i) := by
  unfold walkIssue
  dsimp only
  split
  · split
    · exact .last (walkSet_keeps _ _ _) (.mono (issueRead_keeps ‹_›))
    · exact .refl
  · split
    · exact .last (walkSet_keeps _ _ _) (.mono (issueRead_keeps ‹_›))
    · exact .refl
  · exact .refl

theorem walkPump_keeps (s : State) (ep : Nat) : Keeps [.ep0, .ep1, .nvt, .out] s (walkPump s ep) := by
  unfold walkPump
  exact .foldl .refl (fun _ _ => .ite (.mono (walkIssue_keeps _ _)) .refl)

theorem chainError_keeps (s : State) (i : Nat) : Keeps [.hw, .mbx, .ep0, .ep1, .nvt, .gauge, .regs, .fresh] s (chainError s i) := by
  unfold chainError
  refine .last (eventToFunc_keeps _ _ _ _ _) ?_
  refine .last (errlogGen_keeps _ _ _ _ _ _ _) ?_
  refine .last (drawn_keeps _) ?_
  exact .last (bump_keeps _ _) (.last (walkSet_keeps _ _ _) (.mono (ctxSet_keeps _ _ _)))

theorem followLink_keeps (s : State) (i link : Nat) (again : Bool) : Keeps [.ep0, .ep1, .nvt, .out] s (followLink s i link again) := by
  unfold followLink
  refine .ite ?_ ?_
  · exact .last (walkIssue_keeps _ _) (.mono (walkSet_keeps _ _ _))
  · refine .ite ?_ ?_
    · exact .mono (walkSet_keeps _ _ _)
    · exact .ite (.mono (walkSet_keeps _ _ _)) (.mono (walkSet_keeps _ _ _))

theorem takeBlock_keeps (s : State) (i : Nat) (b : Bytes) : Keeps [.nvt] s (takeBlock s i b) := by
  unfold takeBlock
  exact .last (walkSet_keeps _ _ _) (.put rfl rfl rfl rfl rfl .refl)

theorem execChainBlockRead_runs (ep ctx : Nat) (s : State) :
    Runs [.hw, .mbx, .ep0, .ep1, .nvt, .gauge, .regs, .out, .fresh] s (execChainBlockRead ep ctx s) := by
  unfold execChainBlockRead
  dsimp only
  split
  · exact .next .refl
  · split
    · refine .ite ?_ ?_
      · exact .next (.last (chainError_keeps _ _) (.mono (epMod_keeps _ _ _)))
      · exact .next (.last (followLink_keeps _ _ _ _) (.last (takeBlock_keeps _ _ _) (.mono (epMod_keeps _ _ _))))
    · refine .ite ?_ ?_
      · exact .next (.last (chainError_keeps _ _) (.mono (epMod_keeps _ _ _)))
      · exact .next (.last (followLink_keeps _ _ _ _) (.mono (epMod_keeps _ _ _)))
    · exact .next (.mono (epMod_keeps _ _ _))

theorem execChainReread_runs (ctx : Nat) (s : State) : Runs [.ep0, .ep1, .nvt, .out] s (execChainReread ctx s) := by
  unfold execChainReread
  exact .ite (.next (.last (walkIssue_keeps _ _) (.mono (walkSet_keeps _ _ _)))) (.next .refl)

theorem dbBad_keeps (s : State) (ep f : Nat) : Keeps [.regs] s (dbBad s ep f) := by
  unfold dbBad
  exact .mono (countBoth_keeps _ _ _ _ _)

theorem execHifVfDbChain_runs (ep f : Nat) (context : Word) (full : Bool) (s : State) :
    Runs [.ep0, .ep1, .nvt, .regs, .out] s (execHifVfDbChain ep f context full s) := by
  unfold execHifVfDbChain
  refine .ite ?_ ?_
  · exact .next .refl
  · split
    · exact .next (.mono (dbBad_keeps _ _ _))
    · refine .ite ?_ ?_
      · exact .next (.mono (bump_keeps _ _))
      · refine .ite ?_ ?_
        · exact .next (.mono (dbBad_keeps _ _ _))
        · refine .ite ?_ ?_
          · exact .next (.last (walkIssue_keeps _ _) (.mono (walkSet_keeps _ _ _)))
          · exact .next (.mono (walkSet_keeps _ _ _))

theorem execNvtContextSet_runs (ch seq : Nat) (s : State) :
    Runs [.fw, .mbx, .ep0, .ep1, .nvt, .gauge, .regs, .out] s (execNvtContextSet ch seq s) := by
  unfold execNvtContextSet
  refine command_runs (fun _ => ?_)
  refine .ite ?_ ?_
  · exact .mono (answer_kept _ _ _ _ _)
  · refine .ite ?_ ?_
    · exact .mono (answer_kept _ _ _ _ _)
    · refine .ite ?_ ?_
      · exact .mono (answer_kept _ _ _ _ _)
      · refine .last (answer_kept _ _ _ _ _) ?_
        exact .last (walkIssue_keeps _ _) (.last (epMod_keeps _ _ _) (.put rfl rfl rfl rfl rfl .refl))

theorem execNvtContextRead_runs (ch seq : Nat) (s : State) : Runs [.fw, .mbx, .gauge, .regs] s (execNvtContextRead ch seq s) := by
  unfold execNvtContextRead
  exact command_runs (fun _ => .ite (.mono (answer_kept _ _ _ _ _)) (.mono (answer_kept _ _ _ _ _)))

theorem execNvtResync_runs (ch seq : Nat) (s : State) : Runs [.fw, .mbx, .nvt, .gauge, .regs] s (execNvtResync ch seq s) := by
  unfold execNvtResync
  refine command_runs (fun _ => ?_)
  refine .ite ?_ ?_
  · exact .mono (answer_kept _ _ _ _ _)
  · refine .ite ?_ ?_
    · exact .mono (answer_kept _ _ _ _ _)
    · exact .last (answer_kept _ _ _ _ _) (.put rfl rfl rfl rfl rfl .refl)

/-! Dovetail: Dovetail. -/

theorem sendLeg_keeps (p : Nat) (k : Pkt) (s : State) (l : Leg) : Keeps [.twin] s (sendLeg p k s l) := by
  unfold sendLeg
  exact .mono (dovSet_keeps _ _ _)

theorem handOn_keeps (s : State) (p : Nat) (k : Pkt) (v : Verdict) :
    Keeps [.rings, .pkts, .basin, .plane, .rasp, .jig, .csc, .twin, .macs, .regs] s (handOn s p k v) := by
  unfold handOn
  dsimp only
  split
  · refine .last (dropPkt_keeps _ _ _) ?_
    exact .ite (.mono (bumpBy_keeps _ _ _)) (.last (markStatus_keeps _ _ _) (.mono (bumpBy_keeps _ _ _)))
  · refine .foldl ?_ (fun _ _ => ?_)
    · refine .last (pktSet_keeps _ _ _) ?_
      refine .last (ringLeave_keeps _ _ _) ?_
      refine .ite ?_ ?_
      · refine .last (markStatus_keeps _ _ _) ?_
        refine .last (hold_keeps _ _ _ _) ?_
        exact .ite (.mono (bumpBy_keeps _ _ _)) (.last (markStatus_keeps _ _ _) (.mono (bumpBy_keeps _ _ _)))
      · refine .last (hold_keeps _ _ _ _) ?_
        exact .ite (.mono (bumpBy_keeps _ _ _)) (.last (markStatus_keeps _ _ _) (.mono (bumpBy_keeps _ _ _)))
    · exact .mono (sendLeg_keeps _ _ _ _)

theorem execExitOrderHandoff_runs (p : Nat) (s : State) :
    Runs [.rings, .pkts, .basin, .plane, .rasp, .jig, .csc, .twin, .macs, .regs] s (execExitOrderHandoff p s) := by
  unfold execExitOrderHandoff
  split
  · exact .next .refl
  · split
    · exact .next .refl
    · exact .ite (.next (.mono (handOn_keeps _ _ _ _))) (.next .refl)

theorem legDone_keeps (s : State) (p : Nat) : Keeps [.pkts, .plane, .rasp, .jig, .csc, .twin] s (legDone s p) := by
  unfold legDone
  split
  · exact .ite (.mono (endCopy_keeps _ _ _)) (.mono (pktSet_keeps _ _ _))
  · exact .refl

theorem releaseCopy_keeps (s : State) (a : Arrival) :
    Keeps [.hw, .mbx, .ep0, .ep1, .rings, .pkts, .basin, .plane, .rasp, .jig, .csc, .twin, .prp, .macs, .gauge, .regs, .out, .fresh] s
      (releaseCopy s a) := by
  unfold releaseCopy
  refine .last (legDone_keeps _ _) ?_
  split
  · exact .last (macRelease_keeps _ _ _) (.mono (drawn_keeps _))
  · exact .mono (hostEnqueue_keeps _ _ _ _)

theorem discardCopy_keeps (s : State) (a : Arrival) :
    Keeps [.rings, .pkts, .basin, .plane, .rasp, .jig, .csc, .twin, .macs] s (discardCopy s a) := by
  unfold discardCopy
  exact .last (legDone_keeps _ _) (.mono (letGo_keeps _ _ _ _))

theorem traceDov_keeps (s : State) (d kind : Nat) (a : Arrival) : Keeps [.gauge, .regs] s (traceDov s d kind a) := by
  unfold traceDov
  exact .mono (trace_keeps _ _ _ _ _ _ _)

theorem noteMismatch_keeps (s : State) (d : Nat) (a : Arrival) (released : Word) :
    Keeps [.hw, .mbx, .ep0, .ep1, .gauge, .regs] s (noteMismatch s d a released) := by
  unfold noteMismatch
  refine .last (eventToManager_keeps _ _ _) ?_
  exact .last (errlog_keeps _ _ _ _ _ _) (.last (traceDov_keeps _ _ _ _) (.mono (bump_keeps _ _)))

theorem arriveTwin_opt (s : State) (d : Nat) (a : Arrival) :
    OptKeeps [.hw, .mbx, .ep0, .ep1, .rings, .pkts, .basin, .plane, .rasp, .jig, .csc, .twin, .prp, .macs, .gauge, .regs, .out, .fresh] s
      (arriveTwin s d a) := by
  have told : ∀ isle r n, Keeps [.twin, .gauge, .regs] s (traceDov (bump64 (dovSet s d isle) r 1) d n a) := fun _ _ _ =>
    .last (traceDov_keeps _ _ _ _) (.last (bump64_keeps _ _ _) (.mono (dovSet_keeps _ _ _)))
  unfold arriveTwin
  dsimp only
  split
  · exact .some (.last (releaseCopy_keeps _ _) (.mono (told _ _ _)))
  · refine .some (.last (discardCopy_keeps _ _) ?_)
    split
    · exact .last (noteMismatch_keeps _ _ _ _) (.mono (told _ _ _))
    · exact .mono (told _ _ _)
  · refine .some (.last (discardCopy_keeps _ _) ?_)
    exact .last (traceDov_keeps _ _ _ _) (.last (bump_keeps _ _) (.mono (dovSet_keeps _ _ _)))
  · exact .none

theorem arrive_keeps (s : State) (d : Nat) (a : Arrival) :
    Keeps [.hw, .mbx, .ep0, .ep1, .rings, .pkts, .basin, .plane, .rasp, .jig, .csc, .twin, .prp, .macs, .gauge, .regs, .out, .fresh] s
      (arrive s d a) := by
  unfold arrive
  refine .ite ?_ ?_
  · exact .mono (releaseCopy_keeps _ _)
  · split
    · exact .mono (arriveTwin_opt _ _ _ _ ‹_›)
    · exact .last (dovSet_keeps _ _ _) (.last (bump_keeps _ _) (.mono (setBits_keeps _ _ _)))

theorem execDovetailArrive_runs (d pl : Nat) (s : State) :
    Runs [.hw, .mbx, .ep0, .ep1, .rings, .pkts, .basin, .plane, .rasp, .jig, .csc, .twin, .prp, .macs, .gauge, .regs, .out, .fresh] s
      (execDovetailArrive d pl s) := by
  unfold execDovetailArrive
  refine .ite ?_ ?_
  · exact .next .refl
  · split
    · exact .next .refl
    · exact .next (.last (arrive_keeps _ _ _) (.mono (dovSet_keeps _ _ _)))

theorem execDovetailStoreWaitEnd_runs (d pl : Nat) (s : State) :
    Runs [.hw, .mbx, .ep0, .ep1, .rings, .pkts, .basin, .plane, .rasp, .jig, .csc, .twin, .prp, .macs, .gauge, .regs, .out, .fresh] s
      (execDovetailStoreWaitEnd d pl s) := by
  unfold execDovetailStoreWaitEnd
  dsimp only
  split
  · exact .next .refl
  · split
    · exact .next (.last (arriveTwin_opt _ _ _ _ ‹_›) (.mono (dovSet_keeps _ _ _)))
    · exact .next .refl

theorem execOpenRecordExpire_runs (d point stream : Nat) (seq : Word) (s : State) :
    Runs [.mbx, .twin, .gauge, .regs] s (execOpenRecordExpire d point stream seq s) := by
  unfold execOpenRecordExpire
  dsimp only
  split
  · exact .next .refl
  · refine .ite ?_ ?_
    · refine .next ?_
      refine .last (eventToManager_keeps _ _ _) ?_
      refine .last (dovSet_keeps _ _ _) ?_
      exact .last (trace_keeps _ _ _ _ _ _ _) (.last (bump_keeps _ _) (.mono (dovSet_keeps _ _ _)))
    · exact .next (.last (trace_keeps _ _ _ _ _ _ _) (.last (bump_keeps _ _) (.mono (dovSet_keeps _ _ _))))

theorem execRailSelfCheckFail_runs (rail code unit : Nat) (s : State) :
    Runs [.dev, .hw, .mbx, .ep0, .ep1, .rings, .pkts, .basin, .plane, .rasp, .jig, .cst, .csc, .twin, .cry, .macs, .gauge, .regs] s
      (execRailSelfCheckFail rail code unit s) := by
  unfold execRailSelfCheckFail
  exact .ite (.next .refl) (.next (.mono (selfCheckFail_keeps _ _ _ _ _)))

theorem execTwinStatus_runs (ch seq : Nat) (s : State) : Runs [.fw, .mbx, .gauge, .regs] s (execTwinStatus ch seq s) := by
  unfold execTwinStatus
  exact command_runs (fun _ => .mono (answer_kept _ _ _ _ _))

theorem execTwinRailRetire_runs (ch seq : Nat) (s : State) :
    Runs [.dev, .hw, .fw, .mbx, .ep0, .ep1, .rings, .pkts, .basin, .plane, .rasp, .jig, .cst, .csc, .twin, .cry, .macs, .gauge, .regs] s
      (execTwinRailRetire ch seq s) := by
  unfold execTwinRailRetire
  refine command_runs (fun _ => ?_)
  refine .ite ?_ ?_
  · exact .mono (answer_kept _ _ _ _ _)
  · exact .last (answer_kept _ _ _ _ _) (.mono (retireRail_keeps _ _ _ _ _))

theorem execTwinRailRestore_runs (ch seq : Nat) (s : State) :
    Runs [.fw, .mbx, .twin, .gauge, .regs] s (execTwinRailRestore ch seq s) := by
  unfold execTwinRailRestore
  refine command_runs (fun _ => ?_)
  refine .ite ?_ ?_
  · exact .mono (answer_kept _ _ _ _ _)
  · exact .last (defer_keeps _ _ _) (.put rfl rfl rfl rfl rfl (.mono (railSet_keeps _ _ _)))

theorem startClusters_keeps (s : State) (rail : Nat) : Keeps [.csc, .mem] s (startClusters s rail) := by
  unfold startClusters
  refine .foldl ?_ (fun _ _ => ?_)
  · exact .mono (clearClusters_keeps _ _)
  · refine .ite ?_ ?_
    · refine .last (thMod_keeps _ _ _ _) ?_
      exact .last (placeSupervisor_keeps _ _) (.last (clusterMod_keeps _ _ _) (.mono (loadCluster_keeps _ _)))
    · exact .last (placeSupervisor_keeps _ _) (.last (clusterMod_keeps _ _ _) (.mono (loadCluster_keeps _ _)))

theorem execRailRejoin_runs (rail : Nat) (s : State) :
    Runs [.dev, .hw, .fw, .mbx, .ep0, .ep1, .csc, .twin, .gauge, .regs, .mem] s (execRailRejoin rail s) := by
  unfold execRailRejoin
  split
  · exact .next .refl
  · refine .ite ?_ ?_
    · exact .next .refl
    · refine .next ?_
      refine .last (answer_kept _ _ _ _ _) ?_
      refine .last (noteMode_keeps _ _ _) ?_
      refine .last (eventToManager_keeps _ _ _) ?_
      refine .last (startClusters_keeps _ _) ?_
      exact .put rfl rfl rfl rfl rfl (.last (hwSetField_keeps _ _ _ _ _) (.mono (railSet_keeps _ _ _)))

theorem execRestoreSelfTestFail_runs (rail unit : Nat) (s : State) :
    Runs [.fw, .mbx, .twin, .gauge, .regs] s (execRestoreSelfTestFail rail unit s) := by
  unfold execRestoreSelfTestFail
  split
  · exact .next .refl
  · refine .ite ?_ ?_
    · exact .next .refl
    · exact .next (.last (answer_kept _ _ _ _ _) (.put rfl rfl rfl rfl rfl (.mono (railSet_keeps _ _ _))))

theorem execTwinSelSet_runs (ch seq : Nat) (s : State) : Runs [.fw, .mbx, .gauge, .regs] s (execTwinSelSet ch seq s) := by
  unfold execTwinSelSet
  refine command_runs (fun _ => ?_)
  refine .ite ?_ ?_
  · exact .mono (answer_kept _ _ _ _ _)
  · exact .last (answer_kept _ _ _ _ _) (.last (setReg_keeps _ _ _) (.mono (setReg_keeps _ _ _)))

theorem execPrpPairSet_runs (ch seq : Nat) (s : State) : Runs [.fw, .mbx, .gauge, .regs] s (execPrpPairSet ch seq s) := by
  unfold execPrpPairSet
  refine command_runs (fun _ => ?_)
  refine .ite ?_ ?_
  · exact .mono (answer_kept _ _ _ _ _)
  · exact .last (answer_kept _ _ _ _ _) (.last (setReg_keeps _ _ _) (.mono (setReg_keeps _ _ _)))

theorem execPrpNodeRead_runs (ch seq : Nat) (s : State) : Runs [.fw, .mbx, .gauge, .regs] s (execPrpNodeRead ch seq s) := by
  unfold execPrpNodeRead
  exact command_runs (fun _ => .ite (.mono (answer_kept _ _ _ _ _)) (.mono (answer_kept _ _ _ _ _)))

/-! Rings: the rings. -/

theorem issueBufs_keeps (s : State) (ep g : Nat) (l : List BufRead) : Keeps [.ep0, .ep1, .out] s (issueBufs s ep g l).1 := by
  induction l generalizing s with
  | nil => exact .refl
  | cons b l ih =>
    unfold issueBufs
    dsimp only
    split
    · exact ih s
    · split
      · exact .last (ih _) (issueRead_keeps ‹_›)
      · exact .refl

theorem readDesc_keeps (s : State) (ep g : Nat) : Keeps [.ep0, .ep1, .out] s (readDesc s ep g) := by
  unfold readDesc
  refine .ite ?_ ?_
  · exact .refl
  · split
    · exact .mono (issueRead_keeps ‹_›)
    · exact .refl

theorem txPump_keeps (s : State) (ep g : Nat) :
    Keeps [.hw, .mbx, .ep0, .ep1, .rings, .basin, .macs, .gauge, .regs, .out] s (txPump s ep g) := by
  unfold txPump
  refine .ite ?_ ?_
  · exact .refl
  · refine .ite ?_ ?_
    · exact .last (qpMod_keeps _ _ _ _) (.mono (issueBufs_keeps _ _ _ _))
    · refine .ite ?_ ?_
      · exact .mono (readDesc_keeps _ _ _)
      · refine .ite ?_ ?_
        · exact .mono (halt_keeps _ _ _ _ _ _)
        · exact .last (qpMod_keeps _ _ _ _) (.mono (issueBufs_keeps _ _ _ _))

theorem rxPump_keeps (s : State) (ep g : Nat) : Keeps [.ep0, .ep1, .out] s (rxPump s ep g) := by
  unfold rxPump
  refine .ite ?_ ?_
  · exact .refl
  · split
    · exact .mono (issueRead_keeps ‹_›)
    · exact .refl

theorem pump_keeps (s : State) (ep g : Nat) :
    Keeps [.hw, .mbx, .ep0, .ep1, .rings, .basin, .macs, .gauge, .regs, .out] s (pump s ep g) := by
  unfold pump
  exact .last (rxPump_keeps _ _ _) (.mono (txPump_keeps _ _ _))

theorem reissueReads_keeps (s : State) (ep : Nat) : Keeps [.ep0, .ep1, .out] s (reissueReads s ep) := by
  unfold reissueReads
  refine .foldl ?_ (fun _ _ => ?_)
  · exact .refl
  · split
    · exact .last (epMod_keeps _ _ _) (.mono (issueRead_keeps ‹_›))
    · exact .refl

theorem pumpAll_keeps (s : State) (ep : Nat) :
    Keeps [.hw, .mbx, .ep0, .ep1, .rings, .basin, .nvt, .macs, .gauge, .regs, .out] s (pumpAll s ep) := by
  unfold pumpAll
  refine .last (walkPump_keeps _ _) ?_
  exact .foldl (.mono (reissueReads_keeps _ _)) (fun _ _ => .ite (.mono (pump_keeps _ _ _)) .refl)

theorem traceDoorbell_keeps (s : State) (ep f q ring : Nat) (i : Word) : Keeps [.gauge, .regs] s (traceDoorbell s ep f q ring i) := by
  unfold traceDoorbell
  exact .mono (trace_keeps _ _ _ _ _ _ _)

theorem doorbell_runs {ps : List Part} {s : State} {ep f : Nat} {value : Word} {full : Bool} {present : QPair → Bool}
    {act : State → Nat → QPair → Nat → State} (h : ∀ u g q v, Keeps ps u (act u g q v)) (sub : [.regs] ⊆ ps := by decide) :
    Runs ps s (doorbell s ep f value full present act) := by
  unfold doorbell
  dsimp only
  split_ifs
  · exact .next .refl
  · exact .next ((dbBad_keeps _ _ _).mono sub)
  · exact .next ((bump_keeps _ _).mono sub)
  · split
    · exact .next ((dbBad_keeps _ _ _).mono sub)
    · exact .ite (.next (h _ _ _ _)) (.next ((dbBad_keeps _ _ _).mono sub))

theorem execHifVfDbTx_runs (ep f : Nat) (value : Word) (full : Bool) (s : State) :
    Runs [.hw, .mbx, .ep0, .ep1, .rings, .basin, .macs, .gauge, .regs, .out] s (execHifVfDbTx ep f value full s) := by
  unfold execHifVfDbTx
  refine doorbell_runs (fun _ _ _ _ => ?_)
  refine .ite ?_ ?_
  · refine .last (halt_keeps _ _ _ _ _ _) ?_
    exact .last (traceDoorbell_keeps _ _ _ _ _ _) (.mono (qpSet_keeps _ _ _ _))
  · exact .last (txPump_keeps _ _ _) (.last (traceDoorbell_keeps _ _ _ _ _ _) (.mono (qpSet_keeps _ _ _ _)))

theorem execHifVfDbRx_runs (ep f : Nat) (value : Word) (full : Bool) (s : State) :
    Runs [.hw, .mbx, .ep0, .ep1, .rings, .basin, .macs, .gauge, .regs, .out] s (execHifVfDbRx ep f value full s) := by
  unfold execHifVfDbRx
  refine doorbell_runs (fun _ _ _ _ => ?_)
  refine .ite ?_ ?_
  · refine .last (halt_keeps _ _ _ _ _ _) ?_
    exact .last (traceDoorbell_keeps _ _ _ _ _ _) (.mono (qpSet_keeps _ _ _ _))
  · exact .last (rxPump_keeps _ _ _) (.last (traceDoorbell_keeps _ _ _ _ _ _) (.mono (qpSet_keeps _ _ _ _)))

theorem execHifVfDbCq_runs (ep f : Nat) (value : Word) (full : Bool) (s : State) :
    Runs [.hw, .mbx, .ep0, .ep1, .rings, .basin, .macs, .gauge, .regs, .out] s (execHifVfDbCq ep f value full s) := by
  unfold execHifVfDbCq
  refine doorbell_runs (fun _ _ _ _ => ?_)
  refine .ite ?_ ?_
  · refine .last (halt_keeps _ _ _ _ _ _) ?_
    exact .last (traceDoorbell_keeps _ _ _ _ _ _) (.mono (qpSet_keeps _ _ _ _))
  · refine .ite ?_ ?_
    · refine .ite ?_ ?_
      · exact .last (qpMod_keeps _ _ _ _) (.last (traceDoorbell_keeps _ _ _ _ _ _) (.mono (qpSet_keeps _ _ _ _)))
      · refine .last (ringInterrupt_keeps _ _ _) ?_
        exact .last (qpMod_keeps _ _ _ _) (.last (traceDoorbell_keeps _ _ _ _ _ _) (.mono (qpSet_keeps _ _ _ _)))
    · exact .last (traceDoorbell_keeps _ _ _ _ _ _) (.mono (qpSet_keeps _ _ _ _))

theorem execHifVfItr_runs (ep f : Nat) (value : Word) (full : Bool) (s : State) :
    Runs [.ep0, .ep1, .regs] s (execHifVfItr ep f value full s) := by
  unfold execHifVfItr
  refine .ite ?_ ?_
  · exact .next .refl
  · refine .ite ?_ ?_
    · exact .next (.mono (dbBad_keeps _ _ _))
    · exact .ite (.next (.mono (bump_keeps _ _))) (.ite (.next (.mono (fnMod_keeps _ _ _ _))) (.next .refl))

theorem pushBad_keeps (s : State) (ep f : Nat) : Keeps [.regs] s (pushBad s ep f) := by
  unfold pushBad
  exact .mono (countBoth_keeps _ _ _ _ _)

theorem execPushWrite_runs (ep f off : Nat) (data : Bytes) (full : Bool) (s : State) :
    Runs [.hw, .mbx, .ep0, .ep1, .rings, .basin, .macs, .gauge, .regs, .out] s (execPushWrite ep f off data full s) := by
  have bad : Runs [.hw, .mbx, .ep0, .ep1, .rings, .basin, .macs, .gauge, .regs, .out] s (.next (pushBad s ep f)) :=
    .next (.mono (pushBad_keeps _ _ _))
  unfold execPushWrite
  refine .ite (.next .refl) (.ite bad ?_)
  split
  · exact bad
  next g _ =>
    have pushed : ∀ q, Keeps [.hw, .mbx, .ep0, .ep1, .rings, .basin, .macs, .gauge, .regs, .out] s (qpSet s ep g q) := fun _ =>
      .mono (qpSet_keeps _ _ _ _)
    refine .ite bad ?_
    dsimp only
    split
    · exact .next (.mono (halt_keeps _ _ _ _ _ _))
    · exact .ite (.next (.last (halt_keeps _ _ _ _ _ _) (pushed _))) (.next (.last (txPump_keeps _ _ _) (pushed _)))

theorem execTxDescriptorRead_runs (ep g : Nat) (s : State) :
    Runs [.hw, .mbx, .ep0, .ep1, .rings, .basin, .macs, .gauge, .regs, .out] s (execTxDescriptorRead ep g s) := by
  unfold execTxDescriptorRead
  split
  · exact .next .refl
  · refine .ite ?_ ?_
    · exact .next (.mono (epMod_keeps _ _ _))
    · refine .ite ?_ ?_
      · exact .next (.last (halt_keeps _ _ _ _ _ _) (.mono (epMod_keeps _ _ _)))
      · refine .ite ?_ ?_
        · exact .next (.last (halt_keeps _ _ _ _ _ _) (.mono (epMod_keeps _ _ _)))
        · exact .next (.last (txPump_keeps _ _ _) (.last (qpSet_keeps _ _ _ _) (.mono (epMod_keeps _ _ _))))

theorem failPacket_keeps (s : State) (ep g : Nat) (last : Word) : Keeps [.rings, .nextPid, .regs] s (failPacket s ep g last) := by
  unfold failPacket
  exact .last (qpMod_keeps _ _ _ _) (.last (bump_keeps _ _) (.mono (newId_keeps _)))

theorem countGate_keeps (s : State) (ep g addr : Nat) : Keeps [.rings, .regs] s (countGate s ep g addr) := by
  unfold countGate
  exact .ite .refl (.last (bump_keeps _ _) (.mono (qpMod_keeps _ _ _ _)))

theorem acceptPacket_keeps (s : State) (ep g fid : Nat) (ds : List (Word × Bytes)) (frame : Bytes) :
    Keeps [.rings, .pkts, .nextPid, .basin, .twin, .nvt, .regs] s (acceptPacket s ep g fid ds frame) := by
  unfold acceptPacket
  refine .last (distribute_keeps _ _ _) ?_
  refine .ite ?_ ?_
  · refine .put rfl rfl rfl rfl rfl ?_
    refine .ite ?_ ?_
    · exact .last (qpMod_keeps _ _ _ _) (.mono (newId_keeps _))
    · refine .last (bump64_keeps _ _ _) ?_
      exact .last (bump64_keeps _ _ _) (.last (qpMod_keeps _ _ _ _) (.mono (newId_keeps _)))
  · refine .ite ?_ ?_
    · exact .last (qpMod_keeps _ _ _ _) (.mono (newId_keeps _))
    · refine .last (bump64_keeps _ _ _) ?_
      exact .last (bump64_keeps _ _ _) (.last (qpMod_keeps _ _ _ _) (.mono (newId_keeps _)))

theorem execTxFrameInBasin_runs (ep g : Nat) (s : State) :
    Runs [.hw, .mbx, .ep0, .ep1, .rings, .pkts, .nextPid, .basin, .twin, .nvt, .macs, .gauge, .regs, .out] s
      (execTxFrameInBasin ep g s) := by
  unfold execTxFrameInBasin
  refine .ite ?_ ?_
  · exact .next .refl
  · refine .ite ?_ ?_
    · exact .next (.last (txPump_keeps _ _ _) (.mono (failPacket_keeps _ _ _ _)))
    · refine .ite ?_ ?_
      · exact .next (.mono (countGate_keeps _ _ _ _))
      · refine .ite ?_ ?_
        · exact .next .refl
        · refine .ite ?_ ?_
          · exact .next (.mono (countGate_keeps _ _ _ _))
          · split
            · exact .next .refl
            · refine .next ?_
              exact .last (txPump_keeps _ _ _) (.last (acceptPacket_keeps _ _ _ _ _ _) (.mono (basinStore_keeps ‹_›)))

theorem dropReads_keeps (s : State) (ep g : Nat) : Keeps [.ep0, .ep1] s (dropReads s ep g) := by
  unfold dropReads
  exact .mono (epMod_keeps _ _ _)

theorem flushStart_keeps (s : State) (ep g cause : Nat) (cmd : Option (Nat × Nat)) :
    Keeps [.ep0, .ep1, .rings] s (flushStart s ep g cause cmd) := by
  unfold flushStart
  dsimp only
  split
  · exact .refl
  · exact .refl
  · exact .last (dropReads_keeps _ _ _) (.mono (qpSet_keeps _ _ _ _))

theorem drainCheck_keeps (s : State) (ep g : Nat) : Keeps [.ep0, .ep1, .rings] s (drainCheck s ep g) := by
  unfold drainCheck
  exact .ite (.mono (flushStart_keeps _ _ _ _ _)) .refl

theorem execTxComplete_runs (ep g : Nat) (s : State) :
    Runs [.hw, .mbx, .ep0, .ep1, .rings, .basin, .nvt, .macs, .gauge, .regs, .out] s (execTxComplete ep g s) := by
  unfold execTxComplete
  dsimp only
  split
  · exact .next .refl
  · refine .ite ?_ ?_
    · exact .next .refl
    · refine .next ?_
      refine .last (drainCheck_keeps _ _ _) ?_
      refine .last (haltFinish_keeps _ _ _) ?_
      refine .ite ?_ ?_
      · exact .put rfl rfl rfl rfl rfl (.mono (qpSet_keeps _ _ _ _))
      · exact .last (writeEntry_keeps _ _ _ _) (.put rfl rfl rfl rfl rfl (.mono (qpSet_keeps _ _ _ _)))

theorem usePosting_keeps (s : State) (ep g : Nat) (p : Word × Bytes) (d : Bytes) (last : Bool) (status flags : Nat) (stamp : Dword) :
    Keeps [.ep0, .ep1, .rings, .out] s (usePosting s ep g p d last status flags stamp) := by
  unfold usePosting
  refine .last (writeEntry_keeps _ _ _ _) ?_
  exact .last (qpMod_keeps _ _ _ _) (.mono (dmaWrite_keeps _ _ _ _ _ _ _))

theorem usePostings_keeps (ep g flags : Nat) (stamp : Dword) (l : List (Word × Bytes)) (d : Bytes) (refused : Option Nat) (s : State) :
    Keeps [.ep0, .ep1, .rings, .out] s (usePostings ep g flags stamp l d refused s) := by
  induction l generalizing d refused s with
  | nil => exact .refl
  | cons p l ih =>
    unfold usePostings
    split
    · exact usePosting_keeps _ _ _ _ _ _ _ _ _
    · exact .last (ih _ _ _) (usePosting_keeps _ _ _ _ _ _ _ _ _)

theorem rxOffload_keeps (s : State) (n queue : Nat) (q : QPair) (r : RxFrame) :
    Keeps [.mbx, .ep0, .ep1, .cry, .nvt, .gauge, .regs, .out] s (rxOffload s n queue q r).1 := by
  unfold rxOffload
  refine .last (nvtReceive_keeps _ _ _ _ _) ?_
  split
  · split
    · exact .mono (tlsReceive_keeps _ _ _)
    · exact .refl
  · exact .refl

theorem deliverRx_keeps (s : State) (ep g : Nat) (r : RxFrame) (ps : List (Word × Bytes)) (refused : Option Nat) :
    Keeps [.mbx, .ep0, .ep1, .rings, .basin, .cry, .nvt, .macs, .gauge, .regs, .out] s (deliverRx s ep g r ps refused) := by
  unfold deliverRx
  extract_lets q u bad
  split
  next v b fl offloaded =>
    have done : Keeps [.mbx, .ep0, .ep1, .rings, .basin, .cry, .nvt, .macs, .gauge, .regs, .out] s v :=
      .of_eq offloaded (.last (rxOffload_keeps _ _ _ _ _) (.mono (qpSet_keeps _ _ _ _)))
    extract_lets data w
    have posted : Keeps [.mbx, .ep0, .ep1, .rings, .basin, .cry, .nvt, .macs, .gauge, .regs, .out] s w :=
      .last (usePostings_keeps _ _ _ _ _ _ _ _) done
    refine .last (rxPump_keeps _ _ _) (.last (letGo_keeps _ _ _ _) (.ite posted ?_))
    exact .last (bump64_keeps _ _ _) (.last (bump64_keeps _ _ _) posted)

theorem execRxDeliver_runs (ep g : Nat) (refused : Option Nat) (s : State) :
    Runs [.mbx, .ep0, .ep1, .rings, .basin, .cry, .nvt, .macs, .gauge, .regs, .out] s (execRxDeliver ep g refused s) := by
  unfold execRxDeliver
  dsimp only
  split
  · exact .next .refl
  · refine .ite ?_ ?_
    · exact .next .refl
    · refine .ite ?_ ?_
      · exact .next (.last (staleGen_keeps _ _) (.last (dropRx_keeps _ _) (.mono (qpSet_keeps _ _ _ _))))
      · split
        · exact .next .refl
        · exact .ite (.next (.mono (deliverRx_keeps _ _ _ _ _ _))) (.next .refl)

theorem execRxNopostExpire_runs (ep g i : Nat) (s : State) : Runs [.rings, .basin, .macs, .regs] s (execRxNopostExpire ep g i s) := by
  unfold execRxNopostExpire
  dsimp only
  split
  · exact .next .refl
  · refine .ite ?_ ?_
    · exact .next .refl
    · refine .next ?_
      refine .ite ?_ ?_
      · exact .last (bump_keeps _ _) (.last (dropRx_keeps _ _) (.mono (qpSet_keeps _ _ _ _)))
      · refine .last (bump_keeps _ _) ?_
        exact .last (bump_keeps _ _) (.last (dropRx_keeps _ _) (.mono (qpSet_keeps _ _ _ _)))

theorem execWriteBack_runs (ep g : Nat) (s : State) : Runs [.ep0, .ep1, .rings, .out] s (execWriteBack ep g s) := by
  unfold execWriteBack
  exact .ite (.next (.mono (writeBack_keeps _ _ _))) (.next .refl)

theorem dropTag_keeps (s : State) (ep tag : Nat) : Keeps [.ep0, .ep1] s (dropTag s ep tag) := by
  unfold dropTag
  exact .mono (epMod_keeps _ _ _)

theorem failRead_keeps (s : State) (ep : Nat) (r : ReadReq) :
    Keeps [.hw, .mbx, .ep0, .ep1, .rings, .basin, .nvt, .macs, .gauge, .regs, .out, .fresh] s (failRead s ep r) := by
  unfold failRead
  refine .ite ?_ ?_
  · exact .last (halt_keeps _ _ _ _ _ _) (.mono (trace_keeps _ _ _ _ _ _ _))
  · refine .ite ?_ ?_
    · exact .last (halt_keeps _ _ _ _ _ _) (.mono (trace_keeps _ _ _ _ _ _ _))
    · refine .ite ?_ ?_
      · exact .last (qpSet_keeps _ _ _ _) (.mono (trace_keeps _ _ _ _ _ _ _))
      · refine .ite ?_ ?_
        · exact .last (chainError_keeps _ _) (.mono (trace_keeps _ _ _ _ _ _ _))
        · exact .mono (trace_keeps _ _ _ _ _ _ _)

theorem takeData_keeps (s : State) (ep : Nat) (r : ReadReq) (d : Bytes) :
    Keeps [.hw, .mbx, .ep0, .ep1, .rings, .basin, .macs, .gauge, .regs, .out] s (takeData s ep r d) := by
  unfold takeData
  refine .ite ?_ ?_
  · refine .ite ?_ ?_
    · exact .last (halt_keeps _ _ _ _ _ _) (.mono (dropTag_keeps _ _ _))
    · exact .last (rxPump_keeps _ _ _) (.last (qpSet_keeps _ _ _ _) (.mono (dropTag_keeps _ _ _)))
  · refine .ite ?_ ?_
    · exact .last (qpSet_keeps _ _ _ _) (.mono (dropTag_keeps _ _ _))
    · exact .ite (.mono (dropTag_keeps _ _ _)) (.mono (epMod_keeps _ _ _))

theorem lateCompletion_keeps (s : State) (ep : Nat) (r : ReadReq) :
    Keeps [.hw, .mbx, .ep0, .ep1, .gauge, .regs] s (lateCompletion s ep r) := by
  unfold lateCompletion
  refine .last (errlogGen_keeps _ _ _ _ _ _ _) ?_
  exact .last (countBoth_keeps _ _ _ _ _) (.mono (dropTag_keeps _ _ _))

theorem takeCompletion_keeps (s : State) (ep : Nat) (r : ReadReq) (status : Nat) (poisoned badEcrc : Bool) (d : Bytes) :
    Keeps [.hw, .mbx, .ep0, .ep1, .rings, .basin, .nvt, .macs, .gauge, .regs, .out, .fresh] s
      (takeCompletion s ep r status poisoned badEcrc d) := by
  unfold takeCompletion
  refine .ite ?_ ?_
  · refine .last (failRead_keeps _ _ _) ?_
    refine .last (dropTag_keeps _ _ _) ?_
    refine .ite ?_ ?_
    · refine .last (bump_keeps _ _) ?_
      refine .ite ?_ ?_
      · refine .last (bump_keeps _ _) ?_
        exact .last (aerLog_keeps _ _ _ _) (.ite (.last (bump_keeps _ _) (.mono (aerLog_keeps _ _ _ _))) .refl)
      · exact .ite (.last (bump_keeps _ _) (.mono (aerLog_keeps _ _ _ _))) .refl
    · refine .ite ?_ ?_
      · refine .last (bump_keeps _ _) ?_
        exact .last (aerLog_keeps _ _ _ _) (.ite (.last (bump_keeps _ _) (.mono (aerLog_keeps _ _ _ _))) .refl)
      · exact .ite (.last (bump_keeps _ _) (.mono (aerLog_keeps _ _ _ _))) .refl
  · refine .last (takeData_keeps _ _ _ _) ?_
    refine .ite ?_ ?_
    · refine .last (bump_keeps _ _) ?_
      refine .ite ?_ ?_
      · refine .last (bump_keeps _ _) ?_
        exact .last (aerLog_keeps _ _ _ _) (.ite (.last (bump_keeps _ _) (.mono (aerLog_keeps _ _ _ _))) .refl)
      · exact .ite (.last (bump_keeps _ _) (.mono (aerLog_keeps _ _ _ _))) .refl
    · refine .ite ?_ ?_
      · refine .last (bump_keeps _ _) ?_
        exact .last (aerLog_keeps _ _ _ _) (.ite (.last (bump_keeps _ _) (.mono (aerLog_keeps _ _ _ _))) .refl)
      · exact .ite (.last (bump_keeps _ _) (.mono (aerLog_keeps _ _ _ _))) .refl

theorem execCplRx_runs (ep tag status : Nat) (poisoned badEcrc : Bool) (data : Bytes) (s : State) :
    Runs [.hw, .mbx, .ep0, .ep1, .rings, .basin, .nvt, .macs, .gauge, .regs, .out, .fresh] s
      (execCplRx ep tag status poisoned badEcrc data s) := by
  unfold execCplRx
  split
  · exact .next (.mono (aerAdvisory_keeps _ _ _ _))
  · refine .ite ?_ ?_
    · exact .next (.last (pumpAll_keeps _ _) (.mono (lateCompletion_keeps _ _ _)))
    · exact .next (.last (pumpAll_keeps _ _) (.mono (takeCompletion_keeps _ _ _ _ _ _ _)))

theorem execCplTimeout_runs (ep tag : Nat) (s : State) :
    Runs [.hw, .mbx, .ep0, .ep1, .rings, .basin, .nvt, .macs, .gauge, .regs, .out, .fresh] s (execCplTimeout ep tag s) := by
  unfold execCplTimeout
  split
  · exact .next .refl
  · refine .next ?_
    refine .last (pumpAll_keeps _ _) ?_
    refine .last (failRead_keeps _ _ _) ?_
    refine .last (errlogGen_keeps _ _ _ _ _ _ _) ?_
    exact .last (countBoth_keeps _ _ _ _ _) (.last (aerLog_keeps _ _ _ _) (.mono (epMod_keeps _ _ _)))

theorem execTagQuarantineExpire_runs (ep tag : Nat) (s : State) :
    Runs [.hw, .mbx, .ep0, .ep1, .rings, .basin, .nvt, .macs, .gauge, .regs, .out] s (execTagQuarantineExpire ep tag s) := by
  unfold execTagQuarantineExpire
  exact .next (.last (pumpAll_keeps _ _) (.mono (epMod_keeps _ _ _)))

theorem discardSent_keeps (s : State) (key : Nat) :
    Keeps [.rings, .pkts, .plane, .rasp, .jig, .csc, .twin, .macs] s (discardSent s key) := by
  unfold discardSent
  refine .foldl ?_ (fun _ _ => ?_)
  · refine .put rfl rfl rfl rfl rfl ?_
    exact .foldl (.put rfl rfl rfl rfl rfl .refl) (fun _ _ => .mono (dovSet_keeps _ _ _))
  · refine .ite ?_ ?_
    · refine .last (endCopy_keeps _ _ _) ?_
      split
      · exact .ite (.mono (itemFree_keeps _ _ _)) .refl
      · exact .refl
    · exact .refl

theorem freeSent_keeps (s t : State) (key : Nat) : Keeps [.basin, .macs] t (freeSent s t key) := by
  unfold freeSent
  refine .foldl ?_ (fun _ _ => ?_)
  · exact .refl
  · split
    · exact .mono (basinFree_keeps _ _ _)
    · exact .refl

theorem flushEnd_keeps (s : State) (ep g cause : Nat) (old : BitVec 16) (cmd : Option (Nat × Nat)) :
    Keeps [.fw, .mbx, .rings, .pkts, .basin, .plane, .rasp, .jig, .csc, .twin, .nvt, .macs, .gauge, .regs] s
      (flushEnd s ep g cause old cmd) := by
  unfold flushEnd
  dsimp only
  split
  · refine .last (answer_kept _ _ _ _ _) ?_
    refine .last (keepRecord_keeps _ _ _ _) ?_
    refine .last (qpSet_keeps _ _ _ _) ?_
    refine .put rfl rfl rfl rfl rfl ?_
    refine .last (freeSent_keeps _ _ _) ?_
    refine .last (discardSent_keeps _ _) ?_
    exact .foldl (.mono (qpSet_keeps _ _ _ _)) (fun _ _ => .mono (dropRx_keeps _ _))
  · refine .last (keepRecord_keeps _ _ _ _) ?_
    refine .last (qpSet_keeps _ _ _ _) ?_
    refine .put rfl rfl rfl rfl rfl ?_
    refine .last (freeSent_keeps _ _ _) ?_
    refine .last (discardSent_keeps _ _) ?_
    exact .foldl (.mono (qpSet_keeps _ _ _ _)) (fun _ _ => .mono (dropRx_keeps _ _))

theorem execQueueFlush_runs (ep g : Nat) (s : State) :
    Runs [.fw, .mbx, .rings, .pkts, .basin, .plane, .rasp, .jig, .csc, .twin, .nvt, .macs, .gauge, .regs] s (execQueueFlush ep g s) := by
  unfold execQueueFlush
  dsimp only
  split
  · exact .ite (.next .refl) (.next (.mono (flushEnd_keeps _ _ _ _ _ _)))
  · exact .next .refl

theorem execDrainTimeout_runs (ep g : Nat) (s : State) : Runs [.ep0, .ep1, .rings] s (execDrainTimeout ep g s) := by
  unfold execDrainTimeout
  exact .ite (.next (.mono (flushStart_keeps _ _ _ _ _))) (.next .refl)

theorem withQueue_keeps {ps : List Part} {s : State} {ch seq : Nat} {req : Bytes} {f : Nat → Nat → Nat → State}
    (h : ∀ ep fn g, Keeps ps s (f ep fn g)) (sub : answerParts ⊆ ps := by decide) : Keeps ps s (withQueue s ch seq req f) := by
  have refused : ∀ code, Keeps ps s (answer s ch seq code []) := fun code => (answer_kept _ _ _ _ _).mono sub
  unfold withQueue
  split
  · exact refused _
  · split
    · exact h _ _ _
    · exact refused _

theorem execQueueCreate_runs (ch seq : Nat) (s : State) : Runs [.fw, .mbx, .rings, .gauge, .regs] s (execQueueCreate ch seq s) := by
  unfold execQueueCreate
  refine command_runs (fun _ => ?_)
  refine withQueue_keeps (fun _ _ _ => ?_)
  refine .ite ?_ ?_
  · exact .mono (answer_kept _ _ _ _ _)
  · exact .ite (.mono (answer_kept _ _ _ _ _)) (.last (answer_kept _ _ _ _ _) (.mono (qpSet_keeps _ _ _ _)))

theorem execQueueDestroy_runs (ch seq : Nat) (s : State) :
    Runs [.fw, .mbx, .ep0, .ep1, .rings, .gauge, .regs] s (execQueueDestroy ch seq s) := by
  unfold execQueueDestroy
  refine command_runs (fun _ => ?_)
  refine withQueue_keeps (fun _ _ _ => ?_)
  refine .ite ?_ ?_
  · exact .mono (answer_kept _ _ _ _ _)
  · refine .ite ?_ ?_
    · exact .mono (answer_kept _ _ _ _ _)
    · refine .ite ?_ ?_
      · refine .last (drainCheck_keeps _ _ _) ?_
        exact .last (defer_keeps _ _ _) (.last (dropReads_keeps _ _ _) (.mono (qpSet_keeps _ _ _ _)))
      · exact .last (flushStart_keeps _ _ _ _ _) (.mono (defer_keeps _ _ _))

theorem execQueueQuery_runs (ch seq : Nat) (s : State) : Runs [.fw, .mbx, .gauge, .regs] s (execQueueQuery ch seq s) := by
  unfold execQueueQuery
  exact command_runs (fun _ => withQueue_keeps (fun _ _ _ => .mono (answer_kept _ _ _ _ _)))

theorem execQueueModify_runs (ch seq : Nat) (s : State) : Runs [.fw, .mbx, .rings, .gauge, .regs] s (execQueueModify ch seq s) := by
  unfold execQueueModify
  refine command_runs (fun _ => ?_)
  refine withQueue_keeps (fun _ _ _ => ?_)
  exact .ite (.mono (answer_kept _ _ _ _ _)) (.last (answer_kept _ _ _ _ _) (.mono (qpSet_keeps _ _ _ _)))

theorem execQueuePfItrSet_runs (ch seq : Nat) (s : State) :
    Runs [.fw, .mbx, .ep0, .ep1, .gauge, .regs] s (execQueuePfItrSet ch seq s) := by
  unfold execQueuePfItrSet
  refine command_runs (fun _ => ?_)
  refine .ite ?_ ?_
  · exact .mono (answer_kept _ _ _ _ _)
  · exact .last (answer_kept _ _ _ _ _) (.last (fnMod_keeps _ _ _ _) (.mono (setReg_keeps _ _ _)))

theorem execResetRecordRead_runs (ch seq : Nat) (s : State) :
    Runs [.fw, .mbx, .rings, .gauge, .regs] s (execResetRecordRead ch seq s) := by
  unfold execResetRecordRead
  refine command_runs (fun _ => ?_)
  split
  · exact .mono (answer_kept _ _ _ _ _)
  · refine .ite ?_ ?_
    · exact .mono (answer_kept _ _ _ _ _)
    · exact .last (answer_kept _ _ _ _ _) (.put rfl rfl rfl rfl rfl .refl)

/-! Pcie: the PCI Express endpoints. -/

theorem noteLink_keeps (s : State) (ep : Nat) : Keeps [.mbx, .ep0, .ep1, .gauge, .regs] s (noteLink s ep) := by
  unfold noteLink
  exact .last (eventToManager_keeps _ _ _) (.mono (mgrEventBoth_keeps _ _))

theorem linkSet_keeps (s : State) (ep speed width : Nat) (flit up : Bool) : Keeps [.ep0, .ep1] s (linkSet s ep speed width flit up) := by
  unfold linkSet
  exact .mono (epMod_keeps _ _ _)

theorem execPcieLinkTrain_runs (ep speed width : Nat) (flit : Bool) (s : State) :
    Runs [.mbx, .ep0, .ep1, .gauge, .regs] s (execPcieLinkTrain ep speed width flit s) := by
  unfold execPcieLinkTrain
  refine .ite ?_ ?_
  · exact .next .refl
  · exact .next (.last (noteLink_keeps _ _) (.last (epMod_keeps _ _ _) (.mono (linkSet_keeps _ _ _ _ _ _))))

theorem retirePcieLane_keeps (s : State) (ep lane cause : Nat) :
    Keeps [.dev, .hw, .mbx, .ep0, .ep1, .gauge, .regs] s (retirePcieLane s ep lane cause) := by
  unfold retirePcieLane
  refine .last (noteMode_keeps _ _ _) ?_
  refine .last (noteRetired_keeps _ _ _ _ _ _) ?_
  refine .ite ?_ ?_
  · exact .last (noteLink_keeps _ _) (.last (linkSet_keeps _ _ _ _ _ _) (.mono (hwSetField_keeps _ _ _ _ _)))
  · exact .mono (hwSetField_keeps _ _ _ _ _)

theorem execPcieLaneErrorPoll_runs (ep lane : Nat) (s : State) :
    Runs [.dev, .hw, .mbx, .ep0, .ep1, .gauge, .regs] s (execPcieLaneErrorPoll ep lane s) := by
  unfold execPcieLaneErrorPoll
  exact .ite (.next (.mono (retirePcieLane_keeps _ _ _ _))) (.next .refl)

theorem sendHeld_keeps (s : State) (ep : Nat) : Keeps [.ep0, .ep1, .out] s (sendHeld s ep) := by
  unfold sendHeld
  exact .foldl (.mono (epMod_keeps _ _ _)) (fun _ _ => .ite (.mono (emit_keeps _ _)) .refl)

theorem stopReads_keeps (s : State) (ep : Nat) (p : Nat → Bool) : Keeps [.ep0, .ep1] s (stopReads s ep p) := by
  unfold stopReads
  exact .mono (epMod_keeps _ _ _)

theorem resumeSending_keeps (s : State) (ep : Nat) :
    Keeps [.hw, .mbx, .ep0, .ep1, .rings, .basin, .nvt, .macs, .gauge, .regs, .out] s (resumeSending s ep) := by
  unfold resumeSending
  exact .last (pumpAll_keeps _ _) (.mono (sendHeld_keeps _ _))

theorem cfgWrite_runs {ps : List Part} {s : State} {ep f : Nat} {body : State → State} (h : ∀ u, Keeps ps u (body u))
    (sub : [.out] ⊆ ps := by decide) : Runs ps s (cfgWrite s ep f body) :=
  .ite (.next (.last (emit_keeps _ _) (h s) sub)) (.ite (.next ((emit_keeps _ _).mono sub)) (.next .refl))

theorem execBusMasterEnableWrite_runs (ep f : Nat) (enable : Bool) (s : State) :
    Runs [.hw, .mbx, .ep0, .ep1, .rings, .basin, .nvt, .macs, .gauge, .regs, .out] s (execBusMasterEnableWrite ep f enable s) := by
  unfold execBusMasterEnableWrite
  refine cfgWrite_runs (fun _ => ?_)
  refine .ite ?_ ?_
  · exact .last (resumeSending_keeps _ _) (.mono (fnMod_keeps _ _ _ _))
  · exact .last (stopReads_keeps _ _ _) (.mono (fnMod_keeps _ _ _ _))

theorem execConfigWrite_runs (ep f field value : Nat) (s : State) :
    Runs [.hw, .mbx, .ep0, .ep1, .rings, .basin, .nvt, .macs, .gauge, .regs, .out] s (execConfigWrite ep f field value s) := by
  unfold execConfigWrite
  refine cfgWrite_runs (fun _ => ?_)
  refine .ite ?_ ?_
  · exact .last (stopReads_keeps _ _ _) (.mono (fnMod_keeps _ _ _ _))
  · exact .last (resumeSending_keeps _ _) (.mono (fnMod_keeps _ _ _ _))

theorem nextGeneration_keeps (s : State) (ep f cause : Nat) : Keeps [.ep0, .ep1, .rings, .regs] s (nextGeneration s ep f cause) := by
  unfold nextGeneration
  refine .last (fnMod_keeps _ _ _ _) ?_
  refine .last (epMod_keeps _ _ _) ?_
  exact .last (bumpBy_keeps _ _ _) (.foldl .refl (fun _ _ => .mono (flushStart_keeps _ _ _ _ _)))

theorem flrStart_keeps (s : State) (ep f cause : Nat) : Keeps [.ep0, .ep1, .rings, .gauge, .regs] s (flrStart s ep f cause) := by
  unfold flrStart
  refine .ite ?_ ?_
  · exact .refl
  · refine .last (trace_keeps _ _ _ _ _ _ _) ?_
    exact .last (fnMod_keeps _ _ _ _) (.mono (nextGeneration_keeps _ _ _ _))

theorem dropInta_keeps (s : State) (ep : Nat) : Keeps [.ep0, .ep1, .out] s (dropInta s ep) := by
  unfold dropInta
  exact .ite (.last (emit_keeps _ _) (.mono (epMod_keeps _ _ _))) .refl

theorem flrFunction_keeps (s : State) (ep f cause : Nat) :
    Keeps [.ep0, .ep1, .rings, .gauge, .regs, .out] s (flrFunction s ep f cause) := by
  unfold flrFunction
  refine .ite ?_ ?_
  · exact .mono (flrStart_keeps _ _ _ _)
  · refine .ite ?_ ?_
    · exact .refl
    · refine .foldl ?_ (fun _ _ => ?_)
      · exact .last (flrStart_keeps _ _ _ _) (.mono (dropInta_keeps _ _))
      · exact .mono (flrStart_keeps _ _ _ _)

theorem execFlrInitiate_runs (ep f : Nat) (s : State) : Runs [.ep0, .ep1, .rings, .gauge, .regs, .out] s (execFlrInitiate ep f s) := by
  unfold execFlrInitiate
  exact cfgWrite_runs (fun _ => .mono (flrFunction_keeps _ _ _ _))

theorem execVfEnableChange_runs (ep : Nat) (enable : Bool) (numVfs : Nat) (s : State) :
    Runs [.ep0, .ep1, .rings, .gauge, .regs, .out] s (execVfEnableChange ep enable numVfs s) := by
  unfold execVfEnableChange
  refine .ite ?_ ?_
  · exact .next .refl
  · refine cfgWrite_runs (fun _ => ?_)
    exact .foldl (.mono (fnMod_keeps _ _ _ _)) (fun _ _ => .mono (flrStart_keeps _ _ _ _))

theorem invalidateOwn_keeps (s : State) (ep f : Nat) : Keeps [.cry, .nvt] s (invalidateOwn s ep f) := by
  unfold invalidateOwn
  split
  · exact .refl
  · exact .put rfl rfl rfl rfl rfl .refl

theorem regsReset_keeps (s : State) (a n : Nat) : Keeps [.regs, .latches] s (regsReset s a n) := by
  unfold regsReset
  exact .put rfl rfl rfl rfl rfl .refl

theorem chanFlr_keeps (s : State) (ch : Nat) : Keeps [.mbx, .ep0, .ep1, .regs, .out] s (chanFlr s ch) := by
  unfold chanFlr
  refine .ite ?_ ?_
  · refine .last (showToHost_keeps _ _) ?_
    exact .last (chanMod_keeps (fun _ => .same rfl rfl rfl rfl)) (.mono (bumpHostGen_keeps _ _))
  · exact .last (chanMod_keeps (fun _ => .same rfl rfl rfl rfl)) (.mono (bumpHostGen_keeps _ _))

theorem pfRegsReset_keeps (s : State) (ep : Nat) : Keeps [.regs, .latches] s (pfRegsReset s ep) := by
  unfold pfRegsReset
  exact .last (regsReset_keeps _ _ _) (.mono (regsReset_keeps _ _ _))

theorem flrEnd_keeps (s : State) (ep f : Nat) :
    Keeps [.mbx, .ep0, .ep1, .cry, .nvt, .gauge, .regs, .latches, .out] s (flrEnd s ep f) := by
  unfold flrEnd
  refine .last (eventToManager_keeps _ _ _) ?_
  refine .last (mgrEventBoth_keeps _ _) ?_
  refine .foldl ?_ (fun _ _ => ?_)
  · refine .last (fnMod_keeps _ _ _ _) ?_
    refine .ite ?_ ?_
    · exact .last (pfRegsReset_keeps _ _) (.mono (invalidateOwn_keeps _ _ _))
    · exact .last (regsReset_keeps _ _ _) (.mono (invalidateOwn_keeps _ _ _))
  · exact .mono (chanFlr_keeps _ _)

theorem execFlrComplete_runs (ep f : Nat) (s : State) :
    Runs [.mbx, .ep0, .ep1, .cry, .nvt, .gauge, .regs, .latches, .out] s (execFlrComplete ep f s) := by
  unfold execFlrComplete
  exact .ite (.next (.mono (flrEnd_keeps _ _ _))) (.next .refl)

theorem setHolder_keeps (s : State) (h : Holder) (cause : Nat) : Keeps [.role, .mbx, .gauge, .regs] s (setHolder s h cause) := by
  unfold setHolder
  refine .ite ?_ ?_
  · exact .refl
  · exact .last (eventToPf0_keeps _ _ _ _) (.last (eventToPf0_keeps _ _ _ _) (.put rfl rfl rfl rfl rfl .refl))

theorem roleMove_keeps (s : State) (ep : Nat) : Keeps [.dev, .hw, .role, .mbx, .ep0, .ep1, .gauge, .regs] s (roleMove s ep) := by
  unfold roleMove
  dsimp only
  split
  · refine .ite ?_ ?_
    · exact .refl
    · exact .last (noteMode_keeps _ _ _) (.last (setHolder_keeps _ _ _) (.put rfl rfl rfl rfl rfl .refl))
  · refine .ite ?_ ?_
    · exact .refl
    · refine .ite ?_ ?_
      · exact .mono (setHolder_keeps _ _ _)
      · refine .ite ?_ ?_
        · exact .last (noteMode_keeps _ _ _) (.last (setHolder_keeps _ _ _) (.put rfl rfl rfl rfl rfl .refl))
        · exact .mono (setHolder_keeps _ _ _)
  · exact .refl

theorem containCount_keeps (s : State) (ep lo : Nat) : Keeps [.regs] s (containCount s ep lo) := by
  unfold containCount
  exact .mono (setReg_keeps _ _ _)

theorem containBegin_keeps (s : State) (ep cause unacked : Nat) :
    Keeps [.dev, .hw, .role, .mbx, .ep0, .ep1, .gauge, .regs, .out] s (containBegin s ep cause unacked) := by
  unfold containBegin
  refine .last (eventToManager_keeps _ _ _) ?_
  refine .last (mgrEventBoth_keeps _ _) ?_
  refine .last (errlog_keeps _ _ _ _ _ _) ?_
  refine .last (roleMove_keeps _ _) ?_
  refine .ite ?_ ?_
  · exact .last (stopReads_keeps _ _ _) (.last (epMod_keeps _ _ _) (.mono (dropInta_keeps _ _)))
  · refine .last (epMod_keeps _ _ _) ?_
    exact .last (stopReads_keeps _ _ _) (.last (epMod_keeps _ _ _) (.mono (dropInta_keeps _ _)))

theorem execEndpointContain_runs (ep cause unacked : Nat) (s : State) :
    Runs [.dev, .hw, .role, .mbx, .ep0, .ep1, .gauge, .regs, .out] s (execEndpointContain ep cause unacked s) := by
  unfold execEndpointContain
  refine .ite ?_ ?_
  · exact .next .refl
  · refine .next ?_
    refine .ite ?_ ?_
    · refine .last (containCount_keeps _ _ _) ?_
      refine .ite ?_ ?_
      · refine .last (noteLink_keeps _ _) ?_
        exact .last (linkSet_keeps _ _ _ _ _ _) (.ite (.mono (epMod_keeps _ _ _)) .refl)
      · exact .ite (.mono (epMod_keeps _ _ _)) .refl
    · refine .last (containBegin_keeps _ _ _ _) ?_
      refine .last (containCount_keeps _ _ _) ?_
      refine .ite ?_ ?_
      · refine .last (noteLink_keeps _ _) ?_
        exact .last (linkSet_keeps _ _ _ _ _ _) (.ite (.mono (epMod_keeps _ _ _)) .refl)
      · exact .ite (.mono (epMod_keeps _ _ _)) .refl

theorem releaseResume_keeps (s : State) (ep : Nat) :
    Keeps [.hw, .mbx, .ep0, .ep1, .rings, .basin, .nvt, .macs, .gauge, .regs, .out] s (releaseResume s ep) := by
  unfold releaseResume
  exact .last (resumeSending_keeps _ _) (.foldl .refl (fun _ _ => .mono (fnMod_keeps _ _ _ _)))

theorem releaseReset_keeps (s : State) (ep : Nat) : Keeps [.ep0, .ep1, .rings, .gauge, .regs, .out] s (releaseReset s ep) := by
  unfold releaseReset
  exact .foldl (.mono (flrFunction_keeps _ _ _ _)) (fun _ _ => .mono (flrStart_keeps _ _ _ _))

theorem containRelease_keeps (s : State) (writer ep mode : Nat) :
    Keeps [.hw, .mbx, .ep0, .ep1, .rings, .basin, .nvt, .macs, .gauge, .regs, .out] s (containRelease s writer ep mode) := by
  unfold containRelease
  refine .ite ?_ ?_
  · exact .refl
  · refine .ite ?_ ?_
    · exact .mono (containCount_keeps _ _ _)
    · refine .last (eventToManager_keeps _ _ _) ?_
      refine .last (mgrEventBoth_keeps _ _) ?_
      refine .ite ?_ ?_
      · exact .last (releaseResume_keeps _ _) (.mono (epMod_keeps _ _ _))
      · exact .last (releaseReset_keeps _ _) (.mono (epMod_keeps _ _ _))

theorem execContainReleaseResume_runs (writer ep : Nat) (s : State) :
    Runs [.hw, .mbx, .ep0, .ep1, .rings, .basin, .nvt, .macs, .gauge, .regs, .out] s (execContainReleaseResume writer ep s) := by
  unfold execContainReleaseResume
  exact .next (.mono (containRelease_keeps _ _ _ _))

theorem execContainReleaseReset_runs (writer ep : Nat) (s : State) :
    Runs [.hw, .mbx, .ep0, .ep1, .rings, .basin, .nvt, .macs, .gauge, .regs, .out] s (execContainReleaseReset writer ep s) := by
  unfold execContainReleaseReset
  exact .next (.mono (containRelease_keeps _ _ _ _))

theorem msixNow_keeps (s : State) (ep f v : Nat) : Keeps [.ep0, .ep1, .out] s (msixNow s ep f v) := by
  unfold msixNow
  exact .last (emit_keeps _ _) (.mono (fnSet_keeps _ _ _ _))

theorem msixPend_keeps (s : State) (ep f v : Nat) : Keeps [.ep0, .ep1] s (msixPend s ep f v) := by
  unfold msixPend
  exact .mono (fnMod_keeps _ _ _ _)

theorem execMsixSend_runs (ep f v : Nat) (s : State) : Runs [.ep0, .ep1, .out] s (execMsixSend ep f v s) := by
  unfold execMsixSend
  refine .ite ?_ ?_
  · exact .next .refl
  · refine .ite ?_ ?_
    · exact .next (.mono (msixPend_keeps _ _ _ _))
    · exact .ite (.next (.mono (fnSet_keeps _ _ _ _))) (.next (.mono (msixNow_keeps _ _ _ _)))

theorem execItrHoldoffExpire_runs (ep f v : Nat) (s : State) : Runs [.ep0, .ep1, .out] s (execItrHoldoffExpire ep f v s) := by
  unfold execItrHoldoffExpire
  split
  · exact .next .refl
  · refine .ite ?_ ?_
    · exact .next (.mono (fnMod_keeps _ _ _ _))
    · refine .ite ?_ ?_
      · exact .next (.last (msixNow_keeps _ _ _ _) (.mono (fnMod_keeps _ _ _ _)))
      · exact .next (.last (msixPend_keeps _ _ _ _) (.mono (fnMod_keeps _ _ _ _)))

theorem execIntaChange_runs (ep : Nat) (s : State) : Runs [.ep0, .ep1, .out] s (execIntaChange ep s) := by
  unfold execIntaChange
  exact .ite (.next (.last (emit_keeps _ _) (.mono (epMod_keeps _ _ _)))) (.next .refl)

theorem execAtsInvalidate_runs (ep f : Nat) (pasid : Option Nat) (addr len : Nat) (s : State) :
    Runs [.ep0, .ep1, .regs, .out] s (execAtsInvalidate ep f pasid addr len s) := by
  unfold execAtsInvalidate
  refine .ite ?_ ?_
  · exact .next .refl
  · refine .ite ?_ ?_
    · exact .next (.mono (epMod_keeps _ _ _))
    · refine .next ?_
      refine .last (emit_keeps _ _) ?_
      exact .ite (.mono (epMod_keeps _ _ _)) (.last (bump_keeps _ _) (.mono (epMod_keeps _ _ _)))

theorem ltrWrite_keeps (s : State) (ep : Nat) (value : Word) : Keeps [.regs, .out] s (ltrWrite s ep value) := by
  unfold ltrWrite
  exact .ite .refl (.ite (.last (emit_keeps _ _) (.mono (setReg_keeps _ _ _))) (.mono (setReg_keeps _ _ _)))

theorem execHifLtrWrite_runs (ep : Nat) (value : Word) (s : State) : Runs [.regs, .out] s (execHifLtrWrite ep value s) := by
  unfold execHifLtrWrite
  exact .ite (.next (.mono (ltrWrite_keeps _ _ _))) (.next .refl)

theorem execTlpViolation_runs (ep f kind len : Nat) (s : State) :
    Runs [.ep0, .ep1, .regs, .out] s (execTlpViolation ep f kind len s) := by
  unfold execTlpViolation
  refine .ite ?_ ?_
  · exact .next .refl
  · refine .ite ?_ ?_
    · exact .next (.last (bump_keeps _ _) (.mono (aerLog_keeps _ _ _ _)))
    · refine .ite ?_ ?_
      · exact .ite (.next (.last (bump_keeps _ _) (.mono (aerLog_keeps _ _ _ _)))) (.next .refl)
      · refine .ite ?_ ?_
        · exact .next (.last (bump_keeps _ _) (.mono (aerAdvisory_keeps _ _ _ _)))
        · refine .ite ?_ ?_
          · exact .next (.last (bump_keeps _ _) (.mono (aerLog_keeps _ _ _ _)))
          · refine .ite ?_ ?_
            · exact .next (.last (emit_keeps _ _) (.last (bump_keeps _ _) (.mono (aerLog_keeps _ _ _ _))))
            · exact .ite (.next (.mono (emit_keeps _ _))) (.next .refl)

theorem execDoeDiscovery_runs (ep index : Nat) (s : State) : Runs [.out] s (execDoeDiscovery ep index s) := by
  unfold execDoeDiscovery
  exact .ite (.next (.mono (emit_keeps _ _))) (.next .refl)

theorem execHifWttSet_runs (ch seq : Nat) (s : State) : Runs [.fw, .mbx, .ep0, .ep1, .gauge, .regs] s (execHifWttSet ch seq s) := by
  unfold execHifWttSet
  refine command_runs (fun _ => ?_)
  exact .ite (.mono (answer_kept _ _ _ _ _)) (.last (answer_kept _ _ _ _ _) (.mono (epMod_keeps _ _ _)))

theorem execHifWttRead_runs (ch seq : Nat) (s : State) : Runs [.fw, .mbx, .gauge, .regs] s (execHifWttRead ch seq s) := by
  unfold execHifWttRead
  exact command_runs (fun _ => .ite (.mono (answer_kept _ _ _ _ _)) (.mono (answer_kept _ _ _ _ _)))

theorem execHifLinkQuery_runs (ch seq : Nat) (s : State) : Runs [.fw, .mbx, .gauge, .regs] s (execHifLinkQuery ch seq s) := by
  unfold execHifLinkQuery
  exact command_runs (fun _ => .ite (.mono (answer_kept _ _ _ _ _)) (.mono (answer_kept _ _ _ _ _)))

theorem execHifLaneRetire_runs (ch seq : Nat) (s : State) :
    Runs [.dev, .hw, .fw, .mbx, .ep0, .ep1, .gauge, .regs] s (execHifLaneRetire ch seq s) := by
  unfold execHifLaneRetire
  refine command_runs (fun _ => ?_)
  refine .ite ?_ ?_
  · exact .mono (answer_kept _ _ _ _ _)
  · exact .last (answer_kept _ _ _ _ _) (.mono (retirePcieLane_keeps _ _ _ _))

/-! Slices: slices. -/

theorem execCalendarReservationSwitch_runs (s : State) :
    Runs [.fw, .slices, .mbx, .gauge, .regs] s (execCalendarReservationSwitch s) := by
  unfold execCalendarReservationSwitch
  exact .next (.foldl (.put rfl rfl rfl rfl rfl .refl) (fun _ _ => .mono (answer_kept _ _ _ _ _)))

theorem shapersReset_keeps (s : State) (inside : Nat → Bool) : Keeps [.weir] s (shapersReset s inside) := by
  unfold shapersReset
  exact .put rfl rfl rfl rfl rfl .refl

theorem leafClear_keeps (s : State) (n : Nat) : Keeps [.weir] s (leafClear s n) := by
  unfold leafClear
  exact .put rfl rfl rfl rfl rfl .refl

theorem threadsFollow_keeps (s : State) (n : Nat) : Keeps [.csc, .fresh] s (threadsFollow s n) := by
  unfold threadsFollow
  exact .foldl .refl (fun _ _ => .last (reserveFree_keeps _ _ _ _) (.mono (unreserveFree_keeps _ _ _)))

theorem sliceSet_keeps (s : State) (n : Nat) (x : Slice) : Keeps [.slices] s (sliceSet s n x) := by
  unfold sliceSet
  exact .put rfl rfl rfl rfl rfl .refl

theorem sliceMake_keeps (s : State) (n : Nat) (x : Slice) : Keeps [.slices, .csc, .weir, .fresh] s (sliceMake s n x) := by
  unfold sliceMake
  refine .last (threadsFollow_keeps _ _) ?_
  exact .last (sliceSet_keeps _ _ _) (.last (leafClear_keeps _ _) (.mono (shapersReset_keeps _ _)))

theorem execSliceCreate_runs (ch seq : Nat) (s : State) :
    Runs [.fw, .slices, .mbx, .csc, .weir, .gauge, .regs, .fresh] s (execSliceCreate ch seq s) := by
  unfold execSliceCreate
  refine command_runs (fun _ => ?_)
  dsimp only
  split
  · exact .ite (.mono (answer_kept _ _ _ _ _)) (.mono (answer_kept _ _ _ _ _))
  · split
    · exact .mono (answer_kept _ _ _ _ _)
    · exact .ite (.mono (answer_kept _ _ _ _ _)) (.last (defer_keeps _ _ _) (.mono (sliceMake_keeps _ _ _)))

theorem execSliceModify_runs (ch seq : Nat) (s : State) :
    Runs [.fw, .slices, .mbx, .csc, .weir, .gauge, .regs, .fresh] s (execSliceModify ch seq s) := by
  unfold execSliceModify
  refine command_runs (fun _ => ?_)
  dsimp only
  split
  · exact .mono (answer_kept _ _ _ _ _)
  · refine .ite ?_ ?_
    · exact .mono (answer_kept _ _ _ _ _)
    · split
      · exact .mono (answer_kept _ _ _ _ _)
      · refine .ite ?_ ?_
        · exact .mono (answer_kept _ _ _ _ _)
        · refine .ite ?_ ?_
          · exact .mono (answer_kept _ _ _ _ _)
          · refine .ite ?_ ?_
            · refine .last (defer_keeps _ _ _) ?_
              exact .last (threadsFollow_keeps _ _) (.last (sliceSet_keeps _ _ _) (.mono (shapersReset_keeps _ _)))
            · refine .last (answer_kept _ _ _ _ _) ?_
              exact .last (threadsFollow_keeps _ _) (.last (sliceSet_keeps _ _ _) (.mono (shapersReset_keeps _ _)))

theorem dropQueued_keeps (s : State) (n : Nat) (x : Slice) : Keeps [.rings, .basin, .macs] s (dropQueued s n x) := by
  unfold dropQueued
  exact .foldl (.put rfl rfl rfl rfl rfl .refl) (fun _ _ => .mono (letGo_keeps _ _ _ _))

theorem dropItems_keeps (s : State) (n : Nat) :
    Keeps [.rings, .pkts, .basin, .plane, .rasp, .jig, .csc, .twin, .macs, .gauge, .regs] s (dropItems s n).1 :=
  .foldl_fst (fun _ _ h => .foldl h
    (fun _ _ => .last (passDrop_keeps _ _) (.last (bump_keeps _ _) (.mono (itemEnd_keeps _ _ _ _))))) .refl

theorem chanClear_keeps (s : State) (ch : Nat) : Keeps [.mbx, .regs, .out] s (chanClear s ch) := by
  unfold chanClear
  refine .last (noteCrossing_keeps _ _) (.last (chanMod_keeps fun c => ?_) (bumpHostGen_keeps _ _))
  exact .of_dirs (fun _ => rfl) (fun _ => rfl) (Nat.le_refl _)

theorem destroyBegin_keeps (s : State) (n : Nat) (x : Slice) :
    Keeps [.slices, .mbx, .ep0, .ep1, .rings, .pkts, .basin, .plane, .rasp, .jig, .cst, .sqr, .csc, .twin, .itw, .cry, .nvt, .macs,
      .weir, .gauge, .regs, .out] s
      (destroyBegin s n x) := by
  unfold destroyBegin
  extract_lets recs u v gone w sas ctxs _ _ y
  have cleared : Keeps [.slices, .mbx, .ep0, .ep1, .rings, .pkts, .basin, .plane, .rasp, .jig, .cst, .sqr, .csc, .twin, .itw, .cry, .nvt,
      .macs, .weir, .gauge, .regs, .out] s v :=
    .last (chanClear_keeps _ _) (.last (nextGeneration_keeps _ _ _ _) (.mono (sliceMod_keeps _ _ _)))
  have flushed : Keeps [.slices, .mbx, .ep0, .ep1, .rings, .pkts, .basin, .plane, .rasp, .jig, .cst, .sqr, .csc, .twin, .itw, .cry, .nvt,
      .macs, .weir, .gauge, .regs, .out] s w := .foldl cleared (fun _ _ => .mono (deleteAt_keeps _ _))
  clear_value w
  have dropped : Keeps [.slices, .mbx, .ep0, .ep1, .rings, .pkts, .basin, .plane, .rasp, .jig, .cst, .sqr, .csc, .twin, .itw, .cry, .nvt,
      .macs, .weir, .gauge, .regs, .out] s y := .put rfl rfl rfl rfl rfl flushed
  split
  next z items ended =>
    refine .last (sliceMod_keeps _ _ _) (.of_eq ended ?_)
    exact .last (dropItems_keeps _ _) (.last (dropQueued_keeps _ _ _) (.last (leafClear_keeps _ _) dropped))

theorem destroyEnd_keeps (s : State) (ch seq n : Nat) (x : Slice) :
    Keeps [.fw, .slices, .mbx, .basin, .csc, .weir, .gauge, .regs, .fresh] s (destroyEnd s ch seq n x) := by
  unfold destroyEnd
  refine .last (answer_kept _ _ _ _ _) ?_
  exact .last (threadsFollow_keeps _ _) (.put rfl rfl rfl rfl rfl (.mono (shapersReset_keeps _ _)))

theorem execSliceDestroy_runs (ch seq : Nat) (s : State) :
    Runs [.fw, .slices, .mbx, .ep0, .ep1, .rings, .pkts, .basin, .plane, .rasp, .jig, .cst, .sqr, .csc, .twin, .itw, .cry, .nvt, .macs,
      .weir, .gauge, .regs, .out, .fresh] s
      (execSliceDestroy ch seq s) := by
  have refused : ∀ code, Runs [.fw, .slices, .mbx, .ep0, .ep1, .rings, .pkts, .basin, .plane, .rasp, .jig, .cst, .sqr, .csc, .twin, .itw,
      .cry, .nvt, .macs, .weir, .gauge, .regs, .out, .fresh] s (.next (answer s ch seq code [])) := fun _ => .next (.mono (answer_kept _ _ _ _ _))
  unfold execSliceDestroy
  split
  · exact .next .refl
  · dsimp only
    split
    · exact refused _
    next x _ =>
      have begun : ∀ n, Keeps [.fw, .slices, .mbx, .ep0, .ep1, .rings, .pkts, .basin, .plane, .rasp, .jig, .cst, .sqr, .csc, .twin, .itw,
          .cry, .nvt, .macs, .weir, .gauge, .regs, .out, .fresh] s (destroyBegin (defer s ch seq) n x) := fun _ =>
        .last (destroyBegin_keeps _ _ _) (.mono (defer_keeps _ _ _))
      refine .ite (.ite (.next (.mono (destroyEnd_keeps _ _ _ _ _))) (.next .refl)) ?_
      refine .ite (refused _) (.ite (refused _) (.ite (refused _) (.ite (.next .refl) ?_)))
      split
      · exact .ite (.next (.last (destroyEnd_keeps _ _ _ _ _) (begun _))) (.next (begun _))
      · exact .next (begun _)

theorem execSliceQuery_runs (ch seq : Nat) (s : State) : Runs answerParts s (execSliceQuery ch seq s) := by
  unfold execSliceQuery
  refine command_runs (fun req => ?_)
  split
  · exact answer_kept _ _ _ _ _
  · dsimp only
    split
    · exact answer_kept _ _ _ _ _
    · exact answer_kept _ _ _ _ _

theorem execFuncQuery_runs (ch seq : Nat) (s : State) : Runs [.fw, .mbx, .gauge, .regs] s (execFuncQuery ch seq s) := by
  unfold execFuncQuery
  refine command_runs (fun _ => ?_)
  split
  · exact .mono (answer_kept _ _ _ _ _)
  · exact .mono (answer_kept _ _ _ _ _)

theorem execSliceList_runs (ch seq : Nat) (s : State) : Runs [.fw, .mbx, .gauge, .regs] s (execSliceList ch seq s) := by
  unfold execSliceList
  exact command_runs (fun _ => .ite (.mono (answer_kept _ _ _ _ _)) (.mono (answer_kept _ _ _ _ _)))

theorem execPoolQuery_runs (ch seq : Nat) (s : State) : Runs [.fw, .mbx, .gauge, .regs] s (execPoolQuery ch seq s) := by
  unfold execPoolQuery
  exact command_runs (fun _ => .mono (answer_kept _ _ _ _ _))

/-! Firmware: firmware. -/

theorem bankOpen_keeps (s : State) (kind bank size : Nat) : Keeps [.flash] s (bankOpen s kind bank size) := by
  unfold bankOpen
  exact .mono (bankSet_keeps _ _ _ _)

theorem bankClose_keeps (s : State) (kind bank : Nat) : Keeps [.flash] s (bankClose s kind bank) := by
  unfold bankClose
  exact .ite (.last (bankSet_keeps _ _ _ _) (.mono (bankSet_keeps _ _ _ _))) (.mono (bankSet_keeps _ _ _ _))

theorem withBank_keeps {ps : List Part} {s : State} {ch seq : Nat} {req : Bytes} {f : Nat → Nat → State}
    (h : ∀ kind bank, Keeps ps s (f kind bank)) (sub : answerParts ⊆ ps := by decide) : Keeps ps s (withBank s ch seq req f) :=
  have refused : ∀ code, Keeps ps s (answer s ch seq code []) := fun _ => (answer_kept _ _ _ _ _).mono sub
  .ite (refused _) (.ite (refused _) (h _ _))

theorem execFwImageBegin_runs (ch seq : Nat) (s : State) : Runs [.fw, .flash, .mbx, .gauge, .regs] s (execFwImageBegin ch seq s) := by
  unfold execFwImageBegin
  refine command_runs (fun _ => ?_)
  refine withBank_keeps (fun _ _ => ?_)
  refine .ite ?_ ?_
  · exact .mono (answer_kept _ _ _ _ _)
  · refine .ite ?_ ?_
    · exact .mono (answer_kept _ _ _ _ _)
    · exact .last (answer_kept _ _ _ _ _) (.mono (bankOpen_keeps _ _ _ _))

theorem execFwImageData_runs (ch seq : Nat) (s : State) : Runs [.fw, .flash, .mbx, .gauge, .regs] s (execFwImageData ch seq s) := by
  unfold execFwImageData
  refine command_runs (fun _ => ?_)
  refine withBank_keeps (fun _ _ => ?_)
  exact .ite (.mono (answer_kept _ _ _ _ _)) (.last (answer_kept _ _ _ _ _) (.mono (bankSet_keeps _ _ _ _)))

theorem execFwImageEnd_runs (ch seq : Nat) (s : State) : Runs [.fw, .flash, .mbx, .gauge, .regs] s (execFwImageEnd ch seq s) := by
  unfold execFwImageEnd
  refine command_runs (fun _ => ?_)
  refine withBank_keeps (fun _ _ => ?_)
  exact .ite (.mono (answer_kept _ _ _ _ _)) (.last (answer_kept _ _ _ _ _) (.mono (bankClose_keeps _ _ _)))

theorem execFwImageQuery_runs (ch seq : Nat) (s : State) : Runs [.fw, .mbx, .gauge, .regs] s (execFwImageQuery ch seq s) := by
  unfold execFwImageQuery
  exact command_runs (fun _ => .mono (answer_kept _ _ _ _ _))

theorem execFwImageErase_runs (ch seq : Nat) (s : State) : Runs [.fw, .flash, .mbx, .gauge, .regs] s (execFwImageErase ch seq s) := by
  unfold execFwImageErase
  refine command_runs (fun _ => ?_)
  exact withBank_keeps (fun _ _ => .last (answer_kept _ _ _ _ _) (.mono (bankSet_keeps _ _ _ _)))

theorem execFwManifestRead_runs (ch seq : Nat) (s : State) : Runs [.fw, .mbx, .gauge, .regs] s (execFwManifestRead ch seq s) := by
  unfold execFwManifestRead
  refine command_runs (fun _ => ?_)
  dsimp only
  split
  · exact .mono (answer_kept _ _ _ _ _)
  · exact .ite (.mono (answer_kept _ _ _ _ _)) (.mono (answer_kept _ _ _ _ _))

theorem manifestPut_opt (s : State) (m : Bytes) : OptKeeps [.flash] s (manifestPut s m) := by
  unfold manifestPut
  exact .ite (.some (.put rfl rfl rfl rfl rfl .refl)) .none

theorem execFwManifestWrite_runs (ch seq : Nat) (s : State) :
    Runs [.fw, .flash, .mbx, .gauge, .regs] s (execFwManifestWrite ch seq s) := by
  have held : ∀ m, Keeps [.fw, .flash, .mbx, .gauge, .regs] s { s with flash := { s.flash with manifestBuf := m } } := fun _ =>
    .put rfl rfl rfl rfl rfl .refl
  unfold execFwManifestWrite
  refine command_runs (fun req => .ite (.mono (answer_kept _ _ _ _ _)) (.ite ?_ (.last (answer_kept _ _ _ _ _) (held _))))
  dsimp only
  generalize (List.range 4096).map _ = image
  split
  next _ _ written => exact .last (answer_kept _ _ _ _ _) (.last (manifestPut_opt _ _ _ written) (held _))
  · exact .last (answer_kept _ _ _ _ _) (held _)

theorem execFwBootSelect_runs (ch seq : Nat) (s : State) : Runs [.hw, .fw, .mbx, .gauge, .regs] s (execFwBootSelect ch seq s) := by
  unfold execFwBootSelect
  refine command_runs (fun _ => ?_)
  refine .ite ?_ ?_
  · exact .mono (answer_kept _ _ _ _ _)
  · refine .ite ?_ ?_
    · exact .mono (answer_kept _ _ _ _ _)
    · exact .last (answer_kept _ _ _ _ _) (.mono (hwSetField_keeps _ _ _ _ _))

theorem execFwRestrictedReason_runs (ch seq : Nat) (s : State) :
    Runs [.fw, .mbx, .gauge, .regs] s (execFwRestrictedReason ch seq s) := by
  unfold execFwRestrictedReason
  exact command_runs (fun _ => .mono (answer_kept _ _ _ _ _))

theorem checkpoint_keeps (s : State) : Keeps [.fw] s (checkpoint s) := by
  unfold checkpoint
  exact .put rfl rfl rfl rfl rfl .refl

theorem serviceStop_keeps (s : State) : Keeps [.mbx, .regs] s (serviceStop s) := by
  unfold serviceStop
  exact .last (bumpFwGen_keeps _) (.put rfl rfl rfl rfl rfl .refl)

theorem handoverEnd_keeps (s : State) (h : Handover) (result : Nat) :
    Keeps [.dev, .hw, .fw, .mbx, .ep0, .ep1, .gauge, .regs] s (handoverEnd s h result) := by
  unfold handoverEnd
  refine .last (answer_kept _ _ _ _ _) ?_
  exact .last (noteMode_keeps _ _ _) (.last (eventToManager_keeps _ _ _) (.put rfl rfl rfl rfl rfl .refl))

theorem handoverFail_keeps (s : State) (h : Handover) :
    Keeps [.dev, .hw, .fw, .mbx, .ep0, .ep1, .gauge, .regs] s (handoverFail s h) := by
  unfold handoverFail
  refine .last (handoverEnd_keeps _ _ _) ?_
  exact .put rfl rfl rfl rfl rfl (.ite (.put rfl rfl rfl rfl rfl .refl) .refl)

theorem pairStop_keeps (s : State) (cause : Nat) : Keeps [.hw, .fw, .mbx, .regs] s (pairStop s cause) := by
  unfold pairStop
  refine .ite ?_ ?_
  · refine .last (bump_keeps _ _) ?_
    refine .put rfl rfl rfl rfl rfl ?_
    exact .put rfl rfl rfl rfl rfl (.last (serviceStop_keeps _) (.mono (setBits_keeps _ _ _)))
  · refine .last (bump_keeps _ _) ?_
    refine .put rfl rfl rfl rfl rfl ?_
    refine .last (hwSetField_keeps _ _ _ _ _) ?_
    exact .put rfl rfl rfl rfl rfl (.last (serviceStop_keeps _) (.mono (setBits_keeps _ _ _)))

theorem wellheadFail_keeps (s : State) (cause : Nat) :
    Keeps [.dev, .hw, .fw, .mbx, .ep0, .ep1, .gauge, .regs] s (wellheadFail s cause) := by
  unfold wellheadFail
  refine .ite ?_ ?_
  · exact .refl
  · split
    · refine .ite ?_ ?_
      · exact .last (pairStop_keeps _ _) (.mono (handoverFail_keeps _ _))
      · exact .ite (.mono (handoverFail_keeps _ _)) (.mono (pairStop_keeps _ _))
    · exact .mono (pairStop_keeps _ _)

theorem execLockstepMismatch_runs (s : State) : Runs [.dev, .hw, .fw, .mbx, .ep0, .ep1, .gauge, .regs] s (execLockstepMismatch s) := by
  unfold execLockstepMismatch
  exact .next (.mono (wellheadFail_keeps _ _))

theorem execWatchdogExpire_runs (s : State) : Runs [.dev, .hw, .fw, .mbx, .ep0, .ep1, .gauge, .regs] s (execWatchdogExpire s) := by
  unfold execWatchdogExpire
  exact .next (.mono (wellheadFail_keeps _ _))

theorem execWellheadResume_runs (s : State) : Runs [.hw, .fw, .mbx, .ep0, .ep1, .gauge, .regs] s (execWellheadResume s) := by
  unfold execWellheadResume
  split
  · exact .next .refl
  · refine .next ?_
    refine .last (eventToManager_keeps _ _ _) ?_
    exact .last (errlog_keeps _ _ _ _ _ _) (.put rfl rfl rfl rfl rfl .refl)

theorem execCheckpointTimer_runs (s : State) : Runs [.fw] s (execCheckpointTimer s) := by
  unfold execCheckpointTimer
  exact .ite (.next (.mono (checkpoint_keeps _))) (.next .refl)

theorem execSpareSelfTest_runs (pass : Bool) (s : State) :
    Runs [.dev, .hw, .fw, .mbx, .ep0, .ep1, .gauge, .regs] s (execSpareSelfTest pass s) := by
  unfold execSpareSelfTest
  refine .ite ?_ ?_
  · exact .next .refl
  · refine .ite ?_ ?_
    · exact .next (.put rfl rfl rfl rfl rfl .refl)
    · refine .next ?_
      refine .last (noteMode_keeps _ _ _) ?_
      refine .last (noteRetired_keeps _ _ _ _ _ _) ?_
      exact .last (hwSetField_keeps _ _ _ _ _) (.put rfl rfl rfl rfl rfl .refl)

theorem execWhCheckpoint_runs (ch seq : Nat) (s : State) : Runs [.fw, .mbx, .gauge, .regs] s (execWhCheckpoint ch seq s) := by
  unfold execWhCheckpoint
  exact command_runs (fun _ => .last (answer_kept _ _ _ _ _) (.mono (checkpoint_keeps _)))

theorem execWhPairStatus_runs (ch seq : Nat) (s : State) : Runs [.fw, .mbx, .gauge, .regs] s (execWhPairStatus ch seq s) := by
  unfold execWhPairStatus
  exact command_runs (fun _ => .mono (answer_kept _ _ _ _ _))

theorem handoverBegin_keeps (s : State) (w c : Option Nat) (raise : Bool) (ch seq : Nat) :
    Keeps [.dev, .hw, .fw, .mbx, .ep0, .ep1, .gauge, .regs] s (handoverBegin s w c raise ch seq) := by
  unfold handoverBegin
  exact .last (noteMode_keeps _ _ _) (.put rfl rfl rfl rfl rfl .refl)

theorem execFwHandoverStart_runs (ch seq : Nat) (s : State) :
    Runs [.dev, .hw, .fw, .mbx, .ep0, .ep1, .gauge, .regs] s (execFwHandoverStart ch seq s) := by
  unfold execFwHandoverStart
  refine command_runs (fun _ => ?_)
  refine .ite ?_ ?_
  · exact .mono (answer_kept _ _ _ _ _)
  · split
    · split
      · exact .mono (answer_kept _ _ _ _ _)
      · exact .last (handoverBegin_keeps _ _ _ _ _ _) (.mono (defer_keeps _ _ _))
    · exact .mono (answer_kept _ _ _ _ _)

theorem execFwHandoverStatus_runs (ch seq : Nat) (s : State) : Runs [.fw, .mbx, .gauge, .regs] s (execFwHandoverStatus ch seq s) := by
  unfold execFwHandoverStatus
  refine command_runs (fun _ => ?_)
  split
  · exact .mono (answer_kept _ _ _ _ _)
  · exact .mono (answer_kept _ _ _ _ _)

theorem execFwHandoverAbort_runs (ch seq : Nat) (s : State) :
    Runs [.dev, .hw, .fw, .mbx, .ep0, .ep1, .gauge, .regs] s (execFwHandoverAbort ch seq s) := by
  unfold execFwHandoverAbort
  refine command_runs (fun _ => ?_)
  split
  · refine .ite ?_ ?_
    · exact .last (answer_kept _ _ _ _ _) (.last (handoverEnd_keeps _ _ _) (.put rfl rfl rfl rfl rfl .refl))
    · exact .mono (answer_kept _ _ _ _ _)
  · exact .mono (answer_kept _ _ _ _ _)

theorem handoverSet_keeps (s : State) (h : Handover) : Keeps [.fw] s (handoverSet s h) := by
  unfold handoverSet
  exact .put rfl rfl rfl rfl rfl .refl

theorem execHandoverSpareLoaded_runs (s : State) : Runs [.fw] s (execHandoverSpareLoaded s) := by
  unfold execHandoverSpareLoaded
  split
  · exact .ite (.next (.mono (handoverSet_keeps _ _))) (.next .refl)
  · exact .next .refl

theorem execHandoverExport_runs (s : State) : Runs [.fw, .mbx, .regs] s (execHandoverExport s) := by
  unfold execHandoverExport
  split
  · refine .ite ?_ ?_
    · exact .next (.last (checkpoint_keeps _) (.last (serviceStop_keeps _) (.mono (handoverSet_keeps _ _))))
    · exact .next .refl
  · exact .next .refl

theorem execHandoverImportDone_runs (s : State) : Runs [.hw, .fw, .mbx] s (execHandoverImportDone s) := by
  unfold execHandoverImportDone
  split
  · refine .ite ?_ ?_
    · refine .next ?_
      exact .last (handoverSet_keeps _ _) (.put rfl rfl rfl rfl rfl (.mono (hwSetField_keeps _ _ _ _ _)))
    · exact .next .refl
  · exact .next .refl

theorem execHandoverOldPairLoaded_runs (s : State) : Runs [.fw] s (execHandoverOldPairLoaded s) := by
  unfold execHandoverOldPairLoaded
  exact .ite (.next (.put rfl rfl rfl rfl rfl .refl)) (.next .refl)

theorem execHandoverFailure_runs (s : State) : Runs [.dev, .hw, .fw, .mbx, .ep0, .ep1, .gauge, .regs] s (execHandoverFailure s) := by
  unfold execHandoverFailure
  split
  · exact .ite (.next (.mono (handoverFail_keeps _ _))) (.next .refl)
  · exact .next .refl

theorem clusterRenew_keeps (s : State) (q : Nat) : Keeps [.csc, .regs, .mem] s (clusterRenew s q) := by
  unfold clusterRenew
  refine .ite ?_ ?_
  · refine .last (thMod_keeps _ _ _ _) ?_
    refine .last (placeSupervisor_keeps _ _) ?_
    refine .last (clusterMod_keeps _ _ _) ?_
    refine .last (loadCluster_keeps _ _) ?_
    refine .last (bumpBy_keeps _ _ _) ?_
    exact .foldl .refl (fun _ _ => .ite .refl (.mono (abortThread_keeps _ _ _ _ _)))
  · refine .last (placeSupervisor_keeps _ _) ?_
    refine .last (clusterMod_keeps _ _ _) ?_
    refine .last (loadCluster_keeps _ _) ?_
    refine .last (bumpBy_keeps _ _ _) ?_
    exact .foldl .refl (fun _ _ => .ite .refl (.mono (abortThread_keeps _ _ _ _ _)))

theorem execClusterCodeSwitch_runs (s : State) : Runs [.fw, .csc, .regs, .mem] s (execClusterCodeSwitch s) := by
  unfold execClusterCodeSwitch
  split
  next h _ =>
    have renewed : ∀ k, Keeps [.fw, .csc, .regs, .mem] s
        (clusterRenew (clusterRenew (handoverSet s k) h.cluster) (4 + h.cluster)) := fun k =>
      .last (clusterRenew_keeps _ _) (.last (clusterRenew_keeps _ _) (.mono (handoverSet_keeps _ _)))
    refine .ite ?_ (.next .refl)
    extract_lets k u _
    have renewed : Keeps [.fw, .csc, .regs, .mem] s u := renewed _
    clear_value u
    exact .ite (.next (.last (handoverSet_keeps _ _) (.put rfl rfl rfl rfl rfl renewed))) (.next renewed)
  · exact .next .refl

/-! Itwin: the Itwin pair. -/

theorem requestRole_keeps (s : State) : Keeps [.dev, .hw, .mbx, .ep0, .ep1, .itw, .gauge, .regs, .out] s (requestRole s) := by
  unfold requestRole
  exact .ite (.last (setActReq_keeps _ _) (.put rfl rfl rfl rfl rfl .refl)) .refl

theorem rankConflict_keeps (s : State) : Keeps [.hw, .mbx, .ep0, .ep1, .gauge, .regs] s (rankConflict s) := by
  unfold rankConflict
  exact .last (eventToManager_keeps _ _ _) (.last (itwLog_keeps _ _) (.mono (setBits_keeps _ _ _)))

theorem itwLinkDown_keeps (s : State) : Keeps [.fw, .mbx, .jig, .itw, .gauge, .regs, .out, .fresh] s (itwLinkDown s) := by
  unfold itwLinkDown
  exact .ite (.last (mirrorNoReady_keeps _) (.put rfl rfl rfl rfl rfl .refl)) .refl

theorem partnerLost_keeps (s : State) (cause : Nat) :
    Keeps [.dev, .hw, .fw, .mbx, .ep0, .ep1, .jig, .itw, .gauge, .regs, .out, .fresh] s (partnerLost s cause) := by
  unfold partnerLost
  refine .ite ?_ ?_
  · exact .refl
  · refine .ite ?_ ?_
    · refine .last (eventToManager_keeps _ _ _) ?_
      exact .last (itwLinkDown_keeps _) (.last (setBits_keeps _ _ _) (.put rfl rfl rfl rfl rfl .refl))
    · refine .ite ?_ ?_
      · refine .last (eventToManager_keeps _ _ _) ?_
        refine .put rfl rfl rfl rfl rfl ?_
        refine .last (eventToManager_keeps _ _ _) ?_
        exact .last (itwLinkDown_keeps _) (.last (setBits_keeps _ _ _) (.put rfl rfl rfl rfl rfl .refl))
      · refine .last (requestRole_keeps _) ?_
        refine .last (eventToManager_keeps _ _ _) ?_
        exact .last (itwLinkDown_keeps _) (.last (setBits_keeps _ _ _) (.put rfl rfl rfl rfl rfl .refl))

theorem execAliveLowTimeout_runs (s : State) :
    Runs [.dev, .hw, .fw, .mbx, .ep0, .ep1, .jig, .itw, .gauge, .regs, .out, .fresh] s (execAliveLowTimeout s) := by
  unfold execAliveLowTimeout
  exact .ite (.next (.last (partnerLost_keeps _ _) (.put rfl rfl rfl rfl rfl .refl))) (.next .refl)

theorem execHeartbeatMissLimit_runs (s : State) :
    Runs [.dev, .hw, .fw, .mbx, .ep0, .ep1, .jig, .itw, .gauge, .regs, .out, .fresh] s (execHeartbeatMissLimit s) := by
  unfold execHeartbeatMissLimit
  exact .ite (.next (.last (partnerLost_keeps _ _) (.mono (bumpBy_keeps _ _ _)))) (.next .refl)

theorem execActInChange_runs (level short alive : Bool) (s : State) :
    Runs [.dev, .hw, .mbx, .ep0, .ep1, .itw, .gauge, .regs, .out] s (execActInChange level short alive s) := by
  unfold execActInChange
  extract_lets own itw a b c d e g h
  have seen : Keeps [.itw] s a := .put rfl rfl rfl rfl rfl .refl
  have traced : Keeps [.dev, .hw, .mbx, .ep0, .ep1, .itw, .gauge, .regs, .out] s b := .last (traceAct_keeps _) (.mono seen)
  have logged : Keeps [.dev, .hw, .mbx, .ep0, .ep1, .itw, .gauge, .regs, .out] s c := .ite (.last (itwLog_keeps _ _) traced) traced
  have withdrawn : Keeps [.dev, .hw, .mbx, .ep0, .ep1, .itw, .gauge, .regs, .out] s e := .last (setGrant_keeps _ _) (.put rfl rfl rfl rfl rfl logged)
  have collided : Keeps [.dev, .hw, .mbx, .ep0, .ep1, .itw, .gauge, .regs, .out] s (setActReq h false) :=
    .last (setActReq_keeps _ _) (.last (setBits_keeps _ _ _) (.last (bump_keeps _ _) (.put rfl rfl rfl rfl rfl withdrawn)))
  refine .ite (.ite (.next ?_) (.next withdrawn)) (.next ?_)
  · exact .ite (.last (rankConflict_keeps _) collided) collided
  · exact .last (traceAct_keeps _) (.put rfl rfl rfl rfl rfl (.mono seen))

theorem execGrantTimer_runs (s : State) : Runs [.dev, .hw, .mbx, .ep0, .ep1, .itw, .gauge, .regs] s (execGrantTimer s) := by
  unfold execGrantTimer
  exact .ite (.next (.mono (setGrant_keeps _ _))) (.next .refl)

theorem execActRequestTimer_runs (s : State) :
    Runs [.dev, .hw, .mbx, .ep0, .ep1, .itw, .gauge, .regs, .out] s (execActRequestTimer s) := by
  unfold execActRequestTimer
  exact .ite (.next (.mono (requestRole_keeps _))) (.next .refl)

theorem execPipelineStallDetect_runs (s : State) :
    Runs [.dev, .hw, .mbx, .ep0, .ep1, .itw, .gauge, .regs, .out] s (execPipelineStallDetect s) := by
  unfold execPipelineStallDetect
  exact .ite (.next (.last (itwLines_keeps _) (.put rfl rfl rfl rfl rfl .refl))) (.next .refl)

theorem execHeartbeatSend_runs (s : State) : Runs [.itw, .gauge, .regs, .out] s (execHeartbeatSend s) := by
  unfold execHeartbeatSend
  exact .ite (.next (.put rfl rfl rfl rfl rfl (.mono (itwSend_keeps _ _ _)))) (.next .refl)

theorem compareVersions_keeps (s : State) : Keeps [.mbx, .itw, .gauge, .regs] s (compareVersions s) := by
  unfold compareVersions
  refine .ite ?_ ?_
  · exact .put rfl rfl rfl rfl rfl .refl
  · refine .ite ?_ ?_
    · exact .last (eventToManager_keeps _ _ _) (.last (setBits_keeps _ _ _) (.put rfl rfl rfl rfl rfl .refl))
    · exact .put rfl rfl rfl rfl rfl .refl

theorem onHeartbeat_keeps (s : State) (p : Partner) :
    Keeps [.hw, .fw, .mbx, .ep0, .ep1, .jig, .itw, .gauge, .regs, .out, .fresh] s (onHeartbeat s p) := by
  unfold onHeartbeat
  refine .ite ?_ ?_
  · exact .refl
  · refine .ite ?_ ?_
    · refine .last (itwLinkDown_keeps _) ?_
      exact .last (emit_keeps _ _) (.last (itwLog_keeps _ _) (.put rfl rfl rfl rfl rfl .refl))
    · refine .ite ?_ ?_
      · refine .last (compareVersions_keeps _) ?_
        refine .ite ?_ ?_
        · refine .last (rankConflict_keeps _) ?_
          exact .ite (.last (itwLog_keeps _ _) (.put rfl rfl rfl rfl rfl .refl)) (.put rfl rfl rfl rfl rfl .refl)
        · exact .ite (.last (itwLog_keeps _ _) (.put rfl rfl rfl rfl rfl .refl)) (.put rfl rfl rfl rfl rfl .refl)
      · refine .ite ?_ ?_
        · refine .last (rankConflict_keeps _) ?_
          exact .ite (.last (itwLog_keeps _ _) (.put rfl rfl rfl rfl rfl .refl)) (.put rfl rfl rfl rfl rfl .refl)
        · exact .ite (.last (itwLog_keeps _ _) (.put rfl rfl rfl rfl rfl .refl)) (.put rfl rfl rfl rfl rfl .refl)

theorem execHeartbeat_runs (id : Dword) (rank mode act version : Nat) (digest : Word) (mirroring : Bool) (learned : Nat) (count : Word)
  (s : State) :
    Runs [.hw, .fw, .mbx, .ep0, .ep1, .jig, .itw, .gauge, .regs, .out, .fresh] s
      (execHeartbeat id rank mode act version digest mirroring learned count s) := by
  unfold execHeartbeat
  exact .next (.mono (onHeartbeat_keeps _ _))

theorem learnRx_keeps (s : State) : Keeps [.regs] s (learnRx s) := by
  unfold learnRx
  exact .mono (bump_keeps _ _)

theorem learnBad_keeps (s : State) (msg : Bytes) : Keeps [.hw, .mbx, .ep0, .ep1, .itw, .gauge, .regs] s (learnBad s msg) := by
  unfold learnBad
  refine .ite ?_ ?_
  · exact .last (errlog_keeps _ _ _ _ _ _) (.put rfl rfl rfl rfl rfl (.mono (itwBad_keeps _)))
  · exact .mono (itwBad_keeps _)

theorem onLearnReq_keeps (s : State) (b : Bytes) : Keeps [.cst, .regs, .fresh] s (onLearnReq s b) := by
  unfold onLearnReq
  refine .ite ?_ ?_
  · exact .last (scribePush_keeps _ _) (.last (learnRx_keeps _) (.mono (drawn_keeps _)))
  · exact .mono (itwBad_keeps _)

theorem applyStated_keeps (s : State) (b : Bytes) : Keeps [.mbx, .cst, .sqr, .gauge, .regs, .fresh] s (applyStated s b) := by
  unfold applyStated
  dsimp only
  split
  · refine .ite ?_ ?_
    · exact .mono (bump_keeps _ _)
    · exact .put rfl rfl rfl rfl rfl (.last (markDirty_keeps _ _) (.mono (waySet_keeps _ _ _)))
  · split
    · exact .put rfl rfl rfl rfl rfl (.last (.of_eq ‹_› (insertNew_keeps _ _)) (.mono (drawn_keeps _)))
    · exact .last (.of_eq ‹_› (insertNew_keeps _ _)) (.mono (drawn_keeps _))

theorem onLearnApply_keeps (s : State) (b : Bytes) :
    Keeps [.hw, .mbx, .ep0, .ep1, .cst, .sqr, .itw, .gauge, .regs, .fresh] s (onLearnApply s b) := by
  unfold onLearnApply
  refine .ite ?_ ?_
  · exact .mono (learnBad_keeps _ _)
  · exact .put rfl rfl rfl rfl rfl (.last (learnRx_keeps _) (.mono (applyStated_keeps _ _)))

theorem onLearnDelete_keeps (s : State) (b : Bytes) :
    Keeps [.hw, .mbx, .ep0, .ep1, .cst, .sqr, .itw, .gauge, .regs, .out] s (onLearnDelete s b) := by
  unfold onLearnDelete
  refine .ite ?_ ?_
  · exact .mono (learnBad_keeps _ _)
  · split
    · exact .ite (.last (learnRx_keeps _) (.mono (deleteAt_keeps _ _))) (.mono (learnRx_keeps _))
    · exact .mono (learnRx_keeps _)

theorem onLearnRefresh_keeps (s : State) (b : Bytes) : Keeps [.cst, .regs] s (onLearnRefresh s b) := by
  unfold onLearnRefresh
  refine .ite ?_ ?_
  · split
    · exact .last (learnRx_keeps _) (.mono (waySet_keeps _ _ _))
    · exact .mono (learnRx_keeps _)
  · exact .mono (itwBad_keeps _)

theorem resyncEnd_keeps (s : State) (named : List Bytes) : Keeps [.cst, .sqr, .itw, .gauge, .regs, .out] s (resyncEnd s named) := by
  unfold resyncEnd
  exact .foldl .refl (fun _ _ => .mono (deleteAt_keeps _ _))

theorem onResyncMark_keeps (s : State) (phase : Nat) (msg : Bytes) :
    Keeps [.hw, .mbx, .ep0, .ep1, .cst, .sqr, .itw, .gauge, .regs, .out] s (onResyncMark s phase msg) := by
  unfold onResyncMark
  refine .ite ?_ ?_
  · exact .mono (learnBad_keeps _ _)
  · refine .ite ?_ ?_
    · exact .put rfl rfl rfl rfl rfl .refl
    · split
      · exact .last (resyncEnd_keeps _ _) (.put rfl rfl rfl rfl rfl .refl)
      · exact .refl

theorem onActorRelease_keeps (s : State) : Keeps [.dev, .hw, .mbx, .ep0, .ep1, .itw, .gauge, .regs, .out] s (onActorRelease s) := by
  unfold onActorRelease
  exact .last (requestRole_keeps _) (.put rfl rfl rfl rfl rfl .refl)

theorem overLink_runs {ps : List Part} {s : State} {f : State → State} (h : ∀ u, Keeps ps u (f u)) : Runs ps s (overLink s f) :=
  .next (.ite (h s) .refl)

theorem execLearnReq_runs (key : Bytes) (dest : Word) (stamp : Dword) (src prof : Nat) (s : State) :
    Runs [.cst, .regs, .fresh] s (execLearnReq key dest stamp src prof s) := by
  unfold execLearnReq
  exact overLink_runs (fun _ => .mono (onLearnReq_keeps _ _))

theorem execLearnApply_runs (body : Bytes) (s : State) :
    Runs [.hw, .mbx, .ep0, .ep1, .cst, .sqr, .itw, .gauge, .regs, .fresh] s (execLearnApply body s) := by
  unfold execLearnApply
  exact overLink_runs (fun _ => .mono (onLearnApply_keeps _ _))

theorem execLearnDelete_runs (key : Bytes) (s : State) :
    Runs [.hw, .mbx, .ep0, .ep1, .cst, .sqr, .itw, .gauge, .regs, .out] s (execLearnDelete key s) := by
  unfold execLearnDelete
  exact overLink_runs (fun _ => .mono (onLearnDelete_keeps _ _))

theorem execLearnRefresh_runs (key : Bytes) (s : State) : Runs [.cst, .regs] s (execLearnRefresh key s) := by
  unfold execLearnRefresh
  exact overLink_runs (fun _ => .mono (onLearnRefresh_keeps _ _))

theorem execResyncMark_runs (phase count : Nat) (s : State) :
    Runs [.hw, .mbx, .ep0, .ep1, .cst, .sqr, .itw, .gauge, .regs, .out] s (execResyncMark phase count s) := by
  unfold execResyncMark
  exact overLink_runs (fun _ => .mono (onResyncMark_keeps _ _ _))

theorem execActorRelease_runs (s : State) : Runs [.dev, .hw, .mbx, .ep0, .ep1, .itw, .gauge, .regs, .out] s (execActorRelease s) := by
  unfold execActorRelease
  exact overLink_runs (fun _ => .mono (onActorRelease_keeps _))

theorem resyncBegin_keeps (s : State) (cmd : Option (Nat × Nat)) : Keeps [.itw, .gauge, .regs, .out] s (resyncBegin s cmd) := by
  unfold resyncBegin
  exact .put rfl rfl rfl rfl rfl (.mono (itwSend_keeps _ _ _))

theorem execItwLinkUp_runs (version : Nat) (digest : Word) (mirroring : Bool) (s : State) :
    Runs [.mbx, .jig, .itw, .gauge, .regs, .out] s (execItwLinkUp version digest mirroring s) := by
  unfold execItwLinkUp
  refine .ite ?_ ?_
  · refine .next ?_
    refine .last (compareVersions_keeps _) ?_
    refine .ite ?_ ?_
    · refine .last (resyncBegin_keeps _ _) ?_
      split
      · exact .ite (.last (itwSend_keeps _ _ _) (.put rfl rfl rfl rfl rfl .refl)) (.put rfl rfl rfl rfl rfl .refl)
      · exact .put rfl rfl rfl rfl rfl .refl
    · split
      · exact .ite (.last (itwSend_keeps _ _ _) (.put rfl rfl rfl rfl rfl .refl)) (.put rfl rfl rfl rfl rfl .refl)
      · exact .put rfl rfl rfl rfl rfl .refl
  · exact .next .refl

theorem execItwResyncComplete_runs (s : State) : Runs [.fw, .mbx, .itw, .gauge, .regs, .out] s (execItwResyncComplete s) := by
  unfold execItwResyncComplete
  split
  · exact .next .refl
  · refine .ite ?_ ?_
    · refine .next ?_
      split
      · refine .last (answer_kept _ _ _ _ _) ?_
        refine .put rfl rfl rfl rfl rfl ?_
        exact .last (itwSend_keeps _ _ _) (.last (bumpBy_keeps _ _ _) (.mono (itwSendAll_keeps _ _ _)))
      · refine .put rfl rfl rfl rfl rfl ?_
        exact .last (itwSend_keeps _ _ _) (.last (bumpBy_keeps _ _ _) (.mono (itwSendAll_keeps _ _ _)))
    · exact .next .refl

theorem onItwMessage_keeps (s : State) (type : Nat) (b : Bytes) :
    Keeps [.dev, .hw, .fw, .mbx, .ep0, .ep1, .jig, .cst, .sqr, .itw, .gauge, .regs, .out, .fresh] s (onItwMessage s type b) := by
  unfold onItwMessage
  split
  · exact .mono (onHeartbeat_keeps _ _)
  · exact .mono (onLearnReq_keeps _ _)
  · exact .mono (onLearnApply_keeps _ _)
  · exact .mono (onLearnDelete_keeps _ _)
  · exact .mono (onLearnRefresh_keeps _ _)
  · exact .mono (onResyncMark_keeps _ _ _)
  · exact .mono (onActorRelease_keeps _)
  · exact .mono (onPrepare_keeps _ _ _)
  · exact .mono (onJigData_keeps _ _)
  · exact .mono (onJigReady_keeps _ _)
  · exact .mono (onJigGo_keeps _)
  · exact .mono (onJigAck_keeps _)
  · exact .refl

theorem onItwMessages_keeps (n : Nat) (s : State) (b : Bytes) :
    Keeps [.dev, .hw, .fw, .mbx, .ep0, .ep1, .jig, .cst, .sqr, .itw, .gauge, .regs, .out, .fresh] s (onItwMessages n s b) := by
  induction n generalizing s b with
  | zero => exact .refl
  | succ n ih =>
    have bad : ∀ u, Keeps [.dev, .hw, .fw, .mbx, .ep0, .ep1, .jig, .cst, .sqr, .itw, .gauge, .regs, .out, .fresh] u
        (errlog (itwBad u) 0x0161 13 0xFFFF 0 (fit b 8)) := fun u => .last (errlog_keeps _ _ _ _ _ _) (.mono (itwBad_keeps u))
    unfold onItwMessages
    dsimp only
    split
    · exact .refl
    · split
      · exact bad s
      · have one : Keeps [.dev, .hw, .fw, .mbx, .ep0, .ep1, .jig, .cst, .sqr, .itw, .gauge, .regs, .out, .fresh] s
            (if itwLenOk (byteAt b 0) (byteAt b 1) then
              onItwMessage (trace s 37 2 0 0xFFF 0 (toLe 1 (byteAt b 0) ++ toLe 1 (byteAt b 1))) (byteAt b 0) (slice b 4 (8 * byteAt b 1 - 4))
            else errlog (itwBad (trace s 37 2 0 0xFFF 0 (toLe 1 (byteAt b 0) ++ toLe 1 (byteAt b 1)))) 0x0161 13 0xFFFF 0 (fit b 8)) :=
          .ite (.last (onItwMessage_keeps _ _ _) (.mono (trace_keeps _ _ _ _ _ _ _))) (.last (bad _) (.mono (trace_keeps _ _ _ _ _ _ _)))
        exact .ite (.last (ih _ _) one) one

theorem flitBad_keeps (s : State) : Keeps [.hw, .mbx, .ep0, .ep1, .itw, .gauge, .regs, .out] s (flitBad s) := by
  unfold flitBad
  refine .ite ?_ ?_
  · refine .last (errlog_keeps _ _ _ _ _ _) ?_
    exact .put rfl rfl rfl rfl rfl (.last (emit_keeps _ _) (.mono (bump_keeps _ _)))
  · exact .put rfl rfl rfl rfl rfl (.last (emit_keeps _ _) (.mono (bump_keeps _ _)))

theorem flitNak_keeps (s : State) (ack : BitVec 16) :
    Keeps [.hw, .fw, .mbx, .ep0, .ep1, .jig, .itw, .gauge, .regs, .out, .fresh] s (flitNak s ack) := by
  unfold flitNak
  refine .ite ?_ ?_
  · exact .refl
  · split
    · exact .last (emit_keeps _ _) (.mono (bumpBy_keeps _ _ _))
    · exact .last (itwLinkDown_keeps _) (.last (emit_keeps _ _) (.mono (itwLog_keeps _ _)))

theorem execFlitRx_runs (seq ack : BitVec 16) (nak crcGood : Bool) (body : Bytes) (s : State) :
    Runs [.dev, .hw, .fw, .mbx, .ep0, .ep1, .jig, .cst, .sqr, .itw, .gauge, .regs, .out, .fresh] s
      (execFlitRx seq ack nak crcGood body s) := by
  unfold execFlitRx
  refine .ite ?_ ?_
  · exact .next .refl
  · refine .ite ?_ ?_
    · exact .next (.mono (flitBad_keeps _))
    · refine .ite ?_ ?_
      · exact .next (.ite (.mono (flitNak_keeps _ _)) .refl)
      · refine .ite ?_ ?_
        · refine .next ?_
          refine .last (onItwMessages_keeps _ _ _) ?_
          exact .put rfl rfl rfl rfl rfl (.ite (.mono (flitNak_keeps _ _)) .refl)
        · refine .ite ?_ ?_
          · exact .next (.last (emit_keeps _ _) (.ite (.mono (flitNak_keeps _ _)) .refl))
          · exact .next (.ite (.mono (flitNak_keeps _ _)) .refl)

theorem execItwConfig_runs (ch seq : Nat) (s : State) : Runs [.hw, .fw, .mbx, .gauge, .regs] s (execItwConfig ch seq s) := by
  unfold execItwConfig
  refine command_runs (fun _ => ?_)
  exact .ite (.mono (answer_kept _ _ _ _ _)) (.last (answer_kept _ _ _ _ _) (.mono (hwJournal_keeps _ _ _)))

theorem execItwStatus_runs (ch seq : Nat) (s : State) : Runs [.fw, .mbx, .gauge, .regs, .fresh] s (execItwStatus ch seq s) := by
  unfold execItwStatus
  exact command_runs (fun _ => .last (answer_kept _ _ _ _ _) (.mono (drawn_keeps _)))

theorem execItwActorRelease_runs (ch seq : Nat) (s : State) :
    Runs [.dev, .hw, .fw, .mbx, .ep0, .ep1, .itw, .gauge, .regs, .out] s (execItwActorRelease ch seq s) := by
  unfold execItwActorRelease
  refine command_runs (fun _ => ?_)
  refine .ite ?_ ?_
  · exact .last (answer_kept _ _ _ _ _) (.last (itwSend_keeps _ _ _) (.mono (setActReq_keeps _ _)))
  · exact .mono (answer_kept _ _ _ _ _)

theorem execItwResync_runs (ch seq : Nat) (s : State) : Runs [.fw, .mbx, .itw, .gauge, .regs, .out] s (execItwResync ch seq s) := by
  unfold execItwResync
  refine command_runs (fun _ => ?_)
  refine .ite ?_ ?_
  · exact .mono (answer_kept _ _ _ _ _)
  · split
    · exact .mono (answer_kept _ _ _ _ _)
    · exact .last (defer_keeps _ _ _) (.mono (resyncBegin_keeps _ _))

/-! Timebase: the timebase. -/

theorem execTimebaseTick_runs (s : State) : Runs [.time] s (execTimebaseTick s) := by
  unfold execTimebaseTick
  exact .ite (.next (.put rfl rfl rfl rfl rfl .refl)) (.next .refl)

theorem execOscLoss_runs (s : State) : Runs [.dev, .mbx, .time, .gauge, .regs] s (execOscLoss s) := by
  unfold execOscLoss
  exact .ite (.next (.last (eventToManager_keeps _ _ _) (.put rfl rfl rfl rfl rfl .refl))) (.next .refl)

theorem execOscReturn_runs (s : State) : Runs [.dev, .time] s (execOscReturn s) := by
  unfold execOscReturn
  exact .ite (.next (.put rfl rfl rfl rfl rfl .refl)) (.next .refl)

theorem ethLinksDown_keeps (s : State) : Keeps [.mbx, .ep0, .ep1, .macs, .gauge, .regs] s (ethLinksDown s) := by
  unfold ethLinksDown
  exact .foldl .refl (fun _ _ => .ite (.mono (linkChange_keeps _ _ _ _)) .refl)

theorem tioSet_keeps (s : State) (c : Nat) (x : TioChan) : Keeps [.tio] s (tioSet s c x) := by
  unfold tioSet
  exact .put rfl rfl rfl rfl rfl .refl

theorem tioDrive_keeps (s : State) (c : Nat) (level : Bool) : Keeps [.tio, .out] s (tioDrive s c level) := by
  unfold tioDrive
  exact .ite .refl (.last (emit_keeps _ _) (.mono (tioSet_keeps _ _ _)))

theorem tioFire_keeps (s : State) (c : Nat) : Keeps [.tio, .out] s (tioFire s c) := by
  unfold tioFire
  exact .last (tioDrive_keeps _ _ _) (.mono (tioSet_keeps _ _ _))

theorem tioLate_keeps (s : State) (c : Nat) : Keeps [.mbx, .tio, .gauge, .regs, .out] s (tioLate s c) := by
  unfold tioLate
  exact .last (eventToManager_keeps _ _ _) (.last (setBits_keeps _ _ _) (.mono (tioFire_keeps _ _)))

theorem tioStep_keeps (s : State) (c : Nat) : Keeps [.mbx, .tio, .gauge, .regs, .out] s (tioStep s c) := by
  unfold tioStep
  exact .ite (.ite (.mono (tioLate_keeps _ _)) .refl) (.ite (.mono (tioDrive_keeps _ _ _)) .refl)

theorem tioCommit_keeps (s : State) (c : Nat) : Keeps [.mbx, .tio, .gauge, .regs, .out] s (tioCommit s c) := by
  unfold tioCommit
  refine .ite ?_ ?_
  · refine .ite ?_ ?_
    · exact .last (tioLate_keeps _ _) (.last (tioDrive_keeps _ _ _) (.mono (tioSet_keeps _ _ _)))
    · exact .last (tioDrive_keeps _ _ _) (.mono (tioSet_keeps _ _ _))
  · exact .last (tioDrive_keeps _ _ _) (.mono (tioSet_keeps _ _ _))

theorem execTioArm_runs (c : Nat) (s : State) : Runs [.mbx, .tio, .gauge, .regs, .out] s (execTioArm c s) := by
  unfold execTioArm
  exact .ite (.next (.mono (tioCommit_keeps _ _))) (.next .refl)

theorem execTioOutputEdge_runs (c : Nat) (s : State) : Runs [.tio, .out] s (execTioOutputEdge c s) := by
  unfold execTioOutputEdge
  refine .ite ?_ ?_
  · refine .ite ?_ ?_
    · exact .next (.ite (.mono (tioFire_keeps _ _)) .refl)
    · refine .ite ?_ ?_
      · refine .next ?_
        exact .ite (.last (tioSet_keeps _ _ _) (.mono (tioDrive_keeps _ _ _))) (.mono (tioDrive_keeps _ _ _))
      · exact .next .refl
  · exact .ite (.next (.mono (tioDrive_keeps _ _ _))) (.next .refl)

theorem plbOffer_keeps (s : State) (source : Nat) (tms d : Int) : Keeps [.plb, .regs] s (plbOffer s source tms d) := by
  unfold plbOffer
  exact .ite .refl (.ite (.mono (bump_keeps _ _)) (.put rfl rfl rfl rfl rfl .refl))

theorem execTioEdgeCapture_runs (c : Nat) (falling : Bool) (s : State) :
    Runs [.tio, .plb, .regs] s (execTioEdgeCapture c falling s) := by
  unfold execTioEdgeCapture
  refine .ite ?_ ?_
  · refine .ite ?_ ?_
    · exact .next (.mono (bump_keeps _ _))
    · refine .next ?_
      exact .ite (.last (plbOffer_keeps _ _ _ _) (.mono (tioSet_keeps _ _ _))) (.mono (tioSet_keeps _ _ _))
  · exact .next .refl

theorem capPop_keeps (s : State) (c : Nat) : Keeps [.tio] s (capPop s c) := by
  unfold capPop
  exact .mono (tioSet_keeps _ _ _)

theorem execTioCapPop_runs (master c : Nat) (s : State) : Runs [.tio, .out] s (execTioCapPop master c s) := by
  unfold execTioCapPop
  exact .ite (.next .refl) (.next (.last (emit_keeps _ _) (.mono (capPop_keeps _ _))))

theorem stampPop_keeps (s : State) (m : Nat) : Keeps [.macs] s (stampPop s m) := by
  unfold stampPop
  exact .mono (macSet_keeps _ _ _)

theorem execTimeTxqPop_runs (master m : Nat) (s : State) : Runs [.macs, .out] s (execTimeTxqPop master m s) := by
  unfold execTimeTxqPop
  exact .ite (.next .refl) (.next (.last (emit_keeps _ _) (.mono (stampPop_keeps _ _))))

theorem stepTime_keeps (s : State) (cause : Nat) (t : TimeVal) :
    Keeps [.mbx, .cst, .macs, .time, .tio, .gauge, .regs, .out] s (stepTime s cause t) := by
  unfold stepTime
  refine .last (eventToManager_keeps _ _ _) ?_
  refine .last (trace_keeps _ _ _ _ _ _ _) ?_
  refine .foldl ?_ (fun _ _ => ?_)
  · exact .last (sluiceStep_keeps _) (.last (cisternStep_keeps _) (.put rfl rfl rfl rfl rfl .refl))
  · exact .mono (tioStep_keeps _ _)

theorem execTimeStep_runs (s : State) : Runs [.fw, .mbx, .cst, .macs, .time, .tio, .gauge, .regs, .out] s (execTimeStep s) := by
  have answered : ∀ {u : State} (cmd : Option (Nat × Nat)) (code : Nat) (b : Bytes), Keeps [.fw, .mbx, .cst, .macs, .time, .tio, .gauge, .regs, .out] s u →
      Keeps [.fw, .mbx, .cst, .macs, .time, .tio, .gauge, .regs, .out] s (match cmd with
        | some (ch, seq) => answer u ch seq code b
        | none => u) := by
    intro u cmd code b hu
    cases cmd with
    | none => exact hu
    | some p => exact .last (answer_kept _ _ _ _ _) hu
  unfold execTimeStep
  split
  · exact .next .refl
  next r rest _ =>
    have taken : Keeps [.fw, .mbx, .cst, .macs, .time, .tio, .gauge, .regs, .out] s { s with time := { s.time with steps := rest } } :=
      .put rfl rfl rfl rfl rfl .refl
    dsimp only
    split
    · exact .next (answered _ _ _ (.last (stepTime_keeps _ _ _) taken))
    · exact .next (answered _ _ _ taken)

theorem askStep_keeps (s : State) (r : StepReq) : Keeps [.time] s (askStep s r) := by
  unfold askStep
  exact .put rfl rfl rfl rfl rfl .refl

theorem execTimeGet_runs (ch seq : Nat) (s : State) : Runs [.fw, .mbx, .gauge, .regs] s (execTimeGet ch seq s) := by
  unfold execTimeGet
  exact command_runs (fun _ => .mono (answer_kept _ _ _ _ _))

theorem execTimeSet_runs (ch seq : Nat) (s : State) : Runs [.fw, .mbx, .time, .gauge, .regs] s (execTimeSet ch seq s) := by
  unfold execTimeSet
  refine command_runs (fun _ => ?_)
  refine .ite ?_ ?_
  · exact .mono (answer_kept _ _ _ _ _)
  · exact .ite (.mono (answer_kept _ _ _ _ _)) (.last (askStep_keeps _ _) (.mono (defer_keeps _ _ _)))

theorem execTimeOffset_runs (ch seq : Nat) (s : State) : Runs [.fw, .mbx, .time, .gauge, .regs] s (execTimeOffset ch seq s) := by
  unfold execTimeOffset
  refine command_runs (fun _ => ?_)
  exact .ite (.mono (answer_kept _ _ _ _ _)) (.last (askStep_keeps _ _) (.mono (defer_keeps _ _ _)))

theorem setAdj_keeps (s : State) (x : Int) : Keeps [.time, .regs] s (setAdj s x) := by
  unfold setAdj
  exact .put rfl rfl rfl rfl rfl .refl

theorem execTimeFreqSet_runs (ch seq : Nat) (s : State) : Runs [.fw, .mbx, .time, .gauge, .regs] s (execTimeFreqSet ch seq s) := by
  unfold execTimeFreqSet
  refine command_runs (fun _ => ?_)
  refine .ite ?_ ?_
  · exact .mono (answer_kept _ _ _ _ _)
  · exact .ite (.last (answer_kept _ _ _ _ _) (.mono (setAdj_keeps _ _))) (.mono (answer_kept _ _ _ _ _))

theorem hwSetPair_keeps (s : State) (w v : Nat) : Keeps [.hw] s (hwSetPair s w v) := by
  unfold hwSetPair
  exact .mono (hwJournal_keeps _ _ _)

theorem execTimeTrimSet_runs (ch seq : Nat) (s : State) : Runs [.hw, .fw, .mbx, .gauge, .regs] s (execTimeTrimSet ch seq s) := by
  unfold execTimeTrimSet
  refine command_runs (fun _ => ?_)
  exact .ite (.last (answer_kept _ _ _ _ _) (.mono (hwSetPair_keeps _ _ _))) (.mono (answer_kept _ _ _ _ _))

theorem execTimeLatSet_runs (ch seq : Nat) (s : State) : Runs [.hw, .fw, .mbx, .gauge, .regs] s (execTimeLatSet ch seq s) := by
  unfold execTimeLatSet
  refine command_runs (fun _ => ?_)
  split
  · exact .last (answer_kept _ _ _ _ _) (.mono (hwSet_keeps _ _ _))
  · exact .mono (answer_kept _ _ _ _ _)

theorem execTioConfig_runs (ch seq : Nat) (s : State) : Runs [.fw, .mbx, .tio, .gauge, .regs, .out] s (execTioConfig ch seq s) := by
  unfold execTioConfig
  refine command_runs (fun _ => ?_)
  refine .ite ?_ ?_
  · exact .mono (answer_kept _ _ _ _ _)
  · refine .last (answer_kept _ _ _ _ _) ?_
    refine .ite ?_ ?_
    · refine .last (tioCommit_keeps _ _) ?_
      refine .last (setReg_keeps _ _ _) ?_
      refine .last (setReg_keeps _ _ _) ?_
      refine .last (setReg_keeps _ _ _) ?_
      refine .last (setReg_keeps _ _ _) ?_
      refine .last (setReg_keeps _ _ _) ?_
      exact .last (setReg_keeps _ _ _) (.last (setReg_keeps _ _ _) (.mono (setReg_keeps _ _ _)))
    · refine .last (setReg_keeps _ _ _) ?_
      refine .last (setReg_keeps _ _ _) ?_
      refine .last (setReg_keeps _ _ _) ?_
      refine .last (setReg_keeps _ _ _) ?_
      refine .last (setReg_keeps _ _ _) ?_
      exact .last (setReg_keeps _ _ _) (.last (setReg_keeps _ _ _) (.mono (setReg_keeps _ _ _)))

theorem execTioCaptureRead_runs (ch seq : Nat) (s : State) : Runs [.fw, .mbx, .tio, .gauge, .regs] s (execTioCaptureRead ch seq s) := by
  unfold execTioCaptureRead
  refine command_runs (fun _ => ?_)
  exact .ite (.mono (answer_kept _ _ _ _ _)) (.last (answer_kept _ _ _ _ _) (.mono (tioSet_keeps _ _ _)))

/-! Plumb: Plumb. -/

theorem plbMod_keeps (s : State) (f : Plumb → Plumb) : Keeps [.plb] s (plbMod s f) := by
  unfold plbMod
  exact .put rfl rfl rfl rfl rfl .refl

theorem plbTo_keeps (s : State) (x : PlbState) : Keeps [.mbx, .plb, .gauge, .regs] s (plbTo s x) := by
  unfold plbTo
  exact .ite .refl (.last (eventToManager_keeps _ _ _) (.mono (plbMod_keeps _ _)))

theorem acquisitionStep_keeps (s : State) (theta : Int) : Keeps [.time, .plb, .regs] s (acquisitionStep s theta) := by
  unfold acquisitionStep
  exact .last (askStep_keeps _ _) (.last (setBits_keeps _ _ _) (.mono (plbMod_keeps _ _)))

theorem refuseJump_keeps (s : State) (theta : Int) : Keeps [.mbx, .plb, .gauge, .regs] s (refuseJump s theta) := by
  unfold refuseJump
  refine .ite ?_ ?_
  · refine .last (eventToManager_keeps _ _ _) ?_
    refine .last (plbMod_keeps _ _) ?_
    exact .last (plbMod_keeps _ _) (.last (bump_keeps _ _) (.mono (setBits_keeps _ _ _)))
  · exact .last (plbMod_keeps _ _) (.last (bump_keeps _ _) (.mono (setBits_keeps _ _ _)))

theorem plbAccepted_keeps (s : State) (theta : Int) : Keeps [.mbx, .plb, .gauge, .regs] s (plbAccepted s theta) := by
  unfold plbAccepted
  refine .ite ?_ ?_
  · exact .last (plbTo_keeps _ _) (.mono (plbMod_keeps _ _))
  · exact .ite (.last (plbTo_keeps _ _) (.mono (plbMod_keeps _ _))) (.mono (plbMod_keeps _ _))

theorem servo_keeps (s : State) (theta : Int) : Keeps [.mbx, .time, .plb, .gauge, .regs] s (servo s theta) := by
  unfold servo
  refine .ite ?_ ?_
  · exact .mono (acquisitionStep_keeps _ _)
  · refine .ite ?_ ?_
    · exact .mono (refuseJump_keeps _ _)
    · refine .last (plbAccepted_keeps _ _) ?_
      refine .last (trace_keeps _ _ _ _ _ _ _) ?_
      exact .last (bump_keeps _ _) (.put rfl rfl rfl rfl rfl (.ite (.mono (setBits_keeps _ _ _)) .refl))

theorem plbConfirm_keeps (s : State) (tms : Int) : Keeps [.mbx, .time, .plb, .gauge, .regs] s (plbConfirm s tms) := by
  unfold plbConfirm
  refine .last (servo_keeps _ _) ?_
  refine .last (eventToManager_keeps _ _ _) ?_
  exact .last (setBits_keeps _ _ _) (.last (plbTo_keeps _ _) (.mono (plbMod_keeps _ _)))

theorem plbFiltered_keeps (s : State) (tms d df : Int) : Keeps [.mbx, .time, .plb, .gauge, .regs] s (plbFiltered s tms d df) := by
  unfold plbFiltered
  refine .ite ?_ ?_
  · exact .last (bump_keeps _ _) (.last (plbTo_keeps _ _) (.mono (plbMod_keeps _ _)))
  · exact .last (servo_keeps _ _) (.mono (plbMod_keeps _ _))

theorem plbCandidate_keeps (s : State) (tms d df : Int) : Keeps [.mbx, .time, .plb, .gauge, .regs] s (plbCandidate s tms d df) := by
  unfold plbCandidate
  refine .ite ?_ ?_
  · refine .ite ?_ ?_
    · exact .last (plbConfirm_keeps _ _) (.last (bump_keeps _ _) (.mono (plbMod_keeps _ _)))
    · exact .last (bump_keeps _ _) (.mono (plbMod_keeps _ _))
  · refine .ite ?_ ?_
    · exact .last (plbFiltered_keeps _ _ _ _) (.last (bump_keeps _ _) (.mono (plbTo_keeps _ _)))
    · exact .last (bump_keeps _ _) (.mono (plbMod_keeps _ _))

theorem plbSample_keeps (s : State) (tms d : Int) : Keeps [.mbx, .time, .plb, .gauge, .regs] s (plbSample s tms d) := by
  unfold plbSample
  refine .ite ?_ ?_
  · exact .last (bump_keeps _ _) (.mono (trace_keeps _ _ _ _ _ _ _))
  · refine .ite ?_ ?_
    · exact .last (servo_keeps _ _) (.mono (trace_keeps _ _ _ _ _ _ _))
    · refine .ite ?_ ?_
      · exact .last (plbCandidate_keeps _ _ _ _) (.last (plbMod_keeps _ _) (.mono (trace_keeps _ _ _ _ _ _ _)))
      · exact .last (plbFiltered_keeps _ _ _ _) (.last (plbMod_keeps _ _) (.mono (trace_keeps _ _ _ _ _ _ _)))

theorem trimSave_keeps (s : State) : Keeps [.hw, .fw, .mbx, .time, .plb, .gauge, .regs] s (trimSave s) := by
  unfold trimSave
  split
  · exact .refl
  · extract_lets t trim u v _ w
    have set : Keeps [.hw, .fw, .mbx, .time, .plb, .gauge, .regs] s v := .last (plbMod_keeps _ _) (.mono (hwSetPair_keeps _ _ _))
    clear_value v
    have put : Keeps [.hw, .fw, .mbx, .time, .plb, .gauge, .regs] s w := .put rfl rfl rfl rfl rfl set
    exact .last (answer_kept _ _ _ _ _) put

theorem execPlumbSample_runs (s : State) : Runs [.hw, .fw, .mbx, .time, .plb, .gauge, .regs] s (execPlumbSample s) := by
  unfold execPlumbSample
  split
  · exact .next .refl
  · refine .ite ?_ ?_
    · exact .next (.mono (plbMod_keeps _ _))
    · exact .next (.last (plbSample_keeps _ _ _) (.last (trimSave_keeps _) (.mono (plbMod_keeps _ _))))

theorem execPlumbTimeout_runs (s : State) : Runs [.mbx, .time, .plb, .gauge, .regs] s (execPlumbTimeout s) := by
  unfold execPlumbTimeout
  refine .ite ?_ ?_
  · exact .next .refl
  · exact .next (.last (plbTo_keeps _ _) (.put rfl rfl rfl rfl rfl (.mono (plbMod_keeps _ _))))

theorem hostSample_keeps (s : State) (hi : Word) : Keeps [.plb, .regs] s (hostSample s hi) := by
  unfold hostSample
  exact .last (plbOffer_keeps _ _ _ _) (.mono (setReg_keeps _ _ _))

theorem execPlbHostDHiWrite_runs (value : Word) (s : State) : Runs [.plb, .regs] s (execPlbHostDHiWrite value s) := by
  unfold execPlbHostDHiWrite
  exact .next (.mono (hostSample_keeps _ _))

theorem enterAcquire_keeps (s : State) : Keeps [.mbx, .plb, .gauge, .regs] s (enterAcquire s) := by
  unfold enterAcquire
  exact .last (plbTo_keeps _ _) (.last (plbMod_keeps _ _) (.put rfl rfl rfl rfl rfl .refl))

theorem plbApplyMode_keeps (s : State) : Keeps [.fw, .mbx, .plb, .gauge, .regs] s (plbApplyMode s) := by
  unfold plbApplyMode
  refine .ite ?_ ?_
  · exact .mono (enterAcquire_keeps _)
  · refine .ite ?_ ?_
    · refine .last (plbTo_keeps _ _) ?_
      refine .last (plbMod_keeps _ _) ?_
      split
      · exact .mono (answer_kept _ _ _ _ _)
      · exact .refl
    · exact .refl

theorem execPlbConfig_runs (ch seq : Nat) (s : State) : Runs [.hw, .fw, .mbx, .plb, .gauge, .regs] s (execPlbConfig ch seq s) := by
  unfold execPlbConfig
  refine command_runs (fun _ => ?_)
  refine .ite ?_ ?_
  · exact .mono (answer_kept _ _ _ _ _)
  · exact .last (answer_kept _ _ _ _ _) (.last (plbApplyMode_keeps _) (.mono (hwJournal_keeps _ _ _)))

theorem execPlbReacquire_runs (ch seq : Nat) (s : State) : Runs [.fw, .mbx, .plb, .gauge, .regs] s (execPlbReacquire ch seq s) := by
  unfold execPlbReacquire
  refine command_runs (fun _ => ?_)
  exact .ite (.mono (answer_kept _ _ _ _ _)) (.last (answer_kept _ _ _ _ _) (.mono (enterAcquire_keeps _)))

theorem execPlbStatus_runs (ch seq : Nat) (s : State) : Runs [.fw, .mbx, .gauge, .regs] s (execPlbStatus ch seq s) := by
  unfold execPlbStatus
  exact command_runs (fun _ => .mono (answer_kept _ _ _ _ _))

theorem execPlbTrimSave_runs (ch seq : Nat) (s : State) : Runs [.fw, .mbx, .plb, .gauge, .regs] s (execPlbTrimSave ch seq s) := by
  unfold execPlbTrimSave
  refine command_runs (fun _ => ?_)
  refine .ite ?_ ?_
  · exact .mono (answer_kept _ _ _ _ _)
  · exact .ite (.mono (answer_kept _ _ _ _ _)) (.last (plbMod_keeps _ _) (.mono (defer_keeps _ _ _)))

/-! Ptp: the PTP engine. -/

theorem ptpSet_keeps (s : State) (m : Nat) (x : PtpPort) : Keeps [.ptp] s (ptpSet s m x) := by
  unfold ptpSet
  exact .put rfl rfl rfl rfl rfl .refl

theorem ptpMod_keeps (s : State) (m : Nat) (f : PtpPort → PtpPort) : Keeps [.ptp] s (ptpMod s m f) := by
  unfold ptpMod
  exact .mono (ptpSet_keeps _ _ _)

theorem ptpSend_keeps (s : State) (m t stamp : Nat) (tReq : Dword) (b : Bytes) :
    Keeps [.hw, .mbx, .ep0, .ep1, .rings, .nextPid, .basin, .macs, .gauge, .regs, .out, .fresh] s (ptpSend s m t stamp tReq b) := by
  unfold ptpSend
  exact .last (macTake_keeps _ _ _) (.last (newId_keeps _) (.mono (drawn_keeps _)))

theorem ptpTo_keeps (s : State) (m : Nat) (st : PtpPortState) (parent : Bytes) :
    Keeps [.mbx, .ptp, .gauge, .regs] s (ptpTo s m st parent) := by
  unfold ptpTo
  exact .ite .refl (.last (eventToManager_keeps _ _ _) (.mono (ptpSet_keeps _ _ _)))

theorem bmca_keeps (s : State) (timedOut : Option Nat) : Keeps [.mbx, .ptp, .gauge, .regs] s (bmca s timedOut) := by
  unfold bmca
  exact .foldl .refl (fun _ _ => .mono (ptpTo_keeps _ _ _ _))

theorem execPtpSyncSend_runs (m : Nat) (s : State) :
    Runs [.hw, .mbx, .ep0, .ep1, .rings, .nextPid, .basin, .macs, .ptp, .gauge, .regs, .out, .fresh] s (execPtpSyncSend m s) := by
  unfold execPtpSyncSend
  refine .ite ?_ ?_
  · refine .ite ?_ ?_
    · exact .next (.mono (bump_keeps _ _))
    · exact .next (.last (ptpSend_keeps _ _ _ _ _ _) (.mono (ptpSet_keeps _ _ _)))
  · exact .next .refl

theorem ptpSent_keeps (s : State) (m : Nat) (f : TxFrame) (stamp : Dword) :
    Keeps [.hw, .mbx, .ep0, .ep1, .rings, .nextPid, .basin, .macs, .ptp, .gauge, .regs, .out, .fresh] s (ptpSent s m f stamp) := by
  unfold ptpSent
  dsimp only
  split
  · exact .ite (.mono (ptpSend_keeps _ _ _ _ _ _)) .refl
  · exact .ite (.mono (ptpSet_keeps _ _ _)) .refl
  · exact .ite (.mono (ptpSet_keeps _ _ _)) .refl
  · exact .ite (.mono (ptpSend_keeps _ _ _ _ _ _)) .refl
  · exact .refl

theorem execPtpDelayReqSend_runs (m : Nat) (s : State) :
    Runs [.hw, .mbx, .ep0, .ep1, .rings, .nextPid, .basin, .macs, .ptp, .gauge, .regs, .out, .fresh] s (execPtpDelayReqSend m s) := by
  unfold execPtpDelayReqSend
  refine .ite ?_ ?_
  · refine .ite ?_ ?_
    · exact .ite (.next (.last (ptpSend_keeps _ _ _ _ _ _) (.mono (ptpSet_keeps _ _ _)))) (.next .refl)
    · exact .next (.last (ptpSend_keeps _ _ _ _ _ _) (.mono (ptpSet_keeps _ _ _)))
  · exact .next .refl

theorem execPtpAnnounceSend_runs (m : Nat) (s : State) :
    Runs [.hw, .mbx, .ep0, .ep1, .rings, .nextPid, .basin, .macs, .ptp, .gauge, .regs, .out, .fresh] s (execPtpAnnounceSend m s) := by
  unfold execPtpAnnounceSend
  refine .ite ?_ ?_
  · refine .ite ?_ ?_
    · exact .next (.mono (bump_keeps _ _))
    · exact .next (.last (ptpSend_keeps _ _ _ _ _ _) (.mono (ptpSet_keeps _ _ _)))
  · exact .next .refl

theorem execPtpAnnounceTimeout_runs (m : Nat) (s : State) : Runs [.mbx, .ptp, .gauge, .regs] s (execPtpAnnounceTimeout m s) := by
  unfold execPtpAnnounceTimeout
  exact .ite (.next (.last (bmca_keeps _ _) (.mono (ptpMod_keeps _ _ _)))) (.next .refl)

theorem ptpSample_keeps (s : State) (m : Nat) (t2 : Dword) (t1 corr : Int) : Keeps [.plb, .regs] s (ptpSample s m t2 t1 corr) := by
  unfold ptpSample
  refine .ite ?_ ?_
  · split
    · exact .ite (.mono (plbOffer_keeps _ _ _ _)) .refl
    · exact .refl
  · split
    · exact .mono (plbOffer_keeps _ _ _ _)
    · exact .refl

theorem rxSync_keeps (s : State) (m : Nat) (b : Bytes) (stamp : Dword) : Keeps [.plb, .ptp, .regs] s (rxSync s m b stamp) := by
  unfold rxSync
  refine .ite ?_ ?_
  · exact .refl
  · refine .ite ?_ ?_
    · exact .mono (bump_keeps _ _)
    · refine .ite ?_ ?_
      · exact .last (ptpMod_keeps _ _ _) (.ite (.mono (bump_keeps _ _)) .refl)
      · exact .last (ptpSample_keeps _ _ _ _ _) (.last (ptpMod_keeps _ _ _) (.ite (.mono (bump_keeps _ _)) .refl))

theorem rxFollowUp_keeps (s : State) (m : Nat) (b : Bytes) : Keeps [.plb, .ptp, .regs] s (rxFollowUp s m b) := by
  unfold rxFollowUp
  refine .ite ?_ ?_
  · exact .refl
  · refine .ite ?_ ?_
    · exact .mono (bump_keeps _ _)
    · split
      · exact .ite (.last (ptpSample_keeps _ _ _ _ _) (.mono (ptpSet_keeps _ _ _))) (.mono (bump_keeps _ _))
      · exact .mono (bump_keeps _ _)

theorem rxDelayReq_keeps (s : State) (m : Nat) (b : Bytes) (stamp : Dword) :
    Keeps [.hw, .mbx, .ep0, .ep1, .rings, .nextPid, .basin, .macs, .gauge, .regs, .out, .fresh] s (rxDelayReq s m b stamp) := by
  unfold rxDelayReq
  exact .ite (.mono (ptpSend_keeps _ _ _ _ _ _)) .refl

theorem rxDelayResp_keeps (s : State) (m : Nat) (b : Bytes) : Keeps [.ptp, .regs] s (rxDelayResp s m b) := by
  unfold rxDelayResp
  dsimp only
  split
  · exact .ite (.mono (ptpSet_keeps _ _ _)) (.mono (bump_keeps _ _))
  · exact .mono (bump_keeps _ _)

theorem rxPdelayReq_keeps (s : State) (m : Nat) (b : Bytes) (stamp : Dword) :
    Keeps [.hw, .mbx, .ep0, .ep1, .rings, .nextPid, .basin, .macs, .gauge, .regs, .out, .fresh] s (rxPdelayReq s m b stamp) := by
  unfold rxPdelayReq
  exact .ite .refl (.ite (.mono (ptpSend_keeps _ _ _ _ _ _)) (.mono (ptpSend_keeps _ _ _ _ _ _)))

theorem pdelayDone_keeps (s : State) (m : Nat) (t1 t4 t2 t3 corr : Int) (t4s : Dword) :
    Keeps [.ptp] s (pdelayDone s m t1 t4 t2 t3 corr t4s) := by
  unfold pdelayDone
  exact .mono (ptpSet_keeps _ _ _)

theorem rxPdelayResp_keeps (s : State) (m : Nat) (b : Bytes) (stamp : Dword) : Keeps [.ptp, .regs] s (rxPdelayResp s m b stamp) := by
  unfold rxPdelayResp
  dsimp only
  split
  · refine .ite ?_ ?_
    · exact .ite (.mono (ptpSet_keeps _ _ _)) (.mono (pdelayDone_keeps _ _ _ _ _ _ _ _))
    · exact .mono (bump_keeps _ _)
  · exact .mono (bump_keeps _ _)

theorem rxPdelayFollowUp_keeps (s : State) (m : Nat) (b : Bytes) : Keeps [.ptp, .regs] s (rxPdelayFollowUp s m b) := by
  unfold rxPdelayFollowUp
  dsimp only
  split
  · exact .ite (.mono (pdelayDone_keeps _ _ _ _ _ _ _ _)) (.mono (bump_keeps _ _))
  · exact .mono (bump_keeps _ _)

theorem rxAnnounce_keeps (s : State) (m : Nat) (b : Bytes) : Keeps [.mbx, .ptp, .gauge, .regs] s (rxAnnounce s m b) := by
  unfold rxAnnounce
  exact .ite (.mono (bump_keeps _ _)) (.ite .refl (.last (bmca_keeps _ _) (.mono (ptpSet_keeps _ _ _))))

theorem rxPtp_keeps (s : State) (m : Nat) (b : Bytes) (stamp : Dword) :
    Keeps [.hw, .mbx, .ep0, .ep1, .rings, .nextPid, .basin, .macs, .plb, .ptp, .gauge, .regs, .out, .fresh] s (rxPtp s m b stamp) := by
  unfold rxPtp
  refine .ite ?_ ?_
  · exact .ite (.mono (rxSync_keeps _ _ _ _)) .refl
  · refine .ite ?_ ?_
    · exact .mono (rxDelayReq_keeps _ _ _ _)
    · refine .ite ?_ ?_
      · exact .mono (rxPdelayReq_keeps _ _ _ _)
      · refine .ite ?_ ?_
        · exact .mono (rxPdelayResp_keeps _ _ _ _)
        · refine .ite ?_ ?_
          · exact .ite (.mono (rxFollowUp_keeps _ _ _)) .refl
          · refine .ite ?_ ?_
            · exact .mono (rxDelayResp_keeps _ _ _)
            · exact .ite (.mono (rxPdelayFollowUp_keeps _ _ _)) (.ite (.mono (rxAnnounce_keeps _ _ _)) .refl)

theorem execPtpMsgRx_runs (s : State) :
    Runs [.hw, .mbx, .ep0, .ep1, .rings, .nextPid, .basin, .macs, .plb, .ptp, .gauge, .regs, .out, .fresh] s (execPtpMsgRx s) := by
  unfold execPtpMsgRx
  split
  · exact .next .refl
  · refine .ite ?_ ?_
    · exact .next (.last (bump_keeps _ _) (.put rfl rfl rfl rfl rfl .refl))
    · refine .ite ?_ ?_
      · refine .ite ?_ ?_
        · exact .next (.last (bump_keeps _ _) (.put rfl rfl rfl rfl rfl .refl))
        · exact .next (.last (rxPtp_keeps _ _ _ _) (.last (ptpSet_keeps _ _ _) (.put rfl rfl rfl rfl rfl .refl)))
      · exact .next (.last (rxPtp_keeps _ _ _ _) (.put rfl rfl rfl rfl rfl .refl))

theorem ptpRestart_keeps (s : State) : Keeps [.mbx, .ptp, .gauge, .regs] s (ptpRestart s) := by
  unfold ptpRestart
  exact .foldl .refl (fun _ _ => .ite (.last (ptpSet_keeps _ _ _) (.mono (ptpTo_keeps _ _ _ _))) .refl)

theorem execPtpInstanceSet_runs (ch seq : Nat) (s : State) :
    Runs [.hw, .fw, .mbx, .ptp, .gauge, .regs] s (execPtpInstanceSet ch seq s) := by
  unfold execPtpInstanceSet
  refine command_runs (fun _ => ?_)
  refine .ite ?_ ?_
  · exact .mono (answer_kept _ _ _ _ _)
  · exact .last (answer_kept _ _ _ _ _) (.last (ptpRestart_keeps _) (.mono (hwJournal_keeps _ _ _)))

theorem execPtpPortSet_runs (ch seq : Nat) (s : State) : Runs [.hw, .fw, .mbx, .ptp, .gauge, .regs] s (execPtpPortSet ch seq s) := by
  unfold execPtpPortSet
  refine command_runs (fun _ => ?_)
  refine .ite ?_ ?_
  · exact .mono (answer_kept _ _ _ _ _)
  · refine .last (answer_kept _ _ _ _ _) ?_
    refine .ite ?_ ?_
    · exact .last (ptpTo_keeps _ _ _ _) (.mono (hwJournal_keeps _ _ _))
    · exact .ite (.last (ptpTo_keeps _ _ _ _) (.mono (hwJournal_keeps _ _ _))) (.mono (hwJournal_keeps _ _ _))

theorem execPtpPortStatus_runs (ch seq : Nat) (s : State) : Runs [.fw, .mbx, .gauge, .regs] s (execPtpPortStatus ch seq s) := by
  unfold execPtpPortStatus
  exact command_runs (fun _ => .ite (.mono (answer_kept _ _ _ _ _)) (.mono (answer_kept _ _ _ _ _)))

/-! Ports: the ports. -/

theorem fcAsk_keeps (s : State) (m : Nat) (pfc : Bool) (vec time : Nat) : Keeps [.macs] s (fcAsk s m pfc vec time) := by
  unfold fcAsk
  exact .mono (macMod_keeps _ _ _)

theorem xoffCheck_keeps (s : State) (m c : Nat) : Keeps [.macs] s (xoffCheck s m c) := by
  unfold xoffCheck
  refine .ite ?_ ?_
  · refine .ite ?_ ?_
    · exact .last (fcAsk_keeps _ _ _ _ _) (.mono (macSet_keeps _ _ _))
    · exact .last (fcAsk_keeps _ _ _ _ _) (.mono (macSet_keeps _ _ _))
  · exact .refl

theorem execXoffLeave_runs (m c : Nat) (s : State) : Runs [.macs] s (execXoffLeave m c s) := by
  unfold execXoffLeave
  refine .ite ?_ ?_
  · refine .next ?_
    refine .ite ?_ ?_
    · exact .mono (macSet_keeps _ _ _)
    · refine .ite ?_ ?_
      · exact .last (fcAsk_keeps _ _ _ _ _) (.mono (macSet_keeps _ _ _))
      · exact .ite (.last (fcAsk_keeps _ _ _ _ _) (.mono (macSet_keeps _ _ _))) (.mono (macSet_keeps _ _ _))
  · exact .next .refl

theorem execPfcRefresh_runs (m c : Nat) (s : State) : Runs [.macs] s (execPfcRefresh m c s) := by
  unfold execPfcRefresh
  exact .ite (.next (.ite (.mono (fcAsk_keeps _ _ _ _ _)) (.mono (fcAsk_keeps _ _ _ _ _)))) (.next .refl)

theorem stopClass_keeps (s : State) (m c time : Nat) : Keeps [.macs] s (stopClass s m c time) := by
  unfold stopClass
  exact .mono (macMod_keeps _ _ _)

theorem execPauseExpire_runs (m c : Nat) (s : State) : Runs [.macs] s (execPauseExpire m c s) := by
  unfold execPauseExpire
  exact .ite (.next (.mono (macMod_keeps _ _ _))) (.next .refl)

theorem execPfcStorm_runs (m c : Nat) (s : State) : Runs [.mbx, .macs, .gauge, .regs] s (execPfcStorm m c s) := by
  unfold execPfcStorm
  refine .ite ?_ ?_
  · refine .next ?_
    exact .last (eventToManager_keeps _ _ _) (.last (setBits_keeps _ _ _) (.mono (macSet_keeps _ _ _)))
  · exact .next .refl

theorem execPfcStormRelease_runs (m c : Nat) (s : State) : Runs [.macs] s (execPfcStormRelease m c s) := by
  unfold execPfcStormRelease
  exact .ite (.next (.mono (macMod_keeps _ _ _))) (.next .refl)

theorem macControl_keeps (s : State) (m : Nat) (f : Bytes) : Keeps [.macs, .gauge, .regs] s (macControl s m f) := by
  unfold macControl
  refine .ite ?_ ?_
  · exact .mono (bump64_keeps _ _ _)
  · refine .ite ?_ ?_
    · refine .ite ?_ ?_
      · refine .foldl ?_ (fun _ _ => ?_)
        · refine .last (trace_keeps _ _ _ _ _ _ _) ?_
          exact .foldl (.mono (bump64_keeps _ _ _)) (fun _ _ => .ite .refl (.mono (bump64_keeps _ _ _)))
        · exact .mono (stopClass_keeps _ _ _ _)
      · refine .last (trace_keeps _ _ _ _ _ _ _) ?_
        exact .foldl (.mono (bump64_keeps _ _ _)) (fun _ _ => .ite .refl (.mono (bump64_keeps _ _ _)))
    · refine .ite ?_ ?_
      · exact .foldl (.mono (bump64_keeps _ _ _)) (fun _ _ => .mono (stopClass_keeps _ _ _ _))
      · exact .mono (bump64_keeps _ _ _)

theorem prpReceive_keeps (s : State) (m : Nat) (f : Bytes) : Keeps [.prp, .regs] s (prpReceive s m f).1 := by
  have noded : ∀ {u : State} (l), Keeps [.prp, .regs] s u → Keeps [.prp, .regs] s { u with prp := { u.prp with nodes := l } } := fun _ h =>
    .put rfl rfl rfl rfl rfl h
  unfold prpReceive
  split
  next i a _ q lan _ _ =>
    have begun : Keeps [.prp, .regs] s (if lan = (if m = a then 0xA else 0xB) then s else bump s (r_PRP_CNT_WRONG_LAN i)) :=
      .ite .refl (.mono (bump_keeps _ _))
    extract_lets u src now kept
    split
    · split
      extract_lets v w
      have put : Keeps [.prp, .regs] s v := noded _ begun
      have counted : Keeps [.prp, .regs] s w := .ite (.last (bump_keeps _ _) put) put
      split
      · exact .last (bump_keeps _ _) counted
      · exact counted
    · split
      · exact .last (bump_keeps _ _) begun
      · exact noded _ begun
  · exact .mono (bump_keeps _ _)
  · exact .refl

theorem execPrpNodeForget_runs (mac : Bytes) (pair : Nat) (s : State) : Runs [.prp] s (execPrpNodeForget mac pair s) := by
  unfold execPrpNodeForget
  exact .next (.put rfl rfl rfl rfl rfl .refl)

theorem countRx_keeps (s : State) (m : Nat) (f : Bytes) (n : Nat) : Keeps [.regs] s (countRx s m f n) := by
  unfold countRx
  refine .last (bump64_keeps _ _ _) ?_
  exact .last (bump64_keeps _ _ _) (.last (bump64_keeps _ _ _) (.mono (bump64_keeps _ _ _)))

theorem admitFrame_keeps (s : State) (m : Nat) (f : Bytes) (stamp : Dword) :
    Keeps [.rings, .pkts, .nextPid, .basin, .twin, .macs, .regs] s (admitFrame s m f stamp) := by
  unfold admitFrame
  refine .ite ?_ ?_
  · exact .mono (bump64_keeps _ _ _)
  · split
    · exact .mono (bump64_keeps _ _ _)
    · refine .last (distribute_keeps _ _ _) ?_
      exact .ite (.last (xoffCheck_keeps _ _ _) (.mono (basinStore_keeps ‹_›))) (.mono (basinStore_keeps ‹_›))

theorem acceptFrame_keeps (s : State) (m : Nat) (f : Bytes) (lane : Nat) :
    Keeps [.rings, .pkts, .nextPid, .basin, .twin, .prp, .macs, .ptp, .gauge, .regs] s (acceptFrame s m f lane) := by
  unfold acceptFrame
  refine .ite ?_ ?_
  · exact .last (traceFrame_keeps _ _ _ _ _ _) (.mono (countRx_keeps _ _ _ _))
  · refine .ite ?_ ?_
    · exact .put rfl rfl rfl rfl rfl (.last (traceFrame_keeps _ _ _ _ _ _) (.mono (countRx_keeps _ _ _ _)))
    · split
      · refine .last (admitFrame_keeps _ _ _ _) ?_
        refine .last (.of_eq ‹_› (prpReceive_keeps _ _ _)) ?_
        exact .last (traceFrame_keeps _ _ _ _ _ _) (.mono (countRx_keeps _ _ _ _))
      · refine .last (.of_eq ‹_› (prpReceive_keeps _ _ _)) ?_
        exact .last (traceFrame_keeps _ _ _ _ _ _) (.mono (countRx_keeps _ _ _ _))

theorem execFrameRx_runs (m : Nat) (frame : Bytes) (pcsErr preemptErr : Bool) (lane frags : Nat) (s : State) :
    Runs [.rings, .pkts, .nextPid, .basin, .twin, .prp, .macs, .ptp, .gauge, .regs] s
      (execFrameRx m frame pcsErr preemptErr lane frags s) := by
  unfold execFrameRx
  refine .ite ?_ ?_
  · exact .next .refl
  · refine .ite ?_ ?_
    · exact .next (.last (bump64_keeps _ _ _) (.ite .refl (.mono (bump64_keeps _ _ _))))
    · refine .ite ?_ ?_
      · exact .next (.last (bump64_keeps _ _ _) (.ite .refl (.mono (bump64_keeps _ _ _))))
      · refine .ite ?_ ?_
        · exact .next (.last (bump64_keeps _ _ _) (.ite .refl (.mono (bump64_keeps _ _ _))))
        · refine .ite ?_ ?_
          · exact .next (.last (bump64_keeps _ _ _) (.ite .refl (.mono (bump64_keeps _ _ _))))
          · refine .ite ?_ ?_
            · exact .next (.last (bump64_keeps _ _ _) (.ite .refl (.mono (bump64_keeps _ _ _))))
            · refine .ite ?_ ?_
              · exact .next (.last (macControl_keeps _ _ _) (.ite .refl (.mono (bump64_keeps _ _ _))))
              · exact .next (.last (acceptFrame_keeps _ _ _ _) (.ite .refl (.mono (bump64_keeps _ _ _))))

theorem countDefers_keeps (s : State) (m : Nat) : Keeps [.macs, .regs] s (countDefers s m) := by
  unfold countDefers
  exact .foldl .refl (fun _ _ => .last (bump64_keeps _ _ _) (.mono (macMod_keeps _ _ _)))

theorem startFrame_keeps (s : State) (m lane : Nat) (f : TxFrame) (resend : Bool) :
    Keeps [.macs, .regs] s (startFrame s m lane f resend) := by
  unfold startFrame
  refine .last (macMod_keeps _ _ _) ?_
  refine .ite ?_ ?_
  · exact .last (bump64_keeps _ _ _) (.ite (.mono (bump_keeps _ _)) .refl)
  · exact .ite (.mono (bump_keeps _ _)) .refl

theorem startPick_keeps (s : State) (m lane : Nat) (p : Pick) : Keeps [.macs, .weir, .regs] s (startPick s m lane p) := by
  unfold startPick
  split
  · exact .mono (macMod_keeps _ _ _)
  · exact .last (startFrame_keeps _ _ _ _ _) (.mono (macMod_keeps _ _ _))
  · exact .last (startFrame_keeps _ _ _ _ _) (.last (macMod_keeps _ _ _) (.mono (chargePath_keeps _ _ _)))

theorem sendFc_keeps (s : State) (m : Nat) (d : Bool × Nat × Nat) : Keeps [.macs, .gauge, .regs, .out] s (sendFc s m d) := by
  unfold sendFc
  refine .last (emit_keeps _ _) ?_
  refine .ite ?_ ?_
  · exact .last (trace_keeps _ _ _ _ _ _ _) (.last (bump64_keeps _ _ _) (.mono (macMod_keeps _ _ _)))
  · exact .last (bump64_keeps _ _ _) (.mono (macMod_keeps _ _ _))

theorem selectFrame_keeps (s : State) (m lane : Nat) : Keeps [.macs, .weir, .gauge, .regs, .out] s (selectFrame s m lane) := by
  unfold selectFrame
  split
  · exact .mono (sendFc_keeps _ _ _)
  · split
    · exact .mono (startPick_keeps _ _ _ _)
    · exact .refl

theorem cutFrameTx_keeps (s : State) (m sent : Nat) (a : TxActive) : Keeps [.macs, .regs, .out] s (cutFrameTx s m sent a) := by
  unfold cutFrameTx
  exact .last (emit_keeps _ _) (.last (bump64_keeps _ _ _) (.mono (macMod_keeps _ _ _)))

theorem execMacTxSelect_runs (m sent lane : Nat) (s : State) :
    Runs [.rings, .basin, .macs, .weir, .gauge, .regs, .out] s (execMacTxSelect m sent lane s) := by
  unfold execMacTxSelect
  refine .ite ?_ ?_
  · exact .next .refl
  · split
    · exact .ite (.next (.last (selectFrame_keeps _ _ _) (.mono (cutFrameTx_keeps _ _ _ _)))) (.next .refl)
    · refine .next ?_
      exact .last (selectFrame_keeps _ _ _) (.last (countDefers_keeps _ _) (.mono (purgeHeads_keeps _ _ _)))

theorem putStamp_keeps (s : State) (m : Nat) (e : StampEntry) : Keeps [.macs, .regs] s (putStamp s m e) := by
  unfold putStamp
  exact .ite (.mono (bump_keeps _ _)) (.mono (macSet_keeps _ _ _))

theorem stampPacket_keeps (s : State) (m : Nat) (a : TxActive) : Keeps [.rings] s (stampPacket s m a) := by
  unfold stampPacket
  split
  · exact .refl
  · exact .mono (txMod_keeps _ _ _)

theorem stampDone_keeps (s : State) (m : Nat) (a : TxActive) :
    Keeps [.hw, .mbx, .ep0, .ep1, .rings, .nextPid, .basin, .macs, .ptp, .gauge, .regs, .out, .fresh] s (stampDone s m a) := by
  unfold stampDone
  refine .ite ?_ ?_
  · exact .refl
  · refine .last (stampPacket_keeps _ _ _) ?_
    exact .last (ptpSent_keeps _ _ _ _) (.ite .refl (.mono (putStamp_keeps _ _ _)))

theorem cleanFrame_keeps (s : State) (m : Nat) : Keeps [.macs] s (cleanFrame s m) := by
  unfold cleanFrame
  exact .mono (macMod_keeps _ _ _)

theorem countTx_keeps (s : State) (m : Nat) (b : Bytes) (c : Nat) : Keeps [.regs] s (countTx s m b c) := by
  unfold countTx
  refine .last (bump64_keeps _ _ _) ?_
  exact .last (bump64_keeps _ _ _) (.last (bump64_keeps _ _ _) (.mono (bump64_keeps _ _ _)))

theorem execMacTxDone_runs (m : Nat) (s : State) :
    Runs [.hw, .mbx, .ep0, .ep1, .rings, .nextPid, .basin, .macs, .ptp, .gauge, .regs, .out, .fresh] s (execMacTxDone m s) := by
  unfold execMacTxDone
  split
  · exact .next .refl
  · refine .next ?_
    refine .ite ?_ ?_
    · refine .ite ?_ ?_
      · refine .last (stampDone_keeps _ _ _) ?_
        refine .last (traceFrame_keeps _ _ _ _ _ _) ?_
        exact .last (countTx_keeps _ _ _ _) (.last (emit_keeps _ _) (.mono (macMod_keeps _ _ _)))
      · refine .last (cleanFrame_keeps _ _) ?_
        refine .last (stampDone_keeps _ _ _) ?_
        refine .last (traceFrame_keeps _ _ _ _ _ _) ?_
        exact .last (countTx_keeps _ _ _ _) (.last (emit_keeps _ _) (.mono (macMod_keeps _ _ _)))
    · refine .last (letGo_keeps _ _ _ _) ?_
      refine .ite ?_ ?_
      · refine .last (stampDone_keeps _ _ _) ?_
        refine .last (traceFrame_keeps _ _ _ _ _ _) ?_
        exact .last (countTx_keeps _ _ _ _) (.last (emit_keeps _ _) (.mono (macMod_keeps _ _ _)))
      · refine .last (cleanFrame_keeps _ _) ?_
        refine .last (stampDone_keeps _ _ _) ?_
        refine .last (traceFrame_keeps _ _ _ _ _ _) ?_
        exact .last (countTx_keeps _ _ _ _) (.last (emit_keeps _ _) (.mono (macMod_keeps _ _ _)))

theorem execUnderrun_runs (m sent : Nat) (s : State) : Runs [.macs, .gauge, .regs, .out] s (execUnderrun m sent s) := by
  unfold execUnderrun
  dsimp only
  split
  · exact .next .refl
  · refine .ite ?_ ?_
    · refine .next ?_
      refine .last (emit_keeps _ _) ?_
      exact .last (trace_keeps _ _ _ _ _ _ _) (.last (bump64_keeps _ _ _) (.mono (macSet_keeps _ _ _)))
    · exact .next .refl

theorem execTxLinkWaitExpire_runs (m : Nat) (s : State) : Runs [.rings, .basin, .macs, .regs] s (execTxLinkWaitExpire m s) := by
  unfold execTxLinkWaitExpire
  refine .ite ?_ ?_
  · exact .next .refl
  · split
    · exact .next .refl
    · exact .next (.last (letGo_keeps _ _ _ _) (.last (bump64_keeps _ _ _) (.mono (macSet_keeps _ _ _))))

theorem shaperApply_keeps (s : State) (i : Nat) (n : Shaper) : Keeps [.weir] s (shaperApply s i n) := by
  unfold shaperApply
  exact .ite (.mono (shaperSet_keeps _ _ _)) (.mono (shaperSet_keeps _ _ _))

theorem execWeirTick_runs (p : Nat) (s : State) : Runs [.weir, .regs] s (execWeirTick p s) := by
  unfold execWeirTick
  refine .ite ?_ ?_
  · exact .next .refl
  · refine .next ?_
    refine .put rfl rfl rfl rfl rfl ?_
    exact .foldl (.mono (bump64_keeps _ _ _)) (fun _ _ => .mono (shaperApply_keeps _ _ _))

theorem execGateChange_runs (m : Nat) (s : State) : Runs [.macs, .gauge, .regs] s (execGateChange m s) := by
  unfold execGateChange
  exact .ite (.next (.ite .refl (.mono (takeEntry_keeps _ _ _)))) (.next .refl)

theorem execGclChangeTime_runs (m : Nat) (s : State) : Runs [.mbx, .macs, .gauge, .regs] s (execGclChangeTime m s) := by
  unfold execGclChangeTime
  dsimp only
  split
  · exact .next .refl
  · refine .ite ?_ ?_
    · exact .next .refl
    · refine .next ?_
      refine .last (eventToManager_keeps _ _ _) ?_
      refine .ite ?_ ?_
      · exact .last (takeEntry_keeps _ _ _) (.mono (macSet_keeps _ _ _))
      · exact .last (macSet_keeps _ _ _) (.mono (macSet_keeps _ _ _))

theorem execPreemptVerify_runs (m : Nat) (ok : Bool) (s : State) : Runs [.macs] s (execPreemptVerify m ok s) := by
  unfold execPreemptVerify
  exact .ite (.next (.mono (macSet_keeps _ _ _))) (.next .refl)

theorem execLinkUp_runs (m : Nat) (s : State) : Runs [.mbx, .ep0, .ep1, .port0, .port1, .macs, .gauge, .regs] s (execLinkUp m s) := by
  unfold execLinkUp
  refine .ite ?_ ?_
  · split
    · exact .next (.last (linkChange_keeps _ _ _ _) (.mono (portMod_keeps _ _ _)))
    · exact .next .refl
  · exact .next .refl

theorem execLinkFault_runs (m : Nat) (remote : Bool) (s : State) :
    Runs [.mbx, .ep0, .ep1, .macs, .gauge, .regs] s (execLinkFault m remote s) := by
  unfold execLinkFault
  exact .ite (.next (.mono (linkChange_keeps _ _ _ _))) (.next .refl)

theorem ethRefLost_keeps (s : State) : Keeps [.dev, .mbx, .ep0, .ep1, .macs, .time, .gauge, .regs] s (ethRefLost s) := by
  unfold ethRefLost
  extract_lets _ u _
  have down : Keeps [.dev, .mbx, .ep0, .ep1, .macs, .time, .gauge, .regs] s u :=
    .last (ethLinksDown_keeps _) (.put rfl rfl rfl rfl rfl .refl)
  clear_value u
  exact .ite (.put rfl rfl rfl rfl rfl down) down

/-! PortCmd: the commands of ports. -/

theorem macReset_keeps (s : State) (m : Nat) : Keeps [.mbx, .ep0, .ep1, .macs, .gauge, .regs] s (macReset s m) := by
  unfold macReset
  exact .last (macSet_keeps _ _ _) (.ite (.mono (linkChange_keeps _ _ _ _)) .refl)

theorem portReset_keeps (s : State) (p mode : Nat) :
    Keeps [.mbx, .ep0, .ep1, .basin, .port0, .port1, .macs, .gauge, .regs] s (portReset s p mode) := by
  unfold portReset
  refine .put rfl rfl rfl rfl rfl ?_
  exact .last (portMod_keeps _ _ _) (.foldl .refl (fun _ _ => .mono (macReset_keeps _ _)))

theorem execPortModeSet_runs (ch seq : Nat) (s : State) :
    Runs [.hw, .fw, .mbx, .ep0, .ep1, .basin, .port0, .port1, .macs, .gauge, .regs] s (execPortModeSet ch seq s) := by
  unfold execPortModeSet
  refine command_runs (fun _ => ?_)
  refine .ite ?_ ?_
  · exact .mono (answer_kept _ _ _ _ _)
  · refine .ite ?_ ?_
    · exact .mono (answer_kept _ _ _ _ _)
    · exact .last (answer_kept _ _ _ _ _) (.last (portReset_keeps _ _ _) (.mono (hwSetField_keeps _ _ _ _ _)))

theorem execPortStatus_runs (ch seq : Nat) (s : State) : Runs [.fw, .mbx, .gauge, .regs] s (execPortStatus ch seq s) := by
  unfold execPortStatus
  exact command_runs (fun _ => .ite (.mono (answer_kept _ _ _ _ _)) (.mono (answer_kept _ _ _ _ _)))

theorem retireEthLane_keeps (s : State) (p lane cause : Nat) :
    Keeps [.dev, .hw, .mbx, .ep0, .ep1, .port0, .port1, .macs, .gauge, .regs] s (retireEthLane s p lane cause) := by
  unfold retireEthLane
  refine .last (noteMode_keeps _ _ _) ?_
  refine .last (noteRetired_keeps _ _ _ _ _ _) ?_
  refine .last (eventToManager_keeps _ _ _) ?_
  refine .ite ?_ ?_
  · exact .last (linkChange_keeps _ _ _ _) (.last (portMod_keeps _ _ _) (.mono (hwSetField_keeps _ _ _ _ _)))
  · exact .last (portMod_keeps _ _ _) (.mono (hwSetField_keeps _ _ _ _ _))

theorem execPortLaneRetire_runs (ch seq : Nat) (s : State) :
    Runs [.dev, .hw, .fw, .mbx, .ep0, .ep1, .port0, .port1, .macs, .gauge, .regs] s (execPortLaneRetire ch seq s) := by
  unfold execPortLaneRetire
  refine command_runs (fun _ => ?_)
  refine .ite ?_ ?_
  · exact .mono (answer_kept _ _ _ _ _)
  · exact .last (answer_kept _ _ _ _ _) (.mono (retireEthLane_keeps _ _ _ _))

theorem execPfcConfigSet_runs (ch seq : Nat) (s : State) : Runs [.fw, .mbx, .basin, .gauge, .regs] s (execPfcConfigSet ch seq s) := by
  unfold execPfcConfigSet
  refine command_runs (fun _ => ?_)
  refine .ite ?_ ?_
  · exact .mono (answer_kept _ _ _ _ _)
  · refine .ite ?_ ?_
    · exact .mono (answer_kept _ _ _ _ _)
    · refine .last (answer_kept _ _ _ _ _) ?_
      refine .put rfl rfl rfl rfl rfl ?_
      exact .last (setReg_keeps _ _ _) (.last (setReg_keeps _ _ _) (.mono (setReg_keeps _ _ _)))

theorem execWeirShaperSet_runs (ch seq : Nat) (s : State) : Runs [.fw, .mbx, .weir, .gauge, .regs] s (execWeirShaperSet ch seq s) := by
  unfold execWeirShaperSet
  refine command_runs (fun _ => ?_)
  refine .ite ?_ ?_
  · exact .last (answer_kept _ _ _ _ _) (.put rfl rfl rfl rfl rfl .refl)
  · exact .mono (answer_kept _ _ _ _ _)

theorem execWeirShaperRead_runs (ch seq : Nat) (s : State) : Runs [.fw, .mbx, .gauge, .regs] s (execWeirShaperRead ch seq s) := by
  unfold execWeirShaperRead
  exact command_runs (fun _ => .mono (answer_kept _ _ _ _ _))

theorem execWeirLeafMapSet_runs (ch seq : Nat) (s : State) : Runs [.fw, .mbx, .weir, .gauge, .regs] s (execWeirLeafMapSet ch seq s) := by
  unfold execWeirLeafMapSet
  refine command_runs (fun _ => ?_)
  refine .ite ?_ ?_
  · exact .mono (answer_kept _ _ _ _ _)
  · exact .last (answer_kept _ _ _ _ _) (.put rfl rfl rfl rfl rfl .refl)

theorem execSlcGclWrite_runs (ch seq : Nat) (s : State) : Runs [.fw, .mbx, .macs, .gauge, .regs] s (execSlcGclWrite ch seq s) := by
  unfold execSlcGclWrite
  refine command_runs (fun _ => ?_)
  exact .ite (.mono (answer_kept _ _ _ _ _)) (.last (answer_kept _ _ _ _ _) (.mono (macMod_keeps _ _ _)))

theorem execSlcGclCommit_runs (ch seq : Nat) (s : State) : Runs [.fw, .mbx, .macs, .gauge, .regs] s (execSlcGclCommit ch seq s) := by
  unfold execSlcGclCommit
  refine command_runs (fun _ => ?_)
  refine .ite ?_ ?_
  · exact .mono (answer_kept _ _ _ _ _)
  · refine .ite ?_ ?_
    · exact .mono (answer_kept _ _ _ _ _)
    · exact .ite (.mono (answer_kept _ _ _ _ _)) (.last (answer_kept _ _ _ _ _) (.mono (macSet_keeps _ _ _)))

theorem execSlcGclRead_runs (ch seq : Nat) (s : State) : Runs [.fw, .mbx, .gauge, .regs] s (execSlcGclRead ch seq s) := by
  unfold execSlcGclRead
  exact command_runs (fun _ => .ite (.mono (answer_kept _ _ _ _ _)) (.mono (answer_kept _ _ _ _ _)))

theorem execSlcPreemptSet_runs (ch seq : Nat) (s : State) : Runs [.fw, .mbx, .macs, .gauge, .regs] s (execSlcPreemptSet ch seq s) := by
  unfold execSlcPreemptSet
  refine command_runs (fun _ => ?_)
  exact .ite (.mono (answer_kept _ _ _ _ _)) (.last (answer_kept _ _ _ _ _) (.mono (macMod_keeps _ _ _)))

/-! Modes: modes and boot. -/

/-- After a reset the channels, the error log and the memory are empty. -/
theorem resetVolatile_keeps (s : State) (base : BaseMode) : Keeps allParts s (resetVolatile s base) where
  frame p := by
    cases p with
    | pending => exact .inr (resetVolatile_pending s base)
    | _ => exact .inl (by decide)
  boxes _ := by intro p hp; cases hp
  stores _ := ⟨rfl, Nat.zero_le _, fun p hp => nomatch hp⟩

theorem flashSettle_keeps (s : State) : Keeps [.flash] s (flashSettle s) := by
  unfold flashSettle
  exact .put rfl rfl rfl rfl rfl .refl

theorem resetTo_keeps (s : State) (cause : Nat) : Keeps allParts s (resetTo s cause) := by
  unfold resetTo
  exact .last (hwSet_keeps _ _ _) (.last (flashSettle_keeps _) (.mono (resetVolatile_keeps _ _)))

theorem journalReplay_keeps (s : State) : Keeps [.hw, .regs] s (journalReplay s) := by
  unfold journalReplay
  refine .ite ?_ ?_
  · exact .refl
  · exact .last (hwSet_keeps _ _ _) (.ite (.last (setBits_keeps _ _ _) (.mono (hwSetAll_keeps _ _ _))) .refl)

theorem tioBoot_keeps (s : State) : Keeps [.tio, .regs] s (tioBoot s) := by
  unfold tioBoot
  refine .last (tioSet_keeps _ _ _) ?_
  refine .last (tioSet_keeps _ _ _) ?_
  refine .last (setReg_keeps _ _ _) ?_
  refine .last (setReg_keeps _ _ _) ?_
  exact .last (setReg_keeps _ _ _) (.last (setReg_keeps _ _ _) (.mono (setReg_keeps _ _ _)))

theorem beginBoot_keeps (s : State) : Keeps [.dev, .hw, .mctp, .time, .tio, .regs, .out] s (beginBoot s) := by
  unfold beginBoot
  refine .last (emit_keeps _ _) ?_
  refine .put rfl rfl rfl rfl rfl ?_
  refine .last (mctpStart_keeps _) ?_
  refine .last (tioBoot_keeps _) ?_
  exact .last (journalReplay_keeps _) (.last (hwSet_keeps _ _ _) (.put rfl rfl rfl rfl rfl .refl))

theorem tryBoot_keeps (s : State) : Keeps [.dev, .hw, .mctp, .time, .tio, .regs, .out] s (tryBoot s) := by
  unfold tryBoot
  exact .ite (.mono (beginBoot_keeps _)) .refl

theorem execSupplyUp_runs (s : State) : Runs allParts s (execSupplyUp s) := by
  unfold execSupplyUp
  refine .next ?_
  refine .last (tryBoot_keeps _) ?_
  exact .ite (.last (resetTo_keeps _ _) (.put rfl rfl rfl rfl rfl .refl)) (.put rfl rfl rfl rfl rfl .refl)

theorem execSupplyRemoved_runs (s : State) : Runs allParts s (execSupplyRemoved s) := by
  unfold execSupplyRemoved
  exact .next (.put rfl rfl rfl rfl rfl (.last (flashSettle_keeps _) (.mono (resetVolatile_keeps _ _))))

theorem execSupplyMonitorTrip_runs (supply : Nat) (s : State) : Runs allParts s (execSupplyMonitorTrip supply s) := by
  unfold execSupplyMonitorTrip
  refine .ite ?_ ?_
  · exact .next .refl
  · refine .next ?_
    exact .ite (.last (resetTo_keeps _ _) (.put rfl rfl rfl rfl rfl .refl)) (.put rfl rfl rfl rfl rfl .refl)

theorem execSysRstNAssert_runs (widthNs : Nat) (s : State) : Runs allParts s (execSysRstNAssert widthNs s) := by
  unfold execSysRstNAssert
  refine .ite ?_ ?_
  · exact .next .refl
  · refine .ite ?_ ?_
    · refine .next ?_
      exact .ite (.put rfl rfl rfl rfl rfl .refl) (.last (resetTo_keeps _ _) (.put rfl rfl rfl rfl rfl .refl))
    · refine .next ?_
      refine .ite ?_ ?_
      · refine .ite ?_ ?_
        · exact .put rfl rfl rfl rfl rfl (.mono (drawn_keeps _))
        · exact .last (resetTo_keeps _ _) (.put rfl rfl rfl rfl rfl (.mono (drawn_keeps _)))
      · exact .mono (drawn_keeps _)

theorem execSysRstNDeassert_runs (s : State) : Runs [.dev, .hw, .mctp, .time, .tio, .tap, .regs, .out] s (execSysRstNDeassert s) := by
  unfold execSysRstNDeassert
  exact .next (.last (tryBoot_keeps _) (.put rfl rfl rfl rfl rfl .refl))

theorem execTbOscRangeChange_runs (inRange : Bool) (s : State) :
    Runs [.dev, .hw, .mctp, .time, .tio, .regs, .out] s (execTbOscRangeChange inRange s) := by
  unfold execTbOscRangeChange
  exact .next (.last (tryBoot_keeps _) (.put rfl rfl rfl rfl rfl .refl))

theorem execDeviceResetStart_runs (s : State) : Runs allParts s (execDeviceResetStart s) := by
  unfold execDeviceResetStart
  split
  · exact .next .refl
  · exact .ite (.next .refl) (.next (.put rfl rfl rfl rfl rfl (.mono (resetTo_keeps _ _))))

theorem execDeviceResetHeldExpire_runs (s : State) :
    Runs [.dev, .hw, .mctp, .time, .tio, .regs, .out] s (execDeviceResetHeldExpire s) := by
  unfold execDeviceResetHeldExpire
  exact .next (.last (tryBoot_keeps _) (.put rfl rfl rfl rfl rfl .refl))

theorem noteFallback_keeps (s : State) (kind bank : Nat) : Keeps [.hw] s (noteFallback s kind bank) := by
  unfold noteFallback
  exact .ite .refl (.mono (hwSetField_keeps _ _ _ _ _))

theorem execWellheadImageVerify_runs (s : State) : Runs [.dev, .hw, .fw] s (execWellheadImageVerify s) := by
  unfold execWellheadImageVerify
  refine .ite ?_ ?_
  · exact .next .refl
  · split
    · exact .next (.put rfl rfl rfl rfl rfl .refl)
    · exact .next (.put rfl rfl rfl rfl rfl (.mono (noteFallback_keeps _ _ _)))

theorem execCascadeManifestCheck_runs (s : State) : Runs [.dev, .hw, .fw] s (execCascadeManifestCheck s) := by
  unfold execCascadeManifestCheck
  refine .ite ?_ ?_
  · exact .next .refl
  · refine .next ?_
    refine .put rfl rfl rfl rfl rfl ?_
    split
    · exact .mono (noteFallback_keeps _ _ _)
    · exact .refl

theorem hbmMark_keeps (s : State) (pc : Nat) : Keeps [.hw] s (hbmMark s pc) := by
  unfold hbmMark
  exact .mono (hwSetField_keeps _ _ _ _ _)

theorem hbmBegin_keeps (s : State) (pc cause : Nat) : Keeps [.hbm] s (hbmBegin s pc cause) := by
  unfold hbmBegin
  exact .put rfl rfl rfl rfl rfl .refl

theorem execHbmPcRetire_runs (ch seq : Nat) (s : State) : Runs [.fw, .mbx, .hbm, .gauge, .regs] s (execHbmPcRetire ch seq s) := by
  unfold execHbmPcRetire
  refine command_runs (fun _ => ?_)
  refine .ite ?_ ?_
  · exact .mono (answer_kept _ _ _ _ _)
  · exact .ite (.mono (answer_kept _ _ _ _ _)) (.last (answer_kept _ _ _ _ _) (.mono (hbmBegin_keeps _ _ _)))

theorem execHbmPcAutoRetire_runs (pc : Nat) (s : State) : Runs [.hbm] s (execHbmPcAutoRetire pc s) := by
  unfold execHbmPcAutoRetire
  exact .ite (.next .refl) (.next (.mono (hbmBegin_keeps _ _ _)))

theorem execHbmPcRetireDone_runs (s : State) :
    Runs [.dev, .hw, .mbx, .ep0, .ep1, .basin, .hbm, .gauge, .regs] s (execHbmPcRetireDone s) := by
  unfold execHbmPcRetireDone
  split
  · exact .next .refl
  · refine .next ?_
    refine .last (noteMode_keeps _ _ _) ?_
    exact .last (noteRetired_keeps _ _ _ _ _ _) (.last (hbmMark_keeps _ _) (.put rfl rfl rfl rfl rfl .refl))

theorem execHbmTrainingDone_runs (failed : List Nat) (s : State) :
    Runs [.dev, .hw, .mbx, .ep0, .ep1, .gauge, .regs] s (execHbmTrainingDone failed s) := by
  unfold execHbmTrainingDone
  refine .ite ?_ ?_
  · exact .next .refl
  · refine .next ?_
    refine .put rfl rfl rfl rfl rfl ?_
    refine .foldl ?_ (fun _ _ => ?_)
    · exact .refl
    · exact .ite .refl (.last (noteRetired_keeps _ _ _ _ _ _) (.mono (hbmMark_keeps _ _)))

theorem railsApply_keeps (s : State) : Keeps [.twin] s (railsApply s) := by
  unfold railsApply
  exact .last (railSet_keeps _ _ _) (.mono (railSet_keeps _ _ _))

theorem execBootSelfTestDone_runs (failA failB : Bool) (s : State) :
    Runs [.dev, .hw, .mbx, .ep0, .ep1, .rings, .pkts, .basin, .plane, .rasp, .jig, .cst, .csc, .twin, .cry, .macs, .gauge, .regs] s
      (execBootSelfTestDone failA failB s) := by
  unfold execBootSelfTestDone
  refine .ite ?_ ?_
  · exact .next .refl
  · refine .next ?_
    refine .put rfl rfl rfl rfl rfl ?_
    refine .ite ?_ ?_
    · refine .last (retireRail_keeps _ _ _ _ _) ?_
      exact .ite (.last (retireRail_keeps _ _ _ _ _) (.mono (railsApply_keeps _))) (.mono (railsApply_keeps _))
    · exact .ite (.last (retireRail_keeps _ _ _ _ _) (.mono (railsApply_keeps _))) (.mono (railsApply_keeps _))

theorem roleInit_keeps (s : State) : Keeps [.role, .mbx, .gauge, .regs] s (roleInit s) := by
  unfold roleInit
  exact .last (setHolder_keeps _ _ _) (.put rfl rfl rfl rfl rfl .refl)

theorem portsApply_keeps (s : State) : Keeps [.mbx, .ep0, .ep1, .basin, .port0, .port1, .macs, .gauge, .regs] s (portsApply s) := by
  unfold portsApply
  exact .foldl .refl (fun _ _ => .last (portMod_keeps _ _ _) (.ite .refl (.mono (portReset_keeps _ _ _))))

theorem enginesApplyRail_keeps (s : State) (rail : Nat) : Keeps [.csc] s (enginesApplyRail s rail) := by
  unfold enginesApplyRail
  refine .foldl ?_ (fun _ _ => ?_)
  · refine .foldl ?_ (fun _ _ => ?_)
    · exact .foldl .refl (fun _ _ => .mono (engSet_keeps _ _ _))
    · exact .mono (engSet_keeps _ _ _)
  · exact .mono (clusterMod_keeps _ _ _)

theorem retirementsApply_keeps (s : State) : Keeps [.csc, .twin, .itw, .cry] s (retirementsApply s) := by
  unfold retirementsApply
  refine .put rfl rfl rfl rfl rfl ?_
  exact .last (enginesApplyRail_keeps _ _) (.last (enginesApplyRail_keeps _ _) (.mono (railsApply_keeps _)))

theorem basinApply_keeps (s : State) : Keeps [.basin, .hbm, .regs] s (basinApply s) := by
  unfold basinApply
  exact .put rfl rfl rfl rfl rfl (.mono (hwCount_keeps _ _))

theorem itwApply_keeps (s : State) : Keeps [.itw, .regs] s (itwApply s) := by
  unfold itwApply
  exact .put rfl rfl rfl rfl rfl (.mono (hwCount_keeps _ _))

theorem provisionInit_keeps (s : State) :
    Keeps [.fw, .role, .slices, .mbx, .ep0, .ep1, .basin, .jig, .csc, .twin, .itw, .cry, .port0, .port1, .macs, .weir, .plb, .ptp, .hbm,
      .gauge, .regs, .fresh] s
      (provisionInit s) := by
  unfold provisionInit
  extract_lets t _ u v _ w
  have two : Keeps [.fw, .role, .slices, .mbx, .ep0, .ep1, .basin, .jig, .csc, .twin, .itw, .cry, .port0, .port1, .macs, .weir, .plb, .ptp,
      .hbm, .gauge, .regs, .fresh] s t := .last (sliceMake_keeps _ _ _) (.mono (sliceMake_keeps _ _ _))
  clear_value t
  have made : Keeps [.fw, .role, .slices, .mbx, .ep0, .ep1, .basin, .jig, .csc, .twin, .itw, .cry, .port0, .port1, .macs, .weir, .plb, .ptp,
      .hbm, .gauge, .regs, .fresh] s u := .put rfl rfl rfl rfl rfl two
  have applied : Keeps [.fw, .role, .slices, .mbx, .ep0, .ep1, .basin, .jig, .csc, .twin, .itw, .cry, .port0, .port1, .macs, .weir, .plb, .ptp,
      .hbm, .gauge, .regs, .fresh] s v :=
    .last (itwApply_keeps _) (.last (basinApply_keeps _) (.last (retirementsApply_keeps _) (.last (portsApply_keeps _) (.last (roleInit_keeps _) made))))
  clear_value v
  have sized : Keeps [.fw, .role, .slices, .mbx, .ep0, .ep1, .basin, .jig, .csc, .twin, .itw, .cry, .port0, .port1, .macs, .weir, .plb, .ptp,
      .hbm, .gauge, .regs, .fresh] s w := .put rfl rfl rfl rfl rfl applied
  exact .last (ptpRestart_keeps _) (.last (plbApplyMode_keeps _) (.last (hwCount_keeps _ _) (.last (hwCount_keeps _ _) sized)))

theorem startCascade_keeps (s : State) : Keeps [.fw, .csc, .mem] s (startCascade s) := by
  unfold startCascade
  refine .ite ?_ ?_
  · refine .last (startClusters_keeps _ _) ?_
    refine .ite ?_ ?_
    · exact .last (startClusters_keeps _ _) (.put rfl rfl rfl rfl rfl .refl)
    · exact .put rfl rfl rfl rfl rfl .refl
  · refine .ite ?_ ?_
    · exact .last (startClusters_keeps _ _) (.put rfl rfl rfl rfl rfl .refl)
    · exact .put rfl rfl rfl rfl rfl .refl

theorem execBootComplete_runs (s : State) :
    Runs [.dev, .hw, .fw, .role, .slices, .mbx, .ep0, .ep1, .basin, .jig, .csc, .twin, .itw, .cry, .port0, .port1, .macs, .weir, .plb,
      .ptp, .hbm, .gauge, .regs, .mem, .out, .fresh] s
      (execBootComplete s) := by
  unfold execBootComplete
  refine .ite ?_ ?_
  · exact .next .refl
  · refine .ite ?_ ?_
    · exact .next (.put rfl rfl rfl rfl rfl .refl)
    · refine .ite ?_ ?_
      · exact .next .refl
      · refine .next ?_
        refine .last (itwLines_keeps _) ?_
        refine .last (noteMode_keeps _ _ _) ?_
        refine .put rfl rfl rfl rfl rfl ?_
        refine .ite ?_ ?_
        · exact .last (startCascade_keeps _) (.last (hwSet_keeps _ _ _) (.mono (provisionInit_keeps _)))
        · exact .last (hwSet_keeps _ _ _) (.mono (provisionInit_keeps _))

theorem sessionsEnd_keeps (s : State) : Keeps [.mbx, .mctp, .regs, .out] s (sessionsEnd s) := by
  unfold sessionsEnd
  exact .foldl (.put rfl rfl rfl rfl rfl .refl) (fun _ _ => .mono (bumpHostGen_keeps _ _))

theorem raiseSvns_keeps (s : State) (h : Handover) : Keeps [.hw] s (raiseSvns s h) := by
  unfold raiseSvns
  exact .mono (hwSet_keeps _ _ _)

theorem execHandoverComplete_runs (s : State) :
    Runs [.dev, .hw, .fw, .role, .slices, .mbx, .mctp, .ep0, .ep1, .basin, .jig, .csc, .twin, .itw, .cry, .port0, .port1, .macs, .weir,
      .plb, .ptp, .hbm, .gauge, .regs, .mem, .out, .fresh] s
      (execHandoverComplete s) := by
  unfold execHandoverComplete
  split
  · refine .ite ?_ ?_
    · refine .next ?_
      refine .last (itwLines_keeps _) ?_
      refine .last (handoverEnd_keeps _ _ _) ?_
      refine .ite ?_ ?_
      · refine .put rfl rfl rfl rfl rfl ?_
        refine .last (startCascade_keeps _) ?_
        refine .last (provisionInit_keeps _) ?_
        refine .last (sessionsEnd_keeps _) ?_
        refine .ite ?_ ?_
        · exact .last (raiseSvns_keeps _ _) (.mono (hwSetField_keeps _ _ _ _ _))
        · exact .mono (hwSetField_keeps _ _ _ _ _)
      · refine .last (sessionsEnd_keeps _) ?_
        refine .ite ?_ ?_
        · exact .last (raiseSvns_keeps _ _) (.mono (hwSetField_keeps _ _ _ _ _))
        · exact .mono (hwSetField_keeps _ _ _ _ _)
    · exact .next .refl
  · exact .next .refl

theorem retireItwLane_keeps (s : State) (lane : Nat) :
    Keeps [.dev, .hw, .mbx, .ep0, .ep1, .itw, .gauge, .regs] s (retireItwLane s lane) := by
  unfold retireItwLane
  refine .ite ?_ ?_
  · exact .refl
  · refine .last (noteMode_keeps _ _ _) ?_
    refine .last (noteRetired_keeps _ _ _ _ _ _) ?_
    exact .last (hwSetField_keeps _ _ _ _ _) (.put rfl rfl rfl rfl rfl .refl)

theorem laneFail_keeps (s : State) (port lane : Nat) :
    Keeps [.dev, .hw, .mbx, .ep0, .ep1, .itw, .port0, .port1, .macs, .gauge, .regs] s (laneFail s port lane) := by
  unfold laneFail
  refine .ite ?_ ?_
  · exact .refl
  · exact .ite (.mono (retireItwLane_keeps _ _)) (.ite .refl (.mono (retireEthLane_keeps _ _ _ _)))

theorem execEthLaneFecThreshold_runs (port lane : Nat) (s : State) :
    Runs [.dev, .hw, .mbx, .ep0, .ep1, .itw, .port0, .port1, .macs, .gauge, .regs] s (execEthLaneFecThreshold port lane s) := by
  unfold execEthLaneFecThreshold
  exact .next (.mono (laneFail_keeps _ _ _))

theorem execLaneLockLoss_runs (port lane : Nat) (s : State) :
    Runs [.dev, .hw, .mbx, .ep0, .ep1, .itw, .port0, .port1, .macs, .gauge, .regs] s (execLaneLockLoss port lane s) := by
  unfold execLaneLockLoss
  exact .next (.mono (laneFail_keeps _ _ _))

theorem modeEnter_keeps (s : State) (base : BaseMode) :
    Keeps [.dev, .hw, .mbx, .ep0, .ep1, .rings, .basin, .itw, .nvt, .macs, .gauge, .regs, .out] s (modeEnter s base) := by
  unfold modeEnter
  refine .ite ?_ ?_
  · refine .last (pumpAll_keeps _ _) ?_
    refine .last (pumpAll_keeps _ _) ?_
    exact .last (itwLines_keeps _) (.last (noteMode_keeps _ _ _) (.put rfl rfl rfl rfl rfl .refl))
  · exact .last (itwLines_keeps _) (.last (noteMode_keeps _ _ _) (.put rfl rfl rfl rfl rfl .refl))

theorem isolate_keeps (s : State) : Keeps [.dev, .hw, .mbx, .ep0, .ep1, .macs, .gauge, .regs] s (isolate s) := by
  unfold isolate
  refine .last (noteMode_keeps _ _ _) ?_
  exact .foldl (.put rfl rfl rfl rfl rfl .refl) (fun _ _ => .ite (.mono (linkChange_keeps _ _ _ _)) .refl)

theorem modeSet_keeps (s : State) (target : Nat) :
    Keeps [.dev, .hw, .mbx, .ep0, .ep1, .rings, .basin, .itw, .nvt, .macs, .gauge, .regs, .out] s (modeSet s target) := by
  unfold modeSet
  refine .ite ?_ ?_
  · exact .put rfl rfl rfl rfl rfl .refl
  · refine .ite ?_ ?_
    · exact .ite (.put rfl rfl rfl rfl rfl .refl) (.mono (modeEnter_keeps _ _))
    · exact .ite (.mono (modeEnter_keeps _ _)) (.ite (.mono (isolate_keeps _)) (.put rfl rfl rfl rfl rfl .refl))

theorem execDeviceModeSet_runs (ch seq : Nat) (s : State) :
    Runs [.dev, .hw, .fw, .mbx, .ep0, .ep1, .rings, .basin, .itw, .nvt, .macs, .gauge, .regs, .out] s (execDeviceModeSet ch seq s) := by
  unfold execDeviceModeSet
  refine command_runs (fun _ => ?_)
  dsimp only
  split
  · exact .mono (answer_kept _ _ _ _ _)
  · exact .last (answer_kept _ _ _ _ _) (.mono (modeSet_keeps _ _))

theorem execQuiescentEntryDone_runs (s : State) :
    Runs [.dev, .hw, .fw, .mbx, .ep0, .ep1, .jig, .itw, .macs, .gauge, .regs, .out, .fresh] s (execQuiescentEntryDone s) := by
  unfold execQuiescentEntryDone
  refine .ite ?_ ?_
  · refine .next ?_
    refine .last (noteMode_keeps _ _ _) ?_
    refine .last (itwLinkDown_keeps _) ?_
    refine .last (itwLines_keeps _) ?_
    exact .foldl (.put rfl rfl rfl rfl rfl .refl) (fun _ _ => .ite (.mono (linkChange_keeps _ _ _ _)) .refl)
  · exact .next .refl

theorem execQuiescentExitDone_runs (s : State) :
    Runs [.dev, .hw, .mbx, .ep0, .ep1, .itw, .gauge, .regs, .out] s (execQuiescentExitDone s) := by
  unfold execQuiescentExitDone
  refine .ite ?_ ?_
  · exact .next (.last (itwLines_keeps _) (.last (noteMode_keeps _ _ _) (.put rfl rfl rfl rfl rfl .refl)))
  · exact .next .refl

theorem execDeviceModeQuery_runs (ch seq : Nat) (s : State) : Runs [.fw, .mbx, .gauge, .regs] s (execDeviceModeQuery ch seq s) := by
  unfold execDeviceModeQuery
  exact command_runs (fun _ => .mono (answer_kept _ _ _ _ _))

theorem execRetirementQuery_runs (ch seq : Nat) (s : State) : Runs [.fw, .mbx, .gauge, .regs] s (execRetirementQuery ch seq s) := by
  unfold execRetirementQuery
  exact command_runs (fun _ => .mono (answer_kept _ _ _ _ _))

theorem execBasinAreaSet_runs (ch seq : Nat) (s : State) : Runs [.hw, .fw, .mbx, .gauge, .regs] s (execBasinAreaSet ch seq s) := by
  unfold execBasinAreaSet
  refine command_runs (fun _ => ?_)
  refine .ite ?_ ?_
  · exact .mono (answer_kept _ _ _ _ _)
  · exact .ite (.mono (answer_kept _ _ _ _ _)) (.last (answer_kept _ _ _ _ _) (.mono (hwSet_keeps _ _ _)))

/-! Manage: management. -/

theorem execDeviceQuery_runs (ch seq : Nat) (s : State) : Runs [.fw, .mbx, .gauge, .regs] s (execDeviceQuery ch seq s) := by
  unfold execDeviceQuery
  exact command_runs (fun _ => .mono (answer_kept _ _ _ _ _))

theorem execEventMaskSet_runs (ch seq : Nat) (s : State) : Runs [.fw, .mbx, .gauge, .regs] s (execEventMaskSet ch seq s) := by
  unfold execEventMaskSet
  refine command_runs (fun _ => ?_)
  refine .ite ?_ ?_
  · exact .mono (answer_kept _ _ _ _ _)
  · exact .last (answer_kept _ _ _ _ _) (.mono (chanMod_keeps (fun _ => .same rfl rfl rfl rfl)))

theorem execEventMaskRead_runs (ch seq : Nat) (s : State) : Runs [.fw, .mbx, .gauge, .regs] s (execEventMaskRead ch seq s) := by
  unfold execEventMaskRead
  refine command_runs (fun _ => ?_)
  exact .last (answer_kept _ _ _ _ _) (.mono (chanMod_keeps (fun _ => .same rfl rfl rfl rfl)))

theorem execEcho_runs (ch seq : Nat) (s : State) : Runs [.fw, .mbx, .gauge, .regs] s (execEcho ch seq s) := by
  unfold execEcho
  exact command_runs (fun _ => .mono (answer_kept _ _ _ _ _))

theorem execMgrRoleQuery_runs (ch seq : Nat) (s : State) : Runs [.fw, .mbx, .gauge, .regs] s (execMgrRoleQuery ch seq s) := by
  unfold execMgrRoleQuery
  exact command_runs (fun _ => .mono (answer_kept _ _ _ _ _))

theorem execMgrRoleConfig_runs (ch seq : Nat) (s : State) : Runs [.hw, .fw, .mbx, .gauge, .regs] s (execMgrRoleConfig ch seq s) := by
  unfold execMgrRoleConfig
  refine command_runs (fun _ => ?_)
  exact .ite (.mono (answer_kept _ _ _ _ _)) (.last (answer_kept _ _ _ _ _) (.mono (hwSet_keeps _ _ _)))

theorem execMgrRoleTransfer_runs (ch seq : Nat) (s : State) :
    Runs [.fw, .role, .mbx, .gauge, .regs] s (execMgrRoleTransfer ch seq s) := by
  unfold execMgrRoleTransfer
  refine command_runs (fun _ => ?_)
  exact .ite (.last (answer_kept _ _ _ _ _) (.mono (setHolder_keeps _ _ _))) (.mono (answer_kept _ _ _ _ _))

theorem execMgrRoleReclaim_runs (ch seq : Nat) (s : State) :
    Runs [.dev, .hw, .fw, .role, .mbx, .ep0, .ep1, .gauge, .regs] s (execMgrRoleReclaim ch seq s) := by
  unfold execMgrRoleReclaim
  refine command_runs (fun _ => ?_)
  refine .ite ?_ ?_
  · refine .last (answer_kept _ _ _ _ _) ?_
    exact .last (noteMode_keeps _ _ _) (.put rfl rfl rfl rfl rfl (.mono (setHolder_keeps _ _ _)))
  · exact .mono (answer_kept _ _ _ _ _)

theorem execMctpConfig_runs (ch seq : Nat) (s : State) : Runs [.hw, .fw, .mbx, .mctp, .gauge, .regs] s (execMctpConfig ch seq s) := by
  unfold execMctpConfig
  refine command_runs (fun _ => ?_)
  refine .ite ?_ ?_
  · exact .mono (answer_kept _ _ _ _ _)
  · exact .last (answer_kept _ _ _ _ _) (.put rfl rfl rfl rfl rfl (.mono (hwSet_keeps _ _ _)))

theorem Runs.out {ps : List Part} {s : State} {o : Host.Outcome State Fault Refusal} (h : Runs ps s o) : Keeps ps s (outState s o) := by
  obtain ⟨t, rfl, ht⟩ := h
  exact ht

/-! Access: accesses. -/

theorem hwPut_keeps (s : State) (w v : Nat) : Keeps [.hw, .fw, .mbx, .plb, .gauge, .regs] s (hwPut s w v) := by
  unfold hwPut
  refine .ite ?_ ?_
  · exact .refl
  · exact .ite (.last (plbApplyMode_keeps _) (.mono (hwSet_keeps _ _ _))) (.mono (hwSet_keeps _ _ _))

theorem hwWrite_keeps (s : State) (master w v : Nat) : Keeps [.hw, .fw, .mbx, .plb, .gauge, .regs] s (hwWrite s master w v) := by
  unfold hwWrite
  refine .ite ?_ ?_
  · exact .refl
  · refine .ite ?_ ?_
    · exact .put rfl rfl rfl rfl rfl (.put rfl rfl rfl rfl rfl .refl)
    · refine .ite ?_ ?_
      · split
        · exact .last (hwPut_keeps _ _ _) (.last (hwPut_keeps _ _ _) (.put rfl rfl rfl rfl rfl .refl))
        · exact .mono (hwPut_keeps _ _ _)
      · exact .mono (hwPut_keeps _ _ _)

theorem viewWrite_keeps (s : State) (master w mask v : Nat) :
    Keeps [.hw, .fw, .mbx, .plb, .gauge, .regs] s (viewWrite s master w mask v) := by
  unfold viewWrite
  exact .ite (.mono (hwWrite_keeps _ _ _ _)) .refl

theorem execHeartwoodWrite_runs (master w : Nat) (value : Word) (s : State) :
    Runs [.hw, .fw, .mbx, .plb, .gauge, .regs] s (execHeartwoodWrite master w value s) := by
  unfold execHeartwoodWrite
  exact .ite (.next .refl) (.next (.mono (hwWrite_keeps _ _ _ _)))

theorem bufWrite_keeps (s : State) (ch off : Nat) (data : Bytes) : Keeps [.mbx, .ep0, .ep1, .regs] s (bufWrite s ch off data) := by
  unfold bufWrite
  exact .ite (.mono (rejectPost_keeps _ _)) (.mono (chanMod_keeps (fun _ => .same rfl rfl rfl rfl)))

theorem mbxHostWrite_keeps (s : State) (ch o be v : Nat) :
    Keeps [.mbx, .mctp, .ep0, .ep1, .regs, .out] s (mbxHostWrite s ch o be v) := by
  unfold mbxHostWrite
  refine .ite ?_ ?_
  · exact .ite (.mono (hostPost_keeps _ _ _ _)) .refl
  · refine .ite ?_ ?_
    · exact .mono (chanMod_keeps (fun _ => .same rfl rfl rfl rfl))
    · refine .ite ?_ ?_
      · exact .ite (.mono (hostAck_keeps _ _)) .refl
      · refine .ite ?_ ?_
        · exact .mono (chanMod_keeps (fun _ => .same rfl rfl rfl rfl))
        · exact .ite (.mono (bufWrite_keeps _ _ _ _)) .refl

theorem busError_keeps (s : State) (master : Nat) : Keeps [.out] s (busError s master) := by
  unfold busError
  exact .ite .refl (.mono (emit_keeps _ _))

theorem mbxFwWrite_keeps (s : State) (master ch o be v : Nat) :
    Keeps [.mbx, .ep0, .ep1, .regs, .out] s (mbxFwWrite s master ch o be v) := by
  unfold mbxFwWrite
  refine .ite ?_ (.ite ?_ (.ite ?_ (.ite ?_ .refl)))
  · exact .ite (.mono (fwAck_keeps _ _)) .refl
  · split
    · exact .last (bump_keeps _ _) (.mono (busError_keeps _ _))
    next room =>
      exact .ite .refl (.ite (.mono (bump_keeps _ _)) (.mono (fwPostMsg_keeps _ _ _ _ (Bool.not_eq_true _ ▸ room))))
  · exact .mono (chanSet_keeps (.same rfl rfl rfl rfl))
  · exact .ite (.last (bump_keeps _ _) (.mono (busError_keeps _ _))) (.mono (chanSet_keeps (.same rfl rfl rfl rfl)))

theorem msixWrite_keeps (s : State) (ep f o be v : Nat) : Keeps [.ep0, .ep1] s (msixWrite s ep f o be v) := by
  unfold msixWrite
  exact .ite .refl (.mono (fnMod_keeps _ _ _ _))

theorem doorbellWrite_keeps (s : State) (ep f o : Nat) (v : Word) (full : Bool) :
    Keeps [.hw, .mbx, .ep0, .ep1, .rings, .basin, .nvt, .macs, .gauge, .regs, .out] s (doorbellWrite s ep f o v full) := by
  unfold doorbellWrite
  refine Runs.out ?_
  split_ifs
  · exact .mono (execHifVfDbTx_runs _ _ _ _ _)
  · exact .mono (execHifVfDbRx_runs _ _ _ _ _)
  · exact .mono (execHifVfDbCq_runs _ _ _ _ _)
  · exact .mono (execHifVfDbChain_runs _ _ _ _ _)
  · exact .mono (execHifVfItr_runs _ _ _ _ _)
  · exact .next .refl

theorem mbxPageWrite_keeps (s : State) (ch o be v : Nat) :
    Keeps [.mbx, .mctp, .ep0, .ep1, .regs, .out] s (mbxPageWrite s ch o be v) := by
  unfold mbxPageWrite
  exact .ite (.mono (unboundWrite_keeps _ _)) (.mono (mbxHostWrite_keeps _ _ _ _ _))

theorem hostIslandWrite_opt (s : State) (master ep o be v : Nat) :
    OptKeeps [.hw, .mbx, .mctp, .ep0, .ep1, .rings, .basin, .nvt, .macs, .gauge, .regs, .out] s (hostIslandWrite s master ep o be v) := by
  unfold hostIslandWrite
  refine .ite ?_ ?_
  · exact .some (.mono (ltrWrite_keeps _ _ _))
  · refine .ite ?_ ?_
    · exact .some (.ite (.mono (containRelease_keeps _ _ _ _)) .refl)
    · refine .ite ?_ ?_
      · exact .some (.mono (msixWrite_keeps _ _ _ _ _ _))
      · refine .ite ?_ ?_
        · exact .some (.mono (mbxHostWrite_keeps _ _ _ _ _))
        · exact .ite (.some (.mono (doorbellWrite_keeps _ _ _ _ _ _))) .none

theorem vfPageWrite_opt (s : State) (ep f o be v : Nat) :
    OptKeeps [.hw, .mbx, .mctp, .ep0, .ep1, .rings, .basin, .nvt, .macs, .gauge, .regs, .out] s (vfPageWrite s ep f o be v) := by
  unfold vfPageWrite
  refine .ite ?_ ?_
  · exact .some (.ite (.mono (fnMod_keeps _ _ _ _)) .refl)
  · refine .ite ?_ ?_
    · exact .some (.mono (doorbellWrite_keeps _ _ _ _ _ _))
    · exact .ite (.some (.mono (mbxPageWrite_keeps _ _ _ _ _))) .none

theorem cisternWrite_opt (s : State) (o be v : Nat) : OptKeeps [.cst] s (cisternWrite s o be v) := by
  unfold cisternWrite
  exact .ite (.some (.put rfl rfl rfl rfl rfl .refl)) (.ite (.some (.put rfl rfl rfl rfl rfl .refl)) .none)

theorem timeWrite_opt (s : State) (o be v : Nat) : OptKeeps [.time, .plb, .regs] s (timeWrite s o be v) := by
  unfold timeWrite
  refine .ite ?_ ?_
  · exact .some (.put rfl rfl rfl rfl rfl .refl)
  · refine .ite ?_ ?_
    · exact .some (.ite (.mono (setReg_keeps _ _ _)) .refl)
    · refine .ite ?_ ?_
      · exact .some (.ite (.mono (setAdj_keeps _ _)) .refl)
      · exact .ite (.some (.mono (hostSample_keeps _ _))) .none

theorem regStore_keeps (s : State) (a : Nat) (d : RegDesc) (be v : Nat) : Keeps [.regs] s (regStore s a d be v) := by
  unfold regStore
  exact .ite .refl (.mono (setReg_keeps _ _ _))

theorem regAfter_keeps (s : State) (a be v : Nat) (d : RegDesc) :
    Keeps [.dev, .hw, .mbx, .ep0, .ep1, .itw, .tio, .gauge, .regs, .out] s (regAfter s a be v d) := by
  unfold regAfter
  refine .ite ?_ ?_
  · exact .ite .refl (.mono (regStore_keeps _ _ _ _ _))
  · refine .ite ?_ ?_
    · exact .ite (.mono (regStore_keeps _ _ _ _ _)) .refl
    · refine .ite ?_ ?_
      · exact .ite (.mono (regStore_keeps _ _ _ _ _)) .refl
      · refine .ite ?_ ?_
        · exact .mono (setReg_keeps _ _ _)
        · refine .ite ?_ ?_
          · refine .ite ?_ ?_
            · exact .last (Runs.out (execTioArm_runs _ _)) (.mono (regStore_keeps _ _ _ _ _))
            · exact .mono (regStore_keeps _ _ _ _ _)
          · refine .ite ?_ ?_
            · refine .ite ?_ ?_
              · exact .put rfl rfl rfl rfl rfl (.mono (regStore_keeps _ _ _ _ _))
              · exact .mono (regStore_keeps _ _ _ _ _)
            · refine .ite ?_ ?_
              · exact .last (fnMod_keeps _ _ _ _) (.mono (regStore_keeps _ _ _ _ _))
              · exact .ite (.ite (.mono (setActReq_keeps _ _)) .refl) (.mono (regStore_keeps _ _ _ _ _))

theorem regHook_opt (s : State) (master a be v : Nat) :
    OptKeeps [.hw, .mbx, .mctp, .ep0, .ep1, .rings, .basin, .cst, .nvt, .macs, .time, .plb, .gauge, .regs, .out] s
      (regHook s master a be v) := by
  unfold regHook
  refine .ite ?_ ?_
  · refine .ite ?_ ?_
    · exact .mono (hostIslandWrite_opt _ _ _ _ _ _)
    · refine .ite ?_ ?_
      · exact .mono (cisternWrite_opt _ _ _ _)
      · exact .ite (.some (.mono (mbxFwWrite_keeps _ _ _ _ _ _))) (.ite (.mono (timeWrite_opt _ _ _ _)) .none)
  · refine .ite ?_ ?_
    · exact .mono (vfPageWrite_opt _ _ _ _ _ _)
    · refine .ite ?_ ?_
      · exact .some (.mono (mbxHostWrite_keeps _ _ _ _ _))
      · exact .ite (.some (.mono (msixWrite_keeps _ _ _ _ _ _))) .none

theorem regWrite_keeps (s : State) (master a be : Nat) (value : Word) :
    Keeps [.dev, .hw, .fw, .mbx, .mctp, .ep0, .ep1, .rings, .basin, .cst, .itw, .nvt, .macs, .time, .tio, .plb, .gauge, .regs, .out] s
      (regWrite s master a be value) := by
  unfold regWrite
  refine .ite ?_ ?_
  · exact .mono (bump_keeps _ _)
  · split
    · exact .mono (regHook_opt _ _ _ _ _ _ ‹_›)
    · split
      · exact .refl
      · refine .ite ?_ ?_
        · split
          · exact .mono (viewWrite_keeps _ _ _ _ _)
          · exact .refl
        · refine .last (regAfter_keeps _ _ _ _ _) ?_
          split
          · exact .mono (viewWrite_keeps _ _ _ _ _)
          · exact .refl

theorem readEffect_keeps (s : State) (a : Nat) (h : RegHit) : Keeps [.macs, .time, .tio, .regs] s (readEffect s a h) := by
  unfold readEffect
  refine .ite ?_ ?_
  · exact .mono (capPop_keeps _ _)
  · refine .ite ?_ ?_
    · exact .mono (stampPop_keeps _ _)
    · exact .ite (.put rfl rfl rfl rfl rfl .refl) (.ite .refl (.mono (setReg_keeps _ _ _)))

theorem regRead_keeps (s : State) (master a : Nat) : Keeps [.macs, .time, .tio, .regs, .latches] s (regRead s master a).2 := by
  unfold regRead
  dsimp only
  split
  · exact .put rfl rfl rfl rfl rfl .refl
  · split
    · exact .refl
    · exact .ite (.put rfl rfl rfl rfl rfl (.mono (readEffect_keeps _ _ _))) (.mono (readEffect_keeps _ _ _))

theorem regReadOut_keeps (s : State) (master a : Nat) : Keeps [.macs, .time, .tio, .regs, .latches, .out] s (regReadOut s master a) := by
  unfold regReadOut
  exact .last (emit_keeps _ _) (.mono (regRead_keeps _ _ _))

theorem unsupported_keeps (s : State) (ep f : Nat) : Keeps [.ep0, .ep1, .regs] s (unsupported s ep f) := by
  unfold unsupported
  exact .last (bump_keeps _ _) (.mono (aerLog_keeps _ _ _ _))

theorem gatedRead_keeps (s : State) (master a : Nat) :
    Keeps [.ep0, .ep1, .macs, .time, .tio, .regs, .latches, .out] s (gatedRead s master a) := by
  unfold gatedRead
  split
  · exact .mono (regReadOut_keeps _ _ _)
  · exact .mono (emit_keeps _ _)
  · exact .last (emit_keeps _ _) (.mono (unsupported_keeps _ _ _))
  · exact .refl

theorem execRegisterWrite_runs (master a be : Nat) (value : Word) (s : State) :
    Runs [.dev, .hw, .fw, .mbx, .mctp, .ep0, .ep1, .rings, .basin, .cst, .itw, .nvt, .macs, .time, .tio, .plb, .gauge, .regs, .out] s
      (execRegisterWrite master a be value s) := by
  unfold execRegisterWrite
  split
  · exact .next (.mono (regWrite_keeps _ _ _ _ _))
  · exact .next (.mono (unsupported_keeps _ _ _))
  · exact .next .refl
  · exact .next .refl

theorem execRcRegisterRead_runs (master a : Nat) (s : State) :
    Runs [.ep0, .ep1, .macs, .time, .tio, .regs, .latches, .out] s (execRcRegisterRead master a s) := by
  unfold execRcRegisterRead
  exact .next (.mono (gatedRead_keeps _ _ _))

theorem execCounterLoRead_runs (master a : Nat) (s : State) :
    Runs [.ep0, .ep1, .macs, .time, .tio, .regs, .latches, .out] s (execCounterLoRead master a s) := by
  unfold execCounterLoRead
  exact .next (.mono (gatedRead_keeps _ _ _))

theorem execTimeNowSLoRead_runs (master : Nat) (s : State) :
    Runs [.ep0, .ep1, .macs, .time, .tio, .regs, .latches, .out] s (execTimeNowSLoRead master s) := by
  unfold execTimeNowSLoRead
  exact .next (.mono (gatedRead_keeps _ _ _))

theorem memPut_keeps (s : State) (a be v : Nat) : Keeps [.gauge, .mem] s (memPut s a be v) := by
  have traced : ∀ m, Keeps [.gauge, .mem] s { s with gauge := { s.gauge with trace := m } } := fun _ => .put rfl rfl rfl rfl rfl .refl
  generalize body : memPut = f
  delta memPut at body
  subst body
  beta_reduce
  split
  · exact traced _
  · exact .mono (memWriteN_keeps _ _ _)

theorem wayPut_keeps (s : State) (a be v : Nat) : Keeps [.cst] s (wayPut s a be v) := by
  unfold wayPut
  exact .put rfl rfl rfl rfl rfl .refl

theorem busRead_keeps (s : State) (master a : Nat) : Keeps [.macs, .time, .tio, .regs, .latches] s (busRead s master a).2 := by
  unfold busRead
  split
  · exact .mono (regRead_keeps _ _ _)
  · exact .refl

theorem busWrite_keeps (s : State) (master a be v : Nat) :
    Keeps [.dev, .hw, .fw, .mbx, .mctp, .ep0, .ep1, .rings, .basin, .cst, .itw, .nvt, .macs, .time, .tio, .plb, .gauge, .regs, .mem,
      .out] s
      (busWrite s master a be v) := by
  unfold busWrite
  refine .ite ?_ ?_
  · exact .mono (hwWrite_keeps _ _ _ _)
  · refine .ite ?_ ?_
    · exact .mono (regWrite_keeps _ _ _ _ _)
    · exact .ite (.mono (wayPut_keeps _ _ _ _)) (.mono (memPut_keeps _ _ _ _))

theorem busReadN_keeps (s : State) (master a n : Nat) : Keeps [.macs, .time, .tio, .regs, .latches] s (busReadN s master a n).2 := by
  induction n generalizing s a with
  | zero => exact .refl
  | succ n ih => exact .last (ih _ _) (busRead_keeps _ _ _)

theorem busWriteN_keeps (s : State) (master a len w n : Nat) (b : Bytes) :
    Keeps [.dev, .hw, .fw, .mbx, .mctp, .ep0, .ep1, .rings, .basin, .cst, .itw, .nvt, .macs, .time, .tio, .plb, .gauge, .regs, .mem, .out] s
      (busWriteN s master a len w n b) := by
  induction n generalizing s w b with
  | zero => exact .refl
  | succ n ih => exact .last (ih _ _ _) (busWrite_keeps _ _ _ _ _)

theorem accessRead_keeps (s : State) (master a len : Nat) :
    Keeps [.macs, .time, .tio, .regs, .latches] s (accessRead s master a len).2 := by
  unfold accessRead
  exact .mono (busReadN_keeps _ _ _ _)

theorem accessWrite_keeps (s : State) (master a : Nat) (data : Bytes) :
    Keeps [.dev, .hw, .fw, .mbx, .mctp, .ep0, .ep1, .rings, .basin, .cst, .itw, .nvt, .macs, .time, .tio, .plb, .gauge, .regs, .mem,
      .out] s
      (accessWrite s master a data) := by
  unfold accessWrite
  exact .mono (busWriteN_keeps _ _ _ _ _ _ _)

theorem execFabricAccess_runs (master a len : Nat) (data : Option Bytes) (s : State) :
    Runs [.dev, .hw, .fw, .mbx, .mctp, .ep0, .ep1, .rings, .basin, .cst, .csc, .itw, .nvt, .macs, .time, .tio, .plb, .gauge, .regs,
      .latches, .mem, .out, .fresh] s
      (execFabricAccess master a len data s) := by
  unfold execFabricAccess
  refine .ite ?_ ?_
  · exact .next .refl
  · split
    · refine .ite ?_ ?_
      · exact .next (.last (emit_keeps _ _) (.mono (accessRead_keeps _ _ _ _)))
      · exact .next (.ite (.last (windowFault_keeps _ _ _ _ _) (.mono (emit_keeps _ _))) (.mono (emit_keeps _ _)))
    · exact .ite (.next (.mono (accessWrite_keeps _ _ _ _))) (.next (.mono (errlog_keeps _ _ _ _ _ _)))

theorem windowError_keeps (s : State) (ep off : Nat) (write : Bool) : Keeps [.regs] s (windowError s ep off write) := by
  unfold windowError
  exact .last (capture_keeps _ _ _) (.mono (bump_keeps _ _))

theorem execBar0Access_runs (ep off len : Nat) (data : Option Bytes) (s : State) :
    Runs [.dev, .hw, .fw, .mbx, .mctp, .ep0, .ep1, .rings, .basin, .cst, .itw, .nvt, .macs, .time, .tio, .plb, .gauge, .regs, .latches,
      .mem, .out] s
      (execBar0Access ep off len data s) := by
  unfold execBar0Access
  refine .ite ?_ ?_
  · exact .next .refl
  · split
    · exact .next .refl
    · exact .next (.last (emit_keeps _ _) (.mono (unsupported_keeps _ _ _)))
    · exact .next (.mono (unsupported_keeps _ _ _))
    · exact .next (.mono (emit_keeps _ _))
    · exact .next .refl
    · refine .ite ?_ ?_
      · exact .next (.last (emit_keeps _ _) (.mono (unsupported_keeps _ _ _)))
      · refine .ite ?_ ?_
        · exact .next (.last (emit_keeps _ _) (.mono (accessRead_keeps _ _ _ _)))
        · exact .next (.last (emit_keeps _ _) (.mono (windowError_keeps _ _ _ _)))
    · refine .ite ?_ ?_
      · split
        · exact .next (.ite (.mono (bufWrite_keeps _ _ _ _)) .refl)
        · exact .next (.mono (accessWrite_keeps _ _ _ _))
      · exact .next (.mono (windowError_keeps _ _ _ _))

/-! Gauge: Gauge. -/

theorem execHwdRead_runs (ch seq : Nat) (s : State) : Runs [.fw, .mbx, .gauge, .regs] s (execHwdRead ch seq s) := by
  unfold execHwdRead
  exact command_runs (fun _ => .ite (.mono (answer_kept _ _ _ _ _)) (.mono (answer_kept _ _ _ _ _)))

theorem execHwdWrite_runs (ch seq : Nat) (s : State) : Runs [.hw, .fw, .mbx, .plb, .gauge, .regs] s (execHwdWrite ch seq s) := by
  unfold execHwdWrite
  refine command_runs (fun _ => ?_)
  refine .ite ?_ ?_
  · exact .mono (answer_kept _ _ _ _ _)
  · refine .ite ?_ ?_
    · exact .mono (answer_kept _ _ _ _ _)
    · refine .ite ?_ ?_
      · exact .mono (answer_kept _ _ _ _ _)
      · refine .last (answer_kept _ _ _ _ _) ?_
        exact .ite (.last (plbApplyMode_keeps _) (.mono (hwJournal_keeps _ _ _))) (.mono (hwJournal_keeps _ _ _))

theorem counterClear_keeps (s : State) (id a : Nat) : Keeps [.regs] s (counterClear s id a) := by
  unfold counterClear
  exact .ite (.mono (setReg_keeps _ _ _)) .refl

theorem execGauCounterRead_runs (ch seq : Nat) (s : State) : Runs [.fw, .mbx, .gauge, .regs] s (execGauCounterRead ch seq s) := by
  unfold execGauCounterRead
  refine command_runs (fun req => ?_)
  dsimp only
  split_ifs
  · exact .mono (answer_kept _ _ _ _ _)
  · exact .mono (answer_kept _ _ _ _ _)
  · exact .last (answer_kept _ _ _ _ _) (.foldl_snd (fun _ _ h => .last (counterClear_keeps _ _ _) h) .refl)
  · refine .last (answer_kept _ _ _ _ _) (.foldl_snd (s := s) (fun _ _ h => ?_) .refl)
    exact h

theorem execGauSnapshot_runs (ch seq : Nat) (s : State) : Runs [.fw, .mbx, .gauge, .regs] s (execGauSnapshot ch seq s) := by
  unfold execGauSnapshot
  refine command_runs (fun _ => ?_)
  refine .ite ?_ ?_
  · exact .mono (answer_kept _ _ _ _ _)
  · exact .ite (.mono (answer_kept _ _ _ _ _)) (.put rfl rfl rfl rfl rfl (.mono (defer_keeps _ _ _)))

theorem execSnapshotCapture_runs (s : State) : Runs [.fw, .mbx, .gauge, .regs] s (execSnapshotCapture s) := by
  unfold execSnapshotCapture
  split
  · exact .next .refl
  · refine .ite ?_ ?_
    · exact .next .refl
    · refine .next ?_
      refine .last (answer_kept _ _ _ _ _) ?_
      refine .ite ?_ ?_
      · exact .foldl (.put rfl rfl rfl rfl rfl .refl) (fun _ _ => .mono (counterClear_keeps _ _ _))
      · exact .put rfl rfl rfl rfl rfl .refl

theorem execGauSnapshotRead_runs (ch seq : Nat) (s : State) : Runs [.fw, .mbx, .gauge, .regs] s (execGauSnapshotRead ch seq s) := by
  unfold execGauSnapshotRead
  refine command_runs (fun _ => ?_)
  dsimp only
  split
  · exact .mono (answer_kept _ _ _ _ _)
  · exact .ite (.mono (answer_kept _ _ _ _ _)) (.mono (answer_kept _ _ _ _ _))

theorem execGauTraceConfig_runs (ch seq : Nat) (s : State) : Runs [.fw, .mbx, .gauge, .regs] s (execGauTraceConfig ch seq s) := by
  unfold execGauTraceConfig
  refine command_runs (fun _ => ?_)
  refine .ite ?_ ?_
  · exact .mono (answer_kept _ _ _ _ _)
  · refine .ite ?_ ?_
    · exact .mono (answer_kept _ _ _ _ _)
    · exact .last (answer_kept _ _ _ _ _) (.put rfl rfl rfl rfl rfl .refl)

theorem execGauTraceStart_runs (ch seq : Nat) (s : State) : Runs [.fw, .mbx, .gauge, .regs] s (execGauTraceStart ch seq s) := by
  unfold execGauTraceStart
  exact command_runs (fun _ => .last (answer_kept _ _ _ _ _) (.put rfl rfl rfl rfl rfl .refl))

theorem execGauTraceStop_runs (ch seq : Nat) (s : State) : Runs [.fw, .mbx, .gauge, .regs] s (execGauTraceStop ch seq s) := by
  unfold execGauTraceStop
  exact command_runs (fun _ => .last (answer_kept _ _ _ _ _) (.put rfl rfl rfl rfl rfl .refl))

theorem execGauTraceRead_runs (ch seq : Nat) (s : State) : Runs [.fw, .mbx, .gauge, .regs] s (execGauTraceRead ch seq s) := by
  unfold execGauTraceRead
  exact command_runs (fun _ => .ite (.mono (answer_kept _ _ _ _ _)) (.mono (answer_kept _ _ _ _ _)))

theorem execErrlogWindowClose_runs (code : Nat) (s : State) :
    Runs [.hw, .mbx, .ep0, .ep1, .gauge, .regs] s (execErrlogWindowClose code s) := by
  unfold execErrlogWindowClose
  split
  · exact .next .refl
  · refine .next ?_
    split
    · exact .last (errWrite_keeps _ _) (.put rfl rfl rfl rfl rfl .refl)
    · exact .put rfl rfl rfl rfl rfl .refl

theorem execGauErrlogRead_runs (ch seq : Nat) (s : State) : Runs [.fw, .mbx, .gauge, .regs] s (execGauErrlogRead ch seq s) := by
  unfold execGauErrlogRead
  refine command_runs (fun _ => ?_)
  refine .ite ?_ ?_
  · exact .mono (answer_kept _ _ _ _ _)
  · exact .ite (.mono (answer_kept _ _ _ _ _)) (.mono (answer_kept _ _ _ _ _))

/-- The log is emptied, so it holds less than before. -/
theorem execGauErrlogClear_runs (ch seq : Nat) (s : State) : Runs [.hw, .fw, .mbx, .gauge, .regs] s (execGauErrlogClear ch seq s) := by
  have cleared : Keeps [.hw, .fw, .mbx, .gauge, .regs] s { s with gauge := { s.gauge with errlog := [] } } :=
    ⟨.of_patch rfl, id, fun ok => ⟨ok.1, Nat.zero_le _, ok.2.2⟩⟩
  unfold execGauErrlogClear
  refine command_runs (fun req => .last (answer_kept _ _ _ _ _) (.ite ?_ cleared))
  exact .foldl cleared (fun _ _ => .mono (hwJournal_keeps _ _ _))

theorem execGauErrlogQuery_runs (ch seq : Nat) (s : State) : Runs [.fw, .mbx, .gauge, .regs] s (execGauErrlogQuery ch seq s) := by
  unfold execGauErrlogQuery
  exact command_runs (fun _ => .mono (answer_kept _ _ _ _ _))

theorem thermalCross_keeps (s : State) (crossing : Nat) : Keeps [.hw, .mbx, .ep0, .ep1, .gauge, .regs] s (thermalCross s crossing) := by
  unfold thermalCross
  refine .last (eventToManager_keeps _ _ _) ?_
  exact .last (errlog_keeps _ _ _ _ _ _) (.put rfl rfl rfl rfl rfl .refl)

theorem thermalCheck_keeps (s : State) : Keeps [.hw, .mbx, .ep0, .ep1, .gauge, .regs] s (thermalCheck s) := by
  unfold thermalCheck
  refine .ite ?_ ?_
  · refine .last (thermalCross_keeps _ _) ?_
    refine .ite ?_ ?_
    · refine .last (thermalCross_keeps _ _) ?_
      refine .ite ?_ ?_
      · exact .last (thermalCross_keeps _ _) (.ite (.mono (thermalCross_keeps _ _)) .refl)
      · exact .ite (.mono (thermalCross_keeps _ _)) .refl
    · refine .ite ?_ ?_
      · exact .last (thermalCross_keeps _ _) (.ite (.mono (thermalCross_keeps _ _)) .refl)
      · exact .ite (.mono (thermalCross_keeps _ _)) .refl
  · refine .ite ?_ ?_
    · refine .last (thermalCross_keeps _ _) ?_
      refine .ite ?_ ?_
      · exact .last (thermalCross_keeps _ _) (.ite (.mono (thermalCross_keeps _ _)) .refl)
      · exact .ite (.mono (thermalCross_keeps _ _)) .refl
    · refine .ite ?_ ?_
      · exact .last (thermalCross_keeps _ _) (.ite (.mono (thermalCross_keeps _ _)) .refl)
      · exact .ite (.mono (thermalCross_keeps _ _)) .refl

theorem execSensorUpdate_runs (values : List Int) (s : State) :
    Runs [.hw, .mbx, .ep0, .ep1, .gauge, .regs] s (execSensorUpdate values s) := by
  unfold execSensorUpdate
  exact .ite (.next .refl) (.next (.last (thermalCheck_keeps _) (.put rfl rfl rfl rfl rfl .refl)))

theorem execGauSensorRead_runs (ch seq : Nat) (s : State) : Runs [.fw, .mbx, .gauge, .regs] s (execGauSensorRead ch seq s) := by
  unfold execGauSensorRead
  exact command_runs (fun _ => .mono (answer_kept _ _ _ _ _))

theorem execGauDevRead_runs (ch seq : Nat) (s : State) : Runs [.fw, .mbx, .gauge, .regs] s (execGauDevRead ch seq s) := by
  unfold execGauDevRead
  refine command_runs (fun _ => ?_)
  refine .ite ?_ ?_
  · exact .mono (answer_kept _ _ _ _ _)
  · refine .ite ?_ ?_
    · exact .ite (.mono (answer_kept _ _ _ _ _)) (.mono (answer_kept _ _ _ _ _))
    · exact .ite (.mono (answer_kept _ _ _ _ _)) (.mono (answer_kept _ _ _ _ _))

/-! Mctp: MCTP and PLDM. -/

theorem badPacket_keeps (s : State) : Keeps [.mctp] s (badPacket s) := by
  unfold badPacket
  exact .put rfl rfl rfl rfl rfl .refl

theorem badMessage_keeps (s : State) : Keeps [.mctp] s (badMessage s) := by
  unfold badMessage
  exact .put rfl rfl rfl rfl rfl .refl

theorem mctpTake_keeps (s : State) (src : Nat) (via : Option Nat) (b : Bytes) : Keeps [.mctp] s (mctpTake s src via b) := by
  unfold mctpTake
  exact .ite (.put rfl rfl rfl rfl rfl .refl) .refl

theorem execMctpPacketRx_runs (src tag : Nat) (som eom : Bool) (pseq : Nat) (bad : Bool) (body : Bytes) (s : State) :
    Runs [.mctp] s (execMctpPacketRx src tag som eom pseq bad body s) := by
  unfold execMctpPacketRx
  refine .ite ?_ ?_
  · exact .next .refl
  · refine .ite ?_ ?_
    · exact .next (.mono (badPacket_keeps _))
    · dsimp only
      split
      · exact .next (.last (badMessage_keeps _) (.ite (.mono (badMessage_keeps _)) .refl))
      · refine .ite ?_ ?_
        · refine .next ?_
          exact .last (mctpTake_keeps _ _ _ _) (.put rfl rfl rfl rfl rfl (.ite (.mono (badMessage_keeps _)) .refl))
        · exact .next (.put rfl rfl rfl rfl rfl (.ite (.mono (badMessage_keeps _)) .refl))

theorem execMctpAssemblyTimeout_runs (s : State) : Runs [.mctp] s (execMctpAssemblyTimeout s) := by
  unfold execMctpAssemblyTimeout
  exact .ite (.next (.mono (badMessage_keeps _))) (.next .refl)

theorem takeMsg_runs {ps : List Part} {s : State} {kind : Bytes → Bool} {f : State → Option Nat → Bytes → State}
    (h : ∀ u via b, Keeps ps u (f u via b)) (sub : [.mctp] ⊆ ps := by decide) : Runs ps s (takeMsg s kind f) := by
  unfold takeMsg
  split
  · exact .next .refl
  next rest _ =>
    have taken : Keeps ps s { s with mctp := { s.mctp with inbox := rest } } :=
      Keeps.mono (qs := [.mctp]) (.put rfl rfl rfl rfl rfl .refl) sub
    exact .ite (.next (.last (h _ _ _) taken (List.Subset.refl _))) (.next .refl)

theorem ctlReply_keeps (s : State) (via : Option Nat) (b : Bytes) (code : Nat) (data : Bytes) :
    Keeps [.out] s (ctlReply s via b code data) := by
  unfold ctlReply
  exact .mono (mctpSend_keeps _ _ _ _)

theorem ctlRow_runs {ps : List Part} {s : State} {cmd n : Nat} {f : State → Option Nat → Bytes → State}
    (h : ∀ u via b, Keeps ps u (f u via b)) (sub : [.mctp, .out] ⊆ ps := by decide) : Runs ps s (ctlRow s cmd n f) :=
  takeMsg_runs (fun _ _ _ => .ite (h _ _ _) ((ctlReply_keeps _ _ _ _ _).mono (subset_of sub))) (subset_of sub)

theorem execSetEndpointId_runs (s : State) : Runs [.mbx, .mctp, .regs, .out] s (execSetEndpointId s) := by
  unfold execSetEndpointId
  refine ctlRow_runs (fun _ _ _ => ?_)
  refine .ite ?_ ?_
  · exact .mono (ctlReply_keeps _ _ _ _ _)
  · exact .last (bumpHostGen_keeps _ _) (.last (ctlReply_keeps _ _ _ _ _) (.put rfl rfl rfl rfl rfl .refl))

theorem execGetEndpointId_runs (s : State) : Runs [.mctp, .out] s (execGetEndpointId s) := by
  unfold execGetEndpointId
  exact ctlRow_runs (fun _ _ _ => .mono (ctlReply_keeps _ _ _ _ _))

theorem execGetEndpointUuid_runs (s : State) : Runs [.mctp, .out] s (execGetEndpointUuid s) := by
  unfold execGetEndpointUuid
  exact ctlRow_runs (fun _ _ _ => .mono (ctlReply_keeps _ _ _ _ _))

theorem execGetMctpVersionSupport_runs (s : State) : Runs [.mctp, .out] s (execGetMctpVersionSupport s) := by
  unfold execGetMctpVersionSupport
  refine ctlRow_runs (fun _ _ _ => ?_)
  refine .ite ?_ ?_
  · exact .mono (ctlReply_keeps _ _ _ _ _)
  · exact .ite (.mono (ctlReply_keeps _ _ _ _ _)) (.mono (ctlReply_keeps _ _ _ _ _))

theorem execGetMessageTypeSupport_runs (s : State) : Runs [.mctp, .out] s (execGetMessageTypeSupport s) := by
  unfold execGetMessageTypeSupport
  exact ctlRow_runs (fun _ _ _ => .mono (ctlReply_keeps _ _ _ _ _))

theorem execGetVdmSupport_runs (s : State) : Runs [.mctp, .out] s (execGetVdmSupport s) := by
  unfold execGetVdmSupport
  refine ctlRow_runs (fun _ _ _ => ?_)
  exact .ite (.mono (ctlReply_keeps _ _ _ _ _)) (.mono (ctlReply_keeps _ _ _ _ _))

theorem execMctpUnsupportedControl_runs (s : State) : Runs [.mctp, .out] s (execMctpUnsupportedControl s) := by
  unfold execMctpUnsupportedControl
  exact takeMsg_runs (fun _ _ _ => .mono (ctlReply_keeps _ _ _ _ _))

theorem execVdmMessage_runs (s : State) : Runs [.hw, .mbx, .mctp, .ep0, .ep1, .gauge, .regs, .out] s (execVdmMessage s) := by
  unfold execVdmMessage
  refine takeMsg_runs (fun _ _ _ => ?_)
  refine .ite ?_ ?_
  · exact .mono (errlog_keeps _ _ _ _ _ _)
  · refine .ite ?_ ?_
    · exact .last (mctpSend_keeps _ _ _ _) (.mono (hostPost_keeps _ _ _ _))
    · exact .put rfl rfl rfl rfl rfl (.mono (hostPost_keeps _ _ _ _))

theorem execVdmAck_runs (s : State) : Runs [.mbx, .mctp, .ep0, .ep1, .regs, .out] s (execVdmAck s) := by
  unfold execVdmAck
  exact takeMsg_runs (fun _ _ _ => .mono (hostAck_keeps _ _))

theorem execReopen_runs (s : State) : Runs [.mbx, .mctp, .regs, .out] s (execReopen s) := by
  unfold execReopen
  exact takeMsg_runs (fun _ _ _ => .mono (bumpHostGen_keeps _ _))

theorem sessionEnd_keeps (s : State) (sid : Nat) : Keeps [.mbx, .mctp, .regs, .out] s (sessionEnd s sid) := by
  unfold sessionEnd
  refine .ite ?_ ?_
  · exact .last (bumpHostGen_keeps _ _) (.put rfl rfl rfl rfl rfl .refl)
  · exact .put rfl rfl rfl rfl rfl .refl

theorem spdmSessions_keeps (s : State) (via : Option Nat) (req resp : Bytes) :
    Keeps [.mbx, .mctp, .regs, .out] s (spdmSessions s via req resp) := by
  unfold spdmSessions
  refine .ite ?_ ?_
  · exact .put rfl rfl rfl rfl rfl .refl
  · split
    · exact .ite (.put rfl rfl rfl rfl rfl .refl) (.ite (.mono (sessionEnd_keeps _ _)) .refl)
    · exact .refl

theorem execSpdmRequest_runs (doe : Option Nat) (req : Bytes) (s : State) :
    Runs [.mbx, .mctp, .regs, .out, .fresh] s (execSpdmRequest doe req s) := by
  unfold execSpdmRequest
  split
  · exact .ite (.next (.last (emit_keeps _ _) (.mono (drawn_keeps _)))) (.next .refl)
  · refine takeMsg_runs (fun _ _ _ => ?_)
    exact .last (spdmSessions_keeps _ _ _ _) (.last (mctpSend_keeps _ _ _ _) (.mono (drawn_keeps _)))

theorem execSecuredMessage_runs (authentic : Bool) (plain : Bytes) (s : State) :
    Runs [.hw, .mbx, .mctp, .ep0, .ep1, .gauge, .regs, .out] s (execSecuredMessage authentic plain s) := by
  unfold execSecuredMessage
  refine takeMsg_runs (fun _ _ _ => ?_)
  refine .ite ?_ ?_
  · exact .ite (.put rfl rfl rfl rfl rfl .refl) .refl
  · exact .last (errlog_keeps _ _ _ _ _ _) (.mono (sessionEnd_keeps _ _))

theorem pldmReply_keeps (s : State) (via : Option Nat) (b : Bytes) (code : Nat) (data : Bytes) :
    Keeps [.out] s (pldmReply s via b code data) := by
  unfold pldmReply
  exact .mono (mctpSend_keeps _ _ _ _)

theorem pldmBase_keeps (s : State) (via : Option Nat) (b : Bytes) : Keeps [.mctp, .out] s (pldmBase s via b) := by
  unfold pldmBase
  refine .ite ?_ ?_
  · refine .ite ?_ ?_
    · exact .mono (pldmReply_keeps _ _ _ _ _)
    · refine .ite ?_ ?_
      · exact .mono (pldmReply_keeps _ _ _ _ _)
      · exact .last (pldmReply_keeps _ _ _ _ _) (.put rfl rfl rfl rfl rfl .refl)
  · refine .ite ?_ ?_
    · exact .mono (pldmReply_keeps _ _ _ _ _)
    · refine .ite ?_ ?_
      · refine .ite ?_ ?_
        · exact .mono (pldmReply_keeps _ _ _ _ _)
        · exact .ite (.mono (pldmReply_keeps _ _ _ _ _)) (.mono (pldmReply_keeps _ _ _ _ _))
      · refine .ite ?_ ?_
        · exact .mono (pldmReply_keeps _ _ _ _ _)
        · refine .ite ?_ ?_
          · refine .ite ?_ ?_
            · exact .mono (pldmReply_keeps _ _ _ _ _)
            · exact .ite (.mono (pldmReply_keeps _ _ _ _ _)) (.mono (pldmReply_keeps _ _ _ _ _))
          · exact .mono (pldmReply_keeps _ _ _ _ _)

theorem execPldmDiscovery_runs (s : State) : Runs [.mctp, .out] s (execPldmDiscovery s) := by
  unfold execPldmDiscovery
  exact takeMsg_runs (fun _ _ _ => .ite (.mono (pldmBase_keeps _ _ _)) (.mono (pldmReply_keeps _ _ _ _ _)))

theorem execPldmSensorRead_runs (s : State) : Runs [.mctp, .out, .fresh] s (execPldmSensorRead s) := by
  unfold execPldmSensorRead
  refine takeMsg_runs (fun _ _ _ => ?_)
  refine .ite ?_ ?_
  · refine .ite ?_ ?_
    · exact .mono (pldmReply_keeps _ _ _ _ _)
    · exact .ite (.mono (pldmReply_keeps _ _ _ _ _)) (.last (pldmReply_keeps _ _ _ _ _) (.mono (drawn_keeps _)))
  · refine .ite ?_ ?_
    · refine .ite ?_ ?_
      · exact .mono (pldmReply_keeps _ _ _ _ _)
      · exact .ite (.mono (pldmReply_keeps _ _ _ _ _)) (.mono (pldmReply_keeps _ _ _ _ _))
    · exact .mono (pldmReply_keeps _ _ _ _ _)

theorem pldmWrite_keeps (s : State) (kind : Nat) (data : Bytes) : Keeps [.fw, .flash] s (pldmWrite s kind data) := by
  unfold pldmWrite
  refine .put rfl rfl rfl rfl rfl ?_
  exact .last (bankClose_keeps _ _ _) (.last (bankSet_keeps _ _ _ _) (.mono (bankOpen_keeps _ _ _ _)))

theorem updateReply_keeps (s : State) (via : Option Nat) (b : Bytes) (why : Nat) : Keeps [.out, .fresh] s (updateReply s via b why) := by
  unfold updateReply
  exact .last (pldmReply_keeps _ _ _ _ _) (.mono (drawn_keeps _))

theorem updateComponent_keeps (s : State) (via : Option Nat) (b data : Bytes) :
    Keeps [.fw, .flash, .out, .fresh] s (updateComponent s via b data) := by
  have named : ∀ l, Keeps [.fw, .flash, .out, .fresh] s { s with fw := { s.fw with pldm := l } } := fun _ => .put rfl rfl rfl rfl rfl .refl
  unfold updateComponent
  dsimp only
  split_ifs
  · exact .mono (pldmReply_keeps _ _ _ _ _)
  · refine .last (updateReply_keeps _ _ _ _) (OptKeeps.getD (fun u written => ?_))
    exact .last (manifestPut_opt _ _ _ written) (named _)
  · exact .mono (pldmReply_keeps _ _ _ _ _)
  · exact .mono (updateReply_keeps _ _ _ _)
  · exact .last (updateReply_keeps _ _ _ _) (.mono (pldmWrite_keeps _ _ _))
  · exact .mono (updateReply_keeps _ _ _ _)

theorem execPldmUpdateComponent_runs (data : Bytes) (s : State) :
    Runs [.fw, .flash, .mctp, .out, .fresh] s (execPldmUpdateComponent data s) := by
  unfold execPldmUpdateComponent
  refine takeMsg_runs (fun _ _ _ => ?_)
  refine .ite ?_ ?_
  · exact .mono (updateComponent_keeps _ _ _ _)
  · exact .last (mctpSend_keeps _ _ _ _) (.last (drawn_keeps _) (.ite (.put rfl rfl rfl rfl rfl .refl) .refl))

theorem activateReply_keeps (s : State) (via : Option Nat) (b : Bytes) : Keeps [.fw, .out, .fresh] s (activateReply s via b) := by
  unfold activateReply
  exact .last (pldmReply_keeps _ _ _ _ _) (.last (drawn_keeps _) (.put rfl rfl rfl rfl rfl .refl))

theorem activateFirmware_keeps (s : State) (via : Option Nat) (b : Bytes) :
    Keeps [.dev, .hw, .fw, .mbx, .ep0, .ep1, .gauge, .regs, .out, .fresh] s (activateFirmware s via b) := by
  unfold activateFirmware
  refine .ite ?_ ?_
  · exact .mono (pldmReply_keeps _ _ _ _ _)
  · refine .ite ?_ ?_
    · exact .mono (pldmReply_keeps _ _ _ _ _)
    · refine .ite ?_ ?_
      · exact .mono (pldmReply_keeps _ _ _ _ _)
      · refine .ite ?_ ?_
        · exact .put rfl rfl rfl rfl rfl (.mono (activateReply_keeps _ _ _))
        · refine .ite ?_ ?_
          · exact .mono (activateReply_keeps _ _ _)
          · refine .ite ?_ ?_
            · exact .mono (pldmReply_keeps _ _ _ _ _)
            · refine .ite ?_ ?_
              · exact .mono (pldmReply_keeps _ _ _ _ _)
              · exact .last (handoverBegin_keeps _ _ _ _ _ _) (.mono (activateReply_keeps _ _ _))

theorem execPldmActivateFirmware_runs (s : State) :
    Runs [.dev, .hw, .fw, .mbx, .mctp, .ep0, .ep1, .gauge, .regs, .out, .fresh] s (execPldmActivateFirmware s) := by
  unfold execPldmActivateFirmware
  exact takeMsg_runs (fun _ _ _ => .mono (activateFirmware_keeps _ _ _))

/-! Tap: boundary scan. -/

theorem tapLoad_keeps (s : State) (t : TapInstr) : Keeps [.tap] s (tapLoad s t) := by
  unfold tapLoad
  exact .put rfl rfl rfl rfl rfl .refl

theorem tapBoard_keeps (s : State) (t : TapInstr) : Keeps [.tap] s (tapBoard s t) := by
  unfold tapBoard
  exact .mono (tapLoad_keeps _ _)

theorem execBypass_runs (s : State) : Runs [.tap] s (execBypass s) := by
  unfold execBypass
  exact .next (.mono (tapLoad_keeps _ _))

theorem execIdcode_runs (s : State) : Runs [.tap, .out] s (execIdcode s) := by
  unfold execIdcode
  exact .next (.last (emit_keeps _ _) (.mono (tapLoad_keeps _ _)))

theorem execSamplePreload_runs (s : State) : Runs [.tap] s (execSamplePreload s) := by
  unfold execSamplePreload
  exact .next (.mono (tapLoad_keeps _ _))

theorem execExtest_runs (s : State) : Runs [.tap] s (execExtest s) := by
  unfold execExtest
  exact .next (.mono (tapBoard_keeps _ _))

theorem execHighz_runs (s : State) : Runs [.tap] s (execHighz s) := by
  unfold execHighz
  exact .next (.mono (tapBoard_keeps _ _))

theorem execClamp_runs (s : State) : Runs [.tap] s (execClamp s) := by
  unfold execClamp
  exact .next (.mono (tapBoard_keeps _ _))

theorem execExtestPulse_runs (s : State) : Runs [.tap] s (execExtestPulse s) := by
  unfold execExtestPulse
  exact .next (.mono (tapBoard_keeps _ _))

theorem execExtestTrain_runs (s : State) : Runs [.tap] s (execExtestTrain s) := by
  unfold execExtestTrain
  exact .next (.mono (tapBoard_keeps _ _))

theorem execEthRefclkLoss_runs (s : State) :
    Runs [.dev, .fw, .mbx, .ep0, .ep1, .jig, .itw, .macs, .time, .gauge, .regs, .out, .fresh] s (execEthRefclkLoss s) := by
  unfold execEthRefclkLoss
  exact .next (.last (itwLinkDown_keeps _) (.mono (ethRefLost_keeps _)))

theorem execEthRefclkReturn_runs (s : State) : Runs [.dev, .time] s (execEthRefclkReturn s) := by
  unfold execEthRefclkReturn
  refine .ite ?_ ?_
  · exact .next (.put rfl rfl rfl rfl rfl (.put rfl rfl rfl rfl rfl .refl))
  · exact .next (.put rfl rfl rfl rfl rfl .refl)

end Sys2Proof.Machine
end

section
/-! PROOFS. Every command and every step. -/

namespace Sys2Proof.Machine

open Sys2Proof

set_option Elab.async false

/-- The same for a list that has variables in it; the check of the parts runs. -/
theorem Runs.listed {ps qs : List Part} {s : State} {o : Host.Outcome State Fault Refusal} (h : Runs qs s o)
    (sub : qs.all ps.contains = true := by rfl) : Runs ps s o :=
  h.mono (fun _ hp => List.contains_iff_mem.mp (List.all_eq_true.mp sub _ hp))

/-- The frame and the invariants of every command. -/
theorem exec_runs (s : State) : ∀ c, Runs (mayChange c) s (exec c s)
  | .supplyUp => .listed (execSupplyUp_runs s)
  | .supplyRemoved => .listed (execSupplyRemoved_runs s)
  | .supplyMonitorTrip supply => .listed (execSupplyMonitorTrip_runs supply s)
  | .sysRstNAssert widthNs => .listed (execSysRstNAssert_runs widthNs s)
  | .sysRstNDeassert => .listed (execSysRstNDeassert_runs s)
  | .tbOscRangeChange inRange => .listed (execTbOscRangeChange_runs inRange s)
  | .wellheadImageVerify => .listed (execWellheadImageVerify_runs s)
  | .cascadeManifestCheck => .listed (execCascadeManifestCheck_runs s)
  | .hbmTrainingDone failed => .listed (execHbmTrainingDone_runs failed s)
  | .bootSelfTestDone failA failB => .listed (execBootSelfTestDone_runs failA failB s)
  | .bootComplete => .listed (execBootComplete_runs s)
  | .deviceResetStart => .listed (execDeviceResetStart_runs s)
  | .quiescentEntryDone => .listed (execQuiescentEntryDone_runs s)
  | .quiescentExitDone => .listed (execQuiescentExitDone_runs s)
  | .lockstepMismatch => .listed (execLockstepMismatch_runs s)
  | .watchdogExpire => .listed (execWatchdogExpire_runs s)
  | .wellheadResume => .listed (execWellheadResume_runs s)
  | .checkpointTimer => .listed (execCheckpointTimer_runs s)
  | .spareSelfTest pass => .listed (execSpareSelfTest_runs pass s)
  | .handoverSpareLoaded => .listed (execHandoverSpareLoaded_runs s)
  | .handoverExport => .listed (execHandoverExport_runs s)
  | .handoverImportDone => .listed (execHandoverImportDone_runs s)
  | .handoverOldPairLoaded => .listed (execHandoverOldPairLoaded_runs s)
  | .clusterCodeSwitch => .listed (execClusterCodeSwitch_runs s)
  | .handoverComplete => .listed (execHandoverComplete_runs s)
  | .handoverFailure => .listed (execHandoverFailure_runs s)
  | .hbmPcAutoRetire pc => .listed (execHbmPcAutoRetire_runs pc s)
  | .hbmPcRetireDone => .listed (execHbmPcRetireDone_runs s)
  | .pcieLaneErrorPoll ep lane => .listed (execPcieLaneErrorPoll_runs ep lane s)
  | .ethLaneFecThreshold port lane => .listed (execEthLaneFecThreshold_runs port lane s)
  | .laneLockLoss port lane => .listed (execLaneLockLoss_runs port lane s)
  | .frameRx m frame pcsErr preemptErr lane frags => .listed (execFrameRx_runs m frame pcsErr preemptErr lane frags s)
  | .twinStreamWaitEnd p => .listed (execTwinStreamWaitEnd_runs p s)
  | .passStart p pos => .listed (execPassStart_runs p pos s)
  | .excRetry p pos => .listed (execExcRetry_runs p pos s)
  | .parseComplete p => .listed (execParseComplete_runs p s)
  | .raspScanStart p => .listed (execRaspScanStart_runs p s)
  | .raspScanComplete p => .listed (execRaspScanComplete_runs p s)
  | .jigClassify p => .listed (execJigClassify_runs p s)
  | .actionRecordFetch p => .listed (execActionRecordFetch_runs p s)
  | .ldi p => .listed (execLdi_runs p s)
  | .ldf p => .listed (execLdf_runs p s)
  | .stf p => .listed (execStf_runs p s)
  | .mov p => .listed (execMov_runs p s)
  | .add p => .listed (execAdd_runs p s)
  | .sub p => .listed (execSub_runs p s)
  | .and p => .listed (execAnd_runs p s)
  | .or p => .listed (execOr_runs p s)
  | .xor p => .listed (execXor_runs p s)
  | .shl p => .listed (execShl_runs p s)
  | .shr p => .listed (execShr_runs p s)
  | .addi p => .listed (execAddi_runs p s)
  | .crc p => .listed (execCrc_runs p s)
  | .beq p => .listed (execBeq_runs p s)
  | .bne p => .listed (execBne_runs p s)
  | .blt p => .listed (execBlt_runs p s)
  | .bge p => .listed (execBge_runs p s)
  | .btst p => .listed (execBtst_runs p s)
  | .jump p => .listed (execJump_runs p s)
  | .endOp p => .listed (execEndOp_runs p s)
  | .lookup p => .listed (execLookup_runs p s)
  | .entUpdate p => .listed (execEntUpdate_runs p s)
  | .learn p => .listed (execLearn_runs p s)
  | .insert p => .listed (execInsert_runs p s)
  | .delete p => .listed (execDelete_runs p s)
  | .ttlDec p => .listed (execTtlDec_runs p s)
  | .cstf p => .listed (execCstf_runs p s)
  | .vlanPush p => .listed (execVlanPush_runs p s)
  | .vlanPop p => .listed (execVlanPop_runs p s)
  | .encap p => .listed (execEncap_runs p s)
  | .decap p => .listed (execDecap_runs p s)
  | .setTc p => .listed (execSetTc_runs p s)
  | .mark p => .listed (execMark_runs p s)
  | .setClass p => .listed (execSetClass_runs p s)
  | .setSa p => .listed (execSetSa_runs p s)
  | .count p => .listed (execCount_runs p s)
  | .mirror p => .listed (execMirror_runs p s)
  | .fwdPort p => .listed (execFwdPort_runs p s)
  | .fwdHost p => .listed (execFwdHost_runs p s)
  | .flood p => .listed (execFlood_runs p s)
  | .drop p => .listed (execDrop_runs p s)
  | .toEngine p => .listed (execToEngine_runs p s)
  | .recirc p => .listed (execRecirc_runs p s)
  | .cryptoTransformDone p => .listed (execCryptoTransformDone_runs p s)
  | .cryptoCoreFail core => .listed (execCryptoCoreFail_runs core s)
  | .cryPairExpire stream seq pass ordinal => .listed (execCryPairExpire_runs stream seq pass ordinal s)
  | .pairResultExpire stream seq pass ordinal => .listed (execPairResultExpire_runs stream seq pass ordinal s)
  | .pairMarkExpire stream seq pass ordinal => .listed (execPairMarkExpire_runs stream seq pass ordinal s)
  | .scribeRequest => .listed (execScribeRequest_runs s)
  | .scribeInsert => .listed (execScribeInsert_runs s)
  | .scribeLearn => .listed (execScribeLearn_runs s)
  | .scribeDelete => .listed (execScribeDelete_runs s)
  | .scribeUpdate => .listed (execScribeUpdate_runs s)
  | .stashPromote => .listed (execStashPromote_runs s)
  | .ageWalkVisit bucket => .listed (execAgeWalkVisit_runs bucket s)
  | .stampModeRestore => .listed (execStampModeRestore_runs s)
  | .lockHoldExpire stash loc => .listed (execLockHoldExpire_runs stash loc s)
  | .cstEccInvalidate stash loc => .listed (execCstEccInvalidate_runs stash loc s)
  | .sqrAuditComplete => .listed (execSqrAuditComplete_runs s)
  | .workItemDeliver q slot h => .listed (execWorkItemDeliver_runs q slot h s)
  | .chDest q slot value => .listed (execChDest_runs q slot value s)
  | .chWord q slot value => .listed (execChWord_runs q slot value s)
  | .chLast q slot value => .listed (execChLast_runs q slot value s)
  | .chLastNb q slot value => .listed (execChLastNb_runs q slot value s)
  | .chWaitCommit chan => .listed (execChWaitCommit_runs chan s)
  | .chRead q slot value => .listed (execChRead_runs q slot value s)
  | .wait q slot value => .listed (execWait_runs q slot value s)
  | .waitWake q slot => .listed (execWaitWake_runs q slot s)
  | .waitTimeout q slot => .listed (execWaitTimeout_runs q slot s)
  | .forkArg q slot value => .listed (execForkArg_runs q slot value s)
  | .fork q slot value => .listed (execFork_runs q slot value s)
  | .join q slot value => .listed (execJoin_runs q slot value s)
  | .exit q slot value => .listed (execExit_runs q slot value s)
  | .park q slot value => .listed (execPark_runs q slot value s)
  | .unpark q slot value => .listed (execUnpark_runs q slot value s)
  | .suspend q slot => .listed (execSuspend_runs q slot s)
  | .resume q slot => .listed (execResume_runs q slot s)
  | .abort q slot requeue => .listed (execAbort_runs q slot requeue s)
  | .supThread q slot value => .listed (execSupThread_runs q slot value s)
  | .supRegs q slot value => .listed (execSupRegs_runs q slot value s)
  | .supDldAck q slot value => .listed (execSupDldAck_runs q slot value s)
  | .devchLookup => .listed (execDevchLookup_runs s)
  | .devchScribeLearn => .listed (execDevchScribeLearn_runs s)
  | .devchScribeInsert => .listed (execDevchScribeInsert_runs s)
  | .devchScribeDelete => .listed (execDevchScribeDelete_runs s)
  | .devchScribeUpdate => .listed (execDevchScribeUpdate_runs s)
  | .pktFwdPort => .listed (execPktFwdPort_runs s)
  | .pktFwdHost => .listed (execPktFwdHost_runs s)
  | .pktFlood => .listed (execPktFlood_runs s)
  | .pktDrop => .listed (execPktDrop_runs s)
  | .pktRecirc => .listed (execPktRecirc_runs s)
  | .inject => .listed (execInject_runs s)
  | .cscEngineEvent => .listed (execCscEngineEvent_runs s)
  | .threadFault q slot cls pc addr => .listed (execThreadFault_runs q slot cls pc addr s)
  | .engineFault engine thread cls => .listed (execEngineFault_runs engine thread cls s)
  | .spareMapped spare => .listed (execSpareMapped_runs spare s)
  | .supervisorRestart q => .listed (execSupervisorRestart_runs q s)
  | .dldFire q => .listed (execDldFire_runs q s)
  | .cscDeadlock q => .listed (execCscDeadlock_runs q s)
  | .exitOrderHandoff p => .listed (execExitOrderHandoff_runs p s)
  | .dovetailArrive d pl => .listed (execDovetailArrive_runs d pl s)
  | .dovetailStoreWaitEnd d pl => .listed (execDovetailStoreWaitEnd_runs d pl s)
  | .openRecordExpire d point stream seq => .listed (execOpenRecordExpire_runs d point stream seq s)
  | .railSelfCheckFail rail code unit => .listed (execRailSelfCheckFail_runs rail code unit s)
  | .railRejoin rail => .listed (execRailRejoin_runs rail s)
  | .prpNodeForget mac pair => .listed (execPrpNodeForget_runs mac pair s)
  | .flitRx seq ack nak crcGood body => .listed (execFlitRx_runs seq ack nak crcGood body s)
  | .heartbeat id rank mode act version digest mirroring learned count => .listed (execHeartbeat_runs id rank mode act version digest mirroring learned count s)
  | .heartbeatSend => .listed (execHeartbeatSend_runs s)
  | .pipelineStallDetect => .listed (execPipelineStallDetect_runs s)
  | .heartbeatMissLimit => .listed (execHeartbeatMissLimit_runs s)
  | .aliveLowTimeout => .listed (execAliveLowTimeout_runs s)
  | .actInChange level short alive => .listed (execActInChange_runs level short alive s)
  | .grantTimer => .listed (execGrantTimer_runs s)
  | .actRequestTimer => .listed (execActRequestTimer_runs s)
  | .itwLinkUp version digest mirroring => .listed (execItwLinkUp_runs version digest mirroring s)
  | .learnReq key dest stamp src prof => .listed (execLearnReq_runs key dest stamp src prof s)
  | .learnApply body => .listed (execLearnApply_runs body s)
  | .learnDelete key => .listed (execLearnDelete_runs key s)
  | .learnRefresh key => .listed (execLearnRefresh_runs key s)
  | .resyncMark phase count => .listed (execResyncMark_runs phase count s)
  | .actorRelease => .listed (execActorRelease_runs s)
  | .jigPrepare version digest => .listed (execJigPrepare_runs version digest s)
  | .jigData data => .listed (execJigData_runs data s)
  | .jigReady code => .listed (execJigReady_runs code s)
  | .jigGo => .listed (execJigGo_runs s)
  | .jigAck => .listed (execJigAck_runs s)
  | .mirrorReadyTimeout => .listed (execMirrorReadyTimeout_runs s)
  | .mirrorGoTimeout => .listed (execMirrorGoTimeout_runs s)
  | .jigCompileDone badA badB => .listed (execJigCompileDone_runs badA badB s)
  | .jigVersionSwitch => .listed (execJigVersionSwitch_runs s)
  | .jigSlotFree slot => .listed (execJigSlotFree_runs slot s)
  | .jigDrainSlow slot => .listed (execJigDrainSlow_runs slot s)
  | .parseValidateDone rasp => .listed (execParseValidateDone_runs rasp s)
  | .parseBankSwitch rasp => .listed (execParseBankSwitch_runs rasp s)
  | .stageBankCopy rasp => .listed (execStageBankCopy_runs rasp s)
  | .actRecordSwitch => .listed (execActRecordSwitch_runs s)
  | .calendarReservationSwitch => .listed (execCalendarReservationSwitch_runs s)
  | .saDeleteSwitch => .listed (execSaDeleteSwitch_runs s)
  | .macTxSelect m sent lane => .listed (execMacTxSelect_runs m sent lane s)
  | .macTxDone m => .listed (execMacTxDone_runs m s)
  | .underrun m sent => .listed (execUnderrun_runs m sent s)
  | .txLinkWaitExpire m => .listed (execTxLinkWaitExpire_runs m s)
  | .pauseExpire m c => .listed (execPauseExpire_runs m c s)
  | .xoffLeave m c => .listed (execXoffLeave_runs m c s)
  | .pfcRefresh m c => .listed (execPfcRefresh_runs m c s)
  | .pfcStorm m c => .listed (execPfcStorm_runs m c s)
  | .pfcStormRelease m c => .listed (execPfcStormRelease_runs m c s)
  | .weirTick p => .listed (execWeirTick_runs p s)
  | .gateChange m => .listed (execGateChange_runs m s)
  | .gclChangeTime m => .listed (execGclChangeTime_runs m s)
  | .preemptVerify m ok => .listed (execPreemptVerify_runs m ok s)
  | .linkUp m => .listed (execLinkUp_runs m s)
  | .linkFault m remote => .listed (execLinkFault_runs m remote s)
  | .oscLoss => .listed (execOscLoss_runs s)
  | .oscReturn => .listed (execOscReturn_runs s)
  | .timeStep => .listed (execTimeStep_runs s)
  | .timeTxqPop master m => .listed (execTimeTxqPop_runs master m s)
  | .ptpMsgRx => .listed (execPtpMsgRx_runs s)
  | .ptpSyncSend m => .listed (execPtpSyncSend_runs m s)
  | .ptpDelayReqSend m => .listed (execPtpDelayReqSend_runs m s)
  | .ptpAnnounceSend m => .listed (execPtpAnnounceSend_runs m s)
  | .ptpAnnounceTimeout m => .listed (execPtpAnnounceTimeout_runs m s)
  | .plumbSample => .listed (execPlumbSample_runs s)
  | .plumbTimeout => .listed (execPlumbTimeout_runs s)
  | .plbHostDHiWrite value => .listed (execPlbHostDHiWrite_runs value s)
  | .tioArm c => .listed (execTioArm_runs c s)
  | .tioOutputEdge c => .listed (execTioOutputEdge_runs c s)
  | .tioEdgeCapture c falling => .listed (execTioEdgeCapture_runs c falling s)
  | .tioCapPop master c => .listed (execTioCapPop_runs master c s)
  | .timeNowSLoRead master => .listed (execTimeNowSLoRead_runs master s)
  | .pcieLinkTrain ep speed width flit => .listed (execPcieLinkTrain_runs ep speed width flit s)
  | .endpointContain ep cause unacked => .listed (execEndpointContain_runs ep cause unacked s)
  | .containReleaseResume writer ep => .listed (execContainReleaseResume_runs writer ep s)
  | .containReleaseReset writer ep => .listed (execContainReleaseReset_runs writer ep s)
  | .flrInitiate ep f => .listed (execFlrInitiate_runs ep f s)
  | .flrComplete ep f => .listed (execFlrComplete_runs ep f s)
  | .vfEnableChange ep enable numVfs => .listed (execVfEnableChange_runs ep enable numVfs s)
  | .busMasterEnableWrite ep f enable => .listed (execBusMasterEnableWrite_runs ep f enable s)
  | .configWrite ep f field value => .listed (execConfigWrite_runs ep f field value s)
  | .bar0Access ep off len data => .listed (execBar0Access_runs ep off len data s)
  | .pushWrite ep f off data full => .listed (execPushWrite_runs ep f off data full s)
  | .hifVfDbTx ep f value full => .listed (execHifVfDbTx_runs ep f value full s)
  | .hifVfDbRx ep f value full => .listed (execHifVfDbRx_runs ep f value full s)
  | .hifVfDbCq ep f value full => .listed (execHifVfDbCq_runs ep f value full s)
  | .hifVfDbChain ep f context full => .listed (execHifVfDbChain_runs ep f context full s)
  | .hifVfItr ep f value full => .listed (execHifVfItr_runs ep f value full s)
  | .hifLtrWrite ep value => .listed (execHifLtrWrite_runs ep value s)
  | .txDescriptorRead ep g => .listed (execTxDescriptorRead_runs ep g s)
  | .txFrameInBasin ep g => .listed (execTxFrameInBasin_runs ep g s)
  | .txComplete ep g => .listed (execTxComplete_runs ep g s)
  | .rxDeliver ep g rejected => .listed (execRxDeliver_runs ep g rejected s)
  | .rxNopostExpire ep g place => .listed (execRxNopostExpire_runs ep g place s)
  | .writeBack ep g => .listed (execWriteBack_runs ep g s)
  | .msixSend ep f v => .listed (execMsixSend_runs ep f v s)
  | .itrHoldoffExpire ep f v => .listed (execItrHoldoffExpire_runs ep f v s)
  | .intaChange ep => .listed (execIntaChange_runs ep s)
  | .cplRx ep tag status poisoned badEcrc data => .listed (execCplRx_runs ep tag status poisoned badEcrc data s)
  | .cplTimeout ep tag => .listed (execCplTimeout_runs ep tag s)
  | .tagQuarantineExpire ep tag => .listed (execTagQuarantineExpire_runs ep tag s)
  | .atsInvalidate ep f pasid addr len => .listed (execAtsInvalidate_runs ep f pasid addr len s)
  | .tlpViolation ep f kind len => .listed (execTlpViolation_runs ep f kind len s)
  | .queueFlush ep g => .listed (execQueueFlush_runs ep g s)
  | .drainTimeout ep g => .listed (execDrainTimeout_runs ep g s)
  | .chainBlockRead ep ctx => .listed (execChainBlockRead_runs ep ctx s)
  | .chainReread ctx => .listed (execChainReread_runs ctx s)
  | .mbxPost ch => .listed (execMbxPost_runs ch s)
  | .mbxAck ch => .listed (execMbxAck_runs ch s)
  | .mbxFwPost ch => .listed (execMbxFwPost_runs ch s)
  | .mbxFwAck ch => .listed (execMbxFwAck_runs ch s)
  | .mbxOutboundBufferWrite ch off data => .listed (execMbxOutboundBufferWrite_runs ch off data s)
  | .mbxCrossing ch => .listed (execMbxCrossing_runs ch s)
  | .fwCommandDispatch ch => .listed (execFwCommandDispatch_runs ch s)
  | .heartwoodWrite master w value => .listed (execHeartwoodWrite_runs master w value s)
  | .counterLoRead master a => .listed (execCounterLoRead_runs master a s)
  | .rcRegisterRead master a => .listed (execRcRegisterRead_runs master a s)
  | .registerWrite master a be value => .listed (execRegisterWrite_runs master a be value s)
  | .errlogWindowClose code => .listed (execErrlogWindowClose_runs code s)
  | .sensorUpdate values => .listed (execSensorUpdate_runs values s)
  | .snapshotCapture => .listed (execSnapshotCapture_runs s)
  | .mctpPacketRx src tag som eom pseq bad body => .listed (execMctpPacketRx_runs src tag som eom pseq bad body s)
  | .mctpAssemblyTimeout => .listed (execMctpAssemblyTimeout_runs s)
  | .setEndpointId => .listed (execSetEndpointId_runs s)
  | .getEndpointId => .listed (execGetEndpointId_runs s)
  | .getEndpointUuid => .listed (execGetEndpointUuid_runs s)
  | .getMctpVersionSupport => .listed (execGetMctpVersionSupport_runs s)
  | .getMessageTypeSupport => .listed (execGetMessageTypeSupport_runs s)
  | .getVdmSupport => .listed (execGetVdmSupport_runs s)
  | .mctpUnsupportedControl => .listed (execMctpUnsupportedControl_runs s)
  | .vdmMessage => .listed (execVdmMessage_runs s)
  | .vdmAck => .listed (execVdmAck_runs s)
  | .reopen => .listed (execReopen_runs s)
  | .spdmRequest doe req => .listed (execSpdmRequest_runs doe req s)
  | .securedMessage authentic plain => .listed (execSecuredMessage_runs authentic plain s)
  | .pldmDiscovery => .listed (execPldmDiscovery_runs s)
  | .pldmSensorRead => .listed (execPldmSensorRead_runs s)
  | .pldmUpdateComponent data => .listed (execPldmUpdateComponent_runs data s)
  | .pldmActivateFirmware => .listed (execPldmActivateFirmware_runs s)
  | .bypass => .listed (execBypass_runs s)
  | .idcode => .listed (execIdcode_runs s)
  | .samplePreload => .listed (execSamplePreload_runs s)
  | .extest => .listed (execExtest_runs s)
  | .highz => .listed (execHighz_runs s)
  | .clamp => .listed (execClamp_runs s)
  | .extestPulse => .listed (execExtestPulse_runs s)
  | .extestTrain => .listed (execExtestTrain_runs s)
  | .deviceQuery ch seq => .listed (execDeviceQuery_runs ch seq s)
  | .eventMaskSet ch seq => .listed (execEventMaskSet_runs ch seq s)
  | .eventMaskRead ch seq => .listed (execEventMaskRead_runs ch seq s)
  | .echo ch seq => .listed (execEcho_runs ch seq s)
  | .mgrRoleQuery ch seq => .listed (execMgrRoleQuery_runs ch seq s)
  | .mgrRoleConfig ch seq => .listed (execMgrRoleConfig_runs ch seq s)
  | .mgrRoleTransfer ch seq => .listed (execMgrRoleTransfer_runs ch seq s)
  | .mgrRoleReclaim ch seq => .listed (execMgrRoleReclaim_runs ch seq s)
  | .mctpConfig ch seq => .listed (execMctpConfig_runs ch seq s)
  | .hifWttSet ch seq => .listed (execHifWttSet_runs ch seq s)
  | .hifWttRead ch seq => .listed (execHifWttRead_runs ch seq s)
  | .hifLinkQuery ch seq => .listed (execHifLinkQuery_runs ch seq s)
  | .hifLaneRetire ch seq => .listed (execHifLaneRetire_runs ch seq s)
  | .hwdRead ch seq => .listed (execHwdRead_runs ch seq s)
  | .hwdWrite ch seq => .listed (execHwdWrite_runs ch seq s)
  | .deviceModeSet ch seq => .listed (execDeviceModeSet_runs ch seq s)
  | .deviceModeQuery ch seq => .listed (execDeviceModeQuery_runs ch seq s)
  | .hbmPcRetire ch seq => .listed (execHbmPcRetire_runs ch seq s)
  | .retirementQuery ch seq => .listed (execRetirementQuery_runs ch seq s)
  | .basinAreaSet ch seq => .listed (execBasinAreaSet_runs ch seq s)
  | .sliceCreate ch seq => .listed (execSliceCreate_runs ch seq s)
  | .sliceDestroy ch seq => .listed (execSliceDestroy_runs ch seq s)
  | .sliceQuery ch seq => .listed (execSliceQuery_runs ch seq s)
  | .sliceModify ch seq => .listed (execSliceModify_runs ch seq s)
  | .funcQuery ch seq => .listed (execFuncQuery_runs ch seq s)
  | .sliceList ch seq => .listed (execSliceList_runs ch seq s)
  | .poolQuery ch seq => .listed (execPoolQuery_runs ch seq s)
  | .queueCreate ch seq => .listed (execQueueCreate_runs ch seq s)
  | .queueDestroy ch seq => .listed (execQueueDestroy_runs ch seq s)
  | .queueQuery ch seq => .listed (execQueueQuery_runs ch seq s)
  | .queueModify ch seq => .listed (execQueueModify_runs ch seq s)
  | .queuePfItrSet ch seq => .listed (execQueuePfItrSet_runs ch seq s)
  | .resetRecordRead ch seq => .listed (execResetRecordRead_runs ch seq s)
  | .jigRuleWrite ch seq => .listed (execJigRuleWrite_runs ch seq s)
  | .jigRuleRead ch seq => .listed (execJigRuleRead_runs ch seq s)
  | .jigRuleClear ch seq => .listed (execJigRuleClear_runs ch seq s)
  | .jigProfileWrite ch seq => .listed (execJigProfileWrite_runs ch seq s)
  | .jigProfileRead ch seq => .listed (execJigProfileRead_runs ch seq s)
  | .jigStageLoad ch seq => .listed (execJigStageLoad_runs ch seq s)
  | .jigCommit ch seq => .listed (execJigCommit_runs ch seq s)
  | .jigSlotQuery ch seq => .listed (execJigSlotQuery_runs ch seq s)
  | .jigMirrorSet ch seq => .listed (execJigMirrorSet_runs ch seq s)
  | .jigMirrorStatus ch seq => .listed (execJigMirrorStatus_runs ch seq s)
  | .parseGraphWrite ch seq => .listed (execParseGraphWrite_runs ch seq s)
  | .parseGraphRead ch seq => .listed (execParseGraphRead_runs ch seq s)
  | .parseGraphCommit ch seq => .listed (execParseGraphCommit_runs ch seq s)
  | .raspPatternWrite ch seq => .listed (execRaspPatternWrite_runs ch seq s)
  | .raspPatternRead ch seq => .listed (execRaspPatternRead_runs ch seq s)
  | .raspCommit ch seq => .listed (execRaspCommit_runs ch seq s)
  | .cstEntryAdd ch seq => .listed (execCstEntryAdd_runs ch seq s)
  | .cstEntryDelete ch seq => .listed (execCstEntryDelete_runs ch seq s)
  | .cstEntryRead ch seq => .listed (execCstEntryRead_runs ch seq s)
  | .cstEntryUnlock ch seq => .listed (execCstEntryUnlock_runs ch seq s)
  | .cstFlush ch seq => .listed (execCstFlush_runs ch seq s)
  | .cstFloodSet ch seq => .listed (execCstFloodSet_runs ch seq s)
  | .actRecordWrite ch seq => .listed (execActRecordWrite_runs ch seq s)
  | .actRecordRead ch seq => .listed (execActRecordRead_runs ch seq s)
  | .sqrExpectWrite ch seq => .listed (execSqrExpectWrite_runs ch seq s)
  | .sqrAuditStart ch seq => .listed (execSqrAuditStart_runs ch seq s)
  | .sqrResultRead ch seq => .listed (execSqrResultRead_runs ch seq s)
  | .portModeSet ch seq => .listed (execPortModeSet_runs ch seq s)
  | .portStatus ch seq => .listed (execPortStatus_runs ch seq s)
  | .portLaneRetire ch seq => .listed (execPortLaneRetire_runs ch seq s)
  | .pfcConfigSet ch seq => .listed (execPfcConfigSet_runs ch seq s)
  | .weirShaperSet ch seq => .listed (execWeirShaperSet_runs ch seq s)
  | .weirShaperRead ch seq => .listed (execWeirShaperRead_runs ch seq s)
  | .weirLeafMapSet ch seq => .listed (execWeirLeafMapSet_runs ch seq s)
  | .slcGclWrite ch seq => .listed (execSlcGclWrite_runs ch seq s)
  | .slcGclCommit ch seq => .listed (execSlcGclCommit_runs ch seq s)
  | .slcGclRead ch seq => .listed (execSlcGclRead_runs ch seq s)
  | .slcPreemptSet ch seq => .listed (execSlcPreemptSet_runs ch seq s)
  | .timeGet ch seq => .listed (execTimeGet_runs ch seq s)
  | .timeSet ch seq => .listed (execTimeSet_runs ch seq s)
  | .timeOffset ch seq => .listed (execTimeOffset_runs ch seq s)
  | .timeFreqSet ch seq => .listed (execTimeFreqSet_runs ch seq s)
  | .timeTrimSet ch seq => .listed (execTimeTrimSet_runs ch seq s)
  | .timeLatSet ch seq => .listed (execTimeLatSet_runs ch seq s)
  | .plbConfig ch seq => .listed (execPlbConfig_runs ch seq s)
  | .plbReacquire ch seq => .listed (execPlbReacquire_runs ch seq s)
  | .plbStatus ch seq => .listed (execPlbStatus_runs ch seq s)
  | .plbTrimSave ch seq => .listed (execPlbTrimSave_runs ch seq s)
  | .ptpInstanceSet ch seq => .listed (execPtpInstanceSet_runs ch seq s)
  | .ptpPortSet ch seq => .listed (execPtpPortSet_runs ch seq s)
  | .ptpPortStatus ch seq => .listed (execPtpPortStatus_runs ch seq s)
  | .tioConfig ch seq => .listed (execTioConfig_runs ch seq s)
  | .tioCaptureRead ch seq => .listed (execTioCaptureRead_runs ch seq s)
  | .crySaWrite ch seq => .listed (execCrySaWrite_runs ch seq s)
  | .crySaRead ch seq => .listed (execCrySaRead_runs ch seq s)
  | .crySaDelete ch seq => .listed (execCrySaDelete_runs ch seq s)
  | .tnlTemplateWrite ch seq => .listed (execTnlTemplateWrite_runs ch seq s)
  | .tnlTemplateRead ch seq => .listed (execTnlTemplateRead_runs ch seq s)
  | .tlsRxResync ch seq => .listed (execTlsRxResync_runs ch seq s)
  | .nvtContextSet ch seq => .listed (execNvtContextSet_runs ch seq s)
  | .nvtContextRead ch seq => .listed (execNvtContextRead_runs ch seq s)
  | .nvtResync ch seq => .listed (execNvtResync_runs ch seq s)
  | .twinStatus ch seq => .listed (execTwinStatus_runs ch seq s)
  | .twinRailRetire ch seq => .listed (execTwinRailRetire_runs ch seq s)
  | .twinRailRestore ch seq => .listed (execTwinRailRestore_runs ch seq s)
  | .twinSelSet ch seq => .listed (execTwinSelSet_runs ch seq s)
  | .prpPairSet ch seq => .listed (execPrpPairSet_runs ch seq s)
  | .prpNodeRead ch seq => .listed (execPrpNodeRead_runs ch seq s)
  | .itwConfig ch seq => .listed (execItwConfig_runs ch seq s)
  | .itwStatus ch seq => .listed (execItwStatus_runs ch seq s)
  | .itwActorRelease ch seq => .listed (execItwActorRelease_runs ch seq s)
  | .itwResync ch seq => .listed (execItwResync_runs ch seq s)
  | .gauSnapshot ch seq => .listed (execGauSnapshot_runs ch seq s)
  | .gauSnapshotRead ch seq => .listed (execGauSnapshotRead_runs ch seq s)
  | .gauCounterRead ch seq => .listed (execGauCounterRead_runs ch seq s)
  | .gauTraceConfig ch seq => .listed (execGauTraceConfig_runs ch seq s)
  | .gauTraceStart ch seq => .listed (execGauTraceStart_runs ch seq s)
  | .gauTraceStop ch seq => .listed (execGauTraceStop_runs ch seq s)
  | .gauTraceRead ch seq => .listed (execGauTraceRead_runs ch seq s)
  | .gauErrlogRead ch seq => .listed (execGauErrlogRead_runs ch seq s)
  | .gauErrlogClear ch seq => .listed (execGauErrlogClear_runs ch seq s)
  | .gauErrlogQuery ch seq => .listed (execGauErrlogQuery_runs ch seq s)
  | .gauSensorRead ch seq => .listed (execGauSensorRead_runs ch seq s)
  | .gauDevRead ch seq => .listed (execGauDevRead_runs ch seq s)
  | .fwImageBegin ch seq => .listed (execFwImageBegin_runs ch seq s)
  | .fwImageData ch seq => .listed (execFwImageData_runs ch seq s)
  | .fwImageEnd ch seq => .listed (execFwImageEnd_runs ch seq s)
  | .fwImageQuery ch seq => .listed (execFwImageQuery_runs ch seq s)
  | .fwImageErase ch seq => .listed (execFwImageErase_runs ch seq s)
  | .fwManifestRead ch seq => .listed (execFwManifestRead_runs ch seq s)
  | .fwManifestWrite ch seq => .listed (execFwManifestWrite_runs ch seq s)
  | .fwHandoverStart ch seq => .listed (execFwHandoverStart_runs ch seq s)
  | .fwHandoverStatus ch seq => .listed (execFwHandoverStatus_runs ch seq s)
  | .fwHandoverAbort ch seq => .listed (execFwHandoverAbort_runs ch seq s)
  | .fwBootSelect ch seq => .listed (execFwBootSelect_runs ch seq s)
  | .fwRestrictedReason ch seq => .listed (execFwRestrictedReason_runs ch seq s)
  | .whCheckpoint ch seq => .listed (execWhCheckpoint_runs ch seq s)
  | .whPairStatus ch seq => .listed (execWhPairStatus_runs ch seq s)
  | .cscClusterQuery ch seq => .listed (execCscClusterQuery_runs ch seq s)
  | .cscEngineRetire ch seq => .listed (execCscEngineRetire_runs ch seq s)
  | .cscPacketDispose ch seq => .listed (execCscPacketDispose_runs ch seq s)
  | .cscWaitgraphRead ch seq => .listed (execCscWaitgraphRead_runs ch seq s)
  | .timebaseTick => .listed (execTimebaseTick_runs s)
  | .ethRefclkLoss => .listed (execEthRefclkLoss_runs s)
  | .ethRefclkReturn => .listed (execEthRefclkReturn_runs s)
  | .deviceResetHeldExpire => .listed (execDeviceResetHeldExpire_runs s)
  | .mirrorAckTimeout => .listed (execMirrorAckTimeout_runs s)
  | .engineMemoryScrub engine corrected => .listed (execEngineMemoryScrub_runs engine corrected s)
  | .doeDiscovery ep index => .listed (execDoeDiscovery_runs ep index s)
  | .fabricAccess master a len data => .listed (execFabricAccess_runs master a len data s)
  | .restoreSelfTestFail rail unit => .listed (execRestoreSelfTestFail_runs rail unit s)
  | .itwResyncComplete => .listed (execItwResyncComplete_runs s)

/-! The obligations about every command and every step. -/

theorem step_pending_cons {s : State} {c : Instr} {rest : List Instr} (h : s.pending = c :: rest) :
    step s = exec c { s with pending := rest } := by
  unfold step; rw [h]

theorem step_pending_nil {s : State} (h : s.pending = []) : step s = .next s := by
  unfold step; rw [h]

/-- What a step changes besides the queue, it changes by the front command. -/
theorem exec_keeps {c : Instr} {s t : State} (h : exec c s = .next t) : Keeps (mayChange c) s t := by
  obtain ⟨u, hu, k⟩ := exec_runs s c
  rw [h] at hu
  cases hu
  exact k

theorem pending_not_mem_mayChange (c : Instr) : Part.pending ∉ mayChange c := by
  have none : (mayChange c).contains .pending = false := by cases c <;> rfl
  exact fun h => by rw [List.contains_iff_mem.mpr h] at none; cases none

theorem exec_pending {c : Instr} {s t : State} (h : exec c s = .next t) : t.pending = s.pending :=
  ((exec_keeps h).frame .pending).resolve_left (pending_not_mem_mayChange c)

/-- A step is the front command's, or idle. -/
theorem step_cases {s t : State} (h : step s = .next t) :
    (s.pending = [] ∧ t = s) ∨ ∃ c rest, s.pending = c :: rest ∧ exec c { s with pending := rest } = .next t := by
  cases hp : s.pending with
  | nil =>
    rw [step_pending_nil hp] at h
    cases h
    exact .inl ⟨rfl, rfl⟩
  | cons c rest => exact .inr ⟨c, rest, rfl, (step_pending_cons hp).symm.trans h⟩

/-- Settles O1. -/
theorem aStepRunsTheFrontCommand : Obligations.AStepRunsTheFrontCommand :=
  ⟨fun _ _ _ => step_pending_cons, fun _ => step_pending_nil⟩

/-- Settles O3: each command's lemma gives its next state. -/
theorem everyCommandCompletes : Obligations.EveryCommandCompletes := by
  have completes : ∀ c s, ∃ t, exec c s = .next t := fun c s => by
    obtain ⟨t, ht, -⟩ := exec_runs s c
    exact ⟨t, ht⟩
  refine ⟨completes, fun s => ?_⟩
  cases hp : s.pending with
  | nil => exact ⟨s, step_pending_nil hp⟩
  | cons c rest =>
    rw [step_pending_cons hp]
    exact completes c _

/-- Settles O4: the footprint of each command lies within `mayChange`, which never lists the queue. -/
theorem everyCommandKeepsWhatItMayNotChange : Obligations.EveryCommandKeepsWhatItMayNotChange := by
  refine ⟨fun _ _ _ h => (exec_keeps h).frame, fun _ _ _ => exec_pending, fun s t h => ?_⟩
  rcases step_cases h with ⟨hp, rfl⟩ | ⟨c, rest, hp, hc⟩
  · rw [hp]; rfl
  · rw [exec_pending hc, hp]; rfl

/-- Settles O5, by the invariant that every command keeps. -/
theorem everyStepKeepsTheMailboxesInOrder : Obligations.EveryStepKeepsTheMailboxesInOrder := by
  intro s t ok h
  rcases step_cases h with ⟨-, rfl⟩ | ⟨c, rest, -, hc⟩
  · exact ok
  · exact (exec_keeps hc).boxes ok

/-- Settles O6, by the invariant that every command keeps. -/
theorem everyStepKeepsTheStoresInBounds : Obligations.EveryStepKeepsTheStoresInBounds := by
  intro s t ok h
  rcases step_cases h with ⟨-, rfl⟩ | ⟨c, rest, -, hc⟩
  · exact ok
  · exact (exec_keeps hc).stores ok

/-- An adapter that a failing supply holds in reset, with SYS_RST_N high and its oscillator in range. -/
def heldWithoutSupply : State := { State.reset with dev := { base := .held, sysRstN := true, tbOsc := true } }

/-- The supplies' return ends the reset at once, so SUPPLY_UP leads from HELD to BOOT. -/
theorem supplyUp_boots_from_held : ∃ t, exec .supplyUp heldWithoutSupply = .next t ∧ t.dev.base = .boot := ⟨_, rfl, by decide +kernel⟩

/-- Refutes O7: SUPPLY_UP leads from HELD to BOOT where the supplies were the last reason to hold the adapter, and `baseMove` lets it
lead from OFF alone. -/
theorem not_theBaseModeChangesOnlyOnItsEvents : ¬ Obligations.TheBaseModeChangesOnlyOnItsEvents := by
  rintro ⟨moves, -⟩
  obtain ⟨t, ht, boot⟩ := supplyUp_boots_from_held
  have held : heldWithoutSupply.dev.base = .held := rfl
  have bad := moves _ _ _ ht (by rw [boot, held]; decide)
  rw [boot, held] at bad
  exact absurd bad (by decide)

end Sys2Proof.Machine
end

section
/-! PROOFS. The state at reset, and rounding (R53). -/

namespace Sys2Proof.Machine

open Sys2Proof

set_option Elab.async false

/-- Settles O2: each part of `State.reset` is the empty or the shipped one. -/
theorem resetIsOffAndEmpty : Obligations.ResetIsOffAndEmpty :=
  ⟨rfl, rfl, fun _ => rfl, fun _ => rfl, fun _ => rfl, fun _ => rfl, fun _ => ⟨rfl, rfl, rfl, rfl⟩, fun _ => rfl, rfl, rfl, rfl,
    fun _ => rfl, (fun _ hp => nomatch hp), rfl, Nat.zero_le _, (fun _ hp => nomatch hp)⟩

/-- The rounded quotient is the floor or one more, by the remainder. -/
theorem roundHalfEven_cases (num : Int) (den : Nat) :
    (roundHalfEven num den = num / den ∧ (2 * (num % den) < den ∨ (2 * (num % den) = den ∧ num / den % 2 = 0))) ∨
      (roundHalfEven num den = num / den + 1 ∧ (den < 2 * (num % den) ∨ (2 * (num % den) = den ∧ num / den % 2 ≠ 0))) := by
  unfold roundHalfEven
  dsimp only
  split_ifs <;> omega

/-- Settles O12: the distance from the rounded value is the remainder or what the divisor has more. -/
theorem roundingIsToNearestWithHalvesToEven : Obligations.RoundingIsToNearestWithHalvesToEven := by
  rintro num den q hden rfl
  have division : (den : Int) * (num / den) + num % den = num := Int.mul_ediv_add_emod num den
  have low : 0 ≤ num % (den : Int) := Int.emod_nonneg num (by omega)
  have high : num % (den : Int) < den := Int.emod_lt_of_pos num (by omega)
  rcases roundHalfEven_cases num den with ⟨hq, hr⟩ | ⟨hq, hr⟩
  · have off : roundHalfEven num den * den - num = -(num % den) := by rw [hq, mul_comm]; omega
    rw [off, hq]
    omega
  · have off : roundHalfEven num den * den - num = den - num % den := by rw [hq, add_mul, mul_comm]; omega
    rw [off, hq]
    omega

end Sys2Proof.Machine
end

section
/-! PROOFS. Registers by access type (R9 to R13, R619) and Heartwood words (R608 to R611). -/

namespace Sys2Proof.Machine

open Sys2Proof

set_option Elab.async false

/-! Register writes. -/

theorem enableMask_lt (be : Nat) : enableMask be < 2 ^ 32 := by
  have bound : ∀ b0 b1 b2 b3 : Bool,
      0 + b2n b0 * (255 * 256 ^ 0) + b2n b1 * (255 * 256 ^ 1) + b2n b2 * (255 * 256 ^ 2) + b2n b3 * (255 * 256 ^ 3) < 2 ^ 32 := by decide
  have bytes : List.range 4 = [0, 1, 2, 3] := rfl
  rw [enableMask, bytes, List.foldl_cons, List.foldl_cons, List.foldl_cons, List.foldl_cons, List.foldl_nil]
  exact bound _ _ _ _

theorem and_enableMask_full (v : Word) : v.toNat &&& enableMask 15 = v.toNat := by
  have full : enableMask 15 = 2 ^ 32 - 1 := by decide
  rw [full, Nat.and_two_pow_sub_one_eq_mod]
  exact Nat.mod_eq_of_lt v.isLt

/-- The value that a write leaves in the register's stored bits. -/
theorem reg_regStore (s : State) (a : Nat) (d : RegDesc) (be v : Nat) : (reg (regStore s a d be v) a).toNat =
    (((reg s a).toNat &&& (0xFFFFFFFF - (enableMask be &&& (d.rw ||| d.wo)))) ||| (v &&& (enableMask be &&& (d.rw ||| d.wo)))) &&&
      (0xFFFFFFFF - (v &&& enableMask be &&& d.w1c)) := by
  have written : (v &&& (enableMask be &&& (d.rw ||| d.wo))) < 2 ^ 32 :=
    Nat.lt_of_le_of_lt (Nat.and_le_right.trans Nat.and_le_left) (enableMask_lt be)
  have kept : ((reg s a).toNat &&& (0xFFFFFFFF - (enableMask be &&& (d.rw ||| d.wo)))) < 2 ^ 32 :=
    Nat.lt_of_le_of_lt Nat.and_le_left (reg s a).isLt
  unfold regStore
  dsimp only
  split
  next same => exact same.symm
  next =>
    rw [reg_setReg_self, BitVec.toNat_ofNat]
    exact Nat.mod_eq_of_lt (Nat.lt_of_le_of_lt Nat.and_le_left (Nat.or_lt_two_pow kept written))

/-- The internal registers are reached while the adapter is neither off nor held. -/
theorem regGate_open {s : State} {master a : Nat} (ha : a < 0x1000000000000) (off : s.dev.base ≠ .off) (held : s.dev.base ≠ .held) :
    regGate s master a = .open_ := by
  simp [regGate, ha, off, held]

theorem regGate_silent {s : State} {master a : Nat} (ha : a < 0x1000000000000) (h : s.dev.base = .off ∨ s.dev.base = .held) :
    regGate s master a = .silent := by
  simp [regGate, ha, h]

theorem partialRefused_full (master a : Nat) : partialRefused master 15 a = false := by simp [partialRefused]

theorem word_aligned {a : Nat} (h : a % 4 = 0) : a / 4 * 4 = a := by omega

/-- A whole word that no register's own effect takes is stored by access type. -/
theorem regWrite_full {s : State} {master a : Nat} {v : Word} {h : RegHit} (found : regFind a = some h) (plain : viewWord h = none)
    (writable : h.desc.rw ||| h.desc.wo ||| h.desc.w1c ||| h.desc.w1s ≠ 0) (unhooked : regHook s master a 15 v.toNat = none) :
    regWrite s master a 15 v = regAfter s a 15 v.toNat h.desc := by
  simp [regWrite, partialRefused_full, and_enableMask_full, unhooked, found, plain, writable]

theorem registerWrite_full {s : State} {master a : Nat} {v : Word} {h : RegHit} (aligned : a % 4 = 0) (ha : a < 0x1000000000000)
    (off : s.dev.base ≠ .off) (held : s.dev.base ≠ .held) (found : regFind a = some h) (plain : viewWord h = none)
    (writable : h.desc.rw ||| h.desc.wo ||| h.desc.w1c ||| h.desc.w1s ≠ 0) (unhooked : regHook s master a 15 v.toNat = none) :
    exec (.registerWrite master a 15 v) s = .next (regAfter s a 15 v.toNat h.desc) := by
  have reached : exec (.registerWrite master a 15 v) s = .next (regWrite s master (a / 4 * 4) (15 % 16) v) := by
    simp [exec, execRegisterWrite, regGate_open ha off held, done]
  rw [reached, word_aligned aligned, regWrite_full found plain writable unhooked]

/-- While the adapter is off or held a write changes nothing. -/
theorem registerWrite_silent {s : State} {master a be : Nat} {v : Word} (ha : a < 0x1000000000000)
    (h : s.dev.base = .off ∨ s.dev.base = .held) : exec (.registerWrite master a be v) s = .next s := by
  simp [exec, execRegisterWrite, regGate_silent ha h, done]

/-! Register reads. -/

theorem gatedRead_open {s : State} {master a : Nat} (ha : a < 0x1000000000000) (off : s.dev.base ≠ .off) (held : s.dev.base ≠ .held) :
    gatedRead s master a = regReadOut s master a := by
  simp [gatedRead, regGate_open ha off held]

/-- Without a latch a read gives the present value. -/
theorem regRead_of_no_latch {s : State} {master a : Nat} {h : RegHit} (found : regFind a = some h) (latches : s.latches = []) :
    regRead s master a = (regNow s a, if h.desc.lower then
        { readEffect s a h with latches := (readEffect s a h).latches.filter (fun l => !latchHit master (latchIsland a) l) ++
          [{ master := master, island := latchIsland a, addr := a + 4, value := regNow (readEffect s a h) (a + 4) }] }
      else readEffect s a h) := by
  simp [regRead, latches, found]

/-- A latched upper word is given to its master, and the latch is free again. -/
theorem regRead_of_latch {s : State} {master a : Nat} {l : ReadLatch} (latches : s.latches = [l]) (mine : l.master = master)
    (island : l.island = latchIsland a) (addr : l.addr = a) : regRead s master a = (l.value, { s with latches := [] }) := by
  simp [regRead, latches, latchHit, mine, island, addr]

theorem regRead_out (s : State) (master a : Nat) : (regRead s master a).2.out = s.out := (regRead_keeps s master a).same .out

theorem regReadOut_emits (s : State) (master a : Nat) : Emits s (regReadOut s master a) [.regRead master (regRead s master a).1] := by
  rw [Emits, regReadOut, emit, regRead_out]

/-- A register that is neither a pop register nor TIME_NOW clears its RC bits. -/
theorem readEffect_plain {s : State} {a : Nat} {h : RegHit} (now : a ≠ r_TIME_NOW_S) (stamp : a < 0x1310010000 ∨ 0x1318000000 ≤ a)
    (capture : a < 0x1330020000 ∨ 0x1330020280 ≤ a) : readEffect s a h =
      if (reg s a).toNat &&& h.desc.rc = 0 then s else setReg s a (BitVec.ofNat 32 ((reg s a).toNat &&& (4294967295 - h.desc.rc))) := by
  unfold readEffect
  rw [if_neg (by omega), if_neg (by omega), if_neg now]

/-- No bit of `y` is left of `x` without the bits of `y`. -/
theorem and_sub_and {x y : Nat} (h : y < 2 ^ 32) : x &&& (4294967295 - y) &&& y = 0 := by
  have complement : 4294967295 - y = 2 ^ 32 - (y + 1) := by omega
  apply Nat.eq_of_testBit_eq
  intro i
  rw [Nat.testBit_and, Nat.testBit_and, complement, Nat.testBit_two_pow_sub_succ h, Nat.zero_testBit]
  cases y.testBit i <;> simp

/-- What a read leaves has the RC bits clear. -/
theorem readEffect_clears {s : State} {a : Nat} {h : RegHit} (now : a ≠ r_TIME_NOW_S) (stamp : a < 0x1310010000 ∨ 0x1318000000 ≤ a)
    (capture : a < 0x1330020000 ∨ 0x1330020280 ≤ a) (rc : h.desc.rc ≤ 0xFFFFFFFF) : (reg (readEffect s a h) a).toNat &&& h.desc.rc = 0 := by
  rw [readEffect_plain now stamp capture]
  split
  next clear => exact clear
  next =>
    rw [reg_setReg_self, BitVec.toNat_ofNat, Nat.mod_eq_of_lt (Nat.lt_of_le_of_lt Nat.and_le_left (reg s a).isLt)]
    exact and_sub_and (by omega)

theorem readEffect_plain_changes {s : State} {a : Nat} {h : RegHit} (now : a ≠ r_TIME_NOW_S) (stamp : a < 0x1310010000 ∨ 0x1318000000 ≤ a)
    (capture : a < 0x1330020000 ∨ 0x1330020280 ≤ a) : ChangesOnly [.regs] s (readEffect s a h) := by
  rw [readEffect_plain now stamp capture]
  split
  · exact ChangesOnly.refl _ s
  · exact setReg_changes s a _

/-- TIME_NOW_S is a register, and a 64-bit quantity's lower word. -/
theorem regFind_timeNow : ∃ h, regFind r_TIME_NOW_S = some h ∧ h.desc.lower = true := ⟨_, rfl, rfl⟩

/-- The reads of a register, one word of a counter or another. -/
theorem registerReads {s : State} {c : Nat → Nat → Instr} (hc : c ∈ [Instr.rcRegisterRead, Instr.counterLoRead]) {master a : Nat}
    (aligned : a % 4 = 0) (ha : a < 0x1000000000000) (off : s.dev.base ≠ .off) (held : s.dev.base ≠ .held) :
    exec (c master a) s = .next (regReadOut s master a) := by
  have reached : exec (c master a) s = .next (gatedRead s master (a / 4 * 4)) := by
    simp only [List.mem_cons, List.not_mem_nil, or_false] at hc
    rcases hc with rfl | rfl <;> rfl
  rw [reached, word_aligned aligned, gatedRead_open ha off held]

theorem registerReads_clear {s : State} {c : Nat → Nat → Instr} (hc : c ∈ [Instr.rcRegisterRead, Instr.counterLoRead]) {master a : Nat}
    {h : RegHit} (aligned : a % 4 = 0) (ha : a < 0x1000000000000) (off : s.dev.base ≠ .off) (held : s.dev.base ≠ .held)
    (found : regFind a = some h) (rc : h.desc.rc ≤ 0xFFFFFFFF) (latches : s.latches = []) (single : h.desc.lower = false)
    (now : a ≠ r_TIME_NOW_S) (stamp : a < 0x1310010000 ∨ 0x1318000000 ≤ a) (capture : a < 0x1330020000 ∨ 0x1330020280 ≤ a) :
    Completes (c master a) s (fun t => (reg t a).toNat &&& h.desc.rc = 0 ∧ ChangesOnly [.regs, .out] s t) := by
  have after : (regRead s master a).2 = readEffect s a h := by rw [regRead_of_no_latch found latches, single]; rfl
  refine ⟨_, registerReads hc aligned ha off held, ?_, ?_⟩
  · rw [show reg (regReadOut s master a) a = reg (regRead s master a).2 a from rfl, after]
    exact readEffect_clears now stamp capture rc
  · rw [regReadOut, after]
    exact ((readEffect_plain_changes now stamp capture).mono (by decide)).step ((emit_changes _ _).mono (by decide))

theorem registerReads_latch {s : State} {c : Nat → Nat → Instr} (hc : c ∈ [Instr.rcRegisterRead, Instr.counterLoRead]) {master a : Nat}
    {h : RegHit} (aligned : a % 4 = 0) (ha : a < 0x1000000000000) (off : s.dev.base ≠ .off) (held : s.dev.base ≠ .held)
    (found : regFind a = some h) (latches : s.latches = []) (lower : h.desc.lower = true) (rc : h.desc.rc = 0) (now : a ≠ r_TIME_NOW_S)
    (stamp : a < 0x1310010000 ∨ 0x1318000000 ≤ a) (capture : a < 0x1330020000 ∨ 0x1330020280 ≤ a) :
    Completes (c master a) s (fun t => t.latches = [⟨master, latchIsland a, a + 4, regNow s (a + 4)⟩] ∧ ChangesOnly [.latches, .out] s t) := by
  have effect : readEffect s a h = s := by rw [readEffect_plain now stamp capture, rc]; simp
  have after : (regRead s master a).2 = { s with latches := [⟨master, latchIsland a, a + 4, regNow s (a + 4)⟩] } := by
    rw [regRead_of_no_latch found latches, effect, lower, latches]; rfl
  refine ⟨_, registerReads hc aligned ha off held, ?_, ?_⟩
  · rw [show (regReadOut s master a).latches = (regRead s master a).2.latches from rfl, after]
  · rw [regReadOut, after]
    exact .of_patch rfl

theorem registerReads_latched {s : State} {c : Nat → Nat → Instr} (hc : c ∈ [Instr.rcRegisterRead, Instr.counterLoRead]) {master a : Nat}
    {l : ReadLatch} (aligned : a % 4 = 0) (ha : a < 0x1000000000000) (off : s.dev.base ≠ .off) (held : s.dev.base ≠ .held)
    (latches : s.latches = [l]) (mine : l.master = master) (island : l.island = latchIsland a) (addr : l.addr = a) :
    Completes (c master a) s (fun t => Emits s t [.regRead master l.value] ∧ t.latches = [] ∧ ChangesOnly [.latches, .out] s t) := by
  have read := regRead_of_latch latches mine island addr
  refine ⟨_, registerReads hc aligned ha off held, ?_, ?_, ?_⟩
  · have out := regReadOut_emits s master a
    rwa [read] at out
  · rw [show (regReadOut s master a).latches = (regRead s master a).2.latches from rfl, read]
  · rw [regReadOut, read]
    exact .of_patch rfl

/-- TIME_NOW_S_LO latches the whole time value. -/
theorem timeNowRead {s : State} {master : Nat} (off : s.dev.base ≠ .off) (held : s.dev.base ≠ .held) (latches : s.latches = []) :
    Completes (.timeNowSLoRead master) s (fun t => Emits s t [.regRead master (regNow s r_TIME_NOW_S)] ∧
      t.time = { s.time with latch := s.time.now } ∧ ChangesOnly [.time, .latches, .out] s t) := by
  obtain ⟨h, found, lower⟩ := regFind_timeNow
  have effect : readEffect s r_TIME_NOW_S h = { s with time := { s.time with latch := s.time.now } } := by
    unfold readEffect
    rw [if_neg (by decide), if_neg (by decide), if_pos rfl]
  have read := regRead_of_no_latch (master := master) found latches
  rw [effect, lower] at read
  have reached : exec (.timeNowSLoRead master) s = .next (gatedRead s master r_TIME_NOW_S) := rfl
  refine ⟨regReadOut s master r_TIME_NOW_S, ?_, ?_, ?_, ?_⟩
  · rw [reached, gatedRead_open (by decide) off held]
  · have out := regReadOut_emits s master r_TIME_NOW_S
    rwa [congrArg Prod.fst read] at out
  · rw [show (regReadOut s master r_TIME_NOW_S).time = (regRead s master r_TIME_NOW_S).2.time from rfl, read]; rfl
  · rw [regReadOut, read]
    exact .of_patch rfl

/-! Heartwood words. -/

theorem hwPut_plain {s : State} {w v : Nat} (first : w ≠ 0) (mode : w ≠ 0x082) : hwPut s w v = hwSet s w (BitVec.ofNat 32 v) := by
  simp [hwPut, first, mode]

theorem heartwoodWrite_reached {s : State} {master w : Nat} {v : Word} (off : s.dev.base ≠ .off) (held : s.dev.base ≠ .held) :
    exec (.heartwoodWrite master w v) s = .next (hwWrite s master w v.toNat) := by
  simp [exec, execHeartwoodWrite, off, held, done]

/-- The lower words of the atomic pairs and their upper words are in the map, and no upper word is a lower one or the mode's. -/
theorem pairLower_bounds {w : Nat} (h : pairLower w = true) : 1 ≤ w ∧ w < 1023 ∧ w ≠ 0x082 ∧ w + 1 ≠ 0x082 ∧ pairLower (w + 1) = false := by
  simp only [pairLower, List.contains_iff_mem, List.mem_cons, List.not_mem_nil, or_false] at h
  rcases h with rfl | rfl | rfl | rfl | rfl | rfl | rfl <;> decide

theorem hwWrite_single {s : State} {master w v : Nat} (low : 1 ≤ w) (high : w ≤ 1023) (mode : w ≠ 0x082) (lower : pairLower w = false)
    (upper : pairLower (w - 1) = false) : hwWrite s master w v = hwSet s w (BitVec.ofNat 32 v) := by
  have some : ¬ 1023 < w := by omega
  simp [hwWrite, some, lower, upper, hwPut_plain (show w ≠ 0 by omega) mode]

theorem hwWrite_lower {s : State} {master w v : Nat} (lower : pairLower w = true) : hwWrite s master w v = { s with hw := { s.hw with
    staged := s.hw.staged.filter (fun x => !decide (x.1 = master ∧ x.2.1 = w)) ++ [(master, w, BitVec.ofNat 32 v)] } } := by
  have bounds := pairLower_bounds lower
  have some : ¬ 1023 < w := by omega
  simp only [hwWrite, some, lower, if_true, if_false]

/-- The words of a pair take effect with the upper one. -/
theorem hwWrite_upper {s : State} {master w v : Nat} {u : Word} (lower : pairLower w = true) (staged : s.hw.staged = [(master, w, u)]) :
    hwWrite s master (w + 1) v = hwSet (hwSet { s with hw := { s.hw with staged := [] } } w u) (w + 1) (BitVec.ofNat 32 v) := by
  obtain ⟨low, high, mode, mode', single⟩ := pairLower_bounds lower
  have some : ¬ 1023 < w + 1 := by omega
  have put := fun t => hwPut_plain (s := t) (v := u.toNat) (show w ≠ 0 by omega) mode
  have put' := fun t => hwPut_plain (s := t) (v := v) (show w + 1 ≠ 0 by omega) mode'
  simp [hwWrite, some, single, lower, staged, put, put']

/-- Settles O13: a gate, the register's own effect or none, then its access type; Heartwood writes by their place in a pair. -/
theorem registersAndHeartwoodWordsAreReadAndWritten : Obligations.RegistersAndHeartwoodWordsAreReadAndWritten := by
  refine ⟨⟨?_, reg_regStore, ?_, ?_, fun s master => timeNowRead⟩, ?_, ?_, ?_, ?_⟩
  · intro s master a v h aligned ha off held found plain writable unhooked
    exact registerWrite_full aligned ha off held found plain writable unhooked
  · intro s master a be v ha h
    exact registerWrite_silent ha h
  · intro c hc s master a h aligned ha off held found rc
    refine ⟨fun latches => ?_, registerReads_clear hc aligned ha off held found rc, registerReads_latch hc aligned ha off held found,
      fun l => registerReads_latched hc aligned ha off held⟩
    refine ⟨_, registerReads hc aligned ha off held, ?_⟩
    have out := regReadOut_emits s master a
    rwa [congrArg Prod.fst (regRead_of_no_latch (master := master) found latches)] at out
  · intro s master w v off held low high mode lower upper
    refine ⟨_, heartwoodWrite_reached off held, ?_⟩
    rw [hwWrite_single low high mode lower upper]
    refine ⟨?_, fun x hx => hwWord_hwSet_ne s _ hx, rfl, hwSet_changes s w _⟩
    rw [hwWord_hwSet_self, BitVec.ofNat_toNat, BitVec.setWidth_eq]
  · intro s master w v off held lower
    refine ⟨_, heartwoodWrite_reached off held, ?_⟩
    rw [hwWrite_lower lower, BitVec.ofNat_toNat, BitVec.setWidth_eq]
    exact ⟨by simp, rfl, rfl, .of_patch rfl⟩
  · intro s master w v u off held lower staged
    refine ⟨_, heartwoodWrite_reached off held, ?_⟩
    rw [hwWrite_upper lower staged, BitVec.ofNat_toNat, BitVec.setWidth_eq]
    refine ⟨?_, hwWord_hwSet_self _ _ _, rfl, .of_patch rfl⟩
    rw [hwWord_hwSet_ne _ _ (by omega)]
    exact hwWord_hwSet_self _ _ _
  · intro s master w v h
    rcases h with h | h | h
    · simp [exec, execHeartwoodWrite, h, done]
    · simp [exec, execHeartwoodWrite, h, done]
    · by_cases running : s.dev.base = .off ∨ s.dev.base = .held
      · simp [exec, execHeartwoodWrite, running, done]
      · simp [exec, execHeartwoodWrite, running, done, hwWrite, h]

end Sys2Proof.Machine
end

section
/-! PROOFS. Accesses to HBM and BAR0 windows (R30 to R32, R428 to R430). -/

namespace Sys2Proof.Machine

open Sys2Proof

set_option Elab.async false

/-! Byte strings. -/

@[simp] theorem length_toLe (n v : Nat) : (toLe n v).length = n := by
  induction n generalizing v with
  | zero => rfl
  | succ n ih => simp [toLe, ih]

theorem getD_toLe {n i : Nat} (v : Nat) (h : i < n) : (toLe n v).getD i 0 = BitVec.ofNat 8 (v / 256 ^ i) := by
  induction n generalizing v i with
  | zero => omega
  | succ n ih =>
    cases i with
    | zero => simp [toLe]
    | succ i =>
      rw [toLe, List.getD_cons_succ, ih _ (by omega), Nat.div_div_eq_div_mul, pow_succ']

@[simp] theorem length_slice (b : Bytes) (off n : Nat) : (slice b off n).length = n := by
  simp [slice]

theorem getD_slice (b : Bytes) (off : Nat) {n i : Nat} (h : i < n) : (slice b off n).getD i 0 = b.getD (off + i) 0 := by
  simp only [slice, List.getD_eq_getElem?_getD]
  by_cases inside : off + i < b.length
  · rw [List.getElem?_append_left (by simp; omega), List.getElem?_take_of_lt h, List.getElem?_drop]
  · have past : b[off + i]? = none := List.getElem?_eq_none (by omega)
    rw [List.getElem?_append_right (by simp; omega), past]
    rw [List.getElem?_replicate]
    split <;> rfl

/-- Byte `i` of the value of a string is its byte `i`. -/
theorem byte_leVal (b : Bytes) (i : Nat) : BitVec.ofNat 8 (leVal b / 256 ^ i) = b.getD i 0 := by
  induction b generalizing i with
  | nil => simp [leVal]
  | cons x xs ih =>
    cases i with
    | zero =>
      apply BitVec.eq_of_toNat_eq
      have := x.isLt
      simp [leVal]
      omega
    | succ i =>
      rw [List.getD_cons_succ, ← ih, pow_succ', ← Nat.div_div_eq_div_mul]
      have := x.isLt
      congr 2
      simp only [leVal]
      omega

theorem testBit_div (x i j : Nat) : (x / 256 ^ i).testBit j = x.testBit (8 * i + j) := by
  have e : 256 ^ i = 2 ^ (8 * i) := by rw [pow_mul]; rfl
  rw [e, Nat.testBit_div_two_pow, Nat.add_comm]

theorem enableMask_testBit (be : Nat) {i j : Nat} (hi : i < 4) (hj : j < 8) : (enableMask be).testBit (8 * i + j) = bitAt be i := by
  have table : ∀ b0 b1 b2 b3 : Bool, ∀ i < 4, ∀ j < 8,
      (0 + b2n b0 * (255 * 256 ^ 0) + b2n b1 * (255 * 256 ^ 1) + b2n b2 * (255 * 256 ^ 2) + b2n b3 * (255 * 256 ^ 3)).testBit (8 * i + j) =
        [b0, b1, b2, b3].getD i false := by decide
  have bytes : List.range 4 = [0, 1, 2, 3] := rfl
  rw [enableMask, bytes, List.foldl_cons, List.foldl_cons, List.foldl_cons, List.foldl_cons, List.foldl_nil, table _ _ _ _ i hi j hj]
  match i, hi with
  | 0, _ => rfl
  | 1, _ => rfl
  | 2, _ => rfl
  | 3, _ => rfl

/-- A merged word has the new bytes where they are enabled and the old ones elsewhere. -/
theorem byte_mergeWord (old v be : Nat) {i : Nat} (hi : i < 4) : BitVec.ofNat 8 (mergeWord old v be / 256 ^ i) =
    if bitAt be i then BitVec.ofNat 8 (v / 256 ^ i) else BitVec.ofNat 8 (old / 256 ^ i) := by
  have complement : 4294967295 - enableMask be = 2 ^ 32 - (enableMask be + 1) := by have := enableMask_lt be; omega
  apply BitVec.eq_of_getLsbD_eq
  intro j hj
  have byteBit : ∀ x, (BitVec.ofNat 8 (x / 256 ^ i)).getLsbD j = x.testBit (8 * i + j) := fun x => by
    simp only [BitVec.getLsbD_ofNat, hj, testBit_div, decide_true, Bool.true_and]
  have inside : 8 * i + j < 32 := by omega
  rw [apply_ite (fun b : Byte => b.getLsbD j), byteBit, byteBit, byteBit, mergeWord, Nat.testBit_or, Nat.testBit_and, Nat.testBit_and,
    complement, Nat.testBit_two_pow_sub_succ (enableMask_lt be), enableMask_testBit be hi hj]
  cases bitAt be i <;> simp [inside]

/-! Bytes of memory. -/

theorem memRead_memWriteN (bs : Bytes) (m : List Host.Cell) (a c : Nat) :
    memRead (memWriteN m a bs) c = if a ≤ c ∧ c < a + bs.length then bs.getD (c - a) 0 else memRead m c := by
  induction bs generalizing m a with
  | nil => simp [memWriteN]
  | cons b bs ih =>
    rw [memWriteN, ih, List.length_cons]
    by_cases first : c = a
    · subst first
      simp
    · rw [memRead_memWrite_ne m b first]
      by_cases inside : a + 1 ≤ c ∧ c < a + 1 + bs.length
      · have next : c - a = (c - (a + 1)) + 1 := by omega
        rw [if_pos inside, if_pos (by omega), next, List.getD_cons_succ]
      · rw [if_neg inside, if_neg (by omega)]

@[simp] theorem length_memReadN (m : List Host.Cell) (a n : Nat) : (memReadN m a n).length = n := by
  induction n generalizing a with
  | zero => rfl
  | succ n ih => simp [memReadN, ih]

theorem getD_memReadN (m : List Host.Cell) (a : Nat) {n i : Nat} (h : i < n) : (memReadN m a n).getD i 0 = memRead m (a + i) := by
  induction n generalizing a i with
  | zero => omega
  | succ n ih =>
    cases i with
    | zero => rfl
    | succ i => rw [memReadN, List.getD_cons_succ, ih _ (by omega), Nat.add_right_comm, Nat.add_assoc]

/-- Two strings of one length with the same bytes. -/
theorem bytes_ext {b c : Bytes} (len : b.length = c.length) (h : ∀ i < b.length, b.getD i 0 = c.getD i 0) : b = c := by
  apply List.ext_getElem len
  intro i hb hc
  have := h i hb
  rwa [List.getD_eq_getElem _ _ hb, List.getD_eq_getElem _ _ hc] at this

/-! Words of HBM below the trace region. -/

theorem traceBase_le (s : State) : traceBase s ≤ 0xC00000000 := Nat.sub_le _ _

theorem traceBase_congr {s t : State} (h : t.gauge = s.gauge) : traceBase t = traceBase s := by
  unfold traceBase; rw [h]

/-- The trace region begins at a multiple of 4. -/
theorem traceBase_aligned (s : State) : traceBase s % 4 = 0 := by
  unfold traceBase; omega

theorem traceAt_none {s : State} {a : Nat} (h : a < traceBase s) : traceAt s a = none := by
  unfold traceAt
  rw [if_neg (by omega)]

theorem memWord_hbm {s : State} {a : Nat} (h : a < traceBase s) : memWord s a = leVal (memReadN s.mem a 4) := by
  generalize body : memWord = f
  delta memWord at body
  subst body
  beta_reduce
  rw [traceAt_none h]

/-- Byte `i` of a word of HBM. -/
theorem byte_memWord {s : State} {a i : Nat} (h : a < traceBase s) (hi : i < 4) :
    BitVec.ofNat 8 (memWord s a / 256 ^ i) = memRead s.mem (a + i) := by
  rw [memWord_hbm h, byte_leVal, getD_memReadN _ _ hi]

theorem memPut_hbm {s : State} {a : Nat} (be v : Nat) (h : a < traceBase s) :
    memPut s a be v = { s with mem := memWriteN s.mem a (toLe 4 (mergeWord (memWord s a) v be)) } := by
  generalize body : memPut = f
  delta memPut at body
  subst body
  beta_reduce
  rw [traceAt_none h]

theorem busWrite_hbm {s : State} {master a : Nat} (be v : Nat) (h : a < traceBase s) :
    busWrite s master a be v = { s with mem := memWriteN s.mem a (toLe 4 (mergeWord (memWord s a) v be)) } := by
  have top := traceBase_le s
  unfold busWrite
  rw [if_neg (by omega), if_neg (by omega), if_neg (by omega), memPut_hbm be v h]

theorem busRead_hbm {s : State} {master a : Nat} (h : a < traceBase s) : busRead s master a = (memWord s a, s) := by
  have top := traceBase_le s
  unfold busRead peekWord
  rw [if_neg (by omega), if_neg (by omega), if_neg (by omega), if_neg (by omega)]

/-- The memory after a word is written: the enabled bytes are new. -/
theorem memRead_busWrite {s : State} {master a : Nat} (be v c : Nat) (h : a < traceBase s) : memRead (busWrite s master a be v).mem c =
    if a ≤ c ∧ c < a + 4 ∧ bitAt be (c - a) = true then BitVec.ofNat 8 (v / 256 ^ (c - a)) else memRead s.mem c := by
  rw [busWrite_hbm be v h, memRead_memWriteN, length_toLe]
  by_cases inside : a ≤ c ∧ c < a + 4
  · have hi : c - a < 4 := by omega
    have back : a + (c - a) = c := by omega
    rw [if_pos inside, getD_toLe _ hi, byte_mergeWord _ _ _ hi, byte_memWord h hi, back]
    simp [inside]
  · rw [if_neg inside, if_neg (by omega)]

theorem enablesAt_bit (w a len : Nat) {i : Nat} (hi : i < 4) : bitAt (enablesAt w a len) i = decide (a ≤ w + i ∧ w + i < a + len) := by
  have table : ∀ b0 b1 b2 b3 : Bool, ∀ i < 4, bitAt (0 + b2n b0 * 2 ^ 0 + b2n b1 * 2 ^ 1 + b2n b2 * 2 ^ 2 + b2n b3 * 2 ^ 3) i =
      [b0, b1, b2, b3].getD i false := by decide
  have bytes : List.range 4 = [0, 1, 2, 3] := rfl
  rw [enablesAt, bytes, List.foldl_cons, List.foldl_cons, List.foldl_cons, List.foldl_cons, List.foldl_nil, table _ _ _ _ i hi]
  match i, hi with
  | 0, _ => rfl
  | 1, _ => rfl
  | 2, _ => rfl
  | 3, _ => rfl

/-- A run of words is written: the bytes of the access that it covers are new, and nothing but memory changes. -/
theorem busWriteN_hbm {s : State} {master a len w n : Nat} (b : Bytes) (h : w + 4 * n ≤ traceBase s) :
    ∃ m, busWriteN s master a len w n b = { s with mem := m } ∧
      ∀ c, memRead m c = if w ≤ c ∧ c < w + 4 * n ∧ a ≤ c ∧ c < a + len then b.getD (c - w) 0 else memRead s.mem c := by
  induction n generalizing s w b with
  | zero =>
    refine ⟨s.mem, rfl, fun c => ?_⟩
    rw [if_neg (by omega)]
  | succ n ih =>
    have here : w < traceBase s := by omega
    have step := busWrite_hbm (master := master) (enablesAt w a len) (le b 0 4) here
    have written := fun c => memRead_busWrite (master := master) (enablesAt w a len) (le b 0 4) c here
    rw [step] at written
    have base : traceBase (busWrite s master w (enablesAt w a len) (le b 0 4)) = traceBase s := traceBase_congr (by rw [step])
    obtain ⟨m, hm, bytes⟩ := ih (s := busWrite s master w (enablesAt w a len) (le b 0 4)) (w := w + 4) (b.drop 4)
      (by rw [base]; omega)
    refine ⟨m, by rw [busWriteN, hm, step], fun c => ?_⟩
    rw [bytes c, step, written c]
    by_cases rest : w + 4 ≤ c ∧ c < w + 4 + 4 * n ∧ a ≤ c ∧ c < a + len
    · have shift : 4 + (c - (w + 4)) = c - w := by omega
      rw [if_pos rest, if_pos (by omega), List.getD_eq_getElem?_getD, List.getElem?_drop, shift, List.getD_eq_getElem?_getD]
    · rw [if_neg rest]
      by_cases first : w ≤ c ∧ c < w + 4
      · have hi : c - w < 4 := by omega
        have back : w + (c - w) = c := by omega
        rw [enablesAt_bit _ _ _ hi, back, le, byte_leVal, getD_slice _ _ hi, Nat.zero_add]
        by_cases mine : a ≤ c ∧ c < a + len
        · rw [if_pos (by simp [first, mine]), if_pos (by omega)]
        · rw [if_neg (by simp [mine]), if_neg (by omega)]
      · rw [if_neg (by omega), if_neg (by omega)]

/-- The words of an access that ends below the trace region lie below it. -/
theorem wordsOf_below {s : State} {a n : Nat} (some : 0 < n) (h : a + n ≤ traceBase s) : a / 4 * 4 + 4 * wordsOf a n ≤ traceBase s := by
  have aligned := traceBase_aligned s
  unfold wordsOf
  omega

/-- An access to HBM stores its bytes and nothing else. -/
theorem accessWrite_hbm {s : State} {master a : Nat} {b : Bytes} (some : b ≠ []) (h : a + b.length ≤ traceBase s) :
    Stored s (accessWrite s master a b) a b ∧ ChangesOnly [.mem] s (accessWrite s master a b) := by
  have len : 0 < b.length := List.length_pos_iff.mpr some
  obtain ⟨m, hm, bytes⟩ := busWriteN_hbm (master := master) (a := a) (len := b.length) (zeros (a % 4) ++ b) (wordsOf_below len h)
  have last : a / 4 * 4 + 4 * wordsOf a b.length ≥ a + b.length := by unfold wordsOf; omega
  rw [accessWrite, hm]
  refine ⟨⟨?_, fun c outside => ?_⟩, .of_patch rfl⟩
  · refine bytes_ext (by simp) (fun i hi => ?_)
    rw [length_memReadN] at hi
    have at_ : a + i - a / 4 * 4 = a % 4 + i := by omega
    rw [getD_memReadN _ _ hi, bytes, if_pos (by omega), at_, List.getD_eq_getElem?_getD, List.getElem?_append_right (by simp [zeros]),
      List.getD_eq_getElem?_getD]
    simp [zeros]
  · rw [bytes, if_neg (by omega)]

/-- A run of words of HBM is read. -/
theorem busReadN_hbm {s : State} {master w n : Nat} (h : w + 4 * n ≤ traceBase s) :
    (busReadN s master w n).2 = s ∧ (busReadN s master w n).1 = memReadN s.mem w (4 * n) := by
  induction n generalizing w with
  | zero => exact ⟨rfl, rfl⟩
  | succ n ih =>
    have here : w < traceBase s := by omega
    obtain ⟨same, bytes⟩ := ih (w := w + 4) (by omega)
    rw [busReadN, busRead_hbm here]
    refine ⟨same, ?_⟩
    rw [bytes]
    refine bytes_ext (by simp; omega) (fun i hi => ?_)
    simp only [List.length_append, length_toLe, length_memReadN] at hi
    rw [getD_memReadN _ _ (by omega), List.getD_eq_getElem?_getD]
    by_cases first : i < 4
    · rw [List.getElem?_append_left (by simpa using first), ← List.getD_eq_getElem?_getD, getD_toLe _ first, byte_memWord here first]
    · rw [List.getElem?_append_right (by simp; omega), ← List.getD_eq_getElem?_getD, length_toLe, getD_memReadN _ _ (by omega)]
      congr 1
      omega

theorem accessRead_hbm {s : State} {master a n : Nat} (some : 0 < n) (h : a + n ≤ traceBase s) :
    accessRead s master a n = (memReadN s.mem a n, s) := by
  obtain ⟨same, bytes⟩ := busReadN_hbm (master := master) (wordsOf_below some h)
  have last : a / 4 * 4 + 4 * wordsOf a n ≥ a + n := by unfold wordsOf; omega
  rw [accessRead, same, bytes]
  congr 1
  refine bytes_ext (by simp) (fun i hi => ?_)
  rw [length_slice] at hi
  have at_ : a / 4 * 4 + (a % 4 + i) = a + i := by omega
  rw [getD_slice _ _ hi, getD_memReadN _ _ (by omega), getD_memReadN _ _ hi, at_]

theorem mappedAll_hbm {s : State} {a n : Nat} (some : 0 < n) (h : a + n ≤ traceBase s) : mappedAll a n = true := by
  have top := traceBase_le s
  have low : a < 0xC00000000 := by omega
  have high : a + n - 1 < 0xC00000000 := by omega
  simp [mappedAll, mapped, low, high]

/-! FABRIC_ACCESS. -/

theorem fabricAccess_write {s : State} {master a : Nat} {b : Bytes} (runs : masterRuns s master = true) (some : b ≠ [])
    (mapped : mappedAll a b.length = true) : exec (.fabricAccess master a 0 (.some b)) s = .next (accessWrite s master a b) := by
  have len : b.length ≠ 0 := by simpa using some
  simp [exec, execFabricAccess, done, runs, some, mapped]

theorem fabricAccess_read {s : State} {master a n : Nat} (runs : masterRuns s master = true) (some : 0 < n)
    (mapped : mappedAll a n = true) : exec (.fabricAccess master a n none) s =
      .next (emit (accessRead s master a n).2 (.fabricRead master (accessRead s master a n).1)) := by
  have len : n ≠ 0 := by omega
  simp [exec, execFabricAccess, done, runs, len, mapped]

/-- A read that reaches nothing is answered with an error. -/
theorem fabricAccess_read_unmapped {s : State} {master a n : Nat} (runs : masterRuns s master = true) (some : 0 < n)
    (unmapped : mappedAll a n = false) (island : master < 4096 ∨ 4608 ≤ master) :
    exec (.fabricAccess master a n none) s = .next (emit s (.fabricRead master none)) := by
  have len : n ≠ 0 := by omega
  have thread : ¬ (4096 ≤ master ∧ master < 4608) := by omega
  simp [exec, execFabricAccess, done, runs, len, unmapped, thread]

/-- A write that reaches nothing is logged. -/
theorem fabricAccess_write_unmapped {s : State} {master a : Nat} {b : Bytes} (runs : masterRuns s master = true) (some : b ≠ [])
    (unmapped : mappedAll a b.length = false) : exec (.fabricAccess master a 0 (.some b)) s =
      .next (errlog s 0x0101 (masterIsland master) 0xFFFF a (toLe 1 (masterIsland master))) := by
  simp [exec, execFabricAccess, done, runs, some, unmapped]

theorem fabricAccess_stopped {s : State} {master : Nat} (a n : Nat) (d : Option Bytes) (stopped : masterRuns s master = false) :
    exec (.fabricAccess master a n d) s = .next s := by
  simp [exec, execFabricAccess, done, stopped]

/-! BAR0 windows. -/

/-- The internal address that a BAR0 offset names. -/
def windowAddr (s : State) (ep off : Nat) : Nat :=
  (wttGet s ep (off / 0x40000)).1.toNat / 262144 * 262144 + 4294967296 * (wttGet s ep (off / 0x40000)).2.toNat + off % 0x40000

theorem hostBuffer_hbm {a : Nat} (h : a < 0xC00000000) : hostBuffer a = none := by
  unfold hostBuffer
  rw [if_neg (by omega)]

theorem bar0Access_read {s : State} {ep off n : Nat} (gate : hostGate s ep 0 = .open_) (some : 0 < n) (short : n ≤ 64)
    (inside : off + n ≤ 0x4000000) (valid : bitAt (wttGet s ep (off / 0x40000)).1.toNat 0 = true)
    (readable : bitAt (wttGet s ep (off / 0x40000)).1.toNat 1 = true) (mapped : mappedAll (windowAddr s ep off) n = true) :
    exec (.bar0Access ep off n none) s = .next (emit (accessRead s (2048 * ep) (windowAddr s ep off) n).2
      (.completion ep 0 (accessRead s (2048 * ep) (windowAddr s ep off) n).1)) := by
  have len : ¬ (n = 0 ∨ 0x4000000 < off + n) := by omega
  have fits : ¬ 64 < n := by omega
  simp only [windowAddr] at mapped ⊢
  simp [exec, execBar0Access, done, gate, len, fits, valid, readable, mapped]

theorem bar0Access_read_refused {s : State} {ep off n : Nat} (gate : hostGate s ep 0 = .open_) (some : 0 < n) (short : n ≤ 64)
    (inside : off + n ≤ 0x4000000)
    (refused : (bitAt (wttGet s ep (off / 0x40000)).1.toNat 0 && bitAt (wttGet s ep (off / 0x40000)).1.toNat 1) = false) :
    exec (.bar0Access ep off n none) s = .next (emit (windowError s ep off false) (.completion ep 0 (.some (List.replicate n 0xFF)))) := by
  have len : ¬ (n = 0 ∨ 0x4000000 < off + n) := by omega
  have fits : ¬ 64 < n := by omega
  simp only [exec, execBar0Access, done, gate, len, fits, refused, Bool.false_and, if_false, Bool.false_eq_true]

theorem bar0Access_write {s : State} {ep off : Nat} {b : Bytes} (gate : hostGate s ep 0 = .open_) (some : b ≠ [])
    (inside : off + b.length ≤ 0x4000000) (valid : bitAt (wttGet s ep (off / 0x40000)).1.toNat 0 = true)
    (writable : bitAt (wttGet s ep (off / 0x40000)).1.toNat 2 = true) (mapped : mappedAll (windowAddr s ep off) b.length = true)
    (hbm : hostBuffer (windowAddr s ep off) = none) :
    exec (.bar0Access ep off 0 (.some b)) s = .next (accessWrite s (2048 * ep) (windowAddr s ep off) b) := by
  have len : ¬ (b.length = 0 ∨ 0x4000000 < off + b.length) := by
    rw [List.length_eq_zero_iff]
    exact fun h => h.elim some (by omega)
  simp only [windowAddr] at mapped hbm ⊢
  simp only [exec, execBar0Access, done, gate, len, valid, writable, mapped, hbm, Bool.true_and, if_false, if_true]

theorem bar0Access_write_refused {s : State} {ep off : Nat} {b : Bytes} (gate : hostGate s ep 0 = .open_) (some : b ≠ [])
    (inside : off + b.length ≤ 0x4000000)
    (refused : (bitAt (wttGet s ep (off / 0x40000)).1.toNat 0 && bitAt (wttGet s ep (off / 0x40000)).1.toNat 2) = false) :
    exec (.bar0Access ep off 0 (.some b)) s = .next (windowError s ep off true) := by
  have len : ¬ (b.length = 0 ∨ 0x4000000 < off + b.length) := by
    rw [List.length_eq_zero_iff]
    exact fun h => h.elim some (by omega)
  simp only [exec, execBar0Access, done, gate, len, refused, Bool.false_and, if_false, Bool.false_eq_true]

/-- An output after changes that put nothing out. -/
theorem emit_emits {s t : State} (o : Output) (h : t.out = s.out) : Emits s (emit t o) [o] := by
  rw [Emits, emit_out, h]

theorem counter_setReg_ne (s : State) {a b : Nat} (v : Word) (h : b ≠ a) : counter (setReg s a v) b = counter s b := by
  simp [counter, setReg, mapGetD_mapSet_ne _ _ _ h]

theorem counted_bump (s : State) (a : Nat) : Counted s (bump s a) a 1 := counter_bump_self s a

theorem counted_capture {s t : State} {a b n : Nat} (v : Nat) (h : a ≠ b) (k : Counted s t a n) : Counted s (capture t b v) a n := by
  unfold capture
  split
  · exact k
  · rw [Counted, counter_setReg_ne _ _ h]; exact k

/-- A refused access adds 1 to the endpoint's counter. -/
theorem windowError_counted {s : State} {ep : Nat} (off : Nat) (write : Bool) (h : ep < 2) :
    Counted s (windowError s ep off write) (r_HIF_CNT_WIN_ERR ep) 1 := by
  refine counted_capture _ ?_ (counted_bump s _)
  have : ep = 0 ∨ ep = 1 := by omega
  rcases this with rfl | rfl <;> decide

/-- Settles O14: the window or the fabric decides, and an access below the trace region goes to HBM word by word. -/
theorem mappedAccessesReachTheirBytes : Obligations.MappedAccessesReachTheirBytes := by
  refine ⟨?_, ?_, ?_, ?_, fun s master a n d => fabricAccess_stopped a n d, ?_⟩
  · intro s master a b runs some hbm
    have len : 0 < b.length := List.length_pos_iff.mpr some
    exact ⟨_, fabricAccess_write runs some (mappedAll_hbm len hbm), accessWrite_hbm some hbm⟩
  · intro s master a n runs some hbm
    rw [fabricAccess_read runs some (mappedAll_hbm some hbm), accessRead_hbm some hbm]
  · exact fun s master a n => fabricAccess_read_unmapped
  · exact fun s master a b => fabricAccess_write_unmapped
  · rintro s ep off w a gate rfl rfl
    refine ⟨?_, ?_, ?_, ?_⟩
    · intro n some short inside hbm valid readable
      have read := bar0Access_read gate some short inside valid readable (mappedAll_hbm some hbm)
      rwa [accessRead_hbm (a := windowAddr s ep off) some hbm] at read
    · intro n some short inside hep refused
      refine ⟨_, bar0Access_read_refused gate some short inside refused, ?_, windowError_counted off false hep, ?_⟩
      · exact emit_emits _ ((windowError_keeps s ep off false).same .out)
      · exact (Keeps.last (emit_keeps _ _) (.mono (windowError_keeps s ep off false))).frame
    · intro b some inside hbm valid writable
      have len : 0 < b.length := List.length_pos_iff.mpr some
      have top := traceBase_le s
      exact ⟨_, bar0Access_write gate some inside valid writable (mappedAll_hbm len hbm) (hostBuffer_hbm (by unfold windowAddr; omega)),
        accessWrite_hbm some hbm⟩
    · intro b some inside hep refused
      exact ⟨_, bar0Access_write_refused gate some inside refused, windowError_counted off true hep, (windowError_keeps s ep off true).frame⟩

end Sys2Proof.Machine
end

section
/-! PROOFS. Command rows that answer at once, and device flags beside the reported mode's stamp. -/

namespace Sys2Proof.Machine

open Sys2Proof

set_option Elab.async false

/-! Command rows. -/

/-- A command row whose body ends, for a request in range, in the answer from a state in which the command is still started. -/
theorem answersOk_of_command {c : Nat → Nat → Instr} {op : Nat} {P : State → Nat → Bytes → Prop} {body : State → Nat → Bytes → Bytes}
    {Q : State → State → Nat → Bytes → Prop} {f : State → Nat → Nat → Bytes → State}
    (row : ∀ s ch seq, exec (c ch seq) s = command s ch seq op (f s ch seq))
    (ends : ∀ s ch seq req, P s ch req → ∃ u, f s ch seq req = answer u ch seq rcOk (body s ch req) ∧
      (chanGet u ch).started = (chanGet s ch).started ∧ Q s (answer u ch seq rcOk (body s ch req)) ch req) :
    AnswersOk c op P body Q := by
  refine answersOk_of_exec (fun s ch seq req begun inRange => ?_)
  obtain ⟨u, hu, started, after⟩ := ends s ch seq req inRange
  exact ⟨u, by rw [row, command_begun _ begun, hu], started, after⟩

/-- A query answers from the state it found. -/
theorem answersOk_query {c : Nat → Nat → Instr} {op : Nat} {P : State → Nat → Bytes → Prop} {body : State → Nat → Bytes → Bytes}
    {f : State → Nat → Nat → Bytes → State} (row : ∀ s ch seq, exec (c ch seq) s = command s ch seq op (f s ch seq))
    (answers : ∀ s ch seq req, P s ch req → f s ch seq req = answer s ch seq rcOk (body s ch req)) :
    AnswersOk c op P body (fun s t ch _ => AnswerFrame [] s t ch) :=
  answersOk_of_command row (fun s ch seq req inRange => ⟨s, answers s ch seq req inRange, rfl, answer_frame s ch seq rcOk _⟩)

/-- A setting changes parts without channels, and answers. -/
theorem answersOk_set {c : Nat → Nat → Instr} {op : Nat} {P : State → Nat → Bytes → Prop} {body : State → Nat → Bytes → Bytes}
    {Q : State → State → Nat → Bytes → Prop} {f : State → Nat → Nat → Bytes → State}
    (row : ∀ s ch seq, exec (c ch seq) s = command s ch seq op (f s ch seq))
    (ends : ∀ s ch seq req, P s ch req → ∃ u, f s ch seq req = answer u ch seq rcOk (body s ch req) ∧ u.mbx = s.mbx ∧
      Q s (answer u ch seq rcOk (body s ch req)) ch req) : AnswersOk c op P body Q :=
  answersOk_of_command row (fun s ch seq req inRange => by
    obtain ⟨u, hu, mbx, after⟩ := ends s ch seq req inRange
    exact ⟨u, hu, by rw [chanGet_congr mbx], after⟩)

/-- Of firmware an answer changes the checkpoint's stamp. -/
theorem answer_fw (s : State) (ch seq code : Nat) (body : Bytes) : ∃ stamp, (answer s ch seq code body).fw = { s.fw with ckptStamp := stamp } := by
  unfold answer
  split
  · unfold finish
    dsimp only
    rw [(queueResponse_keeps _ _ _ _ _ _).same .fw, (trace_keeps _ _ _ _ _ _ _).same .fw]
    exact ⟨_, rfl⟩
  · exact ⟨s.fw.ckptStamp, rfl⟩

@[simp] theorem answer_fw_handover (s : State) (ch seq code : Nat) (body : Bytes) :
    (answer s ch seq code body).fw.handover = s.fw.handover := by
  obtain ⟨stamp, h⟩ := answer_fw s ch seq code body
  rw [h]

/-! Device flags. -/

/-- Of the device's flags at most the stamp of the reported mode changes. -/
def StampOnly (s t : State) : Prop := t.dev = { s.dev with since := t.dev.since }

theorem StampOnly.of_dev {s t : State} (h : t.dev = s.dev) : StampOnly s t := by
  unfold StampOnly; rw [h]

theorem StampOnly.refl (s : State) : StampOnly s s := .of_dev rfl

theorem StampOnly.trans {s t u : State} (h : StampOnly s t) (k : StampOnly t u) : StampOnly s u := by
  unfold StampOnly at *
  rw [k, h]

theorem StampOnly.of_keeps {ps : List Part} {s t : State} (h : Keeps ps s t) (dev : Part.dev ∉ ps := by decide) : StampOnly s t :=
  .of_dev (h.same .dev dev)

/-- A later change of other parts; it comes first, as in the term it is about. -/
theorem StampOnly.last {ps : List Part} {s t u : State} (k : Keeps ps t u) (h : StampOnly s t) (dev : Part.dev ∉ ps := by decide) :
    StampOnly s u :=
  h.trans (.of_keeps k dev)

theorem StampOnly.foldl {α : Type} {f : State → α → State} (step : ∀ u a, StampOnly u (f u a)) (l : List α) (s : State) :
    StampOnly s (l.foldl f s) := by
  induction l generalizing s with
  | nil => exact .refl s
  | cons a l ih => exact (step s a).trans (ih _)

theorem StampOnly.ite {s t u : State} {c : Prop} [Decidable c] (h : StampOnly s t) (k : StampOnly s u) : StampOnly s (if c then t else u) := by
  split
  · exact h
  · exact k

theorem modeLogged_stampOnly (s : State) (old new : Nat) : StampOnly s (modeLogged s old new) := by
  have stamped : StampOnly s { s with dev := { s.dev with since := stampNow s } } := rfl
  refine stamped.trans (.of_dev ?_)
  unfold modeLogged
  rw [(trace_keeps _ _ _ _ _ _ _).same .dev, (errlog_keeps _ _ _ _ _ _).same .dev, (vfEventAll_keeps _ _).same .dev,
    (mgrEventBoth_keeps _ _).same .dev]

theorem noteMode_stampOnly (before s : State) (cause : Nat) : StampOnly s (noteMode before s cause) := by
  unfold noteMode
  exact .ite (.refl s) (.last (modeTold_keeps _ _ _ _) (.ite (.refl s) (modeLogged_stampOnly _ _ _)))

theorem setGrant_stampOnly (s : State) (g : Bool) : StampOnly s (setGrant s g) := by
  unfold setGrant
  refine .ite (.refl s) (.last (eventToManager_keeps _ _ _) (.trans ?_ (noteMode_stampOnly _ _ _)))
  exact .last (traceAct_keeps _) (.of_dev rfl)

theorem itwLines_stampOnly (s : State) : StampOnly s (itwLines s) := by
  unfold itwLines
  extract_lets rel out _ t _ u
  have released : StampOnly s t := .ite (.refl s) (.of_dev rfl)
  have driven : StampOnly s u := .ite released (.last (emit_keeps _ _) (.last (traceAct_keeps _) (released.trans (.of_dev rfl))))
  exact .ite driven (driven.trans (setGrant_stampOnly _ _))

theorem StampOnly.base {s t : State} (h : StampOnly s t) : t.dev.base = s.dev.base := by rw [h]
theorem StampOnly.quiesce {s t : State} (h : StampOnly s t) : t.dev.quiesce = s.dev.quiesce := by rw [h]
theorem StampOnly.isolated {s t : State} (h : StampOnly s t) : t.dev.isolated = s.dev.isolated := by rw [h]

/-! What telling of something leaves alone: an event, an entry of the error log, the trace. -/

/-- A register that telling of something may write: a flag of the trace, a count of what the error log or a channel lost, the events
shown to a manager, or one shown to a VF (R452, R629). -/
def EventReg (a : Nat) : Prop :=
  a ∈ [r_GAU_TRACE_STATUS, r_GAU_ERRLOG_LOST, r_GAU_ERRLOG_SUPPRESSED, r_MBX_CNT_EVENT_DROP, r_HIF_MGR_EVENT 0, r_HIF_MGR_EVENT 1] ∨
    0x1000000000000 ≤ a

theorem eventReg_vfEvent (ep v : Nat) : EventReg (r_HIF_VF_EVENT ep v) := by
  right; unfold r_HIF_VF_EVENT; omega

/-- Of each channel only what waits to be sent and its counts change, of the registers only those of events, of Heartwood only the error
summaries (words 0x018 and 0x180 to 0x1FF), and firmware's service and generation are as they were. -/
structure Told (s t : State) : Prop where
  chan : ∀ ch, ∃ q e d, chanGet t ch = { chanGet s ch with queue := q, evSeq := e, dropped := d }
  regs : ∀ a, ¬ EventReg a → mapGet t.regs a = mapGet s.regs a
  word : ∀ w, w < 0x180 → w ≠ 0x018 → hwWord t w = hwWord s w
  serving : t.mbx.serving = s.mbx.serving
  fwGen : t.mbx.fwGen = s.mbx.fwGen

namespace Told

theorem of_parts {s t : State} (mbx : t.mbx = s.mbx) (regs : t.regs = s.regs) (hw : t.hw = s.hw) : Told s t where
  chan ch := ⟨(chanGet s ch).queue, (chanGet s ch).evSeq, (chanGet s ch).dropped, by rw [chanGet_congr mbx]⟩
  regs a _ := by rw [regs]
  word w _ _ := hwWord_congr hw w
  serving := by rw [mbx]
  fwGen := by rw [mbx]

theorem refl (s : State) : Told s s := of_parts rfl rfl rfl

theorem trans {s t u : State} (h : Told s t) (k : Told t u) : Told s u where
  chan ch := by
    obtain ⟨q, e, d, first⟩ := h.chan ch
    obtain ⟨q', e', d', second⟩ := k.chan ch
    exact ⟨q', e', d', by rw [second, first]⟩
  regs a other := (k.regs a other).trans (h.regs a other)
  word w low other := (k.word w low other).trans (h.word w low other)
  serving := k.serving.trans h.serving
  fwGen := k.fwGen.trans h.fwGen

theorem of_keeps {ps : List Part} {s t : State} (k : Keeps ps s t)
    (quiet : Part.mbx ∉ ps ∧ Part.regs ∉ ps ∧ Part.hw ∉ ps := by decide) : Told s t :=
  of_parts (k.same .mbx quiet.1) (k.same .regs quiet.2.1) (k.same .hw quiet.2.2)

theorem of_changes {ps : List Part} {s t : State} (k : ChangesOnly ps s t)
    (quiet : Part.mbx ∉ ps ∧ Part.regs ∉ ps ∧ Part.hw ∉ ps := by decide) : Told s t :=
  of_parts ((k .mbx).resolve_left quiet.1) ((k .regs).resolve_left quiet.2.1) ((k .hw).resolve_left quiet.2.2)

/-- A later change of other parts; it comes first, as in the term it is about. -/
theorem last {ps : List Part} {s t u : State} (k : Keeps ps t u) (h : Told s t)
    (quiet : Part.mbx ∉ ps ∧ Part.regs ∉ ps ∧ Part.hw ∉ ps := by decide) : Told s u :=
  h.trans (of_keeps k quiet)

theorem ite {s t u : State} {c : Prop} [Decidable c] (h : Told s t) (k : Told s u) : Told s (if c then t else u) := by
  split
  · exact h
  · exact k

theorem foldl {α : Type} {f : State → α → State} (step : ∀ u a, Told u (f u a)) (l : List α) (s : State) : Told s (l.foldl f s) := by
  induction l generalizing s with
  | nil => exact refl s
  | cons a l ih => exact (step s a).trans (ih _)

theorem setReg {s : State} {a : Nat} (v : Word) (event : EventReg a) : Told s (setReg s a v) where
  chan _ := ⟨_, _, _, rfl⟩
  regs _ other := mapGet_mapSet_ne _ _ (fun same => other (same ▸ event))
  word _ _ _ := rfl
  serving := rfl
  fwGen := rfl

theorem bump {s : State} {a : Nat} (event : EventReg a) : Told s (bump s a) := setReg _ event

theorem chanSet {s : State} {ch : Nat} {c : MbxChan} (h : ∃ q e d, c = { chanGet s ch with queue := q, evSeq := e, dropped := d }) :
    Told s (chanSet s ch c) where
  chan k := by
    rcases Decidable.em (k = ch) with rfl | other
    · rw [chanGet_chanSet_self]; exact h
    · exact ⟨_, _, _, chanGet_chanSet_ne s c other⟩
  regs _ _ := rfl
  word _ _ _ := rfl
  serving := rfl
  fwGen := rfl

variable {s t : State}

theorem started (h : Told s t) (ch : Nat) : (chanGet t ch).started = (chanGet s ch).started := by
  obtain ⟨_, _, _, same⟩ := h.chan ch; rw [same]

theorem journal (h : Told s t) (ch : Nat) : (chanGet t ch).journal = (chanGet s ch).journal := by
  obtain ⟨_, _, _, same⟩ := h.chan ch; rw [same]

theorem reg (h : Told s t) {a : Nat} (other : ¬ EventReg a) : reg t a = reg s a := by
  unfold Machine.reg; rw [h.regs a other]

theorem counter (h : Told s t) {a : Nat} (other : ¬ EventReg a) : counter t a = counter s a := by
  unfold Machine.counter mapGetD; rw [h.regs a other]

theorem field (h : Told s t) {w : Nat} (hi lo : Nat) (low : w < 0x180 := by decide) (other : w ≠ 0x018 := by decide) :
    hwField t w hi lo = hwField s w hi lo := by
  unfold hwField; rw [h.word w low other]

end Told

theorem trace_told (s : State) (source kind flags slice sample : Nat) (data : Bytes) : Told s (trace s source kind flags slice sample data) := by
  have gauge : ∀ g, Told s { s with gauge := g } := fun _ => .of_parts rfl rfl rfl
  unfold trace
  dsimp only
  refine .ite (.ite ?_ (gauge _)) (.refl s)
  exact .trans (gauge _) (.setReg _ (.inl (by simp)))

theorem mgrEvent_told (s : State) {ep : Nat} (bit : Nat) (named : ep = 0 ∨ ep = 1) : Told s (mgrEvent s ep bit) := by
  have shown : Told s (setBits s (r_HIF_MGR_EVENT ep) (BitVec.ofNat 32 (2 ^ bit))) :=
    .setReg _ (.inl (by rcases named with rfl | rfl <;> simp))
  unfold mgrEvent
  exact .ite (.last (dueVec_keeps _ _ _ _) shown) shown

theorem mgrEventBoth_told (s : State) (bit : Nat) : Told s (mgrEventBoth s bit) :=
  (mgrEvent_told s bit (.inl rfl)).trans (mgrEvent_told _ bit (.inr rfl))

theorem vfEvent_told (s : State) (ep v bit : Nat) : Told s (vfEvent s ep v bit) := by
  have shown : Told s (setBits s (r_HIF_VF_EVENT ep v) (BitVec.ofNat 32 (2 ^ bit))) := .setReg _ (eventReg_vfEvent ep v)
  unfold vfEvent
  exact .ite (.last (dueVec_keeps _ _ _ _) shown) shown

theorem vfEventAll_told (s : State) (bit : Nat) : Told s (vfEventAll s bit) := by
  unfold vfEventAll
  exact .trans (.foldl (fun _ _ => vfEvent_told _ _ _ _) _ _) (.foldl (fun _ _ => vfEvent_told _ _ _ _) _ _)

theorem queueEvent_told (s : State) (ch code : Nat) (payload : Bytes) : Told s (queueEvent s ch code payload) := by
  unfold queueEvent
  refine .ite (.ite ?_ ?_) (.refl s)
  · exact .trans (.chanSet ⟨_, _, _, rfl⟩) (.bump (.inl (by simp)))
  · exact .trans (.chanSet ⟨_, _, _, rfl⟩) (trace_told _ _ _ _ _ _ _)

theorem eventToPf0_told (s : State) (ep code : Nat) (payload : Bytes) : Told s (eventToPf0 s ep code payload) := by
  unfold eventToPf0
  split
  · exact queueEvent_told _ _ _ _
  · exact .refl s

theorem eventToManager_told (s : State) (code : Nat) (payload : Bytes) : Told s (eventToManager s code payload) := by
  unfold eventToManager
  dsimp only
  refine .trans ?_ (queueEvent_told _ _ _ _)
  split
  · exact eventToPf0_told _ _ _ _
  · exact .refl s

theorem errSummary_told (s : State) (e : ErrEntry) : Told s (errSummary s e) := by
  have kept := errSummary_keeps s e
  refine ⟨fun ch => ⟨_, _, _, chanGet_congr (kept.same .mbx) ch⟩, fun a _ => by rw [kept.same .regs], fun w low other => ?_,
    by rw [kept.same .mbx], by rw [kept.same .mbx]⟩
  unfold errSummary
  extract_lets n ws
  rw [hwWord_hwSet_ne _ _ other, hwWord_hwSetAll_lt _ _ (by omega)]

theorem errWrite_told (s : State) (e : ErrEntry) : Told s (errWrite s e) := by
  have lost : ∀ (s : State) full, Told s (errLost s full) := fun s full => .ite (.bump (.inl (by simp))) (.refl s)
  have summary : ∀ (s : State) e, Told s (errSum s e) := fun s e => .ite (errSummary_told s e) (.refl s)
  have notice : ∀ (s : State) e, Told s (errNotice s e) := fun s e =>
    .ite (.trans (mgrEventBoth_told s 5) (eventToManager_told _ _ _)) (.refl s)
  unfold errWrite
  exact .trans (.trans (.trans (.last (errPut_keeps _ _) (.refl s)) (lost _ _)) (summary _ _)) (notice _ _)

theorem errlogGen_told (s : State) (code island func : Nat) (gen : BitVec 16) (addr : Nat) (data : Bytes) :
    Told s (errlogGen s code island func gen addr data) := by
  have window : ∀ g, Told s { s with gauge := g } := fun _ => .of_parts rfl rfl rfl
  unfold errlogGen
  dsimp only
  split
  · exact .trans (window _) (errWrite_told _ _)
  · exact .ite (.trans (window _) (errWrite_told _ _)) (.trans (window _) (.bump (.inl (by simp))))

theorem errlog_told (s : State) (code island func addr : Nat) (data : Bytes) : Told s (errlog s code island func addr data) :=
  errlogGen_told _ _ _ _ _ _ _

theorem noteMode_told (before s : State) (cause : Nat) : Told s (noteMode before s cause) := by
  have logged : ∀ old new, Told s (modeLogged s old new) := fun old new => by
    have stamped : Told s { s with dev := { s.dev with since := stampNow s } } := .of_changes (dev_changes s _)
    unfold modeLogged
    exact .trans (.trans (.trans (.trans stamped (mgrEventBoth_told _ _)) (vfEventAll_told _ _)) (errlog_told _ _ _ _ _ _))
      (trace_told _ _ _ _ _ _ _)
  unfold noteMode modeTold
  exact .ite (.refl s) (.trans (.ite (.refl s) (logged _ _)) (eventToManager_told _ _ _))

theorem noteRetired_told (s : State) (kind cause index shortfall island : Nat) : Told s (noteRetired s kind cause index shortfall island) := by
  unfold noteRetired
  exact (errlog_told _ _ _ _ _ _).trans (eventToManager_told _ _ _)

theorem traceAct_told (s : State) : Told s (traceAct s) := trace_told _ _ _ _ _ _ _

theorem setGrant_told (s : State) (g : Bool) : Told s (setGrant s g) := by
  have granted : ∀ w, Told s { s with itw := w } := fun _ => .of_parts rfl rfl rfl
  unfold setGrant
  exact .ite (.refl s) (.trans (.trans (.trans (granted _) (traceAct_told _)) (noteMode_told _ _ _)) (eventToManager_told _ _ _))

theorem itwLines_told (s : State) : Told s (itwLines s) := by
  have line : ∀ (u : State) w, Told u { u with itw := w } := fun _ _ => .of_parts rfl rfl rfl
  unfold itwLines
  extract_lets rel out _ t _ u
  have released : Told s t := .ite (.refl s) (.last (emit_keeps _ _) (line s _))
  have driven : Told s u := .ite released (.last (emit_keeps _ _) ((released.trans (line t _)).trans (traceAct_told _)))
  exact .ite driven (driven.trans (setGrant_told _ _))

theorem linkChange_told (s : State) (m : Nat) (up : Bool) (fault : Nat) : Told s (linkChange s m up fault) := by
  unfold linkChange
  extract_lets was t u
  have mac : Told s t := .of_parts rfl rfl rfl
  exact (Told.ite mac (mac.trans (vfEventAll_told _ _))).trans (eventToManager_told _ _ _)

theorem RunsOn.told {s t : State} {ch seq op : Nat} (h : RunsOn s ch seq op) (k : Told s t) : RunsOn t ch seq op := by
  unfold RunsOn; rw [k.started, k.journal]; exact h

theorem Unanswered.told {s t : State} {ch seq : Nat} (h : Unanswered s ch seq) (k : Told s t) : Unanswered t ch seq :=
  h.congr (k.started ch)

end Sys2Proof.Machine
end

section
/-! PROOFS. The steps of boot and its end (R582 to R584, R590), and the end of a handover. -/

namespace Sys2Proof.Machine

open Sys2Proof

set_option Elab.async false

/-- A command that reaches a state completes there. -/
theorem completes_of {c : Instr} {s t : State} {Q : State → Prop} (h : exec c s = .next t) (q : Q t) : Completes c s Q := ⟨t, h, q⟩

/-- The frame of a command, within the parts that a statement names. -/
theorem exec_changes {c : Instr} {s t : State} {ps : List Part} (h : exec c s = .next t) (sub : (mayChange c).all ps.contains = true := by rfl) :
    ChangesOnly ps s t :=
  (exec_keeps h).frame.mono (fun _ hp => List.contains_iff_mem.mp (List.all_eq_true.mp sub _ hp))

/-! Images. -/

/-- The state after the Wellhead image of bank `b` is taken. -/
def wellheadTaken (s : State) (b : Nat) : State :=
  { noteFallback s 0 b with
    dev := { s.dev with whVerified := true },
    fw := { s.fw with whBank := b, whRunning := true, spare := spareAtBoot (noteFallback s 0 b) } }

theorem exec_wellheadImageVerify {s : State} (boot : s.dev.base = .boot) (first : s.dev.whVerified = false) (normal : s.dev.recovery = false) :
    exec .wellheadImageVerify s = .next (match bootBank s 0 with
      | none => { s with dev := { s.dev with recovery := true } }
      | some b => wellheadTaken s b) := by
  have dev : ∀ b, (noteFallback s 0 b).dev = s.dev := fun b => (noteFallback_keeps s 0 b).same .dev
  have fw : ∀ b, (noteFallback s 0 b).fw = s.fw := fun b => (noteFallback_keeps s 0 b).same .fw
  simp only [exec, execWellheadImageVerify, boot, first, normal, done, ne_eq, not_true_eq_false, Bool.false_eq_true, or_self, if_false]
  cases bootBank s 0 with
  | none => rfl
  | some b => simp only [wellheadTaken, dev, fw]

theorem wellheadImageVerify_takes {s : State} (boot : s.dev.base = .boot) (first : s.dev.whVerified = false) (normal : s.dev.recovery = false) :
    Completes .wellheadImageVerify s (fun t =>
      (∀ b, bootBank s 0 = some b → t.dev.whVerified = true ∧ t.fw.whBank = b ∧ t.fw.whRunning = true) ∧
      (bootBank s 0 = none → t = { s with dev := { s.dev with recovery := true } }) ∧ ChangesOnly [.dev, .fw, .hw] s t) := by
  have reached := exec_wellheadImageVerify boot first normal
  refine completes_of reached ⟨fun b hb => ?_, fun hb => ?_, exec_changes reached⟩
  · rw [hb]; exact ⟨rfl, rfl, rfl⟩
  · rw [hb]

/-- The state after the pair is checked. -/
def pairChecked (s : State) : State :=
  let t := match bootBank s 1 with
    | some b => noteFallback s 1 b
    | none => s
  { t with
    dev := { s.dev with cscChecked := true, restrictedReason := pairReason s },
    fw := { s.fw with cscBank := (bootBank s 1).getD s.fw.cscBank } }

theorem exec_cascadeManifestCheck {s : State} (boot : s.dev.base = .boot) (verified : s.dev.whVerified = true) (first : s.dev.cscChecked = false) :
    exec .cascadeManifestCheck s = .next (pairChecked s) := by
  have dev : ∀ b, (noteFallback s 1 b).dev = s.dev := fun b => (noteFallback_keeps s 1 b).same .dev
  have fw : ∀ b, (noteFallback s 1 b).fw = s.fw := fun b => (noteFallback_keeps s 1 b).same .fw
  simp only [exec, execCascadeManifestCheck, boot, verified, first, done, ne_eq, not_true_eq_false, Bool.false_eq_true, or_self, if_false]
  unfold pairChecked
  cases bootBank s 1 with
  | none => rfl
  | some b => simp only [dev, fw]

theorem cascadeManifestCheck_checks {s : State} (boot : s.dev.base = .boot) (verified : s.dev.whVerified = true)
    (first : s.dev.cscChecked = false) : Completes .cascadeManifestCheck s (fun t => t.dev.cscChecked = true ∧
      t.dev.restrictedReason = pairReason s ∧ (∀ b, bootBank s 1 = some b → t.fw.cscBank = b) ∧ ChangesOnly [.dev, .fw, .hw] s t) := by
  have reached := exec_cascadeManifestCheck boot verified first
  refine completes_of reached ⟨rfl, rfl, fun b hb => ?_, exec_changes reached⟩
  show (bootBank s 1).getD s.fw.cscBank = b
  rw [hb]; rfl

/-! HBM and the self-test. -/

/-- Pseudo-channels that fail training are retired one after the other. -/
def trainingRetired (s : State) (failed : List Nat) : State :=
  failed.foldl (fun s pc => if 63 < pc ∨ hbmGone s pc ∨ 8 ≤ hbmGoneCount s then s else noteRetired (hbmMark s pc) 3 2 pc 0 11) s

theorem trainingRetired_dev (s : State) (failed : List Nat) : (trainingRetired s failed).dev = s.dev := by
  have kept : Keeps [.hw, .mbx, .ep0, .ep1, .gauge, .regs] s (trainingRetired s failed) :=
    .foldl .refl (fun _ _ => .ite .refl (.last (noteRetired_keeps _ _ _ _ _ _) (.mono (hbmMark_keeps _ _))))
  exact kept.same .dev

theorem hbmTrainingDone_trains {s : State} (failed : List Nat) (boot : s.dev.base = .boot) (verified : s.dev.whVerified = true)
    (first : s.dev.hbmTrained = false) : Completes (.hbmTrainingDone failed) s (fun t => t.dev.hbmTrained = true ∧ t.dev.base = .boot ∧
      (failed = [] → t = { s with dev := { s.dev with hbmTrained := true } }) ∧ ChangesOnly [.dev, .hw, .mbx, .gauge, .regs, .ep0, .ep1] s t) := by
  have reached : exec (.hbmTrainingDone failed) s =
      .next { trainingRetired s failed with dev := { (trainingRetired s failed).dev with hbmTrained := true } } := by
    simp only [exec, execHbmTrainingDone, boot, verified, first, done, trainingRetired, ne_eq, not_true_eq_false, Bool.false_eq_true, or_self,
      if_false]
  refine completes_of reached ⟨rfl, ?_, ?_, exec_changes reached⟩
  · show (trainingRetired s failed).dev.base = .boot
    rw [trainingRetired_dev, boot]
  · rintro rfl; rfl

/-- What the retirement of a rail does before the mode is told leaves the device's flags alone. -/
theorem retireRail_stampOnly (s : State) (rail code island cause : Nat) : StampOnly s (retireRail s rail code island cause) := by
  have lost : Keeps [.rings, .pkts, .basin, .plane, .rasp, .jig, .csc, .twin, .macs] s
      ((railSet s rail .retired).pkts.foldl (railLose rail) (railSet s rail .retired, 0)).1 :=
    .foldl_fst (fun _ _ h => railLose_keeps h) (.mono (railSet_keeps _ _ _))
  unfold retireRail
  refine .trans (.of_keeps (ps := [.hw, .mbx, .ep0, .ep1, .rings, .pkts, .basin, .plane, .rasp, .jig, .cst, .csc, .twin, .cry, .macs, .gauge,
    .regs]) ?_) (noteMode_stampOnly _ _ _)
  refine .last (noteRetired_keeps _ _ _ _ _ _) (.last (eventToManager_keeps _ _ _) (.last (hwSetField_keeps _ _ _ _ _)
    (.last (hwSetField_keeps _ _ _ _ _) (.last (bumpBy_keeps _ _ _) (.put rfl rfl rfl rfl rfl ?_)))))
  exact .foldl (.last (clearClusters_keeps _ _) (.mono lost)) (fun _ _ => .mono (dovSet_keeps _ _ _))

/-- The rails as the self-test leaves them. -/
def selfTested (s : State) (failA failB : Bool) : State :=
  let retire := fun (s : State) (r : Nat) (fail : Bool) => if fail ∧ railUp s r ∧ railUp s (1 - r) then retireRail s r 0 0 2 else s
  retire (retire (railsApply s) 0 failA) 1 failB

theorem selfTested_stampOnly (s : State) (failA failB : Bool) : StampOnly s (selfTested s failA failB) := by
  have retire : ∀ (u : State) (r : Nat) (fail : Bool), StampOnly u (if fail ∧ railUp u r ∧ railUp u (1 - r) then retireRail u r 0 0 2 else u) :=
    fun _ _ _ => .ite (retireRail_stampOnly _ _ _ _ _) (.refl _)
  have applied : StampOnly s (railsApply s) := .of_keeps (railsApply_keeps s)
  exact (applied.trans (retire _ _ _)).trans (retire _ _ _)

theorem bootSelfTestDone_tests {s : State} (failA failB : Bool) (boot : s.dev.base = .boot) (trained : s.dev.hbmTrained = true)
    (first : s.dev.selfTested = false) :
    Completes (.bootSelfTestDone failA failB) s (fun t => t.dev.selfTested = true ∧ t.dev.base = .boot) := by
  have reached : exec (.bootSelfTestDone failA failB) s =
      .next { selfTested s failA failB with dev := { (selfTested s failA failB).dev with selfTested := true } } := by
    simp only [exec, execBootSelfTestDone, boot, trained, first, done, selfTested, ne_eq, not_true_eq_false, Bool.false_eq_true, or_self,
      if_false]
  exact completes_of reached ⟨rfl, (selfTested_stampOnly s failA failB).base.trans boot⟩

/-! The end of boot and of a handover. -/

/-- Recovery opens when no Wellhead image is valid. -/
theorem bootComplete_recovery {s : State} (boot : s.dev.base = .boot) (recovery : s.dev.recovery = true) :
    exec .bootComplete s = .next { s with dev := { s.dev with recoveryOpen := true } } := by
  simp only [exec, execBootComplete, boot, recovery, done, ne_eq, not_true_eq_false, if_false, if_true]

theorem bootComplete_ends {s : State} (boot : s.dev.base = .boot) (normal : s.dev.recovery = false) (verified : s.dev.whVerified = true)
    (checked : s.dev.cscChecked = true) (trained : s.dev.hbmTrained = true) (tested : s.dev.selfTested = true) :
    Completes .bootComplete s (fun t => t.dev.base = (if s.dev.restrictedReason = 0 then .provision else .restricted) ∧ t.mbx.serving = true) := by
  have stays : ¬ s.dev.base ≠ .boot := by simp [boot]
  have allDone : ¬ ¬ (s.dev.whVerified ∧ s.dev.cscChecked ∧ s.dev.hbmTrained ∧ s.dev.selfTested) := by simp [verified, checked, trained, tested]
  show Exists _
  unfold exec execBootComplete
  rw [if_neg stays, if_neg (by simp [normal]), if_neg allDone]
  extract_lets before u v _ _ _ w
  have begun : Keeps [.hw, .fw, .role, .slices, .mbx, .ep0, .ep1, .basin, .jig, .csc, .twin, .itw, .cry, .port0, .port1, .macs, .weir, .plb,
      .ptp, .hbm, .gauge, .regs, .mem, .fresh] s v := by
    have counted := Keeps.last (hwSet_keeps _ 0x013 (hwWord s 0x013 + 1)) (.mono (provisionInit_keeps s))
      (ps := [.hw, .fw, .role, .slices, .mbx, .ep0, .ep1, .basin, .jig, .csc, .twin, .itw, .cry, .port0, .port1, .macs, .weir, .plb, .ptp,
        .hbm, .gauge, .regs, .mem, .fresh])
    exact .ite (.last (startCascade_keeps _) counted) counted
  have reason : v.dev = s.dev := begun.same .dev
  refine ⟨_, rfl, ?_, ?_⟩
  · rw [(itwLines_stampOnly _).base, (noteMode_stampOnly _ _ _).base]
    show (if v.dev.restrictedReason = 0 then BaseMode.provision else .restricted) = _
    rw [reason]
  · rw [(itwLines_told _).serving, (noteMode_told _ _ _).serving]

/-- The end of a handover clears it and tells the manager. -/
theorem handoverEnd_ends (s : State) (h : Handover) (result : Nat) :
    StampOnly s (handoverEnd s h result) ∧ (handoverEnd s h result).fw.handover = none := by
  unfold handoverEnd
  extract_lets before _ u v w
  have told : StampOnly s v := .last (eventToManager_keeps _ _ _) (.of_dev rfl)
  have noted : StampOnly s w := told.trans (noteMode_stampOnly _ _ _)
  refine ⟨.last (answer_kept _ _ _ _ _) noted, ?_⟩
  rw [answer_fw_handover]
  show (noteMode before (eventToManager u _ _) 6).fw.handover = none
  rw [(noteMode_keeps _ _ _).same .fw, (eventToManager_keeps _ _ _).same .fw]

theorem handoverComplete_ends {s : State} {h : Handover} (on : s.fw.handover = some h) (last : h.step = 7) :
    Completes .handoverComplete s (fun t => t.fw.handover = none ∧
      t.dev.base = (if h.fromRestricted = true ∧ s.dev.base = .restricted then .provision else s.dev.base) ∧
      t.dev.quiesce = s.dev.quiesce) := by
  show Exists _
  unfold exec execHandoverComplete
  rw [on]
  dsimp -zeta only
  rw [if_pos last]
  extract_lets u v w x _ y
  have before : Keeps [.hw, .mbx, .mctp, .regs, .out] s w :=
    .last (sessionsEnd_keeps _) (.ite (.last (raiseSvns_keeps _ _) (.mono (hwSetField_keeps _ _ _ _ _))) (.mono (hwSetField_keeps _ _ _ _ _)))
  have same : w.dev = s.dev := before.same .dev
  have started : x.dev = w.dev := ((startCascade_keeps _).same .dev).trans ((provisionInit_keeps w).same .dev)
  have base : y.dev.base = (if h.fromRestricted = true ∧ s.dev.base = .restricted then .provision else s.dev.base) := by
    unfold y
    simp only [same, Bool.and_eq_true, decide_eq_true_eq]
    split
    · rfl
    · rw [same]
  have quiesce : y.dev.quiesce = s.dev.quiesce := by
    unfold y
    split
    · show x.dev.quiesce = _
      rw [started, same]
    · rw [same]
  obtain ⟨ended, handover⟩ := handoverEnd_ends y h 0
  have after := itwLines_stampOnly (handoverEnd y h 0)
  refine ⟨_, rfl, ?_, ?_, ?_⟩
  · rw [(itwLines_keeps _).same .fw, handover]
  · rw [after.base, ended.base, base]
  · rw [after.quiesce, ended.quiesce, quiesce]

/-- Settles O16, step by step. -/
theorem bootEndsInProvisionOrRestricted : Obligations.BootEndsInProvisionOrRestricted :=
  ⟨fun _ => wellheadImageVerify_takes, fun _ => cascadeManifestCheck_checks, fun _ => hbmTrainingDone_trains,
    fun _ => bootSelfTestDone_tests, fun _ => bootComplete_recovery, fun _ => bootComplete_ends, fun _ _ => handoverComplete_ends⟩

end Sys2Proof.Machine
end

section
/-! PROOFS. Bits of Heartwood words; the mode commands and retirements (O17). -/

namespace Sys2Proof.Machine

open Sys2Proof

set_option Elab.async false

theorem foldl_same {α β : Type} (p : State → β) {f : State → α → State} (step : ∀ u a, p (f u a) = p u) (l : List α) (s : State) :
    p (l.foldl f s) = p s := by
  induction l generalizing s with
  | nil => rfl
  | cons a l ih => exact (ih _).trans (step s a)

/-! One bit of a Heartwood word. -/

theorem bits_putBits (x hi lo v : Nat) : bits (putBits x hi lo v) hi lo = v % 2 ^ (hi + 1 - lo) := by
  unfold putBits bits
  generalize 2 ^ (hi + 1 - lo) = m
  have pos : 0 < 2 ^ lo := by positivity
  generalize 2 ^ lo = k at pos ⊢
  have low : x / k % m * k ≤ x := (Nat.mul_le_mul_right k (Nat.mod_le _ _)).trans (Nat.div_mul_le_self x k)
  have divided : (x - x / k % m * k + v % m * k) / k = m * (x / k / m) + v % m := by
    rw [Nat.add_mul_div_right _ _ pos, Nat.mul_comm _ k, Nat.sub_mul_div]
    have := Nat.div_add_mod (x / k) m
    omega
  rw [divided, Nat.mul_add_mod, Nat.mod_mod]

theorem bits_one (x i : Nat) : bits x i i = (x.testBit i).toNat := by
  unfold bits
  rw [Nat.testBit_eq_decide_div_mod_eq, show i + 1 - i = 1 by omega]
  have : x / 2 ^ i % 2 < 2 := Nat.mod_lt _ (by decide)
  interval_cases x / 2 ^ i % 2 <;> rfl

theorem bitAt_testBit (x i : Nat) : bitAt x i = x.testBit i := by
  rw [Nat.testBit_eq_decide_div_mod_eq]; rfl

/-- A bit that a word keeps reads as 1 after it is set. -/
theorem hwWord_hwSetField_bit (s : State) {w i : Nat} (word : i < 32) (kept : (hwMask w).testBit i = true) :
    (hwWord (hwSetField s w i i 1) w).toNat.testBit i = true := by
  have set : (putBits (hwWord s w).toNat i i 1).testBit i = true := by
    have := bits_putBits (hwWord s w).toNat i i 1
    rw [bits_one, show i + 1 - i = 1 by omega] at this
    simpa using this
  unfold hwSetField
  rw [hwWord_hwSet_self, BitVec.toNat_ofNat, Nat.testBit_mod_two_pow, Nat.testBit_and, BitVec.toNat_ofNat, Nat.testBit_mod_two_pow, set, kept]
  simp [word]

theorem hwField_hwSetField_bit (s : State) {w i : Nat} (word : i < 32) (kept : (hwMask w).testBit i = true) :
    hwField (hwSetField s w i i 1) w i i = 1 := by
  unfold hwField
  rw [bits_one, hwWord_hwSetField_bit s word kept]; rfl

/-! MACs that lose their links. -/

theorem macGet_macMod_self (s : State) (m : Nat) (g : MacState → MacState) : macGet (macMod s m g) m = g (macGet s m) := by
  simp [macGet, macMod, macSet]

theorem macGet_macMod_ne (s : State) {m k : Nat} (g : MacState → MacState) (h : k ≠ m) : macGet (macMod s m g) k = macGet s k := by
  simp [macGet, macMod, macSet, mapGetD_mapSet_ne _ _ _ h]

theorem linkChange_linkUp (s : State) (m : Nat) (up : Bool) (fault k : Nat) :
    (macGet (linkChange s m up fault) k).linkUp = if k = m then up else (macGet s k).linkUp := by
  unfold linkChange
  extract_lets was t u
  have macs : (eventToManager u 0x8600 (toLe 1 m ++ toLe 1 (b2n up) ++ toLe 1 fault ++
      toLe 1 (if up then rateCode (macRate u m) else 0))).macs = t.macs :=
    ((eventToManager_keeps _ _ _).same .macs).trans
      (Keeps.same (.ite .refl (.mono (vfEventAll_keeps t 0))) .macs (ps := [.ep0, .ep1, .regs]))
  rw [macGet, macs]
  show (macGet t k).linkUp = _
  unfold t
  rcases Decidable.em (k = m) with rfl | other
  · rw [macGet_macMod_self, if_pos rfl]
  · rw [macGet_macMod_ne _ _ other, if_neg other]

/-- The MACs whose links are up lose them. -/
def linksDown (s : State) (l : List Nat) : State := l.foldl (fun t m => if (macGet t m).linkUp then linkChange t m false 0 else t) s

theorem linksDown_keeps (s : State) (l : List Nat) : Keeps [.mbx, .ep0, .ep1, .macs, .gauge, .regs] s (linksDown s l) :=
  .foldl .refl (fun _ _ => .ite (.mono (linkChange_keeps _ _ _ _)) .refl)

theorem linksDown_down (l : List Nat) (s : State) {m : Nat} (h : m ∈ l ∨ (macGet s m).linkUp = false) :
    (macGet (linksDown s l) m).linkUp = false := by
  induction l generalizing s with
  | nil => simpa [linksDown] using h
  | cons a l ih =>
    refine ih _ ?_
    beta_reduce
    rcases Decidable.em (m = a) with rfl | other
    · right
      split
      · rw [linkChange_linkUp, if_pos rfl]
      next down => simpa using down
    · refine (h.imp_left (fun mem => (List.mem_cons.mp mem).resolve_left other)).imp_right (fun down => ?_)
      split
      · rw [linkChange_linkUp, if_neg other, down]
      · exact down

theorem linksDown_told (s : State) (l : List Nat) : Told s (linksDown s l) :=
  .foldl (fun _ _ => .ite (linkChange_told _ _ _ _) (.refl _)) l s

theorem isolate_eq (s : State) : isolate s = noteMode s (linksDown { s with dev := { s.dev with isolated := true } } (List.range 16)) 0 := rfl

/-! Mode commands (R571, R574, R577, R581). -/

/-- A target that passes its check is set and answered. -/
theorem answersOk_modeSet {P : State → Nat → Bytes → Prop} {Q : State → State → Nat → Bytes → Prop}
    (passes : ∀ s ch req, P s ch req → modeSetCheck s ch (byteAt req 0) (le req 2 2) = none)
    (started : ∀ s ch req, P s ch req → (chanGet (modeSet s (byteAt req 0)) ch).started = (chanGet s ch).started)
    (after : ∀ s ch seq req, P s ch req → Q s (answer (modeSet s (byteAt req 0)) ch seq rcOk []) ch req) :
    AnswersOk .deviceModeSet 0x0140 P (fun _ _ _ => []) Q :=
  answersOk_of_command (row := fun s ch seq => (rfl : execDeviceModeSet ch seq s = _)) (fun s ch seq req inRange =>
    ⟨modeSet s (byteAt req 0), by dsimp only; rw [passes s ch req inRange], started s ch req inRange, after s ch seq req inRange⟩)

theorem modeSet_reset : AnswersOk .deviceModeSet 0x0140
    (fun _ ch req => byteAt req 0 = 1 ∧ (chanSecure ch = true ∨ le req 2 2 = 0x5A5A)) (fun _ _ _ => [])
    (fun s t ch _ => t.dev = { s.dev with resetPending := some 3 } ∧ AnswerFrame [.dev] s t ch) := by
  refine answersOk_modeSet ?_ ?_ ?_
  · rintro s ch req ⟨target, confirmed⟩
    simp [target, modeSetCheck, confirmed]
  · rintro s ch req ⟨target, -⟩
    rw [target]; rfl
  · rintro s ch seq req ⟨target, -⟩
    have set : modeSet s (byteAt req 0) = { s with dev := { s.dev with resetPending := some 3 } } := by rw [target]; rfl
    rw [set]
    exact ⟨answer_dev _ _ _ _ _, answer_frame_quiet ch seq rcOk [] (.of_patch rfl) (by decide) (by decide)⟩

theorem modeSet_leaveQuiescent : AnswersOk .deviceModeSet 0x0140
    (fun s _ req => byteAt req 0 = 4 ∧ s.dev.base = .quiescent ∧ s.dev.quiesce = 0) (fun _ _ _ => [])
    (fun s t ch _ => t.dev = { s.dev with quiesce := 2 } ∧ AnswerFrame [.dev] s t ch) := by
  have set : ∀ (s : State) req, byteAt req 0 = 4 ∧ s.dev.base = .quiescent ∧ s.dev.quiesce = 0 →
      modeSet s (byteAt req 0) = { s with dev := { s.dev with quiesce := 2 } } := by
    rintro s req ⟨target, base, -⟩
    simp [target, modeSet, base]
  refine answersOk_modeSet ?_ ?_ ?_
  · rintro s ch req ⟨target, base, still⟩
    simp [target, modeSetCheck, base, still]
  · intro s ch req inRange
    rw [set s req inRange]; rfl
  · intro s ch seq req inRange
    rw [set s req inRange]
    exact ⟨answer_dev _ _ _ _ _, answer_frame_quiet ch seq rcOk [] (.of_patch rfl) (by decide) (by decide)⟩

theorem modeSet_leaveService : AnswersOk .deviceModeSet 0x0140
    (fun s _ req => byteAt req 0 = 4 ∧ s.dev.base = .service ∧ s.dev.quiesce = 0) (fun _ _ _ => [])
    (fun _ t _ _ => t.dev.base = .provision ∧ t.dev.isolated = false) := by
  have set : ∀ (s : State) req, byteAt req 0 = 4 ∧ s.dev.base = .service ∧ s.dev.quiesce = 0 → modeSet s (byteAt req 0) =
      itwLines (noteMode s { s with dev := { s.dev with base := .provision, isolated := false } } 0) := by
    rintro s req ⟨target, base, -⟩
    simp [target, modeSet, base, modeEnter]
  refine answersOk_modeSet ?_ ?_ ?_
  · rintro s ch req ⟨target, base, still⟩
    simp [target, modeSetCheck, base, still]
  · intro s ch req inRange
    rw [set s req inRange, (itwLines_told _).started, noteMode_started]; rfl
  · intro s ch seq req inRange
    have told := (noteMode_stampOnly s { s with dev := { s.dev with base := .provision, isolated := false } } 0).trans (itwLines_stampOnly _)
    rw [set s req inRange, answer_dev, told]
    exact ⟨rfl, rfl⟩

theorem modeSet_isolate : AnswersOk .deviceModeSet 0x0140
    (fun s _ req => byteAt req 0 = 9 ∧ running s = true ∧ s.dev.quiesce = 0) (fun _ _ _ => [])
    (fun s t _ _ => t.dev.base = s.dev.base ∧ t.dev.isolated = true) := by
  refine answersOk_modeSet ?_ ?_ ?_
  · rintro s ch req ⟨target, on, still⟩
    simp [target, modeSetCheck, on, still]
  · rintro s ch req ⟨target, -⟩
    rw [target]
    show (chanGet (isolate s) ch).started = _
    rw [isolate_eq, noteMode_started, (linksDown_told _ _).started]; rfl
  · rintro s ch seq req ⟨target, -⟩
    have down : StampOnly { s with dev := { s.dev with isolated := true } } (isolate s) :=
      (StampOnly.of_keeps (linksDown_keeps _ _)).trans (noteMode_stampOnly _ _ _)
    rw [target, answer_dev]
    show (isolate s).dev.base = _ ∧ (isolate s).dev.isolated = _
    rw [down]
    exact ⟨rfl, rfl⟩

theorem modeSet_quiesce : AnswersOk .deviceModeSet 0x0140
    (fun s _ req => byteAt req 0 = 11 ∧ s.dev.base = .provision ∧ pf0Active s = false ∧ s.dev.quiesce = 0) (fun _ _ _ => [])
    (fun s t ch _ => t.dev = { s.dev with quiesce := 1 } ∧ AnswerFrame [.dev] s t ch) := by
  refine answersOk_modeSet ?_ ?_ ?_
  · rintro s ch req ⟨target, base, idle, still⟩
    simp [target, modeSetCheck, base, idle, still]
  · rintro s ch req ⟨target, -⟩
    rw [target]; rfl
  · rintro s ch seq req ⟨target, -⟩
    have set : modeSet s (byteAt req 0) = { s with dev := { s.dev with quiesce := 1 } } := by rw [target]; rfl
    rw [set]
    exact ⟨answer_dev _ _ _ _ _, answer_frame_quiet ch seq rcOk [] (.of_patch rfl) (by decide) (by decide)⟩

/-! The pair's link in QUIESCENT. -/

theorem itwSendAll_linkUp (s : State) (type : Nat) (bodies : List Bytes) : (itwSendAll s type bodies).itw.linkUp = s.itw.linkUp := by
  unfold itwSendAll
  split
  · refine foldl_same (fun u : State => u.itw.linkUp) (fun u b => ?_) bodies s
    rw [(trace_keeps _ _ _ _ _ _ _).same .itw, (emit_keeps _ _).same .itw]
  · rfl

theorem mirrorNoReady_linkUp (s : State) : (mirrorNoReady s).itw.linkUp = s.itw.linkUp := by
  have fails : ∀ (u : State) c code kind side index, (commitFails u c code kind side index).itw.linkUp = u.itw.linkUp := by
    intro u c code kind side index
    unfold commitFails
    extract_lets _ t
    have released : t.itw = u.itw := (slotRelease_keeps _ _).same .itw
    split
    · rw [itwSend, itwSendAll_linkUp, released]
    · rw [answer_itw, released]
  unfold mirrorNoReady
  split
  · rfl
  · split
    · rw [fails, (drawn_keeps s).same .itw]
    · rfl

theorem itwLinkDown_linkUp (s : State) : (itwLinkDown s).itw.linkUp = false := by
  unfold itwLinkDown
  split
  · rw [mirrorNoReady_linkUp]
  next down => simpa using down

theorem quiescentEntryDone_enters {s : State} (entering : s.dev.quiesce = 1) (base : s.dev.base = .provision) :
    Completes .quiescentEntryDone s (fun t => t.dev.base = .quiescent ∧ t.dev.quiesce = 0 ∧ t.itw.linkUp = false ∧
      ∀ m < 16, (macGet t m).linkUp = false) := by
  have reached : exec .quiescentEntryDone s = .next (noteMode s (itwLinkDown (itwLines
      (linksDown { s with dev := { s.dev with quiesce := 0, base := .quiescent } } (List.range 16)))) 0) := if_pos ⟨entering, base⟩
  refine completes_of reached ?_
  generalize moved : ({ s with dev := { s.dev with quiesce := 0, base := .quiescent } } : State) = u
  have flags : StampOnly u (noteMode s (itwLinkDown (itwLines (linksDown u (List.range 16)))) 0) :=
    (((StampOnly.of_keeps (linksDown_keeps _ _)).trans (itwLines_stampOnly _)).trans
      (StampOnly.of_keeps (itwLinkDown_keeps _))).trans (noteMode_stampOnly _ _ _)
  refine ⟨by rw [flags.base, ← moved], by rw [flags.quiesce, ← moved], ?_, fun m hm => ?_⟩
  · rw [(noteMode_keeps _ _ _).same .itw, itwLinkDown_linkUp]
  · rw [macGet, (noteMode_keeps _ _ _).same .macs, (itwLinkDown_keeps _).same .macs, (itwLines_keeps _).same .macs]
    exact linksDown_down _ u (.inl (List.mem_range.mpr hm))

theorem quiescentExitDone_leaves {s : State} (leaving : s.dev.quiesce = 2) (base : s.dev.base = .quiescent) :
    Completes .quiescentExitDone s (fun t => t.dev.base = .provision ∧ t.dev.quiesce = 0) := by
  have reached : exec .quiescentExitDone s =
      .next (itwLines (noteMode s { s with dev := { s.dev with quiesce := 0, base := .provision } } 0)) := if_pos ⟨leaving, base⟩
  refine completes_of reached ?_
  rw [(noteMode_stampOnly _ _ _).trans (itwLines_stampOnly _)]
  exact ⟨rfl, rfl⟩

theorem basinAreaSet_sets : AnswersOk .basinAreaSet 0x0144 (fun s _ req => 1 ≤ byteAt req 0 ∧ byteAt req 0 ≤ 16 ∧
      pagesReserved s + pagesLossless s ≤ byteAt req 0 * 262144 - 196608 * hbmGoneCount s) (fun _ _ _ => [])
    (fun s t ch req => hwWord t 0x005 = BitVec.ofNat 32 (byteAt req 0) ∧ t.basin = s.basin ∧ AnswerFrame [.hw] s t ch) := by
  refine answersOk_set (row := fun s ch seq => (rfl : execBasinAreaSet ch seq s = _)) ?_
  rintro s ch seq req ⟨some, most, room⟩
  refine ⟨hwSet s 0x005 (BitVec.ofNat 32 (byteAt req 0)), ?_, rfl, ?_, ?_, ?_⟩
  · dsimp only
    rw [if_neg (by omega), if_neg (by omega)]
  · rw [hwWord_answer, hwWord_hwSet_self]
    have field : (BitVec.ofNat 32 (byteAt req 0)).toNat &&& hwMask 5 = byteAt req 0 := by
      have small : byteAt req 0 < 2 ^ 5 := by omega
      show (BitVec.ofNat 32 (byteAt req 0)).toNat &&& 2 ^ 5 - 1 = _
      rw [Nat.and_two_pow_sub_one_eq_mod, BitVec.toNat_ofNat, Nat.mod_eq_of_lt (a := byteAt req 0) (by omega), Nat.mod_eq_of_lt small]
    rw [field]
  · rw [answer_basin]; rfl
  · exact answer_frame_quiet ch seq rcOk [] (hwSet_changes _ _ _) (by decide) (by decide)

/-! Retirements (R341, R603, R604). -/

theorem hbmPcRetire_begins : AnswersOk .hbmPcRetire 0x0142
    (fun s _ req => byteAt req 0 ≤ 63 ∧ hbmGone s (byteAt req 0) = false ∧ hbmGoneCount s < 8 ∧
      pagesReserved s + pagesLossless s + 196608 * (s.hbm.retiring.length + 1) ≤ s.basin.area)
    (fun s _ _ => toLe 4 (granulesOutside (gibNow s) s.hbm.taken))
    (fun s t ch req => t.hbm.retiring = s.hbm.retiring ++ [(byteAt req 0, 0)] ∧ AnswerFrame [.hbm] s t ch) := by
  refine answersOk_set (row := fun s ch seq => (rfl : execHbmPcRetire ch seq s = _)) ?_
  rintro s ch seq req ⟨named, present, few, room⟩
  refine ⟨hbmBegin s (byteAt req 0) 0, ?_, rfl, ?_, ?_⟩
  · dsimp only
    rw [if_neg (by simp [named, present]), if_neg (by omega)]
  · rw [answer_hbm]; rfl
  · exact answer_frame_quiet ch seq rcOk _ (.of_patch rfl) (by decide) (by decide)

theorem hbmPcAutoRetire_begins {s : State} {pc : Nat} (named : pc ≤ 63) (present : hbmGone s pc = false) (few : hbmGoneCount s < 8)
    (on : datapathOn s = true) :
    Completes (.hbmPcAutoRetire pc) s (fun t => t.hbm.retiring = s.hbm.retiring ++ [(pc, 1)] ∧ ChangesOnly [.hbm] s t) := by
  have reached : exec (.hbmPcAutoRetire pc) s = .next (hbmBegin s pc 1) := if_neg (by simp [present, on]; omega)
  exact completes_of reached ⟨rfl, .of_patch rfl⟩

/-- A pseudo-channel that is marked is among the retired ones. -/
theorem hbmRetired_hbmMark (s : State) {pc : Nat} (named : pc ≤ 63) : bitAt (hbmRetired (hbmMark s pc)) pc = true := by
  have mask : hwMask (0x015 + pc / 32) = 2 ^ 32 - 1 := by
    have : pc / 32 = 0 ∨ pc / 32 = 1 := by omega
    rcases this with h | h <;> rw [h] <;> rfl
  have bit : (hwWord (hbmMark s pc) (0x015 + pc / 32)).toNat.testBit (pc % 32) = true :=
    hwWord_hwSetField_bit s (by omega) (by rw [mask, Nat.testBit_two_pow_sub_one]; simp; omega)
  rw [bitAt_testBit]
  unfold hbmRetired
  have low : (hwWord (hbmMark s pc) 0x015).toNat < 2 ^ 32 := BitVec.isLt _
  rw [show (4294967296 : Nat) = 2 ^ 32 by rfl, Nat.add_comm, Nat.testBit_two_pow_mul_add _ low]
  split
  next below =>
    rw [Nat.div_eq_of_lt below, Nat.mod_eq_of_lt below] at bit
    exact bit
  next above =>
    rw [show pc / 32 = 1 by omega, show pc % 32 = pc - 32 by omega] at bit
    exact bit

theorem hbmPcRetireDone_retires {s : State} {pc cause : Nat} {rest : List (Nat × Nat)} (first : s.hbm.retiring = (pc, cause) :: rest)
    (named : pc ≤ 63) : Completes .hbmPcRetireDone s (fun t => t.hbm.retiring = rest ∧ bitAt (hbmRetired t) pc = true ∧
      t.basin.area = s.basin.area - 196608 ∧ ChangesOnly [.hbm, .basin, .hw, .dev, .mbx, .gauge, .regs, .ep0, .ep1] s t) := by
  let u : State := { s with hbm := { s.hbm with retiring := rest }, basin := { s.basin with area := s.basin.area - 196608 } }
  let short := pagesReserved (hbmMark u pc) + pagesLossless (hbmMark u pc) - (hbmMark u pc).basin.area
  have reached : exec .hbmPcRetireDone s = .next (noteMode s (noteRetired (hbmMark u pc) 3 cause pc short 11) 1) := by
    delta exec execHbmPcRetireDone
    dsimp only
    rw [first]
  have told : Keeps [.dev, .hw, .mbx, .ep0, .ep1, .gauge, .regs] u (noteMode s (noteRetired (hbmMark u pc) 3 cause pc short 11) 1) :=
    .last (noteMode_keeps _ _ _) (.last (noteRetired_keeps _ _ _ _ _ _) (.mono (hbmMark_keeps u pc)))
  refine completes_of reached ⟨?_, ?_, ?_, exec_changes reached⟩
  · rw [told.same .hbm]
  · have words := ((noteRetired_told (hbmMark u pc) 3 cause pc short 11).trans (noteMode_told s _ 1)).word
    rw [← hbmRetired_hbmMark u named]
    unfold hbmRetired
    rw [words _ (by decide) (by decide), words _ (by decide) (by decide)]
  · rw [told.same .basin]

theorem execLane_eq {c : Nat → Nat → Instr} (hc : c ∈ [Instr.ethLaneFecThreshold, Instr.laneLockLoss]) (s : State) (p lane : Nat) :
    exec (c p lane) s = .next (laneFail s p lane) := by
  simp only [List.mem_cons, List.not_mem_nil, or_false] at hc
  rcases hc with rfl | rfl <;> rfl

theorem portGet_portMod_self (s : State) {p : Nat} (f : Port → Port) : portGet (portMod s p f) p = f (portGet s p) := by
  unfold portGet portMod
  split <;> simp [*]

theorem portGet_portMod_other (s : State) {p : Nat} (f : Port → Port) (named : p ≤ 1) : portGet (portMod s p f) (1 - p) = portGet s (1 - p) := by
  have : p = 0 ∨ p = 1 := by omega
  rcases this with rfl | rfl <;> rfl

theorem retireEthLane_retires (s : State) {p lane : Nat} (cause : Nat) (named : p ≤ 1) (onPort : lane ≤ 7) :
    (portGet (retireEthLane s p lane cause) p).retired = (portGet s p).retired ||| 2 ^ lane ∧
    (portGet (retireEthLane s p lane cause) (1 - p)).retired = (portGet s (1 - p)).retired ∧
    hwField (retireEthLane s p lane cause) 0x026 (8 * p + lane) (8 * p + lane) = 1 := by
  unfold retireEthLane
  extract_lets before n m used t drop u v w
  have told : Keeps [.dev, .hw, .mbx, .ep0, .ep1, .macs, .gauge, .regs] u (noteMode before (noteRetired w 4 cause (8 * p + lane) 0 p) 1) :=
    .last (noteMode_keeps _ _ _) (.last (noteRetired_keeps _ _ _ _ _ _) (.last (eventToManager_keeps _ _ _)
      (.ite (.mono (linkChange_keeps _ _ _ _)) .refl)))
  have words : Told t (noteMode before (noteRetired w 4 cause (8 * p + lane) 0 p) 1) := by
    refine .trans (.trans ?_ (noteRetired_told _ _ _ _ _ _)) (noteMode_told _ _ _)
    have ports : Told t u := .last (portMod_keeps _ _ _) (.refl t)
    exact .trans (.ite (ports.trans (linkChange_told _ _ _ _)) ports) (eventToManager_told _ _ _)
  have port : ∀ q, portGet (noteMode before (noteRetired w 4 cause (8 * p + lane) 0 p) 1) q = portGet u q := fun q => by
    rw [portGet, told.same .port0, told.same .port1]; rfl
  refine ⟨?_, ?_, ?_⟩
  · rw [port, portGet_portMod_self]; rfl
  · rw [port, portGet_portMod_other _ _ named]; rfl
  · rw [words.field]
    refine hwField_hwSetField_bit before (by omega) ?_
    show (2 ^ 16 - 1).testBit _ = true
    rw [Nat.testBit_two_pow_sub_one]
    simp; omega

theorem retireItwLane_retires (s : State) {lane : Nat} (onLink : lane ≤ 3) (inService : bitAt s.itw.lanesRetired lane = false)
    (other : ∃ l ≤ 3, l ≠ lane ∧ bitAt s.itw.lanesRetired l = false) :
    (retireItwLane s lane).itw.lanesRetired = s.itw.lanesRetired + 2 ^ lane ∧ hwField (retireItwLane s lane) 0x028 lane lane = 1 := by
  obtain ⟨l, near, distinct, spare⟩ := other
  have passes : ¬ (3 < lane ∨ bitAt s.itw.lanesRetired lane ∨ (List.range 4).all (fun l => decide (l = lane) || bitAt s.itw.lanesRetired l)) := by
    simp only [inService, List.all_eq_true, List.mem_range, Bool.or_eq_true, decide_eq_true_eq, Bool.false_eq_true, false_or]
    rintro (far | all)
    · omega
    · have := all l (by omega)
      simp [distinct, spare] at this
  unfold retireItwLane
  extract_lets mask before _ t
  rw [if_neg passes]
  refine ⟨?_, ?_⟩
  · rw [(noteMode_keeps _ _ _).same .itw, (noteRetired_keeps _ _ _ _ _ _).same .itw]; rfl
  · have words := (noteRetired_told t 6 1 lane 0 13).trans (noteMode_told before _ 1)
    rw [words.field]
    refine hwField_hwSetField_bit _ (by omega) ?_
    show (2 ^ 4 - 1).testBit _ = true
    rw [Nat.testBit_two_pow_sub_one]
    simp; omega

/-- Settles O17: the modes' clauses, then the retirements'. -/
theorem modeCommandsAndRetirementsTakeEffect : Obligations.ModeCommandsAndRetirementsTakeEffect := by
  refine ⟨⟨modeSet_reset, modeSet_leaveService, modeSet_leaveQuiescent, modeSet_isolate, modeSet_quiesce,
    fun _ => quiescentEntryDone_enters, fun _ => quiescentExitDone_leaves, ?_, basinAreaSet_sets⟩,
    hbmPcRetire_begins, fun _ _ => hbmPcAutoRetire_begins, fun _ _ _ _ => hbmPcRetireDone_retires, ?_, ?_, ?_⟩
  · exact answersOk_query (fun s ch seq => (rfl : execDeviceModeQuery ch seq s = _)) (fun _ _ _ _ _ => rfl)
  · exact answersOk_query (fun s ch seq => (rfl : execRetirementQuery ch seq s = _)) (fun _ _ _ _ _ => rfl)
  · intro c hc s p lane on named onPort inService
    have fails : laneFail s p lane = retireEthLane s p lane 1 := by
      unfold laneFail
      rw [if_neg (by simp [on]), if_neg (by omega), if_neg (by simp [inService]; omega)]
    exact completes_of (execLane_eq hc s p lane) (fails ▸ retireEthLane_retires s 1 named onPort)
  · intro c hc s lane on onLink inService other
    have fails : laneFail s 2 lane = retireItwLane s lane := by
      unfold laneFail
      rw [if_neg (by simp [on]), if_pos rfl]
    exact completes_of (execLane_eq hc s 2 lane) (fails ▸ retireItwLane_retires s onLink inService other)

end Sys2Proof.Machine
end

section
/-! PROOFS. Images, the manifest and the lockstep pairs (O18). -/

namespace Sys2Proof.Machine

open Sys2Proof

set_option Elab.async false

/-- A command that has begun runs the body of its row. -/
theorem completes_command {c : Instr} {s : State} {ch seq op : Nat} {req : Bytes} {f : Bytes → State} {Q : State → Prop}
    (begun : Begun s ch seq op req) (row : exec c s = command s ch seq op f) (q : Q (f req)) : Completes c s Q :=
  completes_of (row.trans (command_begun _ begun)) q

/-! Fields of Heartwood words, and bytes set one after the other. -/

theorem testBit_bits (x hi lo i : Nat) : (bits x hi lo).testBit i = (decide (i < hi + 1 - lo) && x.testBit (lo + i)) := by
  unfold bits
  rw [Nat.testBit_mod_two_pow, Nat.testBit_div_two_pow, Nat.add_comm i lo]

/-- A field that a word keeps reads as written. -/
theorem hwField_hwSetField (s : State) {w hi lo v : Nat} (word : hi < 32) (kept : ∀ i, lo ≤ i → i ≤ hi → (hwMask w).testBit i = true)
    (fits : v < 2 ^ (hi + 1 - lo)) : hwField (hwSetField s w hi lo v) w hi lo = v := by
  have field : v = bits (putBits (hwWord s w).toNat hi lo v) hi lo := by rw [bits_putBits, Nat.mod_eq_of_lt fits]
  unfold hwField hwSetField
  rw [hwWord_hwSet_self]
  refine (Nat.eq_of_testBit_eq (fun i => ?_)).trans field.symm
  rw [testBit_bits, testBit_bits, BitVec.toNat_ofNat, Nat.testBit_mod_two_pow, Nat.testBit_and, BitVec.toNat_ofNat, Nat.testBit_mod_two_pow]
  rcases Decidable.em (i < hi + 1 - lo) with inside | outside
  · rw [kept (lo + i) (by omega) (by omega), decide_eq_true (show lo + i < 32 by omega)]
    simp
  · simp [outside]

/-- Bytes that follow each other take their keys of a map. -/
theorem mapGet_foldl_mapSet {α : Type} (m : AMap α) (off n : Nat) (f : Nat → α) (a : Nat) :
    mapGet ((List.range n).foldl (fun m i => mapSet m (off + i) (f i)) m) a =
      if off ≤ a ∧ a < off + n then some (f (a - off)) else mapGet m a := by
  induction n with
  | zero => rw [if_neg (by omega)]; rfl
  | succ n ih =>
    rw [List.range_succ, List.foldl_append, List.foldl_cons, List.foldl_nil]
    rcases Decidable.em (a = off + n) with rfl | other
    · rw [mapGet_mapSet_self, if_pos (by omega), Nat.add_sub_cancel_left]
    · rw [mapGet_mapSet_ne _ _ other, ih]
      exact if_congr (by omega) rfl rfl

/-! Image banks. -/

theorem bankGet_bankSet (s : State) (kind bank : Nat) (b : ImageBank) : bankGet (bankSet s kind bank b) kind bank = b := by
  unfold bankGet bankSet
  split_ifs <;> rfl

theorem bankGet_congr {s t : State} (h : t.flash = s.flash) (kind bank : Nat) : bankGet t kind bank = bankGet s kind bank := by
  unfold bankGet; rw [h]

theorem bankSet_changes (s : State) (kind bank : Nat) (b : ImageBank) : ChangesOnly [.flash] s (bankSet s kind bank b) := .of_patch rfl

/-- A command on a bank that neither runs nor takes part in a handover. -/
theorem withBank_free {s : State} {req : Bytes} (ch seq : Nat) (f : Nat → Nat → State) (kind : byteAt req 0 ≤ 1) (bank : byteAt req 1 ≤ 1)
    (idle : imgRunning s (byteAt req 0) (byteAt req 1) = false) (apart : handoverBank s (byteAt req 0) (byteAt req 1) = false) :
    withBank s ch seq req f = f (byteAt req 0) (byteAt req 1) := by
  unfold withBank
  dsimp only
  rw [if_neg (by omega), if_neg (by simp [idle, apart])]

/-- What a command that sets one bank leaves. -/
theorem bankSet_answered (s : State) (kind bank : Nat) (b : ImageBank) (ch seq : Nat) (body : Bytes) :
    bankGet (answer (bankSet s kind bank b) ch seq rcOk body) kind bank = b ∧
      AnswerFrame [.flash] s (answer (bankSet s kind bank b) ch seq rcOk body) ch :=
  ⟨by rw [bankGet_congr (answer_flash _ _ _ _ _), bankGet_bankSet],
    answer_frame_quiet ch seq rcOk body (bankSet_changes s kind bank b) (by decide) (by decide)⟩

theorem fwImageBegin_opens : AnswersOk .fwImageBegin 0x0B00
    (fun s _ req => byteAt req 0 ≤ 1 ∧ byteAt req 1 ≤ 1 ∧ imgRunning s (byteAt req 0) (byteAt req 1) = false ∧
      handoverBank s (byteAt req 0) (byteAt req 1) = false ∧ 512 ≤ le req 4 4 ∧ le req 4 4 ≤ bankSize (byteAt req 0) ∧
      pldmBusy s (byteAt req 0) = false) (fun _ _ _ => [])
    (fun s t ch req => bankGet t (byteAt req 0) (byteAt req 1) = { state := 3, size := le req 4 4, bytes := [] } ∧
      AnswerFrame [.flash] s t ch) := by
  refine answersOk_set (row := fun s ch seq => (rfl : execFwImageBegin ch seq s = _)) ?_
  rintro s ch seq req ⟨kind, bank, idle, apart, least, most, free⟩
  refine ⟨bankOpen s (byteAt req 0) (byteAt req 1) (le req 4 4), ?_, rfl, bankSet_answered _ _ _ _ _ _ _⟩
  rw [withBank_free ch seq _ kind bank idle apart]
  dsimp only
  rw [if_neg (by omega), if_neg (by simp [free])]

theorem fwImageData_writes : AnswersOk .fwImageData 0x0B01
    (fun s _ req => byteAt req 0 ≤ 1 ∧ byteAt req 1 ≤ 1 ∧ imgRunning s (byteAt req 0) (byteAt req 1) = false ∧
      handoverBank s (byteAt req 0) (byteAt req 1) = false ∧ (bankGet s (byteAt req 0) (byteAt req 1)).state = 3 ∧ 4 ≤ le req 2 2 ∧
      le req 2 2 ≤ 236 ∧ le req 2 2 % 4 = 0 ∧ le req 4 4 + le req 2 2 ≤ (bankGet s (byteAt req 0) (byteAt req 1)).size ∧
      ∀ i < le req 2 2, mapHas (bankGet s (byteAt req 0) (byteAt req 1)).bytes (le req 4 4 + i) = false) (fun _ _ _ => [])
    (fun s t ch req => (∀ i < le req 2 2, mapGet (bankGet t (byteAt req 0) (byteAt req 1)).bytes (le req 4 4 + i) = some ((req.drop 8).getD i 0)) ∧
      (∀ a, (a < le req 4 4 ∨ le req 4 4 + le req 2 2 ≤ a) →
        mapGet (bankGet t (byteAt req 0) (byteAt req 1)).bytes a = mapGet (bankGet s (byteAt req 0) (byteAt req 1)).bytes a) ∧
      AnswerFrame [.flash] s t ch) := by
  refine answersOk_set (row := fun s ch seq => (rfl : execFwImageData ch seq s = _)) ?_
  rintro s ch seq req ⟨kind, bank, idle, apart, written, least, most, aligned, fits, blank⟩
  let old := bankGet s (byteAt req 0) (byteAt req 1)
  let new : ImageBank := { old with
    bytes := (List.range (le req 2 2)).foldl (fun m i => mapSet m (le req 4 4 + i) ((req.drop 8).getD i 0)) old.bytes }
  obtain ⟨bytes, frame⟩ := bankSet_answered s (byteAt req 0) (byteAt req 1) new ch seq []
  refine ⟨bankSet s (byteAt req 0) (byteAt req 1) new, ?_, rfl, fun i hi => ?_, fun a outside => ?_, frame⟩
  · rw [withBank_free ch seq _ kind bank idle apart]
    dsimp only
    rw [if_neg]
    rintro (bad | bad | bad | bad | bad | bad)
    · exact bad written
    · omega
    · omega
    · omega
    · omega
    · obtain ⟨i, hi, has⟩ := List.any_eq_true.mp bad
      rw [blank i (List.mem_range.mp hi)] at has; cases has
  · rw [bytes, mapGet_foldl_mapSet, if_pos (by omega), Nat.add_sub_cancel_left]
  · rw [bytes, mapGet_foldl_mapSet, if_neg (by omega)]

/-- The bank's bytes stay, and its state says whether the image is valid. -/
theorem bankClose_eq (s : State) (kind bank : Nat) : bankClose s kind bank =
    bankSet s kind bank { bankGet s kind bank with state := if imgValid (bankClose s kind bank) kind bank then 1 else 2 } := by
  have set : ∀ (b c : ImageBank), bankSet (bankSet s kind bank b) kind bank c = bankSet s kind bank c := by
    intro b c
    unfold bankSet
    split_ifs <;> rfl
  have sound : ∀ st, st ≠ 0 → st ≠ 3 → imgValid (bankSet s kind bank { bankGet s kind bank with state := st }) kind bank =
      (imgSound kind (bankGet s kind bank) && decide (minSvn s kind ≤ imgSvn (bankGet s kind bank))) := by
    intro st h0 h3
    unfold imgValid
    rw [bankGet_bankSet]
    dsimp only
    rw [decide_eq_true ⟨h0, h3⟩, Bool.true_and]; rfl
  have closed : bankClose s kind bank = bankSet s kind bank { bankGet s kind bank with
      state := if imgSound kind (bankGet s kind bank) && decide (minSvn s kind ≤ imgSvn (bankGet s kind bank)) then 1 else 2 } := by
    unfold bankClose
    dsimp only
    rw [sound 2 (by decide) (by decide), bankGet_bankSet, set]
    split <;> rfl
  have valid : imgValid (bankClose s kind bank) kind bank =
      (imgSound kind (bankGet s kind bank) && decide (minSvn s kind ≤ imgSvn (bankGet s kind bank))) := by
    rw [closed]
    split <;> exact sound _ (by decide) (by decide)
  rw [valid, ← closed]

theorem fwImageEnd_closes : AnswersOk .fwImageEnd 0x0B02
    (fun s _ req => byteAt req 0 ≤ 1 ∧ byteAt req 1 ≤ 1 ∧ imgRunning s (byteAt req 0) (byteAt req 1) = false ∧
      handoverBank s (byteAt req 0) (byteAt req 1) = false ∧ (bankGet s (byteAt req 0) (byteAt req 1)).state = 3)
    (fun s _ req => toLe 1 (b2n (imgValid (bankClose s (byteAt req 0) (byteAt req 1)) (byteAt req 0) (byteAt req 1))) ++ zeros 1 ++
      imgInfo (bankGet s (byteAt req 0) (byteAt req 1)) ++ zeros 2)
    (fun s t ch req => (bankGet t (byteAt req 0) (byteAt req 1)).bytes = (bankGet s (byteAt req 0) (byteAt req 1)).bytes ∧
      AnswerFrame [.flash] s t ch) := by
  refine answersOk_set (row := fun s ch seq => (rfl : execFwImageEnd ch seq s = _)) ?_
  rintro s ch seq req ⟨kind, bank, idle, apart, written⟩
  have closed := bankClose_eq s (byteAt req 0) (byteAt req 1)
  refine ⟨bankClose s (byteAt req 0) (byteAt req 1), ?_, by rw [closed]; rfl, ?_⟩
  · rw [withBank_free ch seq _ kind bank idle apart]
    dsimp only
    rw [if_neg (by simp [written])]
    have state : decide ((bankGet (bankClose s (byteAt req 0) (byteAt req 1)) (byteAt req 0) (byteAt req 1)).state = 1) =
        imgValid (bankClose s (byteAt req 0) (byteAt req 1)) (byteAt req 0) (byteAt req 1) := by
      rw [closed, bankGet_bankSet, ← closed]
      cases imgValid (bankClose s (byteAt req 0) (byteAt req 1)) (byteAt req 0) (byteAt req 1) <;> rfl
    have info : imgInfo (bankGet (bankClose s (byteAt req 0) (byteAt req 1)) (byteAt req 0) (byteAt req 1)) =
        imgInfo (bankGet s (byteAt req 0) (byteAt req 1)) := by
      rw [closed, bankGet_bankSet]; rfl
    rw [state, info]
  · generalize toLe 1 _ ++ zeros 1 ++ _ ++ zeros 2 = body
    rw [closed]
    obtain ⟨bytes, frame⟩ := bankSet_answered s (byteAt req 0) (byteAt req 1) { bankGet s (byteAt req 0) (byteAt req 1) with
      state := if imgValid (bankClose s (byteAt req 0) (byteAt req 1)) (byteAt req 0) (byteAt req 1) then 1 else 2 } ch seq body
    exact ⟨by rw [bytes], frame⟩

theorem fwImageErase_erases : AnswersOk .fwImageErase 0x0B04
    (fun s _ req => byteAt req 0 ≤ 1 ∧ byteAt req 1 ≤ 1 ∧ imgRunning s (byteAt req 0) (byteAt req 1) = false ∧
      handoverBank s (byteAt req 0) (byteAt req 1) = false) (fun _ _ _ => [])
    (fun s t ch req => bankGet t (byteAt req 0) (byteAt req 1) = {} ∧ AnswerFrame [.flash] s t ch) := by
  refine answersOk_set (row := fun s ch seq => (rfl : execFwImageErase ch seq s = _)) ?_
  rintro s ch seq req ⟨kind, bank, idle, apart⟩
  exact ⟨bankSet s (byteAt req 0) (byteAt req 1) {}, withBank_free ch seq _ kind bank idle apart, rfl, bankSet_answered _ _ _ _ _ _ _⟩

/-! The manifest and the boot word. -/

theorem fwManifestRead_reads {s : State} {ch seq : Nat} {req : Bytes} (begun : Begun s ch seq 0x0B08 req) (least : 1 ≤ le req 2 2)
    (most : le req 2 2 ≤ 60) : Completes (.fwManifestRead ch seq) s (fun t =>
    (∀ m, manifestUse s = some m → le req 0 2 + le req 2 2 ≤ manifestCount m → Answered t ch seq rcOk
      (toLe 4 (manifestVersion m) ++ toLe 2 (manifestCount m) ++ zeros 2 ++ slice m (256 + 4 * le req 0 2) (4 * le req 2 2))) ∧
    (manifestUse s = none → Answered t ch seq rcBadParam []) ∧ AnswerFrame [] s t ch) := by
  refine completes_command begun (rfl : execFwManifestRead ch seq s = _) ?_
  dsimp only
  cases manifestUse s with
  | none => exact ⟨fun _ => nofun, fun _ => answer_answered _ _ begun.unanswered, answer_frame _ _ _ _ _⟩
  | some m =>
    refine ⟨fun n used fits => ?_, nofun, ?_⟩
    · cases used
      dsimp only
      rw [if_neg (by omega)]
      exact answer_answered _ _ begun.unanswered
    · dsimp only
      split <;> exact answer_frame _ _ _ _ _

theorem fwManifestWrite_keeps_bytes : AnswersOk .fwManifestWrite 0x0B09
    (fun _ _ req => 1 ≤ le req 2 2 ∧ le req 2 2 ≤ 240 ∧ le req 0 2 + le req 2 2 ≤ 4096 ∧ bitAt (byteAt req 4) 0 = false) (fun _ _ _ => [])
    (fun s t ch req => (∀ i < le req 2 2, mapGet t.flash.manifestBuf (le req 0 2 + i) = some ((req.drop 8).getD i 0)) ∧
      t.flash.manifest0 = s.flash.manifest0 ∧ t.flash.manifest1 = s.flash.manifest1 ∧ AnswerFrame [.flash] s t ch) := by
  refine answersOk_set (row := fun s ch seq => (rfl : execFwManifestWrite ch seq s = _)) ?_
  rintro s ch seq req ⟨some, most, fits, open'⟩
  refine ⟨{ s with flash := { s.flash with
    manifestBuf := (List.range (le req 2 2)).foldl (fun m i => mapSet m (le req 0 2 + i) ((req.drop 8).getD i 0)) s.flash.manifestBuf } },
    ?_, rfl, fun i hi => ?_, ?_, ?_, answer_frame_quiet ch seq rcOk [] (.of_patch rfl) (by decide) (by decide)⟩
  · dsimp only
    rw [if_neg (by omega), if_neg (by simp [open'])]
  · rw [answer_flash, mapGet_foldl_mapSet, if_pos (by omega), Nat.add_sub_cancel_left]
  · rw [answer_flash]
  · rw [answer_flash]

theorem fwBootSelect_selects {s : State} {ch seq : Nat} {req : Bytes} (begun : Begun s ch seq 0x0B13 req) (wh : byteAt req 0 ≤ 1)
    (csc : byteAt req 1 ≤ 1) : Completes (.fwBootSelect ch seq) s (fun t =>
    (imgValid s 0 (byteAt req 0) = true → imgValid s 1 (byteAt req 1) = true → banksListed s (byteAt req 0) (byteAt req 1) = true →
      Answered t ch seq rcOk [] ∧ hwField t 0x010 1 0 = byteAt req 0 + 2 * byteAt req 1) ∧
    (imgValid s 0 (byteAt req 0) = false ∨ imgValid s 1 (byteAt req 1) = false ∨ banksListed s (byteAt req 0) (byteAt req 1) = false →
      Answered t ch seq rcNotPermitted [] ∧ hwWord t 0x010 = hwWord s 0x010) ∧ AnswerFrame [.hw] s t ch) := by
  refine completes_command begun (rfl : execFwBootSelect ch seq s = _) ?_
  dsimp only
  rw [if_neg (by omega)]
  have written : hwField (hwSetField s 0x010 1 0 (byteAt req 0 + 2 * byteAt req 1)) 0x010 1 0 = byteAt req 0 + 2 * byteAt req 1 := by
    refine hwField_hwSetField s (by decide) (fun i _ hi => ?_) (by omega)
    show (2 ^ 4 - 1).testBit i = true
    rw [Nat.testBit_two_pow_sub_one, decide_eq_true (by omega)]
  by_cases bad : ¬ imgValid s 0 (byteAt req 0) ∨ ¬ imgValid s 1 (byteAt req 1) ∨ ¬ banksListed s (byteAt req 0) (byteAt req 1)
  · rw [if_pos bad]
    refine ⟨fun a b c => ?_, fun _ => ⟨answer_answered _ _ begun.unanswered, hwWord_answer _ _ _ _ _ _⟩,
      answer_frame_quiet ch seq _ _ (.refl _ _) (by decide) (by decide)⟩
    simp [a, b, c] at bad
  · rw [if_neg bad]
    refine ⟨fun _ _ _ => ⟨answer_answered _ _ begun.unanswered, ?_⟩, fun other => ?_,
      answer_frame_quiet ch seq _ _ (hwSet_changes _ _ _) (by decide) (by decide)⟩
    · rw [hwField, hwWord_answer]; exact written
    · refine absurd ?_ bad
      simpa using other

/-! The lockstep pairs (R592 to R595). -/

/-- The state in which the pair that served has stopped. -/
def pairStopped (s : State) (cause : Nat) : State :=
  let u := serviceStop (setBits s r_WH_PAIR (BitVec.ofNat 32 (32 * 2 ^ cause)))
  { u with fw := { u.fw with lastCause := cause, lastStamp := stampNow u, restarting := some (cause, s.time.ticks) } }

theorem pairStop_eq (s : State) (k : Nat) : pairStop s k =
    if (restartsDay s).length < 3 ∨ s.fw.spare ≠ .ready then
      bump { pairStopped s k with fw := { (pairStopped s k).fw with restarts := s.fw.restarts + 1, restartTicks := s.time.ticks :: restartsDay s } }
        r_WH_CNT_RESTART
    else
      let t := hwSetField (pairStopped s k) 0x011 0 0 (1 - activePair s)
      bump { t with fw := { t.fw with switches := s.fw.switches + 1, restartTicks := [], spare := .selfTest } } r_WH_CNT_SWITCH := rfl

theorem pairStopped_stops (s : State) (k : Nat) : (pairStopped s k).fw.restarting = some (k, s.time.ticks) ∧ (pairStopped s k).fw.lastCause = k ∧
    (pairStopped s k).fw.restarts = s.fw.restarts ∧ (pairStopped s k).fw.switches = s.fw.switches ∧ (pairStopped s k).mbx.serving = false ∧
    (pairStopped s k).mbx.fwGen = s.mbx.fwGen + 1 ∧ (pairStopped s k).hw = s.hw := ⟨rfl, rfl, rfl, rfl, rfl, rfl, rfl⟩

/-- Service stops and the firmware-side generations increase; the pair restarts, or the spare takes over at the third stop in a day. -/
theorem pairStop_stops (s : State) (k : Nat) : (pairStop s k).fw.restarting = some (k, s.time.ticks) ∧ (pairStop s k).fw.lastCause = k ∧
      (pairStop s k).mbx.serving = false ∧ (pairStop s k).mbx.fwGen = s.mbx.fwGen + 1 ∧
      ((restartsDay s).length < 3 → (pairStop s k).fw.restarts = s.fw.restarts + 1 ∧ (pairStop s k).fw.switches = s.fw.switches ∧
        (pairStop s k).hw = s.hw) ∧
      (3 ≤ (restartsDay s).length → s.fw.spare = .ready → (pairStop s k).fw.switches = s.fw.switches + 1 ∧
        (pairStop s k).fw.restarts = s.fw.restarts ∧ hwField (pairStop s k) 0x011 0 0 = 1 - hwField s 0x011 0 0 ∧
        (pairStop s k).fw.spare = .selfTest) := by
  obtain ⟨restarting, cause, restarts, switches, serving, gen, hw⟩ := pairStopped_stops s k
  rw [pairStop_eq]
  generalize pairStopped s k = t at restarting cause restarts switches serving gen hw
  refine ⟨?_, ?_, ?_, ?_, fun few => ?_, fun many ready => ?_⟩
  · split <;> exact (congrArg Firmware.restarting ((bump_keeps _ _).same .fw)).trans restarting
  · split <;> exact (congrArg Firmware.lastCause ((bump_keeps _ _).same .fw)).trans cause
  · split <;> exact (congrArg Mailboxes.serving ((bump_keeps _ _).same .mbx)).trans serving
  · split <;> exact (congrArg Mailboxes.fwGen ((bump_keeps _ _).same .mbx)).trans gen
  · rw [if_pos (.inl few), (bump_keeps _ _).same .fw, (bump_keeps _ _).same .hw]
    exact ⟨rfl, switches, hw⟩
  · rw [if_neg (by simp [ready]; omega)]
    dsimp only
    rw [(bump_keeps _ _).same .fw, hwField, hwWord_congr ((bump_keeps _ _).same .hw)]
    refine ⟨rfl, restarts, ?_, rfl⟩
    have written : hwField (hwSetField t 0x011 0 0 (1 - activePair s)) 0x011 0 0 = 1 - activePair s := by
      refine hwField_hwSetField t (by decide) (fun i _ hi => ?_) (by omega)
      show (2 ^ 3 - 1).testBit i = true
      rw [Nat.testBit_two_pow_sub_one, decide_eq_true (by omega)]
    exact written

theorem lockstep_stops {c : Instr} {k : Nat} (event : (c, k) ∈ [(Instr.lockstepMismatch, 0), (Instr.watchdogExpire, 1)]) {s : State}
    (on : s.fw.whRunning = true) (up : s.fw.restarting = none) (none : s.fw.handover = none) :
    Completes c s (fun t => t.fw.restarting = some (k, s.time.ticks) ∧ t.fw.lastCause = k ∧ t.mbx.serving = false ∧
      t.mbx.fwGen = s.mbx.fwGen + 1 ∧
      ((restartsDay s).length < 3 → t.fw.restarts = s.fw.restarts + 1 ∧ t.fw.switches = s.fw.switches ∧ t.hw = s.hw) ∧
      (3 ≤ (restartsDay s).length → s.fw.spare = .ready → t.fw.switches = s.fw.switches + 1 ∧ t.fw.restarts = s.fw.restarts ∧
        hwField t 0x011 0 0 = 1 - hwField s 0x011 0 0 ∧ t.fw.spare = .selfTest) ∧ ChangesOnly [.fw, .mbx, .regs, .hw] s t) := by
  have reached : exec c s = .next (pairStop s k) := by
    have stops : wellheadFail s k = pairStop s k := by
      unfold wellheadFail
      rw [if_neg (by simp [on, up]), none]
    simp only [List.mem_cons, Prod.mk.injEq, List.not_mem_nil, or_false] at event
    rcases event with ⟨rfl, rfl⟩ | ⟨rfl, rfl⟩ <;> exact congrArg _ stops
  obtain ⟨restarting, cause, serving, gen, restart, switch⟩ := pairStop_stops s k
  exact completes_of reached ⟨restarting, cause, serving, gen, restart, switch, (pairStop_keeps s k).frame.mono (by decide)⟩

theorem wellheadResume_resumes {s : State} {k : Nat × Nat} (stopped : s.fw.restarting = some k) : Completes .wellheadResume s (fun t =>
    t.fw.restarting = none ∧ t.mbx.serving = true ∧ t.mbx.fwGen = s.mbx.fwGen ∧
    ChangesOnly [.fw, .mbx, .gauge, .regs, .hw, .ep0, .ep1] s t) := by
  obtain ⟨cause, stamp⟩ := k
  let u : State := { s with fw := { s.fw with restarting := none }, mbx := { s.mbx with serving := true } }
  let pause := (s.time.ticks - stamp) / 1000
  let v := errlog u 0x0170 11 0xFFFF 0 (toLe 1 cause ++ toLe 1 (activePair u) ++ toLe 4 pause)
  have reached : exec .wellheadResume s =
      .next (eventToManager v 0x8B20 (toLe 1 cause ++ toLe 1 (activePair v) ++ zeros 2 ++ toLe 4 pause)) := by
    delta exec execWellheadResume
    dsimp only
    rw [stopped]
  have told := (errlog_told u 0x0170 11 0xFFFF 0 (toLe 1 cause ++ toLe 1 (activePair u) ++ toLe 4 pause)).trans
    (eventToManager_told v 0x8B20 (toLe 1 cause ++ toLe 1 (activePair v) ++ zeros 2 ++ toLe 4 pause))
  refine completes_of reached ⟨?_, told.serving, told.fwGen, exec_changes reached⟩
  rw [(eventToManager_keeps _ _ _).same .fw, (errlog_keeps _ _ _ _ _ _).same .fw]

theorem checkpointTimer_stamps {s : State} (on : s.fw.whRunning = true) (up : s.fw.restarting = none) :
    exec .checkpointTimer s = .next { s with fw := { s.fw with ckptStamp := stampNow s } } := if_pos ⟨on, by rw [up]; rfl⟩

theorem spareSelfTest_ends {s : State} (on : s.fw.whRunning = true) (spare : s.fw.spare = .ready ∨ s.fw.spare = .selfTest) :
    exec (.spareSelfTest true) s = .next { s with fw := { s.fw with spare := .ready } } ∧
    Completes (.spareSelfTest false) s (fun t => t.fw.spare = .retired ∧
      hwField t 0x011 (1 + (1 - activePair s)) (1 + (1 - activePair s)) = 1 ∧
      ChangesOnly [.fw, .hw, .dev, .mbx, .gauge, .regs, .ep0, .ep1] s t) := by
  have present : ¬ (¬ s.fw.whRunning ∨ (s.fw.spare ≠ .ready ∧ s.fw.spare ≠ .selfTest)) := by
    rintro (off | ⟨notReady, notTested⟩)
    · exact off on
    · exact spare.elim notReady notTested
  let p := 1 - activePair s
  let u := hwSetField { s with fw := { s.fw with spare := .retired } } 0x011 (1 + p) (1 + p) 1
  have reached : exec (.spareSelfTest false) s = .next (noteMode s (noteRetired u 7 2 p 0 11) 1) := by
    show execSpareSelfTest false s = _
    unfold execSpareSelfTest
    rw [if_neg present, if_neg (by decide)]
  refine ⟨(if_neg present).trans (if_pos rfl), completes_of reached ⟨?_, ?_, exec_changes reached⟩⟩
  · rw [(noteMode_keeps _ _ _).same .fw, (noteRetired_keeps _ _ _ _ _ _).same .fw]; rfl
  · have words := (noteRetired_told u 7 2 p 0 11).trans (noteMode_told s _ 1)
    rw [words.field]
    refine hwField_hwSetField_bit _ (by omega) ?_
    show (2 ^ 3 - 1).testBit _ = true
    rw [Nat.testBit_two_pow_sub_one, decide_eq_true (by omega)]

theorem stampNow_congr {s t : State} (h : t.time = s.time) : stampNow t = stampNow s := by
  unfold stampNow; rw [h]

theorem checkpoint_eq (s : State) : checkpoint s = { s with fw := { s.fw with ckptStamp := stampNow s } } := rfl

theorem checkpoint_changes (s : State) : ChangesOnly [.fw] s (checkpoint s) := by
  rw [checkpoint_eq]; exact fw_changes s _

theorem answer_checkpoint_stamp (s : State) (ch seq code : Nat) (body : Bytes) :
    (answer (checkpoint s) ch seq code body).fw.ckptStamp = stampNow s := by
  unfold answer
  split
  · unfold finish
    extract_lets u _ v w
    have time : u.time = s.time := ((chanMod_changes _ _ _ .time).resolve_left (by decide)).trans
      ((checkpoint_changes s .time).resolve_left (by decide))
    have stamp : ∀ x, stampNow u = x → v.fw.ckptStamp = x := by
      intro x hx
      unfold v
      rw [hx]
    rw [(queueResponse_keeps _ _ _ _ _ _).same .fw, (trace_keeps _ _ _ _ _ _ _).same .fw, stamp _ (stampNow_congr time)]
  · have stamp : ∀ x, stampNow s = x → (checkpoint s).fw.ckptStamp = x := by
      intro x hx
      rw [checkpoint_eq, hx]
    exact stamp _ rfl

theorem whCheckpoint_stamps : AnswersOk .whCheckpoint 0x0B20 (fun _ _ _ => True) (fun s _ _ => toLe 8 (stampNow s).toNat)
    (fun s t ch _ => t.fw.ckptStamp = stampNow s ∧ AnswerFrame [] s t ch) := by
  refine answersOk_set (row := fun s ch seq => (rfl : execWhCheckpoint ch seq s = _)) (fun s ch seq req _ =>
    ⟨checkpoint s, rfl, (checkpoint_changes s .mbx).resolve_left (by decide), answer_checkpoint_stamp _ _ _ _ _, ?_⟩)
  obtain ⟨parts, rest⟩ := answer_frame_quiet (ps := [.fw]) (s := s) (u := checkpoint s) ch seq rcOk (toLe 8 (stampNow s).toNat)
    (checkpoint_changes s) (by decide) (by decide)
  exact ⟨parts.mono (by decide), rest⟩

/-- Settles O18: images, the manifest, then the pairs. -/
theorem imagesAndLockstepPairsFollowTheirCommands : Obligations.ImagesAndLockstepPairsFollowTheirCommands :=
  ⟨⟨fwImageBegin_opens, fwImageData_writes, fwImageEnd_closes,
      answersOk_query (fun s ch seq => (rfl : execFwImageQuery ch seq s = _)) (fun _ _ _ _ _ => rfl), fwImageErase_erases,
      fun _ _ _ _ => fwManifestRead_reads, fwManifestWrite_keeps_bytes, fun _ _ _ _ => fwBootSelect_selects,
      answersOk_query (fun s ch seq => (rfl : execFwRestrictedReason ch seq s = _)) (fun _ _ _ _ _ => rfl)⟩,
    fun _ _ event _ => lockstep_stops event, fun _ _ => wellheadResume_resumes, fun _ => checkpointTimer_stamps, fun _ => spareSelfTest_ends,
    whCheckpoint_stamps, answersOk_query (fun s ch seq => (rfl : execWhPairStatus ch seq s = _)) (fun _ _ _ _ _ => rfl)⟩

end Sys2Proof.Machine
end

section
/-! PROOFS. A live handover (O19). -/

namespace Sys2Proof.Machine

open Sys2Proof

set_option Elab.async false

/-! Answers of other commands. -/

theorem finish_started (s : State) (ch seq opcode : Nat) (req : Bytes) (session : Bool) (code : Nat) (body : Bytes) :
    (chanGet (finish s ch seq opcode req session code body) ch).started = (chanGet s ch).started.filter (fun x => x.seq ≠ seq) := by
  unfold finish queueResponse
  extract_lets u _ v w
  have kept : chanGet w ch = chanGet u ch := (chanGet_trace _ _ _ _ _ _ _ _).trans ((fw_changes u _).mbx (by decide) ch)
  rw [chanGet_chanMod_self, kept]
  show (chanGet (chanMod s ch _) ch).started = _
  rw [chanGet_chanMod_self]

/-- The answer of another command leaves one unanswered. -/
theorem Unanswered.answer {s : State} {ch seq : Nat} (h : Unanswered s ch seq) {c q : Nat} (code : Nat) (body : Bytes) (other : (c, q) ≠ (ch, seq)) :
    Unanswered (answer s c q code body) ch seq := by
  rcases Decidable.em (ch = c) with rfl | apart
  · obtain ⟨x, started, named⟩ := h
    have distinct : x.seq ≠ q := fun same => other (by rw [← named, same])
    unfold Machine.answer
    split
    · refine ⟨x, ?_, named⟩
      rw [finish_started]
      exact List.mem_filter.mpr ⟨started, by simpa using distinct⟩
    · exact ⟨x, started, named⟩
  · exact h.congr (by rw [chanGet_answer_ne _ _ _ _ apart])

/-- An answer keeps firmware's service and generation. -/
theorem answer_service (s : State) (ch seq code : Nat) (body : Bytes) :
    (answer s ch seq code body).mbx.serving = s.mbx.serving ∧ (answer s ch seq code body).mbx.fwGen = s.mbx.fwGen := by
  unfold answer
  split
  · unfold finish queueResponse
    extract_lets u _ v w
    have stamped : v.mbx = u.mbx := (fw_changes u _ .mbx).resolve_left (by decide)
    have same : w.mbx = u.mbx := ((trace_keeps _ _ _ _ _ _ _).same .mbx).trans stamped
    exact ⟨(congrArg Mailboxes.serving same).trans rfl, (congrArg Mailboxes.fwGen same).trans rfl⟩
  · exact ⟨rfl, rfl⟩

/-! The handover's start, steps and ends (R596 to R600). -/

theorem handoverBegin_begins (s : State) (w c : Option Nat) (raise : Bool) (ch seq : Nat) :
    Told s (handoverBegin s w c raise ch seq) ∧ (handoverBegin s w c raise ch seq).fw.handover = some
      { whBank := w, cscBank := c, raiseSvn := raise, step := if w.isSome then 2 else 6, cluster := 0, chan := ch, seq := seq,
        since := s.time.ticks, fromRestricted := decide (s.dev.base = .restricted) } := by
  unfold handoverBegin
  extract_lets before h
  refine ⟨.trans (.of_changes (fw_changes s _)) (noteMode_told _ _ _), ?_⟩
  rw [(noteMode_keeps _ _ _).same .fw]

theorem fwHandoverStart_starts {s : State} {ch seq : Nat} {req : Bytes} (begun : Begun s ch seq 0x0B10 req) (idle : s.fw.handover = none)
    (quiet : commitRuns s = false) : Completes (.fwHandoverStart ch seq) s (fun t =>
    (∀ w c, namedBank s 0 (byteAt req 0) = .ok w → namedBank s 1 (byteAt req 1) = .ok c →
      (handoverCheck s w c = none → RunsOn t ch seq 0x0B10 ∧ t.fw.handover = some
        { whBank := w, cscBank := c, raiseSvn := bitAt (byteAt req 2) 0, step := if w.isSome then 2 else 6, cluster := 0, chan := ch, seq := seq,
          since := s.time.ticks, fromRestricted := decide (s.dev.base = .restricted) }) ∧
      (∀ code, handoverCheck s w c = some code → Answered t ch seq code [] ∧ AnswerFrame [] s t ch)) ∧
    (∀ code, namedBank s 0 (byteAt req 0) = .error code → Answered t ch seq rcBadParam [] ∧ AnswerFrame [] s t ch)) := by
  have ends : ∀ code, Answered (answer s ch seq code []) ch seq code [] ∧ AnswerFrame [] s (answer s ch seq code []) ch := fun code =>
    ⟨answer_answered _ _ begun.unanswered, answer_frame _ _ _ _ _⟩
  refine completes_command begun (rfl : execFwHandoverStart ch seq s = _) ?_
  rw [if_neg (by simp [idle, quiet])]
  cases namedBank s 0 (byteAt req 0) with
  | error _ => exact ⟨nofun, fun _ _ => ends _⟩
  | ok w =>
    cases namedBank s 1 (byteAt req 1) with
    | error _ => exact ⟨fun _ _ _ => nofun, nofun⟩
    | ok c =>
      refine ⟨?_, nofun⟩
      rintro _ _ ⟨⟩ ⟨⟩
      dsimp only
      cases handoverCheck s w c with
      | some code => exact ⟨nofun, by rintro _ ⟨⟩; exact ends _⟩
      | none =>
        obtain ⟨kept, handover⟩ := handoverBegin_begins (defer s ch seq) w c (bitAt (byteAt req 2) 0) ch seq
        exact ⟨fun _ => ⟨(defer_runs begun).told kept, handover⟩, nofun⟩

theorem fwHandoverStatus_answers : AnswersOk .fwHandoverStatus 0x0B11 (fun _ _ _ => True)
    (fun s _ _ => match s.fw.handover with
      | some h => toLe 1 1 ++ toLe 1 h.step ++ toLe 1 h.cluster ++ zeros 1 ++ toLe 4 ((s.time.ticks - h.since) / 1000)
      | none => zeros 8) (fun s t ch _ => AnswerFrame [] s t ch) := by
  refine answersOk_query (fun s ch seq => (rfl : execFwHandoverStatus ch seq s = _)) (fun s _ _ _ _ => ?_)
  cases s.fw.handover <;> rfl

/-- The state in which the end of a handover has been told. -/
def handoverTold (s : State) (result : Nat) : State :=
  let u : State := { s with fw := { s.fw with handover := none } }
  noteMode s (eventToManager u 0x8B10 (toLe 1 result ++ zeros 3 ++ versions u)) 6

theorem handoverEnd_eq (s : State) (h : Handover) (result : Nat) : handoverEnd s h result =
    answer (handoverTold s result) h.chan h.seq rcOk (toLe 1 result ++ toLe 1 h.step ++ zeros 2 ++ versions (handoverTold s result)) := rfl

theorem handoverTold_told (s : State) (result : Nat) : Told s (handoverTold s result) := by
  unfold handoverTold
  extract_lets _ u
  have cleared : Told s u := .of_changes (fw_changes s _)
  exact (cleared.trans (eventToManager_told _ _ _)).trans (noteMode_told _ _ _)

theorem handoverTold_keeps (s : State) (result : Nat) :
    Keeps [.dev, .hw, .mbx, .ep0, .ep1, .gauge, .regs] { s with fw := { s.fw with handover := none } } (handoverTold s result) :=
  .last (noteMode_keeps _ _ _) (.mono (eventToManager_keeps _ _ _))

theorem handoverTold_fw (s : State) (result : Nat) : (handoverTold s result).fw = { s.fw with handover := none } :=
  (handoverTold_keeps s result).same .fw

/-- Versions that run do not depend on the handover. -/
theorem versions_congr {s t : State} (flash : t.flash = s.flash) (whBank : t.fw.whBank = s.fw.whBank) (cscBank : t.fw.cscBank = s.fw.cscBank)
    (whRunning : t.fw.whRunning = s.fw.whRunning) (cscRunning : t.fw.cscRunning = s.fw.cscRunning) : versions t = versions s := by
  unfold versions runningVersion imgRunning bankGet
  rw [flash, whBank, cscBank, whRunning, cscRunning]

/-- The command that started a handover is answered at its end. -/
theorem handoverEnd_answered {s : State} {h : Handover} (result : Nat) (started : Unanswered s h.chan h.seq) :
    Answered (handoverEnd s h result) h.chan h.seq rcOk (toLe 1 result ++ toLe 1 h.step ++ zeros 2 ++ versions s) := by
  have fw := handoverTold_fw s result
  have same : versions (handoverTold s result) = versions s :=
    versions_congr ((handoverTold_keeps s result).same .flash) (by rw [fw]) (by rw [fw]) (by rw [fw]) (by rw [fw])
  rw [handoverEnd_eq, same]
  exact answer_answered _ _ (started.told (handoverTold_told s result))

/-- Of firmware the end of a handover leaves all but the handover and the checkpoint's stamp. -/
theorem handoverEnd_fw (s : State) (h : Handover) (result : Nat) :
    ∃ stamp, (handoverEnd s h result).fw = { s.fw with handover := none, ckptStamp := stamp } := by
  rw [handoverEnd_eq]
  obtain ⟨stamp, fw⟩ := answer_fw (handoverTold s result) h.chan h.seq rcOk
    (toLe 1 result ++ toLe 1 h.step ++ zeros 2 ++ versions (handoverTold s result))
  exact ⟨stamp, by rw [fw, handoverTold_fw]⟩

/-- A command that ends the handover of another is answered after it. -/
theorem handoverEnd_then_answer {u : State} {h : Handover} {ch seq : Nat} (pending : Unanswered u ch seq) (other : (h.chan, h.seq) ≠ (ch, seq)) :
    let t := answer (handoverEnd u h 1) ch seq rcOk []
    Answered t ch seq rcOk [] ∧ t.fw.handover = none ∧ t.fw.spare = u.fw.spare ∧ t.fw.whBank = u.fw.whBank ∧ t.dev.base = u.dev.base := by
  have still : Unanswered (handoverEnd u h 1) ch seq := by
    rw [handoverEnd_eq]
    exact (pending.told (handoverTold_told u 1)).answer _ _ other
  obtain ⟨stamp, fw⟩ := handoverEnd_fw u h 1
  obtain ⟨later, after⟩ := answer_fw (handoverEnd u h 1) ch seq rcOk []
  refine ⟨answer_answered _ _ still, ?_, ?_, ?_, ?_⟩
  · rw [after, fw]
  · rw [after, fw]
  · rw [after, fw]
  · rw [answer_dev, (handoverEnd_ends u h 1).1.base]

theorem fwHandoverAbort_aborts {s : State} {ch seq : Nat} {req : Bytes} {h : Handover} (begun : Begun s ch seq 0x0B12 req)
    (on : s.fw.handover = some h) (early : h.step < 3) (other : (h.chan, h.seq) ≠ (ch, seq)) :
    Completes (.fwHandoverAbort ch seq) s (fun t => Answered t ch seq rcOk [] ∧ t.fw.handover = none ∧ t.fw.spare = .loading ∧
      t.fw.whBank = s.fw.whBank ∧ t.dev.base = s.dev.base) := by
  refine completes_command begun (rfl : execFwHandoverAbort ch seq s = _) ?_
  dsimp only
  rw [on]
  dsimp only
  rw [if_pos early]
  exact handoverEnd_then_answer (begun.unanswered.told (.of_changes (fw_changes s _))) other

theorem handoverSpareLoaded_moves {s : State} {h : Handover} (on : s.fw.handover = some h) (loading : h.step = 2) :
    exec .handoverSpareLoaded s = .next { s with fw := { s.fw with handover := some { h with step := 3 } } } := by
  show execHandoverSpareLoaded s = _
  unfold execHandoverSpareLoaded
  rw [on]
  dsimp only
  rw [if_pos loading]; rfl

theorem checkpoint_handover (s : State) : (checkpoint s).fw.handover = s.fw.handover := by
  have any : ∀ x, ({ s with fw := { s.fw with ckptStamp := x } } : State).fw.handover = s.fw.handover := fun _ => rfl
  exact any (stampNow s)

theorem checkpoint_stamp (s : State) : (checkpoint s).fw.ckptStamp = stampNow s := by
  have any : ∀ x, ({ s with fw := { s.fw with ckptStamp := x } } : State).fw.ckptStamp = x := fun _ => rfl
  exact any (stampNow s)

theorem handoverExport_exports {s : State} {h : Handover} (on : s.fw.handover = some h) (ready : h.step = 3) (up : s.fw.restarting = none) :
    Completes .handoverExport s (fun t => t.fw.handover = some { h with step := 4 } ∧ t.fw.ckptStamp = stampNow s ∧ t.mbx.serving = false ∧
      t.mbx.fwGen = s.mbx.fwGen + 1 ∧ ChangesOnly [.fw, .mbx, .regs] s t) := by
  have reached : exec .handoverExport s = .next (checkpoint (serviceStop (handoverSet s { h with step := 4 }))) := by
    show execHandoverExport s = _
    unfold execHandoverExport
    rw [on]
    dsimp only
    rw [if_pos ⟨ready, by rw [up]; rfl⟩]
  refine completes_of reached ?_
  have exported : ∀ u : State, u.mbx = s.mbx → u.time = s.time → ChangesOnly [.fw] s u →
      let t := checkpoint (serviceStop u)
      t.fw.handover = u.fw.handover ∧ t.fw.ckptStamp = stampNow s ∧ t.mbx.serving = false ∧ t.mbx.fwGen = s.mbx.fwGen + 1 ∧
        ChangesOnly [.fw, .mbx, .regs] s t := by
    intro u mbx time frame
    have stopped := serviceStop_keeps u
    have box : (serviceStop u).mbx.serving = false ∧ (serviceStop u).mbx.fwGen = u.mbx.fwGen + 1 := ⟨rfl, rfl⟩
    generalize serviceStop u = v at stopped box
    have stamp : stampNow v = stampNow s := stampNow_congr ((stopped.same .time).trans time)
    have same := (checkpoint_changes v .mbx).resolve_left (by decide)
    dsimp only
    refine ⟨?_, ?_, ?_, ?_, ?_⟩
    · rw [checkpoint_handover, stopped.same .fw]
    · exact (checkpoint_stamp v).trans stamp
    · rw [same]; exact box.1
    · rw [same, ← mbx]; exact box.2
    · exact ((frame.mono (by decide)).step (stopped.frame.mono (by decide))).step ((checkpoint_changes v).mono (by decide))
  exact exported (handoverSet s { h with step := 4 }) rfl rfl (fw_changes s _)

/-- The new pair is active, and the old one loads the new image. -/
def handoverImported (s : State) (h : Handover) : State :=
  let t := hwSetField s 0x011 0 0 (1 - activePair s)
  handoverSet { t with fw := { t.fw with whBank := h.whBank.getD t.fw.whBank, spare := .loading, restartTicks := [] },
                       mbx := { t.mbx with serving := true } }
    { h with step := if h.cscBank.isSome then 6 else 7 }

theorem handoverImportDone_switches {s : State} {h : Handover} (on : s.fw.handover = some h) (exported : h.step = 4) :
    Completes .handoverImportDone s (fun t => t.fw.handover = some { h with step := if h.cscBank.isSome then 6 else 7 } ∧
      t.fw.whBank = h.whBank.getD s.fw.whBank ∧ t.fw.spare = .loading ∧ t.mbx.serving = true ∧
      hwField t 0x011 0 0 = 1 - hwField s 0x011 0 0 ∧ ChangesOnly [.fw, .mbx, .hw] s t) := by
  have reached : exec .handoverImportDone s = .next (handoverImported s h) := by
    show execHandoverImportDone s = _
    unfold execHandoverImportDone
    rw [on]
    exact if_pos exported
  refine completes_of reached ?_
  have written : hwField (hwSetField s 0x011 0 0 (1 - activePair s)) 0x011 0 0 = 1 - activePair s := by
    refine hwField_hwSetField s (by decide) (fun i _ hi => ?_) (by omega)
    show (2 ^ 3 - 1).testBit i = true
    rw [Nat.testBit_two_pow_sub_one, decide_eq_true (by omega)]
  exact ⟨rfl, rfl, rfl, rfl, written, exec_changes reached⟩

theorem handoverOldPairLoaded_ready {s : State} (loading : s.fw.spare = .loading) (idle : s.fw.handover = none) :
    exec .handoverOldPairLoaded s = .next { s with fw := { s.fw with spare := .ready } } := by
  show execHandoverOldPairLoaded s = _
  unfold execHandoverOldPairLoaded
  rw [idle]
  exact if_pos ⟨loading, Bool.false_ne_true⟩

theorem handoverFailure_ends {s : State} {h : Handover} (on : s.fw.handover = some h) (failing : h.step = 2 ∨ h.step = 4) :
    Completes .handoverFailure s (fun t => t.fw.handover = none ∧ t.mbx.serving = true ∧ t.fw.whBank = s.fw.whBank ∧
      t.fw.cscBank = s.fw.cscBank ∧
      (Unanswered s h.chan h.seq → Answered t h.chan h.seq rcOk (toLe 1 2 ++ toLe 1 h.step ++ zeros 2 ++ versions s))) := by
  have reached : exec .handoverFailure s = .next (handoverFail s h) := by
    show execHandoverFailure s = _
    unfold execHandoverFailure
    rw [on]
    exact if_pos failing
  refine completes_of reached ?_
  have fails : ∀ u : State, u.mbx.serving = true → u.mbx.chans = s.mbx.chans → u.flash = s.flash →
      (∃ spare, u.fw = { s.fw with spare := spare }) →
      let t := handoverEnd u h 2
      t.fw.handover = none ∧ t.mbx.serving = true ∧ t.fw.whBank = s.fw.whBank ∧ t.fw.cscBank = s.fw.cscBank ∧
        (Unanswered s h.chan h.seq → Answered t h.chan h.seq rcOk (toLe 1 2 ++ toLe 1 h.step ++ zeros 2 ++ versions s)) := by
    rintro u serving chans flash ⟨spare, loads⟩
    obtain ⟨stamp, fw⟩ := handoverEnd_fw u h 2
    have serves : (handoverEnd u h 2).mbx.serving = true := by
      rw [handoverEnd_eq, (answer_service _ _ _ _ _).1, (handoverTold_told u 2).serving, serving]
    have same : versions u = versions s := versions_congr flash (by rw [loads]) (by rw [loads]) (by rw [loads]) (by rw [loads])
    dsimp only
    refine ⟨by rw [fw], serves, by rw [fw, loads], by rw [fw, loads], fun open' => ?_⟩
    rw [← same]
    exact handoverEnd_answered 2 (open'.congr (by rw [chanGet, chans]; rfl))
  unfold handoverFail
  split
  · exact fails _ rfl rfl rfl ⟨_, rfl⟩
  · exact fails _ rfl rfl rfl ⟨s.fw.spare, rfl⟩

theorem clusterCodeSwitch_moves {s : State} {h : Handover} (on : s.fw.handover = some h) (loading : h.step = 6) (more : h.cluster < 4) :
    Completes .clusterCodeSwitch s (fun t =>
      t.fw.handover = some (if h.cluster = 3 then { h with step := 7 } else { h with cluster := h.cluster + 1 }) ∧
      (h.cluster = 3 → t.fw.cscBank = h.cscBank.getD s.fw.cscBank) ∧ (h.cluster ≠ 3 → t.fw.cscBank = s.fw.cscBank)) := by
  let u := handoverSet s { h with cluster := h.cluster + 1 }
  let v := clusterRenew (clusterRenew u h.cluster) (4 + h.cluster)
  have fw : v.fw = u.fw := ((clusterRenew_keeps _ _).same .fw).trans ((clusterRenew_keeps _ _).same .fw)
  have reached : exec .clusterCodeSwitch s = .next (if h.cluster = 3 then
      handoverSet { v with fw := { v.fw with cscBank := h.cscBank.getD v.fw.cscBank, cscRunning := true } } { h with cluster := 3, step := 7 }
      else v) := by
    show execClusterCodeSwitch s = _
    unfold execClusterCodeSwitch
    rw [on]
    dsimp only
    rw [if_pos ⟨loading, more⟩, apply_ite Host.Outcome.next]
  refine completes_of reached ?_
  split
  next last =>
    refine ⟨?_, fun _ => ?_, fun other => absurd last other⟩
    · show some ({ h with cluster := 3, step := 7 } : Handover) = _
      rw [← last]
    · show h.cscBank.getD v.fw.cscBank = _
      rw [fw]; rfl
  next other =>
    rw [fw]
    exact ⟨rfl, fun last => absurd last other, fun _ => rfl⟩

/-- Settles O19, step by step. -/
theorem handoverMovesStepByStep : Obligations.HandoverMovesStepByStep :=
  ⟨fun _ _ _ _ => fwHandoverStart_starts, fwHandoverStatus_answers, fun _ _ _ _ _ => fwHandoverAbort_aborts,
    fun _ _ => handoverSpareLoaded_moves, fun _ _ => handoverExport_exports, fun _ _ => handoverImportDone_switches,
    fun _ => handoverOldPairLoaded_ready, fun _ _ => handoverFailure_ends, fun _ _ => clusterCodeSwitch_moves⟩

end Sys2Proof.Machine
end

section
/-! PROOFS. Firmware takes the shown message; identity, masks, echo and the manager role (O20). -/

namespace Sys2Proof.Machine

open Sys2Proof

set_option Elab.async false

/-! Firmware acknowledges the shown message (R507, R544). -/

theorem noteCrossing_chan (s : State) (ch : Nat) : ∃ seen, chanGet (noteCrossing s ch) ch = { chanGet s ch with crossSeen := seen } := by
  unfold noteCrossing
  dsimp only
  split
  · exact ⟨false, chanGet_chanSet_self _ _ _⟩
  · exact ⟨(chanGet s ch).crossSeen, rfl⟩

theorem fwAck_eq {s : State} {ch : Nat} {m : Msg} {rest : List Msg} (shown : (chanGet s ch).toFw = m :: rest) :
    ∃ u, fwAck s ch = noteCrossing u ch ∧ chanGet u ch = { chanGet s ch with toFw := rest } ∧
      (∀ a, a ≠ r_MBX_CNT_STALE_ACK → counter u a = counter s a) ∧ (∀ k, k ≠ ch → chanGet u k = chanGet s k) ∧
      (m.senderGen ≠ (chanGet s ch).hostGen → Counted s u r_MBX_CNT_STALE_ACK 1) := by
  unfold fwAck
  dsimp only
  rw [shown]
  dsimp only
  refine ⟨_, rfl, ?_, fun a other => ?_, fun k other => ?_, fun stale => ?_⟩
  · split_ifs
    · rw [chanGet_bump, chanGet_chanSet_self]
    · rw [chanGet_congr ((mctpSend_keeps _ _ _ _).same .mbx), chanGet_chanSet_self]
    · rw [chanGet_congr ((wakeHost_keeps _ _).same .mbx), chanGet_chanSet_self]
  · split_ifs
    · rw [counter_bump_ne _ other]; rfl
    · rw [counter_congr ((mctpSend_keeps _ _ _ _).same .regs)]; rfl
    · rw [counter_congr ((wakeHost_keeps _ _).same .regs)]; rfl
  · have taken := chanGet_chanSet_ne s { chanGet s ch with toFw := rest } other
    split_ifs
    · rw [chanGet_bump, taken]
    · rw [chanGet_congr ((mctpSend_keeps _ _ _ _).same .mbx), taken]
    · rw [chanGet_congr ((wakeHost_keeps _ _).same .mbx), taken]
  · rw [if_pos stale]; exact counter_bump_self _ _

/-- The message is gone; the rest of the channel but the crossing's flag stays. -/
theorem fwAck_chan {s : State} {ch : Nat} {m : Msg} {rest : List Msg} (shown : (chanGet s ch).toFw = m :: rest) :
    ∃ seen, chanGet (fwAck s ch) ch = { chanGet s ch with toFw := rest, crossSeen := seen } := by
  obtain ⟨u, acked, chan, -, -, -⟩ := fwAck_eq shown
  obtain ⟨seen, crossing⟩ := noteCrossing_chan u ch
  exact ⟨seen, by rw [acked, crossing, chan]⟩

theorem fwAck_counter {s : State} {ch : Nat} {m : Msg} {rest : List Msg} (shown : (chanGet s ch).toFw = m :: rest) {a : Nat}
    (other : a ≠ r_MBX_CNT_STALE_ACK) : counter (fwAck s ch) a = counter s a := by
  obtain ⟨u, acked, -, count, -, -⟩ := fwAck_eq shown
  rw [acked, counter_congr ((noteCrossing_keeps u ch).same .regs), count a other]

/-- A message that firmware answers without running it. -/
theorem queueResponse_chan (s : State) (ch seq code : Nat) (session : Bool) (body : Bytes) : chanGet (queueResponse s ch seq code session body) ch =
    { chanGet s ch with queue := (chanGet s ch).queue ++ responseParts seq code session body.length body } := chanGet_chanMod_self _ _ _

/-- A message that fails a check is journalled as done with its code, and answered. -/
theorem refuseShown_chan {s : State} {ch : Nat} {m : Msg} {rest : List Msg} (shown : (chanGet s ch).toFw = m :: rest) (session : Bool) (code : Nat) :
    (chanGet (refuseShown s ch m session code) ch).toFw = rest ∧
      (∃ j ∈ (chanGet (refuseShown s ch m session code) ch).journal, j.seq = m.seq ∧ j.done = some (code, [])) ∧
      (chanGet (refuseShown s ch m session code) ch).queue = (chanGet s ch).queue ++ responseParts m.seq code session 0 [] := by
  obtain ⟨seen, chan⟩ := fwAck_chan shown
  unfold refuseShown finish
  extract_lets u _ v w
  have kept : chanGet w ch = chanGet u ch := (chanGet_trace _ _ _ _ _ _ _ _).trans ((fw_changes u _).mbx (by decide) ch)
  rw [queueResponse_chan, kept]
  show (chanGet (chanMod (fwAck s ch) ch _) ch).toFw = rest ∧ _
  unfold u
  rw [chanGet_chanMod_self, chan]
  exact ⟨rfl, ⟨_, mem_journalPut _ _, rfl, rfl⟩, rfl⟩

theorem startShown_chan {s : State} {ch : Nat} {m : Msg} {rest : List Msg} (shown : (chanGet s ch).toFw = m :: rest) (session : Bool) :
    (chanGet (startShown s ch m session) ch).toFw = rest ∧ (chanGet (startShown s ch m session) ch).queue = (chanGet s ch).queue ∧
      (chanGet (startShown s ch m session) ch).started = (chanGet s ch).started ++ [⟨m.seq, m.opcode, m.payload, false, session⟩] := by
  obtain ⟨seen, chan⟩ := fwAck_chan shown
  unfold startShown
  rw [chanGet_chanMod_self, chan]
  exact ⟨rfl, rfl, rfl⟩

/-- The checks of a shown message while firmware reads the channel (R544). -/
theorem fwCommandDispatch_reads {s : State} {ch : Nat} {m : Msg} {rest : List Msg} (shown : (chanGet s ch).toFw = m :: rest)
    (serving : s.mbx.serving = true) (room : (chanGet s ch).queue.length < 8) (idle : (chanGet s ch).started.any (fun x => !x.running) = false) :
    exec (.fwCommandDispatch ch) s =
      if m.senderGen ≠ (chanGet s ch).hostGen then .next (bump (fwAck s ch) r_MBX_CNT_STALE_CMD)
      else if m.receiverGen ≠ s.mbx.fwGen then .next (queueResponse (fwAck s ch) ch m.seq rcStale (msgSession s ch m) [])
      else match (chanGet s ch).journal.find? (fun x => x.seq = m.seq) with
        | some x =>
          if x.opcode = m.opcode ∧ x.crc = requestCrc m.payload then
            match x.done with
            | some (code, body) => .next (queueResponse (fwAck s ch) ch m.seq code (msgSession s ch m) body)
            | none => .next (fwAck s ch)
          else .next (queueResponse (fwAck s ch) ch m.seq rcSeqConflict (msgSession s ch m) [])
        | none =>
          match commandCheck s ch (msgSession s ch m) m.opcode m.payload with
          | some code => .next (refuseShown s ch m (msgSession s ch m) code)
          | none => .next (startShown s ch m (msgSession s ch m)) := by
  show execFwCommandDispatch ch s = _
  unfold execFwCommandDispatch
  dsimp only
  rw [shown]
  exact if_neg (by simp [serving, idle]; omega)

theorem fwCommandDispatch_takes {s : State} {ch : Nat} {m : Msg} {rest : List Msg} (shown : (chanGet s ch).toFw = m :: rest)
    (serving : s.mbx.serving = true) (room : (chanGet s ch).queue.length < 8) (idle : (chanGet s ch).started.any (fun x => !x.running) = false) :
    (m.senderGen ≠ (chanGet s ch).hostGen → Completes (.fwCommandDispatch ch) s (fun t => (chanGet t ch).toFw = rest ∧
      (chanGet t ch).started = (chanGet s ch).started ∧ (chanGet t ch).queue = (chanGet s ch).queue ∧
      Counted s t r_MBX_CNT_STALE_CMD 1)) ∧
    (m.senderGen = (chanGet s ch).hostGen → m.receiverGen ≠ s.mbx.fwGen → Completes (.fwCommandDispatch ch) s (fun t =>
      (chanGet t ch).toFw = rest ∧ (chanGet t ch).started = (chanGet s ch).started ∧ (chanGet t ch).journal = (chanGet s ch).journal ∧
      (chanGet t ch).queue = (chanGet s ch).queue ++ responseParts m.seq rcStale (msgSession s ch m) 0 [])) ∧
    (m.senderGen = (chanGet s ch).hostGen → m.receiverGen = s.mbx.fwGen →
      (∀ j, (chanGet s ch).journal.find? (fun x => x.seq = m.seq) = some j → Completes (.fwCommandDispatch ch) s (fun t =>
        (chanGet t ch).toFw = rest ∧ (chanGet t ch).started = (chanGet s ch).started ∧ (chanGet t ch).journal = (chanGet s ch).journal ∧
        (∀ code body, j.opcode = m.opcode → j.crc = requestCrc m.payload → j.done = some (code, body) → (chanGet t ch).queue =
          (chanGet s ch).queue ++ responseParts m.seq code (msgSession s ch m) body.length body) ∧
        ((j.opcode ≠ m.opcode ∨ j.crc ≠ requestCrc m.payload) → (chanGet t ch).queue =
          (chanGet s ch).queue ++ responseParts m.seq rcSeqConflict (msgSession s ch m) 0 []))) ∧
      ((chanGet s ch).journal.find? (fun x => x.seq = m.seq) = none →
        (∀ code, commandCheck s ch (msgSession s ch m) m.opcode m.payload = some code → Completes (.fwCommandDispatch ch) s (fun t =>
          (chanGet t ch).toFw = rest ∧ (∃ j ∈ (chanGet t ch).journal, j.seq = m.seq ∧ j.done = some (code, [])) ∧
          (chanGet t ch).queue = (chanGet s ch).queue ++ responseParts m.seq code (msgSession s ch m) 0 [])) ∧
        (commandCheck s ch (msgSession s ch m) m.opcode m.payload = none → Completes (.fwCommandDispatch ch) s (fun t =>
          (chanGet t ch).toFw = rest ∧ (chanGet t ch).queue = (chanGet s ch).queue ∧
          (chanGet t ch).started = (chanGet s ch).started ++ [⟨m.seq, m.opcode, m.payload, false, msgSession s ch m⟩])))) := by
  have reads := fwCommandDispatch_reads shown serving room idle
  obtain ⟨seen, chan⟩ := fwAck_chan shown
  refine ⟨fun stale => ?_, fun current other => ?_, fun current receiver => ⟨fun j known => ?_, fun new => ⟨fun code fails => ?_, fun passes => ?_⟩⟩⟩
  · rw [if_pos stale] at reads
    refine completes_of reads ?_
    rw [chanGet_bump, chan]
    refine ⟨rfl, rfl, rfl, ?_⟩
    rw [Counted, counter_bump_self, fwAck_counter shown (by decide)]
  · rw [if_neg (not_not.mpr current), if_pos other] at reads
    refine completes_of reads ?_
    rw [queueResponse_chan, chan]
    exact ⟨rfl, rfl, rfl, rfl⟩
  · rw [if_neg (not_not.mpr current), if_neg (not_not.mpr receiver), known] at reads
    dsimp only at reads
    split at reads
    next same =>
      have notOther : ¬ (j.opcode ≠ m.opcode ∨ j.crc ≠ requestCrc m.payload) := by simp [same.1, same.2]
      split at reads
      next code body done =>
        refine completes_of reads ?_
        rw [queueResponse_chan, chan]
        refine ⟨rfl, rfl, rfl, ?_, fun other => absurd other notOther⟩
        rintro _ _ - - again
        rw [done] at again
        cases again; rfl
      next running =>
        refine completes_of reads ?_
        rw [chan]
        refine ⟨rfl, rfl, rfl, ?_, fun other => absurd other notOther⟩
        rintro _ _ - - again
        rw [running] at again
        cases again
    next other =>
      refine completes_of reads ?_
      rw [queueResponse_chan, chan]
      exact ⟨rfl, rfl, rfl, fun _ _ opcode crc => absurd ⟨opcode, crc⟩ other, fun _ => rfl⟩
  · rw [if_neg (not_not.mpr current), if_neg (not_not.mpr receiver), new] at reads
    dsimp only at reads
    rw [fails] at reads
    exact completes_of reads (refuseShown_chan shown _ _)
  · rw [if_neg (not_not.mpr current), if_neg (not_not.mpr receiver), new] at reads
    dsimp only at reads
    rw [passes] at reads
    exact completes_of reads (startShown_chan shown _)

theorem fwCommandDispatch_waits {s : State} {ch : Nat} (waits : (chanGet s ch).toFw = [] ∨ s.mbx.serving = false ∨
    8 ≤ (chanGet s ch).queue.length ∨ (chanGet s ch).started.any (fun x => !x.running) = true) : exec (.fwCommandDispatch ch) s = .next s := by
  show execFwCommandDispatch ch s = _
  unfold execFwCommandDispatch
  dsimp only
  split
  · rfl
  next m rest shown =>
    have busy : (!s.mbx.serving || decide (8 ≤ (chanGet s ch).queue.length) || (chanGet s ch).started.any (fun x => !x.running)) = true := by
      rw [shown] at waits
      rcases waits with none | stopped | full | started
      · cases none
      · simp [stopped]
      · simp [full]
      · simp [started]
    exact if_pos busy

/-! Identity, masks and settings (R550 to R552, R568). -/

/-- A small value that lies within a word's bits reads as written. -/
theorem hwWord_hwSet_small (s : State) {w v : Nat} (fits : v < 2 ^ 32) (kept : v &&& hwMask w = v) :
    hwWord (hwSet s w (BitVec.ofNat 32 v)) w = BitVec.ofNat 32 v := by
  rw [hwWord_hwSet_self, BitVec.toNat_ofNat, Nat.mod_eq_of_lt fits, kept]

theorem eventMaskSet_sets : AnswersOk .eventMaskSet 0x0102 (fun _ _ req => le req 0 4 &&& 0xFFFFF001 = 0) (fun _ _ _ => [])
    (fun s t ch req => (chanGet t ch).mask = BitVec.ofNat 32 (le req 0 4) ∧ AnswerFrame [] s t ch) := by
  refine answersOk_of_command (row := fun s ch seq => (rfl : execEventMaskSet ch seq s = _)) (fun s ch seq req inRange =>
    ⟨chanMod s ch (fun c => { c with mask := BitVec.ofNat 32 (le req 0 4) }), if_neg (not_not.mpr inRange), ?_, ?_, ?_⟩)
  · rw [chanGet_chanMod_self]
  · rw [mask_answer, chanGet_chanMod_self]
  · exact answer_frame_chan _ _ _ _ _ _

theorem eventMaskRead_reads : AnswersOk .eventMaskRead 0x0103 (fun _ _ _ => True)
    (fun s ch _ => toLe 4 (chanGet s ch).mask.toNat ++ toLe 1 (chanGet s ch).evSeq.toNat ++ zeros 3 ++ toLe 4 (chanGet s ch).dropped)
    (fun s t ch _ => (chanGet t ch).dropped = 0 ∧ (chanGet t ch).mask = (chanGet s ch).mask ∧ AnswerFrame [] s t ch) := by
  refine answersOk_of_command (row := fun s ch seq => (rfl : execEventMaskRead ch seq s = _)) (fun s ch seq req _ =>
    ⟨chanMod s ch (fun c => { c with dropped := 0 }), rfl, ?_, ?_, ?_, ?_⟩)
  · rw [chanGet_chanMod_self]
  · rw [dropped_answer, chanGet_chanMod_self]
  · rw [mask_answer, chanGet_chanMod_self]
  · exact answer_frame_chan _ _ _ _ _ _

theorem mgrRoleConfig_sets : AnswersOk .mgrRoleConfig 0x0111 (fun _ _ req => byteAt req 0 ≤ 1 ∧ byteAt req 1 ≤ 1) (fun _ _ _ => [])
    (fun s t ch req => hwWord t 0x003 = BitVec.ofNat 32 (byteAt req 0 + 2 * byteAt req 1) ∧ t.role = s.role ∧ AnswerFrame [.hw] s t ch) := by
  refine answersOk_set (row := fun s ch seq => (rfl : execMgrRoleConfig ch seq s = _)) ?_
  rintro s ch seq req ⟨ep, alt⟩
  refine ⟨hwSet s 0x003 (BitVec.ofNat 32 (byteAt req 0 + 2 * byteAt req 1)), if_neg (by omega), rfl, ?_, ?_, ?_⟩
  · rw [hwWord_answer]
    refine hwWord_hwSet_small s (by omega) ?_
    show _ &&& 2 ^ 2 - 1 = _
    rw [Nat.and_two_pow_sub_one_eq_mod]
    omega
  · rw [answer_role]; rfl
  · exact answer_frame_quiet ch seq rcOk [] (hwSet_changes _ _ _) (by decide) (by decide)

/-- The role has one holder; the rest of the role but its history stays, and the events leave commands alone. -/
theorem setHolder_moves {s : State} {h : Holder} (cause : Nat) (other : s.role.holder ≠ h) : (setHolder s h cause).role.holder = h ∧
    (setHolder s h cause).role.homeEp = s.role.homeEp ∧ (setHolder s h cause).role.headless = s.role.headless ∧
    Told s (setHolder s h cause) := by
  have told : ∀ (r : Role) (b : Bytes), (eventToPf0 (eventToPf0 { s with role := r } 0 0x8110 b) 1 0x8110 b).role = r := fun r b => by
    rw [(eventToPf0_keeps _ _ _ _).same .role, (eventToPf0_keeps _ _ _ _).same .role]
  have quiet : ∀ (r : Role) (b : Bytes), Told s (eventToPf0 (eventToPf0 { s with role := r } 0 0x8110 b) 1 0x8110 b) := fun r b =>
    ((Told.of_parts (s := s) (t := { s with role := r }) rfl rfl rfl).trans (eventToPf0_told _ _ _ _)).trans (eventToPf0_told _ _ _ _)
  unfold setHolder
  rw [if_neg other]
  dsimp only
  rw [told]
  exact ⟨rfl, rfl, rfl, quiet _ _⟩

theorem mgrRoleTransfer_moves : AnswersOk .mgrRoleTransfer 0x0112
    (fun s _ _ => s.role.holder = .home ∧ s.role.altEn = true ∧ (epGet s (1 - s.role.homeEp)).contained = false) (fun _ _ _ => [])
    (fun s t _ _ => t.role.holder = .alternate ∧ t.role.homeEp = s.role.homeEp ∧ t.role.headless = s.role.headless) := by
  refine answersOk_of_command (row := fun s ch seq => (rfl : execMgrRoleTransfer ch seq s = _)) ?_
  rintro s ch seq req ⟨home, alt, up⟩
  obtain ⟨holder, homeEp, headless, quiet⟩ := setHolder_moves (s := s) (h := .alternate) 0 (by rw [home]; decide)
  refine ⟨setHolder s .alternate 0, if_pos ⟨home, alt, by rw [up]; decide⟩, quiet.started ch, ?_⟩
  rw [answer_role]
  exact ⟨holder, homeEp, headless⟩

theorem mgrRoleReclaim_moves : AnswersOk .mgrRoleReclaim 0x0113
    (fun s ch _ => chanSecure ch = true ∧ funcOfChan ch = some (s.role.homeEp, 0) ∧ s.role.holder ≠ .home ∧
      (epGet s s.role.homeEp).contained = false) (fun _ _ _ => [])
    (fun s t _ _ => t.role.holder = .home ∧ t.role.homeEp = s.role.homeEp ∧ t.role.headless = false) := by
  refine answersOk_of_command (row := fun s ch seq => (rfl : execMgrRoleReclaim ch seq s = _)) ?_
  rintro s ch seq req ⟨secure, func, away, up⟩
  obtain ⟨holder, homeEp, -, quiet⟩ := setHolder_moves (s := s) (h := .home) 1 away
  let t := setHolder s .home 1
  refine ⟨noteMode s { t with role := { t.role with headless := false } } 3, if_pos ⟨secure, func, away, by rw [up]; decide⟩, ?_, ?_⟩
  · rw [noteMode_started]; exact quiet.started ch
  · rw [answer_role, (noteMode_keeps _ _ _).same .role]
    exact ⟨holder, homeEp, rfl⟩

/-- Bits of the MCTP word (R609): the bus, an endpoint ID and one flag. -/
theorem mctpWord_kept {bus eid flag : Nat} (hb : bus < 2) (he : eid < 128) (hf : flag < 2) :
    bus + 256 * eid + 65536 * flag &&& 0x00017F01 = bus + 256 * eid + 65536 * flag := by
  interval_cases bus <;> interval_cases flag <;> revert eid <;> decide

theorem mctpConfig_sets : AnswersOk .mctpConfig 0x0150 (fun _ _ req => byteAt req 0 ≤ 1) (fun _ _ _ => [])
    (fun s t ch req => hwWord t 0x004 = BitVec.ofNat 32 (byteAt req 0 + 256 * (byteAt req 1 % 128) + 65536 * (byteAt req 2 % 2)) ∧
      AnswerFrame [.hw, .mctp] s t ch) := by
  refine answersOk_set (row := fun s ch seq => (rfl : execMctpConfig ch seq s = _)) ?_
  intro s ch seq req bus
  let t := hwSet s 0x004 (BitVec.ofNat 32 (byteAt req 0 + 256 * (byteAt req 1 % 128) + 65536 * (byteAt req 2 % 2)))
  refine ⟨{ t with mctp := { t.mctp with restartPending := some (ch, seq) } }, if_neg (by omega), rfl, ?_, ?_⟩
  · rw [hwWord_answer]
    exact hwWord_hwSet_small s (by omega) (mctpWord_kept (by omega) (by omega) (by omega))
  · exact answer_frame_quiet ch seq rcOk [] (.of_patch rfl) (by decide) (by decide)

/-- Settles O20: the dispatch of a shown message, then the commands of identity and the manager role. -/
theorem firmwareRunsCommandsAndTheManagerIsNamed : Obligations.FirmwareRunsCommandsAndTheManagerIsNamed :=
  ⟨⟨fun _ _ _ _ => fwCommandDispatch_takes, fun _ _ => fwCommandDispatch_waits⟩,
    answersOk_query (fun s ch seq => (rfl : execDeviceQuery ch seq s = _)) (fun _ _ _ _ _ => rfl), eventMaskSet_sets, eventMaskRead_reads,
    answersOk_query (fun s ch seq => (rfl : execEcho ch seq s = _)) (fun _ _ _ _ _ => rfl),
    answersOk_query (fun s ch seq => (rfl : execMgrRoleQuery ch seq s = _)) (fun _ _ _ _ _ => rfl), mgrRoleConfig_sets, mgrRoleTransfer_moves,
    mgrRoleReclaim_moves, mctpConfig_sets⟩

end Sys2Proof.Machine
end

section
/-! PROOFS. The mailboxes carry messages (O21). -/

namespace Sys2Proof.Machine

open Sys2Proof

set_option Elab.async false

/-! The host's posts and its buffer (R502, R506, R510). -/

theorem rejectPost_chan (s : State) (ch : Nat) : chanGet (rejectPost s ch) ch = { chanGet s ch with reject := true } := by
  unfold rejectPost
  extract_lets u
  have set : chanGet u ch = { chanGet s ch with reject := true } := chanGet_chanMod_self _ _ _
  rw [← set]
  split
  · rw [chanGet_congr ((aerAdvisory_keeps _ _ _ _).same .mbx)]
    split <;> rw [chanGet_bump]
  · rw [chanGet_bump]

theorem exec_mbxPost {s : State} {ch : Nat} (isOpen : chanOpen s ch = true) (bound : chanUnbound s ch = false) :
    exec (.mbxPost ch) s = .next (hostPost s ch (fit (chanGet s ch).outBuf 256) false) :=
  (if_pos isOpen).trans (if_neg (by simp [bound]))

theorem mbxPost_posts {s : State} {ch : Nat} {b : Bytes} (isOpen : chanOpen s ch = true) (bound : chanUnbound s ch = false)
    (buffer : b = fit (chanGet s ch).outBuf 256) :
    (hostFull (chanGet s ch) = false → byteAt b 2 ≤ 248 → Completes (.mbxPost ch) s (fun t =>
      (chanGet t ch).toFw = (chanGet s ch).toFw ++ [⟨le b 0 2, byteAt b 3, (chanGet s ch).hostGen, s.mbx.fwGen, slice b 8 (byteAt b 2), false⟩] ∧
      (∀ k, k ≠ ch → chanGet t k = chanGet s k) ∧ ChangesOnly [.mbx] s t)) ∧
    (hostFull (chanGet s ch) = false → 248 < byteAt b 2 → Completes (.mbxPost ch) s (fun t => (chanGet t ch).reject = true ∧
      (chanGet t ch).toFw = (chanGet s ch).toFw ∧ Counted s t r_MBX_CNT_BAD_LEN 1)) ∧
    (hostFull (chanGet s ch) = true → Completes (.mbxPost ch) s (fun t => (chanGet t ch).reject = true ∧
      (chanGet t ch).toFw = (chanGet s ch).toFw)) := by
  have reached := exec_mbxPost isOpen bound
  rw [← buffer] at reached
  refine ⟨fun room fits => ?_, fun room long => ?_, fun full => ?_⟩ <;> refine completes_of reached ?_ <;> unfold hostPost <;> dsimp only
  · rw [if_neg (by simp [room]), if_neg (by omega)]
    unfold takePost
    refine ⟨by rw [chanGet_chanSet_self], fun k other => chanGet_chanSet_ne _ _ other, chanSet_changes _ _ _⟩
  · rw [if_neg (by simp [room]), if_pos long, chanGet_bump, chanGet_chanSet_self]
    exact ⟨rfl, rfl, counted_bump _ _⟩
  · rw [if_pos full, rejectPost_chan]
    exact ⟨rfl, rfl⟩

theorem mbxOutboundBufferWrite_stores {s : State} {ch off : Nat} {data : Bytes} (isOpen : chanOpen s ch = true)
    (bound : chanUnbound s ch = false) (fits : off + data.length ≤ 256) :
    (hostFull (chanGet s ch) = false → Completes (.mbxOutboundBufferWrite ch off data) s (fun t =>
      (chanGet t ch).outBuf = splice (fit (chanGet s ch).outBuf 256) off data ∧ (∀ k, k ≠ ch → chanGet t k = chanGet s k) ∧
      ChangesOnly [.mbx] s t)) ∧
    (hostFull (chanGet s ch) = true → Completes (.mbxOutboundBufferWrite ch off data) s (fun t => (chanGet t ch).reject = true ∧
      (chanGet t ch).outBuf = (chanGet s ch).outBuf)) := by
  have reached : exec (.mbxOutboundBufferWrite ch off data) s = _ := (if_pos ⟨isOpen, fits⟩).trans (if_neg (by simp [bound]))
  refine ⟨fun room => ?_, fun full => ?_⟩
  · refine completes_of (reached.trans (if_neg (by simp [room]))) ⟨?_, fun k other => chanGet_chanMod_ne _ _ other, chanMod_changes _ _ _⟩
    rw [chanGet_chanMod_self]
  · refine completes_of (reached.trans (if_pos full)) ?_
    rw [rejectPost_chan]
    exact ⟨rfl, rfl⟩

/-! Showing and acknowledging (R507, R515). -/

theorem funcOfChan_ep {ch ep f : Nat} (h : funcOfChan ch = some (ep, f)) : ep = 0 ∨ ep = 1 := by
  unfold funcOfChan at h
  split_ifs at h <;> simp only [Option.some.injEq, Prod.mk.injEq] at h <;> omega

theorem showToHost_told (s : State) (ch : Nat) : Told s (showToHost s ch) := by
  unfold showToHost
  extract_lets u
  have shown : Told s u := .ite (.of_keeps (bmcShow_keeps s)) (.of_keeps (wakeHost_keeps s ch))
  split
  next ep f named => exact .ite (shown.trans (mgrEvent_told _ _ (funcOfChan_ep named))) shown
  · exact shown

theorem noteCrossing_chan_ne (s : State) {ch k : Nat} (other : k ≠ ch) : chanGet (noteCrossing s ch) k = chanGet s k := by
  unfold noteCrossing
  dsimp only
  split
  · exact chanGet_chanSet_ne _ _ other
  · rfl

/-- The host's acknowledgement, before the MCTP endpoint restarts if a restart waits for it. -/
theorem hostAck_eq {s : State} {ch : Nat} {m : Msg} {rest : List Msg} (shown : (chanGet s ch).toHost = m :: rest) :
    ∃ u, hostAck s ch = mctpDelivered (noteCrossing u ch) ch m ∧ u.mctp = s.mctp ∧
      chanGet u ch = { chanGet s ch with toHost := rest, acked := (chanGet s ch).acked || decide (m.senderGen = s.mbx.fwGen) } ∧
      (∀ k, k ≠ ch → chanGet u k = chanGet s k) ∧ (m.senderGen ≠ s.mbx.fwGen → Counted s u r_MBX_CNT_STALE_ACK 1) := by
  unfold hostAck
  dsimp only
  rw [shown]
  dsimp only
  generalize taken : chanSet s ch _ = v
  have gen : v.mbx.fwGen = s.mbx.fwGen := by rw [← taken]; rfl
  have self : chanGet v ch = { chanGet s ch with toHost := rest, acked := (chanGet s ch).acked || decide (m.senderGen = s.mbx.fwGen) } := by
    rw [← taken]; exact chanGet_chanSet_self _ _ _
  have ne : ∀ k, k ≠ ch → chanGet v k = chanGet s k := fun k other => by rw [← taken]; exact chanGet_chanSet_ne _ _ other
  have regs : v.regs = s.regs := by rw [← taken]; rfl
  have mctp : v.mctp = s.mctp := by rw [← taken]; rfl
  clear taken
  rw [gen]
  generalize pended : (if m.senderGen = s.mbx.fwGen then evPend v ch else bump v r_MBX_CNT_STALE_ACK) = w
  have marked : Keeps [.regs] v w := by rw [← pended]; exact .ite (evPend_keeps _ _) (bump_keeps _ _)
  have count : m.senderGen ≠ s.mbx.fwGen → Counted s w r_MBX_CNT_STALE_ACK 1 := fun stale => by
    rw [← pended, if_neg stale, Counted, counter_bump_self, counter_congr regs]
  clear pended
  generalize seen : (if rest.isEmpty = true then w else showToHost w ch) = x
  have told : Keeps [.ep0, .ep1, .regs, .out] w x := by rw [← seen]; exact .ite .refl (showToHost_keeps _ _)
  have quiet : Told w x := by rw [← seen]; exact .ite (.refl _) (showToHost_told _ _)
  refine ⟨x, rfl, ?_, ?_, ?_, ?_⟩
  · rw [told.same .mctp, marked.same .mctp, mctp]
  · rw [chanGet_congr (told.same .mbx), chanGet_congr (marked.same .mbx), self]
  · intro k other
    rw [chanGet_congr (told.same .mbx), chanGet_congr (marked.same .mbx), ne k other]
  · intro stale
    rw [Counted, quiet.counter (by unfold EventReg; decide)]
    exact count stale

theorem mctpDelivered_settled {s : State} (ch : Nat) (m : Msg) (settled : s.mctp.restartPending = none) : mctpDelivered s ch m = s :=
  if_neg (by rw [settled]; exact fun h => nomatch h.1)

theorem mbxAck_acknowledges {s : State} {ch : Nat} {m : Msg} {rest : List Msg} (isOpen : chanOpen s ch = true) (bound : chanUnbound s ch = false)
    (shown : (chanGet s ch).toHost = m :: rest) (settled : s.mctp.restartPending = none) :
    Completes (.mbxAck ch) s (fun t => (chanGet t ch).toHost = rest ∧ (m.senderGen = s.mbx.fwGen → (chanGet t ch).acked = true) ∧
      (m.senderGen ≠ s.mbx.fwGen → Counted s t r_MBX_CNT_STALE_ACK 1) ∧ ∀ k, k ≠ ch → chanGet t k = chanGet s k) := by
  have reached : exec (.mbxAck ch) s = .next (hostAck s ch) := (if_neg (by simp [isOpen])).trans (if_neg (by simp [bound]))
  obtain ⟨u, acked, mctp, chan, others, count⟩ := hostAck_eq shown
  rw [mctpDelivered_settled _ _ (by rw [(noteCrossing_keeps u ch).same .mctp, mctp, settled])] at acked
  obtain ⟨flag, crossing⟩ := noteCrossing_chan u ch
  refine completes_of reached ?_
  rw [acked, crossing, chan]
  refine ⟨rfl, fun current => ?_, fun stale => ?_, fun k other => ?_⟩
  · rw [decide_eq_true current, Bool.or_true]
  · rw [Counted, counter_congr ((noteCrossing_keeps u ch).same .regs)]
    exact count stale
  · rw [noteCrossing_chan_ne u other, others k other]

theorem mbxFwPost_posts {s : State} {ch : Nat} {m : OutMsg} {rest : List OutMsg} (serving : s.mbx.serving = true)
    (queued : (chanGet s ch).queue = m :: rest) (room : fwFull s (chanGet s ch) = false) : Completes (.mbxFwPost ch) s (fun t =>
    (chanGet t ch).toHost = (chanGet s ch).toHost ++ [⟨m.opcode, m.seq, s.mbx.fwGen, (chanGet s ch).hostGen, m.payload, m.session⟩] ∧
    (chanGet t ch).queue = rest ∧ ∀ k, k ≠ ch → chanGet t k = chanGet s k) := by
  let u := chanSet s ch { chanGet s ch with queue := rest }
  have reached : exec (.mbxFwPost ch) s = .next (fwPostMsg u ch m.opcode m.seq m.payload m.session) := by
    show execMbxFwPost ch s = _
    unfold execMbxFwPost
    dsimp only
    rw [queued]
    exact if_pos (by simp [serving, room])
  have self : chanGet u ch = { chanGet s ch with queue := rest } := chanGet_chanSet_self _ _ _
  refine completes_of reached ?_
  unfold fwPostMsg
  dsimp only
  generalize posted : chanSet u ch _ = v
  have after : chanGet v ch = { chanGet u ch with
      toHost := (chanGet u ch).toHost ++ [⟨m.opcode, m.seq, u.mbx.fwGen, (chanGet u ch).hostGen, m.payload, m.session⟩] } := by
    rw [← posted]; exact chanGet_chanSet_self _ _ _
  have ne : ∀ k, k ≠ ch → chanGet v k = chanGet s k := fun k other => by
    rw [← posted, chanGet_chanSet_ne _ _ other]; exact chanGet_chanSet_ne _ _ other
  have shown : ∀ (b : Prop) [Decidable b] k, chanGet (if b then showToHost v ch else v) k = chanGet v k := fun _ _ k => by
    split
    · exact chanGet_congr ((showToHost_keeps _ _).same .mbx) k
    · rfl
  rw [shown, after, self]
  exact ⟨rfl, rfl, fun k other => by rw [shown, ne k other]⟩

theorem mbxFwAck_acknowledges {s : State} {ch : Nat} {m : Msg} {rest : List Msg} (shown : (chanGet s ch).toFw = m :: rest) :
    Completes (.mbxFwAck ch) s (fun t => (chanGet t ch).toFw = rest ∧
      (m.senderGen ≠ (chanGet s ch).hostGen → Counted s t r_MBX_CNT_STALE_ACK 1) ∧ ∀ k, k ≠ ch → chanGet t k = chanGet s k) := by
  obtain ⟨u, acked, chan, -, others, count⟩ := fwAck_eq shown
  obtain ⟨flag, crossing⟩ := noteCrossing_chan u ch
  refine completes_of (c := .mbxFwAck ch) (t := fwAck s ch) rfl ?_
  rw [acked, crossing, chan]
  refine ⟨rfl, fun stale => ?_, fun k other => ?_⟩
  · rw [Counted, counter_congr ((noteCrossing_keeps u ch).same .regs)]
    exact count stale
  · rw [noteCrossing_chan_ne u other, others k other]

/-! A crossing is told to both sides once (R519). -/

theorem mbxCrossing_tells {s : State} {ch : Nat} (named : ch ≤ 2056) (crosses : crossed (chanGet s ch) = true)
    (new : (chanGet s ch).crossSeen = false) : Completes (.mbxCrossing ch) s (fun t =>
    (chanGet t ch).crossSeen = true ∧ (chanGet t ch).crossHost = true ∧ (chanGet t ch).crossFw = true ∧
    Counted s t r_MBX_CNT_CROSSING 1) := by
  let u := chanSet s ch { chanGet s ch with crossSeen := true, crossHost := true, crossFw := true }
  let v := wakeHost (evPend u ch) ch
  let w := bump v r_MBX_CNT_CROSSING
  let func := match funcOfChan ch with
    | some (ep, f) => errFunc ep f
    | none => 0xFFFF
  have reached : exec (.mbxCrossing ch) s = .next (errlog w 0x0130 11 func 0 (toLe 2 ch)) := if_pos (by simp [crosses, new])
  have told := errlog_told w 0x0130 11 func 0 (toLe 2 ch)
  obtain ⟨_, _, _, chan⟩ := told.chan ch
  have self : chanGet w ch = { chanGet s ch with crossSeen := true, crossHost := true, crossFw := true } := by
    rw [chanGet_bump, chanGet_congr ((wakeHost_keeps _ _).same .mbx), chanGet_congr ((evPend_keeps _ _).same .mbx)]
    exact chanGet_chanSet_self _ _ _
  refine completes_of reached ?_
  rw [chan, self]
  refine ⟨rfl, rfl, rfl, ?_⟩
  have pend : counter v r_MBX_CNT_CROSSING = counter s r_MBX_CNT_CROSSING := by
    rw [counter_congr ((wakeHost_keeps _ _).same .regs)]
    have apart : r_MBX_CNT_CROSSING ≠ r_MBX_FW_EV_PEND (ch / 32) := by
      unfold r_MBX_CNT_CROSSING r_MBX_FW_EV_PEND; omega
    exact mapGetD_mapSet_ne _ _ _ apart
  rw [Counted, told.counter (by unfold EventReg; decide), counter_bump_self, pend]

theorem mbxCrossing_quiet {s : State} {ch : Nat} (quiet : (crossed (chanGet s ch) && !(chanGet s ch).crossSeen) = false) :
    exec (.mbxCrossing ch) s = .next s := if_neg (by rw [quiet]; decide)

/-- Settles O21, command by command. -/
theorem mailboxesCarryMessagesInOrder : Obligations.MailboxesCarryMessagesInOrder :=
  ⟨fun _ _ _ => mbxPost_posts, fun _ _ _ _ => mbxOutboundBufferWrite_stores, fun _ _ _ _ => mbxAck_acknowledges,
    fun _ _ _ _ => mbxFwPost_posts, fun _ _ _ _ => mbxFwAck_acknowledges, fun _ _ => mbxCrossing_tells, fun _ _ => mbxCrossing_quiet⟩

end Sys2Proof.Machine
end

section
/-! PROOFS. MCTP packets, sessions and messages of the BMC (O22). -/

namespace Sys2Proof.Machine

open Sys2Proof

set_option Elab.async false

/-! The oldest message, and what is sent. -/

/-- A command whose row takes the oldest message when that is of its kind. -/
theorem exec_takeMsg {c : Instr} {s : State} {src : Nat} {via : Option Nat} {b : Bytes} {rest : List (Nat × Option Nat × Bytes)}
    {kind : Bytes → Bool} {f : State → Option Nat → Bytes → State} (row : exec c s = takeMsg s kind f)
    (oldest : s.mctp.inbox = (src, via, b) :: rest) (handles : kind b = true) :
    exec c s = .next (f { s with mctp := { s.mctp with inbox := rest } } via b) := by
  rw [row]
  unfold takeMsg
  rw [oldest]
  exact if_pos handles

theorem Emits.of_same {s t u : State} {os : List Output} (h : Emits t u os) (k : t.out = s.out) : Emits s u os := by
  rw [Emits, h, k]

/-- Showing a message to the BMC only sends. -/
theorem bmcShow_emits (s : State) : ∃ os, Emits s (bmcShow s) os := by
  unfold bmcShow
  split
  · exact ⟨_, emit_emits _ rfl⟩
  · exact ⟨[], (List.append_nil _).symm⟩

/-- The host's generation increases (R503, R504): the journal is cleared, and messages of firmware stay. -/
theorem bumpHostGen_raises (s : State) (ch : Nat) : (chanGet (bumpHostGen s ch) ch).hostGen = (chanGet s ch).hostGen + 1 ∧
    (chanGet (bumpHostGen s ch) ch).journal = [] ∧ (chanGet (bumpHostGen s ch) ch).toHost = (chanGet s ch).toHost ∧
    (chanGet (bumpHostGen s ch) ch).acked = (chanGet s ch).acked ∧ ∃ os, Emits s (bumpHostGen s ch) os := by
  unfold bumpHostGen
  extract_lets c toFw u v
  obtain ⟨seen, crossing⟩ := noteCrossing_chan (chanSet u ch { c with
    hostGen := c.hostGen + 1, toFw := toFw, journal := [], mask := defaultMask ch, evSeq := 0 }) ch
  have raised : chanGet v ch = { c with
      hostGen := c.hostGen + 1, toFw := toFw, journal := [], mask := defaultMask ch, evSeq := 0, crossSeen := seen } := by
    rw [crossing, chanGet_chanSet_self]
  have out : v.out = s.out := by
    rw [(noteCrossing_keeps _ _).same .out]
    exact Keeps.same (.ite (.mono (bumpBy_keeps s _ _)) .refl) .out (ps := [.regs])
  have shown : chanGet (if ch = 2056 then bmcShow v else v) ch = chanGet v ch := by
    split
    · exact chanGet_congr ((bmcShow_keeps v).same .mbx) ch
    · rfl
  have sent : ∃ os, Emits s (if ch = 2056 then bmcShow v else v) os := by
    split
    · obtain ⟨os, h⟩ := bmcShow_emits v
      exact ⟨os, h.of_same out⟩
    · exact ⟨[], by rw [Emits, out, List.append_nil]⟩
  rw [shown, raised]
  exact ⟨rfl, rfl, rfl, rfl, sent⟩

/-! Packets (R563, R569). -/

theorem mctpPacketRx_assembles {s : State} {src tag : Nat} {som eom : Bool} {n : Nat} {bad : Bool} {body : Bytes} (on : mctpOn s = true) :
    ((bad = true ∨ 64 < body.length ∨ body = []) → exec (.mctpPacketRx src tag som eom n bad body) s =
      .next { s with mctp := { s.mctp with badPackets := s.mctp.badPackets + 1 } }) ∧
    (bad = false → body.length ≤ 64 → body ≠ [] →
      (som = true → eom = true → s.mctp.assembly = none → carried s body = true → exec (.mctpPacketRx src tag som eom n bad body) s =
        .next { s with mctp := { s.mctp with inbox := s.mctp.inbox ++ [(src, none, body)] } }) ∧
      (som = true → eom = false → s.mctp.assembly = none → exec (.mctpPacketRx src tag som eom n bad body) s =
        .next { s with mctp := { s.mctp with assembly := some (src, tag, body), nextSeq := (n + 1) % 4 } }) ∧
      (∀ b, som = false → s.mctp.assembly = some (src, tag, b) → s.mctp.nextSeq = n % 4 →
        (eom = true → carried s (b ++ body) = true → exec (.mctpPacketRx src tag som eom n bad body) s =
          .next { s with mctp := { s.mctp with assembly := none, inbox := s.mctp.inbox ++ [(src, none, b ++ body)] } }) ∧
        (eom = false → exec (.mctpPacketRx src tag som eom n bad body) s =
          .next { s with mctp := { s.mctp with assembly := some (src, tag, b ++ body), nextSeq := (n + 1) % 4 } })) ∧
      (som = false → (∀ b, s.mctp.assembly ≠ some (src, tag, b) ∨ s.mctp.nextSeq ≠ n % 4) → exec (.mctpPacketRx src tag som eom n bad body) s =
        .next { s with mctp := { s.mctp with assembly := none, badMessages := s.mctp.badMessages + 1 } })) := by
  have takes : ∀ (u : State) b, carried u b = true →
      mctpTake u src none b = { u with mctp := { u.mctp with inbox := u.mctp.inbox ++ [(src, none, b)] } } := fun u b h => if_pos h
  have row : exec (.mctpPacketRx src tag som eom n bad body) s = execMctpPacketRx src tag som eom n bad body s := rfl
  rw [row]
  unfold execMctpPacketRx
  rw [if_neg (not_not.mpr on)]
  refine ⟨fun broken => if_pos broken, fun whole short some => ?_⟩
  rw [if_neg (by rintro (h | h | h); exacts [by simp [whole] at h, by omega, some h])]
  refine ⟨?_, ?_, ?_, ?_⟩
  · rintro rfl rfl fresh carries
    rw [if_neg (by simp [fresh])]
    have same : ({ s with mctp := { s.mctp with assembly := none } } : State) = s := by rw [← fresh]
    show Host.Outcome.next (mctpTake { s with mctp := { s.mctp with assembly := none } } src none body) = _
    rw [same, takes s body carries]
  · rintro rfl rfl fresh
    rw [if_neg (by simp [fresh])]; rfl
  · rintro b rfl assembling next
    rw [if_neg (show ¬ (false && s.mctp.assembly.isSome) = true by simp)]
    dsimp only
    rw [if_neg (show ¬ (false = true) by simp)]
    rw [assembling]
    dsimp only
    rw [if_pos ⟨rfl, rfl, next⟩]
    refine ⟨?_, ?_⟩
    · rintro rfl carries
      exact congrArg Host.Outcome.next (takes { s with mctp := { s.mctp with assembly := none } } (b ++ body) carries)
    · rintro rfl; rfl
  · rintro rfl other
    rw [if_neg (show ¬ (false && s.mctp.assembly.isSome) = true by simp)]
    dsimp only
    rw [if_neg (show ¬ (false = true) by simp)]
    cases assembling : s.mctp.assembly with
    | none => rfl
    | some x =>
      obtain ⟨a, t, b⟩ := x
      dsimp only
      rw [if_neg]
      · rfl
      · rintro ⟨rfl, rfl, next⟩
        exact (other b).elim (fun h => h assembling) (fun h => h next)

theorem mctpAssemblyTimeout_discards {s : State} (assembling : s.mctp.assembly.isSome = true) : exec .mctpAssemblyTimeout s =
    .next { s with mctp := { s.mctp with assembly := none, badMessages := s.mctp.badMessages + 1 } } := if_pos assembling

/-! Vendor messages (R565, R566, R569). -/

theorem byteAt_drop (b : Bytes) (k i : Nat) : byteAt (b.drop k) i = byteAt b (k + i) := by
  unfold byteAt; simp [List.getD_eq_getElem?_getD]

theorem le_drop (b : Bytes) (k off n : Nat) : le (b.drop k) off n = le b (k + off) n := by
  unfold le slice; rw [List.drop_drop]

/-- A message written into the error log leaves its code's window. -/
theorem errlogGen_windows (s : State) (code island func : Nat) (gen : BitVec 16) (addr : Nat) (data : Bytes) :
    ∃ w ∈ (errlogGen s code island func gen addr data).gauge.windows, w.code = code := by
  have traced : ∀ (s : State) source kind flags slice sample (data : Bytes),
      (trace s source kind flags slice sample data).gauge.windows = s.gauge.windows := by
    intro s source kind flags slice sample data
    unfold trace
    dsimp only
    split
    · split <;> rfl
    · rfl
  have queued : ∀ (s : State) ch code payload, (queueEvent s ch code payload).gauge.windows = s.gauge.windows := by
    intro s ch code payload
    unfold queueEvent
    dsimp only
    split
    · split
      · rfl
      · rw [traced]; rfl
    · rfl
  have pf0 : ∀ (s : State) ep code payload, (eventToPf0 s ep code payload).gauge.windows = s.gauge.windows := by
    intro s ep code payload
    unfold eventToPf0
    split
    · exact queued _ _ _ _
    · rfl
  have manager : ∀ (s : State) code payload, (eventToManager s code payload).gauge.windows = s.gauge.windows := by
    intro s code payload
    unfold eventToManager
    dsimp only
    rw [queued]
    split
    · exact pf0 _ _ _ _
    · rfl
  have written : ∀ (s : State) e, (errWrite s e).gauge.windows = s.gauge.windows := by
    intro s e
    unfold errWrite errNotice
    dsimp only
    have put : (errSum (errLost (errPut s { e with seq := s.gauge.nextSeq }) (errFull s)) { e with seq := s.gauge.nextSeq }).gauge.windows =
        s.gauge.windows := by
      rw [(errSum_keeps _ _).same .gauge, (errLost_keeps _ _).same .gauge]; rfl
    split
    · rw [manager, (mgrEventBoth_keeps _ _).same .gauge, put]
    · exact put
  unfold errlogGen
  dsimp only
  cases known : s.gauge.windows.find? (fun w => w.code = code) with
  | none => exact ⟨⟨code, 1, 0, none⟩, by rw [written]; simp, rfl⟩
  | some w =>
    have named : w.code = code := by simpa using List.find?_some known
    have member := List.mem_of_find?_eq_some known
    dsimp only
    have renewed : ∀ w' : ErrWindow, w'.code = code → ∃ x ∈ s.gauge.windows.map (fun x => if x.code = code then w' else x), x.code = code :=
      fun w' h => ⟨w', List.mem_map.mpr ⟨w, member, if_pos named⟩, h⟩
    split
    · rw [written]; exact renewed _ named
    · rw [(bump_keeps _ _).same .gauge]; exact renewed _ named

theorem vdmMessage_malformed {s : State} {src : Nat} {via : Option Nat} {b : Bytes} {rest : List (Nat × Option Nat × Bytes)}
    (oldest : s.mctp.inbox = (src, via, b) :: rest) (vendor : byteAt b 0 = 0x7E) (bad : vdmGood b = false) :
    Completes .vdmMessage s (fun t => t.mctp = { s.mctp with inbox := rest } ∧ (chanGet t 2056).toFw = (chanGet s 2056).toFw ∧
      ∃ w ∈ t.gauge.windows, w.code = 0x0131) := by
  let u : State := { s with mctp := { s.mctp with inbox := rest } }
  have reached : exec .vdmMessage s = .next (errlog u 0x0131 11 0xFFFF 0 (fit (b.drop 1) 8)) :=
    (exec_takeMsg (c := .vdmMessage) (rfl : execVdmMessage s = _) oldest (by simp [vendor, bad])).trans (congrArg _ (if_pos (by simp [bad])))
  refine completes_of reached ⟨?_, ?_, errlogGen_windows _ _ _ _ _ _ _⟩
  · rw [(errlog_keeps _ _ _ _ _ _).same .mctp]
  · obtain ⟨_, _, _, chan⟩ := (errlog_told u 0x0131 11 0xFFFF 0 (fit (b.drop 1) 8)).chan 2056
    rw [chan]; rfl

/-- A well-formed POST is posted; a REJECT answers one that is not taken. -/
theorem exec_vdmMessage_post {s : State} {src : Nat} {via : Option Nat} {b : Bytes} {rest : List (Nat × Option Nat × Bytes)}
    (oldest : s.mctp.inbox = (src, via, b) :: rest) (vendor : byteAt b 0 = 0x7E) (good : vdmGood b = true) (post : byteAt b 3 = 0) :
    exec .vdmMessage s = .next (
      let u : State := { s with mctp := { s.mctp with inbox := rest } }
      let v := hostPost u 2056 (b.drop 5) via.isSome
      if hostFull (chanGet s 2056) ∨ 248 < byteAt b 7 then emit v (mctpWire via.isSome 0x7E [0x1F, 0x7C, 2, 0])
      else { v with mctp := { v.mctp with inSession := via.isSome } }) :=
  (exec_takeMsg (c := .vdmMessage) (rfl : execVdmMessage s = _) oldest (by simp [vendor, post])).trans (congrArg _ (if_neg (not_not.mpr good)))

theorem vdmMessage_posts {s : State} {src : Nat} {via : Option Nat} {b : Bytes} {rest : List (Nat × Option Nat × Bytes)}
    (oldest : s.mctp.inbox = (src, via, b) :: rest) (vendor : byteAt b 0 = 0x7E) (good : vdmGood b = true) (post : byteAt b 3 = 0)
    (room : hostFull (chanGet s 2056) = false) (fits : byteAt b 7 ≤ 248) : Completes .vdmMessage s (fun t =>
      t.mctp.inbox = rest ∧ t.out = s.out ∧ ∃ m, (chanGet t 2056).toFw = (chanGet s 2056).toFw ++ [m] ∧ m.opcode = le b 5 2 ∧
        m.seq = byteAt b 8 ∧ m.payload = slice (b.drop 5) 8 (byteAt b 7) ∧ m.senderGen = (chanGet s 2056).hostGen ∧
        m.receiverGen = s.mbx.fwGen) := by
  let u : State := { s with mctp := { s.mctp with inbox := rest } }
  have length : byteAt (b.drop 5) 2 = byteAt b 7 := byteAt_drop b 5 2
  have posted : hostPost u 2056 (b.drop 5) via.isSome = takePost u 2056 (b.drop 5) via.isSome := by
    unfold hostPost
    dsimp only
    rw [length]
    exact (if_neg (by show ¬ hostFull (chanGet s 2056) = true; simp [room])).trans (if_neg (by omega))
  have reached := exec_vdmMessage_post oldest vendor good post
  dsimp only at reached
  rw [if_neg (by simp [room]; omega)] at reached
  refine completes_of reached ?_
  rw [posted]
  refine ⟨rfl, rfl, _, congrArg MbxChan.toFw (chanGet_chanSet_self _ _ _), le_drop b 5 0 2, byteAt_drop b 5 3, ?_, rfl, rfl⟩
  rw [length]

theorem vdmMessage_rejects {s : State} {src : Nat} {via : Option Nat} {b : Bytes} {rest : List (Nat × Option Nat × Bytes)}
    (oldest : s.mctp.inbox = (src, via, b) :: rest) (vendor : byteAt b 0 = 0x7E) (good : vdmGood b = true) (post : byteAt b 3 = 0)
    (full : hostFull (chanGet s 2056) = true) : Completes .vdmMessage s (fun t =>
      (chanGet t 2056).toFw = (chanGet s 2056).toFw ∧ Emits s t [mctpWire via.isSome 0x7E [0x1F, 0x7C, 2, 0]]) := by
  let u : State := { s with mctp := { s.mctp with inbox := rest } }
  have refused : hostPost u 2056 (b.drop 5) via.isSome = rejectPost u 2056 := if_pos full
  have reached := exec_vdmMessage_post oldest vendor good post
  dsimp only at reached
  rw [if_pos (.inl full)] at reached
  refine completes_of reached ?_
  rw [refused]
  refine ⟨?_, emit_emits _ ((rejectPost_keeps u 2056).same .out)⟩
  show (chanGet (rejectPost u 2056) 2056).toFw = _
  rw [rejectPost_chan]; rfl

theorem vdmAck_acknowledges {s : State} {src : Nat} {via : Option Nat} {b : Bytes} {rest : List (Nat × Option Nat × Bytes)} {m : Msg} {l : List Msg}
    (oldest : s.mctp.inbox = (src, via, b) :: rest) (vendor : byteAt b 0 = 0x7E) (good : vdmGood b = true) (ack : byteAt b 3 = 1)
    (shown : (chanGet s 2056).toHost = m :: l) : Completes .vdmAck s (fun t => (chanGet t 2056).toHost = l ∧
      (m.senderGen = s.mbx.fwGen → (chanGet t 2056).acked = true)) := by
  let u : State := { s with mctp := { s.mctp with inbox := rest } }
  have reached : exec .vdmAck s = .next (hostAck u 2056) := exec_takeMsg (c := .vdmAck) (rfl : execVdmAck s = _) oldest (by unfold vdmKind; simp [vendor, ack, good])
  obtain ⟨v, acked, -, chan, -, -⟩ := hostAck_eq (s := u) (ch := 2056) shown
  obtain ⟨flag, crossing⟩ := noteCrossing_chan v 2056
  have delivered : ∀ w : State, (chanGet (mctpDelivered w 2056 m) 2056).toHost = (chanGet w 2056).toHost ∧
      (chanGet (mctpDelivered w 2056 m) 2056).acked = (chanGet w 2056).acked := by
    intro w
    unfold mctpDelivered
    split
    · obtain ⟨-, -, toHost, acked, -⟩ := bumpHostGen_raises (mctpStart w) 2056
      exact ⟨toHost, acked⟩
    · exact ⟨rfl, rfl⟩
  refine completes_of reached ?_
  rw [acked, (delivered _).1, (delivered _).2, crossing, chan]
  refine ⟨rfl, fun current => ?_⟩
  show ((chanGet u 2056).acked || decide (m.senderGen = s.mbx.fwGen)) = true
  rw [decide_eq_true current, Bool.or_true]

theorem reopen_raises {s : State} {src : Nat} {via : Option Nat} {b : Bytes} {rest : List (Nat × Option Nat × Bytes)}
    (oldest : s.mctp.inbox = (src, via, b) :: rest) (vendor : byteAt b 0 = 0x7E) (good : vdmGood b = true) (opens : byteAt b 3 = 3) :
    Completes .reopen s (fun t => (chanGet t 2056).hostGen = (chanGet s 2056).hostGen + 1 ∧ (chanGet t 2056).journal = [] ∧
      (chanGet t 2056).toHost = (chanGet s 2056).toHost ∧ t.mctp.inbox = rest) := by
  let u : State := { s with mctp := { s.mctp with inbox := rest } }
  have reached : exec .reopen s = .next (bumpHostGen u 2056) := exec_takeMsg (c := .reopen) (rfl : execReopen s = _) oldest (by unfold vdmKind; simp [vendor, opens, good])
  obtain ⟨gen, journal, toHost, -, -⟩ := bumpHostGen_raises u 2056
  exact completes_of reached ⟨gen, journal, toHost, by rw [(bumpHostGen_keeps u 2056).same .mctp]⟩

/-! Secured messages and SPDM (R423, R566, R567, R569, R602). -/

theorem securedMessage_opens {s : State} {src : Nat} {via : Option Nat} {b plain : Bytes} {rest : List (Nat × Option Nat × Bytes)}
    (oldest : s.mctp.inbox = (src, via, b) :: rest) (secured : byteAt b 0 = 6) (session : le b 1 4 ∈ s.mctp.sessions)
    (carries : carried s plain = true) (once : byteAt plain 0 ≠ 6) : Completes (.securedMessage true plain) s (fun t =>
      t.mctp = { s.mctp with inbox := (0, some (le b 1 4), plain) :: rest } ∧ ChangesOnly [.mctp] s t) := by
  have reached : exec (.securedMessage true plain) s =
      .next { s with mctp := { s.mctp with inbox := (0, some (le b 1 4), plain) :: rest } } :=
    (exec_takeMsg (c := .securedMessage true plain) (rfl : execSecuredMessage true plain s = _) oldest (by simp [secured])).trans
      (congrArg Host.Outcome.next ((if_pos ⟨rfl, .inl session⟩).trans (if_pos ⟨carries, once⟩)))
  exact completes_of reached ⟨rfl, .of_patch rfl⟩

theorem sessionEnd_ends {s : State} {sid : Nat} (session : sid ∈ s.mctp.sessions) :
    (sessionEnd s sid).mctp.sessions = s.mctp.sessions.filter (fun x => x ≠ sid) ∧ (sessionEnd s sid).mctp.inbox = s.mctp.inbox ∧
      (chanGet (sessionEnd s sid) 2056).hostGen = (chanGet s 2056).hostGen + 1 ∧ ∃ os, Emits s (sessionEnd s sid) os := by
  unfold sessionEnd
  dsimp only
  rw [if_pos session]
  have raised : ∀ u : State, u.mbx = s.mbx → u.out = s.out → (chanGet (bumpHostGen u 2056) 2056).hostGen = (chanGet s 2056).hostGen + 1 ∧
      (bumpHostGen u 2056).mctp = u.mctp ∧ ∃ os, Emits s (bumpHostGen u 2056) os := by
    intro u mbx out
    obtain ⟨gen, -, -, -, os, sent⟩ := bumpHostGen_raises u 2056
    exact ⟨by rw [gen, chanGet_congr mbx], (bumpHostGen_keeps u 2056).same .mctp, os, sent.of_same out⟩
  obtain ⟨gen, mctp, sent⟩ := raised { s with mctp := { s.mctp with
    sessions := s.mctp.sessions.filter (fun x => x ≠ sid), handshakes := s.mctp.handshakes.filter (fun x => x ≠ sid),
    inSession := s.mctp.inSession && !(s.mctp.sessions.filter (fun x => x ≠ sid)).isEmpty } } rfl rfl
  exact ⟨by rw [mctp], by rw [mctp], gen, sent⟩

theorem securedMessage_ends {s : State} {src : Nat} {via : Option Nat} {b : Bytes} (plain : Bytes) {rest : List (Nat × Option Nat × Bytes)}
    (oldest : s.mctp.inbox = (src, via, b) :: rest) (secured : byteAt b 0 = 6) (session : le b 1 4 ∈ s.mctp.sessions) :
    Completes (.securedMessage false plain) s (fun t => t.mctp.sessions = s.mctp.sessions.filter (fun x => x ≠ le b 1 4) ∧
      t.mctp.inbox = rest ∧ (chanGet t 2056).hostGen = (chanGet s 2056).hostGen + 1) := by
  let u : State := { s with mctp := { s.mctp with inbox := rest } }
  let v := sessionEnd u (le b 1 4)
  have reached : exec (.securedMessage false plain) s = .next (errlog v 0x0132 11 0xFFFF 0 (toLe 4 (le b 1 4))) :=
    (exec_takeMsg (c := .securedMessage false plain) (rfl : execSecuredMessage false plain s = _) oldest (by simp [secured])).trans (congrArg Host.Outcome.next (if_neg (by simp)))
  obtain ⟨sessions, inbox, gen, -⟩ := sessionEnd_ends (s := u) session
  obtain ⟨_, _, _, chan⟩ := (errlog_told v 0x0132 11 0xFFFF 0 (toLe 4 (le b 1 4))).chan 2056
  refine completes_of reached ?_
  rw [(errlog_keeps _ _ _ _ _ _).same .mctp, chan]
  exact ⟨sessions, inbox, gen⟩

theorem spdmRequest_doe {s : State} {ep : Nat} (req : Bytes) (configured : cfgOpen s ep 0 = true) (running : hostOpen s = true) :
    Completes (.spdmRequest (some ep) req) s (fun t => Emits s t [.doe ep (Config.spdmResponse req s.fresh)] ∧
      ChangesOnly [.out, .fresh] s t) := by
  have reached : exec (.spdmRequest (some ep) req) s = .next (emit (drawn s) (.doe ep (Config.spdmResponse req s.fresh))) :=
    if_pos (by simp [configured, running])
  exact completes_of reached ⟨emit_emits _ rfl, ((drawn_changes s).mono (by decide)).step ((emit_changes _ _).mono (by decide))⟩

theorem spdmSessions_emits (s : State) (via : Option Nat) (req resp : Bytes) :
    (spdmSessions s via req resp).mctp.inbox = s.mctp.inbox ∧ ∃ os, Emits s (spdmSessions s via req resp) os := by
  have quiet : ∀ t : State, t.mctp.inbox = s.mctp.inbox → t.out = s.out → t.mctp.inbox = s.mctp.inbox ∧ ∃ os, Emits s t os :=
    fun t inbox out => ⟨inbox, [], by rw [Emits, out, List.append_nil]⟩
  unfold spdmSessions
  cases via with
  | none =>
    dsimp only
    split_ifs <;> exact quiet _ rfl rfl
  | some sid =>
    dsimp only
    rw [if_neg (by simp)]
    split_ifs
    · exact quiet _ rfl rfl
    · by_cases session : sid ∈ s.mctp.sessions
      · obtain ⟨-, inbox, -, sent⟩ := sessionEnd_ends session
        exact ⟨inbox, sent⟩
      · unfold sessionEnd
        dsimp only
        rw [if_neg session]
        exact quiet _ rfl rfl
    · exact quiet _ rfl rfl

theorem spdmRequest_mctp {s : State} {src : Nat} {via : Option Nat} {b : Bytes} {rest : List (Nat × Option Nat × Bytes)}
    (oldest : s.mctp.inbox = (src, via, b) :: rest) (spdm : byteAt b 0 = 5) : Completes (.spdmRequest none []) s (fun t =>
    t.mctp.inbox = rest ∧ ∃ os, Emits s t (mctpWire via.isSome 5 (Config.spdmResponse (b.drop 1) s.fresh) :: os)) := by
  let u : State := { s with mctp := { s.mctp with inbox := rest } }
  let resp := Config.spdmResponse (b.drop 1) s.fresh
  let v := emit (drawn u) (mctpWire via.isSome 5 resp)
  let respond := fun (s : State) (via : Option Nat) (b : Bytes) =>
    let resp := Config.spdmResponse (b.drop 1) s.fresh
    spdmSessions (mctpSend (drawn s) via.isSome 5 resp) via (b.drop 1) resp
  have row : exec (.spdmRequest none []) s = takeMsg s (fun b => byteAt b 0 = 5) respond := rfl
  have reached : exec (.spdmRequest none []) s = .next (spdmSessions v via (b.drop 1) resp) := exec_takeMsg row oldest (by simp [spdm])
  obtain ⟨inbox, os, sent⟩ := spdmSessions_emits v via (b.drop 1) resp
  refine completes_of reached ⟨inbox, os, ?_⟩
  rw [Emits] at sent ⊢
  rw [sent]
  show s.out ++ [_] ++ os = _
  rw [List.append_assoc]; rfl

/-- Settles O22: packets, vendor messages, secured messages and SPDM. -/
theorem mctpMessagesAssembleAndReachTheirUse : Obligations.MctpMessagesAssembleAndReachTheirUse :=
  ⟨fun _ _ _ _ _ _ _ _ => mctpPacketRx_assembles, fun _ => mctpAssemblyTimeout_discards,
    fun _ _ _ _ _ oldest vendor => ⟨vdmMessage_malformed oldest vendor, vdmMessage_posts oldest vendor, vdmMessage_rejects oldest vendor,
      fun _ _ => vdmAck_acknowledges oldest vendor, reopen_raises oldest vendor⟩,
    fun _ _ _ _ _ plain oldest secured => ⟨securedMessage_opens oldest secured, securedMessage_ends plain oldest secured⟩,
    fun _ _ => spdmRequest_doe, fun _ _ _ _ _ => spdmRequest_mctp⟩

end Sys2Proof.Machine
end

section
/-! PROOFS. MCTP control and PLDM requests (O23). -/

namespace Sys2Proof.Machine

open Sys2Proof

set_option Elab.async false

/-- A reply is sent and the request has left the inbox; nothing else changes. -/
theorem replied (s : State) (m : Mctp) (o : Output) :
    (emit { s with mctp := m } o).mctp = m ∧ Emits s (emit { s with mctp := m } o) [o] ∧ ChangesOnly [.mctp, .out] s (emit { s with mctp := m } o) :=
  ⟨rfl, emit_emits _ rfl, .of_patch rfl⟩

/-- How replies to one request read: their head, a completion code and data. -/
def Replies (via : Option Nat) (type : Nat) (head : Bytes) (reply : Nat → Bytes → Output) : Prop :=
  ∀ code data, reply code data = mctpWire via.isSome type (head ++ toLe 1 code ++ data)

section
variable {s : State} {src : Nat} {via : Option Nat} {b : Bytes} {rest : List (Nat × Option Nat × Bytes)} {reply : Nat → Bytes → Output}

/-! Control messages (R563, R564, R566). -/

/-- The replies to a control request. -/
abbrev ControlReplies (via : Option Nat) (b : Bytes) : (Nat → Bytes → Output) → Prop :=
  Replies via 0 (toLe 1 (byteAt b 1 % 32) ++ toLe 1 (byteAt b 2))

theorem ctlReply_eq (replies : ControlReplies via b reply) (u : State) (code : Nat) (data : Bytes) :
    ctlReply u via b code data = emit u (reply code data) := by
  rw [replies]; rfl

/-- A control row runs on a request of its command and length. -/
theorem exec_ctlRow {c : Instr} {cmd n : Nat} {f : State → Option Nat → Bytes → State} (row : exec c s = ctlRow s cmd n f)
    (oldest : s.mctp.inbox = (src, via, b) :: rest) (control : byteAt b 0 = 0) (command : byteAt b 2 = cmd) (length : b.length = 3 + n) :
    exec c s = .next (f { s with mctp := { s.mctp with inbox := rest } } via b) := by
  refine (exec_takeMsg row oldest (by simp [control, command])).trans ?_
  exact congrArg Host.Outcome.next (if_pos length)

/-- A control row refuses a request of another length. -/
theorem exec_ctlRow_length {c : Instr} {cmd n : Nat} {f : State → Option Nat → Bytes → State} (row : exec c s = ctlRow s cmd n f)
    (oldest : s.mctp.inbox = (src, via, b) :: rest) (control : byteAt b 0 = 0) (command : byteAt b 2 = cmd) (length : b.length ≠ 3 + n) :
    exec c s = .next (ctlReply { s with mctp := { s.mctp with inbox := rest } } via b 0x03 []) := by
  refine (exec_takeMsg row oldest (by simp [control, command])).trans ?_
  exact congrArg Host.Outcome.next (if_neg length)

/-- A control request that is only answered. -/
theorem ctl_answers (replies : ControlReplies via b reply) {c : Instr} {code : Nat} {data : Bytes}
    (reached : exec c s = .next (ctlReply { s with mctp := { s.mctp with inbox := rest } } via b code data)) :
    Completes c s (fun t => t.mctp = { s.mctp with inbox := rest } ∧ Emits s t [reply code data] ∧ ChangesOnly [.mctp, .out] s t) := by
  rw [ctlReply_eq replies] at reached
  exact completes_of reached (replied s _ _)

theorem setEndpointId_takes (replies : ControlReplies via b reply) (oldest : s.mctp.inbox = (src, via, b) :: rest) (control : byteAt b 0 = 0)
    (command : byteAt b 2 = 1) (length : b.length = 5) (sets : byteAt b 3 % 4 ≤ 1) (some : byteAt b 4 ≠ 0) (unicast : byteAt b 4 ≠ 0xFF) :
    Completes .setEndpointId s (fun t => t.mctp.eid = byteAt b 4 ∧ (chanGet t 2056).hostGen = (chanGet s 2056).hostGen + 1 ∧
      ∃ os, Emits s t (reply 0 [0#8, BitVec.ofNat 8 (byteAt b 4), 0#8] :: os)) := by
  let u : State := { s with mctp := { s.mctp with inbox := rest, eid := byteAt b 4 } }
  let v := emit u (reply 0 [0#8, BitVec.ofNat 8 (byteAt b 4), 0#8])
  have reached : exec .setEndpointId s = .next (bumpHostGen v 2056) := by
    refine (exec_ctlRow (c := .setEndpointId) (rfl : execSetEndpointId s = _) oldest control command length).trans ?_
    dsimp only
    rw [if_neg (by omega), ctlReply_eq replies]; rfl
  obtain ⟨gen, -, -, -, os, sent⟩ := bumpHostGen_raises v 2056
  refine completes_of reached ⟨?_, gen, os, ?_⟩
  · rw [(bumpHostGen_keeps v 2056).same .mctp]; rfl
  · rw [Emits] at sent ⊢
    rw [sent]
    show s.out ++ [_] ++ os = _
    rw [List.append_assoc]; rfl

theorem setEndpointId_refuses (oldest : s.mctp.inbox = (src, via, b) :: rest) (control : byteAt b 0 = 0)
    (command : byteAt b 2 = 1) (length : b.length = 5) (bad : 1 < byteAt b 3 % 4 ∨ byteAt b 4 = 0 ∨ byteAt b 4 = 0xFF) :
    exec .setEndpointId s = .next (ctlReply { s with mctp := { s.mctp with inbox := rest } } via b 2 []) :=
  (exec_ctlRow (c := .setEndpointId) (rfl : execSetEndpointId s = _) oldest control command length).trans
    (congrArg Host.Outcome.next (if_pos bad))

theorem getMctpVersionSupport_answers (oldest : s.mctp.inbox = (src, via, b) :: rest) (control : byteAt b 0 = 0)
    (command : byteAt b 2 = 4) (length : b.length = 4) (base : byteAt b 3 = 0 ∨ byteAt b 3 = 0xFF) :
    exec .getMctpVersionSupport s = .next (ctlReply { s with mctp := { s.mctp with inbox := rest } } via b 0 [1, 0xF1, 0xF3, 0xFF, 0]) :=
  (exec_ctlRow (c := .getMctpVersionSupport) (rfl : execGetMctpVersionSupport s = _) oldest control command length).trans
    (congrArg Host.Outcome.next (if_pos base))

theorem getVdmSupport_answers (oldest : s.mctp.inbox = (src, via, b) :: rest) (control : byteAt b 0 = 0)
    (command : byteAt b 2 = 6) (length : b.length = 4) (first : byteAt b 3 = 0) :
    exec .getVdmSupport s = .next (ctlReply { s with mctp := { s.mctp with inbox := rest } } via b 0
      ([0xFF, 0, 0x1F, 0x7C] ++ toBe 2 Config.vdmVersion)) :=
  (exec_ctlRow (c := .getVdmSupport) (rfl : execGetVdmSupport s = _) oldest control command length).trans
    (congrArg Host.Outcome.next (if_pos first))

theorem mctpUnsupportedControl_answers (oldest : s.mctp.inbox = (src, via, b) :: rest) (control : byteAt b 0 = 0)
    (unknown : byteAt b 2 = 0 ∨ 6 < byteAt b 2) :
    exec .mctpUnsupportedControl s = .next (ctlReply { s with mctp := { s.mctp with inbox := rest } } via b 5 []) :=
  exec_takeMsg (c := .mctpUnsupportedControl) (rfl : execMctpUnsupportedControl s = _) oldest (by simpa [control] using unknown)

/-- A request of a command that has no data, with data. -/
theorem ctl_length (oldest : s.mctp.inbox = (src, via, b) :: rest) (control : byteAt b 0 = 0) (length : b.length ≠ 3) {c : Instr}
    (row : byteAt b 2 = 2 ∧ c = Instr.getEndpointId ∨ byteAt b 2 = 3 ∧ c = Instr.getEndpointUuid ∨
      byteAt b 2 = 5 ∧ c = Instr.getMessageTypeSupport) :
    exec c s = .next (ctlReply { s with mctp := { s.mctp with inbox := rest } } via b 3 []) := by
  rcases row with ⟨command, rfl⟩ | ⟨command, rfl⟩ | ⟨command, rfl⟩
  · exact exec_ctlRow_length (c := .getEndpointId) (rfl : execGetEndpointId s = _) oldest control command length
  · exact exec_ctlRow_length (c := .getEndpointUuid) (rfl : execGetEndpointUuid s = _) oldest control command length
  · exact exec_ctlRow_length (c := .getMessageTypeSupport) (rfl : execGetMessageTypeSupport s = _) oldest control command length

/-! PLDM (R564, R601, R635). -/

/-- The replies to a PLDM request. -/
abbrev PldmReplies (via : Option Nat) (b : Bytes) : (Nat → Bytes → Output) → Prop :=
  Replies via 1 (toLe 1 (byteAt b 1 % 32) ++ toLe 1 (byteAt b 2) ++ toLe 1 (byteAt b 3))

theorem pldmReply_eq (replies : PldmReplies via b reply) (u : State) (code : Nat) (data : Bytes) :
    pldmReply u via b code data = emit u (reply code data) := by
  rw [replies]; rfl

/-- A PLDM request that is only answered. -/
theorem pldm_answers (replies : PldmReplies via b reply) {c : Instr} {m : Mctp} {code : Nat} {data : Bytes}
    (reached : exec c s = .next (pldmReply { s with mctp := m } via b code data)) :
    Completes c s (fun t => t.mctp = m ∧ Emits s t [reply code data] ∧ ChangesOnly [.mctp, .out] s t) := by
  rw [pldmReply_eq replies] at reached
  exact completes_of reached (replied s _ _)

theorem exec_pldmDiscovery (oldest : s.mctp.inbox = (src, via, b) :: rest) (pldm : byteAt b 0 = 1) (other : pldmType b ≠ 2) (another : pldmType b ≠ 5) :
    exec .pldmDiscovery s = .next (if pldmType b = 0 then pldmBase { s with mctp := { s.mctp with inbox := rest } } via b
      else pldmReply { s with mctp := { s.mctp with inbox := rest } } via b 0x20 []) :=
  exec_takeMsg (c := .pldmDiscovery) (rfl : execPldmDiscovery s = _) oldest (by simp [pldm, other, another])

theorem pldmDiscovery_setTid (oldest : s.mctp.inbox = (src, via, b) :: rest) (pldm : byteAt b 0 = 1) (base : pldmType b = 0)
    (command : byteAt b 3 = 1) (length : b.length = 5) (some : byteAt b 4 ≠ 0) (unicast : byteAt b 4 ≠ 0xFF) :
    exec .pldmDiscovery s = .next (pldmReply { s with mctp := { s.mctp with inbox := rest, tid := byteAt b 4 } } via b 0 []) := by
  rw [exec_pldmDiscovery oldest pldm (by omega) (by omega), if_pos base]
  unfold pldmBase
  dsimp only
  rw [if_pos command, if_neg (by omega), if_neg (by omega)]

theorem pldmDiscovery_getTid (oldest : s.mctp.inbox = (src, via, b) :: rest) (pldm : byteAt b 0 = 1) (base : pldmType b = 0)
    (command : byteAt b 3 = 2) :
    exec .pldmDiscovery s = .next (pldmReply { s with mctp := { s.mctp with inbox := rest } } via b 0 (toLe 1 s.mctp.tid)) := by
  rw [exec_pldmDiscovery oldest pldm (by omega) (by omega), if_pos base]
  unfold pldmBase
  dsimp only
  rw [if_neg (by omega), if_pos command]

theorem pldmDiscovery_refuses (oldest : s.mctp.inbox = (src, via, b) :: rest) (pldm : byteAt b 0 = 1) (notBase : pldmType b ≠ 0)
    (other : pldmType b ≠ 2) (another : pldmType b ≠ 5) :
    exec .pldmDiscovery s = .next (pldmReply { s with mctp := { s.mctp with inbox := rest } } via b 0x20 []) := by
  rw [exec_pldmDiscovery oldest pldm other another, if_neg notBase]

/-- One byte of data, whatever its value. -/
theorem toLe_one (v : Nat) : toLe 1 v = [BitVec.ofNat 8 v] := rfl

/-- A sensor's state does not depend on the inbox. -/
theorem pldmPresent_mctp (s : State) (m : Mctp) (k : Nat) : pldmPresent { s with mctp := m } k = pldmPresent s k := rfl

theorem pldmSensorRead_reading (replies : PldmReplies via b reply) (oldest : s.mctp.inbox = (src, via, b) :: rest) (pldm : byteAt b 0 = 1)
    (type : pldmType b = 2) (command : byteAt b 3 = 0x11) (length : b.length = 7) (first : 1 ≤ le b 4 2) (last : le b 4 2 ≤ 49) :
    Completes .pldmSensorRead s (fun t =>
      ∃ x : Byte, Emits s t [reply 0 ([5, 0, 0] ++ toLe 1 (pldmPresent s (le b 4 2 - 1)) ++ [x] ++ toLe 1 (pldmPresent s (le b 4 2 - 1)) ++
        toLe 4 (unsigned 32 (sensorNow s (le b 4 2 - 1))))] ∧ ChangesOnly [.mctp, .out, .fresh] s t) := by
  let u : State := { s with mctp := { s.mctp with inbox := rest } }
  have reached : exec .pldmSensorRead s = .next (pldmReply (drawn u) via b 0 ([5, 0, 0] ++ toLe 1 (pldmPresent u (le b 4 2 - 1)) ++
      toLe 1 (Config.freeNat s.fresh) ++ toLe 1 (pldmPresent u (le b 4 2 - 1)) ++ toLe 4 (unsigned 32 (sensorNow u (le b 4 2 - 1))))) := by
    refine (exec_takeMsg (c := .pldmSensorRead) (rfl : execPldmSensorRead s = _) oldest (by simp [pldm, type])).trans ?_
    dsimp only
    rw [if_pos command, if_neg (not_not.mpr length), if_neg (by omega)]
  rw [pldmReply_eq replies, pldmPresent_mctp, toLe_one (Config.freeNat s.fresh)] at reached
  exact completes_of reached ⟨_, emit_emits _ rfl, exec_changes reached⟩

theorem pldmSensorRead_thresholds (replies : PldmReplies via b reply) (oldest : s.mctp.inbox = (src, via, b) :: rest) (pldm : byteAt b 0 = 1)
    (type : pldmType b = 2) (command : byteAt b 3 = 0x12) (length : b.length = 6) (first : 1 ≤ le b 4 2) (last : le b 4 2 ≤ 16) :
    Completes .pldmSensorRead s (fun t =>
      ∃ r : Bytes, Emits s t [reply 0 ([5] ++ toLe 4 (256 * hwField s 0x007 7 0) ++ toLe 4 (256 * hwField s 0x007 15 8) ++ r)] ∧
        ChangesOnly [.mctp, .out] s t) := by
  let u : State := { s with mctp := { s.mctp with inbox := rest } }
  have reached : exec .pldmSensorRead s = .next (pldmReply u via b 0 ([5] ++ (toLe 4 (256 * hwField s 0x007 7 0) ++
      toLe 4 (256 * hwField s 0x007 15 8)) ++ slice (Config.pldmThresholds (le b 4 2 - 1)) 8 16)) := by
    refine (exec_takeMsg (c := .pldmSensorRead) (rfl : execPldmSensorRead s = _) oldest (by simp [pldm, type])).trans ?_
    dsimp only
    rw [if_neg (by omega), if_pos command, if_neg (not_not.mpr length), if_neg (by omega), if_pos (by omega)]; rfl
  rw [pldmReply_eq replies, ← List.append_assoc] at reached
  exact completes_of reached ⟨_, emit_emits _ rfl, .of_patch rfl⟩

/-! Updates of a component (R601, R605). -/

theorem exec_pldmUpdateComponent (data : Bytes) (oldest : s.mctp.inbox = (src, via, b) :: rest) (pldm : byteAt b 0 = 1) (type : pldmType b = 5)
    (command : byteAt b 3 = 0x14) : exec (.pldmUpdateComponent data) s =
      .next (updateComponent { s with mctp := { s.mctp with inbox := rest } } via b data) :=
  (exec_takeMsg (c := .pldmUpdateComponent data) (rfl : execPldmUpdateComponent data s = _) oldest (by simp [pldm, type, command])).trans
    (congrArg Host.Outcome.next (if_pos command))

theorem updateComponent_image {kind : Nat} (u : State) (data : Bytes) (length : 23 ≤ b.length) (named : kind ≤ 1) (component : le b 6 2 = kind + 1) :
    updateComponent u via b data = if hostWrites u kind then pldmReply u via b 0x8E []
      else if data.length < 512 ∨ bankSize kind < data.length then updateReply u via b 6
      else updateReply (pldmWrite u kind data) via b 0 := by
  unfold updateComponent
  dsimp only
  rw [if_neg (by omega), if_neg (by omega), if_pos (by omega), component, Nat.add_sub_cancel]

theorem pldmUpdateComponent_busy (replies : PldmReplies via b reply) (oldest : s.mctp.inbox = (src, via, b) :: rest) (pldm : byteAt b 0 = 1)
    {kind : Nat} (data : Bytes) (type : pldmType b = 5) (command : byteAt b 3 = 0x14) (length : 23 ≤ b.length) (named : kind ≤ 1)
    (component : le b 6 2 = kind + 1) (busy : hostWrites s kind = true) :
    Completes (.pldmUpdateComponent data) s (fun t => Emits s t [reply 0x8E []] ∧ ChangesOnly [.mctp, .out] s t) := by
  have reached := exec_pldmUpdateComponent data oldest pldm type command
  rw [updateComponent_image _ data length named component] at reached
  obtain ⟨t, ht, -, emits, frame⟩ := pldm_answers replies (reached.trans (congrArg Host.Outcome.next (if_pos busy)))
  exact ⟨t, ht, emits, frame⟩

/-- Bytes that follow each other from key 0 on. -/
theorem mapGet_zipIdx (data : Bytes) (k : Nat) (m : AMap Byte) (i : Nat) :
    mapGet ((data.zipIdx k).foldl (fun (m : AMap Byte) x => mapSet m x.2 x.1) m) i =
      if k ≤ i ∧ i < k + data.length then data[i - k]? else mapGet m i := by
  induction data generalizing k m with
  | nil => rw [if_neg (by simp)]; rfl
  | cons x data ih =>
    rw [List.zipIdx_cons, List.foldl_cons, ih]
    rcases Nat.lt_trichotomy i k with below | rfl | above
    · rw [if_neg (by omega), if_neg (by omega), mapGet_mapSet_ne _ _ (by omega)]
    · rw [if_neg (by omega), if_pos (by simp), mapGet_mapSet_self]; simp
    · rw [mapGet_mapSet_ne _ _ (by omega)]
      refine if_congr (by simp; omega) ?_ rfl
      rw [show i - k = (i - (k + 1)) + 1 by omega, List.getElem?_cons_succ]

/-- What a transfer writes: the component's bank holds the image, and the update knows it. -/
theorem pldmWrite_writes (u : State) (kind : Nat) (data : Bytes) : (kind + 1, otherBank u kind) ∈ (pldmWrite u kind data).fw.pldm ∧
    (bankGet (pldmWrite u kind data) kind (otherBank u kind)).size = data.length ∧
    (∀ i < data.length, mapGet (bankGet (pldmWrite u kind data) kind (otherBank u kind)).bytes i = data[i]?) ∧
    (pldmWrite u kind data).out = u.out := by
  unfold pldmWrite
  extract_lets bank v _ w x
  have filled : bankGet w kind bank = { bankGet v kind bank with
      bytes := data.zipIdx.foldl (fun (m : AMap Byte) x => mapSet m x.2 x.1) [] } := bankGet_bankSet _ _ _ _
  have opened : (bankGet v kind bank).size = data.length := by
    show (bankGet (bankSet u kind bank _) kind bank).size = _
    rw [bankGet_bankSet]
  have closed : (bankGet x kind bank).size = (bankGet w kind bank).size ∧ (bankGet x kind bank).bytes = (bankGet w kind bank).bytes := by
    unfold x
    rw [bankClose_eq, bankGet_bankSet]
    exact ⟨rfl, rfl⟩
  have out : x.out = u.out := by
    unfold x
    rw [bankClose_eq]; rfl
  have same : ∀ f, bankGet { x with fw := f } kind bank = bankGet x kind bank := fun _ => bankGet_congr rfl _ _
  refine ⟨List.mem_append_right _ (List.mem_singleton.mpr rfl), ?_, fun i hi => ?_, out⟩
  · rw [same, closed.1, filled, opened]
  · rw [same, closed.2, filled, mapGet_zipIdx, if_pos (by omega), Nat.sub_zero]

theorem pldmUpdateComponent_writes (replies : PldmReplies via b reply) (oldest : s.mctp.inbox = (src, via, b) :: rest) (pldm : byteAt b 0 = 1)
    {kind : Nat} {data : Bytes} (type : pldmType b = 5) (command : byteAt b 3 = 0x14) (length : 23 ≤ b.length) (named : kind ≤ 1)
    (component : le b 6 2 = kind + 1) (free : hostWrites s kind = false) (least : 512 ≤ data.length) (most : data.length ≤ bankSize kind) :
    Completes (.pldmUpdateComponent data) s (fun t => (kind + 1, otherBank s kind) ∈ t.fw.pldm ∧
      (bankGet t kind (otherBank s kind)).size = data.length ∧
      (∀ i < data.length, mapGet (bankGet t kind (otherBank s kind)).bytes i = data[i]?) ∧
      ∃ r : Bytes, Emits s t [reply 0 (zeros 2 ++ slice b 15 4 ++ r)]) := by
  let u : State := { s with mctp := { s.mctp with inbox := rest } }
  have reached : exec (.pldmUpdateComponent data) s = .next (updateReply (pldmWrite u kind data) via b 0) := by
    rw [exec_pldmUpdateComponent data oldest pldm type command, updateComponent_image _ data length named component,
      if_neg (by show ¬ hostWrites s kind = true; simp [free]), if_neg (by omega)]
  obtain ⟨known, size, bytes, out⟩ := pldmWrite_writes u kind data
  unfold updateReply at reached
  rw [pldmReply_eq replies] at reached
  exact completes_of reached ⟨known, size, bytes, _, emit_emits _ out⟩

/-! Activation (R601). -/

theorem exec_pldmActivateFirmware (oldest : s.mctp.inbox = (src, via, b) :: rest) (pldm : byteAt b 0 = 1) (type : pldmType b = 5)
    (command : byteAt b 3 = 0x1A) :
    exec .pldmActivateFirmware s = .next (activateFirmware { s with mctp := { s.mctp with inbox := rest } } via b) :=
  exec_takeMsg (c := .pldmActivateFirmware) (rfl : execPldmActivateFirmware s = _) oldest (by simp [pldm, type, command])

theorem pldmActivateFirmware_idle (replies : PldmReplies via b reply) (oldest : s.mctp.inbox = (src, via, b) :: rest) (pldm : byteAt b 0 = 1)
    (type : pldmType b = 5) (command : byteAt b 3 = 0x1A) (length : b.length = 5) (none : s.fw.pldm = []) :
    Completes .pldmActivateFirmware s (fun t => Emits s t [reply 0x80 []] ∧ ChangesOnly [.mctp, .out] s t) := by
  have idle : activateFirmware { s with mctp := { s.mctp with inbox := rest } } via b =
      pldmReply { s with mctp := { s.mctp with inbox := rest } } via b 0x80 [] := by
    unfold activateFirmware
    extract_lets w c bad
    rw [if_neg (not_not.mpr length), if_pos none]
  obtain ⟨t, ht, -, emits, frame⟩ := pldm_answers replies ((exec_pldmActivateFirmware oldest pldm type command).trans
    (congrArg Host.Outcome.next idle))
  exact ⟨t, ht, emits, frame⟩

theorem pldmActivateFirmware_recovery (replies : PldmReplies via b reply) (oldest : s.mctp.inbox = (src, via, b) :: rest) (pldm : byteAt b 0 = 1)
    (type : pldmType b = 5) (command : byteAt b 3 = 0x1A) (length : b.length = 5) (written : s.fw.pldm ≠ [])
    (valid : ∀ kind bank, kind ≤ 1 → pldmBank s kind = some bank → imgValid s kind bank = true) (boot : s.dev.base = .boot) :
    Completes .pldmActivateFirmware s (fun t => t.fw.pldm = [] ∧ t.dev.resetPending = some 4 ∧ ∃ r : Bytes, Emits s t [reply 0 r]) := by
  let u : State := { s with mctp := { s.mctp with inbox := rest } }
  let t := activateReply u via b
  have activates : activateFirmware u via b = { t with dev := { t.dev with resetPending := some 4 } } := by
    unfold activateFirmware
    extract_lets w c bad
    have good : ∀ kind, kind ≤ 1 → bad kind (pldmBank u kind) = false := by
      intro kind named
      unfold bad
      cases image : pldmBank u kind with
      | none => rfl
      | some bank =>
        have := valid kind bank named image
        show (!imgValid s kind bank) = false
        rw [this]; rfl
    rw [if_neg (not_not.mpr length), if_neg written, if_neg, if_pos boot]
    simp [w, c, good 0 (by omega), good 1 (by omega)]
  have reached : exec .pldmActivateFirmware s = .next { t with dev := { t.dev with resetPending := some 4 } } :=
    (exec_pldmActivateFirmware oldest pldm type command).trans (congrArg Host.Outcome.next activates)
  have replied : t = emit (drawn { u with fw := { u.fw with pldm := [] } }) (reply 0 (toLe 2 (Config.freeNat u.fresh))) :=
    pldmReply_eq replies _ _ _
  refine completes_of reached ⟨?_, rfl, toLe 2 (Config.freeNat u.fresh), ?_⟩
  · show t.fw.pldm = []
    rw [replied]; rfl
  · show t.out = _
    rw [replied]; rfl

end

/-- Settles O23: the control requests, then the PLDM requests. -/
theorem mctpControlAndPldmRequestsAreAnswered : Obligations.MctpControlAndPldmRequestsAreAnswered := by
  refine ⟨fun s src via b rest oldest control reply replies => ?_, fun s src via b rest oldest pldm reply replies => ?_⟩
  · refine ⟨setEndpointId_takes replies oldest control, fun command length bad => ?_, fun command length => ?_, fun command length => ?_,
      fun command length base => ?_, fun command length => ?_, fun command length first => ?_, fun unknown => ?_, fun length c row => ?_⟩ <;>
      refine ctl_answers replies ?_
    · exact setEndpointId_refuses oldest control command length bad
    · exact exec_ctlRow (c := .getEndpointId) (rfl : execGetEndpointId s = _) oldest control command length
    · exact exec_ctlRow (c := .getEndpointUuid) (rfl : execGetEndpointUuid s = _) oldest control command length
    · exact getMctpVersionSupport_answers oldest control command length base
    · exact exec_ctlRow (c := .getMessageTypeSupport) (rfl : execGetMessageTypeSupport s = _) oldest control command length
    · exact getVdmSupport_answers oldest control command length first
    · exact mctpUnsupportedControl_answers oldest control unknown
    · exact ctl_length oldest control length row
  · exact ⟨fun base command length some unicast => pldm_answers replies (pldmDiscovery_setTid oldest pldm base command length some unicast),
      fun base command => pldm_answers replies (pldmDiscovery_getTid oldest pldm base command),
      fun notBase other another => pldm_answers replies (pldmDiscovery_refuses oldest pldm notBase other another),
      pldmSensorRead_reading replies oldest pldm, pldmSensorRead_thresholds replies oldest pldm,
      fun _ data type command length named component => ⟨pldmUpdateComponent_busy replies oldest pldm data type command length named component,
        pldmUpdateComponent_writes replies oldest pldm type command length named component⟩,
      fun type command length => ⟨pldmActivateFirmware_idle replies oldest pldm type command length,
        pldmActivateFirmware_recovery replies oldest pldm type command length⟩⟩

end Sys2Proof.Machine
end

section
/-! PROOFS. Slices: a destruction ends the commands of the channel that the slice's own function names (O24). -/

namespace Sys2Proof.Machine

open Sys2Proof

set_option Elab.async false

/-- Slice 2 holds, where it serves VF 1 of endpoint 0, the number of VF 2, and VF 2's channel has started the destruction of slice 2. -/
def sliceOfAnother : State :=
  { State.reset with
    slices := { State.reset.slices with tab := [(2, { sliceOfReq [] with func := 2, ep := 0 })] }
    mbx := { State.reset.mbx with chans := [(9, { chanReset 9 with started := [⟨1, 0x0202, [1, 0, 0, 0], false, false⟩] })] } }

/-- The destruction clears the channel of the function that the slice names, so no journal entry is left there to answer. -/
theorem sliceDestroy_clears_named_channel : ∃ t, exec (.sliceDestroy 9 1) sliceOfAnother = .next t ∧ (chanGet t 9).journal = [] :=
  ⟨_, rfl, by decide +kernel⟩

/-- Refutes O24: SLICE_DESTROY clears the channel of the function that the slice's record names, and the statement excludes the channel
of the function that the request names; where they differ, the command's own channel is cleared and no answer ever comes. -/
theorem not_slicesComeAndGoAndAreQueried : ¬ Obligations.SlicesComeAndGoAndAreQueried := by
  unfold Obligations.SlicesComeAndGoAndAreQueried
  rintro ⟨⟨-, -, -, destroy, -⟩, -⟩
  obtain ⟨t, step, cleared⟩ := sliceDestroy_clears_named_channel
  obtain ⟨u, run, ends⟩ := (destroy sliceOfAnother 9 1 ⟨1, 0x0202, [1, 0, 0, 0], false, false⟩ 2 { sliceOfReq [] with func := 2, ep := 0 }
    rfl (by decide) (by decide) (by decide) (by decide) rfl rfl (by decide)).1 rfl rfl (by decide) (by decide)
  obtain rfl : t = u := Host.Outcome.next.inj (step.symm.trans run)
  rcases ends with ⟨-, body, -, ⟨j, journalled, -⟩, -⟩ | ⟨-, -, j, journalled, -⟩
  · rw [cleared] at journalled; exact nomatch journalled
  · rw [cleared] at journalled; exact nomatch journalled

end Sys2Proof.Machine
end

section
/-! PROOFS. What the host's side keeps while rings are read, entries written and events raised: the configuration of functions and
the state of links. -/

namespace Sys2Proof.Machine

open Sys2Proof

set_option Elab.async false

/-- Of a function at most the vectors that are due and the error it has entered change. -/
def FuncKept (g h : Func) : Prop :=
  ∃ due inError errCause errQueue errValid, h = { g with due, inError, errCause, errQueue, errValid }

/-- Of an endpoint at most its functions, reads, held writes and translations change. -/
def LinkKept (e f : Endpoint) : Prop :=
  ∃ funcs reads reissue nextTag transCache held, f = { e with funcs, reads, reissue, nextTag, transCache, held }

/-- Tags in quarantine, in the order of their reads (R439). -/
def quarantineTags (e : Endpoint) : List Nat := (e.reads.filter (fun r => r.quarantined)).map (fun r => r.tag)

/-- Functions keep their configuration, links their state and quarantined tags, and outputs are only added. -/
structure Wired (s t : State) : Prop where
  link : ∀ ep, LinkKept (epGet s ep) (epGet t ep)
  func : ∀ ep f, FuncKept (fnGet s ep f) (fnGet t ep f)
  tags : ∀ ep, quarantineTags (epGet t ep) = quarantineTags (epGet s ep)
  out : ∃ os, Emits s t os

theorem FuncKept.refl (g : Func) : FuncKept g g := ⟨_, _, _, _, _, rfl⟩

theorem FuncKept.trans {g h i : Func} : FuncKept g h → FuncKept h i → FuncKept g i := by
  rintro ⟨_, _, _, _, _, rfl⟩ ⟨_, _, _, _, _, rfl⟩
  exact ⟨_, _, _, _, _, rfl⟩

theorem LinkKept.refl (e : Endpoint) : LinkKept e e := ⟨_, _, _, _, _, _, rfl⟩

theorem LinkKept.trans {e f g : Endpoint} : LinkKept e f → LinkKept f g → LinkKept e g := by
  rintro ⟨_, _, _, _, _, _, rfl⟩ ⟨_, _, _, _, _, _, rfl⟩
  exact ⟨_, _, _, _, _, _, rfl⟩

theorem Emits.none {s t : State} (h : t.out = s.out) : Emits s t [] := by
  unfold Emits; rw [h, List.append_nil]

theorem Emits.append {s t u : State} {os ps : List Output} (h : Emits s t os) (k : Emits t u ps) : Emits s u (os ++ ps) := by
  unfold Emits at *; rw [k, h, List.append_assoc]

theorem epGet_congr {s t : State} (h0 : t.ep0 = s.ep0) (h1 : t.ep1 = s.ep1) (ep : Nat) : epGet t ep = epGet s ep := by
  unfold epGet; rw [h0, h1]

theorem fnGet_congr {s t : State} (h0 : t.ep0 = s.ep0) (h1 : t.ep1 = s.ep1) (ep f : Nat) : fnGet t ep f = fnGet s ep f := by
  unfold fnGet; rw [epGet_congr h0 h1]

/-- Endpoint numbers above 0 name endpoint 1. -/
theorem epGet_epSet (s : State) (ep k : Nat) (e : Endpoint) :
    epGet (epSet s ep e) k = e ∧ epGet s k = epGet s ep ∨ epGet (epSet s ep e) k = epGet s k := by
  unfold epSet epGet
  by_cases first : ep = 0
  · by_cases this : k = 0
    · exact .inl (by simp [first, this])
    · exact .inr (by simp [first, this])
  · by_cases this : k = 0
    · exact .inr (by simp [first, this])
    · exact .inl (by simp [first, this])

theorem fnGet_fnSet_self (s : State) (ep f : Nat) (g : Func) : fnGet (fnSet s ep f g) ep f = g := by
  unfold fnGet fnSet epMod
  rw [epGet_epSet_self]
  exact mapGetD_mapSet_self _ _ _ _

theorem fnGet_fnSet (s : State) (ep f k n : Nat) (g : Func) :
    fnGet (fnSet s ep f g) k n = g ∧ fnGet s k n = fnGet s ep f ∨ fnGet (fnSet s ep f g) k n = fnGet s k n := by
  unfold fnGet fnSet epMod
  rcases epGet_epSet s ep k { epGet s ep with funcs := mapSet (epGet s ep).funcs f g } with ⟨set, same⟩ | kept
  · rw [set, same]
    by_cases this : n = f
    · exact .inl (by rw [this]; exact ⟨mapGetD_mapSet_self _ _ _ _, rfl⟩)
    · exact .inr (mapGetD_mapSet_ne _ _ _ this)
  · exact .inr (by rw [kept])

namespace Wired

variable {s t u : State} {ps : List Part}

theorem refl (s : State) : Wired s s := ⟨fun _ => .refl _, fun _ _ => .refl _, fun _ => rfl, [], .none rfl⟩

theorem trans (h : Wired s t) (k : Wired t u) : Wired s u := by
  obtain ⟨os, first⟩ := h.out
  obtain ⟨ps, second⟩ := k.out
  exact ⟨fun ep => (h.link ep).trans (k.link ep), fun ep f => (h.func ep f).trans (k.func ep f),
    fun ep => (k.tags ep).trans (h.tags ep), _, first.append second⟩

theorem of_parts (h0 : t.ep0 = s.ep0) (h1 : t.ep1 = s.ep1) (out : t.out = s.out) : Wired s t :=
  ⟨fun ep => by rw [epGet_congr h0 h1]; exact .refl _, fun ep f => by rw [fnGet_congr h0 h1]; exact .refl _,
    fun ep => by rw [epGet_congr h0 h1], [], .none out⟩

theorem of_keeps (h : Keeps ps s t) (quiet : Part.ep0 ∉ ps ∧ Part.ep1 ∉ ps ∧ Part.out ∉ ps := by decide) : Wired s t :=
  .of_parts (h.same .ep0 quiet.1) (h.same .ep1 quiet.2.1) (h.same .out quiet.2.2)

/-- A change elsewhere follows; the later change comes first, as in the term it is about. -/
theorem last (k : Keeps ps t u) (h : Wired s t) (quiet : Part.ep0 ∉ ps ∧ Part.ep1 ∉ ps ∧ Part.out ∉ ps := by decide) : Wired s u :=
  h.trans (.of_keeps k quiet)

theorem ite {c : Prop} [Decidable c] (h : Wired s t) (k : Wired s u) : Wired s (if c then t else u) := by
  split
  · exact h
  · exact k

theorem foldl {α : Type} {f : State → α → State} {l : List α} (h : Wired s t) (each : ∀ u x, Wired u (f u x)) :
    Wired s (l.foldl f t) := by
  induction l generalizing t with
  | nil => exact h
  | cons x xs ih => exact ih (h.trans (each t x))

theorem emit (s : State) (o : Output) : Wired s (emit s o) := ⟨fun _ => .refl _, fun _ _ => .refl _, fun _ => rfl, [o], rfl⟩

theorem fnSet {ep f : Nat} {g : Func} (kept : FuncKept (fnGet s ep f) g) : Wired s (fnSet s ep f g) := by
  refine ⟨fun k => ?_, fun k n => ?_, fun k => ?_, [], .none (epSet_out _ _ _)⟩
  · unfold Machine.fnSet epMod
    rcases epGet_epSet s ep k { epGet s ep with funcs := mapSet (epGet s ep).funcs f g } with ⟨set, same⟩ | same
    · rw [set, same]; exact ⟨_, _, _, _, _, _, rfl⟩
    · rw [same]; exact .refl _
  · rcases fnGet_fnSet s ep f k n g with ⟨set, same⟩ | same
    · rw [set, same]; exact kept
    · rw [same]; exact .refl _
  · unfold Machine.fnSet epMod
    rcases epGet_epSet s ep k { epGet s ep with funcs := mapSet (epGet s ep).funcs f g } with ⟨set, same⟩ | same
    · rw [set, same]; rfl
    · rw [same]

/-- A change of an endpoint that leaves its functions and its quarantined tags as they are. -/
theorem epMod {ep : Nat} {g : Endpoint → Endpoint} (link : LinkKept (epGet s ep) (g (epGet s ep)))
    (funcs : (g (epGet s ep)).funcs = (epGet s ep).funcs) (tags : quarantineTags (g (epGet s ep)) = quarantineTags (epGet s ep) := by rfl) :
    Wired s (epMod s ep g) := by
  unfold Machine.epMod
  refine ⟨fun k => ?_, fun k n => ?_, fun k => ?_, [], .none (epSet_out _ _ _)⟩
  · rcases epGet_epSet s ep k (g (epGet s ep)) with ⟨set, same⟩ | same
    · rw [set, same]; exact link
    · rw [same]; exact .refl _
  · unfold fnGet
    rcases epGet_epSet s ep k (g (epGet s ep)) with ⟨set, same⟩ | same
    · rw [set, same, funcs]; exact .refl _
    · rw [same]; exact .refl _
  · rcases epGet_epSet s ep k (g (epGet s ep)) with ⟨set, same⟩ | same
    · rw [set, same, tags]
    · rw [same]

end Wired

/-! Events. -/

theorem dueVec_wired (s : State) (ep f v : Nat) : Wired s (dueVec s ep f v) := by
  unfold dueVec
  exact .ite (.fnSet ⟨_, _, _, _, _, rfl⟩) (.refl s)

theorem mgrEvent_wired (s : State) (ep bit : Nat) : Wired s (mgrEvent s ep bit) := by
  unfold mgrEvent
  exact .ite (.trans (.of_keeps (setReg_keeps _ _ _)) (dueVec_wired _ _ _ _)) (.of_keeps (setReg_keeps _ _ _))

theorem mgrEventBoth_wired (s : State) (bit : Nat) : Wired s (mgrEventBoth s bit) :=
  (mgrEvent_wired s 0 bit).trans (mgrEvent_wired _ 1 bit)

theorem vfEvent_wired (s : State) (ep v bit : Nat) : Wired s (vfEvent s ep v bit) := by
  unfold vfEvent
  exact .ite (.trans (.of_keeps (setReg_keeps _ _ _)) (dueVec_wired _ _ _ _)) (.of_keeps (setReg_keeps _ _ _))

theorem vfEventAll_wired (s : State) (bit : Nat) : Wired s (vfEventAll s bit) :=
  .foldl (.foldl (.refl s) (fun _ _ => vfEvent_wired _ _ _ _)) (fun _ _ => vfEvent_wired _ _ _ _)

theorem errNotice_wired (s : State) (e : ErrEntry) : Wired s (errNotice s e) := by
  unfold errNotice
  exact .ite (.last (eventToManager_keeps _ _ _) (mgrEventBoth_wired _ _)) (.refl s)

theorem errWrite_wired (s : State) (e : ErrEntry) : Wired s (errWrite s e) := by
  unfold errWrite
  refine .trans ?_ (errNotice_wired _ _)
  exact .last (errSum_keeps _ _) (.last (errLost_keeps _ _) (.of_keeps (errPut_keeps _ _)))

theorem errlogGen_wired (s : State) (code island func : Nat) (gen : BitVec 16) (addr : Nat) (data : Bytes) :
    Wired s (errlogGen s code island func gen addr data) := by
  have window : ∀ g, Wired s { s with gauge := g } := fun _ => .of_parts rfl rfl rfl
  unfold errlogGen
  dsimp only
  split
  · exact .trans (window _) (errWrite_wired _ _)
  · exact .ite (.trans (window _) (errWrite_wired _ _)) (.last (bump_keeps _ _) (window _))

theorem noteRetired_wired (s : State) (kind cause index shortfall island : Nat) : Wired s (noteRetired s kind cause index shortfall island) := by
  unfold noteRetired errlog
  exact .last (eventToManager_keeps _ _ _) (errlogGen_wired _ _ _ _ _ _ _)

theorem modeLogged_wired (s : State) (old new : Nat) : Wired s (modeLogged s old new) := by
  have since : ∀ n, Wired s { s with dev := { s.dev with since := n } } := fun _ => .of_parts rfl rfl rfl
  unfold modeLogged errlog
  refine .last (trace_keeps _ _ _ _ _ _ _) (.trans ?_ (errlogGen_wired _ _ _ _ _ _ _))
  exact .trans (.trans (since _) (mgrEventBoth_wired _ _)) (vfEventAll_wired _ _)

theorem noteMode_wired (before s : State) (cause : Nat) : Wired s (noteMode before s cause) := by
  unfold noteMode
  exact .ite (.refl s) (.last (modeTold_keeps _ _ _ _) (.ite (.refl s) (modeLogged_wired _ _ _)))

theorem noteLink_wired (s : State) (ep : Nat) : Wired s (noteLink s ep) := by
  unfold noteLink
  exact .last (eventToManager_keeps _ _ _) (mgrEventBoth_wired _ _)

/-! Reads and writes of host memory. -/

theorem translate_wired (s : State) (ep f : Nat) (pasid : Option Nat) (addr : Nat) : Wired s (translate s ep f pasid addr) := by
  unfold translate
  exact .ite (.trans (.epMod ⟨_, _, _, _, _, _, rfl⟩ rfl) (.emit _ _)) (.refl s)

/-- A new read is not quarantined. -/
theorem quarantineTags_append {e : Endpoint} {r : ReadReq} {nextTag : Nat} (fresh : r.quarantined = false) :
    quarantineTags { e with reads := e.reads ++ [r], nextTag } = quarantineTags e := by
  unfold quarantineTags
  rw [List.filter_append, List.filter_cons, fresh]
  simp

/-- A change of what the reads are for leaves their tags and whether they are quarantined. -/
theorem quarantineTags_map {e : Endpoint} {f : ReadReq → ReadReq} {reissue : List ReadReq}
    (same : ∀ r, (f r).quarantined = r.quarantined ∧ (f r).tag = r.tag) :
    quarantineTags { e with reads := e.reads.map f, reissue } = quarantineTags e := by
  unfold quarantineTags
  rw [List.filter_map, List.map_map]
  refine congrArg₂ List.map (funext fun r => (same r).2) (congrArg (List.filter · e.reads) (funext fun r => (same r).1))

theorem issueRead_wired {s t : State} {ep f : Nat} {pasid : Option Nat} {addr len queue purpose n : Nat}
    (h : issueRead s ep f pasid addr len queue purpose = some (n, t)) : Wired s t := by
  unfold issueRead at h
  split at h
  · cases h
  · split at h
    · cases h
    · cases h
      exact .trans (.trans (translate_wired _ _ _ _ _) (.epMod ⟨_, _, _, _, _, _, rfl⟩ rfl (quarantineTags_append rfl))) (.emit _ _)

theorem writePiece_wired (s : State) (ep f : Nat) (pasid : Option Nat) (relaxed : Bool) (p : Nat × Bytes) :
    Wired s (writePiece s ep f pasid relaxed p) := by
  unfold writePiece
  exact .ite (.trans (translate_wired _ _ _ _ _) (.emit _ _)) (.trans (translate_wired _ _ _ _ _) (.epMod ⟨_, _, _, _, _, _, rfl⟩ rfl))

theorem dmaWrite_wired (s : State) (ep f : Nat) (pasid : Option Nat) (relaxed : Bool) (addr : Nat) (data : Bytes) :
    Wired s (dmaWrite s ep f pasid relaxed addr data) := by
  unfold dmaWrite
  exact .ite (.refl s) (.foldl (.refl s) (fun _ _ => writePiece_wired _ _ _ _ _ _))

theorem writeBack_wired (s : State) (ep g : Nat) : Wired s (writeBack s ep g) := by
  unfold writeBack
  exact .trans (.of_keeps (qpSet_keeps _ _ _ _)) (dmaWrite_wired _ _ _ _ _ _ _)

theorem ringInterrupt_wired (s : State) (ep g : Nat) : Wired s (ringInterrupt s ep g) := by
  unfold ringInterrupt
  exact .ite (.trans (.trans (.of_keeps (qpSet_keeps _ _ _ _)) (writeBack_wired _ _ _)) (dueVec_wired _ _ _ _)) (.refl s)

theorem writeEntry_wired (s : State) (ep g : Nat) (e : Bytes) : Wired s (writeEntry s ep g e) := by
  unfold writeEntry
  exact .trans (.last (qpMod_keeps _ _ _ _) (dmaWrite_wired _ _ _ _ _ _ _)) (ringInterrupt_wired _ _ _)

/-! Halts. -/

theorem captureCause_wired (s : State) (ep f cause queue : Nat) : Wired s (captureCause s ep f cause queue) := by
  have captured : Wired s (fnMod s ep f (fun x => if x.errValid then x else { x with errValid := true, errCause := cause, errQueue := queue })) := by
    refine .fnSet ?_
    dsimp only
    split
    · exact .refl _
    · exact ⟨_, _, _, _, _, rfl⟩
  unfold captureCause
  exact .ite captured (.last (capture_keeps _ _ _) captured)

theorem functionError_wired (s : State) (ep f : Nat) : Wired s (functionError s ep f) := by
  have entered : Wired s (mgrEvent (fnMod s ep f (fun x => { x with inError := true })) ep 3) :=
    .trans (.fnSet ⟨_, _, _, _, _, rfl⟩) (mgrEvent_wired _ _ _)
  unfold functionError
  exact .ite (.refl s) (.ite entered (.trans entered (vfEvent_wired _ _ _ _)))

theorem haltFinish_wired (s : State) (ep g : Nat) : Wired s (haltFinish s ep g) := by
  unfold haltFinish
  refine .ite ?_ (.refl s)
  refine .last (eventToManager_keeps _ _ _) (.last (trace_keeps _ _ _ _ _ _ _) (.trans ?_ (errlogGen_wired _ _ _ _ _ _ _)))
  have noted : Wired s (if (qpGet s ep g).errRing = 2 ∨ cqSpace (qpGet s ep g) = 0 then qpMod s ep g (fun q => { q with halting := false })
      else writeEntry (qpMod s ep g (fun q => { q with halting := false })) ep g (toLe 4 (3 + 256 * (qpGet s ep g).errCause +
        65536 * (qpGet s ep g).errRing) ++ toLe 4 (qpGet s ep g).errIndex.toNat ++ zeros 8)) :=
    .ite (.of_keeps (qpMod_keeps _ _ _ _)) (.trans (.of_keeps (qpMod_keeps _ _ _ _)) (writeEntry_wired _ _ _ _))
  have dropped : ∀ u (l : List RxFrame), Wired u (l.foldl dropRx u) := fun u _ => .foldl (.refl u) (fun _ _ => .of_keeps (dropRx_keeps _ _))
  refine .ite ?_ (.trans ?_ (vfEvent_wired _ _ _ _))
  · refine .last (keepRecord_keeps _ _ _ _) (.trans (.last (qpMod_keeps _ _ _ _) (.trans ?_ (dropped _ _))) (writeBack_wired _ _ _))
    exact .last (bumpBy_keeps _ _ _) noted
  · refine .last (keepRecord_keeps _ _ _ _) (.trans (.last (qpMod_keeps _ _ _ _) (.trans ?_ (dropped _ _))) (writeBack_wired _ _ _))
    exact .last (bumpBy_keeps _ _ _) noted

theorem halt_wired (s : State) (ep g cause ring : Nat) (index : Word) : Wired s (halt s ep g cause ring index) := by
  unfold halt
  refine .ite (.refl s) ?_
  have halting : ∀ q, Wired s (qpSet s ep g q) := fun _ => .of_keeps (qpSet_keeps _ _ _ _)
  refine .trans ?_ (haltFinish_wired _ _ _)
  have caught : ∀ q f n, (∀ e, (f e).funcs = e.funcs) → (∀ e, LinkKept e (f e)) → (∀ e, quarantineTags (f e) = quarantineTags e) →
      Wired s (captureCause (epMod (qpSet s ep g q) ep f) ep (qpGet s ep g).func cause n) := fun _ _ _ funcs link tags =>
    .trans (.trans (halting _) (.epMod (link _) (funcs _) (tags _))) (captureCause_wired _ _ _ _ _)
  have stopped : ∀ r : ReadReq, (if r.queue = g ∧ r.purpose ≤ 2 ∧ ¬ r.quarantined then { r with purpose := 9 } else r).quarantined = r.quarantined ∧
      (if r.queue = g ∧ r.purpose ≤ 2 ∧ ¬ r.quarantined then { r with purpose := 9 } else r).tag = r.tag := fun r => by
    split <;> exact ⟨rfl, rfl⟩
  refine .ite (.trans (.ite ?_ (.last (bump_keeps _ _) ?_)) (functionError_wired _ _ _)) ?_
  all_goals exact caught _ _ _ (fun _ => rfl) (fun _ => ⟨_, _, _, _, _, _, rfl⟩) (fun _ => quarantineTags_map stopped)

/-! Rings and walkers. -/

theorem issueBufs_wired (s : State) (ep g : Nat) (l : List BufRead) : Wired s (issueBufs s ep g l).1 := by
  induction l generalizing s with
  | nil => exact .refl s
  | cons b l ih =>
    unfold issueBufs
    dsimp only
    split
    · exact ih s
    · split
      · exact .trans (issueRead_wired ‹_›) (ih _)
      · exact .refl s

theorem readDesc_wired (s : State) (ep g : Nat) : Wired s (readDesc s ep g) := by
  unfold readDesc
  refine .ite (.refl s) ?_
  split
  · exact issueRead_wired ‹_›
  · exact .refl s

theorem txPump_wired (s : State) (ep g : Nat) : Wired s (txPump s ep g) := by
  unfold txPump
  refine .ite (.refl s) (.ite (.last (qpMod_keeps _ _ _ _) (issueBufs_wired _ _ _ _)) ?_)
  refine .ite (readDesc_wired _ _ _) (.ite (halt_wired _ _ _ _ _ _) ?_)
  exact .last (qpMod_keeps _ _ _ _) (issueBufs_wired _ _ _ _)

theorem rxPump_wired (s : State) (ep g : Nat) : Wired s (rxPump s ep g) := by
  unfold rxPump
  refine .ite (.refl s) ?_
  split
  · exact issueRead_wired ‹_›
  · exact .refl s

theorem pump_wired (s : State) (ep g : Nat) : Wired s (pump s ep g) := (txPump_wired _ _ _).trans (rxPump_wired _ _ _)

theorem reissueReads_wired (s : State) (ep : Nat) : Wired s (reissueReads s ep) := by
  unfold reissueReads
  refine .foldl (.refl s) (fun _ _ => ?_)
  split
  · exact .trans (issueRead_wired ‹_›) (.epMod ⟨_, _, _, _, _, _, rfl⟩ rfl)
  · exact .refl _

theorem walkIssue_wired (s : State) (i : Nat) : Wired s (walkIssue s i) := by
  unfold walkIssue
  dsimp only
  split
  · split
    · exact .last (walkSet_keeps _ _ _) (issueRead_wired ‹_›)
    · exact .refl s
  · split
    · exact .last (walkSet_keeps _ _ _) (issueRead_wired ‹_›)
    · exact .refl s
  · exact .refl s

theorem pumpAll_wired (s : State) (ep : Nat) : Wired s (pumpAll s ep) := by
  unfold pumpAll walkPump
  refine .foldl (.foldl (reissueReads_wired _ _) (fun _ _ => .ite (pump_wired _ _ _) (.refl _))) (fun _ _ => ?_)
  exact .ite (walkIssue_wired _ _) (.refl _)

theorem resumeSending_wired (s : State) (ep : Nat) : Wired s (resumeSending s ep) := by
  unfold resumeSending sendHeld
  refine .trans (.foldl (.epMod ⟨_, _, _, _, _, _, rfl⟩ rfl) (fun _ _ => ?_)) (pumpAll_wired _ _)
  exact .ite (.emit _ _) (.refl _)

end Sys2Proof.Machine
end

section
/-! PROOFS. PCI Express links, windows, configuration and resets of functions (O25). -/

namespace Sys2Proof.Machine

open Sys2Proof

set_option Elab.async false

/-! Lanes out of service. -/

/-- Setting one bit of a number. -/
theorem putBits_one (x i : Nat) : putBits x i i 1 = x ||| 2 ^ i := by
  obtain ⟨a, b, c, bit, low, rfl⟩ : ∃ a b c, b < 2 ∧ c < 2 ^ i ∧ x = 2 ^ i * (2 * a + b) + c := by
    refine ⟨x / 2 ^ i / 2, x / 2 ^ i % 2, x % 2 ^ i, Nat.mod_lt _ (by decide), Nat.mod_lt _ (by positivity), ?_⟩
    rw [Nat.div_add_mod, Nat.div_add_mod]
  have field : bits (2 ^ i * (2 * a + b) + c) i i = b := by
    unfold bits
    rw [Nat.mul_add_div (by positivity), Nat.div_eq_of_lt low, Nat.add_zero, show i + 1 - i = 1 by omega]
    omega
  have set : putBits (2 ^ i * (2 * a + b) + c) i i 1 = 2 ^ i * (2 * a + 1) + c := by
    unfold putBits
    rw [field, show i + 1 - i = 1 by omega]
    have : 2 ^ i * (2 * a + b) = 2 ^ i * (2 * a) + b * 2 ^ i := by ring
    have : 2 ^ i * (2 * a + 1) = 2 ^ i * (2 * a) + 2 ^ i := by ring
    omega
  rw [set]
  refine Nat.eq_of_testBit_eq (fun j => ?_)
  rw [Nat.testBit_or, Nat.testBit_two_pow_mul_add _ low, Nat.testBit_two_pow_mul_add _ low, Nat.testBit_two_pow]
  rcases Nat.lt_trichotomy j i with below | rfl | above
  · simp [below, Nat.ne_of_gt below]
  · simp
  · obtain ⟨n, rfl⟩ := Nat.exists_eq_add_of_lt above
    have halves : (2 * a + b) / 2 = a ∧ (2 * a + 1) / 2 = a := by omega
    have apart : ¬ i = i + n + 1 ∧ ¬ i + n + 1 < i := by omega
    simp [show i + n + 1 - i = n + 1 by omega, Nat.testBit_succ, halves, apart]

theorem lanesRetired_hwSetField (s : State) {ep lane : Nat} (named : ep < 2) (onLink : lane < 16) :
    lanesRetired (hwSetField s 0x027 (16 * ep + lane) (16 * ep + lane) 1) ep = lanesRetired s ep ||| 2 ^ lane := by
  unfold lanesRetired hwField hwSetField
  rw [hwWord_hwSet_self, putBits_one]
  refine Nat.eq_of_testBit_eq (fun j => ?_)
  rw [Nat.testBit_or, testBit_bits, testBit_bits, BitVec.toNat_ofNat, BitVec.toNat_ofNat, show hwMask 0x027 = 2 ^ 32 - 1 by decide,
    Nat.and_two_pow_sub_one_eq_mod, Nat.mod_mod, Nat.mod_mod, Nat.testBit_mod_two_pow, Nat.testBit_or, Nat.testBit_two_pow, Nat.testBit_two_pow]
  rcases Decidable.em (j < 16) with inside | outside
  · have same : decide (16 * ep + lane = 16 * ep + j) = decide (lane = j) := by simp
    have word : decide (16 * ep + j < 32) = true := decide_eq_true (by omega)
    have field : decide (j < 16 * ep + 15 + 1 - 16 * ep) = true := decide_eq_true (by omega)
    rw [same, word, field]
    rfl
  · have field : decide (j < 16 * ep + 15 + 1 - 16 * ep) = false := decide_eq_false (by omega)
    rw [field]
    simp; omega

theorem noteLink_told (s : State) (ep : Nat) : Told s (noteLink s ep) := by
  unfold noteLink
  exact (mgrEventBoth_told _ _).trans (eventToManager_told _ _ _)

/-- What the retirement of a lane leaves: the lane in Heartwood, the link up or down as it was, and its width within the lanes left. -/
theorem retirePcieLane_retires (s : State) {ep lane : Nat} (cause : Nat) (named : ep < 2) (onLink : lane < 16) :
    lanesRetired (retirePcieLane s ep lane cause) ep = lanesRetired s ep ||| 2 ^ lane ∧
    (epGet (retirePcieLane s ep lane cause) ep).dlUp = (epGet s ep).dlUp ∧
    ((epGet s ep).dlUp = true → (epGet (retirePcieLane s ep lane cause) ep).width =
      min (epGet s ep).width (laneGroup (lanesRetired s ep ||| 2 ^ lane))) := by
  unfold retirePcieLane
  extract_lets before t e u
  have lanes : lanesRetired t ep = lanesRetired s ep ||| 2 ^ lane := lanesRetired_hwSetField s named onLink
  have link : epGet t ep = epGet s ep := rfl
  have told : Told u (noteMode before (noteRetired u 5 cause (16 * ep + lane) 0 ep) 1) :=
    (noteRetired_told _ _ _ _ _ _).trans (noteMode_told _ _ _)
  have wired : Wired u (noteMode before (noteRetired u 5 cause (16 * ep + lane) 0 ep) 1) :=
    (noteRetired_wired _ _ _ _ _ _).trans (noteMode_wired _ _ _)
  obtain ⟨_, _, _, _, _, _, kept⟩ := wired.link ep
  have words : lanesRetired u ep = lanesRetired t ep := by
    have : Told t u := .ite (.trans (.last (linkSet_keeps _ _ _ _ _ _) (.refl t)) (noteLink_told _ _)) (.refl t)
    exact this.field _ _
  have ends : (epGet u ep).dlUp = e.dlUp ∧ (e.dlUp = true → (epGet u ep).width = min e.width (laneGroup (lanesRetired t ep))) := by
    by_cases up : e.dlUp = true
    · obtain ⟨_, _, _, _, _, _, same⟩ := (noteLink_wired (linkSet t ep e.speed (min e.width (laneGroup (lanesRetired t ep))) e.flit true) ep).link ep
      rw [show u = noteLink (linkSet t ep e.speed (min e.width (laneGroup (lanesRetired t ep))) e.flit true) ep from if_pos up, same]
      unfold linkSet epMod
      rw [epGet_epSet_self]
      exact ⟨up.symm, fun _ => rfl⟩
    · rw [show u = t from if_neg up]
      exact ⟨rfl, fun h => absurd h up⟩
  rw [lanes] at ends
  refine ⟨by rw [← lanes, ← words]; exact told.field _ _, ?_⟩
  rw [kept]
  exact ends

/-! Function level resets. -/

/-- An endpoint changed apart from its functions keeps every function. -/
theorem fnGet_epMod (s : State) (ep : Nat) {g : Endpoint → Endpoint} (funcs : ∀ e, (g e).funcs = e.funcs) (k n : Nat) :
    fnGet (epMod s ep g) k n = fnGet s k n := by
  unfold fnGet epMod
  rcases epGet_epSet s ep k (g (epGet s ep)) with ⟨set, same⟩ | same
  · rw [set, same, funcs]
  · rw [same]

theorem fnGet_fnSet_ne (s : State) {ep f n : Nat} (g : Func) (other : n ≠ f) (k : Nat) : fnGet (fnSet s ep f g) k n = fnGet s k n := by
  unfold fnGet fnSet epMod
  rcases epGet_epSet s ep k { epGet s ep with funcs := mapSet (epGet s ep).funcs f g } with ⟨set, same⟩ | same
  · rw [set, same]; exact mapGetD_mapSet_ne _ _ _ other
  · rw [same]

theorem dropReads_fnGet (s : State) (ep g k n : Nat) : fnGet (dropReads s ep g) k n = fnGet s k n := by
  unfold dropReads
  exact fnGet_epMod s ep (fun _ => by rfl) k n

theorem flushStart_fnGet (s : State) (ep g cause : Nat) (cmd : Option (Nat × Nat)) (k n : Nat) :
    fnGet (flushStart s ep g cause cmd) k n = fnGet s k n := by
  unfold flushStart
  dsimp only
  split
  · rfl
  · rfl
  · split
    all_goals exact dropReads_fnGet _ _ _ _ _

/-- The next generation of a function leaves every other function alone. -/
theorem nextGeneration_fnGet (s : State) (ep f cause : Nat) :
    fnGet (nextGeneration s ep f cause) ep f = { fnGet s ep f with gen := (fnGet s ep f).gen + 1, due := [], pba := [] } ∧
    ∀ k n, n ≠ f → fnGet (nextGeneration s ep f cause) k n = fnGet s k n := by
  unfold nextGeneration
  extract_lets u v mine w
  have flushed : ∀ k n, fnGet w k n = fnGet s k n := fun k n =>
    (show fnGet w k n = fnGet v k n from fnGet_epMod v ep (fun _ => by rfl) k n).trans (foldl_same (fun s => fnGet s k n) (fun _ _ => flushStart_fnGet _ _ _ _ _ _ _) _ _)
  refine ⟨?_, fun k n other => (fnGet_fnSet_ne _ _ other _).trans (flushed k n)⟩
  unfold fnMod
  rw [fnGet_fnSet_self, flushed]

theorem flrStart_fnGet (s : State) (ep f cause : Nat) :
    (fnGet (flrStart s ep f cause) ep f).flrActive = true ∧
    ((fnGet s ep f).flrActive = false → (fnGet (flrStart s ep f cause) ep f).gen = (fnGet s ep f).gen + 1 ∧
      (fnGet (flrStart s ep f cause) ep f).bme = false) ∧
    ∀ k n, n ≠ f → fnGet (flrStart s ep f cause) k n = fnGet s k n := by
  unfold flrStart
  by_cases active : (fnGet s ep f).flrActive = true
  · rw [if_pos active]
    exact ⟨active, fun h => absurd active (by simp [h]), fun _ _ _ => rfl⟩
  · obtain ⟨self, others⟩ := nextGeneration_fnGet s ep f cause
    have traced : ∀ u data, fnGet (trace u (34 + ep) 3 0 (sliceOfFunc ep f) 0 data) = fnGet u := fun u _ => by
      funext k n
      exact fnGet_congr ((trace_keeps u _ _ _ _ _ _).same .ep0) ((trace_keeps u _ _ _ _ _ _).same .ep1) _ _
    rw [if_neg active]
    dsimp only
    rw [traced]
    unfold fnMod
    refine ⟨by rw [fnGet_fnSet_self], fun _ => ?_, fun k n other => (fnGet_fnSet_ne _ _ other _).trans (others k n other)⟩
    rw [fnGet_fnSet_self, self]
    exact ⟨rfl, rfl⟩

/-- Resets of other functions leave a function alone. -/
theorem flrStarts_fnGet (ep f : Nat) (cause : Nat → Nat) (vs : List Nat) (s : State) (k : Nat) (others : f ∉ vs) :
    fnGet (vs.foldl (fun s v => flrStart s ep v (cause v)) s) k f = fnGet s k f := by
  induction vs generalizing s with
  | nil => rfl
  | cons v vs ih =>
    rw [List.mem_cons, not_or] at others
    exact (ih _ others.2).trans ((flrStart_fnGet s ep v _).2.2 k f others.1)

theorem flrStarts_active (ep : Nat) (cause : Nat → Nat) (vs : List Nat) (s : State) {f : Nat}
    (reset : f ∈ vs ∨ (fnGet s ep f).flrActive = true) :
    (fnGet (vs.foldl (fun s v => flrStart s ep v (cause v)) s) ep f).flrActive = true := by
  induction vs generalizing s with
  | nil => exact reset.resolve_left (by simp)
  | cons v vs ih =>
    obtain ⟨started, -, others⟩ := flrStart_fnGet s ep v (cause v)
    refine ih _ ?_
    by_cases this : f = v
    · exact .inr (this ▸ started)
    · rw [List.mem_cons] at reset
      rw [others ep f this]
      exact reset.imp_left (fun h => h.resolve_left this)

theorem pf_not_enabledVf (s : State) (ep : Nat) : 0 ∉ enabledVfs s ep := by
  unfold enabledVfs
  dsimp only
  split <;> simp

/-! Mailbox endpoints of a function that is reset. -/

theorem bumpHostGen_chan_ne (s : State) {ch k : Nat} (other : k ≠ ch) : chanGet (bumpHostGen s ch) k = chanGet s k := by
  unfold bumpHostGen
  extract_lets c toFw u v
  have counted : u.mbx = s.mbx := Keeps.same (ps := [.regs]) (.ite (.mono (bump_keeps s _)) .refl) .mbx
  have raised : chanGet v k = chanGet s k := by
    rw [noteCrossing_chan_ne _ other, chanGet_chanSet_ne _ _ other, chanGet_congr counted]
  split
  · rw [chanGet_congr ((bmcShow_keeps v).same .mbx), raised]
  · exact raised

theorem Told.hostGen {s t : State} (h : Told s t) (ch : Nat) : (chanGet t ch).hostGen = (chanGet s ch).hostGen := by
  obtain ⟨_, _, _, same⟩ := h.chan ch
  rw [same]

theorem bumpHostGen_wired (s : State) (ch : Nat) : Wired s (bumpHostGen s ch) := by
  have kept : Keeps [.mbx, .regs, .out] s (bumpHostGen s ch) := bumpHostGen_keeps s ch
  have h0 : (bumpHostGen s ch).ep0 = s.ep0 := kept.same .ep0
  have h1 : (bumpHostGen s ch).ep1 = s.ep1 := kept.same .ep1
  obtain ⟨-, -, -, -, sent⟩ := bumpHostGen_raises s ch
  exact ⟨fun ep => by rw [epGet_congr h0 h1]; exact .refl _, fun ep f => by rw [fnGet_congr h0 h1]; exact .refl _,
    fun ep => by rw [epGet_congr h0 h1], sent⟩

theorem chanFlr_wired (s : State) (ch : Nat) : Wired s (chanFlr s ch) := by
  have shown : ∀ u, Wired u (showToHost u ch) := fun u => by
    have sent : Wired u (bmcShow u) := by
      obtain ⟨os, h⟩ := bmcShow_emits u
      have h0 := (bmcShow_keeps u).same .ep0
      have h1 := (bmcShow_keeps u).same .ep1
      exact ⟨fun ep => by rw [epGet_congr h0 h1]; exact .refl _, fun ep f => by rw [fnGet_congr h0 h1]; exact .refl _,
        fun ep => by rw [epGet_congr h0 h1], os, h⟩
    have woken : Wired u (wakeHost u ch) := by
      unfold wakeHost
      dsimp only
      split
      · exact .ite (dueVec_wired _ _ _ _) (.refl u)
      · exact .refl u
    unfold showToHost
    dsimp only
    split
    · exact .ite (.trans (.ite sent woken) (mgrEvent_wired _ _ _)) (.ite sent woken)
    · exact .ite sent woken
  have cleared : ∀ u g, Wired u (chanMod u ch g) := fun _ _ => .of_parts rfl rfl rfl
  unfold chanFlr
  exact .ite (.trans (.trans (bumpHostGen_wired _ _) (cleared _ _)) (shown _)) (.trans (bumpHostGen_wired _ _) (cleared _ _))

theorem chanFlr_hostGen (s : State) (ch k : Nat) :
    (chanGet (chanFlr s ch) k).hostGen = if k = ch then (chanGet s k).hostGen + 1 else (chanGet s k).hostGen := by
  unfold chanFlr
  extract_lets u v
  have told : Told v (if hostShown (chanGet v ch) then showToHost v ch else v) := .ite (showToHost_told _ _) (.refl v)
  rw [told.hostGen]
  by_cases this : k = ch
  · obtain ⟨raised, -⟩ := bumpHostGen_raises s ch
    rw [if_pos this, this]
    exact (congrArg MbxChan.hostGen (chanGet_chanMod_self u ch _)).trans raised
  · rw [if_neg this]
    exact congrArg MbxChan.hostGen ((chanGet_chanMod_ne u _ this).trans (bumpHostGen_chan_ne s this))

theorem chanFlrs_hostGen (l : List Nat) (s : State) {k : Nat} (distinct : l.Nodup) :
    (chanGet (l.foldl chanFlr s) k).hostGen = if k ∈ l then (chanGet s k).hostGen + 1 else (chanGet s k).hostGen := by
  induction l generalizing s with
  | nil => rfl
  | cons ch l ih =>
    rw [List.nodup_cons] at distinct
    rw [List.foldl_cons, ih _ distinct.2, chanFlr_hostGen]
    by_cases this : k = ch
    · subst this; simp [distinct.1]
    · simp [this]

theorem chansOf_nodup (ep f : Nat) : (chansOf ep f).Nodup := by
  unfold chansOf
  split <;> simp

/-- The end of a reset: the function works again in its generation, and each of its channels begins a new one. -/
theorem flrEnd_ends (s : State) (ep f : Nat) : (fnGet (flrEnd s ep f) ep f).flrActive = false ∧
    (fnGet (flrEnd s ep f) ep f).gen = (fnGet s ep f).gen ∧
    ∀ ch ∈ chansOf ep f, (chanGet (flrEnd s ep f) ch).hostGen = (chanGet s ch).hostGen + 1 := by
  unfold flrEnd
  extract_lets u v w x
  generalize toLe 1 ep ++ zeros 1 ++ toLe 2 f ++ toLe 2 (fnGet x ep f).gen.toNat ++ zeros 2 = data
  have mbx : w.mbx = s.mbx := by
    have cleared : Keeps [.cry, .nvt, .regs, .latches, .ep0, .ep1] s w := by
      refine .last (fnMod_keeps _ _ _ _) ?_
      refine .ite (.last (pfRegsReset_keeps _ _) ?_) (.last (regsReset_keeps _ _ _) ?_) <;> exact .mono (invalidateOwn_keeps _ _ _)
    exact cleared.same .mbx
  have started : fnGet v ep f = fnGet s ep f := by
    have cleared : Keeps [.cry, .nvt, .regs, .latches] s v := by
      refine .ite (.last (pfRegsReset_keeps _ _) ?_) (.last (regsReset_keeps _ _ _) ?_) <;> exact .mono (invalidateOwn_keeps _ _ _)
    exact fnGet_congr (cleared.same .ep0) (cleared.same .ep1) ep f
  have working : (fnGet w ep f).flrActive = false ∧ (fnGet w ep f).gen = (fnGet s ep f).gen := by
    rw [← started]
    unfold w fnMod
    rw [fnGet_fnSet_self]
    exact ⟨rfl, rfl⟩
  have wired : Wired w (eventToManager (mgrEventBoth x 2) 0x8123 data) :=
    .last (eventToManager_keeps _ _ _) (.trans (.foldl (.refl w) chanFlr_wired) (mgrEventBoth_wired _ _))
  have told : Told x (eventToManager (mgrEventBoth x 2) 0x8123 data) :=
    (mgrEventBoth_told _ _).trans (eventToManager_told _ _ _)
  obtain ⟨_, _, _, _, _, kept⟩ := wired.func ep f
  refine ⟨by rw [kept]; exact working.1, by rw [kept]; exact working.2, fun ch own => ?_⟩
  rw [told.hostGen, chanFlrs_hostGen _ _ (chansOf_nodup ep f), if_pos own, chanGet_congr mbx]

/-! Links and lanes. -/

theorem epGet_epSet_other (s : State) {ep : Nat} (named : ep ≤ 1) (e : Endpoint) : epGet (epSet s ep e) (1 - ep) = epGet s (1 - ep) := by
  have : ep = 0 ∨ ep = 1 := by omega
  rcases this with rfl | rfl <;> rfl

theorem pcieLinkTrain_trains {s : State} {ep speed width : Nat} {flit : Bool} (supplied : s.dev.base ≠ .off) (released : s.dev.base ≠ .held)
    (named : ep ≤ 1) (slowest : 1 ≤ speed) (fastest : speed ≤ 6) (lanes : width ∈ [1, 2, 4, 8, 16]) :
    Completes (.pcieLinkTrain ep speed width flit) s (fun t => (epGet t ep).speed = speed ∧ (epGet t ep).dlUp = true ∧
      (epGet t ep).width = min width (laneGroup (lanesRetired s ep)) ∧ (epGet t ep).perst = false ∧
      (epGet t (1 - ep)).speed = (epGet s (1 - ep)).speed ∧ ChangesOnly [.ep0, .ep1, .regs, .mbx, .gauge] s t) := by
  obtain ⟨u, hu⟩ : ∃ u, u = epMod (linkSet s ep speed (min width (laneGroup (lanesRetired s ep))) (flit || decide (speed = 6)) true) ep
      (fun e => { e with perst := false }) := ⟨_, rfl⟩
  have trained : exec (.pcieLinkTrain ep speed width flit) s = .next (noteLink u ep) :=
    hu ▸ if_neg (by rintro (h | h | h | h | h | h); exacts [supplied h, released h, by omega, by omega, by omega, h lanes])
  have own : (epGet u ep).speed = speed ∧ (epGet u ep).dlUp = true ∧ (epGet u ep).width = min width (laneGroup (lanesRetired s ep)) ∧
      (epGet u ep).perst = false := by
    rw [hu]
    unfold linkSet epMod
    rw [epGet_epSet_self, epGet_epSet_self]
    exact ⟨rfl, rfl, rfl, rfl⟩
  have other : epGet u (1 - ep) = epGet s (1 - ep) := by
    rw [hu]
    unfold linkSet epMod
    rw [epGet_epSet_other _ named, epGet_epSet_other _ named]
  obtain ⟨_, _, _, _, _, _, noted⟩ := (noteLink_wired u ep).link ep
  obtain ⟨_, _, _, _, _, _, noted'⟩ := (noteLink_wired u ep).link (1 - ep)
  have frame : ChangesOnly [.ep0, .ep1, .regs, .mbx, .gauge] s (noteLink u ep) := exec_changes trained
  refine ⟨_, trained, ?_⟩
  dsimp only
  rw [noted, noted']
  exact ⟨own.1, own.2.1, own.2.2.1, own.2.2.2, (congrArg Endpoint.speed other : _), frame⟩

theorem pcieLaneFree_named {s : State} {ep lane : Nat} (free : pcieLaneFree s ep lane = true) : ep < 2 ∧ lane < 16 := by
  unfold pcieLaneFree at free
  simp only [Bool.and_eq_true, decide_eq_true_eq] at free
  exact free.1.1

theorem pcieLaneErrorPoll_retires {s : State} {ep lane : Nat} (host : hostOpen s = true) (free : pcieLaneFree s ep lane = true) :
    Completes (.pcieLaneErrorPoll ep lane) s (fun t => lanesRetired t ep = lanesRetired s ep ||| 2 ^ lane ∧ (epGet t ep).dlUp = (epGet s ep).dlUp ∧
      ((epGet s ep).dlUp = true → (epGet t ep).width = min (epGet s ep).width (laneGroup (lanesRetired s ep ||| 2 ^ lane))) ∧
      ChangesOnly [.ep0, .ep1, .regs, .mbx, .gauge, .hw, .dev] s t) := by
  have retires : exec (.pcieLaneErrorPoll ep lane) s = .next (retirePcieLane s ep lane 1) := if_pos ⟨free, host⟩
  obtain ⟨named, onLink⟩ := pcieLaneFree_named free
  obtain ⟨lanes, up, width⟩ := retirePcieLane_retires s 1 named onLink
  exact ⟨_, retires, lanes, up, width, exec_changes retires⟩

theorem retirePcieLane_told (s : State) {ep lane : Nat} (cause ch : Nat) :
    (chanGet (retirePcieLane s ep lane cause) ch).started = (chanGet s ch).started := by
  unfold retirePcieLane
  extract_lets before t e u
  have told : Told t (noteMode before (noteRetired u 5 cause (16 * ep + lane) 0 ep) 1) := by
    refine .trans (.trans ?_ (noteRetired_told _ _ _ _ _ _)) (noteMode_told _ _ _)
    exact .ite (.trans (.last (linkSet_keeps _ _ _ _ _ _) (.refl t)) (noteLink_told _ _)) (.refl t)
  exact told.started ch

theorem hifLaneRetire_answers : AnswersOk .hifLaneRetire 0x0123 (fun s _ req => pcieLaneFree s (byteAt req 0) (byteAt req 1) = true)
    (fun s _ req => toLe 1 (if (epGet s (byteAt req 0)).dlUp
      then min (epGet s (byteAt req 0)).width (laneGroup (lanesRetired s (byteAt req 0) ||| 2 ^ byteAt req 1))
      else laneGroup (lanesRetired s (byteAt req 0) ||| 2 ^ byteAt req 1)) ++ zeros 3)
    (fun s t _ req => lanesRetired t (byteAt req 0) = lanesRetired s (byteAt req 0) ||| 2 ^ byteAt req 1 ∧
      (epGet t (byteAt req 0)).dlUp = (epGet s (byteAt req 0)).dlUp) := by
  refine answersOk_of_command (fun s ch seq => (rfl : execHifLaneRetire ch seq s = _)) (fun s ch seq req free => ?_)
  obtain ⟨named, onLink⟩ := pcieLaneFree_named free
  obtain ⟨lanes, up, width⟩ := retirePcieLane_retires s 0 named onLink
  refine ⟨retirePcieLane s (byteAt req 0) (byteAt req 1) 0, ?_, retirePcieLane_told s 0 ch, ?_, ?_⟩
  · dsimp only
    rw [free, lanes, up]
    by_cases linked : (epGet s (byteAt req 0)).dlUp = true
    · rw [if_pos linked, if_pos linked, width linked]; rfl
    · rw [if_neg linked, if_neg linked]; rfl
  · unfold lanesRetired hwField
    rw [hwWord_answer]
    exact lanes
  · rw [← up]
    exact congrArg Endpoint.dlUp (epGet_congr (answer_ep0 _ _ _ _ _) (answer_ep1 _ _ _ _ _) _)

/-! Windows. -/

theorem hifWttSet_answers : AnswersOk .hifWttSet 0x0120
    (fun _ _ req => byteAt req 0 ≤ 1 ∧ 1 ≤ byteAt req 1 ∧ 1 ≤ byteAt req 2 ∧ byteAt req 2 ≤ 30 ∧ byteAt req 1 + byteAt req 2 ≤ 256 ∧
      byteAt req 3 = 0 ∧ ∀ i < byteAt req 2, bits (le req (4 + 8 * i) 4) 17 3 = 0 ∧ bits (le req (8 + 8 * i) 4) 31 16 = 0) (fun _ _ _ => [])
    (fun s t ch req => (∀ i < byteAt req 2, wttGet t (byteAt req 0) (byteAt req 1 + i) =
      (BitVec.ofNat 32 (le req (4 + 8 * i) 4), BitVec.ofNat 32 (le req (8 + 8 * i) 4))) ∧ AnswerFrame [.ep0, .ep1] s t ch) := by
  refine answersOk_set (fun s ch seq => (rfl : execHifWttSet ch seq s = _)) ?_
  rintro s ch seq req ⟨named, first, some, few, inside, reserved, fields⟩
  refine ⟨_, if_neg ?_, (epMod_keeps _ _ _).same .mbx, fun i below => ?_, answer_frame_quiet ch seq rcOk [] (epMod_keeps _ _ _).frame (by decide) (by decide)⟩
  · rintro (h | h | h | h | h | h | h)
    · omega
    · omega
    · omega
    · omega
    · omega
    · exact h reserved
    · obtain ⟨i, below, h⟩ := List.any_eq_true.mp h
      obtain ⟨low, high⟩ := fields i (List.mem_range.mp below)
      simp [low, high] at h
  · unfold wttGet
    rw [if_neg (by omega), epGet_congr (answer_ep0 _ _ _ _ _) (answer_ep1 _ _ _ _ _)]
    unfold epMod
    rw [epGet_epSet_self]
    dsimp only [mapGetD]
    rw [mapGet_foldl_mapSet, if_pos (by omega), Nat.add_sub_cancel_left]
    rfl

theorem hifWttRead_answers : AnswersOk .hifWttRead 0x0121
    (fun _ _ req => byteAt req 0 ≤ 1 ∧ 1 ≤ byteAt req 2 ∧ byteAt req 2 ≤ 30 ∧ byteAt req 1 + byteAt req 2 ≤ 256)
    (fun s _ req => req ++ (List.range (byteAt req 2)).flatMap (fun i =>
      toLe 4 (wttGet s (byteAt req 0) (byteAt req 1 + i)).1.toNat ++ toLe 4 (wttGet s (byteAt req 0) (byteAt req 1 + i)).2.toNat))
    (fun s t ch _ => AnswerFrame [] s t ch) := by
  refine answersOk_query (fun s ch seq => (rfl : execHifWttRead ch seq s = _)) ?_
  rintro s ch seq req ⟨named, some, few, inside⟩
  exact if_neg (by omega)

theorem hifLinkQuery_answers : AnswersOk .hifLinkQuery 0x0122 (fun _ _ req => byteAt req 0 ≤ 1)
    (fun s _ req => toLe 4 (linkStatus s (byteAt req 0)) ++ toLe 4 (containStatus s (byteAt req 0)) ++
      toLe 4 (counter s (r_HIF_CNT_CPL_TIMEOUT (byteAt req 0))).toNat ++ toLe 4 (counter s (r_HIF_CNT_LATE_CPL (byteAt req 0))).toNat)
    (fun s t ch _ => AnswerFrame [] s t ch) :=
  answersOk_query (fun s ch seq => (rfl : execHifLinkQuery ch seq s = _)) (fun _ _ _ _ named => if_neg (Nat.not_lt.mpr named))

/-! Writes of configuration space. -/

/-- A write that reaches its function takes effect and is completed. -/
theorem completes_cfgWrite {c : Instr} {s : State} {ep f : Nat} {body : State → State} {Q : State → Prop} (reaches : cfgOpen s ep f = true)
    (row : exec c s = cfgWrite s ep f body) (q : Q (emit (body s) (.configCompletion ep f))) : Completes c s Q :=
  completes_of (row.trans (if_pos reaches)) q

theorem stopReads_stops (s : State) (ep : Nat) (p : Nat → Bool) (r : ReadReq) (read : r ∈ (epGet (stopReads s ep p) ep).reads)
    (named : p r.func = true) : r.quarantined = true ∨ r.data.isSome = true ∨ r.purpose = 9 := by
  unfold stopReads epMod at read
  rw [epGet_epSet_self] at read
  obtain ⟨x, -, rfl⟩ := List.mem_map.mp read
  dsimp only at named ⊢
  split at named
  next hit => rw [if_pos hit]; exact .inr (.inr rfl)
  next kept =>
    rw [if_neg kept]
    by_cases quarantined : x.quarantined = true
    · exact .inl quarantined
    · by_cases arrived : x.data.isSome = true
      · exact .inr (.inl arrived)
      · refine .inr (.inr ?_)
        rw [Bool.not_eq_true, Option.isSome_eq_false_iff] at arrived
        simpa [named, quarantined, arrived] using kept

theorem stopReads_fnGet (s : State) (ep : Nat) (p : Nat → Bool) (k n : Nat) : fnGet (stopReads s ep p) k n = fnGet s k n := by
  unfold stopReads
  exact fnGet_epMod s ep (fun _ => by rfl) k n

theorem busMasterEnableWrite_stops {s : State} {ep f : Nat} (reaches : cfgOpen s ep f = true) :
    Completes (.busMasterEnableWrite ep f false) s (fun t => (fnGet t ep f).bme = false ∧
      (∀ r ∈ (epGet t ep).reads, r.func = f → r.quarantined = true ∨ r.data.isSome = true ∨ r.purpose = 9) ∧
      Emits s t [.configCompletion ep f] ∧ ChangesOnly [.ep0, .ep1, .out] s t) := by
  have kept : Keeps [.ep0, .ep1] s (stopReads (fnMod s ep f (fun g => { g with bme := false })) ep (fun x => decide (x = f))) :=
    .last (stopReads_keeps _ _ _) (.mono (fnMod_keeps _ _ _ _))
  have disabled : (fnGet (stopReads (fnMod s ep f (fun g => { g with bme := false })) ep (fun x => decide (x = f))) ep f).bme = false := by
    rw [stopReads_fnGet]
    unfold fnMod
    rw [fnGet_fnSet_self]
  exact completes_cfgWrite reaches (rfl : execBusMasterEnableWrite ep f false s = _) ⟨disabled,
    fun r read own => stopReads_stops _ _ (fun x => decide (x = f)) r read (decide_eq_true own), emit_emits _ (kept.same .out),
    (Keeps.last (emit_keeps _ _) kept.mono).frame⟩

theorem busMasterEnableWrite_resumes {s : State} {ep f : Nat} (reaches : cfgOpen s ep f = true) :
    Completes (.busMasterEnableWrite ep f true) s (fun t => (fnGet t ep f).bme = true ∧ ∃ os, Emits s t (os ++ [.configCompletion ep f])) := by
  have enabled : (fnGet (fnMod s ep f (fun g => { g with bme := true })) ep f).bme = true := by
    unfold fnMod
    rw [fnGet_fnSet_self]
  have resumed := resumeSending_wired (fnMod s ep f (fun g => { g with bme := true })) ep
  obtain ⟨_, _, _, _, _, kept⟩ := resumed.func ep f
  obtain ⟨os, sent⟩ := resumed.out
  have bme : (fnGet (resumeSending (fnMod s ep f (fun g => { g with bme := true })) ep) ep f).bme = true := by rw [kept]; exact enabled
  exact completes_cfgWrite reaches (rfl : execBusMasterEnableWrite ep f true s = _) ⟨bme, os,
    Emits.append (sent.of_same ((fnMod_keeps _ _ _ _).same .out)) rfl⟩

theorem configWrite_writes {s : State} {ep f field value : Nat} (reaches : cfgOpen s ep f = true) :
    Completes (.configWrite ep f field value) s (fun t =>
      (fnGet t ep f).d3hot = (cfgField (fnGet s ep f) field value).d3hot ∧
      (fnGet t ep f).maxPayload = (cfgField (fnGet s ep f) field value).maxPayload ∧
      (fnGet t ep f).msixEnable = (cfgField (fnGet s ep f) field value).msixEnable ∧
      ((cfgField (fnGet s ep f) field value).d3hot = true → fnGet t ep f = cfgField (fnGet s ep f) field value ∧
        ChangesOnly [.ep0, .ep1, .out] s t) ∧ ∃ os, Emits s t (os ++ [.configCompletion ep f])) := by
  have written : fnGet (fnMod s ep f (fun g => cfgField g field value)) ep f = cfgField (fnGet s ep f) field value := by
    unfold fnMod
    rw [fnGet_fnSet_self]
  have quiet := fnMod_keeps s ep f (fun g => cfgField g field value)
  refine completes_cfgWrite reaches (rfl : execConfigWrite ep f field value s = _) ?_
  dsimp only
  rw [written]
  by_cases asleep : (cfgField (fnGet s ep f) field value).d3hot = true
  · have kept : Keeps [.ep0, .ep1] s (stopReads (fnMod s ep f (fun g => cfgField g field value)) ep (fun x => decide (x = f))) :=
      .last (stopReads_keeps _ _ _) quiet
    have stopped : ∀ o, fnGet (emit (stopReads (fnMod s ep f (fun g => cfgField g field value)) ep (fun x => decide (x = f))) o) ep f =
        cfgField (fnGet s ep f) field value := fun _ => (stopReads_fnGet _ _ _ _ _).trans written
    rw [if_pos asleep, stopped]
    refine ⟨rfl, rfl, rfl, fun _ => ⟨rfl, ?_⟩, [], emit_emits _ (kept.same .out)⟩
    exact (Keeps.last (emit_keeps _ _) kept.mono).frame
  · have resumed := resumeSending_wired (fnMod s ep f (fun g => cfgField g field value)) ep
    obtain ⟨_, _, _, _, _, kept⟩ := resumed.func ep f
    obtain ⟨os, sent⟩ := resumed.out
    have same : ∀ o, fnGet (emit (resumeSending (fnMod s ep f (fun g => cfgField g field value)) ep) o) ep f =
        fnGet (resumeSending (fnMod s ep f (fun g => cfgField g field value)) ep) ep f := fun _ => rfl
    rw [if_neg asleep, same, kept, written]
    exact ⟨rfl, rfl, rfl, fun h => absurd h asleep, os, Emits.append (sent.of_same (quiet.same .out)) rfl⟩

theorem flrInitiate_starts {s : State} {ep f : Nat} (reaches : cfgOpen s ep f = true) (idle : (fnGet s ep f).flrActive = false) :
    Completes (.flrInitiate ep f) s (fun t => (fnGet t ep f).flrActive = true ∧ (fnGet t ep f).gen = (fnGet s ep f).gen + 1 ∧
      (fnGet t ep f).bme = false) := by
  refine completes_cfgWrite reaches (rfl : execFlrInitiate ep f s = _) ?_
  show (fnGet (flrFunction s ep f 0) ep f).flrActive = true ∧ (fnGet (flrFunction s ep f 0) ep f).gen = _ ∧
    (fnGet (flrFunction s ep f 0) ep f).bme = false
  unfold flrFunction
  by_cases pf : f = 0
  · subst pf
    have quiet : fnGet (dropInta s ep) ep 0 = fnGet s ep 0 := by
      unfold dropInta
      split
      · exact fnGet_epMod s ep (fun _ => by rfl) ep 0
      · rfl
    obtain ⟨active, begun, -⟩ := flrStart_fnGet (dropInta s ep) ep 0 0
    rw [quiet] at begun
    rw [if_neg (by simp), if_neg (by simp [idle])]
    dsimp only
    rw [flrStarts_fnGet ep 0 (fun _ => if 0 = 0 then 1 else 0) _ _ ep (pf_not_enabledVf s ep)]
    exact ⟨active, begun idle⟩
  · obtain ⟨active, begun, -⟩ := flrStart_fnGet s ep f 0
    rw [if_pos pf]
    exact ⟨active, begun idle⟩

theorem vfEnableChange_changes {s : State} {ep n : Nat} {enable : Bool} (few : n ≤ 1024) (reaches : cfgOpen s ep 0 = true) :
    Completes (.vfEnableChange ep enable n) s (fun t => (fnGet t ep 0).vfEnable = enable ∧ (fnGet t ep 0).numVfs = n ∧
      ∀ v ∈ enabledVfs s ep, v ∉ enabledVfs t ep → (fnGet t ep v).flrActive = true) := by
  refine completes_cfgWrite reaches ((if_neg (Nat.not_lt.mpr few) : execVfEnableChange ep enable n s = _)) ?_
  dsimp only
  obtain ⟨u, hu⟩ : ∃ u, u = fnMod s ep 0 (fun g => { g with vfEnable := enable, numVfs := n }) := ⟨_, rfl⟩
  rw [← hu]
  obtain ⟨gone, hgone⟩ : ∃ gone, gone = (enabledVfs s ep).filter (fun v => !(enabledVfs u ep).contains v) := ⟨_, rfl⟩
  rw [← hgone]
  have set : (fnGet u ep 0).vfEnable = enable ∧ (fnGet u ep 0).numVfs = n := by
    rw [hu]
    unfold fnMod
    rw [fnGet_fnSet_self]
    exact ⟨rfl, rfl⟩
  have pf : fnGet (gone.foldl (fun s v => flrStart s ep v 0) u) ep 0 = fnGet u ep 0 :=
    flrStarts_fnGet ep 0 (fun _ => 0) gone u ep (by rw [hgone]; exact fun h => pf_not_enabledVf s ep (List.mem_filter.mp h).1)
  show (fnGet (gone.foldl (fun s v => flrStart s ep v 0) u) ep 0).vfEnable = enable ∧ (fnGet (gone.foldl (fun s v => flrStart s ep v 0) u) ep 0).numVfs = n ∧
    ∀ v ∈ enabledVfs s ep, v ∉ enabledVfs (gone.foldl (fun s v => flrStart s ep v 0) u) ep →
      (fnGet (gone.foldl (fun s v => flrStart s ep v 0) u) ep v).flrActive = true
  have vfs : enabledVfs (gone.foldl (fun s v => flrStart s ep v 0) u) ep = enabledVfs u ep := by
    unfold enabledVfs
    rw [pf]
  rw [pf, vfs]
  refine ⟨set.1, set.2, fun v was no => flrStarts_active ep (fun _ => 0) gone u (.inl ?_)⟩
  rw [hgone]
  exact List.mem_filter.mpr ⟨was, by simp [no]⟩

theorem flrComplete_ends {s : State} {ep f : Nat} (named : ep < 2) (active : (fnGet s ep f).flrActive = true) (empty : queuesOf s ep f = [])
    (alone : f ≠ 0 ∨ ∀ p ∈ (epGet s ep).funcs, p.1 ≠ 0 → p.2.flrActive = false) :
    Completes (.flrComplete ep f) s (fun t => (fnGet t ep f).flrActive = false ∧ (fnGet t ep f).gen = (fnGet s ep f).gen ∧
      ∀ ch ∈ chansOf ep f, (chanGet t ch).hostGen = (chanGet s ch).hostGen + 1) := by
  refine completes_of (if_pos ⟨named, active, empty, alone.imp_right (fun idle busy => ?_)⟩) (flrEnd_ends s ep f)
  obtain ⟨p, known, h⟩ := List.any_eq_true.mp busy
  simp only [Bool.and_eq_true, decide_eq_true_eq] at h
  rw [idle p known h.1] at h
  exact absurd h.2 (by decide)

theorem atsInvalidate_completes {s : State} {ep f addr len : Nat} {pasid : Option Nat} (reaches : cfgOpen s ep f = true)
    (apart : ∀ r ∈ (epGet s ep).reads, r.func = f → r.pasid = pasid → r.data.isNone = true → r.addr + r.len ≤ addr ∨ addr + len ≤ r.addr) :
    Completes (.atsInvalidate ep f pasid addr len) s (fun t => Emits s t [.invalidateCpl ep f] ∧
      (∀ p ∈ (epGet t ep).transCache, p.1 = f → p.2.1 = pasid.getD 1048576 → addr + len ≤ p.2.2 * 4096 ∨ p.2.2 * 4096 + 4096 ≤ addr) ∧
      ChangesOnly [.ep0, .ep1, .regs, .out] s t) := by
  obtain ⟨u, hu⟩ : ∃ u, u = epMod s ep (fun e => { e with transCache := e.transCache.filter (fun t =>
      !(decide (t.1 = f ∧ t.2.1 = pasid.getD 1048576) && decide (t.2.2 * 4096 < addr + len ∧ addr < t.2.2 * 4096 + 4096))) }) := ⟨_, rfl⟩
  have reads : (epGet u ep).reads = (epGet s ep).reads := by
    rw [hu]; unfold epMod; rw [epGet_epSet_self]
  have quiet : ¬ (epGet u ep).reads.any (fun r => decide (r.func = f ∧ r.pasid = pasid) && r.data.isNone &&
      decide (r.addr < addr + len ∧ addr < r.addr + r.len)) = true := by
    rw [reads, List.any_eq_true]
    rintro ⟨r, read, h⟩
    simp only [Bool.and_eq_true, decide_eq_true_eq] at h
    obtain ⟨⟨⟨own, same⟩, waits⟩, inside⟩ := h
    have := apart r read own same waits
    omega
  have row : exec (.atsInvalidate ep f pasid addr len) s =
      .next (emit (if f = 0 then u else bump u (r_HIF_VF_CNT_ATS_INV ep f)) (.invalidateCpl ep f)) := by
    rw [hu] at quiet ⊢
    show execAtsInvalidate ep f pasid addr len s = _
    unfold execAtsInvalidate
    rw [if_neg (by simpa using reaches)]
    exact if_neg quiet
  have kept : Keeps [.ep0, .ep1, .regs] s (if f = 0 then u else bump u (r_HIF_VF_CNT_ATS_INV ep f)) := by
    rw [hu]
    exact .ite (.mono (epMod_keeps _ _ _)) (.last (bump_keeps _ _) (.mono (epMod_keeps _ _ _)))
  have same : epGet (if f = 0 then u else bump u (r_HIF_VF_CNT_ATS_INV ep f)) ep = epGet u ep := by split <;> rfl
  refine completes_of row ⟨emit_emits _ (kept.same .out), ?_, (Keeps.last (emit_keeps _ _) kept.mono).frame⟩
  show ∀ p ∈ (epGet (if f = 0 then u else bump u (r_HIF_VF_CNT_ATS_INV ep f)) ep).transCache, _
  rw [same, hu]
  unfold epMod
  rw [epGet_epSet_self]
  intro p cached own process
  have outside := (List.mem_filter.mp cached).2
  simp only [own, process, and_self, decide_true, Bool.true_and, Bool.not_eq_true', decide_eq_false_iff_not] at outside
  omega

theorem doeDiscovery_answers {s : State} {ep : Nat} (i : Nat) (reaches : cfgOpen s ep 0 = true) :
    Completes (.doeDiscovery ep i) s (fun t => ChangesOnly [.out] s t ∧ Emits s t
      [.doe ep (toLe 4 1 ++ toLe 4 3 ++ toLe 4 (if i = 0 then 0x01000001 else if i = 1 then 0x00010001 else 0x0000FFFF))]) :=
  completes_of (if_pos reaches) ⟨emit_changes _ _, rfl⟩

/-- Settles O25. -/
theorem linksWindowsAndFunctionsFollowTheHost : Obligations.LinksWindowsAndFunctionsFollowTheHost := by
  unfold Obligations.LinksWindowsAndFunctionsFollowTheHost
  refine ⟨⟨fun s ep speed width flit supplied released named slowest fastest lanes =>
      pcieLinkTrain_trains supplied released named slowest fastest lanes, fun s ep lane host free => pcieLaneErrorPoll_retires host free,
      hifLaneRetire_answers, hifLinkQuery_answers, hifWttSet_answers, hifWttRead_answers⟩,
    fun s ep f reaches => busMasterEnableWrite_stops reaches, fun s ep f reaches => busMasterEnableWrite_resumes reaches,
    fun s ep f field value reaches => configWrite_writes reaches, fun s ep f reaches idle => flrInitiate_starts reaches idle,
    fun s ep enable n few reaches => vfEnableChange_changes few reaches,
    fun s ep f named active empty alone => flrComplete_ends named active empty alone,
    fun s ep f pasid addr len reaches apart => atsInvalidate_completes reaches apart, fun s ep i reaches => doeDiscovery_answers i reaches⟩

end Sys2Proof.Machine
end

section
/-! PROOFS. Containment, interrupts, LTR and violations (O26). -/

namespace Sys2Proof.Machine

open Sys2Proof

set_option Elab.async false

/-! Containment. -/

/-- An endpoint changed apart from its functions: the endpoint that results. -/
theorem epGet_epMod_self (s : State) (ep : Nat) (g : Endpoint → Endpoint) : epGet (epMod s ep g) ep = g (epGet s ep) := by
  unfold epMod
  rw [epGet_epSet_self]

theorem epGet_epMod_other (s : State) {ep : Nat} (named : ep ≤ 1) (g : Endpoint → Endpoint) :
    epGet (epMod s ep g) (1 - ep) = epGet s (1 - ep) := epGet_epSet_other s named _

theorem roleMove_wired (s : State) (ep : Nat) : Wired s (roleMove s ep) := by
  have entered : ∀ r h, Wired s (setHolder { s with role := r } h 2) := fun _ _ =>
    .last (setHolder_keeps _ _ _) (.of_parts rfl rfl rfl)
  unfold roleMove
  dsimp only
  split
  · exact .ite (.refl s) (.trans (entered _ _) (noteMode_wired _ _ _))
  · refine .ite (.refl s) (.ite (.of_keeps (setHolder_keeps _ _ _)) (.ite (.trans (entered _ _) (noteMode_wired _ _ _)) ?_))
    exact .of_keeps (setHolder_keeps _ _ _)
  · exact .refl s

/-- An endpoint's link state and containment, which the steps of a containment change in turn. -/
def linkView (e : Endpoint) : Bool × Bool × Nat := (e.dlUp, e.contained, e.cause)

theorem Wired.linkView {s t : State} (h : Wired s t) (ep : Nat) : linkView (epGet t ep) = linkView (epGet s ep) := by
  obtain ⟨_, _, _, _, _, _, kept⟩ := h.link ep
  rw [kept]
  rfl

theorem epMod_linkView (s : State) (ep : Nat) {g : Endpoint → Endpoint} (same : ∀ e, linkView (g e) = linkView e) (k : Nat) :
    linkView (epGet (epMod s ep g) k) = linkView (epGet s k) := by
  unfold epMod
  rcases epGet_epSet s ep k (g (epGet s ep)) with ⟨set, kept⟩ | kept
  · rw [set, kept, same]
  · rw [kept]

theorem fnSet_linkView (s : State) (ep f : Nat) (g : Func) (k : Nat) : linkView (epGet (fnSet s ep f g) k) = linkView (epGet s k) := by
  unfold fnSet
  exact epMod_linkView s ep (fun _ => by rfl) k

theorem dropInta_linkView (s : State) (ep k : Nat) : linkView (epGet (dropInta s ep) k) = linkView (epGet s k) := by
  unfold dropInta
  split
  · exact epMod_linkView s ep (fun _ => by rfl) k
  · rfl

theorem stopReads_linkView (s : State) (ep : Nat) (p : Nat → Bool) (k : Nat) : linkView (epGet (stopReads s ep p) k) = linkView (epGet s k) := by
  unfold stopReads
  exact epMod_linkView s ep (fun _ => by rfl) k

theorem containBegin_contains (s : State) {ep : Nat} (cause unacked : Nat) (named : ep ≤ 1) :
    linkView (epGet (containBegin s ep cause unacked) ep) = ((epGet s ep).dlUp, true, cause) ∧
    linkView (epGet (containBegin s ep cause unacked) (1 - ep)) = linkView (epGet s (1 - ep)) := by
  unfold containBegin
  extract_lets u v waiting w x y z
  have noted : ∀ data k, linkView (epGet (eventToManager (mgrEventBoth z 1) 0x8121 data) k) = linkView (epGet x k) := fun data k => by
    have wired : Wired x (eventToManager (mgrEventBoth z 1) 0x8121 data) :=
      .last (eventToManager_keeps _ _ _) (.trans (.trans (roleMove_wired x ep) (errlogGen_wired _ _ _ _ _ _ _)) (mgrEventBoth_wired _ _))
    exact wired.linkView k
  have reset : ∀ k, linkView (epGet x k) = linkView (epGet w k) := fun k => by
    unfold x
    split
    · rfl
    · exact epMod_linkView w ep (fun _ => by rfl) k
  rw [noted, noted, reset, reset, stopReads_linkView, stopReads_linkView]
  have own : linkView (epGet u ep) = linkView (epGet s ep) := dropInta_linkView s ep ep
  refine ⟨?_, ?_⟩
  · unfold v
    rw [epGet_epMod_self]
    exact congrArg (fun x => (x.1, true, cause)) own
  · unfold v
    rw [epGet_epMod_other _ named]
    exact dropInta_linkView s ep _

theorem endpointContain_contains {s : State} {ep cause n : Nat} (supplied : s.dev.base ≠ .off) (released : s.dev.base ≠ .held)
    (named : ep ≤ 1) (first : 1 ≤ cause) (last : cause ≤ 5) (free : (epGet s ep).contained = false) :
    Completes (.endpointContain ep cause n) s (fun t => (epGet t ep).contained = true ∧ (epGet t ep).cause = cause ∧
      (cause ≠ 5 → (epGet t ep).dlUp = false) ∧ (epGet t (1 - ep)).contained = (epGet s (1 - ep)).contained) := by
  obtain ⟨u, hu⟩ : ∃ u, u = if cause = 2 then epMod s ep (fun e => { e with perst := true }) else s := ⟨_, rfl⟩
  obtain ⟨v, hv⟩ : ∃ v, v = if cause ≠ 5 ∧ (epGet u ep).dlUp then noteLink (linkSet u ep 0 0 false false) ep else u := ⟨_, rfl⟩
  have reset : ∀ k, linkView (epGet u k) = linkView (epGet s k) := fun k => by
    rw [hu]
    split
    · exact epMod_linkView s ep (fun _ => by rfl) k
    · rfl
  have dropped : (epGet v ep).contained = false ∧ (cause ≠ 5 → (epGet v ep).dlUp = false) ∧
      linkView (epGet v (1 - ep)) = linkView (epGet u (1 - ep)) := by
    have unheld : (epGet u ep).contained = false := (congrArg (fun x => x.2.1) (reset ep)).trans free
    rw [hv]
    split
    next drops =>
      have own := (noteLink_wired (linkSet u ep 0 0 false false) ep).linkView ep
      have set : linkView (epGet (linkSet u ep 0 0 false false) ep) = (false, (epGet u ep).contained, (epGet u ep).cause) := by
        unfold linkSet
        rw [epGet_epMod_self]
        rfl
      rw [set] at own
      refine ⟨(congrArg (fun x => x.2.1) own).trans unheld, fun _ => congrArg (fun x => x.1) own, ?_⟩
      rw [(noteLink_wired _ ep).linkView]
      unfold linkSet
      rw [epGet_epMod_other _ named]
    next stays =>
      exact ⟨unheld, fun link => by simpa [link] using stays, rfl⟩
  obtain ⟨unheld, down, other⟩ := dropped
  have quiet : ∀ k, epGet (containCount v ep 16) k = epGet v k := fun _ => rfl
  have row : exec (.endpointContain ep cause n) s = .next (containBegin (containCount v ep 16) ep cause n) := by
    show execEndpointContain ep cause n s = _
    unfold execEndpointContain
    rw [if_neg (by rintro (h | h | h | h | h); exacts [supplied h, released h, by omega, by omega, by omega])]
    dsimp only
    rw [← hu, ← hv, quiet, unheld]
    rfl
  obtain ⟨begun, apart⟩ := containBegin_contains (containCount v ep 16) cause n named
  rw [quiet] at begun apart
  exact completes_of row ⟨congrArg (fun x => x.2.1) begun, congrArg (fun x => x.2.2) begun,
    fun link => (congrArg (fun x => x.1) begun).trans (down link),
    congrArg (fun x => x.2.1) (apart.trans (other.trans (reset (1 - ep))))⟩

/-- What a release ends with: the endpoint is free, and its functions are as the mode of the release left them. -/
theorem containRelease_free {s : State} {w ep : Nat} (mode : Nat) (named : ep ≤ 1) (contained : (epGet s ep).contained = true)
    (allowed : mayRelease s w ep = true) (up : (epGet s ep).dlUp = true) :
    ∃ u, u = epMod s ep (fun e => { e with contained := false }) ∧ (epGet u ep).contained = false ∧ vfsOf u ep = vfsOf s ep ∧
      containRelease s w ep mode =
        eventToManager (mgrEventBoth (if mode = 0 then releaseResume u ep else releaseReset u ep) 1) 0x8122
          (toLe 1 ep ++ toLe 1 mode ++ zeros 2) := by
  refine ⟨_, rfl, by rw [epGet_epMod_self], ?_, ?_⟩
  · exact (by unfold vfsOf; rw [epGet_epMod_self]; unfold epMod; rw [epSet_slices])
  · unfold containRelease
    rw [if_neg (by simp [contained, allowed]; omega), if_neg (by simp [up])]

theorem resumed_all (ep : Nat) (vs : List Nat) (s : State) {v : Nat} (named : v ∈ vs ∨ (fnGet s ep v).resumed = true) :
    (fnGet (vs.foldl (fun s v => fnMod s ep v (fun g => { g with resumed := true })) s) ep v).resumed = true := by
  induction vs generalizing s with
  | nil => exact named.resolve_left (by simp)
  | cons x xs ih =>
    refine ih _ ?_
    by_cases this : v = x
    · subst this
      unfold fnMod
      rw [fnGet_fnSet_self]
      exact .inr rfl
    · rw [List.mem_cons] at named
      unfold fnMod
      rw [fnGet_fnSet_ne _ _ this]
      exact named.imp_left (fun h => h.resolve_left this)

theorem resumed_contained (ep : Nat) (vs : List Nat) (s : State) (k : Nat) :
    linkView (epGet (vs.foldl (fun s v => fnMod s ep v (fun g => { g with resumed := true })) s) k) = linkView (epGet s k) :=
  foldl_same (fun s => linkView (epGet s k)) (fun u v => fnSet_linkView u ep v _ k) vs s

theorem containReleaseResume_frees {s : State} {w ep : Nat} (named : ep ≤ 1) (contained : (epGet s ep).contained = true)
    (allowed : mayRelease s w ep = true) (up : (epGet s ep).dlUp = true) :
    Completes (.containReleaseResume w ep) s (fun t => (epGet t ep).contained = false ∧ ∀ v ∈ vfsOf s ep, (fnGet t ep v).resumed = true) := by
  obtain ⟨u, -, free, vfs, release⟩ := containRelease_free 0 named contained allowed up
  rw [if_pos rfl] at release
  have wired : Wired ((vfsOf u ep).foldl (fun s v => fnMod s ep v (fun g => { g with resumed := true })) u) (containRelease s w ep 0) := by
    rw [release]
    exact .last (eventToManager_keeps _ _ _) (.trans (resumeSending_wired _ _) (mgrEventBoth_wired _ _))
  refine completes_of (rfl : exec (.containReleaseResume w ep) s = _) ⟨?_, fun v known => ?_⟩
  · exact (congrArg (fun x => x.2.1) ((wired.linkView ep).trans (resumed_contained ep _ u ep))).trans free
  · obtain ⟨_, _, _, _, _, kept⟩ := wired.func ep v
    rw [kept]
    exact resumed_all ep _ u (.inl (vfs ▸ known))

theorem flrStart_linkView (s : State) (ep f cause k : Nat) : linkView (epGet (flrStart s ep f cause) k) = linkView (epGet s k) := by
  have next : linkView (epGet (nextGeneration s ep f cause) k) = linkView (epGet s k) := by
    unfold nextGeneration
    extract_lets u v mine w
    have flushed : linkView (epGet u k) = linkView (epGet s k) := by
      refine foldl_same (fun s => linkView (epGet s k)) (fun u g => ?_) _ s
      unfold flushStart
      dsimp only
      split
      · rfl
      · rfl
      · split
        all_goals
          unfold dropReads
          exact epMod_linkView _ ep (fun _ => by rfl) k
    refine (epMod_linkView w ep (fun _ => by rfl) k).trans ?_
    exact (show linkView (epGet w k) = linkView (epGet v k) from epMod_linkView v ep (fun _ => by rfl) k).trans flushed
  unfold flrStart
  split
  · rfl
  · dsimp only
    rw [epGet_congr ((trace_keeps _ _ _ _ _ _ _).same .ep0) ((trace_keeps _ _ _ _ _ _ _).same .ep1)]
    exact (epMod_linkView _ ep (fun _ => by rfl) k).trans next

theorem flrFunction_linkView (s : State) (ep f cause k : Nat) : linkView (epGet (flrFunction s ep f cause) k) = linkView (epGet s k) := by
  unfold flrFunction
  split
  · exact flrStart_linkView _ _ _ _ _
  · split
    · rfl
    · refine (foldl_same (fun s => linkView (epGet s k)) (fun u v => flrStart_linkView u ep v _ k) _ _).trans ?_
      exact (flrStart_linkView _ _ _ _ _).trans (dropInta_linkView _ _ _)

theorem flrFunction_active (s : State) (ep cause : Nat) : (fnGet (flrFunction s ep 0 cause) ep 0).flrActive = true := by
  unfold flrFunction
  rw [if_neg (by simp)]
  split
  next active => exact active
  next =>
    refine (congrArg Func.flrActive (flrStarts_fnGet ep 0 (fun _ => if cause = 0 then 1 else cause) (enabledVfs s ep) _ ep
      (pf_not_enabledVf s ep))).trans ?_
    exact (flrStart_fnGet _ _ _ _).1

theorem pf_not_vfsOf (s : State) (ep : Nat) : 0 ∉ vfsOf s ep := by
  unfold vfsOf
  simp

theorem containReleaseReset_frees {s : State} {w ep : Nat} (named : ep ≤ 1) (contained : (epGet s ep).contained = true)
    (allowed : mayRelease s w ep = true) (up : (epGet s ep).dlUp = true) :
    Completes (.containReleaseReset w ep) s (fun t => (epGet t ep).contained = false ∧ (fnGet t ep 0).flrActive = true ∧
      ∀ v ∈ vfsOf s ep, (fnGet t ep v).flrActive = true) := by
  obtain ⟨u, -, free, vfs, release⟩ := containRelease_free 1 named contained allowed up
  rw [if_neg (by decide)] at release
  have wired : Wired (releaseReset u ep) (containRelease s w ep 1) := by
    rw [release]
    exact .last (eventToManager_keeps _ _ _) (mgrEventBoth_wired _ _)
  have kept : ∀ v, (fnGet (containRelease s w ep 1) ep v).flrActive = (fnGet (releaseReset u ep) ep v).flrActive := fun v => by
    obtain ⟨_, _, _, _, _, kept⟩ := wired.func ep v
    rw [kept]
  refine completes_of (rfl : exec (.containReleaseReset w ep) s = _) ⟨?_, ?_, fun v known => ?_⟩
  · have reset : linkView (epGet (releaseReset u ep) ep) = linkView (epGet u ep) :=
      (foldl_same (fun s => linkView (epGet s ep)) (fun u v => flrStart_linkView u ep v 4 ep) _ _).trans (flrFunction_linkView u ep 0 4 ep)
    exact (congrArg (fun x => x.2.1) ((wired.linkView ep).trans reset)).trans free
  · rw [kept]
    exact (congrArg Func.flrActive (flrStarts_fnGet ep 0 (fun _ => 4) _ _ ep (pf_not_vfsOf u ep))).trans (flrFunction_active u ep 4)
  · rw [kept]
    exact flrStarts_active ep (fun _ => 4) _ _ (.inl (vfs ▸ known))

/-! Interrupts (R432 to R434). -/

theorem msixSend_sends {s : State} {ep f v : Nat} (due : v ∈ (fnGet s ep f).due ∨ v ∈ (fnGet s ep f).pba) (may : msixOpen s ep f v = true)
    (ready : mapGet (fnGet s ep f).holdoff v = none) :
    Completes (.msixSend ep f v) s (fun t => Emits s t [.msix ep f v (mapGetD (fnGet s ep f).msix v (0, 0)).1
      (mapGetD (fnGet s ep f).msix v (0, 0)).2] ∧ v ∉ (fnGet t ep f).due ∧ v ∉ (fnGet t ep f).pba ∧ ChangesOnly [.ep0, .ep1, .out] s t) := by
  have row : exec (.msixSend ep f v) s = .next (msixNow s ep f v) := by
    show execMsixSend ep f v s = _
    unfold execMsixSend
    dsimp only
    rw [if_neg (by simp; exact due.resolve_left), if_neg (by simp [may]), if_neg (by simp [mapHas, ready])]
  have off : ∀ g : Func, g.due = (fnGet s ep f).due.filter (fun x => x ≠ v) → g.pba = (fnGet s ep f).pba.filter (fun x => x ≠ v) → ∀ o,
      v ∉ (fnGet (emit (fnSet s ep f g) o) ep f).due ∧ v ∉ (fnGet (emit (fnSet s ep f g) o) ep f).pba := fun g hd hp o => by
    have set : fnGet (emit (fnSet s ep f g) o) ep f = g := fnGet_fnSet_self s ep f g
    rw [set, hd, hp]
    simp
  have kept : Keeps [.ep0, .ep1, .out] s (msixNow s ep f v) := by
    unfold msixNow
    exact .last (emit_keeps _ _) (.mono (fnSet_keeps _ _ _ _))
  refine completes_of row ⟨?_, (off _ rfl rfl _).1, (off _ rfl rfl _).2, kept.frame⟩
  exact emit_emits _ ((fnSet_keeps _ _ _ _).same .out)

theorem msixSend_pends {s : State} {ep f v : Nat} (due : v ∈ (fnGet s ep f).due ∨ v ∈ (fnGet s ep f).pba) (may : msixOpen s ep f v = false) :
    Completes (.msixSend ep f v) s (fun t => v ∉ (fnGet t ep f).due ∧ v ∈ (fnGet t ep f).pba ∧ ChangesOnly [.ep0, .ep1] s t) := by
  have row : exec (.msixSend ep f v) s = .next (msixPend s ep f v) := by
    show execMsixSend ep f v s = _
    unfold execMsixSend
    dsimp only
    rw [if_neg (by simp; exact due.resolve_left), if_pos (by simp [may])]
  have kept : Keeps [.ep0, .ep1] s (msixPend s ep f v) := fnMod_keeps _ _ _ _
  refine completes_of row ?_
  unfold msixPend fnMod at kept ⊢
  rw [fnGet_fnSet_self]
  refine ⟨by simp, ?_, kept.frame⟩
  dsimp only
  split
  next h => simpa using h
  next => simp

theorem msixOpen_congr {s t : State} {ep f v : Nat} (dev : t.dev = s.dev) (contained : (epGet t ep).contained = (epGet s ep).contained)
    (h : ∃ holdoff, fnGet t ep f = { fnGet s ep f with holdoff }) : msixOpen t ep f v = msixOpen s ep f v := by
  obtain ⟨_, h⟩ := h
  unfold msixOpen canIssue hostOpen
  rw [dev, contained, h]

theorem itrHoldoffExpire_sends {s : State} {ep f v : Nat} (again : mapGet (fnGet s ep f).holdoff v = some true) (may : msixOpen s ep f v = true) :
    Completes (.itrHoldoffExpire ep f v) s (fun t => Emits s t [.msix ep f v (mapGetD (fnGet s ep f).msix v (0, 0)).1
      (mapGetD (fnGet s ep f).msix v (0, 0)).2] ∧ ChangesOnly [.ep0, .ep1, .out] s t) := by
  obtain ⟨u, hu⟩ : ∃ u, u = fnMod s ep f (fun g => { g with holdoff := mapErase g.holdoff v }) := ⟨_, rfl⟩
  have own : fnGet u ep f = { fnGet s ep f with holdoff := mapErase (fnGet s ep f).holdoff v } := by
    rw [hu]
    unfold fnMod
    rw [fnGet_fnSet_self]
  have quiet : Keeps [.ep0, .ep1] s u := by rw [hu]; exact fnMod_keeps _ _ _ _
  have opened : msixOpen u ep f v = true := by
    refine (msixOpen_congr (quiet.same .dev) ?_ ⟨_, own⟩).trans may
    rw [hu]
    unfold fnMod fnSet
    rw [epGet_epMod_self]
  have row : exec (.itrHoldoffExpire ep f v) s = .next (msixNow u ep f v) := by
    show execItrHoldoffExpire ep f v s = _
    unfold execItrHoldoffExpire
    rw [again]
    dsimp only
    rw [← hu, opened]
    rfl
  have kept : Keeps [.ep0, .ep1, .out] s (msixNow u ep f v) := by
    unfold msixNow
    exact .last (emit_keeps _ _) (.last (fnSet_keeps _ _ _ _) quiet.mono)
  refine completes_of row ⟨?_, kept.frame⟩
  have sent : Emits u (msixNow u ep f v) [.msix ep f v (mapGetD (fnGet u ep f).msix v (0, 0)).1 (mapGetD (fnGet u ep f).msix v (0, 0)).2] :=
    emit_emits _ ((fnSet_keeps _ _ _ _).same .out)
  rw [own] at sent
  exact sent.of_same (quiet.same .out)

theorem intaChange_drives {s : State} {ep : Nat} (named : ep < 2) (host : hostOpen s = true) (differs : (epGet s ep).intx ≠ intaWanted s ep) :
    Completes (.intaChange ep) s (fun t => (epGet t ep).intx = intaWanted s ep ∧ Emits s t [.intx ep (intaWanted s ep)] ∧
      ChangesOnly [.ep0, .ep1, .out] s t) := by
  have kept := epMod_keeps s ep (fun e => { e with intx := intaWanted s ep })
  have driven : (epGet (epMod s ep (fun e => { e with intx := intaWanted s ep })) ep).intx = intaWanted s ep := by rw [epGet_epMod_self]
  exact completes_of (if_pos ⟨named, host, differs⟩) ⟨driven, emit_emits _ (kept.same .out), (Keeps.last (emit_keeps _ _) kept.mono).frame⟩

/-! LTR and violations (R436, R451, R452). -/

theorem hifLtrWrite_writes {s : State} {ep : Nat} (v : Word) (named : ep < 2) :
    Completes (.hifLtrWrite ep v) s (fun t => reg t (r_HIF_LTR ep) = v &&& 0x9FFF9FFF#32 ∧ (∀ a, a ≠ r_HIF_LTR ep → reg t a = reg s a) ∧
      ChangesOnly [.regs, .out] s t) := by
  refine completes_of (if_pos named) ⟨?_, fun a other => ?_, (ltrWrite_keeps s ep v).frame⟩
  · unfold ltrWrite
    dsimp only
    split
    · assumption
    · split <;> exact reg_setReg_self _ _ _
  · unfold ltrWrite
    dsimp only
    split
    · rfl
    · split <;> exact reg_setReg_ne _ _ other

/-- An error that is logged in configuration space and counted. -/
theorem logged_counted {s u : State} (a : Nat) (kept : Keeps [.ep0, .ep1] s u) :
    counter (bump u a) a = BitVec.ofNat 32 (min ((counter s a).toNat + 1) 0xFFFFFFFF) ∧
    (∀ b, b ≠ a → counter (bump u a) b = counter s b) ∧ Keeps [.ep0, .ep1, .regs, .out] s (bump u a) := by
  have same : ∀ b, counter u b = counter s b := counter_congr (kept.same .regs)
  exact ⟨same a ▸ counter_bump_self u a, fun b other => (counter_bump_ne u other).trans (same b), .last (bump_keeps _ _) kept.mono⟩

theorem tlpViolation_counts {s : State} {ep f n kind a : Nat} (named : ep ≤ 1) (host : hostOpen s = true) (up : (epGet s ep).dlUp = true)
    (checked : kind = 1 → (fnGet s ep f).ecrcCheck = true)
    (counts : (kind, a) ∈ [(0, r_HIF_CNT_MALFORMED ep), (1, r_HIF_CNT_ECRC ep), (2, r_HIF_CNT_POISONED ep), (3, r_HIF_CNT_UR ep),
      (4, r_HIF_CNT_UR ep), (5, r_HIF_CNT_UR ep)]) : Completes (.tlpViolation ep f kind n) s (fun t =>
        counter t a = BitVec.ofNat 32 (min ((counter s a).toNat + 1) 0xFFFFFFFF) ∧ (∀ b, b ≠ a → counter t b = counter s b) ∧
        ChangesOnly [.ep0, .ep1, .regs, .out] s t) := by
  have linked : ¬ (1 < ep ∨ ¬ hostOpen s = true ∨ ¬ (epGet s ep).dlUp = true) := by simp [host, up]; omega
  have row : ∃ u, Keeps [.ep0, .ep1] s u ∧ (exec (.tlpViolation ep f kind n) s = .next (bump u a) ∨
      ∃ o, exec (.tlpViolation ep f kind n) s = .next (emit (bump u a) o)) := by
    show ∃ u, Keeps [.ep0, .ep1] s u ∧ (execTlpViolation ep f kind n s = _ ∨ ∃ o, execTlpViolation ep f kind n s = _)
    unfold execTlpViolation
    rw [if_neg linked]
    simp only [List.mem_cons, Prod.mk.injEq, List.not_mem_nil, or_false] at counts
    rcases counts with ⟨rfl, rfl⟩ | ⟨rfl, rfl⟩ | ⟨rfl, rfl⟩ | ⟨rfl, rfl⟩ | ⟨rfl, rfl⟩ | ⟨rfl, rfl⟩
    · exact ⟨_, aerLog_keeps s ep f aerMalformed, .inl rfl⟩
    · exact ⟨_, aerLog_keeps s ep f aerEcrc, .inl (if_pos (checked rfl))⟩
    · exact ⟨_, aerAdvisory_keeps s ep f aerPoisoned, .inl rfl⟩
    · exact ⟨_, aerLog_keeps s ep f aerUnsupported, .inl rfl⟩
    · exact ⟨_, aerLog_keeps s ep f aerUnsupported, .inr ⟨_, rfl⟩⟩
    · exact ⟨_, aerLog_keeps s ep f aerUnsupported, .inr ⟨_, rfl⟩⟩
  obtain ⟨u, quiet, row | ⟨o, row⟩⟩ := row
  · obtain ⟨counted, others, kept⟩ := logged_counted a quiet
    exact completes_of row ⟨counted, others, kept.frame⟩
  · obtain ⟨counted, others, kept⟩ := logged_counted a quiet
    exact completes_of row ⟨counted, others, (Keeps.last (emit_keeps _ _) kept).frame⟩

/-- Settles O26. -/
theorem containmentInterruptsAndViolations : Obligations.ContainmentInterruptsAndViolations := by
  unfold Obligations.ContainmentInterruptsAndViolations
  refine ⟨fun s ep cause n supplied released named first last free => endpointContain_contains supplied released named first last free,
    fun s w ep named contained allowed up => containReleaseResume_frees named contained allowed up,
    fun s w ep named contained allowed up => containReleaseReset_frees named contained allowed up,
    fun s ep f v due may ready => msixSend_sends due may ready, fun s ep f v due may => msixSend_pends due may,
    fun s ep f v again may => itrHoldoffExpire_sends again may, fun s ep named host differs => intaChange_drives named host differs,
    fun s ep v named => hifLtrWrite_writes v named,
    fun s ep f n kind a named host up checked counts => tlpViolation_counts named host up checked counts,
    fun s ep f n named host up => if_neg (by simp [host, up]; omega)⟩

end Sys2Proof.Machine
end

section
/-! PROOFS. Doorbells and pushes (O27), with what becomes of a queue pair that halts. -/

namespace Sys2Proof.Machine

open Sys2Proof

set_option Elab.async false

/-! The record of a queue pair. -/

theorem qpGet_qpSet_self (s : State) (ep g : Nat) (q : QPair) : qpGet (qpSet s ep g q) ep g = q := mapGetD_mapSet_self _ _ _ _

theorem qpGet_congr {s t : State} (h : t.rings = s.rings) (ep g : Nat) : qpGet t ep g = qpGet s ep g := by
  unfold qpGet; rw [h]

/-- What the steps after a halt change of a queue pair: its state, the entries it writes, what it drops, and packets that end. -/
def Halting (q r : QPair) : Prop :=
  ∃ state halting cqProd wbDue armed rx rxDiscard packets, r = { q with state, halting, cqProd, wbDue, armed, rx, rxDiscard, packets }

theorem Halting.refl (q : QPair) : Halting q q := ⟨_, _, _, _, _, _, _, _, rfl⟩

theorem Halting.trans {q r t : QPair} : Halting q r → Halting r t → Halting q t := by
  rintro ⟨_, _, _, _, _, _, _, _, rfl⟩ ⟨_, _, _, _, _, _, _, _, rfl⟩
  exact ⟨_, _, _, _, _, _, _, _, rfl⟩

theorem qpGet_qpSet (s : State) (ep g : Nat) (q : QPair) (e k : Nat) :
    qpGet (qpSet s ep g q) e k = q ∧ qpGet s e k = qpGet s ep g ∨ qpGet (qpSet s ep g q) e k = qpGet s e k := by
  unfold qpGet qpSet
  by_cases same : qpKey e k = qpKey ep g
  · exact .inl ⟨by rw [same]; exact mapGetD_mapSet_self _ _ _ _, by rw [same]⟩
  · exact .inr (mapGetD_mapSet_ne _ _ _ same)

/-- Of no queue pair anything else changes. -/
def HaltsOnly (s t : State) : Prop := ∀ e k, Halting (qpGet s e k) (qpGet t e k)

namespace HaltsOnly

variable {s t u : State}

theorem of_rings (h : t.rings = s.rings) : HaltsOnly s t := fun e k => by rw [qpGet_congr h]; exact .refl _

theorem of_keeps {ps : List Part} (h : Keeps ps s t) (quiet : Part.rings ∉ ps := by decide) : HaltsOnly s t := .of_rings (h.same .rings quiet)

theorem trans (h : HaltsOnly s t) (k : HaltsOnly t u) : HaltsOnly s u := fun e n => (h e n).trans (k e n)

/-- A change elsewhere follows; the later change comes first, as in the term it is about. -/
theorem last {ps : List Part} (k : Keeps ps t u) (h : HaltsOnly s t) (quiet : Part.rings ∉ ps := by decide) : HaltsOnly s u :=
  h.trans (.of_keeps k quiet)

theorem ite {c : Prop} [Decidable c] (h : HaltsOnly s t) (k : HaltsOnly s u) : HaltsOnly s (if c then t else u) := by
  split
  · exact h
  · exact k

theorem qpSet {ep g : Nat} {q : QPair} (h : Halting (qpGet s ep g) q) : HaltsOnly s (qpSet s ep g q) := fun e k => by
  rcases qpGet_qpSet s ep g q e k with ⟨set, same⟩ | same
  · rw [set, same]; exact h
  · rw [same]; exact .refl _

end HaltsOnly

theorem writeBack_qp (s : State) (ep g : Nat) : qpGet (writeBack s ep g) ep g = { qpGet s ep g with wbDue := false } := by
  unfold writeBack
  dsimp only
  rw [qpGet_congr ((dmaWrite_keeps _ _ _ _ _ _ _).same .rings), qpGet_qpSet_self]

theorem writeBack_halts (s : State) (ep g : Nat) : HaltsOnly s (writeBack s ep g) := by
  unfold writeBack
  exact .last (dmaWrite_keeps _ _ _ _ _ _ _) (.qpSet ⟨_, _, _, _, _, _, _, _, rfl⟩)

theorem ringInterrupt_qp (s : State) (ep g : Nat) : qpGet (ringInterrupt s ep g) ep g =
    if (qpGet s ep g).armed then { qpGet s ep g with armed := false, wbDue := false } else qpGet s ep g := by
  unfold ringInterrupt
  dsimp only
  split
  · rw [qpGet_congr ((dueVec_keeps _ _ _ _).same .rings), writeBack_qp, qpGet_qpSet_self]
  · rfl

theorem writeEntry_halts (s : State) (ep g : Nat) (e : Bytes) : HaltsOnly s (writeEntry s ep g e) := by
  unfold writeEntry ringInterrupt qpMod
  dsimp only
  have entered : ∀ u : State, HaltsOnly u (qpSet u ep g { qpGet u ep g with cqProd := (qpGet u ep g).cqProd + 1, wbDue := true }) :=
    fun u => .qpSet ⟨_, _, _, _, _, _, _, _, rfl⟩
  have noted := HaltsOnly.trans (.of_keeps (dmaWrite_keeps s ep (qpGet s ep g).func (qpGet s ep g).pasid false
    ((qpGet s ep g).cqBase + 16 * ((qpGet s ep g).cqProd.toNat % ringSize (qpGet s ep g).cqLog)) e)) (entered _)
  refine .ite (.last (dueVec_keeps _ _ _ _) (.trans (.trans noted (.qpSet ?_)) (writeBack_halts _ _ _))) noted
  exact ⟨_, _, _, _, _, _, _, _, rfl⟩

theorem txMod_qp (s : State) (o : TxOrigin) (f : TxPacket → TxPacket) (ep g : Nat) :
    ∃ packets, qpGet (txMod s o f) ep g = { qpGet s ep g with packets } := by
  unfold txMod qpGet mapUpdate
  dsimp only
  by_cases own : qpKey ep g = o.key
  · rw [← own]
    split
    next q found => exact ⟨_, by rw [mapGetD_mapSet_self]; unfold mapGetD; rw [found]; rfl⟩
    next => exact ⟨_, rfl⟩
  · split
    · exact ⟨_, mapGetD_mapSet_ne _ _ _ own⟩
    · exact ⟨_, rfl⟩

theorem letGo_qp (s : State) (fid : Nat) (o : Option TxOrigin) (status : Option Nat) (ep g : Nat) :
    ∃ packets, qpGet (letGo s fid o status) ep g = { qpGet s ep g with packets } := by
  have released : qpGet (basinRelease s fid) ep g = qpGet s ep g := qpGet_congr ((basinRelease_keeps s fid).same .rings) ep g
  unfold letGo
  dsimp only
  split
  · obtain ⟨packets, h⟩ := txMod_qp (basinRelease s fid) ‹_› _ ep g
    exact ⟨packets, by rw [h, released]⟩
  · exact ⟨_, released⟩

theorem dropRx_all_qp (l : List RxFrame) (s : State) (ep g : Nat) : ∃ packets, qpGet (l.foldl dropRx s) ep g = { qpGet s ep g with packets } := by
  induction l generalizing s with
  | nil => exact ⟨_, rfl⟩
  | cons r l ih =>
    obtain ⟨_, first⟩ := letGo_qp s r.fid r.origin (some 1) ep g
    obtain ⟨packets, rest⟩ := ih (dropRx s r)
    exact ⟨packets, rest.trans (by unfold dropRx; rw [first])⟩

theorem keepRecord_qp (s : State) (ep f : Nat) (b : Bytes) (k g : Nat) : qpGet (keepRecord s ep f b) k g = qpGet s k g := by
  unfold keepRecord
  dsimp only
  split <;> rfl

/-- The end of a halt leaves the indices and errors of queue pairs, and its queue pair is not active where it was halting. -/
theorem haltFinish_qp (s : State) (ep g : Nat) : HaltsOnly s (haltFinish s ep g) ∧
    ((qpGet s ep g).halting = true → qActive (qpGet (haltFinish s ep g) ep g) = false) := by
  unfold haltFinish
  by_cases ends : (qpGet s ep g).halting = true ∧ (qpGet s ep g).packets = []
  · rw [if_pos ends]
    extract_lets n u v w x y gen z a b c
    have noted : HaltsOnly s v :=
      .ite (.qpSet ⟨_, _, _, _, _, _, _, _, rfl⟩) (.trans (.qpSet ⟨_, _, _, _, _, _, _, _, rfl⟩) (writeEntry_halts _ _ _ _))
    have dropped : HaltsOnly v (List.foldl dropRx w (qpGet s ep g).rx) := fun e k => by
      obtain ⟨packets, h⟩ := dropRx_all_qp (qpGet s ep g).rx w e k
      rw [h]
      exact ⟨_, _, _, _, _, _, _, _, rfl⟩
    have kept : Keeps [.hw, .mbx, .ep0, .ep1, .gauge, .regs] z c :=
      .last (trace_keeps _ _ _ _ _ _ _) (.last (errlogGen_keeps _ _ _ _ _ _ _) (.ite .refl (.mono (vfEvent_keeps _ _ _ _))))
    have recorded : HaltsOnly y z := fun e k => by
      rw [show qpGet z e k = qpGet y e k from keepRecord_qp _ _ _ _ _ _]
      exact .refl _
    refine ⟨.last (eventToManager_keeps _ _ _) (.last kept (.trans (.trans (.trans (.trans noted dropped) (.qpSet ?_))
      (writeBack_halts x ep g)) recorded)), fun _ => ?_⟩
    · exact ⟨_, _, _, _, _, _, _, _, rfl⟩
    · have halted : (qpGet z ep g).state = .halted := by
        unfold z y x qpMod
        rw [keepRecord_qp, writeBack_qp, qpGet_qpSet_self]
      unfold qActive
      rw [qpGet_congr ((eventToManager_keeps _ _ _).same .rings), qpGet_congr (kept.same .rings), halted]
      rfl
  · rw [if_neg ends]
    exact ⟨.of_rings rfl, fun halting => by simp [qActive, halting]⟩

theorem qActive_iff (q : QPair) : qActive q = true ↔ q.state = .active ∧ q.halting = false ∧ q.drain = none := by
  simp [qActive, and_assoc]

/-- A halt gives the queue pair its error, reports it, and ends. -/
theorem halt_eq {s : State} {ep g : Nat} (active : (qpGet s ep g).state = .active) (idle : (qpGet s ep g).halting = false) (cause ring : Nat)
    (index : Word) :
    ∃ u, halt s ep g cause ring index = haltFinish u ep g ∧ qpGet u ep g = { qpGet s ep g with
      halting := true, errCause := cause, errRing := ring, errIndex := index, descs := [], bufs := [], postings := [] } ∧
      ∀ e k, qpKey e k ≠ qpKey ep g → qpGet u e k = qpGet s e k := by
  obtain ⟨u, row, kept⟩ : ∃ u, halt s ep g cause ring index = haltFinish u ep g ∧ Keeps [.ep0, .ep1, .regs] (qpSet s ep g { qpGet s ep g with
      halting := true, errCause := cause, errRing := ring, errIndex := index, descs := [], bufs := [], postings := [] }) u := by
    unfold halt
    dsimp only
    rw [if_neg (by simp [active, idle])]
    refine ⟨_, rfl, .ite (.last (functionError_keeps _ _ _) (.ite ?_ (.last (bump_keeps _ _) ?_))) ?_⟩
    all_goals exact .last (captureCause_keeps _ _ _ _ _) (.mono (epMod_keeps _ _ _))
  exact ⟨u, row, (qpGet_congr (kept.same .rings) ep g).trans (qpGet_qpSet_self _ _ _ _),
    fun e k other => (qpGet_congr (kept.same .rings) e k).trans (mapGetD_mapSet_ne _ _ _ other)⟩

/-- What a halt leaves: the error and the indices of the rings, and a queue pair that is not active. -/
theorem halt_qp {s : State} {ep g : Nat} (active : qActive (qpGet s ep g) = true) (cause ring : Nat) (index : Word) :
    qActive (qpGet (halt s ep g cause ring index) ep g) = false ∧
    Halting { qpGet s ep g with errCause := cause, errRing := ring, errIndex := index, descs := [], bufs := [], postings := [] }
      (qpGet (halt s ep g cause ring index) ep g) := by
  obtain ⟨isActive, idle, -⟩ := (qActive_iff _).mp active
  obtain ⟨u, row, error, -⟩ := halt_eq isActive idle cause ring index
  obtain ⟨kept, ends⟩ := haltFinish_qp u ep g
  have own := kept ep g
  rw [row]
  rw [error] at own ends
  exact ⟨ends rfl, .trans ⟨_, _, _, _, _, _, _, _, rfl⟩ own⟩

/-- What a halt leaves of the other queue pairs. -/
theorem halt_qp_other (s : State) {ep g e k : Nat} (cause ring : Nat) (index : Word) (other : qpKey e k ≠ qpKey ep g) :
    Halting (qpGet s e k) (qpGet (halt s ep g cause ring index) e k) := by
  by_cases working : (qpGet s ep g).state ≠ .active ∨ (qpGet s ep g).halting = true
  · unfold halt
    rw [if_pos working]
    exact .refl _
  · rw [not_or, not_not, Bool.not_eq_true] at working
    obtain ⟨u, row, -, others⟩ := halt_eq working.1 working.2 cause ring index
    rw [row, ← others e k other]
    exact (haltFinish_qp u ep g).1 e k

/-! Pumps. -/

theorem issueBufs_rings (s : State) (ep g : Nat) (l : List BufRead) : (issueBufs s ep g l).1.rings = s.rings :=
  (issueBufs_keeps s ep g l).same .rings

/-- A transmit pump reads on, or halts at a packet that is wrong. -/
theorem txPump_qp (s : State) (ep g : Nat) :
    (qpGet (txPump s ep g) ep g).txProd = (qpGet s ep g).txProd ∧ (qpGet (txPump s ep g) ep g).txCons = (qpGet s ep g).txCons := by
  unfold txPump
  dsimp only
  split
  · exact ⟨rfl, rfl⟩
  next working =>
    have active : qActive (qpGet s ep g) = true := by
      simp only [Bool.or_eq_true, Bool.not_eq_true', decide_eq_true_eq, not_or, Bool.not_eq_false] at working
      exact working.1
    have put : ∀ l, (qpGet (qpMod (issueBufs s ep g l).1 ep g (fun q => { q with bufs := (issueBufs s ep g l).2 })) ep g) =
        { qpGet s ep g with bufs := (issueBufs s ep g l).2 } := fun l => by
      unfold qpMod
      rw [qpGet_qpSet_self, qpGet_congr (issueBufs_rings s ep g l)]
    split
    · rw [put]; exact ⟨rfl, rfl⟩
    · split
      · rw [qpGet_congr ((readDesc_keeps s ep g).same .rings)]; exact ⟨rfl, rfl⟩
      · split
        · obtain ⟨-, _, _, _, _, _, _, _, _, kept⟩ := halt_qp active
            (packetFault s (qSlice (qpGet s ep g) ep) ((txHead (qpGet s ep g)).1.map (fun d => d.2))) 0 (qpGet s ep g).txCons
          rw [kept]; exact ⟨rfl, rfl⟩
        · rw [put]; exact ⟨rfl, rfl⟩

/-! Doorbells. -/

section
variable {s : State} {ep f g : Nat} {v : Word}

/-- A doorbell that names a queue pair at work acts on it. -/
theorem doorbell_acts {present : QPair → Bool} {act : State → Nat → QPair → Nat → State} (host : barOpen s ep f = true)
    (named : globalQp s ep f (bits v.toNat 12 0) = some g) (active : qActive (qpGet s ep g) = true) (ring : present (qpGet s ep g) = true) :
    doorbell s ep f v true present act = .next (act s g (qpGet s ep g) v.toNat) := by
  have bound : (boundSlice s ep f).isNone = false := by
    unfold globalQp at named
    split at named
    next x found => rw [found]; rfl
    next => cases named
  unfold doorbell
  dsimp only
  rw [host, bound, named]
  dsimp only
  rw [active, ring]
  rfl

theorem traceDoorbell_qp (s : State) (ep f q ring : Nat) (i : Word) (k g : Nat) : qpGet (traceDoorbell s ep f q ring i) k g = qpGet s k g :=
  qpGet_congr ((trace_keeps _ _ _ _ _ _ _).same .rings) k g

theorem hifVfDbTx_moves (host : barOpen s ep f = true) (named : globalQp s ep f (bits v.toNat 12 0) = some g)
    (active : qActive (qpGet s ep g) = true) {p : Word} (ring : (qpGet s ep g).txLog ≠ 0)
    (rebuilt : p = rebuild (qpGet s ep g).txProd (bits v.toNat 31 16)) : Completes (.hifVfDbTx ep f v true) s (fun t =>
      (qpGet t ep g).txCons = (qpGet s ep g).txCons ∧
      (ringFill p (qpGet s ep g).txCons ≤ ringSize (qpGet s ep g).txLog → (qpGet t ep g).txProd = p) ∧
      (ringSize (qpGet s ep g).txLog < ringFill p (qpGet s ep g).txCons →
        (qpGet t ep g).errCause = 1 ∧ (qpGet t ep g).errIndex = p ∧ qActive (qpGet t ep g) = false)) := by
  obtain ⟨u, hu⟩ : ∃ u, u = traceDoorbell (qpSet s ep g { qpGet s ep g with txProd := p }) ep f (bits v.toNat 12 0) 0 p := ⟨_, rfl⟩
  have rung : qpGet u ep g = { qpGet s ep g with txProd := p } := by
    rw [hu, traceDoorbell_qp, qpGet_qpSet_self]
  have row : exec (.hifVfDbTx ep f v true) s =
      .next (if ringSize (qpGet s ep g).txLog < ringFill p (qpGet s ep g).txCons then halt u ep g 1 0 p else txPump u ep g) := by
    rw [hu, rebuilt]
    show execHifVfDbTx ep f v true s = _
    unfold execHifVfDbTx
    exact doorbell_acts host named active (decide_eq_true ring)
  refine completes_of row ?_
  by_cases full : ringSize (qpGet s ep g).txLog < ringFill p (qpGet s ep g).txCons
  · obtain ⟨stopped, _, _, _, _, _, _, _, _, kept⟩ := halt_qp (s := u) (ep := ep) (g := g) (by rw [rung]; exact active) 1 0 p
    rw [if_pos full]
    refine ⟨by rw [kept, rung], fun fits => absurd full (Nat.not_lt.mpr fits), fun _ => ⟨by rw [kept], by rw [kept], stopped⟩⟩
  · obtain ⟨prod, cons⟩ := txPump_qp u ep g
    rw [if_neg full]
    exact ⟨by rw [cons, rung], fun _ => by rw [prod, rung], fun h => absurd h full⟩

theorem rxPump_qp (s : State) (ep g k n : Nat) : qpGet (rxPump s ep g) k n = qpGet s k n :=
  qpGet_congr ((rxPump_keeps s ep g).same .rings) k n

theorem hifVfDbRx_moves (host : barOpen s ep f = true) (named : globalQp s ep f (bits v.toNat 12 0) = some g)
    (active : qActive (qpGet s ep g) = true) {p : Word} (ring : (qpGet s ep g).rxLog ≠ 0)
    (rebuilt : p = rebuild (qpGet s ep g).rxProd (bits v.toNat 31 16)) : Completes (.hifVfDbRx ep f v true) s (fun t =>
      (ringFill p (qpGet s ep g).rxCons ≤ ringSize (qpGet s ep g).rxLog → (qpGet t ep g).rxProd = p ∧ qActive (qpGet t ep g) = true) ∧
      (ringSize (qpGet s ep g).rxLog < ringFill p (qpGet s ep g).rxCons →
        (qpGet t ep g).errCause = 2 ∧ (qpGet t ep g).errIndex = p ∧ qActive (qpGet t ep g) = false)) := by
  obtain ⟨u, hu⟩ : ∃ u, u = traceDoorbell (qpSet s ep g { qpGet s ep g with rxProd := p }) ep f (bits v.toNat 12 0) 1 p := ⟨_, rfl⟩
  have rung : qpGet u ep g = { qpGet s ep g with rxProd := p } := by
    rw [hu, traceDoorbell_qp, qpGet_qpSet_self]
  have row : exec (.hifVfDbRx ep f v true) s =
      .next (if ringSize (qpGet s ep g).rxLog < ringFill p (qpGet s ep g).rxCons then halt u ep g 2 1 p else rxPump u ep g) := by
    rw [hu, rebuilt]
    show execHifVfDbRx ep f v true s = _
    unfold execHifVfDbRx
    exact doorbell_acts host named active (decide_eq_true ring)
  refine completes_of row ?_
  by_cases full : ringSize (qpGet s ep g).rxLog < ringFill p (qpGet s ep g).rxCons
  · obtain ⟨stopped, _, _, _, _, _, _, _, _, kept⟩ := halt_qp (s := u) (ep := ep) (g := g) (by rw [rung]; exact active) 2 1 p
    rw [if_pos full]
    exact ⟨fun fits => absurd full (Nat.not_lt.mpr fits), fun _ => ⟨by rw [kept], by rw [kept], stopped⟩⟩
  · rw [if_neg full]
    exact ⟨fun _ => by rw [rxPump_qp, rung]; exact ⟨rfl, active⟩, fun h => absurd h full⟩

theorem hifVfDbCq_moves (host : barOpen s ep f = true) (named : globalQp s ep f (bits v.toNat 12 0) = some g)
    (active : qActive (qpGet s ep g) = true) {c : Word} (rebuilt : c = rebuild (qpGet s ep g).cqCons (bits v.toNat 31 16)) :
    Completes (.hifVfDbCq ep f v true) s (fun t =>
      (ringFill (qpGet s ep g).cqProd c ≤ ringSize (qpGet s ep g).cqLog → (qpGet t ep g).cqCons = c ∧ qActive (qpGet t ep g) = true ∧
        (qpGet t ep g).armed = (if bitAt v.toNat 13 = true then decide (c = (qpGet s ep g).cqProd) else (qpGet s ep g).armed)) ∧
      (ringSize (qpGet s ep g).cqLog < ringFill (qpGet s ep g).cqProd c →
        (qpGet t ep g).errCause = 3 ∧ (qpGet t ep g).errIndex = c ∧ qActive (qpGet t ep g) = false)) := by
  obtain ⟨u, hu⟩ : ∃ u, u = traceDoorbell (qpSet s ep g { qpGet s ep g with cqCons := c }) ep f (bits v.toNat 12 0) 2 c := ⟨_, rfl⟩
  have rung : qpGet u ep g = { qpGet s ep g with cqCons := c } := by
    rw [hu, traceDoorbell_qp, qpGet_qpSet_self]
  have row : exec (.hifVfDbCq ep f v true) s =
      .next (if ringSize (qpGet s ep g).cqLog < ringFill (qpGet s ep g).cqProd c then halt u ep g 3 2 c
        else if bitAt v.toNat 13 then
          (if c = (qpGet s ep g).cqProd then qpMod u ep g (fun q => { q with armed := true })
            else ringInterrupt (qpMod u ep g (fun q => { q with armed := true })) ep g)
        else u) := by
    rw [hu, rebuilt]
    show execHifVfDbCq ep f v true s = _
    unfold execHifVfDbCq
    exact doorbell_acts host named active rfl
  refine completes_of row ?_
  by_cases full : ringSize (qpGet s ep g).cqLog < ringFill (qpGet s ep g).cqProd c
  · obtain ⟨stopped, _, _, _, _, _, _, _, _, kept⟩ := halt_qp (s := u) (ep := ep) (g := g) (by rw [rung]; exact active) 3 2 c
    rw [if_pos full]
    exact ⟨fun fits => absurd full (Nat.not_lt.mpr fits), fun _ => ⟨by rw [kept], by rw [kept], stopped⟩⟩
  · rw [if_neg full]
    refine ⟨fun _ => ?_, fun h => absurd h full⟩
    have armed : qpGet (qpMod u ep g (fun q => { q with armed := true })) ep g = { qpGet s ep g with cqCons := c, armed := true } := by
      unfold qpMod
      rw [qpGet_qpSet_self, rung]
    by_cases arm : bitAt v.toNat 13 = true
    · rw [if_pos arm, if_pos arm]
      by_cases empty : c = (qpGet s ep g).cqProd
      · rw [if_pos empty, armed]
        exact ⟨rfl, active, (decide_eq_true empty).symm⟩
      · rw [if_neg empty, ringInterrupt_qp, armed, if_pos rfl]
        exact ⟨rfl, active, (decide_eq_false empty).symm⟩
    · rw [if_neg arm, if_neg arm, rung]
      exact ⟨rfl, active, rfl⟩

theorem pushWrite_pushes {q : Nat} {data : Bytes} (host : barOpen s ep f = true) (named : globalQp s ep f q = some g)
    (active : qActive (qpGet s ep g) = true) (ring : (qpGet s ep g).txLog ≠ 0) (whole : data.length = 64) :
    Completes (.pushWrite ep f (64 * q) data true) s (fun t =>
      (∀ p : Word, pushFault s (sliceOfFunc ep f) (pushDescs data) = none → p = (qpGet s ep g).txProd + BitVec.ofNat 32 (pushDescs data).length →
        ringFill p (qpGet s ep g).txCons ≤ ringSize (qpGet s ep g).txLog → (qpGet t ep g).txProd = p) ∧
      (∀ i, pushFault s (sliceOfFunc ep f) (pushDescs data) = some i → (qpGet t ep g).errCause = 0x17 ∧
        (qpGet t ep g).errIndex = (qpGet s ep g).txProd + BitVec.ofNat 32 i ∧ qActive (qpGet t ep g) = false)) := by
  have bound : (boundSlice s ep f).isNone = false := by
    unfold globalQp at named
    split at named
    next x found => rw [found]; rfl
    next => cases named
  show ∃ t, execPushWrite ep f (64 * q) data true s = .next t ∧ _
  unfold execPushWrite
  rw [if_neg (by simp [host]), if_neg (by simp [bound, whole]), Nat.mul_div_cancel_left _ (by decide), named]
  dsimp only
  rw [if_neg (by simp [active, ring])]
  cases faulty : pushFault s (sliceOfFunc ep f) (pushDescs data) with
  | some i =>
    obtain ⟨stopped, _, _, _, _, _, _, _, _, kept⟩ := halt_qp active 0x17 0 ((qpGet s ep g).txProd + BitVec.ofNat 32 i)
    refine ⟨_, rfl, fun p fine => (nomatch fine), fun j same => ?_⟩
    obtain rfl : i = j := Option.some.inj same
    exact ⟨by rw [kept], by rw [kept], stopped⟩
  | none =>
    dsimp only
    by_cases full : ringSize (qpGet s ep g).txLog <
        ringFill ((qpGet s ep g).txProd + BitVec.ofNat 32 (pushDescs data).length) (qpGet s ep g).txCons
    · rw [if_pos full]
      exact ⟨_, rfl, fun p _ rebuilt fits => absurd full (Nat.not_lt.mpr (rebuilt ▸ fits)), fun j same => (nomatch same)⟩
    · rw [if_neg full]
      refine ⟨_, rfl, fun p _ rebuilt _ => ?_, fun j same => (nomatch same)⟩
      rw [(txPump_qp _ ep g).1, qpGet_qpSet_self, rebuilt]

/-! Hold-offs, and doorbells that name nothing (R433, R466). -/

theorem hifVfItr_sets (host : barOpen s ep f = true) (vf : 1 ≤ f) (bound : (boundSlice s ep f).isSome = true)
    (vector : bits v.toNat 10 0 < vecCount s ep f) : Completes (.hifVfItr ep f v true) s (fun t =>
      mapGet (fnGet t ep f).itr (bits v.toNat 10 0) = some (bits v.toNat 26 16) ∧ ChangesOnly [.ep0, .ep1] s t) := by
  have row : exec (.hifVfItr ep f v true) s =
      .next (fnMod s ep f (fun x => { x with itr := mapSet x.itr (bits v.toNat 10 0) (bits v.toNat 26 16) })) := by
    show execHifVfItr ep f v true s = _
    unfold execHifVfItr
    dsimp only
    rw [if_neg (by simp [host]; omega), if_neg (by simpa using Option.isSome_iff_ne_none.mp bound), if_neg (by simp), if_pos vector]
  refine completes_of row ⟨?_, (fnMod_keeps _ _ _ _).frame⟩
  unfold fnMod
  rw [fnGet_fnSet_self]
  exact mapGet_mapSet_self _ _ _

theorem dbBad_counts (s : State) {ep f : Nat} (vf : 1 ≤ f) (last : f ≤ 1024) :
    Counted s (dbBad s ep f) (r_HIF_CNT_DB_BAD ep) 1 ∧ Counted s (dbBad s ep f) (r_HIF_VF_CNT_DB_BAD ep f) 1 ∧
    ChangesOnly [.regs] s (dbBad s ep f) := by
  have apart : r_HIF_CNT_DB_BAD ep ≠ r_HIF_VF_CNT_DB_BAD ep f := by
    unfold r_HIF_CNT_DB_BAD r_HIF_VF_CNT_DB_BAD
    omega
  unfold dbBad countBoth
  rw [if_neg (by omega)]
  refine ⟨?_, ?_, (Keeps.last (bump_keeps _ _) (bump_keeps _ _)).frame⟩
  · unfold Counted
    rw [counter_bump_ne _ apart]
    exact counted_bump _ _
  · unfold Counted
    rw [counter_bump_self, counter_bump_ne _ apart.symm]

theorem doorbell_discards {present : QPair → Bool} {act : State → Nat → QPair → Nat → State} (host : barOpen s ep f = true)
    (bound : (boundSlice s ep f).isSome = true) (unnamed : globalQp s ep f (bits v.toNat 12 0) = none) :
    doorbell s ep f v true present act = .next (dbBad s ep f) := by
  unfold doorbell
  dsimp only
  rw [if_neg (by simp [host]), if_neg (by simpa using Option.isSome_iff_ne_none.mp bound), if_neg (by simp), unnamed]

end

/-- Settles O27. -/
theorem doorbellsAndPushesMoveTheRings : Obligations.DoorbellsAndPushesMoveTheRings := by
  unfold Obligations.DoorbellsAndPushesMoveTheRings
  refine ⟨fun s ep f v g host named active => ⟨fun p ring rebuilt => hifVfDbTx_moves host named active ring rebuilt,
      fun p ring rebuilt => hifVfDbRx_moves host named active ring rebuilt, fun c rebuilt => hifVfDbCq_moves host named active rebuilt⟩,
    fun s ep f q g data host named active ring whole => pushWrite_pushes host named active ring whole,
    fun s ep f v _ vf last host bound => ⟨fun vector => hifVfItr_sets host vf bound vector, fun unnamed c hc => ?_⟩⟩
  have row : exec c s = .next (dbBad s ep f) := by
    simp only [List.mem_cons, List.not_mem_nil, or_false] at hc
    rcases hc with rfl | rfl | rfl
    · show execHifVfDbTx ep f v true s = _
      exact doorbell_discards host bound unnamed
    · show execHifVfDbRx ep f v true s = _
      exact doorbell_discards host bound unnamed
    · show execHifVfDbCq ep f v true s = _
      exact doorbell_discards host bound unnamed
  exact completes_of row (dbBad_counts s vf last)

end Sys2Proof.Machine
end

section
/-! PROOFS. The transmit ring at work (O28). -/

namespace Sys2Proof.Machine

open Sys2Proof

set_option Elab.async false

section
variable {s : State} {ep g : Nat}

/-! Descriptors (R467, R474, R486). -/

theorem gatherFrom_none (descs : List (Word × Bytes)) (n : Nat) (i : Word) (absent : ∀ d ∈ descs, d.1 ≠ i) :
    gatherFrom descs n i = ([], false) := by
  cases n with
  | zero => rfl
  | succ n =>
    unfold gatherFrom
    rw [List.find?_eq_none.mpr (fun d here => by simpa using absent d here)]

/-- One descriptor at the consumer index. -/
theorem gatherFrom_one (c : Word) (d : Bytes) (n : Nat) : gatherFrom [(c, d)] (n + 1) c = ([(c, d)], dEop d) := by
  unfold gatherFrom
  rw [List.find?_cons_of_pos (by simp)]
  dsimp only
  cases ends : dEop d with
  | true => rfl
  | false =>
    rw [gatherFrom_none [(c, d)] n (c + 1) (by simp)]
    rfl

theorem txHead_empty {q : QPair} (empty : q.descs = []) : txHead q = ([], false) := by
  unfold txHead
  rw [empty]
  exact gatherFrom_none [] _ _ (fun _ h => nomatch h)

/-- Two buffers at the most. -/
theorem dBufs_few {d : Bytes} (fine : descFault d = 0) (buffer : dType d = 0) : (dBufs d).length ≤ 2 := by
  have two : dNbuf d ≤ 2 := by
    unfold descFault at fine
    simp only [buffer] at fine
    rw [if_neg (by decide), if_neg (by decide)] at fine
    split_ifs at fine with reserved count
    omega
  unfold dBufs
  rw [if_pos buffer, List.length_map, List.length_range]
  exact two

theorem issueBufs_buffers (s : State) (ep g : Nat) (l : List BufRead) :
    (issueBufs s ep g l).2.map (fun b => (b.addr, b.len, b.data, b.failed)) = l.map (fun b => (b.addr, b.len, b.data, b.failed)) := by
  induction l generalizing s with
  | nil => rfl
  | cons b l ih =>
    unfold issueBufs
    dsimp only
    split
    · rw [List.map_cons, List.map_cons, ih]
    · split
      · rw [List.map_cons, List.map_cons, ih]
      · rfl

theorem packetFault_congr {s t : State} (slices : t.slices = s.slices) (cry : t.cry = s.cry) (n : Nat) (ds : List Bytes) :
    packetFault t n ds = packetFault s n ds := by
  unfold packetFault offloadFault saOwned nvtOwned saGet sliceGet
  rw [slices, cry]

/-- The pump of a queue pair whose head is one descriptor: it stays, and where it ends the packet its buffers are read. -/
theorem txPump_one {d : Bytes} (active : qActive (qpGet s ep g) = true) (ring : (qpGet s ep g).txLog ≠ 0) (buffers : (qpGet s ep g).bufs = [])
    (head : txHead (qpGet s ep g) = ([((qpGet s ep g).txCons, d)], dEop d))
    (fine : dEop d = true → packetFault s (qSlice (qpGet s ep g) ep) [d] = 0) :
    (qpGet (txPump s ep g) ep g).descs = (qpGet s ep g).descs ∧ (dEop d = true → (qpGet (txPump s ep g) ep g).bufs.map (fun b => (b.addr, b.len)) =
      (dBufs d).flatMap (fun b => splitRead b.2 (fnGet s ep (qpGet s ep g).func).maxRead b.1 b.2)) := by
  unfold txPump
  dsimp only
  rw [if_neg (by simp [active, ring]), if_neg (by simp [buffers]), head]
  dsimp only
  cases ends : dEop d with
  | false =>
    rw [if_pos (by rfl), qpGet_congr ((readDesc_keeps s ep g).same .rings)]
    exact ⟨rfl, fun h => (nomatch h)⟩
  | true =>
    have kept : (dBufs d).flatMap (fun b => (splitRead b.2 (fnGet s ep (qpGet s ep g).func).maxRead b.1 b.2).map
        (fun p => ((p.1, p.2) : Nat × Nat))) = (dBufs d).flatMap (fun b => splitRead b.2 (fnGet s ep (qpGet s ep g).func).maxRead b.1 b.2) := by
      simp
    have sound := fine ends
    rw [if_neg (by simp), if_neg (by simp [sound])]
    unfold qpMod
    rw [qpGet_qpSet_self, qpGet_congr (issueBufs_rings s ep g _)]
    refine ⟨rfl, fun _ => ?_⟩
    have buffers := congrArg (List.map (fun b : Nat × Nat × Option Bytes × Bool => (b.1, b.2.1))) (issueBufs_buffers s ep g
      ((([((qpGet s ep g).txCons, d)].map (fun d => d.2)).flatMap dBufs).flatMap (fun b =>
            (splitRead b.2 (fnGet s ep (qpGet s ep g).func).maxRead b.1 b.2).map (fun p => ({ addr := p.1, len := p.2 } : BufRead)))))
    rw [List.map_map, List.map_map] at buffers
    refine buffers.trans ?_
    rw [← kept, List.map_flatMap]
    simp [Function.comp_def]

theorem txDescriptorRead_takes {r : ReadReq} {d : Bytes}
    (arrived : (epGet s ep).reads.find? (fun r => r.queue = g && r.purpose = 0 && !r.quarantined && r.data.isSome) = some r)
    (active : qActive (qpGet s ep g) = true) (data : r.data = some d) : Completes (.txDescriptorRead ep g) s (fun t =>
      (descFault d ≠ 0 → (qpGet t ep g).errCause = descFault d ∧ qActive (qpGet t ep g) = false ∧
        (qpGet t ep g).errIndex = (qpGet s ep g).txCons + BitVec.ofNat 32 (txHead (qpGet s ep g)).1.length) ∧
      (descFault d = 0 → dType d = 0 → (qpGet s ep g).descs = [] → (qpGet s ep g).bufs = [] → (qpGet s ep g).txLog ≠ 0 →
        (qpGet s ep g).txProd ≠ (qpGet s ep g).txCons → (dEop d = true → packetFault s (qSlice (qpGet s ep g) ep) [d] = 0) →
        (qpGet t ep g).descs = [((qpGet s ep g).txCons, d)] ∧ (dEop d = true → (qpGet t ep g).bufs.map (fun b => (b.addr, b.len)) =
          (dBufs d).flatMap (fun b => splitRead b.2 (fnGet s ep (qpGet s ep g).func).maxRead b.1 b.2)))) := by
  obtain ⟨u, hu⟩ : ∃ u, u = epMod s ep (fun e => { e with reads := e.reads.filter (fun x => x.tag ≠ r.tag) }) := ⟨_, rfl⟩
  have quiet : Keeps [.ep0, .ep1] s u := hu ▸ epMod_keeps _ _ _
  have same : qpGet u ep g = qpGet s ep g := qpGet_congr (quiet.same .rings) ep g
  show ∃ t, execTxDescriptorRead ep g s = .next t ∧ _
  unfold execTxDescriptorRead
  rw [arrived]
  dsimp only
  rw [← hu, same, data, Option.getD_some, if_neg (by simp [active])]
  by_cases faulty : descFault d = 0
  · rw [if_neg (by simp [faulty])]
    split
    next broken =>
      refine ⟨_, rfl, fun h => absurd faulty h, fun _ buffer empty => ?_⟩
      have few := dBufs_few faulty buffer
      simp [txHead_empty empty, seqFault] at broken
      omega
    next =>
      refine ⟨_, rfl, fun h => absurd faulty h, fun _ _ empty buffers ring behind fine => ?_⟩
      have first : (qpGet s ep g).txCons + BitVec.ofNat 32 (txHead (qpGet s ep g)).1.length = (qpGet s ep g).txCons := by
        rw [txHead_empty empty]
        simp
      rw [first, empty]
      obtain ⟨w, hw⟩ : ∃ w, w = qpSet u ep g { qpGet s ep g with descs := [] ++ [((qpGet s ep g).txCons, d)] } := ⟨_, rfl⟩
      have taken : qpGet w ep g = { qpGet s ep g with descs := [((qpGet s ep g).txCons, d)] } := by rw [hw, qpGet_qpSet_self]; rfl
      have head : txHead (qpGet w ep g) = ([((qpGet w ep g).txCons, d)], dEop d) := by
        obtain ⟨n, ahead⟩ : ∃ n, ringFill (qpGet s ep g).txProd (qpGet s ep g).txCons = n + 1 := by
          refine ⟨ringFill (qpGet s ep g).txProd (qpGet s ep g).txCons - 1, (Nat.succ_pred_eq_of_pos (Nat.pos_of_ne_zero fun none => ?_)).symm⟩
          exact behind (sub_eq_zero.mp (BitVec.eq_of_toNat_eq (by simpa [ringFill] using none)))
        rw [taken]
        unfold txHead
        dsimp only
        rw [ahead]
        exact gatherFrom_one _ _ _
      have parts : Keeps [.ep0, .ep1, .rings] s w := by rw [hw]; exact .last (qpSet_keeps _ _ _ _) quiet.mono
      have sound : packetFault w (qSlice (qpGet w ep g) ep) [d] = packetFault s (qSlice (qpGet s ep g) ep) [d] := by
        rw [taken]
        exact packetFault_congr (parts.same .slices) (parts.same .cry) _ _
      rw [← hw]
      have pumped := txPump_one (s := w) (ep := ep) (g := g) (d := d) (by rw [taken]; exact active) (by rw [taken]; exact ring)
        (by rw [taken]; exact buffers) head (fun ends => sound.trans (fine ends))
      have reads : fnGet w ep (qpGet s ep g).func = fnGet s ep (qpGet s ep g).func := by
        rw [hw, hu]
        exact fnGet_epMod s ep (fun _ => by rfl) _ _
      rw [taken] at pumped
      dsimp only at pumped
      rw [reads] at pumped
      exact pumped
  · obtain ⟨stopped, _, _, _, _, _, _, _, _, kept⟩ := halt_qp (s := u) (by rw [same]; exact active) (descFault d) 0
      ((qpGet s ep g).txCons + BitVec.ofNat 32 (txHead (qpGet s ep g)).1.length)
    rw [if_pos faulty]
    exact ⟨_, rfl, fun _ => ⟨by rw [kept], stopped, by rw [kept]⟩, fun h => absurd h faulty⟩

/-! Acceptance (R474, R475). -/

/-- A halt that packets still wait for leaves them and the indices alone. -/
theorem halt_waits (active : qActive (qpGet s ep g) = true) (waiting : (qpGet s ep g).packets ≠ []) (cause ring : Nat) (index : Word) :
    qpGet (halt s ep g cause ring index) ep g = { qpGet s ep g with
      halting := true, errCause := cause, errRing := ring, errIndex := index, descs := [], bufs := [], postings := [] } := by
  obtain ⟨isActive, idle, -⟩ := (qActive_iff _).mp active
  obtain ⟨u, row, error, -⟩ := halt_eq isActive idle cause ring index
  rw [row]
  unfold haltFinish
  rw [if_neg (by rw [error]; exact fun h => waiting h.2), error]

/-- A transmit pump leaves packets that were accepted and the consumer index. -/
theorem txPump_packets (waiting : (qpGet s ep g).packets ≠ []) : (qpGet (txPump s ep g) ep g).packets = (qpGet s ep g).packets := by
  unfold txPump
  dsimp only
  split
  · rfl
  next working =>
    have active : qActive (qpGet s ep g) = true := by
      simp only [Bool.or_eq_true, Bool.not_eq_true', decide_eq_true_eq, not_or, Bool.not_eq_false] at working
      exact working.1
    have put : ∀ l, (qpGet (qpMod (issueBufs s ep g l).1 ep g (fun q => { q with bufs := (issueBufs s ep g l).2 })) ep g).packets =
        (qpGet s ep g).packets := fun l => by
      unfold qpMod
      rw [qpGet_qpSet_self, qpGet_congr (issueBufs_rings s ep g l)]
    split
    · exact put _
    · split
      · rw [qpGet_congr ((readDesc_keeps s ep g).same .rings)]
      · split
        · rw [halt_waits active waiting]
        · exact put _

/-- A packet outside Twin is one copy, which a pipeline starts. -/
theorem distribute_single (s : State) (k : Pkt) : (distribute s false k).rings = s.rings ∧
    ∃ p c, pktGet (distribute s false k) p = some c ∧ c.frame = k.frame ∧ c.stage = .start ∧ c.hdr.source = k.hdr.source :=
  ⟨rfl, s.nextPid, _, mapGet_mapSet_self _ _ _, rfl, rfl, rfl⟩

/-- An accepted packet: its place in the queue pair, and the packet that a pipeline starts. -/
theorem acceptPacket_accepts (fid : Nat) (ds : List (Word × Bytes)) (frame : Bytes)
    (single : ∀ x, sliceGet s (qSlice (qpGet s ep g) ep) = some x → x.twin = false) :
    (∃ x, qpGet (acceptPacket s ep g fid ds frame) ep g = { passHead (qpGet s ep g) with packets := (qpGet s ep g).packets ++ [x] } ∧ x.left = 1 ∧
      x.status = none ∧ x.last = (qpGet s ep g).txCons + BitVec.ofNat 32 (ds.length - 1)) ∧
    ∃ p k, pktGet (acceptPacket s ep g fid ds frame) p = some k ∧ k.frame = frame ∧ k.stage = .start ∧ k.hdr.source = 16 + ep := by
  unfold acceptPacket
  extract_lets q n m lastD last stampReq
  split
  next u v drawn =>
    extract_lets pk w x nvt y twin
    have started : Keeps [.nextPid] s v := .of_eq_snd drawn (newId_keeps s)
    have octets : Keeps [.regs] w x := .ite .refl (.last (bump64_keeps _ _ _) (.mono (bump64_keeps _ _ _)))
    have ordered : Keeps [.nvt, .regs] w y := .ite (.put rfl rfl rfl rfl rfl octets.mono) octets.mono
    have own : qpGet y ep g = { passHead (qpGet s ep g) with packets := (qpGet s ep g).packets ++ [pk] } := by
      rw [qpGet_congr (ordered.same .rings)]
      unfold w qpMod
      rw [qpGet_qpSet_self, qpGet_congr (started.same .rings)]
    have alone : twin = false := by
      have slices : y.slices = s.slices := (ordered.same .slices).trans (started.same .slices)
      unfold twin sliceGet
      rw [slices]
      cases bound : sliceGet s n with
      | none => unfold sliceGet at bound; rw [bound]; rfl
      | some x => rw [show mapGet s.slices.tab n = some x from bound]; exact congrArg (· && _) (single x bound)
    rw [alone]
    obtain ⟨rings, p, k, begun, sent, start, source⟩ := distribute_single y
      { hdr := { source := 16 + ep, slice := n }, frame := frame, stamp := stampNow y, inTc := q.tc, fid := fid,
        gen := some (ep * 2048 + q.func, (fnGet y ep q.func).gen), origin := some { ep := ep, func := q.func, key := qpKey ep g, index := last, uid := u },
        tx := m }
    refine ⟨⟨pk, ?_, rfl, rfl, rfl⟩, p, k, begun, sent, start, source⟩
    exact (qpGet_congr rings ep g).trans own

theorem txFrameInBasin_accepts {ds : List (Word × Bytes)} {fid : Nat} {u : State} (active : qActive (qpGet s ep g) = true)
    (head : txHead (qpGet s ep g) = (ds, true)) (buffers : (qpGet s ep g).bufs ≠ [])
    (arrived : ∀ b ∈ (qpGet s ep g).bufs, b.failed = false ∧ b.data.isSome = true)
    (free : commitOrdered s (packetMeta (ds.map (fun d => d.2))) = false) (few : notStarted s (qpGet s ep g) < 32)
    (single : ∀ x, sliceGet s (qSlice (qpGet s ep g) ep) = some x → x.twin = false)
    (stored : basinStore s ((qpGet s ep g).bufs.flatMap (fun b => b.data.getD [])).length (qSlice (qpGet s ep g) ep) 1 none = some (fid, u)) :
    Completes (.txFrameInBasin ep g) s (fun t => (qpGet t ep g).txCons = (qpGet s ep g).txCons + BitVec.ofNat 32 ds.length ∧
      (∃ x, (qpGet t ep g).packets = (qpGet s ep g).packets ++ [x] ∧ x.left = 1 ∧ x.status = none ∧
        x.last = (qpGet s ep g).txCons + BitVec.ofNat 32 (ds.length - 1)) ∧
      ∃ p k, pktGet t p = some k ∧ k.frame = (qpGet s ep g).bufs.flatMap (fun b => b.data.getD []) ∧ k.stage = .start ∧
        k.hdr.source = 16 + ep) := by
  have quiet := basinStore_keeps stored
  have same : qpGet u ep g = qpGet s ep g := qpGet_congr (quiet.same .rings) ep g
  have slices : ∀ n, sliceGet u n = sliceGet s n := fun n => by unfold sliceGet; rw [quiet.same .slices]
  obtain ⟨⟨x, own, left, status, last⟩, p, k, begun, sent, start, source⟩ := acceptPacket_accepts (s := u) (ep := ep) (g := g) fid ds
    ((qpGet s ep g).bufs.flatMap (fun b => b.data.getD [])) (by rw [same, slices]; exact single)
  rw [same] at own last
  have row : exec (.txFrameInBasin ep g) s =
      .next (txPump (acceptPacket u ep g fid ds ((qpGet s ep g).bufs.flatMap (fun b => b.data.getD []))) ep g) := by
    show execTxFrameInBasin ep g s = _
    unfold execTxFrameInBasin
    dsimp only
    rw [head]
    dsimp only
    rw [if_neg (by simpa [active, buffers] using fun b h _ => Option.isSome_iff_ne_none.mp (arrived b h).2),
      if_neg (by simpa using fun b h => (arrived b h).1), if_neg (by simp [free]), if_neg (by omega), if_neg ?alone, stored]
    case alone =>
      rw [Bool.and_eq_true]
      rintro ⟨twin, -⟩
      split at twin
      next x bound => exact absurd twin (by simp [single x bound])
      next => exact absurd twin (by decide)
  have waiting : (qpGet (acceptPacket u ep g fid ds ((qpGet s ep g).bufs.flatMap (fun b => b.data.getD []))) ep g).packets ≠ [] := by
    rw [own]
    simp
  refine completes_of row ⟨?_, ⟨x, ?_, left, status, last⟩, p, k, ?_, sent, start, source⟩
  · rw [(txPump_qp _ ep g).2, own]
    unfold passHead
    rw [head]
  · rw [txPump_packets waiting, own]
  · unfold pktGet
    rw [(txPump_keeps _ ep g).same .pkts]
    exact begun

theorem txFrameInBasin_fails {ds : List (Word × Bytes)} (active : qActive (qpGet s ep g) = true) (head : txHead (qpGet s ep g) = (ds, true))
    (failed : (qpGet s ep g).bufs.any (fun b => b.failed) = true)
    (ended : (qpGet s ep g).bufs.all (fun b => b.failed || b.data.isSome) = true) : Completes (.txFrameInBasin ep g) s (fun t =>
      (qpGet t ep g).txCons = (qpGet s ep g).txCons + BitVec.ofNat 32 ds.length ∧
      ∃ x, (qpGet t ep g).packets = (qpGet s ep g).packets ++ [x] ∧ x.status = some 2) := by
  have buffers : (qpGet s ep g).bufs ≠ [] := fun none => by rw [none] at failed; exact absurd failed (by decide)
  have row : exec (.txFrameInBasin ep g) s =
      .next (txPump (failPacket s ep g ((qpGet s ep g).txCons + BitVec.ofNat 32 (ds.length - 1))) ep g) := by
    show execTxFrameInBasin ep g s = _
    unfold execTxFrameInBasin
    dsimp only
    rw [head]
    dsimp only
    rw [if_neg (by simp [active, buffers, ended]), if_pos failed]
  obtain ⟨x, own, status⟩ : ∃ x, qpGet (failPacket s ep g ((qpGet s ep g).txCons + BitVec.ofNat 32 (ds.length - 1))) ep g =
      { passHead (qpGet s ep g) with packets := (qpGet s ep g).packets ++ [x] } ∧ x.status = some 2 :=
    ⟨_, qpGet_qpSet_self _ _ _ _, rfl⟩
  refine completes_of row ⟨?_, x, ?_, status⟩
  · rw [(txPump_qp _ ep g).2, own]
    unfold passHead
    rw [head]
  · rw [txPump_packets (by rw [own]; simp), own]

/-! Completion (R477, R478, R482). -/

/-- A write of at most one piece that may be sent is sent as it is. -/
theorem dmaWrite_sends {f a : Nat} {pasid : Option Nat} {data : Bytes} (may : canIssue s ep f = true) (plain : (fnGet s ep f).atsEn = false)
    (bytes : data ≠ []) (piece : data.length ≤ (fnGet s ep f).maxPayload) (inPage : a % 4096 + data.length ≤ 4096) :
    dmaWrite s ep f pasid false a data = emit s (.tlpWrite ep f pasid false false a data) := by
  have idle : (fnGet s ep f).flrActive = false := by
    unfold canIssue at may
    simp only [Bool.and_eq_true, Bool.not_eq_true'] at may
    exact may.2
  have whole : pieceLen (fnGet s ep f).maxPayload a data.length = data.length := by
    unfold pieceLen
    omega
  have pieces : splitWrite data.length (fnGet s ep f).maxPayload a data = [(a, data)] := by
    obtain ⟨n, length⟩ := Nat.exists_eq_add_of_lt (List.length_pos_iff.mpr bytes)
    rw [Nat.zero_add] at length
    rw [length]
    unfold splitWrite
    dsimp only
    rw [if_neg (by simpa using bytes), whole, List.drop_length, List.take_length]
    cases n <;> simp [splitWrite]
  have untranslated : translate s ep f pasid a = s := by
    unfold translate
    dsimp only
    rw [if_neg (by simp [plain])]
  unfold dmaWrite
  rw [if_neg (by simp [idle]), pieces, List.foldl_cons, List.foldl_nil]
  unfold writePiece
  dsimp only
  rw [untranslated, if_pos may]
  rfl

theorem drainCheck_none (open_ : (qpGet s ep g).drain = none) : drainCheck s ep g = s := by
  unfold drainCheck
  dsimp only
  rw [if_neg (by simp [open_])]

theorem haltFinish_working (working : (qpGet s ep g).halting = false) : haltFinish s ep g = s := by
  unfold haltFinish
  dsimp only
  rw [if_neg (by simp [working])]

theorem canIssue_congr {s t : State} (dev : t.dev = s.dev) (h0 : t.ep0 = s.ep0) (h1 : t.ep1 = s.ep1) (ep f : Nat) :
    canIssue t ep f = canIssue s ep f := by
  unfold canIssue hostOpen
  rw [dev, epGet_congr h0 h1, fnGet_congr h0 h1]

theorem writeEntry_cqProd (s : State) (ep g : Nat) (e : Bytes) :
    ∃ armed wbDue, qpGet (writeEntry s ep g e) ep g = { qpGet s ep g with cqProd := (qpGet s ep g).cqProd + 1, armed, wbDue } := by
  unfold writeEntry qpMod
  dsimp only
  rw [ringInterrupt_qp, qpGet_qpSet_self, qpGet_congr ((dmaWrite_keeps _ _ _ _ _ _ _).same .rings)]
  split <;> exact ⟨_, _, rfl⟩

/-- The entry of a completion whose interrupt is not armed. -/
theorem writeEntry_sends {e : Bytes} (may : canIssue s ep (qpGet s ep g).func = true) (plain : (fnGet s ep (qpGet s ep g).func).atsEn = false)
    (quiet : (qpGet s ep g).armed = false) (bytes : e ≠ []) (piece : e.length ≤ (fnGet s ep (qpGet s ep g).func).maxPayload)
    (inPage : ((qpGet s ep g).cqBase + 16 * ((qpGet s ep g).cqProd.toNat % ringSize (qpGet s ep g).cqLog)) % 4096 + e.length ≤ 4096) :
    Emits s (writeEntry s ep g e) [.tlpWrite ep (qpGet s ep g).func (qpGet s ep g).pasid false false
      ((qpGet s ep g).cqBase + 16 * ((qpGet s ep g).cqProd.toNat % ringSize (qpGet s ep g).cqLog)) e] := by
  unfold writeEntry
  dsimp only
  rw [dmaWrite_sends may plain bytes piece inPage]
  unfold ringInterrupt
  dsimp only
  rw [if_neg]
  · rfl
  · unfold qpMod
    rw [qpGet_qpSet_self]
    exact fun armed => absurd (quiet.symm.trans armed) (by decide)

theorem txComplete_completes {x : TxPacket} {rest : List TxPacket} {n : Nat} (oldest : (qpGet s ep g).packets = x :: rest) (left : x.left = 0)
    (free : (epGet s ep).contained = false) (active : qActive (qpGet s ep g) = true) (status : n = x.status.getD 0) :
    (x.noCpl = true → n = 0 → Completes (.txComplete ep g) s (fun t => (qpGet t ep g).packets = rest ∧ (qpGet t ep g).txCpl = x.last + 1 ∧
      (qpGet t ep g).cqProd = (qpGet s ep g).cqProd ∧ t.out = s.out)) ∧
    ((x.noCpl = false ∨ n ≠ 0) → 0 < cqSpace (qpGet s ep g) → Completes (.txComplete ep g) s (fun t => (qpGet t ep g).packets = rest ∧
      (qpGet t ep g).txCpl = x.last + 1 ∧ (qpGet t ep g).cqProd = (qpGet s ep g).cqProd + 1 ∧
      ∀ a, canIssue s ep (qpGet s ep g).func = true → (fnGet s ep (qpGet s ep g).func).atsEn = false → (qpGet s ep g).armed = false →
        16 ≤ (fnGet s ep (qpGet s ep g).func).maxPayload →
        a = (qpGet s ep g).cqBase + 16 * ((qpGet s ep g).cqProd.toNat % ringSize (qpGet s ep g).cqLog) → a % 4096 ≤ 4080 →
        Emits s t [.tlpWrite ep (qpGet s ep g).func (qpGet s ep g).pasid false false a
          (toLe 4 (4 * b2n x.stampValid + 8 * b2n x.demoted + 16 * n + 65536 * x.stampId) ++ toLe 4 x.last.toNat ++
            toLe 8 (if x.stampValid = true then x.stamp.toNat else 0))])) := by
  obtain ⟨isActive, working, undrained⟩ := (qActive_iff _).mp active
  obtain ⟨u, hu⟩ : ∃ u : State, u = { qpSet s ep g { qpGet s ep g with packets := rest, txCpl := x.last + 1 } with
      nvt := { s.nvt with order := s.nvt.order.filter (fun u => u ≠ x.uid) } } := ⟨_, rfl⟩
  have own : qpGet u ep g = { qpGet s ep g with packets := rest, txCpl := x.last + 1 } := by
    rw [hu]
    exact qpGet_qpSet_self _ _ _ _
  have quiet : Keeps [.rings, .nvt] s u := by rw [hu]; exact .put rfl rfl rfl rfl rfl (.mono (qpSet_keeps _ _ _ _))
  have ended : ∀ t, (qpGet t ep g).halting = false → (qpGet t ep g).drain = none → drainCheck (haltFinish t ep g) ep g = t := fun t h d => by
    rw [haltFinish_working h, drainCheck_none d]
  have row : (¬ (x.noCpl = true ∧ n = 0) → cqSpace (qpGet s ep g) ≠ 0) → exec (.txComplete ep g) s = .next (drainCheck (haltFinish
      (if (x.noCpl && decide (n = 0)) = true then u else writeEntry u ep g (toLe 4 (4 * b2n x.stampValid + 8 * b2n x.demoted + 16 * n +
        65536 * x.stampId) ++ toLe 4 x.last.toNat ++ toLe 8 (if x.stampValid then x.stamp.toNat else 0))) ep g) ep g) := fun room => by
    rw [hu, status]
    show execTxComplete ep g s = _
    unfold execTxComplete
    dsimp only
    rw [oldest]
    dsimp only
    rw [if_neg]
    · rfl
    · rw [status] at room
      simp [left, free, isActive]
      intro h
      exact room (fun ⟨silent, fine⟩ => by simp [silent, fine] at h)
  refine ⟨fun silent fine => ?_, fun told room => ?_⟩
  · have ran := row (fun h => absurd ⟨silent, fine⟩ h)
    rw [if_pos (by simp [silent, fine]), ended u (by rw [own]; exact working) (by rw [own]; exact undrained)] at ran
    exact completes_of ran ⟨by rw [own], by rw [own], by rw [own], quiet.same .out⟩
  · have ran := row (fun _ => Nat.ne_of_gt room)
    obtain ⟨_, _, entry⟩ := writeEntry_cqProd u ep g (toLe 4 (4 * b2n x.stampValid + 8 * b2n x.demoted + 16 * n +
        65536 * x.stampId) ++ toLe 4 x.last.toNat ++ toLe 8 (if x.stampValid then x.stamp.toNat else 0))
    rw [own] at entry
    rw [if_neg (by rcases told with h | h <;> simp [h]), ended _ (by rw [entry]; exact working) (by rw [entry]; exact undrained)] at ran
    refine completes_of ran ⟨by rw [entry], by rw [entry], by rw [entry], fun a may plain unarmed piece place inPage => ?_⟩
    have func : ∀ f, fnGet u ep f = fnGet s ep f := fun f => fnGet_congr (quiet.same .ep0) (quiet.same .ep1) ep f
    have sixteen : (toLe 4 (4 * b2n x.stampValid + 8 * b2n x.demoted + 16 * n + 65536 * x.stampId) ++ toLe 4 x.last.toNat ++
        toLe 8 (if x.stampValid then x.stamp.toNat else 0)).length = 16 := by simp [length_toLe]
    have sent := writeEntry_sends (s := u) (ep := ep) (g := g)
      (e := toLe 4 (4 * b2n x.stampValid + 8 * b2n x.demoted + 16 * n + 65536 * x.stampId) ++ toLe 4 x.last.toNat ++
        toLe 8 (if x.stampValid then x.stamp.toNat else 0))
      (by rw [own]; exact (canIssue_congr (quiet.same .dev) (quiet.same .ep0) (quiet.same .ep1) _ _).trans may)
      (by rw [own, func]; exact plain) (by rw [own]; exact unarmed) (fun none => by rw [none] at sixteen; exact absurd sixteen (by decide))
      (by rw [own, func, sixteen]; exact piece) (by rw [own, sixteen]; dsimp only; rw [← place]; omega)
    rw [own] at sent
    dsimp only at sent
    rw [← place] at sent
    exact sent.of_same (quiet.same .out)

/-! Flushes and drains (R489, R490), and write-backs (R483). -/

theorem flushStart_flushes (cause : Nat) (cmd : Option (Nat × Nat)) (working : (qpGet s ep g).state = .active ∨ (qpGet s ep g).state = .halted) :
    (qpGet (flushStart s ep g cause cmd) ep g).state = .flushing ∧ (qpGet (flushStart s ep g cause cmd) ep g).flush =
      match (qpGet s ep g).drain with
      | some c => some (3, (fnGet s ep (qpGet s ep g).func).gen, some c)
      | none => some (cause, (fnGet s ep (qpGet s ep g).func).gen, cmd) := by
  have dropped : ∀ q, qpGet (dropReads (qpSet s ep g q) ep g) ep g = q := fun q =>
    (qpGet_congr ((dropReads_keeps _ _ _).same .rings) ep g).trans (qpGet_qpSet_self _ _ _ _)
  unfold flushStart
  dsimp only
  rcases working with h | h <;> rw [h] <;> dsimp only <;> rw [dropped] <;> cases (qpGet s ep g).drain <;> exact ⟨rfl, rfl⟩

theorem drainTimeout_flushes {c : Nat × Nat} (active : (qpGet s ep g).state = .active) (draining : (qpGet s ep g).drain = some c) :
    Completes (.drainTimeout ep g) s (fun t => (qpGet t ep g).state = .flushing ∧
      (qpGet t ep g).flush = some (3, (fnGet s ep (qpGet s ep g).func).gen, some c)) := by
  obtain ⟨state, flush⟩ := flushStart_flushes 3 none (.inl active)
  rw [draining] at flush
  exact completes_of (if_pos (by rw [draining]; rfl)) ⟨state, flush⟩

theorem keepRecord_last (s : State) (ep f : Nat) (b : Bytes) : (keepRecord s ep f b).rings.records.getLast? = some (ep, f, b) := by
  unfold keepRecord
  dsimp only
  split <;> simp

theorem flushEnd_ends (cause : Nat) (old : BitVec 16) (cmd : Option (Nat × Nat)) : qpGet (flushEnd s ep g cause old cmd) ep g = {} ∧
    ∃ r, (flushEnd s ep g cause old cmd).rings.records.getLast? = some (ep, (qpGet s ep g).func, r) ∧
      ∀ ch seq, cmd = some (ch, seq) → Unanswered s ch seq → Answered (flushEnd s ep g cause old cmd) ch seq rcOk r := by
  unfold flushEnd
  extract_lets q key t record u v nvt w x
  have kept : Keeps [.rings, .basin, .macs, .pkts, .plane, .rasp, .jig, .csc, .twin, .nvt] s x := by
    have dropped : Keeps [.rings, .basin, .macs] s u :=
      .foldl (.mono (qpSet_keeps _ _ _ _)) (fun _ _ => .mono (dropRx_keeps _ _))
    have freed : Keeps [.rings, .basin, .macs, .pkts, .plane, .rasp, .jig, .csc, .twin, .nvt] s v :=
      .last (freeSent_keeps _ _ _) (.last (discardSent_keeps _ _) dropped.mono)
    exact .last (keepRecord_keeps _ _ _ _) (.last (qpSet_keeps _ _ _ _) (.put rfl rfl rfl rfl rfl freed))
  have empty : qpGet x ep g = {} := (keepRecord_qp _ _ _ _ _ _).trans (qpGet_qpSet_self _ _ _ _)
  have last : x.rings.records.getLast? = some (ep, q.func, record) := keepRecord_last _ _ _ _
  cases cmd with
  | none => exact ⟨empty, record, last, fun _ _ none => nomatch none⟩
  | some c =>
    refine ⟨(qpGet_congr (answer_rings _ _ _ _ _) ep g).trans empty, record, ?_, fun ch seq same unanswered => ?_⟩
    · dsimp only
      rw [answer_rings]
      exact last
    · obtain rfl : c = (ch, seq) := Option.some.inj same
      refine answer_answered _ _ ?_
      unfold Unanswered
      rw [chanGet_congr (kept.same .mbx)]
      exact unanswered

theorem writeBack_writes {q : QPair} (own : q = qpGet s ep g) (due : q.wbDue = true) (working : q.state ≠ .inactive)
    (may : canIssue s ep q.func = true) (plain : (fnGet s ep q.func).atsEn = false) (piece : 16 ≤ (fnGet s ep q.func).maxPayload)
    (aligned : q.wb % 16 = 0) : Completes (.writeBack ep g) s (fun t => (qpGet t ep g).wbDue = false ∧
      Emits s t [.tlpWrite ep q.func q.pasid false false q.wb (toLe 4 q.cqProd.toNat ++ toLe 4 q.txCons.toNat ++ toLe 4 q.rxCons.toNat ++
        toLe 2 (fnGet s ep q.func).gen.toNat ++ toLe 1 (qCode q) ++ toLe 1 0)] ∧ ChangesOnly [.rings, .out] s t) := by
  subst own
  obtain ⟨data, hd, sixteen⟩ : ∃ data, data = toLe 4 (qpGet s ep g).cqProd.toNat ++ toLe 4 (qpGet s ep g).txCons.toNat ++
      toLe 4 (qpGet s ep g).rxCons.toNat ++ toLe 2 (fnGet s ep (qpGet s ep g).func).gen.toNat ++ toLe 1 (qCode (qpGet s ep g)) ++ toLe 1 0 ∧
      data.length = 16 := ⟨_, rfl, by simp [length_toLe]⟩
  have sent : writeBack s ep g = emit (qpSet s ep g { qpGet s ep g with wbDue := false }) (.tlpWrite ep (qpGet s ep g).func
      (qpGet s ep g).pasid false false (qpGet s ep g).wb data) := by
    have sends := dmaWrite_sends (s := qpSet s ep g { qpGet s ep g with wbDue := false }) (pasid := (qpGet s ep g).pasid) (data := data)
      (a := (qpGet s ep g).wb) may plain (List.ne_nil_of_length_pos (by omega)) (by rw [sixteen]; exact piece) (by omega)
    rw [← sends, hd]
    rfl
  rw [← hd]
  have row : exec (.writeBack ep g) s = .next (writeBack s ep g) := if_pos ⟨due, working, may⟩
  refine completes_of row ⟨by rw [writeBack_qp], ?_, ?_⟩
  · rw [sent]
    exact rfl
  · rw [sent]
    exact (Keeps.last (emit_keeps _ _) (qpSet_keeps _ _ _ _).mono).frame

end

/-- Settles O28. -/
theorem transmitRingsFetchCompleteAndFlush : Obligations.TransmitRingsFetchCompleteAndFlush := by
  unfold Obligations.TransmitRingsFetchCompleteAndFlush
  refine ⟨fun s ep g r d arrived active data => txDescriptorRead_takes arrived active data,
    fun s ep g ds fid u active head buffers arrived free few single stored =>
      txFrameInBasin_accepts active head buffers arrived free few single stored,
    fun s ep g ds active head failed ended => txFrameInBasin_fails active head failed ended,
    fun s ep g x rest n oldest left free active status => txComplete_completes oldest left free active status,
    fun s ep g cause old cmd flushing flush off => completes_of ?_ (flushEnd_ends cause old cmd),
    fun s ep g c active draining => drainTimeout_flushes active draining,
    fun s ep g q own due working may plain piece aligned => writeBack_writes own due working may plain piece aligned⟩
  show execQueueFlush ep g s = _
  unfold execQueueFlush
  dsimp only
  rw [flushing, flush]
  exact if_neg (by simp [off])

end Sys2Proof.Machine
end

section
/-! PROOFS. Reception and completions of reads (O29). -/

namespace Sys2Proof.Machine

open Sys2Proof

set_option Elab.async false

section
variable {s : State} {ep g : Nat}

/-! Delivery (R444, R480 to R482). -/

/-- The postings that a frame fills are the oldest. -/
theorem fillPostings_prefix {l ps : List (Word × Bytes)} {n : Nat} (fills : fillPostings l n = some ps) : ∃ rest, l = ps ++ rest := by
  induction l generalizing n ps with
  | nil =>
    unfold fillPostings at fills
    split at fills
    · exact ⟨[], by rw [← Option.some.inj fills]; rfl⟩
    · cases fills
  | cons p l ih =>
    unfold fillPostings at fills
    split at fills
    · exact ⟨p :: l, by rw [← Option.some.inj fills]; rfl⟩
    · obtain ⟨qs, filled, rfl⟩ := Option.map_eq_some_iff.mp fills
      obtain ⟨rest, rfl⟩ := ih filled
      exact ⟨rest, rfl⟩

theorem usePosting_qp (s : State) (ep g : Nat) (p : Word × Bytes) (d : Bytes) (last : Bool) (status flags : Nat) (stamp : Dword) :
    ∃ armed wbDue, qpGet (usePosting s ep g p d last status flags stamp) ep g = { qpGet s ep g with
      rxCons := p.1 + 1, postings := (qpGet s ep g).postings.drop 1, cqProd := (qpGet s ep g).cqProd + 1, armed, wbDue } := by
  unfold usePosting
  dsimp only
  have own : qpGet (qpMod (dmaWrite s ep (qpGet s ep g).func (qpGet s ep g).pasid true (le p.2 0 8) d) ep g
      (fun q => { q with rxCons := p.1 + 1, postings := q.postings.drop 1, wbDue := true })) ep g =
      { qpGet s ep g with rxCons := p.1 + 1, postings := (qpGet s ep g).postings.drop 1, wbDue := true } := by
    unfold qpMod
    rw [qpGet_qpSet_self, qpGet_congr ((dmaWrite_keeps _ _ _ _ _ _ _).same .rings)]
  generalize qpMod (dmaWrite s ep (qpGet s ep g).func (qpGet s ep g).pasid true (le p.2 0 8) d) ep g
      (fun q => { q with rxCons := p.1 + 1, postings := q.postings.drop 1, wbDue := true }) = v at own ⊢
  obtain ⟨armed, wbDue, entered⟩ := writeEntry_cqProd v ep g
    (toLe 4 (1 + 4 * b2n last + 16 * status + (if last then flags else 0) + 65536 * d.length) ++ toLe 4 p.1.toNat ++ toLe 8 stamp.toNat)
  rw [own] at entered
  exact ⟨armed, wbDue, entered⟩

/-- Each posting that is used has an entry, and the last one's index is passed. -/
theorem usePostings_qp (flags : Nat) (stamp : Dword) (ps rest : List (Word × Bytes)) (d : Bytes) (s : State)
    (postings : (qpGet s ep g).postings = ps ++ rest) :
    (qpGet (usePostings ep g flags stamp ps d none s) ep g).rx = (qpGet s ep g).rx ∧
    (qpGet (usePostings ep g flags stamp ps d none s) ep g).cqProd = (qpGet s ep g).cqProd + BitVec.ofNat 32 ps.length ∧
    (qpGet (usePostings ep g flags stamp ps d none s) ep g).postings = rest ∧
    ∀ p, ps.getLast? = some p → (qpGet (usePostings ep g flags stamp ps d none s) ep g).rxCons = p.1 + 1 := by
  induction ps generalizing d s with
  | nil => exact ⟨rfl, by simp [usePostings], postings, fun _ h => nomatch h⟩
  | cons p ps ih =>
    obtain ⟨armed, wbDue, used⟩ := usePosting_qp s ep g p (d.take (le p.2 8 2)) ps.isEmpty 0 flags stamp
    obtain ⟨rx, cqProd, left, last⟩ := ih (d.drop (le p.2 8 2)) (usePosting s ep g p (d.take (le p.2 8 2)) ps.isEmpty 0 flags stamp)
      (by rw [used, postings]; rfl)
    unfold usePostings
    refine ⟨by rw [show Option.map (· - 1) (none : Option Nat) = none from rfl, rx, used], ?_, left, fun q final => ?_⟩
    · rw [show Option.map (· - 1) (none : Option Nat) = none from rfl, cqProd, used, List.length_cons]
      dsimp only
      rw [BitVec.ofNat_add, BitVec.add_assoc]
      exact congrArg _ (BitVec.add_comm _ _)
    · rw [show Option.map (· - 1) (none : Option Nat) = none from rfl]
      cases ps with
      | nil =>
        obtain rfl : p = q := Option.some.inj final
        unfold usePostings
        rw [used]
      | cons r ps => exact last q (by rw [← final, List.getLast?_cons_cons])

theorem rxDeliver_delivers {r : RxFrame} {rest : List RxFrame} {ps : List (Word × Bytes)} (active : qActive (qpGet s ep g) = true)
    (oldest : (qpGet s ep g).rx = r :: rest) (current : r.gen = (fnGet s ep (qpGet s ep g).func).gen)
    (fills : fillPostings (qpGet s ep g).postings ((if (qpGet s ep g).prefix_ = true then 32 else 0) + r.bytes.length) = some ps)
    (may : canIssue s ep (qpGet s ep g).func = true) (room : ps.length ≤ cqSpace (qpGet s ep g)) :
    Completes (.rxDeliver ep g none) s (fun t => (qpGet t ep g).rx = rest ∧
      (qpGet t ep g).cqProd = (qpGet s ep g).cqProd + BitVec.ofNat 32 ps.length ∧
      (qpGet t ep g).postings = (qpGet s ep g).postings.drop ps.length ∧ ∀ p, ps.getLast? = some p → (qpGet t ep g).rxCons = p.1 + 1) := by
  have row : exec (.rxDeliver ep g none) s = .next (deliverRx s ep g r ps none) := by
    show execRxDeliver ep g none s = _
    unfold execRxDeliver
    dsimp only
    rw [oldest]
    dsimp only
    rw [if_neg (by simp [active]), if_neg (by simp [current]), fills]
    exact if_pos ⟨may, room⟩
  obtain ⟨left, postings⟩ := fillPostings_prefix fills
  refine completes_of row ?_
  unfold deliverRx
  extract_lets q u bad
  split
  next v b fl offloaded =>
    extract_lets data w x
    have kept : Keeps [.mbx, .ep0, .ep1, .cry, .nvt, .gauge, .regs, .out] u v := .of_eq offloaded (rxOffload_keeps _ _ _ _ _)
    have begun : qpGet v ep g = { qpGet s ep g with rx := rest } := by
      rw [qpGet_congr (kept.same .rings), show qpGet u ep g = { q with rx := q.rx.drop 1 } from qpGet_qpSet_self _ _ _ _]
      unfold q
      rw [oldest]
      rfl
    obtain ⟨rx, cqProd, used, last⟩ := usePostings_qp (ep := ep) (g := g) (rxFlagBits v r fl) r.stamp ps left data v (by rw [begun, ← postings])
    have octets : qpGet x ep g = qpGet w ep g := by
      have : Keeps [.regs] w x := .ite .refl (.last (bump64_keeps _ _ _) (.mono (bump64_keeps _ _ _)))
      exact qpGet_congr (this.same .rings) ep g
    obtain ⟨packets, gone⟩ := letGo_qp x r.fid r.origin (if bad then some 1 else none) ep g
    rw [rxPump_qp, gone, octets]
    rw [begun] at rx cqProd
    refine ⟨rx, cqProd, ?_, last⟩
    rw [postings, List.drop_left]
    exact used

theorem rxDeliver_drops {r : RxFrame} {rest : List RxFrame} (active : qActive (qpGet s ep g) = true) (oldest : (qpGet s ep g).rx = r :: rest)
    (stale : r.gen ≠ (fnGet s ep (qpGet s ep g).func).gen) : Completes (.rxDeliver ep g none) s (fun t => (qpGet t ep g).rx = rest ∧
      Counted s t (r_HIF_CNT_STALE_GEN ep) 1 ∧ t.out = s.out) := by
  have row : exec (.rxDeliver ep g none) s = .next (staleGen (dropRx (qpSet s ep g { qpGet s ep g with rx := rest }) r) ep) := by
    show execRxDeliver ep g none s = _
    unfold execRxDeliver
    dsimp only
    rw [oldest]
    dsimp only
    rw [if_neg (by simp [active]), if_pos stale]
  have kept : Keeps [.rings, .basin, .macs] s (dropRx (qpSet s ep g { qpGet s ep g with rx := rest }) r) :=
    .last (dropRx_keeps _ _) (.mono (qpSet_keeps _ _ _ _))
  obtain ⟨packets, dropped⟩ := letGo_qp (qpSet s ep g { qpGet s ep g with rx := rest }) r.fid r.origin (some 1) ep g
  rw [qpGet_qpSet_self] at dropped
  refine completes_of row ⟨congrArg QPair.rx dropped, ?_, kept.same .out⟩
  unfold Counted
  rw [← counter_congr (kept.same .regs)]
  exact counted_bump _ _

theorem rxNopostExpire_drops {i : Nat} {r : RxFrame} (waits : (qpGet s ep g).rx[i]? = some r) (lossy : r.lossless = false) :
    Completes (.rxNopostExpire ep g i) s (fun t => (qpGet t ep g).rx = (qpGet s ep g).rx.eraseIdx i ∧
      Counted s t (r_RING_CNT_RX_NOPOST ep g) 1 ∧ t.out = s.out) := by
  obtain ⟨u, hu⟩ : ∃ u, u = dropRx (qpSet s ep g { qpGet s ep g with rx := (qpGet s ep g).rx.eraseIdx i }) r := ⟨_, rfl⟩
  have kept : Keeps [.rings, .basin, .macs] s u := by rw [hu]; exact .last (dropRx_keeps _ _) (.mono (qpSet_keeps _ _ _ _))
  have dropped : (qpGet u ep g).rx = (qpGet s ep g).rx.eraseIdx i := by
    obtain ⟨packets, h⟩ := letGo_qp (qpSet s ep g { qpGet s ep g with rx := (qpGet s ep g).rx.eraseIdx i }) r.fid r.origin (some 1) ep g
    rw [qpGet_qpSet_self] at h
    rw [hu]
    exact congrArg QPair.rx h
  have row : exec (.rxNopostExpire ep g i) s = .next (if (qpGet s ep g).func = 0 then bump u (r_RING_CNT_RX_NOPOST ep g)
      else bump (bump u (r_RING_CNT_RX_NOPOST ep g)) (r_HIF_VF_CNT_RX_NOPOST ep (qpGet s ep g).func)) := by
    rw [hu]
    show execRxNopostExpire ep g i s = _
    unfold execRxNopostExpire
    dsimp only
    rw [waits]
    exact if_neg (by simp [lossy])
  have counted : Counted s (bump u (r_RING_CNT_RX_NOPOST ep g)) (r_RING_CNT_RX_NOPOST ep g) 1 := by
    unfold Counted
    rw [← counter_congr (kept.same .regs)]
    exact counted_bump _ _
  refine completes_of row ?_
  split
  · exact ⟨dropped, counted, kept.same .out⟩
  · refine ⟨dropped, ?_, kept.same .out⟩
    unfold Counted
    rw [counter_bump_ne _ (by unfold r_RING_CNT_RX_NOPOST r_HIF_VF_CNT_RX_NOPOST; omega)]
    exact counted

/-! Quarantined tags (R439). -/

theorem mem_quarantineTags {e : Endpoint} {tag : Nat} : tag ∈ quarantineTags e ↔ ∃ r ∈ e.reads, r.tag = tag ∧ r.quarantined = true := by
  unfold quarantineTags
  simp only [List.mem_map, List.mem_filter]
  exact ⟨fun ⟨r, ⟨h, q⟩, same⟩ => ⟨r, h, same, q⟩, fun ⟨r, h, same, q⟩ => ⟨r, ⟨h, q⟩, same⟩⟩

/-- Reads of a tag that is not quarantined are not. -/
theorem released_of_not_mem {e : Endpoint} {tag : Nat} (free : tag ∉ quarantineTags e) (x : ReadReq) (read : x ∈ e.reads) (own : x.tag = tag) :
    x.quarantined = false := by
  cases h : x.quarantined with
  | false => rfl
  | true => exact absurd (mem_quarantineTags.mpr ⟨x, read, own, h⟩) free

theorem tagQuarantineExpire_releases (s : State) (ep tag : Nat) :
    Completes (.tagQuarantineExpire ep tag) s (fun t => ∀ x ∈ (epGet t ep).reads, x.tag = tag → x.quarantined = false) := by
  obtain ⟨u, hu⟩ : ∃ u, u = epMod s ep (fun e => { e with reads := e.reads.filter (fun r => !(r.tag = tag && r.quarantined)) }) := ⟨_, rfl⟩
  have free : tag ∉ quarantineTags (epGet (pumpAll u ep) ep) := by
    rw [(pumpAll_wired u ep).tags, hu, epGet_epMod_self, mem_quarantineTags]
    rintro ⟨r, read, own, held⟩
    simp [own, held] at read
  have row : exec (.tagQuarantineExpire ep tag) s = .next (pumpAll u ep) := hu ▸ rfl
  exact completes_of row (released_of_not_mem free)

theorem cplRx_releases {tag status : Nat} {data : Bytes} {r : ReadReq}
    (found : (epGet s ep).reads.find? (fun r => r.tag = tag && (r.data.isNone || r.quarantined)) = some r) (held : r.quarantined = true) :
    Completes (.cplRx ep tag status false false data) s (fun t => ∀ x ∈ (epGet t ep).reads, x.tag = tag → x.quarantined = false) := by
  have own : r.tag = tag := by
    have := List.find?_some found
    simp only [Bool.and_eq_true, decide_eq_true_eq] at this
    exact this.1
  have counted : ∀ u, Keeps [.regs] u (countBoth u ep r.func r_HIF_CNT_LATE_CPL r_HIF_VF_CNT_LATE_CPL) := fun u =>
    .ite (bump_keeps _ _) (.last (bump_keeps _ _) (bump_keeps _ _))
  have wired : Wired (dropTag s ep r.tag) (pumpAll (lateCompletion s ep r) ep) := by
    unfold lateCompletion
    exact .trans (.trans (.of_keeps (counted _)) (errlogGen_wired _ _ _ _ _ _ _)) (pumpAll_wired _ _)
  have free : tag ∉ quarantineTags (epGet (pumpAll (lateCompletion s ep r) ep) ep) := by
    rw [wired.tags]
    unfold dropTag
    rw [epGet_epMod_self, mem_quarantineTags]
    rintro ⟨x, read, named, -⟩
    simp [named, own] at read
  have row : exec (.cplRx ep tag status false false data) s = .next (pumpAll (lateCompletion s ep r) ep) := by
    show execCplRx ep tag status false false data s = _
    unfold execCplRx
    rw [found]
    exact if_pos held
  exact completes_of row (released_of_not_mem free)

theorem chainError_wired (s : State) (i : Nat) : Wired s (chainError s i) := by
  unfold chainError
  refine .last (eventToFunc_keeps _ _ _ _ _) (.trans ?_ (errlogGen_wired _ _ _ _ _ _ _))
  exact .last (drawn_keeps _) (.last (bump_keeps _ _) (.last (walkSet_keeps _ _ _) (.of_keeps (ctxSet_keeps _ _ _))))

theorem failRead_wired (s : State) (ep : Nat) (r : ReadReq) : Wired s (failRead s ep r) := by
  have traced : ∀ data, Wired s (trace s (34 + ep) 2 0 (sliceOfFunc ep r.func) 0 data) := fun _ => .of_keeps (trace_keeps _ _ _ _ _ _ _)
  unfold failRead
  refine .ite (.trans (traced _) (halt_wired _ _ _ _ _ _)) (.ite (.trans (traced _) (halt_wired _ _ _ _ _ _)) (.ite ?_ (.ite ?_ (traced _))))
  · exact .last (qpSet_keeps _ _ _ _) (traced _)
  · exact .trans (traced _) (chainError_wired _ _)

theorem cplTimeout_quarantines {tag : Nat} {r : ReadReq}
    (found : (epGet s ep).reads.find? (fun r => r.tag = tag && !r.quarantined && r.data.isNone) = some r) :
    Completes (.cplTimeout ep tag) s (fun t => (∃ x ∈ (epGet t ep).reads, x.tag = tag ∧ x.quarantined = true) ∧
      (cfgGet t ep r.func 0x104).getLsbD 14 = true) := by
  have own : r.tag = tag := by
    have := List.find?_some found
    simp only [Bool.and_eq_true, decide_eq_true_eq] at this
    exact this.1.1
  obtain ⟨u, hu⟩ : ∃ u, u = epMod s ep (fun e => { e with reads := e.reads.map (fun x =>
      if x.tag = tag then { x with quarantined := true, purpose := 9 } else x) }) := ⟨_, rfl⟩
  have counted : ∀ u, Keeps [.regs] u (countBoth u ep r.func r_HIF_CNT_CPL_TIMEOUT r_HIF_VF_CNT_CPL_TIMEOUT) := fun u =>
    .ite (bump_keeps _ _) (.last (bump_keeps _ _) (bump_keeps _ _))
  obtain ⟨t, ht⟩ : ∃ t, t = pumpAll (failRead (errlogGen (countBoth (aerLog u ep r.func aerTimeout) ep r.func r_HIF_CNT_CPL_TIMEOUT
      r_HIF_VF_CNT_CPL_TIMEOUT) 0x0121 ep (errFunc ep r.func) r.gen r.addr (toLe 2 tag ++ toLe 2 (routingId ep r.func))) ep r) ep := ⟨_, rfl⟩
  have row : exec (.cplTimeout ep tag) s = .next t := by
    rw [ht, hu]
    show execCplTimeout ep tag s = _
    unfold execCplTimeout
    rw [found]
  have wired : Wired (aerLog u ep r.func aerTimeout) t := by
    rw [ht]
    exact .trans (.trans (.trans (.of_keeps (counted _)) (errlogGen_wired _ _ _ _ _ _ _)) (failRead_wired _ _ _)) (pumpAll_wired _ _)
  refine completes_of row ⟨?_, ?_⟩
  · have held : tag ∈ quarantineTags (epGet u ep) := by
      rw [hu, epGet_epMod_self, mem_quarantineTags]
      exact ⟨_, List.mem_map.mpr ⟨r, List.mem_of_find?_eq_some found, rfl⟩, by rw [if_pos own]; exact own, by rw [if_pos own]⟩
    have logged : epGet (aerLog u ep r.func aerTimeout) ep = { epGet u ep with funcs := (epGet (aerLog u ep r.func aerTimeout) ep).funcs } := by
      unfold aerLog cfgSetBit cfgSet fnMod fnSet
      rw [epGet_epMod_self]
    refine mem_quarantineTags.mp ?_
    rw [wired.tags, logged]
    exact held
  · obtain ⟨_, _, _, _, _, kept⟩ := wired.func ep r.func
    unfold cfgGet
    rw [kept]
    unfold aerLog cfgSetBit cfgSet fnMod
    rw [fnGet_fnSet_self]
    dsimp only
    rw [mapGetD_mapSet_self, BitVec.getLsbD_or, Bool.or_eq_true]
    exact .inr (by decide)

/-! Buffers of the packet being fetched (R475). -/

/-- Where a buffer's read stands, apart from whether it was issued. -/
def bufView (b : BufRead) : Nat × Nat × Option Bytes × Bool := (b.addr, b.len, b.data, b.failed)

/-- Pumps keep the buffers that a queue pair waits for. -/
theorem txPump_bufs (s : State) (ep g : Nat) {k : Nat} (waits : (qpGet s ep k).bufs ≠ []) :
    (qpGet (txPump s ep g) ep k).bufs.map bufView = (qpGet s ep k).bufs.map bufView := by
  have put : ∀ l, (k = g → l.map bufView = (qpGet s ep k).bufs.map bufView) →
      (qpGet (qpMod (issueBufs s ep g l).1 ep g (fun q => { q with bufs := (issueBufs s ep g l).2 })) ep k).bufs.map bufView =
        (qpGet s ep k).bufs.map bufView := fun l own => by
    unfold qpMod
    by_cases same : k = g
    · rw [same, qpGet_qpSet_self, ← same, ← own same]
      exact issueBufs_buffers s ep k l
    · rw [show qpGet (qpSet (issueBufs s ep g l).1 ep g _) ep k = qpGet (issueBufs s ep g l).1 ep k from
        mapGetD_mapSet_ne _ _ _ (by unfold qpKey; omega), qpGet_congr (issueBufs_rings s ep g l)]
  unfold txPump
  dsimp only
  split
  · rfl
  · split
    · exact put _ (fun same => by rw [same])
    next empty =>
      have other : k ≠ g := fun same => by
        rw [Bool.not_eq_true', Bool.not_eq_false, List.isEmpty_iff, ← same] at empty
        exact waits empty
      split
      · rw [qpGet_congr ((readDesc_keeps s ep g).same .rings)]
      · split
        · obtain ⟨_, _, _, _, _, _, _, _, kept⟩ := halt_qp_other s
            (packetFault s (qSlice (qpGet s ep g) ep) ((txHead (qpGet s ep g)).1.map (fun d => d.2))) 0 (qpGet s ep g).txCons
            (show qpKey ep k ≠ qpKey ep g by unfold qpKey; omega)
          rw [kept]
        · exact put _ (fun same => absurd same other)

theorem pumpAll_bufs (s : State) (ep : Nat) {k : Nat} (waits : (qpGet s ep k).bufs ≠ []) :
    (qpGet (pumpAll s ep) ep k).bufs.map bufView = (qpGet s ep k).bufs.map bufView := by
  have reissued : qpGet (reissueReads s ep) ep k = qpGet s ep k := qpGet_congr ((reissueReads_keeps s ep).same .rings) ep k
  have pumped : ∀ (l : AMap QPair) (u : State), (qpGet u ep k).bufs ≠ [] →
      (qpGet (l.foldl (fun s x => if x.1 / 8192 = ep then pump s ep (x.1 % 8192) else s) u) ep k).bufs.map bufView =
        (qpGet u ep k).bufs.map bufView := by
    intro l
    induction l with
    | nil => exact fun _ _ => rfl
    | cons x l ih =>
      intro u waits
      rw [List.foldl_cons]
      split
      · have one : (qpGet (pump u ep (x.1 % 8192)) ep k).bufs.map bufView = (qpGet u ep k).bufs.map bufView := by
          unfold pump
          rw [rxPump_qp, txPump_bufs u ep _ waits]
        have still : (qpGet (pump u ep (x.1 % 8192)) ep k).bufs ≠ [] := fun none => by
          rw [none, List.map_nil, eq_comm, List.map_eq_nil_iff] at one
          exact waits one
        rw [ih _ still, one]
      · exact ih u waits
  unfold pumpAll
  dsimp only
  rw [qpGet_congr ((walkPump_keeps _ _).same .rings), pumped _ _ (by rw [reissued]; exact waits), reissued]

/-- The buffer that a completion names takes its result. -/
theorem bufTake_takes {bs : List BufRead} {b : BufRead} (waits : b ∈ bs) (issued : b.issued = true) (sound : b.failed = false)
    (open_ : b.data = none) (f : BufRead → BufRead) : ∃ c ∈ bs, c.addr = b.addr ∧ c.len = b.len ∧ f c ∈ bufTake bs b.addr b.len f := by
  induction bs with
  | nil => exact nomatch waits
  | cons x bs ih =>
    unfold bufTake
    by_cases this : x.addr = b.addr ∧ x.len = b.len ∧ x.issued = true ∧ ¬ x.failed = true ∧ x.data.isNone = true
    · rw [if_pos this]
      exact ⟨x, List.mem_cons_self, this.1, this.2.1, List.mem_cons_self⟩
    · rw [if_neg this]
      rcases List.mem_cons.mp waits with rfl | later
      · exact absurd ⟨rfl, rfl, issued, by simp [sound], by simp [open_]⟩ this
      · obtain ⟨c, here, addr, len, taken⟩ := ih later
        exact ⟨c, List.mem_cons_of_mem _ here, addr, len, List.mem_cons_of_mem _ taken⟩

/-- After the pumps the buffer that took a result is still there. -/
theorem pumpAll_taken {u : State} {k : Nat} {c : BufRead} (taken : c ∈ (qpGet u ep k).bufs) :
    ∃ d ∈ (qpGet (pumpAll u ep) ep k).bufs, d.addr = c.addr ∧ d.len = c.len ∧ d.data = c.data ∧ d.failed = c.failed := by
  have same := pumpAll_bufs u ep (k := k) (List.ne_nil_of_mem taken)
  have here : bufView c ∈ (qpGet (pumpAll u ep) ep k).bufs.map bufView := same ▸ List.mem_map_of_mem taken
  obtain ⟨d, there, view⟩ := List.mem_map.mp here
  simp only [bufView, Prod.mk.injEq] at view
  exact ⟨d, there, view⟩

theorem cplRx_fills {tag status : Nat} {data : Bytes} {r : ReadReq} {b : BufRead}
    (found : (epGet s ep).reads.find? (fun r => r.tag = tag && (r.data.isNone || r.quarantined)) = some r)
    (waits : b ∈ (qpGet s ep r.queue).bufs) (free : r.quarantined = false) (buffer : r.purpose = 2) (addr : b.addr = r.addr) (len : b.len = r.len)
    (issued : b.issued = true) (sound : b.failed = false) (open_ : b.data = none) :
    Completes (.cplRx ep tag status false false data) s (fun t =>
      (status = 0 → ∃ c ∈ (qpGet t ep r.queue).bufs, c.addr = r.addr ∧ c.len = r.len ∧ c.data = some (fit data r.len)) ∧
      (status ≠ 0 → ∃ c ∈ (qpGet t ep r.queue).bufs, c.addr = r.addr ∧ c.len = r.len ∧ c.failed = true)) := by
  have row : exec (.cplRx ep tag status false false data) s = .next (pumpAll (takeCompletion s ep r status false false data) ep) := by
    show execCplRx ep tag status false false data s = _
    unfold execCplRx
    rw [found]
    exact if_neg (by simp [free])
  refine completes_of row ?_
  by_cases good : status = 0
  · obtain ⟨c, -, caddr, clen, taken⟩ := bufTake_takes waits issued sound open_ (fun b => { b with data := some (fit data r.len) })
    have filled : (qpGet (takeCompletion s ep r status false false data) ep r.queue).bufs =
        bufTake (qpGet s ep r.queue).bufs r.addr r.len (fun b => { b with data := some (fit data r.len) }) := by
      have passes : takeCompletion s ep r status false false data = takeData s ep r data := by
        unfold takeCompletion
        simp [good]
      rw [passes]
      unfold takeData
      dsimp only
      rw [if_neg (by rw [buffer]; decide), if_pos buffer, qpGet_qpSet_self]
    rw [addr, len, ← filled] at taken
    obtain ⟨d, there, daddr, dlen, ddata, -⟩ := pumpAll_taken taken
    exact ⟨fun _ => ⟨d, there, by rw [daddr]; exact caddr.trans addr, by rw [dlen]; exact clen.trans len, ddata⟩, fun h => absurd good h⟩
  · obtain ⟨c, -, caddr, clen, taken⟩ := bufTake_takes waits issued sound open_ (fun b => { b with failed := true })
    have filled : (qpGet (takeCompletion s ep r status false false data) ep r.queue).bufs =
        bufTake (qpGet s ep r.queue).bufs r.addr r.len (fun b => { b with failed := true }) := by
      have failing : takeCompletion s ep r status false false data = failRead (dropTag (if (!false && decide (1 ≤ status ∧ status < 7)) = true then
          bump s (r_HIF_CNT_CPL_ERR ep) else s) ep r.tag) ep r := by
        unfold takeCompletion
        simp [good]
      have kept : ∀ d, Keeps [.regs, .ep0, .ep1, .gauge] s (trace (dropTag (if (!false && decide (1 ≤ status ∧ status < 7)) = true then
          bump s (r_HIF_CNT_CPL_ERR ep) else s) ep r.tag) (34 + ep) 2 0 (sliceOfFunc ep r.func) 0 d) := fun d =>
        .last (trace_keeps _ _ _ _ _ _ _) (.last (dropTag_keeps _ _ _) (.ite (.mono (bump_keeps _ _)) .refl))
      rw [failing]
      unfold failRead
      dsimp only
      rw [if_neg (by rw [buffer]; decide), if_neg (by rw [buffer]; decide), if_pos buffer, qpGet_qpSet_self, qpGet_congr ((kept _).same .rings)]
    rw [addr, len, ← filled] at taken
    obtain ⟨d, there, daddr, dlen, -, dfailed⟩ := pumpAll_taken taken
    exact ⟨fun h => absurd h good, fun _ => ⟨d, there, by rw [daddr]; exact caddr.trans addr, by rw [dlen]; exact clen.trans len, dfailed⟩⟩

end

/-- Settles O29. -/
theorem receiveRingsDeliverAndReadsComplete : Obligations.ReceiveRingsDeliverAndReadsComplete := by
  unfold Obligations.ReceiveRingsDeliverAndReadsComplete
  exact ⟨fun s ep g r rest active oldest => ⟨fun ps current fills may room => rxDeliver_delivers active oldest current fills may room,
      fun stale => rxDeliver_drops active oldest stale⟩,
    fun _ _ _ _ _ _ _ _ waits lossy => rxNopostExpire_drops waits lossy,
    fun s ep tag status data r found => ⟨fun held => cplRx_releases found held,
      fun b waits free buffer addr len issued sound open_ => cplRx_fills found waits free buffer addr len issued sound open_⟩,
    fun s ep tag r found => cplTimeout_quarantines found, fun s ep tag => tagQuarantineExpire_releases s ep tag⟩

end Sys2Proof.Machine
end

section
/-! PROOFS. The queue commands (O30). -/

namespace Sys2Proof.Machine

open Sys2Proof

set_option Elab.async false

section
variable {s : State} {ch seq ep f g : Nat} {req : Bytes}

/-- A queue command whose target and queue pair are named runs on them. -/
theorem withQueue_named (act : Nat → Nat → Nat → State) (target : targetFunc s ch (le req 0 2) (byteAt req 2) = .ok (ep, f))
    (named : globalQp s ep f (le req 4 2) = some g) : withQueue s ch seq req act = act ep f g := by
  unfold withQueue
  rw [target]
  dsimp only
  rw [named]

/-- A command that was begun stays so while the mailboxes stay. -/
theorem Begun.of_mbx {t : State} {op : Nat} (begun : Begun s ch seq op req) (mbx : t.mbx = s.mbx) : Begun t ch seq op req := by
  unfold Begun startedCmd
  rw [chanGet_congr mbx]
  exact begun

theorem qpGet_answer (s : State) (ch seq code : Nat) (body : Bytes) (e k : Nat) : qpGet (answer s ch seq code body) e k = qpGet s e k :=
  qpGet_congr (answer_rings s ch seq code body) e k

/-- A queue pair is set and the command answered. -/
theorem answer_qpSet_frame (s : State) (ch seq code : Nat) (body : Bytes) (ep g : Nat) (q : QPair) :
    AnswerFrame [.rings] s (answer (qpSet s ep g q) ch seq code body) ch :=
  answer_frame_quiet ch seq code body (qpSet_keeps s ep g q).frame (by decide) (by decide)

theorem queueCreate_creates (ep f g : Nat) : AnswersOk .queueCreate 0x0300 (fun s ch req => targetFunc s ch (le req 0 2) (byteAt req 2) = .ok (ep, f) ∧
      globalQp s ep f (le req 4 2) = some g ∧ ((fnGet s ep f).inError = false ∨ ch < 8) ∧ (qpGet s ep g).state = .inactive ∧
      createOk s ep f req = true) (fun _ _ _ => [])
    (fun s t ch req => qpGet t ep g = { state := .active, func := f, txLog := byteAt req 8, rxLog := byteAt req 9, cqLog := byteAt req 10,
                                        tc := byteAt req 11, prefix_ := bitAt (byteAt req 3) 1, vector := le req 12 2, nopostUs := le req 14 2,
                                        pasid := (if bitAt (byteAt req 3) 0 = true then some (le req 16 4) else none), txBase := le req 24 8,
                                        rxBase := le req 32 8, cqBase := le req 40 8, wb := le req 48 8 } ∧
      (∀ e k, qpKey e k ≠ qpKey ep g → qpGet t e k = qpGet s e k) ∧ AnswerFrame [.rings] s t ch) :=
  answersOk_set (row := fun s ch seq => (rfl : execQueueCreate ch seq s = _)) (fun s ch seq req ⟨target, named, sound, free, ok⟩ => by
    have admitted : ¬ ((fnGet s ep f).inError = true ∧ 8 ≤ ch) := by
      rintro ⟨held, vf⟩
      rcases sound with h | h
      · rw [h] at held; cases held
      · omega
    refine ⟨_, (withQueue_named _ target named).trans ((if_neg admitted).trans (if_neg (by simp [free, ok]))), (qpSet_keeps _ _ _ _).same .mbx,
      ?_, ?_, answer_qpSet_frame _ _ _ _ _ _ _ _⟩
    · rw [qpGet_answer, qpGet_qpSet_self]
    · exact fun e k other => (qpGet_answer _ _ _ _ _ _ _).trans (mapGetD_mapSet_ne _ _ _ other))

theorem queueCreate_refuses (begun : Begun s ch seq 0x0300 req) (target : targetFunc s ch (le req 0 2) (byteAt req 2) = .ok (ep, f))
    (named : globalQp s ep f (le req 4 2) = some g) : Completes (.queueCreate ch seq) s (fun t =>
      ((fnGet s ep f).inError = true → 8 ≤ ch → Answered t ch seq rcNotPermitted [] ∧ AnswerFrame [] s t ch) ∧
      ((fnGet s ep f).inError = false → (qpGet s ep g).state ≠ .inactive → Answered t ch seq rcBadParam [] ∧ AnswerFrame [] s t ch)) := by
  refine completes_command begun (rfl : execQueueCreate ch seq s = _) ?_
  have refused : ∀ code, Answered (answer s ch seq code []) ch seq code [] ∧ AnswerFrame [] s (answer s ch seq code []) ch := fun code =>
    ⟨answer_answered code [] begun.unanswered, answer_frame s ch seq code []⟩
  rw [withQueue_named _ target named]
  refine ⟨fun held vf => ?_, fun sound used => ?_⟩
  · rw [if_pos ⟨held, vf⟩]
    exact refused _
  · rw [if_neg (by simp [sound]), if_pos (.inl used)]
    exact refused _

theorem queueDestroy_runs (ep f g : Nat) : RunsLater .queueDestroy 0x0301 (fun s ch req => targetFunc s ch (le req 0 2) (byteAt req 2) = .ok (ep, f) ∧
      globalQp s ep f (le req 4 2) = some g ∧ ((qpGet s ep g).state = .active ∨ (qpGet s ep g).state = .halted) ∧ (qpGet s ep g).drain = none)
    (fun s t ch seq req =>
      (bitAt (byteAt req 3) 0 = true → qActive (qpGet s ep g) = true → (qpGet s ep g).packets ≠ [] → (qpGet t ep g).drain = some (ch, seq) ∧
        (qpGet t ep g).state = .active) ∧
      ((bitAt (byteAt req 3) 0 = false ∨ qActive (qpGet s ep g) = false ∨ (qpGet s ep g).packets = []) → (qpGet t ep g).state = .flushing ∧
        (qpGet t ep g).flush = some (3, (fnGet s ep (qpGet s ep g).func).gen, some (ch, seq))) ∧
      ChangesOnly [.mbx, .rings, .ep0, .ep1] s t) := by
  intro s ch seq req begun ⟨target, named, working, calm⟩
  refine completes_command begun (rfl : execQueueDestroy ch seq s = _) ?_
  rw [withQueue_named _ target named]
  dsimp only
  rw [if_neg (by rcases working with h | h <;> simp [h]), if_neg (by rcases working with h | h <;> simp [h, calm])]
  have begins : ∀ u cmd, Keeps [.mbx, .rings, .ep0, .ep1] s u → RunsOn u ch seq 0x0301 →
      ((qpGet u ep g).state = .active ∨ (qpGet u ep g).state = .halted) → fnGet u ep (qpGet u ep g).func = fnGet s ep (qpGet s ep g).func →
      (qpGet u ep g).drain = some (ch, seq) ∨ (qpGet u ep g).drain = none ∧ cmd = some (ch, seq) →
      RunsOn (flushStart u ep g 3 cmd) ch seq 0x0301 ∧ (qpGet (flushStart u ep g 3 cmd) ep g).state = .flushing ∧
      (qpGet (flushStart u ep g 3 cmd) ep g).flush = some (3, (fnGet s ep (qpGet s ep g).func).gen, some (ch, seq)) ∧
      ChangesOnly [.mbx, .rings, .ep0, .ep1] s (flushStart u ep g 3 cmd) := fun u cmd kept runs state same names => by
    obtain ⟨flushing, flush⟩ := flushStart_flushes 3 cmd state
    refine ⟨runs.congr ((flushStart_keeps _ _ _ _ _).same .mbx), flushing, ?_, ((flushStart_keeps _ _ _ _ _).last kept |>.frame)⟩
    rcases names with h | ⟨h, rfl⟩ <;> rw [flush, h, same]
  by_cases waits : bitAt (byteAt req 3) 0 = true ∧ (qpGet s ep g).state = .active ∧ ¬ (qpGet s ep g).halting = true
  · rw [if_pos waits]
    obtain ⟨bit, active, sound⟩ := waits
    obtain ⟨u, hu⟩ : ∃ u, u = dropReads (qpSet s ep g { qpGet s ep g with drain := some (ch, seq), descs := [], bufs := [], postings := [] }) ep g :=
      ⟨_, rfl⟩
    rw [← hu]
    have dropped : Keeps [.rings, .ep0, .ep1] s u := hu ▸ .last (dropReads_keeps _ _ _) (.mono (qpSet_keeps _ _ _ _))
    have kept : Keeps [.mbx, .rings, .ep0, .ep1] s (defer u ch seq) := .last (defer_keeps u ch seq) dropped.mono
    have runs : RunsOn (defer u ch seq) ch seq 0x0301 := defer_runs (begun.of_mbx (dropped.same .mbx))
    have own : qpGet (defer u ch seq) ep g = { qpGet s ep g with drain := some (ch, seq), descs := [], bufs := [], postings := [] } := by
      rw [qpGet_congr (defer_rings u ch seq), hu, qpGet_congr ((dropReads_keeps _ _ _).same .rings), qpGet_qpSet_self]
    have func : fnGet (defer u ch seq) ep (qpGet s ep g).func = fnGet s ep (qpGet s ep g).func := by
      rw [fnGet_congr (defer_ep0 u ch seq) (defer_ep1 u ch seq), hu]
      exact fnGet_epMod _ ep (fun _ => by rfl) _ _
    unfold drainCheck
    dsimp only
    rw [own]
    by_cases empty : (qpGet s ep g).packets = []
    · rw [if_pos ⟨rfl, empty⟩]
      obtain ⟨runs, flushing, flush, frame⟩ := begins _ none kept runs (by rw [own]; exact .inl active) (by rw [own]; exact func) (by rw [own]; exact .inl rfl)
      exact ⟨runs, fun _ _ some => absurd empty some, fun _ => ⟨flushing, flush⟩, frame⟩
    · rw [if_neg (fun h => empty h.2)]
      refine ⟨runs, fun _ _ _ => by rw [own]; exact ⟨rfl, active⟩, ?_, kept.frame⟩
      rintro (h | h | h)
      · rw [bit] at h; cases h
      · rw [← Bool.not_eq_true, qActive_iff] at h
        exact absurd ⟨active, Bool.not_eq_true _ ▸ sound, calm⟩ h
      · exact absurd h empty
  · rw [if_neg waits]
    have own : qpGet (defer s ch seq) ep g = qpGet s ep g := qpGet_congr (defer_rings s ch seq) ep g
    obtain ⟨runs, flushing, flush, frame⟩ := begins (defer s ch seq) (some (ch, seq)) (defer_keeps s ch seq).mono (defer_runs begun)
      (by rw [own]; exact working) (by rw [own, fnGet_congr (defer_ep0 s ch seq) (defer_ep1 s ch seq)]) (by rw [own]; exact .inr ⟨calm, rfl⟩)
    refine ⟨runs, fun bit active _ => ?_, fun _ => ⟨flushing, flush⟩, frame⟩
    obtain ⟨state, sound, -⟩ := (qActive_iff _).mp active
    exact absurd ⟨bit, state, by simp [sound]⟩ waits

theorem queueQuery_answers (ep f g : Nat) : AnswersOk .queueQuery 0x0302 (fun s ch req => targetFunc s ch (le req 0 2) (byteAt req 2) = .ok (ep, f) ∧
      globalQp s ep f (le req 4 2) = some g)
    (fun s _ _ => toLe 4 (ringCfg (qpGet s ep g)) ++ toLe 4 (qpGet s ep g).txProd.toNat ++ toLe 4 (qpGet s ep g).txCons.toNat ++
      toLe 4 (qpGet s ep g).txCpl.toNat ++ toLe 4 (qpGet s ep g).rxProd.toNat ++ toLe 4 (qpGet s ep g).rxCons.toNat ++
      toLe 4 (qpGet s ep g).cqProd.toNat ++ toLe 4 (qpGet s ep g).cqCons.toNat ++ toLe 4 (ringVec (qpGet s ep g)) ++
      toLe 4 ((qpGet s ep g).errCause + 256 * (qpGet s ep g).errRing) ++ toLe 4 (qpGet s ep g).errIndex.toNat)
    (fun s t ch _ => AnswerFrame [] s t ch) :=
  answersOk_query (fun s ch seq => (rfl : execQueueQuery ch seq s = _)) (fun _ _ _ _ ⟨target, named⟩ => withQueue_named _ target named)

theorem queueModify_sets (ep f g : Nat) : AnswersOk .queueModify 0x0303 (fun s ch req => targetFunc s ch (le req 0 2) (byteAt req 2) = .ok (ep, f) ∧
      globalQp s ep f (le req 4 2) = some g ∧ (qpGet s ep g).state ≠ .inactive ∧
      (bitAt (byteAt req 11) 0 = true → le req 8 2 < vecCount s ep f) ∧ (bitAt (byteAt req 11) 1 = true → byteAt req 10 ≤ 7))
    (fun _ _ _ => [])
    (fun s t ch req => (qpGet t ep g).vector = (if bitAt (byteAt req 11) 0 = true then le req 8 2 else (qpGet s ep g).vector) ∧
      (qpGet t ep g).tc = (if bitAt (byteAt req 11) 1 = true then byteAt req 10 else (qpGet s ep g).tc) ∧
      (qpGet t ep g).nopostUs = (if bitAt (byteAt req 11) 2 = true then le req 12 2 else (qpGet s ep g).nopostUs) ∧
      (qpGet t ep g).txProd = (qpGet s ep g).txProd ∧ AnswerFrame [.rings] s t ch) :=
  answersOk_set (row := fun s ch seq => (rfl : execQueueModify ch seq s = _)) (fun s ch seq req ⟨target, named, used, vector, tc⟩ => by
    have admitted : ¬ ((qpGet s ep g).state = .inactive ∨ (bitAt (byteAt req 11) 0 = true ∧ vecCount s ep f ≤ le req 8 2) ∨
        (bitAt (byteAt req 11) 1 = true ∧ 7 < byteAt req 10)) := by
      rintro (free | ⟨set, beyond⟩ | ⟨set, beyond⟩)
      · exact used free
      · exact absurd (vector set) (by omega)
      · exact absurd (tc set) (by omega)
    refine ⟨_, (withQueue_named _ target named).trans (if_neg admitted), (qpSet_keeps _ _ _ _).same .mbx, ?_⟩
    · rw [qpGet_answer, qpGet_qpSet_self]
      exact ⟨rfl, rfl, rfl, rfl, answer_qpSet_frame _ _ _ _ _ _ _ _⟩)

theorem queuePfItrSet_sets : AnswersOk .queuePfItrSet 0x0304 (fun _ _ req => byteAt req 0 ≤ 1 ∧ le req 2 2 < 2048 ∧ le req 4 2 ≤ 2047) (fun _ _ _ => [])
    (fun s t _ req => (reg t (r_RING_PF_ITR (byteAt req 0) (le req 2 2))).toNat = le req 4 2 ∧
      mapGet (fnGet t (byteAt req 0) 0).itr (le req 2 2) = some (le req 4 2) ∧ ChangesOnly (answerParts ++ [.ep0, .ep1]) s t) :=
  answersOk_set (row := fun s ch seq => (rfl : execQueuePfItrSet ch seq s = _)) (fun s ch seq req ⟨ep, vector, limit⟩ => by
    have kept : Keeps [.regs, .ep0, .ep1] s (fnMod (setReg s (r_RING_PF_ITR (byteAt req 0) (le req 2 2)) (BitVec.ofNat 32 (le req 4 2)))
        (byteAt req 0) 0 (fun x => { x with itr := mapSet x.itr (le req 2 2) (le req 4 2) })) :=
      .last (fnMod_keeps _ _ _ _) (.mono (setReg_keeps _ _ _))
    refine ⟨_, if_neg (by omega), kept.same .mbx, ?_, ?_, ?_⟩
    · rw [reg_answer _ _ _ _ _ (by unfold r_RING_PF_ITR r_GAU_TRACE_STATUS; omega), reg_congr ((fnMod_keeps _ _ _ _).same .regs), reg_setReg_self,
        BitVec.toNat_ofNat]
      omega
    · rw [fnGet_congr (answer_ep0 _ _ _ _ _) (answer_ep1 _ _ _ _ _)]
      unfold fnMod
      rw [fnGet_fnSet_self]
      exact mapGet_mapSet_self _ _ _
    · exact ((kept.frame.mono (by decide)).step ((answer_changes _ _ _ _ _).mono (by decide))))

/-! Reset records (R461). -/

theorem takeRecords_takes (ep f n : Nat) (l : List (Nat × Nat × Bytes)) :
    (takeRecords ep f n l).1 = ((l.filter (fun r => r.1 = ep && r.2.1 = f)).map (fun r => r.2.2)).take n ∧
    ((takeRecords ep f n l).2.filter (fun r => r.1 = ep && r.2.1 = f)).map (fun r => r.2.2) =
      ((l.filter (fun r => r.1 = ep && r.2.1 = f)).map (fun r => r.2.2)).drop n ∧
    (takeRecords ep f n l).2.filter (fun r => !(r.1 = ep && r.2.1 = f)) = l.filter (fun r => !(r.1 = ep && r.2.1 = f)) := by
  induction l generalizing n with
  | nil => cases n <;> simp [takeRecords]
  | cons r l ih =>
    cases n with
    | zero => simp [takeRecords]
    | succ n =>
      unfold takeRecords
      by_cases own : r.1 = ep ∧ r.2.1 = f
      · rw [if_pos own]
        obtain ⟨taken, left, others⟩ := ih n
        refine ⟨by simp [own, taken], by simp [own, left], ?_⟩
        rw [List.filter_cons_of_neg (by simp [own])]
        exact others
      · rw [if_neg own]
        obtain ⟨taken, left, others⟩ := ih (n + 1)
        have skip : (decide (r.1 = ep) && decide (r.2.1 = f)) = false := by simpa using own
        refine ⟨by simp [skip, taken], by simp [skip, left], ?_⟩
        rw [List.filter_cons_of_pos (by simp [skip]), List.filter_cons_of_pos (by simp [skip]), others]

theorem resetRecordRead_reads (ep f : Nat) (mine : List Bytes) : AnswersOk .resetRecordRead 0x0308 (fun s ch req => targetFunc s ch (le req 0 2) (byteAt req 2) = .ok (ep, f) ∧
      1 ≤ byteAt req 3 ∧ byteAt req 3 ≤ 5 ∧ mine = (s.rings.records.filter (fun r => r.1 = ep && r.2.1 = f)).map (fun r => r.2.2))
    (fun s _ req => toLe 1 (min (byteAt req 3) mine.length) ++ zeros 1 ++ toLe 2 (min 65535 (lostOf s ep)) ++
      toLe 4 (mine.length - byteAt req 3) ++ (mine.take (byteAt req 3)).flatten)
    (fun s t ch req => (t.rings.records.filter (fun r => r.1 = ep && r.2.1 = f)).map (fun r => r.2.2) = mine.drop (byteAt req 3) ∧
      t.rings.records.filter (fun r => !(r.1 = ep && r.2.1 = f)) = s.rings.records.filter (fun r => !(r.1 = ep && r.2.1 = f)) ∧
      t.rings.qps = s.rings.qps ∧ AnswerFrame [.rings] s t ch) :=
  answersOk_set (row := fun s ch seq => (rfl : execResetRecordRead ch seq s = _)) (fun s ch seq req ⟨target, low, high, own⟩ => by
    subst own
    have rings : ChangesOnly [.rings] s { s with rings := { s.rings with records := (takeRecords ep f (byteAt req 3) s.rings.records).2 } } :=
      .of_patch rfl
    obtain ⟨taken, left, others⟩ := takeRecords_takes ep f (byteAt req 3) s.rings.records
    refine ⟨{ s with rings := { s.rings with records := (takeRecords ep f (byteAt req 3) s.rings.records).2 } }, ?_, rfl, ?_, ?_, ?_, ?_⟩
    · rw [target]
      dsimp only
      rw [if_neg (by omega), taken, ← List.length_map (f := fun r : Nat × Nat × Bytes => r.2.2), left, List.length_take, List.length_drop]
    · rw [answer_rings]; exact left
    · rw [answer_rings]; exact others
    · rw [answer_rings]
    · exact answer_frame_quiet ch seq rcOk _ rings (by decide) (by decide))

end

/-- Settles O30. -/
theorem queueCommandsTakeEffect : Obligations.QueueCommandsTakeEffect := by
  unfold Obligations.QueueCommandsTakeEffect
  exact ⟨queueCreate_creates, fun _ _ _ _ _ _ _ begun target named => queueCreate_refuses begun target named, queueDestroy_runs,
    queueQuery_answers, queueModify_sets, queuePfItrSet_sets, resetRecordRead_reads⟩

end Sys2Proof.Machine
end

section
/-! PROOFS. Reception (O31). -/

namespace Sys2Proof.Machine

open Sys2Proof

set_option Elab.async false

/-! What leaves a register alone. -/

/-- A register holds what it held. -/
def RegKept (s t : State) (a : Nat) : Prop := mapGet t.regs a = mapGet s.regs a

section
variable {s t u : State} {a b : Nat}

theorem RegKept.of_regs (h : t.regs = s.regs) : RegKept s t a := by unfold RegKept; rw [h]

theorem RegKept.trans (h : RegKept s t a) (k : RegKept t u a) : RegKept s u a := Eq.trans k h

theorem RegKept.reg (h : RegKept s t a) : reg t a = reg s a := by
  unfold RegKept at h
  unfold Machine.reg
  rw [h]

theorem RegKept.counter (h : RegKept s t a) : counter t a = counter s a := by
  unfold RegKept at h
  unfold Machine.counter mapGetD
  rw [h]

theorem RegKept.regField (h : RegKept s t a) (hi lo : Nat) : regField t a hi lo = regField s a hi lo := by
  unfold Machine.regField; rw [h.reg]

theorem RegKept.counter64 (low : RegKept s t a) (high : RegKept s t (a + 4)) : counter64 t a = counter64 s a := by
  unfold Machine.counter64; rw [low.counter, high.counter]

theorem setReg_regKept (s : State) (v : Word) (ne : b ≠ a) : RegKept s (setReg s a v) b := mapGet_mapSet_ne _ _ ne

theorem bump64_regKept (s : State) (n : Nat) (low : b ≠ a) (high : b ≠ a + 4) : RegKept s (bump64 s a n) b :=
  .trans (setReg_regKept _ _ low) (setReg_regKept _ _ high)

theorem trace_regKept (s : State) (source kind flags slice sample : Nat) (data : Bytes) (ne : a ≠ r_GAU_TRACE_STATUS) :
    RegKept s (trace s source kind flags slice sample data) a := by
  unfold trace
  dsimp only
  split
  · split
    · exact setReg_regKept _ _ ne
    · exact .of_regs rfl
  · exact .of_regs rfl

/-- A 64-bit counter counts and wraps. -/
theorem counter64_bump64_self (s : State) (a n : Nat) : counter64 (bump64 s a n) a = (counter64 s a + n) % 2 ^ 64 := by
  have low : counter (bump64 s a n) a = BitVec.ofNat 32 (counter64 s a + n) := by
    unfold bump64
    dsimp only
    rw [counter_setReg_ne _ _ (by omega)]
    exact mapGetD_mapSet_self _ _ _ _
  have high : counter (bump64 s a n) (a + 4) = BitVec.ofNat 32 ((counter64 s a + n) / 4294967296) := mapGetD_mapSet_self _ _ _ _
  have split : ∀ v, counter64 s a + n = v → (BitVec.ofNat 32 v).toNat + 4294967296 * (BitVec.ofNat 32 (v / 4294967296)).toNat = v % 2 ^ 64 :=
    fun v _ => by rw [BitVec.toNat_ofNat, BitVec.toNat_ofNat]; omega
  rw [show counter64 (bump64 s a n) a = (counter (bump64 s a n) a).toNat + 4294967296 * (counter (bump64 s a n) (a + 4)).toNat from rfl, low, high]
  exact split _ rfl

end

/-! Checks of reception (R343). -/

section
variable {s : State} {m lane : Nat} {frame f : Bytes} {pcsErr preemptErr : Bool}

theorem frameRx_refused (up : (macGet s m).linkUp = true) (used : macUsed s m = true) (on : datapathOn s = true) :
    (preemptErr = true → exec (.frameRx m frame pcsErr preemptErr lane 0) s = .next (bump64 s (r_MAC_RX_PREEMPT_ERR m) 1)) ∧
    (preemptErr = false → pcsErr = true → exec (.frameRx m frame pcsErr preemptErr lane 0) s = .next (bump64 s (r_MAC_RX_PCS_ERR m) 1)) ∧
    (preemptErr = false → pcsErr = false → frame.length < 64 → exec (.frameRx m frame pcsErr preemptErr lane 0) s = .next (bump64 s
      (if frame.drop (frame.length - 4) = ethFcs (frame.take (frame.length - 4)) then r_MAC_RX_RUNT m else r_MAC_RX_FRAGMENT m) 1)) ∧
    (preemptErr = false → pcsErr = false → 64 ≤ frame.length → maxFrame s m < frame.length →
      exec (.frameRx m frame pcsErr preemptErr lane 0) s = .next (bump64 s
        (if frame.drop (frame.length - 4) = ethFcs (frame.take (frame.length - 4)) then r_MAC_RX_OVERSIZE m else r_MAC_RX_JABBER m) 1)) ∧
    (preemptErr = false → pcsErr = false → 64 ≤ frame.length → frame.length ≤ maxFrame s m →
      frame.drop (frame.length - 4) ≠ ethFcs (frame.take (frame.length - 4)) →
      exec (.frameRx m frame pcsErr preemptErr lane 0) s = .next (bump64 s (r_MAC_RX_FCS_ERR m) 1)) := by
  have row : exec (.frameRx m frame pcsErr preemptErr lane 0) s = execFrameRx m frame pcsErr preemptErr lane 0 s := rfl
  have open_ : ¬ (!((macGet s m).linkUp && macUsed s m && datapathOn s)) = true := by simp [up, used, on]
  rw [row]
  unfold execFrameRx
  rw [if_neg open_]
  refine ⟨fun preempt => ?_, fun preempt pcs => ?_, fun preempt pcs short => ?_, fun preempt pcs whole long => ?_,
    fun preempt pcs whole fits bad => ?_⟩
  · simp [preempt, done]
  · simp [preempt, pcs, done]
  · simp [preempt, pcs, short, done]
  · simp [preempt, pcs, long, Nat.not_lt.mpr whole, done]
  · simp [preempt, pcs, Nat.not_lt.mpr whole, Nat.not_lt.mpr fits, bad, done]

/-! Counts of an OK frame (R378). -/

/-- The counters of a MAC's received frames lie together. -/
theorem countRx_regKept (s : State) (m : Nat) (f : Bytes) (n : Nat) {a : Nat}
    (outside : a < r_MAC_RX_OCTETS_OK m ∨ r_MAC_RX_OCTETS_OK m + 0x100 ≤ a) : RegKept s (countRx s m f n) a := by
  have bin : sizeBin n ≤ 6 := by unfold sizeBin; split_ifs <;> omega
  have cast : castCounter f (r_MAC_RX_UCAST m) (r_MAC_RX_MCAST m) (r_MAC_RX_BCAST m) = r_MAC_RX_OCTETS_OK m + 0x10 ∨
      castCounter f (r_MAC_RX_UCAST m) (r_MAC_RX_MCAST m) (r_MAC_RX_BCAST m) = r_MAC_RX_OCTETS_OK m + 0x18 ∨
      castCounter f (r_MAC_RX_UCAST m) (r_MAC_RX_MCAST m) (r_MAC_RX_BCAST m) = r_MAC_RX_OCTETS_OK m + 0x20 := by
    unfold castCounter r_MAC_RX_UCAST r_MAC_RX_MCAST r_MAC_RX_BCAST r_MAC_RX_OCTETS_OK
    split_ifs <;> omega
  have frames : r_MAC_RX_FRAMES_OK m = r_MAC_RX_OCTETS_OK m + 8 := by unfold r_MAC_RX_FRAMES_OK r_MAC_RX_OCTETS_OK; omega
  have size : r_MAC_RX_SIZE m (sizeBin n) = r_MAC_RX_OCTETS_OK m + 0x90 + 8 * sizeBin n := by
    unfold r_MAC_RX_SIZE r_MAC_RX_OCTETS_OK; omega
  unfold countRx
  rw [frames, size]
  generalize castCounter f (r_MAC_RX_UCAST m) (r_MAC_RX_MCAST m) (r_MAC_RX_BCAST m) = c at cast ⊢
  exact (((bump64_regKept _ _ (by omega) (by omega)).trans (bump64_regKept _ _ (by omega) (by omega))).trans
    (bump64_regKept _ _ (by omega) (by omega))).trans (bump64_regKept _ _ (by omega) (by omega))

theorem countRx_counts (s : State) (m : Nat) (f : Bytes) (n : Nat) :
    counter64 (countRx s m f n) (r_MAC_RX_FRAMES_OK m) = (counter64 s (r_MAC_RX_FRAMES_OK m) + 1) % 2 ^ 64 := by
  have cast : castCounter f (r_MAC_RX_UCAST m) (r_MAC_RX_MCAST m) (r_MAC_RX_BCAST m) = r_MAC_RX_FRAMES_OK m + 8 ∨
      castCounter f (r_MAC_RX_UCAST m) (r_MAC_RX_MCAST m) (r_MAC_RX_BCAST m) = r_MAC_RX_FRAMES_OK m + 0x10 ∨
      castCounter f (r_MAC_RX_UCAST m) (r_MAC_RX_MCAST m) (r_MAC_RX_BCAST m) = r_MAC_RX_FRAMES_OK m + 0x18 := by
    unfold castCounter r_MAC_RX_UCAST r_MAC_RX_MCAST r_MAC_RX_BCAST r_MAC_RX_FRAMES_OK
    split_ifs <;> omega
  have octets : r_MAC_RX_FRAMES_OK m = r_MAC_RX_OCTETS_OK m + 8 := by unfold r_MAC_RX_FRAMES_OK r_MAC_RX_OCTETS_OK; omega
  have size : r_MAC_RX_SIZE m (sizeBin n) = r_MAC_RX_FRAMES_OK m + 0x88 + 8 * sizeBin n := by
    unfold r_MAC_RX_SIZE r_MAC_RX_FRAMES_OK; omega
  unfold countRx
  rw [size]
  generalize castCounter f (r_MAC_RX_UCAST m) (r_MAC_RX_MCAST m) (r_MAC_RX_BCAST m) = c at cast ⊢
  have first : counter64 (bump64 s (r_MAC_RX_OCTETS_OK m) n) (r_MAC_RX_FRAMES_OK m) = counter64 s (r_MAC_RX_FRAMES_OK m) :=
    RegKept.counter64 (bump64_regKept _ _ (by omega) (by omega)) (bump64_regKept _ _ (by omega) (by omega))
  have later : ∀ u k, k ≤ 4 → RegKept u (bump64 (bump64 u c 1) (r_MAC_RX_FRAMES_OK m + 0x88 + 8 * sizeBin n) 1) (r_MAC_RX_FRAMES_OK m + k) :=
    fun u k _ => (bump64_regKept _ _ (by omega) (by omega)).trans (bump64_regKept _ _ (by omega) (by omega))
  exact (RegKept.counter64 (later _ 0 (by decide)) (later _ 4 (by decide))).trans (by rw [Nat.add_zero, counter64_bump64_self, first])

end

section
variable {s : State} {m lane : Nat} {f : Bytes}

/-- The copy that a pipeline starts bears the packet's stamp. -/
theorem distribute_stamped (s : State) (k : Pkt) : (distribute s false k).regs = s.regs ∧
    ∃ p c, pktGet (distribute s false k) p = some c ∧ c.frame = k.frame ∧ c.stage = .start ∧ c.hdr.source = k.hdr.source ∧ c.stamp = k.stamp :=
  ⟨rfl, s.nextPid, _, mapGet_mapSet_self _ _ _, rfl, rfl, rfl, rfl⟩

/-- The state once the MAC has counted and traced the frame. -/
def rxCounted (s : State) (m : Nat) (f : Bytes) : State :=
  traceFrame (countRx s m f (f.length + 4)) m 1 0xFFF (f.length + 4) (ingressClass (countRx s m f (f.length + 4)) m f).2.2

theorem rxCounted_keeps (s : State) (m : Nat) (f : Bytes) : Keeps [.gauge, .regs] s (rxCounted s m f) :=
  .last (traceFrame_keeps _ _ _ _ _ _) (.mono (countRx_keeps _ _ _ _))

theorem rxCounted_regKept_countRx (s : State) (m : Nat) (f : Bytes) {a : Nat} (untraced : a ≠ r_GAU_TRACE_STATUS) :
    RegKept (countRx s m f (f.length + 4)) (rxCounted s m f) a := by
  unfold rxCounted traceFrame
  exact .trans (trace_regKept _ _ _ _ _ _ _ untraced) (.of_regs rfl)

theorem rxCounted_regKept (s : State) (m : Nat) (f : Bytes) {a : Nat} (outside : a < r_MAC_RX_OCTETS_OK m ∨ r_MAC_RX_OCTETS_OK m + 0x100 ≤ a)
    (untraced : a ≠ r_GAU_TRACE_STATUS) : RegKept s (rxCounted s m f) a :=
  (countRx_regKept _ _ _ _ outside).trans (rxCounted_regKept_countRx s m f untraced)

theorem rxCounted_counts (s : State) (m : Nat) (f : Bytes) :
    counter64 (rxCounted s m f) (r_MAC_RX_FRAMES_OK m) = (counter64 s (r_MAC_RX_FRAMES_OK m) + 1) % 2 ^ 64 := by
  rw [RegKept.counter64 (rxCounted_regKept_countRx s m f (by unfold r_MAC_RX_FRAMES_OK r_GAU_TRACE_STATUS; omega))
    (rxCounted_regKept_countRx s m f (by unfold r_MAC_RX_FRAMES_OK r_GAU_TRACE_STATUS; omega)), countRx_counts]

/-! Counting a frame leaves what the later checks of R343 read. -/

theorem rxCounted_ctrl (s : State) (m : Nat) (f : Bytes) : RegKept s (rxCounted s m f) (r_MAC_RX_CTRL m) :=
  rxCounted_regKept s m f (.inl (by unfold r_MAC_RX_CTRL r_MAC_RX_OCTETS_OK; omega)) (by unfold r_MAC_RX_CTRL r_GAU_TRACE_STATUS; omega)

theorem ingressClass_rxCounted : ingressClass (rxCounted s m f) m f = ingressClass s m f := by
  have map : RegKept s (rxCounted s m f) (r_MAC_PCP_TO_TC m) :=
    rxCounted_regKept s m f (.inl (by unfold r_MAC_PCP_TO_TC r_MAC_RX_OCTETS_OK; omega)) (by unfold r_MAC_PCP_TO_TC r_GAU_TRACE_STATUS; omega)
  unfold ingressClass prioClass
  rw [(rxCounted_ctrl s m f).regField, map.reg]

theorem losslessClass_rxCounted (c : Nat) : losslessClass (rxCounted s m f) m c = losslessClass s m c := by
  unfold losslessClass
  rw [(rxCounted_ctrl s m f).reg, (rxCounted_keeps s m f).same .dev]

theorem ptpTakes_rxCounted : ptpTakes (rxCounted s m f) m f = ptpTakes s m f := by
  unfold ptpTakes ptpMode running ptpEnabled ptpTransport ptpDomain hwField hwWord
  rw [(rxCounted_keeps s m f).same .hw, (rxCounted_keeps s m f).same .dev]

theorem prpPair_rxCounted (used : macUsed s m = true) (alone : prpPair s m = none) : prpPair (rxCounted s m f) m = none := by
  have near : m < 16 := by
    simp only [macUsed, Bool.and_eq_true, decide_eq_true_eq] at used
    exact used.1
  unfold prpPair at alone ⊢
  rw [List.findSome?_eq_none_iff] at alone ⊢
  intro i eight
  have := List.mem_range.mp eight
  have pair : RegKept s (rxCounted s m f) (r_DVT_PRP_PAIR i) :=
    rxCounted_regKept s m f (.inr (by unfold r_DVT_PRP_PAIR r_MAC_RX_OCTETS_OK; omega)) (by unfold r_DVT_PRP_PAIR r_GAU_TRACE_STATUS; omega)
  have off := alone i eight
  dsimp only at off ⊢
  rw [pair.reg]
  exact off

theorem twinSelected_rxCounted (used : macUsed s m = true) (prio vid : Nat) : twinSelected (rxCounted s m f) m prio vid = twinSelected s m prio vid := by
  have near : m < 16 := by
    simp only [macUsed, Bool.and_eq_true, decide_eq_true_eq] at used
    exact used.1
  have sel0 : RegKept s (rxCounted s m f) (r_DVT_TWIN_SEL0 m) :=
    rxCounted_regKept s m f (.inr (by unfold r_DVT_TWIN_SEL0 r_MAC_RX_OCTETS_OK; omega)) (by unfold r_DVT_TWIN_SEL0 r_GAU_TRACE_STATUS; omega)
  have sel1 : RegKept s (rxCounted s m f) (r_DVT_TWIN_SEL1 m) :=
    rxCounted_regKept s m f (.inr (by unfold r_DVT_TWIN_SEL1 r_MAC_RX_OCTETS_OK; omega)) (by unfold r_DVT_TWIN_SEL1 r_GAU_TRACE_STATUS; omega)
  unfold twinSelected
  rw [sel0.regField, sel1.regField, sel1.regField]

theorem rxStamp_rxCounted : rxStamp (rxCounted s m f) m lane = rxStamp s m lane := by
  have kept := rxCounted_keeps s m f
  unfold rxStamp fineNow portLat hwUse hwWord portGet
  rw [kept.same .time, kept.same .hw, kept.same .port0, kept.same .port1]

/-- Basin has room for an open frame of `n` bytes. -/
def openRoom (s : State) (n : Nat) : Prop := (basinShape s n).2 - min (basinShape s n).2 (ownFree s 0xFFF) ≤ openFree s

theorem openRoom_rxCounted {n : Nat} (room : openRoom s n) : openRoom (rxCounted s m f) n := by
  have kept := rxCounted_keeps s m f
  unfold openRoom basinShape ownFree openFree pagesKept pagesLossless sliceGet at room ⊢
  rw [kept.same .basin, kept.same .slices]
  exact room

/-- A frame of no PRP pair that the PTP engine does not take goes to Basin. -/
theorem acceptFrame_admits (used : macUsed s m = true) (enabled : bitAt (reg s (r_MAC_RX_CTRL m)).toNat 0 = true) (foreign : ptpTakes s m f = false)
    (alone : prpPair s m = none) : acceptFrame s m f lane = admitFrame (rxCounted s m f) m f (rxStamp s m lane) := by
  have received : prpReceive (rxCounted s m f) m f = (rxCounted s m f, some f) := by
    unfold prpReceive
    rw [prpPair_rxCounted used alone, ite_self]
  unfold acceptFrame
  dsimp only
  rw [← rxCounted, (rxCounted_ctrl s m f).reg, enabled, if_neg (by decide), ptpTakes_rxCounted, foreign, if_neg Bool.false_ne_true, received, rxStamp_rxCounted]

/-- A lossy frame outside Twin that Basin has room for becomes a packet; no register changes. -/
theorem admitFrame_stores {stamp : Dword} (lossy : losslessClass s m (ingressClass s m f).2.2 = false)
    (single : twinSelected s m (ingressClass s m f).1 (ingressClass s m f).2.1 = false) (room : openRoom s f.length) :
    (admitFrame s m f stamp).regs = s.regs ∧
    ∃ p k, pktGet (admitFrame s m f stamp) p = some k ∧ k.frame = f ∧ k.stage = .start ∧ k.hdr.source = m ∧ k.stamp = stamp := by
  obtain ⟨fid, v, stored⟩ : ∃ fid v, basinStore s f.length 0xFFF 1 none = some (fid, v) := by
    unfold basinStore
    dsimp only
    rw [if_pos (by exact room)]
    exact ⟨_, _, rfl⟩
  have storing : Keeps [.nextPid, .basin, .macs] s v := basinStore_keeps stored
  unfold admitFrame
  generalize ingressClass s m f = x at lossy single ⊢
  obtain ⟨prio, vid, c⟩ := x
  dsimp only at lossy single ⊢
  rw [lossy, if_neg (by simp), if_neg (by decide), stored]
  dsimp only
  rw [if_neg (by decide), show twinSelected v m prio vid = false from ?sel, Bool.false_and]
  case sel =>
    unfold twinSelected regField at single ⊢
    simp only [reg_congr (storing.same .regs)]
    exact single
  obtain ⟨regs, p, k, here, frame, stage, source, own⟩ := distribute_stamped v
    { hdr := { source := m }, frame := f, stamp := stamp, inTc := c, lossless := false, fid := fid }
  exact ⟨regs.trans (storing.same .regs), p, k, here, frame, stage, source, own⟩

theorem frameRx_accepts (up : (macGet s m).linkUp = true) (used : macUsed s m = true) (on : datapathOn s = true)
    (whole : 60 ≤ f.length) (fits : f.length + 4 ≤ maxFrame s m) (data : be f 12 2 ≠ 0x8808) :
    exec (.frameRx m (f ++ ethFcs f) false false lane 0) s = .next (acceptFrame s m f lane) := by
  have fcs : (ethFcs f).length = 4 := by unfold ethFcs; exact length_toLe _ _
  have length : (f ++ ethFcs f).length = f.length + 4 := by rw [List.length_append, fcs]
  show execFrameRx m (f ++ ethFcs f) false false lane 0 s = _
  unfold execFrameRx
  rw [if_neg (by simp [up, used, on])]
  simp only [if_true, length, Nat.add_sub_cancel, List.take_left, List.drop_left]
  rw [if_neg (by decide), if_neg (by decide), if_neg (by omega), if_neg (by omega), if_neg (by simp), if_neg data]

theorem frameRx_admits (up : (macGet s m).linkUp = true) (used : macUsed s m = true) (on : datapathOn s = true)
    (whole : 60 ≤ f.length) (fits : f.length + 4 ≤ maxFrame s m) (data : be f 12 2 ≠ 0x8808) (enabled : bitAt (reg s (r_MAC_RX_CTRL m)).toNat 0 = true)
    (foreign : ptpTakes s m f = false) (alone : prpPair s m = none) (lossy : losslessClass s m (ingressClass s m f).2.2 = false)
    (single : twinSelected s m (ingressClass s m f).1 (ingressClass s m f).2.1 = false) (room : openRoom s f.length) :
    Completes (.frameRx m (f ++ ethFcs f) false false lane 0) s (fun t =>
      counter64 t (r_MAC_RX_FRAMES_OK m) = (counter64 s (r_MAC_RX_FRAMES_OK m) + 1) % 2 ^ 64 ∧
      ∃ p k, pktGet t p = some k ∧ k.frame = f ∧ k.stage = .start ∧ k.hdr.source = m ∧ k.stamp = rxStamp s m lane) := by
  obtain ⟨regs, stored⟩ := admitFrame_stores (s := rxCounted s m f) (m := m) (f := f) (stamp := rxStamp s m lane)
    (by rw [ingressClass_rxCounted, losslessClass_rxCounted, lossy]) (by rw [ingressClass_rxCounted, twinSelected_rxCounted used, single]) (openRoom_rxCounted room)
  refine completes_of ((frameRx_accepts up used on whole fits data).trans (congrArg _ (acceptFrame_admits used enabled foreign alone))) ⟨?_, stored⟩
  rw [← rxCounted_counts]
  unfold counter64
  rw [counter_congr regs, counter_congr regs]

end

/-- Settles O31. -/
theorem receptionChecksCountsAndStores : Obligations.ReceptionChecksCountsAndStores := by
  unfold Obligations.ReceptionChecksCountsAndStores
  exact ⟨fun _ _ _ _ _ _ up used on => frameRx_refused up used on,
    fun _ _ _ _ up used on whole fits data enabled foreign alone lossy single room =>
      frameRx_admits up used on whole fits data enabled foreign alone lossy single room,
    fun _ _ _ => rfl⟩

end Sys2Proof.Machine
end

section
/-! PROOFS. Transmission (O32). -/

namespace Sys2Proof.Machine

open Sys2Proof

set_option Elab.async false

/-! What a MAC holds of Basin changes alone. -/

/-- Of the MACs only the pages counted for their classes have changed. -/
def Recounts (s t : State) : Prop := ∀ m, ∃ occ, macGet t m = { macGet s m with occ }

theorem macGet_congr {s t : State} (h : t.macs = s.macs) (m : Nat) : macGet t m = macGet s m := by unfold macGet; rw [h]

namespace Recounts

variable {s t u : State}

theorem of_macs (h : t.macs = s.macs) : Recounts s t := fun m => ⟨_, (macGet_congr h m).trans rfl⟩

theorem of_keeps {ps : List Part} (h : Keeps ps s t) (quiet : Part.macs ∉ ps := by decide) : Recounts s t := .of_macs (h.same .macs quiet)

theorem trans (h : Recounts s t) (k : Recounts t u) : Recounts s u := fun m => by
  obtain ⟨occ, h⟩ := h m
  obtain ⟨occ', k⟩ := k m
  exact ⟨occ', by rw [k, h]⟩

/-- A change elsewhere follows; the later change comes first, as in the term it is about. -/
theorem last {ps : List Part} (k : Keeps ps t u) (h : Recounts s t) (quiet : Part.macs ∉ ps := by decide) : Recounts s u := h.trans (.of_keeps k quiet)

theorem ite {c : Prop} [Decidable c] (h : Recounts s t) (k : Recounts s u) : Recounts s (if c then t else u) := by
  split
  · exact h
  · exact k

theorem foldl {α : Type} {f : State → α → State} {l : List α} (h : Recounts s t) (step : ∀ u a, Recounts u (f u a)) : Recounts s (l.foldl f t) := by
  induction l generalizing t with
  | nil => exact h
  | cons a l ih => exact ih (h.trans (step t a))

theorem active (h : Recounts s t) (m : Nat) : (macGet t m).active = (macGet s m).active := by
  obtain ⟨occ, h⟩ := h m
  rw [h]

theorem queue (h : Recounts s t) (m : Nat) : (macGet t m).queue = (macGet s m).queue := by
  obtain ⟨occ, h⟩ := h m
  rw [h]

end Recounts

theorem macMod_recounts (s : State) (m : Nat) (g : AMap Nat → AMap Nat) : Recounts s (macMod s m (fun x => { x with occ := g x.occ })) := fun k => by
  by_cases same : k = m
  · subst same
    exact ⟨_, macGet_macMod_self s k _⟩
  · exact ⟨_, (macGet_macMod_ne s _ same).trans rfl⟩

theorem basinRelease_recounts (s : State) (fid : Nat) : Recounts s (basinRelease s fid) := by
  unfold basinRelease
  split
  · exact .of_macs rfl
  · refine .ite ?_ (.of_macs rfl)
    unfold basinFree
    dsimp only
    split
    · exact (Recounts.of_macs rfl).trans (macMod_recounts _ _ (fun occ => mapModify occ _ 0 (· - basinUnits _ _)))
    · exact .of_macs rfl

theorem letGo_recounts (s : State) (fid : Nat) (o : Option TxOrigin) (status : Option Nat) : Recounts s (letGo s fid o status) := by
  unfold letGo
  dsimp only
  split
  · exact .last (txMod_keeps _ _ _) (basinRelease_recounts _ _)
  · exact basinRelease_recounts _ _

theorem haltFinish_recounts (s : State) (ep g : Nat) : Recounts s (haltFinish s ep g) := by
  unfold haltFinish
  refine .ite ?_ (.of_macs rfl)
  refine .last (eventToManager_keeps _ _ _) (.last (trace_keeps _ _ _ _ _ _ _) (.last (errlogGen_keeps _ _ _ _ _ _ _) ?_))
  refine .ite ?_ (.last (vfEvent_keeps _ _ _ _) ?_) <;>
  · refine .last (keepRecord_keeps _ _ _ _) (.last (writeBack_keeps _ _ _) (.last (qpMod_keeps _ _ _ _) (.foldl ?_ (fun _ _ => letGo_recounts _ _ _ _))))
    exact .last (bumpBy_keeps _ _ _) (.ite (.of_keeps (qpMod_keeps _ _ _ _)) (.last (writeEntry_keeps _ _ _ _) (.of_keeps (qpMod_keeps _ _ _ _))))

theorem halt_recounts (s : State) (ep g cause ring : Nat) (index : Word) : Recounts s (halt s ep g cause ring index) := by
  unfold halt
  refine .ite (.of_macs rfl) ?_
  refine .trans ?_ (haltFinish_recounts _ _ _)
  refine .ite ?_ ?_
  · refine .last (functionError_keeps _ _ _) (.ite ?_ ?_)
    · exact .last (captureCause_keeps _ _ _ _ _) (.last (epMod_keeps _ _ _) (.of_keeps (qpSet_keeps _ _ _ _)))
    · refine .last (bump_keeps _ _) ?_
      exact .last (captureCause_keeps _ _ _ _ _) (.last (epMod_keeps _ _ _) (.of_keeps (qpSet_keeps _ _ _ _)))
  · exact .last (captureCause_keeps _ _ _ _ _) (.last (epMod_keeps _ _ _) (.of_keeps (qpSet_keeps _ _ _ _)))

/-! What a MAC transmits stays through what is queued for it. -/

/-- The frames in transmission are as they were. -/
def ActiveKept (s t : State) : Prop := ∀ m, (macGet t m).active = (macGet s m).active

namespace ActiveKept

variable {s t u : State}

theorem of_keeps {ps : List Part} (h : Keeps ps s t) (quiet : Part.macs ∉ ps := by decide) : ActiveKept s t := (Recounts.of_keeps h quiet).active

theorem trans (h : ActiveKept s t) (k : ActiveKept t u) : ActiveKept s u := fun m => (k m).trans (h m)

/-- A change elsewhere follows; the later change comes first, as in the term it is about. -/
theorem last {ps : List Part} (k : Keeps ps t u) (h : ActiveKept s t) (quiet : Part.macs ∉ ps := by decide) : ActiveKept s u :=
  h.trans (.of_keeps k quiet)

theorem ite {c : Prop} [Decidable c] (h : ActiveKept s t) (k : ActiveKept s u) : ActiveKept s (if c then t else u) := by
  split
  · exact h
  · exact k

end ActiveKept

theorem macMod_activeKept (s : State) (m : Nat) {g : MacState → MacState} (kept : ∀ x, (g x).active = x.active) : ActiveKept s (macMod s m g) := fun k => by
  by_cases same : k = m
  · rw [same, macGet_macMod_self, kept]
  · rw [macGet_macMod_ne _ _ same]

theorem macTake_activeKept (s : State) (m : Nat) (f : TxFrame) : ActiveKept s (macTake s m f) := by
  unfold macTake
  refine .ite ?_ (.ite (.ite ?_ ?_) (.ite ?_ ?_))
  · exact .trans (.of_keeps (bump_keeps _ _)) (letGo_recounts _ _ _ _).active
  · dsimp only
    split
    · exact .trans (letGo_recounts _ _ _ _).active (halt_recounts _ _ _ _ _ _).active
    · exact (letGo_recounts _ _ _ _).active
  · exact .trans (.ite (fun _ => rfl) (.of_keeps (bump_keeps _ _))) (macMod_activeKept _ _ (fun _ => rfl))
  · exact (letGo_recounts _ _ _ _).active
  · exact macMod_activeKept _ _ (fun _ => rfl)

theorem ptpSend_activeKept (s : State) (m t stamp : Nat) (tReq : Dword) (b : Bytes) : ActiveKept s (ptpSend s m t stamp tReq b) := by
  unfold ptpSend
  exact .trans (.last (newId_keeps _) (.of_keeps (drawn_keeps _))) (macTake_activeKept _ _ _)

theorem ptpSent_activeKept (s : State) (m : Nat) (f : TxFrame) (stamp : Dword) : ActiveKept s (ptpSent s m f stamp) := by
  unfold ptpSent
  dsimp only
  split
  · exact .ite (ptpSend_activeKept _ _ _ _ _ _) (fun _ => rfl)
  · exact .ite (.of_keeps (ptpSet_keeps _ _ _)) (fun _ => rfl)
  · exact .ite (.of_keeps (ptpSet_keeps _ _ _)) (fun _ => rfl)
  · exact .ite (ptpSend_activeKept _ _ _ _ _ _) (fun _ => rfl)
  · exact fun _ => rfl

theorem macTake_wired (s : State) (m : Nat) (f : TxFrame) : Wired s (macTake s m f) := by
  unfold macTake
  refine .ite ?_ (.ite (.ite ?_ ?_) (.ite ?_ ?_))
  · exact .last (letGo_keeps _ _ _ _) (.of_keeps (bump_keeps _ _))
  · dsimp only
    split
    · exact .trans (.of_keeps (letGo_keeps _ _ _ _)) (halt_wired _ _ _ _ _ _)
    · exact .of_keeps (letGo_keeps _ _ _ _)
  · exact .last (macMod_keeps _ _ _) (.ite (.refl _) (.of_keeps (bump_keeps _ _)))
  · exact .of_keeps (letGo_keeps _ _ _ _)
  · exact .of_keeps (macMod_keeps _ _ _)

theorem ptpSend_wired (s : State) (m t stamp : Nat) (tReq : Dword) (b : Bytes) : Wired s (ptpSend s m t stamp tReq b) := by
  unfold ptpSend
  exact .trans (.last (newId_keeps _) (.of_keeps (drawn_keeps _))) (macTake_wired _ _ _)

theorem ptpSent_wired (s : State) (m : Nat) (f : TxFrame) (stamp : Dword) : Wired s (ptpSent s m f stamp) := by
  unfold ptpSent
  dsimp only
  split
  · exact .ite (ptpSend_wired _ _ _ _ _ _) (.refl _)
  · exact .ite (.of_keeps (ptpSet_keeps _ _ _)) (.refl _)
  · exact .ite (.of_keeps (ptpSet_keeps _ _ _)) (.refl _)
  · exact .ite (ptpSend_wired _ _ _ _ _ _) (.refl _)
  · exact .refl _

section
variable {s : State} {m : Nat}

theorem stampDone_activeKept (s : State) (m : Nat) (a : TxActive) : ActiveKept s (stampDone s m a) := by
  have put : ∀ e, ActiveKept s (putStamp s m e) := fun e => by
    unfold putStamp
    exact .ite (.of_keeps (bump_keeps _ _)) (macMod_activeKept s m (g := fun x => { x with stamps := x.stamps ++ [e] }) (fun _ => rfl))
  unfold stampDone
  exact .ite (fun _ => rfl) (.last (stampPacket_keeps _ _ _) (.trans (.ite (fun _ => rfl) (put _)) (ptpSent_activeKept _ _ _ _)))

theorem stampDone_wired (s : State) (m : Nat) (a : TxActive) : Wired s (stampDone s m a) := by
  unfold stampDone
  exact .ite (.refl _) (.last (stampPacket_keeps _ _ _) (.trans (.ite (.refl _) (.of_keeps (putStamp_keeps _ _ _))) (ptpSent_wired _ _ _ _)))

/-! Selection, end, underrun and link drop. -/

theorem selects (sends : macSends s m = true) (idle : (macGet s m).active = none) (empty : (macGet s m).queue = []) (sent lane : Nat) :
    exec (.macTxSelect m sent lane) s = .next (selectFrame s m lane) := by
  show execMacTxSelect m sent lane s = _
  have counted : countDefers s m = s := by
    unfold countDefers
    rw [empty]
    have none : ∀ l : List Nat, l.flatMap (fun c => if classStopped s m c = true then [] else (heads [] c).filter (fun f => !f.deferred &&
        eligible s (weirPath s f.leaf) && decide (gateAnswer s m c (wireLen s m f) = .late))) = [] := fun l =>
      List.flatMap_eq_nil_iff.mpr (fun c _ => by split <;> rfl)
    rw [none]
    rfl
  unfold execMacTxSelect
  rw [if_neg (by simp [sends]), idle, empty]
  exact congrArg (fun u => done (selectFrame u m lane)) counted

theorem macTxSelect_sendsFc {d : Bool × Nat × Nat} {rest : List (Bool × Nat × Nat)} (sends : macSends s m = true) (idle : (macGet s m).active = none)
    (empty : (macGet s m).queue = []) (due : (macGet s m).fcDue = d :: rest) (sent lane : Nat) :
    Completes (.macTxSelect m sent lane) s (fun t => (macGet t m).fcDue = rest ∧ (macGet t m).active = none ∧
      Emits s t [.frame m (fcBytes s m d.1 d.2.1 d.2.2 ++ ethFcs (fcBytes s m d.1 d.2.1 d.2.2)) true]) := by
  refine completes_of (selects sends idle empty sent lane) ?_
  have sel : selectFrame s m lane = sendFc s m d := by unfold selectFrame; rw [due]
  rw [sel]
  obtain ⟨pfc, vec, time⟩ := d
  unfold sendFc
  dsimp only
  obtain ⟨u, hu⟩ : ∃ u, u = macMod s m (fun x => { x with fcDue := x.fcDue.drop 1 }) := ⟨_, rfl⟩
  obtain ⟨v, hv⟩ : ∃ v, v = bump64 u (if pfc = true then r_MAC_TX_PFC m else r_MAC_TX_PAUSE m) 1 := ⟨_, rfl⟩
  have taken : Keeps [.macs] s u := hu ▸ macMod_keeps _ _ _
  have octets : fcBytes u m pfc vec time = fcBytes s m pfc vec time := by
    unfold fcBytes macAddr hwField hwWord
    rw [taken.same .hw]
  rw [← hu, ← hv, octets]
  have traced : Keeps [.gauge, .regs] u (if pfc = true then trace v (17 + m) 3 0 0xFFF 0 (toLe 1 vec ++ zeros 1 ++ toLe 2 time) else v) :=
    .ite (.last (trace_keeps _ _ _ _ _ _ _) (hv ▸ .mono (bump64_keeps _ _ _))) (hv ▸ .mono (bump64_keeps _ _ _))
  have own : ∀ o, macGet (emit (if pfc = true then trace v (17 + m) 3 0 0xFFF 0 (toLe 1 vec ++ zeros 1 ++ toLe 2 time) else v) o) m =
      { macGet s m with fcDue := rest } := fun o => by
    rw [macGet_congr ((emit_keeps _ _).same .macs), macGet_congr (traced.same .macs), hu, macGet_macMod_self, due]
    rfl
  exact ⟨congrArg MacState.fcDue (own _), (congrArg MacState.active (own _)).trans idle, emit_emits _ ((traced.same .out).trans (taken.same .out))⟩

/-- A frame that starts is in transmission; nothing else of its MAC changes. -/
theorem startFrame_starts (s : State) (m lane : Nat) (f : TxFrame) (resend : Bool) :
    ∃ a, macGet (startFrame s m lane f resend) m = { macGet s m with active := some a } ∧ a.frame = f := by
  unfold startFrame
  extract_lets t b demoted u v
  have counted : Keeps [.regs] s v := by
    have first : Keeps [.regs] s u := .ite (bump_keeps _ _) .refl
    exact .ite (.last (bump64_keeps _ _ _) first) first
  rw [macGet_macMod_self, macGet_congr (counted.same .macs)]
  exact ⟨_, rfl, rfl⟩

theorem macTxSelect_starts {c : Nat} {p : Pick} (sends : macSends s m = true) (idle : (macGet s m).active = none)
    (empty : (macGet s m).queue = []) (free : (macGet s m).fcDue = []) (picked : pickMac s m = some (c, p)) (sent lane : Nat) :
    Completes (.macTxSelect m sent lane) s (fun t => (macGet t m).active.isSome = true ∧
      (∀ a, p = .resume a → (macGet t m).active = some a ∧ (macGet t m).preempted = none) ∧
      (∀ f, p = .resend f → (macGet t m).active.map (fun a => a.frame) = some f ∧ (macGet t m).resends = (macGet s m).resends.erase f) ∧
      t.out = s.out) := by
  refine completes_of (selects sends idle empty sent lane) ?_
  have sel : selectFrame s m lane = startPick s m lane p := by unfold selectFrame; rw [free, picked]
  rw [sel]
  cases p with
  | resume a =>
    unfold startPick
    rw [macGet_macMod_self]
    exact ⟨rfl, fun b h => ⟨by rw [Pick.resume.inj h], rfl⟩, fun _ h => (nomatch h), (macMod_keeps _ _ _).same .out⟩
  | resend f =>
    unfold startPick
    obtain ⟨a, started, frame⟩ := startFrame_starts (macMod s m (fun x => { x with resends := x.resends.erase f })) m lane f true
    rw [started, macGet_macMod_self]
    exact ⟨rfl, fun _ h => (nomatch h), fun g h => by obtain rfl := Pick.resend.inj h; exact ⟨congrArg Option.some frame, rfl⟩,
      (startFrame_keeps _ _ _ _ _).same .out⟩
  | head f d =>
    unfold startPick
    dsimp only
    obtain ⟨u, hu⟩ : ∃ u, u = macMod (chargePath s (weirPath s f.leaf) (wireLen s m f)) m
      (fun x => { x with queue := headAdvance x.queue f, deficit := d.deficit, turn := d.turn }) := ⟨_, rfl⟩
    have charged : u.out = s.out := hu ▸ (macMod_keeps _ _ _).same .out |>.trans ((chargePath_keeps _ _ _).same .out)
    obtain ⟨a, started, -⟩ := startFrame_starts u m lane f false
    rw [← hu, started]
    exact ⟨rfl, fun _ h => (nomatch h), fun _ h => (nomatch h), ((startFrame_keeps _ _ _ _ _).same .out).trans charged⟩

theorem macTxDone_frees {a : TxActive} (sending : (macGet s m).active = some a) : Completes (.macTxDone m) s (fun t => (macGet t m).active = none ∧
    ∃ os, Emits s t (.frame m (a.wire.drop a.sent) true :: os)) := by
  obtain ⟨u, hu⟩ : ∃ u, u = emit (macMod s m (fun x => { x with active := none })) (.frame m (a.wire.drop a.sent) true) := ⟨_, rfl⟩
  have idle : (macGet u m).active = none := by
    rw [hu, macGet_congr ((emit_keeps _ _).same .macs), macGet_macMod_self]
  have emits : Emits s u [.frame m (a.wire.drop a.sent) true] := hu ▸ emit_emits _ ((macMod_keeps _ _ _).same .out)
  obtain ⟨v, hv⟩ : ∃ v, v = stampDone (traceFrame (countTx u m a.wire a.frame.cls) m 2 a.frame.slice a.wire.length a.frame.cls) m a := ⟨_, rfl⟩
  obtain ⟨w, hw⟩ : ∃ w, w = if a.resend = true then v else cleanFrame v m := ⟨_, rfl⟩
  obtain ⟨t, ht⟩ : ∃ t, t = if a.frame.segment + 1 < segCount a.frame then w else letGo w a.frame.fid a.frame.origin none := ⟨_, rfl⟩
  have row : exec (.macTxDone m) s = .next t := by
    show execMacTxDone m s = _
    unfold execMacTxDone
    rw [sending, ht, hw, hv, hu]
  have counted : Keeps [.gauge, .regs] u (traceFrame (countTx u m a.wire a.frame.cls) m 2 a.frame.slice a.wire.length a.frame.cls) :=
    .last (traceFrame_keeps _ _ _ _ _ _) (.mono (countTx_keeps _ _ _ _))
  have still : ActiveKept u t := by
    have first : ActiveKept u v := hv ▸ .trans (.of_keeps counted) (stampDone_activeKept _ _ _)
    have second : ActiveKept u w := by
      rw [hw]
      refine .ite first (first.trans ?_)
      unfold cleanFrame
      exact macMod_activeKept _ _ (fun x => by split <;> rfl)
    rw [ht]
    exact .ite second (second.trans (letGo_recounts _ _ _ _).active)
  have wired : Wired u t := by
    have first : Wired u v := hv ▸ .trans (.of_keeps counted) (stampDone_wired _ _ _)
    have second : Wired u w := hw ▸ .ite first (.last (cleanFrame_keeps _ _) first)
    rw [ht]
    exact .ite second (.last (letGo_keeps _ _ _ _) second)
  obtain ⟨os, later⟩ := wired.out
  exact completes_of row ⟨(still m).trans idle, os, emits.append later⟩

theorem underrun_resends {sent : Nat} {a : TxActive} (sending : (macGet s m).active = some a) (first : a.resend = false)
    (cut : (macGet s m).ctCurrent < a.wire.length) (after : a.sent ≤ sent) (before : sent < a.wire.length) :
    Completes (.underrun m sent) s (fun t => (macGet t m).active = none ∧ (macGet t m).resends = (macGet s m).resends ++ [a.frame] ∧
      (macGet t m).clean = 0 ∧ Emits s t [.frame m ((a.wire.take sent).drop a.sent ++ (ethFcs (a.wire.take sent)).map (fun b => ~~~b)) false] ∧
      ChangesOnly [.macs, .regs, .gauge, .out] s t) := by
  obtain ⟨cur, hcur⟩ : ∃ cur, cur = if (macGet s m).ctCurrent < maxFrame s m then (macGet s m).ctCurrent + 512 else (macGet s m).ctCurrent := ⟨_, rfl⟩
  obtain ⟨u, hu⟩ : ∃ u, u = trace (bump64 (macSet s m { macGet s m with active := none, resends := (macGet s m).resends ++ [a.frame], ctCurrent := cur, clean := 0 })
    (r_MAC_TX_UNDERRUN m) 1) (17 + m) 5 0 a.frame.slice 0 (toLe 2 cur) := ⟨_, rfl⟩
  have kept : Keeps [.macs, .regs, .gauge] s u :=
    hu ▸ .last (trace_keeps _ _ _ _ _ _ _) (.last (bump64_keeps _ _ _) (.mono (macSet_keeps _ _ _)))
  have own : ∀ o, macGet (emit u o) m = { macGet s m with active := none, resends := (macGet s m).resends ++ [a.frame], ctCurrent := cur, clean := 0 } := fun o => by
    rw [macGet_congr ((emit_keeps _ _).same .macs), hu, macGet_congr ((trace_keeps _ _ _ _ _ _ _).same .macs),
      macGet_congr ((bump64_keeps _ _ _).same .macs)]
    exact mapGetD_mapSet_self _ _ _ _
  have row : exec (.underrun m sent) s = .next (emit u (.frame m ((a.wire.take sent).drop a.sent ++ (ethFcs (a.wire.take sent)).map (fun b => ~~~b)) false)) := by
    show execUnderrun m sent s = _
    unfold execUnderrun
    dsimp only
    rw [sending, hu, hcur]
    exact if_pos ⟨by simp [first], cut, after, before⟩
  exact completes_of row ⟨congrArg MacState.active (own _), congrArg MacState.resends (own _), congrArg MacState.clean (own _),
    emit_emits _ (kept.same .out), (Keeps.last (emit_keeps _ _) kept.mono).frame⟩

theorem txLinkWaitExpire_drops {f : TxFrame} (quiet : macSends s m = false) (lossy : (macGet s m).queue.find? (fun f => !f.lossless) = some f) :
    Completes (.txLinkWaitExpire m) s (fun t => (macGet t m).queue = (macGet s m).queue.eraseP (fun f => !f.lossless)) := by
  obtain ⟨u, hu⟩ : ∃ u, u = bump64 (macSet s m { macGet s m with queue := (macGet s m).queue.eraseP (fun f => !f.lossless) }) (r_MAC_TX_LINK_DROP m)
    (segCount f - f.segment) := ⟨_, rfl⟩
  have row : exec (.txLinkWaitExpire m) s = .next (letGo u f.fid f.origin (some 1)) := by
    show execTxLinkWaitExpire m s = _
    unfold execTxLinkWaitExpire
    dsimp only
    rw [if_neg (by simp [quiet]), lossy, hu]
  have own : macGet u m = { macGet s m with queue := (macGet s m).queue.eraseP (fun f => !f.lossless) } := by
    rw [hu, macGet_congr ((bump64_keeps _ _ _).same .macs)]
    exact mapGetD_mapSet_self _ _ _ _
  exact completes_of row (((letGo_recounts _ _ _ _).queue m).trans (congrArg MacState.queue own))

end

/-- Settles O32. -/
theorem transmissionStartsEndsAndDrops : Obligations.TransmissionStartsEndsAndDrops := by
  unfold Obligations.TransmissionStartsEndsAndDrops
  exact ⟨fun _ _ lane sent _ _ sends idle empty due => macTxSelect_sendsFc sends idle empty due sent lane,
    fun _ _ lane sent _ _ sends idle empty free picked => macTxSelect_starts sends idle empty free picked sent lane,
    fun _ _ _ sending => macTxDone_frees sending, fun _ _ _ _ sending first cut after before => underrun_resends sending first cut after before,
    fun _ _ _ quiet lossy => txLinkWaitExpire_drops quiet lossy⟩

end Sys2Proof.Machine
end

section
/-! PROOFS. Flow control, shapers, gates and links in time (O33). -/

namespace Sys2Proof.Machine

open Sys2Proof

set_option Elab.async false

section
variable {s : State} {m c : Nat}

theorem macGet_macSet_self (s : State) (m : Nat) (x : MacState) : macGet (macSet s m x) m = x := mapGetD_mapSet_self _ _ _ _

/-! Flow control of a MAC (R353 to R358). -/

theorem fcAsk_fcDue (s : State) (m : Nat) (pfc : Bool) (vec time : Nat) :
    macGet (fcAsk s m pfc vec time) m = { macGet s m with fcDue := (macGet s m).fcDue ++ [(pfc, vec, time)] } := macGet_macMod_self _ _ _

theorem xoffLeave_releases (full : c ∈ (macGet s m).xoff) (drained : mapGetD (macGet s m).occ c 0 ≤ regField s (r_MAC_PFC_XON m c) 23 0) :
    Completes (.xoffLeave m c) s (fun t => (macGet t m).xoff = (macGet s m).xoff.filter (fun y => y ≠ c) ∧
      (fcTxEn s m = true → fcMode s m = 1 → (macGet t m).fcDue = (macGet s m).fcDue ++ [(true, classPrios s m c, 0)]) ∧
      (fcTxEn s m = true → fcMode s m = 0 → (macGet s m).xoff.filter (fun y => y ≠ c) = [] →
        (macGet t m).fcDue = (macGet s m).fcDue ++ [(false, 0, 0)]) ∧ ChangesOnly [.macs] s t) := by
  obtain ⟨u, hu⟩ : ∃ u, u = macSet s m { macGet s m with xoff := (macGet s m).xoff.filter (fun y => y ≠ c) } := ⟨_, rfl⟩
  have left : macGet u m = { macGet s m with xoff := (macGet s m).xoff.filter (fun y => y ≠ c) } := hu ▸ macGet_macSet_self _ _ _
  have kept : Keeps [.macs] s u := hu ▸ macSet_keeps _ _ _
  have row : exec (.xoffLeave m c) s = .next (if (!fcTxEn s m) = true then u else if fcMode s m = 1 then fcAsk u m true (classPrios s m c) 0
      else if (macGet u m).xoff = [] then fcAsk u m false 0 0 else u) := by
    show execXoffLeave m c s = _
    unfold execXoffLeave
    rw [hu]
    exact if_pos ⟨full, drained⟩
  refine completes_of row ⟨?_, fun en pfc => ?_, fun en pause empty => ?_, ?_⟩
  · split_ifs <;> simp only [fcAsk_fcDue, left]
  · rw [if_neg (by simp [en]), if_pos pfc, fcAsk_fcDue, left]
  · rw [if_neg (by simp [en]), if_neg (by omega), if_pos (by rw [left]; exact empty), fcAsk_fcDue, left]
  · exact (Keeps.ite kept (.ite (.last (fcAsk_keeps _ _ _ _ _) kept) (.ite (.last (fcAsk_keeps _ _ _ _ _) kept) kept))).frame

theorem pfcRefresh_asks (full : c ∈ (macGet s m).xoff) (en : fcTxEn s m = true) : Completes (.pfcRefresh m c) s (fun t =>
    (macGet t m).fcDue = (macGet s m).fcDue ++ [if fcMode s m = 1 then (true, classPrios s m c, regField s (r_MAC_PFC_QUANTA m) 15 0)
      else (false, 0, regField s (r_MAC_PFC_QUANTA m) 15 0)] ∧ ChangesOnly [.macs] s t) := by
  have row : exec (.pfcRefresh m c) s = .next (if fcMode s m = 1 then fcAsk s m true (classPrios s m c) (regField s (r_MAC_PFC_QUANTA m) 15 0)
      else fcAsk s m false 0 (regField s (r_MAC_PFC_QUANTA m) 15 0)) := by
    show execPfcRefresh m c s = _
    unfold execPfcRefresh
    exact if_pos ⟨full, en⟩
  refine completes_of row ?_
  split
  · exact ⟨by rw [fcAsk_fcDue], (fcAsk_keeps _ _ _ _ _).frame⟩
  · exact ⟨by rw [fcAsk_fcDue], (fcAsk_keeps _ _ _ _ _).frame⟩

theorem pauseExpire_ends (stopped : mapHas (macGet s m).stopped c = true) : Completes (.pauseExpire m c) s (fun t =>
    mapGet (macGet t m).stopped c = none ∧ (regField s (r_MAC_PFC_WATCHDOG m) 16 16 = 1 → (macGet t m).storm = (macGet s m).storm) ∧
    (regField s (r_MAC_PFC_WATCHDOG m) 16 16 ≠ 1 → c ∉ (macGet t m).storm) ∧ ChangesOnly [.macs] s t) := by
  refine completes_of (c := .pauseExpire m c) (if_pos stopped) ?_
  rw [macGet_macMod_self]
  refine ⟨mapGet_mapErase_self _ _, fun obeyed => if_pos obeyed, fun released => ?_, (macMod_keeps _ _ _).frame⟩
  dsimp only
  rw [if_neg released]
  simp

theorem pfcStorm_begins (stopped : mapHas (macGet s m).stopped c = true) (calm : c ∉ (macGet s m).storm)
    (watched : regField s (r_MAC_PFC_WATCHDOG m) 15 0 ≠ 0) : Completes (.pfcStorm m c) s (fun t =>
      (macGet t m).storm = (macGet s m).storm ++ [c] ∧ ChangesOnly [.macs, .regs, .mbx, .gauge] s t) := by
  refine completes_of (c := .pfcStorm m c) (if_pos ⟨stopped, calm, watched⟩) ⟨?_, ?_⟩
  · rw [macGet_congr ((eventToManager_keeps _ _ _).same .macs), macGet_congr ((setBits_keeps _ _ _).same .macs), macGet_macSet_self]
  · exact (Keeps.last (eventToManager_keeps _ _ _) (.last (setBits_keeps _ _ _) (.mono (macSet_keeps _ _ _)))).frame

theorem pfcStormRelease_ends (storm : c ∈ (macGet s m).storm) (obeyed : regField s (r_MAC_PFC_WATCHDOG m) 16 16 = 1) :
    Completes (.pfcStormRelease m c) s (fun t => (macGet t m).storm = (macGet s m).storm.filter (fun y => y ≠ c) ∧ ChangesOnly [.macs] s t) :=
  completes_of (c := .pfcStormRelease m c) (if_pos ⟨storm, obeyed⟩) ⟨by rw [macGet_macMod_self], (macMod_keeps _ _ _).frame⟩

end

/-! Weir (R364, R366). -/

section
variable {s : State} {p : Nat}

/-- A change of the values of a map by key. -/
theorem mapGet_map {α β : Type} (l : AMap α) (f : Nat → α → β) (k : Nat) :
    mapGet (l.map (fun x => (x.1, f x.1 x.2))) k = (mapGet l k).map (f k) := by
  induction l with
  | nil => rfl
  | cons x l ih =>
    obtain ⟨j, v⟩ := x
    rw [List.map_cons]
    unfold mapGet
    split
    next own => rw [own, Option.map_some]
    · exact ih

/-- What a tick gives a shaper of a port: the settings that waited, and its bucket. -/
def shaperTick (x : Shaper) : Shaper :=
  { x with tokens := (bucketTick x.rate x.depth x.tokens x.rem).1, rem := (bucketTick x.rate x.depth x.tokens x.rem).2 }

/-- A shaper after the tick of a port. -/
def tickedAt (p i : Nat) (x : Shaper) : Shaper := if i / 32768 = p then shaperTick x else x

theorem shaperSet_others (u : State) {j i : Nat} (y : Shaper) (other : j ≠ i) : mapGet (shaperSet u j y).weir.shapers i = mapGet u.weir.shapers i := by
  unfold shaperSet
  dsimp only
  split
  · exact mapGet_mapErase_ne _ (Ne.symm other)
  · exact mapGet_mapSet_ne _ _ (Ne.symm other)

theorem shaperApplies_weir (l : List (Nat × Shaper)) (s : State) :
    (l.foldl (fun s x => shaperApply s x.1 x.2) s).weir.pendingSets = s.weir.pendingSets ∧
    ∀ i, (∀ x ∈ l, x.1 ≠ i) → mapGet (l.foldl (fun s x => shaperApply s x.1 x.2) s).weir.shapers i = mapGet s.weir.shapers i := by
  have one : ∀ (u : State) (x : Nat × Shaper), (shaperApply u x.1 x.2).weir.pendingSets = u.weir.pendingSets ∧
      ∀ i, x.1 ≠ i → mapGet (shaperApply u x.1 x.2).weir.shapers i = mapGet u.weir.shapers i := fun u x => by
    unfold shaperApply
    dsimp only
    split <;> exact ⟨rfl, fun i other => shaperSet_others u _ other⟩
  induction l generalizing s with
  | nil => exact ⟨rfl, fun _ _ => rfl⟩
  | cons x l ih =>
    obtain ⟨sets, shapers⟩ := ih (shaperApply s x.1 x.2)
    exact ⟨sets.trans (one s x).1, fun i others => (shapers i (fun y later => others y (List.mem_cons_of_mem _ later))).trans
      ((one s x).2 i (others x List.mem_cons_self))⟩

theorem weirTick_ticks (port : p ≤ 1) (on : clockOn s = true) : Completes (.weirTick p) s (fun t =>
    counter64 t (r_WEIR_TICKS p) = (counter64 s (r_WEIR_TICKS p) + 1) % 2 ^ 64 ∧ (∀ x ∈ t.weir.pendingSets, x.1 / 32768 ≠ p) ∧
    (∀ i x, i / 32768 = p → (∀ y ∈ s.weir.pendingSets, y.1 ≠ i) → mapGet s.weir.shapers i = some x → mapGet t.weir.shapers i = some
      { x with tokens := (bucketTick x.rate x.depth x.tokens x.rem).1, rem := (bucketTick x.rate x.depth x.tokens x.rem).2 }) ∧
    (∀ i, i / 32768 ≠ p → mapGet t.weir.shapers i = mapGet s.weir.shapers i) ∧ ChangesOnly [.weir, .regs] s t) := by
  obtain ⟨u, hu⟩ : ∃ u, u = bump64 s (r_WEIR_TICKS p) 1 := ⟨_, rfl⟩
  obtain ⟨v, hv⟩ : ∃ v, v = (u.weir.pendingSets.filter (fun x => decide (x.1 / 32768 = p))).foldl (fun s x => shaperApply s x.1 x.2) u := ⟨_, rfl⟩
  have row : exec (.weirTick p) s = .next { v with weir := { v.weir with
      pendingSets := v.weir.pendingSets.filter (fun x => !decide (x.1 / 32768 = p))
      shapers := v.weir.shapers.map (fun x => if decide (x.1 / 32768 = p) = true then (x.1, shaperTick x.2) else x) } } := by
    show execWeirTick p s = _
    unfold execWeirTick
    rw [hv, hu, if_neg (by simp [on]; omega)]
    rfl
  have weir : u.weir = s.weir := hu ▸ (bump64_keeps _ _ _).same .weir
  obtain ⟨sets, shapers⟩ := shaperApplies_weir (u.weir.pendingSets.filter (fun x => decide (x.1 / 32768 = p))) u
  rw [← hv, weir] at sets shapers
  have applied : Keeps [.weir] u v := hv ▸ .foldl .refl (fun _ _ => shaperApply_keeps _ _ _)
  have keyed : (fun x : Nat × Shaper => if decide (x.1 / 32768 = p) = true then (x.1, shaperTick x.2) else x) =
      fun x => (x.1, tickedAt p x.1 x.2) := by
    funext x
    unfold tickedAt
    by_cases own : x.1 / 32768 = p
    · simp only [own, decide_true, if_true]
    · simp only [own, decide_false, if_false, Bool.false_eq_true]
  refine completes_of row ⟨?_, fun x left => ?_, fun i x own calm here => ?_, fun i other => ?_, ?_⟩
  · have counted : counter64 v (r_WEIR_TICKS p) = counter64 u (r_WEIR_TICKS p) := RegKept.counter64 (.of_regs (applied.same .regs)) (.of_regs (applied.same .regs))
    exact counted.trans (hu ▸ counter64_bump64_self _ _ _)
  · simpa using (List.mem_filter.mp left).2
  · dsimp only
    rw [keyed, mapGet_map, shapers i (fun y waiting => calm y (List.mem_of_mem_filter waiting)), here, Option.map_some]
    exact congrArg Option.some (if_pos own)
  · dsimp only
    have untouched : ∀ y ∈ s.weir.pendingSets.filter (fun x => decide (x.1 / 32768 = p)), y.1 ≠ i := fun y mine => by
      rintro rfl
      exact other (by simpa using (List.mem_filter.mp mine).2)
    rw [keyed, mapGet_map, shapers i untouched]
    cases mapGet s.weir.shapers i with
    | none => rfl
    | some x => exact congrArg Option.some (if_neg other)
  · have counted : Keeps [.weir, .regs] s u := hu ▸ (bump64_keeps s (r_WEIR_TICKS p) 1).mono
    exact ((Keeps.last applied counted).frame).step (ChangesOnly.of_patch rfl)

end

/-! Sluice, preemption and links. -/

section
variable {s : State} {m : Nat}

theorem takeEntry_takes (s : State) (m i : Nat) : ∃ hold, macGet (takeEntry s m i) m =
    { macGet s m with entry := i, operGates := BitVec.ofNat 8 (gclEntry (macGet s m).oper i).1, hold } := by
  unfold takeEntry
  dsimp only
  rw [macGet_congr ((trace_keeps _ _ _ _ _ _ _).same .macs), macGet_macSet_self]
  exact ⟨_, rfl⟩

theorem gateChange_changes (enabled : (macGet s m).gateEn = true) : Completes (.gateChange m) s (fun t =>
    (macGet t m).entry = (operAt (macGet s m) (absNs s)).1 ∧
    (macGet t m).operGates = BitVec.ofNat 8 (gclEntry (macGet s m).oper (operAt (macGet s m) (absNs s)).1).1 ∧
    ChangesOnly [.macs, .gauge, .regs] s t) := by
  refine completes_of (c := .gateChange m) (if_pos enabled) ?_
  generalize (operAt (macGet s m) (absNs s)).1 = i
  split
  next same =>
    refine ⟨same.1.symm, ?_, .refl _ _⟩
    rw [← same.2, BitVec.ofNat_toNat, BitVec.setWidth_eq]
  · obtain ⟨hold, taken⟩ := takeEntry_takes s m i
    rw [taken]
    exact ⟨rfl, rfl, (takeEntry_keeps _ _ _).frame⟩

theorem gclChangeTime_switches {c : GclCommit} (waits : (macGet s m).commit = some c) (due : changeAt c ≤ absNs s) :
    Completes (.gclChangeTime m) s (fun t => (macGet t m).oper = c.list ∧ (macGet t m).operLen = c.len ∧ (macGet t m).operCycle = c.cycle ∧
      (macGet t m).gateEn = c.gateEn ∧ (macGet t m).commit = none ∧ ChangesOnly [.macs, .gauge, .regs, .mbx] s t) := by
  obtain ⟨x, hx⟩ : ∃ x, x = { macGet s m with oper := c.list, operLen := c.len, operCycle := c.cycle, operBaseS := c.baseS, operBaseNs := c.baseNs,
                                              gateEn := c.gateEn, commit := none } := ⟨_, rfl⟩
  obtain ⟨u, hu⟩ : ∃ u, u = if c.gateEn = true then takeEntry (macSet s m x) m (schedAt (operSched x) (absNs (macSet s m x))).1
      else macSet (macSet s m x) m { x with entry := 0, hold := false, operGates := BitVec.ofNat 8 (adminGates (macSet s m x) m) } := ⟨_, rfl⟩
  have row : exec (.gclChangeTime m) s = .next (eventToManager u 0x8620 (toLe 1 m ++ zeros 3 ++ toLe 8 c.changeS ++ toLe 4 c.changeNs)) := by
    show execGclChangeTime m s = _
    unfold execGclChangeTime
    dsimp only
    rw [waits, hu, hx]
    exact if_neg (by omega)
  have kept : Keeps [.macs, .gauge, .regs] s u := hu ▸ .ite (.last (takeEntry_keeps _ _ _) (.mono (macSet_keeps _ _ _)))
    (.last (macSet_keeps _ _ _) (.mono (macSet_keeps _ _ _)))
  have own : ∃ entry operGates hold, macGet u m = { x with entry, operGates, hold } := by
    rw [hu]
    split
    · obtain ⟨hold, taken⟩ := takeEntry_takes (macSet s m x) m (schedAt (operSched x) (absNs (macSet s m x))).1
      rw [taken, macGet_macSet_self]
      exact ⟨_, _, _, rfl⟩
    · rw [macGet_macSet_self]
      exact ⟨_, _, _, rfl⟩
  obtain ⟨_, _, _, own⟩ := own
  refine completes_of row ?_
  rw [macGet_congr ((eventToManager_keeps _ _ _).same .macs), own, hx]
  exact ⟨rfl, rfl, rfl, rfl, rfl, (Keeps.last (eventToManager_keeps _ _ _) kept.mono).frame⟩

theorem preemptVerify_ends (ok : Bool) (verifies : (macGet s m).verifyState = 1) : Completes (.preemptVerify m ok) s (fun t =>
    (macGet t m).verifyState = (if ok then 2 else 3) ∧ ChangesOnly [.macs] s t) :=
  completes_of (c := .preemptVerify m ok) (if_pos verifies) ⟨by rw [macGet_macSet_self], (macSet_keeps _ _ _).frame⟩

theorem linkChange_changes (s : State) (m : Nat) (up : Bool) (fault : Nat) : ∃ verifyState, macGet (linkChange s m up fault) m =
    { macGet s m with linkUp := up, localFault := decide (fault = 1), remoteFault := decide (fault = 2), verifyState } := by
  have told : ∀ u code payload, macGet (eventToManager (if (macGet s m).linkUp = up then u else vfEventAll u 0) code payload) m = macGet u m := fun u _ _ => by
    rw [macGet_congr ((eventToManager_keeps _ _ _).same .macs)]
    split
    · rfl
    · rw [macGet_congr ((vfEventAll_keeps _ _).same .macs)]
  unfold linkChange
  dsimp only
  rw [told, macGet_macMod_self]
  exact ⟨_, rfl⟩

/-- A port whose lanes `a` to `a + n - 1` have locked too. -/
def lockLanes (a n : Nat) (x : Port) : Port := { x with laneLock := x.laneLock ||| BitVec.ofNat 8 ((List.range n).foldl (fun v i => v + 2 ^ (a + i)) 0) }

/-- The lanes `a` to `a + n - 1`, as a sum. -/
theorem lanes_sum (a n : Nat) : (List.range n).foldl (fun v i => v + 2 ^ (a + i)) 0 = 2 ^ a * (2 ^ n - 1) := by
  induction n with
  | zero => rfl
  | succ n ih =>
    rw [List.range_succ, List.foldl_append, ih, List.foldl_cons, List.foldl_nil, Nat.pow_add, ← Nat.mul_add, Nat.pow_succ]
    have := Nat.one_le_two_pow (n := n)
    congr 1
    omega

theorem macGroup_within {a n : Nat} (used : macUsed s m = true) (group : macGroup s m = some (a, n)) : a + n ≤ 8 := by
  unfold macUsed at used
  unfold macGroup at group
  dsimp only at group
  have lanes : modeLanes (portGet s (m / 8)).mode = 8 ∨ modeLanes (portGet s (m / 8)).mode = 4 ∨ modeLanes (portGet s (m / 8)).mode = 2 ∨
      modeLanes (portGet s (m / 8)).mode = 1 := by unfold modeLanes; split_ifs <;> simp
  simp only [Bool.and_eq_true, decide_eq_true_eq] at used
  obtain ⟨-, aligned⟩ := used
  generalize modeLanes (portGet s (m / 8)).mode = k at lanes aligned group
  obtain ⟨size, sizes, found⟩ := List.exists_of_findSome?_eq_some group
  split at found
  next fits =>
    obtain ⟨i, within, lane⟩ := List.exists_of_findSome?_eq_some found
    rw [List.mem_range] at within
    split at lane
    · obtain ⟨rfl, rfl⟩ := Prod.mk.inj (Option.some.inj lane)
      have whole : size * i + size ≤ k :=
        calc size * i + size = size * (i + 1) := by rw [Nat.mul_succ]
          _ ≤ size * (k / size) := Nat.mul_le_mul_left _ within
          _ ≤ k := Nat.mul_div_le _ _
      rcases lanes with rfl | rfl | rfl | rfl <;> omega
    · cases lane
  · cases found

theorem linkUp_links {a n : Nat} (on : datapathOn s = true) (joined : s.dev.isolated = false) (clock : s.dev.ethRefclk = true)
    (used : macUsed s m = true) (down : (macGet s m).linkUp = false) (group : macGroup s m = some (a, n)) :
    Completes (.linkUp m) s (fun t => (macGet t m).linkUp = true ∧ (macGet t m).localFault = false ∧
      (macGet t m).remoteFault = false ∧ (∀ i < n, (portGet t (m / 8)).laneLock.getLsbD (a + i) = true)) := by
  have row : exec (.linkUp m) s = .next (linkChange (portMod s (m / 8) (lockLanes a n)) m true 0) := by
    show execLinkUp m s = _
    unfold execLinkUp
    rw [if_pos ⟨on, by simp [joined], clock, used, by simp [down]⟩, group]
    rfl
  obtain ⟨_, changed⟩ := linkChange_changes (portMod s (m / 8) (lockLanes a n)) m true 0
  refine completes_of row ?_
  rw [changed]
  refine ⟨rfl, rfl, rfl, fun i lane => ?_⟩
  have within := macGroup_within used group
  have told := linkChange_keeps (portMod s (m / 8) (lockLanes a n)) m true 0
  rw [show portGet (linkChange _ m true 0) (m / 8) = portGet (portMod s (m / 8) _) (m / 8) by
    unfold portGet; rw [told.same .port0, told.same .port1], portGet_portMod_self]
  unfold lockLanes
  rw [BitVec.getLsbD_or, lanes_sum]
  have bit : (BitVec.ofNat 8 (2 ^ a * (2 ^ n - 1))).getLsbD (a + i) = true := by
    rw [BitVec.getLsbD_ofNat, Nat.testBit_two_pow_mul, Nat.add_sub_cancel_left, Nat.testBit_two_pow_sub_one]
    simp
    omega
  rw [bit, Bool.or_true]

theorem linkFault_fails (remote : Bool) (up : (macGet s m).linkUp = true) : Completes (.linkFault m remote) s (fun t =>
    (macGet t m).linkUp = false ∧ (macGet t m).localFault = !remote ∧ (macGet t m).remoteFault = remote) := by
  refine completes_of (c := .linkFault m remote) (if_pos up) ?_
  obtain ⟨_, changed⟩ := linkChange_changes s m false (if remote = true then 2 else 1)
  rw [changed]
  cases remote <;> exact ⟨rfl, rfl, rfl⟩

end

/-- Settles O33. -/
theorem flowControlShapersGatesAndLinksAct : Obligations.FlowControlShapersGatesAndLinksAct := by
  unfold Obligations.FlowControlShapersGatesAndLinksAct
  exact ⟨⟨fun _ _ _ full drained => xoffLeave_releases full drained, fun _ _ _ full en => pfcRefresh_asks full en,
      fun _ _ _ stopped => pauseExpire_ends stopped, fun _ _ _ stopped calm watched => pfcStorm_begins stopped calm watched,
      fun _ _ _ storm obeyed => pfcStormRelease_ends storm obeyed⟩,
    fun _ _ port on => weirTick_ticks port on, fun _ _ enabled => gateChange_changes enabled,
    fun _ _ _ waits due => gclChangeTime_switches waits due, fun _ _ ok verifies => preemptVerify_ends ok verifies,
    fun _ _ _ _ on joined clock used down group => linkUp_links on joined clock used down group,
    fun _ _ remote up => linkFault_fails remote up⟩

end Sys2Proof.Machine
end

section
/-! PROOFS. The commands of ports, lanes, flow control, shapers and gates (O34). -/

namespace Sys2Proof.Machine

open Sys2Proof

set_option Elab.async false

theorem byteAt_lt (b : Bytes) (i : Nat) : byteAt b i < 256 := (b.getD i 0).isLt

theorem macGet_answer (s : State) (ch seq code : Nat) (body : Bytes) (m : Nat) : macGet (answer s ch seq code body) m = macGet s m :=
  macGet_congr (answer_macs s ch seq code body) m

theorem portGet_answer (s : State) (ch seq code : Nat) (body : Bytes) (p : Nat) : portGet (answer s ch seq code body) p = portGet s p := by
  unfold portGet; rw [answer_port0, answer_port1]

theorem hwField_answer (s : State) (ch seq code : Nat) (body : Bytes) (w hi lo : Nat) :
    hwField (answer s ch seq code body) w hi lo = hwField s w hi lo := by unfold hwField; rw [hwWord_answer]

/-! A port's mode (R340). -/

theorem linkChange_others (s : State) {m k : Nat} (up : Bool) (fault : Nat) (other : k ≠ m) : macGet (linkChange s m up fault) k = macGet s k := by
  have told : ∀ u code payload, macGet (eventToManager (if (macGet s m).linkUp = up then u else vfEventAll u 0) code payload) k = macGet u k := fun u _ _ => by
    rw [macGet_congr ((eventToManager_keeps _ _ _).same .macs)]
    split
    · rfl
    · rw [macGet_congr ((vfEventAll_keeps _ _).same .macs)]
  unfold linkChange
  dsimp only
  rw [told, macGet_macMod_ne _ _ other]

theorem macReset_self (s : State) (m : Nat) : ∃ occ admin stamps stampLatch, macGet (macReset s m) m = { occ, admin, stamps, stampLatch } := by
  unfold macReset
  dsimp only
  rw [macGet_macSet_self]
  exact ⟨_, _, _, _, rfl⟩

theorem macReset_others (s : State) {m k : Nat} (other : k ≠ m) : macGet (macReset s m) k = macGet s k := by
  have set : ∀ (u : State) (x : MacState), macGet (macSet u m x) k = macGet u k := fun _ _ => mapGetD_mapSet_ne _ _ _ other
  unfold macReset
  dsimp only
  rw [set]
  split
  · exact linkChange_others s _ _ other
  · rfl

/-- A MAC that has started anew: its link is down, and neither its gates nor its flow control act. -/
def MacAnew (x : MacState) : Prop := x.linkUp = false ∧ x.gateEn = false ∧ x.xoff = []

theorem macResets_anew (l : List Nat) (s : State) {m : Nat} (h : m ∈ l ∨ MacAnew (macGet s m)) : MacAnew (macGet (l.foldl macReset s) m) := by
  induction l generalizing s with
  | nil => simpa using h
  | cons a l ih =>
    refine ih _ ?_
    by_cases own : m = a
    · obtain ⟨_, _, _, _, anew⟩ := macReset_self s a
      rw [own, anew]
      exact .inr ⟨rfl, rfl, rfl⟩
    · rw [macReset_others s own]
      exact h.imp_left (fun mem => (List.mem_cons.mp mem).resolve_left own)

theorem macResets_others (l : List Nat) (s : State) {m : Nat} (other : m ∉ l) : macGet (l.foldl macReset s) m = macGet s m := by
  induction l generalizing s with
  | nil => rfl
  | cons a l ih =>
    rw [List.mem_cons, not_or] at other
    rw [List.foldl_cons, ih _ other.2, macReset_others s other.1]

theorem macResets_told (l : List Nat) (s : State) : Told s (l.foldl macReset s) := by
  refine .foldl (fun u m => ?_) l s
  unfold macReset
  exact .last (macSet_keeps _ _ _) (.ite (linkChange_told _ _ _ _) (.refl u))

/-- The registers that stay after others go. -/
theorem mapGet_filter_gone {α : Type} (l : AMap α) {gone : Nat → Bool} {k : Nat} (h : gone k = true) :
    mapGet (l.filter (fun r => !gone r.1)) k = none := by
  induction l with
  | nil => rfl
  | cons x l ih =>
    obtain ⟨j, v⟩ := x
    rw [List.filter_cons]
    split
    next stays =>
      have ne : k ≠ j := fun same => by simp [← same, h] at stays
      unfold mapGet
      rw [if_neg ne, ih]
    · exact ih

theorem mem_portMacs {p m : Nat} : m ∈ portMacs p ↔ ∃ k < 8, 8 * p + k = m := by simp [portMacs]

section
variable {s : State} {p mode : Nat}

/-- What a port that took a mode keeps and sets; its registers but those of its MACs are `macResets_told`'s. -/
theorem portReset_resets (s : State) (p mode : Nat) : portGet (portReset s p mode) p = { portGet s p with mode := mode, laneLock := 0 } ∧
    (portReset s p mode).hw = s.hw ∧ (∀ ch, (chanGet (portReset s p mode) ch).started = (chanGet s ch).started) ∧
    (∀ m, macGet (portReset s p mode) m = macGet ((portMacs p).foldl macReset s) m) ∧
    ∀ a, macCtlReg p a = true → reg (portReset s p mode) a = regReset a := by
  obtain ⟨u, hu⟩ : ∃ u, u = (portMacs p).foldl macReset s := ⟨_, rfl⟩
  have kept : Keeps [.mbx, .ep0, .ep1, .macs, .gauge, .regs] s u := hu ▸ .foldl .refl (fun _ _ => macReset_keeps _ _)
  have told : Told s u := hu ▸ macResets_told _ _
  obtain ⟨v, hv⟩ : ∃ v, v = portMod u p (fun x => { x with mode := mode, laneLock := 0 }) := ⟨_, rfl⟩
  have ported : Keeps [.port0, .port1] u v := hv ▸ portMod_keeps _ _ _
  have reset : portReset s p mode = { v with
      regs := v.regs.filter (fun r => !macCtlReg p r.1)
      basin := { v.basin with lossless := v.basin.lossless.filter (fun r => r.1 / 64 ≠ p) } } := by rw [hv, hu]; rfl
  rw [reset]
  refine ⟨?_, (ported.same .hw).trans (kept.same .hw), fun ch => ?_, fun m => ?_, fun a own => ?_⟩
  · show portGet v p = _
    rw [hv, portGet_portMod_self]
    unfold portGet
    rw [kept.same .port0, kept.same .port1]
  · show (chanGet v ch).started = _
    rw [chanGet_congr (ported.same .mbx), told.started]
  · show macGet v m = _
    rw [macGet_congr (ported.same .macs), hu]
  · unfold reg
    rw [mapGet_filter_gone v.regs own]

theorem macCtlReg_rxCtrl {m : Nat} (own : m ∈ portMacs p) : macCtlReg p (r_MAC_RX_CTRL m) = true := by
  obtain ⟨k, lane, rfl⟩ := mem_portMacs.mp own
  unfold macCtlReg r_MAC_RX_CTRL
  simp only [Bool.or_eq_true, Bool.and_eq_true, decide_eq_true_eq]
  left
  omega

end

theorem portModeSet_sets : AnswersOk .portModeSet 0x0600 (fun s _ req => byteAt req 0 ≤ 1 ∧ byteAt req 1 ≤ 3 ∧ ∀ m ∈ portMacs (byteAt req 0),
      bitAt (reg s (r_MAC_RX_CTRL m)).toNat 0 = false ∧ macBusy (macGet s m) = false) (fun _ _ _ => [])
    (fun s t _ req => (portGet t (byteAt req 0)).mode = byteAt req 1 ∧ (portGet t (byteAt req 0)).laneLock = 0 ∧
      (portGet t (byteAt req 0)).retired = (portGet s (byteAt req 0)).retired ∧
      hwField t 0x029 (2 * byteAt req 0 + 1) (2 * byteAt req 0) = byteAt req 1 ∧
      (∀ m ∈ portMacs (byteAt req 0), (macGet t m).linkUp = false ∧ (macGet t m).gateEn = false ∧ (macGet t m).xoff = [] ∧
        reg t (r_MAC_RX_CTRL m) = regReset (r_MAC_RX_CTRL m)) ∧
      ∀ m, m < 16 → m ∉ portMacs (byteAt req 0) → macGet t m = macGet s m) := by
  refine answersOk_of_command (row := fun s ch seq => (rfl : execPortModeSet ch seq s = _)) (fun s ch seq req ⟨port, mode, idle⟩ => ?_)
  have quiet : ¬ (portMacs (byteAt req 0)).any (fun m => bitAt (reg s (r_MAC_RX_CTRL m)).toNat 0 || macBusy (macGet s m)) = true := by
    rw [List.any_eq_true]
    rintro ⟨m, own, busy⟩
    rw [(idle m own).1, (idle m own).2] at busy
    cases busy
  obtain ⟨u, hu⟩ : ∃ u, u = hwSetField s 0x029 (2 * byteAt req 0 + 1) (2 * byteAt req 0) (byteAt req 1) := ⟨_, rfl⟩
  have set : Keeps [.hw] s u := hu ▸ hwSetField_keeps _ _ _ _ _
  obtain ⟨ported, hw, started, macs, regs⟩ := portReset_resets u (byteAt req 0) (byteAt req 1)
  have kept : hwField u 0x029 (2 * byteAt req 0 + 1) (2 * byteAt req 0) = byteAt req 1 := by
    rw [hu]
    refine hwField_hwSetField s (by omega) (fun i _ _ => ?_) ?_
    · show (2 ^ 4 - 1).testBit i = true
      rw [Nat.testBit_two_pow_sub_one]
      simp
      omega
    · rw [show 2 * byteAt req 0 + 1 + 1 - 2 * byteAt req 0 = 2 by omega]; omega
  refine ⟨portReset u (byteAt req 0) (byteAt req 1), ?_, (started ch).trans (by rw [chanGet_congr (set.same .mbx)]), ?_⟩
  · dsimp only
    rw [if_neg (by omega), if_neg quiet, hu]
  · rw [portGet_answer, ported, hwField_answer]
    refine ⟨rfl, rfl, ?_, ?_, fun m own => ?_, fun m _ other => ?_⟩
    · unfold portGet
      rw [set.same .port0, set.same .port1]
    · unfold hwField hwWord at kept ⊢
      rw [hw]
      exact kept
    · obtain ⟨down, shut, clear⟩ := macResets_anew (portMacs (byteAt req 0)) u (.inl own)
      rw [macGet_answer, macs, reg_answer _ _ _ _ _ (by unfold r_MAC_RX_CTRL r_GAU_TRACE_STATUS; omega)]
      exact ⟨down, shut, clear, regs _ (macCtlReg_rxCtrl own)⟩
    · rw [macGet_answer, macs, macResets_others _ _ other, macGet_congr (set.same .macs)]

theorem portModeSet_busy {s : State} {ch seq m : Nat} {req : Bytes} (begun : Begun s ch seq 0x0600 req) (port : byteAt req 0 ≤ 1) (mode : byteAt req 1 ≤ 3)
    (own : m ∈ portMacs (byteAt req 0)) (enabled : bitAt (reg s (r_MAC_RX_CTRL m)).toNat 0 = true) :
    Completes (.portModeSet ch seq) s (fun t => Answered t ch seq rcBusy [] ∧ AnswerFrame [] s t ch) := by
  refine completes_command begun (rfl : execPortModeSet ch seq s = _) ?_
  have busy : (portMacs (byteAt req 0)).any (fun m => bitAt (reg s (r_MAC_RX_CTRL m)).toNat 0 || macBusy (macGet s m)) = true :=
    List.any_eq_true.mpr ⟨m, own, by rw [enabled]; rfl⟩
  dsimp only
  rw [if_neg (by omega), if_pos busy]
  exact ⟨answer_answered _ _ begun.unanswered, answer_frame _ _ _ _ _⟩

/-! Lanes and their status (R341, R373). -/

theorem foldl_add_sum {α : Type} (l : List α) (f : α → Nat) (v : Nat) : l.foldl (fun v k => v + f k) v = v + (l.map f).sum := by
  induction l generalizing v with
  | nil => rfl
  | cons k l ih => rw [List.foldl_cons, ih, List.map_cons, List.sum_cons, Nat.add_assoc]

theorem portStatus_answers : AnswersOk .portStatus 0x0601 (fun _ _ req => byteAt req 0 ≤ 1)
    (fun s _ req => toLe 1 (portGet s (byteAt req 0)).mode ++ toLe 1 (portGet s (byteAt req 0)).retired ++
      toLe 1 (((List.range 8).map (fun k => b2n (macGet s (8 * byteAt req 0 + k)).linkUp * 2 ^ k)).sum) ++ zeros 1 ++
      (portMacs (byteAt req 0)).flatMap (fun m => toLe 1 (if macUsed s m = true then rateCode (macRate s m) else 0)))
    (fun s t ch _ => AnswerFrame [] s t ch) :=
  answersOk_query (fun s ch seq => (rfl : execPortStatus ch seq s = _)) (fun s ch seq req port => by
    dsimp only
    rw [if_neg (by omega), foldl_add_sum, Nat.zero_add])

theorem retireEthLane_mode (s : State) (p lane cause : Nat) : (portGet (retireEthLane s p lane cause) p).mode = (portGet s p).mode := by
  unfold retireEthLane
  extract_lets before n m used t drop u v w
  have told : Keeps [.dev, .hw, .mbx, .ep0, .ep1, .macs, .gauge, .regs] u (noteMode before (noteRetired w 4 cause (8 * p + lane) 0 p) 1) :=
    .last (noteMode_keeps _ _ _) (.last (noteRetired_keeps _ _ _ _ _ _) (.last (eventToManager_keeps _ _ _)
      (.ite (.mono (linkChange_keeps _ _ _ _)) .refl)))
  rw [portGet, told.same .port0, told.same .port1]
  show (portGet u p).mode = _
  unfold u
  rw [portGet_portMod_self]
  rfl

theorem retireEthLane_started (s : State) (p lane cause ch : Nat) : (chanGet (retireEthLane s p lane cause) ch).started = (chanGet s ch).started := by
  unfold retireEthLane
  extract_lets before n m used t drop u v w
  have words : Told t (noteMode before (noteRetired w 4 cause (8 * p + lane) 0 p) 1) := by
    refine .trans (.trans ?_ (noteRetired_told _ _ _ _ _ _)) (noteMode_told _ _ _)
    have ports : Told t u := .last (portMod_keeps _ _ _) (.refl t)
    exact .trans (.ite (ports.trans (linkChange_told _ _ _ _)) ports) (eventToManager_told _ _ _)
  rw [words.started]
  exact congrArg MbxChan.started (chanGet_congr ((hwSetField_keeps _ _ _ _ _).same .mbx) ch)

theorem portLaneRetire_retires : AnswersOk .portLaneRetire 0x0602 (fun s _ req => byteAt req 0 ≤ 1 ∧ byteAt req 1 ≤ 7 ∧
      bitAt (portGet s (byteAt req 0)).retired (byteAt req 1) = false) (fun _ _ _ => [])
    (fun s t _ req => bitAt (portGet t (byteAt req 0)).retired (byteAt req 1) = true ∧
      hwField t 0x026 (8 * byteAt req 0 + byteAt req 1) (8 * byteAt req 0 + byteAt req 1) = 1 ∧
      (portGet t (byteAt req 0)).mode = (portGet s (byteAt req 0)).mode) :=
  answersOk_of_command (row := fun s ch seq => (rfl : execPortLaneRetire ch seq s = _)) (fun s ch seq req ⟨port, lane, inService⟩ => by
    obtain ⟨retired, -, word⟩ := retireEthLane_retires s 0 port lane
    refine ⟨retireEthLane s (byteAt req 0) (byteAt req 1) 0, ?_, retireEthLane_started _ _ _ _ _, ?_⟩
    · dsimp only
      rw [if_neg (by simp [inService]; omega)]
    · rw [portGet_answer, hwField_answer, retired, retireEthLane_mode, bitAt_testBit, Nat.testBit_or, Nat.testBit_two_pow_self, Bool.or_true]
      exact ⟨rfl, word, rfl⟩)

/-! Thresholds of a class (R357). -/

theorem pfcConfigSet_sets (m c : Nat) : AnswersOk .pfcConfigSet 0x0604 (fun s _ req => m = byteAt req 0 ∧ c = byteAt req 1 ∧ m ≤ 15 ∧ c ≤ 7 ∧
      le req 8 4 ≤ le req 4 4 ∧ le req 4 4 < 2 ^ 24 ∧ le req 12 4 < 2 ^ 24 ∧
      ceilDiv (le req 4 4 + le req 12 4) 16 ≤ openFree s + ceilDiv (mapGetD s.basin.lossless (m * 8 + c) 0) 16) (fun _ _ _ => [])
    (fun s t _ req => (reg t (r_MAC_PFC_XOFF m c)).toNat = le req 4 4 ∧ (reg t (r_MAC_PFC_XON m c)).toNat = le req 8 4 ∧
      (reg t (r_MAC_PFC_HEADROOM m c)).toNat = le req 12 4 ∧ mapGetD t.basin.lossless (m * 8 + c) 0 = le req 4 4 + le req 12 4 ∧
      (∀ k, k ≠ m * 8 + c → mapGet t.basin.lossless k = mapGet s.basin.lossless k) ∧ ChangesOnly (answerParts ++ [.basin]) s t) :=
  answersOk_set (row := fun s ch seq => (rfl : execPfcConfigSet ch seq s = _)) (fun s ch seq req ⟨hm, hc, mac, class_, order, top, most, room⟩ => by
    subst hm hc
    generalize byteAt req 0 = m at mac room ⊢
    generalize byteAt req 1 = c at class_ room ⊢
    obtain ⟨u, hu⟩ : ∃ u, u = setReg (setReg (setReg s (r_MAC_PFC_XOFF m c) (BitVec.ofNat 32 (le req 4 4))) (r_MAC_PFC_XON m c)
      (BitVec.ofNat 32 (le req 8 4))) (r_MAC_PFC_HEADROOM m c) (BitVec.ofNat 32 (le req 12 4)) := ⟨_, rfl⟩
    obtain ⟨l, hl⟩ : ∃ l, l = if le req 4 4 + le req 12 4 = 0 then mapErase s.basin.lossless (m * 8 + c)
      else mapSet s.basin.lossless (m * 8 + c) (le req 4 4 + le req 12 4) := ⟨_, rfl⟩
    have kept : Keeps [.regs] s u := hu ▸ .last (setReg_keeps _ _ _) (.last (setReg_keeps _ _ _) (setReg_keeps _ _ _))
    have regs : ∀ a, a ≠ r_GAU_TRACE_STATUS → reg (answer { u with basin := { u.basin with lossless := l } } ch seq rcOk []) a = reg u a :=
      fun a other => (reg_answer _ _ _ _ _ other).trans (reg_congr rfl a)
    refine ⟨{ u with basin := { u.basin with lossless := l } }, ?_, kept.same .mbx, ?_, ?_, ?_, ?_, fun k other => ?_, ?_⟩
    · dsimp only
      rw [if_neg (by omega), if_neg (by omega), hu, hl]
      rfl
    · rw [regs _ (by unfold r_MAC_PFC_XOFF r_GAU_TRACE_STATUS; omega), hu, reg_setReg_ne _ _ (by unfold r_MAC_PFC_XOFF r_MAC_PFC_HEADROOM; omega),
        reg_setReg_ne _ _ (by unfold r_MAC_PFC_XOFF r_MAC_PFC_XON; omega), reg_setReg_self, BitVec.toNat_ofNat]
      omega
    · rw [regs _ (by unfold r_MAC_PFC_XON r_GAU_TRACE_STATUS; omega), hu, reg_setReg_ne _ _ (by unfold r_MAC_PFC_XON r_MAC_PFC_HEADROOM; omega),
        reg_setReg_self, BitVec.toNat_ofNat]
      omega
    · rw [regs _ (by unfold r_MAC_PFC_HEADROOM r_GAU_TRACE_STATUS; omega), hu, reg_setReg_self, BitVec.toNat_ofNat]
      omega
    · rw [answer_basin]
      show mapGetD l _ _ = _
      rw [hl]
      split
      next zero => rw [zero, mapGetD, mapGet_mapErase_self]; rfl
      · exact mapGetD_mapSet_self _ _ _ _
    · rw [answer_basin]
      show mapGet l _ = _
      rw [hl]
      split
      · exact mapGet_mapErase_ne _ other
      · exact mapGet_mapSet_ne _ _ other
    · have set : ChangesOnly (answerParts ++ [.basin]) u { u with basin := { u.basin with lossless := l } } := .of_patch rfl
      exact ((kept.frame.mono (by decide)).step set).step ((answer_changes _ _ _ _ _).mono (by decide)))

theorem pfcConfigSet_refuses {s : State} {ch seq : Nat} {req : Bytes} (begun : Begun s ch seq 0x0604 req) (mac : byteAt req 0 ≤ 15) (class_ : byteAt req 1 ≤ 7)
    (order : le req 8 4 ≤ le req 4 4) (top : le req 4 4 < 2 ^ 24) (most : le req 12 4 < 2 ^ 24)
    (full : openFree s + ceilDiv (mapGetD s.basin.lossless (byteAt req 0 * 8 + byteAt req 1) 0) 16 < ceilDiv (le req 4 4 + le req 12 4) 16) :
    Completes (.pfcConfigSet ch seq) s (fun t => Answered t ch seq rcNoResource [] ∧ AnswerFrame [] s t ch) := by
  refine completes_command begun (rfl : execPfcConfigSet ch seq s = _) ?_
  dsimp only
  rw [if_neg (by omega), if_pos full]
  exact ⟨answer_answered _ _ begun.unanswered, answer_frame _ _ _ _ _⟩

/-! Weir (R359, R360, R364). -/

theorem answer_weir_frame (s : State) (ch seq code : Nat) (body : Bytes) (w : Weir) : AnswerFrame [.weir] s (answer { s with weir := w } ch seq code body) ch :=
  answer_frame_quiet ch seq code body (.of_patch rfl) (by decide) (by decide)

theorem weirShaperSet_sets : AnswersOk .weirShaperSet 0x0610 (fun s _ req => shaperOk s (le req 0 2) (shaperOfReq req) = true) (fun _ _ _ => [])
    (fun s t ch req => t.weir = { s.weir with pendingSets := s.weir.pendingSets ++ [(le req 0 2, shaperOfReq req)] } ∧
      AnswerFrame [.weir] s t ch) :=
  answersOk_set (row := fun s ch seq => (rfl : execWeirShaperSet ch seq s = _)) (fun _ _ _ _ ok =>
    ⟨_, if_pos ok, rfl, answer_weir _ _ _ _ _, answer_weir_frame _ _ _ _ _ _⟩)

theorem weirShaperSet_refuses {s : State} {ch seq : Nat} {req : Bytes} (begun : Begun s ch seq 0x0610 req)
    (bad : shaperOk s (le req 0 2) (shaperOfReq req) = false) :
    Completes (.weirShaperSet ch seq) s (fun t => Answered t ch seq rcBadParam [] ∧ AnswerFrame [] s t ch) := by
  refine completes_command begun (rfl : execWeirShaperSet ch seq s = _) ?_
  dsimp only
  rw [if_neg (by simp [bad])]
  exact ⟨answer_answered _ _ begun.unanswered, answer_frame _ _ _ _ _⟩

theorem weirShaperRead_answers : AnswersOk .weirShaperRead 0x0611 (fun _ _ _ => True)
    (fun s _ req => fit req 4 ++ shaperBytes (le req 0 2) (shaperGet s (le req 0 2)) ++
      toLe 8 (unsigned 64 (shaperGet s (le req 0 2)).tokens) ++ toLe 2 (shaperGet s (le req 0 2)).rem ++ zeros 6)
    (fun s t ch _ => AnswerFrame [] s t ch) :=
  answersOk_query (fun s ch seq => (rfl : execWeirShaperRead ch seq s = _)) (fun _ _ _ _ _ => rfl)

/-- A key takes a value, or loses the one it has. -/
def mapPut {α : Type} (m : AMap α) (k : Nat) (v : Option α) : AMap α :=
  match v with
  | some v => mapSet m k v
  | none => mapErase m k

theorem mapGet_mapPut_self {α : Type} (m : AMap α) (k : Nat) (v : Option α) : mapGet (mapPut m k v) k = v := by
  cases v with
  | some v => exact mapGet_mapSet_self _ _ _
  | none => exact mapGet_mapErase_self _ _

theorem mapGet_mapPut_ne {α : Type} (m : AMap α) {j k : Nat} (v : Option α) (other : j ≠ k) : mapGet (mapPut m k v) j = mapGet m j := by
  cases v with
  | some v => exact mapGet_mapSet_ne _ _ other
  | none => exact mapGet_mapErase_ne _ other

/-- Keys that follow each other take or lose a value. -/
theorem mapGet_foldl_mapPut {α : Type} (m : AMap α) (off n : Nat) (f : Nat → Option α) (a : Nat) :
    mapGet ((List.range n).foldl (fun m i => mapPut m (off + i) (f i)) m) a = if off ≤ a ∧ a < off + n then f (a - off) else mapGet m a := by
  induction n with
  | zero => rw [if_neg (by omega)]; rfl
  | succ n ih =>
    rw [List.range_succ, List.foldl_append, List.foldl_cons, List.foldl_nil]
    by_cases own : a = off + n
    · rw [own, if_pos (by omega), Nat.add_sub_cancel_left, mapGet_mapPut_self]
    · rw [mapGet_mapPut_ne _ _ own, ih]
      exact if_congr (by omega) rfl rfl

theorem weirLeafMapSet_sets : AnswersOk .weirLeafMapSet 0x0612 (fun s _ req => byteAt req 2 ≤ 1 ∧ (sliceGet s (le req 0 2)).isSome = true ∧ ∀ c < 8,
      le req (4 + 2 * c) 2 = 0xFFFF ∨ (shaperNext s (le req (4 + 2 * c) 2)).level = 0 ∧ le req (4 + 2 * c) 2 / 32768 = byteAt req 2)
    (fun _ _ _ => [])
    (fun s t ch req => (∀ c < 8, mapGet t.weir.leaf (le req 0 2 * 16 + byteAt req 2 * 8 + c) =
        (if le req (4 + 2 * c) 2 = 0xFFFF then none else some (le req (4 + 2 * c) 2))) ∧
      (∀ k, (k < le req 0 2 * 16 + byteAt req 2 * 8 ∨ le req 0 2 * 16 + byteAt req 2 * 8 + 8 ≤ k) →
        mapGet t.weir.leaf k = mapGet s.weir.leaf k) ∧ AnswerFrame [.weir] s t ch) :=
  answersOk_set (row := fun s ch seq => (rfl : execWeirLeafMapSet ch seq s = _)) (fun s ch seq req ⟨port, slice_, leaves⟩ => by
    obtain ⟨l, hl⟩ : ∃ l, l = (List.range 8).foldl (fun m c => if le req (4 + 2 * c) 2 = 0xFFFF then mapErase m (le req 0 2 * 16 + byteAt req 2 * 8 + c)
      else mapSet m (le req 0 2 * 16 + byteAt req 2 * 8 + c) (le req (4 + 2 * c) 2)) s.weir.leaf := ⟨_, rfl⟩
    have keys : ∀ k, mapGet l k = if le req 0 2 * 16 + byteAt req 2 * 8 ≤ k ∧ k < le req 0 2 * 16 + byteAt req 2 * 8 + 8 then
        (if le req (4 + 2 * (k - (le req 0 2 * 16 + byteAt req 2 * 8))) 2 = 0xFFFF then none
          else some (le req (4 + 2 * (k - (le req 0 2 * 16 + byteAt req 2 * 8))) 2)) else mapGet s.weir.leaf k := fun k => by
      rw [hl, ← mapGet_foldl_mapPut s.weir.leaf (le req 0 2 * 16 + byteAt req 2 * 8) 8
        (fun c => if le req (4 + 2 * c) 2 = 0xFFFF then none else some (le req (4 + 2 * c) 2)) k]
      congr 2
      funext m c
      split <;> rfl
    have ok : ∀ c < 8, (decide (le req (4 + 2 * c) 2 = 0xFFFF) || (decide ((shaperNext s (le req (4 + 2 * c) 2)).level = 0) &&
        decide (le req (4 + 2 * c) 2 / 32768 = byteAt req 2))) = true := fun c eight => by simpa using leaves c eight
    have passes : ¬ (1 < byteAt req 2 ∨ (sliceGet s (le req 0 2)).isNone = true ∨ ¬ (List.range 8).all (fun c => decide (le req (4 + 2 * c) 2 = 0xFFFF) ||
        (decide ((shaperNext s (le req (4 + 2 * c) 2)).level = 0) && decide (le req (4 + 2 * c) 2 / 32768 = byteAt req 2))) = true) := by
      rintro (far | gone | bad)
      · omega
      · rw [← Option.not_isSome, slice_] at gone; cases gone
      · exact bad (List.all_eq_true.mpr (fun c eight => ok c (List.mem_range.mp eight)))
    refine ⟨{ s with weir := { s.weir with leaf := l } }, ?_, rfl, fun c eight => ?_, fun k outside => ?_, answer_weir_frame _ _ _ _ _ _⟩
    · dsimp only
      rw [if_neg passes, hl]
    · rw [answer_weir]
      show mapGet l _ = _
      rw [keys, if_pos (by omega), Nat.add_sub_cancel_left]
    · rw [answer_weir]
      show mapGet l _ = _
      rw [keys, if_neg (by omega)])

/-! Sluice (R365, R369, R371). -/

theorem answer_macSet_frame (s : State) (ch seq code : Nat) (body : Bytes) (m : Nat) (x : MacState) :
    AnswerFrame [.macs] s (answer (macSet s m x) ch seq code body) ch :=
  answer_frame_quiet ch seq code body (macSet_keeps s m x).frame (by decide) (by decide)

theorem macGet_macSet_ne (s : State) {m k : Nat} (x : MacState) (other : k ≠ m) : macGet (macSet s m x) k = macGet s k :=
  mapGetD_mapSet_ne _ _ _ other

theorem slcGclWrite_writes : AnswersOk .slcGclWrite 0x0620 (fun _ _ req => byteAt req 0 ≤ 15 ∧ 1 ≤ le req 4 2 ∧ le req 4 2 ≤ 30 ∧
      le req 2 2 + le req 4 2 ≤ 1024 ∧ ∀ i < le req 4 2, (gclOfBytes (slice req (8 + 8 * i) 8)).2.1 ≠ 3) (fun _ _ _ => [])
    (fun s t ch req => (∀ i < le req 4 2, mapGet (macGet t (byteAt req 0)).admin (le req 2 2 + i) =
        some (gclOfBytes (slice req (8 + 8 * i) 8))) ∧
      (∀ k, (k < le req 2 2 ∨ le req 2 2 + le req 4 2 ≤ k) →
        mapGet (macGet t (byteAt req 0)).admin k = mapGet (macGet s (byteAt req 0)).admin k) ∧
      (∀ m, m ≠ byteAt req 0 → macGet t m = macGet s m) ∧ AnswerFrame [.macs] s t ch) :=
  answersOk_set (row := fun s ch seq => (rfl : execSlcGclWrite ch seq s = _)) (fun s ch seq req ⟨mac, low, high, within, ops⟩ => by
    have sound : ¬ ((List.range (le req 4 2)).map (fun i => gclOfBytes (slice req (8 + 8 * i) 8))).any (fun e => e.2.1 = 3) = true := by
      rw [List.any_eq_true]
      rintro ⟨e, listed, bad⟩
      obtain ⟨i, small, rfl⟩ := List.mem_map.mp listed
      exact ops i (List.mem_range.mp small) (by simpa using bad)
    have entry : ∀ i, i < le req 4 2 → (((List.range (le req 4 2)).map (fun i => gclOfBytes (slice req (8 + 8 * i) 8)))[i]?).getD (0, 0, 0) =
        gclOfBytes (slice req (8 + 8 * i) 8) := fun i small => by simp [small]
    have passes : ¬ (15 < byteAt req 0 ∨ le req 4 2 = 0 ∨ 30 < le req 4 2 ∨ 1024 < le req 2 2 + le req 4 2 ∨
        ((List.range (le req 4 2)).map (fun i => gclOfBytes (slice req (8 + 8 * i) 8))).any (fun e => e.2.1 = 3) = true) := by
      rintro (h | h | h | h | h)
      · omega
      · omega
      · omega
      · omega
      · exact sound h
    refine ⟨_, if_neg passes, (macMod_keeps _ _ _).same .mbx, fun i small => ?_, fun k outside => ?_, fun m other => ?_, answer_macSet_frame _ _ _ _ _ _ _⟩
    · rw [macGet_answer, macGet_macMod_self]
      dsimp only
      rw [mapGet_foldl_mapSet, if_pos (by omega), Nat.add_sub_cancel_left, entry i small]
    · rw [macGet_answer, macGet_macMod_self]
      dsimp only
      rw [mapGet_foldl_mapSet, if_neg (by omega)]
    · rw [macGet_answer, macGet_macMod_ne _ _ other])

theorem slcGclCommit_commits (m w : Nat) : AnswersOk .slcGclCommit 0x0621 (fun s _ req => m = byteAt req 0 ∧ m ≤ 15 ∧ 1 ≤ le req 2 2 ∧
      le req 2 2 ≤ 1024 ∧ le req 4 4 ≠ 0 ∧
      le req 20 4 ≤ 999999999 ∧ (macGet s m).commit = none ∧ w = gclChange s (le req 12 8 * 1000000000 + le req 20 4) (le req 4 4) ∧
      ∀ i < le req 2 2, (gclEntry (macGet s m).admin i).2.2 ≠ 0 ∧ ((gclEntry (macGet s m).admin i).2.1 = 0 ∨ (macGet s m).preemptEn = true))
    (fun _ _ _ => toLe 8 (w / 1000000000) ++ toLe 4 (w % 1000000000))
    (fun s t ch req => (∃ c, (macGet t m).commit = some c ∧ c.len = le req 2 2 ∧ c.cycle = le req 4 4 ∧ c.list = (macGet s m).admin ∧
        c.changeS = w / 1000000000 ∧ c.changeNs = w % 1000000000 ∧ c.gateEn = bitAt (le req 24 4) 0) ∧
      (macGet t m).oper = (macGet s m).oper ∧ (∀ k, k ≠ m → macGet t k = macGet s k) ∧ AnswerFrame [.macs] s t ch) :=
  answersOk_set (row := fun s ch seq => (rfl : execSlcGclCommit ch seq s = _)) (fun s ch seq req ⟨own, mac, low, high, cycle, ns, free, change, ops⟩ => by
    subst own change
    have sound : ¬ ((List.range (le req 2 2)).map (gclEntry (macGet s (byteAt req 0)).admin)).any
        (fun e => e.2.2 = 0 || (e.2.1 ≠ 0 && !(macGet s (byteAt req 0)).preemptEn)) = true := by
      rw [List.any_eq_true]
      rintro ⟨e, listed, bad⟩
      obtain ⟨i, small, rfl⟩ := List.mem_map.mp listed
      obtain ⟨lasts, op⟩ := ops i (List.mem_range.mp small)
      rcases op with h | h <;> simp [lasts, h] at bad
    refine ⟨_, (if_neg (by omega)).trans ((if_neg sound).trans (if_neg (by simp [free]))), (macSet_keeps _ _ _).same .mbx, ?_, ?_, fun k other => ?_,
      answer_macSet_frame _ _ _ _ _ _ _⟩
    · rw [macGet_answer, macGet_macSet_self]
      exact ⟨_, rfl, rfl, rfl, rfl, rfl, rfl, rfl⟩
    · rw [macGet_answer, macGet_macSet_self]
    · rw [macGet_answer, macGet_macSet_ne _ _ other])

theorem slcGclRead_answers : AnswersOk .slcGclRead 0x0622 (fun _ _ req => byteAt req 0 ≤ 15 ∧ byteAt req 1 ≤ 1 ∧ le req 2 2 + le req 4 2 ≤ 1024)
    (fun s _ req => fit req 8 ++ (List.range (le req 4 2)).flatMap (fun i => gclBytes (gclEntry
      (if byteAt req 1 = 0 then (macGet s (byteAt req 0)).admin else (macGet s (byteAt req 0)).oper) (le req 2 2 + i))))
    (fun s t ch _ => AnswerFrame [] s t ch) :=
  answersOk_query (fun s ch seq => (rfl : execSlcGclRead ch seq s = _)) (fun _ _ _ _ inRange => if_neg (by omega))

theorem slcPreemptSet_sets : AnswersOk .slcPreemptSet 0x0623 (fun _ _ req => byteAt req 0 ≤ 15 ∧ byteAt req 3 ≤ 3) (fun _ _ _ => [])
    (fun s t ch req => (macGet t (byteAt req 0)).preemptMask.toNat = byteAt req 1 ∧
      (macGet t (byteAt req 0)).preemptEn = bitAt (byteAt req 2) 0 ∧ (macGet t (byteAt req 0)).addFrag = byteAt req 3 ∧
      ((macGet t (byteAt req 0)).verifyState = 1 ↔ bitAt (byteAt req 2) 0 = true ∧ bitAt (byteAt req 2) 1 = false ∧
        (macGet s (byteAt req 0)).linkUp = true) ∧
      (∀ m, m ≠ byteAt req 0 → macGet t m = macGet s m) ∧ AnswerFrame [.macs] s t ch) :=
  answersOk_set (row := fun s ch seq => (rfl : execSlcPreemptSet ch seq s = _)) (fun s ch seq req inRange => by
    refine ⟨_, if_neg (by omega), (macMod_keeps _ _ _).same .mbx, ?_⟩
    rw [macGet_answer, macGet_macMod_self]
    refine ⟨?_, rfl, rfl, ?_, fun m other => ?_, answer_macSet_frame _ _ _ _ _ _ _⟩
    · have := byteAt_lt req 1
      rw [BitVec.toNat_ofNat]
      omega
    · dsimp only
      split
      next on => simpa [and_assoc] using on
      next off => exact ⟨fun h => absurd h (by decide), fun h => absurd (by simp [h]) off⟩
    · rw [macGet_answer, macGet_macMod_ne _ _ other])

/-- Settles O34. -/
theorem portShaperAndGateCommandsTakeEffect : Obligations.PortShaperAndGateCommandsTakeEffect := by
  unfold Obligations.PortShaperAndGateCommandsTakeEffect
  exact ⟨⟨portModeSet_sets, fun _ _ _ _ _ begun port mode own enabled => portModeSet_busy begun port mode own enabled, portStatus_answers,
      portLaneRetire_retires, pfcConfigSet_sets,
      fun _ _ _ _ begun mac class_ order top most full => pfcConfigSet_refuses begun mac class_ order top most full⟩,
    weirShaperSet_sets, fun _ _ _ _ begun bad => weirShaperSet_refuses begun bad, weirShaperRead_answers, weirLeafMapSet_sets,
    slcGclWrite_writes, slcGclCommit_commits, slcGclRead_answers, slcPreemptSet_sets⟩

end Sys2Proof.Machine
end

section
/-! PROOFS. The start of a pass, its parse and its payload scan (O35). -/

namespace Sys2Proof.Machine

open Sys2Proof

set_option Elab.async false

theorem pktGet_pktSet_self (s : State) (p : Nat) (k : Pkt) : pktGet (pktSet s p k) p = some k := mapGet_mapSet_self _ _ _

theorem pktGet_pktSet_ne (s : State) {p q : Nat} (k : Pkt) (other : q ≠ p) : pktGet (pktSet s p k) q = pktGet s q := mapGet_mapSet_ne _ _ other

theorem pktGet_congr {s t : State} (h : t.pkts = s.pkts) (p : Nat) : pktGet t p = pktGet s p := by unfold pktGet; rw [h]

/-! What the parse leaves of the metadata (R92). -/

/-- The metadata that a pass brings along: its banks, its number, whether it is a Twin copy, its pipeline and its source. -/
def metaKey (h : PktMeta) : Nat × Nat × Nat × Bool × Nat × Nat := (h.pgBank, h.rspBank, h.pass, h.twin, h.pipeline, h.source)

theorem record_metaKey (f nd : Bytes) (p l : Nat) (w : Walk) : metaKey (record f nd p l w).h = metaKey w.h := by
  unfold record
  dsimp only
  split_ifs <;> rfl

theorem metaKey_ite {c : Prop} [Decidable c] {w v u : Walk} (h : metaKey v.h = metaKey w.h) (k : metaKey u.h = metaKey w.h) :
    metaKey (if c then v else u).h = metaKey w.h := by
  split
  · exact h
  · exact k

theorem walk_metaKey (b : ParseBank) (f : Bytes) (padLimit fuel : Nat) (w : Walk) : metaKey (walk b f padLimit fuel w).h = metaKey w.h := by
  induction fuel generalizing w with
  | zero => rfl
  | succ fuel ih =>
    unfold walk
    extract_lets nd pos fixed meta_ hdr w1 len shortened stop recd w2 d meta2 bounded next
    have recorded : metaKey recd.h = metaKey w.h := record_metaKey _ _ _ _ _
    have bound : metaKey bounded.h = metaKey w.h := metaKey_ite recorded (metaKey_ite recorded (metaKey_ite recorded recorded))
    refine metaKey_ite rfl (metaKey_ite rfl (metaKey_ite rfl (metaKey_ite (record_metaKey _ _ _ _ _) (metaKey_ite rfl (metaKey_ite rfl
      (metaKey_ite recorded (metaKey_ite bound ?_)))))))
    split
    · exact (ih _).trans bound
    · exact bound

theorem parse_metaKey (b : ParseBank) (padLimit : Nat) (f : Bytes) (h : PktMeta) : metaKey (parse b padLimit f h) = metaKey h := by
  unfold parse
  extract_lets start v w
  exact walk_metaKey _ _ _ _ _

/-! The start of a pass (R41 to R44, R85, R256). -/

section
variable {s : State} {p pos : Nat} {k : Pkt}

theorem firstStart_starts (s : State) (p : Nat) (k : Pkt) : (∃ k', pktGet (firstStart s p k) p = some k' ∧ k'.stage = .plane ∧ k'.started = true ∧
      k'.frame = k.frame ∧ k'.hdr.pgBank = s.plane.cur ∧ k'.hdr.rspBank = s.rasp.cur) ∧
    mapGetD (firstStart s p k).twin.rings (ringOf k) [] = mapGetD s.twin.rings (ringOf k) [] ++ [p] := by
  unfold firstStart
  exact ⟨⟨_, pktGet_pktSet_self _ _ _, rfl, rfl, rfl, rfl, rfl⟩, mapGetD_mapSet_self _ _ _ _⟩

theorem startPass_others (s : State) {p q : Nat} (k : Pkt) (other : q ≠ p) : pktGet (startPass s p k) q = pktGet s q := by
  unfold startPass
  split
  · exact pktGet_pktSet_ne _ _ other
  · exact (pktGet_pktSet_ne _ _ other).trans rfl

theorem startPass_stage (s : State) (p : Nat) (k : Pkt) : (pktGet (startPass s p k) p).map (fun x => x.stage) = some .plane := by
  unfold startPass
  split
  · rw [pktGet_pktSet_self]; rfl
  · obtain ⟨⟨k', here, stage, -⟩, -⟩ := firstStart_starts s p k
    rw [here, Option.map_some, stage]

theorem pktGet_unstall (s : State) (q : Nat) : pktGet (unstall s) q = pktGet s q := pktGet_congr ((unstall_keeps s).same .pkts) q

/-- The conditions of a start (R41 to R44, R217, R570). -/
structure Starting (s : State) (p pos : Nat) (k : Pkt) : Prop where
  here : pktGet s p = some k
  stage : k.stage = .start
  can : canStart s k = true
  served : entryServes s k pos = true
  next : startsNext s p k = true
  clear : retryClear s k = true

theorem passStart_alone (h : Starting s p pos k) (open_ : s.dev.base ≠ .restricted) (alone : mateWaiting s p k = none) (single : k.hdr.twin = false) :
    exec (.passStart p pos) s = .next (unstall (startPass s p k)) := by
  show execPassStart p pos s = _
  unfold execPassStart
  rw [h.here]
  dsimp only
  rw [if_pos ⟨h.stage, h.can, h.served, h.next, h.clear⟩, if_neg open_, alone, single]
  exact if_neg (by simp)

theorem passStart_first (h : Starting s p pos k) (open_ : s.dev.base ≠ .restricted) (alone : mateWaiting s p k = none) (single : k.hdr.twin = false)
    (fresh : k.started = false) : Completes (.passStart p pos) s (fun t => (∃ k', pktGet t p = some k' ∧ k'.stage = .plane ∧ k'.started = true ∧
      k'.frame = k.frame ∧ k'.hdr.pgBank = s.plane.cur ∧ k'.hdr.rspBank = s.rasp.cur) ∧
      mapGetD t.twin.rings (ringOf k) [] = mapGetD s.twin.rings (ringOf k) [] ++ [p] ∧
      (∀ q, q ≠ p → pktGet t q = pktGet s q)) := by
  refine completes_of (passStart_alone h open_ alone single) ?_
  have first : startPass s p k = firstStart s p k := if_neg (by simp [fresh])
  obtain ⟨started, ring⟩ := firstStart_starts s p k
  refine ⟨?_, ?_, fun q other => ?_⟩
  · rw [pktGet_unstall, first]; exact started
  · rw [(unstall_keeps _).same .twin, first]; exact ring
  · rw [pktGet_unstall, startPass_others _ _ other]

theorem passStart_again (h : Starting s p pos k) (open_ : s.dev.base ≠ .restricted) (alone : mateWaiting s p k = none) (single : k.hdr.twin = false)
    (started : k.started = true) : Completes (.passStart p pos) s (fun t => pktGet t p = some { k with stage := .plane, pass := {}, jig := {} } ∧
      ∀ q, q ≠ p → pktGet t q = pktGet s q) := by
  refine completes_of (passStart_alone h open_ alone single) ⟨?_, fun q other => ?_⟩
  · rw [pktGet_unstall, show startPass s p k = pktSet s p _ from if_pos started, pktGet_pktSet_self]
  · rw [pktGet_unstall, startPass_others _ _ other]

theorem passStart_mates {p' : Nat} {k' : Pkt} (h : Starting s p pos k) (open_ : s.dev.base ≠ .restricted) (mate : mateWaiting s p k = some (p', k'))
    (plain : raspEnabled s k = false) : Completes (.passStart p pos) s (fun t => (pktGet t p).map (fun x => x.stage) = some .plane ∧
      (pktGet t p').map (fun x => x.stage) = some .plane) := by
  have row : exec (.passStart p pos) s = .next (unstall (startPass (startPass s p k) p' k')) := by
    show execPassStart p pos s = _
    unfold execPassStart
    rw [h.here]
    dsimp only
    rw [if_pos ⟨h.stage, h.can, h.served, h.next, h.clear⟩, if_neg open_, mate]
    exact if_pos (by simp [plain])
  have other : p ≠ p' := by
    have := List.find?_some mate
    simp only [Bool.and_eq_true, decide_eq_true_eq] at this
    exact fun same => this.1.1.1.1.1.1 same.symm
  refine completes_of row ⟨?_, ?_⟩
  · rw [pktGet_unstall, startPass_others _ _ other, startPass_stage]
  · rw [pktGet_unstall, startPass_stage]

/-- In RESTRICTED a received packet's fixed path goes to the manager's host (R591). -/
theorem passStart_fixed (h : Starting s p pos k) (restricted : s.dev.base = .restricted) (received : k.hdr.source ≤ 15) {v : Verdict}
    (verdict : (∃ ep, holderEp s = some ep ∧ v = .fwdHost ep k.hdr.source) ∨ holderEp s = none ∧ v = .drop) :
    Completes (.passStart p pos) s (fun t => pktGet t p = some { k with stage := .exitOrder, verdict := some v } ∧ ChangesOnly [.twin, .pkts] s t) := by
  have row : exec (.passStart p pos) s = .next (fixedPath s p k) := by
    show execPassStart p pos s = _
    unfold execPassStart
    rw [h.here]
    dsimp only
    rw [if_pos ⟨h.stage, h.can, h.served, h.next, h.clear⟩]
    exact if_pos restricted
  refine completes_of row ⟨?_, (fixedPath_keeps _ _ _).frame.mono (by decide)⟩
  unfold fixedPath
  dsimp only
  rw [pktGet_pktSet_self, if_pos received]
  unfold holderEp at verdict ⊢
  rcases verdict with ⟨ep, holder, rfl⟩ | ⟨holder, rfl⟩ <;> rw [holder]

end

/-! The end of a stream's wait (R258). -/

theorem twinCopies_stream (s : State) (k : Pkt) : (twinCopies s k).twin.unfinished = s.twin.unfinished ++
      [(twinStream k.hdr.source k.hdr.flowHash, mapGetD s.twin.streams (twinStream k.hdr.source k.hdr.flowHash) 0, b2n (railUp s 0) + b2n (railUp s 1))] ∧
    mapGet (twinCopies s k).twin.streams (twinStream k.hdr.source k.hdr.flowHash) =
      some (mapGetD s.twin.streams (twinStream k.hdr.source k.hdr.flowHash) 0 + 1) := by
  unfold twinCopies
  extract_lets st seq n __src u v meta_ copy
  have held : v.twin = u.twin := Keeps.same (.ite (hold_keeps _ _ _ _) .refl) .twin (ps := [.rings, .basin])
  have copied : ∀ w r, (copy w r).twin = w.twin := fun w r => by
    unfold copy
    split <;> rfl
  rw [copied, copied, held]
  exact ⟨rfl, mapGet_mapSet_self _ _ _⟩

theorem twinStreamWaitEnd_ends {s : State} {p : Nat} {k : Pkt} (here : pktGet s p = some k) (stage : k.stage = .streamWait)
    (room : unfinished s (twinStream k.hdr.source k.hdr.flowHash) < 4096)
    (first : ∀ x ∈ s.pkts, x.1 < p → x.2.stage = .streamWait → twinStream x.2.hdr.source x.2.hdr.flowHash ≠ twinStream k.hdr.source k.hdr.flowHash) :
    Completes (.twinStreamWaitEnd p) s (fun t => t.twin.unfinished = s.twin.unfinished ++
      [(twinStream k.hdr.source k.hdr.flowHash, mapGetD s.twin.streams (twinStream k.hdr.source k.hdr.flowHash) 0,
        b2n (railUp s 0) + b2n (railUp s 1))] ∧
      mapGet t.twin.streams (twinStream k.hdr.source k.hdr.flowHash) =
        some (mapGetD s.twin.streams (twinStream k.hdr.source k.hdr.flowHash) 0 + 1)) := by
  have row : exec (.twinStreamWaitEnd p) s = .next (twinCopies (pktErase s p) k) := by
    show execTwinStreamWaitEnd p s = _
    unfold execTwinStreamWaitEnd
    rw [here]
    dsimp only
    refine if_pos ⟨stage, room, fun waits => ?_⟩
    obtain ⟨x, listed, before⟩ := List.any_eq_true.mp waits
    simp only [Bool.and_eq_true, decide_eq_true_eq] at before
    exact first x listed before.1.1 before.1.2 before.2
  exact completes_of row (twinCopies_stream (pktErase s p) k)

/-! The parse of a packet (R92 to R100) and its payload scan (R104 to R108). -/

section
variable {s : State} {p : Nat} {k : Pkt}

/-- A packet of a first pass is Rasp's by its source and bank. -/
theorem raspEnabled_congr {t : State} {j : Pkt} (plane : t.plane = s.plane) (started : j.started = k.started) (bank : j.hdr.pgBank = k.hdr.pgBank)
    (source : j.hdr.source = k.hdr.source) : raspEnabled t j = raspEnabled s k := by
  unfold raspEnabled parseBankGet
  rw [plane, started, bank, source]

/-- The metadata after the parse, with the checked L4 checksum. -/
def parsedMeta (s : State) (k : Pkt) : PktMeta :=
  let h := parse (parseBankGet s k.hdr.pgBank) (hwUse s 0x038) k.frame k.hdr
  if (l4Check s k h).1 then { h with l4CsumBad := (l4Check s k h).2 } else h

/-- The packet after the parse. -/
def parsedPkt (s : State) (k : Pkt) : Pkt :=
  { k with hdr := parsedMeta s k, l4Checked := k.l4Checked || (l4Check s k (parse (parseBankGet s k.hdr.pgBank) (hwUse s 0x038) k.frame k.hdr)).1 }

theorem parsedMeta_metaKey (s : State) (k : Pkt) : metaKey (parsedMeta s k) = metaKey k.hdr := by
  unfold parsedMeta
  dsimp only
  split
  · exact parse_metaKey _ _ _ _
  · exact parse_metaKey _ _ _ _

/-- Outside a first pass the L4 checksum is not checked again. -/
theorem parsedPkt_later (pass : k.hdr.pass ≠ 0) : parsedPkt s k = { k with hdr := parse (parseBankGet s k.hdr.pgBank) (hwUse s 0x038) k.frame k.hdr } := by
  have unchecked : l4Check s k (parse (parseBankGet s k.hdr.pgBank) (hwUse s 0x038) k.frame k.hdr) = (false, false) := by
    have key := parse_metaKey (parseBankGet s k.hdr.pgBank) (hwUse s 0x038) k.frame k.hdr
    simp only [metaKey, Prod.mk.injEq] at key
    unfold l4Check
    dsimp only
    exact if_pos (.inr (.inr (by rw [key.2.2.1]; exact pass)))
  unfold parsedPkt parsedMeta
  dsimp only
  rw [unchecked]
  simp

/-- Where a parsed packet goes: to Rasp's queue, or past it to Jig (R104, R107). -/
def parsedNext (s : State) (p : Nat) (h : PktMeta) (k : Pkt) : State :=
  if h.pass = 0 ∧ raspEnabled s k then
    if !h.twin && decide (48 ≤ splitQueued s h.pipeline) then
      bump (pktSet s p { k with stage := .jig, hdr := { h with raspSkip := true, raspDone := true } }) (r_RSP_CNT_SKIPPED h.pipeline)
    else
      let s := patternBankMod s h.rspBank (fun b => { b with pending := b.pending + 1 })
      pktSet { s with rasp := { s.rasp with queues := s.rasp.queues.modify h.pipeline (fun q => q ++ [p]) } } p { k with stage := .raspQueue }
  else pktSet s p { k with stage := .jig }

theorem next_parsedNext (s : State) (p : Nat) (h : PktMeta) (k : Pkt) : Host.Outcome.next (parsedNext s p h k) =
    if h.pass = 0 ∧ raspEnabled s k then
      if !h.twin && decide (48 ≤ splitQueued s h.pipeline) then
        done (bump (pktSet s p { k with stage := .jig, hdr := { h with raspSkip := true, raspDone := true } }) (r_RSP_CNT_SKIPPED h.pipeline))
      else
        let s := patternBankMod s h.rspBank (fun b => { b with pending := b.pending + 1 })
        done (pktSet { s with rasp := { s.rasp with queues := s.rasp.queues.modify h.pipeline (fun q => q ++ [p]) } } p { k with stage := .raspQueue })
    else done (pktSet s p { k with stage := .jig }) := by
  unfold parsedNext
  split
  · split <;> rfl
  · rfl

theorem parseComplete_row (here : pktGet s p = some k) (stage : k.stage = .plane) :
    exec (.parseComplete p) s = .next (parsedNext (countParse (hwCount s 0x038) (parsedMeta s k)) p (parsedMeta s k) (parsedPkt s k)) := by
  show execParseComplete p s = _
  unfold execParseComplete
  rw [here]
  dsimp only
  rw [if_pos stage]
  exact (next_parsedNext _ _ _ _).symm

theorem counted_keeps (s : State) (h : PktMeta) : Keeps [.regs] s (countParse (hwCount s 0x038) h) := .last (countParse_keeps _ _) (hwCount_keeps _ _)

theorem parseComplete_later (here : pktGet s p = some k) (stage : k.stage = .plane) (pass : k.hdr.pass ≠ 0) :
    Completes (.parseComplete p) s (fun t =>
      pktGet t p = some { k with stage := .jig, hdr := parse (parseBankGet s k.hdr.pgBank) (hwUse s 0x038) k.frame k.hdr } ∧
      (∀ q, q ≠ p → pktGet t q = pktGet s q) ∧ ChangesOnly [.pkts, .regs] s t) := by
  have key := parsedMeta_metaKey s k
  simp only [metaKey, Prod.mk.injEq] at key
  obtain ⟨u, hu⟩ : ∃ u, u = countParse (hwCount s 0x038) (parsedMeta s k) := ⟨_, rfl⟩
  have kept : Keeps [.regs] s u := hu ▸ counted_keeps s _
  have next : parsedNext u p (parsedMeta s k) (parsedPkt s k) = pktSet u p { parsedPkt s k with stage := .jig } :=
    if_neg (fun h => pass (key.2.2.1 ▸ h.1))
  refine completes_of (parseComplete_row here stage) ?_
  rw [← hu, next, pktGet_pktSet_self, parsedPkt_later pass]
  exact ⟨rfl, fun q other => (pktGet_pktSet_ne _ _ other).trans (pktGet_congr (kept.same .pkts) q), (Keeps.last (pktSet_keeps _ _ _) kept.mono).frame⟩

theorem parseComplete_plain (here : pktGet s p = some k) (stage : k.stage = .plane) (plain : raspEnabled s k = false) :
    Completes (.parseComplete p) s (fun t => (pktGet t p).map (fun x => x.stage) = some .jig ∧ ChangesOnly [.pkts, .regs] s t) := by
  have key := parsedMeta_metaKey s k
  simp only [metaKey, Prod.mk.injEq] at key
  obtain ⟨u, hu⟩ : ∃ u, u = countParse (hwCount s 0x038) (parsedMeta s k) := ⟨_, rfl⟩
  have kept : Keeps [.regs] s u := hu ▸ counted_keeps s _
  have enabled : raspEnabled u (parsedPkt s k) = false := (raspEnabled_congr (k := k) (j := parsedPkt s k) (kept.same .plane) rfl key.1 key.2.2.2.2.2).trans plain
  have next : parsedNext u p (parsedMeta s k) (parsedPkt s k) = pktSet u p { parsedPkt s k with stage := .jig } :=
    if_neg (by simp [enabled])
  refine completes_of (parseComplete_row here stage) ?_
  rw [← hu, next, pktGet_pktSet_self]
  exact ⟨rfl, (Keeps.last (pktSet_keeps _ _ _) kept.mono).frame⟩

theorem parseComplete_queues (here : pktGet s p = some k) (stage : k.stage = .plane) (pass : k.hdr.pass = 0) (enabled : raspEnabled s k = true)
    (room : k.hdr.twin = true ∨ splitQueued s k.hdr.pipeline < 48) : Completes (.parseComplete p) s (fun t =>
      (pktGet t p).map (fun x => x.stage) = some .raspQueue ∧
      t.rasp.queues[k.hdr.pipeline]? = (s.rasp.queues[k.hdr.pipeline]?).map (fun q => q ++ [p]) ∧ ChangesOnly [.pkts, .regs, .rasp] s t) := by
  have key := parsedMeta_metaKey s k
  simp only [metaKey, Prod.mk.injEq] at key
  obtain ⟨bank, rspBank, first, twin, pipeline, source⟩ := key
  obtain ⟨u, hu⟩ : ∃ u, u = countParse (hwCount s 0x038) (parsedMeta s k) := ⟨_, rfl⟩
  have kept : Keeps [.regs] s u := hu ▸ counted_keeps s _
  have still : raspEnabled u (parsedPkt s k) = true := (raspEnabled_congr (k := k) (j := parsedPkt s k) (kept.same .plane) rfl bank source).trans enabled
  have queued : splitQueued u (parsedMeta s k).pipeline = splitQueued s k.hdr.pipeline := by
    unfold splitQueued pktGet
    rw [kept.same .rasp, kept.same .pkts, pipeline]
  obtain ⟨v, hv⟩ : ∃ v, v = patternBankMod u (parsedMeta s k).rspBank (fun b => { b with pending := b.pending + 1 }) := ⟨_, rfl⟩
  have next : parsedNext u p (parsedMeta s k) (parsedPkt s k) = pktSet { v with
      rasp := { v.rasp with queues := v.rasp.queues.modify (parsedMeta s k).pipeline (fun q => q ++ [p]) } } p { parsedPkt s k with stage := .raspQueue } := by
    rw [hv]
    refine (if_pos ⟨first.trans pass, still⟩).trans (if_neg ?_)
    rw [queued, twin]
    rcases room with h | h <;> simp [h]
  have queues : v.rasp.queues = s.rasp.queues := by
    rw [hv, ← kept.same .rasp]
    unfold patternBankMod
    split <;> rfl
  refine completes_of (parseComplete_row here stage) ?_
  rw [← hu, next, pktGet_pktSet_self]
  refine ⟨rfl, ?_, ?_⟩
  · show (v.rasp.queues.modify (parsedMeta s k).pipeline (fun q => q ++ [p]))[k.hdr.pipeline]? = _
    rw [queues, pipeline]
    exact List.getElem?_modify_eq _ _ _
  · have banked : Keeps [.regs, .rasp] s v := hv ▸ .last (patternBankMod_keeps _ _ _) kept.mono
    exact ((banked.frame.mono (by decide)).step (.of_patch rfl)).step ((pktSet_keeps _ _ _).frame.mono (by decide))

theorem raspScanStart_starts (here : pktGet s p = some k) (stage : k.stage = .raspQueue)
    (oldest : ((s.rasp.queues[k.hdr.pipeline]?).getD []).head? = some p) (free : (s.rasp.lanes[k.hdr.pipeline]?).getD 0 < 4) :
    Completes (.raspScanStart p) s (fun t => pktGet t p = some { k with stage := .raspScan } ∧
      t.rasp.queues[k.hdr.pipeline]? = (s.rasp.queues[k.hdr.pipeline]?).map (fun q => q.drop 1) ∧
      t.rasp.lanes[k.hdr.pipeline]? = (s.rasp.lanes[k.hdr.pipeline]?).map (· + 1) ∧ ChangesOnly [.pkts, .rasp] s t) := by
  have row : exec (.raspScanStart p) s = .next (pktSet { s with rasp := { s.rasp with
      queues := s.rasp.queues.modify k.hdr.pipeline (fun q => q.drop 1), lanes := s.rasp.lanes.modify k.hdr.pipeline (· + 1) } } p
      { k with stage := .raspScan }) := by
    show execRaspScanStart p s = _
    unfold execRaspScanStart
    rw [here]
    exact if_pos ⟨stage, oldest, free⟩
  refine completes_of row ⟨pktGet_pktSet_self _ _ _, List.getElem?_modify_eq _ _ _, List.getElem?_modify_eq _ _ _, .of_patch rfl⟩

theorem raspScanComplete_ends (here : pktGet s p = some k) (stage : k.stage = .raspScan) : Completes (.raspScanComplete p) s (fun t =>
    pktGet t p = some { k with stage := .jig, hdr := { k.hdr with
      raspDone := true
      rspCount := (scan (patternBankGet s k.hdr.rspBank) (scanRange k)).1
      rspGroups := (scan (patternBankGet s k.hdr.rspBank) (scanRange k)).2.1
      rspFirst := (scan (patternBankGet s k.hdr.rspBank) (scanRange k)).2.2 } } ∧
    counter t (r_RSP_CNT_SCANNED k.hdr.pipeline) =
      BitVec.ofNat 32 (min ((counter s (r_RSP_CNT_SCANNED k.hdr.pipeline)).toNat + 1) 0xFFFFFFFF) ∧
    t.rasp.lanes[k.hdr.pipeline]? = (s.rasp.lanes[k.hdr.pipeline]?).map (· - 1) ∧ ChangesOnly [.pkts, .rasp, .regs] s t) := by
  obtain ⟨u, hu⟩ : ∃ u, u = patternBankMod { s with rasp := { s.rasp with lanes := s.rasp.lanes.modify k.hdr.pipeline (· - 1) } } k.hdr.rspBank
    (fun b => { b with pending := b.pending - 1 }) := ⟨_, rfl⟩
  obtain ⟨v, hv⟩ : ∃ v, v = bump64 (bump u (r_RSP_CNT_SCANNED k.hdr.pipeline)) (r_RSP_BYTES k.hdr.pipeline) (scanRange k).length := ⟨_, rfl⟩
  obtain ⟨w, hw⟩ : ∃ w, w = if (scan (patternBankGet s k.hdr.rspBank) (scanRange k)).1 = 0 then v else bump v (r_RSP_CNT_MATCHED k.hdr.pipeline) := ⟨_, rfl⟩
  have row : exec (.raspScanComplete p) s = .next (pktSet w p { k with stage := .jig, hdr := { k.hdr with
      raspDone := true
      rspCount := (scan (patternBankGet s k.hdr.rspBank) (scanRange k)).1
      rspGroups := (scan (patternBankGet s k.hdr.rspBank) (scanRange k)).2.1
      rspFirst := (scan (patternBankGet s k.hdr.rspBank) (scanRange k)).2.2 } }) := by
    show execRaspScanComplete p s = _
    unfold execRaspScanComplete
    rw [here, hw, hv, hu]
    exact if_pos stage
  have freed : ChangesOnly [.pkts, .rasp, .regs] s { s with rasp := { s.rasp with lanes := s.rasp.lanes.modify k.hdr.pipeline (· - 1) } } := .of_patch rfl
  have banked : ChangesOnly [.pkts, .rasp, .regs] s u := hu ▸ freed.step ((patternBankMod_keeps _ _ _).frame.mono (by decide))
  have lanes : u.rasp.lanes = s.rasp.lanes.modify k.hdr.pipeline (· - 1) := by
    rw [hu]
    unfold patternBankMod
    split <;> rfl
  have regs : u.regs = s.regs := by
    rw [hu]
    exact (patternBankMod_keeps _ _ _).same .regs
  have counting : Keeps [.regs] u v := hv ▸ .last (bump64_keeps _ _ _) (bump_keeps _ _)
  have matched : Keeps [.regs] u w := hw ▸ .ite counting (.last (bump_keeps _ _) counting)
  have scanned : counter v (r_RSP_CNT_SCANNED k.hdr.pipeline) =
      BitVec.ofNat 32 (min ((counter s (r_RSP_CNT_SCANNED k.hdr.pipeline)).toNat + 1) 0xFFFFFFFF) := by
    rw [hv, RegKept.counter (bump64_regKept _ _ (by unfold r_RSP_CNT_SCANNED r_RSP_BYTES; omega) (by unfold r_RSP_CNT_SCANNED r_RSP_BYTES; omega)),
      counter_bump_self, counter_congr regs]
  refine completes_of row ⟨pktGet_pktSet_self _ _ _, ?_, ?_, ?_⟩
  · show counter w _ = _
    rw [hw]
    split
    · exact scanned
    · rw [counter_bump_ne _ (by unfold r_RSP_CNT_SCANNED r_RSP_CNT_MATCHED; omega), scanned]
  · show w.rasp.lanes[_]? = _
    rw [matched.same .rasp, lanes]
    exact List.getElem?_modify_eq _ _ _
  · exact (banked.step (matched.frame.mono (by decide))).step ((pktSet_keeps _ _ _).frame.mono (by decide))

end

/-- Settles O35. -/
theorem passesStartParseAndScan : Obligations.PassesStartParseAndScan := by
  unfold Obligations.PassesStartParseAndScan
  refine ⟨⟨fun _ _ _ _ here stage can served next clear open_ alone single fresh =>
      passStart_first ⟨here, stage, can, served, next, clear⟩ open_ alone single fresh,
    fun _ _ _ _ here stage can served next clear open_ alone single started =>
      passStart_again ⟨here, stage, can, served, next, clear⟩ open_ alone single started,
    fun _ _ _ _ _ _ here stage can served next clear open_ mate plain =>
      passStart_mates ⟨here, stage, can, served, next, clear⟩ open_ mate plain,
    fun s p pos k here stage can served next clear restricted received =>
      passStart_fixed ⟨here, stage, can, served, next, clear⟩ restricted received ?_,
    fun _ _ _ here stage room first => twinStreamWaitEnd_ends here stage room first⟩,
    fun _ _ _ here stage pass => parseComplete_later here stage pass, fun _ _ _ here stage _ plain => parseComplete_plain here stage plain,
    fun _ _ _ here stage pass enabled room => parseComplete_queues here stage pass enabled room,
    fun _ _ _ here stage oldest free => raspScanStart_starts here stage oldest free, fun _ _ _ here stage => raspScanComplete_ends here stage⟩
  cases h : holderEp s with
  | some ep => exact .inl ⟨ep, rfl, rfl⟩
  | none => exact .inr ⟨rfl, rfl⟩

end Sys2Proof.Machine
end

section
/-! PROOFS. The parse-graph and pattern banks (O36). -/

namespace Sys2Proof.Machine

open Sys2Proof

set_option Elab.async false

/-! Sparse tables of records. -/

theorem putRec_self (m : AMap Bytes) (i : Nat) (d r : Bytes) : mapGetD (putRec m i d r) i d = r := by
  unfold putRec
  split
  next same => rw [mapGetD, mapGet_mapErase_self]; exact same.symm
  · exact mapGetD_mapSet_self _ _ _ _

theorem putRec_ne (m : AMap Bytes) {i j : Nat} (d r : Bytes) (other : j ≠ i) : mapGetD (putRec m i d r) j d = mapGetD m j d := by
  unfold putRec
  split
  · unfold mapGetD; rw [mapGet_mapErase_ne _ other]
  · exact mapGetD_mapSet_ne _ _ _ other

/-- Four bytes are the value that they make. -/
theorem toLe_le (r : Bytes) (n : Nat) (length : r.length = n) : toLe n (le r 0 n) = r := by
  refine bytes_ext (by rw [length_toLe, length]) (fun i small => ?_)
  rw [length_toLe] at small
  unfold le
  rw [getD_toLe _ small, byte_leVal, getD_slice _ _ small, Nat.zero_add]

theorem parseRec_parsePut_self (kind : Nat) (b : ParseBank) (i : Nat) {r : Bytes} (length : r.length = parseRecSize kind) :
    parseRec kind (parsePut kind b i r) i = r := by
  unfold parseRecSize at length
  unfold parseRec parsePut
  by_cases node : kind = 0
  · rw [if_pos node, if_pos node]
    exact putRec_self _ _ _ _
  by_cases trans : kind = 1
  · rw [if_neg node, if_neg node, if_pos trans, if_pos trans]
    exact putRec_self _ _ _ _
  rw [if_neg node, if_neg trans] at length
  by_cases start : kind = 2
  · rw [if_neg node, if_neg node, if_neg trans, if_neg trans, if_pos start, if_pos start, startGet]
    dsimp only
    rw [putRec_self, toLe_le r 4 length]
  · rw [if_neg node, if_neg node, if_neg trans, if_neg trans, if_neg start, if_neg start, classGet]
    dsimp only
    rw [putRec_self, toLe_le r 4 length]

theorem parseRec_parsePut_ne (kind : Nat) (b : ParseBank) {i j : Nat} (r : Bytes) (other : j ≠ i) : parseRec kind (parsePut kind b i r) j = parseRec kind b j := by
  unfold parseRec parsePut
  by_cases node : kind = 0
  · rw [if_pos node, if_pos node, if_pos node]
    exact putRec_ne _ _ _ other
  by_cases trans : kind = 1
  · simp only [if_neg node, if_pos trans]
    exact putRec_ne _ _ _ other
  by_cases start : kind = 2
  · simp only [if_neg node, if_neg trans, if_pos start, startGet, putRec_ne _ _ _ other]
  · simp only [if_neg node, if_neg trans, if_neg start, classGet, putRec_ne _ _ _ other]

/-- Records that follow each other are each put once. -/
theorem parseRec_foldl (kind first : Nat) (f : Nat → Bytes) (lengths : ∀ i, (f i).length = parseRecSize kind) (n : Nat) (b : ParseBank) {i : Nat}
    (small : i < n) : parseRec kind ((List.range n).foldl (fun b i => parsePut kind b (first + i) (f i)) b) (first + i) = f i := by
  induction n with
  | zero => omega
  | succ n ih =>
    rw [List.range_succ, List.foldl_append, List.foldl_cons, List.foldl_nil]
    by_cases last : i = n
    · rw [last, parseRec_parsePut_self _ _ _ (lengths n)]
    · rw [parseRec_parsePut_ne _ _ _ (by omega), ih (by omega)]

theorem patterns_foldl (first : Nat) (f : Nat → Bytes) (n : Nat) (b : PatternBank) {i : Nat} (small : i < n) :
    mapGetD ((List.range n).foldl (fun b i => { b with pats := putRec b.pats (first + i) (zeros 72) (f i) }) b).pats (first + i) (zeros 72) = f i := by
  induction n with
  | zero => omega
  | succ n ih =>
    rw [List.range_succ, List.foldl_append, List.foldl_cons, List.foldl_nil]
    by_cases last : i = n
    · rw [last, putRec_self]
    · rw [putRec_ne _ _ _ (by omega), ih (by omega)]

/-! Banks. -/

section
variable (s : State) (n : Nat)

theorem parseBankGet_congr {t : State} (h : t.plane = s.plane) : parseBankGet t n = parseBankGet s n := by unfold parseBankGet; rw [h]

theorem patternBankGet_congr {t : State} (h : t.rasp = s.rasp) : patternBankGet t n = patternBankGet s n := by unfold patternBankGet; rw [h]

theorem parseBankMod_self (f : ParseBank → ParseBank) : parseBankGet (parseBankMod s n f) n = f (parseBankGet s n) := by
  unfold parseBankGet parseBankMod
  by_cases first : n = 0 <;> simp only [first, if_true, if_false]

theorem patternBankMod_self (f : PatternBank → PatternBank) : patternBankGet (patternBankMod s n f) n = f (patternBankGet s n) := by
  unfold patternBankGet patternBankMod
  by_cases first : n = 0 <;> simp only [first, if_true, if_false]

/-- Of the parse-graph banks another thing changes no setting. -/
theorem parseBankMod_settings (f : ParseBank → ParseBank) : (parseBankMod s n f).plane.cur = s.plane.cur ∧
    (parseBankMod s n f).plane.stageReady = s.plane.stageReady ∧ (parseBankMod s n f).plane.commit = s.plane.commit := by
  unfold parseBankMod
  dsimp only
  split <;> exact ⟨rfl, rfl, rfl⟩

theorem patternBankMod_settings (f : PatternBank → PatternBank) : (patternBankMod s n f).rasp.cur = s.rasp.cur ∧
    (patternBankMod s n f).rasp.stageReady = s.rasp.stageReady ∧ (patternBankMod s n f).rasp.commit = s.rasp.commit := by
  unfold patternBankMod
  dsimp only
  split <;> exact ⟨rfl, rfl, rfl⟩

end

/-! Commands (R114 to R117). -/

theorem parseGraphWrite_writes : AnswersOk .parseGraphWrite 0x0440 (fun s _ req => parseRange req true = true ∧ planeReady s = true) (fun _ _ _ => [])
    (fun s t ch req => (∀ i < le req 4 2, parseRec (le req 0 2) (parseBankGet t (1 - s.plane.cur)) (le req 2 2 + i) =
        slice req (8 + parseRecSize (le req 0 2) * i) (parseRecSize (le req 0 2))) ∧ t.plane.cur = s.plane.cur ∧ AnswerFrame [.plane] s t ch) :=
  answersOk_set (row := fun s ch seq => (rfl : execParseGraphWrite ch seq s = _)) (fun s ch seq req ⟨range, ready⟩ => by
    refine ⟨_, (if_neg (by simp [range])).trans (if_neg (by simp [ready])), (parseBankMod_keeps _ _ _).same .mbx, fun i small => ?_, ?_,
      answer_frame_quiet ch seq rcOk [] (parseBankMod_keeps _ _ _).frame (by decide) (by decide)⟩
    · rw [parseBankGet_congr _ _ (answer_plane _ _ _ _ _), parseBankMod_self]
      exact parseRec_foldl _ _ (fun i => slice req (8 + parseRecSize (le req 0 2) * i) (parseRecSize (le req 0 2))) (fun _ => length_slice _ _ _) _ _ small
    · rw [answer_plane]
      exact (parseBankMod_settings _ _ _).1)

theorem parseGraphRead_answers : AnswersOk .parseGraphRead 0x0441 (fun _ _ req => parseRange req false = true)
    (fun s _ req => req ++ (List.range (le req 4 2)).flatMap (fun i => parseRec (le req 0 2) (parseBankGet s (byteAt req 6)) (le req 2 2 + i)))
    (fun s t ch _ => AnswerFrame [] s t ch) :=
  answersOk_query (fun s ch seq => (rfl : execParseGraphRead ch seq s = _)) (fun _ _ _ _ range => if_neg (by simp [range]))

theorem parseGraphCommit_waits : RunsLater .parseGraphCommit 0x0442 (fun s _ _ => planeReady s = true)
    (fun s t ch seq req => t.plane = { s.plane with commit := some ⟨ch, seq, BitVec.ofNat 32 (le req 0 4), false⟩ } ∧
      ChangesOnly [.mbx, .plane] s t) := by
  intro s ch seq req begun ready
  refine completes_command begun (rfl : execParseGraphCommit ch seq s = _) ?_
  dsimp only
  rw [if_neg (by simp [ready])]
  have set : ChangesOnly [.mbx, .plane] s { s with plane := { s.plane with commit := some ⟨ch, seq, BitVec.ofNat 32 (le req 0 4), false⟩ } } := .of_patch rfl
  exact ⟨defer_runs (begun.of_mbx rfl), defer_plane _ _ _, set.step ((defer_keeps _ _ _).frame.mono (by decide))⟩

theorem raspPatternWrite_writes : AnswersOk .raspPatternWrite 0x0448 (fun s _ req => patternRange req true = true ∧ raspReady s = true) (fun _ _ _ => [])
    (fun s t ch req => (∀ i < le req 2 2, mapGetD (patternBankGet t (1 - s.rasp.cur)).pats (le req 0 2 + i) (zeros 72) =
        slice req (8 + 72 * i) 72) ∧ t.rasp.cur = s.rasp.cur ∧ AnswerFrame [.rasp] s t ch) :=
  answersOk_set (row := fun s ch seq => (rfl : execRaspPatternWrite ch seq s = _)) (fun s ch seq req ⟨range, ready⟩ => by
    refine ⟨_, (if_neg (by simp [range])).trans (if_neg (by simp [ready])), (patternBankMod_keeps _ _ _).same .mbx, fun i small => ?_, ?_,
      answer_frame_quiet ch seq rcOk [] (patternBankMod_keeps _ _ _).frame (by decide) (by decide)⟩
    · rw [patternBankGet_congr _ _ (answer_rasp _ _ _ _ _), patternBankMod_self]
      exact patterns_foldl _ (fun i => slice req (8 + 72 * i) 72) _ _ small
    · rw [answer_rasp]
      exact (patternBankMod_settings _ _ _).1)

theorem raspPatternRead_answers : AnswersOk .raspPatternRead 0x0449 (fun _ _ req => patternRange req false = true)
    (fun s _ req => req ++ (List.range (le req 2 2)).flatMap (fun i => mapGetD (patternBankGet s (byteAt req 4)).pats (le req 0 2 + i) (zeros 72)))
    (fun s t ch _ => AnswerFrame [] s t ch) :=
  answersOk_query (fun s ch seq => (rfl : execRaspPatternRead ch seq s = _)) (fun _ _ _ _ range => if_neg (by simp [range]))

theorem raspCommit_waits : RunsLater .raspCommit 0x044A (fun s _ _ => raspReady s = true)
    (fun s t ch seq req => t.rasp = { s.rasp with commit := some ⟨ch, seq, BitVec.ofNat 32 (le req 0 4), false⟩ } ∧
      ChangesOnly [.mbx, .rasp] s t) := by
  intro s ch seq req begun ready
  refine completes_command begun (rfl : execRaspCommit ch seq s = _) ?_
  dsimp only
  rw [if_neg (by simp [ready])]
  have set : ChangesOnly [.mbx, .rasp] s { s with rasp := { s.rasp with commit := some ⟨ch, seq, BitVec.ofNat 32 (le req 0 4), false⟩ } } := .of_patch rfl
  exact ⟨defer_runs (begun.of_mbx rfl), defer_rasp _ _ _, set.step ((defer_keeps _ _ _).frame.mono (by decide))⟩

/-! Validation, switch and copy (R110 to R113). -/

section
variable {s : State} {c : BankCommit}

theorem parseValidateDone_plane (commit : s.plane.commit = some c) (open_ : c.validated = false) : Completes (.parseValidateDone false) s (fun t =>
    (graphFault (parseBankGet s (1 - s.plane.cur)) = none → t = { s with plane := { s.plane with commit := some { c with validated := true } } }) ∧
    (∀ k i, graphFault (parseBankGet s (1 - s.plane.cur)) = some (k, i) → t.plane = { s.plane with commit := none } ∧
      (Unanswered s c.chan c.seq → Answered t c.chan c.seq rcBadParam
        (toLe 1 s.plane.cur ++ toLe 1 k ++ toLe 2 i ++ toLe 4 (parseBankGet s s.plane.cur).tag.toNat)))) := by
  cases found : graphFault (parseBankGet s (1 - s.plane.cur)) with
  | none =>
    have row : exec (.parseValidateDone false) s = .next { s with plane := { s.plane with commit := some { c with validated := true } } } := by
      show execParseValidateDone false s = _
      unfold execParseValidateDone
      rw [if_neg (by decide), commit]
      dsimp only
      rw [if_neg (by simp [open_]), found]
    exact completes_of row ⟨fun _ => rfl, fun _ _ h => (nomatch h)⟩
  | some fault =>
    obtain ⟨k, i⟩ := fault
    have row : exec (.parseValidateDone false) s = .next (answer { s with plane := { s.plane with commit := none } } c.chan c.seq rcBadParam
        (bankResponse s.plane.cur k i (parseBankGet s s.plane.cur).tag)) := by
      show execParseValidateDone false s = _
      unfold execParseValidateDone
      rw [if_neg (by decide), commit]
      dsimp only
      rw [if_neg (by simp [open_]), found]
    refine completes_of row ⟨fun h => (nomatch h), fun k' i' h => ?_⟩
    obtain ⟨rfl, rfl⟩ := Prod.mk.inj (Option.some.inj h)
    exact ⟨answer_plane _ _ _ _ _, fun waits => answer_answered _ _ waits⟩

theorem parseValidateDone_rasp (commit : s.rasp.commit = some c) (open_ : c.validated = false) : Completes (.parseValidateDone true) s (fun t =>
    (patternFault (patternBankGet s (1 - s.rasp.cur)) = none → t = { s with rasp := { s.rasp with commit := some { c with validated := true } } }) ∧
    (∀ i, patternFault (patternBankGet s (1 - s.rasp.cur)) = some i → t.rasp = { s.rasp with commit := none } ∧
      (Unanswered s c.chan c.seq → Answered t c.chan c.seq rcBadParam
        (toLe 1 s.rasp.cur ++ toLe 1 0 ++ toLe 2 i ++ toLe 4 (patternBankGet s s.rasp.cur).tag.toNat)))) := by
  cases found : patternFault (patternBankGet s (1 - s.rasp.cur)) with
  | none =>
    have row : exec (.parseValidateDone true) s = .next { s with rasp := { s.rasp with commit := some { c with validated := true } } } := by
      show execParseValidateDone true s = _
      unfold execParseValidateDone
      rw [if_pos rfl, commit]
      dsimp only
      rw [if_neg (by simp [open_]), found]
    exact completes_of row ⟨fun _ => rfl, fun _ h => (nomatch h)⟩
  | some i =>
    have row : exec (.parseValidateDone true) s = .next (answer { s with rasp := { s.rasp with commit := none } } c.chan c.seq rcBadParam
        (bankResponse s.rasp.cur 0 i (patternBankGet s s.rasp.cur).tag)) := by
      show execParseValidateDone true s = _
      unfold execParseValidateDone
      rw [if_pos rfl, commit]
      dsimp only
      rw [if_neg (by simp [open_]), found]
    refine completes_of row ⟨fun h => (nomatch h), fun i' h => ?_⟩
    obtain rfl := Option.some.inj h
    exact ⟨answer_rasp _ _ _ _ _, fun waits => answer_answered _ _ waits⟩

theorem parseBankSwitch_plane (commit : s.plane.commit = some c) (validated : c.validated = true) : Completes (.parseBankSwitch false) s (fun t =>
    t.plane.cur = 1 - s.plane.cur ∧ t.plane.commit = none ∧ t.plane.stageReady = false ∧ (parseBankGet t (1 - s.plane.cur)).tag = c.tag ∧
    (parseBankGet t (1 - s.plane.cur)).nodes = (parseBankGet s (1 - s.plane.cur)).nodes ∧
    (Unanswered s c.chan c.seq → Answered t c.chan c.seq rcOk (toLe 1 (1 - s.plane.cur) ++ toLe 1 0 ++ toLe 2 0 ++ toLe 4 c.tag.toNat))) := by
  obtain ⟨u, hu⟩ : ∃ u, u = parseBankMod { s with plane := { s.plane with cur := 1 - s.plane.cur, stageReady := false, commit := none } } (1 - s.plane.cur)
    (fun b => { b with tag := c.tag }) := ⟨_, rfl⟩
  have row : exec (.parseBankSwitch false) s = .next (answer u c.chan c.seq rcOk (bankResponse (1 - s.plane.cur) 0 0 c.tag)) := by
    show execParseBankSwitch false s = _
    unfold execParseBankSwitch
    rw [if_neg (by decide), commit, hu]
    exact if_pos validated
  obtain ⟨cur, ready, free⟩ := parseBankMod_settings { s with plane := { s.plane with cur := 1 - s.plane.cur, stageReady := false, commit := none } }
    (1 - s.plane.cur) (fun b => { b with tag := c.tag })
  have bank : parseBankGet u (1 - s.plane.cur) = { parseBankGet s (1 - s.plane.cur) with tag := c.tag } := by rw [hu, parseBankMod_self]; rfl
  have mbx : u.mbx = s.mbx := hu ▸ (parseBankMod_keeps _ _ _).same .mbx
  refine completes_of row ?_
  rw [answer_plane, parseBankGet_congr _ _ (answer_plane _ _ _ _ _), bank]
  rw [← hu] at cur ready free
  refine ⟨cur, free, ready, rfl, rfl, fun waits => answer_answered _ _ ?_⟩
  unfold Unanswered
  rw [chanGet_congr mbx]
  exact waits

theorem parseBankSwitch_rasp (commit : s.rasp.commit = some c) (validated : c.validated = true) : Completes (.parseBankSwitch true) s (fun t =>
    t.rasp.cur = 1 - s.rasp.cur ∧ t.rasp.commit = none ∧ t.rasp.stageReady = false ∧ (patternBankGet t (1 - s.rasp.cur)).tag = c.tag ∧
    (Unanswered s c.chan c.seq → Answered t c.chan c.seq rcOk (toLe 1 (1 - s.rasp.cur) ++ toLe 1 0 ++ toLe 2 0 ++ toLe 4 c.tag.toNat))) := by
  obtain ⟨u, hu⟩ : ∃ u, u = patternBankMod { s with rasp := { s.rasp with cur := 1 - s.rasp.cur, stageReady := false, commit := none } } (1 - s.rasp.cur)
    (fun b => { b with tag := c.tag }) := ⟨_, rfl⟩
  have row : exec (.parseBankSwitch true) s = .next (answer u c.chan c.seq rcOk (bankResponse (1 - s.rasp.cur) 0 0 c.tag)) := by
    show execParseBankSwitch true s = _
    unfold execParseBankSwitch
    rw [if_pos rfl, commit, hu]
    exact if_pos validated
  obtain ⟨cur, ready, free⟩ := patternBankMod_settings { s with rasp := { s.rasp with cur := 1 - s.rasp.cur, stageReady := false, commit := none } }
    (1 - s.rasp.cur) (fun b => { b with tag := c.tag })
  have bank : (patternBankGet u (1 - s.rasp.cur)).tag = c.tag := by rw [hu, patternBankMod_self]
  have mbx : u.mbx = s.mbx := hu ▸ (patternBankMod_keeps _ _ _).same .mbx
  refine completes_of row ?_
  rw [answer_rasp, patternBankGet_congr _ _ (answer_rasp _ _ _ _ _), bank]
  rw [← hu] at cur ready free
  refine ⟨cur, free, ready, rfl, fun waits => answer_answered _ _ ?_⟩
  unfold Unanswered
  rw [chanGet_congr mbx]
  exact waits

/-- A bank with the records of another one. -/
def copiedBank (c b : ParseBank) : ParseBank := { b with nodes := c.nodes, trans := c.trans, starts := c.starts, classes := c.classes }

theorem stageBankCopy_plane (old : s.plane.stageReady = false) (empty : (parseBankGet s (1 - s.plane.cur)).inflight = 0) :
    Completes (.stageBankCopy false) s (fun t => t.plane.stageReady = true ∧ t.plane.cur = s.plane.cur ∧
    (parseBankGet t (1 - s.plane.cur)).nodes = (parseBankGet s s.plane.cur).nodes ∧
    (parseBankGet t (1 - s.plane.cur)).trans = (parseBankGet s s.plane.cur).trans ∧ ChangesOnly [.plane] s t) := by
  obtain ⟨f, hf⟩ : ∃ f, f = fun b => copiedBank (parseBankGet s s.plane.cur) b := ⟨_, rfl⟩
  have row : exec (.stageBankCopy false) s = .next (parseBankMod { s with plane := { s.plane with stageReady := true } } (1 - s.plane.cur) f) := by
    show execStageBankCopy false s = _
    unfold execStageBankCopy
    rw [if_neg (by decide), hf]
    exact if_pos (by simp [old, empty])
  obtain ⟨cur, ready, -⟩ := parseBankMod_settings { s with plane := { s.plane with stageReady := true } } (1 - s.plane.cur) f
  have set : ChangesOnly [.plane] s { s with plane := { s.plane with stageReady := true } } := .of_patch rfl
  refine completes_of row ⟨ready, cur, ?_, ?_, set.step (parseBankMod_keeps _ _ _).frame⟩ <;> rw [parseBankMod_self, hf] <;> rfl

theorem stageBankCopy_rasp (old : s.rasp.stageReady = false) (empty : (patternBankGet s (1 - s.rasp.cur)).pending = 0) :
    Completes (.stageBankCopy true) s (fun t => t.rasp.stageReady = true ∧ t.rasp.cur = s.rasp.cur ∧
    (patternBankGet t (1 - s.rasp.cur)).pats = (patternBankGet s s.rasp.cur).pats ∧ ChangesOnly [.rasp] s t) := by
  obtain ⟨f, hf⟩ : ∃ f, f = fun b : PatternBank => { b with pats := (patternBankGet s s.rasp.cur).pats } := ⟨_, rfl⟩
  have row : exec (.stageBankCopy true) s = .next (patternBankMod { s with rasp := { s.rasp with stageReady := true } } (1 - s.rasp.cur) f) := by
    show execStageBankCopy true s = _
    unfold execStageBankCopy
    rw [if_pos rfl, hf]
    exact if_pos (by simp [old, empty])
  obtain ⟨cur, ready, -⟩ := patternBankMod_settings { s with rasp := { s.rasp with stageReady := true } } (1 - s.rasp.cur) f
  have set : ChangesOnly [.rasp] s { s with rasp := { s.rasp with stageReady := true } } := .of_patch rfl
  refine completes_of row ⟨ready, cur, ?_, set.step (patternBankMod_keeps _ _ _).frame⟩
  rw [patternBankMod_self, hf]

end

/-- Settles O36. -/
theorem banksAreStagedValidatedAndSwitched : Obligations.BanksAreStagedValidatedAndSwitched := by
  unfold Obligations.BanksAreStagedValidatedAndSwitched
  exact ⟨parseGraphWrite_writes, parseGraphRead_answers, parseGraphCommit_waits, raspPatternWrite_writes, raspPatternRead_answers, raspCommit_waits,
    fun _ _ commit open_ => parseValidateDone_plane commit open_, fun _ _ commit open_ => parseValidateDone_rasp commit open_,
    fun _ _ commit validated => parseBankSwitch_plane commit validated, fun _ _ commit validated => parseBankSwitch_rasp commit validated,
    fun _ old empty => stageBankCopy_plane old empty, fun _ old empty => stageBankCopy_rasp old empty⟩

end Sys2Proof.Machine
end

section
/-! PROOFS. Jig's lookup and its tables (O37). -/

namespace Sys2Proof.Machine

open Sys2Proof

set_option Elab.async false

theorem leVal_toLe (n v : Nat) : leVal (toLe n v) = v % 256 ^ n := by
  induction n generalizing v with
  | zero => rw [Nat.pow_zero, Nat.mod_one]; rfl
  | succ n ih =>
    rw [toLe, leVal, ih, Nat.pow_succ', Nat.mod_mul, BitVec.toNat_ofNat]

theorem le_append_toLe (n v : Nat) (b : Bytes) : le (toLe n v ++ b) 0 n = v % 256 ^ n := by
  rw [← leVal_toLe]
  unfold le slice
  dsimp only
  rw [List.drop_zero, List.take_left' (length_toLe n v), length_toLe, Nat.sub_self, List.replicate_zero, List.append_nil]

theorem le_putLe (b : Bytes) (n v : Nat) : le (putLe b 0 n v) 0 n = v % 256 ^ n := by
  have start : slice b 0 0 = [] := by simp [slice]
  unfold putLe splice
  rw [start, List.nil_append]
  exact le_append_toLe _ _ _

/-! The lookup (R129 to R132). -/

section
variable {s : State} {p : Nat} {k : Pkt}

/-- A dropped copy is gone. -/
theorem endCopy_gone (s : State) (p : Nat) (k : Pkt) : pktGet (endCopy s p k) p = none := mapGet_mapErase_self _ _

theorem passDrop_gone (here : pktGet s p = some k) (alone : k.mirrors = []) : pktGet (passDrop s p) p = none := by
  unfold passDrop
  rw [here]
  dsimp only
  rw [if_pos (by rw [alone]; rfl)]
  unfold dropPkt
  rw [here]
  exact endCopy_gone _ _ _

/-- Whether the rule that was hit sets the class (R131). -/
def setsClass (s : State) (k : Pkt) : Bool :=
  (classify s k).hit && bitAt (le (ruleGet (jigSlotGet s k.hdr.jigSlot).set (classify s k).rule) 8 4) 17

/-- What a lookup counts before its result is used (R160). -/
def lookedUp (s : State) (k : Pkt) : State :=
  let s' := countLookup s k (classify s k)
  let s' := if (assignedSlice s' k (classify s k)).isSome then bump s' (r_JIG_CNT_SLICE_SET k.hdr.pipeline) else s'
  if setsClass s k then bump s' (r_JIG_CNT_CLASS_SET k.hdr.pipeline) else s'

/-- The slice that a lookup assigns. -/
def sliceAfter (s : State) (k : Pkt) : Option Nat := assignedSlice (countLookup s k (classify s k)) k (classify s k)

/-- The class after the lookup. -/
def classAfter (s : State) (k : Pkt) : Nat :=
  if setsClass s k then bits (le (ruleGet (jigSlotGet s k.hdr.jigSlot).set (classify s k).rule) 8 4) 16 13 else k.hdr.cls

/-- The packet after the lookup. -/
def classified (s : State) (k : Pkt) : Pkt :=
  { k with
      hdr := { k.hdr with slice := (sliceAfter s k).getD k.hdr.slice, cls := classAfter s k }
      jig := classify s k
      gen := if (sliceAfter s k).isSome then genOfSlice (lookedUp s k) ((sliceAfter s k).getD k.hdr.slice) else k.gen }

theorem jigSlotGet_congr (s t : State) (same : t.jig = s.jig) (n : Nat) : jigSlotGet t n = jigSlotGet s n := by
  unfold jigSlotGet; rw [same]

theorem assignedSlice_congr {s t : State} (same : t.jig = s.jig) (k : Pkt) (j : JigResult) :
    assignedSlice t k j = assignedSlice s k j := by
  unfold assignedSlice
  rw [jigSlotGet_congr s t same]

theorem sliceOk_congr {s t : State} (slices : t.slices = s.slices) (dev : t.dev = s.dev) (n : Nat) : sliceOk t n = sliceOk s n := by
  unfold sliceOk sliceGet
  rw [slices, dev]

theorem sliceAfter_same (s : State) (k : Pkt) : sliceAfter s k = assignedSlice s k (classify s k) :=
  assignedSlice_congr ((countLookup_keeps _ _ _).same .jig) _ _

theorem lookedUp_keeps (s : State) (k : Pkt) : Keeps [.regs] s (lookedUp s k) := by
  unfold lookedUp
  extract_lets u v
  have first : Keeps [.regs] s u := countLookup_keeps _ _ _
  have second : Keeps [.regs] s v := .ite (.last (bump_keeps _ _) first) first
  exact .ite (.last (bump_keeps _ _) second) second

/-- The counts of a lookup leave the other registers of Jig alone. -/
theorem lookedUp_regKept (s : State) (k : Pkt) {a : Nat} (other : a = r_JIG_CNT_MISS_DROP k.hdr.pipeline ∨ a = r_JIG_CNT_NO_SLICE k.hdr.pipeline) :
    RegKept s (lookedUp s k) a := by
  have apart : a ≠ r_JIG_LOOKUPS k.hdr.pipeline ∧ a ≠ r_JIG_LOOKUPS k.hdr.pipeline + 4 ∧ a ≠ r_JIG_CNT_HIT k.hdr.pipeline ∧
      a ≠ r_JIG_CNT_MISS k.hdr.pipeline ∧ a ≠ r_JIG_CNT_OLD_SLOT k.hdr.pipeline ∧ a ≠ r_JIG_CNT_SLICE_SET k.hdr.pipeline ∧
      a ≠ r_JIG_CNT_CLASS_SET k.hdr.pipeline := by
    unfold r_JIG_CNT_MISS_DROP r_JIG_CNT_NO_SLICE at other
    unfold r_JIG_LOOKUPS r_JIG_CNT_HIT r_JIG_CNT_MISS r_JIG_CNT_OLD_SLOT r_JIG_CNT_SLICE_SET r_JIG_CNT_CLASS_SET
    omega
  obtain ⟨low, high, hit, miss, old, slice_, class_⟩ := apart
  have bumped : ∀ u b, a ≠ b → RegKept u (bump u b) a := fun u b ne => setReg_regKept _ _ ne
  have counted : RegKept s (countLookup s k (classify s k)) a := by
    unfold countLookup
    dsimp only
    have first : RegKept s (bump64 s (r_JIG_LOOKUPS k.hdr.pipeline) 1) a := bump64_regKept _ _ low high
    split_ifs
    · exact (first.trans (bumped _ _ hit)).trans (bumped _ _ old)
    · exact first.trans (bumped _ _ hit)
    · exact (first.trans (bumped _ _ miss)).trans (bumped _ _ old)
    · exact first.trans (bumped _ _ miss)
  unfold lookedUp
  dsimp only
  split_ifs
  · exact (counted.trans (bumped _ _ slice_)).trans (bumped _ _ class_)
  · exact counted.trans (bumped _ _ class_)
  · exact counted.trans (bumped _ _ slice_)
  · exact counted

theorem sliceOk_lookedUp (s : State) (k : Pkt) : sliceOk (lookedUp s k) (classified s k).hdr.slice =
    sliceOk s ((assignedSlice s k (classify s k)).getD k.hdr.slice) := by
  rw [sliceOk_congr ((lookedUp_keeps s k).same .slices) ((lookedUp_keeps s k).same .dev)]
  show sliceOk s ((sliceAfter s k).getD k.hdr.slice) = _
  rw [sliceAfter_same]

/-- A pass without an open slice is dropped. -/
theorem jigClassify_noSlice (here : pktGet s p = some k) (stage : k.stage = .jig)
    (closed : sliceOk s ((assignedSlice s k (classify s k)).getD k.hdr.slice) = false) : exec (.jigClassify p) s =
    .next (passDrop (bump (tracePass (lookedUp s k) (classified s k) 0) (r_JIG_CNT_NO_SLICE k.hdr.pipeline)) p) := by
  show execJigClassify p s = _
  unfold execJigClassify
  rw [here]
  dsimp only
  rw [if_pos stage]
  exact if_pos (congrArg (! ·) ((sliceOk_lookedUp s k).trans closed))

/-- A miss of a class with MISS_DROP is dropped. -/
theorem jigClassify_missed (here : pktGet s p = some k) (stage : k.stage = .jig)
    (admitted : sliceOk s ((assignedSlice s k (classify s k)).getD k.hdr.slice) = true) (drop : (classify s k).drop = true) :
    exec (.jigClassify p) s =
    .next (passDrop (bump (tracePass (lookedUp s k) (classified s k) 0) (r_JIG_CNT_MISS_DROP k.hdr.pipeline)) p) := by
  show execJigClassify p s = _
  unfold execJigClassify
  rw [here]
  dsimp only
  rw [if_pos stage]
  exact (if_neg (ne_true_of_eq_false (congrArg (! ·) ((sliceOk_lookedUp s k).trans admitted)))).trans (if_pos drop)

/-- Any other pass whose class policy is 0 goes on to its action. -/
theorem jigClassify_passed (here : pktGet s p = some k) (stage : k.stage = .jig)
    (admitted : sliceOk s ((assignedSlice s k (classify s k)).getD k.hdr.slice) = true) (stays : (classify s k).drop = false)
    (policy : classPolicy (classGet (parseBankGet s k.hdr.pgBank) (classAfter s k)) (classified s k).hdr = 0) :
    exec (.jigClassify p) s = .next (pktSet (lookedUp s k) p { classified s k with stage := .fetch }) := by
  have policy' : classPolicy (classGet (parseBankGet (lookedUp s k) k.hdr.pgBank) (classAfter s k)) (classified s k).hdr = 0 := by
    rw [parseBankGet_congr _ _ ((lookedUp_keeps s k).same .plane)]; exact policy
  show execJigClassify p s = _
  unfold execJigClassify
  rw [here]
  dsimp only
  rw [if_pos stage]
  refine (if_neg ?_).trans ((if_neg ?_).trans ?_)
  · exact ne_true_of_eq_false (congrArg (! ·) ((sliceOk_lookedUp s k).trans admitted))
  · exact ne_true_of_eq_false stays
  · show (match classPolicy (classGet (parseBankGet (lookedUp s k) k.hdr.pgBank) (classAfter s k)) (classified s k).hdr with
      | 1 => _ | 2 => _ | _ => _) = _
    rw [policy']
    rfl

/-- A pass of a class whose policy lets it go on has its result and waits for its action. -/
theorem jigClassify_classifies {sl c : Nat} (here : pktGet s p = some k) (stage : k.stage = .jig)
    (slice_ : sl = (assignedSlice s k (classify s k)).getD k.hdr.slice)
    (class_ : c = (if (classify s k).hit && bitAt (le (ruleGet (jigSlotGet s k.hdr.jigSlot).set (classify s k).rule) 8 4) 17
      then bits (le (ruleGet (jigSlotGet s k.hdr.jigSlot).set (classify s k).rule) 8 4) 16 13 else k.hdr.cls))
    (admitted : sliceOk s sl = true) (stays : (classify s k).drop = false)
    (policy : classPolicy (classGet (parseBankGet s k.hdr.pgBank) c) { k.hdr with slice := sl, cls := c } = 0) :
    Completes (.jigClassify p) s (fun t => (∃ k', pktGet t p = some k' ∧ k'.stage = .fetch ∧ k'.jig = classify s k ∧ k'.hdr.slice = sl ∧
      k'.hdr.cls = c ∧ k'.frame = k.frame) ∧ (∀ q, q ≠ p → pktGet t q = pktGet s q) ∧ ChangesOnly [.pkts, .regs] s t) := by
  subst slice_ class_
  have policy' : classPolicy (classGet (parseBankGet s k.hdr.pgBank) (classAfter s k)) (classified s k).hdr = 0 := by
    show classPolicy _ { k.hdr with slice := (sliceAfter s k).getD k.hdr.slice, cls := classAfter s k } = 0
    rw [sliceAfter_same]
    exact policy
  have kept := lookedUp_keeps s k
  refine completes_of (jigClassify_passed here stage admitted stays policy') ⟨⟨_, pktGet_pktSet_self _ _ _, rfl, rfl, ?_, rfl, rfl⟩, fun q other => ?_,
    (Keeps.frame (.last (pktSet_keeps _ _ _) (kept.mono (by decide))))⟩
  · show (sliceAfter s k).getD k.hdr.slice = _
    rw [sliceAfter_same]
  · rw [pktGet_pktSet_ne _ _ other, pktGet_congr (kept.same .pkts)]

/-- The counter of a drop counts once and the packet is gone. -/
theorem dropped_counts {a : Nat} (here : pktGet s p = some k) (alone : k.mirrors = [])
    (counts : a = r_JIG_CNT_MISS_DROP k.hdr.pipeline ∨ a = r_JIG_CNT_NO_SLICE k.hdr.pipeline) :
    pktGet (passDrop (bump (tracePass (lookedUp s k) (classified s k) 0) a) p) p = none ∧
    Counted s (passDrop (bump (tracePass (lookedUp s k) (classified s k) 0) a) p) a 1 := by
  have untraced : a ≠ r_GAU_TRACE_STATUS := by
    unfold r_JIG_CNT_MISS_DROP r_JIG_CNT_NO_SLICE at counts
    unfold r_GAU_TRACE_STATUS
    omega
  have traced : Keeps [.gauge, .regs] s (tracePass (lookedUp s k) (classified s k) 0) :=
    .last (trace_keeps _ _ _ _ _ _ _) ((lookedUp_keeps s k).mono (by decide))
  have kept : RegKept s (tracePass (lookedUp s k) (classified s k) 0) a :=
    (lookedUp_regKept s k counts).trans (trace_regKept _ _ _ _ _ _ _ untraced)
  have there : pktGet (bump (tracePass (lookedUp s k) (classified s k) 0) a) p = some k := by
    rw [pktGet_congr ((bump_keeps _ a).same .pkts), pktGet_congr (traced.same .pkts)]
    exact here
  refine ⟨passDrop_gone there alone, ?_⟩
  unfold Counted
  rw [counter_congr ((passDrop_keeps _ _).same .regs), counter_bump_self, kept.counter]

theorem jigClassify_misses (here : pktGet s p = some k) (stage : k.stage = .jig)
    (admitted : sliceOk s ((assignedSlice s k (classify s k)).getD k.hdr.slice) = true) (drop : (classify s k).drop = true)
    (alone : k.mirrors = []) :
    Completes (.jigClassify p) s (fun t => pktGet t p = none ∧ Counted s t (r_JIG_CNT_MISS_DROP k.hdr.pipeline) 1) :=
  completes_of (jigClassify_missed here stage admitted drop) (dropped_counts here alone (.inl rfl))

theorem jigClassify_closed (here : pktGet s p = some k) (stage : k.stage = .jig)
    (closed : sliceOk s ((assignedSlice s k (classify s k)).getD k.hdr.slice) = false) (alone : k.mirrors = []) :
    Completes (.jigClassify p) s (fun t => pktGet t p = none ∧ Counted s t (r_JIG_CNT_NO_SLICE k.hdr.pipeline) 1) :=
  completes_of (jigClassify_noSlice here stage closed) (dropped_counts here alone (.inr rfl))

end

theorem mapGetD_unnamed {α : Type} (m : AMap α) {i : Nat} (d : α) (unnamed : i ∉ m.map Prod.fst) : mapGetD m i d = d := by
  induction m with
  | nil => rfl
  | cons x m ih =>
    obtain ⟨other, rest⟩ := not_or.mp (fun h => unnamed (List.mem_cons.mpr h))
    rw [mapGetD, mapGet, if_neg other]
    exact ih rest

/-! Rules and profiles of the staging table (R134 to R136). -/

theorem putRecord_self (m : AMap Bytes) (i : Nat) (d r : Bytes) : mapGetD (putRecord m i d r) i d = r := putRec_self m i d r

theorem putRecord_ne (m : AMap Bytes) {i j : Nat} (d r : Bytes) (other : j ≠ i) : mapGetD (putRecord m i d r) j d = mapGetD m j d :=
  putRec_ne m d r other

/-- Records that follow each other are each put once, and no other. -/
theorem putRecord_foldl (first : Nat) (f : Nat → Bytes) (n : Nat) (m : AMap Bytes) (d : Bytes) :
    (∀ i < n, mapGetD ((List.range n).foldl (fun m i => putRecord m (first + i) d (f i)) m) (first + i) d = f i) ∧
    ∀ i, (i < first ∨ first + n ≤ i) → mapGetD ((List.range n).foldl (fun m i => putRecord m (first + i) d (f i)) m) i d = mapGetD m i d := by
  induction n with
  | zero => exact ⟨fun _ small => absurd small (Nat.not_lt_zero _), fun _ _ => rfl⟩
  | succ n ih =>
    obtain ⟨within, outside⟩ := ih
    rw [List.range_succ, List.foldl_append, List.foldl_cons, List.foldl_nil]
    refine ⟨fun i small => ?_, fun i apart => ?_⟩
    · by_cases last : i = n
      · rw [last, putRecord_self]
      · rw [putRecord_ne _ _ _ (by omega), within i (by omega)]
    · rw [putRecord_ne _ _ _ (by omega), outside i (by omega)]

theorem jigRuleWrite_writes : AnswersOk .jigRuleWrite 0x0400 (fun _ _ req => ruleRange req 2 = true ∧ byteAt req 7 = 4) (fun _ _ _ => [])
    (fun s t ch req => (∀ i < le req 4 3, ruleGet t.jig.staging (le req 0 2 + i) = slice req (8 + 112 * i) 112) ∧
      (∀ i, (i < le req 0 2 ∨ le req 0 2 + le req 4 3 ≤ i) → ruleGet t.jig.staging i = ruleGet s.jig.staging i) ∧ AnswerFrame [.jig] s t ch) :=
  answersOk_set (row := fun s ch seq => (rfl : execJigRuleWrite ch seq s = _)) (fun s ch seq req ⟨range, staging⟩ => by
    obtain ⟨written, kept⟩ := putRecord_foldl (le req 0 2) (fun i => slice req (8 + 112 * i) 112) (le req 4 3) s.jig.staging.rules (zeros 112)
    refine ⟨_, if_neg (by simp [range, staging]), (stagingSet_keeps _ _).same .mbx, ?_⟩
    rw [answer_jig]
    exact ⟨written, kept, answer_frame_quiet ch seq rcOk [] (stagingSet_keeps _ _).frame (by decide) (by decide)⟩)

theorem jigRuleRead_reads {s : State} {ch seq : Nat} {req : Bytes} {set : RuleSet} (begun : Begun s ch seq 0x0401 req)
    (source : ruleSource s (byteAt req 7) = some set) (range : ruleRange req 2 = true) :
    Completes (.jigRuleRead ch seq) s (fun t => Answered t ch seq rcOk
      (req ++ (List.range (le req 4 3)).flatMap (fun i => ruleGet set (le req 0 2 + i))) ∧ AnswerFrame [] s t ch) := by
  refine completes_command begun (rfl : execJigRuleRead ch seq s = _) ?_
  rw [source]
  dsimp only
  rw [if_neg (by simp [range])]
  exact ⟨answer_answered _ _ begun.unanswered, answer_frame _ _ _ _ _⟩

/-- A record whose VALID bit is cleared is not valid. -/
theorem ruleValid_cleared (r : Bytes) : ruleValid (putLe r 0 4 (putBits (le r 0 4) 16 16 0)) = false := by
  have cleared : (putBits (le r 0 4) 16 16 0).testBit 16 = false := by
    have := bits_putBits (le r 0 4) 16 16 0
    rw [bits_one] at this
    exact Bool.toNat_eq_zero.mp this
  unfold ruleValid
  rw [le_putLe, bitAt_testBit, show (256 : Nat) ^ 4 = 2 ^ 32 from rfl, Nat.testBit_mod_two_pow, cleared, Bool.and_false]

/-- What clearing a range does to one record. -/
def clearRule (first count : Nat) (m : AMap Bytes) (x : Nat × Bytes) : AMap Bytes :=
  if first ≤ x.1 ∧ x.1 < first + count then putRecord m x.1 (zeros 112) (putLe x.2 0 4 (putBits (le x.2 0 4) 16 16 0)) else m

theorem clearRule_outside {first count i : Nat} (apart : i < first ∨ first + count ≤ i) (l : AMap Bytes) (m : AMap Bytes) :
    mapGetD (l.foldl (clearRule first count) m) i (zeros 112) = mapGetD m i (zeros 112) := by
  induction l generalizing m with
  | nil => rfl
  | cons x l ih =>
    rw [List.foldl_cons, ih, clearRule]
    split
    · exact putRecord_ne _ _ _ (by omega)
    · rfl

theorem clearRule_within {first count i : Nat} (from_ : first ≤ i) (until_ : i < first + count) (l : AMap Bytes) (m : AMap Bytes)
    (held : ruleValid (mapGetD m i (zeros 112)) = false ∨ i ∈ l.map Prod.fst) :
    ruleValid (mapGetD (l.foldl (clearRule first count) m) i (zeros 112)) = false := by
  induction l generalizing m with
  | nil => exact held.resolve_right (by simp)
  | cons x l ih =>
    rw [List.foldl_cons]
    apply ih
    by_cases named : i = x.1
    · left
      rw [clearRule, if_pos (named ▸ ⟨from_, until_⟩), named, putRecord_self]
      exact ruleValid_cleared _
    · refine held.imp (fun unset => ?_) (fun later => ?_)
      · rw [clearRule]
        split
        · rw [putRecord_ne _ _ _ named]; exact unset
        · exact unset
      · exact (List.mem_cons.mp later).resolve_left named

theorem jigRuleClear_clears : AnswersOk .jigRuleClear 0x0402 (fun _ _ req => ruleRange req 65536 = true ∧ byteAt req 7 = 4) (fun _ _ _ => [])
    (fun s t ch req => (∀ i, le req 0 2 ≤ i → i < le req 0 2 + le req 4 3 → ruleValid (ruleGet t.jig.staging i) = false) ∧
      (∀ i, (i < le req 0 2 ∨ le req 0 2 + le req 4 3 ≤ i) → ruleGet t.jig.staging i = ruleGet s.jig.staging i) ∧ AnswerFrame [.jig] s t ch) :=
  answersOk_set (row := fun s ch seq => (rfl : execJigRuleClear ch seq s = _)) (fun s ch seq req ⟨range, staging⟩ => by
    refine ⟨_, if_neg (by simp [range, staging]), (stagingSet_keeps _ _).same .mbx, ?_⟩
    rw [answer_jig]
    refine ⟨fun i from_ until_ => clearRule_within from_ until_ _ _ ?_, fun i apart => clearRule_outside apart _ _,
      answer_frame_quiet ch seq rcOk [] (stagingSet_keeps _ _).frame (by decide) (by decide)⟩
    by_cases named : i ∈ s.jig.staging.rules.map Prod.fst
    · exact .inr named
    · left
      show ruleValid (mapGetD s.jig.staging.rules i (zeros 112)) = false
      rw [mapGetD_unnamed _ _ named]
      decide)

theorem jigProfileWrite_writes : AnswersOk .jigProfileWrite 0x0403 (fun _ _ req => byteAt req 0 ≤ 15 ∧ byteAt req 1 = 4) (fun _ _ _ => [])
    (fun s t ch req => profileGet t.jig.staging (byteAt req 0) = slice req 4 104 ∧
      (∀ i, i ≠ byteAt req 0 → profileGet t.jig.staging i = profileGet s.jig.staging i) ∧ AnswerFrame [.jig] s t ch) :=
  answersOk_set (row := fun s ch seq => (rfl : execJigProfileWrite ch seq s = _)) (fun s ch seq req ⟨index, staging⟩ => by
    refine ⟨_, if_neg (by omega), (stagingSet_keeps _ _).same .mbx, ?_⟩
    rw [answer_jig]
    exact ⟨putRecord_self _ _ _ _, fun i other => putRecord_ne _ _ _ other,
      answer_frame_quiet ch seq rcOk [] (stagingSet_keeps _ _).frame (by decide) (by decide)⟩)

section
variable {s : State} {ch seq : Nat} {req : Bytes} {set : RuleSet}

theorem jigProfileRead_reads (begun : Begun s ch seq 0x0404 req) (source : ruleSource s (byteAt req 1) = some set) (index : byteAt req 0 ≤ 15) :
    Completes (.jigProfileRead ch seq) s (fun t => Answered t ch seq rcOk (req ++ profileGet set (byteAt req 0)) ∧ AnswerFrame [] s t ch) := by
  refine completes_command begun (rfl : execJigProfileRead ch seq s = _) ?_
  dsimp only
  rw [source]
  dsimp only
  rw [if_neg (by omega)]
  exact ⟨answer_answered _ _ begun.unanswered, answer_frame _ _ _ _ _⟩

theorem jigStageLoad_loads (begun : Begun s ch seq 0x0405 req) (other : byteAt req 0 ≠ 4) (source : ruleSource s (byteAt req 0) = some set) :
    Completes (.jigStageLoad ch seq) s (fun t => Answered t ch seq rcOk [] ∧ t.jig = { s.jig with staging := set } ∧
      AnswerFrame [.jig] s t ch) := by
  refine completes_command begun (rfl : execJigStageLoad ch seq s = _) ?_
  dsimp only
  rw [if_neg other, source]
  exact ⟨answer_answered _ _ (begun.of_mbx ((stagingSet_keeps _ _).same .mbx)).unanswered, answer_jig _ _ _ _ _,
    answer_frame_quiet ch seq rcOk [] (stagingSet_keeps _ _).frame (by decide) (by decide)⟩

end

/-! Slots and mirroring. -/

theorem jigSlotQuery_answers : AnswersOk .jigSlotQuery 0x0411 (fun _ _ _ => True)
    (fun s _ _ => (List.range 4).flatMap (fun n => toLe 1 (slotCode (jigSlotGet s n).state) ++ toLe 1 0 ++ toLe 2 (jigSlotGet s n).version ++
      toLe 4 (jigSlotGet s n).inflight ++ toLe 4 (jigSlotGet s n).tag.toNat ++ toLe 4 (drainMs s (jigSlotGet s n))))
    (fun s t ch _ => AnswerFrame [] s t ch) :=
  answersOk_query (fun s ch seq => (rfl : execJigSlotQuery ch seq s = _)) (fun _ _ _ _ _ => rfl)

theorem jigMirrorSet_sets : AnswersOk .jigMirrorSet 0x0420 (fun _ _ req => byteAt req 0 ≤ 1)
    (fun s _ req => toLe 1 (byteAt req 0) ++ toLe 1 (b2n s.jig.partnerEn) ++ toLe 1 (b2n s.itw.linkUp) ++ toLe 1 (regField s r_JIG_STATUS 5 5))
    (fun s t ch req => t.jig = { s.jig with mirrorEn := decide (byteAt req 0 = 1) } ∧ AnswerFrame [.jig] s t ch) :=
  answersOk_set (row := fun s ch seq => (rfl : execJigMirrorSet ch seq s = _)) (fun s ch seq req small => by
    have flag : b2n (decide (byteAt req 0 = 1)) = byteAt req 0 := by
      rcases Nat.le_one_iff_eq_zero_or_eq_one.mp small with h | h <;> rw [h] <;> rfl
    have set : ChangesOnly [.jig] s { s with jig := { s.jig with mirrorEn := decide (byteAt req 0 = 1) } } := .of_patch rfl
    refine ⟨{ s with jig := { s.jig with mirrorEn := decide (byteAt req 0 = 1) } }, (if_neg (by omega)).trans ?_, rfl, answer_jig _ _ _ _ _,
      answer_frame_quiet ch seq rcOk _ set (by decide) (by decide)⟩
    dsimp only
    unfold mirrorStatus
    dsimp only
    rw [flag]
    rfl)

theorem jigMirrorStatus_answers : AnswersOk .jigMirrorStatus 0x0421 (fun _ _ _ => True)
    (fun s _ _ => toLe 1 (b2n s.jig.mirrorEn) ++ toLe 1 (b2n s.jig.partnerEn) ++ toLe 1 (b2n s.itw.linkUp) ++
      toLe 1 (regField s r_JIG_STATUS 5 5)) (fun s t ch _ => AnswerFrame [] s t ch) :=
  answersOk_query (fun s ch seq => (rfl : execJigMirrorStatus ch seq s = _)) (fun _ _ _ _ _ => rfl)

/-- Settles O37: the lookup is split by the open slice, the miss and the class policy; a range of rules is written record by record. -/
theorem jigClassifiesAndItsTablesAreSet : Obligations.JigClassifiesAndItsTablesAreSet := by
  unfold Obligations.JigClassifiesAndItsTablesAreSet
  exact ⟨⟨fun _ _ _ _ _ here stage slice_ class_ admitted stays policy => jigClassify_classifies here stage slice_ class_ admitted stays policy,
      fun _ _ _ here stage admitted drop alone _ => jigClassify_misses here stage admitted drop alone,
      fun _ _ _ here stage closed alone _ => jigClassify_closed here stage closed alone⟩,
    jigRuleWrite_writes, fun _ _ _ _ _ begun source range => jigRuleRead_reads begun source range, jigRuleClear_clears, jigProfileWrite_writes,
    fun _ _ _ _ _ begun source index => jigProfileRead_reads begun source index, fun _ _ _ _ _ begun other source => jigStageLoad_loads begun other source,
    jigSlotQuery_answers, jigMirrorSet_sets, jigMirrorStatus_answers⟩

end Sys2Proof.Machine
end

section
/-! PROOFS. Commits of Jig's rule sets, alone and mirrored (O38). -/

namespace Sys2Proof.Machine

open Sys2Proof

set_option Elab.async false

/-! The version slots. -/

theorem jigSlotGet_jigSlotSet_self (s : State) (n : Nat) (x : JigSlot) : jigSlotGet (jigSlotSet s n x) n = x := by
  unfold jigSlotGet jigSlotSet
  dsimp only
  split_ifs <;> rfl

theorem jigSlotGet_jigSlotSet_ne (s : State) {n m : Nat} (x : JigSlot) (slot : n < 4) (small : m < 4) (other : m ≠ n) :
    jigSlotGet (jigSlotSet s n x) m = jigSlotGet s m := by
  unfold jigSlotGet jigSlotSet
  dsimp only
  split_ifs <;> grind

theorem jigSlotSet_commit (s : State) (n : Nat) (x : JigSlot) :
    (jigSlotSet s n x).jig.commit = s.jig.commit ∧ (jigSlotSet s n x).jig.staging = s.jig.staging := by
  unfold jigSlotSet
  dsimp only
  split_ifs <;> exact ⟨rfl, rfl⟩

theorem jigSlotGet_answer (s : State) (ch seq code : Nat) (body : Bytes) (n : Nat) :
    jigSlotGet (answer s ch seq code body) n = jigSlotGet s n := jigSlotGet_congr _ _ (answer_jig _ _ _ _ _) n

/-- The slots are all that a commit's response reads. -/
theorem commitResponse_congr {s t : State} (slots : ∀ n, jigSlotGet t n = jigSlotGet s n) (mirror : Nat) (digest : Word)
    (kind side index rules nodes refs : Nat) :
    commitResponse t mirror digest kind side index rules nodes refs = commitResponse s mirror digest kind side index rules nodes refs := by
  have current : currentSlot t = currentSlot s := by unfold currentSlot; simp only [slots]
  unfold commitResponse
  simp only [current, slots]

theorem Unanswered.same {s t : State} {ch seq : Nat} (waits : Unanswered s ch seq) (mbx : t.mbx = s.mbx) : Unanswered t ch seq := by
  unfold Unanswered
  rw [chanGet_congr mbx]
  exact waits

theorem currentSlot_small (s : State) : currentSlot s < 4 := by
  unfold currentSlot
  cases found : (List.range 4).find? (fun n => (jigSlotGet s n).state = .current) with
  | none => decide
  | some n => exact List.mem_range.mp (List.mem_of_find?_eq_some found)

/-! The ends of a commit. -/

section
variable {s : State} {c : JigCommit}

/-- A commit that ended well is gone and its command is answered. -/
theorem commitOk_ends (s : State) (c : JigCommit) (mirror : Nat) : (commitOk s c mirror).jig = { s.jig with commit := none } ∧
    (Unanswered s c.chan c.seq → Answered (commitOk s c mirror) c.chan c.seq rcOk
      (commitResponse (commitOk s c mirror) mirror c.digest 0 0 0 c.rules c.nodes c.leafRefs)) := by
  refine ⟨answer_jig _ _ _ _ _, fun waits => ?_⟩
  have ended : Unanswered { s with jig := { s.jig with commit := none } } c.chan c.seq := waits.same rfl
  rw [commitResponse_congr (s := s) (t := commitOk s c mirror) (fun n => jigSlotGet_answer _ _ _ _ _ n)]
  exact answer_answered _ _ ended

/-- A commit that failed is gone and its slot is free. -/
theorem commitFails_frees (s : State) (c : JigCommit) (code kind side index : Nat) :
    (commitFails s c code kind side index).jig.commit = none ∧
    (jigSlotGet (commitFails s c code kind side index) c.slot).state = .free ∧
    (commitFails s c code kind side index).jig.staging = s.jig.staging := by
  have released : (commitFails s c code kind side index).jig = (slotRelease { s with jig := { s.jig with commit := none } } c.slot).jig := by
    unfold commitFails
    dsimp only
    split
    · exact (itwSend_keeps _ _ _).same .jig
    · exact answer_jig _ _ _ _ _
  obtain ⟨commit, staging⟩ := jigSlotSet_commit { s with jig := { s.jig with commit := none } } c.slot {}
  refine ⟨(congrArg Jig.commit released).trans commit, ?_, (congrArg Jig.staging released).trans staging⟩
  rw [jigSlotGet_congr _ _ released, slotRelease, jigSlotGet_jigSlotSet_self]

/-- The failure of a mirrored commit is answered to its command. -/
theorem commitFails_answered {code kind side index : Nat} (mirrored : c.mirrored = true) (own : c.partner = false)
    (waits : Unanswered s c.chan c.seq) : Answered (commitFails s c code kind side index) c.chan c.seq code
      (commitResponse (commitFails s c code kind side index) 2 (tableDigest s.jig.staging) kind side index 0 0 0) := by
  obtain ⟨u, hu⟩ : ∃ u, u = slotRelease { s with jig := { s.jig with commit := none } } c.slot := ⟨_, rfl⟩
  have staging : u.jig.staging = s.jig.staging := by
    rw [hu]
    exact (jigSlotSet_commit _ _ _).2
  have waits' : Unanswered u c.chan c.seq := waits.same (by rw [hu]; exact (jigSlotSet_keeps _ _ _).same .mbx)
  have fails : commitFails s c code kind side index =
      answer u c.chan c.seq code (commitResponse u 2 (tableDigest s.jig.staging) kind side index 0 0 0) := by
    unfold commitFails
    dsimp only
    rw [own, if_neg Bool.false_ne_true, ← hu, mirrored, if_pos rfl, staging]
  rw [fails, commitResponse_congr (s := u) (fun n => jigSlotGet_answer _ _ _ _ _ n)]
  exact answer_answered _ _ waits'

end

/-! A commit on this adapter (R137, R138, R141, R144). -/

/-- The commit that JIG_COMMIT begins in slot `n`. -/
def commitOf (s : State) (ch seq : Nat) (req : Bytes) (n : Nat) : JigCommit :=
  { phase := .compiling, slot := n, version := ((jigSlotGet s (currentSlot s)).version + 1) % 65536, tag := BitVec.ofNat 32 (le req 0 4),
    digest := tableDigest s.jig.staging, chan := ch, seq := seq, mirrored := mirrorInForce s && !bitAt (le req 4 4) 0,
    mirror := unmirroredState s (bitAt (le req 4 4) 0), partner := false, partnerReady := false, acked := false, rules := 0, nodes := 0,
    leafRefs := 0 }

/-- What a mirrored commit of `s` sends to the partner (R148). -/
def commitSent (s : State) (req : Bytes) (u : State) : State :=
  if (mirrorInForce s && !bitAt (le req 4 4) 0) = true then
    itwSendAll (itwSend u 0x10 (toLe 2 (((jigSlotGet s (currentSlot s)).version + 1) % 65536) ++ toLe 4 (tableDigest s.jig.staging).toNat)) 0x11
      (tableMessages s.jig.staging)
  else u

theorem jigCommit_compiles : RunsLater .jigCommit 0x0410 (fun s _ req => le req 4 4 ≤ 1 ∧ s.jig.commit = none ∧ (freeSlot s).isSome = true ∧
      tableFault s.jig.staging = none)
    (fun s t ch seq req => ∃ n c, freeSlot s = some n ∧ t.jig.commit = some c ∧ c.phase = .compiling ∧ c.slot = n ∧ c.chan = ch ∧ c.seq = seq ∧
      c.tag = BitVec.ofNat 32 (le req 0 4) ∧ c.version = ((jigSlotGet s (currentSlot s)).version + 1) % 65536 ∧
      c.mirrored = (mirrorInForce s && !bitAt (le req 4 4) 0) ∧ (jigSlotGet t n).state = .compiling ∧ (jigSlotGet t n).set = s.jig.staging) := by
  intro s ch seq req begun ⟨flags, idle, free, sound⟩
  obtain ⟨n, free⟩ := Option.isSome_iff_exists.mp free
  refine completes_command begun (rfl : execJigCommit ch seq s = _) ?_
  dsimp only
  rw [if_neg (by omega), if_neg (by rw [idle]; decide), free]
  dsimp only
  rw [sound]
  dsimp only
  obtain ⟨u, hu⟩ : ∃ u, u = beginCompile s n s.jig.staging (commitOf s ch seq req n) := ⟨_, rfl⟩
  have slot : (jigSlotGet u n).state = .compiling ∧ (jigSlotGet u n).set = s.jig.staging := by
    rw [hu, beginCompile, jigSlotGet_jigSlotSet_self]
    exact ⟨rfl, rfl⟩
  have commit : u.jig.commit = some (commitOf s ch seq req n) := by rw [hu]; exact (jigSlotSet_commit _ _ _).1
  have mbx : u.mbx = s.mbx := by rw [hu]; exact (jigSlotSet_keeps _ _ _).same .mbx
  have kept : Keeps [.itw, .gauge, .regs, .out] u (commitSent s req u) := .ite (.last (itwSendAll_keeps _ _ _) (itwSend_keeps _ _ _)) .refl
  suffices goal : RunsOn (defer (commitSent s req u) ch seq) ch seq 0x0410 ∧
      (defer (commitSent s req u) ch seq).jig.commit = some (commitOf s ch seq req n) ∧
      (jigSlotGet (defer (commitSent s req u) ch seq) n).state = .compiling ∧
      (jigSlotGet (defer (commitSent s req u) ch seq) n).set = s.jig.staging by
    rw [hu] at goal
    obtain ⟨runs, now, state, set⟩ := goal
    exact ⟨runs, n, _, rfl, now, rfl, rfl, rfl, rfl, rfl, rfl, rfl, state, set⟩
  refine ⟨defer_runs (begun.of_mbx ((kept.same .mbx).trans mbx)), ?_⟩
  rw [jigSlotGet_congr u _ ((defer_jig _ _ _).trans (kept.same .jig)), defer_jig, kept.same .jig]
  exact ⟨commit, slot⟩

section
variable {s : State} {c : JigCommit}

theorem jigCompileDone_fails (commit : s.jig.commit = some c) (phase : c.phase = .compiling)
    (fault : limitFault (compiledRules (jigSlotGet s c.slot).set) ≠ 0) : exec (.jigCompileDone false false) s =
      .next (commitFails s c rcNoResource (limitFault (compiledRules (jigSlotGet s c.slot).set)) 0 0) := by
  show execJigCompileDone false false s = _
  unfold execJigCompileDone
  rw [commit]
  dsimp only
  rw [if_pos phase, if_pos fault]

/-- The phase after a compilation that passed (R144, R148). -/
def loadedPhase (c : JigCommit) : CommitPhase :=
  if c.partner then .waitGo else if c.mirrored && !c.partnerReady then .waitReady else .waitSwitch

/-- The commit with what its compilation counted. -/
def loaded (s : State) (c : JigCommit) : JigCommit :=
  { c with
      rules := (compiledRules (jigSlotGet s c.slot).set).length
      nodes := Config.jigNodes (compiledRules (jigSlotGet s c.slot).set)
      leafRefs := Config.jigLeafRefs (compiledRules (jigSlotGet s c.slot).set)
      phase := loadedPhase c }

theorem jigCompileDone_loads (commit : s.jig.commit = some c) (phase : c.phase = .compiling)
    (sound : limitFault (compiledRules (jigSlotGet s c.slot).set) = 0) :
    Completes (.jigCompileDone false false) s (fun t => t.jig.commit = some (loaded s c)) := by
  have row : exec (.jigCompileDone false false) s = (if c.partner = true then
        .next { itwSend s 0x12 (toLe 2 rcOk) with jig := { (itwSend s 0x12 (toLe 2 rcOk)).jig with
          commit := some { loaded s c with phase := .waitGo } } }
      else if c.mirrored = true then
        if c.partnerReady = true then
          .next { itwSend s 0x13 [] with jig := { (itwSend s 0x13 []).jig with commit := some { loaded s c with phase := .waitSwitch } } }
        else .next { s with jig := { s.jig with commit := some { loaded s c with phase := .waitReady } } }
      else .next { s with jig := { s.jig with commit := some { loaded s c with phase := .waitSwitch } } }) := by
    show execJigCompileDone false false s = _
    unfold execJigCompileDone
    rw [commit]
    dsimp only
    rw [if_pos phase, if_neg (not_not.mpr sound)]
    rfl
  have ends : ∀ ph, loadedPhase c = ph → ({ loaded s c with phase := ph } : JigCommit) = loaded s c := fun ph same => by rw [← same]; rfl
  by_cases partner : c.partner = true
  · refine completes_of (row.trans (if_pos partner)) ?_
    exact congrArg some (ends _ (by rw [loadedPhase, if_pos partner]))
  rw [if_neg partner] at row
  by_cases mirrored : c.mirrored = true
  · rw [if_pos mirrored] at row
    by_cases ready : c.partnerReady = true
    · refine completes_of (row.trans (if_pos ready)) ?_
      exact congrArg some (ends _ (by rw [loadedPhase, if_neg partner, mirrored, ready]; rfl))
    · refine completes_of (row.trans (if_neg ready)) ?_
      exact congrArg some (ends _ (by rw [loadedPhase, if_neg partner, mirrored, Bool.eq_false_of_not_eq_true ready]; rfl))
  · refine completes_of (row.trans (if_neg mirrored)) ?_
    exact congrArg some (ends _ (by rw [loadedPhase, if_neg partner, Bool.eq_false_of_not_eq_true mirrored]; rfl))

theorem jigCompileDone_ends (commit : s.jig.commit = some c) (phase : c.phase = .compiling) :
    Completes (.jigCompileDone false false) s (fun t =>
    (limitFault (compiledRules (jigSlotGet s c.slot).set) ≠ 0 → t.jig.commit = none ∧ (jigSlotGet t c.slot).state = .free) ∧
    (limitFault (compiledRules (jigSlotGet s c.slot).set) = 0 → ∃ c', t.jig.commit = some c' ∧ c'.slot = c.slot ∧
      c'.rules = (compiledRules (jigSlotGet s c.slot).set).length ∧
      c'.phase = (if c.partner then .waitGo else if c.mirrored && !c.partnerReady then .waitReady else .waitSwitch))) := by
  by_cases sound : limitFault (compiledRules (jigSlotGet s c.slot).set) = 0
  · obtain ⟨t, ran, ends⟩ := jigCompileDone_loads commit phase sound
    exact ⟨t, ran, fun fault => absurd sound fault, fun _ => ⟨loaded s c, ends, rfl, rfl, rfl⟩⟩
  · obtain ⟨gone, free, -⟩ := commitFails_frees s c rcNoResource (limitFault (compiledRules (jigSlotGet s c.slot).set)) 0 0
    exact completes_of (jigCompileDone_fails commit phase sound) ⟨fun _ => ⟨gone, free⟩, fun zero => absurd zero sound⟩

/-! The switch and the drain. -/

theorem versionSwitch_switches (small : c.slot < 4) (apart : currentSlot s ≠ c.slot) :
    (jigSlotGet (versionSwitch s c) c.slot).state = .current ∧ (jigSlotGet (versionSwitch s c) (currentSlot s)).state = .draining ∧
    (versionSwitch s c).jig.commit = s.jig.commit ∧ (versionSwitch s c).jig.staging = s.jig.staging := by
  unfold versionSwitch jigSlotMod
  refine ⟨?_, ?_, (jigSlotSet_commit _ _ _).1.trans (jigSlotSet_commit _ _ _).1, (jigSlotSet_commit _ _ _).2.trans (jigSlotSet_commit _ _ _).2⟩
  · rw [jigSlotGet_jigSlotSet_self]
  · rw [jigSlotGet_jigSlotSet_ne _ _ small (currentSlot_small s) apart, jigSlotGet_jigSlotSet_self]

theorem jigVersionSwitch_switches (commit : s.jig.commit = some c) (phase : c.phase = .waitSwitch) (small : c.slot < 4)
    (apart : currentSlot s ≠ c.slot) : Completes .jigVersionSwitch s (fun t =>
    (jigSlotGet t c.slot).state = .current ∧ (jigSlotGet t (currentSlot s)).state = .draining ∧
    (c.partner = true → t.jig.commit = none ∧ t.jig.staging = (jigSlotGet s c.slot).set) ∧
    (c.partner = false → c.mirrored = true → c.acked = false → t.jig.commit = some { c with phase := .waitAck }) ∧
    (c.partner = false → c.mirrored = false → t.jig.commit = none ∧ (Unanswered s c.chan c.seq →
      Answered t c.chan c.seq rcOk (commitResponse t c.mirror c.digest 0 0 0 c.rules c.nodes c.leafRefs)))) := by
  obtain ⟨current, draining, -, -⟩ := versionSwitch_switches small apart
  have row : exec .jigVersionSwitch s = (if c.partner = true then
        .next (itwSend { versionSwitch s c with jig := { (versionSwitch s c).jig with commit := none, staging := (jigSlotGet s c.slot).set } } 0x14 [])
      else if c.mirrored = true then
        if c.acked = true then .next (commitOk (versionSwitch s c) c 1)
        else .next { versionSwitch s c with jig := { (versionSwitch s c).jig with commit := some { c with phase := .waitAck } } }
      else .next (commitOk (versionSwitch s c) c c.mirror)) := by
    show execJigVersionSwitch s = _
    unfold execJigVersionSwitch
    rw [commit]
    dsimp only
    rw [if_pos phase]
  have slots : ∀ mirror n, jigSlotGet (commitOk (versionSwitch s c) c mirror) n = jigSlotGet (versionSwitch s c) n :=
    fun mirror n => jigSlotGet_answer _ _ _ _ _ n
  by_cases partner : c.partner = true
  · rw [if_pos partner] at row
    refine completes_of row ?_
    rw [jigSlotGet_congr _ _ ((itwSend_keeps _ _ _).same .jig), jigSlotGet_congr _ _ ((itwSend_keeps _ _ _).same .jig),
      (itwSend_keeps _ _ _).same .jig]
    exact ⟨current, draining, fun _ => ⟨rfl, rfl⟩, fun no => absurd partner (ne_true_of_eq_false no),
      fun no => absurd partner (ne_true_of_eq_false no)⟩
  rw [if_neg partner] at row
  by_cases mirrored : c.mirrored = true
  · rw [if_pos mirrored] at row
    by_cases acked : c.acked = true
    · exact completes_of (row.trans (if_pos acked)) ⟨by rw [slots]; exact current, by rw [slots]; exact draining, fun h => absurd h partner,
        fun _ _ no => absurd acked (ne_true_of_eq_false no), fun _ no => absurd mirrored (ne_true_of_eq_false no)⟩
    · exact completes_of (row.trans (if_neg acked)) ⟨current, draining, fun h => absurd h partner, fun _ _ _ => rfl,
        fun _ no => absurd mirrored (ne_true_of_eq_false no)⟩
  · rw [if_neg mirrored] at row
    obtain ⟨ended, answers⟩ := commitOk_ends (versionSwitch s c) c c.mirror
    exact completes_of row ⟨by rw [slots]; exact current, by rw [slots]; exact draining, fun h => absurd h partner,
      fun _ h => absurd h mirrored,
      fun _ _ => ⟨congrArg Jig.commit ended, fun waits => answers (waits.same ((versionSwitch_keeps s c).same .mbx))⟩⟩

theorem jigSlotFree_frees {n : Nat} (small : n < 4) (state : (jigSlotGet s n).state = .draining) (empty : (jigSlotGet s n).inflight = 0) :
    Completes (.jigSlotFree n) s (fun t =>
      jigSlotGet t n = {} ∧ (∀ m < 4, m ≠ n → jigSlotGet t m = jigSlotGet s m) ∧ ChangesOnly [.jig] s t) :=
  completes_of (if_pos ⟨small, state, empty⟩) ⟨jigSlotGet_jigSlotSet_self _ _ _,
    fun _ small' other => jigSlotGet_jigSlotSet_ne _ _ small small' other, (jigSlotSet_keeps _ _ _).frame⟩

theorem jigDrainSlow_tells {n : Nat} (small : n < 4) (state : (jigSlotGet s n).state = .draining) (busy : 0 < (jigSlotGet s n).inflight)
    (unsent : (jigSlotGet s n).slowSent = false) :
    exec (.jigDrainSlow n) s = .next (eventToManager (jigSlotSet s n { jigSlotGet s n with slowSent := true }) 0x8400
      (toLe 1 n ++ toLe 1 0 ++ toLe 2 (jigSlotGet s n).version ++ toLe 4 (jigSlotGet s n).inflight ++ toLe 4 (drainMs s (jigSlotGet s n)))) :=
  if_pos ⟨small, state, busy, ne_true_of_eq_false unsent⟩

/-! The partner's preparation (R147, R148). -/

theorem jigPrepare_row (v : Nat) (d : Word) (idle : s.jig.commit = none) : exec (.jigPrepare v d) s = .next (takePrepare s v d) := by
  show Host.Outcome.next (onPrepare s v d) = _
  rw [onPrepare, idle]

theorem prepareCheck_idle (idle : s.jig.commit = none) (unprepared : s.jig.prepare = none) :
    prepareCheck s = if (freeSlot s).isSome then rcOk else rcBusyVersion := by
  rw [prepareCheck, idle, unprepared]
  cases freeSlot s <;> rfl

theorem jigPrepare_prepares (v : Nat) (d : Word) (idle : s.jig.commit = none) (unprepared : s.jig.prepare = none)
    (free : (freeSlot s).isSome = true) :
    exec (.jigPrepare v d) s = .next { s with jig := { s.jig with prepare := some (v, d), incoming := [] } } := by
  rw [jigPrepare_row v d idle, takePrepare, prepareCheck_idle idle unprepared, if_pos free, if_pos rfl]

theorem jigPrepare_refuses (v : Nat) (d : Word) (idle : s.jig.commit = none) (unprepared : s.jig.prepare = none) (full : freeSlot s = none) :
    exec (.jigPrepare v d) s = .next (itwSend s 0x12 (toLe 2 rcBusyVersion)) := by
  rw [jigPrepare_row v d idle, takePrepare, prepareCheck_idle idle unprepared, full]
  rfl

theorem jigData_gathers {data : Bytes} {x : Nat × Word} (prepared : s.jig.prepare = some x)
    (short : s.jig.incoming.length + data.length < tableSize) :
    exec (.jigData data) s = .next { s with jig := { s.jig with incoming := s.jig.incoming ++ data } } := by
  obtain ⟨v, d⟩ := x
  show Host.Outcome.next (onJigData s data) = _
  rw [onJigData, prepared]
  dsimp only
  rw [if_neg (by rw [List.length_append]; omega)]

/-! READY, ACK and the timeouts at the originator (R148, R149, R151). -/

/-- READY or a code at a mirrored commit of this side that has not switched. -/
theorem onJigReady_row (code : Nat) (commit : s.jig.commit = some c) (mirrored : c.mirrored = true) (own : c.partner = false)
    (phase : c.phase = .compiling ∨ c.phase = .waitReady) : exec (.jigReady code) s = .next (
      if code ≠ rcOk then commitFails s c code 0 1 0
      else if c.phase = .waitReady then
        { itwSend s 0x13 [] with jig := { s.jig with commit := some { c with partnerReady := true, phase := .waitSwitch } } }
      else { s with jig := { s.jig with commit := some { c with partnerReady := true } } }) := by
  show Host.Outcome.next (onJigReady s code) = _
  rw [onJigReady, commit]
  dsimp only
  rw [if_pos ⟨mirrored, ne_true_of_eq_false own, phase⟩]

theorem jigReady_fails {code : Nat} (commit : s.jig.commit = some c) (mirrored : c.mirrored = true) (own : c.partner = false)
    (phase : c.phase = .compiling ∨ c.phase = .waitReady) (bad : code ≠ 0) : Completes (.jigReady code) s (fun t => t.jig.commit = none ∧
      (jigSlotGet t c.slot).state = .free ∧ t.jig.staging = s.jig.staging ∧
      (Unanswered s c.chan c.seq → Answered t c.chan c.seq code (commitResponse t 2 (tableDigest s.jig.staging) 0 1 0 0 0 0))) := by
  obtain ⟨gone, free, staging⟩ := commitFails_frees s c code 0 1 0
  refine completes_of ((onJigReady_row code commit mirrored own phase).trans (congrArg _ (if_pos bad))) ⟨gone, free, staging, fun waits => ?_⟩
  exact commitFails_answered mirrored own waits

theorem jigAck_ends (commit : s.jig.commit = some c) (mirrored : c.mirrored = true) (own : c.partner = false) (phase : c.phase = .waitAck) :
    Completes .jigAck s (fun t => t.jig = { s.jig with commit := none } ∧ (Unanswered s c.chan c.seq →
      Answered t c.chan c.seq rcOk (commitResponse t 1 c.digest 0 0 0 c.rules c.nodes c.leafRefs))) := by
  refine completes_of (t := commitOk s c 1) ?_ (commitOk_ends s c 1)
  show Host.Outcome.next (onJigAck s) = _
  rw [onJigAck, commit]
  dsimp only
  rw [if_pos ⟨mirrored, ne_true_of_eq_false own⟩, if_pos phase]

theorem jigAck_early (commit : s.jig.commit = some c) (mirrored : c.mirrored = true) (own : c.partner = false) (phase : c.phase = .waitSwitch) :
    exec .jigAck s = .next { s with jig := { s.jig with commit := some { c with acked := true } } } := by
  show Host.Outcome.next (onJigAck s) = _
  rw [onJigAck, commit]
  dsimp only
  rw [if_pos ⟨mirrored, ne_true_of_eq_false own⟩, if_neg (by rw [phase]; decide), if_pos phase]

theorem mirrorReadyTimeout_fails (commit : s.jig.commit = some c) (mirrored : c.mirrored = true) (own : c.partner = false)
    (phase : c.phase = .compiling ∨ c.phase = .waitReady) (unready : c.partnerReady = false) : Completes .mirrorReadyTimeout s (fun t =>
      t.jig.commit = none ∧ (jigSlotGet t c.slot).state = .free ∧ t.fresh = s.fresh + 1) := by
  obtain ⟨gone, free, -⟩ := commitFails_frees (drawn s) c (noReadyCode s) 0 1 0
  refine completes_of (t := commitFails (drawn s) c (noReadyCode s) 0 1 0) ?_ ⟨gone, free, (commitFails_keeps _ _ _ _ _ _).same .fresh⟩
  show Host.Outcome.next (mirrorNoReady s) = _
  rw [mirrorNoReady, commit]
  dsimp only
  rw [if_pos ⟨mirrored, ne_true_of_eq_false own, phase, ne_true_of_eq_false unready⟩]

theorem mirrorAckTimeout_ends (commit : s.jig.commit = some c) (phase : c.phase = .waitAck) : Completes .mirrorAckTimeout s (fun t =>
    t.jig = { s.jig with commit := none } ∧ (Unanswered s c.chan c.seq →
      Answered t c.chan c.seq rcOk (commitResponse t 2 c.digest 0 0 0 c.rules c.nodes c.leafRefs))) := by
  refine completes_of (t := commitOk s c 2) ?_ (commitOk_ends s c 2)
  show execMirrorAckTimeout s = _
  rw [execMirrorAckTimeout, commit]
  exact if_pos phase

/-- READY, ACK and the missing READY at the originator, in each phase. -/
theorem originator_moves (commit : s.jig.commit = some c) (mirrored : c.mirrored = true) (own : c.partner = false) :
    (c.phase = .compiling → exec (.jigReady 0) s = .next { s with jig := { s.jig with commit := some { c with partnerReady := true } } }) ∧
    (c.phase = .waitReady → Completes (.jigReady 0) s (fun t =>
      t.jig = { s.jig with commit := some { c with partnerReady := true, phase := .waitSwitch } })) ∧
    (c.phase = .compiling ∨ c.phase = .waitReady → ∀ code, code ≠ 0 → Completes (.jigReady code) s (fun t => t.jig.commit = none ∧
      (jigSlotGet t c.slot).state = .free ∧ t.jig.staging = s.jig.staging ∧
      (Unanswered s c.chan c.seq → Answered t c.chan c.seq code (commitResponse t 2 (tableDigest s.jig.staging) 0 1 0 0 0 0)))) ∧
    (c.phase = .waitAck → Completes .jigAck s (fun t => t.jig = { s.jig with commit := none } ∧ (Unanswered s c.chan c.seq →
      Answered t c.chan c.seq rcOk (commitResponse t 1 c.digest 0 0 0 c.rules c.nodes c.leafRefs)))) ∧
    (c.phase = .waitSwitch → exec .jigAck s = .next { s with jig := { s.jig with commit := some { c with acked := true } } }) ∧
    ((c.phase = .compiling ∨ c.phase = .waitReady) → c.partnerReady = false → Completes .mirrorReadyTimeout s (fun t =>
      t.jig.commit = none ∧ (jigSlotGet t c.slot).state = .free ∧ t.fresh = s.fresh + 1)) := by
  refine ⟨fun phase => ?_, fun phase => ?_, fun phase _ bad => jigReady_fails commit mirrored own phase bad, jigAck_ends commit mirrored own,
    jigAck_early commit mirrored own, mirrorReadyTimeout_fails commit mirrored own⟩
  · exact (onJigReady_row 0 commit mirrored own (.inl phase)).trans
      (congrArg _ ((if_neg (not_not.mpr rfl)).trans (if_neg (by rw [phase]; decide))))
  · exact completes_of ((onJigReady_row 0 commit mirrored own (.inr phase)).trans
      (congrArg _ ((if_neg (not_not.mpr rfl)).trans (if_pos phase)))) rfl

/-- GO and its absence at the partner (R148, R151). -/
theorem partner_moves (commit : s.jig.commit = some c) (partner : c.partner = true) (phase : c.phase = .waitGo) :
    exec .jigGo s = .next { s with jig := { s.jig with commit := some { c with phase := .waitSwitch } } } ∧
    exec .mirrorGoTimeout s = .next (jigSlotSet { s with jig := { s.jig with commit := none } } c.slot {}) := by
  constructor
  · show Host.Outcome.next (onJigGo s) = _
    rw [onJigGo, commit]
    dsimp only
    rw [if_pos ⟨partner, phase⟩]
  · show execMirrorGoTimeout s = _
    rw [execMirrorGoTimeout, commit]
    exact if_pos ⟨partner, phase⟩

end

/-- Settles O38: a commit ends in `commitOk` or `commitFails`; a switch writes two slots that differ. -/
theorem jigCommitsSwitchAloneAndMirrored : Obligations.JigCommitsSwitchAloneAndMirrored := by
  unfold Obligations.JigCommitsSwitchAloneAndMirrored
  exact ⟨⟨jigCommit_compiles, fun _ _ commit phase => jigCompileDone_ends commit phase,
      fun _ _ commit phase small apart => jigVersionSwitch_switches commit phase small apart,
      fun _ _ small state empty => jigSlotFree_frees small state empty, fun _ _ small state busy unsent => jigDrainSlow_tells small state busy unsent⟩,
    fun _ v d idle unprepared free => jigPrepare_prepares v d idle unprepared free,
    fun _ v d idle unprepared full => jigPrepare_refuses v d idle unprepared full, fun _ _ _ prepared short => jigData_gathers prepared short,
    fun _ _ commit mirrored own => originator_moves commit mirrored own, fun _ _ commit partner phase => partner_moves commit partner phase,
    fun _ _ commit phase => mirrorAckTimeout_ends commit phase⟩

end Sys2Proof.Machine
end

section
/-! PROOFS. The action unit: operations that set a register, moves through records and branches (O39, O40). -/

namespace Sys2Proof.Machine

open Sys2Proof

set_option Elab.async false

/-! An operation of a pass (R198). -/

section
variable {s : State} {p opc : Nat} {k : Pkt} {o : Bytes}

/-- The pass with the operation counted. -/
def opRun (k : Pkt) : Pkt := { k with pass := { k.pass with opsRun := k.pass.opsRun + 1 } }

/-- The operation that is due runs on the pass with its count. -/
theorem runOp_row (f : State → Pkt → Bytes → State) (due : OpDue s p opc k o) : runOp s p opc f = .next (f s (opRun k) o) := by
  obtain ⟨here, stage, code, name, few⟩ := due
  unfold runOp
  rw [here]
  dsimp only
  rw [← code, if_pos ⟨stage, name⟩, if_neg (by omega)]
  rfl

theorem pktSet_becomes (s : State) (p : Nat) (k : Pkt) : PktBecomes [] s (pktSet s p k) p k :=
  ⟨pktGet_pktSet_self _ _ _, fun _ other => pktGet_pktSet_ne _ _ other, (pktSet_keeps _ _ _).frame⟩

theorem actNext_goes (s : State) (p : Nat) (k : Pkt) (next : HasNext k) :
    actNext s p k = pktSet s p { k with pass := { k.pass with op := k.pass.op + 1 } } := if_pos next

theorem actNext_ends (s : State) (p : Nat) (k : Pkt) (last : ¬ HasNext k) :
    actNext s p k = actDrop (bump s (r_CST_ACT_CNT_NO_VERDICT k.hdr.pipeline)) p k 0 := if_neg last

/-- A pass that is dropped is gone, and the counter of its end counts once. -/
theorem actDrop_counts (s : State) {p a : Nat} {k : Pkt} (opc : Nat) (alone : k.mirrors = []) (untraced : a ≠ r_GAU_TRACE_STATUS) :
    pktGet (actDrop (bump s a) p k opc) p = none ∧ Counted s (actDrop (bump s a) p k opc) a 1 := by
  obtain ⟨u, hu⟩ : ∃ u, u = pktSet (bump s a) p k := ⟨_, rfl⟩
  have set : counter u a = counter (bump s a) a := by rw [hu]; exact counter_congr ((pktSet_keeps _ _ _).same .regs) _
  have there : pktGet (tracePass u k opc) p = some k := by
    rw [pktGet_congr ((tracePass_keeps _ _ _).same .pkts), hu, pktGet_pktSet_self]
  unfold actDrop
  rw [← hu]
  refine ⟨passDrop_gone there alone, ?_⟩
  unfold Counted
  rw [counter_congr ((passDrop_keeps _ _).same .regs), show counter (tracePass u k opc) a = counter u a from
    (trace_regKept _ _ _ _ _ _ _ untraced).counter, set, counter_bump_self]

theorem noVerdict_untraced {pl : Nat} (small : pl < 4) : r_CST_ACT_CNT_NO_VERDICT pl ≠ r_GAU_TRACE_STATUS := by
  unfold r_CST_ACT_CNT_NO_VERDICT r_GAU_TRACE_STATUS
  omega

end

/-! Operations that set a register (R196, R197). -/

section
variable {c : Nat → Instr} {opc : Nat} {f : Pkt → Bytes → Dword}

/-- A register operation whose value does not read the count of operations. -/
theorem runAlu_sets (row : ∀ p s, exec (c p) s = runAlu s p opc f) (unread : ∀ k o, f (opRun k) o = f k o) : ∀ s p k o, OpDue s p opc k o →
    (HasNext k → Completes (c p) s (fun t => PktBecomes [] s t p (opNext (setG k (opA o) (f k o))))) ∧
    (¬ HasNext k → k.mirrors = [] → k.hdr.pipeline < 4 → Completes (c p) s (fun t => pktGet t p = none ∧
      Counted s t (r_CST_ACT_CNT_NO_VERDICT k.hdr.pipeline) 1)) := by
  intro s p k o due
  have runs : exec (c p) s = .next (actNext s p (setG (opRun k) (opA o) (f k o))) := by
    rw [row, runAlu, runOp_row _ due, unread]
  refine ⟨fun next => completes_of runs ?_, fun last alone small => completes_of runs ?_⟩
  · rw [actNext_goes _ _ (setG (opRun k) (opA o) (f k o)) next]
    exact pktSet_becomes _ _ _
  · rw [actNext_ends _ _ (setG (opRun k) (opA o) (f k o)) last]
    exact actDrop_counts s 0 alone (noVerdict_untraced small)

end

/-- Settles O39: each operation follows from `runAlu_sets`. -/
theorem registerOperationsSetA : Obligations.RegisterOperationsSetA := by
  unfold Obligations.RegisterOperationsSetA
  simp only [List.forall_mem_cons]
  exact ⟨runAlu_sets (fun _ _ => rfl) fun _ _ => rfl, runAlu_sets (fun _ _ => rfl) fun _ _ => rfl,
    runAlu_sets (fun _ _ => rfl) fun _ _ => rfl, runAlu_sets (fun _ _ => rfl) fun _ _ => rfl,
    runAlu_sets (fun _ _ => rfl) fun _ _ => rfl, runAlu_sets (fun _ _ => rfl) fun _ _ => rfl,
    runAlu_sets (fun _ _ => rfl) fun _ _ => rfl, runAlu_sets (fun _ _ => rfl) fun _ _ => rfl,
    runAlu_sets (fun _ _ => rfl) fun _ _ => rfl, runAlu_sets (fun _ _ => rfl) fun _ _ => rfl,
    runAlu_sets (fun _ _ => rfl) fun _ _ => rfl, runAlu_sets (fun _ _ => rfl) fun _ _ => rfl, fun _ h => (nomatch h)⟩

/-! Exceptions of a pass (R215). -/

section
variable {s : State} {p : Nat} {k : Pkt}

theorem freeEntry_congr {s t : State} (csc : t.csc = s.csc) (slices : t.slices = s.slices) (q n : Nat) : freeEntry t q n = freeEntry s q n := by
  unfold freeEntry clusterGet resThreadsOf openShare resTotal sliceGet
  rw [csc, slices]

/-- An exception with a free entry is held by its cluster as a work item, and no register changes. -/
theorem exception_held (s : State) (p : Nat) (k : Pkt) (q : Nat) (kind : ItemKind) (reason opIndex : Nat)
    (free : (freeEntry s q k.hdr.slice).isSome = true) :
    (∃ k' h, pktGet (exception s p k q kind reason opIndex) p = some k' ∧ k'.stage = .cascade ∧ k'.frame = k.frame ∧ k'.item = some (q, h)) ∧
    (exception s p k q kind reason opIndex).regs = s.regs := by
  obtain ⟨reserved, free⟩ := Option.isSome_iff_exists.mp free
  unfold exception queueItem
  rw [free]
  exact ⟨⟨_, _, pktGet_pktSet_self _ _ _, rfl, rfl, rfl⟩, rfl⟩

/-- An exception of the action unit counts once under its kind. -/
theorem actException_held {a : Nat} (s : State) (p : Nat) (k : Pkt) (kind : ItemKind) (untraced : a ≠ r_GAU_TRACE_STATUS)
    (free : (freeEntry s (exceptionCluster k) k.hdr.slice).isSome = true) :
    (∃ k' h, pktGet (actException s p k kind a) p = some k' ∧ k'.stage = .cascade ∧ k'.frame = k.frame ∧
      k'.item = some (exceptionCluster k, h)) ∧
    Counted s (actException s p k kind a) a 1 := by
  obtain ⟨k', hk⟩ : ∃ k', k' = ({ k with pass := { k.pass with edits := [] } } : Pkt) := ⟨_, rfl⟩
  have kept : Keeps [.gauge, .regs] s (bump (tracePass s k' 0) a) := .last (bump_keeps _ _) ((tracePass_keeps _ _ _).mono (by decide))
  have free' : (freeEntry (bump (tracePass s k' 0) a) (exceptionCluster k) k'.hdr.slice).isSome = true := by
    rw [freeEntry_congr (kept.same .csc) (kept.same .slices), hk]
    exact free
  obtain ⟨held, regs⟩ := exception_held (bump (tracePass s k' 0) a) p k' (exceptionCluster k) kind 0 k.pass.op free'
  have same : actException s p k kind a = exception (bump (tracePass s k' 0) a) p k' (exceptionCluster k) kind 0 k.pass.op := by
    rw [hk]
    rfl
  rw [same]
  refine ⟨?_, ?_⟩
  · rw [hk] at held ⊢
    exact held
  unfold Counted
  rw [counter_congr regs, counter_bump_self, show counter (tracePass s k' 0) a = counter s a from
    (trace_regKept _ _ _ _ _ _ _ untraced).counter]

/-- The sixty-fifth operation of a pass raises ACT_OP_LIMIT (R198). -/
theorem runOp_limit {c : Nat → Instr} {opc : Nat} {f : Nat → State → Pkt → Bytes → State} (row : ∀ p s, exec (c p) s = runOp s p opc (f p)) :
    ∀ s p k, pktGet s p = some k → k.stage = .action → opOpc (recOp k.pass.record k.pass.op) = opc → 64 ≤ k.pass.opsRun → k.hdr.pipeline < 4 →
    (freeEntry s (exceptionCluster k) k.hdr.slice).isSome = true → Completes (c p) s (fun t => (∃ k' h, pktGet t p = some k' ∧
      k'.stage = .cascade ∧ k'.item = some (exceptionCluster k, h)) ∧ Counted s t (r_CST_ACT_CNT_OP_LIMIT k.hdr.pipeline) 1) := by
  intro s p k here stage name many small free
  have untraced : r_CST_ACT_CNT_OP_LIMIT k.hdr.pipeline ≠ r_GAU_TRACE_STATUS := by
    unfold r_CST_ACT_CNT_OP_LIMIT r_GAU_TRACE_STATUS
    omega
  obtain ⟨⟨k', h, there, held, -, item⟩, counted⟩ := actException_held s p k .actOpLimit untraced free
  refine completes_of (t := actException s p k .actOpLimit (r_CST_ACT_CNT_OP_LIMIT k.hdr.pipeline)) ?_ ⟨⟨k', h, there, held, item⟩, counted⟩
  rw [row]
  unfold runOp
  rw [here]
  dsimp only
  rw [if_pos ⟨stage, name⟩, if_pos many]

/-! Records (R193, R194, R198). -/

/-- The state after a record is looked up in the record cache. -/
def fetched (s : State) (k : Pkt) : State :=
  if Config.cacheMiss s.fresh then bump (drawn s) (r_CST_ACT_CNT_CACHE_MISS k.hdr.pipeline) else drawn s

theorem fetched_keeps (s : State) (k : Pkt) : Keeps [.fresh, .regs] s (fetched s k) := by
  have draws : Keeps [.fresh, .regs] s (drawn s) := .of_changes (.of_patch rfl)
  exact .ite (.last (bump_keeps _ _) draws) draws

/-- The record cache counts in a register of its own. -/
theorem fetched_counter (s : State) (k : Pkt) {a : Nat} (other : a ≠ r_CST_ACT_CNT_CACHE_MISS k.hdr.pipeline) :
    counter (fetched s k) a = counter s a := by
  unfold fetched
  split
  · exact counter_bump_ne _ other
  · rfl

section
variable {r : Bytes} {idx : Nat} (record : r = mapGetD s.act.table idx (zeros 240))
include record

theorem enterRecord_enters (k : Pkt) (valid : recValid r = true) (own : bitAt (le r 4 4) 12 = true → bits (le r 4 4) 11 0 = k.hdr.slice) :
    PktBecomes [.fresh, .regs] s (enterRecord s p k idx) p
      { k with stage := .action, pass := { k.pass with recIdx := idx, record := r, op := 0 } } := by
  have enters : enterRecord s p k idx =
      pktSet (fetched s k) p { k with stage := .action, pass := { k.pass with recIdx := idx, record := r, op := 0 } } := by
    unfold enterRecord
    dsimp only
    rw [← record, valid, if_neg (by decide), if_neg (fun h => h.2 (own h.1))]
    rfl
  rw [enters]
  refine ⟨pktGet_pktSet_self _ _ _, fun q other => ?_, (Keeps.last (pktSet_keeps _ _ _) ((fetched_keeps s k).mono (by decide))).frame⟩
  rw [pktGet_pktSet_ne _ _ other, pktGet_congr ((fetched_keeps s k).same .pkts)]

theorem enterRecord_invalid (k : Pkt) (invalid : recValid r = false) : enterRecord s p k idx =
    actException (fetched s k) p { k with pass := { k.pass with recIdx := idx } } .actBadRecord (r_CST_ACT_CNT_BAD_RECORD k.hdr.pipeline) := by
  unfold enterRecord
  dsimp only
  rw [← record, invalid]
  rfl

theorem enterRecord_foreign (k : Pkt) (valid : recValid r = true) (bound : bitAt (le r 4 4) 12 = true)
    (foreign : bits (le r 4 4) 11 0 ≠ k.hdr.slice) : enterRecord s p k idx =
    actDrop (bump (fetched s k) (r_CST_ACT_CNT_SLICE_CHECK k.hdr.pipeline)) p { k with pass := { k.pass with recIdx := idx } } 0 := by
  unfold enterRecord
  dsimp only
  rw [← record, valid, if_neg (by decide), if_pos ⟨bound, foreign⟩]
  rfl

end

/-- The pass as it enters its first record: G0 is the COOKIE. -/
def entering (k : Pkt) : Pkt := { k with pass := { g := k.jig.cookie.setWidth 64 :: List.replicate 15 0 } }

theorem actionRecordFetch_row (here : pktGet s p = some k) (stage : k.stage = .fetch) :
    exec (.actionRecordFetch p) s = .next (enterRecord s p (entering k) k.jig.action) := by
  show execActionRecordFetch p s = _
  unfold execActionRecordFetch
  rw [here]
  exact if_pos stage

/-- A pass enters the record of its result, raises an exception or is dropped. -/
theorem actionRecordFetch_enters {r : Bytes} (here : pktGet s p = some k) (stage : k.stage = .fetch)
    (record : r = mapGetD s.act.table k.jig.action (zeros 240)) :
    (recValid r = true → (bitAt (le r 4 4) 12 = true → bits (le r 4 4) 11 0 = k.hdr.slice) → Completes (.actionRecordFetch p) s (fun t =>
      PktBecomes [.fresh, .regs] s t p { k with
        stage := .action
        pass := { g := k.jig.cookie.setWidth 64 :: List.replicate 15 0, recIdx := k.jig.action, record := r, op := 0 } })) ∧
    (recValid r = false → k.hdr.pipeline < 4 → (freeEntry s (exceptionCluster k) k.hdr.slice).isSome = true →
      Completes (.actionRecordFetch p) s (fun t => (∃ k' h, pktGet t p = some k' ∧ k'.stage = .cascade ∧
        k'.item = some (exceptionCluster k, h)) ∧ Counted s t (r_CST_ACT_CNT_BAD_RECORD k.hdr.pipeline) 1)) ∧
    (recValid r = true → bitAt (le r 4 4) 12 = true → bits (le r 4 4) 11 0 ≠ k.hdr.slice → k.mirrors = [] → k.hdr.pipeline < 4 →
      Completes (.actionRecordFetch p) s (fun t => pktGet t p = none ∧ Counted s t (r_CST_ACT_CNT_SLICE_CHECK k.hdr.pipeline) 1)) := by
  have row := actionRecordFetch_row here stage
  have kept := fetched_keeps s (entering k)
  refine ⟨fun valid own => completes_of row (enterRecord_enters record (entering k) valid own), fun invalid small free => ?_,
    fun valid bound foreign alone small => ?_⟩
  · rw [enterRecord_invalid record (entering k) invalid] at row
    have untraced : r_CST_ACT_CNT_BAD_RECORD k.hdr.pipeline ≠ r_GAU_TRACE_STATUS := by
      unfold r_CST_ACT_CNT_BAD_RECORD r_GAU_TRACE_STATUS
      omega
    obtain ⟨⟨k', h, there, held, -, item⟩, counted⟩ := actException_held (fetched s (entering k)) p
      { entering k with pass := { (entering k).pass with recIdx := k.jig.action } } .actBadRecord untraced
      (by rw [freeEntry_congr (kept.same .csc) (kept.same .slices)]; exact free)
    refine completes_of row ⟨⟨k', h, there, held, item⟩, ?_⟩
    unfold Counted at counted
    rw [fetched_counter s (entering k) (a := r_CST_ACT_CNT_BAD_RECORD k.hdr.pipeline)
      (by show r_CST_ACT_CNT_BAD_RECORD k.hdr.pipeline ≠ r_CST_ACT_CNT_CACHE_MISS k.hdr.pipeline
          unfold r_CST_ACT_CNT_BAD_RECORD r_CST_ACT_CNT_CACHE_MISS; omega)] at counted
    exact counted
  · rw [enterRecord_foreign record (entering k) valid bound foreign] at row
    have untraced : r_CST_ACT_CNT_SLICE_CHECK k.hdr.pipeline ≠ r_GAU_TRACE_STATUS := by
      unfold r_CST_ACT_CNT_SLICE_CHECK r_GAU_TRACE_STATUS
      omega
    obtain ⟨gone, counted⟩ := actDrop_counts (fetched s (entering k)) (p := p)
      (k := { entering k with pass := { (entering k).pass with recIdx := k.jig.action } }) 0 alone untraced
    refine completes_of row ⟨gone, ?_⟩
    unfold Counted at counted
    rw [fetched_counter s (entering k) (a := r_CST_ACT_CNT_SLICE_CHECK k.hdr.pipeline)
      (by show r_CST_ACT_CNT_SLICE_CHECK k.hdr.pipeline ≠ r_CST_ACT_CNT_CACHE_MISS k.hdr.pipeline
          unfold r_CST_ACT_CNT_SLICE_CHECK r_CST_ACT_CNT_CACHE_MISS; omega)] at counted
    exact counted

/-- JUMP keeps the registers of the pass (R197). -/
theorem jump_enters {o r : Bytes} (due : OpDue s p 0x1D k o) (record : r = mapGetD s.act.table (bits (opImm o) 19 0) (zeros 240))
    (valid : recValid r = true) (own : bitAt (le r 4 4) 12 = true → bits (le r 4 4) 11 0 = k.hdr.slice) :
    Completes (.jump p) s (fun t => PktBecomes [.fresh, .regs] s t p { k with pass := { k.pass with
        recIdx := bits (opImm o) 19 0
        record := r
        op := 0
        opsRun := k.pass.opsRun + 1 } }) := by
  have stage : k.stage = .action := due.2.1
  have enters := enterRecord_enters (p := p) record (opRun k) valid own
  rw [← show (opRun k).stage = .action from stage] at enters
  exact completes_of (runOp_row (fun s k o => enterRecord s p k (bits (opImm o) 19 0)) due) enters

theorem endOp_drops {o : Bytes} (due : OpDue s p 0x1E k o) (alone : k.mirrors = []) (small : k.hdr.pipeline < 4) :
    Completes (.endOp p) s (fun t => pktGet t p = none ∧ Counted s t (r_CST_ACT_CNT_NO_VERDICT k.hdr.pipeline) 1) :=
  completes_of (runOp_row (fun s k _ => actDrop (bump s (r_CST_ACT_CNT_NO_VERDICT k.hdr.pipeline)) p k 0x1E) due) (actDrop_counts s (k := opRun k) 0x1E alone (noVerdict_untraced small))

end

/-! Branches (R194, R197). -/

/-- A branch whose condition does not read the count of operations. -/
theorem runBranch_branches {c : Nat → Instr} {opc : Nat} {f : Pkt → Bytes → Bool} (row : ∀ p s, exec (c p) s = runBranch s p opc f)
    (unread : ∀ k o, f (opRun k) o = f k o) : ∀ s p k o, OpDue s p opc k o →
    (f k o = true → bits (opImm o) 3 0 < recNops k.pass.record → Completes (c p) s (fun t => PktBecomes [] s t p
      { k with pass := { k.pass with op := bits (opImm o) 3 0, opsRun := k.pass.opsRun + 1 } })) ∧
    (f k o = false → HasNext k → Completes (c p) s (fun t => PktBecomes [] s t p (opNext k))) := by
  intro s p k o due
  have runs : exec (c p) s = .next (if f k o = true then actGoto s p (opRun k) (bits (opImm o) 3 0) else actNext s p (opRun k)) := by
    rw [row, runBranch, runOp_row _ due, unread]
  refine ⟨fun holds inside => completes_of (runs.trans (congrArg _ (if_pos holds))) ?_,
    fun fails next => completes_of (runs.trans (congrArg _ (if_neg (ne_true_of_eq_false fails)))) ?_⟩
  · rw [actGoto, if_pos (show bits (opImm o) 3 0 < recNops (opRun k).pass.record from inside)]
    exact pktSet_becomes _ _ _
  · rw [actNext_goes _ _ (opRun k) next]
    exact pktSet_becomes _ _ _

/-- Settles O40: a record is entered, refused or foreign; every operation runs through `runOp`, which holds the limit. -/
theorem passesEnterAndMoveThroughRecords : Obligations.PassesEnterAndMoveThroughRecords := by
  unfold Obligations.PassesEnterAndMoveThroughRecords
  refine ⟨⟨fun _ _ _ _ here stage record => actionRecordFetch_enters here stage record, ?_⟩, ?_,
    fun _ _ _ _ _ due record valid own => jump_enters due record valid own, fun _ _ _ _ due alone small => endOp_drops due alone small⟩
  · simp only [List.forall_mem_cons]
    exact ⟨runOp_limit (f := fun p s k o => actNext s p (setG k (opA o) (BitVec.ofNat 64 (opImm o)))) fun _ _ => rfl,
      runOp_limit fun p s => (rfl : execStf p s = _),
      runOp_limit (f := fun p s k o => if decide (gReg k (opA o) = gReg k (opB o)) = true then actGoto s p k (bits (opImm o) 3 0)
        else actNext s p k) fun _ _ => rfl,
      runOp_limit fun p s => (rfl : execJump p s = _),
      runOp_limit fun p s => (rfl : execEndOp p s = _),
      runOp_limit fun p s => (rfl : execLookup p s = _),
      runOp_limit fun p s => (rfl : execTtlDec p s = _),
      runOp_limit fun p s => (rfl : execSetTc p s = _),
      runOp_limit fun p s => (rfl : execFwdPort p s = _),
      runOp_limit fun p s => (rfl : execDrop p s = _), fun _ h => (nomatch h)⟩
  · simp only [List.forall_mem_cons]
    exact ⟨runBranch_branches (f := fun k o => decide (gReg k (opA o) = gReg k (opB o))) (fun _ _ => rfl) fun _ _ => rfl,
      runBranch_branches (f := fun k o => decide (gReg k (opA o) ≠ gReg k (opB o))) (fun _ _ => rfl) fun _ _ => rfl,
      runBranch_branches (f := fun k o => decide ((gReg k (opA o)).toNat < (gReg k (opB o)).toNat)) (fun _ _ => rfl) fun _ _ => rfl,
      runBranch_branches (f := fun k o => decide ((gReg k (opB o)).toNat ≤ (gReg k (opA o)).toNat)) (fun _ _ => rfl) fun _ _ => rfl,
      runBranch_branches (f := fun k o => bitAt (gReg k (opA o)).toNat (bits (opImm o) 13 8)) (fun _ _ => rfl) fun _ _ => rfl,
      fun _ h => (nomatch h)⟩

end Sys2Proof.Machine
end

section
/-! PROOFS. Field writes, edits and settings of a pass (O41). -/

namespace Sys2Proof.Machine

open Sys2Proof

set_option Elab.async false

/-! Bytes. -/

theorem length_toBe (n v : Nat) : (toBe n v).length = n := by rw [toBe, List.length_reverse, length_toLe]

/-- What was put at an offset is read from it. -/
theorem slice_splice (b v : Bytes) (off : Nat) : slice (splice b off v) off v.length = v := by
  unfold splice
  rw [slice, List.append_assoc, List.drop_left' (length_slice b 0 off), List.take_left]
  rw [Nat.sub_self, List.replicate_zero, List.append_nil]

theorem splice_slice_putBe (b : Bytes) (off n v : Nat) : splice b off (slice (putBe b off n v) off n) = putBe b off n v := by
  have read := slice_splice b (toBe n v) off
  rw [length_toBe] at read
  unfold putBe
  rw [read]

/-! Operations that go on with the next one. -/

section
variable {s : State} {p opc : Nat} {k : Pkt} {o : Bytes} {c : Instr} {f : State → Pkt → Bytes → State}

theorem completes_op {Q : State → Prop} (row : exec c s = runOp s p opc f) (due : OpDue s p opc k o) (ends : Q (f s (opRun k) o)) :
    Completes c s Q := completes_of (row.trans (runOp_row f due)) ends

/-- An operation that leaves `k'` behind and goes on. -/
theorem op_becomes {k' : Pkt} (row : exec c s = runOp s p opc f) (due : OpDue s p opc k o) (next : HasNext k')
    (goes : f s (opRun k) o = actNext s p (opRun k')) : Completes c s (fun t => PktBecomes [] s t p (opNext k')) := by
  refine completes_op row due ?_
  rw [goes, actNext_goes _ _ (opRun k') next]
  exact pktSet_becomes _ _ _

/-- An operation that acts on nothing counts and goes on (R204). -/
theorem op_counts {a : Nat} (row : exec c s = runOp s p opc f) (due : OpDue s p opc k o) (next : HasNext k)
    (goes : f s (opRun k) o = actNext (bump s a) p (opRun k)) :
    Completes c s (fun t => PktBecomes [.regs] s t p (opNext k) ∧ Counted s t a 1) := by
  refine completes_op row due ?_
  rw [goes, actNext_goes _ _ (opRun k) next]
  refine ⟨⟨pktGet_pktSet_self _ _ _, fun q other => ?_, (Keeps.last (pktSet_keeps _ _ _) ((bump_keeps s a).mono (by decide))).frame⟩, ?_⟩
  · rw [pktGet_pktSet_ne _ _ other, pktGet_congr ((bump_keeps s a).same .pkts)]
  · unfold Counted
    rw [counter_congr ((pktSet_keeps _ _ _).same .regs), counter_bump_self]

/-! Fields (R196, R197). -/

theorem fieldPut_opRun (k : Pkt) (space off width v : Nat) :
    fieldPut (opRun k) space off width v = (fieldPut k space off width v).map opRun := by
  unfold fieldPut
  rw [Option.map_map]
  rfl

/-- A field write leaves all of the pass but its frame. -/
theorem fieldPut_record {space off width v : Nat} {k' : Pkt} (put : fieldPut k space off width v = some k') :
    k'.pass = k.pass ∧ k'.hdr = k.hdr := by
  obtain ⟨b, -, rfl⟩ := Option.map_eq_some_iff.mp put
  exact ⟨rfl, rfl⟩

theorem fieldPut_hasNext {space off width v : Nat} {k' : Pkt} (put : fieldPut k space off width v = some k') (next : HasNext k) : HasNext k' := by
  unfold HasNext
  rw [(fieldPut_record put).1]
  exact next

/-- The state and pass after STF. -/
theorem stf_writes (due : OpDue s p 0x03 k o) (next : HasNext k) :
    (∀ k', fieldPut k (opSpace o) (opOff o) (opWidth o) (gReg k (opA o)).toNat = some k' → Completes (.stf p) s (fun t =>
      PktBecomes [] s t p (opNext k'))) ∧
    (fieldPut k (opSpace o) (opOff o) (opWidth o) (gReg k (opA o)).toNat = none → k.hdr.pipeline < 4 → Completes (.stf p) s (fun t =>
      PktBecomes [.regs] s t p (opNext k) ∧ Counted s t (r_CST_ACT_CNT_ABSENT_WRITE k.hdr.pipeline) 1)) := by
  have put : fieldPut (opRun k) (opSpace o) (opOff o) (opWidth o) (gReg (opRun k) (opA o)).toNat = _ := fieldPut_opRun k _ _ _ _
  refine ⟨fun k' present => op_becomes (rfl : execStf p s = _) due (fieldPut_hasNext present next) ?_,
    fun absent _ => op_counts (rfl : execStf p s = _) due next ?_⟩
  · rw [put, show fieldPut k (opSpace o) (opOff o) (opWidth o) (gReg (opRun k) (opA o)).toNat = some k' from present]
    rfl
  · rw [put, show fieldPut k (opSpace o) (opOff o) (opWidth o) (gReg (opRun k) (opA o)).toNat = none from absent]
    rfl


/-! CSTF: a field and its checksums (R73, R74, R197). -/

theorem fixCsum_skips (s : State) (k : Pkt) (old : Bytes) (lo hi byte : Nat) (udp : Bool) {slot : Nat} (unused : slot = 15) :
    fixCsum s k old lo hi slot byte udp = (s, k) := if_pos unused

/-- A checksum after the bytes from `a` on have changed (R73, R74). -/
def csumAfter (udp : Bool) (c : Nat) (old new : Bytes) (a n : Nat) : Nat :=
  if udp then udpCsumUpdateAll c (slice old a n) (slice new a n) else csumUpdateAll c (slice old a n) (slice new a n)

theorem fixCsum_updates (s : State) {k : Pkt} (old : Bytes) {lo hi a n slot byte : Nat} (udp : Bool) {l : LayerSlot} (used : slot ≠ 15)
    (layer : slotFor k slot (byte + 2) = some l) (from_ : a = lo - (if lo % 2 = l.offset % 2 then 0 else 1))
    (count : n = hi - a + (if (hi - a) % 2 = 0 then 0 else 1)) :
    fixCsum s k old lo hi slot byte udp =
      (s, { k with frame := putBe k.frame (l.offset + byte) 2 (csumAfter udp (be old (l.offset + byte) 2) old k.frame a n) }) := by
  subst from_ count
  unfold fixCsum
  rw [if_neg used, layer]
  rfl

/-- The frame that CSTF leaves: the first checksum's two bytes are laid over what the second one left. -/
def cstfFrame (k k1 k2 : Pkt) (o : Bytes) : Bytes :=
  if bits (opImm o) 3 0 = 15 then k2.frame
  else match slotFor k (bits (opImm o) 3 0) (bits (opImm o) 12 4 + 2) with
    | some l => splice k2.frame (l.offset + bits (opImm o) 12 4) (slice k1.frame (l.offset + bits (opImm o) 12 4) 2)
    | none => k2.frame

section
variable {b : Nat} {k' k1 k2 : Pkt}

/-- CSTF goes on with the frame of both checksums, when neither step counts an absent layer. -/
theorem cstf_becomes (due : OpDue s p 0x29 k o) (next : HasNext k) (base : fieldBase k (opSpace o) (opOff o) (opWidth o) = some b)
    (put : fieldPut k (opSpace o) (opOff o) (opWidth o) (gReg k (opA o)).toNat = some k')
    (first : fixCsum s (opRun k') k.frame (b + opOff o / 8) (b + (opOff o + opWidth o + 7) / 8) (bits (opImm o) 3 0) (bits (opImm o) 12 4) false =
      (s, k1))
    (second : fixCsum s { k1 with frame := k'.frame } k.frame (b + opOff o / 8) (b + (opOff o + opWidth o + 7) / 8) (bits (opImm o) 19 16)
      (bits (opImm o) 28 20) (bitAt (opImm o) 29) = (s, opRun k2)) (kept : k2.pass = k.pass) :
    Completes (.cstf p) s (fun t => PktBecomes [] s t p (opNext { k2 with frame := cstfFrame k k1 (opRun k2) o })) := by
  have put' : fieldPut (opRun k) (opSpace o) (opOff o) (opWidth o) (gReg (opRun k) (opA o)).toNat = some (opRun k') := by
    rw [fieldPut_opRun]
    exact congrArg (Option.map opRun) put
  refine op_becomes (rfl : execCstf p s = _) due (k' := { k2 with frame := cstfFrame k k1 (opRun k2) o }) ?_ ?_
  · unfold HasNext
    show k2.pass.op + 1 < recNops k2.pass.record
    rw [kept]
    exact next
  · dsimp only
    rw [show fieldBase (opRun k) (opSpace o) (opOff o) (opWidth o) = some b from base, put']
    dsimp only
    rw [show (opRun k).frame = k.frame from rfl, first]
    dsimp only
    rw [show (opRun k').frame = k'.frame from rfl, second]
    dsimp only
    congr 2
    unfold cstfFrame
    rw [show slotFor (opRun k) = slotFor k from rfl]
    cases slotFor k (bits (opImm o) 3 0) (bits (opImm o) 12 4 + 2) with
    | none => exact (ite_self _).symm
    | some l => rfl

theorem cstf_plain (due : OpDue s p 0x29 k o) (next : HasNext k) (base : fieldBase k (opSpace o) (opOff o) (opWidth o) = some b)
    (put : fieldPut k (opSpace o) (opOff o) (opWidth o) (gReg k (opA o)).toNat = some k') (none1 : bits (opImm o) 3 0 = 15)
    (none2 : bits (opImm o) 19 16 = 15) : Completes (.cstf p) s (fun t => PktBecomes [] s t p (opNext k')) := by
  have ends := cstf_becomes due next base put (k1 := opRun k') (k2 := k') (fixCsum_skips _ _ _ _ _ _ _ none1) (fixCsum_skips _ _ _ _ _ _ _ none2)
    (fieldPut_record put).1
  rw [cstfFrame, if_pos none1] at ends
  exact ends

theorem cstf_first {l : LayerSlot} {a n : Nat} {f : Bytes} (due : OpDue s p 0x29 k o) (next : HasNext k)
    (base : fieldBase k (opSpace o) (opOff o) (opWidth o) = some b)
    (put : fieldPut k (opSpace o) (opOff o) (opWidth o) (gReg k (opA o)).toNat = some k') (used : bits (opImm o) 3 0 ≠ 15)
    (none2 : bits (opImm o) 19 16 = 15) (layer : slotFor k (bits (opImm o) 3 0) (bits (opImm o) 12 4 + 2) = some l)
    (from_ : a = (b + opOff o / 8) - (if (b + opOff o / 8) % 2 = l.offset % 2 then 0 else 1))
    (count : n = (b + (opOff o + opWidth o + 7) / 8) - a + (if ((b + (opOff o + opWidth o + 7) / 8) - a) % 2 = 0 then 0 else 1))
    (framed : f = putBe k'.frame (l.offset + bits (opImm o) 12 4) 2
      (csumUpdateAll (be k.frame (l.offset + bits (opImm o) 12 4) 2) (slice k.frame a n) (slice k'.frame a n))) :
    Completes (.cstf p) s (fun t => PktBecomes [] s t p (opNext { k' with frame := f })) := by
  subst framed
  have layer' : slotFor (opRun k') (bits (opImm o) 3 0) (bits (opImm o) 12 4 + 2) = some l := by
    unfold slotFor
    rw [show (opRun k').hdr = k.hdr from (fieldPut_record put).2]
    exact layer
  have ends := cstf_becomes due next base put (k2 := k') (fixCsum_updates s k.frame false used layer' from_ count) (fixCsum_skips _ _ _ _ _ _ _ none2)
    (fieldPut_record put).1
  rw [cstfFrame, if_neg used, layer] at ends
  dsimp only at ends
  rw [show (opRun k').frame = k'.frame from rfl, splice_slice_putBe] at ends
  exact ends

theorem cstf_second {l : LayerSlot} {a n : Nat} {f : Bytes} (due : OpDue s p 0x29 k o) (next : HasNext k)
    (base : fieldBase k (opSpace o) (opOff o) (opWidth o) = some b)
    (put : fieldPut k (opSpace o) (opOff o) (opWidth o) (gReg k (opA o)).toNat = some k') (none1 : bits (opImm o) 3 0 = 15)
    (used : bits (opImm o) 19 16 ≠ 15) (layer : slotFor k (bits (opImm o) 19 16) (bits (opImm o) 28 20 + 2) = some l)
    (from_ : a = (b + opOff o / 8) - (if (b + opOff o / 8) % 2 = l.offset % 2 then 0 else 1))
    (count : n = (b + (opOff o + opWidth o + 7) / 8) - a + (if ((b + (opOff o + opWidth o + 7) / 8) - a) % 2 = 0 then 0 else 1))
    (framed : f = putBe k'.frame (l.offset + bits (opImm o) 28 20) 2 (if bitAt (opImm o) 29
      then udpCsumUpdateAll (be k.frame (l.offset + bits (opImm o) 28 20) 2) (slice k.frame a n) (slice k'.frame a n)
      else csumUpdateAll (be k.frame (l.offset + bits (opImm o) 28 20) 2) (slice k.frame a n) (slice k'.frame a n))) :
    Completes (.cstf p) s (fun t => PktBecomes [] s t p (opNext { k' with frame := f })) := by
  subst framed
  have layer' : slotFor { opRun k' with frame := k'.frame } (bits (opImm o) 19 16) (bits (opImm o) 28 20 + 2) = some l := by
    unfold slotFor
    rw [show ({ opRun k' with frame := k'.frame } : Pkt).hdr = k.hdr from (fieldPut_record put).2]
    exact layer
  have ends := cstf_becomes due next base put (k2 := { k' with frame := putBe _ _ _ (csumAfter _ _ _ _ _ _) })
    (fixCsum_skips _ _ _ _ _ _ _ none1) (fixCsum_updates s k.frame _ used layer' from_ count) (fieldPut_record put).1
  rw [cstfFrame, if_pos none1] at ends
  exact ends

end

/-! TTL and hop limit (R197). -/

theorem ttlDec_v6 {l : LayerSlot} (due : OpDue s p 0x28 k o) (next : HasNext k) (v6 : bitAt (opImm o) 3 = true)
    (layer : slotFor k (bits (opImm o) 2 0) 8 = some l) (lives : 1 < byteAt k.frame (l.offset + 7)) :
    Completes (.ttlDec p) s (fun t => PktBecomes [] s t p
      (opNext { k with frame := putBe k.frame (l.offset + 7) 1 (byteAt k.frame (l.offset + 7) - 1) })) := by
  refine op_becomes (rfl : execTtlDec p s = _) due (k' := { k with frame := putBe k.frame (l.offset + 7) 1 (byteAt k.frame (l.offset + 7) - 1) })
    next ?_
  dsimp only
  rw [v6, if_pos rfl, show slotFor (opRun k) (bits (opImm o) 2 0) 8 = some l from layer]
  exact if_neg (Nat.not_le.mpr lives)

theorem ttlDec_v4 {l : LayerSlot} {f g : Bytes} (due : OpDue s p 0x28 k o) (next : HasNext k) (v4 : bitAt (opImm o) 3 = false)
    (layer : slotFor k (bits (opImm o) 2 0) 12 = some l) (lives : 1 < byteAt k.frame (l.offset + 8))
    (counted : f = putBe k.frame (l.offset + 8) 1 (byteAt k.frame (l.offset + 8) - 1))
    (summed : g = putBe f (l.offset + 10) 2 (csumUpdate (be k.frame (l.offset + 10) 2) (be k.frame (l.offset + 8) 2) (be f (l.offset + 8) 2))) :
    Completes (.ttlDec p) s (fun t => PktBecomes [] s t p (opNext { k with frame := g })) := by
  subst counted summed
  refine op_becomes (rfl : execTtlDec p s = _) due (k' := { k with frame := _ }) next ?_
  dsimp only
  rw [v4, if_neg Bool.false_ne_true, show slotFor (opRun k) (bits (opImm o) 2 0) 12 = some l from layer]
  exact if_neg (Nat.not_le.mpr lives)

theorem ttlDec_expired {l : LayerSlot} (due : OpDue s p 0x28 k o) (small : k.hdr.pipeline < 4)
    (free : (freeEntry s (exceptionCluster k) k.hdr.slice).isSome = true)
    (layer : slotFor k (bits (opImm o) 2 0) (if bitAt (opImm o) 3 then 8 else 12) = some l)
    (expired : byteAt k.frame (l.offset + (if bitAt (opImm o) 3 then 7 else 8)) ≤ 1) : Completes (.ttlDec p) s (fun t =>
      (∃ k' h, pktGet t p = some k' ∧ k'.stage = .cascade ∧ k'.frame = k.frame ∧ k'.item = some (exceptionCluster k, h)) ∧
      Counted s t (r_CST_ACT_CNT_TTL k.hdr.pipeline) 1) := by
  have untraced : r_CST_ACT_CNT_TTL k.hdr.pipeline ≠ r_GAU_TRACE_STATUS := by
    unfold r_CST_ACT_CNT_TTL r_GAU_TRACE_STATUS
    omega
  refine completes_of (t := actException s p (opRun k) .actTtl (r_CST_ACT_CNT_TTL k.hdr.pipeline)) ?_
    (actException_held s p (opRun k) .actTtl untraced free)
  refine (runOp_row _ due : execTtlDec p s = _).trans (congrArg _ ?_)
  dsimp only
  rw [show slotFor (opRun k) = slotFor k from rfl, layer]
  exact if_pos expired

/-! Edits and settings (R197, R198). -/

/-- An edit waits for the end of the pass; one of an absent layer counts. -/
theorem runEdit_edits {c : Nat → Instr} {slot : Bytes → Nat} {len : Nat} {e : Pkt → Bytes → Nat → Edit}
    (row : ∀ p s, exec (c p) s = runOp s p opc (fun s k o => runEdit s p k (slot o) len (e k o))) (unread : ∀ k o, e (opRun k) o = e k o) :
    ∀ s p k o, OpDue s p opc k o → HasNext k →
    (∀ l, slotFor k (slot o) len = some l → Completes (c p) s (fun t => PktBecomes [] s t p
      (opNext { k with pass := { k.pass with edits := k.pass.edits ++ [e k o l.offset] } }))) ∧
    (slotFor k (slot o) len = none → k.hdr.pipeline < 4 → Completes (c p) s (fun t => PktBecomes [.regs] s t p (opNext k) ∧
      Counted s t (r_CST_ACT_CNT_ABSENT_WRITE k.hdr.pipeline) 1)) := by
  intro s p k o due next
  refine ⟨fun l layer => op_becomes (row p s) due (k' := { k with pass := { k.pass with edits := k.pass.edits ++ [e k o l.offset] } }) next ?_,
    fun absent _ => op_counts (row p s) due next ?_⟩
  · rw [unread, runEdit, show slotFor (opRun k) = slotFor k from rfl, layer]
    rfl
  · rw [runEdit, show slotFor (opRun k) = slotFor k from rfl, absent]
    rfl

/-- A setting of the pass that neither reads nor changes the count of operations. -/
theorem setting_becomes {c : Nat → Instr} {g : Pkt → Bytes → Pkt} (row : ∀ p s, exec (c p) s = runOp s p opc (fun s k o => actNext s p (g k o)))
    (counted : ∀ k o, g (opRun k) o = opRun (g k o)) (moves : ∀ k o, HasNext k → HasNext (g k o)) :
    ∀ s p k o, OpDue s p opc k o → HasNext k → Completes (c p) s (fun t => PktBecomes [] s t p (opNext (g k o))) :=
  fun s p k o due next => op_becomes (row p s) due (moves k o next) (by rw [counted])

/-- The state with a pass counted under counter `i` (R59). -/
def passCounted (s : State) (k : Pkt) (i : Nat) : State :=
  { s with act := { s.act with counters := mapModify s.act.counters i (0, 0) (fun c => (c.1 + 1, c.2 + BitVec.ofNat 64 k.hdr.frameLen)) } }

theorem passCounted_keeps (s : State) (k : Pkt) (i : Nat) : Keeps [.act] s (passCounted s k i) := .of_changes (.of_patch rfl)

theorem count_counts (due : OpDue s p 0x34 k o) (next : HasNext k) :
    (ownsSideEffects s k = true → Completes (.count p) s (fun t => PktBecomes [.act] s t p (opNext k) ∧ t.act.table = s.act.table ∧
      mapGetD t.act.counters (bits (opV k o) 21 0) (0, 0) = ((mapGetD s.act.counters (bits (opV k o) 21 0) (0, 0)).1 + 1,
        (mapGetD s.act.counters (bits (opV k o) 21 0) (0, 0)).2 + BitVec.ofNat 64 k.hdr.frameLen) ∧
      ∀ i, i ≠ bits (opV k o) 21 0 → mapGet t.act.counters i = mapGet s.act.counters i)) ∧
    (ownsSideEffects s k = false → Completes (.count p) s (fun t => PktBecomes [.regs] s t p (opNext k) ∧
      Counted s t r_SCB_CNT_TWIN_DISCARD 1)) := by
  refine ⟨fun owns => completes_op (rfl : execCount p s = _) due ?_, fun foreign => op_counts (rfl : execCount p s = _) due next ?_⟩
  · rw [sideEffect, if_pos (show ownsSideEffects s (opRun k) = true from owns), actNext_goes _ _ (opRun k) next]
    exact ⟨⟨pktGet_pktSet_self _ _ _, fun q other => pktGet_pktSet_ne _ _ other,
        (Keeps.last (pktSet_keeps _ _ _) ((passCounted_keeps s k (bits (opV k o) 21 0)).mono (by decide))).frame⟩, rfl, mapGetD_mapSet_self _ _ _ _,
      fun i other => mapGet_mapSet_ne _ _ other⟩
  · rw [sideEffect, if_neg (ne_true_of_eq_false (show ownsSideEffects s (opRun k) = false from foreign))]

theorem mirror_keeps (due : OpDue s p 0x35 k o) (next : HasNext k) :
    (k.pass.mirrored < 2 → Completes (.mirror p) s (fun t => PktBecomes [] s t p (opNext { k with
      pass := { k.pass with mirrored := k.pass.mirrored + 1 }
      mirrors := k.mirrors ++ [(BitVec.ofNat 32 (opV k o), k.frame, k.tx)] }))) ∧
    (2 ≤ k.pass.mirrored → k.hdr.pipeline < 4 → Completes (.mirror p) s (fun t => PktBecomes [.regs] s t p (opNext k) ∧
      Counted s t (r_CST_ACT_CNT_MIRROR_DROP k.hdr.pipeline) 1)) := by
  refine ⟨fun few => op_becomes (rfl : execMirror p s = _) due (k' := { k with
      pass := { k.pass with mirrored := k.pass.mirrored + 1 }
      mirrors := k.mirrors ++ [(BitVec.ofNat 32 (opV k o), k.frame, k.tx)] }) next ?_, fun many _ => op_counts (rfl : execMirror p s = _) due next ?_⟩
  · exact if_pos few
  · exact if_neg (Nat.not_lt.mpr many)

end

/-- Settles O41: every operation goes on through `op_becomes`, or counts what is absent through `op_counts`. -/
theorem fieldWritesEditsAndSettingsOfAPass : Obligations.FieldWritesEditsAndSettingsOfAPass := by
  unfold Obligations.FieldWritesEditsAndSettingsOfAPass
  refine ⟨⟨fun _ _ _ _ due next => stf_writes due next, fun _ _ _ _ _ _ due next base put => ⟨fun none1 none2 =>
        cstf_plain due next base put none1 none2, ?_, ?_⟩,
      fun _ _ _ _ _ due next v6 layer lives => ttlDec_v6 due next v6 layer lives,
      fun _ _ _ _ _ _ _ due next v4 layer lives counted summed => ttlDec_v4 due next v4 layer lives counted summed,
      fun _ _ _ _ _ due small free layer expired => ttlDec_expired due small free layer expired⟩, ?_, ?_,
    fun _ _ _ _ due next => count_counts due next, fun _ _ _ _ due next => mirror_keeps due next⟩
  · rintro l lo hi a n f used none2 layer rfl rfl from_ count framed
    exact cstf_first due next base put used none2 layer from_ count framed
  · rintro l lo hi a n f none1 used layer rfl rfl from_ count framed
    exact cstf_second due next base put none1 used layer from_ count framed
  · simp only [List.forall_mem_cons]
    exact ⟨runEdit_edits (e := fun k o a => .vlanPush a (bits (opImm o) 15 0) (bits (gReg k (opA o)).toNat 15 0)) (fun _ _ => rfl) fun _ _ => rfl,
      runEdit_edits (e := fun _ _ a => .vlanPop a) (fun _ _ => rfl) fun _ _ => rfl, runEdit_edits (e := fun _ _ a => .decap a) (fun _ _ => rfl) fun _ _ => rfl,
      fun _ h => (nomatch h)⟩
  · simp only [List.forall_mem_cons]
    exact ⟨setting_becomes (fun _ _ => rfl) (fun _ _ => rfl) fun _ _ next => next, setting_becomes (fun _ _ => rfl) (fun _ _ => rfl) fun _ _ next => next,
      setting_becomes (fun _ _ => rfl) (fun _ _ => rfl) fun _ _ next => next, setting_becomes (fun _ _ => rfl) (fun _ _ => rfl) fun _ _ next => next,
      setting_becomes (fun _ _ => rfl) (fun _ _ => rfl) fun _ _ next => next, fun _ h => (nomatch h)⟩

end Sys2Proof.Machine
end

section
/-! PROOFS. Table operations of the action unit (O42). -/

namespace Sys2Proof.Machine

open Sys2Proof

set_option Elab.async false

/-! The entries of Cistern. -/

theorem wayGet_congr {s t : State} (same : t.cst = s.cst) (l : Loc) : wayGet t l = wayGet s l := by
  unfold wayGet
  rw [same]

theorem wayGet_waySet_self (s : State) (l : Loc) (e : Bytes) : wayGet (waySet s l e) l = e := by
  unfold wayGet waySet
  cases l.stash <;> exact putRecord_self _ _ _ _

theorem wayGet_waySet_ne (s : State) {l m : Loc} (e : Bytes) (other : m ≠ l) : wayGet (waySet s l e) m = wayGet s m := by
  obtain ⟨inStash, i⟩ := l
  obtain ⟨inStash', j⟩ := m
  have apart : inStash' = inStash → j ≠ i := fun kind index => other (by rw [kind, index])
  unfold wayGet waySet
  cases inStash <;> cases inStash'
  · exact putRecord_ne _ _ _ (apart rfl)
  · rfl
  · rfl
  · exact putRecord_ne _ _ _ (apart rfl)

section
variable {s : State} {p opc : Nat} {k : Pkt} {o : Bytes} {c : Instr} {f : State → Pkt → Bytes → State}

/-- A pass that goes on from a state `u` that left the packets as they were. -/
theorem actNext_becomes {u : State} {k : Pkt} {ps : List Part} (next : HasNext k) (changes : ChangesOnly ps s u) (packets : u.pkts = s.pkts) :
    PktBecomes ps s (actNext u p (opRun k)) p (opNext k) := by
  rw [actNext_goes _ _ (opRun k) next]
  refine ⟨pktGet_pktSet_self _ _ _, fun q other => ?_, (changes.mono (List.subset_cons_self _ _)).step ((pktSet_keeps _ _ _).frame.mono ?_)⟩
  · rw [pktGet_pktSet_ne _ _ other, pktGet_congr packets]
  · intro part member
    rw [List.mem_singleton.mp member]
    exact List.mem_cons_self

/-- An operation that leaves state `u` behind, with the packets as they were, and goes on. -/
theorem op_goes {u : State} {ps : List Part} {Q : State → Prop} (row : exec c s = runOp s p opc f) (due : OpDue s p opc k o) (next : HasNext k)
    (goes : f s (opRun k) o = actNext u p (opRun k)) (changes : ChangesOnly ps s u) (packets : u.pkts = s.pkts)
    (ends : Q (pktSet u p (opNext k))) : Completes c s (fun t => PktBecomes ps s t p (opNext k) ∧ Q t) := by
  refine completes_op row due ?_
  rw [goes]
  refine ⟨actNext_becomes next changes packets, ?_⟩
  rw [actNext_goes _ _ (opRun k) next]
  exact ends

/-- The copy that does not own the side effects counts and goes on (R259). -/
theorem op_foreign {g : State → State} (row : exec c s = runOp s p opc f) (due : OpDue s p opc k o) (next : HasNext k)
    (goes : f s (opRun k) o = actNext (sideEffect s (opRun k) g) p (opRun k)) (foreign : ownsSideEffects s k = false) :
    Completes c s (fun t => PktBecomes [.regs] s t p (opNext k) ∧ Counted s t r_SCB_CNT_TWIN_DISCARD 1) :=
  op_counts row due next (by rw [goes, sideEffect, if_neg (ne_true_of_eq_false (show ownsSideEffects s (opRun k) = false from foreign))])

/-- The owning copy asks Scribe, which has room (R173). -/
theorem op_asks {r : ScribeReq} (row : exec c s = runOp s p opc f) (due : OpDue s p opc k o) (next : HasNext k)
    (goes : f s (opRun k) o = actNext (sideEffect s (opRun k) (fun s => scribePush s r)) p (opRun k))
    (owns : ownsSideEffects s k = true) (room : s.cst.queue.length < 4096) :
    Completes c s (fun t => PktBecomes [.cst] s t p (opNext k) ∧ t.cst = { s.cst with queue := s.cst.queue ++ [r] }) := by
  have asked : sideEffect s (opRun k) (fun s => scribePush s r) = { s with cst := { s.cst with queue := s.cst.queue ++ [r] } } := by
    rw [sideEffect, if_pos (show ownsSideEffects s (opRun k) = true from owns), scribePush, if_neg (by omega)]
  rw [asked] at goes
  exact op_goes (ps := [.cst]) row due next goes (.of_patch rfl) rfl rfl

theorem op_shares {r : ScribeReq} (row : exec c s = runOp s p opc f) (due : OpDue s p opc k o) (next : HasNext k)
    (goes : f s (opRun k) o = actNext (sideEffect s (opRun k) (fun s => scribePush s r)) p (opRun k)) :
    (ownsSideEffects s k = true → s.cst.queue.length < 4096 → Completes c s (fun t => PktBecomes [.cst] s t p (opNext k) ∧
      t.cst = { s.cst with queue := s.cst.queue ++ [r] })) ∧
    (ownsSideEffects s k = false → Completes c s (fun t => PktBecomes [.regs] s t p (opNext k) ∧ Counted s t r_SCB_CNT_TWIN_DISCARD 1)) :=
  ⟨op_asks row due next goes, op_foreign row due next goes⟩

/-! LOOKUP (R168, R169, R179). -/

theorem lookup_looks {pair : Option PairKey} (due : OpDue s p 0x20 k o) (next : HasNext k) (few : k.pass.lookups < 8)
    (paired : pair = if k.hdr.twin then some (PairKey.mk k.stream k.hdr.twinSeq k.hdr.pass k.pass.lookups) else none) :
    (∀ st e h, (lookup s pair (regKey k (bits (opImm o) 1 0) (opB o)) (bitAt (opImm o) 2)).2 = .got st e h → Completes (.lookup p) s (fun t =>
      PktBecomes [.cst, .regs] s t p (opNext { k with pass := { k.pass with
        g := k.pass.g.set (opA o) st
        lookups := k.pass.lookups + 1
        ent := e
        lastHit := h } }))) ∧
    ((lookup s pair (regKey k (bits (opImm o) 1 0) (opB o)) (bitAt (opImm o) 2)).2 = .waits → exec (.lookup p) s = .next s) := by
  obtain ⟨r, looked⟩ : ∃ r, lookup s pair (regKey k (bits (opImm o) 1 0) (opB o)) (bitAt (opImm o) 2) = r := ⟨_, rfl⟩
  have kept : Keeps [.cst, .regs] s r.1 := looked ▸ lookup_keeps _ _ _ _
  rw [looked]
  subst paired
  obtain ⟨u, found⟩ := r
  have few' : ¬ 8 ≤ (opRun k).pass.lookups := Nat.not_le.mpr few
  refine ⟨fun st e h got => completes_op (rfl : execLookup p s = _) due ?_, fun waits => (runOp_row _ due : execLookup p s = _).trans (congrArg _ ?_)⟩
  · subst got
    have moves : HasNext { k with pass := { k.pass with g := k.pass.g.set (opA o) st, lookups := k.pass.lookups + 1, ent := e, lastHit := h } } := next
    rw [if_neg few']
    dsimp only
    rw [show lookup s (if (opRun k).hdr.twin then some (PairKey.mk (opRun k).stream (opRun k).hdr.twinSeq (opRun k).hdr.pass (opRun k).pass.lookups)
      else none) (regKey (opRun k) (bits (opImm o) 1 0) (opB o)) (bitAt (opImm o) 2) = _ from looked]
    dsimp only
    exact actNext_becomes moves kept.frame (kept.same .pkts)
  · subst waits
    rw [if_neg few']
    dsimp only
    rw [show lookup s (if (opRun k).hdr.twin then some (PairKey.mk (opRun k).stream (opRun k).hdr.twinSeq (opRun k).hdr.pass (opRun k).pass.lookups)
      else none) (regKey (opRun k) (bits (opImm o) 1 0) (opB o)) (bitAt (opImm o) 2) = _ from looked]

theorem lookup_limit (due : OpDue s p 0x20 k o) (many : 8 ≤ k.pass.lookups) (small : k.hdr.pipeline < 4)
    (free : (freeEntry s (exceptionCluster k) k.hdr.slice).isSome = true) : Completes (.lookup p) s (fun t => (∃ k' h, pktGet t p = some k' ∧
      k'.stage = .cascade ∧ k'.item = some (exceptionCluster k, h)) ∧ Counted s t (r_CST_ACT_CNT_LOOKUP_LIMIT k.hdr.pipeline) 1) := by
  have untraced : r_CST_ACT_CNT_LOOKUP_LIMIT k.hdr.pipeline ≠ r_GAU_TRACE_STATUS := by
    unfold r_CST_ACT_CNT_LOOKUP_LIMIT r_GAU_TRACE_STATUS
    omega
  obtain ⟨⟨k', h, there, held, -, item⟩, counted⟩ := actException_held s p
    { opRun k with pass := { (opRun k).pass with opsRun := (opRun k).pass.opsRun - 1 } } .actLookupLimit untraced free
  exact completes_of ((runOp_row _ due : execLookup p s = _).trans (congrArg _ (if_pos many))) ⟨⟨k', h, there, held, item⟩, counted⟩

/-! ENT_UPDATE (R174, R674). -/

theorem updateEntry_updates {key : Bytes} {at_ l : Loc} {epoch : BitVec 16} (off width v : Nat) (resolved : resolveLoc s key at_ epoch = some l)
    (dynamic : entStatic (wayGet s l) = false) :
    updateEntry s key at_ epoch off width v = markDirty (waySet s l (putEntryField (wayGet s l) off width v)) (wayGet s l) := by
  unfold updateEntry
  rw [resolved]
  exact if_neg (ne_true_of_eq_false dynamic)

theorem wayGet_markDirty (s : State) (e : Bytes) (l : Loc) : wayGet (markDirty s e) l = wayGet s l := wayGet_congr ((markDirty_keeps _ _).same .cst) l

theorem entUpdate_updates {h : LastHit} {l : Loc} (due : OpDue s p 0x21 k o) (next : HasNext k) (hit : k.pass.lastHit = some h)
    (holds : typeHolds (byteAt h.key 0) (opOff o) = true) (owns : ownsSideEffects s k = true)
    (resolved : resolveLoc s h.key h.loc h.epoch = some l) (dynamic : entStatic (wayGet s l) = false) :
    Completes (.entUpdate p) s (fun t => PktBecomes [.cst, .sqr] s t p (opNext k) ∧
      wayGet t l = putEntryField (wayGet s l) (opOff o) (opWidth o) (gReg k (opA o)).toNat ∧ ∀ m, m ≠ l → wayGet t m = wayGet s m) := by
  obtain ⟨u, hu⟩ : ∃ u, u = updateEntry s h.key h.loc h.epoch (opOff o) (opWidth o) (gReg k (opA o)).toNat := ⟨_, rfl⟩
  rw [updateEntry_updates _ _ _ resolved dynamic] at hu
  have kept : Keeps [.cst, .sqr] s u := by
    rw [hu]
    exact .last (markDirty_keeps _ _) ((waySet_keeps _ _ _).mono (by decide))
  refine op_goes (rfl : execEntUpdate p s = _) due next ?_ kept.frame (kept.same .pkts) (u := u) ?_
  · rw [show (opRun k).pass.lastHit = some h from hit]
    dsimp only
    rw [holds, if_neg (by decide), sideEffect, if_pos (show ownsSideEffects s (opRun k) = true from owns), updateEntry_updates _ _ _ resolved dynamic, hu]
    rfl
  · have after : ∀ m, wayGet (pktSet u p (opNext k)) m =
        wayGet (waySet s l (putEntryField (wayGet s l) (opOff o) (opWidth o) (gReg k (opA o)).toNat)) m := by
      intro m
      rw [wayGet_congr ((pktSet_keeps _ _ _).same .cst), hu, wayGet_markDirty]
    refine ⟨?_, fun m other => ?_⟩
    · rw [after, wayGet_waySet_self]
    · rw [after, wayGet_waySet_ne _ _ other]

theorem entUpdate_nothing (due : OpDue s p 0x21 k o) (next : HasNext k) (missed : k.pass.lastHit = none) :
    Completes (.entUpdate p) s (fun t => PktBecomes [] s t p (opNext k)) := by
  refine op_becomes (rfl : execEntUpdate p s = _) due next ?_
  rw [show (opRun k).pass.lastHit = none from missed]

/-! LEARN, INSERT and DELETE (R172, R173). -/

theorem learn_asks (due : OpDue s p 0x22 k o) (next : HasNext k) :
    (ownsSideEffects s k = true → s.cst.queue.length < 4096 → Completes (.learn p) s (fun t => PktBecomes [.cst] s t p (opNext k) ∧
      t.cst = { s.cst with queue := s.cst.queue ++ [.learn (regKey k 1 (opB o)) ((gReg k (opA o)).setWidth 32) k.stamp k.hdr.source
        (bits (opImm o) 2 0) k.hdr.slice false] })) ∧
    (ownsSideEffects s k = false → Completes (.learn p) s (fun t => PktBecomes [.regs] s t p (opNext k) ∧
      Counted s t r_SCB_CNT_TWIN_DISCARD 1)) :=
  op_shares (rfl : execLearn p s = _) due next rfl

theorem insert_asks (due : OpDue s p 0x23 k o) (next : HasNext k) (pair : opC o ≠ 15) :
    (ownsSideEffects s k = true → s.cst.queue.length < 4096 → Completes (.insert p) s (fun t => PktBecomes [.cst] s t p (opNext k) ∧
      t.cst = { s.cst with queue := s.cst.queue ++ [.insert (regKey k 0 (opB o)) (flowEntry k o (gReg k (opC o)).toNat (gReg k (opC o + 1)).toNat)
        (bitAt (opImm o) 3) none] })) ∧
    (ownsSideEffects s k = false → Completes (.insert p) s (fun t => PktBecomes [.regs] s t p (opNext k) ∧
      Counted s t r_SCB_CNT_TWIN_DISCARD 1)) := by
  refine op_shares (rfl : execInsert p s = _) due next ?_
  rw [if_neg pair, if_neg pair]
  rfl

theorem delete_asks {h : LastHit} (due : OpDue s p 0x24 k o) (next : HasNext k) (hit : k.pass.lastHit = some h)
    (owns : ownsSideEffects s k = true) (room : s.cst.queue.length < 4096) :
    Completes (.delete p) s (fun t => PktBecomes [.cst] s t p (opNext k) ∧
      t.cst = { s.cst with queue := s.cst.queue ++ [.delete h.key (some (h.loc, h.epoch)) false none] }) := by
  refine op_asks (rfl : execDelete p s = _) due next ?_ owns room
  rw [show (opRun k).pass.lastHit = some h from hit]

theorem delete_nothing (due : OpDue s p 0x24 k o) (next : HasNext k) (missed : k.pass.lastHit = none) :
    Completes (.delete p) s (fun t => PktBecomes [] s t p (opNext k)) := by
  refine op_becomes (rfl : execDelete p s = _) due next ?_
  rw [show (opRun k).pass.lastHit = none from missed]

end

/-- Settles O42: an operation that owns its side effects asks Scribe through `op_asks`, the other copy counts through `op_foreign`. -/
theorem tableOperationsLookUpAndAskScribe : Obligations.TableOperationsLookUpAndAskScribe := by
  unfold Obligations.TableOperationsLookUpAndAskScribe
  refine ⟨fun _ _ _ _ _ due next few paired => lookup_looks due next few paired, fun _ _ _ _ due many small free => lookup_limit due many small free,
    fun _ _ _ _ _ _ due next hit holds owns resolved dynamic => entUpdate_updates due next hit holds owns resolved dynamic,
    fun _ _ _ _ due next missed => entUpdate_nothing due next missed, ?_,
    fun _ _ _ _ _ due next hit owns room => delete_asks due next hit owns room, fun _ _ _ _ due next missed => delete_nothing due next missed⟩
  simp only [List.forall_mem_cons]
  exact ⟨fun _ _ _ _ due next _ => learn_asks due next, fun _ _ _ _ due next pair => insert_asks due next (pair trivial), fun _ h => (nomatch h)⟩

end Sys2Proof.Machine
end

section
/-! PROOFS. Verdicts and the switch of action records (O43). -/

namespace Sys2Proof.Machine

open Sys2Proof

set_option Elab.async false

/-! The end of a pass (R198, R215). -/

section
variable {s : State} {p opc : Nat} {k : Pkt} {o : Bytes} {c : Instr} {f : State → Pkt → Bytes → State}

/-- A copy that ends leaves every other packet where it was. -/
theorem endCopy_pkts (s : State) (p : Nat) (k : Pkt) : (endCopy s p k).pkts = mapErase s.pkts p := by
  unfold endCopy
  extract_lets a b c d
  have started : Keeps [.jig, .plane, .twin, .rasp, .csc] s a :=
    .ite (.last (parseBankMod_keeps _ _ _) ((jigSlotMod_keeps _ _ _).mono (by decide))) .refl
  have finished : Keeps [.jig, .plane, .twin, .rasp, .csc] s b := .ite (.last (finishCopy_keeps _ _ _) started) started
  have left : Keeps [.jig, .plane, .twin, .rasp, .csc] s c := .last (ringLeave_keeps _ _ _) (.last (raspLeave_keeps _ _ _) finished)
  exact congrArg (mapErase · p) (left.same .pkts)

theorem passDrop_others {q : Nat} (here : pktGet s p = some k) (alone : k.mirrors = []) (other : q ≠ p) : pktGet (passDrop s p) q = pktGet s q := by
  unfold passDrop
  rw [here]
  dsimp only
  rw [if_pos (by rw [alone]; rfl), dropPkt, here]
  show mapGet (endCopy (letGo s k.fid k.origin (some 1)) p k).pkts q = _
  rw [endCopy_pkts, mapGet_mapErase_ne _ other]
  exact pktGet_congr ((letGo_keeps s k.fid k.origin (some 1)).same .pkts) q

theorem actDrop_drops (s : State) {p : Nat} {k : Pkt} (opc : Nat) (alone : k.mirrors = []) : pktGet (actDrop s p k opc) p = none := by
  have there : pktGet (tracePass (pktSet s p k) k opc) p = some k := by
    rw [pktGet_congr ((tracePass_keeps _ _ _).same .pkts), pktGet_pktSet_self]
  exact passDrop_gone there alone

/-- The packet of a pass that ended without edits. -/
def passEnded (k : Pkt) : Pkt :=
  { k with hdr := { k.hdr with frameLen := k.frame.length }, pass := { k.pass with ipAt := none, edits := [], sa := none } }

/-- A pass without edits and SA takes its verdict with the length of its frame. -/
theorem endPass_takes (s : State) (p : Nat) {k : Pkt} (opc : Nat) {v : Verdict} (edits : k.pass.edits = []) (sa : k.pass.sa = none) (leaves : v ≠ .drop) :
    endPass s p k opc v = takeVerdict (tracePass s k opc) p (passEnded k) v := by
  unfold endPass
  dsimp only
  rw [if_neg leaves, edits, sa]
  rfl

/-- The verdicts that send a packet out of the adapter or to a host. -/
def SendsOut : Verdict → Prop
  | .fwdPort _ => True
  | .fwdHost _ _ => True
  | .flood _ => True
  | _ => False

theorem takeVerdict_exits (s : State) (p : Nat) {k : Pkt} {v : Verdict} (plain : k.tx = []) (out : SendsOut v) :
    takeVerdict s p k v = pktSet s p { k with stage := .exitOrder, verdict := some v, item := none } := by
  have undue : tlsDue k v = false := by unfold tlsDue; rw [plain]; rfl
  cases v with
  | drop => exact out.elim
  | toEngine n r => exact out.elim
  | recirc => exact out.elim
  | fwdPort n => exact if_neg (ne_true_of_eq_false undue)
  | fwdHost n q => exact if_neg (ne_true_of_eq_false undue)
  | flood n => exact if_neg (ne_true_of_eq_false undue)

/-- A verdict that sends the packet out ends in the exit order stage (R259). -/
theorem endPass_exits {v : Verdict} (row : exec c s = runOp s p opc f) (due : OpDue s p opc k o)
    (ends : f s (opRun k) o = endPass s p (opRun k) opc v) (edits : k.pass.edits = []) (sa : k.pass.sa = none) (plain : k.tx = [])
    (out : SendsOut v) :
    Completes c s (fun t => (∃ k', pktGet t p = some k' ∧ k'.stage = .exitOrder ∧ k'.verdict = some v ∧
      k'.frame = k.frame ∧ k'.hdr = { k.hdr with frameLen := k.frame.length }) ∧ (∀ q, q ≠ p → pktGet t q = pktGet s q) ∧
      ChangesOnly [.pkts, .gauge, .regs] s t) := by
  have traced := tracePass_keeps s (opRun k) opc
  have leaves : v ≠ .drop := by rintro rfl; exact out
  refine completes_op row due ?_
  rw [ends, endPass_takes s p (k := opRun k) opc edits sa leaves, takeVerdict_exits _ _ (k := passEnded (opRun k)) plain out]
  refine ⟨⟨_, pktGet_pktSet_self _ _ _, rfl, rfl, rfl, rfl⟩, fun q other => ?_, (Keeps.last (pktSet_keeps _ _ _) (traced.mono (by decide))).frame⟩
  rw [pktGet_pktSet_ne _ _ other, pktGet_congr (traced.same .pkts)]

theorem fwdHost_exits {n q : Nat} (due : OpDue s p 0x39 k o) (target : hostTarget s k (opV k o) = some (n, q)) (edits : k.pass.edits = [])
    (sa : k.pass.sa = none) (plain : k.tx = []) :
    Completes (.fwdHost p) s (fun t => (∃ k', pktGet t p = some k' ∧ k'.stage = .exitOrder ∧ k'.verdict = some (.fwdHost n q) ∧
      k'.frame = k.frame) ∧ ChangesOnly [.pkts, .gauge, .regs] s t) := by
  obtain ⟨t, ran, ⟨k', there, stage, verdict, frame, -⟩, -, changes⟩ :=
    endPass_exits (c := .fwdHost p) (v := .fwdHost n q) (rfl : execFwdHost p s = _) due
      (by rw [show hostTarget s (opRun k) (opV (opRun k) o) = some (n, q) from target]) edits sa plain trivial
  exact ⟨t, ran, ⟨k', there, stage, verdict, frame⟩, changes⟩

theorem fwdHost_drops (due : OpDue s p 0x39 k o) (target : hostTarget s k (opV k o) = none) (alone : k.mirrors = []) :
    Completes (.fwdHost p) s (fun t => pktGet t p = none) := by
  refine completes_op (rfl : execFwdHost p s = _) due ?_
  rw [show hostTarget s (opRun k) (opV (opRun k) o) = none from target]
  exact actDrop_drops s (k := opRun k) 0x39 alone

theorem drop_drops (due : OpDue s p 0x3B k o) (alone : k.mirrors = []) :
    Completes (.drop p) s (fun t => pktGet t p = none ∧ ∀ q, q ≠ p → pktGet t q = pktGet s q) := by
  have there : pktGet (pktSet (tracePass s (opRun k) 0x3B) p (opRun k)) p = some (opRun k) := pktGet_pktSet_self _ _ _
  have drops : endPass s p (opRun k) 0x3B .drop = passDrop (pktSet (tracePass s (opRun k) 0x3B) p (opRun k)) p := rfl
  refine completes_op (rfl : execDrop p s = _) due ?_
  rw [drops]
  refine ⟨passDrop_gone there alone, fun q other => ?_⟩
  rw [passDrop_others there alone other, pktGet_pktSet_ne _ _ other, pktGet_congr ((tracePass_keeps _ _ _).same .pkts)]

theorem clusterGet_clusterSet_self (s : State) (q : Nat) (c : Cluster) : clusterGet (clusterSet s q c) q = c := mapGetD_mapSet_self _ _ _ _

theorem clusterGet_congr {s t : State} (csc : t.csc = s.csc) (q : Nat) : clusterGet t q = clusterGet s q := by
  unfold clusterGet
  rw [csc]

/-- A work item that finds a free entry is queued at the end of its cluster's order (R214). -/
theorem exception_queues (s : State) (p : Nat) (k : Pkt) (q : Nat) (kind : ItemKind) (reason opIndex : Nat)
    (free : (freeEntry s q k.hdr.slice).isSome = true) : ∃ k' h it, pktGet (exception s p k q kind reason opIndex) p = some k' ∧
      k'.stage = .cascade ∧ k'.item = some (q, h) ∧ itemOf (exception s p k q kind reason opIndex) q h = some it ∧ it.state = .queued ∧
      it.kind = kind ∧ it.reason = reason ∧ it.pid = p ∧
      (clusterGet (exception s p k q kind reason opIndex) q).order = (clusterGet s q).order ++ [h] := by
  obtain ⟨reserved, free⟩ := Option.isSome_iff_exists.mp free
  have queued : ∀ c : Cluster, ∀ n k', clusterGet (pktSet { clusterSet s q c with fresh := n } p k') q = c :=
    fun c _ _ => clusterGet_clusterSet_self s q c
  have item : ∀ c : Cluster, ∀ n k' h, itemOf (pktSet { clusterSet s q c with fresh := n } p k') q h = mapGet c.work h :=
    fun c n k' h => congrArg (fun c : Cluster => mapGet c.work h) (queued c n k')
  unfold exception queueItem
  rw [free]
  dsimp only
  refine ⟨_, _, _, pktGet_pktSet_self _ _ _, rfl, rfl, (item _ _ _ _).trans (mapGet_mapSet_self _ _ _), rfl, rfl, rfl, rfl, ?_⟩
  rw [queued]

theorem toEngine_queues {q : Nat} (due : OpDue s p 0x3C k o) (edits : k.pass.edits = []) (sa : k.pass.sa = none)
    (cluster : q = 4 * railOf k.hdr.pipeline + bits (opV k o) 1 0) (free : (freeEntry s q k.hdr.slice).isSome = true) :
    Completes (.toEngine p) s (fun t => ∃ k' h it, pktGet t p = some k' ∧ k'.stage = .cascade ∧
      k'.item = some (q, h) ∧ itemOf t q h = some it ∧ it.state = .queued ∧ it.kind = .toEngine ∧ it.reason = bits (opV k o) 15 8 ∧
      it.pid = p ∧ (clusterGet t q).order = (clusterGet s q).order ++ [h]) := by
  subst cluster
  have traced := tracePass_keeps s (opRun k) 0x3C
  refine completes_op (rfl : execToEngine p s = _) due ?_
  rw [endPass_takes s p (k := opRun k) 0x3C edits sa Verdict.noConfusion, ← clusterGet_congr (traced.same .csc)]
  exact exception_queues (tracePass s (opRun k) 0x3C) p { passEnded (opRun k) with verdict := none } _ .toEngine _ _
    (by rw [freeEntry_congr (traced.same .csc) (traced.same .slices)]; exact free)

theorem recirc_starts (due : OpDue s p 0x3D k o) (edits : k.pass.edits = []) (sa : k.pass.sa = none) (early : k.hdr.pass < 3) :
    Completes (.recirc p) s (fun t =>
    (∃ k', pktGet t p = some k' ∧ k'.stage = .start ∧ k'.hdr.pass = k.hdr.pass + 1 ∧ k'.verdict = none ∧ k'.frame = k.frame) ∧
    ChangesOnly [.pkts, .gauge, .regs] s t) := by
  refine completes_op (rfl : execRecirc p s = _) due ?_
  rw [if_neg (Nat.not_le.mpr (show (opRun k).hdr.pass < 3 from early)), endPass_takes s p (k := opRun k) 0x3D edits sa (by decide)]
  exact ⟨⟨_, pktGet_pktSet_self _ _ _, rfl, rfl, rfl, rfl⟩,
    (Keeps.last (pktSet_keeps _ _ _) ((tracePass_keeps s (opRun k) 0x3D).mono (by decide))).frame⟩

theorem recirc_limit (due : OpDue s p 0x3D k o) (late : 3 ≤ k.hdr.pass) (small : k.hdr.pipeline < 4)
    (free : (freeEntry s (exceptionCluster k) k.hdr.slice).isSome = true) :
    Completes (.recirc p) s (fun t => (∃ k' h, pktGet t p = some k' ∧ k'.stage = .cascade ∧ k'.item = some (exceptionCluster k, h)) ∧
      Counted s t (r_CST_ACT_CNT_PASS_LIMIT k.hdr.pipeline) 1) := by
  have untraced : r_CST_ACT_CNT_PASS_LIMIT k.hdr.pipeline ≠ r_GAU_TRACE_STATUS := by
    unfold r_CST_ACT_CNT_PASS_LIMIT r_GAU_TRACE_STATUS
    omega
  obtain ⟨⟨k', h, there, held, -, item⟩, counted⟩ := actException_held s p (opRun k) .actPassLimit untraced free
  refine completes_op (rfl : execRecirc p s = _) due ?_
  rw [if_pos (show 3 ≤ (opRun k).hdr.pass from late)]
  exact ⟨⟨k', h, there, held, item⟩, counted⟩

end

/-! Action records (R194, R200, R201). -/

theorem actRecordWrite_waits : RunsLater .actRecordWrite 0x0510 (fun _ _ req => le req 0 4 ≤ 0xFFFFF ∧ le req 4 4 = 0 ∧ recordFault (slice req 8 240) = none)
    (fun s t ch seq req => t.act = { s.act with pendingWrites := s.act.pendingWrites ++
      [⟨ch, seq, bits (le req 0 4) 19 0, slice req 8 240⟩] } ∧ ChangesOnly [.mbx, .act] s t) := by
  intro s ch seq req begun ⟨index, rest, sound⟩
  refine completes_command begun (rfl : execActRecordWrite ch seq s = _) ?_
  dsimp only
  rw [if_neg (by omega), sound]
  have set : ChangesOnly [.mbx, .act] s { s with act := { s.act with pendingWrites := s.act.pendingWrites ++
    [⟨ch, seq, bits (le req 0 4) 19 0, slice req 8 240⟩] } } := .of_patch rfl
  exact ⟨defer_runs (begun.of_mbx rfl), defer_act _ _ _, set.step ((defer_keeps _ _ _).frame.mono (by decide))⟩

theorem actRecordWrite_refuses {s : State} {ch seq i : Nat} {req : Bytes} (begun : Begun s ch seq 0x0510 req) (index : le req 0 4 ≤ 0xFFFFF)
    (rest : le req 4 4 = 0) (fault : recordFault (slice req 8 240) = some i) :
    Completes (.actRecordWrite ch seq) s (fun t => Answered t ch seq rcBadParam (toLe 1 i) ∧ AnswerFrame [] s t ch) := by
  refine completes_command begun (rfl : execActRecordWrite ch seq s = _) ?_
  dsimp only
  rw [if_neg (by omega), fault]
  exact ⟨answer_answered _ _ begun.unanswered, answer_frame _ _ _ _ _⟩

theorem mapGet_putRec_ne (m : AMap Bytes) {i j : Nat} (d r : Bytes) (other : j ≠ i) : mapGet (putRec m i d r) j = mapGet m j := by
  unfold putRec
  split
  · exact mapGet_mapErase_ne _ other
  · exact mapGet_mapSet_ne _ _ other

theorem actRecordSwitch_switches {s : State} {w : RecWrite} (pending : s.act.pendingWrites = [w]) :
    Completes .actRecordSwitch s (fun t => t.act.pendingWrites = [] ∧
    mapGetD t.act.table w.index (zeros 240) = w.record ∧ (∀ i, i ≠ w.index → mapGet t.act.table i = mapGet s.act.table i) ∧
    (Unanswered s w.chan w.seq → Answered t w.chan w.seq rcOk (toLe 1 0))) := by
  obtain ⟨u, hu⟩ : ∃ u : State, u = { s with act := { s.act with table := putRec s.act.table w.index (zeros 240) w.record, pendingWrites := [] } } :=
    ⟨_, rfl⟩
  have row : exec .actRecordSwitch s = .next (answer u w.chan w.seq rcOk (toLe 1 0)) := by
    show execActRecordSwitch s = _
    unfold execActRecordSwitch
    rw [pending, hu]
    rfl
  have mbx : u.mbx = s.mbx := by rw [hu]
  refine completes_of row ?_
  rw [answer_act]
  refine ⟨by rw [hu], ?_, fun i other => ?_, fun waits => answer_answered _ _ (waits.same mbx)⟩
  · rw [hu]
    exact putRec_self _ _ _ _
  · rw [hu]
    exact mapGet_putRec_ne _ _ _ other

theorem actRecordRead_answers : AnswersOk .actRecordRead 0x0511 (fun _ _ req => le req 0 4 < 0x100000)
    (fun s _ req => toLe 4 (le req 0 4) ++ zeros 4 ++ fit (mapGetD s.act.table (le req 0 4) (zeros 240)) 240)
    (fun s t ch _ => AnswerFrame [] s t ch) :=
  answersOk_query (fun s ch seq => (rfl : execActRecordRead ch seq s = _)) (fun _ _ _ _ index => if_neg (Nat.not_le.mpr index))

/-- Settles O43: a pass ends in `takeVerdict`, which is split by the verdict; one pending write is switched into the table. -/
theorem verdictsEndThePassAndRecordsAreSwitched : Obligations.VerdictsEndThePassAndRecordsAreSwitched := by
  unfold Obligations.VerdictsEndThePassAndRecordsAreSwitched
  refine ⟨⟨?_, fun _ _ _ _ _ _ due target edits sa plain => fwdHost_exits due target edits sa plain,
      fun _ _ _ _ due target alone => fwdHost_drops due target alone, fun _ _ _ _ due alone => drop_drops due alone,
      fun _ _ _ _ _ due edits sa cluster free => toEngine_queues due edits sa cluster free,
      fun _ _ _ _ due edits sa early => recirc_starts due edits sa early, fun _ _ _ _ due late small free => recirc_limit due late small free⟩,
    actRecordWrite_waits, fun _ _ _ _ _ begun index rest fault => actRecordWrite_refuses begun index rest fault,
    fun _ _ pending => actRecordSwitch_switches pending, actRecordRead_answers⟩
  simp only [List.forall_mem_cons]
  exact ⟨fun s p _ _ due edits sa plain => endPass_exits (rfl : execFwdPort p s = _) due rfl edits sa plain trivial,
    fun s p _ _ due edits sa plain => endPass_exits (rfl : execFlood p s = _) due rfl edits sa plain trivial, fun _ h => (nomatch h)⟩

end Sys2Proof.Machine
end

section
/-! PROOFS. Scribe and the entries of Cistern (O44). -/

namespace Sys2Proof.Machine

open Sys2Proof

set_option Elab.async false

/-! Registers that events, traces and messages to the partner leave alone. -/

/-- A register that neither an event nor a message to the partner nor a Heartwood range counts in. -/
def Unreported (a : Nat) : Prop := ¬ EventReg a ∧ a ≠ r_ITW_CNT_LEARN_TX ∧ a ≠ r_HWD_CNT_RANGE

section
variable {s t u : State} {a : Nat}

theorem Unreported.untraced (quiet : Unreported a) : a ≠ r_GAU_TRACE_STATUS :=
  fun same => quiet.1 (.inl (same ▸ List.mem_cons_self))

theorem Told.regKept (told : Told s t) (quiet : ¬ EventReg a) : RegKept s t a := told.regs a quiet

theorem bump_regKept (s : State) {b : Nat} (other : a ≠ b) : RegKept s (bump s b) a := setReg_regKept _ _ other

theorem eventToManager_regKept (s : State) (code : Nat) (payload : Bytes) (quiet : Unreported a) : RegKept s (eventToManager s code payload) a :=
  (eventToManager_told _ _ _).regKept quiet.1

theorem itwSend_regKept (s : State) (type : Nat) (body : Bytes) (untraced : a ≠ r_GAU_TRACE_STATUS) : RegKept s (itwSend s type body) a := by
  unfold itwSend itwSendAll
  split
  · exact (RegKept.of_regs rfl).trans (trace_regKept _ _ _ _ _ _ _ untraced)
  · exact .of_regs rfl

theorem sendLearn_regKept (s : State) (type : Nat) (body : Bytes) (quiet : Unreported a) : RegKept s (sendLearn s type body) a :=
  (itwSend_regKept _ _ _ quiet.untraced).trans (bump_regKept _ quiet.2.1)

theorem tellApply_regKept (s : State) (l : Loc) (quiet : Unreported a) : RegKept s (tellApply s l) a := by
  unfold tellApply
  split
  · exact sendLearn_regKept _ _ _ quiet
  · exact .of_regs rfl

theorem scribeTrace_regKept (s : State) (kind : Nat) (l : Loc) (e : Bytes) (outcome : Nat) (quiet : Unreported a) :
    RegKept s (scribeTrace s kind l e outcome) a := trace_regKept _ _ _ _ _ _ _ quiet.untraced

theorem RegKept.of_keeps {ps : List Part} (k : Keeps ps s t) (kept : Part.regs ∉ ps := by decide) : RegKept s t a := .of_regs (k.same .regs kept)

theorem hwCount_regKept (s : State) (w : Nat) (quiet : Unreported a) : RegKept s (hwCount s w) a := by
  unfold hwCount
  split
  · exact .of_regs rfl
  · exact bump_regKept _ quiet.2.2

theorem answer_regKept (s : State) (ch seq code : Nat) (body : Bytes) (untraced : a ≠ r_GAU_TRACE_STATUS) :
    RegKept s (answer s ch seq code body) a := by
  unfold answer
  split
  · unfold finish queueResponse
    extract_lets u fw v w
    have noted : RegKept s v a := .of_regs rfl
    exact noted.trans (trace_regKept _ _ _ _ _ _ _ untraced)
  · exact .of_regs rfl

/-- A counter that counts once between two stretches that leave it alone. -/
theorem Counted.of_bump {v w : State} (before : RegKept s u a) (counts : v = bump u a) (after : RegKept v w a) : Counted s w a 1 := by
  unfold Counted
  rw [after.counter, counts, counter_bump_self, before.counter]

end

/-! What holds of the entries (R162, R166, R170). -/

/-- Ways and stash hold the same entries. -/
def SameEntries (s t : State) : Prop := t.cst.ways = s.cst.ways ∧ t.cst.stash = s.cst.stash

section
variable {s t u : State}

theorem SameEntries.of_cst (same : t.cst = s.cst) : SameEntries s t := by
  unfold SameEntries
  rw [same]
  exact ⟨rfl, rfl⟩

theorem SameEntries.of_keeps {ps : List Part} (k : Keeps ps s t) (kept : Part.cst ∉ ps := by decide) : SameEntries s t := .of_cst (k.same .cst kept)

theorem SameEntries.trans (h : SameEntries s t) (k : SameEntries t u) : SameEntries s u := ⟨k.1.trans h.1, k.2.trans h.2⟩

theorem SameEntries.wayGet (h : SameEntries s t) (l : Loc) : wayGet t l = wayGet s l := by
  unfold Machine.wayGet
  rw [h.1, h.2]

theorem SameEntries.wayHolds (h : SameEntries s t) (key : Bytes) : wayHolds t key = wayHolds s key := by
  funext l
  unfold Machine.wayHolds
  rw [h.wayGet]

theorem SameEntries.findKey (h : SameEntries s t) (key : Bytes) : findKey t key = findKey s key := by
  unfold Machine.findKey
  rw [h.wayHolds, h.2]

theorem SameEntries.freeWay (h : SameEntries s t) (b : Nat) : freeWay t b = freeWay s b := by
  unfold Machine.freeWay
  simp only [h.wayGet]

theorem SameEntries.quotaOk (h : SameEntries s t) (slices : t.slices = s.slices) (n : Nat) : quotaOk t n = quotaOk s n := by
  unfold Machine.quotaOk sliceGet entriesOf allEntries
  rw [slices, h.1, h.2]

theorem SameEntries.flushSet (h : SameEntries s t) (n : Option Nat) (types : Nat) (static : Bool) :
    flushSet t n types static = flushSet s n types static := by
  unfold Machine.flushSet allEntries
  rw [h.1, h.2]

theorem SameEntries.resolveLoc (h : SameEntries s t) (epochs : t.cst.epochs = s.cst.epochs) (key : Bytes) (l : Loc) (epoch : BitVec 16) :
    resolveLoc t key l epoch = resolveLoc s key l epoch := by
  unfold Machine.resolveLoc locEpoch epochGet
  rw [h.wayHolds, h.findKey, epochs]

theorem SameEntries.waySet (h : SameEntries s t) (l : Loc) (e : Bytes) : SameEntries (waySet s l e) (waySet t l e) := by
  unfold Machine.waySet SameEntries
  split
  · exact ⟨h.1, by rw [h.2]⟩
  · exact ⟨by rw [h.1], h.2⟩

/-- A state whose entries are those of `s` with one way written. -/
theorem SameEntries.written {l : Loc} {e : Bytes} (h : SameEntries (Machine.waySet s l e) t) :
    Machine.wayGet t l = e ∧ ∀ m, m ≠ l → Machine.wayGet t m = Machine.wayGet s m :=
  ⟨(h.wayGet l).trans (wayGet_waySet_self _ _ _), fun m other => (h.wayGet m).trans (wayGet_waySet_ne _ _ other)⟩

theorem scribeDone_entries (s : State) : SameEntries s (scribeDone s) := ⟨rfl, rfl⟩

theorem refreshed_congr (mode : t.cst.hitMode = s.cst.hitMode) (time : t.time = s.time) (e : Bytes) : refreshed t e = refreshed s e := by
  unfold refreshed ageNow
  rw [mode, stampNow_congr time]

end

/-! Insertion (R175, R179, R201). -/

section
variable {s u : State} {l : Loc} {e : Bytes} {cmd : Option (Nat × Nat)}

theorem addAnswer_entries (u : State) (cmd : Option (Nat × Nat)) (code loc result : Nat) : SameEntries u (addAnswer u cmd code loc result) := by
  unfold addAnswer
  split
  · exact .of_cst (answer_cst _ _ _ _ _)
  · exact .of_cst rfl

theorem addAnswer_regKept {a : Nat} (u : State) (cmd : Option (Nat × Nat)) (code loc result : Nat) (quiet : Unreported a) :
    RegKept u (addAnswer u cmd code loc result) a := by
  unfold addAnswer
  split
  · exact answer_regKept _ _ _ _ _ quiet.untraced
  · exact .of_regs rfl

/-- The command that asked is answered. -/
theorem addAnswer_answers {loc result ch seq : Nat} (asked : cmd = some (ch, seq)) (waits : Unanswered u ch seq) :
    Answered (addAnswer u cmd rcOk loc result) ch seq rcOk (toLe 4 loc ++ toLe 1 result ++ zeros 3) := by
  subst asked
  exact answer_answered _ _ waits

theorem addAnswer_fails {loc result ch seq : Nat} (asked : cmd = some (ch, seq)) (waits : Unanswered u ch seq) :
    Answered (addAnswer u cmd rcNoResource loc result) ch seq rcNoResource [] := by
  subst asked
  exact answer_answered _ _ waits

/-- An entry as it is written under its key: VALID, with the tag of its key (R164). -/
def placed (e : Bytes) : Bytes := putWordBits (putWordBits e 29 22 ((h1 (entKey e)).toNat / 16777216)) 2 2 1

theorem insertNew_places (quota : quotaOk s (entSlice e) = true) (free : freeWay s (buckets (entKey e)).1 = some l) :
    insertNew s e = (scribeTrace (markDirty (bump (waySet s l (placed e)) r_SCB_CNT_INSERT) (placed e)) 1 l (placed e) 0, .inl l) := by
  have room : makeRoom s (entKey e) = some (s, l) := by
    unfold makeRoom
    dsimp only
    rw [free]
  unfold insertNew
  dsimp only
  rw [quota, if_neg (by decide), room]
  rfl

theorem insertNew_quota (full : quotaOk s (entSlice e) = false) :
    insertNew s e = (scribeTrace (insertFailed (bump s r_SCB_CNT_QUOTA) (entSlice e) 1) 1 ⟨false, 0⟩ e 2, .inr 1) := by
  unfold insertNew
  dsimp only
  rw [full]
  rfl

theorem insertFailed_entries (s : State) (n reason : Nat) : SameEntries s (insertFailed s n reason) := by
  unfold insertFailed
  extract_lets k due
  split
  · exact .trans (t := { s with cst := { s.cst with failures := mapErase s.cst.failures n, failSent := mapSet s.cst.failSent n s.time.ticks } })
      ⟨rfl, rfl⟩ (.of_keeps (eventToManager_keeps _ _ _))
  · exact ⟨rfl, rfl⟩

theorem insertFailed_told (s : State) (n reason : Nat) : Told s (insertFailed s n reason) := by
  unfold insertFailed
  extract_lets k due
  split
  · exact .trans (t := { s with cst := { s.cst with failures := mapErase s.cst.failures n, failSent := mapSet s.cst.failSent n s.time.ticks } })
      (.of_parts rfl rfl rfl) (eventToManager_told _ _ _)
  · exact .of_parts rfl rfl rfl

theorem insertFailed_regKept {a : Nat} (s : State) (n reason : Nat) (quiet : Unreported a) : RegKept s (insertFailed s n reason) a :=
  (insertFailed_told _ _ _).regKept quiet.1

end

section
variable {s : State} {key entry e : Bytes} {rep : Bool} {cmd : Option (Nat × Nat)}

theorem scribeInsert_row (taken : s.cst.taken = some (.insert key entry rep cmd)) :
    exec .scribeInsert s = .next (applyInsert (scribeDone s) key entry rep cmd) := by
  show execScribeInsert s = _
  unfold execScribeInsert
  rw [taken]

/-- A command that waits still waits when its request has been taken. -/
theorem Unanswered.scribeDone {ch seq : Nat} (waits : Unanswered s ch seq) : Unanswered (scribeDone s) ch seq := waits.same rfl

theorem scribeDone_regKept (s : State) (a : Nat) : RegKept s (scribeDone s) a := .of_regs rfl

section
variable (taken : s.cst.taken = some (.insert key entry rep cmd)) (aged : e = freshAging s entry)
include taken aged

theorem scribeInsert_places {l : Loc} (absent : findKey s key = none) (quota : quotaOk s (entSlice e) = true)
    (free : freeWay s (buckets (entKey e)).1 = some l) : Completes .scribeInsert s (fun t =>
        wayGet t l = putWordBits (putWordBits e 29 22 ((h1 (entKey e)).toNat / 16777216)) 2 2 1 ∧
        (∀ m, m ≠ l → wayGet t m = wayGet s m) ∧ Counted s t r_SCB_CNT_INSERT 1 ∧
        (∀ ch seq, cmd = some (ch, seq) → Unanswered s ch seq → Answered t ch seq rcOk (toLe 4 (locWord l) ++ toLe 1 0 ++ zeros 3))) := by
  obtain ⟨u, hu⟩ : ∃ u, u = bump (waySet (scribeDone s) l (placed e)) r_SCB_CNT_INSERT := ⟨_, rfl⟩
  obtain ⟨v, hv⟩ : ∃ v, v = scribeTrace (markDirty u (placed e)) 1 l (placed e) 0 := ⟨_, rfl⟩
  have quota' : quotaOk (scribeDone s) (entSlice e) = true := ((scribeDone_entries s).quotaOk rfl _).trans quota
  have ends : applyInsert (scribeDone s) key entry rep cmd = addAnswer v cmd rcOk (locWord l) 0 := by
    unfold applyInsert
    dsimp only
    rw [(scribeDone_entries s).findKey, absent, show freshAging (scribeDone s) entry = e from aged.symm,
      insertNew_places quota' (((scribeDone_entries s).freeWay _).trans free), hv, hu]
  have reported : Keeps [.gauge, .regs, .sqr] u v := by
    rw [hv]
    exact .last (scribeTrace_keeps _ _ _ _ _) ((markDirty_keeps _ _).mono (by decide))
  have inserted : Keeps [.regs] (waySet (scribeDone s) l (placed e)) u := by rw [hu]; exact bump_keeps _ _
  obtain ⟨written, others⟩ := (((SameEntries.of_keeps inserted).trans (.of_keeps reported)).trans (addAnswer_entries v cmd rcOk (locWord l) 0)).written
  have quiet : Unreported r_SCB_CNT_INSERT := by unfold Unreported EventReg; decide
  refine completes_of ((scribeInsert_row taken).trans (congrArg _ ends)) ⟨written, fun m other =>
    (others m other).trans ((scribeDone_entries s).wayGet m), ?_, fun ch seq asked waits => ?_⟩
  · refine .of_bump ((scribeDone_regKept s _).trans (.of_keeps (waySet_keeps _ _ _))) hu (.trans ?_ (addAnswer_regKept _ _ _ _ _ quiet))
    rw [hv]
    exact (RegKept.of_keeps (markDirty_keeps _ _)).trans (scribeTrace_regKept _ _ _ _ _ quiet)
  · exact addAnswer_answers asked (waits.scribeDone.same
      ((reported.same .mbx).trans ((inserted.same .mbx).trans ((waySet_keeps _ _ _).same .mbx))))

theorem scribeInsert_overQuota (absent : findKey s key = none) (full : quotaOk s (entSlice e) = false) :
    Completes .scribeInsert s (fun t => (∀ m, wayGet t m = wayGet s m) ∧
      Counted s t r_SCB_CNT_QUOTA 1 ∧ ∀ ch seq, cmd = some (ch, seq) → Unanswered s ch seq → Answered t ch seq rcNoResource []) := by
  obtain ⟨v, hv⟩ : ∃ v, v = scribeTrace (insertFailed (bump (scribeDone s) r_SCB_CNT_QUOTA) (entSlice e) 1) 1 ⟨false, 0⟩ e 2 := ⟨_, rfl⟩
  have full' : quotaOk (scribeDone s) (entSlice e) = false := ((scribeDone_entries s).quotaOk rfl _).trans full
  have ends : applyInsert (scribeDone s) key entry rep cmd = addAnswer v cmd rcNoResource 0 0 := by
    unfold applyInsert
    dsimp only
    rw [(scribeDone_entries s).findKey, absent, show freshAging (scribeDone s) entry = e from aged.symm, insertNew_quota full', hv]
  have quiet : Unreported r_SCB_CNT_QUOTA := by unfold Unreported EventReg; decide
  have entries : SameEntries (scribeDone s) v := by
    rw [hv]
    exact ((SameEntries.of_keeps (bump_keeps _ _)).trans (insertFailed_entries _ _ _)).trans (.of_keeps (scribeTrace_keeps _ _ _ _ _))
  have told : Told (bump (scribeDone s) r_SCB_CNT_QUOTA) v := by
    rw [hv]
    exact (insertFailed_told _ _ _).trans (trace_told _ _ _ _ _ _ _)
  refine completes_of ((scribeInsert_row taken).trans (congrArg _ ends)) ⟨fun m => ?_, ?_, fun ch seq asked waits =>
    addAnswer_fails asked ((waits.scribeDone.same ((bump_keeps _ _).same .mbx)).told told)⟩
  · exact ((entries.trans (addAnswer_entries _ _ _ _ _)).wayGet m).trans ((scribeDone_entries s).wayGet m)
  · refine .of_bump (scribeDone_regKept s _) rfl (.trans ?_ (addAnswer_regKept _ _ _ _ _ quiet))
    rw [hv]
    exact (insertFailed_regKept _ _ _ quiet).trans (scribeTrace_regKept _ _ _ _ _ quiet)

omit aged in
theorem scribeInsert_leaves {l : Loc} (present : findKey s key = some l) (keep : rep = false) :
    Completes .scribeInsert s (fun t => (∀ m, wayGet t m = wayGet s m) ∧ Counted s t r_SCB_CNT_EXISTS 1 ∧
      ∀ ch seq, cmd = some (ch, seq) → Unanswered s ch seq → Answered t ch seq rcOk (toLe 4 (locWord l) ++ toLe 1 2 ++ zeros 3)) := by
  have ends : applyInsert (scribeDone s) key entry rep cmd = addAnswer (bump (scribeDone s) r_SCB_CNT_EXISTS) cmd rcOk (locWord l) 2 := by
    unfold applyInsert
    dsimp only
    rw [(scribeDone_entries s).findKey, present, keep]
    rfl
  have quiet : Unreported r_SCB_CNT_EXISTS := by unfold Unreported EventReg; decide
  refine completes_of ((scribeInsert_row taken).trans (congrArg _ ends)) ⟨fun m => ?_,
    .of_bump (scribeDone_regKept s _) rfl (addAnswer_regKept _ _ _ _ _ quiet), fun ch seq asked waits => ?_⟩
  · exact (((SameEntries.of_keeps (bump_keeps _ _)).trans (addAnswer_entries _ _ _ _ _)).wayGet m).trans ((scribeDone_entries s).wayGet m)
  · exact addAnswer_answers asked (waits.scribeDone.same ((bump_keeps _ _).same .mbx))

theorem scribeInsert_replaces {l : Loc} (present : findKey s key = some l) (replaces : rep = true)
    (dynamic : entStatic (wayGet s l) = false ∨ cmd.isSome = true) : Completes .scribeInsert s (fun t =>
      wayGet t l = putWordBits (putWordBits e 29 22 ((h1 (entKey e)).toNat / 16777216)) 2 2 1 ∧
      (∀ m, m ≠ l → wayGet t m = wayGet s m) ∧
      ∀ ch seq, cmd = some (ch, seq) → Unanswered s ch seq → Answered t ch seq rcOk (toLe 4 (locWord l) ++ toLe 1 1 ++ zeros 3)) := by
  have admitted : (entStatic (wayGet (scribeDone s) l) && cmd.isNone) = false := by
    rw [(scribeDone_entries s).wayGet]
    rcases dynamic with dynamic | asked
    · rw [dynamic]; rfl
    · rw [Option.isNone_eq_false_iff.mpr asked, Bool.and_false]
  have ends : applyInsert (scribeDone s) key entry rep cmd =
      addAnswer (markDirty (waySet (scribeDone s) l (placed e)) e) cmd rcOk (locWord l) 1 := by
    unfold applyInsert
    dsimp only
    rw [(scribeDone_entries s).findKey, present, replaces, show freshAging (scribeDone s) entry = e from aged.symm]
    exact (if_neg (by decide)).trans (if_neg (ne_true_of_eq_false admitted))
  obtain ⟨written, others⟩ :=
    ((SameEntries.of_keeps (markDirty_keeps (waySet (scribeDone s) l (placed e)) e)).trans (addAnswer_entries _ cmd rcOk (locWord l) 1)).written
  refine completes_of ((scribeInsert_row taken).trans (congrArg _ ends)) ⟨written, fun m other =>
    (others m other).trans ((scribeDone_entries s).wayGet m), fun ch seq asked waits => ?_⟩
  exact addAnswer_answers asked (waits.scribeDone.same (((markDirty_keeps _ _).same .mbx).trans ((waySet_keeps _ _ _).same .mbx)))

end

end

/-! Learning (R172, R180, R183, R294). -/

section
variable {s : State} {key : Bytes} {dest : Word} {ts : Dword} {src prof n : Nat} {fp : Bool}

/-- The state in which a learning request is applied. -/
def learning (s : State) : State := hwCount (hwCount (scribeDone s) 0x049) 0x04A

theorem learning_keeps (s : State) : Keeps [.regs] (scribeDone s) (learning s) := .last (hwCount_keeps _ _) (hwCount_keeps _ _)

theorem learning_entries (s : State) : SameEntries s (learning s) := (scribeDone_entries s).trans (.of_keeps (learning_keeps s))

theorem learning_regKept (s : State) {a : Nat} (quiet : Unreported a) : RegKept s (learning s) a :=
  (scribeDone_regKept s a).trans ((hwCount_regKept _ _ quiet).trans (hwCount_regKept _ _ quiet))

theorem learning_refreshed (s : State) (e : Bytes) : refreshed (learning s) e = refreshed s e :=
  refreshed_congr (congrArg Cistern.hitMode ((learning_keeps s).same .cst)) ((learning_keeps s).same .time) e

theorem learning_hwUse (s : State) (w : Nat) : hwUse (learning s) w = hwUse s w := by
  unfold hwUse hwWord
  rw [(learning_keeps s).same .hw]
  rfl

/-- Within the window the count of moves goes on (R180). -/
theorem learn_window {e : Bytes} (soon : distance 64 ts.toNat (le e 24 8) < hwUse s 0x04A * 256000000) :
    (if hwUse (learning s) 0x04A * 256000000 ≤ distance 64 ts.toNat (le e 24 8) then putMoves (putLe e 24 8 ts.toNat) 0 else e) = e :=
  if_neg (by rw [learning_hwUse]; exact Nat.not_le.mpr soon)

/-- A learned entry written back, traced and told to the partner. -/
def learnPut (s : State) (l : Loc) (e : Bytes) : State := tellApply (scribeTrace (waySet s l e) 4 l e 0) l

theorem learnPut_writes (s : State) (l : Loc) (e : Bytes) : SameEntries (waySet s l e) (learnPut s l e) :=
  (SameEntries.of_keeps (scribeTrace_keeps _ _ _ _ _)).trans (.of_keeps (tellApply_keeps _ _))

theorem learnPut_regKept (s : State) (l : Loc) (e : Bytes) {a : Nat} (quiet : Unreported a) : RegKept s (learnPut s l e) a :=
  ((RegKept.of_keeps (waySet_keeps _ _ _)).trans (scribeTrace_regKept _ _ _ _ _ quiet)).trans (tellApply_regKept _ _ quiet)

/-- A station that appears at another destination moves, or locks after too many moves (R180). -/
def learnMove (s : State) (l : Loc) (e : Bytes) (dest : Word) (ts : Dword) (src : Nat) : State :=
  let e' := if hwUse s 0x04A * 256000000 ≤ distance 64 ts.toNat (le e 24 8) then putMoves (putLe e 24 8 ts.toNat) 0 else e
  let moves := bits (le e' 40 4) 9 5 + 1
  if hwUse s 0x049 < moves then
    eventToManager (bump (learnPut { s with cst := { s.cst with locked := mapSet s.cst.locked (locWord l) s.time.ticks } } l
      (putWordBits (putMoves e' moves) 4 4 1)) r_SCB_CNT_LOCK) 0x8500
      (slice (putWordBits (putMoves e' moves) 4 4 1) 16 8 ++ toLe 4 (BitVec.ofNat 32 (le e 12 4)).toNat ++ toLe 4 dest.toNat ++ toLe 1 moves ++
        zeros 3 ++ toLe 8 ts.toNat)
  else
    learnPut (markDirty (bump s r_SCB_CNT_STATION_MOVE) (putMoves e' moves)) l
      (refreshed (markDirty (bump s r_SCB_CNT_STATION_MOVE) (putMoves e' moves)) (putLearn (putMoves e' moves) dest ts src))

/-- What learn() does with a present entry, by its cases (R180). -/
theorem applyLearn_present {u : State} {l : Loc} (present : findKey u key = some l) (dynamic : entStatic (wayGet u l) = false) :
    applyLearn u key dest ts src prof n =
      if !(later 64 ts.toNat (le (wayGet u l) 32 8) || (ts.toNat = le (wayGet u l) 32 8 && decide (src < bits (le (wayGet u l) 40 4) 4 0))) then
        (if ts.toNat = le (wayGet u l) 32 8 ∧ src = bits (le (wayGet u l) 40 4) 4 0 then u
          else scribeTrace (bump u r_SCB_CNT_STALE_LEARN) 4 l (wayGet u l) 3)
      else if dest = BitVec.ofNat 32 (le (wayGet u l) 12 4) then learnPut u l (refreshed u (putLearn (wayGet u l) dest ts src))
      else if entLocked (wayGet u l) then scribeTrace (bump u r_SCB_CNT_LOCKED_REFUSED) 4 l (wayGet u l) 4
      else learnMove u l (wayGet u l) dest ts src := by
  unfold applyLearn
  rw [present]
  dsimp only
  rw [if_neg (ne_true_of_eq_false dynamic)]
  rfl

theorem scribeLearn_row (taken : s.cst.taken = some (.learn key dest ts src prof n fp)) (applies : isStandby s = false ∨ fp = true) :
    exec .scribeLearn s = .next (applyLearn (learning s) key dest ts src prof n) := by
  have own : (isStandby (scribeDone s) && !fp) = false := by
    rcases applies with actor | partner
    · rw [show isStandby (scribeDone s) = false from actor]; rfl
    · rw [partner, Bool.not_true, Bool.and_false]
  show execScribeLearn s = _
  unfold execScribeLearn
  rw [taken]
  exact if_neg (ne_true_of_eq_false own)

/-- A request whose source and stamp pass before the entry's own (R180). -/
def Supersedes (e : Bytes) (ts : Dword) (src : Nat) : Prop :=
  later 64 ts.toNat (le e 32 8) = true ∨ ts.toNat = le e 32 8 ∧ src < bits (le e 40 4) 4 0

section
variable {l : Loc} {e : Bytes} (taken : s.cst.taken = some (.learn key dest ts src prof n fp)) (applies : isStandby s = false ∨ fp = true)
  (present : findKey s key = some l) (entry : e = wayGet s l) (dynamic : entStatic e = false)
include taken applies present entry dynamic

/-- What a learning request does with a present entry, in terms of the state before it. -/
theorem scribeLearn_present : exec .scribeLearn s = .next (
    if !(later 64 ts.toNat (le e 32 8) || (ts.toNat = le e 32 8 && decide (src < bits (le e 40 4) 4 0))) then
      (if ts.toNat = le e 32 8 ∧ src = bits (le e 40 4) 4 0 then learning s
        else scribeTrace (bump (learning s) r_SCB_CNT_STALE_LEARN) 4 l e 3)
    else if dest = BitVec.ofNat 32 (le e 12 4) then learnPut (learning s) l (refreshed (learning s) (putLearn e dest ts src))
    else if entLocked e then scribeTrace (bump (learning s) r_SCB_CNT_LOCKED_REFUSED) 4 l e 4
    else learnMove (learning s) l e dest ts src) := by
  have same : wayGet (learning s) l = e := ((learning_entries s).wayGet l).trans entry.symm
  rw [scribeLearn_row taken applies, applyLearn_present (((learning_entries s).findKey key).trans present) (by rw [same]; exact dynamic), same]

/-- A request that supersedes the entry, by its destination and lock. -/
theorem scribeLearn_superseding (newer : Supersedes e ts src) : exec .scribeLearn s = .next (
    if dest = BitVec.ofNat 32 (le e 12 4) then learnPut (learning s) l (refreshed (learning s) (putLearn e dest ts src))
    else if entLocked e then scribeTrace (bump (learning s) r_SCB_CNT_LOCKED_REFUSED) 4 l e 4
    else learnMove (learning s) l e dest ts src) := by
  have passes : (later 64 ts.toNat (le e 32 8) || (decide (ts.toNat = le e 32 8) && decide (src < bits (le e 40 4) 4 0))) = true := by
    rcases newer with late | ⟨equal, below⟩
    · rw [late, Bool.true_or]
    · rw [decide_eq_true equal, decide_eq_true below, Bool.and_self, Bool.or_true]
  rw [scribeLearn_present taken applies present entry dynamic, passes]
  exact congrArg _ (if_neg (by decide))

theorem scribeLearn_refreshes (newer : Supersedes e ts src) (here : le e 12 4 = dest.toNat) :
    Completes .scribeLearn s (fun t => wayGet t l = refreshed s (putLearn e dest ts src) ∧ ∀ m, m ≠ l → wayGet t m = wayGet s m) := by
  have same : dest = BitVec.ofNat 32 (le e 12 4) := by rw [here, BitVec.ofNat_toNat, BitVec.setWidth_eq]
  obtain ⟨written, others⟩ := (learnPut_writes (learning s) l (refreshed (learning s) (putLearn e dest ts src))).written
  exact completes_of ((scribeLearn_superseding taken applies present entry dynamic newer).trans (congrArg _ (if_pos same)))
    ⟨written.trans (learning_refreshed _ _), fun m other => (others m other).trans ((learning_entries s).wayGet m)⟩

theorem scribeLearn_locked (newer : Supersedes e ts src) (moved : BitVec.ofNat 32 (le e 12 4) ≠ dest) (locked : entLocked e = true) :
    Completes .scribeLearn s (fun t => (∀ m, wayGet t m = wayGet s m) ∧ Counted s t r_SCB_CNT_LOCKED_REFUSED 1) := by
  have quiet : Unreported r_SCB_CNT_LOCKED_REFUSED := by unfold Unreported EventReg; decide
  refine completes_of ((scribeLearn_superseding taken applies present entry dynamic newer).trans
    (congrArg _ ((if_neg (Ne.symm moved)).trans (if_pos locked)))) ⟨fun m => ?_, ?_⟩
  · exact ((learning_entries s).trans ((SameEntries.of_keeps (bump_keeps _ _)).trans (.of_keeps (scribeTrace_keeps _ _ _ _ _)))).wayGet m
  · exact .of_bump (learning_regKept s quiet) rfl (scribeTrace_regKept _ _ _ _ _ quiet)

section
variable (newer : Supersedes e ts src) (moved : BitVec.ofNat 32 (le e 12 4) ≠ dest) (unlocked : entLocked e = false)
  (soon : distance 64 ts.toNat (le e 24 8) < hwUse s 0x04A * 256000000)
include newer moved unlocked soon

theorem scribeLearn_moves (few : bits (le e 40 4) 9 5 + 1 ≤ hwUse s 0x049) : Completes .scribeLearn s (fun t =>
      wayGet t l = refreshed s (putLearn (putMoves e (bits (le e 40 4) 9 5 + 1)) dest ts src) ∧
      (∀ m, m ≠ l → wayGet t m = wayGet s m) ∧ Counted s t r_SCB_CNT_STATION_MOVE 1) := by
  obtain ⟨e', he⟩ : ∃ e', e' = putMoves e (bits (le e 40 4) 9 5 + 1) := ⟨_, rfl⟩
  obtain ⟨u, hu⟩ : ∃ u, u = markDirty (bump (learning s) r_SCB_CNT_STATION_MOVE) e' := ⟨_, rfl⟩
  have window := learn_window (e := e) (ts := ts) soon
  have moves : learnMove (learning s) l e dest ts src = learnPut u l (refreshed u (putLearn e' dest ts src)) := by
    unfold learnMove
    dsimp only
    rw [window, if_neg (by rw [learning_hwUse]; exact Nat.not_lt.mpr few), hu, he]
  have kept : Keeps [.regs, .sqr] (learning s) u := by
    rw [hu]
    exact .last (markDirty_keeps _ _) ((bump_keeps _ _).mono (by decide))
  have quiet : Unreported r_SCB_CNT_STATION_MOVE := by unfold Unreported EventReg; decide
  have aged : refreshed u (putLearn e' dest ts src) = refreshed s (putLearn e' dest ts src) :=
    (refreshed_congr (congrArg Cistern.hitMode (kept.same .cst)) (kept.same .time) _).trans (learning_refreshed _ _)
  obtain ⟨written, others⟩ := (learnPut_writes u l (refreshed u (putLearn e' dest ts src))).written
  rw [← he]
  refine completes_of ((scribeLearn_superseding taken applies present entry dynamic newer).trans
    (congrArg _ ((if_neg (Ne.symm moved)).trans ((if_neg (ne_true_of_eq_false unlocked)).trans moves)))) ⟨written.trans aged, fun m other => ?_, ?_⟩
  · exact (others m other).trans (((learning_entries s).trans (.of_keeps kept)).wayGet m)
  · refine .of_bump (learning_regKept s quiet) rfl (.trans (t := u) ?_ (learnPut_regKept _ _ _ quiet))
    rw [hu]
    exact .of_keeps (markDirty_keeps _ _)

theorem scribeLearn_locks (many : hwUse s 0x049 < bits (le e 40 4) 9 5 + 1) : Completes .scribeLearn s (fun t =>
      wayGet t l = putWordBits (putMoves e (bits (le e 40 4) 9 5 + 1)) 4 4 1 ∧ (∀ m, m ≠ l → wayGet t m = wayGet s m) ∧
      Counted s t r_SCB_CNT_LOCK 1) := by
  obtain ⟨u, hu⟩ : ∃ u : State, u = { learning s with cst := { (learning s).cst with
    locked := mapSet (learning s).cst.locked (locWord l) (learning s).time.ticks } } := ⟨_, rfl⟩
  obtain ⟨e', he⟩ : ∃ e', e' = putWordBits (putMoves e (bits (le e 40 4) 9 5 + 1)) 4 4 1 := ⟨_, rfl⟩
  have window := learn_window (e := e) (ts := ts) soon
  have locks : learnMove (learning s) l e dest ts src = eventToManager (bump (learnPut u l e') r_SCB_CNT_LOCK) 0x8500
      (slice e' 16 8 ++ toLe 4 (BitVec.ofNat 32 (le e 12 4)).toNat ++ toLe 4 dest.toNat ++ toLe 1 (bits (le e 40 4) 9 5 + 1) ++
        zeros 3 ++ toLe 8 ts.toNat) := by
    unfold learnMove
    dsimp only
    rw [window, if_pos (by rw [learning_hwUse]; exact many), hu, he]
  have quiet : Unreported r_SCB_CNT_LOCK := by unfold Unreported EventReg; decide
  have entries : SameEntries s u := by
    rw [hu]
    exact (learning_entries s).trans ⟨rfl, rfl⟩
  have regs : RegKept s u r_SCB_CNT_LOCK := by
    rw [hu]
    exact learning_regKept s quiet
  rw [← he]
  refine completes_of ((scribeLearn_superseding taken applies present entry dynamic newer).trans
    (congrArg _ ((if_neg (Ne.symm moved)).trans ((if_neg (ne_true_of_eq_false unlocked)).trans locks)))) ?_
  obtain ⟨written, others⟩ := (((learnPut_writes u l e').trans (.of_keeps (bump_keeps _ _))).trans (.of_keeps (eventToManager_keeps _ 0x8500
    (slice e' 16 8 ++ toLe 4 (BitVec.ofNat 32 (le e 12 4)).toNat ++ toLe 4 dest.toNat ++ toLe 1 (bits (le e 40 4) 9 5 + 1) ++
        zeros 3 ++ toLe 8 ts.toNat)))).written
  exact ⟨written, fun m other => (others m other).trans (entries.wayGet m),
    .of_bump (regs.trans (learnPut_regKept _ _ _ quiet)) rfl (eventToManager_regKept _ _ _ quiet)⟩

end

theorem scribeLearn_stale (older : later 64 ts.toNat (le e 32 8) = false) (apart : ts.toNat ≠ le e 32 8) :
    Completes .scribeLearn s (fun t => (∀ m, wayGet t m = wayGet s m) ∧ Counted s t r_SCB_CNT_STALE_LEARN 1) := by
  have quiet : Unreported r_SCB_CNT_STALE_LEARN := by unfold Unreported EventReg; decide
  have fails : (later 64 ts.toNat (le e 32 8) || (decide (ts.toNat = le e 32 8) && decide (src < bits (le e 40 4) 4 0))) = false := by
    rw [older, decide_eq_false apart, Bool.false_and, Bool.or_self]
  refine completes_of ((scribeLearn_present taken applies present entry dynamic).trans (congrArg _ ((if_pos (by rw [fails]; rfl)).trans
    (if_neg (fun h => apart h.1))))) ⟨fun m => ?_, ?_⟩
  · exact ((learning_entries s).trans ((SameEntries.of_keeps (bump_keeps _ _)).trans (.of_keeps (scribeTrace_keeps _ _ _ _ _)))).wayGet m
  · exact .of_bump (learning_regKept s quiet) rfl (scribeTrace_regKept _ _ _ _ _ quiet)

end

theorem scribeLearn_standby (taken : s.cst.taken = some (.learn key dest ts src prof n false)) (standby : isStandby s = true) :
    Completes .scribeLearn s (fun t => t.cst = { s.cst with taken := none } ∧ Counted s t r_ITW_CNT_LEARN_TX 1) := by
  have row : exec .scribeLearn s =
      .next (sendLearn (scribeDone s) 0x02 (slice key 1 8 ++ toLe 4 dest.toNat ++ toLe 8 ts.toNat ++ toLe 1 src ++ toLe 1 prof)) := by
    show execScribeLearn s = _
    unfold execScribeLearn
    rw [taken]
    exact if_pos (by rw [show isStandby (scribeDone s) = true from standby]; rfl)
  refine completes_of row ⟨(sendLearn_keeps _ _ _).same .cst, ?_⟩
  exact .of_bump ((scribeDone_regKept s _).trans (itwSend_regKept _ _ _ (by decide))) rfl (.of_regs rfl)

end

/-! Deletion and flushes (R173, R177, R182). -/

section
variable {s : State} {key : Bytes} {st : Bool} {cmd : Option (Nat × Nat)}

theorem promoteInto_entries (s : State) (l : Loc) : SameEntries s (promoteInto s l) := by
  unfold promoteInto
  split
  · exact ⟨rfl, rfl⟩
  · split <;> exact ⟨rfl, rfl⟩

theorem promoteInto_regs (s : State) (l : Loc) : (promoteInto s l).regs = s.regs := (promoteInto_keeps s l).same .regs

/-- A deletion writes zeros over its way and counts once. -/
theorem deleteAt_deletes (s : State) (l : Loc) : SameEntries (waySet s l (zeros 64)) (deleteAt s l) ∧ Counted s (deleteAt s l) r_SCB_CNT_DELETE 1 := by
  have quiet : Unreported r_SCB_CNT_DELETE := by unfold Unreported EventReg; decide
  unfold deleteAt
  extract_lets e u cst v w
  have emptied : SameEntries (waySet s l (zeros 64)) u :=
    (SameEntries.of_keeps (markDirty_keeps _ _)).trans (.of_keeps (bump_keeps _ _))
  have unlocked : SameEntries u v := ⟨rfl, rfl⟩
  have told : SameEntries v w ∧ RegKept v w r_SCB_CNT_DELETE := by
    show SameEntries v (if _ then _ else _) ∧ RegKept v (if _ then _ else _) _
    split
    · exact ⟨.of_keeps (sendLearn_keeps _ _ _), sendLearn_regKept _ _ _ quiet⟩
    · exact ⟨⟨rfl, rfl⟩, .of_regs rfl⟩
  have ended : SameEntries w (promoteInto (scribeTrace w 2 l e 0) l) := (SameEntries.of_keeps (scribeTrace_keeps _ _ _ _ _)).trans (promoteInto_entries _ _)
  refine ⟨((emptied.trans unlocked).trans told.1).trans ended, ?_⟩
  refine .of_bump (u := markDirty (waySet s l (zeros 64)) e) ?_ (v := u) rfl ?_
  · exact (RegKept.of_keeps (waySet_keeps _ _ _)).trans (.of_keeps (markDirty_keeps _ _))
  · exact ((RegKept.of_regs rfl).trans told.2).trans ((scribeTrace_regKept _ _ _ _ _ quiet).trans (.of_regs (promoteInto_regs _ _)))

theorem deleteAt_mbx (s : State) (l : Loc) : (deleteAt s l).mbx = s.mbx := (deleteAt_keeps s l).same .mbx

/-- The answer of a deletion, when a command asked for it. -/
def deletionTold (s : State) (cmd : Option (Nat × Nat)) (found : Bool) : State :=
  match cmd with
  | some (ch, seq) => answer s ch seq rcOk (toLe 1 (b2n found) ++ zeros 3)
  | none => s

theorem deletionTold_cst (s : State) (cmd : Option (Nat × Nat)) (found : Bool) : (deletionTold s cmd found).cst = s.cst := by
  unfold deletionTold
  split
  · exact answer_cst _ _ _ _ _
  · rfl

theorem deletionTold_regKept (s : State) (cmd : Option (Nat × Nat)) (found : Bool) {a : Nat} (untraced : a ≠ r_GAU_TRACE_STATUS) :
    RegKept s (deletionTold s cmd found) a := by
  unfold deletionTold
  split
  · exact answer_regKept _ _ _ _ _ untraced
  · exact .of_regs rfl

theorem deletionTold_answers {u : State} {found : Bool} {ch seq : Nat} (asked : cmd = some (ch, seq)) (waits : Unanswered u ch seq) :
    Answered (deletionTold u cmd found) ch seq rcOk (toLe 1 (b2n found) ++ zeros 3) := by
  subst asked
  exact answer_answered _ _ waits

theorem scribeDelete_absent (taken : s.cst.taken = some (.delete key none st cmd)) (absent : findKey s key = none) :
    Completes .scribeDelete s (fun t => t.cst = { s.cst with taken := none } ∧
      ∀ ch seq, cmd = some (ch, seq) → Unanswered s ch seq → Answered t ch seq rcOk (zeros 4)) := by
  have row : exec .scribeDelete s = .next (deletionTold (scribeDone s) cmd false) := by
    show execScribeDelete s = _
    unfold execScribeDelete
    rw [taken]
    dsimp only
    rw [(scribeDone_entries s).findKey, absent]
    rfl
  exact completes_of row ⟨deletionTold_cst _ _ _, fun ch seq asked waits => deletionTold_answers asked waits.scribeDone⟩

theorem scribeDelete_deletes {l : Loc} (taken : s.cst.taken = some (.delete key none st cmd)) (present : findKey s key = some l)
    (allowed : entStatic (wayGet s l) = false ∨ st = true) : Completes .scribeDelete s (fun t =>
      wayGet t l = zeros 64 ∧ (∀ m, m ≠ l → wayGet t m = wayGet s m) ∧ Counted s t r_SCB_CNT_DELETE 1 ∧
      ∀ ch seq, cmd = some (ch, seq) → Unanswered s ch seq → Answered t ch seq rcOk ([1#8, 0#8, 0#8, 0#8])) := by
  have admitted : (entStatic (wayGet (scribeDone s) l) && !st) = false := by
    rw [(scribeDone_entries s).wayGet]
    rcases allowed with dynamic | allowed
    · rw [dynamic]; rfl
    · rw [allowed, Bool.not_true, Bool.and_false]
  have row : exec .scribeDelete s = .next (deletionTold (deleteAt (scribeDone s) l) cmd true) := by
    show execScribeDelete s = _
    unfold execScribeDelete
    rw [taken]
    dsimp only
    rw [(scribeDone_entries s).findKey, present]
    exact if_neg (ne_true_of_eq_false admitted)
  obtain ⟨entries, counted⟩ := deleteAt_deletes (scribeDone s) l
  obtain ⟨written, others⟩ := (entries.trans (.of_cst (deletionTold_cst _ cmd true))).written
  refine completes_of row ⟨written, fun m other => (others m other).trans ((scribeDone_entries s).wayGet m), ?_, fun ch seq asked waits =>
    deletionTold_answers asked (waits.scribeDone.same (deleteAt_mbx _ _))⟩
  unfold Counted at counted ⊢
  rw [(deletionTold_regKept _ cmd true (by decide)).counter, counted, (scribeDone_regKept s _).counter]

theorem scribeDelete_static {l : Loc} (taken : s.cst.taken = some (.delete key none st cmd)) (present : findKey s key = some l)
    (static : entStatic (wayGet s l) = true) (forbidden : st = false) :
    Completes .scribeDelete s (fun t => t.cst = { s.cst with taken := none } ∧ Counted s t r_SCB_CNT_STATIC_CONFLICT 1) := by
  have row : exec .scribeDelete s = .next (bump (scribeDone s) r_SCB_CNT_STATIC_CONFLICT) := by
    show execScribeDelete s = _
    unfold execScribeDelete
    rw [taken]
    dsimp only
    rw [(scribeDone_entries s).findKey, present]
    exact if_pos (by rw [(scribeDone_entries s).wayGet, static, forbidden]; rfl)
  exact completes_of row ⟨rfl, counted_bump _ _⟩

/-- A run of deletions empties its ways and no other. -/
theorem deleteAt_foldl (ls : List Loc) (s : State) : (∀ l ∈ ls, wayGet (ls.foldl deleteAt s) l = zeros 64) ∧
    ∀ l, l ∉ ls → wayGet (ls.foldl deleteAt s) l = wayGet s l := by
  induction ls generalizing s with
  | nil => exact ⟨fun _ member => absurd member List.not_mem_nil, fun _ _ => rfl⟩
  | cons first rest ih =>
    obtain ⟨emptied, kept⟩ := ih (deleteAt s first)
    obtain ⟨written, others⟩ := (deleteAt_deletes s first).1.written
    rw [List.foldl_cons]
    refine ⟨fun l member => ?_, fun l absent => ?_⟩
    · by_cases later : l ∈ rest
      · exact emptied l later
      · rw [kept l later, (List.mem_cons.mp member).resolve_right later, written]
    · rw [kept l (fun h => absent (List.mem_cons_of_mem _ h)), others l (fun h => absent (h ▸ List.mem_cons_self))]

theorem scribeDelete_flushes {n : Option Nat} {types ch seq : Nat} {static : Bool} (taken : s.cst.taken = some (.flush n types static (ch, seq))) :
    Completes .scribeDelete s (fun t =>
    (∀ l ∈ flushSet s n types static, wayGet t l = zeros 64) ∧ (∀ l, l ∉ flushSet s n types static → wayGet t l = wayGet s l) ∧
    (Unanswered s ch seq → Answered t ch seq rcOk (toLe 4 (flushSet s n types static).length))) := by
  have row : exec .scribeDelete s =
      .next (answer ((flushSet s n types static).foldl deleteAt (scribeDone s)) ch seq rcOk (toLe 4 (flushSet s n types static).length)) := by
    show execScribeDelete s = _
    unfold execScribeDelete
    rw [taken]
    dsimp only
    rw [(scribeDone_entries s).flushSet]
  obtain ⟨emptied, kept⟩ := deleteAt_foldl (flushSet s n types static) (scribeDone s)
  have mbx : ((flushSet s n types static).foldl deleteAt (scribeDone s)).mbx = s.mbx := foldl_same (fun u => u.mbx) (fun u l => deleteAt_mbx u l) _ _
  refine completes_of row ⟨fun l member => ?_, fun l absent => ?_, fun waits => answer_answered _ _ (waits.same mbx)⟩
  · rw [wayGet_congr (answer_cst _ _ _ _ _), emptied l member]
  · rw [wayGet_congr (answer_cst _ _ _ _ _), kept l absent, (scribeDone_entries s).wayGet]

/-! Updates in place (R172, R229). -/

theorem scribeUpdate_updates {l : Loc} {epoch : BitVec 16} {off w : Nat} {v : Dword} (taken : s.cst.taken = some (.update key l epoch off w v)) :
    (∀ m, resolveLoc s key l epoch = some m → entStatic (wayGet s m) = false → Completes .scribeUpdate s (fun t =>
      wayGet t m = putEntryField (wayGet s m) off w v.toNat ∧ ∀ k, k ≠ m → wayGet t k = wayGet s k)) ∧
    (resolveLoc s key l epoch = none → Completes .scribeUpdate s (fun t => t.cst = { s.cst with taken := none } ∧
      Counted s t r_CST_CNT_UPDATE_LOST 1)) := by
  have row : exec .scribeUpdate s = .next (updateEntry (scribeDone s) key l epoch off w v.toNat) := by
    show execScribeUpdate s = _
    unfold execScribeUpdate
    rw [taken]
  have resolves : resolveLoc (scribeDone s) key l epoch = resolveLoc s key l epoch := (scribeDone_entries s).resolveLoc rfl _ _ _
  refine ⟨fun m resolved dynamic => ?_, fun lost => ?_⟩
  · rw [updateEntry_updates _ _ _ (resolves.trans resolved) (by rw [(scribeDone_entries s).wayGet]; exact dynamic), (scribeDone_entries s).wayGet] at row
    obtain ⟨written, others⟩ := (SameEntries.of_keeps (markDirty_keeps (waySet (scribeDone s) m (putEntryField (wayGet s m) off w v.toNat)) (wayGet s m))).written
    exact completes_of row ⟨written, fun k other => (others k other).trans ((scribeDone_entries s).wayGet k)⟩
  · have nothing : updateEntry (scribeDone s) key l epoch off w v.toNat = bump (scribeDone s) r_CST_CNT_UPDATE_LOST := by
      unfold updateEntry
      rw [resolves, lost]
    exact completes_of (row.trans (congrArg _ nothing)) ⟨rfl, counted_bump _ _⟩

end

/-! Promotion from the stash (R170, R177). -/

section
variable {s : State}

theorem epochGet_epochAdd_self (s : State) {l : Loc} (way : l.stash = false) (n : Nat) :
    epochGet (epochAdd s l n) (l.idx / 4) = epochGet s (l.idx / 4) + BitVec.ofNat 16 n := by
  unfold epochAdd
  rw [way, if_neg Bool.false_ne_true]
  show mapGetD (if _ then _ else _) _ _ = _
  split
  · next zero => rw [mapGetD, mapGet_mapErase_self]; exact zero.symm
  · exact mapGetD_mapSet_self _ _ _ _

theorem epochAdd_stash (s : State) {l : Loc} (stash : l.stash = true) (n : Nat) : epochAdd s l n = s := by
  unfold epochAdd
  rw [stash]
  rfl

theorem epochAdd_entries (s : State) (l : Loc) (n : Nat) : SameEntries s (epochAdd s l n) ∧ (epochAdd s l n).cst.queue = s.cst.queue := by
  unfold epochAdd
  split
  · exact ⟨⟨rfl, rfl⟩, rfl⟩
  · exact ⟨⟨rfl, rfl⟩, rfl⟩

theorem waySet_settings (s : State) (l : Loc) (e : Bytes) : (waySet s l e).cst.epochs = s.cst.epochs ∧ (waySet s l e).cst.queue = s.cst.queue := by
  unfold waySet
  split <;> exact ⟨rfl, rfl⟩

/-- An entry that leaves the stash for a way: the way holds it, its place is free, and the way's bucket has a new epoch. -/
theorem relocate_promotes (s : State) (i w : Nat) :
    wayGet (relocate s ⟨true, i⟩ ⟨false, w⟩) ⟨false, w⟩ = wayGet s ⟨true, i⟩ ∧ wayGet (relocate s ⟨true, i⟩ ⟨false, w⟩) ⟨true, i⟩ = zeros 64 ∧
    (∀ m, m ≠ ⟨false, w⟩ → m ≠ ⟨true, i⟩ → wayGet (relocate s ⟨true, i⟩ ⟨false, w⟩) m = wayGet s m) ∧
    epochGet (relocate s ⟨true, i⟩ ⟨false, w⟩) (w / 4) = epochGet s (w / 4) + 2 ∧
    (relocate s ⟨true, i⟩ ⟨false, w⟩).cst.queue = s.cst.queue ∧ Counted s (relocate s ⟨true, i⟩ ⟨false, w⟩) r_SCB_CNT_RELOCATE 1 := by
  have quiet : Unreported r_SCB_CNT_RELOCATE := by unfold Unreported EventReg; decide
  unfold relocate
  rw [epochAdd_stash s (l := ⟨true, i⟩) rfl]
  extract_lets e a b cst c
  obtain ⟨sameA, queueA⟩ := epochAdd_entries s ⟨false, w⟩ 2
  have epochA : epochGet a (w / 4) = epochGet s (w / 4) + 2 := epochGet_epochAdd_self s rfl 2
  obtain ⟨epochs1, queue1⟩ := waySet_settings a ⟨false, w⟩ e
  obtain ⟨epochs2, queue2⟩ := waySet_settings (waySet a ⟨false, w⟩ e) ⟨true, i⟩ (zeros 64)
  have unlocked : SameEntries b c := ⟨rfl, rfl⟩
  have reported : Keeps [.gauge, .regs] c (scribeTrace (bump c r_SCB_CNT_RELOCATE) 3 ⟨false, w⟩ e 0) :=
    .last (scribeTrace_keeps _ _ _ _ _) ((bump_keeps _ _).mono (by decide))
  obtain ⟨freed, others⟩ := (unlocked.trans (.of_keeps reported)).written
  refine ⟨?_, freed, fun m notWay notStash => ?_, ?_, ?_, ?_⟩
  · rw [others ⟨false, w⟩ (by simp), wayGet_waySet_self]
  · rw [others m notStash, wayGet_waySet_ne _ _ notWay, sameA.wayGet]
  · have epochs : (scribeTrace (bump c r_SCB_CNT_RELOCATE) 3 ⟨false, w⟩ e 0).cst.epochs = a.cst.epochs :=
      (congrArg Cistern.epochs (reported.same .cst)).trans (epochs2.trans epochs1)
    unfold epochGet at epochA ⊢
    rw [epochs, epochA]
  · exact (congrArg Cistern.queue (reported.same .cst)).trans ((queue2.trans queue1).trans queueA)
  · have quietly : RegKept s c r_SCB_CNT_RELOCATE := ((RegKept.of_keeps (epochAdd_keeps s ⟨false, w⟩ 2)).trans
      ((RegKept.of_keeps (waySet_keeps _ _ _)).trans (.of_keeps (waySet_keeps _ _ _)))).trans (.of_regs rfl)
    exact .of_bump quietly rfl (scribeTrace_regKept _ _ _ _ _ quiet)

theorem stashPromote_promotes {i w : Nat} {rest : List ScribeReq} (idle : s.cst.taken = none) (queue : s.cst.queue = .promote i w :: rest)
    (valid : entValid (wayGet s ⟨true, i⟩) = true) (free : entValid (wayGet s ⟨false, w⟩) = false)
    (candidate : w / 4 = (buckets (entKey (wayGet s ⟨true, i⟩))).1 ∨ w / 4 = (buckets (entKey (wayGet s ⟨true, i⟩))).2) :
    Completes .stashPromote s (fun t => wayGet t ⟨false, w⟩ = wayGet s ⟨true, i⟩ ∧ wayGet t ⟨true, i⟩ = zeros 64 ∧
      (∀ m, m ≠ ⟨false, w⟩ → m ≠ ⟨true, i⟩ → wayGet t m = wayGet s m) ∧ epochGet t (w / 4) = epochGet s (w / 4) + 2 ∧
      t.cst.queue = rest ∧ Counted s t r_SCB_CNT_RELOCATE 1) := by
  refine completes_of ?_ (relocate_promotes { s with cst := { s.cst with queue := rest } } i w)
  show execStashPromote s = _
  unfold execStashPromote
  rw [idle, queue]
  exact congrArg Host.Outcome.next (if_pos ⟨valid, ne_true_of_eq_false free, candidate⟩)

theorem scribeRequest_takes {r : ScribeReq} {rest : List ScribeReq} (idle : s.cst.taken = none) (queue : s.cst.queue = r :: rest) :
    exec .scribeRequest s = .next { s with cst := { s.cst with taken := some r, queue := rest } } := by
  show execScribeRequest s = _
  unfold execScribeRequest
  rw [idle, queue]

end

/-- Settles O44: each request is applied to the state in which it has been taken; reports change neither entries nor its counter. -/
theorem scribeAppliesRequestsToEntries : Obligations.ScribeAppliesRequestsToEntries := by
  unfold Obligations.ScribeAppliesRequestsToEntries
  refine ⟨fun _ _ _ idle queue => scribeRequest_takes idle queue, fun _ _ _ _ _ _ taken aged => ⟨fun _ absent quota free =>
      scribeInsert_places taken aged absent quota free, scribeInsert_overQuota taken aged, fun _ present keep => scribeInsert_leaves taken present keep,
      fun _ present replaces dynamic => scribeInsert_replaces taken aged present replaces dynamic⟩, ?_,
    fun _ _ _ _ _ _ _ taken standby => scribeLearn_standby taken standby,
    fun _ _ _ _ taken => ⟨scribeDelete_absent taken, fun _ present allowed => scribeDelete_deletes taken present allowed,
      fun _ present static forbidden => scribeDelete_static taken present static forbidden⟩,
    fun _ _ _ _ _ _ taken => scribeDelete_flushes taken, fun _ _ _ _ _ _ _ taken => scribeUpdate_updates taken,
    fun _ _ _ _ idle queue valid free candidate => stashPromote_promotes idle queue valid free candidate⟩
  intro s key dest ts src prof n fp l e taken applies present entry dynamic
  exact ⟨fun newer => ⟨scribeLearn_refreshes taken applies present entry dynamic newer, scribeLearn_locked taken applies present entry dynamic newer,
      scribeLearn_moves taken applies present entry dynamic newer, scribeLearn_locks taken applies present entry dynamic newer⟩,
    scribeLearn_stale taken applies present entry dynamic⟩

end Sys2Proof.Machine
end

section
/-! PROOFS. Aging, locks and errors of Cistern, and its commands (O45). -/

namespace Sys2Proof.Machine

open Sys2Proof

set_option Elab.async false

/-! Held results and marks (R169). -/

section
variable {s : State} {st pass ord : Nat} {seq : Word}

theorem pairFind_marked (s : State) {pk : PairKey} {found : PairEntry} (held : pairFind s pk = some found) :
    ((s.cst.pairing.map (fun x => if x.1 = pk then (x.1, PairEntry.mark) else x)).find? (fun x => x.1 = pk)).map (fun x => x.2) = some .mark := by
  unfold pairFind at held
  generalize s.cst.pairing = l at held ⊢
  induction l with
  | nil => exact nomatch held
  | cons x l ih =>
    rw [List.map_cons]
    by_cases named : x.1 = pk
    · rw [if_pos named, List.find?_cons_of_pos (by simpa using named)]
      rfl
    · rw [if_neg named, List.find?_cons_of_neg (by simpa using named)]
      rw [List.find?_cons_of_neg (by simpa using named)] at held
      exact ih held

theorem pairResultExpire_marks {a : Dword} {b : Bytes} {c : Option LastHit} (held : pairFind s ⟨st, seq, pass, ord⟩ = some (.held a b c)) :
    Completes (.pairResultExpire st seq pass ord) s (fun t =>
    pairFind t ⟨st, seq, pass, ord⟩ = some .mark ∧ Counted s t r_CST_CNT_PAIR_EXPIRED 1 ∧ ChangesOnly [.cst, .regs] s t) := by
  obtain ⟨u, hu⟩ : ∃ u : State, u = { s with cst := { s.cst with
    pairing := s.cst.pairing.map (fun x => if x.1 = ⟨st, seq, pass, ord⟩ then (x.1, .mark) else x) } } := ⟨_, rfl⟩
  have row : exec (.pairResultExpire st seq pass ord) s = .next (bump u r_CST_CNT_PAIR_EXPIRED) := by
    show execPairResultExpire st seq pass ord s = _
    unfold execPairResultExpire
    dsimp only
    rw [held, hu]
  have marked : Keeps [.cst, .regs] s u := by
    rw [hu]
    exact .of_changes (.of_patch rfl)
  refine completes_of row ⟨?_, .of_bump (.of_regs (by rw [hu])) rfl (.of_regs rfl), (Keeps.last (bump_keeps _ _) marked).frame⟩
  unfold pairFind
  rw [(bump_keeps _ _).same .cst, hu]
  exact pairFind_marked s held

theorem pairMarkExpire_forgets (mark : pairFind s ⟨st, seq, pass, ord⟩ = some .mark) :
    Completes (.pairMarkExpire st seq pass ord) s (fun t => pairFind t ⟨st, seq, pass, ord⟩ = none ∧ ChangesOnly [.cst] s t) := by
  have row : exec (.pairMarkExpire st seq pass ord) s = .next (pairErase s ⟨st, seq, pass, ord⟩) := by
    show execPairMarkExpire st seq pass ord s = _
    unfold execPairMarkExpire
    dsimp only
    rw [mark]
  refine completes_of row ⟨?_, .of_patch rfl⟩
  unfold pairFind pairErase
  rw [List.find?_eq_none.mpr]
  · rfl
  · intro x member
    simpa using (List.mem_filter.mp member).2

end

/-! What aging reads (R184 to R187). -/

/-- Cistern's mode and sweeps, the time, Heartwood and the role in the pair are as they were. -/
structure AgeKept (s t : State) : Prop where
  mode : t.cst.hitMode = s.cst.hitMode
  whole : t.cst.sweepWhole = s.cst.sweepWhole
  sweeps : t.cst.sweeps = s.cst.sweeps
  time : t.time = s.time
  hw : t.hw = s.hw
  standby : isStandby t = isStandby s

section
variable {s t u : State}

theorem AgeKept.refl (s : State) : AgeKept s s := ⟨rfl, rfl, rfl, rfl, rfl, rfl⟩

theorem AgeKept.trans (h : AgeKept s t) (k : AgeKept t u) : AgeKept s u :=
  ⟨k.mode.trans h.mode, k.whole.trans h.whole, k.sweeps.trans h.sweeps, k.time.trans h.time, k.hw.trans h.hw, k.standby.trans h.standby⟩

theorem AgeKept.of_keeps {ps : List Part} (k : Keeps ps s t)
    (kept : Part.cst ∉ ps ∧ Part.time ∉ ps ∧ Part.hw ∉ ps ∧ Part.itw ∉ ps := by decide) : AgeKept s t := by
  obtain ⟨cst, time, hw, itw⟩ := kept
  have same : t.cst = s.cst := k.same .cst cst
  refine ⟨by rw [same], by rw [same], by rw [same], k.same .time time, k.same .hw hw, ?_⟩
  unfold isStandby
  rw [show t.itw = s.itw from k.same .itw itw]

theorem AgeKept.hwUse (h : AgeKept s t) (w : Nat) : hwUse t w = hwUse s w := by
  unfold Machine.hwUse hwWord
  rw [h.hw]

theorem waySet_ageKept (s : State) (l : Loc) (e : Bytes) : AgeKept s (waySet s l e) := by
  unfold waySet
  split <;> exact ⟨rfl, rfl, rfl, rfl, rfl, rfl⟩

theorem sendLearn_ageKept (s : State) (type : Nat) (body : Bytes) : AgeKept s (sendLearn s type body) := by
  have kept := sendLearn_keeps s type body
  refine ⟨congrArg Cistern.hitMode (kept.same .cst), congrArg Cistern.sweepWhole (kept.same .cst), congrArg Cistern.sweeps (kept.same .cst),
    kept.same .time, kept.same .hw, ?_⟩
  have sent : isStandby (itwSend s type body) = isStandby s := by
    unfold itwSend itwSendAll
    split
    · exact (AgeKept.of_keeps (trace_keeps _ _ _ _ _ _ _)).standby
    · rfl
  exact (AgeKept.of_keeps (bump_keeps _ _)).standby.trans sent

theorem promoteInto_ageKept (s : State) (l : Loc) : AgeKept s (promoteInto s l) := by
  unfold promoteInto
  split
  · exact .refl _
  · split <;> exact ⟨rfl, rfl, rfl, rfl, rfl, rfl⟩

theorem deleteAt_ageKept (s : State) (l : Loc) : AgeKept s (deleteAt s l) := by
  unfold deleteAt
  extract_lets e u cst v w
  have emptied : AgeKept s u := (waySet_ageKept _ _ _).trans ((AgeKept.of_keeps (markDirty_keeps _ _)).trans (.of_keeps (bump_keeps _ _)))
  have unlocked : AgeKept u v := ⟨rfl, rfl, rfl, rfl, rfl, rfl⟩
  have told : AgeKept v w := by
    show AgeKept v (if _ then _ else _)
    split
    · exact sendLearn_ageKept _ _ _
    · exact .refl _
  exact ((emptied.trans unlocked).trans told).trans ((AgeKept.of_keeps (scribeTrace_keeps _ _ _ _ _)).trans (promoteInto_ageKept _ _))

end

/-! A visit of the walker (R184, R186, R187). -/

/-- A change of the entry at one place, with what aging reads as it was. -/
structure Ages (s t : State) (l : Loc) : Prop where
  kept : AgeKept s t
  others : ∀ m, m ≠ l → wayGet t m = wayGet s m

/-- What a visit leaves of a non-static entry, on an adapter that is not a standby. -/
def visited (s : State) (e : Bytes) : Bytes :=
  if s.cst.hitMode then
    if !entAm e then putLe (putWordBits e 6 5 2) 4 4 0
    else if entHit e then putLe (putWordBits e 5 5 0) 4 4 0
    else if ageTimeout s (entProf e) ≠ 0 ∧ ceilDiv (ageTimeout s (entProf e) * 1000) (sweepMs s) ≤ min (le e 4 4 + 1) 0xFFFFFFFF then zeros 64
    else putLe e 4 4 (min (le e 4 4 + 1) 0xFFFFFFFF)
  else if entAm e then
    putLe (putWordBits e 6 5 0) 4 4 (if entHit e then ageNow s else distance 32 (ageNow s) ((le e 4 4 * periodUnits s) % 4294967296))
  else if ageTimeout s (entProf e) ≠ 0 ∧ ageUnits (ageTimeout s (entProf e)) ≤ distance 32 (ageNow s) (le e 4 4) then zeros 64
  else e

section
variable {s t u : State} {l : Loc}

theorem visited_of (mode : t.cst.hitMode = s.cst.hitMode) (time : t.time = s.time) (hw : t.hw = s.hw) (e : Bytes) : visited t e = visited s e := by
  unfold visited ageTimeout periodUnits sweepMs ageNow hwUse hwWord
  rw [mode, stampNow_congr time, hw]

theorem visited_congr (h : AgeKept s t) (e : Bytes) : visited t e = visited s e := visited_of h.mode h.time h.hw e

theorem Ages.refl (s : State) (l : Loc) : Ages s s l := ⟨.refl s, fun _ _ => rfl⟩

theorem Ages.trans (h : Ages s t l) (k : Ages t u l) : Ages s u l := ⟨h.kept.trans k.kept, fun m other => (k.others m other).trans (h.others m other)⟩

theorem Ages.of_keeps {ps : List Part} (k : Keeps ps s t)
    (kept : Part.cst ∉ ps ∧ Part.time ∉ ps ∧ Part.hw ∉ ps ∧ Part.itw ∉ ps := by decide) : Ages s t l :=
  ⟨.of_keeps k kept, fun m _ => wayGet_congr (k.same .cst kept.1) m⟩

theorem waySet_ages (s : State) (l : Loc) (e : Bytes) : Ages s (waySet s l e) l := ⟨waySet_ageKept _ _ _, fun _ other => wayGet_waySet_ne _ _ other⟩

theorem ageDelete_ages (s : State) (l : Loc) : Ages s (ageDelete s l) l := by
  unfold ageDelete
  split
  · exact .refl _ _
  · exact .trans ⟨deleteAt_ageKept _ _, fun m other => (deleteAt_deletes s l).1.written.2 m other⟩ (.of_keeps (bump_keeps _ _))

theorem ageDelete_empties (s : State) (l : Loc) (active : isStandby s = false) : wayGet (ageDelete s l) l = zeros 64 := by
  unfold ageDelete
  rw [active, Bool.false_and, if_neg Bool.false_ne_true, wayGet_congr ((bump_keeps _ _).same .cst)]
  exact (deleteAt_deletes s l).1.written.1

theorem ageVisit_ages (s : State) (l : Loc) : Ages s (ageVisit s l) l := by
  unfold ageVisit
  extract_lets e timeout idle marked now stamp
  split
  · split
    · exact waySet_ages _ _ _
    · split
      · exact waySet_ages _ _ _
      · have set : Ages s marked l := waySet_ages _ _ _
        split
        · exact set.trans (ageDelete_ages _ _)
        · exact set
  · split
    · exact waySet_ages _ _ _
    · split
      · exact ageDelete_ages _ _
      · exact .refl _ _

/-- A visit leaves what R184 to R187 give. -/
theorem ageVisit_visits (s : State) (l : Loc) (active : isStandby s = false) : wayGet (ageVisit s l) l = visited s (wayGet s l) := by
  unfold ageVisit visited
  extract_lets e timeout idle marked now stamp
  split
  · split
    · exact wayGet_waySet_self _ _ _
    · split
      · exact wayGet_waySet_self _ _ _
      · have set : AgeKept s marked := waySet_ageKept _ _ _
        have period : sweepMs marked = sweepMs s := set.hwUse _
        rw [period]
        split
        · exact ageDelete_empties _ _ (set.standby.trans active)
        · exact wayGet_waySet_self _ _ _
  · split
    · exact wayGet_waySet_self _ _ _
    · split
      · exact ageDelete_empties _ _ active
      · rfl

theorem refreshReport_reports (s : State) (l : Loc) : AgeKept s (refreshReport s l) ∧ SameEntries s (refreshReport s l) := by
  unfold refreshReport
  dsimp only
  split
  · exact ⟨sendLearn_ageKept _ _ _, .of_keeps (sendLearn_keeps _ _ _)⟩
  · exact ⟨.refl _, ⟨rfl, rfl⟩⟩

theorem ageAt_ages (s : State) (l : Loc) : Ages s (ageAt s l) l := by
  unfold ageAt
  dsimp only
  split
  · obtain ⟨kept, entries⟩ := refreshReport_reports s l
    exact .trans ⟨kept, fun m _ => entries.wayGet m⟩ (ageVisit_ages _ _)
  · exact .refl _ _

theorem ageAt_skips (s : State) (l : Loc) (skipped : entValid (wayGet s l) = false ∨ entStatic (wayGet s l) = true) : wayGet (ageAt s l) l = wayGet s l := by
  have unaged : (entValid (wayGet s l) && !entStatic (wayGet s l)) = false := by
    rcases skipped with invalid | static
    · rw [invalid]; rfl
    · rw [static, Bool.not_true, Bool.and_false]
  exact congrArg (wayGet · l) (if_neg (ne_true_of_eq_false unaged))

theorem ageAt_visits (s : State) (l : Loc) (valid : entValid (wayGet s l) = true) (dynamic : entStatic (wayGet s l) = false)
    (active : isStandby s = false) : wayGet (ageAt s l) l = visited s (wayGet s l) := by
  obtain ⟨kept, entries⟩ := refreshReport_reports s l
  have aged : ageAt s l = ageVisit (refreshReport s l) l := if_pos (by rw [valid, dynamic]; rfl)
  rw [aged, ageVisit_visits _ _ (kept.standby.trans active), entries.wayGet, visited_congr kept]

/-- A run of visits ages each of its places once and no other. -/
theorem ageAt_foldl (ls : List Loc) (distinct : ls.Nodup) (s : State) : AgeKept s (ls.foldl ageAt s) ∧
    (∀ m, m ∉ ls → wayGet (ls.foldl ageAt s) m = wayGet s m) ∧
    ∀ l ∈ ls, ∃ u, AgeKept s u ∧ wayGet u l = wayGet s l ∧ wayGet (ls.foldl ageAt s) l = wayGet (ageAt u l) l := by
  induction ls generalizing s with
  | nil => exact ⟨.refl s, fun _ _ => rfl, fun _ member => absurd member List.not_mem_nil⟩
  | cons first rest ih =>
    obtain ⟨apart, distinct⟩ := List.nodup_cons.mp distinct
    obtain ⟨kept, others, aged⟩ := ih distinct (ageAt s first)
    have now := ageAt_ages s first
    rw [List.foldl_cons]
    refine ⟨now.kept.trans kept, fun m absent => ?_, fun l member => ?_⟩
    · rw [others m (fun h => absent (List.mem_cons_of_mem _ h)), now.others m (fun h => absent (h ▸ List.mem_cons_self))]
    · rcases List.mem_cons.mp member with rfl | later
      · exact ⟨s, .refl s, rfl, others _ apart⟩
      · obtain ⟨u, keptU, same, ends⟩ := aged l later
        exact ⟨u, now.kept.trans keptU, same.trans (now.others l (fun h => apart (h ▸ later))), ends⟩

end

/-! The walk (R186 to R188). -/

section
variable {s : State} {b : Nat}

/-- The ways of a bucket. -/
def bucketWays (b : Nat) : List Loc := (List.range 4).map (fun w => ⟨false, b * 4 + w⟩)

theorem mem_bucketWays {m : Loc} : m ∈ bucketWays b ↔ ∃ w < 4, m = ⟨false, b * 4 + w⟩ := by
  unfold bucketWays
  rw [List.mem_map]
  exact ⟨fun ⟨w, member, same⟩ => ⟨w, List.mem_range.mp member, same.symm⟩, fun ⟨w, small, same⟩ => ⟨w, List.mem_range.mpr small, same.symm⟩⟩

theorem bucketWays_nodup (b : Nat) : (bucketWays b).Nodup :=
  List.nodup_range.map (fun w w' same => by simpa using congrArg Loc.idx same)

/-- The state in which a bucket is visited. -/
def walkStart (s : State) (b : Nat) : State :=
  if b = 0 then { hwCount s 0x040 with cst := { (hwCount s 0x040).cst with sweepWhole := true } } else hwCount s 0x040

theorem walkStart_same (s : State) (b : Nat) : SameEntries s (walkStart s b) ∧ (walkStart s b).cst.hitMode = s.cst.hitMode ∧
    (walkStart s b).time = s.time ∧ (walkStart s b).hw = s.hw ∧ isStandby (walkStart s b) = isStandby s := by
  have kept := hwCount_keeps s 0x040
  have entries : SameEntries s (hwCount s 0x040) := .of_keeps kept
  have ages : AgeKept s (hwCount s 0x040) := .of_keeps kept
  unfold walkStart
  split
  · exact ⟨⟨entries.1, entries.2⟩, ages.mode, ages.time, ages.hw, ages.standby⟩
  · exact ⟨entries, ages.mode, ages.time, ages.hw, ages.standby⟩

theorem ageWalkVisit_row (small : b < 1048576) : exec (.ageWalkVisit b) s = .next ((bucketWays b).foldl ageAt (walkStart s b)) := by
  show execAgeWalkVisit b s = _
  unfold execAgeWalkVisit
  dsimp only
  rw [if_pos small, bucketWays, List.foldl_map]
  rfl

/-- A visit of a bucket leaves every other entry; a static or invalid one of its own stays, any other is as visited. -/
theorem ageWalkVisit_walks {w : Nat} {l : Loc} {e : Bytes} (small : b < 1048576) (way : w < 4) (place : l = ⟨false, b * 4 + w⟩)
    (entry : e = wayGet s l) : ∃ t, exec (.ageWalkVisit b) s = .next t ∧
      (∀ m : Loc, (m.stash = true ∨ m.idx / 4 ≠ b) → wayGet t m = wayGet s m) ∧
      ((entValid e = false ∨ entStatic e = true) → wayGet t l = e) ∧
      (entValid e = true → entStatic e = false → isStandby s = false → wayGet t l = visited s e) := by
  obtain ⟨entries, mode, time, hw, standby⟩ := walkStart_same s b
  obtain ⟨-, others, aged⟩ := ageAt_foldl (bucketWays b) (bucketWays_nodup b) (walkStart s b)
  obtain ⟨u, kept, same, ends⟩ := aged l (mem_bucketWays.mpr ⟨w, way, place⟩)
  have now : wayGet u l = e := same.trans ((entries.wayGet l).trans entry.symm)
  refine ⟨_, ageWalkVisit_row small, fun m apart => ?_, fun skipped => ?_, fun valid dynamic active => ?_⟩
  · rw [others m, entries.wayGet]
    intro member
    obtain ⟨w', small', rfl⟩ := mem_bucketWays.mp member
    rcases apart with stash | bucket
    · exact nomatch stash
    · exact bucket (by show (b * 4 + w') / 4 = b; omega)
  · rw [ends, ageAt_skips u l (by rw [now]; exact skipped), now]
  · rw [ends, ageAt_visits u l (by rw [now]; exact valid) (by rw [now]; exact dynamic) ((kept.standby.trans standby).trans active), now,
      visited_congr kept, visited_of mode time hw]

theorem ageWalkVisit_ages {w to_ : Nat} {l : Loc} {e : Bytes} (small : b < 1048576) (way : w < 4) (place : l = ⟨false, b * 4 + w⟩)
    (entry : e = wayGet s l) (timeout : to_ = ageTimeout s (entProf e)) :
    Completes (.ageWalkVisit b) s (fun t => (∀ m : Loc, (m.stash = true ∨ m.idx / 4 ≠ b) → wayGet t m = wayGet s m) ∧
      ((entValid e = false ∨ entStatic e = true) → wayGet t l = e) ∧
      (entValid e = true → entStatic e = false → isStandby s = false →
        (s.cst.hitMode = true →
          (entAm e = false → wayGet t l = putLe (putWordBits e 6 5 2) 4 4 0) ∧
          (entAm e = true → entHit e = true → wayGet t l = putLe (putWordBits e 5 5 0) 4 4 0) ∧
          (entAm e = true → entHit e = false →
            (to_ = 0 ∨ min (le e 4 4 + 1) 0xFFFFFFFF < ceilDiv (to_ * 1000) (sweepMs s) →
              wayGet t l = putLe e 4 4 (min (le e 4 4 + 1) 0xFFFFFFFF)) ∧
            (to_ ≠ 0 → ceilDiv (to_ * 1000) (sweepMs s) ≤ min (le e 4 4 + 1) 0xFFFFFFFF → wayGet t l = zeros 64))) ∧
        (s.cst.hitMode = false →
          (entAm e = true → wayGet t l = putLe (putWordBits e 6 5 0) 4 4
            (if entHit e = true then ageNow s else distance 32 (ageNow s) ((le e 4 4 * periodUnits s) % 4294967296))) ∧
          (entAm e = false → (to_ = 0 ∨ distance 32 (ageNow s) (le e 4 4) < ageUnits to_) → wayGet t l = e) ∧
          (entAm e = false → to_ ≠ 0 → ageUnits to_ ≤ distance 32 (ageNow s) (le e 4 4) → wayGet t l = zeros 64)))) := by
  obtain ⟨t, ran, others, skips, visits⟩ := ageWalkVisit_walks small way place entry
  subst timeout
  refine completes_of ran ⟨others, skips, fun valid dynamic active => ?_⟩
  rw [visits valid dynamic active]
  unfold visited
  refine ⟨fun hit => ⟨fun stamp => ?_, fun counted recent => ?_, fun counted idle => ⟨fun young => ?_, fun ages old => ?_⟩⟩,
    fun stampMode => ⟨fun counted => ?_, fun stamp young => ?_, fun stamp ages old => ?_⟩⟩
  · rw [hit, stamp]; rfl
  · rw [hit, counted, recent]; rfl
  · rw [hit, counted, idle]
    exact (if_pos rfl).trans ((if_neg (by decide)).trans ((if_neg (by decide)).trans (if_neg (fun h => young.elim h.1 (Nat.not_lt.mpr h.2)))))
  · rw [hit, counted, idle]
    exact (if_pos rfl).trans ((if_neg (by decide)).trans ((if_neg (by decide)).trans (if_pos ⟨ages, old⟩)))
  · rw [stampMode, counted]; rfl
  · rw [stampMode, stamp]
    exact (if_neg (by decide)).trans ((if_neg (by decide)).trans (if_neg (fun h => young.elim h.1 (Nat.not_lt.mpr h.2))))
  · rw [stampMode, stamp]
    exact (if_neg (by decide)).trans ((if_neg (by decide)).trans (if_pos ⟨ages, old⟩))

/-- Visits of stash places leave the ways. -/
theorem ageAt_stash (is : List Nat) (s : State) : AgeKept s (is.foldl (fun s i => ageAt s ⟨true, i⟩) s) ∧
    ∀ m : Loc, m.stash = false → wayGet (is.foldl (fun s i => ageAt s ⟨true, i⟩) s) m = wayGet s m := by
  induction is generalizing s with
  | nil => exact ⟨.refl s, fun _ _ => rfl⟩
  | cons i is ih =>
    obtain ⟨kept, ways⟩ := ih (ageAt s ⟨true, i⟩)
    have now := ageAt_ages s ⟨true, i⟩
    refine ⟨now.kept.trans kept, fun m way => (ways m way).trans (now.others m ?_)⟩
    rintro rfl
    exact nomatch way

theorem ageWalkVisit_sweeps (whole : s.cst.sweepWhole = true) : Completes (.ageWalkVisit 1048576) s (fun t => t.cst.sweeps = s.cst.sweeps + 1 ∧
    ∀ m : Loc, m.stash = false → wayGet t m = wayGet s m) := by
  obtain ⟨v, hv⟩ : ∃ v, v = ((hwCount s 0x040).cst.stash.map (fun x => x.1)).foldl (fun s i => ageAt s ⟨true, i⟩) (hwCount s 0x040) := ⟨_, rfl⟩
  have row : exec (.ageWalkVisit 1048576) s =
      .next { v with cst := { v.cst with sweeps := if v.cst.sweepWhole then v.cst.sweeps + 1 else v.cst.sweeps } } := by
    show execAgeWalkVisit 1048576 s = _
    unfold execAgeWalkVisit
    dsimp only
    rw [if_neg (by decide), if_pos rfl, hv]
  obtain ⟨kept, ways⟩ := ageAt_stash ((hwCount s 0x040).cst.stash.map (fun x => x.1)) (hwCount s 0x040)
  rw [← hv] at kept ways
  have start : AgeKept s (hwCount s 0x040) := .of_keeps (hwCount_keeps _ _)
  have same := start.trans kept
  refine completes_of row ⟨?_, fun m way => (ways m way).trans (wayGet_congr ((hwCount_keeps _ _).same .cst) m)⟩
  show (if v.cst.sweepWhole then v.cst.sweeps + 1 else v.cst.sweeps) = _
  rw [same.whole, whole, if_pos rfl, same.sweeps]

theorem stampModeRestore_restores (hit : s.cst.hitMode = true) (swept : 2 ≤ s.cst.sweeps) :
    exec .stampModeRestore s = .next { s with cst := { s.cst with hitMode := false } } := if_pos ⟨hit, swept⟩

/-! Locks and errors (R181, R192). -/

theorem unlockAt_unlocks (s : State) (l : Loc) : wayGet (unlockAt s l) l = putMoves (putWordBits (wayGet s l) 4 4 0) 0 ∧
    ∀ m, m ≠ l → wayGet (unlockAt s l) m = wayGet s m := by
  unfold unlockAt
  extract_lets u
  have told : SameEntries u (tellApply { u with cst := { u.cst with locked := mapErase u.cst.locked (locWord l) } } l) :=
    .trans (t := { u with cst := { u.cst with locked := mapErase u.cst.locked (locWord l) } }) ⟨rfl, rfl⟩ (.of_keeps (tellApply_keeps _ _))
  exact told.written

theorem lockHoldExpire_unlocks {st : Bool} {i : Nat} (limited : hwUse s 0x04B ≠ 0) (locked : entLocked (wayGet s ⟨st, i⟩) = true)
    (valid : entValid (wayGet s ⟨st, i⟩) = true) :
    Completes (.lockHoldExpire st i) s (fun t => wayGet t ⟨st, i⟩ = putMoves (putWordBits (wayGet s ⟨st, i⟩) 4 4 0) 0 ∧
      ∀ m, m ≠ ⟨st, i⟩ → wayGet t m = wayGet s m) :=
  completes_of (if_pos ⟨limited, locked, valid⟩) (unlockAt_unlocks s ⟨st, i⟩)

theorem capture_regKept (s : State) {a c : Nat} (v : Nat) (other : a ≠ c) : RegKept s (capture s c v) a := by
  unfold capture
  split
  · exact .of_regs rfl
  · exact setReg_regKept _ _ other

theorem regField_setBits (s : State) (a i : Nat) {m : Word} (bit : m.getLsbD i = true) : regField (setBits s a m) a i i = 1 := by
  unfold regField setBits
  rw [reg_setReg_self, bits_one, ← BitVec.getLsbD, BitVec.getLsbD_or, bit, Bool.or_true]
  rfl

theorem regField_capture (s : State) (a : Nat) {v : Nat} (clear : (reg s a).getLsbD 31 = false) (small : v < 2147483648) :
    regField (capture s a v) a 30 0 = v := by
  unfold regField capture
  rw [if_neg (ne_true_of_eq_false clear), reg_setReg_self, BitVec.toNat_ofNat]
  unfold bits
  omega

theorem cstEccInvalidate_invalidates {st : Bool} {i : Nat} (inside : i < (if st = true then 1024 else 4194304))
    (valid : entValid (wayGet s ⟨st, i⟩) = true) :
    Completes (.cstEccInvalidate st i) s (fun t => wayGet t ⟨st, i⟩ = zeros 64 ∧ (∀ m, m ≠ ⟨st, i⟩ → wayGet t m = wayGet s m) ∧
      regField t r_CST_STATUS 1 1 = 1 ∧ Counted s t r_CST_CNT_ECC_UNCORR 1 ∧
      ((reg s r_CST_ECC_ADDR).getLsbD 31 = false → regField t r_CST_ECC_ADDR 30 0 = locWord ⟨st, i⟩)) := by
  obtain ⟨u, hu⟩ : ∃ u, u = markDirty (waySet s ⟨st, i⟩ (zeros 64)) (wayGet s ⟨st, i⟩) := ⟨_, rfl⟩
  obtain ⟨v, hv⟩ : ∃ v : State, v = { u with cst := { u.cst with locked := mapErase u.cst.locked (locWord ⟨st, i⟩) } } := ⟨_, rfl⟩
  obtain ⟨w, hw⟩ : ∃ w, w = capture (setBits (bump v r_CST_CNT_ECC_UNCORR) r_CST_STATUS 2#32) r_CST_ECC_ADDR (locWord ⟨st, i⟩) := ⟨_, rfl⟩
  obtain ⟨x, hx⟩ : ∃ x, x = errlog w 0x0104 9 0xFFFF (if st then 0x1324800000 + 64 * i else 0x1000000000 + 64 * i) (toLe 1 0) := ⟨_, rfl⟩
  obtain ⟨t, ht⟩ : ∃ t, t = eventToManager (promoteInto x ⟨st, i⟩) 0x8502 (toLe 4 (locWord ⟨st, i⟩) ++ toLe 1 (b2n st)) := ⟨_, rfl⟩
  have row : exec (.cstEccInvalidate st i) s = .next t := by
    show execCstEccInvalidate st i s = _
    unfold execCstEccInvalidate
    dsimp only
    rw [if_pos inside, if_pos valid, ht, hx, hw, hv, hu]
  have emptied : SameEntries (waySet s ⟨st, i⟩ (zeros 64)) v := by
    rw [hv, hu]
    exact .trans (.of_keeps (markDirty_keeps _ _)) ⟨rfl, rfl⟩
  have noted : Keeps [.regs] v w := by
    rw [hw]
    exact .last (capture_keeps _ _ _) (.last (setBits_keeps _ _ _) (bump_keeps _ _))
  have reported : SameEntries w t := by
    rw [ht, hx]
    exact ((SameEntries.of_keeps (errlog_keeps _ _ _ _ _ _)).trans (promoteInto_entries _ _)).trans (.of_keeps (eventToManager_keeps _ _ _))
  have quiet : ∀ a, ¬ EventReg a → RegKept w t a := by
    intro a notEvent
    rw [ht, hx]
    exact ((errlog_told _ _ _ _ _ _).regKept notEvent).trans ((RegKept.of_regs (promoteInto_regs _ _)).trans ((eventToManager_told _ _ _).regKept notEvent))
  have before : ∀ a, RegKept s v a := by
    intro a
    rw [hv, hu]
    exact ((RegKept.of_keeps (waySet_keeps _ _ _)).trans (.of_keeps (markDirty_keeps _ _))).trans (.of_regs rfl)
  obtain ⟨written, others⟩ := (emptied.trans ((SameEntries.of_keeps noted).trans reported)).written
  refine completes_of row ⟨written, others, ?_, ?_, fun clear => ?_⟩
  · rw [(quiet r_CST_STATUS (by unfold EventReg; decide)).regField, hw, (capture_regKept _ _ (by decide)).regField]
    exact regField_setBits _ _ _ (by decide)
  · refine .of_bump (before _) rfl (.trans ?_ (quiet r_CST_CNT_ECC_UNCORR (by unfold EventReg; decide)))
    rw [hw]
    exact (setReg_regKept _ _ (by decide)).trans (capture_regKept _ _ (by decide))
  · have untouched : RegKept s (setBits (bump v r_CST_CNT_ECC_UNCORR) r_CST_STATUS 2#32) r_CST_ECC_ADDR :=
      (before _).trans ((bump_regKept _ (by decide)).trans (setReg_regKept _ _ (by decide)))
    rw [(quiet r_CST_ECC_ADDR (by unfold EventReg; decide)).regField, hw]
    refine regField_capture _ _ (by rw [untouched.reg]; exact clear) ?_
    unfold locWord b2n
    cases st <;> simp at inside ⊢ <;> omega

end

/-! The commands (R173, R181, R201, R673). -/

theorem cstEntryAdd_asks : RunsLater .cstEntryAdd 0x0500 (fun s _ req => entValid (putWordBits (slice req 8 64) 6 4 0) = true ∧ s.cst.queue.length < 4096)
    (fun s t ch seq req => ∀ e, e = putWordBits (slice req 8 64) 6 4 0 →
      t.cst = { s.cst with queue := s.cst.queue ++ [.insert (entKey e) e (bitAt (le req 0 4) 0) (some (ch, seq))] } ∧
      ChangesOnly [.mbx, .cst] s t) := by
  rintro s ch seq req begun ⟨valid, room⟩
  refine completes_command begun (rfl : execCstEntryAdd ch seq s = _) ?_
  dsimp only
  rw [valid, if_neg (by decide), if_neg (by omega)]
  refine ⟨defer_runs (begun.of_mbx rfl), fun e same => ?_⟩
  subst same
  have set : ChangesOnly [.mbx, .cst] s { s with cst := { s.cst with queue := s.cst.queue ++
    [.insert (entKey (putWordBits (slice req 8 64) 6 4 0)) (putWordBits (slice req 8 64) 6 4 0) (bitAt (le req 0 4) 0) (some (ch, seq))] } } :=
    .of_patch rfl
  exact ⟨defer_cst _ _ _, set.step ((defer_keeps _ _ _).frame.mono (by decide))⟩

theorem cstEntryDelete_asks : RunsLater .cstEntryDelete 0x0501 (fun s _ req => (keyField req).isSome = true ∧ s.cst.queue.length < 4096)
    (fun s t ch seq req => ∀ key, keyField req = some key →
      t.cst = { s.cst with queue := s.cst.queue ++ [.delete key none true (some (ch, seq))] } ∧ ChangesOnly [.mbx, .cst] s t) := by
  rintro s ch seq req begun ⟨named, room⟩
  obtain ⟨key, named⟩ := Option.isSome_iff_exists.mp named
  refine completes_command begun (rfl : execCstEntryDelete ch seq s = _) ?_
  dsimp only
  rw [named]
  dsimp only
  rw [if_neg (by omega)]
  refine ⟨defer_runs (begun.of_mbx rfl), fun key' same => ?_⟩
  obtain rfl := Option.some.inj same
  have set : ChangesOnly [.mbx, .cst] s { s with cst := { s.cst with queue := s.cst.queue ++ [.delete key none true (some (ch, seq))] } } := .of_patch rfl
  exact ⟨defer_cst _ _ _, set.step ((defer_keeps _ _ _).frame.mono (by decide))⟩

theorem cstEntry_busy {s : State} {ch seq : Nat} {req : Bytes} (full : 4096 ≤ s.cst.queue.length) :
    (Begun s ch seq 0x0500 req → entValid (putWordBits (slice req 8 64) 6 4 0) = true → Completes (.cstEntryAdd ch seq) s (fun t =>
      Answered t ch seq rcBusy [] ∧ AnswerFrame [] s t ch)) ∧
    (Begun s ch seq 0x0501 req → (keyField req).isSome = true → Completes (.cstEntryDelete ch seq) s (fun t =>
      Answered t ch seq rcBusy [] ∧ AnswerFrame [] s t ch)) := by
  refine ⟨fun begun valid => ?_, fun begun named => ?_⟩
  · refine completes_command begun (rfl : execCstEntryAdd ch seq s = _) ?_
    dsimp only
    rw [valid, if_neg (by decide), if_pos full]
    exact ⟨answer_answered _ _ begun.unanswered, answer_frame _ _ _ _ _⟩
  · obtain ⟨key, named⟩ := Option.isSome_iff_exists.mp named
    refine completes_command begun (rfl : execCstEntryDelete ch seq s = _) ?_
    dsimp only
    rw [named]
    dsimp only
    rw [if_pos full]
    exact ⟨answer_answered _ _ begun.unanswered, answer_frame _ _ _ _ _⟩

theorem cstEntryRead_found (key : Bytes) (l : Loc) :
    AnswersOk .cstEntryRead 0x0502 (fun s _ req => keyField req = some key ∧ findKey s key = some l)
    (fun s _ _ => [1#8, 0#8, 0#8, 0#8] ++ toLe 4 (locWord l) ++ fit (wayGet s l) 64) (fun s t ch _ => AnswerFrame [] s t ch) :=
  answersOk_query (fun s ch seq => (rfl : execCstEntryRead ch seq s = _)) (fun s ch seq req ⟨named, present⟩ => by
    rw [named]
    dsimp only
    rw [present]
    rfl)

theorem cstEntryRead_absent (key : Bytes) :
    AnswersOk .cstEntryRead 0x0502 (fun s _ req => keyField req = some key ∧ findKey s key = none)
    (fun _ _ _ => zeros 72) (fun s t ch _ => AnswerFrame [] s t ch) :=
  answersOk_query (fun s ch seq => (rfl : execCstEntryRead ch seq s = _)) (fun s ch seq req ⟨named, absent⟩ => by
    rw [named]
    dsimp only
    rw [absent])

theorem unlockAt_mbx (s : State) (l : Loc) : (unlockAt s l).mbx = s.mbx := by
  unfold unlockAt
  extract_lets u
  exact ((tellApply_keeps { u with cst := { u.cst with locked := mapErase u.cst.locked (locWord l) } } l).same .mbx).trans ((waySet_keeps _ _ _).same .mbx)

theorem cstEntryUnlock_unlocks (key : Bytes) (l : Loc) :
    AnswersOk .cstEntryUnlock 0x0503 (fun s _ req => keyField req = some key ∧ byteAt req 0 = 1 ∧ findKey s key = some l ∧
      entLocked (wayGet s l) = true) (fun _ _ _ => [1#8, 0#8, 0#8, 0#8])
    (fun s t _ _ => wayGet t l = putMoves (putWordBits (wayGet s l) 4 4 0) 0 ∧ ∀ m, m ≠ l → wayGet t m = wayGet s m) :=
  answersOk_set (row := fun s ch seq => (rfl : execCstEntryUnlock ch seq s = _)) (fun s ch seq req ⟨named, kind, present, locked⟩ => by
    obtain ⟨written, others⟩ := unlockAt_unlocks s l
    refine ⟨unlockAt s l, ?_, unlockAt_mbx s l, ?_⟩
    · rw [named]
      dsimp only
      rw [if_neg (not_not.mpr kind), present]
      dsimp only
      rw [if_pos locked]
      rfl
    · exact ⟨(wayGet_congr (answer_cst _ _ _ _ _) l).trans written, fun m other => (wayGet_congr (answer_cst _ _ _ _ _) m).trans (others m other)⟩)

theorem cstFlush_asks : RunsLater .cstFlush 0x0504 (fun _ _ req => le req 0 2 = 0xFFFF ∨ le req 0 2 = 0xFFF ∨ le req 0 2 ≤ 2049)
    (fun s t ch seq req => t.cst = { s.cst with queue := s.cst.queue ++
        [.flush (if le req 0 2 = 0xFFFF then none else some (le req 0 2)) (byteAt req 2) (bitAt (byteAt req 3) 0) (ch, seq)] } ∧
      ChangesOnly [.mbx, .cst] s t) := by
  intro s ch seq req begun named
  refine completes_command begun (rfl : execCstFlush ch seq s = _) ?_
  dsimp only
  rw [if_neg (by omega)]
  have set : ChangesOnly [.mbx, .cst] s { s with cst := { s.cst with queue := s.cst.queue ++
    [.flush (if le req 0 2 = 0xFFFF then none else some (le req 0 2)) (byteAt req 2) (bitAt (byteAt req 3) 0) (ch, seq)] } } := .of_patch rfl
  exact ⟨defer_runs (begun.of_mbx rfl), defer_cst _ _ _, set.step ((defer_keeps _ _ _).frame.mono (by decide))⟩

/-- A flood set takes its list; an empty one has no record. -/
def floodPut (m : AMap (List Word)) (bd : Nat) (l : List Word) : AMap (List Word) := if l.isEmpty then mapErase m bd else mapSet m bd l

theorem floodPut_self (m : AMap (List Word)) (bd : Nat) (l : List Word) : mapGetD (floodPut m bd l) bd [] = l := by
  unfold floodPut
  split
  · next empty =>
    rw [mapGetD, mapGet_mapErase_self, List.isEmpty_iff.mp empty]
    rfl
  · exact mapGetD_mapSet_self _ _ _ _

theorem floodPut_ne (m : AMap (List Word)) {bd j : Nat} (l : List Word) (other : j ≠ bd) : mapGet (floodPut m bd l) j = mapGet m j := by
  unfold floodPut
  split
  · exact mapGet_mapErase_ne _ other
  · exact mapGet_mapSet_ne _ _ other

theorem cstFloodSet_sets : AnswersOk .cstFloodSet 0x0506 (fun _ _ req => byteAt req 2 ≤ 32) (fun _ _ _ => [])
    (fun s t ch req => mapGetD t.cst.flood (le req 0 2) [] =
        (List.range (byteAt req 2)).map (fun i => BitVec.ofNat 32 (le req (4 + 4 * i) 4)) ∧
      (∀ j, j ≠ le req 0 2 → mapGet t.cst.flood j = mapGet s.cst.flood j) ∧ AnswerFrame [.cst] s t ch) :=
  answersOk_set (row := fun s ch seq => (rfl : execCstFloodSet ch seq s = _)) (fun s ch seq req few => by
    obtain ⟨members, list⟩ : ∃ l, l = (List.range (byteAt req 2)).map (fun i => BitVec.ofNat 32 (le req (4 + 4 * i) 4)) := ⟨_, rfl⟩
    obtain ⟨u, hu⟩ : ∃ u : State, u = { s with cst := { s.cst with flood := floodPut s.cst.flood (le req 0 2) members } } := ⟨_, rfl⟩
    have set : ChangesOnly [.cst] s u := by
      rw [hu]
      exact .of_patch rfl
    refine ⟨u, ?_, by rw [hu], ?_⟩
    · dsimp only
      rw [if_neg (by omega), ← list, hu]
      rfl
    · rw [answer_cst, ← list]
      refine ⟨?_, fun j other => ?_, answer_frame_quiet ch seq rcOk [] set (by decide) (by decide)⟩
      · rw [hu]
        exact floodPut_self _ _ _
      · rw [hu]
        exact floodPut_ne _ _ other)

/-- Settles O45: a visit of the walker writes its own way only, with what `visited` gives. -/
theorem cisternCommandsAgingLocksAndErrors : Obligations.CisternCommandsAgingLocksAndErrors := by
  unfold Obligations.CisternCommandsAgingLocksAndErrors
  exact ⟨⟨fun _ _ _ _ _ _ _ _ held => pairResultExpire_marks held, fun _ _ _ _ _ mark => pairMarkExpire_forgets mark,
      fun _ _ _ _ _ _ small way place entry timeout => ageWalkVisit_ages small way place entry timeout, fun _ whole => ageWalkVisit_sweeps whole,
      fun _ hit swept => stampModeRestore_restores hit swept, fun _ _ _ limited locked valid => lockHoldExpire_unlocks limited locked valid,
      fun _ _ _ inside valid => cstEccInvalidate_invalidates inside valid⟩,
    cstEntryAdd_asks, cstEntryDelete_asks, fun _ _ _ _ full => cstEntry_busy full, cstEntryRead_found, cstEntryRead_absent, cstEntryUnlock_unlocks,
    cstFlush_asks, cstFloodSet_sets⟩

end Sys2Proof.Machine
end

section
/-! PROOFS. The audits of Square (O46). -/

namespace Sys2Proof.Machine

open Sys2Proof

set_option Elab.async false

/-! Expected values (R191). -/

/-- A digest and count under a region's number; the zero pair has no record. -/
def pairPut (m : AMap (Word × Nat)) (i : Nat) (v : Word × Nat) : AMap (Word × Nat) := if v = (0, 0) then mapErase m i else mapSet m i v

theorem pairPut_self (m : AMap (Word × Nat)) (i : Nat) (v : Word × Nat) : mapGetD (pairPut m i v) i (0, 0) = v := by
  unfold pairPut
  split
  · next zero => rw [mapGetD, mapGet_mapErase_self, zero]; rfl
  · exact mapGetD_mapSet_self _ _ _ _

theorem pairPut_ne (m : AMap (Word × Nat)) {i j : Nat} (v : Word × Nat) (other : j ≠ i) : mapGetD (pairPut m i v) j (0, 0) = mapGetD m j (0, 0) := by
  unfold pairPut mapGetD
  split
  · rw [mapGet_mapErase_ne _ other]
  · rw [mapGet_mapSet_ne _ _ other]

/-- Pairs that follow each other are each put once, and no other. -/
theorem pairPut_foldl (first : Nat) (f : Nat → Word × Nat) (n : Nat) (m : AMap (Word × Nat)) :
    (∀ i < n, mapGetD ((List.range n).foldl (fun m i => pairPut m (first + i) (f i)) m) (first + i) (0, 0) = f i) ∧
    ∀ j, (j < first ∨ first + n ≤ j) → mapGetD ((List.range n).foldl (fun m i => pairPut m (first + i) (f i)) m) j (0, 0) = mapGetD m j (0, 0) := by
  induction n with
  | zero => exact ⟨fun _ small => absurd small (Nat.not_lt_zero _), fun _ _ => rfl⟩
  | succ n ih =>
    obtain ⟨within, outside⟩ := ih
    rw [List.range_succ, List.foldl_append, List.foldl_cons, List.foldl_nil]
    refine ⟨fun i small => ?_, fun j apart => ?_⟩
    · by_cases last : i = n
      · rw [last, pairPut_self]
      · rw [pairPut_ne _ _ (by omega), within i (by omega)]
    · rw [pairPut_ne _ _ (by omega), outside j (by omega)]

theorem sqrExpectWrite_writes :
    AnswersOk .sqrExpectWrite 0x0518 (fun _ _ req => 1 ≤ le req 2 2 ∧ le req 2 2 ≤ 30 ∧ le req 0 2 + le req 2 2 ≤ 1024) (fun _ _ _ => [])
    (fun s t ch req => (∀ i < le req 2 2, mapGetD t.sqr.expect (le req 0 2 + i) (0, 0) =
        (BitVec.ofNat 32 (le req (8 + 8 * i) 4), le req (12 + 8 * i) 4)) ∧
      (∀ j, (j < le req 0 2 ∨ le req 0 2 + le req 2 2 ≤ j) → mapGetD t.sqr.expect j (0, 0) = mapGetD s.sqr.expect j (0, 0)) ∧
      AnswerFrame [.sqr] s t ch) :=
  answersOk_set (row := fun s ch seq => (rfl : execSqrExpectWrite ch seq s = _)) (fun s ch seq req ⟨some_, few, inside⟩ => by
    obtain ⟨expect, he⟩ : ∃ m, m = (List.range (le req 2 2)).foldl (fun m i =>
      pairPut m (le req 0 2 + i) (BitVec.ofNat 32 (le req (8 + 8 * i) 4), le req (12 + 8 * i) 4)) s.sqr.expect := ⟨_, rfl⟩
    obtain ⟨written, kept⟩ := pairPut_foldl (le req 0 2) (fun i => (BitVec.ofNat 32 (le req (8 + 8 * i) 4), le req (12 + 8 * i) 4)) (le req 2 2) s.sqr.expect
    rw [← he] at written kept
    have set : ChangesOnly [.sqr] s { s with sqr := { s.sqr with expect := expect } } := .of_patch rfl
    refine ⟨{ s with sqr := { s.sqr with expect := expect } }, ?_, rfl, ?_⟩
    · dsimp only
      rw [if_neg (by omega), he]
      rfl
    · rw [answer_sqr]
      exact ⟨written, kept, answer_frame_quiet ch seq rcOk [] set (by decide) (by decide)⟩)

/-! An audit begins, runs on and ends (R189 to R191). -/

theorem sqrAuditStart_starts : RunsLater .sqrAuditStart 0x0519 (fun s _ _ => s.sqr.walk = none)
    (fun s t ch seq req => t.sqr.walk = some ⟨bits (byteAt req 0) 3 0, bitAt (byteAt req 0) 4, bitAt (byteAt req 1) 0, ch, seq⟩ ∧
      t.sqr.dirty = [] ∧ t.sqr.mismatch = [] ∧ ChangesOnly [.mbx, .sqr] s t) := by
  intro s ch seq req begun idle
  obtain ⟨a, ha⟩ : ∃ a : Audit, a = ⟨bits (byteAt req 0) 3 0, bitAt (byteAt req 0) 4, bitAt (byteAt req 1) 0, ch, seq⟩ := ⟨_, rfl⟩
  have set : ChangesOnly [.mbx, .sqr] s { s with sqr := { s.sqr with walk := some a, dirty := [], mismatch := [] } } := .of_patch rfl
  refine completes_command begun (rfl : execSqrAuditStart ch seq s = _) ?_
  dsimp only
  rw [if_neg (by rw [idle]; decide), ← ha]
  refine ⟨defer_runs (begun.of_mbx rfl), ?_⟩
  rw [defer_sqr]
  exact ⟨rfl, rfl, rfl, set.step ((defer_keeps _ _ _).frame.mono (by decide))⟩

theorem sqrAuditStart_busy {s : State} {ch seq : Nat} {req : Bytes} (begun : Begun s ch seq 0x0519 req) (busy : s.sqr.walk.isSome = true) :
    Completes (.sqrAuditStart ch seq) s (fun t => Answered t ch seq rcBusy [] ∧ AnswerFrame [] s t ch) := by
  refine completes_command begun (rfl : execSqrAuditStart ch seq s = _) ?_
  dsimp only
  rw [if_pos busy]
  exact ⟨answer_answered _ _ begun.unanswered, answer_frame _ _ _ _ _⟩

section
variable {s : State} {a : Audit}

/-- The digests of all regions (R189). -/
def auditDigest (s : State) (a : Audit) : AMap (Word × Nat) := (List.range 1024).foldl (auditRegion s a) []

/-- The regions whose digest is not the one expected (R191). -/
def auditBad (s : State) (a : Audit) : List Nat :=
  if a.compare then
    (List.range 1024).filter (fun r => !s.sqr.dirty.contains r && mapGetD (auditDigest s a) r (0, 0) ≠ mapGetD s.sqr.expect r (0, 0))
  else []

/-- A region that is not DIRTY has its own digest. -/
theorem auditDigest_region (s : State) (a : Audit) {r : Nat} (inside : r < 1024) (clean : r ∉ s.sqr.dirty) :
    mapGetD (auditDigest s a) r (0, 0) = regionDigest s a r := by
  obtain ⟨f, hf⟩ : ∃ f : Nat → Word × Nat, f = fun r => if r ∈ s.sqr.dirty then
      (BitVec.ofNat 32 (Config.freeNat (s.fresh + 2 * r)), Config.freeNat (s.fresh + 2 * r + 1) % 8388608) else regionDigest s a r := ⟨_, rfl⟩
  have steps : auditDigest s a = (List.range 1024).foldl (fun m i => pairPut m (0 + i) (f i)) [] := by
    simp only [Nat.zero_add]
    rw [hf]
    rfl
  have found := (pairPut_foldl 0 f 1024 []).1 r inside
  rw [Nat.zero_add] at found
  rw [steps, found, hf]
  exact if_neg clean

theorem mem_auditBad {r : Nat} (inside : r < 1024) (clean : r ∉ s.sqr.dirty) :
    r ∈ auditBad s a ↔ a.compare = true ∧ regionDigest s a r ≠ mapGetD s.sqr.expect r (0, 0) := by
  unfold auditBad
  split
  · next compares =>
    rw [← auditDigest_region s a inside clean]
    simp [inside, clean, compares]
  · next ignores => exact ⟨fun member => absurd member List.not_mem_nil, fun h => absurd h.1 ignores⟩

/-- The state of an audit that has ended, before its answer. -/
def audited (s : State) (a : Audit) : State :=
  let u := setRegions { s with
    fresh := s.fresh + 2048
    sqr := { s.sqr with walk := none, round := s.sqr.round + 1, digest := auditDigest s a, mismatch := auditBad s a } } r_SQR_MISMATCH (auditBad s a)
  if (auditBad s a).isEmpty then u
  else eventToManager (setBits u r_SQR_STATUS 2#32) 0x8510 (toLe 4 (s.sqr.round + 1).toNat ++ toLe 2 (auditBad s a).length)

theorem audited_keeps (s : State) (a : Audit) :
    (audited s a).sqr = { s.sqr with walk := none, round := s.sqr.round + 1, digest := auditDigest s a, mismatch := auditBad s a } ∧
    (audited s a).cst = s.cst ∧ ∀ ch seq, Unanswered s ch seq → Unanswered (audited s a) ch seq := by
  obtain ⟨u, hu⟩ : ∃ u : State, u = { s with
    fresh := s.fresh + 2048
    sqr := { s.sqr with walk := none, round := s.sqr.round + 1, digest := auditDigest s a, mismatch := auditBad s a } } := ⟨_, rfl⟩
  have marked := setRegions_keeps u r_SQR_MISMATCH (auditBad s a)
  have sqr : u.sqr = { s.sqr with walk := none, round := s.sqr.round + 1, digest := auditDigest s a, mismatch := auditBad s a } := by rw [hu]
  have cst : u.cst = s.cst := by rw [hu]
  have mbx : u.mbx = s.mbx := by rw [hu]
  unfold audited
  rw [← hu]
  dsimp only
  split
  · exact ⟨(marked.same .sqr).trans sqr, (marked.same .cst).trans cst, fun _ _ waits => waits.same ((marked.same .mbx).trans mbx)⟩
  · have told := eventToManager_keeps (setBits (setRegions u r_SQR_MISMATCH (auditBad s a)) r_SQR_STATUS 2#32) 0x8510
      (toLe 4 (s.sqr.round + 1).toNat ++ toLe 2 (auditBad s a).length)
    have set := setBits_keeps (setRegions u r_SQR_MISMATCH (auditBad s a)) r_SQR_STATUS 2#32
    exact ⟨(told.same .sqr).trans ((set.same .sqr).trans ((marked.same .sqr).trans sqr)),
      (told.same .cst).trans ((set.same .cst).trans ((marked.same .cst).trans cst)),
      fun _ _ waits => (waits.same ((set.same .mbx).trans ((marked.same .mbx).trans mbx))).told (eventToManager_told _ _ _)⟩

theorem sqrAuditComplete_compares (walks : s.sqr.walk = some a) : Completes .sqrAuditComplete s (fun t =>
    t.sqr.walk = none ∧ t.sqr.round = s.sqr.round + 1 ∧ t.cst = s.cst ∧
    (∀ r < 1024, r ∉ s.sqr.dirty → mapGetD t.sqr.digest r (0, 0) = regionDigest s a r ∧
      (r ∈ t.sqr.mismatch ↔ a.compare = true ∧ regionDigest s a r ≠ mapGetD s.sqr.expect r (0, 0))) ∧
    (Unanswered s a.chan a.seq → Answered t a.chan a.seq rcOk
      (toLe 4 t.sqr.round.toNat ++ toLe 2 t.sqr.mismatch.length ++ toLe 2 s.sqr.dirty.length))) := by
  have row : exec .sqrAuditComplete s = .next (answer (audited s a) a.chan a.seq rcOk
      (toLe 4 (s.sqr.round + 1).toNat ++ toLe 2 (auditBad s a).length ++ toLe 2 s.sqr.dirty.length)) := by
    show execSqrAuditComplete s = _
    unfold execSqrAuditComplete
    rw [walks]
    rfl
  obtain ⟨sqr, cst, waits⟩ := audited_keeps s a
  refine completes_of row ?_
  rw [answer_sqr, answer_cst, sqr]
  dsimp only
  exact ⟨rfl, rfl, cst, fun r inside clean => ⟨auditDigest_region s a inside clean, mem_auditBad inside clean⟩,
    fun asked => answer_answered _ _ (waits _ _ asked)⟩

end

theorem sqrResultRead_reads :
    AnswersOk .sqrResultRead 0x051A (fun _ _ req => 1 ≤ le req 2 2 ∧ le req 2 2 ≤ 30 ∧ le req 0 2 + le req 2 2 ≤ 1024)
    (fun s _ req => req ++ (List.range (le req 2 2)).flatMap (fun i =>
      toLe 4 (mapGetD s.sqr.digest (le req 0 2 + i) (0, 0)).1.toNat ++
      toLe 4 ((mapGetD s.sqr.digest (le req 0 2 + i) (0, 0)).2 + 2 ^ 29 * b2n (s.sqr.dirty.contains (le req 0 2 + i)) +
        2 ^ 30 * b2n (s.sqr.mismatch.contains (le req 0 2 + i)))))
    (fun s t ch _ => AnswerFrame [] s t ch) :=
  answersOk_query (fun s ch seq => (rfl : execSqrResultRead ch seq s = _)) (fun _ _ _ _ ⟨some_, few, inside⟩ => if_neg (by omega))

/-- Settles O46: every region that is not DIRTY has its own digest, whatever stands in the others. -/
theorem auditsDigestAndCompareRegions : Obligations.AuditsDigestAndCompareRegions := by
  unfold Obligations.AuditsDigestAndCompareRegions
  exact ⟨sqrExpectWrite_writes, sqrAuditStart_starts, fun _ _ _ _ begun busy => sqrAuditStart_busy begun busy,
    fun _ _ walks => sqrAuditComplete_compares walks, sqrResultRead_reads⟩

end Sys2Proof.Machine
end

section
/-! PROOFS. Threads, channels, waits, forks and joins, and the delivery and end of work items (R209 to R236). -/
namespace Sys2Proof.Machine

open Sys2Proof

set_option Elab.async false

/-! What a step leaves of every cluster. -/

/-- Every cluster looks the same through `f`. -/
def SameIn {α : Type} (f : Cluster → α) (s t : State) : Prop := ∀ q, f (clusterGet t q) = f (clusterGet s q)

section
variable {α : Type} {f : Cluster → α} {s t u : State}

theorem SameIn.trans (h : SameIn f s t) (k : SameIn f t u) : SameIn f s u := fun q => (k q).trans (h q)

theorem SameIn.of_csc (csc : t.csc = s.csc) : SameIn f s t := fun q => congrArg f (clusterGet_congr csc q)

theorem SameIn.of_keeps {ps : List Part} (h : Keeps ps s t) (quiet : Part.csc ∉ ps := by decide) : SameIn f s t := .of_csc (h.same .csc quiet)

theorem clusterGet_clusterSet_ne (s : State) {q r : Nat} (c : Cluster) (other : r ≠ q) : clusterGet (clusterSet s q c) r = clusterGet s r :=
  mapGetD_mapSet_ne _ _ _ other

theorem clusterGet_clusterMod_self (s : State) (q : Nat) (g : Cluster → Cluster) : clusterGet (clusterMod s q g) q = g (clusterGet s q) :=
  clusterGet_clusterSet_self _ _ _

theorem clusterMod_sameIn {g : Cluster → Cluster} {q : Nat} (h : f (g (clusterGet s q)) = f (clusterGet s q)) : SameIn f s (clusterMod s q g) := by
  intro r
  by_cases same : r = q
  · subst same; rw [clusterGet_clusterMod_self, h]
  · exact congrArg f (clusterGet_clusterSet_ne s _ same)

theorem thMod_sameIn (s : State) (q i : Nat) (g : Thread → Thread) (blind : ∀ c l, f { c with threads := l } = f c) : SameIn f s (thMod s q i g) :=
  clusterMod_sameIn (blind _ _)

theorem chanPut_sameIn (s : State) (q ch : Nat) (x : Channel) (blind : ∀ c l, f { c with channels := l } = f c) : SameIn f s (chanPut s q ch x) :=
  clusterMod_sameIn (blind _ _)

theorem SameIn.thGet (h : SameIn Cluster.threads s t) (q i : Nat) : thGet t q i = thGet s q i := congrArg (fun l => mapGetD l i ({} : Thread)) (h q)

theorem SameIn.itemOf (h : SameIn Cluster.work s t) (q i : Nat) : itemOf t q i = itemOf s q i := congrArg (fun l => mapGet l i) (h q)

theorem SameIn.chanInfo (h : SameIn Cluster.channels s t) (sup : SameIn Cluster.supSlot s t) (q ch : Nat) : chanInfo t q ch = chanInfo s q ch := by
  unfold Machine.chanInfo supervisorSlot
  rw [h q, sup q]

theorem SameIn.engineOf (h : SameIn Cluster.map s t) (q i : Nat) : engineOf t q i = engineOf s q i := by
  unfold Machine.engineOf clusterEngine
  rw [h q]

end

section
variable (s : State) (q i : Nat)

theorem thGet_thSet_self (x : Thread) : thGet (thSet s q i x) q i = x := by
  unfold thGet thSet
  rw [clusterGet_clusterMod_self, mapGetD_mapSet_self]

theorem thGet_thSet_ne {j : Nat} (x : Thread) (other : j ≠ i) : thGet (thSet s q i x) q j = thGet s q j := by
  unfold thGet thSet
  rw [clusterGet_clusterMod_self]
  exact mapGetD_mapSet_ne _ _ _ other

theorem thGet_thMod_self (g : Thread → Thread) : thGet (thMod s q i g) q i = g (thGet s q i) := thGet_thSet_self _ _ _ _

theorem thGet_thMod_ne {j : Nat} (g : Thread → Thread) (other : j ≠ i) : thGet (thMod s q i g) q j = thGet s q j := thGet_thSet_ne _ _ _ _ other

theorem chanInfo_chanPut_self (x : Channel) :
    chanInfo (chanPut s q i x) q i = if i = 255 then { x with reader := supervisorSlot s q } else x := by
  unfold chanInfo
  rw [chanPut, clusterGet_clusterMod_self, mapGetD_mapSet_self, ← chanPut]
  rw [show supervisorSlot (chanPut s q i x) q = supervisorSlot s q from chanPut_sameIn (f := Cluster.supSlot) s q i x (fun _ _ => rfl) q]

theorem chanInfo_chanPut_msgs (x : Channel) : (chanInfo (chanPut s q i x) q i).msgs = x.msgs := by
  rw [chanInfo_chanPut_self]; split <;> rfl

theorem chanInfo_chanPut_writers (x : Channel) : (chanInfo (chanPut s q i x) q i).writers = x.writers := by
  rw [chanInfo_chanPut_self]; split <;> rfl

theorem chanInfo_thMod (r ch : Nat) (g : Thread → Thread) : chanInfo (thMod s q i g) r ch = chanInfo s r ch :=
  (thMod_sameIn (f := Cluster.channels) s q i g (fun _ _ => rfl)).chanInfo (thMod_sameIn s q i g (fun _ _ => rfl)) r ch

theorem thGet_chanPut (r j : Nat) (x : Channel) : thGet (chanPut s q i x) r j = thGet s r j :=
  (chanPut_sameIn (f := Cluster.threads) s q i x (fun _ _ => rfl)).thGet r j

end

/-- A block of bytes that alone is written to memory is stored. -/
theorem Stored.of_write {s u : State} {a : Nat} {bs : Bytes} (mem : u.mem = memWriteN s.mem a bs) : Stored s u a bs := by
  refine ⟨bytes_ext (length_memReadN _ _ _) fun i hi => ?_, fun c out => ?_⟩
  · rw [length_memReadN] at hi
    rw [getD_memReadN _ _ hi, mem, memRead_memWriteN, if_pos (by omega), show a + i - a = i by omega]
  · rw [mem, memRead_memWriteN, if_neg (by omega)]

/-! Stores of a thread to its window. -/

section
variable {s : State} {q t : Nat}

theorem window_running (runs : threadRuns s q t = true) (f : Thread → State) : window s q t f = .next (f (thGet s q t)) := if_pos runs

/-- A store to the window of a thread that executes takes effect on the thread as it is. -/
theorem completes_window {c : Instr} {f : Thread → State} {Q : State → Prop} (row : exec c s = window s q t f) (runs : threadRuns s q t = true)
    (after : Q (f (thGet s q t))) : Completes c s Q := completes_of (row.trans (window_running runs f)) after

theorem window_leaves {c : Instr} {f : Thread → State} (row : exec c s = window s q t f) (runs : threadRuns s q t = true)
    (same : f (thGet s q t) = s) : exec c s = .next s := (row.trans (window_running runs f)).trans (congrArg _ same)

theorem window_thMod {c : Instr} {f : Thread → State} {g : Thread → Thread} (row : exec c s = window s q t f) (runs : threadRuns s q t = true)
    (sets : f (thGet s q t) = thMod s q t g) :
    Completes c s (fun u => thGet u q t = g (thGet s q t) ∧ ChangesOnly [.csc] s u) :=
  completes_window row runs (sets ▸ ⟨thGet_thMod_self _ _ _ _, (thMod_keeps s q t g).frame⟩)

variable (runs : threadRuns s q t = true) (v : Dword)
include runs

theorem chDest_sets : Completes (.chDest q t v) s (fun u =>
    thGet u q t = { thGet s q t with dest := bits v.toNat 11 0, staged := [] } ∧ ChangesOnly [.csc] s u) :=
  window_thMod (g := fun x => { x with dest := bits v.toNat 11 0, staged := [] }) (rfl : execChDest q t v s = _) runs rfl

theorem chWord_stages (room : (thGet s q t).staged.length < 32) : Completes (.chWord q t v) s (fun u =>
    thGet u q t = { thGet s q t with staged := (thGet s q t).staged ++ [v] } ∧ ChangesOnly [.csc] s u) :=
  window_thMod (g := fun x => { x with staged := x.staged ++ [v] }) (rfl : execChWord q t v s = _) runs (if_neg (by omega))

theorem forkArg_sets : Completes (.forkArg q t v) s (fun u => thGet u q t = { thGet s q t with forkArg := v } ∧ ChangesOnly [.csc] s u) :=
  window_thMod (g := fun x => { x with forkArg := v }) (rfl : execForkArg q t v s = _) runs rfl

end

/-- A channel with room and without waiting writers takes a message (R224). -/
theorem commit_takes (s : State) (q t : Nat) (ws : List Dword) {d : Nat} (low : d < 0x800)
    (room : (chanInfo s (d / 256) (d % 256)).msgs.length < (chanInfo s (d / 256) (d % 256)).depth)
    (free : (chanInfo s (d / 256) (d % 256)).writers = []) :
    commit s q t d ws = (chanPut s (d / 256) (d % 256)
      { chanInfo s (d / 256) (d % 256) with msgs := (chanInfo s (d / 256) (d % 256)).msgs ++ [ws] }, 0) := by
  unfold commit
  rw [if_pos low]
  dsimp only
  rw [if_neg (by omega), if_pos ⟨room, by rw [free]; rfl⟩]

/-- A full channel takes none (R227). -/
theorem commit_full (s : State) (q t : Nat) (ws : List Dword) {d : Nat} (low : d < 0x800)
    (deep : 0 < (chanInfo s (d / 256) (d % 256)).depth)
    (full : (chanInfo s (d / 256) (d % 256)).depth ≤ (chanInfo s (d / 256) (d % 256)).msgs.length) :
    commit s q t d ws = (bump s (r_CSC_CNT_CH_FULL (d / 256)), 1) := by
  unfold commit
  rw [if_pos low]
  dsimp only
  rw [if_neg (by omega), if_neg (by omega)]

/-- A message that its channel takes is its last one, and the writer's stage is empty (R225). -/
theorem chanPut_thMod_commits (s : State) (q t : Nat) {d : Nat} (x : Channel) (g : Thread → Thread) :
    (chanInfo (thMod (chanPut s (d / 256) (d % 256) x) q t g) (d / 256) (d % 256)).msgs = x.msgs ∧
    thGet (thMod (chanPut s (d / 256) (d % 256) x) q t g) q t = g (thGet s q t) ∧
    ChangesOnly [.csc] s (thMod (chanPut s (d / 256) (d % 256) x) q t g) := by
  refine ⟨?_, ?_, (Keeps.last (thMod_keeps _ q t g) (chanPut_keeps s _ _ x)).frame⟩
  · rw [chanInfo_thMod, chanInfo_chanPut_msgs]
  · rw [thGet_thMod_self, thGet_chanPut]

section
variable {s : State} {q t : Nat} {v : Dword}

theorem chLast_commits {d : Nat} (runs : threadRuns s q t = true) (room : (thGet s q t).staged.length < 32) (dest : (thGet s q t).dest = d)
    (low : d < 0x800) (space : (chanInfo s (d / 256) (d % 256)).msgs.length < (chanInfo s (d / 256) (d % 256)).depth)
    (free : (chanInfo s (d / 256) (d % 256)).writers = []) : ∀ c ∈ [Instr.chLast, Instr.chLastNb], Completes (c q t v) s (fun u =>
      (chanInfo u (d / 256) (d % 256)).msgs = (chanInfo s (d / 256) (d % 256)).msgs ++ [(thGet s q t).staged ++ [v]] ∧
      thGet u q t = { thGet s q t with staged := [], chResult := 0 } ∧ ChangesOnly [.csc] s u) := by
  subst dest
  have takes := commit_takes s q t ((thGet s q t).staged ++ [v]) low space free
  simp only [List.forall_mem_cons]
  refine ⟨?_, ?_, fun _ h => (nomatch h)⟩
  · refine completes_window (rfl : execChLast q t v s = _) runs ?_
    dsimp only
    rw [if_neg (by omega), takes]
    dsimp only
    rw [if_neg Nat.zero_ne_one]
    exact chanPut_thMod_commits s q t _ (fun x => { x with staged := [], chResult := 0 })
  · refine completes_window (rfl : execChLastNb q t v s = _) runs ?_
    dsimp only
    rw [if_neg (by omega), takes]
    dsimp only
    rw [if_neg Nat.zero_ne_one]
    exact chanPut_thMod_commits s q t _ (fun x => { x with staged := [], chResult := 0 })

theorem chLast_waits {d : Nat} (runs : threadRuns s q t = true) (room : (thGet s q t).staged.length < 32) (dest : (thGet s q t).dest = d)
    (low : d < 0x800) (deep : 0 < (chanInfo s (d / 256) (d % 256)).depth)
    (full : (chanInfo s (d / 256) (d % 256)).depth ≤ (chanInfo s (d / 256) (d % 256)).msgs.length) :
    Completes (.chLast q t v) s (fun u => thGet u q t = { thGet s q t with
        staged := (thGet s q t).staged ++ [v]
        state := .waiting
        wait := .space d } ∧
      (chanInfo u (d / 256) (d % 256)).writers = (chanInfo s (d / 256) (d % 256)).writers ++ [64 * q + t] ∧ ChangesOnly [.csc, .regs] s u) := by
  subst dest
  have counts := bump_keeps s (r_CSC_CNT_CH_FULL ((thGet s q t).dest / 256))
  have channel := (SameIn.of_keeps (f := Cluster.channels) counts).chanInfo (.of_keeps counts) ((thGet s q t).dest / 256) ((thGet s q t).dest % 256)
  have thread := (SameIn.of_keeps (f := Cluster.threads) counts).thGet q t
  refine completes_window (rfl : execChLast q t v s = _) runs ?_
  dsimp only
  rw [if_neg (by omega), commit_full s q t _ low deep full]
  refine ⟨?_, ?_, ?_⟩
  · rw [if_pos rfl, thGet_thMod_self, thGet_chanPut, thread]
  · rw [if_pos rfl, chanInfo_thMod, chanInfo_chanPut_writers, channel]
  · rw [if_pos rfl]
    exact (Keeps.last (ps := [.csc, .regs]) (thMod_keeps _ q t _) (.last (chanPut_keeps _ _ _ _) (counts.mono (by decide)))).frame

theorem chWaitCommit_admits {ch w : Nat} {ws : List Nat} (low : ch < 0x800)
    (room : (chanInfo s (ch / 256) (ch % 256)).msgs.length < (chanInfo s (ch / 256) (ch % 256)).depth)
    (writers : (chanInfo s (ch / 256) (ch % 256)).writers = w :: ws) (unstaged : ch % 256 = 255 → (clusterGet s (ch / 256)).stagedRecords = []) :
    Completes (.chWaitCommit ch) s (fun u => (chanInfo u (ch / 256) (ch % 256)).msgs =
        (chanInfo s (ch / 256) (ch % 256)).msgs ++ [(thGet s (w / 64) (w % 64)).staged] ∧
      (chanInfo u (ch / 256) (ch % 256)).writers = ws ∧ (thGet u (w / 64) (w % 64)).state = .ready ∧
      (thGet u (w / 64) (w % 64)).staged = [] ∧ ChangesOnly [.csc] s u) := by
  have none : (if ch % 256 = 255 then (clusterGet s (ch / 256)).stagedRecords else []) = [] := by
    split
    · exact unstaged ‹_›
    · rfl
  refine completes_of (t := thMod (chanPut s (ch / 256) (ch % 256) { chanInfo s (ch / 256) (ch % 256) with
    msgs := (chanInfo s (ch / 256) (ch % 256)).msgs ++ [(thGet s (w / 64) (w % 64)).staged], writers := ws }) (w / 64) (w % 64)
    (fun y => { y with staged := [], chResult := 0, state := .ready, wait := .none })) ?_ ⟨?_, ?_, ?_, ?_, ?_⟩
  · show execChWaitCommit ch s = _
    unfold execChWaitCommit
    dsimp only
    rw [if_pos ⟨low, room⟩, none, writers]
  · rw [chanInfo_thMod, chanInfo_chanPut_msgs]
  · rw [chanInfo_thMod, chanInfo_chanPut_writers]
  · rw [thGet_thMod_self]
  · rw [thGet_thMod_self]
  · exact (Keeps.last (thMod_keeps _ _ _ _) (chanPut_keeps s _ _ _)).frame

theorem localWrite_mem {e : Nat} (engine : engineOf s q t = some e) (a : Nat) (b : Bytes) :
    localWrite s q t a b = { s with mem := memWriteN s.mem (localAddr e a) b } := by
  unfold localWrite
  rw [engine]

theorem chRead_reads {m : List Dword} {rest : List (List Dword)} {e : Nat} (runs : threadRuns s q t = true) (engine : engineOf s q t = some e)
    (reader : isReader s q t (bits v.toNat 11 0) = true) (msgs : (chanInfo s q (bits v.toNat 11 0 % 256)).msgs = m :: rest)
    (above : 0x20000 ≤ 8 * bits v.toNat 31 16) (below : 8 * bits v.toNat 31 16 + 8 * m.length ≤ 0x40000) :
    Completes (.chRead q t v) s (fun u =>
      (chanInfo u q (bits v.toNat 11 0 % 256)).msgs = rest ∧ (thGet u q t).readLen = m.length ∧
      Stored s u (localAddr e (8 * bits v.toNat 31 16)) (m.flatMap (fun w => toLe 8 w.toNat)) ∧ ChangesOnly [.csc, .mem] s u) := by
  refine completes_window (rfl : execChRead q t v s = _) runs ?_
  dsimp only
  rw [reader, msgs]
  dsimp only
  rw [if_neg (show ¬ (!true) = true by decide), if_neg (by omega), localWrite_mem engine]
  refine ⟨?_, ?_, Stored.of_write rfl, ?_⟩
  · rw [chanInfo_thMod, chanInfo_chanPut_msgs]
  · rw [thGet_thMod_self]
  · exact (Keeps.last (thMod_keeps _ _ _ _) (.last (chanPut_keeps _ _ _ _) ((memWriteN_keeps s _ _).mono (by decide)))).frame

theorem wait_waits (runs : threadRuns s q t = true) (names : bits v.toNat 11 0 ≠ 0xFFF ∨ bits v.toNat 63 32 ≠ 0) :
    (chanHas s (bits v.toNat 11 0) = true → exec (.wait q t v) s = .next s) ∧
    (chanHas s (bits v.toNat 11 0) = false → Completes (.wait q t v) s (fun u => (thGet u q t).state = .waiting ∧
      (thGet u q t).wait = .data (bits v.toNat 11 0) (bitAt v.toNat 12 && decide (t = supervisorSlot s q)) (bits v.toNat 63 32) ∧
      ChangesOnly [.csc] s u)) := by
  have sound : ¬ (bits v.toNat 11 0 = 0xFFF ∧ ¬ (bitAt v.toNat 12 && decide (t = supervisorSlot s q)) = true ∧ bits v.toNat 63 32 = 0) :=
    fun ⟨channel, _, timeout⟩ => names.elim (· channel) (· timeout)
  refine ⟨fun holds => ?_, fun empty => ?_⟩
  · refine window_leaves (rfl : execWait q t v s = _) runs ?_
    dsimp only
    rw [if_neg sound, if_pos holds]
  · refine completes_window (rfl : execWait q t v s = _) runs ?_
    dsimp only
    rw [if_neg sound, if_neg (by rw [empty]; exact Bool.false_ne_true)]
    refine ⟨?_, ?_, (thMod_keeps s q t _).frame⟩ <;> rw [thGet_thMod_self]

theorem wait_ends {ch n : Nat} {item : Bool} (waits : (thGet s q t).state = .waiting) (for_ : (thGet s q t).wait = .data ch item n) :
    (chanHas s ch = true → Completes (.waitWake q t) s (fun u => thGet u q t = { thGet s q t with state := .ready, wait := .none } ∧
      ChangesOnly [.csc] s u)) ∧
    (n ≠ 0 → Completes (.waitTimeout q t) s (fun u => thGet u q t = { thGet s q t with state := .ready, wait := .none } ∧
      ChangesOnly [.csc] s u)) := by
  refine ⟨fun holds => completes_of (t := thSet s q t { thGet s q t with state := .ready, wait := .none }) ?_
      ⟨thGet_thSet_self _ _ _ _, (thSet_keeps _ _ _ _).frame⟩,
    fun armed => completes_of (t := thSet s q t { thGet s q t with state := .ready, wait := .none }) ?_
      ⟨thGet_thSet_self _ _ _ _, (thSet_keeps _ _ _ _).frame⟩⟩
  · show execWaitWake q t s = _
    unfold execWaitWake
    dsimp only
    rw [for_]
    exact if_pos ⟨waits, holds⟩
  · show execWaitTimeout q t s = _
    unfold execWaitTimeout
    dsimp only
    rw [for_]
    exact if_pos ⟨waits, decide_eq_true armed⟩

theorem join_waits (runs : threadRuns s q t = true) : ((thGet s q t).children = [] → exec (.join q t v) s = .next s) ∧
    ((thGet s q t).children ≠ [] → Completes (.join q t v) s (fun u => (thGet u q t).state = .waiting ∧ (thGet u q t).wait = .join ∧
      ChangesOnly [.csc] s u)) := by
  refine ⟨fun childless => ?_, fun parent => ?_⟩
  · refine window_leaves (rfl : execJoin q t v s = _) runs ?_
    rw [childless]
    rfl
  · refine completes_window (rfl : execJoin q t v s = _) runs ?_
    rw [if_neg (by rw [List.isEmpty_iff]; exact parent)]
    refine ⟨?_, ?_, (thMod_keeps s q t _).frame⟩ <;> rw [thGet_thMod_self]

/-! FORK (R235). -/

theorem pickFrom_mem {α : Type} (s : State) {l : List α} (some_ : l ≠ []) : ∃ c ∈ l, pickFrom s l = (.some c, drawn s) := by
  have short : Config.freePick s.fresh l.length % l.length < l.length := Nat.mod_lt _ (List.length_pos_of_ne_nil some_)
  exact ⟨_, List.getElem_mem short, Prod.ext (List.getElem?_eq_getElem short) rfl⟩

/-- A thread that executes is no free worker. -/
theorem forkThreads_other (runs : threadRuns s q t = true) {n c : Nat} (picked : c ∈ forkThreads s q n) : c ≠ t := by
  rintro rfl
  obtain ⟨worker, free⟩ := List.mem_filter.mp (List.mem_filter.mp picked).1
  obtain ⟨-, slot⟩ := List.mem_filter.mp worker
  have unsup : c ≠ supervisorSlot s q := of_decide_eq_true (Bool.and_eq_true_iff.mp slot).1
  have ready := (Bool.and_eq_true_iff.mp runs).2
  rw [if_neg unsup] at ready
  have isReady : (thGet s q c).state = .ready := of_decide_eq_true (Bool.and_eq_true_iff.mp ready).2
  exact absurd (isReady.symm.trans (of_decide_eq_true free)) ThreadState.noConfusion

theorem fork_starts (runs : threadRuns s q t = true) (few : (thGet s q t).children.length < 8)
    (some_ : forkThreads s q (thGet s q t).slice ≠ []) : Completes (.fork q t v) s (fun u => ∃ c ∈ forkThreads s q (thGet s q t).slice,
      (thGet u q t).forkResult = c ∧ (thGet u q t).children = (thGet s q t).children ++ [c] ∧ (thGet u q c).state = .ready ∧
      (thGet u q c).parent = some t ∧ (thGet u q c).pc = bits v.toNat 16 0 ∧ ChangesOnly [.csc, .fresh] s u) := by
  obtain ⟨c, picked, picks⟩ := pickFrom_mem s some_
  have other := forkThreads_other runs picked
  have parent : ∀ g, thGet (thMod (drawn s) q c g) q t = thGet s q t := fun g => thGet_thMod_ne _ _ _ _ other.symm
  refine completes_window (rfl : execFork q t v s = _) runs ?_
  dsimp only
  rw [if_neg (by omega), picks]
  refine ⟨c, picked, ?_, ?_, ?_, ?_, ?_, ?_⟩
  · rw [thGet_thMod_self]
  · rw [thGet_thMod_self, parent]
  · rw [thGet_thMod_ne _ _ _ _ other, thGet_thMod_self]
  · rw [thGet_thMod_ne _ _ _ _ other, thGet_thMod_self]
  · rw [thGet_thMod_ne _ _ _ _ other, thGet_thMod_self]
  · exact (Keeps.last (thMod_keeps _ _ _ _) (.last (thMod_keeps _ _ _ _) ((drawn_keeps s).mono (by decide)))).frame

theorem fork_none (runs : threadRuns s q t = true) (few : (thGet s q t).children.length < 8)
    (empty : forkThreads s q (thGet s q t).slice = []) : Completes (.fork q t v) s (fun u => (thGet u q t).forkResult = 0xFF ∧
      Counted s u (r_CSC_CNT_FORK_NONE q) 1 ∧ ChangesOnly [.csc, .fresh, .regs] s u) := by
  refine completes_window (rfl : execFork q t v s = _) runs ?_
  dsimp only
  rw [if_neg (by omega), empty]
  have counts : Counted s (bump (drawn s) (r_CSC_CNT_FORK_NONE q)) (r_CSC_CNT_FORK_NONE q) 1 := counted_bump (drawn s) _
  refine ⟨?_, counts, ?_⟩
  · show (thGet (thMod (bump (drawn s) _) q t _) q t).forkResult = _
    rw [thGet_thMod_self]
  · exact (Keeps.last (thMod_keeps _ _ _ _) (.last (bump_keeps _ _) ((drawn_keeps s).mono (by decide)))).frame

end

/-! Delivery, retry and end of work items. -/

section
variable (s : State) (q t h : Nat) (it : WorkItem)

/-- Past the queue of its cluster, a delivery changes its threads alone. -/
theorem deliver_sameIn {α : Type} {f : Cluster → α} (blind : ∀ c l, f { c with threads := l } = f c) :
    SameIn f (clusterMod s q (fun c => { c with order := c.order.filter (fun x => x ≠ h), work := mapSet c.work h { it with state := .active } }))
      (deliver s q t h it) :=
  ((((SameIn.of_keeps (localWrite_keeps _ q t _ _)).trans (thMod_sameIn _ q t _ blind)).trans (.of_keeps (bump64_keeps _ _ _))).trans
    (thMod_sameIn _ q _ _ blind)).trans (.of_keeps (traceItem_keeps _ _ _ _ _ _))

/-- The thread of a delivered item, when it is not the supervisor, is READY with the item in its frame 0. -/
theorem deliver_thread (worker : t ≠ supervisorSlot s q) : (thGet (deliver s q t h it) q t).state = .ready ∧
    (thGet (deliver s q t h it) q t).frame0 = some h ∧ (thGet (deliver s q t h it) q t).slice = it.slice := by
  unfold deliver
  extract_lets queued copied held counted woken
  have sup : supervisorSlot counted q = supervisorSlot s q :=
    (((SameIn.of_keeps (f := Cluster.supSlot) (localWrite_keeps queued q t _ _)).trans (thMod_sameIn copied q t _ (fun _ _ => rfl))).trans
      (.of_keeps (bump64_keeps held _ _)) q).trans (clusterMod_sameIn (s := s) (f := Cluster.supSlot) (by rfl) q)
  have traced : thGet (traceItem woken q 1 it.pid it.slice (toLe 2 h ++ toLe 1 t ++ toLe 1 (kindCode it.kind))) q t = thGet held q t := by
    rw [(SameIn.of_keeps (traceItem_keeps woken _ _ _ _ _)).thGet, thGet_thMod_ne _ _ _ _ (by rw [sup]; exact worker),
      (SameIn.of_keeps (bump64_keeps held _ _)).thGet]
  rw [traced, thGet_thMod_self]
  exact ⟨rfl, rfl, rfl⟩

theorem deliver_stores {e : Nat} (engine : engineOf s q t = some e) :
    Stored s (deliver s q t h it) (localAddr e (frameLocal t 0)) (fit it.parcel 1024) := by
  unfold deliver
  extract_lets queued copied held counted woken
  have engine' : engineOf queued q t = some e := ((clusterMod_sameIn (by rfl)).engineOf q t).trans engine
  have copy : copied.mem = memWriteN s.mem (localAddr e (frameLocal t 0)) (fit it.parcel 1024) := by
    rw [show copied = _ from localWrite_mem engine' _ _]
    rfl
  refine Stored.of_write (Eq.trans ?_ copy)
  exact (Keeps.last (ps := [.csc, .gauge, .regs]) (traceItem_keeps woken _ _ _ _ _) (.last (thMod_keeps counted _ _ _)
    (.last (bump64_keeps held _ _) ((thMod_keeps copied _ _ _).mono (by decide))))).same .mem

end

section
variable {s : State} {q t h : Nat} {it : WorkItem}

/-- What WORK_ITEM_DELIVER says of its item, its thread and the thread's frame. -/
def Delivered (s u : State) (q t h : Nat) (it : WorkItem) (e : Nat) : Prop :=
  itemOf u q h = some { it with state := .active } ∧ h ∉ (clusterGet u q).order ∧ (thGet u q t).state = .ready ∧
  (thGet u q t).frame0 = some h ∧ (thGet u q t).slice = it.slice ∧ Stored s u (localAddr e (frameLocal t 0)) (fit it.parcel 1024) ∧
  ChangesOnly [.csc, .mem, .regs, .gauge] s u

theorem deliver_delivers {e : Nat} (worker : t ≠ supervisorSlot s q) (engine : engineOf s q t = some e) :
    Delivered s (deliver s q t h it) q t h it e := by
  obtain ⟨ready, frame, slice⟩ := deliver_thread s q t h it worker
  refine ⟨?_, ?_, ready, frame, slice, deliver_stores s q t h it engine, (deliver_keeps s q t h it).frame.mono (by decide)⟩
  · rw [(deliver_sameIn s q t h it (f := Cluster.work) (fun _ _ => rfl)).itemOf, itemOf, clusterGet_clusterMod_self]
    exact mapGet_mapSet_self _ _ _
  · rw [deliver_sameIn s q t h it (f := Cluster.order) (fun _ _ => rfl) q, clusterGet_clusterMod_self]
    simp

theorem workItemDeliver_delivers {e : Nat} (item : itemOf s q h = some it) (queued : it.state = .queued) (free : t ∈ freeWorkers s q)
    (oldest : oldestOf s q it.slice = some h) (engine : engineOf s q t = some e)
    (own : (thGet s q t).reserved = true → (thGet s q t).slice = it.slice)
    (turn : (thGet s q t).reserved = false → (drrTake s q it.slice).isSome = true) :
    Completes (.workItemDeliver q t h) s (fun u => Delivered s u q t h it e) := by
  have worker : t ≠ supervisorSlot s q :=
    of_decide_eq_true (Bool.and_eq_true_iff.mp (List.mem_filter.mp (List.mem_filter.mp free).1).2).1
  have row : exec (.workItemDeliver q t h) s = if (thGet s q t).reserved then
        (if (thGet s q t).slice = it.slice then done (deliver s q t h it) else done s)
      else match drrTake s q it.slice with
        | some drr => done (deliver (clusterMod s q (fun c => { c with drr := drr })) q t h it)
        | none => done s := by
    show execWorkItemDeliver q t h s = _
    unfold execWorkItemDeliver
    rw [item]
    exact if_pos ⟨queued, free, oldest⟩
  by_cases res : (thGet s q t).reserved = true
  · rw [if_pos res, if_pos (own res)] at row
    exact completes_of row (deliver_delivers worker engine)
  · obtain ⟨drr, takes⟩ := Option.isSome_iff_exists.mp (turn (Bool.eq_false_iff.mpr res))
    rw [if_neg res, takes] at row
    have sup : supervisorSlot (clusterMod s q (fun c => { c with drr := drr })) q = supervisorSlot s q :=
      clusterMod_sameIn (f := Cluster.supSlot) (by rfl) q
    have engine' := ((clusterMod_sameIn (s := s) (g := fun c => { c with drr := drr }) (q := q) rfl).engineOf q t).trans engine
    obtain ⟨active, gone, ready, frame, slice, stored, only⟩ := deliver_delivers (h := h) (it := it) (sup ▸ worker) engine'
    exact completes_of row ⟨active, gone, ready, frame, slice, stored, ((clusterMod_keeps s q _).frame.mono (by decide)).step only⟩

/-- A work item that finds a free entry is queued at the end of its cluster's order (R214). -/
theorem queueItem_queues (s : State) (p : Nat) (k : Pkt) (q : Nat) (kind : ItemKind) (reason opIndex : Nat)
    (free : (freeEntry s q k.hdr.slice).isSome = true) : ∃ u, queueItem s p k q kind reason opIndex = some u ∧
      ∃ k' h, pktGet u p = some k' ∧ k'.stage = .cascade ∧ k'.item = some (q, h) ∧ (clusterGet u q).order = (clusterGet s q).order ++ [h] := by
  obtain ⟨reserved, free⟩ := Option.isSome_iff_exists.mp free
  unfold queueItem
  rw [free]
  exact ⟨_, rfl, _, _, pktGet_pktSet_self _ _ _, rfl, rfl, congrArg Cluster.order (clusterGet_clusterSet_self s q _)⟩

theorem excRetry_queues {p pos reason : Nat} {k : Pkt} {kind : ItemKind} (there : pktGet s p = some k) (item : k.item = some (q, reason))
    (fault : k.pass.fault = some kind) (stage : k.stage = .retry) (starts : canStart s k = true) (serves : entryServes s k pos = true)
    (free : (freeEntry s q k.hdr.slice).isSome = true) : Completes (.excRetry p pos) s (fun u =>
      (∃ k' h, pktGet u p = some k' ∧ k'.stage = .cascade ∧ k'.item = some (q, h) ∧ (clusterGet u q).order = (clusterGet s q).order ++ [h]) ∧
      (∀ l ∈ u.csc.retry, p ∉ l) ∧ ChangesOnly [.csc, .pkts, .fresh] s u) := by
  obtain ⟨u, queues, k', h, there', cascade, item', order⟩ :=
    queueItem_queues s p { k with pass := { k.pass with fault := none } } q kind reason k.pass.op free
  have queued := (queueItem_opt s p { k with pass := { k.pass with fault := none } } q kind reason k.pass.op) u queues
  refine completes_of (t := { u with csc := { u.csc with retry := u.csc.retry.map (fun l => l.filter (fun x => x ≠ p)) } }) ?_
    ⟨⟨k', h, there', cascade, item', order⟩, ?_, ?_⟩
  · show execExcRetry p pos s = _
    unfold execExcRetry
    rw [there]
    dsimp only
    rw [item, fault]
    dsimp only at queues ⊢
    rw [if_pos ⟨stage, starts, serves⟩, ← item, queues]
  · intro l held
    obtain ⟨before, -, rfl⟩ := List.mem_map.mp held
    simp
  · exact (queued.frame.mono (by decide)).step (.of_patch rfl)

theorem dropWriter_threads (s : State) (q t : Nat) : SameIn Cluster.threads s (dropWriter s q t) := by
  intro r
  have mapped := mapGet_map s.csc.clusters (fun _ (c : Cluster) => { c with channels := c.channels.map (fun (e : Nat × Channel) =>
    (e.1, { e.2 with writers := e.2.writers.filter (fun w => w ≠ 64 * q + t) })) }) r
  show ((mapGet (dropWriter s q t).csc.clusters r).getD {}).threads = ((mapGet s.csc.clusters r).getD {}).threads
  rw [show mapGet (dropWriter s q t).csc.clusters r = _ from mapped]
  cases mapGet s.csc.clusters r with
  | none => rfl
  | some c => rfl

theorem thFree_frees (s : State) (q t : Nat) : (thGet (thFree s q t) q t).state = .free ∧ (thGet (thFree s q t) q t).frame0 = none ∧
    (thGet (thFree s q t) q t).staged = [] := by
  unfold thFree
  rw [(dropWriter_threads _ q t).thGet, thGet_thSet_self]
  exact ⟨rfl, rfl, rfl⟩

theorem exit_frees {v : Dword} (runs : threadRuns s q t = true) (worker : t ≠ supervisorSlot s q) (idle : activeItems s q t = []) :
    Completes (.exit q t v) s (fun u =>
    (thGet u q t).state = .free ∧ (thGet u q t).frame0 = none ∧ (thGet u q t).staged = [] ∧
    ((thGet s q t).parent = none → u.mem = s.mem) ∧
    (∀ r e, (thGet s q t).parent = some r → engineOf s q r = some e → Stored s u (localAddr e (0x20000 + 8 * t)) (toLe 8 v.toNat)) ∧
    ChangesOnly [.csc, .mem] s u) := by
  obtain ⟨free, frame, staged⟩ := thFree_frees (childExits s q t v.toNat) q t
  have kept : (thFree (childExits s q t v.toNat) q t).mem = (childExits s q t v.toNat).mem := (thFree_keeps _ q t).same .mem
  refine completes_window (rfl : execExit q t v s = _) runs ?_
  dsimp only
  rw [idle, if_neg worker]
  refine ⟨free, frame, staged, fun orphan => kept.trans ?_, fun r e parent engine => Stored.of_write (kept.trans ?_), ?_⟩
  · unfold childExits
    rw [orphan]
  · unfold childExits localAddr
    rw [parent]
    dsimp only
    rw [engine, ← Nat.add_assoc]
    rfl
  · exact (Keeps.last (thFree_keeps _ q t) (childExits_keeps s q t v.toNat)).frame

end

section
variable {s : State} {q t i : Nat} {v : Dword} {it : WorkItem}

theorem park_holds (runs : threadRuns s q t = true) (frame : frameOf (thGet s q t) (bits v.toNat 15 0) = some i)
    (active : activeItem s q (bits v.toNat 15 0) (thGet s q t).slice = some it) : Completes (.park q t v) s (fun u =>
      itemOf u q (bits v.toNat 15 0) = some { it with state := .held, parcel := frameBytes s q t i } ∧
      thGet u q t = setFrame (thGet s q t) i none ∧ (∀ k, pktGet s it.pid = some k → pktGet u it.pid = some { k with parked := true }) ∧
      ChangesOnly [.csc, .pkts, .twin] s u) := by
  obtain ⟨a, held⟩ : ∃ a, a = clusterMod s q (fun c =>
    { c with work := mapSet c.work (bits v.toNat 15 0) { it with state := .held, parcel := frameBytes s q t i } }) := ⟨_, rfl⟩
  obtain ⟨b, freed⟩ : ∃ b, b = thMod a q t (fun x => setFrame x i none) := ⟨_, rfl⟩
  have item : itemOf b q (bits v.toNat 15 0) = some { it with state := .held, parcel := frameBytes s q t i } := by
    rw [freed, (thMod_sameIn (f := Cluster.work) a q t _ (fun _ _ => rfl)).itemOf, held, itemOf, clusterGet_clusterMod_self]
    exact mapGet_mapSet_self _ _ _
  have thread : thGet b q t = setFrame (thGet s q t) i none := by
    rw [freed, thGet_thMod_self, held, (clusterMod_sameIn (by rfl)).thGet]
  have only : Keeps [.csc, .pkts, .twin] s b := by
    rw [freed, held]
    exact .last (thMod_keeps _ q t _) ((clusterMod_keeps s q _).mono (by decide))
  have packets : pktGet b it.pid = pktGet s it.pid := by
    rw [freed, held]
    rfl
  refine completes_window (rfl : execPark q t v s = _) runs ?_
  dsimp only
  rw [frame, active]
  dsimp only
  rw [← held, ← freed, packets]
  cases there : pktGet s it.pid with
  | none => exact ⟨item, thread, fun k h => (nomatch h), only.frame⟩
  | some k =>
    have left := Keeps.last (ps := [.pkts, .twin]) (ringLeave_keeps (pktSet b it.pid { k with parked := true }) it.pid k)
      ((pktSet_keeps b it.pid { k with parked := true }).mono (by decide))
    refine ⟨((SameIn.of_keeps left).itemOf q _).trans item, ((SameIn.of_keeps left).thGet q t).trans thread, fun k' h => ?_, (Keeps.last left only).frame⟩
    obtain rfl := Option.some.inj h
    exact (pktGet_congr ((ringLeave_keeps _ it.pid k).same .pkts) _).trans (pktGet_pktSet_self _ _ _)

theorem unpark_loads {e : Nat} (runs : threadRuns s q t = true) (engine : engineOf s q t = some e) (frame : freeFrame (thGet s q t) = some i)
    (item : itemOf s q (bits v.toNat 15 0) = some it) (held : it.state = .held) (own : it.slice = (thGet s q t).slice) :
    Completes (.unpark q t v) s (fun u =>
      itemOf u q (bits v.toNat 15 0) = some { it with state := .active } ∧ thGet u q t = setFrame (thGet s q t) i (some (bits v.toNat 15 0)) ∧
      Stored s u (localAddr e (frameLocal t i)) (fit it.parcel 1024) ∧ ChangesOnly [.csc, .mem] s u) := by
  obtain ⟨a, active⟩ : ∃ a, a = clusterMod s q (fun c => { c with work := mapSet c.work (bits v.toNat 15 0) { it with state := .active } }) := ⟨_, rfl⟩
  have engine' : engineOf a q t = some e := by
    rw [active, (clusterMod_sameIn (by rfl)).engineOf, engine]
  have write := localWrite_keeps a q t (frameLocal t i) (fit it.parcel 1024)
  refine completes_window (rfl : execUnpark q t v s = _) runs ?_
  dsimp only
  rw [frame, item]
  dsimp only
  rw [if_pos ⟨held, own⟩, ← active]
  refine ⟨?_, ?_, Stored.of_write ?_, ?_⟩
  · rw [(thMod_sameIn (f := Cluster.work) _ q t _ (fun _ _ => rfl)).itemOf, (SameIn.of_keeps write).itemOf, active, itemOf,
      clusterGet_clusterMod_self]
    exact mapGet_mapSet_self _ _ _
  · rw [thGet_thMod_self, (SameIn.of_keeps write).thGet, active, (clusterMod_sameIn (by rfl)).thGet]
  · rw [localWrite_mem engine', active]
    rfl
  · exact (Keeps.last (ps := [.csc, .mem]) (thMod_keeps _ q t _) (.last write (active ▸ (clusterMod_keeps s q _).mono (by decide)))).frame

end

/-- Settles O47, one lemma for each store to the window and for each step of a work item. -/
theorem threadsWaitForkAndEndTheirItems : Obligations.ThreadsWaitForkAndEndTheirItems := by
  unfold Obligations.ThreadsWaitForkAndEndTheirItems
  exact ⟨⟨fun s q t v runs => chDest_sets runs v, fun s q t v runs room => chWord_stages runs v room,
    fun c member s q t v d runs room dest low space free => chLast_commits runs room dest low space free c member,
    fun s q t v d runs room dest low deep full => chLast_waits runs room dest low deep full,
    fun s ch w ws low room writers unstaged => chWaitCommit_admits low room writers unstaged,
    fun s q t v m rest e runs engine reader msgs above below => chRead_reads runs engine reader msgs above below,
    fun s q t v runs names => wait_waits runs names, fun s q t ch item n waits data => wait_ends waits data,
    fun s q t v runs => forkArg_sets runs v, fun s q t v runs few => ⟨fork_starts runs few, fork_none runs few⟩,
    fun s q t v runs => join_waits runs⟩,
    fun s q t h it e item queued free oldest engine own turn => workItemDeliver_delivers item queued free oldest engine own turn,
    fun s p pos k q reason kind there item fault stage starts serves free => excRetry_queues there item fault stage starts serves free,
    fun s q t v runs worker idle => exit_frees runs worker idle,
    fun s q t v i it runs frame active => park_holds runs frame active,
    fun s q t v i it e runs engine frame item held own => unpark_loads runs engine frame item held own⟩

end Sys2Proof.Machine
end

section
/-! PROOFS. Supervision of threads, faults, spares and the deadlock detector (R237 to R246, R249). -/
namespace Sys2Proof.Machine

open Sys2Proof

set_option Elab.async false

/-! What the steps of supervision leave of a cluster. -/

section
variable {α : Type} {f : Cluster → α} {s t : State}

theorem SameIn.enginePlace (h : SameIn Cluster.map s t) (e : Nat) : enginePlace t e = enginePlace s e := by
  have engine : ∀ q p, clusterEngine t q p = clusterEngine s q p := fun q p => by unfold clusterEngine; rw [h q]
  unfold Machine.enginePlace
  simp only [engine]

theorem supervisorEvent_sameIn (s : State) (q : Nat) (words : List Dword) (blind : ∀ c l r, f { c with channels := l, stagedRecords := r } = f c) :
    SameIn f s (supervisorEvent s q words) := by
  refine clusterMod_sameIn ?_
  dsimp only
  split
  · exact blind _ _ _
  · exact blind _ _ _

theorem faultRecord_sameIn (s : State) (q cls slot handle pc addr : Nat) (blind : ∀ c l r, f { c with channels := l, stagedRecords := r } = f c) :
    SameIn f s (faultRecord s q cls slot handle pc addr) :=
  ((SameIn.of_keeps (bump_keeps s _)).trans (.of_keeps (trace_keeps _ _ _ _ _ _ _))).trans (supervisorEvent_sameIn _ _ _ blind)

theorem childExits_sameIn (s : State) (q t value : Nat) (blind : ∀ c l, f { c with threads := l } = f c) : SameIn f s (childExits s q t value) := by
  unfold childExits
  split
  · exact fun _ => rfl
  · split
    · exact .trans (.of_csc rfl) (thMod_sameIn _ q _ _ blind)
    · exact thMod_sameIn _ q _ _ blind

/-- Of a thread, the end of a child changes the list of children alone. -/
theorem childExits_thread (s : State) (q t value r : Nat) : ∃ l, thGet (childExits s q t value) q r = { thGet s q r with children := l } := by
  unfold childExits
  split
  · exact ⟨_, rfl⟩
  · next parent _ =>
    extract_lets u
    have same : thGet u q r = thGet s q r := by unfold u; split <;> rfl
    by_cases own : r = parent
    · subst own; exact ⟨_, by rw [thGet_thMod_self, same]⟩
    · exact ⟨(thGet s q r).children, by rw [thGet_thMod_ne _ _ _ _ own, same]⟩

end

theorem localWrite_stores {s : State} {q t e : Nat} (engine : engineOf s q t = some e) (a : Nat) (bs : Bytes) :
    Stored s (localWrite s q t a bs) (localAddr e a) bs ∧ ChangesOnly [.mem] s (localWrite s q t a bs) :=
  ⟨localWrite_mem engine a bs ▸ Stored.of_write rfl, (localWrite_keeps s q t a bs).frame⟩

/-! Operations of the supervisor (R237 to R239). -/

theorem supOp_window (s : State) (q t : Nat) (fits : Thread → Bool) (f : State → State) : supOp s q t fits f =
    window s q (supervisorSlot s q) (fun _ =>
      if t = supervisorSlot s q then thMod s q (supervisorSlot s q) (fun x => { x with supResult := 2 })
      else if fits (thGet s q t) then thMod (f s) q (supervisorSlot s q) (fun x => { x with supResult := 0 })
      else thMod s q (supervisorSlot s q) (fun x => { x with supResult := 1 })) := rfl

section
variable {s : State} {q t : Nat} {v : Dword} (runs : threadRuns s q (supervisorSlot s q) = true)
include runs

/-- An operation of the supervisor on a thread in a fitting state, with result 0. -/
theorem completes_supOp {c : Instr} {fits : Thread → Bool} {f : State → State} {Q : State → Prop} (row : exec c s = supOp s q t fits f)
    (worker : t ≠ supervisorSlot s q) (fit : fits (thGet s q t) = true)
    (after : Q (thMod (f s) q (supervisorSlot s q) (fun x => { x with supResult := 0 }))) : Completes c s Q := by
  refine completes_window (row.trans (supOp_window s q t fits f)) runs ?_
  rw [if_neg worker, if_pos fit]
  exact after

/-- A supervisor register takes effect for the supervisor. -/
theorem completes_supWindow {c : Instr} {f : Thread → State} {Q : State → Prop} (row : exec c s = supWindow s q (supervisorSlot s q) f)
    (after : Q (f (thGet s q (supervisorSlot s q)))) : Completes c s Q := by
  refine completes_window row runs ?_
  rw [if_pos rfl]
  exact after

theorem supOp_self : ∀ c ∈ [Instr.suspend, Instr.resume, fun q t => Instr.abort q t true], Completes (c q (supervisorSlot s q)) s (fun u =>
    (thGet u q (supervisorSlot s q)).supResult = 2 ∧ ChangesOnly [.csc] s u) := by
  have refuses : ∀ {c : Instr} {fits : Thread → Bool} {f : State → State}, exec c s = supOp s q (supervisorSlot s q) fits f →
      Completes c s (fun u => (thGet u q (supervisorSlot s q)).supResult = 2 ∧ ChangesOnly [.csc] s u) := fun row => by
    refine completes_window (row.trans (supOp_window _ _ _ _ _)) runs ?_
    rw [if_pos rfl, thGet_thMod_self]
    exact ⟨rfl, (thMod_keeps s q _ _).frame⟩
  simp only [List.forall_mem_cons]
  exact ⟨refuses (rfl : execSuspend q _ s = _), refuses (rfl : execResume q _ s = _), refuses (rfl : execAbort q _ true s = _), fun _ h => (nomatch h)⟩

theorem suspend_suspends (worker : t ≠ supervisorSlot s q) (live : (thGet s q t).state = .ready ∨ (thGet s q t).state = .waiting) :
    Completes (.suspend q t) s (fun u => thGet u q t = { thGet s q t with state := .suspended } ∧
      (thGet u q (supervisorSlot s q)).supResult = 0 ∧ ChangesOnly [.csc] s u) := by
  have fit : ((thGet s q t).state = .ready || (thGet s q t).state = .waiting : Bool) = true := by simpa using live
  refine completes_supOp runs (rfl : execSuspend q t s = _) worker fit ⟨?_, ?_, ?_⟩
  · rw [thGet_thMod_ne _ _ _ _ worker, thGet_thMod_self, (dropWriter_threads s q t).thGet]
  · rw [thGet_thMod_self]
  · exact (Keeps.last (thMod_keeps _ q _ _) (.last (thMod_keeps _ q t _) (dropWriter_keeps s q t))).frame

theorem resume_waits (worker : t ≠ supervisorSlot s q) (suspended : (thGet s q t).state = .suspended) {ch : Nat}
    (waits : (thGet s q t).wait = .space ch) : Completes (.resume q t) s (fun u => (thGet u q (supervisorSlot s q)).supResult = 0 ∧
      (thGet u q t).state = .waiting ∧ 64 * q + t ∈ (chanInfo u (ch / 256) (ch % 256)).writers ∧ ChangesOnly [.csc] s u) := by
  refine completes_supOp runs (rfl : execResume q t s = _) worker (decide_eq_true suspended) ?_
  rw [waits]
  refine ⟨?_, ?_, ?_, ?_⟩
  · rw [thGet_thMod_self]
  · rw [thGet_thMod_ne _ _ _ _ worker, thGet_thMod_self]
  · rw [chanInfo_thMod, chanInfo_thMod, chanInfo_chanPut_writers]
    simp
  · exact (Keeps.last (thMod_keeps _ q _ _) (.last (thMod_keeps _ q t _) (chanPut_keeps s _ _ _))).frame

theorem resume_readies (worker : t ≠ supervisorSlot s q) (suspended : (thGet s q t).state = .suspended)
    (other : ∀ ch, (thGet s q t).wait ≠ .space ch) : Completes (.resume q t) s (fun u => (thGet u q (supervisorSlot s q)).supResult = 0 ∧
      thGet u q t = { thGet s q t with state := .ready, wait := .none } ∧ ChangesOnly [.csc] s u) := by
  obtain ⟨u, ready⟩ : ∃ u, u = thMod s q t (fun x => { x with state := .ready, wait := .none }) := ⟨_, rfl⟩
  have thread : thGet u q t = { thGet s q t with state := .ready, wait := .none } := by rw [ready, thGet_thMod_self]
  have only : Keeps [.csc] s u := ready ▸ thMod_keeps s q t _
  refine completes_supOp runs (rfl : execResume q t s = _) worker (decide_eq_true suspended) ?_
  split
  · next ch waits => exact absurd waits (other ch)
  · rw [← ready]
    exact ⟨by rw [thGet_thMod_self], by rw [thGet_thMod_ne _ _ _ _ worker, thread], (Keeps.last (thMod_keeps u q _ _) only).frame⟩

theorem abort_frees (requeue : Bool) (worker : t ≠ supervisorSlot s q) (used : (thGet s q t).state ≠ .free) :
    Completes (.abort q t requeue) s (fun u => (thGet u q t).state = .free ∧ (thGet u q (supervisorSlot s q)).supResult = 0) := by
  refine completes_supOp runs (rfl : execAbort q t requeue s = _) worker (decide_eq_true used) ⟨?_, ?_⟩
  · rw [thGet_thMod_ne _ _ _ _ worker]
    exact (thFree_frees _ q t).1
  · rw [thGet_thMod_self]

theorem supThread_sets : Completes (.supThread q (supervisorSlot s q) v) s (fun u =>
    (thGet u q (supervisorSlot s q)).supThread = bits v.toNat 5 0 ∧ ChangesOnly [.csc] s u) := by
  refine completes_supWindow runs (rfl : execSupThread q _ v s = _) ⟨?_, (thMod_keeps s q _ _).frame⟩
  rw [thGet_thMod_self]

theorem supRegs_stores {e : Nat} (engine : engineOf s q (supervisorSlot s q) = some e) (above : 0x20000 ≤ 8 * v.toNat)
    (below : 8 * v.toNat + 256 ≤ 0x40000) : Completes (.supRegs q (supervisorSlot s q) v) s (fun u => Stored s u (localAddr e (8 * v.toNat))
      ((List.range 32).flatMap (fun i => toLe 8 ((((thGet s q (thGet s q (supervisorSlot s q)).supThread).regs)[i]?).getD 0).toNat)) ∧
      ChangesOnly [.mem] s u) := by
  refine completes_supWindow runs (rfl : execSupRegs q _ v s = _) ?_
  extract_lets a regs
  rw [if_neg (by omega)]
  exact localWrite_stores engine _ _

theorem supDldAck_clears : Completes (.supDldAck q (supervisorSlot s q) v) s (fun u =>
    (clusterGet u q).dldHeld = false ∧ (clusterGet u q).dldCount = 0 ∧ ChangesOnly [.csc] s u) := by
  refine completes_supWindow runs (rfl : execSupDldAck q _ v s = _) ?_
  rw [clusterGet_clusterMod_self]
  exact ⟨rfl, rfl, (clusterMod_keeps s q _).frame⟩

end

/-! Faults of threads and engines (R240 to R243). -/

theorem fault_untraced {q : Nat} (cluster : q < 8) : r_CSC_CNT_FAULT q ≠ r_GAU_TRACE_STATUS := by
  unfold r_CSC_CNT_FAULT r_GAU_TRACE_STATUS
  omega

theorem faultRecord_counts (s : State) {q : Nat} (cls slot handle pc addr : Nat) (cluster : q < 8) :
    Counted s (faultRecord s q cls slot handle pc addr) (r_CSC_CNT_FAULT q) 1 := by
  exact Counted.of_bump (.of_regs rfl) rfl ((trace_regKept _ _ _ _ _ _ _ (fault_untraced cluster)).trans (.of_keeps (supervisorEvent_keeps _ _ _)))

theorem threadFault_stops {s : State} {q t : Nat} {cls pc addr : Nat} (first : 3 ≤ cls) (last : cls ≤ 7) (cluster : q < 8)
    (runs : threadRuns s q t = true) : Completes (.threadFault q t cls pc addr) s (fun u =>
    (thGet u q t).state = .faulted ∧ (thGet u q t).faultClass = cls ∧ (thGet u q t).pc = pc ∧
    (t = supervisorSlot s q → (clusterGet u q).supRun = false) ∧ Counted s u (r_CSC_CNT_FAULT q) 1 ∧
    ChangesOnly [.csc, .mem, .regs, .gauge] s u) := by
  have row : exec (.threadFault q t cls pc addr) s = window s q t (fun _ => threadFault s q t cls pc addr) :=
    (rfl : execThreadFault q t cls pc addr s = _).trans (if_pos ⟨first, last⟩)
  refine completes_window row runs ?_
  unfold threadFault
  extract_lets h a b
  have sup : supervisorSlot a q = supervisorSlot s q :=
    ((thMod_sameIn s q t _ (fun _ _ => rfl)).trans (childExits_sameIn _ q t _ (fun _ _ => rfl)) : SameIn Cluster.supSlot s a) q
  have stopped : SameIn Cluster.threads a b := by
    unfold b
    split
    · exact clusterMod_sameIn (by rfl)
    · exact fun _ => rfl
  have thread : thGet (faultRecord b q cls t h pc addr) q t = thGet a q t :=
    (stopped.trans (faultRecord_sameIn b q cls t h pc addr (fun _ _ _ => rfl))).thGet q t
  have only : Keeps [.csc, .mem] s b :=
    .ite (.last (clusterMod_keeps _ q _) (.last (childExits_keeps _ q t _) ((thMod_keeps s q t _).mono (by decide))))
      (.last (childExits_keeps _ q t _) ((thMod_keeps s q t _).mono (by decide)))
  obtain ⟨l, faulted⟩ : ∃ l, thGet a q t = { thGet s q t with state := .faulted, faultClass := cls, pc := pc, children := l } := by
    obtain ⟨l, hl⟩ := childExits_thread (thMod s q t (fun x => { x with state := .faulted, faultClass := cls, pc := pc })) q t 0xFFFFFFFFFFFFFFFF t
    exact ⟨l, by rw [show thGet a q t = _ from hl, thGet_thMod_self]⟩
  rw [thread, faulted]
  refine ⟨rfl, rfl, rfl, fun own => ?_, ?_, ?_⟩
  · rw [faultRecord_sameIn (f := Cluster.supRun) b q cls t h pc addr (fun _ _ _ => rfl) q]
    unfold b
    rw [if_pos (own.trans sup.symm), clusterGet_clusterMod_self]
  · have counts := faultRecord_counts b cls t h pc addr cluster
    unfold Counted at counts ⊢
    rw [counts, (RegKept.of_keeps only).counter]
  · exact (Keeps.last (ps := [.csc, .mem, .regs, .gauge]) (faultRecord_keeps b q cls t h pc addr) (only.mono (by decide))).frame

theorem engineWord_kept : ∀ e < 68, (hwMask (0x022 + e / 32)).testBit (e % 32) = true := by decide

/-- The states of engines alone. -/
def Engines (s : State) : AMap EngState := s.csc.engines

theorem Engines.of_keeps {ps : List Part} {s t : State} (k : Keeps ps s t) (quiet : Part.csc ∉ ps := by decide) : Engines t = Engines s :=
  congrArg (fun c => c.engines) (k.same .csc quiet)

theorem engState_congr {s t : State} (same : Engines t = Engines s) (e : Nat) : engState t e = engState s e :=
  congrArg (fun m => mapGetD m e _) same

theorem clusterMod_engines (s : State) (q : Nat) (g : Cluster → Cluster) : Engines (clusterMod s q g) = Engines s := rfl

theorem moveReserved_engines (q : Nat) (s : State) (t : Nat) : Engines (moveReserved s q t) = Engines s := by
  unfold moveReserved
  dsimp only
  split
  · split <;> rfl
  · rfl

theorem placeSupervisor_engines (s : State) (q : Nat) : Engines (placeSupervisor s q) = Engines s := by
  unfold placeSupervisor
  split <;> rfl

theorem engState_engSet_self (s : State) (e : Nat) (x : EngState) : engState (engSet s e x) e = x := mapGetD_mapSet_self _ _ _ _

theorem engState_engSet_ne (s : State) {e d : Nat} (x : EngState) (other : d ≠ e) : engState (engSet s e x) d = engState s d :=
  mapGetD_mapSet_ne _ _ _ other

/-- A retired engine is RETIRED, and Heartwood keeps it (R242, R604). -/
theorem retireEngine_retires (s : State) {e q pos : Nat} (cls cause : Nat) (place : enginePlace s e = some (q, pos)) (named : e < 68) :
    engState (retireEngine s e cls cause) e = .retired ∧ hwField (retireEngine s e cls cause) (0x022 + e / 32) (e % 32) (e % 32) = 1 := by
  unfold retireEngine
  split
  · next none => exact nomatch none.symm.trans place
  next q' pos' place' =>
  obtain ⟨rfl, rfl⟩ := Prod.mk.inj (Option.some.inj (place'.symm.trans place))
  extract_lets before stopped retired unmapped moved placed marked spares loading
  have engines : Engines marked = Engines retired := by
    have supervised : Engines placed = Engines moved := by
      unfold placed
      split
      · exact placeSupervisor_engines _ _
      · rfl
    have folded : Engines moved = Engines retired := by
      unfold moved unmapped
      rw [foldl_same Engines (fun u t => moveReserved_engines q' u (8 * pos' + t))]
      exact clusterMod_engines _ _ _
    exact ((Engines.of_keeps (hwSetField_keeps placed _ _ _ _)).trans supervised).trans folded
  have isRetired : engState marked e = .retired := (engState_congr engines e).trans (engState_engSet_self _ _ _)
  have bit : hwField marked (0x022 + e / 32) (e % 32) (e % 32) = 1 :=
    hwField_hwSetField_bit placed (Nat.mod_lt _ (by decide)) (engineWord_kept e named)
  have told : Told loading (noteMode before (noteRetired loading 1 cause e 0 (7 + e / 34)) 1) := (noteRetired_told _ _ _ _ _ _).trans (noteMode_told _ _ _)
  have same : Engines (noteMode before (noteRetired loading 1 cause e 0 (7 + e / 34)) 1) = Engines loading :=
    (Engines.of_keeps (noteMode_keeps _ _ _)).trans (Engines.of_keeps (noteRetired_keeps _ _ _ _ _ _))
  suffices loaded : engState loading e = .retired ∧ hwField loading (0x022 + e / 32) (e % 32) (e % 32) = 1 by
    rw [engState_congr same, told.field _ _ (by omega) (by omega)]
    exact loaded
  have found : spares = spareOf marked (e / 34) := rfl
  unfold loading
  clear_value spares
  cases spares with
  | some x =>
    have spare := found.symm
    unfold spareOf at spare
    have isSpare : engState marked x = .spare := by simpa using List.find?_some spare
    have other : e ≠ x := by
      rintro rfl
      exact absurd (isRetired.symm.trans isSpare) EngState.noConfusion
    exact ⟨(engState_engSet_ne marked .loading other).trans isRetired, bit⟩
  | none =>
    rw [engState_congr ((Engines.of_keeps (eventToManager_keeps _ _ _)).trans (Engines.of_keeps (eventToManager_keeps _ _ _))),
      ((eventToManager_told _ _ _).trans (eventToManager_told _ _ _)).field _ _ (by omega) (by omega)]
    exact ⟨isRetired, bit⟩

/-- With code 5 a self-check records its failure and retires no rail. -/
theorem selfCheckFail_records (s : State) (rail island unit e : Nat) {w : Nat} (low : w < 0x180) (other : w ≠ 0x018) :
    engState (selfCheckFail s rail 5 island unit) e = engState s e ∧ hwWord (selfCheckFail s rail 5 island unit) w = hwWord s w := by
  obtain ⟨u, bits_⟩ : ∃ u, u = setBits s r_DVT_RAIL_STATUS (BitVec.ofNat 32 (2 ^ (5 + rail))) := ⟨_, rfl⟩
  obtain ⟨logged, log⟩ : ∃ v, v = if u.twin.recoveryDone then u
    else errlog u 0x0151 island 0xFFFF 0 (toLe 1 (regField u (r_DVT_RAIL_CAUSE (1 - rail)) 7 0) ++ toLe 1 5) := ⟨_, rfl⟩
  have fails : selfCheckFail s rail 5 island unit = capture logged (r_DVT_RAIL_CAUSE rail) (5 + 256 * island + 4096 * unit) := by
    unfold selfCheckFail
    dsimp only
    rw [← bits_, ← log]
    rfl
  have begun : Engines u = Engines s ∧ hwWord u w = hwWord s w := bits_ ▸ ⟨rfl, rfl⟩
  have kept : Engines logged = Engines u ∧ hwWord logged w = hwWord u w := by
    rw [log]
    split
    · exact ⟨rfl, rfl⟩
    · exact ⟨Engines.of_keeps (errlog_keeps _ _ _ _ _ _), (errlog_told _ _ _ _ _ _).word w low other⟩
  have captured := capture_keeps logged (r_DVT_RAIL_CAUSE rail) (5 + 256 * island + 4096 * unit)
  rw [fails]
  exact ⟨engState_congr ((Engines.of_keeps captured).trans (kept.1.trans begun.1)) e,
    (hwWord_congr (captured.same .hw) w).trans (kept.2.trans begun.2)⟩

theorem engineFault_retires {s : State} {e t cls q pos : Nat} (place : enginePlace s e = some (q, pos)) (fault : cls = 1 ∨ cls = 2)
    (thread : t < 8) (named : e < 68) : Completes (.engineFault e t cls) s (fun u =>
    engState u e = .retired ∧ hwField u (0x022 + e / 32) (e % 32) (e % 32) = 1) := by
  obtain ⟨a, marked⟩ : ∃ a, a = setBits s (r_CSC_ISL_STATUS (e / 34)) (if cls = 1 then 8 else 4) := ⟨_, rfl⟩
  obtain ⟨b, logged⟩ : ∃ b, b = if cls = 1 then errlog a 0x0103 (7 + e / 34) 0xFFFF 0 (toLe 1 4 ++ toLe 1 e)
    else errlog a 0x0104 (7 + e / 34) 0xFFFF (localAddr e 0) (toLe 1 0) := ⟨_, rfl⟩
  obtain ⟨c, recorded⟩ : ∃ c, c = faultRecord b q cls (8 * pos + t) ((activeItems s q (8 * pos + t)).headD 0xFFFF) (thGet b q (8 * pos + t)).pc 0 :=
    ⟨_, rfl⟩
  have row : exec (.engineFault e t cls) s = .next (selfCheckFail (retireEngine c e cls 1) (e / 34) 5 (7 + e / 34) 4) := by
    show execEngineFault e t cls s = _
    unfold execEngineFault
    rw [place]
    dsimp only
    rw [if_pos ⟨fault, thread, named⟩, ← marked, ← logged, ← recorded]
  have map : SameIn Cluster.map s c := by
    rw [recorded]
    refine .trans (.trans (.of_keeps (marked ▸ setBits_keeps s _ _)) ?_) (faultRecord_sameIn _ _ _ _ _ _ _ (fun _ _ _ => rfl))
    rw [logged]
    split
    · exact .of_keeps (errlog_keeps _ _ _ _ _ _)
    · exact .of_keeps (errlog_keeps _ _ _ _ _ _)
  obtain ⟨retired, word⟩ := retireEngine_retires c cls 1 ((map.enginePlace e).trans place) named
  obtain ⟨same, kept⟩ := selfCheckFail_records (retireEngine c e cls 1) (e / 34) (7 + e / 34) 4 e (w := 0x022 + e / 32) (by omega) (by omega)
  refine completes_of row ⟨same.trans retired, ?_⟩
  unfold hwField at word ⊢
  rw [kept, word]

theorem spareMapped_serves {s : State} {x q pos e cls : Nat} (loading : s.csc.loading.find? (fun y => y.1 = x) = some (x, q, pos, e, cls))
    (position : pos < 8) : Completes (.spareMapped x) s (fun u =>
    engState u x = .inService ∧ clusterEngine u q pos = x % 34 ∧ ∀ y ∈ u.csc.loading, y.1 ≠ x) := by
  obtain ⟨z, up⟩ : ∃ z, z = engSet s x .inService := ⟨_, rfl⟩
  obtain ⟨a, served⟩ : ∃ a, a = { z with csc := { z.csc with loading := z.csc.loading.filter (fun y => y.1 ≠ x) } } := ⟨_, rfl⟩
  obtain ⟨b, mapped⟩ : ∃ b, b = clusterMod a q (fun c => { c with map := (clusterMap a q).set pos (x % 34) }) := ⟨_, rfl⟩
  obtain ⟨c, placed⟩ : ∃ c, c = if pos = 0 then clusterMod (loadEngine b q pos) q (fun c => { c with supSlot := 7 }) else loadEngine b q pos :=
    ⟨_, rfl⟩
  obtain ⟨d, told⟩ : ∃ d, d = noteMode s (eventToManager c 0x8B40 (toLe 1 e ++ toLe 1 x ++ toLe 1 cls ++ toLe 1 0)) 1 := ⟨_, rfl⟩
  have row : exec (.spareMapped x) s = .next d := by
    show execSpareMapped x s = _
    unfold execSpareMapped
    rw [loading]
    dsimp only
    rw [← up, ← served, ← mapped, ← placed, ← told]
  have load := loadEngine_keeps b q pos
  have csc : d.csc = c.csc := by rw [told, (noteMode_keeps _ _ _).same .csc, (eventToManager_keeps _ _ _).same .csc]
  have engines : Engines c = Engines b ∧ c.csc.loading = b.csc.loading ∧ SameIn Cluster.map b c := by
    rw [placed]
    split
    · refine ⟨(clusterMod_engines _ _ _).trans (Engines.of_keeps load), ?_, .trans (.of_keeps load) (clusterMod_sameIn (by rfl))⟩
      exact congrArg (fun c => c.loading) (load.same .csc)
    · exact ⟨Engines.of_keeps load, congrArg (fun c => c.loading) (load.same .csc), .of_keeps load⟩
  obtain ⟨same, waits, map⟩ := engines
  refine completes_of row ⟨?_, ?_, fun y held => ?_⟩
  · rw [engState_congr (show Engines d = Engines c from congrArg (fun c => c.engines) csc), engState_congr same, mapped, served, up]
    exact engState_engSet_self s x .inService
  · have long : pos < ((clusterMap a q).set pos (x % 34)).length := by unfold clusterMap; simpa using position
    unfold clusterEngine
    rw [clusterGet_congr csc, map q, mapped, clusterGet_clusterMod_self, List.getElem?_eq_getElem long, List.getElem_set_self]
    rfl
  · rw [csc, waits, mapped, served] at held
    exact of_decide_eq_true (List.mem_filter.mp held).2

theorem supervisorRestart_runs {s : State} {q : Nat} (cluster : q < 8) (stopped : (clusterGet s q).supRun = false)
    (engine : (engineOf s q (supervisorSlot s q)).isSome = true) (running : s.fw.cscRunning = true) :
    Completes (.supervisorRestart q) s (fun u => (clusterGet u q).supRun = true ∧ (thGet u q (supervisorSlot s q)).state = .ready ∧
      (thGet u q (supervisorSlot s q)).pc = mapGetD s.csc.supEntry (q % 4) 0 ∧ ChangesOnly [.csc] s u) := by
  obtain ⟨a, runs⟩ : ∃ a, a = clusterMod s q (fun c => { c with supRun := true }) := ⟨_, rfl⟩
  obtain ⟨b, starts⟩ : ∃ b, b = thMod a q (supervisorSlot s q)
    (fun x => { regs := x.regs, state := .ready, pc := mapGetD a.csc.supEntry (q % 4) 0 }) := ⟨_, rfl⟩
  have row : exec (.supervisorRestart q) s = .next b := by
    rw [starts, runs]
    exact if_pos ⟨cluster, by rw [stopped]; decide, engine, running⟩
  have kept : Keeps [.csc] s b := starts ▸ .last (thMod_keeps _ q _ _) (runs ▸ clusterMod_keeps s q _)
  refine completes_of row ⟨?_, ?_, ?_, kept.frame⟩
  · rw [starts, thMod_sameIn (f := Cluster.supRun) a q _ _ (fun _ _ => rfl) q, runs, clusterGet_clusterMod_self]
  · rw [starts, thGet_thMod_self]
  · rw [starts, thGet_thMod_self, runs]
    rfl

theorem engineMemoryScrub_counts {s : State} {e : Nat} (n : Nat) (named : e < 68) :
    Completes (.engineMemoryScrub e n) s (fun u => Counted s u (r_CSC_ECC_CORR (e / 34)) n ∧ ChangesOnly [.regs] s u) := by
  refine completes_of (t := bumpBy s (r_CSC_ECC_CORR (e / 34)) n) (if_pos named) ⟨mapGetD_mapSet_self _ _ _ _, (setReg_keeps s _ _).frame⟩

/-! The deadlock detector (R244, R245). -/

theorem dld_untraced {q : Nat} (cluster : q < 8) : r_CSC_CNT_DLD q ≠ r_GAU_TRACE_STATUS ∧ r_CSC_CNT_DLD q ≠ r_CSC_CL_STATUS q := by
  unfold r_CSC_CNT_DLD r_GAU_TRACE_STATUS r_CSC_CL_STATUS
  omega

theorem dldFire_fires {s : State} {q : Nat} (cluster : q < 8) (free : (clusterGet s q).dldHeld = false) (dead : deadlocked s q = true) :
    Completes (.dldFire q) s (fun u =>
    (clusterGet u q).dldHeld = true ∧ (clusterGet u q).dldCount = 65536 ∧ (clusterGet u q).snapshot = snapshotBytes s q ∧
    Counted s u (r_CSC_CNT_DLD q) 1 ∧ ChangesOnly [.csc, .mem, .regs, .gauge, .fresh] s u) := by
  obtain ⟨untraced, other⟩ := dld_untraced cluster
  obtain ⟨a, written⟩ : ∃ a, a = localWrite s q (supervisorSlot s q) 0x3B800 (snapshotBytes s q) := ⟨_, rfl⟩
  obtain ⟨b, held⟩ : ∃ b, b = clusterMod a q (fun c => { c with snapshot := snapshotBytes s q, dldHeld := true, dldCount := 65536 }) := ⟨_, rfl⟩
  obtain ⟨c, counted⟩ : ∃ c, c = bump (setBits b (r_CSC_CL_STATUS q) 1) (r_CSC_CNT_DLD q) := ⟨_, rfl⟩
  obtain ⟨ws, words⟩ : ∃ ws : List Dword, ws = [2, BitVec.ofNat 64 (Config.freeNat c.fresh), BitVec.ofNat 64 (Config.freeNat (c.fresh + 1)),
      BitVec.ofNat 64 (Config.freeNat (c.fresh + 2))] := ⟨_, rfl⟩
  obtain ⟨d, told⟩ : ∃ d, d = supervisorEvent { c with fresh := c.fresh + 3 } q ws := ⟨_, rfl⟩
  obtain ⟨u, traced⟩ : ∃ u, u = trace d (4 + q) 4 (2 * (q / 4)) 0xFFF 0 (toLe 2 (le (snapshotBytes s q) 8 2)) := ⟨_, rfl⟩
  have row : exec (.dldFire q) s = .next u := by
    show execDldFire q s = _
    unfold execDldFire
    dsimp only
    rw [if_pos ⟨cluster, by rw [free]; decide, dead⟩, ← written, ← held, ← counted, ← words, ← told, ← traced]
  have counter : Keeps [.regs] b c := counted ▸ .last (bump_keeps _ _) (setBits_keeps _ _ _)
  have event : Keeps [.csc, .fresh] c d := told ▸ .last (supervisorEvent_keeps { c with fresh := c.fresh + 3 } q ws) (.of_changes (.of_patch rfl))
  have trail : Keeps [.gauge, .regs] d u := traced ▸ trace_keeps _ _ _ _ _ _ _
  have before : Keeps [.mem, .csc] s b := held ▸ .last (clusterMod_keeps a q _) (written ▸ (localWrite_keeps s q _ _ _).mono (by decide))
  have cluster_ : ∀ {α : Type} {f : Cluster → α}, (∀ c l r, f { c with channels := l, stagedRecords := r } = f c) → SameIn f b u := fun blind =>
    .trans (.trans (.of_keeps counter) (told ▸ .trans (.of_csc rfl) (supervisorEvent_sameIn { c with fresh := c.fresh + 3 } q ws blind))) (.of_keeps trail)
  have now := clusterGet_clusterMod_self a q (fun c => { c with snapshot := snapshotBytes s q, dldHeld := true, dldCount := 65536 })
  refine completes_of row ⟨?_, ?_, ?_, ?_, ?_⟩
  · rw [cluster_ (f := Cluster.dldHeld) (fun _ _ _ => rfl) q, held, now]
  · rw [cluster_ (f := Cluster.dldCount) (fun _ _ _ => rfl) q, held, now]
  · rw [cluster_ (f := Cluster.snapshot) (fun _ _ _ => rfl) q, held, now]
  · refine Counted.of_bump (u := setBits b (r_CSC_CL_STATUS q) 1) ((RegKept.of_keeps before).trans (setReg_regKept _ _ other)) counted ?_
    exact (RegKept.of_keeps event).trans (traced ▸ trace_regKept _ _ _ _ _ _ _ untraced)
  · exact (Keeps.last (ps := [.csc, .mem, .regs, .gauge, .fresh]) trail (.last event (.last counter (before.mono (by decide))))).frame

theorem cscDeadlock_tells {s : State} {q : Nat} (held : (clusterGet s q).dldHeld = true) : exec (.cscDeadlock q) s =
    .next (eventToManager s 0x8B42 (toLe 1 (q / 4) ++ toLe 1 (q % 4) ++ toLe 2 (le (clusterGet s q).snapshot 8 2))) :=
  (rfl : exec (.cscDeadlock q) s = execCscDeadlock q s).trans (if_pos held)

end Sys2Proof.Machine
end

section
/-! PROOFS. The device channels and the Cascade commands (R229 to R232, R246 to R248). -/
namespace Sys2Proof.Machine

open Sys2Proof

set_option Elab.async false

/-! The oldest message of a device channel is served. -/

/-- The state without a message of the device channels. -/
def unqueued (s : State) (m : DevMsg) : State := { s with csc := { s.csc with devq := s.csc.devq.erase m } }

section
variable {s : State} {m : DevMsg} {c : Instr} {Q : State → Prop}

theorem unqueued_keeps (s : State) (m : DevMsg) : Keeps [.csc] s (unqueued s m) := .of_changes (.of_patch rfl)

theorem completes_serveDev {chan : Nat} {want : List Dword → Bool} {f : State → DevMsg → Option State} {u : State}
    (row : exec c s = serveDev s chan want f) (oldest : s.csc.devq.find? (fun m => m.chan = chan) = some m) (wanted : want m.words = true)
    (serves : f (unqueued s m) m = some u) (after : Q u) : Completes c s Q := by
  refine completes_of (row.trans ?_) after
  unfold serveDev
  rw [oldest]
  dsimp only
  rw [if_pos wanted]
  unfold unqueued at serves
  rw [serves]

theorem devchLookup_replies {st : Dword} {e : Bytes} {hit : Option LastHit} (oldest : s.csc.devq.find? (fun m => m.chan = 0x800) = some m)
    (reply : bits (mw m.words 0) 14 3 < 0x800)
    (room : (chanInfo s (bits (mw m.words 0) 14 3 / 256) (bits (mw m.words 0) 14 3 % 256)).msgs.length <
      (chanInfo s (bits (mw m.words 0) 14 3 / 256) (bits (mw m.words 0) 14 3 % 256)).depth)
    (free : (chanInfo s (bits (mw m.words 0) 14 3 / 256) (bits (mw m.words 0) 14 3 % 256)).writers = [])
    (looked : (lookup (unqueued s m) (msgPair m) (msgKey m.words 2 (bits (mw m.words 0) 1 0)) (bitAt (mw m.words 0) 2)).2 = .got st e hit) :
    Completes .devchLookup s (fun u => u.csc.devq = s.csc.devq.erase m ∧
        (chanInfo u (bits (mw m.words 0) 14 3 / 256) (bits (mw m.words 0) 14 3 % 256)).msgs =
          (chanInfo s (bits (mw m.words 0) 14 3 / 256) (bits (mw m.words 0) 14 3 % 256)).msgs ++
            [st :: BitVec.ofNat 64 (2 ^ 32 * bits (mw m.words 0) 63 32) :: (List.range 8).map (fun i => BitVec.ofNat 64 (le e (8 * i) 8))]) := by
  obtain ⟨ws, words⟩ : ∃ ws, ws = st :: BitVec.ofNat 64 (2 ^ 32 * bits (mw m.words 0) 63 32) ::
    (List.range 8).map (fun i => BitVec.ofNat 64 (le e (8 * i) 8)) := ⟨_, rfl⟩
  obtain ⟨r, ask⟩ : ∃ r, r = lookup (unqueued s m) (msgPair m) (msgKey m.words 2 (bits (mw m.words 0) 1 0)) (bitAt (mw m.words 0) 2) := ⟨_, rfl⟩
  obtain ⟨ch, named⟩ : ∃ ch, ch = bits (mw m.words 0) 14 3 := ⟨_, rfl⟩
  rw [← named] at reply room free ⊢
  rw [← ask] at looked
  have same : ∀ q i, chanInfo (unqueued s m) q i = chanInfo s q i := fun _ _ => rfl
  rw [← words]
  refine completes_serveDev (u := chanPut r.1 (ch / 256) (ch % 256)
    { chanInfo s (ch / 256) (ch % 256) with msgs := (chanInfo s (ch / 256) (ch % 256)).msgs ++ [ws] })
    (rfl : execDevchLookup s = _) oldest rfl ?_ ⟨?_, ?_⟩
  · dsimp only
    rw [← named, ← ask, same, if_neg (fun ⟨_, _, full⟩ => full ⟨room, by rw [free]; rfl⟩), looked]
    dsimp only
    rw [if_pos ⟨reply, by omega⟩, words]
  · rw [ask]
    exact congrArg (fun c => c.devq) ((lookup_keeps (unqueued s m) _ _ _).same .csc)
  · exact chanInfo_chanPut_msgs _ _ _ _

/-- A Scribe request of the owning copy, or without a packet, joins the queue. -/
theorem devScribe_queues (s : State) (r : ScribeReq) (own : m.parcel = [] ∨ bitAt (byteAt m.parcel 0x053) 1 = true)
    (room : s.cst.queue.length < 4096) : devScribe s m r = { s with cst := { s.cst with queue := s.cst.queue ++ [r] } } := by
  have owns : (m.parcel.isEmpty || bitAt (byteAt m.parcel 0x053) 1) = true := by
    rcases own with none | owner
    · rw [none]; rfl
    · rw [owner, Bool.or_true]
  exact (if_pos owns).trans (if_neg (by omega))

theorem devScribe_served {want : List Dword → Bool} {f : State → DevMsg → Option State} {u : State} {r : ScribeReq}
    (row : exec c s = serveDev s 0x801 want f) (oldest : s.csc.devq.find? (fun m => m.chan = 0x801) = some m) (wanted : want m.words = true)
    (own : m.parcel = [] ∨ bitAt (byteAt m.parcel 0x053) 1 = true) (room : s.cst.queue.length < 4096)
    (serves : f (unqueued s m) m = some (devScribe u m r)) (drawn_ : Keeps [.fresh] (unqueued s m) u) : Completes c s (fun u =>
      u.csc.devq = s.csc.devq.erase m ∧ (∃ r, u.cst.queue = s.cst.queue ++ [r]) ∧ ChangesOnly [.csc, .cst, .fresh] s u) := by
  have cst : u.cst = s.cst := drawn_.same .cst
  rw [devScribe_queues u r own (by rw [cst]; exact room)] at serves
  refine completes_serveDev row oldest wanted serves ⟨congrArg (fun c => c.devq) (drawn_.same .csc), ⟨r, congrArg (fun c => c.queue ++ [r]) cst⟩, ?_⟩
  exact ((unqueued_keeps s m).frame.mono (by decide)).step ((drawn_.frame.mono (by decide)).step (.of_patch rfl))

theorem devchScribe_queues : ∀ c n, (c, n) ∈ [(Instr.devchScribeLearn, 0), (.devchScribeInsert, 1), (.devchScribeDelete, 2), (.devchScribeUpdate, 3)] →
    s.csc.devq.find? (fun m => m.chan = 0x801) = some m → bits (mw m.words 0) 3 0 = n →
    (m.parcel = [] ∨ bitAt (byteAt m.parcel 0x053) 1 = true) → s.cst.queue.length < 4096 → Completes c s (fun u =>
      u.csc.devq = s.csc.devq.erase m ∧ (∃ r, u.cst.queue = s.cst.queue ++ [r]) ∧ ChangesOnly [.csc, .cst, .fresh] s u) := by
  intro c n row oldest asks own room
  simp only [List.mem_cons, Prod.mk.injEq, List.not_mem_nil, or_false] at row
  obtain ⟨rfl, rfl⟩ | ⟨rfl, rfl⟩ | ⟨rfl, rfl⟩ | ⟨rfl, rfl⟩ := row
  · exact devScribe_served (rfl : execDevchScribeLearn s = _) oldest (decide_eq_true asks) own room rfl (drawn_keeps _)
  · exact devScribe_served (rfl : execDevchScribeInsert s = _) oldest (decide_eq_true asks) own room rfl .refl
  · exact devScribe_served (rfl : execDevchScribeDelete s = _) oldest (decide_eq_true asks) own room rfl .refl
  · exact devScribe_served (rfl : execDevchScribeUpdate s = _) oldest (decide_eq_true asks) own room rfl .refl

theorem cscEngineEvent_tells (oldest : s.csc.devq.find? (fun m => m.chan = 0x803) = some m) : exec .cscEngineEvent s =
    .next (eventToManager (unqueued s m) 0x8B43 ((m.words.flatMap (fun w => toLe 8 w.toNat)).take 248)) := by
  show execCscEngineEvent s = _
  unfold execCscEngineEvent serveDev
  rw [oldest]
  exact if_pos rfl

end

/-! The end of an item (R213, R232). -/

theorem itemEnd_work (s : State) (q h verdict : Nat) : itemOf (itemEnd s q h verdict) q h = none := by
  unfold itemEnd itemOf
  dsimp only
  rw [clusterGet_clusterMod_self, itemFree, clusterGet_clusterMod_self]
  exact mapGet_mapErase_self _ _

/-- The end of an item touches its own cluster alone. -/
theorem itemEnd_others (s : State) {q r : Nat} (h verdict : Nat) (other : r ≠ q) : clusterGet (itemEnd s q h verdict) r = clusterGet s r := by
  unfold itemEnd
  extract_lets u
  have traced : u.csc = s.csc := by
    unfold u
    split
    · exact (traceItem_keeps s _ _ _ _ _).same .csc
    · rfl
  rw [clusterMod, clusterGet_clusterSet_ne _ _ other, itemFree, clusterMod, clusterGet_clusterSet_ne _ _ other, clusterGet_congr traced]

theorem itemEnd_devq (s : State) (q h verdict : Nat) : (itemEnd s q h verdict).csc.devq = s.csc.devq := by
  unfold itemEnd
  extract_lets u
  show u.csc.devq = _
  unfold u
  split
  · rw [(traceItem_keeps s _ _ _ _ _).same .csc]
  · rfl

theorem itemEnd_pkts (s : State) (q h verdict p : Nat) : pktGet (itemEnd s q h verdict) p = pktGet s p :=
  pktGet_congr ((itemEnd_keeps s q h verdict).same .pkts) p

theorem endCopy_clusters (s : State) (p : Nat) (k : Pkt) : (endCopy s p k).csc.clusters = s.csc.clusters := by
  unfold endCopy
  extract_lets a b c d
  have started : Keeps [.jig, .plane, .twin, .rasp] s a :=
    .ite (.last (parseBankMod_keeps _ _ _) ((jigSlotMod_keeps _ _ _).mono (by decide))) .refl
  have finished : Keeps [.jig, .plane, .twin, .rasp] s b := .ite (.last (finishCopy_keeps _ _ _) started) started
  have left : Keeps [.jig, .plane, .twin, .rasp] s c := .last (ringLeave_keeps _ _ _) (.last (raspLeave_keeps _ _ _) finished)
  exact congrArg (fun c => c.clusters) (left.same .csc)

theorem passDrop_clusters (s : State) (p : Nat) : (passDrop s p).csc.clusters = s.csc.clusters := by
  unfold passDrop
  split
  · next k there =>
    split
    · unfold dropPkt
      rw [there]
      exact (endCopy_clusters _ p k).trans (congrArg (fun c => c.clusters) ((letGo_keeps s k.fid k.origin (some 1)).same .csc))
    · exact congrArg (fun c => c.clusters) ((raspLeave_keeps s p k).same .csc)
  · rfl

theorem clusterGet_passDrop (s : State) (p q : Nat) : clusterGet (passDrop s p) q = clusterGet s q := by
  unfold clusterGet
  rw [passDrop_clusters]

/-- The packets that remain after a drop keep their headers. -/
theorem passDrop_hdr {s : State} {p r : Nat} {k : Pkt} (stays : pktGet (passDrop s p) r = some k) : ∃ k', pktGet s r = some k' ∧ k.hdr = k'.hdr := by
  unfold passDrop at stays
  split at stays
  · next x there =>
    split at stays
    · next alone =>
      have dropped : dropPkt s p 1 = passDrop s p := by unfold passDrop; rw [there]; exact (if_pos alone).symm
      rw [dropped] at stays
      have alone : x.mirrors = [] := List.isEmpty_iff.mp alone
      by_cases own : r = p
      · subst own
        rw [passDrop_gone there alone] at stays
        exact nomatch stays
      · exact ⟨k, (passDrop_others there alone own).symm.trans stays, rfl⟩
    · by_cases own : r = p
      · subst own
        rw [pktGet_pktSet_self] at stays
        exact ⟨x, there, by rw [← Option.some.inj stays]⟩
      · rw [pktGet_pktSet_ne _ _ own, pktGet_congr ((raspLeave_keeps s p x).same .pkts)] at stays
        exact ⟨k, stays, rfl⟩
  · exact ⟨k, stays, rfl⟩

/-! Verdicts of engine code (R232). -/

/-- The packet of a verdict message: the first bytes of its frame are replaced when HDR_WRITE is 1. -/
def verdictPkt (m : DevMsg) (k : Pkt) : Pkt :=
  { k with
    frame := if bitAt (mw m.words 1) 10 then fit m.hdr (bits (mw m.words 1) 9 0) ++ k.frame.drop (bits (mw m.words 1) 9 0) else k.frame
    hdr := { k.hdr with frameLen := (if bitAt (mw m.words 1) 10 then fit m.hdr (bits (mw m.words 1) 9 0) ++
      k.frame.drop (bits (mw m.words 1) 9 0) else k.frame).length } }

/-- A verdict that sends a packet out is its verdict, and it is an item no more. -/
theorem takeVerdict_marks (s : State) (p : Nat) (k : Pkt) {v : Verdict} (out : SendsOut v) :
    ∃ k', takeVerdict s p k v = pktSet s p k' ∧ k'.verdict = some v ∧ k'.item = none ∧ k'.frame = k.frame := by
  have waits : takeVerdict s p k v = if tlsDue k v
      then pktSet s p { k with stage := .transform, verdict := some v, item := none, pass := { k.pass with sa := none } }
      else pktSet s p { k with stage := .exitOrder, verdict := some v, item := none } := by
    cases v with
    | fwdPort n => rfl
    | fwdHost n q => rfl
    | flood n => rfl
    | drop => exact out.elim
    | toEngine n r => exact out.elim
    | recirc => exact out.elim
  rw [waits]
  split
  · exact ⟨_, rfl, rfl, rfl, rfl⟩
  · exact ⟨_, rfl, rfl, rfl, rfl⟩

theorem hostTarget_congr {s t : State} (slices : t.slices = s.slices) {k k' : Pkt} (slice : k'.hdr.slice = k.hdr.slice) (v : Nat) :
    hostTarget t k' v = hostTarget s k v := by
  unfold hostTarget sliceGet
  rw [slices, slice]

theorem distribute_split (s : State) (k : Pkt) : ∃ p c, pktGet (distribute s false k) p = some c ∧ c.frame = k.frame ∧ c.stage = .start ∧
    c.hdr.source = k.hdr.source ∧ c.hdr.slice = k.hdr.slice := ⟨s.nextPid, _, mapGet_mapSet_self _ _ _, rfl, rfl, rfl, rfl⟩

/-- The state in which the item of a verdict message has ended. -/
theorem verdictItem_ends {s : State} {m : DevMsg} {it : WorkItem} {k : Pkt} (there : pktGet s it.pid = some k) (v : Nat) (f : State → Nat → Pkt → State) : verdictItem (unqueued s m) m (bits (mw m.words 0) 15 0) it v f =
    some (f (itemEnd (unqueued s m) m.cluster (bits (mw m.words 0) 15 0) v) it.pid (verdictPkt m k)) := by
  unfold verdictItem
  dsimp only
  rw [itemEnd_pkts, show pktGet (unqueued s m) it.pid = some k from there]
  rfl

section
variable {s : State} {m : DevMsg} {it : WorkItem} {k : Pkt} (oldest : s.csc.devq.find? (fun m => m.chan = 0x802) = some m)
  (active : activeItem s m.cluster (bits (mw m.words 0) 15 0) m.slice = some it)
include oldest active

theorem completes_servePkt {c : Instr} {v : Nat} {f : State → DevMsg → Nat → WorkItem → Option State} {u : State} {Q : State → Prop}
    (row : exec c s = servePkt s v f) (verdict : bits (mw m.words 0) 19 16 = v)
    (serves : f (unqueued s m) m (bits (mw m.words 0) 15 0) it = some u) (after : Q u) : Completes c s Q := by
  have found : activeItem (unqueued s m) m.cluster (bits (mw m.words 0) 15 0) m.slice = some it := active
  refine completes_serveDev (row.trans rfl) oldest (decide_eq_true verdict) ?_ after
  dsimp only
  rw [found]
  exact serves

theorem inject_starts (verdict : bits (mw m.words 0) 19 16 = 5) {f : Bytes}
    (read : f = memReadN s.mem (bits (mw m.words 2) 47 0) (bits (mw m.words 1) 31 16))
    (room : (basinShape s f.length).2 - min (basinShape s f.length).2 (ownFree s m.slice) ≤ openFree s) : Completes .inject s (fun u =>
        ∃ p k', pktGet u p = some k' ∧ k'.frame = f ∧ k'.stage = .start ∧ k'.hdr.source = 18 ∧ k'.hdr.slice = m.slice) := by
  obtain ⟨fid, u, stored⟩ : ∃ fid u, basinStore (unqueued s m) f.length m.slice 1 none = some (fid, u) := ⟨_, _, if_pos room⟩
  refine completes_servePkt oldest active (rfl : execInject s = _) verdict ?_ (distribute_split (drawn u)
    { frame := f, stamp := stampNow u, inTc := Config.freeNat u.fresh % 8, fid := fid, gen := genOfSlice u m.slice, hdr := { source := 18, slice := m.slice } })
  dsimp only
  rw [show memReadN (unqueued s m).mem (bits (mw m.words 2) 47 0) (bits (mw m.words 1) 31 16) = f from read.symm, stored]

variable (there : pktGet s it.pid = some k)
include there

theorem verdict_exits {c : Instr} {n : Nat} {v : Verdict} (out : SendsOut v) (verdict : bits (mw m.words 0) 19 16 = n)
    {f : State → DevMsg → Nat → WorkItem → Option State} (row : exec c s = servePkt s n f)
    (takes : f (unqueued s m) m (bits (mw m.words 0) 15 0) it = verdictItem (unqueued s m) m (bits (mw m.words 0) 15 0) it n
      (fun s p k => takeVerdict s p k v)) : Completes c s (fun u =>
        itemOf u m.cluster (bits (mw m.words 0) 15 0) = none ∧ u.csc.devq = s.csc.devq.erase m ∧
        (∃ k', pktGet u it.pid = some k' ∧ k'.verdict = some v ∧ k'.item = none ∧
          k'.frame = (if bitAt (mw m.words 1) 10 then fit m.hdr (bits (mw m.words 1) 9 0) ++ k.frame.drop (bits (mw m.words 1) 9 0)
            else k.frame)) ∧ ∀ q, q ≠ it.pid → pktGet u q = pktGet s q) := by
  obtain ⟨k', marks, isVerdict, item, frame⟩ := takeVerdict_marks (itemEnd (unqueued s m) m.cluster (bits (mw m.words 0) 15 0) n) it.pid
    (verdictPkt m k) out
  refine completes_servePkt oldest active row verdict (takes.trans (verdictItem_ends there n _)) ?_
  rw [marks]
  refine ⟨itemEnd_work _ _ _ _, itemEnd_devq _ _ _ _, ⟨k', pktGet_pktSet_self _ _ _, isVerdict, item, frame⟩, fun q other => ?_⟩
  rw [pktGet_pktSet_ne _ _ other, itemEnd_pkts]
  rfl

theorem pktFwd_exits : ∀ c v, (c, v) ∈ [(Instr.pktFwdPort, Verdict.fwdPort (bits (msgV m) 3 0)), (.pktFlood, .flood (bits (msgV m) 15 0))] →
      bits (mw m.words 0) 19 16 = (if c = .pktFwdPort then 0 else 2) → Completes c s (fun u =>
        itemOf u m.cluster (bits (mw m.words 0) 15 0) = none ∧ u.csc.devq = s.csc.devq.erase m ∧
        (∃ k', pktGet u it.pid = some k' ∧ k'.verdict = some v ∧ k'.item = none ∧
          k'.frame = (if bitAt (mw m.words 1) 10 then fit m.hdr (bits (mw m.words 1) 9 0) ++ k.frame.drop (bits (mw m.words 1) 9 0)
            else k.frame)) ∧ ∀ q, q ≠ it.pid → pktGet u q = pktGet s q) := by
  intro c v row verdict
  simp only [List.mem_cons, Prod.mk.injEq, List.not_mem_nil, or_false] at row
  obtain ⟨rfl, rfl⟩ | ⟨rfl, rfl⟩ := row
  · exact verdict_exits oldest active there trivial verdict (rfl : execPktFwdPort s = _) rfl
  · exact verdict_exits oldest active there trivial verdict (rfl : execPktFlood s = _) rfl

theorem pktFwdHost_exits {n q : Nat} (verdict : bits (mw m.words 0) 19 16 = 1) (target : hostTarget s k (msgV m) = some (n, q)) :
    Completes .pktFwdHost s (fun u =>
      itemOf u m.cluster (bits (mw m.words 0) 15 0) = none ∧ (pktGet u it.pid).bind (fun x => x.verdict) = some (.fwdHost n q)) := by
  obtain ⟨a, ended⟩ : ∃ a, a = itemEnd (unqueued s m) m.cluster (bits (mw m.words 0) 15 0) 1 := ⟨_, rfl⟩
  have slices : a.slices = s.slices := ended ▸ (itemEnd_keeps (unqueued s m) _ _ _).same .slices
  have host : hostTarget a (verdictPkt m k) (msgV m) = some (n, q) := (hostTarget_congr slices rfl _).trans target
  obtain ⟨k', marks, isVerdict, -, -⟩ := takeVerdict_marks a it.pid (verdictPkt m k) (v := .fwdHost n q) trivial
  refine completes_servePkt oldest active (u := takeVerdict a it.pid (verdictPkt m k) (.fwdHost n q)) (rfl : execPktFwdHost s = _) verdict ?_ ?_
  · rw [verdictItem_ends there, ← ended, host]
  · rw [marks, pktGet_pktSet_self]
    exact ⟨ended ▸ itemEnd_work _ _ _ _, isVerdict⟩

theorem pktDrop_drops (verdict : bits (mw m.words 0) 19 16 = 3) (alone : k.mirrors = []) : Completes .pktDrop s (fun u =>
      itemOf u m.cluster (bits (mw m.words 0) 15 0) = none ∧ pktGet u it.pid = none) := by
  refine completes_servePkt oldest active (rfl : execPktDrop s = _) verdict (verdictItem_ends there 3 _)
    ⟨?_, passDrop_gone (k := verdictPkt m k) (pktGet_pktSet_self _ _ _) alone⟩
  show mapGet (clusterGet (passDrop _ _) _).work _ = none
  rw [clusterGet_passDrop]
  exact itemEnd_work _ _ _ _

theorem pktRecirc_starts (verdict : bits (mw m.words 0) 19 16 = 4) (early : k.hdr.pass < 3) : Completes .pktRecirc s (fun u =>
      itemOf u m.cluster (bits (mw m.words 0) 15 0) = none ∧ ∃ k', pktGet u it.pid = some k' ∧ k'.stage = .start ∧
        k'.hdr.pass = k.hdr.pass + 1 ∧ k'.verdict = none) := by
  refine completes_servePkt oldest active (rfl : execPktRecirc s = _) verdict (verdictItem_ends there 4 _) ?_
  rw [if_neg (Nat.not_le.mpr (show (verdictPkt m k).hdr.pass < 3 from early))]
  exact ⟨itemEnd_work _ _ _ _, _, pktGet_pktSet_self _ _ _, rfl, rfl, rfl⟩

end

/-! The Cascade commands (R246 to R248). -/

theorem cscClusterQuery_answers : AnswersOk .cscClusterQuery 0x0B40 (fun _ _ req => byteAt req 0 ≤ 1 ∧ byteAt req 1 ≤ 3)
    (fun s _ req => (clusterMap s (4 * byteAt req 0 + byteAt req 1)).flatMap (toLe 1) ++
      toLe 1 (threadsIn s (4 * byteAt req 0 + byteAt req 1) .free) ++ toLe 1 (resTotal s (4 * byteAt req 0 + byteAt req 1)) ++
      toLe 1 (sparesOf s (byteAt req 0)) ++ zeros 1 ++ toLe 4 (itemsIn s (4 * byteAt req 0 + byteAt req 1) .queued) ++
      toLe 4 (itemsIn s (4 * byteAt req 0 + byteAt req 1) .held) ++ toLe 1 (threadsIn s (4 * byteAt req 0 + byteAt req 1) .faulted) ++
      toLe 1 (threadsIn s (4 * byteAt req 0 + byteAt req 1) .suspended) ++ zeros 2) (fun s t ch _ => AnswerFrame [] s t ch) :=
  answersOk_query (fun s ch seq => (rfl : execCscClusterQuery ch seq s = _)) (fun s ch seq req inRange => if_neg (by omega))

theorem cscWaitgraphRead_answers : AnswersOk .cscWaitgraphRead 0x0B44 (fun _ _ req => byteAt req 0 ≤ 1 ∧ byteAt req 1 ≤ 3)
    (fun s _ req => if (clusterGet s (4 * byteAt req 0 + byteAt req 1)).snapshot.isEmpty then zeros 16
      else (clusterGet s (4 * byteAt req 0 + byteAt req 1)).snapshot) (fun s t ch _ => AnswerFrame [] s t ch) :=
  answersOk_query (fun s ch seq => (rfl : execCscWaitgraphRead ch seq s = _)) (fun s ch seq req inRange => if_neg (by omega))

/-! An engine that is retired by command. -/

/-- The commands of a channel that firmware has started. -/
def startedOn (ch : Nat) (s : State) : List Started := (chanGet s ch).started

theorem startedOn_keeps {ps : List Part} {s t : State} (k : Keeps ps s t) (ch : Nat) (quiet : Part.mbx ∉ ps := by decide) :
    startedOn ch t = startedOn ch s := congrArg MbxChan.started (chanGet_congr (k.same .mbx quiet) ch)

theorem restartItem_started (s : State) (q h ch : Nat) : startedOn ch (restartItem s q h) = startedOn ch s := by
  unfold restartItem
  split
  · rfl
  · split
    · exact (startedOn_keeps (bump_keeps _ _) ch).trans ((startedOn_keeps (itemRequeue_keeps _ _ _) ch).trans (startedOn_keeps (clusterMod_keeps s _ _) ch))
    · exact (startedOn_keeps (faultRecord_keeps _ _ _ _ _ _ _) ch).trans
        ((errlog_started _ _ _ _ _ _ ch).trans (startedOn_keeps (clusterMod_keeps s _ _) ch))

theorem stopThread_started (s : State) (q t ch : Nat) : startedOn ch (stopThread s q t) = startedOn ch s :=
  (startedOn_keeps (thFree_keeps _ _ _) ch).trans ((startedOn_keeps (childExits_keeps _ _ _ _) ch).trans
    (foldl_same (startedOn ch) (fun u h => restartItem_started u q h ch) _ s))

theorem retireEngine_started (s : State) (e cls cause ch : Nat) : startedOn ch (retireEngine s e cls cause) = startedOn ch s := by
  unfold retireEngine
  split
  · rfl
  next q pos place =>
  extract_lets before stopped retired unmapped moved placed marked spares loading
  have stops : startedOn ch stopped = startedOn ch s := by
    unfold stopped
    exact foldl_same (startedOn ch) (fun u t => stopThread_started u q (8 * pos + t) ch) _ _
  have moves : startedOn ch moved = startedOn ch unmapped := by
    unfold moved
    exact foldl_same (startedOn ch) (fun u t => startedOn_keeps (moveReserved_keeps u q (8 * pos + t)) ch) _ _
  have supervised : startedOn ch placed = startedOn ch moved := by
    unfold placed
    split
    · exact startedOn_keeps (placeSupervisor_keeps _ _) ch
    · rfl
  have loads : startedOn ch loading = startedOn ch marked := by
    unfold loading
    clear_value spares
    cases spares with
    | some x => rfl
    | none => exact ((eventToManager_told _ _ _).trans (eventToManager_told _ _ _)).started ch
  have told : startedOn ch (noteMode before (noteRetired loading 1 cause e 0 (7 + e / 34)) 1) = startedOn ch loading :=
    ((noteRetired_told _ _ _ _ _ _).trans (noteMode_told _ _ _)).started ch
  calc startedOn ch (noteMode before (noteRetired loading 1 cause e 0 (7 + e / 34)) 1) = startedOn ch marked := told.trans loads
    _ = startedOn ch unmapped := (startedOn_keeps (hwSetField_keeps placed _ _ _ _) ch).trans (supervised.trans moves)
    _ = startedOn ch stopped := (startedOn_keeps (clusterMod_keeps retired _ _) ch).trans (startedOn_keeps (engSet_keeps stopped _ _) ch)
    _ = startedOn ch s := stops

theorem cscEngineRetire_retires : AnswersOk .cscEngineRetire 0x0B42 (fun s _ req => byteAt req 0 ≤ 67 ∧ (enginePlace s (byteAt req 0)).isSome = true)
    (fun s _ req => toLe 1 ((spareOf s (byteAt req 0 / 34)).getD 0xFF))
    (fun _ t _ req => engState t (byteAt req 0) = .retired ∧
      hwField t (0x022 + byteAt req 0 / 32) (byteAt req 0 % 32) (byteAt req 0 % 32) = 1) := by
  refine answersOk_of_command (row := fun s ch seq => (rfl : execCscEngineRetire ch seq s = _)) (fun s ch seq req ⟨named, placed⟩ => ?_)
  obtain ⟨⟨q, pos⟩, place⟩ := Option.isSome_iff_exists.mp placed
  obtain ⟨retired, word⟩ := retireEngine_retires s 0 0 place (by omega)
  refine ⟨retireEngine s (byteAt req 0) 0 0, ?_, retireEngine_started s _ 0 0 ch, ?_, ?_⟩
  · dsimp only
    rw [place]
    exact if_neg (fun wrong => wrong.elim (by omega) Bool.false_ne_true)
  · rw [engState_congr (congrArg (fun c => c.engines) (answer_csc _ ch seq rcOk _)), retired]
  · rw [hwField_answer, word]

/-! Packets that are disposed of (R248). -/

/-- The items of a cluster that CSC_PACKET_DISPOSE names end, their packets are dropped, and they are counted. -/
def disposeOf (req : Bytes) (a : State × Nat) (q : Nat) : State × Nat :=
  ((disposed a.1 req q).foldl (fun s x => passDrop (bump (itemEnd s q x.1 3) (r_CSC_CNT_DISPOSED q)) x.2) a.1, a.2 + (disposed a.1 req q).length)

/-- Disposal in every cluster, as the command writes it. -/
def execDisposal (req : Bytes) (s : State) : State × Nat :=
  (List.range 8).foldl (fun a q => ((disposed a.1 req q).foldl (fun s x => passDrop (bump (itemEnd s q x.1 3) (r_CSC_CNT_DISPOSED q)) x.2) a.1,
    a.2 + (disposed a.1 req q).length)) (s, 0)

theorem disposeOf_none {req : Bytes} {s : State} {n : Nat} : ∀ {l : List Nat}, (∀ q ∈ l, disposed s req q = []) → l.foldl (disposeOf req) (s, n) = (s, n)
  | [], _ => rfl
  | q :: l, unnamed => by
    have first : disposeOf req (s, n) q = (s, n) := by unfold disposeOf; rw [unnamed q List.mem_cons_self]; rfl
    rw [List.foldl_cons, first]
    exact disposeOf_none (fun r held => unnamed r (List.mem_cons_of_mem _ held))

theorem disposeOf_one {req : Bytes} {s : State} {q h p : Nat} (n : Nat) (single : disposed s req q = [(h, p)]) :
    disposeOf req (s, n) q = (passDrop (bump (itemEnd s q h 3) (r_CSC_CNT_DISPOSED q)) p, n + 1) := by
  unfold disposeOf
  rw [single]
  rfl

/-- What was not disposed of in a cluster is not once another cluster's item ended and a packet was dropped. -/
theorem disposed_after {req : Bytes} {s : State} {q r h : Nat} (p : Nat) (other : r ≠ q) (none : disposed s req r = []) :
    disposed (passDrop (bump (itemEnd s q h 3) (r_CSC_CNT_DISPOSED q)) p) req r = [] := by
  obtain ⟨u, ended⟩ : ∃ u, u = bump (itemEnd s q h 3) (r_CSC_CNT_DISPOSED q) := ⟨_, rfl⟩
  have cluster : clusterGet (passDrop u p) r = clusterGet s r := by
    rw [clusterGet_passDrop, ended, clusterGet_congr ((bump_keeps _ _).same .csc), itemEnd_others s h 3 other]
  have kept : ∀ i k, pktGet (passDrop u p) i = some k → ∃ k', pktGet s i = some k' ∧ k.hdr = k'.hdr := fun i k stays => by
    obtain ⟨k', there, hdr⟩ := passDrop_hdr stays
    rw [ended, pktGet_congr ((bump_keeps _ _).same .pkts), itemEnd_pkts] at there
    exact ⟨k', there, hdr⟩
  rw [← ended]
  unfold disposed at none ⊢
  dsimp only at none ⊢
  rw [cluster]
  split
  · next named =>
    rw [if_pos named, List.map_eq_nil_iff, List.filter_eq_nil_iff] at none
    rw [List.map_eq_nil_iff, List.filter_eq_nil_iff]
    intro x held picked
    refine none x held ?_
    obtain ⟨fits, packet⟩ := Bool.and_eq_true_iff.mp picked
    refine Bool.and_eq_true_iff.mpr ⟨fits, ?_⟩
    split at packet
    · next k there =>
      obtain ⟨k', before, hdr⟩ := kept _ _ there
      rw [before]
      dsimp only
      rw [← hdr]
      exact packet
    · exact absurd packet Bool.false_ne_true
  · rfl

/-- Disposal over the eight clusters, with one item in one of them. -/
theorem disposeOf_range {req : Bytes} {s : State} {q h p : Nat} (cluster : q < 8) (single : disposed s req q = [(h, p)])
    (others : ∀ r < 8, r ≠ q → disposed s req r = []) :
    (List.range 8).foldl (disposeOf req) (s, 0) = (passDrop (bump (itemEnd s q h 3) (r_CSC_CNT_DISPOSED q)) p, 1) := by
  obtain ⟨l, l', split_⟩ := List.append_of_mem (List.mem_range.mpr cluster)
  have distinct : (l ++ q :: l').Nodup := split_ ▸ List.nodup_range
  have within : ∀ r, r ∈ l ++ q :: l' → r < 8 := fun r held => List.mem_range.mp (split_ ▸ held)
  obtain ⟨before, after⟩ := List.nodup_middle.mp distinct |> List.nodup_cons.mp |>.1 |> fun out => (⟨fun held => out (List.mem_append_left _ held),
    fun held => out (List.mem_append_right _ held)⟩ : q ∉ l ∧ q ∉ l')
  rw [split_, List.foldl_append, List.foldl_cons,
    disposeOf_none (fun r held => others r (within r (List.mem_append_left _ held)) (fun same => before (same ▸ held))), disposeOf_one 0 single]
  refine disposeOf_none (fun r held => ?_)
  have other : r ≠ q := fun same => after (same ▸ held)
  exact disposed_after p other (others r (within r (List.mem_append_right _ (List.mem_cons_of_mem _ held))) other)

theorem cscPacketDispose_none : AnswersOk .cscPacketDispose 0x0B43 (fun s _ req => byteAt req 2 ≤ 3 ∧ ∀ q < 8, disposed s req q = [])
    (fun _ _ _ => toLe 4 0) (fun s t ch _ => AnswerFrame [] s t ch) :=
  answersOk_query (fun s ch seq => (rfl : execCscPacketDispose ch seq s = _)) (fun s ch seq req ⟨slot, unnamed⟩ => by
    have all := disposeOf_none (n := 0) (fun q held => unnamed q (List.mem_range.mp held))
    have folded : execDisposal req s = (s, 0) := all
    unfold execDisposal at folded
    rw [if_neg (by omega), folded])

theorem cscPacketDispose_drops {s : State} {ch seq q h p : Nat} {req : Bytes} (begun : Begun s ch seq 0x0B43 req) (slot : byteAt req 2 ≤ 3)
    (cluster : q < 8) (single : disposed s req q = [(h, p)]) (others : ∀ r < 8, r ≠ q → disposed s req r = []) :
    Completes (.cscPacketDispose ch seq) s (fun t => Answered t ch seq rcOk (toLe 4 1) ∧
      itemOf t q h = none ∧ Counted s t (r_CSC_CNT_DISPOSED q) 1) := by
  obtain ⟨u, drops⟩ : ∃ u, u = passDrop (bump (itemEnd s q h 3) (r_CSC_CNT_DISPOSED q)) p := ⟨_, rfl⟩
  have all := disposeOf_range cluster single others
  have untraced : r_CSC_CNT_DISPOSED q ≠ r_GAU_TRACE_STATUS := by unfold r_CSC_CNT_DISPOSED r_GAU_TRACE_STATUS; omega
  have item : itemOf u q h = none := by
    unfold itemOf
    rw [drops, clusterGet_passDrop]
    exact itemEnd_work _ _ _ _
  have ends : RegKept s (itemEnd s q h 3) (r_CSC_CNT_DISPOSED q) := by
    unfold itemEnd
    refine .trans ?_ (.of_keeps (clusterMod_keeps _ _ _))
    refine .trans ?_ (.of_keeps (itemFree_keeps _ _ _))
    split
    · exact trace_regKept _ _ _ _ _ _ _ untraced
    · exact .of_regs rfl
  refine completes_command begun (rfl : execCscPacketDispose ch seq s = _) ?_
  dsimp only
  have folded : execDisposal req s = (u, 1) := drops ▸ all
  unfold execDisposal at folded
  rw [if_neg (by omega), folded]
  have mbx : u.mbx = s.mbx := drops ▸ (Keeps.last (ps := [.rings, .pkts, .basin, .plane, .rasp, .jig, .csc, .twin, .macs, .regs, .gauge])
    (passDrop_keeps _ p) (.last (bump_keeps _ _) ((itemEnd_keeps s q h 3).mono (by decide)))).same .mbx
  refine ⟨answer_answered _ _ (begun.unanswered.same mbx), ?_, ?_⟩
  · unfold itemOf
    rw [clusterGet_congr (answer_csc _ _ _ _ _)]
    exact item
  · rw [drops]
    exact Counted.of_bump ends rfl ((RegKept.of_keeps (passDrop_keeps _ p)).trans (answer_regKept _ _ _ _ _ untraced))

/-- Settles O48, one lemma for each operation of the supervisor, each fault, each device channel and each command. -/
theorem supervisionServicesAndCommandsOfEngines : Obligations.SupervisionServicesAndCommandsOfEngines := by
  unfold Obligations.SupervisionServicesAndCommandsOfEngines
  refine ⟨⟨fun s q t runs worker live => suspend_suspends runs worker live, fun c member s q runs => supOp_self runs c member, ?_,
    fun s q t requeue runs worker used => abort_frees runs requeue worker used, fun s q v runs => supThread_sets runs,
    fun s q v e runs engine above below => supRegs_stores runs engine above below, fun s q v runs => supDldAck_clears runs,
    fun s q t cls pc addr first last cluster runs => threadFault_stops first last cluster runs,
    fun s e t cls q pos place fault thread named => engineFault_retires place fault thread named,
    fun s x q pos e cls loading position => spareMapped_serves loading position,
    fun s q cluster stopped engine running => supervisorRestart_runs cluster stopped engine running,
    fun s e n named => engineMemoryScrub_counts n named, fun s q cluster free dead => dldFire_fires cluster free dead,
    fun s q held => cscDeadlock_tells held⟩,
    ⟨fun s m st e hit oldest reply room free looked => devchLookup_replies oldest reply room free looked,
      fun c n row s m oldest asks own room => devchScribe_queues c n row oldest asks own room,
      fun s m it k oldest active there => ⟨pktFwd_exits oldest active there, fun n q => pktFwdHost_exits oldest active there,
        pktDrop_drops oldest active there, pktRecirc_starts oldest active there, fun f verdict read room => inject_starts oldest active verdict read room⟩,
      fun s m oldest => cscEngineEvent_tells oldest⟩,
    cscClusterQuery_answers, cscEngineRetire_retires, cscPacketDispose_none,
    fun s ch seq req q h p begun slot cluster single others => cscPacketDispose_drops begun slot cluster single others, cscWaitgraphRead_answers⟩
  intro s q t runs worker suspended
  by_cases waits : ∃ ch, (thGet s q t).wait = .space ch
  · obtain ⟨ch, waits⟩ := waits
    obtain ⟨u, row, result, state, writer, only⟩ := resume_waits runs worker suspended waits
    refine ⟨u, row, result, fun ch' waits' => ?_, fun other => absurd waits (other ch), only⟩
    obtain rfl := WaitFor.space.inj (waits.symm.trans waits')
    exact ⟨state, writer⟩
  · obtain ⟨u, row, result, thread, only⟩ := resume_readies runs worker suspended (fun ch h => waits ⟨ch, h⟩)
    exact ⟨u, row, result, fun ch h => absurd ⟨ch, h⟩ waits, fun _ => thread, only⟩

end Sys2Proof.Machine
end

section
/-! PROOFS. The exit order stage and the Dovetail algorithm (R259 to R268, R676). -/
namespace Sys2Proof.Machine

open Sys2Proof

set_option Elab.async false

/-! The exit order stage hands a packet on. -/

theorem dovGet_dovSet_self (s : State) (d : Nat) (x : DovIsland) : dovGet (dovSet s d x) d = x := by
  unfold dovGet dovSet
  split_ifs <;> rfl

theorem dovSet_rings (s : State) (d : Nat) (x : DovIsland) : (dovSet s d x).twin.rings = s.twin.rings := by
  unfold dovSet
  dsimp only
  split_ifs <;> rfl

/-- A packet that left its order ring is not in it. -/
theorem ringLeave_left (s : State) (p : Nat) (k : Pkt) : p ∉ mapGetD (ringLeave s p k).twin.rings (ringOf k) [] := by
  have out : p ∉ (mapGetD s.twin.rings (ringOf k) []).filter (fun x => x ≠ p) := by simp
  unfold ringLeave
  dsimp only
  split
  · rw [mapGetD, mapGet_mapErase_self]
    exact List.not_mem_nil
  · rw [mapGetD_mapSet_self]
    exact out

section
variable {s : State} {p : Nat} {k : Pkt}

/-- The state in which the copies of a packet are counted, before any leaves. -/
def handedOn (s : State) (k : Pkt) (v : Verdict) : State :=
  let u := bumpBy s (r_CST_ACT_CNT_MIRROR_DROP k.hdr.pipeline) (lostLegs s k v)
  if lostLegs s k v = 0 then u else markStatus u k.origin 1

theorem handedOn_keeps (s : State) (k : Pkt) (v : Verdict) : Keeps [.regs, .rings] s (handedOn s k v) :=
  .ite ((bumpBy_keeps s _ _).mono (by decide)) (.last (markStatus_keeps _ _ _) ((bumpBy_keeps s _ _).mono (by decide)))

/-- The exit order stage hands on what it may. -/
theorem exitOrderHandoff_hands {v : Verdict} (there : pktGet s p = some k) (stage : k.stage = .exitOrder) (verdict : k.verdict = some v)
    (may : mayHandOn s p k = true) : exec (.exitOrderHandoff p) s = .next (handOn s p k v) := by
  show execExitOrderHandoff p s = _
  unfold execExitOrderHandoff
  rw [there]
  dsimp only
  rw [verdict]
  exact if_pos ⟨stage, may⟩

theorem exitOrderHandoff_waits {v : Verdict} (there : pktGet s p = some k) (verdict : k.verdict = some v) (mayNot : mayHandOn s p k = false) :
    exec (.exitOrderHandoff p) s = .next s := by
  show execExitOrderHandoff p s = _
  unfold execExitOrderHandoff
  rw [there]
  dsimp only
  rw [verdict]
  exact if_neg (fun ⟨_, may⟩ => Bool.false_ne_true (mayNot.symm.trans may))

/-- The packet with its copies on their way. -/
def handedPkt (k : Pkt) : Pkt := { k with stage := .handed, legs := 1 }

/-- A single copy of a packet is put on its channel. -/
theorem handOn_single {v : Verdict} {l : Leg} (legs : legsOf s k v = [l]) (leaves : v ≠ .drop) :
    handOn s p k v = sendLeg p k (pktSet (ringLeave (hold (handedOn s k v) k.fid 0 k.origin) p k) p (handedPkt k)) l := by
  unfold handOn
  dsimp only
  rw [legs]
  dsimp only
  rw [if_neg leaves]
  rfl

/-- The arrival that a copy makes at its point. -/
def arrivalOf (s : State) (p : Nat) (k : Pkt) (l : Leg) : Arrival :=
  { point := destPoint s l.dest, dest := l.dest, pid := p, pkt := { k with frame := l.bytes, tx := l.tx }, main := l.main,
    rail := railOf k.hdr.pipeline, digest := copyDigest k (destPoint s l.dest) l }

/-- One copy is on its way: the packet is handed on, left its ring, and the copy arrives at its island. -/
theorem handOn_sends {v : Verdict} {l : Leg} (legs : legsOf s k v = [l]) (leaves : v ≠ .drop) :
    pktGet (handOn s p k v) p = some (handedPkt k) ∧ (∀ q, q ≠ p → pktGet (handOn s p k v) q = pktGet s q) ∧
    p ∉ mapGetD (handOn s p k v).twin.rings (ringOf k) [] ∧
    ∃ u, (dovGet (handOn s p k v) (destIsland l.dest)).arrivals = (dovGet s (destIsland l.dest)).arrivals ++ [arrivalOf u p k l] := by
  obtain ⟨a, holds⟩ : ∃ a, a = hold (handedOn s k v) k.fid 0 k.origin := ⟨_, rfl⟩
  obtain ⟨b, left⟩ : ∃ b, b = pktSet (ringLeave a p k) p (handedPkt k) := ⟨_, rfl⟩
  have kept : Keeps [.regs, .rings, .basin] s a := holds ▸ .last (hold_keeps _ _ _ _) ((handedOn_keeps s k v).mono (by decide))
  have hands : handOn s p k v = sendLeg p k b l := by rw [handOn_single legs leaves, left, holds]
  have sends := dovSet_keeps b (destIsland l.dest)
    { dovGet b (destIsland l.dest) with arrivals := (dovGet b (destIsland l.dest)).arrivals ++ [arrivalOf b p k l] }
  have packet : ∀ q, pktGet (handOn s p k v) q = pktGet b q := fun q => by
    rw [hands]
    exact pktGet_congr (sends.same .pkts) q
  have island : (dovGet b (destIsland l.dest)) = dovGet s (destIsland l.dest) := by
    have twin : dovGet a = dovGet s := by unfold dovGet; rw [kept.same .twin]
    rw [left, ← twin]
    rfl
  refine ⟨?_, fun q other => ?_, ?_, b, ?_⟩
  · rw [packet, left, pktGet_pktSet_self]
  · rw [packet, left, pktGet_pktSet_ne _ _ other]
    exact pktGet_congr (kept.same .pkts) q
  · rw [hands]
    show p ∉ mapGetD (dovSet b _ _).twin.rings (ringOf k) []
    rw [dovSet_rings, left]
    exact ringLeave_left a p k
  · rw [hands, ← island]
    exact congrArg DovIsland.arrivals (dovGet_dovSet_self b _ _)

theorem legsOf_fwdPort {m : Nat} (alone : k.mirrors = []) : legsOf s k (.fwdPort m) =
    [{ dest := .inl (m, egressClass k), bytes := k.frame, tx := k.tx, main := true }] := by
  unfold legsOf destWords
  rw [alone]
  rfl

theorem legsOf_fwdHost {n q : Nat} (alone : k.mirrors = []) : legsOf s k (.fwdHost n q) =
    [{ dest := .inr ((funcOfSlice n).1, n, q), bytes := k.frame, tx := k.tx, main := false }] := by
  unfold legsOf destWords
  rw [alone]
  rfl

theorem fwdPort_handed {m : Nat} (there : pktGet s p = some k) (stage : k.stage = .exitOrder) (verdict : k.verdict = some (.fwdPort m))
    (alone : k.mirrors = []) (may : mayHandOn s p k = true) :
    Completes (.exitOrderHandoff p) s (fun t => pktGet t p = some { k with stage := .handed, legs := 1 } ∧
      (∀ q, q ≠ p → pktGet t q = pktGet s q) ∧ p ∉ mapGetD t.twin.rings (ringOf k) [] ∧
      ∃ a, (dovGet t (2 + m / 8)).arrivals = (dovGet s (2 + m / 8)).arrivals ++ [a] ∧ a.point = 8 * m + egressClass k ∧ a.pid = p ∧
        a.dest = .inl (m, egressClass k) ∧ a.pkt.frame = k.frame ∧ a.rail = railOf k.hdr.pipeline ∧ a.main = true) := by
  obtain ⟨handed, others, left, u, arrives⟩ := handOn_sends (p := p) (legsOf_fwdPort (s := s) (m := m) alone) Verdict.noConfusion
  exact completes_of (exitOrderHandoff_hands there stage verdict may) ⟨handed, others, left, _, arrives, rfl, rfl, rfl, rfl, rfl, rfl⟩

theorem fwdHost_handed {n q : Nat} (there : pktGet s p = some k) (stage : k.stage = .exitOrder) (verdict : k.verdict = some (.fwdHost n q))
    (alone : k.mirrors = []) (may : mayHandOn s p k = true) :
    Completes (.exitOrderHandoff p) s (fun t => pktGet t p = some { k with stage := .handed, legs := 1 } ∧
      ∃ a, (dovGet t (funcOfSlice n).1).arrivals = (dovGet s (funcOfSlice n).1).arrivals ++ [a] ∧ a.pid = p ∧
        a.dest = .inr ((funcOfSlice n).1, n, q) ∧ a.pkt.frame = k.frame ∧ a.main = false) := by
  obtain ⟨handed, -, -, u, arrives⟩ := handOn_sends (p := p) (legsOf_fwdHost (s := s) (n := n) (q := q) alone) Verdict.noConfusion
  exact completes_of (exitOrderHandoff_hands there stage verdict may) ⟨handed, _, arrives, rfl, rfl, rfl, rfl⟩

theorem flood_drops {bd : Nat} (there : pktGet s p = some k) (stage : k.stage = .exitOrder) (verdict : k.verdict = some (.flood bd))
    (alone : k.mirrors = []) (may : mayHandOn s p k = true) (empty : floodMembers s k bd = []) :
    Completes (.exitOrderHandoff p) s (fun t => pktGet t p = none) := by
  have legs : legsOf s k (.flood bd) = [] := by
    unfold legsOf destWords
    dsimp only
    rw [empty, alone]
    rfl
  have drops : handOn s p k (.flood bd) = dropPkt (handedOn s k (.flood bd)) p 1 := by
    unfold handOn
    dsimp only
    rw [legs]
    rfl
  have there' : pktGet (handedOn s k (.flood bd)) p = some k := (pktGet_congr ((handedOn_keeps s k _).same .pkts) p).trans there
  refine completes_of (exitOrderHandoff_hands there stage verdict may) ?_
  rw [drops, dropPkt, there']
  exact endCopy_gone _ p k

end

/-! The Dovetail algorithm (R263). -/

section
variable {d : DovIsland} {x st r now : Nat} {seq g : Word}

theorem dovPut_recs (d : DovIsland) (y : StreamState) : (dovPut d y).recs = d.recs := by
  unfold dovPut
  split <;> rfl

theorem dovState_dovPut (d : DovIsland) (y : StreamState) : dovState (dovPut d y) y.point y.stream = some y := by
  have self : (y.point = y.point && y.stream = y.stream : Bool) = true := by simp
  unfold dovPut
  split
  · next held =>
    obtain ⟨z, found⟩ := Option.isSome_iff_exists.mp held
    have fits := List.find?_some found
    unfold dovState at found ⊢
    dsimp only
    rw [List.find?_map]
    have same : ((fun z : StreamState => z.point = y.point && z.stream = y.stream : StreamState → Bool) ∘
        fun z => if z.point = y.point ∧ z.stream = y.stream then y else z) = fun z => (z.point = y.point && z.stream = y.stream : Bool) := by
      funext w
      by_cases own : w.point = y.point ∧ w.stream = y.stream
      · simp [own]
      · simp [own]
    rw [same, found]
    simp only [Bool.and_eq_true, decide_eq_true_eq] at fits
    simp [fits]
  · next none =>
    have none : dovState d y.point y.stream = .none := Option.not_isSome_iff_eq_none.mp none
    unfold dovState at none ⊢
    dsimp only
    rw [List.find?_append, none]
    simp

theorem dovOpen_releases {lag : Option Nat} (room : d.recs.length < 65536) : (dovOpen d x st seq r g now lag).2 = .release ∧
    (dovOpen d x st seq r g now lag).1.recs = d.recs ++ [⟨x, st, seq, g, r, now⟩] ∧
    (dovState (dovOpen d x st seq r g now lag).1 x st).map (fun y => y.m) = some seq := by
  have put := dovState_dovPut d { point := x, stream := st, m := seq, lag := lag }
  unfold dovOpen
  rw [if_neg (by omega)]
  refine ⟨rfl, congrArg (· ++ _) (dovPut_recs _ _), ?_⟩
  show (dovState (dovPut d _) x st).map _ = some seq
  rw [put]
  rfl

theorem dovArrive_first (new : d.recs.find? (fun y => y.point = x && y.stream = st && y.seq = seq) = none) (room : d.recs.length < 65536)
    (later : ∀ y, dovState d x st = some y → later32 seq y.m = true) : (dovArrive d false x st seq r g now).2 = .release ∧
      (dovArrive d false x st seq r g now).1.recs = d.recs ++ [⟨x, st, seq, g, r, now⟩] ∧
      (dovState (dovArrive d false x st seq r g now).1 x st).map (fun y => y.m) = some seq := by
  unfold dovArrive
  dsimp only
  rw [new]
  dsimp only
  rw [if_neg Bool.false_ne_true]
  cases known : dovState d x st with
  | none => exact dovOpen_releases room
  | some y =>
    dsimp only
    rw [if_pos (later y known)]
    exact dovOpen_releases room

theorem dovArrive_second (alone : Bool) {y : OpenRec} (held : d.recs.find? (fun y => y.point = x && y.stream = st && y.seq = seq) = some y) :
    (dovArrive d alone x st seq r g now).2 = .second (if y.digest = g then none else some y.digest) ∧
    ∀ z ∈ (dovArrive d alone x st seq r g now).1.recs, z ∈ d.recs ∧ ¬ (z.point = x ∧ z.stream = st ∧ z.seq = seq) := by
  unfold dovArrive
  dsimp only
  rw [held]
  refine ⟨rfl, fun z stays => ?_⟩
  obtain ⟨was, other⟩ := List.mem_filter.mp (show z ∈ d.recs.filter _ from stays)
  refine ⟨was, fun ⟨point, stream, same⟩ => ?_⟩
  simp [point, stream, same] at other

theorem dovArrive_late {y : StreamState} (new : d.recs.find? (fun y => y.point = x && y.stream = st && y.seq = seq) = none)
    (known : dovState d x st = some y) (early : later32 seq y.m = false) :
    (dovArrive d false x st seq r g now).2 = .late ∧ (dovArrive d false x st seq r g now).1.recs = d.recs := by
  unfold dovArrive
  dsimp only
  rw [new]
  dsimp only
  rw [if_neg Bool.false_ne_true, known]
  dsimp only
  rw [if_neg (by rw [early]; exact Bool.false_ne_true)]
  exact ⟨rfl, dovPut_recs _ _⟩

end

section
variable {s : State} {d pl : Nat} {a : Arrival}

theorem dovetailArrive_arrives (named : d ≤ 3) (idle : ∀ b ∈ (dovGet s d).waiting, b.pkt.hdr.pipeline ≠ pl)
    (first : (dovGet s d).arrivals.find? (fun a => a.pkt.hdr.pipeline = pl) = some a) : exec (.dovetailArrive d pl) s =
    .next (arrive (dovSet s d { dovGet s d with arrivals := (dovGet s d).arrivals.eraseP (fun b => b.pkt.hdr.pipeline = pl) }) d a) := by
  have waits : (dovGet s d).waiting.any (fun a => a.pkt.hdr.pipeline = pl) = false :=
    List.any_eq_false.mpr (fun b held => by simpa using idle b held)
  show execDovetailArrive d pl s = _
  unfold execDovetailArrive
  dsimp only
  rw [waits, if_neg (fun wrong => wrong.elim (by omega) Bool.false_ne_true), first]

theorem dovetailArrive_takes (named : d ≤ 3) (idle : ∀ b ∈ (dovGet s d).waiting, b.pkt.hdr.pipeline ≠ pl)
    (first : (dovGet s d).arrivals.find? (fun a => a.pkt.hdr.pipeline = pl) = some a) :
    (a.pkt.hdr.twin = false → exec (.dovetailArrive d pl) s = .next (releaseCopy (dovSet s d { dovGet s d with
      arrivals := (dovGet s d).arrivals.eraseP (fun b => b.pkt.hdr.pipeline = pl) }) a)) ∧
    (a.pkt.hdr.twin = true → ∀ u, arriveTwin (dovSet s d { dovGet s d with
      arrivals := (dovGet s d).arrivals.eraseP (fun b => b.pkt.hdr.pipeline = pl) }) d a = some u →
        exec (.dovetailArrive d pl) s = .next u) := by
  refine ⟨fun single => (dovetailArrive_arrives named idle first).trans (congrArg _ ?_),
    fun twin u takes => (dovetailArrive_arrives named idle first).trans (congrArg _ ?_)⟩
  · unfold arrive
    rw [single]
    rfl
  · unfold arrive
    rw [twin, takes]
    rfl

theorem dovetailStoreWaitEnd_takes {u : State} (first : (dovGet s d).waiting.find? (fun a => a.pkt.hdr.pipeline = pl) = some a)
    (takes : arriveTwin (dovSet s d { dovGet s d with waiting := (dovGet s d).waiting.eraseP (fun b => b.pkt.hdr.pipeline = pl) }) d a = some u) :
    exec (.dovetailStoreWaitEnd d pl) s = .next u := by
  show execDovetailStoreWaitEnd d pl s = _
  unfold execDovetailStoreWaitEnd
  dsimp only
  rw [first]
  dsimp only
  rw [takes]

/-! The expiry of a record (R264). -/

/-- DVT_LAG is due: none was sent in the last 1,000,000 ticks. -/
def lagDue (x : DovIsland) (now : Nat) : Bool :=
  match x.lagSent with
  | some t => decide (t + 1000000 ≤ now)
  | none => true

theorem lag_quiet {d : Nat} (island : d < 4) : r_DVT_CNT_LAG d ≠ r_GAU_TRACE_STATUS ∧ ¬ EventReg (r_DVT_CNT_LAG d) := by
  have each : ∀ d < 4, Unreported (r_DVT_CNT_LAG d) := by unfold Unreported EventReg; decide
  exact ⟨(each d island).untraced, (each d island).1⟩

theorem openRecordExpire_lags {x st : Nat} {seq : Word} {y : OpenRec} (island : d < 4)
    (held : (dovGet s d).recs.find? (fun y => y.point = x && y.stream = st && y.seq = seq) = some y) :
    Completes (.openRecordExpire d x st seq) s (fun t =>
      (dovGet t d).recs = (dovGet s d).recs.filter (fun z => !(z.point = x && z.stream = st && z.seq = seq)) ∧
      (dovGet t d).states = (dovGet s d).states.map (fun z => if z.point = x ∧ z.stream = st then { z with lag := some (1 - y.rail) } else z) ∧
      Counted s t (r_DVT_CNT_LAG d) 1) := by
  obtain ⟨untraced, quiet⟩ := lag_quiet island
  obtain ⟨isle, expired⟩ : ∃ isle : DovIsland, isle = { dovGet s d with
    recs := (dovGet s d).recs.filter (fun z => !(z.point = x && z.stream = st && z.seq = seq))
    states := (dovGet s d).states.map (fun z => if z.point = x ∧ z.stream = st then { z with lag := some (1 - y.rail) } else z)
    lagCount := (dovGet s d).lagCount + 1 } := ⟨_, rfl⟩
  obtain ⟨a, set⟩ : ∃ a, a = dovSet s d isle := ⟨_, rfl⟩
  obtain ⟨b, traced⟩ : ∃ b, b = trace (bump a (r_DVT_CNT_LAG d)) (13 + d) 3 (1 + 2 * (1 - y.rail)) 0xFFF 0
    (toLe 2 st ++ zeros 2 ++ toLe 4 seq.toNat ++ toLe 4 (Config.pointNumber x)) := ⟨_, rfl⟩
  have trail : Keeps [.regs, .gauge] a b := traced ▸ .last (trace_keeps _ _ _ _ _ _ _) ((bump_keeps a _).mono (by decide))
  have before : RegKept s a (r_DVT_CNT_LAG d) := set ▸ .of_keeps (dovSet_keeps s d isle)
  have island_ : dovGet b d = isle := by
    have twin : dovGet b = dovGet a := by unfold dovGet; rw [trail.same .twin]
    rw [twin, set, dovGet_dovSet_self]
  have counted : RegKept (bump a (r_DVT_CNT_LAG d)) b (r_DVT_CNT_LAG d) := traced ▸ trace_regKept _ _ _ _ _ _ _ untraced
  have row : exec (.openRecordExpire d x st seq) s = if lagDue isle b.time.ticks then
        .next (eventToManager (dovSet b d { isle with lagCount := 0, lagSent := some b.time.ticks }) 0x8903
          (toLe 1 (dovIsle d) ++ toLe 1 (1 - y.rail) ++ toLe 2 st ++ toLe 4 isle.lagCount))
      else .next b := by
    show execOpenRecordExpire d x st seq s = _
    unfold execOpenRecordExpire
    dsimp only
    rw [held]
    subst traced set expired
    rfl
  by_cases due : lagDue isle b.time.ticks = true
  · rw [if_pos due] at row
    obtain ⟨c, told⟩ : ∃ c, c = dovSet b d { isle with lagCount := 0, lagSent := some b.time.ticks } := ⟨_, rfl⟩
    rw [← told] at row
    have event := eventToManager_keeps c 0x8903 (toLe 1 (dovIsle d) ++ toLe 1 (1 - y.rail) ++ toLe 2 st ++ toLe 4 isle.lagCount)
    have last : ∀ t, t.twin = c.twin → dovGet t d = { isle with lagCount := 0, lagSent := some b.time.ticks } := fun t twin => by
      have same : dovGet t = dovGet c := by unfold dovGet; rw [twin]
      rw [same, told, dovGet_dovSet_self]
    refine completes_of row ⟨?_, ?_, Counted.of_bump before rfl ?_⟩
    · rw [last _ (event.same .twin), expired]
    · rw [last _ (event.same .twin), expired]
    · exact (counted.trans (told ▸ .of_keeps (dovSet_keeps b d _))).trans ((eventToManager_told _ _ _).regKept quiet)
  · rw [if_neg due] at row
    refine completes_of row ⟨?_, ?_, Counted.of_bump before rfl counted⟩
    · rw [island_, expired]
    · rw [island_, expired]

end

/-- Settles O49: the stage hands on one copy of each destination, and a point releases the first of two copies. -/
theorem dovetailReleasesOneCopyOfEach : Obligations.DovetailReleasesOneCopyOfEach := by
  unfold Obligations.DovetailReleasesOneCopyOfEach
  exact ⟨⟨fun s p k m there stage verdict alone may => fwdPort_handed there stage verdict alone may,
    fun s p k n q there stage verdict alone may => fwdHost_handed there stage verdict alone may,
    fun s p k bd there stage verdict alone may empty => flood_drops there stage verdict alone may empty,
    fun s p k v there verdict mayNot => exitOrderHandoff_waits there verdict mayNot⟩,
    fun d x st seq r g now new room later => dovArrive_first new room later,
    fun d alone x st seq r g now y held => dovArrive_second alone held,
    fun d x st seq r g now y new known early => dovArrive_late new known early,
    fun s d pl a named idle first => dovetailArrive_takes named idle first,
    fun s d pl a u first takes => dovetailStoreWaitEnd_takes first takes,
    fun s d x st seq y island held => openRecordExpire_lags island held⟩

end Sys2Proof.Machine
end

section
/-! PROOFS. Rails, Twin selection and PRP (R255, R269 to R273, R279 to R282, R298). -/
namespace Sys2Proof.Machine

open Sys2Proof

set_option Elab.async false

/-! The states of the two rails. -/

def railsOf (s : State) : RailState × RailState := (s.twin.railA, s.twin.railB)

section
variable {s t : State}

theorem railState_congr (same : railsOf t = railsOf s) (r : Nat) : railState t r = railState s r := by
  obtain ⟨a, b⟩ := Prod.mk.inj same
  unfold railState
  rw [a, b]

theorem railsOf_keeps {ps : List Part} (k : Keeps ps s t) (quiet : Part.twin ∉ ps := by decide) : railsOf t = railsOf s :=
  congrArg (fun x : Twin => (x.railA, x.railB)) (k.same .twin quiet)

theorem railState_railSet_self (s : State) (r : Nat) (x : RailState) : railState (railSet s r x) r = x := by
  unfold railState railSet
  split_ifs <;> rfl

theorem railState_railSet_other (s : State) {r : Nat} (x : RailState) (rail : r ≤ 1) : railState (railSet s r x) (1 - r) = railState s (1 - r) := by
  obtain rfl | rfl : r = 0 ∨ r = 1 := by omega
  · rfl
  · rfl

theorem endCopy_rails (s : State) (p : Nat) (k : Pkt) : railsOf (endCopy s p k) = railsOf s := by
  unfold endCopy
  extract_lets a b c d
  have started : Keeps [.jig, .plane] s a := .ite (.last (parseBankMod_keeps _ _ _) ((jigSlotMod_keeps _ _ _).mono (by decide))) .refl
  have finished : railsOf b = railsOf a := by unfold b; split <;> rfl
  calc railsOf c = railsOf (raspLeave b p k) := rfl
    _ = railsOf b := railsOf_keeps (raspLeave_keeps b p k)
    _ = railsOf s := finished.trans (railsOf_keeps started)

theorem dropPkt_rails (s : State) (p status : Nat) : railsOf (dropPkt s p status) = railsOf s := by
  unfold dropPkt
  split
  · exact (endCopy_rails _ p _).trans (railsOf_keeps (letGo_keeps s _ _ _))
  · rfl

theorem railLose_rails (rail : Nat) (a : State × Nat) (x : Nat × Pkt) : railsOf (railLose rail a x).1 = railsOf a.1 := by
  unfold railLose
  dsimp only
  split_ifs
  · rfl
  · exact (endCopy_rails _ _ _).trans (railsOf_keeps (letGo_keeps a.1 _ _ _))
  · rfl
  · exact dropPkt_rails _ _ _

theorem dovSet_rails (s : State) (d : Nat) (x : DovIsland) : railsOf (dovSet s d x) = railsOf s := by
  unfold dovSet railsOf
  dsimp only
  split_ifs <;> rfl

end

/-! A rail retires (R271). -/

/-- The state once the packets of a rail are lost, with their number. -/
def railLost (s : State) (r : Nat) : State × Nat := (railSet s r .retired).pkts.foldl (railLose r) (railSet s r .retired, 0)

/-- The state once the clusters, the points and the pairings of a rail are free of it. -/
def railCleared (s : State) (r : Nat) : State :=
  let u := (List.range 4).foldl (fun s d => dovSet s d (dovRetire r (dovGet s d))) (clearClusters (railLost s r).1 r)
  { u with cst := { u.cst with pairing := u.cst.pairing.filter (fun x => x.2 = .mark) },
           cry := { u.cry with pairing := u.cry.pairing.filter (fun x => x.2 = .mark) } }

/-- The state once Heartwood remembers that a rail is retired. -/
def railMarked (s : State) (r : Nat) : State := hwSetField (bumpBy (railCleared s r) r_DVT_CNT_RAIL_LOST (railLost s r).2) 0x020 r r 1

/-- The state once the retirements of a rail are counted. -/
def railCounted (s : State) (r : Nat) : State :=
  hwSetField (railMarked s r) 0x021 (16 * r + 15) (16 * r) (hwField (railMarked s r) 0x021 (16 * r + 15) (16 * r) + 1)

theorem retireRail_eq (s : State) (r code island cause : Nat) : retireRail s r code island cause =
    noteMode s (noteRetired (eventToManager (railCounted s r) 0x8900 (toLe 1 r ++ toLe 1 code ++ toLe 1 island ++ toLe 1 0 ++
      toLe 4 (railLost s r).2)) 0 cause r 0 6) 1 := rfl

theorem foldl_same_fst {α β γ : Type} (p : State → γ) {f : State × β → α → State × β} (step : ∀ a x, p (f a x).1 = p a.1) (l : List α) (a : State × β) :
    p (l.foldl f a).1 = p a.1 := by
  induction l generalizing a with
  | nil => rfl
  | cons x l ih => exact (ih (f a x)).trans (step a x)

section
variable (s : State) (r : Nat)

theorem railLost_rails : railsOf (railLost s r).1 = railsOf (railSet s r .retired) :=
  foldl_same_fst railsOf (railLose_rails r) _ _

theorem railLost_keeps : Keeps [.rings, .pkts, .basin, .plane, .rasp, .jig, .csc, .twin, .macs] s (railLost s r).1 :=
  .foldl_fst (fun _ _ h => railLose_keeps h) (.mono (railSet_keeps _ _ _))

theorem railCleared_rails : railsOf (railCleared s r) = railsOf (railSet s r .retired) := by
  have points := foldl_same railsOf (f := fun s d => dovSet s d (dovRetire r (dovGet s d))) (fun u d => dovSet_rails u d _) (List.range 4)
    (clearClusters (railLost s r).1 r)
  exact points.trans ((railsOf_keeps (clearClusters_keeps _ r)).trans (railLost_rails s r))

theorem railCounted_keeps : Keeps [.rings, .pkts, .basin, .plane, .rasp, .jig, .cst, .csc, .twin, .cry, .macs, .hw, .regs] s (railCounted s r) := by
  have cleared : Keeps [.rings, .pkts, .basin, .plane, .rasp, .jig, .cst, .csc, .twin, .cry, .macs, .hw, .regs] s (railCleared s r) :=
    .put rfl rfl rfl rfl rfl (.foldl (.last (clearClusters_keeps _ _) ((railLost_keeps s r).mono (by decide))) (fun _ _ => .mono (dovSet_keeps _ _ _)))
  exact .last (hwSetField_keeps _ _ _ _ _) (.last (hwSetField_keeps _ _ _ _ _) (.last (bumpBy_keeps _ _ _) cleared))

variable (code island cause : Nat)

/-- What is told of a retirement changes neither rails nor the words of Heartwood. -/
theorem retireRail_told : Told (railCounted s r) (retireRail s r code island cause) := by
  rw [retireRail_eq]
  exact ((eventToManager_told _ _ _).trans (noteRetired_told _ _ _ _ _ _)).trans (noteMode_told _ _ _)

theorem retireRail_started (ch : Nat) : (chanGet (retireRail s r code island cause) ch).started = (chanGet s ch).started :=
  ((retireRail_told s r code island cause).started ch).trans (startedOn_keeps (railCounted_keeps s r) ch)

theorem retireRail_rails : railsOf (retireRail s r code island cause) = railsOf (railSet s r .retired) := by
  rw [retireRail_eq]
  calc railsOf (noteMode s (noteRetired (eventToManager (railCounted s r) 0x8900 _) 0 cause r 0 6) 1) = railsOf (railCounted s r) :=
        (railsOf_keeps (noteMode_keeps _ _ _)).trans ((railsOf_keeps (noteRetired_keeps _ _ _ _ _ _)).trans (railsOf_keeps (eventToManager_keeps _ _ _)))
    _ = railsOf (railCleared s r) := (railsOf_keeps (hwSetField_keeps _ _ _ _ _)).trans
        ((railsOf_keeps (hwSetField_keeps _ _ _ _ _)).trans (railsOf_keeps (bumpBy_keeps (railCleared s r) _ _)))
    _ = railsOf (railSet s r .retired) := railCleared_rails s r

theorem railWord_kept {r : Nat} (rail : r ≤ 1) : (hwMask 0x020).testBit r = true := by
  obtain rfl | rfl : r = 0 ∨ r = 1 := by omega
  · rfl
  · rfl

theorem hwField_hwSetField_ne (s : State) {w x : Nat} (hi lo v hi' lo' : Nat) (other : x ≠ w) :
    hwField (hwSetField s w hi lo v) x hi' lo' = hwField s x hi' lo' := by
  unfold hwField hwSetField
  rw [hwWord_hwSet_ne s _ other]

/-- A rail that retires is RETIRED, the other is what it was, and Heartwood remembers it. -/
theorem retireRail_retires {r : Nat} (rail : r ≤ 1) : railState (retireRail s r code island cause) r = .retired ∧
    railState (retireRail s r code island cause) (1 - r) = railState s (1 - r) ∧ hwField (retireRail s r code island cause) 0x020 r r = 1 := by
  have rails := retireRail_rails s r code island cause
  refine ⟨?_, ?_, ?_⟩
  · rw [railState_congr rails, railState_railSet_self]
  · rw [railState_congr rails, railState_railSet_other s .retired rail]
  · rw [(retireRail_told s r code island cause).field _ _ (by decide) (by decide), railCounted, hwField_hwSetField_ne _ _ _ _ _ _ (by decide)]
    exact hwField_hwSetField_bit _ (by omega) (railWord_kept rail)

end

/-! Self-checks of the rails (R269). -/

/-- The state once a failed self-check is recorded. -/
def selfChecked (s : State) (rail code island unit : Nat) : State :=
  let s := setBits s r_DVT_RAIL_STATUS (BitVec.ofNat 32 (2 ^ (5 + rail)))
  let s := if s.twin.recoveryDone then s
    else errlog s 0x0151 island 0xFFFF 0 (toLe 1 (regField s (r_DVT_RAIL_CAUSE (1 - rail)) 7 0) ++ toLe 1 code)
  let s := capture s (r_DVT_RAIL_CAUSE rail) (code + 256 * island + 4096 * unit)
  if code = 3 then errlog s 0x0102 island 0xFFFF 0 (toLe 4 (code + 256 * island + 4096 * unit))
  else if code = 4 then errlog s 0x0103 island 0xFFFF 0 (toLe 1 unit ++ toLe 1 0xFF)
  else if code = 1 then errlog s 0x0104 island 0xFFFF 0 (toLe 1 0)
  else s

section
variable {s : State} {r code unit : Nat}

theorem selfCheckFail_eq (s : State) (rail code island unit : Nat) : selfCheckFail s rail code island unit =
    if 1 ≤ code ∧ code ≤ 4 ∧ railUp (selfChecked s rail code island unit) rail ∧ railUp (selfChecked s rail code island unit) (1 - rail)
    then retireRail (selfChecked s rail code island unit) rail code island 1 else selfChecked s rail code island unit := rfl

theorem selfChecked_keeps (s : State) (rail code island unit : Nat) :
    Keeps [.hw, .mbx, .ep0, .ep1, .gauge, .regs] s (selfChecked s rail code island unit) := by
  unfold selfChecked
  extract_lets a b c
  have logged : Keeps [.hw, .mbx, .ep0, .ep1, .gauge, .regs] s b :=
    .ite ((setBits_keeps s _ _).mono (by decide)) (.last (errlog_keeps _ _ _ _ _ _) ((setBits_keeps s _ _).mono (by decide)))
  have captured : Keeps [.hw, .mbx, .ep0, .ep1, .gauge, .regs] s c := .last (capture_keeps _ _ _) logged
  have then_ : ∀ code' data, Keeps [.hw, .mbx, .ep0, .ep1, .gauge, .regs] s (errlog c code' island 0xFFFF 0 data) := fun _ _ =>
    .last (errlog_keeps _ _ _ _ _ _) captured
  exact .ite (then_ _ _) (.ite (then_ _ _) (.ite (then_ _ _) captured))

theorem selfChecked_up (s : State) (rail code island unit r : Nat) : railUp (selfChecked s rail code island unit) r = railUp s r := by
  unfold railUp
  rw [railState_congr (railsOf_keeps (selfChecked_keeps s rail code island unit))]

theorem railUp_state {r : Nat} : railUp s r = true ↔ railState s r = .inService := decide_eq_true_iff

/-- A self-check of a rail in service is recorded, and may retire it. -/
theorem railSelfCheckFail_checks (rail : r ≤ 1) (first : 1 ≤ code) (last : code ≤ 4) (named : unit ≤ 5) (up : railUp s r = true) :
    exec (.railSelfCheckFail r code unit) s = .next (selfCheckFail s r code (if unit = 4 then 7 + r else 6) unit) := by
  have serves : railState s r ≠ .retired := by
    rw [railUp_state.mp up]
    exact RailState.noConfusion
  refine (rfl : exec (.railSelfCheckFail r code unit) s = execRailSelfCheckFail r code unit s).trans (if_neg ?_)
  rintro (a | b | c | d | e)
  · omega
  · omega
  · omega
  · omega
  · exact serves e

theorem railSelfCheckFail_retires (rail : r ≤ 1) (first : 1 ≤ code) (last : code ≤ 4) (named : unit ≤ 5) (upA : railUp s 0 = true)
    (upB : railUp s 1 = true) : Completes (.railSelfCheckFail r code unit) s (fun t =>
    railState t r = .retired ∧ railState t (1 - r) = .inService ∧ hwField t 0x020 r r = 1) := by
  have both : railUp s r = true ∧ railUp s (1 - r) = true := by
    obtain rfl | rfl : r = 0 ∨ r = 1 := by omega
    · exact ⟨upA, upB⟩
    · exact ⟨upB, upA⟩
  have up := selfChecked_up s r code (if unit = 4 then 7 + r else 6) unit
  refine completes_of (railSelfCheckFail_checks rail first last named both.1) ?_
  rw [selfCheckFail_eq, if_pos ⟨first, last, (up r).trans both.1, (up (1 - r)).trans both.2⟩]
  obtain ⟨retired, other, word⟩ := retireRail_retires (selfChecked s r code (if unit = 4 then 7 + r else 6) unit) code
    (if unit = 4 then 7 + r else 6) 1 rail
  exact ⟨retired, other.trans (railUp_state.mp ((up (1 - r)).trans both.2)), word⟩

theorem railSelfCheckFail_last (rail : r ≤ 1) (first : 1 ≤ code) (last : code ≤ 4) (named : unit ≤ 5) (up : railUp s r = true)
    (alone : railUp s (1 - r) = false) :
    Completes (.railSelfCheckFail r code unit) s (fun t => t.twin = s.twin ∧ t.pkts = s.pkts) := by
  have kept := selfChecked_keeps s r code (if unit = 4 then 7 + r else 6) unit
  refine completes_of (railSelfCheckFail_checks rail first last named up) ?_
  rw [selfCheckFail_eq, if_neg (fun ⟨_, _, _, other⟩ => Bool.false_ne_true (alone.symm.trans ((selfChecked_up _ _ _ _ _ _).symm.trans other)))]
  exact ⟨kept.same .twin, kept.same .pkts⟩

end

/-! The commands of the rails (R270 to R273, R298). -/

theorem railState_answer (u : State) (ch seq code : Nat) (body : Bytes) (r : Nat) : railState (answer u ch seq code body) r = railState u r :=
  railState_congr (congrArg (fun x : Twin => (x.railA, x.railB)) (answer_twin u ch seq code body)) r

theorem twinRailRetire_retires : AnswersOk .twinRailRetire 0x0901 (fun s _ req => byteAt req 0 ≤ 1 ∧ railUp s 0 = true ∧ railUp s 1 = true)
    (fun _ _ _ => []) (fun _ t _ req => railState t (byteAt req 0) = .retired ∧ hwField t 0x020 (byteAt req 0) (byteAt req 0) = 1) := by
  refine answersOk_of_command (row := fun s ch seq => (rfl : execTwinRailRetire ch seq s = _)) (fun s ch seq req ⟨rail, upA, upB⟩ => ?_)
  obtain ⟨retired, -, word⟩ := retireRail_retires s 0 0 0 rail
  refine ⟨retireRail s (byteAt req 0) 0 0 0, ?_, retireRail_started s _ 0 0 0 ch, (railState_answer _ _ _ _ _ _).trans retired,
    (hwField_answer _ _ _ _ _ _ _ _).trans word⟩
  obtain zero | one : byteAt req 0 = 0 ∨ byteAt req 0 = 1 := by omega
  · dsimp only
    rw [zero, if_neg (by simp [upA, upB])]
  · dsimp only
    rw [one, if_neg (by simp [upA, upB])]

theorem twinRailRestore_restores : RunsLater .twinRailRestore 0x0902 (fun s _ req => byteAt req 0 ≤ 1 ∧ railState s (byteAt req 0) = .retired)
    (fun s t ch seq req => railState t (byteAt req 0) = .restoring ∧ t.twin.restore = some (byteAt req 0, ch, seq) ∧
      t.twin.recoveryDone = false ∧ ChangesOnly [.mbx, .twin] s t) := by
  intro s ch seq req begun ⟨rail, retired⟩
  obtain ⟨a, set⟩ : ∃ a, a = railSet s (byteAt req 0) .restoring := ⟨_, rfl⟩
  obtain ⟨b, restores⟩ : ∃ b, b = { a with twin := { a.twin with recoveryDone := false, restore := some (byteAt req 0, ch, seq) } } := ⟨_, rfl⟩
  have mbx : b.mbx = s.mbx := by rw [restores, set]; rfl
  have state : railState b (byteAt req 0) = .restoring := by
    rw [restores, set]
    exact railState_railSet_self s _ .restoring
  have only : ChangesOnly [.mbx, .twin] s b := by
    rw [restores, set]
    exact .of_patch rfl
  refine completes_command begun (rfl : execTwinRailRestore ch seq s = _) ?_
  dsimp only
  rw [if_neg (fun wrong => wrong.elim (by omega) (· retired)), ← set, ← restores]
  refine ⟨defer_runs (begun.of_mbx mbx), ?_, ?_, ?_, only.step ((defer_keeps _ _ _).frame.mono (by decide))⟩
  · rw [railState_congr (railsOf_keeps (defer_keeps b ch seq)), state]
  · rw [defer_twin, restores]
  · rw [defer_twin, restores]

section
variable {s : State} {r ch seq : Nat} (restoring : s.twin.restore = some (r, ch, seq))
include restoring

theorem railRejoin_rejoins (rail : r ≤ 1) : Completes (.railRejoin r) s (fun t => railState t r = .inService ∧
    t.twin.restore = none ∧ t.twin.recoveryDone = true ∧ hwField t 0x020 r r = 0 ∧ (Unanswered s ch seq → Answered t ch seq rcOk (zeros 4))) := by
  obtain ⟨a, set⟩ : ∃ a, a = hwSetField (railSet s r .inService) 0x020 r r 0 := ⟨_, rfl⟩
  obtain ⟨b, recovered⟩ : ∃ b, b = { a with twin := { a.twin with recoveryDone := true, restore := none } } := ⟨_, rfl⟩
  obtain ⟨c, told⟩ : ∃ c, c = noteMode s (eventToManager (startClusters b r) 0x8901 (toLe 1 r ++ zeros 3)) 0 := ⟨_, rfl⟩
  have row : exec (.railRejoin r) s = .next (answer c ch seq rcOk (zeros 4)) := by
    show execRailRejoin r s = _
    unfold execRailRejoin
    rw [restoring]
    dsimp only
    rw [if_neg (fun other => other rfl), ← set, ← recovered, ← told]
  have after : Told b c := told ▸ (Told.last (startClusters_keeps b r) (.refl b)).trans ((eventToManager_told _ _ _).trans (noteMode_told _ _ _))
  have twin : c.twin = b.twin := by
    rw [told, (noteMode_keeps _ _ _).same .twin, (eventToManager_keeps _ _ _).same .twin, (startClusters_keeps b r).same .twin]
  have word : hwField b 0x020 r r = 0 := by
    rw [recovered, set]
    refine hwField_hwSetField (railSet s r .inService) (by omega) (fun i low high => ?_) (by simp)
    obtain rfl : i = r := by omega
    exact railWord_kept rail
  refine completes_of row ⟨?_, ?_, ?_, ?_, fun waits => ?_⟩
  · rw [railState_answer, railState_congr (congrArg (fun x : Twin => (x.railA, x.railB)) twin), recovered, set]
    exact railState_railSet_self s r .inService
  · rw [answer_twin, twin, recovered]
  · rw [answer_twin, twin, recovered]
  · rw [hwField_answer, after.field _ _ (by decide) (by decide), word]
  · exact answer_answered _ _ ((waits.same (by rw [recovered, set]; rfl)).told after)

theorem restoreSelfTestFail_retires (unit : Nat) : Completes (.restoreSelfTestFail r unit) s (fun t =>
    railState t r = .retired ∧ t.twin.restore = none ∧ (Unanswered s ch seq → Answered t ch seq rcNotPermitted (toLe 4 unit)) ∧
    ChangesOnly [.mbx, .fw, .gauge, .regs, .twin] s t) := by
  obtain ⟨a, set⟩ : ∃ a, a = railSet s r .retired := ⟨_, rfl⟩
  obtain ⟨b, ended⟩ : ∃ b, b = { a with twin := { a.twin with recoveryDone := true, restore := none } } := ⟨_, rfl⟩
  have row : exec (.restoreSelfTestFail r unit) s = .next (answer b ch seq rcNotPermitted (toLe 4 unit)) := by
    show execRestoreSelfTestFail r unit s = _
    unfold execRestoreSelfTestFail
    rw [restoring]
    dsimp only
    rw [if_neg (fun other => other rfl), ← set, ← ended]
  have mbx : b.mbx = s.mbx := by rw [ended, set]; rfl
  have only : ChangesOnly [.mbx, .fw, .gauge, .regs, .twin] s b := by
    rw [ended, set]
    exact .of_patch rfl
  refine completes_of row ⟨?_, ?_, fun waits => answer_answered _ _ (waits.same mbx), only.step ((answer_changes b ch seq _ _).mono (by decide))⟩
  · rw [railState_answer, ended, set]
    exact railState_railSet_self s r .retired
  · rw [answer_twin, ended]

end

theorem twinStatus_answers : AnswersOk .twinStatus 0x0900 (fun _ _ _ => True)
    (fun s _ _ => toLe 4 (railCode s.twin.railA + 4 * railCode s.twin.railB +
        16 * b2n s.twin.recoveryDone + 32 * regField s r_DVT_RAIL_STATUS 6 5) ++
      toLe 4 (reg s (r_DVT_RAIL_CAUSE 0)).toNat ++ toLe 4 (reg s (r_DVT_RAIL_CAUSE 1)).toNat ++
      toLe 2 (hwField s 0x021 15 0) ++ toLe 2 (hwField s 0x021 31 16) ++ zeros 4) (fun s t ch _ => AnswerFrame [] s t ch) :=
  answersOk_query (fun s ch seq => (rfl : execTwinStatus ch seq s = _)) (fun _ _ _ _ _ => rfl)

/-! Twin selection and PRP (R255, R279 to R282). -/

theorem twinSel_apart {m : Nat} (mac : m ≤ 15) : r_DVT_TWIN_SEL0 m ≠ r_DVT_TWIN_SEL1 m ∧ r_DVT_TWIN_SEL0 m ≠ r_GAU_TRACE_STATUS ∧
    r_DVT_TWIN_SEL1 m ≠ r_GAU_TRACE_STATUS := by
  unfold r_DVT_TWIN_SEL0 r_DVT_TWIN_SEL1 r_GAU_TRACE_STATUS
  omega

theorem twinSelSet_sets : AnswersOk .twinSelSet 0x0903 (fun _ _ req => byteAt req 0 ≤ 15 ∧ le req 2 2 ≤ 4095 ∧ le req 4 2 ≤ 4095) (fun _ _ _ => [])
    (fun s t _ req => reg t (r_DVT_TWIN_SEL0 (byteAt req 0)) = BitVec.ofNat 32 (byteAt req 1) ∧
      reg t (r_DVT_TWIN_SEL1 (byteAt req 0)) = BitVec.ofNat 32 (le req 2 2 + 65536 * le req 4 2) ∧
      (∀ a, a ≠ r_DVT_TWIN_SEL0 (byteAt req 0) → a ≠ r_DVT_TWIN_SEL1 (byteAt req 0) → a ≠ r_GAU_TRACE_STATUS → reg t a = reg s a) ∧
      ChangesOnly answerParts s t) := by
  refine answersOk_set (row := fun s ch seq => (rfl : execTwinSelSet ch seq s = _)) (fun s ch seq req ⟨mac, low, high⟩ => ?_)
  obtain ⟨apart, untraced0, untraced1⟩ := twinSel_apart mac
  obtain ⟨a, first⟩ : ∃ a, a = setReg s (r_DVT_TWIN_SEL0 (byteAt req 0)) (BitVec.ofNat 32 (byteAt req 1)) := ⟨_, rfl⟩
  obtain ⟨b, second⟩ : ∃ b, b = setReg a (r_DVT_TWIN_SEL1 (byteAt req 0)) (BitVec.ofNat 32 (le req 2 2 + 65536 * le req 4 2)) := ⟨_, rfl⟩
  refine ⟨b, ?_, by rw [second, first]; rfl, ?_, ?_, fun x other0 other1 untraced => ?_, ?_⟩
  · dsimp only
    rw [if_neg (by omega), ← first, ← second]
  · rw [reg_answer _ _ _ _ _ untraced0, second, reg_setReg_ne _ _ apart, first, reg_setReg_self]
  · rw [reg_answer _ _ _ _ _ untraced1, second, reg_setReg_self]
  · rw [reg_answer _ _ _ _ _ untraced, second, reg_setReg_ne _ _ other1, first, reg_setReg_ne _ _ other0]
  · exact (show ChangesOnly answerParts s b by rw [second, first]; exact (Keeps.last (setReg_keeps _ _ _) (setReg_keeps s _ _)).frame.mono (by decide)).step
      (answer_changes _ _ _ _ _)

theorem prpPair_apart {i : Nat} (pair : i ≤ 7) : r_DVT_PRP_PAIR i ≠ r_DVT_PRP_FORGET i ∧ r_DVT_PRP_PAIR i ≠ r_GAU_TRACE_STATUS := by
  unfold r_DVT_PRP_PAIR r_DVT_PRP_FORGET r_GAU_TRACE_STATUS
  omega

theorem prpPairSet_sets : AnswersOk .prpPairSet 0x0910 (fun s _ req => byteAt req 0 ≤ 7 ∧ byteAt req 1 ≤ 15 ∧ byteAt req 2 ≤ 15 ∧
      (bitAt (byteAt req 3) 0 = true →
      byteAt req 1 < 8 ∧ 8 ≤ byteAt req 2 ∧ macUsed s (byteAt req 1) = true ∧ macUsed s (byteAt req 2) = true ∧
      macRate s (byteAt req 1) = macRate s (byteAt req 2) ∧ prpTaken s (byteAt req 0) (byteAt req 1) = false ∧
      prpTaken s (byteAt req 0) (byteAt req 2) = false)) (fun _ _ _ => [])
    (fun s t _ req => reg t (r_DVT_PRP_PAIR (byteAt req 0)) =
        BitVec.ofNat 32 (byteAt req 1 + 16 * byteAt req 2 + 256 * (byteAt req 3 % 4)) ∧
      (∀ a, a ≠ r_DVT_PRP_PAIR (byteAt req 0) → a ≠ r_DVT_PRP_FORGET (byteAt req 0) → a ≠ r_GAU_TRACE_STATUS → reg t a = reg s a) ∧
      ChangesOnly answerParts s t) := by
  refine answersOk_set (row := fun s ch seq => (rfl : execPrpPairSet ch seq s = _)) (fun s ch seq req ⟨pair, macA, macB, enables⟩ => ?_)
  obtain ⟨apart, untraced⟩ := prpPair_apart pair
  obtain ⟨forget, hforget⟩ : ∃ f, f = (if le req 4 2 = 0 then bits (reg s (r_DVT_PRP_FORGET (byteAt req 0))).toNat 15 0 else le req 4 2) +
    65536 * (if le req 6 2 = 0 then bits (reg s (r_DVT_PRP_FORGET (byteAt req 0))).toNat 31 16 else le req 6 2) := ⟨_, rfl⟩
  obtain ⟨a, first⟩ : ∃ a, a = setReg s (r_DVT_PRP_PAIR (byteAt req 0))
    (BitVec.ofNat 32 (byteAt req 1 + 16 * byteAt req 2 + 256 * (byteAt req 3 % 4))) := ⟨_, rfl⟩
  obtain ⟨b, second⟩ : ∃ b, b = setReg a (r_DVT_PRP_FORGET (byteAt req 0)) (BitVec.ofNat 32 forget) := ⟨_, rfl⟩
  refine ⟨b, ?_, by rw [second, first]; rfl, ?_, fun x other0 other1 untraced => ?_, ?_⟩
  · dsimp only
    rw [if_neg, ← first, ← hforget, ← second]
    rintro (far | ⟨on, wrong⟩ | far | far)
    · omega
    · obtain ⟨lowA, highB, usedA, usedB, rate, freeA, freeB⟩ := enables on
      refine wrong ?_
      rw [usedA, usedB, freeA, freeB, rate, decide_eq_true lowA, decide_eq_true (show 8 ≤ byteAt req 2 ∧ byteAt req 2 < 16 by omega), decide_eq_true rfl]
      rfl
    · omega
    · omega
  · rw [reg_answer _ _ _ _ _ untraced, second, reg_setReg_ne _ _ apart, first, reg_setReg_self]
  · rw [reg_answer _ _ _ _ _ untraced, second, reg_setReg_ne _ _ other1, first, reg_setReg_ne _ _ other0]
  · exact (show ChangesOnly answerParts s b by rw [second, first]; exact (Keeps.last (setReg_keeps _ _ _) (setReg_keeps s _ _)).frame.mono (by decide)).step
      (answer_changes _ _ _ _ _)

/-- An entry of the PRP node table as it is read (R282). -/
def prpEntry (s : State) (i : Nat) : Bytes :=
  match s.prp.nodes[i]? with
  | some e => fit e.mac 6 ++ toLe 1 e.pair ++ zeros 1 ++ toLe 2 e.hi ++ zeros 2 ++ toLe 4 ((s.time.ticks - e.lastUse) / 1000000)
  | none => zeros 16

theorem prpNodeRead_answers : AnswersOk .prpNodeRead 0x0911 (fun _ _ req => 1 ≤ le req 2 2 ∧ le req 2 2 ≤ 15)
    (fun s _ req => fit req 4 ++ (List.range (le req 2 2)).flatMap (fun i => prpEntry s (le req 0 2 + i))) (fun s t ch _ => AnswerFrame [] s t ch) :=
  answersOk_query (fun s ch seq => (rfl : execPrpNodeRead ch seq s = _)) (fun s ch seq req inRange => if_neg (by omega))

theorem prpNodeForget_forgets (s : State) (mac : Bytes) (pair : Nat) : Completes (.prpNodeForget mac pair) s (fun t =>
    (∀ n, n ∈ t.prp.nodes ↔ n ∈ s.prp.nodes ∧ ¬ (n.mac = mac ∧ n.pair = pair)) ∧ t.prp.txSeq = s.prp.txSeq ∧ ChangesOnly [.prp] s t) := by
  refine completes_of (rfl : execPrpNodeForget mac pair s = _) ⟨fun n => ?_, rfl, .of_patch rfl⟩
  dsimp only
  rw [List.mem_filter, Bool.not_eq_true', Bool.and_eq_false_iff, decide_eq_false_iff_not, decide_eq_false_iff_not, not_and_or]

/-- Settles O50, one lemma for each event and each command. -/
theorem railsRetireRejoinAndAreSelected : Obligations.RailsRetireRejoinAndAreSelected := by
  unfold Obligations.RailsRetireRejoinAndAreSelected
  exact ⟨⟨fun s r code u rail first last named upA upB => railSelfCheckFail_retires rail first last named upA upB,
    fun s r code u rail first last named up alone => railSelfCheckFail_last rail first last named up alone,
    twinRailRetire_retires, twinRailRestore_restores, fun s r ch seq restoring rail => railRejoin_rejoins restoring rail,
    fun s r ch seq unit restoring _ => restoreSelfTestFail_retires restoring unit, twinStatus_answers⟩,
    twinSelSet_sets, prpPairSet_sets, prpNodeRead_answers, fun s mac pair => prpNodeForget_forgets s mac pair⟩

end Sys2Proof.Machine
end

section
/-! PROOFS. Flits, heartbeats and the ACT interlock of the Itwin pair (R285 to R293, R296, R297). -/
namespace Sys2Proof.Machine

open Sys2Proof

set_option Elab.async false

/-! What the steps of the interlock do to the pair's record. -/

section
variable (s : State)

/-- The record after the grant is set: a grant ends a split, an offer and the row of collisions. -/
def granted (w : Itwin) (g : Bool) : Itwin :=
  if w.grant = g then w
  else { w with grant := g, collisions := if g then 0 else w.collisions, split := w.split && !g, offered := w.offered && !g }

theorem setGrant_itw (g : Bool) : (setGrant s g).itw = granted s.itw g := by
  unfold setGrant granted
  split
  · rfl
  · rw [(eventToManager_keeps _ _ _).same .itw, (noteMode_keeps _ _ _).same .itw, (traceAct_keeps _).same .itw]

theorem granted_true (w : Itwin) : (granted w true).grant = true ∧ (granted w true).actOut = w.actOut := by
  unfold granted
  split
  · next held => exact ⟨held, rfl⟩
  · exact ⟨rfl, rfl⟩

/-- Losing the grant changes nothing else. -/
theorem granted_false (w : Itwin) : granted w false = { w with grant := false } := by
  unfold granted
  split
  · next none => rw [← none]
  · simp

/-- The lines follow what the adapter sends and requests, and the grant goes with ITW_ACT_OUT. -/
theorem itwLines_itw : ∃ al, (s.itw.alive = false → al = false) ∧ (itwLines s).itw =
    { s.itw with released := itwSending s, alive := al, actOut := actOutLevel s, grant := actOutLevel s && s.itw.grant } := by
  unfold itwLines
  extract_lets rel out w a w' b
  have released : ∃ al, (s.itw.alive = false → al = false) ∧ a.itw = { s.itw with released := rel, alive := al } := by
    unfold a
    split
    · next same => exact ⟨s.itw.alive, id, by rw [← same]⟩
    · exact ⟨s.itw.alive && rel, fun low => by rw [low]; rfl, rfl⟩
  obtain ⟨al, low, released⟩ := released
  have asserted : b.itw = { a.itw with actOut := out } := by
    unfold b
    split
    · next same => rw [← same]
    · rw [(emit_keeps _ _).same .itw, (traceAct_keeps _).same .itw]
  refine ⟨al, low, ?_⟩
  show (if out = true then b else setGrant b false).itw = { s.itw with released := rel, alive := al, actOut := out, grant := out && s.itw.grant }
  by_cases asserts : out = true
  · rw [if_pos asserts, asserted, released, asserts]
    rfl
  · rw [if_neg asserts, setGrant_itw, granted_false, asserted, released, Bool.eq_false_iff.mpr asserts]
    rfl

/-- Of a request, or its end, the lines follow. -/
theorem setActReq_itw (b : Bool) : ∃ al, (s.itw.alive = false → al = false) ∧ (setActReq s b).itw =
    { s.itw with
      actReq := b, released := itwSending s, alive := al, actOut := itwSending s && b, grant := itwSending s && b && s.itw.grant } :=
  itwLines_itw { s with itw := { s.itw with actReq := b } }

/-- A request that may be made. -/
theorem requestRole_requests (sends : itwSending s = true) (idle : s.itw.actIn = false) (free : s.itw.grant = false) (few : s.itw.collisions < 16) :
    (requestRole s).itw.actReq = true ∧ (requestRole s).itw.actOut = true ∧ (requestRole s).itw.offered = false := by
  have asks : requestRole s = setActReq { s with itw := { s.itw with offered := false } } true := by
    unfold requestRole
    rw [sends, idle, free, decide_eq_true few]
    rfl
  obtain ⟨al, -, lines⟩ := setActReq_itw { s with itw := { s.itw with offered := false } } true
  rw [asks, lines]
  exact ⟨rfl, show (itwSending s && true) = true by rw [sends]; rfl, rfl⟩

/-- A request leaves the link, its partner and its loss as they are. -/
theorem requestRole_leaves : (requestRole s).itw.lost = s.itw.lost ∧ (requestRole s).itw.linkUp = s.itw.linkUp ∧
    (requestRole s).itw.partner = s.itw.partner ∧ (s.itw.alive = false → (requestRole s).itw.alive = false) := by
  unfold requestRole
  split
  · obtain ⟨al, low, lines⟩ := setActReq_itw { s with itw := { s.itw with offered := false } } true
    rw [lines]
    exact ⟨rfl, rfl, rfl, low⟩
  · exact ⟨rfl, rfl, rfl, id⟩

theorem mirrorNoReady_itw : (mirrorNoReady s).itw = s.itw := by
  unfold mirrorNoReady
  split
  · rfl
  next c held =>
  split
  · next own =>
    unfold commitFails
    extract_lets u a
    rw [if_neg own.2.1, answer_itw, (slotRelease_keeps _ _).same .itw]
    rfl
  · rfl

/-- The link is down, and of the pair's record nothing else is lost but what was in flight. -/
theorem itwLinkDown_leaves : (itwLinkDown s).itw.lost = s.itw.lost ∧ (itwLinkDown s).itw.linkUp = false ∧
    (itwLinkDown s).itw.partner = s.itw.partner ∧ (itwLinkDown s).itw.alive = s.itw.alive := by
  unfold itwLinkDown
  split
  · rw [mirrorNoReady_itw]
    exact ⟨rfl, rfl, rfl, rfl⟩
  · next down => exact ⟨rfl, Bool.eq_false_iff.mpr down, rfl, rfl⟩

theorem itwSend_itw (type : Nat) (body : Bytes) : ∃ tx r, (itwSend s type body).itw = { s.itw with txSeq := tx, replay := r } := by
  unfold itwSend itwSendAll
  split
  · rw [List.foldl_cons, List.foldl_nil, (trace_keeps _ _ _ _ _ _ _).same .itw, (emit_keeps _ _).same .itw]
    exact ⟨_, _, rfl⟩
  · exact ⟨_, _, rfl⟩

end

/-! Registers that the steps of the pair leave alone. -/

section
variable {s : State} {a : Nat}

theorem Counted.later {b t : State} {n : Nat} (counts : Counted s b a n) (kept : RegKept b t a) : Counted s t a n := by
  unfold Counted at counts ⊢
  rw [kept.counter, counts]

theorem Counted.since {b t : State} {n : Nat} (kept : RegKept s b a) (counts : Counted b t a n) : Counted s t a n := by
  unfold Counted at counts ⊢
  rw [counts, kept.counter]

theorem slotRelease_regKept (s : State) (slot : Nat) : RegKept s (slotRelease s slot) a := .of_keeps (slotRelease_keeps _ _)

theorem mirrorNoReady_regKept (s : State) (untraced : a ≠ r_GAU_TRACE_STATUS) : RegKept s (mirrorNoReady s) a := by
  unfold mirrorNoReady
  split
  · exact .of_regs rfl
  next c held =>
  split
  · next own =>
    unfold commitFails
    extract_lets _ v
    have released : RegKept s v a := (slotRelease_regKept _ _ : RegKept _ v a)
    rw [if_neg own.2.1]
    exact released.trans (answer_regKept _ _ _ _ _ untraced)
  · exact .of_regs rfl

theorem itwLinkDown_regKept (s : State) (untraced : a ≠ r_GAU_TRACE_STATUS) : RegKept s (itwLinkDown s) a := by
  unfold itwLinkDown
  split
  · exact (RegKept.of_regs rfl).trans (mirrorNoReady_regKept _ untraced)
  · exact .of_regs rfl

theorem requestRole_regKept (s : State) (quiet : Unreported a) : RegKept s (requestRole s) a := by
  unfold requestRole
  split
  · exact (RegKept.of_regs rfl).trans ((itwLines_told _).regKept quiet.1)
  · exact .of_regs rfl

end

/-! Flits and heartbeats (R285 to R288). -/

section
variable {s : State}

theorem flitRx_delivers {seq : BitVec 16} (ack : BitVec 16) (body : Bytes) (up : s.itw.linkUp = true) (enabled : s.itw.enable = true)
    (next : seq = s.itw.rxSeq) : exec (.flitRx seq ack false true body) s =
    .next (onItwMessages 61 { s with itw := { s.itw with rxSeq := seq + 1 } } (fit body 244)) := by
  show execFlitRx seq ack false true body s = _
  simp [execFlitRx, up, enabled, next]

theorem onItwMessages_padding (s : State) {b : Bytes} (zero : ∀ i < 4, byteAt b i = 0) : onItwMessages 61 s b = s := by
  unfold onItwMessages
  exact if_pos (.inr ⟨zero 0 (by decide), zero 1 (by decide)⟩)

theorem flitCrc_quiet : Unreported r_ITW_CNT_FLIT_CRC := by unfold Unreported EventReg; decide

theorem flitRx_refuses (seq ack : BitVec 16) (nak : Bool) (body : Bytes) (up : s.itw.linkUp = true) (enabled : s.itw.enable = true) :
    Completes (.flitRx seq ack nak false body) s (fun t => Emits s t [.itwNak] ∧ Counted s t r_ITW_CNT_FLIT_CRC 1 ∧ t.itw.rxSeq = s.itw.rxSeq) := by
  refine completes_of (t := flitBad s) ?_ ?_
  · show execFlitRx seq ack nak false body s = _
    unfold execFlitRx
    rw [up, enabled]
    rfl
  · unfold flitBad
    extract_lets a fresh n w b
    have naks : Emits s b [.itwNak] := emit_emits .itwNak ((bump_keeps s _).same .out)
    have itw : a.itw = s.itw := ((emit_keeps _ _).same .itw).trans ((bump_keeps s _).same .itw)
    have seq : b.itw.rxSeq = s.itw.rxSeq := (congrArg Itwin.rxSeq itw : a.itw.rxSeq = s.itw.rxSeq)
    have counts : Counted s b r_ITW_CNT_FLIT_CRC 1 := counted_bump s _
    split
    · have log := errlog_keeps b 0x0160 13 0xFFFF 0 (toLe 4 n)
      refine ⟨(log.same .out).trans naks, ?_, (congrArg Itwin.rxSeq (log.same .itw)).trans seq⟩
      exact counts.later ((errlog_told b 0x0160 13 0xFFFF 0 (toLe 4 n)).regKept flitCrc_quiet.1)
    · exact ⟨naks, counts, seq⟩

theorem heartbeat_notes {id : Dword} {rank mode act version learned : Nat} {digest count : Word} {mirroring : Bool} {p : Partner}
    (up : s.itw.linkUp = true) (enabled : s.itw.enable = true)
    (carries : p = partnerOf s id rank mode act version digest mirroring learned count) (undue : s.itw.compareDue = false)
    (same : s.itw.partner.seen = true → s.itw.partner.dieId = id) (sees : bitAt act 1 = true → s.itw.actIn = true) (ranks : rank ≠ s.itw.rank) :
    exec (.heartbeat id rank mode act version digest mirroring learned count) s = .next { s with
      itw := { s.itw with partner := p, lost := false, alive := s.itw.released, rankConflict := false }
      jig := { s.jig with partnerEn := mirroring } } := by
  subst carries
  have known : ¬ (s.itw.partner.seen = true ∧ s.itw.partner.dieId ≠ id) := fun ⟨seen, other⟩ => other (same seen)
  have agreed : (bitAt act 1 && !s.itw.actIn) = false := by
    cases claims : bitAt act 1 with
    | false => rfl
    | true => rw [sees claims]; rfl
  refine Eq.trans (b := .next (onHeartbeat s (partnerOf s id rank mode act version digest mirroring learned count))) rfl (congrArg Host.Outcome.next ?_)
  unfold onHeartbeat partnerOf
  dsimp only
  rw [up, enabled, decide_eq_false ranks, if_neg known, agreed, undue]
  rfl

theorem heartbeatSend_sends (sends : itwSending s = true) (up : s.itw.linkUp = true) :
    Completes .heartbeatSend s (fun t => Emits s t [.itwMsg 0x01 (heartbeatBody s)] ∧
    t.itw.hbCount = s.itw.hbCount + 1 ∧ t.itw.txSeq = s.itw.txSeq + 1) := by
  obtain ⟨body, hbody⟩ : ∃ b, b = heartbeatBody s := ⟨_, rfl⟩
  obtain ⟨a, queued⟩ : ∃ a, a = { s with itw := { s.itw with
    txSeq := s.itw.txSeq + 1
    replay := (s.itw.replay ++ [(s.itw.txSeq, itwBytes 1 body)]).drop ((s.itw.replay ++ [(s.itw.txSeq, itwBytes 1 body)]).length - 256) } } := ⟨_, rfl⟩
  obtain ⟨b, sent⟩ : ∃ b, b = trace (emit a (.itwMsg 1 body)) 37 1 0 0xFFF 0 (toLe 1 1 ++ toLe 1 (itwLen body.length)) := ⟨_, rfl⟩
  have send : itwSend s 1 body = b := by
    rw [sent, queued]
    exact if_pos up
  have itw : b.itw = a.itw := by rw [sent, (trace_keeps _ _ _ _ _ _ _).same .itw, (emit_keeps _ _).same .itw]
  have row : exec .heartbeatSend s = .next { b with itw := { b.itw with hbCount := b.itw.hbCount + 1 } } := by
    show execHeartbeatSend s = _
    unfold execHeartbeatSend
    rw [if_pos sends, ← hbody, send]
  refine completes_of row ⟨?_, ?_, ?_⟩
  · rw [← hbody]
    have emits : Emits s (emit a (.itwMsg 1 body)) [.itwMsg 1 body] := emit_emits _ (by rw [queued])
    have traced : b.out = (emit a (.itwMsg 1 body)).out := sent ▸ (trace_keeps _ _ _ _ _ _ _).same .out
    exact traced.trans emits
  · show b.itw.hbCount + 1 = _
    rw [itw, queued]
  · show b.itw.txSeq = _
    rw [itw, queued]

theorem pipelineStallDetect_stalls (waits : s.pkts.any (fun x => x.2.stage = .start) = true) :
    Completes .pipelineStallDetect s (fun t => t.itw.stalled = true ∧ t.itw.released = false ∧ t.itw.actOut = false ∧ t.itw.grant = false) := by
  obtain ⟨al, -, lines⟩ := itwLines_itw { s with itw := { s.itw with stalled := true } }
  have silent : itwSending { s with itw := { s.itw with stalled := true } } = false := Bool.and_false _
  have out : actOutLevel { s with itw := { s.itw with stalled := true } } = false := by
    unfold actOutLevel
    rw [silent]
    rfl
  refine completes_of (t := itwLines { s with itw := { s.itw with stalled := true } }) (if_pos waits) ?_
  rw [lines, silent, out]
  exact ⟨rfl, rfl, rfl, rfl⟩

/-- The partner is lost: the link is down and the partner unseen. -/
theorem partnerLost_loses (cause : Nat) (sends : itwSending s = true) (known : s.itw.lost = false) : (partnerLost s cause).itw.lost = true ∧
    (partnerLost s cause).itw.linkUp = false ∧ (partnerLost s cause).itw.partner.seen = false ∧
    (s.itw.alive = false → (partnerLost s cause).itw.alive = false) := by
  unfold partnerLost
  rw [known, sends, if_neg (show ¬ (false || !true) = true by decide)]
  extract_lets w p a b
  obtain ⟨lost, down, partner, alive⟩ := itwLinkDown_leaves
    (setBits { s with itw := { s.itw with lost := true, partner := { s.itw.partner with seen := false } } } r_ITW_STATUS 0x20#32)
  have itw : b.itw = a.itw := (eventToManager_keeps _ _ _).same .itw
  have all : b.itw.lost = true ∧ b.itw.linkUp = false ∧ b.itw.partner.seen = false ∧ (s.itw.alive = false → b.itw.alive = false) := by
    rw [itw]
    exact ⟨lost, down, congrArg Partner.seen partner, fun low => alive.trans low⟩
  split
  · exact all
  · split
    · rw [(eventToManager_keeps _ _ _).same .itw]
      exact all
    · obtain ⟨lost', link', partner', alive'⟩ := requestRole_leaves b
      obtain ⟨lostB, downB, seenB, aliveB⟩ := all
      exact ⟨lost'.trans lostB, link'.trans downB, (congrArg Partner.seen partner').trans seenB, fun low => alive' (aliveB low)⟩

theorem missed_quiet : Unreported r_ITW_CNT_HB_MISSED := by unfold Unreported EventReg; decide

theorem partnerLost_regKept (s : State) (cause : Nat) : RegKept s (partnerLost s cause) r_ITW_CNT_HB_MISSED := by
  unfold partnerLost
  split
  · exact .of_regs rfl
  extract_lets w p a b
  have marked : RegKept s a r_ITW_CNT_HB_MISSED :=
    (RegKept.of_regs rfl).trans ((setReg_regKept _ _ (by decide)).trans (itwLinkDown_regKept _ missed_quiet.untraced))
  have told : RegKept s b r_ITW_CNT_HB_MISSED := marked.trans (eventToManager_regKept _ _ _ missed_quiet)
  split
  · exact told
  · split
    · exact told.trans (.trans (t := { b with itw := { b.itw with split := true } }) (.of_regs rfl) (eventToManager_regKept _ _ _ missed_quiet))
    · exact told.trans (requestRole_regKept _ missed_quiet)

theorem heartbeatMissLimit_loses (sends : itwSending s = true) (known : s.itw.lost = false) :
    Completes .heartbeatMissLimit s (fun t => t.itw.lost = true ∧ t.itw.linkUp = false ∧
    t.itw.partner.seen = false ∧ Counted s t r_ITW_CNT_HB_MISSED s.itw.missLimit) := by
  obtain ⟨u, counted⟩ : ∃ u, u = bumpBy s r_ITW_CNT_HB_MISSED s.itw.missLimit := ⟨_, rfl⟩
  have counts : Counted s u r_ITW_CNT_HB_MISSED s.itw.missLimit := counted ▸ mapGetD_mapSet_self _ _ _ _
  have keeps : Keeps [.regs] s u := counted ▸ bumpBy_keeps s _ _
  have sends' : itwSending u = true := counted ▸ sends
  obtain ⟨lost, down, seen, -⟩ := partnerLost_loses 1 sends' ((congrArg Itwin.lost (keeps.same .itw)).trans known)
  refine completes_of (t := partnerLost u 1) ?_ ⟨lost, down, seen, ?_⟩
  · show execHeartbeatMissLimit s = _
    unfold execHeartbeatMissLimit
    rw [sends, known, ← counted]
    rfl
  · exact counts.later (partnerLost_regKept u 1)

theorem aliveLowTimeout_loses (sends : itwSending s = true) (known : s.itw.lost = false) :
    Completes .aliveLowTimeout s (fun t => t.itw.lost = true ∧ t.itw.linkUp = false ∧ t.itw.alive = false) := by
  obtain ⟨lost, down, -, low⟩ := partnerLost_loses (s := { s with itw := { s.itw with alive := false } }) 0 sends known
  exact completes_of (if_pos sends) ⟨lost, down, low rfl⟩

/-- The comparison at link up marks itself due or done, and changes nothing else of the pair. -/
theorem compareVersions_itw (s : State) : ∃ due, (compareVersions s).itw = { s.itw with compareDue := due } := by
  unfold compareVersions
  split
  · exact ⟨true, rfl⟩
  · extract_lets a p
    split
    · rw [(eventToManager_keeps _ _ _).same .itw, (setBits_keeps _ _ _).same .itw]
      exact ⟨false, rfl⟩
    · exact ⟨false, rfl⟩

/-- The pair over a new link. -/
def linked (s : State) (version : Nat) (digest : Word) (mirroring : Bool) : State :=
  { s with
    itw := { s.itw with linkUp := true, lost := false, split := false, txSeq := 0, rxSeq := 0, replay := [], resync := none,
                        partner := { s.itw.partner with jigVersion := version, jigDigest := digest, mirroring := mirroring } }
    jig := { s.jig with partnerEn := mirroring } }

/-- A GO that was not acknowledged is sent again. -/
def goRepeated (s : State) : State :=
  match s.jig.commit with
  | some c => if c.mirrored ∧ ¬ c.partner ∧ (c.phase = .waitSwitch ∨ c.phase = .waitAck) ∧ ¬ c.acked then itwSend s 0x13 [] else s
  | none => s

/-- The actor begins a resync. -/
def resyncStarted (s : State) : State := if isActor s then resyncBegin s (s.itw.resyncTx.getD none) else s

theorem goRepeated_itw (s : State) : ∃ tx r, (goRepeated s).itw = { s.itw with txSeq := tx, replay := r } ∧ (goRepeated s).jig = s.jig := by
  unfold goRepeated
  split
  · split
    · obtain ⟨tx, r, sent⟩ := itwSend_itw s 0x13 []
      exact ⟨tx, r, sent, (itwSend_keeps s _ _).same .jig⟩
    · exact ⟨_, _, rfl, rfl⟩
  · exact ⟨_, _, rfl, rfl⟩

theorem resyncStarted_itw (s : State) : ∃ tx r w, (resyncStarted (goRepeated s)).itw = { s.itw with txSeq := tx, replay := r, resyncTx := w } ∧
    (resyncStarted (goRepeated s)).jig = s.jig := by
  obtain ⟨tx, r, repeats, jig⟩ := goRepeated_itw s
  unfold resyncStarted
  split
  · obtain ⟨tx', r', sent⟩ := itwSend_itw (goRepeated s) 0x06 (toLe 1 0 ++ toLe 4 (learnedCount (goRepeated s)))
    refine ⟨tx', r', some ((goRepeated s).itw.resyncTx.getD none), ?_, ((resyncBegin_keeps _ _).same .jig).trans jig⟩
    unfold resyncBegin
    dsimp only
    rw [sent, repeats]
  · exact ⟨tx, r, s.itw.resyncTx, repeats, jig⟩

theorem itwLinkUp_links (version : Nat) (digest : Word) (mirroring : Bool) (enabled : s.itw.enable = true) (down : s.itw.linkUp = false) :
    Completes (.itwLinkUp version digest mirroring) s (fun t =>
    t.itw.linkUp = true ∧ t.itw.rxSeq = 0 ∧ t.itw.lost = false ∧ t.itw.split = false ∧ t.jig.partnerEn = mirroring ∧
    t.itw.partner.jigVersion = version ∧ t.itw.partner.jigDigest = digest) := by
  obtain ⟨tx, r, w, record, jig⟩ := resyncStarted_itw (linked s version digest mirroring)
  obtain ⟨due, compares⟩ := compareVersions_itw (resyncStarted (goRepeated (linked s version digest mirroring)))
  refine completes_of (t := compareVersions (resyncStarted (goRepeated (linked s version digest mirroring))))
    (if_pos ⟨enabled, by rw [down]; exact Bool.false_ne_true⟩) ?_
  rw [compares, record, (compareVersions_keeps _).same .jig, jig]
  exact ⟨rfl, rfl, rfl, rfl, rfl, rfl, rfl⟩

/-! The ACT interlock (R289 to R293). -/

theorem grantTimer_grants (enabled : s.itw.enable = true) (out : s.itw.actOut = true) (idle : s.itw.actIn = false) :
    Completes .grantTimer s (fun t => t.itw.grant = true ∧ t.itw.actOut = true) := by
  obtain ⟨grants, same⟩ := granted_true s.itw
  refine completes_of (t := setGrant s true) (if_pos (by rw [enabled, out, idle]; rfl)) ?_
  rw [setGrant_itw]
  exact ⟨grants, same.trans out⟩

theorem grantTimer_waits (unfit : (s.itw.enable && s.itw.actOut && !s.itw.actIn) = false) : exec .grantTimer s = .next s :=
  (rfl : exec .grantTimer s = execGrantTimer s).trans (if_neg (by rw [unfit]; exact Bool.false_ne_true))

theorem collision_quiet : Unreported r_ITW_CNT_COLLISION := by unfold Unreported EventReg; decide

/-- The state once ITW_ACT_IN was seen and the grant is lost. -/
def actInSeen (s : State) (short alive : Bool) : State :=
  let a := traceAct { s with itw := { s.itw with actIn := true, alive := alive } }
  let b := if a.itw.enable && !alive then itwLog a 3 else a
  setGrant { b with itw := { b.itw with actIn := !short } } false

theorem actInSeen_itw (s : State) (short alive : Bool) :
    (actInSeen s short alive).itw = { s.itw with actIn := !short, alive := alive, grant := false } := by
  unfold actInSeen
  extract_lets w a b w'
  have traced : a.itw = { s.itw with actIn := true, alive := alive } := (traceAct_keeps _).same .itw
  have logged : b.itw = a.itw := by
    unfold b
    split
    · exact (itwLog_keeps _ _).same .itw
    · rfl
  have record : w' = { s.itw with actIn := true, alive := alive } := logged.trans traced
  rw [setGrant_itw, granted_false]
  dsimp only
  rw [record]

theorem actInSeen_told (s : State) (short alive : Bool) : Told s (actInSeen s short alive) := by
  unfold actInSeen
  extract_lets w a b w'
  have traced : Told s a := Told.trans (t := { s with itw := { s.itw with actIn := true, alive := alive } }) (.of_parts rfl rfl rfl) (traceAct_told _)
  have logged : Told s b := .ite (traced.trans (errlog_told _ _ _ _ _ _)) traced
  exact logged.trans (.trans (t := { b with itw := { b.itw with actIn := !short } }) (.of_parts rfl rfl rfl) (setGrant_told _ _))

/-- Two requests collide: the own one ends (R292). -/
def collided (s : State) : State :=
  let a := setActReq (setBits (bump { s with itw := { s.itw with collisions := s.itw.collisions + 1 } } r_ITW_CNT_COLLISION) r_ITW_STATUS 0x80#32) false
  if a.itw.collisions = 16 then rankConflict a else a

theorem collided_itw (s : State) : ∃ al, (collided s).itw = { s.itw with
    collisions := s.itw.collisions + 1, actReq := false, released := itwSending s, alive := al, actOut := false, grant := false } := by
  unfold collided
  extract_lets w a
  obtain ⟨al, -, lines⟩ := setActReq_itw (setBits (bump { s with itw := { s.itw with collisions := s.itw.collisions + 1 } } r_ITW_CNT_COLLISION)
    r_ITW_STATUS 0x80#32) false
  rw [Bool.and_false, Bool.false_and] at lines
  refine ⟨al, ?_⟩
  split
  · rw [(rankConflict_keeps a).same .itw]
    exact lines
  · exact lines

theorem rankConflict_regKept (s : State) : RegKept s (rankConflict s) r_ITW_CNT_COLLISION :=
  ((setReg_regKept _ _ (by decide)).trans ((errlog_told _ _ _ _ _ _).regKept collision_quiet.1)).trans
    (eventToManager_regKept _ _ _ collision_quiet)

theorem collided_counts (s : State) : Counted s (collided s) r_ITW_CNT_COLLISION 1 := by
  unfold collided
  extract_lets w a
  have lines : RegKept (bump { s with itw := { s.itw with collisions := s.itw.collisions + 1 } } r_ITW_CNT_COLLISION) a r_ITW_CNT_COLLISION :=
    (setReg_regKept _ _ (by decide)).trans ((RegKept.of_regs rfl).trans ((itwLines_told _).regKept collision_quiet.1))
  refine Counted.of_bump (u := { s with itw := { s.itw with collisions := s.itw.collisions + 1 } }) (.of_regs rfl) rfl ?_
  split
  · exact lines.trans (rankConflict_regKept a)
  · exact lines

theorem actInChange_asserted (s : State) (short alive : Bool) :
    Completes (.actInChange true short alive) s (fun t => t.itw.grant = false ∧ t.itw.actIn = !short ∧
    (s.itw.actOut = true → s.itw.grant = false → short = false → t.itw.actReq = false ∧ t.itw.collisions = s.itw.collisions + 1 ∧
      Counted s t r_ITW_CNT_COLLISION 1)) := by
  have seen := actInSeen_itw s short alive
  have row : exec (.actInChange true short alive) s = .next (if s.itw.actOut && !s.itw.grant && !short then collided (actInSeen s short alive)
      else actInSeen s short alive) := by
    show execActInChange true short alive s = _
    unfold execActInChange
    rw [Bool.true_or, if_pos rfl]
    split <;> rfl
  refine completes_of row ?_
  split
  · obtain ⟨al, record⟩ := collided_itw (actInSeen s short alive)
    have counts := collided_counts (actInSeen s short alive)
    rw [record, seen]
    exact ⟨rfl, rfl, fun _ _ _ => ⟨rfl, rfl, counts.since ((actInSeen_told s short alive).regKept collision_quiet.1)⟩⟩
  · next apart =>
    rw [seen]
    exact ⟨rfl, rfl, fun out free long => absurd (by rw [out, free, long]; rfl) apart⟩

theorem actInChange_deasserted (s : State) (alive : Bool) :
    Completes (.actInChange false false alive) s (fun t => t.itw.actIn = false ∧ t.itw.split = false ∧ t.itw.grant = s.itw.grant) := by
  refine completes_of (rfl : execActInChange false false alive s = _) ?_
  rw [(traceAct_keeps _).same .itw]
  exact ⟨rfl, rfl, rfl⟩

theorem actRequestTimer_requests (reason : s.itw.linkUp = false ∨ lowerRank s = true ∨ 0 < s.itw.collisions ∨ s.itw.offered = true)
    (sends : itwSending s = true) (idle : s.itw.actIn = false) (free : s.itw.grant = false) (few : s.itw.collisions < 16) :
    Completes .actRequestTimer s (fun t => t.itw.actReq = true ∧ t.itw.actOut = true ∧ t.itw.offered = false) := by
  have due : (!s.itw.linkUp || lowerRank s || decide (0 < s.itw.collisions) || s.itw.offered) = true := by
    simp only [Bool.or_eq_true, Bool.not_eq_true', decide_eq_true_eq]
    rcases reason with a | b | c | d
    · exact .inl (.inl (.inl a))
    · exact .inl (.inl (.inr b))
    · exact .inl (.inr c)
    · exact .inr d
  exact completes_of (if_pos due) (requestRole_requests s sends idle free few)

theorem actorRelease_requests (up : s.itw.linkUp = true) (enabled : s.itw.enable = true) (sends : itwSending s = true) (idle : s.itw.actIn = false)
    (free : s.itw.grant = false) (few : s.itw.collisions < 16) :
    Completes .actorRelease s (fun t => t.itw.actReq = true ∧ t.itw.actOut = true) := by
  obtain ⟨asks, out, -⟩ := requestRole_requests { s with itw := { s.itw with offered := true } } sends idle free few
  exact completes_of (t := onActorRelease s) (congrArg Host.Outcome.next (if_pos (by rw [up, enabled]; rfl))) ⟨asks, out⟩

theorem itwActorRelease_releases : AnswersOk .itwActorRelease 0x0922 (fun s _ _ => s.itw.grant = true) (fun _ _ _ => [])
    (fun _ t _ _ => t.itw.actReq = false ∧ t.itw.actOut = false ∧ t.itw.grant = false) := by
  refine answersOk_of_command (row := fun s ch seq => (rfl : execItwActorRelease ch seq s = _)) (fun s ch seq req holds => ?_)
  obtain ⟨al, -, lines⟩ := setActReq_itw s false
  obtain ⟨tx, r, sent⟩ := itwSend_itw (setActReq s false) 0x07 []
  have told : Told s (setActReq s false) := Told.trans (t := { s with itw := { s.itw with actReq := false } }) (.of_parts rfl rfl rfl) (itwLines_told _)
  refine ⟨itwSend (setActReq s false) 0x07 [], if_pos holds, ?_, ?_⟩
  · exact (startedOn_keeps (itwSend_keeps _ _ _) ch).trans (told.started ch)
  · rw [answer_itw, sent, lines, Bool.and_false]
    exact ⟨rfl, rfl, rfl⟩

end

/-- Settles O51, one lemma for each event and command of the pair. -/
theorem thePairLinksAndHoldsOneActor : Obligations.ThePairLinksAndHoldsOneActor := by
  unfold Obligations.ThePairLinksAndHoldsOneActor
  exact ⟨⟨fun s seq ack body up enabled next => flitRx_delivers ack body up enabled next, fun s b zero => onItwMessages_padding s zero,
    fun s seq ack nak body up enabled => flitRx_refuses seq ack nak body up enabled,
    fun s id rank mode act version digest mirroring learned count p up enabled carries undue same sees ranks =>
      heartbeat_notes up enabled carries undue same sees ranks,
    fun s sends up => heartbeatSend_sends sends up, fun s waits => pipelineStallDetect_stalls waits,
    fun s sends known => heartbeatMissLimit_loses sends known, fun s sends known => aliveLowTimeout_loses sends known,
    fun s version digest mirroring enabled down => itwLinkUp_links version digest mirroring enabled down⟩,
    fun s enabled out idle => grantTimer_grants enabled out idle, fun s unfit => grantTimer_waits unfit, actInChange_asserted, actInChange_deasserted,
    fun s reason sends idle free few => actRequestTimer_requests reason sends idle free few,
    fun s up enabled sends idle free few => actorRelease_requests up enabled sends idle free few, itwActorRelease_releases⟩

end Sys2Proof.Machine
end

section

/-! PROOFS. The learning messages of the Itwin pair, its resync and the settings and state of the pair (R285, R294 to R298). -/

namespace Sys2Proof.Machine
open Sys2Proof

set_option Elab.async false

/-! A message reaches its handler over the link. -/

section
variable {s : State}

theorem overLink_reaches {c : Instr} {f : State → State} (row : exec c s = overLink s f) (up : s.itw.linkUp = true) (enabled : s.itw.enable = true) :
    exec c s = .next (f s) :=
  row.trans (congrArg Host.Outcome.next (if_pos (by rw [up, enabled]; rfl)))

theorem isActor_link (actor : isActor s = true) : s.itw.linkUp = true ∧ s.itw.enable = true := by
  unfold isActor at actor
  simp only [Bool.and_eq_true] at actor
  exact ⟨actor.1.2, actor.1.1⟩

theorem learnRx_unreported : Unreported r_ITW_CNT_LEARN_RX := by unfold Unreported EventReg; decide

theorem length_fit (b : Bytes) (n : Nat) : (fit b n).length = n := by
  exact length_slice b 0 n

theorem fit_append {b : Bytes} {n : Nat} (rest : Bytes) (sized : b.length = n) : fit (b ++ rest) n = b := by
  have same : ∀ i, i < n → (fit (b ++ rest) n).getD i 0 = b.getD i 0 := fun i below => by
    rw [fit, getD_slice _ _ below, Nat.zero_add]
    simp [List.getD_eq_getElem?_getD, List.getElem?_append_left (sized ▸ below : i < b.length)]
  exact bytes_ext ((length_fit _ _).trans sized.symm) (fun i below => same i (length_fit _ n ▸ below))

theorem byteAt_toLe_one (v : Nat) (rest : Bytes) : byteAt (toLe 1 v ++ rest) 0 = v % 256 := by
  simp [byteAt, toLe]

theorem deleteAt_regKept {a : Nat} (s : State) (l : Loc) (quiet : Unreported a) (other : a ≠ r_SCB_CNT_DELETE) : RegKept s (deleteAt s l) a := by
  unfold deleteAt
  extract_lets e u cst v w
  have told : RegKept v w a := by
    show RegKept v (if _ then _ else _) a
    split
    · exact sendLearn_regKept _ _ _ quiet
    · exact .of_regs rfl
  have before : RegKept s u a := ((RegKept.of_keeps (waySet_keeps _ _ _)).trans (.of_keeps (markDirty_keeps _ _))).trans (bump_regKept _ other)
  exact ((before.trans (.of_regs rfl)).trans told).trans ((scribeTrace_regKept _ _ _ _ _ quiet).trans (.of_regs (promoteInto_regs _ _)))

/-- Bytes of the message of a learn request (R286). -/
theorem learnReqBody_fields (key : Bytes) (dest : Word) (stamp : Dword) (src prof : Nat) :
    l2Key (learnReqBody key dest stamp src prof) = [1] ++ fit key 8 ∧ le (learnReqBody key dest stamp src prof) 8 4 = dest.toNat ∧
    le (learnReqBody key dest stamp src prof) 12 8 = stamp.toNat ∧ byteAt (learnReqBody key dest stamp src prof) 20 % 32 = src % 32 ∧
    byteAt (learnReqBody key dest stamp src prof) 21 % 8 = prof % 8 := by
  have sized : (fit key 8).length = 8 := length_fit key 8
  have body : learnReqBody key dest stamp src prof =
      fit key 8 ++ (toLe 4 dest.toNat ++ (toLe 8 stamp.toNat ++ (toLe 1 src ++ (toLe 1 prof ++ [])))) := by
    simp [learnReqBody, List.append_assoc]
  have past (b rest : Bytes) (n : Nat) (h : b.length = n) : (b ++ rest).drop n = rest := h ▸ List.drop_left
  have keys : fit (learnReqBody key dest stamp src prof) 8 = fit key 8 := by
    rw [body, fit_append _ sized]
  have d8 : (learnReqBody key dest stamp src prof).drop 8 = _ := body ▸ past _ _ _ sized
  have d12 : (learnReqBody key dest stamp src prof).drop 12 = _ := (List.drop_drop (i := 4) (j := 8)).symm.trans ((congrArg (List.drop 4) d8).trans (past _ _ _ (length_toLe 4 _)))
  have d20 : (learnReqBody key dest stamp src prof).drop 20 = _ := (List.drop_drop (i := 8) (j := 12)).symm.trans ((congrArg (List.drop 8) d12).trans (past _ _ _ (length_toLe 8 _)))
  have d21 : (learnReqBody key dest stamp src prof).drop 21 = _ := (List.drop_drop (i := 1) (j := 20)).symm.trans ((congrArg (List.drop 1) d20).trans (past _ _ _ (length_toLe 1 _)))
  refine ⟨?_, ?_, ?_, ?_, ?_⟩
  · rw [l2Key, keys]
  · rw [show le (learnReqBody key dest stamp src prof) 8 4 = _ from (le_drop _ 8 0 4).symm, d8, le_append_toLe]
    exact Nat.mod_eq_of_lt dest.isLt
  · rw [show le (learnReqBody key dest stamp src prof) 12 8 = _ from (le_drop _ 12 0 8).symm, d12, le_append_toLe]
    exact Nat.mod_eq_of_lt stamp.isLt
  · rw [show byteAt (learnReqBody key dest stamp src prof) 20 = _ from (byteAt_drop _ 20 0).symm, d20, byteAt_toLe_one]
    exact Nat.mod_mod_of_dvd src (by decide)
  · rw [show byteAt (learnReqBody key dest stamp src prof) 21 = _ from (byteAt_drop _ 21 0).symm, d21, byteAt_toLe_one]
    exact Nat.mod_mod_of_dvd prof (by decide)

theorem scribePush_pushes (r : ScribeReq) (room : s.cst.queue.length < 4096) :
    scribePush s r = { s with cst := { s.cst with queue := s.cst.queue ++ [r] } } := if_neg (Nat.not_le.mpr room)

theorem learnReq_queues (key : Bytes) (dest : Word) (stamp : Dword) (src prof : Nat) (actor : isActor s = true)
    (room : s.cst.queue.length < 4096) : Completes (.learnReq key dest stamp src prof) s (fun t =>
    (∃ n, t.cst = { s.cst with queue := s.cst.queue ++ [.learn ([1] ++ fit key 8) dest stamp (src % 32) (prof % 8) n true] }) ∧
    Counted s t r_ITW_CNT_LEARN_RX 1 ∧ ChangesOnly [.cst, .regs, .fresh] s t) := by
  obtain ⟨up, enabled⟩ := isActor_link actor
  obtain ⟨keyed, dests, stamps, srcs, profs⟩ := learnReqBody_fields key dest stamp src prof
  refine completes_of (t := onLearnReq s (learnReqBody key dest stamp src prof)) (overLink_reaches (c := .learnReq key dest stamp src prof) (f := fun s => onLearnReq s (learnReqBody key dest stamp src prof)) rfl up enabled) ⟨⟨Config.freeNat s.fresh % 4096, ?_⟩, ?_, (onLearnReq_keeps s _).frame⟩
  · unfold onLearnReq
    rw [if_pos actor, keyed, dests, stamps, srcs, profs, BitVec.ofNat_toNat, BitVec.ofNat_toNat, BitVec.setWidth_eq, BitVec.setWidth_eq]
    exact congrArg State.cst (if_neg (Nat.not_le.mpr room))
  · unfold onLearnReq
    rw [if_pos actor]
    refine .of_bump (u := drawn s) (v := learnRx (drawn s)) (.of_regs rfl) rfl ?_
    exact .of_regs (by rw [scribePush_pushes (s := learnRx (drawn s)) _ room])

theorem learnApply_writes {body : Bytes} {l : Loc} (up : s.itw.linkUp = true) (enabled : s.itw.enable = true) (standby : s.itw.grant = false)
    (found : findKey s (l2Key (fit body 32)) = some l) (dynamic : entStatic (wayGet s l) = false) : Completes (.learnApply body) s (fun t =>
      wayGet t l = refreshed s (applyFields (wayGet s l) (fit body 32)) ∧ Counted s t r_ITW_CNT_LEARN_RX 1 ∧
      (∀ m, m ≠ l → wayGet t m = wayGet s m) ∧ ChangesOnly [.cst, .sqr, .regs, .itw] s t) := by
  obtain ⟨a, wrote⟩ : ∃ a, a = waySet s l (refreshed s (applyFields (wayGet s l) (fit body 32))) := ⟨_, rfl⟩
  obtain ⟨b, marked⟩ : ∃ b, b = markDirty a (wayGet s l) := ⟨_, rfl⟩
  obtain ⟨c, locked⟩ : ∃ c, c = applyStated s (fit body 32) := ⟨_, rfl⟩
  have written : ∃ m, c = { b with cst := { b.cst with locked := m } } := by
    rw [locked]
    unfold applyStated
    dsimp only
    rw [found]
    dsimp only
    rw [dynamic, if_neg Bool.false_ne_true, ← wrote, ← marked]
    exact ⟨_, rfl⟩
  obtain ⟨m, written⟩ := written
  have wk : ChangesOnly [.cst, .sqr, .regs, .itw] s a := wrote ▸ (waySet_keeps _ _ _).frame.mono (by decide)
  have mk : ChangesOnly [.cst, .sqr, .regs, .itw] a b := marked ▸ (markDirty_keeps _ _).frame.mono (by decide)
  have ck : ChangesOnly [.cst, .sqr, .regs, .itw] b c := written ▸ .of_patch rfl
  have counted : ChangesOnly [.cst, .sqr, .regs, .itw] c (learnRx c) := (bump_changes c _).mono (by decide)
  obtain ⟨t, last⟩ : ∃ t, t = onLearnApply s (fit body 32) := ⟨_, rfl⟩
  have ends : t = { learnRx c with itw := { (learnRx c).itw with resync := (learnRx c).itw.resync.map (fun k => k ++ [l2Key (fit body 32)]) } } := by
    rw [last, locked]
    exact if_neg (by rw [standby]; exact Bool.false_ne_true)
  have named : ChangesOnly [.cst, .sqr, .regs, .itw] (learnRx c) t := by
    rw [ends]
    exact .of_patch rfl
  have entries : SameEntries a t := by
    have ab : SameEntries a b := marked ▸ .of_keeps (markDirty_keeps _ _)
    refine ab.trans ?_
    rw [ends, written]
    exact ⟨rfl, rfl⟩
  obtain ⟨stated, others⟩ := (wrote ▸ entries).written
  have regs : RegKept s c r_ITW_CNT_LEARN_RX := by
    have sa : RegKept s a r_ITW_CNT_LEARN_RX := wrote ▸ .of_keeps (waySet_keeps _ _ _)
    have ab : RegKept a b r_ITW_CNT_LEARN_RX := marked ▸ .of_keeps (markDirty_keeps _ _)
    exact (sa.trans ab).trans (.of_regs (by rw [written]))
  refine completes_of (t := t) (last ▸ overLink_reaches (c := .learnApply body) (f := fun s => onLearnApply s (fit body 32)) rfl up enabled) ?_
  exact ⟨stated, .of_bump regs (v := learnRx c) rfl (.of_regs (by rw [ends])), others,
    ((wk.trans mk).trans (ck.trans counted)).trans named |>.mono (by decide)⟩

theorem learnBad_counts (msg : Bytes) : (learnBad s msg).cst = s.cst ∧ Counted s (learnBad s msg) r_ITW_CNT_MSG_BAD 1 := by
  have quiet : ¬ EventReg r_ITW_CNT_MSG_BAD := by unfold EventReg; decide
  unfold learnBad
  extract_lets u due
  split
  · exact ⟨(errlog_keeps _ _ _ _ _ _).same .cst, .of_bump (u := s) (v := u) (.of_regs rfl) rfl
      (.trans (t := { u with itw := { u.itw with badLogged := some u.time.ticks } }) (.of_regs rfl) ((errlog_told _ _ _ _ _ _).regKept quiet))⟩
  · exact ⟨rfl, counted_bump _ _⟩

theorem learnApply_refuses (body : Bytes) (up : s.itw.linkUp = true) (enabled : s.itw.enable = true) (granted : s.itw.grant = true) :
    Completes (.learnApply body) s (fun t => t.cst = s.cst ∧ Counted s t r_ITW_CNT_MSG_BAD 1) := by
  refine completes_of ((overLink_reaches (c := .learnApply body) (f := fun s => onLearnApply s (fit body 32)) rfl up enabled).trans (congrArg Host.Outcome.next (if_pos granted))) (learnBad_counts _)

theorem learnDelete_deletes {key : Bytes} {l : Loc} (up : s.itw.linkUp = true) (enabled : s.itw.enable = true) (standby : s.itw.grant = false)
    (found : findKey s (l2Key (fit key 8)) = some l) (learned : entLearned (wayGet s l) = true) :
    Completes (.learnDelete key) s (fun t => wayGet t l = zeros 64 ∧ (∀ m, m ≠ l → wayGet t m = wayGet s m) ∧
      Counted s t r_ITW_CNT_LEARN_RX 1 ∧ Counted s t r_SCB_CNT_DELETE 1) := by
  have row : exec (.learnDelete key) s = .next (learnRx (deleteAt s l)) := by
    refine (overLink_reaches (c := .learnDelete key) (f := fun s => onLearnDelete s (fit key 8)) rfl up enabled).trans (congrArg Host.Outcome.next ?_)
    unfold onLearnDelete
    rw [standby, found]
    dsimp only
    rw [learned]
    rfl
  obtain ⟨entries, counted⟩ := deleteAt_deletes s l
  obtain ⟨emptied, others⟩ := (entries.trans (.of_keeps (bump_keeps _ _))).written
  refine completes_of row ⟨emptied, others, ?_, counted.later (bump_regKept _ (by decide))⟩
  exact .of_bump (deleteAt_regKept s l learnRx_unreported (by decide)) rfl (.of_regs rfl)

theorem learnRefresh_refreshes {key : Bytes} {l : Loc} (actor : isActor s = true) (found : findKey s (l2Key (fit key 8)) = some l) :
    Completes (.learnRefresh key) s (fun t => wayGet t l = refreshed s (wayGet s l) ∧ (∀ m, m ≠ l → wayGet t m = wayGet s m) ∧
      Counted s t r_ITW_CNT_LEARN_RX 1 ∧ ChangesOnly [.cst, .regs] s t) := by
  obtain ⟨up, enabled⟩ := isActor_link actor
  have row : exec (.learnRefresh key) s = .next (learnRx (waySet s l (refreshed s (wayGet s l)))) := by
    refine (overLink_reaches (c := .learnRefresh key) (f := fun s => onLearnRefresh s (fit key 8)) rfl up enabled).trans (congrArg Host.Outcome.next ?_)
    unfold onLearnRefresh
    rw [if_pos actor, found]
  obtain ⟨written, others⟩ := (SameEntries.of_keeps (bump_keeps (waySet s l (refreshed s (wayGet s l))) r_ITW_CNT_LEARN_RX)).written
  refine completes_of row ⟨written, others, .of_bump (.of_keeps (waySet_keeps _ _ _)) rfl (.of_regs rfl), ?_⟩
  have stored : ChangesOnly [.cst, .regs] s (waySet s l (refreshed s (wayGet s l))) := (waySet_keeps _ _ _).frame.mono (by decide)
  exact (stored.trans (bump_changes _ _)).mono (by decide)

end

/-! The resync at the standby and at the actor (R296). -/

section
variable {s : State}

theorem resyncMark_starts (count : Nat) (up : s.itw.linkUp = true) (enabled : s.itw.enable = true) (standby : s.itw.grant = false) :
    exec (.resyncMark 0 count) s = .next { s with itw := { s.itw with resync := some [] } } := by
  refine (overLink_reaches (c := .resyncMark 0 count) (f := fun s => onResyncMark s 0 _) rfl up enabled).trans (congrArg Host.Outcome.next ?_)
  unfold onResyncMark
  rw [standby]
  rfl

/-- Entries listed after a deletion were listed before, at another way. -/
theorem allEntries_deleteAt {l : Loc} {x : Loc × Bytes} (listed : x ∈ allEntries (deleteAt s l)) : x ∈ allEntries s ∧ x.1 ≠ l := by
  have same := (deleteAt_deletes s l).1
  unfold allEntries at listed
  rw [same.1, same.2] at listed
  unfold waySet putRecord at listed
  unfold allEntries
  cases l with
  | mk stash idx =>
    cases stash <;>
      simp only [Bool.false_eq_true, if_true, if_false, mapErase, List.mem_filter, List.mem_append, List.mem_map, Prod.exists, bne_iff_ne] at listed ⊢
    · obtain ⟨⟨i, e, ⟨inside, apart⟩, rfl⟩ | ⟨i, e, inside, rfl⟩, valid⟩ := listed
      · exact ⟨⟨.inl ⟨i, e, inside, rfl⟩, valid⟩, fun h => apart (congrArg Loc.idx h)⟩
      · exact ⟨⟨.inr ⟨i, e, inside, rfl⟩, valid⟩, fun h => Bool.noConfusion (congrArg Loc.stash h)⟩
    · obtain ⟨⟨i, e, inside, rfl⟩ | ⟨i, e, ⟨inside, apart⟩, rfl⟩, valid⟩ := listed
      · exact ⟨⟨.inl ⟨i, e, inside, rfl⟩, valid⟩, fun h => Bool.noConfusion (congrArg Loc.stash h)⟩
      · exact ⟨⟨.inr ⟨i, e, inside, rfl⟩, valid⟩, fun h => apart (congrArg Loc.idx h)⟩

theorem allEntries_deleteAt_foldl (ls : List Loc) (s : State) {x : Loc × Bytes} (listed : x ∈ allEntries (ls.foldl deleteAt s)) :
    x ∈ allEntries s ∧ x.1 ∉ ls := by
  induction ls generalizing s with
  | nil => exact ⟨listed, List.not_mem_nil⟩
  | cons first rest ih =>
    obtain ⟨before, later⟩ := ih (deleteAt s first) listed
    obtain ⟨listed, apart⟩ := allEntries_deleteAt before
    exact ⟨listed, fun h => (List.mem_cons.mp h).elim apart later⟩

theorem deleteAt_resync (s : State) (l : Loc) : (deleteAt s l).itw.resync = s.itw.resync := by
  unfold deleteAt
  extract_lets e u cst v w
  have told : w.itw.resync = v.itw.resync := by
    show (State.itw (if _ then _ else _)).resync = _
    split
    · obtain ⟨tx, r, sent⟩ := itwSend_itw (s := v) 0x04 (slice e 16 8)
      rw [sendLearn, bump_itw, sent]
    · rfl
  rw [(promoteInto_keeps _ _).same .itw, (scribeTrace_keeps _ _ _ _ _).same .itw, told]
  show u.itw.resync = _
  rw [bump_itw, (markDirty_keeps _ _).same .itw, (waySet_keeps _ _ _).same .itw]

theorem resyncMark_ends {named : List Bytes} (count : Nat) (up : s.itw.linkUp = true) (enabled : s.itw.enable = true)
    (standby : s.itw.grant = false) (begun : s.itw.resync = some named) : Completes (.resyncMark 1 count) s (fun t => t.itw.resync = none ∧
      ∀ x ∈ allEntries t, entLearned x.2 = true → entKey x.2 ∈ named) := by
  obtain ⟨u, cleared⟩ : ∃ u : State, u = { s with itw := { s.itw with resync := none } } := ⟨_, rfl⟩
  have row : exec (.resyncMark 1 count) s = .next (resyncEnd u named) := by
    refine (overLink_reaches (c := .resyncMark 1 count) (f := fun s => onResyncMark s 1 _) rfl up enabled).trans (congrArg Host.Outcome.next ?_)
    unfold onResyncMark
    rw [standby, begun, cleared]
    rfl
  refine completes_of row ⟨?_, fun x listed learned => ?_⟩
  · have kept := foldl_same (fun t : State => t.itw.resync) (f := deleteAt) (fun t l => deleteAt_resync t l)
    exact (kept _ u).trans (by rw [cleared])
  · obtain ⟨before, apart⟩ := allEntries_deleteAt_foldl _ u listed
    by_contra absent
    exact apart (List.mem_map.mpr ⟨x, List.mem_filter.mpr ⟨before, by simp [learned, absent]⟩, rfl⟩)

end

theorem itwSend_emits {s : State} (type : Nat) (body : Bytes) (up : s.itw.linkUp = true) : Emits s (itwSend s type body) [.itwMsg type body] := by
  unfold itwSend itwSendAll
  rw [if_pos up, List.foldl_cons, List.foldl_nil]
  show State.out (trace _ _ _ _ _ _ _) = _
  rw [(trace_keeps _ _ _ _ _ _ _).same .out]
  rfl

theorem itwResync_starts : RunsLater .itwResync 0x0923 (fun s _ _ => isActor s = true ∧ s.itw.resyncTx = none)
    (fun s t ch seq _ => t.itw.resyncTx = some (some (ch, seq)) ∧ Emits s t [.itwMsg 0x06 (toLe 1 0 ++ toLe 4 (learnedCount s))]) := by
  rintro s ch seq req begun ⟨actor, idle⟩
  refine completes_command begun (rfl : execItwResync ch seq s = _) ?_
  dsimp only
  rw [actor, idle]
  obtain ⟨up, -⟩ := isActor_link actor
  obtain ⟨u, sent⟩ : ∃ u, u = itwSend s 0x06 (toLe 1 0 ++ toLe 4 (learnedCount s)) := ⟨_, rfl⟩
  have mbx : u.mbx = s.mbx := sent ▸ (itwSend_keeps _ _ _).same .mbx
  have emits : Emits s u [.itwMsg 0x06 (toLe 1 0 ++ toLe 4 (learnedCount s))] := sent ▸ itwSend_emits _ _ up
  obtain ⟨v, noted⟩ : ∃ v : State, v = { u with itw := { u.itw with resyncTx := some (some (ch, seq)) } } := ⟨_, rfl⟩
  have begins : resyncBegin s (some (ch, seq)) = v := by rw [noted, sent]; rfl
  show RunsOn (defer (resyncBegin s (some (ch, seq))) ch seq) ch seq 0x0923 ∧ (defer (resyncBegin s (some (ch, seq))) ch seq).itw.resyncTx = _ ∧
    Emits s (defer (resyncBegin s (some (ch, seq))) ch seq) _
  rw [begins]
  refine ⟨defer_runs (begun.of_mbx (by rw [noted]; exact mbx)), by rw [defer_itw, noted], ?_⟩
  show (defer v ch seq).out = _
  rw [defer_out, noted]
  exact emits

section
variable {s : State}

/-- The answer of the command that asked for a resync, when one did. -/
def answerAsked (t : State) (cmd : Option (Nat × Nat)) (body : Bytes) : State :=
  match cmd with
  | some (ch, seq) => answer t ch seq rcOk body
  | none => t

theorem itwResyncComplete_answers {cmd : Option (Nat × Nat)} (runs : s.itw.resyncTx = some cmd) (actor : isActor s = true) :
    Completes .itwResyncComplete s (fun t => t.itw.resyncTx = none ∧
      ∀ ch seq, cmd = some (ch, seq) → Unanswered s ch seq → Answered t ch seq rcOk (toLe 4 (learnedCount s))) := by
  obtain ⟨es, listed⟩ : ∃ es, es = ((allEntries s).filter (fun x => entLearned x.2)).map (fun x => learnApplyBody x.2) := ⟨_, rfl⟩
  have count : es.length = learnedCount s := by rw [listed, List.length_map]; rfl
  obtain ⟨u, sent⟩ : ∃ u, u = itwSend (bumpBy (itwSendAll s 0x03 es) r_ITW_CNT_LEARN_TX es.length) 0x06 (toLe 1 1 ++ toLe 4 es.length) := ⟨_, rfl⟩
  obtain ⟨v, ended⟩ : ∃ v : State, v = { u with itw := { u.itw with resyncTx := none } } := ⟨_, rfl⟩
  have row : exec .itwResyncComplete s = .next (answerAsked v cmd (toLe 4 es.length)) := by
    show execItwResyncComplete s = _
    unfold execItwResyncComplete
    split
    · next idle => exact absurd (runs.symm.trans idle) (by simp)
    · next running =>
      obtain rfl := Option.some.inj (runs.symm.trans running)
      rw [if_pos actor, ended, sent, listed]
      rcases cmd with - | ⟨ch, seq⟩ <;> rfl
  have mbx : v.mbx = s.mbx := by
    rw [ended]
    show u.mbx = _
    rw [sent, (itwSend_keeps _ _ _).same .mbx, (bumpBy_keeps _ _ _).same .mbx, (itwSendAll_keeps _ _ _).same .mbx]
  cases cmd with
  | none => exact completes_of (t := v) row ⟨by rw [ended], fun _ _ h => nomatch h⟩
  | some p =>
    obtain ⟨ch, seq⟩ := p
    refine completes_of (t := answer v ch seq rcOk (toLe 4 es.length)) row ⟨by rw [answer_itw, ended], fun ch' seq' h waits => ?_⟩
    obtain ⟨rfl, rfl⟩ := Prod.mk.inj (Option.some.inj h)
    rw [count]
    exact answer_answered _ _ (waits.same mbx)

end

/-! Settings and state of the pair. -/

theorem leVal_lt : ∀ b : Bytes, leVal b < 256 ^ b.length
  | [] => Nat.one_pos
  | x :: b => by
    have low := x.isLt
    have rest := leVal_lt b
    rw [leVal, List.length_cons, Nat.pow_succ]
    omega

theorem le_lt (b : Bytes) (off n : Nat) : le b off n < 256 ^ n := by
  have h := leVal_lt (slice b off n)
  rwa [length_slice] at h

/-- A Heartwood word keeps a value that its mask of the low bits holds. -/
theorem ofNat_and_mask {n k : Nat} (small : n < 2 ^ k) (fits : k ≤ 32) :
    BitVec.ofNat 32 ((BitVec.ofNat 32 n).toNat &&& (2 ^ k - 1)) = BitVec.ofNat 32 n := by
  have wide : n < 2 ^ 32 := lt_of_lt_of_le small (Nat.pow_le_pow_right (by decide) fits)
  rw [BitVec.toNat_ofNat, Nat.mod_eq_of_lt wide, Nat.and_two_pow_sub_one_eq_mod, Nat.mod_eq_of_lt small]

theorem itwConfig_sets : AnswersOk .itwConfig 0x0920
    (fun _ _ req => byteAt req 0 ≤ 1 ∧ 10 ≤ le req 4 2 ∧ le req 4 2 ≤ 10000 ∧ 2 ≤ byteAt req 6 ∧ byteAt req 6 ≤ 15)
    (fun _ _ _ => []) (fun s t ch req => hwWord t 0x030 = BitVec.ofNat 32 (2 * byteAt req 0) ∧ hwWord t 0x031 = BitVec.ofNat 32 (le req 2 2) ∧
      hwWord t 0x032 = BitVec.ofNat 32 (le req 4 2 + 65536 * byteAt req 6) ∧ t.itw = s.itw ∧ AnswerFrame [.hw] s t ch) := by
  refine answersOk_set (row := fun s ch seq => (rfl : execItwConfig ch seq s = _)) (fun s ch seq req fits => ?_)
  obtain ⟨mode, short, long, few, many⟩ := fits
  obtain ⟨ws, words⟩ : ∃ ws : List Word, ws = [BitVec.ofNat 32 (2 * byteAt req 0), BitVec.ofNat 32 (le req 2 2),
    BitVec.ofNat 32 (le req 4 2 + 65536 * byteAt req 6)] := ⟨_, rfl⟩
  have changes : ChangesOnly [.hw] s (hwJournal s 0x030 ws) := hwJournal_changes _ _ _
  refine ⟨hwJournal s 0x030 ws, ?_, (hwJournal_keeps _ _ _).same .mbx, ?_, ?_, ?_, ?_, answer_frame_quiet _ _ _ _ changes (by decide) (by decide)⟩
  · rw [words]
    exact if_neg (by omega)
  · rw [hwWord_answer]
    refine (hwWord_hwJournal s 0x030 0 ws (by rw [words]; exact Nat.lt_of_sub_eq_succ rfl) (by decide)).trans ?_
    subst words
    have mask : hwMask (0x030 + 0) = 2 := by decide
    show BitVec.ofNat 32 ((BitVec.ofNat 32 (2 * byteAt req 0)).toNat &&& _) = _
    obtain off | on : byteAt req 0 = 0 ∨ byteAt req 0 = 1 := by omega
    · rw [off, mask]
      decide
    · rw [on, mask]
      decide
  · rw [hwWord_answer]
    refine (hwWord_hwJournal s 0x030 1 ws (by rw [words]; exact Nat.lt_of_sub_eq_succ rfl) (by decide)).trans ?_
    subst words
    exact ofNat_and_mask (k := 16) (le_lt req 2 2) (by decide)
  · rw [hwWord_answer]
    refine (hwWord_hwJournal s 0x030 2 ws (by rw [words]; exact Nat.lt_of_sub_eq_succ rfl) (by decide)).trans ?_
    subst words
    exact ofNat_and_mask (k := 20) (by omega) (by decide)
  · rw [answer_itw]
    exact (hwJournal_keeps _ _ _).same .itw

theorem itwStatus_reads : AnswersOk .itwStatus 0x0921 (fun _ _ _ => True)
    (fun s _ _ => toLe 4 (itwStatusWord s) ++ toLe 8 s.itw.partner.dieId.toNat ++ toLe 2 s.itw.partner.rank ++ toLe 1 s.itw.partner.mode ++
      toLe 1 0 ++ toLe 2 s.itw.partner.jigVersion ++ toLe 4 s.itw.partner.jigDigest.toNat ++ toLe 4 s.itw.partner.learned ++
      toLe 4 (if s.itw.partner.seen then min ((s.time.ticks - s.itw.partner.lastTick) / 1000) 0xFFFFFFFF else Config.freeNat s.fresh))
    (fun s t ch _ => AnswerFrame [.fresh] s t ch) :=
  answersOk_set (row := fun s ch seq => (rfl : execItwStatus ch seq s = _)) (fun s ch seq req _ =>
    ⟨drawn s, rfl, rfl, answer_frame_quiet _ _ _ _ (drawn_changes s) (by decide) (by decide)⟩)

/-- Settles O52, one lemma for each message of the pair, for the ends of the resync and for each command. -/
theorem learningCrossesThePairAndItsSettings : Obligations.LearningCrossesThePairAndItsSettings := by
  unfold Obligations.LearningCrossesThePairAndItsSettings
  exact ⟨⟨fun s key dest stamp src prof actor room => learnReq_queues key dest stamp src prof actor room,
    fun s body l up enabled standby found dynamic => learnApply_writes up enabled standby found dynamic,
    fun s body up enabled granted => learnApply_refuses body up enabled granted,
    fun s key l up enabled standby found learned => learnDelete_deletes up enabled standby found learned,
    fun s key l actor found => learnRefresh_refreshes actor found,
    fun s count up enabled standby => resyncMark_starts count up enabled standby,
    fun s count named up enabled standby begun => resyncMark_ends count up enabled standby begun,
    itwResync_starts, fun s cmd runs actor => itwResyncComplete_answers runs actor⟩, itwConfig_sets, itwStatus_reads⟩

end Sys2Proof.Machine

end

section

/-! PROOFS. The transforms of the crypto pool, their pairing, and the commands of security associations and templates (R304 to R322). -/

namespace Sys2Proof.Machine
open Sys2Proof

set_option Elab.async false

/-! Bytes written into a string. -/

theorem getD_splice_outside (b v : Bytes) {off i : Nat} (apart : i < off ∨ off + v.length ≤ i) : (splice b off v).getD i 0 = b.getD i 0 := by
  unfold splice
  rw [List.append_assoc, List.getD_eq_getElem?_getD, List.getElem?_append, length_slice]
  by_cases low : i < off
  · rw [if_pos low, ← List.getD_eq_getElem?_getD, getD_slice _ _ low, Nat.zero_add]
  · rw [if_neg low, List.getElem?_append_right (by omega), List.getElem?_drop, ← List.getD_eq_getElem?_getD]
    congr 1
    omega

theorem getD_splice_inside (b v : Bytes) {off i : Nat} (inside : i < v.length) : (splice b off v).getD (off + i) 0 = v.getD i 0 := by
  unfold splice
  rw [List.append_assoc, List.getD_eq_getElem?_getD, List.getElem?_append_right (by rw [length_slice]; omega), length_slice,
    List.getElem?_append_left (by omega), ← List.getD_eq_getElem?_getD]
  congr 1
  omega

theorem getD_putLe_outside (b : Bytes) {off n v i : Nat} (apart : i < off ∨ off + n ≤ i) : (putLe b off n v).getD i 0 = b.getD i 0 :=
  getD_splice_outside b _ (by rwa [length_toLe])

/-! Parts of a transform. -/

section
variable {s t : State}

theorem saGet_congr (same : t.cry.sas = s.cry.sas) (i : Nat) : saGet t i = saGet s i := by
  unfold saGet
  rw [same]

theorem saGet_saSet_self (s : State) (i : Nat) (a : Bytes) : saGet (saSet s i a) i = a := mapGetD_mapSet_self _ _ _ _

theorem saGet_saSet_ne (s : State) {i j : Nat} (a : Bytes) (other : j ≠ i) : saGet (saSet s i a) j = saGet s j := mapGetD_mapSet_ne _ _ _ other

/-- Of the state a transform reads the templates alone. -/
theorem transformWith_congr (same : t.cry.templates = s.cry.templates) (a : Bytes) (n : Nat) (k : Pkt) :
    transformWith t a n k = transformWith s a n k := by
  unfold transformWith espOutTunnel
  rw [same]

theorem saAdvance_cry (s : State) (i : Nat) (a : Bytes) (len : Nat) :
    (saAdvance s i a len).cry.sas = mapSet s.cry.sas i (saCount (putLe a 8 8 (saSeq a + 1)) 1 len) ∧
    (saAdvance s i a len).cry.waiting = s.cry.waiting ∧ (saAdvance s i a len).cry.deletes = s.cry.deletes := by
  unfold saAdvance
  extract_lets n u c v
  have advanced : v.cry.sas = mapSet s.cry.sas i (saCount (putLe a 8 8 (saSeq a + 1)) 1 len) ∧ v.cry.waiting = s.cry.waiting ∧
      v.cry.deletes = s.cry.deletes := by
    show (State.cry (if _ then _ else _)).sas = _ ∧ (State.cry (if _ then _ else _)).waiting = _ ∧ (State.cry (if _ then _ else _)).deletes = _
    split
    · exact ⟨rfl, rfl, rfl⟩
    · exact ⟨rfl, rfl, rfl⟩
  split
  · rw [(eventToFunc_keeps _ _ _ _ _).same .cry]
    exact advanced
  · exact advanced

/-- What a transform does before it reads its SA: the copy waits no longer, and a miss of the SA cache is counted. -/
def transformBegun (s : State) (p : Nat) : State :=
  let s := if Config.cacheMiss s.fresh then bump (drawn s) r_CRY_CNT_SA_CACHE_MISS else drawn s
  { s with cry := { s.cry with waiting := s.cry.waiting.filter (fun q => q ≠ p) } }

theorem transformBegun_cry (s : State) (p : Nat) :
    (transformBegun s p).cry = { s.cry with waiting := s.cry.waiting.filter (fun q => q ≠ p) } := by
  unfold transformBegun
  dsimp only
  split
  · rw [bump_cry, drawn_cry]
  · rw [drawn_cry]

theorem transformBegun_regKept (s : State) (p : Nat) {a : Nat} (other : a ≠ r_CRY_CNT_SA_CACHE_MISS) : RegKept s (transformBegun s p) a := by
  unfold transformBegun
  extract_lets u c
  have counted : RegKept s u a := by
    show RegKept s (if _ then _ else _) a
    split
    · exact .trans (t := drawn s) (.of_regs rfl) (bump_regKept _ other)
    · exact .of_regs rfl
  exact counted.trans (.of_regs rfl)

theorem saTransform_alone {p i : Nat} {k : Pkt} (alone : k.hdr.twin = false) (v : Verdict) : saTransform s p k i v =
    applyMade (firstTransform (transformBegun s p) i (saGet s i) k).1 p k (saGet s i) i v (firstTransform (transformBegun s p) i (saGet s i) k).2.2 := by
  unfold saTransform
  rw [alone]
  dsimp only
  rw [if_neg Bool.false_ne_true]
  show applyMade (cryPairHold _ _ _ _) _ _ _ _ _ _ = _
  unfold cryPairHold
  rw [if_neg (by simp [alone])]
  rfl

theorem answerDeletes_none (idle : s.cry.deletes = []) : answerDeletes s = s := by
  unfold answerDeletes
  dsimp only
  rw [idle]
  show { s with cry := { s.cry with deletes := [] } } = s
  rw [← idle]

end

/-! CRYPTO_TRANSFORM_DONE of a copy that travels alone (R309 to R317). -/

section
variable {s : State} {p i m : Nat} {k k' : Pkt} {dir : Bool}

/-- A good transform gives the copy its new frame and sends it to the exit order stage. -/
theorem applyMade_exits (s : State) (p : Nat) (k : Pkt) (a : Bytes) (i : Nat) {v : Verdict} (out : SendsOut v) (plain : k'.tx = []) :
    applyMade s p k a i v (.ok k') =
      pktSet s p { k' with saUsed := some i, pass := { k'.pass with sa := none }, stage := .exitOrder, verdict := some v, item := none } :=
  takeVerdict_exits s p (k := { k' with saUsed := some i, pass := { k'.pass with sa := none } }) plain out

theorem cryptoTransformDone_runs {v : Verdict} (here : pktGet s p = some k) (stage : k.stage = .transform) (cores : s.cry.coresRetired ≠ 0xFFFFFF#24)
    (verdict : k.verdict = some v) (plain : k.tx = []) (attached : k.pass.sa = some (i, dir)) (alone : k.hdr.twin = false)
    (ordered : saOrdered s p i = true) : exec (.cryptoTransformDone p) s = .next (answerDeletes (applyMade
      (firstTransform (transformBegun s p) i (saGet s i) k).1 p k (saGet s i) i v (firstTransform (transformBegun s p) i (saGet s i) k).2.2)) := by
  rw [← saTransform_alone alone]
  have undue : tlsDue k v = false := by
    unfold tlsDue
    rw [plain]
    rfl
  show execCryptoTransformDone p s = _
  unfold execCryptoTransformDone
  rw [here]
  dsimp only
  rw [if_neg (fun h => h.elim (fun other => other stage) cores), verdict]
  dsimp only
  rw [undue, if_neg Bool.false_ne_true, attached]
  dsimp only
  rw [alone, ordered]
  rfl

variable (here : pktGet s p = some k) (stage : k.stage = .transform) (cores : s.cry.coresRetired ≠ 0xFFFFFF#24)
  (verdict : k.verdict = some (.fwdPort m)) (plain : k.tx = []) (attached : k.pass.sa = some (i, dir)) (alone : k.hdr.twin = false)
  (ordered : saOrdered s p i = true) (idle : s.cry.deletes = [])
include here stage cores verdict plain attached alone ordered idle

/-- The end of a good transform whose SA, counts apart, took `a`. -/
theorem cryptoTransformDone_sends {u : State} {a : Bytes} {n : Nat} (first : firstTransform (transformBegun s p) i (saGet s i) k = (u, n, .ok k'))
    (sas : u.cry.sas = mapSet s.cry.sas i a) (waiting : u.cry.waiting = s.cry.waiting.filter (fun q => q ≠ p)) (deletes : u.cry.deletes = s.cry.deletes)
    (bare : k'.tx = []) : Completes (.cryptoTransformDone p) s (fun t => (∃ x, pktGet t p = some x ∧ x.stage = .exitOrder ∧ x.frame = k'.frame ∧
      x.verdict = some (.fwdPort m) ∧ x.saUsed = some i) ∧ saGet t i = a ∧ p ∉ t.cry.waiting) := by
  have row := cryptoTransformDone_runs here stage cores verdict plain attached alone ordered
  rw [first] at row
  dsimp only at row
  rw [applyMade_exits u p k (saGet s i) i (v := .fwdPort m) trivial bare, answerDeletes_none (by rw [pktSet_cry, deletes, idle])] at row
  refine completes_of row ⟨⟨_, pktGet_pktSet_self _ _ _, rfl, rfl, rfl, rfl⟩, ?_, ?_⟩
  · exact (saGet_congr (t := pktSet u p _) (s := saSet s i a) sas i).trans (saGet_saSet_self s i a)
  · rw [pktSet_cry, waiting, List.mem_filter]
    simp

theorem cryptoTransformDone_seals (outbound : saFlag (saGet s i) 1 = false) (unspent : spentSa s i (saGet s i) = false)
    (made : transformWith s (saGet s i) (saSeq (saGet s i)) k = .ok k') (bare : k'.tx = []) : Completes (.cryptoTransformDone p) s (fun t =>
      (∃ x, pktGet t p = some x ∧ x.stage = .exitOrder ∧ x.frame = k'.frame ∧ x.verdict = some (.fwdPort m) ∧ x.saUsed = some i) ∧
      saGet t i = saCount (putLe (saGet s i) 8 8 (saSeq (saGet s i) + 1)) 1 k.frame.length ∧ p ∉ t.cry.waiting) := by
  have begun := transformBegun_cry s p
  have kept : spentSa (transformBegun s p) i (saGet s i) = false := by
    rw [← unspent]
    unfold spentSa
    rw [begun]
  have same : transformWith (transformBegun s p) (saGet s i) (saSeq (saGet s i)) k = .ok k' := by
    rw [transformWith_congr (s := s) (by rw [begun]), made]
  have first : firstTransform (transformBegun s p) i (saGet s i) k =
      (noteCryBytes (saAdvance (transformBegun s p) i (saGet s i) k.frame.length) k.frame.length, saSeq (saGet s i), .ok k') := by
    unfold firstTransform
    dsimp only
    rw [outbound, if_neg Bool.false_ne_true, kept, if_neg Bool.false_ne_true, same]
  obtain ⟨sas, waiting, deletes⟩ := saAdvance_cry (transformBegun s p) i (saGet s i) k.frame.length
  rw [begun] at sas waiting deletes
  refine cryptoTransformDone_sends here stage cores verdict plain attached alone ordered idle first ?_ ?_ ?_ bare
  · rw [noteCryBytes, bump64_cry, sas]
  · rw [noteCryBytes, bump64_cry, waiting]
  · rw [noteCryBytes, bump64_cry, deletes]

theorem cryptoTransformDone_opens {n : Nat} (inbound : saFlag (saGet s i) 1 = true) (number : numberOf (saGet s i) k = .ok n)
    (fresh : replayOk (saGet s i) n = true) (made : transformWith s (saGet s i) n k = .ok k') (bare : k'.tx = []) :
    Completes (.cryptoTransformDone p) s (fun t => (∃ x, pktGet t p = some x ∧ x.stage = .exitOrder ∧ x.frame = k'.frame ∧
      x.verdict = some (.fwdPort m) ∧ x.saUsed = some i) ∧ saGet t i = saCount (replayTake (saGet s i) n) 1 k.frame.length ∧ p ∉ t.cry.waiting) := by
  have begun := transformBegun_cry s p
  have same : transformWith (transformBegun s p) (saGet s i) n k = .ok k' := by rw [transformWith_congr (s := s) (by rw [begun]), made]
  have first : firstTransform (transformBegun s p) i (saGet s i) k =
      (noteCryBytes (saSet (transformBegun s p) i (saCount (replayTake (saGet s i) n) 1 k.frame.length)) k.frame.length, n, .ok k') := by
    unfold firstTransform
    dsimp only
    rw [if_pos inbound, number]
    dsimp only
    rw [fresh, if_neg (by decide), same]
  refine cryptoTransformDone_sends here stage cores verdict plain attached alone ordered idle first ?_ ?_ ?_ bare
  · rw [noteCryBytes, bump64_cry, saSet, begun]
  · rw [noteCryBytes, bump64_cry, saSet, begun]
  · rw [noteCryBytes, bump64_cry, saSet, begun]

theorem cryptoTransformDone_replayed {n : Nat} (inbound : saFlag (saGet s i) 1 = true) (number : numberOf (saGet s i) k = .ok n)
    (stale : replayOk (saGet s i) n = false) (drops : saFlag (saGet s i) 6 = false) (bare : k.mirrors = []) :
    Completes (.cryptoTransformDone p) s (fun t => pktGet t p = none ∧ saGet t i = saGet s i ∧ Counted s t r_CRY_CNT_REPLAY 1) := by
  have begun := transformBegun_cry s p
  obtain ⟨u, hu⟩ : ∃ u, u = bump (transformBegun s p) r_CRY_CNT_REPLAY := ⟨_, rfl⟩
  have first : firstTransform (transformBegun s p) i (saGet s i) k = (u, n, .fail 0xF1) := by
    rw [hu]
    unfold firstTransform
    dsimp only
    rw [if_pos inbound, number]
    dsimp only
    rw [stale]
    rfl
  have cry : u.cry = { s.cry with waiting := s.cry.waiting.filter (fun q => q ≠ p) } := by rw [hu, bump_cry, begun]
  have dropped : applyMade u p k (saGet s i) i (.fwdPort m) (.fail 0xF1) = passDrop (pktSet u p k) p :=
    if_neg (fun h => Bool.false_ne_true (drops.symm.trans h.2.2))
  have last : (passDrop (pktSet u p k) p).cry = u.cry := by rw [(passDrop_keeps _ _).same .cry, pktSet_cry]
  have row := cryptoTransformDone_runs here stage cores verdict plain attached alone ordered
  rw [first] at row
  dsimp only at row
  rw [dropped, answerDeletes_none (by rw [last, cry]; exact idle)] at row
  refine completes_of row ⟨passDrop_gone (pktGet_pktSet_self _ _ _) bare, saGet_congr (by rw [last, cry]) i, ?_⟩
  exact .of_bump (transformBegun_regKept s p (by decide)) hu (.trans (t := pktSet u p k) (.of_regs rfl) (.of_keeps (passDrop_keeps _ _)))

end

/-! Cores, held outcomes and the switch of deletions (R310, R312, R322). -/

section
variable {s : State}

theorem cryptoCoreFail_retires {core : Nat} (named : core < 24) (serves : s.cry.coresRetired.getLsbD core = false) :
    Completes (.cryptoCoreFail core) s (fun t => t.cry = { s.cry with coresRetired := s.cry.coresRetired ||| BitVec.ofNat 24 (2 ^ core) } ∧
      hwField t 0x025 core core = 1) := by
  obtain ⟨u, retired⟩ : ∃ u, u = { s with cry := { s.cry with coresRetired := s.cry.coresRetired ||| BitVec.ofNat 24 (2 ^ core) } } := ⟨_, rfl⟩
  have row : exec (.cryptoCoreFail core) s = .next (noteMode s (noteRetired (hwSetField u 0x025 core core 1) 2 2 core 0 6) 1) := by
    rw [retired]
    exact if_pos ⟨named, by rw [serves]; exact Bool.false_ne_true⟩
  have kept : ∀ core < 24, (hwMask 0x025).testBit core = true := by decide
  refine completes_of row ⟨?_, ?_⟩
  · rw [(noteMode_keeps _ _ _).same .cry, (noteRetired_keeps _ _ _ _ _ _).same .cry, (hwSetField_keeps _ _ _ _ _).same .cry, retired]
  · rw [(noteMode_told _ _ _).field, (noteRetired_told _ _ _ _ _ _).field, hwField_hwSetField_bit _ (by omega) (kept core named)]

theorem cryPairExpire_marks {st pass ord : Nat} {seq : Word} {n : Dword} {r : Option Nat} (held : cryPair s ⟨st, seq, pass, ord⟩ = some (.held n r)) :
    Completes (.cryPairExpire st seq pass ord) s (fun t => cryPair t ⟨st, seq, pass, ord⟩ = some .mark ∧ ChangesOnly [.cry] s t) := by
  obtain ⟨pairs, list⟩ : ∃ pairs, pairs = s.cry.pairing.map (fun x => if x.1 = PairKey.mk st seq pass ord then (x.1, SaOutcome.mark) else x) := ⟨_, rfl⟩
  obtain ⟨u, marked⟩ : ∃ u, u = { s with cry := { s.cry with pairing := pairs } } := ⟨_, rfl⟩
  have row : exec (.cryPairExpire st seq pass ord) s = .next u := by
    show execCryPairExpire st seq pass ord s = _
    unfold execCryPairExpire
    dsimp only
    rw [held, marked, list]
  refine completes_of row ⟨?_, marked ▸ .of_patch rfl⟩
  unfold cryPair at held ⊢
  rw [marked]
  dsimp only
  rw [list]
  generalize s.cry.pairing = pairs at held
  induction pairs with
  | nil => exact absurd held (by simp)
  | cons x rest ih =>
    by_cases same : x.1 = ⟨st, seq, pass, ord⟩
    · simp [same]
    · rw [List.map_cons, if_neg same, List.find?_cons_of_neg (by simpa using same)]
      rw [List.find?_cons_of_neg (by simpa using same)] at held
      exact ih held

theorem cryPairExpire_forgets {st pass ord : Nat} {seq : Word} (mark : cryPair s ⟨st, seq, pass, ord⟩ = some .mark) :
    Completes (.cryPairExpire st seq pass ord) s (fun t => cryPair t ⟨st, seq, pass, ord⟩ = none ∧ ChangesOnly [.cry] s t) := by
  have row : exec (.cryPairExpire st seq pass ord) s = .next (cryPairErase s ⟨st, seq, pass, ord⟩) := by
    show execCryPairExpire st seq pass ord s = _
    unfold execCryPairExpire
    dsimp only
    rw [mark]
  refine completes_of row ⟨?_, (.of_patch rfl : ChangesOnly [.cry] s _)⟩
  unfold cryPair cryPairErase
  rw [Option.map_eq_none_iff, List.find?_eq_none]
  intro x member
  simpa using (List.mem_filter.mp member).2

theorem answerDeletes_due {ch seq i : Nat} (quiet : s.cry.waiting = []) (due : s.cry.deletes = [(ch, seq, i, true)]) :
    answerDeletes s = answer { s with cry := { s.cry with deletes := [] } } ch seq rcOk [] := by
  unfold answerDeletes
  dsimp only
  rw [quiet, due]
  rfl

/-- A byte whose lowest bit is taken away. -/
theorem saFlag_cleared (a : Bytes) : saFlag (putLe a 1 1 (byteAt a 1 - byteAt a 1 % 2)) 0 = false := by
  have byte : byteAt (putLe a 1 1 (byteAt a 1 - byteAt a 1 % 2)) 1 = byteAt a 1 - byteAt a 1 % 2 := by
    have low := byteAt_lt a 1
    have inside := getD_splice_inside a (toLe 1 (byteAt a 1 - byteAt a 1 % 2)) (off := 1) (i := 0) Nat.one_pos
    have stored : byteAt (putLe a 1 1 (byteAt a 1 - byteAt a 1 % 2)) 1 = (BitVec.ofNat 8 (byteAt a 1 - byteAt a 1 % 2)).toNat := congrArg BitVec.toNat inside
    rw [stored, BitVec.toNat_ofNat]
    exact Nat.mod_eq_of_lt (by omega)
  unfold saFlag
  rw [byte, bitAt]
  simp
  omega

theorem saDeleteSwitch_clears {ch seq i : Nat} (asked : s.cry.deletes = [(ch, seq, i, false)]) (quiet : s.cry.waiting = []) :
    Completes .saDeleteSwitch s (fun t => t.cry.deletes = [] ∧ saFlag (saGet t i) 0 = false ∧ (∀ j, j ≠ i → saGet t j = saGet s j) ∧
      (Unanswered s ch seq → Answered t ch seq rcOk [])) := by
  obtain ⟨u, cleared⟩ : ∃ u, u = saSet s i (putLe (saGet s i) 1 1 (byteAt (saGet s i) 1 - byteAt (saGet s i) 1 % 2)) := ⟨_, rfl⟩
  have row : exec .saDeleteSwitch s = .next (answer { u with cry := { u.cry with deletes := [] } } ch seq rcOk []) := by
    obtain ⟨v, due⟩ : ∃ v, v = { u with cry := { u.cry with deletes := [(ch, seq, i, true)] } } := ⟨_, rfl⟩
    have step : exec .saDeleteSwitch s = .next (answerDeletes v) := by
      show execSaDeleteSwitch s = _
      unfold execSaDeleteSwitch
      dsimp only
      rw [asked, List.foldl_cons, List.foldl_nil]
      dsimp only
      rw [if_neg Bool.false_ne_true, ← cleared, show u.cry.deletes = [(ch, seq, i, false)] by rw [cleared]; exact asked, due]
      rfl
    rw [step, answerDeletes_due (by rw [due, cleared]; exact quiet) (by rw [due]), due]
  refine completes_of row ⟨by rw [answer_cry], ?_, fun j other => ?_, fun waits => answer_answered _ _ (waits.same (by rw [cleared]; rfl))⟩
  · rw [saGet_congr (s := u) (by rw [answer_cry]), cleared, saGet_saSet_self]
    exact saFlag_cleared _
  · rw [saGet_congr (s := u) (by rw [answer_cry]), cleared, saGet_saSet_ne _ _ other]

end

/-! The commands of security associations and templates (R304, R308, R321, R322, R334). -/

theorem senderSlice_holder {s : State} {ch : Nat} (holds : chanHolds s ch = true) : senderSlice s ch = none := if_pos holds

theorem crySaWrite_writes : AnswersOk .crySaWrite 0x0800 (fun s ch req => saMay s ch (saSlice (slice req 8 128)) = true ∧
      saOwned s (saSlice (slice req 8 128)) (bits (le req 0 4) 19 0) = true ∧ saOk (slice req 8 128) = true ∧
      saBusy s (bits (le req 0 4) 19 0) = false) (fun _ _ _ => [])
    (fun s t ch req => saGet t (bits (le req 0 4) 19 0) = saClean (slice req 8 128) ∧
      (∀ j, j ≠ bits (le req 0 4) 19 0 → saGet t j = saGet s j) ∧ bits (le req 0 4) 19 0 ∉ t.cry.softSent ∧
      bits (le req 0 4) 19 0 ∉ t.cry.hardSent ∧ bits (le req 0 4) 19 0 ∉ t.cry.spent ∧ AnswerFrame [.cry] s t ch) := by
  refine answersOk_set (row := fun s ch seq => (rfl : execCrySaWrite ch seq s = _)) (fun s ch seq req fits => ?_)
  obtain ⟨may, owned, ok, free⟩ := fits
  obtain ⟨i, index⟩ : ∃ i, i = bits (le req 0 4) 19 0 := ⟨_, rfl⟩
  rw [← index] at owned free ⊢
  obtain ⟨u, written⟩ : ∃ u, u = saSet s i (saClean (slice req 8 128)) := ⟨_, rfl⟩
  obtain ⟨v, renewed⟩ : ∃ v : State, v = { u with cry := { u.cry with
      softSent := u.cry.softSent.filter (fun x => x ≠ i), hardSent := u.cry.hardSent.filter (fun x => x ≠ i),
      tlsSent := u.cry.tlsSent.filter (fun x => x ≠ i), spent := u.cry.spent.filter (fun x => x ≠ i),
      byDriver := (u.cry.byDriver.filter (fun x => x ≠ i)) ++ (if 8 ≤ ch ∧ ch < 2056 then [i] else []),
      tlsPart := mapErase u.cry.tlsPart i, tlsRecNo := mapSet u.cry.tlsRecNo i (BitVec.ofNat 64 (saSeq (slice req 8 128))),
      tlsResume := mapErase u.cry.tlsResume i } } := ⟨_, rfl⟩
  have sas : v.cry.sas = u.cry.sas := by rw [renewed]
  have changes : ChangesOnly [.cry] s v := by
    rw [renewed, written]
    exact .of_patch rfl
  refine ⟨v, ?_, by rw [renewed, written]; rfl, ?_, fun j other => ?_, ?_, ?_, ?_, answer_frame_quiet _ _ _ _ changes (by decide) (by decide)⟩
  · dsimp only
    rw [may, owned, ok, free, renewed, written]
    rfl
  · rw [saGet_congr (s := u) (by rw [answer_cry, sas]), written, saGet_saSet_self]
  · rw [saGet_congr (s := u) (by rw [answer_cry, sas]), written, saGet_saSet_ne _ _ other]
  · rw [answer_cry, renewed]
    simp
  · rw [answer_cry, renewed]
    simp
  · rw [answer_cry, renewed]
    simp

theorem crySaWrite_forbidden {s : State} {ch seq : Nat} {req : Bytes} (begun : Begun s ch seq 0x0800 req)
    (foreign : saMay s ch (saSlice (slice req 8 128)) = false) : Completes (.crySaWrite ch seq) s (fun t =>
      Answered t ch seq rcNotPermitted [] ∧ AnswerFrame [] s t ch) := by
  refine completes_command begun (rfl : execCrySaWrite ch seq s = _) ?_
  dsimp only
  rw [foreign]
  exact ⟨answer_answered _ _ begun.unanswered, answer_frame _ _ _ _ _⟩

theorem crySaRead_reads : AnswersOk .crySaRead 0x0801 (fun s ch _ => ch = 2056 ∨ chanHolds s ch = true)
    (fun s _ req => toLe 4 (bits (le req 0 4) 19 0) ++ zeros 4 ++ splice (saGet s (bits (le req 0 4) 19 0)) 16 (zeros 44))
    (fun s t ch _ => AnswerFrame [] s t ch) := by
  refine answersOk_query (fun s ch seq => (rfl : execCrySaRead ch seq s = _)) (fun s ch seq req may => ?_)
  rcases may with bmc | holds
  · exact if_neg (fun h => h.2 bmc)
  · dsimp only
    rw [senderSlice_holder holds]
    rfl

theorem crySaDelete_waits : RunsLater .crySaDelete 0x0802 (fun s ch _ => chanHolds s ch = true)
    (fun s t ch seq req => t.cry = { s.cry with deletes := s.cry.deletes ++ [(ch, seq, bits (le req 0 4) 19 0, false)] } ∧
      ChangesOnly [.mbx, .cry] s t) := by
  intro s ch seq req begun holds
  refine completes_command begun (rfl : execCrySaDelete ch seq s = _) ?_
  dsimp only
  rw [senderSlice_holder holds]
  have asked : ChangesOnly [.mbx, .cry] s { s with cry := { s.cry with deletes := s.cry.deletes ++ [(ch, seq, bits (le req 0 4) 19 0, false)] } } :=
    .of_patch rfl
  exact ⟨defer_runs (begun.of_mbx rfl), defer_cry _ _ _, asked.step ((defer_keeps _ _ _).frame.mono (by decide))⟩

theorem tlsRxResync_names : AnswersOk .tlsRxResync 0x0820 (fun s ch req => chanHolds s ch = true ∧ saFlag (saGet s (bits (le req 0 4) 19 0)) 0 = true ∧
      saFlag (saGet s (bits (le req 0 4) 19 0)) 1 = true ∧ saKind (saGet s (bits (le req 0 4) 19 0)) = 3) (fun _ _ _ => [])
    (fun s t ch req => mapGet t.cry.tlsResume (bits (le req 0 4) 19 0) = some (BitVec.ofNat 32 (le req 4 4), BitVec.ofNat 64 (le req 8 8)) ∧
      t.cry.sas = s.cry.sas ∧ AnswerFrame [.cry] s t ch) := by
  refine answersOk_set (row := fun s ch seq => (rfl : execTlsRxResync ch seq s = _)) (fun s ch seq req fits => ?_)
  obtain ⟨holds, valid, inbound, tls⟩ := fits
  obtain ⟨u, named⟩ : ∃ u : State, u = { s with cry := { s.cry with
      tlsResume := mapSet s.cry.tlsResume (bits (le req 0 4) 19 0) (BitVec.ofNat 32 (le req 4 4), BitVec.ofNat 64 (le req 8 8)),
      tlsSent := s.cry.tlsSent.filter (fun x => x ≠ bits (le req 0 4) 19 0) } } := ⟨_, rfl⟩
  have changes : ChangesOnly [.cry] s u := named ▸ .of_patch rfl
  refine ⟨u, ?_, by rw [named], ?_, ?_, answer_frame_quiet _ _ _ _ changes (by decide) (by decide)⟩
  · dsimp only
    rw [senderSlice_holder holds, valid, inbound, tls, named]
    rfl
  · rw [answer_cry, named]
    exact mapGet_mapSet_self _ _ _
  · rw [answer_cry, named]

/-- A template as it is kept: the bits that it does not use are 0 (R304). -/
def templateOf (t : Bytes) : Bytes :=
  splice (splice (putLe (putLe t 4 1 (byteAt t 4 % 16)) 8 2 (bits (le t 8 2) 11 0)) 5 (zeros 3)) 10 (zeros 6)

theorem templateOf_getD (t : Bytes) {i : Nat} (apart : i < 4 ∨ 16 ≤ i) : (templateOf t).getD i 0 = t.getD i 0 := by
  unfold templateOf
  rw [getD_splice_outside _ _ (by rw [zeros, List.length_replicate]; omega), getD_splice_outside _ _ (by rw [zeros, List.length_replicate]; omega),
    getD_putLe_outside _ (by omega), getD_putLe_outside _ (by omega)]

theorem tnlTemplateWrite_writes : AnswersOk .tnlTemplateWrite 0x0810 (fun _ _ req => 1 ≤ byteAt req 4 ∧ byteAt req 4 ≤ 112 ∧ byteAt req 6 ≤ byteAt req 4 ∧
      byteAt req 7 ≤ byteAt req 4 ∧ byteAt req 5 ≤ 3) (fun _ _ _ => [])
    (fun s t ch req => slice (mapGetD t.cry.templates (le req 0 2) (zeros 128)) 16 112 = slice req 20 112 ∧
      tplHlen (mapGetD t.cry.templates (le req 0 2) (zeros 128)) = byteAt req 4 ∧
      (∀ j, j ≠ le req 0 2 → mapGet t.cry.templates j = mapGet s.cry.templates j) ∧ t.cry.sas = s.cry.sas ∧ AnswerFrame [.cry] s t ch) := by
  refine answersOk_set (row := fun s ch seq => (rfl : execTnlTemplateWrite ch seq s = _)) (fun s ch seq req fits => ?_)
  obtain ⟨some_, short, outer, inner, kind⟩ := fits
  obtain ⟨u, written⟩ : ∃ u : State, u = { s with cry := { s.cry with templates := mapSet s.cry.templates (le req 0 2) (templateOf (slice req 4 128)) } } :=
    ⟨_, rfl⟩
  have changes : ChangesOnly [.cry] s u := written ▸ .of_patch rfl
  have byte (i j : Nat) (low : i < 128) (place : 4 + i = j) : byteAt (slice req 4 128) i = byteAt req j :=
    place ▸ congrArg BitVec.toNat (getD_slice _ _ low)
  have stored : mapGetD (answer u ch seq rcOk []).cry.templates (le req 0 2) (zeros 128) = templateOf (slice req 4 128) := by
    rw [answer_cry, written]
    exact mapGetD_mapSet_self _ _ _ _
  refine ⟨u, ?_, by rw [written], ?_, ?_, fun j other => ?_, ?_, answer_frame_quiet _ _ _ _ changes (by decide) (by decide)⟩
  · dsimp only
    rw [byte 0 4 (by decide) rfl, byte 1 5 (by decide) rfl, byte 2 6 (by decide) rfl, byte 3 7 (by decide) rfl, written]
    exact if_neg (by omega)
  · rw [stored]
    refine bytes_ext (by rw [length_slice, length_slice]) (fun i below => ?_)
    rw [length_slice] at below
    rw [getD_slice _ _ below, templateOf_getD _ (.inr (by omega)), getD_slice _ _ (by omega), getD_slice _ _ below]
    congr 1
    omega
  · rw [stored]
    exact (congrArg BitVec.toNat (templateOf_getD _ (.inl (by decide)))).trans (byte 0 4 (by decide) rfl)
  · rw [answer_cry, written]
    exact mapGet_mapSet_ne _ _ other
  · rw [answer_cry, written]

theorem tnlTemplateRead_reads : AnswersOk .tnlTemplateRead 0x0811 (fun _ _ _ => True)
    (fun s _ req => fit req 4 ++ mapGetD s.cry.templates (le req 0 2) (zeros 128)) (fun s t ch _ => AnswerFrame [] s t ch) :=
  answersOk_query (fun s ch seq => (rfl : execTnlTemplateRead ch seq s = _)) (fun _ _ _ _ _ => rfl)

/-- Settles O53, one lemma for each outcome of a transform and for each command. -/
theorem transformsAndTheirTablesFollowTheirSa : Obligations.TransformsAndTheirTablesFollowTheirSa := by
  unfold Obligations.TransformsAndTheirTablesFollowTheirSa
  refine ⟨⟨fun s p k i dir m k' here stage cores verdict plain attached alone ordered idle outbound unspent made bare =>
      cryptoTransformDone_seals here stage cores verdict plain attached alone ordered idle outbound unspent made bare,
    fun s p k i dir m n k' here stage cores verdict plain attached alone ordered idle inbound number => ⟨fun fresh made bare => ?_,
      fun stale drops bare => cryptoTransformDone_replayed here stage cores verdict plain attached alone ordered idle inbound number stale drops bare⟩,
    fun s core named serves => cryptoCoreFail_retires named serves, fun s st seq pass ord n r held => cryPairExpire_marks held,
    fun s st seq pass ord mark => cryPairExpire_forgets mark, fun s ch seq i asked quiet => saDeleteSwitch_clears asked quiet⟩,
    crySaWrite_writes, fun s ch seq req begun foreign => crySaWrite_forbidden begun foreign, crySaRead_reads, crySaDelete_waits, tlsRxResync_names,
    tnlTemplateWrite_writes, tnlTemplateRead_reads⟩
  obtain ⟨t, runs, ⟨x, there, exits, frame, -, used⟩, counted, -⟩ :=
    cryptoTransformDone_opens here stage cores verdict plain attached alone ordered idle inbound number fresh made bare
  exact ⟨t, runs, ⟨x, there, exits, frame, used⟩, counted⟩

end Sys2Proof.Machine

end

section

/-! PROOFS. The chain walkers of NVMe/TCP and the commands of its contexts (R324 to R334). -/

namespace Sys2Proof.Machine
open Sys2Proof

set_option Elab.async false

/-! Walkers and contexts. -/

section
variable {s t : State} {i : Nat}

theorem walkGet_congr (same : t.nvt.walkers = s.nvt.walkers) (i : Nat) : walkGet t i = walkGet s i := by
  unfold walkGet
  rw [same]

theorem ctxGet_congr (same : t.nvt.ctxs = s.nvt.ctxs) (i : Nat) : ctxGet t i = ctxGet s i := by
  unfold ctxGet
  rw [same]

theorem walkGet_walkSet_self (s : State) (i : Nat) (w : Walker) : walkGet (walkSet s i w) i = w := mapGetD_mapSet_self _ _ _ _

/-- What issuing the wanted read makes of a walker: it waits for the data, or still wants the read. -/
def Issued (w w' : Walker) : Prop :=
  w' = w ∨ (w.phase = .wantBlock ∧ w' = { w with phase := .block }) ∨ ∃ again, w.phase = .wantLink again ∧ w' = { w with phase := .link again }

/-- The tables that a walker leaves alone. -/
def SameTables (s t : State) : Prop := t.nvt.ctxs = s.nvt.ctxs ∧ t.nvt.places = s.nvt.places ∧ t.nvt.resume = s.nvt.resume

theorem SameTables.of_walkSet {u : State} (same : u.nvt = s.nvt) (i : Nat) (w : Walker) : SameTables s (walkSet u i w) := by
  unfold SameTables walkSet
  rw [same]
  exact ⟨rfl, rfl, rfl⟩

theorem walkIssue_issues (s : State) (i : Nat) : Issued (walkGet s i) (walkGet (walkIssue s i) i) ∧ SameTables s (walkIssue s i) := by
  unfold walkIssue
  extract_lets c w
  split
  next ep f owner =>
  split
  · next wants =>
    split
    · next n u issued => exact ⟨.inr (.inl ⟨wants, walkGet_walkSet_self _ _ _⟩), .of_walkSet ((issueRead_keeps issued).same .nvt) _ _⟩
    · exact ⟨.inl rfl, rfl, rfl, rfl⟩
  · next again wants =>
    split
    · next n u issued => exact ⟨.inr (.inr ⟨again, wants, walkGet_walkSet_self _ _ _⟩), .of_walkSet ((issueRead_keeps issued).same .nvt) _ _⟩
    · exact ⟨.inl rfl, rfl, rfl, rfl⟩
  · exact ⟨.inl rfl, rfl, rfl, rfl⟩

/-- A walker set to want a LINK, and its read issued if it can be. -/
theorem walkIssue_wantLink (s : State) (i : Nat) (w : Walker) (again : Bool) :
    walkGet (walkIssue (walkSet s i { w with phase := .wantLink again }) i) i = { w with phase := .wantLink again } ∨
    walkGet (walkIssue (walkSet s i { w with phase := .wantLink again }) i) i = { w with phase := .link again } := by
  have issued := (walkIssue_issues (walkSet s i { w with phase := .wantLink again }) i).1
  rw [walkGet_walkSet_self] at issued
  rcases issued with same | ⟨block, -⟩ | ⟨again', wants, issued⟩
  · exact .inl same
  · exact nomatch block
  · obtain rfl : again = again' := WalkPhase.wantLink.inj wants
    exact .inr issued

theorem followLink_ends {link : Nat} (last : bitAt link 0 = true) (again : Bool) : followLink s i link again =
    if !again then walkSet s i { walkGet s i with phase := .wait }
    else if (walkGet s i).doorbell then walkSet s i { walkGet s i with phase := .wait, doorbell := false }
    else walkSet s i { walkGet s i with phase := .stopped } := by
  unfold followLink
  dsimp only
  rw [last]
  rfl

theorem followLink_goes {link : Nat} (more : bitAt link 0 = false) (again : Bool) :
    (walkGet (followLink s i link again) i).block = link / 64 * 64 ∧
    ((walkGet (followLink s i link again) i).phase = .wantBlock ∨ (walkGet (followLink s i link again) i).phase = .block) ∧
    SameTables s (followLink s i link again) := by
  obtain ⟨u, named⟩ : ∃ u, u = walkSet s i { walkGet s i with block := link / 64 * 64, phase := .wantBlock } := ⟨_, rfl⟩
  have follows : followLink s i link again = walkIssue u i := by
    unfold followLink
    dsimp only
    rw [more, named]
    rfl
  have tables : SameTables s u := named ▸ ⟨rfl, rfl, rfl⟩
  obtain ⟨issued, ctxs, places, resume⟩ := walkIssue_issues u i
  have walker : walkGet u i = { walkGet s i with block := link / 64 * 64, phase := .wantBlock } := named ▸ walkGet_walkSet_self _ _ _
  rw [follows]
  refine ⟨?_, ?_, ctxs.trans tables.1, places.trans tables.2.1, resume.trans tables.2.2⟩
  · rcases issued with same | ⟨-, same⟩ | ⟨_, wants, -⟩
    · rw [same, walker]
    · rw [same, walker]
    · rw [walker] at wants
      exact nomatch wants
  · rcases issued with same | ⟨-, same⟩ | ⟨_, wants, -⟩
    · exact .inl (by rw [same, walker])
    · exact .inr (by rw [same])
    · rw [walker] at wants
      exact nomatch wants

/-- A block that starts a buffer gives it its segments. -/
theorem takeBlock_places {d : Bytes} (starts : bitAt (byteAt d 3) 0 = false) :
    mapGet (takeBlock s i d).nvt.places (placeKey i (ctxGet s i) (le d 0 2)) = some (blockSegs d) ∧
    walkGet (takeBlock s i d) i = { walkGet s i with cid := some (le d 0 2) } ∧ (takeBlock s i d).nvt.ctxs = s.nvt.ctxs := by
  unfold takeBlock
  rw [starts]
  exact ⟨mapGet_mapSet_self _ _ _, walkGet_walkSet_self _ _ _, rfl⟩

theorem chainBad_unreported {ep : Nat} (named : ep < 2) : ¬ EventReg (r_NVT_CNT_CHAIN_BAD ep) := by
  obtain rfl | rfl : ep = 0 ∨ ep = 1 := by omega
  · unfold EventReg
    decide
  · unfold EventReg
    decide

theorem eventToFunc_told (s : State) (ep f code : Nat) (payload : Bytes) : Told s (eventToFunc s ep f code payload) := by
  unfold eventToFunc
  exact .ite (eventToPf0_told _ _ _ _) (queueEvent_told _ _ _ _)

theorem ctxState_putLe (c : Bytes) : ctxState (putLe c 12 1 3) = 3 := congrArg BitVec.toNat (getD_splice_inside c (toLe 1 3) (off := 12) (i := 0) (by decide))

theorem chainError_stops (s : State) {i : Nat} (named : (ctxOwner (ctxGet s i)).1 < 2) :
    (walkGet (chainError s i) i).phase = .stopped ∧ ctxState (ctxGet (chainError s i) i) = 3 ∧ (chainError s i).nvt.places = s.nvt.places ∧
    Counted s (chainError s i) (r_NVT_CNT_CHAIN_BAD (ctxOwner (ctxGet s i)).1) 1 := by
  obtain ⟨ep, owner⟩ : ∃ ep, ep = (ctxOwner (ctxGet s i)).1 := ⟨_, rfl⟩
  obtain ⟨u, stopped⟩ : ∃ u, u = walkSet (ctxSet s i (putLe (ctxGet s i) 12 1 3)) i { walkGet s i with phase := .stopped, doorbell := false } := ⟨_, rfl⟩
  obtain ⟨v, told⟩ : ∃ v, v = bump u (r_NVT_CNT_CHAIN_BAD ep) := ⟨_, rfl⟩
  obtain ⟨code, func, f, gen, words, rest⟩ : ∃ code func f gen words, chainError s i =
      eventToFunc (errlogGen (drawn v) code ep func gen 0 (toLe 4 i)) ep f 0x8831 words := by
    rw [told, stopped, owner]
    exact ⟨_, _, _, _, _, rfl⟩
  have nvt : (chainError s i).nvt = u.nvt := by
    rw [rest, (eventToFunc_keeps _ _ _ _ _).same .nvt, (errlogGen_keeps _ _ _ _ _ _ _).same .nvt, drawn_nvt, told, bump_nvt]
  have last : Told v (chainError s i) := by
    rw [rest]
    exact ((Told.of_parts rfl rfl rfl : Told v (drawn v)).trans (errlogGen_told _ _ _ _ _ _ _)).trans (eventToFunc_told _ _ _ _ _)
  rw [← owner] at named ⊢
  refine ⟨?_, ?_, ?_, .of_bump (u := u) (.of_regs (by rw [stopped]; rfl)) told (last.regKept (chainBad_unreported named))⟩
  · rw [walkGet_congr (s := u) (congrArg Nvt.walkers nvt), stopped, walkGet_walkSet_self]
  · rw [ctxGet_congr (s := u) (congrArg Nvt.ctxs nvt), stopped]
    exact (congrArg ctxState (mapGetD_mapSet_self _ _ _ _)).trans (ctxState_putLe _)
  · rw [nvt, stopped]
    rfl

end

/-! Events of the walkers (R330 to R332). -/

section
variable {s : State} {ep i : Nat} {r : ReadReq} {d : Bytes}

/-- The read is taken off the endpoint's list. -/
def readTaken (s : State) (ep : Nat) (r : ReadReq) : State := epMod s ep (fun e => { e with reads := e.reads.filter (fun x => x.tag ≠ r.tag) })

theorem chainReread_rereads (waits : (walkGet s i).phase = .wait) : Completes (.chainReread i) s (fun t =>
    walkGet t i = { walkGet s i with phase := .wantLink true } ∨ walkGet t i = { walkGet s i with phase := .link true }) := by
  have row : exec (.chainReread i) s = .next (walkIssue (walkSet s i { walkGet s i with phase := .wantLink true }) i) := if_pos waits
  exact completes_of row (walkIssue_wantLink s i (walkGet s i) true)

theorem chainReread_idle (other : (walkGet s i).phase ≠ .wait) : exec (.chainReread i) s = .next s := if_neg other

section
variable (read : (epGet s ep).reads.find? (fun r => r.queue = i && (r.purpose = 3 || r.purpose = 4) && !r.quarantined && r.data.isSome) = some r)
  (data : r.data = some d)
include read data

theorem chainBlockRead_block (phase : (walkGet s i).phase = .block) : exec (.chainBlockRead ep i) s =
    .next (if blockBad d (walkGet s i).cid then chainError (readTaken s ep r) i
      else followLink (takeBlock (readTaken s ep r) i d) i (le d 56 8) false) := by
  show execChainBlockRead ep i s = _
  unfold execChainBlockRead
  dsimp only
  rw [read]
  dsimp only
  rw [data, phase]
  dsimp only
  rw [Option.getD_some]
  by_cases bad : blockBad d (walkGet s i).cid = true
  · rw [if_pos bad, if_pos bad]
    rfl
  · rw [if_neg bad, if_neg bad]
    rfl

theorem chainBlockRead_link {again : Bool} (phase : (walkGet s i).phase = .link again) (clean : bits (le d 0 8) 5 1 = 0) :
    exec (.chainBlockRead ep i) s = .next (followLink (readTaken s ep r) i (le d 0 8) again) := by
  show execChainBlockRead ep i s = _
  unfold execChainBlockRead
  dsimp only
  rw [read]
  dsimp only
  rw [data, phase]
  exact if_neg (fun h => h clean)

theorem chainBlockRead_buffers (phase : (walkGet s i).phase = .block) :
    (blockBad d (walkGet s i).cid = false → bitAt (byteAt d 3) 0 = false → bitAt (le d 56 8) 0 = true →
      Completes (.chainBlockRead ep i) s (fun t => mapGet t.nvt.places (placeKey i (ctxGet s i) (le d 0 2)) = some (blockSegs d) ∧
        walkGet t i = { walkGet s i with phase := .wait, cid := some (le d 0 2) } ∧ t.nvt.ctxs = s.nvt.ctxs)) ∧
    (blockBad d (walkGet s i).cid = false → bitAt (byteAt d 3) 0 = false → bitAt (le d 56 8) 0 = false →
      Completes (.chainBlockRead ep i) s (fun t => mapGet t.nvt.places (placeKey i (ctxGet s i) (le d 0 2)) = some (blockSegs d) ∧
        (walkGet t i).block = le d 56 8 / 64 * 64 ∧ ((walkGet t i).phase = .wantBlock ∨ (walkGet t i).phase = .block))) ∧
    (blockBad d (walkGet s i).cid = true → (ctxOwner (ctxGet s i)).1 < 2 → Completes (.chainBlockRead ep i) s (fun t =>
      (walkGet t i).phase = .stopped ∧ ctxState (ctxGet t i) = 3 ∧ t.nvt.places = s.nvt.places ∧
      Counted s t (r_NVT_CNT_CHAIN_BAD (ctxOwner (ctxGet s i)).1) 1)) := by
  have row := chainBlockRead_block read data phase
  have nvt : (readTaken s ep r).nvt = s.nvt := (epMod_keeps _ _ _).same .nvt
  have ctx : ctxGet (readTaken s ep r) i = ctxGet s i := ctxGet_congr (congrArg Nvt.ctxs nvt) i
  have walker : walkGet (readTaken s ep r) i = walkGet s i := walkGet_congr (congrArg Nvt.walkers nvt) i
  refine ⟨fun good starts ends => ?_, fun good starts more => ?_, fun bad named => ?_⟩
  · rw [good, if_neg Bool.false_ne_true, followLink_ends ends] at row
    obtain ⟨placed, follows, ctxs⟩ := takeBlock_places (s := readTaken s ep r) (i := i) starts
    rw [ctx] at placed
    exact completes_of row ⟨placed, (walkGet_walkSet_self _ _ _).trans (by rw [follows, walker]), ctxs.trans (congrArg Nvt.ctxs nvt)⟩
  · rw [good, if_neg Bool.false_ne_true] at row
    obtain ⟨placed, -, -⟩ := takeBlock_places (s := readTaken s ep r) (i := i) starts
    obtain ⟨block, wants, -, places, -⟩ := followLink_goes (s := takeBlock (readTaken s ep r) i d) (i := i) more false
    rw [ctx] at placed
    exact completes_of row ⟨by rw [places]; exact placed, block, wants⟩
  · rw [bad, if_pos rfl] at row
    obtain ⟨stopped, state, places, counted⟩ := chainError_stops (readTaken s ep r) (i := i) (by rw [ctx]; exact named)
    rw [ctx] at counted
    exact completes_of row ⟨stopped, state, places.trans (congrArg Nvt.places nvt), counted.since (.of_keeps (epMod_keeps _ _ _))⟩

theorem chainBlockRead_ends (clean : bits (le d 0 8) 5 1 = 0) (last : bitAt (le d 0 8) 0 = true) :
    ((walkGet s i).phase = .link false → Completes (.chainBlockRead ep i) s (fun t => walkGet t i = { walkGet s i with phase := .wait })) ∧
    ((walkGet s i).phase = .link true → (walkGet s i).doorbell = false → Completes (.chainBlockRead ep i) s (fun t =>
      walkGet t i = { walkGet s i with phase := .stopped })) ∧
    ((walkGet s i).phase = .link true → (walkGet s i).doorbell = true → Completes (.chainBlockRead ep i) s (fun t =>
      walkGet t i = { walkGet s i with phase := .wait, doorbell := false })) := by
  have walker : walkGet (readTaken s ep r) i = walkGet s i := walkGet_congr (congrArg Nvt.walkers ((epMod_keeps _ _ _).same .nvt)) i
  refine ⟨fun phase => ?_, fun phase silent => ?_, fun phase rung => ?_⟩
  · have row := chainBlockRead_link read data phase clean
    rw [followLink_ends last, walker] at row
    exact completes_of row (walkGet_walkSet_self _ _ _)
  · have row := chainBlockRead_link read data phase clean
    rw [followLink_ends last, walker, silent] at row
    exact completes_of row (walkGet_walkSet_self _ _ _)
  · have row := chainBlockRead_link read data phase clean
    rw [followLink_ends last, walker, rung] at row
    exact completes_of row (walkGet_walkSet_self _ _ _)

end

theorem chainDoorbell_rings {f : Nat} {v : Word} {x : Slice} (host : barOpen s ep f = true) (bound : boundSlice s ep f = some x)
    (named : i = bits v.toNat 16 0) (low : x.nvtBase ≤ i) (high : i < x.nvtBase + x.nvtCount) (valid : ctxFlag (ctxGet s i) 0 = true)
    (sound : ctxState (ctxGet s i) ≠ 3) :
    ((walkGet s i).phase = .stopped → Completes (.hifVfDbChain ep f v true) s (fun t =>
      walkGet t i = { walkGet s i with phase := .wantLink false } ∨ walkGet t i = { walkGet s i with phase := .link false })) ∧
    ((walkGet s i).phase ≠ .stopped → Completes (.hifVfDbChain ep f v true) s (fun t =>
      walkGet t i = { walkGet s i with doorbell := true } ∧ ChangesOnly [.nvt] s t)) := by
  have row : exec (.hifVfDbChain ep f v true) s = .next (if (walkGet s i).phase = .stopped then
      walkIssue (walkSet s i { walkGet s i with phase := .wantLink false }) i else walkSet s i { walkGet s i with doorbell := true }) := by
    subst named
    have inRange : ¬ (bits v.toNat 16 0 < x.nvtBase ∨ x.nvtBase + x.nvtCount ≤ bits v.toNat 16 0 ∨ ¬ ctxFlag (ctxGet s (bits v.toNat 16 0)) 0 = true ∨
        ctxState (ctxGet s (bits v.toNat 16 0)) = 3) := by
      rintro (below | above | invalid | failed)
      · omega
      · omega
      · exact invalid valid
      · exact sound failed
    show execHifVfDbChain ep f v true s = _
    unfold execHifVfDbChain
    dsimp only
    rw [host, bound]
    dsimp only
    rw [if_neg (by decide), if_neg (by decide), if_neg inRange]
    by_cases stopped : (walkGet s (bits v.toNat 16 0)).phase = .stopped
    · rw [if_pos stopped, if_pos stopped]
    · rw [if_neg stopped, if_neg stopped]
  refine ⟨fun stopped => ?_, fun runs => ?_⟩
  · rw [if_pos stopped] at row
    exact completes_of row (walkIssue_wantLink s i (walkGet s i) false)
  · rw [if_neg runs] at row
    exact completes_of row ⟨walkGet_walkSet_self _ _ _, (walkSet_keeps _ _ _).frame⟩

theorem chainDoorbell_discards {f : Nat} {v : Word} {full : Bool} (host : barOpen s ep f = true) (unbound : boundSlice s ep f = none)
    (last : f ≤ 1024) : Completes (.hifVfDbChain ep f v full) s (fun t => Counted s t (r_HIF_CNT_DB_BAD ep) 1 ∧ ChangesOnly [.regs] s t) := by
  have row : exec (.hifVfDbChain ep f v full) s = .next (dbBad s ep f) := by
    show execHifVfDbChain ep f v full s = _
    unfold execHifVfDbChain
    dsimp only
    rw [host, unbound]
    rfl
  refine completes_of row ?_
  by_cases pf : f = 0
  · have alone : dbBad s ep f = bump s (r_HIF_CNT_DB_BAD ep) := if_pos pf
    rw [alone]
    exact ⟨counted_bump _ _, bump_changes _ _⟩
  · obtain ⟨counted, -, frame⟩ := dbBad_counts s (ep := ep) (Nat.one_le_iff_ne_zero.mpr pf) last
    exact ⟨counted, frame⟩

end

/-! The commands of contexts (R324, R328, R332, R334). -/

theorem nvtContextRead_reads : AnswersOk .nvtContextRead 0x0831 (fun s ch req => nvtMay s ch (bits (le req 0 4) 16 0) = true)
    (fun s _ req => toLe 4 (bits (le req 0 4) 16 0) ++ zeros 4 ++ ctxGet s (bits (le req 0 4) 16 0)) (fun s t ch _ => AnswerFrame [] s t ch) :=
  answersOk_query (fun s ch seq => (rfl : execNvtContextRead ch seq s = _)) (fun s ch seq req may => by
    dsimp only
    rw [may]
    rfl)

theorem nvtResync_names : AnswersOk .nvtResync 0x0832 (fun s ch req => nvtMay s ch (bits (le req 0 4) 16 0) = true ∧
      ctxFlag (ctxGet s (bits (le req 0 4) 16 0)) 0 = true) (fun _ _ _ => [])
    (fun s t ch req => mapGet t.nvt.resume (bits (le req 0 4) 16 0) = some (BitVec.ofNat 32 (le req 4 4)) ∧ t.nvt.ctxs = s.nvt.ctxs ∧
      bits (le req 0 4) 16 0 ∉ t.nvt.resyncSent ∧ AnswerFrame [.nvt] s t ch) := by
  refine answersOk_set (row := fun s ch seq => (rfl : execNvtResync ch seq s = _)) (fun s ch seq req fits => ?_)
  obtain ⟨may, valid⟩ := fits
  obtain ⟨u, named⟩ : ∃ u : State, u = { s with nvt := { s.nvt with
      resume := mapSet s.nvt.resume (bits (le req 0 4) 16 0) (BitVec.ofNat 32 (le req 4 4)),
      resyncSent := s.nvt.resyncSent.filter (fun x => x ≠ bits (le req 0 4) 16 0) } } := ⟨_, rfl⟩
  have changes : ChangesOnly [.nvt] s u := named ▸ .of_patch rfl
  refine ⟨u, ?_, by rw [named], ?_, ?_, ?_, answer_frame_quiet _ _ _ _ changes (by decide) (by decide)⟩
  · dsimp only
    rw [may, valid, named]
    rfl
  · rw [answer_nvt, named]
    exact mapGet_mapSet_self _ _ _
  · rw [answer_nvt, named]
  · rw [answer_nvt, named]
    simp

/-- A context as it is kept: unused bits are 0, and it waits for NVT_RESYNC when it is valid (R324, R328). -/
def contextOf (c : Bytes) : Bytes :=
  splice (putLe (putLe (putLe (putLe c 0 1 (byteAt c 0 % 64)) 4 2 (ctxSlice c)) 8 4 0) 12 1 (if ctxFlag c 0 then 2 else 0)) 18 (zeros 6)

theorem le_congr {b c : Bytes} {off n : Nat} (same : ∀ j < n, b.getD (off + j) 0 = c.getD (off + j) 0) : le b off n = le c off n := by
  unfold le
  congr 1
  refine bytes_ext (by rw [length_slice, length_slice]) (fun j below => ?_)
  rw [length_slice] at below
  rw [getD_slice _ _ below, getD_slice _ _ below, same j below]

theorem le_putLe_at (b : Bytes) (off n v : Nat) : le (putLe b off n v) off n = v % 256 ^ n := by
  have stored := slice_splice b (toLe n v) off
  rw [length_toLe] at stored
  unfold le putLe
  rw [stored, leVal_toLe]

theorem le_putLe_apart (b : Bytes) {off n v o m : Nat} (apart : o + m ≤ off ∨ off + n ≤ o) : le (putLe b off n v) o m = le b o m :=
  le_congr (fun j below => getD_putLe_outside b (by omega))

theorem byteAt_le (b : Bytes) (i : Nat) : byteAt b i = le b i 1 := by
  unfold le
  have one : slice b i 1 = [b.getD i 0] := bytes_ext (by rw [length_slice]; rfl) (fun j below => by
    rw [length_slice] at below
    obtain rfl : j = 0 := by omega
    exact getD_slice _ _ below)
  rw [one, leVal, leVal]
  rfl

theorem contextOf_fields (c : Bytes) : ctxState (contextOf c) = (if ctxFlag c 0 then 2 else 0) ∧ ctxSlice (contextOf c) = ctxSlice c ∧
    ctxNext (contextOf c) = 0 ∧ ctxChain (contextOf c) = ctxChain c := by
  have last (b : Bytes) {o m : Nat} (apart : o + m ≤ 18 ∨ 24 ≤ o) : le (splice b 18 (zeros 6)) o m = le b o m :=
    le_congr (fun j below => getD_splice_outside b _ (by rw [zeros, List.length_replicate]; omega))
  unfold contextOf ctxState ctxNext ctxChain
  refine ⟨?_, ?_, ?_, ?_⟩
  · rw [byteAt_le, last _ (by omega), le_putLe_at]
    split
    · rfl
    · rfl
  · show bits (le _ 4 2) 11 0 = _
    rw [last _ (by omega), le_putLe_apart _ (by omega), le_putLe_apart _ (by omega), le_putLe_at]
    unfold ctxSlice bits
    omega
  · rw [last _ (by omega), le_putLe_apart _ (by omega), le_putLe_at]
    rfl
  · rw [last _ (by omega), le_putLe_apart _ (by omega), le_putLe_apart _ (by omega), le_putLe_apart _ (by omega), le_putLe_apart _ (by omega)]

theorem nvtContextSet_sets : AnswersOk .nvtContextSet 0x0830 (fun s ch req => saMay s ch (ctxSlice (slice req 8 64)) = true ∧
      nvtOwned s (ctxSlice (slice req 8 64)) (bits (le req 0 4) 16 0) = true ∧ ctxOk s (slice req 8 64) = true) (fun _ _ _ => [])
    (fun s t _ req => ctxState (ctxGet t (bits (le req 0 4) 16 0)) = (if ctxFlag (slice req 8 64) 0 then 2 else 0) ∧
      ctxSlice (ctxGet t (bits (le req 0 4) 16 0)) = ctxSlice (slice req 8 64) ∧ ctxNext (ctxGet t (bits (le req 0 4) 16 0)) = 0 ∧
      (∀ j, j ≠ bits (le req 0 4) 16 0 → ctxGet t j = ctxGet s j) ∧ mapGet t.nvt.resume (bits (le req 0 4) 16 0) = none ∧
      (walkGet t (bits (le req 0 4) 16 0)).block = ctxChain (slice req 8 64)) := by
  refine answersOk_set (row := fun s ch seq => (rfl : execNvtContextSet ch seq s = _)) (fun s ch seq req fits => ?_)
  obtain ⟨may, owned, ok⟩ := fits
  obtain ⟨i, index⟩ : ∃ i, i = bits (le req 0 4) 16 0 := ⟨_, rfl⟩
  obtain ⟨c, kept⟩ : ∃ c, c = contextOf (slice req 8 64) := ⟨_, rfl⟩
  obtain ⟨state, named, next, chain⟩ := contextOf_fields (slice req 8 64)
  rw [← kept] at state named next chain
  rw [← index] at owned ⊢
  obtain ⟨n, tables⟩ : ∃ n : Nvt, n = { s.nvt with
        ctxs := mapSet s.nvt.ctxs i c, places := s.nvt.places.filter (fun p => p.1 / 4096 ≠ i), resume := mapErase s.nvt.resume i,
        resyncSent := s.nvt.resyncSent.filter (fun x => x ≠ i), partialPdu := mapErase s.nvt.partialPdu i,
        byDriver := (s.nvt.byDriver.filter (fun x => x ≠ i)) ++ (if 8 ≤ ch ∧ ch < 2056 then [i] else []),
        walkers := mapSet s.nvt.walkers i { block := ctxChain c, phase := if ctxFlag c 0 && ctxFlag c 3 then .wantBlock else .stopped } } := ⟨_, rfl⟩
  obtain ⟨u, written⟩ : ∃ u : State, u = epMod { s with nvt := n } (ctxOwner c).1 (fun e => { e with reads := e.reads.map (fun r =>
        if r.queue = i ∧ (r.purpose = 3 ∨ r.purpose = 4) then { r with purpose := 9 } else r) }) := ⟨_, rfl⟩
  have nvt : u.nvt = n := written ▸ (epMod_keeps _ _ _).same .nvt
  obtain ⟨issued, ctxs, places, resume⟩ := walkIssue_issues u i
  rw [nvt] at ctxs resume
  have walker : (walkGet u i).block = ctxChain c := by
    rw [walkGet, nvt, tables]
    exact congrArg Walker.block (mapGetD_mapSet_self _ _ _ _)
  have ctx : ctxGet (answer (walkIssue u i) ch seq rcOk []) i = c := by
    rw [ctxGet, answer_nvt, ctxs, tables]
    exact mapGetD_mapSet_self _ _ _ _
  refine ⟨walkIssue u i, ?_, ?_, ctx ▸ state, ctx ▸ named, ctx ▸ next, fun j other => ?_, ?_, ?_⟩
  · dsimp only
    rw [may, owned, ok, written, tables, kept]
    rfl
  · rw [(walkIssue_keeps _ _).same .mbx, written, (epMod_keeps _ _ _).same .mbx]
  · rw [ctxGet, answer_nvt, ctxs, tables]
    exact mapGetD_mapSet_ne _ _ _ other
  · rw [answer_nvt, resume, tables]
    exact mapGet_mapErase_self _ _
  · rw [walkGet_congr (s := walkIssue u i) (by rw [answer_nvt]), ← chain, ← walker]
    rcases issued with same | ⟨-, same⟩ | ⟨_, -, same⟩
    · rw [same]
    · rw [same]
    · rw [same]

/-- Settles O54, one lemma for each event of a walker and for each command. -/
theorem chainWalkersAndContextsOfNvt : Obligations.ChainWalkersAndContextsOfNvt := by
  unfold Obligations.ChainWalkersAndContextsOfNvt
  exact ⟨⟨fun s ep i r d read data phase => chainBlockRead_buffers read data phase,
    fun s ep i r d read data clean last => chainBlockRead_ends read data clean last, fun s i waits => chainReread_rereads waits,
    fun s i other => chainReread_idle other,
    fun s ep f v i x host bound named low high valid sound => chainDoorbell_rings host bound named low high valid sound,
    fun s ep f v full host unbound _ last => chainDoorbell_discards host unbound last⟩,
    nvtContextSet_sets, nvtContextRead_reads, nvtResync_names⟩

end Sys2Proof.Machine

end

section

/-! PROOFS. The time value, its oscillator, its steps and its commands (R379 to R387, R412). -/

namespace Sys2Proof.Machine
open Sys2Proof

set_option Elab.async false

section
variable {s : State}

theorem oscLoss_switches (on : clockOn s = true) (main : s.time.onFallback = false) : Completes .oscLoss s (fun t => t.time.oscLost = true ∧
    t.time.onFallback = s.dev.ethRefclk ∧ t.dev.tbOsc = false ∧ t.time.now = s.time.now ∧
    ChangesOnly [.time, .dev, .mbx, .gauge, .regs] s t) := by
  obtain ⟨u, lost⟩ : ∃ u : State, u = { s with time := { s.time with oscLost := true, onFallback := s.dev.ethRefclk }, dev := { s.dev with tbOsc := false } } :=
    ⟨_, rfl⟩
  have row : exec .oscLoss s = .next (eventToManager u 0x8701 (toLe 1 (b2n s.dev.ethRefclk) ++ zeros 3)) := by
    rw [lost]
    exact if_pos (by rw [on, main]; rfl)
  have changes : ChangesOnly [.time, .dev, .mbx, .gauge, .regs] s u := lost ▸ .of_patch rfl
  have told := eventToManager_keeps u 0x8701 (toLe 1 (b2n s.dev.ethRefclk) ++ zeros 3)
  refine completes_of row ⟨?_, ?_, ?_, ?_, changes.step (told.frame.mono (by decide))⟩
  · rw [told.same .time, lost]
  · rw [told.same .time, lost]
  · rw [told.same .dev, lost]
  · rw [told.same .time, lost]

/-- Telling the manager starts no command. -/
theorem eventToManager_startedOn (code : Nat) (payload : Bytes) (ch : Nat) : startedOn ch (eventToManager s code payload) = startedOn ch s :=
  (eventToManager_told s code payload).started ch

theorem sluiceStep_started (ch : Nat) : startedOn ch (sluiceStep s) = startedOn ch s := by
  unfold sluiceStep
  refine foldl_same (startedOn ch) (fun u m => ?_) _ s
  dsimp only
  split
  · rw [eventToManager_startedOn]
    exact startedOn_keeps (takeEntry_keeps _ _ _) ch
  · rfl

theorem tioStep_started (c ch : Nat) : startedOn ch (tioStep s c) = startedOn ch s := by
  unfold tioStep
  dsimp only
  split
  · split
    · unfold tioLate
      rw [eventToManager_startedOn]
      exact startedOn_keeps (tioFire_keeps _ _) ch
    · rfl
  · split
    · exact startedOn_keeps (tioDrive_keeps _ _ _) ch
    · rfl

/-- A step writes the time and counts, and tells of it; all else of the time stays (R384). -/
theorem stepTime_steps (cause : Nat) (v : TimeVal) :
    (stepTime s cause v).time = { s.time with now := v, stepped := true, stepCount := s.time.stepCount + 1 } ∧
    ∀ ch, startedOn ch (stepTime s cause v) = startedOn ch s := by
  unfold stepTime
  extract_lets off time a b c d
  have edges : b.time = a.time ∧ ∀ ch, startedOn ch b = startedOn ch a :=
    ⟨((sluiceStep_keeps _).same .time).trans ((cisternStep_keeps a).same .time),
      fun ch => (sluiceStep_started ch).trans (startedOn_keeps (cisternStep_keeps a) ch)⟩
  have outputs : c.time = b.time ∧ ∀ ch, startedOn ch c = startedOn ch b :=
    ⟨foldl_same State.time (fun u n => (tioStep_keeps u n).same .time) _ b, fun ch => foldl_same (startedOn ch) (fun u n => tioStep_started n ch) _ b⟩
  have traced : d.time = c.time ∧ ∀ ch, startedOn ch d = startedOn ch c :=
    ⟨(trace_keeps _ _ _ _ _ _ _).same .time, fun ch => startedOn_keeps (trace_keeps _ _ _ _ _ _ _) ch⟩
  refine ⟨?_, fun ch => ?_⟩
  · rw [(eventToManager_keeps _ _ _).same .time, traced.1, outputs.1, edges.1]
  · rw [eventToManager_startedOn, traced.2, outputs.2, edges.2]
    rfl

theorem answerAsked_time (t : State) (cmd : Option (Nat × Nat)) (body : Bytes) : (answerAsked t cmd body).time = t.time := by
  unfold answerAsked
  split
  · exact answer_time _ _ _ _ _
  · rfl

theorem answerAsked_answered {t : State} {cmd : Option (Nat × Nat)} {ch seq : Nat} (body : Bytes) (asked : cmd = some (ch, seq))
    (waits : Unanswered t ch seq) : Answered (answerAsked t cmd body) ch seq rcOk body := by
  rw [asked]
  exact answer_answered _ _ waits

theorem timeStep_steps {r : StepReq} {rest : List StepReq} {v : TimeVal} (asked : s.time.steps = r :: rest)
    (target : stepTarget { s with time := { s.time with steps := rest } } r = some v) : Completes .timeStep s (fun t => t.time.now = v ∧
      t.time.stepped = true ∧ t.time.stepCount = s.time.stepCount + 1 ∧ t.time.steps = rest ∧ ∀ ch seq, r.cmd = some (ch, seq) →
      Unanswered s ch seq → Answered t ch seq rcOk (toLe 4 (s.time.stepCount + 1).toNat)) := by
  obtain ⟨u, taken⟩ : ∃ u : State, u = { s with time := { s.time with steps := rest } } := ⟨_, rfl⟩
  obtain ⟨stepped, started⟩ := stepTime_steps (s := u) r.cause v
  have count : (stepTime u r.cause v).time.stepCount = s.time.stepCount + 1 := by rw [stepped, taken]
  have row : exec .timeStep s = .next (answerAsked (stepTime u r.cause v) r.cmd (toLe 4 (stepTime u r.cause v).time.stepCount.toNat)) := by
    show execTimeStep s = _
    unfold execTimeStep
    rw [asked]
    dsimp only
    rw [target, ← taken]
    rfl
  rw [count] at row
  refine completes_of row ⟨?_, ?_, ?_, ?_, fun ch seq same waits => ?_⟩
  · rw [answerAsked_time, stepped]
  · rw [answerAsked_time, stepped]
  · rw [answerAsked_time, count]
  · rw [answerAsked_time, stepped, taken]
  · exact answerAsked_answered _ same (waits.congr ((started ch).trans (by rw [taken]; rfl)))

/-- A step asked for by a command waits at the end of the list (R383). -/
theorem askStep_waits {ch seq op : Nat} {req : Bytes} (begun : Begun s ch seq op req) (r : StepReq) :
    RunsOn (askStep (defer s ch seq) r) ch seq op ∧ ChangesOnly [.mbx, .time] s (askStep (defer s ch seq) r) ∧
    (askStep (defer s ch seq) r).time = { s.time with steps := s.time.steps ++ [r] } := by
  have deferred : ChangesOnly [.mbx, .time] s (defer s ch seq) := (defer_keeps _ _ _).frame.mono (by decide)
  have asked : ChangesOnly [.mbx, .time] (defer s ch seq) (askStep (defer s ch seq) r) := .of_patch rfl
  exact ⟨(defer_runs begun).congr rfl, (deferred.trans asked).mono (by decide), by unfold askStep; rw [defer_time]⟩

end

theorem timeSet_waits : RunsLater .timeSet 0x0701 (fun s _ req => s.plb.state = .manual ∧ le req 8 4 ≤ 999999999)
    (fun s t ch seq req => ChangesOnly [.mbx, .time] s t ∧ t.time = { s.time with steps := s.time.steps ++
      [StepReq.mk 0 ⟨BitVec.ofNat 64 (le req 0 8), BitVec.ofNat 30 (le req 8 4), BitVec.ofNat 56 (le req 12 4 * 2 ^ 24)⟩ 0 (some (ch, seq))] }) := by
  rintro s ch seq req begun ⟨manual, small⟩
  refine completes_command begun (rfl : execTimeSet ch seq s = _) ?_
  dsimp only
  rw [if_neg (fun h => h manual), if_neg (by omega)]
  exact askStep_waits begun _

theorem timeOffset_waits : RunsLater .timeOffset 0x0702 (fun s _ _ => s.plb.state = .manual)
    (fun s t ch seq req => ChangesOnly [.mbx, .time] s t ∧ t.time = { s.time with steps := s.time.steps ++
      [StepReq.mk 1 {} (signed 64 (le req 0 8)) (some (ch, seq))] }) := by
  intro s ch seq req begun manual
  refine completes_command begun (rfl : execTimeOffset ch seq s = _) ?_
  dsimp only
  rw [if_neg (fun h => h manual)]
  exact askStep_waits begun _

theorem timeFreqSet_sets : AnswersOk .timeFreqSet 0x0703 (fun s _ req => s.plb.state = .manual ∧ rateOk (signed 64 (le req 0 8)) = true) (fun _ _ _ => [])
    (fun s t _ req => t.time = { s.time with adj := BitVec.ofInt 64 (signed 64 (le req 0 8)) }) := by
  refine answersOk_set (row := fun s ch seq => (rfl : execTimeFreqSet ch seq s = _)) (fun s ch seq req fits => ?_)
  obtain ⟨manual, rate⟩ := fits
  refine ⟨setAdj s (signed 64 (le req 0 8)), ?_, rfl, by rw [answer_time]; rfl⟩
  dsimp only
  rw [if_neg (fun h => h manual), rate]
  rfl

theorem ofNat_and_full (n : Nat) : BitVec.ofNat 32 ((BitVec.ofNat 32 n).toNat &&& (2 ^ 32 - 1)) = BitVec.ofNat 32 n := by
  rw [Nat.and_two_pow_sub_one_eq_mod, Nat.mod_eq_of_lt (BitVec.isLt _), BitVec.ofNat_toNat, BitVec.setWidth_eq]

theorem timeTrimSet_sets : AnswersOk .timeTrimSet 0x0704 (fun _ _ req => rateOk (signed 64 (le req 0 8)) = true) (fun _ _ _ => [])
    (fun s t ch req => hwWord t 0x080 = BitVec.ofNat 32 (le req 0 8) ∧ hwWord t 0x081 = BitVec.ofNat 32 (le req 0 8 / 4294967296) ∧
      AnswerFrame [.hw] s t ch) := by
  refine answersOk_set (row := fun s ch seq => (rfl : execTimeTrimSet ch seq s = _)) (fun s ch seq req rate => ?_)
  have keeps := hwSetPair_keeps s 0x080 (le req 0 8)
  refine ⟨hwSetPair s 0x080 (le req 0 8), if_pos rate, keeps.same .mbx, ?_, ?_, answer_frame_quiet _ _ _ _ keeps.frame (by decide) (by decide)⟩
  · rw [hwWord_answer]
    exact (hwWord_hwJournal s 0x080 0 [_, _] (Nat.lt_of_sub_eq_succ rfl) (by decide)).trans (ofNat_and_full _)
  · rw [hwWord_answer]
    exact (hwWord_hwJournal s 0x080 1 [_, _] (Nat.lt_of_sub_eq_succ rfl) (by decide)).trans (ofNat_and_full _)

theorem latWord_range {kind unit index dir w : Nat} (named : latWord kind unit index dir = some w) : 0x090 ≤ w ∧ w ≤ 0x0D3 := by
  unfold latWord at named
  split_ifs at named
  · injection named
    omega
  · injection named
    omega
  · injection named
    omega
  · injection named
    omega

theorem timeLatSet_sets : AnswersOk .timeLatSet 0x0705
    (fun _ _ req => (latWord (byteAt req 0) (byteAt req 1) (byteAt req 2) (byteAt req 3)).isSome = true) (fun _ _ _ => [])
    (fun s t ch req => (∀ w, latWord (byteAt req 0) (byteAt req 1) (byteAt req 2) (byteAt req 3) = some w →
        hwWord t w = BitVec.ofNat 32 (le req 4 4) ∧ ∀ x, x ≠ w → hwWord t x = hwWord s x) ∧ AnswerFrame [.hw] s t ch) := by
  refine answersOk_set (row := fun s ch seq => (rfl : execTimeLatSet ch seq s = _)) (fun s ch seq req named => ?_)
  obtain ⟨w, named⟩ := Option.isSome_iff_exists.mp named
  have keeps := hwSet_keeps s w (BitVec.ofNat 32 (le req 4 4))
  refine ⟨hwSet s w (BitVec.ofNat 32 (le req 4 4)), ?_, keeps.same .mbx, fun w' same => ?_, answer_frame_quiet _ _ _ _ keeps.frame (by decide) (by decide)⟩
  · rw [named]
  · obtain rfl := Option.some.inj (named.symm.trans same)
    obtain ⟨low, high⟩ := latWord_range named
    have mask : ∀ k < 68, hwMask (0x090 + k) = 2 ^ 32 - 1 := by decide
    have here := mask (w - 0x090) (by omega)
    rw [show 0x090 + (w - 0x090) = w by omega] at here
    have fits := le_lt req 4 4
    refine ⟨?_, fun x other => ?_⟩
    · rw [hwWord_answer]
      exact hwWord_hwSet_small s fits (by rw [here, Nat.and_two_pow_sub_one_eq_mod]; exact Nat.mod_eq_of_lt fits)
    · rw [hwWord_answer, hwWord_hwSet_ne _ _ other]

/-- Settles O55, one lemma for each event of the clock and for each command. -/
theorem theTimeValueAndItsCommands : Obligations.TheTimeValueAndItsCommands := by
  unfold Obligations.TheTimeValueAndItsCommands
  exact ⟨⟨fun s on => if_pos on, fun s on main => oscLoss_switches on main, fun s on => if_pos on,
    fun s r rest v asked target => timeStep_steps asked target⟩,
    answersOk_query (fun s ch seq => (rfl : execTimeGet ch seq s = _)) (fun _ _ _ _ _ => rfl), timeSet_waits, timeOffset_waits, timeFreqSet_sets,
    timeTrimSet_sets, timeLatSet_sets⟩

end Sys2Proof.Machine

end

section

/-! PROOFS. Timed I/O, the pops of its queues, boundary scan and the Ethernet reference clock (R406 to R409, R412, R657 to R659). -/

namespace Sys2Proof.Machine
open Sys2Proof

set_option Elab.async false

/-! Channels of timed I/O. -/

section
variable {s t : State} {c : Nat}

theorem tioGet_congr (same : t.tio = s.tio) (c : Nat) : tioGet t c = tioGet s c := by
  unfold tioGet
  rw [same]

theorem tioGet_tioSet_self (s : State) (c : Nat) (x : TioChan) : tioGet (tioSet s c x) c = x := mapGetD_mapSet_self _ _ _ _

theorem tioGet_tioDrive (s : State) (c : Nat) (level : Bool) : tioGet (tioDrive s c level) c = { tioGet s c with active := level } := by
  unfold tioDrive
  dsimp only
  split
  · next same =>
    obtain ⟨x, chan⟩ : ∃ x, x = tioGet s c := ⟨_, rfl⟩
    rw [← chan] at same ⊢
    rw [← same]
  · exact tioGet_tioSet_self _ _ _

theorem tioGet_tioFire (s : State) (c : Nat) :
    tioGet (tioFire s c) c = { tioGet s c with armed := false, live := true, active := tioLevel (tioGet s c) (fineNow s) } := by
  unfold tioFire
  rw [tioGet_tioDrive, tioGet_tioSet_self]
  rfl

theorem tioGet_tioLate (s : State) (c : Nat) :
    tioGet (tioLate s c) c = { tioGet s c with armed := false, live := true, active := tioLevel (tioGet s c) (fineNow s) } := by
  rw [← tioGet_tioFire]
  exact tioGet_congr ((eventToManager_keeps _ _ _).same .tio) c

/-- A commit takes the written settings; what follows at once changes the level and the arming alone (R407, R410). -/
theorem tioGet_tioCommit (s : State) (c : Nat) : (tioGet (tioCommit s c) c).mode = bits (reg s (r_TIO_CFG c)).toNat 2 0 ∧
    (tioGet (tioCommit s c) c).edge = bits (reg s (r_TIO_CFG c)).toNat 5 4 ∧ (tioGet (tioCommit s c) c).width = (reg s (r_TIO_WIDTH c)).toNat ∧
    (tioGet (tioCommit s c) c).startNs = (reg s (r_TIO_START_NS c)).toNat := by
  unfold tioCommit
  extract_lets cfg x y u v
  have set : tioGet u c = y := tioGet_tioSet_self _ _ _
  have driven : tioGet v c = { y with active := false } := (tioGet_tioDrive u c false).trans (by rw [set])
  split
  · split
    · rw [tioGet_tioLate, driven]
      exact ⟨rfl, rfl, rfl, rfl⟩
    · rw [driven]
      exact ⟨rfl, rfl, rfl, rfl⟩
  · rw [tioGet_tioDrive, set]
    exact ⟨rfl, rfl, rfl, rfl⟩

theorem tioArm_arms (on : clockOn s = true) (named : c ≤ 9) (mode : tioModeOk c (bits (reg s (r_TIO_CFG c)).toNat 2 0) = true)
    (fits : bits (reg s (r_TIO_CFG c)).toNat 2 0 = 1 ∨ tioOk c (bits (reg s (r_TIO_CFG c)).toNat 2 0) (bits (reg s (r_TIO_CFG c)).toNat 5 4)
      ((reg s (r_TIO_PERIOD_LO c)).toNat + 4294967296 * (reg s (r_TIO_PERIOD_HI c)).toNat) (reg s (r_TIO_WIDTH c)).toNat = true) :
    Completes (.tioArm c) s (fun t => (tioGet t c).mode = bits (reg s (r_TIO_CFG c)).toNat 2 0 ∧
      (tioGet t c).edge = bits (reg s (r_TIO_CFG c)).toNat 5 4 ∧ (tioGet t c).width = (reg s (r_TIO_WIDTH c)).toNat ∧
      (tioGet t c).startNs = (reg s (r_TIO_START_NS c)).toNat) :=
  completes_of (t := tioCommit s c) (if_pos ⟨on, named, mode, fits⟩) (tioGet_tioCommit s c)

theorem tioOutputEdge_drives (on : clockOn s = true) (mode : (tioGet s c).mode = 3) : Completes (.tioOutputEdge c) s (fun t =>
    (tioGet t c).active = tioLevel (tioGet s c) (fineNow s) ∧ ChangesOnly [.tio, .out] s t) := by
  have row : exec (.tioOutputEdge c) s = .next (tioDrive s c (tioLevel (tioGet s c) (fineNow s))) := by
    show execTioOutputEdge c s = _
    unfold execTioOutputEdge
    dsimp only
    rw [if_neg (by simp [mode]), if_pos ⟨on, mode⟩]
  exact completes_of row ⟨by rw [tioGet_tioDrive], (tioDrive_keeps _ _ _).frame⟩

theorem tioOutputEdge_fires (on : clockOn s = true) (mode : (tioGet s c).mode = 2) (armed : (tioGet s c).armed = true)
    (due : tioStart (tioGet s c) ≤ fineNow s) : Completes (.tioOutputEdge c) s (fun t =>
      (tioGet t c).active = tioLevel (tioGet s c) (fineNow s) ∧ (tioGet t c).armed = false ∧ (tioGet t c).live = true ∧
      ChangesOnly [.tio, .out] s t) := by
  have row : exec (.tioOutputEdge c) s = .next (tioFire s c) := by
    show execTioOutputEdge c s = _
    unfold execTioOutputEdge
    dsimp only
    rw [if_pos ⟨on, mode⟩, if_pos armed, if_pos due]
  refine completes_of row ?_
  rw [tioGet_tioFire]
  exact ⟨rfl, rfl, rfl, (tioFire_keeps _ _).frame⟩

theorem tioEdgeCapture_stamps {falling : Bool} (on : clockOn s = true) (named : c ≤ 8) (mode : (tioGet s c).mode = 1)
    (edge : bitAt (tioGet s c).edge (b2n falling) = true) (room : (tioGet s c).captures.length < 16) (first : (tioGet s c).last = none) :
    Completes (.tioEdgeCapture c falling) s (fun t => (tioGet t c).captures = (tioGet s c).captures ++
      [⟨BitVec.ofInt 64 (((fineNow s : Int) - signed 32 (hwUse s (0x0C0 + 2 * c))) / 8 * 8), falling⟩]) := by
  obtain ⟨st, stamp⟩ : ∃ st : Int, st = ((fineNow s : Int) - signed 32 (hwUse s (0x0C0 + 2 * c))) / 8 * 8 := ⟨_, rfl⟩
  obtain ⟨u, captured⟩ : ∃ u, u = tioSet s c { tioGet s c with
    captures := (tioGet s c).captures ++ [⟨BitVec.ofInt 64 st, falling⟩], last := some (BitVec.ofInt 64 st) } := ⟨_, rfl⟩
  have row : exec (.tioEdgeCapture c falling) s = .next (if c = 8 then plbOffer u 1 (ppsOffset st.toNat) 0 else u) := by
    show execTioEdgeCapture c falling s = _
    unfold execTioEdgeCapture
    dsimp only
    rw [if_pos ⟨on, named, mode, edge⟩, first, captured, stamp]
    exact if_neg (by simp; omega)
  have tio : (if c = 8 then plbOffer u 1 (ppsOffset st.toNat) 0 else u).tio = u.tio := by
    split
    · exact (plbOffer_keeps _ _ _ _).same .tio
    · rfl
  refine completes_of row ?_
  rw [tioGet_congr tio, captured, tioGet_tioSet_self, stamp]

theorem tioCapPop_pops (master : Nat) (named : c ≤ 9) : Completes (.tioCapPop master c) s (fun t =>
    Emits s t [.regRead master (BitVec.ofNat 32 (capWord (tioGet s c)))] ∧ (tioGet t c).captures = (tioGet s c).captures.drop 1 ∧
      (tioGet t c).latch = (tioGet s c).captures.head? ∧ ChangesOnly [.tio, .out] s t) := by
  have row : exec (.tioCapPop master c) s = .next (emit (capPop s c) (.regRead master (BitVec.ofNat 32 (capWord (tioGet s c))))) :=
    if_neg (by omega)
  have chan : tioGet (emit (capPop s c) (.regRead master (BitVec.ofNat 32 (capWord (tioGet s c))))) c =
      { tioGet s c with captures := (tioGet s c).captures.drop 1, latch := (tioGet s c).captures.head? } := tioGet_tioSet_self _ _ _
  exact completes_of row ⟨rfl, by rw [chan], by rw [chan], .of_patch rfl⟩

theorem timeTxqPop_pops (master : Nat) {m : Nat} (named : m ≤ 15) : Completes (.timeTxqPop master m) s (fun t =>
    Emits s t [.regRead master (BitVec.ofNat 32 (stampWord (macGet s m)))] ∧ (macGet t m).stamps = (macGet s m).stamps.drop 1 ∧
      (macGet t m).stampLatch = (macGet s m).stamps.head? ∧ ChangesOnly [.macs, .out] s t) := by
  have row : exec (.timeTxqPop master m) s = .next (emit (stampPop s m) (.regRead master (BitVec.ofNat 32 (stampWord (macGet s m))))) :=
    if_neg (by omega)
  have mac : macGet (emit (stampPop s m) (.regRead master (BitVec.ofNat 32 (stampWord (macGet s m))))) m =
      { macGet s m with stamps := (macGet s m).stamps.drop 1, stampLatch := (macGet s m).stamps.head? } := macGet_macSet_self _ _ _
  exact completes_of row ⟨rfl, by rw [mac], by rw [mac], .of_patch rfl⟩

end

theorem tioConfig_writes : AnswersOk .tioConfig 0x0730
    (fun _ _ req => byteAt req 0 ≤ 9 ∧ tioOk (byteAt req 0) (byteAt req 1) (bits (byteAt req 2) 2 1) (le req 20 8) (le req 28 4) = true ∧
      bitAt (byteAt req 2) 3 = false) (fun _ _ _ => [])
    (fun s t _ req => reg t (r_TIO_WIDTH (byteAt req 0)) = BitVec.ofNat 32 (le req 28 4) ∧
      reg t (r_TIO_START_NS (byteAt req 0)) = BitVec.ofNat 32 (le req 12 4 % 2 ^ 30) ∧
      reg t (r_TIO_PERIOD_LO (byteAt req 0)) = BitVec.ofNat 32 (le req 20 4) ∧ t.tio = s.tio) := by
  refine answersOk_set (row := fun s ch seq => (rfl : execTioConfig ch seq s = _)) (fun s ch seq req fits => ?_)
  obtain ⟨named, ok, unarmed⟩ := fits
  obtain ⟨c, chan⟩ : ∃ c, c = byteAt req 0 := ⟨_, rfl⟩
  rw [← chan] at named ok ⊢
  obtain ⟨a, start⟩ : ∃ a, a = setReg (setReg (setReg s (r_TIO_CFG c) (BitVec.ofNat 32 (byteAt req 1 + 8 * bits (byteAt req 2) 0 0 +
    16 * bits (byteAt req 2) 2 1 + 128 * bits (reg s (r_TIO_CFG c)).toNat 7 7))) (r_TIO_START_S c) (BitVec.ofNat 32 (le req 4 4)))
    (r_TIO_START_S c + 4) (BitVec.ofNat 32 (le req 8 4)) := ⟨_, rfl⟩
  obtain ⟨b, ns⟩ : ∃ b, b = setReg a (r_TIO_START_NS c) (BitVec.ofNat 32 (le req 12 4 % 2 ^ 30)) := ⟨_, rfl⟩
  obtain ⟨d, sub⟩ : ∃ d, d = setReg b (r_TIO_START_SUB c) (BitVec.ofNat 32 (byteAt req 16)) := ⟨_, rfl⟩
  obtain ⟨e, period⟩ : ∃ e, e = setReg d (r_TIO_PERIOD_LO c) (BitVec.ofNat 32 (le req 20 4)) := ⟨_, rfl⟩
  obtain ⟨f, high⟩ : ∃ f, f = setReg e (r_TIO_PERIOD_HI c) (BitVec.ofNat 32 (le req 24 2)) := ⟨_, rfl⟩
  obtain ⟨u, width⟩ : ∃ u, u = setReg f (r_TIO_WIDTH c) (BitVec.ofNat 32 (le req 28 4)) := ⟨_, rfl⟩
  have mbx : u.mbx = s.mbx := by
    rw [width, setReg_mbx, high, setReg_mbx, period, setReg_mbx, sub, setReg_mbx, ns, setReg_mbx, start, setReg_mbx, setReg_mbx, setReg_mbx]
  have tio : u.tio = s.tio := by
    rw [width, setReg_tio, high, setReg_tio, period, setReg_tio, sub, setReg_tio, ns, setReg_tio, start, setReg_tio, setReg_tio, setReg_tio]
  have quiet (x : Nat) (low : x < 64) : 0x1330020000 + 0x40 * c + x ≠ r_GAU_TRACE_STATUS := by
    unfold r_GAU_TRACE_STATUS
    omega
  refine ⟨u, ?_, mbx, ?_, ?_, ?_, by rw [answer_tio, tio]⟩
  · dsimp only
    rw [if_neg (by simp [ok]; omega), unarmed, width, high, period, sub, ns, start]
    rfl
  · rw [reg_answer _ _ _ _ _ (by unfold r_TIO_WIDTH; have := quiet 0x1C (by decide); omega), width, reg_setReg_self]
  · rw [reg_answer _ _ _ _ _ (by unfold r_TIO_START_NS; have := quiet 0x0C (by decide); omega), width, reg_setReg_ne _ _ (by unfold r_TIO_START_NS r_TIO_WIDTH; omega), high,
      reg_setReg_ne _ _ (by unfold r_TIO_START_NS r_TIO_PERIOD_HI; omega), period, reg_setReg_ne _ _ (by unfold r_TIO_START_NS r_TIO_PERIOD_LO; omega), sub,
      reg_setReg_ne _ _ (by unfold r_TIO_START_NS r_TIO_START_SUB; omega), ns, reg_setReg_self]
  · rw [reg_answer _ _ _ _ _ (by unfold r_TIO_PERIOD_LO; have := quiet 0x14 (by decide); omega), width, reg_setReg_ne _ _ (by unfold r_TIO_PERIOD_LO r_TIO_WIDTH; omega), high,
      reg_setReg_ne _ _ (by unfold r_TIO_PERIOD_LO r_TIO_PERIOD_HI; omega), period, reg_setReg_self]

theorem tioCaptureRead_reads : AnswersOk .tioCaptureRead 0x0731 (fun _ _ req => byteAt req 0 ≤ 9 ∧ 1 ≤ byteAt req 1 ∧ byteAt req 1 ≤ 15)
    (fun s _ req => toLe 1 ((tioGet s (byteAt req 0)).captures.take (byteAt req 1)).length ++ zeros 3 ++
      ((tioGet s (byteAt req 0)).captures.take (byteAt req 1)).flatMap (fun e => toLe 8 e.stamp.toNat ++ toLe 1 (b2n e.falling) ++ zeros 7))
    (fun s t ch req => (tioGet t (byteAt req 0)).captures = (tioGet s (byteAt req 0)).captures.drop (byteAt req 1) ∧
      AnswerFrame [.tio] s t ch) := by
  refine answersOk_set (row := fun s ch seq => (rfl : execTioCaptureRead ch seq s = _)) (fun s ch seq req fits => ?_)
  obtain ⟨named, few, many⟩ := fits
  obtain ⟨u, taken⟩ : ∃ u, u = tioSet s (byteAt req 0) { tioGet s (byteAt req 0) with captures := (tioGet s (byteAt req 0)).captures.drop (byteAt req 1) } :=
    ⟨_, rfl⟩
  have changes : ChangesOnly [.tio] s u := taken ▸ .of_patch rfl
  refine ⟨u, ?_, by rw [taken]; rfl, ?_, answer_frame_quiet _ _ _ _ changes (by decide) (by decide)⟩
  · rw [taken]
    exact if_neg (by omega)
  · rw [tioGet_congr (s := u) (by rw [answer_tio]), taken, tioGet_tioSet_self]

/-! The Ethernet reference clock (R657). -/

section
variable {s : State}

/-- A run of steps of which each takes its own link down and raises none. -/
theorem foldl_linkDown {f : State → Nat → State} {m : Nat} (own : ∀ u, (macGet (f u m) m).linkUp = false)
    (others : ∀ u k, (macGet u m).linkUp = false → (macGet (f u k) m).linkUp = false) (l : List Nat) (s : State)
    (h : m ∈ l ∨ (macGet s m).linkUp = false) : (macGet (l.foldl f s) m).linkUp = false := by
  induction l generalizing s with
  | nil => exact h.resolve_left List.not_mem_nil
  | cons k l ih =>
    refine ih _ ?_
    rcases h with listed | down
    · rcases List.mem_cons.mp listed with rfl | later
      · exact .inr (own s)
      · exact .inl later
    · exact .inr (others s k down)

theorem ethLinksDown_down (s : State) {m : Nat} (named : m < 16) : (macGet (ethLinksDown s) m).linkUp = false := by
  refine foldl_linkDown (fun u => ?_) (fun u k down => ?_) _ s (.inl (List.mem_range.mpr named))
  · split
    · rw [linkChange_linkUp, if_pos rfl]
    · next down => exact Bool.eq_false_iff.mpr down
  · split
    · rw [linkChange_linkUp, down, ite_self]
    · exact down

theorem ethRefclkLoss_downs (s : State) : Completes .ethRefclkLoss s (fun t => t.dev.ethRefclk = false ∧ t.itw.linkUp = false ∧
    ∀ m < 16, (macGet t m).linkUp = false) := by
  obtain ⟨u, off⟩ : ∃ u : State, u = { s with dev := { s.dev with ethRefclk := false } } := ⟨_, rfl⟩
  have lost : (ethRefLost s).dev = (ethLinksDown u).dev ∧ (ethRefLost s).macs = (ethLinksDown u).macs := by
    rw [off]
    unfold ethRefLost
    generalize ethLinksDown { s with dev := { s.dev with ethRefclk := false } } = v
    dsimp only
    split
    · exact ⟨rfl, rfl⟩
    · exact ⟨rfl, rfl⟩
  refine completes_of (t := itwLinkDown (ethRefLost s)) rfl ⟨?_, itwLinkDown_linkUp _, fun m named => ?_⟩
  · rw [(itwLinkDown_keeps _).same .dev, lost.1, (ethLinksDown_keeps _).same .dev, off]
  · rw [macGet_congr ((itwLinkDown_keeps _).same .macs), macGet_congr lost.2]
    exact ethLinksDown_down u named

theorem ethRefclkReturn_returns (s : State) : Completes .ethRefclkReturn s (fun t => t.dev.ethRefclk = true ∧
    (clockOn s = true → s.dev.tbOsc = false → t.time.onFallback = true) ∧ ChangesOnly [.dev, .time] s t) := by
  obtain ⟨u, back⟩ : ∃ u : State, u = { s with dev := { s.dev with ethRefclk := true } } := ⟨_, rfl⟩
  obtain ⟨v, switched⟩ : ∃ v : State, v = { u with time := { u.time with onFallback := true } } := ⟨_, rfl⟩
  have returned : ChangesOnly [.dev, .time] s u := back ▸ .of_patch rfl
  have falls : ChangesOnly [.dev, .time] u v := switched ▸ .of_patch rfl
  have row : exec .ethRefclkReturn s = if clockOn u && !u.dev.tbOsc then .next v else .next u := by
    rw [switched, back]
    rfl
  have on : clockOn u = clockOn s ∧ u.dev.tbOsc = s.dev.tbOsc := back ▸ ⟨rfl, rfl⟩
  rw [on.1, on.2] at row
  by_cases fallback : (clockOn s && !s.dev.tbOsc) = true
  · rw [if_pos fallback] at row
    exact completes_of row ⟨by rw [switched, back], fun _ _ => by rw [switched], (returned.trans falls).mono (by decide)⟩
  · rw [if_neg fallback] at row
    exact completes_of row ⟨by rw [back], fun running lost => absurd (by rw [running, lost]; rfl) fallback, returned⟩

end

/-- Settles O56, one lemma for each event and command of timed I/O; the scan instructions load what they name. -/
theorem timedIoAndBoundaryScan : Obligations.TimedIoAndBoundaryScan := by
  unfold Obligations.TimedIoAndBoundaryScan
  refine ⟨⟨fun s c on named mode fits => tioArm_arms on named mode fits, fun s c on mode => tioOutputEdge_drives on mode,
    fun s c on mode armed due => tioOutputEdge_fires on mode armed due,
    fun s c falling on named mode edge room first => tioEdgeCapture_stamps on named mode edge room first,
    fun s master c named => tioCapPop_pops master named, fun s master m named => timeTxqPop_pops master named, tioConfig_writes, tioCaptureRead_reads⟩,
    fun _ => rfl, fun _ => rfl, fun _ => rfl, fun c v s board => ?_, ethRefclkLoss_downs, ethRefclkReturn_returns⟩
  simp only [List.mem_cons, Prod.mk.injEq, List.not_mem_nil, or_false] at board
  obtain ⟨rfl, rfl⟩ | ⟨rfl, rfl⟩ | ⟨rfl, rfl⟩ | ⟨rfl, rfl⟩ | ⟨rfl, rfl⟩ := board
  · rfl
  · rfl
  · rfl
  · rfl
  · rfl

end Sys2Proof.Machine

end

section

/-! PROOFS. The PTP engine sends its messages and takes the received ones (R395 to R399). -/

namespace Sys2Proof.Machine
open Sys2Proof

set_option Elab.async false

section
variable {s t : State} {m : Nat}

theorem ptpGet_congr (same : t.ptp.ports = s.ptp.ports) (m : Nat) : ptpGet t m = ptpGet s m := by
  unfold ptpGet
  rw [same]

theorem ptpGet_ptpSet_self (s : State) (m : Nat) (x : PtpPort) : ptpGet (ptpSet s m x) m = x := mapGetD_mapSet_self _ _ _ _

theorem ptpGet_ptpSet_ne (s : State) {m k : Nat} (x : PtpPort) (other : k ≠ m) : ptpGet (ptpSet s m x) k = ptpGet s k := mapGetD_mapSet_ne _ _ _ other

/-! What is sent (R395 to R398). -/

/-- A MASTER port sends its Sync and Announce while the actor gate is open, and counts while it is closed. -/
theorem ptpMaster_sends {x : PtpPort} (named : m < 16) (on : ptpOn s m = true) (port : x = ptpGet s m) (master : x.state = .master)
    (capable : asCapable s m = true) :
    (actorGate s = true →
      exec (.ptpSyncSend m) s = .next (ptpSend (ptpSet s m { x with txSeqSync := x.txSeqSync + 1 }) m 0 (if ptpTwoStep s then 1 else 2) 0
        (ptpMsg s m 0 (if ptpTwoStep s then 0x0200 else 0) 0 x.txSeqSync.toNat (logSync s m) (zeros 10))) ∧
      exec (.ptpAnnounceSend m) s = .next (ptpSend (ptpSet s m { x with txSeqAnn := x.txSeqAnn + 1 }) m 11 0 0
        (ptpMsg s m 11 (announceBody s).1 0 x.txSeqAnn.toNat (logAnnounce s m) (announceBody s).2))) ∧
    (actorGate s = false → Completes (.ptpSyncSend m) s (fun t => Counted s t r_ITW_CNT_GATED 1 ∧ ChangesOnly [.regs] s t) ∧
      Completes (.ptpAnnounceSend m) s (fun t => Counted s t r_ITW_CNT_GATED 1 ∧ ChangesOnly [.regs] s t)) := by
  subst port
  have sync : exec (.ptpSyncSend m) s = _ := if_pos ⟨on, named, master, capable⟩
  have announce : exec (.ptpAnnounceSend m) s = _ := if_pos ⟨on, named, master, capable⟩
  refine ⟨fun gate => ⟨sync.trans (if_neg (by rw [gate]; decide)), announce.trans (if_neg (by rw [gate]; decide))⟩, fun gate => ⟨?_, ?_⟩⟩
  · exact completes_of (sync.trans (if_pos (by rw [gate]; rfl))) ⟨counted_bump _ _, bump_changes _ _⟩
  · exact completes_of (announce.trans (if_pos (by rw [gate]; rfl))) ⟨counted_bump _ _, bump_changes _ _⟩

theorem ptpDelayReqSend_sends {x : PtpPort} (named : m < 16) (on : ptpOn s m = true) (port : x = ptpGet s m) :
    (ptpProfile s = 0 → x.state = .slave → exec (.ptpDelayReqSend m) s =
      .next (ptpSend (ptpSet s m { x with txSeqReq := x.txSeqReq + 1, req := some (x.txSeqReq.toNat, none) }) m 1 1 0
        (ptpMsg s m 1 0 0 x.txSeqReq.toNat 0x7F (zeros 10)))) ∧
    (ptpProfile s ≠ 0 → exec (.ptpDelayReqSend m) s =
      .next (ptpSend (ptpSet s m { x with txSeqReq := x.txSeqReq + 1, preq := some (x.txSeqReq.toNat, none), presp := none }) m 2 1 0
        (ptpMsg s m 2 0 0 x.txSeqReq.toNat (logDreq s m) (zeros 20)))) := by
  subst port
  have request : exec (.ptpDelayReqSend m) s = _ := if_pos ⟨on, named⟩
  exact ⟨fun endToEnd slave => request.trans ((if_pos endToEnd).trans (if_pos slave)), fun peer => request.trans (if_neg peer)⟩

/-- A change of a port's role keeps the clocks heard on every port. -/
theorem ptpTo_foreign (s : State) (k : Nat) (st : PtpPortState) (parent : Bytes) (m : Nat) :
    (ptpGet (ptpTo s k st parent) m).foreign = (ptpGet s m).foreign := by
  unfold ptpTo
  dsimp only
  split
  · rfl
  · rw [ptpGet_congr (congrArg Ptp.ports ((eventToManager_keeps _ _ _).same .ptp))]
    rcases eq_or_ne m k with rfl | other
    · rw [ptpGet_ptpSet_self]
    · rw [ptpGet_ptpSet_ne _ _ other]

theorem bmca_foreign (s : State) (timedOut : Option Nat) (m : Nat) : (ptpGet (bmca s timedOut) m).foreign = (ptpGet s m).foreign := by
  unfold bmca
  extract_lets decided
  clear_value decided
  exact foldl_same (fun u => (ptpGet u m).foreign) (fun u d => ptpTo_foreign u d.1 d.2.1 d.2.2 m) decided s

theorem ptpAnnounceTimeout_forgets (on : ptpOn s m = true) (serving : s.mbx.serving = true) :
    Completes (.ptpAnnounceTimeout m) s (fun t => (ptpGet t m).foreign = []) := by
  refine completes_of (t := bmca (ptpMod s m (fun x => { x with foreign := [] })) (some m)) (if_pos (by rw [on, serving]; rfl)) ?_
  rw [bmca_foreign, ptpMod, ptpGet_ptpSet_self]

theorem ptp_off (off : ptpOn s m = false) : exec (.ptpSyncSend m) s = .next s ∧ exec (.ptpAnnounceSend m) s = .next s ∧
    exec (.ptpDelayReqSend m) s = .next s ∧ exec (.ptpAnnounceTimeout m) s = .next s := by
  have idle : ¬ ptpOn s m = true := by rw [off]; exact Bool.false_ne_true
  exact ⟨if_neg (fun h => idle h.1), if_neg (fun h => idle h.1), if_neg (fun h => idle h.1), if_neg (by rw [off]; exact Bool.false_ne_true)⟩

end

/-! What is received (R395, R397, R399). -/

/-- The oldest message is off the list. -/
def ptpTaken (s : State) (rest : List (Nat × Bytes × Dword)) : State := { s with ptp := { s.ptp with inbox := rest } }

section
variable {s : State} {m : Nat} {f b : Bytes} {stamp : Dword} {rest : List (Nat × Bytes × Dword)}
  (oldest : s.ptp.inbox = (m, f, stamp) :: rest) (message : b = f.drop ((ptpOffset f).getD 0))
include oldest message

theorem ptpMsgRx_bad (bad : ptpBad b = true) : Completes .ptpMsgRx s (fun t => t.ptp.inbox = rest ∧ t.ptp.ports = s.ptp.ports ∧
    Counted s t (r_TIME_PTP_CNT_RX_BAD m) 1 ∧ ChangesOnly [.ptp, .regs] s t) := by
  have row : exec .ptpMsgRx s = .next (bump (ptpTaken s rest) (r_TIME_PTP_CNT_RX_BAD m)) := by
    subst message
    show execPtpMsgRx s = _
    unfold execPtpMsgRx
    rw [oldest]
    exact if_pos bad
  exact completes_of row ⟨rfl, rfl, .of_bump (u := ptpTaken s rest) (.of_regs rfl) rfl (.of_regs rfl), .of_patch rfl⟩

theorem ptpMsgRx_limited (good : ptpBad b = false) (event : msgType b ≤ 3) (second : (ptpGet s m).eventSec = s.time.ticks / 1000000000)
    (full : 1024 ≤ (ptpGet s m).events) : Completes .ptpMsgRx s (fun t => t.ptp.inbox = rest ∧ t.ptp.ports = s.ptp.ports ∧
      Counted s t (r_TIME_PTP_CNT_RATE_DROP m) 1 ∧ ChangesOnly [.ptp, .regs] s t) := by
  have count : 1024 ≤ (if (ptpGet s m).eventSec = s.time.ticks / 1000000000 then (ptpGet s m).events else 0) := by
    rw [if_pos second]
    exact full
  have row : exec .ptpMsgRx s = .next (bump (ptpTaken s rest) (r_TIME_PTP_CNT_RATE_DROP m)) := by
    subst message
    show execPtpMsgRx s = _
    unfold execPtpMsgRx
    rw [oldest]
    exact (if_neg (by rw [good]; decide)).trans ((if_pos event).trans (if_pos count))
  exact completes_of row ⟨rfl, rfl, .of_bump (u := ptpTaken s rest) (.of_regs rfl) rfl (.of_regs rfl), .of_patch rfl⟩

theorem ptpMsgRx_delayResp (good : ptpBad b = false) (type : msgType b = 9) : exec .ptpMsgRx s = .next (rxDelayResp (ptpTaken s rest) m b) := by
  have response : rxPtp (ptpTaken s rest) m b stamp = rxDelayResp (ptpTaken s rest) m b := by
    unfold rxPtp
    rw [type]
    rfl
  subst message
  show execPtpMsgRx s = _
  unfold execPtpMsgRx
  rw [oldest, ← response]
  exact (if_neg (by rw [good]; decide)).trans (if_neg (by rw [type]; decide))

theorem ptpMsgRx_answered (good : ptpBad b = false) (type : msgType b = 9) {seq : Nat} {t3 : Dword} (asked : (ptpGet s m).req = some (seq, some t3))
    (same : seq = msgSeq b) (port : slice b 44 10 = portId s m) (parent : msgSource b = (ptpGet s m).parent) :
    Completes .ptpMsgRx s (fun t => ptpGet t m = { ptpGet s m with
        req := none
        tSm := some (msgTime b 34 - expandStamp s t3 - msgCorrection b)
        tSmTick := s.time.ticks } ∧ t.ptp.inbox = rest ∧ ChangesOnly [.ptp] s t) := by
  have matched : rxDelayResp (ptpTaken s rest) m b = ptpSet (ptpTaken s rest) m { ptpGet s m with
      req := none, tSm := some (msgTime b 34 - expandStamp s t3 - msgCorrection b), tSmTick := s.time.ticks } := by
    unfold rxDelayResp
    dsimp only
    rw [show ptpGet (ptpTaken s rest) m = ptpGet s m from rfl, asked]
    exact if_pos ⟨same, port, parent⟩
  refine completes_of ((ptpMsgRx_delayResp oldest message good type).trans (congrArg Host.Outcome.next matched)) ⟨ptpGet_ptpSet_self _ _ _, rfl, .of_patch rfl⟩

theorem ptpMsgRx_unasked (good : ptpBad b = false) (type : msgType b = 9) (unasked : (ptpGet s m).req = none) :
    Completes .ptpMsgRx s (fun t => t.ptp.ports = s.ptp.ports ∧ t.ptp.inbox = rest ∧ Counted s t (r_TIME_PTP_CNT_RESP_BAD m) 1) := by
  have refused : rxDelayResp (ptpTaken s rest) m b = bump (ptpTaken s rest) (r_TIME_PTP_CNT_RESP_BAD m) := by
    unfold rxDelayResp
    dsimp only
    rw [show ptpGet (ptpTaken s rest) m = ptpGet s m from rfl, unasked]
  refine completes_of ((ptpMsgRx_delayResp oldest message good type).trans (congrArg Host.Outcome.next refused)) ⟨rfl, rfl, ?_⟩
  exact .of_bump (u := ptpTaken s rest) (.of_regs rfl) rfl (.of_regs rfl)

end

theorem ptpMsgRx_idle {s : State} (idle : s.ptp.inbox = []) : exec .ptpMsgRx s = .next s := by
  show execPtpMsgRx s = _
  unfold execPtpMsgRx
  rw [idle]

/-- Settles O57, one lemma for each message sent and each one received. -/
theorem thePtpEngineSendsAndTakesMessages : Obligations.ThePtpEngineSendsAndTakesMessages := by
  unfold Obligations.ThePtpEngineSendsAndTakesMessages
  exact ⟨⟨fun s m x named on port master capable => ptpMaster_sends named on port master capable,
    fun s m x named on port => ptpDelayReqSend_sends named on port, fun s m on serving => ptpAnnounceTimeout_forgets on serving, fun s m off => ptp_off off⟩,
    fun s m f stamp rest b oldest message _ => ⟨fun bad => ptpMsgRx_bad oldest message bad,
      fun good event second full => ptpMsgRx_limited oldest message good event second full,
      fun good type seq t3 asked same port parent => ptpMsgRx_answered oldest message good type asked same port parent,
      fun good type unasked => ptpMsgRx_unasked oldest message good type unasked⟩, fun s idle => ptpMsgRx_idle idle⟩

end Sys2Proof.Machine

end

section

/-! PROOFS. The commands of PTP and the servo of Plumb (R394, R395, R400 to R404, R412). -/

namespace Sys2Proof.Machine
open Sys2Proof

set_option Elab.async false

/-! Values that a mask keeps. -/

/-- A value has no bit that the mask does not have. -/
theorem and_mask_eq {v mask n : Nat} (small : v < 2 ^ n) (clear : ∀ i < n, mask.testBit i = false → v / 2 ^ i % 2 = 0) : v &&& mask = v := by
  refine Nat.eq_of_testBit_eq (fun i => ?_)
  rw [Nat.testBit_and]
  by_cases inside : i < n
  · cases bit : mask.testBit i with
    | true => exact Bool.and_true _
    | false =>
      rw [Bool.and_false, Nat.testBit_eq_decide_div_mod_eq, clear i inside bit]
      rfl
  · rw [Nat.testBit_lt_two_pow (lt_of_lt_of_le small (Nat.pow_le_pow_right (by decide) (Nat.le_of_not_lt inside))), Bool.false_and]

/-- A word of the journal that its mask keeps whole. -/
theorem hwWord_hwJournal_kept (s : State) (w : Nat) (i : Nat) (ws : List Nat) (h : i < ws.length) (apart : w + i ≠ 0x200)
    (small : ws[i] < 2 ^ 32) (kept : ws[i] &&& hwMask (w + i) = ws[i]) :
    hwWord (hwJournal s w (ws.map (BitVec.ofNat 32))) (w + i) = BitVec.ofNat 32 ws[i] := by
  rw [hwWord_hwJournal s w i _ (by rw [List.length_map]; exact h) apart, List.getElem_map, BitVec.toNat_ofNat, Nat.mod_eq_of_lt small, kept]

theorem and_mask_full {v : Nat} (w : Nat) (small : v < 256 ^ 4) (full : hwMask w = 2 ^ 32 - 1) : v &&& hwMask w = v := by
  rw [full, Nat.and_two_pow_sub_one_eq_mod]
  exact Nat.mod_eq_of_lt small

/-! The ports of PTP (R394, R395). -/

section
variable {s : State} {m : Nat}

/-- A run of steps of which one reaches what the others keep, while all keep what it needs. -/
theorem foldl_reaches {p q : State → Prop} {f : State → Nat → State} (own : ∀ u, q u → p (f u m)) (inv : ∀ u k, q u → q (f u k))
    (keep : ∀ u k, q u → p u → p (f u k)) (l : List Nat) (s : State) (start : q s) (h : m ∈ l ∨ p s) : p (l.foldl f s) := by
  induction l generalizing s with
  | nil => exact h.resolve_left List.not_mem_nil
  | cons k l ih =>
    refine ih _ (inv s k start) ?_
    rcases h with listed | reached
    · rcases List.mem_cons.mp listed with rfl | later
      · exact .inr (own s start)
      · exact .inl later
    · exact .inr (keep s k start reached)

theorem ptpEnabled_congr {t : State} (hw : t.hw = s.hw) (m : Nat) : ptpEnabled t m = ptpEnabled s m := by
  unfold ptpEnabled hwField hwWord
  rw [hw]

/-- The ports change their role, and nothing else that the engine reads does. -/
theorem ptpTo_state (s : State) (m : Nat) (st : PtpPortState) (parent : Bytes) : (ptpGet (ptpTo s m st parent) m).state = st := by
  unfold ptpTo
  dsimp only
  split
  · next same => exact same.1
  · rw [ptpGet_congr (congrArg Ptp.ports ((eventToManager_keeps _ _ _).same .ptp)), ptpGet_ptpSet_self]

theorem ptpTo_others (s : State) {m k : Nat} (st : PtpPortState) (parent : Bytes) (other : k ≠ m) : ptpGet (ptpTo s m st parent) k = ptpGet s k := by
  unfold ptpTo
  dsimp only
  split
  · rfl
  · rw [ptpGet_congr (congrArg Ptp.ports ((eventToManager_keeps _ _ _).same .ptp)), ptpGet_ptpSet_ne _ _ other]

theorem ptpTo_startedOn (s : State) (m : Nat) (st : PtpPortState) (parent : Bytes) (ch : Nat) : startedOn ch (ptpTo s m st parent) = startedOn ch s := by
  unfold ptpTo
  dsimp only
  split
  · rfl
  · rw [eventToManager_startedOn]
    rfl

/-- An enabled port listens once the engine is set (R395). -/
theorem ptpRestart_listens (named : m < 16) (enabled : ptpEnabled s m = true) : ptpGet (ptpRestart s) m = { state := .listening } := by
  unfold ptpRestart
  refine foldl_reaches (q := fun u => ptpEnabled u m = true) (p := fun u => ptpGet u m = { state := .listening }) (fun u on => ?_) (fun u k on => ?_)
    (fun u k on listens => ?_) _ s enabled (.inl (List.mem_range.mpr named))
  · rw [if_pos on]
    exact ptpGet_ptpSet_self _ _ _
  · split
    · exact (ptpEnabled_congr ((ptpTo_keeps u k _ _).same .hw) m).trans on
    · exact on
  · split
    · rcases eq_or_ne m k with rfl | other
      · exact ptpGet_ptpSet_self _ _ _
      · exact (ptpGet_ptpSet_ne _ _ other).trans ((ptpTo_others u _ _ other).trans listens)
    · exact listens

theorem ptpRestart_startedOn (s : State) (ch : Nat) : startedOn ch (ptpRestart s) = startedOn ch s := by
  unfold ptpRestart
  refine foldl_same (startedOn ch) (fun u k => ?_) _ s
  split
  · exact ptpTo_startedOn u k _ _ ch
  · rfl

end

theorem ptpInstanceSet_sets : AnswersOk .ptpInstanceSet 0x0720 (fun _ _ req => byteAt req 0 ≤ 2 ∧ byteAt req 1 ≤ 2 ∧ byteAt req 2 ≤ 2 ∧
      (byteAt req 1 = 2 → byteAt req 2 = 0 ∧ byteAt req 3 = 0)) (fun _ _ _ => [])
    (fun _ t _ req => hwWord t 0x0D8 = BitVec.ofNat 32 (byteAt req 0 + 4 * byteAt req 1 + 16 * byteAt req 2 + 64 * bits (le req 4 4) 0 0 +
        256 * byteAt req 3) ∧ hwWord t 0x0D9 = BitVec.ofNat 32 (le req 8 4) ∧ hwWord t 0x0DA = BitVec.ofNat 32 (le req 12 4) ∧
      ∀ m < 16, ptpEnabled t m = true → (ptpGet t m).state = .listening ∧ (ptpGet t m).parent = zeros 10) := by
  refine answersOk_of_command (row := fun s ch seq => (rfl : execPtpInstanceSet ch seq s = _)) (fun s ch seq req fits => ?_)
  obtain ⟨mode, prof, tr, dot1as⟩ := fits
  obtain ⟨w, first⟩ : ∃ w, w = byteAt req 0 + 4 * byteAt req 1 + 16 * byteAt req 2 + 64 * bits (le req 4 4) 0 0 + 256 * byteAt req 3 := ⟨_, rfl⟩
  obtain ⟨ws, words⟩ : ∃ ws : List Nat, ws = [w, le req 8 4, le req 12 4,
    byteAt req 16 + 256 * byteAt req 17 + 65536 * byteAt req 18 + 16777216 * byteAt req 19, le req 20 2, le req 24 4, le req 28 4, le req 32 4,
    le req 36 4] := ⟨_, rfl⟩
  obtain ⟨v, kept⟩ : ∃ v, v = hwJournal s 0x0D8 (ws.map (BitVec.ofNat 32)) := ⟨_, rfl⟩
  have hw : (answer (ptpRestart v) ch seq rcOk []).hw = v.hw := by rw [answer_hw, (ptpRestart_keeps v).same .hw]
  have flag := bits_lt (le req 4 4) 0 0
  have domain := byteAt_lt req 3
  refine ⟨ptpRestart v, ?_, ?_, ?_, ?_, ?_, fun m named enabled => ?_⟩
  · rw [kept, words, first]
    exact if_neg (by omega)
  · exact (ptpRestart_startedOn v ch).trans (kept ▸ startedOn_keeps (hwJournal_keeps _ _ _) ch)
  · rw [hwWord_congr hw, kept, words, ← first]
    refine hwWord_hwJournal_kept s 0x0D8 0 _ (Nat.lt_of_sub_eq_succ rfl) (by decide) (show w < 2 ^ 32 by omega) (show w &&& hwMask 0x0D8 = w from ?_)
    rw [show hwMask 0x0D8 = 0xFF7F by decide]
    refine and_mask_eq (n := 16) (by omega) (fun i below clear => ?_)
    obtain rfl : i = 7 := (by decide : ∀ i < 16, Nat.testBit 0xFF7F i = false → i = 7) i below clear
    omega
  · rw [hwWord_congr hw, kept, words]
    exact hwWord_hwJournal_kept s 0x0D8 1 _ (Nat.lt_of_sub_eq_succ rfl) (by decide) (le_lt req 8 4) (and_mask_full 0x0D9 (le_lt req 8 4) (by decide))
  · rw [hwWord_congr hw, kept, words]
    exact hwWord_hwJournal_kept s 0x0D8 2 _ (Nat.lt_of_sub_eq_succ rfl) (by decide) (le_lt req 12 4) (and_mask_full 0x0DA (le_lt req 12 4) (by decide))
  · rw [ptpEnabled_congr hw] at enabled
    rw [ptpGet_congr (s := ptpRestart v) (by rw [answer_ptp]), ptpRestart_listens named enabled]
    exact ⟨rfl, rfl⟩

theorem ptpPortSet_sets : AnswersOk .ptpPortSet 0x0721 (fun _ _ req => byteAt req 0 ≤ 15 ∧ byteAt req 1 ≤ 1 ∧ -7 ≤ signed 8 (byteAt req 2) ∧
      signed 8 (byteAt req 2) ≤ 4 ∧ -7 ≤ signed 8 (byteAt req 3) ∧ signed 8 (byteAt req 3) ≤ 4 ∧ -3 ≤ signed 8 (byteAt req 4) ∧
      signed 8 (byteAt req 4) ≤ 4 ∧ 2 ≤ byteAt req 5 ∧ byteAt req 5 ≤ 10) (fun _ _ _ => [])
    (fun _ t _ req => hwWord t (0x100 + 4 * byteAt req 0) = BitVec.ofNat 32 (8 * byteAt req 1 + 256 * byteAt req 2 + 65536 * byteAt req 3 +
        16777216 * byteAt req 4) ∧ ((ptpGet t (byteAt req 0)).state = .disabled ↔ byteAt req 1 = 0)) := by
  refine answersOk_of_command (row := fun s ch seq => (rfl : execPtpPortSet ch seq s = _)) (fun s ch seq req fits => ?_)
  obtain ⟨named, flag, low2, high2, low3, high3, low4, high4, short, long⟩ := fits
  obtain ⟨m, port⟩ : ∃ m, m = byteAt req 0 := ⟨_, rfl⟩
  obtain ⟨w, first⟩ : ∃ w, w = 8 * byteAt req 1 + 256 * byteAt req 2 + 65536 * byteAt req 3 + 16777216 * byteAt req 4 := ⟨_, rfl⟩
  obtain ⟨ws, words⟩ : ∃ ws : List Nat, ws = [w, le req 6 2 + 65536 * byteAt req 5, le req 8 4] := ⟨_, rfl⟩
  obtain ⟨v, kept⟩ : ∃ v, v = hwJournal s (0x100 + 4 * m) (ws.map (BitVec.ofNat 32)) := ⟨_, rfl⟩
  rw [← port] at named ⊢
  have bytes := And.intro (byteAt_lt req 2) (And.intro (byteAt_lt req 3) (byteAt_lt req 4))
  have word : hwWord v (0x100 + 4 * m) = BitVec.ofNat 32 w := by
    have mask : ∀ m ≤ 15, hwMask (0x100 + 4 * m + 0) = 0xFFFFFF08 := by decide
    rw [kept, words]
    refine hwWord_hwJournal_kept s (0x100 + 4 * m) 0 _ (Nat.lt_of_sub_eq_succ rfl) (by omega) (show w < 2 ^ 32 by omega)
      (show w &&& hwMask (0x100 + 4 * m + 0) = w from ?_)
    rw [mask m named]
    refine and_mask_eq (n := 32) (by omega) (fun i below clear => ?_)
    have unused : i = 0 ∨ i = 1 ∨ i = 2 ∨ i = 4 ∨ i = 5 ∨ i = 6 ∨ i = 7 :=
      (by decide : ∀ i < 32, Nat.testBit 0xFFFFFF08 i = false → i = 0 ∨ i = 1 ∨ i = 2 ∨ i = 4 ∨ i = 5 ∨ i = 6 ∨ i = 7) i below clear
    obtain rfl | rfl | rfl | rfl | rfl | rfl | rfl := unused <;> omega
  have started : startedOn ch v = startedOn ch s := kept ▸ startedOn_keeps (hwJournal_keeps _ _ _) ch
  obtain ⟨u, role⟩ : ∃ u, u = if byteAt req 1 = 0 then ptpTo v m .disabled (zeros 10)
    else if (ptpGet v m).state = .disabled then ptpTo v m .listening (zeros 10) else v := ⟨_, rfl⟩
  have same : u.hw = v.hw ∧ startedOn ch u = startedOn ch v ∧ ((ptpGet u m).state = .disabled ↔ byteAt req 1 = 0) := by
    rw [role]
    split
    · next off => exact ⟨(ptpTo_keeps _ _ _ _).same .hw, ptpTo_startedOn _ _ _ _ _, by rw [ptpTo_state]; exact iff_of_true rfl off⟩
    · next on =>
      split
      · exact ⟨(ptpTo_keeps _ _ _ _).same .hw, ptpTo_startedOn _ _ _ _ _, by rw [ptpTo_state]; exact iff_of_false nofun on⟩
      · next state => exact ⟨rfl, rfl, iff_of_false state on⟩
  obtain ⟨hw, begun, state⟩ := same
  refine ⟨u, ?_, begun.trans started, ?_, ?_⟩
  · rw [role, kept, words, first, port]
    refine if_neg ?_
    simp only [Bool.not_eq_true', decide_eq_false_iff_not]
    omega
  · rw [hwWord_answer, hwWord_congr hw, word, first]
  · rw [ptpGet_congr (s := u) (by rw [answer_ptp]), state]

theorem ptpPortStatus_reads : AnswersOk .ptpPortStatus 0x0722 (fun _ _ req => byteAt req 0 ≤ 15)
    (fun s _ req => toLe 1 (ptpCode (ptpGet s (byteAt req 0)).state) ++ zeros 1 ++ fit (ptpGet s (byteAt req 0)).parent 10 ++
      toLe 8 (unsigned 64 ((ptpGet s (byteAt req 0)).linkDelay.getD 0)) ++
      toLe 4 (unsigned 32 (roundHalfEven ((ptpGet s (byteAt req 0)).ratio * 1000000000) (2 ^ 41)))) (fun s t ch _ => AnswerFrame [] s t ch) :=
  answersOk_query (fun s ch seq => (rfl : execPtpPortStatus ch seq s = _)) (fun s ch seq req named => if_neg (by omega))

end Sys2Proof.Machine

end

section

/-! PROOFS. The servo of Plumb and its commands (R400 to R404, R412). -/

namespace Sys2Proof.Machine
open Sys2Proof

set_option Elab.async false

section
variable {s : State} {a : Nat}

theorem plbTo_plb (s : State) (x : PlbState) : (plbTo s x).plb = { s.plb with state := x } := by
  unfold plbTo
  split
  · next same =>
    obtain ⟨p, plumb⟩ : ∃ p, p = s.plb := ⟨_, rfl⟩
    rw [← plumb] at same ⊢
    rw [← same]
  · rw [(eventToManager_keeps _ _ _).same .plb]
    rfl

theorem plbTo_time (s : State) (x : PlbState) : (plbTo s x).time = s.time := (plbTo_keeps s x).same .time

theorem plbTo_regKept (s : State) (x : PlbState) (quiet : ¬ EventReg a) : RegKept s (plbTo s x) a := by
  unfold plbTo
  split
  · exact .of_regs rfl
  · exact .trans (t := plbMod s (fun p => { p with state := x })) (.of_regs rfl) ((eventToManager_told _ _ _).regKept quiet)

theorem plbTo_startedOn (s : State) (x : PlbState) (ch : Nat) : startedOn ch (plbTo s x) = startedOn ch s := by
  unfold plbTo
  split
  · rfl
  · rw [eventToManager_startedOn]
    rfl

/-- The states that follow an accepted offset leave what the servo wrote (R401). -/
theorem plbAccepted_leaves (s : State) (theta : Int) (quiet : ¬ EventReg a) : (plbAccepted s theta).time = s.time ∧
    (plbAccepted s theta).plb.integ = s.plb.integ ∧ (plbAccepted s theta).plb.thetaLast = s.plb.thetaLast ∧ RegKept s (plbAccepted s theta) a := by
  unfold plbAccepted
  extract_lets run u
  have counted : u.time = s.time ∧ u.plb.integ = s.plb.integ ∧ u.plb.thetaLast = s.plb.thetaLast ∧ RegKept s u a := ⟨rfl, rfl, rfl, .of_regs rfl⟩
  obtain ⟨time, integ, last, regs⟩ := counted
  have moved (x : PlbState) : (plbTo u x).time = s.time ∧ (plbTo u x).plb.integ = s.plb.integ ∧ (plbTo u x).plb.thetaLast = s.plb.thetaLast ∧
      RegKept s (plbTo u x) a := by
    rw [plbTo_time, plbTo_plb]
    exact ⟨time, integ, last, regs.trans (plbTo_regKept u x quiet)⟩
  split
  · exact moved _
  · split
    · exact moved _
    · exact ⟨time, integ, last, regs⟩

theorem plbCounts_quiet : ¬ EventReg r_PLB_CNT_ACCEPTED ∧ ¬ EventReg r_PLB_CNT_JUMP := by
  unfold EventReg
  decide

theorem servo_steers {theta i1 u a : Int} (near : absInt theta ≤ plbJump s)
    (integral : i1 = clamp (-(plbIclamp s * 65536)) (plbIclamp s * 65536) (s.plb.integ + plbKi s * -theta)) (output : u = plbKp s * -theta + i1)
    (rounded : a = roundHalfEven u 65536) (within : absInt a ≤ plbLimit s) : (servo s theta).time.adj = BitVec.ofInt 64 a ∧
      (servo s theta).plb.integ = i1 ∧ (servo s theta).plb.thetaLast = theta ∧ Counted s (servo s theta) r_PLB_CNT_ACCEPTED 1 := by
  have unsaturated : decide (plbLimit s < absInt a) = false := decide_eq_false (by omega)
  obtain ⟨v, steered⟩ : ∃ v : State, v = { s with time := { s.time with adj := BitVec.ofInt 64 a }, plb := { s.plb with integ := i1, thetaLast := theta } } :=
    ⟨_, rfl⟩
  obtain ⟨w, traced⟩ : ∃ w, w = trace (bump v r_PLB_CNT_ACCEPTED) 33 3 0 0xFFF 0 (toLe 8 (unsigned 64 theta) ++ toLe 8 (unsigned 64 a)) := ⟨_, rfl⟩
  have follows : servo s theta = plbAccepted w theta := by
    unfold servo
    rw [if_neg (fun h => absurd h.2.2 (by omega)), if_neg (by omega)]
    dsimp only
    rw [← integral, ← output, ← rounded, unsaturated, traced, steered]
    rfl
  obtain ⟨time, integ, last, regs⟩ := plbAccepted_leaves w theta plbCounts_quiet.1
  have same : w.time = v.time ∧ w.plb = v.plb :=
    traced ▸ ⟨((trace_keeps _ _ _ _ _ _ _).same .time).trans (bump_time _ _), ((trace_keeps _ _ _ _ _ _ _).same .plb).trans (bump_plb _ _)⟩
  rw [follows, time, integ, last, same.1, same.2, steered]
  refine ⟨rfl, rfl, rfl, ?_⟩
  refine .of_bump (u := v) (v := bump v r_PLB_CNT_ACCEPTED) (.of_regs (by rw [steered])) rfl (.trans (t := w) ?_ regs)
  rw [traced]
  exact trace_regKept _ _ _ _ _ _ _ (by decide)

theorem refuseJump_refuses (s : State) (theta : Int) : (refuseJump s theta).time = s.time ∧ (refuseJump s theta).plb.integ = s.plb.integ ∧
    Counted s (refuseJump s theta) r_PLB_CNT_JUMP 1 := by
  unfold refuseJump
  extract_lets v w due n
  have shown : RegKept s (setBits s r_PLB_STATUS 8#32) r_PLB_CNT_JUMP := setReg_regKept _ _ (by decide)
  split
  · obtain ⟨x, reported⟩ : ∃ x, x = plbMod w (fun p => { p with refused := 0, refusedSent := some w.time.ticks }) := ⟨_, rfl⟩
    rw [← reported, (eventToManager_keeps _ _ _).same .time, (eventToManager_keeps _ _ _).same .plb]
    refine ⟨by rw [reported]; rfl, by rw [reported]; rfl, .of_bump shown (v := v) rfl (.trans (t := x) (.of_regs (by rw [reported]; rfl)) ?_)⟩
    exact (eventToManager_told _ _ _).regKept plbCounts_quiet.2
  · exact ⟨rfl, rfl, .of_bump shown (v := v) rfl (.of_regs rfl)⟩

theorem servo_refuses {theta : Int} (far : plbJump s < absInt theta) (disarmed : s.plb.armed = false) : (servo s theta).time = s.time ∧
    (servo s theta).plb.integ = s.plb.integ ∧ Counted s (servo s theta) r_PLB_CNT_JUMP 1 := by
  have refused : servo s theta = refuseJump s theta := by
    unfold servo
    rw [if_neg (fun h => absurd (disarmed.symm.trans h.2.1) Bool.false_ne_true), if_pos far]
  rw [refused]
  exact refuseJump_refuses s theta

theorem plumbSample_takes {tms d : Int} {rest : List (Int × Int)} (oldest : s.plb.queue = (tms, d) :: rest) :
    (s.plb.state = .manual → exec .plumbSample s = .next { s with plb := { s.plb with queue := rest } }) ∧
    (s.plb.state ≠ .manual → exec .plumbSample s = .next (plbSample (trimSave { s with plb := { s.plb with queue := rest } }) tms d)) := by
  have row : exec .plumbSample s = if s.plb.state = .manual then .next { s with plb := { s.plb with queue := rest } }
      else .next (plbSample (trimSave { s with plb := { s.plb with queue := rest } }) tms d) := by
    show execPlumbSample s = _
    unfold execPlumbSample
    rw [oldest]
    rfl
  exact ⟨fun manual => row.trans (if_pos manual), fun steers => row.trans (if_neg steers)⟩

theorem plumbTimeout_holds (steers : s.plb.state ≠ .manual) (fed : s.plb.state ≠ .holdover) : Completes .plumbTimeout s (fun t =>
    t.plb.state = .holdover ∧ t.time.adj = BitVec.ofInt 64 (clamp (-plbLimit s) (plbLimit s) (roundHalfEven s.plb.integ 65536)) ∧ t.plb.run = 0 ∧
    t.plb.kept = []) := by
  obtain ⟨locked, p, row⟩ : ∃ locked, ∃ p : Plumb, p = { s.plb with wasLocked := locked, run := 0, sumD := 0, kept := [], lockRun := 0 } ∧
      exec .plumbTimeout s = .next (plbTo { s with plb := p, time := { s.time with
        adj := BitVec.ofInt 64 (clamp (-plbLimit s) (plbLimit s) (roundHalfEven s.plb.integ 65536)) } } .holdover) :=
    ⟨_, _, rfl, if_neg (fun h => h.elim steers fed)⟩
  refine completes_of row.2 ?_
  rw [plbTo_plb, plbTo_time, row.1]
  exact ⟨rfl, rfl, rfl, rfl⟩

theorem plumbTimeout_idle (other : s.plb.state = .manual ∨ s.plb.state = .holdover) : exec .plumbTimeout s = .next s := if_pos other

theorem plbHostDHiWrite_offers {v : Word} {u : State} (written : u = setReg s (r_PLB_HOST_D + 4) v) : Completes (.plbHostDHiWrite v) s (fun t =>
    reg t (r_PLB_HOST_D + 4) = v ∧
    (s.plb.state ≠ .manual → plbSource s = 2 → s.plb.queue.length < 4 → t.plb = { s.plb with
      queue := s.plb.queue ++ [(signed 64 (counter64 u r_PLB_HOST_TMS), signed 64 (counter64 u r_PLB_HOST_D))] }) ∧
    (s.plb.state = .manual ∨ plbSource s ≠ 2 → t.plb = s.plb) ∧ ChangesOnly [.regs, .plb] s t) := by
  have row : exec (.plbHostDHiWrite v) s = .next (plbOffer u 2 (signed 64 (counter64 u r_PLB_HOST_TMS)) (signed 64 (counter64 u r_PLB_HOST_D))) := by
    rw [written]
    rfl
  have source : plbSource u = plbSource s := by
    rw [written]
    rfl
  have plb : u.plb = s.plb := by rw [written, setReg_plb]
  have frame : ChangesOnly [.regs, .plb] s u := written ▸ (setReg_changes _ _ _).mono (by decide)
  refine completes_of row ⟨?_, fun steers host room => ?_, fun ignored => ?_, ?_⟩
  · rw [RegKept.reg (s := u) ?_, written, reg_setReg_self]
    unfold plbOffer
    split
    · exact .of_regs rfl
    · split
      · exact bump_regKept _ (by decide)
      · exact .of_regs rfl
  · unfold plbOffer
    rw [plb, source, if_neg (fun h => h.elim steers (fun other => other host)), if_neg (by omega)]
  · unfold plbOffer
    rw [if_pos (by rw [plb, source]; exact ignored), plb]
  · exact (frame.trans (plbOffer_keeps _ _ _ _).frame).mono (by decide)

/-- Entry to ACQUIRE (R401). -/
theorem enterAcquire_acquires (s : State) : (enterAcquire s).plb = { s.plb with
      df := none, bias := 0, armed := true, run := 0, sumD := 0, kept := [], lockRun := 0, state := .acquire } ∧
    ∀ ch, startedOn ch (enterAcquire s) = startedOn ch s := by
  unfold enterAcquire
  refine ⟨?_, fun ch => ?_⟩
  · rw [plbTo_plb]
    rfl
  · rw [plbTo_startedOn]
    rfl

theorem plbConfigBad_fields {req : Bytes} (good : plbConfigBad req = false) : byteAt req 0 ≤ 1 ∧ byteAt req 1 ≤ 2 ∧ byteAt req 2 ≤ 8 := by
  unfold plbConfigBad at good
  simp only [Bool.or_eq_false_iff, decide_eq_false_iff_not, Nat.not_lt] at good
  obtain ⟨⟨⟨⟨⟨⟨⟨⟨⟨⟨mode, source⟩, shift⟩, -⟩, -⟩, -⟩, -⟩, -⟩, -⟩, -⟩, -⟩ := good
  exact ⟨mode, source, shift⟩

/-- Plumb follows the MODE that its control word holds while no save of the trim waits (R400, R401). -/
theorem plbApplyMode_follows {w mode source shift flag ch : Nat} (word : hwWord s 0x082 = BitVec.ofNat 32 w)
    (control : w = mode + 2 * source + 8 * shift + 128 * flag) (modes : mode ≤ 1) (sources : source ≤ 2) (shifts : shift ≤ 8) (flags : flag < 2)
    (idle : s.plb.trimSave = none) : ((mode = 0 → (plbApplyMode s).plb.state = .manual) ∧
      (mode = 1 → s.plb.state = .manual → (plbApplyMode s).plb.state = .acquire ∧ (plbApplyMode s).plb.armed = true)) ∧
    startedOn ch (plbApplyMode s) = startedOn ch s := by
  have value : (hwWord s 0x082).toNat = w := by rw [word, BitVec.toNat_ofNat, Nat.mod_eq_of_lt (by omega)]
  have accepted : hwAccepts 0x082 w = true := by
    have fields : bits w 2 1 ≠ 3 ∧ bits w 6 3 ≤ 8 := by
      unfold bits
      omega
    exact decide_eq_true fields
  have used : hwUse s 0x082 = w := by
    unfold hwUse
    rw [value, accepted]
    rfl
  have servoOn : bitAt (hwUse s 0x082) 0 = decide (mode = 1) := by
    rw [used, bitAt]
    exact decide_eq_decide.mpr (by omega)
  unfold plbApplyMode
  dsimp only
  rw [servoOn, idle]
  by_cases on : mode = 1
  · rw [decide_eq_true on]
    obtain ⟨plb, started⟩ := enterAcquire_acquires s
    by_cases manual : s.plb.state = .manual
    · rw [if_pos ⟨rfl, manual⟩, plb]
      exact ⟨⟨fun off => absurd (on.symm.trans off) Nat.one_ne_zero, fun _ _ => ⟨rfl, rfl⟩⟩, started ch⟩
    · rw [if_neg (fun h => manual h.2), if_neg (fun h => h.1 rfl)]
      exact ⟨⟨fun off => absurd (on.symm.trans off) Nat.one_ne_zero, fun _ waits => absurd waits manual⟩, rfl⟩
  · rw [decide_eq_false on, if_neg (fun h => Bool.false_ne_true h.1)]
    by_cases manual : s.plb.state = .manual
    · rw [if_neg (fun h => h.2 manual)]
      exact ⟨⟨fun _ => manual, fun h => absurd h on⟩, rfl⟩
    · rw [if_pos ⟨Bool.false_ne_true, manual⟩, plbTo_plb, plbTo_startedOn]
      exact ⟨⟨fun _ => rfl, fun h => absurd h on⟩, rfl⟩

end

theorem plbConfig_sets : AnswersOk .plbConfig 0x0710 (fun s _ req => plbConfigBad req = false ∧ s.plb.trimSave = none) (fun _ _ _ => [])
    (fun s t _ req => hwWord t 0x082 = BitVec.ofNat 32 (byteAt req 0 + 2 * byteAt req 1 + 8 * byteAt req 2 + 128 * bits (byteAt req 3) 0 0) ∧
      (byteAt req 0 = 0 → t.plb.state = .manual) ∧ (byteAt req 0 = 1 → s.plb.state = .manual → t.plb.state = .acquire ∧ t.plb.armed = true)) := by
  refine answersOk_of_command (row := fun s ch seq => (rfl : execPlbConfig ch seq s = _)) (fun s ch seq req fits => ?_)
  obtain ⟨good, idle⟩ := fits
  obtain ⟨mode, source, shift⟩ := plbConfigBad_fields good
  obtain ⟨w, control⟩ : ∃ w, w = byteAt req 0 + 2 * byteAt req 1 + 8 * byteAt req 2 + 128 * bits (byteAt req 3) 0 0 := ⟨_, rfl⟩
  have flag := bits_lt (byteAt req 3) 0 0
  obtain ⟨rest, words⟩ : ∃ rest : List Word, rest = (List.range 8).map (fun i => BitVec.ofNat 32 (le req (4 + 4 * i) 4)) ++
    [le req 36 4, le req 40 2, le req 42 2, le req 44 2, le req 48 4].map (BitVec.ofNat 32) := ⟨_, rfl⟩
  obtain ⟨v, kept⟩ : ∃ v, v = hwJournal s 0x082 (BitVec.ofNat 32 w :: rest) := ⟨_, rfl⟩
  have word : hwWord v 0x082 = BitVec.ofNat 32 w := by
    rw [kept]
    refine (hwWord_hwJournal s 0x082 0 (BitVec.ofNat 32 w :: rest) (Nat.succ_pos _) (by decide)).trans ?_
    exact ofNat_and_mask (k := 8) (by omega) (by decide)
  have plb : v.plb = s.plb := kept ▸ (hwJournal_keeps _ _ _).same .plb
  have started : startedOn ch v = startedOn ch s := kept ▸ startedOn_keeps (hwJournal_keeps _ _ _) ch
  obtain ⟨follows, begun⟩ := plbApplyMode_follows (ch := ch) word control mode source shift flag (by rw [plb]; exact idle)
  rw [plb] at follows
  refine ⟨plbApplyMode v, ?_, begun.trans started, ?_, fun off => ?_, fun on manual => ?_⟩
  · rw [kept, words, control]
    exact if_neg (by rw [good]; exact Bool.false_ne_true)
  · rw [hwWord_answer, hwWord_congr ((plbApplyMode_keeps v).same .hw), word, control]
  · rw [answer_plb]
    exact follows.1 off
  · rw [answer_plb]
    exact follows.2 on manual

theorem plbReacquire_acquires : AnswersOk .plbReacquire 0x0711 (fun s _ _ => s.plb.state ≠ .manual) (fun _ _ _ => [])
    (fun _ t _ _ => t.plb.state = .acquire ∧ t.plb.df = none ∧ t.plb.bias = 0 ∧ t.plb.armed = true) := by
  refine answersOk_of_command (row := fun s ch seq => (rfl : execPlbReacquire ch seq s = _)) (fun s ch seq req steers => ?_)
  obtain ⟨plb, started⟩ := enterAcquire_acquires s
  refine ⟨enterAcquire s, if_neg steers, started ch, ?_⟩
  rw [answer_plb, plb]
  exact ⟨rfl, rfl, rfl, rfl⟩

theorem plbTrimSave_waits : RunsLater .plbTrimSave 0x0713 (fun s _ _ => s.plb.state ≠ .manual ∧ s.plb.trimSave = none)
    (fun s t ch seq _ => t.plb = { s.plb with trimSave := some (ch, seq) } ∧ ChangesOnly [.mbx, .plb] s t) := by
  rintro s ch seq req begun ⟨steers, idle⟩
  refine completes_command begun (rfl : execPlbTrimSave ch seq s = _) ?_
  dsimp only
  rw [if_neg steers, if_neg (by rw [idle]; decide)]
  have saves : ChangesOnly [.mbx, .plb] (defer s ch seq) (plbMod (defer s ch seq) (fun p => { p with trimSave := some (ch, seq) })) := .of_patch rfl
  refine ⟨(defer_runs begun).congr rfl, ?_, ((defer_keeps _ _ _).frame.trans saves).mono (by decide)⟩
  show { (defer s ch seq).plb with trimSave := some (ch, seq) } = _
  rw [defer_plb]

/-- Settles O58, one lemma for each command and for each step of the servo. -/
theorem ptpPortsAndThePlumbServoAreSet : Obligations.PtpPortsAndThePlumbServoAreSet := by
  unfold Obligations.PtpPortsAndThePlumbServoAreSet
  exact ⟨⟨ptpInstanceSet_sets, ptpPortSet_sets, ptpPortStatus_reads⟩,
    fun s theta i1 u a near integral output rounded within => servo_steers near integral output rounded within,
    fun s theta far disarmed => servo_refuses far disarmed, fun s tms d rest oldest => plumbSample_takes oldest,
    fun s steers fed => plumbTimeout_holds steers fed, fun s other => plumbTimeout_idle other, fun s v u written => plbHostDHiWrite_offers written,
    plbConfig_sets, plbReacquire_acquires, answersOk_query (fun s ch seq => (rfl : execPlbStatus ch seq s = _)) (fun _ _ _ _ _ => rfl),
    plbTrimSave_waits⟩

end Sys2Proof.Machine

end

section

/-! PROOFS. Counters, snapshots and the trace (R13, R58, R620 to R627, R637). -/

namespace Sys2Proof.Machine
open Sys2Proof

set_option Elab.async false

theorem gaugeFrame {s u : State} {ch seq code : Nat} {body : Bytes} (changes : ChangesOnly [.gauge] s u) : AnswerFrame [] s (answer u ch seq code body) ch := by
  obtain ⟨parts, chans, regs⟩ := answer_frame_quiet ch seq code body changes (by decide) (by decide)
  exact ⟨parts.mono (by decide), chans, regs⟩

/-! Counters that a command names (R620, R621). -/

section
variable {s : State} {a : Nat}

theorem traceStatus_uncleared : ∀ h, regFind r_GAU_TRACE_STATUS = some h → h.desc.rc ≠ 0xFFFFFFFF := by
  intro h found
  have rc : (regFind r_GAU_TRACE_STATUS).map (fun x => decide (x.desc.rc ≠ 0xFFFFFFFF)) = some true := by decide +kernel
  rw [found] at rc
  exact of_decide_eq_true (Option.some.inj rc)

/-- An RC counter is not the trace's status, which an answer may write. -/
theorem counterAddr_untraced {id : Nat} (clears : bitAt id 0 = true) (named : counterAddr id = some a) : a ≠ r_GAU_TRACE_STATUS := by
  rintro rfl
  unfold counterAddr at named
  dsimp only at named
  split at named
  · exact absurd named (by simp)
  · split at named
    · next h found =>
      rw [clears] at named
      split at named
      · rw [if_neg (fun both => both.2.2 rfl)] at named
        exact absurd named (by simp)
      · split at named
        · next rc =>
          rw [Option.some.inj named] at found
          exact traceStatus_uncleared h found rc.2
        · exact absurd named (by simp)
    · exact absurd named (by simp)

theorem counter_setReg_self (s : State) (a : Nat) (v : Word) : counter (setReg s a v) a = v := mapGetD_mapSet_self _ _ _ _

theorem counter_cleared {id b : Nat} (zero : counter s a = 0) : counter (counterClear s id b) a = 0 := by
  unfold counterClear
  split
  · rcases eq_or_ne a b with rfl | other
    · exact counter_setReg_self _ _ _
    · rw [counter_setReg_ne _ _ other, zero]
  · exact zero

/-- What a read of counters without a clear collects. -/
theorem counters_read (s : State) (ids : List Nat) (acc : Bytes) :
    ids.foldl (fun (x : Bytes × State) id => (x.1 ++ toLe 8 (counterNow x.2 id ((counterAddr id).getD 0)),
      if false = true then counterClear x.2 id ((counterAddr id).getD 0) else x.2)) (acc, s) =
    (acc ++ ids.flatMap (fun id => toLe 8 (counterNow s id ((counterAddr id).getD 0))), s) := by
  induction ids generalizing acc with
  | nil => simp
  | cons id ids ih => rw [List.foldl_cons, if_neg Bool.false_ne_true, ih, List.flatMap_cons, List.append_assoc]

end

theorem gauCounterRead_reads : AnswersOk .gauCounterRead 0x0A02 (fun _ _ req => bitAt (byteAt req 0) 0 = false ∧ 1 ≤ byteAt req 1 ∧ byteAt req 1 ≤ 30 ∧
      ∀ i < byteAt req 1, (counterAddr (le req (4 + 4 * i) 4)).isSome = true)
    (fun s _ req => (List.range (byteAt req 1)).flatMap (fun i =>
      toLe 8 (counterNow s (le req (4 + 4 * i) 4) ((counterAddr (le req (4 + 4 * i) 4)).getD 0))))
    (fun s t ch _ => AnswerFrame [] s t ch) := by
  refine answersOk_query (fun s ch seq => (rfl : execGauCounterRead ch seq s = _)) (fun s ch seq req fits => ?_)
  obtain ⟨keep, some_, few, named⟩ := fits
  have known : ((List.range (byteAt req 1)).map (fun i => le req (4 + 4 * i) 4)).any (fun id => (counterAddr id).isNone) = false := by
    simp only [List.any_map, List.any_eq_false, List.mem_range, Function.comp_apply]
    intro i below none_
    rw [Option.isNone_iff_eq_none] at none_
    have := named i below
    rw [none_] at this
    exact Bool.false_ne_true this
  dsimp only
  rw [keep, known, Bool.false_and, if_neg Bool.false_ne_true, if_neg (by simp; omega), counters_read, List.nil_append, List.flatMap_map]

theorem gauCounterRead_clears (a : Nat) : AnswersOk .gauCounterRead 0x0A02 (fun s ch req => bitAt (byteAt req 0) 0 = true ∧ chanHolds s ch = true ∧
      byteAt req 1 = 1 ∧ counterAddr (le req 4 4) = some a ∧ bitAt (le req 4 4) 0 = true)
    (fun s _ req => toLe 8 (counterNow s (le req 4 4) a)) (fun s t _ _ => counter t a = 0 ∧ ChangesOnly answerParts s t) := by
  refine answersOk_set (row := fun s ch seq => (rfl : execGauCounterRead ch seq s = _)) (fun s ch seq req fits => ?_)
  obtain ⟨clear, holds, one, named, rc⟩ := fits
  have cleared : counterClear s (le req 4 4) a = setReg s a 0 := if_pos rc
  refine ⟨setReg s a 0, ?_, rfl, ?_, ?_⟩
  · dsimp only
    rw [clear, holds, one, ← cleared]
    simp [List.range_succ, named]
  · rw [(answer_regKept _ _ _ _ _ (counterAddr_untraced rc named)).counter, counter_setReg_self]
  · exact ((setReg_changes s a 0).trans (answer_changes _ _ _ _ _)).mono (by decide)

theorem gauCounterRead_forbidden {s : State} {ch seq : Nat} {req : Bytes} (begun : Begun s ch seq 0x0A02 req) (clear : bitAt (byteAt req 0) 0 = true)
    (other : chanHolds s ch = false) : Completes (.gauCounterRead ch seq) s (fun t => Answered t ch seq rcNotPermitted [] ∧ AnswerFrame [] s t ch) := by
  refine completes_command begun (rfl : execGauCounterRead ch seq s = _) ?_
  dsimp only
  rw [clear, other, if_pos (by rfl)]
  exact ⟨answer_answered _ _ begun.unanswered, answer_frame _ _ _ _ _⟩

/-! The trace (R623 to R627). -/

section
variable {s : State}

theorem trace_stopped (source kind flags slice sample : Nat) (data : Bytes) (stopped : s.gauge.traceRun = false) :
    trace s source kind flags slice sample data = s := if_neg (fun h => Bool.false_ne_true (stopped.symm.trans h.1))

/-- The first record of a trace does not end it: the memory holds more than one. -/
theorem trace_first (source kind flags slice sample : Nat) (data : Bytes) (runs : s.gauge.traceRun = true) (empty : s.gauge.traceWritten = 0) :
    (trace s source kind flags slice sample data).gauge.traceRun = true ∧
    (trace s source kind flags slice sample data).gauge.traceWritten.toNat ≤ 1 := by
  unfold trace
  extract_lets g n cap lost record written
  split
  · split
    · next full =>
      have zero : n = 0 := congrArg BitVec.toNat empty
      have blocks : cap = s.gauge.traceSize * 8388608 := rfl
      omega
    · refine ⟨runs, ?_⟩
      show (s.gauge.traceWritten + 1).toNat ≤ 1
      rw [empty]
      decide
  · rw [runs, empty]
    exact ⟨rfl, by decide⟩

/-- An answer writes at most one record of the trace. -/
theorem answer_trace (s : State) (ch seq code : Nat) (body : Bytes) : (answer s ch seq code body).gauge = s.gauge ∨
    ∃ u data, u.gauge = s.gauge ∧ (answer s ch seq code body).gauge = (trace u 36 1 0 0xFFF 0 data).gauge := by
  unfold answer
  split
  · next x found =>
    unfold finish
    extract_lets a fw b c
    exact .inr ⟨b, _, rfl, (queueResponse_keeps _ _ _ _ _ _).same .gauge⟩
  · exact .inl rfl

theorem trace_snaps (source kind flags slice sample : Nat) (data : Bytes) :
    (trace s source kind flags slice sample data).gauge.snapReq = s.gauge.snapReq ∧ (trace s source kind flags slice sample data).gauge.snaps = s.gauge.snaps := by
  unfold trace
  extract_lets g n cap lost record written
  split
  · split
    · exact ⟨rfl, rfl⟩
    · exact ⟨rfl, rfl⟩
  · exact ⟨rfl, rfl⟩

theorem answer_snaps (ch seq code : Nat) (body : Bytes) :
    (answer s ch seq code body).gauge.snapReq = s.gauge.snapReq ∧ (answer s ch seq code body).gauge.snaps = s.gauge.snaps := by
  rcases answer_trace s ch seq code body with same | ⟨u, data, same, traced⟩
  · rw [same]
    exact ⟨rfl, rfl⟩
  · rw [traced, ← same]
    exact trace_snaps _ _ _ _ _ _

theorem answer_gauge_stopped (ch seq code : Nat) (body : Bytes) (stopped : s.gauge.traceRun = false) : (answer s ch seq code body).gauge = s.gauge := by
  rcases answer_trace s ch seq code body with same | ⟨u, data, same, traced⟩
  · exact same
  · rw [traced, trace_stopped _ _ _ _ _ _ (by rw [same]; exact stopped), same]

theorem answer_gauge_first (ch seq code : Nat) (body : Bytes) (runs : s.gauge.traceRun = true) (empty : s.gauge.traceWritten = 0) :
    (answer s ch seq code body).gauge.traceRun = true ∧ (answer s ch seq code body).gauge.traceWritten.toNat ≤ 1 := by
  rcases answer_trace s ch seq code body with same | ⟨u, data, same, traced⟩
  · rw [same, runs, empty]
    exact ⟨rfl, by decide⟩
  · rw [traced]
    exact trace_first _ _ _ _ _ _ (by rw [same, runs]) (by rw [same, empty])

end

/-! Snapshots (R621, R622). -/

theorem gauSnapshot_waits (tm : Nat) : RunsLater .gauSnapshot 0x0A00 (fun s _ req => s.gauge.snapReq = none ∧
      tm = (if le req 0 8 = 0 then (stampNow s).toNat + 5120000 else le req 0 8) ∧ 2560000 ≤ distance 64 tm (stampNow s).toNat ∧
      distance 64 tm (stampNow s).toNat ≤ 256000000000)
    (fun s t ch seq req => t.gauge = { s.gauge with snapReq := some ⟨ch, seq, BitVec.ofNat 64 tm, le req 8 2, bitAt (byteAt req 10) 0⟩ } ∧
      ChangesOnly [.mbx, .gauge] s t) := by
  rintro s ch seq req begun ⟨idle, time, soon, late⟩
  refine completes_command begun (rfl : execGauSnapshot ch seq s = _) ?_
  dsimp only
  rw [idle, ← time, if_neg (by decide), if_neg (by omega)]
  obtain ⟨u, deferred⟩ : ∃ u, u = defer s ch seq := ⟨_, rfl⟩
  rw [← deferred]
  have first : ChangesOnly [.mbx, .gauge] s u := deferred ▸ (defer_keeps _ _ _).frame.mono (by decide)
  refine ⟨(deferred ▸ defer_runs begun : RunsOn u ch seq 0x0A00).congr rfl, ?_, (first.trans (.of_patch rfl : ChangesOnly [.gauge] u _)).mono (by decide)⟩
  rw [deferred, defer_gauge]

section
variable {s : State} {r : SnapReq}

theorem foldl_counterClear_zero (ids : List Nat) (s : State) {id : Nat} (clears : bitAt id 0 = true)
    (h : id ∈ ids ∨ counter s ((counterAddr id).getD 0) = 0) :
    counter (ids.foldl (fun s id => counterClear s id ((counterAddr id).getD 0)) s) ((counterAddr id).getD 0) = 0 := by
  refine foldl_reaches (q := fun _ => True) (p := fun u => counter u ((counterAddr id).getD 0) = 0) (fun u _ => ?_) (fun _ _ _ => trivial)
    (fun u k _ zero => counter_cleared zero) ids s trivial h
  rw [show counterClear u id ((counterAddr id).getD 0) = setReg u ((counterAddr id).getD 0) 0 from if_pos clears, counter_setReg_self]

theorem catalogueOf_named {islands id : Nat} (listed : id ∈ catalogueOf s islands) : (counterAddr id).isSome = true := by
  unfold catalogueOf at listed
  have kept := (List.mem_filter.mp listed).2
  exact (Bool.and_eq_true_iff.mp kept).1

theorem snapshotCapture_takes (waits : s.gauge.snapReq = some r) :
    (earlier 64 (stampNow s).toNat r.at_.toNat = true → exec .snapshotCapture s = .next s) ∧
    (earlier 64 (stampNow s).toNat r.at_.toNat = false → Completes .snapshotCapture s (fun t => t.gauge.snapReq = none ∧
      (∃ x, t.gauge.snaps = s.gauge.snaps.drop (s.gauge.snaps.length - 3) ++ [x] ∧ x.id = s.gauge.nextSnap ∧ x.stamp = stampNow s ∧
        x.values = (catalogueOf s r.islands).map (fun id =>
          (BitVec.ofNat 32 id, BitVec.ofNat 64 (counterNow s id ((counterAddr id).getD 0))))) ∧
      (r.clear = true → ∀ id ∈ catalogueOf s r.islands, bitAt id 0 = true → counter t ((counterAddr id).getD 0) = 0) ∧
      (Unanswered s r.chan r.seq → Answered t r.chan r.seq rcOk
        (toLe 4 s.gauge.nextSnap ++ toLe 8 (stampNow s).toNat ++ toLe 4 (catalogueOf s r.islands).length)))) := by
  refine ⟨fun early => ?_, fun due => ?_⟩
  · show execSnapshotCapture s = _
    unfold execSnapshotCapture
    rw [waits]
    exact if_pos early
  · obtain ⟨x, snap⟩ : ∃ x : Snapshot, x = { id := s.gauge.nextSnap, stamp := stampNow s, values := (catalogueOf s r.islands).map (fun id =>
          (BitVec.ofNat 32 id, BitVec.ofNat 64 (counterNow s id ((counterAddr id).getD 0)))) } := ⟨_, rfl⟩
    obtain ⟨u, taken⟩ : ∃ u : State, u = { s with gauge := { s.gauge with
        snapReq := none, snaps := s.gauge.snaps.drop (s.gauge.snaps.length - 3) ++ [x], nextSnap := (s.gauge.nextSnap + 1) % 4294967296 } } := ⟨_, rfl⟩
    obtain ⟨v, cleared⟩ : ∃ v : State, v =
        if r.clear = true then (catalogueOf s r.islands).foldl (fun s id => counterClear s id ((counterAddr id).getD 0)) u else u := ⟨_, rfl⟩
    have kept : Keeps [.regs] u v := by
      rw [cleared]
      exact .ite (.foldl .refl (fun u id => counterClear_keeps u id _)) .refl
    have gauge : v.gauge = u.gauge := kept.same .gauge
    have mbx : v.mbx = s.mbx := (kept.same .mbx).trans (by rw [taken])
    have snaps := answer_snaps (s := v) r.chan r.seq rcOk (toLe 4 x.id ++ toLe 8 x.stamp.toNat ++ toLe 4 x.values.length)
    refine completes_of (t := answer v r.chan r.seq rcOk (toLe 4 x.id ++ toLe 8 x.stamp.toNat ++ toLe 4 x.values.length)) ?_
      ⟨?_, ⟨x, ?_, by rw [snap], by rw [snap], by rw [snap]⟩, fun clear id listed rc => ?_, fun asked => ?_⟩
    · show execSnapshotCapture s = _
      unfold execSnapshotCapture
      rw [waits]
      dsimp only
      rw [if_neg (by rw [due]; exact Bool.false_ne_true), cleared, taken, snap]
    · rw [snaps.1, gauge, taken]
    · rw [snaps.2, gauge, taken]
    · obtain ⟨a, named⟩ := Option.isSome_iff_exists.mp (catalogueOf_named listed)
      have untraced : (counterAddr id).getD 0 ≠ r_GAU_TRACE_STATUS := by
        rw [named]
        exact counterAddr_untraced rc named
      rw [(answer_regKept _ _ _ _ _ untraced).counter, cleared, if_pos clear]
      exact foldl_counterClear_zero _ _ rc (.inl listed)
    · have := answer_answered (s := v) rcOk (toLe 4 x.id ++ toLe 8 x.stamp.toNat ++ toLe 4 x.values.length) (asked.same mbx)
      rw [snap] at this
      rw [snap]
      simpa only [List.length_map] using this

end

theorem gauSnapshotRead_reads (x : Snapshot) : AnswersOk .gauSnapshotRead 0x0A01 (fun s _ req => s.gauge.snaps.find? (fun x => x.id = le req 0 4) = some x ∧
      1 ≤ le req 8 2 ∧ le req 8 2 ≤ 15 ∧ le req 4 4 + le req 8 2 ≤ x.values.length)
    (fun _ _ req => slice req 0 4 ++ toLe 4 x.values.length ++
      ((x.values.drop (le req 4 4)).take (le req 8 2)).flatMap (fun v => toLe 4 v.1.toNat ++ zeros 4 ++ toLe 8 v.2.toNat))
    (fun s t ch _ => AnswerFrame [] s t ch) := by
  refine answersOk_query (fun s ch seq => (rfl : execGauSnapshotRead ch seq s = _)) (fun s ch seq req fits => ?_)
  obtain ⟨found, some_, few, inside⟩ := fits
  dsimp only
  rw [found]
  exact if_neg (by omega)

/-! The commands of the trace. -/

theorem gauTraceConfig_sets : AnswersOk .gauTraceConfig 0x0A10 (fun s _ req => s.gauge.traceRun = false ∧ (le req 8 2 ≤ 2049 ∨ le req 8 2 = 0xFFFF) ∧
      byteAt req 10 ≤ 16 ∧ byteAt req 11 ≤ 1 ∧ le req 0 8 < 2 ^ 38) (fun _ _ _ => [])
    (fun s t ch req => t.gauge = { s.gauge with traceSources := BitVec.ofNat 64 (le req 0 8), traceShift := byteAt req 10, traceMode := byteAt req 11,
                                                traceSlice := (if le req 8 2 = 0xFFFF then 0xFFF else le req 8 2) } ∧ AnswerFrame [] s t ch) := by
  refine answersOk_set (row := fun s ch seq => (rfl : execGauTraceConfig ch seq s = _)) (fun s ch seq req fits => ?_)
  obtain ⟨stopped, slice, shift, mode, sources⟩ := fits
  obtain ⟨u, set⟩ : ∃ u : State, u = { s with gauge := { s.gauge with
        traceSources := BitVec.ofNat 64 (le req 0 8), traceSlice := if le req 8 2 = 0xFFFF then 0xFFF else le req 8 2,
        traceShift := byteAt req 10, traceMode := byteAt req 11 } } := ⟨_, rfl⟩
  have changes : ChangesOnly [.gauge] s u := set ▸ .of_patch rfl
  refine ⟨u, ?_, by rw [set], ?_, gaugeFrame changes⟩
  · dsimp only
    rw [if_neg (by rw [stopped]; exact Bool.false_ne_true), if_neg (by omega), set]
  · rw [answer_gauge_stopped _ _ _ _ (by rw [set]; exact stopped), set]

theorem gauTraceConfig_busy {s : State} {ch seq : Nat} {req : Bytes} (begun : Begun s ch seq 0x0A10 req) (runs : s.gauge.traceRun = true) :
    Completes (.gauTraceConfig ch seq) s (fun t => Answered t ch seq rcBusy [] ∧ AnswerFrame [] s t ch) := by
  refine completes_command begun (rfl : execGauTraceConfig ch seq s = _) ?_
  dsimp only
  rw [if_pos runs]
  exact ⟨answer_answered _ _ begun.unanswered, answer_frame _ _ _ _ _⟩

theorem gauTraceStart_starts : AnswersOk .gauTraceStart 0x0A11 (fun _ _ _ => True) (fun s _ _ => toLe 8 (stampNow s).toNat)
    (fun s t ch _ => t.gauge.traceRun = true ∧ t.gauge.traceWritten.toNat ≤ 1 ∧ AnswerFrame [] s t ch) := by
  refine answersOk_set (row := fun s ch seq => (rfl : execGauTraceStart ch seq s = _)) (fun s ch seq req _ => ?_)
  obtain ⟨u, started⟩ : ∃ u : State, u = { s with gauge := { s.gauge with traceRun := true, traceWritten := 0, lostBefore := [], traceMac := [] } } := ⟨_, rfl⟩
  have changes : ChangesOnly [.gauge] s u := started ▸ .of_patch rfl
  obtain ⟨runs, few⟩ := answer_gauge_first (s := u) ch seq rcOk (toLe 8 (stampNow s).toNat) (by rw [started]) (by rw [started])
  exact ⟨u, by rw [started], by rw [started], runs, few, gaugeFrame changes⟩

theorem gauTraceStop_stops : AnswersOk .gauTraceStop 0x0A12 (fun _ _ _ => True)
    (fun s _ _ => toLe 8 s.gauge.traceWritten.toNat ++ toLe 4 (counter s r_GAU_TRACE_DROP).toNat ++ zeros 4)
    (fun s t ch _ => t.gauge = { s.gauge with traceRun := false } ∧ AnswerFrame [] s t ch) := by
  refine answersOk_set (row := fun s ch seq => (rfl : execGauTraceStop ch seq s = _)) (fun s ch seq req _ => ?_)
  obtain ⟨u, stopped⟩ : ∃ u : State, u = { s with gauge := { s.gauge with traceRun := false } } := ⟨_, rfl⟩
  have changes : ChangesOnly [.gauge] s u := stopped ▸ .of_patch rfl
  exact ⟨u, by rw [stopped], by rw [stopped], by rw [answer_gauge_stopped _ _ _ _ (by rw [stopped]), stopped], gaugeFrame changes⟩

/-- Settles O59, one lemma for each command and for the capture of a snapshot. -/
theorem countersSnapshotsAndTrace : Obligations.CountersSnapshotsAndTrace := by
  unfold Obligations.CountersSnapshotsAndTrace
  exact ⟨gauCounterRead_reads, gauCounterRead_clears, fun s ch seq req begun clear other => gauCounterRead_forbidden begun clear other, gauSnapshot_waits,
    fun s r waits => snapshotCapture_takes waits, gauSnapshotRead_reads, gauTraceConfig_sets, fun s ch seq req begun runs => gauTraceConfig_busy begun runs,
    gauTraceStart_starts, gauTraceStop_stops,
    answersOk_query (fun s ch seq => (rfl : execGauTraceRead ch seq s = _)) (fun s ch seq req fits => if_neg (by omega))⟩

end Sys2Proof.Machine

end

section

/-! PROOFS. The error log, sensors, Heartwood words and development reads (R614, R617, R618, R629, R632 to R637, R668, R669). -/

namespace Sys2Proof.Machine
open Sys2Proof

set_option Elab.async false

/-! What an event or an entry of the error log leaves of the log and of the sensors. -/

/-- The sensors and the thermal level. -/
structure HeatKept (s t : State) : Prop where
  sensors : t.gauge.sensors = s.gauge.sensors
  thermal : t.gauge.thermal = s.gauge.thermal

/-- The error log as well. -/
structure LogKept (s t : State) : Prop extends HeatKept s t where
  errlog : t.gauge.errlog = s.gauge.errlog
  nextSeq : t.gauge.nextSeq = s.gauge.nextSeq
  windows : t.gauge.windows = s.gauge.windows

section
variable {s t u : State}

/-- The later change comes first, as in the term it is about. -/
theorem HeatKept.last (k : HeatKept t u) (h : HeatKept s t) : HeatKept s u := ⟨k.sensors.trans h.sensors, k.thermal.trans h.thermal⟩

theorem LogKept.of_gauge (same : t.gauge = s.gauge) : LogKept s t where
  sensors := by rw [same]
  thermal := by rw [same]
  errlog := by rw [same]
  nextSeq := by rw [same]
  windows := by rw [same]

theorem LogKept.last (k : LogKept t u) (h : LogKept s t) : LogKept s u where
  toHeatKept := k.toHeatKept.last h.toHeatKept
  errlog := k.errlog.trans h.errlog
  nextSeq := k.nextSeq.trans h.nextSeq
  windows := k.windows.trans h.windows

theorem trace_logKept (s : State) (source kind flags slice sample : Nat) (data : Bytes) : LogKept s (trace s source kind flags slice sample data) := by
  unfold trace
  extract_lets g n cap lost record written
  split
  · split
    · exact ⟨⟨rfl, rfl⟩, rfl, rfl, rfl⟩
    · exact ⟨⟨rfl, rfl⟩, rfl, rfl, rfl⟩
  · exact .of_gauge rfl

theorem queueEvent_logKept (s : State) (ch code : Nat) (payload : Bytes) : LogKept s (queueEvent s ch code payload) := by
  unfold queueEvent
  dsimp only
  split
  · split
    · exact .of_gauge rfl
    · exact .last (trace_logKept _ _ _ _ _ _ _) (.of_gauge rfl)
  · exact .of_gauge rfl

theorem eventToPf0_logKept (s : State) (ep code : Nat) (payload : Bytes) : LogKept s (eventToPf0 s ep code payload) := by
  unfold eventToPf0
  split
  · exact queueEvent_logKept _ _ _ _
  · exact .of_gauge rfl

theorem eventToManager_logKept (s : State) (code : Nat) (payload : Bytes) : LogKept s (eventToManager s code payload) := by
  unfold eventToManager
  refine .last (queueEvent_logKept _ _ _ _) ?_
  split
  · exact eventToPf0_logKept _ _ _ _
  · exact .of_gauge rfl

theorem errNotice_logKept (s : State) (e : ErrEntry) : LogKept s (errNotice s e) := by
  unfold errNotice
  split
  · exact .last (eventToManager_logKept _ _ _) (.of_gauge ((mgrEventBoth_keeps s 5).same .gauge))
  · exact .of_gauge rfl

/-- Past the entry itself, an entry of the error log changes nothing of the log. -/
theorem errWrite_logKept (s : State) (e : ErrEntry) : LogKept (errPut s { e with seq := s.gauge.nextSeq }) (errWrite s e) :=
  .last (errNotice_logKept _ _) (.of_gauge (((errSum_keeps _ _).same .gauge).trans ((errLost_keeps _ _).same .gauge)))

theorem errWrite_heatKept (s : State) (e : ErrEntry) : HeatKept s (errWrite s e) := .last (errWrite_logKept s e).toHeatKept ⟨rfl, rfl⟩

theorem errlog_heatKept (s : State) (code island func addr : Nat) (data : Bytes) : HeatKept s (errlog s code island func addr data) := by
  unfold errlog errlogGen
  dsimp only
  split
  · exact .last (errWrite_heatKept _ _) ⟨rfl, rfl⟩
  · split
    · exact .last (errWrite_heatKept _ _) ⟨rfl, rfl⟩
    · exact ⟨rfl, rfl⟩

theorem answer_logKept (s : State) (ch seq code : Nat) (body : Bytes) : LogKept s (answer s ch seq code body) := by
  rcases answer_trace s ch seq code body with same | ⟨u, data, same, traced⟩
  · exact .of_gauge same
  · exact .last (.of_gauge traced) (.last (trace_logKept u _ _ _ _ _ data) (.of_gauge same))

theorem errPut_last (s : State) (e : ErrEntry) : (errPut s e).gauge.errlog.getLast? = some e := List.getLast?_concat

theorem errlogWindowClose_closes {code : Nat} {w : ErrWindow} (found : s.gauge.windows.find? (fun w => w.code = code) = some w) :
    (w.last = none → exec (.errlogWindowClose code) s =
      .next { s with gauge := { s.gauge with windows := s.gauge.windows.filter (fun x => x.code ≠ code) } }) ∧
    (∀ e, w.last = some e → Completes (.errlogWindowClose code) s (fun t =>
      t.gauge.windows = s.gauge.windows.filter (fun x => x.code ≠ code) ∧
      t.gauge.errlog.getLast? = some { e with count := w.suppressed, seq := s.gauge.nextSeq } ∧ t.gauge.nextSeq = s.gauge.nextSeq + 1)) := by
  have row : exec (.errlogWindowClose code) s = execErrlogWindowClose code s := rfl
  unfold execErrlogWindowClose at row
  rw [found] at row
  dsimp only at row
  refine ⟨fun quiet => ?_, fun e last => ?_⟩
  · rw [row, quiet]
  · rw [last] at row
    obtain ⟨u, closed⟩ : ∃ u : State, u = { s with gauge := { s.gauge with windows := s.gauge.windows.filter (fun x => x.code ≠ code) } } := ⟨_, rfl⟩
    rw [← closed] at row
    have kept := errWrite_logKept u { e with count := w.suppressed }
    refine completes_of (t := errWrite u { e with count := w.suppressed }) row ⟨kept.windows.trans (by rw [closed]; rfl), ?_, kept.nextSeq.trans (by rw [closed]; rfl)⟩
    rw [kept.errlog, errPut_last, closed]

/-! The thermal level (R635). -/

theorem bitAt_putBits_self (x i v : Nat) (one : i = 0 ∨ i = 1) (flag : v ≤ 1) : bitAt (putBits x i i v) i = decide (v = 1) := by
  unfold bitAt putBits bits
  rcases one with rfl | rfl <;> simp only [Nat.reducePow, Nat.reduceAdd, Nat.reduceSub, decide_eq_decide] <;> omega

theorem bitAt_putBits_other (x i j v : Nat) (two : i = 0 ∧ j = 1 ∨ i = 1 ∧ j = 0) : bitAt (putBits x i i v) j = bitAt x j := by
  unfold bitAt putBits bits
  rcases two with ⟨rfl, rfl⟩ | ⟨rfl, rfl⟩ <;> simp only [Nat.reducePow, Nat.reduceAdd, Nat.reduceSub, decide_eq_decide] <;> omega

variable (s : State)

theorem thermalCross_gauge (c : Nat) : (thermalCross s c).gauge.sensors = s.gauge.sensors ∧
    (thermalCross s c).gauge.thermal = (if c = 0 then putBits s.gauge.thermal 0 0 1 else if c = 1 then putBits s.gauge.thermal 1 1 1
      else if c = 2 then putBits s.gauge.thermal 0 0 0 else putBits s.gauge.thermal 1 1 0) := by
  unfold thermalCross
  extract_lets h old new g v w
  have kept : HeatKept v (eventToManager w 0x8A30 (toLe 1 h.1 ++ toLe 1 (if bitAt new 1 then 2 else if bitAt new 0 then 1 else 0) ++ zeros 2 ++
      toLe 4 (unsigned 32 h.2))) := .last (eventToManager_logKept _ _ _).toHeatKept (errlog_heatKept _ _ _ _ _ _)
  exact ⟨kept.sensors, kept.thermal⟩

/-- A crossing sets or clears its own bit of the thermal level: bit 0 is the warning's, bit 1 the critical level's. -/
theorem thermalCross_bits {c : Nat} (named : c ≤ 3) : bitAt (thermalCross s c).gauge.thermal (c % 2) = decide (c < 2) ∧
    bitAt (thermalCross s c).gauge.thermal (1 - c % 2) = bitAt s.gauge.thermal (1 - c % 2) := by
  rw [(thermalCross_gauge s c).2]
  obtain rfl | rfl | rfl | rfl : c = 0 ∨ c = 1 ∨ c = 2 ∨ c = 3 := by omega
  · exact ⟨bitAt_putBits_self _ 0 1 (.inl rfl) (by decide), bitAt_putBits_other _ 0 1 1 (.inl ⟨rfl, rfl⟩)⟩
  · exact ⟨bitAt_putBits_self _ 1 1 (.inr rfl) (by decide), bitAt_putBits_other _ 1 0 1 (.inr ⟨rfl, rfl⟩)⟩
  · exact ⟨bitAt_putBits_self _ 0 0 (.inl rfl) (by decide), bitAt_putBits_other _ 0 1 0 (.inl ⟨rfl, rfl⟩)⟩
  · exact ⟨bitAt_putBits_self _ 1 0 (.inr rfl) (by decide), bitAt_putBits_other _ 1 0 0 (.inr ⟨rfl, rfl⟩)⟩

/-- A crossing under a condition. -/
theorem thermalCross_when {c : Nat} (named : c ≤ 3) (p : Prop) [Decidable p] {u : State} (crossed : u = if p then thermalCross s c else s) :
    u.gauge.sensors = s.gauge.sensors ∧ (p → bitAt u.gauge.thermal (c % 2) = decide (c < 2)) ∧
    (¬ p → bitAt u.gauge.thermal (c % 2) = bitAt s.gauge.thermal (c % 2)) ∧ bitAt u.gauge.thermal (1 - c % 2) = bitAt s.gauge.thermal (1 - c % 2) := by
  obtain ⟨own, other⟩ := thermalCross_bits s named
  rw [crossed]
  split
  · next yes => exact ⟨(thermalCross_gauge s c).1, fun _ => own, fun no => absurd yes no, other⟩
  · next no => exact ⟨rfl, fun yes => absurd yes no, fun _ => rfl, rfl⟩

theorem thermalCheck_follows : (thermalCheck s).gauge.sensors = s.gauge.sensors ∧
    ((256 * hwField s 0x007 7 0 : Nat) < (hottest s).2 → bitAt (thermalCheck s).gauge.thermal 0 = true) ∧
    ((256 * hwField s 0x007 15 8 : Nat) < (hottest s).2 → bitAt (thermalCheck s).gauge.thermal 1 = true) ∧
    ((hottest s).2 ≤ (256 * hwField s 0x007 7 0 : Nat) - 512 → bitAt (thermalCheck s).gauge.thermal 0 = false) ∧
    ((hottest s).2 ≤ (256 * hwField s 0x007 15 8 : Nat) - 512 → bitAt (thermalCheck s).gauge.thermal 1 = false) := by
  obtain ⟨t, hot⟩ : ∃ t, t = (hottest s).2 := ⟨_, rfl⟩
  obtain ⟨warn, warnAt⟩ : ∃ warn : Int, warn = (256 * hwField s 0x007 7 0 : Nat) := ⟨_, rfl⟩
  obtain ⟨crit, critAt⟩ : ∃ crit : Int, crit = (256 * hwField s 0x007 15 8 : Nat) := ⟨_, rfl⟩
  obtain ⟨a, first⟩ : ∃ a, a = if ¬ bitAt s.gauge.thermal 0 = true ∧ warn < t then thermalCross s 0 else s := ⟨_, rfl⟩
  obtain ⟨b, second⟩ : ∃ b, b = if ¬ bitAt a.gauge.thermal 1 = true ∧ crit < t then thermalCross a 1 else a := ⟨_, rfl⟩
  obtain ⟨c, third⟩ : ∃ c, c = if bitAt b.gauge.thermal 1 = true ∧ t ≤ crit - 512 then thermalCross b 3 else b := ⟨_, rfl⟩
  obtain ⟨d, fourth⟩ : ∃ d, d = if bitAt c.gauge.thermal 0 = true ∧ t ≤ warn - 512 then thermalCross c 2 else c := ⟨_, rfl⟩
  have whole : thermalCheck s = d := by rw [fourth, third, second, first, critAt, warnAt, hot]; rfl
  obtain ⟨sensorsA, setA, leftA, otherA⟩ := thermalCross_when s (by decide) _ first
  obtain ⟨sensorsB, setB, leftB, otherB⟩ := thermalCross_when a (by decide) _ second
  obtain ⟨sensorsC, setC, leftC, otherC⟩ := thermalCross_when b (by decide) _ third
  obtain ⟨sensorsD, setD, leftD, otherD⟩ := thermalCross_when c (by decide) _ fourth
  simp only [Nat.reduceMod, Nat.reduceSub, Nat.reduceLT, decide_true, decide_false] at setA leftA otherA setB leftB otherB setC leftC otherC setD leftD otherD
  rw [whole, ← warnAt, ← critAt, ← hot]
  have warned : bitAt c.gauge.thermal 0 = bitAt a.gauge.thermal 0 := otherC.trans otherB
  refine ⟨sensorsD.trans (sensorsC.trans (sensorsB.trans sensorsA)), fun above => ?_, fun above => ?_, fun under => ?_, fun under => ?_⟩
  · rw [leftD (by omega), warned]
    by_cases was : bitAt s.gauge.thermal 0 = true
    · rw [leftA (fun both => both.1 was), was]
    · exact setA ⟨was, above⟩
  · rw [otherD, leftC (by omega)]
    by_cases was : bitAt a.gauge.thermal 1 = true
    · rw [leftB (fun both => both.1 was), was]
    · exact setB ⟨was, above⟩
  · by_cases was : bitAt c.gauge.thermal 0 = true
    · exact setD ⟨was, under⟩
    · rw [leftD (fun both => was both.1)]
      exact Bool.eq_false_iff.mpr was
  · rw [otherD]
    by_cases was : bitAt b.gauge.thermal 1 = true
    · exact setC ⟨was, under⟩
    · rw [leftC (fun both => was both.1)]
      exact Bool.eq_false_iff.mpr was

theorem sensorUpdate_takes {s u : State} {values : List Int} (on : s.dev.base ≠ .off) (free : s.dev.base ≠ .held) (all : values.length = 49)
    (set : u = { s with gauge := { s.gauge with sensors := (List.range 49).map (fun k => (k, signed 32 (unsigned 32 (values.getD k 0)))) } }) :
    Completes (.sensorUpdate values) s (fun t => t.gauge.sensors = u.gauge.sensors ∧
      ((256 * hwField s 0x007 7 0 : Nat) < (hottest u).2 → bitAt t.gauge.thermal 0 = true) ∧
      ((256 * hwField s 0x007 15 8 : Nat) < (hottest u).2 → bitAt t.gauge.thermal 1 = true) ∧
      ((hottest u).2 ≤ (256 * hwField s 0x007 7 0 : Nat) - 512 → bitAt t.gauge.thermal 0 = false) ∧
      ((hottest u).2 ≤ (256 * hwField s 0x007 15 8 : Nat) - 512 → bitAt t.gauge.thermal 1 = false)) := by
  have words : ∀ hi lo, hwField s 0x007 hi lo = hwField u 0x007 hi lo := fun hi lo => by rw [set]; rfl
  rw [words, words]
  refine completes_of (t := thermalCheck u) ?_ (thermalCheck_follows u)
  show execSensorUpdate values s = _
  unfold execSensorUpdate
  rw [if_neg (by simp only [not_or, ne_eq, not_not]; exact ⟨on, free, all⟩), ← set]

end

/-! Heartwood words (R617, R618). -/

section
variable (s : State)

theorem hwWord_hwSetAll_outside (ws : List Word) (s : State) {w x : Nat} (out : x < w ∨ w + ws.length ≤ x) :
    hwWord (hwSetAll s w ws) x = hwWord s x := by
  induction ws generalizing s w with
  | nil => rfl
  | cons v ws ih =>
    rw [List.length_cons] at out
    rw [hwSetAll, ih _ (by omega), hwWord_hwSet_ne _ _ (by omega)]

theorem hwWord_hwJournal_outside (w : Nat) (ws : List Word) {x : Nat} (out : x < w ∨ w + ws.length ≤ x) (apart : x < 0x200 ∨ 0x202 + ws.length ≤ x) :
    hwWord (hwJournal s w ws) x = hwWord s x := by
  unfold hwJournal
  dsimp only
  rw [hwWord_hwSet_ne _ _ (by omega), hwWord_hwSetAll_outside _ _ out, hwWord_hwSet_ne _ _ (by omega), hwWord_hwSet_ne _ _ (by omega),
    hwWord_hwSetAll_outside _ _ (by omega)]

theorem hwJournal_blank {w b : Nat} (log : w < 0x200) (within : b ≤ w ∧ w < b + 32) : hwWord (hwJournal s b (List.replicate 32 0)) w = 0 := by
  obtain ⟨i, rfl⟩ := Nat.exists_eq_add_of_le within.1
  have below : i < (List.replicate 32 (0 : Word)).length := by rw [List.length_replicate]; omega
  rw [hwWord_hwJournal s b i _ below (by omega), List.getElem_replicate, show ((0 : Word).toNat) = 0 from rfl, Nat.zero_and]
  rfl

/-- The summary words of the error log, cleared in four groups. -/
theorem hwJournal_blanks {w : Nat} (low : 0x180 ≤ w) (high : w ≤ 0x1FF) :
    hwWord ([0x180, 0x1A0, 0x1C0, 0x1E0].foldl (fun s b => hwJournal s b (List.replicate 32 0)) s) w = 0 := by
  refine foldl_reaches (m := w / 32 * 32) (q := fun _ => True) (p := fun u => hwWord u w = 0) (fun u _ => hwJournal_blank u (by omega) (by omega))
    (fun _ _ _ => trivial) (fun u b _ zero => ?_) _ s trivial (.inl ?_)
  · by_cases within : b ≤ w ∧ w < b + 32
    · exact hwJournal_blank u (by omega) within
    · rw [hwWord_hwJournal_outside u b _ (by rw [List.length_replicate]; omega) (by omega), zero]
  · simp only [List.mem_cons, List.not_mem_nil, or_false]
    omega

end

theorem gauErrlogClear_clears : AnswersOk .gauErrlogClear 0x0A21 (fun _ _ _ => True) (fun s _ _ => toLe 4 s.gauge.errlog.length)
    (fun s t ch req => t.gauge.errlog = [] ∧ t.gauge.nextSeq = s.gauge.nextSeq ∧
      (bitAt (byteAt req 0) 0 = true → ∀ w, 0x180 ≤ w → w ≤ 0x1FF → hwWord t w = 0) ∧
      (bitAt (byteAt req 0) 0 = false → t.hw = s.hw) ∧ AnswerFrame [.hw] s t ch) := by
  refine answersOk_set (row := fun s ch seq => (rfl : execGauErrlogClear ch seq s = _)) (fun s ch seq req _ => ?_)
  obtain ⟨u, empty⟩ : ∃ u : State, u = { s with gauge := { s.gauge with errlog := [] } } := ⟨_, rfl⟩
  obtain ⟨v, cleared⟩ : ∃ v : State, v = if bitAt (byteAt req 0) 0 = true then
      [0x180, 0x1A0, 0x1C0, 0x1E0].foldl (fun s w => hwJournal s w (List.replicate 32 0)) u else u := ⟨_, rfl⟩
  have kept : Keeps [.hw] u v := by
    rw [cleared]
    exact .ite (.foldl .refl (fun u w => hwJournal_keeps u w _)) .refl
  have log := answer_logKept v ch seq rcOk (toLe 4 s.gauge.errlog.length)
  have gauge : v.gauge = u.gauge := kept.same .gauge
  obtain ⟨parts, chans, regs⟩ := answer_frame_quiet ch seq rcOk (toLe 4 s.gauge.errlog.length)
    (((empty ▸ .of_patch rfl : ChangesOnly [.gauge] s u).trans kept.frame).mono (by decide) : ChangesOnly [.gauge, .hw] s v) (by decide) (by decide)
  refine ⟨v, by rw [cleared, empty], (kept.same .mbx).trans (by rw [empty]), ?_, ?_, fun all w low high => ?_, fun some_ => ?_,
    parts.mono (by decide), chans, regs⟩
  · rw [log.errlog, gauge, empty]
  · rw [log.nextSeq, gauge, empty]
  · rw [hwWord_answer, cleared, if_pos all]
    exact hwJournal_blanks u low high
  · rw [answer_hw, cleared, if_neg (by rw [some_]; exact Bool.false_ne_true), empty]

theorem hwdWrite_writes : AnswersOk .hwdWrite 0x0131 (fun _ _ req => 1 ≤ le req 2 2 ∧ le req 2 2 ≤ 56 ∧ le req 0 2 + le req 2 2 ≤ 1024 ∧
      (0x082 < le req 0 2 ∨ le req 0 2 + le req 2 2 ≤ 0x082) ∧
      ∀ i < le req 2 2, hwGuarded (le req 0 2 + i) = false ∧ hwIgnored (le req 0 2 + i) (le req (8 + 4 * i) 4) = false) (fun _ _ _ => [])
    (fun s t ch req => (∀ i < le req 2 2, hwWord t (le req 0 2 + i) = BitVec.ofNat 32 (le req (8 + 4 * i) 4 &&& hwMask (le req 0 2 + i))) ∧
      (∀ w, (w < le req 0 2 ∨ le req 0 2 + le req 2 2 ≤ w) → (w < 0x200 ∨ 0x240 ≤ w) → hwWord t w = hwWord s w) ∧
      AnswerFrame [.hw] s t ch) := by
  refine answersOk_set (row := fun s ch seq => (rfl : execHwdWrite ch seq s = _)) (fun s ch seq req fits => ?_)
  obtain ⟨some_, few, inside, apart, free⟩ := fits
  obtain ⟨ws, written⟩ : ∃ ws, ws = (List.range (le req 2 2)).map (fun i => BitVec.ofNat 32 (le req (8 + 4 * i) 4)) := ⟨_, rfl⟩
  have size : ws.length = le req 2 2 := by rw [written, List.length_map, List.length_range]
  have open_ : (List.range (le req 2 2)).any (fun i => hwGuarded (le req 0 2 + i)) = false :=
    List.any_eq_false.mpr (fun i below => Bool.eq_false_iff.mp (free i (List.mem_range.mp below)).1)
  have taken : (List.range (le req 2 2)).any (fun i => hwIgnored (le req 0 2 + i) (le req (8 + 4 * i) 4)) = false :=
    List.any_eq_false.mpr (fun i below => Bool.eq_false_iff.mp (free i (List.mem_range.mp below)).2)
  obtain ⟨parts, chans, regs⟩ := answer_frame_quiet ch seq rcOk [] (hwJournal_keeps s (le req 0 2) ws).frame (by decide) (by decide)
  refine ⟨hwJournal s (le req 0 2) ws, ?_, (hwJournal_keeps _ _ _).same .mbx, fun i below => ?_, fun w out journal => ?_, parts.mono (by decide), chans, regs⟩
  · dsimp only
    rw [if_neg (by omega), open_, taken, if_neg Bool.false_ne_true, if_neg Bool.false_ne_true, if_neg (by omega), written]
  · have header : le req 0 2 + i ≠ 0x200 := fun same => by
      have := (free i below).1
      rw [same] at this
      exact absurd this (by decide)
    rw [hwWord_answer, hwWord_hwJournal s _ i ws (by omega) header]
    simp only [written, List.getElem_map, List.getElem_range, BitVec.toNat_ofNat]
    rw [Nat.mod_eq_of_lt (show le req (8 + 4 * i) 4 < 2 ^ 32 from le_lt req _ 4)]
  · rw [hwWord_answer, hwWord_hwJournal_outside s _ ws (by omega) (by omega)]

theorem hwdWrite_refuses {s : State} {ch seq : Nat} {req : Bytes} (begun : Begun s ch seq 0x0131 req) (some_ : 1 ≤ le req 2 2) (few : le req 2 2 ≤ 56)
    (inside : le req 0 2 + le req 2 2 ≤ 1024) (guarded : hwGuarded (le req 0 2) = true) :
    Completes (.hwdWrite ch seq) s (fun t => Answered t ch seq rcNotPermitted [] ∧ AnswerFrame [] s t ch) := by
  refine completes_command begun (rfl : execHwdWrite ch seq s = _) ?_
  dsimp only
  rw [if_neg (by omega), if_pos (List.any_eq_true.mpr ⟨0, List.mem_range.mpr some_, guarded⟩)]
  exact ⟨answer_answered _ _ begun.unanswered, answer_frame _ _ _ _ _⟩

/-- Settles O60, one lemma for each command that changes something; the queries only read. -/
theorem errorLogSensorsAndWordsAreReadAndWritten : Obligations.ErrorLogSensorsAndWordsAreReadAndWritten := by
  unfold Obligations.ErrorLogSensorsAndWordsAreReadAndWritten
  refine ⟨fun s code w found => errlogWindowClose_closes found, fun s values u on free all set => sensorUpdate_takes on free all set,
    answersOk_query (fun s ch seq => (rfl : execGauErrlogRead ch seq s = _)) (fun s ch seq req fits => ?_),
    answersOk_query (fun s ch seq => (rfl : execGauErrlogRead ch seq s = _)) (fun s ch seq req fits => ?_),
    gauErrlogClear_clears,
    answersOk_query (fun s ch seq => (rfl : execGauErrlogQuery ch seq s = _)) (fun s ch seq req fits => ?_),
    answersOk_query (fun s ch seq => (rfl : execGauSensorRead ch seq s = _)) (fun s ch seq req fits => rfl),
    answersOk_query (fun s ch seq => (rfl : execGauDevRead ch seq s = _)) (fun s ch seq req fits => ?_),
    answersOk_query (fun s ch seq => (rfl : execHwdRead ch seq s = _)) (fun s ch seq req fits => if_neg (by omega)),
    hwdWrite_writes, fun s ch seq req begun some_ few inside guarded => hwdWrite_refuses begun some_ few inside guarded⟩
  · obtain ⟨entries, some_, few⟩ := fits
    dsimp only
    rw [entries, if_neg (by rw [if_neg Bool.false_ne_true]; omega), if_neg Bool.false_ne_true]
  · obtain ⟨summary, some_, few⟩ := fits
    dsimp only
    rw [summary, if_neg (by rw [if_pos rfl]; omega), if_pos rfl]
  · dsimp only
    cases s.gauge.errlog with
    | nil => rfl
    | cons e log => rfl
  · obtain ⟨memory, some_, few, whole, mapped⟩ := fits
    dsimp only
    rw [if_neg (by omega), if_pos memory, if_pos mapped]

end Sys2Proof.Machine

end
